-- ==== Sys2Proof/Word.lean ====
section
/-! DEFINITION. The machine's words. R5: a word is 32 bits. -/

namespace Sys2Proof

/-- An 8-bit byte. -/
abbrev Byte := BitVec 8

/-- A 32-bit word (R5). -/
abbrev Word := BitVec 32

end Sys2Proof
end

