-- ==== Sys2Proof/Syntax.lean ====
section
/-! DEFINITION. The commands of the device: one constructor for every row of the opcode table, with its operands. -/
namespace Sys2Proof

/-- A Furrow word in the register form (R337) with FUNC fixed by its mnemonic or given beside it: the core that issues it
(0 to 3 Furrow-F, 4 the sentry core, 5 the Scarecrow), E, RD, RS1, RS2. -/
structure RForm where
  c : Fin 6
  e : Bool
  rd : BitVec 5
  rs1 : BitVec 5
  rs2 : BitVec 5
  deriving DecidableEq, Repr

/-- A Furrow word in the immediate form (R337): core, E, RD, RS1, IMM13. -/
structure IForm where
  c : Fin 6
  e : Bool
  rd : BitVec 5
  rs1 : BitVec 5
  imm : BitVec 13
  deriving DecidableEq, Repr

/-- A Furrow word in the branch form (R337): core, E, OFFS. -/
structure BForm where
  c : Fin 6
  e : Bool
  offs : BitVec 23
  deriving DecidableEq, Repr

/-- Who submits a commit or makes an access: the host, a partner's host through the tunnel, a Furrow core, the sentry core,
the Scarecrow, the start-up, the device itself, a hitless update (R363), the RETIRE action (R741). -/
inductive Origin where
  | host | tunnel (p : Nat) | core (c : Nat) | sentry | scarecrow | boot | device | swap | retire
  deriving DecidableEq, Repr

/-- The commands: events of the clock, the pins and the links, transactions of the host, what the sound path and its units
reach, the words that the Furrow cores issue. Each names its row of the table. -/
inductive Instr where
  /-- HSCK_LOSS (R55): No HSCK rising edge arrives within 16 WDO periods; the device freezes, or drives STOPA/STOPB static and trips, according to its state. -/
  | hsckLoss
  /-- HSCK_RETURN (R55): A whole WDO window passes without a gap; the stability check runs and the device resumes, or enters TRIPPED, according to its state. -/
  | hsckReturn
  /-- LONG_LOSS (R57): A loss of HSCK reaches 6000 WDO periods; the swath contents are marked invalid and GAP_LONG is set. -/
  | longLoss
  /-- WDO_WINDOW (R47): A window of 2048 WDO periods ends; HSCK is classified and the count is compared with the reference. -/
  | wdoWindow (count : Nat)
  /-- REFERENCE_TRACK (R50): Once a second the WDO reference moves towards the latest count by at most 1/256. -/
  | referenceTrack
  /-- MULTIPLIER_LOCK (R41): The core multiplier locks and the core domain is released. -/
  | multiplierLock
  /-- PLAN_RESUME (R52): After retraining, the device resumes with UNSETTLED outputs and STATE = RUN. -/
  | planResume
  /-- PLAN_FAIL (R53): Step 3 is not completed within 1 000 000 WDO periods; PLAN_FAIL is set and the device stays in HOLD. -/
  | planFail
  /-- LOCK_LOSS (R41): The multiplier loses lock with HSCK present outside a clock plan; the core domain is held and an armed device trips. -/
  | lockLoss
  /-- TICK (R78): HSP TICK transaction refreshes the View and has no other effect. -/
  | tick (addr : BitVec 24) (cnt : BitVec 16) (crc : BitVec 16)
  /-- WRITE (R88): HSP WRITE commits, stages, forwards or refuses its words at the end edge. -/
  | write (addr : BitVec 24) (cnt : BitVec 16) (data : List Word) (crc : BitVec 16)
  /-- READ (R92): HSP READ returns register words from the snapshot and applies RC side effects at the end edge. -/
  | read (addr : BitVec 24) (cnt : BitVec 16) (crc : BitVec 16)
  /-- STATUS (R78): HSP STATUS returns SYS_EPOCH, SYS_CMT, SYS_CMT_REASON and SYS_CMT_OBJ. -/
  | status (addr : BitVec 24) (cnt : BitVec 16) (crc : BitVec 16)
  /-- COMMIT_OPEN (R96): COMMIT OPEN empties and opens the staging set. -/
  | commitOpen (cnt : BitVec 16) (crc : BitVec 16)
  /-- COMMIT_APPLY (R96): COMMIT APPLY submits the staging set as one commit and closes it. -/
  | commitApply (cnt : BitVec 16) (crc : BitVec 16)
  /-- COMMIT_DISCARD (R96): COMMIT DISCARD closes the staging set without effect. -/
  | commitDiscard (cnt : BitVec 16) (crc : BitVec 16)
  /-- ZEROIZE (R81): HSP ZEROIZE starts zeroizing the swath, the short swath or both. -/
  | zeroize (addr : BitVec 24) (cnt : BitVec 16) (crc : BitVec 16)
  /-- WINDOW_READ (R94): HSP WINDOW-READ returns load-window or history contents live, under one mitten decision. -/
  | windowRead (addr : BitVec 24) (cnt : BitVec 16) (crc : BitVec 16)
  /-- RESET_MODE (R80): Opcode 0xFF returns the HSP to single mode. -/
  | resetMode
  /-- UNDEFINED_OPCODE (R83): A transaction with an undefined opcode receives OPCODE or CRC and has no effect. -/
  | undefinedOpcode (op : BitVec 8) (addr : BitVec 24) (cnt : BitVec 16) (crc : BitVec 16)
  /-- TRUNCATED_TRANSACTION (R83): An end edge before the last host CRC cycle, or a read ending early, gives LENGTH and no effect. -/
  | truncatedTransaction
  /-- TUNNEL_TIMEOUT (R103): No reply arrives within 20 ms and SYS_TUNST.STATE becomes TIMEOUT. -/
  | tunnelTimeout
  /-- ADMISSION_DECISION (R88): The admission controller accepts or refuses a commit as a whole, within 100 µs. -/
  | admissionDecision
  /-- REGISTER_WRITE (R88): A committed write of register fields that have no row of their own takes effect. -/
  | registerWrite (o : Origin) (a : BitVec 24) (w : Word)
  /-- RST_ASSERT (R124): RST# assertion puts the device in OFF within 1 µs. -/
  | rstAssert (short : Bool)
  /-- SUPPLY_LOSS (R125): A supply leaves its range; the device enters OFF and records the rail. -/
  | supplyLoss (v : Fin 7) (lost : Bool)
  /-- SUPPLY_GOOD (R125): A supply returns good; start-up begins once the conditions of R124 hold. -/
  | supplyGood (v : Fin 7) (devid : Fin 4) (clksrc : Bool) (test0 : Bool) (io33 : Bool)
  /-- RST_RELEASE (R126): RST# release samples the straps and starts start-up or test mode. -/
  | rstRelease (devid : Fin 4) (clksrc : Bool) (test0 : Bool) (io33 : Bool) (met : Bool)
  /-- SELF_TEST_PHASE_A_END (R126): Self-test phase A of the sentry domain completes. -/
  | selfTestPhaseAEnd (pass : Bool)
  /-- SELF_TEST_PHASE_B_END (R126): Self-test phase B of the core domain completes, immediately or deferred. -/
  | selfTestPhaseBEnd (fail : Bool) (rows : List (Fin 32768)) (cores : BitVec 4) (sectors : List (Fin 512))
  /-- NVM_MOUNT (R126): The NVM store is mounted and the boot record is read. -/
  | nvmMount (copies : Fin 3)
  /-- SENTRY_IMAGE_LOAD_END (R126): The sentry image is loaded and its signature checked. -/
  | sentryImageLoadEnd
  /-- IMAGE_LOAD_END (R362): The Furrow-F images, Scarecrow program, seeds and calibration values are loaded and verified. -/
  | imageLoadEnd
  /-- MIC_GROUP_POWER_UP (R136): The next enabled microphone group's MICPWR asserts, staggered or together. -/
  | micGroupPowerUp
  /-- BOOT_CONFIG_COMMIT (R126): The boot configuration is committed and WATCH is entered. -/
  | bootConfigCommit
  /-- STATE_REQUEST (R117): A write of PWR_REQ.TARGET requests a state transition. -/
  | stateRequest (o : Origin) (target : Fin 6)
  /-- TRANSITION_COMPLETE (R118): The target state of a transition is entered. -/
  | transitionComplete
  /-- TSU_END (R137): A group's microphone start-up interval ends and its samples stop carrying UNSETTLED. -/
  | tsuEnd (g : Fin 4)
  /-- TMC_END (R137): A mode-change interval ends for a microphone. -/
  | tmcEnd (p : Fin 32)
  /-- POWER_CYCLE (R158): A write of MIC_PWRCTL.CYCLE powers a group off. -/
  | powerCycle (g : Fin 4)
  /-- POWER_CYCLE_OFF_END (R158): TOFF expires, MICPWR reasserts and the latched faults clear. -/
  | powerCycleOffEnd (g : Fin 4)
  /-- STUCK_AT (R177): 256 consecutive equal bits on an input give a stuck event. -/
  | stuckAt (p : Fin 32) (v : Bool)
  /-- DENSITY_EVENT (R177): A density window ends with its ones outside DLO to DHI. -/
  | densityEvent (p : Fin 32) (n : BitVec 16)
  /-- NEIGHBOUR_EVENT (R177): An input's floor departs from its neighbours' median for 1.5 s. -/
  | neighbourEvent (p : Fin 32)
  /-- SUSPECT_CLEAR (R178): A window W passes with no further event and SUSPECT returns to OK. -/
  | suspectClear (p : Fin 32)
  /-- PARTNER_DEAF_CHECK (R180): A 10 ms partner comparison updates the run counter and sets SENTRY_DEAF at 50. -/
  | partnerDeafCheck
  /-- LATCH_CLR (R178): A write of LATCH_CLR clears FAULT or DEVIANT and starts TMC. -/
  | latchClr (p : Fin 32)
  /-- SENTRY_IN_CHANGE (R162): A change of SENTRY_IN moves the sentry stream to a new input. -/
  | sentryInChange (p : Fin 32)
  /-- MAP_CHANGE (R166): A channel map change takes effect at the next output boundary, as a fade or a cut. -/
  | mapChange (n : Fin 32)
  /-- CAL_START (R175): MIC_CALCTL.START begins a calibration measurement, or is refused. -/
  | calStart
  /-- CAL_TARGET_END (R175): A target's measurement window ends and RATIO, LAG and QUAL are written. -/
  | calTargetEnd
  /-- CAL_SAVE (R174): MIC_CALCTL.SAVE writes the 32 calibration sets to NVM. -/
  | calSave
  /-- CAL_LOAD (R174): MIC_CALCTL.LOAD reloads the calibration sets from NVM. -/
  | calLoad
  /-- FINE_CHAIN_OUTPUT (R197): A fine chain forms its output sample at its output boundary. -/
  | fineChainOutput (n : Fin 32) (bs : List (Fin 16 × List (Bool × Bool))) (differs : Bool)
  /-- GLANCE_OUTPUT (R203): A glance filter produces a 16 kHz sample. -/
  | glanceOutput (n : Fin 32) (bs : List (Fin 16 × List (Bool × Bool))) (differs : Bool)
  /-- SENTRY_DECIMATOR_OUTPUT (R207): The sentry decimator produces a 16 kHz sample. -/
  | sentryDecimatorOutput (bs : List Bool) (differs : Bool)
  /-- BANK_SWAP (R200): A coefficient cross-fade starts at the chain's next output boundary. -/
  | bankSwap (n : Fin 32)
  /-- CALIBRATION_CHANGE (R196): A new calibration set is primed from the raw ring and its fade starts at the boundary. -/
  | calibrationChange (p : Fin 32)
  /-- ROUTE_CHANGE (R214): A route change takes effect at the destination's boundary, as a fade or a cut. -/
  | routeChange (d : Fin 148)
  /-- FADE_COMPLETE (R201): A fade reaches L samples; the old instance stops and source 23 rises. -/
  | fadeComplete (route : Bool) (k : Fin 148)
  /-- SYNC_PIN_EDGE (R209): A qualified SYNC pin low-to-high sequence schedules a sync edge. -/
  | syncPinEdge
  /-- SYNC_NOW (R209): A write of FLT_SYNC.NOW acts as a pin edge. -/
  | syncNow
  /-- SYNC_ACT (R208): At the sync edge, phase counters and decimators restart. -/
  | syncAct
  /-- SAD_FRAME (R225): A SAD completes a 10 ms frame and computes its level. -/
  | sadFrame (u : Fin 2)
  /-- SEEDING_END (R229): 150 non-excluded frames end seeding; FLOOR_SEEDED_LOUD may be set. -/
  | seedingEnd (u : Fin 2)
  /-- SUSTAINED (R231): Activity lasting MAXEV seconds is ended and SUSTAINED is set. -/
  | sustained (u : Fin 2)
  /-- FLOOR_RAIL (R232): The floor at a limit for 150 frames sets RAIL_HI or RAIL_LO. -/
  | floorRail (u : Fin 2)
  /-- RESEED (R229): A write of RESEED starts seeding afresh. -/
  | reseed (u : Fin 2)
  /-- WAKEIN_DEBOUNCE (R239): WAKEIN# asserted for 8 ms gives a qualified wake. -/
  | wakeinDebounce (mark : BitVec 64)
  /-- WAKEIN_RELEASE (R239): WAKEIN# deasserted for 8 ms re-enables the pin wake. -/
  | wakeinRelease
  /-- WAKE_CLEAR (R235): A W1C clear of ATT and QUAL deasserts HWAKE. -/
  | wakeClear (att : Bool) (qual : Bool) (more : Bool)
  /-- PREWAKE_TIMEOUT (R243): No qualified wake within TMO stands the pre-wake down. -/
  | prewakeTimeout
  /-- PREWAKE_GAP_END (R243): The pause of GAP ms after a stand-down ends. -/
  | prewakeGapEnd
  /-- PARTNER_PREWAKE_TIMEOUT (R244): 420 ms without WAKE or STAND-DOWN ends a partner's part of HPRE. -/
  | partnerPrewakeTimeout (p : Fin 4)
  /-- FEATURE_FRAME (R260): A Drill feature frame completes and its 40 features are computed and matched. -/
  | featureFrame (ins : BitVec 5) (late : Bool) (stopLate : Bool) (lanes : Option (List (Fin 64 × Fin 4 × BitVec 10)))
  /-- EVQ_POP (R269): A read of the DRL_EVQ window pops whole entries. -/
  | evqPop (n : BitVec 7)
  /-- INSTALL (R276): DRL_RECCTL INSTALL loads a record into its slot or slots. -/
  | install (slot : Fin 64)
  /-- SAVE (R276): DRL_RECCTL SAVE writes the record buffer to the store. -/
  | save (slot : Fin 64)
  /-- EXPORT (R277): DRL_RECCTL EXPORT copies a slot's record, or a piece of it, to the buffer. -/
  | recExport (slot : Fin 64)
  /-- ERASE (R276): DRL_RECCTL ERASE empties an unarmed slot. -/
  | erase (slot : Fin 64)
  /-- OPEN (R277): DRL_RECCTL OPEN opens a record stream. -/
  | recOpen (slot : Fin 64)
  /-- PUT (R277): DRL_RECCTL PUT appends CHUNK bytes to the stream. -/
  | put (slot : Fin 64)
  /-- CLOSE (R277): DRL_RECCTL CLOSE checks the streamed record and commits it. -/
  | close (slot : Fin 64)
  /-- RECORD_ACTION_DONE (R276): A record action completes; DONE sets and source 46 rises. -/
  | recordActionDone
  /-- SEED_VERIFY_DONE (R275): The Scarecrow completes the signature check of a stop-class record. -/
  | seedVerifyDone (k : Fin 64)
  /-- SLOT_ARM (R278): A write of ARM arms or disarms a slot. -/
  | slotArm (k : Fin 64) (b : Bool)
  /-- ENROLMENT_START (R279): DRL_ENR_CTL.START begins enrolment. -/
  | enrolmentStart (slot : Fin 64) (input : Fin 4) (count : Fin 32)
  /-- ENROLMENT_ABORT (R279): DRL_ENR_CTL.ABORT ends enrolment. -/
  | enrolmentAbort
  /-- ENROLMENT_BUILD (R280): The template is built and placed in the record buffer. -/
  | enrolmentBuild
  /-- ENROLMENT_TIMEOUT (R279): 60 s without an utterance ends enrolment with TIMEOUT. -/
  | enrolmentTimeout
  /-- SWATH_BLOCK_START (R297): A strip starts a new block, overwriting the oldest once FULL. -/
  | swathBlockStart (k : Nat)
  /-- SHORT_SWATH_BLOCK_START (R299): The short swath starts a new block. -/
  | shortSwathBlockStart
  /-- MITTEN_RELEASE (R309): A write of SWA_MITTEN.RELEASE closes the mitten. -/
  | mittenRelease (o : Origin)
  /-- MITTEN_IDLE_TIMEOUT (R309): No granted read for TMO seconds closes the mitten. -/
  | mittenIdleTimeout
  /-- UNLOAD_BLOCK_SEND (R314): The unload engine sends the next complete readable block. -/
  | unloadBlockSend (k : Nat)
  /-- UACK (R316): A write of SWA_STs_UACK acknowledges unloaded frames. -/
  | uack (k : Nat) (upTo : Nat)
  /-- ZSWATH (R318): SWA_ZCTL.ZSWATH starts a swath zeroize. -/
  | zswath
  /-- ZSHORT (R318): SWA_ZCTL.ZSHORT starts a short-swath zeroize. -/
  | zshort
  /-- ZEROIZE_SWEEP_DONE (R318): A zeroize sweep ends; ZDONE sets and source 54 rises. -/
  | zeroizeSweepDone (short : Bool)
  /-- PATROL_SCRUB (R303): The patrol scrub corrects a word and may flag its row. -/
  | patrolScrub (r : Fin 32768) (corrected : BitVec 8) (found : List (Fin 128) × List (Bool × Bool × Fin 4194304))
  /-- ROW_REPAIR (R304): A flagged row is remapped to a spare row. -/
  | rowRepair (r : Nat)
  /-- TASK_RELEASE (R356): A task is released by its queue, IRQ or period. -/
  | taskRelease (c : Fin 4) (t : Fin 16)
  /-- BUDGET_FAULT (R360): A job's cycle count exceeds BOUND. -/
  | budgetFault (c : Fin 4)
  /-- INIT_OVERRUN (R357): INIT runs for more than 10 ms, a budget fault of task 15. -/
  | initOverrun (c : Fin 4)
  /-- SENTRY_CORE_RESTART (R467): A faulted sentry core restarts through INIT 1 ms later. -/
  | sentryCoreRestart
  /-- STORE_DRAIN (R343): A store-buffer entry drains to its memory. -/
  | storeDrain (c : Fin 6)
  /-- LOAD_RETURN (R342): A long-latency load writes back through the return port. -/
  | loadReturn (c : Fin 6)
  /-- CORE_ECC_PATROL (R351): The ECC port patrol corrects a core memory word or flags DBE. -/
  | coreEccPatrol (c : Fin 6) (m : Fin 3) (a : Nat) (found : Bool × List (Fin 6 × Fin 3 × Bool × Nat))
  /-- CORE_RUN (R365): A write of FRW_COREc_CTL.RUN starts a core through INIT or halts it. -/
  | coreRun (c : Fin 4) (b : Bool)
  /-- CORE_STEP (R366): A STEP write issues one bundle on a halted core. -/
  | coreStep (c : Fin 4)
  /-- CORE_RETIRE (R741): A direct commit of RETIRE = 1 retires a core with no enabled task. -/
  | coreRetire (c : Fin 4)
  /-- SENTRY_CORE_RUN (R331): A write of FRW_SENT_CTL.RUN starts or stops the sentry core outside SENTRY. -/
  | sentryCoreRun (b : Bool)
  /-- SWAP_REQ (R363): FRW_SWAP.REQ starts a hitless update. -/
  | swapReq
  /-- SWAP_SWITCH (R363): At a task-frame boundary all cores switch to the new half. -/
  | swapSwitch
  /-- SWAP_TIMEOUT (R363): No task-frame boundary within 100 ms aborts the update. -/
  | swapTimeout
  /-- ADD (R378): rd = rs1 + rs2. -/
  | add (i : RForm)
  /-- SUB (R378): rd = rs1 − rs2. -/
  | sub (i : RForm)
  /-- AND (R378): Bitwise AND. -/
  | and (i : RForm)
  /-- OR (R378): Bitwise OR. -/
  | or (i : RForm)
  /-- XOR (R378): Bitwise XOR. -/
  | xor (i : RForm)
  /-- ANDN (R378): rs1 AND NOT rs2. -/
  | andn (i : RForm)
  /-- ORN (R378): rs1 OR NOT rs2. -/
  | orn (i : RForm)
  /-- SLL (R378): Shift left logical. -/
  | sll (i : RForm)
  /-- SRL (R378): Shift right logical. -/
  | srl (i : RForm)
  /-- SRA (R378): Shift right arithmetic. -/
  | sra (i : RForm)
  /-- ROR (R378): Rotate right. -/
  | ror (i : RForm)
  /-- SLT (R378): Set if signed less than. -/
  | slt (i : RForm)
  /-- SLTU (R378): Set if unsigned less than. -/
  | sltu (i : RForm)
  /-- MIN (R378): Signed minimum. -/
  | min (i : RForm)
  /-- MAX (R378): Signed maximum. -/
  | max (i : RForm)
  /-- MINU (R378): Unsigned minimum. -/
  | minu (i : RForm)
  /-- MAXU (R378): Unsigned maximum. -/
  | maxu (i : RForm)
  /-- ADDS (R379): Saturating signed add. -/
  | adds (i : RForm)
  /-- SUBS (R379): Saturating signed subtract. -/
  | subs (i : RForm)
  /-- ABS (R379): Saturating absolute value. -/
  | abs (i : RForm)
  /-- CLZ (R378): Count leading zeros. -/
  | clz (i : RForm)
  /-- CTZ (R378): Count trailing zeros. -/
  | ctz (i : RForm)
  /-- POPC (R378): Count one bits. -/
  | popc (i : RForm)
  /-- SEXTB (R378): Sign-extend a byte. -/
  | sextb (i : RForm)
  /-- SEXTH (R378): Sign-extend a halfword. -/
  | sexth (i : RForm)
  /-- ZEXTH (R378): Zero-extend a halfword. -/
  | zexth (i : RForm)
  /-- REV8 (R378): Reverse the bytes. -/
  | rev8 (i : RForm)
  /-- ADDI (R380): Add a sign-extended immediate. -/
  | addi (i : IForm)
  /-- ANDI (R380): AND with a zero-extended immediate. -/
  | andi (i : IForm)
  /-- ORI (R380): OR with a zero-extended immediate. -/
  | ori (i : IForm)
  /-- XORI (R380): XOR with a zero-extended immediate. -/
  | xori (i : IForm)
  /-- SHORI (R380): Shift left 13 and OR an immediate. -/
  | shori (i : IForm)
  /-- SLLI (R380): Shift left by an immediate. -/
  | slli (i : IForm)
  /-- SRLI (R380): Logical shift right by an immediate. -/
  | srli (i : IForm)
  /-- SRAI (R380): Arithmetic shift right by an immediate. -/
  | srai (i : IForm)
  /-- RORI (R380): Rotate right by an immediate. -/
  | rori (i : IForm)
  /-- SLTI (R380): Set if less than a signed immediate. -/
  | slti (i : IForm)
  /-- SLTIU (R380): Set if less than an unsigned immediate. -/
  | sltiu (i : IForm)
  /-- CMP_EQ (R382): Predicate = rs1 equals rs2. -/
  | cmpEq (i : RForm)
  /-- CMP_NE (R382): Predicate = rs1 differs from rs2. -/
  | cmpNe (i : RForm)
  /-- CMP_LT (R382): Predicate = rs1 signed less than rs2. -/
  | cmpLt (i : RForm)
  /-- CMP_GE (R382): Predicate = rs1 signed at least rs2. -/
  | cmpGe (i : RForm)
  /-- CMP_LTU (R382): Predicate = rs1 unsigned less than rs2. -/
  | cmpLtu (i : RForm)
  /-- CMP_GEU (R382): Predicate = rs1 unsigned at least rs2. -/
  | cmpGeu (i : RForm)
  /-- CMPI_EQ (R382): Compare equal to an immediate. -/
  | cmpiEq (i : IForm)
  /-- CMPI_NE (R382): Compare not equal to an immediate. -/
  | cmpiNe (i : IForm)
  /-- CMPI_LT (R382): Compare signed less than an immediate. -/
  | cmpiLt (i : IForm)
  /-- CMPI_GE (R382): Compare signed at least an immediate. -/
  | cmpiGe (i : IForm)
  /-- CMPI_LTU (R382): Compare unsigned less than an immediate. -/
  | cmpiLtu (i : IForm)
  /-- CMPI_GEU (R382): Compare unsigned at least an immediate. -/
  | cmpiGeu (i : IForm)
  /-- PAND (R383): Predicate AND. -/
  | pand (i : RForm)
  /-- POR (R383): Predicate OR. -/
  | por (i : RForm)
  /-- PXOR (R383): Predicate XOR. -/
  | pxor (i : RForm)
  /-- PANDN (R383): Predicate AND NOT. -/
  | pandn (i : RForm)
  /-- PORN (R383): Predicate OR NOT. -/
  | porn (i : RForm)
  /-- SEL (R384): Select rs1 or rs2 by a predicate. -/
  | sel (i : RForm) (func : BitVec 8)
  /-- MFP (R385): Move the predicates to a register. -/
  | mfp (i : RForm)
  /-- MTP (R385): Move a register to p1 to p7. -/
  | mtp (i : RForm)
  /-- BR (R386): Unconditional branch with a delay slot. -/
  | br (i : BForm)
  /-- CALL (R391): Call, writing s31. -/
  | call (i : BForm) (words : Fin 3) (slot : Fin 3)
  /-- JALR (R391): Register jump and link. -/
  | jalr (i : RForm) (func : BitVec 8) (words : Fin 3) (slot : Fin 3)
  /-- BZ (R386): Branch if zero. -/
  | bz (i : IForm)
  /-- BNZ (R386): Branch if not zero. -/
  | bnz (i : IForm)
  /-- BLTZ (R386): Branch if negative. -/
  | bltz (i : IForm)
  /-- BGEZ (R386): Branch if not negative. -/
  | bgez (i : IForm)
  /-- BGTZ (R386): Branch if positive. -/
  | bgtz (i : IForm)
  /-- BLEZ (R386): Branch if not positive. -/
  | blez (i : IForm)
  /-- BP (R386): Branch if the predicate is 1. -/
  | bp (i : IForm)
  /-- BNP (R386): Branch if the predicate is 0. -/
  | bnp (i : IForm)
  /-- LOOP (R394): Set up a hardware loop. -/
  | loop (i : IForm) (words : Fin 3)
  /-- MTLP (R398): Write a loop register. -/
  | mtlp (i : RForm) (func : BitVec 8)
  /-- MFLP (R398): Read a loop register. -/
  | mflp (i : RForm) (func : BitVec 8)
  /-- SMAC (R400): Furrow-S multiply-accumulate into ac0. -/
  | smac (i : RForm) (x : Bool) (y : Bool)
  /-- SMSU (R400): Furrow-S multiply-subtract from ac0. -/
  | smsu (i : RForm) (x : Bool) (y : Bool)
  /-- SCLR (R400): Clear ac0. -/
  | sclr (i : RForm)
  /-- SACX (R400): Narrow ac0 into a register. -/
  | sacx (i : RForm)
  /-- SACSET (R400): Set ac0 from a register. -/
  | sacset (i : RForm)
  /-- SETM (R405): Set FMODE, effective after the shadow bundle. -/
  | setm (i : RForm) (func : BitVec 8)
  /-- MTCR (R406): Write a control register. -/
  | mtcr (i : RForm) (func : BitVec 8)
  /-- MFCR (R406): Read a control register. -/
  | mfcr (i : RForm) (func : BitVec 8)
  /-- VADD (R420): Vector add. -/
  | vadd (i : RForm) (func : BitVec 8)
  /-- VSUB (R420): Vector subtract. -/
  | vsub (i : RForm) (func : BitVec 8)
  /-- VADDS (R420): Vector saturating add. -/
  | vadds (i : RForm) (func : BitVec 8)
  /-- VSUBS (R420): Vector saturating subtract. -/
  | vsubs (i : RForm) (func : BitVec 8)
  /-- VMIN (R420): Vector signed minimum. -/
  | vmin (i : RForm) (func : BitVec 8)
  /-- VMAX (R420): Vector signed maximum. -/
  | vmax (i : RForm) (func : BitVec 8)
  /-- VABS (R420): Vector absolute value. -/
  | vabs (i : RForm) (func : BitVec 8)
  /-- VAND (R420): 128-bit AND. -/
  | vand (i : RForm)
  /-- VOR (R420): 128-bit OR. -/
  | vor (i : RForm)
  /-- VXOR (R420): 128-bit XOR. -/
  | vxor (i : RForm)
  /-- VANDN (R420): 128-bit AND NOT. -/
  | vandn (i : RForm)
  /-- VSLL (R420): Vector shift left. -/
  | vsll (i : RForm) (func : BitVec 8)
  /-- VSRL (R420): Vector logical shift right. -/
  | vsrl (i : RForm) (func : BitVec 8)
  /-- VSRA (R420): Vector arithmetic shift right. -/
  | vsra (i : RForm) (func : BitVec 8)
  /-- VSRAR (R420): Vector rounding shift right. -/
  | vsrar (i : RForm) (func : BitVec 8)
  /-- VCMP_EQ (R420): Vector compare equal. -/
  | vcmpEq (i : RForm) (func : BitVec 8)
  /-- VCMP_LT (R420): Vector compare signed less than. -/
  | vcmpLt (i : RForm) (func : BitVec 8)
  /-- VCMP_LTU (R420): Vector compare unsigned less than. -/
  | vcmpLtu (i : RForm) (func : BitVec 8)
  /-- VCMP_LE (R420): Vector compare signed at most. -/
  | vcmpLe (i : RForm) (func : BitVec 8)
  /-- VBSL (R420): Bitwise select. -/
  | vbsl (i : RForm) (func : BitVec 8)
  /-- VANY (R420): Predicate = any bit set. -/
  | vany (i : RForm) (func : BitVec 8)
  /-- VALL (R420): Predicate = every lane non-zero. -/
  | vall (i : RForm) (func : BitVec 8)
  /-- VSPLAT (R420): Broadcast a scalar to all lanes. -/
  | vsplat (i : RForm) (func : BitVec 8)
  /-- VGET (R420): Extract a lane to a scalar. -/
  | vget (i : RForm) (func : BitVec 8)
  /-- VPUT (R420): Insert a scalar into a lane. -/
  | vput (i : RForm) (func : BitVec 8)
  /-- VSLIDE (R420): Slide lanes across two registers. -/
  | vslide (i : RForm) (func : BitVec 8)
  /-- VWIDE (R420): Widen 16-bit lanes to 32 bits. -/
  | vwide (i : RForm) (func : BitVec 8)
  /-- VNARR (R420): Narrow 32-bit lanes to 16 bits. -/
  | vnarr (i : RForm) (func : BitVec 8)
  /-- VMUL (R420): Vector multiply with narrowing. -/
  | vmul (i : RForm) (func : BitVec 8)
  /-- VMAC (R420): Vector multiply-accumulate. -/
  | vmac (i : RForm) (func : BitVec 8)
  /-- VMSU (R420): Vector multiply-subtract. -/
  | vmsu (i : RForm) (func : BitVec 8)
  /-- VMACS (R420): Vector multiply-accumulate by a scalar. -/
  | vmacs (i : RForm) (func : BitVec 8)
  /-- VCLR (R420): Clear an accumulator. -/
  | vclr (i : RForm) (func : BitVec 8)
  /-- VEXT (R420): Narrow an accumulator into a vector. -/
  | vext (i : RForm) (func : BitVec 8)
  /-- VACSET (R420): Set an accumulator from a vector. -/
  | vacset (i : RForm) (func : BitVec 8)
  /-- VACGET (R420): Read accumulator bits into a vector. -/
  | vacget (i : RForm) (func : BitVec 8)
  /-- VACPUT (R420): Restore an accumulator from two vectors. -/
  | vacput (i : RForm) (func : BitVec 8)
  /-- VACSUM (R420): Sum the accumulator lanes. -/
  | vacsum (i : RForm) (func : BitVec 8)
  /-- LDB (R424): Load a signed byte. -/
  | ldb (i : IForm)
  /-- LDBU (R424): Load an unsigned byte. -/
  | ldbu (i : IForm)
  /-- LDH (R424): Load a signed halfword. -/
  | ldh (i : IForm)
  /-- LDHU (R424): Load an unsigned halfword. -/
  | ldhu (i : IForm)
  /-- LDW (R424): Load a word; at a pop port, a pop. -/
  | ldw (i : IForm)
  /-- LDVL (R424): Load 8 bytes into the low half of a vector. -/
  | ldvl (i : IForm)
  /-- LDV (R424): Load 16 bytes into a vector. -/
  | ldv (i : IForm)
  /-- STB (R424): Store a byte. -/
  | stb (i : IForm)
  /-- STH (R424): Store a halfword. -/
  | sth (i : IForm)
  /-- STW (R424): Store a word; staged if the register word holds a checked field. -/
  | stw (i : IForm)
  /-- STVL (R424): Store 8 bytes. -/
  | stvl (i : IForm)
  /-- STV (R424): Store 16 bytes. -/
  | stv (i : IForm)
  /-- LD_P (R423): Load of any size with post-increment of the base. -/
  | ldP (z : Fin 7) (i : IForm)
  /-- ST_P (R423): Store of any size with post-increment of the base. -/
  | stP (z : Fin 5) (i : IForm)
  /-- LD_X (R423): Indexed load of any size. -/
  | ldX (func : BitVec 8) (i : RForm)
  /-- ST_X (R423): Indexed store of any size. -/
  | stX (func : BitVec 8) (i : RForm)
  /-- QPOP (R427): Pop one queue entry, waiting for it. -/
  | qpop (i : IForm)
  /-- QPOPV (R427): Pop four queue entries. -/
  | qpopv (i : IForm)
  /-- QPUSH (R427): Push one queue entry, waiting for credit. -/
  | qpush (i : IForm)
  /-- QPUSHV (R427): Push four queue entries. -/
  | qpushv (i : IForm)
  /-- QOCC (R427): Read a queue's occupancy. -/
  | qocc (i : IForm)
  /-- FENCE (R429): Drain the store buffer before later accesses. -/
  | fence (func : BitVec 8) (i : RForm)
  /-- COMMIT (R431): Submit the firmware staging set to admission. -/
  | commit (func : BitVec 8) (i : RForm)
  /-- BELL (R433): Raise doorbell source 120 + n after the drain. -/
  | bell (func : BitVec 8) (i : RForm)
  /-- TEND (R434): End the running job or INIT. -/
  | tend (func : BitVec 8) (i : RForm)
  /-- ERET (R459): Return from an exception, with replay if DS is set. -/
  | eret (func : BitVec 8) (i : RForm)
  /-- TRAP (R436): Raise the trap exception with code n. -/
  | trap (func : BitVec 8) (i : RForm)
  /-- HALT (R437): Halt the core where the state allows. -/
  | halt (func : BitVec 8) (i : RForm)
  /-- AMO_SWAP (R438): Atomic swap in the Common. -/
  | amoSwap (i : RForm)
  /-- AMO_ADD (R438): Atomic add. -/
  | amoAdd (i : RForm)
  /-- AMO_AND (R438): Atomic AND. -/
  | amoAnd (i : RForm)
  /-- AMO_OR (R438): Atomic OR. -/
  | amoOr (i : RForm)
  /-- AMO_MAXU (R438): Atomic unsigned maximum. -/
  | amoMaxu (i : RForm)
  /-- AMO_MINU (R438): Atomic unsigned minimum. -/
  | amoMinu (i : RForm)
  /-- AMO_CAS (R438): Atomic compare and swap. -/
  | amoCas (i : RForm)
  /-- ENTRY_ARRIVE (R488): A pushed entry leaves flight and becomes occupied. -/
  | entryArrive (n : Nat)
  /-- CREDIT_RETURN (R488): A returning credit is added to C. -/
  | creditReturn (n : Nat)
  /-- BQ_POP (R490): At a beam output boundary the crossbar pops an entry or counts an underrun. -/
  | bqPop (b : Fin 16)
  /-- HQ_POP (R495): A host read of an HQ pop window pops entries. -/
  | hqPop (h : Nat) (k : Nat)
  /-- AUDIT_FAULT (R493): A credit invariant violation sets AUDERR. -/
  | auditFault (n : Fin 72)
  /-- SOURCE_EDGE (R521): A rising edge of an interrupt source sets PEND or is coalesced. -/
  | sourceEdge (n : Nat)
  /-- DELIVERY (R524): At an HSCK edge a group delivers pending sources to targets. -/
  | delivery (g : Nat)
  /-- FALLOW_EXPIRE (R528): A group's Fallow timer reaches 0. -/
  | fallowExpire (g : Nat)
  /-- CLAIM (R529): A read of INT_CLAIMt by its owner claims the highest pending source. -/
  | claim (t : Nat)
  /-- PEND_CLEAR (R534): A W1C write of INT_PENDw clears pending bits. -/
  | pendClear (w : Nat) (v : Word)
  /-- INT_BELL (R535): A host write of INT_BELL rings doorbells. -/
  | intBell (v : BitVec 8)
  /-- CONVERSION_END (R545): An ADC slot ends with its result and the next conversion is chosen. -/
  | conversionEnd (x : Fin 2) (raw : BitVec 12)
  /-- TRIG (R553): ADC_x_CTL.TRIG starts or queues a scan in mode 2. -/
  | trig (x : Fin 2)
  /-- URGENT_REQUEST (R557): A Scarecrow urgent request aborts the running conversion and takes the next slot. -/
  | urgentRequest (x : Fin 2) (e : Fin 16)
  /-- SELF (R566): ADC_CAL.SELF starts self-calibration. -/
  | self
  /-- ZERO (R569): SYSCTL STEP ZERO measures U0. -/
  | zero (x : Fin 2) (e : Fin 16)
  /-- FULL (R569): SYSCTL STEP FULL measures U1. -/
  | full (x : Fin 2) (e : Fin 16)
  /-- COMPUTE (R569): SYSCTL STEP COMPUTE sets YOFF and YGAIN. -/
  | compute (x : Fin 2) (e : Fin 16)
  /-- LTAKE (R572): Ledgers move into the take registers at the next slot boundary. -/
  | ltake (x : Fin 2) (mask : BitVec 16)
  /-- ADC_QPOP (R574): A read of the ADC pop window pops whole entries. -/
  | adcQpop (x : Fin 2) (n : BitVec 7)
  /-- REFERENCE_CHANGE (R563): A change of SEL or REFEN aborts a conversion and restarts settling. -/
  | referenceChange (sel : Fin 3) (refen : Bool) (vnom : BitVec 12)
  /-- REFOK_SETTLE (R562): The reference is settled and in tolerance; REFOK sets. -/
  | refokSettle (good : Bool)
  /-- REFOK_LOSS (R564): REFOK falls and the conversion in progress is discarded. -/
  | refokLoss
  /-- THERMAL_READING (R589): The 1 ms temperature reading updates the warm and critical states. -/
  | thermalReading (n : Fin 4) (t : BitVec 12)
  /-- RAIL_OUT (R591): A rail outside its window for 4 samples is out. -/
  | railOut (v : Fin 8) (x0 : BitVec 16) (x1 : BitVec 16) (x2 : BitVec 16) (x3 : BitVec 16)
  /-- RAIL_IN (R591): A rail inside its window for 64 samples is in again. -/
  | railIn (v : Fin 8) (lo : BitVec 16) (hi : BitVec 16)
  /-- PM_GATE (R592): A process-monitor gate ends and the counts are checked. -/
  | pmGate (counts : List (BitVec 20))
  /-- PMBUS_TRANSACTION_END (R594): A PMBus transaction completes, or fails after its retries. -/
  | pmbusTransactionEnd (res : Fin 4) (w : BitVec 16)
  /-- STATUS_WORD_POLL (R593): A scheduled STATUS_WORD read starts. -/
  | statusWordPoll (sent : Bool)
  /-- SENTRY_AVS_EVAL (R595): The 1 ms sentry AVS evaluation steps VDDS. -/
  | sentryAvsEval (fails : BitVec 8) (margin : Bool)
  /-- CORE_AVS_EVAL (R596): The 1 ms core AVS evaluation steps VDDC. -/
  | coreAvsEval
  /-- MANUAL_VOLTAGE (R598): A commit of MAN = 1 in SERVICE commands VMAN. -/
  | manualVoltage (vman : BitVec 10)
  /-- PMERR_CLEAR (R594): Clearing PMERR reads STATUS_WORD at once. -/
  | pmerrClear
  /-- DETECT_END (R616): Training step DETECT ends with TS1 received. -/
  | detectEnd (x : Fin 2) (l0 : Bool) (l1 : Bool)
  /-- EQ_END (R616): Training step EQ ends after 131 072 characters. -/
  | eqEnd (x : Fin 2) (v0 : BitVec 4 × BitVec 8 × BitVec 6 × BitVec 6) (v1 : BitVec 4 × BitVec 8 × BitVec 6 × BitVec 6)
  /-- DESKEW_END (R616): Training step DESKEW aligns the lanes. -/
  | deskewEnd (x : Fin 2)
  /-- IDENT_END (R617): TS2 exchange completes and the lanes are agreed. -/
  | identEnd (x : Fin 2) (c3 : BitVec 4) (txLanes : BitVec 2) (lreq : BitVec 2) (keepState : Bool) (slots : BitVec 8 × BitVec 8 × BitVec 8 × BitVec 8)
  /-- RTT_END (R619): 16 echoes give ONEWAY, LAT and RTO, and the port enters UP. -/
  | rttEnd (x : Fin 2)
  /-- TRAINING_TIMEOUT (R616): A training step exceeds its maximum and the port returns to DETECT or WAIT. -/
  | trainingTimeout (x : Fin 2)
  /-- WAIT_END (R616): 250 ms in WAIT or CONFLICT end and DETECT restarts. -/
  | waitEnd (x : Fin 2)
  /-- RETRAIN (R631): HGx_CFG.RETRAIN starts a retrain with state. -/
  | retrain (x : Fin 2)
  /-- LANES_CHANGE (R636): A change of HGx_CFG.LANES degrades or retrains the link. -/
  | lanesChange (x : Fin 2) (old : BitVec 2)
  /-- DATA_FRAME (R625): A received DATA frame is checked, accepted in order or discarded. -/
  | dataFrame (x : Fin 2) (frame : List Byte) (e0 : Nat) (e1 : Nat) (abort : Bool)
  /-- STATUS_FRAME (R624): A received STATUS frame releases acknowledged frames, credits or lanes. -/
  | statusFrame (x : Fin 2) (frame : List Byte) (e0 : Nat) (e1 : Nat) (abort : Bool)
  /-- STATUS_SEND (R624): A STATUS frame falls due and is sent. -/
  | statusSend (x : Fin 2)
  /-- FRAME_TRANSMIT (R628): At a frame boundary the transmitter picks and sends its next item. -/
  | frameTransmit (x : Fin 2)
  /-- ALIGN_SEND (R614): An ALIGN is sent on every lane in use. -/
  | alignSend (x : Fin 2)
  /-- ALIGN_MISSED (R614): Two missed ALIGNs fail a lane. -/
  | alignMissed (x : Fin 2) (l : Fin 2)
  /-- PING (R618): A received PING is answered with ECHO after 64 characters. -/
  | ping (x : Fin 2) (i : BitVec 4)
  /-- ECHO (R618): A received ECHO gives a C_rt measurement. -/
  | echo (x : Fin 2) (i : BitVec 4) (crt : Nat)
  /-- LANEMODE (R629): A received LANEMODE switches the receiver to the remaining lane set. -/
  | lanemode (x : Fin 2) (set : BitVec 2)
  /-- LANE_FAIL (R629): A receive lane fails and the direction degrades to one lane. -/
  | laneFail (x : Fin 2) (l : Fin 2) (unlock : Bool) (errs : Nat)
  /-- RTO_EXPIRE (R626): The retry timeout expires and go-back-N retransmission starts. -/
  | rtoExpire (x : Fin 2)
  /-- STATUS_TIMEOUT (R632): 1 ms without a STATUS frame takes the link DOWN. -/
  | statusTimeout (x : Fin 2)
  /-- LINK_DOWN (R632): The link goes DOWN and resets. -/
  | linkDown (x : Fin 2)
  /-- EQ_ADAPT (R620): An equaliser element takes one adaptation step. -/
  | eqAdapt (x : Fin 2) (l : Fin 2) (e : Fin 4) (up : Bool)
  /-- ERROR_RATE_WINDOW (R640): An ERRWIN window ends and the error growth is compared with ERRLIM. -/
  | errorRateWindow (x : Fin 2) (e0 : Nat) (e1 : Nat)
  /-- REG_REQ (R649): A received REG-REQ segment; the last one runs the tunnelled transaction. -/
  | regReq (x : Fin 2)
  /-- REG_RSP (R102): A received REG-RSP segment is reassembled at the lead. -/
  | regRsp (x : Fin 2)
  /-- CLOCK_PLAN (R52): A received CLOCK-PLAN holds the partner and is acknowledged. -/
  | clockPlan (x : Fin 2)
  /-- PLAN_ACK (R52): A received PLAN-ACK at the lead. -/
  | planAck (x : Fin 2)
  /-- SYNC (R651): A received SYNC message sets the sync edge from COUNTDOWN and LAT. -/
  | sync (x : Fin 2)
  /-- WAKE (R240): A received WAKE message gives a qualified wake if permitted. -/
  | wake (x : Fin 2)
  /-- PREWAKE (R244): A received PREWAKE asserts HPRE for the partner. -/
  | prewake (x : Fin 2)
  /-- STAND_DOWN (R244): A received STAND-DOWN ends the partner's part of HPRE. -/
  | standDown (x : Fin 2)
  /-- TIME_MARK (R653): A received TIME-MARK is stored with the local frame. -/
  | timeMark (x : Fin 2) (same : Bool)
  /-- NOTICE (R669): A received NOTICE is placed in HG0_NRX. -/
  | notice (x : Fin 2)
  /-- KEY_HELLO (R655): A received KEY-HELLO starts session key derivation. -/
  | keyHello (x : Fin 2)
  /-- KEY_CONFIRM (R656): A received KEY-CONFIRM is verified and the port becomes KEYED. -/
  | keyConfirm (x : Fin 2)
  /-- TOPO (R667): A received TOPO updates the routes. -/
  | topo (x : Fin 2)
  /-- AUDIO (R664): A received AUDIO message is consumed or relayed. -/
  | audio (x : Fin 2)
  /-- BULK_SEG (R665): A received BULK-SEG message is consumed or relayed. -/
  | bulkSeg (x : Fin 2)
  /-- BULK_ACK (R662): A received BULK-ACK marks a block unloaded. -/
  | bulkAck (x : Fin 2)
  /-- BULK_READ (R663): A received BULK-READ is granted or refused by the mitten. -/
  | bulkRead (x : Fin 2)
  /-- NAK_DENIED (R663): A received NAK-DENIED ends a refused BULK-READ. -/
  | nakDenied (x : Fin 2)
  /-- SAFE_HB (R709): A received heartbeat PDU is checked by the Scarecrow. -/
  | safeHb (x : Fin 2)
  /-- SAFE_STOP (R692): A received SAFE-STOP from a stop source is confirmed. -/
  | safeStop (x : Fin 2)
  /-- QHOLD_END (R666): A FAULTY quarantine ends after QHOLD and DETECT starts. -/
  | qholdEnd (x : Fin 2)
  /-- RELEASE (R666): A host write of HGx_QCTL.RELEASE ends a quarantine. -/
  | release (x : Fin 2)
  /-- KEYING_TIMEOUT (R656): A port not KEYED within 10 ms of UP resets the link. -/
  | keyingTimeout (x : Fin 2)
  /-- REKEY (R658): HGx_SEC.REKEY, or a counter reaching 2^31, starts a rekey. -/
  | rekey (x : Fin 2)
  /-- TOPO_SEND (R667): TOPO is sent on a port change or every 100 ms. -/
  | topoSend
  /-- PARTIAL_TUNNEL_TIMEOUT (R673): An incomplete tunnelled transaction is discarded after 20 ms. -/
  | partialTunnelTimeout
  /-- NOTICE_SEND (R669): HG0_NTXCTL.SEND sends a NOTICE. -/
  | noticeSend
  /-- AUDIO_MESSAGE_SEND (R661): A stream's 64 samples are sent as an AUDIO message. -/
  | audioMessageSend (u : Fin 16)
  /-- BULK_RESEND (R662): No BULK-ACK within 100 ms resends from the oldest block. -/
  | bulkResend (k : Fin 8)
  /-- SCARECROW_CYCLE (R682): The 10 ms Scarecrow cycle counts events, checks partners and refreshes the run permit. -/
  | scarecrowCycle
  /-- CONFIRMATION_TIMEOUT (R691): No confirmation within 20 ms; the output stage clears the run permit. -/
  | confirmationTimeout
  /-- RUNTOK_WRITE (R687): A Scarecrow write of SAF_RUNTOK refreshes or clears the run permit. -/
  | runtokWrite (v : BitVec 16)
  /-- RUN_PERMIT_TIMEOUT (R687): No token write for 12 ms clears the run permit. -/
  | runPermitTimeout
  /-- READBACK_SAMPLE (R688): STOPFBA and STOPFBB are sampled and compared. -/
  | readbackSample (fba : Bool) (fbb : Bool) (wave : Bool)
  /-- LOCKSTEP_MISMATCH (R333): The Scarecrow comparator finds a mismatch. -/
  | lockstepMismatch
  /-- ARMING (R696): After an accepted REQ commit the Scarecrow arms, or refuses, within 600 ms. -/
  | arming (proof : Bool) (readback : Bool)
  /-- PROOF (R703): The 500 ms proof pattern runs on every armed stop slot. -/
  | proof (pass : Bool)
  /-- HEARTBEAT_TIMEOUT (R711): 24 ms without a partner heartbeat is an event of diagnostic 21. -/
  | heartbeatTimeout (p : Fin 4)
  /-- ACK_REQ (R707): A write of SAF_ACK.REQ starts the acknowledgement sequence. -/
  | ackReq
  /-- ACK_CHALLENGE (R707): The Scarecrow checks the conditions and posts a challenge or an error. -/
  | ackChallenge
  /-- ACK_RESP (R707): A write of SAF_ACK_RESP clears the latches and may leave TRIPPED. -/
  | ackResp (v : BitVec 16)
  /-- DISARM (R697): A write of SAF_ACK.DISARM disarms the safety function. -/
  | disarm
  /-- SCARECROW_RESTART (R708): The Scarecrow pair is reloaded, self-tested and restarted. -/
  | scarecrowRestart (pass : Bool)
  /-- ROWREP (R740): SVC action ROWREP remaps a swath row. -/
  | rowrep
  /-- RETIRE (R741): SVC action RETIRE builds a commit that moves a core's tasks. -/
  | retire
  /-- RETIRE_TAKES_EFFECT (R741): At a task-frame boundary the tasks move and the core is RETIRED. -/
  | retireTakesEffect
  /-- RETIRE_TIMEOUT (R741): No task-frame boundary within 100 ms ends RETIRE with timeout. -/
  | retireTimeout
  /-- UNRETIRE (R740): SVC action UNRETIRE removes a core from the repair map. -/
  | unretire
  /-- SECTRET (R740): SVC action SECTRET retires an NVM sector. -/
  | sectret
  /-- SAVEMAP (R740): SVC action SAVEMAP writes the microphone map record. -/
  | savemap
  /-- RELOAD_SC (R740): SVC action RELOAD_SC reloads the Scarecrow. -/
  | reloadSc
  /-- LOAD_SENTRY (R740): SVC action LOAD_SENTRY loads the active sentry image. -/
  | loadSentry
  /-- SERVICE_ACTION_DONE (R740): A service action ends; DONE sets and source 13 rises. -/
  | serviceActionDone
  /-- ERASE_SLOT (R737): NVM command ERASE_SLOT erases an image slot. -/
  | eraseSlot
  /-- PROGRAM (R737): NVM command PROGRAM writes a page of a slot. -/
  | program
  /-- VERIFY (R738): NVM command VERIFY checks an image and sets VALID. -/
  | verify
  /-- ACTIVATE (R738): NVM command ACTIVATE names a slot in the boot record. -/
  | activate
  /-- BOOTSAVE (R739): NVM command BOOTSAVE writes the boot record. -/
  | bootsave
  /-- PROVKEY (R736): NVM command PROVKEY installs FWKEY or SEEDKEY. -/
  | provkey
  /-- PROVLINK (R736): NVM command PROVLINK installs a link key. -/
  | provlink
  /-- RECWRITE (R730): NVM command RECWRITE writes a user record. -/
  | recwrite
  /-- RECDEL (R730): NVM command RECDEL writes a tombstone. -/
  | recdel
  /-- RECREAD (R730): NVM command RECREAD reads a user record into NVM_BUF. -/
  | recread
  /-- NVM_COMMAND_DONE (R737): An NVM command completes; DONE sets and source 9 rises. -/
  | nvmCommandDone (worn : Option (Fin 512))
  /-- RECLAIM (R732): The record layer reclaims the sector with the fewest live bytes. -/
  | reclaim
  /-- EXTEST (R788): JTAG instruction EXTEST. -/
  | extest
  /-- IDCODE (R788): JTAG instruction IDCODE. -/
  | idcode
  /-- SAMPLE_PRELOAD (R788): JTAG instruction SAMPLE/PRELOAD. -/
  | samplePreload
  /-- CLAMP (R788): JTAG instruction CLAMP. -/
  | clamp
  /-- HIGHZ (R788): JTAG instruction HIGHZ. -/
  | highz
  /-- BYPASS (R788): JTAG instruction BYPASS, also taken by every undefined code. -/
  | bypass
  /-- STARTUP_CONDITIONS_MET (R124): Start-up begins once RST# has been low long enough, every supply has been good for 1 ms and HSCK has run for 256 cycles, when these did not hold at release. -/
  | startupConditionsMet
  /-- SWATH_FRAME (R290): At each frame of f_S the swath writer writes one frame of every enabled strip's slots and advances SC and PROD. -/
  | swathFrame
  /-- CAL_NVM_ACTION_END (R174): A SAVE or LOAD of the microphone calibration sets through the NVM record layer completes, sets MIC_CALCTL.DONE or ERR and raises source 19. -/
  | calNvmActionEnd
  /-- SWAP_LOAD_END (R363): The verification and loading of the alternate image into the inactive halves ends, and the new task tables are submitted to admission or the update aborts. -/
  | swapLoadEnd
  /-- TEST_LOGIC_RESET (R788): In test mode an assertion of TRST# resets the test access port and selects IDCODE. -/
  | testLogicReset
  deriving DecidableEq, Repr

end Sys2Proof
end

