-- ==== Sys2Proof/Decode.lean ====
section
/-! DEFINITION. The words of the command table. The table gives its rows no bits, so no word spells a command: commands
come as data (DESIGN CHOICE, log 1). -/

namespace Sys2Proof

/-- The command that a word of the table spells: none, since no row has bits. -/
def decodeTableWord (_nbits _w : Nat) : Option Instr := none

end Sys2Proof
end

