-- ==== Sys2Proof/Machine/Bits.lean ====
section
/-! DEFINITION. Bit fields, signed readings, saturation and byte order: the number helpers that every unit shares. -/

namespace Sys2Proof.Machine

/-- Bits `lo` to `lo + w - 1` of a number (R6). -/
def bits (x lo w : Nat) : Nat := x / 2 ^ lo % 2 ^ w

/-- Bit `i` of a number. -/
def bit (x i : Nat) : Bool := x / 2 ^ i % 2 == 1

/-- A number with bits `lo` to `lo + w - 1` replaced by `v`. -/
def setBits (x lo w v : Nat) : Nat := x / 2 ^ (lo + w) * 2 ^ (lo + w) + v % 2 ^ w * 2 ^ lo + x % 2 ^ lo

/-- A number with bit `i` set. -/
def setBit (x i : Nat) (b : Bool) : Nat := setBits x i 1 (if b then 1 else 0)

/-- The two's-complement reading of the low `w` bits. -/
def toSigned (w x : Nat) : Int :=
  let y := x % 2 ^ w
  if y < 2 ^ (w - 1) then (y : Int) else (y : Int) - (2 ^ w : Nat)

/-- The low `w` bits of an integer's two's complement. -/
def ofSigned (w : Nat) (i : Int) : Nat := (i % ((2 ^ w : Nat) : Int)).toNat

/-- Saturation to a signed number of `w` bits. -/
def satS (w : Nat) (i : Int) : Int :=
  if i < -((2 ^ (w - 1) : Nat) : Int) then -((2 ^ (w - 1) : Nat) : Int)
  else if ((2 ^ (w - 1) : Nat) : Int) - 1 < i then ((2 ^ (w - 1) : Nat) : Int) - 1 else i

/-- Does an integer fit a signed number of `w` bits. -/
def fitsS (w : Nat) (i : Int) : Bool := satS w i == i

/-- Division rounding towards minus infinity. -/
def floorDiv (a b : Int) : Int := Int.fdiv a b

/-- Ceiling of a quotient of naturals. -/
def ceilDiv (a b : Nat) : Nat := (a + b - 1) / b

/-- `i / 2^k`, rounded to nearest with ties up: add half, then floor. -/
def roundShift (i : Int) (k : Nat) : Int :=
  if k = 0 then i else floorDiv (i + ((2 ^ (k - 1) : Nat) : Int)) ((2 ^ k : Nat) : Int)

/-- `n` clamped into `lo` to `hi`. -/
def clampI (lo hi i : Int) : Int := if i < lo then lo else if hi < i then hi else i

def b2n (b : Bool) : Nat := if b then 1 else 0

/-- Element `i` of a list, or a default. -/
def nth {α : Type} (l : List α) (i : Nat) (d : α) : α := (l[i]?).getD d

/-- The list with element `i` replaced, where it exists. -/
def setNth {α : Type} (l : List α) (i : Nat) (v : α) : List α := l.set i v

/-- `0, 1, …, n-1`. -/
def upto (n : Nat) : List Nat := List.range n

/-- The bit positions below `w` that are 1 in `x`, rising. -/
def ones (w x : Nat) : List Nat := (upto w).filter (fun i => bit x i)

/-- The number of bits that are 1 among the low `w`. -/
def popcount (w x : Nat) : Nat := (ones w x).length

/-- The sum of a list of integers. -/
def sumI (l : List Int) : Int := l.foldl (· + ·) 0

/-- The sum of a list of naturals. -/
def sumN (l : List Nat) : Nat := l.foldl (· + ·) 0

/-- The greatest of a list of naturals, 0 for none. -/
def maxN (l : List Nat) : Nat := l.foldl Nat.max 0

/-- The little-endian number of a list of bytes (R6). -/
def leOfBytes : List Nat → Nat
  | [] => 0
  | b :: t => b % 256 + 256 * leOfBytes t

/-- The `n` little-endian bytes of a number (R6). -/
def bytesOfLe : Nat → Nat → List Nat
  | 0, _ => []
  | n + 1, x => x % 256 :: bytesOfLe n (x / 256)

/-- The `n` big-endian bytes of a number. -/
def bytesOfBe (n x : Nat) : List Nat := (bytesOfLe n x).reverse

/-- The big-endian number of a list of bytes. -/
def beOfBytes (l : List Nat) : Nat := leOfBytes l.reverse

/-- Apply an update at each of a list of indices, in order. -/
def forEach {α σ : Type} (l : List α) (f : σ → α → σ) (s : σ) : σ := l.foldl f s

/-- A field's number inside a list padded or cut to a length. -/
def padTo {α : Type} (n : Nat) (d : α) (l : List α) : List α := (l ++ List.replicate (n - l.length) d).take n

/-- Is `x` within `1/d` of `r`: `|x - r| ≤ r / d`, exactly. -/
def within (x r d : Nat) : Bool := if x ≤ r then (r - x) * d ≤ r else (x - r) * d ≤ r

end Sys2Proof.Machine
end

