-- ==== Sys2Proof/Machine/Crypto.lean ====
section
/-! DEFINITION. The check codes and the cryptography of the published standards the spec names: CRC-16/CCITT (R73),
CRC-32 (R622), CRC-32C (R174, R295), AES-128 with CMAC (R642) and the counter-mode KDF (R655), SHA-256 and ECDSA on
P-256 (R274, R735). All on lists of bytes. -/

namespace Sys2Proof.Machine

/-! ## Cyclic redundancy checks -/

/-- One message bit of CRC-16/CCITT, most significant bit first (R73). -/
def crc16Step (crc : Nat) (b : Bool) : Nat :=
  let top := bit crc 15 != b
  let c := (crc * 2) % 65536
  if top then c ^^^ 0x1021 else c

/-- The bits of a byte, most significant first. -/
def bitsMsb (x : Nat) : List Bool := [bit x 7, bit x 6, bit x 5, bit x 4, bit x 3, bit x 2, bit x 1, bit x 0]

/-- The bits of a byte, least significant first. -/
def bitsLsb (x : Nat) : List Bool := (bitsMsb x).reverse

/-- CRC-16/CCITT over bytes in wire order: initial value 0xFFFF, no reflection, no final XOR (R73). -/
def crc16 (bytes : List Nat) : Nat := (bytes.flatMap bitsMsb).foldl crc16Step 0xFFFF

/-- One message bit of a reflected 32-bit CRC with the reflected polynomial `p`. -/
def crc32Step (p crc : Nat) (b : Bool) : Nat :=
  let low := bit crc 0 != b
  if low then (crc / 2) ^^^ p else crc / 2

/-- CRC-32, IEEE 802.3 (R622). -/
def crc32 (bytes : List Nat) : Nat := ((bytes.flatMap bitsLsb).foldl (crc32Step 0xEDB88320) 0xFFFFFFFF) ^^^ 0xFFFFFFFF

/-- CRC-32C, the Castagnoli polynomial. -/
def crc32c (bytes : List Nat) : Nat := ((bytes.flatMap bitsLsb).foldl (crc32Step 0x82F63B78) 0xFFFFFFFF) ^^^ 0xFFFFFFFF

/-! ## AES-128 -/

/-- The AES S-box, entry i in bits 8i + 7 to 8i. -/
def aesBox : Nat :=
  0x16bb54b00f2d99416842e6bf0d89a18cdf2855cee9871e9b948ed9691198f8e1 * 2 ^ 1792
  + 0x9e1dc186b95735610ef6034866b53e708a8bbd4b1f74dde8c6b4a61c2e2578ba * 2 ^ 1536
  + 0x08ae7a65eaf4566ca94ed58d6d37c8e779e4959162acd3c25c2406490a3a32e0 * 2 ^ 1280
  + 0xdb0b5ede14b8ee4688902a22dc4f816073195d643d7ea7c41744975fec130ccd * 2 ^ 1024
  + 0xd2f3ff1021dab6bcf5389d928f40a351a89f3c507f02f94585334d43fbaaefd0 * 2 ^ 768
  + 0xcf584c4a39becb6a5bb1fc20ed00d153842fe329b3d63b52a05a6e1b1a2c8309 * 2 ^ 512
  + 0x75b227ebe28012079a059618c323c7041531d871f1e5a534ccf73f362693fdb7 * 2 ^ 256
  + 0xc072a49cafa2d4adf04759fa7dc982ca76abd7fe2b670130c56f6bf27b777c63 * 2 ^ 0

def aesSub (x : Nat) : Nat := bits aesBox (8 * (x % 256)) 8

/-- Multiplication by x in GF(2^8). -/
def aesX (x : Nat) : Nat := if 128 ≤ x then ((2 * x) % 256) ^^^ 0x1B else 2 * x

def xorL (a b : List Nat) : List Nat := List.zipWith (fun x y => x ^^^ y) a b

/-- The next round key, 16 bytes in column order. -/
def aesNextKey (rcon : Nat) (k : List Nat) : List Nat :=
  let g (i : Nat) : Nat := nth k i 0
  let t := [aesSub (g 13) ^^^ rcon, aesSub (g 14), aesSub (g 15), aesSub (g 12)]
  let c0 := xorL (k.take 4) t
  let c1 := xorL ((k.drop 4).take 4) c0
  let c2 := xorL ((k.drop 8).take 4) c1
  let c3 := xorL ((k.drop 12).take 4) c2
  c0 ++ c1 ++ c2 ++ c3

/-- ShiftRows on a column-order state. -/
def aesRows (s : List Nat) : List Nat := (upto 16).map (fun i => nth s ((i + 4 * (i % 4)) % 16) 0)

/-- MixColumns on one column. -/
def aesMixCol (c : List Nat) : List Nat :=
  let g (i : Nat) : Nat := nth c (i % 4) 0
  (upto 4).map (fun i => aesX (g i) ^^^ (aesX (g (i + 1)) ^^^ g (i + 1)) ^^^ g (i + 2) ^^^ g (i + 3))

def aesMix (s : List Nat) : List Nat :=
  aesMixCol (s.take 4) ++ aesMixCol ((s.drop 4).take 4) ++ aesMixCol ((s.drop 8).take 4) ++ aesMixCol ((s.drop 12).take 4)

/-- The rounds of AES-128: the last one without MixColumns. -/
def aesRounds : List Nat → List Nat → List Nat → List Nat
  | [], _, s => s
  | [r], k, s => xorL (aesRows (s.map aesSub)) (aesNextKey r k)
  | r :: rs, k, s => aesRounds rs (aesNextKey r k) (xorL (aesMix (aesRows (s.map aesSub))) (aesNextKey r k))

/-- AES-128 of one block under a key, both 16 bytes. -/
def aes128 (key block : List Nat) : List Nat :=
  aesRounds [0x01, 0x02, 0x04, 0x08, 0x10, 0x20, 0x40, 0x80, 0x1B, 0x36] key (xorL block key)

/-! ## CMAC and the key derivation -/

/-- A CMAC subkey from the one before: a left shift, with the constant 0x87 where a bit falls out (SP 800-38B). -/
def cmacDouble (x : Nat) : Nat := if 2 ^ 127 ≤ x then ((2 * x) % 2 ^ 128) ^^^ 0x87 else 2 * x

/-- The chaining of CMAC over whole blocks but the last; `n` bounds the number of blocks. -/
def cmacChain (key : List Nat) : Nat → List Nat → List Nat → List Nat × List Nat
  | 0, x, m => (x, m)
  | n + 1, x, m => if m.length ≤ 16 then (x, m) else cmacChain key n (aes128 key (xorL x (m.take 16))) (m.drop 16)

/-- AES-128 CMAC, 16 bytes (NIST SP 800-38B). -/
def cmac (key msg : List Nat) : List Nat :=
  let l := beOfBytes (aes128 key (List.replicate 16 0))
  let k1 := cmacDouble l
  let k2 := cmacDouble k1
  let (x, last) := cmacChain key msg.length (List.replicate 16 0) msg
  let fin := if last.length = 16 then xorL last (bytesOfBe 16 k1)
    else xorL (padTo 16 0 (last ++ [0x80])) (bytesOfBe 16 k2)
  aes128 key (xorL x fin)

/-- The ASCII bytes of the label "HEDGEROW SESSION" (R655). -/
def kdfLabel : List Nat :=
  [0x48, 0x45, 0x44, 0x47, 0x45, 0x52, 0x4F, 0x57, 0x20, 0x53, 0x45, 0x53, 0x53, 0x49, 0x4F, 0x4E]

/-- Session key K(i) of the counter-mode KDF with both nonces (R655). -/
def sessionKey (linkKey nonceA nonceB : List Nat) (i : Nat) : Nat :=
  beOfBytes (cmac linkKey ([i] ++ kdfLabel ++ [0] ++ nonceA ++ nonceB ++ [0x01, 0x00]))

/-! ## SHA-256 -/

/-- The SHA-256 round constants, constant i in bits 32i + 31 to 32i. -/
def shaK : Nat :=
  0xc67178f2bef9a3f7a4506ceb90befffa8cc7020884c8781478a5636f748f82ee * 2 ^ 1792
  + 0x682e6ff35b9cca4f4ed8aa4a391c0cb334b0bcb52748774c1e376c0819a4c116 * 2 ^ 1536
  + 0x106aa070f40e3585d6990624d192e819c76c51a3c24b8b70a81a664ba2bfe8a1 * 2 ^ 1280
  + 0x92722c8581c2c92e766a0abb650a735453380d134d2c6dfc2e1b213827b70a85 * 2 ^ 1024
  + 0x1429296706ca6351d5a79147c6e00bf3bf597fc7b00327c8a831c66d983e5152 * 2 ^ 768
  + 0x76f988da5cb0a9dc4a7484aa2de92c6f240ca1cc0fc19dc6efbe4786e49b69c1 * 2 ^ 512
  + 0xc19bf1749bdc06a780deb1fe72be5d74550c7dc3243185be12835b01d807aa98 * 2 ^ 256
  + 0xab1c5ed5923f82a459f111f13956c25be9b5dba5b5c0fbcf71374491428a2f98 * 2 ^ 0

def ror32 (x n : Nat) : Nat := (x / 2 ^ n ||| x * 2 ^ (32 - n)) % 2 ^ 32

/-- Extend the message schedule, newest word first, by `n` words. -/
def shaExtend : Nat → List Nat → List Nat
  | 0, w => w
  | n + 1, w =>
    let g (i : Nat) : Nat := nth w (i - 1) 0
    let s0 := ror32 (g 15) 7 ^^^ ror32 (g 15) 18 ^^^ (g 15 / 2 ^ 3)
    let s1 := ror32 (g 2) 17 ^^^ ror32 (g 2) 19 ^^^ (g 2 / 2 ^ 10)
    shaExtend n ((g 16 + s0 + g 7 + s1) % 2 ^ 32 :: w)

/-- The eight working words. -/
structure ShaH where
  a : Nat
  b : Nat
  c : Nat
  d : Nat
  e : Nat
  f : Nat
  g : Nat
  h : Nat
  deriving DecidableEq, Repr

/-- One round with the schedule word and its constant. -/
def shaRound (s : ShaH) (wk : Nat × Nat) : ShaH :=
  let s1 := ror32 s.e 6 ^^^ ror32 s.e 11 ^^^ ror32 s.e 25
  let ch := (s.e &&& s.f) ^^^ ((0xFFFFFFFF - s.e) &&& s.g)
  let t1 := s.h + s1 + ch + wk.2 + wk.1
  let s0 := ror32 s.a 2 ^^^ ror32 s.a 13 ^^^ ror32 s.a 22
  let mj := (s.a &&& s.b) ^^^ (s.a &&& s.c) ^^^ (s.b &&& s.c)
  ⟨(t1 + s0 + mj) % 2 ^ 32, s.a, s.b, s.c, (s.d + t1) % 2 ^ 32, s.e, s.f, s.g⟩

/-- Big-endian 32-bit words of a list of bytes; `n` words. -/
def beWords : Nat → List Nat → List Nat
  | 0, _ => []
  | n + 1, l => beOfBytes (l.take 4) :: beWords n (l.drop 4)

/-- One 64-byte block. -/
def shaBlock (s : ShaH) (blk : List Nat) : ShaH :=
  let w := (shaExtend 48 (beWords 16 blk).reverse).reverse
  let t := (List.zip w ((upto 64).map (fun i => bits shaK (32 * i) 32))).foldl shaRound s
  ⟨(s.a + t.a) % 2 ^ 32, (s.b + t.b) % 2 ^ 32, (s.c + t.c) % 2 ^ 32, (s.d + t.d) % 2 ^ 32,
   (s.e + t.e) % 2 ^ 32, (s.f + t.f) % 2 ^ 32, (s.g + t.g) % 2 ^ 32, (s.h + t.h) % 2 ^ 32⟩

def shaBlocks : Nat → ShaH → List Nat → ShaH
  | 0, s, _ => s
  | n + 1, s, l => shaBlocks n (shaBlock s (l.take 64)) (l.drop 64)

/-- SHA-256 of a list of bytes, as a number. -/
def sha256 (msg : List Nat) : Nat :=
  let zeros := (119 - msg.length % 64) % 64
  let m := msg ++ [0x80] ++ List.replicate zeros 0 ++ bytesOfBe 8 (8 * msg.length)
  let r := shaBlocks (m.length / 64) ⟨0x6A09E667, 0xBB67AE85, 0x3C6EF372, 0xA54FF53A, 0x510E527F, 0x9B05688C, 0x1F83D9AB, 0x5BE0CD19⟩ m
  ((((((r.a * 2 ^ 32 + r.b) * 2 ^ 32 + r.c) * 2 ^ 32 + r.d) * 2 ^ 32 + r.e) * 2 ^ 32 + r.f) * 2 ^ 32 + r.g) * 2 ^ 32 + r.h

/-! ## ECDSA on P-256 -/

def p256P : Nat := 0xFFFFFFFF00000001000000000000000000000000FFFFFFFFFFFFFFFFFFFFFFFF
def p256N : Nat := 0xFFFFFFFF00000000FFFFFFFFFFFFFFFFBCE6FAADA7179E84F3B9CAC2FC632551
def p256B : Nat := 0x5AC635D8AA3A93E7B3EBBD55769886BC651D06B0CC53B0F63BCE3C3E27D2604B
def p256Gx : Nat := 0x6B17D1F2E12C4247F8BCE6E563A440F277037D812DEB33A0F4A13945D898C296
def p256Gy : Nat := 0x4FE342E2FE1A7F9B8EE7EB4A7C0F9E162BCE33576B315ECECBB6406837BF51F5

/-- `b ^ e` modulo `m`, over the lowest `n` bits of `e`, the highest first. -/
def powMod (m b e : Nat) : Nat → Nat
  | 0 => 1 % m
  | n + 1 => ((powMod m b (e / 2) n) ^ 2 * (if e % 2 = 1 then b else 1)) % m

/-- The inverse modulo a prime. -/
def invMod (m a : Nat) : Nat := powMod m (a % m) (m - 2) 256

/-- A point in Jacobian coordinates; Z = 0 is the point at infinity. -/
structure EcPoint where
  x : Nat
  y : Nat
  z : Nat
  deriving DecidableEq, Repr

/-- Subtraction modulo p. -/
def subP (a b : Nat) : Nat := (a + (p256P - b % p256P)) % p256P

/-- Doubling, with the curve coefficient a = −3. -/
def ecDouble (p : EcPoint) : EcPoint :=
  if p.z = 0 ∨ p.y = 0 then ⟨1, 1, 0⟩
  else
    let yy := p.y * p.y % p256P
    let sX := 4 * p.x * yy % p256P
    let zz := p.z * p.z % p256P
    let m := 3 * subP p.x zz * ((p.x + zz) % p256P) % p256P
    let x3 := subP (m * m) (2 * sX)
    ⟨x3, subP (m * subP sX x3) (8 * yy * yy), 2 * p.y * p.z % p256P⟩

/-- Addition. -/
def ecAdd (p q : EcPoint) : EcPoint :=
  if p.z = 0 then q else if q.z = 0 then p
  else
    let z1 := p.z * p.z % p256P
    let z2 := q.z * q.z % p256P
    let u1 := p.x * z2 % p256P
    let u2 := q.x * z1 % p256P
    let s1 := p.y * (z2 * q.z % p256P) % p256P
    let s2 := q.y * (z1 * p.z % p256P) % p256P
    if u1 = u2 then (if s1 = s2 then ecDouble p else ⟨1, 1, 0⟩)
    else
      let h := subP u2 u1
      let r := subP s2 s1
      let hh := h * h % p256P
      let hhh := h * hh % p256P
      let v := u1 * hh % p256P
      let x3 := subP (subP (r * r) hhh) (2 * v)
      ⟨x3, subP (r * subP v x3) (s1 * hhh), p.z * q.z % p256P * h % p256P⟩

/-- `k` times a point, over the lowest `n` bits of `k`. -/
def ecMul (p : EcPoint) (k : Nat) : Nat → EcPoint
  | 0 => ⟨1, 1, 0⟩
  | n + 1 =>
    let d := ecDouble (ecMul p (k / 2) n)
    if k % 2 = 1 then ecAdd d p else d

/-- Is (x, y) a point of the curve. -/
def onCurve (x y : Nat) : Bool :=
  decide (x < p256P) && decide (y < p256P) &&
  y * y % p256P == (x * x * x + (p256P - 3) * x + p256B) % p256P

/-- ECDSA verification of a 64-byte signature, r then s big-endian, over a message, with a 64-byte public key x then y
(R274). -/
def ecdsaOk (key sig msg : List Nat) : Bool :=
  let qx := beOfBytes (key.take 32)
  let qy := beOfBytes ((key.drop 32).take 32)
  let r := beOfBytes (sig.take 32)
  let t := beOfBytes ((sig.drop 32).take 32)
  if r = 0 ∨ p256N ≤ r ∨ t = 0 ∨ p256N ≤ t ∨ onCurve qx qy = false then false
  else
    let w := invMod p256N t
    let u1 := sha256 msg * w % p256N
    let u2 := r * w % p256N
    let q := ecAdd (ecMul ⟨p256Gx, p256Gy, 1⟩ u1 256) (ecMul ⟨qx, qy, 1⟩ u2 256)
    if q.z = 0 then false
    else
      let zi := invMod p256P q.z
      q.x * (zi * zi % p256P) % p256P % p256N == r

end Sys2Proof.Machine
end

