-- ==== Sys2Proof/Config.lean ====
section
/-! DEFINITION. What one part fixes and what the spec leaves open: constants without a body. Nothing in Lean can
evaluate them, and a claim that names one holds whatever its value is. -/

namespace Sys2Proof

/-- The free value drawn k-th: a value the spec says is undefined, or whose value it does not state. -/
opaque Config.freeValue : Nat → Nat

/-- The half-band ROM value j of the sentry decimator, a 24-bit word (R207: "held in ROM and readable"). -/
opaque Config.halfBand : Nat → BitVec 24

/-- The LAT of the links beyond the neighbour, summed, on the route of `n` links to member `p` by port `x`. R652 adds them
into the path latency and states no message that brings them here. -/
opaque Config.farLatency : Nat → Nat → Nat → Nat

/-- DRL_INn_GD, in units of 100 ns: the delay from microphone to Drill input of the source code `c` at f_P `f` and total
decimation `k` (R267 names it and states no formula). -/
opaque Config.groupDelay : Nat → Nat → Nat → Nat

/-- MON_CAVS_KRO: the production-trimmed ratio of ring to core frequency (R596). -/
opaque Config.trimKro : BitVec 16

/-- The Ovhesta safety key, held in the safety library ROM: x then y (R735). -/
opaque Config.safetyKey : BitVec 512

/-- The bytes of the Scarecrow's safety library ROM (R350): its content is not in the spec. -/
opaque Config.scareRom : Nat → BitVec 8

/-- The bytes that one write of an anchor copy programs (R728 states its content and not its length). -/
opaque Config.anchorBytes : Nat

end Sys2Proof
end

