-- ==== Sys2Proof/Machine/Fields.lean ====
section
/-! DEFINITION. The named registers and register fields of the eighteen register blocks, in the names of the spec's
register tables. `A.<REGISTER>` is a register's 24-bit HSP byte address, `F.<REGISTER>_<FIELD>` a field of it. The
lower-case letters of a name are its index, in the order of the arguments. For the port registers HGx, x is 0 or 1. For the converter registers ADC_x, x is 0 for A and 1 for B. -/

namespace Sys2Proof.Machine

/-- A register field: the address of its register, its lowest bit and its width (R11). -/
structure Fld where
  addr : Nat
  lo : Nat
  width : Nat
  deriving DecidableEq, Repr

/-! ## Addresses -/

/-! CLK, R66 -/
abbrev A.CLK_STAT : Nat := 0x010000
abbrev A.CLK_PLAN : Nat := 0x010004
abbrev A.CLK_PDM : Nat := 0x010008
abbrev A.CLK_FWD : Nat := 0x01000C
abbrev A.CLK_SUP : Nat := 0x010010
abbrev A.CLK_WDO : Nat := 0x010014
abbrev A.CLK_GAP_LO : Nat := 0x010018
abbrev A.CLK_GAP_HI : Nat := 0x01001C
/-! SYS, R112 -/
abbrev A.SYS_HSPCFG : Nat := 0x000100
abbrev A.SYS_EPOCH : Nat := 0x000104
abbrev A.SYS_HSPST : Nat := 0x000108
abbrev A.SYS_HSPERR : Nat := 0x00010C
abbrev A.SYS_CMT : Nat := 0x000110
abbrev A.SYS_CMT_REASON : Nat := 0x000114
abbrev A.SYS_CMT_OBJ : Nat := 0x000118
abbrev A.SYS_STAGE : Nat := 0x00011C
abbrev A.SYS_TUNST : Nat := 0x000120
abbrev A.SYS_TUNEPOCH : Nat := 0x000124
abbrev A.SYS_TUNLAST : Nat := 0x000128
abbrev A.SYS_RPLST : Nat := 0x00012C
/-! PWR, R150 -/
abbrev A.PWR_STATE : Nat := 0x020000
abbrev A.PWR_REQ : Nat := 0x020004
abbrev A.PWR_CFG : Nat := 0x020008
abbrev A.PWR_MICT : Nat := 0x02000C
abbrev A.PWR_BOOTST : Nat := 0x020010
abbrev A.PWR_BOOTT : Nat := 0x020014
abbrev A.PWR_TRANS_LO : Nat := 0x020018
abbrev A.PWR_TRANS_HI : Nat := 0x02001C
abbrev A.PWR_MICPWR : Nat := 0x020020
/-! SYS, R151 -/
abbrev A.SYS_ID : Nat := 0x000000
abbrev A.SYS_STRAP : Nat := 0x000004
abbrev A.SYS_RSTCAUSE : Nat := 0x000008
abbrev A.SYS_UPTIME_LO : Nat := 0x000010
abbrev A.SYS_UPTIME_HI : Nat := 0x000014
/-! MIC, R187 -/
abbrev A.MIC_CFG : Nat := 0x030000
abbrev A.MIC_INEN : Nat := 0x030004
abbrev A.MIC_SPARE : Nat := 0x030008
abbrev A.MIC_PWRCTL : Nat := 0x03000C
abbrev A.MIC_DENS : Nat := 0x030010
abbrev A.MIC_NBCFG : Nat := 0x030014
abbrev A.MIC_FAULT : Nat := 0x030018
abbrev A.MIC_PART : Nat := 0x03001C
abbrev A.MIC_EVT_LO : Nat := 0x030020
abbrev A.MIC_EVT_HI : Nat := 0x030024
abbrev A.MIC_CALCTL : Nat := 0x030028
abbrev A.MIC_CALSEL : Nat := 0x03002C
abbrev A.MIC_MAPn (n : Nat) : Nat := 0x030040 + 0x4 * n
abbrev A.MIC_STATn (n : Nat) : Nat := 0x030100 + 0x4 * n
abbrev A.MIC_CALn_GAIN (n : Nat) : Nat := 0x030200 + 0x20 * n
abbrev A.MIC_CALn_DELAY (n : Nat) : Nat := 0x030204 + 0x20 * n
abbrev A.MIC_CALn_TAPt (n t : Nat) : Nat := 0x030208 + 0x20 * n + 0x4 * t
abbrev A.MIC_CALn_ORIGIN (n : Nat) : Nat := 0x030218 + 0x20 * n
abbrev A.MIC_CALRESn_RATIO (n : Nat) : Nat := 0x030600 + 0x10 * n
abbrev A.MIC_CALRESn_LAG (n : Nat) : Nat := 0x030604 + 0x10 * n
abbrev A.MIC_CALRESn_QUAL (n : Nat) : Nat := 0x030608 + 0x10 * n
abbrev A.MIC_CALRESn_ST (n : Nat) : Nat := 0x03060C + 0x10 * n
abbrev A.MIC_NBRn (n : Nat) : Nat := 0x030800 + 0x4 * n
/-! FLT, R223 -/
abbrev A.FLT_POOL_CAP : Nat := 0x040000
abbrev A.FLT_POOL_DEM : Nat := 0x040004
abbrev A.FLT_SYNC : Nat := 0x040008
abbrev A.FLT_SYNC_CNT : Nat := 0x04000C
abbrev A.FLT_SYNC_LAT : Nat := 0x040010
abbrev A.FLT_GLCk (k : Nat) : Nat := 0x040020 + 0x4 * k
abbrev A.FLT_HBj (j : Nat) : Nat := 0x040060 + 0x4 * j
abbrev A.FLT_CICp (p : Nat) : Nat := 0x040100 + 0x4 * p
abbrev A.FLT_CHn_FIR (n : Nat) : Nat := 0x040200 + 0x20 * n
abbrev A.FLT_CHn_XF (n : Nat) : Nat := 0x040204 + 0x20 * n
abbrev A.FLT_CHn_ST (n : Nat) : Nat := 0x040208 + 0x20 * n
abbrev A.FLT_CHn_FILL (n : Nat) : Nat := 0x04020C + 0x20 * n
abbrev A.FLT_CHn_DEM (n : Nat) : Nat := 0x040210 + 0x20 * n
abbrev A.FLT_CHn_DET (n : Nat) : Nat := 0x040214 + 0x20 * n
abbrev A.FLT_CHn_PEAK (n : Nat) : Nat := 0x040218 + 0x20 * n
abbrev A.FLT_CHn_RMS (n : Nat) : Nat := 0x04021C + 0x20 * n
abbrev A.FLT_ENVn (n : Nat) : Nat := 0x040600 + 0x4 * n
abbrev A.FLT_RTd (d : Nat) : Nat := 0x041000 + 0x4 * d
abbrev A.FLT_COEFb_i (b i : Nat) : Nat := 0x044000 + 0x800 * b + 0x4 * i
/-! LSN, R254 -/
abbrev A.LSN_CFG : Nat := 0x050000
abbrev A.LSN_WAKE : Nat := 0x050004
abbrev A.LSN_MARK_LO : Nat := 0x050008
abbrev A.LSN_MARK_HI : Nat := 0x05000C
abbrev A.LSN_RMARK_LO : Nat := 0x050010
abbrev A.LSN_RMARK_HI : Nat := 0x050014
abbrev A.LSN_PRE : Nat := 0x050018
abbrev A.LSN_SADu_CFG (u : Nat) : Nat := 0x050040 + 0x40 * u
abbrev A.LSN_SADu_TL (u : Nat) : Nat := 0x050044 + 0x40 * u
abbrev A.LSN_SADu_FREF (u : Nat) : Nat := 0x050048 + 0x40 * u
abbrev A.LSN_SADu_ST (u : Nat) : Nat := 0x05004C + 0x40 * u
abbrev A.LSN_SADu_FLOOR (u : Nat) : Nat := 0x050050 + 0x40 * u
abbrev A.LSN_SADu_OFS (u : Nat) : Nat := 0x050054 + 0x40 * u
abbrev A.LSN_SADu_EVT_LO (u : Nat) : Nat := 0x050058 + 0x40 * u
abbrev A.LSN_SADu_EVT_HI (u : Nat) : Nat := 0x05005C + 0x40 * u
abbrev A.LSN_CNT_x_LO (k : Nat) : Nat := 0x050100 + 0x8 * k
abbrev A.LSN_CNT_x_HI (k : Nat) : Nat := 0x050104 + 0x8 * k
/-! DRL, R287 -/
abbrev A.DRL_CFG : Nat := 0x060000
abbrev A.DRL_CAP : Nat := 0x060004
abbrev A.DRL_DEM : Nat := 0x060008
abbrev A.DRL_SDEM : Nat := 0x06000C
abbrev A.DRL_ST : Nat := 0x060010
abbrev A.DRL_INn_CFG (n : Nat) : Nat := 0x060020 + 0x10 * n
abbrev A.DRL_INn_ST (n : Nat) : Nat := 0x060024 + 0x10 * n
abbrev A.DRL_INn_GD (n : Nat) : Nat := 0x060028 + 0x10 * n
abbrev A.DRL_EVQ_ST : Nat := 0x060060
abbrev A.DRL_NET : Nat := 0x060080
abbrev A.DRL_NET_MACS : Nat := 0x060084
abbrev A.DRL_ENR_CTL : Nat := 0x060090
abbrev A.DRL_ENR_ST : Nat := 0x060094
abbrev A.DRL_ENR_RES : Nat := 0x060098
abbrev A.DRL_RECCTL : Nat := 0x0600A0
abbrev A.DRL_RECID : Nat := 0x0600A4
abbrev A.DRL_RECLEN : Nat := 0x0600A8
abbrev A.DRL_RECOFS : Nat := 0x0600AC
abbrev A.DRL_RECCHUNK : Nat := 0x0600B0
abbrev A.DRL_SLOTs_CFG (s : Nat) : Nat := 0x060400 + 0x20 * s
abbrev A.DRL_SLOTs_THR (s : Nat) : Nat := 0x060404 + 0x20 * s
abbrev A.DRL_SLOTs_ADJ (s : Nat) : Nat := 0x060408 + 0x20 * s
abbrev A.DRL_SLOTs_ST (s : Nat) : Nat := 0x06040C + 0x20 * s
abbrev A.DRL_SLOTs_CNT_LO (s : Nat) : Nat := 0x060410 + 0x20 * s
abbrev A.DRL_SLOTs_CNT_HI (s : Nat) : Nat := 0x060414 + 0x20 * s
abbrev A.DRL_SLOTs_ID (s : Nat) : Nat := 0x060418 + 0x20 * s
/-! SWA, R330 -/
abbrev A.SWA_CFG : Nat := 0x070000
abbrev A.SWA_ST : Nat := 0x070004
abbrev A.SWA_SC_LO : Nat := 0x070008
abbrev A.SWA_SC_HI : Nat := 0x07000C
abbrev A.SWA_PERIOD_LO : Nat := 0x070010
abbrev A.SWA_PERIOD_HI : Nat := 0x070014
abbrev A.SWA_MITTEN : Nat := 0x070020
abbrev A.SWA_PRE : Nat := 0x070024
abbrev A.SWA_WSTART_LO : Nat := 0x070028
abbrev A.SWA_WSTART_HI : Nat := 0x07002C
abbrev A.SWA_SSWSTART_LO : Nat := 0x070030
abbrev A.SWA_SSWSTART_HI : Nat := 0x070034
abbrev A.SWA_SSAVAIL : Nat := 0x070038
abbrev A.SWA_DENY : Nat := 0x07003C
abbrev A.SWA_HWIN : Nat := 0x070040
abbrev A.SWA_SSCTR_LO : Nat := 0x070048
abbrev A.SWA_SSCTR_HI : Nat := 0x07004C
abbrev A.SWA_SSHEAD : Nat := 0x070050
abbrev A.SWA_SSPROD_LO : Nat := 0x070058
abbrev A.SWA_SSPROD_HI : Nat := 0x07005C
abbrev A.SWA_SSEXP_LO : Nat := 0x070060
abbrev A.SWA_SSEXP_HI : Nat := 0x070064
abbrev A.SWA_SSDISC_LO : Nat := 0x070068
abbrev A.SWA_SSDISC_HI : Nat := 0x07006C
abbrev A.SWA_ECC : Nat := 0x070070
abbrev A.SWA_DBEADDR : Nat := 0x070074
abbrev A.SWA_SBE_LO : Nat := 0x070078
abbrev A.SWA_SBE_HI : Nat := 0x07007C
abbrev A.SWA_REP : Nat := 0x070080
abbrev A.SWA_ZCTL : Nat := 0x070084
abbrev A.SWA_STs_CFG (s : Nat) : Nat := 0x070100 + 0x80 * s
abbrev A.SWA_STs_BASE (s : Nat) : Nat := 0x070104 + 0x80 * s
abbrev A.SWA_STs_NBLK (s : Nat) : Nat := 0x070108 + 0x80 * s
abbrev A.SWA_STs_HEAD (s : Nat) : Nat := 0x07010C + 0x80 * s
abbrev A.SWA_STs_UNL (s : Nat) : Nat := 0x070110 + 0x80 * s
abbrev A.SWA_STs_AVAIL (s : Nat) : Nat := 0x070114 + 0x80 * s
abbrev A.SWA_STs_PEND (s : Nat) : Nat := 0x070118 + 0x80 * s
abbrev A.SWA_STs_LAG (s : Nat) : Nat := 0x07011C + 0x80 * s
abbrev A.SWA_STs_UPTR_LO (s : Nat) : Nat := 0x070120 + 0x80 * s
abbrev A.SWA_STs_UPTR_HI (s : Nat) : Nat := 0x070124 + 0x80 * s
abbrev A.SWA_STs_UACK_LO (s : Nat) : Nat := 0x070128 + 0x80 * s
abbrev A.SWA_STs_UACK_HI (s : Nat) : Nat := 0x07012C + 0x80 * s
abbrev A.SWA_STs_PROD_LO (s : Nat) : Nat := 0x070130 + 0x80 * s
abbrev A.SWA_STs_PROD_HI (s : Nat) : Nat := 0x070134 + 0x80 * s
abbrev A.SWA_STs_UNLD_LO (s : Nat) : Nat := 0x070138 + 0x80 * s
abbrev A.SWA_STs_UNLD_HI (s : Nat) : Nat := 0x07013C + 0x80 * s
abbrev A.SWA_STs_EXP_LO (s : Nat) : Nat := 0x070140 + 0x80 * s
abbrev A.SWA_STs_EXP_HI (s : Nat) : Nat := 0x070144 + 0x80 * s
abbrev A.SWA_STs_DISC_LO (s : Nat) : Nat := 0x070148 + 0x80 * s
abbrev A.SWA_STs_DISC_HI (s : Nat) : Nat := 0x07014C + 0x80 * s
abbrev A.SWA_STs_LOST_LO (s : Nat) : Nat := 0x070150 + 0x80 * s
abbrev A.SWA_STs_LOST_HI (s : Nat) : Nat := 0x070154 + 0x80 * s
/-! FRW, R371 -/
abbrev A.FRW_CFG : Nat := 0x080000
abbrev A.FRW_IMG : Nat := 0x080004
abbrev A.FRW_SWAP : Nat := 0x080008
abbrev A.FRW_SENT_CTL : Nat := 0x080010
abbrev A.FRW_COREc_CTL (c : Nat) : Nat := 0x080100 + 0x40 * c
abbrev A.FRW_COREc_ST (c : Nat) : Nat := 0x080104 + 0x40 * c
abbrev A.FRW_COREc_PC (c : Nat) : Nat := 0x080108 + 0x40 * c
abbrev A.FRW_COREc_ECC (c : Nat) : Nat := 0x08010C + 0x40 * c
abbrev A.FRW_COREc_CYC_LO (c : Nat) : Nat := 0x080110 + 0x40 * c
abbrev A.FRW_COREc_CYC_HI (c : Nat) : Nat := 0x080114 + 0x40 * c
abbrev A.FRW_COREc_BUSY_LO (c : Nat) : Nat := 0x080118 + 0x40 * c
abbrev A.FRW_COREc_BUSY_HI (c : Nat) : Nat := 0x08011C + 0x40 * c
abbrev A.FRW_COREc_BUD (c : Nat) : Nat := 0x080120 + 0x40 * c
abbrev A.FRW_Tc_t_ENTRY (c t : Nat) : Nat := 0x080400 + 0x200 * c + 0x20 * t
abbrev A.FRW_Tc_t_TRIG (c t : Nat) : Nat := 0x080404 + 0x200 * c + 0x20 * t
abbrev A.FRW_Tc_t_BOUND (c t : Nat) : Nat := 0x080408 + 0x200 * c + 0x20 * t
abbrev A.FRW_Tc_t_ST (c t : Nat) : Nat := 0x08040C + 0x200 * c + 0x20 * t
abbrev A.FRW_Tc_t_MAX (c t : Nat) : Nat := 0x080410 + 0x200 * c + 0x20 * t
/-! QUE, R517 -/
abbrev A.QUE_ST : Nat := 0x090000
abbrev A.QUE_POOL : Nat := 0x090004
abbrev A.QUE_DROP_LO : Nat := 0x090008
abbrev A.QUE_DROP_HI : Nat := 0x09000C
abbrev A.QUE_UNDER_LO : Nat := 0x090010
abbrev A.QUE_UNDER_HI : Nat := 0x090014
abbrev A.QUE_HWDROP_LO : Nat := 0x090018
abbrev A.QUE_HWDROP_HI : Nat := 0x09001C
abbrev A.QUE_AUDSEL : Nat := 0x090020
abbrev A.QUE_Qn_CFG (n : Nat) : Nat := 0x090100 + 0x20 * n
abbrev A.QUE_Qn_PROD (n : Nat) : Nat := 0x090104 + 0x20 * n
abbrev A.QUE_Qn_CONS (n : Nat) : Nat := 0x090108 + 0x20 * n
abbrev A.QUE_Qn_RATE (n : Nat) : Nat := 0x09010C + 0x20 * n
abbrev A.QUE_Qn_AUD (n : Nat) : Nat := 0x090110 + 0x20 * n
abbrev A.QUE_Qn_CNT (n : Nat) : Nat := 0x090114 + 0x20 * n
abbrev A.QUE_Qn_HWM (n : Nat) : Nat := 0x090118 + 0x20 * n
abbrev A.QUE_AUDXk (k : Nat) : Nat := 0x090900 + 0x4 * k
/-! FRW, R518 -/
abbrev A.FRW_ADM_CAPC : Nat := 0x080C00
abbrev A.FRW_ADM_Uc (c : Nat) : Nat := 0x080C04 + 0x4 * c
abbrev A.FRW_ADM_SAFE : Nat := 0x080C14
abbrev A.FRW_ADM_ACC_LO : Nat := 0x080C20
abbrev A.FRW_ADM_ACC_HI : Nat := 0x080C24
abbrev A.FRW_ADM_REF_LO : Nat := 0x080C28
abbrev A.FRW_ADM_REF_HI : Nat := 0x080C2C
abbrev A.FRW_FCMTk (k : Nat) : Nat := 0x080C40 + 0x10 * k
abbrev A.FRW_FCMTk_REASON (k : Nat) : Nat := 0x080C44 + 0x10 * k
abbrev A.FRW_FCMTk_OBJ (k : Nat) : Nat := 0x080C48 + 0x10 * k
/-! INT, R544 -/
abbrev A.INT_ST : Nat := 0x0A0000
abbrev A.INT_PENDw (w : Nat) : Nat := 0x0A0010 + 0x4 * w
abbrev A.INT_LIVEw (w : Nat) : Nat := 0x0A0020 + 0x4 * w
abbrev A.INT_DLVw (w : Nat) : Nat := 0x0A0030 + 0x4 * w
abbrev A.INT_BELL : Nat := 0x0A0040
abbrev A.INT_ENt_w (t w : Nat) : Nat := 0x0A0100 + 0x10 * t + 0x4 * w
abbrev A.INT_CLAIMt (t : Nat) : Nat := 0x0A0200 + 0x4 * t
abbrev A.INT_SRCs (s : Nat) : Nat := 0x0A0400 + 0x4 * s
abbrev A.INT_Gg_CFG (g : Nat) : Nat := 0x0A0800 + 0x40 * g
abbrev A.INT_Gg_ST (g : Nat) : Nat := 0x0A0804 + 0x40 * g
abbrev A.INT_Gg_EDGE_LO (g : Nat) : Nat := 0x0A0808 + 0x40 * g
abbrev A.INT_Gg_EDGE_HI (g : Nat) : Nat := 0x0A080C + 0x40 * g
abbrev A.INT_Gg_COAL_LO (g : Nat) : Nat := 0x0A0810 + 0x40 * g
abbrev A.INT_Gg_COAL_HI (g : Nat) : Nat := 0x0A0814 + 0x40 * g
abbrev A.INT_Gg_CLAIM_LO (g : Nat) : Nat := 0x0A0818 + 0x40 * g
abbrev A.INT_Gg_CLAIM_HI (g : Nat) : Nat := 0x0A081C + 0x40 * g
abbrev A.INT_Gg_CLR_LO (g : Nat) : Nat := 0x0A0820 + 0x40 * g
abbrev A.INT_Gg_CLR_HI (g : Nat) : Nat := 0x0A0824 + 0x40 * g
/-! ADC, R587 -/
abbrev A.ADC_REF : Nat := 0x0B0000
abbrev A.ADC_CAL : Nat := 0x0B0004
abbrev A.ADC_PLAUS : Nat := 0x0B0008
abbrev A.ADC_WERR : Nat := 0x0B000C
abbrev A.ADC_MIS_LO : Nat := 0x0B0010
abbrev A.ADC_MIS_HI : Nat := 0x0B0014
abbrev A.ADC_PAIR_LO : Nat := 0x0B0018
abbrev A.ADC_PAIR_HI : Nat := 0x0B001C
abbrev A.ADC_PLOST : Nat := 0x0B0020
abbrev A.ADC_x_CTL (x : Nat) : Nat := 0x0B0800 + 0x800 * x
abbrev A.ADC_x_MASK (x : Nat) : Nat := 0x0B0804 + 0x800 * x
abbrev A.ADC_x_WIN (x : Nat) : Nat := 0x0B0808 + 0x800 * x
abbrev A.ADC_x_STAT (x : Nat) : Nat := 0x0B080C + 0x800 * x
abbrev A.ADC_x_SCANS_LO (x : Nat) : Nat := 0x0B0810 + 0x800 * x
abbrev A.ADC_x_SCANS_HI (x : Nat) : Nat := 0x0B0814 + 0x800 * x
abbrev A.ADC_x_DONE_LO (x : Nat) : Nat := 0x0B0818 + 0x800 * x
abbrev A.ADC_x_DONE_HI (x : Nat) : Nat := 0x0B081C + 0x800 * x
abbrev A.ADC_x_DISC_LO (x : Nat) : Nat := 0x0B0820 + 0x800 * x
abbrev A.ADC_x_DISC_HI (x : Nat) : Nat := 0x0B0824 + 0x800 * x
abbrev A.ADC_x_URG (x : Nat) : Nat := 0x0B0828 + 0x800 * x
abbrev A.ADC_x_URGRES (x : Nat) : Nat := 0x0B082C + 0x800 * x
abbrev A.ADC_x_URGTIME (x : Nat) : Nat := 0x0B0830 + 0x800 * x
abbrev A.ADC_x_LTAKE (x : Nat) : Nat := 0x0B0834 + 0x800 * x
abbrev A.ADC_x_QST (x : Nat) : Nat := 0x0B0838 + 0x800 * x
abbrev A.ADC_x_SYSCTL (x : Nat) : Nat := 0x0B083C + 0x800 * x
abbrev A.ADC_x_SCALr (x r : Nat) : Nat := 0x0B0840 + 0x800 * x + 0x4 * r
abbrev A.ADC_x_SYSCODE (x : Nat) : Nat := 0x0B0850 + 0x800 * x
abbrev A.ADC_x_SYSU0 (x : Nat) : Nat := 0x0B0854 + 0x800 * x
abbrev A.ADC_x_SYSU1 (x : Nat) : Nat := 0x0B0858 + 0x800 * x
abbrev A.ADC_x_ENTe_CFG (x e : Nat) : Nat := 0x0B0900 + 0x800 * x + 0x40 * e
abbrev A.ADC_x_ENTe_YOFF (x e : Nat) : Nat := 0x0B0904 + 0x800 * x + 0x40 * e
abbrev A.ADC_x_ENTe_YGAIN (x e : Nat) : Nat := 0x0B0908 + 0x800 * x + 0x40 * e
abbrev A.ADC_x_ENTe_LSUM (x e : Nat) : Nat := 0x0B090C + 0x800 * x + 0x40 * e
abbrev A.ADC_x_ENTe_LCNT (x e : Nat) : Nat := 0x0B0910 + 0x800 * x + 0x40 * e
abbrev A.ADC_x_ENTe_LMM (x e : Nat) : Nat := 0x0B0914 + 0x800 * x + 0x40 * e
abbrev A.ADC_x_ENTe_TSUM (x e : Nat) : Nat := 0x0B0918 + 0x800 * x + 0x40 * e
abbrev A.ADC_x_ENTe_TCNT (x e : Nat) : Nat := 0x0B091C + 0x800 * x + 0x40 * e
abbrev A.ADC_x_ENTe_TMM (x e : Nat) : Nat := 0x0B0920 + 0x800 * x + 0x40 * e
abbrev A.ADC_x_ENTe_TSKIP (x e : Nat) : Nat := 0x0B0924 + 0x800 * x + 0x40 * e
/-! MON, R608 -/
abbrev A.MON_ST : Nat := 0x0C0000
abbrev A.MON_THR : Nat := 0x0C0004
abbrev A.MON_Tn (n : Nat) : Nat := 0x0C0010 + 0x4 * n
abbrev A.MON_VLAT : Nat := 0x0C0020
abbrev A.MON_VIO : Nat := 0x0C0024
abbrev A.MON_PMm (m : Nat) : Nat := 0x0C0040 + 0x4 * m
abbrev A.MON_PMLIMm (m : Nat) : Nat := 0x0C0080 + 0x4 * m
abbrev A.MON_SAVS_CFG : Nat := 0x0C0100
abbrev A.MON_SAVS_ST : Nat := 0x0C0104
abbrev A.MON_CAVS_CFG : Nat := 0x0C0110
abbrev A.MON_CAVS_STEP : Nat := 0x0C0114
abbrev A.MON_CAVS_ST : Nat := 0x0C0118
abbrev A.MON_CAVS_TGT : Nat := 0x0C011C
abbrev A.MON_CAVS_MAN : Nat := 0x0C0120
abbrev A.MON_CAVS_KRO : Nat := 0x0C0124
abbrev A.MON_PMB : Nat := 0x0C0140
abbrev A.MON_PMB_MASK : Nat := 0x0C0144
abbrev A.MON_PMB_SW : Nat := 0x0C0148
abbrev A.MON_PMB_ERR : Nat := 0x0C014C
/-! HG, R640 -/
abbrev A.HGx_CFG (x : Nat) : Nat := 0x0D0000 + 0x10000 * x
abbrev A.HGx_ST (x : Nat) : Nat := 0x0D0004 + 0x10000 * x
abbrev A.HGx_RTT (x : Nat) : Nat := 0x0D0008 + 0x10000 * x
abbrev A.HGx_RTO (x : Nat) : Nat := 0x0D000C + 0x10000 * x
abbrev A.HGx_EQl (x l : Nat) : Nat := 0x0D0010 + 0x10000 * x + 0x4 * l
abbrev A.HGx_RESv (x v : Nat) : Nat := 0x0D0020 + 0x10000 * x + 0x4 * v
abbrev A.HGx_CRv (x v : Nat) : Nat := 0x0D0030 + 0x10000 * x + 0x4 * v
abbrev A.HGx_FTX_LO (x : Nat) : Nat := 0x0D0050 + 0x10000 * x
abbrev A.HGx_FTX_HI (x : Nat) : Nat := 0x0D0054 + 0x10000 * x
abbrev A.HGx_FRX_LO (x : Nat) : Nat := 0x0D0058 + 0x10000 * x
abbrev A.HGx_FRX_HI (x : Nat) : Nat := 0x0D005C + 0x10000 * x
abbrev A.HGx_RETX_LO (x : Nat) : Nat := 0x0D0060 + 0x10000 * x
abbrev A.HGx_RETX_HI (x : Nat) : Nat := 0x0D0064 + 0x10000 * x
abbrev A.HGx_CRCERR_LO (x : Nat) : Nat := 0x0D0068 + 0x10000 * x
abbrev A.HGx_CRCERR_HI (x : Nat) : Nat := 0x0D006C + 0x10000 * x
abbrev A.HGx_PROTERR_LO (x : Nat) : Nat := 0x0D0070 + 0x10000 * x
abbrev A.HGx_PROTERR_HI (x : Nat) : Nat := 0x0D0074 + 0x10000 * x
abbrev A.HGx_TIMEOUT_LO (x : Nat) : Nat := 0x0D0078 + 0x10000 * x
abbrev A.HGx_TIMEOUT_HI (x : Nat) : Nat := 0x0D007C + 0x10000 * x
abbrev A.HGx_LRESET_LO (x : Nat) : Nat := 0x0D0080 + 0x10000 * x
abbrev A.HGx_LRESET_HI (x : Nat) : Nat := 0x0D0084 + 0x10000 * x
abbrev A.HGx_DISC_LO (x : Nat) : Nat := 0x0D0088 + 0x10000 * x
abbrev A.HGx_DISC_HI (x : Nat) : Nat := 0x0D008C + 0x10000 * x
abbrev A.HGx_CODEERRl_LO (x l : Nat) : Nat := 0x0D0090 + 0x10000 * x + 0x8 * l
abbrev A.HGx_CODEERRl_HI (x l : Nat) : Nat := 0x0D0094 + 0x10000 * x + 0x8 * l
/-! HG, R678 -/
abbrev A.HGx_MSGCFG (x : Nat) : Nat := 0x0D0400 + 0x10000 * x
abbrev A.HGx_SEC (x : Nat) : Nat := 0x0D0404 + 0x10000 * x
abbrev A.HGx_QCTL (x : Nat) : Nat := 0x0D0408 + 0x10000 * x
abbrev A.HGx_USTR (x : Nat) : Nat := 0x0D040C + 0x10000 * x
abbrev A.HGx_TXCTR (x : Nat) : Nat := 0x0D0410 + 0x10000 * x
abbrev A.HGx_RXCTR (x : Nat) : Nat := 0x0D0414 + 0x10000 * x
abbrev A.HGx_MSGCNTk_LO (x k : Nat) : Nat := 0x0D0418 + 0x10000 * x + 0x8 * k
abbrev A.HGx_MSGCNTk_HI (x k : Nat) : Nat := 0x0D041C + 0x10000 * x + 0x8 * k
abbrev A.HG0_TOPO : Nat := 0x0D0500
abbrev A.HG0_ROUTEp (p : Nat) : Nat := 0x0D0504 + 0x4 * p
abbrev A.HG0_KPERMk (k : Nat) : Nat := 0x0D0518 + 0x4 * k
abbrev A.HG0_NTXCTL : Nat := 0x0D0530
abbrev A.HG0_NTXi (i : Nat) : Nat := 0x0D0540 + 0x4 * i
abbrev A.HG0_NRXST : Nat := 0x0D0560
abbrev A.HG0_NRXi (i : Nat) : Nat := 0x0D0580 + 0x4 * i
abbrev A.HG0_TMST : Nat := 0x0D05A0
abbrev A.HG0_TMSTAMP_LO : Nat := 0x0D05A8
abbrev A.HG0_TMSTAMP_HI : Nat := 0x0D05AC
abbrev A.HG0_TMLOCAL_LO : Nat := 0x0D05B0
abbrev A.HG0_TMLOCAL_HI : Nat := 0x0D05B4
/-! SAF, R726 -/
abbrev A.SAF_ST : Nat := 0x0F0000
abbrev A.SAF_ARM : Nat := 0x0F0004
abbrev A.SAF_DEP_LO : Nat := 0x0F0008
abbrev A.SAF_DEP_HI : Nat := 0x0F000C
abbrev A.SAF_CONTRIBd (d : Nat) : Nat := 0x0F0010 + 0x4 * d
abbrev A.SAF_PARTp (p : Nat) : Nat := 0x0F0020 + 0x4 * p
abbrev A.SAF_BG : Nat := 0x0F0030
abbrev A.SAF_RUNTOK : Nat := 0x0F0034
abbrev A.SAF_ARMST : Nat := 0x0F0040
abbrev A.SAF_LATCH : Nat := 0x0F0044
abbrev A.SAF_ACK : Nat := 0x0F0048
abbrev A.SAF_ACK_RESP : Nat := 0x0F004C
abbrev A.SAF_ACKFAIL : Nat := 0x0F0050
abbrev A.SAF_TRIPS_LO : Nat := 0x0F0058
abbrev A.SAF_TRIPS_HI : Nat := 0x0F005C
abbrev A.SAF_TRANS_LO : Nat := 0x0F0060
abbrev A.SAF_TRANS_HI : Nat := 0x0F0064
abbrev A.SAF_LOGj_LO (j : Nat) : Nat := 0x0F0100 + 0x8 * j
abbrev A.SAF_LOGj_HI (j : Nat) : Nat := 0x0F0104 + 0x8 * j
abbrev A.SAF_LOGPTR : Nat := 0x0F0200
abbrev A.SAF_DIAGi (i : Nat) : Nat := 0x0F0300 + 0x4 * i
/-! SVC, R751 -/
abbrev A.SVC_ACT : Nat := 0x100000
abbrev A.SVC_ARG : Nat := 0x100004
abbrev A.SVC_REASON : Nat := 0x100008
abbrev A.SVC_OBJ : Nat := 0x10000C
abbrev A.SVC_MAP : Nat := 0x100010
abbrev A.SVC_SCVER : Nat := 0x100014
abbrev A.SVC_SCRELk (k : Nat) : Nat := 0x100018 + 0x4 * k
/-! NVM, R752 -/
abbrev A.NVM_CTL : Nat := 0x110000
abbrev A.NVM_ST : Nat := 0x110004
abbrev A.NVM_RET : Nat := 0x110008
abbrev A.NVM_RECID : Nat := 0x11000C
abbrev A.NVM_RECLEN : Nat := 0x110010
abbrev A.NVM_IMG : Nat := 0x110014
abbrev A.NVM_VERk (k : Nat) : Nat := 0x110018 + 0x4 * k
abbrev A.NVM_BOOT : Nat := 0x110030
abbrev A.NVM_BOOT2 : Nat := 0x110034
abbrev A.NVM_ERC : Nat := 0x110038
abbrev A.NVM_PERM : Nat := 0x110040
abbrev A.NVM_WRB_LO : Nat := 0x110048
abbrev A.NVM_WRB_HI : Nat := 0x11004C

/-! ## Fields -/

/-! CLK, R66 -/
abbrev F.CLK_STAT_FH_CLASS : Fld := ⟨A.CLK_STAT, 0, 3⟩
abbrev F.CLK_STAT_STATE : Fld := ⟨A.CLK_STAT, 4, 3⟩
abbrev F.CLK_STAT_LOCK : Fld := ⟨A.CLK_STAT, 8, 1⟩
abbrev F.CLK_STAT_WDO_ON : Fld := ⟨A.CLK_STAT, 9, 1⟩
abbrev F.CLK_STAT_HCK_OK : Fld := ⟨A.CLK_STAT, 10, 1⟩
abbrev F.CLK_STAT_SRC : Fld := ⟨A.CLK_STAT, 11, 1⟩
abbrev F.CLK_STAT_FWD_ON : Fld := ⟨A.CLK_STAT, 12, 1⟩
abbrev F.CLK_STAT_SYS_RUN : Fld := ⟨A.CLK_STAT, 13, 1⟩
abbrev F.CLK_PLAN_FH_NEXT : Fld := ⟨A.CLK_PLAN, 0, 3⟩
abbrev F.CLK_PLAN_M : Fld := ⟨A.CLK_PLAN, 8, 6⟩
abbrev F.CLK_PDM_DP0 : Fld := ⟨A.CLK_PDM, 0, 3⟩
abbrev F.CLK_PDM_DP1 : Fld := ⟨A.CLK_PDM, 4, 3⟩
abbrev F.CLK_PDM_DP2 : Fld := ⟨A.CLK_PDM, 8, 3⟩
abbrev F.CLK_PDM_DP3 : Fld := ⟨A.CLK_PDM, 12, 3⟩
abbrev F.CLK_FWD_FWD_EN : Fld := ⟨A.CLK_FWD, 0, 1⟩
abbrev F.CLK_FWD_SENTRY_FWD : Fld := ⟨A.CLK_FWD, 1, 1⟩
abbrev F.CLK_SUP_HCK_LOSS : Fld := ⟨A.CLK_SUP, 0, 1⟩
abbrev F.CLK_SUP_FREQ_ERR : Fld := ⟨A.CLK_SUP, 1, 1⟩
abbrev F.CLK_SUP_LOCK_LOSS : Fld := ⟨A.CLK_SUP, 2, 1⟩
abbrev F.CLK_SUP_PLAN_FAIL : Fld := ⟨A.CLK_SUP, 3, 1⟩
abbrev F.CLK_SUP_GAP_LONG : Fld := ⟨A.CLK_SUP, 4, 1⟩
abbrev F.CLK_WDO_REF : Fld := ⟨A.CLK_WDO, 0, 16⟩
abbrev F.CLK_WDO_LAST : Fld := ⟨A.CLK_WDO, 16, 16⟩
abbrev F.CLK_GAP_LO_COUNT : Fld := ⟨A.CLK_GAP_LO, 0, 32⟩
abbrev F.CLK_GAP_HI_COUNT : Fld := ⟨A.CLK_GAP_HI, 0, 32⟩
/-! SYS, R112 -/
abbrev F.SYS_HSPCFG_QUAD : Fld := ⟨A.SYS_HSPCFG, 0, 1⟩
abbrev F.SYS_EPOCH_EPOCH : Fld := ⟨A.SYS_EPOCH, 0, 32⟩
abbrev F.SYS_HSPST_LAST : Fld := ⟨A.SYS_HSPST, 0, 8⟩
abbrev F.SYS_HSPERR_CRC : Fld := ⟨A.SYS_HSPERR, 0, 8⟩
abbrev F.SYS_HSPERR_LEN : Fld := ⟨A.SYS_HSPERR, 8, 8⟩
abbrev F.SYS_HSPERR_DEN : Fld := ⟨A.SYS_HSPERR, 16, 8⟩
abbrev F.SYS_HSPERR_BSY : Fld := ⟨A.SYS_HSPERR, 24, 8⟩
abbrev F.SYS_CMT_SEQ : Fld := ⟨A.SYS_CMT, 0, 16⟩
abbrev F.SYS_CMT_RESULT : Fld := ⟨A.SYS_CMT, 16, 3⟩
abbrev F.SYS_CMT_STICKY : Fld := ⟨A.SYS_CMT, 20, 1⟩
abbrev F.SYS_CMT_REASON_REASON : Fld := ⟨A.SYS_CMT_REASON, 0, 16⟩
abbrev F.SYS_CMT_OBJ_OBJ : Fld := ⟨A.SYS_CMT_OBJ, 0, 32⟩
abbrev F.SYS_STAGE_OPEN : Fld := ⟨A.SYS_STAGE, 0, 1⟩
abbrev F.SYS_STAGE_WORDS : Fld := ⟨A.SYS_STAGE, 16, 13⟩
abbrev F.SYS_TUNST_TAG : Fld := ⟨A.SYS_TUNST, 0, 16⟩
abbrev F.SYS_TUNST_STATE : Fld := ⟨A.SYS_TUNST, 16, 3⟩
abbrev F.SYS_TUNST_DONE : Fld := ⟨A.SYS_TUNST, 23, 1⟩
abbrev F.SYS_TUNST_RSTAT : Fld := ⟨A.SYS_TUNST, 24, 8⟩
abbrev F.SYS_TUNEPOCH_EPOCH : Fld := ⟨A.SYS_TUNEPOCH, 0, 32⟩
abbrev F.SYS_TUNLAST_TAG : Fld := ⟨A.SYS_TUNLAST, 0, 16⟩
abbrev F.SYS_RPLST_WORDS : Fld := ⟨A.SYS_RPLST, 0, 11⟩
abbrev F.SYS_RPLST_EPOCH : Fld := ⟨A.SYS_RPLST, 16, 16⟩
/-! PWR, R150 -/
abbrev F.PWR_STATE_STATE : Fld := ⟨A.PWR_STATE, 0, 3⟩
abbrev F.PWR_STATE_TRANS : Fld := ⟨A.PWR_STATE, 3, 1⟩
abbrev F.PWR_STATE_TARGET : Fld := ⟨A.PWR_STATE, 4, 3⟩
abbrev F.PWR_STATE_HELD : Fld := ⟨A.PWR_STATE, 7, 1⟩
abbrev F.PWR_STATE_REC : Fld := ⟨A.PWR_STATE, 8, 1⟩
abbrev F.PWR_STATE_ARMED : Fld := ⟨A.PWR_STATE, 9, 1⟩
abbrev F.PWR_STATE_PHB_DUE : Fld := ⟨A.PWR_STATE, 10, 1⟩
abbrev F.PWR_STATE_CAUSE : Fld := ⟨A.PWR_STATE, 12, 4⟩
abbrev F.PWR_REQ_TARGET : Fld := ⟨A.PWR_REQ, 0, 3⟩
abbrev F.PWR_CFG_WAKE_GO : Fld := ⟨A.PWR_CFG, 0, 1⟩
abbrev F.PWR_CFG_STAGGER : Fld := ⟨A.PWR_CFG, 1, 1⟩
abbrev F.PWR_CFG_HG_KEEP : Fld := ⟨A.PWR_CFG, 2, 1⟩
abbrev F.PWR_CFG_START : Fld := ⟨A.PWR_CFG, 4, 2⟩
abbrev F.PWR_MICT_TSU : Fld := ⟨A.PWR_MICT, 0, 6⟩
abbrev F.PWR_MICT_TMC : Fld := ⟨A.PWR_MICT, 8, 6⟩
abbrev F.PWR_BOOTST_PHA_OK : Fld := ⟨A.PWR_BOOTST, 0, 1⟩
abbrev F.PWR_BOOTST_PHB_OK : Fld := ⟨A.PWR_BOOTST, 1, 1⟩
abbrev F.PWR_BOOTST_MOUNT_OK : Fld := ⟨A.PWR_BOOTST, 2, 1⟩
abbrev F.PWR_BOOTST_IMG_OK : Fld := ⟨A.PWR_BOOTST, 3, 1⟩
abbrev F.PWR_BOOTST_ALT_IMG : Fld := ⟨A.PWR_BOOTST, 4, 1⟩
abbrev F.PWR_BOOTST_ADCCAL_OK : Fld := ⟨A.PWR_BOOTST, 5, 1⟩
abbrev F.PWR_BOOTST_REPAIRED : Fld := ⟨A.PWR_BOOTST, 6, 1⟩
abbrev F.PWR_BOOTST_FAIL : Fld := ⟨A.PWR_BOOTST, 7, 1⟩
abbrev F.PWR_BOOTST_FAILCODE : Fld := ⟨A.PWR_BOOTST, 16, 8⟩
abbrev F.PWR_BOOTT_BOOT : Fld := ⟨A.PWR_BOOTT, 0, 16⟩
abbrev F.PWR_BOOTT_LAST : Fld := ⟨A.PWR_BOOTT, 16, 16⟩
abbrev F.PWR_TRANS_LO_COUNT : Fld := ⟨A.PWR_TRANS_LO, 0, 32⟩
abbrev F.PWR_TRANS_HI_COUNT : Fld := ⟨A.PWR_TRANS_HI, 0, 32⟩
abbrev F.PWR_MICPWR_GRP : Fld := ⟨A.PWR_MICPWR, 0, 4⟩
/-! SYS, R151 -/
abbrev F.SYS_ID_ID : Fld := ⟨A.SYS_ID, 0, 32⟩
abbrev F.SYS_STRAP_DEVID : Fld := ⟨A.SYS_STRAP, 0, 2⟩
abbrev F.SYS_STRAP_CLKSRC : Fld := ⟨A.SYS_STRAP, 2, 1⟩
abbrev F.SYS_STRAP_TEST0 : Fld := ⟨A.SYS_STRAP, 3, 1⟩
abbrev F.SYS_RSTCAUSE_POR : Fld := ⟨A.SYS_RSTCAUSE, 0, 1⟩
abbrev F.SYS_RSTCAUSE_PIN : Fld := ⟨A.SYS_RSTCAUSE, 1, 1⟩
abbrev F.SYS_RSTCAUSE_RAIL : Fld := ⟨A.SYS_RSTCAUSE, 2, 7⟩
abbrev F.SYS_UPTIME_LO_MS : Fld := ⟨A.SYS_UPTIME_LO, 0, 32⟩
abbrev F.SYS_UPTIME_HI_MS : Fld := ⟨A.SYS_UPTIME_HI, 0, 32⟩
/-! MIC, R187 -/
abbrev F.MIC_CFG_SENTRY_IN : Fld := ⟨A.MIC_CFG, 0, 5⟩
abbrev F.MIC_CFG_PARTNER_IN : Fld := ⟨A.MIC_CFG, 8, 5⟩
abbrev F.MIC_CFG_PARTNER_EN : Fld := ⟨A.MIC_CFG, 13, 1⟩
abbrev F.MIC_CFG_AUTO_SPARE : Fld := ⟨A.MIC_CFG, 16, 1⟩
abbrev F.MIC_CFG_MUTE_NOSPARE : Fld := ⟨A.MIC_CFG, 17, 1⟩
abbrev F.MIC_CFG_FAILOVER : Fld := ⟨A.MIC_CFG, 18, 1⟩
abbrev F.MIC_INEN_EN : Fld := ⟨A.MIC_INEN, 0, 32⟩
abbrev F.MIC_SPARE_SPARE : Fld := ⟨A.MIC_SPARE, 0, 32⟩
abbrev F.MIC_PWRCTL_EN : Fld := ⟨A.MIC_PWRCTL, 0, 4⟩
abbrev F.MIC_PWRCTL_CYCLE : Fld := ⟨A.MIC_PWRCTL, 8, 4⟩
abbrev F.MIC_PWRCTL_TOFF : Fld := ⟨A.MIC_PWRCTL, 16, 8⟩
abbrev F.MIC_PWRCTL_BUSY : Fld := ⟨A.MIC_PWRCTL, 24, 4⟩
abbrev F.MIC_DENS_WIN : Fld := ⟨A.MIC_DENS, 0, 3⟩
abbrev F.MIC_DENS_DLO : Fld := ⟨A.MIC_DENS, 8, 8⟩
abbrev F.MIC_DENS_DHI : Fld := ⟨A.MIC_DENS, 16, 8⟩
abbrev F.MIC_NBCFG_NBLIM : Fld := ⟨A.MIC_NBCFG, 0, 6⟩
abbrev F.MIC_NBCFG_PLIM : Fld := ⟨A.MIC_NBCFG, 8, 6⟩
abbrev F.MIC_FAULT_FAULT : Fld := ⟨A.MIC_FAULT, 0, 32⟩
abbrev F.MIC_PART_DEAF : Fld := ⟨A.MIC_PART, 0, 1⟩
abbrev F.MIC_PART_RUN : Fld := ⟨A.MIC_PART, 8, 8⟩
abbrev F.MIC_PART_FOVER : Fld := ⟨A.MIC_PART, 16, 1⟩
abbrev F.MIC_EVT_LO_COUNT : Fld := ⟨A.MIC_EVT_LO, 0, 32⟩
abbrev F.MIC_EVT_HI_COUNT : Fld := ⟨A.MIC_EVT_HI, 0, 32⟩
abbrev F.MIC_CALCTL_START : Fld := ⟨A.MIC_CALCTL, 0, 1⟩
abbrev F.MIC_CALCTL_SAVE : Fld := ⟨A.MIC_CALCTL, 1, 1⟩
abbrev F.MIC_CALCTL_LOAD : Fld := ⟨A.MIC_CALCTL, 2, 1⟩
abbrev F.MIC_CALCTL_REF : Fld := ⟨A.MIC_CALCTL, 8, 5⟩
abbrev F.MIC_CALCTL_LEN : Fld := ⟨A.MIC_CALCTL, 16, 3⟩
abbrev F.MIC_CALCTL_BUSY : Fld := ⟨A.MIC_CALCTL, 24, 1⟩
abbrev F.MIC_CALCTL_DONE : Fld := ⟨A.MIC_CALCTL, 25, 1⟩
abbrev F.MIC_CALCTL_ERR : Fld := ⟨A.MIC_CALCTL, 26, 4⟩
abbrev F.MIC_CALSEL_SEL : Fld := ⟨A.MIC_CALSEL, 0, 32⟩
abbrev F.MIC_MAPn_PHYS (n : Nat) : Fld := ⟨A.MIC_MAPn n, 0, 5⟩
abbrev F.MIC_MAPn_EN (n : Nat) : Fld := ⟨A.MIC_MAPn n, 8, 1⟩
abbrev F.MIC_MAPn_CUT (n : Nat) : Fld := ⟨A.MIC_MAPn n, 9, 1⟩
abbrev F.MIC_MAPn_LCFAULT (n : Nat) : Fld := ⟨A.MIC_MAPn n, 16, 1⟩
abbrev F.MIC_MAPn_AUTO (n : Nat) : Fld := ⟨A.MIC_MAPn n, 17, 1⟩
abbrev F.MIC_STATn_STATE (n : Nat) : Fld := ⟨A.MIC_STATn n, 0, 3⟩
abbrev F.MIC_STATn_STUCK0 (n : Nat) : Fld := ⟨A.MIC_STATn n, 4, 1⟩
abbrev F.MIC_STATn_STUCK1 (n : Nat) : Fld := ⟨A.MIC_STATn n, 5, 1⟩
abbrev F.MIC_STATn_DENS (n : Nat) : Fld := ⟨A.MIC_STATn n, 6, 1⟩
abbrev F.MIC_STATn_NB (n : Nat) : Fld := ⟨A.MIC_STATn n, 7, 1⟩
abbrev F.MIC_STATn_NB_NA (n : Nat) : Fld := ⟨A.MIC_STATn n, 8, 1⟩
abbrev F.MIC_STATn_LATCH_CLR (n : Nat) : Fld := ⟨A.MIC_STATn n, 9, 1⟩
abbrev F.MIC_STATn_FLOOR (n : Nat) : Fld := ⟨A.MIC_STATn n, 16, 8⟩
abbrev F.MIC_STATn_EPIS (n : Nat) : Fld := ⟨A.MIC_STATn n, 24, 8⟩
abbrev F.MIC_CALn_GAIN_GAIN (n : Nat) : Fld := ⟨A.MIC_CALn_GAIN n, 0, 24⟩
abbrev F.MIC_CALn_DELAY_DELAY (n : Nat) : Fld := ⟨A.MIC_CALn_DELAY n, 0, 12⟩
abbrev F.MIC_CALn_TAPt_TAP (n t : Nat) : Fld := ⟨A.MIC_CALn_TAPt n t, 0, 24⟩
abbrev F.MIC_CALn_ORIGIN_ORIGIN (n : Nat) : Fld := ⟨A.MIC_CALn_ORIGIN n, 0, 2⟩
abbrev F.MIC_CALRESn_RATIO_RATIO (n : Nat) : Fld := ⟨A.MIC_CALRESn_RATIO n, 0, 24⟩
abbrev F.MIC_CALRESn_LAG_LAG (n : Nat) : Fld := ⟨A.MIC_CALRESn_LAG n, 0, 16⟩
abbrev F.MIC_CALRESn_QUAL_QUAL (n : Nat) : Fld := ⟨A.MIC_CALRESn_QUAL n, 0, 16⟩
abbrev F.MIC_CALRESn_ST_ST (n : Nat) : Fld := ⟨A.MIC_CALRESn_ST n, 0, 4⟩
abbrev F.MIC_NBRn_MASK (n : Nat) : Fld := ⟨A.MIC_NBRn n, 0, 32⟩
/-! FLT, R223 -/
abbrev F.FLT_POOL_CAP_CAP : Fld := ⟨A.FLT_POOL_CAP, 0, 32⟩
abbrev F.FLT_POOL_DEM_DEM : Fld := ⟨A.FLT_POOL_DEM, 0, 32⟩
abbrev F.FLT_SYNC_PIN_EN : Fld := ⟨A.FLT_SYNC, 0, 1⟩
abbrev F.FLT_SYNC_BCAST : Fld := ⟨A.FLT_SYNC, 1, 1⟩
abbrev F.FLT_SYNC_MSG_EN : Fld := ⟨A.FLT_SYNC, 2, 1⟩
abbrev F.FLT_SYNC_NOW : Fld := ⟨A.FLT_SYNC, 3, 1⟩
abbrev F.FLT_SYNC_EXT : Fld := ⟨A.FLT_SYNC, 8, 12⟩
abbrev F.FLT_SYNC_LATE : Fld := ⟨A.FLT_SYNC, 24, 1⟩
abbrev F.FLT_SYNC_CNT_COUNT : Fld := ⟨A.FLT_SYNC_CNT, 0, 32⟩
abbrev F.FLT_SYNC_LAT_LAT : Fld := ⟨A.FLT_SYNC_LAT, 0, 12⟩
abbrev F.FLT_GLCk_TAP (k : Nat) : Fld := ⟨A.FLT_GLCk k, 0, 24⟩
abbrev F.FLT_HBj_H (j : Nat) : Fld := ⟨A.FLT_HBj j, 0, 24⟩
abbrev F.FLT_CICp_ORDER (p : Nat) : Fld := ⟨A.FLT_CICp p, 0, 3⟩
abbrev F.FLT_CICp_K1M1 (p : Nat) : Fld := ⟨A.FLT_CICp p, 8, 12⟩
abbrev F.FLT_CHn_FIR_BANK (n : Nat) : Fld := ⟨A.FLT_CHn_FIR n, 0, 5⟩
abbrev F.FLT_CHn_FIR_TAPSM1 (n : Nat) : Fld := ⟨A.FLT_CHn_FIR n, 8, 9⟩
abbrev F.FLT_CHn_FIR_K2M1 (n : Nat) : Fld := ⟨A.FLT_CHn_FIR n, 20, 5⟩
abbrev F.FLT_CHn_FIR_OSHIFT (n : Nat) : Fld := ⟨A.FLT_CHn_FIR n, 28, 3⟩
abbrev F.FLT_CHn_XF_LOG2L (n : Nat) : Fld := ⟨A.FLT_CHn_XF n, 0, 4⟩
abbrev F.FLT_CHn_ST_FADE (n : Nat) : Fld := ⟨A.FLT_CHn_ST n, 0, 1⟩
abbrev F.FLT_CHn_ST_UNS (n : Nat) : Fld := ⟨A.FLT_CHn_ST n, 1, 1⟩
abbrev F.FLT_CHn_ST_GLC_NA (n : Nat) : Fld := ⟨A.FLT_CHn_ST n, 2, 1⟩
abbrev F.FLT_CHn_ST_SAT (n : Nat) : Fld := ⟨A.FLT_CHn_ST n, 3, 1⟩
abbrev F.FLT_CHn_ST_SATCNT (n : Nat) : Fld := ⟨A.FLT_CHn_ST n, 16, 16⟩
abbrev F.FLT_CHn_FILL_U (n : Nat) : Fld := ⟨A.FLT_CHn_FILL n, 0, 16⟩
abbrev F.FLT_CHn_FILL_GU (n : Nat) : Fld := ⟨A.FLT_CHn_FILL n, 16, 4⟩
abbrev F.FLT_CHn_DEM_DEM (n : Nat) : Fld := ⟨A.FLT_CHn_DEM n, 0, 32⟩
abbrev F.FLT_CHn_DET_HOLD (n : Nat) : Fld := ⟨A.FLT_CHn_DET n, 0, 8⟩
abbrev F.FLT_CHn_DET_PDEC (n : Nat) : Fld := ⟨A.FLT_CHn_DET n, 8, 4⟩
abbrev F.FLT_CHn_DET_RTAU (n : Nat) : Fld := ⟨A.FLT_CHn_DET n, 12, 4⟩
abbrev F.FLT_CHn_DET_ATK (n : Nat) : Fld := ⟨A.FLT_CHn_DET n, 16, 4⟩
abbrev F.FLT_CHn_DET_REL (n : Nat) : Fld := ⟨A.FLT_CHn_DET n, 20, 4⟩
abbrev F.FLT_CHn_PEAK_PEAK (n : Nat) : Fld := ⟨A.FLT_CHn_PEAK n, 0, 24⟩
abbrev F.FLT_CHn_RMS_RMS (n : Nat) : Fld := ⟨A.FLT_CHn_RMS n, 0, 24⟩
abbrev F.FLT_ENVn_ENV (n : Nat) : Fld := ⟨A.FLT_ENVn n, 0, 24⟩
abbrev F.FLT_RTd_SRC (d : Nat) : Fld := ⟨A.FLT_RTd d, 0, 8⟩
abbrev F.FLT_RTd_CUT (d : Nat) : Fld := ⟨A.FLT_RTd d, 8, 1⟩
abbrev F.FLT_RTd_LOG2L (d : Nat) : Fld := ⟨A.FLT_RTd d, 9, 4⟩
abbrev F.FLT_RTd_FADE (d : Nat) : Fld := ⟨A.FLT_RTd d, 16, 1⟩
abbrev F.FLT_COEFb_i_C (b i : Nat) : Fld := ⟨A.FLT_COEFb_i b i, 0, 24⟩
/-! LSN, R254 -/
abbrev F.LSN_CFG_ATT_EN : Fld := ⟨A.LSN_CFG, 0, 2⟩
abbrev F.LSN_CFG_SAD1_EN : Fld := ⟨A.LSN_CFG, 2, 1⟩
abbrev F.LSN_CFG_WAKEIN_EN : Fld := ⟨A.LSN_CFG, 3, 1⟩
abbrev F.LSN_CFG_RWAKE_EN : Fld := ⟨A.LSN_CFG, 4, 1⟩
abbrev F.LSN_CFG_WAKE_TX : Fld := ⟨A.LSN_CFG, 5, 1⟩
abbrev F.LSN_CFG_PRE_EN : Fld := ⟨A.LSN_CFG, 6, 1⟩
abbrev F.LSN_CFG_RPRE_EN : Fld := ⟨A.LSN_CFG, 7, 1⟩
abbrev F.LSN_WAKE_ATT : Fld := ⟨A.LSN_WAKE, 0, 1⟩
abbrev F.LSN_WAKE_QUAL : Fld := ⟨A.LSN_WAKE, 1, 1⟩
abbrev F.LSN_WAKE_MORE : Fld := ⟨A.LSN_WAKE, 2, 1⟩
abbrev F.LSN_WAKE_PRE : Fld := ⟨A.LSN_WAKE, 3, 1⟩
abbrev F.LSN_WAKE_RPRE : Fld := ⟨A.LSN_WAKE, 4, 4⟩
abbrev F.LSN_WAKE_SRC : Fld := ⟨A.LSN_WAKE, 8, 2⟩
abbrev F.LSN_WAKE_SEED : Fld := ⟨A.LSN_WAKE, 10, 6⟩
abbrev F.LSN_WAKE_DEVP : Fld := ⟨A.LSN_WAKE, 16, 2⟩
abbrev F.LSN_MARK_LO_MARK : Fld := ⟨A.LSN_MARK_LO, 0, 32⟩
abbrev F.LSN_MARK_HI_MARK : Fld := ⟨A.LSN_MARK_HI, 0, 32⟩
abbrev F.LSN_RMARK_LO_MARK : Fld := ⟨A.LSN_RMARK_LO, 0, 32⟩
abbrev F.LSN_RMARK_HI_MARK : Fld := ⟨A.LSN_RMARK_HI, 0, 32⟩
abbrev F.LSN_PRE_TMO : Fld := ⟨A.LSN_PRE, 0, 9⟩
abbrev F.LSN_PRE_GAP : Fld := ⟨A.LSN_PRE, 16, 8⟩
abbrev F.LSN_SADu_CFG_SRC (u : Nat) : Fld := ⟨A.LSN_SADu_CFG u, 0, 8⟩
abbrev F.LSN_SADu_CFG_MARGIN (u : Nat) : Fld := ⟨A.LSN_SADu_CFG u, 8, 8⟩
abbrev F.LSN_SADu_CFG_ONSET (u : Nat) : Fld := ⟨A.LSN_SADu_CFG u, 16, 4⟩
abbrev F.LSN_SADu_CFG_HANG (u : Nat) : Fld := ⟨A.LSN_SADu_CFG u, 24, 8⟩
abbrev F.LSN_SADu_TL_RISE (u : Nat) : Fld := ⟨A.LSN_SADu_TL u, 0, 8⟩
abbrev F.LSN_SADu_TL_FREEZE (u : Nat) : Fld := ⟨A.LSN_SADu_TL u, 8, 1⟩
abbrev F.LSN_SADu_TL_RESEED (u : Nat) : Fld := ⟨A.LSN_SADu_TL u, 9, 1⟩
abbrev F.LSN_SADu_TL_CEIL (u : Nat) : Fld := ⟨A.LSN_SADu_TL u, 16, 8⟩
abbrev F.LSN_SADu_TL_MAXEV (u : Nat) : Fld := ⟨A.LSN_SADu_TL u, 24, 8⟩
abbrev F.LSN_SADu_FREF_FREF (u : Nat) : Fld := ⟨A.LSN_SADu_FREF u, 0, 16⟩
abbrev F.LSN_SADu_ST_ACTIVE (u : Nat) : Fld := ⟨A.LSN_SADu_ST u, 0, 1⟩
abbrev F.LSN_SADu_ST_SEEDING (u : Nat) : Fld := ⟨A.LSN_SADu_ST u, 1, 1⟩
abbrev F.LSN_SADu_ST_FROZEN (u : Nat) : Fld := ⟨A.LSN_SADu_ST u, 2, 1⟩
abbrev F.LSN_SADu_ST_FLOOR_SEEDED_LOUD (u : Nat) : Fld := ⟨A.LSN_SADu_ST u, 3, 1⟩
abbrev F.LSN_SADu_ST_SUSTAINED (u : Nat) : Fld := ⟨A.LSN_SADu_ST u, 4, 1⟩
abbrev F.LSN_SADu_ST_RAIL_HI (u : Nat) : Fld := ⟨A.LSN_SADu_ST u, 5, 1⟩
abbrev F.LSN_SADu_ST_RAIL_LO (u : Nat) : Fld := ⟨A.LSN_SADu_ST u, 6, 1⟩
abbrev F.LSN_SADu_FLOOR_FLOOR (u : Nat) : Fld := ⟨A.LSN_SADu_FLOOR u, 0, 16⟩
abbrev F.LSN_SADu_FLOOR_LEVEL (u : Nat) : Fld := ⟨A.LSN_SADu_FLOOR u, 16, 16⟩
abbrev F.LSN_SADu_OFS_OFS (u : Nat) : Fld := ⟨A.LSN_SADu_OFS u, 0, 16⟩
abbrev F.LSN_SADu_OFS_SOFS (u : Nat) : Fld := ⟨A.LSN_SADu_OFS u, 16, 16⟩
abbrev F.LSN_SADu_EVT_LO_COUNT (u : Nat) : Fld := ⟨A.LSN_SADu_EVT_LO u, 0, 32⟩
abbrev F.LSN_SADu_EVT_HI_COUNT (u : Nat) : Fld := ⟨A.LSN_SADu_EVT_HI u, 0, 32⟩
abbrev F.LSN_CNT_x_LO_COUNT (k : Nat) : Fld := ⟨A.LSN_CNT_x_LO k, 0, 32⟩
abbrev F.LSN_CNT_x_HI_COUNT (k : Nat) : Fld := ⟨A.LSN_CNT_x_HI k, 0, 32⟩
/-! DRL, R287 -/
abbrev F.DRL_CFG_EN : Fld := ⟨A.DRL_CFG, 0, 1⟩
abbrev F.DRL_CFG_NET_EN : Fld := ⟨A.DRL_CFG, 1, 1⟩
abbrev F.DRL_CFG_MARK_TX : Fld := ⟨A.DRL_CFG, 2, 1⟩
abbrev F.DRL_CFG_MARK_FINE : Fld := ⟨A.DRL_CFG, 3, 1⟩
abbrev F.DRL_CAP_CYC : Fld := ⟨A.DRL_CAP, 0, 32⟩
abbrev F.DRL_DEM_CYC : Fld := ⟨A.DRL_DEM, 0, 32⟩
abbrev F.DRL_SDEM_CYC : Fld := ⟨A.DRL_SDEM, 0, 32⟩
abbrev F.DRL_ST_OVR : Fld := ⟨A.DRL_ST, 0, 16⟩
abbrev F.DRL_INn_CFG_TL (n : Nat) : Fld := ⟨A.DRL_INn_CFG n, 0, 1⟩
abbrev F.DRL_INn_CFG_EN (n : Nat) : Fld := ⟨A.DRL_INn_CFG n, 1, 1⟩
abbrev F.DRL_INn_ST_MARKED (n : Nat) : Fld := ⟨A.DRL_INn_ST n, 0, 1⟩
abbrev F.DRL_INn_ST_CAND (n : Nat) : Fld := ⟨A.DRL_INn_ST n, 8, 8⟩
abbrev F.DRL_INn_ST_RST (n : Nat) : Fld := ⟨A.DRL_INn_ST n, 16, 16⟩
abbrev F.DRL_INn_GD_GD (n : Nat) : Fld := ⟨A.DRL_INn_GD n, 0, 16⟩
abbrev F.DRL_EVQ_ST_OCC : Fld := ⟨A.DRL_EVQ_ST, 0, 7⟩
abbrev F.DRL_EVQ_ST_OVF : Fld := ⟨A.DRL_EVQ_ST, 16, 16⟩
abbrev F.DRL_NET_IN : Fld := ⟨A.DRL_NET, 0, 2⟩
abbrev F.DRL_NET_EVAL : Fld := ⟨A.DRL_NET, 8, 4⟩
abbrev F.DRL_NET_C : Fld := ⟨A.DRL_NET, 16, 7⟩
abbrev F.DRL_NET_STATE : Fld := ⟨A.DRL_NET, 24, 2⟩
abbrev F.DRL_NET_MACS_MACS : Fld := ⟨A.DRL_NET_MACS, 0, 32⟩
abbrev F.DRL_ENR_CTL_START : Fld := ⟨A.DRL_ENR_CTL, 0, 1⟩
abbrev F.DRL_ENR_CTL_ABORT : Fld := ⟨A.DRL_ENR_CTL, 1, 1⟩
abbrev F.DRL_ENR_CTL_SLOT : Fld := ⟨A.DRL_ENR_CTL, 8, 6⟩
abbrev F.DRL_ENR_CTL_IN : Fld := ⟨A.DRL_ENR_CTL, 16, 2⟩
abbrev F.DRL_ENR_CTL_COUNT : Fld := ⟨A.DRL_ENR_CTL, 24, 5⟩
abbrev F.DRL_ENR_ST_STATE : Fld := ⟨A.DRL_ENR_ST, 0, 3⟩
abbrev F.DRL_ENR_ST_CAPT : Fld := ⟨A.DRL_ENR_ST, 8, 5⟩
abbrev F.DRL_ENR_ST_ERR : Fld := ⟨A.DRL_ENR_ST, 16, 4⟩
abbrev F.DRL_ENR_RES_MINSCORE : Fld := ⟨A.DRL_ENR_RES, 0, 10⟩
abbrev F.DRL_ENR_RES_LEN : Fld := ⟨A.DRL_ENR_RES, 16, 8⟩
abbrev F.DRL_RECCTL_ACTION : Fld := ⟨A.DRL_RECCTL, 0, 3⟩
abbrev F.DRL_RECCTL_SLOT : Fld := ⟨A.DRL_RECCTL, 8, 6⟩
abbrev F.DRL_RECCTL_BUSY : Fld := ⟨A.DRL_RECCTL, 16, 1⟩
abbrev F.DRL_RECCTL_DONE : Fld := ⟨A.DRL_RECCTL, 17, 1⟩
abbrev F.DRL_RECCTL_ERR : Fld := ⟨A.DRL_RECCTL, 20, 4⟩
abbrev F.DRL_RECID_ID : Fld := ⟨A.DRL_RECID, 0, 32⟩
abbrev F.DRL_RECLEN_TOTAL : Fld := ⟨A.DRL_RECLEN, 0, 19⟩
abbrev F.DRL_RECOFS_OFS : Fld := ⟨A.DRL_RECOFS, 0, 19⟩
abbrev F.DRL_RECCHUNK_CHUNK : Fld := ⟨A.DRL_RECCHUNK, 0, 14⟩
abbrev F.DRL_SLOTs_CFG_TYPE (s : Nat) : Fld := ⟨A.DRL_SLOTs_CFG s, 0, 2⟩
abbrev F.DRL_SLOTs_CFG_CLASS (s : Nat) : Fld := ⟨A.DRL_SLOTs_CFG s, 2, 4⟩
abbrev F.DRL_SLOTs_CFG_INMASK (s : Nat) : Fld := ⟨A.DRL_SLOTs_CFG s, 8, 4⟩
abbrev F.DRL_SLOTs_CFG_SENTRY (s : Nat) : Fld := ⟨A.DRL_SLOTs_CFG s, 12, 1⟩
abbrev F.DRL_SLOTs_CFG_ARM (s : Nat) : Fld := ⟨A.DRL_SLOTs_CFG s, 13, 1⟩
abbrev F.DRL_SLOTs_CFG_NETOUT (s : Nat) : Fld := ⟨A.DRL_SLOTs_CFG s, 16, 4⟩
abbrev F.DRL_SLOTs_THR_THR (s : Nat) : Fld := ⟨A.DRL_SLOTs_THR s, 0, 10⟩
abbrev F.DRL_SLOTs_THR_PRE (s : Nat) : Fld := ⟨A.DRL_SLOTs_THR s, 16, 10⟩
abbrev F.DRL_SLOTs_ADJ_OSLOPE (s : Nat) : Fld := ⟨A.DRL_SLOTs_ADJ s, 0, 8⟩
abbrev F.DRL_SLOTs_ADJ_REFR (s : Nat) : Fld := ⟨A.DRL_SLOTs_ADJ s, 8, 8⟩
abbrev F.DRL_SLOTs_ADJ_BAND (s : Nat) : Fld := ⟨A.DRL_SLOTs_ADJ s, 16, 8⟩
abbrev F.DRL_SLOTs_ADJ_LEN (s : Nat) : Fld := ⟨A.DRL_SLOTs_ADJ s, 24, 8⟩
abbrev F.DRL_SLOTs_ST_STATE (s : Nat) : Fld := ⟨A.DRL_SLOTs_ST s, 0, 3⟩
abbrev F.DRL_SLOTs_ST_LAST (s : Nat) : Fld := ⟨A.DRL_SLOTs_ST s, 16, 10⟩
abbrev F.DRL_SLOTs_CNT_LO_COUNT (s : Nat) : Fld := ⟨A.DRL_SLOTs_CNT_LO s, 0, 32⟩
abbrev F.DRL_SLOTs_CNT_HI_COUNT (s : Nat) : Fld := ⟨A.DRL_SLOTs_CNT_HI s, 0, 32⟩
abbrev F.DRL_SLOTs_ID_ID (s : Nat) : Fld := ⟨A.DRL_SLOTs_ID s, 0, 32⟩
/-! SWA, R330 -/
abbrev F.SWA_CFG_DIV : Fld := ⟨A.SWA_CFG, 0, 14⟩
abbrev F.SWA_CFG_SAFE_STRIP : Fld := ⟨A.SWA_CFG, 16, 3⟩
abbrev F.SWA_CFG_SAFE_EN : Fld := ⟨A.SWA_CFG, 19, 1⟩
abbrev F.SWA_CFG_AUTOREP : Fld := ⟨A.SWA_CFG, 20, 1⟩
abbrev F.SWA_ST_RUN : Fld := ⟨A.SWA_ST, 0, 1⟩
abbrev F.SWA_ST_ZBUSY : Fld := ⟨A.SWA_ST, 1, 2⟩
abbrev F.SWA_ST_ZDONE : Fld := ⟨A.SWA_ST, 3, 1⟩
abbrev F.SWA_ST_PRE_READY : Fld := ⟨A.SWA_ST, 4, 1⟩
abbrev F.SWA_SC_LO_SC : Fld := ⟨A.SWA_SC_LO, 0, 32⟩
abbrev F.SWA_SC_HI_SC : Fld := ⟨A.SWA_SC_HI, 0, 32⟩
abbrev F.SWA_PERIOD_LO_COUNT : Fld := ⟨A.SWA_PERIOD_LO, 0, 32⟩
abbrev F.SWA_PERIOD_HI_COUNT : Fld := ⟨A.SWA_PERIOD_HI, 0, 32⟩
abbrev F.SWA_MITTEN_OPEN : Fld := ⟨A.SWA_MITTEN, 0, 1⟩
abbrev F.SWA_MITTEN_SS_OPEN : Fld := ⟨A.SWA_MITTEN, 1, 1⟩
abbrev F.SWA_MITTEN_RELEASE : Fld := ⟨A.SWA_MITTEN, 2, 1⟩
abbrev F.SWA_MITTEN_CAUSE : Fld := ⟨A.SWA_MITTEN, 4, 4⟩
abbrev F.SWA_MITTEN_TMO : Fld := ⟨A.SWA_MITTEN, 8, 7⟩
abbrev F.SWA_MITTEN_IDLE : Fld := ⟨A.SWA_MITTEN, 16, 7⟩
abbrev F.SWA_PRE_PRE : Fld := ⟨A.SWA_PRE, 0, 16⟩
abbrev F.SWA_WSTART_LO_W : Fld := ⟨A.SWA_WSTART_LO, 0, 32⟩
abbrev F.SWA_WSTART_HI_W : Fld := ⟨A.SWA_WSTART_HI, 0, 32⟩
abbrev F.SWA_SSWSTART_LO_SSW : Fld := ⟨A.SWA_SSWSTART_LO, 0, 32⟩
abbrev F.SWA_SSWSTART_HI_SSW : Fld := ⟨A.SWA_SSWSTART_HI, 0, 32⟩
abbrev F.SWA_SSAVAIL_FRAMES : Fld := ⟨A.SWA_SSAVAIL, 0, 32⟩
abbrev F.SWA_DENY_COUNT : Fld := ⟨A.SWA_DENY, 0, 32⟩
abbrev F.SWA_HWIN_MEM : Fld := ⟨A.SWA_HWIN, 0, 1⟩
abbrev F.SWA_HWIN_BASE : Fld := ⟨A.SWA_HWIN, 8, 5⟩
abbrev F.SWA_SSCTR_LO_SSC : Fld := ⟨A.SWA_SSCTR_LO, 0, 32⟩
abbrev F.SWA_SSCTR_HI_SSC : Fld := ⟨A.SWA_SSCTR_HI, 0, 32⟩
abbrev F.SWA_SSHEAD_HEAD : Fld := ⟨A.SWA_SSHEAD, 0, 9⟩
abbrev F.SWA_SSHEAD_FULL : Fld := ⟨A.SWA_SSHEAD, 16, 1⟩
abbrev F.SWA_SSPROD_LO_COUNT : Fld := ⟨A.SWA_SSPROD_LO, 0, 32⟩
abbrev F.SWA_SSPROD_HI_COUNT : Fld := ⟨A.SWA_SSPROD_HI, 0, 32⟩
abbrev F.SWA_SSEXP_LO_COUNT : Fld := ⟨A.SWA_SSEXP_LO, 0, 32⟩
abbrev F.SWA_SSEXP_HI_COUNT : Fld := ⟨A.SWA_SSEXP_HI, 0, 32⟩
abbrev F.SWA_SSDISC_LO_COUNT : Fld := ⟨A.SWA_SSDISC_LO, 0, 32⟩
abbrev F.SWA_SSDISC_HI_COUNT : Fld := ⟨A.SWA_SSDISC_HI, 0, 32⟩
abbrev F.SWA_ECC_DBE : Fld := ⟨A.SWA_ECC, 0, 1⟩
abbrev F.SWA_ECC_SAFE_DBE : Fld := ⟨A.SWA_ECC, 1, 1⟩
abbrev F.SWA_ECC_SS_DBE : Fld := ⟨A.SWA_ECC, 2, 1⟩
abbrev F.SWA_DBEADDR_ADDR : Fld := ⟨A.SWA_DBEADDR, 0, 25⟩
abbrev F.SWA_DBEADDR_MEM : Fld := ⟨A.SWA_DBEADDR, 31, 1⟩
abbrev F.SWA_SBE_LO_COUNT : Fld := ⟨A.SWA_SBE_LO, 0, 32⟩
abbrev F.SWA_SBE_HI_COUNT : Fld := ⟨A.SWA_SBE_HI, 0, 32⟩
abbrev F.SWA_REP_USED : Fld := ⟨A.SWA_REP, 0, 9⟩
abbrev F.SWA_REP_PEND : Fld := ⟨A.SWA_REP, 16, 9⟩
abbrev F.SWA_REP_EXHAUST : Fld := ⟨A.SWA_REP, 31, 1⟩
abbrev F.SWA_ZCTL_ZSWATH : Fld := ⟨A.SWA_ZCTL, 0, 1⟩
abbrev F.SWA_ZCTL_ZSHORT : Fld := ⟨A.SWA_ZCTL, 1, 1⟩
abbrev F.SWA_STs_CFG_EN (s : Nat) : Fld := ⟨A.SWA_STs_CFG s, 0, 1⟩
abbrev F.SWA_STs_CFG_FMT (s : Nat) : Fld := ⟨A.SWA_STs_CFG s, 1, 2⟩
abbrev F.SWA_STs_CFG_FIRST (s : Nat) : Fld := ⟨A.SWA_STs_CFG s, 8, 7⟩
abbrev F.SWA_STs_CFG_NSLOT (s : Nat) : Fld := ⟨A.SWA_STs_CFG s, 16, 7⟩
abbrev F.SWA_STs_BASE_BASE (s : Nat) : Fld := ⟨A.SWA_STs_BASE s, 0, 19⟩
abbrev F.SWA_STs_NBLK_NBLK (s : Nat) : Fld := ⟨A.SWA_STs_NBLK s, 0, 16⟩
abbrev F.SWA_STs_NBLK_BSIZE (s : Nat) : Fld := ⟨A.SWA_STs_NBLK s, 16, 16⟩
abbrev F.SWA_STs_HEAD_HEAD (s : Nat) : Fld := ⟨A.SWA_STs_HEAD s, 0, 16⟩
abbrev F.SWA_STs_HEAD_FULL (s : Nat) : Fld := ⟨A.SWA_STs_HEAD s, 16, 1⟩
abbrev F.SWA_STs_UNL_DEST (s : Nat) : Fld := ⟨A.SWA_STs_UNL s, 0, 2⟩
abbrev F.SWA_STs_UNL_WAIT (s : Nat) : Fld := ⟨A.SWA_STs_UNL s, 8, 1⟩
abbrev F.SWA_STs_AVAIL_FRAMES (s : Nat) : Fld := ⟨A.SWA_STs_AVAIL s, 0, 32⟩
abbrev F.SWA_STs_PEND_FRAMES (s : Nat) : Fld := ⟨A.SWA_STs_PEND s, 0, 32⟩
abbrev F.SWA_STs_LAG_FRAMES (s : Nat) : Fld := ⟨A.SWA_STs_LAG s, 0, 32⟩
abbrev F.SWA_STs_UPTR_LO_UPTR (s : Nat) : Fld := ⟨A.SWA_STs_UPTR_LO s, 0, 32⟩
abbrev F.SWA_STs_UPTR_HI_UPTR (s : Nat) : Fld := ⟨A.SWA_STs_UPTR_HI s, 0, 32⟩
abbrev F.SWA_STs_UACK_LO_UACK (s : Nat) : Fld := ⟨A.SWA_STs_UACK_LO s, 0, 32⟩
abbrev F.SWA_STs_UACK_HI_UACK (s : Nat) : Fld := ⟨A.SWA_STs_UACK_HI s, 0, 32⟩
abbrev F.SWA_STs_PROD_LO_COUNT (s : Nat) : Fld := ⟨A.SWA_STs_PROD_LO s, 0, 32⟩
abbrev F.SWA_STs_PROD_HI_COUNT (s : Nat) : Fld := ⟨A.SWA_STs_PROD_HI s, 0, 32⟩
abbrev F.SWA_STs_UNLD_LO_COUNT (s : Nat) : Fld := ⟨A.SWA_STs_UNLD_LO s, 0, 32⟩
abbrev F.SWA_STs_UNLD_HI_COUNT (s : Nat) : Fld := ⟨A.SWA_STs_UNLD_HI s, 0, 32⟩
abbrev F.SWA_STs_EXP_LO_COUNT (s : Nat) : Fld := ⟨A.SWA_STs_EXP_LO s, 0, 32⟩
abbrev F.SWA_STs_EXP_HI_COUNT (s : Nat) : Fld := ⟨A.SWA_STs_EXP_HI s, 0, 32⟩
abbrev F.SWA_STs_DISC_LO_COUNT (s : Nat) : Fld := ⟨A.SWA_STs_DISC_LO s, 0, 32⟩
abbrev F.SWA_STs_DISC_HI_COUNT (s : Nat) : Fld := ⟨A.SWA_STs_DISC_HI s, 0, 32⟩
abbrev F.SWA_STs_LOST_LO_COUNT (s : Nat) : Fld := ⟨A.SWA_STs_LOST_LO s, 0, 32⟩
abbrev F.SWA_STs_LOST_HI_COUNT (s : Nat) : Fld := ⟨A.SWA_STs_LOST_HI s, 0, 32⟩
/-! FRW, R371 -/
abbrev F.FRW_CFG_SPLIT : Fld := ⟨A.FRW_CFG, 0, 1⟩
abbrev F.FRW_CFG_CWIN_BASE : Fld := ⟨A.FRW_CFG, 8, 8⟩
abbrev F.FRW_CFG_CWIN_SIZE : Fld := ⟨A.FRW_CFG, 16, 8⟩
abbrev F.FRW_IMG_FACT : Fld := ⟨A.FRW_IMG, 0, 1⟩
abbrev F.FRW_IMG_SACT : Fld := ⟨A.FRW_IMG, 1, 1⟩
abbrev F.FRW_IMG_NACT : Fld := ⟨A.FRW_IMG, 2, 1⟩
abbrev F.FRW_IMG_FVER : Fld := ⟨A.FRW_IMG, 16, 16⟩
abbrev F.FRW_SWAP_REQ : Fld := ⟨A.FRW_SWAP, 0, 1⟩
abbrev F.FRW_SWAP_STATE : Fld := ⟨A.FRW_SWAP, 1, 3⟩
abbrev F.FRW_SWAP_ERR : Fld := ⟨A.FRW_SWAP, 4, 4⟩
abbrev F.FRW_SWAP_DONE : Fld := ⟨A.FRW_SWAP, 8, 1⟩
abbrev F.FRW_SENT_CTL_RUN : Fld := ⟨A.FRW_SENT_CTL, 0, 1⟩
abbrev F.FRW_SENT_CTL_UNSIGNED : Fld := ⟨A.FRW_SENT_CTL, 1, 1⟩
abbrev F.FRW_SENT_CTL_STATE : Fld := ⟨A.FRW_SENT_CTL, 4, 3⟩
abbrev F.FRW_COREc_CTL_RUN (c : Nat) : Fld := ⟨A.FRW_COREc_CTL c, 0, 1⟩
abbrev F.FRW_COREc_CTL_STEP (c : Nat) : Fld := ⟨A.FRW_COREc_CTL c, 1, 1⟩
abbrev F.FRW_COREc_CTL_RETIRE (c : Nat) : Fld := ⟨A.FRW_COREc_CTL c, 2, 1⟩
abbrev F.FRW_COREc_ST_STATE (c : Nat) : Fld := ⟨A.FRW_COREc_ST c, 0, 3⟩
abbrev F.FRW_COREc_ST_UNSIGNED (c : Nat) : Fld := ⟨A.FRW_COREc_ST c, 4, 1⟩
abbrev F.FRW_COREc_ST_HALF (c : Nat) : Fld := ⟨A.FRW_COREc_ST c, 5, 1⟩
abbrev F.FRW_COREc_ST_TASK (c : Nat) : Fld := ⟨A.FRW_COREc_ST c, 8, 4⟩
abbrev F.FRW_COREc_ST_INIT (c : Nat) : Fld := ⟨A.FRW_COREc_ST c, 12, 1⟩
abbrev F.FRW_COREc_ST_CAUSE (c : Nat) : Fld := ⟨A.FRW_COREc_ST c, 16, 8⟩
abbrev F.FRW_COREc_PC_PC (c : Nat) : Fld := ⟨A.FRW_COREc_PC c, 0, 32⟩
abbrev F.FRW_COREc_ECC_SBE (c : Nat) : Fld := ⟨A.FRW_COREc_ECC c, 0, 16⟩
abbrev F.FRW_COREc_ECC_DBE (c : Nat) : Fld := ⟨A.FRW_COREc_ECC c, 16, 1⟩
abbrev F.FRW_COREc_ECC_PDBE (c : Nat) : Fld := ⟨A.FRW_COREc_ECC c, 17, 1⟩
abbrev F.FRW_COREc_ECC_POISON (c : Nat) : Fld := ⟨A.FRW_COREc_ECC c, 18, 1⟩
abbrev F.FRW_COREc_CYC_LO_CYC (c : Nat) : Fld := ⟨A.FRW_COREc_CYC_LO c, 0, 32⟩
abbrev F.FRW_COREc_CYC_HI_CYC (c : Nat) : Fld := ⟨A.FRW_COREc_CYC_HI c, 0, 32⟩
abbrev F.FRW_COREc_BUSY_LO_CYC (c : Nat) : Fld := ⟨A.FRW_COREc_BUSY_LO c, 0, 32⟩
abbrev F.FRW_COREc_BUSY_HI_CYC (c : Nat) : Fld := ⟨A.FRW_COREc_BUSY_HI c, 0, 32⟩
abbrev F.FRW_COREc_BUD_COUNT (c : Nat) : Fld := ⟨A.FRW_COREc_BUD c, 0, 16⟩
abbrev F.FRW_COREc_BUD_LAST (c : Nat) : Fld := ⟨A.FRW_COREc_BUD c, 16, 4⟩
abbrev F.FRW_Tc_t_ENTRY_ADDR (c t : Nat) : Fld := ⟨A.FRW_Tc_t_ENTRY c t, 0, 16⟩
abbrev F.FRW_Tc_t_ENTRY_KIND (c t : Nat) : Fld := ⟨A.FRW_Tc_t_ENTRY c t, 16, 2⟩
abbrev F.FRW_Tc_t_ENTRY_MOVABLE (c t : Nat) : Fld := ⟨A.FRW_Tc_t_ENTRY c t, 20, 1⟩
abbrev F.FRW_Tc_t_ENTRY_OVRSTOP (c t : Nat) : Fld := ⟨A.FRW_Tc_t_ENTRY c t, 21, 1⟩
abbrev F.FRW_Tc_t_TRIG_SRC (c t : Nat) : Fld := ⟨A.FRW_Tc_t_TRIG c t, 0, 8⟩
abbrev F.FRW_Tc_t_TRIG_N (c t : Nat) : Fld := ⟨A.FRW_Tc_t_TRIG c t, 8, 24⟩
abbrev F.FRW_Tc_t_BOUND_CYC (c t : Nat) : Fld := ⟨A.FRW_Tc_t_BOUND c t, 0, 24⟩
abbrev F.FRW_Tc_t_ST_LATE (c t : Nat) : Fld := ⟨A.FRW_Tc_t_ST c t, 0, 16⟩
abbrev F.FRW_Tc_t_ST_OVR (c t : Nat) : Fld := ⟨A.FRW_Tc_t_ST c t, 16, 16⟩
abbrev F.FRW_Tc_t_MAX_CYC (c t : Nat) : Fld := ⟨A.FRW_Tc_t_MAX c t, 0, 24⟩
/-! QUE, R517 -/
abbrev F.QUE_ST_AUDERR : Fld := ⟨A.QUE_ST, 0, 1⟩
abbrev F.QUE_ST_AUDQ : Fld := ⟨A.QUE_ST, 8, 7⟩
abbrev F.QUE_ST_HQNE : Fld := ⟨A.QUE_ST, 16, 8⟩
abbrev F.QUE_POOL_USED : Fld := ⟨A.QUE_POOL, 0, 15⟩
abbrev F.QUE_POOL_CAP : Fld := ⟨A.QUE_POOL, 16, 15⟩
abbrev F.QUE_DROP_LO_COUNT : Fld := ⟨A.QUE_DROP_LO, 0, 32⟩
abbrev F.QUE_DROP_HI_COUNT : Fld := ⟨A.QUE_DROP_HI, 0, 32⟩
abbrev F.QUE_UNDER_LO_COUNT : Fld := ⟨A.QUE_UNDER_LO, 0, 32⟩
abbrev F.QUE_UNDER_HI_COUNT : Fld := ⟨A.QUE_UNDER_HI, 0, 32⟩
abbrev F.QUE_HWDROP_LO_COUNT : Fld := ⟨A.QUE_HWDROP_LO, 0, 32⟩
abbrev F.QUE_HWDROP_HI_COUNT : Fld := ⟨A.QUE_HWDROP_HI, 0, 32⟩
abbrev F.QUE_AUDSEL_INST : Fld := ⟨A.QUE_AUDSEL, 0, 6⟩
abbrev F.QUE_Qn_CFG_EN (n : Nat) : Fld := ⟨A.QUE_Qn_CFG n, 0, 1⟩
abbrev F.QUE_Qn_CFG_CLASS (n : Nat) : Fld := ⟨A.QUE_Qn_CFG n, 1, 2⟩
abbrev F.QUE_Qn_CFG_DEPTH4 (n : Nat) : Fld := ⟨A.QUE_Qn_CFG n, 8, 9⟩
abbrev F.QUE_Qn_CFG_RDIV (n : Nat) : Fld := ⟨A.QUE_Qn_CFG n, 17, 14⟩
abbrev F.QUE_Qn_CFG_HWM_CLR (n : Nat) : Fld := ⟨A.QUE_Qn_CFG n, 31, 1⟩
abbrev F.QUE_Qn_PROD_CORE (n : Nat) : Fld := ⟨A.QUE_Qn_PROD n, 0, 2⟩
abbrev F.QUE_Qn_PROD_TASK (n : Nat) : Fld := ⟨A.QUE_Qn_PROD n, 4, 4⟩
abbrev F.QUE_Qn_PROD_PUSHN (n : Nat) : Fld := ⟨A.QUE_Qn_PROD n, 16, 11⟩
abbrev F.QUE_Qn_CONS_CORE (n : Nat) : Fld := ⟨A.QUE_Qn_CONS n, 0, 2⟩
abbrev F.QUE_Qn_CONS_TASK (n : Nat) : Fld := ⟨A.QUE_Qn_CONS n, 4, 4⟩
abbrev F.QUE_Qn_CONS_POPN (n : Nat) : Fld := ⟨A.QUE_Qn_CONS n, 16, 11⟩
abbrev F.QUE_Qn_RATE_RATE (n : Nat) : Fld := ⟨A.QUE_Qn_RATE n, 0, 32⟩
abbrev F.QUE_Qn_AUD_AUD (n : Nat) : Fld := ⟨A.QUE_Qn_AUD n, 0, 32⟩
abbrev F.QUE_Qn_CNT_DROP (n : Nat) : Fld := ⟨A.QUE_Qn_CNT n, 0, 16⟩
abbrev F.QUE_Qn_CNT_UNDER (n : Nat) : Fld := ⟨A.QUE_Qn_CNT n, 16, 16⟩
abbrev F.QUE_Qn_HWM_HWM (n : Nat) : Fld := ⟨A.QUE_Qn_HWM n, 0, 11⟩
abbrev F.QUE_AUDXk_AUD (k : Nat) : Fld := ⟨A.QUE_AUDXk k, 0, 32⟩
/-! FRW, R518 -/
abbrev F.FRW_ADM_CAPC_CAP : Fld := ⟨A.FRW_ADM_CAPC, 0, 32⟩
abbrev F.FRW_ADM_Uc_U (c : Nat) : Fld := ⟨A.FRW_ADM_Uc c, 0, 32⟩
abbrev F.FRW_ADM_SAFE_CHAIN : Fld := ⟨A.FRW_ADM_SAFE, 0, 16⟩
abbrev F.FRW_ADM_SAFE_TDEC : Fld := ⟨A.FRW_ADM_SAFE, 16, 16⟩
abbrev F.FRW_ADM_ACC_LO_COUNT : Fld := ⟨A.FRW_ADM_ACC_LO, 0, 32⟩
abbrev F.FRW_ADM_ACC_HI_COUNT : Fld := ⟨A.FRW_ADM_ACC_HI, 0, 32⟩
abbrev F.FRW_ADM_REF_LO_COUNT : Fld := ⟨A.FRW_ADM_REF_LO, 0, 32⟩
abbrev F.FRW_ADM_REF_HI_COUNT : Fld := ⟨A.FRW_ADM_REF_HI, 0, 32⟩
abbrev F.FRW_FCMTk_SEQ (k : Nat) : Fld := ⟨A.FRW_FCMTk k, 0, 16⟩
abbrev F.FRW_FCMTk_RESULT (k : Nat) : Fld := ⟨A.FRW_FCMTk k, 16, 3⟩
abbrev F.FRW_FCMTk_STAGED (k : Nat) : Fld := ⟨A.FRW_FCMTk k, 20, 9⟩
abbrev F.FRW_FCMTk_REASON_REASON (k : Nat) : Fld := ⟨A.FRW_FCMTk_REASON k, 0, 16⟩
abbrev F.FRW_FCMTk_OBJ_OBJ (k : Nat) : Fld := ⟨A.FRW_FCMTk_OBJ k, 0, 32⟩
/-! INT, R544 -/
abbrev F.INT_ST_REQ : Fld := ⟨A.INT_ST, 0, 5⟩
abbrev F.INT_PENDw_PEND (w : Nat) : Fld := ⟨A.INT_PENDw w, 0, 32⟩
abbrev F.INT_LIVEw_LIVE (w : Nat) : Fld := ⟨A.INT_LIVEw w, 0, 32⟩
abbrev F.INT_DLVw_DLV (w : Nat) : Fld := ⟨A.INT_DLVw w, 0, 32⟩
abbrev F.INT_BELL_RING : Fld := ⟨A.INT_BELL, 0, 8⟩
abbrev F.INT_ENt_w_EN (t w : Nat) : Fld := ⟨A.INT_ENt_w t w, 0, 32⟩
abbrev F.INT_CLAIMt_NUM (t : Nat) : Fld := ⟨A.INT_CLAIMt t, 0, 7⟩
abbrev F.INT_CLAIMt_LIVE (t : Nat) : Fld := ⟨A.INT_CLAIMt t, 8, 1⟩
abbrev F.INT_CLAIMt_MORE (t : Nat) : Fld := ⟨A.INT_CLAIMt t, 9, 1⟩
abbrev F.INT_SRCs_PEND (s : Nat) : Fld := ⟨A.INT_SRCs s, 0, 1⟩
abbrev F.INT_SRCs_LIVE (s : Nat) : Fld := ⟨A.INT_SRCs s, 1, 1⟩
abbrev F.INT_SRCs_DTGT (s : Nat) : Fld := ⟨A.INT_SRCs s, 4, 3⟩
abbrev F.INT_Gg_CFG_FALLOW (g : Nat) : Fld := ⟨A.INT_Gg_CFG g, 0, 16⟩
abbrev F.INT_Gg_ST_PTR (g : Nat) : Fld := ⟨A.INT_Gg_ST g, 0, 3⟩
abbrev F.INT_Gg_ST_HOLD (g : Nat) : Fld := ⟨A.INT_Gg_ST g, 16, 16⟩
abbrev F.INT_Gg_EDGE_LO_COUNT (g : Nat) : Fld := ⟨A.INT_Gg_EDGE_LO g, 0, 32⟩
abbrev F.INT_Gg_EDGE_HI_COUNT (g : Nat) : Fld := ⟨A.INT_Gg_EDGE_HI g, 0, 32⟩
abbrev F.INT_Gg_COAL_LO_COUNT (g : Nat) : Fld := ⟨A.INT_Gg_COAL_LO g, 0, 32⟩
abbrev F.INT_Gg_COAL_HI_COUNT (g : Nat) : Fld := ⟨A.INT_Gg_COAL_HI g, 0, 32⟩
abbrev F.INT_Gg_CLAIM_LO_COUNT (g : Nat) : Fld := ⟨A.INT_Gg_CLAIM_LO g, 0, 32⟩
abbrev F.INT_Gg_CLAIM_HI_COUNT (g : Nat) : Fld := ⟨A.INT_Gg_CLAIM_HI g, 0, 32⟩
abbrev F.INT_Gg_CLR_LO_COUNT (g : Nat) : Fld := ⟨A.INT_Gg_CLR_LO g, 0, 32⟩
abbrev F.INT_Gg_CLR_HI_COUNT (g : Nat) : Fld := ⟨A.INT_Gg_CLR_HI g, 0, 32⟩
/-! ADC, R587 -/
abbrev F.ADC_REF_SEL : Fld := ⟨A.ADC_REF, 0, 2⟩
abbrev F.ADC_REF_REFEN : Fld := ⟨A.ADC_REF, 2, 1⟩
abbrev F.ADC_REF_REFOK : Fld := ⟨A.ADC_REF, 8, 1⟩
abbrev F.ADC_REF_VNOM : Fld := ⟨A.ADC_REF, 16, 12⟩
abbrev F.ADC_CAL_SELF : Fld := ⟨A.ADC_CAL, 0, 1⟩
abbrev F.ADC_CAL_BUSY : Fld := ⟨A.ADC_CAL, 1, 1⟩
abbrev F.ADC_CAL_DONE : Fld := ⟨A.ADC_CAL, 2, 1⟩
abbrev F.ADC_CAL_SOK : Fld := ⟨A.ADC_CAL, 4, 3⟩
abbrev F.ADC_CAL_ERR : Fld := ⟨A.ADC_CAL, 8, 4⟩
abbrev F.ADC_PLAUS_EN : Fld := ⟨A.ADC_PLAUS, 0, 1⟩
abbrev F.ADC_PLAUS_MISLIM : Fld := ⟨A.ADC_PLAUS, 8, 8⟩
abbrev F.ADC_PLAUS_LASTDIFF : Fld := ⟨A.ADC_PLAUS, 16, 13⟩
abbrev F.ADC_WERR_WERR : Fld := ⟨A.ADC_WERR, 0, 1⟩
abbrev F.ADC_MIS_LO_COUNT : Fld := ⟨A.ADC_MIS_LO, 0, 32⟩
abbrev F.ADC_MIS_HI_COUNT : Fld := ⟨A.ADC_MIS_HI, 0, 32⟩
abbrev F.ADC_PAIR_LO_COUNT : Fld := ⟨A.ADC_PAIR_LO, 0, 32⟩
abbrev F.ADC_PAIR_HI_COUNT : Fld := ⟨A.ADC_PAIR_HI, 0, 32⟩
abbrev F.ADC_PLOST_COUNT : Fld := ⟨A.ADC_PLOST, 0, 32⟩
abbrev F.ADC_x_CTL_MODE (x : Nat) : Fld := ⟨A.ADC_x_CTL x, 0, 2⟩
abbrev F.ADC_x_CTL_TRIG (x : Nat) : Fld := ⟨A.ADC_x_CTL x, 2, 1⟩
abbrev F.ADC_x_CTL_WENT (x : Nat) : Fld := ⟨A.ADC_x_CTL x, 4, 4⟩
abbrev F.ADC_x_CTL_WDIR (x : Nat) : Fld := ⟨A.ADC_x_CTL x, 8, 2⟩
abbrev F.ADC_x_CTL_WCNT (x : Nat) : Fld := ⟨A.ADC_x_CTL x, 12, 4⟩
abbrev F.ADC_x_MASK_MASK (x : Nat) : Fld := ⟨A.ADC_x_MASK x, 0, 16⟩
abbrev F.ADC_x_WIN_LO (x : Nat) : Fld := ⟨A.ADC_x_WIN x, 0, 12⟩
abbrev F.ADC_x_WIN_HI (x : Nat) : Fld := ⟨A.ADC_x_WIN x, 16, 12⟩
abbrev F.ADC_x_STAT_RUN (x : Nat) : Fld := ⟨A.ADC_x_STAT x, 0, 1⟩
abbrev F.ADC_x_STAT_ENT (x : Nat) : Fld := ⟨A.ADC_x_STAT x, 4, 4⟩
abbrev F.ADC_x_STAT_TPEND (x : Nat) : Fld := ⟨A.ADC_x_STAT x, 8, 1⟩
abbrev F.ADC_x_STAT_WIN (x : Nat) : Fld := ⟨A.ADC_x_STAT x, 9, 1⟩
abbrev F.ADC_x_STAT_URGB (x : Nat) : Fld := ⟨A.ADC_x_STAT x, 10, 1⟩
abbrev F.ADC_x_STAT_WAITP (x : Nat) : Fld := ⟨A.ADC_x_STAT x, 11, 1⟩
abbrev F.ADC_x_STAT_TCOAL (x : Nat) : Fld := ⟨A.ADC_x_STAT x, 16, 16⟩
abbrev F.ADC_x_SCANS_LO_COUNT (x : Nat) : Fld := ⟨A.ADC_x_SCANS_LO x, 0, 32⟩
abbrev F.ADC_x_SCANS_HI_COUNT (x : Nat) : Fld := ⟨A.ADC_x_SCANS_HI x, 0, 32⟩
abbrev F.ADC_x_DONE_LO_COUNT (x : Nat) : Fld := ⟨A.ADC_x_DONE_LO x, 0, 32⟩
abbrev F.ADC_x_DONE_HI_COUNT (x : Nat) : Fld := ⟨A.ADC_x_DONE_HI x, 0, 32⟩
abbrev F.ADC_x_DISC_LO_COUNT (x : Nat) : Fld := ⟨A.ADC_x_DISC_LO x, 0, 32⟩
abbrev F.ADC_x_DISC_HI_COUNT (x : Nat) : Fld := ⟨A.ADC_x_DISC_HI x, 0, 32⟩
abbrev F.ADC_x_URG_BUSY (x : Nat) : Fld := ⟨A.ADC_x_URG x, 0, 1⟩
abbrev F.ADC_x_URG_ENT (x : Nat) : Fld := ⟨A.ADC_x_URG x, 4, 4⟩
abbrev F.ADC_x_URG_URGREJ (x : Nat) : Fld := ⟨A.ADC_x_URG x, 16, 16⟩
abbrev F.ADC_x_URGRES_VALUE (x : Nat) : Fld := ⟨A.ADC_x_URGRES x, 0, 12⟩
abbrev F.ADC_x_URGRES_ENT (x : Nat) : Fld := ⟨A.ADC_x_URGRES x, 12, 4⟩
abbrev F.ADC_x_URGRES_NREF (x : Nat) : Fld := ⟨A.ADC_x_URGRES x, 16, 1⟩
abbrev F.ADC_x_URGRES_NCAL (x : Nat) : Fld := ⟨A.ADC_x_URGRES x, 17, 1⟩
abbrev F.ADC_x_URGRES_SEQ (x : Nat) : Fld := ⟨A.ADC_x_URGRES x, 24, 8⟩
abbrev F.ADC_x_URGTIME_TIME (x : Nat) : Fld := ⟨A.ADC_x_URGTIME x, 0, 24⟩
abbrev F.ADC_x_LTAKE_MASK (x : Nat) : Fld := ⟨A.ADC_x_LTAKE x, 0, 16⟩
abbrev F.ADC_x_QST_OCC (x : Nat) : Fld := ⟨A.ADC_x_QST x, 0, 7⟩
abbrev F.ADC_x_QST_QDISC (x : Nat) : Fld := ⟨A.ADC_x_QST x, 8, 8⟩
abbrev F.ADC_x_QST_QOVF (x : Nat) : Fld := ⟨A.ADC_x_QST x, 16, 16⟩
abbrev F.ADC_x_SYSCTL_STEP (x : Nat) : Fld := ⟨A.ADC_x_SYSCTL x, 0, 2⟩
abbrev F.ADC_x_SYSCTL_ENT (x : Nat) : Fld := ⟨A.ADC_x_SYSCTL x, 4, 4⟩
abbrev F.ADC_x_SYSCTL_BUSY (x : Nat) : Fld := ⟨A.ADC_x_SYSCTL x, 8, 1⟩
abbrev F.ADC_x_SYSCTL_DONE (x : Nat) : Fld := ⟨A.ADC_x_SYSCTL x, 9, 1⟩
abbrev F.ADC_x_SYSCTL_ERR (x : Nat) : Fld := ⟨A.ADC_x_SYSCTL x, 12, 4⟩
abbrev F.ADC_x_SCALr_SOFF (x r : Nat) : Fld := ⟨A.ADC_x_SCALr x r, 0, 16⟩
abbrev F.ADC_x_SCALr_SGAIN (x r : Nat) : Fld := ⟨A.ADC_x_SCALr x r, 16, 16⟩
abbrev F.ADC_x_SYSCODE_Z (x : Nat) : Fld := ⟨A.ADC_x_SYSCODE x, 0, 12⟩
abbrev F.ADC_x_SYSCODE_F (x : Nat) : Fld := ⟨A.ADC_x_SYSCODE x, 16, 12⟩
abbrev F.ADC_x_SYSU0_U0 (x : Nat) : Fld := ⟨A.ADC_x_SYSU0 x, 0, 18⟩
abbrev F.ADC_x_SYSU1_U1 (x : Nat) : Fld := ⟨A.ADC_x_SYSU1 x, 0, 18⟩
abbrev F.ADC_x_ENTe_CFG_LED (x e : Nat) : Fld := ⟨A.ADC_x_ENTe_CFG x e, 0, 1⟩
abbrev F.ADC_x_ENTe_CFG_QUE (x e : Nat) : Fld := ⟨A.ADC_x_ENTe_CFG x e, 1, 1⟩
abbrev F.ADC_x_ENTe_CFG_LSKIP (x e : Nat) : Fld := ⟨A.ADC_x_ENTe_CFG x e, 16, 16⟩
abbrev F.ADC_x_ENTe_YOFF_YOFF (x e : Nat) : Fld := ⟨A.ADC_x_ENTe_YOFF x e, 0, 18⟩
abbrev F.ADC_x_ENTe_YGAIN_YGAIN (x e : Nat) : Fld := ⟨A.ADC_x_ENTe_YGAIN x e, 0, 17⟩
abbrev F.ADC_x_ENTe_LSUM_SUM (x e : Nat) : Fld := ⟨A.ADC_x_ENTe_LSUM x e, 0, 32⟩
abbrev F.ADC_x_ENTe_LCNT_COUNT (x e : Nat) : Fld := ⟨A.ADC_x_ENTe_LCNT x e, 0, 20⟩
abbrev F.ADC_x_ENTe_LMM_MIN (x e : Nat) : Fld := ⟨A.ADC_x_ENTe_LMM x e, 0, 12⟩
abbrev F.ADC_x_ENTe_LMM_MAX (x e : Nat) : Fld := ⟨A.ADC_x_ENTe_LMM x e, 16, 12⟩
abbrev F.ADC_x_ENTe_TSUM_SUM (x e : Nat) : Fld := ⟨A.ADC_x_ENTe_TSUM x e, 0, 32⟩
abbrev F.ADC_x_ENTe_TCNT_COUNT (x e : Nat) : Fld := ⟨A.ADC_x_ENTe_TCNT x e, 0, 20⟩
abbrev F.ADC_x_ENTe_TMM_MIN (x e : Nat) : Fld := ⟨A.ADC_x_ENTe_TMM x e, 0, 12⟩
abbrev F.ADC_x_ENTe_TMM_MAX (x e : Nat) : Fld := ⟨A.ADC_x_ENTe_TMM x e, 16, 12⟩
abbrev F.ADC_x_ENTe_TSKIP_SKIP (x e : Nat) : Fld := ⟨A.ADC_x_ENTe_TSKIP x e, 0, 16⟩
/-! MON, R608 -/
abbrev F.MON_ST_THW : Fld := ⟨A.MON_ST, 0, 4⟩
abbrev F.MON_ST_CRIT : Fld := ⟨A.MON_ST, 4, 1⟩
abbrev F.MON_ST_VOUT : Fld := ⟨A.MON_ST, 8, 8⟩
abbrev F.MON_ST_PMERR : Fld := ⟨A.MON_ST, 16, 1⟩
abbrev F.MON_ST_WERR : Fld := ⟨A.MON_ST, 17, 1⟩
abbrev F.MON_ST_SFRZ : Fld := ⟨A.MON_ST, 18, 1⟩
abbrev F.MON_ST_CFRZ : Fld := ⟨A.MON_ST, 19, 1⟩
abbrev F.MON_ST_RAIL : Fld := ⟨A.MON_ST, 20, 4⟩
abbrev F.MON_THR_WARN : Fld := ⟨A.MON_THR, 0, 8⟩
abbrev F.MON_Tn_TEMP (n : Nat) : Fld := ⟨A.MON_Tn n, 0, 12⟩
abbrev F.MON_VLAT_LAT : Fld := ⟨A.MON_VLAT, 0, 8⟩
abbrev F.MON_VIO_IO33 : Fld := ⟨A.MON_VIO, 0, 1⟩
abbrev F.MON_PMm_COUNT (m : Nat) : Fld := ⟨A.MON_PMm m, 0, 20⟩
abbrev F.MON_PMm_OOR (m : Nat) : Fld := ⟨A.MON_PMm m, 20, 1⟩
abbrev F.MON_PMLIMm_LO (m : Nat) : Fld := ⟨A.MON_PMLIMm m, 0, 16⟩
abbrev F.MON_PMLIMm_HI (m : Nat) : Fld := ⟨A.MON_PMLIMm m, 16, 16⟩
abbrev F.MON_SAVS_CFG_VMIN : Fld := ⟨A.MON_SAVS_CFG, 0, 10⟩
abbrev F.MON_SAVS_CFG_VMAX : Fld := ⟨A.MON_SAVS_CFG, 16, 10⟩
abbrev F.MON_SAVS_CFG_FREEZE : Fld := ⟨A.MON_SAVS_CFG, 28, 1⟩
abbrev F.MON_SAVS_ST_VSET : Fld := ⟨A.MON_SAVS_ST, 0, 10⟩
abbrev F.MON_SAVS_ST_CANF : Fld := ⟨A.MON_SAVS_ST, 16, 8⟩
abbrev F.MON_CAVS_CFG_VMIN : Fld := ⟨A.MON_CAVS_CFG, 0, 10⟩
abbrev F.MON_CAVS_CFG_VMAX : Fld := ⟨A.MON_CAVS_CFG, 16, 10⟩
abbrev F.MON_CAVS_CFG_FREEZE : Fld := ⟨A.MON_CAVS_CFG, 28, 1⟩
abbrev F.MON_CAVS_CFG_MAN : Fld := ⟨A.MON_CAVS_CFG, 29, 1⟩
abbrev F.MON_CAVS_STEP_UP : Fld := ⟨A.MON_CAVS_STEP, 0, 4⟩
abbrev F.MON_CAVS_STEP_DN : Fld := ⟨A.MON_CAVS_STEP, 4, 4⟩
abbrev F.MON_CAVS_STEP_DWAIT : Fld := ⟨A.MON_CAVS_STEP, 8, 8⟩
abbrev F.MON_CAVS_STEP_HYS : Fld := ⟨A.MON_CAVS_STEP, 16, 8⟩
abbrev F.MON_CAVS_STEP_SETTLE : Fld := ⟨A.MON_CAVS_STEP, 24, 4⟩
abbrev F.MON_CAVS_ST_VSET : Fld := ⟨A.MON_CAVS_ST, 0, 10⟩
abbrev F.MON_CAVS_ST_CMIN : Fld := ⟨A.MON_CAVS_ST, 10, 20⟩
abbrev F.MON_CAVS_TGT_TGT : Fld := ⟨A.MON_CAVS_TGT, 0, 20⟩
abbrev F.MON_CAVS_MAN_VMAN : Fld := ⟨A.MON_CAVS_MAN, 0, 10⟩
abbrev F.MON_CAVS_KRO_KRO : Fld := ⟨A.MON_CAVS_KRO, 0, 16⟩
abbrev F.MON_PMB_ACORE : Fld := ⟨A.MON_PMB, 0, 7⟩
abbrev F.MON_PMB_ASENT : Fld := ⟨A.MON_PMB, 8, 7⟩
abbrev F.MON_PMB_VEXP : Fld := ⟨A.MON_PMB, 16, 5⟩
abbrev F.MON_PMB_PEC : Fld := ⟨A.MON_PMB, 24, 1⟩
abbrev F.MON_PMB_COFF : Fld := ⟨A.MON_PMB, 25, 1⟩
abbrev F.MON_PMB_MASK_MASK : Fld := ⟨A.MON_PMB_MASK, 0, 16⟩
abbrev F.MON_PMB_SW_CORE : Fld := ⟨A.MON_PMB_SW, 0, 16⟩
abbrev F.MON_PMB_SW_SENT : Fld := ⟨A.MON_PMB_SW, 16, 16⟩
abbrev F.MON_PMB_ERR_NACK : Fld := ⟨A.MON_PMB_ERR, 0, 8⟩
abbrev F.MON_PMB_ERR_PECF : Fld := ⟨A.MON_PMB_ERR, 8, 8⟩
abbrev F.MON_PMB_ERR_TMO : Fld := ⟨A.MON_PMB_ERR, 16, 8⟩
abbrev F.MON_PMB_ERR_RAIL : Fld := ⟨A.MON_PMB_ERR, 24, 1⟩
/-! HG, R640 -/
abbrev F.HGx_CFG_EN (x : Nat) : Fld := ⟨A.HGx_CFG x, 0, 1⟩
abbrev F.HGx_CFG_DEGR_EN (x : Nat) : Fld := ⟨A.HGx_CFG x, 1, 1⟩
abbrev F.HGx_CFG_RETRAIN (x : Nat) : Fld := ⟨A.HGx_CFG x, 2, 1⟩
abbrev F.HGx_CFG_LANES (x : Nat) : Fld := ⟨A.HGx_CFG x, 4, 2⟩
abbrev F.HGx_CFG_TXDEEMPH (x : Nat) : Fld := ⟨A.HGx_CFG x, 8, 3⟩
abbrev F.HGx_CFG_ERRLIM (x : Nat) : Fld := ⟨A.HGx_CFG x, 16, 8⟩
abbrev F.HGx_CFG_ERRWIN (x : Nat) : Fld := ⟨A.HGx_CFG x, 24, 4⟩
abbrev F.HGx_ST_STATE (x : Nat) : Fld := ⟨A.HGx_ST x, 0, 4⟩
abbrev F.HGx_ST_TXL (x : Nat) : Fld := ⟨A.HGx_ST x, 4, 2⟩
abbrev F.HGx_ST_RXL (x : Nat) : Fld := ⟨A.HGx_ST x, 6, 2⟩
abbrev F.HGx_ST_DEGR (x : Nat) : Fld := ⟨A.HGx_ST x, 8, 1⟩
abbrev F.HGx_ST_DCAUSE (x : Nat) : Fld := ⟨A.HGx_ST x, 9, 2⟩
abbrev F.HGx_ST_PDEVID (x : Nat) : Fld := ⟨A.HGx_ST x, 11, 2⟩
abbrev F.HGx_ST_PPORT (x : Nat) : Fld := ⟨A.HGx_ST x, 13, 1⟩
abbrev F.HGx_ST_PBRIDGE (x : Nat) : Fld := ⟨A.HGx_ST x, 14, 1⟩
abbrev F.HGx_ST_KEPT (x : Nat) : Fld := ⟨A.HGx_ST x, 15, 1⟩
abbrev F.HGx_ST_ERRC (x : Nat) : Fld := ⟨A.HGx_ST x, 16, 4⟩
abbrev F.HGx_ST_OVERRES (x : Nat) : Fld := ⟨A.HGx_ST x, 20, 1⟩
abbrev F.HGx_RTT_ONEWAY (x : Nat) : Fld := ⟨A.HGx_RTT x, 0, 12⟩
abbrev F.HGx_RTT_LAT (x : Nat) : Fld := ⟨A.HGx_RTT x, 16, 12⟩
abbrev F.HGx_RTO_RTO (x : Nat) : Fld := ⟨A.HGx_RTO x, 0, 10⟩
abbrev F.HGx_RTO_OUTST (x : Nat) : Fld := ⟨A.HGx_RTO x, 16, 5⟩
abbrev F.HGx_EQl_CTLE (x l : Nat) : Fld := ⟨A.HGx_EQl x l, 0, 4⟩
abbrev F.HGx_EQl_DFE1 (x l : Nat) : Fld := ⟨A.HGx_EQl x l, 4, 8⟩
abbrev F.HGx_EQl_DFE2 (x l : Nat) : Fld := ⟨A.HGx_EQl x l, 12, 6⟩
abbrev F.HGx_EQl_DFE3 (x l : Nat) : Fld := ⟨A.HGx_EQl x l, 18, 6⟩
abbrev F.HGx_EQl_FREEZE (x l : Nat) : Fld := ⟨A.HGx_EQl x l, 24, 1⟩
abbrev F.HGx_EQl_RAIL (x l : Nat) : Fld := ⟨A.HGx_EQl x l, 25, 1⟩
abbrev F.HGx_EQl_LOCK (x l : Nat) : Fld := ⟨A.HGx_EQl x l, 26, 1⟩
abbrev F.HGx_RESv_RES (x v : Nat) : Fld := ⟨A.HGx_RESv x v, 0, 32⟩
abbrev F.HGx_CRv_AVAIL (x v : Nat) : Fld := ⟨A.HGx_CRv x v, 0, 8⟩
abbrev F.HGx_CRv_INIT (x v : Nat) : Fld := ⟨A.HGx_CRv x v, 8, 8⟩
abbrev F.HGx_CRv_OUTST (x v : Nat) : Fld := ⟨A.HGx_CRv x v, 16, 8⟩
abbrev F.HGx_FTX_LO_COUNT (x : Nat) : Fld := ⟨A.HGx_FTX_LO x, 0, 32⟩
abbrev F.HGx_FTX_HI_COUNT (x : Nat) : Fld := ⟨A.HGx_FTX_HI x, 0, 32⟩
abbrev F.HGx_FRX_LO_COUNT (x : Nat) : Fld := ⟨A.HGx_FRX_LO x, 0, 32⟩
abbrev F.HGx_FRX_HI_COUNT (x : Nat) : Fld := ⟨A.HGx_FRX_HI x, 0, 32⟩
abbrev F.HGx_RETX_LO_COUNT (x : Nat) : Fld := ⟨A.HGx_RETX_LO x, 0, 32⟩
abbrev F.HGx_RETX_HI_COUNT (x : Nat) : Fld := ⟨A.HGx_RETX_HI x, 0, 32⟩
abbrev F.HGx_CRCERR_LO_COUNT (x : Nat) : Fld := ⟨A.HGx_CRCERR_LO x, 0, 32⟩
abbrev F.HGx_CRCERR_HI_COUNT (x : Nat) : Fld := ⟨A.HGx_CRCERR_HI x, 0, 32⟩
abbrev F.HGx_PROTERR_LO_COUNT (x : Nat) : Fld := ⟨A.HGx_PROTERR_LO x, 0, 32⟩
abbrev F.HGx_PROTERR_HI_COUNT (x : Nat) : Fld := ⟨A.HGx_PROTERR_HI x, 0, 32⟩
abbrev F.HGx_TIMEOUT_LO_COUNT (x : Nat) : Fld := ⟨A.HGx_TIMEOUT_LO x, 0, 32⟩
abbrev F.HGx_TIMEOUT_HI_COUNT (x : Nat) : Fld := ⟨A.HGx_TIMEOUT_HI x, 0, 32⟩
abbrev F.HGx_LRESET_LO_COUNT (x : Nat) : Fld := ⟨A.HGx_LRESET_LO x, 0, 32⟩
abbrev F.HGx_LRESET_HI_COUNT (x : Nat) : Fld := ⟨A.HGx_LRESET_HI x, 0, 32⟩
abbrev F.HGx_DISC_LO_COUNT (x : Nat) : Fld := ⟨A.HGx_DISC_LO x, 0, 32⟩
abbrev F.HGx_DISC_HI_COUNT (x : Nat) : Fld := ⟨A.HGx_DISC_HI x, 0, 32⟩
abbrev F.HGx_CODEERRl_LO_COUNT (x l : Nat) : Fld := ⟨A.HGx_CODEERRl_LO x l, 0, 32⟩
abbrev F.HGx_CODEERRl_HI_COUNT (x l : Nat) : Fld := ⟨A.HGx_CODEERRl_HI x l, 0, 32⟩
/-! HG, R678 -/
abbrev F.HGx_MSGCFG_AUTHDATA (x : Nat) : Fld := ⟨A.HGx_MSGCFG x, 0, 1⟩
abbrev F.HGx_MSGCFG_KSLOT (x : Nat) : Fld := ⟨A.HGx_MSGCFG x, 1, 2⟩
abbrev F.HGx_MSGCFG_QF_EN (x : Nat) : Fld := ⟨A.HGx_MSGCFG x, 4, 1⟩
abbrev F.HGx_MSGCFG_QF_N (x : Nat) : Fld := ⟨A.HGx_MSGCFG x, 8, 4⟩
abbrev F.HGx_MSGCFG_QF_WIN (x : Nat) : Fld := ⟨A.HGx_MSGCFG x, 16, 8⟩
abbrev F.HGx_MSGCFG_QHOLD (x : Nat) : Fld := ⟨A.HGx_MSGCFG x, 24, 8⟩
abbrev F.HGx_SEC_KST (x : Nat) : Fld := ⟨A.HGx_SEC x, 0, 2⟩
abbrev F.HGx_SEC_GEN (x : Nat) : Fld := ⟨A.HGx_SEC x, 2, 1⟩
abbrev F.HGx_SEC_REKEY (x : Nat) : Fld := ⟨A.HGx_SEC x, 3, 1⟩
abbrev F.HGx_SEC_MACWIN (x : Nat) : Fld := ⟨A.HGx_SEC x, 8, 3⟩
abbrev F.HGx_QCTL_QSTATE (x : Nat) : Fld := ⟨A.HGx_QCTL x, 0, 2⟩
abbrev F.HGx_QCTL_RELEASE (x : Nat) : Fld := ⟨A.HGx_QCTL x, 4, 1⟩
abbrev F.HGx_QCTL_QEV (x : Nat) : Fld := ⟨A.HGx_QCTL x, 8, 8⟩
abbrev F.HGx_USTR_STREAMS (x : Nat) : Fld := ⟨A.HGx_USTR x, 0, 16⟩
abbrev F.HGx_TXCTR_CTR (x : Nat) : Fld := ⟨A.HGx_TXCTR x, 0, 32⟩
abbrev F.HGx_RXCTR_CTR (x : Nat) : Fld := ⟨A.HGx_RXCTR x, 0, 32⟩
abbrev F.HGx_MSGCNTk_LO_COUNT (x k : Nat) : Fld := ⟨A.HGx_MSGCNTk_LO x k, 0, 32⟩
abbrev F.HGx_MSGCNTk_HI_COUNT (x k : Nat) : Fld := ⟨A.HGx_MSGCNTk_HI x k, 0, 32⟩
abbrev F.HG0_TOPO_REACH : Fld := ⟨A.HG0_TOPO, 0, 4⟩
abbrev F.HG0_TOPO_BRIDGE : Fld := ⟨A.HG0_TOPO, 4, 1⟩
abbrev F.HG0_TOPO_RING : Fld := ⟨A.HG0_TOPO, 8, 1⟩
abbrev F.HG0_TOPO_MEMBERS : Fld := ⟨A.HG0_TOPO, 12, 3⟩
abbrev F.HG0_ROUTEp_PORT (p : Nat) : Fld := ⟨A.HG0_ROUTEp p, 0, 1⟩
abbrev F.HG0_ROUTEp_VALID (p : Nat) : Fld := ⟨A.HG0_ROUTEp p, 1, 1⟩
abbrev F.HG0_ROUTEp_HOPS (p : Nat) : Fld := ⟨A.HG0_ROUTEp p, 2, 3⟩
abbrev F.HG0_ROUTEp_PLAT (p : Nat) : Fld := ⟨A.HG0_ROUTEp p, 16, 12⟩
abbrev F.HG0_KPERMk_PERM (k : Nat) : Fld := ⟨A.HG0_KPERMk k, 0, 5⟩
abbrev F.HG0_KPERMk_PROV (k : Nat) : Fld := ⟨A.HG0_KPERMk k, 8, 1⟩
abbrev F.HG0_NTXCTL_DST : Fld := ⟨A.HG0_NTXCTL, 0, 3⟩
abbrev F.HG0_NTXCTL_SEND : Fld := ⟨A.HG0_NTXCTL, 8, 1⟩
abbrev F.HG0_NTXCTL_BUSY : Fld := ⟨A.HG0_NTXCTL, 9, 1⟩
abbrev F.HG0_NTXCTL_ERR : Fld := ⟨A.HG0_NTXCTL, 10, 1⟩
abbrev F.HG0_NTXi_DATA (i : Nat) : Fld := ⟨A.HG0_NTXi i, 0, 32⟩
abbrev F.HG0_NRXST_SRC : Fld := ⟨A.HG0_NRXST, 0, 3⟩
abbrev F.HG0_NRXST_FULL : Fld := ⟨A.HG0_NRXST, 8, 1⟩
abbrev F.HG0_NRXST_OVW : Fld := ⟨A.HG0_NRXST, 16, 8⟩
abbrev F.HG0_NRXi_DATA (i : Nat) : Fld := ⟨A.HG0_NRXi i, 0, 32⟩
abbrev F.HG0_TMST_SRC : Fld := ⟨A.HG0_TMST, 0, 3⟩
abbrev F.HG0_TMST_NEW : Fld := ⟨A.HG0_TMST, 8, 1⟩
abbrev F.HG0_TMST_LOCAL_OK : Fld := ⟨A.HG0_TMST, 9, 1⟩
abbrev F.HG0_TMST_OVW : Fld := ⟨A.HG0_TMST, 16, 8⟩
abbrev F.HG0_TMST_SLOT : Fld := ⟨A.HG0_TMST, 24, 6⟩
abbrev F.HG0_TMST_FINE : Fld := ⟨A.HG0_TMST, 31, 1⟩
abbrev F.HG0_TMSTAMP_LO_STAMP : Fld := ⟨A.HG0_TMSTAMP_LO, 0, 32⟩
abbrev F.HG0_TMSTAMP_HI_STAMP : Fld := ⟨A.HG0_TMSTAMP_HI, 0, 32⟩
abbrev F.HG0_TMLOCAL_LO_SC : Fld := ⟨A.HG0_TMLOCAL_LO, 0, 32⟩
abbrev F.HG0_TMLOCAL_HI_SC : Fld := ⟨A.HG0_TMLOCAL_HI, 0, 32⟩
/-! SAF, R726 -/
abbrev F.SAF_ST_ARMED : Fld := ⟨A.SAF_ST, 0, 1⟩
abbrev F.SAF_ST_TRIPPED : Fld := ⟨A.SAF_ST, 1, 1⟩
abbrev F.SAF_ST_CAUSE : Fld := ⟨A.SAF_ST, 2, 3⟩
abbrev F.SAF_ST_OUT : Fld := ⟨A.SAF_ST, 5, 2⟩
abbrev F.SAF_ST_FB : Fld := ⟨A.SAF_ST, 7, 2⟩
abbrev F.SAF_ST_FAULTN : Fld := ⟨A.SAF_ST, 9, 1⟩
abbrev F.SAF_ST_PROOF_OK : Fld := ⟨A.SAF_ST, 10, 1⟩
abbrev F.SAF_ARM_REQ : Fld := ⟨A.SAF_ARM, 0, 1⟩
abbrev F.SAF_ARM_AINS_EN : Fld := ⟨A.SAF_ARM, 1, 1⟩
abbrev F.SAF_ARM_REMAP_OK : Fld := ⟨A.SAF_ARM, 2, 1⟩
abbrev F.SAF_ARM_FBDLY : Fld := ⟨A.SAF_ARM, 8, 6⟩
abbrev F.SAF_ARM_FBPOL : Fld := ⟨A.SAF_ARM, 16, 1⟩
abbrev F.SAF_DEP_LO_TASKS : Fld := ⟨A.SAF_DEP_LO, 0, 32⟩
abbrev F.SAF_DEP_HI_TASKS : Fld := ⟨A.SAF_DEP_HI, 0, 32⟩
abbrev F.SAF_CONTRIBd_LC (d : Nat) : Fld := ⟨A.SAF_CONTRIBd d, 0, 32⟩
abbrev F.SAF_PARTp_STOPSRC (p : Nat) : Fld := ⟨A.SAF_PARTp p, 0, 1⟩
abbrev F.SAF_PARTp_HBREQ (p : Nat) : Fld := ⟨A.SAF_PARTp p, 1, 1⟩
abbrev F.SAF_PARTp_ALIVE (p : Nat) : Fld := ⟨A.SAF_PARTp p, 2, 1⟩
abbrev F.SAF_PARTp_HEALTHY (p : Nat) : Fld := ⟨A.SAF_PARTp p, 3, 1⟩
abbrev F.SAF_PARTp_TDEC (p : Nat) : Fld := ⟨A.SAF_PARTp p, 16, 16⟩
abbrev F.SAF_BG_LO : Fld := ⟨A.SAF_BG, 0, 12⟩
abbrev F.SAF_BG_HI : Fld := ⟨A.SAF_BG, 16, 12⟩
abbrev F.SAF_RUNTOK_TOKEN : Fld := ⟨A.SAF_RUNTOK, 0, 16⟩
abbrev F.SAF_ARMST_RESULT : Fld := ⟨A.SAF_ARMST, 0, 2⟩
abbrev F.SAF_ARMST_STEP : Fld := ⟨A.SAF_ARMST, 4, 3⟩
abbrev F.SAF_ARMST_REASON : Fld := ⟨A.SAF_ARMST, 8, 8⟩
abbrev F.SAF_LATCH_BITS : Fld := ⟨A.SAF_LATCH, 0, 25⟩
abbrev F.SAF_ACK_REQ : Fld := ⟨A.SAF_ACK, 0, 1⟩
abbrev F.SAF_ACK_DISARM : Fld := ⟨A.SAF_ACK, 1, 1⟩
abbrev F.SAF_ACK_STEP : Fld := ⟨A.SAF_ACK, 2, 2⟩
abbrev F.SAF_ACK_ERR : Fld := ⟨A.SAF_ACK, 4, 4⟩
abbrev F.SAF_ACK_CHAL : Fld := ⟨A.SAF_ACK, 16, 16⟩
abbrev F.SAF_ACK_RESP_RESP : Fld := ⟨A.SAF_ACK_RESP, 0, 16⟩
abbrev F.SAF_ACKFAIL_COUNT : Fld := ⟨A.SAF_ACKFAIL, 0, 16⟩
abbrev F.SAF_TRIPS_LO_COUNT : Fld := ⟨A.SAF_TRIPS_LO, 0, 32⟩
abbrev F.SAF_TRIPS_HI_COUNT : Fld := ⟨A.SAF_TRIPS_HI, 0, 32⟩
abbrev F.SAF_TRANS_LO_COUNT : Fld := ⟨A.SAF_TRANS_LO, 0, 32⟩
abbrev F.SAF_TRANS_HI_COUNT : Fld := ⟨A.SAF_TRANS_HI, 0, 32⟩
abbrev F.SAF_LOGj_LO_ENTRY (j : Nat) : Fld := ⟨A.SAF_LOGj_LO j, 0, 32⟩
abbrev F.SAF_LOGj_HI_ENTRY (j : Nat) : Fld := ⟨A.SAF_LOGj_HI j, 0, 32⟩
abbrev F.SAF_LOGPTR_PTR : Fld := ⟨A.SAF_LOGPTR, 0, 5⟩
abbrev F.SAF_DIAGi_WCOUNT (i : Nat) : Fld := ⟨A.SAF_DIAGi i, 0, 8⟩
abbrev F.SAF_DIAGi_LASTING (i : Nat) : Fld := ⟨A.SAF_DIAGi i, 8, 1⟩
abbrev F.SAF_DIAGi_TOTAL (i : Nat) : Fld := ⟨A.SAF_DIAGi i, 16, 16⟩
/-! SVC, R751 -/
abbrev F.SVC_ACT_ACTION : Fld := ⟨A.SVC_ACT, 0, 4⟩
abbrev F.SVC_ACT_BUSY : Fld := ⟨A.SVC_ACT, 8, 1⟩
abbrev F.SVC_ACT_DONE : Fld := ⟨A.SVC_ACT, 9, 1⟩
abbrev F.SVC_ACT_ERR : Fld := ⟨A.SVC_ACT, 12, 4⟩
abbrev F.SVC_ARG_ARG : Fld := ⟨A.SVC_ARG, 0, 32⟩
abbrev F.SVC_REASON_REASON : Fld := ⟨A.SVC_REASON, 0, 16⟩
abbrev F.SVC_OBJ_OBJ : Fld := ⟨A.SVC_OBJ, 0, 32⟩
abbrev F.SVC_MAP_RETIRED : Fld := ⟨A.SVC_MAP, 0, 4⟩
abbrev F.SVC_MAP_ROWS : Fld := ⟨A.SVC_MAP, 16, 9⟩
abbrev F.SVC_SCVER_VERSION : Fld := ⟨A.SVC_SCVER, 0, 16⟩
abbrev F.SVC_SCRELk_RELEASE (k : Nat) : Fld := ⟨A.SVC_SCRELk k, 0, 32⟩
/-! NVM, R752 -/
abbrev F.NVM_CTL_CMD : Fld := ⟨A.NVM_CTL, 0, 4⟩
abbrev F.NVM_CTL_KIND : Fld := ⟨A.NVM_CTL, 4, 2⟩
abbrev F.NVM_CTL_SLOT : Fld := ⟨A.NVM_CTL, 6, 1⟩
abbrev F.NVM_CTL_BUSY : Fld := ⟨A.NVM_CTL, 8, 1⟩
abbrev F.NVM_CTL_DONE : Fld := ⟨A.NVM_CTL, 9, 1⟩
abbrev F.NVM_CTL_ERR : Fld := ⟨A.NVM_CTL, 12, 4⟩
abbrev F.NVM_CTL_PAGE : Fld := ⟨A.NVM_CTL, 16, 7⟩
abbrev F.NVM_ST_MOUNTED : Fld := ⟨A.NVM_ST, 0, 1⟩
abbrev F.NVM_ST_ANCH : Fld := ⟨A.NVM_ST, 1, 2⟩
abbrev F.NVM_ST_LOW : Fld := ⟨A.NVM_ST, 3, 1⟩
abbrev F.NVM_ST_PROV : Fld := ⟨A.NVM_ST, 4, 2⟩
abbrev F.NVM_ST_FREE : Fld := ⟨A.NVM_ST, 16, 9⟩
abbrev F.NVM_RET_COUNT : Fld := ⟨A.NVM_RET, 0, 10⟩
abbrev F.NVM_RECID_ID : Fld := ⟨A.NVM_RECID, 0, 32⟩
abbrev F.NVM_RECLEN_LEN : Fld := ⟨A.NVM_RECLEN, 0, 12⟩
abbrev F.NVM_IMG_VALID : Fld := ⟨A.NVM_IMG, 0, 6⟩
abbrev F.NVM_VERk_VERSION (k : Nat) : Fld := ⟨A.NVM_VERk k, 0, 16⟩
abbrev F.NVM_BOOT_BOOT : Fld := ⟨A.NVM_BOOT, 0, 32⟩
abbrev F.NVM_BOOT2_BOOT : Fld := ⟨A.NVM_BOOT2, 0, 24⟩
abbrev F.NVM_ERC_MAX : Fld := ⟨A.NVM_ERC, 0, 16⟩
abbrev F.NVM_ERC_MIN : Fld := ⟨A.NVM_ERC, 16, 16⟩
abbrev F.NVM_PERM_SLOT : Fld := ⟨A.NVM_PERM, 0, 2⟩
abbrev F.NVM_PERM_PERM : Fld := ⟨A.NVM_PERM, 8, 5⟩
abbrev F.NVM_WRB_LO_COUNT : Fld := ⟨A.NVM_WRB_LO, 0, 32⟩
abbrev F.NVM_WRB_HI_COUNT : Fld := ⟨A.NVM_WRB_HI, 0, 32⟩

end Sys2Proof.Machine
end

