-- ==== Sys2Proof/Machine/RegMap.lean ====
section
/-! DEFINITION. The register map: for every register of the eighteen blocks its offset, its repetition, its reset word
and which of its bits are read-write and which are write-one-to-clear, composed from the field tables of the spec
(the tables under R66, R112, R150, R151, R187, R223, R254, R287, R330, R371, R517, R518, R544, R587, R608, R640, R678,
R726, R751 and R752, indexed again in R753 to R760). -/

namespace Sys2Proof.Machine

/-- One row of the register map. `dims` lists the repetitions of the register as (stride, count), the widest first. -/
structure RegRow where
  base : Nat
  dims : List (Nat × Nat)
  reset : Nat
  rw : Nat
  w1c : Nat
  deriving DecidableEq, Repr

/-- Does a distance from a row's base fall on one of its repetitions. -/
def dimsHit : List (Nat × Nat) → Nat → Bool
  | [], d => d == 0
  | (st, n) :: t, d => if d / st < n then dimsHit t (d % st) else false

/-- The row of a block's map that holds an offset. -/
def findRow : List RegRow → Nat → Option RegRow
  | [], _ => none
  | r :: t, off => if r.base ≤ off && dimsHit r.dims (off - r.base) then some r else findRow t off

/-- Block SYS. -/
def regsSYS : List RegRow := [
  ⟨0x100, [], 0x0, 0x1, 0x0⟩,  -- SYS_HSPCFG
  ⟨0x104, [], 0x0, 0x0, 0x0⟩,  -- SYS_EPOCH
  ⟨0x108, [], 0x0, 0x0, 0x0⟩,  -- SYS_HSPST
  ⟨0x10C, [], 0x0, 0xFFFFFFFF, 0x0⟩,  -- SYS_HSPERR
  ⟨0x110, [], 0x0, 0x0, 0x100000⟩,  -- SYS_CMT
  ⟨0x114, [], 0x0, 0x0, 0x0⟩,  -- SYS_CMT_REASON
  ⟨0x118, [], 0x0, 0x0, 0x0⟩,  -- SYS_CMT_OBJ
  ⟨0x11C, [], 0x0, 0x0, 0x0⟩,  -- SYS_STAGE
  ⟨0x120, [], 0x0, 0x0, 0x800000⟩,  -- SYS_TUNST
  ⟨0x124, [], 0x0, 0x0, 0x0⟩,  -- SYS_TUNEPOCH
  ⟨0x128, [], 0x0, 0x0, 0x0⟩,  -- SYS_TUNLAST
  ⟨0x12C, [], 0x0, 0x0, 0x0⟩,  -- SYS_RPLST
  ⟨0x0, [], 0x32320B10, 0x0, 0x0⟩,  -- SYS_ID
  ⟨0x4, [], 0x0, 0x0, 0x0⟩,  -- SYS_STRAP
  ⟨0x8, [], 0x1, 0x0, 0x0⟩,  -- SYS_RSTCAUSE
  ⟨0x10, [], 0x0, 0x0, 0x0⟩,  -- SYS_UPTIME_LO
  ⟨0x14, [], 0x0, 0x0, 0x0⟩,  -- SYS_UPTIME_HI
  ⟨0x1000, [(0x4, 1024)], 0x0, 0x0, 0x0⟩,  -- replay window
  ⟨0x2000, [(0x4, 1024)], 0x0, 0x0, 0x0⟩  -- tunnel response window
  ]

/-- Block CLK. -/
def regsCLK : List RegRow := [
  ⟨0x0, [], 0x200, 0x0, 0x0⟩,  -- CLK_STAT
  ⟨0x4, [], 0x0, 0x3F07, 0x0⟩,  -- CLK_PLAN
  ⟨0x8, [], 0x0, 0x7777, 0x0⟩,  -- CLK_PDM
  ⟨0xC, [], 0x3, 0x3, 0x0⟩,  -- CLK_FWD
  ⟨0x10, [], 0x0, 0x0, 0x1F⟩,  -- CLK_SUP
  ⟨0x14, [], 0x0, 0x0, 0x0⟩,  -- CLK_WDO
  ⟨0x18, [], 0x0, 0x0, 0x0⟩,  -- CLK_GAP_LO
  ⟨0x1C, [], 0x0, 0x0, 0x0⟩  -- CLK_GAP_HI
  ]

/-- Block PWR. -/
def regsPWR : List RegRow := [
  ⟨0x0, [], 0x0, 0x0, 0x0⟩,  -- PWR_STATE
  ⟨0x4, [], 0x0, 0x0, 0x0⟩,  -- PWR_REQ
  ⟨0x8, [], 0x13, 0x7, 0x0⟩,  -- PWR_CFG
  ⟨0xC, [], 0xA14, 0x3F3F, 0x0⟩,  -- PWR_MICT
  ⟨0x10, [], 0x0, 0x0, 0x0⟩,  -- PWR_BOOTST
  ⟨0x14, [], 0x0, 0x0, 0x0⟩,  -- PWR_BOOTT
  ⟨0x18, [], 0x0, 0x0, 0x0⟩,  -- PWR_TRANS_LO
  ⟨0x1C, [], 0x0, 0x0, 0x0⟩,  -- PWR_TRANS_HI
  ⟨0x20, [], 0x0, 0x0, 0x0⟩  -- PWR_MICPWR
  ]

/-- Block MIC. -/
def regsMIC : List RegRow := [
  ⟨0x0, [], 0x70200, 0x73F1F, 0x0⟩,  -- MIC_CFG
  ⟨0x4, [], 0xFFFFFFFF, 0xFFFFFFFF, 0x0⟩,  -- MIC_INEN
  ⟨0x8, [], 0x0, 0xFFFFFFFF, 0x0⟩,  -- MIC_SPARE
  ⟨0xC, [], 0x32000F, 0xFF000F, 0x0⟩,  -- MIC_PWRCTL
  ⟨0x10, [], 0xE61A03, 0xFFFF07, 0x0⟩,  -- MIC_DENS
  ⟨0x14, [], 0xC0A, 0x3F3F, 0x0⟩,  -- MIC_NBCFG
  ⟨0x18, [], 0x0, 0x0, 0x0⟩,  -- MIC_FAULT
  ⟨0x1C, [], 0x0, 0x0, 0x10001⟩,  -- MIC_PART
  ⟨0x20, [], 0x0, 0x0, 0x0⟩,  -- MIC_EVT_LO
  ⟨0x24, [], 0x0, 0x0, 0x0⟩,  -- MIC_EVT_HI
  ⟨0x28, [], 0x20000, 0x71F00, 0x2000000⟩,  -- MIC_CALCTL
  ⟨0x2C, [], 0x0, 0xFFFFFFFF, 0x0⟩,  -- MIC_CALSEL
  ⟨0x40, [(0x4, 32)], 0x100, 0x31F, 0x0⟩,  -- MIC_MAPn
  ⟨0x100, [(0x4, 32)], 0x0, 0x0, 0xF0⟩,  -- MIC_STATn
  ⟨0x200, [(0x20, 32)], 0x400000, 0xFFFFFF, 0x0⟩,  -- MIC_CALn_GAIN
  ⟨0x204, [(0x20, 32)], 0x0, 0xFFF, 0x0⟩,  -- MIC_CALn_DELAY
  ⟨0x208, [(0x20, 32), (0x4, 4)], 0x0, 0xFFFFFF, 0x0⟩,  -- MIC_CALn_TAPt
  ⟨0x218, [(0x20, 32)], 0x0, 0x0, 0x0⟩,  -- MIC_CALn_ORIGIN
  ⟨0x600, [(0x10, 32)], 0x0, 0x0, 0x0⟩,  -- MIC_CALRESn_RATIO
  ⟨0x604, [(0x10, 32)], 0x0, 0x0, 0x0⟩,  -- MIC_CALRESn_LAG
  ⟨0x608, [(0x10, 32)], 0x0, 0x0, 0x0⟩,  -- MIC_CALRESn_QUAL
  ⟨0x60C, [(0x10, 32)], 0x0, 0x0, 0x0⟩,  -- MIC_CALRESn_ST
  ⟨0x800, [(0x4, 32)], 0x0, 0xFFFFFFFF, 0x0⟩  -- MIC_NBRn
  ]

/-- Block FLT. -/
def regsFLT : List RegRow := [
  ⟨0x0, [], 0x0, 0x0, 0x0⟩,  -- FLT_POOL_CAP
  ⟨0x4, [], 0x0, 0x0, 0x0⟩,  -- FLT_POOL_DEM
  ⟨0x8, [], 0xC005, 0xFFF07, 0x1000000⟩,  -- FLT_SYNC
  ⟨0xC, [], 0x0, 0x0, 0x0⟩,  -- FLT_SYNC_CNT
  ⟨0x10, [], 0x0, 0x0, 0x0⟩,  -- FLT_SYNC_LAT
  ⟨0x20, [(0x4, 16)], 0x80000, 0xFFFFFF, 0x0⟩,  -- FLT_GLCk
  ⟨0x60, [(0x4, 8)], 0x0, 0x0, 0x0⟩,  -- FLT_HBj
  ⟨0x100, [(0x4, 32)], 0xF05, 0xFFF07, 0x0⟩,  -- FLT_CICp
  ⟨0x200, [(0x20, 32)], 0x300000, 0x71F1FF1F, 0x0⟩,  -- FLT_CHn_FIR
  ⟨0x204, [(0x20, 32)], 0x6, 0xF, 0x0⟩,  -- FLT_CHn_XF
  ⟨0x208, [(0x20, 32)], 0x0, 0x0, 0x8⟩,  -- FLT_CHn_ST
  ⟨0x20C, [(0x20, 32)], 0x0, 0x0, 0x0⟩,  -- FLT_CHn_FILL
  ⟨0x210, [(0x20, 32)], 0x0, 0x0, 0x0⟩,  -- FLT_CHn_DEM
  ⟨0x214, [(0x20, 32)], 0xC4BC32, 0xFFFFFF, 0x0⟩,  -- FLT_CHn_DET
  ⟨0x218, [(0x20, 32)], 0x0, 0x0, 0x0⟩,  -- FLT_CHn_PEAK
  ⟨0x21C, [(0x20, 32)], 0x0, 0x0, 0x0⟩,  -- FLT_CHn_RMS
  ⟨0x600, [(0x4, 32)], 0x0, 0x0, 0x0⟩,  -- FLT_ENVn
  ⟨0x1000, [(0x4, 148)], 0xC00, 0x1FFF, 0x0⟩,  -- FLT_RTd
  ⟨0x4000, [(0x800, 24), (0x4, 512)], 0x0, 0xFFFFFF, 0x0⟩  -- FLT_COEFb_i
  ]

/-- Block LSN. -/
def regsLSN : List RegRow := [
  ⟨0x0, [], 0xF9, 0xFF, 0x0⟩,  -- LSN_CFG
  ⟨0x4, [], 0x0, 0x0, 0x7⟩,  -- LSN_WAKE
  ⟨0x8, [], 0x0, 0x0, 0x0⟩,  -- LSN_MARK_LO
  ⟨0xC, [], 0x0, 0x0, 0x0⟩,  -- LSN_MARK_HI
  ⟨0x10, [], 0x0, 0x0, 0x0⟩,  -- LSN_RMARK_LO
  ⟨0x14, [], 0x0, 0x0, 0x0⟩,  -- LSN_RMARK_HI
  ⟨0x18, [], 0x640190, 0xFF01FF, 0x0⟩,  -- LSN_PRE
  ⟨0x40, [], 0x14022431, 0xFF0FFF00, 0x0⟩,  -- LSN_SAD0_CFG: SRC is RO
  ⟨0x80, [], 0x14022431, 0xFF0FFFFF, 0x0⟩,  -- LSN_SAD1_CFG
  ⟨0x44, [(0x40, 2)], 0x1ED80003, 0xFFFF01FF, 0x0⟩,  -- LSN_SADu_TL
  ⟨0x48, [(0x40, 2)], 0xE890, 0xFFFF, 0x0⟩,  -- LSN_SADu_FREF
  ⟨0x4C, [(0x40, 2)], 0x0, 0x0, 0x78⟩,  -- LSN_SADu_ST
  ⟨0x50, [(0x40, 2)], 0xC568D120, 0x0, 0x0⟩,  -- LSN_SADu_FLOOR
  ⟨0x54, [(0x40, 2)], 0x0, 0x0, 0x0⟩,  -- LSN_SADu_OFS
  ⟨0x58, [(0x40, 2)], 0x0, 0x0, 0x0⟩,  -- LSN_SADu_EVT_LO
  ⟨0x5C, [(0x40, 2)], 0x0, 0x0, 0x0⟩,  -- LSN_SADu_EVT_HI
  ⟨0x100, [(0x8, 7)], 0x0, 0x0, 0x0⟩,  -- LSN_CNT_x_LO
  ⟨0x104, [(0x8, 7)], 0x0, 0x0, 0x0⟩  -- LSN_CNT_x_HI
  ]

/-- Block DRL. -/
def regsDRL : List RegRow := [
  ⟨0x0, [], 0xD, 0xF, 0x0⟩,  -- DRL_CFG
  ⟨0x4, [], 0x0, 0x0, 0x0⟩,  -- DRL_CAP
  ⟨0x8, [], 0x0, 0x0, 0x0⟩,  -- DRL_DEM
  ⟨0xC, [], 0x0, 0x0, 0x0⟩,  -- DRL_SDEM
  ⟨0x10, [], 0x0, 0x0, 0x0⟩,  -- DRL_ST
  ⟨0x20, [(0x10, 4)], 0x0, 0x3, 0x0⟩,  -- DRL_INn_CFG
  ⟨0x24, [(0x10, 4)], 0x0, 0x0, 0x0⟩,  -- DRL_INn_ST
  ⟨0x28, [(0x10, 4)], 0x0, 0x0, 0x0⟩,  -- DRL_INn_GD
  ⟨0x60, [], 0x0, 0x0, 0x0⟩,  -- DRL_EVQ_ST
  ⟨0x80, [], 0x100, 0xF03, 0x0⟩,  -- DRL_NET
  ⟨0x84, [], 0x0, 0x0, 0x0⟩,  -- DRL_NET_MACS
  ⟨0x90, [], 0x5000000, 0x1F033F00, 0x0⟩,  -- DRL_ENR_CTL
  ⟨0x94, [], 0x0, 0x0, 0x0⟩,  -- DRL_ENR_ST
  ⟨0x98, [], 0x0, 0x0, 0x0⟩,  -- DRL_ENR_RES
  ⟨0xA0, [], 0x0, 0x3F00, 0x20000⟩,  -- DRL_RECCTL
  ⟨0xA4, [], 0x0, 0xFFFFFFFF, 0x0⟩,  -- DRL_RECID
  ⟨0xA8, [], 0x0, 0x7FFFF, 0x0⟩,  -- DRL_RECLEN
  ⟨0xAC, [], 0x0, 0x7FFFF, 0x0⟩,  -- DRL_RECOFS
  ⟨0xB0, [], 0x0, 0x3FFF, 0x0⟩,  -- DRL_RECCHUNK
  ⟨0x400, [(0x20, 64)], 0x0, 0x3F00, 0x0⟩,  -- DRL_SLOTs_CFG
  ⟨0x404, [(0x20, 64)], 0x3FF0000, 0x3FF03FF, 0x0⟩,  -- DRL_SLOTs_THR
  ⟨0x408, [(0x20, 64)], 0x63200, 0xFFFFFF, 0x0⟩,  -- DRL_SLOTs_ADJ
  ⟨0x40C, [(0x20, 64)], 0x0, 0x0, 0x0⟩,  -- DRL_SLOTs_ST
  ⟨0x410, [(0x20, 64)], 0x0, 0x0, 0x0⟩,  -- DRL_SLOTs_CNT_LO
  ⟨0x414, [(0x20, 64)], 0x0, 0x0, 0x0⟩,  -- DRL_SLOTs_CNT_HI
  ⟨0x418, [(0x20, 64)], 0x0, 0x0, 0x0⟩,  -- DRL_SLOTs_ID
  ⟨0x100, [(0x4, 64)], 0x0, 0x0, 0x0⟩,  -- DRL_EVQ window
  ⟨0x8000, [(0x4, 2176)], 0x0, 0xFFFFFFFF, 0x0⟩  -- DRL_RECBUF
  ]

/-- Block SWA. -/
def regsSWA : List RegRow := [
  ⟨0x0, [], 0x100200, 0x1F3FFF, 0x0⟩,  -- SWA_CFG
  ⟨0x4, [], 0x0, 0x0, 0x8⟩,  -- SWA_ST
  ⟨0x8, [], 0x0, 0x0, 0x0⟩,  -- SWA_SC_LO
  ⟨0xC, [], 0x0, 0x0, 0x0⟩,  -- SWA_SC_HI
  ⟨0x10, [], 0x0, 0x0, 0x0⟩,  -- SWA_PERIOD_LO
  ⟨0x14, [], 0x0, 0x0, 0x0⟩,  -- SWA_PERIOD_HI
  ⟨0x20, [], 0x7850, 0x7F00, 0x0⟩,  -- SWA_MITTEN
  ⟨0x24, [], 0x7D0, 0xFFFF, 0x0⟩,  -- SWA_PRE
  ⟨0x28, [], 0x0, 0x0, 0x0⟩,  -- SWA_WSTART_LO
  ⟨0x2C, [], 0x0, 0x0, 0x0⟩,  -- SWA_WSTART_HI
  ⟨0x30, [], 0x0, 0x0, 0x0⟩,  -- SWA_SSWSTART_LO
  ⟨0x34, [], 0x0, 0x0, 0x0⟩,  -- SWA_SSWSTART_HI
  ⟨0x38, [], 0x0, 0x0, 0x0⟩,  -- SWA_SSAVAIL
  ⟨0x3C, [], 0x0, 0x0, 0x0⟩,  -- SWA_DENY
  ⟨0x40, [], 0x0, 0x1F01, 0x0⟩,  -- SWA_HWIN
  ⟨0x48, [], 0x0, 0x0, 0x0⟩,  -- SWA_SSCTR_LO
  ⟨0x4C, [], 0x0, 0x0, 0x0⟩,  -- SWA_SSCTR_HI
  ⟨0x50, [], 0x0, 0x0, 0x0⟩,  -- SWA_SSHEAD
  ⟨0x58, [], 0x0, 0x0, 0x0⟩,  -- SWA_SSPROD_LO
  ⟨0x5C, [], 0x0, 0x0, 0x0⟩,  -- SWA_SSPROD_HI
  ⟨0x60, [], 0x0, 0x0, 0x0⟩,  -- SWA_SSEXP_LO
  ⟨0x64, [], 0x0, 0x0, 0x0⟩,  -- SWA_SSEXP_HI
  ⟨0x68, [], 0x0, 0x0, 0x0⟩,  -- SWA_SSDISC_LO
  ⟨0x6C, [], 0x0, 0x0, 0x0⟩,  -- SWA_SSDISC_HI
  ⟨0x70, [], 0x0, 0x0, 0x7⟩,  -- SWA_ECC
  ⟨0x74, [], 0x0, 0x0, 0x0⟩,  -- SWA_DBEADDR
  ⟨0x78, [], 0x0, 0x0, 0x0⟩,  -- SWA_SBE_LO
  ⟨0x7C, [], 0x0, 0x0, 0x0⟩,  -- SWA_SBE_HI
  ⟨0x80, [], 0x0, 0x0, 0x0⟩,  -- SWA_REP
  ⟨0x84, [], 0x0, 0x0, 0x0⟩,  -- SWA_ZCTL
  ⟨0x100, [(0x80, 8)], 0x2, 0x7F7F07, 0x0⟩,  -- SWA_STs_CFG
  ⟨0x104, [(0x80, 8)], 0x0, 0x7FFFF, 0x0⟩,  -- SWA_STs_BASE
  ⟨0x108, [(0x80, 8)], 0x0, 0xFFFF, 0x0⟩,  -- SWA_STs_NBLK
  ⟨0x10C, [(0x80, 8)], 0x0, 0x0, 0x0⟩,  -- SWA_STs_HEAD
  ⟨0x110, [(0x80, 8)], 0x0, 0x3, 0x0⟩,  -- SWA_STs_UNL
  ⟨0x114, [(0x80, 8)], 0x0, 0x0, 0x0⟩,  -- SWA_STs_AVAIL
  ⟨0x118, [(0x80, 8)], 0x0, 0x0, 0x0⟩,  -- SWA_STs_PEND
  ⟨0x11C, [(0x80, 8)], 0x0, 0x0, 0x0⟩,  -- SWA_STs_LAG
  ⟨0x120, [(0x80, 8)], 0x0, 0x0, 0x0⟩,  -- SWA_STs_UPTR_LO
  ⟨0x124, [(0x80, 8)], 0x0, 0x0, 0x0⟩,  -- SWA_STs_UPTR_HI
  ⟨0x128, [(0x80, 8)], 0x0, 0x0, 0x0⟩,  -- SWA_STs_UACK_LO
  ⟨0x12C, [(0x80, 8)], 0x0, 0x0, 0x0⟩,  -- SWA_STs_UACK_HI
  ⟨0x130, [(0x80, 8)], 0x0, 0x0, 0x0⟩,  -- SWA_STs_PROD_LO
  ⟨0x134, [(0x80, 8)], 0x0, 0x0, 0x0⟩,  -- SWA_STs_PROD_HI
  ⟨0x138, [(0x80, 8)], 0x0, 0x0, 0x0⟩,  -- SWA_STs_UNLD_LO
  ⟨0x13C, [(0x80, 8)], 0x0, 0x0, 0x0⟩,  -- SWA_STs_UNLD_HI
  ⟨0x140, [(0x80, 8)], 0x0, 0x0, 0x0⟩,  -- SWA_STs_EXP_LO
  ⟨0x144, [(0x80, 8)], 0x0, 0x0, 0x0⟩,  -- SWA_STs_EXP_HI
  ⟨0x148, [(0x80, 8)], 0x0, 0x0, 0x0⟩,  -- SWA_STs_DISC_LO
  ⟨0x14C, [(0x80, 8)], 0x0, 0x0, 0x0⟩,  -- SWA_STs_DISC_HI
  ⟨0x150, [(0x80, 8)], 0x0, 0x0, 0x0⟩,  -- SWA_STs_LOST_LO
  ⟨0x154, [(0x80, 8)], 0x0, 0x0, 0x0⟩  -- SWA_STs_LOST_HI
  ]

/-- Block FRW. -/
def regsFRW : List RegRow := [
  ⟨0x0, [], 0x1, 0xFFFF01, 0x0⟩,  -- FRW_CFG
  ⟨0x4, [], 0x0, 0x0, 0x0⟩,  -- FRW_IMG
  ⟨0x8, [], 0x0, 0x0, 0x100⟩,  -- FRW_SWAP
  ⟨0x10, [], 0x1, 0x1, 0x0⟩,  -- FRW_SENT_CTL
  ⟨0x100, [(0x40, 4)], 0x0, 0x5, 0x0⟩,  -- FRW_COREc_CTL
  ⟨0x104, [(0x40, 4)], 0x0, 0x0, 0x0⟩,  -- FRW_COREc_ST
  ⟨0x108, [(0x40, 4)], 0x0, 0x0, 0x0⟩,  -- FRW_COREc_PC
  ⟨0x10C, [(0x40, 4)], 0x0, 0x0, 0x70000⟩,  -- FRW_COREc_ECC
  ⟨0x110, [(0x40, 4)], 0x0, 0x0, 0x0⟩,  -- FRW_COREc_CYC_LO
  ⟨0x114, [(0x40, 4)], 0x0, 0x0, 0x0⟩,  -- FRW_COREc_CYC_HI
  ⟨0x118, [(0x40, 4)], 0x0, 0x0, 0x0⟩,  -- FRW_COREc_BUSY_LO
  ⟨0x11C, [(0x40, 4)], 0x0, 0x0, 0x0⟩,  -- FRW_COREc_BUSY_HI
  ⟨0x120, [(0x40, 4)], 0x0, 0x0, 0x0⟩,  -- FRW_COREc_BUD
  ⟨0x400, [(0x200, 4), (0x20, 16)], 0x0, 0x33FFFF, 0x0⟩,  -- FRW_Tc_t_ENTRY
  ⟨0x404, [(0x200, 4), (0x20, 16)], 0x0, 0xFFFFFFFF, 0x0⟩,  -- FRW_Tc_t_TRIG
  ⟨0x408, [(0x200, 4), (0x20, 16)], 0x0, 0xFFFFFF, 0x0⟩,  -- FRW_Tc_t_BOUND
  ⟨0x40C, [(0x200, 4), (0x20, 16)], 0x0, 0x0, 0x0⟩,  -- FRW_Tc_t_ST
  ⟨0x410, [(0x200, 4), (0x20, 16)], 0x0, 0x0, 0x0⟩,  -- FRW_Tc_t_MAX
  ⟨0xC00, [], 0x0, 0x0, 0x0⟩,  -- FRW_ADM_CAPC
  ⟨0xC04, [(0x4, 4)], 0x0, 0x0, 0x0⟩,  -- FRW_ADM_Uc
  ⟨0xC14, [], 0x0, 0x0, 0x0⟩,  -- FRW_ADM_SAFE
  ⟨0xC20, [], 0x0, 0x0, 0x0⟩,  -- FRW_ADM_ACC_LO
  ⟨0xC24, [], 0x0, 0x0, 0x0⟩,  -- FRW_ADM_ACC_HI
  ⟨0xC28, [], 0x0, 0x0, 0x0⟩,  -- FRW_ADM_REF_LO
  ⟨0xC2C, [], 0x0, 0x0, 0x0⟩,  -- FRW_ADM_REF_HI
  ⟨0xC40, [(0x10, 5)], 0x0, 0x0, 0x0⟩,  -- FRW_FCMTk
  ⟨0xC44, [(0x10, 5)], 0x0, 0x0, 0x0⟩,  -- FRW_FCMTk_REASON
  ⟨0xC48, [(0x10, 5)], 0x0, 0x0, 0x0⟩  -- FRW_FCMTk_OBJ
  ]

/-- Block QUE. -/
def regsQUE : List RegRow := [
  ⟨0x0, [], 0x0, 0x0, 0x1⟩,  -- QUE_ST
  ⟨0x4, [], 0x40000000, 0x0, 0x0⟩,  -- QUE_POOL
  ⟨0x8, [], 0x0, 0x0, 0x0⟩,  -- QUE_DROP_LO
  ⟨0xC, [], 0x0, 0x0, 0x0⟩,  -- QUE_DROP_HI
  ⟨0x10, [], 0x0, 0x0, 0x0⟩,  -- QUE_UNDER_LO
  ⟨0x14, [], 0x0, 0x0, 0x0⟩,  -- QUE_UNDER_HI
  ⟨0x18, [], 0x0, 0x0, 0x0⟩,  -- QUE_HWDROP_LO
  ⟨0x1C, [], 0x0, 0x0, 0x0⟩,  -- QUE_HWDROP_HI
  ⟨0x20, [], 0x0, 0x3F, 0x0⟩,  -- QUE_AUDSEL
  ⟨0x100, [(0x20, 64)], 0x4001000, 0x7FFFFF01, 0x0⟩,  -- QUE_Qn_CFG
  ⟨0x104, [(0x20, 64)], 0x10000, 0x7FF00F3, 0x0⟩,  -- QUE_Qn_PROD
  ⟨0x108, [(0x20, 64)], 0x10000, 0x7FF00F3, 0x0⟩,  -- QUE_Qn_CONS
  ⟨0x10C, [(0x20, 64)], 0x0, 0x0, 0x0⟩,  -- QUE_Qn_RATE
  ⟨0x110, [(0x20, 64)], 0x0, 0x0, 0x0⟩,  -- QUE_Qn_AUD
  ⟨0x114, [(0x20, 64)], 0x0, 0x0, 0x0⟩,  -- QUE_Qn_CNT
  ⟨0x118, [(0x20, 64)], 0x0, 0x0, 0x0⟩,  -- QUE_Qn_HWM
  ⟨0x900, [(0x4, 8)], 0x0, 0x0, 0x0⟩,  -- QUE_AUDXk
  ⟨0x1000, [(0x400, 8), (0x4, 256)], 0x0, 0x0, 0x0⟩  -- QUE_HQPOPh windows
  ]

/-- Block INT. -/
def regsINT : List RegRow := [
  ⟨0x0, [], 0x0, 0x0, 0x0⟩,  -- INT_ST
  ⟨0x10, [(0x4, 4)], 0x0, 0x0, 0xFFFFFFFF⟩,  -- INT_PENDw
  ⟨0x20, [(0x4, 4)], 0x0, 0x0, 0x0⟩,  -- INT_LIVEw
  ⟨0x30, [(0x4, 4)], 0x0, 0x0, 0x0⟩,  -- INT_DLVw
  ⟨0x40, [], 0x0, 0x0, 0x0⟩,  -- INT_BELL
  ⟨0x100, [(0x10, 5)], 0x0, 0x3FF7EFE, 0x0⟩,  -- INT_ENt_0 (reserved sources are RV, R538, R544)
  ⟨0x104, [(0x10, 5)], 0x0, 0xFFFFFFFF, 0x0⟩,  -- INT_ENt_1
  ⟨0x108, [(0x10, 5)], 0x0, 0x7F1FFF07, 0x0⟩,  -- INT_ENt_2
  ⟨0x10C, [(0x10, 5)], 0x0, 0xFFFFFFFF, 0x0⟩,  -- INT_ENt_3
  ⟨0x200, [(0x4, 5)], 0x0, 0x0, 0x0⟩,  -- INT_CLAIMt
  ⟨0x400, [(0x4, 128)], 0x70, 0x0, 0x0⟩,  -- INT_SRCs
  ⟨0x800, [(0x40, 16)], 0x0, 0xFFFF, 0x0⟩,  -- INT_Gg_CFG
  ⟨0x804, [(0x40, 16)], 0x4, 0x0, 0x0⟩,  -- INT_Gg_ST
  ⟨0x808, [(0x40, 16)], 0x0, 0x0, 0x0⟩,  -- INT_Gg_EDGE_LO
  ⟨0x80C, [(0x40, 16)], 0x0, 0x0, 0x0⟩,  -- INT_Gg_EDGE_HI
  ⟨0x810, [(0x40, 16)], 0x0, 0x0, 0x0⟩,  -- INT_Gg_COAL_LO
  ⟨0x814, [(0x40, 16)], 0x0, 0x0, 0x0⟩,  -- INT_Gg_COAL_HI
  ⟨0x818, [(0x40, 16)], 0x0, 0x0, 0x0⟩,  -- INT_Gg_CLAIM_LO
  ⟨0x81C, [(0x40, 16)], 0x0, 0x0, 0x0⟩,  -- INT_Gg_CLAIM_HI
  ⟨0x820, [(0x40, 16)], 0x0, 0x0, 0x0⟩,  -- INT_Gg_CLR_LO
  ⟨0x824, [(0x40, 16)], 0x0, 0x0, 0x0⟩  -- INT_Gg_CLR_HI
  ]

/-- Block ADC. -/
def regsADC : List RegRow := [
  ⟨0x0, [], 0x7080000, 0xFFF0007, 0x0⟩,  -- ADC_REF
  ⟨0x4, [], 0x0, 0x0, 0x4⟩,  -- ADC_CAL
  ⟨0x8, [], 0x1801, 0xFF01, 0x0⟩,  -- ADC_PLAUS
  ⟨0xC, [], 0x0, 0x0, 0x1⟩,  -- ADC_WERR
  ⟨0x10, [], 0x0, 0x0, 0x0⟩,  -- ADC_MIS_LO
  ⟨0x14, [], 0x0, 0x0, 0x0⟩,  -- ADC_MIS_HI
  ⟨0x18, [], 0x0, 0x0, 0x0⟩,  -- ADC_PAIR_LO
  ⟨0x1C, [], 0x0, 0x0, 0x0⟩,  -- ADC_PAIR_HI
  ⟨0x20, [], 0x0, 0x0, 0x0⟩,  -- ADC_PLOST
  ⟨0x800, [(0x800, 2)], 0x2100, 0xF3F3, 0x0⟩,  -- ADC_x_CTL
  ⟨0x804, [(0x800, 2)], 0x0, 0xFFFF, 0x0⟩,  -- ADC_x_MASK
  ⟨0x808, [(0x800, 2)], 0xFFF0000, 0xFFF0FFF, 0x0⟩,  -- ADC_x_WIN
  ⟨0x80C, [(0x800, 2)], 0x0, 0x0, 0x0⟩,  -- ADC_x_STAT
  ⟨0x810, [(0x800, 2)], 0x0, 0x0, 0x0⟩,  -- ADC_x_SCANS_LO
  ⟨0x814, [(0x800, 2)], 0x0, 0x0, 0x0⟩,  -- ADC_x_SCANS_HI
  ⟨0x818, [(0x800, 2)], 0x0, 0x0, 0x0⟩,  -- ADC_x_DONE_LO
  ⟨0x81C, [(0x800, 2)], 0x0, 0x0, 0x0⟩,  -- ADC_x_DONE_HI
  ⟨0x820, [(0x800, 2)], 0x0, 0x0, 0x0⟩,  -- ADC_x_DISC_LO
  ⟨0x824, [(0x800, 2)], 0x0, 0x0, 0x0⟩,  -- ADC_x_DISC_HI
  ⟨0x828, [(0x800, 2)], 0x0, 0x0, 0x0⟩,  -- ADC_x_URG
  ⟨0x82C, [(0x800, 2)], 0x0, 0x0, 0x0⟩,  -- ADC_x_URGRES
  ⟨0x830, [(0x800, 2)], 0x0, 0x0, 0x0⟩,  -- ADC_x_URGTIME
  ⟨0x834, [(0x800, 2)], 0x0, 0x0, 0x0⟩,  -- ADC_x_LTAKE
  ⟨0x838, [(0x800, 2)], 0x0, 0x0, 0x0⟩,  -- ADC_x_QST
  ⟨0x83C, [(0x800, 2)], 0x0, 0xF0, 0x200⟩,  -- ADC_x_SYSCTL
  ⟨0x840, [(0x800, 2), (0x4, 3)], 0x40000000, 0x0, 0x0⟩,  -- ADC_x_SCALr
  ⟨0x850, [(0x800, 2)], 0xFFF0000, 0xFFF0FFF, 0x0⟩,  -- ADC_x_SYSCODE
  ⟨0x854, [(0x800, 2)], 0x0, 0x0, 0x0⟩,  -- ADC_x_SYSU0
  ⟨0x858, [(0x800, 2)], 0x0, 0x0, 0x0⟩,  -- ADC_x_SYSU1
  ⟨0x900, [(0x800, 2), (0x40, 16)], 0x0, 0x3, 0x0⟩,  -- ADC_x_ENTe_CFG
  ⟨0x904, [(0x800, 2), (0x40, 16)], 0x0, 0x3FFFF, 0x0⟩,  -- ADC_x_ENTe_YOFF
  ⟨0x908, [(0x800, 2), (0x40, 16)], 0x4000, 0x1FFFF, 0x0⟩,  -- ADC_x_ENTe_YGAIN
  ⟨0x90C, [(0x800, 2), (0x40, 16)], 0x0, 0x0, 0x0⟩,  -- ADC_x_ENTe_LSUM
  ⟨0x910, [(0x800, 2), (0x40, 16)], 0x0, 0x0, 0x0⟩,  -- ADC_x_ENTe_LCNT
  ⟨0x914, [(0x800, 2), (0x40, 16)], 0xFFF, 0x0, 0x0⟩,  -- ADC_x_ENTe_LMM
  ⟨0x918, [(0x800, 2), (0x40, 16)], 0x0, 0x0, 0x0⟩,  -- ADC_x_ENTe_TSUM
  ⟨0x91C, [(0x800, 2), (0x40, 16)], 0x0, 0x0, 0x0⟩,  -- ADC_x_ENTe_TCNT
  ⟨0x920, [(0x800, 2), (0x40, 16)], 0xFFF, 0x0, 0x0⟩,  -- ADC_x_ENTe_TMM
  ⟨0x924, [(0x800, 2), (0x40, 16)], 0x0, 0x0, 0x0⟩,  -- ADC_x_ENTe_TSKIP
  ⟨0xE00, [(0x800, 2), (0x4, 64)], 0x0, 0x0, 0x0⟩  -- ADC_x_QPOP windows
  ]

/-- Block MON. -/
def regsMON : List RegRow := [
  ⟨0x0, [], 0x0, 0x0, 0x30000⟩,  -- MON_ST
  ⟨0x4, [], 0x5F, 0xFF, 0x0⟩,  -- MON_THR
  ⟨0x10, [(0x4, 4)], 0x0, 0x0, 0x0⟩,  -- MON_Tn
  ⟨0x20, [], 0x0, 0x0, 0xFF⟩,  -- MON_VLAT
  ⟨0x24, [], 0x0, 0x0, 0x0⟩,  -- MON_VIO
  ⟨0x40, [(0x4, 12)], 0x0, 0x0, 0x100000⟩,  -- MON_PMm
  ⟨0x80, [(0x4, 12)], 0xFFFF0000, 0xFFFFFFFF, 0x0⟩,  -- MON_PMLIMm
  ⟨0x100, [], 0x32001C2, 0x13FF03FF, 0x0⟩,  -- MON_SAVS_CFG
  ⟨0x104, [], 0x320, 0x0, 0x0⟩,  -- MON_SAVS_ST
  ⟨0x110, [], 0x3B6028A, 0x33FF03FF, 0x0⟩,  -- MON_CAVS_CFG
  ⟨0x114, [], 0x208105A, 0xFFFFFFF, 0x0⟩,  -- MON_CAVS_STEP
  ⟨0x118, [], 0x384, 0x0, 0x0⟩,  -- MON_CAVS_ST
  ⟨0x11C, [], 0x0, 0x0, 0x0⟩,  -- MON_CAVS_TGT
  ⟨0x120, [], 0x384, 0x3FF, 0x0⟩,  -- MON_CAVS_MAN
  ⟨0x124, [], 0x0, 0x0, 0x0⟩,  -- MON_CAVS_KRO
  ⟨0x140, [], 0x3144140, 0x31F7F7F, 0x0⟩,  -- MON_PMB
  ⟨0x144, [], 0xE87E, 0xFFFF, 0x0⟩,  -- MON_PMB_MASK
  ⟨0x148, [], 0x0, 0x0, 0x0⟩,  -- MON_PMB_SW
  ⟨0x14C, [], 0x0, 0x0, 0x0⟩  -- MON_PMB_ERR
  ]

/-- Block HG0 and HG1, port registers. -/
def regsHG : List RegRow := [
  ⟨0x0, [], 0x1100333, 0xFFF0733, 0x0⟩,  -- HGx_CFG
  ⟨0x4, [], 0x0, 0x0, 0x0⟩,  -- HGx_ST
  ⟨0x8, [], 0x0, 0x0, 0x0⟩,  -- HGx_RTT
  ⟨0xC, [], 0x0, 0x0, 0x0⟩,  -- HGx_RTO
  ⟨0x10, [(0x4, 2)], 0x808, 0x1000000, 0x2000000⟩,  -- HGx_EQl
  ⟨0x20, [(0x4, 4)], 0x0, 0xFFFFFFFF, 0x0⟩,  -- HGx_RESv
  ⟨0x30, [(0x4, 4)], 0x0, 0x0, 0x0⟩,  -- HGx_CRv
  ⟨0x50, [], 0x0, 0x0, 0x0⟩,  -- HGx_FTX_LO
  ⟨0x54, [], 0x0, 0x0, 0x0⟩,  -- HGx_FTX_HI
  ⟨0x58, [], 0x0, 0x0, 0x0⟩,  -- HGx_FRX_LO
  ⟨0x5C, [], 0x0, 0x0, 0x0⟩,  -- HGx_FRX_HI
  ⟨0x60, [], 0x0, 0x0, 0x0⟩,  -- HGx_RETX_LO
  ⟨0x64, [], 0x0, 0x0, 0x0⟩,  -- HGx_RETX_HI
  ⟨0x68, [], 0x0, 0x0, 0x0⟩,  -- HGx_CRCERR_LO
  ⟨0x6C, [], 0x0, 0x0, 0x0⟩,  -- HGx_CRCERR_HI
  ⟨0x70, [], 0x0, 0x0, 0x0⟩,  -- HGx_PROTERR_LO
  ⟨0x74, [], 0x0, 0x0, 0x0⟩,  -- HGx_PROTERR_HI
  ⟨0x78, [], 0x0, 0x0, 0x0⟩,  -- HGx_TIMEOUT_LO
  ⟨0x7C, [], 0x0, 0x0, 0x0⟩,  -- HGx_TIMEOUT_HI
  ⟨0x80, [], 0x0, 0x0, 0x0⟩,  -- HGx_LRESET_LO
  ⟨0x84, [], 0x0, 0x0, 0x0⟩,  -- HGx_LRESET_HI
  ⟨0x88, [], 0x0, 0x0, 0x0⟩,  -- HGx_DISC_LO
  ⟨0x8C, [], 0x0, 0x0, 0x0⟩,  -- HGx_DISC_HI
  ⟨0x90, [(0x8, 2)], 0x0, 0x0, 0x0⟩,  -- HGx_CODEERRl_LO
  ⟨0x94, [(0x8, 2)], 0x0, 0x0, 0x0⟩,  -- HGx_CODEERRl_HI
  ⟨0x400, [], 0xA0A0310, 0xFFFF0F17, 0x0⟩,  -- HGx_MSGCFG
  ⟨0x404, [], 0x0, 0x0, 0x0⟩,  -- HGx_SEC
  ⟨0x408, [], 0x0, 0x0, 0x0⟩,  -- HGx_QCTL
  ⟨0x40C, [], 0x0, 0xFFFF, 0x0⟩,  -- HGx_USTR
  ⟨0x410, [], 0x0, 0x0, 0x0⟩,  -- HGx_TXCTR
  ⟨0x414, [], 0x0, 0x0, 0x0⟩,  -- HGx_RXCTR
  ⟨0x418, [(0x8, 7)], 0x0, 0x0, 0x0⟩,  -- HGx_MSGCNTk_LO
  ⟨0x41C, [(0x8, 7)], 0x0, 0x0, 0x0⟩  -- HGx_MSGCNTk_HI
  ]

/-- Block HG0. -/
def regsHGdev : List RegRow := [
  ⟨0x500, [], 0x1000, 0x0, 0x0⟩,  -- HG0_TOPO
  ⟨0x504, [(0x4, 5)], 0x0, 0x0, 0x0⟩,  -- HG0_ROUTEp
  ⟨0x518, [(0x4, 4)], 0x0, 0x0, 0x0⟩,  -- HG0_KPERMk
  ⟨0x530, [], 0x0, 0x7, 0x400⟩,  -- HG0_NTXCTL
  ⟨0x540, [(0x4, 8)], 0x0, 0xFFFFFFFF, 0x0⟩,  -- HG0_NTXi
  ⟨0x560, [], 0x0, 0x0, 0x100⟩,  -- HG0_NRXST
  ⟨0x580, [(0x4, 8)], 0x0, 0x0, 0x0⟩,  -- HG0_NRXi
  ⟨0x5A0, [], 0x0, 0x0, 0x100⟩,  -- HG0_TMST
  ⟨0x5A8, [], 0x0, 0x0, 0x0⟩,  -- HG0_TMSTAMP_LO
  ⟨0x5AC, [], 0x0, 0x0, 0x0⟩,  -- HG0_TMSTAMP_HI
  ⟨0x5B0, [], 0x0, 0x0, 0x0⟩,  -- HG0_TMLOCAL_LO
  ⟨0x5B4, [], 0x0, 0x0, 0x0⟩  -- HG0_TMLOCAL_HI
  ]

/-- Block SAF. -/
def regsSAF : List RegRow := [
  ⟨0x0, [], 0x200, 0x0, 0x0⟩,  -- SAF_ST
  ⟨0x4, [], 0xA00, 0x13F07, 0x0⟩,  -- SAF_ARM
  ⟨0x8, [], 0x0, 0xFFFFFFFF, 0x0⟩,  -- SAF_DEP_LO
  ⟨0xC, [], 0x0, 0xFFFFFFFF, 0x0⟩,  -- SAF_DEP_HI
  ⟨0x10, [(0x4, 4)], 0x0, 0xFFFFFFFF, 0x0⟩,  -- SAF_CONTRIBd
  ⟨0x20, [(0x4, 4)], 0x0, 0x3, 0x0⟩,  -- SAF_PARTp
  ⟨0x30, [], 0x9D808E8, 0xFFF0FFF, 0x0⟩,  -- SAF_BG
  ⟨0x34, [], 0x0, 0x0, 0x0⟩,  -- SAF_RUNTOK
  ⟨0x40, [], 0x0, 0x0, 0x0⟩,  -- SAF_ARMST
  ⟨0x44, [], 0x0, 0x0, 0x0⟩,  -- SAF_LATCH
  ⟨0x48, [], 0x0, 0x0, 0x0⟩,  -- SAF_ACK
  ⟨0x4C, [], 0x0, 0x0, 0x0⟩,  -- SAF_ACK_RESP
  ⟨0x50, [], 0x0, 0x0, 0x0⟩,  -- SAF_ACKFAIL
  ⟨0x58, [], 0x0, 0x0, 0x0⟩,  -- SAF_TRIPS_LO
  ⟨0x5C, [], 0x0, 0x0, 0x0⟩,  -- SAF_TRIPS_HI
  ⟨0x60, [], 0x0, 0x0, 0x0⟩,  -- SAF_TRANS_LO
  ⟨0x64, [], 0x0, 0x0, 0x0⟩,  -- SAF_TRANS_HI
  ⟨0x100, [(0x8, 32)], 0x0, 0x0, 0x0⟩,  -- SAF_LOGj_LO
  ⟨0x104, [(0x8, 32)], 0x0, 0x0, 0x0⟩,  -- SAF_LOGj_HI
  ⟨0x200, [], 0x0, 0x0, 0x0⟩,  -- SAF_LOGPTR
  ⟨0x300, [(0x4, 25)], 0x0, 0x0, 0x0⟩  -- SAF_DIAGi
  ]

/-- Block SVC. -/
def regsSVC : List RegRow := [
  ⟨0x0, [], 0x0, 0x0, 0x200⟩,  -- SVC_ACT
  ⟨0x4, [], 0x0, 0xFFFFFFFF, 0x0⟩,  -- SVC_ARG
  ⟨0x8, [], 0x0, 0x0, 0x0⟩,  -- SVC_REASON
  ⟨0xC, [], 0x0, 0x0, 0x0⟩,  -- SVC_OBJ
  ⟨0x10, [], 0x0, 0x0, 0x0⟩,  -- SVC_MAP
  ⟨0x14, [], 0x0, 0x0, 0x0⟩,  -- SVC_SCVER
  ⟨0x18, [(0x4, 4)], 0x0, 0x0, 0x0⟩  -- SVC_SCRELk
  ]

/-- Block NVM. -/
def regsNVM : List RegRow := [
  ⟨0x0, [], 0x10, 0x7F0070, 0x200⟩,  -- NVM_CTL
  ⟨0x4, [], 0x0, 0x0, 0x0⟩,  -- NVM_ST
  ⟨0x8, [], 0x0, 0x0, 0x0⟩,  -- NVM_RET
  ⟨0xC, [], 0x0, 0xFFFFFFFF, 0x0⟩,  -- NVM_RECID
  ⟨0x10, [], 0x0, 0xFFF, 0x0⟩,  -- NVM_RECLEN
  ⟨0x14, [], 0x0, 0x0, 0x0⟩,  -- NVM_IMG
  ⟨0x18, [(0x4, 6)], 0x0, 0x0, 0x0⟩,  -- NVM_VERk
  ⟨0x30, [], 0x0, 0xFFFFFFFF, 0x0⟩,  -- NVM_BOOT
  ⟨0x34, [], 0x0, 0xFFFFFF, 0x0⟩,  -- NVM_BOOT2
  ⟨0x38, [], 0x0, 0x0, 0x0⟩,  -- NVM_ERC
  ⟨0x40, [], 0x0, 0x1F03, 0x0⟩,  -- NVM_PERM
  ⟨0x48, [], 0x0, 0x0, 0x0⟩,  -- NVM_WRB_LO
  ⟨0x4C, [], 0x0, 0x0, 0x0⟩,  -- NVM_WRB_HI
  ⟨0x8000, [(0x4, 1024)], 0x0, 0xFFFFFFFF, 0x0⟩  -- NVM_BUF
  ]

/-- The block map of R755: the registers of the block that an address lies in. -/
def blockRows (a : Nat) : List RegRow :=
  match a / 0x10000 with
  | 0x00 => regsSYS | 0x01 => regsCLK | 0x02 => regsPWR | 0x03 => regsMIC | 0x04 => regsFLT | 0x05 => regsLSN
  | 0x06 => regsDRL | 0x07 => regsSWA | 0x08 => regsFRW | 0x09 => regsQUE | 0x0A => regsINT | 0x0B => regsADC
  | 0x0C => regsMON | 0x0D => regsHG ++ regsHGdev | 0x0E => regsHG | 0x0F => regsSAF | 0x10 => regsSVC
  | 0x11 => regsNVM | _ => []

/-- The map row of a register address; none for a reserved address (R12). -/
def regRow (a : Nat) : Option RegRow := findRow (blockRows a) (a % 0x10000)

/-- Reset words that depend on the index of the register (ch. 22). -/
def resetSpecial (a : Nat) : Option Nat :=
  if 0x030040 ≤ a ∧ a < 0x0300C0 then some (0x100 + (a - 0x030040) / 4)                       -- MIC_MAPn
  else if 0x030200 ≤ a ∧ a < 0x030600 then
    (if (a - 0x030200) % 0x20 = 0x0C then some 0x400000 else none)                            -- MIC_CALn_TAP1
  else if 0x030800 ≤ a ∧ a < 0x030880 then
    let n := (a - 0x030800) / 4
    some ((0xFF <<< (8 * (n / 8))) - 2 ^ n)                                                   -- MIC_NBRn
  else if 0x044000 ≤ a ∧ a < 0x050000 then some (if (a - 0x044000) % 0x800 = 0 then 0x7FFFFF else 0)
  else if 0x070100 ≤ a ∧ a < 0x070500 then
    (match (a - 0x070100) % 0x80, (a - 0x070100) / 0x80 with
     | 0x00, 0 => some 0x00200003 | 0x00, _ => some 0x00010002                                -- SWA_STs_CFG
     | 0x08, 0 => some 0x50400661 | 0x08, _ => some 0x02C00002                                -- SWA_STs_NBLK
     | _, _ => none)
  else if 0x090100 ≤ a ∧ a < 0x090900 ∧ (a - 0x090100) % 0x20 = 0 then
    let n := (a - 0x090100) / 0x20
    some (0x04001000 + 2 * (if n < 32 then 0 else if n < 48 then 1 else if n < 56 then 2 else 3))   -- QUE_Qn_CFG
  else if a = 0x0D0020 ∨ a = 0x0E0020 then some 1000000                                       -- HGx_RES0
  else if a = 0x0D0024 ∨ a = 0x0E0024 then some 10000000                                      -- HGx_RES1
  else none

/-- The reset word of a register (R753); 0 for a reserved address (R12). -/
def resetWord (a : Nat) : BitVec 32 :=
  BitVec.ofNat 32 (match resetSpecial a with
    | some v => v
    | none => match regRow a with | some r => r.reset | none => 0)

end Sys2Proof.Machine
end

