-- ==== Sys2Proof/Machine/Sparse.lean ====
section
/-! DEFINITION. Sparse storage by address, in one canonical form: rising addresses, and no entry equal to what an
unlisted address reads as. The register file and every addressed memory of the device are held in this form. -/

namespace Sys2Proof.Machine

/-- The value at an address: the listed one, or what an unlisted address reads as. -/
def sparseGet {α : Type} (d : Nat → α) : List (Nat × α) → Nat → α
  | [], a => d a
  | (k, v) :: t, a => if k = a then v else sparseGet d t a

/-- Write a value at an address. A write of what an unlisted address reads as removes the entry. -/
def sparseSet {α : Type} [DecidableEq α] (d : Nat → α) (l : List (Nat × α)) (a : Nat) (v : α) : List (Nat × α) :=
  l.filter (fun e => decide (e.1 < a)) ++ (if v = d a then [] else [(a, v)]) ++ l.filter (fun e => decide (a < e.1))

/-- The canonical form: addresses strictly rising from `lo`, and no entry that repeats the default. -/
def sparseWfFrom {α : Type} [DecidableEq α] (d : Nat → α) : Nat → List (Nat × α) → Bool
  | _, [] => true
  | lo, (k, v) :: t => decide (lo ≤ k) && decide (v ≠ d k) && sparseWfFrom d (k + 1) t

/-- The canonical form of a sparse store. -/
def sparseWf {α : Type} [DecidableEq α] (d : Nat → α) (l : List (Nat × α)) : Bool := sparseWfFrom d 0 l

/-- Empty every address from `lo` up to but not including `hi`. -/
def sparseClear {α : Type} (l : List (Nat × α)) (lo hi : Nat) : List (Nat × α) :=
  l.filter (fun e => decide (e.1 < lo) || decide (hi ≤ e.1))

end Sys2Proof.Machine
end

