-- ==== Sys2Proof/Machine/State.lean ====
section
/-! DEFINITION. The state of the device, as plain data, and the state right after reset. Every register of the
register map lives in `regs`, read and written by address through Ops.lean; what the spec gives the device beside its
registers stands in one structure per unit. -/

namespace Sys2Proof.Machine

/-! ## Clock (ch. 2) -/

/-- The steps of a clock procedure (R52, R55): running; waiting for the partners' acknowledgements (step 1); HOLD or
MEASURE (steps 2 and 3); LOCK (step 4); RETRAIN (step 5). -/
inductive ClkPhase where
  | run | wait | hold | lock | retrain
  deriving DecidableEq, Repr

/-- Why a clock procedure runs: a clock plan with a change of HSCK (R52), a plan that changes M only (R62), the
stability check after a return of HSCK (R55), an unarmed frequency error (R64), a lock loss (R41). -/
inductive ClkWhy where
  | none | plan | mOnly | ret | freq | relock
  deriving DecidableEq, Repr

structure ClkSt where
  /-- HSCK has rising edges (R49). -/
  present : Bool
  /-- The loss in progress has reached 6000 WDO periods (R57). -/
  longLoss : Bool
  phase : ClkPhase
  why : ClkWhy
  /-- The committed class of f_H, 0 before the first classification (R47). -/
  cls : Nat
  /-- The multiplier in force (R40). -/
  mult : Nat
  /-- The class and the multiplier of the plan in progress (R51). -/
  planCls : Nat
  planM : Nat
  /-- The counts of the stability run in progress, newest first, and their class (R52 step 3). -/
  run : List Nat
  runCls : Nat
  /-- The class of the last window of start-up step 1, 0 for none (R47). -/
  startCls : Nat
  /-- Partners whose PLAN-ACK is awaited (R52 step 1). -/
  acks : List Nat
  /-- The plan was taken over from a lead's CLOCK-PLAN message. -/
  remote : Bool
  /-- A PMBus transaction in flight when the plan was accepted has still to end (R602). -/
  bus : Bool
  /-- The last window judged showed a frequency error (R50). -/
  ferr : Bool
  /-- Step 3 has run past its limit: the device stays in HOLD until a new plan (R53). -/
  failed : Bool
  /-- Partners that have not been heard since the lead's own resumption (R52 step 6). -/
  await : List Nat
  deriving DecidableEq, Repr

/-! ## Power (ch. 4) -/

/-- A start-up in progress (R126): the steps that have ended, whether the path leads to WATCH, the row of R133 that
failed (0 for none), and the steps that the failure dropped (R133). -/
structure StartSt where
  done : List Nat
  watch : Bool
  row : Nat
  drop : List Nat
  deriving DecidableEq, Repr

/-- What a transition in progress still waits for. -/
inductive TransWait where
  | zeroSwath | zeroShort | lock | phaseB | images | adcCal
  deriving DecidableEq, Repr

/-- A transition in progress (R118): its target, its cause (codes of PWR_STATE) and what it waits for. -/
structure TransSt where
  target : Nat
  cause : Nat
  waits : List TransWait
  /-- The target that the failure of an image load or a phase B puts in place of the requested one (R129, R133). -/
  divert : Bool
  /-- This exit from SENTRY runs the phase B of R128. -/
  phb : Bool
  deriving DecidableEq, Repr

structure PwrSt where
  /-- Supply-good of VDDS, VDDC, VDDM, VDDA, VDDH, VDDHA, VDDIO (R122). -/
  rails : List Bool
  /-- RST# is low (R124). -/
  rst : Bool
  /-- Released and waiting for the conditions of R124. -/
  armed : Bool
  /-- Test mode (R59, R126). -/
  test : Bool
  start : Option StartSt
  trans : Option TransSt
  /-- A held request under R38: target and cause. -/
  held : Option (Nat × Nat)
  /-- Writes are deferred (R140). -/
  deferring : Bool
  /-- Words deferred during SENTRY, oldest first (R140). -/
  deferred : List (Nat × Word)
  /-- Qualified wakes held until the next state entry (R131, R145): source, seed, position. -/
  wakes : List (Nat × Nat × Nat)
  /-- OFF with the HSP responding (R134). -/
  offResp : Bool
  /-- The row of R133 whose refused targets are in force, 0 for none. -/
  failRow : Nat
  /-- The seeds of the store have been installed since start-up (R126 step 9, R121). -/
  seeded : Bool
  deriving DecidableEq, Repr

/-! ## Host port and commits (ch. 3, 14) -/

/-- A commit: its words take effect together (R88). -/
structure Commit where
  origin : Origin
  words : List (Nat × Word)
  deriving DecidableEq, Repr

/-- The response phase of the last HSP transaction (R71). -/
structure HspResp where
  status : Nat
  words : List Word
  crc : Nat
  deriving DecidableEq, Repr

structure HspSt where
  /-- The staging set, while open: oldest address first (R96). -/
  stage : Option (List (Nat × Word))
  /-- What the device drove in the response phase of the last transaction; none where it drove nothing. -/
  resp : Option HspResp
  /-- Commits submitted and awaiting the admission controller, first in first out (R90). -/
  checks : List Commit
  /-- The staging sets of F0 to F3 and the sentry core (R430). -/
  fw : List (List (Nat × Word))
  /-- Replay of tunnelled transactions awaiting a reply: the outstanding tag and device (R104). -/
  tun : Option (Nat × Nat)
  /-- Segments of the reply in reassembly (R102). -/
  tunBuf : List Nat
  deriving DecidableEq, Repr

/-! ## Time (R39, R527) -/

structure TimeSt where
  /-- HSCK cycles since RST# release. -/
  hsck : Nat
  /-- The phase accumulator of the 1 µs tick. -/
  acc : Nat
  /-- HSCK cycles in the millisecond, and the milliseconds in the second, in progress. -/
  inMs : Nat
  inSec : Nat
  /-- Milliseconds counted since RST# release. -/
  ms : Nat
  /-- HSCK cycle at which the transition in progress started. -/
  transAt : Nat
  /-- Ticks of the 1 µs tick since RST# release. -/
  us : Nat
  deriving DecidableEq, Repr

/-! ## Interrupt controller (ch. 15) -/

structure IntSt where
  /-- Sources whose delivery was withdrawn and that await redelivery (R526). -/
  redeliver : List Nat
  deriving DecidableEq, Repr

/-! ## Microphone inputs (ch. 5) -/

/-- The interval an input passes through (R137). -/
inductive Settle where
  | none | tsu | tmc
  deriving DecidableEq, Repr

/-- A calibration measurement in progress (R175): the targets still to measure, in order. -/
structure CalMeas where
  targets : List Nat
  deriving DecidableEq, Repr

/-- A group clock's ball (R155, R156): its level, the HSCK cycles of the half-period in progress, and the cycles below which
that half-period does not end. -/
structure PckSt where
  high : Bool
  since : Nat
  least : Nat
  deriving DecidableEq, Repr

/-- A channel that an automatic remap served (R168): the channel, the input that faulted, the spare that it took (none where
there was none). -/
structure RemapSt where
  chan : Nat
  input : Nat
  spare : Option Nat
  deriving DecidableEq, Repr

structure MicSt where
  /-- The interval in progress on each input. -/
  settle : List Settle
  /-- The divider of each group's clock in force, 0 while it is held low (R155, R160). -/
  div : List Nat
  /-- The phase counter that all group dividers count from, modulo 64 (R155, R156). -/
  phase : Nat
  pck : List PckSt
  /-- The automatic remaps of the HSCK cycle `remapAt` (R181, R182). -/
  remapAt : Nat
  remaps : List RemapSt
  /-- The times (ms) of each input's density events within the last second, newest first. -/
  dens : List (List Nat)
  /-- The sums of squares of each input's last 150 frames of 10 ms, newest first, each over its sample count (R179). -/
  levels : List (List (Nat × Nat))
  cal : Option CalMeas
  /-- An NVM action on the calibration sets in progress: true for SAVE (R174). -/
  nvm : Option Bool
  /-- SENTRY only: the group the sentry input left, powered until the end of TSU (R162). -/
  oldGroup : Option Nat
  /-- Inputs whose automatic remap waits for an admission decision (R169). -/
  waitRemap : List Nat
  deriving DecidableEq, Repr

/-! ## Decimation and filters (ch. 6) -/

/-- The input stage of one physical input (R192, R193). -/
structure CicSt where
  integ : List Nat
  comb : List Nat
  /-- PDM frames since the anchor (R208). -/
  frames : Nat
  /-- The raw ring, newest first (R196). -/
  ring : List Int
  /-- Comb samples since the last event of R206 on this input. -/
  fill : Nat
  /-- The comb samples of a measurement's window so far, newest first, while the input is being measured (R175). -/
  meas : Option (List Int)
  deriving DecidableEq, Repr

/-- A fine-chain instance: the input, the bank settings and the calibration set that it computes with (R197). -/
structure Inst where
  input : Nat
  bank : Nat
  taps : Nat
  oshift : Nat
  gain : Int
  delay : Nat
  tap : List Int
  deriving DecidableEq, Repr

/-- A fade in progress: the old instance, the outputs made so far and the exponent of the length (R200). -/
structure ChainFade where
  old : Inst
  i : Nat
  log2L : Nat
  /-- Outputs that the old instance has still to mark UNSETTLED (R200, R201). -/
  uns : Nat
  deriving DecidableEq, Repr

structure ChainSt where
  inst : Inst
  fade : Option ChainFade
  /-- The comb counts of the input at the last fine output and at the last glance output (R208). -/
  at_ : Nat
  gAt : Nat
  /-- Fine and glance outputs still to be marked UNSETTLED (R205, R204). -/
  uns : Nat
  gUns : Nat
  /-- The next output, and the next glance output, carries DISCONTINUITY. -/
  disc : Bool
  gDisc : Bool
  /-- The channel carries zeros: no spare (R168). -/
  mute : Bool
  /-- Peak hold count and mean square (R212). -/
  hold : Nat
  ms : Nat
  deriving DecidableEq, Repr

/-- A crossbar destination: the source in force, a fade (old source, outputs so far, log2 of the length), whether the
next sample carries DISCONTINUITY or UNSETTLED, and the last sample word delivered (R213, R214). -/
structure RouteSt where
  src : Nat
  fade : Option (Nat × Nat × Nat)
  disc : Bool
  uns : Bool
  last : Nat
  deriving DecidableEq, Repr

/-- The sentry decimator (R207). -/
structure SentDec where
  integ : List Nat
  comb : List Nat
  bits : Nat
  /-- Samples at 32 kHz, newest first, and those formed since the last output (R208). -/
  hist : List Int
  n32 : Nat
  uns : Nat
  disc : Bool
  deriving DecidableEq, Repr

structure FltSt where
  cic : List CicSt
  chain : List ChainSt
  route : List RouteSt
  /-- The last sample word of each crossbar source code. -/
  srcLast : List (Nat × Nat)
  sent : SentDec
  /-- A sync edge that awaits: true when the lead broadcasts it, with the cycles from e to the edge (R209, R210). -/
  sync : Option Nat
  deriving DecidableEq, Repr

/-! ## Listening (ch. 7) -/

/-- A sound-activity detector with its Tilth loop (R224 to R232). -/
structure SadSt where
  run : Bool
  /-- Sample words of the frame in progress, oldest first. -/
  buf : List Nat
  /-- The minimum window, newest first (R228). -/
  win : List Int
  onRun : Nat
  hangRun : Nat
  /-- Frames of the activity in progress. -/
  act : Nat
  /-- No onset until HANG frames have fallen below the threshold (R231). -/
  lockout : Bool
  /-- Consecutive frames at the floor's upper and lower limit, and whether this stay has been told (R232). -/
  railHi : Nat
  railLo : Nat
  railed : Bool
  /-- A RESEED written with FREEZE awaits the first frame that is not excluded (R252). -/
  pend : Bool
  deriving DecidableEq, Repr

structure LsnSt where
  sad : List SadSt
  /-- A wake from WAKEIN# is possible (R239). -/
  pinReady : Bool
  /-- The pause after a stand-down runs (R243). -/
  gap : Bool
  /-- The HSCK cycle at which a qualified wake recorded its source, and the WAKE body sent then (R247). -/
  wakeEdge : Option (Nat × Option (List Nat))
  /-- The HSCK cycle of a stand-down at the expiry of TMO, and whether source 37 was pending before it (R248). -/
  stood : Option (Nat × Bool)
  deriving DecidableEq, Repr

/-! ## The swath (ch. 9) -/

/-- The block a strip is writing, and the marks gathered for its header (R295). -/
structure BlockSt where
  idx : Nat
  stamp : Nat
  frames : Nat
  gap : Bool
  sync : Bool
  wake : Bool
  zero : Bool
  validFrom : Nat
  uns : Nat
  disc : Nat
  sat : Nat
  unsEnd : Nat
  deriving DecidableEq, Repr

structure StripSt where
  cur : Option BlockSt
  /-- Tag store: index and stamp of each resident block, newest first, the block being written included (R298). -/
  tags : List (Nat × Nat)
  /-- The index of the next block, none before the first one of a period (R297). -/
  next : Option Nat
  /-- The frames of each block, by its stamp, that are neither unloaded nor expired, discarded or lost: PEND (R320). -/
  owed : List (Nat × Nat)
  /-- The next block carries the gap mark (R54), and the SYNC mark (R295). -/
  gap : Bool
  sync : Bool
  /-- Unload runs on this strip; UPTR and the SC up to which blocks have been sent (R314). -/
  unl : Bool
  sent : Nat
  /-- Blocks sent over Hedgerow and not yet acknowledged, oldest first: stamps. -/
  flight : List Nat
  /-- LAG exceeded three quarters and has not fallen below one half since (R317). -/
  lagged : Bool
  deriving DecidableEq, Repr

structure SwaSt where
  strip : List StripSt
  /-- The swath, the short swath (bytes by address). -/
  mem : List Host.Cell
  short : List Host.Cell
  /-- 64-bit words with an uncorrectable error, by byte address, in the swath and the short swath (R302). -/
  bad : List Nat
  badShort : List Nat
  /-- 64-bit words with a single-bit error, in the swath and the short swath (R302): the memories hold the corrected word. -/
  soft : List Nat
  softShort : List Nat
  /-- The block being written in the short swath, the short-swath tags, the index of its next block. -/
  scur : Option BlockSt
  stags : List (Nat × Nat)
  snext : Option Nat
  sgap : Bool
  /-- Wake marks at or past the blocks in progress, in the swath and the short swath (R295, R300). -/
  marks : List Nat
  smarks : List Nat
  /-- The HSCK cycle of the last zeroize edge on each memory with the counter there, of the last wake with its mark, and of the
  last opening with its mark (R322, R323). -/
  zeroAt : Option (Nat × Nat)
  szeroAt : Option (Nat × Nat)
  wakeAt : Option (Nat × Nat)
  openAt : Option (Nat × Nat)
  /-- Zeroize in progress: swath, short swath (R318). -/
  zsw : Bool
  zss : Bool
  /-- Writing: a recording period runs (R290). -/
  run : Bool
  /-- Rows flagged for repair, and rows remapped (R304). -/
  flagged : List Nat
  repaired : List Nat
  /-- Seconds of idle, in milliseconds within the second in progress (R309). -/
  idleMs : Nat
  /-- HSCK cycle at which the last swath frame was formed. -/
  lastAt : Nat
  deriving DecidableEq, Repr

/-! ## Queues (ch. 14) -/

/-- A credited queue (R488): the producer's credits, the occupied entries oldest first, the entries in flight oldest
first, the credits returning; whether a BQ queue has primed (R490), and whether the next CI entry carries
DISCONTINUITY (R489). -/
structure QueueSt where
  cred : Nat
  occ : List Nat
  infl : List Nat
  ret : Nat
  primed : Bool
  disc : Bool
  deriving DecidableEq, Repr

structure QueSt where
  q : List QueueSt
  deriving DecidableEq, Repr

/-! ## The Drill (ch. 8) -/

/-- A complete feature frame kept for matching and marks (R260, R268): its number, the counter at its first and last
sample, the greatest |DATA| with the counter at its earliest such sample, and the features (none for a marked frame). -/
structure FrameInfo where
  t : Nat
  first : Nat
  last : Nat
  peak : Nat
  peakAt : Nat
  v : Option (List Nat)
  deriving DecidableEq, Repr

/-- A Drill input (R259): the buffered samples with the counter at each, oldest first, beginning at sample 160 t of the
next frame t; the last frames, newest first; the unmarked frames since sample 0 or a marked frame (R271); while marks may be refined, the fine-chain outputs behind the input's glance with the counter at each, newest
first (R268). -/
structure DrlIn where
  buf : List (Nat × Nat)
  t : Nat
  frames : List FrameInfo
  clean : Nat
  /-- A sample was dropped: the next one carries DISCONTINUITY (R494). -/
  lost : Bool
  fine : List (Nat × Nat)
  deriving DecidableEq, Repr

/-- One (slot, input) pair: the cells of the last frame (D, S; none for an invalid cell), the frames of refractory left,
and the candidacy: consecutive frames without a passing cell (R262, R266, R270). -/
structure PairSt where
  key : Nat
  cells : List (Option (Nat × Nat))
  refr : Nat
  cand : Option Nat
  deriving DecidableEq, Repr

/-- A slot as the sentry profile holds it (R257, R258). -/
structure HeldSlot where
  slot : Nat
  cls : Nat
  thr : Nat
  pre : Nat
  oslope : Nat
  refr : Nat
  band : Nat
  arm : Bool
  deriving DecidableEq, Repr

/-- An enrolment in progress (R279): the segments held; the first frame of the utterance in progress, its last frame at or
above the threshold, and whether the activity has ended. -/
structure EnrolSt where
  input : Nat
  slot : Nat
  count : Nat
  segs : List (List (List Nat))
  from_ : Option Nat
  last : Nat
  ended : Bool
  deriving DecidableEq, Repr

/-- A record stream (R277): its bytes so far. -/
structure StreamRec where
  total : Nat
  bytes : List Nat
  /-- The write sequence number of the record's fragments (R730). -/
  seq : Nat
  deriving DecidableEq, Repr

/-- A record action in progress (R276): the action code, the slot and the error it ends with. -/
structure RecAct where
  action : Nat
  slot : Nat
  err : Nat
  deriving DecidableEq, Repr

structure DrlSt where
  /-- D0 to D3, and the sentry profile's input as entry 4. -/
  inp : List DrlIn
  pairs : List PairSt
  /-- The record each slot holds, as bytes (R274); net class slots hold the net's record. -/
  recs : List (Nat × List Nat)
  held : List HeldSlot
  /-- The event queue, oldest first, four words an entry (R269). -/
  evq : List (List Word)
  stream : Option StreamRec
  act : Option RecAct
  enr : Option EnrolSt
  deriving DecidableEq, Repr

/-! ## Hedgerow (ch. 18, 19) -/

/-- A message (R641): its header, body and trailer (16 bytes when AUTH = 1). -/
structure Msg where
  typ : Nat
  dst : Nat
  src : Nat
  auth : Bool
  hops : Nat
  hopmax : Nat
  param : Nat
  body : List Nat
  trailer : List Nat
  deriving DecidableEq, Repr

/-- A DATA frame sent and not yet acknowledged (R625). -/
structure TxFrame where
  seq : Nat
  vc : Nat
  msg : Msg
  deriving DecidableEq, Repr

/-- The session keys of a port (R655, R656): the sending and receiving keys in force with their generations, and
the exchange in progress. -/
structure KeySt where
  send : Nat
  recv : Nat
  sendGen : Nat
  recvGen : Nat
  myNonce : List Nat
  hisNonce : List Nat
  helloSent : Bool
  helloSeen : Bool
  confSent : Bool
  confSeen : Bool
  nextSend : Nat
  nextRecv : Nat
  /-- The generation in exchange. -/
  gen : Nat
  deriving DecidableEq, Repr

/-- A receive slot in use (R627, R644): the message, whether this device has still to take it, the port it has still to be
relayed on, and the HSCK cycle of its arrival. -/
structure RxMsg where
  vc : Nat
  msg : Msg
  own : Bool
  relay : Option Nat
  at_ : Nat
  deriving DecidableEq, Repr

structure HgPort where
  /-- Messages at the transmit hand-offs: VC and message, oldest first (R627). -/
  tx : List (Nat × Msg)
  /-- Sent and unacknowledged, oldest first; those still to retransmit (R626). -/
  unacked : List TxFrame
  retx : List TxFrame
  nextSeq : Nat
  expSeq : Nat
  /-- A DATA frame has been accepted since the link reset (ACKV). -/
  ackV : Bool
  /-- The NAK for the expected frame (R625): 0 none, 1 due in the next STATUS, 2 sent. -/
  nak : Nat
  /-- Receive slots in use, oldest first (R627). -/
  rx : List RxMsg
  /-- Per VC: INIT, SENT, FREED of the partner, and slots this side has freed (R627). -/
  init : List Nat
  sent : List Nat
  freed : List Nat
  myFreed : List Nat
  /-- Consecutive retry timeouts without ACK progress (R626). -/
  rtos : Nat
  /-- Failed training attempts in a row (R616). -/
  fails : Nat
  /-- The lanes this side asks for, and those the partner asked for (LREQ). -/
  lreq : Nat
  hisLreq : Nat
  /-- Greatest C_rt of the echoes received, and their number (R618). -/
  crt : Nat
  echoes : Nat
  /-- The training in progress keeps state on this side (R631). -/
  keep : Bool
  hisKeep : Bool
  /-- Consecutive equaliser updates at a limit, per lane and element (R621). -/
  railRun : List Nat
  /-- The sum of the error counters at the start of the ERRWIN window (R640). -/
  errBase : Nat
  /-- Nothing has been exchanged since the last link reset (R632). -/
  clean : Bool
  /-- Tokens per VC, in link bytes times f_H (R628). -/
  tokens : List Nat
  key : KeySt
  /-- Times (ms) of the MAC failures of the last second and of the faulty events in the window, newest first (R666). -/
  macTimes : List Nat
  qTimes : List Nat
  deriving DecidableEq, Repr

/-- The buffer ahead of an unload stream's hand-off (R661): sample words oldest first, drops since the last message,
samples sent since the period began. -/
structure UStream where
  buf : List Nat
  drops : Nat
  count : Nat
  deriving DecidableEq, Repr

/-- A tunnelled transaction in reassembly at the partner (R648, R649). -/
structure TunIn where
  tag : Nat
  seg : Nat
  op : Nat
  addr : Nat
  count : Nat
  words : List Word
  port : Nat
  deriving DecidableEq, Repr

structure HgSt where
  port : List HgPort
  ustr : List UStream
  tun : Option TunIn
  /-- TOPO as last received per member, 0 to 3 and the bridge: H0 and H1 neighbour codes; none where not heard. -/
  topo : List (Option (Nat × Nat))
  topoSeq : Nat
  planTag : Nat
  syncNo : Nat
  /-- Session counter of the next nonce (R655). -/
  session : Nat
  /-- Frames transmitted on the lanes, newest last: what the last FRAME_TRANSMIT put on the line, as bytes. -/
  line : List (Nat × List Nat)
  deriving DecidableEq, Repr

/-! ## The Furrow cores (ch. 10 to 13) -/

/-- The architectural registers of a core (R334 to R336, R482, R483). Furrow-S keeps lane 0 of accumulator 0 only. -/
structure CoreRegs where
  s : List Word
  q : List (BitVec 128)
  ac : List (List Int)
  p : BitVec 8
  lc : List Word
  lb : List Word
  le : List Word
  /-- cr0: the mode last written; the modes that govern the next bundle and the one after it (R405). -/
  fmode : BitVec 8
  fmNow : BitVec 8
  fmNext : BitVec 8
  fstat : BitVec 2
  epc : Word
  estat : Word
  efmode : BitVec 8
  eaddr : Word
  evec : Word
  /-- The high cycle word latched by a read of cr8 (R336). -/
  cycHi : Word
  deriving DecidableEq, Repr

/-- A transfer whose delay slot is still to run, or a replay record (R461): the branch bundle's address, its delay slot's
address, whether it is taken, and its target. -/
structure Transfer where
  addr : Nat
  slot : Nat
  taken : Bool
  target : Nat
  deriving DecidableEq, Repr

/-- A bundle in progress (R338): the words so far, the last slot, whether it breaks a bundle rule, the first slot with an
illegal instruction, the registers written so far, the transfer of its A slot, whether it holds a
transfer or a loop set-up, and the registers as they stood before it. -/
structure Bundle where
  words : Nat
  last : Nat
  bad : Bool
  ill : Option Nat
  wrote : List Nat
  br : Option (Bool × Nat)
  ctl : Bool
  before : CoreRegs
  deriving DecidableEq, Repr

/-- A released job (R356, R359): its task, its deadline in HSCK cycles, and the context of a preempted one. -/
structure Job where
  task : Nat
  deadline : Nat
  ctx : Option (CoreRegs × Nat)
  deriving DecidableEq, Repr

structure CoreSt where
  regs : CoreRegs
  pc : Nat
  /-- The next bundle is the delay slot of this transfer. -/
  slot : Option Transfer
  /-- The replay record of a delay-slot exception (R461). -/
  replay : Option Transfer
  /-- The next bundle is the shadow of a mode write (R335). -/
  shadow : Bool
  bun : Option Bundle
  /-- Long loads outstanding, oldest first: destination and value (R342). -/
  ret : List (Nat × BitVec 128)
  /-- The store buffer, oldest first: core address and bytes (R343). -/
  buf : List (Nat × List Nat)
  /-- Released jobs; the running task; tasks with a held release; time of each task's last release (R356 to R361). -/
  jobs : List Job
  run : Option Nat
  heldRel : List Nat
  lastRel : List (Option Nat)
  /-- Time of the end of INIT, in HSCK cycles: the periods of KIND 3 count from it (R356). -/
  initEnd : Nat
  /-- A STEP of a halted core is in progress (R366). -/
  stepping : Bool
  /-- The running job is to be abandoned at the next eligible boundary (R360). -/
  drop : Bool
  deriving DecidableEq, Repr

structure FrwSt where
  /-- F0 to F3, the sentry core, the Scarecrow. -/
  core : List CoreSt
  /-- Program and data memories of the six, the Common (bytes by address). -/
  prog : List (List Host.Cell)
  data : List (List Host.Cell)
  common : List Host.Cell
  /-- 64-bit words with an uncorrectable error, by byte address. -/
  badProg : List (List Nat)
  badData : List (List Nat)
  badCommon : List Nat
  /-- 64-bit words with a single-bit error that no access has met yet (R351): memory (0 program, 1 data, 2 Common), core
  (0 for the Common), byte address. -/
  soft : List (Nat × Nat × Nat)
  /-- The cycle counts of the sentry core and of the Scarecrow (R336), and the half of f_H at which the sentry core runs. -/
  cyc : List Nat
  half : Bool
  /-- State of the Scarecrow, codes of FRW_COREc_ST.STATE. -/
  scState : Nat
  /-- A hitless update in progress (R363): the version of the alternate image, and the task tables that it puts in force. -/
  swapVer : Nat
  swapTasks : List (Nat × Word)
  deriving DecidableEq, Repr

/-! ## The supervisory ADC (ch. 16) -/

/-- What a conversion is for (R555, R575). -/
inductive ConvKind where
  | urgent | cal | sys | pair | scan | window
  deriving DecidableEq, Repr

structure AdcConv where
  /-- The conversion in its slot: kind, entry, the reference was in tolerance at its start, the tick at sampling. -/
  conv : Option (ConvKind × Nat × Bool × Nat)
  /-- Entries of the running scan still to convert, the one in its slot included. -/
  scan : Option (List Nat)
  /-- A scan start is pending; the mode in force (R551, R552). -/
  start : Bool
  mode : Nat
  /-- A held urgent request: its entry (R556). -/
  urg : Option Nat
  /-- Results on the other side of the window so far; no result since the comparator reset (R554). -/
  wrun : Nat
  wfresh : Bool
  /-- The tagged queue, oldest first (R573). -/
  q : List (Nat × Nat)
  /-- Self-calibration: conversions completed, sums of the two points (R566). -/
  calN : Nat
  cal0 : Int
  cal1 : Int
  /-- A system calibration step: step, entry, conversions completed, sum of u (R569). -/
  sys : Option (Nat × Nat × Nat × Int)
  /-- Entries to take at the next slot boundary (R572). -/
  take : List Nat
  deriving DecidableEq, Repr

structure AdcSt where
  /-- ADC-A, ADC-B. -/
  x : List AdcConv
  /-- A self-calibration runs. -/
  self : Bool
  /-- The reference's settling interval has passed (R562). -/
  settled : Bool
  /-- An AINS pair runs; the halves' corrected values so far (R559, R560). -/
  pair : Bool
  halfA : Option Int
  halfB : Option Int
  deriving DecidableEq, Repr

/-! ## Monitors and loops (ch. 17) -/

/-- A PMBus transaction (R593): the regulator (true for VDDS), the command code, the data, the attempts so far. -/
structure PmbTr where
  sent : Bool
  cmd : Nat
  data : Nat
  tries : Nat
  deriving DecidableEq, Repr

structure MonSt where
  /-- Sensors critical (R589). -/
  crit : List Bool
  /-- Sentry loop: milliseconds without a run-canary failure, and with the margin canary clean, and since the last step
  down, held at 64 (R595). -/
  runOk : Nat
  marOk : Nat
  sDown : Nat
  /-- Core loop: milliseconds since the last step down, held at 255, and of SETTLE still to skip (R596). -/
  cDown : Nat
  skip : Nat
  /-- Consecutive evaluations with a condition held: sentry up, sentry down, core up, core down (R600). -/
  runs : List Nat
  /-- Transactions waiting, the one on the bus first. -/
  bus : List PmbTr
  /-- The sentry loop and the core loop are frozen by a PMBus failure (R594), and since when (ms) a loop is frozen. -/
  frz : List Bool
  frzAt : List (Option Nat)
  /-- The core setpoint and f_C stored at SENTRY entry (R597). -/
  stored : Option (Nat × Nat)
  /-- The setpoints that commands of the sentry loop and of the core loop have replaced within SETTLE, each with the HSCK
  cycle of the command (R590). -/
  prev : List (List (Nat × Nat))
  deriving DecidableEq, Repr

/-! ## Functional safety (ch. 20) -/

/-- What the Scarecrow keeps of a partner (R709, R710): the last accepted SSEQ, whether it is synchronised, whether an
SSEQ has been adopted, and the time (ms) of the last accepted heartbeat and since when it has been healthy. -/
structure SafPart where
  ssEq : Nat
  sync : Bool
  adopted : Bool
  at_ : Option Nat
  well : Option Nat
  deriving DecidableEq, Repr

structure SafSt where
  /-- The run permit (R687). -/
  permit : Bool
  /-- The last token written, as the output stage expects its complement; none before the first. -/
  token : Option Nat
  /-- Per diagnostic: the times (ms) of its events within W, newest first, and of its last event. -/
  win : List (List Nat)
  lastEvent : List (Option Nat)
  /-- Diagnostics whose latch the device has found unrepairable until the next start-up (R708). -/
  stuck : List Nat
  /-- Arming in progress: the step reached (R696). -/
  arming : Bool
  /-- A stop decision awaits its confirmation (R691): slot, input, score. -/
  decision : Option (Nat × Nat × Nat)
  /-- Times (ms): the last confirmed stop, step 2 of the acknowledgement, the Scarecrow's program start, the last lockstep
  event. -/
  stopAt : Option Nat
  ackAt : Nat
  progAt : Nat
  lockAt : Option Nat
  /-- The acknowledgement waits for the Scarecrow (R707 step 2). -/
  ackReq : Bool
  /-- Slots verified as stop-class (R275, R690), and the class outputs recorded at arming (R703). -/
  table : List Nat
  /-- Good readback samples in a row (R696), and whether the last matched. -/
  good : Nat
  match_ : Bool
  /-- SSEQ of the next PDU this device forms (R710). -/
  ssEq : Nat
  part : List SafPart
  /-- Inputs with a remap treated as transient, with its time in ms (R701). -/
  remaps : List (Nat × Nat)
  /-- Events on the Scarecrow's lines not yet taken: diagnostic, threshold, time in ms (R682, R698). -/
  lines : List (Nat × Nat × Nat)
  /-- Rows flagged on a safety strip and not repaired; proofs passed since each diagnostic's last event (R705). -/
  proved : List Nat
  /-- Per diagnostic, the time (ms) at which its condition last stood (R705). -/
  seen : List Nat
  /-- HSCK cycle of the last trip (R693), and the partners whose heartbeat has tripped the device in this cycle of the
  Scarecrow (R724). -/
  tripAt : Option Nat
  hbTrip : List Nat
  deriving DecidableEq, Repr

/-! ## NVM and service (ch. 21) -/

/-- A fragment of a record as stored (R730). -/
structure Frag where
  typ : Nat
  idx : Nat
  last : Bool
  id : Nat
  seq : Nat
  data : List Nat
  deriving DecidableEq, Repr

/-- A sector of the record area: its number, erase count and fragments in the order written (R732). -/
structure Sector where
  num : Nat
  erased : Nat
  frags : List Frag
  deriving DecidableEq, Repr

structure NvmSt where
  /-- FWKEY and SEEDKEY, 64 bytes each, once provisioned (R728). -/
  fwkey : Option (List Nat)
  seedkey : Option (List Nat)
  /-- Link keys 0 to 3 with permissions: 16 bytes as a number, and the mask of R736. -/
  link : List (Option (Nat × Nat))
  /-- The repair map (R728): swath rows, cores, sectors. -/
  rows : List Nat
  cores : List Nat
  bad : List Nat
  /-- Image slots A and B of the three kinds, as bytes of the slot (R727). -/
  slot : List (List Host.Cell)
  /-- The record area's sectors that hold fragments or have been erased since production. -/
  sec : List Sector
  seq : Nat
  /-- The record sector being filled, 0 for none; the VALID bits of the image slots; bytes programmed (R730, R737, R752). -/
  cur : Nat
  valid : Nat
  wrb : Nat
  /-- A command in progress: its code and the error it ends with. -/
  cmd : Option (Nat × Nat)
  /-- A service action in progress: its code, argument and the error it ends with. -/
  act : Option (Nat × Nat × Nat)
  /-- A retirement accepted and waiting for a task-frame boundary: the words of its commit (R741). -/
  retire : Option (List (Nat × Word))
  /-- The generations of the anchor's two copies (R728). -/
  gens : Nat × Nat
  deriving DecidableEq, Repr

/-! ## The whole device -/

structure State where
  /-- Commands waiting, first in first out. -/
  pending : List Instr
  /-- The register file: every register of the map, unlisted at its reset word. -/
  regs : List (Nat × Word)
  clk : ClkSt
  pwr : PwrSt
  hsp : HspSt
  time : TimeSt
  int : IntSt
  mic : MicSt
  flt : FltSt
  lsn : LsnSt
  drl : DrlSt
  swa : SwaSt
  que : QueSt
  hg : HgSt
  frw : FrwSt
  adc : AdcSt
  mon : MonSt
  saf : SafSt
  nvm : NvmSt
  /-- The JTAG instruction selected (R788). -/
  jtag : Nat
  /-- The number of free values drawn so far: the model's own counter. -/
  free : Nat
  deriving DecidableEq, Repr

/-! ## Reset -/

/-- A fine-chain instance with the reset settings on an input (R222, R187). -/
def Inst.reset (n : Nat) : Inst := ⟨n, 0, 1, 0, 0x400000, 0, [0, 0x400000, 0, 0]⟩

def PckSt.reset : PckSt := ⟨false, 0, 0⟩
def CicSt.reset : CicSt := ⟨[0, 0, 0, 0, 0], [0, 0, 0, 0, 0], 0, [], 0, none⟩
def ChainSt.reset (n : Nat) : ChainSt := ⟨Inst.reset n, none, 0, 0, 0, 0, false, false, false, 0, 0⟩
def RouteSt.reset : RouteSt := ⟨0, none, false, false, 0⟩
def SadSt.reset : SadSt := ⟨false, [], [], 0, 0, 0, false, 0, 0, false, false⟩
def StripSt.reset : StripSt := ⟨none, [], none, [], false, false, false, 0, [], false⟩
def DrlIn.reset : DrlIn := ⟨[], 0, [], 0, false, []⟩
def QueueSt.reset : QueueSt := ⟨0, [], [], 0, false, false⟩
def KeySt.reset : KeySt := ⟨0, 0, 0, 0, [], [], false, false, false, false, 0, 0, 0⟩
def HgPort.reset : HgPort where
  tx := []
  unacked := []
  retx := []
  nextSeq := 0
  expSeq := 0
  ackV := false
  nak := 0
  rx := []
  init := [0, 0, 0, 0]
  sent := [0, 0, 0, 0]
  freed := [0, 0, 0, 0]
  myFreed := [0, 0, 0, 0]
  rtos := 0
  fails := 0
  lreq := 3
  hisLreq := 3
  crt := 0
  echoes := 0
  keep := false
  hisKeep := false
  railRun := List.replicate 8 0
  errBase := 0
  clean := true
  tokens := [0, 0, 0, 0]
  key := KeySt.reset
  macTimes := []
  qTimes := []
def UStream.reset : UStream := ⟨[], 0, 0⟩

/-- A core's registers at reset (R334, R335). -/
def CoreRegs.reset : CoreRegs where
  s := List.replicate 32 0
  q := List.replicate 16 0
  ac := List.replicate 4 [0, 0, 0, 0]
  p := 1
  lc := [0, 0]
  lb := [0, 0]
  le := [0, 0]
  fmode := 0x7B
  fmNow := 0x7B
  fmNext := 0x7B
  fstat := 0
  epc := 0
  estat := 0
  efmode := 0
  eaddr := 0
  evec := 0
  cycHi := 0

def CoreSt.reset : CoreSt :=
  ⟨CoreRegs.reset, 0, none, none, false, none, [], [], [], none, [], List.replicate 16 none, 0, false, false⟩
def AdcConv.reset : AdcConv :=
  ⟨none, none, false, 0, none, 0, true, [], 0, 0, 0, none, []⟩

/-- The device right after reset: in OFF with RST# low and every supply good, HSCK present and not yet classified, every
register at its reset word, every memory empty. -/
def State.reset : State where
  pending := []
  regs := []
  clk := ⟨true, false, .run, .none, 0, 0, 0, 0, [], 0, 0, [], false, false, false, false, []⟩
  pwr := ⟨List.replicate 7 true, true, false, false, none, none, none, false, [], [], false, 0, false⟩
  hsp := ⟨none, none, [], List.replicate 5 [], none, []⟩
  time := ⟨0, 0, 0, 0, 0, 0, 0⟩
  int := ⟨[]⟩
  mic := ⟨List.replicate 32 .none, [0, 0, 0, 0], 0, List.replicate 4 PckSt.reset, 0, [], List.replicate 32 [], List.replicate 32 [],
    none, none, none, []⟩
  flt := ⟨List.replicate 32 CicSt.reset, (List.range 32).map ChainSt.reset, List.replicate 148 RouteSt.reset, [],
    ⟨[0, 0, 0, 0], [0, 0, 0, 0], 0, [], 0, 0, false⟩, none⟩
  lsn := ⟨List.replicate 2 SadSt.reset, true, false, none, none⟩
  drl := ⟨List.replicate 5 DrlIn.reset, [], [], [], [], none, none, none⟩
  swa := ⟨List.replicate 8 StripSt.reset, [], [], [], [], [], [], none, [], none, false, [], [], none, none, none, none, false, false, false, [], [],
    0, 0⟩
  que := ⟨List.replicate 64 QueueSt.reset⟩
  hg := ⟨List.replicate 2 HgPort.reset, List.replicate 16 UStream.reset, none, List.replicate 5 none, 0, 0, 0, 0, []⟩
  frw := ⟨List.replicate 6 CoreSt.reset, List.replicate 6 [], List.replicate 6 [], [], List.replicate 6 [],
    List.replicate 6 [], [], [], [0, 0], false, 0, 0, []⟩
  adc := ⟨List.replicate 2 AdcConv.reset, false, false, false, none, none⟩
  mon := ⟨List.replicate 4 false, 0, 0, 64, 255, 0, [0, 0, 0, 0], [], [false, false], [none, none], none, [[], []]⟩
  saf := ⟨false, none, List.replicate 25 [], List.replicate 25 none, [], false, none, none, 0, 0, none, false, [], 0,
    false, 1, List.replicate 4 ⟨0, false, false, none, none⟩, [], [], [],
    List.replicate 25 0, none, []⟩
  nvm := ⟨none, none, List.replicate 4 none, [], [], [], List.replicate 6 [], [], 0, 0, 0, 0, none, none, none, (0, 0)⟩
  jtag := 1
  free := 0

/-! ## Why a step can stop -/

/-- The faults of the model: what stops the device. No command of the spec stops it. -/
inductive Fault where
  /-- Raised by no command: an operand outside every range of the spec leaves the state as it is. The name stands so that
  claims can say that nothing faults. Safe. -/
  | illFormed
  deriving DecidableEq, Repr

/-- The refusals of the model. -/
inductive Refusal where
  /-- Raised by the dispatcher for a command that has no meaning yet. Safe: nothing is claimed about it. -/
  | notModelled (mnemonic : String)
  deriving DecidableEq, Repr

end Sys2Proof.Machine
end

