-- ==== Sys2Proof/Machine/Ops.lean ====
section
/-! DEFINITION. The named operations over the register file, the counters, the free values and the interrupt sources:
every unit reads and changes registers through these alone. -/

namespace Sys2Proof.Machine

/-- The host's outcome of a command that completes. -/
abbrev ok (s : State) : Host.Outcome State Fault Refusal := .next s

/-- The stored word of a register (R11). -/
def State.rd (s : State) (a : Nat) : Word := sparseGet resetWord s.regs a

/-- Store a register word. -/
def State.wr (s : State) (a : Nat) (v : Word) : State := { s with regs := sparseSet resetWord s.regs a v }

/-- The value of a register field. -/
def State.get (s : State) (f : Fld) : Nat := bits (s.rd f.addr).toNat f.lo f.width

/-- The value of a signed register field. -/
def State.getI (s : State) (f : Fld) : Int := toSigned f.width (s.get f)

/-- A one-bit field as a truth value. -/
def State.flag (s : State) (f : Fld) : Bool := s.get f == 1

/-- Set a register field, cut to its width; the register's other bits stay. -/
def State.put (s : State) (f : Fld) (v : Nat) : State :=
  s.wr f.addr (BitVec.ofNat 32 (setBits (s.rd f.addr).toNat f.lo f.width v))

/-- Set a signed register field. -/
def State.putI (s : State) (f : Fld) (v : Int) : State := s.put f (ofSigned f.width v)

/-- Set a one-bit field. -/
def State.mark (s : State) (f : Fld) (b : Bool) : State := s.put f (b2n b)

/-- One bit of a mask field. -/
def State.bitOf (s : State) (f : Fld) (i : Nat) : Bool := bit (s.get f) i

/-- Set one bit of a mask field. -/
def State.putBit (s : State) (f : Fld) (i : Nat) (b : Bool) : State := s.put f (setBit (s.get f) i b)

/-- A 64-bit register pair by the address of its low word (R758). -/
def State.pair (s : State) (lo : Nat) : Nat := (s.rd lo).toNat + 2 ^ 32 * (s.rd (lo + 4)).toNat

/-- Write a 64-bit register pair. -/
def State.setPair (s : State) (lo v : Nat) : State :=
  (s.wr lo (BitVec.ofNat 32 v)).wr (lo + 4) (BitVec.ofNat 32 (v / 2 ^ 32))

/-- Add to a 64-bit count. -/
def State.bump64 (s : State) (lo : Nat) (n : Nat) : State := s.setPair lo (s.pair lo + n)

/-- Add 1 to a field that holds its greatest value once it is reached. -/
def State.incSat (s : State) (f : Fld) : State :=
  if s.get f + 1 < 2 ^ f.width then s.put f (s.get f + 1) else s

/-- Add 1 to a field that wraps. -/
def State.incWrap (s : State) (f : Fld) : State := s.put f (s.get f + 1)

/-- The next free value, below `n`; nothing constrains it otherwise. The step advances the counter. -/
def State.fresh (s : State) (n : Nat) : Nat × State :=
  (Config.freeValue s.free % n, { s with free := s.free + 1 })

/-- Apply an update where a condition holds. -/
def State.when (s : State) (c : Bool) (f : State → State) : State := if c then f s else s

/-! ## Device-wide readings -/

/-- The position of the device (R24). -/
def State.devid (s : State) : Nat := s.get F.SYS_STRAP_DEVID

/-- The state of the device, codes of PWR_STATE.STATE (R150). -/
def State.pstate (s : State) : Nat := s.get F.PWR_STATE_STATE

abbrev OFF : Nat := 0
abbrev SENTRY : Nat := 1
abbrev WATCH : Nat := 2
abbrev RECORD : Nat := 3
abbrev TRIPPED : Nat := 4
abbrev SERVICE : Nat := 5

/-- WATCH, RECORD, TRIPPED or SERVICE: the core domain is powered (R114). -/
def State.awake (s : State) : Bool := decide (WATCH ≤ s.pstate)

/-- Nominal f_H of a class, in Hz (R37). -/
def fhOf (c : Nat) : Nat :=
  if c = 1 then 6144000 else if c = 2 then 12288000 else if c = 3 then 24576000 else if c = 4 then 49152000 else 0

/-- The committed nominal f_H in Hz (R39). -/
def State.fH (s : State) : Nat := fhOf s.clk.cls

/-- The core clock f_C in Hz (R40). -/
def State.fC (s : State) : Nat := s.fH * s.clk.mult

/-- The greatest multiplier of a class (R37); 0 where the core domain does not run. -/
def maxM (c : Nat) : Nat := if c = 2 ∨ c = 3 then 40 else if c = 4 then 20 else 0

/-- The sentry domain is clocked: HSCK present and no clock procedure holding it; a lock loss holds the core domain alone (R41,
R54, R55). -/
def State.sentryClocked (s : State) : Bool :=
  s.clk.present && decide (s.pstate ≠ OFF) && (decide (s.clk.phase = .run) || decide (s.clk.why = .relock))

/-- The core domain runs: f_H present, the multiplier locked, no clock procedure in progress (R41, R52). -/
def State.coreRuns (s : State) : Bool :=
  s.clk.present && s.flag F.CLK_STAT_LOCK && decide (s.clk.phase = .run)

/-- The safety function is armed (R150). -/
def State.armed (s : State) : Bool := s.flag F.SAF_ST_ARMED

/-- SAF_ARM.REQ, or an armed device: the rules "while armed" apply (R695). -/
def armedRules (s : State) : Bool := s.flag F.SAF_ARM_REQ || s.armed

/-! ## Interrupt sources (R520, R521) -/

/-- A rising edge of a source: it sets PEND, or is coalesced and counted (R521). -/
def State.edge (s : State) (n : Nat) : State :=
  let s := s.bump64 (A.INT_Gg_EDGE_LO (n / 8)) 1
  if s.flag (F.INT_SRCs_PEND n) then s.bump64 (A.INT_Gg_COAL_LO (n / 8)) 1 else s.mark (F.INT_SRCs_PEND n) true

/-- An event of an event source: one pulse of LIVE, one rising edge (R520). LIVE falls at the next HSCK edge. -/
def State.event (s : State) (n : Nat) : State := (s.mark (F.INT_SRCs_LIVE n) true).edge n

/-- An event of diagnostic `i` arrives on the Scarecrow's line, with its threshold (R682, R698); OFF has none. -/
def State.safLine (s : State) (i t : Nat) : State :=
  if s.pstate = OFF then s else { s with saf := { s.saf with lines := s.saf.lines ++ [(i, t, s.time.ms)] } }

/-- The level of a level source: a change from 0 to 1 is a rising edge (R520). -/
def State.level (s : State) (n : Nat) (b : Bool) : State :=
  if b then (if s.flag (F.INT_SRCs_LIVE n) then s else (s.mark (F.INT_SRCs_LIVE n) true).edge n)
  else if s.flag (F.INT_SRCs_LIVE n) then s.mark (F.INT_SRCs_LIVE n) false else s

/-- Source 1: any bit of CLK_SUP is set (R538). -/
def State.supLevel (s : State) : State := s.level 1 (decide (s.rd A.CLK_SUP ≠ 0))

/-! ## Lists of per-unit entries -/

/-- Replace one strip's entry. -/
def State.setStrip (s : State) (k : Nat) (v : StripSt) : State :=
  { s with swa := { s.swa with strip := setNth s.swa.strip k v } }

/-- Replace one fine chain's entry. -/
def State.setChain (s : State) (k : Nat) (v : ChainSt) : State :=
  { s with flt := { s.flt with chain := setNth s.flt.chain k v } }

/-- Replace one input stage's entry. -/
def State.setCic (s : State) (k : Nat) (v : CicSt) : State :=
  { s with flt := { s.flt with cic := setNth s.flt.cic k v } }

/-- Replace one crossbar destination's entry. -/
def State.setRoute (s : State) (k : Nat) (v : RouteSt) : State :=
  { s with flt := { s.flt with route := setNth s.flt.route k v } }

/-- Replace one sound-activity detector's entry. -/
def State.setSad (s : State) (k : Nat) (v : SadSt) : State :=
  { s with lsn := { s.lsn with sad := setNth s.lsn.sad k v } }

end Sys2Proof.Machine
end

