-- ==== Sys2Proof/Machine/Intc.lean ====
section
/-! DEFINITION. The interrupt controller (ch. 15): delivery, claims, clears, doorbells, and the commands on it. -/

namespace Sys2Proof.Machine

/-- The level sources of the source table (R538); every other source is an event source. -/
def levelSources : List Nat := [1, 4, 6, 58, 74, 75, 81, 88, 89, 91, 92, 94, 97, 98, 101, 105, 106, 109]

/-- The reserved source numbers never rise (R538). -/
def sourceExists (n : Nat) : Bool :=
  (decide (1 ≤ n) && decide (n ≤ 127)) &&
  !([8, 15, 85, 86, 87, 95].contains n || (decide (26 ≤ n) && decide (n ≤ 31)) || (decide (67 ≤ n) && decide (n ≤ 71)))

/-- Target `t` is enabled for source `n` (R522). -/
def intEnabled (s : State) (t n : Nat) : Bool := bit (s.rd (A.INT_ENt_w t (n / 32))).toNat (n % 32)

/-- Target `t` is available (R522): a core in RUN or IDLE, the host outside OFF. -/
def intAvailable (s : State) (t : Nat) : Bool :=
  if t < 4 then
    let st := s.get (F.FRW_COREc_ST_STATE t)
    s.awake && (st == 2 || st == 3)
  else decide (s.pstate ≠ OFF) || s.pwr.offResp

/-- Source `n` is pending. -/
def intPend (s : State) (n : Nat) : Bool := s.flag (F.INT_SRCs_PEND n)

/-- The first qualifying target in the cyclic order F0, F1, F2, F3, host, from the target after the pointer (R523). -/
def intTarget (s : State) (n : Nat) : Option Nat :=
  let p := s.get (F.INT_Gg_ST_PTR (n / 8))
  ((upto 5).map (fun k => (p + 1 + k) % 5)).find? (fun t => intEnabled s t n && intAvailable s t)

/-- Deliver one source under R523 and start the group's Fallow timer (R528). -/
def intDeliver (s : State) (n t : Nat) : State :=
  let g := n / 8
  ((s.put (F.INT_SRCs_DTGT n) t).put (F.INT_Gg_ST_PTR g) t).put (F.INT_Gg_ST_HOLD g) (s.get (F.INT_Gg_CFG_FALLOW g))

/-- A source that awaits a delivery: pending and undelivered. -/
def intWaiting (s : State) (n : Nat) : Bool := intPend s n && s.get (F.INT_SRCs_DTGT n) == 7

/-- The group's sources, the highest number first (R519). -/
def groupSources (g : Nat) : List Nat := ((upto 8).map (fun k => 8 * g + 7 - k)).filter (fun n => decide (0 < n))

/-- Redelivery of the group's withdrawn sources: neither the pointer nor the timer moves (R526). -/
def intRedeliver (s : State) (g : Nat) : State :=
  let s := forEach ((groupSources g).filter (fun n => s.int.redeliver.contains n))
    (fun s n => if intWaiting s n then
        match intTarget s n with
        | some t => s.put (F.INT_SRCs_DTGT n) t
        | none => s
      else s) s
  let left := s.int.redeliver.filter (fun n => !(decide (n / 8 = g)) || intWaiting s n)
  { s with int := { s.int with redeliver := left } }

/-- The decision of one group at an HSCK edge (R524): with FALLOW = 0 every waiting source, highest first, each taking
the next target in rotation; with FALLOW > 0 the highest one that has a target. None while the timer runs. -/
def intDecide (s : State) (g : Nat) : State :=
  let s := intRedeliver s g
  if s.get (F.INT_Gg_ST_HOLD g) ≠ 0 then s
  else if s.get (F.INT_Gg_CFG_FALLOW g) = 0 then
    forEach (groupSources g) (fun s n =>
      if intWaiting s n then match intTarget s n with | some t => intDeliver s n t | none => s else s) s
  else
    match (groupSources g).find? (fun n => intWaiting s n && (intTarget s n).isSome) with
    | none => s
    | some n => match intTarget s n with | some t => intDeliver s n t | none => s

/-- Deliveries to a target that is unavailable or no longer enabled are withdrawn (R526). -/
def intWithdraw (s : State) : State :=
  let lost := (upto 128).filter (fun n =>
    intPend s n && decide (s.get (F.INT_SRCs_DTGT n) < 5) &&
    !(intEnabled s (s.get (F.INT_SRCs_DTGT n)) n && intAvailable s (s.get (F.INT_SRCs_DTGT n))))
  let s := forEach lost (fun s n => s.put (F.INT_SRCs_DTGT n) 7) s
  let rest := s.int.redeliver.filter (fun n => !lost.contains n)
  { s with int := { s.int with redeliver := lost ++ rest } }

/-- The sources pending and enabled for target `t`, the highest first (R529). -/
def intClaimable (s : State) (t : Nat) : List Nat :=
  ((upto 127).map (fun k => 127 - k)).filter (fun n => intPend s n && intEnabled s t n)

/-- What INT_CLAIMt reads for its owner: NUM, LIVE and MORE of a claim made now (R529). -/
def intClaimWord (s : State) (t : Nat) : Word :=
  match intClaimable s t with
  | [] => 0
  | n :: rest => BitVec.ofNat 32 (n + 2 ^ 8 * s.get (F.INT_SRCs_LIVE n) + 2 ^ 9 * b2n (!rest.isEmpty))

/-- A source leaves pending, with its delivery. -/
def intTake (s : State) (n : Nat) : State :=
  let s := (s.mark (F.INT_SRCs_PEND n) false).put (F.INT_SRCs_DTGT n) 7
  let rest := s.int.redeliver.filter (fun k => decide (k ≠ n))
  { s with int := { s.int with redeliver := rest } }

/-- The claim of target `t` (R529): the highest qualifying source is cleared and counted. -/
def intClaim (s : State) (t : Nat) : State :=
  match intClaimable s t with
  | [] => s
  | n :: _ => (intTake s n).bump64 (A.INT_Gg_CLAIM_LO (n / 8)) 1

/-- A W1C write of INT_PENDw: the named pending bits clear, each counted in CLR (R534). -/
def intClear (s : State) (w : Nat) (v : Nat) : State :=
  forEach (ones 32 v) (fun s i =>
    if intPend s (32 * w + i) then (intTake s (32 * w + i)).bump64 (A.INT_Gg_CLR_LO ((32 * w + i) / 8)) 1 else s) s

/-- Doorbells: bit n raises source 120 + n (R535). -/
def intRing (s : State) (v : Nat) : State := forEach (ones 8 v) (fun s i => s.event (120 + i)) s

/-- A commit of FALLOW: the remaining hold becomes the lesser of its value and the new one (R528). -/
def intFallow (s : State) (g : Nat) : State :=
  s.put (F.INT_Gg_ST_HOLD g) (Nat.min (s.get (F.INT_Gg_ST_HOLD g)) (s.get (F.INT_Gg_CFG_FALLOW g)))

/-- A target's request line (R525). -/
def intReq (s : State) (t : Nat) : Bool :=
  (upto 128).any (fun n => intPend s n && s.get (F.INT_SRCs_DTGT n) == t)

/-- HIRQ#, asserted (R525): on the lead only (R24). -/
def hirqOn (s : State) : Bool := intReq s 4 && decide (s.devid = 0)

/-- Entry to OFF: every PEND, DTGT, enable, timer and count clears and each PTR is 4 (R537). -/
def intOff (s : State) : State :=
  { s with regs := sparseClear s.regs 0x0A0000 0x0B0000, int := { s.int with redeliver := [] } }

/-- One tick of the 1 µs tick on the Fallow timers (R528). -/
def intTick (s : State) : State :=
  forEach (upto 16) (fun s g =>
    let h := s.get (F.INT_Gg_ST_HOLD g)
    if h = 0 then s else s.put (F.INT_Gg_ST_HOLD g) (h - 1)) s

/-- The LIVE pulses of event sources end at the HSCK edge (R520). -/
def intLiveEnd (s : State) : State :=
  forEach ((upto 128).filter (fun n => !levelSources.contains n)) (fun s n =>
    if s.flag (F.INT_SRCs_LIVE n) then s.mark (F.INT_SRCs_LIVE n) false else s) s

/-- INT_PENDw, INT_LIVEw and INT_DLVw, gathered from the sources (R544). -/
def intWordView (s : State) (p : Nat → Bool) (w : Nat) : Word :=
  BitVec.ofNat 32 (sumN ((upto 32).map (fun i => if p (32 * w + i) then 2 ^ i else 0)))

/-! ## The commands -/

/-- SOURCE_EDGE (R521): a unit outside the cores raises an event of a source the source table names. -/
def execSourceEdge (n : Nat) (s : State) : Host.Outcome State Fault Refusal :=
  ok (if sourceExists n && (decide (s.pstate ≠ OFF) || s.pwr.offResp) then s.event n else s)

/-- DELIVERY (R524): group `g` decides at an HSCK edge. No delivery is decided without HSCK or in a clock-plan HOLD
(R537). -/
def execDelivery (g : Nat) (s : State) : Host.Outcome State Fault Refusal :=
  ok (if s.clk.present && decide (s.clk.phase = .run) && decide (g < 16) then intDecide s g else s)

/-- FALLOW_EXPIRE (R528): the group's timer reaches 0, and the group decides at that edge (R542). -/
def execFallowExpire (g : Nat) (s : State) : Host.Outcome State Fault Refusal :=
  ok (if decide (g < 16) && decide (s.get (F.INT_Gg_ST_HOLD g) ≠ 0) && s.clk.present then
        let s := s.put (F.INT_Gg_ST_HOLD g) 0
        if s.clk.phase = .run then intDecide s g else s
      else s)

/-- CLAIM (R529): a read of INT_CLAIMt by its owner. -/
def execClaim (t : Nat) (s : State) : Host.Outcome State Fault Refusal :=
  ok (if t < 5 then intClaim s t else s)

/-- PEND_CLEAR (R534): a W1C write of INT_PENDw. -/
def execPendClear (w : Nat) (v : Word) (s : State) : Host.Outcome State Fault Refusal :=
  ok (if w < 4 then intClear s w v.toNat else s)

/-- INT_BELL (R535): a host write of INT_BELL; in OFF, to which test mode belongs, no write of it arrives (R59, R111, R134). -/
def execIntBell (v : BitVec 8) (s : State) : Host.Outcome State Fault Refusal :=
  ok (if s.pstate = OFF then s else intRing s v.toNat)

end Sys2Proof.Machine
end

