-- ==== Sys2Proof/Machine/Queue.lean ====
section
/-! DEFINITION. The queue fabric (R484 to R496): pushes, pops, credits, and the commands on the queues. -/

namespace Sys2Proof.Machine

/-- The empty queue without credits: a disabled queue. -/
def queueEmpty : QueueSt := ⟨0, [], [], 0, false, false⟩

/-- Queue `n`. -/
def State.queue (s : State) (n : Nat) : QueueSt := nth s.que.q n queueEmpty

/-- Replace queue `n`. -/
def State.setQueue (s : State) (n : Nat) (v : QueueSt) : State :=
  { s with que := { s.que with q := setNth s.que.q n v } }

/-- Queue `n` is enabled (R486). -/
def queueOn (s : State) (n : Nat) : Bool := decide (n < 64) && s.flag (F.QUE_Qn_CFG_EN n)

/-- The class of a queue, fixed by its number (R484): 0 CI, 1 BQ, 2 MB, 3 HQ. -/
def queueClass (n : Nat) : Nat := if n < 32 then 0 else if n < 48 then 1 else if n < 56 then 2 else 3

/-- The depth of an enabled queue (R486). -/
def queueDepth (s : State) (n : Nat) : Nat := 4 * s.get (F.QUE_Qn_CFG_DEPTH4 n)

/-- Some HQ queue holds an occupied entry (R496). -/
def hqAny (s : State) : Bool := (upto 8).any (fun h => !(s.queue (56 + h)).occ.isEmpty)

/-- Source 58 after a change of an HQ queue: it rises each time a queue goes from empty to non-empty; its level is the OR
of HQNE (R496). -/
def hqLevel (s : State) (rose : Bool) : State :=
  if rose then (if s.flag (F.INT_SRCs_LIVE 58) then s.edge 58 else s.level 58 true) else s.level 58 (hqAny s)

/-- Push entries: each spends a credit and is in flight (R488). The credits must be present. -/
def queuePush (s : State) (n : Nat) (es : List Nat) : State :=
  let q := s.queue n
  s.setQueue n { q with cred := q.cred - es.length, infl := q.infl ++ es }

/-- Pop `k` occupied entries: each credit returns (R488). The entries must be occupied. -/
def queuePop (s : State) (n k : Nat) : State :=
  let q := s.queue n
  let s := s.setQueue n { q with occ := q.occ.drop k, ret := q.ret + Nat.min k q.occ.length }
  if queueClass n = 3 then hqLevel s false else s

/-- The oldest entry in flight becomes occupied (R488); HWM follows the greatest occupancy. -/
def queueArrive (s : State) (n : Nat) : State :=
  let q := s.queue n
  match q.infl with
  | [] => s
  | e :: t =>
    let s := s.setQueue n { q with occ := q.occ ++ [e], infl := t }
    let s := if s.get (F.QUE_Qn_HWM_HWM n) < q.occ.length + 1 then s.put (F.QUE_Qn_HWM_HWM n) (q.occ.length + 1) else s
    if queueClass n = 3 then hqLevel s q.occ.isEmpty else s

/-- Count drops or discards of a queue (R487, R489). -/
def queueCountDrop (s : State) (n k : Nat) : State :=
  let s := s.put (F.QUE_Qn_CNT_DROP n) (Nat.min 65535 (s.get (F.QUE_Qn_CNT_DROP n) + k))
  s.bump64 A.QUE_DROP_LO k

/-- The crossbar pushes a sample into a CI queue; without credit the sample drops (R489). -/
def ciPush (s : State) (n : Nat) (w : Nat) : State :=
  if queueOn s n then
    let q := s.queue n
    if q.cred = 0 then ((queueCountDrop s n 1).setQueue n { q with disc := true }).event 56
    else
      let w := if q.disc then setBit w 25 true else w
      (queuePush s n [w]).setQueue n { (queuePush s n [w]).queue n with disc := false }
  else s

/-- Enable a queue: it starts empty with C = DEPTH, and a BQ queue primes afresh (R488, R490). -/
def queueEnable (s : State) (n : Nat) : State := s.setQueue n ⟨queueDepth s n, [], [], 0, false, false⟩

/-- Disable a queue: its entries are discarded, and counted for a CI or BQ queue (R487). -/
def queueDisable (s : State) (n : Nat) : State :=
  let q := s.queue n
  let k := q.occ.length + q.infl.length
  let s := if queueClass n < 2 ∧ k ≠ 0 then queueCountDrop s n k else s
  let s := s.setQueue n queueEmpty
  if queueClass n = 3 then hqLevel s false else s

/-- The audit word of queue `n` (R492); 0 while the queue is disabled. -/
def queueAudit (s : State) (n : Nat) : Word :=
  if queueOn s n then
    let q := s.queue n
    BitVec.ofNat 32 (q.cred % 2 ^ 11 + 2 ^ 11 * (q.occ.length % 2 ^ 11) + 2 ^ 22 * (q.infl.length % 32) +
      2 ^ 27 * (q.ret % 32))
  else 0

/-- SENTRY entry: the queues' entries are discarded and counted as dropped (R512). -/
def queuesDiscard (s : State) : State :=
  forEach ((upto 64).filter (queueOn s)) (fun s n =>
    let q := s.queue n
    let k := q.occ.length + q.infl.length
    let s := if k = 0 then s else queueCountDrop s n k
    let s := s.setQueue n queueEmpty
    if queueClass n = 3 then hqLevel s false else s) s

/-- SENTRY exit: every queue starts empty with C = DEPTH (R512). -/
def queuesStart (s : State) : State := forEach ((upto 64).filter (queueOn s)) queueEnable s

/-- The host pops `k` entries of HQ queue `56 + h` (R495). -/
def hqPop (s : State) (h k : Nat) : State := if queueOn s (56 + h) then queuePop s (56 + h) k else s

/-- QUE_ST.HQNE (R496). -/
def hqneView (s : State) : Nat := sumN ((upto 8).map (fun h => if (s.queue (56 + h)).occ.isEmpty then 0 else 2 ^ h))

/-- QUE_POOL.USED: the depths of the enabled queues (R486). -/
def poolUsed (s : State) : Nat := sumN (((upto 64).filter (queueOn s)).map (queueDepth s))

/-- A drop at a fixed hand-off (R494): counted, and source 60 rises. -/
def handoffDrop (s : State) (k : Nat) : State := (s.bump64 A.QUE_HWDROP_LO k).event 60

/-! ## The commands -/

/-- ENTRY_ARRIVE (R488): the oldest entry in flight of queue `n` becomes occupied. -/
def execEntryArrive (n : Nat) (s : State) : Host.Outcome State Fault Refusal :=
  ok (if queueOn s n && s.coreRuns then queueArrive s n else s)

/-- CREDIT_RETURN (R488): a returning credit of queue `n` is added to C. -/
def execCreditReturn (n : Nat) (s : State) : Host.Outcome State Fault Refusal :=
  ok (if queueOn s n && s.coreRuns && decide (0 < (s.queue n).ret) then
    s.setQueue n { s.queue n with cred := (s.queue n).cred + 1, ret := (s.queue n).ret - 1 } else s)

/-- HQ_POP (R495): a host read of `k` words of an HQ pop window pops the entries it returns. -/
def execHqPop (h k : Nat) (s : State) : Host.Outcome State Fault Refusal :=
  ok (if h < 8 then hqPop s h k else s)

end Sys2Proof.Machine
end

