-- ==== Sys2Proof/Machine/HgOps.lean ====
section
/-! DEFINITION. Originating Hedgerow messages (R641 to R646): the units that send one call these; the link (Link.lean)
carries them. -/

namespace Sys2Proof.Machine

/-- Port `x`: 0 for H0, 1 for H1. -/
def State.hgp (s : State) (x : Nat) : HgPort := nth s.hg.port x HgPort.reset

/-- Replace port `x`. -/
def State.setHgp (s : State) (x : Nat) (p : HgPort) : State :=
  { s with hg := { s.hg with port := setNth s.hg.port x p } }

abbrev HG_OFF : Nat := 0
abbrev HG_DETECT : Nat := 1
abbrev HG_EQ : Nat := 2
abbrev HG_DESKEW : Nat := 3
abbrev HG_IDENT : Nat := 4
abbrev HG_RTT : Nat := 5
abbrev HG_UP : Nat := 6
abbrev HG_WAIT : Nat := 7
abbrev HG_CONFLICT : Nat := 8

/-- The port's link layer runs (R616). -/
def hgUp (s : State) (x : Nat) : Bool := s.get (F.HGx_ST_STATE x) == HG_UP

/-- Virtual channels (R622). -/
abbrev VC_SAFE : Nat := 0
abbrev VC_CTRL : Nat := 1
abbrev VC_AUDIO : Nat := 2
abbrev VC_BULK : Nat := 3

/-- Place a message at the transmit hand-off of a port's VC. -/
def hgQueue (s : State) (x vc : Nat) (m : Msg) : State :=
  s.setHgp x { s.hgp x with tx := (s.hgp x).tx ++ [(vc, m)] }

/-- AUTH of an originated message (R643). -/
def hgAuth (s : State) (x vc : Nat) : Bool := decide (vc < 2) || s.flag (F.HGx_MSGCFG_AUTHDATA x)

/-- HOPMAX of a broadcast on port `x`: 3 in a chain; in a ring of n members the two copies share n − 1 links (R646). -/
def hgHopmax (s : State) (x : Nat) : Nat :=
  if s.flag F.HG0_TOPO_RING then
    let n := s.get F.HG0_TOPO_MEMBERS
    if x = 1 then ceilDiv (n - 1) 2 else (n - 1) / 2
  else 3

/-- Originate a message to one destination on the route to it (R645, R667); no effect where none is reachable. -/
def hgSend (s : State) (vc typ dst param : Nat) (body : List Nat) : State :=
  if dst < 5 ∧ s.flag (F.HG0_ROUTEp_VALID dst) then
    let x := s.get (F.HG0_ROUTEp_PORT dst)
    hgQueue s x vc ⟨typ, dst, s.devid, hgAuth s x vc, 0, 3, param, body, []⟩
  else s

/-- Originate a message to every member: a copy on each port that is UP (R646). -/
def hgBroadcast (s : State) (vc typ param : Nat) (body : List Nat) : State :=
  forEach ((upto 2).filter (hgUp s)) (fun s x =>
    if hgHopmax s x = 0 then s
    else hgQueue s x vc ⟨typ, 7, s.devid, hgAuth s x vc, 0, hgHopmax s x, param, body, []⟩) s

/-- Message codes (R647). -/
abbrev T_REG_REQ : Nat := 0x01
abbrev T_REG_RSP : Nat := 0x02
abbrev T_CLOCK_PLAN : Nat := 0x03
abbrev T_PLAN_ACK : Nat := 0x04
abbrev T_SYNC : Nat := 0x05
abbrev T_WAKE : Nat := 0x06
abbrev T_PREWAKE : Nat := 0x07
abbrev T_STAND_DOWN : Nat := 0x08
abbrev T_TIME_MARK : Nat := 0x09
abbrev T_NOTICE : Nat := 0x0A
abbrev T_KEY_HELLO : Nat := 0x0B
abbrev T_KEY_CONFIRM : Nat := 0x0C
abbrev T_TOPO : Nat := 0x0D
abbrev T_AUDIO : Nat := 0x10
abbrev T_BULK_SEG : Nat := 0x11
abbrev T_BULK_ACK : Nat := 0x12
abbrev T_BULK_READ : Nat := 0x13
abbrev T_NAK_DENIED : Nat := 0x14
abbrev T_SAFE_HB : Nat := 0x20
abbrev T_SAFE_STOP : Nat := 0x21

end Sys2Proof.Machine
end

