-- ==== Sys2Proof/Machine/Swath.lean ====
section
/-! DEFINITION. The swath, the short swath and the mitten (ch. 9): blocks and rings, zeroize, the mitten's openings and
closings, reads of history, unload, and the commands on them. -/

namespace Sys2Proof.Machine

/-! ## The memories -/

/-- Bytes of the swath (R288). -/
abbrev swathBytes : Nat := 33554432
/-- Bytes of the short swath (R288). -/
abbrev shortBytes : Nat := 262144

/-- What an unlisted byte of a memory reads as. -/
def memDefault : Nat → Byte := fun _ => 0

/-- The byte of a memory at an address. -/
def memGet (m : List Host.Cell) (a : Nat) : Nat := (sparseGet memDefault m a).toNat

/-- Write one byte. -/
def memSet (m : List Host.Cell) (a v : Nat) : List Host.Cell := sparseSet memDefault m a (BitVec.ofNat 8 v)

/-- Write bytes at rising addresses. -/
def memWrite (m : List Host.Cell) : Nat → List Nat → List Host.Cell
  | _, [] => m
  | a, b :: t => memWrite (memSet m a b) (a + 1) t

/-- `n` bytes from an address. -/
def memRead (m : List Host.Cell) (a n : Nat) : List Nat := (upto n).map (fun i => memGet m (a + i))

/-- The little-endian 32-bit word at an address. -/
def memWord (m : List Host.Cell) (a : Nat) : Word := BitVec.ofNat 32 (leOfBytes (memRead m a 4))

/-- Write `w` bits of `v` at a bit offset from a byte address, little-endian in the bit stream (R294). -/
def memBits (m : List Host.Cell) (base off w v : Nat) : List Host.Cell :=
  let a := base + off / 8
  let n := (off % 8 + w + 7) / 8
  memWrite m a (bytesOfLe n (setBits (leOfBytes (memRead m a n)) (off % 8) w v))

/-! ## Strips (R292, R293) -/

def State.strip (s : State) (k : Nat) : StripSt := nth s.swa.strip k StripSt.reset

/-- Strip `k` is enabled. -/
def stripOn (s : State) (k : Nat) : Bool := decide (k < 8) && s.flag (F.SWA_STs_CFG_EN k)

/-- Bits per sample of a format code (R295). -/
def fmtBits (f : Nat) : Nat := if f = 0 then 16 else if f = 1 then 20 else 24

def stripWidth (s : State) (k : Nat) : Nat := fmtBits (s.get (F.SWA_STs_CFG_FMT k))
def stripSlots (s : State) (k : Nat) : Nat := s.get (F.SWA_STs_CFG_NSLOT k)

/-- Block length B in bytes (R293). -/
def blockBytes (w n : Nat) : Nat := 64 + 32 * w * n

def stripB (s : State) (k : Nat) : Nat := blockBytes (stripWidth s k) (stripSlots s k)
def stripBase (s : State) (k : Nat) : Nat := 64 * s.get (F.SWA_STs_BASE_BASE k)
def stripNblk (s : State) (k : Nat) : Nat := s.get (F.SWA_STs_NBLK_NBLK k)

/-- The sample counter: the next frame (R290). -/
def swathSC (s : State) : Nat := s.pair A.SWA_SC_LO

/-- The short-swath counter (R299). -/
def shortSSC (s : State) : Nat := s.pair A.SWA_SSCTR_LO

/-- The sample counter of R236: the swath writer's outside SENTRY, the short swath's in SENTRY. -/
def wakeCounter (s : State) : Nat := if s.pstate = SENTRY then shortSSC s else swathSC s

/-- f_S in Hz (R289), 0 with no divider. -/
def frameRate (s : State) : Nat := s.fH / s.get F.SWA_CFG_DIV

/-- The stored value of a sample of `w` bits (R294). -/
def storedSample (w word : Nat) : Nat :=
  ofSigned w (satS w (floorDiv (toSigned 24 word + (if w < 24 then ((2 ^ (23 - w) : Nat) : Int) else 0))
    ((2 ^ (24 - w) : Nat) : Int)))

/-- Stamp of the oldest resident block of a strip; the counter itself where none is resident. -/
def oldestStamp (s : State) (k : Nat) : Nat :=
  match (s.strip k).tags.getLast? with | some t => t.2 | none => swathSC s

/-! ## Conservation (R320) -/

/-- PEND of a strip from its counters. -/
def stripPend (s : State) (k : Nat) : Nat :=
  s.pair (A.SWA_STs_PROD_LO k) - (s.pair (A.SWA_STs_UNLD_LO k) + s.pair (A.SWA_STs_EXP_LO k) +
    s.pair (A.SWA_STs_DISC_LO k) + s.pair (A.SWA_STs_LOST_LO k))

/-- The unload pointer of a strip. -/
def stripUptr (s : State) (k : Nat) : Nat := s.pair (A.SWA_STs_UPTR_LO k)

/-- Store PEND and LAG of a strip, and raise source 51 when LAG first exceeds three quarters of the ring (R317). -/
def stripCounts (s : State) (k : Nat) : State :=
  let s := s.put (F.SWA_STs_PEND_FRAMES k) (stripPend s k)
  if (s.strip k).unl then
    let lag := swathSC s - stripUptr s k
    let ring := 256 * stripNblk s k
    let s := s.put (F.SWA_STs_LAG_FRAMES k) lag
    if 3 * ring < 4 * lag then
      (if (s.strip k).lagged then s else (s.setStrip k { s.strip k with lagged := true }).event 51)
    else if 2 * lag < ring then s.setStrip k { s.strip k with lagged := false } else s
  else s

/-- Every pending frame of a strip is erased and counted discarded (R319, R321). -/
def stripDiscard (s : State) (k : Nat) : State :=
  let s := s.bump64 (A.SWA_STs_DISC_LO k) (stripPend s k)
  (s.setStrip k { s.strip k with owed := [] }).put (F.SWA_STs_PEND_FRAMES k) 0

/-- Frames owed that a predicate on their block's stamp selects. -/
def owedIn (l : List (Nat × Nat)) (f : Nat → Bool) : Nat := sumN ((l.filter (fun e => f e.1)).map (·.2))

/-- One more frame of the block with a stamp is owed. -/
def owedAdd (l : List (Nat × Nat)) (stamp : Nat) : List (Nat × Nat) :=
  (stamp, owedIn l (fun t => t == stamp) + 1) :: l.filter (fun e => decide (e.1 ≠ stamp))

/-! ## Blocks -/

/-- Retire the oldest resident block of a full ring: its frames still pending are lost at or after UPTR while unload
runs, and expired otherwise (R297, R317, R320). -/
def stripRetire (s : State) (k stamp : Nat) : State :=
  let st := s.strip k
  let n := owedIn st.owed (fun t => t == stamp)
  let s := s.setStrip k { st with owed := st.owed.filter (fun e => decide (e.1 ≠ stamp)), flight := st.flight.filter (fun t => decide (t ≠ stamp)) }
  if st.unl && decide (stripUptr s k ≤ stamp) then
    let s := s.setPair (A.SWA_STs_UPTR_LO k) (stamp + 256)
    if n = 0 then s else (s.bump64 (A.SWA_STs_LOST_LO k) n).event 50
  else if n = 0 then s else s.bump64 (A.SWA_STs_EXP_LO k) n

/-- Start a block on strip `k` at the present SC (R293, R297): the ring's next index, the header's 64 bytes zeroed
(R296), the oldest block retired where the index held one. -/
def blockStart (s : State) (k : Nat) : State :=
  let st := s.strip k
  let sc := swathSC s
  let nblk := stripNblk s k
  let idx := st.next.getD 0
  let wraps := decide (st.next = some 0)
  let s := match st.tags.find? (fun t => t.1 = idx) with | some t => stripRetire s k t.2 | none => s
  let st := s.strip k
  let tags := (idx, sc) :: st.tags.filter (fun t => decide (t.1 ≠ idx))
  let wake := s.swa.marks.any (fun m => decide (sc ≤ m) && decide (m < sc + 256))
  let s := { s with swa := { s.swa with marks := s.swa.marks.filter (fun m => decide (sc ≤ m)) } }
  let next := some (if idx + 1 < nblk then idx + 1 else 0)
  let s := s.setStrip k { st with cur := some ⟨idx, sc, 0, st.gap, st.sync, wake, false, 0, 0, 0, 0, 0⟩, tags := tags, next := next, gap := false, sync := false }
  let s := s.put (F.SWA_STs_HEAD_HEAD k) idx
  let s := if wraps then s.mark (F.SWA_STs_HEAD_FULL k) true else s
  { s with swa := { s.swa with mem := sparseClear s.swa.mem (stripBase s k + idx * stripB s k) (stripBase s k + idx * stripB s k + 64) } }

/-- The 60 header bytes before the CRC (R295), with the byte UNS_END. -/
def blockHeader (s : State) (k : Nat) (b : BlockSt) (unsEnd : Nat) : List Nat :=
  bytesOfLe 4 0x53574231 ++ [k + 16 * s.get (F.SWA_STs_CFG_FMT k) + 64 * s.devid, stripSlots s k,
    b2n b.gap + 2 * b2n b.sync + 4 * b2n b.wake + 8 * b2n b.zero, b.validFrom] ++
  bytesOfLe 8 b.stamp ++ bytesOfLe 8 (s.pair A.SWA_PERIOD_LO) ++ bytesOfLe 8 b.uns ++ bytesOfLe 8 b.disc ++
  bytesOfLe 8 b.sat ++ [unsEnd] ++ List.replicate 11 0

/-- Complete a block: the header with the CRC over header and data (R295, R296). A frame 255 that carries UNSETTLED makes
UNS_END 256, which its byte does not hold: that byte is a free value (log 7). -/
def blockFinish (s : State) (k : Nat) (b : BlockSt) : State :=
  let a := stripBase s k + b.idx * stripB s k
  let u := if b.unsEnd < 256 then (b.unsEnd, s) else s.fresh 256
  let s := u.2
  let h := blockHeader s k b u.1
  let crc := crc32c (h ++ memRead s.swa.mem (a + 64) (stripB s k - 64))
  let s := { s with swa := { s.swa with mem := memWrite s.swa.mem a (h ++ bytesOfLe 4 crc) } }
  s.setStrip k { s.strip k with cur := none }

/-- A destination stands at source code 0, with no fade towards it. -/
def routeSilent (r : RouteSt) : Bool := r.src == 0 && r.fade.isNone

/-- The sample word a strip slot delivers to the writer: the crossbar destination's last sample; from code 0 a zero at each
frame, marked where it is the first after a hard cut or a fade cut short (R213, R214, R216, R289). -/
def slotWord (s : State) (d : Nat) : Nat :=
  let r := nth s.flt.route d RouteSt.reset
  if routeSilent r then 2 ^ 24 * b2n r.uns + 2 ^ 25 * b2n r.disc else r.last

/-- The zero of a slot at code 0 has been delivered. -/
def slotDone (s : State) (d : Nat) : State :=
  let r := nth s.flt.route d RouteSt.reset
  if routeSilent r then s.setRoute d { r with last := slotWord s d, disc := false, uns := false } else s

/-- Write one frame of strip `k` into its block, with the marks gathered (R294, R295). -/
def stripFrame (s : State) (k : Nat) : State :=
  match (s.strip k).cur with
  | none => s
  | some b =>
    let w := stripWidth s k
    let n := stripSlots s k
    let first := s.get (F.SWA_STs_CFG_FIRST k)
    let a := stripBase s k + b.idx * stripB s k + 64
    let words := (upto n).map (fun i => slotWord s (first + i))
    let mem := forEach (upto n) (fun m i => memBits m a ((b.frames * n + i) * w) w (storedSample w (nth words i 0))) s.swa.mem
    let mask (bitNo : Nat) : Nat := sumN ((upto n).map (fun i => if bit (nth words i 0) bitNo then 2 ^ i else 0))
    let b' := { b with frames := b.frames + 1, uns := b.uns ||| mask 24, disc := b.disc ||| mask 25, sat := b.sat ||| mask 26, unsEnd := if mask 24 ≠ 0 then b.frames + 1 else b.unsEnd }
    let s := { s with swa := { s.swa with mem := mem } }
    let s := s.setStrip k { s.strip k with cur := some b', owed := owedAdd (s.strip k).owed b.stamp }
    let s := s.bump64 (A.SWA_STs_PROD_LO k) 1
    let s := if b'.frames = 256 then blockFinish s k b' else s
    s

/-- Frames of a strip resident since its blocks began: what PRE_READY counts (R329). -/
def stripHeld (s : State) (k : Nat) : Nat := swathSC s - oldestStamp s k

/-- Pre-roll in frames at f_S: round(PRE × f_S / 1000) (R307). -/
def prerollFrames (s : State) : Nat :=
  (2 * s.get F.SWA_PRE_PRE * s.fH + 1000 * s.get F.SWA_CFG_DIV) / (2 * 1000 * s.get F.SWA_CFG_DIV)

/-- Source 55, once a period, when every enabled strip first holds P frames (R329). -/
def prerollReady (s : State) : State :=
  if s.flag F.SWA_ST_PRE_READY then s
  else
    let on := (upto 8).filter (stripOn s)
    if !on.isEmpty && on.all (fun k => decide (prerollFrames s ≤ stripHeld s k)) then
      (s.mark F.SWA_ST_PRE_READY true).event 55 else s

def mittenOpen (s : State) : Bool := s.flag F.SWA_MITTEN_OPEN

/-- The swath writes: a recording period runs, the core domain runs (R290, R41). -/
def swathRuns (s : State) : Bool := s.swa.run && s.coreRuns && s.awake

/-- One frame at f_S (R290): every enabled strip writes a frame, SC advances. A strip without a block starts one where SC
is a multiple of 256 (R293). -/
def swathFrame (s : State) : State :=
  let on := (upto 8).filter (stripOn s)
  let s := forEach on (fun s k =>
    if (s.strip k).cur.isNone && decide (swathSC s % 256 = 0) then blockStart s k else s) s
  let s := forEach (upto 96) slotDone (forEach on stripFrame s)
  let s := s.setPair A.SWA_SC_LO (swathSC s + 1)
  let s := { s with swa := { s.swa with lastAt := s.time.hsck } }
  let s := forEach on stripCounts s
  prerollReady s

/-- A strip begins a swath period with an empty ring (R290). -/
def stripAnew (s : State) (k : Nat) : State :=
  let s := (stripDiscard s k).setStrip k { s.strip k with cur := none, tags := [], next := none, owed := [], sync := false, sent := 0, flight := [], lagged := false }
  (s.put (F.SWA_STs_HEAD_HEAD k) 0).mark (F.SWA_STs_HEAD_FULL k) false

/-- No wake mark waits in a new period, and with the mitten OPEN its window opens at 0 (R307). -/
def periodWindow (s : State) : State :=
  let s := { s with swa := { s.swa with marks := [] } }
  if mittenOpen s then s.setPair A.SWA_WSTART_LO 0 else s

/-- A recording period runs; the streams of both Hedgerow ports count from 0. -/
def periodRuns (s : State) : State :=
  { s with swa := { s.swa with run := true }, hg := { s.hg with ustr := s.hg.ustr.map (fun u => { u with count := 0 }) } }

/-- Start a recording period (R290): SC restarts at 0, SWA_PERIOD counts, the rings are empty. -/
def periodStart (s : State) : State :=
  let s := ((forEach (upto 8) stripAnew (periodWindow s)).setPair A.SWA_SC_LO 0).bump64 A.SWA_PERIOD_LO 1
  periodRuns ((s.mark F.SWA_ST_PRE_READY false).mark F.SWA_ST_RUN true)

/-! ## The short swath (R299, R300) -/

/-- Stamp of the oldest resident short-swath block. -/
def oldestShort (s : State) : Nat :=
  match s.swa.stags.getLast? with | some t => t.2 | none => shortSSC s

/-- Frames resident in the short swath, from its conservation rule (R320). -/
def shortHeld (s : State) : Nat := s.pair A.SWA_SSPROD_LO - (s.pair A.SWA_SSEXP_LO + s.pair A.SWA_SSDISC_LO)

/-- Start a short-swath block; a full ring of 504 overwrites its oldest (R299). -/
def shortStart (s : State) : State :=
  let ssc := shortSSC s
  let idx := s.swa.snext.getD 0
  let wraps := decide (s.swa.snext = some 0)
  let s := match s.swa.stags.find? (fun t => decide (t.1 = idx)) with
    | some t =>
      -- the frames of the oldest block that no zeroize has counted: all but its leading ones (R320)
      let h := leOfBytes (memRead s.swa.short (520 * idx) 8)
      s.bump64 A.SWA_SSEXP_LO (if t.2 + 256 ≤ ssc then 256 - bits h 48 8 else 0)
    | none => s
  let tags := (idx, ssc) :: s.swa.stags.filter (fun t => decide (t.1 ≠ idx))
  let wake := s.swa.smarks.any (fun m => decide (ssc ≤ m) && decide (m < ssc + 256))
  let b : BlockSt := ⟨idx, ssc, 0, s.swa.sgap, false, wake, false, 0, 0, 0, 0, 0⟩
  let mem := sparseClear s.swa.short (520 * idx) (520 * idx + 8)
  let s := { s with swa := { s.swa with scur := some b, stags := tags, snext := some ((idx + 1) % 504), sgap := false, short := mem, smarks := s.swa.smarks.filter (fun m => decide (ssc ≤ m)) } }
  let s := s.put F.SWA_SSHEAD_HEAD idx
  if wraps then s.mark F.SWA_SSHEAD_FULL true else s

/-- The header word of a complete short-swath block (R300). -/
def shortHeader (b : BlockSt) : Nat :=
  b.stamp / 256 % 2 ^ 48 + 2 ^ 48 * (b.validFrom % 256) + 2 ^ 56 * b2n b.gap + 2 ^ 57 * b2n (decide (b.uns ≠ 0)) +
  2 ^ 58 * b2n (decide (b.disc ≠ 0)) + 2 ^ 59 * b2n (decide (b.sat ≠ 0)) + 2 ^ 60 * b2n b.wake + 2 ^ 61 + 2 ^ 62 * b2n b.zero

/-- One sentry sample into the short swath (R299). -/
def shortFrame (s : State) (word : Nat) : State :=
  let s := if s.swa.scur.isNone && decide (shortSSC s % 256 = 0) then shortStart s else s
  match s.swa.scur with
  | none => s.setPair A.SWA_SSCTR_LO (shortSSC s + 1)
  | some b =>
    let mem := memWrite s.swa.short (520 * b.idx + 8 + 2 * b.frames) (bytesOfLe 2 (storedSample 16 word))
    let b' := { b with frames := b.frames + 1, uns := b.uns ||| bits word 24 1, disc := b.disc ||| bits word 25 1, sat := b.sat ||| bits word 26 1 }
    let done := decide (b'.frames = 256)
    let mem := if done then memWrite mem (520 * b.idx) (bytesOfLe 8 (shortHeader b')) else mem
    let s := { s with swa := { s.swa with short := mem, scur := if done then none else some b' } }
    let s := s.bump64 A.SWA_SSPROD_LO 1
    s.setPair A.SWA_SSCTR_LO (shortSSC s + 1)

/-! ## The mitten (R305 to R310) -/

/-- Load the idle timer (R307, R309). -/
def mittenTouch (s : State) : State :=
  let s := s.put F.SWA_MITTEN_IDLE (s.get F.SWA_MITTEN_TMO)
  { s with swa := { s.swa with idleMs := 0 } }

/-- The value kept with an HSCK cycle, where that cycle is the present one. -/
def sameEdge (s : State) (e : Option (Nat × Nat)) : Option Nat :=
  match e with
  | some (t, v) => if t = s.time.hsck then some v else none
  | none => none

/-- Set the WAKE flag of the block in progress that holds the mark, and keep the mark for blocks not yet begun (R295, R300,
R307). -/
def markWakeBlock (s : State) (m : Nat) (short : Bool) : State :=
  let s := if short then { s with swa := { s.swa with smarks := s.swa.smarks ++ [m] } } else { s with swa := { s.swa with marks := s.swa.marks ++ [m] } }
  if short then
    match s.swa.scur with
    | some b =>
      if b.stamp ≤ m ∧ m < b.stamp + 256 then { s with swa := { s.swa with scur := some { b with wake := true } } }
      else s
    | none => s
  else
    forEach ((upto 8).filter (stripOn s)) (fun s k =>
      match (s.strip k).cur with
      | some b => if b.stamp ≤ m ∧ m < b.stamp + 256 then s.setStrip k { s.strip k with cur := some { b with wake := true } } else s
      | none => s) s

/-- The WAKE flag of a complete block that holds the mark is set in its header in memory, with its CRC (R307, R295). -/
def markWakeDone (s : State) (m : Nat) (short : Bool) : State :=
  if short then
    match s.swa.stags.find? (fun t => decide (t.2 ≤ m) && decide (m < t.2 + 256)) with
    | none => s
    | some t =>
      let a := 520 * t.1
      let h := leOfBytes (memRead s.swa.short a 8)
      if bit h 61 then { s with swa := { s.swa with short := memWrite s.swa.short a (bytesOfLe 8 (setBit h 60 true)) } }
      else s
  else
    forEach ((upto 8).filter (stripOn s)) (fun s k =>
      match (s.strip k).tags.find? (fun t => decide (t.2 ≤ m) && decide (m < t.2 + 256)) with
      | none => s
      | some t =>
        let a := stripBase s k + t.1 * stripB s k
        if leOfBytes (memRead s.swa.mem a 4) = 0x53574231 then
          let mem := memSet s.swa.mem (a + 6) (setBit (memGet s.swa.mem (a + 6)) 2 true)
          let crc := crc32c (memRead mem a 60 ++ memRead mem (a + 64) (stripB s k - 64))
          { s with swa := { s.swa with mem := memWrite mem (a + 60) (bytesOfLe 4 crc) } }
        else s) s

/-- The stamp of the next block that strip `k` begins. -/
def nextStamp (s : State) (k : Nat) : Nat :=
  match (s.strip k).cur with
  | some b => b.stamp + 256
  | none => (swathSC s + 255) / 256 * 256

/-- Where the unload engine starts on a strip (R315): the block containing W, or the oldest resident one if later; with
the mitten SHUT the first block begun after unload started. Frames before UPTR stay pending until the headland passes them
(R320). -/
def unloadStart (s : State) (k : Nat) : State :=
  let w := s.pair A.SWA_WSTART_LO
  let u := if mittenOpen s then Nat.max (w / 256 * 256) (oldestStamp s k) else nextStamp s k
  let s := s.setPair (A.SWA_STs_UPTR_LO k) u
  let s := s.mark (F.SWA_STs_UNL_WAIT k) (!mittenOpen s)
  let s := s.setStrip k { s.strip k with unl := true, sent := u }
  stripCounts s k

/-- The window and the history available for a mark, as at an opening (R307); after a zeroize at the same edge W is no earlier
than the counter there (R323). -/
def mittenWindow (s : State) (m : Nat) : State :=
  if s.pstate = SENTRY then
    let w := Nat.max (m - 16 * s.get F.SWA_PRE_PRE) ((sameEdge s s.swa.szeroAt).getD 0)
    let s := s.setPair A.SWA_SSWSTART_LO w
    s.put F.SWA_SSAVAIL_FRAMES (m - Nat.max w (oldestShort s))
  else
    let w := Nat.max (m - prerollFrames s) ((sameEdge s s.swa.zeroAt).getD 0)
    let s := s.setPair A.SWA_WSTART_LO w
    forEach ((upto 8).filter (stripOn s)) (fun s k => s.put (F.SWA_STs_AVAIL_FRAMES k) (m - Nat.max w (oldestStamp s k))) s

/-- The SHUT mitten opens for a mark (R307): the window, the idle timer, source 48; unload that waited starts (R315). -/
def mittenOpening (s : State) (m : Nat) : State :=
  let s := (mittenWindow s m).mark F.SWA_MITTEN_OPEN true
  let s := { s with swa := { s.swa with openAt := some (s.time.hsck, m) } }
  if s.pstate = SENTRY then (mittenTouch (s.mark F.SWA_MITTEN_SS_OPEN true)).event 48
  else
    let s := (mittenTouch s).event 48
    forEach ((upto 8).filter (fun k => (s.strip k).unl && s.flag (F.SWA_STs_UNL_WAIT k))) unloadStart s

/-- A qualified wake with mark `m` (R307): the block that holds it carries WAKE; a SHUT mitten opens, an OPEN one keeps its
windows and restarts the timer. -/
def mittenWake (s : State) (m : Nat) : State :=
  let short := decide (s.pstate = SENTRY)
  let s := { s with swa := { s.swa with wakeAt := some (s.time.hsck, m) } }
  let s := markWakeDone (markWakeBlock s m short) m short
  if mittenOpen s then
    match sameEdge s s.swa.openAt with
    | some m0 => mittenTouch (if m < m0 then mittenWindow s m else s)
    | none => mittenTouch s
  else mittenOpening s m

/-- The mitten closes with a cause (R309). A RELEASE at the edge of a wake leaves it OPEN, with windows computed afresh for
that wake (R322). -/
def mittenClose (s : State) (cause : Nat) : State :=
  if mittenOpen s || s.flag F.SWA_MITTEN_SS_OPEN then
    let s := (s.mark F.SWA_MITTEN_OPEN false).mark F.SWA_MITTEN_SS_OPEN false
    let s := s.put F.SWA_MITTEN_CAUSE cause
    let s := (s.put F.SWA_MITTEN_IDLE 0).event 49
    match sameEdge s s.swa.wakeAt with
    | some m => if cause < 3 then mittenOpening s m else s
    | none => s
  else s

/-- The strip and resident block that hold a byte of the swath. -/
def swathBlockAt (s : State) (a : Nat) : Option (Nat × Nat) :=
  ((upto 8).filter (stripOn s)).findSome? (fun k =>
    let base := stripBase s k
    if base ≤ a ∧ a < base + stripNblk s k * stripB s k then
      ((s.strip k).tags.find? (fun t => decide (t.1 = (a - base) / stripB s k))).map (fun t => (k, t.2))
    else none)

/-- A swath byte is readable (R308): in a resident block of an enabled strip whose stamp + 255 reaches W. -/
def swathReadable (s : State) (a : Nat) : Bool :=
  mittenOpen s && (match swathBlockAt s a with
    | some (_, stamp) => decide (s.pair A.SWA_WSTART_LO ≤ stamp + 255)
    | none => false)

/-- A short-swath byte is readable (R308): in a resident block of the window opened in SENTRY and not closed since; the bytes
behind the last block, which read 0, with that window (R299). -/
def shortReadable (s : State) (a : Nat) : Bool :=
  s.flag F.SWA_MITTEN_SS_OPEN && (decide (504 * 520 ≤ a) || (match s.swa.stags.find? (fun t => decide (t.1 = a / 520)) with
    | some t => decide (s.pair A.SWA_SSWSTART_LO ≤ t.2 + 255)
    | none => false))

/-- A whole range is readable, decided word by word (R310). -/
def rangeReadable (s : State) (short : Bool) (a n : Nat) : Bool :=
  (upto (ceilDiv n 4)).all (fun i => if short then shortReadable s (a + 4 * i) else swathReadable s (a + 4 * i))

/-- A refused read is counted (R310). -/
def mittenDeny (s : State) : State := s.incSat F.SWA_DENY_COUNT

/-- The word at a swath byte address lies in the safety strip (R303). -/
def safeWord (s : State) (w : Nat) : Bool :=
  let k := s.get F.SWA_CFG_SAFE_STRIP
  s.flag F.SWA_CFG_SAFE_EN && stripOn s k && decide (stripBase s k ≤ w) && decide (w < stripBase s k + stripNblk s k * stripB s k)

/-- An uncorrectable word is found (R302, R303): DBE, the address, source 52; in the safety strip also SAFE_DBE and an event of
diagnostic 14 on the Scarecrow's line. -/
def wordBad (short : Bool) (s : State) (w : Nat) : State :=
  let s := if short then s.mark F.SWA_ECC_SS_DBE true else s.mark F.SWA_ECC_DBE true
  let s := if !short && safeWord s w then (s.mark F.SWA_ECC_SAFE_DBE true).safLine 14 1 else s
  ((s.put F.SWA_DBEADDR_ADDR w).mark F.SWA_DBEADDR_MEM short).event 52

/-- Errors among the bytes of a read (R302): single-bit ones are corrected, written back and counted, uncorrectable ones are
reported. -/
def eccCheck (s : State) (short : Bool) (a n : Nat) : State :=
  let hit := fun (w : Nat) => decide (a < w + 8) && decide (w < a + n)
  let s := s.bump64 A.SWA_SBE_LO ((if short then s.swa.softShort else s.swa.soft).filter hit).length
  let s := if short then { s with swa := { s.swa with softShort := s.swa.softShort.filter (fun w => !hit w) } }
    else { s with swa := { s.swa with soft := s.swa.soft.filter (fun w => !hit w) } }
  forEach ((if short then s.swa.badShort else s.swa.bad).filter hit) (wordBad short) s

/-! ## Zeroize (R318, R319) -/

/-- A strip at a zeroize: its ring holds nothing but the block in progress, whose frames so far read 0 (R319). -/
def stripZero (s : State) (k : Nat) : State :=
  let st := s.strip k
  let s := s.setStrip k { st with tags := (match st.cur with | some b => [(b.idx, b.stamp)] | none => []), cur := st.cur.map (fun b => if b.frames = 0 then b else { b with zero := true, validFrom := b.frames, uns := 0, disc := 0, sat := 0, unsEnd := 0 }), flight := [] }
  stripDiscard s k

/-- A wake mark of the same edge as the zeroize has its window again (R322, R323). -/
def zeroWake (s : State) (short : Bool) : State :=
  match sameEdge s s.swa.openAt with
  | some m => if (if short then s.flag F.SWA_MITTEN_SS_OPEN && decide (s.pstate = SENTRY) else mittenOpen s && decide (s.pstate ≠ SENTRY)) then mittenWindow s m else s
  | none => s

/-- The zeroize edge on the swath: every pending frame is discarded, W moves to SC, blocks in progress keep only later
frames, the memory reads zeros, and the sweep runs. DEDUCED (log 76): the block in progress, which keeps its later frames and
carries ZERO (R319), stays readable by R308's own test; every block that ended before the edge becomes unreadable (R318). An
opening at the same edge has its window computed after the zeroize (R323). -/
def zeroSwath (s : State) : State :=
  let sc := swathSC s
  let s := { s with swa := { s.swa with zeroAt := some (s.time.hsck, sc) } }
  let s := forEach ((upto 8).filter (stripOn s)) stripZero s
  let s := forEach ((upto 8).filter (fun k => (s.strip k).unl)) (fun s k =>
    let s := s.setPair (A.SWA_STs_UPTR_LO k) (sc / 256 * 256)
    s.setStrip k { s.strip k with sent := sc / 256 * 256 }) s
  let s := zeroWake (s.setPair A.SWA_WSTART_LO sc) false
  { s with swa := { s.swa with mem := [], bad := [], soft := [] } }

/-- Start a zeroize of the swath: the edge now, the sweep until ZEROIZE_SWEEP_DONE; in SENTRY it is complete at its
edge (R319). -/
def zeroSwathStart (s : State) : State :=
  if s.pstate = SENTRY then (s.mark F.SWA_ST_ZDONE true).event 54
  else
    let s := zeroSwath s
    let s := { s with swa := { s.swa with zsw := true } }
    s.put F.SWA_ST_ZBUSY (1 + 2 * b2n s.swa.zss)

/-- The zeroize edge on the short swath. -/
def zeroShort (s : State) : State :=
  let s := s.bump64 A.SWA_SSDISC_LO (shortHeld s)
  let s := s.setPair A.SWA_SSWSTART_LO (shortSSC s)
  let s := { s with swa := { s.swa with szeroAt := some (s.time.hsck, shortSSC s) } }
  let cur := s.swa.scur.map (fun b => if b.frames = 0 then b else { b with zero := true, validFrom := b.frames, uns := 0, disc := 0, sat := 0 })
  let tags := match cur with | some b => [(b.idx, b.stamp)] | none => []
  let s := { s with swa := { s.swa with short := [], badShort := [], softShort := [], scur := cur, stags := tags } }
  zeroWake s true

/-- Start a zeroize of the short swath. -/
def zeroShortStart (s : State) : State :=
  let s := zeroShort s
  let s := { s with swa := { s.swa with zss := true } }
  s.put F.SWA_ST_ZBUSY (b2n s.swa.zsw + 2)

/-- The sweep over one memory ends; when none runs any more ZDONE sets and source 54 rises (R318): a zeroize that a second one
extended has one end (R81). -/
def zeroDone (s : State) (short : Bool) : State :=
  let s := { s with swa := { s.swa with zsw := s.swa.zsw && short, zss := s.swa.zss && !short } }
  let s := s.put F.SWA_ST_ZBUSY (b2n s.swa.zsw + 2 * b2n s.swa.zss)
  if s.swa.zsw || s.swa.zss then s else (s.mark F.SWA_ST_ZDONE true).event 54

/-! ## Unload (R314 to R317) -/

/-- Frames from UPTR up to `upTo` are unloaded on strip `k`: those still pending are counted, UPTR moves there (R314, R320,
R321). -/
def unloadAck (s : State) (k upTo : Nat) : State :=
  if stripUptr s k < upTo then
    let st := s.strip k
    let due := fun (t : Nat) => decide (stripUptr s k ≤ t) && decide (t < upTo)
    let s := s.bump64 (A.SWA_STs_UNLD_LO k) (owedIn st.owed due)
    let s := s.setPair (A.SWA_STs_UPTR_LO k) upTo
    let s := s.setStrip k { st with owed := st.owed.filter (fun e => !due e.1), flight := st.flight.filter (fun t => decide (upTo ≤ t)) }
    stripCounts s k
  else s

/-- Unload starts on every strip with a destination (R314, R315). -/
def unloadBegin (s : State) : State :=
  forEach ((upto 8).filter (fun k => stripOn s k && decide (s.get (F.SWA_STs_UNL_DEST k) ≠ 0) && !(s.strip k).unl)) unloadStart s

/-- Unload stops (R118): a block in flight may still be acknowledged. -/
def unloadEnd (s : State) : State :=
  forEach ((upto 8).filter (fun k => (s.strip k).unl)) (fun s k =>
    (s.setStrip k { s.strip k with unl := false }).mark (F.SWA_STs_UNL_WAIT k) false) s

/-- Complete resident blocks of a strip, oldest first: index and stamp. -/
def completeBlocks (s : State) (k : Nat) : List (Nat × Nat) :=
  (s.strip k).tags.reverse.filter (fun t => match (s.strip k).cur with | some b => decide (b.stamp ≠ t.2) | none => true)

/-- The segments of a block as BULK-SEG bodies, in offset order (R665). -/
def bulkSegs (strip stamp seg : Nat) (data : List Nat) : Nat → Nat → List (List Nat)
  | 0, _ => []
  | n + 1, off =>
    if data.length ≤ off then []
    else
      let part := (data.drop off).take seg
      let last := decide (data.length ≤ off + seg)
      ([strip, b2n last] ++ bytesOfLe 2 part.length ++ bytesOfLe 4 off ++ bytesOfLe 8 stamp ++ part) ::
        bulkSegs strip stamp seg data n (off + seg)

/-- Send one block on the port that DEST names (R662); it waits where the bridge is not reachable by that port
or the hand-off holds 16 frames (R494). -/
def bulkSend (s : State) (k idx stamp : Nat) : State :=
  let x := s.get (F.SWA_STs_UNL_DEST k) - 2
  let room := decide (((s.hgp x).tx.filter (fun e => e.1 == VC_BULK)).length < 16)
  if hgUp s x ∧ s.flag (F.HG0_ROUTEp_VALID 4) ∧ s.get (F.HG0_ROUTEp_PORT 4) = x ∧ room then
    let a := stripBase s k + idx * stripB s k
    let data := memRead s.swa.mem a (stripB s k)
    let seg := if s.flag (F.HGx_MSGCFG_AUTHDATA x) then 208 else 224
    let s := forEach (bulkSegs k stamp seg data (data.length + 1) 0) (fun s body =>
      hgQueue s x VC_BULK ⟨T_BULK_SEG, 4, s.devid, hgAuth s x VC_BULK, 0, 3, 0, body, []⟩) s
    let s := (s.setStrip k { s.strip k with sent := stamp + 256, flight := (s.strip k).flight ++ [stamp] }).mark (F.SWA_STs_UNL_WAIT k) false
    mittenTouch (eccCheck s false a (stripB s k))
  else s

/-- The unload engine waits on the mitten; the refusal counts once (R310). -/
def unloadWait (s : State) (k : Nat) : State :=
  if s.flag (F.SWA_STs_UNL_WAIT k) then s else mittenDeny (s.mark (F.SWA_STs_UNL_WAIT k) true)

/-- The unload engine offers the next complete block of strip `k`, once it is readable (R310, R314). While RECORD is being
left it begins no further block (R118). -/
def unloadNext (s : State) (k : Nat) : State :=
  let st := s.strip k
  if st.unl && s.coreRuns && (decide (s.pstate ≠ RECORD) || s.pwr.trans.isNone) then
    if !mittenOpen s then unloadWait s k
    else
      match (completeBlocks s k).find? (fun t => decide (Nat.max st.sent (stripUptr s k) ≤ t.2)) with
      | some t =>
        if t.2 + 255 < s.pair A.SWA_WSTART_LO then unloadWait s k
        else if 2 ≤ s.get (F.SWA_STs_UNL_DEST k) then bulkSend s k t.1 t.2
        else mittenTouch ((s.setStrip k { st with sent := t.2 + 256 }).mark (F.SWA_STs_UNL_WAIT k) false)
      | none => s
  else s

/-! ## Views -/

/-- The first byte of the history aperture in its memory (R311). -/
def historyBase (s : State) : Nat := s.get F.SWA_HWIN_BASE * 1048576

/-- Bytes [a, a + n) of the history aperture, from aperture offset o (R311): none where the mitten refuses them. -/
def historyRead (s : State) (o n : Nat) : Option (List Word) :=
  if s.flag F.SWA_HWIN_MEM then
    let inside := Nat.min n (shortBytes - o)
    if inside = 0 ∨ rangeReadable s true o inside then
      some ((upto (n / 4)).map (fun i => if o + 4 * i < shortBytes then memWord s.swa.short (o + 4 * i) else 0))
    else none
  else if rangeReadable s false (historyBase s + o) n then
    some ((upto (n / 4)).map (fun i => memWord s.swa.mem (historyBase s + o + 4 * i)))
  else none

/-! ## The commands -/

/-- SWATH_FRAME (R290): at a frame of f_S the writer writes one frame of every enabled strip. -/
def execSwathFrame (s : State) : Host.Outcome State Fault Refusal := ok (if swathRuns s then swathFrame s else s)

/-- SWATH_BLOCK_START (R297): strip `k` starts a new block where SC is a multiple of 256. -/
def execSwathBlockStart (k : Nat) (s : State) : Host.Outcome State Fault Refusal :=
  ok (if swathRuns s && stripOn s k && (s.strip k).cur.isNone && decide (swathSC s % 256 = 0) &&
      !(match (s.strip k).tags.head? with | some t => decide (t.2 = swathSC s) | none => false) then
    stripCounts (blockStart s k) k else s)

/-- SHORT_SWATH_BLOCK_START (R299): the short swath starts a new block, in SENTRY. -/
def execShortSwathBlockStart (s : State) : Host.Outcome State Fault Refusal :=
  ok (if decide (s.pstate = SENTRY) && s.clk.present && s.swa.scur.isNone && decide (shortSSC s % 256 = 0) then shortStart s
    else s)

/-- MITTEN_RELEASE (R309): a write of SWA_MITTEN.RELEASE by the host or, with cause 2, by firmware. -/
def execMittenRelease (o : Origin) (s : State) : Host.Outcome State Fault Refusal :=
  ok (mittenClose s (match o with | .host => 1 | .tunnel _ => 1 | _ => 2))

/-- MITTEN_IDLE_TIMEOUT (R309): TMO seconds without a granted read. -/
def execMittenIdleTimeout (s : State) : Host.Outcome State Fault Refusal :=
  ok (if mittenOpen s && s.clk.present && decide (s.clk.phase = .run) then mittenClose s 3 else s)

/-- UNLOAD_BLOCK_SEND (R314): the unload engine sends the next complete readable block of strip `k`. -/
def execUnloadBlockSend (k : Nat) (s : State) : Host.Outcome State Fault Refusal :=
  ok (if k < 8 then unloadNext s k else s)

/-- UACK (R316): the host acknowledges the frames of strip `k` up to a block boundary. -/
def execUack (k : Nat) (upTo : Nat) (s : State) : Host.Outcome State Fault Refusal :=
  ok (if stripOn s k && (s.strip k).unl && decide (s.get (F.SWA_STs_UNL_DEST k) = 1) && decide (upTo % 256 = 0) && decide (stripUptr s k < upTo) &&
        decide (upTo ≤ swathSC s / 256 * 256) then unloadAck s k upTo else s)

/-- ZSWATH (R318). -/
def execZswath (s : State) : Host.Outcome State Fault Refusal := ok (zeroSwathStart s)

/-- ZSHORT (R318). -/
def execZshort (s : State) : Host.Outcome State Fault Refusal := ok (zeroShortStart s)

/-- The outcome of a scrub pass over row `r` of 1 KiB with `corrected` corrected words and the byte addresses of uncorrectable
words in it (R303, R304). -/
def scrubRow (s : State) (r corrected : Nat) (bad : List Nat) : State :=
  let s := s.bump64 A.SWA_SBE_LO corrected
  let s := { s with swa := { s.swa with bad := bad ++ s.swa.bad.filter (fun w => decide (w / 1024 ≠ r)), soft := s.swa.soft.filter (fun w => decide (w / 1024 ≠ r)) } }
  let s := forEach bad (wordBad false) s
  if (!bad.isEmpty || decide (4 ≤ corrected)) && !s.swa.flagged.contains r then
    let s := { s with swa := { s.swa with flagged := s.swa.flagged ++ [r] } }
    s.put F.SWA_REP_PEND s.swa.flagged.length
  else s

/-- Word `a` among the struck ones, once. -/
def wordAdd (l : List Nat) (a : Nat) : List Nat := if l.contains a then l else l ++ [a]

/-- Word `a` of the short swath or of the swath has been struck, beyond correction or not. -/
def wordStruck (w : SwaSt) (short bad : Bool) (a : Nat) : SwaSt :=
  match short, bad with
  | true, true => { w with badShort := wordAdd w.badShort a }
  | true, false => { w with softShort := wordAdd w.softShort a }
  | false, true => { w with bad := wordAdd w.bad a }
  | false, false => { w with soft := wordAdd w.soft a }

/-- Upsets have struck words since the scrub was last at them (R302): whether in the short swath, whether uncorrectable, and
the word. -/
def wordsStruck (s : State) (l : List (Bool × Bool × Nat)) : State :=
  forEach l (fun s e =>
    let a := 8 * e.2.2
    if Nat.blt a (if e.1 then shortBytes else swathBytes) then { s with swa := wordStruck s.swa e.1 e.2.1 a } else s) s

/-- Row `r` leaves the flagged rows for a spare's. -/
def rowSpared (s : State) (r : Nat) : State :=
  { s with swa := { s.swa with flagged := s.swa.flagged.filter (fun x => decide (x ≠ r)), repaired := s.swa.repaired ++ [r] } }

/-- The last spare is taken: EXHAUST sets and source 53 rises (R304). -/
def sparesGone (s : State) : State :=
  if s.get F.SWA_REP_USED < 256 then s else (s.mark F.SWA_REP_EXHAUST true).event 53

/-- Remap row `r` to a spare: the contents go with it, source 53 rises; when that was the last spare EXHAUST sets and source
53 rises again. With none left the row stays flagged (R304). -/
def repairRow (s : State) (r : Nat) : State :=
  if s.get F.SWA_REP_USED < 256 then
    let used := s.get F.SWA_REP_USED + 1
    let s := rowSpared s r
    let s := (s.put F.SWA_REP_USED used).put F.SWA_REP_PEND s.swa.flagged.length
    sparesGone (s.event 53)
  else s

end Sys2Proof.Machine
end

