-- ==== Sys2Proof/Machine/Filter.lean ====
section
/-! DEFINITION. Decimation and filters (ch. 6): the input stages, the fine chains, the glance filters, the sentry
decimator, the fades, the level detectors, the routing crossbar and what each of its destinations does with a sample. -/

namespace Sys2Proof.Machine

/-! ## Microphone groups and rates (R155, R157, R160) -/

/-- The divider D_P of a CLK_PDM code (R65): 0 for off. -/
def dpOf (code : Nat) : Nat := if 1 ≤ code ∧ code ≤ 5 then 2 ^ (code + 1) else 0

/-- CLK_PDM's field of group `g`. -/
def dpField (g : Nat) : Fld := ⟨A.CLK_PDM, 4 * g, 3⟩

/-- MICPWR of group `g` is asserted (R157). -/
def groupPowered (s : State) (g : Nat) : Bool := s.bitOf F.PWR_MICPWR_GRP g

/-- The sentry input. -/
def sentryIn (s : State) : Nat := s.get F.MIC_CFG_SENTRY_IN

/-- D_S (R40): the divider of the sentry microphone clock, f_H / 0.768 MHz. -/
def dS (s : State) : Nat := s.fH / 768000

/-- The divider of a group's clock in force; 0 while it is held low. -/
def groupDiv (s : State) (g : Nat) : Nat := nth s.mic.div g 0

/-- The divider that a group's clock is to have (R155, R160): D_S for the sentry input's group in SENTRY, and for the group it
left while that is still powered (R162); D_P elsewhere. -/
def divWanted (s : State) (g : Nat) : Nat :=
  if s.pstate = SENTRY ∧ (g = sentryIn s / 8 ∨ s.mic.oldGroup = some g) then dS s else dpOf (s.get (dpField g))

/-- A group's clock takes a divider. The half-period in progress is not cut below the shorter half-period of the two clocks
(R156); a clock that stops is held low (R157). -/
def setDiv (s : State) (g d : Nat) : State :=
  let o := groupDiv s g
  let p := nth s.mic.pck g PckSt.reset
  let p := if d = 0 then PckSt.reset else if o = 0 then { p with least := 0 } else { p with least := Nat.min o d / 2 }
  { s with mic := { s.mic with div := setNth s.mic.div g d, pck := setNth s.mic.pck g p } }

/-- One HSCK edge on a group's clock at a count of the phase counter: it rises where the count is a multiple of its divider,
falls half a divider later, and never ends a half-period early (R155, R156). -/
def pckEdge (phase d : Nat) (p : PckSt) : PckSt :=
  if d = 0 then PckSt.reset
  else if phase % d = (if p.high then d / 2 else 0) ∧ p.least ≤ p.since + 1 then ⟨!p.high, 0, d / 2⟩
  else { p with since := p.since + 1 }

/-- One HSCK edge on the phase counter and the four group clocks (R155). -/
def pckTick (s : State) : State :=
  let ph := (s.mic.phase + 1) % 64
  let pck := (upto 4).map (fun g => pckEdge ph (groupDiv s g) (nth s.mic.pck g PckSt.reset))
  { s with mic := { s.mic with phase := ph, pck := pck } }

/-- f_P of group `g` in Hz: f_H over the divider in force (R155); 0 while the clock is held low. -/
def groupFp (s : State) (g : Nat) : Nat := if groupDiv s g = 0 then 0 else s.fH / groupDiv s g

/-- The group is powered and clocked. -/
def groupRuns (s : State) (g : Nat) : Bool := groupPowered s g && decide (groupFp s g ≠ 0)

/-- f_P of an input. -/
def inputFp (s : State) (p : Nat) : Nat := groupFp s (p / 8)

/-- The input is enabled in a powered, clocked group (R154, R177). -/
def inputOn (s : State) (p : Nat) : Bool := decide (p < 32) && s.bitOf F.MIC_INEN_EN p && groupRuns s (p / 8)

/-- The input is within TSU or TMC (R137). -/
def inputSettling (s : State) (p : Nat) : Bool := nth s.mic.settle p .none != .none

/-! ## The CIC (R188, R192, R193) -/

def cicOrder (s : State) (p : Nat) : Nat := s.get (F.FLT_CICp_ORDER p)
def cicK1 (s : State) (p : Nat) : Nat := s.get (F.FLT_CICp_K1M1 p) + 1

/-- The smallest B with 2^B ≥ K1^N (R188): at most 60. -/
def cicB (k1 n : Nat) : Nat := ((upto 61).find? (fun b => decide (k1 ^ n ≤ 2 ^ b))).getD 60

/-- G_N = 2^B / K1^N in Q2.22 (R188). -/
def cicGain (k1 n : Nat) : Int := (2 ^ (cicB k1 n + 23) / k1 ^ n + 1) / 2

/-- One bit through the integrators: each adds the one before it, modulo 2^64. -/
def integrate : List Nat → Nat → List Nat
  | [], _ => []
  | i :: t, x => (i + x) % 2 ^ 64 :: integrate t ((i + x) % 2 ^ 64)

/-- One comb sample through the combs: the new registers and the output y. -/
def combs : List Nat → Nat → List Nat × Nat
  | [], v => ([], v)
  | c :: t, v =>
    let r := combs t ((v + 2 ^ 64 - c) % 2 ^ 64)
    (v :: r.1, r.2)

/-- Re-centre and scale a comb output to s (R188). -/
def cicScale (k1 n y : Nat) : Int :=
  let c : Int := 2 * (y : Int) - ((k1 ^ n : Nat) : Int)
  let b := cicB k1 n
  if b ≤ 23 then satS 24 (c * ((2 ^ (23 - b) : Nat) : Int)) else satS 24 (roundShift c (b - 23))

/-- One captured bit of an input of order `n` and factor `k1`: the combs run at every k1-th frame from the anchor (R192,
R208). -/
def cicBit (k1 n : Nat) (c : CicSt) (b : Bool) : CicSt :=
  let integ := integrate (c.integ.take n) (b2n b)
  let c := { c with integ := integ ++ c.integ.drop n, frames := c.frames + 1 }
  if c.frames % k1 ≠ 0 then c
  else
    let r := combs (c.comb.take n) (integ.getLastD 0)
    let x := cicScale k1 n r.2
    { c with comb := r.1 ++ c.comb.drop n, ring := (x :: c.ring).take 16384, fill := c.fill + 1, meas := c.meas.map (x :: ·) }

def State.cic (s : State) (p : Nat) : CicSt := nth s.flt.cic p CicSt.reset

/-- The bits an input has captured since the last event that brought its bits. An input that is not captured keeps its place
among the frames of its group. -/
def cicFeed (s : State) (p : Nat) (bs : List Bool) : State :=
  if inputOn s p then s.setCic p (bs.foldl (cicBit (cicK1 s p) (cicOrder s p)) (s.cic p))
  else s.setCic p { s.cic p with frames := (s.cic p).frames + bs.length }

/-- Comb samples of an input since the anchor (R208): comb sample j is the (j + 1)-th. -/
def cicCount (s : State) (p : Nat) : Nat := (s.cic p).frames / cicK1 s p

/-- An input stage cleared: its registers (R206); the raw ring is refilled within the unsettled length. -/
def cicClear (s : State) (p : Nat) : State :=
  s.setCic p { s.cic p with integ := [0, 0, 0, 0, 0], comb := [0, 0, 0, 0, 0], fill := 0 }

/-- The PDM frames of wire PDk (R152): input 2k takes the bit captured at each rising edge of its group clock, input 2k + 1
the bit captured at the falling edge that follows. -/
def wireFeed (s : State) (k : Nat) (fs : List (Bool × Bool)) : State :=
  cicFeed (cicFeed s (2 * k) (fs.map (·.1))) (2 * k + 1) (fs.map (·.2))

/-! ## Alignment and gain (R189, R195) -/

/-- A Q2.22 result, clamped to 24 bits (R189). -/
def q22 (acc : Int) : Int := satS 24 (roundShift acc 22)

/-- `a / b` to nearest, ties up, for positive `b`. -/
def roundDiv (a : Int) (b : Nat) : Int := floorDiv (2 * a + (b : Int)) (2 * (b : Int))

/-- The Lagrange coefficient h_k for φ (R195), in Q2.22. -/
def lagrange (phi k : Nat) : Int :=
  let js := (upto 8).filter (fun j => decide (j ≠ k))
  let num : Int := js.foldl (fun (a : Int) (j : Nat) => a * (192 + (phi : Int) - 64 * (j : Int))) 1
  let den : Int := js.foldl (fun (a : Int) (j : Nat) => a * (64 * ((k : Int) - (j : Int)))) 1
  if den < 0 then roundDiv (-num * 2 ^ 22) den.natAbs else roundDiv (num * 2 ^ 22) den.natAbs

/-- DELAY in steps as whole comb samples and φ, for an input at f_P / K1 (R195). -/
def delaySplit (fp k1 delay : Nat) : Nat × Nat :=
  let den := k1 * 3072000
  let d := delay * fp / den
  let phi := (2 * 64 * (delay * fp % den) + den) / (2 * den)
  if phi < 64 then (d, phi) else (d + 1, 0)

def ringAt (ring : List Int) (j : Nat) : Int := nth ring j 0

/-- The prepared sample `j` comb samples before the newest (R195). -/
def prepared (s : State) (i : Inst) (j : Nat) : Int :=
  let k1 := cicK1 s i.input
  let d := delaySplit (inputFp s i.input) k1 i.delay
  let ring := (s.cic i.input).ring.drop (j + d.1)
  let a := q22 (sumI ((upto 8).map (fun k => lagrange d.2 k * ringAt ring k)))
  q22 (q22 (a * cicGain k1 (cicOrder s i.input)) * i.gain)

/-! ## Fine chains (R197) -/

def State.chain (s : State) (n : Nat) : ChainSt := nth s.flt.chain n (ChainSt.reset n)

def chainK2 (s : State) (n : Nat) : Nat := s.get (F.FLT_CHn_FIR_K2M1 n) + 1

/-- The registers' instance of chain `n`: what MIC_MAP, FLT_CHn_FIR and the calibration set of the mapped input name. -/
def instTarget (s : State) (n : Nat) : Inst :=
  let p := s.get (F.MIC_MAPn_PHYS n)
  ⟨p, s.get (F.FLT_CHn_FIR_BANK n), s.get (F.FLT_CHn_FIR_TAPSM1 n) + 1, s.get (F.FLT_CHn_FIR_OSHIFT n),
    s.getI (F.MIC_CALn_GAIN_GAIN p), s.get (F.MIC_CALn_DELAY_DELAY p),
    (upto 4).map (fun t => s.getI (F.MIC_CALn_TAPt_TAP p t))⟩

/-- K_G of chain `n` where the glance is available (R203). -/
def glanceK (s : State) (n : Nat) : Option Nat :=
  let p := s.get (F.MIC_MAPn_PHYS n)
  let fp := inputFp s p
  let k1 := cicK1 s p
  if fp = 0 ∨ fp % (k1 * 16000) ≠ 0 then none
  else
    let kg := fp / (k1 * 16000)
    if ceilDiv (cicOrder s p + 16) kg ≤ 3 then some kg else none

/-- Is output m formed by comb sample m × K − 1 (R208): where one is due after comb count `last`, how many comb samples have
come since it. -/
def outputDue (k last count : Nat) : Option Nat := if last + k ≤ count then some (count - (last + k)) else none

/-- The fine output of chain `n` that is due, and the glance output. -/
def fineDue (s : State) (n : Nat) : Option Nat :=
  outputDue (chainK2 s n) (s.chain n).at_ (cicCount s (s.chain n).inst.input)
def glanceDue (s : State) (n : Nat) : Option Nat :=
  match glanceK s n with
  | some kg => outputDue kg (s.chain n).gAt (cicCount s (s.chain n).inst.input)
  | none => none

/-- A chain's outputs stand at multiples of K2 and K_G of its input's comb count (R208). -/
def chainAlign (s : State) (n : Nat) : State :=
  let c := cicCount s (s.chain n).inst.input
  s.setChain n { s.chain n with at_ := c - c % chainK2 s n, gAt := c - c % (glanceK s n).getD 1 }

/-- The FIR result at output m − t: the accumulator rounded and clamped, and whether it clamped (R189, R197). -/
def firOut (s : State) (i : Inst) (p : List Int) : Int × Bool :=
  let acc := sumI ((upto i.taps).map (fun k => toSigned 24 (s.rd (A.FLT_COEFb_i i.bank k)).toNat * nth p k 0))
  let r := roundShift acc (23 - i.oshift)
  (satS 24 r, !fitsS 24 r)

/-- The output x[m] of an instance of chain `n`, `off` comb samples ago, and whether the FIR bank or the taps clamped it. -/
def instOut (s : State) (n : Nat) (i : Inst) (off : Nat) : Int × Bool :=
  let k2 := chainK2 s n
  let p := (upto (i.taps + 3 * k2)).map (fun j => prepared s i (off + j))
  let z := (upto 4).map (fun t => firOut s i (p.drop (t * k2)))
  let acc := sumI ((upto 4).map (fun t => nth i.tap t 0 * (nth z t (0, false)).1))
  let r := roundShift acc 22
  (satS 24 r, (nth z 0 (0, false)).2 || !fitsS 24 r)

/-- A fade's i-th output (R200). -/
def fadeMix (log2L i : Nat) (old new : Int) : Int :=
  let l : Int := ((2 ^ log2L : Nat) : Int)
  floorDiv (old * (l - (i : Int)) + new * (i : Int) + ((2 ^ log2L / 2 : Nat) : Int)) l

/-- A sample word (R191). -/
def sampleWord (x : Int) (uns disc sat : Bool) : Nat :=
  ofSigned 24 x + 2 ^ 24 * b2n uns + 2 ^ 25 * b2n disc + 2 ^ 26 * b2n sat

/-- DATA of a sample word. -/
def wordData (w : Nat) : Int := toSigned 24 w

/-- U of an instance of chain `n` (R205). -/
def unsettledOf (s : State) (n : Nat) (i : Inst) : Nat :=
  ceilDiv (cicOrder s i.input + (delaySplit (inputFp s i.input) (cicK1 s i.input) i.delay).1 + 8 + i.taps)
    (chainK2 s n) + 3

/-- The unsettled length U of chain `n`, for the set-up in force (R205). -/
def unsettledLen (s : State) (n : Nat) : Nat := unsettledOf s n (instTarget s n)

/-- GU (R204); 0 where the glance is not available. -/
def glanceU (s : State) (n : Nat) : Nat :=
  match glanceK s n with
  | some kg => ceilDiv (cicOrder s (s.get (F.MIC_MAPn_PHYS n)) + 16) kg
  | none => 0

/-- The level detectors of chain `n` reset (R212). -/
def detReset (s : State) (n : Nat) : State :=
  let s := ((s.put (F.FLT_CHn_PEAK_PEAK n) 0).put (F.FLT_CHn_RMS_RMS n) 0).put (F.FLT_ENVn_ENV n) 0
  s.setChain n { s.chain n with hold := 0, ms := 0 }

/-- The count of U starts on chain `n`, with the glance's GU; the detectors reset (R205, R206). -/
def countStart (s : State) (n : Nat) : State :=
  let s := detReset (chainAlign s n) n
  let u := unsettledLen s n
  let s := s.setChain n { s.chain n with uns := u, gUns := glanceU s n }
  s.mark (F.FLT_CHn_ST_UNS n) true

/-- Fades of chain `n` end: the newest bank, set and instance stand alone (R216, R202). -/
def fadeDrop (s : State) (n : Nat) : State :=
  (s.setChain n { s.chain n with fade := none }).mark (F.FLT_CHn_ST_FADE n) false

/-- The chains that read an input. -/
def chainsOf (s : State) (p : Nat) : List Nat :=
  (upto 32).filter (fun n => s.flag (F.MIC_MAPn_EN n) && (s.chain n).inst.input == p)

/-- The chains that fade away from an input (R201). -/
def chainsLeaving (s : State) (p : Nat) : List Nat :=
  (upto 32).filter (fun n => s.flag (F.MIC_MAPn_EN n) && decide ((s.chain n).inst.input ≠ p) &&
    (match (s.chain n).fade with | some f => f.old.input == p | none => false))

/-- The old instance of a fade has its U outputs to mark. -/
def fadeCount (s : State) (n : Nat) : State :=
  match (s.chain n).fade with
  | some f => s.setChain n { s.chain n with fade := some { f with uns := unsettledOf s n f.old } }
  | none => s

/-- An event of R206 on an input: the counts of its chains start, those of old instances that still fade out with them; the
CIC is cleared where the event clears it. -/
def inputRestart (s : State) (p : Nat) (clear : Bool) : State :=
  let s := if clear then cicClear s p else s.setCic p { s.cic p with fill := 0 }
  forEach (chainsLeaving s p) fadeCount (forEach (chainsOf s p) countStart s)

/-- An input whose chains show that an interval of R137 is in progress: their outputs are to be marked (R205). -/
def inputUnsettled (s : State) (p : Nat) : State := forEach (chainsOf s p) (fun s n => s.mark (F.FLT_CHn_ST_UNS n) true) s

/-- A floored square root of a number below 4^24. -/
def isqrt (x : Nat) : Nat :=
  (upto 24).foldl (fun r k => if (r + 2 ^ (23 - k)) * (r + 2 ^ (23 - k)) ≤ x then r + 2 ^ (23 - k) else r) 0

/-- `a + ((b − a) >> k)`, floored. -/
def approach (a b k : Nat) : Nat := ((a : Int) + floorDiv ((b : Int) - (a : Int)) ((2 ^ k : Nat) : Int)).toNat

/-- The detectors of chain `n` on an output (R212). -/
def detect (s : State) (n : Nat) (x : Int) : State :=
  let m := Nat.min x.natAbs 0x7FFFFF
  let c := s.chain n
  let i := c.inst.input
  let p := s.get (F.FLT_CHn_PEAK_PEAK n)
  let k := 1000 * cicK1 s i * chainK2 s n
  let h := (2 * s.get (F.FLT_CHn_DET_HOLD n) * inputFp s i + k) / (2 * k)
  let ph := if p ≤ m then (m, h) else if 0 < c.hold then (p, c.hold - 1)
    else (p - p / 2 ^ s.get (F.FLT_CHn_DET_PDEC n), 0)
  let q := approach c.ms (m * m) (s.get (F.FLT_CHn_DET_RTAU n))
  let e := s.get (F.FLT_ENVn_ENV n)
  let e := if e < m then approach e m (s.get (F.FLT_CHn_DET_ATK n)) else approach e m (s.get (F.FLT_CHn_DET_REL n))
  let s := ((s.put (F.FLT_CHn_PEAK_PEAK n) ph.1).put (F.FLT_CHn_RMS_RMS n) (isqrt q)).put (F.FLT_ENVn_ENV n) e
  s.setChain n { s.chain n with hold := ph.2, ms := q }

/-! ## The crossbar (R213, R214) -/

def State.route (s : State) (d : Nat) : RouteSt := nth s.flt.route d RouteSt.reset

/-- The last sample word of a source; zeros for code 0. -/
def lastOf (s : State) (c : Nat) : Nat := ((s.flt.srcLast.find? (fun e => e.1 == c)).map (·.2)).getD 0

def setLastOf (s : State) (c w : Nat) : State :=
  { s with flt := { s.flt with srcLast := (c, w) :: s.flt.srcLast.filter (fun e => decide (e.1 ≠ c)) } }

/-- Unload stream `k` produces a sample (R661): buffered where a port carries the stream, dropped when 256 wait. -/
def ustrPush (s : State) (k w : Nat) : State :=
  match (upto 2).find? (fun x => s.bitOf (F.HGx_USTR_STREAMS x) k) with
  | none => s
  | some x =>
    let u := nth s.hg.ustr k UStream.reset
    if u.buf.length < 256 then
      { s with hg := { s.hg with ustr := setNth s.hg.ustr k { u with buf := u.buf ++ [w] } } }
    else
      let s := { s with hg := { s.hg with ustr := setNth s.hg.ustr k { u with drops := u.drops + 1 } } }
      (s.bump64 (A.HGx_MSGCNTk_LO x 6) 1).event (102 + 8 * x)

/-- A source's samples come at f_S (R289): fine chains, beams, the sentry stream and the glances. -/
def sourceAtFs (s : State) (c : Nat) : Bool :=
  let div := s.get F.SWA_CFG_DIV
  if 1 ≤ c ∧ c ≤ 32 then
    (let p := (s.chain (c - 1)).inst.input
     inputFp s p * div == s.fH * (cicK1 s p * chainK2 s (c - 1)))
  else if 33 ≤ c ∧ c ≤ 48 then s.get (F.QUE_Qn_CFG_RDIV (c - 1)) == div
  else decide (16000 * div = s.fH)

/-- The counter that stamps a sample of a source (R291): its own frame's at f_S, that of the last frame formed at another rate;
in SENTRY the short swath's. -/
def sampleStamp (s : State) (c : Nat) : Nat :=
  if s.pstate = SENTRY ∨ sourceAtFs s c = true then wakeCounter s else wakeCounter s - 1

/-- Drill input `d` takes a sample with the counter at it, where it is active (R255); without a credit of hand-off 67 the sample
drops (R494). -/
def drillPush (s : State) (d w : Nat) : State :=
  let i := nth s.drl.inp d DrlIn.reset
  if !s.flag (F.DRL_INn_CFG_EN d) then s
  else if i.buf.length < 512 then
    let i := { i with buf := i.buf ++ [(if i.lost then setBit w 25 true else w, sampleStamp s (s.route (144 + d)).src)], lost := false }
    { s with drl := { s.drl with inp := setNth s.drl.inp d i } }
  else
    handoffDrop { s with drl := { s.drl with inp := setNth s.drl.inp d { i with lost := true } } } d

/-- What a destination does with its sample. -/
def sink (s : State) (d w : Nat) : State :=
  let s := s.setRoute d { s.route d with last := w }
  if d < 96 then s
  else if d < 128 then ciPush s (d - 96) w
  else if d < 144 then ustrPush s (d - 128) w
  else drillPush s (d - 144) w

/-- Marks a route adds to its next sample. -/
def routeMarks (s : State) (d w : Nat) : State × Nat :=
  let r := s.route d
  let w := if r.disc then setBit w 25 true else w
  let w := if r.uns then setBit w 24 true else w
  (s.setRoute d { r with disc := false, uns := false }, w)

/-- The OR of two words' marks. -/
def orMarks (a b : Nat) : Nat := 2 ^ 24 * ((a / 2 ^ 24) ||| (b / 2 ^ 24))

/-- A sample of source `c` reaches destination `d`. -/
def routeTake (s : State) (c d : Nat) : State :=
  let r := s.route d
  match r.fade with
  | none =>
    if r.src = c then
      let m := routeMarks s d (lastOf s c)
      sink m.1 d m.2
    else s
  | some (old, i, l) =>
    let driver := if r.src = 0 then old else r.src
    if driver = c then
      if i < 2 ^ l then
        let a := lastOf s old
        let b := lastOf s r.src
        let x := fadeMix l (i + 1) (wordData a) (wordData b)
        let m := routeMarks (s.setRoute d { r with fade := some (old, i + 1, l) }) d (ofSigned 24 x + orMarks a b)
        sink m.1 d m.2
      else
        let m := routeMarks s d (lastOf s r.src)
        sink m.1 d m.2
    else s

/-- A source's sample goes to every destination it feeds, and to the detectors of sound activity that listen to it
(R213, R224). -/
def deliver (s : State) (c w : Nat) : State :=
  let s := setLastOf s c w
  let s := forEach (upto 148) (fun s d => routeTake s c d) s
  forEach (upto 2) (fun s u =>
    let q := nth s.lsn.sad u SadSt.reset
    if q.run && s.get (F.LSN_SADu_CFG_SRC u) == c then s.setSad u { q with buf := q.buf ++ [w] } else s) s

/-! ## The sources' samples -/

/-- The filters run: the core domain is powered and clocked (R114, R41). -/
def filtersRun (s : State) : Bool := s.awake && s.coreRuns

/-- The part of a fade that its old instance still plays, where it does. -/
def fadeOld (c : ChainSt) : Option ChainFade :=
  match c.fade with
  | some f => if f.i < 2 ^ f.log2L then some f else none
  | none => none

/-- The next output of chain `n` is to be marked UNSETTLED: on account of its instance, or of the old one in a fade (R200,
R205). -/
def fineUnsettled (s : State) (n : Nat) : Bool :=
  let c := s.chain n
  decide (0 < c.uns) || inputSettling s c.inst.input ||
    (match fadeOld c with | some f => decide (0 < f.uns) || inputSettling s f.old.input | none => false)

/-- An output made: a count of outputs still to be marked goes down, a mark that stood for one sample is gone. -/
def unsTick (s : State) (n : Nat) : State :=
  let c := s.chain n
  let s := s.setChain n { c with uns := c.uns - 1, disc := false, fade := c.fade.map (fun f => { f with uns := f.uns - 1 }) }
  s.mark (F.FLT_CHn_ST_UNS n) (fineUnsettled s n)

/-- The fine chain's output m of channel `n`, `off` comb samples ago (R197, R200, R208, R212), delivered on source 1 + n. -/
def fineForm (s : State) (n off : Nat) : State :=
  let c := { s.chain n with at_ := (s.chain n).at_ + chainK2 s n }
  let uns := fineUnsettled s n
  let o := instOut s n c.inst off
  let r : Int × Bool × ChainSt :=
    match fadeOld c with
    | none => (o.1, o.2, c)
    | some f =>
      let p := instOut s n f.old off
      (fadeMix f.log2L (f.i + 1) p.1 o.1, p.2 || o.2, { c with fade := some { f with i := f.i + 1 } })
  let s := s.setChain n r.2.2
  let sat := r.2.1 && !c.mute
  let s := if sat then (((s.mark (F.FLT_CHn_ST_SAT n) true).incSat (F.FLT_CHn_ST_SATCNT n)).event 22) else s
  let x := if c.mute then 0 else r.1
  let s := detect s n x
  let s := unsTick s n
  deliver s (1 + n) (sampleWord x (uns && !c.mute) c.disc sat)

/-- The fine output of channel `n`, where its comb sample has come. -/
def fineOutput (s : State) (n : Nat) : State := match fineDue s n with | some off => fineForm s n off | none => s

/-- The glance filter's output of channel `n`, `off` comb samples ago (R203, R204), delivered on source 65 + n. DESIGN CHOICE
(log 72): the spec names no arithmetic for the sum of the 16 taps; it is rounded from Q1.23 and clamped to 24 bits, and a
clamp sets the SAT mark. -/
def glanceForm (s : State) (n off : Nat) : State :=
  let c := { s.chain n with gAt := (s.chain n).gAt + (glanceK s n).getD 1 }
  let p := c.inst.input
  let g := cicGain (cicK1 s p) (cicOrder s p)
  let u := (upto 16).map (fun k => q22 (q22 (ringAt (s.cic p).ring (off + k) * g) * c.inst.gain))
  let acc := sumI ((upto 16).map (fun k => toSigned 24 (s.get (F.FLT_GLCk_TAP k)) * nth u k 0))
  let r := roundShift acc 23
  let uns := decide (0 < c.gUns) || inputSettling s p
  let w := sampleWord (if c.mute then 0 else satS 24 r) (uns && !c.mute) c.gDisc (!fitsS 24 r && !c.mute)
  let s := s.setChain n { c with gUns := c.gUns - 1, gDisc := false }
  deliver s (65 + n) w

/-- The glance output of channel `n`, where its comb sample has come. -/
def glanceOutput (s : State) (n : Nat) : State := match glanceDue s n with | some off => glanceForm s n off | none => s

/-- One bit of the sentry input through the sentry decimator's CIC of order 4 (R207). -/
def sentBit (k : Nat) (c : SentDec) (b : Bool) : SentDec :=
  let integ := integrate c.integ (b2n b)
  let c := { c with integ := integ, bits := c.bits + 1 }
  if c.bits < k then c
  else
    let r := combs c.comb (integ.getLastD 0)
    { c with comb := r.1, bits := 0, n32 := c.n32 + 1, hist := (cicScale k 4 r.2 :: c.hist).take 64 }

/-- The half-band's 31 taps (R207): 0.5 at the centre, 0 at even offsets, the ROM values at odd ones. -/
def halfBandTap (i : Nat) : Int :=
  let o := if i ≤ 15 then 15 - i else i - 15
  if o = 0 then 0x400000 else if o % 2 = 0 then 0 else toSigned 24 (Config.halfBand (o / 2)).toNat

/-- The sentry stream's sample from the 31 newest samples at 32 kHz: rounded to 16 bits with saturation, in 23:8. -/
def sentrySample (hist : List Int) : Int :=
  256 * satS 16 (roundShift (sumI ((upto 31).map (fun i => halfBandTap i * nth hist i 0))) 31)

/-- The bits of the sentry input since the last event go through the sentry decimator's CIC (R207). -/
def sentryFeed (s : State) (bs : List Bool) : State :=
  { s with flt := { s.flt with sent := bs.foldl (sentBit (inputFp s (sentryIn s) / 32000)) s.flt.sent } }

/-- A pair of 32 kHz samples has come since the last output (R207, R208). -/
def sentryDue (s : State) : Bool := decide (2 ≤ s.flt.sent.n32)

/-- The sentry decimator's output (R207): one 16 kHz sample on source 49; in SENTRY the short swath records it (R299). -/
def sentryOutput (s : State) : State :=
  let d := s.flt.sent
  let uns := decide (0 < d.uns) || inputSettling s (sentryIn s)
  let w := sampleWord (sentrySample (d.hist.drop (d.n32 - 2))) uns d.disc false
  let s := { s with flt := { s.flt with sent := { d with uns := d.uns - 1, disc := false, n32 := d.n32 - 2 } } }
  let s := deliver s 49 w
  if s.pstate = SENTRY then shortFrame s w else s

/-- An event of R206 on the sentry stream: 18 samples to be marked (R207). -/
def sentryCount (s : State) : State := { s with flt := { s.flt with sent := { s.flt.sent with uns := 18 } } }

/-- The sentry decimator restarts with cleared registers. -/
def sentryClear (s : State) : State :=
  { s with flt := { s.flt with sent := { s.flt.sent with integ := [0, 0, 0, 0], comb := [0, 0, 0, 0], bits := 0, n32 := 0, uns := 18 } } }

/-- A beam source's boundary of queue `32 + b` (R490): one entry once primed, zeros before, a marked zero when empty. -/
def beamPop (s : State) (b : Nat) : State :=
  let n := 32 + b
  let q := s.queue n
  let primed := q.primed || decide (s.get (F.QUE_Qn_PROD_PUSHN n) ≤ q.occ.length)
  if !primed then deliver s (33 + b) 0
  else
    let s := s.setQueue n { q with primed := true }
    match q.occ with
    | [] =>
      let s := s.put (F.QUE_Qn_CNT_UNDER n) (Nat.min 65535 (s.get (F.QUE_Qn_CNT_UNDER n) + 1))
      deliver ((s.bump64 A.QUE_UNDER_LO 1).event 57) (33 + b) (2 ^ 25)
    | w :: _ => deliver (queuePop s n 1) (33 + b) w

/-! ## Changes at a boundary (R166, R200, R201, R214) -/

/-- A fade starts on chain `n` from its present instance to the registers' (R200, R201). -/
def chainFade (s : State) (n : Nat) (new : Inst) : State :=
  let c := s.chain n
  let s := s.setChain n { c with inst := new, fade := some ⟨c.inst, 0, s.get (F.FLT_CHn_XF_LOG2L n), c.uns⟩ }
  s.mark (F.FLT_CHn_ST_FADE n) true

/-- The remaining count of an instance's input for chain `n`: the outputs of U that its fill has not yet covered (R206). -/
def remaining (s : State) (n : Nat) (i : Inst) : Nat := unsettledOf s n i - (s.cic i.input).fill / chainK2 s n

/-- Chain `n` reads another input: its outputs follow that input's comb samples, and the new samples are marked for what
remains of that input's own count (R166, R206). -/
def chainInput (s : State) (n : Nat) : State :=
  let i := (s.chain n).inst
  let g := if glanceU s n * (glanceK s n).getD 1 ≤ (s.cic i.input).fill then 0 else glanceU s n
  let s := chainAlign s n
  let s := s.setChain n { s.chain n with uns := remaining s n i, gUns := g }
  s.mark (F.FLT_CHn_ST_UNS n) (fineUnsettled s n)

/-- A cross-faded remap of chain `n` (R166, R201): the glance, which has no fade, changes over at once. -/
def chainRemap (s : State) (n : Nat) (new : Inst) : State := chainInput (chainFade s n new) n

/-- A hard cut of chain `n` to an instance: any fade ends, the first new sample carries DISCONTINUITY, and the new
input's remaining count goes on; where one remains, the detectors reset (R166, R202, R206, R212). -/
def chainCut (s : State) (n : Nat) (new : Inst) : State :=
  let s := fadeDrop s n
  let s := chainInput (s.setChain n { s.chain n with inst := new, disc := true, gDisc := true }) n
  if (s.chain n).uns = 0 then s else detReset s n

/-- Two instances filter alike: bank, tap count and shift. -/
def sameBank (i j : Inst) : Bool := i.bank == j.bank && i.taps == j.taps && i.oshift == j.oshift

/-- A hard cut of chain `n` to another input with its calibration set; the bank in force goes on. A bank swap whose fade begins
at the same boundary runs on the new input (R166, R220). -/
def chainCutTo (s : State) (n : Nat) (new : Inst) : State :=
  let i := (s.chain n).inst
  let with_ (b : Inst) : Inst := { new with bank := b.bank, taps := b.taps, oshift := b.oshift }
  match (s.chain n).fade with
  | some f => if f.i = 0 ∧ f.old.input = i.input ∧ !sameBank f.old i then chainFade (chainCut s n (with_ f.old)) n (with_ i) else chainCut s n (with_ i)
  | none => chainCut s n (with_ i)

/-- The route of destination `d` takes its register's source: a fade, or with CUT a hard cut (R214). -/
def routeChange (s : State) (d : Nat) : State :=
  let r := s.route d
  let src := s.get (F.FLT_RTd_SRC d)
  if r.src = src then s
  else if s.flag (F.FLT_RTd_CUT d) then s.setRoute d { r with src := src, fade := none, disc := true }
  else
    let s := s.setRoute d { r with src := src, fade := some (r.src, 0, s.get (F.FLT_RTd_LOG2L d)) }
    s.mark (F.FLT_RTd_FADE d) true

/-- Every fade ends at a sync edge or a resume (R216): the new one takes over, its first sample marked. -/
def fadesEnd (s : State) : State :=
  let s := forEach (upto 32) (fun s n => if (s.chain n).fade.isSome then fadeDrop s n else s) s
  forEach (upto 148) (fun s d =>
    if (s.route d).fade.isSome then
      (s.setRoute d { s.route d with fade := none, disc := true, uns := true }).mark (F.FLT_RTd_FADE d) false
    else s) s

/-- All counts start (R206), for a sync edge or a resume. -/
def countsStart (s : State) : State :=
  let s := forEach ((upto 32).filter (inputOn s)) (fun s p => s.setCic p { s.cic p with fill := 0 }) s
  let s := forEach ((upto 32).filter (fun n => s.flag (F.MIC_MAPn_EN n))) countStart s
  sentryCount s

/-- The decimation phase restarts at the sync edge (R208): the PDM phase counter, whose next edge counts 0 (R156), the combs of
every input, and the sentry decimator; the K2 and K_G counters follow the comb counts, and the integrators keep running. -/
def phaseRestart (s : State) : State :=
  let s := forEach (upto 32) (fun s p => s.setCic p { s.cic p with frames := 0 }) s
  let s := forEach (upto 32) chainAlign s
  { s with mic := { s.mic with phase := 63 }, flt := { s.flt with sent := { s.flt.sent with bits := 0, n32 := 0 } } }

/-- The blocks that the swath is writing, or writes next, carry the SYNC mark (R295). -/
def StripSt.withSync (t : StripSt) : StripSt :=
  match t.cur with
  | some b => { t with cur := some { b with sync := true } }
  | none => { t with sync := true }

/-- SYNC acts (R208, R211, R216, R218): in SENTRY only the sentry decimator restarts. -/
def syncAct (s : State) (late : Bool) : State :=
  let s := { s with flt := { s.flt with sync := none } }
  let s := phaseRestart s
  let s := if s.swa.run then { s with swa := { s.swa with strip := s.swa.strip.map StripSt.withSync } } else s
  let s := if s.pstate = SENTRY then sentryCount s else countsStart (fadesEnd s)
  let s := if late then (s.mark F.FLT_SYNC_LATE true).event 25 else s
  ((s.incWrap F.FLT_SYNC_CNT_COUNT)).event 24

/-- A pin edge or a NOW write (R209, R210, R217): it schedules a sync edge, and with BCAST on the lead the message names
it; ignored while one awaits, during HOLD, or while the input stages are stopped. -/
def syncEdge (s : State) : State :=
  if s.flt.sync.isSome || decide (s.clk.phase ≠ .run) || !s.clk.present || decide (s.pstate = OFF) then s
  else if s.flag F.FLT_SYNC_BCAST && decide (s.devid = 0) then
    let n := 64 + s.get F.FLT_SYNC_EXT
    let s := { s with flt := { s.flt with sync := some n }, hg := { s.hg with syncNo := (s.hg.syncNo + 1) % 65536 } }
    hgBroadcast s VC_CTRL T_SYNC s.hg.syncNo (bytesOfLe 4 n)
  else { s with flt := { s.flt with sync := some 64 } }

/-! ## Pool demand (R198) -/

/-- A demand term in kMAC/s, rounded up to a whole one: `macs` per `den` units of f_P. -/
def kmac (num den : Nat) : Nat := ceilDiv num (1000 * den)

/-- The steady demand of chain `n`: (T + 4) × f_O. -/
def chainDemand (s : State) (n : Nat) : Nat :=
  let p := s.get (F.MIC_MAPn_PHYS n)
  if s.flag (F.MIC_MAPn_EN n) then
    kmac ((s.get (F.FLT_CHn_FIR_TAPSM1 n) + 5) * inputFp s p) (cicK1 s p * chainK2 s n)
  else 0

/-- A calibration fade runs on an input: a chain's two instances differ in the set (R198, R201). -/
def calFading (s : State) (p : Nat) : Bool :=
  (upto 32).any (fun n => match (s.chain n).fade with
    | some f =>
      let i := (s.chain n).inst
      f.old.input == p && i.input == p && (f.old.gain != i.gain || f.old.delay != i.delay || f.old.tap != i.tap)
    | none => false)

/-- The demand of an enabled input: 10 × f_CIC. -/
def inputDemand (s : State) (p : Nat) : Nat := kmac (10 * inputFp s p) (cicK1 s p)

/-- The demand of a fade on chain `n`: (T_new + 4) × f_O + 2 × f_O. -/
def fadeDemand (s : State) (n : Nat) : Nat :=
  let i := (s.chain n).inst
  kmac ((i.taps + 6) * inputFp s i.input) (cicK1 s i.input * chainK2 s n)

/-- The steady demand of a set-up: inputs and chains. -/
def poolSteady (s : State) : Nat :=
  sumN (((upto 32).filter (fun p => s.bitOf F.MIC_INEN_EN p)).map (inputDemand s)) + sumN ((upto 32).map (chainDemand s))

/-- Fades in progress and calibration measurements, beside the steady demand. -/
def poolDemand (s : State) : Nat :=
  poolSteady s + sumN (((upto 32).filter (fun n => (s.chain n).fade.isSome)).map (fadeDemand s)) +
  sumN (((upto 32).filter (calFading s)).map (inputDemand s)) +
  (match s.mic.cal with
   | some m => match m.targets with
     | p :: _ => kmac (65 * inputFp s p) (cicK1 s p)
     | [] => 0
   | none => 0)

/-- 63 × f_C, in kMAC/s. -/
def poolCap (s : State) : Nat := 63 * s.fC / 1000

end Sys2Proof.Machine
end

