-- ==== Sys2Proof/Machine/Tilth.lean ====
section
/-! DEFINITION. The sound-activity detectors and their Tilth loops (R224 to R233): frames, levels, the floor, seeding,
activity. What a wake does stands in Listen.lean. -/

namespace Sys2Proof.Machine

/-- The rate of a crossbar source in Hz, as a fraction (R213): numerator and denominator. -/
def sourceRate (s : State) (c : Nat) : Nat × Nat :=
  if 1 ≤ c ∧ c ≤ 32 then
    let p := s.get (F.MIC_MAPn_PHYS (c - 1))
    (inputFp s p, cicK1 s p * chainK2 s (c - 1))
  else if 33 ≤ c ∧ c ≤ 48 then (s.fH, Nat.max 1 (s.get (F.QUE_Qn_CFG_RDIV (c - 1))))
  else if c = 49 ∨ (65 ≤ c ∧ c ≤ 96) then (16000, 1)
  else (0, 1)

/-- N_F = f / 100 samples of the source of SAD `u` (R225). -/
def sadLen (s : State) (u : Nat) : Nat :=
  let r := sourceRate s (s.get (F.LSN_SADu_CFG_SRC u))
  r.1 / (100 * r.2)

def State.sad (s : State) (u : Nat) : SadSt := nth s.lsn.sad u SadSt.reset

/-- SAD `u` is to run in the present state (R224). -/
def sadWanted (s : State) (u : Nat) : Bool :=
  if u = 0 then decide (s.pstate ≠ OFF) else s.awake && s.flag F.LSN_CFG_SAD1_EN

/-- `(S / (N · 2^46))^1000 ≥ 10^(−j)`, exactly (R225). -/
def levelAtLeast (sum n j : Nat) : Bool := decide ((n * 2 ^ 46) ^ 1000 ≤ sum ^ 1000 * 10 ^ j)

/-- The smallest j below 2^14 with `levelAtLeast`, by its bits; 15 000 where none is as small. -/
def levelSearch (sum n : Nat) : Nat :=
  let j := (upto 14).foldl (fun r k => if levelAtLeast sum n (r + 2 ^ (13 - k) - 1) then r else r + 2 ^ (13 - k)) 0
  Nat.min j 15000

/-- The frame level L = floor(1000 log10(max(ms, 10^-15))) in units of 0.01 dB (R225), from the sum of squares. -/
def frameLevel (sum n : Nat) : Int := if sum = 0 ∨ n = 0 then -15000 else -((levelSearch sum n : Nat) : Int)

/-- The sum of squares of a list of sample words. -/
def sumSquares (l : List Nat) : Nat := (l.foldl (fun a w => a + wordData w * wordData w) 0).toNat

/-- A frame is excluded (R226): a mark on any sample, or FREEZE. -/
def frameMarked (l : List Nat) : Bool := l.any (fun w => decide (w / 2 ^ 24 % 8 ≠ 0))

/-- The floor F of SAD `u`, in 0.01 dB. -/
def sadFloor (s : State) (u : Nat) : Int := s.getI (F.LSN_SADu_FLOOR_FLOOR u)

/-- OFS (R233). -/
def sadOfs (s : State) (u : Nat) : Nat := (clampI 0 4000 (sadFloor s u - s.getI (F.LSN_SADu_FREF_FREF u))).toNat

/-- SOFS (R233): never above 12.00 dB. -/
def sadSofs (s : State) (u : Nat) : Nat := Nat.min (sadOfs s u) 1200

/-- Seeding starts on SAD `u` (R229): the window empties, activity ends, with its notice except at a change of source
(R251). -/
def sadSeed (s : State) (u : Nat) (notice : Bool) : State :=
  let was := s.flag (F.LSN_SADu_ST_ACTIVE u)
  let s := s.setSad u { SadSt.reset with run := (s.sad u).run }
  let s := (s.mark (F.LSN_SADu_ST_ACTIVE u) false).mark (F.LSN_SADu_ST_SEEDING u) true
  if was && notice then s.event 39 else s

/-- SAD `u` starts. -/
def sadStart (s : State) (u : Nat) : State := sadSeed (s.setSad u { SadSt.reset with run := true }) u false

/-- SAD `u` stops and its state is discarded (R224). -/
def sadStop (s : State) (u : Nat) : State :=
  let s := s.setSad u SadSt.reset
  ((s.mark (F.LSN_SADu_ST_ACTIVE u) false).mark (F.LSN_SADu_ST_SEEDING u) false).mark (F.LSN_SADu_ST_FROZEN u) false

/-- The detectors that should run do, the others do not: at a state entry and a write of SAD1_EN. -/
def sadFollow (s : State) : State :=
  forEach (upto 2) (fun s u =>
    if sadWanted s u && !(s.sad u).run then sadStart s u
    else if !sadWanted s u && (s.sad u).run then sadStop s u else s) s

/-- The sentry input changes: every detector on the sentry stream seeds afresh (R229, R251). -/
def sadSentryChange (s : State) : State :=
  forEach (upto 2) (fun s u =>
    if (s.sad u).run && s.get (F.LSN_SADu_CFG_SRC u) == 49 then sadSeed s u false else s) s

/-- The least of a window, from its first value. -/
def minI (l : List Int) (d : Int) : Int := l.foldl (fun a b => if b < a then b else a) (l.headD d)

/-- The Tilth update after a frame that is not excluded (R228). -/
def tilth (s : State) (u : Nat) (l : Int) : State :=
  let q := s.sad u
  let win := (l :: q.win).take 150
  let m := minI win l
  let f := sadFloor s u
  let seeding := s.flag (F.LSN_SADu_ST_SEEDING u)
  let r := f + ((s.get (F.LSN_SADu_TL_RISE u) : Nat) : Int)
  let f := clampI (-12000) (-1000) (if seeding then m else if m < f then m else if m < r then m else r)
  let s := s.putI (F.LSN_SADu_FLOOR_FLOOR u) f
  let hi := if f = -1000 then q.railHi + 1 else 0
  let lo := if f = -12000 then q.railLo + 1 else 0
  let stays := decide (0 < hi ∧ 0 < q.railHi) || decide (0 < lo ∧ 0 < q.railLo)
  s.setSad u { q with win := win, railHi := hi, railLo := lo, railed := q.railed && stays }

/-- The outcome of a frame for the units that listen: an onset, an end of activity. -/
structure FrameOut where
  st : State
  onset : Bool
  ended : Bool

/-- The decision of a frame that is not excluded (R227, R229, R231), judged against the floor before its update. -/
def sadDecide (s : State) (u : Nat) (l : Int) : FrameOut :=
  let q := s.sad u
  if s.flag (F.LSN_SADu_ST_SEEDING u) then ⟨s, false, false⟩
  else
    let above := decide (sadFloor s u + 25 * ((s.get (F.LSN_SADu_CFG_MARGIN u) : Nat) : Int) ≤ l)
    let on := if above then q.onRun + 1 else 0
    let off := if above then 0 else q.hangRun + 1
    let hang := s.get (F.LSN_SADu_CFG_HANG u)
    let lock := q.lockout && !decide (hang ≤ off)
    let act := s.flag (F.LSN_SADu_ST_ACTIVE u)
    if !act && !lock && decide (s.get (F.LSN_SADu_CFG_ONSET u) ≤ on) then
      let s := s.setSad u { q with onRun := on, hangRun := off, lockout := lock, act := 0 }
      let s := ((s.mark (F.LSN_SADu_ST_ACTIVE u) true).bump64 (A.LSN_SADu_EVT_LO u) 1).event (32 + u)
      ⟨s, true, false⟩
    else if act && decide (hang ≤ off) then
      let s := s.setSad u { q with onRun := on, hangRun := off, lockout := lock }
      ⟨(s.mark (F.LSN_SADu_ST_ACTIVE u) false).event 39, false, true⟩
    else ⟨s.setSad u { q with onRun := on, hangRun := off, lockout := lock }, false, false⟩

/-- A 10 ms frame of SAD `u` from the samples gathered (R225 to R228). -/
def sadFrame (s : State) (u : Nat) : FrameOut :=
  let n := sadLen s u
  let q := s.sad u
  let fr := q.buf.take n
  let s := s.setSad u { q with buf := q.buf.drop n, act := if s.flag (F.LSN_SADu_ST_ACTIVE u) then q.act + 1 else 0 }
  let l := frameLevel (sumSquares fr) n
  let excl := frameMarked fr || s.flag (F.LSN_SADu_TL_FREEZE u)
  let s := (s.putI (F.LSN_SADu_FLOOR_LEVEL u) l).mark (F.LSN_SADu_ST_FROZEN u) excl
  if excl then ⟨s, false, false⟩
  else
    let s := if q.pend then sadSeed s u true else s
    let d := sadDecide s u l
    { d with st := tilth d.st u l }

/-- RESEED of SAD `u` (R229, R252). -/
def sadReseed (s : State) (u : Nat) : State :=
  if !(s.sad u).run then s
  else if s.flag (F.LSN_SADu_TL_FREEZE u) then s.setSad u { s.sad u with pend := true }
  else sadSeed s u true

/-- 150 frames end seeding (R229). -/
def seedingEnd (s : State) (u : Nat) : State :=
  let s := s.mark (F.LSN_SADu_ST_SEEDING u) false
  if 100 * s.getI (F.LSN_SADu_TL_CEIL u) < sadFloor s u then
    (s.mark (F.LSN_SADu_ST_FLOOR_SEEDED_LOUD u) true).event 38
  else s

/-- Activity of MAXEV seconds ends (R231). -/
def sustain (s : State) (u : Nat) : State :=
  let s := s.setSad u { s.sad u with lockout := true, hangRun := 0 }
  (((s.mark (F.LSN_SADu_ST_SUSTAINED u) true).event 38).mark (F.LSN_SADu_ST_ACTIVE u) false).event 39

end Sys2Proof.Machine
end

