-- ==== Sys2Proof/Machine/CoreOps.lean ====
section
/-! DEFINITION. The Furrow cores as units of the device: their states, INIT, the dispatcher and its jobs (R331 to R361),
and the rates of tasks and queues (R500, R502). What an instruction does stands in the Furrow files. -/

namespace Sys2Proof.Machine

/-! ## Core states (R371) -/

abbrev C_OFF : Nat := 0
abbrev C_HALT : Nat := 1
abbrev C_RUN : Nat := 2
abbrev C_IDLE : Nat := 3
abbrev C_FAULT : Nat := 4
abbrev C_RETIRED : Nat := 5

/-- The sentry core's number among the cores; F0 to F3 are 0 to 3. -/
abbrev SENT : Nat := 4
/-- The Scarecrow's number among the cores. -/
abbrev SCARE : Nat := 5

def State.core (s : State) (c : Nat) : CoreSt := nth s.frw.core c CoreSt.reset

def State.setCore (s : State) (c : Nat) (v : CoreSt) : State :=
  { s with frw := { s.frw with core := setNth s.frw.core c v } }

/-- The state of core `c`. -/
def coreState (s : State) (c : Nat) : Nat :=
  if c < 4 then s.get (F.FRW_COREc_ST_STATE c) else if c = 4 then s.get F.FRW_SENT_CTL_STATE else s.frw.scState

def setCoreState (s : State) (c v : Nat) : State :=
  if c < 4 then s.put (F.FRW_COREc_ST_STATE c) v
  else if c = 4 then s.put F.FRW_SENT_CTL_STATE v
  else { s with frw := { s.frw with scState := v } }

/-- The core is executing or idle. -/
def coreLive (s : State) (c : Nat) : Bool := coreState s c == C_RUN || coreState s c == C_IDLE

/-- Discard a core's staging set (R431). -/
def stagingDrop (s : State) (c : Nat) : State :=
  if c < 5 then (({ s with hsp := { s.hsp with fw := setNth s.hsp.fw c [] } }).put (F.FRW_FCMTk_STAGED c) 0) else s

/-- The first address that core `c` executes: address 0 (R357, R358). -/
def coreStart : Nat := 0

/-- A core's state at the beginning of INIT: every register at reset (R357). -/
def coreFresh : CoreSt := CoreSt.reset

/-- Core `c` enters RUN through INIT (R357, R358). -/
def coreInit (s : State) (c : Nat) : State :=
  let s := setCoreState (s.setCore c coreFresh) c C_RUN
  if c < 4 then (s.mark (F.FRW_COREc_ST_INIT c) true).mark (F.FRW_COREc_CTL_RUN c) true else s

/-- Core `c` leaves execution for a state: its jobs stop, its staging set is discarded (R431). -/
def coreStop (s : State) (c st : Nat) : State :=
  let s := stagingDrop (setCoreState s c st) c
  let k := s.core c
  let s := s.setCore c { k with jobs := [], run := none, heldRel := [], bun := none, slot := none, replay := none }
  if c < 4 then s.mark (F.FRW_COREc_ST_INIT c) false else s

/-- Core `c` is gated: OFF, its memories lost (R114); a retired core stays retired. -/
def coreGate (s : State) (c : Nat) : State :=
  if coreState s c = C_RETIRED then s else coreStop (s.setCore c coreFresh) c C_OFF

/-! ## Rates (R356, R500, R502) -/

abbrev KIND_QUEUE : Nat := 1
abbrev KIND_IRQ : Nat := 2
abbrev KIND_PERIOD : Nat := 3

def taskKind (s : State) (c t : Nat) : Nat := s.get (F.FRW_Tc_t_ENTRY_KIND c t)
def taskSrc (s : State) (c t : Nat) : Nat := s.get (F.FRW_Tc_t_TRIG_SRC c t)
def taskN (s : State) (c t : Nat) : Nat := s.get (F.FRW_Tc_t_TRIG_N c t)

/-- The route register's source of a destination. -/
def routeReg (s : State) (d : Nat) : Nat := s.get (F.FLT_RTd_SRC d)

/-- The producer rate of a queue in entries per second, as a fraction; none where the derivation does not end (R502). -/
def queueRate (s : State) : Nat → Nat → Option (Nat × Nat)
  | 0, _ => none
  | k + 1, n =>
    if n < 32 then some (sourceRate s (routeReg s (96 + n)))
    else
      let c := s.get (F.QUE_Qn_PROD_CORE n)
      let t := s.get (F.QUE_Qn_PROD_TASK n)
      let p := s.get (F.QUE_Qn_PROD_PUSHN n)
      if taskKind s c t = KIND_QUEUE then
        (queueRate s k (taskSrc s c t)).map (fun r => (r.1 * p, r.2 * Nat.max 1 (taskN s c t)))
      else if taskKind s c t = 0 then some (0, 1)
      else some (1000000 * p, Nat.max 1 (taskN s c t))

/-- Fuel that no derivation without a cycle can use up: 64 queues. -/
def rateFuel : Nat := 65

/-- The release rate of a task (R500): none for a rate that has no source. -/
def taskRate (s : State) (c t : Nat) : Option (Nat × Nat) :=
  if taskKind s c t = 0 then some (0, 1)
  else if taskKind s c t = KIND_QUEUE then
    (queueRate s rateFuel (taskSrc s c t)).map (fun r => (r.1, r.2 * Nat.max 1 (taskN s c t)))
  else some (1000000, Nat.max 1 (taskN s c t))

/-- The period of a task in HSCK cycles, rounded up (R39, R356). -/
def taskCycles (s : State) (c t : Nat) : Nat :=
  match taskRate s c t with
  | some (a, b) => if a = 0 then 0 else ceilDiv (s.fH * b) a
  | none => 0

/-! ## Dispatching (R356 to R361) -/

/-- The core stands at a bundle boundary at which the dispatcher may act (R359, R457). -/
def eligible (s : State) (c : Nat) : Bool :=
  let k := s.core c
  k.bun.isNone && k.slot.isNone && !k.shadow && !k.regs.estat.getLsbD 12

/-- The released job with the earliest deadline, ties to the lower task number (R359). -/
def earliest : List Job → Option Job
  | [] => none
  | j :: t =>
    match earliest t with
    | none => some j
    | some i => if i.deadline < j.deadline ∨ (i.deadline = j.deadline ∧ i.task < j.task) then some i else some j

/-- The address of a task's first bundle (R371). -/
def taskEntry (s : State) (c t : Nat) : Nat := s.get (F.FRW_Tc_t_ENTRY_ADDR c t) / 4 * 4

/-- Complete what a job has in flight: the outstanding loads return. -/
def loadsReturn (k : CoreSt) : CoreSt :=
  let put := fun (r : CoreRegs) (e : Nat × BitVec 128) =>
    if e.1 < 32 then { r with s := setNth r.s e.1 (if e.1 = 0 then 0 else e.2.setWidth 32) }
    else { r with q := setNth r.q (e.1 - 32) e.2 }
  { k with regs := k.ret.foldl put k.regs, ret := [] }

/-- The dispatcher of F-core `c` (R359): the job of earliest deadline runs; the one it preempts keeps its context. -/
def dispatch (s : State) (c : Nat) : State :=
  let k := s.core c
  if c < 4 ∧ coreLive s c ∧ !s.flag (F.FRW_COREc_ST_INIT c) ∧ eligible s c then
    match earliest k.jobs with
    | none => setCoreState (s.setCore c { k with run := none }) c C_IDLE
    | some j =>
      if k.run = some j.task then s
      else
        let k := loadsReturn k
        let jobs := k.jobs.map (fun i => if k.run = some i.task then { i with ctx := some (k.regs, k.pc) } else i)
        let r := match j.ctx with | some x => x | none => (k.regs, taskEntry s c j.task)
        let jobs := jobs.map (fun i => if i.task = j.task then { i with ctx := none } else i)
        let s := s.setCore c { k with jobs := jobs, run := some j.task, regs := r.1, pc := r.2 }
        (setCoreState s c C_RUN).put (F.FRW_COREc_ST_TASK c) j.task
  else s

/-- A job of task `t` is released (R356), unless one is: then the release is held, and a further one is late (R361). -/
def release (s : State) (c t : Nat) : State :=
  let k := s.core c
  if k.jobs.any (fun j => j.task == t) then
    if k.heldRel.contains t then (s.incSat (F.FRW_Tc_t_ST_LATE c t)).event 10
    else s.setCore c { k with heldRel := k.heldRel ++ [t] }
  else
    let j : Job := ⟨t, s.time.hsck + taskCycles s c t, none⟩
    dispatch (s.setCore c { k with jobs := k.jobs ++ [j] }) c

/-- The running job ends (R434): a held release of its task starts the next job. -/
def jobEnd (s : State) (c : Nat) : State :=
  let k := s.core c
  match k.run with
  | none => dispatch s c
  | some t =>
    let rest := k.jobs.filter (fun j => decide (j.task ≠ t))
    let s := s.setCore c { k with jobs := rest, run := none, heldRel := k.heldRel.filter (fun u => decide (u ≠ t)) }
    if k.heldRel.contains t then release s c t else dispatch s c

/-- F0 to F3 stand at a task-frame boundary (R363): all IDLE or not in RUN, with no release held. -/
def frameBoundary (s : State) : Bool :=
  (upto 4).all (fun c => decide (coreState s c ≠ C_RUN) && (s.core c).heldRel.isEmpty)

/-! ## Memories (R349 to R351) -/

/-- Bytes of a core's program memory and data memory. -/
def progBytes (c : Nat) : Nat := if c < 4 then 65536 else 32768
def dataBytes (c : Nat) : Nat := if c < 4 then 131072 else 32768
abbrev commonBytes : Nat := 1048576

def State.prog (s : State) (c : Nat) : List Host.Cell := nth s.frw.prog c []
def State.data (s : State) (c : Nat) : List Host.Cell := nth s.frw.data c []
def State.setProg (s : State) (c : Nat) (m : List Host.Cell) : State :=
  { s with frw := { s.frw with prog := setNth s.frw.prog c m } }
def State.setData (s : State) (c : Nat) (m : List Host.Cell) : State :=
  { s with frw := { s.frw with data := setNth s.frw.data c m } }

/-- The 64-bit words that a range of bytes touches. -/
def wordsOf (a n : Nat) : List Nat := (upto ((a + n + 7) / 8 - a / 8)).map (fun i => 8 * (a / 8 + i))

/-- A struck word of memory `m` of core `c` is among the words that a range touches. -/
def softHit (c m a n : Nat) (e : Nat × Nat × Nat) : Bool :=
  e.1 == m && (m == 2 || e.2.1 == c) && (wordsOf a n).contains e.2.2

/-- The words of a range with a single-bit error are good again. -/
def softDrop (s : State) (c m a n : Nat) : State :=
  { s with frw := { s.frw with soft := s.frw.soft.filter (fun e => !softHit c m a n e) } }

/-- An access by core `c` meets the words of a range (R351, R476): a single-bit error is corrected in flight and written
back, and SBE counts it. -/
def softMeet (s : State) (c m a n : Nat) : State :=
  let l := s.frw.soft.filter (softHit c m a n)
  if l.isEmpty then s
  else if c < 4 then forEach l (fun s _ => s.incSat (F.FRW_COREc_ECC_SBE c)) (softDrop s c m a n) else softDrop s c m a n

/-- A write of `n` bytes replaces words written whole, single-bit errors and all. -/
def softWrite (s : State) (c m a n : Nat) : State :=
  { s with frw := { s.frw with soft := s.frw.soft.filter (fun e =>
      !(softHit c m a n e && decide (a ≤ e.2.2) && decide (e.2.2 + 8 ≤ a + n))) } }

/-- Write bytes to core `c`'s program memory; words written whole are good again (R351). -/
def progWrite (s : State) (c a : Nat) (bs : List Nat) : State :=
  let b := (nth s.frw.badProg c []).filter (fun w => !(decide (a ≤ w) && decide (w + 8 ≤ a + bs.length)))
  let s := (softWrite s c 0 a bs.length).setProg c (memWrite (s.prog c) a bs)
  { s with frw := { s.frw with badProg := setNth s.frw.badProg c b } }

/-- Write bytes to core `c`'s data memory. -/
def dataWrite (s : State) (c a : Nat) (bs : List Nat) : State :=
  let b := (nth s.frw.badData c []).filter (fun w => !(decide (a ≤ w) && decide (w + 8 ≤ a + bs.length)))
  let s := (softWrite s c 1 a bs.length).setData c (memWrite (s.data c) a bs)
  { s with frw := { s.frw with badData := setNth s.frw.badData c b } }

/-- Write bytes to the Common. -/
def commonWrite (s : State) (a : Nat) (bs : List Nat) : State :=
  let b := s.frw.badCommon.filter (fun w => !(decide (a ≤ w) && decide (w + 8 ≤ a + bs.length)))
  let s := softWrite s 0 2 a bs.length
  { s with frw := { s.frw with common := memWrite s.frw.common a bs, badCommon := b } }

/-- The memories of the core domain are lost (R114): F0 to F3 and the Common. -/
def coreMemLost (s : State) : State :=
  let s := forEach (upto 4) (fun s c => (s.setProg c []).setData c []) s
  let bp := (upto 4).map (fun _ => []) ++ s.frw.badProg.drop 4
  let bd := (upto 4).map (fun _ => []) ++ s.frw.badData.drop 4
  { s with frw := { s.frw with common := [], badCommon := [], badProg := bp, badData := bd, soft := s.frw.soft.filter (fun e => e.1 != 2 && decide (4 ≤ e.2.1)) } }

end Sys2Proof.Machine
end

