-- ==== Sys2Proof/Machine/SafOps.lean ====
section
/-! DEFINITION. What the safety function shares with every unit that reports to it (ch. 20): entering a state, counting a
diagnostic's event, latching, tripping, disarming, and the safety PDU. -/

namespace Sys2Proof.Machine

/-! ## Entering a state (R118, R149, R150) -/

/-- The WDO runs (R46). -/
def wdoRuns (s : State) : Bool :=
  s.awake || s.pwr.start.isSome || ((decide (s.pstate = SENTRY) || s.pwr.offResp) && decide (s.clk.phase ≠ .run))

/-- CLK_STAT.WDO_ON shows whether the WDO runs (R46). -/
def wdoFollow (s : State) : State := s.mark F.CLK_STAT_WDO_ON (wdoRuns s)

/-- A duration in HSCK cycles in units of 10 µs, rounded down; 0 with no class committed. -/
def tenMicros (s : State) (cycles : Nat) : Nat := cycles * 100000 / s.fH

/-- The device enters state `st` with cause `cause`: STATE, CAUSE and the transition's fields, the count of entries, its
duration, source 3. Units that run in some states only follow. -/
def enterState (s : State) (st cause : Nat) : State :=
  let last := Nat.min 65535 (tenMicros s (s.time.hsck - s.time.transAt))
  let s := { s with pwr := { s.pwr with trans := none } }
  let s := ((s.put F.PWR_STATE_STATE st).mark F.PWR_STATE_TRANS false).put F.PWR_STATE_TARGET 0
  let s := (s.put F.PWR_STATE_CAUSE cause).put F.PWR_BOOTT_LAST last
  let s := (s.bump64 A.PWR_TRANS_LO 1).event 3
  let s := if st = TRIPPED then s else s.mark F.SAF_ST_TRIPPED false
  wdoFollow (sadFollow s)

/-- A transition that begins and ends at one edge, as a trip is, lasts no time (R150). -/
def State.instantly (s : State) : State := { s with time := { s.time with transAt := s.time.hsck } }

/-! ## FAULT# and the latch (R689, R698) -/

/-- Assert or release FAULT#. -/
def faultPin (s : State) (b : Bool) : State := s.mark F.SAF_ST_FAULTN b

/-- The window W in ms and threshold T of diagnostic `i` (R699); no window where T is 1. -/
def diagW (i : Nat) : Nat := if i = 23 then 10 else 1000
def diagT (i : Nat) : Nat :=
  if i = 12 ∨ i = 19 ∨ i = 23 then 4 else if i = 13 ∨ i = 22 then 3 else if i = 20 then 2 else 1

/-- Diagnostics marked H: the output stage acts without the Scarecrow (R687, R699). -/
def diagH (i : Nat) : Bool := decide (i < 5)

/-- The outputs go static low: the run permit clears (R685, R687). -/
def permitClear (s : State) : State :=
  let s := { s with saf := { s.saf with permit := false } }
  s.put F.SAF_ST_OUT 0

/-- A log entry (R726). -/
def safLog (s : State) (i : Nat) (lasting : Bool) (count : Nat) : State :=
  let p := (s.get F.SAF_LOGPTR_PTR + 1) % 32
  let w := i % 32 + 2 ^ 8 * b2n lasting + 2 ^ 16 * Nat.min 255 count
  let s := (s.wr (A.SAF_LOGj_LO p) (BitVec.ofNat 32 w)).wr (A.SAF_LOGj_HI p) (s.rd A.SYS_UPTIME_LO)
  s.put F.SAF_LOGPTR_PTR p

/-- A stop decision is logged (R690, R692): an entry whose first word the spec does not give, a free value (log 80). -/
def stopLog (s : State) : State :=
  let p := (s.get F.SAF_LOGPTR_PTR + 1) % 32
  let v := s.fresh (2 ^ 32)
  let s := (v.2.wr (A.SAF_LOGj_LO p) (BitVec.ofNat 32 v.1)).wr (A.SAF_LOGj_HI p) (v.2.rd A.SYS_UPTIME_LO)
  s.put F.SAF_LOGPTR_PTR p

/-- A bounded count of failed acknowledgement sequences, and the sequence's end with an error (R707). -/
def ackFail (s : State) (err : Nat) : State :=
  let s := { s with saf := { s.saf with ackReq := false } }
  (((s.put F.SAF_ACK_STEP 0).put F.SAF_ACK_ERR err).incSat F.SAF_ACKFAIL_COUNT).event 118

/-- A sequence is in progress. -/
def ackRunning (s : State) : Bool := s.saf.ackReq || s.get F.SAF_ACK_STEP == 2

/-- The safety function stops being armed: the permit, ARMED and REQ clear, notice 113 rises (R697). -/
def disarmCore (s : State) : State :=
  let s := permitClear s
  let s := ((s.mark F.SAF_ST_ARMED false).mark F.PWR_STATE_ARMED false).mark F.SAF_ARM_REQ false
  { s with saf := { s.saf with arming := false } }

/-- Disarm (R697): with its notice where it was armed or arming. -/
def disarm (s : State) : State :=
  if s.armed || s.saf.arming || s.flag F.SAF_ARM_REQ then (disarmCore s).event 113 else s

/-- The Scarecrow refuses to arm, or its arming ends (R696, R718). -/
def armRefuse (s : State) (step reason : Nat) : State :=
  let s := disarmCore s
  (((s.put F.SAF_ARMST_RESULT 3).put F.SAF_ARMST_STEP step).put F.SAF_ARMST_REASON reason).event 113

/-- An enrolment ends with an error: 3 TIMEOUT, 4 ABORTED (R279, R286). -/
def enrEnd (s : State) (err : Nat) : State :=
  if s.drl.enr.isSome then
    let s := { s with drl := { s.drl with enr := none } }
    ((s.put F.DRL_ENR_ST_STATE 5).put F.DRL_ENR_ST_ERR err).event 45
  else s

/-- The cause of a trip in force is replaced by one that ranks before it. -/
def causeReplace (s : State) (cause pcause : Nat) : State :=
  let s := s.put F.SAF_ST_CAUSE cause
  match s.pwr.trans with
  | some t => if t.target = TRIPPED then { s with pwr := { s.pwr with trans := some { t with cause := pcause } } } else s
  | none => if s.pstate = TRIPPED then s.put F.PWR_STATE_CAUSE pcause else s

/-- A further cause at the HSCK edge of the trip (R693): CAUSE records the first in the order own stop, partner stop, lasting
fault, loss of HSCK. -/
def tripAgain (s : State) (cause pcause : Nat) : State :=
  if s.saf.tripAt = some s.time.hsck ∧ s.flag F.SAF_ST_TRIPPED ∧ cause < s.get F.SAF_ST_CAUSE then causeReplace s cause pcause else s

/-- A trip (R693, R697): cause of SAF_ST, cause of PWR_STATE. A trip in a transition between WATCH and RECORD ends it
(R147); where RECORD was on its way recording starts as if no trip had occurred (R30, R115). An enrolment ends as WATCH is
left (R286). Only an armed device trips; in TRIPPED the cause is latched and logged. -/
def trip (s : State) (cause pcause : Nat) : State :=
  if s.armed then
    let s := (disarmCore s).event 113
    let s := { s with saf := { s.saf with tripAt := some s.time.hsck } }
    let s := (s.mark F.SAF_ST_TRIPPED true).put F.SAF_ST_CAUSE cause
    let s := (s.bump64 A.SAF_TRIPS_LO 1).event 115
    match s.pwr.trans with
    | some t =>
      if t.target = WATCH then
        let s := { s with pwr := { s.pwr with trans := some { t with target := TRIPPED, cause := pcause } } }
        s.put F.PWR_STATE_TARGET TRIPPED
      else unloadBegin (enterState ((enrEnd s 4).instantly.mark F.PWR_STATE_REC true) TRIPPED pcause)
    | none => enterState ((enrEnd s 4).instantly.mark F.PWR_STATE_REC (decide (s.pstate = RECORD))) TRIPPED pcause
  else tripAgain s cause pcause

/-- A lasting fault of diagnostic `i` (R698): latched, FAULT# asserted, notice 117; H acts at once; an armed device trips,
for a loss of HSCK once it has returned, its outputs held until then (R55, R685). Arming in progress fails (R723), and the
2 s of R707 start again in TRIPPED (R719). -/
def lasting (s : State) (i : Nat) : State :=
  let s := (s.putBit F.SAF_LATCH_BITS i true).mark (F.SAF_DIAGi_LASTING i) true
  let s := (faultPin s true).event 117
  let s := if ackRunning s then ackFail s 1 else s
  let dynamic := s.saf.permit
  let s := if diagH i && s.saf.permit then permitClear s else s
  let s := if i = 0 ∧ dynamic then s.put F.SAF_ST_OUT 2 else s
  let s := if s.pstate = TRIPPED then { s with saf := { s.saf with stopAt := some s.time.ms } } else s
  if s.saf.arming then armRefuse s 1 2 else if i = 0 then s else trip s 3 5

/-- An event of diagnostic `i` that came at `now` is counted in its window (R698): transient below the threshold `t`, lasting
at it. -/
def diagCount (s : State) (i t now : Nat) : State :=
  if s.pstate = OFF then s
  else
    let old := (nth s.saf.win i []).filter (fun x => decide (now < x + diagW i))
    let times := if t = 1 then [now] else (now :: old).take 255
    let last := setNth s.saf.lastEvent i (some now)
    let proved := s.saf.proved.filter (fun k => decide (k ≠ i))
    let s := { s with saf := { s.saf with win := setNth s.saf.win i times, lastEvent := last, proved := proved } }
    let s := (s.put (F.SAF_DIAGi_WCOUNT i) times.length).incSat (F.SAF_DIAGi_TOTAL i)
    let is := decide (t ≤ times.length)
    let s := safLog s i is times.length
    if is then lasting s i else (s.bump64 A.SAF_TRANS_LO 1).event 116

/-- An event of diagnostic `i` with threshold `t`: one marked H is urgent and counted at once, any other waits on its line
for the Scarecrow's next cycle (R682, R687). -/
def diagEventT (s : State) (i t : Nat) : State :=
  if diagH i then diagCount s i t s.time.ms
  else s.safLine i t

/-- The Scarecrow takes every event that has arrived on its lines (R682 step 1). -/
def linesTake (s : State) : State :=
  forEach s.saf.lines (fun s e => diagCount s e.1 e.2.1 e.2.2) { s with saf := { s.saf with lines := [] } }

/-- An event of diagnostic `i` at its own threshold. -/
def diagEvent (s : State) (i : Nat) : State := diagEventT s i (diagT i)

/-- A task of F0 to F3 is one that the safety function depends on (R726, SAF_DEP). -/
def depends (s : State) (c t : Nat) : Bool := bit (s.pair A.SAF_DEP_LO) (16 * c + t)

/-- A core's FAULT is an event of diagnostic 13 where a task of SAF_DEP is its own (R699): T is 1. -/
def faultDepend (s : State) (c : Nat) : State :=
  if c < 4 ∧ (upto 16).any (depends s c) then diagEventT s 13 1 else s

/-- The Scarecrow pair is reset and held until its restart (R708). -/
def scareHold (s : State) : State := if s.frw.scState = 0 then s else coreStop s 5 C_HALT

/-- An uncorrectable word of the Scarecrow's memories (diagnostic 4, R708). -/
def scareEcc (s : State) : State := scareHold (diagEvent s 4)

/-- Core `c` enters FAULT with a cause (R361, R466): its jobs stop, source 11 rises. -/
def coreFault (s : State) (c code : Nat) : State :=
  let s := coreStop s c C_FAULT
  let s := if c < 4 then s.put (F.FRW_COREc_ST_CAUSE c) code else s
  if c = SCARE then diagEvent s 3 else faultDepend (s.event 11) c

/-- A budget fault of task `t` of core `c` (R360). -/
def budgetFault (s : State) (c t : Nat) : State :=
  let s := ((s.incSat (F.FRW_Tc_t_ST_OVR c t)).incSat (F.FRW_COREc_BUD_COUNT c)).put (F.FRW_COREc_BUD_LAST c) t
  let s := s.event 10
  if depends s c t then diagEvent s 13 else s

/-! ## The safety PDU (R659) -/

/-- The State byte of a PDU: armed, TRIPPED, healthy, FRESH (R659, R710, R711). -/
def pduState (s : State) : Nat :=
  b2n s.armed + 2 * b2n (decide (s.pstate = TRIPPED)) + 4 * b2n (s.get F.SAF_LATCH_BITS == 0) +
  8 * b2n (decide (s.time.ms < s.saf.progAt + 100))

/-- Form a PDU: kind, and for a stop its slot, input and score. -/
def pduForm (s : State) (kind slot inp score : Nat) : List Nat :=
  let b := [s.devid, kind, pduState s, 0] ++ bytesOfLe 4 s.saf.ssEq ++ bytesOfLe 2 (s.get F.FRW_ADM_SAFE_TDEC) ++
    [slot % 256, inp % 256] ++ bytesOfLe 2 score ++ [0, 0]
  b ++ bytesOfLe 4 (crc32c b)

/-- Send a PDU as a broadcast on SAFE: the sequence counter advances. -/
def pduSend (s : State) (typ kind slot inp score : Nat) : State :=
  let b := pduForm s kind slot inp score
  let s := { s with saf := { s.saf with ssEq := (s.saf.ssEq + 1) % 2 ^ 32 } }
  hgBroadcast s VC_SAFE typ 0 b

/-- A confirmed own stop (R690): the permit clears, TRIPPED latches, SAFE-STOP goes out, the decision is logged, notice 114.
During arming the arming ends instead, and the decision is logged (R718). -/
def stopConfirm (s : State) (slot inp score : Nat) : State :=
  let s := stopLog { s with saf := { s.saf with decision := none, stopAt := some s.time.ms } }
  let s := if ackRunning s then ackFail s 2 else s
  if s.saf.arming then armRefuse s 0 6
  else
    let s := (permitClear s).event 114
    let s := pduSend s T_SAFE_STOP 2 slot inp score
    trip s 1 4

/-- A stop decision reaches the Scarecrow (R690): from a slot outside its table it is also an event of diagnostic 8.
While the Scarecrow does not run the decision waits for the confirmation timer (R691). -/
def stopTake (s : State) (slot inp score : Nat) : State :=
  if coreState s SCARE ≠ C_RUN then { s with saf := { s.saf with decision := some (slot, inp, score) } }
  else if s.armed || s.saf.arming || decide (s.pstate = TRIPPED) then
    let s := if s.saf.table.contains slot then s else diagCount s 8 1 s.time.ms
    stopConfirm s slot inp score
  else s

end Sys2Proof.Machine
end

