-- ==== Sys2Proof/Machine/MonOps.lean ====
section
/-! DEFINITION. What the monitors and voltage loops share with the power states (ch. 17): the PMBus queue, the setpoints,
the freezes. The rows of ch. 17 stand in Monitor.lean. -/

namespace Sys2Proof.Machine

/-- The two loops: VDDS and VDDC. -/
abbrev L_SENT : Nat := 0
abbrev L_CORE : Nat := 1

abbrev PMB_OPERATION : Nat := 0x01
abbrev PMB_VOUT : Nat := 0x21
abbrev PMB_STATUS : Nat := 0x79

/-- The device issues nothing before multiplier lock, and in class 1 nothing to the VDDC regulator (R123, R593). -/
def pmbReady (s : State) (sent : Bool) : Bool :=
  (decide (s.pstate ≠ OFF) || s.flag F.CLK_STAT_LOCK) && (sent || decide (2 ≤ s.clk.cls))

/-- A transaction joins those waiting for the bus. -/
def pmbQueue (s : State) (sent : Bool) (cmd data : Nat) : State :=
  if pmbReady s sent then { s with mon := { s.mon with bus := s.mon.bus ++ [⟨sent, cmd, data, 0⟩] } } else s

/-- The data of a VOUT_COMMAND for a setpoint in mV: round(V × 2^(−VEXP)) (R593). -/
def voutData (s : State) (mv : Nat) : Nat :=
  let e := s.getI F.MON_PMB_VEXP
  if e ≤ 0 then (2 * mv * 2 ^ e.natAbs + 1000) / 2000 % 65536 else (2 * mv + 1000 * 2 ^ e.natAbs) / (2000 * 2 ^ e.natAbs) % 65536

def vsetField (l : Nat) : Fld := if l = L_SENT then F.MON_SAVS_ST_VSET else F.MON_CAVS_ST_VSET
def vminField (l : Nat) : Fld := if l = L_SENT then F.MON_SAVS_CFG_VMIN else F.MON_CAVS_CFG_VMIN
def vmaxField (l : Nat) : Fld := if l = L_SENT then F.MON_SAVS_CFG_VMAX else F.MON_CAVS_CFG_VMAX

/-- A value brought into a loop's limits. -/
def vClamp (s : State) (l mv : Nat) : Nat := Nat.max (s.get (vminField l)) (Nat.min (s.get (vmaxField l)) mv)

/-- A setpoint replaced at HSCK cycle `at_` still counts: SETTLE has not elapsed since (R590, R604). -/
def settles (s : State) (at_ : Nat) : Bool := decide (s.time.hsck < at_ + ceilDiv (s.get F.MON_CAVS_STEP_SETTLE * s.fH) 1000)

/-- A loop commands a setpoint: VSET, a VOUT_COMMAND, and for the core loop SETTLE ms without evaluation (R595, R596). -/
def voltSet (s : State) (l mv : Nat) : State :=
  let prev := setNth s.mon.prev l ((nth s.mon.prev l []).filter (fun e => settles s e.2) ++ [(s.get (vsetField l), s.time.hsck)])
  let s := { s with mon := { s.mon with prev := prev, skip := if l = L_CORE then s.get F.MON_CAVS_STEP_SETTLE else s.mon.skip } }
  pmbQueue (s.put (vsetField l) mv) (decide (l = L_SENT)) PMB_VOUT (voutData s mv)

/-- The monitors run: in WATCH, RECORD, TRIPPED and SERVICE, and during start-up once the multiplier has locked. -/
def monRuns (s : State) : Bool := s.awake || (s.pwr.start.isSome && s.flag F.CLK_STAT_LOCK)

/-- A count of ring `m` is out of its range, or the ring is dead (R592). -/
def ringBad (s : State) (m n : Nat) : Bool :=
  n == 0 || decide (n < 16 * s.get (F.MON_PMLIMm_LO m)) || decide (16 * s.get (F.MON_PMLIMm_HI m) < n)

/-- PM0 to PM7 are all dead (R607). -/
def ringsDead (s : State) : Bool := (upto 8).all (fun m => s.get (F.MON_PMm_COUNT m) == 0)

/-- A clock plan's hold, or HSCK absent (R599). -/
def clockHeld (s : State) : Bool := !s.clk.present || decide (s.clk.phase ≠ .run)

/-- A loop's rail is out: VDDS, or VDDC or VDDCF (R599). -/
def railOut (s : State) (l : Nat) : Bool :=
  if l = L_SENT then s.bitOf F.MON_ST_VOUT 0 else s.bitOf F.MON_ST_VOUT 1 || s.bitOf F.MON_ST_VOUT 2

/-- A loop is frozen by a PMBus failure or by an out rail (R599). -/
def frozenHard (s : State) (l : Nat) : Bool := nth s.mon.frz l false || railOut s l

/-- A loop is frozen (R599). -/
def frozen (s : State) (l : Nat) : Bool :=
  frozenHard s l || clockHeld s ||
  (if l = L_SENT then s.flag F.MON_SAVS_CFG_FREEZE
   else s.flag F.MON_CAVS_CFG_FREEZE || s.flag F.MON_CAVS_CFG_MAN || !monRuns s || ringsDead s)

/-- A loop's freeze is shown, with the time at which it began. -/
def freezeShow (s : State) (l : Nat) (f : Fld) : State :=
  let now := frozen s l
  if now == s.flag f then s
  else
    let at_ := setNth s.mon.frzAt l (if now then some s.time.ms else none)
    ({ s with mon := { s.mon with frzAt := at_ } }).mark f now

/-- MON_ST.SFRZ, CFRZ and source 94 follow the freezes. -/
def monFollow (s : State) : State :=
  let s := freezeShow (freezeShow s L_SENT F.MON_ST_SFRZ) L_CORE F.MON_ST_CFRZ
  s.level 94 (frozenHard s L_SENT || frozenHard s L_CORE)

/-- The core loop's target count at a lock: ceil(f_C × KRO / (4096 × 6000)) (R596). -/
def coreTarget (s : State) : State := s.put F.MON_CAVS_TGT_TGT (ceilDiv (s.fC * Config.trimKro.toNat) 24576000)

/-- SENTRY entry: the loop stores its setpoint, and with COFF = 1 the VDDC regulator goes off (R593, R597). The monitors
stop; readings keep their registers. -/
def monSentry (s : State) : State :=
  let s := { s with mon := { s.mon with stored := some (s.get F.MON_CAVS_ST_VSET, s.fC) } }
  let s := if s.flag F.MON_PMB_COFF then pmbQueue s false PMB_OPERATION 0x00 else s
  monFollow s

/-- SENTRY exit: OPERATION 0x80, then the stored setpoint if f_C is unchanged, or VMAX (R597). `fc` is the f_C of the
lock to come. -/
def monWake (s : State) (fc : Nat) : State :=
  let s := pmbQueue s false PMB_OPERATION 0x80
  match s.mon.stored with
  | some (v, f) => voltSet { s with mon := { s.mon with stored := none } } L_CORE (if f = fc then vClamp s L_CORE v else s.get F.MON_CAVS_CFG_VMAX)
  | none => s

/-- The device leaves SERVICE: MAN clears and the loop resumes from the manual value (R598). -/
def manClear (s : State) : State := if s.flag F.MON_CAVS_CFG_MAN then monFollow (s.mark F.MON_CAVS_CFG_MAN false) else s

/-- A write of MON_SAVS_CFG or MON_CAVS_CFG excludes the setpoint of a loop frozen by FREEZE or MAN: the nearest limit is
commanded at once (R605). -/
def limitNow (s : State) (l : Nat) : State :=
  let v := s.get (vsetField l)
  let held := if l = L_SENT then s.flag F.MON_SAVS_CFG_FREEZE else s.flag F.MON_CAVS_CFG_FREEZE || s.flag F.MON_CAVS_CFG_MAN
  if held && decide (vClamp s l v ≠ v) then voltSet s l (vClamp s l v) else s

end Sys2Proof.Machine
end

