-- ==== Sys2Proof/Machine/AdcOps.lean ====
section
/-! DEFINITION. The supervisory ADC (ch. 16): what a slot boundary chooses, what a result does. The rows that end and
request conversions stand in Adc.lean. -/

namespace Sys2Proof.Machine

def State.adcx (s : State) (x : Nat) : AdcConv := nth s.adc.x x AdcConv.reset
def State.setAdc (s : State) (x : Nat) (c : AdcConv) : State := { s with adc := { s.adc with x := setNth s.adc.x x c } }

/-- The converters have their clock: outside OFF and SENTRY, and in start-up and exits from SENTRY after lock (R549). -/
def adcRuns (s : State) : Bool := s.coreRuns && (s.awake || s.pwr.start.isSome || s.pwr.trans.isSome)

/-- The reference in force. -/
def adcRef (s : State) : Nat := s.get F.ADC_REF_SEL

/-- A valid self-calibration set exists for the reference in force. -/
def adcCalibrated (s : State) : Bool := s.bitOf F.ADC_CAL_SOK (adcRef s)

/-- Scans, pairs and window conversions may start (R549, R564, R567, R568). -/
def adcScans (s : State) : Bool := s.awake && s.flag F.ADC_REF_REFOK && adcCalibrated s && !s.adc.self

/-! ## Correction (R565) -/

/-- u, in 1/16 LSB, with the factors of converter `x` for the reference in force, or identity. -/
def adcU (s : State) (x raw : Nat) (identity : Bool) : Int :=
  let r := adcRef s
  let soff := if identity then 0 else s.getI (F.ADC_x_SCALr_SOFF x r)
  let sgain : Int := if identity then 0x4000 else (s.get (F.ADC_x_SCALr_SGAIN x r) : Nat)
  floorDiv ((16 * (raw : Nat) - soff) * sgain) (2 ^ 14)

/-- The corrected value of entry `e` from u. -/
def adcC (s : State) (x e : Nat) (u : Int) : Nat :=
  let w := (u - s.getI (F.ADC_x_ENTe_YOFF_YOFF x e)) * ((s.get (F.ADC_x_ENTe_YGAIN_YGAIN x e) : Nat) : Int)
  (clampI 0 4095 (floorDiv (w + 2 ^ 17) (2 ^ 18))).toNat

/-! ## Ledgers (R571, R572) -/

/-- A value enters a ledger. -/
def ledgerAdd (s : State) (x e c : Nat) : State :=
  let n := s.get (F.ADC_x_ENTe_LCNT_COUNT x e)
  if n = 0xFFFFF then s.incSat (F.ADC_x_ENTe_CFG_LSKIP x e)
  else
    let s := s.put (F.ADC_x_ENTe_LSUM_SUM x e) (s.get (F.ADC_x_ENTe_LSUM_SUM x e) + c)
    let s := s.put (F.ADC_x_ENTe_LCNT_COUNT x e) (n + 1)
    let s := s.put (F.ADC_x_ENTe_LMM_MIN x e) (Nat.min (s.get (F.ADC_x_ENTe_LMM_MIN x e)) c)
    let s := s.put (F.ADC_x_ENTe_LMM_MAX x e) (Nat.max (s.get (F.ADC_x_ENTe_LMM_MAX x e)) c)
    if n + 1 = 0xFFFFF then s.event 84 else s

/-- A ledger moves into its take registers and empties. -/
def ledgerTake (s : State) (x e : Nat) : State :=
  let s := s.put (F.ADC_x_ENTe_TSUM_SUM x e) (s.get (F.ADC_x_ENTe_LSUM_SUM x e))
  let s := s.put (F.ADC_x_ENTe_TCNT_COUNT x e) (s.get (F.ADC_x_ENTe_LCNT_COUNT x e))
  let s := s.put (F.ADC_x_ENTe_TMM_MIN x e) (s.get (F.ADC_x_ENTe_LMM_MIN x e))
  let s := s.put (F.ADC_x_ENTe_TMM_MAX x e) (s.get (F.ADC_x_ENTe_LMM_MAX x e))
  let s := s.put (F.ADC_x_ENTe_TSKIP_SKIP x e) (s.get (F.ADC_x_ENTe_CFG_LSKIP x e))
  let s := (s.put (F.ADC_x_ENTe_LSUM_SUM x e) 0).put (F.ADC_x_ENTe_LCNT_COUNT x e) 0
  let s := (s.put (F.ADC_x_ENTe_LMM_MIN x e) 0xFFF).put (F.ADC_x_ENTe_LMM_MAX x e) 0
  s.put (F.ADC_x_ENTe_CFG_LSKIP x e) 0

/-- The takes that wait for a slot boundary act. -/
def ledgersTake (s : State) (x : Nat) : State :=
  let es := (s.adcx x).take
  forEach es (fun s e => ledgerTake s x e) (s.setAdc x { s.adcx x with take := [] })

/-! ## Tagged queues (R573, R574) -/

/-- OCC and the non-empty source follow the queue. -/
def adcQueueShow (s : State) (x : Nat) : State :=
  (s.put (F.ADC_x_QST_OCC x) (s.adcx x).q.length).level (74 + x) (!(s.adcx x).q.isEmpty)

/-- An entry enters the tagged queue, or is dropped. -/
def adcQueueAdd (s : State) (x w0 w1 : Nat) : State :=
  let c := s.adcx x
  if c.q.length < 64 then adcQueueShow (s.setAdc x { c with q := c.q ++ [(w0, w1)] }) x
  else (s.incSat (F.ADC_x_QST_QOVF x)).event (76 + x)

/-- The `n` oldest entries are popped. -/
def adcQueuePop (s : State) (x n : Nat) : State :=
  let c := s.adcx x
  adcQueueShow (s.setAdc x { c with q := c.q.drop n }) x

/-! ## Window comparator (R554) -/

/-- A corrected value of the WENT entry. An event starts a scan in mode 3. -/
def adcWindow (s : State) (x c : Nat) : State :=
  let inside := decide (s.get (F.ADC_x_WIN_LO x) ≤ c) && decide (c ≤ s.get (F.ADC_x_WIN_HI x))
  let k := s.adcx x
  let was := s.flag (F.ADC_x_STAT_WIN x)
  if k.wfresh then (s.setAdc x { k with wfresh := false, wrun := 0 }).mark (F.ADC_x_STAT_WIN x) inside
  else if inside == was then s.setAdc x { k with wrun := 0 }
  else if k.wrun + 1 < s.get (F.ADC_x_CTL_WCNT x) then s.setAdc x { k with wrun := k.wrun + 1 }
  else
    let ev := bit (s.get (F.ADC_x_CTL_WDIR x)) (if inside then 1 else 0)
    let s := (s.setAdc x { k with wrun := 0, start := k.start || (ev && k.mode == 3) }).mark (F.ADC_x_STAT_WIN x) inside
    if ev then s.event (78 + x) else s

/-- The comparator resets: a write of WIN or CTL, a start of the converter, a SENTRY exit (R554, R584). -/
def adcWindowReset (s : State) (x : Nat) : State := s.setAdc x { s.adcx x with wfresh := true, wrun := 0 }

/-! ## Starting and aborting -/

/-- A conversion begins its slot. -/
def adcBegin (s : State) (x : Nat) (k : ConvKind) (e : Nat) : State :=
  let s := s.setAdc x { s.adcx x with conv := some (k, e, s.flag F.ADC_REF_REFOK, s.time.us % 2 ^ 24) }
  let s := (s.mark (F.ADC_x_STAT_RUN x) true).put (F.ADC_x_STAT_ENT x) e
  s.mark (F.ADC_x_STAT_URGB x) (decide (k = .urgent))

/-- A pair that loses a half is not compared (R561). -/
def pairLose (s : State) : State :=
  if s.adc.pair then ({ s with adc := { s.adc with pair := false, halfA := none, halfB := none } }).incSat F.ADC_PLOST_COUNT else s

/-- The running conversion is aborted: discarded and counted (R557, R564, R575). -/
def adcAbort (s : State) (x : Nat) : State :=
  match (s.adcx x).conv with
  | none => s
  | some (k, _) =>
    let s := s.setAdc x { s.adcx x with conv := none }
    let s := (s.mark (F.ADC_x_STAT_RUN x) false).mark (F.ADC_x_STAT_URGB x) false
    let s := s.bump64 (A.ADC_x_DISC_LO x) 1
    if k = .pair then pairLose s else s

/-- A scan ends: SCANS, source 72 or 73, and a pending trigger starts the next (R552, R553). -/
def scanEnd (s : State) (x : Nat) : State :=
  let t := s.flag (F.ADC_x_STAT_TPEND x)
  let k := s.adcx x
  let s := (s.setAdc x { k with scan := none, start := k.start || t }).mark (F.ADC_x_STAT_TPEND x) false
  (s.bump64 (A.ADC_x_SCANS_LO x) 1).event (72 + x)

/-- ADC-A stands at entry 8 of its scan, to be converted as a pair (R559). -/
def pairDue (s : State) : Bool :=
  s.flag F.ADC_PLAUS_EN && (match (s.adcx 0).scan with | some (8 :: _) => true | _ => false)

/-- Both halves of a pair begin. -/
def pairBegin (s : State) : State :=
  let s := s.mark (F.ADC_x_STAT_WAITP 0) false
  let s := { s with adc := { s.adc with pair := true, halfA := none, halfB := none } }
  adcBegin (adcBegin s 0 .pair 8) 1 .pair 8

/-- The entries that a scan starting now latches (R552, R559). -/
def scanMask (s : State) (x : Nat) : List Nat :=
  (ones 16 (s.get (F.ADC_x_MASK_MASK x))).filter (fun e => !(x == 1 && e == 8 && s.flag F.ADC_PLAUS_EN))

/-- The next entry of the running scan. -/
def scanNext (s : State) (x : Nat) : State :=
  match (s.adcx x).scan with
  | some (e :: _) =>
    if x = 0 ∧ pairDue s then
      if (s.adcx 1).conv.isNone then pairBegin s else s.mark (F.ADC_x_STAT_WAITP 0) true
    else adcBegin s x .scan e
  | _ => s

/-- Does the mode in force start a scan at this boundary (R551). -/
def scanDue (s : State) (x : Nat) : Bool :=
  let k := s.adcx x
  k.mode == 1 || (k.mode ≠ 0 && k.start)

/-- A scan starts. With an empty mask it completes at once, without a conversion. -/
def scanBegin (s : State) (x : Nat) : State :=
  let m := scanMask s x
  let s := s.setAdc x { s.adcx x with scan := some m, start := false }
  if m.isEmpty then scanEnd s x else scanNext s x

/-- The converter chooses at a slot boundary at which no conversion runs (R555). -/
def adcChoose (s : State) (x : Nat) : State :=
  let s := ledgersTake s x
  let k := s.adcx x
  let s := if k.scan.isNone then s.setAdc x { k with mode := s.get (F.ADC_x_CTL_MODE x) } else s
  let k := s.adcx x
  let ref := s.flag F.ADC_REF_REFOK
  match k.urg with
  | some e => adcBegin s x .urgent e
  | none =>
    if s.adc.self then (if ref ∧ k.calN < 2048 then adcBegin s x .cal 0 else s)
    else
      match k.sys with
      | some (_, e, _, _) => if ref then adcBegin s x .sys e else s
      | none =>
        if !adcScans s then s
        else if x = 1 ∧ s.flag (F.ADC_x_STAT_WAITP 0) ∧ (s.adcx 0).conv.isNone then pairBegin s
        else if k.scan.isSome then scanNext s x
        else
          let s := if scanDue s x then scanBegin s x else s
          if (s.adcx x).conv.isNone ∧ (s.adcx x).scan.isNone ∧ k.mode = 3 then
            adcBegin s x .window (s.get (F.ADC_x_CTL_WENT x))
          else s

/-- An idle converter's boundary falls where something becomes pending (R555). -/
def adcKick (s : State) (x : Nat) : State :=
  if adcRuns s && (s.adcx x).conv.isNone then adcChoose s x else s

def adcKicks (s : State) : State := adcKick (adcKick s 0) 1

/-! ## Results -/

/-- The destinations of a result (R570, R573); `win` is the comparator's state where the entry is WENT. -/
def adcDeliver (s : State) (x : Nat) (k : ConvKind) (e raw c tick : Nat) : State :=
  let s := if s.flag (F.ADC_x_ENTe_CFG_LED x e) then ledgerAdd s x e c else s
  if s.flag (F.ADC_x_ENTe_CFG_QUE x e) then
    let win := decide (e = s.get (F.ADC_x_CTL_WENT x)) && s.flag (F.ADC_x_STAT_WIN x)
    let w0 := c + 2 ^ 12 * e + 2 ^ 16 * raw + 2 ^ 28 * b2n win + 2 ^ 29 * b2n (decide (k = .pair))
    let n := s.pair (A.ADC_x_SCANS_LO x)
    if k = .window ∧ n = 0 then
      let f := s.fresh 256
      adcQueueAdd f.2 x w0 (tick + 2 ^ 24 * f.1)
    else adcQueueAdd s x w0 (tick + 2 ^ 24 * ((if k = .window then n - 1 else n) % 256))
  else s

/-- A half of a pair has its corrected value; with both the pair is compared (R560). -/
def pairHalf (s : State) (x c : Nat) : State :=
  if s.adc.pair then
    let s := if x = 0 then { s with adc := { s.adc with halfA := some (c : Int) } } else { s with adc := { s.adc with halfB := some (c : Int) } }
    match s.adc.halfA, s.adc.halfB with
    | some a, some b =>
      let s := { s with adc := { s.adc with pair := false, halfA := none, halfB := none } }
      let s := (s.bump64 A.ADC_PAIR_LO 1).putI F.ADC_PLAUS_LASTDIFF (a - b)
      if s.get F.ADC_PLAUS_MISLIM < (a - b).natAbs then
        let s := (s.bump64 A.ADC_MIS_LO 1).event 80
        diagEventT s 19 (if s.flag F.SAF_ARM_AINS_EN then 4 else 256)
      else s
    | _, _ => s
  else s

/-- The mean of `n` sums of a quantity, rounded. -/
def meanRound (sum : Int) (n : Nat) : Int := floorDiv (2 * sum + (n : Int)) (2 * (n : Int))

/-- The self-calibration factors from the sums of the two points (R566): SOFF and SGAIN, where they are valid. -/
def selfFactors (sum0 sum1 : Int) : Option (Int × Nat) :=
  let m0 := meanRound (16 * sum0) 1024
  let m1 := meanRound (16 * sum1) 1024
  if m1 ≤ m0 then none
  else
    let g := (meanRound (2 ^ 14 * 49152) (m1 - m0).toNat).toNat
    if m0.natAbs ≤ 1024 ∧ 0x3800 ≤ g ∧ g ≤ 0x4800 then some (m0, g) else none

/-- Both converters have completed their 2048 conversions: the factors are stored, or rejected (R566). The second result
says whether they were valid. -/
def selfEnd (s : State) : State × Bool :=
  let r := adcRef s
  let a := s.adcx 0
  let b := s.adcx 1
  let s := { s with adc := { s.adc with self := false } }
  let s := ((s.mark F.ADC_CAL_BUSY false).mark F.ADC_CAL_DONE true).event 82
  match selfFactors a.cal0 a.cal1, selfFactors b.cal0 b.cal1 with
  | some f, some g =>
    let s := (s.putI (F.ADC_x_SCALr_SOFF 0 r) f.1).put (F.ADC_x_SCALr_SGAIN 0 r) f.2
    let s := (s.putI (F.ADC_x_SCALr_SOFF 1 r) g.1).put (F.ADC_x_SCALr_SGAIN 1 r) g.2
    (s.putBit F.ADC_CAL_SOK r true, true)
  | _, _ => (s.put F.ADC_CAL_ERR 2, false)

/-- Self-calibration starts on both converters (R566); the conversion in progress completes first. -/
def selfStart (s : State) : State :=
  let z := fun (c : AdcConv) => { c with calN := 0, cal0 := 0, cal1 := 0 }
  let s := { s with adc := { s.adc with self := true, x := s.adc.x.map z } }
  let s := (s.mark F.ADC_CAL_BUSY true).put F.ADC_CAL_ERR 0
  adcKicks s

/-- A step of system calibration ends (R569). -/
def sysEnd (s : State) (x err : Nat) : State :=
  let s := s.setAdc x { s.adcx x with sys := none }
  (((s.mark (F.ADC_x_SYSCTL_BUSY x) false).mark (F.ADC_x_SYSCTL_DONE x) true).put (F.ADC_x_SYSCTL_ERR x) err).event 83

/-- A ZERO or FULL in progress is aborted (R569). -/
def sysAbort (s : State) (x : Nat) : State := if (s.adcx x).sys.isSome then sysEnd s x 4 else s

/-- A calibration conversion of converter `x` ends; the second result is the outcome where self-calibration ended. -/
def calResult (s : State) (x raw : Nat) : State × Option Bool :=
  let k := s.adcx x
  let k := if k.calN < 1024 then { k with calN := k.calN + 1, cal0 := k.cal0 + (raw : Int) } else { k with calN := k.calN + 1, cal1 := k.cal1 + (raw : Int) }
  let s := s.setAdc x k
  if (s.adcx 0).calN = 2048 ∧ (s.adcx 1).calN = 2048 then
    let r := selfEnd s
    (adcKick r.1 (1 - x), some r.2)
  else (s, none)

/-- A conversion of a ZERO or FULL ends. -/
def sysResult (s : State) (x raw : Nat) : State :=
  match (s.adcx x).sys with
  | none => s
  | some (st, e, n, sum) =>
    let sum := sum + adcU s x raw false
    if n + 1 = 256 then
      let u := meanRound sum 256
      sysEnd (s.putI (if st = 1 then F.ADC_x_SYSU0_U0 x else F.ADC_x_SYSU1_U1 x) u) x 0
    else s.setAdc x { s.adcx x with sys := some (st, e, n + 1, sum) }

/-- A result of a scan, a pair or a window conversion (R554, R560, R570). -/
def scanResult (s : State) (x : Nat) (k : ConvKind) (e raw tick : Nat) : State :=
  let c := adcC s x e (adcU s x raw false)
  let s := if e = s.get (F.ADC_x_CTL_WENT x) then adcWindow s x c else s
  let s := adcDeliver s x k e raw c tick
  let s := if k = .pair then pairHalf s x c else s
  let a := s.adcx x
  match a.scan with
  | some (_ :: rest) =>
    if k = .scan ∨ k = .pair ∧ x = 0 then
      if rest.isEmpty then scanEnd s x else s.setAdc x { a with scan := some rest }
    else s
  | _ => s

/-- An urgent result (R557, R558). The Scarecrow judges BG, entry 15 (R704). -/
def urgentResult (s : State) (x e raw tick : Nat) (ref : Bool) : State :=
  let cal := adcCalibrated s
  let c := adcC s x e (adcU s x raw (!cal))
  let s := s.setAdc x { s.adcx x with urg := none }
  let s := ((s.mark (F.ADC_x_URG_BUSY x) false).mark (F.ADC_x_STAT_URGB x) false).put (F.ADC_x_URGRES_VALUE x) c
  let s := ((s.put (F.ADC_x_URGRES_ENT x) e).mark (F.ADC_x_URGRES_NREF x) (!ref)).mark (F.ADC_x_URGRES_NCAL x) (!cal)
  let s := (s.incWrap (F.ADC_x_URGRES_SEQ x)).put (F.ADC_x_URGTIME_TIME x) tick
  if s.flag F.SAF_ARM_AINS_EN ∧ e = 15 ∧ (c < s.get F.SAF_BG_LO ∨ s.get F.SAF_BG_HI < c) then diagEventT s 20 2 else s

/-- A slot of converter `x` ends with the raw code `raw`; the second result is the outcome where self-calibration ended. -/
def convEnd (s : State) (x raw : Nat) : State × Option Bool :=
  match (s.adcx x).conv with
  | none => (s, none)
  | some (k, e, ref, tick) =>
    let s := s.setAdc x { s.adcx x with conv := none }
    let s := (s.mark (F.ADC_x_STAT_RUN x) false).bump64 (A.ADC_x_DONE_LO x) 1
    let s := ledgersTake s x
    let r : State × Option Bool :=
      match k with
      | .urgent => (urgentResult s x e raw tick ref, none)
      | .cal => calResult s x raw
      | .sys => (sysResult s x raw, none)
      | _ => (scanResult s x k e raw tick, none)
    (adcKick r.1 x, r.2)

/-! ## The device's states -/

/-- HOLD or a loss of HSCK: the conversions in progress are discarded (R581). -/
def adcHold (s : State) : State := adcAbort (adcAbort s 0) 1

/-- A change of SEL, or REFEN cleared: every conversion is aborted, a ZERO or FULL with ERR = aborted (R569), REFOK clears
and the settling restarts (R563). -/
def refChange (s : State) : State :=
  let s := (sysAbort (sysAbort (adcHold s) 0) 1).mark F.ADC_REF_REFOK false
  let s := { s with adc := { s.adc with settled := false } }
  s.level 81 false

/-- SENTRY entry (R549, R567, R569): conversions and steps are aborted, the tagged queues emptied. -/
def adcSentry (s : State) : State :=
  let s := adcHold s
  let s := sysAbort (sysAbort s 0) 1
  let s := if s.adc.self then
      let s := { s with adc := { s.adc with self := false } }
      (((s.mark F.ADC_CAL_BUSY false).mark F.ADC_CAL_DONE true).put F.ADC_CAL_ERR 4).event 82
    else s
  let s := s.mark (F.ADC_x_STAT_WAITP 0) false
  forEach [0, 1] (fun s x =>
    let k := s.adcx x
    let s := s.put (F.ADC_x_QST_QDISC x) (Nat.min 255 (s.get (F.ADC_x_QST_QDISC x) + k.q.length))
    let s := s.setAdc x { k with q := [], scan := none, start := false, urg := none, wfresh := true, wrun := 0 }
    adcQueueShow ((s.mark (F.ADC_x_STAT_TPEND x) false).mark (F.ADC_x_URG_BUSY x) false) x) s

end Sys2Proof.Machine
end

