-- ==== Sys2Proof/Machine/LinkOps.lean ====
section
/-! DEFINITION. The Hedgerow link as the other units use it (ch. 18, 19): routes, training started and ended, link
resets, degrade, quarantine and the session keys. The rows of the two chapters stand in Link.lean and Messages.lean. -/

namespace Sys2Proof.Machine

/-! ## Lanes and units (R610, R628) -/

/-- N_L, unit intervals in an HSCK cycle (R40): 160, 80 or 40 in class 2, 3 or 4. -/
def nL (s : State) : Nat := 1966080000 / s.fH

/-- The lanes a port is permitted to use (R640). -/
def hgLanes (s : State) (x : Nat) : Nat := s.get (F.HGx_CFG_LANES x)

/-- The port is quarantined (R666). -/
def hgQuar (s : State) (x : Nat) : Bool := s.get (F.HGx_QCTL_QSTATE x) != 0

/-- The lanes run: not in OFF, HSCK of class 2 to 4 (R610). -/
def hgClocked (s : State) : Bool := s.clk.present && decide (2 ≤ s.clk.cls) && (decide (s.pstate ≠ OFF) || s.pwr.start.isSome)

/-- Training is in progress on the port (R616). -/
def hgTraining (s : State) (x : Nat) : Bool :=
  decide (HG_DETECT ≤ s.get (F.HGx_ST_STATE x)) && decide (s.get (F.HGx_ST_STATE x) ≤ HG_RTT)

/-- 90 % of the capacity of `lanes` lanes, in link bytes per second (R628, R503). -/
def hgCapacity (s : State) (lanes : Nat) : Nat := 8 * s.fH * popcount 2 lanes * 9 / 10

/-- The sum of a port's reservations. -/
def hgReserved (s : State) (x : Nat) : Nat := sumN ((upto 4).map (fun v => s.get (F.HGx_RESv_RES x v)))

/-- OVERRES follows the reservations and the lanes that transmit (R630). -/
def hgOverres (s : State) (x : Nat) : State :=
  s.mark (F.HGx_ST_OVERRES x) (hgUp s x && decide (hgCapacity s (s.get (F.HGx_ST_TXL x)) < hgReserved s x))

/-! ## Neighbours and routes (R647, R667) -/

/-- The neighbour code of a port: a position, 4 for the bridge, 6 for none, 7 for quarantined. -/
def hgCode (s : State) (x : Nat) : Nat :=
  if hgQuar s x then 7 else if !hgUp s x then 6
  else if s.flag (F.HGx_ST_PBRIDGE x) then 4 else s.get (F.HGx_ST_PDEVID x)

/-- The neighbour codes of member `m` as this device knows them. -/
def hgCodes (s : State) (m : Nat) : Option (Nat × Nat) :=
  if m = s.devid then some (hgCode s 0, hgCode s 1) else nth s.hg.topo m none

/-- Member `m` names member `k` as a neighbour, or has not been heard. -/
def hgNames (s : State) (m k : Nat) : Bool :=
  match hgCodes s m with | some (a, b) => a == k || b == k | none => true

/-- A link joins two members: one of them has been heard naming the other, and neither contradicts it. -/
def hgLinked (s : State) (m k : Nat) : Bool :=
  hgNames s m k && hgNames s k m && ((hgCodes s m).isSome || (hgCodes s k).isSome)

/-- Members within `n` links of the start through which messages flow, this device left out: each with its distance. -/
def hgSpread (s : State) : Nat → List (Nat × Nat) → List (Nat × Nat)
  | 0, l => l
  | n + 1, l =>
    let next := (upto 5).filter (fun k => decide (k ≠ s.devid) && !l.any (fun e => e.1 == k) &&
      l.any (fun e => hgLinked s e.1 k))
    hgSpread s n (l ++ next.map (fun k => (k, 1 + maxN (l.map (·.2)))))

/-- The members reached through port `x`, each with its links. -/
def hgVia (s : State) (x : Nat) : List (Nat × Nat) :=
  if hgCode s x < 5 ∧ hgCode s x ≠ s.devid then hgSpread s 4 [(hgCode s x, 1)] else []

/-- The links to member `p` through port `x`. -/
def hgHops (s : State) (x p : Nat) : Option Nat := ((hgVia s x).find? (fun e => e.1 == p)).map (·.2)

/-- The port of the route to `p` and its links: the fewest links, H1 on a tie (R667). -/
def hgRoute (s : State) (p : Nat) : Option (Nat × Nat) :=
  match hgHops s 0 p, hgHops s 1 p with
  | some a, some b => if a < b then some (0, a) else some (1, b)
  | some a, none => some (0, a)
  | none, some b => some (1, b)
  | none, none => none

/-- The path latency of a route (R652): LAT of this device's own port, the LAT of the farther links as Config gives them,
and 2 µs in HSCK cycles for each link. -/
def hgPlat (s : State) (p x n : Nat) : Nat :=
  s.get (F.HGx_RTT_LAT x) + n * ceilDiv (2 * s.fH) 1000000 + (if n ≤ 1 then 0 else Config.farLatency p x n)

/-- The ring is closed: one port's neighbour is also reached through the other. -/
def hgRing (s : State) : Bool := decide (hgCode s 0 < 5) && (hgHops s 1 (hgCode s 0)).isSome

/-- HG0_TOPO, HG0_ROUTEp and FLT_SYNC_LAT follow the neighbours and the TOPO messages (R652, R667). -/
def hgRoutes (s : State) : State :=
  let r := (upto 5).map (fun p => if p = s.devid then none else hgRoute s p)
  let plat := (upto 5).map (fun p => match nth r p none with | some (x, n) => hgPlat s p x n | none => 0)
  let ring := hgRing s
  let reached := (upto 5).filter (fun p => (nth r p none).isSome)
  let s := forEach (upto 5) (fun s p =>
    match nth r p none with
    | some (x, n) =>
      (((s.put (F.HG0_ROUTEp_PORT p) x).put (F.HG0_ROUTEp_VALID p) 1).put (F.HG0_ROUTEp_HOPS p) n).put (F.HG0_ROUTEp_PLAT p)
        (nth plat p 0)
    | none => s.wr (A.HG0_ROUTEp p) 0) s
  let s := s.put F.HG0_TOPO_REACH (sumN ((reached.filter (fun p => decide (p < 4))).map (fun p => 2 ^ p)))
  let s := (s.mark F.HG0_TOPO_BRIDGE (reached.contains 4)).mark F.HG0_TOPO_RING ring
  let s := s.put F.HG0_TOPO_MEMBERS (1 + reached.length)
  s.put F.FLT_SYNC_LAT_LAT (maxN ((reached.filter (fun p => decide (p < 4))).map (fun p => nth plat p 0)))

/-! ## Session keys (R654 to R656) -/

/-- TS1 character 3 of this device's port. -/
def hgChar3 (s : State) (x : Nat) : Nat := s.devid + 4 * x

/-- TS1 character 3 of the partner. -/
def hgPeer3 (s : State) (x : Nat) : Nat :=
  s.get (F.HGx_ST_PDEVID x) + 4 * s.get (F.HGx_ST_PPORT x) + 8 * s.get (F.HGx_ST_PBRIDGE x)

/-- The member at the other end of a port. -/
def hgPeer (s : State) (x : Nat) : Nat := if s.flag (F.HGx_ST_PBRIDGE x) then 4 else s.get (F.HGx_ST_PDEVID x)

/-- The port's link key: the 128-bit key and its permissions. -/
def hgKey (s : State) (x : Nat) : Option (Nat × Nat) := nth s.nvm.link (s.get (F.HGx_MSGCFG_KSLOT x)) none

/-- KEYED, or rekeying under the keys in force (R656, R658). -/
def hgKeyed (s : State) (x : Nat) : Bool := decide (2 ≤ s.get (F.HGx_SEC_KST x))

def State.setKey (s : State) (x : Nat) (k : KeySt) : State := s.setHgp x { s.hgp x with key := k }

/-- Send a KEY-HELLO for generation `g` with a fresh nonce (R655, R658). -/
def hgHello (s : State) (x g : Nat) : State :=
  let nonce := bytesOfLe 8 s.hg.session ++ [hgChar3 s x] ++ List.replicate 7 0
  let s := { s with hg := { s.hg with session := s.hg.session + 1 } }
  let k := { (s.hgp x).key with myNonce := nonce, helloSent := true, confSent := false, confSeen := false, gen := g }
  hgQueue (s.setKey x k) x VC_CTRL ⟨T_KEY_HELLO, hgPeer s x, s.devid, hgKeyed s x, 0, 1, g, nonce, []⟩

/-- The keys of a link end with its reset (R655). -/
def hgKeysDrop (s : State) (x : Nat) : State :=
  let s := s.setKey x KeySt.reset
  ((s.put (F.HGx_SEC_KST x) 0).put (F.HGx_SEC_GEN x) 0 |>.wr (A.HGx_TXCTR x) 0).wr (A.HGx_RXCTR x) 0

/-! ## Down, reset and training (R616, R631, R632) -/

/-- A link reset (R632): sequence spaces restart, the credits and receive books empty, unacknowledged frames are discarded
and counted, the keys end. Frames already accepted stay delivered. -/
def linkReset (s : State) (x : Nat) : State :=
  let p := s.hgp x
  if p.clean then s
  else
    let s := s.bump64 (A.HGx_DISC_LO x) p.unacked.length
    let s := s.bump64 (A.HGx_LRESET_LO x) 1
    let p := { p with unacked := [], retx := [], nextSeq := 0, expSeq := 0, ackV := false, nak := 0, init := [0, 0, 0, 0], sent := [0, 0, 0, 0], freed := [0, 0, 0, 0], myFreed := [0, 0, 0, 0], rtos := 0, clean := true }
    let p := { p with tx := p.tx.filter (fun e => decide (e.2.typ ≠ T_KEY_HELLO) && decide (e.2.typ ≠ T_KEY_CONFIRM)) }
    hgKeysDrop (s.setHgp x p) x

/-- The level sources of a port that is not UP: 97 or 105 (R632). -/
def hgDownLevel (s : State) (x : Nat) : State := s.level (97 + 8 * x) true

/-- The unload engine starts again from the oldest unacknowledged block when the port leaves UP (R662). -/
def hgResend (s : State) (x : Nat) : State :=
  if hgUp s x then
    forEach ((upto 8).filter (fun k => s.get (F.SWA_STs_UNL_DEST k) == 2 + x)) (fun s k =>
      match (s.strip k).flight with
      | t :: _ => s.setStrip k { s.strip k with sent := t, flight := [] }
      | [] => s) s
  else s

/-- DETECT starts (R616), with or without state kept on this side. -/
def hgTrain (s : State) (x : Nat) (keep : Bool) : State :=
  let s := hgResend s x
  let s := s.setHgp x { s.hgp x with keep := keep, hisKeep := false, crt := 0, echoes := 0 }
  let s := hgDownLevel (s.put (F.HGx_ST_STATE x) HG_DETECT) x
  let s := (s.put (F.HGx_ST_TXL x) (hgLanes s x)).put (F.HGx_ST_RXL x) 0
  hgOverres s x

/-- A port leaves UP or training for a state without link: the lanes stop. -/
def hgStop (s : State) (x st : Nat) : State :=
  let s := hgResend s x
  let s := (s.put (F.HGx_ST_STATE x) st).put (F.HGx_ST_TXL x) 0
  let s := ((s.put (F.HGx_ST_RXL x) 0).mark (F.HGx_ST_DEGR x) false).put (F.HGx_ST_DCAUSE x) 0
  let s := (s.level (98 + 8 * x) false).mark (F.HGx_ST_OVERRES x) false
  hgRoutes (hgDownLevel s x)

/-- The link goes DOWN (R632): it resets, source 97 or 105 rises, and the port trains again. -/
def hgDown (s : State) (x : Nat) : State :=
  let s := hgStop (linkReset s x) x HG_OFF
  if s.flag (F.HGx_CFG_EN x) && !hgQuar s x && hgClocked s then hgTrain s x false else s

/-- A training attempt ends in failure (R616): back to DETECT, or after the third in a row into WAIT. -/
def hgFail (s : State) (x : Nat) : State :=
  let n := (s.hgp x).fails + 1
  if 3 ≤ n then hgStop (s.setHgp x { s.hgp x with fails := 0 }) x HG_WAIT
  else hgTrain (s.setHgp x { s.hgp x with fails := n }) x (s.hgp x).keep

/-- A retrain with state (R631, R635): from UP, or DETECT at once from WAIT or CONFLICT with what state is left. Training in
progress goes on. -/
def hgRetrain (s : State) (x : Nat) : State :=
  let st := s.get (F.HGx_ST_STATE x)
  if !s.flag (F.HGx_CFG_EN x) || hgQuar s x || !hgClocked s then s
  else if st = HG_UP then hgRoutes (hgTrain s x true)
  else if st = HG_WAIT ∨ st = HG_CONFLICT then hgTrain s x (!(s.hgp x).clean)
  else s

/-- An enabled port starts (R127, R616). -/
def hgStart (s : State) (x : Nat) : State :=
  if s.flag (F.HGx_CFG_EN x) && !hgQuar s x && hgClocked s then hgTrain s x false else s

/-- A disabled port (R632). -/
def hgDisable (s : State) (x : Nat) : State := hgStop (linkReset s x) x HG_OFF

/-! ## Degrade (R629, R630, R636) -/

/-- The lanes of a direction shrink to those in `keep` with a cause: recorded, with its source except for cause 2 (keep).
Without DEGR_EN, or with no lane left, the link goes DOWN. -/
def hgDegrade (s : State) (x tx rx cause : Nat) : State :=
  if tx = 0 ∨ rx = 0 ∨ !s.flag (F.HGx_CFG_DEGR_EN x) ∧ cause = 1 then hgDown s x
  else
    let s := (s.put (F.HGx_ST_TXL x) tx).put (F.HGx_ST_RXL x) rx
    let s := (s.mark (F.HGx_ST_DEGR x) true).put (F.HGx_ST_DCAUSE x) cause
    let s := if cause = 2 then s else s.level (98 + 8 * x) true
    hgOverres s x

/-- A commit changes the permitted lanes (R636): a cleared bit degrades with DCAUSE = mask, a set bit retrains with state. -/
def hgLanesChange (s : State) (x old : Nat) : State :=
  let new := hgLanes s x
  if !hgUp s x ∨ new = old then s
  else if new % 4 ≠ (new ||| old) then
    let p := s.hgp x
    let s := s.setHgp x { p with lreq := p.lreq &&& new, retx := p.unacked }
    let s := hgDegrade s x (s.get (F.HGx_ST_TXL x) &&& new) (s.get (F.HGx_ST_RXL x) &&& new) 3
    if new ||| old = old then s else hgRetrain s x
  else hgRetrain s x

/-- SENTRY with HG_KEEP: H0 on lane 0 in both directions, DCAUSE = keep (R141, R633). -/
def hgKeepLane (s : State) : State :=
  if hgUp s 0 then
    let p := s.hgp 0
    hgDegrade (s.setHgp 0 { p with lreq := 1, retx := p.unacked }) 0 1 1 2
  else s

/-! ## Quarantine (R666) -/

/-- A port is quarantined: DOWN, no training, source 101 or 109 live. -/
def hgQuarantine (s : State) (x st : Nat) : State :=
  let s := linkReset s x
  let s := hgStop s x HG_WAIT
  let s := s.put (F.HGx_QCTL_QSTATE x) st
  hgRoutes (s.level (101 + 8 * x) true)

/-- The lanes of a port are powered: not stopped in SENTRY (R141). -/
def hgPowered (s : State) (x : Nat) : Bool := decide (s.pstate ≠ SENTRY) || (decide (x = 0) && s.flag F.PWR_CFG_HG_KEEP)

/-- A quarantine ends: DETECT starts, or waits for the lanes. -/
def hgQuarEnd (s : State) (x : Nat) : State :=
  let s := ((s.put (F.HGx_QCTL_QSTATE x) 0).level (101 + 8 * x) false).put (F.HGx_ST_STATE x) HG_OFF
  if hgPowered s x then hgStart s x else s

/-- A MAC failure (R666): counted, source 100 or 108; four within 1 s quarantine the port as HOSTILE. -/
def macFail (s : State) (x : Nat) : State :=
  let now := s.time.ms
  let t := now :: (s.hgp x).macTimes.filter (fun k => decide (now < k + 1000))
  let s := s.setHgp x { s.hgp x with macTimes := t.take 7 }
  let s := (s.bump64 (A.HGx_MSGCNTk_LO x 0) 1).put (F.HGx_SEC_MACWIN x) (Nat.min 7 t.length)
  let s := s.event (100 + 8 * x)
  if 4 ≤ t.length ∧ !hgQuar s x then hgQuarantine s x 2 else s

/-- A source 99 or 107 event with its cause; causes 1 and 3 count towards the FAULTY quarantine (R640, R666). -/
def hgError (s : State) (x cause : Nat) : State :=
  let s := (s.put (F.HGx_ST_ERRC x) cause).event (99 + 8 * x)
  if cause = 2 ∨ !s.flag (F.HGx_MSGCFG_QF_EN x) then s
  else
    let now := s.time.ms
    let w := 1000 * s.get (F.HGx_MSGCFG_QF_WIN x)
    let t := now :: (s.hgp x).qTimes.filter (fun k => decide (now < k + w))
    let s := s.setHgp x { s.hgp x with qTimes := t.take 255 }
    let s := s.put (F.HGx_QCTL_QEV x) (Nat.min 255 t.length)
    if s.get (F.HGx_MSGCFG_QF_N x) ≤ t.length ∧ !hgQuar s x then hgQuarantine s x 1 else s

/-! ## The device's states -/

/-- SENTRY entry (R120, R141): the lanes stop, or with HG_KEEP H0 keeps one. -/
def hgSentry (s : State) : State :=
  if s.flag F.PWR_CFG_HG_KEEP then hgDisable (hgKeepLane s) 1 else hgDisable (hgDisable s 0) 1

/-- SENTRY exit and start-up: an enabled port that stands OFF trains, and one kept on one lane retrains with its state
(R616, R631, R633). -/
def hgWake (s : State) : State :=
  forEach [0, 1] (fun s x =>
    if hgUp s x then (if s.get (F.HGx_ST_DCAUSE x) = 2 then hgRetrain s x else s)
    else if s.get (F.HGx_ST_STATE x) = HG_OFF then hgStart s x else s) s

end Sys2Proof.Machine
end

