-- ==== Sys2Proof/Machine/Frames.lean ====
section
/-! DEFINITION. Putting messages on a Hedgerow line (R622 to R628, R641, R642): the bytes of messages and frames, what a port
may send, and sending a new frame. -/

namespace Sys2Proof.Machine

/-- What the port puts on its line: special characters stand as 256 + code, a frame as its bytes between SOF and EOF. -/
def hgLine (s : State) (x : Nat) (l : List Nat) : State := { s with hg := { s.hg with line := [(x, l)] } }

/-- A frame between SOF and EOF: header, payload, padding, CRC. -/
def frameBytes (vc kind seq : Nat) (pl : List Nat) : List Nat :=
  let b := bytesOfLe 4 (vc + 4 * kind + 16 * seq + 2 ^ 16 * pl.length) ++ padTo ((pl.length + 3) / 4 * 4) 0 pl
  b ++ bytesOfLe 4 (crc32 b)

/-- Credits of the partner that are held: SENT − FREED, modulo 256. -/
def hgHeld (p : HgPort) (v : Nat) : Nat := (nth p.sent v 0 + 256 - nth p.freed v 0 % 256) % 256

/-- Credits available on a VC: INIT + FREED − SENT. -/
def hgAvail (p : HgPort) (v : Nat) : Nat := nth p.init v 0 - hgHeld p v

/-- Header and body of a message. -/
def msgBytes (m : Msg) : List Nat :=
  [m.typ, m.dst + 8 * m.src + 64 * b2n m.auth, m.hops, m.hopmax] ++ bytesOfLe 4 m.param ++ m.body

/-- MAC over header, body and trailer bytes 0 to 7. -/
def msgMac (key : Nat) (m : Msg) (head : List Nat) : List Nat := (cmac (bytesOfBe 16 key) (msgBytes m ++ head)).take 8

/-- The trailer under a key, with its counter and generation. -/
def trailerOf (key ctr gen : Nat) (m : Msg) : List Nat :=
  let head := bytesOfLe 4 ctr ++ [gen % 2, 0, 0, 0]
  head ++ msgMac key m head

/-- A message as it goes on the line at this edge: COUNTDOWN and AGE are written at each transmission (R651, R653). A SYNC
whose edge has passed carries a free COUNTDOWN. -/
def msgOnLine (s : State) (m : Msg) : State × Msg :=
  if m.typ = T_SYNC then
    match s.flt.sync with
    | some n => (s, { m with body := bytesOfLe 4 n })
    | none => let (v, s) := s.fresh (2 ^ 32); (s, { m with body := bytesOfLe 4 v })
  else if m.typ = T_TIME_MARK then
    let from_ := leOfBytes (m.body.drop 8) % 2 ^ 32
    (s, { m with body := m.body.take 8 ++ bytesOfLe 4 ((s.time.hsck + (2 ^ 32 - from_)) % 2 ^ 32) })
  else (s, m)

/-- Bytes of the payload that a waiting message will take. -/
def msgLen (m : Msg) : Nat := 8 + m.body.length + 16 * b2n m.auth

/-- Characters of a frame (R622). -/
def frameChars (len : Nat) : Nat := (len + 3) / 4 * 4 + 10

/-- A frame's cost in tokens: link bytes times f_H (R628). -/
def frameCost (s : State) (len : Nat) : Nat := frameChars len * 80 * s.fH / nL s

/-- A message may be sent now (R626, R627, R656): the window, the VC's credit, and the port's keying. -/
def hgMaySend (s : State) (x : Nat) (e : Nat × Msg) : Bool :=
  let p := s.hgp x
  let data := (p.unacked.filter (fun f => decide (2 ≤ f.vc))).length
  decide (p.unacked.length < 16) && (decide (e.1 < 2) || decide (data < 14)) && decide (0 < hgAvail p e.1) &&
    (hgKeyed s x || e.2.typ == T_KEY_HELLO || e.2.typ == T_KEY_CONFIRM)

/-- An exchange is complete: own confirm sent and the partner's verified (R656, R658). -/
def keyedFollow (s : State) (x : Nat) : State :=
  let k := (s.hgp x).key
  if k.confSent ∧ k.confSeen then
    let k := { k with helloSent := false, helloSeen := false, confSent := false, confSeen := false, sendGen := k.gen, recvGen := k.gen }
    ((s.setKey x k).put (F.HGx_SEC_KST x) 2).put (F.HGx_SEC_GEN x) (k.gen % 2)
  else s

/-- The trailer of a first transmission (R642, R656, R657), with the counter and, after a KEY-CONFIRM, the switched key. -/
def authSend (s : State) (x : Nat) (m : Msg) : State × List Nat :=
  let k := (s.hgp x).key
  if !m.auth then (s, [])
  else if m.typ = T_KEY_CONFIRM then
    let t := trailerOf k.nextSend 0 k.gen m
    let s := (s.setKey x { k with send := k.nextSend, sendGen := k.gen, confSent := true }).wr (A.HGx_TXCTR x) 0
    (keyedFollow s x, t)
  else
    let ctr := (s.rd (A.HGx_TXCTR x)).toNat + 1
    (s.wr (A.HGx_TXCTR x) (BitVec.ofNat 32 ctr), trailerOf k.send ctr k.sendGen m)

/-- A new frame (R625 to R628): numbered, kept until acknowledged, its credit and tokens spent. -/
def hgSendFrame (s : State) (x : Nat) (e : Nat × Msg) (pay : Bool) : State :=
  let (vc, m) := e
  let p := s.hgp x
  let cost := if pay then frameCost s (msgLen m) else 0
  let s := s.setHgp x { p with tx := p.tx.erase e, tokens := setNth p.tokens vc (nth p.tokens vc 0 - cost), sent := setNth p.sent vc ((nth p.sent vc 0 + 1) % 256), nextSeq := (p.nextSeq + 1) % 4096 }
  let (s, w) := msgOnLine s m
  let (s, t) := authSend s x w
  let p2 := s.hgp x
  let s := s.setHgp x { p2 with unacked := p2.unacked ++ [⟨p.nextSeq, vc, { m with trailer := t }⟩] }
  hgLine (s.bump64 (A.HGx_FTX_LO x) 1) x (frameBytes vc 0 p.nextSeq (msgBytes w ++ t))

/-- The own STAND-DOWN messages that wait on port `x` go out as frames at once where the port may send them (R249). -/
def standDownSend (s : State) (x : Nat) : State :=
  forEach ((s.hgp x).tx.filter (fun e => e.2.typ == T_STAND_DOWN && e.2.src == s.devid)) (fun s e =>
    if hgUp s x && hgMaySend s x e then
      let line := s.hg.line
      let s := hgSendFrame s x e false
      { s with hg := { s.hg with line := line ++ s.hg.line } }
    else s) s

/-- Before the lanes stop at SENTRY entry the STAND-DOWN of step 1 goes out on every port whose lanes are trained, and none
stays behind on a port that stops (R249). -/
def standDownsSend (s : State) : State :=
  if (upto 2).any (fun x => (s.hgp x).tx.any (fun e => e.2.typ == T_STAND_DOWN && e.2.src == s.devid)) then
    let s := standDownSend (standDownSend { s with hg := { s.hg with line := [] } } 0) 1
    forEach (if s.flag F.PWR_CFG_HG_KEEP then [1] else [0, 1]) (fun s x =>
      s.setHgp x { s.hgp x with tx := (s.hgp x).tx.filter (fun e => !(e.2.typ == T_STAND_DOWN && e.2.src == s.devid)) }) s
  else s

end Sys2Proof.Machine
end

