-- ==== Sys2Proof/Machine/Defer.lean ====
section
/-! DEFINITION. Writes while the core domain is stopped (R140): which bits of a register word act at once, and the words
that wait for the exit's configuration commit. -/

namespace Sys2Proof.Machine

/-- A word written over a register's writable bits. -/
def maskWrite (a : Nat) (old w : Word) : Word :=
  match regRow a with
  | some r => (old &&& ~~~(BitVec.ofNat 32 r.rw)) ||| (w &&& BitVec.ofNat 32 r.rw)
  | none => old

/-- Does the sentry profile hold slot `k` (R258). -/
def slotHeldNow (s : State) (k : Nat) : Bool := s.drl.held.any (fun h => h.slot == k)

abbrev allOnes : Nat := 0xFFFFFFFF

/-- The bits of a register word whose writes act at once while writes are deferred (the table of R140). -/
def immediateMask (s : State) (a : Nat) : Nat :=
  let o := a % 0x10000
  match a / 0x10000 with
  | 0x00 | 0x01 | 0x02 | 0x05 | 0x0A => allOnes
  | 0x03 =>
    if a = A.MIC_CFG then 0x1F
    else if a = A.MIC_DENS ∨ a = A.MIC_PART ∨ a = A.MIC_STATn (s.get F.MIC_CFG_SENTRY_IN) then allOnes else 0
  | 0x06 =>
    if a = A.DRL_ENR_CTL then 1
    else if 0x400 ≤ o ∧ o < 0xC00 ∧ slotHeldNow s ((o - 0x400) / 0x20) then
      (if o % 0x20 = 0 then 0x2000 else if o % 0x20 = 4 then allOnes else if o % 0x20 = 8 then 0xFFFF else 0)
    else 0
  | 0x07 => if a = A.SWA_MITTEN ∨ a = A.SWA_PRE ∨ a = A.SWA_HWIN ∨ a = A.SWA_ZCTL ∨ a = A.SWA_ST ∨ a = A.SWA_ECC then allOnes else 0
  | 0x0C => if a = A.MON_SAVS_CFG ∨ a = A.MON_ST then allOnes else if a = 0x0C0140 then 0x011F7F00 else 0
  | 0x0F => allOnes
  | _ => if 0x120000 ≤ a then allOnes else 0

/-- The part of a word that acts at once: its other writable bits keep their value, its other actions do not happen. -/
def immediatePart (s : State) (e : Nat × Word) : Nat × Word :=
  let m := BitVec.ofNat 32 (immediateMask s e.1)
  (e.1, (e.2 &&& m) ||| (s.rd e.1 &&& ~~~m))

/-- The part of a deferred word that the exit writes: the bits that acted at once stand as they are then. -/
def deferredPart (s : State) (e : Nat × Word) : Nat × Word :=
  let m := BitVec.ofNat 32 (immediateMask s e.1)
  if immediateMask s e.1 = allOnes then e else (e.1, (e.2 &&& ~~~m) ||| (s.rd e.1 &&& m))

/-- A command of SVC or NVM while writes are deferred (R749): its word waits for the exit with the words of the commits. -/
def laterWord (s : State) (a : Nat) (f : Fld) (v : Nat) : State :=
  { s with pwr := { s.pwr with deferred := s.pwr.deferred ++ [(a, BitVec.ofNat 32 (setBits (s.rd a).toNat f.lo f.width v))] } }

/-- The words that the exit's configuration commit writes, oldest first. -/
def deferredWords (s : State) : List (Nat × Word) := s.pwr.deferred.map (deferredPart s)

/-- The value that a read returns for a word with deferred writes: the value last committed (R11, R140). -/
def deferredView (s : State) (a : Nat) (v : Word) : Word :=
  forEach (s.pwr.deferred.filter (fun e => e.1 == a)) (fun v e => maskWrite a v (deferredPart s e).2) v

end Sys2Proof.Machine
end

