-- ==== Sys2Proof/Machine/Records.lean ====
section
/-! DEFINITION. Records of the seed store as they read back (R730, R731), and the calibration sets among them (R173, R174):
what admission and the rows of ch. 5 and 21 share. -/

namespace Sys2Proof.Machine

/-! ## Reading records -/

abbrev R_SEED : Nat := 1
abbrev R_CAL : Nat := 2
abbrev R_BOOT : Nat := 3
abbrev R_MAP : Nat := 4
abbrev R_USER : Nat := 5

/-- Every fragment of the record area. -/
def allFrags (s : State) : List Frag := s.nvm.sec.flatMap (fun x => if s.nvm.bad.contains x.num then [] else x.frags)

/-- The fragments of one record in index order, where it is complete. -/
def wholeRecord (s : State) (typ id seq : Nat) : Option (List Frag) :=
  let fs := (allFrags s).filter (fun f => f.typ == typ && f.id == id && f.seq == seq)
  match fs.find? (·.last) with
  | some l =>
    let parts := (upto (l.idx + 1)).map (fun i => fs.find? (fun f => f.idx == i))
    if parts.all (·.isSome) then some (parts.filterMap (fun x => x)) else none
  | none => none

/-- The sequence number of the record in force for a key: the highest complete one (R731). -/
def recSeq (s : State) (typ id : Nat) : Option Nat :=
  let seqs := ((allFrags s).filter (fun f => f.typ == typ && f.id == id && f.last)).map (·.seq)
  (seqs.filter (fun q => (wholeRecord s typ id q).isSome)).foldl (fun b q => match b with
    | some x => some (Nat.max x q)
    | none => some q) none

/-- The payload of the record in force for a key; none where there is none or a tombstone. -/
def recGet (s : State) (typ id : Nat) : Option (List Nat) :=
  match recSeq s typ id with
  | some q =>
    match wholeRecord s typ id q with
    | some fs => if (fs.flatMap (·.data)).isEmpty then none else some (fs.flatMap (·.data))
    | none => none
  | none => none

/-! ## Seed records (R274) -/

/-- A little-endian field of a record. -/
def recField (r : List Nat) (o n : Nat) : Nat := leOfBytes ((r.drop o).take n)

/-- The record buffer (R287). -/
abbrev recBuf : Nat := 0x068000

/-- `n` bytes of a word-wide buffer in the register space. -/
def bufRead (s : State) (base n : Nat) : List Nat := ((upto (ceilDiv n 4)).flatMap (fun i => bytesOfLe 4 (s.rd (base + 4 * i)).toNat)).take n

/-- Class entry `k` of a net record: slot, class bits, THR, PRE, OSLOPE, REFR; none where it is unused. -/
def netClass (r : List Nat) (k : Nat) : Option (Nat × Nat × Nat × Nat × Nat × Nat) :=
  let o := 32 + 8 * k
  if nth r o 0xFF = 0xFF then none
  else some (nth r o 0, nth r (o + 1) 0, recField r (o + 2) 2, recField r (o + 4) 2, nth r (o + 6) 0, nth r (o + 7) 0)

def netClasses (r : List Nat) : List (Nat × (Nat × Nat × Nat × Nat × Nat × Nat)) :=
  (upto 16).filterMap (fun k => (netClass r k).map (fun e => (k, e)))

/-- The record carries the stop class in its header or in a class entry (R275). -/
def recStop (r : List Nat) : Bool :=
  if nth r 5 0 = 2 then (netClasses r).any (fun e => bit e.2.2.1 1) else bit (nth r 6 0) 1

/-- The slots that a record installs into. -/
def recSlots (r : List Nat) : List Nat := if nth r 5 0 = 2 then (netClasses r).map (·.2.1) else [nth r 7 0]

/-- The record that INSTALL takes: from the store by its ID, or from the buffer (R276). -/
def installRecord (s : State) : Option (List Nat) :=
  let id := s.get F.DRL_RECID_ID
  if id = 0 then some (bufRead s recBuf 8704) else recGet s R_SEED id

/-! ## Calibration records -/

/-- A record is a valid set of input `p` (R173, R174). -/
def calRecordOk (p : Nat) (b : List Nat) : Bool :=
  b.length == 32 && nth b 0 0 == p && nth b 1 0 == 1 && leOfBytes (b.drop 28) == crc32c (b.take 28)

/-- A valid record becomes the set in force; its fade starts with CALIBRATION_CHANGE. -/
def calRecordLoad (s : State) (p : Nat) (b : List Nat) : State :=
  let s := s.put (F.MIC_CALn_GAIN_GAIN p) (leOfBytes ((b.drop 4).take 3))
  let s := s.put (F.MIC_CALn_DELAY_DELAY p) (leOfBytes ((b.drop 8).take 2))
  let s := forEach (upto 4) (fun s t => s.put (F.MIC_CALn_TAPt_TAP p t) (leOfBytes ((b.drop (12 + 4 * t)).take 3))) s
  s.put (F.MIC_CALn_ORIGIN_ORIGIN p) 1

/-- LOAD: every valid record becomes the set in force; an invalid one is ignored and reported (R173, R174). -/
def calLoadAll (s : State) : State × Bool :=
  (upto 32).foldl (fun (a : State × Bool) p =>
    match recGet a.1 R_CAL p with
    | some b => if calRecordOk p b then (calRecordLoad a.1 p b, a.2) else (a.1, false)
    | none => a) (s, true)

end Sys2Proof.Machine
end

