-- ==== Sys2Proof/Machine/Admit.lean ====
section
/-! DEFINITION. The admission controller's checks (R497 to R506, R51, R117, R694, R695 and the rules of every chapter that
refuse a commit): a commit's candidate configuration is judged, nothing is changed. What a decision does stands in
Commit.lean. -/

namespace Sys2Proof.Machine

/-- A refusal: the code of R505 and the object of R506. -/
abbrev Deny : Type := Option (Nat × Nat)

/-- The first refusal of a list. -/
def firstDeny : List Deny → Deny
  | [] => none
  | d :: t => match d with | some x => some x | none => firstDeny t

/-- Refuse with a code and an object where a condition holds. -/
def denyIf (c : Bool) (code obj : Nat) : Deny := if c then some (code, obj) else none

/-- Objects (R506). -/
def objReg (a : Nat) : Nat := 0x01000000 + a
def objTask (c t : Nat) : Nat := 0x02000000 + 16 * c + t
def objQueue (n : Nat) : Nat := 0x03000000 + n
def objState (st : Nat) : Nat := 0x08000000 + st

/-- The first of a list of indices that refuses. -/
def firstOf (l : List Nat) (f : Nat → Deny) : Deny := firstDeny (l.map f)

/-! ## Checked words (R497) -/

/-- Does a register word hold a checked field (R497, R640, R678, R726). -/
def isChecked (a : Nat) : Bool :=
  let o := a % 0x10000
  match a / 0x10000 with
  | 0x01 => o == 0x4 || o == 0x8
  | 0x02 => o == 0x4
  | 0x03 => o == 0x0 || o == 0x4 || o == 0x8 || o == 0xC || o == 0x28 || o == 0x2C || (decide (0x40 ≤ o) && decide (o < 0xC0)) || (decide (0x200 ≤ o) && decide (o < 0x600) && decide (o % 0x20 < 0x18))
  | 0x04 => [A.FLT_SYNC].contains a || (upto 32).any (fun n => a == A.FLT_CICp n || a == A.FLT_CHn_FIR n || a == A.FLT_CHn_XF n) || (decide (A.FLT_RTd 0 ≤ a) && decide (a < A.FLT_RTd 148)) || decide (A.FLT_COEFb_i 0 0 ≤ a)
  | 0x05 => a == A.LSN_CFG || a == A.LSN_SADu_CFG 1
  | 0x06 => [A.DRL_CFG, A.DRL_NET, A.DRL_ENR_CTL, A.DRL_RECCTL].contains a || (upto 4).any (fun n => a == A.DRL_INn_CFG n) || (decide (A.DRL_SLOTs_CFG 0 ≤ a) && decide (a < A.DRL_SLOTs_CFG 64) && decide (o % 0x20 = 0))
  | 0x07 => a == A.SWA_CFG || (upto 8).any (fun k => [A.SWA_STs_CFG k, A.SWA_STs_BASE k, A.SWA_STs_NBLK k, A.SWA_STs_UNL k, A.SWA_STs_UACK_LO k, A.SWA_STs_UACK_HI k].contains a)
  | 0x08 => a == A.FRW_CFG || a == A.FRW_SWAP || (upto 4).any (fun c => a == A.FRW_COREc_CTL c) || (decide (A.FRW_Tc_t_ENTRY 0 0 ≤ a) && decide (a < A.FRW_Tc_t_ENTRY 4 0) && decide (o % 0x20 < 0xC))
  | 0x09 => decide (A.QUE_Qn_CFG 0 ≤ a) && decide (a < A.QUE_Qn_CFG 64) && decide (o % 0x20 < 0xC)
  | 0x0D => o == 0x0 || (decide (0x20 ≤ o) && decide (o < 0x30)) || o == 0x40C
  | 0x0E => o == 0x0 || (decide (0x20 ≤ o) && decide (o < 0x30)) || o == 0x40C
  | 0x0F => decide (0x4 ≤ o) && decide (o < 0x34)
  | _ => false

/-! ## The candidate configuration -/

/-- Store the writable bits of words, with no other effect. -/
def storeWords (s : State) (ws : List (Nat × Word)) : State :=
  forEach ws (fun s e => s.wr e.1 (maskWrite e.1 (s.rd e.1) e.2)) s

/-- The word a commit writes to an address, the last one. -/
def wordAt (ws : List (Nat × Word)) (a : Nat) : Option Nat := (ws.reverse.find? (fun e => e.1 == a)).map (·.2.toNat)

/-- A write-only bit or field that a commit writes; 0 where it does not write the word. -/
def wroteField (ws : List (Nat × Word)) (f : Fld) : Nat :=
  match wordAt ws f.addr with | some w => bits w f.lo f.width | none => 0

/-- A commit's words name a clock plan that differs from the one in force, the pending one in a procedure (R51, R53). -/
def isPlan (s : State) (ws : List (Nat × Word)) : Bool :=
  match wordAt ws A.CLK_PLAN with
  | some w => decide (bits w 0 3 ≠ s.get F.CLK_PLAN_FH_NEXT ∨ bits w 8 6 ≠ s.get F.CLK_PLAN_M)
  | none => false

/-- The configuration that a commit leaves, at the class and multiplier it names (R498, R499). -/
def candidate (s : State) (ws : List (Nat × Word)) : State :=
  let t := storeWords s ws
  match wordAt ws A.CLK_PLAN with
  | some w => if isPlan s ws then { t with clk := { t.clk with cls := bits w 0 3, mult := bits w 8 6 } } else t
  | none => t

/-- A register word changes between two configurations. -/
def changed (s t : State) (a : Nat) : Bool := s.rd a != t.rd a

/-- A field changes. -/
def fchanged (s t : State) (f : Fld) : Bool := s.get f != t.get f

/-! ## Step 1: field values and formats -/

/-- The range of values of each field that has one, by register: field, least and greatest value. -/
def fieldRanges (a : Nat) : List (Fld × Nat × Nat) :=
  let o := a % 0x10000
  match a / 0x10000 with
  | 0x01 => if a = A.CLK_PDM then (upto 4).map (fun g => (dpField g, 0, 5)) else []
  | 0x02 => if a = A.PWR_MICT then [(F.PWR_MICT_TSU, 1, 63)] else if a = A.PWR_REQ then [(F.PWR_REQ_TARGET, 0, 5)] else []
  | 0x03 =>
    if a = A.MIC_PWRCTL then [(F.MIC_PWRCTL_TOFF, 10, 255)]
    else if a = A.MIC_DENS then [(F.MIC_DENS_WIN, 0, 4)]
    else if a = A.MIC_NBCFG then [(F.MIC_NBCFG_NBLIM, 1, 63), (F.MIC_NBCFG_PLIM, 1, 63)]
    else if a = A.MIC_CALCTL then [(F.MIC_CALCTL_LEN, 0, 4)] else []
  | 0x04 =>
    if (upto 32).any (fun p => a == A.FLT_CICp p) then [(⟨a, 0, 3⟩, 1, 5)]
    else if (upto 32).any (fun n => a == A.FLT_CHn_FIR n) then [(⟨a, 0, 5⟩, 0, 23)]
    else if (upto 32).any (fun n => a == A.FLT_CHn_XF n) then [(⟨a, 0, 4⟩, 4, 10)]
    else if A.FLT_RTd 0 ≤ a ∧ a < A.FLT_RTd 148 then [(⟨a, (F.FLT_RTd_LOG2L 0).lo, (F.FLT_RTd_LOG2L 0).width⟩, 4, 10)]
    else []
  | 0x05 =>
    if a = A.LSN_PRE then [(F.LSN_PRE_TMO, 50, 400)]
    else if a = A.LSN_SADu_CFG 0 then [(F.LSN_SADu_CFG_ONSET 0, 1, 15), (F.LSN_SADu_CFG_HANG 0, 1, 255)]
    else if a = A.LSN_SADu_CFG 1 then [(F.LSN_SADu_CFG_ONSET 1, 1, 15), (F.LSN_SADu_CFG_HANG 1, 1, 255)]
    else if a = A.LSN_SADu_TL 0 then
      [(F.LSN_SADu_TL_RISE 0, 1, 255), (F.LSN_SADu_TL_CEIL 0, 156, 246), (F.LSN_SADu_TL_MAXEV 0, 1, 255)]
    else if a = A.LSN_SADu_TL 1 then
      [(F.LSN_SADu_TL_RISE 1, 1, 255), (F.LSN_SADu_TL_CEIL 1, 156, 246), (F.LSN_SADu_TL_MAXEV 1, 1, 255)]
    else []
  | 0x06 =>
    if a = A.DRL_NET then [(F.DRL_NET_EVAL, 1, 10)]
    else if (upto 64).any (fun k => a == A.DRL_SLOTs_ADJ k) then [(⟨a, 16, 8⟩, 0, 63)] else []
  | 0x07 =>
    if a = A.SWA_CFG then [(F.SWA_CFG_DIV, 64, 8192)]
    else if a = A.SWA_MITTEN then [(F.SWA_MITTEN_TMO, 1, 120)]
    else if a = A.SWA_HWIN then [(F.SWA_HWIN_BASE, 0, 24)]
    else if (upto 8).any (fun k => a == A.SWA_STs_CFG k) then
      [(⟨a, (F.SWA_STs_CFG_NSLOT 0).lo, (F.SWA_STs_CFG_NSLOT 0).width⟩, 1, 64),
       (⟨a, (F.SWA_STs_CFG_FMT 0).lo, (F.SWA_STs_CFG_FMT 0).width⟩, 0, 2)]
    else []
  | 0x09 =>
    if A.QUE_Qn_CFG 0 ≤ a ∧ a < A.QUE_Qn_CFG 64 then
      (if o % 0x20 = 0 then
        (⟨a, 8, 9⟩, 1, 256) :: (if queueClass ((a - A.QUE_Qn_CFG 0) / 0x20) = 1 then [(⟨a, 17, 14⟩, 64, 8192)] else [])
       else if o % 0x20 = 4 ∨ o % 0x20 = 8 then [(⟨a, 16, 11⟩, 1, 1024)] else [])
    else []
  | 0x0B => if a = A.ADC_x_CTL 0 ∨ a = A.ADC_x_CTL 1 then [(⟨a, 12, 4⟩, 1, 15)] else []
  | 0x0C =>
    if a = A.MON_CAVS_STEP then
      [(F.MON_CAVS_STEP_UP, 1, 15), (F.MON_CAVS_STEP_DN, 1, 15), (F.MON_CAVS_STEP_DWAIT, 1, 255), (F.MON_CAVS_STEP_SETTLE, 1, 15)]
    else []
  | 0x0D => if o = 0 then [(⟨a, 24, 4⟩, 1, 15)] else if o = 0x400 then [(⟨a, 8, 4⟩, 1, 15)] else []
  | 0x0E => if o = 0 then [(⟨a, 24, 4⟩, 1, 15)] else if o = 0x400 then [(⟨a, 8, 4⟩, 1, 15)] else []
  | 0x0F => if a = A.SAF_ARM then [(F.SAF_ARM_FBDLY, 1, 40)] else []
  | _ => []

/-- Is a source code of the crossbar defined (R213). -/
def sourceDefined (c : Nat) : Bool := decide (c ≤ 49) || (decide (65 ≤ c) && decide (c ≤ 96))

/-- Formats beyond a range: reserved codes and the values that other fields of the word bound (R190, R213, R224, R292, R354,
R636). `t` is the candidate. -/
def wordFormat (s t : State) (a w : Nat) : Bool :=
  if A.FLT_RTd 0 ≤ a ∧ a < A.FLT_RTd 148 then !sourceDefined (bits w 0 8)
  else if A.FLT_COEFb_i 0 0 ≤ a ∧ a < 0x050000 then bits w 0 24 == 0x800000
  else if a = A.LSN_SADu_CFG 1 then bits w 0 8 == 0 || !sourceDefined (bits w 0 8)
  else if a = A.FRW_CFG then decide (256 < t.get F.FRW_CFG_CWIN_BASE + t.get F.FRW_CFG_CWIN_SIZE)
  else if a = A.HGx_CFG 0 then t.flag (F.HGx_CFG_EN 0) && t.get (F.HGx_CFG_LANES 0) == 0
  else if a = A.HGx_CFG 1 then t.flag (F.HGx_CFG_EN 1) && t.get (F.HGx_CFG_LANES 1) == 0
  else if a = A.FLT_SYNC then decide (t.get F.FLT_SYNC_EXT < s.get F.FLT_SYNC_LAT_LAT + 8)
  else match (upto 8).find? (fun k => [A.SWA_STs_CFG k, A.SWA_STs_BASE k, A.SWA_STs_NBLK k].contains a) with
    | some k =>
      stripOn t k && (decide (96 < t.get (F.SWA_STs_CFG_FIRST k) + stripSlots t k) || decide (stripNblk t k < 2) ||
        decide (swathBytes < stripBase t k + stripNblk t k * stripB t k))
    | none => false

/-- Step 1 for one word. -/
def checkWord (s t : State) (e : Nat × Word) : Deny :=
  let w := e.2.toNat
  denyIf ((fieldRanges e.1).any (fun r => decide (bits w r.1.lo r.1.width < r.2.1) || decide (r.2.2 < bits w r.1.lo r.1.width))
    || wordFormat s t e.1 w) 0x0001 (objReg e.1)

/-- Insert a word by address. -/
def insertWord (e : Nat × Word) : List (Nat × Word) → List (Nat × Word)
  | [] => [e]
  | x :: t => if e.1 < x.1 then e :: x :: t else x :: insertWord e t

/-- The words in ascending address order. -/
def sortWords (ws : List (Nat × Word)) : List (Nat × Word) := ws.foldl (fun l e => insertWord e l) []

/-- Step 1 (R498). -/
def checkFields (s t : State) (ws : List (Nat × Word)) : Deny := firstDeny ((sortWords ws).map (checkWord s t))

/-! ## Step 2: consistency -/

/-- The channel's configured input. -/
def mapPhys (s : State) (n : Nat) : Nat := s.get (F.MIC_MAPn_PHYS n)
def mapOn (s : State) (n : Nat) : Bool := s.flag (F.MIC_MAPn_EN n)

/-- An input is enabled, in a group that is powered outside SENTRY and clocked (R157, R159). -/
def inputUsable (s : State) (p : Nat) : Bool :=
  s.bitOf F.MIC_INEN_EN p && s.bitOf F.MIC_PWRCTL_EN (p / 8) && s.get (dpField (p / 8)) != 0

/-- Some enabled channel reads input `p`. -/
def inputMapped (s : State) (p : Nat) : Bool := (upto 32).any (fun n => mapOn s n && mapPhys s n == p)

/-- f_CIC of an input as a fraction, and f_O of a chain (R194), from configured dividers. -/
def cfgFp (s : State) (p : Nat) : Nat :=
  if dpOf (s.get (dpField (p / 8))) = 0 then 0 else s.fH / dpOf (s.get (dpField (p / 8)))

/-- The rate of a crossbar source by the configuration: numerator and denominator (R213). -/
def cfgRate (s : State) (c : Nat) : Nat × Nat :=
  if 1 ≤ c ∧ c ≤ 32 then (cfgFp s (mapPhys s (c - 1)), cicK1 s (mapPhys s (c - 1)) * chainK2 s (c - 1))
  else if 33 ≤ c ∧ c ≤ 48 then (s.fH, Nat.max 1 (s.get (F.QUE_Qn_CFG_RDIV (c - 1))))
  else if c = 49 ∨ (65 ≤ c ∧ c ≤ 96) then (16000, 1)
  else (0, 1)

/-- Two rates are equal. -/
def sameRate (a b : Nat × Nat) : Bool := a.1 * b.2 == b.1 * a.2

/-- The glance of chain `n` is available by the configuration (R203). -/
def cfgGlance (s : State) (n : Nat) : Bool :=
  let p := mapPhys s n
  let k1 := cicK1 s p
  let fp := cfgFp s p
  decide (fp ≠ 0) && decide (fp % (k1 * 16000) = 0) &&
    decide (ceilDiv (cicOrder s p + 16) (fp / (k1 * 16000)) ≤ 3)

/-- The bank settings of a chain change (R200). -/
def bankSwap (s t : State) (n : Nat) : Bool :=
  fchanged s t (F.FLT_CHn_FIR_BANK n) || fchanged s t (F.FLT_CHn_FIR_TAPSM1 n) || fchanged s t (F.FLT_CHn_FIR_OSHIFT n)

/-- The calibration set of an input changes (R172). -/
def calChange (s t : State) (p : Nat) : Bool :=
  changed s t (A.MIC_CALn_GAIN p) || changed s t (A.MIC_CALn_DELAY p) || (upto 4).any (fun k => changed s t (A.MIC_CALn_TAPt p k))

/-- The configuration with the sets that a LOAD of this commit puts in force (R172, R174). -/
def withLoad (t : State) (ws : List (Nat × Word)) : State := if wroteField ws F.MIC_CALCTL_LOAD = 1 then (calLoadAll t).1 else t

/-- A commit starts a fade on chain `n`: a bank swap, a cross-faded remap or a calibration change (R202). -/
def startsFade (s t : State) (n : Nat) : Bool :=
  mapOn t n && mapOn s n &&
    (bankSwap s t n || (decide (mapPhys s n ≠ mapPhys t n) && !t.flag (F.MIC_MAPn_CUT n)) || calChange s t (mapPhys t n))

/-- Route of destination `d` in the registers. -/
def routeOf (s : State) (d : Nat) : Nat := s.get (F.FLT_RTd_SRC d)

/-- The destinations' names for the rates: is `d` a slot of an enabled strip. -/
def slotStrip (s : State) (d : Nat) : Option Nat :=
  (upto 8).find? (fun k => stripOn s k && decide (s.get (F.SWA_STs_CFG_FIRST k) ≤ d) &&
    decide (d < s.get (F.SWA_STs_CFG_FIRST k) + stripSlots s k))

/-- A Drill input is active by the configuration (R255). -/
def drlActive (s : State) (n : Nat) : Bool := s.flag (F.DRL_INn_CFG_EN n) && routeOf s (144 + n) != 0

/-- MIC, R158 to R167. -/
def checkMic (s t : State) (ws : List (Nat × Word)) : Deny :=
  let bad := fun (u : State) (p : Nat) => !inputUsable u p
  firstDeny [
    denyIf ((upto 4).any (fun g => bit (wroteField ws F.MIC_PWRCTL_CYCLE) g && !groupPowered s g)) 0x0005 (objReg A.MIC_PWRCTL),
    denyIf (decide (t.get F.MIC_CFG_SENTRY_IN / 2 = t.get F.MIC_CFG_PARTNER_IN / 2) && t.flag F.MIC_CFG_PARTNER_EN &&
      (fchanged s t F.MIC_CFG_SENTRY_IN || fchanged s t F.MIC_CFG_PARTNER_IN || fchanged s t F.MIC_CFG_PARTNER_EN))
      0x0002 (objReg A.MIC_CFG),
    denyIf (!t.bitOf F.MIC_INEN_EN (t.get F.MIC_CFG_SENTRY_IN) && (fchanged s t F.MIC_CFG_SENTRY_IN || s.bitOf F.MIC_INEN_EN (s.get F.MIC_CFG_SENTRY_IN)))
      0x0005 (objReg A.MIC_CFG),
    denyIf (bad t (t.get F.MIC_CFG_SENTRY_IN) && !bad s (s.get F.MIC_CFG_SENTRY_IN)) 0x0005 (objReg A.MIC_CFG),
    denyIf (t.flag F.MIC_CFG_PARTNER_EN && bad t (t.get F.MIC_CFG_PARTNER_IN) && !(s.flag F.MIC_CFG_PARTNER_EN && bad s (s.get F.MIC_CFG_PARTNER_IN)))
      0x0005 (objReg A.MIC_CFG),
    denyIf ((upto 32).any (fun p => t.bitOf F.MIC_SPARE_SPARE p && inputMapped t p && !(s.bitOf F.MIC_SPARE_SPARE p && inputMapped s p)))
      0x0002 (objReg A.MIC_SPARE),
    denyIf ((upto 32).any (fun p => t.bitOf F.MIC_SPARE_SPARE p && !t.bitOf F.MIC_INEN_EN p && !(s.bitOf F.MIC_SPARE_SPARE p && !s.bitOf F.MIC_INEN_EN p)))
      0x0005 (objReg A.MIC_SPARE),
    firstOf (upto 32) (fun n => denyIf (mapOn t n && (upto n).any (fun k => mapOn t k && mapPhys t k == mapPhys t n) &&
      (changed s t (A.MIC_MAPn n) || (upto n).any (fun k => mapPhys t k == mapPhys t n && changed s t (A.MIC_MAPn k)))) 0x0002 (objReg (A.MIC_MAPn n))),
    firstOf (upto 32) (fun n => denyIf (mapOn t n && bad t (mapPhys t n) && !(mapOn s n && mapPhys s n == mapPhys t n && bad s (mapPhys s n)))
      0x0005 (objReg (A.MIC_MAPn n))) ]

/-- The bank that a coefficient address belongs to. -/
def bankOf (a : Nat) : Option Nat :=
  if A.FLT_COEFb_i 0 0 ≤ a ∧ a < 0x050000 then some ((a - A.FLT_COEFb_i 0 0) / 0x800) else none

/-- A bank is selected by a chain (R199, R221): by an enabled channel's register before or after the commit, as the bank in
force until its swap begins, or in a fade. -/
def bankSelected (s t : State) (b : Nat) : Bool :=
  (upto 32).any (fun n =>
    (mapOn t n && t.get (F.FLT_CHn_FIR_BANK n) == b) ||
    (mapOn s n && (s.get (F.FLT_CHn_FIR_BANK n) == b || (s.awake && (s.chain n).inst.bank == b) ||
      (match (s.chain n).fade with | some f => f.old.bank == b | none => false))))

/-- A route that names the source of a chain or its glance. -/
def routedChain (s : State) (n : Nat) : Bool := (upto 148).any (fun d => routeOf s d == n + 1 || routeOf s d == n + 65)

/-- FLT, R192 to R215. -/
def checkFlt (s t : State) (ws : List (Nat × Word)) : Deny :=
  firstDeny [
    firstOf (upto 32) (fun n =>
      let r := cfgRate t (n + 1)
      -- R194; a chain of a group without a clock has no f_O: its mapping is R159's concern
      denyIf (mapOn t n && r.1 != 0 && (decide (r.1 < 8000 * r.2) || decide (192000 * r.2 < r.1))) 0x0001 (objReg (A.FLT_CHn_FIR n))),
    firstOf (upto 32) (fun n =>
      denyIf (mapOn t n && mapOn s n && decide (mapPhys s n ≠ mapPhys t n) && !t.flag (F.MIC_MAPn_CUT n) &&
        !sameRate (cfgFp t (mapPhys s n), cicK1 t (mapPhys s n)) (cfgFp t (mapPhys t n), cicK1 t (mapPhys t n)))
        0x0004 (objReg (A.MIC_MAPn n))),
    firstOf (upto 32) (fun n =>
      match (s.chain n).fade with
      | some f =>
        let p := (s.chain n).inst.input
        denyIf (decide (f.old.input ≠ p) && !sameRate (cfgFp t f.old.input, cicK1 t f.old.input) (cfgFp t p, cicK1 t p)) 0x0004 (objReg (A.FLT_CICp p))
      | none => none),
    firstDeny (ws.map (fun e => match bankOf e.1 with | some b => denyIf (bankSelected s t b) 0x0003 (objReg e.1) | none => none)),
    firstOf (upto 32) (fun n => denyIf (startsFade s (withLoad t ws) n && (s.chain n).fade.isSome) 0x0003 (objReg (A.FLT_CHn_FIR n))),
    firstOf (upto 148) (fun d =>
      let c := routeOf t d
      denyIf (decide (65 ≤ c) && decide (c ≤ 96) && !cfgGlance t (c - 65) &&
        (routeOf s d != c || cfgGlance s (c - 65))) 0x0004 (objReg (A.FLT_RTd d))),
    firstOf (upto 148) (fun d =>
      let c := routeOf t d
      let o := routeOf s d
      denyIf (c != o && c != 0 && o != 0 && !sameRate (cfgRate t c) (cfgRate t o)) 0x0004 (objReg (A.FLT_RTd d))),
    firstOf (upto 96) (fun d =>
      match slotStrip t d with
      | some _ => denyIf (routeOf t d != 0 && !sameRate (cfgRate t (routeOf t d)) (t.fH, t.get F.SWA_CFG_DIV)) 0x0004 (objReg (A.FLT_RTd d))
      | none => none),
    firstOf (upto 148) (fun d => denyIf ((s.route d).fade.isSome && routeOf s d != routeOf t d) 0x0003 (objReg (A.FLT_RTd d))),
    firstOf (upto 32) (fun n => denyIf (mapOn s n && !mapOn t n && routedChain t n) 0x0005 (objReg (A.MIC_MAPn n))) ]

/-- LSN (R224): a commit names SAD1's source where it writes LSN_SAD1_CFG or starts SAD1. -/
def checkLsn (s t : State) (ws : List (Nat × Word)) : Deny :=
  let c := t.get (F.LSN_SADu_CFG_SRC 1)
  let r := cfgRate t c
  let moved := ws.any (fun w => w.1 == A.LSN_SADu_CFG 1) || (t.flag F.LSN_CFG_SAD1_EN && !s.flag F.LSN_CFG_SAD1_EN)
  firstDeny [
    denyIf (moved && decide (65 ≤ c) && decide (c ≤ 96) && !cfgGlance t (c - 65)) 0x0004 (objReg (A.LSN_SADu_CFG 1)),
    denyIf (moved && decide (1 ≤ c) && decide (c ≤ 32) && !mapOn t (c - 1)) 0x0005 (objReg (A.LSN_SADu_CFG 1)),
    denyIf (moved && decide (65 ≤ c) && decide (c ≤ 96) && !mapOn t (c - 65)) 0x0005 (objReg (A.LSN_SADu_CFG 1)),
    denyIf (moved && decide (r.1 % (100 * r.2) ≠ 0)) 0x0004 (objReg (A.LSN_SADu_CFG 1)) ]

abbrev CL_WAKE : Nat := 0
abbrev CL_STOP : Nat := 1
abbrev CL_MARK : Nat := 2
abbrev CL_NOTICE : Nat := 3

/-- Slot `k` carries a class (R269). -/
def slotClass (s : State) (k c : Nat) : Bool := s.bitOf (F.DRL_SLOTs_CFG_CLASS k) c
def slotType (s : State) (k : Nat) : Nat := s.get (F.DRL_SLOTs_CFG_TYPE k)
def slotArmBit (s : State) (k : Nat) : Bool := s.flag (F.DRL_SLOTs_CFG_ARM k)

/-- DRL (R255 to R258): a commit names a loop where it writes DRL_INn_CFG, or where it leaves SAD1 named and stops it. -/
def checkDrl (s t : State) (ws : List (Nat × Word)) : Deny :=
  firstDeny [
    firstOf (upto 4) (fun n => denyIf (drlActive t n && !sameRate (cfgRate t (routeOf t (144 + n))) (16000, 1)) 0x0004 (objReg (A.DRL_INn_CFG n))),
    firstOf (upto 4) (fun n => denyIf (t.flag (F.DRL_INn_CFG_TL n) && !t.flag F.LSN_CFG_SAD1_EN &&
      (ws.any (fun w => w.1 == A.DRL_INn_CFG n) || !(s.flag (F.DRL_INn_CFG_TL n) && !s.flag F.LSN_CFG_SAD1_EN))) 0x0005 (objReg (A.DRL_INn_CFG n))),
    firstOf (upto 64) (fun k => denyIf (t.flag (F.DRL_SLOTs_CFG_SENTRY k) && !s.flag (F.DRL_SLOTs_CFG_SENTRY k) &&
      (slotType t k == 2 || (slotClass t k CL_STOP && !slotClass t k CL_WAKE))) 0x0001 (objReg (A.DRL_SLOTs_CFG k))),
    let tooMany := fun (u : State) => (upto 64).filter (fun k => slotArmBit u k && u.flag (F.DRL_SLOTs_CFG_SENTRY k))
    denyIf (decide (8 < (tooMany t).length) && decide ((tooMany s).length < (tooMany t).length)) 0x0001 (objReg (A.DRL_SLOTs_CFG (nth (tooMany t) 8 0))) ]

/-- Two regions share a byte. -/
def overlap (s : State) (j k : Nat) : Bool :=
  decide (stripBase s j < stripBase s k + stripNblk s k * stripB s k) && decide (stripBase s k < stripBase s j + stripNblk s j * stripB s j)

/-- Two strips share a slot. -/
def shareSlot (s : State) (j k : Nat) : Bool :=
  let a := s.get (F.SWA_STs_CFG_FIRST j)
  let b := s.get (F.SWA_STs_CFG_FIRST k)
  decide (a < b + stripSlots s k) && decide (b < a + stripSlots s j)

/-- The 64-bit value of a UACK write (R316). -/
def uackValue (s : State) (ws : List (Nat × Word)) (k : Nat) : Nat :=
  let lo := match wordAt ws (A.SWA_STs_UACK_LO k) with | some w => w | none => stripUptr s k % 2 ^ 32
  let hi := match wordAt ws (A.SWA_STs_UACK_HI k) with | some w => w | none => stripUptr s k / 2 ^ 32
  lo + 2 ^ 32 * hi

/-- Stamp of the block that strip `k` is writing, or would write next. -/
def headStamp (s : State) (k : Nat) : Nat :=
  match (s.strip k).cur with | some b => b.stamp | none => (swathSC s + 255) / 256 * 256

/-- SWA, R289 to R316. -/
def checkSwa (s t : State) (ws : List (Nat × Word)) : Deny :=
  let on := (upto 8).filter (stripOn t)
  firstDeny [
    denyIf (fchanged s t F.SWA_CFG_DIV && (upto 8).any (stripOn s)) 0x0003 (objReg A.SWA_CFG),
    (let k := t.get F.SWA_CFG_SAFE_STRIP
     denyIf (t.flag F.SWA_CFG_SAFE_EN && (changed s t A.SWA_CFG || changed s t (A.SWA_STs_CFG k) || changed s t (A.SWA_STs_NBLK k)) &&
       decide (1048576 < stripNblk t k * stripB t k)) 0x0001 (objReg A.SWA_CFG)),
    firstOf on (fun k => denyIf (on.any (fun j => decide (j < k) && (shareSlot t j k || overlap t j k)) &&
      (on.any (fun j => decide (j ≤ k) && (changed s t (A.SWA_STs_CFG j) || changed s t (A.SWA_STs_BASE j) || changed s t (A.SWA_STs_NBLK j)))))
      0x0002 (objReg (A.SWA_STs_CFG k))),
    firstOf on (fun k => denyIf (stripOn s k && (fchanged s t (F.SWA_STs_CFG_FMT k) || fchanged s t (F.SWA_STs_CFG_FIRST k) ||
      fchanged s t (F.SWA_STs_CFG_NSLOT k) || changed s t (A.SWA_STs_BASE k) || fchanged s t (F.SWA_STs_NBLK_NBLK k))) 0x0003 (objReg (A.SWA_STs_CFG k))),
    firstOf (upto 8) (fun k =>
      let v := uackValue s ws k
      denyIf (((wordAt ws (A.SWA_STs_UACK_LO k)).isSome || (wordAt ws (A.SWA_STs_UACK_HI k)).isSome) &&
        (decide (v % 256 ≠ 0) || decide (v ≤ stripUptr s k) || decide (headStamp s k < v))) 0x0001 (objReg (A.SWA_STs_UACK_LO k))) ]

/-- The references of task `t` of core `c` (R501). -/
def checkTask (s t : State) (c k : Nat) : Deny :=
  if taskKind t c k = 0 then none
  else if taskN t c k = 0 then some (0x0005, objTask c k)
  else if taskKind t c k = KIND_QUEUE then
    let q := taskSrc t c k
    if 64 ≤ q ∨ (queueClass q ≠ 0 ∧ queueClass q ≠ 2) then some (0x0005, objTask c k)
    else if !queueOn t q then (if queueOn s q then none else some (0x0005, objTask c k))
    else if t.get (F.QUE_Qn_CONS_CORE q) ≠ c ∨ t.get (F.QUE_Qn_CONS_TASK q) ≠ k then some (0x0005, objTask c k)
    else match queueRate t rateFuel q with
      | some r => denyIf (r.1 == 0) 0x0005 (objTask c k)
      | none => none
  else none

/-- FRW, R363 to R368, R501. -/
def checkFrw (s t : State) (ws : List (Nat × Word)) : Deny :=
  firstDeny [
    denyIf (wroteField ws F.FRW_SWAP_REQ == 1 && (s.get F.FRW_SWAP_STATE == 1 || s.get F.FRW_SWAP_STATE == 2)) 0x0003 (objReg A.FRW_SWAP),
    firstOf (upto 4) (fun c => firstOf (upto 16) (fun k => checkTask s t c k)),
    firstOf (upto 4) (fun c => denyIf (t.flag (F.FRW_COREc_CTL_RETIRE c) && !s.flag (F.FRW_COREc_CTL_RETIRE c) &&
      (upto 16).any (fun k => taskKind t c k != 0)) 0x0003 (objReg (A.FRW_COREc_CTL c))) ]

/-- The task names of a queue that must be enabled (R502). -/
def queueEnds (s : State) (n : Nat) : List (Nat × Nat) :=
  let p := (s.get (F.QUE_Qn_PROD_CORE n), s.get (F.QUE_Qn_PROD_TASK n))
  let c := (s.get (F.QUE_Qn_CONS_CORE n), s.get (F.QUE_Qn_CONS_TASK n))
  if queueClass n = 0 then [c] else if queueClass n = 2 then [p, c] else [p]

/-- QUE, R487, R502. The commit of the RETIRE action re-binds queues that stay enabled (R741). -/
def checkQue (s t : State) (move : Bool) : Deny :=
  firstOf (upto 64) (fun n =>
    let en := queueOn t n
    let was := queueOn s n
    firstDeny [
      denyIf (en && was && (fchanged s t (F.QUE_Qn_CFG_DEPTH4 n) || (!move && (changed s t (A.QUE_Qn_PROD n) || changed s t (A.QUE_Qn_CONS n))))) 0x0003 (objQueue n),
      denyIf (was && !en && (upto 4).any (fun c => (upto 16).any (fun k => taskKind t c k == KIND_QUEUE && taskSrc t c k == n))) 0x0003 (objQueue n),
      denyIf (was && !en && queueClass n == 1 && (upto 148).any (fun d => routeOf t d == n + 1)) 0x0003 (objQueue n),
      denyIf (en && (queueEnds t n).any (fun e => taskKind t e.1 e.2 == 0)) 0x0005 (objQueue n) ])

/-- HG0 and HG1, R637, R678. -/
def checkHg (s t : State) : Deny :=
  firstDeny [
    firstOf (upto 2) (fun x => denyIf (s.flag (F.HGx_CFG_EN x) && !t.flag (F.HGx_CFG_EN x) &&
      (upto 8).any (fun k => stripOn t k && t.get (F.SWA_STs_UNL_DEST k) == 2 + x)) 0x0005 (objReg (A.HGx_CFG x))),
    firstOf (upto 2) (fun x => denyIf (changed s t (A.HGx_USTR x) &&
      (t.get (F.HGx_USTR_STREAMS 0) &&& t.get (F.HGx_USTR_STREAMS 1)) != 0) 0x0002 (objReg (A.HGx_USTR x))) ]

/-- Armed stop pairs of a configuration: slot and input (R504). -/
def stopPairs (s : State) : List (Nat × Nat) :=
  (upto 64).flatMap (fun k =>
    if slotArmBit s k && slotClass s k CL_STOP then
      (if slotType s k = 2 then [s.get F.DRL_NET_IN] else (upto 4).filter (fun n => s.bitOf (F.DRL_SLOTs_CFG_INMASK k) n)).filter
        (drlActive s) |>.map (fun n => (k, n))
    else [])

/-- The Drill inputs that feed an armed stop slot. -/
def stopInputs (s : State) : List Nat := (upto 4).filter (fun n => (stopPairs s).any (fun p => p.2 == n))

/-- The tasks of SAF_DEP. -/
def depTasks (s : State) : List (Nat × Nat) := (upto 4).flatMap (fun c => ((upto 16).filter (depends s c)).map (fun k => (c, k)))

/-- The arming references of R694 (code 0x0005 and 0x010B). -/
def checkArmRefs (t : State) : Deny :=
  if !t.flag F.SAF_ARM_REQ then none
  else
    firstDeny [
      denyIf (stopPairs t).isEmpty 0x0005 (objReg A.SAF_ARM),
      firstOf (stopInputs t) (fun n =>
        let c := routeOf t (144 + n)
        if 33 ≤ c ∧ c ≤ 48 then
          denyIf (t.get (F.SAF_CONTRIBd_LC n) == 0 ||
            !depends t (t.get (F.QUE_Qn_PROD_CORE (c - 1))) (t.get (F.QUE_Qn_PROD_TASK (c - 1)))) 0x0005 (objReg (A.SAF_CONTRIBd n))
        else none),
      firstDeny ((depTasks t).map (fun e => match taskRate t e.1 e.2 with
        | some r => denyIf (decide (r.1 * 90 < 3 * 1000 * r.2)) 0x010B (objTask e.1 e.2)
        | none => none)),
      firstOf (upto 4) (fun p => denyIf (t.flag (F.SAF_PARTp_STOPSRC p) && (!t.flag (F.SAF_PARTp_HBREQ p) ||
        t.get (F.SAF_PARTp_TDEC p) == 0)) 0x0005 (objReg (A.SAF_PARTp p))) ]

/-- Step 2 (R498). -/
def checkConsistency (s t : State) (ws : List (Nat × Word)) (move : Bool) : Deny :=
  firstDeny [checkMic s t ws, checkFlt s t ws, checkLsn s t ws, checkDrl s t ws, checkSwa s t ws, checkFrw s t ws, checkQue s t move,
    checkHg s t, checkArmRefs t]

/-! ## Step 3: state and safety -/

/-- The permitted transitions that a request can make (R118, R119). -/
def transitionOk (from_ upTo : Nat) : Bool :=
  (from_ == SENTRY && (upTo == WATCH || upTo == SERVICE)) || (from_ == WATCH && (upTo == RECORD || upTo == SENTRY || upTo == SERVICE)) ||
  (from_ == RECORD && (upTo == WATCH || upTo == SERVICE)) || (from_ == SERVICE && (upTo == WATCH || upTo == SENTRY)) ||
  (from_ == TRIPPED && (upTo == WATCH || upTo == RECORD))

/-- The targets that a start-up failure forbids (R133). -/
def rowForbids (row upTo : Nat) : Bool :=
  (row == 1 && (upTo == SENTRY || upTo == WATCH || upTo == RECORD)) || (row == 2 && (upTo == WATCH || upTo == RECORD)) ||
  (row == 3 && (upTo == WATCH || upTo == RECORD || upTo == SENTRY)) || (row == 4 && upTo == SENTRY) || (row == 5 && (upTo == WATCH || upTo == RECORD))

/-- Some core that is not retired reads UNSIGNED (R355). -/
def unsignedCore (s : State) : Bool := (upto 4).any (fun c => s.flag (F.FRW_COREc_ST_UNSIGNED c) && coreState s c != C_RETIRED) ||
  s.flag F.FRW_SENT_CTL_UNSIGNED

/-- A request for a state (R117), the deferred words apart. DEDUCED (log 21): in TRIPPED every target but WATCH and RECORD is
refused, TRIPPED itself among them (R119), although R117 accepts a request that names the state in force. -/
def checkRequest (s : State) (upTo : Nat) : Deny :=
  if upTo = 0 ∨ (upTo = s.pstate ∧ s.pstate ≠ TRIPPED ∧ s.pwr.trans.isNone) then none
  else
    match s.pwr.trans with
    | some t => denyIf (t.target != upTo) 0x0302 (objState upTo)
    | none =>
      if s.pstate = TRIPPED then denyIf (upTo != WATCH && upTo != RECORD) 0x0305 (objState upTo)
      else if !transitionOk s.pstate upTo then some (0x0301, objState upTo)
      else if armedRules s && (upTo == SENTRY || upTo == SERVICE) then some (0x0303, objState upTo)
      else if rowForbids s.pwr.failRow upTo then some (0x0304, objState upTo)
      else if s.pstate = SERVICE ∧ unsignedCore s then some (0x0306, objState upTo)
      else none

/-- Class 1 is permitted in SENTRY alone (R37), and not while SENTRY is being left (R38; DEDUCED, log 24). -/
def classOnePermitted (s : State) : Bool :=
  decide (s.pstate = SENTRY) && (match s.pwr.trans with | some t => decide (t.target = SENTRY) | none => true)

/-- A clock-plan commit (R51, the checks of steps 4 to 9 apart). -/
def checkPlan (s t : State) (ws : List (Nat × Word)) : Deny :=
  if !isPlan s ws then none
  else
    let c := t.clk.cls
    let o := objReg A.CLK_PLAN
    firstDeny [
      denyIf (decide (c = 0) || decide (4 < c)) 0x0202 o,
      denyIf (c != 1 && (decide (t.clk.mult < 8) || decide (maxM c < t.clk.mult))) 0x0201 o,
      denyIf (c == 1 && !classOnePermitted s) 0x0202 o,
      denyIf (armedRules s) 0x0303 o,
      denyIf (s.pstate == RECORD || s.pstate == TRIPPED) 0x0305 o ]

/-- The valid D_P of a class (R42): the code is allowed for an enabled group. DESIGN CHOICE (log 75): in class 1 the table gives
D_P = 8 to the sentry path only and does not say what another enabled group does there; it is admitted for every group. -/
def dpValid (c code : Nat) : Bool :=
  code == 0 || (c == 1 && code == 2) || (c == 2 && decide (1 ≤ code) && decide (code ≤ 3)) ||
  (c == 3 && decide (1 ≤ code) && decide (code ≤ 4)) || (c == 4 && decide (2 ≤ code) && decide (code ≤ 5))

def checkDp (s t : State) (ws : List (Nat × Word)) : Deny :=
  denyIf ((isPlan s ws || (wordAt ws A.CLK_PDM).isSome || (wordAt ws A.MIC_PWRCTL).isSome) &&
    (upto 4).any (fun g => t.bitOf F.MIC_PWRCTL_EN g && !dpValid t.clk.cls (t.get (dpField g)) &&
      (isPlan s ws || fchanged s t (dpField g) || !s.bitOf F.MIC_PWRCTL_EN g))) 0x0203 (objReg A.CLK_PDM)

/-- The channels that contribute to a Drill input (R695). -/
def contributing (s : State) (n : Nat) : List Nat :=
  let c := routeOf s (144 + n)
  if 1 ≤ c ∧ c ≤ 32 then [c - 1] else if 65 ≤ c ∧ c ≤ 96 then [c - 65]
  else if 33 ≤ c ∧ c ≤ 48 then ones 32 (s.get (F.SAF_CONTRIBd_LC n)) else []

/-- INSTALL would go into a stop-class slot (R278). -/
def installsStop (t : State) : Bool :=
  match installRecord t with | some r => (recSlots r).any (fun k => slotClass t k CL_STOP) | none => false

/-- What a commit may not change while REQ = 1 (R695, R158, R278). -/
def checkFrozen (s t : State) (ws : List (Nat × Word)) : Deny :=
  if !s.flag F.SAF_ARM_REQ then none
  else
    let ins := stopInputs s
    let chans := ins.flatMap (contributing s)
    let phys := chans.map (mapPhys s) ++ (if ins.any (fun n => routeOf s (144 + n) == 49) then [sentryIn s] else [])
    let c := fun (b : Bool) (a : Nat) => denyIf b 0x0303 (objReg a)
    firstDeny [
      c (fchanged s t F.DRL_CFG_EN) A.DRL_CFG,
      firstOf ins (fun n => c (changed s t (A.DRL_INn_CFG n)) (A.DRL_INn_CFG n)),
      firstOf ins (fun n => c (changed s t (A.FLT_RTd (144 + n))) (A.FLT_RTd (144 + n))),
      firstOf (upto 16) (fun k => c (changed s t (A.FLT_GLCk k)) (A.FLT_GLCk k)),
      firstOf phys (fun p => c (changed s t (A.FLT_CICp p)) (A.FLT_CICp p)),
      firstOf chans (fun n => c (changed s t (A.FLT_CHn_FIR n)) (A.FLT_CHn_FIR n)),
      firstOf chans (fun n => c (changed s t (A.MIC_MAPn n)) (A.MIC_MAPn n)),
      firstOf phys (fun p => c (calChange s t p) (A.MIC_CALn_GAIN p)),
      firstOf [A.SAF_DEP_LO, A.SAF_DEP_HI, A.SAF_BG] (fun a => c (changed s t a) a),
      firstOf (upto 4) (fun n => c (changed s t (A.SAF_CONTRIBd n)) (A.SAF_CONTRIBd n)),
      firstOf (upto 4) (fun p => c (changed s t (A.SAF_PARTp p)) (A.SAF_PARTp p)),
      firstDeny ((depTasks s).map (fun e => denyIf (changed s t (A.FRW_Tc_t_ENTRY e.1 e.2) || changed s t (A.FRW_Tc_t_TRIG e.1 e.2) ||
        changed s t (A.FRW_Tc_t_BOUND e.1 e.2)) 0x0303 (objTask e.1 e.2))),
      c (wroteField ws F.FRW_SWAP_REQ == 1 && !(depTasks s).isEmpty) A.FRW_SWAP,
      firstOf (upto 4) (fun k => c (fchanged s t (F.FRW_COREc_CTL_RETIRE k) && (depTasks s).any (fun e => e.1 == k)) (A.FRW_COREc_CTL k)),
      firstOf (upto 64) (fun k => c (fchanged s t (F.DRL_SLOTs_CFG_ARM k) && (slotClass s k CL_STOP)) (A.DRL_SLOTs_CFG k)),
      c (wroteField ws F.DRL_RECCTL_ACTION == 1 && installsStop t) A.DRL_RECCTL,
      c (wroteField ws F.MIC_PWRCTL_CYCLE != 0) A.MIC_PWRCTL ]

/-- FRW's state rules (R355, R363, R365, R367, R368). -/
def checkFrwState (s t : State) (ws : List (Nat × Word)) : Deny :=
  firstDeny [
    denyIf (fchanged s t F.FRW_CFG_SPLIT && (upto 4).any (coreLive s)) 0x0305 (objReg A.FRW_CFG),
    firstOf (upto 4) (fun c => denyIf (s.flag (F.FRW_COREc_CTL_RUN c) && !t.flag (F.FRW_COREc_CTL_RUN c) && s.pstate != SERVICE &&
      (upto 16).any (fun k => taskKind t c k != 0)) 0x0305 (objReg (A.FRW_COREc_CTL c))),
    denyIf (wroteField ws F.FRW_SWAP_REQ == 1 && (!s.awake || !t.flag F.FRW_CFG_SPLIT)) 0x0305 (objReg A.FRW_SWAP),
    denyIf (wroteField ws F.FRW_SWAP_REQ == 1 && (upto 4).any (fun c => s.flag (F.FRW_COREc_ST_UNSIGNED c) && coreState s c != C_RETIRED))
      0x0306 (objReg A.FRW_SWAP) ]

/-- Step 3 (R498). -/
def checkState (s t : State) (ws : List (Nat × Word)) : Deny :=
  firstDeny [
    checkPlan s t ws, checkDp s t ws,
    checkRequest s (wroteField ws F.PWR_REQ_TARGET),
    denyIf (s.pstate == SENTRY && bit (wroteField ws F.MIC_PWRCTL_CYCLE) (sentryIn s / 8)) 0x0305 (objReg A.MIC_PWRCTL),
    checkFrozen s t ws, checkFrwState s t ws,
    denyIf (t.flag F.SAF_ARM_REQ && s.pstate != WATCH && s.pstate != RECORD) 0x0303 (objReg A.SAF_ARM) ]

/-! ## Steps 4 to 9 -/

/-- Rates by the configuration in kMAC/s: `m` MACs per output of chain `n`. -/
def chainMacs (t : State) (n m : Nat) : Nat :=
  kmac (m * cfgFp t (mapPhys t n)) (cicK1 t (mapPhys t n) * chainK2 t n)

/-- The filter pool's demand after a commit: steady terms, fades in progress or started, a measurement (R198). -/
def poolAfter (s t : State) : Nat :=
  let inputs := (upto 32).filter (fun p => t.bitOf F.MIC_INEN_EN p)
  let fading := (upto 32).filter (fun n => (s.chain n).fade.isSome || startsFade s t n)
  let cal := (upto 32).filter (fun p => calFading s p || (calChange s t p && inputMapped t p))
  sumN (inputs.map (fun p => kmac (10 * cfgFp t p) (cicK1 t p))) +
  sumN (((upto 32).filter (mapOn t)).map (fun n => chainMacs t n (t.get (F.FLT_CHn_FIR_TAPSM1 n) + 5))) +
  sumN (fading.map (fun n => chainMacs t n (t.get (F.FLT_CHn_FIR_TAPSM1 n) + 7))) +
  sumN (cal.map (fun p => kmac (10 * cfgFp t p) (cicK1 t p))) +
  (match s.mic.cal with | some m => kmac (65 * cfgFp t (m.targets.headD 0)) (cicK1 t (m.targets.headD 0)) | none => 0)

/-- A chain's own terms change with the commit. -/
def chainTerm (s t : State) (n : Nat) : Bool :=
  startsFade s t n || mapOn s n != mapOn t n || chainMacs s n (s.get (F.FLT_CHn_FIR_TAPSM1 n) + 5) != chainMacs t n (t.get (F.FLT_CHn_FIR_TAPSM1 n) + 5)

/-- Step 4: the filter pool, with the fades that a LOAD starts. -/
def checkPool (s t : State) (ws : List (Nat × Word)) : Deny :=
  let t := withLoad t ws
  let extra := if wroteField ws F.MIC_CALCTL_START = 1 then
      kmac (65 * cfgFp t ((ones 32 (t.get F.MIC_CALSEL_SEL)).headD 0)) (cicK1 t ((ones 32 (t.get F.MIC_CALSEL_SEL)).headD 0)) else 0
  denyIf (decide (63 * t.fC / 1000 < poolAfter s t + extra)) 0x0103
    (0x04000000 + (match (upto 32).find? (chainTerm s t) with | some n => n | none => 0xFFFFFF))

/-- The demand of a task in cycles per second, rounded up (R500). -/
def taskDemand (s : State) (c k : Nat) : Nat :=
  match taskRate s c k with
  | some r => ceilDiv (s.get (F.FRW_Tc_t_BOUND_CYC c k) * r.1) r.2
  | none => 0

/-- U_c (R500). -/
def coreDemand (s : State) (c : Nat) : Nat := sumN ((upto 16).map (taskDemand s c))

/-- CAP (R500): 0 for a retired core. -/
def coreCap (s : State) (c : Nat) : Nat :=
  if coreState s c = C_RETIRED ∨ s.flag (F.FRW_COREc_CTL_RETIRE c) then 0 else 95 * s.fC / 100

/-- Step 5: the cores. -/
def checkCores (s t : State) : Deny :=
  firstOf (upto 4) (fun c =>
    denyIf (decide (coreCap t c < coreDemand t c) || (decide (coreCap t c = 0) && (upto 16).any (fun k => taskKind t c k != 0))) 0x0101
      (objTask c (match (upto 16).find? (fun k => taskDemand s c k != taskDemand t c k) with
        | some k => k
        | none => ((upto 16).find? (fun k => taskKind t c k != 0)).getD 0)))

/-- L of a template slot. -/
def slotLen (s : State) (k : Nat) : Nat := s.get (F.DRL_SLOTs_ADJ_LEN k)

/-- The Drill's pairs of an armed template slot and an active input (R273). -/
def drlPairs (s : State) : List (Nat × Nat) :=
  (upto 64).flatMap (fun k =>
    if slotArmBit s k && slotType s k == 1 then
      ((upto 4).filter (fun n => s.bitOf (F.DRL_SLOTs_CFG_INMASK k) n && drlActive s n)).map (fun n => (k, n))
    else [])

/-- The full profile's demand, and its stop part, in core cycles per frame (R273). -/
def drlDemand (s : State) : Nat :=
  if !s.flag F.DRL_CFG_EN then 0
  else
    2500 * ((upto 4).filter (drlActive s)).length + sumN ((drlPairs s).map (fun p => 4 * slotLen s p.1)) +
    (if s.flag F.DRL_CFG_NET_EN then ceilDiv (s.get F.DRL_NET_MACS_MACS) (32 * Nat.max 1 (s.get F.DRL_NET_EVAL)) else 0)

def drlStopDemand (s : State) : Nat :=
  if !s.flag F.DRL_CFG_EN then 0
  else 2500 * ((upto 4).filter (drlActive s)).length +
    sumN (((drlPairs s).filter (fun p => slotClass s p.1 CL_STOP)).map (fun p => 4 * slotLen s p.1))

def drlCap (s : State) : Nat := 9 * s.fC / 1000
def drlStopCap (s : State) : Nat := 18 * s.fC / 10000

/-- The object of a Drill refusal (R506). -/
def drlObject (s t : State) (stop : Bool) : Nat :=
  let pairs := fun (u : State) => (drlPairs u).filter (fun p => !stop || slotClass u p.1 CL_STOP)
  let news := (pairs t).filter (fun p => !(pairs s).contains p || slotLen s p.1 != slotLen t p.1)
  match news.head? with
  | some p => 0x05000000 + 4 * p.1 + p.2
  | none => match (upto 4).find? (fun n => drlActive s n != drlActive t n) with
    | some n => 0x05800000 + n
    | none => 0x05FFFFFF

/-- Step 6: the Drill. -/
def checkDrill (s t : State) : Deny :=
  firstDeny [denyIf (decide (drlCap t < drlDemand t)) 0x0104 (drlObject s t false),
    denyIf (decide (drlStopCap t < drlStopDemand t)) 0x0105 (drlObject s t true)]

/-- `a × n ≥ b` for fractions. -/
def rateCovers (a : Nat × Nat) (n : Nat) (b : Nat × Nat) : Bool := decide (b.1 * a.2 ≤ a.1 * n * b.2)

/-- The depth that covers two periods of a task at rate `f` (R502): ceil(f × 2 / r) + 4. -/
def depthFor (f r : Nat × Nat) : Nat := ceilDiv (f.1 * 2 * r.2) (f.2 * r.1) + 4

/-- Step 7 for one enabled queue (R502): rate first, then depth. -/
def checkQueueRate (t : State) (n : Nat) : Deny :=
  let prod := taskRate t (t.get (F.QUE_Qn_PROD_CORE n)) (t.get (F.QUE_Qn_PROD_TASK n))
  let cons := taskRate t (t.get (F.QUE_Qn_CONS_CORE n)) (t.get (F.QUE_Qn_CONS_TASK n))
  let depth := queueDepth t n
  match queueRate t rateFuel n with
  | none => some (0x0106, objQueue n)
  | some f =>
    if queueClass n = 3 then denyIf (decide (depth < 4)) 0x0107 (objQueue n)
    else if queueClass n = 1 then
      match prod with
      | none => some (0x0106, objQueue n)
      | some r => firstDeny [denyIf (!sameRate f (t.fH, Nat.max 1 (t.get (F.QUE_Qn_CFG_RDIV n)))) 0x0106 (objQueue n),
          denyIf (decide (depth < depthFor f r)) 0x0107 (objQueue n)]
    else
      match cons with
      | none => some (0x0106, objQueue n)
      | some r => firstDeny [denyIf (!rateCovers r (t.get (F.QUE_Qn_CONS_POPN n)) f) 0x0106 (objQueue n),
          denyIf (f.1 != 0 && decide (depth < depthFor f r)) 0x0107 (objQueue n)]

/-- Step 7: the queues and their pool (R486, R502). -/
def checkQueues (s t : State) : Deny :=
  let on := (upto 64).filter (queueOn t)
  firstDeny [firstOf on (checkQueueRate t),
    denyIf (decide (16384 < poolUsed t)) 0x0108
      (objQueue (((upto 64).find? (fun n => queueOn s n != queueOn t n || fchanged s t (F.QUE_Qn_CFG_DEPTH4 n))).getD 0))]

/-- Step 8: the links (R503): each port in UP, with the lanes the commit leaves. -/
def checkLinks (s t : State) : Deny :=
  firstOf (upto 2) (fun x =>
    let lanes := s.get (F.HGx_ST_TXL x) &&& t.get (F.HGx_CFG_LANES x)
    let lanes := if t.get (F.HGx_CFG_LANES x) ≠ s.get (F.HGx_CFG_LANES x) then t.get (F.HGx_CFG_LANES x) else lanes
    denyIf (hgUp s x && decide (hgCapacity t lanes < hgReserved t x)) 0x0109
      (0x06000000 + 4 * x + ((upto 4).find? (fun v => fchanged s t (F.HGx_RESv_RES x v))).getD 0))

/-- DRL_INn_GD of an input (R267), in units of 100 ns; 0 without a route (R287). -/
def groupDelay (s : State) (n : Nat) : Nat :=
  let c := routeOf s (144 + n)
  let r := cfgRate s c
  if c = 0 then 0 else Config.groupDelay c r.1 r.2 % 65536

/-- T_dec of a stop pair in units of 100 ns (R504). -/
def decisionTime (s : State) (p : Nat × Nat) : Nat :=
  groupDelay s p.2 + (if slotType s p.1 = 2 then 100000 * s.get F.DRL_NET_EVAL else 20000)

/-- T_max of the device's own pairs. -/
def ownTmax (s : State) : Nat := maxN ((stopPairs s).map (decisionTime s))

/-- The partners whose stops the device accepts. -/
def stopPartners (s : State) : List Nat := (upto 4).filter (fun p => s.flag (F.SAF_PARTp_STOPSRC p))

/-- T_dec of a partner, and T_chain (R504), in units of 100 ns. -/
def partnerTdec (s : State) (p : Nat) : Nat := 1000 * s.get (F.SAF_PARTp_TDEC p)
def partnerChain (s : State) (p : Nat) : Nat := partnerTdec s p + 10000 * s.get (F.HG0_ROUTEp_HOPS p) + 210000

/-- The admitted T_chain (R504). -/
def chainTime (s : State) : Nat := Nat.max (ownTmax s + 210000) (maxN ((stopPartners s).map (partnerChain s)))

/-- Step 9: the safety reaction chain. -/
def checkChain (t : State) : Deny :=
  if !(t.flag F.SAF_ARM_REQ || t.armed) then none
  else
    firstDeny [
      firstDeny ((stopPairs t).map (fun p => firstDeny [
        denyIf (decide (1000000 < decisionTime t p)) 0x010B (0x07000000 + 4 * p.1 + p.2),
        denyIf (decide (1500000 < ownTmax t + 210000)) 0x010A (0x07000000 + 4 * p.1 + p.2)])),
      firstOf (stopPartners t) (fun p => firstDeny [
        denyIf (decide (1000000 < partnerTdec t p)) 0x010B (0x07800000 + p),
        denyIf (decide (1500000 < partnerChain t p)) 0x010A (0x07800000 + p)]) ]

/-- Steps 4 to 9 (R498). -/
def checkCapacity (s t : State) (ws : List (Nat × Word)) : Deny :=
  firstDeny [checkPool s t ws, checkCores s t, checkDrill s t, checkQueues s t, checkLinks s t, checkChain t]

/-- The configuration commit of an exit from SENTRY is judged whole, on the deferred words (R117, R121, R140). -/
def checkDeferred (s : State) : Deny :=
  if s.pwr.deferred.isEmpty then none
  else
    let ws := deferredWords s
    let t := candidate s ws
    firstDeny [checkFields s t ws, checkConsistency s t ws false, checkCapacity s t ws]

/-- The admission of a commit (R498): while writes are deferred, and for a plan naming class 1, steps 1 to 3 alone (R140,
R51). A request to leave SENTRY is judged with the deferred words (R117). `move`: the commit is the RETIRE action's. -/
def admitWords (s : State) (ws : List (Nat × Word)) (move : Bool) : Deny :=
  let s := if s.pwr.deferring then storeWords s (deferredWords s) else s
  let t := candidate s ws
  let upTo := wroteField ws F.PWR_REQ_TARGET
  firstDeny [
    checkFields s t ws, checkConsistency s t ws move, checkState s t ws,
    (if s.pwr.deferring || t.clk.cls == 1 then none else checkCapacity s t ws),
    (if s.pstate = SENTRY ∧ s.pwr.trans.isNone ∧ (upTo = WATCH ∨ upTo = SERVICE) ∧ s.clk.cls ≠ 1 then checkDeferred s else none) ]

/-! ## What an accepted commit leaves in the admission registers -/

/-- The admission registers show the demands, rates and times of a configuration `t` (R500, R502, R504, R517, R518). -/
def admittedAs (t s : State) : State :=
  if s.pwr.deferring then s
  else
    let s := forEach (upto 4) (fun s c => s.put (F.FRW_ADM_Uc_U c) (coreDemand t c)) s
    let s := forEach (upto 64) (fun s n => s.put (F.QUE_Qn_RATE_RATE n)
      (if queueOn t n then (match queueRate t rateFuel n with | some r => ceilDiv r.1 r.2 | none => 0) else 0)) s
    if t.flag F.SAF_ARM_REQ || t.armed then
      (s.put F.FRW_ADM_SAFE_CHAIN (Nat.min 65535 (ceilDiv (chainTime t) 1000))).put F.FRW_ADM_SAFE_TDEC (Nat.min 65535 (ceilDiv (ownTmax t) 1000))
    else s

/-- What an accepted commit leaves in the admission registers. -/
def admitted (s : State) : State := admittedAs s s

end Sys2Proof.Machine
end

