-- ==== Sys2Proof/Machine/MicOps.lean ====
section
/-! DEFINITION. What the power states share with the microphone inputs (R136, R137, R154 to R164): group power, settling
intervals, states of an input, the sentry role. The rows of ch. 5 stand in Mic.lean. -/

namespace Sys2Proof.Machine

abbrev MS_OFF : Nat := 0
abbrev MS_SETTLING : Nat := 1
abbrev MS_OK : Nat := 2
abbrev MS_SUSPECT : Nat := 3
abbrev MS_DEVIANT : Nat := 4
abbrev MS_FAULT : Nat := 5

/-- The state of an input (R178): a latched FAULT or DEVIANT stands over the settling interval. -/
def micState (s : State) (p : Nat) : Nat :=
  if !inputOn s p then MS_OFF
  else if MS_DEVIANT ≤ s.get (F.MIC_STATn_STATE p) then s.get (F.MIC_STATn_STATE p)
  else if inputSettling s p then MS_SETTLING
  else if s.get (F.MIC_STATn_STATE p) = MS_SUSPECT then MS_SUSPECT else MS_OK

/-- MIC_FAULT follows an input's latched state. -/
def micSet (s : State) (p st : Nat) : State :=
  (s.put (F.MIC_STATn_STATE p) st).putBit F.MIC_FAULT_FAULT p (decide (st = MS_FAULT))

def setSettle (s : State) (p : Nat) (k : Settle) : State :=
  { s with mic := { s.mic with settle := setNth s.mic.settle p k, dens := setNth s.mic.dens p [] } }

/-- The inputs of group `g`. -/
def groupInputs (g : Nat) : List Nat := (upto 8).map (fun i => 8 * g + i)

/-- An interval starts on an input (R137); a suspicion in progress ends with it, since the input is checked afresh. -/
def settleStart (s : State) (p : Nat) (k : Settle) : State :=
  let s := inputUnsettled (setSettle s p k) p
  if s.get (F.MIC_STATn_STATE p) = MS_SUSPECT then micSet s p MS_OK else s

/-- An interval ends on an input (R137): the count of U starts, CIC registers cleared (R206); the sentry stream counts too. -/
def settleEnd (s : State) (p : Nat) (k : Settle) : State :=
  if nth s.mic.settle p .none = k ∧ k ≠ .none then
    let s := inputRestart (setSettle s p .none) p true
    let s := if sentryIn s = p then sentryCount s else s
    { s with mic := { s.mic with levels := setNth s.mic.levels p [] } }
  else s

/-- The frames of a group's inputs count from a new anchor (R208). -/
def groupAnchor (s : State) (g : Nat) : State := forEach (groupInputs g) (fun s p => s.setCic p { s.cic p with frames := 0 }) s

/-- A group's MICPWR asserts and its clock starts at its divider (R136, R157): its enabled inputs pass through TSU. -/
def groupUp (s : State) (g : Nat) : State :=
  let s := groupAnchor (setDiv (s.putBit F.PWR_MICPWR_GRP g true) g (divWanted s g)) g
  forEach ((groupInputs g).filter (fun p => s.bitOf F.MIC_INEN_EN p)) (fun s p => cicClear (settleStart s p .tsu) p) s

/-- A group's clock stops (R157). -/
def groupStop (s : State) (g : Nat) : State :=
  forEach (groupInputs g) (fun s p => setSettle s p .none) (setDiv s g 0)

/-- A group's clock stops and its MICPWR deasserts. -/
def groupDown (s : State) (g : Nat) : State := groupStop (s.putBit F.PWR_MICPWR_GRP g false) g

/-- The enabled inputs of a group pass through TMC (R137); one still in TSU stays in it. -/
def groupTmc (s : State) (g : Nat) : State :=
  forEach ((groupInputs g).filter (fun p => s.bitOf F.MIC_INEN_EN p && decide (nth s.mic.settle p .none ≠ .tsu)))
    (fun s p => settleStart s p .tmc) s

/-- A change of a running group's f_P (R160): its clock takes the divider, its inputs pass through TMC. -/
def groupMode (s : State) (g d : Nat) : State :=
  if groupPowered s g ∧ d ≠ 0 ∧ d ≠ groupDiv s g then groupTmc (groupAnchor (setDiv s g d) g) g else s

/-- After HOLD every group that runs takes the divider it is to have, and its inputs pass through TMC (R160, R185). -/
def inputsResume (s : State) : State :=
  forEach ((upto 4).filter (groupRuns s)) (fun s g =>
    groupTmc (if divWanted s g = 0 ∨ divWanted s g = groupDiv s g then s else groupAnchor (setDiv s g (divWanted s g)) g) g) s

/-- The groups that are to be powered outside OFF and SENTRY (R157), those cycling left out. -/
def groupWanted (s : State) (g : Nat) : Bool :=
  s.bitOf F.MIC_PWRCTL_EN g && decide (dpOf (s.get (dpField g)) ≠ 0) && !s.bitOf F.MIC_PWRCTL_BUSY g

/-- Groups wanted and off, lowest first. -/
def groupsDue (s : State) : List Nat := (upto 4).filter (fun g => groupWanted s g && !groupPowered s g)

/-- Groups powered and no longer wanted go off (R157). -/
def groupsFollow (s : State) : State :=
  if s.awake then
    forEach ((upto 4).filter (fun g => groupPowered s g && !groupWanted s g && !s.bitOf F.MIC_PWRCTL_BUSY g)) groupDown s
  else s

/-- SENTRY entry, step 2 (R120, R160): the sentry group's clock drops to 0.768 MHz, the other groups' clocks stop. -/
def micStop (s : State) : State :=
  let g := sentryIn s / 8
  groupMode (forEach ((upto 4).filter (fun k => decide (k ≠ g))) groupStop s) g (dS s)

/-- SENTRY entry, step 5 (R120, R139): the other groups go off; the sentry group runs at 0.768 MHz. Called with STATE reading
SENTRY. -/
def micSentry (s : State) : State :=
  let g := sentryIn s / 8
  let s := forEach ((upto 4).filter (fun k => decide (k ≠ g))) groupDown s
  let s := s.put F.MIC_PWRCTL_BUSY 0
  let s := if groupPowered s g then groupMode s g (dS s) else groupUp s g
  let s := { s with mic := { s.mic with oldGroup := none } }
  sentryClear s

/-- SENTRY exit: a group that ran at 0.768 MHz returns to its D_P (R160), or goes off (R157). Called with the state already
entered. -/
def micWake (s : State) : State :=
  let s := groupsFollow { s with mic := { s.mic with oldGroup := none } }
  forEach ((upto 4).filter (groupRuns s)) (fun s g => groupMode s g (divWanted s g)) s

/-- The sentry role moves to the partner (R164), where it is active and in state OK and FAILOVER is 1, outside SENTRY. -/
def sentryFailover (s : State) : State :=
  let p := s.get F.MIC_CFG_PARTNER_IN
  if s.flag F.MIC_CFG_FAILOVER && s.flag F.MIC_CFG_PARTNER_EN && decide (micState s p = MS_OK) && decide (s.pstate ≠ SENTRY) then
    let s := (s.put F.MIC_CFG_SENTRY_IN p).mark F.MIC_CFG_PARTNER_EN false
    let s := (s.mark F.MIC_PART_FOVER true).event 20
    let d := s.flt.sent
    let s := { s with flt := { s.flt with sent := { d with disc := true } } }
    sadSentryChange s
  else s

/-- A sentry input that faulted in SENTRY, or SENTRY_DEAF, fails over at the next entry to WATCH or SERVICE (R164). -/
def sentryFollow (s : State) : State :=
  if micState s (sentryIn s) = MS_FAULT then sentryFailover s else s

/-- A measurement ends with ERR = aborted (R176, R184). -/
def calAbort (s : State) : State :=
  match s.mic.cal with
  | none => s
  | some _ =>
    let s := { s with mic := { s.mic with cal := none } }
    (((s.mark F.MIC_CALCTL_BUSY (s.mic.nvm.isSome)).mark F.MIC_CALCTL_DONE true).put F.MIC_CALCTL_ERR 4).event 19

end Sys2Proof.Machine
end

