-- ==== Sys2Proof/Machine/WakeOps.lean ====
section
/-! DEFINITION. The wake flags and the pre-wake (R233 to R254), and what the Drill shares with the power states (ch. 8). -/

namespace Sys2Proof.Machine

/-! ## Attention and pre-wake (R234, R242 to R244) -/

/-- HWAKE (R235) and HPRE (R244), asserted. -/
def hwakeOn (s : State) : Bool := s.flag F.LSN_WAKE_ATT || s.flag F.LSN_WAKE_QUAL
def hpreOn (s : State) : Bool := s.flag F.LSN_WAKE_PRE || decide (s.get F.LSN_WAKE_RPRE ≠ 0)

/-- An onset of SAD `u` is an attention wake where ATT_EN says so (R234). -/
def attention (s : State) (u : Nat) : State :=
  if s.bitOf F.LSN_CFG_ATT_EN u then ((s.mark F.LSN_WAKE_ATT true).bump64 (A.LSN_CNT_x_LO 0) 1).event 34 else s

/-- A pre-wake starts (R242); none does during a pre-wake or in the pause after a stand-down (R243). -/
def preStart (s : State) : State :=
  if s.flag F.LSN_CFG_PRE_EN && !s.flag F.LSN_WAKE_PRE && !s.lsn.gap then
    let s := ((s.mark F.LSN_WAKE_PRE true).bump64 (A.LSN_CNT_x_LO 4) 1).event 36
    if s.flag F.LSN_CFG_WAKE_TX then hgBroadcast s VC_CTRL T_PREWAKE 0 [] else s
  else s

/-- The own pre-wake is stood down (R243); the pause of GAP ms begins. -/
def standDown (s : State) : State :=
  if s.flag F.LSN_WAKE_PRE then
    let s := ((s.mark F.LSN_WAKE_PRE false).bump64 (A.LSN_CNT_x_LO 5) 1).event 37
    let s := { s with lsn := { s.lsn with gap := true } }
    if s.flag F.LSN_CFG_WAKE_TX then hgBroadcast s VC_CTRL T_STAND_DOWN 0 [] else s
  else s

/-- What a qualified wake of the present edge has sent, where one recorded its source at this edge (R247). -/
def wakeSame (s : State) : Option (Option (List Nat)) :=
  match s.lsn.wakeEdge with
  | some (t, b) => if t = s.time.hsck then some b else none
  | none => none

/-- A confirmation at the edge at which TMO expired: the stand-down of that edge was none (R248). The STAND-DOWN that waits, the
pause, the count and the notice go, and the confirmation counts. -/
def standUndo (s : State) : State :=
  match s.lsn.stood with
  | some (t, was) =>
    if t = s.time.hsck then
      let s := (s.setPair (A.LSN_CNT_x_LO 5) (s.pair (A.LSN_CNT_x_LO 5) - 1)).bump64 (A.LSN_CNT_x_LO 6) 1
      let s := if was then s else (s.mark (F.INT_SRCs_PEND 37) false).mark (F.INT_SRCs_LIVE 37) false
      let s := forEach (upto 2) (fun s x =>
        s.setHgp x { s.hgp x with tx := (s.hgp x).tx.filter (fun e => !(e.2.typ == T_STAND_DOWN && e.2.src == s.devid)) }) s
      { s with lsn := { s.lsn with gap := false, stood := none } }
    else s
  | none => s

/-- A qualified wake confirms the own pre-wake (R243). -/
def preConfirm (s : State) : State :=
  if s.flag F.LSN_WAKE_PRE then (s.mark F.LSN_WAKE_PRE false).bump64 (A.LSN_CNT_x_LO 6) 1 else s

/-- Partner `p`'s part of HPRE (R244). -/
def partnerPre (s : State) (p : Nat) (b : Bool) : State := s.putBit F.LSN_WAKE_RPRE p b

/-! ## The Drill's units -/

/-- The input that is the sentry profile's. -/
abbrev D_SENT : Nat := 4

def State.drlIn (s : State) (n : Nat) : DrlIn := nth s.drl.inp n DrlIn.reset
def State.setDrlIn (s : State) (n : Nat) (v : DrlIn) : State := { s with drl := { s.drl with inp := setNth s.drl.inp n v } }

/-- The key of a (slot, input) pair. -/
def pairKey (k n : Nat) : Nat := 8 * k + n

def pairNew (key : Nat) : PairSt := ⟨key, [], 0, none⟩
def State.pairSt (s : State) (k n : Nat) : PairSt := (s.drl.pairs.find? (fun p => p.key == pairKey k n)).getD (pairNew (pairKey k n))

/-- Replace a pair's entry; an entry that holds nothing is not kept. -/
def State.setPairSt (s : State) (p : PairSt) : State :=
  let rest := s.drl.pairs.filter (fun q => decide (q.key ≠ p.key))
  { s with drl := { s.drl with pairs := if p = pairNew p.key then rest else rest ++ [p] } }

/-- Drop the pairs that a predicate on slot and input selects. -/
def pairsDrop (s : State) (f : Nat → Nat → Bool) : State :=
  { s with drl := { s.drl with pairs := s.drl.pairs.filter (fun p => !f (p.key / 8) (p.key % 8)) } }

/-- The cells and candidacies of the pairs that a predicate selects end; a refractory count stays. -/
def pairsClear (s : State) (f : Nat → Nat → Bool) : State :=
  let l := s.drl.pairs.map (fun p => if f (p.key / 8) (p.key % 8) then { p with cells := [], cand := none } else p)
  { s with drl := { s.drl with pairs := l.filter (fun p => decide (p ≠ pairNew p.key)) } }

/-- Sample 0 of input `n` is the next sample (R259): the numbering restarts and cells of the frame before are absent. -/
def drlRestart (s : State) (n : Nat) : State :=
  let s := s.setDrlIn n DrlIn.reset
  { s with drl := { s.drl with pairs := s.drl.pairs.map (fun p => if p.key % 8 = n then { p with cells := [] } else p) } }

/-- The armed template slots that the sentry profile copies (R257); one still VERIFYING is not armed (R275, R278). -/
def sentrySlots (s : State) : List Nat :=
  ((upto 64).filter (fun k => s.get (F.DRL_SLOTs_ST_STATE k) == 3 && slotType s k == 1 && s.flag (F.DRL_SLOTs_CFG_SENTRY k))).take 8

/-- A slot's parameters as the sentry profile holds them. -/
def holdSlot (s : State) (k : Nat) : HeldSlot :=
  ⟨k, s.get (F.DRL_SLOTs_CFG_CLASS k), s.get (F.DRL_SLOTs_THR_THR k), s.get (F.DRL_SLOTs_THR_PRE k),
    s.get (F.DRL_SLOTs_ADJ_OSLOPE k), s.get (F.DRL_SLOTs_ADJ_REFR k), s.get (F.DRL_SLOTs_ADJ_BAND k), true⟩

/-- SENTRY entry (R257, R277, R283, R286): the slots are copied, the full profile's state is discarded, the record stream
and an enrolment end. -/
def drlSentry (s : State) : State :=
  let s := enrEnd s 4
  let held := (sentrySlots s).map (holdSlot s)
  { s with drl := { s.drl with held := held, stream := none, pairs := [], inp := s.drl.inp.map (fun _ => DrlIn.reset) } }

/-- SENTRY exit (R283): the sentry profile's state is discarded. -/
def drlWake (s : State) : State :=
  { s with drl := { s.drl with held := [], pairs := [], inp := s.drl.inp.map (fun _ => DrlIn.reset) } }

end Sys2Proof.Machine
end

