-- ==== Sys2Proof/Machine/PwrOps.lean ====
section
/-! DEFINITION. What every unit that asks for a state shares (ch. 4): beginning a transition, entering and leaving SENTRY,
start-up's steps. The rows of ch. 4 stand in Power.lean. -/

namespace Sys2Proof.Machine

/-! ## Transitions (R117, R118) -/

/-- A transition begins. -/
def transBegin (s : State) (target cause : Nat) (waits : List TransWait) : State :=
  let s := { s with pwr := { s.pwr with trans := some ⟨target, cause, waits, false, false⟩, held := none }, time := { s.time with transAt := s.time.hsck } }
  ((s.mark F.PWR_STATE_TRANS true).put F.PWR_STATE_TARGET target).mark F.PWR_STATE_HELD false

/-- What a transition in progress waits for has happened. -/
def transDone (s : State) (w : TransWait) : State :=
  match s.pwr.trans with
  | some t => { s with pwr := { s.pwr with trans := some { t with waits := t.waits.filter (fun v => decide (v ≠ w)) } } }
  | none => s

/-- A transition in progress waits for `w`. -/
def transWaits (s : State) (w : TransWait) : Bool :=
  match s.pwr.trans with | some t => t.waits.contains w | none => false

/-- H1's forwarding follows FWD_EN, SENTRY_FWD and the state: from RST# release on, OFF after start-up apart (R44). -/
def forwardFollow (s : State) : State :=
  s.mark F.CLK_STAT_FWD_ON (s.flag F.CLK_FWD_FWD_EN && (s.pwr.armed || s.pwr.start.isSome || decide (s.pstate ≠ OFF)) &&
    (decide (s.pstate ≠ SENTRY) || s.flag F.CLK_FWD_SENTRY_FWD))

/-- A hitless update in progress aborts (R363, R367). -/
def swapAbort (s : State) (err : Nat) : State :=
  if s.get F.FRW_SWAP_STATE = 1 ∨ s.get F.FRW_SWAP_STATE = 2 then
    let s := { s with frw := { s.frw with swapVer := 0, swapTasks := [] } }
    let s := { s with hsp := { s.hsp with checks := s.hsp.checks.filter (fun c => decide (c.origin ≠ Origin.swap)) } }
    (((s.put F.FRW_SWAP_STATE 4).put F.FRW_SWAP_ERR err).mark F.FRW_SWAP_DONE true).event 12
  else s

/-- A service action ends (R740). -/
def svcEnd (s : State) (err : Nat) : State :=
  let s := { s with nvm := { s.nvm with act := none, retire := none } }
  let s := { s with hsp := { s.hsp with checks := s.hsp.checks.filter (fun c => decide (c.origin ≠ Origin.retire)) } }
  (((s.mark F.SVC_ACT_BUSY false).mark F.SVC_ACT_DONE true).put F.SVC_ACT_ERR err).event 13

/-! ## SENTRY entry (R120) -/

/-- Step 1: the mitten closes, HWAKE and HPRE deassert (R235, R249, R309). -/
def sentryStep1 (s : State) : State :=
  let s := mittenClose s 4
  let s := (s.mark F.LSN_WAKE_ATT false).mark F.LSN_WAKE_QUAL false
  (standDown s).put F.LSN_WAKE_RPRE 0

/-- Step 2: the core domain stops and writes are deferred from here on (R140). -/
def sentryStep2 (s : State) : State :=
  let s := { s with pwr := { s.pwr with deferring := true } }
  let s := (calAbort (drlSentry s)).put F.MIC_CALSEL_SEL 0
  let s := swapAbort s 6
  let s := if (match s.nvm.act with | some a => a.1 == 2 && coreState s (a.2.1 % 4) != C_RETIRED | none => false) then svcEnd s 2 else s
  let s := adcSentry s
  let s := micStop (unloadEnd (hgSentry (standDownsSend (queuesDiscard s))))
  let s := { s with swa := { s.swa with run := false } }
  intWithdraw ((s.mark F.SWA_ST_RUN false).mark F.CLK_STAT_LOCK false)

/-- A transition to SENTRY: steps 1 and 2, and the zeroize of step 3 begins; that of step 4 follows its end. -/
def sentryEntry (s : State) (cause : Nat) : State :=
  let s := sentryStep2 (sentryStep1 s)
  transBegin ((zeroSwathStart s).mark F.PWR_STATE_REC false) SENTRY cause [.zeroSwath, .zeroShort]

/-- Step 5: SENTRY is in force: the core domain is gated, the sentry path records into a fresh short swath (R114, R120,
R299). -/
def sentryArrive (s : State) (cause : Nat) : State :=
  let s := enterState (forEach [0, 1, 2, 3, 5] coreGate s) SENTRY cause
  let s := micSentry (monSentry (coreMemLost s))
  let s := s.setPair A.SWA_SSCTR_LO 0
  let s := { s with swa := { s.swa with scur := none, stags := [], snext := none, smarks := [], sgap := false }, pwr := { s.pwr with deferring := true } }
  forwardFollow (if coreState s SENT = C_HALT then coreInit s SENT else s)

/-! ## SENTRY exit (R121, R128) -/

/-- A transition out of SENTRY begins: the core domain and the swath power up, VDDC returns to its operating point, the
swath is zeroized. -/
def exitStart (s : State) (target cause : Nat) : State :=
  let s := zeroSwath (monWake s s.fC)
  let s := { s with swa := { s.swa with zsw := true } }
  let s := s.put F.SWA_ST_ZBUSY (1 + 2 * b2n s.swa.zss)
  let due := s.flag F.PWR_STATE_PHB_DUE
  let s := transBegin s target cause ((if s.flag F.CLK_STAT_LOCK then [] else [.lock]) ++ (if due then [.phaseB] else []) ++ [.zeroSwath, .images, .adcCal])
  let s := { s with pwr := { s.pwr with trans := s.pwr.trans.map (fun t => { t with phb := due }) } }
  if due || !s.flag F.CLK_STAT_LOCK then s else selfStart s

/-! ## Requests (R117 to R119, R38) -/

/-- An accepted request for a state. In TRIPPED it only controls unload (R119); in class 1 it is held (R38). -/
def requestState (s : State) (target cause : Nat) : State :=
  if target = 0 ∨ s.pwr.trans.isSome then s
  else if s.pstate = TRIPPED then
    if target = RECORD then unloadBegin (s.mark F.PWR_STATE_REC true)
    else if target = WATCH then unloadEnd (s.mark F.PWR_STATE_REC false) else s
  else if target = s.pstate then s
  else if s.pstate = SENTRY then
    if s.clk.cls = 1 then
      ({ s with pwr := { s.pwr with held := some (target, cause) } }.mark F.PWR_STATE_HELD true).put F.PWR_STATE_TARGET target
    else exitStart s target cause
  else if target = SENTRY then sentryEntry s cause
  else transBegin s target cause []

/-! ## Start-up (R126, R133) -/

/-- The predecessors of a start-up step; what follows step 4 follows step 3 where class 1 drops it (R126). -/
def stepAfter (n : Nat) : List Nat :=
  if n = 1 then [] else if n = 2 then [1] else if n = 3 then [2] else if n = 4 then [3] else if n = 5 ∨ n = 7 ∨ n = 8 then [3, 4]
  else if n = 6 ∨ n = 9 ∨ n = 10 then [5] else [6, 7, 8, 9, 10]

/-- A step has ended or been dropped. -/
def stepOver (t : StartSt) (n : Nat) : Bool := t.done.contains n || t.drop.contains n

/-- A step of start-up is running: its predecessors have ended and it has neither ended nor been dropped. -/
def stepRuns (s : State) (n : Nat) : Bool :=
  match s.pwr.start with
  | some t => (stepAfter n).all (stepOver t) && !stepOver t n
  | none => false

/-- A step of start-up ends. -/
def stepEnd (s : State) (n : Nat) : State :=
  match s.pwr.start with
  | some t => { s with pwr := { s.pwr with start := some { t with done := t.done ++ [n] } } }
  | none => s

/-- Steps that this start-up does not run. -/
def stepDrop (s : State) (l : List Nat) : State :=
  match s.pwr.start with
  | some t => { s with pwr := { s.pwr with start := some { t with drop := t.drop ++ l } } }
  | none => s

/-- An unrepaired failure of row `r` of R133 is recorded; its targets are refused from now on. -/
def failRecord (s : State) (r : Nat) : State :=
  let s := ((s.mark F.PWR_BOOTST_FAIL true).put F.PWR_BOOTST_FAILCODE r).level 4 true
  { s with pwr := { s.pwr with failRow := r } }

/-- An unrepaired failure during start-up (R133), found as its step runs: the first one decides; steps not yet started are
dropped, step 7 apart. -/
def startFail (s : State) (r : Nat) : State :=
  match s.pwr.start with
  | some t =>
    if t.row ≠ 0 then s
    else
      let later := (upto 12).filter (fun n => decide (n ≠ 0) && decide (n ≠ 7) && !stepOver t n && !(stepAfter n).all (stepOver t))
      let s := failRecord s r
      { s with pwr := { s.pwr with start := some { t with row := r, drop := t.drop ++ later } } }
  | none => s

/-- Every start-up step that the first state waits for has ended or been dropped: on the path to SENTRY steps 6 and 7, after
a failure and on the path to WATCH every step but the commit (R126, R133). -/
def stepsOver (s : State) : Bool :=
  match s.pwr.start with
  | some t => (if t.row = 0 ∧ !t.watch then [6, 7] else [1, 2, 3, 4, 5, 6, 7, 8, 9, 10]).all (stepOver t)
  | none => false

/-- The first state entry (R132): FAULT# is released unless an unrepaired failure keeps it, and BOOT is recorded. -/
def firstEntry (s : State) : State :=
  let boot := Nat.min 65535 (tenMicros s s.time.hsck)
  let s := { s with pwr := { s.pwr with start := none } }
  let s := if (s.pwr.failRow = 0 ∨ 5 ≤ s.pwr.failRow) ∧ s.get F.SAF_LATCH_BITS = 0 then faultPin s false else s
  s.put F.PWR_BOOTT_BOOT boot

/-- WATCH or SERVICE begins a recording period with its queues and ports (R290, R512, R616). -/
def awakeArrive (s : State) : State := forwardFollow (hgWake (queuesStart (periodStart s)))

end Sys2Proof.Machine
end

