-- ==== Sys2Proof/Machine/Adc.lean ====
section
/-! DEFINITION. The rows of the supervisory ADC (ch. 16); CONVERSION_END, which can end start-up, stands in Power.lean. -/

namespace Sys2Proof.Machine

/-! ## Self-calibration in start-up and at a SENTRY exit (R126 step 8, R121, R128, R133) -/

/-- The outcome of a self-calibration reaches the start-up or the exit that runs it. -/
def selfOutcome (s : State) (good : Bool) : State :=
  if stepRuns s 8 then
    let s := s.mark F.PWR_BOOTST_ADCCAL_OK good
    stepEnd (if good then s else startFail s 6) 8
  else if transWaits s .adcCal then
    let phb := match s.pwr.trans with | some t => t.phb | none => false
    let s := transDone s .adcCal
    if phb then
      let s := s.mark F.PWR_BOOTST_ADCCAL_OK good
      if good then s else failRecord s 6
    else s
  else s

/-! ## Starts and requests -/

/-- A write of TRIG = 1 (R553). -/
def adcTrig (s : State) (x : Nat) : State :=
  if s.get (F.ADC_x_CTL_MODE x) = 2 then
    let k := s.adcx x
    if s.flag (F.ADC_x_STAT_TPEND x) then s.incSat (F.ADC_x_STAT_TCOAL x)
    else if k.scan.isSome ∨ k.start then s.mark (F.ADC_x_STAT_TPEND x) true
    else adcKick (s.setAdc x { k with start := true }) x
  else s

/-- TRIG: ADC_x_CTL.TRIG is written 1. -/
def execTrig (x : Fin 2) (s : State) : Host.Outcome State Fault Refusal := ok (if s.awake then adcTrig s x.val else s)

/-- An urgent request for entry `e` (R556, R557). -/
def adcUrgent (s : State) (x e : Nat) : State :=
  if (s.adcx x).urg.isSome then s.incSat (F.ADC_x_URG_URGREJ x)
  else
    let s := s.setAdc x { s.adcx x with urg := some e }
    let s := (s.mark (F.ADC_x_URG_BUSY x) true).put (F.ADC_x_URG_ENT x) e
    adcKick (adcAbort s x) x

/-- URGENT_REQUEST: the Scarecrow requests entry `e` of converter `x`. -/
def execUrgentRequest (x : Fin 2) (e : Fin 16) (s : State) : Host.Outcome State Fault Refusal :=
  ok (if s.awake && adcRuns s then adcUrgent s x.val e.val else s)

/-! ## Calibration -/

/-- A write of SELF = 1 (R566, R567, R695). -/
def adcSelf (s : State) : State :=
  if s.adc.self then s
  else if armedRules s then s.put F.ADC_CAL_ERR 3
  else if !s.flag F.ADC_REF_REFOK then s.put F.ADC_CAL_ERR 1
  else selfStart s

/-- SELF: ADC_CAL.SELF is written 1. -/
def execSelf (s : State) : Host.Outcome State Fault Refusal := ok (if s.awake then adcSelf s else s)

/-- A refusal of a system calibration step: 2 armed, 3 busy, 0 for none (R569, R695). -/
def sysRefusal (s : State) (x : Nat) : Nat :=
  if armedRules s then 2 else if (s.adcx x).sys.isSome || s.adc.self then 3 else 0

/-- Round a quotient of integers with a positive divisor to nearest, ties up. -/
def roundQuot (a b : Int) : Int := floorDiv (2 * a + b) (2 * b)

/-- COMPUTE: YGAIN and YOFF of the entry from the two means and the two target codes (R569). -/
def sysCompute (s : State) (x e : Nat) : State :=
  let z : Int := (s.get (F.ADC_x_SYSCODE_Z x) : Nat)
  let f : Int := (s.get (F.ADC_x_SYSCODE_F x) : Nat)
  let u0 := s.getI (F.ADC_x_SYSU0_U0 x)
  let u1 := s.getI (F.ADC_x_SYSU1_U1 x)
  if f ≤ z ∨ u1 - u0 < 1024 then sysEnd s x 1
  else
    let g := roundQuot (2 ^ 18 * (f - z)) (u1 - u0)
    if g < 0x2000 ∨ 0x10000 < g then sysEnd s x 1
    else
      let y := u0 - roundQuot (z * 2 ^ 18) g
      let s := s.put (F.ADC_x_ENTe_YGAIN_YGAIN x e) g.toNat
      if fitsS 18 y then sysEnd (s.putI (F.ADC_x_ENTe_YOFF_YOFF x e) y) x 0
      else
        let v := s.fresh (2 ^ 18)
        sysEnd (v.2.put (F.ADC_x_ENTe_YOFF_YOFF x e) v.1) x 0

/-- A write of SYSCTL with a step: 1 ZERO, 2 FULL, 3 COMPUTE (R569). -/
def sysStep (s : State) (x step : Nat) : State :=
  let r := sysRefusal s x
  let e := s.get (F.ADC_x_SYSCTL_ENT x)
  if r ≠ 0 then s.put (F.ADC_x_SYSCTL_ERR x) r
  else if step = 3 then sysCompute s x e
  else
    let s := s.setAdc x { s.adcx x with sys := some (step, e, 0, 0) }
    adcKick ((s.mark (F.ADC_x_SYSCTL_BUSY x) true).put (F.ADC_x_SYSCTL_ERR x) 0) x

/-- A step of system calibration on entry `e`: the write names the entry too. -/
def sysWrite (s : State) (x e step : Nat) : State :=
  if s.awake then sysStep (s.put (F.ADC_x_SYSCTL_ENT x) e) x step else s

/-- ZERO: U0 of entry `e` is measured. -/
def execZero (x : Fin 2) (e : Fin 16) (s : State) : Host.Outcome State Fault Refusal := ok (sysWrite s x.val e.val 1)

/-- FULL: U1 of entry `e` is measured. -/
def execFull (x : Fin 2) (e : Fin 16) (s : State) : Host.Outcome State Fault Refusal := ok (sysWrite s x.val e.val 2)

/-- COMPUTE: YOFF and YGAIN of entry `e` are set. -/
def execCompute (x : Fin 2) (e : Fin 16) (s : State) : Host.Outcome State Fault Refusal := ok (sysWrite s x.val e.val 3)

/-! ## Ledgers and queues -/

/-- A write of LTAKE.MASK (R572): at once where the converter idles, else at its next slot boundary. -/
def adcTake (s : State) (x mask : Nat) : State :=
  let k := s.adcx x
  let s := s.setAdc x { k with take := k.take ++ (ones 16 mask).filter (fun e => !k.take.contains e) }
  if k.conv.isNone then ledgersTake s x else s

/-- LTAKE: the ledgers of `mask` are taken. -/
def execLtake (x : Fin 2) (mask : BitVec 16) (s : State) : Host.Outcome State Fault Refusal :=
  ok (if s.awake then adcTake s x.val mask.toNat else s)

/-- ADC_QPOP: a read of `n` words of the pop window of converter `x` pops its whole entries (R574). -/
def execAdcQpop (x : Fin 2) (n : BitVec 7) (s : State) : Host.Outcome State Fault Refusal :=
  ok (if s.awake then adcQueuePop s x.val (Nat.min n.toNat 64 / 2) else s)

/-! ## The reference (R562 to R564) -/

/-- A write of ADC_REF: SEL, REFEN and VNOM. A reserved SEL or VNOM leaves its field as it was and sets WERR. -/
def refWrite (s : State) (sel : Nat) (refen : Bool) (vnom : Nat) : State :=
  let badV := decide (vnom < 1000) || decide (1800 < vnom)
  let s := if sel = 3 ∨ badV then s.mark F.ADC_WERR_WERR true else s
  let s := if badV then s else s.put F.ADC_REF_VNOM vnom
  let change := decide (sel ≠ 3) && decide (sel ≠ adcRef s)
  let drop := s.flag F.ADC_REF_REFEN && !refen
  let s := s.mark F.ADC_REF_REFEN refen
  let s := if change then s.put F.ADC_REF_SEL sel else s
  if change || drop then adcKicks (refChange s) else s

/-- REFERENCE_CHANGE: ADC_REF is written with SEL, REFEN and VNOM. -/
def execReferenceChange (sel : Fin 3) (refen : Bool) (vnom : BitVec 12) (s : State) : Host.Outcome State Fault Refusal :=
  ok (if s.awake then refWrite s sel.val refen vnom.toNat else s)

/-- The selected reference settles: REFEN = 1 where the buffer is used (R562). -/
def refSettles (s : State) : Bool := decide (adcRef s = 2) || s.flag F.ADC_REF_REFEN

/-- REFOK_SETTLE: the settling interval has passed, or a settled reference is judged again; `good` says whether the
reference lies in tolerance. Source 81 stands while it does not. -/
def execRefokSettle (good : Bool) (s : State) : Host.Outcome State Fault Refusal :=
  if adcRuns s && refSettles s && (good || !s.adc.settled) then
    let s := { s with adc := { s.adc with settled := true } }
    ok (adcKicks ((s.mark F.ADC_REF_REFOK good).level 81 (!good)))
  else ok s

/-- A conversion that a loss of REFOK discards: every one but an urgent one (R564). -/
def refLossAbort (s : State) (x : Nat) : State :=
  match (s.adcx x).conv with
  | some (.urgent, e, _, t) => s.setAdc x { s.adcx x with conv := some (.urgent, e, false, t) }
  | _ => adcAbort s x

/-- REFOK_LOSS: the reference leaves its tolerance. -/
def execRefokLoss (s : State) : Host.Outcome State Fault Refusal :=
  if s.flag F.ADC_REF_REFOK then
    let s := s.mark F.ADC_REF_REFOK false
    let s := if s.adc.settled then s.level 81 true else s
    let s := refLossAbort (refLossAbort s 0) 1
    let s := sysAbort (sysAbort s 0) 1
    ok (diagEventT s 20 (if s.flag F.SAF_ARM_AINS_EN then 1 else 256))
  else ok s

end Sys2Proof.Machine
end

