-- ==== Sys2Proof/Machine/Listen.lean ====
section
/-! DEFINITION. Listening and wake (ch. 7): qualified wakes, the segmentation of enrolment utterances, and the rows of the
chapter. -/

namespace Sys2Proof.Machine

/-! ## Qualified wakes (R236 to R238) -/

/-- A qualified wake is held until a state is entered: during start-up, the hold of R134 in it included (R131), and SENTRY
entry (R145). -/
def wakeHolds (s : State) : Bool :=
  s.pwr.start.isSome || s.pwr.offResp || (match s.pwr.trans with | some t => t.target == SENTRY && s.pstate != SENTRY | none => false)

/-- In SENTRY with WAKE_GO = 1 a wake requests WATCH, as any request is judged (R117, R238 step 6). -/
def wakeGo (s : State) : State :=
  if s.pstate = SENTRY ∧ s.flag F.PWR_CFG_WAKE_GO ∧ (checkRequest s WATCH).isNone ∧ (s.clk.cls = 1 ∨ (checkDeferred s).isNone) then
    requestState s WATCH 3
  else s

/-- The source, seed or partner of a qualified wake are recorded (R238 step 2). -/
def wakeRecord (s : State) (src seed devp : Nat) : State :=
  let s := s.put F.LSN_WAKE_SRC src
  if src = 1 then s.put F.LSN_WAKE_SEED seed else if src = 3 then s.put F.LSN_WAKE_DEVP devp else s

/-- The body of a WAKE message (R650). -/
def wakeBody (s : State) (mark : Nat) : List Nat := bytesOfLe 8 mark ++ bytesOfLe 4 (s.pair A.SWA_PERIOD_LO % 2 ^ 32)

/-- A qualified wake sends WAKE where WAKE_TX says so (R238 step 7). -/
def wakeSend (s : State) (src : Nat) (body : List Nat) : State :=
  let s := if src ≠ 3 ∧ s.flag F.LSN_CFG_WAKE_TX then hgBroadcast s VC_CTRL T_WAKE src body else s
  { s with lsn := { s.lsn with wakeEdge := some (s.time.hsck, if src ≠ 3 then some body else none) } }

/-- A WAKE of this edge that still waits to be sent carries the merged wake's source and mark (R247). -/
def wakeResend (s : State) (src : Nat) (old new : List Nat) : State :=
  let fix := fun (e : Nat × Msg) =>
    if e.2.typ = T_WAKE ∧ e.2.src = s.devid ∧ e.2.body = old then (e.1, { e.2 with param := src, body := new }) else e
  let s := forEach (upto 2) (fun s x => s.setHgp x { s.hgp x with tx := (s.hgp x).tx.map fix }) s
  { s with lsn := { s.lsn with wakeEdge := some (s.time.hsck, some new) } }

/-- A qualified wake at the edge of the one that set QUAL: together they are one, with the lowest source code and the earliest
mark, each counting for its source (R247). -/
def wakeMerge (s : State) (sent : Option (List Nat)) (src seed devp mark : Nat) : State :=
  let s := preConfirm (s.bump64 (A.LSN_CNT_x_LO src) 1)
  let s := if src < s.get F.LSN_WAKE_SRC then wakeRecord s src seed devp else s
  let m := Nat.min mark (s.pair A.LSN_MARK_LO)
  let s := mittenWake (s.setPair A.LSN_MARK_LO m) m
  let src := s.get F.LSN_WAKE_SRC
  match sent with
  | some old => wakeResend s src old (wakeBody s m)
  | none => wakeSend s src (wakeBody s m)

/-- A qualified wake from source `src` acts in the order of R238. -/
def qualifiedWake (s : State) (src seed devp mark : Nat) : State :=
  if wakeHolds s then { s with pwr := { s.pwr with wakes := s.pwr.wakes ++ [(src, seed, devp)] } }
  else
    let was := s.flag F.LSN_WAKE_QUAL
    match was, wakeSame s with
    | true, some sent => wakeMerge s sent src seed devp mark
    | _, _ =>
      let s := preConfirm (standUndo (s.mark F.LSN_WAKE_QUAL true))
      let s := if was then s.mark F.LSN_WAKE_MORE true else (wakeRecord s src seed devp).setPair A.LSN_MARK_LO mark
      let s := (s.bump64 (A.LSN_CNT_x_LO src) 1).event 35
      let s := wakeGo (mittenWake s mark)
      if was then
        if src ≠ 3 ∧ s.flag F.LSN_CFG_WAKE_TX then hgBroadcast s VC_CTRL T_WAKE src (wakeBody s mark) else s
      else wakeSend s src (wakeBody s mark)

/-- Wakes held during start-up or SENTRY entry are delivered at the state's entry, marked with the counter there. -/
def wakesDeliver (s : State) : State :=
  let l := s.pwr.wakes
  forEach l (fun s w => qualifiedWake s w.1 w.2.1 w.2.2 (wakeCounter s)) { s with pwr := { s.pwr with wakes := [] } }

/-! ## Utterances of an enrolment (R279) -/

/-- The number of the last complete feature frame of an input, counted from 1. -/
def frameNow (s : State) (n : Nat) : Nat := (s.drlIn n).t

/-- The frames `a` to `b` of an input, oldest first, with their features where they are kept. -/
def framesOf (s : State) (n a b : Nat) : List (Option (List Nat)) :=
  (upto (b + 1 - a)).map (fun i =>
    match (s.drlIn n).frames.find? (fun f => f.t == a + i) with
    | some f => f.v
    | none => none)

/-- A complete segment is accepted or rejected. -/
def segmentTake (s : State) (e : EnrolSt) (a b : Nat) : State :=
  let fs := framesOf s e.input a b
  let back := fun (s : State) (err : Nat) =>
    let s := { s with drl := { s.drl with enr := some { e with from_ := none, ended := false } } }
    (s.put F.DRL_ENR_ST_STATE 1).put F.DRL_ENR_ST_ERR err
  if fs.length < 20 ∨ 200 < fs.length then back s 1
  else if fs.any (·.isNone) then back s 2
  else
    let segs := e.segs ++ [fs.map (·.getD [])]
    let s := { s with drl := { s.drl with enr := some { e with segs := segs, from_ := none, ended := false } } }
    let s := (s.put F.DRL_ENR_ST_CAPT segs.length).put F.DRL_ENR_ST_ERR 0
    s.put F.DRL_ENR_ST_STATE (if segs.length = e.count then 3 else 1)

/-- The utterance in progress is over, and the 4 frames after its last frame at or above the threshold are complete. -/
def segmentCut (s : State) : State :=
  match s.drl.enr with
  | some e =>
    match e.from_ with
    | some a => if e.ended ∧ e.last + 4 < frameNow s e.input then segmentTake s e a (e.last + 4) else s
    | none => s
  | none => s

/-- A SAD frame of the loop of an enrolment's input: its onset begins an utterance, its end ends it. -/
def enrolHear (s : State) (u : Nat) (onset above ended : Bool) : State :=
  match s.drl.enr with
  | none => s
  | some e =>
    if s.get (F.DRL_INn_CFG_TL e.input) ≠ u ∨ s.get F.DRL_ENR_ST_STATE = 3 then s
    else
      let now := frameNow s e.input - 1
      let e := if onset ∧ e.from_.isNone then { e with from_ := some (now - (s.get (F.LSN_SADu_CFG_ONSET u) + 4)), last := now, ended := false } else e
      let e := if above ∧ e.from_.isSome ∧ !e.ended then { e with last := now } else e
      let e := if ended ∧ e.from_.isSome then { e with ended := true } else e
      let s := { s with drl := { s.drl with enr := some e } }
      let s := if onset then s.put F.DRL_ENR_ST_STATE 2 else s
      segmentCut s

/-! ## The rows -/

/-- The listening units have their clock: HSCK present, and outside SENTRY no clock procedure holds them (R54, R55). -/
def listens (s : State) : Bool := s.clk.present && decide (s.clk.phase = .run) && decide (s.pstate ≠ OFF)

/-- SAD_FRAME (R225): SAD `u` completes a 10 ms frame of the samples gathered. -/
def execSadFrame (u : Fin 2) (s : State) : Host.Outcome State Fault Refusal :=
  let u := u.val
  if (if u = 0 then s.sentryClocked else listens s) ∧ (s.sad u).run ∧ sadLen s u ≤ (s.sad u).buf.length ∧ 0 < sadLen s u then
    let f := sadFloor s u
    let o := sadFrame s u
    let above := !o.st.flag (F.LSN_SADu_ST_FROZEN u) && decide (f + 25 * ((s.get (F.LSN_SADu_CFG_MARGIN u) : Nat) : Int) ≤ o.st.getI (F.LSN_SADu_FLOOR_LEVEL u))
    let s := if o.onset then attention o.st u else o.st
    ok (enrolHear s u o.onset above o.ended)
  else ok s

/-- SEEDING_END (R229): 150 frames that are not excluded have been taken. -/
def execSeedingEnd (u : Fin 2) (s : State) : Host.Outcome State Fault Refusal :=
  ok (if (s.sad u).run ∧ s.flag (F.LSN_SADu_ST_SEEDING u) ∧ 150 ≤ (s.sad u).win.length then seedingEnd s u else s)

/-- SUSTAINED (R231): activity has lasted MAXEV seconds, of 100 frames each. -/
def execSustained (u : Fin 2) (s : State) : Host.Outcome State Fault Refusal :=
  ok (if s.flag (F.LSN_SADu_ST_ACTIVE u) ∧ 100 * s.get (F.LSN_SADu_TL_MAXEV u) ≤ (s.sad u).act then
    enrolHear (sustain s u) u false false true else s)

/-- FLOOR_RAIL (R232): the floor has stood at a limit for 150 consecutive frames; each stay is told once. -/
def execFloorRail (u : Fin 2) (s : State) : Host.Outcome State Fault Refusal :=
  let q := s.sad u
  let told := s.setSad u { q with railed := true }
  if 150 ≤ q.railHi ∧ !q.railed then ok ((told.mark (F.LSN_SADu_ST_RAIL_HI u) true).event 38)
  else if 150 ≤ q.railLo ∧ !q.railed then ok ((told.mark (F.LSN_SADu_ST_RAIL_LO u) true).event 38)
  else ok s

/-- RESEED (R229): a write of RESEED = 1. -/
def execReseed (u : Fin 2) (s : State) : Host.Outcome State Fault Refusal := ok (sadReseed s u)

/-- WAKEIN_DEBOUNCE (R239): WAKEIN# has been sampled asserted at every edge for 8 ms; `mark` is the sample counter at the
first of those edges. During start-up, the hold of R134 in it included, the wake
is held (R131). -/
def execWakeinDebounce (mark : BitVec 64) (s : State) : Host.Outcome State Fault Refusal :=
  if s.clk.present ∧ (s.pstate ≠ OFF ∨ s.pwr.start.isSome ∨ s.pwr.offResp) ∧ s.flag F.LSN_CFG_WAKEIN_EN ∧ s.lsn.pinReady then
    ok (qualifiedWake { s with lsn := { s.lsn with pinReady := false } } 2 0 0 mark.toNat)
  else ok s

/-- WAKEIN_RELEASE (R239): WAKEIN# has been sampled deasserted at every edge for 8 ms. -/
def execWakeinRelease (s : State) : Host.Outcome State Fault Refusal :=
  if s.clk.present ∧ (s.pstate ≠ OFF ∨ s.pwr.start.isSome ∨ s.pwr.offResp) then ok { s with lsn := { s.lsn with pinReady := true } } else ok s

/-- WAKE_CLEAR (R235): a W1C write of ATT, QUAL and MORE. -/
def execWakeClear (att qual more : Bool) (s : State) : Host.Outcome State Fault Refusal :=
  let s := if att then s.mark F.LSN_WAKE_ATT false else s
  let s := if qual then s.mark F.LSN_WAKE_QUAL false else s
  ok (if more then s.mark F.LSN_WAKE_MORE false else s)

/-- PREWAKE_TIMEOUT (R243): TMO ms have passed without a qualified wake. A wake at the same edge makes it a confirmation
(R248). -/
def execPrewakeTimeout (s : State) : Host.Outcome State Fault Refusal := ok (if s.clk.present && s.flag F.LSN_WAKE_PRE then
    let was := s.flag (F.INT_SRCs_PEND 37)
    let t := standDown s
    { t with lsn := { t.lsn with stood := some (s.time.hsck, was) } }
  else s)

/-- PREWAKE_GAP_END (R243): the pause of GAP ms ends. -/
def execPrewakeGapEnd (s : State) : Host.Outcome State Fault Refusal := ok (if s.clk.present then { s with lsn := { s.lsn with gap := false } } else s)

/-- PARTNER_PREWAKE_TIMEOUT (R244): 420 ms without a WAKE or STAND-DOWN of partner `p`. -/
def execPartnerPrewakeTimeout (p : Fin 4) (s : State) : Host.Outcome State Fault Refusal :=
  ok (if s.clk.present then partnerPre s p false else s)

end Sys2Proof.Machine
end

