-- ==== Sys2Proof/Machine/FurrowOps.lean ====
section
/-! DEFINITION. What every Furrow instruction shares (ch. 10, 13): registers, memory buffers, the bundle and its rules,
exceptions and their return, hardware loops and the boundaries at which the dispatcher acts. -/

namespace Sys2Proof.Machine

/-! ## Registers (R334, R335) -/

/-- Names of registers in a bundle's books: s, q, accumulators, predicates, loop registers. -/
abbrev regS (n : Nat) : Nat := n
abbrev regQ (n : Nat) : Nat := 32 + n
abbrev regAc (n : Nat) : Nat := 64 + n
abbrev regP (n : Nat) : Nat := 72 + n
abbrev regL (n : Nat) : Nat := 80 + n

def CoreRegs.sv (r : CoreRegs) (n : BitVec 5) : Word := nth r.s n.toNat 0
def CoreRegs.qv (r : CoreRegs) (n : BitVec 5) : BitVec 128 := nth r.q n.toNat 0
def CoreRegs.acv (r : CoreRegs) (n : BitVec 5) : List Int := nth r.ac n.toNat [0, 0, 0, 0]
def CoreRegs.pv (r : CoreRegs) (n : Nat) : Bool := bit r.p.toNat n

/-- Write a scalar register: s0 discards (R334). -/
def CoreRegs.setS (r : CoreRegs) (n : BitVec 5) (v : Word) : CoreRegs := if n = 0 then r else { r with s := setNth r.s n.toNat v }
def CoreRegs.setQ (r : CoreRegs) (n : BitVec 5) (v : BitVec 128) : CoreRegs := { r with q := setNth r.q n.toNat v }
def CoreRegs.setAc (r : CoreRegs) (n : BitVec 5) (v : List Int) : CoreRegs := { r with ac := setNth r.ac n.toNat v }
/-- Write a predicate: p0 discards (R334). -/
def CoreRegs.setP (r : CoreRegs) (n : BitVec 5) (b : Bool) : CoreRegs :=
  if n = 0 then r else { r with p := BitVec.ofNat 8 (setBit r.p.toNat n.toNat b) }

/-- Raise SATF or ACCOV (R336): sticky. -/
def CoreRegs.flags (r : CoreRegs) (sat ov : Bool) : CoreRegs :=
  { r with fstat := r.fstat ||| BitVec.ofNat 2 (b2n sat + 2 * b2n ov) }

/-- The register a name stands for, as far as a returning load can write it. -/
def CoreRegs.give (r : CoreRegs) (e : Nat × BitVec 128) : CoreRegs :=
  if e.1 < 32 then r.setS (BitVec.ofNat 5 e.1) (e.2.setWidth 32) else { r with q := setNth r.q (e.1 - 32) e.2 }

/-- The return port's writes to the named registers happen before an instruction that names one (R340, R342). -/
def returnFor (k : CoreSt) (names : List Nat) : CoreSt :=
  let now := k.ret.filter (fun e => names.contains e.1)
  let r := now.foldl CoreRegs.give k.regs
  let bun := k.bun.map (fun b => { b with before := now.foldl CoreRegs.give b.before })
  { k with regs := r, bun := bun, ret := k.ret.filter (fun e => !names.contains e.1) }

/-! ## Store buffer and memories (R343, R349 to R352, R472) -/

/-- The base addresses of the core-local map (R349). -/
abbrev DATA_BASE : Nat := 0x10000000
abbrev COMMON_BASE : Nat := 0x20000000

/-- Some 64-bit word of a range is uncorrectable. -/
def badIn (l : List Nat) (a n : Nat) : Bool := (wordsOf a n).any l.contains

/-- A store reaches its memory. A narrower store that meets an uncorrectable word leaves it poisoned (R351). -/
def drainEntry (s : State) (c : Nat) (e : Nat × List Nat) : State :=
  let (a, bs) := e
  let common := decide (COMMON_BASE ≤ a)
  let o := if common then a - COMMON_BASE else a - DATA_BASE
  let bad := badIn (if common then s.frw.badCommon else nth s.frw.badData c []) o bs.length
  let s := if bs.length < 8 ∧ !bad then softMeet s c (if common then 2 else 1) o bs.length else s
  let s := if common then commonWrite s o bs else dataWrite s c o bs
  if bad && decide (bs.length < 8) && decide (c < 4) then s.mark (F.FRW_COREc_ECC_POISON c) true else s

/-- Drain the first `n` entries of a core's store buffer, in order. -/
def drainN (s : State) (c n : Nat) : State :=
  let k := s.core c
  forEach (k.buf.take n) (fun s e => drainEntry s c e) (s.setCore c { k with buf := k.buf.drop n })

/-- Drain the store buffer. -/
def drainAll (s : State) (c : Nat) : State := drainN s c (s.core c).buf.length

/-- Where a core's program region lies in its physical program memory, and its length (R349, R350). For the Scarecrow the
region is its ROM and its program. -/
def progOffset (s : State) (c : Nat) : Nat := if c < 4 ∧ s.flag F.FRW_CFG_SPLIT then 32768 * s.get (F.FRW_COREc_ST_HALF c) else 0
def progLimit (s : State) (c : Nat) : Nat := if c < 4 ∧ s.flag F.FRW_CFG_SPLIT then 32768 else if c = SENT then 32768 else 65536

/-- A read of core `c`'s program region meets the program memory. -/
def progMeet (s : State) (c a n : Nat) : State :=
  if c = SCARE then (if 32768 ≤ a then softMeet s c 0 (a - 32768) n else s) else softMeet s c 0 (progOffset s c + a) n

/-- The word of a core's program region at `a` is uncorrectable. -/
def progBad (s : State) (c a n : Nat) : Bool :=
  if c = SCARE then decide (32768 ≤ a) && badIn (nth s.frw.badProg c []) (a - 32768) n
  else badIn (nth s.frw.badProg c []) (progOffset s c + a) n

/-! ## When a core issues (R331, R357 to R359, R366) -/

/-- Core `c` stands ready to take a bundle: it runs INIT or a job, or a halted core is stepped. -/
def canIssue (s : State) (c : Nat) : Bool :=
  if c < 4 then
    s.coreRuns && s.awake &&
      ((coreState s c == C_RUN && (s.flag (F.FRW_COREc_ST_INIT c) || (s.core c).run.isSome)) || (coreState s c == C_HALT && (s.core c).stepping))
  else s.clk.present && decide (s.pstate ≠ OFF) && coreState s c == C_RUN

/-- The bundle in progress, or a new one. -/
def bundleOf (k : CoreSt) : Bundle := k.bun.getD ⟨0, 0, false, none, [], none, false, k.regs⟩

/-! ## Loops (R395, R397, R413, R457) -/

/-- Loop `i` is active and ends at the bundle at `pc`. -/
def loopAt (r : CoreRegs) (pc i : Nat) : Bool :=
  !r.estat.getLsbD 12 && decide (nth r.lc i 0 ≠ 0) && decide ((nth r.le i 0).toNat = pc)

/-- One loop acts on the completion of the bundle at its le: the registers, and lb where it loops back. -/
def loopStep (r : CoreRegs) (i : Nat) : CoreRegs × Option Nat :=
  let n := nth r.lc i 0
  if 1 < n.toNat then ({ r with lc := setNth r.lc i (n - 1) }, some (nth r.lb i 0).toNat)
  else ({ r with lc := setNth r.lc i 0 }, none)

/-- R395, R413: loop 1 first; loop 0 only where loop 1 falls through. -/
def loopAct (r : CoreRegs) (pc next : Nat) : CoreRegs × Nat :=
  let (r, t) := if loopAt r pc 1 then loopStep r 1 else (r, none)
  match t with
  | some a => (r, a)
  | none =>
    let (r, t) := if loopAt r pc 0 then loopStep r 0 else (r, none)
    (r, t.getD next)

/-! ## Boundaries (R359, R360, R365, R366) -/

/-- A boundary that is neither a delay slot nor a shadow; in a handler only abandonment acts there (R474). -/
def atBoundary (k : CoreSt) : Bool := k.bun.isNone && k.slot.isNone && !k.shadow

/-- Registers with undefined contents (R360). -/
def regsFree (s : State) (c : Nat) : State :=
  let (vs, s) := (upto 31).foldl (fun (a : List Word × State) _ => let (v, s) := a.2.fresh (2 ^ 32); (a.1 ++ [BitVec.ofNat 32 v], s)) ([], s)
  let (vq, s) := (upto 16).foldl (fun (a : List (BitVec 128) × State) _ => let (v, s) := a.2.fresh (2 ^ 128); (a.1 ++ [BitVec.ofNat 128 v], s)) ([], s)
  let (va, s) := (upto 16).foldl (fun (a : List Int × State) _ => let (v, s) := a.2.fresh (2 ^ 56); (a.1 ++ [toSigned 56 v], s)) ([], s)
  let (vp, s) := s.fresh 256
  let k := s.core c
  let ac := (upto 4).map (fun i => (va.drop (4 * i)).take 4)
  s.setCore c { k with regs := { k.regs with s := 0 :: vs, q := vq, ac := ac, p := BitVec.ofNat 8 (setBit vp 0 true) } }

/-- The dispatcher abandons the running job (R360, R474): its loads return, its stores drain, its registers are undefined,
EXL and a replay record go, and the dispatcher acts as at tend. -/
def abandon (s : State) (c : Nat) : State :=
  let k := loadsReturn (s.core c)
  let s := drainAll (s.setCore c { k with drop := false, replay := none, slot := none, shadow := false }) c
  let s := regsFree s c
  let k := s.core c
  let s := s.setCore c { k with regs := { k.regs with estat := k.regs.estat &&& ~~~(0x1000 : Word) } }
  jobEnd s c

/-- Core `c` halts: HALT, its staging set discarded, its stores drained (R365, R437). -/
def coreHalt (s : State) (c : Nat) : State :=
  let s := drainAll (s.setCore c (loadsReturn (s.core c))) c
  coreStop s c C_HALT

/-- What happens where a bundle has completed: a step ends, a cleared RUN halts, an abandonment or a preemption acts. -/
def boundary (s : State) (c : Nat) : State :=
  let k := s.core c
  if k.stepping then s.setCore c { k with stepping := false }
  else if 4 ≤ c then s
  else if k.drop ∧ k.bun.isNone ∧ (atBoundary k ∨ k.regs.estat.getLsbD 12) then abandon s c
  else if !atBoundary k then s
  else if !s.flag (F.FRW_COREc_CTL_RUN c) ∧ eligible s c then coreHalt s c
  else if s.flag (F.FRW_COREc_ST_INIT c) then s
  else dispatch s c

/-! ## Exceptions (R448 to R467) -/

abbrev X_ILLEGAL : Nat := 1
abbrev X_BUNDLE : Nat := 2
abbrev X_ALIGN : Nat := 3
abbrev X_BUS : Nat := 4
abbrev X_DATA_ECC : Nat := 5
abbrev X_FETCH_ECC : Nat := 6
abbrev X_MITTEN : Nat := 7
abbrev X_TRAP : Nat := 8

/-- A cause (R453, R454): code, INFO, data or fetch address, found on fetch, slot of the instruction, and the address that
EPC takes where it is not the bundle's. -/
structure Cause where
  code : Nat
  info : Nat
  addr : Nat
  fetch : Bool
  slot : Nat
  epc : Option Nat

/-- The core cannot go on (R361, R466): FAULT with 0x80 + code, stores drained. A sentry core and the Scarecrow have no
CAUSE field. -/
def faultEnter (s : State) (c code : Nat) : State :=
  let s := drainAll (s.setCore c (loadsReturn (s.core c))) c
  coreFault s c (0x80 + code)

/-- The bundle in progress of core `c` raises an exception (R456, R466): every effect of it is cancelled, EPC, ESTAT, EADDR
and EFMODE are written, and the core goes on at the vector, or into FAULT. -/
def exception (s : State) (c : Nat) (x : Cause) : State :=
  let k := s.core c
  let b := bundleOf k
  let r := b.before
  let exl := r.estat.getLsbD 12
  let loops := b2n (loopAt r k.pc 0) + 2 * b2n (loopAt r k.pc 1)
  let est := x.code + 2 ^ 8 * b2n k.slot.isSome + 2 ^ 9 * b2n k.shadow + 2 ^ 10 * loops + 2 ^ 12 + 2 ^ 13 * b2n x.fetch +
    2 ^ 14 * x.slot + 2 ^ 16 * (if x.fetch then 0 else Nat.min 3 b.words) + 2 ^ 24 * x.info
  let epc := match x.epc with | some a => a | none => match k.slot with | some t => t.addr | none => k.pc
  let s := if c < 4 ∧ x.code = X_DATA_ECC then s.mark (F.FRW_COREc_ECC_DBE c) true
    else if c < 4 ∧ x.code = X_FETCH_ECC then s.mark (F.FRW_COREc_ECC_PDBE c) true
    else s
  if c = SCARE ∧ (x.code = X_DATA_ECC ∨ x.code = X_FETCH_ECC) then scareEcc (s.setCore c { k with regs := r, bun := none })
  else if exl then faultEnter (s.setCore c { k with regs := r, bun := none }) c (r.estat.toNat % 256)
  else
    let r' := { r with epc := BitVec.ofNat 32 epc, estat := BitVec.ofNat 32 est, efmode := r.fmNow, eaddr := BitVec.ofNat 32 x.addr, fmNow := r.fmode, fmNext := r.fmode }
    if r.evec.toNat / 512 = 0 then faultEnter (s.setCore c { k with regs := r', bun := none }) c x.code
    else
      let pc := r.evec.toNat / 512 * 512 + 32 * x.code
      let s := s.setCore c { k with regs := r', bun := none, pc := pc % 2 ^ 32, slot := none, replay := k.slot, shadow := false }
      boundary (if c < 4 then s.put (F.FRW_COREc_ST_CAUSE c) x.code else s) c

/-- An eret in a handler (R459 to R463): the core resumes at EPC, replays a transfer, or re-executes a shadow bundle. -/
def exReturn (s : State) (c : Nat) : State :=
  let k := s.core c
  let r := { k.regs with estat := k.regs.estat &&& ~~~(0x1000 : Word) }
  let ds := k.regs.estat.getLsbD 8
  let sh := k.regs.estat.getLsbD 9
  match (if ds then k.replay else none) with
  | some t =>
    let r := { r with fmode := r.efmode, fmNow := r.efmode, fmNext := r.efmode }
    boundary (s.setCore c { k with regs := r, pc := t.slot, slot := some t, replay := none, shadow := false, bun := none }) c
  | none =>
    let r := if sh && !ds then { r with fmNow := r.efmode, fmNext := r.fmode } else { r with fmode := r.efmode, fmNow := r.efmode, fmNext := r.efmode }
    boundary (s.setCore c { k with regs := r, pc := r.epc.toNat / 4 * 4, slot := none, replay := none, shadow := sh && !ds, bun := none }) c

/-! ## Bundles (R338, R388, R389, R397, R452) -/

/-- What an instruction is to its bundle: slot, a legal encoding on its core, the registers it names and writes, its
transfer (taken, target), whether it is a transfer or a loop set-up, and its effect on the registers from those before the
bundle. -/
structure Act where
  slot : Nat
  ok : Bool
  uses : List Nat
  writes : List Nat
  br : Option (Bool × Nat)
  ctl : Bool
  eff : CoreRegs → CoreRegs → CoreRegs

/-- What stops the fetch of the word at `a` (R389, R452). -/
def fetchFault (s : State) (c a : Nat) : Option Cause :=
  if a < progLimit s c ∧ progBad s c a 4 then some ⟨X_FETCH_ECC, 0, a, true, 0, none⟩
  else if progLimit s c ≤ a then some ⟨X_BUS, 6, a, true, 0, none⟩
  else none

/-- The bundle takes one more word. Writes to s0 and p0 are discarded, so they meet no other write. -/
def bundleAdd (c : Nat) (b : Bundle) (e : Bool) (i : Act) : Bundle :=
  let clash := i.writes.any (fun w => w != regS 0 && w != regP 0 && b.wrote.contains w)
  let order := decide (b.words ≠ 0) && (decide (i.slot ≤ b.last) || decide (i.slot = 3))
  let alone := decide (i.slot = 3) && !e && decide (c < 4)
  let legal := i.ok && (decide (c < 4) || e)
  { b with words := b.words + 1, last := i.slot, bad := b.bad || clash || order || alone || decide (3 ≤ b.words), ill := if b.ill.isSome || legal then b.ill else some i.slot, wrote := b.wrote ++ i.writes, br := if i.br.isSome then i.br else b.br, ctl := b.ctl || i.ctl || decide (i.slot = 3) }

/-- The decode-class causes of a whole bundle, in their order (R452). -/
def bundleCause (k : CoreSt) (b : Bundle) : Option Cause :=
  let atLe := loopAt b.before k.pc 0 || loopAt b.before k.pc 1
  if b.bad || (k.slot.isSome && b.ctl) || (b.br.isSome && atLe) then some ⟨X_BUNDLE, 0, 0, false, 0, none⟩
  else b.ill.map (fun slot => ⟨X_ILLEGAL, 0, 0, false, slot, none⟩)

/-- A bundle completes: its registers stand, the mode of the next bundle comes into force, loops act, and the core goes on
(R345, R395, R397, R405). -/
def bundleDone (s : State) (c : Nat) (modeWrite : Bool) : State :=
  let k := s.core c
  let b := bundleOf k
  let next := (k.pc + 4 * b.words) % 2 ^ 32
  let r := { k.regs with fmNow := k.regs.fmNext, fmNext := k.regs.fmode }
  let k := { k with bun := none, shadow := modeWrite }
  match k.slot with
  | some t =>
    let (r, n) := loopAct r k.pc next
    boundary (s.setCore c { k with regs := r, slot := none, pc := if t.taken then t.target else n }) c
  | none =>
    match b.br with
    | some (taken, target) => boundary (s.setCore c { k with regs := r, slot := some ⟨k.pc, next, taken, target⟩, pc := next }) c
    | none =>
      let (r, n) := loopAct r k.pc next
      boundary (s.setCore c { k with regs := r, pc := n }) c

/-- The word reaches D: the loads it names have returned, and its fetch is checked; then `f` goes on with the bundle that
holds it. -/
def wordIn (s : State) (c : Nat) (e : Bool) (i : Act) (f : State → Bundle → State) : State :=
  if canIssue s c then
    let k := returnFor (s.core c) (if i.slot = 3 then upto 48 else i.uses ++ i.writes)
    let b := bundleOf k
    let s' := s.setCore c k
    match fetchFault s' c (k.pc + 4 * b.words) with
    | some x => exception s' c x
    | none => f (progMeet s' c (k.pc + 4 * b.words) 4) (bundleAdd c b e i)
  else s

/-- The word ends its bundle; on Furrow-S every word does (R332). -/
def endsBundle (c : Nat) (e : Bool) : Bool := e || decide (4 ≤ c)

/-- An instruction that acts on registers alone, in slot A or M. -/
def issue (s : State) (c : Nat) (e : Bool) (i : Act) : State :=
  wordIn s c e i (fun s b =>
    let k := s.core c
    let s := s.setCore c { k with bun := some b, regs := if b.ill.isSome then k.regs else i.eff b.before k.regs }
    if endsBundle c e then
      match bundleCause (s.core c) b with
      | some x => exception s c x
      | none => bundleDone s c false
    else s)

/-- An X-class instruction (R338, R347): `f` acts on the state with the bundle in progress and answers what happens. -/
def issueX (s : State) (c : Nat) (e : Bool) (ok : Bool) (writes : List Nat) (f : State → State) : State :=
  wordIn s c e ⟨3, ok, [], writes, none, false, fun _ r => r⟩ (fun s b =>
    let k := s.core c
    let s := s.setCore c { k with bun := some b }
    if endsBundle c e then
      match bundleCause (s.core c) b with
      | some x => exception s c x
      | none => f s
    else s)

/-- Change a core's registers within its bundle. -/
def regsPut (s : State) (c : Nat) (f : CoreRegs → CoreRegs) : State :=
  let k := s.core c
  s.setCore c { k with regs := f k.regs }

/-! ## Arithmetic governed by FMODE (R335, R401, R419) -/

/-- rnd(t, f, m). -/
def rndF (t : Int) (f m : Nat) : Int :=
  if f = 0 then t
  else
    let q := floorDiv t (2 ^ f : Nat)
    let rem := t - q * (2 ^ f : Nat)
    let h : Int := (2 ^ (f - 1) : Nat)
    if m = 0 then q
    else if m = 1 then q + (if h ≤ rem then 1 else 0)
    else if m = 2 then q + (if h < rem ∨ (rem = h ∧ q % 2 = 1) then 1 else 0)
    else if t < 0 ∧ rem ≠ 0 then q + 1 else q

/-- FRAC and RND of a mode. -/
def fmFrac (m : BitVec 8) : Nat := bits m.toNat 3 4
def fmRnd (m : BitVec 8) : Nat := bits m.toNat 1 2

/-- acc(v): the lane's new value, and whether ACCOV sets. -/
def accF (m : BitVec 8) (v : Int) : Int × Bool :=
  let lim : Int := 2 ^ 55 - 1
  if bit m.toNat 7 then (toSigned 56 (ofSigned 56 v), false)
  else if lim < v then (lim, true) else if v < -lim then (-lim, true) else (v, false)

/-- narrow_n(t): the n-bit result, and whether SATF sets. -/
def narrowF (m : BitVec 8) (n : Nat) (t : Int) : Nat × Bool :=
  let r := rndF t (fmFrac m) (fmRnd m)
  if bit m.toNat 0 then (ofSigned n (satS n r), !fitsS n r) else (ofSigned n r, false)

end Sys2Proof.Machine
end

