-- ==== Sys2Proof/Machine/NvmOps.lean ====
section
/-! DEFINITION. The seed store (R727 to R735): sectors, the record layer, the anchor, the images. The rows of ch. 21 stand
in Nvm.lean and Service.lean. -/

namespace Sys2Proof.Machine

/-! ## Sectors (R727, R729) -/

def recFirst : Nat := 254
def recSectors : List Nat := (upto 258).map (· + recFirst)

def State.sector (s : State) (n : Nat) : Sector := (s.nvm.sec.find? (fun x => x.num == n)).getD ⟨n, 0, []⟩

def State.setSector (s : State) (x : Sector) : State :=
  { s with nvm := { s.nvm with sec := s.nvm.sec.filter (fun y => decide (y.num ≠ x.num)) ++ [x] } }

/-- The record-area sectors that are not retired, and the erased ones among them. -/
def usable (s : State) : List Nat := recSectors.filter (fun n => !s.nvm.bad.contains n)
def erased (s : State) : List Nat := (usable s).filter (fun n => (s.sector n).frags.isEmpty)

/-- The registers that show the store (R752, R751). -/
def nvmShow (s : State) : State :=
  let u := usable s
  let counts := u.map (fun n => (s.sector n).erased)
  let low := decide (u.length < 24)
  let rose := low && !s.flag F.NVM_ST_LOW
  let s := (s.put F.NVM_ST_FREE (erased s).length).mark F.NVM_ST_LOW low
  let s := (s.put F.NVM_RET_COUNT s.nvm.bad.length).put F.NVM_ERC_MAX (maxN counts)
  let s := s.put F.NVM_ERC_MIN (counts.foldl Nat.min (counts.headD 0))
  let s := s.put F.NVM_ST_PROV (b2n s.nvm.fwkey.isSome + 2 * b2n s.nvm.seedkey.isSome)
  let s := (s.put F.NVM_IMG_VALID s.nvm.valid).setPair A.NVM_WRB_LO s.nvm.wrb
  let s := s.put F.SVC_MAP_RETIRED (sumN (s.nvm.cores.map (fun c => 2 ^ c)))
  let s := s.put F.SVC_MAP_ROWS s.nvm.rows.length
  if rose then s.event 14 else s

/-- Bytes are programmed. -/
def programmed (s : State) (n : Nat) : State := { s with nvm := { s.nvm with wrb := s.nvm.wrb + n } }

/-- The anchor is written: the copy of the lower generation takes the higher one plus 1, and both are valid (R728). -/
def anchorWrite (s : State) : State :=
  let g := s.nvm.gens
  let s := { s with nvm := { s.nvm with gens := if g.1 ≤ g.2 then ((g.2 + 1) % 2 ^ 32, g.2) else (g.1, (g.1 + 1) % 2 ^ 32) } }
  programmed (s.put F.NVM_ST_ANCH 2) Config.anchorBytes

/-- A sector is retired (R729): recorded in the anchor, NVM_RET and source 14. The anchor's sectors never are. -/
def sectorRetire (s : State) (n : Nat) : State :=
  if n < 2 ∨ 511 < n ∨ s.nvm.bad.contains n then s
  else
    let s := { s with nvm := { s.nvm with bad := s.nvm.bad ++ [n], cur := if s.nvm.cur = n then 0 else s.nvm.cur } }
    nvmShow ((anchorWrite s).event 14)

/-- A sector is erased: its erase count advances, and at 50 000 it is retired. -/
def sectorErase (s : State) (n : Nat) : State :=
  let x := s.sector n
  let s := s.setSector { x with erased := x.erased + 1, frags := [] }
  let s := { s with nvm := { s.nvm with cur := if s.nvm.cur = n then 0 else s.nvm.cur } }
  if 50000 ≤ x.erased + 1 then sectorRetire s n else s

/-! ## Records (R730 to R733) -/

/-- Bytes that a fragment takes: header, payload, CRC, aligned to 4. -/
def fragSize (f : Frag) : Nat := 24 + 4 * ceilDiv f.data.length 4

def sectorUsed (x : Sector) : Nat := sumN (x.frags.map fragSize)

/-- Program one fragment behind the last one, in a sector with room. -/
def fragPut (s : State) (f : Frag) : Option State :=
  let put := fun (n : Nat) =>
    let x := s.sector n
    let s := s.setSector { x with frags := x.frags ++ [f] }
    programmed { s with nvm := { s.nvm with cur := n } } (fragSize f)
  let c := s.nvm.cur
  if c ≠ 0 ∧ sectorUsed (s.sector c) + fragSize f ≤ 4096 then some (put c)
  else match erased s with
    | n :: _ => some (put n)
    | [] => none

/-- Program fragments in order. -/
def fragsPut : List Frag → State → Option State
  | [], s => some s
  | f :: t, s => match fragPut s f with | some s => fragsPut t s | none => none

/-- The fragments of a payload from fragment `i` on, the last one marked; `fuel` bounds their number. -/
def fragsOf (typ id seq : Nat) : Nat → Nat → List Nat → List Frag
  | 0, _, _ => []
  | fuel + 1, i, bs =>
    if bs.length ≤ 4064 then [⟨typ, i, true, id, seq, bs⟩]
    else ⟨typ, i, false, id, seq, bs.take 4064⟩ :: fragsOf typ id seq fuel (i + 1) (bs.drop 4064)

/-- A new write sequence number. -/
def nextSeq (s : State) : State := { s with nvm := { s.nvm with seq := s.nvm.seq + 1 } }

/-- The layer accepts a write of a record (R733): below 12 usable sectors tombstones and boot records alone. -/
def recAccepts (s : State) (typ : Nat) (bs : List Nat) : Bool :=
  decide (12 ≤ (usable s).length) || decide (typ = R_BOOT) || bs.isEmpty

/-- Write a record; no payload is a tombstone. False where the layer is full: nothing changes. -/
def recPut (s : State) (typ id : Nat) (bs : List Nat) : State × Bool :=
  if recAccepts s typ bs then
    let t := nextSeq s
    match fragsPut (fragsOf typ id t.nvm.seq 128 0 bs) t with
    | some t => (nvmShow t, true)
    | none => (s.event 14, false)
  else (s.event 14, false)

/-- A fragment counts: it belongs to the record in force for its key, or to the stream being written. -/
def fragLive (s : State) (f : Frag) : Bool :=
  recSeq s f.typ f.id == some f.seq || (match s.drl.stream with | some r => f.typ == R_SEED && f.seq == r.seq | none => false)

def liveBytes (s : State) (n : Nat) : Nat := sumN (((s.sector n).frags.filter (fragLive s)).map fragSize)

/-- Copy a sector's live fragments forward; none where there is no room. They stay in the sector until they are copied, so
that it is not itself the erased sector which takes them. -/
def moveLive (s : State) (n : Nat) : Option State :=
  match fragsPut ((s.sector n).frags.filter (fragLive s)) { s with nvm := { s.nvm with cur := if s.nvm.cur = n then 0 else s.nvm.cur } } with
  | some t => some (t.setSector { t.sector n with frags := (s.sector n).frags.filter (fun f => !fragLive s f) })
  | none => none

/-- The lesser of two sectors by a pair of keys. -/
def leastBy (f : Nat → Nat × Nat) : List Nat → Option Nat
  | [] => none
  | n :: t =>
    match leastBy f t with
    | some m => if (f m).1 < (f n).1 ∨ ((f m).1 = (f n).1 ∧ (f m).2 < (f n).2) then some m else some n
    | none => some n

/-- The sector that a reclaim takes (R732): with counts apart by more than 1000, the one of lowest erase count. -/
def reclaimChoice (s : State) : Option Nat :=
  let held := (usable s).filter (fun n => !(s.sector n).frags.isEmpty)
  let e := fun (n : Nat) => (s.sector n).erased
  let counts := (usable s).map e
  if counts.foldl Nat.min (counts.headD 0) + 1000 < maxN counts then leastBy (fun n => (e n, liveBytes s n)) held
  else leastBy (fun n => (liveBytes s n, e n)) held

/-! ## The boot record (R739) -/

/-- The boot record in force: 8 bytes. -/
def bootRec (s : State) : Option (List Nat) :=
  match recGet s R_BOOT 0 with | some b => if b.length = 8 then some b else none | none => none

/-- The active slot of an image kind (1 Furrow-F, 2 Scarecrow, 3 sentry): A with no boot record. -/
def activeSlot (s : State) (kind : Nat) : Nat :=
  match bootRec s with | some b => nth b 7 0 / 2 ^ (kind - 1) % 2 | none => 0

/-- The boot record with the reset values of the registers, which a store without one starts with (R130). -/
def bootDefault (s : State) : List Nat :=
  (bootRec s).getD ([1, (resetWord A.PWR_CFG).toNat % 8] ++ [bits (resetWord A.PWR_MICT).toNat 0 6, bits (resetWord A.PWR_MICT).toNat 8 6] ++
    bytesOfLe 2 (resetWord A.CLK_PDM).toNat ++ [(resetWord A.MIC_PWRCTL).toNat % 16, 0])

/-- Byte 7 alone is rewritten to name a slot (R739). -/
def bootName (s : State) (kind slot : Nat) : State × Bool :=
  let b := bootDefault s
  recPut s R_BOOT 0 (b.take 7 ++ [setBit (nth b 7 0) (kind - 1) (slot == 1)])

/-! ## Images (R734, R735) -/

/-- Slot index of a kind and slot (R752). -/
def slotIndex (kind slot : Nat) : Nat := 2 * (kind - 1) + slot

/-- The sectors of an image slot (R727). -/
def slotSectors (k : Nat) : List Nat :=
  let r := if k = 0 then (2, 96) else if k = 1 then (98, 96) else if k = 2 then (194, 11) else if k = 3 then (205, 11)
    else if k = 4 then (216, 19) else (235, 19)
  (upto r.2).map (· + r.1)

/-- The slot's sectors that are not retired, ascending. -/
def slotGood (s : State) (k : Nat) : List Nat := (slotSectors k).filter (fun n => !s.nvm.bad.contains n)

def State.slotMem (s : State) (k : Nat) : List Host.Cell := nth s.nvm.slot k []

/-- An image, as far as its header and table say. -/
structure Image where
  kind : Nat
  flags : Nat
  version : Nat
  release : List Nat
  sections : List (Nat × Nat × Nat × List Nat × Nat)
  deriving DecidableEq, Repr

/-- A section of an image: type, core, flags, data, destination. -/
def imageSection (b : List Nat) (n : Nat) (i : Nat) : Nat × Nat × Nat × List Nat × Nat :=
  let e := (b.drop (32 + 16 * i)).take 16
  let f := fun (o k : Nat) => leOfBytes ((e.drop o).take k)
  (f 0 1, f 1 1, f 2 1, ((b.drop (32 + 16 * n)).drop (f 4 4)).take (f 8 4), f 12 4)

/-- The bytes that a section kind may take on its core (R362). -/
def sectionFits (kind flags typ core dest len : Nat) : Bool :=
  if kind = 1 then
    if typ = 1 then decide (core < 4) && decide (dest + len ≤ (if bit flags 0 then 32768 else 65536))
    else if typ = 2 then decide (core < 4) && decide (0x10000000 ≤ dest) && decide (dest + len ≤ 0x10000000 + 131072)
    else if typ = 3 then decide (0x20000000 ≤ dest) && decide (dest + len ≤ 0x20000000 + 1048576)
    else typ == 4 && decide (core < 4) && len == 192
  else if kind = 2 then typ == 1 && decide (0x8000 ≤ dest) && decide (dest + len ≤ 0x10000)
  else (typ == 1 && decide (dest + len ≤ 32768)) ||
    (typ == 2 && decide (0x10000000 ≤ dest) && decide (dest + len ≤ 0x10000000 + 32768))

/-- The sections a kind carries: a sentry image one PROG and one DATA, a Scarecrow image one PROG (R734). -/
def sectionsRight (kind : Nat) (types : List Nat) : Bool :=
  if kind = 3 then types == [1, 2] || types == [2, 1] else if kind = 2 then types == [1] else true

/-- The image in slot `k`: its length and bytes, where the header gives a length that the slot can hold. -/
def imageBytes (s : State) (k : Nat) : Option (List Nat) :=
  let h := memRead (s.slotMem k) 0 32
  let len := 32 + 16 * nth h 12 0 + leOfBytes ((h.drop 8).take 4) + 68
  if len ≤ 4096 * (slotGood s k).length then some (memRead (s.slotMem k) 0 len) else none

/-- Parse an image of a kind: the format rules of R734. -/
def imageParse (kind : Nat) (b : List Nat) : Option Image :=
  let f := fun (o n : Nat) => leOfBytes ((b.drop o).take n)
  let n := f 12 1
  let body := f 8 4
  let secs := (upto n).map (imageSection b n)
  let tbl := (upto n).map (fun i => (leOfBytes ((b.drop (36 + 16 * i)).take 4), leOfBytes ((b.drop (40 + 16 * i)).take 4)))
  if f 0 4 == 0x4D494654 && f 4 1 == kind && f 13 3 == 0 &&
      tbl.all (fun e => decide (e.1 + e.2 ≤ body)) &&
      (upto n).all (fun i => nth b (35 + 16 * i) 0 == 0) &&
      secs.all (fun e => sectionFits kind (f 5 1) e.1 e.2.1 e.2.2.2.2 e.2.2.2.1.length) &&
      sectionsRight kind (secs.map (·.1)) then
    some ⟨kind, f 5 1, f 6 2, (b.drop 16).take 16, secs⟩
  else none

/-- The public key that an image kind is verified against (R735). -/
def imageKey (s : State) (kind : Nat) : Option (List Nat) :=
  if kind = 2 then some (bytesOfBe 64 Config.safetyKey.toNat) else s.nvm.fwkey

/-- What an image's check finds: the image, or an error: 4 signature, 5 format, 9 no key (R735, R752). -/
def imageCheck (s : State) (kind k : Nat) : Except Nat Image :=
  match imageBytes s k with
  | none => .error 5
  | some b =>
    let n := b.length
    if leOfBytes (b.drop (n - 4)) ≠ crc32c (b.take (n - 4)) then .error 5
    else
      match imageParse kind b with
      | none => .error 5
      | some img =>
        match imageKey s kind with
        | none => .error 9
        | some key => if ecdsaOk key ((b.drop (n - 68)).take 64) (b.take (n - 68)) then .ok img else .error 4

/-! ## Images into the cores (R362) -/

/-- A list of bytes as rising cells is written by memWrite; one section goes to its core's memory. `half` is the offset of
the program half it goes to. -/
def sectionLoad (s : State) (half : Nat) (e : Nat × Nat × Nat × List Nat × Nat) : State :=
  let c := e.2.1
  let data := e.2.2.2.1
  let dest := e.2.2.2.2
  if e.1 = 1 then progWrite s c (half + dest) data
  else if e.1 = 2 then dataWrite s c (dest - 0x10000000) data
  else if e.1 = 3 then commonWrite s (dest - 0x20000000) data
  else s

/-- The words of a TASKS section: ENTRY, TRIG and BOUND of each entry in turn. -/
def taskWords (c : Nat) (data : List Nat) : List (Nat × Word) :=
  (upto 16).flatMap (fun t => (upto 3).map (fun i =>
    (A.FRW_Tc_t_ENTRY c t + 4 * i, BitVec.ofNat 32 (leOfBytes ((data.drop (12 * t + 4 * i)).take 4)))))

/-- The task tables that an image carries. -/
def imageTasks (img : Image) : List (Nat × Word) :=
  img.sections.flatMap (fun e => if e.1 = 4 then taskWords e.2.1 e.2.2.2.1 else [])

/-- A Furrow-F image goes into every core that is not RETIRED: into half 0, which becomes the active one (R362). -/
def furrowLoad (s : State) (img : Image) (slot : Nat) : State :=
  let s := forEach img.sections (fun s e => if e.1 ≠ 3 ∧ coreState s e.2.1 = C_RETIRED then s else sectionLoad s 0 e) s
  let s := forEach (upto 4) (fun s c =>
    if coreState s c = C_RETIRED then s
    else (s.mark (F.FRW_COREc_ST_UNSIGNED c) false).put (F.FRW_COREc_ST_HALF c) 0) s
  (s.put F.FRW_IMG_FACT slot).put F.FRW_IMG_FVER img.version

/-- A sentry image goes into the sentry core's memories. -/
def sentryLoad (s : State) (img : Image) (slot : Nat) : State :=
  let s := forEach img.sections (fun s e => sectionLoad s 0 { e with snd := { e.2 with fst := SENT } }) s
  (s.mark F.FRW_SENT_CTL_UNSIGNED false).put F.FRW_IMG_NACT slot

/-- A Scarecrow program goes into the Scarecrow's program memory; its version record shows it (R735). -/
def scareLoad (s : State) (img : Image) (slot : Nat) : State :=
  let s := forEach img.sections (fun s e => progWrite s SCARE (e.2.2.2.2 - 0x8000) e.2.2.2.1) s
  let s := (s.put F.SVC_SCVER_VERSION img.version).put F.FRW_IMG_SACT slot
  forEach (upto 4) (fun s i => s.put (F.SVC_SCRELk_RELEASE i) (leOfBytes ((img.release.drop (4 * i)).take 4))) s

/-- The slot of a kind that loads: the active one where it is VALID and passes, else the alternate (R130). -/
def slotChoose (s : State) (kind : Nat) : Option (Nat × Image) :=
  let a := activeSlot s kind
  let try_ := fun (sl : Nat) =>
    if bit s.nvm.valid (slotIndex kind sl) then
      match imageCheck s kind (slotIndex kind sl) with | .ok img => some (sl, img) | .error _ => none
    else none
  match try_ a with | some r => some r | none => try_ (1 - a)

end Sys2Proof.Machine
end

