-- ==== Sys2Proof/Machine/Cores.lean ====
section
/-! DEFINITION. The Furrow cores from outside (R342 to R370, R467, R741): releases, budgets, restarts, drains and returns,
the ECC patrol, the core control registers and the hitless update. -/

namespace Sys2Proof.Machine

/-- The clock of core `c` runs (R331, R41). -/
def coreClocked (s : State) (c : Nat) : Bool :=
  if c < 4 then s.coreRuns && s.awake else s.clk.present && decide (s.pstate ≠ OFF)

/-! ## Tasks (R356 to R361) -/

/-- N µs have passed since the last release of an IRQ task (R356), in HSCK cycles (R39). -/
def spaced (s : State) (c t : Nat) : Bool :=
  match nth (s.core c).lastRel t none with
  | some r => decide (r + taskCycles s c t ≤ s.time.hsck)
  | none => true

/-- A period of N µs counted from the end of INIT ends with this HSCK cycle, and has released nothing yet (R356, R39). -/
def periodEnds (s : State) (c t : Nat) : Bool :=
  let k := s.core c
  let per := Nat.max 1 (taskN s c t) * s.fH
  let x := (s.time.hsck - k.initEnd) * 1000000
  decide (0 < per) && decide (per ≤ x) && decide (x % per < 1000000) && decide (nth k.lastRel t none ≠ some s.time.hsck)

/-- The trigger of task `t` of core `c` stands (R356): its queue holds N entries and no job of it is released; the core's
request line is asserted, N µs after the task's last release or later; a period ends. -/
def triggered (s : State) (c t : Nat) : Bool :=
  let kind := taskKind s c t
  if kind = KIND_QUEUE then
    queueOn s (taskSrc s c t) && decide (taskN s c t ≤ (s.queue (taskSrc s c t)).occ.length) &&
      !(s.core c).jobs.any (fun j => j.task == t)
  else if kind = KIND_IRQ then intReq s c && spaced s c t
  else kind == KIND_PERIOD && periodEnds s c t

/-- The time of a task's release is kept, whether it starts a job, is held or is discarded. -/
def releaseNote (s : State) (c t : Nat) : State :=
  s.setCore c { s.core c with lastRel := setNth (s.core c).lastRel t (some s.time.hsck) }

/-- TASK_RELEASE (R356, R361): the trigger of a task releases it. -/
def execTaskRelease (c : Fin 4) (t : Fin 16) (s : State) : Host.Outcome State Fault Refusal :=
  ok (if coreClocked s c && coreLive s c && !s.flag (F.FRW_COREc_ST_INIT c) && triggered s c t then
    release (releaseNote s c t) c t else s)

/-- The count of a job that has just exceeded its bound is kept in MAX (R360). -/
def budgetMax (s : State) (c t : Nat) : State :=
  let n := Nat.min (2 ^ 24 - 1) (s.get (F.FRW_Tc_t_BOUND_CYC c t) + 1)
  if s.get (F.FRW_Tc_t_MAX_CYC c t) < n then s.put (F.FRW_Tc_t_MAX_CYC c t) n else s

/-- BUDGET_FAULT (R360, R474): the running job of core `c` exceeds its bound. With OVRSTOP = 1 the dispatcher abandons it at
the next eligible boundary. -/
def execBudgetFault (c : Fin 4) (s : State) : Host.Outcome State Fault Refusal :=
  match (s.core c).run with
  | some t =>
    if coreClocked s c && coreLive s c then
      let s := budgetFault (budgetMax s c t) c t
      if s.flag (F.FRW_Tc_t_ENTRY_OVRSTOP c t) then
        let k := s.core c
        let s := s.setCore c { k with drop := true }
        ok (if k.bun.isNone && (atBoundary k || k.regs.estat.getLsbD 12) then abandon s c else s)
      else ok s
    else ok s
  | none => ok s

/-- INIT_OVERRUN (R357): INIT of core `c` has run for more than 10 ms: a budget fault of task 15. -/
def execInitOverrun (c : Fin 4) (s : State) : Host.Outcome State Fault Refusal :=
  ok (if coreClocked s c && coreState s c == C_RUN && s.flag (F.FRW_COREc_ST_INIT c) then budgetFault s c 15 else s)

/-- SENTRY_CORE_RESTART (R467): 1 ms after its FAULT the sentry core starts again. -/
def execSentryCoreRestart (s : State) : Host.Outcome State Fault Refusal :=
  ok (if coreClocked s SENT && coreState s SENT == C_FAULT then coreInit s SENT else s)

/-! ## Memory traffic (R342, R343, R351, R370) -/

/-- STORE_DRAIN (R343): the oldest entry of a core's store buffer reaches its memory. -/
def execStoreDrain (c : Fin 6) (s : State) : Host.Outcome State Fault Refusal :=
  ok (if coreClocked s c then drainN s c 1 else s)

/-- LOAD_RETURN (R342): the oldest outstanding load of a core writes its register. -/
def execLoadReturn (c : Fin 6) (s : State) : Host.Outcome State Fault Refusal :=
  ok (if coreClocked s c then s.setCore c (returnFor (s.core c) (((s.core c).ret.take 1).map (·.1))) else s)

/-- The patrol finds an uncorrectable word (R370): DBE or PDBE. A word of the Scarecrow's memories is an event of
diagnostic 4. -/
def patrolBad (s : State) (c m w : Nat) : State :=
  let add := fun (l : List Nat) => if l.contains w then l else l ++ [w]
  let s :=
    if m = 0 then { s with frw := { s.frw with badProg := setNth s.frw.badProg c (add (nth s.frw.badProg c [])) } }
    else if m = 1 then { s with frw := { s.frw with badData := setNth s.frw.badData c (add (nth s.frw.badData c [])) } }
    else { s with frw := { s.frw with badCommon := add s.frw.badCommon } }
  if c < 4 then s.mark (if m = 0 then F.FRW_COREc_ECC_PDBE c else F.FRW_COREc_ECC_DBE c) true
  else if c = SCARE then scareEcc s else s

/-- Bytes of memory `m` of core `c`: program, data, or the Common, which the ports of F0 to F3 alone reach. -/
def memoryBytes (c m : Nat) : Nat :=
  if m = 0 then progBytes c else if m = 1 then dataBytes c else if c < 4 then commonBytes else 0

/-- Word `a` of memory `m` of core `c` has been struck, beyond correction or not, and no access has met it yet (log 77). -/
def coreStruck (s : State) (e : Fin 6 × Fin 3 × Bool × Nat) : State :=
  let c := e.1.val
  let m := e.2.1.val
  let w := e.2.2.2 / 8 * 8
  let add := fun (l : List Nat) => if l.contains w then l else l ++ [w]
  if memoryBytes c m ≤ w then s
  else if e.2.2.1 then
    (if m = 0 then { s with frw := { s.frw with badProg := setNth s.frw.badProg c (add (nth s.frw.badProg c [])) } }
    else if m = 1 then { s with frw := { s.frw with badData := setNth s.frw.badData c (add (nth s.frw.badData c [])) } }
    else { s with frw := { s.frw with badCommon := add s.frw.badCommon } })
  else
    let k := if m = 2 then 0 else c
    if s.frw.soft.contains (m, k, w) then s else { s with frw := { s.frw with soft := s.frw.soft ++ [(m, k, w)] } }

/-- The patrol reads one word (R351, R370): it corrects it, or flags it. -/
def corePatrol (s : State) (c m w : Nat) (double : Bool) : State :=
  if double then patrolBad s c m w
  else
    let s := softDrop s c m w 8
    if c < 4 then s.incSat (F.FRW_COREc_ECC_SBE c) else s

/-- CORE_ECC_PATROL (R351, R370): the patrol reads the 64-bit word at byte `a` of core `c`'s program memory (`m` = 0) or data
memory (1), or of the Common (2, found by the port of `c`), and corrects it or flags it: `found` says whether the error is
uncorrectable, and beside it names the words that upsets have struck elsewhere, which the next access finds (log 77). -/
def execCoreEccPatrol (c : Fin 6) (m : Fin 3) (a : Nat) (found : Bool × List (Fin 6 × Fin 3 × Bool × Nat)) (s : State) :
    Host.Outcome State Fault Refusal :=
  ok (if coreClocked s c && decide (a < memoryBytes c m) then forEach found.2 coreStruck (corePatrol s c m (a / 8 * 8) found.1) else s)

/-! ## Core control (R357, R358, R365, R366, R741) -/

/-- A write of RUN takes effect (R357, R361, R365): from HALT or FAULT the core starts through INIT; RUN = 0 halts it at the
next boundary. -/
def coreRunWrite (s : State) (c : Nat) (b : Bool) : State :=
  let s := s.mark (F.FRW_COREc_CTL_RUN c) b
  let st := coreState s c
  if b then (if s.awake ∧ (st = C_HALT ∨ st = C_FAULT) then coreInit s c else s)
  else if coreLive s c ∧ eligible s c then coreHalt s c else s

/-- CORE_RUN (R365): clearing RUN of a core with an enabled task acts in SERVICE alone. -/
def execCoreRun (c : Fin 4) (b : Bool) (s : State) : Host.Outcome State Fault Refusal :=
  ok (if !b && decide (s.pstate ≠ SERVICE) && (upto 16).any (fun t => taskKind s c t != 0) then s else coreRunWrite s c b)

/-- A write of STEP: one bundle of a core in HALT (R366). -/
def coreStep (s : State) (c : Nat) : State :=
  if coreState s c = C_HALT then s.setCore c { s.core c with stepping := true } else s

/-- CORE_STEP (R366). -/
def execCoreStep (c : Fin 4) (s : State) : Host.Outcome State Fault Refusal := ok (coreStep s c)

/-- Core `c` becomes RETIRED (R741). -/
def coreRetired (s : State) (c : Nat) : State := (coreStop (drainAll s c) c C_RETIRED).mark (F.FRW_COREc_CTL_RETIRE c) true

/-- The repair map in the anchor records core `c` as retired (R728, R741). -/
def retireMap (s : State) (c : Nat) : State :=
  let s := { s with nvm := { s.nvm with cores := if s.nvm.cores.contains c then s.nvm.cores else s.nvm.cores ++ [c] } }
  nvmShow (anchorWrite s)

/-- CORE_RETIRE (R741): a direct commit of RETIRE = 1, for a core with no enabled task. -/
def execCoreRetire (c : Fin 4) (s : State) : Host.Outcome State Fault Refusal :=
  ok (if (upto 16).any (fun t => taskKind s c t != 0) || coreState s c == C_RETIRED then s else retireMap (coreRetired s c) c)

/-- A write of FRW_SENT_CTL.RUN takes effect (R331, R358): it governs the sentry core outside SENTRY. -/
def sentRunWrite (s : State) (b : Bool) : State :=
  let s := s.mark F.FRW_SENT_CTL_RUN b
  if s.pstate = OFF ∨ s.pstate = SENTRY then s
  else if b then (if coreState s SENT = C_HALT ∨ coreState s SENT = C_OFF then coreInit s SENT else s)
  else if coreState s SENT = C_HALT ∨ coreState s SENT = C_OFF then s
  else coreHalt s SENT

/-- SENTRY_CORE_RUN (R331). -/
def execSentryCoreRun (b : Bool) (s : State) : Host.Outcome State Fault Refusal := ok (sentRunWrite s b)

/-! ## The hitless update (R363, R367) -/

/-- The alternate Furrow-F slot. -/
def swapSlot (s : State) : Nat := 1 - s.get F.FRW_IMG_FACT

/-- FRW_SWAP.REQ starts an update (R363, R367). -/
def swapStart (s : State) : State :=
  let st := s.get F.FRW_SWAP_STATE
  if st = 1 ∨ st = 2 ∨ !s.awake ∨ !s.flag F.FRW_CFG_SPLIT ∨
      (upto 4).any (fun c => s.flag (F.FRW_COREc_ST_UNSIGNED c) && coreState s c != C_RETIRED) then s
  else (s.put F.FRW_SWAP_STATE 1).put F.FRW_SWAP_ERR 0

/-- SWAP_REQ (R363). -/
def execSwapReq (s : State) : Host.Outcome State Fault Refusal := ok (swapStart s)

/-- FRW_SWAP.ERR of an image check's error (R371). -/
def swapErr (e : Nat) : Nat := if e = 5 then 5 else 1

/-- The alternate image's sections go to the inactive halves and, where FRESH, into place; a retired core receives none
(R363 step 1, R364). -/
def swapSections (s : State) (img : Image) : State :=
  forEach img.sections (fun s e =>
    let c := e.2.1
    let fresh := bit e.2.2.1 0
    if e.1 = 1 then (if coreState s c = C_RETIRED then s else sectionLoad s (32768 * (1 - s.get (F.FRW_COREc_ST_HALF c))) e)
    else if e.1 = 2 then (if fresh ∧ coreState s c ≠ C_RETIRED then sectionLoad s 0 e else s)
    else if e.1 = 3 then (if fresh then sectionLoad s 0 e else s)
    else s) s

/-- SWAP_LOAD_END (R363 steps 1 and 2): the alternate image is verified and loaded, and its task tables go to admission; an
image that does not check aborts the update. -/
def execSwapLoadEnd (s : State) : Host.Outcome State Fault Refusal :=
  if s.get F.FRW_SWAP_STATE = 1 ∧ s.coreRuns then
    let k := swapSlot s
    if !bit s.nvm.valid k then ok (swapAbort s 1)
    else
      match imageCheck s 1 k with
      | .error e => ok (swapAbort s (swapErr e))
      | .ok img =>
        if !bit img.flags 0 then ok (swapAbort s 4)
        else
          let s := swapSections s img
          let ws := imageTasks { img with sections := img.sections.filter (fun e => decide (coreState s e.2.1 ≠ C_RETIRED)) }
          let s := { s with frw := { s.frw with swapVer := img.version, swapTasks := ws } }
          ok { s with hsp := { s.hsp with checks := s.hsp.checks ++ [⟨.swap, ws⟩] } }
  else ok s

/-- SWAP_SWITCH (R363 step 4): at a task-frame boundary every half switches, the new task tables are in force, FACT flips, and
the boot record names the new slot (R738). -/
def execSwapSwitch (s : State) : Host.Outcome State Fault Refusal :=
  if s.get F.FRW_SWAP_STATE = 2 ∧ s.coreRuns ∧ frameBoundary s then
    let slot := swapSlot s
    let s := forEach (upto 4) (fun s c =>
      if coreState s c = C_RETIRED then s else s.put (F.FRW_COREc_ST_HALF c) (1 - s.get (F.FRW_COREc_ST_HALF c))) s
    let s := forEach s.frw.swapTasks (fun s e => s.wr e.1 (e.2 &&& BitVec.ofNat 32 (match regRow e.1 with | some r => r.rw | none => 0))) s
    let s := (s.put F.FRW_IMG_FACT slot).put F.FRW_IMG_FVER s.frw.swapVer
    let s := { s with frw := { s.frw with swapVer := 0, swapTasks := [] } }
    let s := (((s.put F.FRW_SWAP_STATE 3).put F.FRW_SWAP_ERR 0).mark F.FRW_SWAP_DONE true).event 12
    ok (bootName s 1 slot).1
  else ok s

end Sys2Proof.Machine
end

