-- ==== Sys2Proof/Machine/Link.lean ====
section
/-! DEFINITION. Hedgerow lanes and link (ch. 18): training, frames, retry, credits, degrade, and the rows of the chapter
that do not carry messages. -/

namespace Sys2Proof.Machine

/-- The lanes of a port carry characters: clocked and not quarantined. -/
def hgRuns (s : State) (x : Nat) : Bool := hgClocked s && !hgQuar s x

abbrev K28_0 : Nat := 0x11C
abbrev K28_2 : Nat := 0x15C
abbrev K28_3 : Nat := 0x17C
abbrev K28_4 : Nat := 0x19C

/-! ## Training (R616 to R619) -/

/-- The port stands in training step `st`. -/
def inStep (s : State) (x st : Nat) : Bool := hgRuns s x && decide (s.get (F.HGx_ST_STATE x) = st)

/-- DETECT_END (R616): receive lanes `l0` and `l1` have reached bit lock; at least one has received TS1 for 1024
characters. A lane without lock is left out. -/
def execDetectEnd (x : Fin 2) (l0 l1 : Bool) (s : State) : Host.Outcome State Fault Refusal :=
  let k := (b2n l0 + 2 * b2n l1) &&& hgLanes s x
  ok (if inStep s x HG_DETECT && decide (k ≠ 0) then
    let s := (s.mark (F.HGx_EQl_LOCK x 0) (bit k 0)).mark (F.HGx_EQl_LOCK x 1) (bit k 1)
    (s.setHgp x { s.hgp x with lreq := k }).put (F.HGx_ST_STATE x) HG_EQ
  else s)

/-- The values of one receive lane's equaliser: CTLE, DFE tap 1, taps 2 and 3. -/
abbrev EqVal : Type := BitVec 4 × BitVec 8 × BitVec 6 × BitVec 6

/-- A lane's equaliser takes the values its adaptation reached, unless it is frozen (R620, R621). -/
def eqSet (s : State) (x l : Nat) (v : EqVal) : State :=
  if s.flag (F.HGx_EQl_FREEZE x l) || !s.flag (F.HGx_EQl_LOCK x l) then s
  else
    let s := (s.put (F.HGx_EQl_CTLE x l) v.1.toNat).put (F.HGx_EQl_DFE1 x l) v.2.1.toNat
    (s.put (F.HGx_EQl_DFE2 x l) v.2.2.1.toNat).put (F.HGx_EQl_DFE3 x l) v.2.2.2.toNat

/-- EQ_END (R616, R620): 131 072 characters have passed; the operands are what the adaptation of each lane reached. -/
def execEqEnd (x : Fin 2) (v0 v1 : EqVal) (s : State) : Host.Outcome State Fault Refusal :=
  ok (if inStep s x HG_EQ then (eqSet (eqSet s x 0 v0) x 1 v1).put (F.HGx_ST_STATE x) HG_DESKEW else s)

/-- DESKEW_END (R616): skew found and removed. -/
def execDeskewEnd (x : Fin 2) (s : State) : Host.Outcome State Fault Refusal :=
  ok (if inStep s x HG_DESKEW then s.put (F.HGx_ST_STATE x) HG_IDENT else s)

/-- The partner's fields are recorded (R617). -/
def peerSet (s : State) (x : Nat) (c3 : Nat) : State :=
  ((s.put (F.HGx_ST_PDEVID x) c3).mark (F.HGx_ST_PPORT x) (bit c3 2)).mark (F.HGx_ST_PBRIDGE x) (bit c3 3)

/-- Two devices of one position, or two ports of the same kind, face each other (R617). -/
def peerConflict (s : State) (x c3 : Nat) : Bool := !bit c3 3 && (decide (c3 % 4 = s.devid) || decide (c3 / 4 % 2 = x))

/-- The lanes of each direction are agreed; fewer than the permitted ones degrade as under R629. -/
def lanesAgree (s : State) (x tx rx : Nat) : State :=
  let s := (s.put (F.HGx_ST_TXL x) tx).put (F.HGx_ST_RXL x) rx
  if tx = 0 ∨ rx = 0 then hgFail s x
  else if tx = hgLanes s x ∧ rx = hgLanes s x then
    ((s.mark (F.HGx_ST_DEGR x) false).put (F.HGx_ST_DCAUSE x) 0).level (98 + 8 * x) false
  else if s.flag (F.HGx_CFG_DEGR_EN x) then ((s.mark (F.HGx_ST_DEGR x) true).put (F.HGx_ST_DCAUSE x) 1).level (98 + 8 * x) true
  else hgFail s x

/-- IDENT_END (R617, R631): the partner's TS2 fields: character 3, the lanes it transmits on, LREQ, KEEPSTATE, and its free
receive slots. Unless both sides keep state the link resets here and its books start from the advertisement. -/
def execIdentEnd (x : Fin 2) (c3 : BitVec 4) (txLanes lreq : BitVec 2) (keepState : Bool)
    (slots : BitVec 8 × BitVec 8 × BitVec 8 × BitVec 8) (s : State) : Host.Outcome State Fault Refusal :=
  if inStep s x HG_IDENT then
    let s := peerSet s x c3.toNat
    if peerConflict s x c3.toNat then ok (hgStop s x HG_CONFLICT)
    else
      let kept := (s.hgp x).keep && keepState
      let s := if kept then s else linkReset s x
      let p := { s.hgp x with hisLreq := lreq.toNat, hisKeep := keepState }
      let adv := [slots.1.toNat, slots.2.1.toNat, slots.2.2.1.toNat, slots.2.2.2.toNat]
      let s := s.setHgp x (if kept then p else { p with init := adv })
      let s := s.put (F.HGx_ST_STATE x) HG_RTT
      ok (lanesAgree s x (hgLanes s x &&& lreq.toNat) (txLanes.toNat &&& p.lreq))
  else ok s

/-- The retry timeout in 0.1 µs (R619). -/
def hgRto (oneway lanes : Nat) : Nat := ceilDiv ((2 * oneway + 532 / lanes) * 10000 + 30 * 196608) 196608

/-- The lead's SYNC extension no longer covers the latency (R210). -/
def syncLatCheck (s : State) : State :=
  if decide (s.devid = 0) && s.flag F.FLT_SYNC_BCAST && decide (s.get F.FLT_SYNC_EXT < s.get F.FLT_SYNC_LAT_LAT + 8) then
    (s.mark F.FLT_SYNC_LATE true).event 25
  else s

/-- RTT_END (R618, R619): 16 echoes give ONEWAY, LAT and RTO; the port enters UP. Without kept state keying begins (R655). In
SENTRY with HG_KEEP, H0 drops to lane 0 (R633). -/
def execRttEnd (x : Fin 2) (s : State) : Host.Outcome State Fault Refusal :=
  if inStep s x HG_RTT && decide (16 ≤ (s.hgp x).echoes) then
    let p := s.hgp x
    let kept := p.keep && p.hisKeep
    let oneway := ceilDiv (p.crt - 64) 2
    let s := (s.put (F.HGx_RTT_ONEWAY x) oneway).put (F.HGx_RTT_LAT x) (ceilDiv (oneway * 10) (nL s))
    let s := s.put (F.HGx_RTO_RTO x) (hgRto oneway (popcount 2 (s.get (F.HGx_ST_TXL x))))
    let s := (s.put (F.HGx_ST_STATE x) HG_UP).mark (F.HGx_ST_KEPT x) kept
    let s := s.setHgp x { p with fails := 0, keep := false, clean := false, retx := p.unacked, rtos := 0 }
    let s := (s.level (97 + 8 * x) false).event (96 + 8 * x)
    let s := syncLatCheck (hgRoutes (hgOverres s x))
    let s := if x.val = 0 && s.pwr.deferring && s.flag F.PWR_CFG_HG_KEEP then hgKeepLane s else s
    ok (if kept then s else hgHello (s.put (F.HGx_SEC_KST x) 1) x 0)
  else ok s

/-- TRAINING_TIMEOUT (R616): a step exceeds its maximum. -/
def execTrainingTimeout (x : Fin 2) (s : State) : Host.Outcome State Fault Refusal :=
  ok (if hgRuns s x && hgTraining s x then hgFail s x else s)

/-- WAIT_END (R616, R617): 250 ms in WAIT or CONFLICT end. -/
def execWaitEnd (x : Fin 2) (s : State) : Host.Outcome State Fault Refusal :=
  ok (if inStep s x HG_WAIT || inStep s x HG_CONFLICT then hgTrain s x (s.hgp x).keep else s)

/-- RETRAIN (R631, R635). -/
def execRetrain (x : Fin 2) (s : State) : Host.Outcome State Fault Refusal := ok (hgRetrain s x)

/-- LANES_CHANGE (R636): HGx_CFG.LANES has changed from `old`. -/
def execLanesChange (x : Fin 2) (old : BitVec 2) (s : State) : Host.Outcome State Fault Refusal := ok (hgLanesChange s x old.toNat)

/-- PING (R618): a PING with index `i` arrives; ECHO follows 64 characters after it. -/
def execPing (x : Fin 2) (i : BitVec 4) (s : State) : Host.Outcome State Fault Refusal :=
  ok (if inStep s x HG_RTT || inStep s x HG_UP then hgLine s x [K28_4, i.toNat] else s)

/-- ECHO (R618): the echo of PING `i` arrives `crt` characters after the PING was sent. -/
def execEcho (x : Fin 2) (i : BitVec 4) (crt : Nat) (s : State) : Host.Outcome State Fault Refusal :=
  let p := s.hgp x
  ok (if inStep s x HG_RTT && decide (p.echoes = i.toNat) then
    s.setHgp x { p with echoes := p.echoes + 1, crt := Nat.max p.crt crt } else s)

/-! ## Equalisation (R620, R621) -/

/-- One element: its field and the greatest and least value of its range. -/
def eqElem (x l e : Nat) : Fld × Int × Int :=
  if e = 0 then (F.HGx_EQl_CTLE x l, 0, 15) else if e = 1 then (F.HGx_EQl_DFE1 x l, 0, 255)
  else if e = 2 then (F.HGx_EQl_DFE2 x l, -32, 31) else (F.HGx_EQl_DFE3 x l, -32, 31)

/-- EQ_ADAPT (R620, R621): element `e` of lane `l` takes one step, up or down; 2^20 updates in a row at a limit rail it. -/
def execEqAdapt (x l : Fin 2) (e : Fin 4) (up : Bool) (s : State) : Host.Outcome State Fault Refusal :=
  if hgRuns s x && (inStep s x HG_EQ || inStep s x HG_UP) && s.flag (F.HGx_EQl_LOCK x l) && !s.flag (F.HGx_EQl_FREEZE x l) then
    let (f, lo, hi) := eqElem x l e
    let old := if e.val < 2 then (s.get f : Int) else s.getI f
    let new := clampI lo hi (if up then old + 1 else old - 1)
    let s := s.putI f new
    let j := 4 * l.val + e.val
    let n := if new = lo ∨ new = hi then nth (s.hgp x).railRun j 0 + 1 else 0
    let s := s.setHgp x { s.hgp x with railRun := setNth (s.hgp x).railRun j n }
    ok (if n = 2 ^ 20 then hgError (s.mark (F.HGx_EQl_RAIL x l) true) x 2 else s)
  else ok s

/-! ## Frames (R622, R623) -/

/-- What a received frame is (R623): discarded and counted in CRCERR, discarded and counted in PROTERR, or good: KIND, VC,
SEQ and payload. -/
inductive FrameIs where
  | crc | proto
  | good (kind vc seq : Nat) (pl : List Nat)
  deriving DecidableEq, Repr

/-- The checks of R623 on the bytes between SOF and EOF or ABORT. -/
def frameCheck (b : List Nat) (codeErr abort : Bool) : FrameIs :=
  let n := b.length - 4
  if codeErr || abort || decide (b.length < 8) || decide (leOfBytes (b.drop n) ≠ crc32 (b.take n)) then .crc
  else
    let h := leOfBytes (b.take 4)
    let len := bits h 16 9
    let kind := bits h 2 2
    if 2 ≤ kind ∨ 256 < len ∨ bits h 25 7 ≠ 0 ∨ n ≠ 4 + (len + 3) / 4 * 4 then .proto
    else .good kind (bits h 0 2) (bits h 4 12) ((b.drop 4).take len)

/-- Code errors count against their lanes (R614). -/
def codeErrors (s : State) (x e0 e1 : Nat) : State :=
  (s.bump64 (A.HGx_CODEERRl_LO x 0) e0).bump64 (A.HGx_CODEERRl_LO x 1) e1

/-! ## Status (R624 to R627, R671) -/

/-- The STATUS frame of a port (R624). -/
def statusBytes (p : HgPort) : List Nat :=
  let ack := (p.expSeq + 4095) % 4096 + 4096 * b2n p.ackV
  let nak := p.expSeq + 4096 * b2n (p.nak == 1)
  frameBytes 0 1 0 (bytesOfLe 2 ack ++ bytesOfLe 2 nak ++ p.myFreed.map (· % 256) ++ [p.lreq, 0, 0, 0])

/-- STATUS_SEND (R624): a STATUS frame is sent; a NAK in it has been sent once. -/
def execStatusSend (x : Fin 2) (s : State) : Host.Outcome State Fault Refusal :=
  let p := s.hgp x
  ok (if inStep s x HG_UP then
    (hgLine s x (statusBytes p)).setHgp x { p with nak := if p.nak = 1 then 2 else p.nak } else s)

/-- An ACK releases every frame up to ACKSEQ (R626). -/
def ackTake (p : HgPort) (ack : Nat) : HgPort :=
  match p.unacked.findIdx? (fun f => f.seq == ack) with
  | some i =>
    let gone := (p.unacked.take (i + 1)).map (·.seq)
    { p with unacked := p.unacked.drop (i + 1), retx := p.retx.filter (fun f => !gone.contains f.seq), rtos := 0 }
  | none => p

/-- The transmitter follows an LREQ that excludes a lane in use (R629): LANEMODE goes out on the lanes it keeps, and
retransmission starts from the oldest unacknowledged frame. -/
def lreqTake (s : State) (x lreq : Nat) : State :=
  let s := s.setHgp x { s.hgp x with hisLreq := lreq }
  let tx := s.get (F.HGx_ST_TXL x)
  if tx &&& lreq = tx then s
  else
    let s := s.setHgp x { s.hgp x with retx := (s.hgp x).unacked }
    let s := hgLine s x [K28_2, tx &&& lreq]
    hgDegrade s x (tx &&& lreq) (s.get (F.HGx_ST_RXL x)) 1

/-- A link-level protocol error: counted in PROTERR, and the link resets (R671). -/
def hgProtoReset (s : State) (x : Nat) : State := hgDown (s.bump64 (A.HGx_PROTERR_LO x) 1) x

/-- A good STATUS payload. -/
def statusTake (s : State) (x : Nat) (pl : List Nat) : State :=
  let p := s.hgp x
  let freed := (pl.drop 4).take 4
  let ack := leOfBytes (pl.take 2)
  let nak := leOfBytes ((pl.drop 2).take 2)
  if (upto 4).any (fun v => 32 < (nth p.sent v 0 + 256 - nth freed v 0) % 256) then hgProtoReset s x
  else
    let p := if bit ack 12 then ackTake p (ack % 4096) else p
    let p := { p with freed := freed }
    let p := if bit nak 12 then { p with retx := p.unacked } else p
    lreqTake (s.setHgp x p) x (nth pl 8 0 % 4)

/-- RTO_EXPIRE (R626): the retry timeout passes without ACK progress; the eighth in a row is a retry storm. RTO counts under
R39, not in a clock-plan HOLD (R638). -/
def execRtoExpire (x : Fin 2) (s : State) : Host.Outcome State Fault Refusal :=
  let p := s.hgp x
  if inStep s x HG_UP && !p.unacked.isEmpty && decide (s.clk.phase = .run) then
    let s := s.bump64 (A.HGx_TIMEOUT_LO x) 1
    let s := s.setHgp x { p with retx := p.unacked, rtos := p.rtos + 1 }
    if 8 ≤ p.rtos + 1 then
      let s := hgError s x 3
      ok (if hgUp s x then hgDown s x else s)
    else ok s
  else ok s

/-! ## Lanes (R614, R629) -/

/-- A receive lane fails: it leaves LREQ, and the direction degrades to the lane that remains (R629). A failure during
training is ignored (R634). -/
def laneFail (s : State) (x l : Nat) : State :=
  if inStep s x HG_UP && s.bitOf (F.HGx_ST_RXL x) l then
    let p := s.hgp x
    let s := s.setHgp x { p with lreq := setBit p.lreq l false }
    hgDegrade s x (s.get (F.HGx_ST_TXL x)) (setBit (s.get (F.HGx_ST_RXL x)) l false) 1
  else s

/-- ALIGN_SEND (R614, R616): ALIGN on every lane in use. -/
def execAlignSend (x : Fin 2) (s : State) : Host.Outcome State Fault Refusal :=
  ok (if inStep s x HG_UP || inStep s x HG_DESKEW then
    hgLine s x (List.replicate (popcount 2 (s.get (F.HGx_ST_TXL x))) K28_3) else s)

/-- ALIGN_MISSED (R614): the receiver has missed two consecutive ALIGNs on lane `l`. -/
def execAlignMissed (x l : Fin 2) (s : State) : Host.Outcome State Fault Refusal := ok (laneFail s x l)

/-- LANEMODE (R629): the partner sends on lanes `set` from here on. -/
def execLanemode (x : Fin 2) (set : BitVec 2) (s : State) : Host.Outcome State Fault Refusal :=
  let rx := s.get (F.HGx_ST_RXL x)
  ok (if inStep s x HG_UP && decide (rx &&& set.toNat ≠ rx) then
    let s := s.setHgp x { s.hgp x with lreq := (s.hgp x).lreq &&& set.toNat }
    hgDegrade s x (s.get (F.HGx_ST_TXL x)) (rx &&& set.toNat) 1 else s)

/-- LANE_FAIL (R629): receive lane `l` loses bit lock, or shows `errs` code errors (64 within 1 ms). -/
def execLaneFail (x l : Fin 2) (unlock : Bool) (errs : Nat) (s : State) : Host.Outcome State Fault Refusal :=
  if inStep s x HG_UP then
    let s := s.bump64 (A.HGx_CODEERRl_LO x l) errs
    let s := if unlock then s.mark (F.HGx_EQl_LOCK x l) false else s
    ok (laneFail s x l)
  else ok s

/-! ## Down and error rate (R632, R640) -/

/-- STATUS_TIMEOUT (R632): 1 ms with no STATUS frame received. -/
def execStatusTimeout (x : Fin 2) (s : State) : Host.Outcome State Fault Refusal := ok (if inStep s x HG_UP then hgDown s x else s)

/-- LINK_DOWN (R632): bit lock is lost on every lane in use, or the partner enters OFF. -/
def execLinkDown (x : Fin 2) (s : State) : Host.Outcome State Fault Refusal :=
  if hgUp s x then
    let s := (s.mark (F.HGx_EQl_LOCK x 0) false).mark (F.HGx_EQl_LOCK x 1) false
    ok (hgDown s x)
  else ok s

/-- ERROR_RATE_WINDOW (R640): an ERRWIN window ends, with `e0` and `e1` code errors outside frames in it; growth of the
three counters by ERRLIM or more is an event with ERRC = 1. -/
def execErrorRateWindow (x : Fin 2) (e0 e1 : Nat) (s : State) : Host.Outcome State Fault Refusal :=
  if hgRuns s x then
    let s := codeErrors s x e0 e1
    let sum := s.pair (A.HGx_CRCERR_LO x) + s.pair (A.HGx_CODEERRl_LO x 0) + s.pair (A.HGx_CODEERRl_LO x 1)
    let old := (s.hgp x).errBase
    let s := s.setHgp x { s.hgp x with errBase := sum }
    ok (if s.get (F.HGx_CFG_ERRLIM x) ≤ sum - old then hgError s x 1 else s)
  else ok s

/-! ## Quarantine (R666) -/

/-- QHOLD_END (R666): a FAULTY quarantine ends. -/
def execQholdEnd (x : Fin 2) (s : State) : Host.Outcome State Fault Refusal :=
  ok (if s.clk.present && decide (s.get (F.HGx_QCTL_QSTATE x) = 1) then hgQuarEnd s x else s)

/-- The host releases a port: its counts clear and a quarantine ends (R666). -/
def hgRelease (s : State) (x : Nat) : State :=
  let s := s.setHgp x { s.hgp x with macTimes := [], qTimes := [] }
  let s := (s.put (F.HGx_SEC_MACWIN x) 0).put (F.HGx_QCTL_QEV x) 0
  if hgQuar s x then hgQuarEnd s x else s

/-- RELEASE (R666): the host writes HGx_QCTL.RELEASE. -/
def execRelease (x : Fin 2) (s : State) : Host.Outcome State Fault Refusal := ok (hgRelease s x)

/-! ## Keying (R655, R656, R658) -/

/-- KEYING_TIMEOUT (R656): not KEYED within 10 ms of UP. -/
def execKeyingTimeout (x : Fin 2) (s : State) : Host.Outcome State Fault Refusal :=
  if inStep s x HG_UP && !hgKeyed s x then
    let s := macFail s x
    ok (if hgUp s x then hgDown s x else s)
  else ok s

/-- A rekey starts (R658); one in progress goes on (R674). -/
def hgRekey (s : State) (x : Nat) : State :=
  if hgUp s x ∧ s.get (F.HGx_SEC_KST x) = 2 then
    let g := (s.hgp x).key.sendGen + 1
    let s := s.setKey x { (s.hgp x).key with helloSeen := false }
    hgHello (s.put (F.HGx_SEC_KST x) 3) x g
  else s

/-- REKEY (R658): HGx_SEC.REKEY is written, or the sending counter reaches 2^31. -/
def execRekey (x : Fin 2) (s : State) : Host.Outcome State Fault Refusal := ok (hgRekey s x)

end Sys2Proof.Machine
end

