-- ==== Sys2Proof/Machine/Messages.lean ====
section
/-! DEFINITION. Hedgerow frames that carry messages (R622 to R628) and the messages themselves (ch. 19): receipt, checks,
relaying, transmission, keys, and the rows of the messages that Hedgerow and the wake unit take. -/

namespace Sys2Proof.Machine

/-! ## Messages as bytes (R641) -/

/-- The message a payload spells; none where it is shorter than its header and trailer or its must-be-0 bit is set. -/
def msgParse (pl : List Nat) : Option Msg :=
  let b := nth pl 1 0
  let auth := bit b 6
  let tail := if auth then 16 else 0
  if pl.length < 8 + tail ∨ 128 ≤ b then none
  else
    let n := pl.length - tail
    some ⟨nth pl 0 0, b % 8, b / 8 % 8, auth, nth pl 2 0, nth pl 3 0, leOfBytes ((pl.drop 4).take 4), (pl.take n).drop 8, pl.drop n⟩

/-- The VC of a type (R647); none for an undefined one. -/
def typeVc (t : Nat) : Option Nat :=
  if (1 ≤ t ∧ t ≤ 13) ∨ t = 0x13 ∨ t = 0x14 then some VC_CTRL
  else if t = 0x10 then some VC_AUDIO
  else if t = 0x11 ∨ t = 0x12 then some VC_BULK
  else if t = 0x20 ∨ t = 0x21 then some VC_SAFE
  else none

/-- Bytes `k` to `k + n - 1` of a body are zero, as its format says. -/
def zeros (b : List Nat) (k n : Nat) : Bool := ((b.drop k).take n).all (· == 0)

/-- Tunnel segments: a fixed head of 8 bytes and up to 48 words (R648). -/
def segOk (b : List Nat) : Bool := decide (8 ≤ b.length) && decide (b.length ≤ 200) && decide (b.length % 4 = 0)

/-- A body keeps the format of its type (R647, R648, R663 to R665). -/
def bodyOk (m : Msg) : Bool :=
  let n := m.body.length
  let t := m.typ
  if t = T_REG_REQ then segOk m.body && zeros m.body 6 2
  else if t = T_REG_RSP then segOk m.body && zeros m.body 1 3
  else if t = T_CLOCK_PLAN ∨ t = T_SYNC then n == 4
  else if t = T_WAKE ∨ t = T_TIME_MARK ∨ t = T_BULK_ACK then n == 12
  else if t = T_NOTICE then n == 32
  else if t = T_KEY_HELLO then n == 16
  else if t = T_TOPO then n == 4 && [0, 1, 2, 3, 4, 6, 7].contains (nth m.body 0 0) && [0, 1, 2, 3, 4, 6, 7].contains (nth m.body 1 0)
  else if t = T_AUDIO then
    decide (40 ≤ n) && decide (nth m.body 0 0 < 16) && decide (1 ≤ nth m.body 1 0) && decide (nth m.body 1 0 ≤ 64) &&
      zeros m.body 4 4 && decide (n = 40 + (3 * nth m.body 1 0 + 3) / 4 * 4)
  else if t = T_BULK_SEG then decide (n = 16 + leOfBytes ((m.body.drop 2).take 2)) && decide (n ≤ 16 + (if m.auth then 208 else 224))
  else if t = T_BULK_READ then
    let k := leOfBytes ((m.body.drop 8).take 4)
    n == 12 && decide (nth m.body 0 0 ≤ 1) && zeros m.body 1 3 && decide (k % 4 = 0) && decide (k ≤ 65536)
  else if t = T_SAFE_HB ∨ t = T_SAFE_STOP then n == 20
  else n == 0

/-- The permission bit a type needs on the incoming link (R647, R654): TUNNEL 0, WAKE 1, SAFE 2, READ 3, NOTICE 4. -/
def typePerm (t : Nat) : Option Nat :=
  if t = T_REG_REQ ∨ t = T_CLOCK_PLAN ∨ t = T_SYNC then some 0
  else if t = T_WAKE ∨ t = T_PREWAKE ∨ t = T_STAND_DOWN then some 1
  else if t = T_SAFE_HB ∨ t = T_SAFE_STOP then some 2
  else if t = T_BULK_READ then some 3
  else if t = T_NOTICE then some 4
  else none

/-- The incoming link's key and the message's originator permit it (R645, R649). -/
def msgPermitted (s : State) (x : Nat) (m : Msg) : Bool :=
  (match typePerm m.typ with
    | some b => bit ((hgKey s x).map (·.2) |>.getD 0) b
    | none => true) &&
  !((m.typ == T_REG_REQ || m.typ == T_CLOCK_PLAN || m.typ == T_SYNC) && m.src != 0)

/-! ## Authentication (R642, R643, R655 to R658) -/

/-- CTR and generation bit of a trailer. -/
def trailerCtr (m : Msg) : Nat := leOfBytes (m.trailer.take 4)
def trailerGen (m : Msg) : Nat := nth m.trailer 4 0 % 2

/-- The trailer's MAC holds under `key`. -/
def macOk (key : Nat) (m : Msg) : Bool := m.trailer.drop 8 == msgMac key m (m.trailer.take 8)

/-- Both nonces of the exchange are known: its keys are derived. -/
def keyDerived (k : KeySt) : Bool := k.helloSent && k.helloSeen

/-- The keys that verify a message from the partner: generation, key, last CTR accepted under it, and whether it is the
next one (R656 to R658). -/
def recvKeys (s : State) (x : Nat) : List (Nat × Nat × Nat × Bool) :=
  let k := (s.hgp x).key
  let waits := (s.hgp x).rx.any (fun r => r.own && r.msg.typ == T_KEY_CONFIRM)
  let old := if hgKeyed s x || k.confSeen then [(k.recvGen, k.recv, (s.rd (A.HGx_RXCTR x)).toNat, false)] else []
  let new := if keyDerived k && !k.confSeen && (hgKeyed s x || waits) then [(k.gen, k.nextRecv, 0, true)] else []
  old ++ new

/-- What authentication says of a received message. -/
inductive AuthIs where
  | pass | macFail | replay
  /-- Good under a session key: its CTR, and whether the key is the next one. -/
  | good (ctr : Nat) (next : Bool)
  deriving DecidableEq, Repr

/-- R643, R657: KEY-CONFIRM is verified when it is taken. -/
def authCheck (s : State) (x vc : Nat) (m : Msg) : AuthIs :=
  if !m.auth then
    if m.typ = T_KEY_HELLO then (if hgKeyed s x then .macFail else .pass)
    else if hgAuth s x vc then .macFail else .pass
  else if m.typ = T_KEY_CONFIRM then .pass
  else
    let ks := recvKeys s x
    match ks.find? (fun k => k.1 % 2 == trailerGen m) with
    | none => if ks.isEmpty then .macFail else .replay
    | some (_, key, last, next) =>
      if !macOk key m then .macFail else if trailerCtr m ≤ last then .replay else .good (trailerCtr m) next

/-- A message good under a session key: its CTR is the last accepted; under the next key the receiver has switched. -/
def authTake (s : State) (x ctr : Nat) (next : Bool) : State :=
  let k := (s.hgp x).key
  let s := s.wr (A.HGx_RXCTR x) (BitVec.ofNat 32 ctr)
  if next && hgKeyed s x then s.setKey x { k with recv := k.nextRecv, recvGen := k.gen } else s

/-! ## Relaying (R644, R645, R672) -/

/-- The port a message that arrived on `x` is relayed on, at the routes in force. -/
def relayPort (s : State) (x : Nat) (m : Msg) : Option Nat :=
  if m.dst = 7 then (if hgUp s (1 - x) then some (1 - x) else none)
  else if m.dst < 5 ∧ s.flag (F.HG0_ROUTEp_VALID m.dst) ∧ s.get (F.HG0_ROUTEp_PORT m.dst) ≠ x then some (s.get (F.HG0_ROUTEp_PORT m.dst))
  else none

/-- A receive slot is freed (R627). -/
def slotFree (s : State) (x vc : Nat) : State :=
  let p := s.hgp x
  s.setHgp x { p with myFreed := setNth p.myFreed vc ((nth p.myFreed vc 0 + 1) % 256) }

/-- A VC's messages at a hand-off. -/
def hgWaiting (s : State) (x vc : Nat) : Nat := ((s.hgp x).tx.filter (fun e => e.1 == vc)).length

/-- The message enters the outgoing hand-off (R645): re-authenticated there, its AGE counted on from its arrival (R653). A
trailer that would not fit is not added. -/
def relayOut (s : State) (y vc : Nat) (r : RxMsg) : State :=
  let m := r.msg
  let auth := m.auth || (hgAuth s y vc && decide (m.body.length ≤ 232))
  let age := leOfBytes (m.body.drop 8)
  let body := if m.typ = T_TIME_MARK then m.body.take 8 ++ bytesOfLe 4 ((r.at_ + (2 ^ 32 - age % 2 ^ 32)) % 2 ^ 32) else m.body
  hgQueue s y vc { m with auth := auth, body := body, trailer := [] }

/-- One waiting message of port `x`: relayed where the outgoing hand-off has credit, in order per VC; the fold carries the
VCs that wait. -/
def relayStep (x : Nat) (a : State × List Nat) (r : RxMsg) : State × List Nat :=
  let (s, stuck) := a
  let keep := fun (s : State) (r : RxMsg) => s.setHgp x { s.hgp x with rx := (s.hgp x).rx ++ [r] }
  let done := fun (s : State) => if r.own then keep s { r with relay := none } else slotFree s x r.vc
  if r.relay.isNone then (keep s r, stuck)
  else match relayPort s x r.msg with
    | none => (done (if r.msg.dst = 7 then s else s.bump64 (A.HGx_MSGCNTk_LO x 4) 1), stuck)
    | some y =>
      if stuck.contains r.vc || decide (hgAvail (s.hgp y) r.vc ≤ hgWaiting s y r.vc) then (keep s r, r.vc :: stuck)
      else (done ((relayOut s y r.vc r).bump64 (A.HGx_MSGCNTk_LO x 5) 1), stuck)

/-- Every message that can enter its outgoing hand-off does (R644). -/
def relayPump (s : State) : State :=
  forEach [0, 1] (fun s x =>
    let l := (s.hgp x).rx
    (l.foldl (relayStep x) (s.setHgp x { s.hgp x with rx := [] }, [])).1) s

/-- A good message on port `x`: accepted, relayed, both, or discarded (R645). HOPS counts this link. -/
def msgRoute (s : State) (x vc : Nat) (m : Msg) : State :=
  let m := { m with hops := m.hops + 1 }
  let own := decide (m.dst = s.devid) || decide (m.dst = 7)
  let on := if m.dst = 7 then decide (m.hops < m.hopmax) && (relayPort s x m).isSome else !own
  let bad := !own && (decide (4 ≤ m.hops) || (relayPort s x m).isNone)
  if bad then slotFree (s.bump64 (A.HGx_MSGCNTk_LO x 4) 1) x vc
  else
    let r : RxMsg := ⟨vc, m, own, if on then some (1 - x) else none, s.time.hsck⟩
    relayPump (s.setHgp x { s.hgp x with rx := (s.hgp x).rx ++ [r] })

/-- The payload of an accepted DATA frame (R641 to R645): authenticated, checked, permitted, routed. -/
def msgTake (s : State) (x vc : Nat) (pl : List Nat) : State :=
  let drop := fun (s : State) (k : Nat) => slotFree (s.bump64 (A.HGx_MSGCNTk_LO x k) 1) x vc
  match msgParse pl with
  | none => drop s 3
  | some m =>
    match authCheck s x vc m with
    | .macFail => macFail (slotFree s x vc) x
    | .replay => macFail (drop s 1) x
    | .pass | .good _ _ =>
      let s := match authCheck s x vc m with | .good ctr next => authTake s x ctr next | _ => s
      if typeVc m.typ ≠ some vc ∨ !bodyOk m ∨ m.dst = 5 ∨ m.dst = 6 then drop s 3
      else if (m.typ = T_KEY_HELLO ∨ m.typ = T_KEY_CONFIRM) ∧ m.dst ≠ s.devid then drop s 3
      else if !msgPermitted s x m then drop s 2
      else msgRoute s x vc m

/-! ## Receiving frames (R625, R671) -/

/-- Receive slots of each VC (R627). -/
def hgSlots (v : Nat) : Nat := if v = 0 then 4 else if v = 1 then 8 else 32

/-- The NAK for the expected frame falls due, once (R625). -/
def nakDue (s : State) (x : Nat) : State :=
  let p := s.hgp x
  s.setHgp x { p with nak := if p.nak = 0 then 1 else p.nak }

/-- A good DATA frame (R625): accepted in order, a duplicate, or out of order. -/
def dataTake (s : State) (x vc seq : Nat) (pl : List Nat) : State :=
  let p := s.hgp x
  let back := (p.expSeq + 4096 - seq) % 4096
  if back = 0 then
    if hgSlots vc ≤ (p.rx.filter (fun r => r.vc == vc)).length then hgProtoReset s x
    else
      let s := s.setHgp x { p with expSeq := (p.expSeq + 1) % 4096, ackV := true, nak := 0 }
      msgTake (s.bump64 (A.HGx_FRX_LO x) 1) x vc pl
  else if back ≤ 16 then s
  else nakDue s x

/-- DATA_FRAME (R614, R623, R625): the bytes of a frame that is no STATUS, the code errors of each lane in it, and whether
it ended in ABORT. A discarded frame leads to a NAK. -/
def execDataFrame (x : Fin 2) (frame : List Byte) (e0 e1 : Nat) (abort : Bool) (s : State) : Host.Outcome State Fault Refusal :=
  if inStep s x HG_UP then
    let s := codeErrors s x e0 e1
    match frameCheck (frame.map BitVec.toNat) (decide (e0 + e1 ≠ 0)) abort with
    | .crc => ok (nakDue (s.bump64 (A.HGx_CRCERR_LO x) 1) x)
    | .proto => ok (nakDue (s.bump64 (A.HGx_PROTERR_LO x) 1) x)
    | .good kind vc seq pl => ok (if kind = 0 then dataTake s x vc seq pl else s)
  else ok s

/-- STATUS_FRAME (R623, R624): the bytes of a STATUS frame; a discarded one is replaced by the next. -/
def execStatusFrame (x : Fin 2) (frame : List Byte) (e0 e1 : Nat) (abort : Bool) (s : State) : Host.Outcome State Fault Refusal :=
  if inStep s x HG_UP then
    let s := codeErrors s x e0 e1
    match frameCheck (frame.map BitVec.toNat) (decide (e0 + e1 ≠ 0)) abort with
    | .crc => ok (s.bump64 (A.HGx_CRCERR_LO x) 1)
    | .proto => ok (s.bump64 (A.HGx_PROTERR_LO x) 1)
    | .good kind vc seq pl =>
      if kind = 0 then ok s
      else if vc = 0 ∧ seq = 0 ∧ pl.length = 12 then ok (relayPump (statusTake s x pl))
      else ok (s.bump64 (A.HGx_PROTERR_LO x) 1)
  else ok s

/-! ## Transmitting (R626 to R628) -/

/-- The next message of a VC: among waiting CTRL frames, SYNC first (R651). -/
def hgFirst (s : State) (x vc : Nat) : Option (Nat × Msg) :=
  let l := (s.hgp x).tx.filter (fun e => e.1 == vc && hgMaySend s x e)
  match l.find? (fun e => e.2.typ == T_SYNC) with
  | some e => some e
  | none => l.head?

/-- The transmitter's choice among new frames (R628 4 to 6), and whether tokens pay for it. -/
def hgPick (s : State) (x : Nat) : Option ((Nat × Msg) × Bool) :=
  match hgFirst s x VC_SAFE with
  | some e => some (e, false)
  | none =>
    let l := [VC_CTRL, VC_AUDIO, VC_BULK].filterMap (hgFirst s x)
    match l.find? (fun e => decide (frameCost s (msgLen e.2) ≤ nth (s.hgp x).tokens e.1 0)) with
    | some e => some (e, true)
    | none => l.head?.map (fun e => (e, false))

/-- A retransmission (R626): the frame keeps its SEQ and CTR; what is written at each transmission is authenticated anew
while the key of its generation is in force. -/
def hgResendFrame (s : State) (x : Nat) (f : TxFrame) : State :=
  let (s, m) := msgOnLine s f.msg
  let k := (s.hgp x).key
  let m := if m.auth ∧ m.body ≠ f.msg.body ∧ trailerGen m = k.sendGen % 2 then { m with trailer := trailerOf k.send (trailerCtr m) k.sendGen m }
    else if m.auth then f.msg else m
  let s := s.setHgp x { s.hgp x with retx := (s.hgp x).retx.drop 1 }
  hgLine (s.bump64 (A.HGx_RETX_LO x) 1) x (frameBytes f.vc 0 f.seq (msgBytes m ++ m.trailer))

/-- A sending counter that has reached 2^31 starts a rekey (R658). -/
def ctrSpent (s : State) (x : Nat) : State := if 2 ^ 31 ≤ (s.rd (A.HGx_TXCTR x)).toNat then hgRekey s x else s

/-- FRAME_TRANSMIT (R628 3 to 6): at a frame boundary the port sends a retransmission, or its next new frame. A plan's
messages and their acknowledgements leave before the host changes HSCK (R52 step 1). -/
def execFrameTransmit (x : Fin 2) (s : State) : Host.Outcome State Fault Refusal :=
  if inStep s x HG_UP then
    match (s.hgp x).retx with
    | f :: _ => ok (hgResendFrame s x f)
    | [] =>
      match hgPick s x with
      | some (e, pay) => ok (relayPump (ctrSpent (hgSendFrame s x e pay) x))
      | none => ok s
  else ok s

/-! ## Taking messages (R644) -/

/-- The unit takes the first accepted message of a type on port `x`: it is consumed unless it still waits to be relayed. -/
def msgOwn (s : State) (x typ : Nat) : Option (RxMsg × State) :=
  let p := s.hgp x
  match p.rx.findIdx? (fun r => r.own && r.msg.typ == typ) with
  | none => none
  | some i =>
    match p.rx[i]? with
    | none => none
    | some r =>
      if r.relay.isSome then some (r, s.setHgp x { p with rx := setNth p.rx i { r with own := false } })
      else some (r, slotFree (s.setHgp x { p with rx := p.rx.eraseIdx i }) x r.vc)

/-- A message from a device: the lead has heard it since its own resumption (R52 step 6; DESIGN CHOICE, log 24). -/
def partnerHeard (s : State) (p : Nat) : State :=
  { s with clk := { s.clk with await := s.clk.await.filter (fun q => decide (q ≠ p)) } }

/-- A row that takes a message acts on it; where none waits, nothing happens. -/
def onMsg (s : State) (x typ : Nat) (f : RxMsg → State → State) : Host.Outcome State Fault Refusal :=
  match msgOwn s x typ with
  | some (r, s) => ok (f r (partnerHeard s r.msg.src))
  | none => ok s

/-! ## Sync and marks (R651, R653) -/

/-- SYNC (R651, R210, R211, R217): the sync edge is the arrival edge + COUNTDOWN − LAT; past it, the device acts at the
next edge, LATE. -/
def execSync (x : Fin 2) (s : State) : Host.Outcome State Fault Refusal :=
  onMsg s x T_SYNC (fun r s =>
    let edge := r.at_ + leOfBytes r.msg.body - s.get (F.HGx_RTT_LAT x)
    let stopped := decide (s.clk.phase ≠ .run) || !s.clk.present || decide (s.pstate = OFF)
    if !s.flag F.FLT_SYNC_MSG_EN || s.flt.sync.isSome || stopped then s
    else if s.time.hsck < edge then { s with flt := { s.flt with sync := some (edge - s.time.hsck) } }
    else ({ s with flt := { s.flt with sync := some 1 } }.mark F.FLT_SYNC_LATE true).event 25)

/-- The swath frame last formed at or before HSCK cycle `t`; a free value before the period's first frame. -/
def frameAt (s : State) (t : Nat) : Nat × State :=
  let back := if s.swa.lastAt ≤ t then 0 else ceilDiv (s.swa.lastAt - t) (Nat.max 1 (s.get F.SWA_CFG_DIV))
  if back + 1 ≤ swathSC s then (swathSC s - 1 - back, s) else s.fresh (2 ^ 64)

/-- TIME_MARK (R653). `same` says that both devices run at one SWA_CFG.DIV under one SYNC. -/
def execTimeMark (x : Fin 2) (same : Bool) (s : State) : Host.Outcome State Fault Refusal :=
  onMsg s x T_TIME_MARK (fun r s =>
    let b := r.msg.body
    let (sc, s) := frameAt s (r.at_ - s.get (F.HGx_RTT_LAT x) - leOfBytes (b.drop 8))
    let s := if s.flag F.HG0_TMST_NEW then s.incSat F.HG0_TMST_OVW else s
    let s := ((s.put F.HG0_TMST_SRC r.msg.src).mark F.HG0_TMST_NEW true).mark F.HG0_TMST_LOCAL_OK same
    let s := (s.put F.HG0_TMST_SLOT (bits r.msg.param 0 6)).mark F.HG0_TMST_FINE (bit r.msg.param 12)
    let s := (s.setPair A.HG0_TMSTAMP_LO (leOfBytes (b.take 8))).setPair A.HG0_TMLOCAL_LO sc
    s.event (103 + 8 * x.val))

/-! ## Wakes (R240, R241, R244) -/

/-- WAKE (R240, R241): the mark goes to LSN_RMARK, the sender's part of HPRE ends, and with RWAKE_EN it is a qualified wake
marked at its acceptance. -/
def execWake (x : Fin 2) (s : State) : Host.Outcome State Fault Refusal :=
  onMsg s x T_WAKE (fun r s =>
    let s := s.setPair A.LSN_RMARK_LO (leOfBytes (r.msg.body.take 8))
    let s := if r.msg.src < 4 then partnerPre s r.msg.src false else s
    if s.flag F.LSN_CFG_RWAKE_EN then qualifiedWake s 3 0 r.msg.src (wakeCounter s) else s)

/-- PREWAKE (R244). -/
def execPrewake (x : Fin 2) (s : State) : Host.Outcome State Fault Refusal :=
  onMsg s x T_PREWAKE (fun r s => if s.flag F.LSN_CFG_RPRE_EN && decide (r.msg.src < 4) then partnerPre s r.msg.src true else s)

/-- STAND_DOWN (R244). -/
def execStandDown (x : Fin 2) (s : State) : Host.Outcome State Fault Refusal :=
  onMsg s x T_STAND_DOWN (fun r s => if r.msg.src < 4 then partnerPre s r.msg.src false else s)

/-! ## Notices and topology (R667, R669) -/

/-- NOTICE (R669). -/
def execNotice (x : Fin 2) (s : State) : Host.Outcome State Fault Refusal :=
  onMsg s x T_NOTICE (fun r s =>
    let s := forEach (upto 8) (fun s i => s.wr (A.HG0_NRXi i) (BitVec.ofNat 32 (leOfBytes ((r.msg.body.drop (4 * i)).take 4)))) s
    let s := if s.flag F.HG0_NRXST_FULL then s.incSat F.HG0_NRXST_OVW else s
    ((s.put F.HG0_NRXST_SRC r.msg.src).mark F.HG0_NRXST_FULL true).event (103 + 8 * x.val))

/-- A NOTICE to NTXCTL.DST enters its hand-off, or ERR says that DST is not reachable (R669). -/
def noticeSend (s : State) : State :=
  let d := s.get F.HG0_NTXCTL_DST
  if d < 5 ∧ s.flag (F.HG0_ROUTEp_VALID d) then
    hgSend s VC_CTRL T_NOTICE d 0 ((upto 8).flatMap (fun i => bytesOfLe 4 (s.rd (A.HG0_NTXi i)).toNat))
  else s.mark F.HG0_NTXCTL_ERR true

/-- NOTICE_SEND (R669): HG0_NTXCTL.SEND is written. -/
def execNoticeSend (s : State) : Host.Outcome State Fault Refusal := ok (noticeSend s)

/-- TOPO (R667). -/
def execTopo (x : Fin 2) (s : State) : Host.Outcome State Fault Refusal :=
  onMsg s x T_TOPO (fun r s =>
    let c := some (nth r.msg.body 0 0, nth r.msg.body 1 0)
    relayPump (hgRoutes { s with hg := { s.hg with topo := setNth s.hg.topo r.msg.src c } }))

/-- TOPO_SEND (R667): on a change of a port, and every 100 ms. -/
def execTopoSend (s : State) : Host.Outcome State Fault Refusal :=
  let s := { s with hg := { s.hg with topoSeq := (s.hg.topoSeq + 1) % 2 ^ 32 } }
  ok (hgBroadcast s VC_CTRL T_TOPO s.hg.topoSeq [hgCode s 0, hgCode s 1, 0, 0])

/-! ## Keys (R655, R656, R658) -/

/-- With both nonces: the next keys are derived, and this side's KEY-CONFIRM enters its hand-off. Side A is the lower
character 3; K(1) is A's sending key. -/
def keyDerive (s : State) (x : Nat) : State :=
  let k := (s.hgp x).key
  match hgKey s x with
  | some (lk, _) =>
    if keyDerived k then
      let a := decide (hgChar3 s x < hgPeer3 s x)
      let nA := if a then k.myNonce else k.hisNonce
      let nB := if a then k.hisNonce else k.myNonce
      let k1 := sessionKey (bytesOfBe 16 lk) nA nB 1
      let k2 := sessionKey (bytesOfBe 16 lk) nA nB 2
      let s := s.setKey x { k with nextSend := if a then k1 else k2, nextRecv := if a then k2 else k1 }
      hgQueue s x VC_CTRL ⟨T_KEY_CONFIRM, hgPeer s x, s.devid, true, 0, 1, k.gen, [], []⟩
    else s
  | none => s

/-- KEY_HELLO (R655, R658): the partner's nonce; on a KEYED port it begins a rekey, answered with this side's own. -/
def execKeyHello (x : Fin 2) (s : State) : Host.Outcome State Fault Refusal :=
  onMsg s x T_KEY_HELLO (fun r s =>
    let s := hgRekey s x
    let k := (s.hgp x).key
    if k.helloSeen || !k.helloSent then s
    else keyDerive (s.setKey x { k with hisNonce := r.msg.body, helloSeen := true }) x)

/-- KEY_CONFIRM (R656): verified under the partner's new key with CTR = 0; a failure is a MAC failure and resets the link. -/
def execKeyConfirm (x : Fin 2) (s : State) : Host.Outcome State Fault Refusal :=
  onMsg s x T_KEY_CONFIRM (fun r s =>
    let k := (s.hgp x).key
    if keyDerived k && decide (trailerCtr r.msg = 0) && decide (trailerGen r.msg = k.gen % 2) && macOk k.nextRecv r.msg then
      let s := if k.recvGen = k.gen ∧ hgKeyed s x then s else s.wr (A.HGx_RXCTR x) 0
      keyedFollow (s.setKey x { k with recv := k.nextRecv, recvGen := k.gen, confSeen := true }) x
    else
      let s := macFail s x
      if hgUp s x then hgDown s x else s)

/-! ## Audio and bulk (R661 to R665) -/

/-- AUDIO (R664): a device consumes the message. -/
def execAudio (x : Fin 2) (s : State) : Host.Outcome State Fault Refusal := onMsg s x T_AUDIO (fun _ s => s)

/-- BULK_SEG (R665): a device consumes the message. -/
def execBulkSeg (x : Fin 2) (s : State) : Host.Outcome State Fault Refusal := onMsg s x T_BULK_SEG (fun _ s => s)

/-- BULK_ACK (R662, R314): the bridge has stored the block; blocks in flight up to it are unloaded in order. -/
def execBulkAck (x : Fin 2) (s : State) : Host.Outcome State Fault Refusal :=
  onMsg s x T_BULK_ACK (fun r s =>
    let k := nth r.msg.body 0 0
    let stamp := leOfBytes (r.msg.body.drop 4)
    if k < 8 ∧ (s.strip k).flight.head? = some stamp then unloadAck s k (stamp + 256) else s)

/-- BULK_READ (R663): the mitten decides once for the whole range; a grant returns the range, a refusal NAK-DENIED. -/
def execBulkRead (x : Fin 2) (s : State) : Host.Outcome State Fault Refusal :=
  onMsg s x T_BULK_READ (fun r s =>
    let short := decide (nth r.msg.body 0 0 = 1)
    let a := leOfBytes ((r.msg.body.drop 4).take 4)
    let n := leOfBytes ((r.msg.body.drop 8).take 4)
    let tag := r.msg.param
    let dst := r.msg.src
    if mittenOpen s && decide (a + n ≤ (if short then shortBytes else swathBytes)) && rangeReadable s short a n then
      let data := memRead (if short then s.swa.short else s.swa.mem) a n
      let y := s.get (F.HG0_ROUTEp_PORT dst)
      let seg := if s.flag (F.HGx_MSGCFG_AUTHDATA y) then 208 else 224
      let s := mittenTouch (eccCheck s short a n)
      forEach (bulkSegs 255 0 seg data (n + 1) 0) (fun s b => hgSend s VC_BULK T_BULK_SEG dst tag b) s
    else hgSend (mittenDeny s) VC_CTRL T_NAK_DENIED dst tag [])

/-- NAK_DENIED (R663): a device, which originates no BULK-READ, consumes the message. -/
def execNakDenied (x : Fin 2) (s : State) : Host.Outcome State Fault Refusal := onMsg s x T_NAK_DENIED (fun _ s => s)

/-- The mask of a mark bit over samples (R664). -/
def markMask (l : List Nat) (b : Nat) : Nat := sumN ((upto l.length).map (fun i => if bit (nth l i 0) b then 2 ^ i else 0))

/-- AUDIO_MESSAGE_SEND (R661, R664): 64 samples of stream `u`, or fewer at the end of a period, enter the hand-off of the
port that carries it. -/
def execAudioMessageSend (u : Fin 16) (s : State) : Host.Outcome State Fault Refusal :=
  let st := nth s.hg.ustr u UStream.reset
  let n := Nat.min 64 st.buf.length
  match (upto 2).find? (fun x => s.bitOf (F.HGx_USTR_STREAMS x) u) with
  | some x =>
    if hgUp s x && (decide (n = 64) || decide (0 < n) && !s.swa.run) && decide (hgWaiting s x VC_AUDIO < 16) then
      let l := st.buf.take n
      let first := st.count + st.drops
      let disc := if 0 < st.drops then setBit (markMask l 25) 0 true else markMask l 25
      let data := l.flatMap (bytesOfLe 3)
      let body := [u.val, n] ++ bytesOfLe 2 (Nat.min 65535 st.drops) ++ [0, 0, 0, 0] ++ bytesOfLe 8 first ++
        bytesOfLe 8 (markMask l 24) ++ bytesOfLe 8 disc ++ bytesOfLe 8 (markMask l 26) ++ padTo ((3 * n + 3) / 4 * 4) 0 data
      let s := { s with hg := { s.hg with ustr := setNth s.hg.ustr u ⟨st.buf.drop n, 0, first + n⟩ } }
      ok (hgQueue s x VC_AUDIO ⟨T_AUDIO, 4, s.devid, hgAuth s x VC_AUDIO, 0, 3, 0, body, []⟩)
    else ok s
  | none => ok s

/-- BULK_RESEND (R662): no BULK-ACK within 100 ms. -/
def execBulkResend (k : Fin 8) (s : State) : Host.Outcome State Fault Refusal :=
  match (if s.clk.present then (s.strip k).flight else []) with
  | t :: _ => ok (s.setStrip k { s.strip k with sent := t, flight := [] })
  | [] => ok s

end Sys2Proof.Machine
end

