-- ==== Sys2Proof/Machine/Mic.lean ====
section
/-! DEFINITION. The rows of the microphone inputs (ch. 5), group power-up (R136, R137), and the NVM records of the
calibration sets. -/

namespace Sys2Proof.Machine

/-! ## Liveness (R177, R178) -/

/-- The input is checked: enabled, powered, clocked, outside its intervals; in SENTRY only the sentry input (R177). -/
def inputChecked (s : State) (p : Nat) : Bool :=
  listens s && inputOn s p && !inputSettling s p && (decide (s.pstate ≠ SENTRY) || decide (p = sentryIn s))

/-- A liveness event is counted (R178). -/
def liveEvent (s : State) : State := s.bump64 A.MIC_EVT_LO 1

/-- The logical channel that an input feeds. -/
def channelOf (s : State) (p : Nat) : Option Nat := (upto 32).find? (fun n => mapOn s n && mapPhys s n == p)

/-- The lowest spare in state OK (R168). -/
def spareOk (s : State) : Option Nat := (upto 32).find? (fun p => s.bitOf F.MIC_SPARE_SPARE p && micState s p == MS_OK)

/-- A channel's input is remapped to a spare: a hard cut, AUTO, and source 17 (R168), which `told` says has risen already for
this channel. -/
def remapTo (s : State) (n q : Nat) (told : Bool) : State :=
  let s := (s.put (F.MIC_MAPn_PHYS n) q).putBit F.MIC_SPARE_SPARE q false
  let s := (s.mark (F.MIC_MAPn_AUTO n) true).mark (F.MIC_MAPn_LCFAULT n) false
  let s := s.setChain n { s.chain n with mute := false }
  let i := (s.chain n).inst
  let s := chainCut s n { instTarget s n with bank := i.bank, taps := i.taps, oshift := i.oshift }
  if told then s else s.event 17

/-- No spare is OK (R168): LCFAULT, source 18, and with MUTE_NOSPARE the channel carries zeros. -/
def noSpare (s : State) (n : Nat) (told : Bool) : State :=
  let s := s.mark (F.MIC_MAPn_LCFAULT n) true
  let s := if told then s else s.event 18
  if s.flag F.MIC_CFG_MUTE_NOSPARE then s.setChain n { s.chain n with mute := true, disc := true, gDisc := true } else s

/-- A commit under check touches MIC_MAP (R169). -/
def mapUnderCheck (s : State) : Bool :=
  s.hsp.checks.any (fun c => c.words.any (fun w => decide (A.MIC_MAPn 0 ≤ w.1) && decide (w.1 ≤ A.MIC_MAPn 31)))

/-- The automatic remaps of the present HSCK cycle (R181, R182). -/
def remapsNow (s : State) : List RemapSt := if s.mic.remapAt = s.time.hsck then s.mic.remaps else []

/-- Insert a channel with its faulted input, lowest channel first. -/
def insertRemap (e : Nat × Nat) : List (Nat × Nat) → List (Nat × Nat)
  | [] => [e]
  | x :: t => if e.1 ≤ x.1 then e :: x :: t else x :: insertRemap e t

/-- One channel of a cycle takes the lowest spare that is OK. -/
def remapOne (old : List RemapSt) (s : State) (e : Nat × Nat) : State :=
  let was := old.find? (fun r => r.chan == e.1)
  let q := spareOk s
  let told := match was with | some r => r.spare.isSome == q.isSome | none => false
  let s := match q with | some q => remapTo s e.1 q told | none => noSpare s e.1 told
  { s with mic := { s.mic with remaps := s.mic.remaps ++ [⟨e.1, e.2, q⟩] } }

/-- The automatic remap of a faulted input that is still mapped. Faults of one HSCK cycle are taken together: their channels
take spares in ascending order, and a spare that faults in the cycle is passed over and stays marked (R181, R182). -/
def remapNow (s : State) (p : Nat) : State :=
  match channelOf s p with
  | none => s
  | some n =>
    let old := remapsNow s
    -- the spares of this cycle go back, and the channels to the inputs that faulted
    let back := forEach old (fun s r =>
      match r.spare with
      | some q => (s.put (F.MIC_MAPn_PHYS r.chan) r.input).putBit F.MIC_SPARE_SPARE q true
      | none => s) s
    let l := old.foldl (fun l r => insertRemap (r.chan, r.input) l) (if old.any (fun r => r.chan == n) then [] else [(n, p)])
    forEach l (remapOne old) { back with mic := { back.mic with remapAt := s.time.hsck, remaps := [] } }

/-- AUTO_SPARE on a fault of an input (R168); a commit under check that touches the map is decided first (R169). -/
def autoSpare (s : State) (p : Nat) : State :=
  if s.flag F.MIC_CFG_AUTO_SPARE && (channelOf s p).isSome then
    if mapUnderCheck s then { s with mic := { s.mic with waitRemap := s.mic.waitRemap ++ [p] } } else remapNow s p
  else s

/-- The remaps that waited for a decision (R169), lowest channel first (R182). -/
def remapsWaiting (s : State) : State :=
  if mapUnderCheck s then s
  else
    let l := (upto 32).filter (fun n => mapOn s n && s.mic.waitRemap.contains (mapPhys s n))
    let ps := l.map (mapPhys s)
    forEach ps remapNow { s with mic := { s.mic with waitRemap := [] } }

/-- A group or target of a running measurement fails (R176). -/
def calTargetLost (s : State) (p : Nat) : State :=
  match s.mic.cal with
  | some c => if c.targets.contains p then calAbort s else s
  | none => s

/-- An input enters FAULT (R178). -/
def inputFault (s : State) (p : Nat) : State :=
  let s := ((micSet s p MS_FAULT).incSat (F.MIC_STATn_EPIS p)).event 16
  let s := calTargetLost s p
  let s := autoSpare s p
  if sentryIn s = p then sentryFailover s else s

/-- The armed stop inputs to which an input contributes (R699 rows 11 and 12, R695). -/
def stopsFedBy (s : State) (p : Nat) : List Nat :=
  (stopInputs s).filter (fun n =>
    (contributing s n).any (fun c => mapOn s c && mapPhys s c == p) || (routeOf s (144 + n) == 49 && sentryIn s == p))

/-- A stuck or density event on a contributing channel is an event of diagnostic `i`. With REMAP_OK an event whose input
a spare replaced in the same sample is transient, once an hour for each stop input (R701). `ins` are the stop inputs fed
before the event, `s0` the state before it. -/
def livenessDiag (s0 s : State) (p i : Nat) : State :=
  let ins := stopsFedBy s0 p
  if ins.isEmpty then s
  else
    let replaced := (match channelOf s0 p with | some n => mapPhys s n != p && s.flag (F.MIC_MAPn_AUTO n) | none => false)
    if s.flag F.SAF_ARM_REMAP_OK && replaced then
      let again := s.saf.remaps.any (fun r => ins.contains r.1 && decide (s.time.ms < r.2 + 3600000))
      let s := { s with saf := { s.saf with remaps := ins.map (fun n => (n, s.time.ms)) ++ s.saf.remaps.filter (fun r => !ins.contains r.1) } }
      if again then diagEventT s i 1 else diagEventT s i 256
    else diagEvent s i

/-- STUCK_AT (R177): 256 consecutive bits equal to `v` on input `p`. -/
def execStuckAt (p : Fin 32) (v : Bool) (s : State) : Host.Outcome State Fault Refusal :=
  let p := p.val
  if inputChecked s p then
    let t := (liveEvent s).mark (if v then F.MIC_STATn_STUCK1 p else F.MIC_STATn_STUCK0 p) true
    let t := if micState s p = MS_FAULT then t else inputFault t p
    ok (livenessDiag s t p 11)
  else ok s

/-- DENSITY_EVENT (R177): a density window of input `p` ends with `n` ones. Four events within 1 s are a fault. -/
def execDensityEvent (p : Fin 32) (n : BitVec 16) (s : State) : Host.Outcome State Fault Refusal :=
  let p := p.val
  let w := 2 ^ (10 + s.get F.MIC_DENS_WIN)
  let out := decide (256 * n.toNat < s.get F.MIC_DENS_DLO * w) || decide (s.get F.MIC_DENS_DHI * w < 256 * n.toNat)
  if inputChecked s p && out then
    let now := s.time.ms
    let d := now :: (nth s.mic.dens p []).filter (fun k => decide (now < k + 1000))
    let t := { s with mic := { s.mic with dens := setNth s.mic.dens p d } }
    let t := (liveEvent t).mark (F.MIC_STATn_DENS p) true
    let st := micState s p
    let t := if 4 ≤ d.length ∧ st ≠ MS_FAULT then inputFault t p else if st = MS_OK then micSet t p MS_SUSPECT else t
    ok (livenessDiag s t p 12)
  else ok s

/-- The neighbours of an input: enabled and not in FAULT (R179). -/
def neighbours (s : State) (p : Nat) : List Nat :=
  (ones 32 (s.get (F.MIC_NBRn_MASK p))).filter (fun q => q != p && s.bitOf F.MIC_INEN_EN q && micState s q != MS_FAULT)

/-- NB_NA of an input (R179): one that is checked for liveness has fewer than two neighbours. -/
def neighbourNa (s : State) (p : Nat) : Bool := inputOn s p && decide ((neighbours s p).length < 2)

/-- MIC_FAULT: the inputs whose state is FAULT (R178). -/
def faultMask (s : State) : Nat := sumN ((upto 32).map (fun p => if micState s p = MS_FAULT then 2 ^ p else 0))

/-- A sorted insertion. -/
def insertN (x : Nat) : List Nat → List Nat
  | [] => [x]
  | y :: t => if x ≤ y then x :: y :: t else y :: insertN x t

/-- Twice the median of a list: the middle value, or the mean of the two middle ones. -/
def median2 (l : List Nat) : Nat :=
  let m := l.foldl (fun a x => insertN x a) []
  nth m ((m.length - 1) / 2) 0 + nth m (m.length / 2) 0

/-- An input's floor departs from its neighbours' median by more than NBLIM dB (R177, R179). -/
def floorDeparts (s : State) (p : Nat) : Bool :=
  let ns := neighbours s p
  let f : Int := 2 * (s.get (F.MIC_STATn_FLOOR p) : Nat)
  let m : Int := (median2 (ns.map (fun q => s.get (F.MIC_STATn_FLOOR q))) : Nat)
  decide (2 ≤ ns.length) && decide (4 * s.get F.MIC_NBCFG_NBLIM < (f - m).natAbs)

/-- NEIGHBOUR_EVENT (R177): the floor of input `p` has departed from its neighbours' median for 1.5 s. -/
def execNeighbourEvent (p : Fin 32) (s : State) : Host.Outcome State Fault Refusal :=
  let p := p.val
  if inputChecked s p && decide (s.pstate ≠ SENTRY) && floorDeparts s p then
    let t := (liveEvent s).mark (F.MIC_STATn_NB p) true
    ok (if micState s p = MS_OK ∨ micState s p = MS_SUSPECT then micSet t p MS_DEVIANT else t)
  else ok s

/-- SUSPECT_CLEAR (R178): 1 s has passed without a further event on input `p`. -/
def execSuspectClear (p : Fin 32) (s : State) : Host.Outcome State Fault Refusal :=
  let p := p.val
  if micState s p = MS_SUSPECT then
    ok { micSet s p MS_OK with mic := { s.mic with dens := setNth s.mic.dens p [] } }
  else ok s

/-- The latched fault of an input clears, and with it what its channel shows (R158, R178). -/
def latchDrop (s : State) (p : Nat) : State :=
  if MS_DEVIANT ≤ s.get (F.MIC_STATn_STATE p) then
    let s := micSet s p MS_OK
    match channelOf s p with
    | some n => (s.mark (F.MIC_MAPn_LCFAULT n) false).setChain n { s.chain n with mute := false }
    | none => s
  else s

/-- LATCH_CLR (R178): FAULT or DEVIANT clears and the input passes through TMC. -/
def latchClr (s : State) (p : Nat) : State :=
  if MS_DEVIANT ≤ s.get (F.MIC_STATn_STATE p) then
    let s := latchDrop s p
    if groupRuns s (p / 8) ∧ s.bitOf F.MIC_INEN_EN p then settleStart s p .tmc else s
  else s

def execLatchClr (p : Fin 32) (s : State) : Host.Outcome State Fault Refusal := ok (latchClr s p)

/-! ## Partner check (R180) -/

/-- The mean square of an input's latest 10 ms frame, as sum and count, and the least of the last 150. -/
def level10 (s : State) (p : Nat) : Nat × Nat := (nth s.mic.levels p []).headD (0, 1)
def levelFloor (s : State) (p : Nat) : Nat × Nat :=
  (nth s.mic.levels p []).foldl (fun a b => if b.1 * a.2 < a.1 * b.2 then b else a) (level10 s p)

/-- PARTNER_DEAF_CHECK: one 10 ms comparison of the sentry input with its partner. -/
def execPartnerDeafCheck (s : State) : Host.Outcome State Fault Refusal :=
  let p := s.get F.MIC_CFG_PARTNER_IN
  if s.awake ∧ listens s ∧ s.flag F.MIC_CFG_PARTNER_EN then
    let l := level10 s p
    let f := levelFloor s p
    let a := level10 s (sentryIn s)
    if l.1 * f.2 < 100 * f.1 * l.2 ∨ l.1 = 0 then ok s
    else if (a.1 * l.2) ^ 10 * 10 ^ s.get F.MIC_NBCFG_PLIM < (l.1 * a.2) ^ 10 then
      let n := Nat.min 255 (s.get F.MIC_PART_RUN + 1)
      let s := s.put F.MIC_PART_RUN n
      if n = 50 then
        let s := (liveEvent (s.mark F.MIC_PART_DEAF true)).event 20
        ok (sentryFailover s)
      else ok s
    else ok (s.put F.MIC_PART_RUN 0)
  else ok s

/-! ## Group power (R136, R137, R157, R158) -/

/-- Start-up step 10 ends once every wanted group is powered and no input is in TSU (R126). -/
def step10 (s : State) : State :=
  if stepRuns s 10 && (groupsDue s).isEmpty && s.mic.settle.all (fun k => k != .tsu) then stepEnd s 10 else s

/-- Groups may be powered: outside OFF and SENTRY, in step 10 of start-up, and in an exit from SENTRY after lock. -/
def groupsMay (s : State) : Bool :=
  s.awake || stepRuns s 10 || (decide (s.pstate = SENTRY) && s.pwr.trans.isSome && !transWaits s .lock)

/-- TMC_END (R137): the mode-change interval of input `p` ends. -/
def execTmcEnd (p : Fin 32) (s : State) : Host.Outcome State Fault Refusal := ok (if s.clk.present then settleEnd s p .tmc else s)

/-- A power cycle of a group (R158): it goes off and shows BUSY; a measurement of one of its inputs aborts (R176). -/
def powerCycle (s : State) (g : Nat) : State :=
  if armedRules s || !groupPowered s g || s.bitOf F.MIC_PWRCTL_BUSY g || (decide (s.pstate = SENTRY) && decide (sentryIn s / 8 = g)) then s
  else
    let s := forEach (groupInputs g) calTargetLost s
    (groupDown s g).putBit F.MIC_PWRCTL_BUSY g true

/-- POWER_CYCLE: a write of CYCLE for group `g`. -/
def execPowerCycle (g : Fin 4) (s : State) : Host.Outcome State Fault Refusal := ok (powerCycle s g)

/-- POWER_CYCLE_OFF_END (R157, R158): TOFF ms have passed; MICPWR reasserts and the latched faults clear, where the group is
still to be powered; source 21 rises. -/
def execPowerCycleOffEnd (g : Fin 4) (s : State) : Host.Outcome State Fault Refusal :=
  let g := g.val
  if s.bitOf F.MIC_PWRCTL_BUSY g && s.clk.present then
    let s := s.putBit F.MIC_PWRCTL_BUSY g false
    if groupWanted s g && s.awake then ok ((groupUp (forEach (groupInputs g) latchDrop s) g).event 21) else ok (s.event 21)
  else ok s

/-! ## Sentry input and map (R162, R166, R183) -/

/-- The sentry input becomes `p`, from `old` (R162). -/
def sentryChange (s : State) (old p : Nat) : State :=
  if old = p then s
  else
    let s := s.put F.MIC_CFG_SENTRY_IN p
    let s := if s.pstate = SENTRY ∧ old / 8 ≠ p / 8 then
        let s := if groupPowered s (p / 8) then s else groupUp s (p / 8)
        match s.mic.oldGroup with
        | some o => if o ≠ p / 8 ∧ o ≠ old / 8 then groupDown { s with mic := { s.mic with oldGroup := some (old / 8) } } o else { s with mic := { s.mic with oldGroup := some (old / 8) } }
        | none => { s with mic := { s.mic with oldGroup := some (old / 8) } }
      else s
    sadSentryChange (sentryClear s)

/-- SENTRY_IN_CHANGE: a change of SENTRY_IN to an enabled input. -/
def execSentryInChange (p : Fin 32) (s : State) : Host.Outcome State Fault Refusal :=
  ok (if s.bitOf F.MIC_INEN_EN p.val then sentryChange s (sentryIn s) p.val else s)

/-- MAP_CHANGE (R166): channel `n` takes the input of MIC_MAPn at its output boundary: a hard cut with CUT = 1, else a
fade. An input in FAULT sets LCFAULT (R183); AUTO shows that the last change was not automatic (R187). -/
def execMapChange (n : Fin 32) (s : State) : Host.Outcome State Fault Refusal :=
  let n := n.val
  let c := s.chain n
  if !mapOn s n ∨ c.inst.input = mapPhys s n then ok s
  else
    let s := s.mark (F.MIC_MAPn_LCFAULT n) (decide (micState s (mapPhys s n) = MS_FAULT))
    let s := (s.mark (F.MIC_MAPn_AUTO n) false).setChain n { s.chain n with mute := false }
    ok (if s.flag (F.MIC_MAPn_CUT n) then chainCutTo s n (instTarget s n) else chainRemap s n (instTarget s n))

/-! ## Calibration measurement (R175, R176) -/

/-- f_CIC of an input, as a fraction. -/
def cicRate (s : State) (p : Nat) : Nat × Nat := (inputFp s p, cicK1 s p)

/-- Capture begins on the reference and a target: both windows are empty. -/
def calOpen (s : State) (r p : Nat) : State :=
  let s := s.setCic r { s.cic r with meas := some [] }
  s.setCic p { s.cic p with meas := some [] }

/-- Capture ends on every input. -/
def calShut (s : State) : State := { s with flt := { s.flt with cic := s.flt.cic.map (fun c => { c with meas := none }) } }

/-- A measurement or NVM action ends (R174, R176). -/
def calDone (s : State) (err : Nat) : State :=
  (((s.mark F.MIC_CALCTL_BUSY false).mark F.MIC_CALCTL_DONE true).put F.MIC_CALCTL_ERR err).event 19

/-- The reason why a measurement is refused at START, 0 for none: 6 busy, 3 reference selected, 2 an input not running,
1 rates that differ. -/
def calRefusal (s : State) : Nat :=
  let r := s.get F.MIC_CALCTL_REF
  let ts := ones 32 (s.get F.MIC_CALSEL_SEL)
  if s.flag F.MIC_CALCTL_BUSY then 6
  else if ts.contains r then 3
  else if (r :: ts).any (fun p => !inputOn s p) then 2
  else if ts.any (fun p => !sameRate (cicRate s p) (cicRate s r)) then 1
  else 0

/-- CAL_START (R175, R176). DESIGN CHOICE (log 74): the spec does not say what START does with no target selected, nor whether
it clears VALID of earlier results; with no target the measurement ends at once, with DONE, ERR 0 and source 19, and earlier
results stay. -/
def calStart (s : State) : State :=
  let e := calRefusal s
  if e ≠ 0 then s.put F.MIC_CALCTL_ERR e
  else
    let ts := ones 32 (s.get F.MIC_CALSEL_SEL)
    let s := (s.mark F.MIC_CALCTL_BUSY true).put F.MIC_CALCTL_ERR 0
    match ts with
    | [] => calDone s 0
    | p :: _ => calOpen { s with mic := { s.mic with cal := some ⟨ts⟩ } } (s.get F.MIC_CALCTL_REF) p

def execCalStart (s : State) : Host.Outcome State Fault Refusal := ok (if s.awake then calStart s else s)

/-- The floored square root, by bits from 2^159 down. -/
def sqrtFloor (x : Nat) : Nat :=
  (upto 160).foldl (fun r k => if (r + 2 ^ (159 - k)) * (r + 2 ^ (159 - k)) ≤ x then r + 2 ^ (159 - k) else r) 0

/-- The square root of a quotient, rounded to nearest; `d` is not 0. -/
def sqrtQuot (n d : Nat) : Nat := (sqrtFloor (4 * n / d) + 1) / 2

/-- The correlation of two windows at a lag: the sum over i of a_i × b_(i + lag), both inside. -/
def correlate (a b : List Int) (lag : Int) : Int :=
  if 0 ≤ lag then sumI (List.zipWith (· * ·) a (b.drop lag.toNat)) else sumI (List.zipWith (· * ·) (a.drop (-lag).toNat) b)

/-- The peak over lags −32 to +32: the greatest, the least lag on a tie. -/
def corrPeak (a b : List Int) : Int × Int :=
  let f := fun (best : Int × Int) (k : Nat) =>
    let lag := (k : Int) - 32
    let r := correlate a b lag
    if best.2 < r then (lag, r) else best
  (upto 65).foldl f (-32, correlate a b (-32))

/-- LAG in steps of 1/3 072 000 s, from the peak refined by the parabola through it and its neighbours. -/
def lagSteps (s : State) (p : Nat) (a b : List Int) (lag r : Int) : Int :=
  let f := cicRate s p
  let steps := (3072000 * f.2 : Nat)
  if lag.natAbs = 32 then roundDiv (lag * steps) f.1
  else
    let l := correlate a b (lag - 1)
    let h := correlate a b (lag + 1)
    let den := l - 2 * r + h
    if den = 0 then roundDiv (lag * steps) f.1
    else
      -- lag + (l - h) / (2 den), den < 0 at a peak
      let num := -(2 * den * lag + (l - h))
      roundDiv (num * steps) ((-2 * den).toNat * f.1)

/-- A result whose value the spec does not state, or the one it does. -/
def orFree (s : State) (v : Option Nat) (n : Nat) : Nat × State := match v with | some x => (x, s) | none => s.fresh n

/-- The CIC output of an input from its scaled samples: normalised by G_N, without calibration (R175, R188, R195). -/
def cicOutput (s : State) (p : Nat) (l : List Int) : List Int :=
  l.map (fun x => q22 (x * cicGain (cicK1 s p) (cicOrder s p)))

/-- A target's results: RATIO, LAG, QUAL and the flags (R175). -/
def calResult1 (s : State) (p : Nat) (a b : List Int) : State :=
  let sr := (sumI (a.map (fun x => x * x))).toNat
  let st := (sumI (b.map (fun x => x * x))).toNat
  let pk := corrPeak a b
  let ratio := if st = 0 then none else some (sqrtQuot (2 ^ 44 * sr) st)
  let r1 := orFree s (ratio.bind (fun x => if x < 2 ^ 23 then some x else none)) (2 ^ 24)
  let qual := if sr = 0 ∨ st = 0 then none else some (sqrtQuot (2 ^ 30 * (pk.2 * pk.2).toNat) (sr * st))
  let signed := qual.map (fun x => ofSigned 16 (if pk.2 < 0 then -((Nat.min 32767 x : Nat) : Int) else ((Nat.min 32767 x : Nat) : Int)))
  let r2 := orFree r1.2 signed (2 ^ 16)
  let lag := lagSteps s p a b pk.1 pk.2
  let clip := (a ++ b).any (fun x => decide (8388607 ≤ x.natAbs))
  let lowq := decide (toSigned 16 r2.1 < 0x7333)
  let s := (r2.2.put (F.MIC_CALRESn_RATIO_RATIO p) r1.1).putI (F.MIC_CALRESn_LAG_LAG p) lag
  let s := s.put (F.MIC_CALRESn_QUAL_QUAL p) r2.1
  s.put (F.MIC_CALRESn_ST_ST p) (1 + 2 * b2n lowq + 4 * b2n (decide (pk.1.natAbs = 32)) + 8 * b2n clip)

/-- CAL_TARGET_END (R175): the window of the first remaining target has ended; the next one starts, or the measurement is
done (R176). DESIGN CHOICE (log 74): the spec does not say what a write of REF or LEN does to a measurement that runs; both
are read as they stand, and a target whose window never fills with the new reference's samples keeps the run going. -/
def execCalTargetEnd (s : State) : Host.Outcome State Fault Refusal :=
  match s.mic.cal with
  | some ⟨p :: rest⟩ =>
    let r := s.get F.MIC_CALCTL_REF
    let n := 2 ^ (12 + s.get F.MIC_CALCTL_LEN)
    let a := cicOutput s r ((((s.cic r).meas).getD []).reverse.take n)
    let b := cicOutput s p ((((s.cic p).meas).getD []).reverse.take n)
    if a.length = n ∧ b.length = n then
      let s := calShut (calResult1 s p a b)
      match rest with
      | [] => ok (calDone { s with mic := { s.mic with cal := none } } 0)
      | q :: _ => ok (calOpen { s with mic := { s.mic with cal := some ⟨rest⟩ } } r q)
    else ok s
  | _ => ok s

/-! ## Calibration records (R174) -/

/-- A calibration set as its 32-byte record. -/
def calRecord (s : State) (p : Nat) : List Nat :=
  let sx := fun (v : Nat) => bytesOfLe 4 (ofSigned 32 (toSigned 24 v))
  let b := [p, 1, 0, 0] ++ sx (s.get (F.MIC_CALn_GAIN_GAIN p)) ++ bytesOfLe 2 (s.get (F.MIC_CALn_DELAY_DELAY p)) ++ [0, 0] ++
    (upto 4).flatMap (fun t => sx (s.get (F.MIC_CALn_TAPt_TAP p t)))
  b ++ bytesOfLe 4 (crc32c b)

/-- An NVM action on the calibration sets starts, or is refused as busy. -/
def calNvm (s : State) (save : Bool) : State :=
  if s.flag F.MIC_CALCTL_BUSY then s.put F.MIC_CALCTL_ERR 6
  else
    let s := { s with mic := { s.mic with nvm := some save } }
    (s.mark F.MIC_CALCTL_BUSY true).put F.MIC_CALCTL_ERR 0

/-- CAL_SAVE and CAL_LOAD. -/
def execCalSave (s : State) : Host.Outcome State Fault Refusal := ok (if s.awake then calNvm s true else s)
def execCalLoad (s : State) : Host.Outcome State Fault Refusal := ok (if s.awake then calNvm s false else s)

end Sys2Proof.Machine
end

