-- ==== Sys2Proof/Machine/Features.lean ====
section
/-! DEFINITION. The forty features of a frame (R260), in exact fixed point: window, discrete Fourier transform, mel bands
and logarithm. -/

namespace Sys2Proof.Machine

/-- π × 2^100, rounded. -/
def piFix : Int := 3982441812995697363688351113952

/-- The first `n` terms of the cosine series at θ (scale 2^100) from the term `t` of index `k`. -/
def cosTerms : Nat → Int → Int → Int → Int
  | 0, _, _, _ => 0
  | n + 1, th2, t, k => t + cosTerms n th2 (floorDiv (-(floorDiv (t * th2) (2 ^ 100))) ((2 * k + 1) * (2 * k + 2))) (k + 1)

/-- cos(2π × num / den) × 2^64, rounded. -/
def cosFix (num den : Nat) : Int :=
  let th := floorDiv (2 * piFix * ((num % den : Nat) : Int)) (den : Int)
  roundShift (cosTerms 48 (floorDiv (th * th) (2 ^ 100)) (2 ^ 100) 0) 36

/-- cos(2πm / 512) × 2^64 for m = 0 to 511. -/
def cosTable : Array Int := ((upto 512).map (fun m => cosFix m 512)).toArray

/-- The window of sample k, × 2^64: 0.54 − 0.46 cos(2πk / 399). -/
def windowTable : Array Int :=
  ((upto 400).map (fun k => floorDiv (2 * (54 * 2 ^ 64 - 46 * cosFix k 399) + 100) 200)).toArray

/-- The greatest n below 2^w with n^41 × b ≤ a, bit by bit. -/
def root41 (a b : Nat) (w : Nat) : Nat :=
  (upto w).foldl (fun r k => if (r + 2 ^ (w - 1 - k)) ^ 41 * b ≤ a then r + 2 ^ (w - 1 - k) else r) 0

/-- Band edge F_e in Hz × 2^80: 1 + F_e / 700 divides 33/28 to 82/7 into 41 equal ratios. -/
def melEdge (e : Nat) : Nat :=
  700 * (root41 (33 ^ (41 - e) * 82 ^ e * 2 ^ (80 * 41)) (28 ^ (41 - e) * 7 ^ e) 85 - 2 ^ 80)

def melEdges : Array Nat := ((upto 42).map melEdge).toArray

/-- A quotient rounded to nearest. -/
def nearest (a b : Nat) : Nat := (2 * a + b) / (2 * b)

/-- The weight of bin `b` in band `j`, Q0.16. -/
def melWeight (j b : Nat) : Nat :=
  let f := 125 * b * 2 ^ 78
  let lo := melEdges.getD j 0
  let mid := melEdges.getD (j + 1) 0
  let hi := melEdges.getD (j + 2) 0
  if lo < f ∧ f ≤ mid then nearest (2 ^ 16 * (f - lo)) (mid - lo)
  else if mid < f ∧ f < hi then nearest (2 ^ 16 * (hi - f)) (hi - mid)
  else 0

/-- The weights of a band over bins 0 to 256: bin and weight. -/
def melBand (j : Nat) : List (Nat × Nat) := ((upto 257).map (fun b => (b, melWeight j b))).filter (fun e => decide (e.2 ≠ 0))

def melBands : List (List (Nat × Nat)) := (upto 40).map melBand

/-- P[b], scale 2^302, of windowed samples y, scale 2^87. -/
def power (y : List (Nat × Int)) (b : Nat) : Nat :=
  let c := y.foldl (fun (a : Int × Int) e =>
    let m := e.1 * b % 512
    (a.1 + e.2 * cosTable.getD m 0, a.2 + e.2 * cosTable.getD ((m + 384) % 512) 0)) (0, 0)
  (c.1 * c.1 + c.2 * c.2).toNat

/-- The powers of a frame's bins 0 to 256. -/
def powers (xs : List Int) : Array Nat :=
  let y := (upto 400).zip xs |>.map (fun e => (e.1, windowTable.getD e.1 0 * e.2))
  ((upto 257).map (power y)).toArray

/-- E_j, scale 2^318. -/
def bandEnergy (p : Array Nat) (band : List (Nat × Nat)) : Nat := sumN (band.map (fun e => e.2 * p.getD e.1 0))

/-- The lower and the upper value that a feature may take from its energy (R260 step 5): they differ within 2^−8 of a
rounding boundary alone. -/
def featureRange (e : Nat) : Nat × Nat :=
  let cl := fun (i : Int) => (clampI 0 255 (i + 200)).toNat
  if e ≤ 2 ^ 268 then (0, 0)
  else
    let u : Int := ((Nat.log2 (e ^ 1024) : Nat) : Int) - 1024 * 318
    let near := decide (u % 256 = 127) || decide (u % 256 = 128)
    let r := floorDiv (u + 128) 256
    if near then (cl (floorDiv (u + 127) 256), cl (floorDiv (u + 127) 256 + 1)) else (cl r, cl r)

/-- The ranges of the forty features of 400 samples. -/
def featureRanges (xs : List Int) : List (Nat × Nat) :=
  let p := powers xs
  melBands.map (fun b => featureRange (bandEnergy p b))

end Sys2Proof.Machine
end

