-- ==== Sys2Proof/Machine/Sound.lean ====
section
/-! DEFINITION. The rows of decimation and filters (ch. 6) and the beam boundaries (R490). -/

namespace Sys2Proof.Machine

/-- PDM frames captured on wires PD0 to PD15 since the last event that brought them: of each frame the bit at the rising edge
of the group clock and the bit at the falling edge (R152). -/
abbrev Captured : Type := List (Fin 16 × List (Bool × Bool))

def feedCaptured (s : State) (l : Captured) : State := forEach l (fun s e => wireFeed s e.1.val e.2) s

/-- A change of D_P takes effect at the group's next output-sample boundary (R42, R160): of any chain on the group, or at once
where no enabled chain reads it (DESIGN CHOICE, log 73). -/
def divFollow (s : State) (g : Nat) : State :=
  let d := divWanted s g
  if s.awake && groupPowered s g && decide (d ≠ 0) && decide (d ≠ groupDiv s g) then groupMode s g d else s

/-- The source code `c` feeds an armed stop input, whose shadow compares every sample (R700). -/
def shadowed (s : State) (c : Nat) : Bool :=
  s.flag F.SAF_ARM_REQ && (stopInputs s).any (fun n => (s.route (144 + n)).src == c)

/-- The shadow's sample of source `c` differs from the primary: diagnostic 10 (R700). -/
def shadowCompare (s : State) (c : Nat) (differs : Bool) : State := if differs && shadowed s c then diagEvent s 10 else s

/-- A mark slot is armed on Drill input `d` (R268). -/
def marksOn (s : State) (d : Nat) : Bool :=
  (upto 64).any (fun k => s.get (F.DRL_SLOTs_ST_STATE k) == 3 && slotClass s k CL_MARK &&
    (if slotType s k = 2 then s.get F.DRL_NET_IN == d else s.bitOf (F.DRL_SLOTs_CFG_INMASK k) d))

/-- A fine output of channel `n` is kept for the refinement of marks on the inputs that its glance feeds: three seconds. -/
def fineKeep (s : State) (n : Nat) : State :=
  if s.flag F.DRL_CFG_MARK_FINE then
    forEach (upto 4) (fun s d =>
      if drlActive s d && (s.route (144 + d)).src == 65 + n && marksOn s d then
        let i := s.drlIn d
        let now := sampleStamp s (1 + n)
        let keep := i.fine.filter (fun e => decide (now < e.2 + 3 * frameRate s))
        s.setDrlIn d { i with fine := (lastOf s (1 + n), now) :: keep }
      else s) s
  else s

/-- FINE_CHAIN_OUTPUT (R197): the frames captured go in, and channel `n` forms its output where the comb sample of its boundary
has come (R208); `differs` says whether a shadow unit's sample differs. -/
def execFineChainOutput (n : Fin 32) (bs : Captured) (differs : Bool) (s : State) : Host.Outcome State Fault Refusal :=
  let n := n.val
  if filtersRun s && mapOn s n then
    let s := feedCaptured s bs
    if (fineDue s n).isNone then ok s
    else
      let t := shadowCompare (fineKeep (fineOutput s n) n) (1 + n) differs
      ok (divFollow t ((s.chain n).inst.input / 8))
  else ok s

/-- GLANCE_OUTPUT (R203): the same of the glance of channel `n`, where it is available. -/
def execGlanceOutput (n : Fin 32) (bs : Captured) (differs : Bool) (s : State) : Host.Outcome State Fault Refusal :=
  let n := n.val
  if filtersRun s && mapOn s n && (glanceK s n).isSome then
    let s := feedCaptured s bs
    ok (if (glanceDue s n).isNone then s else shadowCompare (glanceOutput s n) (65 + n) differs)
  else ok s

/-- The sentry decimator runs: in SENTRY, and in the states with the core domain while HSCK feeds it (R207, R218). -/
def sentryRuns (s : State) : Bool :=
  s.sentryClocked && inputOn s (sentryIn s)

/-- In SENTRY the sentry profile's input takes the sample, with the counter before it (R257). -/
def sentryHear (s : State) (now : Nat) : State :=
  if s.pstate = SENTRY then s.setDrlIn D_SENT { s.drlIn D_SENT with buf := (s.drlIn D_SENT).buf ++ [(lastOf s 49, now)] } else s

/-- SENTRY_DECIMATOR_OUTPUT (R207): the bits of the sentry input go in, and one 16 kHz sample is formed where its pair of
32 kHz samples has come. -/
def execSentryDecimatorOutput (bs : List Bool) (differs : Bool) (s : State) : Host.Outcome State Fault Refusal :=
  if sentryRuns s then
    let now := wakeCounter s
    let s := sentryFeed (cicFeed s (sentryIn s) bs) bs
    ok (if sentryDue s then shadowCompare (sentryHear (sentryOutput s) now) 49 differs else s)
  else ok s

/-- A new instance of chain `n` enters by a fade: a fade that has made no output yet takes it over. -/
def fadeTo (s : State) (n : Nat) (new : Inst) : State :=
  let c := s.chain n
  if c.inst = new then s
  else
    match c.fade with
    | none => chainFade s n new
    | some f => if f.i = 0 then s.setChain n { c with inst := new } else s

/-- BANK_SWAP (R200): chain `n` starts the fade to the bank, tap count and shift of its register. -/
def execBankSwap (n : Fin 32) (s : State) : Host.Outcome State Fault Refusal :=
  let n := n.val
  let t := instTarget s n
  let i := (s.chain n).inst
  ok (if filtersRun s && mapOn s n then fadeTo s n { i with bank := t.bank, taps := t.taps, oshift := t.oshift } else s)

/-- CALIBRATION_CHANGE (R172, R196): every chain that reads input `p` starts the fade to its new set. -/
def execCalibrationChange (p : Fin 32) (s : State) : Host.Outcome State Fault Refusal :=
  let p := p.val
  let taps := (upto 4).map (fun t => s.getI (F.MIC_CALn_TAPt_TAP p t))
  ok (if filtersRun s then
    forEach (chainsOf s p) (fun s n =>
      let i := (s.chain n).inst
      fadeTo s n { i with gain := s.getI (F.MIC_CALn_GAIN_GAIN p), delay := s.get (F.MIC_CALn_DELAY_DELAY p), tap := taps }) s
  else s)

/-- ROUTE_CHANGE (R214): destination `d` takes the source of its register. On a Drill input sample 0 is the next sample
(R259), and an enrolment whose input loses its route ends (R286). -/
def execRouteChange (d : Fin 148) (s : State) : Host.Outcome State Fault Refusal :=
  let d := d.val
  let src := s.get (F.FLT_RTd_SRC d)
  if filtersRun s && decide ((s.route d).src ≠ src) then
    let s := routeChange s d
    if d < 144 then ok s
    else
      let s := drlRestart s (d - 144)
      let lost := match s.drl.enr with | some e => e.input == d - 144 && src == 0 | none => false
      ok (if lost then enrEnd s 4 else s)
  else ok s

/-- FADE_COMPLETE (R200, R201): the fade of a chain, or with `route` of a destination, has made its L outputs. -/
def execFadeComplete (route : Bool) (k : Fin 148) (s : State) : Host.Outcome State Fault Refusal :=
  let k := k.val
  if route then
    match (s.route k).fade with
    | some (_, i, l) =>
      ok (if i = 2 ^ l then ((s.setRoute k { s.route k with fade := none }).mark (F.FLT_RTd_FADE k) false).event 23 else s)
    | none => ok s
  else if k < 32 then
    match (s.chain k).fade with
    | some f => ok (if f.i = 2 ^ f.log2L then (fadeDrop s k).event 23 else s)
    | none => ok s
  else ok s

/-- SYNC_PIN_EDGE (R209): SYNC has been low on two samples and high on two. -/
def execSyncPinEdge (s : State) : Host.Outcome State Fault Refusal := ok (if s.flag F.FLT_SYNC_PIN_EN then syncEdge s else s)

/-- SYNC_NOW (R209): FLT_SYNC.NOW is written 1. -/
def execSyncNow (s : State) : Host.Outcome State Fault Refusal := ok (if s.awake then syncEdge s else s)

/-- The sync edge comes: SYNC acts, and every Drill input begins again at sample 0 (R208, R259). -/
def syncNow (s : State) : State := forEach (upto 5) drlRestart (syncAct s false)

/-- SYNC_ACT (R208, R209): the sync edge that awaited comes, once its cycles have passed. -/
def execSyncAct (s : State) : Host.Outcome State Fault Refusal := ok (if s.flt.sync = some 0 then syncNow s else s)

/-- BQ_POP (R490): an output boundary of beam source `b`. -/
def execBqPop (b : Fin 16) (s : State) : Host.Outcome State Fault Refusal :=
  ok (if filtersRun s && queueOn s (32 + b.val) then beamPop s b.val else s)

end Sys2Proof.Machine
end

