-- ==== Sys2Proof/Machine/Drill.lean ====
section
/-! DEFINITION. The Drill's frames (ch. 8): template cells and scores, the net, decisions and what they do, and the row that
completes a frame. The records and slots stand in Seeds.lean. -/

namespace Sys2Proof.Machine

/-! ## Records in place (R274) -/

/-- The record that slot `k` holds. -/
def slotRec (s : State) (k : Nat) : List Nat := ((s.drl.recs.find? (fun e => e.1 == k)).map (·.2)).getD []

/-- The frames of a template record: 40 features each, after the 32 bytes of header. -/
def templateFrames (r : List Nat) : List (List Nat) :=
  (upto (recField r 8 2)).map (fun i => (r.drop (32 + 40 * i)).take 40)

/-! ## Cells and scores (R262, R263) -/

/-- A cell: D and S; none for an invalid one. -/
abbrev Cell : Type := Option (Nat × Nat)

/-- d(t, i). -/
def localCost (v x : List Nat) : Nat := sumN (List.zipWith (fun (a b : Nat) => ((a : Int) - (b : Int)).natAbs) v x)

/-- A predecessor qualifies by the band condition. -/
def qualifies (band t i : Nat) : Cell → Cell
  | some (d, st) => if ((t : Int) - (st : Int) - (i : Int)).natAbs ≤ band then some (d, st) else none
  | none => none

/-- The better of two predecessors: the lesser D, the earlier on a tie. -/
def better (a b : Cell) : Cell :=
  match a, b with
  | some x, some y => if y.1 < x.1 then some y else some x
  | some x, none => some x
  | none, y => y

/-- The cells from index `i` on: the template's frames left, the cells (t−1, i−1) and on, and the cell (t, i−1). -/
def cellsFrom (v : List Nat) (band t : Nat) : Nat → List (List Nat) → List Cell → Cell → List Cell
  | _, [], _, _ => []
  | i, x :: xs, prev, left =>
    let c := qualifies band t i
    let best := better (better (c (prev.headD none)) (c (nth prev 1 none))) (c left)
    let cell := best.map (fun p => (p.1 + localCost v x, p.2))
    cell :: cellsFrom v band t (i + 1) xs (prev.drop 1) cell

/-- The cells of a template at frame `t` with features `v`, from those of frame t − 1. -/
def cellRow (v : List Nat) (band t : Nat) (tmpl : List (List Nat)) (prev : List Cell) : List Cell :=
  match tmpl with
  | [] => []
  | x :: xs =>
    let c0 : Cell := some (localCost v x, t)
    c0 :: cellsFrom v band t 1 xs prev c0

/-- score(t, i) of a valid cell (R263). -/
def cellScore (i d : Nat) : Nat := 1023 - Nat.min 1023 (2 * d / (5 * (i + 1)))

/-- The end score: 0 for an invalid end cell. -/
def endScore (row : List Cell) : Nat :=
  match row.getLastD none with | some c => cellScore (row.length - 1) c.1 | none => 0

/-- The best score and its S among the cells with i ≥ ceil(L / 2) (R270). -/
def partialBest (row : List Cell) : Option (Nat × Nat) :=
  let half := ceilDiv row.length 2
  (upto row.length).foldl (fun best i =>
    if i < half then best
    else
      match nth row i none, best with
      | some c, some b => if b.1 < cellScore i c.1 then some (cellScore i c.1, c.2) else best
      | some c, none => some (cellScore i c.1, c.2)
      | none, b => b) none

/-! ## Thresholds (R264, R265) -/

/-- θ of a slot for wake and the other classes that are not stop-class: the offset OFS of loop `u`. -/
def thetaWake (s : State) (h : HeldSlot) (u : Nat) : Nat := h.thr + sadOfs s u * h.oslope / 1200

/-- θ of a stop-class slot: the offset SOFS, and at most 900. -/
def thetaStop (s : State) (h : HeldSlot) (u : Nat) : Nat := Nat.min 900 (h.thr + sadSofs s u * h.oslope / 1200)

/-- The judgements of a slot: each class it carries with its threshold. No stop is judged in SENTRY (R31). -/
def judgements (s : State) (h : HeldSlot) (u : Nat) (sentry : Bool) : List (Nat × Nat) :=
  let stop := bit h.cls CL_STOP
  ((upto 4).filter (fun c => bit h.cls c && !(sentry && c == CL_STOP))).map (fun c =>
    (c, if stop && c != CL_WAKE then thetaStop s h u else thetaWake s h u))

/-! ## Outcomes of a frame -/

/-- What a frame puts in the event queue: kind (0 match, 1 pre-level passed, 2 abandoned), slot, input, class bits or for
kind 0 the deciding class, score, threshold, frames, the first matched frame and the last frame's number. -/
structure DrlOut where
  kind : Nat
  slot : Nat
  input : Nat
  cls : Nat
  score : Nat
  theta : Nat
  frames : Nat
  first : Nat
  t : Nat

/-- A slot's outcome at a frame or an evaluation, shared by templates and net classes: the end score, the pre-level's score
with its first frame where it passes, the frames without a pass that abandon a candidate, FRAMES of an abandonment. -/
def slotJudge (s : State) (h : HeldSlot) (n u t es first : Nat) (pass : Option (Nat × Nat)) (give gone : Nat) (cells : List Cell) :
    State × List DrlOut :=
  let k := h.slot
  let p := s.pairSt k n
  let s := s.put (F.DRL_SLOTs_ST_LAST k) es
  let dec := (judgements s h u (n == D_SENT)).filter (fun j => decide (j.2 ≤ es))
  if !dec.isEmpty then
    let s := s.setPairSt { p with cells := [], refr := h.refr, cand := none }
    (s.bump64 (A.DRL_SLOTs_CNT_LO k) 1, dec.map (fun j => ⟨0, k, n, 2 ^ j.1, es, j.2, t + 1 - first, first, t⟩))
  else if bit h.cls CL_WAKE && h.pre != 1023 then
    match pass, p.cand with
    | some (sc, st), none =>
      (s.setPairSt { p with cells := cells, cand := some 0 }, [⟨1, k, n, h.cls, sc, thetaWake s h u, t + 1 - st, st, t⟩])
    | some _, some _ => (s.setPairSt { p with cells := cells, cand := some 0 }, [])
    | none, some c =>
      if give ≤ c + 1 then
        (s.setPairSt { p with cells := cells, cand := none }, [⟨2, k, n, h.cls, es, thetaWake s h u, gone, t, t⟩])
      else (s.setPairSt { p with cells := cells, cand := some (c + 1) }, [])
    | none, none => (s.setPairSt { p with cells := cells }, [])
  else (s.setPairSt { p with cells := cells }, [])

/-- A template slot at an unmarked frame (R262, R266, R270). -/
def templateStep (s : State) (h : HeldSlot) (n u t : Nat) (v : List Nat) : State × List DrlOut :=
  let p := s.pairSt h.slot n
  if 0 < p.refr then (s.setPairSt { p with cells := [], refr := p.refr - 1 }, [])
  else
    let row := cellRow v h.band t (templateFrames (slotRec s h.slot)) p.cells
    let pass := match partialBest row with | some b => if h.pre ≤ b.1 then some b else none | none => none
    match row.getLastD none with
    | some c => slotJudge s h n u t (endScore row) c.2 pass (h.band + 1) 0 row
    | none =>
      let f := s.fresh (Nat.min (t + 1) 256)
      slotJudge f.2 h n u t 0 (t - f.1) pass (h.band + 1) 0 row

/-! ## The net (R271, R272) -/

/-- A layer descriptor. -/
structure Layer where
  typ : Nat
  act : Nat
  k : Nat
  stride : Nat
  inp : Nat
  out : Nat
  mult : Nat
  shift : Nat
  wbytes : Nat

/-- Layer `i` of a net record. -/
def netLayer (r : List Nat) (i : Nat) : Layer :=
  let o := 32 + 128 + 16 * i
  let f := fun (a n : Nat) => recField r (o + a) n
  ⟨f 0 1, f 1 1, f 2 1, f 3 1, f 4 2, f 6 2, f 8 2, f 10 1, f 12 4⟩

def netLayers (r : List Nat) : List Layer := (upto (recField r 10 1)).map (netLayer r)

/-- The requantised output of an accumulator. -/
def requant (l : Layer) (acc : Int) : Int :=
  let y := clampI (-128) 127 (roundShift (acc * (l.mult : Int)) l.shift)
  if l.act = 1 then (if y < 0 then 0 else y) else y

/-- One output from a bias, a row of weights and the inputs it covers. -/
def neuron (l : Layer) (bias : Int) (w : List Nat) (xs : List Int) : Int :=
  requant l (bias + sumI (List.zipWith (fun b x => toSigned 8 b * x) w xs))

/-- A layer on a tensor given time-major: a list over τ of lists over channels. `params` begins with the layer's biases. -/
def layerOut (l : Layer) (params : List Nat) (x : List (List Int)) : List (List Int) :=
  let biases := (upto l.out).map (fun o => toSigned 32 (recField params (4 * o) 4))
  let ws := params.drop (4 * l.out)
  let row := fun (len : Nat) (o : Nat) => (ws.drop (len * o)).take len
  if l.typ = 1 then
    let n := (x.length - l.k) / Nat.max 1 l.stride + 1
    (upto n).map (fun t =>
      let xs := ((x.drop (t * l.stride)).take l.k).flatten
      (upto l.out).map (fun o => neuron l (nth biases o 0) (row (l.k * l.inp) o) xs))
  else [(upto l.out).map (fun o => neuron l (nth biases o 0) (row x.flatten.length o) x.flatten)]

/-- The layers in order. -/
def netRun : List Layer → List Nat → List (List Int) → List (List Int)
  | [], _, x => x
  | l :: ls, params, x => netRun ls (params.drop (4 * l.out + l.wbytes)) (layerOut l params x)

/-- The class scores of a net record over its context of C frames. -/
def netScores (r : List Nat) (ctx : List (List Nat)) : List Nat :=
  let x := ctx.map (fun v => v.map (fun (a : Nat) => (a : Int) - 128))
  let y := (netRun (netLayers r) (r.drop (32 + 128 + 64)) x).flatten
  y.map (fun a => (floorDiv ((a + 128) * 1023 + 127) 255).toNat)

/-- The net class slots, and the record that they hold. -/
def netSlots (s : State) : List Nat := (upto 64).filter (fun k => slotType s k == 2)
def netRec (s : State) : List Nat := match (netSlots s).head? with | some k => slotRec s k | none => []

/-- The net evaluates at this frame of input `n`, which has completed (R271). -/
def netDue (s : State) (n : Nat) : Bool :=
  let c := s.get F.DRL_NET_C
  let k := (s.drlIn n).clean
  n != D_SENT && s.get F.DRL_NET_STATE == 3 && s.get F.DRL_NET_IN == n && decide (0 < c) && decide (c ≤ k) &&
    (k - c) % Nat.max 1 (s.get F.DRL_NET_EVAL) == 0

/-- A net class slot at an evaluation with its class's score. -/
def netStep (s : State) (h : HeldSlot) (n u t sc : Nat) : State × List DrlOut :=
  let p := s.pairSt h.slot n
  if 0 < p.refr then (s.setPairSt { p with refr := p.refr - 1 }, [])
  else
    let first := t + 1 - s.get F.DRL_NET_C
    slotJudge s h n u t sc first (if h.pre ≤ sc then some (sc, first) else none) 1 (s.get F.DRL_NET_C) []

/-! ## A frame of one input (R259 to R262) -/

/-- The next frame of an input from its buffered samples: its marks and its peak. -/
def frameInfo (i : DrlIn) : FrameInfo × Bool :=
  let xs := i.buf.take 400
  let pk := xs.foldl (fun (b : Nat × Nat) e => if b.1 < (wordData e.1).natAbs then ((wordData e.1).natAbs, e.2) else b)
    (0, (xs.headD (0, 0)).2)
  let marked := xs.any (fun e => bit e.1 24 || bit e.1 25)
  (⟨i.t, (xs.headD (0, 0)).2, (xs.getLastD (0, 0)).2, pk.1, pk.2, none⟩, marked)

/-- The features of 400 samples: a band within 2^−8 of a rounding boundary takes either neighbour (R260). -/
def features (s : State) (xs : List Int) : List Nat × State :=
  (featureRanges xs).foldl (fun (a : List Nat × State) r =>
    if r.1 = r.2 then (a.1 ++ [r.1], a.2)
    else
      let f := a.2.fresh 2
      (a.1 ++ [if f.1 = 0 then r.1 else r.2], f.2)) ([], s)

/-- The loop of an input (R256, R257). -/
def loopOf (s : State) (n : Nat) : Nat := if n = D_SENT then 0 else s.get (F.DRL_INn_CFG_TL n)

/-- A marked frame: cells, candidacies and the net context of the input end (R261, R270). The refractory count of a net class
counts evaluations, and a marked frame is none (R272). -/
def markedFrame (s : State) (n t : Nat) : State × List DrlOut :=
  let s := if n = D_SENT then s else (s.mark (F.DRL_INn_ST_MARKED n) true).incSat (F.DRL_INn_ST_RST n)
  let s := s.setDrlIn n { s.drlIn n with clean := 0 }
  (upto 64).foldl (fun (a : State × List DrlOut) k =>
    let p := a.1.pairSt k n
    let net := slotType a.1 k == 2
    let s := a.1.setPairSt { p with cells := [], refr := if net then p.refr else p.refr - 1, cand := none }
    let cls := s.get (F.DRL_SLOTs_CFG_CLASS k)
    (s, if p.cand.isSome then a.2 ++ [⟨2, k, n, cls, 0, thetaWake s (holdSlot s k) (loopOf s n), if net then s.get F.DRL_NET_C else 0, t, t⟩] else a.2)) (s, [])

/-- The context of the net: the features of the latest C frames, oldest first. -/
def netContext (s : State) (n : Nat) : List (List Nat) :=
  (((s.drlIn n).frames.take (s.get F.DRL_NET_C)).map (fun f => f.v.getD [])).reverse

/-- The slots of an unmarked frame, ascending. -/
def slotsStep (s : State) (n t : Nat) (v : List Nat) : State × List DrlOut :=
  let u := loopOf s n
  if n = D_SENT then
    (s.drl.held.filter (·.arm)).foldl (fun (a : State × List DrlOut) h =>
      let r := templateStep a.1 h n u t v
      (r.1, a.2 ++ r.2)) (s, [])
  else
    let scores := if netDue s n then netScores (netRec s) (netContext s n) else []
    (upto 64).foldl (fun (a : State × List DrlOut) k =>
      let s := a.1
      if s.get (F.DRL_SLOTs_ST_STATE k) ≠ 3 then a
      else if slotType s k = 1 ∧ s.bitOf (F.DRL_SLOTs_CFG_INMASK k) n then
        let r := templateStep s (holdSlot s k) n u t v
        (r.1, a.2 ++ r.2)
      else if slotType s k = 2 then
        match scores[s.get (F.DRL_SLOTs_CFG_NETOUT k)]? with
        | some sc =>
          let r := netStep s (holdSlot s k) n u t sc
          (r.1, a.2 ++ r.2)
        | none => a
      else a) (s, [])

/-- Input `n` completes its next frame. -/
def inputFrame (s : State) (n : Nat) : State × List DrlOut :=
  let i := s.drlIn n
  let fi := frameInfo i
  let f := fi.1
  let xs := (i.buf.take 400).map (fun e => wordData e.1)
  let i := { i with buf := i.buf.drop 160, t := i.t + 1 }
  if fi.2 then markedFrame (s.setDrlIn n { i with frames := (f :: i.frames).take 512 }) n f.t
  else
    let v := features s xs
    let s := v.2.setDrlIn n { i with frames := ({ f with v := some v.1 } :: i.frames).take 512, clean := i.clean + 1 }
    let s := if n = D_SENT then s else s.mark (F.DRL_INn_ST_MARKED n) false
    slotsStep s n f.t v.1

/-! ## Acting (R266, R268, R269) -/

/-- Put four words in the event queue, or drop them (R269). -/
def evqPut (s : State) (ws : List Word) : State :=
  if s.drl.evq.length < 64 then
    let s := { s with drl := { s.drl with evq := s.drl.evq ++ [ws] } }
    s.put F.DRL_EVQ_ST_OCC s.drl.evq.length
  else (s.incSat F.DRL_EVQ_ST_OVF).event 44

/-- The queue entry of an outcome. -/
def evqEntry (o : DrlOut) (stamp : Nat) (fine : Bool) : List Word :=
  let inp := if o.input = D_SENT then 0 else o.input
  let w0 := o.slot + 2 ^ 6 * inp + 2 ^ 8 * (o.cls % 16) + 2 ^ 12 * o.kind + 2 ^ 14 * b2n fine +
    2 ^ 15 * b2n (decide (o.input = D_SENT)) + 2 ^ 16 * (o.score % 1024)
  let w1 := o.theta % 1024 + 2 ^ 16 * (o.frames % 512)
  [BitVec.ofNat 32 w0, BitVec.ofNat 32 w1, BitVec.ofNat 32 stamp, BitVec.ofNat 32 (stamp / 2 ^ 32)]

/-- The counter's rate: frames per second of the counter of R236. -/
def counterRate (s : State) : Nat := if s.pstate = SENTRY then 16000 else frameRate s

/-- The delay of source `c` in counts (R267). -/
def delayCounts (s : State) (c : Nat) : Nat :=
  let r := cfgRate s c
  nearest (Config.groupDelay c r.1 r.2 % 65536 * counterRate s) 10000000

/-- The source that feeds an input. -/
def inputSource (s : State) (n : Nat) : Nat := if n = D_SENT then 49 else (s.route (144 + n)).src

/-- The sample of greatest magnitude in the frames `a` to `b` of an input, earliest on a tie: its counter. -/
def peakIn (s : State) (n a b : Nat) : Nat :=
  let fs := ((s.drlIn n).frames.filter (fun f => decide (a ≤ f.t) && decide (f.t ≤ b))).reverse
  (fs.foldl (fun (best : Nat × Nat) f => if best.1 < f.peak then (f.peak, f.peakAt) else best)
    (0, match fs.head? with | some f => f.first | none => 0)).2

/-- The stamp of a mark, and whether it was refined (R268). -/
def markStamp (s : State) (o : DrlOut) : Nat × Bool :=
  let n := o.input
  let c := inputSource s n
  let st := peakIn s n o.first o.t - delayCounts s c
  if n != D_SENT && s.flag F.DRL_CFG_MARK_FINE && decide (65 ≤ c) && decide (c ≤ 96) then
    let d := delayCounts s (c - 64)
    let near := ((s.drlIn n).fine.map (fun e => (e.1, e.2 - d))).filter (fun e =>
      decide (((e.2 : Int) - (st : Int)).natAbs * 16000 ≤ counterRate s))
    match near.reverse with
    | [] => (st, false)
    | x :: xs =>
      let b := xs.foldl (fun (best : Nat × Nat) e => if (wordData best.1).natAbs < (wordData e.1).natAbs then e else best) x
      (b.2, true)
  else (st, false)

/-- A time mark goes out (R653). While the message waits, its AGE field holds the HSCK cycle, modulo 2^32, of the edge that
formed the stamped frame; transmission turns it into an age. The edge lies within a frame period of the frame counter's. -/
def markSend (s : State) (o : DrlOut) (stamp : Nat) (fine : Bool) : State :=
  if s.flag F.DRL_CFG_MARK_TX then
    let per := if s.pstate = SENTRY then s.fH / 16000 else s.get F.SWA_CFG_DIV
    let f := s.fresh per
    let age := (wakeCounter f.2 - 1 - stamp) * per + f.1
    let at_ := (f.2.time.hsck + 2 ^ 32 - age % 2 ^ 32) % 2 ^ 32
    hgBroadcast f.2 VC_CTRL T_TIME_MARK (o.slot + 2 ^ 8 * (o.cls % 16) + 2 ^ 12 * b2n fine)
      (bytesOfLe 8 stamp ++ bytesOfLe 4 at_)
  else s

/-- The counters at the last sample of the deciding frame and at the first sample of frame `first` of an input. -/
def frameEnd (s : State) (o : DrlOut) : Nat :=
  match (s.drlIn o.input).frames.find? (fun f => f.t == o.t) with | some f => f.last | none => 0
def frameStart (s : State) (o : DrlOut) : Nat :=
  match (s.drlIn o.input).frames.find? (fun f => f.t == o.first) with | some f => f.first | none => 0

/-- The outcome is a wake decision. -/
def isWake (o : DrlOut) : Bool := o.kind == 0 && o.cls == 1

/-- One outcome acts; `wakes` are the frame's wake decisions with their marks: those of one slot make one wake (R282). -/
def outAct (s : State) (wakes : List (Nat × Nat × Nat)) (o : DrlOut) : State :=
  if o.kind = 0 ∧ o.cls = 4 then
    let m := markStamp s o
    let s := (evqPut s (evqEntry o m.1 m.2)).event 41
    markSend s o m.1 m.2
  else
    let s := evqPut s (evqEntry o (frameEnd s o) false)
    if o.kind = 1 then preStart s
    else if o.kind = 2 then s
    else if o.cls = 1 then
      let s := s.event 40
      let mine := wakes.filter (fun w => w.1 == o.slot)
      if (mine.head?.map (·.2.1)) = some o.input then
        qualifiedWake s 1 o.slot 0 (mine.foldl (fun a w => Nat.min a w.2.2) ((mine.headD (0, 0, 0)).2.2))
      else s
    else if o.cls = 2 then stopTake (s.event 43) o.slot o.input o.score
    else s.event 42

/-- The outcomes of a frame act in order; the pre-wake stands down when its last candidate is abandoned (R243). -/
def outsAct (s : State) (os : List DrlOut) : State :=
  let wakes := (os.filter isWake).map (fun o => (o.slot, o.input, frameStart s o))
  let s := forEach os (fun s o => outAct s wakes o) s
  if os.any (fun o => o.kind == 2) && !(s.drl.pairs.any (fun p => p.cand.isSome)) then standDown s else s

/-! ## The row -/

/-- The input runs in the profile in force (R255, R257). -/
def drlRuns (s : State) (n : Nat) : Bool :=
  if n = D_SENT then s.pstate == SENTRY && s.sentryClocked
  else filtersRun s && s.flag F.DRL_CFG_EN && s.flag (F.DRL_INn_CFG_EN n) && (s.route (144 + n)).src != 0

/-- FEATURE_FRAME (R260): the inputs of `ins` (bits 0 to 3 D0 to D3, bit 4 the sentry profile) complete a frame at one
edge. `late`: the frame before was not finished (R273); `stopLate`: its stop part was not done by its bound (diagnostic 7);
`lanes`: where the two lanes differ on an armed stop input, the stop decisions (slot, input, score) that the second lane
alone took (R702). -/
def execFeatureFrame (ins : BitVec 5) (late stopLate : Bool) (lanes : Option (List (Fin 64 × Fin 4 × BitVec 10)))
    (s : State) : Host.Outcome State Fault Refusal :=
  let ns := (ones 5 ins.toNat).filter (fun n => drlRuns s n && decide (400 ≤ (s.drlIn n).buf.length))
  if ns.isEmpty then ok s
  else
    let s := if late then (s.incSat F.DRL_ST_OVR).event 47 else s
    let stops := s.flag F.SAF_ARM_REQ && ns.any (fun n => (stopInputs s).contains n)
    let s := if stopLate && stops then diagEvent s 7 else s
    let s := if lanes.isSome && stops then diagEvent s 5 else s
    let r := ns.foldl (fun (a : State × List DrlOut) n =>
      let r := inputFrame a.1 n
      (r.1, a.2 ++ r.2)) (s, [])
    let s := outsAct r.1 r.2
    let s := if stops then forEach (lanes.getD []) (fun s d => stopTake (s.event 43) d.1.val d.2.1.val d.2.2.toNat) s else s
    ok (segmentCut s)

/-- EVQ_POP (R269): a read of `n` words of the event queue's window pops the whole entries it covers. -/
def execEvqPop (n : BitVec 7) (s : State) : Host.Outcome State Fault Refusal :=
  let s := { s with drl := { s.drl with evq := s.drl.evq.drop (Nat.min n.toNat 64 / 4) } }
  ok (s.put F.DRL_EVQ_ST_OCC s.drl.evq.length)

end Sys2Proof.Machine
end

