-- ==== Sys2Proof/Machine/Seeds.lean ====
section
/-! DEFINITION. Seed records, slots and enrolment (R271, R274 to R280): the rows of ch. 8 beside the frame. -/

namespace Sys2Proof.Machine

/-! ## Buffers -/

abbrev nvmBuf : Nat := 0x118000

/-- Write bytes at the start of a buffer; the last word's remaining bytes are 0. -/
def bufWrite (s : State) (base : Nat) (bs : List Nat) : State :=
  forEach (upto (ceilDiv bs.length 4)) (fun s i => s.wr (base + 4 * i) (BitVec.ofNat 32 (leOfBytes ((bs.drop (4 * i)).take 4)))) s

/-! ## Format rules -/

/-- The length of a record by its header, CRC included. -/
def recTotal (r : List Nat) : Nat := 32 + recField r 24 4 + (if bit (nth r 18 0) 1 then 64 else 0) + 4

/-- The format rules of a template record. -/
def templateOk (r : List Nat) : Bool :=
  let l := recField r 8 2
  decide (1 ≤ l) && decide (l ≤ 200) && recField r 24 4 == 40 * l && decide (nth r 10 0 ≤ 63) &&
  decide (recField r 12 2 ≤ 1023) && decide (recField r 14 2 ≤ 1023) && decide (nth r 6 0 ≤ 15) && decide (nth r 7 0 ≤ 63) &&
  decide (nth r 17 0 ≤ 15) && decide (nth r 18 0 ≤ 3)

/-- The shapes of a net's layers (R271): time steps and channels in, whether a dense layer has come, the layers left. -/
def layersOk : Nat → Nat → Bool → List Layer → Bool
  | _, _, _, [] => false
  | t, c, dense, l :: ls =>
    let common := decide (l.act ≤ 1) && decide (1 ≤ l.mult) && decide (l.mult ≤ 32767) && decide (1 ≤ l.shift) && decide (l.shift ≤ 31)
    if l.typ = 1 then
      common && !dense && decide (1 ≤ l.k) && decide (l.k ≤ 9) && (l.stride == 1 || l.stride == 2) && l.inp == c &&
        decide (1 ≤ l.out) && decide (l.k ≤ t) && l.wbytes == l.out * l.k * l.inp &&
        layersOk ((t - l.k) / Nat.max 1 l.stride + 1) l.out false ls
    else
      common && l.typ == 2 && l.inp == t * c && decide (1 ≤ l.out) && l.wbytes == l.out * l.inp &&
        (match ls with | [] => l.act == 0 && decide (l.out ≤ 16) | _ => layersOk 1 l.out true ls)

/-- The format rules of a net record. -/
def netOk (r : List Nat) : Bool :=
  let n := nth r 10 0
  let ls := netLayers r
  let w := sumN (ls.map (·.wbytes))
  let b := sumN (ls.map (fun l => 4 * l.out))
  let c := recField r 8 2
  decide (1 ≤ c) && decide (c ≤ 100) && decide (1 ≤ n) && decide (n ≤ 4) && [6, 7, 11, 16, 17, 19].all (fun i => nth r i 0 == 0) &&
  recField r 12 4 == 0 && (nth r 18 0 == 0 || nth r 18 0 == 2) && decide (w ≤ 262144) && decide (b ≤ 4096) &&
  recField r 24 4 == 192 + w + b && layersOk c 40 false ls &&
  (netClasses r).all (fun e => decide (e.2.1 < 64) && decide (e.2.2.1 ≤ 15) && decide (e.2.2.2.1 ≤ 1023) && decide (e.2.2.2.2.1 ≤ 1023))

/-- The first rule that a record fails: 0 none, 1 CRC, 2 format, 3 a signature missing where a stop class needs one. -/
def recordCheck (r : List Nat) : Nat :=
  let n := recTotal r
  if r.length < 36 ∨ recField r 0 4 ≠ 0x44454553 ∨ nth r 4 0 ≠ 1 ∨ r.length < n then 2
  else
    let b := r.take n
    if recField b (n - 4) 4 ≠ crc32c (b.take (n - 4)) then 1
    else if recField r 28 4 ≠ 0 then 2
    else if !(if nth r 5 0 = 1 then templateOk b else nth r 5 0 == 2 && netOk b) then 2
    else if recStop b && !bit (nth b 18 0) 1 then 3
    else 0

/-- The signature of a signed record holds under SEEDKEY (R275). -/
def recordSigned (s : State) (r : List Nat) : Bool :=
  let n := 32 + recField r 24 4
  match s.nvm.seedkey with | some k => ecdsaOk k ((r.drop n).take 64) (r.take n) | none => false

/-- Multiplies per evaluation of a net's layers. -/
def netMacs : Nat → Nat → List Layer → Nat
  | _, _, [] => 0
  | t, c, l :: ls =>
    if l.typ = 1 then
      let t' := (t - l.k) / Nat.max 1 l.stride + 1
      t' * l.out * l.k * l.inp + netMacs t' l.out ls
    else t * c * l.out + netMacs 1 l.out ls

/-! ## Slots (R278) -/

def slotState (s : State) (k : Nat) : Nat := s.get (F.DRL_SLOTs_ST_STATE k)

abbrev SL_EMPTY : Nat := 0
abbrev SL_LOADED : Nat := 1
abbrev SL_VERIFYING : Nat := 2
abbrev SL_ARMED : Nat := 3
abbrev SL_FAILED : Nat := 4

/-- The slot is armed or on its way. -/
def slotBusy (s : State) (k : Nat) : Bool := slotState s k == SL_ARMED || slotState s k == SL_VERIFYING

/-- DRL_NET.STATE follows the net's slots and NET_EN. -/
def netFollow (s : State) : State :=
  let ns := netSlots s
  s.put F.DRL_NET_STATE (if ns.isEmpty then 0 else if ns.any (fun k => slotState s k == SL_VERIFYING) then 2
    else if s.flag F.DRL_CFG_NET_EN then 3 else 1)

/-- A slot changes on the inputs that `f` names: its cells and candidacies there end; a refractory count goes on (R281). -/
def slotChangeOn (s : State) (k : Nat) (f : Nat → Bool) : State := pairsClear s (fun j n => j == k && f n)
def slotChange (s : State) (k : Nat) : State := slotChangeOn s k (fun _ => true)

def tableDrop (s : State) (k : Nat) : State := { s with saf := { s.saf with table := s.saf.table.filter (fun j => decide (j ≠ k)) } }

/-- A write of ARM (R278). -/
def slotArm (s : State) (k : Nat) (b : Bool) : State :=
  let s := slotChange s k
  let st := slotState s k
  if b then
    if st = SL_LOADED then
      let s := s.mark (F.DRL_SLOTs_CFG_ARM k) true
      netFollow (s.put (F.DRL_SLOTs_ST_STATE k) (if recStop (slotRec s k) then SL_VERIFYING else SL_ARMED))
    else s.mark (F.DRL_SLOTs_CFG_ARM k) (slotBusy s k)
  else
    let s := tableDrop (s.mark (F.DRL_SLOTs_CFG_ARM k) false) k
    netFollow (if st = SL_ARMED ∨ st = SL_VERIFYING then s.put (F.DRL_SLOTs_ST_STATE k) SL_LOADED else s)

/-- In SENTRY, ARM of a held slot stops and restarts it in the sentry profile (R258), and its STATE follows (R278). DEDUCED
(log 78): the check of a record with a stop class that passed before SENTRY stands, since no record changes there. -/
def heldArm (s : State) (k : Nat) (b : Bool) : State :=
  let s := (slotChangeOn s k (fun n => n == D_SENT)).mark (F.DRL_SLOTs_CFG_ARM k) b
  let s := s.put (F.DRL_SLOTs_ST_STATE k) (if b then SL_ARMED else SL_LOADED)
  { s with drl := { s.drl with held := s.drl.held.map (fun h => if h.slot = k then { h with arm := b } else h) } }

/-- SLOT_ARM: ARM of slot `k` is written. While REQ = 1 the ARM of a stop-class slot cannot be. -/
def execSlotArm (k : Fin 64) (b : Bool) (s : State) : Host.Outcome State Fault Refusal :=
  let k := k.val
  if s.flag F.SAF_ARM_REQ && slotClass s k CL_STOP then ok s
  else if s.awake then ok (slotArm s k b)
  else if s.pstate = SENTRY ∧ s.drl.held.any (fun h => h.slot == k) then ok (heldArm s k b)
  else ok s

/-- A slot becomes EMPTY: its registers return to reset. -/
def slotErase (s : State) (k : Nat) : State :=
  let s := slotChange s k
  let s := s.wr (A.DRL_SLOTs_CFG k) (resetWord (A.DRL_SLOTs_CFG k))
  let s := s.wr (A.DRL_SLOTs_THR k) (resetWord (A.DRL_SLOTs_THR k))
  let s := s.wr (A.DRL_SLOTs_ADJ k) (resetWord (A.DRL_SLOTs_ADJ k))
  let s := (s.put (F.DRL_SLOTs_ST_STATE k) SL_EMPTY).put (F.DRL_SLOTs_ID_ID k) 0
  let s := { s with drl := { s.drl with recs := s.drl.recs.filter (fun e => decide (e.1 ≠ k)) } }
  netFollow (tableDrop s k)

/-- A record is placed in a slot, LOADED and unarmed. -/
def slotPlace (s : State) (k : Nat) (r : List Nat) (typ cls inmask sentry netout thr pre osl refr band len : Nat) : State :=
  let s := slotErase s k
  let s := { s with drl := { s.drl with recs := s.drl.recs ++ [(k, r)] } }
  let s := (s.put (F.DRL_SLOTs_CFG_TYPE k) typ).put (F.DRL_SLOTs_CFG_CLASS k) cls
  let s := (s.put (F.DRL_SLOTs_CFG_INMASK k) inmask).put (F.DRL_SLOTs_CFG_SENTRY k) sentry
  let s := (s.put (F.DRL_SLOTs_CFG_NETOUT k) netout).put (F.DRL_SLOTs_THR_THR k) thr
  let s := (s.put (F.DRL_SLOTs_THR_PRE k) pre).put (F.DRL_SLOTs_ADJ_OSLOPE k) osl
  let s := (s.put (F.DRL_SLOTs_ADJ_REFR k) refr).put (F.DRL_SLOTs_ADJ_BAND k) band
  let s := (s.put (F.DRL_SLOTs_ADJ_LEN k) len).put (F.DRL_SLOTs_ID_ID k) (recField r 20 4)
  s.put (F.DRL_SLOTs_ST_STATE k) SL_LOADED

/-- A checked record goes into its slot, or a net into its class slots, the net before it leaving its own (R276). -/
def recInstall (s : State) (r : List Nat) : State :=
  if nth r 5 0 = 2 then
    let s := forEach (netSlots s) slotErase s
    let s := forEach (netClasses r) (fun s e =>
      let c := e.2
      slotPlace s c.1 r 2 c.2.1 0 0 e.1 c.2.2.1 c.2.2.2.1 c.2.2.2.2.1 c.2.2.2.2.2 0 0) s
    let s := s.put F.DRL_NET_C (recField r 8 2)
    netFollow (s.put F.DRL_NET_MACS_MACS (netMacs (recField r 8 2) 40 (netLayers r)))
  else
    slotPlace s (nth r 7 0) r 1 (nth r 6 0) (nth r 17 0) (b2n (bit (nth r 18 0) 0)) 0 (recField r 12 2) (recField r 14 2)
      (nth r 11 0) (nth r 16 0) (nth r 10 0) (recField r 8 2)

/-- Why an install is refused, 0 for not (R276). -/
def installRefusal (s : State) (r : List Nat) : Nat :=
  let e := recordCheck r
  let r := r.take (recTotal r)
  let slots := recSlots r ++ (if nth r 5 0 = 2 then netSlots s else [])
  if e ≠ 0 then e
  else if bit (nth r 18 0) 1 && !recStop r && !recordSigned s r then 3
  else if slots.any (fun k => slotBusy s k || slotState s k == SL_FAILED) || (nth r 5 0 == 2 && s.flag F.DRL_CFG_NET_EN) then 4
  else if armedRules s && (recStop r || slots.any (fun k => slotClass s k CL_STOP)) then 5
  else 0

/-! ## Record actions (R276, R277) -/

/-- An action starts: the slot field is the write's; an action that runs already stands. -/
def recStart (s : State) (action slot : Nat) : State :=
  if s.flag F.DRL_RECCTL_BUSY then s
  else
    let s := s.put F.DRL_RECCTL_SLOT slot
    let s := { s with drl := { s.drl with act := some ⟨action, slot, 0⟩ } }
    s.mark F.DRL_RECCTL_BUSY true

def recRow (s : State) (action slot : Nat) : Host.Outcome State Fault Refusal := ok (if s.awake then recStart s action slot else s)

/-- INSTALL, SAVE, EXPORT, ERASE, OPEN, PUT, CLOSE: a write of DRL_RECCTL with its action and SLOT. -/
def execInstall (slot : Fin 64) (s : State) : Host.Outcome State Fault Refusal := recRow s 1 slot.val
def execSave (slot : Fin 64) (s : State) : Host.Outcome State Fault Refusal := recRow s 2 slot.val
def execExport (slot : Fin 64) (s : State) : Host.Outcome State Fault Refusal := recRow s 3 slot.val
def execErase (slot : Fin 64) (s : State) : Host.Outcome State Fault Refusal := recRow s 4 slot.val
def execOpen (slot : Fin 64) (s : State) : Host.Outcome State Fault Refusal := recRow s 5 slot.val
def execPut (slot : Fin 64) (s : State) : Host.Outcome State Fault Refusal := recRow s 6 slot.val
def execClose (slot : Fin 64) (s : State) : Host.Outcome State Fault Refusal := recRow s 7 slot.val

/-- INSTALL acts: from the store by its ID, or from the buffer. -/
def doInstall (s : State) : State × Nat :=
  match installRecord s with
  | none => (s, 6)
  | some r =>
    let e := installRefusal s r
    if e ≠ 0 then (s, e) else (recInstall s (r.take (recTotal r)), 0)

/-- SAVE acts: the buffer's record goes to the store under its ID. -/
def doSave (s : State) : State × Nat :=
  let r := bufRead s recBuf 8704
  let e := recordCheck r
  if e = 1 ∨ e = 2 then (s, e)
  else
    let p := recPut s R_SEED (recField r 20 4) (r.take (recTotal r))
    (p.1, if p.2 then 0 else 6)

/-- EXPORT acts: the slot's record, or a piece of a longer one. -/
def doExport (s : State) (slot : Nat) : State × Nat :=
  let r := slotRec s slot
  let n := r.length
  let o := s.get F.DRL_RECOFS_OFS
  let c := s.get F.DRL_RECCHUNK_CHUNK
  if n = 0 then (s, 2)
  else if n ≤ 8704 then (bufWrite (s.put F.DRL_RECLEN_TOTAL n) recBuf r, 0)
  else if c % 4 ≠ 0 ∨ c < 4 ∨ 8704 < c ∨ n < o + c then (s, 7)
  else (bufWrite (s.put F.DRL_RECLEN_TOTAL n) recBuf ((r.drop o).take c), 0)

/-- OPEN acts. -/
def doOpen (s : State) : State × Nat :=
  let t := s.get F.DRL_RECLEN_TOTAL
  if t < 76 ∨ 266532 < t then (s, 7)
  else
    let s := nextSeq s
    ({ s with drl := { s.drl with stream := some ⟨t, [], s.nvm.seq⟩ } }.put F.DRL_RECOFS_OFS 0, 0)

/-- The whole fragments of 4064 bytes between two lengths of a stream, the last fragment left for CLOSE. -/
def streamFrags (r : StreamRec) (was : Nat) : List Frag :=
  let k := fun (n : Nat) => (n - 1) / 4064
  (upto (k r.bytes.length - k was)).map (fun i =>
    let j := k was + i
    ⟨R_SEED, j, false, recField r.bytes 20 4, r.seq, (r.bytes.drop (4064 * j)).take 4064⟩)

/-- PUT acts. -/
def doPut (s : State) : State × Nat :=
  match s.drl.stream with
  | none => (s, 7)
  | some r =>
    let o := s.get F.DRL_RECOFS_OFS
    let c := s.get F.DRL_RECCHUNK_CHUNK
    if c % 4 ≠ 0 ∨ c < 4 ∨ 8704 < c ∨ r.total < o + c ∨ o ≠ r.bytes.length ∨ !recAccepts s R_SEED [0] then (s, 7)
    else
      let r' := { r with bytes := r.bytes ++ bufRead s recBuf c }
      match fragsPut (streamFrags r' r.bytes.length) s with
      | some s => (nvmShow ({ s with drl := { s.drl with stream := some r' } }.put F.DRL_RECOFS_OFS (o + c)), 0)
      | none => (s, 7)

/-- CLOSE acts: the whole stream is checked as one record, which counts once its last fragment is programmed (R277, R731). -/
def doClose (s : State) : State × Nat :=
  match s.drl.stream with
  | none => (s, 7)
  | some r =>
    let drop := { s with drl := { s.drl with stream := none } }
    let e := if recTotal r.bytes ≠ r.total then 2 else recordCheck r.bytes
    if s.get F.DRL_RECOFS_OFS ≠ r.total ∨ r.bytes.length ≠ r.total then (drop, 7)
    else if e ≠ 0 then (drop, e)
    else
      let k := (r.total - 1) / 4064
      match fragPut s ⟨R_SEED, k, true, recField r.bytes 20 4, r.seq, r.bytes.drop (4064 * k)⟩ with
      | some s => (nvmShow { s with drl := { s.drl with stream := none } }, 0)
      | none => (drop, 6)

/-- ERASE acts. -/
def doErase (s : State) (slot : Nat) : State × Nat := if slotBusy s slot then (s, 4) else (slotErase s slot, 0)

/-- RECORD_ACTION_DONE: the action in progress completes. -/
def execRecordActionDone (s : State) : Host.Outcome State Fault Refusal :=
  match s.drl.act with
  | none => ok s
  | some a =>
    if s.awake then
      let s := { s with drl := { s.drl with act := none } }
      let r := if a.action = 1 then doInstall s else if a.action = 2 then doSave s else if a.action = 3 then doExport s a.slot
        else if a.action = 4 then doErase s a.slot else if a.action = 5 then doOpen s else if a.action = 6 then doPut s else doClose s
      ok ((((r.1.mark F.DRL_RECCTL_BUSY false).mark F.DRL_RECCTL_DONE true).put F.DRL_RECCTL_ERR r.2).event 46)
    else ok s

/-- SEED_VERIFY_DONE (R275, R278): the Scarecrow completes the check of slot `k`'s record: ARMED and in its table, or
FAILED. -/
def execSeedVerifyDone (k : Fin 64) (s : State) : Host.Outcome State Fault Refusal :=
  let k := k.val
  if slotState s k = SL_VERIFYING ∧ s.awake ∧ coreState s SCARE = C_RUN then
    if recordSigned s (slotRec s k) then
      let s := s.put (F.DRL_SLOTs_ST_STATE k) SL_ARMED
      let s := if slotClass s k CL_STOP then { s with saf := { s.saf with table := (tableDrop s k).saf.table ++ [k] } } else s
      ok (netFollow s)
    else ok (netFollow ((s.put (F.DRL_SLOTs_ST_STATE k) SL_FAILED).mark (F.DRL_SLOTs_CFG_ARM k) false))
  else ok s

/-! ## Enrolment (R279, R280) -/

/-- START is refused (R279). -/
def enrRefuse (s : State) : State := ((s.put F.DRL_ENR_ST_ERR 5).put F.DRL_ENR_ST_STATE 5).event 45

/-- A write of START. -/
def enrStart (s : State) (slot input count : Nat) : State :=
  let s := ((s.put F.DRL_ENR_CTL_SLOT slot).put F.DRL_ENR_CTL_IN input).put F.DRL_ENR_CTL_COUNT count
  if s.drl.enr.isSome ∧ s.pstate ≠ SENTRY then (s.put F.DRL_ENR_ST_ERR 5).event 45
  else if (s.pstate ≠ WATCH ∧ s.pstate ≠ SERVICE) ∨ slotBusy s slot ∨ count < 5 ∨ 20 < count then
    enrRefuse s
  else
    let s := { s with drl := { s.drl with enr := some ⟨input, slot, count, [], none, 0, false⟩ } }
    ((s.put F.DRL_ENR_ST_STATE 1).put F.DRL_ENR_ST_CAPT 0).put F.DRL_ENR_ST_ERR 0

/-- ENROLMENT_START: DRL_ENR_CTL is written with START = 1. -/
def execEnrolmentStart (slot : Fin 64) (input : Fin 4) (count : Fin 32) (s : State) : Host.Outcome State Fault Refusal :=
  ok (if s.awake then enrStart s slot.val input.val count.val else if s.pstate = SENTRY then enrRefuse s else s)

/-- ENROLMENT_ABORT: DRL_ENR_CTL.ABORT is written 1. -/
def execEnrolmentAbort (s : State) : Host.Outcome State Fault Refusal := ok (enrEnd s 4)

/-- ENROLMENT_TIMEOUT: no utterance has begun within 60 s of the previous one. -/
def execEnrolmentTimeout (s : State) : Host.Outcome State Fault Refusal := ok (if s.get F.DRL_ENR_ST_STATE = 1 ∧ s.clk.present then enrEnd s 3 else s)

/-- A cell of the full alignment: its cost and its path, the latest step first. -/
abbrev PathCell : Type := Option (Nat × List (Nat × Nat))

/-- The better predecessor of a path cell: the lesser cost, the earlier on a tie. -/
def betterPath (a b : PathCell) : PathCell :=
  match a, b with
  | some x, some y => if y.1 < x.1 then some y else some x
  | some x, none => some x
  | none, y => y

/-- A path predecessor qualifies: |t − i| ≤ 63. -/
def pathFrom (t i : Nat) (c : PathCell) : PathCell :=
  if ((t : Int) - (i : Int)).natAbs ≤ 63 then c else none

/-- Row `t` of the full alignment from index `i` on. -/
def pathRow (v : List Nat) (t : Nat) : Nat → List (List Nat) → List PathCell → PathCell → List PathCell
  | _, [], _, _ => []
  | i, x :: xs, prev, left =>
    let best := if i = 0 then (if t = 0 then some (0, []) else pathFrom t i (nth prev 1 none))
      else betterPath (betterPath (pathFrom t i (prev.headD none)) (pathFrom t i (nth prev 1 none))) (pathFrom t i left)
    let cell := best.map (fun p => (p.1 + localCost v x, (t, i) :: p.2))
    cell :: pathRow v t (i + 1) xs (prev.drop 1) cell

/-- The full alignment of a segment to a reference: cost and path; none where the band admits none. -/
def alignPath (ref seg : List (List Nat)) : PathCell :=
  let rows := (upto seg.length).foldl (fun (prev : List PathCell) t => pathRow (nth seg t []) t 0 ref (none :: prev) none) []
  rows.getLastD none

/-- The sum of a segment's costs to the others; an alignment that the band excludes outweighs any cost. -/
def alignSum (segs : List (List (List Nat))) (r : Nat) : Nat :=
  sumN ((upto segs.length).map (fun j =>
    if j = r then 0 else match alignPath (nth segs r []) (nth segs j []) with | some p => p.1 | none => 2 ^ 40))

/-- The reference segment: least sum, lowest index on a tie. -/
def enrolRef (segs : List (List (List Nat))) : Nat :=
  (upto segs.length).foldl (fun b r => if alignSum segs r < alignSum segs b then r else b) 0

/-- The template: for each reference frame the rounded mean of the frames aligned to it. -/
def enrolTemplate (segs : List (List (List Nat))) : List (List Nat) :=
  let r := enrolRef segs
  let ref := nth segs r []
  let aligned := (upto segs.length).flatMap (fun j =>
    if j = r then []
    else match alignPath ref (nth segs j []) with
      | some p => p.2.map (fun e => (e.2, nth (nth segs j []) e.1 []))
      | none => [])
  (upto ref.length).map (fun i =>
    let fs := nth ref i [] :: (aligned.filter (fun e => e.1 == i)).map (·.2)
    (upto 40).map (fun k => nearest (sumN (fs.map (fun f => nth f k 0))) fs.length))

/-- The score of a segment against a template with BAND = 10: the greatest end score over its frames. -/
def segmentScore (tmpl seg : List (List Nat)) : Nat :=
  ((upto seg.length).foldl (fun (a : List Cell × Nat) t =>
    let row := cellRow (nth seg t []) 10 t tmpl a.1
    (row, Nat.max a.2 (endScore row))) ([], 0)).2

/-- ENROLMENT_BUILD: COUNT segments are held; the template goes into the record buffer. The header fields that R280 does
not state are free values. -/
def execEnrolmentBuild (s : State) : Host.Outcome State Fault Refusal :=
  match s.drl.enr with
  | some e =>
    if e.segs.length = e.count ∧ s.get F.DRL_ENR_ST_STATE = 3 then
      let tmpl := enrolTemplate e.segs
      let scores := e.segs.map (segmentScore tmpl)
      let m := scores.foldl Nat.min (scores.headD 0)
      let fc := s.fresh 16
      let fb := fc.2.fresh 64
      let fo := fb.2.fresh 256
      let fp := fo.2.fresh 1024
      let fr := fp.2.fresh 256
      let fi := fr.2.fresh 16
      let fs := fi.2.fresh 2
      let fd := fs.2.fresh (2 ^ 32)
      let s := fd.2
      let h := bytesOfLe 4 0x44454553 ++ [1, 1, fc.1, e.slot] ++ bytesOfLe 2 tmpl.length ++ [fb.1, fo.1] ++ bytesOfLe 2 (m - 48) ++
        bytesOfLe 2 fp.1 ++ [fr.1, fi.1, fs.1, e.count] ++ bytesOfLe 4 fd.1 ++ bytesOfLe 4 (40 * tmpl.length) ++ [0, 0, 0, 0]
      let r := h ++ tmpl.flatten
      let s := bufWrite s recBuf (r ++ bytesOfLe 4 (crc32c r))
      let s := { s with drl := { s.drl with enr := none } }
      ok (((s.put F.DRL_ENR_RES_MINSCORE m).put F.DRL_ENR_RES_LEN tmpl.length).put F.DRL_ENR_ST_STATE 4 |>.event 45)
    else ok s
  | none => ok s

end Sys2Proof.Machine
end

