-- ==== Sys2Proof/Machine/Scare.lean ====
section
/-! DEFINITION. The rows of functional safety (ch. 20) and the audit of the queues (R493): the Scarecrow's cycle, the output
stage, arming, proofs, the acknowledgement, partners, and the Scarecrow's restart. -/

namespace Sys2Proof.Machine

/-- The Scarecrow runs its program (R331). -/
def scareRuns (s : State) : Bool := coreState s SCARE == C_RUN && coreClocked s SCARE

/-- AUDIT_FAULT (R493): the credit invariant of queue or hand-off `n` is violated; diagnostic 9. -/
def execAuditFault (n : Fin 72) (s : State) : Host.Outcome State Fault Refusal :=
  ok (if s.coreRuns && s.awake then diagEvent (((s.mark F.QUE_ST_AUDERR true).put F.QUE_ST_AUDQ n).event 59) 9 else s)

/-! ## The output stage (R685 to R688) -/

/-- The token that is the complement of the last one; none has been written before the first (R687). -/
def tokenNext (s : State) : Nat := if s.saf.token = some 0x5A3C then 0xA5C3 else 0x5A3C

/-- The value is the one the output stage expects (R687). -/
def tokenGood (s : State) (v : Nat) : Bool :=
  match s.saf.token with
  | some t => (v == 0x5A3C || v == 0xA5C3) && v == 65535 - t
  | none => v == 0x5A3C || v == 0xA5C3

/-- The Scarecrow writes SAF_RUNTOK (R687): the complement of the last value refreshes the run permit, any other value
clears it, which is a failed refresh of diagnostic 3. -/
def runtokWrite (s : State) (v : Nat) : State :=
  let good := tokenGood s v
  let s := { s.put F.SAF_RUNTOK_TOKEN v with saf := { s.saf with token := some v } }
  if good ∨ !s.saf.permit then s else diagEvent (permitClear s) 3

/-- RUNTOK_WRITE. -/
def execRuntokWrite (v : BitVec 16) (s : State) : Host.Outcome State Fault Refusal :=
  ok (if scareRuns s then runtokWrite s v.toNat else s)

/-- RUN_PERMIT_TIMEOUT (R687): 12 ms without a token write clear the run permit; diagnostic 3. -/
def execRunPermitTimeout (s : State) : Host.Outcome State Fault Refusal :=
  ok (if s.saf.permit && s.clk.present then diagEvent (permitClear s) 3 else s)

/-- The levels of STOPA and STOPB (R685): `a` is the wave's level of STOPA where the outputs are dynamic or held. -/
def stopLevels (s : State) (a : Bool) : Bool × Bool :=
  if s.get F.SAF_ST_OUT = 0 then (false, false) else (a, !a)

/-- READBACK_SAMPLE (R688): STOPFBA and STOPFBB are sampled and compared with the outputs' own levels, inverted with
FBPOL = 1; each sample that differs is an event of diagnostic 23. -/
def execReadbackSample (fba fbb wave : Bool) (s : State) : Host.Outcome State Fault Refusal :=
  if s.clk.present && s.awake then
    let pol := s.flag F.SAF_ARM_FBPOL
    let (a, b) := stopLevels s wave
    let da := fba != (a != pol)
    let db := fbb != (b != pol)
    let s := s.put F.SAF_ST_FB (b2n fba + 2 * b2n fbb)
    let match_ := !da && !db
    let s := { s with saf := { s.saf with good := if match_ then Nat.min 8 (s.saf.good + 1) else 0, match_ := match_ } }
    let s := if da then diagEvent s 23 else s
    ok (if db then diagEvent s 23 else s)
  else ok s

/-- CONFIRMATION_TIMEOUT (R691): 20 ms after an unconfirmed stop decision the output stage clears the run permit itself;
diagnostic 3. -/
def execConfirmationTimeout (s : State) : Host.Outcome State Fault Refusal :=
  match (if s.clk.present then s.saf.decision else none) with
  | some _ => ok (diagEvent (permitClear { s with saf := { s.saf with decision := none } }) 3)
  | none => ok s

/-! ## The Scarecrow's program (R682, R708, R710) -/

/-- Every partner is unsynchronised (R710). -/
def partsFresh (s : State) : State :=
  let s := { s with saf := { s.saf with part := s.saf.part.map (fun q => { q with sync := false, adopted := false, at_ := none, well := none }) } }
  forEach (upto 4) (fun s p => (s.mark (F.SAF_PARTp_ALIVE p) false).mark (F.SAF_PARTp_HEALTHY p) false) s

/-- The Scarecrow's program starts: its sequence begins at 1, FRESH for 100 ms, unsynchronised to every partner (R710). -/
def scareStart (s : State) : State :=
  let s := partsFresh (coreInit s SCARE)
  { s with saf := { s.saf with ssEq := 1, progAt := s.time.ms, token := none } }

/-- A condition watched by diagnostics 15 to 18 and 20 stands (R601, R705). -/
def condStands (s : State) (i : Nat) : Bool :=
  if i = 15 then s.get F.MON_ST_VOUT != 0
  else if i = 16 then s.mon.crit.any (fun b => b)
  else if i = 17 then (upto 12).any (fun m => ringBad s m (s.get (F.MON_PMm_COUNT m)))
  else if i = 18 then s.bitOf F.MON_ST_RAIL 0 || s.bitOf F.MON_ST_RAIL 2 || s.flag F.MON_ST_SFRZ || s.flag F.MON_ST_CFRZ
  else !s.flag F.ADC_REF_REFOK

/-- The Scarecrow reads the monitors live (R682 step 2). -/
def condsSee (s : State) : State :=
  forEach [15, 16, 17, 18, 20] (fun s i =>
    if condStands s i then { s with saf := { s.saf with seen := setNth s.saf.seen i s.time.ms } } else s) s

/-- A freeze of a loop that has lasted for more than 10 ms is an event of diagnostic 18, once (R601). -/
def freezeLong (s : State) (l : Nat) : State :=
  match nth s.mon.frzAt l none with
  | some t => if t + 10 < s.time.ms then diagCount { s with mon := { s.mon with frzAt := setNth s.mon.frzAt l none } } 18 1 s.time.ms else s
  | none => s

/-- SCARECROW_CYCLE (R682): events are taken, the monitors read, BG requested (R704), a heartbeat sent and the run permit
refreshed. -/
def execScarecrowCycle (s : State) : Host.Outcome State Fault Refusal :=
  if scareRuns s && s.coreRuns then
    let s := match s.saf.decision with | some (k, n, v) => stopTake s k n v | none => s
    let s := freezeLong (freezeLong (condsSee (linesTake s)) 0) 1
    let s := if s.flag F.SAF_ARM_AINS_EN && adcRuns s then adcUrgent (adcUrgent s 0 15) 1 15 else s
    let s := pduSend s T_SAFE_HB 1 0 0 0
    let s := runtokWrite s (tokenNext s)
    ok { s with saf := { s.saf with hbTrip := [], proved := if s.saf.proved.contains 3 then s.saf.proved else s.saf.proved ++ [3] } }
  else ok s

/-- LOCKSTEP_MISMATCH (R333, R708): diagnostic 2; both cores are reset. A second one within 24 h cannot be repaired until
the next start-up. -/
def execLockstepMismatch (s : State) : Host.Outcome State Fault Refusal :=
  if scareRuns s then
    let again := match s.saf.lockAt with | some t => decide (s.time.ms < t + 86400000) | none => false
    let s := { s with saf := { s.saf with lockAt := some s.time.ms, stuck := if again && !s.saf.stuck.contains 2 then s.saf.stuck ++ [2] else s.saf.stuck } }
    ok (scareHold (diagEvent s 2))
  else ok s

/-- Latches 2 and 4 are repaired by a restart that passed (R708). -/
def lockProved (s : State) : State :=
  let add := [2, 4].filter (fun i => !s.saf.proved.contains i)
  { s with saf := { s.saf with proved := s.saf.proved ++ add } }

/-- Latches 2 and 4, where set, are unrepairable until the next start-up (R708). -/
def lockStuck (s : State) : State :=
  let add := [2, 4].filter (fun i => s.bitOf F.SAF_LATCH_BITS i && !s.saf.stuck.contains i)
  { s with saf := { s.saf with stuck := s.saf.stuck ++ add } }

/-- The Scarecrow's restart (R708): its program reloaded from slot `sl`, with `pass` the self-test's result. A pass repairs
latches 2 and 4; a failure leaves those that are latched unrepairable until the next start-up. -/
def scareRestart (s : State) (sl : Nat) (pass : Bool) : State × Bool :=
  match imageCheck s 2 (slotIndex 2 sl) with
  | .ok img => if pass then (lockProved (scareStart (scareLoad s img sl)), true) else (lockStuck s, false)
  | .error _ => (lockStuck s, false)

/-- SCARECROW_RESTART (R708): the pair, held since its event or in FAULT, is reloaded, self-tested and restarted. -/
def execScarecrowRestart (pass : Bool) (s : State) : Host.Outcome State Fault Refusal :=
  ok (if s.awake && s.clk.present && (coreState s SCARE == C_HALT || coreState s SCARE == C_FAULT) then (scareRestart s (s.get F.FRW_IMG_SACT) pass).1 else s)

/-! ## Arming and proofs (R696, R703) -/

/-- A commit of SAF_ARM.REQ = 1 is in force: arming begins (R696). -/
def armStart (s : State) : State :=
  let s := { s with saf := { s.saf with arming := true, good := 0 } }
  ((s.put F.SAF_ARMST_RESULT 1).put F.SAF_ARMST_STEP 0).put F.SAF_ARMST_REASON 0

/-- Every armed stop slot is in the Scarecrow's table (R690). -/
def stopsVerified (s : State) : Bool :=
  (upto 64).all (fun k => !(slotArmBit s k && slotClass s k CL_STOP) || s.saf.table.contains k)

/-- A proof's outcome (R703): a missing or different result is an event of diagnostic 24. Where it passes, the slots count as
reloaded and verified (R705). -/
def proofDone (s : State) (pass : Bool) : State :=
  let s := s.mark F.SAF_ST_PROOF_OK pass
  if pass then
    let add := [5, 6, 7, 8, 24].filter (fun i => !s.saf.proved.contains i)
    { s with saf := { s.saf with proved := s.saf.proved ++ add } }
  else diagCount s 24 1 s.time.ms

/-- ARMING (R696): the Scarecrow arms or refuses. `proof` is the outcome of the proof on every armed stop slot, `readback`
says that 8 consecutive samples were good. -/
def execArming (proof readback : Bool) (s : State) : Host.Outcome State Fault Refusal :=
  if s.saf.arming && scareRuns s then
    if s.flag F.PWR_BOOTST_FAIL || !s.flag F.PWR_BOOTST_ADCCAL_OK then ok (armRefuse s 1 1)
    else if s.get F.SAF_LATCH_BITS ≠ 0 then ok (armRefuse s 1 2)
    else if !stopsVerified s then ok (armRefuse s 1 3)
    else if !proof then ok (proofDone (armRefuse s 2 4) false)
    else
      let s := proofDone s true
      if !readback then ok (armRefuse s 3 5)
      else
        let s := { s with saf := { s.saf with permit := true, arming := false } }
        let s := ((s.put F.SAF_ST_OUT 1).mark F.SAF_ST_ARMED true).mark F.PWR_STATE_ARMED true
        ok (((s.put F.SAF_ARMST_RESULT 2).put F.SAF_ARMST_STEP 0).event 112)
  else ok s

/-- PROOF (R703): the 500 ms proof pattern, with its outcome. -/
def execProof (pass : Bool) (s : State) : Host.Outcome State Fault Refusal := ok (if scareRuns s then proofDone s pass else s)

/-- DISARM (R697): a write of SAF_ACK.DISARM. -/
def execDisarm (s : State) : Host.Outcome State Fault Refusal := ok (disarm s)

/-! ## The acknowledgement (R705 to R707) -/

/-- A flagged row of the safety strip is not repaired. -/
def safeRowFlagged (s : State) : Bool :=
  let k := s.get F.SWA_CFG_SAFE_STRIP
  s.swa.flagged.any (fun r => decide (stripBase s k / 1024 ≤ r) && decide (1024 * r < stripBase s k + stripNblk s k * stripB s k))

/-- Time has passed since the last event of diagnostic `i`. -/
def quiet (s : State) (i n : Nat) : Bool :=
  match nth s.saf.lastEvent i none with | some t => decide (t + n ≤ s.time.ms) | none => true

/-- A partner's heartbeat has been received healthy for 100 ms. -/
def partWell (s : State) (p : Nat) : Bool :=
  !s.flag (F.SAF_PARTp_HBREQ p) ||
    (s.flag (F.SAF_PARTp_ALIVE p) && (match (nth s.saf.part p ⟨0, false, false, none, none⟩).well with
      | some t => decide (t + 100 ≤ s.time.ms)
      | none => false))

/-- A latch bit is repaired (R705, R708). -/
def repaired (s : State) (i : Nat) : Bool :=
  if s.saf.stuck.contains i then false
  else if i < 2 then s.clk.present && decide (s.clk.phase = .run) && s.flag F.CLK_STAT_LOCK && quiet s i 2
  else if i < 9 ∨ i = 24 then s.saf.proved.contains i
  else if i = 11 ∨ i = 12 then (stopInputs s).all (fun n => (contributing s n).all (fun c => micState s (mapPhys s c) == MS_OK))
  else if i = 13 then (depTasks s).all (fun e => coreLive s e.1) && quiet s 13 1000
  else if i = 14 then !safeRowFlagged s
  else if (15 ≤ i ∧ i ≤ 18) ∨ i = 20 then !condStands s i && decide (nth s.saf.seen i 0 + 1000 ≤ s.time.ms) && quiet s i 1000
  else if i = 21 then (upto 4).all (partWell s)
  else if i = 23 then s.saf.match_ && decide (s.get F.SAF_ST_OUT = 0)
  else quiet s i 1000

/-- A write of SAF_ACK.REQ (R707): in SENTRY it is answered at once. -/
def ackReq (s : State) : State :=
  if s.pstate = SENTRY then (s.put F.SAF_ACK_STEP 0).put F.SAF_ACK_ERR 4
  else (((({ s with saf := { s.saf with ackReq := true } }).put F.SAF_ACK_STEP 0).put F.SAF_ACK_ERR 0).put F.SAF_ACK_CHAL 0).event 118

/-- ACK_REQ (R707 step 1). -/
def execAckReq (s : State) : Host.Outcome State Fault Refusal := ok (ackReq s)

/-- The first failing condition of R707 step 2, 0 for none. -/
def ackError (s : State) : Nat :=
  let recent := match s.saf.stopAt with | some t => decide (s.time.ms < t + 2000) | none => false
  if !(ones 25 (s.get F.SAF_LATCH_BITS)).all (repaired s) then 1
  else if recent then 2
  else if !(s.saf.match_ && s.get F.SAF_ST_OUT == 0) then 3
  else if !(s.pstate == TRIPPED || ((s.pstate == WATCH || s.pstate == RECORD || s.pstate == SERVICE) && !s.armed)) then 4
  else 0

/-- ACK_CHALLENGE (R707 step 2): the Scarecrow posts a fresh challenge, or the first failing condition. -/
def execAckChallenge (s : State) : Host.Outcome State Fault Refusal :=
  if s.saf.ackReq && scareRuns s then
    let s := { s with saf := { s.saf with ackReq := false } }
    let e := ackError s
    if e = 0 then
      let (v, s) := s.fresh 65536
      let s := { s with saf := { s.saf with ackAt := s.time.ms } }
      ok (((s.put F.SAF_ACK_CHAL v).put F.SAF_ACK_STEP 2).event 118)
    else ok (((s.put F.SAF_ACK_STEP 0).put F.SAF_ACK_ERR e).event 118)
  else ok s

/-- The latches clear and FAULT# is released (R706, R707 step 4); a start-up failure that keeps FAULT# asserted stays. -/
def latchesClear (s : State) : State :=
  let s := s.put F.SAF_LATCH_BITS 0
  let s := forEach (upto 25) (fun s i => s.mark (F.SAF_DIAGi_LASTING i) false) s
  if s.pwr.failRow = 0 ∨ 5 ≤ s.pwr.failRow then faultPin s false else s

/-- A write of SAF_ACK_RESP (R707 steps 3 and 4): a right response within its interval clears the latches, and in TRIPPED the
device goes to WATCH or RECORD. Without a challenge it is ignored. -/
def ackResp (s : State) (v : Nat) : State :=
  if s.get F.SAF_ACK_STEP ≠ 2 ∨ !scareRuns s then s
  else if v ≠ Nat.xor (s.get F.SAF_ACK_CHAL) 0x5AA5 then ackFail s 5
  else if s.time.ms < s.saf.ackAt + 200 ∨ s.saf.ackAt + 10000 < s.time.ms then ackFail s 6
  else
    let s := ((latchesClear s).put F.SAF_ACK_STEP 3).event 118
    if s.pstate = TRIPPED then transBegin s (if s.flag F.PWR_STATE_REC then RECORD else WATCH) 6 [] else s

/-- ACK_RESP. -/
def execAckResp (v : BitVec 16) (s : State) : Host.Outcome State Fault Refusal := ok (ackResp s v.toNat)

/-! ## Partners (R692, R709 to R711) -/

def State.part (s : State) (p : Nat) : SafPart := nth s.saf.part p ⟨0, false, false, none, none⟩
def State.setPart (s : State) (p : Nat) (v : SafPart) : State := { s with saf := { s.saf with part := setNth s.saf.part p v } }

/-- SAF_PARTp is set (R709). -/
def partSet (s : State) (p : Nat) : Bool := decide (p < 4) && (s.flag (F.SAF_PARTp_STOPSRC p) || s.flag (F.SAF_PARTp_HBREQ p))

/-- The receiving Scarecrow's check of a PDU (R709, R710): the state, and whether the PDU is accepted. -/
def pduCheck (s : State) (kind : Nat) (b : List Nat) : State × Bool :=
  let p := nth b 0 0
  let bad := (diagCount s 22 3 s.time.ms, false)
  if b.length ≠ 20 ∨ leOfBytes (b.drop 16) ≠ crc32c (b.take 16) ∨ nth b 1 0 ≠ kind ∨ !partSet s p then bad
  else
    let q := s.part p
    let seq := leOfBytes ((b.drop 4).take 4)
    let d := (seq + 2 ^ 32 - q.ssEq) % 2 ^ 32
    let near := decide (1 ≤ d) && decide (d ≤ 3)
    let hb := decide (kind = 1)
    let inTime := !hb || (match q.at_ with | some t => decide (s.time.ms ≤ t + 24) | none => true)
    let now := if hb then some s.time.ms else q.at_
    if q.sync && bit (nth b 2 0) 3 && !near then
      (diagCount (s.setPart p { q with ssEq := seq, sync := false, adopted := true, at_ := now, well := none }) 21 1 s.time.ms, true)
    else if !inTime then bad
    else if q.sync then
      if !near then bad
      else
        let s := if d = 1 then s else diagCount s 22 3 s.time.ms
        (s.setPart p { q with ssEq := seq, at_ := now }, true)
    else (s.setPart p { q with ssEq := seq, sync := q.adopted && near && hb, adopted := true, at_ := now }, true)

/-- SAFE_HB (R709, R711): an accepted heartbeat shows the partner alive and healthy once synchronised; an unhealthy one, or
one whose TDEC breaks the chain, is an event of diagnostic 21 where heartbeats are required. -/
def execSafeHb (x : Fin 2) (s : State) : Host.Outcome State Fault Refusal :=
  onMsg s x T_SAFE_HB (fun r s =>
    let b := r.msg.body
    if !scareRuns s then s
    else
      let c := pduCheck s 1 b
      if !c.2 then c.1
      else
        let s := c.1
        let p := nth b 0 0
        let healthy := bit (nth b 2 0) 2
        let q := s.part p
        let s := s.setPart p { q with well := if healthy then (match q.well with | some t => some t | none => some s.time.ms) else none }
        let s := (s.mark (F.SAF_PARTp_ALIVE p) q.sync).mark (F.SAF_PARTp_HEALTHY p) (q.sync && healthy)
        let s := s.put (F.SAF_PARTp_TDEC p) (leOfBytes ((b.drop 8).take 2))
        if s.flag (F.SAF_PARTp_HBREQ p) then
          let s := if healthy then s else diagCount s 21 1 s.time.ms
          if 1500000 < partnerChain s p then diagCount s 21 1 s.time.ms else s
        else s)

/-- The heartbeat of partner `p` has tripped the device in this cycle: its stop is the cause (R724). -/
def stopOverHeartbeat (s : State) (p : Nat) : State :=
  if s.saf.hbTrip.contains p ∧ s.flag F.SAF_ST_TRIPPED ∧ s.get F.SAF_ST_CAUSE = 3 then causeReplace s 2 4 else s

/-- A confirmed stop of partner `p` (R692): as an own one, with CAUSE = 2; the partner's SAFE-STOP reaches the others by
itself. -/
def partnerStop (s : State) (p : Nat) : State :=
  let s := stopLog { s with saf := { s.saf with stopAt := some s.time.ms } }
  let s := if ackRunning s then ackFail s 2 else s
  if s.saf.arming then armRefuse s 0 6
  else if s.armed || decide (s.pstate = TRIPPED) then stopOverHeartbeat (trip ((permitClear s).event 114) 2 4) p
  else s

/-- SAFE_STOP (R692): a stop accepted from a stop source is confirmed; from any other partner it is logged. -/
def execSafeStop (x : Fin 2) (s : State) : Host.Outcome State Fault Refusal :=
  onMsg s x T_SAFE_STOP (fun r s =>
    if !scareRuns s then s
    else
      let c := pduCheck s 2 r.msg.body
      let p := nth r.msg.body 0 0
      if !c.2 then c.1 else if c.1.flag (F.SAF_PARTp_STOPSRC p) then partnerStop c.1 p else stopLog c.1)

/-- HEARTBEAT_TIMEOUT (R711): 24 ms without an accepted heartbeat of partner `p`. Where heartbeats are required it is an
event of diagnostic 21, and the receiver is unsynchronised to `p` (R710). -/
def execHeartbeatTimeout (p : Fin 4) (s : State) : Host.Outcome State Fault Refusal :=
  if scareRuns s then
    let s := (s.mark (F.SAF_PARTp_ALIVE p) false).mark (F.SAF_PARTp_HEALTHY p) false
    if s.flag (F.SAF_PARTp_HBREQ p) then
      let s := s.setPart p { s.part p with sync := false, adopted := false, at_ := none, well := none }
      let s := if s.armed then { s with saf := { s.saf with hbTrip := s.saf.hbTrip ++ [p.val] } } else s
      ok (diagCount s 21 1 s.time.ms)
    else ok (s.setPart p { s.part p with well := none })
  else ok s

end Sys2Proof.Machine
end

