-- ==== Sys2Proof/Machine/Arrive.lean ====
section
/-! DEFINITION. Arriving in a state with the core domain powered, from start-up and from SENTRY (R114, R121, R126, R132,
R133): the cores start, the sound path starts afresh, the recording period begins, held wakes are delivered; and the end of
start-up. -/

namespace Sys2Proof.Machine

/-- The cores as the device wakes (R357, R358, R331): loaded ones enter INIT, ones that nothing was loaded into stand in HALT;
FRW_SENT_CTL.RUN governs the sentry core from here on. -/
def coresStart (s : State) : State :=
  let s := forEach (upto 4) (fun s c =>
    if coreState s c = C_HALT then coreInit s c else if coreState s c = C_OFF then setCoreState s c C_HALT else s) s
  let s := if coreState s SCARE = C_HALT then scareStart s else if coreState s SCARE = C_OFF then setCoreState s SCARE C_HALT else s
  if coreState s SENT = C_OFF then setCoreState s SENT C_HALT
  else if s.flag F.FRW_SENT_CTL_RUN then (if coreState s SENT = C_HALT then coreInit s SENT else s)
  else if coreLive s SENT || coreState s SENT == C_FAULT then coreHalt s SENT else s

/-- The filter pool after its power-up (R114): cleared stages, chains with the registers' settings, routes in force, every
unsettled length counting (R206). -/
def soundStart (s : State) : State :=
  let chains := (upto 32).map (fun n => { ChainSt.reset n with inst := instTarget s n, mute := (s.chain n).mute })
  let routes := (upto 148).map (fun d => { RouteSt.reset with src := routeReg s d })
  let s := { s with flt := { s.flt with cic := List.replicate 32 CicSt.reset, chain := chains, route := routes, srcLast := [] } }
  let s := forEach (upto 32) (fun s n => s.mark (F.FLT_CHn_ST_FADE n) false) s
  let s := forEach (upto 148) (fun s d => s.mark (F.FLT_RTd_FADE d) false) s
  countsStart s

/-- The state that follows start-up or SENTRY is in force and the units that run there start (R114, R121). -/
def unitsStart (s : State) : State := adcKicks (monFollow (awakeArrive (soundStart (drlWake s))))

/-- The first state entry from start-up, other than SENTRY. -/
def firstArrive (s : State) (st cause : Nat) : State :=
  wakesDeliver (unitsStart (coresStart (enterState (firstEntry s) st cause)))

/-- OFF with the HSP responding ends (R134): SERVICE, after a start-up failure. -/
def serviceArrive (s : State) : State := firstArrive s SERVICE 7

/-- The first state entry to SENTRY (R126): the lanes and the converters stop, the core domain is gated; in class 1 a boot
record that names WATCH leaves its request held (R38). -/
def sentryFirst (s : State) (cause : Nat) : State :=
  let s := adcSentry (hgSentry (firstEntry s))
  let s := sentryArrive (s.mark F.CLK_STAT_LOCK false) cause
  let s := if s.clk.cls = 1 ∧ s.get F.PWR_CFG_START = 2 ∧ !rowForbids s.pwr.failRow WATCH then
      ({ s with pwr := { s.pwr with held := some (WATCH, 0) } }.mark F.PWR_STATE_HELD true).put F.PWR_STATE_TARGET WATCH
    else s
  wakesDeliver s

/-- The state that start-up ends in (R126, R133). -/
def startEnter (s : State) (row : Nat) : State :=
  if row = 1 ∧ s.clk.cls = 1 then forwardFollow (wdoFollow { s with pwr := { s.pwr with start := none, offResp := true } })
  else if row = 0 then sentryFirst s 0
  else if row < 5 then firstArrive s SERVICE 7
  else if row = 5 then
    if s.get F.PWR_CFG_START = 1 ∨ s.clk.cls = 1 then sentryFirst s 7 else firstArrive s SERVICE 7
  else firstArrive s WATCH 7

/-- Start-up ends once every step has ended or been dropped; the path to WATCH ends with its configuration commit. -/
def startCheck (s : State) : State :=
  match s.pwr.start with
  | some t => if stepsOver s && (decide (t.row ≠ 0) || !t.watch) then startEnter s t.row else s
  | none => s

/-- Steps whose predecessors have ended or been dropped start: here step 7, the zeroize of the swath and the short swath
(R126, R133). -/
def stepsGo (s : State) : State :=
  startCheck (if stepRuns s 7 && !s.swa.zsw && !s.swa.zss then zeroShortStart (zeroSwathStart s) else s)

end Sys2Proof.Machine
end

