-- ==== Sys2Proof/Machine/ClockOps.lean ====
section
/-! DEFINITION. Clock procedures (R40 to R64): the hold of a clock plan, of a return check and of a relock, and their
resumption. The rows of ch. 2 stand in Clock.lean. -/

namespace Sys2Proof.Machine

/-- CLK_STAT.STATE codes (R66). -/
abbrev CK_RUN : Nat := 0
abbrev CK_HOLD : Nat := 1
abbrev CK_MEASURE : Nat := 2
abbrev CK_LOCK : Nat := 3
abbrev CK_RETRAIN : Nat := 4

/-- The class of a window count (R47). -/
def classOf (n : Nat) : Nat :=
  if 2200 ≤ n ∧ n ≤ 4600 then 1 else if 4601 ≤ n ∧ n ≤ 9200 then 2 else if 9201 ≤ n ∧ n ≤ 18400 then 3
  else if 18401 ≤ n ∧ n ≤ 36800 then 4 else 0

/-- The reset multiplier of a class (R66). -/
def multOf (c : Nat) : Nat := if c = 2 ∨ c = 3 then 40 else if c = 4 then 20 else 0

/-- Latch a bit of CLK_SUP; source 1 follows. -/
def supLatch (s : State) (f : Fld) : State := (s.mark f true).supLevel

/-- The core domain and the sentry path stop with their state retained, for a procedure (R52 step 1, R41, R55): conversions
in progress are discarded, the voltage loops freeze. -/
def clkStop (s : State) (phase : ClkPhase) (why : ClkWhy) : State :=
  let s := { s with clk := { s.clk with phase := phase, why := why, run := [], runCls := 0, failed := false } }
  monFollow (adcHold (wdoFollow s))

/-- Step 2 of a plan: HOLD. Where the plan raises f_C the core loop commands VMAX (R597). -/
def planHold (s : State) : State :=
  let up := decide (s.fC < fhOf s.clk.planCls * s.clk.planM)
  let s := ({ s with clk := { s.clk with phase := .hold, run := [], runCls := 0, failed := false } }).put F.CLK_STAT_STATE CK_HOLD
  if up && s.awake then voltSet s L_CORE (s.get F.MON_CAVS_CFG_VMAX) else s

/-- Step 1 ends once every partner that is still reachable has acknowledged and the PMBus transaction in flight is over
(R52, R602). -/
def planHoldTry (s : State) : State :=
  if s.clk.phase = .wait ∧ s.clk.acks.all (fun p => !s.flag (F.HG0_ROUTEp_VALID p)) ∧ !s.clk.bus then planHold s else s

/-- The lock of step 4 begins: the class is committed, LOCK reads 0 until the multiplier locks. -/
def lockBegin (s : State) : State :=
  let s := { s with clk := { s.clk with phase := .lock, cls := s.clk.planCls, mult := s.clk.planM, run := [], runCls := 0 } }
  (s.put F.CLK_STAT_STATE CK_LOCK).mark F.CLK_STAT_LOCK false

/-- Partners that are trained, on the lead (R52). -/
def partners (s : State) : List Nat := [1, 2, 3].filter (fun p => s.devid == 0 && s.flag (F.HG0_ROUTEp_VALID p))

/-- The lead tells its partners of a plan (R52 step 1). -/
def planTell (s : State) : State :=
  if s.devid = 0 then
    let tag := (s.hg.planTag + 1) % 2 ^ 32
    let s := { s with hg := { s.hg with planTag := tag } }
    hgBroadcast s VC_CTRL T_CLOCK_PLAN tag [s.clk.planCls, s.clk.planM, 0, 0]
  else s

/-- A plan is accepted (R52, R53, R62). Outside HOLD one that changes M alone goes to the lock; in class 1, where M has no
effect, it changes nothing (R51; DEDUCED, log 24). Any other plan waits for its partners, then for HSCK; in HOLD it replaces
the pending plan. DESIGN CHOICE (log 24): the spec names no course for a plan that arrives while an earlier procedure waits
for its partners, locks or retrains; it goes straight to HOLD here, and acknowledgements still awaited are dropped. -/
def planStart (s : State) (cls m : Nat) (remote : Bool) : State :=
  let fresh := decide (s.clk.phase = .run)
  let only := decide (s.clk.phase ≠ .hold) && decide (cls = s.clk.cls)
  if only && decide (cls = 1) then s else
  let s := { s with clk := { s.clk with planCls := cls, planM := if cls = 1 then 0 else m, remote := remote } }
  let s := (s.mark F.CLK_STAT_LOCK false).mark F.CLK_STAT_SYS_RUN false
  if only then
    let up := decide (s.fC < fhOf cls * m)
    let s := clkStop s .lock .mOnly
    let s := if up && s.awake then voltSet s L_CORE (s.get F.MON_CAVS_CFG_VMAX) else s
    planTell (lockBegin s)
  else if fresh then
    let acks := if remote then [] else partners s
    let bus := !s.mon.bus.isEmpty
    let s := clkStop s .wait .plan
    let s := { s with clk := { s.clk with acks := acks, bus := bus } }
    planHoldTry (if remote then s else planTell s)
  else
    let s := { s with clk := { s.clk with why := .plan, acks := [] } }
    planHold (if remote then s else planTell s)

/-- The sources of f_H-dependent phases start afresh where the committed class changed (R527). -/
def rateFresh (s : State) (old : Nat) : State := if s.clk.cls = old then s else { s with time := { s.time with acc := 0 } }

/-- The first frame formed after a HOLD or a loss stands in a block with the gap mark: the block in progress, or else the next
one begun (R54, R55, R295). -/
def StripSt.withGap (t : StripSt) : StripSt :=
  match t.cur with
  | some b => { t with cur := some { b with gap := true } }
  | none => { t with gap := true }

/-- The same of the short swath (R55, R300). -/
def shortGap (s : State) : State :=
  match s.swa.scur with
  | some b => { s with swa := { s.swa with scur := some { b with gap := true } } }
  | none => { s with swa := { s.swa with sgap := true } }

/-- A plan's resumption: the device awaits its partners' (R52, R54). -/
def planResume (s : State) : State :=
  (({ s with clk := { s.clk with await := partners s } }).mark F.CLK_STAT_SYS_RUN (decide (s.devid = 0))).event 2

/-- What the device held for a plan of class 2 or above goes on: a request in SENTRY, the entry from the responding OFF (R38). -/
def heldGo (s : State) (arrive : State → State) : State :=
  match s.pwr.held with
  | some (target, cause) => if s.pstate = SENTRY then requestState s target cause else s
  | none => if s.pwr.offResp then arrive { s with pwr := { s.pwr with offResp := false } } else s

/-- Step 6: the device resumes (R52, R54, R206): every count of an unsettled length starts, fades end, the swath takes the
gap mark, a group whose f_P changed passes through TMC, as do all inputs after HOLD (R160, R185). A plan that leads out of
class 1 lets a held request proceed (R38), or ends OFF with the HSP responding (R134). A device armed at a loss of HSCK trips now (R55, R722). -/
def clkResume (s : State) (arrive : State → State) : State :=
  let why := s.clk.why
  let s := { s with clk := { s.clk with phase := .run, why := .none, acks := [], bus := false, failed := false } }
  let s := wdoFollow (s.put F.CLK_STAT_STATE CK_RUN)
  let s := if s.pstate = SENTRY then shortGap (sentryCount s) else countsStart (fadesEnd s)
  let s := if why = .mOnly ∨ why = .relock then s else inputsResume s
  let s := { s with swa := { s.swa with strip := s.swa.strip.map StripSt.withGap } }
  let s := adcKicks (monFollow s)
  let s := if why = .plan ∨ why = .mOnly then planResume s else s
  let s := if why = .ret && s.armed then trip s 4 5 else s
  if why = .plan ∧ 2 ≤ s.clk.cls then heldGo s arrive else s

/-- What a start-up holds of the clock and of the power state when it begins. -/
def startClear (s : State) : State :=
  let s := { s with clk := { s.clk with phase := .run, why := .none, cls := 0, mult := 0, planCls := 0, planM := 0, run := [], runCls := 0, startCls := 0, acks := [], bus := false, ferr := false, longLoss := false, failed := false, await := [] } }
  { s with pwr := { s.pwr with start := some ⟨[], false, 0, []⟩, armed := false, trans := none, held := none, deferring := false, deferred := [], offResp := false, failRow := 0, seeded := false } }

/-- Start-up begins, or begins again, at step 1 (R126, R144, R50): what an earlier start-up found is rewritten (R135); a
held WAKEIN# wake stays. -/
def startBegin (s : State) : State :=
  let s := (startClear s).put F.CLK_STAT_STATE CK_MEASURE
  let s := s.put F.CLK_STAT_FH_CLASS 0
  let s := wdoFollow ((s.mark F.CLK_STAT_LOCK false).mark F.CLK_STAT_HCK_OK false)
  let s := (s.put F.CLK_WDO_REF 0).mark F.PWR_STATE_PHB_DUE false
  let s := ((s.wr A.PWR_BOOTST 0).level 4 false).wr A.PWR_MICPWR 0
  let s := { s with mic := { s.mic with settle := List.replicate 32 .none, div := [0, 0, 0, 0], pck := List.replicate 4 PckSt.reset } }
  forwardFollow (hgDisable (hgDisable s 0) 1)

/-- A loss of HSCK, or a frequency error, during start-up restarts it (R144). -/
def startRestart (s : State) : State := if s.pwr.start.isSome then startBegin s else s

end Sys2Proof.Machine
end

