-- ==== Sys2Proof/Machine/Clock.lean ====
section
/-! DEFINITION. The rows of the clock (ch. 2): loss and return of HSCK, windows of the watch oscillator, locks, clock plans and
their messages. -/

namespace Sys2Proof.Machine

/-! ## Loss of HSCK (R49, R55 to R57, R60) -/

/-- HSCK_LOSS: no rising edge within 16 WDO periods; in SENTRY the edges stop. -/
def execHsckLoss (s : State) : Host.Outcome State Fault Refusal :=
  if !s.clk.present then ok s
  else
    let wdo := wdoRuns s
    let was := s.clk.phase
    let s := ({ s with clk := { s.clk with present := false, longLoss := false } }).mark F.CLK_STAT_HCK_OK false
    let s := s.mark F.CLK_STAT_LOCK false
    if wdo then
      let s := (supLatch s F.CLK_SUP_HCK_LOSS).bump64 A.CLK_GAP_LO 1
      let s := monFollow (adcHold s)
      let s := if was = .run ∨ was = .wait then s
        else ({ s with clk := { s.clk with phase := .hold, run := [], runCls := 0 } }).put F.CLK_STAT_STATE CK_HOLD
      ok (if s.awake then diagEvent s 0 else s)
    else ok s

/-- The stability check of R55 begins: of the committed class, or of the plan that was in progress (R60). -/
def checkBegin (s : State) : State :=
  if s.clk.phase = .run then
    let s := { s with clk := { s.clk with planCls := s.clk.cls, planM := s.clk.mult } }
    (clkStop s .hold .ret).put F.CLK_STAT_STATE CK_HOLD
  else s

/-- HSCK_RETURN: a whole WDO window has passed without a gap; in SENTRY the edges are back. -/
def execHsckReturn (s : State) : Host.Outcome State Fault Refusal :=
  if s.clk.present then ok s
  else
    let long := s.clk.longLoss
    let s := { s with clk := { s.clk with present := true, longLoss := false } }
    if s.pstate = OFF then ok (startRestart (if long then zeroSwath s else s))
    else if s.pstate = SENTRY then
      let s := if long then zeroSwathStart (shortGap s) else shortGap s
      if s.clk.phase ≠ .run then ok s
      else
        let s := s.bump64 A.CLK_GAP_LO 1
        -- An exit under way takes the lock that it held again (R41).
        if s.pwr.trans.isSome ∧ !transWaits s .lock ∧ 2 ≤ s.clk.cls then
          ok (lockBegin (clkStop { s with clk := { s.clk with planCls := s.clk.cls, planM := s.clk.mult } } .lock .relock))
        else ok s
    else
      let s := if long then zeroSwathStart s else s
      ok (checkBegin s)

/-- LONG_LOSS: the loss in progress reaches 6000 periods of the WDO, where it runs (R46, R57). -/
def execLongLoss (s : State) : Host.Outcome State Fault Refusal :=
  ok (if !s.clk.present && wdoRuns s then
    supLatch { s with clk := { s.clk with longLoss := true } } F.CLK_SUP_GAP_LONG else s)

/-! ## Windows of the WDO (R47, R50, R52, R58, R64) -/

/-- Start-up in class 1 skips steps 2, 4 and 8; phase B is due at the first exit from SENTRY (R126, R128). -/
def startClass (s : State) (c : Nat) : State :=
  if c = 1 then (stepDrop s [2, 4, 8]).mark F.PWR_STATE_PHB_DUE true else s

/-- Step 1 of start-up: two windows in a row give the same class (R47). -/
def startWindow (s : State) (n : Nat) : State :=
  let c := classOf n
  if c ≠ 0 ∧ c = s.clk.startCls then
    let m := multOf c
    let s := { s with clk := { s.clk with cls := c, mult := m, planCls := c, planM := m, ferr := false } }
    let s := ((s.put F.CLK_STAT_FH_CLASS c).put F.CLK_STAT_STATE CK_RUN).mark F.CLK_STAT_HCK_OK true
    let s := ((s.put F.CLK_PLAN_FH_NEXT c).put F.CLK_PLAN_M m).put F.CLK_WDO_REF n
    startClass (stepEnd s 1) c
  else ({ s with clk := { s.clk with startCls := c } }).put F.CLK_STAT_FH_CLASS 0

/-- A frequency error found by a window of class `c` (R64, R47): armed, a lasting fault; unarmed, logged, and the device
holds; in start-up it begins afresh. -/
def freqError (s : State) (c : Nat) : State :=
  let s := supLatch s F.CLK_SUP_FREQ_ERR
  if s.pwr.start.isSome then startRestart s
  else if s.armed then diagEvent s 1
  else
    let s := { s with clk := { s.clk with planCls := s.clk.cls, planM := s.clk.mult } }
    let s := if c = 0 then s.put F.CLK_STAT_FH_CLASS 0 else s
    (clkStop (diagEventT s 1 256) .hold .freq).put F.CLK_STAT_STATE CK_HOLD

/-- Frequency supervision (R50): an error is judged at its onset. -/
def supervise (s : State) (n : Nat) : State :=
  let r := s.get F.CLK_WDO_REF
  let d := if n < r then r - n else n - r
  let err := decide (classOf n ≠ s.clk.cls) || decide (r < 16 * d)
  if r = 0 then s
  else
    let was := s.clk.ferr
    let s := ({ s with clk := { s.clk with ferr := err } }).mark F.CLK_STAT_HCK_OK (decide (classOf n = s.clk.cls))
    if err && !was then freqError s (classOf n) else s

/-- A window of a stability run (R52 step 3, R58): a run goes on within 1/256 of its first count; a window that breaks it ends
it, and a later window begins the next. Outside a plan a run in another class counts too, once. -/
def runNext (k : ClkSt) (n : Nat) : ClkSt :=
  let c := classOf n
  let first := k.run.getLastD 0
  let d := if n < first then first - n else n - first
  if c = 0 then { k with run := [], runCls := 0 }
  else if k.run ≠ [] then
    (if c = k.runCls ∧ 256 * d ≤ first then { k with run := n :: k.run } else { k with run := [], runCls := 0 })
  else if c = k.planCls then { k with run := [n], runCls := c }
  else if k.why = .plan then { k with run := [], runCls := 0 }
  else if k.runCls = c then k
  else { k with run := [n], runCls := c }

/-- A stability run is complete (R52 step 4): the reference is stored and the lock begins; class 1 has no multiplier. -/
def stable (s : State) (n : Nat) : State :=
  let old := s.clk.cls
  let s := lockBegin (((s.put F.CLK_WDO_REF n).put F.CLK_STAT_FH_CLASS s.clk.planCls).mark F.CLK_STAT_HCK_OK true)
  let s := rateFresh { s with clk := { s.clk with ferr := false } } old
  if s.clk.cls = 1 then
    let s := (s.put F.CLK_PLAN_M 0).put F.CLK_STAT_STATE CK_RETRAIN
    hgDisable (hgDisable { s with clk := { s.clk with phase := .retrain } } 0) 1
  else s

/-- A window during HOLD or MEASURE. -/
def stability (s : State) (n : Nat) : State :=
  let c := classOf n
  let agree := decide (c ≠ 0) && (decide (s.clk.runCls = 0) || decide (c = s.clk.runCls))
  let s := if c ≠ 0 ∧ (s.clk.why = .plan ∨ agree) then s else s.put F.CLK_STAT_FH_CLASS 0
  let s := { s with clk := runNext s.clk n }
  if 4 ≤ s.clk.run.length then
    if s.clk.runCls = s.clk.planCls then stable s n
    else
      let s := (supLatch s F.CLK_SUP_FREQ_ERR).put F.CLK_STAT_FH_CLASS s.clk.runCls
      ({ s with clk := { s.clk with run := [] } }).put F.CLK_STAT_STATE CK_HOLD
  else s.put F.CLK_STAT_STATE (if s.clk.run.isEmpty then CK_HOLD else CK_MEASURE)

/-- WDO_WINDOW: a window of 2048 WDO periods ends with `count` HSCK cycles. -/
def execWdoWindow (count : Nat) (s : State) : Host.Outcome State Fault Refusal :=
  if !(wdoRuns s && s.clk.present) then ok s
  else
    let s := s.put F.CLK_WDO_LAST (Nat.min 65535 count)
    if stepRuns s 1 then ok (startWindow s count)
    else match s.clk.phase with
      | .wait => ok (planHoldTry s)
      | .hold => ok (if s.clk.failed then s else stability s count)
      | .lock => ok (if s.clk.why = .plan ∨ s.clk.why = .mOnly then s else supervise s count)
      | _ => ok (supervise s count)

/-- REFERENCE_TRACK: once a second the reference moves towards the latest count by at most 1/256 of its value (R50). -/
def execReferenceTrack (s : State) : Host.Outcome State Fault Refusal :=
  let r := s.get F.CLK_WDO_REF
  let n := s.get F.CLK_WDO_LAST
  let step := r / 256
  if wdoRuns s && s.clk.present && decide (r ≠ 0) then
    ok (s.put F.CLK_WDO_REF (if r < n then Nat.min n (r + step) else Nat.max n (r - step)))
  else ok s

/-! ## Locks (R40, R41, R64) -/

/-- MULTIPLIER_LOCK: start-up step 2 ends with the reference buffer enabled; an exit from SENTRY goes on to phase B or the
self-calibration; a plan goes on to the retraining of its lanes; any other procedure resumes. -/
def execMultiplierLock (s : State) : Host.Outcome State Fault Refusal :=
  if !s.clk.present then ok s
  else if stepRuns s 2 then
    let s := coreTarget ((s.mark F.CLK_STAT_LOCK true).mark F.ADC_REF_REFEN true)
    ok (adcKicks (stepEnd s 2))
  else if s.clk.phase = .lock then
    let s := coreTarget (s.mark F.CLK_STAT_LOCK true)
    let s := transDone s .lock
    if s.clk.why = .plan then
      let s := ({ s with clk := { s.clk with phase := .retrain } }).put F.CLK_STAT_STATE CK_RETRAIN
      ok (forEach ((upto 2).filter (hgUp s)) hgRetrain s)
    else ok (clkResume s serviceArrive)
  else if transWaits s .lock then
    let s := transDone (coreTarget (s.mark F.CLK_STAT_LOCK true)) .lock
    ok (adcKicks (if transWaits s .phaseB then s else selfStart s))
  else ok s

/-- PLAN_RESUME: the lanes have retrained; the device resumes (R52 step 6). -/
def execPlanResume (s : State) : Host.Outcome State Fault Refusal :=
  ok (if s.clk.phase = .retrain && s.clk.present && !hgTraining s 0 && !hgTraining s 1 then clkResume s serviceArrive else s)

/-- PLAN_FAIL: step 3 is not completed within 1 000 000 WDO periods from HOLD; the device stays in HOLD (R53). -/
def execPlanFail (s : State) : Host.Outcome State Fault Refusal :=
  ok (if s.clk.phase = .hold ∧ s.clk.why = .plan ∧ !s.clk.failed then
    supLatch ({ s with clk := { s.clk with failed := true, run := [], runCls := 0 } }.put F.CLK_STAT_STATE CK_HOLD) F.CLK_SUP_PLAN_FAIL
  else s)

/-- LOCK_LOSS: the multiplier loses lock with HSCK present and no clock plan in progress (R41, R64). In the HOLD of a
frequency error the lock is taken again at its step 4. -/
def execLockLoss (s : State) : Host.Outcome State Fault Refusal :=
  if s.clk.present && decide (s.clk.why ≠ .plan) && decide (s.clk.why ≠ .mOnly) && s.flag F.CLK_STAT_LOCK then
    let s := supLatch s F.CLK_SUP_LOCK_LOSS
    let s := if s.clk.phase = .run then
        lockBegin (clkStop { s with clk := { s.clk with planCls := s.clk.cls, planM := s.clk.mult } } .lock .relock)
      else s.mark F.CLK_STAT_LOCK false
    ok (if s.armed then diagEvent s 1 else diagEventT s 1 256)
  else ok s

/-! ## Plan messages (R52, R647) -/

/-- CLOCK_PLAN: a partner takes the lead's plan over, holds, and acknowledges with its tag. DESIGN CHOICE (log 24): a partner
follows a plan that names class 1 in every state, though R37 permits the class in SENTRY and OFF alone; the spec names no
refusal of the message. -/
def execClockPlan (x : Fin 2) (s : State) : Host.Outcome State Fault Refusal :=
  onMsg s x T_CLOCK_PLAN (fun r s =>
    let c := nth r.msg.body 0 0
    let m := nth r.msg.body 1 0
    if s.devid = 0 ∨ c = 0 ∨ 4 < c then s
    else
      let s := (s.put F.CLK_PLAN_FH_NEXT c).put F.CLK_PLAN_M (if c = 1 then 0 else m)
      let s := hgSend { s with hg := { s.hg with planTag := r.msg.param } } VC_CTRL T_PLAN_ACK 0 r.msg.param []
      planStart s c m true)

/-- PLAN_ACK: a partner has acknowledged; with the last one the lead's step 1 ends. -/
def execPlanAck (x : Fin 2) (s : State) : Host.Outcome State Fault Refusal :=
  onMsg s x T_PLAN_ACK (fun r s =>
    if s.devid = 0 ∧ s.clk.phase = .wait ∧ r.msg.param = s.hg.planTag then
      planHoldTry { s with clk := { s.clk with acks := s.clk.acks.filter (fun p => decide (p ≠ r.msg.src)) } }
    else s)

end Sys2Proof.Machine
end

