-- ==== Sys2Proof/Machine/Monitor.lean ====
section
/-! DEFINITION. The rows of the monitors and adaptive loops (ch. 17). -/

namespace Sys2Proof.Machine

/-! ## Thermal sensors (R588, R589) -/

/-- A sensor stands at or above a limit, in 0.25 °C, with the 2 °C hysteresis of R589. -/
def above (was : Bool) (t limit : Int) : Bool := if was then decide (limit - 8 ≤ t) else decide (limit ≤ t)

/-- THERMAL_READING: sensor `n` reads `t` in 0.25 °C. -/
def execThermalReading (n : Fin 4) (t : BitVec 12) (s : State) : Host.Outcome State Fault Refusal :=
  let n := n.val
  if monRuns s then
    let v := t.toInt
    let s := s.put (F.MON_Tn_TEMP n) t.toNat
    let warm := above (s.bitOf F.MON_ST_THW n) v (4 * s.getI F.MON_THR_WARN)
    let was := nth s.mon.crit n false
    let crit := above was v 440
    let s := { s with mon := { s.mon with crit := setNth s.mon.crit n crit } }
    let s := (s.putBit F.MON_ST_THW n warm).mark F.MON_ST_CRIT (s.mon.crit.any id)
    let s := s.level 88 (decide (s.get F.MON_ST_THW ≠ 0) || s.mon.crit.any id)
    ok (if crit && !was then diagEvent s 16 else s)
  else ok s

/-! ## Voltage monitors (R590, R591) -/

/-- The window of monitor `v` for a setpoint of its loop, in units of 0.1 mV. -/
def railWindow (s : State) (v mv : Nat) : Nat × Nat :=
  if v = 0 ∨ v = 1 then (10 * mv - 400, 10 * mv + 400)
  else if v = 2 then (10 * mv - 600, 10 * mv + 400)
  else if v = 3 ∨ v = 5 then (8550, 9450)
  else if v = 4 ∨ v = 6 then (17100, 18900)
  else if s.flag F.MON_VIO_IO33 then (29700, 36300) else (16200, 19800)

/-- The setpoints that still count beside the one in force (R590, R604). -/
def prevSets (s : State) (l : Nat) : List Nat := ((nth s.mon.prev l []).filter (fun e => settles s e.2)).map (·.1)

/-- A sample, in 0.1 mV, lies inside the window of monitor `v`: during SETTLE, inside the union of the old and the new. -/
def railInside (s : State) (v x : Nat) : Bool :=
  let l := if v = 0 then L_SENT else L_CORE
  let within := fun (w : Nat × Nat) => decide (w.1 ≤ x) && decide (x ≤ w.2)
  within (railWindow s v (s.get (vsetField l))) ||
  (decide (v < 3) && (prevSets s l).any (fun o => within (railWindow s v o)))

/-- RAIL_OUT: the last four samples of monitor `v`, in 0.1 mV, lie outside its window. -/
def execRailOut (v : Fin 8) (x0 x1 x2 x3 : BitVec 16) (s : State) : Host.Outcome State Fault Refusal :=
  let v := v.val
  if monRuns s && !s.bitOf F.MON_ST_VOUT v && [x0, x1, x2, x3].all (fun x => !railInside s v x.toNat) then
    let s := ((s.putBit F.MON_ST_VOUT v true).putBit F.MON_VLAT_LAT v true).level 89 true
    ok (monFollow (diagEvent s 15))
  else ok s

/-- RAIL_IN: the last 64 samples of monitor `v` lie inside its window; `lo` and `hi` are the least and greatest of them. -/
def execRailIn (v : Fin 8) (lo hi : BitVec 16) (s : State) : Host.Outcome State Fault Refusal :=
  let v := v.val
  if monRuns s && s.bitOf F.MON_ST_VOUT v && railInside s v lo.toNat && railInside s v hi.toNat then
    let s := s.putBit F.MON_ST_VOUT v false
    ok (monFollow (s.level 89 (decide (s.get F.MON_ST_VOUT ≠ 0))))
  else ok s

/-! ## Process monitors (R592, R607) -/

/-- One ring's count of a gate: out of range or dead sets OOR with source 90 and an event of diagnostic 17. -/
def ringCount (s : State) (m n : Nat) : State :=
  let s := s.put (F.MON_PMm_COUNT m) n
  if ringBad s m n then
    diagEvent ((s.mark (F.MON_PMm_OOR m) true).event 90) 17
  else s

/-- PM_GATE: a gate ends; the twelve counts of its rings. -/
def execPmGate (counts : List (BitVec 20)) (s : State) : Host.Outcome State Fault Refusal :=
  if monRuns s ∧ counts.length = 12 then ok (monFollow (forEach (upto 12) (fun s m => ringCount s m (nth counts m 0).toNat) s))
  else ok s

/-! ## PMBus (R593, R594) -/

def swField (sent : Bool) : Fld := if sent then F.MON_PMB_SW_SENT else F.MON_PMB_SW_CORE

/-- A PMBus failure of a rail (R594): PMERR, source 93, the loop of that rail freezes. -/
def pmbFail (s : State) (sent : Bool) : State :=
  let s := { s with mon := { s.mon with frz := setNth s.mon.frz (if sent then L_SENT else L_CORE) true } }
  monFollow (((s.mark F.MON_ST_PMERR true).mark F.MON_PMB_ERR_RAIL sent).event 93)

/-- PMBUS_TRANSACTION_END: the transaction on the bus ends: 0 acknowledged, 1 NACK, 2 PEC mismatch, 3 SCL held low for
25 ms; `w` is the word that a read returned. A transaction is tried three times in all. -/
def execPmbusTransactionEnd (res : Fin 4) (w : BitVec 16) (s : State) : Host.Outcome State Fault Refusal :=
  match s.mon.bus with
  | [] => ok s
  | t :: rest =>
    let l := if t.sent then L_SENT else L_CORE
    let done := planHoldTry { s with mon := { s.mon with bus := rest }, clk := { s.clk with bus := false } }
    if res.val = 0 then
      if t.cmd = PMB_STATUS then
        let s := done.put (swField t.sent) w.toNat
        if w.toNat &&& s.get F.MON_PMB_MASK_MASK ≠ 0 then ok (pmbFail s t.sent)
        else ok (monFollow { s with mon := { s.mon with frz := setNth s.mon.frz l false } })
      else ok done
    else if t.tries < 2 then ok { s with mon := { s.mon with bus := { t with tries := t.tries + 1 } :: rest } }
    else
      let f := if res.val = 1 then F.MON_PMB_ERR_NACK else if res.val = 2 then F.MON_PMB_ERR_PECF else F.MON_PMB_ERR_TMO
      ok (pmbFail (done.incSat f) t.sent)

/-- STATUS_WORD_POLL: a scheduled read of STATUS_WORD starts, of the VDDS regulator or of the VDDC regulator. -/
def execStatusWordPoll (sent : Bool) (s : State) : Host.Outcome State Fault Refusal := ok (pmbQueue s sent PMB_STATUS 0)

/-- The reads that a clear of PMERR starts: of the rails whose loop a failure froze (R594). -/
def pmerrReads (s : State) : State :=
  let s := if nth s.mon.frz L_SENT false then pmbQueue s true PMB_STATUS 0 else s
  if nth s.mon.frz L_CORE false then pmbQueue s false PMB_STATUS 0 else s

/-- PMERR is written 1 (R594). -/
def pmerrClear (s : State) : State :=
  if s.flag F.MON_ST_PMERR then pmerrReads (s.mark F.MON_ST_PMERR false) else s

/-- PMERR_CLEAR. -/
def execPmerrClear (s : State) : Host.Outcome State Fault Refusal := ok (pmerrClear s)

/-! ## The loops (R595, R596, R600) -/

/-- One evaluation of bit `k` of MON_ST.RAIL (R600): with the condition `c` held for 16 evaluations and the loop at its
limit, it rails. Source 91 or 92 follows; railing high is an event of diagnostic 18. -/
def railCount (s : State) (k : Nat) (c limit : Bool) : State :=
  let n := if c then Nat.min 16 (nth s.mon.runs k 0 + 1) else 0
  let s := { s with mon := { s.mon with runs := setNth s.mon.runs k n } }
  let was := s.bitOf F.MON_ST_RAIL k
  let rails := c && (was || (n == 16 && limit))
  let s := s.putBit F.MON_ST_RAIL k rails
  let s := s.level (91 + k / 2) (s.bitOf F.MON_ST_RAIL (k / 2 * 2) || s.bitOf F.MON_ST_RAIL (k / 2 * 2 + 1))
  if rails ∧ !was ∧ k % 2 = 0 then diagEvent s 18 else s

/-- SENTRY_AVS_EVAL: the run canary failed `fails` times in the last 1 ms; the margin canary failed in it or not. -/
def execSentryAvsEval (fails : BitVec 8) (margin : Bool) (s : State) : Host.Outcome State Fault Refusal :=
  if s.clk.present && (decide (s.pstate = SENTRY) || monRuns s) then
    let canf := Nat.min 255 (s.get F.MON_SAVS_ST_CANF + fails.toNat)
    let runOk := if fails = 0 then Nat.min 64 (s.mon.runOk + 1) else 0
    let marOk := if margin then 0 else Nat.min 64 (s.mon.marOk + 1)
    let s := { s with mon := { s.mon with runOk := runOk, marOk := marOk, sDown := Nat.min 64 (s.mon.sDown + 1) } }
    let s := s.put F.MON_SAVS_ST_CANF canf
    if frozen s L_SENT then ok (monFollow s)
    else
      let v := s.get F.MON_SAVS_ST_VSET
      let lo := s.get F.MON_SAVS_CFG_VMIN
      let hi := s.get F.MON_SAVS_CFG_VMAX
      let up := decide (fails ≠ 0)
      let clean := !up && decide (s.mon.runOk = 64) && decide (s.mon.marOk = 64)
      let down := clean && decide (s.mon.sDown = 64)
      let s := railCount (railCount s 0 up (decide (v = hi))) 1 clean (decide (v = lo))
      if vClamp s L_SENT v ≠ v then ok (voltSet s L_SENT (vClamp s L_SENT v))
      else if up then ok (if v < hi then voltSet s L_SENT (vClamp s L_SENT (v + 10)) else s)
      else if down ∧ lo < v then
        ok (voltSet { s with mon := { s.mon with sDown := 0 } } L_SENT (vClamp s L_SENT (v - 5)))
      else ok s
  else ok s

/-- The smallest count of PM0 to PM7, dead rings left out (R596, R607). -/
def ringMin (s : State) : Option Nat :=
  (((upto 8).map (fun m => s.get (F.MON_PMm_COUNT m))).filter (fun n => decide (n ≠ 0))).min?

/-- CORE_AVS_EVAL: the 1 ms evaluation of the core loop. -/
def execCoreAvsEval (s : State) : Host.Outcome State Fault Refusal :=
  if s.clk.present && monRuns s then
    let s := { s with mon := { s.mon with cDown := Nat.min 255 (s.mon.cDown + 1), skip := s.mon.skip - 1 } }
    match ringMin s with
    | none => ok (monFollow s)
    | some c =>
      if frozen s L_CORE then ok (monFollow s)
      else if s.mon.skip ≠ 0 then ok s
      else
        let s := s.put F.MON_CAVS_ST_CMIN c
        let v := s.get F.MON_CAVS_ST_VSET
        let lo := s.get F.MON_CAVS_CFG_VMIN
        let hi := s.get F.MON_CAVS_CFG_VMAX
        let tgt := s.get F.MON_CAVS_TGT_TGT
        let up := decide (c < tgt)
        let down := decide (tgt * (256 + s.get F.MON_CAVS_STEP_HYS) < 256 * c) && decide (s.get F.MON_CAVS_STEP_DWAIT ≤ s.mon.cDown)
        let s := railCount (railCount s 2 up (decide (v = hi))) 3 down (decide (v = lo))
        if vClamp s L_CORE v ≠ v then ok (voltSet s L_CORE (vClamp s L_CORE v))
        else if up then ok (if v < hi then voltSet s L_CORE (vClamp s L_CORE (v + s.get F.MON_CAVS_STEP_UP)) else s)
        else if down ∧ lo < v then
          let s := { s with mon := { s.mon with cDown := 0 } }
          ok (voltSet s L_CORE (vClamp s L_CORE (v - s.get F.MON_CAVS_STEP_DN)))
        else ok s
  else ok s

/-- MAN is committed (R598): in SERVICE the loop holds and VMAN, clamped, is commanded; elsewhere the write is ignored. -/
def manual (s : State) : State :=
  if s.pstate = SERVICE then
    let s := s.mark F.MON_CAVS_CFG_MAN true
    monFollow (voltSet s L_CORE (vClamp s L_CORE (s.get F.MON_CAVS_MAN_VMAN)))
  else s.mark F.MON_ST_WERR true

/-- MANUAL_VOLTAGE: a commit sets MAN = 1, with the setpoint VMAN. -/
def execManualVoltage (vman : BitVec 10) (s : State) : Host.Outcome State Fault Refusal :=
  if s.pstate = SERVICE then ok (manual (s.put F.MON_CAVS_MAN_VMAN vman.toNat)) else ok (manual s)

end Sys2Proof.Machine
end

