-- ==== Sys2Proof/Machine/Nvm.lean ====
section
/-! DEFINITION. The NVM commands (R736 to R739, R730, R752) and the reclaim of the record layer (R732). A command's row starts
it, with the fields of NVM_CTL as they stand; NVM_COMMAND_DONE gives it its effect. -/

namespace Sys2Proof.Machine

/-! ## Errors of NVM_CTL.ERR (R752) -/

abbrev NE_BUSY : Nat := 1
abbrev NE_STATE : Nat := 2
abbrev NE_ACTIVE : Nat := 3
abbrev NE_SIGN : Nat := 4
abbrev NE_FORMAT : Nat := 5
abbrev NE_SPACE : Nat := 6
abbrev NE_FULL : Nat := 7
abbrev NE_VERIFY : Nat := 8

def nvmKind (s : State) : Nat := s.get F.NVM_CTL_KIND
def nvmSlot (s : State) : Nat := s.get F.NVM_CTL_SLOT

/-- The slot that NVM_CTL names. -/
def nvmIndex (s : State) : Nat := slotIndex (nvmKind s) (nvmSlot s)

/-- A program or erase of the slot is refused (R737): it is active, or it is the alternate Furrow-F slot of an update. -/
def slotHeld (s : State) : Bool :=
  nvmSlot s == activeSlot s (nvmKind s) ||
    (nvmKind s == 1 && (s.get F.FRW_SWAP_STATE == 1 || s.get F.FRW_SWAP_STATE == 2))

/-- What refuses a command at its start: 0 for nothing. -/
def nvmRefuse (s : State) (cmd : Nat) : Nat :=
  if !s.flag F.NVM_ST_MOUNTED then NE_STATE
  else if (cmd = 6 ∨ cmd = 7) ∧ s.pstate ≠ SERVICE then NE_STATE
  else if cmd ≤ 4 ∧ nvmKind s = 0 then NE_FORMAT
  else if cmd ≤ 2 ∧ slotHeld s then NE_ACTIVE
  else if cmd = 2 ∧ (slotGood s (nvmIndex s)).length ≤ s.get F.NVM_CTL_PAGE then NE_SPACE
  else if cmd = 4 ∧ !bit s.nvm.valid (nvmIndex s) then NE_VERIFY
  else if cmd = 6 ∧ (nvmKind s = 0 ∨ nvmKind s = 3) then NE_FORMAT
  else 0

/-- A write of NVM_CTL.CMD starts a command; while one runs it is refused as busy. Commands written while writes are deferred
act later (R749). -/
def nvmStart (s : State) (cmd : Nat) : State :=
  if cmd = 0 ∨ 10 < cmd then s
  else if s.pwr.deferring then laterWord s A.NVM_CTL F.NVM_CTL_CMD cmd
  else if s.nvm.cmd.isSome then s.put F.NVM_CTL_ERR NE_BUSY
  else ({ s with nvm := { s.nvm with cmd := some (cmd, nvmRefuse s cmd) } }.mark F.NVM_CTL_BUSY true).put F.NVM_CTL_ERR 0

def execEraseSlot (s : State) : Host.Outcome State Fault Refusal := ok (nvmStart s 1)
def execProgram (s : State) : Host.Outcome State Fault Refusal := ok (nvmStart s 2)
def execVerify (s : State) : Host.Outcome State Fault Refusal := ok (nvmStart s 3)
def execActivate (s : State) : Host.Outcome State Fault Refusal := ok (nvmStart s 4)
def execBootsave (s : State) : Host.Outcome State Fault Refusal := ok (nvmStart s 5)
def execProvkey (s : State) : Host.Outcome State Fault Refusal := ok (nvmStart s 6)
def execProvlink (s : State) : Host.Outcome State Fault Refusal := ok (nvmStart s 7)
def execRecwrite (s : State) : Host.Outcome State Fault Refusal := ok (nvmStart s 8)
def execRecdel (s : State) : Host.Outcome State Fault Refusal := ok (nvmStart s 9)
def execRecread (s : State) : Host.Outcome State Fault Refusal := ok (nvmStart s 10)

/-! ## Effects -/

def State.setSlotMem (s : State) (k : Nat) (m : List Host.Cell) : State :=
  { s with nvm := { s.nvm with slot := setNth s.nvm.slot k m } }

/-- Slot `k` is not VALID any more (R745). -/
def slotInvalid (s : State) (k : Nat) : State :=
  let s := { s with nvm := { s.nvm with valid := setBit s.nvm.valid k false } }
  s.put (F.NVM_VERk_VERSION k) 0

/-- ERASE_SLOT: every sector of the slot that is not retired is erased. -/
def imageErase (s : State) (k : Nat) : State :=
  forEach (slotGood s k) sectorErase ((slotInvalid s k).setSlotMem k [])

/-- A sector of an image slot is retired: the slot's later pages lie one good sector further (R727). -/
def slotSectorGone (s : State) (k n : Nat) : State :=
  let good := slotGood s k
  let p := (good.takeWhile (fun m => decide (m ≠ n))).length
  if good.contains n then
    let tail := memRead (s.slotMem k) (4096 * (p + 1)) (4096 * (good.length - 1 - p))
    let kept := memWrite (s.slotMem k) (4096 * p) (tail ++ List.replicate 4096 0)
    (slotInvalid s k).setSlotMem k kept
  else s

/-- The slot that sector `n` belongs to. -/
def slotOf (n : Nat) : Option Nat := (upto 6).find? (fun k => (slotSectors k).contains n)

/-- PROGRAM: the page buffer goes into page `p` of slot `k`. -/
def pageWrite (s : State) (k p : Nat) : State :=
  programmed ((slotInvalid s k).setSlotMem k (memWrite (s.slotMem k) (4096 * p) (bufRead s nvmBuf 4096))) 4096

/-- VERIFY: VALID and the version, or the image's error (R735, R738). -/
def slotVerify (s : State) (kind k : Nat) : State × Nat :=
  match imageCheck s kind k with
  | .ok img => ({ s with nvm := { s.nvm with valid := setBit s.nvm.valid k true } }.put (F.NVM_VERk_VERSION k) img.version, 0)
  | .error e => (slotInvalid s k, e)

/-- The page buffer is zeroed (R736). -/
def bufZero (s : State) : State := forEach (upto 1024) (fun s i => s.wr (nvmBuf + 4 * i) 0) s

/-- PROVKEY (R736): a first installation, or a replacement signed under the current key. -/
def keyInstall (s : State) (kind : Nat) : State × Nat :=
  let new := bufRead s nvmBuf 64
  let sig := (bufRead s nvmBuf 128).drop 64
  let old := if kind = 1 then s.nvm.fwkey else s.nvm.seedkey
  let good := match old with | some k => ecdsaOk k sig new | none => true
  let s := bufZero s
  if good then
    (anchorWrite { s with nvm := if kind = 1 then { s.nvm with fwkey := some new } else { s.nvm with seedkey := some new } }, 0)
  else (s, NE_SIGN)

/-- PROVLINK (R736). -/
def linkInstall (s : State) : State :=
  let k := (beOfBytes (bufRead s nvmBuf 16), s.get F.NVM_PERM_PERM)
  anchorWrite { bufZero s with nvm := { s.nvm with link := setNth s.nvm.link (s.get F.NVM_PERM_SLOT) (some k) } }

/-- The boot record with bytes 0 to 6 of NVM_BOOT and NVM_BOOT2 (R739). -/
def bootSave (s : State) : State × Bool :=
  recPut s R_BOOT 0 (bytesOfLe 4 (s.get F.NVM_BOOT_BOOT) ++ bytesOfLe 3 (s.get F.NVM_BOOT2_BOOT) ++ [nth (bootDefault s) 7 0])

/-- RECREAD: the payload into the page buffer, its length into NVM_RECLEN; no record reads as length 0. -/
def recRead (s : State) : State :=
  let bs := (recGet s R_USER (s.get F.NVM_RECID_ID)).getD []
  (bufWrite s nvmBuf bs).put F.NVM_RECLEN_LEN bs.length

/-- A write of a record into a sector that failed twice: the sector's live records move, it is retired, and the record is
written anew (R729, R746). -/
def recWorn (s : State) (worn : Option (Fin 512)) (write : State → State × Bool) : State × Nat :=
  let r := write s
  if !r.2 then (r.1, NE_FULL)
  else
    match worn with
    | some n =>
      if (r.1.sector n).frags.any (fun f => f.seq == r.1.nvm.seq) then
        let back := r.1.setSector { r.1.sector n with frags := (r.1.sector n).frags.filter (fun f => decide (f.seq ≠ r.1.nvm.seq)) }
        let moved := (moveLive back n).getD back
        let again := write (sectorRetire moved n)
        (again.1, if again.2 then 0 else NE_FULL)
      else (r.1, 0)
    | none => (r.1, 0)

/-- The effect of a command, and its error. `worn` names a sector whose erase or program failed verification twice. -/
def nvmEffect (s : State) (cmd : Nat) (worn : Option (Fin 512)) : State × Nat :=
  let k := nvmIndex s
  let bad := match worn with | some n => (slotGood s k).contains n | none => false
  let retire := fun (s : State) => match worn with | some n => sectorRetire (slotSectorGone s k n) n | none => s
  if cmd = 1 then
    let s := imageErase s k
    if bad then (retire s, 0) else (s, 0)
  else if cmd = 2 then
    let s := pageWrite s k (s.get F.NVM_CTL_PAGE)
    if bad then (retire s, NE_VERIFY) else (s, 0)
  else if cmd = 3 then slotVerify s (nvmKind s) k
  else if cmd = 4 then recWorn s worn (fun s => bootName s (nvmKind s) (nvmSlot s))
  else if cmd = 5 then recWorn s worn bootSave
  else if cmd = 6 then keyInstall s (nvmKind s)
  else if cmd = 7 then (linkInstall s, 0)
  else if cmd = 8 then recWorn s worn (fun s => recPut s R_USER (s.get F.NVM_RECID_ID) (bufRead s nvmBuf (s.get F.NVM_RECLEN_LEN)))
  else if cmd = 9 then recWorn s worn (fun s => recPut s R_USER (s.get F.NVM_RECID_ID) [])
  else (recRead s, 0)

/-- NVM_COMMAND_DONE (R737, R752): the running command has its effect and ends: DONE, ERR, source 9. The page buffer is
zeroed after a provisioning command whatever its outcome (R736). -/
def execNvmCommandDone (worn : Option (Fin 512)) (s : State) : Host.Outcome State Fault Refusal :=
  match s.nvm.cmd with
  | some (cmd, err) =>
    let s := { s with nvm := { s.nvm with cmd := none } }
    let r := if err = 0 then nvmEffect s cmd worn else (if cmd = 6 ∨ cmd = 7 then bufZero s else s, err)
    let s := nvmShow r.1
    ok ((((s.mark F.NVM_CTL_BUSY false).mark F.NVM_CTL_DONE true).put F.NVM_CTL_ERR r.2).event 9)
  | none => ok s

/-- RECLAIM (R732): with fewer than 8 erased sectors, the sector that the rule chooses is copied forward and erased. -/
def execReclaim (s : State) : Host.Outcome State Fault Refusal :=
  if s.flag F.NVM_ST_MOUNTED && decide ((erased s).length < 8) then
    match reclaimChoice s with
    | some n => ok (match moveLive s n with | some t => nvmShow (sectorErase t n) | none => s)
    | none => ok s
  else ok s

end Sys2Proof.Machine
end

