-- ==== Sys2Proof/Machine/Service.lean ====
section
/-! DEFINITION. The service actions (R740, R741), the row repair (R304), the end of a calibration's NVM action (R174) and the
test access port (R788). An action's row starts it with the argument in SVC_ARG; SERVICE_ACTION_DONE gives it its effect. -/

namespace Sys2Proof.Machine

/-! ## Errors of SVC_ACT.ERR (R751) -/

abbrev SE_BUSY : Nat := 1
abbrev SE_STATE : Nat := 2
abbrev SE_ARG : Nat := 3
abbrev SE_ADMIT : Nat := 4
abbrev SE_TIME : Nat := 5
abbrev SE_FULL : Nat := 6
abbrev SE_NVM : Nat := 7

/-! ## Rows of the swath (R304, R740, R747) -/

/-- Row `r` is remapped, and the repair map records it (R728, R740). -/
def mapRow (s : State) (r : Nat) : State :=
  let t := repairRow s r
  if t.swa.repaired.length = s.swa.repaired.length then t
  else nvmShow (anchorWrite { t with nvm := { t.nvm with rows := t.nvm.rows ++ [r] } })

/-- ROW_REPAIR (R304): a flagged row is remapped, with AUTOREP = 1. -/
def execRowRepair (r : Nat) (s : State) : Host.Outcome State Fault Refusal :=
  ok (if s.swa.flagged.contains r && s.flag F.SWA_CFG_AUTOREP && s.awake then mapRow s r else s)

/-! ## RETIRE (R741) -/

/-- Core and destination of RETIRE's argument. -/
def retireCore (arg : Nat) : Nat := arg % 4
def retireDest (arg : Nat) : Nat := arg / 256 % 4

def enabledTasks (s : State) (c : Nat) : List Nat := (upto 16).filter (fun t => taskKind s c t != 0)

/-- The object of a refusal that R741 names: the first task in question. -/
def retireRefusal (s : State) (c d : Nat) : Option Nat :=
  let ts := enabledTasks s c
  let first := objTask c (ts.headD 0)
  match ts.find? (fun t => !s.flag (F.FRW_Tc_t_ENTRY_MOVABLE c t)) with
  | some t => some (objTask c t)
  | none =>
    match ts.find? (fun t => taskKind s d t != 0) with
    | some t => some (objTask c t)
    | none => if c = d ∨ coreState s d = C_RETIRED ∨ s.get F.FRW_SWAP_STATE = 1 ∨ s.get F.FRW_SWAP_STATE = 2 then some first else none

/-- The words of RETIRE's commit: tasks copied and disabled, queues re-bound, RETIRE set. -/
def retireWords (s : State) (c d : Nat) : List (Nat × Word) :=
  let bindTo := fun (f : Fld) => if s.get f = c then [(f.addr, BitVec.ofNat 32 (setBits (s.rd f.addr).toNat f.lo f.width d))] else []
  (enabledTasks s c).flatMap (fun t =>
    [(A.FRW_Tc_t_ENTRY d t, s.rd (A.FRW_Tc_t_ENTRY c t)), (A.FRW_Tc_t_TRIG d t, s.rd (A.FRW_Tc_t_TRIG c t)),
     (A.FRW_Tc_t_BOUND d t, s.rd (A.FRW_Tc_t_BOUND c t)),
     (A.FRW_Tc_t_ENTRY c t, BitVec.ofNat 32 (setBits (s.rd (A.FRW_Tc_t_ENTRY c t)).toNat (F.FRW_Tc_t_ENTRY_KIND c t).lo 2 0))]) ++
  (upto 64).flatMap (fun n => bindTo (F.QUE_Qn_PROD_CORE n) ++ bindTo (F.QUE_Qn_CONS_CORE n)) ++
  [(A.FRW_COREc_CTL c, BitVec.ofNat 32 (setBits (s.rd (A.FRW_COREc_CTL c)).toNat (F.FRW_COREc_CTL_RETIRE c).lo 1 1))]

/-! ## Starting an action (R740) -/

/-- What refuses an action at its start: 0 for nothing. -/
def svcRefuse (s : State) (a arg : Nat) : Nat :=
  if a = 1 then (if !s.awake then SE_STATE else if 32767 < arg then SE_ARG else 0)
  else if a = 2 then (if s.awake then 0 else SE_STATE)
  else if a = 3 then (if s.pstate ≠ SERVICE then SE_STATE else if 3 < arg then SE_ARG else 0)
  else if a = 4 then
    (if 511 < arg ∨ arg < 2 then SE_ARG
     else if (match slotOf arg with | some k => k % 2 == activeSlot s (k / 2 + 1) | none => false) then SE_ARG else 0)
  else if a = 6 then (if s.pstate = SERVICE then 0 else SE_STATE)
  else if a = 7 then (if s.flag F.FRW_SENT_CTL_RUN then SE_STATE else 0)
  else 0

/-- RETIRE starts: refused with its reason and object, or its commit goes to admission. -/
def retireStart (s : State) (arg : Nat) : State :=
  let c := retireCore arg
  let d := retireDest arg
  match retireRefusal s c d with
  | some o => ({ s with nvm := { s.nvm with act := some (2, arg, SE_ADMIT) } }.put F.SVC_REASON_REASON 0x0003).put F.SVC_OBJ_OBJ o
  | none => { s with hsp := { s.hsp with checks := s.hsp.checks ++ [⟨.retire, retireWords s c d⟩] } }

/-- A write of SVC_ACT.ACTION starts an action (R740, R749). -/
def svcStart (s : State) (a : Nat) : State :=
  if a = 0 ∨ 7 < a then s
  else if s.pwr.deferring then laterWord s A.SVC_ACT F.SVC_ACT_ACTION a
  else if s.nvm.act.isSome then s.put F.SVC_ACT_ERR SE_BUSY
  else
    let arg := s.get F.SVC_ARG_ARG
    let e := svcRefuse s a arg
    let s := { s with nvm := { s.nvm with act := some (a, arg, e) } }
    let s := (((s.mark F.SVC_ACT_BUSY true).put F.SVC_ACT_ERR 0).put F.SVC_REASON_REASON 0).put F.SVC_OBJ_OBJ 0
    if e ≠ 0 then s else if a = 2 then retireStart s arg else if a = 6 then scareHold s else s

def execRowrep (s : State) : Host.Outcome State Fault Refusal := ok (svcStart s 1)
def execRetire (s : State) : Host.Outcome State Fault Refusal := ok (svcStart s 2)
def execUnretire (s : State) : Host.Outcome State Fault Refusal := ok (svcStart s 3)
def execSectret (s : State) : Host.Outcome State Fault Refusal := ok (svcStart s 4)
def execSavemap (s : State) : Host.Outcome State Fault Refusal := ok (svcStart s 5)
def execReloadSc (s : State) : Host.Outcome State Fault Refusal := ok (svcStart s 6)
def execLoadSentry (s : State) : Host.Outcome State Fault Refusal := ok (svcStart s 7)

/-- A core stands at a task-frame boundary (R363). -/
def coreAtFrame (s : State) (c : Nat) : Bool := decide (coreState s c ≠ C_RUN) && (s.core c).heldRel.isEmpty

/-- RETIRE_TAKES_EFFECT (R741): at a task-frame boundary of both cores the accepted commit is in force and the core is
RETIRED. -/
def execRetireTakesEffect (s : State) : Host.Outcome State Fault Refusal :=
  match s.nvm.act, s.nvm.retire with
  | some (2, arg, _), some ws =>
    let c := retireCore arg
    if coreAtFrame s c && coreAtFrame s (retireDest arg) then
      let s := { storeWords s ws with nvm := { s.nvm with retire := none } }
      ok (coreRetired s c)
    else ok s
  | _, _ => ok s

/-- RETIRE_TIMEOUT (R741): no task-frame boundary within 100 ms. -/
def execRetireTimeout (s : State) : Host.Outcome State Fault Refusal := ok (if s.nvm.retire.isSome && s.clk.present then admitted (svcEnd s SE_TIME) else s)

/-- SWAP_TIMEOUT (R363): no task-frame boundary within 100 ms aborts the update. -/
def execSwapTimeout (s : State) : Host.Outcome State Fault Refusal :=
  ok (if s.clk.present && decide (s.get F.FRW_SWAP_STATE = 2) then admitted (swapAbort s 3) else s)

/-! ## Effects (R740) -/

/-- SECTRET: a sector of the record area gives up its live records first, one of an image slot its page. -/
def sectorRetireAct (s : State) (n : Nat) : State × Nat :=
  match slotOf n with
  | some k => (sectorRetire (slotSectorGone s k n) n, 0)
  | none => match moveLive s n with | some t => (sectorRetire t n, 0) | none => (s, SE_NVM)

/-- The map record: MIC_MAP0 to MIC_MAP31 and MIC_SPARE (R740). -/
def mapRecord (s : State) : List Nat := (upto 32).flatMap (fun n => bytesOfLe 4 (s.rd (A.MIC_MAPn n)).toNat) ++ bytesOfLe 4 (s.rd A.MIC_SPARE).toNat

/-- The effect of an action, and its error. -/
def svcEffect (s : State) (a arg : Nat) : State × Nat :=
  if a = 1 then
    if s.swa.repaired.contains arg then (s, 0)
    else if s.flag F.SWA_REP_EXHAUST ∨ 256 ≤ s.get F.SWA_REP_USED then (s, SE_FULL)
    else (mapRow s arg, 0)
  else if a = 2 then (retireMap s (retireCore arg), 0)
  else if a = 3 then (anchorWrite { s with nvm := { s.nvm with cores := s.nvm.cores.filter (fun c => decide (c ≠ arg)) } }, 0)
  else if a = 4 then (if s.nvm.bad.contains arg then (s, 0) else sectorRetireAct s arg)
  else if a = 5 then
    let r := recPut s R_MAP 0 (mapRecord s)
    (r.1, if r.2 then 0 else SE_NVM)
  else if a = 6 then
    if coreState s SCARE = C_HALT then
      let r := scareRestart s (activeSlot s 2) true
      (r.1, if r.2 then 0 else SE_NVM)
    else (s, 0)
  else
    match imageCheck s 3 (slotIndex 3 (activeSlot s 3)) with
    | .ok img => (sentryLoad s img (activeSlot s 3), 0)
    | .error _ => (s, SE_NVM)

/-- RETIRE has still to be decided or to take effect. -/
def retirePending (s : State) : Bool := s.nvm.retire.isSome || s.hsp.checks.any (fun c => decide (c.origin = Origin.retire))

/-- SERVICE_ACTION_DONE (R740): the running action has its effect and ends: DONE, ERR, source 13. -/
def execServiceActionDone (s : State) : Host.Outcome State Fault Refusal :=
  match s.nvm.act with
  | some (a, arg, err) =>
    if a = 2 ∧ retirePending s then ok s
    else
      let r := if err = 0 then svcEffect s a arg else (s, err)
      ok (svcEnd (nvmShow r.1) r.2)
  | none => ok s

/-! ## Calibration sets and the store (R174) -/

/-- SAVE: one record per input. -/
def calSaveAll (s : State) : State × Bool :=
  (upto 32).foldl (fun (a : State × Bool) p => if a.2 then recPut a.1 R_CAL p (calRecord a.1 p) else a) (s, true)

/-- CAL_NVM_ACTION_END (R174): a SAVE or LOAD completes. -/
def execCalNvmActionEnd (s : State) : Host.Outcome State Fault Refusal :=
  match s.mic.nvm with
  | some save =>
    let r := if save then calSaveAll s else calLoadAll s
    ok (calDone { r.1 with mic := { r.1.mic with nvm := none } } (if r.2 then 0 else 5))
  | none => ok s

/-! ## Test access (R788) -/

/-- The instruction register takes a code; the port runs in test mode alone. -/
def jtagSelect (s : State) (code : Nat) : State := if s.pwr.test then { s with jtag := code } else s

def execExtest (s : State) : Host.Outcome State Fault Refusal := ok (jtagSelect s 0x00)
def execIdcode (s : State) : Host.Outcome State Fault Refusal := ok (jtagSelect s 0x01)
def execSamplePreload (s : State) : Host.Outcome State Fault Refusal := ok (jtagSelect s 0x02)
def execClamp (s : State) : Host.Outcome State Fault Refusal := ok (jtagSelect s 0x04)
def execHighz (s : State) : Host.Outcome State Fault Refusal := ok (jtagSelect s 0x05)
/-- BYPASS, which every undefined code selects. -/
def execBypass (s : State) : Host.Outcome State Fault Refusal := ok (jtagSelect s 0x1F)
/-- TEST_LOGIC_RESET: TRST# selects IDCODE. -/
def execTestLogicReset (s : State) : Host.Outcome State Fault Refusal := ok (jtagSelect s 0x01)

/-- The data register that the selected instruction places between TDI and TDO captures this word: the identification code
with IDCODE, 0 with the one-bit bypass register; the boundary register's cells are the balls themselves. -/
def jtagCapture (s : State) : Option Word :=
  if s.jtag = 0x01 then some 0x132326B9 else if s.jtag = 0x00 ∨ s.jtag = 0x02 then none else some 0

end Sys2Proof.Machine
end

