-- ==== Sys2Proof/Machine/Windows.lean ====
section
/-! DEFINITION. The load windows of the host port (R353 to R355): where each address of the load-window region leads, what a
WINDOW-READ returns there, what a WRITE may change, and the write itself. -/

namespace Sys2Proof.Machine

/-- Where an address of the load-window region leads (R353): a core's program or data memory with the offset in it, or the
Common. -/
inductive Win where
  | prog (c off : Nat) | data (c off : Nat) | common (off : Nat) | none
  deriving DecidableEq, Repr

/-- The window map of R353, by HSP address. -/
def winOf (a : Nat) : Win :=
  if 0x400000 ≤ a ∧ a < 0x440000 then .prog ((a - 0x400000) / 0x10000) (a % 0x10000)
  else if 0x440000 ≤ a ∧ a < 0x4C0000 then .data ((a - 0x440000) / 0x20000) ((a - 0x440000) % 0x20000)
  else if 0x500000 ≤ a ∧ a < 0x600000 then .common (a - 0x500000)
  else if 0x600000 ≤ a ∧ a < 0x608000 then .prog SENT (a - 0x600000)
  else if 0x608000 ≤ a ∧ a < 0x610000 then .data SENT (a - 0x608000)
  else .none

/-- The word at a load-window address; addresses that are not listed read 0 (R353). -/
def winWord (s : State) (a : Nat) : Word :=
  match winOf a with
  | .prog c off => memWord (s.prog c) off
  | .data c off => memWord (s.data c) off
  | .common off => memWord s.frw.common off
  | .none => 0

/-- A core's memories may be written through a window: HALT, FAULT or RETIRED (R354). -/
def coreIdle (s : State) (c : Nat) : Bool := coreState s c == C_HALT || coreState s c == C_FAULT || coreState s c == C_RETIRED

/-- Is a word of the Common in the host region FRW_CFG.CWIN (R354). -/
def inCwin (s : State) (off : Nat) : Bool :=
  decide (4096 * s.get F.FRW_CFG_CWIN_BASE ≤ off) && decide (off < 4096 * (s.get F.FRW_CFG_CWIN_BASE + s.get F.FRW_CFG_CWIN_SIZE))

/-- The core domain is gated: SENTRY, or the part of its entry and exit in which writes are deferred (R140, R354). -/
def windowsGated (s : State) : Bool := decide (s.pstate = SENTRY) || s.pwr.deferring

/-- May the word at a load-window address be written (R354). Addresses that are not listed ignore writes. -/
def winOpen (s : State) (a : Nat) : Bool :=
  match winOf a with
  | .prog c _ => if c = SENT then !windowsGated s && !s.flag F.FRW_SENT_CTL_RUN else s.pstate == SERVICE && coreIdle s c
  | .data c _ => if c = SENT then !windowsGated s && !s.flag F.FRW_SENT_CTL_RUN else !windowsGated s && coreIdle s c
  | .common off => !windowsGated s && (inCwin s off || (upto 4).all (fun c => coreState s c != C_RUN))
  | .none => true

/-- Write a word through a load window (R95, R355). -/
def winWrite (s : State) (a : Nat) (w : Word) : State :=
  let bs := bytesOfLe 4 w.toNat
  match winOf a with
  | .prog c off =>
    let s := progWrite s c off bs
    if c = SENT then s.mark F.FRW_SENT_CTL_UNSIGNED true else s.mark (F.FRW_COREc_ST_UNSIGNED c) true
  | .data c off => dataWrite s c off bs
  | .common off => commonWrite s off bs
  | .none => s

end Sys2Proof.Machine
end

