-- ==== Sys2Proof/Machine/Apply.lean ====
section
/-! DEFINITION. What a commit does once it is accepted (R88, R11): every word is stored, and then every field whose write
acts at once acts, unit by unit. Changes that act at an output boundary (a map change, a bank swap, a calibration or route
change, the power-up of a microphone group) have rows of their own and act there. -/

namespace Sys2Proof.Machine

/-- Written by the host, on its own port or through a tunnel. -/
def byHost : Origin → Bool
  | .host => true
  | .tunnel _ => true
  | _ => false

/-- Written by a Furrow-F core's commit, or by the device on its behalf (the boot record, a hitless update, a move). -/
def byFirmware : Origin → Bool
  | .core _ => true
  | .boot => true
  | .device => true
  | .swap => true
  | .retire => true
  | _ => false

/-- May the origin write the register (R757)? A write that it may not make is ignored. -/
def mayWrite (o : Origin) (a : Nat) : Bool :=
  if a = A.SAF_RUNTOK then decide (o = Origin.scarecrow)
  else if a = A.SAF_ACK ∨ a = A.SAF_ACK_RESP then byHost o
  else if a / 0x10000 = 0x0F then byFirmware o
  else if a = A.HGx_QCTL 0 ∨ a = A.HGx_QCTL 1 then byHost o
  else true

/-! ## Storing (R11) -/

/-- A field outside its range in a word that admission does not check: the value that results is free, within the range. -/
def rangeFix (s : State) (old : Word) (w : Word) (r : Fld × Nat × Nat) : State × Word :=
  let v := bits w.toNat r.1.lo r.1.width
  if r.2.1 ≤ v ∧ v ≤ r.2.2 then (s, w)
  else if r.1.addr / 0x10000 = 0x0B then
    -- R550: the field is unchanged and WERR sets
    (s.mark F.ADC_WERR_WERR true, BitVec.ofNat 32 (setBits w.toNat r.1.lo r.1.width (bits old.toNat r.1.lo r.1.width)))
  else
    let (x, s) := s.fresh (r.2.2 - r.2.1 + 1)
    (s, BitVec.ofNat 32 (setBits w.toNat r.1.lo r.1.width (r.2.1 + x)))

/-- The bits of a register that a write may change now: a stop-class slot's parameters are RO (R265). -/
def rwMask (s : State) (a rw : Nat) : Nat :=
  let o := a % 0x10000
  if a / 0x10000 = 0x06 ∧ 0x400 ≤ o ∧ o < 0xC00 ∧ slotClass s ((o - 0x400) / 0x20) CL_STOP then
    (if o % 0x20 = 4 then 0x03FF0000 else if o % 0x20 = 8 then 0 else rw)
  else rw

/-- SYS_HSPERR: a field written 0 clears, any other value leaves it (R85). -/
def hsperrWrite (old w : Word) : Word :=
  BitVec.ofNat 32 (sumN ((upto 4).map (fun i => if bits w.toNat (8 * i) 8 = 0 then 0 else 2 ^ (8 * i) * bits old.toNat (8 * i) 8)))

/-- MON words that are ignored, in part or whole, with WERR (R598, R605, R757). -/
def monFix (s : State) (a : Nat) (old w : Word) : State × Word :=
  let bad := fun (v : Word) => decide (bits v.toNat 16 10 < bits v.toNat 0 10)
  if (a = A.MON_SAVS_CFG ∨ a = A.MON_CAVS_CFG) ∧ bad w then (s.mark F.MON_ST_WERR true, old)
  else if a = A.MON_CAVS_CFG ∧ s.pstate ≠ SERVICE ∧ bit w.toNat 29 then
    (s.mark F.MON_ST_WERR true, BitVec.ofNat 32 (setBit w.toNat 29 (bit old.toNat 29)))
  else if a = A.MON_CAVS_MAN ∧ s.pstate ≠ SERVICE then (s.mark F.MON_ST_WERR true, old)
  else (s, w)

/-- Store one word: RW bits take it, W1C bits clear where it is 1, everything else keeps its value (R11, R12). A
load-window word is written to its memory. -/
def storeWord (s : State) (e : Nat × Word) : State :=
  if 0x400000 ≤ e.1 then (if windowsGated s then s else winWrite s e.1 e.2)
  else if e.1 = A.SYS_HSPERR then s.wr e.1 (hsperrWrite (s.rd e.1) e.2)
  else if e.1 = A.ADC_REF then s
  else if e.1 = A.CLK_PLAN ∧ bits e.2.toNat 0 3 = 1 then
    -- R51: M has no effect in a plan that names class 1 and reads 0
    (s.put F.CLK_PLAN_FH_NEXT 1).put F.CLK_PLAN_M 0
  else
    match regRow e.1 with
    | none => s
    | some r =>
      let old := s.rd e.1
      let f := if isChecked e.1 then (s, e.2) else (fieldRanges e.1).foldl (fun p q => rangeFix p.1 old p.2 q) (s, e.2)
      let f := monFix f.1 e.1 old f.2
      let rw := BitVec.ofNat 32 (rwMask s e.1 r.rw)
      let c := BitVec.ofNat 32 r.w1c
      f.1.wr e.1 ((((f.1.rd e.1) &&& ~~~rw) &&& ~~~(c &&& e.2)) ||| (f.2 &&& rw))

/-! ## What a written word makes happen -/

/-- A field of the word written. -/
def wfield (w : Word) (f : Fld) : Nat := bits w.toNat f.lo f.width
def wflag (w : Word) (f : Fld) : Bool := wfield w f == 1

/-- CLK (ch. 2). CLK_PLAN stands in `actPlan`. -/
def actClk (old : State) (a : Nat) (s : State) : State :=
  if a = A.CLK_PDM then
    -- R42, R160: a running group's clock changes at its next output-sample boundary
    forEach (upto 4) (fun s g => if (upto 32).any (fun n => mapOn s n && mapPhys s n / 8 == g) then s else divFollow s g) (groupsFollow s)
  else if a = A.CLK_FWD then forwardFollow s
  else if a = A.CLK_SUP then s.supLevel
  else s

/-- A commit that names a plan other than the one in force or pending starts it (R51, R52, R53). -/
def actPlan (old : State) (w : Word) (s : State) : State :=
  if isPlan old [(A.CLK_PLAN, w)] then planStart s (wfield w F.CLK_PLAN_FH_NEXT) (wfield w F.CLK_PLAN_M) false else s

/-- PWR_REQ: the causes of PWR_STATE.CAUSE (R117, R150). -/
def actReq (o : Origin) (w : Word) (s : State) : State :=
  requestState s (wfield w F.PWR_REQ_TARGET) (if byHost o then 1 else 2)

/-- An input becomes enabled: its stage starts (R206), in its group's TSU where that runs. -/
def inputEnable (s : State) (p : Nat) : State :=
  if groupRuns s (p / 8) then
    (if (groupInputs (p / 8)).any (fun q => nth s.mic.settle q .none == .tsu) then cicClear (settleStart s p .tsu) p
     else inputRestart s p true)
  else s

/-- An input becomes disabled. -/
def inputDisable (s : State) (p : Nat) : State := setSettle (calTargetLost s p) p .none

/-- A channel becomes enabled: its chain starts on the mapped input; one in FAULT sets LCFAULT (R183). -/
def chainEnable (s : State) (n : Nat) : State :=
  let s := s.setChain n { ChainSt.reset n with inst := instTarget s n }
  let s := s.mark (F.MIC_MAPn_LCFAULT n) (decide (micState s (mapPhys s n) = MS_FAULT))
  countStart ((s.mark (F.FLT_CHn_ST_FADE n) false).mark (F.MIC_MAPn_AUTO n) false) n

/-- MIC (ch. 5). -/
def actMic (old : State) (a : Nat) (w : Word) (s : State) : State :=
  let o := a % 0x10000
  if a = A.MIC_CFG then
    (if sentryIn old = sentryIn s then s else
      let p := sentryIn s
      sentryChange (s.put F.MIC_CFG_SENTRY_IN (sentryIn old)) (sentryIn old) p)
  else if a = A.MIC_INEN then
    forEach (upto 32) (fun s p =>
      if old.bitOf F.MIC_INEN_EN p = s.bitOf F.MIC_INEN_EN p then s
      else if s.bitOf F.MIC_INEN_EN p then inputEnable s p else inputDisable s p) s
  else if a = A.MIC_PWRCTL then
    forEach (ones 4 (wfield w F.MIC_PWRCTL_CYCLE)) powerCycle (groupsFollow s)
  else if a = A.MIC_CALCTL then
    let s := if wflag w F.MIC_CALCTL_START then calStart s else s
    let s := if wflag w F.MIC_CALCTL_SAVE then calNvm s true else s
    if wflag w F.MIC_CALCTL_LOAD then calNvm s false else s
  else if 0x40 ≤ o ∧ o < 0xC0 then
    let n := (o - 0x40) / 4
    if mapOn s n && !mapOn old n then chainEnable s n
    else if !mapOn s n && mapOn old n then fadeDrop s n else s
  else if 0x100 ≤ o ∧ o < 0x180 then
    (if wflag w (F.MIC_STATn_LATCH_CLR ((o - 0x100) / 4)) then latchClr s ((o - 0x100) / 4) else s)
  else if 0x200 ≤ o ∧ o < 0x600 ∧ o % 0x20 < 0x18 then s.put (F.MIC_CALn_ORIGIN_ORIGIN ((o - 0x200) / 0x20)) 2
  else s

/-- FLT (ch. 6). -/
def actFlt (old : State) (a : Nat) (w : Word) (s : State) : State :=
  let o := a % 0x10000
  if a = A.FLT_SYNC then (if wflag w F.FLT_SYNC_NOW ∧ s.awake then syncEdge s else s)
  else if 0x100 ≤ o ∧ o < 0x180 then
    let p := (o - 0x100) / 4
    if cicOrder old p = cicOrder s p ∧ cicK1 old p = cicK1 s p then s else inputRestart s p true
  else if 0x200 ≤ o ∧ o < 0x600 ∧ o % 0x20 = 0 then
    let n := (o - 0x200) / 0x20
    if chainK2 old n = chainK2 s n then s else inputRestart s (mapPhys s n) true
  else s

/-- LSN (ch. 7). -/
def actLsn (old : State) (a : Nat) (w : Word) (s : State) : State :=
  if a = A.LSN_CFG then sadFollow s
  else if a = A.LSN_SADu_CFG 1 then
    (if old.get (F.LSN_SADu_CFG_SRC 1) = s.get (F.LSN_SADu_CFG_SRC 1) then s else sadFollow (if (s.sad 1).run then sadStop s 1 else s))
  else
    forEach (upto 2) (fun s u => if a = A.LSN_SADu_TL u ∧ wflag w (F.LSN_SADu_TL_RESEED u) then sadReseed s u else s) s

/-- A slot that the sentry profile holds takes its registers' values (R258). -/
def heldTake (s : State) (k : Nat) : State :=
  { s with drl := { s.drl with held := s.drl.held.map (fun h => if h.slot = k then { h with thr := s.get (F.DRL_SLOTs_THR_THR k), pre := s.get (F.DRL_SLOTs_THR_PRE k), oslope := s.get (F.DRL_SLOTs_ADJ_OSLOPE k), refr := s.get (F.DRL_SLOTs_ADJ_REFR k) } else h) } }

/-- A slot's word (R258, R278, R281). -/
def actSlot (old : State) (k sub : Nat) (s : State) : State :=
  let moved := fun (f : Fld) => old.get f != s.get f
  if sub = 0 then
    let b := s.flag (F.DRL_SLOTs_CFG_ARM k)
    let s := slotChangeOn s k (fun n => old.bitOf (F.DRL_SLOTs_CFG_INMASK k) n != s.bitOf (F.DRL_SLOTs_CFG_INMASK k) n)
    if old.flag (F.DRL_SLOTs_CFG_ARM k) = b then s
    else if s.pwr.deferring ∧ slotHeldNow s k then heldArm s k b else slotArm s k b
  else if sub = 4 then
    let s := if moved (F.DRL_SLOTs_THR_THR k) || moved (F.DRL_SLOTs_THR_PRE k) then slotChange s k else s
    heldTake s k
  else if sub = 8 then heldTake (if moved (F.DRL_SLOTs_ADJ_BAND k) then slotChange s k else s) k
  else s

/-- DRL (ch. 8). -/
def actDrl (old : State) (a : Nat) (w : Word) (s : State) : State :=
  let o := a % 0x10000
  let became := fun (n : Nat) => s.flag F.DRL_CFG_EN && drlActive s n && !(old.flag F.DRL_CFG_EN && drlActive old n)
  if a = A.DRL_CFG then netFollow (forEach ((upto 4).filter became) drlRestart s)
  else if 0x20 ≤ o ∧ o < 0x60 then
    (if became ((o - 0x20) / 0x10) then drlRestart s ((o - 0x20) / 0x10) else s)
  else if a = A.DRL_ENR_CTL then
    let s := if wflag w F.DRL_ENR_CTL_ABORT then enrEnd s 4 else s
    if wflag w F.DRL_ENR_CTL_START then enrStart s (s.get F.DRL_ENR_CTL_SLOT) (s.get F.DRL_ENR_CTL_IN) (s.get F.DRL_ENR_CTL_COUNT) else s
  else if a = A.DRL_RECCTL then
    (if wfield w F.DRL_RECCTL_ACTION = 0 then s else recStart s (wfield w F.DRL_RECCTL_ACTION) (s.get F.DRL_RECCTL_SLOT))
  else if 0x400 ≤ o ∧ o < 0xC00 then actSlot old ((o - 0x400) / 0x20) (o % 0x20) s
  else s

/-- Unload runs on the device (R315, R119). -/
def unloading (s : State) : Bool := (s.pstate == RECORD || s.pstate == TRIPPED) && s.flag F.PWR_STATE_REC

/-- A strip is enabled: it starts at the next SC that is a multiple of 256, and unloads where unload runs (R293). -/
def stripEnable (s : State) (k : Nat) : State :=
  let s := s.setStrip k StripSt.reset
  let s := (s.put (F.SWA_STs_HEAD_HEAD k) 0).mark (F.SWA_STs_HEAD_FULL k) false
  if unloading s ∧ s.get (F.SWA_STs_UNL_DEST k) ≠ 0 then unloadStart s k else s

/-- A strip is disabled: its region is zeroized and its PEND frames count in DISC (R321). `base` and `len`: its region. -/
def stripDisable (s : State) (k base len : Nat) : State :=
  let s := stripDiscard s k
  let s := { s with swa := { s.swa with mem := sparseClear s.swa.mem base (base + len), bad := s.swa.bad.filter (fun b => decide (b < base) || decide (base + len ≤ b)) } }
  (s.setStrip k StripSt.reset).mark (F.SWA_STs_UNL_WAIT k) false

/-- One strip's word (R292, R314 to R316, R321). -/
def actStrip (old : State) (ws : List (Nat × Word)) (k sub : Nat) (s : State) : State :=
  if sub = 0 then
    let s := s.put (F.SWA_STs_NBLK_BSIZE k) (stripB s k)
    if stripOn old k && !stripOn s k then stripDisable s k (stripBase old k) (stripNblk old k * stripB old k)
    else if !stripOn old k && stripOn s k then stripEnable s k else s
  else if sub = 0x10 then
    let d := s.get (F.SWA_STs_UNL_DEST k)
    if d = 0 ∧ (s.strip k).unl then (s.setStrip k { s.strip k with unl := false, flight := [] }).mark (F.SWA_STs_UNL_WAIT k) false
    else if d ≠ 0 ∧ unloading s ∧ stripOn s k ∧ !(s.strip k).unl then unloadStart s k else s
  else if sub = 0x28 ∨ (sub = 0x2C ∧ (wordAt ws (A.SWA_STs_UACK_LO k)).isNone) then unloadAck s k (uackValue s ws k)
  else s

/-- SWA (ch. 9). -/
def actSwa (o : Origin) (old : State) (ws : List (Nat × Word)) (a : Nat) (w : Word) (s : State) : State :=
  let off := a % 0x10000
  if a = A.SWA_MITTEN then
    let s := if wflag w F.SWA_MITTEN_RELEASE then mittenClose s (if byHost o then 1 else 2) else s
    -- R324: a TMO below the elapsed idle time
    let was := old.get F.SWA_MITTEN_TMO - old.get F.SWA_MITTEN_IDLE
    let tmo := s.get F.SWA_MITTEN_TMO
    if mittenOpen s || s.flag F.SWA_MITTEN_SS_OPEN then
      (if tmo < was then mittenClose s 3 else s.put F.SWA_MITTEN_IDLE (tmo - was))
    else s
  else if a = A.SWA_ZCTL then
    let s := if wflag w F.SWA_ZCTL_ZSWATH then zeroSwathStart s else s
    if wflag w F.SWA_ZCTL_ZSHORT then zeroShortStart s else s
  else if 0x100 ≤ off ∧ off < 0x500 then actStrip old ws ((off - 0x100) / 0x80) (off % 0x80) s
  else s

/-- FRW (ch. 10). -/
def actFrw (old : State) (a : Nat) (w : Word) (s : State) : State :=
  let o := a % 0x10000
  if a = A.FRW_SWAP then (if wflag w F.FRW_SWAP_REQ then swapStart s else s)
  else if a = A.FRW_SENT_CTL then
    (if old.flag F.FRW_SENT_CTL_RUN = s.flag F.FRW_SENT_CTL_RUN then s else sentRunWrite s (s.flag F.FRW_SENT_CTL_RUN))
  else if 0x100 ≤ o ∧ o < 0x200 ∧ o % 0x40 = 0 then
    let c := (o - 0x100) / 0x40
    let run := s.flag (F.FRW_COREc_CTL_RUN c)
    let s := if old.flag (F.FRW_COREc_CTL_RUN c) = run then s else coreRunWrite s c run
    let s := if wflag w (F.FRW_COREc_CTL_STEP c) then coreStep s c else s
    if s.flag (F.FRW_COREc_CTL_RETIRE c) ∧ coreState s c ≠ C_RETIRED then retireMap (coreRetired s c) c
    else if !s.flag (F.FRW_COREc_CTL_RETIRE c) ∧ coreState s c = C_RETIRED then s.mark (F.FRW_COREc_CTL_RETIRE c) true
    else s
  else if 0x400 ≤ o ∧ o < 0xC00 ∧ o % 0x20 = 0 then
    let c := (o - 0x400) / 0x200
    let t := (o - 0x400) % 0x200 / 0x20
    if taskKind s c t = 0 then s.setCore c { s.core c with heldRel := (s.core c).heldRel.filter (fun x => decide (x ≠ t)) } else s
  else s

/-- QUE (ch. 14). -/
def actQue (old : State) (a : Nat) (w : Word) (s : State) : State :=
  let o := a % 0x10000
  if 0x100 ≤ o ∧ o < 0x900 ∧ o % 0x20 = 0 then
    let n := (o - 0x100) / 0x20
    let s := if wflag w (F.QUE_Qn_CFG_HWM_CLR n) then s.put (F.QUE_Qn_HWM_HWM n) 0 else s
    if queueOn s n && !queueOn old n then (if windowsGated s then s else queueEnable s n)
    else if !queueOn s n && queueOn old n then queueDisable s n else s
  else s

/-- INT (ch. 15). -/
def actInt (a : Nat) (w : Word) (s : State) : State :=
  let o := a % 0x10000
  if 0x10 ≤ o ∧ o < 0x20 then intClear s ((o - 0x10) / 4) w.toNat
  else if a = A.INT_BELL then intRing s (wfield w F.INT_BELL_RING)
  else if 0x100 ≤ o ∧ o < 0x150 then intWithdraw s
  else if 0x800 ≤ o ∧ o < 0xC00 ∧ o % 0x40 = 0 then intFallow s ((o - 0x800) / 0x40)
  else s

/-- ADC (ch. 16). -/
def actAdc (old : State) (a : Nat) (w : Word) (s : State) : State :=
  let moved := fun (f : Fld) => old.get f != s.get f
  if a = A.ADC_REF then refWrite s (wfield w F.ADC_REF_SEL) (wflag w F.ADC_REF_REFEN) (wfield w F.ADC_REF_VNOM)
  else if a = A.ADC_CAL then (if wflag w F.ADC_CAL_SELF then adcSelf s else s)
  else
    forEach (upto 2) (fun s x =>
      if a = A.ADC_x_CTL x then
        let s := if moved (F.ADC_x_CTL_WENT x) || moved (F.ADC_x_CTL_WDIR x) || moved (F.ADC_x_CTL_WCNT x) then adcWindowReset s x else s
        if wflag w (F.ADC_x_CTL_TRIG x) then adcTrig s x else adcKick s x
      else if a = A.ADC_x_WIN x then (if old.rd a = s.rd a then s else adcWindowReset s x)
      else if a = A.ADC_x_LTAKE x then adcTake s x (wfield w (F.ADC_x_LTAKE_MASK x))
      else if a = A.ADC_x_SYSCTL x then
        (if wfield w (F.ADC_x_SYSCTL_STEP x) = 0 then s else sysWrite s x (s.get (F.ADC_x_SYSCTL_ENT x)) (wfield w (F.ADC_x_SYSCTL_STEP x)))
      else s) s

/-- MON (ch. 17). -/
def actMon (old : State) (a : Nat) (w : Word) (s : State) : State :=
  if a = A.MON_ST then (if wflag w F.MON_ST_PMERR && old.flag F.MON_ST_PMERR then pmerrReads s else s)
  else if a = A.MON_SAVS_CFG then limitNow (monFollow s) L_SENT
  else if a = A.MON_CAVS_CFG then
    let s := if s.flag F.MON_CAVS_CFG_MAN && s.pstate == SERVICE then manual s else s
    limitNow (monFollow s) L_CORE
  else if a = A.MON_CAVS_MAN then (if s.flag F.MON_CAVS_CFG_MAN && s.pstate == SERVICE then manual s else s)
  else s

/-- HG0 and HG1 (ch. 18, 19). -/
def actHg (old : State) (a : Nat) (w : Word) (s : State) : State :=
  let s := forEach (upto 2) (fun s x =>
    if a = A.HGx_CFG x then
      let was := old.flag (F.HGx_CFG_EN x)
      let on := s.flag (F.HGx_CFG_EN x)
      if was && !on then hgDisable s x
      else if !was && on then hgStart s x
      else
        let s := hgLanesChange s x (hgLanes old x)
        if wflag w (F.HGx_CFG_RETRAIN x) then hgRetrain s x else s
    else if (upto 4).any (fun v => a == A.HGx_RESv x v) then hgOverres s x
    else if a = A.HGx_SEC x then (if wflag w (F.HGx_SEC_REKEY x) then hgRekey s x else s)
    else if a = A.HGx_QCTL x then (if wflag w (F.HGx_QCTL_RELEASE x) then hgRelease s x else s)
    else s) s
  if a = A.HG0_NTXCTL ∧ wflag w F.HG0_NTXCTL_SEND then noticeSend s else s

/-- SAF (ch. 20). DISARM acts before REQ (R720). -/
def actSaf (old : State) (a : Nat) (w : Word) (s : State) : State :=
  if a = A.SAF_ACK then
    let s := if wflag w F.SAF_ACK_DISARM then disarm s else s
    if wflag w F.SAF_ACK_REQ then ackReq s else s
  else if a = A.SAF_ACK_RESP then ackResp s (wfield w F.SAF_ACK_RESP_RESP)
  else if a = A.SAF_RUNTOK then runtokWrite s (wfield w F.SAF_RUNTOK_TOKEN)
  else if a = A.SAF_ARM then
    (if s.flag F.SAF_ARM_REQ && !old.flag F.SAF_ARM_REQ then armStart s
     else if !s.flag F.SAF_ARM_REQ && old.flag F.SAF_ARM_REQ then disarm s else s)
  else
    forEach (upto 4) (fun s p =>
      if a = A.SAF_PARTp p ∧ partSet s p ∧ !partSet old p then s.setPart p ⟨0, false, false, none, none⟩ else s) s

/-- The units' actions for one word written. -/
def actWord (o : Origin) (old : State) (ws : List (Nat × Word)) (a : Nat) (w : Word) (s : State) : State :=
  match a / 0x10000 with
  | 0x00 => if a = A.SYS_TUNST then s.level 6 (s.flag F.SYS_TUNST_DONE) else s
  | 0x01 => if a = A.CLK_PLAN then actPlan old w s else actClk old a s
  | 0x02 => if a = A.PWR_REQ then actReq o w s else s
  | 0x03 => actMic old a w s
  | 0x04 => actFlt old a w s
  | 0x05 => actLsn old a w s
  | 0x06 => actDrl old a w s
  | 0x07 => actSwa o old ws a w s
  | 0x08 => actFrw old a w s
  | 0x09 => actQue old a w s
  | 0x0A => actInt a w s
  | 0x0B => actAdc old a w s
  | 0x0C => actMon old a w s
  | 0x0D => actHg old a w s
  | 0x0E => actHg old a w s
  | 0x0F => actSaf old a w s
  | 0x10 => if a = A.SVC_ACT ∧ wfield w F.SVC_ACT_ACTION ≠ 0 then svcStart s (wfield w F.SVC_ACT_ACTION) else s
  | 0x11 => if a = A.NVM_CTL ∧ wfield w F.NVM_CTL_CMD ≠ 0 then nvmStart s (wfield w F.NVM_CTL_CMD) else s
  | _ => s

/-- The actions run in ascending address order, clears of pending bits first, a clock plan and a state request last; of several words for one address the
last one alone is compared with the configuration before. -/
def actAll (o : Origin) (old : State) (ws : List (Nat × Word)) : List (Nat × Word) → State → State
  | [], s => s
  | e :: t, s => actAll o old ws t (actWord o (if t.any (fun x => x.1 == e.1) then s else old) ws e.1 e.2 s)

/-- The words of a commit in the order in which they act: clears of pending bits come first, so that an event of the same
commit wins (R13). -/
def actOrder (ws : List (Nat × Word)) : List (Nat × Word) :=
  let ws := sortWords ws
  let late := fun (e : Nat × Word) => e.1 == A.CLK_PLAN || e.1 == A.PWR_REQ
  let clear := fun (e : Nat × Word) => e.1 / 16 == A.INT_PENDw 0 / 16
  ws.filter clear ++ ws.filter (fun e => !clear e && !late e) ++ ws.filter late

/-- An accepted commit takes effect (R88): every word is stored, and then acts. -/
def applyWords (o : Origin) (ws : List (Nat × Word)) (s : State) : State :=
  let ws := actOrder (ws.filter (fun e => mayWrite o e.1))
  actAll o s ws ws (forEach ws storeWord s)

/-! ## Deferral (R140) -/

/-- The order in which deferred words act: a commit's SVC and NVM words with the command word last (R749). -/
def deferOrder (ws : List (Nat × Word)) : List (Nat × Word) :=
  let svc := fun (e : Nat × Word) => e.1 / 0x10000 == 0x10 || e.1 / 0x10000 == 0x11
  ws.filter (fun e => !svc e) ++ (sortWords (ws.filter svc)).reverse

/-- A commit that is accepted while writes are deferred: what acts at once acts, the rest waits for the exit. -/
def applyNow (o : Origin) (ws : List (Nat × Word)) (s : State) : State :=
  if s.pwr.deferring then
    let ws := ws.filter (fun e => mayWrite o e.1)
    let now := (ws.filter (fun e => decide (immediateMask s e.1 ≠ 0))).map (immediatePart s)
    let wait := ws.filter (fun e => decide (immediateMask s e.1 ≠ allOnes) && (regRow e.1).isSome)
    let s := { s with pwr := { s.pwr with deferred := s.pwr.deferred ++ deferOrder wait } }
    applyWords o now s
  else applyWords o ws s

/-- The configuration commit of an exit from SENTRY: the deferred words take effect as one commit, the commands of SVC and
NVM in the order of their commits (R121, R140, R749). -/
def applyDeferred (s : State) : State :=
  let svc := fun (e : Nat × Word) => e.1 / 0x10000 == 0x10 || e.1 / 0x10000 == 0x11
  let ws := deferredWords s
  let s := { s with pwr := { s.pwr with deferring := false, deferred := [] } }
  let s := applyWords .host (ws.filter (fun e => !svc e)) s
  forEach (ws.filter svc) (fun s e => applyWords .host [e] s) s

end Sys2Proof.Machine
end

