-- ==== Sys2Proof/Machine/Read.lean ====
section
/-! DEFINITION. What a read returns and does (R11, R86, R92, R93): the value of every register, those computed at the read
among them, the windows that a read claims or pops, and the replay window. -/

namespace Sys2Proof.Machine

/-! ## Registers whose value is computed at the read -/

/-- A field of a register word, replaced in a value read. -/
def viewSet (v : Word) (f : Fld) (x : Nat) : Word := BitVec.ofNat 32 (setBits v.toNat f.lo f.width x)

/-- How many of a list of times (ms) lie within the last `w` milliseconds. -/
def timesWithin (s : State) (l : List Nat) (w : Nat) : Nat := (l.filter (fun t => decide (s.time.ms < t + w))).length

/-- Depth and instances of the fixed hand-off 64 + k (R494). -/
def handoffDepth (k inst : Nat) : Nat :=
  if k = 0 then (if inst < 32 then 4 else 0)
  else if k = 1 then (if inst < 32 then 8 else 0)
  else if k = 2 then 4
  else if k = 3 then (if inst < 4 then 512 else 0)
  else if k = 4 then (if inst < 8 then 512 else 0)
  else if k = 5 ∨ k = 6 then (if inst < 2 then 16 else 0) else 0

/-- Entries that wait at instance `i` of hand-off `k`: samples at a Drill input. DEDUCED (log 47): an entry crosses any other
hand-off within the command that makes it. -/
def handoffOcc (s : State) (k i : Nat) : Nat := if k = 3 ∧ i < 4 then (nth s.drl.inp i DrlIn.reset).buf.length else 0

/-- The audit word of a hand-off instance (R492, R494): the credits that stand with the producer, and the entries present. -/
def handoffAudit (s : State) (k : Nat) : Word :=
  let i := s.get F.QUE_AUDSEL_INST
  let n := Nat.min (handoffDepth k i) (handoffOcc s k i)
  BitVec.ofNat 32 (handoffDepth k i - n + 2 ^ 11 * n)

/-- A port's credit view (R627, R640). -/
def creditView (s : State) (x v : Nat) : Word :=
  let p := s.hgp x
  BitVec.ofNat 32 (hgAvail p v % 256 + 2 ^ 8 * (nth p.init v 0 % 256) + 2 ^ 16 * ((p.unacked.filter (fun f => f.vc == v)).length % 256))

/-- A link key slot's view: its permissions and that it is provisioned (R654). -/
def permView (s : State) (k : Nat) : Word :=
  match nth s.nvm.link k none with
  | some e => BitVec.ofNat 32 (e.2 % 32 + 256)
  | none => 0

/-- The interrupt controller's words (R544). -/
def intView (s : State) (o : Nat) (v : Word) : Word :=
  if o = 0 then BitVec.ofNat 32 (sumN ((upto 5).map (fun t => if intReq s t then 2 ^ t else 0)))
  else if 0x10 ≤ o ∧ o < 0x20 then intWordView s (intPend s) ((o - 0x10) / 4)
  else if 0x20 ≤ o ∧ o < 0x30 then intWordView s (fun n => s.flag (F.INT_SRCs_LIVE n)) ((o - 0x20) / 4)
  else if 0x30 ≤ o ∧ o < 0x40 then intWordView s (fun n => intPend s n && decide (s.get (F.INT_SRCs_DTGT n) < 5)) ((o - 0x30) / 4)
  else v

/-- The filter block's computed words (R203, R205); in OFF, where no set-up is in force, FILL and GLC_NA read 0 (R223). -/
def fltView (s : State) (a : Nat) (v : Word) : Word :=
  let o := a % 0x10000
  let n := (o - 0x200) / 0x20
  if a = A.FLT_POOL_CAP then BitVec.ofNat 32 (poolCap s)
  else if a = A.FLT_POOL_DEM then BitVec.ofNat 32 (poolDemand s)
  else if 0x60 ≤ o ∧ o < 0x80 then BitVec.ofNat 32 (Config.halfBand ((o - 0x60) / 4)).toNat
  else if 0x200 ≤ o ∧ o < 0x600 then
    (if o % 0x20 = 0x08 then viewSet v (F.FLT_CHn_ST_GLC_NA n) (b2n (decide (s.pstate ≠ OFF) && (glanceK s n).isNone))
     else if o % 0x20 = 0x0C then (if s.pstate = OFF then v else BitVec.ofNat 32 (unsettledLen s n % 2 ^ 16 + 2 ^ 16 * (glanceU s n % 16)))
     else if o % 0x20 = 0x10 then BitVec.ofNat 32 (chainDemand s n) else v)
  else v

/-- The Drill's computed words (R267, R273, R287). -/
def drlView (s : State) (a : Nat) (v : Word) : Word :=
  let o := a % 0x10000
  if a = A.DRL_CAP then BitVec.ofNat 32 (drlCap s)
  else if a = A.DRL_DEM then BitVec.ofNat 32 (drlDemand s)
  else if a = A.DRL_SDEM then BitVec.ofNat 32 (drlStopDemand s)
  else if 0x20 ≤ o ∧ o < 0x60 then
    let n := (o - 0x20) / 0x10
    if o % 0x10 = 4 then viewSet v (F.DRL_INn_ST_CAND n) (s.drl.pairs.filter (fun p => p.key % 8 == n && p.cand.isSome)).length
    else if o % 0x10 = 8 then BitVec.ofNat 32 (groupDelay s n % 2 ^ 16) else v
  else v

/-- The queue block's computed words (R492, R496, R517). -/
def queView (s : State) (a : Nat) (v : Word) : Word :=
  let o := a % 0x10000
  if a = A.QUE_ST then viewSet v F.QUE_ST_HQNE (hqneView s)
  else if a = A.QUE_POOL then viewSet v F.QUE_POOL_USED (poolUsed s)
  else if 0x100 ≤ o ∧ o < 0x900 ∧ o % 0x20 = 0x10 then queueAudit s ((o - 0x100) / 0x20)
  else if 0x900 ≤ o ∧ o < 0x920 then handoffAudit s ((o - 0x900) / 4)
  else v

/-- A port's computed words (R608, R640, R651). -/
def hgView (s : State) (x a : Nat) (v : Word) : Word :=
  let o := a % 0x10000
  if o = 0x0C then viewSet v (F.HGx_RTO_OUTST x) (s.hgp x).unacked.length
  else if 0x30 ≤ o ∧ o < 0x40 then creditView s x ((o - 0x30) / 4)
  else if a = A.HGx_SEC x then viewSet v (F.HGx_SEC_MACWIN x) (Nat.min 7 (timesWithin s (s.hgp x).macTimes 1000))
  else if a = A.HGx_QCTL x then
    viewSet v (F.HGx_QCTL_QEV x) (Nat.min 255 (timesWithin s (s.hgp x).qTimes (1000 * s.get (F.HGx_MSGCFG_QF_WIN x))))
  else if x = 0 ∧ 0x518 ≤ o ∧ o < 0x528 then permView s ((o - 0x518) / 4)
  else v

/-- The value a register shows (R86): the stored word, with the fields that the device computes. -/
def regView (s : State) (a : Nat) : Word :=
  let v := s.rd a
  let o := a % 0x10000
  match a / 0x10000 with
  | 0x00 =>
    if a = A.SYS_STAGE then
      (match s.hsp.stage with | some ws => BitVec.ofNat 32 (1 + 2 ^ 16 * ws.length) | none => 0)
    else v
  | 0x01 =>
    if a = A.CLK_PLAN ∧ s.clk.cls = 1 then viewSet v F.CLK_PLAN_M 0
    else if a = A.CLK_STAT then
      viewSet v F.CLK_STAT_SYS_RUN (b2n (s.flag F.CLK_STAT_SYS_RUN && s.clk.await.all (fun p => !s.flag (F.HG0_ROUTEp_VALID p))))
    else v
  | 0x03 =>
    let p := (o - 0x100) / 4
    if 0x100 ≤ o ∧ o < 0x180 then viewSet (viewSet v (F.MIC_STATn_STATE p) (micState s p)) (F.MIC_STATn_NB_NA p) (b2n (neighbourNa s p))
    else if a = A.MIC_FAULT then BitVec.ofNat 32 (faultMask s) else v
  | 0x04 => fltView s a v
  | 0x05 =>
    if a = A.LSN_SADu_OFS 0 then BitVec.ofNat 32 (sadOfs s 0 + 2 ^ 16 * sadSofs s 0)
    else if a = A.LSN_SADu_OFS 1 then BitVec.ofNat 32 (sadOfs s 1 + 2 ^ 16 * sadSofs s 1) else v
  | 0x06 => drlView s a v
  | 0x08 =>
    if a = A.FRW_ADM_CAPC then BitVec.ofNat 32 (95 * s.fC / 100)
    else if 0x100 ≤ o ∧ o < 0x200 ∧ o % 0x40 = 8 then BitVec.ofNat 32 (s.core ((o - 0x100) / 0x40)).pc else v
  | 0x09 => queView s a v
  | 0x0A => intView s o v
  | 0x0C => if a = 0x0C0124 then BitVec.ofNat 32 Config.trimKro.toNat else v
  | 0x0D => hgView s 0 a v
  | 0x0E => hgView s 1 a v
  | 0x0F =>
    if 0x300 ≤ o ∧ o < 0x364 then
      let i := (o - 0x300) / 4
      viewSet v (F.SAF_DIAGi_WCOUNT i) (Nat.min 255 (timesWithin s (nth s.saf.win i []) (diagW i)))
    else v
  | _ => v

/-! ## Windows with a side effect (R92, R269, R495, R530, R574) -/

/-- A window that a read claims from or pops. -/
inductive RcWin where
  | claim (t : Nat) | hq (h : Nat) | evq | adc (x : Nat)
  deriving DecidableEq, Repr

/-- The claim register or pop window that an address lies in, with the window's first address. -/
def rcWin (a : Nat) : Option (RcWin × Nat) :=
  if 0x0A0200 ≤ a ∧ a < 0x0A0214 then some (.claim ((a - 0x0A0200) / 4), a)
  else if 0x091000 ≤ a ∧ a < 0x093000 then some (.hq ((a - 0x091000) / 0x400), a / 0x400 * 0x400)
  else if 0x060100 ≤ a ∧ a < 0x060200 then some (.evq, 0x060100)
  else if 0x0B0E00 ≤ a ∧ a < 0x0B0F00 then some (.adc 0, 0x0B0E00)
  else if 0x0B1600 ≤ a ∧ a < 0x0B1700 then some (.adc 1, 0x0B1600)
  else none

/-- The owner of a claim register (R530): F0 to F3, or the host. -/
def mayClaim (host : Bool) (core t : Nat) : Bool := if host then t == 4 else t == core && decide (core < 4)

/-- The j-th word that a read takes from a window. -/
def rcWord (s : State) (host : Bool) (core : Nat) : RcWin → Nat → Word
  | .claim t, _ => if mayClaim host core t then intClaimWord s t else 0
  | .hq h, j => if queueOn s (56 + h) then BitVec.ofNat 32 (nth (s.queue (56 + h)).occ j 0) else 0
  | .evq, j => nth (nth s.drl.evq (j / 4) []) (j % 4) 0
  | .adc x, j =>
    let e := nth (s.adcx x).q (j / 2) (0, 0)
    BitVec.ofNat 32 (if j % 2 = 0 then e.1 else e.2)

/-- The side effect of a read of `n` words of a window. -/
def rcTake (s : State) (host : Bool) (core : Nat) (n : Nat) : RcWin → State
  | .claim t => if mayClaim host core t then intClaim s t else s
  | .hq h => hqPop s h n
  | .evq =>
    let s := { s with drl := { s.drl with evq := s.drl.evq.drop (n / 4) } }
    s.put F.DRL_EVQ_ST_OCC s.drl.evq.length
  | .adc x => adcQueuePop s x (n / 2)

/-- Has a read of `n` words of a window something to take: a read that finds nothing has no side effect (R13). -/
def rcHas (s : State) (host : Bool) (core : Nat) (n : Nat) : RcWin → Bool
  | .claim t => (mayClaim host core t) && !(intClaimable s t).isEmpty
  | .hq h => queueOn s (56 + h) && !(s.queue (56 + h)).occ.isEmpty
  | .evq => decide (4 ≤ n) && !s.drl.evq.isEmpty
  | .adc x => decide (2 ≤ n) && !(s.adcx x).q.isEmpty

/-! ## Host reads -/

/-- The value of one word of a read that starts at `start`, from the snapshot (R86, R92, R12). -/
def readWord (s : State) (start a : Nat) : Word :=
  match rcWin a with
  | some (w, base) => rcWord s true 4 w ((a - Nat.max start base) / 4)
  | none => deferredView s a (regView s a)

/-- The words of a READ of `n` words. -/
def readWords (s : State) (a n : Nat) : List Word := (upto n).map (fun i => readWord s a (a + 4 * i))

/-- The windows that a READ covers, each with the words it covers. -/
def readWins (a n : Nat) : List (RcWin × Nat) :=
  let ws := (upto n).filterMap (fun i => (rcWin (a + 4 * i)).map (·.1))
  ws.eraseDups.map (fun w => (w, (ws.filter (fun x => x == w)).length))

/-- The replay window takes the words of a side-effecting read that took effect (R93). -/
def replayPut (s : State) (ws : List Word) : State :=
  let s := forEach (upto 1024) (fun s i => s.wr (0x001000 + 4 * i) (nth ws i 0)) s
  (s.put F.SYS_RPLST_WORDS ws.length).put F.SYS_RPLST_EPOCH (s.get F.SYS_EPOCH_EPOCH)

/-- The side effects of a READ, at its end edge (R92, R93). -/
def readEffects (s : State) (a n : Nat) : State :=
  let wins := (readWins a n).filter (fun e => rcHas s true 4 e.2 e.1)
  if wins.isEmpty then s
  else forEach wins (fun s e => rcTake s true 4 e.2 e.1) (replayPut s (readWords s a n))

/-! ## Firmware reads of the device register space (R349, R531, R574) -/

/-- The value that a core's load of a device word returns. DEDUCED: a pop window shows firmware its oldest entry, the word of
it that the address selects. -/
def coreReadWord (s : State) (c a : Nat) : Word :=
  match rcWin a with
  | some (w, _) => rcWord s false c w (match w with | .evq => a % 16 / 4 | .adc _ => a % 8 / 4 | _ => 0)
  | none => deferredView s a (regView s a)

/-- Its side effect: a claim, or a pop on the last word of an entry. -/
def coreReadTake (s : State) (c a : Nat) : State :=
  match rcWin a with
  | some (.evq, _) => if a % 16 = 12 ∧ !s.drl.evq.isEmpty then rcTake s false c 4 .evq else s
  | some (.adc x, _) => if a % 8 = 4 ∧ !(s.adcx x).q.isEmpty then rcTake s false c 2 (.adc x) else s
  | some (w, _) => rcTake s false c 1 w
  | none => s

end Sys2Proof.Machine
end

