-- ==== Sys2Proof/Machine/Commit.lean ====
section
/-! DEFINITION. Commits (R88 to R90, R96, R430, R431, R497, R507): submission, the admission controller's decision, and a
committed write by itself. -/

namespace Sys2Proof.Machine

/-- Does a commit go to admission (R497). -/
def needsCheck (ws : List (Nat × Word)) : Bool := ws.any (fun e => isChecked e.1)

/-- A host commit is under check (R90). -/
def hostChecking (s : State) : Bool := s.hsp.checks.any (fun c => byHost c.origin)

/-- A host's commit is submitted (R88, R89): SEQ counts it; with a checked word it awaits its decision, without one it is
accepted and takes effect at once. -/
def hostCommit (o : Origin) (ws : List (Nat × Word)) (s : State) : State :=
  let s := s.incWrap F.SYS_CMT_SEQ
  if needsCheck ws then
    let s := s.put F.SYS_CMT_RESULT 1
    { s with hsp := { s.hsp with checks := s.hsp.checks ++ [⟨o, ws⟩] } }
  else applyNow o ws (s.put F.SYS_CMT_RESULT 2)

/-- Add a word to a staging set (R96, R430): a later word for the same address replaces an earlier one, W1C bits accumulate. -/
def stageAdd (ws : List (Nat × Word)) (a : Nat) (w : Word) : List (Nat × Word) :=
  match ws.find? (fun e => e.1 == a) with
  | some e =>
    let acc := BitVec.ofNat 32 (match regRow a with | some r => r.w1c | none => 0)
    ws.map (fun x => if x.1 = a then (a, w ||| (e.2 &&& acc)) else x)
  | none => ws ++ [(a, w)]

/-- The firmware commit register of a core, 4 for the sentry core (R507). -/
def fcmtOf : Origin → Option Nat
  | .core c => some c
  | .sentry => some 4
  | _ => none

/-- The outcome of a decision is reported to the commit's origin (R89, R507, R363, R741). -/
def decisionShow (o : Origin) (d : Deny) (s : State) : State :=
  if byHost o then
    match d with
    | none => (s.put F.SYS_CMT_RESULT 2).event 66
    | some e =>
      let s := ((s.put F.SYS_CMT_RESULT 3).mark F.SYS_CMT_STICKY true).put F.SYS_CMT_REASON_REASON e.1
      (s.put F.SYS_CMT_OBJ_OBJ e.2).event 66
  else
    match fcmtOf o with
    | some k =>
      (match d with
       | none => (s.put (F.FRW_FCMTk_RESULT k) 2).event (61 + k)
       | some e => (((s.put (F.FRW_FCMTk_RESULT k) 3).put (F.FRW_FCMTk_REASON_REASON k) e.1).put (F.FRW_FCMTk_OBJ_OBJ k) e.2).event (61 + k))
    | none =>
      (match o, d with
       | .swap, some _ => swapAbort s 2
       | .retire, some e => svcEnd ((s.put F.SVC_REASON_REASON e.1).put F.SVC_OBJ_OBJ e.2) 4
       | _, _ => s)

/-- An accepted commit acts: a host's or a core's words take effect, an update waits for its switch (R363), a move for its
boundary (R741); the admission registers show what is accepted from then on (the worked example of R741). -/
def acceptCommit (c : Commit) (s : State) : State :=
  match c.origin with
  | .swap => admittedAs (candidate s c.words) (s.put F.FRW_SWAP_STATE 2)
  | .retire => admittedAs (candidate s c.words) { s with nvm := { s.nvm with retire := some c.words } }
  | o => admitted (applyNow o c.words s)

/-- ADMISSION_DECISION: the oldest commit submitted is decided as a whole (R88, R90, R498, R499). -/
def execAdmissionDecision (s : State) : Host.Outcome State Fault Refusal :=
  match s.hsp.checks with
  | [] => ok s
  | c :: rest =>
    let d := admitWords s c.words (decide (c.origin = Origin.retire))
    let s := { s with hsp := { s.hsp with checks := rest } }
    let s := match d with
      | none => (acceptCommit c s).bump64 A.FRW_ADM_ACC_LO 1
      | some _ => s.bump64 A.FRW_ADM_REF_LO 1
    ok (remapsWaiting (decisionShow c.origin d s))

/-- Does the register block at an address respond now: every block outside OFF; SYS, CLK and PWR alone in OFF with the
HSP responding (R134). -/
def blockResponds (s : State) (a : Nat) : Bool := s.pstate != OFF || (s.pwr.offResp && decide (a < 0x030000))

/-- REGISTER_WRITE: a committed write of one register word takes effect (R88). A word that admission would refuse is not
committed, and nothing happens. -/
def execRegisterWrite (o : Origin) (a : BitVec 24) (w : Word) (s : State) : Host.Outcome State Fault Refusal :=
  let ws := [(a.toNat / 4 * 4, w)]
  if !blockResponds s a.toNat then ok s
  else if needsCheck ws && (admitWords s ws false).isSome then ok s
  else
    let s := applyNow o ws s
    ok (if needsCheck ws then admitted s else s)

end Sys2Proof.Machine
end

