-- ==== Sys2Proof/Machine/FurrowMem.lean ====
section
/-! DEFINITION. Furrow's L slot and atomics (R423 to R427, R438): the core-local map, loads with store forwarding, buffered
stores, device registers with the firmware staging set, history windows, queue ports. -/

namespace Sys2Proof.Machine

/-! ## The core-local map (R349, R350) -/

/-- A region of a core's map with the offset in it. -/
inductive Region where
  | prog | data (o : Nat) | common (o : Nat) | queue (o : Nat) | dev (a : Nat) | hist (short : Bool) (o : Nat) | none

/-- Where core `c` reaches with the address `a`. -/
def regionAt (s : State) (c a : Nat) : Region :=
  if a < progLimit s c then .prog
  else if DATA_BASE ≤ a ∧ a < DATA_BASE + dataBytes c then .data (a - DATA_BASE)
  else if 0x40000000 ≤ a ∧ a < 0x40400000 then .dev (a - 0x40000000)
  else if 4 ≤ c then .none
  else if COMMON_BASE ≤ a ∧ a < COMMON_BASE + commonBytes then .common (a - COMMON_BASE)
  else if 0x30000000 ≤ a ∧ a < 0x40000000 then .queue (a - 0x30000000)
  else if 0x80000000 ≤ a ∧ a < 0x82000000 then .hist false (a - 0x80000000)
  else if 0x84000000 ≤ a ∧ a < 0x84040000 then .hist true (a - 0x84000000)
  else .none

/-- The bus-error of an address outside the map (R454). -/
def offMap (c a : Nat) : Nat × Nat := (X_BUS, if c < 4 ∧ 0x80000000 ≤ a then 8 else 1)

/-- Bytes of a core's program region (R349, R350). -/
def progRead (s : State) (c a n : Nat) : List Nat :=
  if c = SCARE then
    (upto n).map (fun i => if a + i < 32768 then (Config.scareRom (a + i)).toNat else memGet (s.prog SCARE) (a + i - 32768))
  else memRead (s.prog c) (progOffset s c + a) n

/-! ## What an access does -/

/-- The outcome of an access in the L slot: a cause with its INFO (and the state that a counted refusal leaves), a wait in D,
a store or pop done with the bytes read, through the return port or not. -/
inductive Access where
  | fault (s : State) (code info : Nat)
  | wait
  | done (s : State) (bytes : List Nat) (long : Bool)

/-- Do two byte ranges meet. -/
def meets (a n b m : Nat) : Bool := decide (a < b + m) && decide (b < a + n)

/-- A load reads data TCM or the Common at offset `o`, with its ECC check (R351). -/
def readBuffered (s : State) (c o n : Nat) (common : Bool) : Access :=
  if badIn (if common then s.frw.badCommon else nth s.frw.badData c []) o n then .fault s X_DATA_ECC 0
  else .done (softMeet s c (if common then 2 else 1) o n) (memRead (if common then s.frw.common else s.data c) o n) common

/-- A load from data TCM or the Common (R468): forwarded from the youngest overlapping store where that covers it; else, past
the drain of every overlapping store, from memory, with its ECC check. -/
def bufferedLoad (s : State) (c a n : Nat) (common : Bool) : Access :=
  let o := if common then a - COMMON_BASE else a - DATA_BASE
  let buf := (s.core c).buf
  let hits := buf.filter (fun e => meets a n e.1 e.2.length)
  match hits.getLast? with
  | some e =>
    if e.1 ≤ a ∧ a + n ≤ e.1 + e.2.length then .done s ((e.2.drop (a - e.1)).take n) common
    else
      let k := buf.length - (buf.reverse.takeWhile (fun e => !meets a n e.1 e.2.length)).length
      readBuffered (drainN s c k) c o n common
  | none => readBuffered s c o n common

/-- A pop of `k` entries of queue `n` by core `c` (R427, R485). -/
def popAccess (s : State) (c n k : Nat) : Access :=
  if !queueOn s n || s.get (F.QUE_Qn_CONS_CORE n) != c then .fault s X_BUS 4
  else if (s.queue n).occ.length < k then .wait
  else .done (queuePop s n k) (((s.queue n).occ.take k).flatMap (bytesOfLe 4)) true

/-- A push of entries to queue `n` by core `c`. -/
def pushAccess (s : State) (c n : Nat) (es : List Nat) : Access :=
  if !queueOn s n || s.get (F.QUE_Qn_PROD_CORE n) != c then .fault s X_BUS 4
  else if (s.queue n).cred < es.length then .wait
  else .done (queuePush s n es) [] false

/-- The queue of a port offset: pop ports at 0x10 n, push ports at 0x400 + 0x10 n (R485). -/
def portOf (o : Nat) (push : Bool) : Option Nat :=
  let b := if push then 0x400 else 0
  if b ≤ o ∧ o < b + 0x400 ∧ o % 16 = 0 then some ((o - b) / 16) else none

/-- A load of `n` bytes at `a` (R425). -/
def memLoad (s : State) (c a n : Nat) : Access :=
  if a % n ≠ 0 then .fault s X_ALIGN 0
  else
    match regionAt s c a with
    | .prog => if progBad s c a n then .fault s X_DATA_ECC 0 else .done (progMeet s c a n) (progRead s c a n) false
    | .data _ => bufferedLoad s c a n false
    | .common _ => bufferedLoad s c a n true
    | .queue o =>
      if n ≠ 4 ∧ n ≠ 16 then .fault s X_ALIGN 0
      else match portOf o false with | some q => popAccess s c q (n / 4) | none => .fault s X_BUS 1
    | .dev r =>
      if n ≠ 4 then .fault s X_ALIGN 0
      else .done (coreReadTake s c r) (bytesOfLe 4 (coreReadWord s c r).toNat) true
    | .hist short o =>
      if rangeReadable s short o n then
        .done (eccCheck (mittenTouch s) short o n) (memRead (if short then s.swa.short else s.swa.mem) o n) true
      else .fault (mittenDeny s) X_MITTEN 0
    | .none => .fault s (offMap c a).1 (offMap c a).2

/-- A store enters the store buffer; a full one drains its oldest entry first (R343). -/
def bufferStore (s : State) (c a : Nat) (bs : List Nat) : State :=
  let s := if 4 ≤ (s.core c).buf.length then drainN s c 1 else s
  s.setCore c { s.core c with buf := (s.core c).buf ++ [(a, bs)] }

/-- The origin of a core's writes. -/
def coreOrigin (c : Nat) : Origin := if c < 4 then .core c else if c = SENT then .sentry else .scarecrow

/-- Words that a core's staging set holds (R430). -/
def stageLimit (c : Nat) : Nat := if c < 4 then 256 else 64

/-- A store to a device register word (R344, R350, R430, R683): a checked word is staged, any other acts at once. -/
def devStore (s : State) (c a : Nat) (w : Word) : Access :=
  if c = SCARE then
    (if a / 0x10000 = 0x0F then .done (applyNow .scarecrow [(a, w)] s) [] false else .fault s X_BUS 1)
  else if c = SENT ∧ s.pstate = SENTRY ∧ (regRow a).isSome ∧ immediateMask s a ≠ allOnes then .fault s X_BUS 3
  else if isChecked a then
    let l := nth s.hsp.fw c []
    let l' := stageAdd l a w
    if stageLimit c < l'.length then .fault s X_BUS 5
    else .done (({ s with hsp := { s.hsp with fw := setNth s.hsp.fw c l' } }).put (F.FRW_FCMTk_STAGED c) l'.length) [] false
  else .done (applyNow (coreOrigin c) [(a, w)] s) [] false

/-- A store of bytes at `a` (R425). -/
def memStore (s : State) (c a : Nat) (bs : List Nat) : Access :=
  let n := bs.length
  if a % n ≠ 0 then .fault s X_ALIGN 0
  else
    match regionAt s c a with
    | .prog => .fault s X_BUS 2
    | .data _ => .done (bufferStore s c a bs) [] false
    | .common _ => .done (bufferStore s c a bs) [] false
    | .queue o =>
      if n ≠ 4 ∧ n ≠ 16 then .fault s X_ALIGN 0
      else match portOf o true with
        | some q => pushAccess s c q ((upto (n / 4)).map (fun i => leOfBytes ((bs.drop (4 * i)).take 4)))
        | none => .fault s X_BUS 1
    | .dev r => if n ≠ 4 then .fault s X_ALIGN 0 else devStore s c r (BitVec.ofNat 32 (leOfBytes bs))
    | .hist _ _ => .fault (mittenDeny s) X_MITTEN 0
    | .none => .fault s (offMap c a).1 (offMap c a).2

/-! ## The L slot -/

/-- A load's result reaches its register at once or through the return port, where a fifth waits for the oldest (R342). -/
def loadGive (s : State) (c name : Nat) (v : BitVec 128) (long : Bool) : State :=
  if long then
    let k := s.core c
    let k := if 4 ≤ k.ret.length then returnFor k ((k.ret.take 1).map (·.1)) else k
    s.setCore c { k with ret := k.ret ++ [(name, v)] }
  else regsPut s c (fun r => r.give (name, v))

/-- The bundle waits in D: it has not issued, and issues afresh (R427). -/
def bundleWait (s : State) (c : Nat) : State :=
  let k := s.core c
  match k.bun with
  | some b => s.setCore c { k with regs := b.before, bun := none }
  | none => s

/-- An L-slot instruction: `f` makes the access, with the registers before the bundle; `g` writes its results. -/
def issueL (s : State) (c : Nat) (e ok : Bool) (uses writes : List Nat) (f : State → CoreRegs → Nat × Access)
    (g : State → CoreRegs → List Nat → Bool → State) : State :=
  wordIn s c e ⟨2, ok, uses, writes, none, false, fun _ r => r⟩ (fun t b =>
    let t := t.setCore c { t.core c with bun := some b }
    if endsBundle c e then
      match bundleCause (t.core c) b with
      | some x => exception t c x
      | none =>
        match f t b.before with
        | (a, .fault u code info) => exception u c ⟨code, info, a, false, 2, none⟩
        | (_, .wait) => bundleWait s c
        | (_, .done u bs long) => bundleDone (g u b.before bs long) c false
    else t)

/-- Loads by size code: b, bu, h, hu, w, vl, v (R423). -/
def loadBytes (z : Nat) : Nat := nth [1, 1, 2, 2, 4, 8, 16] z 1
/-- Stores by size code: b, h, w, vl, v. -/
def storeBytes (z : Nat) : Nat := nth [1, 2, 4, 8, 16] z 1

/-- The value of a load (R424). -/
def loadValue (z : Nat) (bs : List Nat) : BitVec 128 :=
  let v := leOfBytes bs
  if z = 0 then BitVec.ofNat 128 (ofSigned 32 (toSigned 8 v)) else if z = 2 then BitVec.ofNat 128 (ofSigned 32 (toSigned 16 v)) else BitVec.ofNat 128 v

/-- The bytes of a store (R424). -/
def storeValue (z : Nat) (r : CoreRegs) (rd : BitVec 5) : List Nat :=
  bytesOfLe (storeBytes z) (if 3 ≤ z then (r.qv rd).toNat else (r.sv rd).toNat)

/-- A vector size is Furrow-F's alone, and names q0 to q15 (R418). -/
def vecOk (c : Nat) (vec : Bool) (rd : BitVec 5) : Bool := !vec || (decide (c < 4) && decide (rd.toNat < 16))

def dataReg (vec : Bool) (rd : BitVec 5) : Nat := if vec then regQ rd.toNat else regS rd.toNat

/-- The address `base + offset × size`, modulo 2^32. -/
def atOffset (base : Word) (off : Word) (size : Nat) : Word := base + off * BitVec.ofNat 32 size

/-- A load with immediate offset. -/
def loadImm (s : State) (i : IForm) (z : Nat) : State :=
  let vec := decide (5 ≤ z)
  issueL s i.c i.e (vecOk i.c vec i.rd) [regS i.rs1.toNat] [dataReg vec i.rd]
    (fun s b => let a := (atOffset (b.sv i.rs1) (i.imm.signExtend 32) (loadBytes z)).toNat; (a, memLoad s i.c a (loadBytes z)))
    (fun s _ bs long => loadGive s i.c (dataReg vec i.rd) (loadValue z bs) long)

/-- A store with immediate offset. -/
def storeImm (s : State) (i : IForm) (z : Nat) : State :=
  let vec := decide (3 ≤ z)
  issueL s i.c i.e (vecOk i.c vec i.rd) [regS i.rs1.toNat, dataReg vec i.rd] []
    (fun s b => let a := (atOffset (b.sv i.rs1) (i.imm.signExtend 32) (storeBytes z)).toNat; (a, memStore s i.c a (storeValue z b i.rd)))
    (fun s _ _ _ => s)

/-- LDB (R424). -/
def execLdb (i : IForm) (s : State) : Host.Outcome State Fault Refusal := ok (loadImm s i 0)

/-- LDBU (R424). -/
def execLdbu (i : IForm) (s : State) : Host.Outcome State Fault Refusal := ok (loadImm s i 1)

/-- LDH (R424). -/
def execLdh (i : IForm) (s : State) : Host.Outcome State Fault Refusal := ok (loadImm s i 2)

/-- LDHU (R424). -/
def execLdhu (i : IForm) (s : State) : Host.Outcome State Fault Refusal := ok (loadImm s i 3)

/-- LDW (R424). -/
def execLdw (i : IForm) (s : State) : Host.Outcome State Fault Refusal := ok (loadImm s i 4)

/-- LDVL (R424). -/
def execLdvl (i : IForm) (s : State) : Host.Outcome State Fault Refusal := ok (loadImm s i 5)

/-- LDV (R424). -/
def execLdv (i : IForm) (s : State) : Host.Outcome State Fault Refusal := ok (loadImm s i 6)

/-- STB (R424). -/
def execStb (i : IForm) (s : State) : Host.Outcome State Fault Refusal := ok (storeImm s i 0)

/-- STH (R424). -/
def execSth (i : IForm) (s : State) : Host.Outcome State Fault Refusal := ok (storeImm s i 1)

/-- STW (R424). -/
def execStw (i : IForm) (s : State) : Host.Outcome State Fault Refusal := ok (storeImm s i 2)

/-- STVL (R424). -/
def execStvl (i : IForm) (s : State) : Host.Outcome State Fault Refusal := ok (storeImm s i 3)

/-- STV (R424). -/
def execStv (i : IForm) (s : State) : Host.Outcome State Fault Refusal := ok (storeImm s i 4)

/-- The base update of a .p form (R423). -/
def baseUpdate (s : State) (i : IForm) (b : CoreRegs) (size : Nat) : State :=
  regsPut s i.c (fun r => r.setS i.rs1 (atOffset (b.sv i.rs1) (i.imm.signExtend 32) size))

/-- LD_P (R423): size code `z` in the order of the loads. RD = RS1 writes one register twice. -/
def execLdP (z : Fin 7) (i : IForm) (s : State) : Host.Outcome State Fault Refusal :=
  let vec := decide (5 ≤ z.val)
  ok (issueL s i.c i.e (vecOk i.c vec i.rd && (vec || decide (i.rd ≠ i.rs1))) [regS i.rs1.toNat] [dataReg vec i.rd, regS i.rs1.toNat]
    (fun s b => let a := (b.sv i.rs1).toNat; (a, memLoad s i.c a (loadBytes z)))
    (fun s b bs long => baseUpdate (loadGive s i.c (dataReg vec i.rd) (loadValue z bs) long) i b (loadBytes z)))

/-- ST_P (R423): size code `z` in the order of the stores. -/
def execStP (z : Fin 5) (i : IForm) (s : State) : Host.Outcome State Fault Refusal :=
  let vec := decide (3 ≤ z.val)
  ok (issueL s i.c i.e (vecOk i.c vec i.rd) [regS i.rs1.toNat, dataReg vec i.rd] [regS i.rs1.toNat]
    (fun s b => let a := (b.sv i.rs1).toNat; (a, memStore s i.c a (storeValue z b i.rd)))
    (fun s b _ _ => baseUpdate s i b (storeBytes z)))

/-- LD_X (R423): FUNC 0 to 6 select the size, any other is undefined. -/
def execLdX (func : BitVec 8) (i : RForm) (s : State) : Host.Outcome State Fault Refusal :=
  let z := func.toNat
  let vec := decide (5 ≤ z)
  ok (issueL s i.c i.e (decide (z ≤ 6) && vecOk i.c vec i.rd) [regS i.rs1.toNat, regS i.rs2.toNat] [dataReg vec i.rd]
    (fun s b => let a := (atOffset (b.sv i.rs1) (b.sv i.rs2) (loadBytes z)).toNat; (a, memLoad s i.c a (loadBytes z)))
    (fun s _ bs long => loadGive s i.c (dataReg vec i.rd) (loadValue z bs) long))

/-- The store size that FUNC of ST_X selects: 0, 2, 4, 5, 6. -/
def storeFunc (f : Nat) : Option Nat := if f = 0 then some 0 else if f = 2 then some 1 else if f = 4 then some 2 else if f = 5 then some 3 else if f = 6 then some 4 else none

/-- ST_X (R423). -/
def execStX (func : BitVec 8) (i : RForm) (s : State) : Host.Outcome State Fault Refusal :=
  let z := (storeFunc func.toNat).getD 0
  let vec := decide (3 ≤ z)
  ok (issueL s i.c i.e ((storeFunc func.toNat).isSome && vecOk i.c vec i.rd) [regS i.rs1.toNat, regS i.rs2.toNat, dataReg vec i.rd] []
    (fun s b => let a := (atOffset (b.sv i.rs1) (b.sv i.rs2) (storeBytes z)).toNat; (a, memStore s i.c a (storeValue z b i.rd)))
    (fun s _ _ _ => s))

/-! ## Queue instructions (R423, R427) -/

/-- RS1 must be 0, the queue instructions are Furrow-F's, and a vector names q0 to q15. -/
def queOk (i : IForm) (vec : Bool) : Bool := decide (i.c.val < 4) && decide (i.rs1 = 0) && (!vec || decide (i.rd.toNat < 16))

/-- A pop of `k` entries. The address that EADDR would take is the port's. -/
def popInstr (s : State) (i : IForm) (k : Nat) : State :=
  let vec := decide (k = 4)
  issueL s i.c i.e (queOk i vec) [] [dataReg vec i.rd]
    (fun s _ => (0x30000000 + 16 * i.imm.toNat, popAccess s i.c i.imm.toNat k))
    (fun s _ bs long => loadGive s i.c (dataReg vec i.rd) (BitVec.ofNat 128 (leOfBytes bs)) long)

/-- A push of the register's entries. -/
def pushInstr (s : State) (i : IForm) (vec : Bool) : State :=
  issueL s i.c i.e (queOk i vec) [dataReg vec i.rd] []
    (fun s b => (0x30000400 + 16 * i.imm.toNat, pushAccess s i.c i.imm.toNat
      (if vec then (upto 4).map (fun k => (b.qv i.rd).toNat / 2 ^ (32 * k) % 2 ^ 32) else [(b.sv i.rd).toNat])))
    (fun s _ _ _ => s)

/-- QPOP. -/
def execQpop (i : IForm) (s : State) : Host.Outcome State Fault Refusal := ok (popInstr s i 1)

/-- QPOPV. -/
def execQpopv (i : IForm) (s : State) : Host.Outcome State Fault Refusal := ok (popInstr s i 4)

/-- QPUSH. -/
def execQpush (i : IForm) (s : State) : Host.Outcome State Fault Refusal := ok (pushInstr s i false)

/-- QPUSHV. -/
def execQpushv (i : IForm) (s : State) : Host.Outcome State Fault Refusal := ok (pushInstr s i true)

/-- QOCC: the entries present; it pops nothing and never waits. -/
def execQocc (i : IForm) (s : State) : Host.Outcome State Fault Refusal :=
  let n := i.imm.toNat
  ok (issueL s i.c i.e (queOk i false) [] [regS i.rd.toNat]
    (fun s _ => (0x30000000 + 16 * n, if queueOn s n then .done s (bytesOfLe 4 (s.queue n).occ.length) true else .fault s X_BUS 4))
    (fun s _ bs long => loadGive s i.c (regS i.rd.toNat) (BitVec.ofNat 128 (leOfBytes bs)) long))

/-! ## Atomics (R438) -/

/-- An atomic on one word of the Common: the buffer drains, the word is read, replaced by `f old rd`, and its old value goes
to RD. -/
def amo (s : State) (i : RForm) (f : Word → Word → Word → Word) : State :=
  let c := i.c.val
  issueX s c i.e (decide (c < 4)) [regS i.rd.toNat] (fun s =>
    let s := drainAll s c
    let b := (bundleOf (s.core c)).before
    let a := (b.sv i.rs1).toNat
    let o := a - COMMON_BASE
    let stop := fun (code info : Nat) => exception s c ⟨code, info, a, false, 3, none⟩
    if a % 4 ≠ 0 then stop X_ALIGN 0
    else if a < COMMON_BASE ∨ COMMON_BASE + commonBytes ≤ a then stop X_BUS 7
    else if badIn s.frw.badCommon o 4 then stop X_DATA_ECC 0
    else
      let s := softMeet s c 2 o 4
      let old := memWord s.frw.common o
      let s := commonWrite s o (bytesOfLe 4 (f old (b.sv i.rs2) (b.sv i.rd)).toNat)
      bundleDone (regsPut s c (fun r => r.setS i.rd old)) c false)

/-- AMO_SWAP. -/
def execAmoSwap (i : RForm) (s : State) : Host.Outcome State Fault Refusal := ok (amo s i (fun _ b _ => b))

/-- AMO_ADD. -/
def execAmoAdd (i : RForm) (s : State) : Host.Outcome State Fault Refusal := ok (amo s i (fun old b _ => old + b))

/-- AMO_AND. -/
def execAmoAnd (i : RForm) (s : State) : Host.Outcome State Fault Refusal := ok (amo s i (fun old b _ => old &&& b))

/-- AMO_OR. -/
def execAmoOr (i : RForm) (s : State) : Host.Outcome State Fault Refusal := ok (amo s i (fun old b _ => old ||| b))

/-- AMO_MAXU. -/
def execAmoMaxu (i : RForm) (s : State) : Host.Outcome State Fault Refusal :=
  ok (amo s i (fun old b _ => if old.toNat < b.toNat then b else old))

/-- AMO_MINU. -/
def execAmoMinu (i : RForm) (s : State) : Host.Outcome State Fault Refusal :=
  ok (amo s i (fun old b _ => if b.toNat < old.toNat then b else old))

/-- AMO_CAS: RS2 goes in where the word equals RD before the instruction. -/
def execAmoCas (i : RForm) (s : State) : Host.Outcome State Fault Refusal :=
  ok (amo s i (fun old b d => if old = d then b else old))

end Sys2Proof.Machine
end

