-- ==== Sys2Proof/Machine/FurrowScalar.lean ====
section
/-! DEFINITION. Furrow's A slot and mode instructions (ch. 11): register and immediate ALU, compares and predicates,
branches, loops, the Furrow-S multiply-accumulate group, setm, mtcr and mfcr. -/

namespace Sys2Proof.Machine

/-! ## Builders -/

/-- An A-slot instruction with a scalar result; the flag says that it clamped. -/
def aluAct (ok : Bool) (uses : List (BitVec 5)) (rd : BitVec 5) (f : CoreRegs → Word × Bool) : Act :=
  ⟨0, ok, uses.map (fun n => regS n.toNat), [regS rd.toNat], none, false, fun b r => (r.setS rd (f b).1).flags (f b).2 false⟩

/-- Two register sources (R378). -/
def alu (s : State) (i : RForm) (f : Word → Word → Word) : State :=
  issue s i.c i.e (aluAct true [i.rs1, i.rs2] i.rd (fun b => (f (b.sv i.rs1) (b.sv i.rs2), false)))

/-- One register source; RS2 must be 0 (R378). -/
def alu1 (s : State) (i : RForm) (f : Word → Word) : State :=
  issue s i.c i.e (aluAct (decide (i.rs2 = 0)) [i.rs1] i.rd (fun b => (f (b.sv i.rs1), false)))

/-- A saturating result (R379). -/
def aluSat (s : State) (i : RForm) (ok : Bool) (f : Int → Int → Int) : State :=
  issue s i.c i.e (aluAct ok [i.rs1, i.rs2] i.rd (fun b =>
    let v := f (b.sv i.rs1).toInt (b.sv i.rs2).toInt
    (BitVec.ofInt 32 (satS 32 v), !fitsS 32 v)))

/-- sext13 and zext13 (R373). -/
def sext13 (x : BitVec 13) : Word := x.signExtend 32
def zext13 (x : BitVec 13) : Word := x.zeroExtend 32

/-- A register and an immediate (R380). -/
def aluImm (s : State) (i : IForm) (ok : Bool) (f : Word → Word) : State :=
  issue s i.c i.e (aluAct ok [i.rs1] i.rd (fun b => (f (b.sv i.rs1), false)))

/-- 1 where a condition holds. -/
def word01 (b : Bool) : Word := if b then 1 else 0

/-- Leading zero bits, trailing zero bits, one bits. -/
def clzW (x : Word) : Word := BitVec.ofNat 32 (((upto 32).find? (fun i => bit x.toNat (31 - i))).getD 32)
def ctzW (x : Word) : Word := BitVec.ofNat 32 (((upto 32).find? (fun i => bit x.toNat i)).getD 32)
def popW (x : Word) : Word := BitVec.ofNat 32 (popcount 32 x.toNat)

/-- Bytes 0, 1, 2, 3 become 3, 2, 1, 0. -/
def rev8W (x : Word) : Word := BitVec.ofNat 32 (beOfBytes (bytesOfLe 4 x.toNat))

/-- An instruction that writes a predicate, from 0 to 7 (R382). -/
def predAct (ok : Bool) (uses : List Nat) (pd : BitVec 5) (f : CoreRegs → Bool) : Act :=
  ⟨0, ok && decide (pd.toNat < 8), uses, [regP pd.toNat], none, false, fun b r => r.setP pd (f b)⟩

/-- A compare of two registers into a predicate. -/
def cmpR (s : State) (i : RForm) (f : Word → Word → Bool) : State :=
  issue s i.c i.e (predAct true [regS i.rs1.toNat, regS i.rs2.toNat] i.rd (fun b => f (b.sv i.rs1) (b.sv i.rs2)))

/-- A compare with an immediate into a predicate. -/
def cmpI (s : State) (i : IForm) (f : Word → Bool) : State :=
  issue s i.c i.e (predAct true [regS i.rs1.toNat] i.rd (fun b => f (b.sv i.rs1)))

/-- Predicate logic (R383): the three numbers are 0 to 7. -/
def predOp (s : State) (i : RForm) (f : Bool → Bool → Bool) : State :=
  issue s i.c i.e (predAct (decide (i.rs1.toNat < 8) && decide (i.rs2.toNat < 8)) [] i.rd
    (fun b => f (b.pv i.rs1.toNat) (b.pv i.rs2.toNat)))

/-! ## Transfers (R386, R389, R391) -/

/-- Address of the instruction's bundle: the A slot is its first word (R373). -/
def pcOf (s : State) (c : Nat) : Nat := (s.core c).pc

/-- A branch target: pc + 4 × a signed word offset. -/
def branchTo (pc : Nat) (off : Int) : Nat := (((pc : Int) + 4 * off) % (2 ^ 32 : Nat)).toNat

/-- A conditional branch on a register; RD must be 0. -/
def branchIf (s : State) (i : IForm) (f : Word → Bool) : State :=
  let k := s.core i.c
  let b := (returnFor k [regS i.rs1.toNat]).regs
  let before := ((k.bun.map (·.before)).getD b)
  issue s i.c i.e ⟨0, decide (i.rd = 0), [regS i.rs1.toNat], [], some (f (before.sv i.rs1), branchTo k.pc i.imm.toInt), true, fun _ r => r⟩

/-- A branch on predicate RS1, 0 to 7; RD must be 0. -/
def branchPred (s : State) (i : IForm) (v : Bool) : State :=
  let k := s.core i.c
  let before := (bundleOf k).before
  issue s i.c i.e ⟨0, decide (i.rd = 0) && decide (i.rs1.toNat < 8), [], [], some (before.pv i.rs1.toNat == v, branchTo k.pc i.imm.toInt), true, fun _ r => r⟩

/-- The return address (R391): after the bundle of `words` words in all and its delay slot of `slot` + 1 words. The length of
the bundle that holds the transfer is known when the bundle ends. -/
def linkOf (pc words slot : Nat) : Word := BitVec.ofNat 32 (pc + 4 * words + 4 * (slot + 1))

/-! ## Loop registers (R394, R398) -/

/-- The loop register that FUNC names (R398): lc0, lb0, le0, lc1, lb1, le1. -/
def loopReg (r : CoreRegs) (f : Nat) : Word :=
  if f % 3 = 0 then nth r.lc (f / 3) 0 else if f % 3 = 1 then nth r.lb (f / 3) 0 else nth r.le (f / 3) 0

/-- Write a loop register; bits 1:0 of lb and le are ignored. -/
def loopRegPut (r : CoreRegs) (f : Nat) (v : Word) : CoreRegs :=
  let a := v &&& 0xFFFFFFFC
  if f % 3 = 0 then { r with lc := setNth r.lc (f / 3) v } else if f % 3 = 1 then { r with lb := setNth r.lb (f / 3) a }
  else { r with le := setNth r.le (f / 3) a }

/-! ## Furrow-S accumulator (R400 to R403) -/

/-- The half of a register: bits 15:0 or 31:16, signed. -/
def halfOf (x : Word) (high : Bool) : Int := toSigned 16 (bits x.toNat (if high then 16 else 0) 16)

/-- ac0 lane 0. -/
def ac0 (r : CoreRegs) : Int := nth (nth r.ac 0 []) 0 0

/-- Set ac0 lane 0. -/
def ac0Put (r : CoreRegs) (v : Int) : CoreRegs := { r with ac := setNth r.ac 0 [v, 0, 0, 0] }

/-- Accumulate a product into ac0 with a sign. -/
def smacStep (s : State) (i : RForm) (x y : Bool) (neg : Bool) : State :=
  issue s i.c i.e ⟨0, decide (4 ≤ i.c.val) && decide (i.rd = 0), [regS i.rs1.toNat, regS i.rs2.toNat], [regAc 0], none, false, fun b r =>
    let p := halfOf (b.sv i.rs1) x * halfOf (b.sv i.rs2) y
    let v := accF b.fmNow (if neg then ac0 b - p else ac0 b + p)
    (ac0Put r v.1).flags false v.2⟩

/-! ## The instructions -/

/-- ADD (R378). -/
def execAdd (i : RForm) (s : State) : Host.Outcome State Fault Refusal := ok (alu s i (fun a b => a + b))

/-- SUB (R378). -/
def execSub (i : RForm) (s : State) : Host.Outcome State Fault Refusal := ok (alu s i (fun a b => a - b))

/-- AND (R378). -/
def execAnd (i : RForm) (s : State) : Host.Outcome State Fault Refusal := ok (alu s i (fun a b => a &&& b))

/-- OR (R378). -/
def execOr (i : RForm) (s : State) : Host.Outcome State Fault Refusal := ok (alu s i (fun a b => a ||| b))

/-- XOR (R378). -/
def execXor (i : RForm) (s : State) : Host.Outcome State Fault Refusal := ok (alu s i (fun a b => a ^^^ b))

/-- ANDN (R378). -/
def execAndn (i : RForm) (s : State) : Host.Outcome State Fault Refusal := ok (alu s i (fun a b => a &&& ~~~b))

/-- ORN (R378). -/
def execOrn (i : RForm) (s : State) : Host.Outcome State Fault Refusal := ok (alu s i (fun a b => a ||| ~~~b))

/-- SLL (R378). -/
def execSll (i : RForm) (s : State) : Host.Outcome State Fault Refusal := ok (alu s i (fun a b => a <<< (b.toNat % 32)))

/-- SRL (R378). -/
def execSrl (i : RForm) (s : State) : Host.Outcome State Fault Refusal := ok (alu s i (fun a b => a >>> (b.toNat % 32)))

/-- SRA (R378). -/
def execSra (i : RForm) (s : State) : Host.Outcome State Fault Refusal := ok (alu s i (fun a b => a.sshiftRight (b.toNat % 32)))

/-- ROR (R378). -/
def execRor (i : RForm) (s : State) : Host.Outcome State Fault Refusal := ok (alu s i (fun a b => a.rotateRight (b.toNat % 32)))

/-- SLT (R378). -/
def execSlt (i : RForm) (s : State) : Host.Outcome State Fault Refusal := ok (alu s i (fun a b => word01 (a.slt b)))

/-- SLTU (R378). -/
def execSltu (i : RForm) (s : State) : Host.Outcome State Fault Refusal := ok (alu s i (fun a b => word01 (a.ult b)))

/-- MIN (R378). -/
def execMin (i : RForm) (s : State) : Host.Outcome State Fault Refusal := ok (alu s i (fun a b => if a.slt b then a else b))

/-- MAX (R378). -/
def execMax (i : RForm) (s : State) : Host.Outcome State Fault Refusal := ok (alu s i (fun a b => if a.slt b then b else a))

/-- MINU (R378). -/
def execMinu (i : RForm) (s : State) : Host.Outcome State Fault Refusal := ok (alu s i (fun a b => if a.ult b then a else b))

/-- MAXU (R378). -/
def execMaxu (i : RForm) (s : State) : Host.Outcome State Fault Refusal := ok (alu s i (fun a b => if a.ult b then b else a))

/-- ADDS (R378, R379). -/
def execAdds (i : RForm) (s : State) : Host.Outcome State Fault Refusal := ok (aluSat s i true (fun a b => a + b))

/-- SUBS (R378, R379). -/
def execSubs (i : RForm) (s : State) : Host.Outcome State Fault Refusal := ok (aluSat s i true (fun a b => a - b))

/-- ABS (R378, R379: RS2 must be 0). -/
def execAbs (i : RForm) (s : State) : Host.Outcome State Fault Refusal := ok (aluSat s i (decide (i.rs2 = 0)) (fun a _ => a.natAbs))

/-- CLZ (R378). -/
def execClz (i : RForm) (s : State) : Host.Outcome State Fault Refusal := ok (alu1 s i clzW)

/-- CTZ (R378). -/
def execCtz (i : RForm) (s : State) : Host.Outcome State Fault Refusal := ok (alu1 s i ctzW)

/-- POPC (R378). -/
def execPopc (i : RForm) (s : State) : Host.Outcome State Fault Refusal := ok (alu1 s i popW)

/-- SEXTB (R378). -/
def execSextb (i : RForm) (s : State) : Host.Outcome State Fault Refusal := ok (alu1 s i (fun a => (a.truncate 8).signExtend 32))

/-- SEXTH (R378). -/
def execSexth (i : RForm) (s : State) : Host.Outcome State Fault Refusal := ok (alu1 s i (fun a => (a.truncate 16).signExtend 32))

/-- ZEXTH (R378). -/
def execZexth (i : RForm) (s : State) : Host.Outcome State Fault Refusal := ok (alu1 s i (fun a => (a.truncate 16).zeroExtend 32))

/-- REV8 (R378). -/
def execRev8 (i : RForm) (s : State) : Host.Outcome State Fault Refusal := ok (alu1 s i rev8W)

/-- ADDI (R380). -/
def execAddi (i : IForm) (s : State) : Host.Outcome State Fault Refusal := ok (aluImm s i true (fun a => a + sext13 i.imm))

/-- ANDI (R380). -/
def execAndi (i : IForm) (s : State) : Host.Outcome State Fault Refusal := ok (aluImm s i true (fun a => a &&& zext13 i.imm))

/-- ORI (R380). -/
def execOri (i : IForm) (s : State) : Host.Outcome State Fault Refusal := ok (aluImm s i true (fun a => a ||| zext13 i.imm))

/-- XORI (R380). -/
def execXori (i : IForm) (s : State) : Host.Outcome State Fault Refusal := ok (aluImm s i true (fun a => a ^^^ zext13 i.imm))

/-- SHORI (R380). -/
def execShori (i : IForm) (s : State) : Host.Outcome State Fault Refusal := ok (aluImm s i true (fun a => (a <<< 13) ||| zext13 i.imm))

/-- SLLI (R380: bits 12:7 of IMM13 must be 0; bits 6:5 are the selector). -/
def execSlli (i : IForm) (s : State) : Host.Outcome State Fault Refusal := ok (aluImm s i (decide (i.imm.toNat < 128)) (fun a => a <<< (i.imm.toNat % 32)))

/-- SRLI (R380: bits 12:7 of IMM13 must be 0; bits 6:5 are the selector). -/
def execSrli (i : IForm) (s : State) : Host.Outcome State Fault Refusal := ok (aluImm s i (decide (i.imm.toNat < 128)) (fun a => a >>> (i.imm.toNat % 32)))

/-- SRAI (R380: bits 12:7 of IMM13 must be 0; bits 6:5 are the selector). -/
def execSrai (i : IForm) (s : State) : Host.Outcome State Fault Refusal := ok (aluImm s i (decide (i.imm.toNat < 128)) (fun a => a.sshiftRight (i.imm.toNat % 32)))

/-- RORI (R380: bits 12:7 of IMM13 must be 0; bits 6:5 are the selector). -/
def execRori (i : IForm) (s : State) : Host.Outcome State Fault Refusal := ok (aluImm s i (decide (i.imm.toNat < 128)) (fun a => a.rotateRight (i.imm.toNat % 32)))

/-- SLTI (R380). -/
def execSlti (i : IForm) (s : State) : Host.Outcome State Fault Refusal := ok (aluImm s i true (fun a => word01 (a.slt (sext13 i.imm))))

/-- SLTIU (R380). -/
def execSltiu (i : IForm) (s : State) : Host.Outcome State Fault Refusal := ok (aluImm s i true (fun a => word01 (a.ult (zext13 i.imm))))

/-- CMP_EQ (R382). -/
def execCmpEq (i : RForm) (s : State) : Host.Outcome State Fault Refusal := ok (cmpR s i (fun a b => a == b))

/-- CMP_NE (R382). -/
def execCmpNe (i : RForm) (s : State) : Host.Outcome State Fault Refusal := ok (cmpR s i (fun a b => a != b))

/-- CMP_LT (R382). -/
def execCmpLt (i : RForm) (s : State) : Host.Outcome State Fault Refusal := ok (cmpR s i (fun a b => a.slt b))

/-- CMP_GE (R382). -/
def execCmpGe (i : RForm) (s : State) : Host.Outcome State Fault Refusal := ok (cmpR s i (fun a b => !a.slt b))

/-- CMP_LTU (R382). -/
def execCmpLtu (i : RForm) (s : State) : Host.Outcome State Fault Refusal := ok (cmpR s i (fun a b => a.ult b))

/-- CMP_GEU (R382). -/
def execCmpGeu (i : RForm) (s : State) : Host.Outcome State Fault Refusal := ok (cmpR s i (fun a b => !a.ult b))

/-- CMPI_EQ (R382). -/
def execCmpiEq (i : IForm) (s : State) : Host.Outcome State Fault Refusal := ok (cmpI s i (fun a => a == sext13 i.imm))

/-- CMPI_NE (R382). -/
def execCmpiNe (i : IForm) (s : State) : Host.Outcome State Fault Refusal := ok (cmpI s i (fun a => a != sext13 i.imm))

/-- CMPI_LT (R382). -/
def execCmpiLt (i : IForm) (s : State) : Host.Outcome State Fault Refusal := ok (cmpI s i (fun a => a.slt (sext13 i.imm)))

/-- CMPI_GE (R382). -/
def execCmpiGe (i : IForm) (s : State) : Host.Outcome State Fault Refusal := ok (cmpI s i (fun a => !a.slt (sext13 i.imm)))

/-- CMPI_LTU (R382). -/
def execCmpiLtu (i : IForm) (s : State) : Host.Outcome State Fault Refusal := ok (cmpI s i (fun a => a.ult (zext13 i.imm)))

/-- CMPI_GEU (R382). -/
def execCmpiGeu (i : IForm) (s : State) : Host.Outcome State Fault Refusal := ok (cmpI s i (fun a => !a.ult (zext13 i.imm)))

/-- PAND (R383). -/
def execPand (i : RForm) (s : State) : Host.Outcome State Fault Refusal := ok (predOp s i (fun a b => a && b))

/-- POR (R383). -/
def execPor (i : RForm) (s : State) : Host.Outcome State Fault Refusal := ok (predOp s i (fun a b => a || b))

/-- PXOR (R383). -/
def execPxor (i : RForm) (s : State) : Host.Outcome State Fault Refusal := ok (predOp s i (fun a b => a != b))

/-- PANDN (R383). -/
def execPandn (i : RForm) (s : State) : Host.Outcome State Fault Refusal := ok (predOp s i (fun a b => a && !b))

/-- PORN (R383). -/
def execPorn (i : RForm) (s : State) : Host.Outcome State Fault Refusal := ok (predOp s i (fun a b => a || !b))

/-- SEL (R384: FUNC bits 2:0 name the predicate, bits 7:3 must be 0). -/
def execSel (i : RForm) (func : BitVec 8) (s : State) : Host.Outcome State Fault Refusal := 
  ok (issue s i.c i.e (aluAct (decide (func.toNat < 8)) [i.rs1, i.rs2] i.rd
    (fun b => (if b.pv func.toNat then b.sv i.rs1 else b.sv i.rs2, false))))

/-- MFP (R385: RS1 and RS2 must be 0). -/
def execMfp (i : RForm) (s : State) : Host.Outcome State Fault Refusal := 
  ok (issue s i.c i.e (aluAct (decide (i.rs1 = 0) && decide (i.rs2 = 0)) [] i.rd (fun b => (b.p.zeroExtend 32, false))))

/-- MTP (R385: RD and RS2 must be 0; it counts as a write of p1 to p7). -/
def execMtp (i : RForm) (s : State) : Host.Outcome State Fault Refusal := 
  ok (issue s i.c i.e ⟨0, decide (i.rd = 0) && decide (i.rs2 = 0), [regS i.rs1.toNat], (upto 7).map (fun n => regP (n + 1)), none, false,
    fun b r => { r with p := ((b.sv i.rs1).truncate 8) ||| 1 }⟩)

/-- BR (R386). -/
def execBr (i : BForm) (s : State) : Host.Outcome State Fault Refusal := 
  ok (issue s i.c i.e ⟨0, true, [], [], some (true, branchTo (pcOf s i.c) i.offs.toInt), true, fun _ r => r⟩)

/-- CALL (R386, R391, R392): `words` is the length of the call's own bundle in words and `slot` + 1 that of its delay slot's,
which fix the return address. -/
def execCall (i : BForm) (words slot : Fin 3) (s : State) : Host.Outcome State Fault Refusal :=
  let pc := pcOf s i.c
  ok (issue s i.c i.e ⟨0, true, [], [regS 31], some (true, branchTo pc i.offs.toInt), true,
    fun _ r => r.setS 31 (linkOf pc (words.val + 1) slot)⟩)

/-- JALR (R386, R390, R391): RS2 and FUNC must be 0; RD = RS1 other than s0 is undefined. -/
def execJalr (i : RForm) (func : BitVec 8) (words slot : Fin 3) (s : State) : Host.Outcome State Fault Refusal :=
  let k := returnFor (s.core i.c) [regS i.rs1.toNat]
  let before := (bundleOf k).before
  let legal := decide (i.rs2 = 0) && decide (func = 0) && !(decide (i.rd = i.rs1) && decide (i.rd ≠ 0))
  ok (issue s i.c i.e ⟨0, legal, [regS i.rs1.toNat], [regS i.rd.toNat], some (true, (before.sv i.rs1).toNat / 4 * 4), true,
    fun _ r => r.setS i.rd (linkOf k.pc (words.val + 1) slot)⟩)

/-- BZ (R386). -/
def execBz (i : IForm) (s : State) : Host.Outcome State Fault Refusal := ok (branchIf s i (fun a => a == 0))

/-- BNZ (R386). -/
def execBnz (i : IForm) (s : State) : Host.Outcome State Fault Refusal := ok (branchIf s i (fun a => a != 0))

/-- BLTZ (R386). -/
def execBltz (i : IForm) (s : State) : Host.Outcome State Fault Refusal := ok (branchIf s i (fun a => a.slt 0))

/-- BGEZ (R386). -/
def execBgez (i : IForm) (s : State) : Host.Outcome State Fault Refusal := ok (branchIf s i (fun a => !a.slt 0))

/-- BGTZ (R386). -/
def execBgtz (i : IForm) (s : State) : Host.Outcome State Fault Refusal := ok (branchIf s i (fun a => (0 : Word).slt a))

/-- BLEZ (R386). -/
def execBlez (i : IForm) (s : State) : Host.Outcome State Fault Refusal := ok (branchIf s i (fun a => !(0 : Word).slt a))

/-- BP (R386). -/
def execBp (i : IForm) (s : State) : Host.Outcome State Fault Refusal := ok (branchPred s i true)

/-- BNP (R386). -/
def execBnp (i : IForm) (s : State) : Host.Outcome State Fault Refusal := ok (branchPred s i false)

/-- LOOP (R394): RD bit 0 is the loop, RD bits 4:1 must be 0; `words` + 1 is the length of its own bundle, which the end
label must not precede. -/
def execLoop (i : IForm) (words : Fin 3) (s : State) : Host.Outcome State Fault Refusal :=
  let pc := pcOf s i.c
  let n := words.val + 1
  let k := i.rd.toNat % 2
  ok (issue s i.c i.e ⟨0, decide (i.rd.toNat < 2) && decide (n ≤ i.imm.toNat), [regS i.rs1.toNat], [regL (3 * k), regL (3 * k + 1), regL (3 * k + 2)], none, true,
    fun b r =>
      let v := b.sv i.rs1
      let r := loopRegPut r (3 * k) (if v = 0 then 1 else v)
      loopRegPut (loopRegPut r (3 * k + 1) (BitVec.ofNat 32 (pc + 4 * n))) (3 * k + 2) (BitVec.ofNat 32 (pc + 4 * i.imm.toNat))⟩)

/-- MTLP (R398): FUNC names the loop register; RD and RS2 must be 0. -/
def execMtlp (i : RForm) (func : BitVec 8) (s : State) : Host.Outcome State Fault Refusal :=
  ok (issue s i.c i.e ⟨0, decide (func.toNat < 6) && decide (i.rd = 0) && decide (i.rs2 = 0), [regS i.rs1.toNat], [regL func.toNat], none, false,
    fun b r => loopRegPut r func.toNat (b.sv i.rs1)⟩)

/-- MFLP (R398): RS1 and RS2 must be 0. -/
def execMflp (i : RForm) (func : BitVec 8) (s : State) : Host.Outcome State Fault Refusal :=
  ok (issue s i.c i.e (aluAct (decide (func.toNat < 6) && decide (i.rs1 = 0) && decide (i.rs2 = 0)) [] i.rd (fun b => (loopReg b func.toNat, false))))

/-- SMAC (R400): `x` and `y` choose the halves. -/
def execSmac (i : RForm) (x y : Bool) (s : State) : Host.Outcome State Fault Refusal := ok (smacStep s i x y false)

/-- SMSU (R400). -/
def execSmsu (i : RForm) (x y : Bool) (s : State) : Host.Outcome State Fault Refusal := ok (smacStep s i x y true)

/-- SCLR (R400): RD, RS1 and RS2 must be 0. -/
def execSclr (i : RForm) (s : State) : Host.Outcome State Fault Refusal :=
  let legal := decide (4 ≤ i.c.val) && decide (i.rd = 0) && decide (i.rs1 = 0) && decide (i.rs2 = 0)
  ok (issue s i.c i.e ⟨0, legal, [], [regAc 0], none, false, fun _ r => ac0Put r 0⟩)

/-- SACX (R400, R401): RS1 and RS2 must be 0. -/
def execSacx (i : RForm) (s : State) : Host.Outcome State Fault Refusal :=
  ok (issue s i.c i.e (aluAct (decide (4 ≤ i.c.val) && decide (i.rs1 = 0) && decide (i.rs2 = 0)) [] i.rd
    (fun b => (BitVec.ofNat 32 (narrowF b.fmNow 32 (ac0 b)).1, (narrowF b.fmNow 32 (ac0 b)).2))))

/-- SACSET (R400): RD and RS2 must be 0. -/
def execSacset (i : RForm) (s : State) : Host.Outcome State Fault Refusal :=
  ok (issue s i.c i.e ⟨0, decide (4 ≤ i.c.val) && decide (i.rd = 0) && decide (i.rs2 = 0), [regS i.rs1.toNat], [regAc 0], none, false,
    fun b r => ac0Put r ((b.sv i.rs1).toInt * (2 ^ fmFrac b.fmNow : Nat))⟩)

/-! ## Modes and control registers (R336, R404 to R407, R482, R483) -/

/-- SETM (R404, R405): RD, RS1 and RS2 must be 0. -/
def execSetm (i : RForm) (func : BitVec 8) (s : State) : Host.Outcome State Fault Refusal :=
  ok (issueX s i.c i.e (decide (i.rd = 0) && decide (i.rs1 = 0) && decide (i.rs2 = 0)) [] (fun s =>
    bundleDone (regsPut s i.c (fun r => { r with fmode := func })) i.c true))

/-- A control register as written by mtcr: cr5 and cr7 to cr10 ignore it. -/
def crPut (r : CoreRegs) (n : Nat) (v : Word) : CoreRegs :=
  if n = 0 then { r with fmode := v.truncate 8 }
  else if n = 1 then { r with fstat := v.truncate 2 }
  else if n = 2 then { r with epc := v }
  else if n = 3 then { r with estat := v &&& 0xFF03FFFF }
  else if n = 4 then { r with efmode := v.truncate 8 }
  else if n = 6 then { r with evec := v }
  else r

/-- A write of ESTAT with DS = 0 discards the replay record (R461). -/
def replayKeep (k : CoreSt) (n : Nat) : CoreSt :=
  if n = 3 ∧ !k.regs.estat.getLsbD 8 then { k with replay := none } else k

/-- A control register of core `c` is written. -/
def crWrite (s : State) (c n : Nat) (v : Word) : State :=
  let k := s.core c
  s.setCore c (replayKeep { k with regs := crPut k.regs n v } n)

/-- MTCR (R404 to R406): RD and RS2 must be 0; FUNC is 0 to 10. -/
def execMtcr (i : RForm) (func : BitVec 8) (s : State) : Host.Outcome State Fault Refusal :=
  ok (issueX s i.c i.e (decide (func.toNat ≤ 10) && decide (i.rd = 0) && decide (i.rs2 = 0)) [] (fun s =>
    bundleDone (crWrite s i.c func.toNat ((s.core i.c).regs.sv i.rs1)) i.c (decide (func = 0))))

/-- COREID (R336). -/
def coreId (s : State) (c : Nat) : Nat := (if c < 4 then c else 0) + 4 * (c - 3) + 16 * s.devid

/-- TASK (R336, R358). -/
def taskReg (s : State) (c : Nat) : Nat :=
  if c < 4 then s.get (F.FRW_COREc_ST_TASK c) + 2 ^ 8 * s.get (F.FRW_COREc_ST_INIT c) else 2 ^ 8

/-- The cycle count of a core (R336). -/
def coreCycles (s : State) (c : Nat) : Nat := if c < 4 then s.pair (A.FRW_COREc_CYC_LO c) else nth s.frw.cyc (c - 4) 0

/-- What mfcr reads, with the high cycle word latched by a read of cr8. -/
def crGet (s : State) (c n : Nat) : Word × State :=
  let r := (s.core c).regs
  if n = 0 then (r.fmode.zeroExtend 32, s) else if n = 1 then (r.fstat.zeroExtend 32, s) else if n = 2 then (r.epc, s)
  else if n = 3 then (r.estat, s) else if n = 4 then (r.efmode.zeroExtend 32, s) else if n = 5 then (r.eaddr, s)
  else if n = 6 then (r.evec, s) else if n = 7 then (BitVec.ofNat 32 (coreId s c), s)
  else if n = 8 then
    let v := coreCycles s c
    (BitVec.ofNat 32 v, regsPut s c (fun r => { r with cycHi := BitVec.ofNat 32 (v / 2 ^ 32) }))
  else if n = 9 then (r.cycHi, s)
  else (BitVec.ofNat 32 (taskReg s c), s)

/-- MFCR (R404, R405): RS1 and RS2 must be 0; FUNC is 0 to 10. -/
def execMfcr (i : RForm) (func : BitVec 8) (s : State) : Host.Outcome State Fault Refusal :=
  ok (issueX s i.c i.e (decide (func.toNat ≤ 10) && decide (i.rs1 = 0) && decide (i.rs2 = 0)) [regS i.rd.toNat] (fun s =>
    let (v, s) := crGet s i.c func.toNat
    bundleDone (regsPut s i.c (fun r => r.setS i.rd v)) i.c false))

end Sys2Proof.Machine
end

