-- ==== Sys2Proof/Machine/FurrowSys.lean ====
section
/-! DEFINITION. Furrow's X-class instructions (R428 to R437, R459) but for setm, mtcr, mfcr and the atomics. -/

namespace Sys2Proof.Machine

/-- Every field of the register form is 0. -/
def noFields (i : RForm) (func : BitVec 8) : Bool :=
  decide (i.rd = 0) && decide (i.rs1 = 0) && decide (i.rs2 = 0) && decide (func = 0)

/-- FENCE (R429): the store buffer drains. -/
def execFence (func : BitVec 8) (i : RForm) (s : State) : Host.Outcome State Fault Refusal :=
  ok (issueX s i.c i.e (noFields i func) [] (fun s => bundleDone (drainAll s i.c) i.c false))

/-- The commit sequence number that follows `n` (R431). -/
def nextCommit (n : Nat) : Nat := if n = 65535 then 1 else n + 1

/-- Core `c` submits its staging set (R431): the number it receives, 0 while a commit of it is under check. REASON and OBJ
belong to this commit from here on (R507, log 42). An empty set is accepted at once. -/
def coreSubmit (s : State) (c : Nat) : State × Nat :=
  let o := coreOrigin c
  if s.hsp.checks.any (fun x => decide (x.origin = o)) then (s, 0)
  else
    let ws := nth s.hsp.fw c []
    let n := nextCommit (s.get (F.FRW_FCMTk_SEQ c))
    let s := ((s.put (F.FRW_FCMTk_SEQ c) n).put (F.FRW_FCMTk_REASON_REASON c) 0).put (F.FRW_FCMTk_OBJ_OBJ c) 0
    if ws.isEmpty then (s.put (F.FRW_FCMTk_RESULT c) 2, n)
    else
      let s := stagingDrop (s.put (F.FRW_FCMTk_RESULT c) 1) c
      ({ s with hsp := { s.hsp with checks := s.hsp.checks ++ [⟨o, ws⟩] } }, n)

/-- COMMIT (R431); the Scarecrow has none. -/
def execCommit (func : BitVec 8) (i : RForm) (s : State) : Host.Outcome State Fault Refusal :=
  let legal := decide (i.c.val ≠ SCARE) && decide (i.rs1 = 0) && decide (i.rs2 = 0) && decide (func = 0)
  ok (issueX s i.c i.e legal [regS i.rd.toNat] (fun s =>
    let r := coreSubmit (drainAll s i.c) i.c
    bundleDone (regsPut r.1 i.c (fun x => x.setS i.rd (BitVec.ofNat 32 r.2))) i.c false))

/-- BELL (R433): source 120 + n after the drain. -/
def execBell (func : BitVec 8) (i : RForm) (s : State) : Host.Outcome State Fault Refusal :=
  let legal := decide (i.c.val ≠ SCARE) && noFields i 0 && decide (func.toNat < 8)
  ok (issueX s i.c i.e legal [] (fun s => bundleDone ((drainAll s i.c).event (120 + func.toNat % 8)) i.c false))

/-- INIT ends: the periods of KIND 3 count from here (R356, R357). -/
def initEnds (s : State) (c : Nat) : State :=
  (s.setCore c { s.core c with initEnd := s.time.hsck }).mark (F.FRW_COREc_ST_INIT c) false

/-- The running job, or INIT, of core `c` ends (R434). -/
def taskEnd (s : State) (c : Nat) : State :=
  let k := s.core c
  let s := s.setCore c { k with bun := none, shadow := false, drop := false, regs := { k.regs with fmNow := k.regs.fmode, fmNext := k.regs.fmode } }
  let s := if s.flag (F.FRW_COREc_ST_INIT c) then dispatch (initEnds s c) c else jobEnd s c
  boundary s c

/-- TEND (R434): Furrow-F's alone. -/
def execTend (func : BitVec 8) (i : RForm) (s : State) : Host.Outcome State Fault Refusal :=
  ok (issueX s i.c i.e (decide (i.c.val < 4) && noFields i func) [] (fun s => taskEnd (drainAll s i.c) i.c))

/-- ERET (R459): outside a handler it is illegal. -/
def execEret (func : BitVec 8) (i : RForm) (s : State) : Host.Outcome State Fault Refusal :=
  ok (issueX s i.c i.e (noFields i func) [] (fun s =>
    if (s.core i.c).regs.estat.getLsbD 12 then exReturn s i.c
    else exception s i.c ⟨X_ILLEGAL, 0, 0, false, 3, none⟩))

/-- TRAP (R436): FUNC is n; EPC is the bundle after the trap. -/
def execTrap (func : BitVec 8) (i : RForm) (s : State) : Host.Outcome State Fault Refusal :=
  ok (issueX s i.c i.e (noFields i 0) [] (fun s =>
    exception s i.c ⟨X_TRAP, func.toNat, 0, false, 3, some (((s.core i.c).pc + 4 * (bundleOf (s.core i.c)).words) % 2 ^ 32)⟩))

/-- HALT (R437): a Furrow-F core in SERVICE, the sentry core outside SENTRY; elsewhere it is illegal. -/
def execHalt (func : BitVec 8) (i : RForm) (s : State) : Host.Outcome State Fault Refusal :=
  let c := i.c.val
  ok (issueX s c i.e (decide (c ≠ SCARE) && noFields i func) [] (fun s =>
    let s := drainAll s c
    if c < 4 ∧ s.pstate = SERVICE then (coreHalt s c).mark (F.FRW_COREc_CTL_RUN c) false
    else if c = SENT ∧ s.pstate ≠ SENTRY then (coreHalt s SENT).mark F.FRW_SENT_CTL_RUN false
    else exception s c ⟨X_ILLEGAL, 0, 0, false, 3, none⟩))

end Sys2Proof.Machine
end

