-- ==== Sys2Proof/Machine/FurrowVector.lean ====
section
/-! DEFINITION. Furrow's M slot (R418 to R422): vector arithmetic, multiply-accumulates and accumulator moves. -/

namespace Sys2Proof.Machine

/-! ## Lanes (R419) -/

/-- Lanes of a q register: 8 × 16 or 4 × 32 bits. -/
def laneBits (w : Bool) : Nat := if w then 32 else 16
def laneCount (w : Bool) : Nat := if w then 4 else 8

/-- Lane `i`, unsigned and signed. -/
def laneU (w : Bool) (q : BitVec 128) (i : Nat) : Nat := bits q.toNat (laneBits w * i) (laneBits w)
def laneS (w : Bool) (q : BitVec 128) (i : Nat) : Int := toSigned (laneBits w) (laneU w q i)

/-- A q register from its lanes, lane 0 first. -/
def ofLanes (w : Bool) (l : List Nat) : BitVec 128 :=
  BitVec.ofNat 128 (l.foldr (fun v acc => v % 2 ^ laneBits w + 2 ^ laneBits w * acc) 0)

/-- Every lane from its index. -/
def mapLanes (w : Bool) (f : Nat → Nat) : BitVec 128 := ofLanes w ((upto (laneCount w)).map f)

/-! ## Builders -/

/-- Register numbers in range: q0 to q15, ac0 to ac3, p0 to p7 (R337). -/
def okQ (n : BitVec 5) : Bool := decide (n.toNat < 16)
def okAc (n : BitVec 5) : Bool := decide (n.toNat < 4)
def okP (n : BitVec 5) : Bool := decide (n.toNat < 8)

/-- The M slot exists on Furrow-F only (R332, R418). -/
def onF (i : RForm) : Bool := decide (i.c.val < 4)

/-- An M-slot instruction with a vector result and flags SATF and ACCOV from the registers before the bundle. -/
def vecTo (s : State) (i : RForm) (ok : Bool) (uses : List Nat) (f : CoreRegs → BitVec 128 × Bool) : State :=
  issue s i.c i.e ⟨1, onF i && ok && okQ i.rd, uses, [regQ i.rd.toNat], none, false,
    fun b r => (r.setQ i.rd (f b).1).flags (f b).2 false⟩

/-- The names of the q registers RS1 and RS2. -/
def qaqb (i : RForm) : List Nat := [regQ i.rs1.toNat, regQ i.rs2.toNat]

/-- Two vectors, lane by lane, over `w` in FUNC bit 0; the rest of FUNC is 0. -/
def lanes2 (s : State) (i : RForm) (func : BitVec 8) (f : Bool → Nat → BitVec 128 → BitVec 128 → Nat × Bool) : State :=
  let w := bit func.toNat 0
  vecTo s i (decide (func.toNat < 2) && okQ i.rs1 && okQ i.rs2) (qaqb i) (fun b =>
    let l := (upto (laneCount w)).map (fun k => f w k (b.qv i.rs1) (b.qv i.rs2))
    (ofLanes w (l.map (·.1)), l.any (·.2)))

/-- A clamp to the lane's range, and whether it acted. -/
def clampLane (w : Bool) (v : Int) : Nat × Bool := (ofSigned (laneBits w) (satS (laneBits w) v), !fitsS (laneBits w) v)

/-- Whole-register logic (FUNC is the mnemonic's). -/
def whole2 (s : State) (i : RForm) (f : BitVec 128 → BitVec 128 → BitVec 128) : State :=
  vecTo s i (okQ i.rs1 && okQ i.rs2) (qaqb i) (fun b => (f (b.qv i.rs1) (b.qv i.rs2), false))

/-- A shift of every lane by n = FUNC[7:3]; RS2 must be 0, and n is at most 15 for 16-bit lanes. -/
def shiftLanes (s : State) (i : RForm) (func : BitVec 8) (f : BitVec 8 → Bool → Nat → BitVec 128 → Nat → Nat) : State :=
  let w := bit func.toNat 0
  let n := bits func.toNat 3 5
  vecTo s i (okQ i.rs1 && decide (i.rs2 = 0) && (w || decide (n ≤ 15))) [regQ i.rs1.toNat] (fun b =>
    (mapLanes w (fun k => f b.fmNow w n (b.qv i.rs1) k), false))

/-- A lane compare: all ones or 0; FUNC bits 7:3 must be 0. -/
def cmpLanes (s : State) (i : RForm) (func : BitVec 8) (f : Bool → Nat → BitVec 128 → BitVec 128 → Bool) : State :=
  let w := bit func.toNat 0
  vecTo s i (decide (func.toNat < 8) && okQ i.rs1 && okQ i.rs2) (qaqb i) (fun b =>
    (mapLanes w (fun k => if f w k (b.qv i.rs1) (b.qv i.rs2) then 2 ^ laneBits w - 1 else 0), false))

/-- An M-slot instruction that writes an accumulator, lane by lane; the flag is ACCOV. -/
def accTo (s : State) (i : RForm) (ok : Bool) (uses : List Nat) (f : CoreRegs → Nat → Int × Bool) : State :=
  issue s i.c i.e ⟨1, onF i && ok && okAc i.rd, uses, [regAc i.rd.toNat], none, false, fun b r =>
    let l := (upto 4).map (f b)
    (r.setAc i.rd (l.map (·.1))).flags false (l.any (·.2))⟩

/-- sext24 of a 32-bit lane. -/
def sext24 (x : Nat) : Int := toSigned 24 x

/-- P_k (R420). -/
def prodP (w : Bool) (a b : BitVec 128) (k : Nat) : Int :=
  if w then sext24 (laneU true a k) * sext24 (laneU true b k)
  else laneS false a (2 * k) * laneS false b (2 * k) + laneS false a (2 * k + 1) * laneS false b (2 * k + 1)

/-- S_k (R420). -/
def prodS (w : Bool) (a : BitVec 128) (x : Word) (k : Nat) : Int :=
  if w then sext24 (laneU true a k) * sext24 x.toNat
  else laneS false a (2 * k) * toSigned 16 (bits x.toNat 0 16) + laneS false a (2 * k + 1) * toSigned 16 (bits x.toNat 16 16)

/-- Lane `k` of accumulator `n`. -/
def accLane (b : CoreRegs) (n : BitVec 5) (k : Nat) : Int := nth (b.acv n) k 0

/-! ## The instructions (R420) -/

/-- VADD: modulo the lane width. -/
def execVadd (i : RForm) (func : BitVec 8) (s : State) : Host.Outcome State Fault Refusal :=
  ok (lanes2 s i func (fun w k a b => (ofSigned (laneBits w) (laneS w a k + laneS w b k), false)))

/-- VSUB: modulo the lane width. -/
def execVsub (i : RForm) (func : BitVec 8) (s : State) : Host.Outcome State Fault Refusal :=
  ok (lanes2 s i func (fun w k a b => (ofSigned (laneBits w) (laneS w a k - laneS w b k), false)))

/-- VADDS: clamped to the lane's range. -/
def execVadds (i : RForm) (func : BitVec 8) (s : State) : Host.Outcome State Fault Refusal :=
  ok (lanes2 s i func (fun w k a b => clampLane w (laneS w a k + laneS w b k)))

/-- VSUBS: clamped to the lane's range. -/
def execVsubs (i : RForm) (func : BitVec 8) (s : State) : Host.Outcome State Fault Refusal :=
  ok (lanes2 s i func (fun w k a b => clampLane w (laneS w a k - laneS w b k)))

/-- VMIN: signed. -/
def execVmin (i : RForm) (func : BitVec 8) (s : State) : Host.Outcome State Fault Refusal :=
  ok (lanes2 s i func (fun w k a b => (if laneS w a k ≤ laneS w b k then laneU w a k else laneU w b k, false)))

/-- VMAX: signed. -/
def execVmax (i : RForm) (func : BitVec 8) (s : State) : Host.Outcome State Fault Refusal :=
  ok (lanes2 s i func (fun w k a b => (if laneS w a k ≤ laneS w b k then laneU w b k else laneU w a k, false)))

/-- VABS: clamped; RS2 must be 0. -/
def execVabs (i : RForm) (func : BitVec 8) (s : State) : Host.Outcome State Fault Refusal :=
  let w := bit func.toNat 0
  ok (vecTo s i (decide (func.toNat < 2) && okQ i.rs1 && decide (i.rs2 = 0)) [regQ i.rs1.toNat] (fun b =>
    let l := (upto (laneCount w)).map (fun k => clampLane w (laneS w (b.qv i.rs1) k).natAbs)
    (ofLanes w (l.map (·.1)), l.any (·.2))))

/-- VAND. -/
def execVand (i : RForm) (s : State) : Host.Outcome State Fault Refusal := ok (whole2 s i (fun a b => a &&& b))

/-- VOR. -/
def execVor (i : RForm) (s : State) : Host.Outcome State Fault Refusal := ok (whole2 s i (fun a b => a ||| b))

/-- VXOR. -/
def execVxor (i : RForm) (s : State) : Host.Outcome State Fault Refusal := ok (whole2 s i (fun a b => a ^^^ b))

/-- VANDN. -/
def execVandn (i : RForm) (s : State) : Host.Outcome State Fault Refusal := ok (whole2 s i (fun a b => a &&& ~~~b))

/-- VSLL: FUNC bits 2:1 are the selector. -/
def execVsll (i : RForm) (func : BitVec 8) (s : State) : Host.Outcome State Fault Refusal :=
  ok (shiftLanes s i func (fun _ w n a k => laneU w a k * 2 ^ n % 2 ^ laneBits w))

/-- VSRL: zero fill. -/
def execVsrl (i : RForm) (func : BitVec 8) (s : State) : Host.Outcome State Fault Refusal :=
  ok (shiftLanes s i func (fun _ w n a k => laneU w a k / 2 ^ n))

/-- VSRA: sign fill. -/
def execVsra (i : RForm) (func : BitVec 8) (s : State) : Host.Outcome State Fault Refusal :=
  ok (shiftLanes s i func (fun _ w n a k => ofSigned (laneBits w) (floorDiv (laneS w a k) (2 ^ n : Nat))))

/-- VSRAR: rounded under FMODE.RND. -/
def execVsrar (i : RForm) (func : BitVec 8) (s : State) : Host.Outcome State Fault Refusal :=
  ok (shiftLanes s i func (fun m w n a k => ofSigned (laneBits w) (rndF (laneS w a k) n (fmRnd m))))

/-- VCMP_EQ: FUNC bits 2:1 are the selector. -/
def execVcmpEq (i : RForm) (func : BitVec 8) (s : State) : Host.Outcome State Fault Refusal :=
  ok (cmpLanes s i func (fun w k a b => laneU w a k == laneU w b k))

/-- VCMP_LT: signed. -/
def execVcmpLt (i : RForm) (func : BitVec 8) (s : State) : Host.Outcome State Fault Refusal :=
  ok (cmpLanes s i func (fun w k a b => decide (laneS w a k < laneS w b k)))

/-- VCMP_LTU: unsigned. -/
def execVcmpLtu (i : RForm) (func : BitVec 8) (s : State) : Host.Outcome State Fault Refusal :=
  ok (cmpLanes s i func (fun w k a b => decide (laneU w a k < laneU w b k)))

/-- VCMP_LE: signed. -/
def execVcmpLe (i : RForm) (func : BitVec 8) (s : State) : Host.Outcome State Fault Refusal :=
  ok (cmpLanes s i func (fun w k a b => decide (laneS w a k ≤ laneS w b k)))

/-- VBSL: qd selects between qa and qb; FUNC must be 0. -/
def execVbsl (i : RForm) (func : BitVec 8) (s : State) : Host.Outcome State Fault Refusal :=
  ok (vecTo s i (decide (func = 0) && okQ i.rs1 && okQ i.rs2) (regQ i.rd.toNat :: qaqb i) (fun b =>
    ((b.qv i.rd &&& b.qv i.rs1) ||| (~~~(b.qv i.rd) &&& b.qv i.rs2), false)))

/-- A predicate result; RS2 must be 0. -/
def vecToP (s : State) (i : RForm) (ok : Bool) (f : BitVec 128 → Bool) : State :=
  issue s i.c i.e ⟨1, onF i && ok && okP i.rd && okQ i.rs1 && decide (i.rs2 = 0), [regQ i.rs1.toNat], [regP i.rd.toNat], none, false,
    fun b r => r.setP i.rd (f (b.qv i.rs1))⟩

/-- VANY: FUNC is 0. -/
def execVany (i : RForm) (func : BitVec 8) (s : State) : Host.Outcome State Fault Refusal :=
  ok (vecToP s i (decide (func = 0)) (fun a => a != 0))

/-- VALL: FUNC is 2 for 16-bit lanes, 3 for 32-bit lanes. -/
def execVall (i : RForm) (func : BitVec 8) (s : State) : Host.Outcome State Fault Refusal :=
  let w := bit func.toNat 0
  ok (vecToP s i (decide (func.toNat / 2 = 1)) (fun a => (upto (laneCount w)).all (fun k => laneU w a k != 0)))

/-- VSPLAT: RS1 is scalar, RS2 must be 0. -/
def execVsplat (i : RForm) (func : BitVec 8) (s : State) : Host.Outcome State Fault Refusal :=
  let w := bit func.toNat 0
  ok (vecTo s i (decide (func.toNat < 2) && decide (i.rs2 = 0)) [regS i.rs1.toNat] (fun b => (mapLanes w (fun _ => (b.sv i.rs1).toNat), false)))

/-- VGET: lane FUNC[3:1] to a scalar, sign-extended; at most lane 3 of 32-bit lanes. -/
def execVget (i : RForm) (func : BitVec 8) (s : State) : Host.Outcome State Fault Refusal :=
  let w := bit func.toNat 0
  let n := bits func.toNat 1 3
  let legal := decide (func.toNat < 16) && okQ i.rs1 && decide (i.rs2 = 0) && (!w || decide (n ≤ 3))
  ok (issue s i.c i.e ⟨1, onF i && legal, [regQ i.rs1.toNat, regS i.rd.toNat], [regS i.rd.toNat], none, false,
    fun b r => r.setS i.rd (BitVec.ofInt 32 (laneS w (b.qv i.rs1) n))⟩)

/-- VPUT: a scalar into lane FUNC[3:1]; the other lanes are kept. -/
def execVput (i : RForm) (func : BitVec 8) (s : State) : Host.Outcome State Fault Refusal :=
  let w := bit func.toNat 0
  let n := bits func.toNat 1 3
  let legal := decide (func.toNat < 16) && decide (i.rs2 = 0) && (!w || decide (n ≤ 3))
  ok (vecTo s i legal [regS i.rs1.toNat, regQ i.rd.toNat] (fun b =>
    (mapLanes w (fun k => if k = n then (b.sv i.rs1).toNat else laneU w (b.qv i.rd) k), false)))

/-- VSLIDE: lane i is lane i + n of qa followed by qb. -/
def execVslide (i : RForm) (func : BitVec 8) (s : State) : Host.Outcome State Fault Refusal :=
  let w := bit func.toNat 0
  let n := bits func.toNat 1 3
  let legal := decide (func.toNat < 16) && okQ i.rs1 && okQ i.rs2 && (!w || decide (n ≤ 3))
  ok (vecTo s i legal (qaqb i) (fun b =>
    (mapLanes w (fun k => if k + n < laneCount w then laneU w (b.qv i.rs1) (k + n) else laneU w (b.qv i.rs2) (k + n - laneCount w)), false)))

/-- VWIDE: qd.w[k] = qa.h[4g + k], g in FUNC bit 1; FUNC bit 0 must be 0. -/
def execVwide (i : RForm) (func : BitVec 8) (s : State) : Host.Outcome State Fault Refusal :=
  let g := bits func.toNat 1 1
  let legal := (decide (func = 0) || decide (func = 2)) && okQ i.rs1 && decide (i.rs2 = 0)
  ok (vecTo s i legal [regQ i.rs1.toNat] (fun b => (mapLanes true (fun k => ofSigned 32 (laneS false (b.qv i.rs1) (4 * g + k))), false)))

/-- VNARR: 32-bit lanes of qa and qb to 16 bits, clamped where SAT = 1, without rounding; FUNC must be 0. -/
def execVnarr (i : RForm) (func : BitVec 8) (s : State) : Host.Outcome State Fault Refusal :=
  ok (vecTo s i (decide (func = 0) && okQ i.rs1 && okQ i.rs2) (qaqb i) (fun b =>
    let l := ((upto 4).map (laneS true (b.qv i.rs1))) ++ ((upto 4).map (laneS true (b.qv i.rs2)))
    let sat := bit b.fmNow.toNat 0
    (ofLanes false (l.map (fun v => ofSigned 16 (if sat then satS 16 v else v))), sat && l.any (fun v => !fitsS 16 v))))

/-- VMUL: products narrowed under FMODE. -/
def execVmul (i : RForm) (func : BitVec 8) (s : State) : Host.Outcome State Fault Refusal :=
  let w := bit func.toNat 0
  ok (vecTo s i (decide (func.toNat < 2) && okQ i.rs1 && okQ i.rs2) (qaqb i) (fun b =>
    let p := fun k => if w then sext24 (laneU true (b.qv i.rs1) k) * sext24 (laneU true (b.qv i.rs2) k) else laneS false (b.qv i.rs1) k * laneS false (b.qv i.rs2) k
    let l := (upto (laneCount w)).map (fun k => narrowF b.fmNow (laneBits w) (p k))
    (ofLanes w (l.map (·.1)), l.any (·.2))))

/-- VMAC. -/
def execVmac (i : RForm) (func : BitVec 8) (s : State) : Host.Outcome State Fault Refusal :=
  ok (accTo s i (decide (func.toNat < 2) && okQ i.rs1 && okQ i.rs2) (qaqb i) (fun b k =>
    accF b.fmNow (accLane b i.rd k + prodP (bit func.toNat 0) (b.qv i.rs1) (b.qv i.rs2) k)))

/-- VMSU. -/
def execVmsu (i : RForm) (func : BitVec 8) (s : State) : Host.Outcome State Fault Refusal :=
  ok (accTo s i (decide (func.toNat < 2) && okQ i.rs1 && okQ i.rs2) (qaqb i) (fun b k =>
    accF b.fmNow (accLane b i.rd k - prodP (bit func.toNat 0) (b.qv i.rs1) (b.qv i.rs2) k)))

/-- VMACS: RS2 is scalar. -/
def execVmacs (i : RForm) (func : BitVec 8) (s : State) : Host.Outcome State Fault Refusal :=
  ok (accTo s i (decide (func.toNat < 2) && okQ i.rs1) [regQ i.rs1.toNat, regS i.rs2.toNat] (fun b k =>
    accF b.fmNow (accLane b i.rd k + prodS (bit func.toNat 0) (b.qv i.rs1) (b.sv i.rs2) k)))

/-- VCLR: RS1, RS2 and FUNC must be 0. -/
def execVclr (i : RForm) (func : BitVec 8) (s : State) : Host.Outcome State Fault Refusal :=
  ok (accTo s i (decide (func = 0) && decide (i.rs1 = 0) && decide (i.rs2 = 0)) [] (fun _ _ => (0, false)))

/-- VEXT: accumulators narrowed; the .w form requires RS2 = 0. -/
def execVext (i : RForm) (func : BitVec 8) (s : State) : Host.Outcome State Fault Refusal :=
  let w := bit func.toNat 0
  let legal := decide (func.toNat < 2) && okAc i.rs1 && (if w then decide (i.rs2 = 0) else okAc i.rs2)
  ok (vecTo s i legal [] (fun b =>
    let l := if w then (upto 4).map (fun k => narrowF b.fmNow 32 (accLane b i.rs1 k))
      else (upto 4).map (fun k => narrowF b.fmNow 16 (accLane b i.rs1 k)) ++ (upto 4).map (fun k => narrowF b.fmNow 16 (accLane b i.rs2 k))
    (ofLanes w (l.map (·.1)), l.any (·.2))))

/-- VACSET: FUNC and RS2 must be 0. -/
def execVacset (i : RForm) (func : BitVec 8) (s : State) : Host.Outcome State Fault Refusal :=
  ok (accTo s i (decide (func = 0) && okQ i.rs1 && decide (i.rs2 = 0)) [regQ i.rs1.toNat] (fun b k =>
    (laneS true (b.qv i.rs1) k * (2 ^ fmFrac b.fmNow : Nat), false)))

/-- VACGET: FUNC bit 1 is p; RS2 must be 0. -/
def execVacget (i : RForm) (func : BitVec 8) (s : State) : Host.Outcome State Fault Refusal :=
  let legal := (decide (func = 0) || decide (func = 2)) && okAc i.rs1 && decide (i.rs2 = 0)
  ok (vecTo s i legal [] (fun b =>
    (mapLanes true (fun k =>
      let v := ofSigned 56 (accLane b i.rs1 k)
      if func = 0 then bits v 0 32 else ofSigned 32 (toSigned 24 (bits v 32 24))), false)))

/-- VACPUT: FUNC must be 0. -/
def execVacput (i : RForm) (func : BitVec 8) (s : State) : Host.Outcome State Fault Refusal :=
  ok (accTo s i (decide (func = 0) && okQ i.rs1 && okQ i.rs2) (qaqb i) (fun b k =>
    (toSigned 56 (bits (laneU true (b.qv i.rs2) k) 0 24 * 2 ^ 32 + laneU true (b.qv i.rs1) k), false)))

/-- VACSUM: lane 0 is the sum, lanes 1 to 3 are 0; FUNC and RS2 must be 0. -/
def execVacsum (i : RForm) (func : BitVec 8) (s : State) : Host.Outcome State Fault Refusal :=
  ok (accTo s i (decide (func = 0) && okAc i.rs1 && decide (i.rs2 = 0)) [] (fun b k =>
    if k = 0 then accF b.fmNow (sumI (b.acv i.rs1)) else (0, false)))

end Sys2Proof.Machine
end

