-- ==== Sys2Proof/Machine/Hsp.lean ====
section
/-! DEFINITION. The Host Serial Port (ch. 3) and the tunnel (R100 to R104, R648, R649). One command is one whole transaction,
from its snapshot edge to its end edge; the frame's fields are as the host drives them. -/

namespace Sys2Proof.Machine

/-! ## The frame (R71 to R78) -/

abbrev OP_TICK : Nat := 0x00
abbrev OP_WRITE : Nat := 0x02
abbrev OP_READ : Nat := 0x0B
abbrev OP_STATUS : Nat := 0x05
abbrev OP_COMMIT : Nat := 0x3C
abbrev OP_ZEROIZE : Nat := 0x44
abbrev OP_WINDOW : Nat := 0x6B
abbrev OP_RESET : Nat := 0xFF

/-- The fields of the count field (R74). -/
def cntDev (c : Nat) : Nat := c / 2 ^ 14
def cntN (c : Nat) : Nat := c % 2 ^ 11

/-- The bytes of words in address order (R72). -/
def wordBytes (ws : List Word) : List Nat := ws.flatMap (fun w => bytesOfLe 4 w.toNat)

/-- The host CRC that a frame needs (R73). -/
def hostCrc (op addr cnt : Nat) (data : List Word) : Nat :=
  crc16 ([op] ++ bytesOfBe 3 addr ++ bytesOfBe 2 cnt ++ wordBytes data)

/-- The opcodes of R78. -/
def opDefined (op : Nat) : Bool := [OP_TICK, OP_WRITE, OP_READ, OP_STATUS, OP_COMMIT, OP_ZEROIZE, OP_WINDOW, OP_RESET].contains op

/-- A range of words lies in one of the three regions (R79): 1 registers, 2 load windows, 3 history; 0 for none, or a range
that is misaligned or whose count is outside 1 to 1024. -/
def regionOf (a n : Nat) : Nat :=
  let last := a + 4 * n - 1
  if a % 4 ≠ 0 ∨ n = 0 ∨ 1024 < n then 0
  else if last < 0x400000 then 1
  else if 0x400000 ≤ a ∧ last < 0x800000 then 2
  else if 0x800000 ≤ a ∧ last < 0x1000000 then 3
  else 0

/-- N, DEV, a must-be-0 field or the alignment breaks the frame's rules (R74, R78, R79). DESIGN CHOICE (log 79): an address of
COMMIT or ZEROIZE that R78 does not list is judged as a field of a wrong value, LENGTH; R83 names no status for it. -/
def frameBad (op addr cnt : Nat) : Bool :=
  let n := cntN cnt
  let r := regionOf addr n
  cnt / 2 ^ 11 % 8 != 0 ||
    (if op = OP_TICK then n != 0 || cntDev cnt != 0
     else if op = OP_STATUS then n != 0
     else if op = OP_COMMIT then n != 0 || decide (2 < addr)
     else if op = OP_ZEROIZE then n != 0 || addr == 0 || decide (3 < addr)
     else if op = OP_READ then r != 1
     else if op = OP_WINDOW then r != 2 && r != 3
     else r == 0)

/-! ## Statuses (R82 to R85) -/

abbrev HS_OK : Nat := 0
abbrev HS_CRC : Nat := 1
abbrev HS_LENGTH : Nat := 2
abbrev HS_DENIED : Nat := 3
abbrev HS_BUSY : Nat := 4
abbrev HS_REFUSED : Nat := 5
abbrev HS_OPCODE : Nat := 6
abbrev HS_POSTED : Nat := 7

/-- Does the port respond: on the lead, outside OFF and test mode, with HSCK running (R24, R111, R134). -/
def hspAnswers (s : State) : Bool :=
  decide (s.devid = 0) && !s.pwr.test && s.clk.present && (decide (s.pstate ≠ OFF) || s.pwr.offResp)

/-- The flags of a status byte, from the snapshot (R82). -/
def hspFlags (s : State) : Nat :=
  2 ^ 4 * b2n (hostChecking s) + 2 ^ 5 * b2n (s.flag F.SYS_CMT_STICKY) + 2 ^ 6 * b2n (intReq s 4) +
    2 ^ 7 * b2n (mittenOpen s || s.flag F.SWA_MITTEN_SS_OPEN)

/-- The snapshot edge: the view epoch advances (R87). -/
def hspSnap (s : State) : State := s.incWrap F.SYS_EPOCH_EPOCH

/-- The counter of a status code in SYS_HSPERR (R85, R112), and source 7. -/
def hspError (s : State) (code : Nat) : State :=
  if code = HS_OK ∨ code = HS_POSTED then s
  else
    let s := if code = HS_CRC then s.incSat F.SYS_HSPERR_CRC
      else if code = HS_LENGTH ∨ code = HS_OPCODE then s.incSat F.SYS_HSPERR_LEN
      else if code = HS_DENIED then s.incSat F.SYS_HSPERR_DEN else s.incSat F.SYS_HSPERR_BSY
    s.event 7

/-- The transaction is recorded: its status byte in LAST, an error counted (R85). -/
def hspRecord (s : State) (st : Nat) : State := hspError (s.put F.SYS_HSPST_LAST st) (st % 16)

/-! ## What a transaction may do (R83) -/

/-- The words of a WRITE with their addresses. -/
def writeWords (a : Nat) : List Word → List (Nat × Word)
  | [] => []
  | w :: t => (a, w) :: writeWords (a + 4) t

/-- A block of the range that answers nothing but DENIED in OFF with the HSP responding (R134). -/
def rangeResponds (s : State) (a n : Nat) : Bool := blockResponds s a && blockResponds s (a + 4 * n - 1)

/-- A WRITE is denied: the history window, a SAF register other than the handshake's, a locked load window. -/
def writeDenied (s : State) (a n : Nat) : Bool :=
  regionOf a n == 3 || !rangeResponds s a n ||
    (upto n).any (fun i =>
      let b := a + 4 * i
      if 0x400000 ≤ b then !winOpen s b
      else b / 0x10000 == 0x0F && (regRow b).isSome && b != A.SAF_ACK && b != A.SAF_ACK_RESP)

/-- A WINDOW-READ is denied: the mitten refuses the history memory (R310). -/
def windowDenied (s : State) (a n : Nat) : Bool :=
  !rangeResponds s a n || (regionOf a n == 3 && (historyRead s (a - 0x800000) (4 * n)).isNone)

/-- A WRITE of SYS_CMT alone, which acknowledges a refusal. -/
def ackAlone (op addr cnt : Nat) : Bool := op == OP_WRITE && addr == A.SYS_CMT && cntN cnt == 1

/-- A WRITE would take the staging set beyond 4096 words (R83). -/
def stageOver (s : State) (a : Nat) (data : List Word) : Bool :=
  match s.hsp.stage with
  | some ws => decide (4096 < ((writeWords a data).foldl (fun l e => stageAdd l e.1 e.2) ws).length)
  | none => false

/-- The status code of a transaction for this device, with a good host CRC (R83). -/
def localCode (s : State) (op addr cnt : Nat) (data : List Word) : Nat :=
  let n := cntN cnt
  let commits := op == OP_WRITE || op == OP_COMMIT
  if !opDefined op || op == OP_RESET then HS_OPCODE
  else if frameBad op addr cnt || (op == OP_WRITE && (decide (data.length ≠ n) || stageOver s addr data)) then HS_LENGTH
  else if (op == OP_WRITE && writeDenied s addr n) || (op == OP_READ && !rangeResponds s addr n) ||
      (op == OP_WINDOW && windowDenied s addr n) then HS_DENIED
  else if commits && s.flag F.SYS_CMT_STICKY && !ackAlone op addr cnt then HS_REFUSED
  else if commits && hostChecking s then HS_BUSY
  else HS_OK

/-! ## Effects (R78, R88 to R96) -/

/-- The staging set, shown in SYS_STAGE (R96, R97). -/
def stageSet (s : State) (v : Option (List (Nat × Word))) : State :=
  let s := { s with hsp := { s.hsp with stage := v } }
  (s.mark F.SYS_STAGE_OPEN v.isSome).put F.SYS_STAGE_WORDS (v.getD []).length

/-- A WRITE: the words are staged while the set is open, else they are one commit. -/
def hspWrite (o : Origin) (s : State) (a : Nat) (data : List Word) : State :=
  let ws := writeWords a data
  match s.hsp.stage with
  | some l => stageSet s (some (ws.foldl (fun l e => stageAdd l e.1 e.2) l))
  | none => hostCommit o ws s

/-- COMMIT: 0 OPEN, 1 APPLY, 2 DISCARD. DEDUCED: an APPLY with the set closed submits nothing. -/
def hspCommit (o : Origin) (s : State) (a : Nat) : State :=
  if a = 0 then stageSet s (some [])
  else
    let s' := stageSet s none
    if a = 1 then (match s.hsp.stage with | some ws => hostCommit o ws s' | none => s') else s'

/-- ZEROIZE: 1 the swath, 2 the short swath, 3 both. -/
def hspZeroize (s : State) (a : Nat) : State :=
  let s := if bit a 0 then zeroSwathStart s else s
  if bit a 1 then zeroShortStart s else s

/-- A granted WINDOW-READ of a history memory: an unload access, with its uncorrectable words found (R94, R302). -/
def historyTaken (s : State) (o n : Nat) : State :=
  let short := s.flag F.SWA_HWIN_MEM
  eccCheck (mittenTouch s) short (if short then o else historyBase s + o) n

/-- The data words that a transaction returns (R78). -/
def hspWords (s : State) (op addr n : Nat) : List Word :=
  if op = OP_READ then readWords s addr n
  else if op = OP_STATUS then [s.rd A.SYS_EPOCH, s.rd A.SYS_CMT, s.rd A.SYS_CMT_REASON, s.rd A.SYS_CMT_OBJ]
  else if op = OP_WINDOW then
    if addr < 0x800000 then (upto n).map (fun i => winWord s (addr + 4 * i)) else (historyRead s (addr - 0x800000) (4 * n)).getD []
  else []

/-- The effect of a transaction with status OK at its end edge. -/
def hspEffect (o : Origin) (s : State) (op addr n : Nat) (data : List Word) : State :=
  if op = OP_WRITE then hspWrite o s addr data
  else if op = OP_READ then readEffects s addr n
  else if op = OP_COMMIT then hspCommit o s addr
  else if op = OP_ZEROIZE then hspZeroize s addr
  else if op = OP_WINDOW ∧ 0x800000 ≤ addr then historyTaken s (addr - 0x800000) (4 * n)
  else s

/-- A refused access to the history window is counted (R79, R310). -/
def historyDenied (s : State) (code op addr n : Nat) : State :=
  if code = HS_DENIED ∧ (op = OP_WINDOW ∨ op = OP_WRITE) ∧ regionOf addr n = 3 then mittenDeny s else s

/-- A transaction for this device from its snapshot, taken already, to its record: the state, the status byte and the data
words. -/
def hspLocal (o : Origin) (s : State) (op addr cnt : Nat) (data : List Word) (code : Nat) : State × Nat × List Word :=
  let st := code + hspFlags s
  if code = HS_OK then (hspRecord (hspEffect o s op addr (cntN cnt) data) st, st, hspWords s op addr (cntN cnt))
  else (hspRecord (historyDenied s code op addr (cntN cnt)) st, st, [])

/-! ## Forwarding (R100, R648, R650) -/

/-- A position that the lead can reach (R667). -/
def devReachable (s : State) (d : Nat) : Bool := s.flag (F.HG0_ROUTEp_VALID d)

/-- The words of segment `k` of at most 48 words. -/
def segWords (ws : List Word) (k : Nat) : List Word := (ws.drop (48 * k)).take 48

/-- The segments that carry a number of words: at least one. -/
def segCount (n : Nat) : Nat := Nat.max 1 (ceilDiv n 48)

/-- PARAM of a segment: TAG, SEG, LAST (R647). -/
def segParam (tag k n : Nat) : Nat := tag + 2 ^ 16 * k + 2 ^ 24 * b2n (k + 1 == n)

/-- The lead forwards a transaction under the next tag. -/
def tunForward (s : State) (op addr cnt : Nat) (data : List Word) : State :=
  let tag := (s.get F.SYS_TUNST_TAG + 1) % 65536
  let s := { s with hsp := { s.hsp with tun := some (tag, cntDev cnt), tunBuf := [] } }
  let s := (s.put F.SYS_TUNST_TAG tag).put F.SYS_TUNST_STATE 1
  let n := segCount data.length
  forEach (upto n) (fun s k =>
    hgSend s VC_CTRL T_REG_REQ (cntDev cnt) (segParam tag k n)
      ([op] ++ bytesOfBe 3 addr ++ bytesOfBe 2 cnt ++ [0, 0] ++ wordBytes (segWords data k))) s

/-- The status code of a transaction that DEV names a partner for (R83, R104). DESIGN CHOICE (log 79): a ZEROIZE for a partner
while another tunnelled transaction is outstanding is BUSY at the lead, as R83 and R104 say of every tunnelled transaction,
though R81 says that ZEROIZE is never BUSY. -/
def tunnelCode (s : State) (op addr cnt : Nat) (data : List Word) : Nat :=
  if !opDefined op then HS_OPCODE
  else if frameBad op addr cnt || (op == OP_WRITE && decide (data.length ≠ cntN cnt)) then HS_LENGTH
  else if !devReachable s (cntDev cnt) then HS_DENIED
  else if s.hsp.tun.isSome then HS_BUSY
  else HS_POSTED

/-! ## The host's transactions -/

/-- The device's response phase: the status byte, the data words, and the CRC over both (R71). -/
def hspDrive (s : State) (st : Nat) (ws : List Word) : State :=
  { s with hsp := { s.hsp with resp := some ⟨st, ws, crc16 ([st] ++ wordBytes ws)⟩ } }

/-- One transaction on the port. -/
def hspRun (op addr cnt : Nat) (data : List Word) (crc : Nat) (s : State) : State :=
  if !hspAnswers s then s
  else
    let s := hspSnap s
    if crc ≠ hostCrc op addr cnt data then
      let st := HS_CRC + hspFlags s
      hspDrive (hspRecord s st) st []
    else if cntDev cnt = 0 ∨ op = OP_TICK ∨ !opDefined op then
      let r := hspLocal .host s op addr cnt data (localCode s op addr cnt data)
      hspDrive r.1 r.2.1 r.2.2
    else
      let code := tunnelCode s op addr cnt data
      let st := code + hspFlags s
      let s := if code = HS_POSTED then tunForward s op addr cnt data else s
      hspDrive (hspRecord s st) st []

/-- TICK (R78). -/
def execTick (addr : BitVec 24) (cnt crc : BitVec 16) (s : State) : Host.Outcome State Fault Refusal :=
  ok (hspRun OP_TICK addr.toNat cnt.toNat [] crc.toNat s)

/-- WRITE (R88). -/
def execWrite (addr : BitVec 24) (cnt : BitVec 16) (data : List Word) (crc : BitVec 16) (s : State) : Host.Outcome State Fault Refusal :=
  ok (hspRun OP_WRITE addr.toNat cnt.toNat data crc.toNat s)

/-- READ (R92). -/
def execRead (addr : BitVec 24) (cnt crc : BitVec 16) (s : State) : Host.Outcome State Fault Refusal :=
  ok (hspRun OP_READ addr.toNat cnt.toNat [] crc.toNat s)

/-- STATUS (R78). -/
def execStatus (addr : BitVec 24) (cnt crc : BitVec 16) (s : State) : Host.Outcome State Fault Refusal :=
  ok (hspRun OP_STATUS addr.toNat cnt.toNat [] crc.toNat s)

/-- COMMIT_OPEN (R96). -/
def execCommitOpen (cnt crc : BitVec 16) (s : State) : Host.Outcome State Fault Refusal :=
  ok (hspRun OP_COMMIT 0 cnt.toNat [] crc.toNat s)

/-- COMMIT_APPLY (R96). -/
def execCommitApply (cnt crc : BitVec 16) (s : State) : Host.Outcome State Fault Refusal :=
  ok (hspRun OP_COMMIT 1 cnt.toNat [] crc.toNat s)

/-- COMMIT_DISCARD (R96). -/
def execCommitDiscard (cnt crc : BitVec 16) (s : State) : Host.Outcome State Fault Refusal :=
  ok (hspRun OP_COMMIT 2 cnt.toNat [] crc.toNat s)

/-- ZEROIZE (R81). -/
def execZeroize (addr : BitVec 24) (cnt crc : BitVec 16) (s : State) : Host.Outcome State Fault Refusal :=
  ok (hspRun OP_ZEROIZE addr.toNat cnt.toNat [] crc.toNat s)

/-- WINDOW_READ (R94). -/
def execWindowRead (addr : BitVec 24) (cnt crc : BitVec 16) (s : State) : Host.Outcome State Fault Refusal :=
  ok (hspRun OP_WINDOW addr.toNat cnt.toNat [] crc.toNat s)

/-- RESET_MODE (R80): single mode; recorded as OK, the device drives nothing. DESIGN CHOICE (log 79): the return to single mode
clears SYS_HSPCFG.QUAD, the bit that selects the mode; the spec says only that the port returns to single mode. -/
def execResetMode (s : State) : Host.Outcome State Fault Refusal :=
  if !hspAnswers s then ok s
  else
    let s := hspSnap s
    let s := (s.put F.SYS_HSPST_LAST (hspFlags s)).put F.SYS_HSPCFG_QUAD 0
    ok { s with hsp := { s.hsp with resp := none } }

/-- UNDEFINED_OPCODE (R83): a transaction with an opcode that R78 does not define. -/
def execUndefinedOpcode (op : BitVec 8) (addr : BitVec 24) (cnt crc : BitVec 16) (s : State) : Host.Outcome State Fault Refusal :=
  ok (if opDefined op.toNat then s else hspRun op.toNat addr.toNat cnt.toNat [] crc.toNat s)

/-- TRUNCATED_TRANSACTION (R83, R106): the end edge comes too early; LENGTH, nothing takes effect. -/
def execTruncatedTransaction (s : State) : Host.Outcome State Fault Refusal :=
  if !hspAnswers s then ok s
  else
    let s := hspSnap s
    let s := hspRecord s (HS_LENGTH + hspFlags s)
    ok { s with hsp := { s.hsp with resp := none } }

/-! ## The tunnel (R101 to R103, R648, R649) -/

/-- SYS_TUNST reaches a final state; source 6 follows DONE. -/
def tunEnd (s : State) (state : Nat) : State :=
  let s := { s with hsp := { s.hsp with tun := none, tunBuf := [] } }
  ((s.put F.SYS_TUNST_STATE state).mark F.SYS_TUNST_DONE true).level 6 true

/-- TUNNEL_TIMEOUT (R103). -/
def execTunnelTimeout (s : State) : Host.Outcome State Fault Refusal := ok (if s.hsp.tun.isSome && s.clk.present then tunEnd s 3 else s)

/-- The partner answers a transaction under its tag. -/
def tunReply (s : State) (tag st : Nat) (ws : List Word) : State :=
  let n := segCount ws.length
  forEach (upto n) (fun s k =>
    hgSend s VC_CTRL T_REG_RSP 0 (segParam tag k n) ([st, 0, 0, 0] ++ bytesOfLe 4 (s.get F.SYS_EPOCH_EPOCH) ++ wordBytes (segWords ws k))) s

/-- An incomplete transaction ends: LENGTH, recorded and counted, nothing of it takes effect (R649, R85, R101). -/
def tunBroken (s : State) (tag : Nat) : State :=
  let s := hspSnap { s with hg := { s.hg with tun := none } }
  let st := HS_LENGTH + hspFlags s
  tunReply (hspRecord s st) tag st []

/-- A complete transaction runs at the partner as on its own port (R101). Its tag is the last one once it has run, so that a
tunnelled read of SYS_TUNLAST shows the transaction before it (R103). -/
def tunRun (s : State) (t : TunIn) : State :=
  let s := hspSnap { s with hg := { s.hg with tun := none } }
  let code := if t.op = OP_TICK then HS_OPCODE else localCode s t.op t.addr t.count t.words
  let r := hspLocal (.tunnel 0) s t.op t.addr t.count t.words code
  tunReply (r.1.put F.SYS_TUNLAST_TAG t.tag) t.tag r.2.1 r.2.2

/-- The words in a segment's body, behind its 8 bytes. -/
def bodyWords (b : List Nat) : List Word := (upto ((b.length - 8) / 4)).map (fun i => BitVec.ofNat 32 (leOfBytes ((b.drop (8 + 4 * i)).take 4)))

/-- A segment joins the transaction that it continues or begins, and runs it when it is the last. -/
def tunTake (s : State) (t : TunIn) (last : Bool) : State :=
  if last then tunRun s t else { s with hg := { s.hg with tun := some t } }

/-- REG_REQ (R649). -/
def execRegReq (x : Fin 2) (s : State) : Host.Outcome State Fault Refusal :=
  onMsg s x T_REG_REQ (fun r s =>
    let tag := r.msg.param % 65536
    let seg := r.msg.param / 65536 % 256
    let last := bit r.msg.param 24
    let b := r.msg.body
    let fresh : TunIn := ⟨tag, 1, nth b 0 0, beOfBytes ((b.drop 1).take 3), beOfBytes ((b.drop 4).take 2), bodyWords b, x.val⟩
    if s.devid = 0 ∨ tag = s.get F.SYS_TUNLAST_TAG then s
    else
      match s.hg.tun with
      | none => if seg = 0 then tunTake s fresh last else tunBroken s tag
      | some t =>
        if t.tag = tag then
          (if seg = t.seg then tunTake s { t with seg := t.seg + 1, words := t.words ++ bodyWords b } last else tunBroken s tag)
        else
          let s := tunBroken s t.tag
          if seg = 0 then tunTake s fresh last else tunBroken s tag)

/-- The words that reach the tunnel response window; words beyond them read 0 (R102, R113). DESIGN CHOICE (log 79): a reply
without data words empties the window; the spec does not say whether the data of an earlier reply stay. -/
def responsePut (s : State) (ws : List Word) : State := forEach (upto 1024) (fun s i => s.wr (0x002000 + 4 * i) (nth ws i 0)) s

/-- REG_RSP (R102): a segment of the reply; the last one ends the transaction. A reply under another tag, or from another
device, is not the one awaited; a segment out of order leaves the transaction to its timeout. -/
def execRegRsp (x : Fin 2) (s : State) : Host.Outcome State Fault Refusal :=
  onMsg s x T_REG_RSP (fun r s =>
    let seg := r.msg.param / 65536 % 256
    let b := r.msg.body
    match s.hsp.tun with
    | some (tag, dev) =>
      if r.msg.param % 65536 ≠ tag ∨ r.msg.src ≠ dev ∨ s.hsp.tunBuf.length ≠ 192 * seg then s
      else
        let buf := s.hsp.tunBuf ++ b.drop 8
        if bit r.msg.param 24 then
          let s := responsePut s (bodyWords (List.replicate 8 0 ++ buf))
          tunEnd ((s.put F.SYS_TUNST_RSTAT (nth b 0 0)).put F.SYS_TUNEPOCH_EPOCH (leOfBytes ((b.drop 4).take 4))) 2
        else { s with hsp := { s.hsp with tunBuf := buf } }
    | none => s)

/-- PARTIAL_TUNNEL_TIMEOUT (R673): an incomplete transaction is discarded after 20 ms. -/
def execPartialTunnelTimeout (s : State) : Host.Outcome State Fault Refusal :=
  ok (if s.clk.present then { s with hg := { s.hg with tun := none } } else s)

end Sys2Proof.Machine
end

