-- ==== Sys2Proof/Machine/Power.lean ====
section
/-! DEFINITION. The rows of the power states (ch. 4): RST# and supplies, the steps of start-up, state requests and
transitions; with them the rows of other chapters whose event can end start-up (the group power of R136, a conversion's end,
the end of a zeroize). -/

namespace Sys2Proof.Machine

/-! ## OFF (R114, R122, R124, R125, R151) -/

/-- The image slot whose erase or program is cut short is not VALID (R745). -/
def slotCut (s : State) : Nat :=
  match s.nvm.cmd with
  | some (c, 0) => if c = 1 ∨ c = 2 then setBit s.nvm.valid (nvmIndex s) false else s.nvm.valid
  | _ => s.nvm.valid

/-- OFF: every register and memory of the device is as at reset; the seed store, the session counter that it reserves, the
supplies, RST# and HSCK stand, and test mode lasts. -/
def offState (s : State) : State :=
  let r := State.reset
  let nvm := { s.nvm with valid := slotCut s, cmd := none, act := none, retire := none }
  { r with pending := s.pending, free := s.free, nvm := nvm, jtag := s.jtag, clk := { r.clk with present := s.clk.present }, pwr := { r.pwr with rails := s.pwr.rails, rst := s.pwr.rst, test := s.pwr.test }, hg := { r.hg with session := s.hg.session } }

/-- SYS_RSTCAUSE as the entry to OFF rewrites it. -/
def offCause (s : State) (por pin : Bool) (rail : Nat) : State :=
  ((s.mark F.SYS_RSTCAUSE_POR por).mark F.SYS_RSTCAUSE_PIN pin).put F.SYS_RSTCAUSE_RAIL rail

/-- Every supply is good. -/
def railsGood (s : State) : Bool := s.pwr.rails.all (fun b => b)

/-- The straps as sampled at RST# release (R43, R126, R151). -/
def strapsPut (s : State) (devid : Nat) (clksrc test0 io33 : Bool) : State :=
  let s := ((s.put F.SYS_STRAP_DEVID devid).mark F.SYS_STRAP_CLKSRC clksrc).mark F.SYS_STRAP_TEST0 test0
  (s.mark F.CLK_STAT_SRC clksrc).mark F.MON_VIO_IO33 io33

/-- RST_ASSERT: RST# goes low. A pulse of less than 1 µs (`short`, RST# high again at its end) is ignored or taken as an
assertion; which of the two is free (R124). -/
def execRstAssert (short : Bool) (s : State) : Host.Outcome State Fault Refusal :=
  if s.pwr.rst then ok s
  else if short then
    let v := s.fresh 2
    if v.1 = 0 then ok v.2
    else
      let t := offCause (offState v.2) false true 0
      let t := { t with pwr := { t.pwr with armed := !s.pwr.test } }
      ok (forwardFollow (strapsPut t s.devid (s.flag F.SYS_STRAP_CLKSRC) (s.flag F.SYS_STRAP_TEST0) (s.flag F.MON_VIO_IO33)))
  else
    let t := offCause (offState s) false true 0
    ok { t with pwr := { t.pwr with rst := true } }

/-- SUPPLY_LOSS: supply `v` leaves its range; `lost` says that the register's own contents went with it (R125, R151). -/
def execSupplyLoss (v : Fin 7) (lost : Bool) (s : State) : Host.Outcome State Fault Refusal :=
  let was := railsGood s
  let rails := setNth s.pwr.rails v.val false
  if !nth s.pwr.rails v.val false then ok s
  else if was then
    let t := offCause (offState s) lost false (if lost then 0 else 2 ^ v.val)
    ok { t with pwr := { t.pwr with rails := rails } }
  else
    let s := { s with pwr := { s.pwr with rails := rails } }
    ok (if s.flag F.SYS_RSTCAUSE_POR then s else s.putBit F.SYS_RSTCAUSE_RAIL v.val true)

/-! ## Release (R24, R126, R788) -/

/-- The session counter's next value lies in a block that has not been used (R655). -/
def sessionBlock (n : Nat) : Nat := ceilDiv n 65536 * 65536

/-- RST# is released, by the pin or by the power-on detector: the straps are sampled, time runs from here; with TEST0 high
test mode starts and nothing further. -/
def release124 (s : State) (devid : Nat) (clksrc test0 io33 : Bool) : State :=
  let s := strapsPut s devid clksrc test0 io33
  let s := { s with time := State.reset.time, hg := { s.hg with session := sessionBlock s.hg.session } }
  forwardFollow { s with pwr := { s.pwr with rst := false, test := test0, armed := !test0 } }

/-- The conditions of R124 hold: start-up begins. -/
def startTry (s : State) : State :=
  if s.pwr.armed && !s.pwr.rst && railsGood s && s.clk.present && decide (s.pstate = OFF) && s.pwr.start.isNone && !s.pwr.offResp then
    startBegin s
  else s

/-- SUPPLY_GOOD: supply `v` is good again. The last one ends the power-on detector's hold; with RST# high this is the release,
and the straps are sampled (R122, R124). -/
def execSupplyGood (v : Fin 7) (devid : Fin 4) (clksrc test0 io33 : Bool) (s : State) : Host.Outcome State Fault Refusal :=
  if nth s.pwr.rails v.val false then ok s
  else
    let s := { s with pwr := { s.pwr with rails := setNth s.pwr.rails v.val true } }
    ok (if railsGood s && !s.pwr.rst then release124 s devid.val clksrc test0 io33 else s)

/-- RST_RELEASE: RST# goes high, with the pins' levels; `met` says that the times of R124 have passed already. -/
def execRstRelease (devid : Fin 4) (clksrc test0 io33 met : Bool) (s : State) : Host.Outcome State Fault Refusal :=
  if !s.pwr.rst then ok s
  else if !railsGood s then ok { s with pwr := { s.pwr with rst := false } }
  else
    let s := release124 s devid.val clksrc test0 io33
    ok (if met then startTry s else s)

/-- STARTUP_CONDITIONS_MET: the conditions that did not hold at release hold now (R124). -/
def execStartupConditionsMet (s : State) : Host.Outcome State Fault Refusal := ok (startTry s)

/-! ## The self-tests (R126, R128, R129, R133) -/

/-- SELF_TEST_PHASE_A_END. -/
def execSelfTestPhaseAEnd (pass : Bool) (s : State) : Host.Outcome State Fault Refusal :=
  if stepRuns s 3 && s.clk.present then
    let s := if pass then s.mark F.PWR_BOOTST_PHA_OK true else startFail s 1
    ok (stepsGo (stepEnd s 3))
  else ok s

/-- A faulty row is repaired from the repair map, or by a new entry in it; false with no spare row left. -/
def rowFix (s : State) (r : Nat) : State × Bool :=
  if s.nvm.rows.contains r then (s, true)
  else if 256 ≤ s.nvm.rows.length then (s, false)
  else
    let s := anchorWrite { s with nvm := { s.nvm with rows := s.nvm.rows ++ [r] }, swa := { s.swa with repaired := s.nvm.rows ++ [r] } }
    (s.put F.SWA_REP_USED s.nvm.rows.length, true)

/-- The repairs of phase B: rows of the swath, Furrow-F cores (a mask), sectors of the store. -/
def phaseBFix (s : State) (rows : List Nat) (cores : Nat) (sectors : List Nat) : State × Bool :=
  let r := rows.foldl (fun (a : State × Bool) n => let x := rowFix a.1 n; (x.1, a.2 && x.2)) (s, true)
  let s := forEach (ones 4 cores) (fun s c => if coreState s c = C_RETIRED then s else retireMap (coreRetired s c) c) r.1
  let s := forEach sectors sectorRetire s
  (if rows.isEmpty && cores == 0 && sectors.isEmpty then s else s.mark F.PWR_BOOTST_REPAIRED true, r.2)

/-- SELF_TEST_PHASE_B_END: `fail` is a failure outside the repairable units; the rest are the faulty units found. In start-up
the ports begin training and steps 5, 7 and 8 run; deferred to an exit from SENTRY, a failure turns its target to SERVICE. -/
def execSelfTestPhaseBEnd (fail : Bool) (rows : List (Fin 32768)) (cores : BitVec 4) (sectors : List (Fin 512)) (s : State) : Host.Outcome State Fault Refusal :=
  if !s.clk.present then ok s
  else if stepRuns s 4 then
    let r := phaseBFix s (rows.map (·.val)) cores.toNat (sectors.map (·.val))
    let good := !fail && r.2
    let s := stepEnd (if good then r.1.mark F.PWR_BOOTST_PHB_OK true else startFail r.1 2) 4
    let s := hgStart (hgStart s 0) 1
    ok (stepsGo (if stepRuns s 8 then selfStart s else s))
  else if transWaits s .phaseB && !transWaits s .lock then
    let r := phaseBFix s (rows.map (·.val)) cores.toNat (sectors.map (·.val))
    let good := !fail && r.2
    let s := (transDone r.1 .phaseB).mark F.PWR_STATE_PHB_DUE false
    let s := s.mark F.PWR_BOOTST_PHB_OK good
    let s := if good then s else
      let s := faultPin (failRecord s 2) true
      let s := { s with pwr := { s.pwr with trans := s.pwr.trans.map (fun (x : TransSt) => { x with target := SERVICE, cause := 7, divert := true }) } }
      s.put F.PWR_STATE_TARGET SERVICE
    ok (selfStart (s.event 5))
  else ok s

/-! ## Mount and images (R126, R130, R133, R362, R728, R739) -/

/-- The boot record's values are in force (R130, R739), and shown in NVM_BOOT. -/
def bootApply (s : State) : State :=
  let b := bootDefault s
  let f := fun (i : Nat) => nth b i 0
  let s := s.put F.PWR_CFG_START (if f 0 = 2 then 2 else 1)
  let s := ((s.mark F.PWR_CFG_WAKE_GO (bit (f 1) 0)).mark F.PWR_CFG_STAGGER (bit (f 1) 1)).mark F.PWR_CFG_HG_KEEP (bit (f 1) 2)
  let s := (s.put F.PWR_MICT_TSU (f 2)).put F.PWR_MICT_TMC (f 3)
  let s := s.wr A.CLK_PDM (BitVec.ofNat 32 (setBits (s.rd A.CLK_PDM).toNat 0 16 (leOfBytes ((b.drop 4).take 2))))
  let s := s.put F.MIC_PWRCTL_EN (f 6)
  (s.put F.NVM_BOOT_BOOT (leOfBytes (b.take 4))).put F.NVM_BOOT2_BOOT (leOfBytes ((b.drop 4).take 3))

/-- What the mount reads from the anchor and the slots (R728, R740, R741, R752): the repair map is in force. -/
def mountShow (s : State) : State :=
  let s := nvmShow s
  let s := { s with swa := { s.swa with repaired := s.nvm.rows } }
  let s := s.put F.SWA_REP_USED s.nvm.rows.length
  let s := forEach s.nvm.cores (fun s c => if coreState s c = C_RETIRED then s else coreRetired s c) s
  forEach (upto 6) (fun s k => s.put (F.NVM_VERk_VERSION k) (if bit s.nvm.valid k then leOfBytes (memRead (s.slotMem k) 6 2) else 0)) s

/-- A slot of the image kind is VALID. -/
def anySlot (s : State) (kind : Nat) : Bool := bit s.nvm.valid (slotIndex kind 0) || bit s.nvm.valid (slotIndex kind 1)

/-- NVM_MOUNT: step 5 ends with `copies` valid copies of the anchor (R728). -/
def execNvmMount (copies : Fin 3) (s : State) : Host.Outcome State Fault Refusal :=
  if stepRuns s 5 && s.clk.present then
    if copies.val = 0 then ok (stepsGo (stepEnd (startFail s 3) 5))
    else
      let s := ((s.mark F.NVM_ST_MOUNTED true).mark F.PWR_BOOTST_MOUNT_OK true).put F.NVM_ST_ANCH copies.val
      let s := bootApply (mountShow s)
      let watch := decide (s.get F.PWR_CFG_START = 2) && decide (s.clk.cls ≠ 1)
      let s := { s with pwr := { s.pwr with start := s.pwr.start.map (fun t => { t with watch := watch }) } }
      let s := if anySlot s 1 && anySlot s 2 then s else startFail s 5
      let s := stepEnd (if watch then s else stepDrop s [9, 10]) 5
      ok (stepsGo (step10 s))
  else ok s

/-- An image kind's slot is not the active one: the alternate is in use (R130). -/
def altNote (s : State) (kind slot : Nat) : State := if slot = activeSlot s kind then s else s.mark F.PWR_BOOTST_ALT_IMG true

/-- IMG_OK once every image of the path is loaded and verified (R150). -/
def imagesOk (s : State) : State :=
  match s.pwr.start with
  | some t => if t.row = 0 && t.done.contains 6 && (t.done.contains 9 || !t.watch) then s.mark F.PWR_BOOTST_IMG_OK true else s
  | none => s

/-- SENTRY_IMAGE_LOAD_END: step 6 ends; the sentry core stands loaded. -/
def execSentryImageLoadEnd (s : State) : Host.Outcome State Fault Refusal :=
  if stepRuns s 6 && s.clk.present then
    match slotChoose s 3 with
    | some (sl, img) => ok (stepsGo (imagesOk (setCoreState (altNote (sentryLoad (stepEnd s 6) img sl) 3 sl) SENT C_HALT)))
    | none => ok (stepsGo (stepEnd (startFail s 4) 6))
  else ok s

/-- The seed records of the store, in the order of their writing. -/
def seedIds (s : State) : List Nat :=
  let ids := ((allFrags s).filter (fun f => f.typ == R_SEED && f.last && (recSeq s R_SEED f.id == some f.seq))).map (fun f => (f.seq, f.id))
  (ids.mergeSort (fun a b => decide (a.1 ≤ b.1))).map (·.2)

/-- The seeds of the store go into their slots (R274, R275): a record that does not check or is refused is left out. -/
def seedsLoad (s : State) : State :=
  forEach (seedIds s) (fun s id =>
    match recGet s R_SEED id with
    | some r => if installRefusal s r = 0 then recInstall s (r.take (recTotal r)) else s
    | none => s) s

/-- The microphone map of the store (R740). -/
def mapLoad (s : State) : State :=
  match recGet s R_MAP 0 with
  | some b =>
    if b.length = 132 then
      let w := fun (i : Nat) => BitVec.ofNat 32 (leOfBytes ((b.drop (4 * i)).take 4))
      storeWords s ((upto 32).map (fun n => (A.MIC_MAPn n, w n)) ++ [(A.MIC_SPARE, w 32)])
    else s
  | none => s

/-- Seeds, map and calibration values (R121, R126 step 9): seeds and map once after start-up. -/
def storeLoad (s : State) : State :=
  let s := if s.pwr.seeded then s else mapLoad (seedsLoad s)
  let s := (calLoadAll s).1
  { s with pwr := { s.pwr with seeded := true } }

/-- The images of the core domain are loaded (R362): the cores and the Scarecrow stand loaded, the task tables wait for the
configuration commit. None where a kind has no valid image. -/
def imagesLoad (s : State) : Option State :=
  match slotChoose s 1, slotChoose s 2 with
  | some (a, f), some (b, c) =>
    let s := scareLoad (furrowLoad s f a) c b
    let s := forEach [0, 1, 2, 3, 5] (fun s c => if coreState s c = C_RETIRED then s else setCoreState s c C_HALT) s
    let ws := imageTasks { f with sections := f.sections.filter (fun e => decide (coreState s e.2.1 ≠ C_RETIRED)) }
    some { s with frw := { s.frw with swapTasks := ws } }
  | _, _ => none

/-- IMAGE_LOAD_END: step 9 ends, or the loading of an exit from SENTRY, which no valid image ends in SERVICE (R133). DESIGN
CHOICE (log 21): PWR_STATE.CAUSE reads 7 at that entry, which R133 does not state for this case. -/
def execImageLoadEnd (s : State) : Host.Outcome State Fault Refusal :=
  if !s.clk.present then ok s
  else if stepRuns s 9 then
    match imagesLoad s with
    | some t => ok (stepsGo (imagesOk (stepEnd (storeLoad (altNote (altNote t 1 (t.get F.FRW_IMG_FACT)) 2 (t.get F.FRW_IMG_SACT))) 9)))
    | none => ok (stepsGo (stepEnd (startFail s 5) 9))
  else if transWaits s .images && !transWaits s .lock && !transWaits s .phaseB then
    let s := storeLoad (transDone s .images)
    match imagesLoad s with
    | some t => ok t
    | none =>
      let s := failRecord s 5
      let s := { s with pwr := { s.pwr with trans := s.pwr.trans.map (fun (x : TransSt) => { x with target := SERVICE, cause := 7, divert := true }) } }
      ok (s.put F.PWR_STATE_TARGET SERVICE)
  else ok s

/-- BOOT_CONFIG_COMMIT: step 11. The image's task tables are the boot configuration's checked words; WATCH is entered. -/
def execBootConfigCommit (s : State) : Host.Outcome State Fault Refusal :=
  match s.pwr.start with
  | some t =>
    if stepsOver s && decide (t.row = 0) && t.watch && s.clk.present then
      let ws := s.frw.swapTasks
      let d := admitWords s ws false
      let s := { s with frw := { s.frw with swapTasks := [] } }
      let s := if d.isNone then admitted ((storeWords s ws).bump64 A.FRW_ADM_ACC_LO 1) else s.bump64 A.FRW_ADM_REF_LO 1
      ok (firstArrive s WATCH 0)
    else ok s
  | none => ok s

/-! ## Rows of other chapters that can end start-up -/

/-- MIC_GROUP_POWER_UP (R136): with STAGGER = 1 the next group's MICPWR asserts, else those of every group due. -/
def execMicGroupPowerUp (s : State) : Host.Outcome State Fault Refusal :=
  if groupsMay s then
    let l := groupsDue s
    ok (stepsGo (step10 (forEach (if s.flag F.PWR_CFG_STAGGER then l.take 1 else l) groupUp s)))
  else ok s

/-- TSU_END (R137): the start-up interval of group `g` ends. In SENTRY a change of the sentry input to another group then
powers the old one down (R162). -/
def execTsuEnd (g : Fin 4) (s : State) : Host.Outcome State Fault Refusal :=
  let g := g.val
  if !s.clk.present then ok s else
  let s := forEach (groupInputs g) (fun s p => settleEnd s p .tsu) s
  let s := match s.mic.oldGroup with
    | some o => if s.pstate = SENTRY ∧ sentryIn s / 8 = g ∧ o ≠ g then groupDown { s with mic := { s.mic with oldGroup := none } } o else s
    | none => s
  ok (stepsGo (step10 s))

/-- CONVERSION_END: the slot of converter `x` ends with the raw code `raw`. -/
def execConversionEnd (x : Fin 2) (raw : BitVec 12) (s : State) : Host.Outcome State Fault Refusal :=
  if adcRuns s then
    let r := convEnd s x.val raw.toNat
    ok (match r.2 with | some g => stepsGo (selfOutcome r.1 g) | none => r.1)
  else ok s

/-- ZEROIZE_SWEEP_DONE (R318): the sweep over the swath, or with `short` over the short swath, ends. -/
def execZeroizeSweepDone (short : Bool) (s : State) : Host.Outcome State Fault Refusal :=
  if s.clk.present && (if short then s.swa.zss else s.swa.zsw) then
    let at7 := stepRuns s 7
    let s := transDone (zeroDone s short) (if short then .zeroShort else .zeroSwath)
    -- R120: step 4 of a SENTRY entry follows step 3
    let s := if !short && s.awake && transWaits s .zeroShort && !transWaits s .zeroSwath then zeroShortStart s else s
    ok (stepsGo (if at7 && !s.swa.zsw && !s.swa.zss then stepEnd s 7 else s))
  else ok s

/-- PATROL_SCRUB (R303): the scrub passes row `r`, with `corrected` corrected words; `found` names the words found
uncorrectable, of which one on the safety strip is an event of diagnostic 14 (R699), and beside them the words that upsets
have struck elsewhere, which the next read or pass finds (DESIGN CHOICE, log 77: no row of the table brings an upset by
itself). -/
def execPatrolScrub (r : Fin 32768) (corrected : BitVec 8) (found : List (Fin 128) × List (Bool × Bool × Fin 4194304)) (s : State) :
    Host.Outcome State Fault Refusal :=
  ok (if s.coreRuns && s.awake then
    wordsStruck (scrubRow s r.val corrected.toNat (found.1.map (fun i => 1024 * r.val + 8 * i.val))) (found.2.map (fun e => (e.1, e.2.1, e.2.2.val)))
  else s)

/-! ## Transitions (R117 to R121, R140, R147) -/

/-- STATE_REQUEST: a write of PWR_REQ.TARGET by the origin `o` requests a state. -/
def execStateRequest (o : Origin) (target : Fin 6) (s : State) : Host.Outcome State Fault Refusal :=
  if blockResponds s A.PWR_REQ && s.pwr.start.isNone && (checkRequest s target.val).isNone &&
      (decide (s.pstate ≠ SENTRY) || decide (s.clk.cls = 1) || (checkDeferred s).isNone) then
    ok (requestState s target.val (if byHost o then 1 else 2))
  else ok s

/-- The configuration commit of an exit refuses: the device stays in SENTRY, the deferred words wait (R140). -/
def exitRefused (s : State) : State :=
  let s := { s with pwr := { s.pwr with trans := none }, frw := { s.frw with swapTasks := [] }, swa := { s.swa with zsw := false } }
  let s := ((s.mark F.PWR_STATE_TRANS false).put F.PWR_STATE_TARGET 0).put F.SWA_ST_ZBUSY (2 * b2n s.swa.zss)
  let s := adcSentry s
  let s := forEach [0, 1, 2, 3, 5] coreGate (wdoFollow (s.mark F.CLK_STAT_LOCK false))
  let s := forEach ((upto 4).filter (fun g => decide (g ≠ sentryIn s / 8))) groupDown s
  monSentry (coreMemLost s)

/-- The judgement of an exit's configuration commit: the task tables loaded, and the deferred words (R121, R140, R362). -/
def exitDeny (s : State) : Deny :=
  let ws := s.frw.swapTasks ++ deferredWords s
  let t := candidate s ws
  if ws.isEmpty then none else firstDeny [checkFields s t ws, checkConsistency s t ws false, checkCapacity s t ws]

/-- An exit from SENTRY arrives (R121): the configuration commit, then WATCH or SERVICE with everything running. -/
def exitArrive (s : State) (t : TransSt) : State :=
  match exitDeny s with
  | some _ => (exitRefused s).bump64 A.FRW_ADM_REF_LO 1
  | none =>
    let ws := s.frw.swapTasks
    let any := !ws.isEmpty || !s.pwr.deferred.isEmpty
    let s := enterState { s with frw := { s.frw with swapTasks := [] } } t.target t.cause
    let s := applyDeferred (coresStart (storeWords s ws))
    let s := if any then admitted (s.bump64 A.FRW_ADM_ACC_LO 1) else s
    wakesDeliver (sentryFollow (unitsStart (micWake s)))

/-- A transition between states with the core domain running arrives (R118, R119, R147, R286, R598): unload follows RECORD, an
enrolment ends where WATCH and SERVICE are left, manual regulation ends with SERVICE. -/
def plainArrive (s : State) (t : TransSt) : State :=
  let from_ := s.pstate
  let s := if (from_ = WATCH ∨ from_ = SERVICE) ∧ t.target ≠ WATCH ∧ t.target ≠ SERVICE then enrEnd s 4 else s
  let s := if from_ = SERVICE then manClear s else s
  let s := if t.target = SERVICE ∨ from_ = SERVICE then disarm s else s
  let s := enterState (s.mark F.PWR_STATE_REC (decide (t.target = RECORD))) t.target t.cause
  let s := if t.target = RECORD then unloadBegin s else unloadEnd s
  if t.target = SERVICE then sentryFollow s else s

/-- TRANSITION_COMPLETE: what the transition waits for has happened; its target is entered. An exit from SENTRY that a plan of
class 1 overtakes waits for a plan of class 2 to 4 (R38). -/
def execTransitionComplete (s : State) : Host.Outcome State Fault Refusal :=
  match s.pwr.trans with
  | some t =>
    if t.waits ≠ [] ∨ !s.clk.present ∨ s.clk.phase ≠ .run then ok s
    else if t.target = SENTRY then ok (wakesDeliver (sentryArrive (if s.pstate = SERVICE then manClear s else s) t.cause))
    else if s.pstate = SENTRY then ok (if s.clk.cls = 1 then s else exitArrive s t)
    else ok (plainArrive s t)
  | none => ok s

end Sys2Proof.Machine
end

