-- ==== Sys2Proof/Machine/Dispatch.lean ====
section
/-! DEFINITION. One arm per command: each calls its meaning. -/

namespace Sys2Proof.Machine

def exec (i : Instr) (s : State) : Host.Outcome State Fault Refusal :=
  match i with
  | .hsckLoss => Sys2Proof.Machine.execHsckLoss s
  | .hsckReturn => Sys2Proof.Machine.execHsckReturn s
  | .longLoss => Sys2Proof.Machine.execLongLoss s
  | .wdoWindow count => Sys2Proof.Machine.execWdoWindow count s
  | .referenceTrack => Sys2Proof.Machine.execReferenceTrack s
  | .multiplierLock => Sys2Proof.Machine.execMultiplierLock s
  | .planResume => Sys2Proof.Machine.execPlanResume s
  | .planFail => Sys2Proof.Machine.execPlanFail s
  | .lockLoss => Sys2Proof.Machine.execLockLoss s
  | .tick addr cnt crc => Sys2Proof.Machine.execTick addr cnt crc s
  | .write addr cnt data crc => Sys2Proof.Machine.execWrite addr cnt data crc s
  | .read addr cnt crc => Sys2Proof.Machine.execRead addr cnt crc s
  | .status addr cnt crc => Sys2Proof.Machine.execStatus addr cnt crc s
  | .commitOpen cnt crc => Sys2Proof.Machine.execCommitOpen cnt crc s
  | .commitApply cnt crc => Sys2Proof.Machine.execCommitApply cnt crc s
  | .commitDiscard cnt crc => Sys2Proof.Machine.execCommitDiscard cnt crc s
  | .zeroize addr cnt crc => Sys2Proof.Machine.execZeroize addr cnt crc s
  | .windowRead addr cnt crc => Sys2Proof.Machine.execWindowRead addr cnt crc s
  | .resetMode => Sys2Proof.Machine.execResetMode s
  | .undefinedOpcode op addr cnt crc => Sys2Proof.Machine.execUndefinedOpcode op addr cnt crc s
  | .truncatedTransaction => Sys2Proof.Machine.execTruncatedTransaction s
  | .tunnelTimeout => Sys2Proof.Machine.execTunnelTimeout s
  | .admissionDecision => Sys2Proof.Machine.execAdmissionDecision s
  | .registerWrite o a w => Sys2Proof.Machine.execRegisterWrite o a w s
  | .rstAssert short => Sys2Proof.Machine.execRstAssert short s
  | .supplyLoss v lost => Sys2Proof.Machine.execSupplyLoss v lost s
  | .supplyGood v devid clksrc test0 io33 => Sys2Proof.Machine.execSupplyGood v devid clksrc test0 io33 s
  | .rstRelease devid clksrc test0 io33 met => Sys2Proof.Machine.execRstRelease devid clksrc test0 io33 met s
  | .selfTestPhaseAEnd pass => Sys2Proof.Machine.execSelfTestPhaseAEnd pass s
  | .selfTestPhaseBEnd fail rows cores sectors => Sys2Proof.Machine.execSelfTestPhaseBEnd fail rows cores sectors s
  | .nvmMount copies => Sys2Proof.Machine.execNvmMount copies s
  | .sentryImageLoadEnd => Sys2Proof.Machine.execSentryImageLoadEnd s
  | .imageLoadEnd => Sys2Proof.Machine.execImageLoadEnd s
  | .micGroupPowerUp => Sys2Proof.Machine.execMicGroupPowerUp s
  | .bootConfigCommit => Sys2Proof.Machine.execBootConfigCommit s
  | .stateRequest o target => Sys2Proof.Machine.execStateRequest o target s
  | .transitionComplete => Sys2Proof.Machine.execTransitionComplete s
  | .tsuEnd g => Sys2Proof.Machine.execTsuEnd g s
  | .tmcEnd p => Sys2Proof.Machine.execTmcEnd p s
  | .powerCycle g => Sys2Proof.Machine.execPowerCycle g s
  | .powerCycleOffEnd g => Sys2Proof.Machine.execPowerCycleOffEnd g s
  | .stuckAt p v => Sys2Proof.Machine.execStuckAt p v s
  | .densityEvent p n => Sys2Proof.Machine.execDensityEvent p n s
  | .neighbourEvent p => Sys2Proof.Machine.execNeighbourEvent p s
  | .suspectClear p => Sys2Proof.Machine.execSuspectClear p s
  | .partnerDeafCheck => Sys2Proof.Machine.execPartnerDeafCheck s
  | .latchClr p => Sys2Proof.Machine.execLatchClr p s
  | .sentryInChange p => Sys2Proof.Machine.execSentryInChange p s
  | .mapChange n => Sys2Proof.Machine.execMapChange n s
  | .calStart => Sys2Proof.Machine.execCalStart s
  | .calTargetEnd => Sys2Proof.Machine.execCalTargetEnd s
  | .calSave => Sys2Proof.Machine.execCalSave s
  | .calLoad => Sys2Proof.Machine.execCalLoad s
  | .fineChainOutput n bs differs => Sys2Proof.Machine.execFineChainOutput n bs differs s
  | .glanceOutput n bs differs => Sys2Proof.Machine.execGlanceOutput n bs differs s
  | .sentryDecimatorOutput bs differs => Sys2Proof.Machine.execSentryDecimatorOutput bs differs s
  | .bankSwap n => Sys2Proof.Machine.execBankSwap n s
  | .calibrationChange p => Sys2Proof.Machine.execCalibrationChange p s
  | .routeChange d => Sys2Proof.Machine.execRouteChange d s
  | .fadeComplete route k => Sys2Proof.Machine.execFadeComplete route k s
  | .syncPinEdge => Sys2Proof.Machine.execSyncPinEdge s
  | .syncNow => Sys2Proof.Machine.execSyncNow s
  | .syncAct => Sys2Proof.Machine.execSyncAct s
  | .sadFrame u => Sys2Proof.Machine.execSadFrame u s
  | .seedingEnd u => Sys2Proof.Machine.execSeedingEnd u s
  | .sustained u => Sys2Proof.Machine.execSustained u s
  | .floorRail u => Sys2Proof.Machine.execFloorRail u s
  | .reseed u => Sys2Proof.Machine.execReseed u s
  | .wakeinDebounce mark => Sys2Proof.Machine.execWakeinDebounce mark s
  | .wakeinRelease => Sys2Proof.Machine.execWakeinRelease s
  | .wakeClear att qual more => Sys2Proof.Machine.execWakeClear att qual more s
  | .prewakeTimeout => Sys2Proof.Machine.execPrewakeTimeout s
  | .prewakeGapEnd => Sys2Proof.Machine.execPrewakeGapEnd s
  | .partnerPrewakeTimeout p => Sys2Proof.Machine.execPartnerPrewakeTimeout p s
  | .featureFrame ins late stopLate lanes => Sys2Proof.Machine.execFeatureFrame ins late stopLate lanes s
  | .evqPop n => Sys2Proof.Machine.execEvqPop n s
  | .install slot => Sys2Proof.Machine.execInstall slot s
  | .save slot => Sys2Proof.Machine.execSave slot s
  | .recExport slot => Sys2Proof.Machine.execExport slot s
  | .erase slot => Sys2Proof.Machine.execErase slot s
  | .recOpen slot => Sys2Proof.Machine.execOpen slot s
  | .put slot => Sys2Proof.Machine.execPut slot s
  | .close slot => Sys2Proof.Machine.execClose slot s
  | .recordActionDone => Sys2Proof.Machine.execRecordActionDone s
  | .seedVerifyDone k => Sys2Proof.Machine.execSeedVerifyDone k s
  | .slotArm k b => Sys2Proof.Machine.execSlotArm k b s
  | .enrolmentStart slot input count => Sys2Proof.Machine.execEnrolmentStart slot input count s
  | .enrolmentAbort => Sys2Proof.Machine.execEnrolmentAbort s
  | .enrolmentBuild => Sys2Proof.Machine.execEnrolmentBuild s
  | .enrolmentTimeout => Sys2Proof.Machine.execEnrolmentTimeout s
  | .swathBlockStart k => Sys2Proof.Machine.execSwathBlockStart k s
  | .shortSwathBlockStart => Sys2Proof.Machine.execShortSwathBlockStart s
  | .mittenRelease o => Sys2Proof.Machine.execMittenRelease o s
  | .mittenIdleTimeout => Sys2Proof.Machine.execMittenIdleTimeout s
  | .unloadBlockSend k => Sys2Proof.Machine.execUnloadBlockSend k s
  | .uack k upTo => Sys2Proof.Machine.execUack k upTo s
  | .zswath => Sys2Proof.Machine.execZswath s
  | .zshort => Sys2Proof.Machine.execZshort s
  | .zeroizeSweepDone short => Sys2Proof.Machine.execZeroizeSweepDone short s
  | .patrolScrub r corrected found => Sys2Proof.Machine.execPatrolScrub r corrected found s
  | .rowRepair r => Sys2Proof.Machine.execRowRepair r s
  | .taskRelease c t => Sys2Proof.Machine.execTaskRelease c t s
  | .budgetFault c => Sys2Proof.Machine.execBudgetFault c s
  | .initOverrun c => Sys2Proof.Machine.execInitOverrun c s
  | .sentryCoreRestart => Sys2Proof.Machine.execSentryCoreRestart s
  | .storeDrain c => Sys2Proof.Machine.execStoreDrain c s
  | .loadReturn c => Sys2Proof.Machine.execLoadReturn c s
  | .coreEccPatrol c m a found => Sys2Proof.Machine.execCoreEccPatrol c m a found s
  | .coreRun c b => Sys2Proof.Machine.execCoreRun c b s
  | .coreStep c => Sys2Proof.Machine.execCoreStep c s
  | .coreRetire c => Sys2Proof.Machine.execCoreRetire c s
  | .sentryCoreRun b => Sys2Proof.Machine.execSentryCoreRun b s
  | .swapReq => Sys2Proof.Machine.execSwapReq s
  | .swapSwitch => Sys2Proof.Machine.execSwapSwitch s
  | .swapTimeout => Sys2Proof.Machine.execSwapTimeout s
  | .add f => Sys2Proof.Machine.execAdd f s
  | .sub f => Sys2Proof.Machine.execSub f s
  | .and f => Sys2Proof.Machine.execAnd f s
  | .or f => Sys2Proof.Machine.execOr f s
  | .xor f => Sys2Proof.Machine.execXor f s
  | .andn f => Sys2Proof.Machine.execAndn f s
  | .orn f => Sys2Proof.Machine.execOrn f s
  | .sll f => Sys2Proof.Machine.execSll f s
  | .srl f => Sys2Proof.Machine.execSrl f s
  | .sra f => Sys2Proof.Machine.execSra f s
  | .ror f => Sys2Proof.Machine.execRor f s
  | .slt f => Sys2Proof.Machine.execSlt f s
  | .sltu f => Sys2Proof.Machine.execSltu f s
  | .min f => Sys2Proof.Machine.execMin f s
  | .max f => Sys2Proof.Machine.execMax f s
  | .minu f => Sys2Proof.Machine.execMinu f s
  | .maxu f => Sys2Proof.Machine.execMaxu f s
  | .adds f => Sys2Proof.Machine.execAdds f s
  | .subs f => Sys2Proof.Machine.execSubs f s
  | .abs f => Sys2Proof.Machine.execAbs f s
  | .clz f => Sys2Proof.Machine.execClz f s
  | .ctz f => Sys2Proof.Machine.execCtz f s
  | .popc f => Sys2Proof.Machine.execPopc f s
  | .sextb f => Sys2Proof.Machine.execSextb f s
  | .sexth f => Sys2Proof.Machine.execSexth f s
  | .zexth f => Sys2Proof.Machine.execZexth f s
  | .rev8 f => Sys2Proof.Machine.execRev8 f s
  | .addi f => Sys2Proof.Machine.execAddi f s
  | .andi f => Sys2Proof.Machine.execAndi f s
  | .ori f => Sys2Proof.Machine.execOri f s
  | .xori f => Sys2Proof.Machine.execXori f s
  | .shori f => Sys2Proof.Machine.execShori f s
  | .slli f => Sys2Proof.Machine.execSlli f s
  | .srli f => Sys2Proof.Machine.execSrli f s
  | .srai f => Sys2Proof.Machine.execSrai f s
  | .rori f => Sys2Proof.Machine.execRori f s
  | .slti f => Sys2Proof.Machine.execSlti f s
  | .sltiu f => Sys2Proof.Machine.execSltiu f s
  | .cmpEq f => Sys2Proof.Machine.execCmpEq f s
  | .cmpNe f => Sys2Proof.Machine.execCmpNe f s
  | .cmpLt f => Sys2Proof.Machine.execCmpLt f s
  | .cmpGe f => Sys2Proof.Machine.execCmpGe f s
  | .cmpLtu f => Sys2Proof.Machine.execCmpLtu f s
  | .cmpGeu f => Sys2Proof.Machine.execCmpGeu f s
  | .cmpiEq f => Sys2Proof.Machine.execCmpiEq f s
  | .cmpiNe f => Sys2Proof.Machine.execCmpiNe f s
  | .cmpiLt f => Sys2Proof.Machine.execCmpiLt f s
  | .cmpiGe f => Sys2Proof.Machine.execCmpiGe f s
  | .cmpiLtu f => Sys2Proof.Machine.execCmpiLtu f s
  | .cmpiGeu f => Sys2Proof.Machine.execCmpiGeu f s
  | .pand f => Sys2Proof.Machine.execPand f s
  | .por f => Sys2Proof.Machine.execPor f s
  | .pxor f => Sys2Proof.Machine.execPxor f s
  | .pandn f => Sys2Proof.Machine.execPandn f s
  | .porn f => Sys2Proof.Machine.execPorn f s
  | .sel f func => Sys2Proof.Machine.execSel f func s
  | .mfp f => Sys2Proof.Machine.execMfp f s
  | .mtp f => Sys2Proof.Machine.execMtp f s
  | .br f => Sys2Proof.Machine.execBr f s
  | .call f words slot => Sys2Proof.Machine.execCall f words slot s
  | .jalr f func words slot => Sys2Proof.Machine.execJalr f func words slot s
  | .bz f => Sys2Proof.Machine.execBz f s
  | .bnz f => Sys2Proof.Machine.execBnz f s
  | .bltz f => Sys2Proof.Machine.execBltz f s
  | .bgez f => Sys2Proof.Machine.execBgez f s
  | .bgtz f => Sys2Proof.Machine.execBgtz f s
  | .blez f => Sys2Proof.Machine.execBlez f s
  | .bp f => Sys2Proof.Machine.execBp f s
  | .bnp f => Sys2Proof.Machine.execBnp f s
  | .loop f words => Sys2Proof.Machine.execLoop f words s
  | .mtlp f func => Sys2Proof.Machine.execMtlp f func s
  | .mflp f func => Sys2Proof.Machine.execMflp f func s
  | .smac f x y => Sys2Proof.Machine.execSmac f x y s
  | .smsu f x y => Sys2Proof.Machine.execSmsu f x y s
  | .sclr f => Sys2Proof.Machine.execSclr f s
  | .sacx f => Sys2Proof.Machine.execSacx f s
  | .sacset f => Sys2Proof.Machine.execSacset f s
  | .setm f func => Sys2Proof.Machine.execSetm f func s
  | .mtcr f func => Sys2Proof.Machine.execMtcr f func s
  | .mfcr f func => Sys2Proof.Machine.execMfcr f func s
  | .vadd f func => Sys2Proof.Machine.execVadd f func s
  | .vsub f func => Sys2Proof.Machine.execVsub f func s
  | .vadds f func => Sys2Proof.Machine.execVadds f func s
  | .vsubs f func => Sys2Proof.Machine.execVsubs f func s
  | .vmin f func => Sys2Proof.Machine.execVmin f func s
  | .vmax f func => Sys2Proof.Machine.execVmax f func s
  | .vabs f func => Sys2Proof.Machine.execVabs f func s
  | .vand f => Sys2Proof.Machine.execVand f s
  | .vor f => Sys2Proof.Machine.execVor f s
  | .vxor f => Sys2Proof.Machine.execVxor f s
  | .vandn f => Sys2Proof.Machine.execVandn f s
  | .vsll f func => Sys2Proof.Machine.execVsll f func s
  | .vsrl f func => Sys2Proof.Machine.execVsrl f func s
  | .vsra f func => Sys2Proof.Machine.execVsra f func s
  | .vsrar f func => Sys2Proof.Machine.execVsrar f func s
  | .vcmpEq f func => Sys2Proof.Machine.execVcmpEq f func s
  | .vcmpLt f func => Sys2Proof.Machine.execVcmpLt f func s
  | .vcmpLtu f func => Sys2Proof.Machine.execVcmpLtu f func s
  | .vcmpLe f func => Sys2Proof.Machine.execVcmpLe f func s
  | .vbsl f func => Sys2Proof.Machine.execVbsl f func s
  | .vany f func => Sys2Proof.Machine.execVany f func s
  | .vall f func => Sys2Proof.Machine.execVall f func s
  | .vsplat f func => Sys2Proof.Machine.execVsplat f func s
  | .vget f func => Sys2Proof.Machine.execVget f func s
  | .vput f func => Sys2Proof.Machine.execVput f func s
  | .vslide f func => Sys2Proof.Machine.execVslide f func s
  | .vwide f func => Sys2Proof.Machine.execVwide f func s
  | .vnarr f func => Sys2Proof.Machine.execVnarr f func s
  | .vmul f func => Sys2Proof.Machine.execVmul f func s
  | .vmac f func => Sys2Proof.Machine.execVmac f func s
  | .vmsu f func => Sys2Proof.Machine.execVmsu f func s
  | .vmacs f func => Sys2Proof.Machine.execVmacs f func s
  | .vclr f func => Sys2Proof.Machine.execVclr f func s
  | .vext f func => Sys2Proof.Machine.execVext f func s
  | .vacset f func => Sys2Proof.Machine.execVacset f func s
  | .vacget f func => Sys2Proof.Machine.execVacget f func s
  | .vacput f func => Sys2Proof.Machine.execVacput f func s
  | .vacsum f func => Sys2Proof.Machine.execVacsum f func s
  | .ldb f => Sys2Proof.Machine.execLdb f s
  | .ldbu f => Sys2Proof.Machine.execLdbu f s
  | .ldh f => Sys2Proof.Machine.execLdh f s
  | .ldhu f => Sys2Proof.Machine.execLdhu f s
  | .ldw f => Sys2Proof.Machine.execLdw f s
  | .ldvl f => Sys2Proof.Machine.execLdvl f s
  | .ldv f => Sys2Proof.Machine.execLdv f s
  | .stb f => Sys2Proof.Machine.execStb f s
  | .sth f => Sys2Proof.Machine.execSth f s
  | .stw f => Sys2Proof.Machine.execStw f s
  | .stvl f => Sys2Proof.Machine.execStvl f s
  | .stv f => Sys2Proof.Machine.execStv f s
  | .ldP z f => Sys2Proof.Machine.execLdP z f s
  | .stP z f => Sys2Proof.Machine.execStP z f s
  | .ldX func f => Sys2Proof.Machine.execLdX func f s
  | .stX func f => Sys2Proof.Machine.execStX func f s
  | .qpop f => Sys2Proof.Machine.execQpop f s
  | .qpopv f => Sys2Proof.Machine.execQpopv f s
  | .qpush f => Sys2Proof.Machine.execQpush f s
  | .qpushv f => Sys2Proof.Machine.execQpushv f s
  | .qocc f => Sys2Proof.Machine.execQocc f s
  | .fence func f => Sys2Proof.Machine.execFence func f s
  | .commit func f => Sys2Proof.Machine.execCommit func f s
  | .bell func f => Sys2Proof.Machine.execBell func f s
  | .tend func f => Sys2Proof.Machine.execTend func f s
  | .eret func f => Sys2Proof.Machine.execEret func f s
  | .trap func f => Sys2Proof.Machine.execTrap func f s
  | .halt func f => Sys2Proof.Machine.execHalt func f s
  | .amoSwap f => Sys2Proof.Machine.execAmoSwap f s
  | .amoAdd f => Sys2Proof.Machine.execAmoAdd f s
  | .amoAnd f => Sys2Proof.Machine.execAmoAnd f s
  | .amoOr f => Sys2Proof.Machine.execAmoOr f s
  | .amoMaxu f => Sys2Proof.Machine.execAmoMaxu f s
  | .amoMinu f => Sys2Proof.Machine.execAmoMinu f s
  | .amoCas f => Sys2Proof.Machine.execAmoCas f s
  | .entryArrive n => Sys2Proof.Machine.execEntryArrive n s
  | .creditReturn n => Sys2Proof.Machine.execCreditReturn n s
  | .bqPop b => Sys2Proof.Machine.execBqPop b s
  | .hqPop h k => Sys2Proof.Machine.execHqPop h k s
  | .auditFault n => Sys2Proof.Machine.execAuditFault n s
  | .sourceEdge n => Sys2Proof.Machine.execSourceEdge n s
  | .delivery g => Sys2Proof.Machine.execDelivery g s
  | .fallowExpire g => Sys2Proof.Machine.execFallowExpire g s
  | .claim t => Sys2Proof.Machine.execClaim t s
  | .pendClear w v => Sys2Proof.Machine.execPendClear w v s
  | .intBell v => Sys2Proof.Machine.execIntBell v s
  | .conversionEnd x raw => Sys2Proof.Machine.execConversionEnd x raw s
  | .trig x => Sys2Proof.Machine.execTrig x s
  | .urgentRequest x e => Sys2Proof.Machine.execUrgentRequest x e s
  | .self => Sys2Proof.Machine.execSelf s
  | .zero x e => Sys2Proof.Machine.execZero x e s
  | .full x e => Sys2Proof.Machine.execFull x e s
  | .compute x e => Sys2Proof.Machine.execCompute x e s
  | .ltake x mask => Sys2Proof.Machine.execLtake x mask s
  | .adcQpop x n => Sys2Proof.Machine.execAdcQpop x n s
  | .referenceChange sel refen vnom => Sys2Proof.Machine.execReferenceChange sel refen vnom s
  | .refokSettle good => Sys2Proof.Machine.execRefokSettle good s
  | .refokLoss => Sys2Proof.Machine.execRefokLoss s
  | .thermalReading n t => Sys2Proof.Machine.execThermalReading n t s
  | .railOut v x0 x1 x2 x3 => Sys2Proof.Machine.execRailOut v x0 x1 x2 x3 s
  | .railIn v lo hi => Sys2Proof.Machine.execRailIn v lo hi s
  | .pmGate counts => Sys2Proof.Machine.execPmGate counts s
  | .pmbusTransactionEnd res w => Sys2Proof.Machine.execPmbusTransactionEnd res w s
  | .statusWordPoll sent => Sys2Proof.Machine.execStatusWordPoll sent s
  | .sentryAvsEval fails margin => Sys2Proof.Machine.execSentryAvsEval fails margin s
  | .coreAvsEval => Sys2Proof.Machine.execCoreAvsEval s
  | .manualVoltage vman => Sys2Proof.Machine.execManualVoltage vman s
  | .pmerrClear => Sys2Proof.Machine.execPmerrClear s
  | .detectEnd x l0 l1 => Sys2Proof.Machine.execDetectEnd x l0 l1 s
  | .eqEnd x v0 v1 => Sys2Proof.Machine.execEqEnd x v0 v1 s
  | .deskewEnd x => Sys2Proof.Machine.execDeskewEnd x s
  | .identEnd x c3 txLanes lreq keepState slots => Sys2Proof.Machine.execIdentEnd x c3 txLanes lreq keepState slots s
  | .rttEnd x => Sys2Proof.Machine.execRttEnd x s
  | .trainingTimeout x => Sys2Proof.Machine.execTrainingTimeout x s
  | .waitEnd x => Sys2Proof.Machine.execWaitEnd x s
  | .retrain x => Sys2Proof.Machine.execRetrain x s
  | .lanesChange x old => Sys2Proof.Machine.execLanesChange x old s
  | .dataFrame x frame e0 e1 abort => Sys2Proof.Machine.execDataFrame x frame e0 e1 abort s
  | .statusFrame x frame e0 e1 abort => Sys2Proof.Machine.execStatusFrame x frame e0 e1 abort s
  | .statusSend x => Sys2Proof.Machine.execStatusSend x s
  | .frameTransmit x => Sys2Proof.Machine.execFrameTransmit x s
  | .alignSend x => Sys2Proof.Machine.execAlignSend x s
  | .alignMissed x l => Sys2Proof.Machine.execAlignMissed x l s
  | .ping x f => Sys2Proof.Machine.execPing x f s
  | .echo x f crt => Sys2Proof.Machine.execEcho x f crt s
  | .lanemode x set => Sys2Proof.Machine.execLanemode x set s
  | .laneFail x l unlock errs => Sys2Proof.Machine.execLaneFail x l unlock errs s
  | .rtoExpire x => Sys2Proof.Machine.execRtoExpire x s
  | .statusTimeout x => Sys2Proof.Machine.execStatusTimeout x s
  | .linkDown x => Sys2Proof.Machine.execLinkDown x s
  | .eqAdapt x l e up => Sys2Proof.Machine.execEqAdapt x l e up s
  | .errorRateWindow x e0 e1 => Sys2Proof.Machine.execErrorRateWindow x e0 e1 s
  | .regReq x => Sys2Proof.Machine.execRegReq x s
  | .regRsp x => Sys2Proof.Machine.execRegRsp x s
  | .clockPlan x => Sys2Proof.Machine.execClockPlan x s
  | .planAck x => Sys2Proof.Machine.execPlanAck x s
  | .sync x => Sys2Proof.Machine.execSync x s
  | .wake x => Sys2Proof.Machine.execWake x s
  | .prewake x => Sys2Proof.Machine.execPrewake x s
  | .standDown x => Sys2Proof.Machine.execStandDown x s
  | .timeMark x same => Sys2Proof.Machine.execTimeMark x same s
  | .notice x => Sys2Proof.Machine.execNotice x s
  | .keyHello x => Sys2Proof.Machine.execKeyHello x s
  | .keyConfirm x => Sys2Proof.Machine.execKeyConfirm x s
  | .topo x => Sys2Proof.Machine.execTopo x s
  | .audio x => Sys2Proof.Machine.execAudio x s
  | .bulkSeg x => Sys2Proof.Machine.execBulkSeg x s
  | .bulkAck x => Sys2Proof.Machine.execBulkAck x s
  | .bulkRead x => Sys2Proof.Machine.execBulkRead x s
  | .nakDenied x => Sys2Proof.Machine.execNakDenied x s
  | .safeHb x => Sys2Proof.Machine.execSafeHb x s
  | .safeStop x => Sys2Proof.Machine.execSafeStop x s
  | .qholdEnd x => Sys2Proof.Machine.execQholdEnd x s
  | .release x => Sys2Proof.Machine.execRelease x s
  | .keyingTimeout x => Sys2Proof.Machine.execKeyingTimeout x s
  | .rekey x => Sys2Proof.Machine.execRekey x s
  | .topoSend => Sys2Proof.Machine.execTopoSend s
  | .partialTunnelTimeout => Sys2Proof.Machine.execPartialTunnelTimeout s
  | .noticeSend => Sys2Proof.Machine.execNoticeSend s
  | .audioMessageSend u => Sys2Proof.Machine.execAudioMessageSend u s
  | .bulkResend k => Sys2Proof.Machine.execBulkResend k s
  | .scarecrowCycle => Sys2Proof.Machine.execScarecrowCycle s
  | .confirmationTimeout => Sys2Proof.Machine.execConfirmationTimeout s
  | .runtokWrite v => Sys2Proof.Machine.execRuntokWrite v s
  | .runPermitTimeout => Sys2Proof.Machine.execRunPermitTimeout s
  | .readbackSample fba fbb wave => Sys2Proof.Machine.execReadbackSample fba fbb wave s
  | .lockstepMismatch => Sys2Proof.Machine.execLockstepMismatch s
  | .arming proof readback => Sys2Proof.Machine.execArming proof readback s
  | .proof pass => Sys2Proof.Machine.execProof pass s
  | .heartbeatTimeout p => Sys2Proof.Machine.execHeartbeatTimeout p s
  | .ackReq => Sys2Proof.Machine.execAckReq s
  | .ackChallenge => Sys2Proof.Machine.execAckChallenge s
  | .ackResp v => Sys2Proof.Machine.execAckResp v s
  | .disarm => Sys2Proof.Machine.execDisarm s
  | .scarecrowRestart pass => Sys2Proof.Machine.execScarecrowRestart pass s
  | .rowrep => Sys2Proof.Machine.execRowrep s
  | .retire => Sys2Proof.Machine.execRetire s
  | .retireTakesEffect => Sys2Proof.Machine.execRetireTakesEffect s
  | .retireTimeout => Sys2Proof.Machine.execRetireTimeout s
  | .unretire => Sys2Proof.Machine.execUnretire s
  | .sectret => Sys2Proof.Machine.execSectret s
  | .savemap => Sys2Proof.Machine.execSavemap s
  | .reloadSc => Sys2Proof.Machine.execReloadSc s
  | .loadSentry => Sys2Proof.Machine.execLoadSentry s
  | .serviceActionDone => Sys2Proof.Machine.execServiceActionDone s
  | .eraseSlot => Sys2Proof.Machine.execEraseSlot s
  | .program => Sys2Proof.Machine.execProgram s
  | .verify => Sys2Proof.Machine.execVerify s
  | .activate => Sys2Proof.Machine.execActivate s
  | .bootsave => Sys2Proof.Machine.execBootsave s
  | .provkey => Sys2Proof.Machine.execProvkey s
  | .provlink => Sys2Proof.Machine.execProvlink s
  | .recwrite => Sys2Proof.Machine.execRecwrite s
  | .recdel => Sys2Proof.Machine.execRecdel s
  | .recread => Sys2Proof.Machine.execRecread s
  | .nvmCommandDone worn => Sys2Proof.Machine.execNvmCommandDone worn s
  | .reclaim => Sys2Proof.Machine.execReclaim s
  | .extest => Sys2Proof.Machine.execExtest s
  | .idcode => Sys2Proof.Machine.execIdcode s
  | .samplePreload => Sys2Proof.Machine.execSamplePreload s
  | .clamp => Sys2Proof.Machine.execClamp s
  | .highz => Sys2Proof.Machine.execHighz s
  | .bypass => Sys2Proof.Machine.execBypass s
  | .startupConditionsMet => Sys2Proof.Machine.execStartupConditionsMet s
  | .swathFrame => Sys2Proof.Machine.execSwathFrame s
  | .calNvmActionEnd => Sys2Proof.Machine.execCalNvmActionEnd s
  | .swapLoadEnd => Sys2Proof.Machine.execSwapLoadEnd s
  | .testLogicReset => Sys2Proof.Machine.execTestLogicReset s

end Sys2Proof.Machine
end

