-- ==== Sys2Proof/Machine/Idle.lean ====
section
/-! DEFINITION. What one HSCK cycle does by itself, with no command waiting (DESIGN CHOICE, log 2): the time counters and
what counts with them (R39, R336, R527, R528, R628). -/

namespace Sys2Proof.Machine

/-- One HSCK cycle on the 1 µs tick (R527): the accumulator adds 1 000 000, and at f_H it subtracts f_H and a tick falls. -/
def tickAcc (s : State) : State :=
  let a := s.time.acc + 1000000
  if s.fH = 0 then s
  else if s.fH ≤ a then
    intTick { s with time := { s.time with acc := a - s.fH, us := s.time.us + 1 } }
  else { s with time := { s.time with acc := a } }

/-- The 10 ms mean square of an input at its CIC output with its gains (R179): the sum of squares and the sample count. -/
def levelNow (s : State) (p : Nat) : Option (Nat × Nat) :=
  let k1 := cicK1 s p
  let n := inputFp s p / k1 / 100
  let g := cicGain k1 (cicOrder s p)
  let c := s.getI (F.MIC_CALn_GAIN_GAIN p)
  let ring := ((s.cic p).ring.take n).map (fun x => q22 (q22 (x * g) * c))
  if inputOn s p && !inputSettling s p && decide (0 < n) && decide (n ≤ (s.cic p).fill) then
    some ((sumI (ring.map (fun x => x * x))).toNat, n)
  else none

/-- The floor in steps of −0.5 dBFS (R179), from the least of the last 1.5 s. -/
def floorCode (s : State) (p : Nat) : Nat :=
  let f := levelFloor s p
  Nat.min 255 ((((-(frameLevel f.1 f.2)).toNat) + 25) / 50)

/-- Every 10 ms each running input completes a level (R179). -/
def levelTick (s : State) : State :=
  forEach (upto 32) (fun s p =>
    match levelNow s p with
    | some l =>
      let ls := (l :: nth s.mic.levels p []).take 150
      let s := { s with mic := { s.mic with levels := setNth s.mic.levels p ls } }
      s.put (F.MIC_STATn_FLOOR p) (floorCode s p)
    | none => s) s

/-- A millisecond of the mitten's idle timer (R309): SWA_MITTEN.IDLE counts the seconds left. -/
def mittenMs (s : State) : State :=
  if mittenOpen s || s.flag F.SWA_MITTEN_SS_OPEN then
    if s.swa.idleMs + 1 < 1000 then { s with swa := { s.swa with idleMs := s.swa.idleMs + 1 } }
    else
      let s := { s with swa := { s.swa with idleMs := 0 } }
      s.put F.SWA_MITTEN_IDLE (s.get F.SWA_MITTEN_IDLE - 1)
  else s

/-- A millisecond passes (R39). -/
def msTick (s : State) : State :=
  let s := { s with time := { s.time with ms := s.time.ms + 1, inSec := (s.time.inSec + 1) % 1000 } }
  let s := if s.pstate = OFF then s else s.bump64 A.SYS_UPTIME_LO 1
  let s := mittenMs s
  if s.time.ms % 10 = 0 then levelTick s else s

/-- One HSCK cycle of the millisecond. -/
def msAcc (s : State) : State :=
  if s.fH = 0 then s
  else if s.time.inMs + 1 < s.fH / 1000 then { s with time := { s.time with inMs := s.time.inMs + 1 } }
  else msTick { s with time := { s.time with inMs := 0 } }

/-- The cycle counts of F0 to F3 (R336): f_C cycles since the core first left HALT, and those not IDLE. -/
def cycTick (s : State) : State :=
  forEach (upto 4) (fun s c =>
    if coreClocked s c && (decide (coreState s c ≠ C_HALT) || decide (s.pair (A.FRW_COREc_CYC_LO c) ≠ 0)) then
      let s := s.bump64 (A.FRW_COREc_CYC_LO c) s.clk.mult
      if coreState s c = C_IDLE then s else s.bump64 (A.FRW_COREc_BUSY_LO c) s.clk.mult
    else s) s

/-- The cycle counts of the sentry core, at f_H / 2, and of the Scarecrow, at f_H, since each first left HALT (R331, R336). -/
def cycTickS (s : State) : State :=
  let one := fun c n => if coreClocked s c && (decide (coreState s c ≠ C_HALT) || decide (n ≠ 0)) then (n + 1) % 2 ^ 64 else n
  let sent := nth s.frw.cyc 0 0
  { s with frw := { s.frw with half := !s.frw.half, cyc := [if s.frw.half then one SENT sent else sent, one SCARE (nth s.frw.cyc 1 0)] } }

/-- The tokens of each VC accrue at its reservation, capped at 532 link bytes (R628). -/
def tokenTick (s : State) : State :=
  forEach (upto 2) (fun s x =>
    let p := s.hgp x
    let t := (upto 4).map (fun v => Nat.min (532 * s.fH) (nth p.tokens v 0 + s.get (F.HGx_RESv_RES x v)))
    s.setHgp x { p with tokens := t }) s

/-- The cycles left to a sync edge that awaits (R209, R210). The edge comes at its cycle: with SYNC_ACT, or with the cycle
itself where no command brought it. -/
def syncTick (s : State) : State :=
  match s.flt.sync with
  | some 0 => syncNow s
  | some (n + 1) => { s with flt := { s.flt with sync := some n } }
  | none => s

/-- The block with no command waiting: one HSCK cycle passes while HSCK is present; without it, in reset and in test mode,
which holds all functional logic (R59), time stands still. -/
def idle (s : State) : State :=
  if s.clk.present && !s.pwr.rst && !s.pwr.test then
    let s := intLiveEnd s
    let s := { s with time := { s.time with hsck := s.time.hsck + 1 } }
    pckTick (syncTick (tokenTick (cycTickS (cycTick (msAcc (tickAcc s))))))
  else s

end Sys2Proof.Machine
end

