-- ==== Sys2Proof/WellFormed.lean ====
section
/-! DEFINITION. Which operands a command may carry: the ranges that the spec gives its units, and the selector bits that
tell one row of a shared Furrow opcode from another. A meaning is given to every operand; an ill-formed one names nothing
of the device. -/

namespace Sys2Proof

/-- The opcodes of R78. -/
def hspOpcodes : List Nat := [0x00, 0x02, 0x0B, 0x05, 0x3C, 0x44, 0x6B, 0xFF]

/-- The bytes of a core's program memory, its data memory and the Common (R350). -/
def coreMemoryBytes (c : Fin 6) (m : Fin 3) : Nat :=
  if m = 2 then (if c.val < 4 then 1048576 else 0)
  else if c.val < 4 then (if m = 0 then 65536 else 131072) else 32768

/-- IMM13[6:5], the selector of the shifts by an immediate (R380). -/
def immSelector (i : IForm) : Nat := i.imm.toNat / 32 % 4

/-- FUNC[2:1], the selector of the vector shifts and compares (R420). -/
def funcSelector (func : BitVec 8) : Nat := func.toNat / 2 % 4

/-- The operands are such as the spec gives the command. -/
def Instr.wellFormed (i : Instr) : Bool :=
  match i with
  | .hsckLoss .. | .hsckReturn .. | .longLoss .. | .wdoWindow .. | .referenceTrack .. | .multiplierLock ..
  | .planResume .. | .planFail .. | .lockLoss .. | .tick .. => true
  | .write _ cnt data _ => data.length == cnt.toNat % 2048
  | .read .. | .status .. | .commitOpen .. | .commitApply .. | .commitDiscard .. | .zeroize .. | .windowRead ..
  | .resetMode .. => true
  | .undefinedOpcode op _ _ _ => !hspOpcodes.contains op.toNat
  | .truncatedTransaction .. | .tunnelTimeout .. | .admissionDecision .. | .registerWrite .. | .rstAssert ..
  | .supplyLoss .. | .supplyGood .. | .rstRelease .. | .selfTestPhaseAEnd .. | .selfTestPhaseBEnd ..
  | .nvmMount .. | .sentryImageLoadEnd .. | .imageLoadEnd .. | .micGroupPowerUp .. | .bootConfigCommit ..
  | .stateRequest .. | .transitionComplete .. | .tsuEnd .. | .tmcEnd .. | .powerCycle .. | .powerCycleOffEnd ..
  | .stuckAt .. | .densityEvent .. | .neighbourEvent .. | .suspectClear .. | .partnerDeafCheck ..
  | .latchClr .. | .sentryInChange .. | .mapChange .. | .calStart .. | .calTargetEnd .. | .calSave ..
  | .calLoad .. | .fineChainOutput .. | .glanceOutput .. | .sentryDecimatorOutput .. | .bankSwap ..
  | .calibrationChange .. | .routeChange .. | .fadeComplete .. | .syncPinEdge .. | .syncNow .. | .syncAct ..
  | .sadFrame .. | .seedingEnd .. | .sustained .. | .floorRail .. | .reseed .. | .wakeinDebounce ..
  | .wakeinRelease .. | .wakeClear .. | .prewakeTimeout .. | .prewakeGapEnd .. | .partnerPrewakeTimeout ..
  | .featureFrame .. | .evqPop .. | .install .. | .save .. | .recExport .. | .erase .. | .recOpen .. | .put ..
  | .close .. | .recordActionDone .. | .seedVerifyDone .. | .slotArm .. | .enrolmentStart ..
  | .enrolmentAbort .. | .enrolmentBuild .. | .enrolmentTimeout .. => true
  | .swathBlockStart k => decide (k < 8)
  | .shortSwathBlockStart .. | .mittenRelease .. | .mittenIdleTimeout .. => true
  | .unloadBlockSend k => decide (k < 8)
  | .uack k upTo => decide (k < 8) && decide (upTo % 256 = 0)
  | .zswath .. | .zshort .. | .zeroizeSweepDone .. | .patrolScrub .. => true
  | .rowRepair r => decide (r < 32768)
  | .taskRelease .. | .budgetFault .. | .initOverrun .. | .sentryCoreRestart .. | .storeDrain ..
  | .loadReturn .. => true
  | .coreEccPatrol c m a _ => decide (a < coreMemoryBytes c m)
  | .coreRun .. | .coreStep .. | .coreRetire .. | .sentryCoreRun .. | .swapReq .. | .swapSwitch ..
  | .swapTimeout .. | .add .. | .sub .. | .and .. | .or .. | .xor .. | .andn .. | .orn .. | .sll .. | .srl ..
  | .sra .. | .ror .. | .slt .. | .sltu .. | .min .. | .max .. | .minu .. | .maxu .. | .adds .. | .subs ..
  | .abs .. | .clz .. | .ctz .. | .popc .. | .sextb .. | .sexth .. | .zexth .. | .rev8 .. | .addi .. | .andi ..
  | .ori .. | .xori .. | .shori .. => true
  | .slli i => immSelector i == 0
  | .srli i => immSelector i == 1
  | .srai i => immSelector i == 2
  | .rori i => immSelector i == 3
  | .slti .. | .sltiu .. | .cmpEq .. | .cmpNe .. | .cmpLt .. | .cmpGe .. | .cmpLtu .. | .cmpGeu .. | .cmpiEq ..
  | .cmpiNe .. | .cmpiLt .. | .cmpiGe .. | .cmpiLtu .. | .cmpiGeu .. | .pand .. | .por .. | .pxor ..
  | .pandn .. | .porn .. | .sel .. | .mfp .. | .mtp .. | .br .. | .call .. | .jalr .. | .bz .. | .bnz ..
  | .bltz .. | .bgez .. | .bgtz .. | .blez .. | .bp .. | .bnp .. | .loop .. | .mtlp .. | .mflp .. | .smac ..
  | .smsu .. | .sclr .. | .sacx .. | .sacset .. | .setm .. | .mtcr .. | .mfcr .. | .vadd .. | .vsub ..
  | .vadds .. | .vsubs .. | .vmin .. | .vmax .. | .vabs .. | .vand .. | .vor .. | .vxor .. | .vandn .. => true
  | .vsll _ func => funcSelector func == 0
  | .vsrl _ func => funcSelector func == 1
  | .vsra _ func => funcSelector func == 2
  | .vsrar _ func => funcSelector func == 3
  | .vcmpEq _ func => funcSelector func == 0
  | .vcmpLt _ func => funcSelector func == 1
  | .vcmpLtu _ func => funcSelector func == 2
  | .vcmpLe _ func => funcSelector func == 3
  | .vbsl .. => true
  | .vany _ func => !func.getLsbD 1
  | .vall _ func => func.getLsbD 1
  | .vsplat .. | .vget .. | .vput .. | .vslide .. | .vwide .. | .vnarr .. | .vmul .. | .vmac .. | .vmsu ..
  | .vmacs .. | .vclr .. | .vext .. | .vacset .. | .vacget .. | .vacput .. | .vacsum .. | .ldb .. | .ldbu ..
  | .ldh .. | .ldhu .. | .ldw .. | .ldvl .. | .ldv .. | .stb .. | .sth .. | .stw .. | .stvl .. | .stv ..
  | .ldP .. | .stP .. | .ldX .. | .stX .. | .qpop .. | .qpopv .. | .qpush .. | .qpushv .. | .qocc ..
  | .fence .. | .commit .. | .bell .. | .tend .. | .eret .. | .trap .. | .halt .. | .amoSwap .. | .amoAdd ..
  | .amoAnd .. | .amoOr .. | .amoMaxu .. | .amoMinu .. | .amoCas .. => true
  | .entryArrive n => decide (n < 64)
  | .creditReturn n => decide (n < 64)
  | .bqPop .. => true
  | .hqPop h _ => decide (h < 8)
  | .auditFault .. => true
  | .sourceEdge n => decide (1 ≤ n) && decide (n < 128)
  | .delivery g => decide (g < 16)
  | .fallowExpire g => decide (g < 16)
  | .claim t => decide (t < 5)
  | .pendClear w _ => decide (w < 4)
  | .intBell .. | .conversionEnd .. | .trig .. | .urgentRequest .. | .self .. | .zero .. | .full ..
  | .compute .. | .ltake .. | .adcQpop .. | .referenceChange .. | .refokSettle .. | .refokLoss ..
  | .thermalReading .. | .railOut .. | .railIn .. | .pmGate .. | .pmbusTransactionEnd .. | .statusWordPoll ..
  | .sentryAvsEval .. | .coreAvsEval .. | .manualVoltage .. | .pmerrClear .. | .detectEnd .. | .eqEnd ..
  | .deskewEnd .. | .identEnd .. | .rttEnd .. | .trainingTimeout .. | .waitEnd .. | .retrain ..
  | .lanesChange .. | .dataFrame .. | .statusFrame .. | .statusSend .. | .frameTransmit .. | .alignSend ..
  | .alignMissed .. | .ping .. | .echo .. | .lanemode .. | .laneFail .. | .rtoExpire .. | .statusTimeout ..
  | .linkDown .. | .eqAdapt .. | .errorRateWindow .. | .regReq .. | .regRsp .. | .clockPlan .. | .planAck ..
  | .sync .. | .wake .. | .prewake .. | .standDown .. | .timeMark .. | .notice .. | .keyHello ..
  | .keyConfirm .. | .topo .. | .audio .. | .bulkSeg .. | .bulkAck .. | .bulkRead .. | .nakDenied ..
  | .safeHb .. | .safeStop .. | .qholdEnd .. | .release .. | .keyingTimeout .. | .rekey .. | .topoSend ..
  | .partialTunnelTimeout .. | .noticeSend .. | .audioMessageSend .. | .bulkResend .. | .scarecrowCycle ..
  | .confirmationTimeout .. | .runtokWrite .. | .runPermitTimeout .. | .readbackSample ..
  | .lockstepMismatch .. | .arming .. | .proof .. | .heartbeatTimeout .. | .ackReq .. | .ackChallenge ..
  | .ackResp .. | .disarm .. | .scarecrowRestart .. | .rowrep .. | .retire .. | .retireTakesEffect ..
  | .retireTimeout .. | .unretire .. | .sectret .. | .savemap .. | .reloadSc .. | .loadSentry ..
  | .serviceActionDone .. | .eraseSlot .. | .program .. | .verify .. | .activate .. | .bootsave ..
  | .provkey .. | .provlink .. | .recwrite .. | .recdel .. | .recread .. | .nvmCommandDone .. | .reclaim ..
  | .extest .. | .idcode .. | .samplePreload .. | .clamp .. | .highz .. | .bypass .. | .startupConditionsMet ..
  | .swathFrame .. | .calNvmActionEnd .. | .swapLoadEnd .. | .testLogicReset .. => true

end Sys2Proof
end

