-- ==== Sys2Proof/Safety.lean ====
section
/-! DEFINITION. What counts as a safe run, in the terms that claims use: the block never stops, its memories and its
register file stay in their canonical form, its queue holds well-formed commands; and the words in which claims say that a
command completes and what it leaves alone. -/

namespace Sys2Proof.Machine

/-- A memory in canonical form: addresses strictly rising, no entry equal to what an unlisted address reads as. -/
def Memory.wf (m : List Host.Cell) : Bool := sparseWf memDefault m

/-- The register file in canonical form. -/
def regsWf (s : State) : Bool := sparseWf resetWord s.regs

/-- Every command that waits is well formed. -/
def QueueOk (s : State) : Prop := ∀ c ∈ s.pending, c.wellFormed = true

/-- Every memory of the device and its register file are in canonical form. -/
def Canonical (s : State) : Prop :=
  regsWf s = true ∧ Memory.wf s.swa.mem = true ∧ Memory.wf s.swa.short = true ∧ Memory.wf s.frw.common = true ∧
    (∀ m ∈ s.frw.prog, Memory.wf m = true) ∧ (∀ m ∈ s.frw.data, Memory.wf m = true) ∧ (∀ m ∈ s.nvm.slot, Memory.wf m = true)

/-- Every unit has its number of entries: queues, ports, cores and so on. -/
def Shaped (s : State) : Prop :=
  s.que.q.length = 64 ∧ s.hg.port.length = 2 ∧ s.hg.ustr.length = 16 ∧ s.frw.core.length = 6 ∧ s.frw.prog.length = 6 ∧
    s.frw.data.length = 6 ∧ s.frw.badProg.length = 6 ∧ s.frw.badData.length = 6 ∧ s.hsp.fw.length = 5 ∧ s.lsn.sad.length = 2 ∧
    s.drl.inp.length = 5 ∧ s.flt.cic.length = 32 ∧ s.flt.chain.length = 32 ∧ s.flt.route.length = 148 ∧ s.mic.settle.length = 32 ∧
    s.swa.strip.length = 8 ∧ s.adc.x.length = 2 ∧ s.mon.crit.length = 4 ∧ s.mon.frz.length = 2 ∧ s.mon.runs.length = 4 ∧
    s.nvm.slot.length = 6 ∧ s.saf.part.length = 4

/-- The invariant of the block. -/
def Sound (s : State) : Prop := QueueOk s ∧ Canonical s ∧ Shaped s

/-- The command completes: `exec` answers a next state, neither a fault nor a refusal, and `P` holds of it. -/
def Gives (c : Instr) (s : State) (P : State → Prop) : Prop := ∃ t, exec c s = .next t ∧ P t

/-- Every register outside the listed addresses reads as before. -/
def RegsKept (s t : State) (as : List Nat) : Prop := ∀ a, a ∉ as → t.rd a = s.rd a

/-- The two words of a 64-bit register pair. -/
abbrev pairRegs (lo : Nat) : List Nat := [lo, lo + 4]

/-- The registers that a rising edge of an interrupt source can change: the source's own word and its group's counts of
edges and of coalesced edges (R520, R521). -/
abbrev sourceRegs (n : Nat) : List Nat :=
  [A.INT_SRCs n, A.INT_Gg_EDGE_LO (n / 8), A.INT_Gg_EDGE_LO (n / 8) + 4, A.INT_Gg_COAL_LO (n / 8), A.INT_Gg_COAL_LO (n / 8) + 4]

/-- A rising edge of a source has been taken: it is pending, and its group's count of edges is one more (R520, R521). -/
def EdgeTaken (s t : State) (n : Nat) : Prop :=
  t.flag (F.INT_SRCs_PEND n) = true ∧
    t.pair (A.INT_Gg_EDGE_LO (n / 8)) = (s.pair (A.INT_Gg_EDGE_LO (n / 8)) + 1) % 2 ^ 64

/-- Beside its registers the device is as before. -/
def OnlyRegs (s t : State) : Prop := t = { s with regs := t.regs }

/-- A transaction of the host port has ended with a status byte and data words: the view epoch advanced by one, the byte
stands in SYS_HSPST.LAST, the device drove byte, words and their CRC (R71, R85, R87). -/
def Answered (s t : State) (st : Nat) (ws : List Word) : Prop :=
  t.get F.SYS_EPOCH_EPOCH = (s.get F.SYS_EPOCH_EPOCH + 1) % 2 ^ 32 ∧ t.get F.SYS_HSPST_LAST = st % 256 ∧
    t.hsp.resp = some ⟨st, ws, crc16 ([st] ++ wordBytes ws)⟩

/-! ## Furrow's bundles in claims -/

/-- Core `c` can take a word of slot `n` that writes the registers `ws` into its bundle (R338, R397): it stands ready, no
load is outstanding, the word can be fetched and holds no single-bit error (R351: one is counted and corrected), and the words before it in the bundle broke no rule, end in an earlier slot
and write none of `ws`. -/
def TakesWord (s : State) (c n : Nat) (ws : List Nat) : Prop :=
  c < s.frw.core.length ∧ canIssue s c = true ∧ (s.core c).ret = [] ∧
    fetchFault s c ((s.core c).pc + 4 * (bundleOf (s.core c)).words) = none ∧
    progMeet s c ((s.core c).pc + 4 * (bundleOf (s.core c)).words) 4 = s ∧
    (bundleOf (s.core c)).words < 3 ∧ (bundleOf (s.core c)).bad = false ∧ (bundleOf (s.core c)).ill = none ∧
    ((bundleOf (s.core c)).words ≠ 0 → (bundleOf (s.core c)).last < n ∧ n ≠ 3) ∧
    ∀ w ∈ ws, w ≠ regS 0 → w ≠ regP 0 → w ∉ (bundleOf (s.core c)).wrote

/-- Nothing acts at the boundary after the bundle (R359, R360, R365, R366): a step of a halted core ends there, a core of
Furrow-S has no dispatcher, and on Furrow-F INIT or the earliest job runs, is not to be abandoned and RUN is 1. -/
def Calm (s : State) (c : Nat) : Prop :=
  (s.core c).stepping = true ∨ 4 ≤ c ∨ ((s.core c).drop = false ∧ s.flag (F.FRW_COREc_CTL_RUN c) = true ∧
    (s.flag (F.FRW_COREc_ST_INIT c) = true ∨ ∃ j, earliest (s.core c).jobs = some j ∧ (s.core c).run = some j.task))

/-- The bundle's end is plain: it is no delay slot, holds no transfer, no loop ends at it, nothing acts after it. -/
def PlainEnd (s : State) (c : Nat) : Prop :=
  (s.core c).slot = none ∧ (bundleOf (s.core c)).br = none ∧ loopAt (s.core c).regs (s.core c).pc 0 = false ∧
    loopAt (s.core c).regs (s.core c).pc 1 = false ∧ Calm s c

/-- The registers before the bundle that the next word joins: what its instructions read (R339). -/
def beforeOf (s : State) (c : Nat) : CoreRegs := (bundleOf (s.core c)).before

/-- A core after a bundle's last word: the registers stand, the modes move on by one bundle, the pc goes past it. -/
def CoreSt.past (k : CoreSt) (r : CoreRegs) : CoreSt :=
  { k with regs := { r with fmNow := r.fmNext, fmNext := r.fmode }, pc := (k.pc + 4 * ((bundleOf k).words + 1)) % 2 ^ 32, bun := none, shadow := false, stepping := false }

/-- A core after a word that does not end its bundle. -/
def CoreSt.within (k : CoreSt) (n : Nat) (ws : List Nat) (r : CoreRegs) : CoreSt :=
  { k with bun := some { bundleOf k with words := (bundleOf k).words + 1, last := n, wrote := (bundleOf k).wrote ++ ws }, regs := r }

/-- A core after a bundle with a transfer (R389): its delay slot comes next. -/
def CoreSt.turned (k : CoreSt) (taken : Bool) (target : Nat) (r : CoreRegs) : CoreSt :=
  { k.past r with slot := some ⟨k.pc, (k.pc + 4 * ((bundleOf k).words + 1)) % 2 ^ 32, taken, target⟩ }

/-- A core that has taken an exception (R456): EPC, ESTAT, EFMODE and EADDR are written, the bundle's effects are gone, and
the core goes on at the vector. -/
def CoreSt.trapped (k : CoreSt) (code info addr n words epc : Nat) : CoreSt :=
  { k with regs := { (bundleOf k).before with epc := BitVec.ofNat 32 epc, estat := BitVec.ofNat 32 (code + 2 ^ 8 * b2n k.slot.isSome + 2 ^ 9 * b2n k.shadow + 2 ^ 12 + 2 ^ 14 * n + 2 ^ 16 * words + 2 ^ 24 * info), efmode := (bundleOf k).before.fmNow, eaddr := BitVec.ofNat 32 addr, fmNow := (bundleOf k).before.fmode, fmNext := (bundleOf k).before.fmode }, bun := none, pc := ((bundleOf k).before.evec.toNat / 512 * 512 + 32 * code) % 2 ^ 32, slot := none, replay := k.slot, shadow := false, stepping := false }

/-- An instruction of slot `n` on core `c` completes with the registers `r`: with E = 1 its bundle ends; with E = 0, on
Furrow-F, the bundle stays open. Beside core `c` nothing changes. -/
def Retires (x : Instr) (s : State) (c : Nat) (e : Bool) (n : Nat) (ws : List Nat) (r : CoreRegs) : Prop :=
  TakesWord s c n ws →
    (e = true → PlainEnd s c → Gives x s (fun t => t = s.setCore c ((s.core c).past r))) ∧
    (e = false → c < 4 → Gives x s (fun t => t = s.setCore c ((s.core c).within n ws r)))

/-- The exception can be taken: not in a handler, with a vector, and the core is not one to be abandoned. -/
def CanTrap (s : State) (c : Nat) : Prop :=
  (beforeOf s c).estat.getLsbD 12 = false ∧ 512 ≤ (beforeOf s c).evec.toNat ∧ loopAt (beforeOf s c) (s.core c).pc 0 = false ∧
    loopAt (beforeOf s c) (s.core c).pc 1 = false ∧ ((s.core c).stepping = true ∨ 4 ≤ c ∨ (s.core c).drop = false)

/-- FRW_COREc_ST.CAUSE names the exception of a Furrow-F core; the sentry core and the Scarecrow have no such field. -/
def causeShown (s : State) (c code : Nat) : State := if c < 4 then s.put (F.FRW_COREc_ST_CAUSE c) code else s

end Sys2Proof.Machine
end

