-- ==== Sys2Proof/Certificates/Slice0/Obligations.lean ====
section
/-! DEFINITION. The statements for the provers, one definition each: what every family of commands leaves, that it completes,
and what it leaves alone. A statement about a free value holds for every value of the counter it is drawn at. -/

open Sys2Proof Sys2Proof.Machine

/-- A step runs the command at the front of the queue with the queue's rest. For every command c and state s, the step of s
with c at the front of its queue is exec of c on s with the queue's rest. That a step with no command waiting passes one
HSCK cycle, and stands still without HSCK, with RST# low or in test mode, is the model's choice (log 2). Rests on
spec/00_scope.md. -/
def Obligations.StepRunsFrontCommand : Prop :=
  (∀ (c : Instr) (s : State) (l : List Instr), step { s with pending := c :: l } = exec c { s with pending := l }) ∧
  (∀ s : State, s.pending = [] → s.clk.present = true → s.pwr.rst = false → s.pwr.test = false →
    ∃ t, step s = .next t ∧ t.pending = [] ∧ t.time.hsck = s.time.hsck + 1) ∧
  (∀ s : State, s.pending = [] → (s.clk.present = false ∨ s.pwr.rst = true ∨ s.pwr.test = true) → step s = .next s)

/-- From every sound state a step answers a next state, which is sound, and takes one command from the queue. Sound says:
every waiting command is well formed; the register file and every addressed memory (the swath and its sentry part, the
cores' memories, the Common, the image slots) are in canonical form; and every unit has its number of entries (64 queues, 2
ports, 6 cores, 8 strips, 32 chains, 148 routes and so on). From every sound state the step answers a next state, neither a
fault nor a refusal; that state is sound and its queue is the old one without its front. Rests on spec/00_scope.md,
spec/09_swath_and_mitten.md, spec/14_queues_credits_admission.md. -/
def Obligations.StepNeverStopsAndKeepsSound : Prop :=
  ∀ s : State, Sound s → ∃ t, step s = .next t ∧ Sound t ∧ t.pending = s.pending.tail

/-- What reset leaves: the filter coefficients and the glance taps, and a sound block in OFF. At reset every bank holds
coefficient 0 = 0x7F_FFFF and all other coefficients 0, and the sixteen glance taps are 0x08_0000 each, which sum to unity
(2^23). The block is then sound, in OFF, its queue is empty, the safety function is not armed and the run permit is clear.
Rests on R222. -/
def Obligations.ResetState : Prop :=
  (∀ b < 24, State.reset.get (F.FLT_COEFb_i_C b 0) = 0x7FFFFF ∧ ∀ i, 0 < i → i < 512 → State.reset.get (F.FLT_COEFb_i_C b i) = 0) ∧
  (∀ k < 16, State.reset.get (F.FLT_GLCk_TAP k) = 0x080000) ∧ sumN ((upto 16).map (fun k => State.reset.get (F.FLT_GLCk_TAP k))) = 2 ^ 23 ∧
  Sound State.reset ∧ State.reset.pending = [] ∧ State.reset.pstate = OFF ∧ State.reset.armed = false ∧ State.reset.saf.permit = false

/-- A REKEY request during a rekey is ignored. On each port, a REKEY request while the port is rekeying (HGx_SEC.KST = 3)
leaves the state as it is. Rests on R674. -/
def Obligations.RekeyInProgress : Prop :=
  ∀ (s : State) (x : Fin 2), s.get (F.HGx_SEC_KST x) = 3 → Gives (.rekey x) s (fun t => t = s)

/-- A loss of HSCK, its length and its return. An HSCK loss makes the device see no HSCK, and a new loss is no long one;
where the watch oscillator does not run nothing changes beside that but HCK_OK and LOCK, which read 0, and where it runs
outside WATCH, RECORD, TRIPPED and SERVICE also HCK_LOSS is latched, CLK_GAP counts one and a procedure past its step 1
returns to HOLD. A loss that reaches 6000 periods of the running oscillator latches GAP_LONG and does nothing else beside
source 1; without the oscillator, and with HSCK present, it does nothing. A return in SENTRY with no procedure or transition in progress counts a
gap, and the short swath's block in progress, or else the next one begun, carries the gap mark; a return in WATCH, RECORD,
TRIPPED or SERVICE after a short loss begins the stability check: HOLD, with the class and multiplier in force as its plan.
A loss of lock with HSCK present and no procedure in progress begins a relock. Rests on spec/02_one_clock.md. -/
def Obligations.ClockLossAndReturn : Prop := ∀ s : State,
  (s.clk.present = true → Gives .hsckLoss s (fun t => t.clk.present = false ∧ t.clk.longLoss = false)) ∧
  (s.clk.present = true → wdoRuns s = false → Gives .hsckLoss s (fun t =>
    t = { s with regs := t.regs, clk := { s.clk with present := false, longLoss := false } } ∧
      t.flag F.CLK_STAT_HCK_OK = false ∧ t.flag F.CLK_STAT_LOCK = false ∧ RegsKept s t [A.CLK_STAT])) ∧
  (s.clk.present = true → wdoRuns s = true → s.awake = false → Gives .hsckLoss s (fun t =>
    t.flag F.CLK_STAT_HCK_OK = false ∧ t.flag F.CLK_STAT_LOCK = false ∧ t.flag F.CLK_SUP_HCK_LOSS = true ∧
      t.pair A.CLK_GAP_LO = (s.pair A.CLK_GAP_LO + 1) % 2 ^ 64 ∧
      t.clk.phase = (if s.clk.phase = .run ∨ s.clk.phase = .wait then s.clk.phase else .hold))) ∧
  (s.clk.present = false → Gives .hsckLoss s (fun t => t = s)) ∧
  (s.clk.present = false → wdoRuns s = true → Gives .longLoss s (fun t =>
    t = { s with regs := t.regs, clk := { s.clk with longLoss := true } } ∧ t.flag F.CLK_SUP_GAP_LONG = true ∧
      RegsKept s t (A.CLK_SUP :: sourceRegs 1))) ∧
  ((s.clk.present = true ∨ wdoRuns s = false) → Gives .longLoss s (fun t => t = s)) ∧
  (s.clk.present = false → s.clk.longLoss = false → s.pstate = SENTRY → s.clk.phase = .run → s.pwr.trans = none →
    Gives .hsckReturn s (fun t =>
      t = { shortGap s with regs := t.regs, clk := { s.clk with present := true, longLoss := false } } ∧
      t.pair A.CLK_GAP_LO = (s.pair A.CLK_GAP_LO + 1) % 2 ^ 64 ∧ RegsKept s t (pairRegs A.CLK_GAP_LO))) ∧
  (s.clk.present = false → s.clk.longLoss = false → s.awake = true → s.clk.phase = .run → Gives .hsckReturn s (fun t =>
    t.clk.present = true ∧ t.clk.phase = .hold ∧ t.clk.why = .ret ∧ t.clk.planCls = s.clk.cls ∧ t.clk.planM = s.clk.mult ∧
      t.clk.run = [] ∧ t.get F.CLK_STAT_STATE = CK_HOLD)) ∧
  (s.clk.present = true → Gives .hsckReturn s (fun t => t = s)) ∧
  (s.clk.present = true → s.clk.phase = .run → s.clk.why = .none → s.flag F.CLK_STAT_LOCK = true → Gives .lockLoss s (fun t =>
    t.clk.phase = .lock ∧ t.clk.why = .relock ∧ t.clk.cls = s.clk.cls ∧ t.clk.mult = s.clk.mult))

/-- Windows of the watch oscillator, the reference, locks and the end of a plan. A window stores its count in CLK_WDO.LAST.
In start-up step 1 a second window of the same class commits that class with its reset multiplier and stores the count as
the reference; a window of another class is remembered. While a plan locks, and in the HOLD of a failed plan, a window
leaves everything but LAST as it is. Once a second the reference moves towards the last count by at most 1/256 of its
value. In a clock plan the multiplier lock sets LOCK and leads to RETRAIN; with both lanes trained a plan then resumes: the
procedure ends, in every strip the block in progress, or else the next one begun, takes the gap mark, source 2 is raised,
and the lead shows SYS_RUN once its trained partners have resumed too (their next message says so: the model's choice, log
24). A plan that is not stable in time latches PLAN_FAIL, raises source 1 and stays in HOLD. Rests on spec/02_one_clock.md. -/
def Obligations.ClockWindowsAndLocks : Prop := ∀ s : State,
  (∀ n : Nat, wdoRuns s = true → s.clk.present = true → stepRuns s 1 = false →
    (s.clk.phase = .lock ∧ (s.clk.why = .plan ∨ s.clk.why = .mOnly)) ∨ (s.clk.phase = .hold ∧ s.clk.failed = true) →
    Gives (.wdoWindow n) s (fun t => OnlyRegs s t ∧ t.get F.CLK_WDO_LAST = Nat.min 65535 n ∧
      t.get F.CLK_WDO_REF = s.get F.CLK_WDO_REF ∧ RegsKept s t [A.CLK_WDO])) ∧
  (∀ n : Nat, wdoRuns s = true → s.clk.present = true → stepRuns s 1 = true → classOf n ≠ 0 → classOf n = s.clk.startCls →
    Gives (.wdoWindow n) s (fun t => t.clk.cls = classOf n ∧ t.clk.mult = multOf (classOf n) ∧
      t.get F.CLK_STAT_FH_CLASS = classOf n ∧ t.get F.CLK_WDO_REF = n ∧ t.get F.CLK_WDO_LAST = n ∧
      t.get F.CLK_PLAN_M = multOf (classOf n))) ∧
  (∀ n : Nat, wdoRuns s = true → s.clk.present = true → stepRuns s 1 = true → classOf n = 0 ∨ classOf n ≠ s.clk.startCls →
    Gives (.wdoWindow n) s (fun t => t = { s with regs := t.regs, clk := { s.clk with startCls := classOf n } } ∧
      t.get F.CLK_WDO_LAST = Nat.min 65535 n ∧ t.get F.CLK_STAT_FH_CLASS = 0 ∧ RegsKept s t [A.CLK_STAT, A.CLK_WDO])) ∧
  (∀ n : Nat, (wdoRuns s = false ∨ s.clk.present = false) → Gives (.wdoWindow n) s (fun t => t = s)) ∧
  (wdoRuns s = true → s.clk.present = true → s.get F.CLK_WDO_REF ≠ 0 →
    Gives .referenceTrack s (fun t => OnlyRegs s t ∧ t.get F.CLK_WDO_LAST = s.get F.CLK_WDO_LAST ∧
      t.get F.CLK_WDO_REF =
        (if s.get F.CLK_WDO_REF < s.get F.CLK_WDO_LAST then
          Nat.min (s.get F.CLK_WDO_LAST) (s.get F.CLK_WDO_REF + s.get F.CLK_WDO_REF / 256)
        else Nat.max (s.get F.CLK_WDO_LAST) (s.get F.CLK_WDO_REF - s.get F.CLK_WDO_REF / 256)) ∧
      RegsKept s t [A.CLK_WDO])) ∧
  (s.clk.present = true → stepRuns s 2 = false → s.clk.phase = .lock → s.clk.why = .plan → transWaits s .lock = false →
    hgUp s 0 = false → hgUp s 1 = false → Gives .multiplierLock s (fun t =>
      t = { s with regs := t.regs, clk := { s.clk with phase := .retrain } } ∧ t.flag F.CLK_STAT_LOCK = true ∧
        t.get F.CLK_STAT_STATE = CK_RETRAIN ∧ RegsKept s t [A.CLK_STAT, A.MON_CAVS_TGT])) ∧
  (s.clk.phase = .retrain → s.clk.present = true → hgTraining s 0 = false → hgTraining s 1 = false → s.clk.why = .plan →
    s.pwr.held = none → s.pwr.offResp = false → Gives .planResume s (fun t =>
      t.clk = { s.clk with phase := .run, why := .none, acks := [], bus := false, failed := false, await := partners s } ∧
        t.get F.CLK_STAT_STATE = CK_RUN ∧ t.flag F.CLK_STAT_SYS_RUN = decide (s.devid = 0) ∧
        t.swa.strip = s.swa.strip.map StripSt.withGap ∧ t.flag (F.INT_SRCs_PEND 2) = true)) ∧
  (s.clk.phase = .hold → s.clk.why = .plan → s.clk.failed = false → Gives .planFail s (fun t =>
    t = { s with regs := t.regs, clk := { s.clk with failed := true, run := [], runCls := 0 } } ∧
    t.flag F.CLK_SUP_PLAN_FAIL = true ∧ t.flag (F.INT_SRCs_LIVE 1) = true ∧ t.get F.CLK_STAT_STATE = CK_HOLD ∧
    RegsKept s t ([A.CLK_SUP, A.CLK_STAT] ++ sourceRegs 1)))

/-- A partner takes a plan over; the lead collects the acknowledgements. A CLOCK-PLAN message at a partner that runs names
the plan in CLK_PLAN, and LOCK and SYS_RUN read 0: a plan of its own class goes to the multiplier's lock, one of another
class, with no PMBus transaction in flight, to HOLD; a plan of class 1 at a partner in class 1 changes nothing of its
clock. A message that names no class, and the lead's own row, change nothing (what a partner does with a plan of class 1,
and that any message from a partner shows that it has resumed, is the model's choice, log 24). A PLAN-ACK under the plan's
tag strikes its sender off the lead's list of awaited acknowledgements: with others still awaited the lead goes on waiting,
and with none and no PMBus transaction in flight STATE reads HOLD. A PLAN-ACK under another tag changes nothing. Rests on
spec/02_one_clock.md, spec/19_hedgerow_messages_and_systems.md. -/
def Obligations.ClockPlanMessages : Prop := ∀ (s u : State) (x : Fin 2) (r : RxMsg),
  (msgOwn s x T_CLOCK_PLAN = some (r, u) → s.devid ≠ 0 → 2 ≤ nth r.msg.body 0 0 → nth r.msg.body 0 0 ≤ 4 → s.clk.phase = .run →
    nth r.msg.body 0 0 = s.clk.cls → Gives (.clockPlan x) s (fun t => t.clk.phase = .lock ∧ t.clk.why = .mOnly ∧
      t.clk.cls = s.clk.cls ∧ t.clk.mult = nth r.msg.body 1 0 ∧ t.clk.remote = true ∧ t.hg.planTag = r.msg.param ∧
      t.get F.CLK_PLAN_FH_NEXT = s.clk.cls ∧ t.get F.CLK_STAT_STATE = CK_LOCK ∧ t.flag F.CLK_STAT_LOCK = false ∧
      t.flag F.CLK_STAT_SYS_RUN = false)) ∧
  (msgOwn s x T_CLOCK_PLAN = some (r, u) → s.devid ≠ 0 → 1 ≤ nth r.msg.body 0 0 → nth r.msg.body 0 0 ≤ 4 → s.clk.phase = .run →
    nth r.msg.body 0 0 ≠ s.clk.cls → s.mon.bus = [] → Gives (.clockPlan x) s (fun t => t.clk.phase = .hold ∧ t.clk.why = .plan ∧
      t.clk.cls = s.clk.cls ∧ t.clk.planCls = nth r.msg.body 0 0 ∧
      t.clk.planM = (if nth r.msg.body 0 0 = 1 then 0 else nth r.msg.body 1 0) ∧ t.clk.remote = true ∧ t.hg.planTag = r.msg.param ∧
      t.get F.CLK_PLAN_FH_NEXT = nth r.msg.body 0 0 ∧ t.get F.CLK_STAT_STATE = CK_HOLD ∧ t.flag F.CLK_STAT_LOCK = false ∧
      t.flag F.CLK_STAT_SYS_RUN = false)) ∧
  (msgOwn s x T_CLOCK_PLAN = some (r, u) → s.devid ≠ 0 → nth r.msg.body 0 0 = 1 → s.clk.phase = .run → s.clk.cls = 1 →
    Gives (.clockPlan x) s (fun t => t.clk = (partnerHeard u r.msg.src).clk ∧ t.get F.CLK_PLAN_FH_NEXT = 1 ∧ t.get F.CLK_PLAN_M = 0 ∧
      t.rd A.CLK_STAT = s.rd A.CLK_STAT)) ∧
  (msgOwn s x T_CLOCK_PLAN = some (r, u) → s.devid = 0 ∨ nth r.msg.body 0 0 = 0 ∨ 4 < nth r.msg.body 0 0 →
    Gives (.clockPlan x) s (fun t => t = partnerHeard u r.msg.src)) ∧
  (msgOwn s x T_PLAN_ACK = some (r, u) → s.devid = 0 → s.clk.phase = .wait → r.msg.param = s.hg.planTag →
    (∃ p ∈ s.clk.acks, p ≠ r.msg.src ∧ s.flag (F.HG0_ROUTEp_VALID p) = true) → Gives (.planAck x) s (fun t =>
      t = { partnerHeard u r.msg.src with clk := { (partnerHeard u r.msg.src).clk with acks := s.clk.acks.filter (fun p => decide (p ≠ r.msg.src)) } })) ∧
  (msgOwn s x T_PLAN_ACK = some (r, u) → s.devid = 0 → s.clk.phase = .wait → r.msg.param = s.hg.planTag → s.clk.bus = false →
    (∀ p ∈ s.clk.acks, p = r.msg.src ∨ s.flag (F.HG0_ROUTEp_VALID p) = false) → Gives (.planAck x) s (fun t =>
      t.clk.phase = .hold ∧ t.clk.run = [] ∧ t.clk.planCls = s.clk.planCls ∧ t.clk.planM = s.clk.planM ∧
        t.get F.CLK_STAT_STATE = CK_HOLD)) ∧
  (msgOwn s x T_PLAN_ACK = some (r, u) → s.devid ≠ 0 ∨ s.clk.phase ≠ .wait ∨ r.msg.param ≠ s.hg.planTag →
    Gives (.planAck x) s (fun t => t = partnerHeard u r.msg.src)) ∧
  (msgOwn s x T_CLOCK_PLAN = none → Gives (.clockPlan x) s (fun t => t = s)) ∧
  (msgOwn s x T_PLAN_ACK = none → Gives (.planAck x) s (fun t => t = s))

/-- What TICK, STATUS, READ, WINDOW-READ, an undefined opcode, a truncated transaction and RESET do. With the port
answering and a good host CRC: TICK answers OK with no data; STATUS answers SYS_EPOCH, SYS_CMT, SYS_CMT_REASON and
SYS_CMT_OBJ; a READ that covers no claim register or pop window answers the words of the snapshot; a WINDOW-READ of the
load windows answers their words; an undefined opcode answers OPCODE and raises source 7. A truncated transaction is
recorded as LENGTH and counted, RESET returns the port to
single mode; that SYS_HSPCFG.QUAD reads 0 after it is the model's choice (log 79). Each advances the view epoch and changes, beside
SYS_EPOCH, SYS_HSPST and the error registers named, nothing. Rests on spec/03_host_port_and_view.md. -/
def Obligations.HspQueries : Prop := ∀ (s : State) (addr : BitVec 24) (cnt crc : BitVec 16), hspAnswers s = true →
  (crc.toNat = hostCrc OP_TICK addr.toNat cnt.toNat [] → frameBad OP_TICK addr.toNat cnt.toNat = false →
    Gives (.tick addr cnt crc) s (fun t => Answered s t (hspFlags (hspSnap s)) [] ∧
      t = { s with regs := t.regs, hsp := { s.hsp with resp := t.hsp.resp } } ∧ RegsKept s t [A.SYS_EPOCH, A.SYS_HSPST])) ∧
  (crc.toNat = hostCrc OP_STATUS addr.toNat cnt.toNat [] → frameBad OP_STATUS addr.toNat cnt.toNat = false →
    cntDev cnt.toNat = 0 →
    Gives (.status addr cnt crc) s (fun t => Answered s t (hspFlags (hspSnap s))
        [(hspSnap s).rd A.SYS_EPOCH, s.rd A.SYS_CMT, s.rd A.SYS_CMT_REASON, s.rd A.SYS_CMT_OBJ] ∧
      t = { s with regs := t.regs, hsp := { s.hsp with resp := t.hsp.resp } } ∧ RegsKept s t [A.SYS_EPOCH, A.SYS_HSPST])) ∧
  (crc.toNat = hostCrc OP_READ addr.toNat cnt.toNat [] → frameBad OP_READ addr.toNat cnt.toNat = false →
    cntDev cnt.toNat = 0 → rangeResponds s addr.toNat (cntN cnt.toNat) = true → readWins addr.toNat (cntN cnt.toNat) = [] →
    Gives (.read addr cnt crc) s (fun t =>
      Answered s t (hspFlags (hspSnap s)) (readWords (hspSnap s) addr.toNat (cntN cnt.toNat)) ∧
      t = { s with regs := t.regs, hsp := { s.hsp with resp := t.hsp.resp } } ∧ RegsKept s t [A.SYS_EPOCH, A.SYS_HSPST])) ∧
  (crc.toNat = hostCrc OP_WINDOW addr.toNat cnt.toNat [] → frameBad OP_WINDOW addr.toNat cnt.toNat = false →
    cntDev cnt.toNat = 0 → addr.toNat < 0x800000 → rangeResponds s addr.toNat (cntN cnt.toNat) = true →
    Gives (.windowRead addr cnt crc) s (fun t =>
      Answered s t (hspFlags (hspSnap s)) ((upto (cntN cnt.toNat)).map (fun i => winWord s (addr.toNat + 4 * i))) ∧
      t = { s with regs := t.regs, hsp := { s.hsp with resp := t.hsp.resp } } ∧ RegsKept s t [A.SYS_EPOCH, A.SYS_HSPST])) ∧
  (∀ op : BitVec 8, opDefined op.toNat = false → crc.toNat = hostCrc op.toNat addr.toNat cnt.toNat [] →
    Gives (.undefinedOpcode op addr cnt crc) s (fun t => Answered s t (HS_OPCODE + hspFlags (hspSnap s)) [] ∧
      EdgeTaken s t 7 ∧ t = { s with regs := t.regs, hsp := { s.hsp with resp := t.hsp.resp } } ∧
      RegsKept s t ([A.SYS_EPOCH, A.SYS_HSPST, A.SYS_HSPERR] ++ sourceRegs 7))) ∧
  Gives .truncatedTransaction s (fun t => t.get F.SYS_HSPST_LAST = (HS_LENGTH + hspFlags (hspSnap s)) % 256 ∧
    t.get F.SYS_HSPERR_LEN = Nat.min 255 (s.get F.SYS_HSPERR_LEN + 1) ∧ EdgeTaken s t 7 ∧
    t = { s with regs := t.regs, hsp := { s.hsp with resp := none } } ∧
    RegsKept s t ([A.SYS_EPOCH, A.SYS_HSPST, A.SYS_HSPERR] ++ sourceRegs 7)) ∧
  Gives .resetMode s (fun t => t.get F.SYS_HSPST_LAST = hspFlags (hspSnap s) % 256 ∧ t.get F.SYS_HSPCFG_QUAD = 0 ∧
    t = { s with regs := t.regs, hsp := { s.hsp with resp := none } } ∧
    RegsKept s t [A.SYS_EPOCH, A.SYS_HSPST, A.SYS_HSPCFG])

/-- WRITE, COMMIT OPEN, APPLY and DISCARD, ZEROIZE, the admission decision, and a committed write by itself. With the port
answering, a good host CRC, no refusal to acknowledge and no commit under check: a WRITE to registers or open load windows
joins the open staging set word by word, and SYS_STAGE counts the set's words; with the set closed and a checked word in it, it is submitted as one
commit to the admission controller, SEQ counts it and nothing takes effect yet; with no checked word in it, it takes effect
at once. COMMIT OPEN opens an empty set; APPLY closes the set and submits its words as one commit, in the same two ways, and
with the set closed submits nothing (the model's reading, log 12); DISCARD closes it without effect. ZEROIZE makes the
memories it names read 0 and starts their sweeps, and leaves the other alone; in SENTRY the swath's is complete at once. A
refused commit leaves RESULT 3, REASON, OBJ and the sticky bit with its origin, counts in FRW_ADM_REF and has no other
effect; an accepted one takes effect with RESULT 2. A committed write of SYS_HSPCFG stores QUAD, one of SYS_CMT acknowledges
a refusal and changes no other bit, one to an address of no register block, of a block that does not respond, or that
admission refuses does nothing, and any other takes effect as a commit of that word. Rests on
spec/03_host_port_and_view.md, spec/14_queues_credits_admission.md. -/
def Obligations.HspCommitsAndStaging : Prop := ∀ s : State,
  (hspAnswers s = true → s.flag F.SYS_CMT_STICKY = false → hostChecking s = false → ∀ (addr : BitVec 24) (cnt crc : BitVec 16),
    (∀ (ws : List Word) (l : List (Nat × Word)), s.hsp.stage = some l → crc.toNat = hostCrc OP_WRITE addr.toNat cnt.toNat ws →
      frameBad OP_WRITE addr.toNat cnt.toNat = false → cntDev cnt.toNat = 0 → ws.length = cntN cnt.toNat →
      stageOver s addr.toNat ws = false → writeDenied s addr.toNat ws.length = false →
      Gives (.write addr cnt ws crc) s (fun t => Answered s t (hspFlags (hspSnap s)) [] ∧
        t.hsp.stage = some ((writeWords addr.toNat ws).foldl (fun l e => stageAdd l e.1 e.2) l) ∧ t.hsp.checks = s.hsp.checks ∧
        t.flag F.SYS_STAGE_OPEN = true ∧ t.get F.SYS_STAGE_WORDS = ((writeWords addr.toNat ws).foldl (fun l e => stageAdd l e.1 e.2) l).length ∧
        t = { s with regs := t.regs, hsp := t.hsp } ∧ RegsKept s t [A.SYS_EPOCH, A.SYS_HSPST, A.SYS_STAGE])) ∧
    (∀ ws : List Word, s.hsp.stage = none → crc.toNat = hostCrc OP_WRITE addr.toNat cnt.toNat ws →
      frameBad OP_WRITE addr.toNat cnt.toNat = false → cntDev cnt.toNat = 0 → ws.length = cntN cnt.toNat →
      writeDenied s addr.toNat ws.length = false → needsCheck (writeWords addr.toNat ws) = true →
      Gives (.write addr cnt ws crc) s (fun t => Answered s t (hspFlags (hspSnap s)) [] ∧
        t.hsp.checks = s.hsp.checks ++ [⟨.host, writeWords addr.toNat ws⟩] ∧ t.get F.SYS_CMT_RESULT = 1 ∧
        t.get F.SYS_CMT_SEQ = (s.get F.SYS_CMT_SEQ + 1) % 2 ^ F.SYS_CMT_SEQ.width ∧
        t = { s with regs := t.regs, hsp := t.hsp } ∧ RegsKept s t [A.SYS_EPOCH, A.SYS_HSPST, A.SYS_CMT])) ∧
    (∀ (ws : List Word) (u : State), s.hsp.stage = none → crc.toNat = hostCrc OP_WRITE addr.toNat cnt.toNat ws →
      frameBad OP_WRITE addr.toNat cnt.toNat = false → cntDev cnt.toNat = 0 → ws.length = cntN cnt.toNat →
      writeDenied s addr.toNat ws.length = false → needsCheck (writeWords addr.toNat ws) = false →
      u = applyNow .host (writeWords addr.toNat ws) (((hspSnap s).incWrap F.SYS_CMT_SEQ).put F.SYS_CMT_RESULT 2) →
      Gives (.write addr cnt ws crc) s (fun t => t = { u with regs := t.regs, hsp := { u.hsp with resp := t.hsp.resp } } ∧
        t.get F.SYS_HSPST_LAST = hspFlags (hspSnap s) % 256 ∧
        t.hsp.resp = some ⟨hspFlags (hspSnap s), [], crc16 [hspFlags (hspSnap s)]⟩ ∧ RegsKept u t [A.SYS_HSPST])) ∧
    (crc.toNat = hostCrc OP_COMMIT 0 cnt.toNat [] → cnt.toNat = 0 → Gives (.commitOpen cnt crc) s (fun t =>
      Answered s t (hspFlags (hspSnap s)) [] ∧ t.hsp = { s.hsp with stage := some [], resp := t.hsp.resp } ∧
      t.flag F.SYS_STAGE_OPEN = true ∧ t.get F.SYS_STAGE_WORDS = 0 ∧ t = { s with regs := t.regs, hsp := t.hsp } ∧
      RegsKept s t [A.SYS_EPOCH, A.SYS_HSPST, A.SYS_STAGE])) ∧
    (∀ l : List (Nat × Word), s.hsp.stage = some l → needsCheck l = true → crc.toNat = hostCrc OP_COMMIT 1 cnt.toNat [] →
      cnt.toNat = 0 → Gives (.commitApply cnt crc) s (fun t => Answered s t (hspFlags (hspSnap s)) [] ∧
        t.hsp = { s.hsp with stage := none, checks := s.hsp.checks ++ [⟨.host, l⟩], resp := t.hsp.resp } ∧
        t.get F.SYS_CMT_RESULT = 1 ∧ t.get F.SYS_CMT_SEQ = (s.get F.SYS_CMT_SEQ + 1) % 2 ^ F.SYS_CMT_SEQ.width ∧
        t.flag F.SYS_STAGE_OPEN = false ∧ t.get F.SYS_STAGE_WORDS = 0 ∧ t = { s with regs := t.regs, hsp := t.hsp } ∧
        RegsKept s t [A.SYS_EPOCH, A.SYS_HSPST, A.SYS_STAGE, A.SYS_CMT])) ∧
    (∀ (l : List (Nat × Word)) (u : State), s.hsp.stage = some l → needsCheck l = false → crc.toNat = hostCrc OP_COMMIT 1 cnt.toNat [] →
      cnt.toNat = 0 → u = applyNow .host l (((stageSet (hspSnap s) none).incWrap F.SYS_CMT_SEQ).put F.SYS_CMT_RESULT 2) →
      Gives (.commitApply cnt crc) s (fun t => t = { u with regs := t.regs, hsp := { u.hsp with resp := t.hsp.resp } } ∧
        t.get F.SYS_HSPST_LAST = hspFlags (hspSnap s) % 256 ∧
        t.hsp.resp = some ⟨hspFlags (hspSnap s), [], crc16 [hspFlags (hspSnap s)]⟩ ∧ RegsKept u t [A.SYS_HSPST])) ∧
    (s.hsp.stage = none → crc.toNat = hostCrc OP_COMMIT 1 cnt.toNat [] → cnt.toNat = 0 → Gives (.commitApply cnt crc) s (fun t =>
      Answered s t (hspFlags (hspSnap s)) [] ∧ t.hsp = { s.hsp with resp := t.hsp.resp } ∧ t = { s with regs := t.regs, hsp := t.hsp } ∧
      RegsKept s t [A.SYS_EPOCH, A.SYS_HSPST, A.SYS_STAGE])) ∧
    (crc.toNat = hostCrc OP_COMMIT 2 cnt.toNat [] → cnt.toNat = 0 → Gives (.commitDiscard cnt crc) s (fun t =>
      Answered s t (hspFlags (hspSnap s)) [] ∧ t.hsp = { s.hsp with stage := none, resp := t.hsp.resp } ∧
      t.flag F.SYS_STAGE_OPEN = false ∧ t.get F.SYS_STAGE_WORDS = 0 ∧ t = { s with regs := t.regs, hsp := t.hsp } ∧
      RegsKept s t [A.SYS_EPOCH, A.SYS_HSPST, A.SYS_STAGE]))) ∧
  (∀ (a : BitVec 24) (cnt crc : BitVec 16), hspAnswers s = true → 1 ≤ a.toNat → a.toNat ≤ 3 → crc.toNat = hostCrc OP_ZEROIZE a.toNat cnt.toNat [] →
    cnt.toNat = 0 → Gives (.zeroize a cnt crc) s (fun t => Answered s t (hspFlags (hspSnap s)) [] ∧
      (bit a.toNat 0 = true → s.pstate ≠ SENTRY → t.swa.zsw = true ∧ t.swa.mem = []) ∧
      (bit a.toNat 0 = true → s.pstate = SENTRY → t.swa.mem = s.swa.mem ∧ t.flag F.SWA_ST_ZDONE = true ∧ t.flag (F.INT_SRCs_PEND 54) = true) ∧
      (bit a.toNat 0 = false → t.swa.mem = s.swa.mem ∧ t.swa.zsw = s.swa.zsw) ∧
      (bit a.toNat 1 = true → t.swa.zss = true ∧ t.swa.short = []) ∧
      (bit a.toNat 1 = false → t.swa.short = s.swa.short ∧ t.swa.zss = s.swa.zss))) ∧
  (∀ (c : Commit) (rest : List Commit) (e : Nat × Nat), s.hsp.checks = c :: rest → byHost c.origin = true →
    admitWords s c.words false = some e → s.mic.waitRemap = [] → Gives .admissionDecision s (fun t =>
      t = { s with regs := t.regs, hsp := { s.hsp with checks := rest } } ∧ t.get F.SYS_CMT_RESULT = 3 ∧
      t.flag F.SYS_CMT_STICKY = true ∧ t.get F.SYS_CMT_REASON_REASON = e.1 % 2 ^ F.SYS_CMT_REASON_REASON.width ∧
      t.get F.SYS_CMT_OBJ_OBJ = e.2 % 2 ^ F.SYS_CMT_OBJ_OBJ.width ∧ EdgeTaken s t 66 ∧
      t.pair A.FRW_ADM_REF_LO = (s.pair A.FRW_ADM_REF_LO + 1) % 2 ^ 64 ∧
      RegsKept s t ([A.SYS_CMT, A.SYS_CMT_REASON, A.SYS_CMT_OBJ] ++ pairRegs A.FRW_ADM_REF_LO ++ sourceRegs 66))) ∧
  (∀ (c : Commit) (rest : List Commit) (u : State), s.hsp.checks = c :: rest → byHost c.origin = true →
    admitWords s c.words false = none → u = acceptCommit c { s with hsp := { s.hsp with checks := rest } } → u.mic.waitRemap = [] →
    Gives .admissionDecision s (fun t => OnlyRegs u t ∧ t.get F.SYS_CMT_RESULT = 2 ∧ EdgeTaken u t 66 ∧
      t.pair A.FRW_ADM_ACC_LO = (u.pair A.FRW_ADM_ACC_LO + 1) % 2 ^ 64 ∧
      RegsKept u t ([A.SYS_CMT] ++ pairRegs A.FRW_ADM_ACC_LO ++ sourceRegs 66))) ∧
  (∀ (c : Commit) (rest : List Commit) (e : Nat × Nat) (k : Nat), s.hsp.checks = c :: rest → fcmtOf c.origin = some k → k < 5 →
    admitWords s c.words false = some e → s.mic.waitRemap = [] → Gives .admissionDecision s (fun t =>
      t = { s with regs := t.regs, hsp := { s.hsp with checks := rest } } ∧ t.get (F.FRW_FCMTk_RESULT k) = 3 ∧
      t.get (F.FRW_FCMTk_REASON_REASON k) = e.1 % 2 ^ (F.FRW_FCMTk_REASON_REASON k).width ∧
      t.get (F.FRW_FCMTk_OBJ_OBJ k) = e.2 % 2 ^ (F.FRW_FCMTk_OBJ_OBJ k).width ∧ EdgeTaken s t (61 + k) ∧
      t.pair A.FRW_ADM_REF_LO = (s.pair A.FRW_ADM_REF_LO + 1) % 2 ^ 64 ∧
      RegsKept s t ([A.FRW_FCMTk k, A.FRW_FCMTk_REASON k, A.FRW_FCMTk_OBJ k] ++ pairRegs A.FRW_ADM_REF_LO ++ sourceRegs (61 + k)))) ∧
  (∀ (c : Commit) (rest : List Commit) (u : State) (k : Nat), s.hsp.checks = c :: rest → fcmtOf c.origin = some k → k < 5 →
    admitWords s c.words false = none → u = acceptCommit c { s with hsp := { s.hsp with checks := rest } } → u.mic.waitRemap = [] →
    Gives .admissionDecision s (fun t => OnlyRegs u t ∧ t.get (F.FRW_FCMTk_RESULT k) = 2 ∧ EdgeTaken u t (61 + k) ∧
      t.pair A.FRW_ADM_ACC_LO = (u.pair A.FRW_ADM_ACC_LO + 1) % 2 ^ 64 ∧
      RegsKept u t ([A.FRW_FCMTk k] ++ pairRegs A.FRW_ADM_ACC_LO ++ sourceRegs (61 + k)))) ∧
  (s.hsp.checks = [] → Gives .admissionDecision s (fun t => t = s)) ∧
  (∀ (o : Origin) (a : BitVec 24) (w : Word),
    (blockResponds s a.toNat = false → Gives (.registerWrite o a w) s (fun t => t = s)) ∧
    (needsCheck [(a.toNat / 4 * 4, w)] = true → (admitWords s [(a.toNat / 4 * 4, w)] false).isSome = true →
      Gives (.registerWrite o a w) s (fun t => t = s)) ∧
    (blockResponds s a.toNat = true → needsCheck [(a.toNat / 4 * 4, w)] = false →
      Gives (.registerWrite o a w) s (fun t => t = applyNow o [(a.toNat / 4 * 4, w)] s)) ∧
    (blockResponds s a.toNat = true → needsCheck [(a.toNat / 4 * 4, w)] = true → admitWords s [(a.toNat / 4 * 4, w)] false = none →
      Gives (.registerWrite o a w) s (fun t => t = admitted (applyNow o [(a.toNat / 4 * 4, w)] s)))) ∧
  (s.pwr.deferring = false → s.pstate ≠ OFF → ∀ (o : Origin) (w : Word),
    Gives (.registerWrite o (BitVec.ofNat 24 A.SYS_HSPCFG) w) s (fun t => OnlyRegs s t ∧
      t.get F.SYS_HSPCFG_QUAD = w.toNat % 2 ∧ RegsKept s t [A.SYS_HSPCFG]) ∧
    Gives (.registerWrite o (BitVec.ofNat 24 A.SYS_CMT) w) s (fun t => OnlyRegs s t ∧
      t.rd A.SYS_CMT = s.rd A.SYS_CMT &&& ~~~(w &&& 0x100000#32) ∧ RegsKept s t [A.SYS_CMT]) ∧
    (∀ a : BitVec 24, 0x120000 ≤ a.toNat → a.toNat < 0x400000 → Gives (.registerWrite o a w) s (fun t => t = s)))

/-- The tunnel between the host and a partner: timeout, replies and requests. With a transaction outstanding, 20 ms without
its reply set SYS_TUNST.STATE to TIMEOUT and DONE, and the tag is free again; with none outstanding, and without HSCK,
nothing happens. A segment of a reply under another tag or from another device, out of order, or with no transaction
outstanding changes nothing; a segment that is not the last is kept; the last one writes RSTAT, TUNEPOCH and the response
window, sets DONE and ends the transaction (that the words beyond the reply read 0 is the model's choice, log 79). At a
partner a segment that is not the last of its transaction is kept until the rest arrives; the last one runs the transaction
as on the partner's own port and its tag becomes the one last run, under which nothing runs again; a segment out of order
ends the transaction as LENGTH, recorded and counted; an incomplete transaction is discarded after its own timeout. Rests on
spec/03_host_port_and_view.md, spec/19_hedgerow_messages_and_systems.md. -/
def Obligations.Tunnel : Prop := ∀ (s u v : State) (x : Fin 2) (r : RxMsg), v = partnerHeard u r.msg.src →
  (s.hsp.tun.isSome = true → s.clk.present = true → Gives .tunnelTimeout s (fun t =>
    t = { s with regs := t.regs, hsp := { s.hsp with tun := none, tunBuf := [] } } ∧ t.get F.SYS_TUNST_STATE = 3 ∧
      t.flag F.SYS_TUNST_DONE = true ∧ t.flag (F.INT_SRCs_LIVE 6) = true ∧ RegsKept s t (A.SYS_TUNST :: sourceRegs 6))) ∧
  (s.hsp.tun = none ∨ s.clk.present = false → Gives .tunnelTimeout s (fun t => t = s)) ∧
  (msgOwn s x T_REG_RSP = some (r, u) → (s.hsp.tun ≠ some (r.msg.param % 65536, r.msg.src) ∨
    s.hsp.tunBuf.length ≠ 192 * (r.msg.param / 65536 % 256)) → Gives (.regRsp x) s (fun t => t = v)) ∧
  (msgOwn s x T_REG_RSP = some (r, u) → s.hsp.tun = some (r.msg.param % 65536, r.msg.src) →
    s.hsp.tunBuf.length = 192 * (r.msg.param / 65536 % 256) → bit r.msg.param 24 = false → Gives (.regRsp x) s (fun t =>
      t = { v with hsp := { v.hsp with tunBuf := s.hsp.tunBuf ++ r.msg.body.drop 8 } })) ∧
  (∀ ws : List Word, msgOwn s x T_REG_RSP = some (r, u) → s.hsp.tun = some (r.msg.param % 65536, r.msg.src) →
    s.hsp.tunBuf.length = 192 * (r.msg.param / 65536 % 256) → bit r.msg.param 24 = true →
    ws = bodyWords (List.replicate 8 0 ++ (s.hsp.tunBuf ++ r.msg.body.drop 8)) → Gives (.regRsp x) s (fun t =>
      t = { v with regs := t.regs, hsp := { s.hsp with tun := none, tunBuf := [] } } ∧ t.get F.SYS_TUNST_STATE = 2 ∧
      t.flag F.SYS_TUNST_DONE = true ∧ t.flag (F.INT_SRCs_LIVE 6) = true ∧ t.get F.SYS_TUNST_RSTAT = nth r.msg.body 0 0 % 256 ∧
      t.get F.SYS_TUNEPOCH_EPOCH = leOfBytes ((r.msg.body.drop 4).take 4) % 2 ^ 32 ∧
      ∀ i < 1024, t.rd (0x002000 + 4 * i) = nth ws i 0)) ∧
  (msgOwn s x T_REG_REQ = some (r, u) → s.devid ≠ 0 → r.msg.param % 65536 ≠ s.get F.SYS_TUNLAST_TAG → s.hg.tun = none →
    r.msg.param / 65536 % 256 = 0 → bit r.msg.param 24 = false → Gives (.regReq x) s (fun t =>
      t = { v with hg := { v.hg with tun := t.hg.tun } } ∧
      t.hg.tun = some ⟨r.msg.param % 65536, 1, nth r.msg.body 0 0, beOfBytes ((r.msg.body.drop 1).take 3),
        beOfBytes ((r.msg.body.drop 4).take 2), bodyWords r.msg.body, x.val⟩)) ∧
  (∀ n : TunIn, msgOwn s x T_REG_REQ = some (r, u) → s.devid ≠ 0 → r.msg.param % 65536 ≠ s.get F.SYS_TUNLAST_TAG → s.hg.tun = none →
    r.msg.param / 65536 % 256 = 0 → bit r.msg.param 24 = true →
    n = ⟨r.msg.param % 65536, 1, nth r.msg.body 0 0, beOfBytes ((r.msg.body.drop 1).take 3),
      beOfBytes ((r.msg.body.drop 4).take 2), bodyWords r.msg.body, x.val⟩ → Gives (.regReq x) s (fun t => t = tunRun v n)) ∧
  (∀ n : TunIn, msgOwn s x T_REG_REQ = some (r, u) → s.devid ≠ 0 → r.msg.param % 65536 ≠ s.get F.SYS_TUNLAST_TAG →
    s.hg.tun = some n → n.tag = r.msg.param % 65536 → n.seg = r.msg.param / 65536 % 256 → Gives (.regReq x) s (fun t =>
      t = if bit r.msg.param 24 then tunRun v { n with seg := n.seg + 1, words := n.words ++ bodyWords r.msg.body }
        else { v with hg := { v.hg with tun := some { n with seg := n.seg + 1, words := n.words ++ bodyWords r.msg.body } } })) ∧
  (∀ n : TunIn, (tunRun s n).get F.SYS_TUNLAST_TAG = n.tag % 65536) ∧
  (msgOwn s x T_REG_REQ = some (r, u) → s.devid ≠ 0 → r.msg.param % 65536 ≠ s.get F.SYS_TUNLAST_TAG →
    (s.hg.tun = none ∧ r.msg.param / 65536 % 256 ≠ 0) → Gives (.regReq x) s (fun t => t.hg.tun = none ∧ t.hsp = s.hsp ∧
      t.get F.SYS_HSPST_LAST = (HS_LENGTH + hspFlags (hspSnap { v with hg := { v.hg with tun := none } })) % 256 ∧
      t.get F.SYS_EPOCH_EPOCH = (s.get F.SYS_EPOCH_EPOCH + 1) % 2 ^ 32 ∧
      t.get F.SYS_HSPERR_LEN = Nat.min 255 (s.get F.SYS_HSPERR_LEN + 1))) ∧
  (msgOwn s x T_REG_REQ = some (r, u) → s.devid = 0 ∨ r.msg.param % 65536 = s.get F.SYS_TUNLAST_TAG →
    Gives (.regReq x) s (fun t => t = v)) ∧
  (s.clk.present = true → Gives .partialTunnelTimeout s (fun t => t = { s with hg := { s.hg with tun := none } })) ∧
  (s.clk.present = false → Gives .partialTunnelTimeout s (fun t => t = s)) ∧
  (msgOwn s x T_REG_RSP = none → Gives (.regRsp x) s (fun t => t = s)) ∧
  (msgOwn s x T_REG_REQ = none → Gives (.regReq x) s (fun t => t = s))

/-- RST# and the supplies: what OFF keeps and loses, and how start-up begins. RST# going low puts the device in OFF: every
register reads its reset word but SYS_RSTCAUSE, which names the pin; the swath, the short swath, the queues and the cores
are as at reset; the store's sectors, image slots and repair map, the supplies and the queue of commands stand. A pulse
shorter than 1 us either changes nothing or is such an assertion and release, and the model leaves open which. A supply that
leaves its range with every other good does the same with its rail named, or with POR where the register's contents went
with it; with another already bad only its rail is added. A supply that returns while another is bad only becomes good. A
release of RST# with every supply good, and the last supply's return with RST# high, sample the straps and run time from 0;
start-up begins at step 1 once its conditions hold, at the release itself where they hold then. Each does nothing to a pin
or a rail that stands so already. Rests on spec/04_power_states_and_startup.md, spec/02_one_clock.md. -/
def Obligations.ResetAndSupplies : Prop := ∀ s : State,
  (s.pwr.rst = false → Gives (.rstAssert false) s (fun t => t.pstate = OFF ∧ t.pwr.rst = true ∧ t.pwr.rails = s.pwr.rails ∧
    t.flag F.SYS_RSTCAUSE_PIN = true ∧ t.flag F.SYS_RSTCAUSE_POR = false ∧ t.get F.SYS_RSTCAUSE_RAIL = 0 ∧
    (∀ a, a ≠ A.SYS_RSTCAUSE → t.rd a = resetWord a) ∧ t.swa = State.reset.swa ∧ t.que = State.reset.que ∧
    t.frw = State.reset.frw ∧ t.pwr.deferred = [] ∧ t.nvm.sec = s.nvm.sec ∧ t.nvm.slot = s.nvm.slot ∧ t.nvm.rows = s.nvm.rows ∧
    t.pending = s.pending)) ∧
  (s.pwr.rst = false → Gives (.rstAssert true) s (fun t => t = { s with free := s.free + 1 } ∨
    (t.pstate = OFF ∧ t.pwr.rst = false ∧ t.flag F.SYS_RSTCAUSE_PIN = true ∧ t.devid = s.devid ∧ t.swa = State.reset.swa ∧
      t.que = State.reset.que ∧ t.frw = State.reset.frw ∧ t.nvm.sec = s.nvm.sec ∧ t.nvm.slot = s.nvm.slot ∧ t.nvm.rows = s.nvm.rows ∧
      ∀ a, a ∉ [A.SYS_RSTCAUSE, A.SYS_STRAP, A.CLK_STAT, A.MON_VIO] → t.rd a = resetWord a))) ∧
  (∀ b : Bool, s.pwr.rst = true → Gives (.rstAssert b) s (fun t => t = s)) ∧
  (∀ (v : Fin 7) (lost : Bool), railsGood s = true → nth s.pwr.rails v.val false = true →
    Gives (.supplyLoss v lost) s (fun t => t.pstate = OFF ∧ t.pwr.rails = setNth s.pwr.rails v.val false ∧
      t.flag F.SYS_RSTCAUSE_POR = lost ∧ t.flag F.SYS_RSTCAUSE_PIN = false ∧
      t.get F.SYS_RSTCAUSE_RAIL = (if lost then 0 else 2 ^ v.val) ∧ (∀ a, a ≠ A.SYS_RSTCAUSE → t.rd a = resetWord a) ∧
      t.swa = State.reset.swa ∧ t.que = State.reset.que ∧ t.frw = State.reset.frw ∧ t.nvm.sec = s.nvm.sec ∧
      t.nvm.slot = s.nvm.slot ∧ t.nvm.rows = s.nvm.rows ∧ t.pending = s.pending)) ∧
  (∀ (v : Fin 7) (lost : Bool), railsGood s = false → nth s.pwr.rails v.val false = true →
    Gives (.supplyLoss v lost) s (fun t =>
      t = { s with regs := t.regs, pwr := { s.pwr with rails := setNth s.pwr.rails v.val false } } ∧
      (s.flag F.SYS_RSTCAUSE_POR = true → t.regs = s.regs) ∧
      (s.flag F.SYS_RSTCAUSE_POR = false → t.bitOf F.SYS_RSTCAUSE_RAIL v = true ∧ RegsKept s t [A.SYS_RSTCAUSE]))) ∧
  (∀ (v : Fin 7) (lost : Bool), nth s.pwr.rails v.val false = false → Gives (.supplyLoss v lost) s (fun t => t = s)) ∧
  (∀ (v : Fin 7) (d : Fin 4) (k t0 io : Bool), nth s.pwr.rails v.val false = false →
    railsGood { s with pwr := { s.pwr with rails := setNth s.pwr.rails v.val true } } = false ∨ s.pwr.rst = true →
    Gives (.supplyGood v d k t0 io) s (fun t => t = { s with pwr := { s.pwr with rails := setNth s.pwr.rails v.val true } })) ∧
  (∀ (v : Fin 7) (d : Fin 4) (k t0 io : Bool), nth s.pwr.rails v.val false = false → s.pwr.rst = false →
    railsGood { s with pwr := { s.pwr with rails := setNth s.pwr.rails v.val true } } = true →
    Gives (.supplyGood v d k t0 io) s (fun t => t.devid = d.val ∧ t.flag F.SYS_STRAP_CLKSRC = k ∧ t.flag F.SYS_STRAP_TEST0 = t0 ∧
      t.flag F.CLK_STAT_SRC = k ∧ t.flag F.MON_VIO_IO33 = io ∧ t.pwr.armed = !t0 ∧ t.pwr.test = t0 ∧ t.time = State.reset.time ∧
      RegsKept s t [A.SYS_STRAP, A.MON_VIO, A.CLK_STAT])) ∧
  (∀ (v : Fin 7) (d : Fin 4) (k t0 io : Bool), nth s.pwr.rails v.val false = true →
    Gives (.supplyGood v d k t0 io) s (fun t => t = s)) ∧
  (∀ (d : Fin 4) (k t0 io : Bool), s.pwr.rst = true → railsGood s = true →
    Gives (.rstRelease d k t0 io false) s (fun t => t.pwr = { s.pwr with rst := false, test := t0, armed := !t0 } ∧
      t.devid = d.val ∧ t.flag F.SYS_STRAP_CLKSRC = k ∧ t.flag F.SYS_STRAP_TEST0 = t0 ∧ t.flag F.CLK_STAT_SRC = k ∧
      t.flag F.MON_VIO_IO33 = io ∧ t.time = State.reset.time ∧
      t = { s with regs := t.regs, pwr := t.pwr, time := t.time, hg := t.hg } ∧ RegsKept s t [A.SYS_STRAP, A.MON_VIO, A.CLK_STAT])) ∧
  (∀ (d : Fin 4) (k io : Bool), s.pwr.rst = true → railsGood s = true → s.clk.present = true → s.pstate = OFF → s.pwr.start = none →
    s.pwr.offResp = false → Gives (.rstRelease d k false io true) s (fun t => t.pwr.rst = false ∧ t.devid = d.val ∧
      t.flag F.CLK_STAT_SRC = k ∧ t.pwr.start = some ⟨[], false, 0, []⟩ ∧ t.pwr.armed = false ∧ t.clk.cls = 0)) ∧
  (∀ (d : Fin 4) (k t0 io : Bool), s.pwr.rst = true → railsGood s = true → t0 = true ∨ s.clk.present = false →
    Gives (.rstRelease d k t0 io true) s (fun t => t.pwr = { s.pwr with rst := false, test := t0, armed := !t0 } ∧ t.devid = d.val)) ∧
  (∀ (d : Fin 4) (k t0 io m : Bool), s.pwr.rst = true → railsGood s = false →
    Gives (.rstRelease d k t0 io m) s (fun t => t = { s with pwr := { s.pwr with rst := false } })) ∧
  (∀ (d : Fin 4) (k t0 io m : Bool), s.pwr.rst = false → Gives (.rstRelease d k t0 io m) s (fun t => t = s)) ∧
  (s.pwr.armed = true → s.pwr.rst = false → railsGood s = true → s.clk.present = true → s.pstate = OFF → s.pwr.start = none →
    s.pwr.offResp = false → Gives .startupConditionsMet s (fun t => t.pwr.start = some ⟨[], false, 0, []⟩ ∧ t.pwr.armed = false ∧
      t.clk.cls = 0 ∧ t.clk.phase = .run ∧ t.get F.CLK_STAT_STATE = 2 ∧ t.flag F.CLK_STAT_LOCK = false)) ∧
  (s.pwr.armed = false ∨ s.pwr.rst = true ∨ railsGood s = false ∨ s.clk.present = false ∨ s.pstate ≠ OFF ∨ s.pwr.start ≠ none ∨
    s.pwr.offResp = true → Gives .startupConditionsMet s (fun t => t = s))

/-- The steps of start-up end one after another, and a failure drops what has not begun. Phase A of the self-test ends step
3: PHA_OK where it passed; where it failed FAILCODE 1 is recorded, every later step that had not begun but step 7 is
dropped, and step 7's zeroize begins. Phase B without a fault ends step 4 with PHB_OK and the zeroize of both memories
begins; with one it records FAILCODE 2; deferred to an exit from SENTRY it clears PHB_DUE, and a failure turns the exit to
SERVICE. A mount that finds no valid copy of the anchor is FAILCODE 3, which drops steps 6, 9, 10 and 11; one that finds any
sets MOUNTED, MOUNT_OK and the number of copies, and the repair map is in force. The sentry image, where a slot holds one,
ends step 6 with the sentry core in HALT; no sentry image is FAILCODE 4; no image pair is FAILCODE 5. An exit from SENTRY
goes on when its images are loaded, and turns to SERVICE with FAILCODE 5 where none is valid. The configuration commit ends
start-up. A row whose step does not run does nothing. Rests on spec/04_power_states_and_startup.md. -/
def Obligations.StartupSteps : Prop := ∀ s : State,
  (∀ t0, s.clk.present = true → s.pwr.start = some t0 → stepRuns s 3 = true → stepOver t0 4 = false → stepOver t0 7 = false →
    Gives (.selfTestPhaseAEnd true) s (fun t =>
      t = { s with regs := t.regs, pwr := { s.pwr with start := some { t0 with done := t0.done ++ [3] } } } ∧
      t.flag F.PWR_BOOTST_PHA_OK = true ∧ RegsKept s t [A.PWR_BOOTST])) ∧
  (∀ t0, s.clk.present = true → s.pstate = OFF → s.pwr.start = some t0 → t0.row = 0 → stepRuns s 3 = true → stepOver t0 7 = false →
    s.swa.zsw = false → s.swa.zss = false → Gives (.selfTestPhaseAEnd false) s (fun t =>
      t.pwr.start.map (fun q => (q.row, q.done)) = some (1, t0.done ++ [3]) ∧
      (∀ n ∈ [4, 5, 6, 8, 9, 10, 11], t.pwr.start.map (fun q => stepOver q n) = some true) ∧
      t.flag F.PWR_BOOTST_FAIL = true ∧ t.get F.PWR_BOOTST_FAILCODE = 1 ∧ t.pwr.failRow = 1 ∧ t.swa.zsw = true ∧ t.swa.zss = true)) ∧
  (∀ t0, s.clk.present = true → s.pstate = OFF → s.pwr.start = some t0 → stepRuns s 4 = true → stepOver t0 7 = false → s.swa.zsw = false →
    s.swa.zss = false → Gives (.selfTestPhaseBEnd false [] 0 []) s (fun t =>
      t.pwr.start = some { t0 with done := t0.done ++ [4] } ∧ t.flag F.PWR_BOOTST_PHB_OK = true ∧ t.swa.zsw = true ∧
      t.swa.zss = true ∧ t.swa.mem = [] ∧ t.swa.short = [])) ∧
  (∀ t0, s.clk.present = true → s.pwr.start = some t0 → t0.row = 0 → stepRuns s 4 = true → stepOver t0 7 = false →
    Gives (.selfTestPhaseBEnd true [] 0 []) s (fun t => t.flag F.PWR_BOOTST_FAIL = true ∧ t.get F.PWR_BOOTST_FAILCODE = 2 ∧
      t.pwr.failRow = 2 ∧ t.pwr.start.map (fun q => (q.row, q.done)) = some (2, t0.done ++ [4]) ∧
      (∀ n ∈ [5, 6, 8, 9, 10, 11], t.pwr.start.map (fun q => stepOver q n) = some true))) ∧
  (s.clk.present = true → s.pwr.start = none → transWaits s .phaseB = true → transWaits s .lock = false →
    Gives (.selfTestPhaseBEnd false [] 0 []) s (fun t => t.flag F.PWR_STATE_PHB_DUE = false ∧ t.flag F.PWR_BOOTST_PHB_OK = true ∧
      transWaits t .phaseB = false ∧ t.flag (F.INT_SRCs_PEND 5) = true) ∧
    Gives (.selfTestPhaseBEnd true [] 0 []) s (fun t => t.flag F.PWR_STATE_PHB_DUE = false ∧ t.flag F.PWR_BOOTST_PHB_OK = false ∧
      transWaits t .phaseB = false ∧ t.flag F.PWR_BOOTST_FAIL = true ∧ t.get F.PWR_BOOTST_FAILCODE = 2 ∧ t.pwr.failRow = 2 ∧
      t.pwr.trans.map (fun q => (q.target, q.cause)) = some (SERVICE, 7) ∧ t.get F.PWR_STATE_TARGET = SERVICE)) ∧
  (∀ t0, s.clk.present = true → s.pwr.start = some t0 → t0.row = 0 → stepRuns s 5 = true → stepOver t0 7 = false → s.swa.zsw = true →
    Gives (.nvmMount 0) s (fun t => t.pwr.start.map (fun q => (q.row, q.done)) = some (3, t0.done ++ [5]) ∧
      (∀ n ∈ [6, 9, 10, 11], t.pwr.start.map (fun q => stepOver q n) = some true) ∧ t.get F.PWR_BOOTST_FAILCODE = 3 ∧
      t.pwr.failRow = 3 ∧ t.flag F.PWR_BOOTST_FAIL = true ∧ RegsKept s t (A.PWR_BOOTST :: sourceRegs 4))) ∧
  (∀ (n : Fin 3) (t0 : StartSt), n ≠ 0 → s.clk.present = true → s.pwr.start = some t0 → stepRuns s 5 = true → stepOver t0 7 = false →
    s.swa.zsw = true → Gives (.nvmMount n) s (fun t => t.flag F.NVM_ST_MOUNTED = true ∧ t.flag F.PWR_BOOTST_MOUNT_OK = true ∧
      t.get F.NVM_ST_ANCH = n.val ∧ t.swa.repaired = s.nvm.rows)) ∧
  (∀ t0 e, s.clk.present = true → s.pwr.start = some t0 → stepRuns s 6 = true → stepOver t0 7 = false → s.swa.zsw = true →
    slotChoose s 3 = some e → Gives .sentryImageLoadEnd s (fun t => coreState t SENT = C_HALT ∧
      t.pwr.start = some { t0 with done := t0.done ++ [6] } ∧ (t0.row = 0 → t0.watch = false → t.flag F.PWR_BOOTST_IMG_OK = true))) ∧
  (∀ t0, s.clk.present = true → s.pwr.start = some t0 → t0.row = 0 → stepRuns s 6 = true → stepOver t0 7 = false → s.swa.zsw = true →
    slotChoose s 3 = none → Gives .sentryImageLoadEnd s (fun t =>
      t.get F.PWR_BOOTST_FAILCODE = 4 ∧ t.pwr.failRow = 4 ∧ t.pwr.start.map (fun q => (q.row, q.done)) = some (4, t0.done ++ [6]))) ∧
  (∀ t0, s.clk.present = true → s.pwr.start = some t0 → t0.row = 0 → stepRuns s 9 = true → stepOver t0 7 = false → s.swa.zsw = true →
    Gives .imageLoadEnd s (fun t =>
      (∀ u, imagesLoad s = some u →
        t = stepsGo (imagesOk (stepEnd (storeLoad (altNote (altNote u 1 (u.get F.FRW_IMG_FACT)) 2 (u.get F.FRW_IMG_SACT))) 9))) ∧
      (imagesLoad s = none → t.get F.PWR_BOOTST_FAILCODE = 5 ∧ t.pwr.failRow = 5 ∧
        t.pwr.start.map (fun q => (q.row, q.done)) = some (5, t0.done ++ [9])))) ∧
  (s.clk.present = true → s.pwr.start = none → transWaits s .images = true → transWaits s .lock = false →
    transWaits s .phaseB = false → Gives .imageLoadEnd s (fun t =>
      (∀ u, imagesLoad (storeLoad (transDone s .images)) = some u → t = u ∧ transWaits t .images = false) ∧
      (imagesLoad (storeLoad (transDone s .images)) = none → t.get F.PWR_BOOTST_FAILCODE = 5 ∧ t.pwr.failRow = 5 ∧
        t.get F.PWR_STATE_TARGET = SERVICE))) ∧
  (∀ t0, s.pwr.start = some t0 → t0.row = 0 → t0.watch = true → stepsOver s = true → s.clk.present = true →
    Gives .bootConfigCommit s (fun t => t.pwr.start = none ∧ t.frw.swapTasks = [])) ∧
  (s.clk.present = false ∨ (s.pwr.start = none ∧ s.pwr.trans = none) → (∀ b, Gives (.selfTestPhaseAEnd b) s (fun t => t = s)) ∧
    (∀ b r k l, Gives (.selfTestPhaseBEnd b r k l) s (fun t => t = s)) ∧ (∀ n, Gives (.nvmMount n) s (fun t => t = s)) ∧
    Gives .sentryImageLoadEnd s (fun t => t = s) ∧ Gives .imageLoadEnd s (fun t => t = s) ∧ Gives .bootConfigCommit s (fun t => t = s))

/-- A state request begins a transition, and the transition enters its target. A request from WATCH, RECORD or SERVICE for
another of them, with no start-up and no transition in progress, begins a transition: PWR_STATE shows TRANS and the target
with cause host or firmware, and nothing else changes. One for SENTRY first closes the core domain down: writes are deferred
from then on, the swath reads 0, and the transition waits for both zeroizes. One in SENTRY leads out where a clock class of
2 to 4 is in force, and is held in class 1. In TRIPPED a request for RECORD or WATCH sets or clears REC and the state
stays. A request that admission refuses, one for the state in force, or one during a transition changes nothing. A
transition between WATCH, RECORD and SERVICE that has nothing left to wait for enters its target: unload is in force for
RECORD alone, and no transition is in progress; one to SENTRY ends there, or begins the exit that a held wake asks for;
one out of SENTRY commits its configuration and, where that is refused, stays in SENTRY; in class 1 it waits (DEDUCED, log
24). A transition that still waits changes nothing. Rests on spec/04_power_states_and_startup.md, spec/02_one_clock.md. -/
def Obligations.StateRequests : Prop := ∀ s : State,
  (∀ (o : Origin) (g : Fin 6), (s.pstate = WATCH ∨ s.pstate = RECORD ∨ s.pstate = SERVICE) →
    (g.val = WATCH ∨ g.val = RECORD ∨ g.val = SERVICE) → g.val ≠ s.pstate → s.pwr.start = none → s.pwr.trans = none →
    (checkRequest s g.val).isNone = true → Gives (.stateRequest o g) s (fun t =>
      t = { s with regs := t.regs, time := { s.time with transAt := s.time.hsck }, pwr := { s.pwr with trans := some ⟨g.val, if byHost o then 1 else 2, [], false, false⟩, held := none } } ∧
      t.flag F.PWR_STATE_TRANS = true ∧ t.get F.PWR_STATE_TARGET = g.val ∧ t.pstate = s.pstate ∧ RegsKept s t [A.PWR_STATE])) ∧
  (∀ o : Origin, (s.pstate = WATCH ∨ s.pstate = SERVICE) → s.pwr.start = none → s.pwr.trans = none →
    (checkRequest s SENTRY).isNone = true → Gives (.stateRequest o 1) s (fun t =>
      t.pwr.trans = some ⟨SENTRY, if byHost o then 1 else 2, [.zeroSwath, .zeroShort], false, false⟩ ∧ t.pwr.deferring = true ∧
      t.pstate = s.pstate ∧ t.swa.mem = [] ∧ t.swa.zsw = true ∧ t.flag F.PWR_STATE_TRANS = true ∧ t.get F.PWR_STATE_TARGET = SENTRY)) ∧
  (∀ (o : Origin) (g : Fin 6), s.pstate = SENTRY → (g.val = WATCH ∨ g.val = SERVICE) → s.pwr.start = none → s.pwr.trans = none →
    (checkRequest s g.val).isNone = true →
    (s.clk.cls = 1 → Gives (.stateRequest o g) s (fun t =>
      t = { s with regs := t.regs, pwr := { s.pwr with held := some (g.val, if byHost o then 1 else 2) } } ∧
      t.flag F.PWR_STATE_HELD = true ∧ t.get F.PWR_STATE_TARGET = g.val ∧ RegsKept s t [A.PWR_STATE])) ∧
    (s.clk.cls ≠ 1 → (checkDeferred s).isNone = true → Gives (.stateRequest o g) s (fun t =>
      t.pwr.trans.map (fun q => (q.target, q.cause)) = some (g.val, if byHost o then 1 else 2) ∧ t.swa.zsw = true ∧ t.swa.mem = [] ∧
      t.pstate = SENTRY ∧ t.flag F.PWR_STATE_TRANS = true ∧ t.get F.PWR_STATE_TARGET = g.val)) ∧
    (s.clk.cls ≠ 1 → (checkDeferred s).isNone = false → Gives (.stateRequest o g) s (fun t => t = s))) ∧
  (∀ o : Origin, s.pstate = TRIPPED → s.pwr.start = none → s.pwr.trans = none →
    Gives (.stateRequest o 3) s (fun t => t.flag F.PWR_STATE_REC = true ∧ t.pstate = TRIPPED ∧ t.pwr = s.pwr) ∧
    Gives (.stateRequest o 2) s (fun t => t.flag F.PWR_STATE_REC = false ∧ t.pstate = TRIPPED ∧ t.pwr = s.pwr)) ∧
  (∀ (o : Origin) (g : Fin 6), (checkRequest s g.val).isNone = false ∨ s.pwr.trans.isSome = true ∨ s.pwr.start.isSome = true ∨
    (g.val = s.pstate ∧ s.pstate ≠ SENTRY) ∨ g = 0 → Gives (.stateRequest o g) s (fun t => t = s)) ∧
  (∀ x : TransSt, s.pwr.trans = some x → x.waits = [] → s.clk.present = true → s.clk.phase = .run →
    (s.pstate = WATCH ∨ s.pstate = RECORD ∨ s.pstate = SERVICE) → (x.target = WATCH ∨ x.target = RECORD ∨ x.target = SERVICE) →
    Gives .transitionComplete s (fun t => t.pstate = x.target ∧ t.flag F.PWR_STATE_REC = decide (x.target = RECORD) ∧
      t.flag F.PWR_STATE_TRANS = false ∧ t.pwr.trans = none)) ∧
  (∀ x : TransSt, s.pwr.trans = some x → x.waits = [] → s.clk.present = true → s.clk.phase = .run → x.target = SENTRY →
    Gives .transitionComplete s (fun t => t = wakesDeliver (sentryArrive (if s.pstate = SERVICE then manClear s else s) x.cause))) ∧
  (∀ c : Nat, (sentryArrive s c).pstate = SENTRY ∧ (sentryArrive s c).pwr.trans = none ∧ (sentryArrive s c).pwr.deferring = true ∧
    (sentryArrive s c).swa.stags = []) ∧
  (∀ x : TransSt, s.pwr.trans = some x → x.waits = [] → s.clk.present = true → s.clk.phase = .run → s.pstate = SENTRY → x.target ≠ SENTRY →
    (s.clk.cls = 1 → Gives .transitionComplete s (fun t => t = s)) ∧
    (s.clk.cls ≠ 1 → exitDeny s ≠ none → Gives .transitionComplete s (fun t => t.pstate = SENTRY ∧ t.pwr.trans = none ∧
      t.pwr.deferred = s.pwr.deferred ∧ t.flag F.PWR_STATE_TRANS = false)) ∧
    (s.clk.cls ≠ 1 → exitDeny s = none → Gives .transitionComplete s (fun t => t = exitArrive s x))) ∧
  (∀ x, s.pwr.trans = some x → x.waits ≠ [] → Gives .transitionComplete s (fun t => t = s)) ∧
  (s.pwr.trans = none ∨ s.clk.present = false ∨ s.clk.phase ≠ .run → Gives .transitionComplete s (fun t => t = s))

/-- Stuck, density and neighbour events, suspicion and latched faults of an input. A stuck event on a checked input that no
armed stop input hears sets its STUCK flag and counts; on an input already in FAULT nothing else changes, and any other,
with no measurement, no automatic spare and no sentry role, enters FAULT: an episode is counted and source 16 is raised. A
density window outside its limits sets DENS and counts, and makes an input that was OK and had fewer than three such windows
in the last second SUSPECT; one within its limits does nothing. A floor that departs from its neighbours sets NB, counts and
makes an input that was OK or SUSPECT DEVIANT. An input that is not checked has none of these events. A quiet second
returns SUSPECT to OK; LATCH_CLR returns FAULT and DEVIANT to OK, and leaves any other input alone. The partner comparison
counts consecutive deaf frames, clears the count otherwise, and at the fiftieth sets DEAF with source 20; a quiet partner,
and one that is not enabled, changes nothing. Rests on spec/05_microphone_inputs.md. -/
def Obligations.MicLiveness : Prop := ∀ (s : State) (p : Fin 32),
  (∀ v : Bool, inputChecked s p = true → micState s p = MS_FAULT → stopsFedBy s p = [] → Gives (.stuckAt p v) s (fun t =>
    OnlyRegs s t ∧ t.flag (if v then F.MIC_STATn_STUCK1 p else F.MIC_STATn_STUCK0 p) = true ∧
      t.pair A.MIC_EVT_LO = (s.pair A.MIC_EVT_LO + 1) % 2 ^ 64 ∧ RegsKept s t (A.MIC_STATn p :: pairRegs A.MIC_EVT_LO))) ∧
  (∀ v : Bool, inputChecked s p = true → micState s p ≠ MS_FAULT → stopsFedBy s p = [] → s.mic.cal = none →
    s.flag F.MIC_CFG_AUTO_SPARE = false → sentryIn s ≠ p → Gives (.stuckAt p v) s (fun t => OnlyRegs s t ∧
      t.get (F.MIC_STATn_STATE p) = MS_FAULT ∧ t.bitOf F.MIC_FAULT_FAULT p = true ∧
      t.get (F.MIC_STATn_EPIS p) = Nat.min (2 ^ (F.MIC_STATn_EPIS p).width - 1) (s.get (F.MIC_STATn_EPIS p) + 1) ∧
      t.flag (if v then F.MIC_STATn_STUCK1 p else F.MIC_STATn_STUCK0 p) = true ∧ EdgeTaken s t 16 ∧
      t.pair A.MIC_EVT_LO = (s.pair A.MIC_EVT_LO + 1) % 2 ^ 64 ∧
      RegsKept s t ([A.MIC_STATn p, A.MIC_FAULT] ++ pairRegs A.MIC_EVT_LO ++ sourceRegs 16))) ∧
  (∀ (n : BitVec 16) (w : Nat) (l : List Nat), w = 2 ^ (10 + s.get F.MIC_DENS_WIN) →
    l = (nth s.mic.dens p []).filter (fun k => decide (s.time.ms < k + 1000)) → inputChecked s p = true →
    256 * n.toNat < s.get F.MIC_DENS_DLO * w ∨ s.get F.MIC_DENS_DHI * w < 256 * n.toNat →
    micState s p = MS_OK → l.length < 3 → stopsFedBy s p = [] → Gives (.densityEvent p n) s (fun t =>
      t = { s with regs := t.regs, mic := { s.mic with dens := setNth s.mic.dens p (s.time.ms :: l) } } ∧
      t.get (F.MIC_STATn_STATE p) = MS_SUSPECT ∧ t.flag (F.MIC_STATn_DENS p) = true ∧
      t.pair A.MIC_EVT_LO = (s.pair A.MIC_EVT_LO + 1) % 2 ^ 64 ∧
      RegsKept s t ([A.MIC_STATn p, A.MIC_FAULT] ++ pairRegs A.MIC_EVT_LO))) ∧
  (∀ (n : BitVec 16) (w : Nat), w = 2 ^ (10 + s.get F.MIC_DENS_WIN) → s.get F.MIC_DENS_DLO * w ≤ 256 * n.toNat →
    256 * n.toNat ≤ s.get F.MIC_DENS_DHI * w → Gives (.densityEvent p n) s (fun t => t = s)) ∧
  (inputChecked s p = true → s.pstate ≠ SENTRY → floorDeparts s p = true → micState s p = MS_OK ∨ micState s p = MS_SUSPECT →
    Gives (.neighbourEvent p) s (fun t => OnlyRegs s t ∧ t.get (F.MIC_STATn_STATE p) = MS_DEVIANT ∧
      t.flag (F.MIC_STATn_NB p) = true ∧ t.pair A.MIC_EVT_LO = (s.pair A.MIC_EVT_LO + 1) % 2 ^ 64 ∧
      RegsKept s t ([A.MIC_STATn p, A.MIC_FAULT] ++ pairRegs A.MIC_EVT_LO))) ∧
  (inputChecked s p = false → (∀ v, Gives (.stuckAt p v) s (fun t => t = s)) ∧ (∀ n, Gives (.densityEvent p n) s (fun t => t = s)) ∧
    Gives (.neighbourEvent p) s (fun t => t = s)) ∧
  (micState s p = MS_SUSPECT → Gives (.suspectClear p) s (fun t =>
    t = { s with regs := t.regs, mic := { s.mic with dens := setNth s.mic.dens p [] } } ∧
      t.get (F.MIC_STATn_STATE p) = MS_OK ∧ RegsKept s t [A.MIC_STATn p, A.MIC_FAULT])) ∧
  (micState s p ≠ MS_SUSPECT → Gives (.suspectClear p) s (fun t => t = s)) ∧
  (MS_DEVIANT ≤ s.get (F.MIC_STATn_STATE p) → Gives (.latchClr p) s (fun t =>
    t.get (F.MIC_STATn_STATE p) = MS_OK ∧ t.bitOf F.MIC_FAULT_FAULT p = false)) ∧
  (s.get (F.MIC_STATn_STATE p) < MS_DEVIANT → Gives (.latchClr p) s (fun t => t = s)) ∧
  (s.awake = true → listens s = true → s.flag F.MIC_CFG_PARTNER_EN = true → ∀ l f a : Nat × Nat,
    l = level10 s (s.get F.MIC_CFG_PARTNER_IN) → f = levelFloor s (s.get F.MIC_CFG_PARTNER_IN) → a = level10 s (sentryIn s) →
    (l.1 * f.2 < 100 * f.1 * l.2 ∨ l.1 = 0 → Gives .partnerDeafCheck s (fun t => t = s)) ∧
    (100 * f.1 * l.2 ≤ l.1 * f.2 → l.1 ≠ 0 →
      (a.1 * l.2) ^ 10 * 10 ^ s.get F.MIC_NBCFG_PLIM < (l.1 * a.2) ^ 10 → s.get F.MIC_PART_RUN ≠ 49 →
        Gives .partnerDeafCheck s (fun t => OnlyRegs s t ∧ t.get F.MIC_PART_RUN = Nat.min 255 (s.get F.MIC_PART_RUN + 1) ∧
          RegsKept s t [A.MIC_PART])) ∧
    (100 * f.1 * l.2 ≤ l.1 * f.2 → l.1 ≠ 0 →
      (a.1 * l.2) ^ 10 * 10 ^ s.get F.MIC_NBCFG_PLIM < (l.1 * a.2) ^ 10 → s.get F.MIC_PART_RUN = 49 → s.flag F.MIC_CFG_FAILOVER = false →
        Gives .partnerDeafCheck s (fun t => OnlyRegs s t ∧ t.get F.MIC_PART_RUN = 50 ∧ t.flag F.MIC_PART_DEAF = true ∧
          t.pair A.MIC_EVT_LO = (s.pair A.MIC_EVT_LO + 1) % 2 ^ 64 ∧ EdgeTaken s t 20 ∧
          RegsKept s t (A.MIC_PART :: (pairRegs A.MIC_EVT_LO ++ sourceRegs 20)))) ∧
    (100 * f.1 * l.2 ≤ l.1 * f.2 → l.1 ≠ 0 → (l.1 * a.2) ^ 10 ≤ (a.1 * l.2) ^ 10 * 10 ^ s.get F.MIC_NBCFG_PLIM →
      Gives .partnerDeafCheck s (fun t => OnlyRegs s t ∧ t.get F.MIC_PART_RUN = 0 ∧ RegsKept s t [A.MIC_PART]))) ∧
  (s.flag F.MIC_CFG_PARTNER_EN = false ∨ s.awake = false ∨ listens s = false → Gives .partnerDeafCheck s (fun t => t = s))

/-- Group power, settling intervals, the sentry input and the channel map. The next group due powers up with STAGGER, and
all groups due without: a group's MICPWR bit is set, its clock starts at its divider, and its enabled inputs are in TSU.
The end of TSU ends the interval of every input of the group that is in it, and of no other group's; the end of TMC ends
that of one input. A power cycle drops the group's MICPWR, stops its clock and shows BUSY; its end clears BUSY, raises
source 21, and powers the group again where it is still wanted. A change of SENTRY_IN to an enabled input names the new
input. A map change with CUT puts the channel's chain on the mapped input with its calibration set at once, and without it
starts a fade to it; AUTO and the mute clear, and LCFAULT tells whether the input is in FAULT; one to the input in use
changes nothing. Rests on spec/05_microphone_inputs.md, spec/04_power_states_and_startup.md. -/
def Obligations.MicPowerAndRoles : Prop := ∀ s : State,
  (∀ g l, s.awake = true → s.pwr.start = none → s.mic.settle.length = 32 → s.mic.div.length = 4 →
    groupsDue s = g :: l → Gives .micGroupPowerUp s (fun t =>
      (∀ k ∈ (if s.flag F.PWR_CFG_STAGGER then [g] else g :: l), t.bitOf F.PWR_MICPWR_GRP k = true ∧ groupDiv t k = divWanted s k ∧
        ∀ p ∈ groupInputs k, s.bitOf F.MIC_INEN_EN p = true → nth t.mic.settle p .none = .tsu) ∧
      (∀ k < 4, k ∉ (if s.flag F.PWR_CFG_STAGGER then [g] else g :: l) → t.bitOf F.PWR_MICPWR_GRP k = s.bitOf F.PWR_MICPWR_GRP k))) ∧
  (∀ g : Fin 4, s.clk.present = true → s.pwr.start = none → s.mic.oldGroup = none → s.mic.settle.length = 32 →
    Gives (.tsuEnd g) s (fun t =>
      (∀ p < 32, p / 8 = g.val → nth s.mic.settle p .none = .tsu → nth t.mic.settle p .none = .none) ∧
      (∀ p < 32, p / 8 ≠ g.val → nth t.mic.settle p .none = nth s.mic.settle p .none))) ∧
  (∀ p : Fin 32, s.clk.present = true → nth s.mic.settle p .none = .tmc → Gives (.tmcEnd p) s (fun t =>
    t.mic.settle = setNth s.mic.settle p .none ∧ t.mic.levels = setNth s.mic.levels p [])) ∧
  (∀ p : Fin 32, s.clk.present = false ∨ nth s.mic.settle p .none ≠ .tmc → Gives (.tmcEnd p) s (fun t => t = s)) ∧
  (∀ g : Fin 4, armedRules s = false → groupPowered s g = true → s.bitOf F.MIC_PWRCTL_BUSY g = false → s.pstate ≠ SENTRY →
    s.mic.cal = none → s.mic.div.length = 4 → Gives (.powerCycle g) s (fun t => t.bitOf F.MIC_PWRCTL_BUSY g = true ∧
      t.bitOf F.PWR_MICPWR_GRP g = false ∧ groupDiv t g = 0 ∧ t = { s with regs := t.regs, mic := t.mic } ∧
      RegsKept s t [A.PWR_MICPWR, A.MIC_PWRCTL])) ∧
  (∀ g : Fin 4, armedRules s = true ∨ groupPowered s g = false ∨ s.bitOf F.MIC_PWRCTL_BUSY g = true ∨ (s.pstate = SENTRY ∧ sentryIn s / 8 = g.val) →
    Gives (.powerCycle g) s (fun t => t = s)) ∧
  (∀ g : Fin 4, s.clk.present = true → s.bitOf F.MIC_PWRCTL_BUSY g = true → Gives (.powerCycleOffEnd g) s (fun t =>
    t.bitOf F.MIC_PWRCTL_BUSY g = false ∧ t.flag (F.INT_SRCs_PEND 21) = true ∧
      (s.bitOf F.MIC_PWRCTL_EN g = true → dpOf (s.get (dpField g)) ≠ 0 → s.awake = true → t.bitOf F.PWR_MICPWR_GRP g = true) ∧
      (s.bitOf F.MIC_PWRCTL_EN g = false ∨ dpOf (s.get (dpField g)) = 0 ∨ s.awake = false → OnlyRegs s t ∧ EdgeTaken s t 21 ∧
        RegsKept s t (A.MIC_PWRCTL :: sourceRegs 21)))) ∧
  (∀ g : Fin 4, s.bitOf F.MIC_PWRCTL_BUSY g = false → Gives (.powerCycleOffEnd g) s (fun t => t = s)) ∧
  (∀ p : Fin 32, s.bitOf F.MIC_INEN_EN p = true → Gives (.sentryInChange p) s (fun t => t.get F.MIC_CFG_SENTRY_IN = p)) ∧
  (∀ p : Fin 32, s.bitOf F.MIC_INEN_EN p = false ∨ sentryIn s = p → Gives (.sentryInChange p) s (fun t => t = s)) ∧
  (∀ n : Fin 32, n < s.flt.chain.length → mapOn s n = true → (s.chain n).inst.input ≠ mapPhys s n → s.flag (F.MIC_MAPn_CUT n) = true →
    (s.chain n).fade = none → Gives (.mapChange n) s (fun t =>
      (t.chain n).inst = { instTarget s n with bank := (s.chain n).inst.bank, taps := (s.chain n).inst.taps, oshift := (s.chain n).inst.oshift } ∧
      (t.chain n).fade = none ∧ (t.chain n).disc = true ∧ (t.chain n).mute = false ∧ t.flag (F.MIC_MAPn_AUTO n) = false ∧
      t.flag (F.MIC_MAPn_LCFAULT n) = decide (micState s (mapPhys s n) = MS_FAULT))) ∧
  (∀ n : Fin 32, n < s.flt.chain.length → mapOn s n = true → (s.chain n).inst.input ≠ mapPhys s n → s.flag (F.MIC_MAPn_CUT n) = false →
    Gives (.mapChange n) s (fun t => (t.chain n).inst = instTarget s n ∧ (t.chain n).mute = false ∧
      (t.chain n).fade.map (fun f => (f.old, f.i, f.log2L)) = some ((s.chain n).inst, 0, s.get (F.FLT_CHn_XF_LOG2L n)) ∧
      t.flag (F.FLT_CHn_ST_FADE n) = true ∧ t.flag (F.MIC_MAPn_AUTO n) = false ∧
      t.flag (F.MIC_MAPn_LCFAULT n) = decide (micState s (mapPhys s n) = MS_FAULT))) ∧
  (∀ n : Fin 32, mapOn s n = false ∨ (s.chain n).inst.input = mapPhys s n → Gives (.mapChange n) s (fun t => t = s))

/-- Calibration measurements and their NVM actions. CAL_START with a reason to refuse writes the reason to ERR and nothing
else; without one it sets BUSY, clears ERR and the first target's capture begins; with no target selected it is done at
once (the model's choice, log 74). The end of a target's window writes its results: VALID, and as RATIO the rounded root of
the two windows' energies where that is a number of the format; the next target's capture begins, and the end of the last
one ends the measurement: BUSY falls, DONE sets with ERR 0 and source 19 is raised. A window that is not full goes on. SAVE
and LOAD begin their action and set BUSY, or answer ERR 6 while busy; the action's end clears BUSY, sets DONE and tells in
ERR whether it worked. Outside WATCH, RECORD, TRIPPED and SERVICE none of them starts. Rests on
spec/05_microphone_inputs.md. -/
def Obligations.MicCalibration : Prop := ∀ s : State,
  (s.awake = true → calRefusal s ≠ 0 → Gives .calStart s (fun t => OnlyRegs s t ∧ t.get F.MIC_CALCTL_ERR = calRefusal s ∧
    RegsKept s t [A.MIC_CALCTL])) ∧
  (∀ p l, s.awake = true → calRefusal s = 0 → ones 32 (s.get F.MIC_CALSEL_SEL) = p :: l → Gives .calStart s (fun t =>
    t = { s with regs := t.regs, flt := t.flt, mic := { s.mic with cal := some ⟨p :: l⟩ } } ∧
      t.flag F.MIC_CALCTL_BUSY = true ∧ t.get F.MIC_CALCTL_ERR = 0 ∧ RegsKept s t [A.MIC_CALCTL])) ∧
  (s.awake = true → calRefusal s = 0 → ones 32 (s.get F.MIC_CALSEL_SEL) = [] → Gives .calStart s (fun t => OnlyRegs s t ∧
    t.flag F.MIC_CALCTL_BUSY = false ∧ t.flag F.MIC_CALCTL_DONE = true ∧ t.get F.MIC_CALCTL_ERR = 0 ∧ EdgeTaken s t 19 ∧
    RegsKept s t (A.MIC_CALCTL :: sourceRegs 19))) ∧
  (∀ (p n x : Nat) (l : List Nat) (a b : List Int), s.mic.cal = some ⟨p :: l⟩ → n = 2 ^ (12 + s.get F.MIC_CALCTL_LEN) → p < 32 →
    a = cicOutput s (s.get F.MIC_CALCTL_REF) ((((s.cic (s.get F.MIC_CALCTL_REF)).meas).getD []).reverse.take n) →
    b = cicOutput s p ((((s.cic p).meas).getD []).reverse.take n) → a.length = n → b.length = n →
    x = sqrtQuot (2 ^ 44 * (sumI (a.map (fun y => y * y))).toNat) (sumI (b.map (fun y => y * y))).toNat →
    Gives .calTargetEnd s (fun t => t.get (F.MIC_CALRESn_ST_ST p) % 2 = 1 ∧
      ((sumI (b.map (fun y => y * y))).toNat ≠ 0 → x < 2 ^ 23 → t.get (F.MIC_CALRESn_RATIO_RATIO p) = x) ∧
      (l = [] → t.mic.cal = none ∧ t.flag F.MIC_CALCTL_BUSY = false ∧ t.flag F.MIC_CALCTL_DONE = true ∧ t.get F.MIC_CALCTL_ERR = 0 ∧
        t.flag (F.INT_SRCs_PEND 19) = true) ∧
      (l ≠ [] → t.mic = { s.mic with cal := some ⟨l⟩ } ∧ t.rd A.MIC_CALCTL = s.rd A.MIC_CALCTL))) ∧
  (∀ (p : Nat) (l : List Nat), s.mic.cal = some ⟨p :: l⟩ →
    (((s.cic p).meas).getD []).length < 2 ^ (12 + s.get F.MIC_CALCTL_LEN) → Gives .calTargetEnd s (fun t => t = s)) ∧
  (s.mic.cal = none → Gives .calTargetEnd s (fun t => t = s)) ∧
  (s.awake = true → s.flag F.MIC_CALCTL_BUSY = false →
    Gives .calSave s (fun t => t = { s with regs := t.regs, mic := { s.mic with nvm := some true } } ∧
      t.flag F.MIC_CALCTL_BUSY = true ∧ t.get F.MIC_CALCTL_ERR = 0 ∧ RegsKept s t [A.MIC_CALCTL]) ∧
    Gives .calLoad s (fun t => t = { s with regs := t.regs, mic := { s.mic with nvm := some false } } ∧
      t.flag F.MIC_CALCTL_BUSY = true ∧ t.get F.MIC_CALCTL_ERR = 0 ∧ RegsKept s t [A.MIC_CALCTL])) ∧
  (s.awake = true → s.flag F.MIC_CALCTL_BUSY = true →
    Gives .calSave s (fun t => OnlyRegs s t ∧ t.get F.MIC_CALCTL_ERR = 6 ∧ RegsKept s t [A.MIC_CALCTL]) ∧
    Gives .calLoad s (fun t => OnlyRegs s t ∧ t.get F.MIC_CALCTL_ERR = 6 ∧ RegsKept s t [A.MIC_CALCTL])) ∧
  (s.awake = false → Gives .calStart s (fun t => t = s) ∧ Gives .calSave s (fun t => t = s) ∧ Gives .calLoad s (fun t => t = s)) ∧
  (∀ save, s.mic.nvm = some save → Gives .calNvmActionEnd s (fun t => t.mic.nvm = none ∧ t.flag F.MIC_CALCTL_BUSY = false ∧
    t.flag F.MIC_CALCTL_DONE = true ∧ t.get F.MIC_CALCTL_ERR = (if (if save then calSaveAll s else calLoadAll s).2 then 0 else 5) ∧
    t.flag (F.INT_SRCs_PEND 19) = true)) ∧
  (s.mic.nvm = none → Gives .calNvmActionEnd s (fun t => t = s))

/-- What the fine chains, the glances, the sentry decimator and the beams deliver. Each output boundary first captures the
bits that its inputs have brought; where the comb sample of its output has not come yet, nothing else happens. A fine chain
delivers the output of its instance, or during a fade the mix of its two instances, marked UNSETTLED while a count of either
runs, DISCONTINUITY where one is due, and SAT where it clamped; a muted channel delivers zeros. A glance delivers its
sixteen taps' sum (its rounding and its SAT mark are the model's choice, log 72), the sentry decimator its half-band's
sample, a beam its queue's oldest entry once primed, zeros before, and a marked zero with an underflow counted where the
primed queue is empty. Where the filters do not run, the channel is not enabled or the glance not available, nothing
happens. The fine and glance statements are of outputs that agree with their shadow. Rests on
spec/06_decimation_and_filters.md, spec/14_queues_credits_admission.md. -/
def Obligations.SoundOutputs : Prop := ∀ s : State,
  (∀ (n : Fin 32) (bs : Captured) (u : State) (off : Nat), u = feedCaptured s bs → filtersRun s = true → mapOn s n = true →
    fineDue u n = some off → Gives (.fineChainOutput n bs false) s (fun t =>
      (fadeOld (u.chain n) = none → lastOf t (1 + n.val) =
        sampleWord (if (u.chain n).mute then 0 else (instOut u n (u.chain n).inst off).1) (fineUnsettled u n && !(u.chain n).mute)
          (u.chain n).disc ((instOut u n (u.chain n).inst off).2 && !(u.chain n).mute)) ∧
      (∀ f, fadeOld (u.chain n) = some f → lastOf t (1 + n.val) =
        sampleWord (if (u.chain n).mute then 0 else fadeMix f.log2L (f.i + 1) (instOut u n f.old off).1 (instOut u n (u.chain n).inst off).1)
          (fineUnsettled u n && !(u.chain n).mute) (u.chain n).disc
          (((instOut u n f.old off).2 || (instOut u n (u.chain n).inst off).2) && !(u.chain n).mute)))) ∧
  (∀ (n : Fin 32) (bs : Captured) (d : Bool) (u : State), u = feedCaptured s bs → filtersRun s = true → mapOn s n = true →
    fineDue u n = none → Gives (.fineChainOutput n bs d) s (fun t => t = u)) ∧
  (∀ (n : Fin 32) (bs : Captured) (d : Bool), filtersRun s = false ∨ mapOn s n = false →
    Gives (.fineChainOutput n bs d) s (fun t => t = s) ∧ Gives (.glanceOutput n bs d) s (fun t => t = s)) ∧
  (∀ (n : Fin 32) (bs : Captured) (d : Bool), glanceK s n = none → Gives (.glanceOutput n bs d) s (fun t => t = s)) ∧
  (∀ (n : Fin 32) (bs : Captured) (u : State) (acc : Int) (off : Nat), u = feedCaptured s bs → filtersRun s = true → mapOn s n = true →
    (glanceK s n).isSome = true → glanceDue u n = some off →
    acc = sumI ((upto 16).map (fun k => toSigned 24 (u.get (F.FLT_GLCk_TAP k)) *
      q22 (q22 (ringAt (u.cic (u.chain n).inst.input).ring (off + k) *
        cicGain (cicK1 u (u.chain n).inst.input) (cicOrder u (u.chain n).inst.input)) * (u.chain n).inst.gain))) →
    Gives (.glanceOutput n bs false) s (fun t => lastOf t (65 + n.val) =
      sampleWord (if (u.chain n).mute then 0 else satS 24 (roundShift acc 23))
        ((decide (0 < (u.chain n).gUns) || inputSettling u (u.chain n).inst.input) && !(u.chain n).mute) (u.chain n).gDisc
        (!fitsS 24 (roundShift acc 23) && !(u.chain n).mute))) ∧
  (∀ (n : Fin 32) (bs : Captured) (d : Bool) (u : State), u = feedCaptured s bs → filtersRun s = true → mapOn s n = true →
    (glanceK s n).isSome = true → glanceDue u n = none → Gives (.glanceOutput n bs d) s (fun t => t = u)) ∧
  (∀ (bs : List Bool) (u : State), u = sentryFeed (cicFeed s (sentryIn s) bs) bs → sentryRuns s = true → sentryDue u = true →
    Gives (.sentryDecimatorOutput bs false) s (fun t => lastOf t 49 =
      sampleWord (sentrySample (u.flt.sent.hist.drop (u.flt.sent.n32 - 2)))
        (decide (0 < u.flt.sent.uns) || inputSettling u (sentryIn u)) u.flt.sent.disc false)) ∧
  (∀ (bs : List Bool) (d : Bool) (u : State), u = sentryFeed (cicFeed s (sentryIn s) bs) bs → sentryRuns s = true → sentryDue u = false →
    Gives (.sentryDecimatorOutput bs d) s (fun t => t = u)) ∧
  (∀ bs d, sentryRuns s = false → Gives (.sentryDecimatorOutput bs d) s (fun t => t = s)) ∧
  (∀ (b : Fin 16) (w : Nat) (l : List Nat), filtersRun s = true → queueOn s (32 + b.val) = true → (s.queue (32 + b.val)).occ = w :: l →
    (s.queue (32 + b.val)).primed = true ∨ s.get (F.QUE_Qn_PROD_PUSHN (32 + b.val)) ≤ l.length + 1 →
    Gives (.bqPop b) s (fun t => lastOf t (33 + b.val) = w)) ∧
  (∀ b : Fin 16, filtersRun s = true → queueOn s (32 + b.val) = true → (s.queue (32 + b.val)).primed = false →
    (s.queue (32 + b.val)).occ.length < s.get (F.QUE_Qn_PROD_PUSHN (32 + b.val)) →
    Gives (.bqPop b) s (fun t => lastOf t (33 + b.val) = 0)) ∧
  (∀ b : Fin 16, filtersRun s = true → queueOn s (32 + b.val) = true → (s.queue (32 + b.val)).primed = true →
    (s.queue (32 + b.val)).occ = [] → Gives (.bqPop b) s (fun t => lastOf t (33 + b.val) = 2 ^ 25 ∧
      t.pair A.QUE_UNDER_LO = (s.pair A.QUE_UNDER_LO + 1) % 2 ^ 64)) ∧
  (∀ b : Fin 16, filtersRun s = false ∨ queueOn s (32 + b.val) = false → Gives (.bqPop b) s (fun t => t = s))

/-- Bank swaps, calibration and route changes, the end of a fade, and sync edges. A bank swap, and on every chain that reads
the input a calibration change, start a fade of 2^LOG2L outputs from the instance in force to the new settings and show
FADE; a fade that has made no output yet takes the new settings over, one in progress goes on, and settings in force change
nothing. A route change with CUT takes the new source at once with a discontinuity due, and without CUT starts the
destination's fade; one to the source in force changes nothing. A fade that has made all its outputs ends, FADE falls and
source 23 is raised; another goes on. An enabled pin edge, or a write of NOW, with no sync edge awaiting schedules one 64 HSCK cycles
ahead, and EXT cycles later with BCAST on the lead; one that comes while an edge awaits, in a clock procedure or in OFF
changes nothing, as does a disabled pin edge. At the sync edge none awaits any more, every fade outside SENTRY has ended, the
count of edges is one more and source 24 is raised; before its cycle nothing happens. Rests on
spec/06_decimation_and_filters.md. -/
def Obligations.SoundChanges : Prop := ∀ s : State, s.flt.chain.length = 32 → s.flt.route.length = 148 →
  (∀ (n : Fin 32) (i : Inst), filtersRun s = true → mapOn s n = true →
    i = { (s.chain n).inst with bank := (instTarget s n).bank, taps := (instTarget s n).taps, oshift := (instTarget s n).oshift } →
    (i ≠ (s.chain n).inst → (s.chain n).fade = none → Gives (.bankSwap n) s (fun t =>
      t.chain n = { s.chain n with inst := i, fade := some ⟨(s.chain n).inst, 0, s.get (F.FLT_CHn_XF_LOG2L n), (s.chain n).uns⟩ } ∧
      t.flag (F.FLT_CHn_ST_FADE n) = true ∧ t = { s with regs := t.regs, flt := t.flt } ∧ RegsKept s t [A.FLT_CHn_ST n])) ∧
    (∀ f, (s.chain n).fade = some f → f.i = 0 → Gives (.bankSwap n) s (fun t => t = s.setChain n { s.chain n with inst := i })) ∧
    (∀ f, (s.chain n).fade = some f → f.i ≠ 0 → Gives (.bankSwap n) s (fun t => t = s)) ∧
    (i = (s.chain n).inst → Gives (.bankSwap n) s (fun t => t = s))) ∧
  (∀ n : Fin 32, filtersRun s = false ∨ mapOn s n = false → Gives (.bankSwap n) s (fun t => t = s)) ∧
  (∀ p : Fin 32, filtersRun s = true → Gives (.calibrationChange p) s (fun t =>
    (∀ n ∈ chainsOf s p, (s.chain n).fade = none → s.getI (F.MIC_CALn_GAIN_GAIN p) ≠ (s.chain n).inst.gain →
      (t.chain n).inst = { (s.chain n).inst with gain := s.getI (F.MIC_CALn_GAIN_GAIN p), delay := s.get (F.MIC_CALn_DELAY_DELAY p), tap := (upto 4).map (fun k => s.getI (F.MIC_CALn_TAPt_TAP p k)) } ∧
      (t.chain n).fade = some ⟨(s.chain n).inst, 0, s.get (F.FLT_CHn_XF_LOG2L n), (s.chain n).uns⟩ ∧ t.flag (F.FLT_CHn_ST_FADE n) = true) ∧
    (∀ n < 32, n ∉ chainsOf s p → t.chain n = s.chain n) ∧ RegsKept s t ((upto 32).map A.FLT_CHn_ST))) ∧
  (∀ p : Fin 32, filtersRun s = false → Gives (.calibrationChange p) s (fun t => t = s)) ∧
  (∀ d : Fin 148, d.val < 144 → filtersRun s = true → (s.route d).src ≠ s.get (F.FLT_RTd_SRC d) →
    (s.flag (F.FLT_RTd_CUT d) = true → Gives (.routeChange d) s (fun t =>
      t = s.setRoute d { s.route d with src := s.get (F.FLT_RTd_SRC d), fade := none, disc := true })) ∧
    (s.flag (F.FLT_RTd_CUT d) = false → Gives (.routeChange d) s (fun t =>
      t.route d = { s.route d with src := s.get (F.FLT_RTd_SRC d), fade := some ((s.route d).src, 0, s.get (F.FLT_RTd_LOG2L d)) } ∧
      t.flag (F.FLT_RTd_FADE d) = true ∧ RegsKept s t [A.FLT_RTd d]))) ∧
  (∀ d : Fin 148, 144 ≤ d.val → filtersRun s = true → s.drl.enr = none → (s.route d).src ≠ s.get (F.FLT_RTd_SRC d) →
    Gives (.routeChange d) s (fun t => (t.route d).src = s.get (F.FLT_RTd_SRC d) ∧
      (t.route d).fade = (if s.flag (F.FLT_RTd_CUT d) then none else some ((s.route d).src, 0, s.get (F.FLT_RTd_LOG2L d))))) ∧
  (∀ d : Fin 148, filtersRun s = false ∨ (s.route d).src = s.get (F.FLT_RTd_SRC d) → Gives (.routeChange d) s (fun t => t = s)) ∧
  (∀ (k : Fin 148) (o l : Nat), (s.route k).fade = some (o, 2 ^ l, l) → Gives (.fadeComplete true k) s (fun t =>
    (t.route k).fade = none ∧ t.flag (F.FLT_RTd_FADE k) = false ∧ EdgeTaken s t 23 ∧
      RegsKept s t (A.FLT_RTd k :: sourceRegs 23))) ∧
  (∀ (k : Fin 148) (f : ChainFade), k.val < 32 → (s.chain k).fade = some f → f.i = 2 ^ f.log2L →
    Gives (.fadeComplete false k) s (fun t => (t.chain k).fade = none ∧ t.flag (F.FLT_CHn_ST_FADE k) = false ∧
      EdgeTaken s t 23 ∧ RegsKept s t (A.FLT_CHn_ST k :: sourceRegs 23))) ∧
  (∀ k : Fin 148, ((s.route k).fade.all (fun f => f.2.1 != 2 ^ f.2.2) = true → Gives (.fadeComplete true k) s (fun t => t = s)) ∧
    (32 ≤ k.val ∨ (s.chain k).fade.all (fun f => f.i != 2 ^ f.log2L) = true → Gives (.fadeComplete false k) s (fun t => t = s))) ∧
  (s.flt.sync = none → s.clk.phase = .run → s.clk.present = true → s.pstate ≠ OFF → s.flag F.FLT_SYNC_BCAST = false ∨ s.devid ≠ 0 →
    (s.flag F.FLT_SYNC_PIN_EN = true → Gives .syncPinEdge s (fun t => t = { s with flt := { s.flt with sync := some 64 } })) ∧
    (s.awake = true → Gives .syncNow s (fun t => t = { s with flt := { s.flt with sync := some 64 } }))) ∧
  (s.flt.sync = none → s.clk.phase = .run → s.clk.present = true → s.pstate ≠ OFF → s.flag F.FLT_SYNC_BCAST = true → s.devid = 0 →
    (s.flag F.FLT_SYNC_PIN_EN = true → Gives .syncPinEdge s (fun t =>
      t.flt = { s.flt with sync := some (64 + s.get F.FLT_SYNC_EXT) } ∧ t.hg.syncNo = (s.hg.syncNo + 1) % 65536)) ∧
    (s.awake = true → Gives .syncNow s (fun t =>
      t.flt = { s.flt with sync := some (64 + s.get F.FLT_SYNC_EXT) } ∧ t.hg.syncNo = (s.hg.syncNo + 1) % 65536))) ∧
  (s.flt.sync.isSome = true ∨ s.clk.phase ≠ .run ∨ s.clk.present = false ∨ s.pstate = OFF →
    Gives .syncPinEdge s (fun t => t = s) ∧ Gives .syncNow s (fun t => t = s)) ∧
  (s.flag F.FLT_SYNC_PIN_EN = false → Gives .syncPinEdge s (fun t => t = s)) ∧
  (s.awake = false → Gives .syncNow s (fun t => t = s)) ∧
  (s.flt.sync = some 0 → Gives .syncAct s (fun t => t.flt.sync = none ∧
    t.get F.FLT_SYNC_CNT_COUNT = (s.get F.FLT_SYNC_CNT_COUNT + 1) % 2 ^ F.FLT_SYNC_CNT_COUNT.width ∧ t.flag (F.INT_SRCs_PEND 24) = true ∧
    (s.pstate ≠ SENTRY → ∀ n < 32, (t.chain n).fade = none))) ∧
  (s.flt.sync ≠ some 0 → Gives .syncAct s (fun t => t = s))

/-- Frames, seeding, sustained activity and rails of a sound-activity detector. A frame with a marked sample, or with
FREEZE, is excluded: its level is shown, FROZEN sets and the floor stands. A frame while seeding takes its level into the
window, and the floor is the window's minimum within its limits; with too few samples, or on a detector that does not
listen, there is no frame. With 150 frames seeding ends, and a floor above CEIL is flagged and raises source 38; before
that it goes on. Activity of MAXEV seconds is ended with SUSTAINED, sources 38 and 39 are raised, and no onset follows until HANG frames
have passed; shorter activity goes on. 150 frames at a limit set RAIL_HI or RAIL_LO with source 38, once for each stay.
RESEED seeds afresh and ends activity with source 39, at once or, with FREEZE, later; on a detector that does not run it
changes nothing. Without an enrolment these rows touch the detector and its words alone. Rests on
spec/07_listening_and_wake.md. -/
def Obligations.ListeningFrames : Prop := ∀ (s : State) (u : Fin 2), s.lsn.sad.length = 2 →
  (listens s = true → (s.sad u).run = true → 0 < sadLen s u → sadLen s u ≤ (s.sad u).buf.length →
    (frameMarked ((s.sad u).buf.take (sadLen s u)) || s.flag (F.LSN_SADu_TL_FREEZE u)) = true → Gives (.sadFrame u) s (fun t =>
      t.getI (F.LSN_SADu_FLOOR_LEVEL u) = frameLevel (sumSquares ((s.sad u).buf.take (sadLen s u))) (sadLen s u) ∧
      t.flag (F.LSN_SADu_ST_FROZEN u) = true ∧ sadFloor t u = sadFloor s u ∧ (t.sad u).buf = (s.sad u).buf.drop (sadLen s u) ∧
      (t.sad u).win = (s.sad u).win ∧ (s.drl.enr = none → t = { s with regs := t.regs, lsn := t.lsn } ∧
        RegsKept s t [A.LSN_SADu_FLOOR u, A.LSN_SADu_ST u]))) ∧
  (∀ l : Int, listens s = true → (s.sad u).run = true → 0 < sadLen s u → sadLen s u ≤ (s.sad u).buf.length →
    frameMarked ((s.sad u).buf.take (sadLen s u)) = false → s.flag (F.LSN_SADu_TL_FREEZE u) = false → (s.sad u).pend = false →
    s.flag (F.LSN_SADu_ST_SEEDING u) = true → l = frameLevel (sumSquares ((s.sad u).buf.take (sadLen s u))) (sadLen s u) →
    Gives (.sadFrame u) s (fun t => t.getI (F.LSN_SADu_FLOOR_LEVEL u) = l ∧ t.flag (F.LSN_SADu_ST_FROZEN u) = false ∧
      (t.sad u).win = (l :: (s.sad u).win).take 150 ∧
      sadFloor t u = clampI (-12000) (-1000) (minI ((l :: (s.sad u).win).take 150) l) ∧
      (s.drl.enr = none → RegsKept s t [A.LSN_SADu_FLOOR u, A.LSN_SADu_ST u]))) ∧
  (s.clk.present = false ∨ (s.sad u).run = false ∨ (s.sad u).buf.length < sadLen s u → Gives (.sadFrame u) s (fun t => t = s)) ∧
  ((s.sad u).run = true → s.flag (F.LSN_SADu_ST_SEEDING u) = true → 150 ≤ (s.sad u).win.length →
    (sadFloor s u ≤ 100 * s.getI (F.LSN_SADu_TL_CEIL u) → Gives (.seedingEnd u) s (fun t => OnlyRegs s t ∧
      t.flag (F.LSN_SADu_ST_SEEDING u) = false ∧ RegsKept s t [A.LSN_SADu_ST u])) ∧
    (100 * s.getI (F.LSN_SADu_TL_CEIL u) < sadFloor s u → Gives (.seedingEnd u) s (fun t => OnlyRegs s t ∧
      t.flag (F.LSN_SADu_ST_SEEDING u) = false ∧ t.flag (F.LSN_SADu_ST_FLOOR_SEEDED_LOUD u) = true ∧ EdgeTaken s t 38 ∧
      RegsKept s t (A.LSN_SADu_ST u :: sourceRegs 38)))) ∧
  ((s.sad u).run = false ∨ s.flag (F.LSN_SADu_ST_SEEDING u) = false ∨ (s.sad u).win.length < 150 →
    Gives (.seedingEnd u) s (fun t => t = s)) ∧
  (s.flag (F.LSN_SADu_ST_ACTIVE u) = true → 100 * s.get (F.LSN_SADu_TL_MAXEV u) ≤ (s.sad u).act →
    Gives (.sustained u) s (fun t => t.flag (F.LSN_SADu_ST_ACTIVE u) = false ∧ t.flag (F.LSN_SADu_ST_SUSTAINED u) = true ∧
      (t.sad u).lockout = true ∧ (t.sad u).hangRun = 0 ∧ t.flag (F.INT_SRCs_PEND 38) = true ∧ t.flag (F.INT_SRCs_PEND 39) = true ∧
      (s.drl.enr = none → t = { s with regs := t.regs, lsn := t.lsn } ∧
        RegsKept s t ([A.LSN_SADu_ST u] ++ sourceRegs 38 ++ sourceRegs 39)))) ∧
  (s.flag (F.LSN_SADu_ST_ACTIVE u) = false ∨ (s.sad u).act < 100 * s.get (F.LSN_SADu_TL_MAXEV u) →
    Gives (.sustained u) s (fun t => t = s)) ∧
  (150 ≤ (s.sad u).railHi → (s.sad u).railed = false → Gives (.floorRail u) s (fun t =>
    t = { s with regs := t.regs, lsn := (s.setSad u { s.sad u with railed := true }).lsn } ∧
    t.flag (F.LSN_SADu_ST_RAIL_HI u) = true ∧ EdgeTaken s t 38 ∧ RegsKept s t (A.LSN_SADu_ST u :: sourceRegs 38))) ∧
  ((s.sad u).railHi < 150 → 150 ≤ (s.sad u).railLo → (s.sad u).railed = false → Gives (.floorRail u) s (fun t =>
    t = { s with regs := t.regs, lsn := (s.setSad u { s.sad u with railed := true }).lsn } ∧
    t.flag (F.LSN_SADu_ST_RAIL_LO u) = true ∧ EdgeTaken s t 38 ∧ RegsKept s t (A.LSN_SADu_ST u :: sourceRegs 38))) ∧
  ((s.sad u).railed = true ∨ (s.sad u).railHi < 150 ∧ (s.sad u).railLo < 150 → Gives (.floorRail u) s (fun t => t = s)) ∧
  ((s.sad u).run = true → s.flag (F.LSN_SADu_TL_FREEZE u) = true → Gives (.reseed u) s (fun t =>
    t = s.setSad u { s.sad u with pend := true })) ∧
  ((s.sad u).run = true → s.flag (F.LSN_SADu_TL_FREEZE u) = false →
    Gives (.reseed u) s (fun t => t.sad u = { SadSt.reset with run := true } ∧ t.flag (F.LSN_SADu_ST_SEEDING u) = true ∧
      t.flag (F.LSN_SADu_ST_ACTIVE u) = false ∧ (s.flag (F.LSN_SADu_ST_ACTIVE u) = true → EdgeTaken s t 39) ∧
      RegsKept s t (A.LSN_SADu_ST u :: (if s.flag (F.LSN_SADu_ST_ACTIVE u) then sourceRegs 39 else [])))) ∧
  ((s.sad u).run = false → Gives (.reseed u) s (fun t => t = s))

/-- The WAKEIN# pin, wake flags and pre-wakes. A debounced WAKEIN# during start-up, or in the hold in OFF, is held. Where
wakes act at once, with none flagged, and the device is not one that WAKE_GO takes out of SENTRY, it sets QUAL with source 2
and the pin's mark and raises source 35; with one flagged at another edge it sets MORE and the first wake's record stands.
A pin that is not ready, or not enabled, one without HSCK and one in an OFF that holds no wake do nothing. The pin's release
makes it ready again. The W1C write of ATT, QUAL and MORE clears exactly those written 1. A pre-wake that no qualified wake
follows is stood down: PRE falls, the pause begins, its count goes on, source 37 is raised; with WAKE_TX 0 nothing is sent.
Without HSCK no time passes: a pre-wake, the pause and a partner's part of HPRE stand. The pause's end, and the end of a
partner's part of HPRE, change nothing else. Rests on spec/07_listening_and_wake.md, spec/04_power_states_and_startup.md. -/
def Obligations.WakeRows : Prop := ∀ s : State,
  (∀ m : BitVec 64, s.clk.present = true → s.pwr.start.isSome = true ∨ s.pwr.offResp = true → s.flag F.LSN_CFG_WAKEIN_EN = true →
    s.lsn.pinReady = true → Gives (.wakeinDebounce m) s (fun t =>
      t = { s with lsn := { s.lsn with pinReady := false }, pwr := { s.pwr with wakes := s.pwr.wakes ++ [(2, 0, 0)] } })) ∧
  (∀ m : BitVec 64, s.clk.present = true → s.pstate ≠ OFF → wakeHolds s = false → s.flag F.PWR_CFG_WAKE_GO = false →
    s.flag F.LSN_CFG_WAKEIN_EN = true → s.lsn.pinReady = true →
    (s.flag F.LSN_WAKE_QUAL = false → Gives (.wakeinDebounce m) s (fun t =>
      t.flag F.LSN_WAKE_QUAL = true ∧ t.get F.LSN_WAKE_SRC = 2 ∧ t.pair A.LSN_MARK_LO = m.toNat ∧ t.lsn.pinReady = false ∧
        t.flag (F.INT_SRCs_PEND 35) = true ∧ t.flag F.LSN_WAKE_MORE = s.flag F.LSN_WAKE_MORE)) ∧
    (s.flag F.LSN_WAKE_QUAL = true → wakeSame s = none → Gives (.wakeinDebounce m) s (fun t =>
      t.flag F.LSN_WAKE_QUAL = true ∧ t.flag F.LSN_WAKE_MORE = true ∧ t.get F.LSN_WAKE_SRC = s.get F.LSN_WAKE_SRC ∧
        t.pair A.LSN_MARK_LO = s.pair A.LSN_MARK_LO ∧ t.lsn.pinReady = false))) ∧
  (∀ m : BitVec 64, s.clk.present = false ∨ s.lsn.pinReady = false ∨ s.flag F.LSN_CFG_WAKEIN_EN = false ∨
    (s.pstate = OFF ∧ s.pwr.start = none ∧ s.pwr.offResp = false) → Gives (.wakeinDebounce m) s (fun t => t = s)) ∧
  (s.clk.present = true → s.pstate ≠ OFF ∨ s.pwr.start.isSome = true ∨ s.pwr.offResp = true →
    Gives .wakeinRelease s (fun t => t = { s with lsn := { s.lsn with pinReady := true } })) ∧
  (s.clk.present = false ∨ (s.pstate = OFF ∧ s.pwr.start = none ∧ s.pwr.offResp = false) → Gives .wakeinRelease s (fun t => t = s)) ∧
  (∀ att qual more : Bool, Gives (.wakeClear att qual more) s (fun t => OnlyRegs s t ∧
    t.flag F.LSN_WAKE_ATT = (s.flag F.LSN_WAKE_ATT && !att) ∧ t.flag F.LSN_WAKE_QUAL = (s.flag F.LSN_WAKE_QUAL && !qual) ∧
    t.flag F.LSN_WAKE_MORE = (s.flag F.LSN_WAKE_MORE && !more) ∧ t.get F.LSN_WAKE_SRC = s.get F.LSN_WAKE_SRC ∧
    RegsKept s t [A.LSN_WAKE])) ∧
  (s.clk.present = true → s.flag F.LSN_WAKE_PRE = true → Gives .prewakeTimeout s (fun t =>
    t = { s with regs := t.regs, hg := t.hg, lsn := { s.lsn with gap := true, stood := some (s.time.hsck, s.flag (F.INT_SRCs_PEND 37)) } } ∧
      (s.flag F.LSN_CFG_WAKE_TX = false → t.hg = s.hg) ∧ t.flag F.LSN_WAKE_PRE = false ∧ EdgeTaken s t 37 ∧
      t.pair (A.LSN_CNT_x_LO 5) = (s.pair (A.LSN_CNT_x_LO 5) + 1) % 2 ^ 64 ∧
      RegsKept s t ([A.LSN_WAKE] ++ pairRegs (A.LSN_CNT_x_LO 5) ++ sourceRegs 37))) ∧
  (s.clk.present = false ∨ s.flag F.LSN_WAKE_PRE = false → Gives .prewakeTimeout s (fun t => t = s)) ∧
  (s.clk.present = true → Gives .prewakeGapEnd s (fun t => t = { s with lsn := { s.lsn with gap := false } })) ∧
  (s.clk.present = false → Gives .prewakeGapEnd s (fun t => t = s)) ∧
  (∀ p : Fin 4, s.clk.present = true → Gives (.partnerPrewakeTimeout p) s (fun t => OnlyRegs s t ∧ t.bitOf F.LSN_WAKE_RPRE p = false ∧
    (∀ q < 4, q ≠ p.val → t.bitOf F.LSN_WAKE_RPRE q = s.bitOf F.LSN_WAKE_RPRE q) ∧
    t.flag F.LSN_WAKE_QUAL = s.flag F.LSN_WAKE_QUAL ∧ RegsKept s t [A.LSN_WAKE])) ∧
  (∀ p : Fin 4, s.clk.present = false → Gives (.partnerPrewakeTimeout p) s (fun t => t = s))

/-- Feature frames, the event queue, slots and record actions. A frame of one input is taken every 160 samples: a frame
with a marked sample ends the run of clean frames, a clean one keeps the forty features of its 400 samples; inputs that do
not run take none. Popping the event queue removes whole entries. Outside OFF and SENTRY every record action begins by
showing BUSY with its slot and, while one runs, a second is not taken; every one that completes clears BUSY and sets DONE
and source 46; ERASE of an unarmed slot empties it, EXPORT of an empty one ends with ERR 2.
Arming a loaded slot arms it, or has a stop-class record verified first, and a slot that holds no loaded record is not
armed; disarming returns it to loaded; a verified record is armed, one that fails is FAILED, and a slot that is not being
verified stands. A stop-class slot is not armed or disarmed while the arm request stands. In SENTRY ARM of a held slot
stops and restarts it there, and of another does nothing; that its STATE follows ARM is the model's reading (log 78). Rests
on spec/08_drill_and_seeds.md. -/
def Obligations.DrillFramesAndRecords : Prop := ∀ s : State,
  (∀ n : Fin 4, s.drl.inp.length = 5 → drlRuns s n = true → 400 ≤ (s.drlIn n).buf.length → s.drl.pairs = [] → s.drl.enr = none →
    (frameInfo (s.drlIn n)).2 = true → Gives (.featureFrame (BitVec.ofNat 5 (2 ^ n.val)) false false none) s (fun t =>
      (t.drlIn n).t = (s.drlIn n).t + 1 ∧ (t.drlIn n).buf = (s.drlIn n).buf.drop 160 ∧ (t.drlIn n).clean = 0 ∧
      t.flag (F.DRL_INn_ST_MARKED n) = true ∧ t.drl.evq = s.drl.evq)) ∧
  (∀ n : Fin 4, s.drl.inp.length = 5 → drlRuns s n = true → 400 ≤ (s.drlIn n).buf.length → s.drl.enr = none →
    (∀ k < 64, s.get (F.DRL_SLOTs_ST_STATE k) ≠ 3) → (frameInfo (s.drlIn n)).2 = false →
    Gives (.featureFrame (BitVec.ofNat 5 (2 ^ n.val)) false false none) s (fun t =>
      (t.drlIn n).t = (s.drlIn n).t + 1 ∧ (t.drlIn n).clean = (s.drlIn n).clean + 1 ∧
      (t.drlIn n).frames.head? = some { (frameInfo (s.drlIn n)).1 with v := some (features s (((s.drlIn n).buf.take 400).map (fun e => wordData e.1))).1 } ∧
      t.flag (F.DRL_INn_ST_MARKED n) = false ∧ t.drl.evq = s.drl.evq)) ∧
  (∀ (ins : BitVec 5) (late stopLate : Bool) (lanes : Option (List (Fin 64 × Fin 4 × BitVec 10))),
    (∀ n ∈ ones 5 ins.toNat, drlRuns s n = false ∨ (s.drlIn n).buf.length < 400) →
    Gives (.featureFrame ins late stopLate lanes) s (fun t => t = s)) ∧
  (∀ n : BitVec 7, s.drl.evq.length ≤ 64 → Gives (.evqPop n) s (fun t =>
    t = { s with regs := t.regs, drl := { s.drl with evq := s.drl.evq.drop (Nat.min n.toNat 64 / 4) } } ∧
      t.get F.DRL_EVQ_ST_OCC = s.drl.evq.length - Nat.min n.toNat 64 / 4 ∧ RegsKept s t [A.DRL_EVQ_ST])) ∧
  (∀ k : Fin 64, s.awake = true →
    ∀ c ∈ [(Instr.install k, 1), (.save k, 2), (.recExport k, 3), (.erase k, 4), (.recOpen k, 5), (.put k, 6), (.close k, 7)],
      (s.flag F.DRL_RECCTL_BUSY = false → Gives c.1 s (fun t =>
        t = { s with regs := t.regs, drl := { s.drl with act := some ⟨c.2, k.val, 0⟩ } } ∧ t.flag F.DRL_RECCTL_BUSY = true ∧
          t.get F.DRL_RECCTL_SLOT = k.val ∧ RegsKept s t [A.DRL_RECCTL])) ∧
      (s.flag F.DRL_RECCTL_BUSY = true → Gives c.1 s (fun t => t = s))) ∧
  (∀ k : Fin 64, s.awake = false →
    ∀ c ∈ [Instr.install k, .save k, .recExport k, .erase k, .recOpen k, .put k, .close k], Gives c s (fun t => t = s)) ∧
  (∀ a : RecAct, s.awake = true → s.drl.act = some a → Gives .recordActionDone s (fun t => t.drl.act = none ∧
    t.flag F.DRL_RECCTL_BUSY = false ∧ t.flag F.DRL_RECCTL_DONE = true ∧ t.flag (F.INT_SRCs_PEND 46) = true)) ∧
  (s.awake = false ∨ s.drl.act = none → Gives .recordActionDone s (fun t => t = s)) ∧
  (∀ (k e : Nat), k < 64 → s.awake = true → s.drl.act = some ⟨4, k, e⟩ → slotBusy s k = false → Gives .recordActionDone s (fun t =>
    slotState t k = SL_EMPTY ∧ (∀ r ∈ t.drl.recs, r.1 ≠ k) ∧ t.drl.act = none ∧ t.flag F.DRL_RECCTL_BUSY = false ∧
      t.flag F.DRL_RECCTL_DONE = true ∧ t.get F.DRL_RECCTL_ERR = 0 ∧ EdgeTaken s t 46)) ∧
  (∀ (k e : Nat), s.awake = true → s.drl.act = some ⟨3, k, e⟩ → slotRec s k = [] → Gives .recordActionDone s (fun t =>
    t = { s with regs := t.regs, drl := { s.drl with act := none } } ∧ t.flag F.DRL_RECCTL_BUSY = false ∧
      t.flag F.DRL_RECCTL_DONE = true ∧ t.get F.DRL_RECCTL_ERR = 2 ∧ EdgeTaken s t 46 ∧
      RegsKept s t (A.DRL_RECCTL :: sourceRegs 46))) ∧
  (∀ k : Fin 64, s.awake = true → (s.flag F.SAF_ARM_REQ && slotClass s k CL_STOP) = false →
    (slotState s k = SL_LOADED → Gives (.slotArm k true) s (fun t => t.flag (F.DRL_SLOTs_CFG_ARM k) = true ∧
      slotState t k = if recStop (slotRec s k) then SL_VERIFYING else SL_ARMED)) ∧
    (slotState s k = SL_ARMED → Gives (.slotArm k false) s (fun t => t.flag (F.DRL_SLOTs_CFG_ARM k) = false ∧
      slotState t k = SL_LOADED ∧ k.val ∉ t.saf.table)) ∧
    (slotState s k ≠ SL_LOADED → Gives (.slotArm k true) s (fun t => slotState t k = slotState s k ∧
      t.flag (F.DRL_SLOTs_CFG_ARM k) = slotBusy s k))) ∧
  (∀ (k : Fin 64) (b : Bool), (s.flag F.SAF_ARM_REQ && slotClass s k CL_STOP) = false → s.pstate = SENTRY →
    (s.drl.held.any (fun h => h.slot == k) = true → Gives (.slotArm k b) s (fun t => t.flag (F.DRL_SLOTs_CFG_ARM k) = b ∧
      slotState t k = (if b then SL_ARMED else SL_LOADED) ∧ (∀ h ∈ t.drl.held, h.slot = k → h.arm = b) ∧
      RegsKept s t [A.DRL_SLOTs_CFG k, A.DRL_SLOTs_ST k])) ∧
    (s.drl.held.any (fun h => h.slot == k) = false → Gives (.slotArm k b) s (fun t => t = s))) ∧
  (∀ (k : Fin 64) (b : Bool), s.flag F.SAF_ARM_REQ = true → slotClass s k CL_STOP = true →
    Gives (.slotArm k b) s (fun t => t = s)) ∧
  (∀ k : Fin 64, slotState s k = SL_VERIFYING → s.awake = true → coreState s SCARE = C_RUN →
    (recordSigned s (slotRec s k) = true → Gives (.seedVerifyDone k) s (fun t => slotState t k = SL_ARMED ∧
      (slotClass s k CL_STOP = true → k.val ∈ t.saf.table))) ∧
    (recordSigned s (slotRec s k) = false → Gives (.seedVerifyDone k) s (fun t => slotState t k = SL_FAILED ∧
      t.flag (F.DRL_SLOTs_CFG_ARM k) = false ∧ t.saf = s.saf))) ∧
  (∀ k : Fin 64, slotState s k ≠ SL_VERIFYING ∨ s.awake = false ∨ coreState s SCARE ≠ C_RUN →
    Gives (.seedVerifyDone k) s (fun t => t = s))

/-- Enrolment: start, refusal, abort, timeout and build. START in WATCH or SERVICE with none in progress, a slot neither
armed nor being verified and 5 to 20 utterances begins an enrolment: STATE listening, none captured. A count outside the
range, such a slot, another state and SENTRY refuse it with STATE failed, ERR 5 and source 45, one in progress with ERR 5
and source 45 alone; in OFF it does nothing. ABORT and the 60 s timeout end one with ERR 4 and 3, STATE failed, and source
45; with none in progress, outside STATE listening or without HSCK they do nothing. With all its utterances held the template is
built: STATE done, its length in ENR_RES, and source 45; before that nothing is. Rests on spec/08_drill_and_seeds.md. -/
def Obligations.EnrolmentRows : Prop := ∀ s : State,
  (∀ (k : Fin 64) (i : Fin 4) (c : Fin 32), s.pstate = WATCH ∨ s.pstate = SERVICE → s.drl.enr = none → slotBusy s k = false →
    5 ≤ c.val → c.val ≤ 20 → Gives (.enrolmentStart k i c) s (fun t =>
      t = { s with regs := t.regs, drl := { s.drl with enr := some ⟨i.val, k.val, c.val, [], none, 0, false⟩ } } ∧
      t.get F.DRL_ENR_ST_STATE = 1 ∧ t.get F.DRL_ENR_ST_CAPT = 0 ∧ t.get F.DRL_ENR_ST_ERR = 0 ∧
      RegsKept s t [A.DRL_ENR_CTL, A.DRL_ENR_ST])) ∧
  (∀ (k : Fin 64) (i : Fin 4) (c : Fin 32), s.awake = true → s.drl.enr = none →
    c.val < 5 ∨ 20 < c.val ∨ slotBusy s k = true ∨ (s.pstate ≠ WATCH ∧ s.pstate ≠ SERVICE) →
    Gives (.enrolmentStart k i c) s (fun t => OnlyRegs s t ∧ t.get F.DRL_ENR_ST_STATE = 5 ∧ t.get F.DRL_ENR_ST_ERR = 5 ∧
      EdgeTaken s t 45 ∧ RegsKept s t ([A.DRL_ENR_CTL, A.DRL_ENR_ST] ++ sourceRegs 45))) ∧
  (∀ (k : Fin 64) (i : Fin 4) (c : Fin 32), s.awake = true → s.drl.enr.isSome = true →
    Gives (.enrolmentStart k i c) s (fun t => OnlyRegs s t ∧ t.get F.DRL_ENR_ST_STATE = s.get F.DRL_ENR_ST_STATE ∧
      t.get F.DRL_ENR_ST_ERR = 5 ∧ EdgeTaken s t 45 ∧ RegsKept s t ([A.DRL_ENR_CTL, A.DRL_ENR_ST] ++ sourceRegs 45))) ∧
  (∀ (k : Fin 64) (i : Fin 4) (c : Fin 32), s.pstate = SENTRY →
    Gives (.enrolmentStart k i c) s (fun t => OnlyRegs s t ∧ t.get F.DRL_ENR_ST_STATE = 5 ∧ t.get F.DRL_ENR_ST_ERR = 5 ∧
      EdgeTaken s t 45 ∧ RegsKept s t (A.DRL_ENR_ST :: sourceRegs 45))) ∧
  (∀ (k : Fin 64) (i : Fin 4) (c : Fin 32), s.pstate = OFF → Gives (.enrolmentStart k i c) s (fun t => t = s)) ∧
  (s.drl.enr.isSome = true → Gives .enrolmentAbort s (fun t =>
    t = { s with regs := t.regs, drl := { s.drl with enr := none } } ∧ t.get F.DRL_ENR_ST_STATE = 5 ∧
      t.get F.DRL_ENR_ST_ERR = 4 ∧ EdgeTaken s t 45 ∧ RegsKept s t (A.DRL_ENR_ST :: sourceRegs 45))) ∧
  (s.drl.enr = none → Gives .enrolmentAbort s (fun t => t = s)) ∧
  (s.clk.present = true → s.drl.enr.isSome = true → s.get F.DRL_ENR_ST_STATE = 1 → Gives .enrolmentTimeout s (fun t =>
    t = { s with regs := t.regs, drl := { s.drl with enr := none } } ∧ t.get F.DRL_ENR_ST_STATE = 5 ∧
      t.get F.DRL_ENR_ST_ERR = 3 ∧ EdgeTaken s t 45 ∧ RegsKept s t (A.DRL_ENR_ST :: sourceRegs 45))) ∧
  (s.clk.present = false ∨ s.drl.enr = none ∨ s.get F.DRL_ENR_ST_STATE ≠ 1 → Gives .enrolmentTimeout s (fun t => t = s)) ∧
  (∀ e : EnrolSt, s.drl.enr = some e → e.segs.length = e.count → s.get F.DRL_ENR_ST_STATE = 3 → Gives .enrolmentBuild s (fun t =>
    t.drl.enr = none ∧ t.get F.DRL_ENR_ST_STATE = 4 ∧
      t.get F.DRL_ENR_RES_LEN = (enrolTemplate e.segs).length % 2 ^ F.DRL_ENR_RES_LEN.width ∧
      t.flag (F.INT_SRCs_PEND 45) = true)) ∧
  (∀ e : EnrolSt, s.drl.enr = some e → e.segs.length ≠ e.count ∨ s.get F.DRL_ENR_ST_STATE ≠ 3 →
    Gives .enrolmentBuild s (fun t => t = s)) ∧
  (s.drl.enr = none → Gives .enrolmentBuild s (fun t => t = s))

/-- Frames and blocks of the swath and of the short swath. While the swath writes, each frame advances SWA_SC by 1, an
enabled strip with a block in progress gains one frame in it and in its count PROD, its 256th frame completes it, and where one strip alone is enabled no
byte of the swath outside that block changes; a 16-bit strip of one slot stores the rounded sample of its slot. Beside its
registers, its strips, its memory, its wake marks, the crossbar's samples of silent slots and the counter of free values, on
which the end of a block may draw, a frame changes nothing. Where it does not write nothing happens. A block starts at the
ring's next index, 0 in an empty ring, with the present SC as its stamp, carries the gap mark and the sync mark that were due
and WAKE where it holds a wake mark, and its 64 header bytes read 0; a block in progress, a strip that is off, a counter
that is no multiple of 256 and a block already begun at this counter start none. The short swath starts its blocks in SENTRY
alone, in the same way with 8 header bytes. Rests on spec/09_swath_and_mitten.md. -/
def Obligations.SwathWriting : Prop := ∀ s : State, s.swa.strip.length = 8 →
  (swathRuns s = true → Gives .swathFrame s (fun t => t.pair A.SWA_SC_LO = (s.pair A.SWA_SC_LO + 1) % 2 ^ 64 ∧
    t.swa.lastAt = s.time.hsck ∧ t = { s with regs := t.regs, swa := { s.swa with strip := t.swa.strip, mem := t.swa.mem, marks := t.swa.marks, lastAt := t.swa.lastAt }, flt := { s.flt with route := t.flt.route }, free := t.free })) ∧
  (∀ (k : Fin 8) (b : BlockSt), swathRuns s = true → stripOn s k = true → (s.strip k).cur = some b → b.frames < 255 →
    Gives .swathFrame s (fun t => (∃ b', (t.strip k).cur = some b' ∧ b'.frames = b.frames + 1 ∧ b'.stamp = b.stamp ∧ b'.idx = b.idx) ∧
      (t.strip k).tags = (s.strip k).tags ∧
      t.pair (A.SWA_STs_PROD_LO k) = (s.pair (A.SWA_STs_PROD_LO k) + 1) % 2 ^ 64)) ∧
  (∀ (k : Fin 8) (b : BlockSt), swathRuns s = true → stripOn s k = true → (s.strip k).cur = some b → b.frames = 255 →
    Gives .swathFrame s (fun t => (t.strip k).cur = none ∧ (t.strip k).tags = (s.strip k).tags ∧
      t.pair (A.SWA_STs_PROD_LO k) = (s.pair (A.SWA_STs_PROD_LO k) + 1) % 2 ^ 64)) ∧
  (∀ (k : Fin 8) (b : BlockSt), swathRuns s = true → (upto 8).filter (stripOn s) = [k.val] → (s.strip k).cur = some b →
    b.frames < 255 → Gives .swathFrame s (fun t =>
      (∀ a, (a < stripBase s k + b.idx * stripB s k + 64 ∨ stripBase s k + (b.idx + 1) * stripB s k ≤ a) →
        memGet t.swa.mem a = memGet s.swa.mem a) ∧
      (s.get (F.SWA_STs_CFG_FMT k) = 0 → stripSlots s k = 1 →
        memRead t.swa.mem (stripBase s k + b.idx * stripB s k + 64 + 2 * b.frames) 2 =
          bytesOfLe 2 (storedSample 16 (slotWord s (s.get (F.SWA_STs_CFG_FIRST k))))))) ∧
  (swathRuns s = false → Gives .swathFrame s (fun t => t = s)) ∧
  (∀ (k : Fin 8) (i : Nat), swathRuns s = true → stripOn s k = true → (s.strip k).cur = none → swathSC s % 256 = 0 →
    (s.strip k).tags.head?.map (·.2) ≠ some (swathSC s) → i = (s.strip k).next.getD 0 →
    Gives (.swathBlockStart k) s (fun t => (t.strip k).tags = (i, swathSC s) :: (s.strip k).tags.filter (fun e => decide (e.1 ≠ i)) ∧
      (t.strip k).cur = some ⟨i, swathSC s, 0, (s.strip k).gap, (s.strip k).sync, s.swa.marks.any (fun m => decide (swathSC s ≤ m) && decide (m < swathSC s + 256)), false, 0, 0, 0, 0, 0⟩ ∧
      (t.strip k).gap = false ∧ (t.strip k).sync = false ∧
      t.get (F.SWA_STs_HEAD_HEAD k) = i % 2 ^ (F.SWA_STs_HEAD_HEAD k).width ∧ (∀ j : Fin 8, j ≠ k → t.strip j = s.strip j) ∧
      (∀ a, memGet t.swa.mem a = if stripBase s k + i * stripB s k ≤ a ∧ a < stripBase s k + i * stripB s k + 64 then 0 else memGet s.swa.mem a))) ∧
  (∀ k : Fin 8, (swathRuns s = false ∨ stripOn s k = false ∨ (s.strip k).cur.isSome = true ∨ swathSC s % 256 ≠ 0 ∨
    (s.strip k).tags.head?.map (·.2) = some (swathSC s)) → Gives (.swathBlockStart k) s (fun t => t = s)) ∧
  (∀ i : Nat, s.pstate = SENTRY → s.clk.present = true → s.swa.scur = none → shortSSC s % 256 = 0 → i = s.swa.snext.getD 0 →
    Gives .shortSwathBlockStart s (fun t => t = { s with regs := t.regs, swa := { s.swa with scur := t.swa.scur, stags := (i, shortSSC s) :: s.swa.stags.filter (fun e => decide (e.1 ≠ i)), snext := some ((i + 1) % 504), sgap := false, short := t.swa.short, smarks := t.swa.smarks } } ∧
      t.swa.scur = some ⟨i, shortSSC s, 0, s.swa.sgap, false, s.swa.smarks.any (fun m => decide (shortSSC s ≤ m) && decide (m < shortSSC s + 256)), false, 0, 0, 0, 0, 0⟩ ∧
      t.get F.SWA_SSHEAD_HEAD = i % 2 ^ F.SWA_SSHEAD_HEAD.width ∧
      (∀ a, memGet t.swa.short a = if 520 * i ≤ a ∧ a < 520 * i + 8 then 0 else memGet s.swa.short a) ∧
      RegsKept s t (A.SWA_SSHEAD :: pairRegs A.SWA_SSEXP_LO))) ∧
  (s.pstate ≠ SENTRY ∨ s.clk.present = false ∨ s.swa.scur.isSome = true ∨ shortSSC s % 256 ≠ 0 →
    Gives .shortSwathBlockStart s (fun t => t = s))

/-- Closing the mitten, sending blocks and the host's acknowledgement. A release by the host or by firmware, and the idle
timeout, shut an open mitten: OPEN and SS_OPEN read 0, IDLE 0, CAUSE 1, 2 or 3, source 49 rises; at the edge of a wake a
release leaves it open, afresh for that wake, with sources 48 and 49. A shut mitten stays as it
is. With the mitten shut, or before the window for a block that ended earlier, the unload engine waits: UNL_WAIT is set and the refusal counted once. With it open the next
complete block of the window is offered, UNL_WAIT clears and the idle timer reloads; to a reachable bridge with room its
segments join the port's hand-off on the bulk channel, and otherwise the block waits. Without a block, without unload, and
while RECORD is being left, no block is sent. The host's acknowledgement of whole blocks moves UPTR and counts the frames
still owed before it as unloaded; one that is no multiple of 256, not past UPTR, past SC, without unload or on a strip with
another destination changes nothing. Rests on spec/09_swath_and_mitten.md. -/
def Obligations.MittenAndUnload : Prop := ∀ s : State,
  (∀ o : Origin, (mittenOpen s || s.flag F.SWA_MITTEN_SS_OPEN) = true → sameEdge s s.swa.wakeAt = none → Gives (.mittenRelease o) s (fun t => OnlyRegs s t ∧
    t.flag F.SWA_MITTEN_OPEN = false ∧ t.flag F.SWA_MITTEN_SS_OPEN = false ∧ t.get F.SWA_MITTEN_IDLE = 0 ∧
    t.get F.SWA_MITTEN_CAUSE = (if byHost o then 1 else 2) ∧ t.get F.SWA_MITTEN_TMO = s.get F.SWA_MITTEN_TMO ∧ EdgeTaken s t 49 ∧
    RegsKept s t (A.SWA_MITTEN :: sourceRegs 49))) ∧
  (∀ (o : Origin) (m : Nat), (mittenOpen s || s.flag F.SWA_MITTEN_SS_OPEN) = true → sameEdge s s.swa.wakeAt = some m →
    Gives (.mittenRelease o) s (fun t => t.flag F.SWA_MITTEN_OPEN = true ∧ t.get F.SWA_MITTEN_IDLE = s.get F.SWA_MITTEN_TMO ∧
      t.get F.SWA_MITTEN_CAUSE = (if byHost o then 1 else 2) ∧ t.flag (F.INT_SRCs_PEND 48) = true ∧ t.flag (F.INT_SRCs_PEND 49) = true)) ∧
  (∀ o : Origin, mittenOpen s = false → s.flag F.SWA_MITTEN_SS_OPEN = false → Gives (.mittenRelease o) s (fun t => t = s)) ∧
  (mittenOpen s = true → s.clk.present = true → s.clk.phase = .run → Gives .mittenIdleTimeout s (fun t => OnlyRegs s t ∧
    t.flag F.SWA_MITTEN_OPEN = false ∧ t.flag F.SWA_MITTEN_SS_OPEN = false ∧ t.get F.SWA_MITTEN_IDLE = 0 ∧
    t.get F.SWA_MITTEN_CAUSE = 3 ∧ EdgeTaken s t 49 ∧ RegsKept s t (A.SWA_MITTEN :: sourceRegs 49))) ∧
  (mittenOpen s = false ∨ s.clk.present = false ∨ s.clk.phase ≠ .run → Gives .mittenIdleTimeout s (fun t => t = s)) ∧
  (∀ k : Fin 8, (s.strip k).unl = true → s.coreRuns = true → s.pstate ≠ RECORD ∨ s.pwr.trans = none →
    mittenOpen s = false ∨ (∃ b, (completeBlocks s k).find? (fun t => decide (Nat.max (s.strip k).sent (stripUptr s k) ≤ t.2)) = some b ∧
      b.2 + 255 < s.pair A.SWA_WSTART_LO) →
    (s.flag (F.SWA_STs_UNL_WAIT k) = false → Gives (.unloadBlockSend k) s (fun t =>
      OnlyRegs s t ∧ t.flag (F.SWA_STs_UNL_WAIT k) = true ∧ t.get F.SWA_DENY_COUNT = Nat.min (s.get F.SWA_DENY_COUNT + 1) (2 ^ 32 - 1) ∧
      RegsKept s t [A.SWA_STs_UNL k, A.SWA_DENY])) ∧
    (s.flag (F.SWA_STs_UNL_WAIT k) = true → Gives (.unloadBlockSend k) s (fun t => t = s))) ∧
  (∀ (k : Fin 8) (b : Nat × Nat), s.swa.strip.length = 8 → (s.strip k).unl = true → s.coreRuns = true →
    s.pstate ≠ RECORD ∨ s.pwr.trans = none → mittenOpen s = true →
    (completeBlocks s k).find? (fun t => decide (Nat.max (s.strip k).sent (stripUptr s k) ≤ t.2)) = some b →
    s.pair A.SWA_WSTART_LO ≤ b.2 + 255 →
    (s.get (F.SWA_STs_UNL_DEST k) < 2 → Gives (.unloadBlockSend k) s (fun t =>
      t.strip k = { s.strip k with sent := b.2 + 256 } ∧ t.get F.SWA_MITTEN_IDLE = s.get F.SWA_MITTEN_TMO ∧ t.swa.idleMs = 0 ∧
      t.flag (F.SWA_STs_UNL_WAIT k) = false ∧ t.hg = s.hg ∧ t.swa.mem = s.swa.mem ∧ RegsKept s t [A.SWA_STs_UNL k, A.SWA_MITTEN])) ∧
    (∀ x : Fin 2, s.hg.port.length = 2 → s.get (F.SWA_STs_UNL_DEST k) = 2 + x.val →
      (hgUp s x = true → s.flag (F.HG0_ROUTEp_VALID 4) = true → s.get (F.HG0_ROUTEp_PORT 4) = x.val →
        ((s.hgp x).tx.filter (fun e => e.1 == VC_BULK)).length < 16 → Gives (.unloadBlockSend k) s (fun t =>
        (t.strip k).sent = b.2 + 256 ∧ (t.strip k).flight = (s.strip k).flight ++ [b.2] ∧
        t.get F.SWA_MITTEN_IDLE = s.get F.SWA_MITTEN_TMO ∧ t.swa.mem = s.swa.mem ∧
        (∃ l, (t.hgp x).tx = (s.hgp x).tx ++ l ∧ l ≠ [] ∧
          ∀ e ∈ l, e.1 = VC_BULK ∧ e.2.typ = T_BULK_SEG ∧ e.2.dst = 4 ∧ e.2.src = s.devid))) ∧
      (hgUp s x = false ∨ s.flag (F.HG0_ROUTEp_VALID 4) = false ∨ s.get (F.HG0_ROUTEp_PORT 4) ≠ x.val ∨
        16 ≤ ((s.hgp x).tx.filter (fun e => e.1 == VC_BULK)).length → Gives (.unloadBlockSend k) s (fun t => t = s)))) ∧
  (∀ k : Fin 8, (s.strip k).unl = false ∨ s.coreRuns = false ∨ (s.pstate = RECORD ∧ s.pwr.trans.isSome = true) ∨ (mittenOpen s = true ∧
    (completeBlocks s k).find? (fun t => decide (Nat.max (s.strip k).sent (stripUptr s k) ≤ t.2)) = none) →
    Gives (.unloadBlockSend k) s (fun t => t = s)) ∧
  (∀ (k : Fin 8) (n : Nat), s.swa.strip.length = 8 → stripOn s k = true → (s.strip k).unl = true →
    s.get (F.SWA_STs_UNL_DEST k) = 1 → n % 256 = 0 → stripUptr s k < n → n ≤ swathSC s / 256 * 256 →
    Gives (.uack k n) s (fun t => stripUptr t k = n ∧ t.pair (A.SWA_STs_UNLD_LO k) =
      (s.pair (A.SWA_STs_UNLD_LO k) + owedIn (s.strip k).owed (fun e => decide (stripUptr s k ≤ e) && decide (e < n))) % 2 ^ 64 ∧
      (∀ e ∈ (t.strip k).owed, e.1 < stripUptr s k ∨ n ≤ e.1) ∧ t.swa.mem = s.swa.mem ∧ t.que = s.que)) ∧
  (∀ (k : Fin 8) (n : Nat), (stripOn s k = false ∨ (s.strip k).unl = false ∨ s.get (F.SWA_STs_UNL_DEST k) ≠ 1 ∨ n % 256 ≠ 0 ∨
    n ≤ stripUptr s k ∨ swathSC s < n) → Gives (.uack k n) s (fun t => t = s))

/-- Zeroize, its sweeps, the patrol scrub and row repair. A zeroize of the swath outside SENTRY makes every byte of the
swath read 0 at once, discards and counts each enabled strip's pending frames, leaves resident no block but one in progress,
whose frames so far count as zeroized (that it stays readable is the model's reading, log 76), moves W to SC, or for a wake
at the same edge to that wake's window from SC on, and begins the sweep shown in
ZBUSY; in SENTRY it is complete at its edge and ZDONE sets with source 54. A zeroize of the short swath does the same with
the short memory and leaves the swath alone. Outside start-up and transitions a sweep's end clears its bit, and with no other sweep running ZDONE sets and
source 54 rises; no sweep ends without HSCK. The scrub adds its corrections to SWA_SBE; a row with an uncorrectable word or four corrections is
flagged, an uncorrectable word shows its address with DBE and source 52, and SAFE_DBE where it is the safety strip's; the
scrub stops with its domain. That words are struck with a scrub's command is the model's choice (log 77). A flagged row is remapped with AUTOREP: one spare more is in use and
source 53 rises, EXHAUST sets with the last spare, and with none left the row stays flagged; an unflagged row, one without
AUTOREP and one in OFF or SENTRY are left alone. Rests on spec/09_swath_and_mitten.md, spec/21_service_and_repair.md. -/
def Obligations.ZeroizeAndRepair : Prop := ∀ s : State,
  (s.pstate = SENTRY → Gives .zswath s (fun t => OnlyRegs s t ∧ t.flag F.SWA_ST_ZDONE = true ∧ EdgeTaken s t 54 ∧
    RegsKept s t (A.SWA_ST :: sourceRegs 54))) ∧
  (s.pstate ≠ SENTRY → s.swa.strip.length = 8 → Gives .zswath s (fun t => (∀ a, memGet t.swa.mem a = 0) ∧ t.swa.bad = [] ∧ t.swa.soft = [] ∧ t.swa.zsw = true ∧
    t.swa.short = s.swa.short ∧ t.get F.SWA_ST_ZBUSY = 1 + 2 * b2n s.swa.zss ∧
    (sameEdge s s.swa.openAt = none ∨ mittenOpen s = false → t.pair A.SWA_WSTART_LO = swathSC s) ∧
    (∀ m, sameEdge s s.swa.openAt = some m → mittenOpen s = true →
      t.pair A.SWA_WSTART_LO = Nat.max (m - prerollFrames s) (swathSC s) % 2 ^ 64) ∧
    swathSC t = swathSC s ∧ (∀ k : Fin 8, stripOn s k = true → t.get (F.SWA_STs_PEND_FRAMES k) = 0 ∧
      t.pair (A.SWA_STs_DISC_LO k) = (s.pair (A.SWA_STs_DISC_LO k) + stripPend s k) % 2 ^ 64 ∧ (t.strip k).owed = [] ∧
      (∀ e ∈ (t.strip k).tags, ∃ b, (s.strip k).cur = some b ∧ e = (b.idx, b.stamp)) ∧
      (∀ b, (s.strip k).cur = some b → b.frames ≠ 0 →
        (t.strip k).cur = some { b with zero := true, validFrom := b.frames, uns := 0, disc := 0, sat := 0, unsEnd := 0 })))) ∧
  (s.pstate ≠ SENTRY ∨ s.flag F.SWA_MITTEN_SS_OPEN = false ∨ sameEdge s s.swa.openAt = none →
    Gives .zshort s (fun t => (∀ a, memGet t.swa.short a = 0) ∧ t.swa.badShort = [] ∧ t.swa.softShort = [] ∧ t.swa.zss = true ∧ t.swa.mem = s.swa.mem ∧
    t.pair A.SWA_SSWSTART_LO = shortSSC s ∧ t.get F.SWA_ST_ZBUSY = b2n s.swa.zsw + 2 ∧
    t.pair A.SWA_SSDISC_LO = (s.pair A.SWA_SSDISC_LO + shortHeld s) % 2 ^ 64 ∧
    RegsKept s t (A.SWA_ST :: pairRegs A.SWA_SSDISC_LO ++ pairRegs A.SWA_SSWSTART_LO))) ∧
  (∀ m : Nat, s.pstate = SENTRY → s.flag F.SWA_MITTEN_SS_OPEN = true → sameEdge s s.swa.openAt = some m →
    Gives .zshort s (fun t => (∀ a, memGet t.swa.short a = 0) ∧ t.swa.mem = s.swa.mem ∧ t.swa.zss = true ∧
      t.pair A.SWA_SSWSTART_LO = Nat.max (m - 16 * s.get F.SWA_PRE_PRE) (shortSSC s) % 2 ^ 64)) ∧
  (∀ short : Bool, s.clk.present = true → s.pwr.start = none → s.pwr.trans = none →
    (if short then s.swa.zss else s.swa.zsw) = true → (if short then s.swa.zsw else s.swa.zss) = false →
    Gives (.zeroizeSweepDone short) s (fun t =>
      t = { s with regs := t.regs, swa := { s.swa with zsw := false, zss := false } } ∧ t.get F.SWA_ST_ZBUSY = 0 ∧
        t.flag F.SWA_ST_ZDONE = true ∧ EdgeTaken s t 54 ∧ RegsKept s t (A.SWA_ST :: sourceRegs 54))) ∧
  (∀ short : Bool, s.clk.present = true → s.pwr.start = none → s.pwr.trans = none → s.swa.zsw = true → s.swa.zss = true →
    Gives (.zeroizeSweepDone short) s (fun t => t = { s with regs := t.regs, swa := { s.swa with zsw := short, zss := !short } } ∧
      t.get F.SWA_ST_ZBUSY = (if short then 1 else 2) ∧ t.flag F.SWA_ST_ZDONE = s.flag F.SWA_ST_ZDONE ∧ RegsKept s t [A.SWA_ST])) ∧
  (∀ short : Bool, s.clk.present = false ∨ (if short then s.swa.zss else s.swa.zsw) = false → Gives (.zeroizeSweepDone short) s (fun t => t = s)) ∧
  (∀ (r : Fin 32768) (n : BitVec 8), s.coreRuns = true → s.awake = true →
    (∀ w ∈ s.swa.bad, w / 1024 ≠ r.val) → (n.toNat < 4 ∨ r.val ∈ s.swa.flagged) → Gives (.patrolScrub r n ([], [])) s (fun t =>
      t = { s with regs := t.regs, swa := { s.swa with soft := s.swa.soft.filter (fun w => decide (w / 1024 ≠ r.val)) } } ∧
      t.pair A.SWA_SBE_LO = (s.pair A.SWA_SBE_LO + n.toNat) % 2 ^ 64 ∧ RegsKept s t (pairRegs A.SWA_SBE_LO))) ∧
  (∀ (r : Fin 32768) (n : BitVec 8), s.coreRuns = true → s.awake = true →
    4 ≤ n.toNat → r.val ∉ s.swa.flagged → s.swa.flagged.length < 511 → Gives (.patrolScrub r n ([], [])) s (fun t =>
      t.swa.flagged = s.swa.flagged ++ [r.val] ∧ t.get F.SWA_REP_PEND = s.swa.flagged.length + 1 ∧
      t.pair A.SWA_SBE_LO = (s.pair A.SWA_SBE_LO + n.toNat) % 2 ^ 64 ∧ RegsKept s t (A.SWA_REP :: pairRegs A.SWA_SBE_LO))) ∧
  (∀ (r : Fin 32768) (n : BitVec 8) (i : Fin 128), s.coreRuns = true → s.awake = true →
    r.val ∉ s.swa.flagged → s.swa.flagged.length < 511 → Gives (.patrolScrub r n ([i], [])) s (fun t =>
      t.swa.flagged = s.swa.flagged ++ [r.val] ∧ t.get F.SWA_REP_PEND = s.swa.flagged.length + 1 ∧
      1024 * r.val + 8 * i.val ∈ t.swa.bad ∧ t.flag F.SWA_ECC_DBE = true ∧
      t.flag F.SWA_ECC_SAFE_DBE = (s.flag F.SWA_ECC_SAFE_DBE || safeWord s (1024 * r.val + 8 * i.val)) ∧
      t.get F.SWA_DBEADDR_ADDR = 1024 * r.val + 8 * i.val ∧ t.flag F.SWA_DBEADDR_MEM = false ∧ EdgeTaken s t 52)) ∧
  (∀ (r : Fin 32768) (bad : Bool) (a : Fin 4194304), s.coreRuns = true → s.awake = true →
    Gives (.patrolScrub r 0 ([], [(false, bad, a)])) s (fun t => 8 * a.val ∈ (if bad then t.swa.bad else t.swa.soft))) ∧
  (∀ (r : Fin 32768) (bad : Bool) (a : Fin 4194304), s.coreRuns = true → s.awake = true → 8 * a.val < shortBytes →
    Gives (.patrolScrub r 0 ([], [(true, bad, a)])) s (fun t => 8 * a.val ∈ (if bad then t.swa.badShort else t.swa.softShort))) ∧
  (∀ (r : Fin 32768) (n : BitVec 8) (l : List (Fin 128)) (w : List (Bool × Bool × Fin 4194304)), s.coreRuns = false ∨ s.awake = false →
    Gives (.patrolScrub r n (l, w)) s (fun t => t = s)) ∧
  (∀ r : Nat, s.awake = true → s.flag F.SWA_CFG_AUTOREP = true → r ∈ s.swa.flagged →
    (s.get F.SWA_REP_USED < 256 → Gives (.rowRepair r) s (fun t => r ∉ t.swa.flagged ∧ t.swa.repaired = s.swa.repaired ++ [r] ∧
      t.get F.SWA_REP_USED = s.get F.SWA_REP_USED + 1 ∧ t.nvm.rows = s.nvm.rows ++ [r] ∧ t.swa.mem = s.swa.mem ∧
      t.flag F.SWA_REP_EXHAUST = (s.flag F.SWA_REP_EXHAUST || decide (s.get F.SWA_REP_USED = 255)) ∧
      t.flag (F.INT_SRCs_PEND 53) = true)) ∧
    (256 ≤ s.get F.SWA_REP_USED → Gives (.rowRepair r) s (fun t => t = s))) ∧
  (∀ r : Nat, r ∉ s.swa.flagged ∨ s.flag F.SWA_CFG_AUTOREP = false ∨ s.awake = false → Gives (.rowRepair r) s (fun t => t = s))

/-- Releases of tasks, budget faults and INIT overruns. A trigger that stands releases a job of its task: the released jobs
gain it with a deadline one period after now, and no other job's task or deadline changes; on an idle core it starts at its
entry. While a job of the task is released one further release is held, and with one held a further one is counted LATE
with source 10; the time of the release is kept in each case. A trigger that does not stand, a core without its clock, one
that neither runs nor idles and one in INIT release nothing. A budget fault counts in OVR and BUD.COUNT, BUD.LAST names
the task, MAX shows one more than the bound, source 10 rises; with OVRSTOP the job is abandoned at a boundary, and within a
bundle at the next. INIT for more than 10 ms is a budget fault of task 15. Where the safety function depends on the task an
event of diagnostic 13 follows. With no running job, or outside INIT, nothing happens. Rests on spec/10_furrow_cores.md,
spec/20_functional_safety.md. -/
def Obligations.TasksAndBudgets : Prop := ∀ s : State, s.frw.core.length = 6 →
  (∀ (c : Fin 4) (t : Fin 16), coreClocked s c = true → coreLive s c = true → s.flag (F.FRW_COREc_ST_INIT c) = false →
    triggered s c t = true → (∀ j ∈ (s.core c).jobs, j.task ≠ t.val) → Gives (.taskRelease c t) s (fun u =>
      (u.core c).jobs.map (fun j => (j.task, j.deadline)) =
        (s.core c).jobs.map (fun j => (j.task, j.deadline)) ++ [(t.val, s.time.hsck + taskCycles s c t)] ∧
      (u.core c).lastRel = setNth (s.core c).lastRel t.val (some s.time.hsck) ∧ (u.core c).buf = (s.core c).buf ∧
      u = { s with regs := u.regs, frw := { s.frw with core := u.frw.core } } ∧ RegsKept s u [A.FRW_COREc_ST c])) ∧
  (∀ (c : Fin 4) (t : Fin 16), coreClocked s c = true → coreState s c = C_IDLE → s.flag (F.FRW_COREc_ST_INIT c) = false →
    triggered s c t = true → (s.core c).jobs = [] → (s.core c).run = none → eligible s c = true → Gives (.taskRelease c t) s (fun u =>
      coreState u c = C_RUN ∧ u.get (F.FRW_COREc_ST_TASK c) = t.val ∧ (u.core c).run = some t.val ∧
        (u.core c).pc = taskEntry s c t ∧ (u.core c).regs = (loadsReturn (s.core c)).regs)) ∧
  (∀ (c : Fin 4) (t : Fin 16), coreClocked s c = true → coreLive s c = true → s.flag (F.FRW_COREc_ST_INIT c) = false →
    triggered s c t = true → (∃ j ∈ (s.core c).jobs, j.task = t.val) →
    (t.val ∉ (s.core c).heldRel → Gives (.taskRelease c t) s (fun u =>
      u = s.setCore c { s.core c with heldRel := (s.core c).heldRel ++ [t.val], lastRel := setNth (s.core c).lastRel t.val (some s.time.hsck) })) ∧
    (t.val ∈ (s.core c).heldRel → Gives (.taskRelease c t) s (fun u =>
        u = { s.setCore c { s.core c with lastRel := setNth (s.core c).lastRel t.val (some s.time.hsck) } with regs := u.regs } ∧
        u.get (F.FRW_Tc_t_ST_LATE c t) = Nat.min (s.get (F.FRW_Tc_t_ST_LATE c t) + 1) (2 ^ (F.FRW_Tc_t_ST_LATE c t).width - 1) ∧ EdgeTaken s u 10 ∧
        RegsKept s u (A.FRW_Tc_t_ST c t :: sourceRegs 10)))) ∧
  (∀ (c : Fin 4) (t : Fin 16), triggered s c t = false ∨ coreClocked s c = false ∨ coreLive s c = false ∨
    s.flag (F.FRW_COREc_ST_INIT c) = true → Gives (.taskRelease c t) s (fun u => u = s)) ∧
  (∀ (c : Fin 4) (t : Nat), coreClocked s c = true → coreLive s c = true → (s.core c).run = some t → t < 16 →
    s.flag (F.FRW_Tc_t_ENTRY_OVRSTOP c t) = false →
    (depends s c t = false → Gives (.budgetFault c) s (fun u =>
      OnlyRegs s u ∧ u.get (F.FRW_COREc_BUD_COUNT c) = Nat.min (s.get (F.FRW_COREc_BUD_COUNT c) + 1) 65535 ∧ u.get (F.FRW_COREc_BUD_LAST c) = t ∧
      u.get (F.FRW_Tc_t_ST_OVR c t) = Nat.min (s.get (F.FRW_Tc_t_ST_OVR c t) + 1) (2 ^ (F.FRW_Tc_t_ST_OVR c t).width - 1) ∧
      Nat.min (2 ^ 24 - 1) (s.get (F.FRW_Tc_t_BOUND_CYC c t) + 1) ≤ u.get (F.FRW_Tc_t_MAX_CYC c t) ∧ EdgeTaken s u 10 ∧
      RegsKept s u ([A.FRW_COREc_BUD c, A.FRW_Tc_t_ST c t, A.FRW_Tc_t_MAX c t] ++ sourceRegs 10))) ∧
    (depends s c t = true → Gives (.budgetFault c) s (fun u => ∃ v, OnlyRegs s v ∧ v.get (F.FRW_COREc_BUD_LAST c) = t ∧
      v.get (F.FRW_COREc_BUD_COUNT c) = Nat.min (s.get (F.FRW_COREc_BUD_COUNT c) + 1) 65535 ∧ EdgeTaken s v 10 ∧ u = diagEvent v 13))) ∧
  (∀ (c : Fin 4) (t : Nat), coreClocked s c = true → coreLive s c = true → (s.core c).run = some t → t < 16 → depends s c t = false →
    s.flag (F.FRW_Tc_t_ENTRY_OVRSTOP c t) = true →
    (atBoundary (s.core c) = true → t ∉ (s.core c).heldRel →
      Gives (.budgetFault c) s (fun u => (∀ j ∈ (u.core c).jobs, j.task ≠ t) ∧ (u.core c).buf = [] ∧ (u.core c).drop = false ∧
        u.get (F.FRW_COREc_BUD_LAST c) = t ∧ (∀ d : Fin 6, d.val ≠ c.val → u.core d = s.core d))) ∧
    ((s.core c).bun.isSome = true → Gives (.budgetFault c) s (fun u => u.core c = { s.core c with drop := true } ∧
      u.get (F.FRW_COREc_BUD_LAST c) = t ∧ EdgeTaken s u 10))) ∧
  (∀ c : Fin 4, (s.core c).run = none ∨ coreClocked s c = false ∨ coreLive s c = false → Gives (.budgetFault c) s (fun u => u = s)) ∧
  (∀ c : Fin 4, coreClocked s c = true → coreState s c = C_RUN → s.flag (F.FRW_COREc_ST_INIT c) = true →
    (depends s c 15 = false → Gives (.initOverrun c) s (fun u => OnlyRegs s u ∧ u.get (F.FRW_COREc_BUD_LAST c) = 15 ∧
      u.get (F.FRW_COREc_BUD_COUNT c) = Nat.min (s.get (F.FRW_COREc_BUD_COUNT c) + 1) 65535 ∧ EdgeTaken s u 10 ∧
      RegsKept s u ([A.FRW_COREc_BUD c, A.FRW_Tc_t_ST c 15] ++ sourceRegs 10))) ∧
    (depends s c 15 = true → Gives (.initOverrun c) s (fun u => ∃ v, OnlyRegs s v ∧ v.get (F.FRW_COREc_BUD_LAST c) = 15 ∧
      EdgeTaken s v 10 ∧ u = diagEvent v 13))) ∧
  (∀ c : Fin 4, s.flag (F.FRW_COREc_ST_INIT c) = false ∨ coreClocked s c = false ∨ coreState s c ≠ C_RUN →
    Gives (.initOverrun c) s (fun u => u = s))

/-- Starting, halting, stepping, retiring and restarting a core. Writing RUN = 1 to a core in HALT or FAULT starts it
through INIT with its registers at reset, and to another changes the bit alone; writing RUN = 0 to a core with an enabled task outside SERVICE does nothing, and
otherwise halts a running core at a boundary with its store buffer drained, and away from one, or of a core that does not
run, clears the bit alone, on which the core halts at its next boundary. STEP acts on a halted core alone. A core with
no enabled task retires, and the repair map records it; one that has an enabled task or is retired stays as it is. The
sentry core starts again after its FAULT while it has its clock; FRW_SENT_CTL.RUN = 1 starts it from HALT outside SENTRY and
OFF, RUN = 0 halts it there, and in SENTRY, in OFF and where it agrees with the core's state the bit alone changes. Rests on
spec/10_furrow_cores.md, spec/13_furrow_hazards_and_exceptions.md, spec/21_service_and_repair.md. -/
def Obligations.CoreControl : Prop := ∀ s : State, s.frw.core.length = 6 →
  (∀ c : Fin 4, s.awake = true → coreState s c = C_HALT ∨ coreState s c = C_FAULT → Gives (.coreRun c true) s (fun t =>
    t = { s with regs := t.regs, frw := { s.frw with core := setNth s.frw.core c CoreSt.reset } } ∧ coreState t c = C_RUN ∧
      t.flag (F.FRW_COREc_ST_INIT c) = true ∧ t.flag (F.FRW_COREc_CTL_RUN c) = true ∧
      RegsKept s t [A.FRW_COREc_ST c, A.FRW_COREc_CTL c])) ∧
  (∀ c : Fin 4, s.awake = false ∨ (coreState s c ≠ C_HALT ∧ coreState s c ≠ C_FAULT) → Gives (.coreRun c true) s (fun t =>
    t = s.mark (F.FRW_COREc_CTL_RUN c) true)) ∧
  (∀ c : Fin 4, s.pstate ≠ SERVICE → (∃ t < 16, taskKind s c t ≠ 0) → Gives (.coreRun c false) s (fun t => t = s)) ∧
  (∀ c : Fin 4, s.pstate = SERVICE ∨ (∀ t < 16, taskKind s c t = 0) → coreLive s c = true → eligible s c = true → Gives (.coreRun c false) s (fun t =>
    coreState t c = C_HALT ∧ (t.core c).buf = [] ∧ (t.core c).jobs = [] ∧ t.flag (F.FRW_COREc_CTL_RUN c) = false ∧
      (∀ d : Fin 6, d.val ≠ c.val → t.core d = s.core d))) ∧
  (∀ c : Fin 4, s.pstate = SERVICE ∨ (∀ t < 16, taskKind s c t = 0) → coreLive s c = false ∨ eligible s c = false →
    Gives (.coreRun c false) s (fun t => t = s.mark (F.FRW_COREc_CTL_RUN c) false)) ∧
  (∀ c : Fin 4, (coreState s c = C_HALT → Gives (.coreStep c) s (fun t => t = s.setCore c { s.core c with stepping := true })) ∧
    (coreState s c ≠ C_HALT → Gives (.coreStep c) s (fun t => t = s))) ∧
  (∀ c : Fin 4, (∀ t < 16, taskKind s c t = 0) → coreState s c ≠ C_RETIRED → Gives (.coreRetire c) s (fun t =>
    coreState t c = C_RETIRED ∧ t.flag (F.FRW_COREc_CTL_RETIRE c) = true ∧ c.val ∈ t.nvm.cores ∧ (t.core c).run = none ∧
      (t.core c).buf = [])) ∧
  (∀ c : Fin 4, (∃ t < 16, taskKind s c t ≠ 0) ∨ coreState s c = C_RETIRED → Gives (.coreRetire c) s (fun t => t = s)) ∧
  (coreState s SENT = C_FAULT → coreClocked s SENT = true → Gives .sentryCoreRestart s (fun t =>
    t = { s with regs := t.regs, frw := { s.frw with core := setNth s.frw.core SENT CoreSt.reset } } ∧ coreState t SENT = C_RUN ∧
      RegsKept s t [A.FRW_SENT_CTL])) ∧
  (coreState s SENT ≠ C_FAULT ∨ coreClocked s SENT = false → Gives .sentryCoreRestart s (fun t => t = s)) ∧
  (s.pstate ≠ OFF → s.pstate ≠ SENTRY → coreState s SENT = C_HALT ∨ coreState s SENT = C_OFF → Gives (.sentryCoreRun true) s (fun t =>
    t = { s with regs := t.regs, frw := { s.frw with core := setNth s.frw.core SENT CoreSt.reset } } ∧ coreState t SENT = C_RUN ∧
      t.flag F.FRW_SENT_CTL_RUN = true ∧ RegsKept s t [A.FRW_SENT_CTL])) ∧
  (s.pstate ≠ OFF → s.pstate ≠ SENTRY → coreState s SENT ≠ C_HALT → coreState s SENT ≠ C_OFF → Gives (.sentryCoreRun false) s (fun t =>
    coreState t SENT = C_HALT ∧ t.flag F.FRW_SENT_CTL_RUN = false ∧ (t.core SENT).buf = [] ∧ (t.core SENT).run = none ∧
      (∀ d : Fin 6, d.val ≠ SENT → t.core d = s.core d))) ∧
  (∀ b : Bool, s.pstate = SENTRY ∨ s.pstate = OFF ∨ decide (coreState s SENT = C_HALT ∨ coreState s SENT = C_OFF) = !b →
    Gives (.sentryCoreRun b) s (fun t => OnlyRegs s t ∧ t.flag F.FRW_SENT_CTL_RUN = b ∧
      coreState t SENT = coreState s SENT ∧ RegsKept s t [A.FRW_SENT_CTL]))

/-- Stores drain, loads return, the ECC patrol corrects or flags. The oldest store of a core's buffer reaches its memory:
each of its bytes is stored in order from its address, every other byte of that memory, and every other memory, reads as
before, and the entries behind it stand. With an empty buffer, or without the core's clock, nothing happens. The oldest outstanding load writes its
register, in a bundle that is open too, and no other register changes; with none outstanding nothing happens. The patrol corrects a word and counts it
in SBE of a Furrow-F core, the one whose port it used for the Common, and flags an uncorrectable one by PDBE or DBE and remembers its address; the sentry core
and the Scarecrow have no such register, and for the Scarecrow it is an event of diagnostic 4. An address outside the memory, and a core without its clock, do nothing. That
words are struck with the patrol's command is the model's choice (log 77). Rests on spec/10_furrow_cores.md,
spec/13_furrow_hazards_and_exceptions.md. -/
def Obligations.CoreTraffic : Prop := ∀ s : State, s.frw.core.length = 6 → s.frw.data.length = 6 →
  (∀ (c : Fin 6) (a : Nat) (bs : List Nat) (l : List (Nat × List Nat)), coreClocked s c = true → (s.core c).buf = (a, bs) :: l →
    DATA_BASE ≤ a → a < COMMON_BASE → Gives (.storeDrain c) s (fun t => (t.core c).buf = l ∧
      (∀ i < bs.length, memGet (t.data c) (a - DATA_BASE + i) = nth bs i 0 % 256) ∧
      (∀ o, (o < a - DATA_BASE ∨ a - DATA_BASE + bs.length ≤ o) → memGet (t.data c) o = memGet (s.data c) o) ∧
      (∀ d : Fin 6, d ≠ c → t.data d = s.data d) ∧ t.frw.common = s.frw.common ∧ t.frw.prog = s.frw.prog ∧
      (t.core c).regs = (s.core c).regs ∧ RegsKept s t [A.FRW_COREc_ECC c])) ∧
  (∀ (c : Fin 6) (a : Nat) (bs : List Nat) (l : List (Nat × List Nat)), coreClocked s c = true → (s.core c).buf = (a, bs) :: l →
    COMMON_BASE ≤ a → Gives (.storeDrain c) s (fun t => (t.core c).buf = l ∧
      (∀ i < bs.length, memGet t.frw.common (a - COMMON_BASE + i) = nth bs i 0 % 256) ∧
      (∀ o, (o < a - COMMON_BASE ∨ a - COMMON_BASE + bs.length ≤ o) → memGet t.frw.common o = memGet s.frw.common o) ∧
      t.frw.data = s.frw.data ∧ t.frw.prog = s.frw.prog)) ∧
  (∀ c : Fin 6, (s.core c).buf = [] ∨ coreClocked s c = false → Gives (.storeDrain c) s (fun t => t = s)) ∧
  (∀ (c : Fin 6) (n : BitVec 5) (v : BitVec 128) (l : List (Nat × BitVec 128)), coreClocked s c = true →
    (s.core c).ret = (regS n.toNat, v) :: l → (∀ e ∈ l, e.1 ≠ regS n.toNat) → Gives (.loadReturn c) s (fun t =>
      t = s.setCore c { s.core c with regs := (s.core c).regs.setS n (v.setWidth 32), ret := l, bun := (s.core c).bun.map (fun b => { b with before := b.before.setS n (v.setWidth 32) }) })) ∧
  (∀ (c : Fin 6) (n : Fin 16) (v : BitVec 128) (l : List (Nat × BitVec 128)), coreClocked s c = true →
    (s.core c).ret = (regQ n.val, v) :: l → (∀ e ∈ l, e.1 ≠ regQ n.val) → Gives (.loadReturn c) s (fun t =>
      t = s.setCore c { s.core c with regs := (s.core c).regs.setQ (BitVec.ofNat 5 n.val) v, ret := l, bun := (s.core c).bun.map (fun b => { b with before := b.before.setQ (BitVec.ofNat 5 n.val) v }) })) ∧
  (∀ c : Fin 6, (s.core c).ret = [] ∨ coreClocked s c = false → Gives (.loadReturn c) s (fun t => t = s)) ∧
  (∀ (c : Fin 6) (m : Fin 3) (a : Nat), coreClocked s c = true → c.val < 4 → a < memoryBytes c m →
    Gives (.coreEccPatrol c m a (false, [])) s (fun t =>
      t = { s with regs := t.regs, frw := { s.frw with soft := s.frw.soft.filter (fun e => !softHit c m (a / 8 * 8) 8 e) } } ∧
      t.get (F.FRW_COREc_ECC_SBE c) = Nat.min (s.get (F.FRW_COREc_ECC_SBE c) + 1) 65535 ∧ RegsKept s t [A.FRW_COREc_ECC c])) ∧
  (∀ (c : Fin 6) (m : Fin 3) (a : Nat), coreClocked s c = true → 4 ≤ c.val → a < memoryBytes c m →
    Gives (.coreEccPatrol c m a (false, [])) s (fun t =>
      t = { s with frw := { s.frw with soft := s.frw.soft.filter (fun e => !softHit c m (a / 8 * 8) 8 e) } })) ∧
  (∀ (c : Fin 6) (a : Nat), coreClocked s c = true → c.val < 4 → a < progBytes c → s.frw.badProg.length = 6 →
    Gives (.coreEccPatrol c 0 a (true, [])) s (fun t => t.flag (F.FRW_COREc_ECC_PDBE c) = true ∧
      t.flag (F.FRW_COREc_ECC_DBE c) = s.flag (F.FRW_COREc_ECC_DBE c) ∧ a / 8 * 8 ∈ nth t.frw.badProg c [] ∧
      t = { s with regs := t.regs, frw := { s.frw with badProg := t.frw.badProg } } ∧ RegsKept s t [A.FRW_COREc_ECC c])) ∧
  (∀ (c : Fin 6) (a : Nat), coreClocked s c = true → c.val < 4 → a < dataBytes c → s.frw.badData.length = 6 →
    Gives (.coreEccPatrol c 1 a (true, [])) s (fun t => t.flag (F.FRW_COREc_ECC_DBE c) = true ∧
      t.flag (F.FRW_COREc_ECC_PDBE c) = s.flag (F.FRW_COREc_ECC_PDBE c) ∧ a / 8 * 8 ∈ nth t.frw.badData c [] ∧
      t = { s with regs := t.regs, frw := { s.frw with badData := t.frw.badData } } ∧ RegsKept s t [A.FRW_COREc_ECC c])) ∧
  (∀ (c : Fin 6) (a : Nat), coreClocked s c = true → c.val < 4 → a < commonBytes →
    Gives (.coreEccPatrol c 2 a (true, [])) s (fun t => t.flag (F.FRW_COREc_ECC_DBE c) = true ∧ a / 8 * 8 ∈ t.frw.badCommon ∧
      t = { s with regs := t.regs, frw := { s.frw with badCommon := t.frw.badCommon } } ∧ RegsKept s t [A.FRW_COREc_ECC c])) ∧
  (∀ (c : Fin 6) (m : Fin 2) (a : Nat), coreClocked s c = true → 4 ≤ c.val → a < memoryBytes c m → s.frw.badProg.length = 6 → s.frw.badData.length = 6 →
    Gives (.coreEccPatrol c (m.castLE (by decide)) a (true, [])) s (fun t => ∃ v, t = (if c.val = SCARE then scareEcc v else v) ∧
      v = { s with frw := { s.frw with badProg := v.frw.badProg, badData := v.frw.badData } } ∧
      a / 8 * 8 ∈ (if m = 0 then nth v.frw.badProg c [] else nth v.frw.badData c []))) ∧
  (∀ (c : Fin 6) (m : Fin 3) (a : Nat) (b : Bool) (l : List (Fin 6 × Fin 3 × Bool × Nat)), memoryBytes c m ≤ a ∨ coreClocked s c = false →
    Gives (.coreEccPatrol c m a (b, l)) s (fun t => t = s)) ∧
  (∀ (c d : Fin 6) (m k : Fin 3) (a b : Nat), coreClocked s c = true → a < memoryBytes c m → b < memoryBytes d k →
    Gives (.coreEccPatrol c m a (false, [(d, k, false, b)])) s (fun t => (k.val, if k = 2 then 0 else d.val, b / 8 * 8) ∈ t.frw.soft)) ∧
  (∀ (c d : Fin 6) (m k : Fin 3) (a b : Nat), coreClocked s c = true → a < memoryBytes c m → b < memoryBytes d k →
    s.frw.badProg.length = 6 → s.frw.badData.length = 6 → Gives (.coreEccPatrol c m a (false, [(d, k, true, b)])) s (fun t =>
      b / 8 * 8 ∈ (if k = 0 then nth t.frw.badProg d [] else if k = 1 then nth t.frw.badData d [] else t.frw.badCommon)))

/-- The hitless update of the Furrow-F image. REQ with SPLIT, every unretired core signed and no update in progress starts
one: STATE reads loading; otherwise it changes nothing. An alternate slot that is not VALID, or whose image fails its check,
ends it with ERR 1, or 5 for its format, an image not marked as swappable with ERR 4; an
image that checks and may be swapped puts its task tables before admission. At a task-frame boundary an update that waits
switches: STATE 3, ERR 0, DONE with source 12, FACT names the other slot, FVER its version, and every half of an unretired
core is the other one. 100 ms of HSCK without one ends it with ERR 3, and the admission registers show the configuration in force. Each of these in another state of the update, and a load or
switch without the core clock, changes nothing. Rests on spec/10_furrow_cores.md. -/
def Obligations.HitlessUpdate : Prop := ∀ s : State,
  (s.get F.FRW_SWAP_STATE ≠ 1 → s.get F.FRW_SWAP_STATE ≠ 2 → s.awake = true → s.flag F.FRW_CFG_SPLIT = true →
    (∀ c < 4, s.flag (F.FRW_COREc_ST_UNSIGNED c) = false ∨ coreState s c = C_RETIRED) → Gives .swapReq s (fun t => OnlyRegs s t ∧
      t.get F.FRW_SWAP_STATE = 1 ∧ t.get F.FRW_SWAP_ERR = 0 ∧ RegsKept s t [A.FRW_SWAP])) ∧
  (s.get F.FRW_SWAP_STATE = 1 ∨ s.get F.FRW_SWAP_STATE = 2 ∨ s.awake = false ∨ s.flag F.FRW_CFG_SPLIT = false ∨
    (∃ c < 4, s.flag (F.FRW_COREc_ST_UNSIGNED c) = true ∧ coreState s c ≠ C_RETIRED) → Gives .swapReq s (fun t => t = s)) ∧
  (s.get F.FRW_SWAP_STATE = 1 → s.coreRuns = true →
    (bit s.nvm.valid (1 - s.get F.FRW_IMG_FACT) = false → Gives .swapLoadEnd s (fun t =>
      t = { s with regs := t.regs, frw := { s.frw with swapVer := 0, swapTasks := [] }, hsp := { s.hsp with checks := s.hsp.checks.filter (fun c => decide (c.origin ≠ Origin.swap)) } } ∧
        t.get F.FRW_SWAP_STATE = 4 ∧ t.get F.FRW_SWAP_ERR = 1 ∧ t.flag F.FRW_SWAP_DONE = true ∧ EdgeTaken s t 12 ∧
        RegsKept s t (A.FRW_SWAP :: sourceRegs 12))) ∧
    (∀ e : Nat, bit s.nvm.valid (1 - s.get F.FRW_IMG_FACT) = true → imageCheck s 1 (1 - s.get F.FRW_IMG_FACT) = .error e →
      Gives .swapLoadEnd s (fun t => t.get F.FRW_SWAP_STATE = 4 ∧ t.get F.FRW_SWAP_ERR = (if e = 5 then 5 else 1) ∧
        t.flag F.FRW_SWAP_DONE = true ∧ EdgeTaken s t 12 ∧ RegsKept s t (A.FRW_SWAP :: sourceRegs 12))) ∧
    (∀ img : Image, bit s.nvm.valid (1 - s.get F.FRW_IMG_FACT) = true → imageCheck s 1 (1 - s.get F.FRW_IMG_FACT) = .ok img →
      bit img.flags 0 = false → Gives .swapLoadEnd s (fun t => t.get F.FRW_SWAP_STATE = 4 ∧ t.get F.FRW_SWAP_ERR = 4 ∧
        t.flag F.FRW_SWAP_DONE = true ∧ EdgeTaken s t 12 ∧ RegsKept s t (A.FRW_SWAP :: sourceRegs 12)))) ∧
  (∀ img : Image, s.get F.FRW_SWAP_STATE = 1 → s.coreRuns = true → bit s.nvm.valid (1 - s.get F.FRW_IMG_FACT) = true →
    imageCheck s 1 (1 - s.get F.FRW_IMG_FACT) = .ok img → bit img.flags 0 = true → Gives .swapLoadEnd s (fun t =>
      t.get F.FRW_SWAP_STATE = 1 ∧ t.frw.swapVer = img.version ∧ t.hsp.checks = s.hsp.checks ++ [⟨.swap, t.frw.swapTasks⟩])) ∧
  (s.get F.FRW_SWAP_STATE ≠ 1 ∨ s.coreRuns = false → Gives .swapLoadEnd s (fun t => t = s)) ∧
  (s.get F.FRW_SWAP_STATE = 2 → s.coreRuns = true → frameBoundary s = true → s.frw.swapTasks = [] → Gives .swapSwitch s (fun t =>
    t.get F.FRW_SWAP_STATE = 3 ∧ t.get F.FRW_SWAP_ERR = 0 ∧ t.flag F.FRW_SWAP_DONE = true ∧ t.flag (F.INT_SRCs_PEND 12) = true ∧
      t.get F.FRW_IMG_FACT = 1 - s.get F.FRW_IMG_FACT ∧ t.get F.FRW_IMG_FVER = s.frw.swapVer % 65536 ∧
      (∀ c : Fin 4, coreState s c ≠ C_RETIRED → t.get (F.FRW_COREc_ST_HALF c) = 1 - s.get (F.FRW_COREc_ST_HALF c)))) ∧
  (∀ (a : Nat) (w : Word), s.get F.FRW_SWAP_STATE = 2 → s.coreRuns = true → frameBoundary s = true → s.frw.swapTasks = [(a, w)] →
    (∃ (c : Fin 4) (k : Fin 16), a = A.FRW_Tc_t_BOUND c k) → Gives .swapSwitch s (fun t =>
    t.get F.FRW_SWAP_STATE = 3 ∧ t.get F.FRW_IMG_FACT = 1 - s.get F.FRW_IMG_FACT ∧ t.frw.swapTasks = [] ∧
      t.rd a = w &&& BitVec.ofNat 32 (match regRow a with | some r => r.rw | none => 0))) ∧
  (s.get F.FRW_SWAP_STATE ≠ 2 ∨ s.coreRuns = false ∨ frameBoundary s = false → Gives .swapSwitch s (fun t => t = s)) ∧
  (s.clk.present = true → s.get F.FRW_SWAP_STATE = 2 → Gives .swapTimeout s (fun t => ∃ u, t = admitted u ∧
    u = { s with regs := u.regs, frw := { s.frw with swapVer := 0, swapTasks := [] }, hsp := { s.hsp with checks := s.hsp.checks.filter (fun c => decide (c.origin ≠ Origin.swap)) } } ∧
    u.get F.FRW_SWAP_STATE = 4 ∧ u.get F.FRW_SWAP_ERR = 3 ∧ u.flag F.FRW_SWAP_DONE = true ∧ EdgeTaken s u 12 ∧
    RegsKept s u (A.FRW_SWAP :: sourceRegs 12))) ∧
  (s.clk.present = true → s.get F.FRW_SWAP_STATE = 2 → s.pwr.deferring = true → Gives .swapTimeout s (fun t =>
    t.get F.FRW_SWAP_STATE = 4 ∧ t.get F.FRW_SWAP_ERR = 3 ∧ t.flag F.FRW_SWAP_DONE = true ∧ EdgeTaken s t 12 ∧
    RegsKept s t (A.FRW_SWAP :: sourceRegs 12))) ∧
  (s.clk.present = false ∨ s.get F.FRW_SWAP_STATE ≠ 2 → Gives .swapTimeout s (fun t => t = s))

/-- Furrow's two-register and one-register arithmetic. Each instruction reads its sources as they stand before its bundle,
writes its result to RD (s0 discards it) and changes no other register; ADDS, SUBS and ABS clamp and set SATF when they
clamp; the one-source forms take RS2 = 0. A word with E = 1 ends its bundle and the pc moves past it; one with E = 0 leaves
the bundle open. CLZ, CTZ and POPC answer the counts that their names say, REV8 reverses the bytes. Rests on
spec/11_furrow_scalar_and_control.md. -/
def Obligations.FurrowRegisterAlu : Prop :=
  (∀ (s : State) (i : RForm), ∀ e ∈ ([(.add, fun a b => a + b), (.sub, fun a b => a - b), (.and, fun a b => a &&& b),
      (.or, fun a b => a ||| b), (.xor, fun a b => a ^^^ b), (.andn, fun a b => a &&& ~~~b), (.orn, fun a b => a ||| ~~~b),
      (.sll, fun a b => a <<< (b.toNat % 32)), (.srl, fun a b => a >>> (b.toNat % 32)),
      (.sra, fun a b => a.sshiftRight (b.toNat % 32)),
      (.ror, fun a b => (a >>> (b.toNat % 32)) ||| (a <<< (32 - b.toNat % 32))),
      (.slt, fun a b => if a.toInt < b.toInt then 1 else 0), (.sltu, fun a b => if a.toNat < b.toNat then 1 else 0),
      (.min, fun a b => if a.toInt ≤ b.toInt then a else b), (.max, fun a b => if a.toInt ≤ b.toInt then b else a),
      (.minu, fun a b => if a.toNat ≤ b.toNat then a else b), (.maxu, fun a b => if a.toNat ≤ b.toNat then b else a)] :
      List ((RForm → Instr) × (Word → Word → Word))),
    Retires (e.1 i) s i.c i.e 0 [regS i.rd.toNat] ((s.core i.c).regs.setS i.rd (e.2 ((beforeOf s i.c).sv i.rs1) ((beforeOf s i.c).sv i.rs2)))) ∧
  (∀ (s : State) (i : RForm), ∀ e ∈ ([(.adds, fun a b => a + b), (.subs, fun a b => a - b)] :
      List ((RForm → Instr) × (Int → Int → Int))), ∀ v : Int, v = e.2 ((beforeOf s i.c).sv i.rs1).toInt ((beforeOf s i.c).sv i.rs2).toInt →
    Retires (e.1 i) s i.c i.e 0 [regS i.rd.toNat] (((s.core i.c).regs.setS i.rd
      (BitVec.ofInt 32 (if 2 ^ 31 ≤ v then 2 ^ 31 - 1 else if v < -2 ^ 31 then -2 ^ 31 else v))).flags
        (decide (2 ^ 31 ≤ v) || decide (v < -2 ^ 31)) false)) ∧
  (∀ (s : State) (i : RForm), i.rs2 = 0 → Retires (.abs i) s i.c i.e 0 [regS i.rd.toNat] (((s.core i.c).regs.setS i.rd
    (if (beforeOf s i.c).sv i.rs1 = 0x80000000 then 0x7FFFFFFF else
      if ((beforeOf s i.c).sv i.rs1).toInt < 0 then -((beforeOf s i.c).sv i.rs1) else (beforeOf s i.c).sv i.rs1)).flags
        (decide ((beforeOf s i.c).sv i.rs1 = 0x80000000)) false)) ∧
  (∀ (s : State) (i : RForm), i.rs2 = 0 → ∀ e ∈ ([(.clz, clzW), (.ctz, ctzW), (.popc, popW), (.sextb, fun a => (a.extractLsb' 0 8).signExtend 32),
      (.sexth, fun a => (a.extractLsb' 0 16).signExtend 32), (.zexth, fun a => a &&& 0xFFFF), (.rev8, rev8W)] :
      List ((RForm → Instr) × (Word → Word))),
    Retires (e.1 i) s i.c i.e 0 [regS i.rd.toNat] ((s.core i.c).regs.setS i.rd (e.2 ((beforeOf s i.c).sv i.rs1)))) ∧
  (∀ a : Word, (clzW a).toNat ≤ 32 ∧ a.toNat < 2 ^ (32 - (clzW a).toNat) ∧ (clzW a = 32 ∨ 2 ^ (31 - (clzW a).toNat) ≤ a.toNat) ∧
    (a = 0 → ctzW a = 32) ∧ (a ≠ 0 → a.toNat % 2 ^ (ctzW a).toNat = 0 ∧ bit a.toNat (ctzW a).toNat = true) ∧
    (popW a).toNat = sumN ((upto 32).map (fun k => b2n (bit a.toNat k))) ∧
    (∀ k < 4, bits (rev8W a).toNat (8 * k) 8 = bits a.toNat (24 - 8 * k) 8))

/-- Furrow's arithmetic with an immediate. ADDI and the signed compare take the immediate sign-extended, ANDI, ORI, XORI,
SHORI and the unsigned compare zero-extended; the shifts take its low five bits and need bits 12:7 zero. Each reads RS1 as
it stands before the bundle, writes RD (s0 discards it) and changes no other register. Rests on
spec/11_furrow_scalar_and_control.md. -/
def Obligations.FurrowImmediateAlu : Prop := ∀ (s : State) (i : IForm),
  (∀ e ∈ ([(.addi, fun a => a + i.imm.signExtend 32), (.andi, fun a => a &&& i.imm.zeroExtend 32), (.ori, fun a => a ||| i.imm.zeroExtend 32),
      (.xori, fun a => a ^^^ i.imm.zeroExtend 32), (.shori, fun a => (a <<< 13) ||| i.imm.zeroExtend 32),
      (.slti, fun a => if a.toInt < i.imm.toInt then 1 else 0), (.sltiu, fun a => if a.toNat < i.imm.toNat then 1 else 0)] :
      List ((IForm → Instr) × (Word → Word))),
    Retires (e.1 i) s i.c i.e 0 [regS i.rd.toNat] ((s.core i.c).regs.setS i.rd (e.2 ((beforeOf s i.c).sv i.rs1)))) ∧
  (i.imm.toNat < 128 → ∀ e ∈ ([(.slli, fun a => a <<< (i.imm.toNat % 32)), (.srli, fun a => a >>> (i.imm.toNat % 32)),
      (.srai, fun a => a.sshiftRight (i.imm.toNat % 32)),
      (.rori, fun a => (a >>> (i.imm.toNat % 32)) ||| (a <<< (32 - i.imm.toNat % 32)))] : List ((IForm → Instr) × (Word → Word))),
    Retires (e.1 i) s i.c i.e 0 [regS i.rd.toNat] ((s.core i.c).regs.setS i.rd (e.2 ((beforeOf s i.c).sv i.rs1))))

/-- Furrow's compares, predicate logic, select and predicate moves. A compare of two registers, or of a register with an
immediate, writes its truth to predicate RD below 8 (p0 discards it); predicate logic combines two predicates. SEL takes
RS1 where the predicate that FUNC names is 1 and RS2 otherwise. MFP reads the predicates, MTP writes p1 to p7 and leaves p0
at 1. No other register changes. Rests on spec/11_furrow_scalar_and_control.md. -/
def Obligations.FurrowPredicates : Prop := ∀ s : State,
  (∀ i : RForm, i.rd.toNat < 8 → ∀ e ∈ ([(.cmpEq, fun a b => decide (a = b)), (.cmpNe, fun a b => decide (a ≠ b)),
      (.cmpLt, fun a b => decide (a.toInt < b.toInt)), (.cmpGe, fun a b => decide (b.toInt ≤ a.toInt)),
      (.cmpLtu, fun a b => decide (a.toNat < b.toNat)), (.cmpGeu, fun a b => decide (b.toNat ≤ a.toNat))] :
      List ((RForm → Instr) × (Word → Word → Bool))),
    Retires (e.1 i) s i.c i.e 0 [regP i.rd.toNat] ((s.core i.c).regs.setP i.rd (e.2 ((beforeOf s i.c).sv i.rs1) ((beforeOf s i.c).sv i.rs2)))) ∧
  (∀ i : IForm, i.rd.toNat < 8 → ∀ e ∈ ([(.cmpiEq, fun a => decide (a = i.imm.signExtend 32)), (.cmpiNe, fun a => decide (a ≠ i.imm.signExtend 32)),
      (.cmpiLt, fun a => decide (a.toInt < i.imm.toInt)), (.cmpiGe, fun a => decide (i.imm.toInt ≤ a.toInt)),
      (.cmpiLtu, fun a => decide (a.toNat < i.imm.toNat)), (.cmpiGeu, fun a => decide (i.imm.toNat ≤ a.toNat))] :
      List ((IForm → Instr) × (Word → Bool))),
    Retires (e.1 i) s i.c i.e 0 [regP i.rd.toNat] ((s.core i.c).regs.setP i.rd (e.2 ((beforeOf s i.c).sv i.rs1)))) ∧
  (∀ i : RForm, i.rd.toNat < 8 → i.rs1.toNat < 8 → i.rs2.toNat < 8 → ∀ e ∈ ([(.pand, fun a b => a && b), (.por, fun a b => a || b),
      (.pxor, fun a b => xor a b), (.pandn, fun a b => a && !b), (.porn, fun a b => a || !b)] : List ((RForm → Instr) × (Bool → Bool → Bool))),
    Retires (e.1 i) s i.c i.e 0 [regP i.rd.toNat] ((s.core i.c).regs.setP i.rd (e.2 ((beforeOf s i.c).pv i.rs1.toNat) ((beforeOf s i.c).pv i.rs2.toNat)))) ∧
  (∀ (i : RForm) (f : BitVec 8), f.toNat < 8 → Retires (.sel i f) s i.c i.e 0 [regS i.rd.toNat] ((s.core i.c).regs.setS i.rd
    (if (beforeOf s i.c).pv f.toNat then (beforeOf s i.c).sv i.rs1 else (beforeOf s i.c).sv i.rs2))) ∧
  (∀ i : RForm, i.rs1 = 0 → i.rs2 = 0 → Retires (.mfp i) s i.c i.e 0 [regS i.rd.toNat]
    ((s.core i.c).regs.setS i.rd ((beforeOf s i.c).p.zeroExtend 32))) ∧
  (∀ i : RForm, i.rd = 0 → i.rs2 = 0 → Retires (.mtp i) s i.c i.e 0 [73, 74, 75, 76, 77, 78, 79]
    { (s.core i.c).regs with p := ((beforeOf s i.c).sv i.rs1).extractLsb' 0 8 ||| 1 })

/-- Furrow-S multiply-accumulates and the loop-register moves. On Furrow-S, SMAC and SMSU add or subtract the product of
two chosen halves to ac0 under the accumulator rule and set ACCOV when it saturates; SCLR clears ac0, SACX narrows it into
RD and sets SATF when it clamps, SACSET sets it from RS1 scaled by FRAC. MFLP reads the loop register that FUNC names, MTLP
writes it with the low two bits of an address ignored. Nothing else changes. Rests on spec/11_furrow_scalar_and_control.md. -/
def Obligations.FurrowAccumulatorAndLoops : Prop := ∀ (s : State) (i : RForm),
  (∀ (x y : Bool), 4 ≤ i.c.val → i.rd = 0 → ∀ e ∈ ([(.smac i x y, 1), (.smsu i x y, -1)] : List (Instr × Int)), ∀ v : Int × Bool,
    v = accF (beforeOf s i.c).fmNow (ac0 (beforeOf s i.c) +
      e.2 * (halfOf ((beforeOf s i.c).sv i.rs1) x * halfOf ((beforeOf s i.c).sv i.rs2) y)) →
    Retires e.1 s i.c i.e 0 [regAc 0] ((ac0Put (s.core i.c).regs v.1).flags false v.2)) ∧
  (4 ≤ i.c.val → i.rd = 0 → i.rs1 = 0 → i.rs2 = 0 → Retires (.sclr i) s i.c i.e 0 [regAc 0] (ac0Put (s.core i.c).regs 0)) ∧
  (4 ≤ i.c.val → i.rs1 = 0 → i.rs2 = 0 → ∀ v : Nat × Bool, v = narrowF (beforeOf s i.c).fmNow 32 (ac0 (beforeOf s i.c)) →
    Retires (.sacx i) s i.c i.e 0 [regS i.rd.toNat] (((s.core i.c).regs.setS i.rd (BitVec.ofNat 32 v.1)).flags v.2 false)) ∧
  (4 ≤ i.c.val → i.rd = 0 → i.rs2 = 0 → Retires (.sacset i) s i.c i.e 0 [regAc 0]
    (ac0Put (s.core i.c).regs (((beforeOf s i.c).sv i.rs1).toInt * 2 ^ fmFrac (beforeOf s i.c).fmNow))) ∧
  (∀ f : BitVec 8, f.toNat < 6 → i.rs1 = 0 → i.rs2 = 0 → Retires (.mflp i f) s i.c i.e 0 [regS i.rd.toNat]
    ((s.core i.c).regs.setS i.rd (loopReg (beforeOf s i.c) f.toNat))) ∧
  (∀ (f : BitVec 8) (r : CoreRegs), f.toNat < 6 → i.rd = 0 → i.rs2 = 0 → r = loopRegPut (s.core i.c).regs f.toNat ((beforeOf s i.c).sv i.rs1) →
    loopAt r (s.core i.c).pc 0 = false → loopAt r (s.core i.c).pc 1 = false → Retires (.mtlp i f) s i.c i.e 0 [regL f.toNat] r) ∧
  (∀ (r : CoreRegs) (v : Word), r.lc.length = 2 → r.lb.length = 2 → r.le.length = 2 → ∀ f < 6,
    loopReg (loopRegPut r f v) f = (if f % 3 = 0 then v else v &&& 0xFFFFFFFC) ∧
    (∀ g < 6, g ≠ f → loopReg (loopRegPut r f v) g = loopReg r g))

/-- Furrow's branches, calls, delay slots and hardware loops. A transfer that begins and ends its bundle leaves the core at
the bundle after it, its delay slot, with the transfer held: taken always for BR, CALL and JALR, on its condition for the
others, to the pc plus four times the signed offset or, for JALR, to RS1 with its low bits cleared; CALL writes s31 and
JALR writes RD with the address past the delay slot. The bundle in the delay slot of a taken transfer then goes on at the
target. LOOP sets the count, at least 1, the first and the last bundle of the loop. A bundle that ends a loop with a count
above 1 goes back to the first bundle with the count one less. Rests on spec/11_furrow_scalar_and_control.md. -/
def Obligations.FurrowTransfers : Prop := ∀ s : State,
  (∀ (c : Fin 6) (x : Instr) (taken : Bool) (target : Nat) (ws : List Nat) (r : CoreRegs),
    (s.core c).bun = none → TakesWord s c 0 ws → PlainEnd s c →
    ((∃ i : BForm, i.c = c ∧ i.e = true ∧ x = .br i ∧ taken = true ∧ ws = [] ∧ r = (s.core c).regs ∧
        (target : Int) = (((s.core c).pc : Int) + 4 * i.offs.toInt) % 2 ^ 32) ∨
      (∃ (i : BForm) (n : Fin 3), i.c = c ∧ i.e = true ∧ x = .call i 0 n ∧ taken = true ∧ ws = [regS 31] ∧
        r = (s.core c).regs.setS 31 (BitVec.ofNat 32 ((s.core c).pc + 4 + 4 * (n.val + 1))) ∧
        (target : Int) = (((s.core c).pc : Int) + 4 * i.offs.toInt) % 2 ^ 32) ∨
      (∃ (i : RForm) (n : Fin 3), i.c = c ∧ i.e = true ∧ x = .jalr i 0 0 n ∧ i.rs2 = 0 ∧ (i.rd ≠ i.rs1 ∨ i.rd = 0) ∧ taken = true ∧
        ws = [regS i.rd.toNat] ∧ r = (s.core c).regs.setS i.rd (BitVec.ofNat 32 ((s.core c).pc + 4 + 4 * (n.val + 1))) ∧
        target = ((s.core c).regs.sv i.rs1).toNat / 4 * 4) ∨
      (∃ i : IForm, i.c = c ∧ i.e = true ∧ i.rd = 0 ∧ ws = [] ∧ r = (s.core c).regs ∧
        (target : Int) = (((s.core c).pc : Int) + 4 * i.imm.toInt) % 2 ^ 32 ∧
        ((x, taken) ∈ [(Instr.bz i, decide (((s.core c).regs.sv i.rs1).toInt = 0)), (.bnz i, decide (((s.core c).regs.sv i.rs1).toInt ≠ 0)),
            (.bltz i, decide (((s.core c).regs.sv i.rs1).toInt < 0)), (.bgez i, decide (0 ≤ ((s.core c).regs.sv i.rs1).toInt)),
            (.bgtz i, decide (0 < ((s.core c).regs.sv i.rs1).toInt)), (.blez i, decide (((s.core c).regs.sv i.rs1).toInt ≤ 0))] ∨
          (i.rs1.toNat < 8 ∧ (x, taken) ∈ [(Instr.bp i, (s.core c).regs.pv i.rs1.toNat), (.bnp i, !(s.core c).regs.pv i.rs1.toNat)])))) →
    Gives x s (fun t => t = s.setCore c ((s.core c).turned taken target r))) ∧
  (∀ (i : RForm) (d : Transfer), TakesWord s i.c 0 [regS i.rd.toNat] → i.e = true → (s.core i.c).slot = some d → (s.core i.c).bun = none →
    loopAt (s.core i.c).regs (s.core i.c).pc 0 = false → loopAt (s.core i.c).regs (s.core i.c).pc 1 = false → Calm s i.c →
    Gives (.add i) s (fun t => t = s.setCore i.c { (s.core i.c).past ((s.core i.c).regs.setS i.rd ((s.core i.c).regs.sv i.rs1 + (s.core i.c).regs.sv i.rs2)) with slot := none, pc := if d.taken then d.target else ((s.core i.c).pc + 4) % 2 ^ 32 })) ∧
  (∀ (i : IForm) (k : Fin 2) (r : CoreRegs), TakesWord s i.c 0 [regL (3 * k), regL (3 * k + 1), regL (3 * k + 2)] → i.e = true → PlainEnd s i.c →
    (s.core i.c).bun = none → i.rd.toNat = k.val → 1 ≤ i.imm.toNat → r = (s.core i.c).regs → r.lc.length = 2 → r.lb.length = 2 → r.le.length = 2 →
    (s.core i.c).pc % 4 = 0 → Gives (.loop i 0) s (fun t =>
      t = s.setCore i.c ((s.core i.c).past { r with lc := setNth r.lc k (if r.sv i.rs1 = 0 then 1 else r.sv i.rs1), lb := setNth r.lb k (BitVec.ofNat 32 ((s.core i.c).pc + 4)), le := setNth r.le k (BitVec.ofNat 32 ((s.core i.c).pc + 4 * i.imm.toNat)) }))) ∧
  (∀ (i : RForm) (r : CoreRegs) (n : Word), TakesWord s i.c 0 [regS i.rd.toNat] → i.e = true → (s.core i.c).bun = none →
    (s.core i.c).slot = none → r = (s.core i.c).regs → loopAt r (s.core i.c).pc 1 = true → n = nth r.lc 1 0 → r.lc.length = 2 → 1 < n.toNat → Calm s i.c →
    Gives (.add i) s (fun t => t = s.setCore i.c { (s.core i.c).past { r.setS i.rd (r.sv i.rs1 + r.sv i.rs2) with lc := setNth r.lc 1 (n - 1) } with pc := (nth r.lb 1 0).toNat })) ∧
  (∀ (i : RForm) (r : CoreRegs), TakesWord s i.c 0 [regS i.rd.toNat] → i.e = true → (s.core i.c).bun = none → (s.core i.c).slot = none →
    r = (s.core i.c).regs → loopAt r (s.core i.c).pc 1 = true → loopAt r (s.core i.c).pc 0 = false → (nth r.lc 1 0).toNat = 1 → Calm s i.c →
    Gives (.add i) s (fun t => t = s.setCore i.c ((s.core i.c).past { r.setS i.rd (r.sv i.rs1 + r.sv i.rs2) with lc := setNth r.lc 1 0 })))

/-- Furrow's lane-by-lane vector arithmetic, shifts, compares and logic. On Furrow-F, with q registers below 16 and FUNC in
its range, each instruction writes every 16-bit or 32-bit lane of its destination from the lanes of its sources as they
stand before the bundle: wrapping or clamping sums and differences, the smaller and the greater, clamped absolute values,
shifts by a constant, all ones where a compare holds; SATF sets where a lane clamps, and no other register changes. The
whole-register logic works on 128 bits, VBSL selects by the destination's own bits. Rests on
spec/12_furrow_vector_memory_system.md. -/
def Obligations.FurrowVectorLanes : Prop := ∀ (s : State) (i : RForm) (f : BitVec 8) (w : Bool) (a b : BitVec 128), i.c.val < 4 →
  i.rd.toNat < 16 → i.rs1.toNat < 16 → a = (beforeOf s i.c).qv i.rs1 → b = (beforeOf s i.c).qv i.rs2 → w = bit f.toNat 0 →
  (i.rs2.toNat < 16 → f.toNat < 2 → ∀ e ∈ ([(.vadd, fun x y => x + y), (.vsub, fun x y => x - y)] :
      List ((RForm → BitVec 8 → Instr) × (Int → Int → Int))), ∀ q : BitVec 128,
      (∀ k < laneCount w, laneU w q k = ofSigned (laneBits w) (e.2 (laneS w a k) (laneS w b k))) →
      Retires (e.1 i f) s i.c i.e 1 [regQ i.rd.toNat] ((s.core i.c).regs.setQ i.rd q)) ∧
  (i.rs2.toNat < 16 → f.toNat < 2 → ∀ e ∈ ([(.vadds, fun x y => x + y), (.vsubs, fun x y => x - y)] :
      List ((RForm → BitVec 8 → Instr) × (Int → Int → Int))), ∀ q : BitVec 128,
      (∀ k < laneCount w, laneS w q k = satS (laneBits w) (e.2 (laneS w a k) (laneS w b k))) →
      Retires (e.1 i f) s i.c i.e 1 [regQ i.rd.toNat] (((s.core i.c).regs.setQ i.rd q).flags
        ((upto (laneCount w)).any (fun k => !fitsS (laneBits w) (e.2 (laneS w a k) (laneS w b k)))) false)) ∧
  (i.rs2.toNat < 16 → f.toNat < 2 → ∀ e ∈ ([(.vmin, fun x y => if x < y then x else y), (.vmax, fun x y => if x < y then y else x)] :
      List ((RForm → BitVec 8 → Instr) × (Int → Int → Int))), ∀ q : BitVec 128,
      (∀ k < laneCount w, laneS w q k = e.2 (laneS w a k) (laneS w b k)) →
      Retires (e.1 i f) s i.c i.e 1 [regQ i.rd.toNat] ((s.core i.c).regs.setQ i.rd q)) ∧
  (i.rs2 = 0 → f.toNat < 2 → ∀ q : BitVec 128, (∀ k < laneCount w, laneS w q k = satS (laneBits w) (laneS w a k).natAbs) →
      Retires (.vabs i f) s i.c i.e 1 [regQ i.rd.toNat] (((s.core i.c).regs.setQ i.rd q).flags
        ((upto (laneCount w)).any (fun k => !fitsS (laneBits w) (laneS w a k).natAbs)) false)) ∧
  (i.rs2 = 0 → (w = true ∨ bits f.toNat 3 5 ≤ 15) → ∀ e ∈ ([(.vsll, fun k => laneU w a k * 2 ^ bits f.toNat 3 5 % 2 ^ laneBits w),
      (.vsrl, fun k => laneU w a k / 2 ^ bits f.toNat 3 5),
      (.vsra, fun k => ofSigned (laneBits w) (laneS w a k / 2 ^ bits f.toNat 3 5)),
      (.vsrar, fun k => ofSigned (laneBits w) (rndF (laneS w a k) (bits f.toNat 3 5) (fmRnd (beforeOf s i.c).fmNow)))] :
      List ((RForm → BitVec 8 → Instr) × (Nat → Nat))), ∀ q : BitVec 128, (∀ k < laneCount w, laneU w q k = e.2 k) →
      Retires (e.1 i f) s i.c i.e 1 [regQ i.rd.toNat] ((s.core i.c).regs.setQ i.rd q)) ∧
  (i.rs2.toNat < 16 → f.toNat < 8 → ∀ e ∈ ([(.vcmpEq, fun k => laneU w a k == laneU w b k), (.vcmpLt, fun k => decide (laneS w a k < laneS w b k)),
      (.vcmpLtu, fun k => decide (laneU w a k < laneU w b k)), (.vcmpLe, fun k => decide (laneS w a k ≤ laneS w b k))] :
      List ((RForm → BitVec 8 → Instr) × (Nat → Bool))), ∀ q : BitVec 128,
      (∀ k < laneCount w, laneU w q k = if e.2 k then 2 ^ laneBits w - 1 else 0) →
      Retires (e.1 i f) s i.c i.e 1 [regQ i.rd.toNat] ((s.core i.c).regs.setQ i.rd q)) ∧
  (i.rs2.toNat < 16 → ∀ e ∈ ([(.vand, a &&& b), (.vor, a ||| b), (.vxor, a ^^^ b), (.vandn, a &&& ~~~b)] : List ((RForm → Instr) × BitVec 128)),
      Retires (e.1 i) s i.c i.e 1 [regQ i.rd.toNat] ((s.core i.c).regs.setQ i.rd e.2)) ∧
  (i.rs2.toNat < 16 → Retires (.vbsl i 0) s i.c i.e 1 [regQ i.rd.toNat] ((s.core i.c).regs.setQ i.rd
    (((beforeOf s i.c).qv i.rd &&& a) ||| (~~~((beforeOf s i.c).qv i.rd) &&& b))))

/-- Furrow's vector tests, moves, widening and narrowing. VANY tells whether any bit is set and VALL whether every lane is
not 0, into a predicate. VSPLAT copies a scalar to every lane, VGET takes one lane sign-extended, VPUT replaces one lane
and keeps the others, VSLIDE shifts the lanes of two registers, VWIDE sign-extends four 16-bit lanes, VNARR narrows eight
32-bit lanes and clamps them where SAT is 1. No other register changes. Rests on spec/12_furrow_vector_memory_system.md. -/
def Obligations.FurrowVectorMoves : Prop := ∀ (s : State) (i : RForm) (f : BitVec 8) (w : Bool) (a b : BitVec 128), i.c.val < 4 →
  a = (beforeOf s i.c).qv i.rs1 → b = (beforeOf s i.c).qv i.rs2 → w = bit f.toNat 0 →
  (i.rd.toNat < 8 → i.rs1.toNat < 16 → i.rs2 = 0 →
    Retires (.vany i 0) s i.c i.e 1 [regP i.rd.toNat] ((s.core i.c).regs.setP i.rd (decide (a ≠ 0))) ∧
    (f = 2 ∨ f = 3 → Retires (.vall i f) s i.c i.e 1 [regP i.rd.toNat] ((s.core i.c).regs.setP i.rd
      (decide (∀ k < laneCount w, laneU w a k ≠ 0))))) ∧
  (i.rd.toNat < 16 → i.rs2 = 0 → f.toNat < 2 → ∀ q : BitVec 128,
    (∀ k < laneCount w, laneU w q k = ((beforeOf s i.c).sv i.rs1).toNat % 2 ^ laneBits w) →
    Retires (.vsplat i f) s i.c i.e 1 [regQ i.rd.toNat] ((s.core i.c).regs.setQ i.rd q)) ∧
  (i.rs1.toNat < 16 → i.rs2 = 0 → f.toNat < 16 → (w = false ∨ bits f.toNat 1 3 ≤ 3) →
    Retires (.vget i f) s i.c i.e 1 [regS i.rd.toNat] ((s.core i.c).regs.setS i.rd (BitVec.ofInt 32 (laneS w a (bits f.toNat 1 3))))) ∧
  (i.rd.toNat < 16 → i.rs2 = 0 → f.toNat < 16 → (w = false ∨ bits f.toNat 1 3 ≤ 3) → ∀ q : BitVec 128,
    (∀ k < laneCount w, laneU w q k = if k = bits f.toNat 1 3 then ((beforeOf s i.c).sv i.rs1).toNat % 2 ^ laneBits w
      else laneU w ((beforeOf s i.c).qv i.rd) k) →
    Retires (.vput i f) s i.c i.e 1 [regQ i.rd.toNat] ((s.core i.c).regs.setQ i.rd q)) ∧
  (i.rd.toNat < 16 → i.rs1.toNat < 16 → i.rs2.toNat < 16 → f.toNat < 16 → (w = false ∨ bits f.toNat 1 3 ≤ 3) → ∀ q : BitVec 128,
    (∀ k < laneCount w, laneU w q k = if k + bits f.toNat 1 3 < laneCount w then laneU w a (k + bits f.toNat 1 3)
      else laneU w b (k + bits f.toNat 1 3 - laneCount w)) →
    Retires (.vslide i f) s i.c i.e 1 [regQ i.rd.toNat] ((s.core i.c).regs.setQ i.rd q)) ∧
  (i.rd.toNat < 16 → i.rs1.toNat < 16 → i.rs2 = 0 → (f = 0 ∨ f = 2) → ∀ q : BitVec 128,
    (∀ k < 4, laneS true q k = laneS false a (4 * bits f.toNat 1 1 + k)) →
    Retires (.vwide i f) s i.c i.e 1 [regQ i.rd.toNat] ((s.core i.c).regs.setQ i.rd q)) ∧
  (i.rd.toNat < 16 → i.rs1.toNat < 16 → i.rs2.toNat < 16 → bit (beforeOf s i.c).fmNow.toNat 0 = true → ∀ q : BitVec 128,
    (∀ k < 4, laneS false q k = satS 16 (laneS true a k) ∧ laneS false q (4 + k) = satS 16 (laneS true b k)) →
    Retires (.vnarr i 0) s i.c i.e 1 [regQ i.rd.toNat] (((s.core i.c).regs.setQ i.rd q).flags
      ((upto 4).any (fun k => !fitsS 16 (laneS true a k)) || (upto 4).any (fun k => !fitsS 16 (laneS true b k))) false)) ∧
  (i.rd.toNat < 16 → i.rs1.toNat < 16 → i.rs2.toNat < 16 → bit (beforeOf s i.c).fmNow.toNat 0 = false → ∀ q : BitVec 128,
    (∀ k < 4, laneU false q k = laneU true a k % 65536 ∧ laneU false q (4 + k) = laneU true b k % 65536) →
    Retires (.vnarr i 0) s i.c i.e 1 [regQ i.rd.toNat] ((s.core i.c).regs.setQ i.rd q))

/-- Furrow's vector products and accumulator moves. VMUL narrows each lane's product under FMODE. VMAC, VMSU and VMACS add
or subtract, lane by lane, the sum of two products of 16-bit lanes or one product of 24-bit lanes to an accumulator under
the accumulator rule, and set ACCOV where a lane saturates. VCLR clears an accumulator, VACSET loads it from a vector
scaled by FRAC, VACPUT restores and VACGET reads its 56 bits, VACSUM sums its lanes into lane 0, VEXT narrows it into a
vector. No other register changes. Rests on spec/12_furrow_vector_memory_system.md, spec/11_furrow_scalar_and_control.md. -/
def Obligations.FurrowVectorAccumulators : Prop := ∀ (s : State) (i : RForm) (f : BitVec 8) (w : Bool) (a b : BitVec 128) (r : CoreRegs),
  i.c.val < 4 → r = beforeOf s i.c → a = r.qv i.rs1 → b = r.qv i.rs2 → w = bit f.toNat 0 →
  (i.rd.toNat < 16 → i.rs1.toNat < 16 → i.rs2.toNat < 16 → f.toNat < 2 → ∀ (q : BitVec 128) (p : Nat → Int),
    (∀ k, p k = if w then toSigned 24 (laneU true a k) * toSigned 24 (laneU true b k) else laneS false a k * laneS false b k) →
    (∀ k < laneCount w, laneU w q k = (narrowF r.fmNow (laneBits w) (p k)).1) →
    Retires (.vmul i f) s i.c i.e 1 [regQ i.rd.toNat] (((s.core i.c).regs.setQ i.rd q).flags
      ((upto (laneCount w)).any (fun k => (narrowF r.fmNow (laneBits w) (p k)).2)) false)) ∧
  (i.rd.toNat < 4 → i.rs1.toNat < 16 → i.rs2.toNat < 16 → f.toNat < 2 → ∀ e ∈ ([(.vmac, 1), (.vmsu, -1)] : List ((RForm → BitVec 8 → Instr) × Int)),
    ∀ v : Nat → Int × Bool, (∀ k, v k = accF r.fmNow (accLane r i.rd k + e.2 * prodP w a b k)) →
    Retires (e.1 i f) s i.c i.e 1 [regAc i.rd.toNat] (((s.core i.c).regs.setAc i.rd [(v 0).1, (v 1).1, (v 2).1, (v 3).1]).flags false
      ((v 0).2 || (v 1).2 || (v 2).2 || (v 3).2))) ∧
  (i.rd.toNat < 4 → i.rs1.toNat < 16 → f.toNat < 2 → ∀ v : Nat → Int × Bool,
    (∀ k, v k = accF r.fmNow (accLane r i.rd k + prodS w a (r.sv i.rs2) k)) →
    Retires (.vmacs i f) s i.c i.e 1 [regAc i.rd.toNat] (((s.core i.c).regs.setAc i.rd [(v 0).1, (v 1).1, (v 2).1, (v 3).1]).flags false
      ((v 0).2 || (v 1).2 || (v 2).2 || (v 3).2))) ∧
  (i.rd.toNat < 4 → i.rs1 = 0 → i.rs2 = 0 → Retires (.vclr i 0) s i.c i.e 1 [regAc i.rd.toNat] ((s.core i.c).regs.setAc i.rd [0, 0, 0, 0])) ∧
  (i.rd.toNat < 16 → i.rs1.toNat < 4 → f.toNat < 2 → (if w then i.rs2 = 0 else i.rs2.toNat < 4) → ∀ (q : BitVec 128) (v : Nat → Nat × Bool),
    (∀ k, v k = if w then narrowF r.fmNow 32 (accLane r i.rs1 k) else if k < 4 then narrowF r.fmNow 16 (accLane r i.rs1 k)
      else narrowF r.fmNow 16 (accLane r i.rs2 (k - 4))) → (∀ k < laneCount w, laneU w q k = (v k).1) →
    Retires (.vext i f) s i.c i.e 1 [regQ i.rd.toNat] (((s.core i.c).regs.setQ i.rd q).flags ((upto (laneCount w)).any (fun k => (v k).2)) false)) ∧
  (i.rd.toNat < 4 → i.rs1.toNat < 16 → i.rs2 = 0 → Retires (.vacset i 0) s i.c i.e 1 [regAc i.rd.toNat]
    ((s.core i.c).regs.setAc i.rd ((upto 4).map (fun k => laneS true a k * 2 ^ fmFrac r.fmNow)))) ∧
  (i.rd.toNat < 16 → i.rs1.toNat < 4 → i.rs2 = 0 → (f = 0 ∨ f = 2) → ∀ q : BitVec 128,
    (∀ k < 4, laneU true q k = if f = 0 then ofSigned 56 (accLane r i.rs1 k) % 2 ^ 32
      else ofSigned 32 (toSigned 24 (ofSigned 56 (accLane r i.rs1 k) / 2 ^ 32))) →
    Retires (.vacget i f) s i.c i.e 1 [regQ i.rd.toNat] ((s.core i.c).regs.setQ i.rd q)) ∧
  (i.rd.toNat < 4 → i.rs1.toNat < 16 → i.rs2.toNat < 16 → Retires (.vacput i 0) s i.c i.e 1 [regAc i.rd.toNat] ((s.core i.c).regs.setAc i.rd
    ((upto 4).map (fun k => toSigned 56 (laneU true b k % 2 ^ 24 * 2 ^ 32 + laneU true a k))))) ∧
  (i.rd.toNat < 4 → i.rs1.toNat < 4 → i.rs2 = 0 → ∀ v : Int × Bool, v = accF r.fmNow (sumI (r.acv i.rs1)) →
    Retires (.vacsum i 0) s i.c i.e 1 [regAc i.rd.toNat] (((s.core i.c).regs.setAc i.rd [v.1, 0, 0, 0]).flags false v.2))

/-- Furrow's loads from the data memory, the Common and the store buffer. A load in any of its forms, of an aligned address
in the data memory with no store to it waiting, writes its register with the bytes there, least significant first,
sign-extended where its size says so; the .p form also advances its base by the offset times the size, the .x form adds RS2
times the size. Where the youngest store to meet it in the buffer covers it, the bytes come from that store. From the
Common the value is on its way to the register instead. A single-bit error that a load meets is corrected, and SBE of a
Furrow-F core counts it. Nothing else changes. Rests on
spec/12_furrow_vector_memory_system.md, spec/13_furrow_hazards_and_exceptions.md. -/
def Obligations.FurrowLoads : Prop := ∀ (s : State) (c : Fin 6) (rd : BitVec 5) (base off : Word) (x : Instr) (z : Fin 7) (ws : List Nat) (up : CoreRegs → CoreRegs) (a n : Nat) (v : Nat → BitVec 128) (vec : Bool),
  ((∃ i : IForm, i.c = c ∧ i.e = true ∧ i.rd = rd ∧ base = (beforeOf s c).sv i.rs1 ∧ off = i.imm.signExtend 32 ∧ up = id ∧
      ws = [dataReg vec rd] ∧ [Instr.ldb i, .ldbu i, .ldh i, .ldhu i, .ldw i, .ldvl i, .ldv i][z.val]? = some x ∧
      a = (base.toNat + off.toNat * n) % 2 ^ 32) ∨
    (∃ i : IForm, i.c = c ∧ i.e = true ∧ i.rd = rd ∧ base = (beforeOf s c).sv i.rs1 ∧ off = i.imm.signExtend 32 ∧
      (vec = true ∨ i.rd ≠ i.rs1) ∧ up = (fun r => r.setS i.rs1 (BitVec.ofNat 32 (base.toNat + off.toNat * n))) ∧
      ws = [dataReg vec rd, regS i.rs1.toNat] ∧ x = .ldP z i ∧ a = base.toNat) ∨
    (∃ i : RForm, i.c = c ∧ i.e = true ∧ i.rd = rd ∧ base = (beforeOf s c).sv i.rs1 ∧ off = (beforeOf s c).sv i.rs2 ∧ up = id ∧
      ws = [dataReg vec rd] ∧ x = .ldX (BitVec.ofNat 8 z.val) i ∧ a = (base.toNat + off.toNat * n) % 2 ^ 32)) →
  (z.val, n, vec, v) ∈ ([(0, 1, false, fun u => ((BitVec.ofNat 8 u).signExtend 32).setWidth 128), (1, 1, false, fun u => BitVec.ofNat 128 u),
      (2, 2, false, fun u => ((BitVec.ofNat 16 u).signExtend 32).setWidth 128), (3, 2, false, fun u => BitVec.ofNat 128 u),
      (4, 4, false, fun u => BitVec.ofNat 128 u), (5, 8, true, fun u => BitVec.ofNat 128 u), (6, 16, true, fun u => BitVec.ofNat 128 u)] :
      List (Nat × Nat × Bool × (Nat → BitVec 128))) →
  (vec = true → c.val < 4 ∧ rd.toNat < 16) → TakesWord s c 2 ws → PlainEnd s c → a % n = 0 →
  (∀ give : BitVec 128 → CoreRegs → CoreRegs,
    give = (fun u r => if vec then r.setQ rd u else r.setS rd (u.setWidth 32)) →
    DATA_BASE ≤ a → a < DATA_BASE + dataBytes c →
    ((∀ e ∈ (s.core c).buf, a + n ≤ e.1 ∨ e.1 + e.2.length ≤ a) → badIn (nth s.frw.badData c []) (a - DATA_BASE) n = false →
      Gives x s (fun t => t = (softMeet s c 1 (a - DATA_BASE) n).setCore c ((s.core c).past (up (give (v (leOfBytes (memRead (s.data c) (a - DATA_BASE) n))) (s.core c).regs))))) ∧
    (∀ (l : List (Nat × List Nat)) (e : Nat × List Nat), (s.core c).buf = l ++ [e] → e.1 ≤ a → a + n ≤ e.1 + e.2.length →
      Gives x s (fun t => t = s.setCore c ((s.core c).past (up (give (v (leOfBytes ((e.2.drop (a - e.1)).take n))) (s.core c).regs)))))) ∧
  (c.val < 4 → COMMON_BASE ≤ a → a < COMMON_BASE + commonBytes → (s.core c).buf = [] → badIn s.frw.badCommon (a - COMMON_BASE) n = false →
    Gives x s (fun t => t = (softMeet s c 2 (a - COMMON_BASE) n).setCore c { (s.core c).past (up (s.core c).regs) with ret := [(dataReg vec rd, v (leOfBytes (memRead s.frw.common (a - COMMON_BASE) n)))] }))

/-- Furrow's stores enter the store buffer, and no memory changes yet. A store in any of its forms, to an aligned address
in the data memory or the Common, puts its register's bytes at the end of the core's store buffer, least significant first;
the .p form advances its base by the offset times the size, the .x form adds RS2 times the size. With fewer than four
stores in the buffer nothing else changes, so every byte of every memory reads as before; a full buffer first drains its
oldest store. Rests on spec/12_furrow_vector_memory_system.md, spec/13_furrow_hazards_and_exceptions.md. -/
def Obligations.FurrowStores : Prop := ∀ (s : State) (c : Fin 6) (rd : BitVec 5) (base off : Word) (x : Instr) (z : Fin 5) (ws : List Nat) (up : CoreRegs → CoreRegs) (a n : Nat) (vec : Bool) (bs : List Nat),
  ((∃ i : IForm, i.c = c ∧ i.e = true ∧ i.rd = rd ∧ base = (beforeOf s c).sv i.rs1 ∧ off = i.imm.signExtend 32 ∧ up = id ∧ ws = [] ∧
      [Instr.stb i, .sth i, .stw i, .stvl i, .stv i][z.val]? = some x ∧ a = (base.toNat + off.toNat * n) % 2 ^ 32) ∨
    (∃ i : IForm, i.c = c ∧ i.e = true ∧ i.rd = rd ∧ base = (beforeOf s c).sv i.rs1 ∧ off = i.imm.signExtend 32 ∧
      up = (fun r => r.setS i.rs1 (BitVec.ofNat 32 (base.toNat + off.toNat * n))) ∧ ws = [regS i.rs1.toNat] ∧ x = .stP z i ∧ a = base.toNat) ∨
    (∃ i : RForm, i.c = c ∧ i.e = true ∧ i.rd = rd ∧ base = (beforeOf s c).sv i.rs1 ∧ off = (beforeOf s c).sv i.rs2 ∧ up = id ∧ ws = [] ∧
      x = .stX (BitVec.ofNat 8 (nth [0, 2, 4, 5, 6] z.val 0)) i ∧ a = (base.toNat + off.toNat * n) % 2 ^ 32)) →
  (z.val, n, vec) ∈ [(0, 1, false), (1, 2, false), (2, 4, false), (3, 8, true), (4, 16, true)] →
  (vec = true → c.val < 4 ∧ rd.toNat < 16) → TakesWord s c 2 ws → PlainEnd s c → a % n = 0 →
  bs = bytesOfLe n (if vec then ((beforeOf s c).qv rd).toNat else ((beforeOf s c).sv rd).toNat) →
  (DATA_BASE ≤ a ∧ a < DATA_BASE + dataBytes c) ∨ (c.val < 4 ∧ COMMON_BASE ≤ a ∧ a < COMMON_BASE + commonBytes) →
  ((s.core c).buf.length < 4 → Gives x s (fun t =>
    t = s.setCore c { (s.core c).past (up (s.core c).regs) with buf := (s.core c).buf ++ [(a, bs)] })) ∧
  (∀ (e : Nat × List Nat) (l : List (Nat × List Nat)), (s.core c).buf = e :: l → l.length = 3 → Gives x s (fun t =>
    (t.core c).buf = l ++ [(a, bs)] ∧ (t.core c).pc = ((s.core c).pc + 4 * ((bundleOf (s.core c)).words + 1)) % 2 ^ 32 ∧
      (t.core c).regs = ((s.core c).past (up (s.core c).regs)).regs ∧ t.frw.prog = s.frw.prog ∧
      t = { s with regs := t.regs, frw := t.frw } ∧ RegsKept s t [A.FRW_COREc_ECC c]))

/-- Device words, staging, history windows and refused accesses of a core. A word load of a device register with no side
effect brings the register's value on its way to RD. A word store to a checked register by a Furrow-F core with room in its
staging set joins the set and STAGED counts it; the register itself does not change yet. A load of the history window with
the mitten shut is refused: the refusal is counted and exception 7 is taken. A misaligned word access takes exception 3 and
one outside the map exception 4, with the address in EADDR, and the program region cannot be written. Rests on
spec/10_furrow_cores.md, spec/12_furrow_vector_memory_system.md, spec/13_furrow_hazards_and_exceptions.md. -/
def Obligations.FurrowDeviceAccess : Prop := ∀ (s : State) (i : IForm) (a : Nat), i.e = true → (s.core i.c).bun = none →
  a = (((s.core i.c).regs.sv i.rs1).toNat + (i.imm.signExtend 32).toNat * 4) % 2 ^ 32 →
  (TakesWord s i.c 2 [regS i.rd.toNat] → PlainEnd s i.c → a % 4 = 0 → 0x40000000 ≤ a → a < 0x40400000 → rcWin (a - 0x40000000) = none →
    Gives (.ldw i) s (fun t => t = s.setCore i.c { (s.core i.c).past (s.core i.c).regs with ret := [(regS i.rd.toNat, BitVec.ofNat 128 (deferredView s (a - 0x40000000) (regView s (a - 0x40000000))).toNat)] })) ∧
  (TakesWord s i.c 2 [] → PlainEnd s i.c → i.c.val < 4 → a % 4 = 0 → 0x40000000 ≤ a → a < 0x40400000 → isChecked (a - 0x40000000) = true →
    (nth s.hsp.fw i.c []).length < 256 → s.hsp.fw.length = 5 → Gives (.stw i) s (fun t =>
      nth t.hsp.fw i.c [] = stageAdd (nth s.hsp.fw i.c []) (a - 0x40000000) ((s.core i.c).regs.sv i.rd) ∧
      t.get (F.FRW_FCMTk_STAGED i.c) = (stageAdd (nth s.hsp.fw i.c []) (a - 0x40000000) ((s.core i.c).regs.sv i.rd)).length % 2 ^ (F.FRW_FCMTk_STAGED i.c).width ∧
      t.core i.c = (s.core i.c).past (s.core i.c).regs ∧ RegsKept s t [A.FRW_FCMTk i.c])) ∧
  (CanTrap s i.c →
    (TakesWord s i.c 2 [regS i.rd.toNat] → a % 4 ≠ 0 → Gives (.ldw i) s (fun t =>
      t = causeShown (s.setCore i.c ((s.core i.c).trapped 3 0 a 2 1 (match (s.core i.c).slot with | some d => d.addr | none => (s.core i.c).pc))) i.c 3)) ∧
    (TakesWord s i.c 2 [] → a % 4 ≠ 0 → Gives (.stw i) s (fun t =>
      t = causeShown (s.setCore i.c ((s.core i.c).trapped 3 0 a 2 1 (match (s.core i.c).slot with | some d => d.addr | none => (s.core i.c).pc))) i.c 3)) ∧
    (TakesWord s i.c 2 [] → a % 4 = 0 → a < progLimit s i.c → Gives (.stw i) s (fun t =>
      t = causeShown (s.setCore i.c ((s.core i.c).trapped 4 2 a 2 1 (match (s.core i.c).slot with | some d => d.addr | none => (s.core i.c).pc))) i.c 4)) ∧
    (TakesWord s i.c 2 [regS i.rd.toNat] → a % 4 = 0 → 0x50000000 ≤ a → a < 0x80000000 → Gives (.ldw i) s (fun t =>
      t = causeShown (s.setCore i.c ((s.core i.c).trapped 4 1 a 2 1 (match (s.core i.c).slot with | some d => d.addr | none => (s.core i.c).pc))) i.c 4)) ∧
    (TakesWord s i.c 2 [regS i.rd.toNat] → a % 4 = 0 → i.c.val < 4 → 0x80000000 ≤ a → a < 0x82000000 → mittenOpen s = false →
      Gives (.ldw i) s (fun t => t.get F.SWA_DENY_COUNT = Nat.min (s.get F.SWA_DENY_COUNT + 1) (2 ^ 32 - 1) ∧
        t = causeShown ((mittenDeny s).setCore i.c ((s.core i.c).trapped 7 0 a 2 1 (match (s.core i.c).slot with | some d => d.addr | none => (s.core i.c).pc))) i.c 7)))

/-- Furrow's queue instructions. A pop by the core that consumes the queue takes its oldest entry, or its oldest four,
returns their credits, and brings them on their way to the register; with too few entries it waits: nothing changes. A push
by the core that produces for the queue spends a credit for each entry, which goes in flight; with too few credits it
waits. QOCC brings the number of entries present and takes none. Rests on spec/12_furrow_vector_memory_system.md,
spec/14_queues_credits_admission.md. -/
def Obligations.FurrowQueueInstructions : Prop := ∀ (s : State) (i : IForm) (n : Nat) (q : QueueSt), i.c.val < 4 → i.e = true → i.rs1 = 0 →
  n = i.imm.toNat → s.que.q.length = 64 → queueOn s n = true → q = s.queue n →
  (∀ w l, n < 56 → s.get (F.QUE_Qn_CONS_CORE n) = i.c.val → q.occ = w :: l → TakesWord s i.c 2 [regS i.rd.toNat] → PlainEnd s i.c → Gives (.qpop i) s (fun t =>
    t = (s.setQueue n { q with occ := l, ret := q.ret + 1 }).setCore i.c { (s.core i.c).past (s.core i.c).regs with ret := [(regS i.rd.toNat, BitVec.ofNat 128 (w % 2 ^ 32))] })) ∧
  (∀ w0 w1 w2 w3 l, n < 56 → i.rd.toNat < 16 → s.get (F.QUE_Qn_CONS_CORE n) = i.c.val → q.occ = w0 :: w1 :: w2 :: w3 :: l → TakesWord s i.c 2 [regQ i.rd.toNat] →
    PlainEnd s i.c → Gives (.qpopv i) s (fun t =>
      t = (s.setQueue n { q with occ := l, ret := q.ret + 4 }).setCore i.c { (s.core i.c).past (s.core i.c).regs with ret := [(regQ i.rd.toNat, BitVec.ofNat 128 (w0 % 2 ^ 32 + 2 ^ 32 * (w1 % 2 ^ 32) + 2 ^ 64 * (w2 % 2 ^ 32) + 2 ^ 96 * (w3 % 2 ^ 32)))] })) ∧
  (s.get (F.QUE_Qn_CONS_CORE n) = i.c.val → (s.core i.c).bun = none → (s.core i.c).slot = none →
    (q.occ = [] → TakesWord s i.c 2 [regS i.rd.toNat] → Gives (.qpop i) s (fun t => t = s)) ∧
    (q.occ.length < 4 → i.rd.toNat < 16 → TakesWord s i.c 2 [regQ i.rd.toNat] → Gives (.qpopv i) s (fun t => t = s))) ∧
  (s.get (F.QUE_Qn_PROD_CORE n) = i.c.val → TakesWord s i.c 2 [] → PlainEnd s i.c →
    (1 ≤ q.cred → Gives (.qpush i) s (fun t => t = (s.setQueue n { q with cred := q.cred - 1, infl := q.infl ++ [((beforeOf s i.c).sv i.rd).toNat] }).setCore i.c ((s.core i.c).past (s.core i.c).regs))) ∧
    (4 ≤ q.cred → i.rd.toNat < 16 → Gives (.qpushv i) s (fun t => t = (s.setQueue n { q with cred := q.cred - 4, infl := q.infl ++ (upto 4).map (fun k => laneU true ((beforeOf s i.c).qv i.rd) k) }).setCore i.c ((s.core i.c).past (s.core i.c).regs))) ∧
    (q.cred = 0 → (s.core i.c).bun = none → Gives (.qpush i) s (fun t => t = s)) ∧
    (q.cred < 4 → (s.core i.c).bun = none → i.rd.toNat < 16 → Gives (.qpushv i) s (fun t => t = s))) ∧
  (TakesWord s i.c 2 [regS i.rd.toNat] → PlainEnd s i.c → Gives (.qocc i) s (fun t =>
    t = s.setCore i.c { (s.core i.c).past (s.core i.c).regs with ret := [(regS i.rd.toNat, BitVec.ofNat 128 (q.occ.length % 2 ^ 32))] }))

/-- Furrow's atomics on a word of the Common. On Furrow-F with its store buffer empty an atomic of an aligned word of the
Common brings the word's old value to RD and replaces the word: by RS2, the sum, AND, OR, the greater, the smaller, or by
RS2 where the word equals RD. No other byte of any memory and no other register changes, but for SBE where the word held a
single-bit error. On Furrow-S it is an illegal
instruction. Rests on spec/12_furrow_vector_memory_system.md. -/
def Obligations.FurrowAtomics : Prop := ∀ (s : State) (i : RForm) (a : Nat) (old b d : Word), i.e = true → (s.core i.c).bun = none →
  a = ((s.core i.c).regs.sv i.rs1).toNat → old = memWord s.frw.common (a - COMMON_BASE) → b = (s.core i.c).regs.sv i.rs2 →
  d = (s.core i.c).regs.sv i.rd →
  ∀ e ∈ ([(.amoSwap i, b), (.amoAdd i, old + b), (.amoAnd i, old &&& b), (.amoOr i, old ||| b),
    (.amoMaxu i, if b.toNat ≤ old.toNat then old else b), (.amoMinu i, if old.toNat ≤ b.toNat then old else b),
    (.amoCas i, if old = d then b else old)] : List (Instr × Word)),
  (i.c.val < 4 → TakesWord s i.c 3 [regS i.rd.toNat] → PlainEnd s i.c → (s.core i.c).buf = [] → a % 4 = 0 → COMMON_BASE ≤ a →
    a < COMMON_BASE + commonBytes → badIn s.frw.badCommon (a - COMMON_BASE) 4 = false → Gives e.1 s (fun t =>
      t.core i.c = (s.core i.c).past ((s.core i.c).regs.setS i.rd old) ∧ (∀ c : Fin 6, c ≠ i.c → t.core c = s.core c) ∧
      memWord t.frw.common (a - COMMON_BASE) = e.2 ∧
      (∀ o, (o < a - COMMON_BASE ∨ a - COMMON_BASE + 4 ≤ o) → memGet t.frw.common o = memGet s.frw.common o) ∧
      t = { s with regs := t.regs, frw := { s.frw with core := t.frw.core, common := t.frw.common, badCommon := t.frw.badCommon, soft := t.frw.soft } } ∧
      (softMeet s i.c 2 (a - COMMON_BASE) 4 = s → t.regs = s.regs) ∧ RegsKept s t [A.FRW_COREc_ECC i.c])) ∧
  (4 ≤ i.c.val → TakesWord s i.c 3 [regS i.rd.toNat] → CanTrap s i.c → (s.core i.c).slot = none → Gives e.1 s (fun t =>
    t = s.setCore i.c ((s.core i.c).trapped 1 0 0 3 1 (s.core i.c).pc)))

/-- Furrow's mode and control moves, fences, commits, bells and the end of a job. With nothing waiting in the store buffer:
SETM and MTCR of cr0 write the mode, which the bundle after the shadow bundle is the first to follow; MTCR writes and MFCR
reads the control registers, EADDR and the read-only ones keep their values, and ESTAT written with DS = 0 discards the
replay record. FENCE goes past its bundle. COMMIT with words
staged and none under check submits them with the next number, 1 after 65535, and answers it; while one is under check it
answers 0; an empty set is accepted; that REASON and OBJ read 0 from its submission on is the model's choice (log 42). BELL raises source 120 + n. TEND ends INIT, from whose end the periods count, or the running
job, which is then released no more. Rests on spec/11_furrow_scalar_and_control.md, spec/12_furrow_vector_memory_system.md. -/
def Obligations.FurrowSystem : Prop := ∀ (s : State) (i : RForm), i.e = true → (s.core i.c).bun = none → s.hsp.fw.length = 5 →
  (∀ f : BitVec 8, TakesWord s i.c 3 [] → PlainEnd s i.c → i.rd = 0 → i.rs1 = 0 → i.rs2 = 0 → Gives (.setm i f) s (fun t =>
    t = s.setCore i.c { (s.core i.c).past { (s.core i.c).regs with fmode := f } with shadow := true })) ∧
  (∀ (f : BitVec 8) (v : Word) (r : CoreRegs), TakesWord s i.c 3 [] → PlainEnd s i.c → i.rd = 0 → i.rs2 = 0 → v = (s.core i.c).regs.sv i.rs1 →
    r = (s.core i.c).regs → ∀ e ∈ ([(0, { r with fmode := v.extractLsb' 0 8 }), (1, { r with fstat := v.extractLsb' 0 2 }), (2, { r with epc := v }),
      (4, { r with efmode := v.extractLsb' 0 8 }), (5, r), (6, { r with evec := v }), (7, r), (8, r), (9, r), (10, r)] : List (BitVec 8 × CoreRegs)),
    Gives (.mtcr i e.1) s (fun t => t = s.setCore i.c { (s.core i.c).past e.2 with shadow := decide (e.1 = 0) })) ∧
  (TakesWord s i.c 3 [] → PlainEnd s i.c → i.rd = 0 → i.rs2 = 0 → (s.core i.c).slot = none →
    ((s.core i.c).regs.sv i.rs1).getLsbD 12 = true → Gives (.mtcr i 3) s (fun t =>
      (t.core i.c).regs.estat = (s.core i.c).regs.sv i.rs1 &&& 0xFF03FFFF ∧
      (t.core i.c).replay = (if ((s.core i.c).regs.sv i.rs1).getLsbD 8 then (s.core i.c).replay else none) ∧ (t.core i.c).regs.s = (s.core i.c).regs.s ∧
      (t.core i.c).pc = ((s.core i.c).pc + 4) % 2 ^ 32)) ∧
  (∀ r : CoreRegs, TakesWord s i.c 3 [regS i.rd.toNat] → PlainEnd s i.c → i.rs1 = 0 → i.rs2 = 0 → r = (s.core i.c).regs →
    (∀ e ∈ ([(0, r.fmode.zeroExtend 32), (1, r.fstat.zeroExtend 32), (2, r.epc), (3, r.estat), (4, r.efmode.zeroExtend 32), (5, r.eaddr), (6, r.evec),
      (7, BitVec.ofNat 32 (coreId s i.c)), (9, r.cycHi), (10, BitVec.ofNat 32 (taskReg s i.c))] : List (BitVec 8 × Word)),
      Gives (.mfcr i e.1) s (fun t => t = s.setCore i.c ((s.core i.c).past (r.setS i.rd e.2)))) ∧
    (i.c.val < 4 → Gives (.mfcr i 8) s (fun t => t = s.setCore i.c ((s.core i.c).past ({ r with cycHi := s.rd (A.FRW_COREc_CYC_HI i.c) }.setS i.rd (s.rd (A.FRW_COREc_CYC_LO i.c)))))) ∧
    (∀ n : Nat, 4 ≤ i.c.val → n = nth s.frw.cyc (i.c - 4) 0 → Gives (.mfcr i 8) s (fun t => t = s.setCore i.c ((s.core i.c).past ({ r with cycHi := BitVec.ofNat 32 (n / 2 ^ 32) }.setS i.rd (BitVec.ofNat 32 (n % 2 ^ 32))))))) ∧
  (TakesWord s i.c 3 [] → PlainEnd s i.c → (s.core i.c).buf = [] → i.rd = 0 → i.rs1 = 0 → i.rs2 = 0 →
    Gives (.fence 0 i) s (fun t => t = s.setCore i.c ((s.core i.c).past (s.core i.c).regs)) ∧
    (∀ f : BitVec 8, f.toNat < 8 → i.c.val ≠ SCARE → Gives (.bell f i) s (fun t =>
      t = (s.event (120 + f.toNat)).setCore i.c ((s.core i.c).past (s.core i.c).regs) ∧ EdgeTaken s t (120 + f.toNat)))) ∧
  (TakesWord s i.c 3 [regS i.rd.toNat] → PlainEnd s i.c → (s.core i.c).buf = [] → i.rs1 = 0 → i.rs2 = 0 → i.c.val < 5 →
    (∀ n : Nat, (∀ x ∈ s.hsp.checks, x.origin ≠ coreOrigin i.c) → n = (if s.get (F.FRW_FCMTk_SEQ i.c) = 65535 then 1 else s.get (F.FRW_FCMTk_SEQ i.c) + 1) →
      (nth s.hsp.fw i.c [] ≠ [] → Gives (.commit 0 i) s (fun t =>
        t.core i.c = (s.core i.c).past ((s.core i.c).regs.setS i.rd (BitVec.ofNat 32 n)) ∧ t.get (F.FRW_FCMTk_SEQ i.c) = n ∧
        t.get (F.FRW_FCMTk_RESULT i.c) = 1 ∧ t.get (F.FRW_FCMTk_REASON_REASON i.c) = 0 ∧ t.get (F.FRW_FCMTk_OBJ_OBJ i.c) = 0 ∧ t.hsp.checks = s.hsp.checks ++ [⟨coreOrigin i.c, nth s.hsp.fw i.c []⟩] ∧ nth t.hsp.fw i.c [] = [] ∧
        RegsKept s t [A.FRW_FCMTk i.c, A.FRW_FCMTk_REASON i.c, A.FRW_FCMTk_OBJ i.c])) ∧
      (nth s.hsp.fw i.c [] = [] → Gives (.commit 0 i) s (fun t =>
        t.core i.c = (s.core i.c).past ((s.core i.c).regs.setS i.rd (BitVec.ofNat 32 n)) ∧ t.get (F.FRW_FCMTk_RESULT i.c) = 2 ∧
        t.get (F.FRW_FCMTk_SEQ i.c) = n ∧ t.hsp = s.hsp ∧ RegsKept s t [A.FRW_FCMTk i.c, A.FRW_FCMTk_REASON i.c, A.FRW_FCMTk_OBJ i.c]))) ∧
    ((∃ x ∈ s.hsp.checks, x.origin = coreOrigin i.c) → Gives (.commit 0 i) s (fun t =>
      t = s.setCore i.c ((s.core i.c).past ((s.core i.c).regs.setS i.rd 0))))) ∧
  (TakesWord s i.c 3 [] → PlainEnd s i.c → (s.core i.c).buf = [] → i.rd = 0 → i.rs1 = 0 → i.rs2 = 0 → i.c.val < 4 → coreLive s i.c = true →
    (s.core i.c).stepping = false → s.flag (F.FRW_COREc_CTL_RUN i.c) = true → (s.core i.c).regs.estat.getLsbD 12 = false →
    (s.flag (F.FRW_COREc_ST_INIT i.c) = true → (s.core i.c).jobs = [] → Gives (.tend 0 i) s (fun t =>
      t.flag (F.FRW_COREc_ST_INIT i.c) = false ∧ coreState t i.c = C_IDLE ∧ (t.core i.c).run = none ∧ (t.core i.c).initEnd = s.time.hsck)) ∧
    (∀ j, s.flag (F.FRW_COREc_ST_INIT i.c) = false → (s.core i.c).jobs = [j] → (s.core i.c).run = some j.task → (s.core i.c).heldRel = [] →
      Gives (.tend 0 i) s (fun t => (t.core i.c).jobs = [] ∧ (t.core i.c).run = none ∧ coreState t i.c = C_IDLE)))

/-- Taking a Furrow exception, returning from one, and halting. An illegal encoding, and one of Furrow-F's alone on
Furrow-S, takes exception 1; a bundle that breaks a rule takes exception 2; TRAP takes exception 8 with its number in INFO
and the bundle after it in EPC. Each writes EPC, ESTAT, EADDR and EFMODE, cancels its bundle's effects and goes on at the
vector for its code with the exception level set. In a handler the core faults instead. ERET goes back to EPC with the mode
in EFMODE and the level clear, or replays the transfer of a delay slot; outside a handler it is illegal. HALT halts a
Furrow-F core in SERVICE and the sentry core outside SENTRY. Rests on spec/13_furrow_hazards_and_exceptions.md,
spec/11_furrow_scalar_and_control.md. -/
def Obligations.FurrowExceptions : Prop := ∀ s : State,
  (∀ (i : RForm) (n : Nat) (x : Instr), i.e = true → (s.core i.c).bun = none → (s.core i.c).slot = none → CanTrap s i.c →
    ((i.rs2 ≠ 0 ∧ n = 0 ∧ x = .abs i) ∨ (8 ≤ i.rd.toNat ∧ n = 0 ∧ x = .cmpEq i) ∨ (∃ f : BitVec 8, 8 ≤ f.toNat ∧ n = 0 ∧ x = .sel i f) ∨
      (i.c.val < 4 ∧ n = 0 ∧ x = .sclr i) ∨ (4 ≤ i.c.val ∧ n = 1 ∧ x = .vand i) ∨ (∃ f : BitVec 8, 2 ≤ f.toNat ∧ n = 1 ∧ x = .vadd i f) ∨
      (i.rd ≠ 0 ∧ n = 3 ∧ x = .fence 0 i) ∨ (4 ≤ i.c.val ∧ n = 3 ∧ x = .tend 0 i) ∨
      ((s.core i.c).regs.estat.getLsbD 12 = false ∧ i.rd = 0 ∧ i.rs1 = 0 ∧ i.rs2 = 0 ∧ n = 3 ∧ x = .eret 0 i)) →
    TakesWord s i.c n [] → Gives x s (fun t =>
      t = causeShown (s.setCore i.c ((s.core i.c).trapped 1 0 0 n 1 (s.core i.c).pc)) i.c 1)) ∧
  (∀ (i : RForm) (b : Bundle) (k : CoreSt), i.e = true → i.c.val < 4 → k = s.core i.c → k.bun = some b → k.slot = none → k.ret = [] →
    canIssue s i.c = true → i.c.val < s.frw.core.length → fetchFault s i.c (k.pc + 4 * b.words) = none → progMeet s i.c (k.pc + 4 * b.words) 4 = s → 1 ≤ b.words → b.words ≤ 2 → b.ill = none →
    CanTrap s i.c → Gives (.add i) s (fun t => t = causeShown (s.setCore i.c (k.trapped 2 0 0 0 (b.words + 1) k.pc)) i.c 2)) ∧
  (∀ (i : RForm) (f : BitVec 8), i.e = true → (s.core i.c).bun = none → (s.core i.c).slot = none → CanTrap s i.c → i.rd = 0 → i.rs1 = 0 → i.rs2 = 0 →
    TakesWord s i.c 3 [] → Gives (.trap f i) s (fun t =>
      t = causeShown (s.setCore i.c ((s.core i.c).trapped 8 f.toNat 0 3 1 (((s.core i.c).pc + 4) % 2 ^ 32))) i.c 8)) ∧
  (∀ (i : RForm) (f : BitVec 8), i.e = true → (s.core i.c).bun = none → (s.core i.c).regs.estat.getLsbD 12 = true → i.rd = 0 → i.rs1 = 0 → i.rs2 = 0 →
    TakesWord s i.c 3 [] → i.c.val < 4 → (∀ j < 16, depends s i.c j = false) → Gives (.trap f i) s (fun t => coreState t i.c = C_FAULT ∧
      t.get (F.FRW_COREc_ST_CAUSE i.c) = (0x80 + (s.core i.c).regs.estat.toNat % 256) % 256 ∧ (t.core i.c).jobs = [] ∧ EdgeTaken s t 11)) ∧
  (∀ (i : RForm) (k : CoreSt), i.e = true → k = s.core i.c → k.bun = none → k.slot = none → k.regs.estat.getLsbD 12 = true →
    i.rd = 0 → i.rs1 = 0 → i.rs2 = 0 → TakesWord s i.c 3 [] → Calm s i.c → k.regs.estat.getLsbD 9 = false →
    (k.regs.estat.getLsbD 8 = false → Gives (.eret 0 i) s (fun t =>
      t = s.setCore i.c { k with regs := { k.regs with estat := k.regs.estat &&& ~~~(0x1000 : Word), fmode := k.regs.efmode, fmNow := k.regs.efmode, fmNext := k.regs.efmode }, pc := k.regs.epc.toNat / 4 * 4, replay := none, shadow := false, stepping := false })) ∧
    (∀ d, k.regs.estat.getLsbD 8 = true → k.replay = some d → Gives (.eret 0 i) s (fun t =>
      t = s.setCore i.c { k with regs := { k.regs with estat := k.regs.estat &&& ~~~(0x1000 : Word), fmode := k.regs.efmode, fmNow := k.regs.efmode, fmNext := k.regs.efmode }, pc := d.slot, slot := some d, replay := none, shadow := false, stepping := false }))) ∧
  (∀ i : RForm, i.e = true → (s.core i.c).bun = none → (s.core i.c).slot = none → TakesWord s i.c 3 [] → i.rd = 0 → i.rs1 = 0 → i.rs2 = 0 →
    (i.c.val < 4 → s.pstate = SERVICE → Gives (.halt 0 i) s (fun t => coreState t i.c = C_HALT ∧ t.flag (F.FRW_COREc_CTL_RUN i.c) = false ∧
      (t.core i.c).buf = [] ∧ (t.core i.c).jobs = [])) ∧
    (i.c.val = SENT → s.pstate ≠ SENTRY → Gives (.halt 0 i) s (fun t => coreState t SENT = C_HALT ∧ t.flag F.FRW_SENT_CTL_RUN = false ∧
      (t.core SENT).buf = [])) ∧
    (i.c.val < 4 → s.pstate ≠ SERVICE → (s.core i.c).buf = [] → CanTrap s i.c → Gives (.halt 0 i) s (fun t =>
      t = causeShown (s.setCore i.c ((s.core i.c).trapped 1 0 0 3 1 (s.core i.c).pc)) i.c 1)))

/-- Entries arrive, credits return, the host pops, and an audit fault is shown. The oldest entry in flight becomes the
youngest occupied one and the high-water mark follows; a returning credit joins the credits; a host pop removes the oldest
entries of a host queue and their credits are on their way back. In each the sum of credits, entries and credits under way
stays what it was, and the other queues stand. An entry of a host queue that was empty raises source 58. A queue that is
off, or with nothing in flight or returning, is left alone; without HSCK or in a HOLD no entry arrives and no credit
returns. An audit fault sets AUDERR and names the queue, raises source
59 and is an event of diagnostic 9; where the cores do not run, or outside the states above SENTRY, it is none. Rests on spec/14_queues_credits_admission.md, spec/15_interrupt_controller.md. -/
def Obligations.QueueFabric : Prop := ∀ s : State, s.que.q.length = 64 →
  (∀ (n : Nat) (e : Nat) (l : List Nat), queueOn s n = true → s.coreRuns = true → (s.queue n).infl = e :: l →
    Gives (.entryArrive n) s (fun t => t.queue n = { s.queue n with occ := (s.queue n).occ ++ [e], infl := l } ∧
      (∀ m, m ≠ n → t.queue m = s.queue m) ∧
      (t.queue n).cred + (t.queue n).occ.length + (t.queue n).infl.length + (t.queue n).ret =
        (s.queue n).cred + (s.queue n).occ.length + (s.queue n).infl.length + (s.queue n).ret ∧
      t = { s with regs := t.regs, que := t.que } ∧ RegsKept s t (A.QUE_Qn_HWM n :: sourceRegs 58) ∧
      (56 ≤ n → (s.queue n).occ = [] → t.flag (F.INT_SRCs_PEND 58) = true ∧ t.flag (F.INT_SRCs_LIVE 58) = true) ∧
      (s.get (F.QUE_Qn_HWM_HWM n) < (s.queue n).occ.length + 1 → (s.queue n).occ.length < 2047 →
        t.get (F.QUE_Qn_HWM_HWM n) = (s.queue n).occ.length + 1))) ∧
  (∀ n : Nat, (queueOn s n = false ∨ s.coreRuns = false ∨ (s.queue n).infl = []) → Gives (.entryArrive n) s (fun t => t = s)) ∧
  (∀ n : Nat, queueOn s n = true → s.coreRuns = true → 0 < (s.queue n).ret → Gives (.creditReturn n) s (fun t =>
    t = s.setQueue n { s.queue n with cred := (s.queue n).cred + 1, ret := (s.queue n).ret - 1 } ∧
      (t.queue n).cred + (t.queue n).ret = (s.queue n).cred + (s.queue n).ret)) ∧
  (∀ n : Nat, (queueOn s n = false ∨ s.coreRuns = false ∨ (s.queue n).ret = 0) → Gives (.creditReturn n) s (fun t => t = s)) ∧
  (∀ h k : Nat, h < 8 → queueOn s (56 + h) = true → Gives (.hqPop h k) s (fun t =>
    t.queue (56 + h) = { s.queue (56 + h) with occ := (s.queue (56 + h)).occ.drop k, ret := (s.queue (56 + h)).ret + Nat.min k (s.queue (56 + h)).occ.length } ∧
      (∀ m, m ≠ 56 + h → t.queue m = s.queue m) ∧ t.flag (F.INT_SRCs_LIVE 58) = hqAny t ∧
      t = { s with regs := t.regs, que := t.que } ∧ RegsKept s t (sourceRegs 58))) ∧
  (∀ h k : Nat, 8 ≤ h ∨ queueOn s (56 + h) = false → Gives (.hqPop h k) s (fun t => t = s)) ∧
  (∀ n : Fin 72, s.coreRuns = true → s.awake = true → Gives (.auditFault n) s (fun t => t.flag F.QUE_ST_AUDERR = true ∧
    t.get F.QUE_ST_AUDQ = n.val ∧ EdgeTaken s t 59 ∧ t.saf.lines = s.saf.lines ++ [(9, 1, s.time.ms)] ∧
    t = { s with regs := t.regs, saf := { s.saf with lines := t.saf.lines } } ∧ RegsKept s t (A.QUE_ST :: sourceRegs 59))) ∧
  (∀ n : Fin 72, s.coreRuns = false ∨ s.awake = false → Gives (.auditFault n) s (fun t => t = s))

/-- Edges, delivery in rotation, Fallow timers, claims, clears and doorbells. An edge of a source makes it pending and
counts in its group, coalesced where it was pending already; a reserved number never rises, and in OFF
none does unless the device responds there. With no withdrawn delivery due,
a group whose timer runs delivers nothing; otherwise the one waiting source, or with FALLOW set the highest that has a target, goes
to the first target after the pointer that
enables it and is available, the pointer moves there and the timer starts; with FALLOW 0 every waiting source that has a target is
delivered. A withdrawn delivery is given again though the timer runs, and moves neither pointer nor timer. The end of a timer
clears it and the group decides at that edge. Without HSCK or in a HOLD nothing is decided. A claim takes the highest pending source its
target enables, clears it and counts; a W1C write clears the named pending bits and no others, and counts each. A doorbell write rings the
named bells; in OFF, which test mode belongs to, none arrives. Rests on spec/15_interrupt_controller.md. -/
def Obligations.InterruptDelivery : Prop := ∀ s : State,
  (∀ n : Nat, sourceExists n = true → (s.pstate ≠ OFF ∨ s.pwr.offResp = true) → Gives (.sourceEdge n) s (fun t => OnlyRegs s t ∧ EdgeTaken s t n ∧
    t.flag (F.INT_SRCs_LIVE n) = true ∧ t.get (F.INT_SRCs_DTGT n) = s.get (F.INT_SRCs_DTGT n) ∧
    t.pair (A.INT_Gg_COAL_LO (n / 8)) = (s.pair (A.INT_Gg_COAL_LO (n / 8)) + b2n (intPend s n)) % 2 ^ 64 ∧
    RegsKept s t (sourceRegs n))) ∧
  (∀ n : Nat, (sourceExists n = false ∨ (s.pstate = OFF ∧ s.pwr.offResp = false)) → Gives (.sourceEdge n) s (fun t => t = s)) ∧
  (∀ g n u : Nat, g < 16 → s.clk.present = true → s.clk.phase = .run → s.int.redeliver = [] → s.get (F.INT_Gg_ST_HOLD g) = 0 →
    (groupSources g).filter (intWaiting s) = [n] → intTarget s n = some u → Gives (.delivery g) s (fun t => OnlyRegs s t ∧
      t.get (F.INT_SRCs_DTGT n) = u ∧ t.get (F.INT_Gg_ST_PTR g) = u ∧ t.get (F.INT_Gg_ST_HOLD g) = s.get (F.INT_Gg_CFG_FALLOW g) ∧
      intPend t n = true ∧ RegsKept s t [A.INT_SRCs n, A.INT_Gg_ST g])) ∧
  (∀ g n u : Nat, g < 16 → s.clk.present = true → s.clk.phase = .run → s.int.redeliver = [] → s.get (F.INT_Gg_ST_HOLD g) = 0 →
    s.get (F.INT_Gg_CFG_FALLOW g) ≠ 0 → n ∈ groupSources g → intWaiting s n = true → intTarget s n = some u →
    (∀ m ∈ groupSources g, n < m → intWaiting s m = true → intTarget s m = none) → Gives (.delivery g) s (fun t => OnlyRegs s t ∧
      t.get (F.INT_SRCs_DTGT n) = u ∧ t.get (F.INT_Gg_ST_PTR g) = u ∧ t.get (F.INT_Gg_ST_HOLD g) = s.get (F.INT_Gg_CFG_FALLOW g) ∧
      intPend t n = true ∧ RegsKept s t [A.INT_SRCs n, A.INT_Gg_ST g])) ∧
  (∀ g : Nat, g < 16 → s.clk.present = true → s.clk.phase = .run → s.int.redeliver = [] → s.get (F.INT_Gg_ST_HOLD g) = 0 →
    s.get (F.INT_Gg_CFG_FALLOW g) = 0 → Gives (.delivery g) s (fun t => OnlyRegs s t ∧ ∀ n ∈ groupSources g, intPend t n = intPend s n ∧
      (intWaiting s n = true → (intTarget s n).isSome = true → t.get (F.INT_SRCs_DTGT n) < 5 ∧
        intEnabled s (t.get (F.INT_SRCs_DTGT n)) n = true ∧ intAvailable s (t.get (F.INT_SRCs_DTGT n)) = true) ∧
      (intWaiting s n = false ∨ intTarget s n = none → t.get (F.INT_SRCs_DTGT n) = s.get (F.INT_SRCs_DTGT n)))) ∧
  (∀ g n u : Nat, g < 16 → s.clk.present = true → s.clk.phase = .run → n ∈ s.int.redeliver → n ∈ groupSources g → intWaiting s n = true →
    intTarget s n = some u → s.get (F.INT_Gg_ST_HOLD g) ≠ 0 → Gives (.delivery g) s (fun t => t.get (F.INT_SRCs_DTGT n) = u ∧ n ∉ t.int.redeliver ∧
      t.get (F.INT_Gg_ST_PTR g) = s.get (F.INT_Gg_ST_PTR g) ∧ t.get (F.INT_Gg_ST_HOLD g) = s.get (F.INT_Gg_ST_HOLD g))) ∧
  (∀ g : Nat, (16 ≤ g ∨ s.clk.present = false ∨ s.clk.phase ≠ .run ∨ (s.int.redeliver = [] ∧ s.get (F.INT_Gg_ST_HOLD g) ≠ 0) ∨
    (s.int.redeliver = [] ∧ ∀ n ∈ groupSources g, intWaiting s n = false ∨ intTarget s n = none)) → Gives (.delivery g) s (fun t => t = s)) ∧
  (∀ n u k : Nat, intTarget s n = some u → k < 5 → u = (s.get (F.INT_Gg_ST_PTR (n / 8)) + 1 + k) % 5 →
    intEnabled s u n = true ∧ intAvailable s u = true ∧
      ∀ j < k, intEnabled s ((s.get (F.INT_Gg_ST_PTR (n / 8)) + 1 + j) % 5) n = false ∨
        intAvailable s ((s.get (F.INT_Gg_ST_PTR (n / 8)) + 1 + j) % 5) = false) ∧
  (∀ g : Nat, g < 16 → s.clk.present = true → s.get (F.INT_Gg_ST_HOLD g) ≠ 0 → s.int.redeliver = [] → (∀ n ∈ groupSources g, intWaiting s n = false) →
    Gives (.fallowExpire g) s (fun t => OnlyRegs s t ∧ t.get (F.INT_Gg_ST_HOLD g) = 0 ∧
      t.get (F.INT_Gg_ST_PTR g) = s.get (F.INT_Gg_ST_PTR g) ∧ RegsKept s t [A.INT_Gg_ST g])) ∧
  (∀ g : Nat, g < 16 → s.clk.present = true → s.get (F.INT_Gg_ST_HOLD g) ≠ 0 → Gives (.fallowExpire g) s (fun t =>
    t = if s.clk.phase = .run then intDecide (s.put (F.INT_Gg_ST_HOLD g) 0) g else s.put (F.INT_Gg_ST_HOLD g) 0)) ∧
  (∀ g : Nat, (16 ≤ g ∨ s.clk.present = false ∨ s.get (F.INT_Gg_ST_HOLD g) = 0) → Gives (.fallowExpire g) s (fun t => t = s)) ∧
  (∀ (u n : Nat) (l : List Nat), u < 5 → intClaimable s u = n :: l → Gives (.claim u) s (fun t =>
    t = { s with regs := t.regs, int := { s.int with redeliver := s.int.redeliver.filter (fun k => decide (k ≠ n)) } } ∧
    intPend t n = false ∧ t.get (F.INT_SRCs_DTGT n) = 7 ∧ intPend s n = true ∧ intEnabled s u n = true ∧
    (∀ m, n < m → m < 128 → intPend s m = false ∨ intEnabled s u m = false) ∧
    t.pair (A.INT_Gg_CLAIM_LO (n / 8)) = (s.pair (A.INT_Gg_CLAIM_LO (n / 8)) + 1) % 2 ^ 64 ∧
    RegsKept s t (A.INT_SRCs n :: pairRegs (A.INT_Gg_CLAIM_LO (n / 8))))) ∧
  (∀ u : Nat, (intClaimable s u = [] ∨ 5 ≤ u) → Gives (.claim u) s (fun t => t = s)) ∧
  (∀ (w : Nat) (v : Word), w < 4 → Gives (.pendClear w v) s (fun t => (∀ i < 32, intPend t (32 * w + i) = (intPend s (32 * w + i) && !bit v.toNat i)) ∧
    (∀ n < 128, n / 32 ≠ w → intPend t n = intPend s n ∧ t.get (F.INT_SRCs_DTGT n) = s.get (F.INT_SRCs_DTGT n)) ∧
    (∀ i < 32, bit v.toNat i = true → intPend s (32 * w + i) = true → t.get (F.INT_SRCs_DTGT (32 * w + i)) = 7) ∧
    (∀ g < 4, t.pair (A.INT_Gg_CLR_LO (4 * w + g)) = (s.pair (A.INT_Gg_CLR_LO (4 * w + g)) +
      sumN ((upto 8).map (fun i => b2n (intPend s (32 * w + (8 * g + i)) && bit v.toNat (8 * g + i))))) % 2 ^ 64))) ∧
  (∀ (w : Nat) (v : Word), 4 ≤ w → Gives (.pendClear w v) s (fun t => t = s)) ∧
  (∀ v : BitVec 8, s.pstate ≠ OFF → Gives (.intBell v) s (fun t => OnlyRegs s t ∧ (∀ n < 8, intPend t (120 + n) = (intPend s (120 + n) || bit v.toNat n)) ∧
    t.pair (A.INT_Gg_EDGE_LO 15) = (s.pair (A.INT_Gg_EDGE_LO 15) + popcount 8 v.toNat) % 2 ^ 64)) ∧
  (∀ v : BitVec 8, s.pstate = OFF → Gives (.intBell v) s (fun t => t = s))

/-- Slots, triggers, urgent requests, ledgers, the pop window and the reference of the converters. The end of a slot counts
the conversion. An urgent result leaves its corrected value and entry, counts SEQ and clears BUSY; a result of a scan enters the
ledger its entry selects; a conversion of a calibration is summed, and the last one ends it: BUSY falls, DONE and source 82 rise,
and valid factors are kept or ERR reads 2. A trigger in mode 2 starts a scan at the next boundary; during a scan it waits, and a
second is counted; in another mode it does nothing. An urgent request takes the next slot and discards a conversion in progress,
and one while one is held is rejected and counted. A take moves the ledgers it names into their take registers and empties them
at once on an idle converter, and waits on a busy one. A pop removes whole entries. A write of the reference sets SEL, REFEN and
VNOM, a bad VNOM sets WERR in its place, and a change of SEL or a fall of REFEN clears REFOK and discards the conversions; REFOK
sets when the reference settles in tolerance, falls with its loss, and the loss is an event of diagnostic 20. Without their clock,
and writes outside the states above SENTRY, do nothing. Rests on spec/16_supervisory_adc.md. -/
def Obligations.AdcConversions : Prop := ∀ (s : State) (x : Fin 2), s.adc.x.length = 2 →
  (∀ (raw : BitVec 12) (e : Nat) (ref : Bool) (tick : Nat), adcRuns s = true → (s.adcx x).conv = some (.urgent, e, ref, tick) → e < 16 →
    tick < 2 ^ 24 → (s.adcx x).take = [] → Gives (.conversionEnd x raw) s (fun t =>
      t.pair (A.ADC_x_DONE_LO x) = (s.pair (A.ADC_x_DONE_LO x) + 1) % 2 ^ 64 ∧
      t.get (F.ADC_x_URGRES_VALUE x) = adcC s x e (adcU s x raw.toNat (!adcCalibrated s)) ∧ t.get (F.ADC_x_URGRES_ENT x) = e ∧
      t.flag (F.ADC_x_URGRES_NREF x) = !ref ∧ t.flag (F.ADC_x_URGRES_NCAL x) = !adcCalibrated s ∧
      t.get (F.ADC_x_URGRES_SEQ x) = (s.get (F.ADC_x_URGRES_SEQ x) + 1) % 256 ∧ t.get (F.ADC_x_URGTIME_TIME x) = tick ∧
      t.flag (F.ADC_x_URG_BUSY x) = false ∧ (t.adcx x).urg = none)) ∧
  (∀ raw : BitVec 12, (s.adcx x).conv = none ∨ adcRuns s = false → Gives (.conversionEnd x raw) s (fun t => t = s)) ∧
  (∀ (raw : BitVec 12) (tick : Nat) (ref : Bool), adcRuns s = true → (s.adcx x).conv = some (.cal, 0, ref, tick) → s.adc.self = true →
    (s.adcx x).calN < 1023 → (s.adcx x).take = [] → Gives (.conversionEnd x raw) s (fun t =>
      (t.adcx x).calN = (s.adcx x).calN + 1 ∧ (t.adcx x).cal0 = (s.adcx x).cal0 + raw.toNat ∧ (t.adcx x).cal1 = (s.adcx x).cal1 ∧
      t.adc.self = true)) ∧
  (∀ (raw : BitVec 12) (tick : Nat) (ref : Bool), adcRuns s = true → (s.adcx x).conv = some (.cal, 0, ref, tick) → s.adc.self = true →
    1024 ≤ (s.adcx x).calN → (s.adcx x).calN < 2047 → (s.adcx x).take = [] → Gives (.conversionEnd x raw) s (fun t =>
      (t.adcx x).calN = (s.adcx x).calN + 1 ∧ (t.adcx x).cal1 = (s.adcx x).cal1 + raw.toNat ∧ (t.adcx x).cal0 = (s.adcx x).cal0 ∧
      t.adc.self = true)) ∧
  (∀ (raw : BitVec 12) (tick : Nat) (ref : Bool) (y : Fin 2), y ≠ x → adcRuns s = true → (s.adcx x).conv = some (.cal, 0, ref, tick) →
    s.adc.self = true → (s.adcx x).calN = 2047 → (s.adcx y).calN = 2048 → s.pwr.start = none → s.pwr.trans = none →
    Gives (.conversionEnd x raw) s (fun t => t.adc.self = false ∧ t.flag F.ADC_CAL_BUSY = false ∧ t.flag F.ADC_CAL_DONE = true ∧
      EdgeTaken s t 82 ∧
      (selfFactors (s.adcx x).cal0 ((s.adcx x).cal1 + raw.toNat) = none ∨ selfFactors (s.adcx y).cal0 (s.adcx y).cal1 = none →
        t.get F.ADC_CAL_ERR = 2) ∧
      (∀ (f : Int) (g : Nat), selfFactors (s.adcx x).cal0 ((s.adcx x).cal1 + raw.toNat) = some (f, g) →
        (selfFactors (s.adcx y).cal0 (s.adcx y).cal1).isSome = true → adcRef s < 3 →
        t.bitOf F.ADC_CAL_SOK (adcRef s) = true ∧
          t.getI (F.ADC_x_SCALr_SOFF x (adcRef s)) = f ∧ t.get (F.ADC_x_SCALr_SGAIN x (adcRef s)) = g))) ∧
  (∀ (raw : BitVec 12) (tick e : Nat) (ref : Bool), adcRuns s = true → (s.adcx x).conv = some (.scan, e, ref, tick) → e < 16 →
    (s.adcx x).take = [] → Gives (.conversionEnd x raw) s (fun t => t.pair (A.ADC_x_DONE_LO x) = (s.pair (A.ADC_x_DONE_LO x) + 1) % 2 ^ 64 ∧
      (s.flag (F.ADC_x_ENTe_CFG_LED x e) = true → s.get (F.ADC_x_ENTe_LCNT_COUNT x e) < 0xFFFFF →
        t.get (F.ADC_x_ENTe_LCNT_COUNT x e) = s.get (F.ADC_x_ENTe_LCNT_COUNT x e) + 1 ∧
        t.get (F.ADC_x_ENTe_LSUM_SUM x e) = (s.get (F.ADC_x_ENTe_LSUM_SUM x e) + adcC s x e (adcU s x raw.toNat false)) % 2 ^ 32 ∧
        t.get (F.ADC_x_ENTe_LMM_MIN x e) = Nat.min (s.get (F.ADC_x_ENTe_LMM_MIN x e)) (adcC s x e (adcU s x raw.toNat false)) ∧
        t.get (F.ADC_x_ENTe_LMM_MAX x e) = Nat.max (s.get (F.ADC_x_ENTe_LMM_MAX x e)) (adcC s x e (adcU s x raw.toNat false))) ∧
      (s.flag (F.ADC_x_ENTe_CFG_LED x e) = false → t.get (F.ADC_x_ENTe_LCNT_COUNT x e) = s.get (F.ADC_x_ENTe_LCNT_COUNT x e) ∧
        t.get (F.ADC_x_ENTe_LSUM_SUM x e) = s.get (F.ADC_x_ENTe_LSUM_SUM x e)))) ∧
  (∀ (raw : BitVec 12) (tick st e n : Nat) (sum : Int) (ref : Bool), adcRuns s = true → (s.adcx x).conv = some (.sys, e, ref, tick) →
    (s.adcx x).sys = some (st, e, n, sum) → n < 255 → (s.adcx x).take = [] → Gives (.conversionEnd x raw) s (fun t =>
      (t.adcx x).sys = some (st, e, n + 1, sum + adcU s x raw.toNat false) ∧
      t.pair (A.ADC_x_DONE_LO x) = (s.pair (A.ADC_x_DONE_LO x) + 1) % 2 ^ 64)) ∧
  (s.awake = true → s.get (F.ADC_x_CTL_MODE x) = 2 →
    ((s.adcx x).scan.isSome = true ∨ (s.adcx x).start = true → s.flag (F.ADC_x_STAT_TPEND x) = false → Gives (.trig x) s (fun t => OnlyRegs s t ∧
      t.flag (F.ADC_x_STAT_TPEND x) = true ∧ RegsKept s t [A.ADC_x_STAT x])) ∧
    (s.flag (F.ADC_x_STAT_TPEND x) = true → Gives (.trig x) s (fun t => OnlyRegs s t ∧
      t.get (F.ADC_x_STAT_TCOAL x) = Nat.min (s.get (F.ADC_x_STAT_TCOAL x) + 1) 65535 ∧ RegsKept s t [A.ADC_x_STAT x])) ∧
    ((s.adcx x).scan = none → (s.adcx x).start = false → s.flag (F.ADC_x_STAT_TPEND x) = false →
      Gives (.trig x) s (fun t => t = adcKick (s.setAdc x { s.adcx x with start := true }) x ∧
        ((s.adcx x).conv.isSome = true → t = s.setAdc x { s.adcx x with start := true })))) ∧
  (s.get (F.ADC_x_CTL_MODE x) ≠ 2 ∨ s.awake = false → Gives (.trig x) s (fun t => t = s)) ∧
  (∀ e : Fin 16, s.awake = true → adcRuns s = true →
    ((s.adcx x).urg = none → (s.adcx x).take = [] → Gives (.urgentRequest x e) s (fun t =>
      t.flag (F.ADC_x_URG_BUSY x) = true ∧ t.get (F.ADC_x_URG_ENT x) = e.val ∧
      (t.adcx x).conv = some (.urgent, e.val, s.flag F.ADC_REF_REFOK, s.time.us % 2 ^ 24) ∧ (t.adcx x).urg = some e.val ∧
      t.flag (F.ADC_x_STAT_RUN x) = true ∧
      t.pair (A.ADC_x_DISC_LO x) = (s.pair (A.ADC_x_DISC_LO x) + b2n (s.adcx x).conv.isSome) % 2 ^ 64)) ∧
    ((s.adcx x).urg.isSome = true → Gives (.urgentRequest x e) s (fun t => OnlyRegs s t ∧
      t.get (F.ADC_x_URG_URGREJ x) = Nat.min (s.get (F.ADC_x_URG_URGREJ x) + 1) 65535 ∧ RegsKept s t [A.ADC_x_URG x]))) ∧
  (∀ e : Fin 16, s.awake = false ∨ adcRuns s = false → Gives (.urgentRequest x e) s (fun t => t = s)) ∧
  (∀ m : BitVec 16, s.awake = true → (s.adcx x).take = [] →
    ((s.adcx x).conv = none → Gives (.ltake x m) s (fun t => OnlyRegs s t ∧ (∀ e : Fin 16, bit m.toNat e = true →
      t.get (F.ADC_x_ENTe_TSUM_SUM x e) = s.get (F.ADC_x_ENTe_LSUM_SUM x e) ∧
      t.get (F.ADC_x_ENTe_TCNT_COUNT x e) = s.get (F.ADC_x_ENTe_LCNT_COUNT x e) ∧
      t.get (F.ADC_x_ENTe_TMM_MIN x e) = s.get (F.ADC_x_ENTe_LMM_MIN x e) ∧ t.get (F.ADC_x_ENTe_TMM_MAX x e) = s.get (F.ADC_x_ENTe_LMM_MAX x e) ∧
      t.get (F.ADC_x_ENTe_TSKIP_SKIP x e) = s.get (F.ADC_x_ENTe_CFG_LSKIP x e) ∧ t.get (F.ADC_x_ENTe_LSUM_SUM x e) = 0 ∧
      t.get (F.ADC_x_ENTe_LCNT_COUNT x e) = 0 ∧ t.get (F.ADC_x_ENTe_LMM_MIN x e) = 0xFFF ∧ t.get (F.ADC_x_ENTe_LMM_MAX x e) = 0) ∧
      (∀ e : Fin 16, bit m.toNat e = false → t.rd (A.ADC_x_ENTe_TSUM x e) = s.rd (A.ADC_x_ENTe_TSUM x e) ∧
        t.rd (A.ADC_x_ENTe_LSUM x e) = s.rd (A.ADC_x_ENTe_LSUM x e) ∧ t.rd (A.ADC_x_ENTe_LCNT x e) = s.rd (A.ADC_x_ENTe_LCNT x e)))) ∧
    ((s.adcx x).conv.isSome = true → Gives (.ltake x m) s (fun t =>
      t = s.setAdc x { s.adcx x with take := ones 16 m.toNat }))) ∧
  (∀ m : BitVec 16, s.awake = false → Gives (.ltake x m) s (fun t => t = s)) ∧
  (∀ n : BitVec 7, s.awake = true → (s.adcx x).q.length ≤ 64 → Gives (.adcQpop x n) s (fun t =>
    (t.adcx x).q = (s.adcx x).q.drop (Nat.min n.toNat 64 / 2) ∧ t.get (F.ADC_x_QST_OCC x) = (s.adcx x).q.length - Nat.min n.toNat 64 / 2 ∧
      t.flag (F.INT_SRCs_LIVE (74 + x)) = decide (Nat.min n.toNat 64 / 2 < (s.adcx x).q.length) ∧
      RegsKept s t (A.ADC_x_QST x :: sourceRegs (74 + x)))) ∧
  (∀ n : BitVec 7, s.awake = false → Gives (.adcQpop x n) s (fun t => t = s)) ∧
  (∀ (sel : Fin 3) (refen : Bool) (v : BitVec 12), s.awake = true → (sel.val ≠ adcRef s ∨ (s.flag F.ADC_REF_REFEN = true ∧ refen = false)) →
    Gives (.referenceChange sel refen v) s (fun t =>
      t.get F.ADC_REF_SEL = sel.val ∧ t.flag F.ADC_REF_REFOK = false ∧ t.flag F.ADC_REF_REFEN = refen ∧ t.adc.settled = false ∧
      (∀ y : Fin 2, (s.adcx y).urg = none → (t.adcx y).conv = none) ∧
      (1000 ≤ v.toNat → v.toNat ≤ 1800 → t.get F.ADC_REF_VNOM = v.toNat) ∧
      (v.toNat < 1000 ∨ 1800 < v.toNat → t.get F.ADC_REF_VNOM = s.get F.ADC_REF_VNOM ∧ t.flag F.ADC_WERR_WERR = true))) ∧
  (∀ (sel : Fin 3) (refen : Bool) (v : BitVec 12), s.awake = true → sel.val = adcRef s → (s.flag F.ADC_REF_REFEN = false ∨ refen = true) →
    Gives (.referenceChange sel refen v) s (fun t => OnlyRegs s t ∧ t.flag F.ADC_REF_REFEN = refen ∧
      t.flag F.ADC_REF_REFOK = s.flag F.ADC_REF_REFOK ∧ RegsKept s t [A.ADC_REF, A.ADC_WERR] ∧
      (1000 ≤ v.toNat → v.toNat ≤ 1800 → t.get F.ADC_REF_VNOM = v.toNat) ∧
      (v.toNat < 1000 ∨ 1800 < v.toNat → t.get F.ADC_REF_VNOM = s.get F.ADC_REF_VNOM ∧ t.flag F.ADC_WERR_WERR = true))) ∧
  (∀ (sel : Fin 3) (refen : Bool) (v : BitVec 12), s.awake = false → Gives (.referenceChange sel refen v) s (fun t => t = s)) ∧
  (∀ good : Bool, adcRuns s = true → refSettles s = true → (good = true ∨ s.adc.settled = false) → Gives (.refokSettle good) s (fun t =>
    t.flag F.ADC_REF_REFOK = good ∧ t.adc.settled = true ∧ t.flag (F.INT_SRCs_LIVE 81) = !good)) ∧
  (∀ good : Bool, (adcRuns s = false ∨ refSettles s = false ∨ (good = false ∧ s.adc.settled = true)) → Gives (.refokSettle good) s (fun t => t = s)) ∧
  (s.flag F.ADC_REF_REFOK = true → Gives .refokLoss s (fun t => t.flag F.ADC_REF_REFOK = false ∧
    (s.pstate ≠ OFF → t.saf.lines = s.saf.lines ++ [(20, if s.flag F.SAF_ARM_AINS_EN then 1 else 256, s.time.ms)]) ∧
    (s.adc.settled = true → t.flag (F.INT_SRCs_LIVE 81) = true) ∧ (∀ y : Fin 2, (s.adcx y).urg = none → (t.adcx y).sys = none) ∧
    (∀ (y : Fin 2) (k : ConvKind) (e tick : Nat) (ref : Bool), (s.adcx y).conv = some (k, e, ref, tick) →
      (t.adcx y).conv = if k = .urgent then some (.urgent, e, false, tick) else none))) ∧
  (s.flag F.ADC_REF_REFOK = false → Gives .refokLoss s (fun t => t = s))

/-- Self-calibration and the steps of a system calibration. SELF begins a self-calibration: BUSY and ERR 0; while one runs
it changes nothing, while the arming or armed rules hold it answers ERR 3 and without REFOK ERR 1. ZERO, FULL and COMPUTE name
their entry; under those rules each answers ERR 2, with a step or a self-calibration in progress ERR 3. Otherwise ZERO and FULL
begin their measurement with BUSY and ERR 0. COMPUTE with the two codes or the two means out of order, or with a gain out of
range, ends with ERR 1; with valid ones it sets the entry's gain and offset and ends with ERR 0, DONE and source 83; an offset
that does not fit its 18 bits is free (log 7). In SENTRY and OFF the converters take none of these writes. Rests on
spec/16_supervisory_adc.md. -/
def Obligations.AdcCalibration : Prop := ∀ (s : State) (x : Fin 2) (e : Fin 16), s.adc.x.length = 2 →
  (s.awake = false → Gives .self s (fun t => t = s) ∧ Gives (.zero x e) s (fun t => t = s) ∧ Gives (.full x e) s (fun t => t = s) ∧
    Gives (.compute x e) s (fun t => t = s)) ∧
  (s.awake = true →
  (s.adc.self = true → Gives .self s (fun t => t = s)) ∧
  (s.adc.self = false → armedRules s = true → Gives .self s (fun t => OnlyRegs s t ∧ t.get F.ADC_CAL_ERR = 3 ∧ RegsKept s t [A.ADC_CAL])) ∧
  (s.adc.self = false → armedRules s = false → s.flag F.ADC_REF_REFOK = false → Gives .self s (fun t => OnlyRegs s t ∧
    t.get F.ADC_CAL_ERR = 1 ∧ RegsKept s t [A.ADC_CAL])) ∧
  (s.adc.self = false → armedRules s = false → s.flag F.ADC_REF_REFOK = true → Gives .self s (fun t => t.adc.self = true ∧
    t.flag F.ADC_CAL_BUSY = true ∧ t.get F.ADC_CAL_ERR = 0 ∧ (∀ y : Fin 2, (t.adcx y).calN = 0 ∧ (t.adcx y).cal0 = 0 ∧ (t.adcx y).cal1 = 0))) ∧
  (armedRules s = true → Gives (.zero x e) s (fun t => OnlyRegs s t ∧ t.get (F.ADC_x_SYSCTL_ERR x) = 2 ∧
    t.get (F.ADC_x_SYSCTL_ENT x) = e.val ∧ RegsKept s t [A.ADC_x_SYSCTL x])) ∧
  (armedRules s = false → (s.adcx x).sys.isSome = true ∨ s.adc.self = true → Gives (.zero x e) s (fun t => OnlyRegs s t ∧
    t.get (F.ADC_x_SYSCTL_ERR x) = 3 ∧ t.get (F.ADC_x_SYSCTL_ENT x) = e.val ∧ RegsKept s t [A.ADC_x_SYSCTL x])) ∧
  (armedRules s = false → (s.adcx x).sys = none → s.adc.self = false → Gives (.zero x e) s (fun t =>
    (t.adcx x).sys = some (1, e.val, 0, 0) ∧ t.flag (F.ADC_x_SYSCTL_BUSY x) = true ∧ t.get (F.ADC_x_SYSCTL_ERR x) = 0 ∧
    t.get (F.ADC_x_SYSCTL_ENT x) = e.val)) ∧
  (armedRules s = true → Gives (.full x e) s (fun t => OnlyRegs s t ∧ t.get (F.ADC_x_SYSCTL_ERR x) = 2 ∧
    t.get (F.ADC_x_SYSCTL_ENT x) = e.val ∧ RegsKept s t [A.ADC_x_SYSCTL x])) ∧
  (armedRules s = false → (s.adcx x).sys.isSome = true ∨ s.adc.self = true → Gives (.full x e) s (fun t => OnlyRegs s t ∧
    t.get (F.ADC_x_SYSCTL_ERR x) = 3 ∧ t.get (F.ADC_x_SYSCTL_ENT x) = e.val ∧ RegsKept s t [A.ADC_x_SYSCTL x])) ∧
  (armedRules s = false → (s.adcx x).sys = none → s.adc.self = false → Gives (.full x e) s (fun t =>
    (t.adcx x).sys = some (2, e.val, 0, 0) ∧ t.flag (F.ADC_x_SYSCTL_BUSY x) = true ∧ t.get (F.ADC_x_SYSCTL_ERR x) = 0 ∧
    t.get (F.ADC_x_SYSCTL_ENT x) = e.val)) ∧
  (armedRules s = true → Gives (.compute x e) s (fun t => OnlyRegs s t ∧ t.get (F.ADC_x_SYSCTL_ERR x) = 2 ∧
    t.get (F.ADC_x_SYSCTL_ENT x) = e.val ∧ RegsKept s t [A.ADC_x_SYSCTL x])) ∧
  (armedRules s = false → (s.adcx x).sys.isSome = true ∨ s.adc.self = true → Gives (.compute x e) s (fun t => OnlyRegs s t ∧
    t.get (F.ADC_x_SYSCTL_ERR x) = 3 ∧ t.get (F.ADC_x_SYSCTL_ENT x) = e.val ∧ RegsKept s t [A.ADC_x_SYSCTL x])) ∧
  (armedRules s = false → (s.adcx x).sys = none → s.adc.self = false →
    (s.get (F.ADC_x_SYSCODE_F x) ≤ s.get (F.ADC_x_SYSCODE_Z x) ∨ s.getI (F.ADC_x_SYSU1_U1 x) - s.getI (F.ADC_x_SYSU0_U0 x) < 1024 →
      Gives (.compute x e) s (fun t => OnlyRegs s t ∧ t.get (F.ADC_x_SYSCTL_ERR x) = 1 ∧ t.flag (F.ADC_x_SYSCTL_DONE x) = true ∧
        EdgeTaken s t 83 ∧ RegsKept s t (A.ADC_x_SYSCTL x :: sourceRegs 83))) ∧
    (∀ g z f u0 u1 : Int, z = s.get (F.ADC_x_SYSCODE_Z x) → f = s.get (F.ADC_x_SYSCODE_F x) → u0 = s.getI (F.ADC_x_SYSU0_U0 x) →
      u1 = s.getI (F.ADC_x_SYSU1_U1 x) → z < f → 1024 ≤ u1 - u0 → g = (2 * (2 ^ 18 * (f - z)) + (u1 - u0)) / (2 * (u1 - u0)) →
      g < 0x2000 ∨ 0x10000 < g → Gives (.compute x e) s (fun t => OnlyRegs s t ∧ t.get (F.ADC_x_SYSCTL_ERR x) = 1 ∧
        t.flag (F.ADC_x_SYSCTL_DONE x) = true ∧ EdgeTaken s t 83 ∧ RegsKept s t (A.ADC_x_SYSCTL x :: sourceRegs 83))) ∧
    (∀ g y z f u0 u1 : Int, z = s.get (F.ADC_x_SYSCODE_Z x) → f = s.get (F.ADC_x_SYSCODE_F x) → u0 = s.getI (F.ADC_x_SYSU0_U0 x) →
      u1 = s.getI (F.ADC_x_SYSU1_U1 x) → z < f → 1024 ≤ u1 - u0 → g = (2 * (2 ^ 18 * (f - z)) + (u1 - u0)) / (2 * (u1 - u0)) →
      0x2000 ≤ g → g ≤ 0x10000 → y = u0 - (2 * (z * 2 ^ 18) + g) / (2 * g) →
      Gives (.compute x e) s (fun t => (t.get (F.ADC_x_ENTe_YGAIN_YGAIN x e) : Int) = g ∧
        (-131072 ≤ y → y ≤ 131071 → t.getI (F.ADC_x_ENTe_YOFF_YOFF x e) = y ∧ t.free = s.free) ∧
        t.get (F.ADC_x_SYSCTL_ERR x) = 0 ∧ t.flag (F.ADC_x_SYSCTL_DONE x) = true ∧ EdgeTaken s t 83 ∧
        t = { s with regs := t.regs, free := t.free } ∧
        RegsKept s t ([A.ADC_x_SYSCTL x, A.ADC_x_ENTe_YGAIN x e, A.ADC_x_ENTe_YOFF x e] ++ sourceRegs 83)))))

/-- Temperatures, rails, process monitors, the PMBus and the voltage loops. A reading is stored; at 110 degrees a sensor is
critical, an event of diagnostic 16 at its onset. Four samples outside a rail's window make it out, latched, an event of
diagnostic 15; 64 inside bring it back. A gate stores its twelve counts. A PMBus transaction that is acknowledged ends, a read
of STATUS_WORD stores its word and with a masked bit in it sets PMERR; a failed one is tried again and a third failure sets
PMERR with source 93. A poll queues a read of STATUS_WORD. A failing
canary raises the sentry voltage by 10 mV within its limits, 64 ms clean lower it by 5 mV, and otherwise it holds; a slow ring raises
the core voltage by UP, fast rings lower it by DN no sooner than DWAIT after the last step down, and otherwise it holds. A frozen loop
holds its command, and one outside its limits commands the nearest. A manual voltage is commanded in SERVICE alone and sets WERR elsewhere. Clearing PMERR clears it and reads
STATUS_WORD of the rails a failure froze. Where the monitors do not run, or a sample contradicts the report, the row does nothing. Rests on spec/17_monitors_and_loops.md. -/
def Obligations.MonitorRows : Prop := ∀ s : State, s.mon.crit.length = 4 → s.mon.frz.length = 2 → s.mon.runs.length = 4 →
  (∀ (n : Fin 4) (v : BitVec 12), monRuns s = true → Gives (.thermalReading n v) s (fun t =>
    t.get (F.MON_Tn_TEMP n) = v.toNat ∧ nth t.mon.crit n false = (if nth s.mon.crit n false then decide (432 ≤ v.toInt) else decide (440 ≤ v.toInt)) ∧
    t.flag F.MON_ST_CRIT = t.mon.crit.any id ∧ (s.pstate ≠ OFF → t.saf.lines = s.saf.lines ++
      (if nth s.mon.crit n false = false ∧ 440 ≤ v.toInt then [(16, 1, s.time.ms)] else [])) ∧
    RegsKept s t ([A.MON_Tn n, A.MON_ST] ++ sourceRegs 88))) ∧
  (∀ (n : Fin 4) (v : BitVec 12), monRuns s = false → Gives (.thermalReading n v) s (fun t => t = s)) ∧
  (∀ (v : Fin 8) (a b c d : BitVec 16), monRuns s = true → s.bitOf F.MON_ST_VOUT v = false → (∀ x ∈ [a, b, c, d], railInside s v x.toNat = false) →
    Gives (.railOut v a b c d) s (fun t => t.bitOf F.MON_ST_VOUT v = true ∧ t.bitOf F.MON_VLAT_LAT v = true ∧
      t.flag (F.INT_SRCs_LIVE 89) = true ∧ (s.pstate ≠ OFF → t.saf.lines = s.saf.lines ++ [(15, 1, s.time.ms)]))) ∧
  (∀ (v : Fin 8) (a b c d : BitVec 16), (monRuns s = false ∨ s.bitOf F.MON_ST_VOUT v = true ∨ (∃ x ∈ [a, b, c, d], railInside s v x.toNat = true)) → Gives (.railOut v a b c d) s (fun t => t = s)) ∧
  (∀ (v : Fin 8) (a b : BitVec 16), monRuns s = true → s.bitOf F.MON_ST_VOUT v = true → railInside s v a.toNat = true → railInside s v b.toNat = true →
    Gives (.railIn v a b) s (fun t => t.bitOf F.MON_ST_VOUT v = false ∧ (∀ w : Fin 8, w ≠ v → t.bitOf F.MON_ST_VOUT w = s.bitOf F.MON_ST_VOUT w) ∧
      t.rd A.MON_VLAT = s.rd A.MON_VLAT)) ∧
  (∀ (v : Fin 8) (a b : BitVec 16), (monRuns s = false ∨ s.bitOf F.MON_ST_VOUT v = false ∨ railInside s v a.toNat = false ∨ railInside s v b.toNat = false) →
    Gives (.railIn v a b) s (fun t => t = s)) ∧
  (∀ l : List (BitVec 20), monRuns s = true → l.length = 12 → Gives (.pmGate l) s (fun t => (∀ m < 12, t.get (F.MON_PMm_COUNT m) = (nth l m 0).toNat) ∧
    (∀ m < 12, (nth l m 0) = 0 → t.flag (F.MON_PMm_OOR m) = true))) ∧
  (∀ l : List (BitVec 20), (monRuns s = false ∨ l.length ≠ 12) → Gives (.pmGate l) s (fun t => t = s)) ∧
  (∀ (w : BitVec 16) (b : PmbTr) (l : List PmbTr), s.mon.bus = b :: l → b.cmd ≠ PMB_STATUS → Gives (.pmbusTransactionEnd 0 w) s (fun t =>
    t = planHoldTry { s with mon := { s.mon with bus := l }, clk := { s.clk with bus := false } } ∧
    (s.clk.phase ≠ .wait → t = { s with mon := { s.mon with bus := l }, clk := { s.clk with bus := false } }))) ∧
  (∀ (w : BitVec 16) (b : PmbTr) (l : List PmbTr), s.mon.bus = b :: l → b.cmd = PMB_STATUS → Gives (.pmbusTransactionEnd 0 w) s (fun t =>
    t.get (if b.sent then F.MON_PMB_SW_SENT else F.MON_PMB_SW_CORE) = w.toNat ∧ t.mon.bus = l ∧
    (w.toNat &&& s.get F.MON_PMB_MASK_MASK ≠ 0 → t.flag F.MON_ST_PMERR = true ∧ t.flag F.MON_PMB_ERR_RAIL = b.sent ∧
      nth t.mon.frz (if b.sent then 0 else 1) false = true ∧ t.flag (F.INT_SRCs_PEND 93) = true) ∧
    (w.toNat &&& s.get F.MON_PMB_MASK_MASK = 0 → nth t.mon.frz (if b.sent then 0 else 1) false = false ∧
      t.flag F.MON_ST_PMERR = s.flag F.MON_ST_PMERR))) ∧
  (∀ (r : Fin 4) (w : BitVec 16) (b : PmbTr) (l : List PmbTr), r ≠ 0 → s.mon.bus = b :: l → (b.tries < 2 → Gives (.pmbusTransactionEnd r w) s (fun t =>
      t = { s with mon := { s.mon with bus := { b with tries := b.tries + 1 } :: l } })) ∧
    (2 ≤ b.tries → Gives (.pmbusTransactionEnd r w) s (fun t => t.mon.bus = l ∧ t.flag F.MON_ST_PMERR = true ∧
      t.flag F.MON_PMB_ERR_RAIL = b.sent ∧ nth t.mon.frz (if b.sent then 0 else 1) false = true ∧ t.flag (F.INT_SRCs_PEND 93) = true))) ∧
  (∀ (r : Fin 4) (w : BitVec 16), s.mon.bus = [] → Gives (.pmbusTransactionEnd r w) s (fun t => t = s)) ∧
  (∀ b : Bool, (pmbReady s b = true → Gives (.statusWordPoll b) s (fun t => t = { s with mon := { s.mon with bus := s.mon.bus ++ [⟨b, PMB_STATUS, 0, 0⟩] } })) ∧
    (pmbReady s b = false → Gives (.statusWordPoll b) s (fun t => t = s))) ∧
  (∀ (n : BitVec 8) (m : Bool) (v : Nat), s.clk.present = true → (s.pstate = SENTRY ∨ monRuns s = true) → n ≠ 0 → frozen s L_SENT = false → v = s.get F.MON_SAVS_ST_VSET →
    s.get F.MON_SAVS_CFG_VMIN ≤ v → v ≤ s.get F.MON_SAVS_CFG_VMAX → Gives (.sentryAvsEval n m) s (fun t =>
      t.get F.MON_SAVS_ST_VSET = Nat.min (s.get F.MON_SAVS_CFG_VMAX) (v + 10) ∧
      t.get F.MON_SAVS_ST_CANF = Nat.min 255 (s.get F.MON_SAVS_ST_CANF + n.toNat))) ∧
  (∀ (n : BitVec 8) (m : Bool), s.clk.present = true → (s.pstate = SENTRY ∨ monRuns s = true) → frozen s L_SENT = true → Gives (.sentryAvsEval n m) s (fun t =>
    t.get F.MON_SAVS_ST_VSET = s.get F.MON_SAVS_ST_VSET ∧ t.get F.MON_SAVS_ST_CANF = Nat.min 255 (s.get F.MON_SAVS_ST_CANF + n.toNat) ∧
      t.mon.bus = s.mon.bus)) ∧
  (∀ v : Nat, s.clk.present = true → (s.pstate = SENTRY ∨ monRuns s = true) → frozen s L_SENT = false → v = s.get F.MON_SAVS_ST_VSET →
    s.get F.MON_SAVS_CFG_VMIN ≤ v → v ≤ s.get F.MON_SAVS_CFG_VMAX → 63 ≤ s.mon.runOk → 63 ≤ s.mon.marOk → 63 ≤ s.mon.sDown → Gives (.sentryAvsEval 0 false) s (fun t =>
      t.get F.MON_SAVS_ST_VSET = Nat.max (s.get F.MON_SAVS_CFG_VMIN) (v - 5) ∧ (s.get F.MON_SAVS_CFG_VMIN < v → t.mon.sDown = 0) ∧
      t.get F.MON_SAVS_ST_CANF = Nat.min 255 (s.get F.MON_SAVS_ST_CANF))) ∧
  (∀ (m : Bool) (v : Nat), s.clk.present = true → (s.pstate = SENTRY ∨ monRuns s = true) → frozen s L_SENT = false → v = s.get F.MON_SAVS_ST_VSET →
    s.get F.MON_SAVS_CFG_VMIN ≤ v → v ≤ s.get F.MON_SAVS_CFG_VMAX → (m = true ∨ s.mon.runOk < 63 ∨ s.mon.marOk < 63 ∨ s.mon.sDown < 63) →
    Gives (.sentryAvsEval 0 m) s (fun t => t.get F.MON_SAVS_ST_VSET = v ∧ t.mon.bus = s.mon.bus)) ∧
  (∀ (n : BitVec 8) (m : Bool), s.clk.present = true → (s.pstate = SENTRY ∨ monRuns s = true) → frozen s L_SENT = false →
    vClamp s L_SENT (s.get F.MON_SAVS_ST_VSET) ≠ s.get F.MON_SAVS_ST_VSET → Gives (.sentryAvsEval n m) s (fun t =>
      t.get F.MON_SAVS_ST_VSET = vClamp s L_SENT (s.get F.MON_SAVS_ST_VSET))) ∧
  (∀ (n : BitVec 8) (m : Bool), s.clk.present = false ∨ (s.pstate ≠ SENTRY ∧ monRuns s = false) → Gives (.sentryAvsEval n m) s (fun t => t = s)) ∧
  (∀ c v : Nat, s.clk.present = true → monRuns s = true → ringMin s = some c → frozen s L_CORE = false → s.mon.skip ≤ 1 → v = s.get F.MON_CAVS_ST_VSET →
    c < s.get F.MON_CAVS_TGT_TGT → s.get F.MON_CAVS_CFG_VMIN ≤ v → v ≤ s.get F.MON_CAVS_CFG_VMAX → Gives .coreAvsEval s (fun t =>
      t.get F.MON_CAVS_ST_VSET = Nat.min (s.get F.MON_CAVS_CFG_VMAX) (v + s.get F.MON_CAVS_STEP_UP) ∧ t.get F.MON_CAVS_ST_CMIN = c ∧
      (v < s.get F.MON_CAVS_CFG_VMAX → t.mon.skip = s.get F.MON_CAVS_STEP_SETTLE))) ∧
  (∀ c v : Nat, s.clk.present = true → monRuns s = true → ringMin s = some c → frozen s L_CORE = false → s.mon.skip ≤ 1 → v = s.get F.MON_CAVS_ST_VSET →
    s.get F.MON_CAVS_TGT_TGT * (256 + s.get F.MON_CAVS_STEP_HYS) < 256 * c → s.get F.MON_CAVS_STEP_DWAIT ≤ Nat.min 255 (s.mon.cDown + 1) →
    s.get F.MON_CAVS_CFG_VMIN ≤ v → v ≤ s.get F.MON_CAVS_CFG_VMAX → Gives .coreAvsEval s (fun t =>
      t.get F.MON_CAVS_ST_VSET = Nat.max (s.get F.MON_CAVS_CFG_VMIN) (v - s.get F.MON_CAVS_STEP_DN) ∧ t.get F.MON_CAVS_ST_CMIN = c ∧
      (s.get F.MON_CAVS_CFG_VMIN < v → t.mon.cDown = 0))) ∧
  (∀ c v : Nat, s.clk.present = true → monRuns s = true → ringMin s = some c → frozen s L_CORE = false → s.mon.skip ≤ 1 → v = s.get F.MON_CAVS_ST_VSET →
    s.get F.MON_CAVS_TGT_TGT ≤ c → (256 * c ≤ s.get F.MON_CAVS_TGT_TGT * (256 + s.get F.MON_CAVS_STEP_HYS) ∨ Nat.min 255 (s.mon.cDown + 1) < s.get F.MON_CAVS_STEP_DWAIT) →
    s.get F.MON_CAVS_CFG_VMIN ≤ v → v ≤ s.get F.MON_CAVS_CFG_VMAX → Gives .coreAvsEval s (fun t =>
      t.get F.MON_CAVS_ST_VSET = v ∧ t.get F.MON_CAVS_ST_CMIN = c ∧ t.mon.bus = s.mon.bus)) ∧
  (s.clk.present = true → monRuns s = true → (ringMin s = none ∨ frozen s L_CORE = true ∨ 2 ≤ s.mon.skip) → Gives .coreAvsEval s (fun t =>
    t.get F.MON_CAVS_ST_VSET = s.get F.MON_CAVS_ST_VSET ∧ t.get F.MON_CAVS_ST_CMIN = s.get F.MON_CAVS_ST_CMIN ∧ t.mon.skip = s.mon.skip - 1 ∧
      t.mon.bus = s.mon.bus)) ∧
  (s.clk.present = true → monRuns s = true → ringMin s ≠ none → frozen s L_CORE = false → s.mon.skip ≤ 1 →
    vClamp s L_CORE (s.get F.MON_CAVS_ST_VSET) ≠ s.get F.MON_CAVS_ST_VSET → Gives .coreAvsEval s (fun t =>
      t.get F.MON_CAVS_ST_VSET = vClamp s L_CORE (s.get F.MON_CAVS_ST_VSET))) ∧
  (s.clk.present = false ∨ monRuns s = false → Gives .coreAvsEval s (fun t => t = s)) ∧
  (∀ v : BitVec 10, (s.pstate = SERVICE → s.get F.MON_CAVS_CFG_VMIN ≤ s.get F.MON_CAVS_CFG_VMAX → Gives (.manualVoltage v) s (fun t => t.flag F.MON_CAVS_CFG_MAN = true ∧ t.get F.MON_CAVS_MAN_VMAN = v.toNat ∧
      t.get F.MON_CAVS_ST_VSET = Nat.max (s.get F.MON_CAVS_CFG_VMIN) (Nat.min (s.get F.MON_CAVS_CFG_VMAX) v.toNat))) ∧
    (s.pstate ≠ SERVICE → Gives (.manualVoltage v) s (fun t => OnlyRegs s t ∧ t.flag F.MON_ST_WERR = true ∧ RegsKept s t [A.MON_ST]))) ∧
  (s.flag F.MON_ST_PMERR = true → Gives .pmerrClear s (fun t => t.flag F.MON_ST_PMERR = false ∧
    (∀ b : Bool, nth s.mon.frz (if b then 0 else 1) false = true → pmbReady s b = true → (⟨b, PMB_STATUS, 0, 0⟩ : PmbTr) ∈ t.mon.bus) ∧
    t = { s with regs := t.regs, mon := { s.mon with bus := t.mon.bus } } ∧ RegsKept s t [A.MON_ST])) ∧
  (s.flag F.MON_ST_PMERR = false → Gives .pmerrClear s (fun t => t = s))

/-- The training steps of a Hedgerow port, from DETECT to UP, WAIT and back. Bit lock ends DETECT on the lanes that lock;
adaptation writes the equaliser of each locked lane that is not frozen and ends EQ; DESKEW goes to IDENT. A partner of one
position or one kind of port leads to CONFLICT; agreed lanes lead to RTT, with DEGR and DCAUSE 1 where they are fewer than
permitted and DEGR_EN allows it, else the attempt fails. After 16 echoes RTT gives ONEWAY, LAT and RTO and the port is UP,
on lane 0 alone with DCAUSE 2 on H0 in SENTRY with HG_KEEP, and without kept state a KEY-HELLO enters its hand-off. A failed attempt goes to DETECT, the third in a row to WAIT. A row
outside its step changes nothing. An echo counts and keeps the greatest time; a PING is answered; one adaptation step moves
one element by one within its range; the 2^20th in a row at a limit sets RAIL and is an event with ERRC 2. Rests on spec/18_hedgerow_lanes_and_link.md. -/
def Obligations.HedgerowTraining : Prop := ∀ (s : State) (x : Fin 2), s.hg.port.length = 2 →
  (∀ l0 l1 : Bool, inStep s x HG_DETECT = true → (b2n l0 + 2 * b2n l1) &&& hgLanes s x ≠ 0 → Gives (.detectEnd x l0 l1) s (fun t =>
    t.get (F.HGx_ST_STATE x) = HG_EQ ∧ t.flag (F.HGx_EQl_LOCK x 0) = bit ((b2n l0 + 2 * b2n l1) &&& hgLanes s x) 0 ∧
    t.flag (F.HGx_EQl_LOCK x 1) = bit ((b2n l0 + 2 * b2n l1) &&& hgLanes s x) 1 ∧
    t = { s.setHgp x { s.hgp x with lreq := (b2n l0 + 2 * b2n l1) &&& hgLanes s x } with regs := t.regs } ∧
    RegsKept s t [A.HGx_ST x, A.HGx_EQl x 0, A.HGx_EQl x 1])) ∧
  (∀ l0 l1 : Bool, inStep s x HG_DETECT = false ∨ (b2n l0 + 2 * b2n l1) &&& hgLanes s x = 0 → Gives (.detectEnd x l0 l1) s (fun t => t = s)) ∧
  (∀ v : Fin 2 → EqVal, inStep s x HG_EQ = true → Gives (.eqEnd x (v 0) (v 1)) s (fun t => OnlyRegs s t ∧
    t.get (F.HGx_ST_STATE x) = HG_DESKEW ∧ RegsKept s t [A.HGx_ST x, A.HGx_EQl x 0, A.HGx_EQl x 1] ∧
    ∀ l : Fin 2, (s.flag (F.HGx_EQl_LOCK x l) = true → s.flag (F.HGx_EQl_FREEZE x l) = false →
        t.get (F.HGx_EQl_CTLE x l) = (v l).1.toNat ∧ t.get (F.HGx_EQl_DFE1 x l) = (v l).2.1.toNat ∧
        t.get (F.HGx_EQl_DFE2 x l) = (v l).2.2.1.toNat ∧ t.get (F.HGx_EQl_DFE3 x l) = (v l).2.2.2.toNat) ∧
      (s.flag (F.HGx_EQl_LOCK x l) = false ∨ s.flag (F.HGx_EQl_FREEZE x l) = true → t.rd (A.HGx_EQl x l) = s.rd (A.HGx_EQl x l)))) ∧
  (∀ v0 v1 : EqVal, inStep s x HG_EQ = false → Gives (.eqEnd x v0 v1) s (fun t => t = s)) ∧
  (inStep s x HG_DESKEW = true → Gives (.deskewEnd x) s (fun t => OnlyRegs s t ∧ t.get (F.HGx_ST_STATE x) = HG_IDENT ∧
    RegsKept s t [A.HGx_ST x])) ∧
  (inStep s x HG_DESKEW = false → Gives (.deskewEnd x) s (fun t => t = s)) ∧
  (∀ (c3 : BitVec 4) (tl lr : BitVec 2) (k : Bool) (f : BitVec 8 × BitVec 8 × BitVec 8 × BitVec 8), inStep s x HG_IDENT = true →
    (bit c3.toNat 3 = false → c3.toNat % 4 = s.devid ∨ c3.toNat / 4 % 2 = x.val → Gives (.identEnd x c3 tl lr k f) s (fun t =>
      t.get (F.HGx_ST_STATE x) = HG_CONFLICT ∧ t.get (F.HGx_ST_TXL x) = 0 ∧ t.get (F.HGx_ST_RXL x) = 0 ∧
      t.flag (F.INT_SRCs_LIVE (97 + 8 * x)) = true)) ∧
    (bit c3.toNat 3 = true ∨ c3.toNat % 4 ≠ s.devid ∧ c3.toNat / 4 % 2 ≠ x.val →
      hgLanes s x &&& lr.toNat ≠ 0 → tl.toNat &&& (s.hgp x).lreq ≠ 0 →
      (hgLanes s x &&& lr.toNat = hgLanes s x ∧ tl.toNat &&& (s.hgp x).lreq = hgLanes s x) ∨ s.flag (F.HGx_CFG_DEGR_EN x) = true →
      Gives (.identEnd x c3 tl lr k f) s (fun t => t.get (F.HGx_ST_STATE x) = HG_RTT ∧
        t.get (F.HGx_ST_PDEVID x) = c3.toNat % 4 ∧ t.flag (F.HGx_ST_PPORT x) = bit c3.toNat 2 ∧ t.flag (F.HGx_ST_PBRIDGE x) = bit c3.toNat 3 ∧
        t.get (F.HGx_ST_TXL x) = hgLanes s x &&& lr.toNat ∧ t.get (F.HGx_ST_RXL x) = (tl.toNat &&& (s.hgp x).lreq) % 4 ∧
        t.flag (F.HGx_ST_DEGR x) = decide (¬(hgLanes s x &&& lr.toNat = hgLanes s x ∧ tl.toNat &&& (s.hgp x).lreq = hgLanes s x)) ∧
        t.get (F.HGx_ST_DCAUSE x) = (if hgLanes s x &&& lr.toNat = hgLanes s x ∧ tl.toNat &&& (s.hgp x).lreq = hgLanes s x then 0 else 1) ∧
        (t.hgp x).hisLreq = lr.toNat ∧ (t.hgp x).hisKeep = k ∧
        ((s.hgp x).keep && k = false → (t.hgp x).clean = true ∧ (t.hgp x).init = [f.1.toNat, f.2.1.toNat, f.2.2.1.toNat, f.2.2.2.toNat]) ∧
        ((s.hgp x).keep && k = true → (t.hgp x).unacked = (s.hgp x).unacked ∧ (t.hgp x).init = (s.hgp x).init ∧ (t.hgp x).key = (s.hgp x).key))) ∧
    (bit c3.toNat 3 = true ∨ c3.toNat % 4 ≠ s.devid ∧ c3.toNat / 4 % 2 ≠ x.val →
      hgLanes s x &&& lr.toNat = 0 ∨ tl.toNat &&& (s.hgp x).lreq = 0 ∨
        (¬(hgLanes s x &&& lr.toNat = hgLanes s x ∧ tl.toNat &&& (s.hgp x).lreq = hgLanes s x) ∧ s.flag (F.HGx_CFG_DEGR_EN x) = false) →
      Gives (.identEnd x c3 tl lr k f) s (fun t => t.get (F.HGx_ST_STATE x) = (if (s.hgp x).fails < 2 then HG_DETECT else HG_WAIT)))) ∧
  (∀ (c3 : BitVec 4) (tl lr : BitVec 2) (k : Bool) (f : BitVec 8 × BitVec 8 × BitVec 8 × BitVec 8), inStep s x HG_IDENT = false →
    Gives (.identEnd x c3 tl lr k f) s (fun t => t = s)) ∧
  (inStep s x HG_RTT = true → 16 ≤ (s.hgp x).echoes → Gives (.rttEnd x) s (fun t => t.get (F.HGx_ST_STATE x) = HG_UP ∧
    t.get (F.HGx_RTT_ONEWAY x) = ceilDiv ((s.hgp x).crt - 64) 2 % 2 ^ 12 ∧
    t.get (F.HGx_RTT_LAT x) = ceilDiv (ceilDiv ((s.hgp x).crt - 64) 2 * 10) (nL s) % 2 ^ 12 ∧
    t.get (F.HGx_RTO_RTO x) = hgRto (ceilDiv ((s.hgp x).crt - 64) 2) (popcount 2 (s.get (F.HGx_ST_TXL x))) % 2 ^ 10 ∧
    t.flag (F.HGx_ST_KEPT x) = ((s.hgp x).keep && (s.hgp x).hisKeep) ∧ (t.hgp x).fails = 0 ∧ (t.hgp x).retx = (s.hgp x).unacked ∧
    intPend t (96 + 8 * x) = true ∧ t.flag (F.INT_SRCs_LIVE (97 + 8 * x)) = false ∧
    (x.val = 0 → s.pwr.deferring = true → s.flag F.PWR_CFG_HG_KEEP = true → t.get (F.HGx_ST_TXL x) = 1 ∧ t.get (F.HGx_ST_RXL x) = 1 ∧
      t.flag (F.HGx_ST_DEGR x) = true ∧ t.get (F.HGx_ST_DCAUSE x) = 2 ∧ (t.hgp x).lreq = 1) ∧
    (x.val ≠ 0 ∨ s.pwr.deferring = false ∨ s.flag F.PWR_CFG_HG_KEEP = false → t.get (F.HGx_ST_TXL x) = s.get (F.HGx_ST_TXL x) ∧
      t.get (F.HGx_ST_RXL x) = s.get (F.HGx_ST_RXL x) ∧ t.get (F.HGx_ST_DCAUSE x) = s.get (F.HGx_ST_DCAUSE x) ∧ (t.hgp x).lreq = (s.hgp x).lreq) ∧
    ((s.hgp x).keep && (s.hgp x).hisKeep = true → (t.hgp x).tx = (s.hgp x).tx ∧ t.hg.session = s.hg.session) ∧
    ((s.hgp x).keep && (s.hgp x).hisKeep = false → t.get (F.HGx_SEC_KST x) = 1 ∧ t.hg.session = s.hg.session + 1 ∧
      ∃ m, (t.hgp x).tx = (s.hgp x).tx ++ [(VC_CTRL, m)] ∧ m.typ = T_KEY_HELLO ∧ m.param = 0 ∧
        m.body = bytesOfLe 8 s.hg.session ++ [hgChar3 s x] ++ List.replicate 7 0))) ∧
  (inStep s x HG_RTT = false ∨ (s.hgp x).echoes < 16 → Gives (.rttEnd x) s (fun t => t = s)) ∧
  (hgRuns s x = true → hgTraining s x = true → Gives (.trainingTimeout x) s (fun t =>
    ((s.hgp x).fails < 2 → t.get (F.HGx_ST_STATE x) = HG_DETECT ∧ (t.hgp x).fails = (s.hgp x).fails + 1 ∧ (t.hgp x).echoes = 0) ∧
    (2 ≤ (s.hgp x).fails → t.get (F.HGx_ST_STATE x) = HG_WAIT ∧ (t.hgp x).fails = 0) ∧ t.flag (F.INT_SRCs_LIVE (97 + 8 * x)) = true)) ∧
  (hgRuns s x = false ∨ hgTraining s x = false → Gives (.trainingTimeout x) s (fun t => t = s)) ∧
  (inStep s x HG_WAIT = true ∨ inStep s x HG_CONFLICT = true → Gives (.waitEnd x) s (fun t => t.get (F.HGx_ST_STATE x) = HG_DETECT ∧
    t.get (F.HGx_ST_TXL x) = hgLanes s x ∧ t.get (F.HGx_ST_RXL x) = 0 ∧ (t.hgp x).echoes = 0)) ∧
  (inStep s x HG_WAIT = false → inStep s x HG_CONFLICT = false → Gives (.waitEnd x) s (fun t => t = s)) ∧
  (∀ i : BitVec 4, inStep s x HG_RTT = true ∨ inStep s x HG_UP = true → Gives (.ping x i) s (fun t =>
    t = { s with hg := { s.hg with line := [(x.val, [K28_4, i.toNat])] } })) ∧
  (∀ i : BitVec 4, inStep s x HG_RTT = false → inStep s x HG_UP = false → Gives (.ping x i) s (fun t => t = s)) ∧
  (∀ (i : BitVec 4) (crt : Nat), inStep s x HG_RTT = true → (s.hgp x).echoes = i.toNat → Gives (.echo x i crt) s (fun t =>
    t = s.setHgp x { s.hgp x with echoes := (s.hgp x).echoes + 1, crt := Nat.max (s.hgp x).crt crt })) ∧
  (∀ (i : BitVec 4) (crt : Nat), inStep s x HG_RTT = false ∨ (s.hgp x).echoes ≠ i.toNat → Gives (.echo x i crt) s (fun t => t = s)) ∧
  (∀ (l : Fin 2) (up : Bool), s.get (F.HGx_ST_STATE x) = HG_EQ ∨ s.get (F.HGx_ST_STATE x) = HG_UP → hgRuns s x = true →
    s.flag (F.HGx_EQl_LOCK x l) = true → s.flag (F.HGx_EQl_FREEZE x l) = false → (∀ j < 8, nth (s.hgp x).railRun j 0 + 1 < 2 ^ 20) →
    Gives (.eqAdapt x l 0 up) s (fun t => RegsKept s t [A.HGx_EQl x l] ∧
      (t.get (F.HGx_EQl_CTLE x l) : Int) = clampI 0 15 (if up then s.get (F.HGx_EQl_CTLE x l) + 1 else (s.get (F.HGx_EQl_CTLE x l) : Int) - 1)) ∧
    Gives (.eqAdapt x l 1 up) s (fun t => RegsKept s t [A.HGx_EQl x l] ∧
      (t.get (F.HGx_EQl_DFE1 x l) : Int) = clampI 0 255 (if up then s.get (F.HGx_EQl_DFE1 x l) + 1 else (s.get (F.HGx_EQl_DFE1 x l) : Int) - 1)) ∧
    Gives (.eqAdapt x l 2 up) s (fun t => RegsKept s t [A.HGx_EQl x l] ∧
      t.getI (F.HGx_EQl_DFE2 x l) = clampI (-32) 31 (if up then s.getI (F.HGx_EQl_DFE2 x l) + 1 else s.getI (F.HGx_EQl_DFE2 x l) - 1)) ∧
    Gives (.eqAdapt x l 3 up) s (fun t => RegsKept s t [A.HGx_EQl x l] ∧
      t.getI (F.HGx_EQl_DFE3 x l) = clampI (-32) 31 (if up then s.getI (F.HGx_EQl_DFE3 x l) + 1 else s.getI (F.HGx_EQl_DFE3 x l) - 1))) ∧
  (∀ (l : Fin 2) (e : Fin 4) (up : Bool), s.get (F.HGx_ST_STATE x) = HG_EQ ∨ s.get (F.HGx_ST_STATE x) = HG_UP → hgRuns s x = true →
    s.flag (F.HGx_EQl_LOCK x l) = true → s.flag (F.HGx_EQl_FREEZE x l) = false → nth (s.hgp x).railRun (4 * l.val + e.val) 0 + 1 = 2 ^ 20 →
    (if e.val < 2 then (s.get (eqElem x l e).1 : Int) else s.getI (eqElem x l e).1) = (if up then (eqElem x l e).2.2 else (eqElem x l e).2.1) →
    Gives (.eqAdapt x l e up) s (fun t => t.flag (F.HGx_EQl_RAIL x l) = true ∧ t.get (F.HGx_ST_ERRC x) = 2 ∧ intPend t (99 + 8 * x) = true ∧
      (if e.val < 2 then (t.get (eqElem x l e).1 : Int) else t.getI (eqElem x l e).1) = (if up then (eqElem x l e).2.2 else (eqElem x l e).2.1))) ∧
  (∀ (l : Fin 2) (e : Fin 4) (up : Bool), s.flag (F.HGx_EQl_LOCK x l) = false ∨ s.flag (F.HGx_EQl_FREEZE x l) = true ∨ hgRuns s x = false ∨
      (s.get (F.HGx_ST_STATE x) ≠ HG_EQ ∧ s.get (F.HGx_ST_STATE x) ≠ HG_UP) →
    Gives (.eqAdapt x l e up) s (fun t => t = s))

/-- Lanes that fail or are given up, retraining, and a Hedgerow link that goes down. On a port that is UP: a receive lane
that misses ALIGNs, loses lock or shows errors, and one that LANEMODE gives up, leaves LREQ and the direction degrades to
the lane that remains, with DEGR, DCAUSE 1 and source 98 or 106; without DEGR_EN, or with no lane left, the link goes down.
A retry timeout counts and retransmits everything unacknowledged; the eighth in a row is a retry storm and takes the link
down. No STATUS for 1 ms, or loss of lock, takes it down: the sequence spaces, the credits and the keys end, the discarded
frames and the reset are counted, and the port trains again where it is enabled. A mask that clears a lane in use degrades
with DCAUSE 3, or takes the link down where it leaves no lane; a mask that adds a lane retrains. A retrain with state keeps what
is unacknowledged; in WAIT or CONFLICT training starts at once. ERRLIM errors in a window are an event with ERRC 1.
Outside UP, or where nothing is lost, these rows change nothing. Rests on spec/18_hedgerow_lanes_and_link.md. -/
def Obligations.HedgerowLanes : Prop := ∀ (s : State) (x : Fin 2), s.hg.port.length = 2 →
  (inStep s x HG_UP = true ∨ inStep s x HG_DESKEW = true → Gives (.alignSend x) s (fun t =>
    t = { s with hg := { s.hg with line := [(x.val, List.replicate (popcount 2 (s.get (F.HGx_ST_TXL x))) K28_3)] } })) ∧
  (inStep s x HG_UP = false → inStep s x HG_DESKEW = false → Gives (.alignSend x) s (fun t => t = s)) ∧
  (∀ l : Fin 2, inStep s x HG_UP = true → s.bitOf (F.HGx_ST_RXL x) l = true → s.flag (F.HGx_CFG_DEGR_EN x) = true →
    s.get (F.HGx_ST_TXL x) ≠ 0 → setBit (s.get (F.HGx_ST_RXL x)) l false ≠ 0 →
    Gives (.alignMissed x l) s (fun t => t.get (F.HGx_ST_RXL x) = setBit (s.get (F.HGx_ST_RXL x)) l false ∧
      t.get (F.HGx_ST_TXL x) = s.get (F.HGx_ST_TXL x) ∧ t.flag (F.HGx_ST_DEGR x) = true ∧ t.get (F.HGx_ST_DCAUSE x) = 1 ∧
      t.get (F.HGx_ST_STATE x) = HG_UP ∧ t.flag (F.INT_SRCs_LIVE (98 + 8 * x)) = true ∧
      t = { s.setHgp x { s.hgp x with lreq := setBit (s.hgp x).lreq l false } with regs := t.regs } ∧
      RegsKept s t (A.HGx_ST x :: sourceRegs (98 + 8 * x))) ∧
    (∀ (u : Bool) (n : Nat), Gives (.laneFail x l u n) s (fun t => t.get (F.HGx_ST_RXL x) = setBit (s.get (F.HGx_ST_RXL x)) l false ∧
      t.flag (F.HGx_ST_DEGR x) = true ∧ t.get (F.HGx_ST_DCAUSE x) = 1 ∧ t.flag (F.INT_SRCs_LIVE (98 + 8 * x)) = true ∧
      t.flag (F.HGx_EQl_LOCK x l) = (s.flag (F.HGx_EQl_LOCK x l) && !u) ∧
      t.pair (A.HGx_CODEERRl_LO x l) = (s.pair (A.HGx_CODEERRl_LO x l) + n) % 2 ^ 64 ∧
      RegsKept s t (A.HGx_ST x :: A.HGx_EQl x l :: pairRegs (A.HGx_CODEERRl_LO x l) ++ sourceRegs (98 + 8 * x))))) ∧
  (∀ (l : Fin 2) (k : BitVec 2), inStep s x HG_UP = true → s.get (F.HGx_ST_RXL x) = 3 → k.toNat = 2 ^ l.val →
    s.flag (F.HGx_CFG_DEGR_EN x) = true → s.get (F.HGx_ST_TXL x) ≠ 0 → Gives (.lanemode x k) s (fun t =>
      t.get (F.HGx_ST_RXL x) = k.toNat ∧ t.get (F.HGx_ST_TXL x) = s.get (F.HGx_ST_TXL x) ∧ t.flag (F.HGx_ST_DEGR x) = true ∧
      t.get (F.HGx_ST_DCAUSE x) = 1 ∧ (t.hgp x).lreq = (s.hgp x).lreq &&& k.toNat)) ∧
  (∀ l : Fin 2, inStep s x HG_UP = true → s.bitOf (F.HGx_ST_RXL x) l = true →
    s.flag (F.HGx_CFG_DEGR_EN x) = false ∨ s.get (F.HGx_ST_TXL x) = 0 ∨ setBit (s.get (F.HGx_ST_RXL x)) l false = 0 →
    Gives (.alignMissed x l) s (fun t => t.get (F.HGx_ST_STATE x) = (if s.flag (F.HGx_CFG_EN x) then HG_DETECT else HG_OFF) ∧
      (t.hgp x).clean = true ∧ t.flag (F.INT_SRCs_LIVE (97 + 8 * x)) = true) ∧
    ∀ (u : Bool) (n : Nat), Gives (.laneFail x l u n) s (fun t => t.get (F.HGx_ST_STATE x) = (if s.flag (F.HGx_CFG_EN x) then HG_DETECT else HG_OFF) ∧
      (t.hgp x).clean = true ∧ t.flag (F.INT_SRCs_LIVE (97 + 8 * x)) = true)) ∧
  (∀ l : Fin 2, inStep s x HG_UP = true → s.bitOf (F.HGx_ST_RXL x) l = false → Gives (.alignMissed x l) s (fun t => t = s) ∧
    ∀ (u : Bool) (n : Nat), Gives (.laneFail x l u n) s (fun t => OnlyRegs s t ∧
      t.flag (F.HGx_EQl_LOCK x l) = (s.flag (F.HGx_EQl_LOCK x l) && !u) ∧
      t.pair (A.HGx_CODEERRl_LO x l) = (s.pair (A.HGx_CODEERRl_LO x l) + n) % 2 ^ 64 ∧
      RegsKept s t (A.HGx_EQl x l :: pairRegs (A.HGx_CODEERRl_LO x l)))) ∧
  (∀ k : BitVec 2, inStep s x HG_UP = true → s.get (F.HGx_ST_RXL x) ≠ 0 → s.get (F.HGx_ST_RXL x) &&& k.toNat = 0 → Gives (.lanemode x k) s (fun t =>
    t.get (F.HGx_ST_STATE x) = (if s.flag (F.HGx_CFG_EN x) then HG_DETECT else HG_OFF) ∧ (t.hgp x).clean = true)) ∧
  (∀ k : BitVec 2, s.get (F.HGx_ST_RXL x) &&& k.toNat = s.get (F.HGx_ST_RXL x) → Gives (.lanemode x k) s (fun t => t = s)) ∧
  (inStep s x HG_UP = false → (∀ l : Fin 2, Gives (.alignMissed x l) s (fun t => t = s) ∧
    ∀ (u : Bool) (n : Nat), Gives (.laneFail x l u n) s (fun t => t = s)) ∧
    (∀ k : BitVec 2, Gives (.lanemode x k) s (fun t => t = s)) ∧ Gives (.statusTimeout x) s (fun t => t = s) ∧
    Gives (.rtoExpire x) s (fun t => t = s) ∧ Gives (.statusSend x) s (fun t => t = s) ∧ Gives (.frameTransmit x) s (fun t => t = s)) ∧
  (inStep s x HG_UP = true → (s.hgp x).unacked ≠ [] → s.clk.phase = .run → (s.hgp x).rtos < 7 → Gives (.rtoExpire x) s (fun t =>
    t = { s.setHgp x { s.hgp x with retx := (s.hgp x).unacked, rtos := (s.hgp x).rtos + 1 } with regs := t.regs } ∧
    t.pair (A.HGx_TIMEOUT_LO x) = (s.pair (A.HGx_TIMEOUT_LO x) + 1) % 2 ^ 64 ∧ RegsKept s t (pairRegs (A.HGx_TIMEOUT_LO x)))) ∧
  ((s.hgp x).unacked = [] ∨ s.clk.phase ≠ .run → Gives (.rtoExpire x) s (fun t => t = s)) ∧
  (inStep s x HG_UP = true → (s.hgp x).unacked ≠ [] → s.clk.phase = .run → 7 ≤ (s.hgp x).rtos → Gives (.rtoExpire x) s (fun t =>
    t.pair (A.HGx_TIMEOUT_LO x) = (s.pair (A.HGx_TIMEOUT_LO x) + 1) % 2 ^ 64 ∧ t.get (F.HGx_ST_ERRC x) = 3 ∧ intPend t (99 + 8 * x) = true ∧
    hgUp t x = false ∧ (t.hgp x).clean = true)) ∧
  (inStep s x HG_UP = true → (s.hgp x).clean = false → Gives (.statusTimeout x) s (fun t =>
    t.get (F.HGx_ST_STATE x) = (if s.flag (F.HGx_CFG_EN x) then HG_DETECT else HG_OFF) ∧
    t.pair (A.HGx_DISC_LO x) = (s.pair (A.HGx_DISC_LO x) + (s.hgp x).unacked.length) % 2 ^ 64 ∧
    t.pair (A.HGx_LRESET_LO x) = (s.pair (A.HGx_LRESET_LO x) + 1) % 2 ^ 64 ∧
    (t.hgp x).unacked = [] ∧ (t.hgp x).retx = [] ∧ (t.hgp x).nextSeq = 0 ∧ (t.hgp x).expSeq = 0 ∧ (t.hgp x).init = [0, 0, 0, 0] ∧
    (t.hgp x).key = KeySt.reset ∧ (t.hgp x).rx = (s.hgp x).rx ∧ t.get (F.HGx_SEC_KST x) = 0 ∧ (t.rd (A.HGx_TXCTR x)).toNat = 0 ∧
    (t.rd (A.HGx_RXCTR x)).toNat = 0 ∧ t.flag (F.HGx_ST_DEGR x) = false ∧ t.flag (F.INT_SRCs_LIVE (97 + 8 * x)) = true ∧
    t.flag (F.INT_SRCs_LIVE (98 + 8 * x)) = false ∧ t.hgp (1 - x.val) = s.hgp (1 - x.val))) ∧
  (inStep s x HG_UP = true → (s.hgp x).clean = false → Gives (.linkDown x) s (fun t =>
    t.get (F.HGx_ST_STATE x) = (if s.flag (F.HGx_CFG_EN x) then HG_DETECT else HG_OFF) ∧
    t.pair (A.HGx_DISC_LO x) = (s.pair (A.HGx_DISC_LO x) + (s.hgp x).unacked.length) % 2 ^ 64 ∧
    t.pair (A.HGx_LRESET_LO x) = (s.pair (A.HGx_LRESET_LO x) + 1) % 2 ^ 64 ∧
    (t.hgp x).unacked = [] ∧ (t.hgp x).retx = [] ∧ (t.hgp x).nextSeq = 0 ∧ (t.hgp x).expSeq = 0 ∧ (t.hgp x).init = [0, 0, 0, 0] ∧
    (t.hgp x).key = KeySt.reset ∧ (t.hgp x).rx = (s.hgp x).rx ∧ t.get (F.HGx_SEC_KST x) = 0 ∧ (t.rd (A.HGx_TXCTR x)).toNat = 0 ∧
    (t.rd (A.HGx_RXCTR x)).toNat = 0 ∧ t.flag (F.HGx_ST_DEGR x) = false ∧ t.flag (F.INT_SRCs_LIVE (97 + 8 * x)) = true ∧
    t.flag (F.INT_SRCs_LIVE (98 + 8 * x)) = false ∧ t.hgp (1 - x.val) = s.hgp (1 - x.val))) ∧
  (hgUp s x = false → Gives (.linkDown x) s (fun t => t = s)) ∧
  (hgRuns s x = true → ∀ e0 e1 : Nat,
    s.pair (A.HGx_CRCERR_LO x) + (s.pair (A.HGx_CODEERRl_LO x 0) + e0) % 2 ^ 64 + (s.pair (A.HGx_CODEERRl_LO x 1) + e1) % 2 ^ 64 - (s.hgp x).errBase
      < s.get (F.HGx_CFG_ERRLIM x) → Gives (.errorRateWindow x e0 e1) s (fun t =>
    (t.hgp x).errBase = s.pair (A.HGx_CRCERR_LO x) + (s.pair (A.HGx_CODEERRl_LO x 0) + e0) % 2 ^ 64 + (s.pair (A.HGx_CODEERRl_LO x 1) + e1) % 2 ^ 64 ∧
    t.pair (A.HGx_CODEERRl_LO x 0) = (s.pair (A.HGx_CODEERRl_LO x 0) + e0) % 2 ^ 64 ∧
    t.pair (A.HGx_CODEERRl_LO x 1) = (s.pair (A.HGx_CODEERRl_LO x 1) + e1) % 2 ^ 64 ∧
    RegsKept s t (pairRegs (A.HGx_CODEERRl_LO x 0) ++ pairRegs (A.HGx_CODEERRl_LO x 1)))) ∧
  (hgRuns s x = true → ∀ e0 e1 : Nat, s.get (F.HGx_CFG_ERRLIM x) ≤
    s.pair (A.HGx_CRCERR_LO x) + (s.pair (A.HGx_CODEERRl_LO x 0) + e0) % 2 ^ 64 + (s.pair (A.HGx_CODEERRl_LO x 1) + e1) % 2 ^ 64 - (s.hgp x).errBase →
    Gives (.errorRateWindow x e0 e1) s (fun t => t.get (F.HGx_ST_ERRC x) = 1 ∧ intPend t (99 + 8 * x) = true)) ∧
  (∀ e0 e1 : Nat, hgRuns s x = false → Gives (.errorRateWindow x e0 e1) s (fun t => t = s)) ∧
  (hgUp s x = true → s.flag (F.HGx_CFG_EN x) = true → hgRuns s x = true → Gives (.retrain x) s (fun t =>
    t.get (F.HGx_ST_STATE x) = HG_DETECT ∧ (t.hgp x).keep = true ∧ (t.hgp x).unacked = (s.hgp x).unacked ∧
    (t.hgp x).key = (s.hgp x).key ∧ (t.hgp x).init = (s.hgp x).init ∧ t.flag (F.INT_SRCs_LIVE (97 + 8 * x)) = true)) ∧
  (s.get (F.HGx_ST_STATE x) = HG_WAIT ∨ s.get (F.HGx_ST_STATE x) = HG_CONFLICT → s.flag (F.HGx_CFG_EN x) = true → hgRuns s x = true →
    Gives (.retrain x) s (fun t => t.get (F.HGx_ST_STATE x) = HG_DETECT ∧ (t.hgp x).keep = !(s.hgp x).clean ∧
      (t.hgp x).unacked = (s.hgp x).unacked)) ∧
  (s.flag (F.HGx_CFG_EN x) = false ∨ hgRuns s x = false ∨
      (s.get (F.HGx_ST_STATE x) ≠ HG_UP ∧ s.get (F.HGx_ST_STATE x) ≠ HG_WAIT ∧ s.get (F.HGx_ST_STATE x) ≠ HG_CONFLICT) → Gives (.retrain x) s (fun t => t = s)) ∧
  (∀ l : Fin 2, hgUp s x = true → hgLanes s x = 2 ^ l.val → s.get (F.HGx_ST_TXL x) = 3 → s.get (F.HGx_ST_RXL x) = 3 →
    Gives (.lanesChange x 3) s (fun t => t.get (F.HGx_ST_TXL x) = 2 ^ l.val ∧ t.get (F.HGx_ST_RXL x) = 2 ^ l.val ∧
      t.flag (F.HGx_ST_DEGR x) = true ∧ t.get (F.HGx_ST_DCAUSE x) = 3 ∧ t.get (F.HGx_ST_STATE x) = HG_UP ∧
      (t.hgp x).retx = (s.hgp x).unacked)) ∧
  (∀ o : BitVec 2, hgUp s x = true → hgLanes s x ≠ o.toNat → hgLanes s x ||| o.toNat = o.toNat →
    s.get (F.HGx_ST_TXL x) &&& hgLanes s x = 0 ∨ s.get (F.HGx_ST_RXL x) &&& hgLanes s x = 0 → Gives (.lanesChange x o) s (fun t =>
      hgUp t x = false ∧ (t.hgp x).clean = true)) ∧
  (∀ o : BitVec 2, hgUp s x = true → hgLanes s x ≠ o.toNat → hgLanes s x = (hgLanes s x ||| o.toNat) → Gives (.lanesChange x o) s (fun t =>
    t = hgRetrain s x)) ∧
  (∀ o : BitVec 2, hgUp s x = true → hgLanes s x ≠ (hgLanes s x ||| o.toNat) → o.toNat ≠ (hgLanes s x ||| o.toNat) → Gives (.lanesChange x o) s (fun t =>
    t = hgRetrain (hgDegrade (s.setHgp x { s.hgp x with lreq := (s.hgp x).lreq &&& hgLanes s x, retx := (s.hgp x).unacked }) x
      (s.get (F.HGx_ST_TXL x) &&& hgLanes s x) (s.get (F.HGx_ST_RXL x) &&& hgLanes s x) 3) x)) ∧
  (∀ o : BitVec 2, hgUp s x = false ∨ hgLanes s x = o.toNat → Gives (.lanesChange x o) s (fun t => t = s))

/-- A frame checked after it is built gives its fields back, and so does a parsed message. For every VC below 4, KIND below
2, SEQ below 4096 and payload of at most 256 bytes, the checks on the bytes between SOF and EOF of the frame give back
KIND, VC, SEQ and the payload, and the same bytes with a code error or an ABORT are discarded. For every message whose
TYPE, HOPS and HOPMAX are bytes, whose DST and SRC are below 8, whose PARAM is below 2^32 and whose trailer is 16 bytes
with AUTH and none without, the message parsed from its bytes is that message. A payload with the must-be-0 bit of byte 1
set, or too short for its header and trailer, is no message. Rests on spec/18_hedgerow_lanes_and_link.md,
spec/19_hedgerow_messages_and_systems.md. -/
def Obligations.FramesAndMessagesRoundTrip : Prop :=
  (∀ (vc kind seq : Nat) (pl : List Nat), vc < 4 → kind < 2 → seq < 4096 → pl.length ≤ 256 → (∀ b ∈ pl, b < 256) →
    frameCheck (frameBytes vc kind seq pl) false false = .good kind vc seq pl ∧
    (frameBytes vc kind seq pl).length = 8 + (pl.length + 3) / 4 * 4 ∧ (∀ b ∈ frameBytes vc kind seq pl, b < 256) ∧
    frameCheck (frameBytes vc kind seq pl) true false = .crc ∧ frameCheck (frameBytes vc kind seq pl) false true = .crc) ∧
  (∀ m : Msg, m.dst < 8 → m.src < 8 → m.param < 2 ^ 32 → m.trailer.length = (if m.auth then 16 else 0) →
    msgParse (msgBytes m ++ m.trailer) = some m) ∧
  (∀ pl : List Nat, pl.length < 8 ∨ 128 ≤ nth pl 1 0 ∨ (bit (nth pl 1 0) 6 = true ∧ pl.length < 24) → msgParse pl = none)

/-- What a received DATA or STATUS frame does on a Hedgerow port that is UP. A discarded DATA frame counts in CRCERR or
PROTERR, its code errors count against their lanes, and a NAK falls due once; a discarded STATUS frame counts and asks for
nothing. A DATA frame up to 16 behind the expected SEQ is a duplicate and changes nothing; another out of order leads to a
NAK. The expected one with no free slot is a protocol error that resets the link; otherwise SEQ advances, FRX counts and
its message is taken: one that is no message counts in MSGERR and frees its slot, and an unauthenticated one for this
device, where none is asked for, waits in its slot. A STATUS frame releases what it acknowledges, takes the partner's freed
credits, and a NAK in it retransmits what is left; FREED beyond the slots is a protocol error, and so is a STATUS frame of another shape. A
frame of the other kind is left to its own row, and outside UP no frame does anything. Rests on
spec/18_hedgerow_lanes_and_link.md, spec/19_hedgerow_messages_and_systems.md. -/
def Obligations.HedgerowReceive : Prop := ∀ (s : State) (x : Fin 2), s.hg.port.length = 2 →
  (inStep s x HG_UP = false → ∀ (f : List Byte) (e0 e1 : Nat) (ab : Bool), Gives (.dataFrame x f e0 e1 ab) s (fun t => t = s) ∧
    Gives (.statusFrame x f e0 e1 ab) s (fun t => t = s)) ∧
  (inStep s x HG_UP = true →
  (∀ (f : List Byte) (e0 e1 : Nat) (ab : Bool), frameCheck (f.map BitVec.toNat) (decide (e0 + e1 ≠ 0)) ab = .crc →
    Gives (.dataFrame x f e0 e1 ab) s (fun t => t.pair (A.HGx_CRCERR_LO x) = (s.pair (A.HGx_CRCERR_LO x) + 1) % 2 ^ 64 ∧
      t.pair (A.HGx_CODEERRl_LO x 0) = (s.pair (A.HGx_CODEERRl_LO x 0) + e0) % 2 ^ 64 ∧
      t.pair (A.HGx_CODEERRl_LO x 1) = (s.pair (A.HGx_CODEERRl_LO x 1) + e1) % 2 ^ 64 ∧
      t = { s.setHgp x { s.hgp x with nak := if (s.hgp x).nak = 0 then 1 else (s.hgp x).nak } with regs := t.regs } ∧
      RegsKept s t (pairRegs (A.HGx_CRCERR_LO x) ++ pairRegs (A.HGx_CODEERRl_LO x 0) ++ pairRegs (A.HGx_CODEERRl_LO x 1))) ∧
    Gives (.statusFrame x f e0 e1 ab) s (fun t => OnlyRegs s t ∧ t.pair (A.HGx_CRCERR_LO x) = (s.pair (A.HGx_CRCERR_LO x) + 1) % 2 ^ 64 ∧
      RegsKept s t (pairRegs (A.HGx_CRCERR_LO x) ++ pairRegs (A.HGx_CODEERRl_LO x 0) ++ pairRegs (A.HGx_CODEERRl_LO x 1)))) ∧
  (∀ (f : List Byte) (ab : Bool), frameCheck (f.map BitVec.toNat) false ab = .proto →
    Gives (.dataFrame x f 0 0 ab) s (fun t => t.pair (A.HGx_PROTERR_LO x) = (s.pair (A.HGx_PROTERR_LO x) + 1) % 2 ^ 64 ∧
      t = { s.setHgp x { s.hgp x with nak := if (s.hgp x).nak = 0 then 1 else (s.hgp x).nak } with regs := t.regs } ∧
      RegsKept s t (pairRegs (A.HGx_PROTERR_LO x))) ∧
    Gives (.statusFrame x f 0 0 ab) s (fun t => OnlyRegs s t ∧ t.pair (A.HGx_PROTERR_LO x) = (s.pair (A.HGx_PROTERR_LO x) + 1) % 2 ^ 64 ∧
      RegsKept s t (pairRegs (A.HGx_PROTERR_LO x)))) ∧
  (∀ (f : List Byte) (vc seq : Nat) (pl : List Nat), frameCheck (f.map BitVec.toNat) false false = .good 0 vc seq pl →
    (s.hgp x).expSeq < 4096 →
    (seq ≠ (s.hgp x).expSeq → ((s.hgp x).expSeq + 4096 - seq) % 4096 ≤ 16 → ((s.hgp x).expSeq + 4096 - seq) % 4096 ≠ 0 →
      Gives (.dataFrame x f 0 0 false) s (fun t => OnlyRegs s t ∧ RegsKept s t [])) ∧
    (16 < ((s.hgp x).expSeq + 4096 - seq) % 4096 → Gives (.dataFrame x f 0 0 false) s (fun t =>
      t = { s.setHgp x { s.hgp x with nak := if (s.hgp x).nak = 0 then 1 else (s.hgp x).nak } with regs := t.regs } ∧ RegsKept s t [])) ∧
    (seq = (s.hgp x).expSeq → hgSlots vc ≤ ((s.hgp x).rx.filter (fun r => r.vc == vc)).length →
      Gives (.dataFrame x f 0 0 false) s (fun t => t.pair (A.HGx_PROTERR_LO x) = (s.pair (A.HGx_PROTERR_LO x) + 1) % 2 ^ 64 ∧
        hgUp t x = false ∧ (t.hgp x).clean = true)) ∧
    (seq = (s.hgp x).expSeq → ((s.hgp x).rx.filter (fun r => r.vc == vc)).length < hgSlots vc → msgParse pl = none →
      Gives (.dataFrame x f 0 0 false) s (fun t => t.pair (A.HGx_FRX_LO x) = (s.pair (A.HGx_FRX_LO x) + 1) % 2 ^ 64 ∧
        t.pair (A.HGx_MSGCNTk_LO x 3) = (s.pair (A.HGx_MSGCNTk_LO x 3) + 1) % 2 ^ 64 ∧
        t = { s.setHgp x { s.hgp x with expSeq := ((s.hgp x).expSeq + 1) % 4096, ackV := true, nak := 0, myFreed := setNth (s.hgp x).myFreed vc ((nth (s.hgp x).myFreed vc 0 + 1) % 256) } with regs := t.regs } ∧
        RegsKept s t (pairRegs (A.HGx_FRX_LO x) ++ pairRegs (A.HGx_MSGCNTk_LO x 3)))) ∧
    (∀ m : Msg, seq = (s.hgp x).expSeq → 2 ≤ vc → (s.hgp 0).rx = [] → (s.hgp 1).rx = [] → msgParse pl = some m → m.auth = false →
      hgAuth s x vc = false → typeVc m.typ = some vc → bodyOk m = true → s.devid < 4 → m.dst = s.devid →
      Gives (.dataFrame x f 0 0 false) s (fun t => t.pair (A.HGx_FRX_LO x) = (s.pair (A.HGx_FRX_LO x) + 1) % 2 ^ 64 ∧
        t = { s.setHgp x { s.hgp x with expSeq := ((s.hgp x).expSeq + 1) % 4096, ackV := true, nak := 0, rx := [⟨vc, { m with hops := m.hops + 1 }, true, none, s.time.hsck⟩] } with regs := t.regs } ∧
        RegsKept s t (pairRegs (A.HGx_FRX_LO x))))) ∧
  (∀ (f : List Byte) (pl : List Nat), frameCheck (f.map BitVec.toNat) false false = .good 1 0 0 pl → pl.length = 12 →
    ((∃ v < 4, 32 < (nth (s.hgp x).sent v 0 + 256 - nth pl (4 + v) 0) % 256) → Gives (.statusFrame x f 0 0 false) s (fun t =>
      t.pair (A.HGx_PROTERR_LO x) = (s.pair (A.HGx_PROTERR_LO x) + 1) % 2 ^ 64 ∧ hgUp t x = false ∧ (t.hgp x).clean = true)) ∧
    ((∀ v < 4, (nth (s.hgp x).sent v 0 + 256 - nth pl (4 + v) 0) % 256 ≤ 32) → (s.hgp 0).rx = [] → (s.hgp 1).rx = [] →
      s.get (F.HGx_ST_TXL x) &&& (nth pl 8 0 % 4) = s.get (F.HGx_ST_TXL x) →
      (bit (leOfBytes (pl.take 2)) 12 = false → Gives (.statusFrame x f 0 0 false) s (fun t => OnlyRegs { s with hg := t.hg } t ∧ RegsKept s t [] ∧
        t.hgp x = { s.hgp x with freed := (pl.drop 4).take 4, hisLreq := nth pl 8 0 % 4, retx := if bit (leOfBytes ((pl.drop 2).take 2)) 12 then (s.hgp x).unacked else (s.hgp x).retx })) ∧
      (∀ i : Nat, bit (leOfBytes (pl.take 2)) 12 = true →
        (s.hgp x).unacked.findIdx? (fun u => u.seq == leOfBytes (pl.take 2) % 4096) = some i →
        Gives (.statusFrame x f 0 0 false) s (fun t => (t.hgp x).unacked = (s.hgp x).unacked.drop (i + 1) ∧ (t.hgp x).rtos = 0 ∧
          (t.hgp x).freed = (pl.drop 4).take 4 ∧
          (bit (leOfBytes ((pl.drop 2).take 2)) 12 = true → (t.hgp x).retx = (s.hgp x).unacked.drop (i + 1)))))) ∧
  (∀ (f : List Byte) (vc : Nat) (pl : List Nat), frameCheck (f.map BitVec.toNat) false false = .good 0 vc (s.hgp x).expSeq pl →
    (s.hgp x).expSeq < 4096 → ((s.hgp x).rx.filter (fun r => r.vc == vc)).length < hgSlots vc → Gives (.dataFrame x f 0 0 false) s (fun t =>
      ∃ u : State, t = msgTake u x vc pl ∧ u.pair (A.HGx_FRX_LO x) = (s.pair (A.HGx_FRX_LO x) + 1) % 2 ^ 64 ∧
        u = { s.setHgp x { s.hgp x with expSeq := ((s.hgp x).expSeq + 1) % 4096, ackV := true, nak := 0 } with regs := u.regs } ∧
        RegsKept s u (pairRegs (A.HGx_FRX_LO x)))) ∧
  (∀ (f : List Byte) (vc seq : Nat) (pl : List Nat), frameCheck (f.map BitVec.toNat) false false = .good 1 vc seq pl →
    Gives (.dataFrame x f 0 0 false) s (fun t => OnlyRegs s t ∧ RegsKept s t []) ∧
    ((vc ≠ 0 ∨ seq ≠ 0 ∨ pl.length ≠ 12) → Gives (.statusFrame x f 0 0 false) s (fun t => OnlyRegs s t ∧
      t.pair (A.HGx_PROTERR_LO x) = (s.pair (A.HGx_PROTERR_LO x) + 1) % 2 ^ 64 ∧ RegsKept s t (pairRegs (A.HGx_PROTERR_LO x)))) ∧
    (vc = 0 → seq = 0 → pl.length = 12 → Gives (.statusFrame x f 0 0 false) s (fun t =>
      ∃ u : State, t = relayPump (statusTake u x pl) ∧ OnlyRegs s u ∧ RegsKept s u []))) ∧
  (∀ (f : List Byte) (vc seq : Nat) (pl : List Nat), frameCheck (f.map BitVec.toNat) false false = .good 0 vc seq pl →
    Gives (.statusFrame x f 0 0 false) s (fun t => OnlyRegs s t ∧ RegsKept s t [])))

/-- What a Hedgerow port sends at a frame boundary, and its STATUS frames. A frame to retransmit goes first, with its SEQ
and bytes, and counts in RETX. With none, the transmitter's choice goes: it leaves the hand-off, takes the next SEQ and one
credit of its VC, is kept until acknowledged and counts in FTX; authenticated, it takes the next CTR of TXCTR and carries
the trailer of the sending key; a KEY-CONFIRM takes CTR 0 and the new key. At a CTR of 2^31 a rekey starts. With nothing that may
be sent, and outside UP, nothing changes. A SAFE message is chosen before the others.
A STATUS frame carries the last accepted SEQ with ACKV, the expected one with a NAK that is due, the freed slots and LREQ;
its NAK is sent once. Rests on spec/18_hedgerow_lanes_and_link.md, spec/19_hedgerow_messages_and_systems.md. -/
def Obligations.HedgerowTransmit : Prop := ∀ (s : State) (x : Fin 2), s.hg.port.length = 2 →
  (inStep s x HG_UP = false → Gives (.frameTransmit x) s (fun t => t = s) ∧ Gives (.statusSend x) s (fun t => t = s)) ∧
  (inStep s x HG_UP = true →
  (∀ (f : TxFrame) (l : List TxFrame), (s.hgp x).retx = f :: l → f.msg.typ ≠ T_SYNC → f.msg.typ ≠ T_TIME_MARK →
    (f.msg.auth = true ∨ f.msg.trailer = []) → Gives (.frameTransmit x) s (fun t =>
      t.hgp x = { s.hgp x with retx := l } ∧ t.hg.line = [(x.val, frameBytes f.vc 0 f.seq (msgBytes f.msg ++ f.msg.trailer))] ∧
      t.pair (A.HGx_RETX_LO x) = (s.pair (A.HGx_RETX_LO x) + 1) % 2 ^ 64 ∧ t = { s with regs := t.regs, hg := t.hg } ∧
      t.hgp (1 - x.val) = s.hgp (1 - x.val) ∧ RegsKept s t (pairRegs (A.HGx_RETX_LO x)))) ∧
  (∀ (vc : Nat) (m : Msg) (pay : Bool), (s.hgp x).retx = [] → hgPick s x = some ((vc, m), pay) → m.typ ≠ T_SYNC → m.typ ≠ T_TIME_MARK →
    m.typ ≠ T_KEY_CONFIRM → (s.rd (A.HGx_TXCTR x)).toNat + 1 < 2 ^ 31 → (s.hgp 0).rx = [] → (s.hgp 1).rx = [] → Gives (.frameTransmit x) s (fun t =>
      (t.hgp x).tx = (s.hgp x).tx.erase (vc, m) ∧ (t.hgp x).nextSeq = ((s.hgp x).nextSeq + 1) % 4096 ∧
      (t.hgp x).sent = setNth (s.hgp x).sent vc ((nth (s.hgp x).sent vc 0 + 1) % 256) ∧
      t.pair (A.HGx_FTX_LO x) = (s.pair (A.HGx_FTX_LO x) + 1) % 2 ^ 64 ∧ t = { s with regs := t.regs, hg := t.hg } ∧
      RegsKept s t (A.HGx_TXCTR x :: pairRegs (A.HGx_FTX_LO x)) ∧
      ∃ tr, (tr = (if m.auth then trailerOf (s.hgp x).key.send ((s.rd (A.HGx_TXCTR x)).toNat + 1) (s.hgp x).key.sendGen m else [])) ∧
        t.rd (A.HGx_TXCTR x) = (if m.auth then s.rd (A.HGx_TXCTR x) + 1 else s.rd (A.HGx_TXCTR x)) ∧
        (t.hgp x).unacked = (s.hgp x).unacked ++ [⟨(s.hgp x).nextSeq, vc, { m with trailer := tr }⟩] ∧
        t.hg.line = [(x.val, frameBytes vc 0 (s.hgp x).nextSeq (msgBytes m ++ tr))])) ∧
  (∀ (f : TxFrame) (l : List TxFrame), (s.hgp x).retx = f :: l → Gives (.frameTransmit x) s (fun t => (t.hgp x).retx = l ∧
    (t.hgp x).unacked = (s.hgp x).unacked ∧ t.pair (A.HGx_RETX_LO x) = (s.pair (A.HGx_RETX_LO x) + 1) % 2 ^ 64 ∧
    t = { s with regs := t.regs, hg := t.hg, free := t.free } ∧ RegsKept s t (pairRegs (A.HGx_RETX_LO x)) ∧
    ∃ m : Msg, m.typ = f.msg.typ ∧ m.dst = f.msg.dst ∧ m.src = f.msg.src ∧ m.param = f.msg.param ∧
      t.hg.line = [(x.val, frameBytes f.vc 0 f.seq (msgBytes m ++ m.trailer))])) ∧
  (∀ (vc : Nat) (m : Msg) (pay : Bool), (s.hgp x).retx = [] → hgPick s x = some ((vc, m), pay) → Gives (.frameTransmit x) s (fun t =>
    ∃ u : State, t = relayPump (if 2 ^ 31 ≤ (u.rd (A.HGx_TXCTR x)).toNat then hgRekey u x else u) ∧ (u.hgp x).tx = (s.hgp x).tx.erase (vc, m) ∧
      (u.hgp x).nextSeq = ((s.hgp x).nextSeq + 1) % 4096 ∧
      (u.hgp x).sent = setNth (s.hgp x).sent vc ((nth (s.hgp x).sent vc 0 + 1) % 256) ∧ (u.hgp x).rx = (s.hgp x).rx ∧
      u.pair (A.HGx_FTX_LO x) = (s.pair (A.HGx_FTX_LO x) + 1) % 2 ^ 64 ∧ (u.hgp x).unacked.length = (s.hgp x).unacked.length + 1)) ∧
  (∀ (vc : Nat) (m : Msg) (pay : Bool), (s.hgp x).retx = [] → hgPick s x = some ((vc, m), pay) → m.typ = T_KEY_CONFIRM → m.auth = true →
    (s.hgp x).key.confSeen = false → (s.hgp 0).rx = [] → (s.hgp 1).rx = [] → Gives (.frameTransmit x) s (fun t =>
      t.rd (A.HGx_TXCTR x) = 0 ∧ (t.hgp x).key = { (s.hgp x).key with send := (s.hgp x).key.nextSend, sendGen := (s.hgp x).key.gen, confSent := true } ∧
      (t.hgp x).unacked = (s.hgp x).unacked ++ [⟨(s.hgp x).nextSeq, vc, { m with trailer := trailerOf (s.hgp x).key.nextSend 0 (s.hgp x).key.gen m }⟩])) ∧
  ((s.hgp x).retx = [] → hgPick s x = none → Gives (.frameTransmit x) s (fun t => t = s)) ∧
  (∀ e : Nat × Msg, hgFirst s x VC_SAFE = some e → hgPick s x = some (e, false)) ∧
  (∀ (e : Nat × Msg) (pay : Bool), hgPick s x = some (e, pay) → e ∈ (s.hgp x).tx ∧ hgMaySend s x e = true) ∧
  (Gives (.statusSend x) s (fun t => t.hg.line = [(x.val, frameBytes 0 1 0 (
      bytesOfLe 2 (((s.hgp x).expSeq + 4095) % 4096 + 4096 * b2n (s.hgp x).ackV) ++
      bytesOfLe 2 ((s.hgp x).expSeq + 4096 * b2n ((s.hgp x).nak == 1)) ++ (s.hgp x).myFreed.map (· % 256) ++ [(s.hgp x).lreq, 0, 0, 0]))] ∧
    t.hgp x = { s.hgp x with nak := if (s.hgp x).nak = 1 then 2 else (s.hgp x).nak } ∧ t = { s with hg := t.hg } ∧
    t.hgp (1 - x.val) = s.hgp (1 - x.val))))

/-- Keying, rekeying, MAC failures and the quarantine of a Hedgerow port. Not KEYED within its time counts a MAC failure
and takes the link down. A rekey on a KEYED port goes to REKEY and sends a KEY-HELLO of the next generation under the next
session number; elsewhere it changes nothing. The partner's KEY-HELLO gives its nonce: with both nonces each side's next
keys are the two session keys, side A by the lower character, and the KEY-CONFIRM enters its hand-off; on a KEYED port it begins a
rekey first; a second one is consumed. A KEY-CONFIRM that
holds under the next key switches the receiver to it, with RXCTR 0, and the port is KEYED once its own confirm is sent; one
that does not is a MAC failure and the link goes down. A FAULTY quarantine ends at its time and a release ends any, with
both counts cleared: the source falls and an enabled port whose lanes are powered trains. Each of the partner's messages counts as
heard (log 24), and without one its row does nothing. Rests on spec/18_hedgerow_lanes_and_link.md,
spec/19_hedgerow_messages_and_systems.md. -/
def Obligations.HedgerowKeysAndQuarantine : Prop := ∀ (s : State) (x : Fin 2), s.hg.port.length = 2 →
  (inStep s x HG_UP = true → s.get (F.HGx_SEC_KST x) < 2 → Gives (.keyingTimeout x) s (fun t => hgUp t x = false ∧
    t.pair (A.HGx_MSGCNTk_LO x 0) = (s.pair (A.HGx_MSGCNTk_LO x 0) + 1) % 2 ^ 64 ∧ intPend t (100 + 8 * x) = true ∧ (t.hgp x).clean = true)) ∧
  (inStep s x HG_UP = false ∨ 2 ≤ s.get (F.HGx_SEC_KST x) → Gives (.keyingTimeout x) s (fun t => t = s)) ∧
  (hgUp s x = true → s.get (F.HGx_SEC_KST x) = 2 → Gives (.rekey x) s (fun t => t.get (F.HGx_SEC_KST x) = 3 ∧ t.hg.session = s.hg.session + 1 ∧
    (t.hgp x).key.gen = (s.hgp x).key.sendGen + 1 ∧ (t.hgp x).key.helloSeen = false ∧ (t.hgp x).key.send = (s.hgp x).key.send ∧
    (t.hgp x).key.recv = (s.hgp x).key.recv ∧ t = { s with regs := t.regs, hg := t.hg } ∧ RegsKept s t [A.HGx_SEC x] ∧
    ∃ m, (t.hgp x).tx = (s.hgp x).tx ++ [(VC_CTRL, m)] ∧ m.typ = T_KEY_HELLO ∧ m.auth = true ∧ m.param = (s.hgp x).key.sendGen + 1)) ∧
  (hgUp s x = false ∨ s.get (F.HGx_SEC_KST x) ≠ 2 → Gives (.rekey x) s (fun t => t = s)) ∧
  (∀ (r : RxMsg) (u : State) (lk perm : Nat), msgOwn s x T_KEY_HELLO = some (r, u) → s.get (F.HGx_SEC_KST x) ≠ 2 →
    (s.hgp x).key.helloSent = true → (s.hgp x).key.helloSeen = false → hgKey s x = some (lk, perm) → Gives (.keyHello x) s (fun t =>
      (t.hgp x).key.hisNonce = r.msg.body ∧ (t.hgp x).key.helloSeen = true ∧
      (hgChar3 s x < hgPeer3 s x →
        (t.hgp x).key.nextSend = sessionKey (bytesOfBe 16 lk) (s.hgp x).key.myNonce r.msg.body 1 ∧
        (t.hgp x).key.nextRecv = sessionKey (bytesOfBe 16 lk) (s.hgp x).key.myNonce r.msg.body 2) ∧
      (hgPeer3 s x ≤ hgChar3 s x →
        (t.hgp x).key.nextSend = sessionKey (bytesOfBe 16 lk) r.msg.body (s.hgp x).key.myNonce 2 ∧
        (t.hgp x).key.nextRecv = sessionKey (bytesOfBe 16 lk) r.msg.body (s.hgp x).key.myNonce 1) ∧
      (t.hgp x).tx = (s.hgp x).tx ++ [(VC_CTRL, ⟨T_KEY_CONFIRM, hgPeer s x, s.devid, true, 0, 1, (s.hgp x).key.gen, [], []⟩)] ∧
      t = { s with hg := t.hg, clk := (partnerHeard s r.msg.src).clk })) ∧
  (∀ (r : RxMsg) (u : State), msgOwn s x T_KEY_HELLO = some (r, u) → s.get (F.HGx_SEC_KST x) ≠ 2 →
    (s.hgp x).key.helloSent = true → (s.hgp x).key.helloSeen = false → hgKey s x = none → Gives (.keyHello x) s (fun t =>
      (t.hgp x).key = { (s.hgp x).key with hisNonce := r.msg.body, helloSeen := true } ∧ (t.hgp x).tx = (s.hgp x).tx ∧
      t = { s with hg := t.hg, clk := (partnerHeard s r.msg.src).clk })) ∧
  (∀ (r : RxMsg) (u : State), msgOwn s x T_KEY_HELLO = some (r, u) → s.get (F.HGx_SEC_KST x) ≠ 2 →
    (s.hgp x).key.helloSent = false ∨ (s.hgp x).key.helloSeen = true → Gives (.keyHello x) s (fun t => t = partnerHeard u r.msg.src)) ∧
  (∀ (r : RxMsg) (u : State) (lk perm : Nat), msgOwn s x T_KEY_HELLO = some (r, u) → s.get (F.HGx_SEC_KST x) = 2 → hgUp s x = true →
    hgKey s x = some (lk, perm) → Gives (.keyHello x) s (fun t => t.get (F.HGx_SEC_KST x) = 3 ∧ t.hg.session = s.hg.session + 1 ∧
      (t.hgp x).key.gen = (s.hgp x).key.sendGen + 1 ∧ (t.hgp x).key.helloSeen = true ∧ (t.hgp x).key.hisNonce = r.msg.body ∧
      (t.hgp x).key.send = (s.hgp x).key.send ∧ (t.hgp x).key.recv = (s.hgp x).key.recv ∧
      (t.hgp x).tx.map (fun e => e.2.typ) = (s.hgp x).tx.map (fun e => e.2.typ) ++ [T_KEY_HELLO, T_KEY_CONFIRM])) ∧
  (msgOwn s x T_KEY_HELLO = none → Gives (.keyHello x) s (fun t => t = s)) ∧
  (msgOwn s x T_KEY_CONFIRM = none → Gives (.keyConfirm x) s (fun t => t = s)) ∧
  (∀ (r : RxMsg) (u : State), msgOwn s x T_KEY_CONFIRM = some (r, u) →
    (keyDerived (s.hgp x).key = true → trailerCtr r.msg = 0 → trailerGen r.msg = (s.hgp x).key.gen % 2 →
      macOk (s.hgp x).key.nextRecv r.msg = true → Gives (.keyConfirm x) s (fun t =>
        (t.hgp x).key.recv = (s.hgp x).key.nextRecv ∧ (t.hgp x).key.recvGen = (s.hgp x).key.gen ∧ 
        (t.rd (A.HGx_RXCTR x)).toNat = (if (s.hgp x).key.recvGen = (s.hgp x).key.gen ∧ hgKeyed s x then (s.rd (A.HGx_RXCTR x)).toNat else 0) ∧
        ((s.hgp x).key.confSent = true → t.get (F.HGx_SEC_KST x) = 2 ∧ t.get (F.HGx_SEC_GEN x) = (s.hgp x).key.gen % 2 ∧
          (t.hgp x).key.sendGen = (s.hgp x).key.gen) ∧
        ((s.hgp x).key.confSent = false → (t.hgp x).key.confSeen = true ∧ t.get (F.HGx_SEC_KST x) = s.get (F.HGx_SEC_KST x)) ∧
        t = { s with regs := t.regs, hg := t.hg, clk := (partnerHeard s r.msg.src).clk } ∧ RegsKept s t [A.HGx_SEC x, A.HGx_RXCTR x])) ∧
    (keyDerived (s.hgp x).key = false ∨ trailerGen r.msg ≠ (s.hgp x).key.gen % 2 ∨ macOk (s.hgp x).key.nextRecv r.msg = false ∨ trailerCtr r.msg ≠ 0 → Gives (.keyConfirm x) s (fun t => hgUp t x = false ∧
      t.pair (A.HGx_MSGCNTk_LO x 0) = (s.pair (A.HGx_MSGCNTk_LO x 0) + 1) % 2 ^ 64 ∧ intPend t (100 + 8 * x) = true))) ∧
  (s.clk.present = true → s.get (F.HGx_QCTL_QSTATE x) = 1 → Gives (.qholdEnd x) s (fun t => t.get (F.HGx_QCTL_QSTATE x) = 0 ∧
    t.flag (F.INT_SRCs_LIVE (101 + 8 * x)) = false ∧
    t.get (F.HGx_ST_STATE x) = (if hgPowered s x && s.flag (F.HGx_CFG_EN x) && hgClocked s then HG_DETECT else HG_OFF))) ∧
  (s.clk.present = false ∨ s.get (F.HGx_QCTL_QSTATE x) ≠ 1 → Gives (.qholdEnd x) s (fun t => t = s)) ∧
  (hgQuar s x = true → Gives (.release x) s (fun t => t.get (F.HGx_QCTL_QSTATE x) = 0 ∧ t.get (F.HGx_QCTL_QEV x) = 0 ∧
    t.get (F.HGx_SEC_MACWIN x) = 0 ∧ (t.hgp x).macTimes = [] ∧ (t.hgp x).qTimes = [] ∧ t.flag (F.INT_SRCs_LIVE (101 + 8 * x)) = false ∧
    t.get (F.HGx_ST_STATE x) = (if hgPowered s x && s.flag (F.HGx_CFG_EN x) && hgClocked s then HG_DETECT else HG_OFF))) ∧
  (hgQuar s x = false → Gives (.release x) s (fun t => t.get (F.HGx_QCTL_QEV x) = 0 ∧ t.get (F.HGx_SEC_MACWIN x) = 0 ∧
    t.get (F.HGx_ST_STATE x) = s.get (F.HGx_ST_STATE x) ∧ t.get (F.HGx_SEC_KST x) = s.get (F.HGx_SEC_KST x) ∧
    t = { s.setHgp x { s.hgp x with macTimes := [], qTimes := [] } with regs := t.regs } ∧ RegsKept s t [A.HGx_SEC x, A.HGx_QCTL x]))

/-- What each message type does to the device that takes it, and what its units originate. A row takes the oldest message
of its type that waits for this device on its port, frees its slot unless it is still to be relayed, and counts its sender as
heard (log 24); with none, nothing changes. SYNC sets the sync edge, or acts at once and late; masked, with an edge that awaits, without HSCK, in a HOLD and in OFF it
does nothing. WAKE writes LSN_RMARK, ends the sender's part of HPRE and, with
RWAKE_EN, is a qualified wake; PREWAKE and STAND_DOWN set and end that part. TIME_MARK, NOTICE and TOPO fill their
registers; an unread notice is counted as overwritten. AUDIO, BULK_SEG and NAK_DENIED are consumed. BULK_ACK of the oldest
block in flight unloads it and another does nothing; BULK_READ that the mitten refuses is counted and answered NAK-DENIED, and one it
grants sends the range in BULK-SEG messages. TOPO is broadcast with
the neighbour codes and the next number; a NOTICE enters its hand-off or ERR says it cannot; 64 waiting samples of a stream, or
the rest of a period, enter the hand-off of its port; blocks in flight without an answer are sent again. Rests on spec/19_hedgerow_messages_and_systems.md, spec/07_listening_and_wake.md,
spec/06_decimation_and_filters.md. -/
def Obligations.HedgerowMessages : Prop := ∀ (s : State) (x : Fin 2), s.hg.port.length = 2 →
  (msgOwn s x T_SYNC = none → Gives (.sync x) s (fun t => t = s)) ∧
  (msgOwn s x T_WAKE = none → Gives (.wake x) s (fun t => t = s)) ∧
  (msgOwn s x T_PREWAKE = none → Gives (.prewake x) s (fun t => t = s)) ∧
  (msgOwn s x T_STAND_DOWN = none → Gives (.standDown x) s (fun t => t = s)) ∧
  (msgOwn s x T_TIME_MARK = none → Gives (.timeMark x true) s (fun t => t = s)) ∧
  (msgOwn s x T_TIME_MARK = none → Gives (.timeMark x false) s (fun t => t = s)) ∧
  (msgOwn s x T_NOTICE = none → Gives (.notice x) s (fun t => t = s)) ∧
  (msgOwn s x T_TOPO = none → Gives (.topo x) s (fun t => t = s)) ∧
  (msgOwn s x T_AUDIO = none → Gives (.audio x) s (fun t => t = s)) ∧
  (msgOwn s x T_BULK_SEG = none → Gives (.bulkSeg x) s (fun t => t = s)) ∧
  (msgOwn s x T_BULK_ACK = none → Gives (.bulkAck x) s (fun t => t = s)) ∧
  (msgOwn s x T_BULK_READ = none → Gives (.bulkRead x) s (fun t => t = s)) ∧
  (msgOwn s x T_NAK_DENIED = none → Gives (.nakDenied x) s (fun t => t = s)) ∧
  (∀ typ : Nat, msgOwn s x typ = none → ∀ r ∈ (s.hgp x).rx, r.own = false ∨ r.msg.typ ≠ typ) ∧
  (∀ (typ : Nat) (r : RxMsg) (u : State), msgOwn s x typ = some (r, u) → r ∈ (s.hgp x).rx ∧ r.own = true ∧ r.msg.typ = typ ∧
    u = s.setHgp x (u.hgp x) ∧ (u.hgp x).key = (s.hgp x).key ∧ (u.hgp x).tx = (s.hgp x).tx ∧
    (r.relay = none → (u.hgp x).rx.length + 1 = (s.hgp x).rx.length ∧
      (u.hgp x).myFreed = setNth (s.hgp x).myFreed r.vc ((nth (s.hgp x).myFreed r.vc 0 + 1) % 256))) ∧
  (∀ (r : RxMsg) (u : State), msgOwn s x T_SYNC = some (r, u) →
    (s.flag F.FLT_SYNC_MSG_EN = true → s.flt.sync = none → s.clk.phase = .run → s.clk.present = true → s.pstate ≠ OFF →
      s.time.hsck + s.get (F.HGx_RTT_LAT x) < r.at_ + leOfBytes r.msg.body → Gives (.sync x) s (fun t =>
        t = { partnerHeard u r.msg.src with flt := { u.flt with sync := some (r.at_ + leOfBytes r.msg.body - s.get (F.HGx_RTT_LAT x) - s.time.hsck) } })) ∧
    (s.flag F.FLT_SYNC_MSG_EN = true → s.flt.sync = none → s.clk.phase = .run → s.clk.present = true → s.pstate ≠ OFF →
      r.at_ + leOfBytes r.msg.body ≤ s.time.hsck + s.get (F.HGx_RTT_LAT x) → Gives (.sync x) s (fun t =>
        t = { partnerHeard u r.msg.src with regs := t.regs, flt := { u.flt with sync := some 1 } } ∧ t.flag F.FLT_SYNC_LATE = true ∧ EdgeTaken s t 25 ∧
        RegsKept s t (A.FLT_SYNC :: sourceRegs 25))) ∧
    (s.flag F.FLT_SYNC_MSG_EN = false ∨ s.flt.sync ≠ none ∨ s.clk.phase ≠ .run ∨ s.clk.present = false ∨ s.pstate = OFF →
      Gives (.sync x) s (fun t => t = partnerHeard u r.msg.src))) ∧
  (∀ (r : RxMsg) (u : State), msgOwn s x T_WAKE = some (r, u) → s.flag F.LSN_CFG_RWAKE_EN = false →
    Gives (.wake x) s (fun t => t.pair A.LSN_RMARK_LO = leOfBytes (r.msg.body.take 8) % 2 ^ 64 ∧ (r.msg.src < 4 → t.bitOf F.LSN_WAKE_RPRE r.msg.src = false) ∧
      (4 ≤ r.msg.src → t.rd A.LSN_WAKE = s.rd A.LSN_WAKE) ∧
      t.flag F.LSN_WAKE_QUAL = s.flag F.LSN_WAKE_QUAL ∧ t = { partnerHeard u r.msg.src with regs := t.regs } ∧ RegsKept s t (A.LSN_WAKE :: pairRegs A.LSN_RMARK_LO))) ∧
  (∀ (r : RxMsg) (u : State), msgOwn s x T_WAKE = some (r, u) → s.flag F.LSN_CFG_RWAKE_EN = true → s.pstate = WATCH → s.pwr.start = none →
    s.pwr.trans = none → s.flag F.LSN_WAKE_QUAL = false → Gives (.wake x) s (fun t => t.flag F.LSN_WAKE_QUAL = true ∧ t.get F.LSN_WAKE_SRC = 3 ∧
      t.get F.LSN_WAKE_DEVP = r.msg.src % 4 ∧ t.pair A.LSN_MARK_LO = swathSC s % 2 ^ 64 ∧
      t.pair A.LSN_RMARK_LO = leOfBytes (r.msg.body.take 8) % 2 ^ 64)) ∧
  (∀ (r : RxMsg) (u : State), msgOwn s x T_WAKE = some (r, u) → s.flag F.LSN_CFG_RWAKE_EN = true → Gives (.wake x) s (fun t =>
    ∃ v : State, t = qualifiedWake v 3 0 r.msg.src (wakeCounter s) ∧ v = { partnerHeard u r.msg.src with regs := v.regs } ∧
      v.pair A.LSN_RMARK_LO = leOfBytes (r.msg.body.take 8) % 2 ^ 64 ∧ (r.msg.src < 4 → v.bitOf F.LSN_WAKE_RPRE r.msg.src = false) ∧
      RegsKept s v (A.LSN_WAKE :: pairRegs A.LSN_RMARK_LO))) ∧
  (∀ (r : RxMsg) (u : State), msgOwn s x T_PREWAKE = some (r, u) → s.flag F.LSN_CFG_RPRE_EN = true → r.msg.src < 4 →
    Gives (.prewake x) s (fun t => t.bitOf F.LSN_WAKE_RPRE r.msg.src = true ∧ t = { partnerHeard u r.msg.src with regs := t.regs } ∧ RegsKept s t [A.LSN_WAKE])) ∧
  (∀ (r : RxMsg) (u : State), msgOwn s x T_PREWAKE = some (r, u) → s.flag F.LSN_CFG_RPRE_EN = false ∨ 4 ≤ r.msg.src →
    Gives (.prewake x) s (fun t => t = partnerHeard u r.msg.src)) ∧
  (∀ (r : RxMsg) (u : State), msgOwn s x T_STAND_DOWN = some (r, u) → 4 ≤ r.msg.src →
    Gives (.standDown x) s (fun t => t = partnerHeard u r.msg.src)) ∧
  (∀ (r : RxMsg) (u : State), msgOwn s x T_STAND_DOWN = some (r, u) → r.msg.src < 4 →
    Gives (.standDown x) s (fun t => t.bitOf F.LSN_WAKE_RPRE r.msg.src = false ∧ t = { partnerHeard u r.msg.src with regs := t.regs } ∧
      RegsKept s t [A.LSN_WAKE])) ∧
  (∀ (r : RxMsg) (u : State) (same : Bool), msgOwn s x T_TIME_MARK = some (r, u) → Gives (.timeMark x same) s (fun t =>
    t.get F.HG0_TMST_SRC = r.msg.src % 8 ∧ t.flag F.HG0_TMST_NEW = true ∧ t.flag F.HG0_TMST_LOCAL_OK = same ∧
    t.get F.HG0_TMST_SLOT = r.msg.param % 64 ∧ t.flag F.HG0_TMST_FINE = bit r.msg.param 12 ∧
    t.pair A.HG0_TMSTAMP_LO = leOfBytes (r.msg.body.take 8) % 2 ^ 64 ∧ intPend t (103 + 8 * x) = true ∧
    t.pair A.HG0_TMLOCAL_LO = (frameAt s (r.at_ - s.get (F.HGx_RTT_LAT x) - leOfBytes (r.msg.body.drop 8))).1 % 2 ^ 64 ∧
    t.get F.HG0_TMST_OVW = (if s.flag F.HG0_TMST_NEW then Nat.min 255 (s.get F.HG0_TMST_OVW + 1) else s.get F.HG0_TMST_OVW) ∧
    t = { partnerHeard u r.msg.src with regs := t.regs, free := t.free } ∧
    RegsKept s t ([A.HG0_TMST] ++ pairRegs A.HG0_TMSTAMP_LO ++ pairRegs A.HG0_TMLOCAL_LO ++ sourceRegs (103 + 8 * x)))) ∧
  (∀ (r : RxMsg) (u : State), msgOwn s x T_NOTICE = some (r, u) → Gives (.notice x) s (fun t =>
    (∀ i < 8, (t.rd (A.HG0_NRXi i)).toNat = leOfBytes ((r.msg.body.drop (4 * i)).take 4) % 2 ^ 32) ∧ t.get F.HG0_NRXST_SRC = r.msg.src % 8 ∧
    t.flag F.HG0_NRXST_FULL = true ∧ t.get F.HG0_NRXST_OVW = (if s.flag F.HG0_NRXST_FULL then Nat.min 255 (s.get F.HG0_NRXST_OVW + 1) else s.get F.HG0_NRXST_OVW) ∧
    EdgeTaken s t (103 + 8 * x) ∧ t = { partnerHeard u r.msg.src with regs := t.regs } ∧
    RegsKept s t ([A.HG0_NRXST] ++ (upto 8).map A.HG0_NRXi ++ sourceRegs (103 + 8 * x)))) ∧
  (∀ (r : RxMsg) (u : State), msgOwn s x T_TOPO = some (r, u) → Gives (.topo x) s (fun t =>
    (r.msg.src < s.hg.topo.length → nth t.hg.topo r.msg.src none = some (nth r.msg.body 0 0, nth r.msg.body 1 0)) ∧
    (∀ m, m ≠ r.msg.src → nth t.hg.topo m none = nth s.hg.topo m none))) ∧
  (∀ (r : RxMsg) (u : State), (msgOwn s x T_AUDIO = some (r, u) → Gives (.audio x) s (fun t => t = partnerHeard u r.msg.src)) ∧
    (msgOwn s x T_BULK_SEG = some (r, u) → Gives (.bulkSeg x) s (fun t => t = partnerHeard u r.msg.src)) ∧
    (msgOwn s x T_NAK_DENIED = some (r, u) → Gives (.nakDenied x) s (fun t => t = partnerHeard u r.msg.src))) ∧
  (∀ (r : RxMsg) (u : State) (k : Nat) (l : List Nat), msgOwn s x T_BULK_ACK = some (r, u) → k = nth r.msg.body 0 0 →
    (k < 8 → s.swa.strip.length = 8 → (s.strip k).flight = leOfBytes (r.msg.body.drop 4) :: l → stripUptr s k < leOfBytes (r.msg.body.drop 4) + 256 →
      leOfBytes (r.msg.body.drop 4) + 256 < 2 ^ 64 → Gives (.bulkAck x) s (fun t =>
        stripUptr t k = leOfBytes (r.msg.body.drop 4) + 256 ∧
        t.pair (A.SWA_STs_UNLD_LO k) = (s.pair (A.SWA_STs_UNLD_LO k) + 
          owedIn (s.strip k).owed (fun b => decide (stripUptr s k ≤ b) && decide (b < leOfBytes (r.msg.body.drop 4) + 256))) % 2 ^ 64 ∧
        (t.strip k).flight = l.filter (fun b => decide (leOfBytes (r.msg.body.drop 4) + 256 ≤ b)) ∧
        (∀ b ∈ (t.strip k).owed, b ∈ (s.strip k).owed ∧ (b.1 < stripUptr s k ∨ leOfBytes (r.msg.body.drop 4) + 256 ≤ b.1)))) ∧
    (8 ≤ k ∨ (s.strip k).flight.head? ≠ some (leOfBytes (r.msg.body.drop 4)) → Gives (.bulkAck x) s (fun t => t = partnerHeard u r.msg.src)) ∧
    (k < 8 → (s.strip k).flight = leOfBytes (r.msg.body.drop 4) :: l → Gives (.bulkAck x) s (fun t =>
      t = unloadAck (partnerHeard u r.msg.src) k (leOfBytes (r.msg.body.drop 4) + 256)))) ∧
  (∀ (r : RxMsg) (u : State) (sh : Bool) (a n : Nat), msgOwn s x T_BULK_READ = some (r, u) → sh = decide (nth r.msg.body 0 0 = 1) →
    a = leOfBytes ((r.msg.body.drop 4).take 4) → n = leOfBytes ((r.msg.body.drop 8).take 4) →
    (mittenOpen s = false ∨ (if sh then shortBytes else swathBytes) < a + n ∨ rangeReadable s sh a n = false → Gives (.bulkRead x) s (fun t =>
      t.get F.SWA_DENY_COUNT = Nat.min (2 ^ F.SWA_DENY_COUNT.width - 1) (s.get F.SWA_DENY_COUNT + 1) ∧
      t = { partnerHeard u r.msg.src with regs := t.regs, hg := t.hg } ∧ RegsKept s t [A.SWA_DENY] ∧
      (r.msg.src < 5 → s.flag (F.HG0_ROUTEp_VALID r.msg.src) = true → ∃ m, (t.hgp (s.get (F.HG0_ROUTEp_PORT r.msg.src))).tx =
          (u.hgp (s.get (F.HG0_ROUTEp_PORT r.msg.src))).tx ++ [(VC_CTRL, m)] ∧
        m.typ = T_NAK_DENIED ∧ m.dst = r.msg.src ∧ m.param = r.msg.param ∧ m.body = []))) ∧
    (mittenOpen s = true → a + n ≤ (if sh then shortBytes else swathBytes) → rangeReadable s sh a n = true → Gives (.bulkRead x) s (fun t =>
      t.get F.SWA_DENY_COUNT = s.get F.SWA_DENY_COUNT ∧ t.get F.SWA_MITTEN_IDLE = s.get F.SWA_MITTEN_TMO ∧
      t.swa.idleMs = 0 ∧ t.swa.mem = s.swa.mem ∧ t.swa.short = s.swa.short ∧ mittenOpen t = true ∧
      (r.msg.src < 5 → s.flag (F.HG0_ROUTEp_VALID r.msg.src) = true → ∃ l, (t.hgp (s.get (F.HG0_ROUTEp_PORT r.msg.src))).tx =
          (u.hgp (s.get (F.HG0_ROUTEp_PORT r.msg.src))).tx ++ l ∧
        (∀ e ∈ l, e.1 = VC_BULK ∧ e.2.typ = T_BULK_SEG ∧ e.2.dst = r.msg.src ∧ e.2.param = r.msg.param) ∧
        l.map (fun e => e.2.body) = bulkSegs 255 0 (if s.flag (F.HGx_MSGCFG_AUTHDATA (s.get (F.HG0_ROUTEp_PORT r.msg.src))) then 208 else 224)
          (memRead (if sh then s.swa.short else s.swa.mem) a n) (n + 1) 0)))) ∧
  Gives .topoSend s (fun t => t.hg.topoSeq = (s.hg.topoSeq + 1) % 2 ^ 32 ∧ t = { s with hg := t.hg } ∧
    ∀ y < 2, (hgUp s y = true → hgHopmax s y ≠ 0 → ∃ m, (t.hgp y).tx = (s.hgp y).tx ++ [(VC_CTRL, m)] ∧ m.typ = T_TOPO ∧ m.dst = 7 ∧
        m.hopmax = hgHopmax s y ∧ (s.flag F.HG0_TOPO_RING = false → m.hopmax = 3) ∧ m.param = (s.hg.topoSeq + 1) % 2 ^ 32 ∧ m.body = [hgCode s 0, hgCode s 1, 0, 0]) ∧
      (hgUp s y = false ∨ hgHopmax s y = 0 → t.hgp y = s.hgp y)) ∧
  (s.get F.HG0_NTXCTL_DST < 5 → s.flag (F.HG0_ROUTEp_VALID (s.get F.HG0_NTXCTL_DST)) = true → Gives .noticeSend s (fun t => t = { s with hg := t.hg } ∧
    ∃ m, (t.hgp (s.get (F.HG0_ROUTEp_PORT (s.get F.HG0_NTXCTL_DST)))).tx = (s.hgp (s.get (F.HG0_ROUTEp_PORT (s.get F.HG0_NTXCTL_DST)))).tx ++ [(VC_CTRL, m)] ∧
      m.typ = T_NOTICE ∧ m.dst = s.get F.HG0_NTXCTL_DST ∧ m.body = (upto 8).flatMap (fun i => bytesOfLe 4 (s.rd (A.HG0_NTXi i)).toNat))) ∧
  (5 ≤ s.get F.HG0_NTXCTL_DST ∨ s.flag (F.HG0_ROUTEp_VALID (s.get F.HG0_NTXCTL_DST)) = false → Gives .noticeSend s (fun t => OnlyRegs s t ∧
    t.flag F.HG0_NTXCTL_ERR = true ∧ RegsKept s t [A.HG0_NTXCTL])) ∧
  (∀ (u : Fin 16), (∀ y < 2, s.bitOf (F.HGx_USTR_STREAMS y) u = false) → Gives (.audioMessageSend u) s (fun t => t = s)) ∧
  (∀ (u : Fin 16) (y n : Nat), (upto 2).find? (fun y => s.bitOf (F.HGx_USTR_STREAMS y) u) = some y → n = Nat.min 64 (nth s.hg.ustr u UStream.reset).buf.length →
    (hgUp s y = false ∨ (n < 64 ∧ (n = 0 ∨ s.swa.run = true)) ∨ 16 ≤ hgWaiting s y VC_AUDIO → Gives (.audioMessageSend u) s (fun t => t = s)) ∧
    (s.hg.ustr.length = 16 → hgUp s y = true → n = 64 ∨ (n ≠ 0 ∧ s.swa.run = false) → hgWaiting s y VC_AUDIO < 16 →
      Gives (.audioMessageSend u) s (fun t => t = { s with hg := t.hg } ∧ (∀ z < 2, z ≠ y → t.hgp z = s.hgp z) ∧
        nth t.hg.ustr u UStream.reset = ⟨(nth s.hg.ustr u UStream.reset).buf.drop n, 0, (nth s.hg.ustr u UStream.reset).count + (nth s.hg.ustr u UStream.reset).drops + n⟩ ∧
        ∃ m, (t.hgp y).tx = (s.hgp y).tx ++ [(VC_AUDIO, m)] ∧ m.typ = T_AUDIO ∧ m.dst = 4 ∧ m.body.length = 40 + (3 * n + 3) / 4 * 4 ∧
          m.body.take 4 = [u.val, n] ++ bytesOfLe 2 (Nat.min 65535 (nth s.hg.ustr u UStream.reset).drops) ∧
          (m.body.drop 8).take 8 = bytesOfLe 8 ((nth s.hg.ustr u UStream.reset).count + (nth s.hg.ustr u UStream.reset).drops)))) ∧
  (∀ (k : Fin 8) (b : Nat) (l : List Nat), s.clk.present = true → (s.strip k).flight = b :: l → Gives (.bulkResend k) s (fun t =>
    t = s.setStrip k { s.strip k with sent := b, flight := [] })) ∧
  (∀ k : Fin 8, s.clk.present = false ∨ (s.strip k).flight = [] → Gives (.bulkResend k) s (fun t => t = s))

/-- The run permit, tokens, readback, the Scarecrow's cycle and its restart. The Scarecrow's complement token refreshes the
run permit; another value with the permit set, 12 ms without a token, and an unconfirmed stop each clear it: outputs static
low, latch 3, FAULT#, notice 117. Without HSCK the two timers stand. A readback sample is recorded in FB, counts where it matches both outputs, and each that
differs is an event of diagnostic 23. The Scarecrow's cycle takes every event on its lines, sends a heartbeat with the next SSEQ and
writes the complement token; a stop decision that waits with the device armed trips it: TRIPPED, not armed, permit clear,
cause 1. A lockstep mismatch latches 2 and halts the pair, and one more within 24 h cannot be repaired. A restart that
passes repairs 2 and 4 and starts the program unsynchronised with SSEQ 1; one that fails leaves those latched unrepairable.
Rests on spec/20_functional_safety.md. -/
def Obligations.SafetyOutputs : Prop := ∀ s : State,
  (∀ v : BitVec 16, scareRuns s = true → (v = 0x5A3C ∧ (s.saf.token = none ∨ s.saf.token = some 0xA5C3)) ∨ (v = 0xA5C3 ∧ (s.saf.token = none ∨ s.saf.token = some 0x5A3C)) →
    Gives (.runtokWrite v) s (fun t => t = { s with regs := t.regs, saf := { s.saf with token := some v.toNat } } ∧ t.get F.SAF_RUNTOK_TOKEN = v.toNat ∧
      RegsKept s t [A.SAF_RUNTOK])) ∧
  (∀ v : BitVec 16, scareRuns s = true → s.pstate ≠ OFF → s.saf.permit = true → tokenGood s v.toNat = false → Gives (.runtokWrite v) s (fun t =>
    t.saf.permit = false ∧ t.get F.SAF_ST_OUT = 0 ∧ t.bitOf F.SAF_LATCH_BITS 3 = true ∧ t.flag F.SAF_ST_FAULTN = true ∧ intPend t 117 = true)) ∧
  (∀ v : BitVec 16, scareRuns s = true → s.saf.permit = false → Gives (.runtokWrite v) s (fun t =>
    t = { s with regs := t.regs, saf := { s.saf with token := some v.toNat } } ∧ t.get F.SAF_RUNTOK_TOKEN = v.toNat ∧ RegsKept s t [A.SAF_RUNTOK])) ∧
  (∀ v : BitVec 16, scareRuns s = false → Gives (.runtokWrite v) s (fun t => t = s)) ∧
  (s.saf.permit = true → s.clk.present = true → Gives .runPermitTimeout s (fun t => t.saf.permit = false ∧ t.get F.SAF_ST_OUT = 0 ∧
    (s.pstate ≠ OFF → t.bitOf F.SAF_LATCH_BITS 3 = true ∧ t.flag F.SAF_ST_FAULTN = true ∧ intPend t 117 = true))) ∧
  (s.saf.permit = false ∨ s.clk.present = false → Gives .runPermitTimeout s (fun t => t = s)) ∧
  (s.saf.decision.isSome = true → s.clk.present = true → Gives .confirmationTimeout s (fun t => t.saf.decision = none ∧ t.saf.permit = false ∧
    t.get F.SAF_ST_OUT = 0 ∧ (s.pstate ≠ OFF → t.bitOf F.SAF_LATCH_BITS 3 = true ∧ t.flag F.SAF_ST_FAULTN = true ∧ intPend t 117 = true))) ∧
  (s.saf.decision = none ∨ s.clk.present = false → Gives .confirmationTimeout s (fun t => t = s)) ∧
  (∀ fa fb w a b : Bool, s.clk.present = true → s.awake = true → (a, b) = (if s.get F.SAF_ST_OUT = 0 then (false, false) else (w, !w)) →
    Gives (.readbackSample fa fb w) s (fun t => t.get F.SAF_ST_FB = b2n fa + 2 * b2n fb ∧ RegsKept s t [A.SAF_ST] ∧
      t.saf.match_ = (fa == (a != s.flag F.SAF_ARM_FBPOL) && fb == (b != s.flag F.SAF_ARM_FBPOL)) ∧
      t.saf.good = (if t.saf.match_ then Nat.min 8 (s.saf.good + 1) else 0) ∧
      t.saf.lines = s.saf.lines ++ (if fa == (a != s.flag F.SAF_ARM_FBPOL) then [] else [(23, 4, s.time.ms)]) ++
        (if fb == (b != s.flag F.SAF_ARM_FBPOL) then [] else [(23, 4, s.time.ms)]) ∧ t = { s with regs := t.regs, saf := t.saf })) ∧
  (∀ fa fb w : Bool, s.clk.present = false ∨ s.awake = false → Gives (.readbackSample fa fb w) s (fun t => t = s)) ∧
  (scareRuns s = true → s.coreRuns = true → Gives .scarecrowCycle s (fun t => t.saf.lines = [] ∧ t.saf.hbTrip = [] ∧ 3 ∈ t.saf.proved ∧
    t.saf.token.isSome = true ∧ (s.armed = false → t.armed = false))) ∧
  (scareRuns s = true → s.coreRuns = true → s.saf.lines = [] → nth s.mon.frzAt 0 none = none → nth s.mon.frzAt 1 none = none →
    s.flag F.SAF_ARM_AINS_EN = false → s.saf.token = none ∨ s.saf.token = some 0x5A3C ∨ s.saf.token = some 0xA5C3 →
    (s.saf.decision = none → Gives .scarecrowCycle s (fun t => t.saf.token = some (if s.saf.token = some 0x5A3C then 0xA5C3 else 0x5A3C) ∧
      t.saf.permit = s.saf.permit ∧ t.saf.ssEq = (s.saf.ssEq + 1) % 2 ^ 32 ∧ t.get F.SAF_ST_OUT = s.get F.SAF_ST_OUT ∧ t.armed = s.armed ∧
      RegsKept s t [A.SAF_RUNTOK] ∧
      ∀ y < 2, s.hg.port.length = 2 → hgUp s y = true → s.flag F.HG0_TOPO_RING = false → ∃ m, (t.hgp y).tx = (s.hgp y).tx ++ [(VC_SAFE, m)] ∧
        m.typ = T_SAFE_HB ∧ m.dst = 7 ∧ m.body = pduForm s 1 0 0 0)) ∧
    (∀ k n v : Nat, s.saf.decision = some (k, n, v) → s.armed = true → s.saf.arming = false → k ∈ s.saf.table → s.pwr.trans = none →
      Gives .scarecrowCycle s (fun t => t.saf.permit = false ∧ t.get F.SAF_ST_OUT = 0 ∧ t.armed = false ∧ t.pstate = TRIPPED ∧
        t.flag F.SAF_ST_TRIPPED = true ∧ t.get F.SAF_ST_CAUSE = 1 ∧ t.get F.PWR_STATE_CAUSE = 4 ∧ t.saf.decision = none ∧ intPend t 114 = true))) ∧
  (scareRuns s = false ∨ s.coreRuns = false → Gives .scarecrowCycle s (fun t => t = s)) ∧
  (scareRuns s = true → s.pstate ≠ OFF → Gives .lockstepMismatch s (fun t => coreState t SCARE = C_HALT ∧ t.bitOf F.SAF_LATCH_BITS 2 = true ∧
    t.saf.permit = false ∧ t.flag F.SAF_ST_FAULTN = true ∧ t.saf.lockAt = some s.time.ms ∧
    (∀ l, s.saf.lockAt = some l → s.time.ms < l + 86400000 → 2 ∈ t.saf.stuck))) ∧
  (scareRuns s = false → Gives .lockstepMismatch s (fun t => t = s)) ∧
  (s.awake = true → s.clk.present = true → coreState s SCARE = C_HALT →
    Gives (.scarecrowRestart true) s (fun t => (∀ img, imageCheck s 2 (slotIndex 2 (s.get F.FRW_IMG_SACT)) = .ok img →
      coreState t SCARE = C_RUN ∧ 2 ∈ t.saf.proved ∧ 4 ∈ t.saf.proved ∧ t.saf.ssEq = 1 ∧
      t.saf.token = none ∧ t.saf.progAt = s.time.ms ∧ (∀ p < 4, t.flag (F.SAF_PARTp_ALIVE p) = false) ∧ (∀ q ∈ t.saf.part, q.sync = false)) ∧
      (∀ err, imageCheck s 2 (slotIndex 2 (s.get F.FRW_IMG_SACT)) = .error err →
      t = { s with saf := { s.saf with stuck := t.saf.stuck } } ∧ (∀ i ∈ [2, 4], s.bitOf F.SAF_LATCH_BITS i = true → i ∈ t.saf.stuck))) ∧
    Gives (.scarecrowRestart false) s (fun t => t = { s with saf := { s.saf with stuck := t.saf.stuck } } ∧
      (∀ i ∈ [2, 4], s.bitOf F.SAF_LATCH_BITS i = true → i ∈ t.saf.stuck))) ∧
  (∀ p : Bool, s.awake = false ∨ s.clk.present = false ∨ (coreState s SCARE ≠ C_HALT ∧ coreState s SCARE ≠ C_FAULT) → Gives (.scarecrowRestart p) s (fun t => t = s))

/-- Arming, proofs, disarming, and the acknowledgement of latched faults. Arming refuses in order for a failed start-up or
self-calibration (step 1, reason 1), a latched fault (1, 2), a stop slot that is not verified (1, 3), a proof that fails
(2, 4) and bad readback samples (3, 5), each with RESULT 3, disarmed, and notice 113; else it sets ARMED and the permit,
outputs dynamic, RESULT 2 and notice 112. A proof sets PROOF_OK to its outcome, and a failure latches 24. Disarming clears
ARMED, REQ and the permit with notice 113. A request of acknowledgement outside SENTRY clears STEP, ERR and the challenge;
in SENTRY it is answered with ERR 4. The first failing condition is shown in ERR, else a challenge, which is a free value,
with STEP 2. A wrong response ends with ERR 5, one out of its time with ERR 6, both counted; the right one clears every
latch and releases FAULT# unless a failed start-up holds it, with STEP 3, and in TRIPPED a transition begins. Rests on spec/20_functional_safety.md. -/
def Obligations.ArmingAndAcknowledgement : Prop := ∀ s : State,
  (s.saf.arming = true → scareRuns s = true → ∀ p r : Bool,
    (s.flag F.PWR_BOOTST_FAIL = true ∨ s.flag F.PWR_BOOTST_ADCCAL_OK = false → Gives (.arming p r) s (fun t =>
      t.get F.SAF_ARMST_RESULT = 3 ∧ t.get F.SAF_ARMST_STEP = 1 ∧ t.get F.SAF_ARMST_REASON = 1 ∧ t.armed = false ∧ t.saf.permit = false ∧
      t.saf.arming = false ∧ EdgeTaken s t 113 ∧ RegsKept s t ([A.SAF_ST, A.SAF_ARM, A.SAF_ARMST, A.PWR_STATE] ++ sourceRegs 113))) ∧
    (s.flag F.PWR_BOOTST_FAIL = false → s.flag F.PWR_BOOTST_ADCCAL_OK = true →
      (s.get F.SAF_LATCH_BITS ≠ 0 → Gives (.arming p r) s (fun t => t.get F.SAF_ARMST_RESULT = 3 ∧ t.get F.SAF_ARMST_STEP = 1 ∧
        t.get F.SAF_ARMST_REASON = 2 ∧ t.armed = false)) ∧
      (s.get F.SAF_LATCH_BITS = 0 → stopsVerified s = false → Gives (.arming p r) s (fun t => t.get F.SAF_ARMST_RESULT = 3 ∧
        t.get F.SAF_ARMST_STEP = 1 ∧ t.get F.SAF_ARMST_REASON = 3 ∧ t.armed = false)) ∧
      (s.get F.SAF_LATCH_BITS = 0 → stopsVerified s = true → s.pstate ≠ OFF → Gives (.arming false r) s (fun t =>
        t.get F.SAF_ARMST_RESULT = 3 ∧ t.get F.SAF_ARMST_STEP = 2 ∧ t.get F.SAF_ARMST_REASON = 4 ∧ t.armed = false ∧
        t.flag F.SAF_ST_PROOF_OK = false ∧ t.bitOf F.SAF_LATCH_BITS 24 = true)) ∧
      (s.get F.SAF_LATCH_BITS = 0 → stopsVerified s = true → Gives (.arming true false) s (fun t =>
        t.get F.SAF_ARMST_RESULT = 3 ∧ t.get F.SAF_ARMST_STEP = 3 ∧ t.get F.SAF_ARMST_REASON = 5 ∧ t.armed = false ∧ t.flag F.SAF_ST_PROOF_OK = true)) ∧
      (s.get F.SAF_LATCH_BITS = 0 → stopsVerified s = true → Gives (.arming true true) s (fun t => t.armed = true ∧ t.saf.permit = true ∧
        t.saf.arming = false ∧ t.get F.SAF_ST_OUT = 1 ∧ t.flag F.PWR_STATE_ARMED = true ∧ t.get F.SAF_ARMST_RESULT = 2 ∧
        t.flag F.SAF_ST_PROOF_OK = true ∧ EdgeTaken s t 112 ∧ RegsKept s t ([A.SAF_ST, A.SAF_ARMST, A.PWR_STATE] ++ sourceRegs 112))))) ∧
  (∀ p r : Bool, s.saf.arming = false ∨ scareRuns s = false → Gives (.arming p r) s (fun t => t = s)) ∧
  (scareRuns s = true → Gives (.proof true) s (fun t => t.flag F.SAF_ST_PROOF_OK = true ∧ (∀ i ∈ [5, 6, 7, 8, 24], i ∈ t.saf.proved) ∧
    t = { s with regs := t.regs, saf := { s.saf with proved := t.saf.proved } } ∧ RegsKept s t [A.SAF_ST])) ∧
  (scareRuns s = true → s.pstate ≠ OFF → Gives (.proof false) s (fun t => t.flag F.SAF_ST_PROOF_OK = false ∧ t.bitOf F.SAF_LATCH_BITS 24 = true ∧
    t.flag F.SAF_ST_FAULTN = true ∧ t.get (F.SAF_DIAGi_TOTAL 24) = Nat.min 65535 (s.get (F.SAF_DIAGi_TOTAL 24) + 1))) ∧
  (∀ p : Bool, scareRuns s = false → Gives (.proof p) s (fun t => t = s)) ∧
  (s.armed = true ∨ s.saf.arming = true ∨ s.flag F.SAF_ARM_REQ = true → Gives .disarm s (fun t => t.armed = false ∧ t.saf.permit = false ∧
    t.get F.SAF_ST_OUT = 0 ∧ t.flag F.SAF_ARM_REQ = false ∧ t.flag F.PWR_STATE_ARMED = false ∧ t.saf.arming = false ∧ EdgeTaken s t 113 ∧
    t = { s with regs := t.regs, saf := { s.saf with permit := false, arming := false } } ∧
    RegsKept s t ([A.SAF_ST, A.SAF_ARM, A.PWR_STATE] ++ sourceRegs 113))) ∧
  (s.armed = false → s.saf.arming = false → s.flag F.SAF_ARM_REQ = false → Gives .disarm s (fun t => t = s)) ∧
  (s.pstate = SENTRY → Gives .ackReq s (fun t => OnlyRegs s t ∧ t.get F.SAF_ACK_STEP = 0 ∧ t.get F.SAF_ACK_ERR = 4 ∧ RegsKept s t [A.SAF_ACK])) ∧
  (s.pstate ≠ SENTRY → Gives .ackReq s (fun t => t = { s with regs := t.regs, saf := { s.saf with ackReq := true } } ∧ t.get F.SAF_ACK_STEP = 0 ∧
    t.get F.SAF_ACK_ERR = 0 ∧ t.get F.SAF_ACK_CHAL = 0 ∧ EdgeTaken s t 118 ∧ RegsKept s t (A.SAF_ACK :: sourceRegs 118))) ∧
  (∀ u : State, s.saf.ackReq = true → scareRuns s = true → u = { s with saf := { s.saf with ackReq := false } } →
    (ackError u = 0 → Gives .ackChallenge s (fun t => t.get F.SAF_ACK_STEP = 2 ∧ t.get F.SAF_ACK_CHAL = Config.freeValue s.free % 65536 ∧
      EdgeTaken s t 118 ∧ t = { u with regs := t.regs, free := s.free + 1, saf := { u.saf with ackAt := s.time.ms } } ∧
      RegsKept s t (A.SAF_ACK :: sourceRegs 118))) ∧
    (ackError u ≠ 0 → Gives .ackChallenge s (fun t => t.get F.SAF_ACK_STEP = 0 ∧ t.get F.SAF_ACK_ERR = ackError u ∧ EdgeTaken s t 118 ∧
      t = { u with regs := t.regs } ∧ RegsKept s t (A.SAF_ACK :: sourceRegs 118)))) ∧
  (ackError s = 0 → (∀ i < 25, s.bitOf F.SAF_LATCH_BITS i = true → repaired s i = true) ∧ s.saf.match_ = true ∧ s.get F.SAF_ST_OUT = 0) ∧
  (s.saf.ackReq = false ∨ scareRuns s = false → Gives .ackChallenge s (fun t => t = s)) ∧
  (∀ v : BitVec 16, s.get F.SAF_ACK_STEP = 2 → scareRuns s = true →
    (v.toNat ≠ Nat.xor (s.get F.SAF_ACK_CHAL) 0x5AA5 → Gives (.ackResp v) s (fun t => t.get F.SAF_ACK_STEP = 0 ∧ t.get F.SAF_ACK_ERR = 5 ∧
      t.get F.SAF_ACKFAIL_COUNT = Nat.min 65535 (s.get F.SAF_ACKFAIL_COUNT + 1) ∧ t.get F.SAF_LATCH_BITS = s.get F.SAF_LATCH_BITS ∧
      EdgeTaken s t 118 ∧ RegsKept s t ([A.SAF_ACK, A.SAF_ACKFAIL] ++ sourceRegs 118))) ∧
    (v.toNat = Nat.xor (s.get F.SAF_ACK_CHAL) 0x5AA5 → s.time.ms < s.saf.ackAt + 200 ∨ s.saf.ackAt + 10000 < s.time.ms →
      Gives (.ackResp v) s (fun t => t.get F.SAF_ACK_STEP = 0 ∧ t.get F.SAF_ACK_ERR = 6 ∧
        t.get F.SAF_ACKFAIL_COUNT = Nat.min 65535 (s.get F.SAF_ACKFAIL_COUNT + 1) ∧ t.get F.SAF_LATCH_BITS = s.get F.SAF_LATCH_BITS)) ∧
    (v.toNat = Nat.xor (s.get F.SAF_ACK_CHAL) 0x5AA5 → s.saf.ackAt + 200 ≤ s.time.ms → s.time.ms ≤ s.saf.ackAt + 10000 →
      Gives (.ackResp v) s (fun t => t.get F.SAF_LATCH_BITS = 0 ∧ t.get F.SAF_ACK_STEP = 3 ∧ EdgeTaken s t 118 ∧
        (∀ i < 25, t.flag (F.SAF_DIAGi_LASTING i) = false) ∧ t.flag F.SAF_ST_FAULTN = (s.flag F.SAF_ST_FAULTN && !(decide (s.pwr.failRow = 0) || decide (5 ≤ s.pwr.failRow))) ∧
        (s.pstate ≠ TRIPPED → t = { s with regs := t.regs }) ∧
        (s.pstate = TRIPPED → t.flag F.PWR_STATE_TRANS = true ∧ t.get F.PWR_STATE_TARGET = if s.flag F.PWR_STATE_REC then RECORD else WATCH)))) ∧
  (∀ v : BitVec 16, s.get F.SAF_ACK_STEP ≠ 2 ∨ scareRuns s = false → Gives (.ackResp v) s (fun t => t = s))

/-- Heartbeats and stops of partners. A heartbeat next in sequence and in time from a set partner shows it alive, healthy
as it says, and its TDEC; one that is not 20 bytes, fails its CRC, is of another kind or comes from a partner that
is not set is not accepted, and counts an event of diagnostic 22; before it is synchronised a partner is not shown alive. 24 ms without one clears ALIVE and HEALTHY; where heartbeats are required it is latched as 21 and
the receiver is unsynchronised to that partner. An accepted stop from a stop source trips an armed device with cause 2;
from another set partner it only advances the sequence and is logged, with a first word the spec does not give (log 80).
While the Scarecrow does not run, heartbeats, stops and their timeout do nothing more; without a message its row does nothing, and its
sender counts as heard (log 24). Rests on spec/20_functional_safety.md, spec/19_hedgerow_messages_and_systems.md. -/
def Obligations.SafetyPartners : Prop := ∀ (s : State) (x : Fin 2), s.hg.port.length = 2 → s.saf.part.length = 4 →
  (msgOwn s x T_SAFE_HB = none → Gives (.safeHb x) s (fun t => t = s)) ∧
  (msgOwn s x T_SAFE_STOP = none → Gives (.safeStop x) s (fun t => t = s)) ∧
  (∀ (r : RxMsg) (u : State), msgOwn s x T_SAFE_HB = some (r, u) →
    (scareRuns s = false → Gives (.safeHb x) s (fun t => t = partnerHeard u r.msg.src)) ∧
    (scareRuns s = true → r.msg.body.length ≠ 20 ∨ leOfBytes (r.msg.body.drop 16) ≠ crc32c (r.msg.body.take 16) ∨ nth r.msg.body 1 0 ≠ 1 ∨
        partSet s (nth r.msg.body 0 0) = false →
      Gives (.safeHb x) s (fun t => t = diagCount (partnerHeard u r.msg.src) 22 3 u.time.ms)) ∧
    (∀ (c : State × Bool) (p : Nat), scareRuns s = true → c = pduCheck (partnerHeard u r.msg.src) 1 r.msg.body → p = nth r.msg.body 0 0 →
      Gives (.safeHb x) s (fun t => (c.2 = false → t = c.1) ∧ (c.2 = true → t.flag (F.SAF_PARTp_ALIVE p) = (c.1.part p).sync ∧
        t.flag (F.SAF_PARTp_HEALTHY p) = ((c.1.part p).sync && bit (nth r.msg.body 2 0) 2) ∧
        t.get (F.SAF_PARTp_TDEC p) = leOfBytes ((r.msg.body.drop 8).take 2) % 2 ^ 16 ∧ (t.part p).sync = (c.1.part p).sync ∧
        (bit (nth r.msg.body 2 0) 2 = false → (t.part p).well = none)))) ∧
    (∀ p : Nat, scareRuns s = true → r.msg.body.length = 20 → leOfBytes (r.msg.body.drop 16) = crc32c (r.msg.body.take 16) →
      nth r.msg.body 1 0 = 1 → p = nth r.msg.body 0 0 → p < 4 → s.flag (F.SAF_PARTp_STOPSRC p) = true → s.flag (F.SAF_PARTp_HBREQ p) = false →
      (s.part p).sync = true → (s.part p).at_ = some s.time.ms → (s.part p).ssEq + 1 < 2 ^ 32 → leOfBytes ((r.msg.body.drop 4).take 4) = (s.part p).ssEq + 1 →
      Gives (.safeHb x) s (fun t => t.flag (F.SAF_PARTp_ALIVE p) = true ∧ t.flag (F.SAF_PARTp_HEALTHY p) = bit (nth r.msg.body 2 0) 2 ∧
        t.get (F.SAF_PARTp_TDEC p) = leOfBytes ((r.msg.body.drop 8).take 2) % 2 ^ 16 ∧ (t.part p).ssEq = (s.part p).ssEq + 1 ∧ (t.part p).sync = true ∧
        t = { partnerHeard u r.msg.src with regs := t.regs, saf := { s.saf with part := t.saf.part } } ∧ RegsKept s t [A.SAF_PARTp p]))) ∧
  (∀ (r : RxMsg) (u : State), msgOwn s x T_SAFE_STOP = some (r, u) →
    (scareRuns s = false → Gives (.safeStop x) s (fun t => t = partnerHeard u r.msg.src)) ∧
    (∀ (c : State × Bool) (p : Nat), scareRuns s = true → c = pduCheck (partnerHeard u r.msg.src) 2 r.msg.body → p = nth r.msg.body 0 0 →
      Gives (.safeStop x) s (fun t => t = (if c.2 = false then c.1 else if c.1.flag (F.SAF_PARTp_STOPSRC p) then partnerStop c.1 p else stopLog c.1))) ∧
    (∀ p : Nat, scareRuns s = true → r.msg.body.length = 20 → leOfBytes (r.msg.body.drop 16) = crc32c (r.msg.body.take 16) →
      nth r.msg.body 1 0 = 2 → p = nth r.msg.body 0 0 → p < 4 → (s.part p).sync = true → (s.part p).ssEq + 1 < 2 ^ 32 →
      leOfBytes ((r.msg.body.drop 4).take 4) = (s.part p).ssEq + 1 →
      (s.flag (F.SAF_PARTp_STOPSRC p) = true → s.armed = true → s.saf.arming = false → s.pwr.trans = none → Gives (.safeStop x) s (fun t =>
        t.armed = false ∧ t.saf.permit = false ∧ t.get F.SAF_ST_OUT = 0 ∧ t.pstate = TRIPPED ∧ t.get F.SAF_ST_CAUSE = 2 ∧ intPend t 114 = true ∧
        t.saf.stopAt = some s.time.ms)) ∧
      (s.flag (F.SAF_PARTp_STOPSRC p) = false → s.flag (F.SAF_PARTp_HBREQ p) = true → Gives (.safeStop x) s (fun t =>
        t = { partnerHeard u r.msg.src with regs := t.regs, free := t.free, saf := { s.saf with part := t.saf.part } } ∧
        (t.part p).ssEq = (s.part p).ssEq + 1 ∧ t.get F.SAF_LOGPTR_PTR = (s.get F.SAF_LOGPTR_PTR + 1) % 32 ∧
        t.rd (A.SAF_LOGj_HI (t.get F.SAF_LOGPTR_PTR)) = s.rd A.SYS_UPTIME_LO ∧
        RegsKept s t [A.SAF_LOGPTR, A.SAF_LOGj_LO ((s.get F.SAF_LOGPTR_PTR + 1) % 32), A.SAF_LOGj_HI ((s.get F.SAF_LOGPTR_PTR + 1) % 32)])))) ∧
  (∀ p : Fin 4, scareRuns s = true → s.flag (F.SAF_PARTp_HBREQ p) = false → Gives (.heartbeatTimeout p) s (fun t =>
    t.flag (F.SAF_PARTp_ALIVE p) = false ∧ t.flag (F.SAF_PARTp_HEALTHY p) = false ∧ RegsKept s t [A.SAF_PARTp p] ∧
    t = { s with regs := t.regs, saf := { s.saf with part := t.saf.part } })) ∧
  (∀ p : Fin 4, scareRuns s = true → s.pstate ≠ OFF → s.flag (F.SAF_PARTp_HBREQ p) = true → Gives (.heartbeatTimeout p) s (fun t =>
    t.flag (F.SAF_PARTp_ALIVE p) = false ∧ t.flag (F.SAF_PARTp_HEALTHY p) = false ∧ (t.part p).sync = false ∧ t.bitOf F.SAF_LATCH_BITS 21 = true ∧
    t.flag F.SAF_ST_FAULTN = true ∧ t.saf.hbTrip = s.saf.hbTrip ++ (if s.armed then [p.val] else []))) ∧
  (∀ p : Fin 4, scareRuns s = false → Gives (.heartbeatTimeout p) s (fun t => t = s))

/-- Starting and ending NVM commands and service actions, and the test access port. Each NVM command and each service
action, started with none running, sets BUSY and clears ERR, and holds what refuses it; while one runs another is refused
as busy; a command or action written while writes are deferred acts later. A command's end gives its effect, or its refusal's error, with DONE, BUSY
clear and source 9: a refused one changes no stored content, ERASE_SLOT leaves the slot empty and not VALID, VERIFY sets
VALID by the image's check, PROVKEY and PROVLINK install from the page buffer and zero it, RECREAD gives the record's
length. A service action's end is the same with source 13, and a refused one changes nothing else. A
reclaim copies the chosen sector's live records forward and erases it; with 8 or more erased sectors it, and a repair of a
row that is not flagged, a RETIRE that none has accepted, and a calibration action that is not running change nothing. In
test mode each test instruction selects its code and TRST# IDCODE; outside it none changes anything. Rests on
spec/21_service_and_repair.md, spec/23_electrical_and_package.md. -/
def Obligations.NvmServiceAndTestAccess : Prop := ∀ s : State,
  (∀ e ∈ [(Instr.eraseSlot, 1), (.program, 2), (.verify, 3), (.activate, 4), (.bootsave, 5), (.provkey, 6), (.provlink, 7), (.recwrite, 8), (.recdel, 9), (.recread, 10)],
    (s.pwr.deferring = false → s.nvm.cmd = none → Gives e.1 s (fun t =>
      t = { s with regs := t.regs, nvm := { s.nvm with cmd := some (e.2, nvmRefuse s e.2) } } ∧ t.flag F.NVM_CTL_BUSY = true ∧
      t.get F.NVM_CTL_ERR = 0 ∧ RegsKept s t [A.NVM_CTL])) ∧
    (s.pwr.deferring = false → s.nvm.cmd.isSome = true → Gives e.1 s (fun t => OnlyRegs s t ∧ t.get F.NVM_CTL_ERR = 1 ∧ RegsKept s t [A.NVM_CTL])) ∧
    (s.pwr.deferring = true → Gives e.1 s (fun t => t = laterWord s A.NVM_CTL F.NVM_CTL_CMD e.2))) ∧
  (s.flag F.NVM_ST_MOUNTED = false → ∀ c : Nat, nvmRefuse s c = 2) ∧
  (s.flag F.NVM_ST_MOUNTED = true → s.pstate ≠ SERVICE → nvmRefuse s 6 = 2 ∧ nvmRefuse s 7 = 2) ∧
  (s.flag F.NVM_ST_MOUNTED = true → nvmKind s ≠ 0 → nvmSlot s = activeSlot s (nvmKind s) → nvmRefuse s 1 = 3 ∧ nvmRefuse s 2 = 3) ∧
  (∀ (c e : Nat) (w : Option (Fin 512)), s.nvm.cmd = some (c, e) → e ≠ 0 → e < 16 → Gives (.nvmCommandDone w) s (fun t =>
    t.flag F.NVM_CTL_BUSY = false ∧ t.flag F.NVM_CTL_DONE = true ∧ t.get F.NVM_CTL_ERR = e ∧ intPend t 9 = true ∧ t.nvm.cmd = none ∧
    t.nvm.slot = s.nvm.slot ∧ t.nvm.sec = s.nvm.sec ∧ t.nvm.valid = s.nvm.valid ∧ t.nvm.fwkey = s.nvm.fwkey ∧ t.nvm.link = s.nvm.link ∧
    (c = 6 ∨ c = 7 → ∀ i < 1024, (t.rd (nvmBuf + 4 * i)).toNat = 0))) ∧
  (s.nvm.cmd = some (1, 0) → nvmKind s ≠ 0 → s.nvm.slot.length = 6 → Gives (.nvmCommandDone none) s (fun t => t.slotMem (nvmIndex s) = [] ∧
    bit t.nvm.valid (nvmIndex s) = false ∧ t.get (F.NVM_VERk_VERSION (nvmIndex s)) = 0 ∧ t.get F.NVM_CTL_ERR = 0 ∧ t.flag F.NVM_CTL_DONE = true ∧
    (∀ k < 6, k ≠ nvmIndex s → t.slotMem k = s.slotMem k))) ∧
  (∀ img : Image, s.nvm.cmd = some (3, 0) → nvmKind s ≠ 0 → imageCheck { s with nvm := { s.nvm with cmd := none } } (nvmKind s) (nvmIndex s) = .ok img →
    Gives (.nvmCommandDone none) s (fun t => bit t.nvm.valid (nvmIndex s) = true ∧ t.get F.NVM_CTL_ERR = 0 ∧ t.flag F.NVM_CTL_DONE = true ∧
      t.nvm.slot = s.nvm.slot)) ∧
  (∀ (c : Nat) (w : Option (Fin 512)), s.nvm.cmd = some (c, 0) → Gives (.nvmCommandDone w) s (fun t => t.nvm.cmd = none ∧
    t.flag F.NVM_CTL_BUSY = false ∧ t.flag F.NVM_CTL_DONE = true ∧ intPend t 9 = true ∧
    t.get F.NVM_CTL_ERR = (nvmEffect { s with nvm := { s.nvm with cmd := none } } c w).2 % 16)) ∧
  (s.nvm.cmd = some (6, 0) → (nvmKind s = 1 → s.nvm.fwkey = none → Gives (.nvmCommandDone none) s (fun t =>
      t.nvm.fwkey = some (bufRead s nvmBuf 64) ∧ t.nvm.seedkey = s.nvm.seedkey ∧ t.get F.NVM_CTL_ERR = 0)) ∧
    (nvmKind s = 2 → s.nvm.seedkey = none → Gives (.nvmCommandDone none) s (fun t =>
      t.nvm.seedkey = some (bufRead s nvmBuf 64) ∧ t.nvm.fwkey = s.nvm.fwkey ∧ t.get F.NVM_CTL_ERR = 0)) ∧
    (∀ k, nvmKind s = 1 → s.nvm.fwkey = some k → ecdsaOk k ((bufRead s nvmBuf 128).drop 64) (bufRead s nvmBuf 64) = false →
      Gives (.nvmCommandDone none) s (fun t => t.nvm.fwkey = some k ∧ t.get F.NVM_CTL_ERR = 4))) ∧
  (s.nvm.cmd = some (7, 0) → Gives (.nvmCommandDone none) s (fun t => t.get F.NVM_CTL_ERR = 0 ∧
    t.nvm.link = setNth s.nvm.link (s.get F.NVM_PERM_SLOT) (some (beOfBytes (bufRead s nvmBuf 16), s.get F.NVM_PERM_PERM)) ∧
    (∀ i < 1024, (t.rd (nvmBuf + 4 * i)).toNat = 0))) ∧
  (s.nvm.cmd = some (10, 0) → Gives (.nvmCommandDone none) s (fun t => t.get F.NVM_CTL_ERR = 0 ∧ t.nvm = { s.nvm with cmd := none } ∧
    t.get F.NVM_RECLEN_LEN = ((recGet s R_USER (s.get F.NVM_RECID_ID)).getD []).length % 4096)) ∧
  (s.nvm.cmd = none → ∀ w : Option (Fin 512), Gives (.nvmCommandDone w) s (fun t => t = s)) ∧
  (∀ e ∈ [(Instr.rowrep, 1), (.retire, 2), (.unretire, 3), (.sectret, 4), (.savemap, 5), (.reloadSc, 6), (.loadSentry, 7)],
    (s.pwr.deferring = false → s.nvm.act = none → (svcRefuse s e.2 (s.get F.SVC_ARG_ARG) ≠ 0 ∨ e.2 ≠ 2 ∧ e.2 ≠ 6) → Gives e.1 s (fun t =>
      t = { s with regs := t.regs, nvm := { s.nvm with act := some (e.2, s.get F.SVC_ARG_ARG, svcRefuse s e.2 (s.get F.SVC_ARG_ARG)) } } ∧
      t.flag F.SVC_ACT_BUSY = true ∧ t.get F.SVC_ACT_ERR = 0 ∧ t.get F.SVC_REASON_REASON = 0 ∧ t.get F.SVC_OBJ_OBJ = 0 ∧
      RegsKept s t [A.SVC_ACT, A.SVC_REASON, A.SVC_OBJ])) ∧
    (s.pwr.deferring = false → s.nvm.act.isSome = true → Gives e.1 s (fun t => OnlyRegs s t ∧ t.get F.SVC_ACT_ERR = 1 ∧ RegsKept s t [A.SVC_ACT])) ∧
    (s.pwr.deferring = true → Gives e.1 s (fun t => t = laterWord s A.SVC_ACT F.SVC_ACT_ACTION e.2))) ∧
  (s.pwr.deferring = false → s.nvm.act = none → s.awake = true →
    (∀ o : Nat, retireRefusal s (s.get F.SVC_ARG_ARG % 4) (s.get F.SVC_ARG_ARG / 256 % 4) = some o → Gives .retire s (fun t =>
      t.get F.SVC_REASON_REASON = 3 ∧ t.get F.SVC_OBJ_OBJ = o % 2 ^ 32 ∧ t.nvm.act = some (2, s.get F.SVC_ARG_ARG, 4) ∧ t.hsp = s.hsp)) ∧
    (retireRefusal s (s.get F.SVC_ARG_ARG % 4) (s.get F.SVC_ARG_ARG / 256 % 4) = none → Gives .retire s (fun t =>
      t.nvm.act = some (2, s.get F.SVC_ARG_ARG, 0) ∧ t.flag F.SVC_ACT_BUSY = true ∧ t.hsp.checks = s.hsp.checks ++ [⟨.retire, retireWords s (s.get F.SVC_ARG_ARG % 4) (s.get F.SVC_ARG_ARG / 256 % 4)⟩]))) ∧
  (s.pwr.deferring = false → s.nvm.act = none → s.pstate = SERVICE → s.frw.scState ≠ 0 → Gives .reloadSc s (fun t =>
    t.flag F.SVC_ACT_BUSY = true ∧ coreState t SCARE = C_HALT)) ∧
  (∀ a arg e : Nat, s.nvm.act = some (a, arg, e) → e ≠ 0 → e < 16 → a ≠ 2 → Gives .serviceActionDone s (fun t => t.flag F.SVC_ACT_BUSY = false ∧
    t.flag F.SVC_ACT_DONE = true ∧ t.get F.SVC_ACT_ERR = e ∧ intPend t 13 = true ∧ t.nvm.act = none ∧ t.nvm.sec = s.nvm.sec ∧ t.swa = s.swa)) ∧
  (∀ a arg : Nat, s.nvm.act = some (a, arg, 0) → ¬ (a = 2 ∧ retirePending s = true) → Gives .serviceActionDone s (fun t => t.flag F.SVC_ACT_BUSY = false ∧
    t.flag F.SVC_ACT_DONE = true ∧ t.get F.SVC_ACT_ERR = (svcEffect s a arg).2 ∧ intPend t 13 = true ∧ t.nvm.act = none)) ∧
  (∀ arg e : Nat, s.nvm.act = some (2, arg, e) → retirePending s = true → Gives .serviceActionDone s (fun t => t = s)) ∧
  (∀ arg : Nat, s.nvm.act = some (3, arg, 0) → Gives .serviceActionDone s (fun t => t.nvm.cores = s.nvm.cores.filter (fun c => decide (c ≠ arg)))) ∧
  (s.nvm.act = none → Gives .serviceActionDone s (fun t => t = s) ∧ Gives .retireTakesEffect s (fun t => t = s)) ∧
  (∀ (arg e : Nat) (ws : List (Nat × Word)), s.nvm.act = some (2, arg, e) → s.nvm.retire = some ws →
    (coreAtFrame s (arg % 4) && coreAtFrame s (arg / 256 % 4)) = false → Gives .retireTakesEffect s (fun t => t = s)) ∧
  (∀ (arg e : Nat) (ws : List (Nat × Word)), s.nvm.act = some (2, arg, e) → s.nvm.retire = some ws → coreAtFrame s (arg % 4) = true → coreAtFrame s (arg / 256 % 4) = true →
    Gives .retireTakesEffect s (fun t => t = coreRetired { storeWords s ws with nvm := { s.nvm with retire := none } } (arg % 4) ∧ t.nvm.retire = none ∧
      coreState t (arg % 4) = C_RETIRED)) ∧
  (s.nvm.retire.isSome = true → s.clk.present = true → Gives .retireTimeout s (fun t => t.get F.SVC_ACT_ERR = 5 ∧ t.flag F.SVC_ACT_BUSY = false ∧ t.flag F.SVC_ACT_DONE = true ∧ t.nvm.act = none)) ∧
  (s.nvm.retire = none ∨ s.clk.present = false → Gives .retireTimeout s (fun t => t = s)) ∧
  (∀ r : Nat, r ∉ s.swa.flagged ∨ s.flag F.SWA_CFG_AUTOREP = false ∨ s.awake = false → Gives (.rowRepair r) s (fun t => t = s)) ∧
  (∀ r : Nat, r ∈ s.swa.flagged → s.flag F.SWA_CFG_AUTOREP = true → s.awake = true → Gives (.rowRepair r) s (fun t => t = mapRow s r ∧
    (r ∉ s.swa.repaired → s.get F.SWA_REP_USED < 256 → s.flag F.SWA_REP_EXHAUST = false → t.swa.repaired = s.swa.repaired ++ [r] ∧ t.nvm.rows = s.nvm.rows ++ [r]))) ∧
  (∀ (n : Nat) (u : State), s.flag F.NVM_ST_MOUNTED = true → (erased s).length < 8 → reclaimChoice s = some n → moveLive s n = some u →
    (u.sector n).erased < 49999 → Gives .reclaim s (fun t => (t.sector n).frags = [] ∧ (t.sector n).erased = (u.sector n).erased + 1)) ∧
  (s.flag F.NVM_ST_MOUNTED = false ∨ 8 ≤ (erased s).length ∨ reclaimChoice s = none → Gives .reclaim s (fun t => t = s)) ∧
  (∀ n : Nat, reclaimChoice s = some n → moveLive s n = none → Gives .reclaim s (fun t => t = s)) ∧
  (s.mic.nvm = none → Gives .calNvmActionEnd s (fun t => t = s)) ∧
  (s.mic.nvm = some true → (∀ u : State, calSaveAll s = (u, true) → Gives .calNvmActionEnd s (fun t => t.mic.nvm = none ∧ t.nvm = u.nvm)) ∧
    (∀ u : State, calSaveAll s = (u, false) → Gives .calNvmActionEnd s (fun t => t.mic.nvm = none ∧ t.get F.MIC_CALCTL_ERR = 5))) ∧
  (s.mic.nvm = some false → (∀ p < 32, recGet s R_CAL p = none) → Gives .calNvmActionEnd s (fun t => t.mic.nvm = none ∧ t.nvm = s.nvm)) ∧
  (∀ e ∈ [(Instr.extest, 0x00), (.idcode, 0x01), (.samplePreload, 0x02), (.clamp, 0x04), (.highz, 0x05), (.bypass, 0x1F), (.testLogicReset, 0x01)],
    (s.pwr.test = true → Gives e.1 s (fun t => t = { s with jtag := e.2 })) ∧ (s.pwr.test = false → Gives e.1 s (fun t => t = s))) ∧
  (s.jtag = 0x01 → jtagCapture s = some 0x132326B9) ∧ (s.jtag = 0x1F ∨ s.jtag = 0x04 ∨ s.jtag = 0x05 → jtagCapture s = some 0)
end

