-- ==== Sys2Proof/Laws/Sparse.lean ====
section
/-! SUPPORT. The laws of sparse storage: a read after a write, and the canonical form kept. -/

namespace Sys2Proof.Machine

theorem sparseGet_append {α : Type} (d : Nat → α) (l m : List (Nat × α)) (a : Nat) (h : ∀ e ∈ l, e.1 ≠ a) :
    sparseGet d (l ++ m) a = sparseGet d m a := by
  induction l with
  | nil => rfl
  | cons e t ih =>
    obtain ⟨k, v⟩ := e
    have hk : k ≠ a := h (k, v) (by simp)
    simp only [List.cons_append, sparseGet, if_neg hk]
    exact ih (fun e he => h e (by simp [he]))

theorem sparseGet_append_none {α : Type} (d : Nat → α) (l m : List (Nat × α)) (a : Nat) (h : ∀ e ∈ m, e.1 ≠ a) :
    sparseGet d (l ++ m) a = sparseGet d l a := by
  induction l with
  | nil =>
    induction m with
    | nil => rfl
    | cons e t ih =>
      obtain ⟨k, v⟩ := e
      have hk : k ≠ a := h (k, v) (by simp)
      have := ih (fun e he => h e (by simp [he]))
      simpa only [List.nil_append, sparseGet, if_neg hk] using this
  | cons e t ih =>
    obtain ⟨k, v⟩ := e
    simp only [List.cons_append, sparseGet, ih]

theorem sparseGet_filter {α : Type} (d : Nat → α) (l : List (Nat × α)) (p : Nat → Bool) (a : Nat) :
    sparseGet d (l.filter (fun e => p e.1)) a = if p a then sparseGet d l a else d a := by
  induction l with
  | nil => simp [sparseGet]
  | cons e t ih =>
    obtain ⟨k, v⟩ := e
    by_cases hp : p k = true
    · by_cases hk : k = a
      · subst hk; simp [sparseGet, hp]
      · simp only [List.filter_cons, hp, if_true, sparseGet, if_neg hk]; exact ih
    · simp only [List.filter_cons, hp]
      rw [if_neg (by simp), ih]
      by_cases hk : k = a
      · subst hk; simp [hp]
      · simp [sparseGet, hk]

/-- A read after a write to the same address gives the value written. -/
theorem sparseGet_set_same {α : Type} [DecidableEq α] (d : Nat → α) (l : List (Nat × α)) (a : Nat) (v : α) :
    sparseGet d (sparseSet d l a v) a = v := by
  unfold sparseSet
  rw [sparseGet_append_none _ _ _ _ (by intro e he; simp at he; omega),
    sparseGet_append _ _ _ _ (by intro e he; simp at he; omega)]
  by_cases hv : v = d a
  · simp [hv, sparseGet]
  · simp [hv, sparseGet]

/-- A write leaves every other address as it was. -/
theorem sparseGet_set_other {α : Type} [DecidableEq α] (d : Nat → α) (l : List (Nat × α)) (a b : Nat) (v : α) (h : a ≠ b) :
    sparseGet d (sparseSet d l a v) b = sparseGet d l b := by
  have hm : ∀ e ∈ (if v = d a then [] else [(a, v)]), e.1 ≠ b := by
    intro e he; split at he <;> simp_all
  have h1 := sparseGet_filter d l (fun k => decide (k < a)) b
  have h2 := sparseGet_filter d l (fun k => decide (a < k)) b
  unfold sparseSet
  rcases Nat.lt_or_gt_of_ne h with hlt | hgt
  · rw [sparseGet_append _ _ _ _ (by
      intro e he
      rcases List.mem_append.mp he with he | he
      · simp at he; omega
      · exact hm e he)]
    rw [h2]; simp [hlt]
  · rw [sparseGet_append_none _ _ _ _ (by intro e he; simp at he; omega), sparseGet_append_none _ _ _ _ hm]
    rw [h1]; simp [hgt]

/-- A cleared range reads as the default; the rest as before. -/
theorem sparseGet_clear {α : Type} (d : Nat → α) (l : List (Nat × α)) (lo hi a : Nat) :
    sparseGet d (sparseClear l lo hi) a = if lo ≤ a ∧ a < hi then d a else sparseGet d l a := by
  have h := sparseGet_filter d l (fun k => decide (k < lo) || decide (hi ≤ k)) a
  unfold sparseClear
  rw [h]
  by_cases h1 : lo ≤ a <;> by_cases h2 : a < hi <;> simp [h1, h2] <;> omega

/-! ## The canonical form -/

theorem sparseWfFrom_mono {α : Type} [DecidableEq α] (d : Nat → α) (l : List (Nat × α)) (lo hi : Nat) (h : lo ≤ hi)
    (w : sparseWfFrom d hi l = true) : sparseWfFrom d lo l = true := by
  cases l with
  | nil => rfl
  | cons e t =>
    obtain ⟨k, v⟩ := e
    simp only [sparseWfFrom, Bool.and_eq_true, decide_eq_true_eq] at w ⊢
    exact ⟨⟨by omega, w.1.2⟩, w.2⟩

theorem sparseWfFrom_filter {α : Type} [DecidableEq α] (d : Nat → α) (p : Nat × α → Bool) (l : List (Nat × α)) (lo : Nat)
    (w : sparseWfFrom d lo l = true) : sparseWfFrom d lo (l.filter p) = true := by
  induction l generalizing lo with
  | nil => rfl
  | cons e t ih =>
    obtain ⟨k, v⟩ := e
    simp only [sparseWfFrom, Bool.and_eq_true, decide_eq_true_eq] at w
    by_cases hp : p (k, v) = true
    · rw [List.filter_cons_of_pos hp]
      simp only [sparseWfFrom, Bool.and_eq_true, decide_eq_true_eq]
      exact ⟨w.1, ih _ w.2⟩
    · rw [List.filter_cons_of_neg hp]
      exact ih _ (sparseWfFrom_mono d t lo (k + 1) (by omega) w.2)

theorem sparseWfFrom_ge {α : Type} [DecidableEq α] (d : Nat → α) (l : List (Nat × α)) (lo : Nat)
    (w : sparseWfFrom d lo l = true) : ∀ e ∈ l, lo ≤ e.1 := by
  induction l generalizing lo with
  | nil => simp
  | cons e t ih =>
    obtain ⟨k, v⟩ := e
    simp only [sparseWfFrom, Bool.and_eq_true, decide_eq_true_eq] at w
    intro e he
    rcases List.mem_cons.mp he with rfl | he
    · exact w.1.1
    · have := ih _ w.2 e he; omega

/-- Two canonical stores, the second beginning above every address of the first. -/
theorem sparseWfFrom_append {α : Type} [DecidableEq α] (d : Nat → α) (l m : List (Nat × α)) (lo hi : Nat)
    (wl : sparseWfFrom d lo l = true) (wm : sparseWfFrom d hi m = true) (hl : lo ≤ hi) (h : ∀ e ∈ l, e.1 < hi) :
    sparseWfFrom d lo (l ++ m) = true := by
  induction l generalizing lo with
  | nil => exact sparseWfFrom_mono d m lo hi hl wm
  | cons e t ih =>
    obtain ⟨k, v⟩ := e
    simp only [sparseWfFrom, Bool.and_eq_true, decide_eq_true_eq, List.cons_append] at wl ⊢
    have hk : k < hi := h (k, v) (by simp)
    exact ⟨wl.1, ih _ wl.2 (by omega) (fun e he => h e (by simp [he]))⟩

theorem sparseWfFrom_above {α : Type} [DecidableEq α] (d : Nat → α) (l : List (Nat × α)) (lo a : Nat)
    (w : sparseWfFrom d lo l = true) : sparseWfFrom d (a + 1) (l.filter (fun e => decide (a < e.1))) = true := by
  induction l generalizing lo with
  | nil => rfl
  | cons e t ih =>
    obtain ⟨k, v⟩ := e
    simp only [sparseWfFrom, Bool.and_eq_true, decide_eq_true_eq] at w
    by_cases hk : a < k
    · rw [List.filter_cons_of_pos (by simpa using hk)]
      simp only [sparseWfFrom, Bool.and_eq_true, decide_eq_true_eq]
      exact ⟨⟨by omega, w.1.2⟩, sparseWfFrom_filter d _ t _ w.2⟩
    · rw [List.filter_cons_of_neg (by simpa using hk)]
      exact ih _ w.2

/-- A write keeps the canonical form. -/
theorem sparseWf_set {α : Type} [DecidableEq α] (d : Nat → α) (l : List (Nat × α)) (a : Nat) (v : α)
    (w : sparseWf d l = true) : sparseWf d (sparseSet d l a v) = true := by
  unfold sparseWf at w ⊢
  unfold sparseSet
  have hi := sparseWfFrom_above d l 0 a w
  have lo := sparseWfFrom_filter d (fun e => decide (e.1 < a)) l 0 w
  rw [List.append_assoc]
  refine sparseWfFrom_append d _ _ 0 a lo ?_ (by omega) (by intro e he; simp at he; omega)
  by_cases hv : v = d a
  · simpa [hv] using sparseWfFrom_mono d _ a (a + 1) (by omega) hi
  · simp [hv, sparseWfFrom, hi]

/-- Emptying a range keeps the canonical form. -/
theorem sparseWf_clear {α : Type} [DecidableEq α] (d : Nat → α) (l : List (Nat × α)) (lo hi : Nat)
    (w : sparseWf d l = true) : sparseWf d (sparseClear l lo hi) = true :=
  sparseWfFrom_filter d _ l 0 w

end Sys2Proof.Machine
end

