-- ==== Sys2Proof/Laws/Memory.lean ====
section
/-! SUPPORT. The laws of the addressed memories (swath, short swath, core memories, the Common, image slots): what a read
gives after a write, and the canonical form, which every operation on them keeps. -/

namespace Sys2Proof.Machine

theorem memGet_memSet_same (m : List Host.Cell) (a v : Nat) : memGet (memSet m a v) a = v % 256 := by
  unfold memGet memSet
  rw [sparseGet_set_same, BitVec.toNat_ofNat]

theorem memGet_memSet_other (m : List Host.Cell) (a b v : Nat) (h : a ≠ b) : memGet (memSet m a v) b = memGet m b := by
  unfold memGet memSet
  rw [sparseGet_set_other _ _ _ _ _ h]

/-- A byte outside the bytes written reads as before. -/
theorem memGet_memWrite_other (m : List Host.Cell) (a b : Nat) (bs : List Nat) (h : b < a ∨ a + bs.length ≤ b) :
    memGet (memWrite m a bs) b = memGet m b := by
  induction bs generalizing m a with
  | nil => rfl
  | cons v t ih =>
    simp only [List.length_cons] at h
    simp only [memWrite]
    rw [ih _ _ (by omega), memGet_memSet_other _ _ _ _ (by omega)]

/-- A byte written reads as the value written. -/
theorem memGet_memWrite_at (m : List Host.Cell) (a i : Nat) (bs : List Nat) (h : i < bs.length) :
    memGet (memWrite m a bs) (a + i) = bs[i] % 256 := by
  induction bs generalizing m a i with
  | nil => simp at h
  | cons v t ih =>
    simp only [memWrite]
    cases i with
    | zero =>
      show memGet (memWrite _ (a + 1) t) a = v % 256
      rw [memGet_memWrite_other _ _ _ _ (by omega), memGet_memSet_same]
    | succ j =>
      have := ih (memSet m a v) (a + 1) j (by simpa using h)
      rw [show a + (j + 1) = a + 1 + j by omega, this]
      simp

/-! ## The canonical form -/

theorem memSet_wf (m : List Host.Cell) (a v : Nat) (h : Memory.wf m = true) : Memory.wf (memSet m a v) = true :=
  sparseWf_set _ _ _ _ h

theorem memWrite_wf (m : List Host.Cell) (a : Nat) (bs : List Nat) (h : Memory.wf m = true) :
    Memory.wf (memWrite m a bs) = true := by
  induction bs generalizing m a with
  | nil => exact h
  | cons v t ih => exact ih _ _ (memSet_wf _ _ _ h)

theorem memBits_wf (m : List Host.Cell) (base off w v : Nat) (h : Memory.wf m = true) :
    Memory.wf (memBits m base off w v) = true := memWrite_wf _ _ _ h

theorem memClear_wf (m : List Host.Cell) (lo hi : Nat) (h : Memory.wf m = true) : Memory.wf (sparseClear m lo hi) = true :=
  sparseWf_clear _ _ _ _ h

theorem mem_empty_wf : Memory.wf [] = true := rfl

/-- Every memory of the device is in canonical form right after reset, and so is the register file. -/
theorem reset_memories_wf : Memory.wf State.reset.swa.mem = true ∧ Memory.wf State.reset.swa.short = true ∧
    Memory.wf State.reset.frw.common = true ∧ regsWf State.reset = true := ⟨rfl, rfl, rfl, rfl⟩

end Sys2Proof.Machine
end

