-- ==== Sys2Proof/Laws/Regs.lean ====
section
/-! SUPPORT. The laws of the register file: a register or a field read after a write of the same one, of another register,
of other bits of the same register. -/

namespace Sys2Proof.Machine

/-! ## Bit fields -/

theorem testBit_bits (x lo w i : Nat) : (bits x lo w).testBit i = (decide (i < w) && x.testBit (lo + i)) := by
  simp only [bits, Nat.testBit_mod_two_pow, Nat.testBit_div_two_pow, Nat.add_comm]

theorem testBit_setBits (x lo w v i : Nat) :
    (setBits x lo w v).testBit i = if lo ≤ i ∧ i < lo + w then v.testBit (i - lo) else x.testBit i := by
  have e : setBits x lo w v = 2 ^ lo * (2 ^ w * (x / 2 ^ (lo + w)) + v % 2 ^ w) + x % 2 ^ lo := by
    simp only [setBits, Nat.pow_add]; ring
  rw [e, Nat.testBit_two_pow_mul_add _ (Nat.mod_lt _ (by positivity))]
  by_cases h : i < lo
  · simp [h, Nat.testBit_mod_two_pow, Nat.not_le.mpr h]
  · rw [if_neg h, Nat.testBit_two_pow_mul_add _ (Nat.mod_lt _ (by positivity))]
    by_cases h2 : i - lo < w
    · rw [if_pos h2, if_pos (by omega), Nat.testBit_mod_two_pow]; simp [h2]
    · rw [if_neg h2, if_neg (by omega), Nat.testBit_div_two_pow]; congr 1; omega

theorem setBits_lt (x lo w v n : Nat) (hx : x < 2 ^ n) (h : lo + w ≤ n) : setBits x lo w v < 2 ^ n := by
  apply Nat.lt_pow_two_of_testBit
  intro i hi
  rw [testBit_setBits, if_neg (by omega)]
  exact Nat.testBit_lt_two_pow (Nat.lt_of_lt_of_le hx (Nat.pow_le_pow_right (by omega) hi))

/-- A field read after it is set. -/
theorem bits_setBits_same (x lo w v : Nat) : bits (setBits x lo w v) lo w = v % 2 ^ w := by
  apply Nat.eq_of_testBit_eq
  intro i
  rw [testBit_bits, testBit_setBits, Nat.testBit_mod_two_pow]
  by_cases h : i < w
  · simp [h]
  · simp [h]

/-- A field read after bits outside it are set. -/
theorem bits_setBits_other (x lo w v lo' w' : Nat) (h : lo' + w' ≤ lo ∨ lo + w ≤ lo') :
    bits (setBits x lo w v) lo' w' = bits x lo' w' := by
  apply Nat.eq_of_testBit_eq
  intro i
  rw [testBit_bits, testBit_bits, testBit_setBits]
  by_cases h2 : i < w'
  · rw [if_neg (by omega)]
  · simp [h2]

theorem bits_lt (x lo w : Nat) : bits x lo w < 2 ^ w := Nat.mod_lt _ (by positivity)

/-! ## Registers -/

@[simp] theorem rd_wr_same (s : State) (a : Nat) (v : Word) : (s.wr a v).rd a = v := sparseGet_set_same _ _ _ _

theorem rd_wr_other (s : State) (a b : Nat) (v : Word) (h : a ≠ b) : (s.wr a v).rd b = s.rd b :=
  sparseGet_set_other _ _ _ _ _ h

theorem rd_put_other (s : State) (f : Fld) (v b : Nat) (h : f.addr ≠ b) : (s.put f v).rd b = s.rd b := rd_wr_other _ _ _ _ h

/-- A field read after it is put. -/
theorem get_put_same (s : State) (f : Fld) (v : Nat) (h : f.lo + f.width ≤ 32) : (s.put f v).get f = v % 2 ^ f.width := by
  unfold State.get State.put
  rw [rd_wr_same, BitVec.toNat_ofNat, Nat.mod_eq_of_lt (setBits_lt _ _ _ _ 32 (BitVec.isLt _) h), bits_setBits_same]

/-- A field of another register, or other bits of the same one. -/
theorem get_put_other (s : State) (f g : Fld) (v : Nat) (h : f.lo + f.width ≤ 32)
    (d : f.addr ≠ g.addr ∨ g.lo + g.width ≤ f.lo ∨ f.lo + f.width ≤ g.lo) : (s.put f v).get g = s.get g := by
  unfold State.get State.put
  by_cases ha : f.addr = g.addr
  · rw [← ha, rd_wr_same, BitVec.toNat_ofNat, Nat.mod_eq_of_lt (setBits_lt _ _ _ _ 32 (BitVec.isLt _) h)]
    exact bits_setBits_other _ _ _ _ _ _ (by omega)
  · rw [rd_wr_other _ _ _ _ ha]

theorem get_wr_other (s : State) (a : Nat) (v : Word) (g : Fld) (h : a ≠ g.addr) : (s.wr a v).get g = s.get g := by
  unfold State.get; rw [rd_wr_other _ _ _ _ h]

theorem flag_mark_same (s : State) (f : Fld) (b : Bool) (h : f.lo + f.width ≤ 32) (hw : f.width = 1) :
    (s.mark f b).flag f = b := by
  unfold State.flag State.mark
  rw [get_put_same _ _ _ h, hw]
  cases b <;> rfl

theorem get_lt (s : State) (f : Fld) : s.get f < 2 ^ f.width := bits_lt _ _ _

/-- A 64-bit register pair read after it is set. -/
theorem pair_setPair_same (s : State) (lo v : Nat) : (s.setPair lo v).pair lo = v % 2 ^ 64 := by
  unfold State.pair State.setPair
  rw [rd_wr_same, rd_wr_other _ _ _ _ (by omega), rd_wr_same]
  simp only [BitVec.toNat_ofNat]
  omega

/-- The register file stays canonical. -/
theorem wr_regs_wf (s : State) (a : Nat) (v : Word) (h : sparseWf resetWord s.regs = true) :
    sparseWf resetWord (s.wr a v).regs = true := sparseWf_set _ _ _ _ h

end Sys2Proof.Machine
end

