-- ==== Sys2Proof/Laws/State.lean ====
section
/-! SUPPORT. What the named updates of the state leave alone: one lemma per update and field. Each is true by unfolding, so
that no later proof unfolds a record update. -/

namespace Sys2Proof.Machine

variable (s : State)

@[simp] theorem State.wr_pending (a : Nat) (v : Word) : (s.wr a v).pending = s.pending := rfl
@[simp] theorem State.wr_clk (a : Nat) (v : Word) : (s.wr a v).clk = s.clk := rfl
@[simp] theorem State.wr_pwr (a : Nat) (v : Word) : (s.wr a v).pwr = s.pwr := rfl
@[simp] theorem State.wr_hsp (a : Nat) (v : Word) : (s.wr a v).hsp = s.hsp := rfl
@[simp] theorem State.wr_time (a : Nat) (v : Word) : (s.wr a v).time = s.time := rfl
@[simp] theorem State.wr_int (a : Nat) (v : Word) : (s.wr a v).int = s.int := rfl
@[simp] theorem State.wr_mic (a : Nat) (v : Word) : (s.wr a v).mic = s.mic := rfl
@[simp] theorem State.wr_flt (a : Nat) (v : Word) : (s.wr a v).flt = s.flt := rfl
@[simp] theorem State.wr_lsn (a : Nat) (v : Word) : (s.wr a v).lsn = s.lsn := rfl
@[simp] theorem State.wr_drl (a : Nat) (v : Word) : (s.wr a v).drl = s.drl := rfl
@[simp] theorem State.wr_swa (a : Nat) (v : Word) : (s.wr a v).swa = s.swa := rfl
@[simp] theorem State.wr_que (a : Nat) (v : Word) : (s.wr a v).que = s.que := rfl
@[simp] theorem State.wr_hg (a : Nat) (v : Word) : (s.wr a v).hg = s.hg := rfl
@[simp] theorem State.wr_frw (a : Nat) (v : Word) : (s.wr a v).frw = s.frw := rfl
@[simp] theorem State.wr_adc (a : Nat) (v : Word) : (s.wr a v).adc = s.adc := rfl
@[simp] theorem State.wr_mon (a : Nat) (v : Word) : (s.wr a v).mon = s.mon := rfl
@[simp] theorem State.wr_saf (a : Nat) (v : Word) : (s.wr a v).saf = s.saf := rfl
@[simp] theorem State.wr_nvm (a : Nat) (v : Word) : (s.wr a v).nvm = s.nvm := rfl
@[simp] theorem State.wr_jtag (a : Nat) (v : Word) : (s.wr a v).jtag = s.jtag := rfl
@[simp] theorem State.wr_free (a : Nat) (v : Word) : (s.wr a v).free = s.free := rfl

@[simp] theorem State.put_pending (f : Fld) (v : Nat) : (s.put f v).pending = s.pending := rfl
@[simp] theorem State.put_clk (f : Fld) (v : Nat) : (s.put f v).clk = s.clk := rfl
@[simp] theorem State.put_pwr (f : Fld) (v : Nat) : (s.put f v).pwr = s.pwr := rfl
@[simp] theorem State.put_hsp (f : Fld) (v : Nat) : (s.put f v).hsp = s.hsp := rfl
@[simp] theorem State.put_time (f : Fld) (v : Nat) : (s.put f v).time = s.time := rfl
@[simp] theorem State.put_int (f : Fld) (v : Nat) : (s.put f v).int = s.int := rfl
@[simp] theorem State.put_mic (f : Fld) (v : Nat) : (s.put f v).mic = s.mic := rfl
@[simp] theorem State.put_flt (f : Fld) (v : Nat) : (s.put f v).flt = s.flt := rfl
@[simp] theorem State.put_lsn (f : Fld) (v : Nat) : (s.put f v).lsn = s.lsn := rfl
@[simp] theorem State.put_drl (f : Fld) (v : Nat) : (s.put f v).drl = s.drl := rfl
@[simp] theorem State.put_swa (f : Fld) (v : Nat) : (s.put f v).swa = s.swa := rfl
@[simp] theorem State.put_que (f : Fld) (v : Nat) : (s.put f v).que = s.que := rfl
@[simp] theorem State.put_hg (f : Fld) (v : Nat) : (s.put f v).hg = s.hg := rfl
@[simp] theorem State.put_frw (f : Fld) (v : Nat) : (s.put f v).frw = s.frw := rfl
@[simp] theorem State.put_adc (f : Fld) (v : Nat) : (s.put f v).adc = s.adc := rfl
@[simp] theorem State.put_mon (f : Fld) (v : Nat) : (s.put f v).mon = s.mon := rfl
@[simp] theorem State.put_saf (f : Fld) (v : Nat) : (s.put f v).saf = s.saf := rfl
@[simp] theorem State.put_nvm (f : Fld) (v : Nat) : (s.put f v).nvm = s.nvm := rfl
@[simp] theorem State.put_jtag (f : Fld) (v : Nat) : (s.put f v).jtag = s.jtag := rfl
@[simp] theorem State.put_free (f : Fld) (v : Nat) : (s.put f v).free = s.free := rfl

@[simp] theorem State.putI_pending (f : Fld) (v : Int) : (s.putI f v).pending = s.pending := rfl
@[simp] theorem State.putI_clk (f : Fld) (v : Int) : (s.putI f v).clk = s.clk := rfl
@[simp] theorem State.putI_pwr (f : Fld) (v : Int) : (s.putI f v).pwr = s.pwr := rfl
@[simp] theorem State.putI_hsp (f : Fld) (v : Int) : (s.putI f v).hsp = s.hsp := rfl
@[simp] theorem State.putI_time (f : Fld) (v : Int) : (s.putI f v).time = s.time := rfl
@[simp] theorem State.putI_int (f : Fld) (v : Int) : (s.putI f v).int = s.int := rfl
@[simp] theorem State.putI_mic (f : Fld) (v : Int) : (s.putI f v).mic = s.mic := rfl
@[simp] theorem State.putI_flt (f : Fld) (v : Int) : (s.putI f v).flt = s.flt := rfl
@[simp] theorem State.putI_lsn (f : Fld) (v : Int) : (s.putI f v).lsn = s.lsn := rfl
@[simp] theorem State.putI_drl (f : Fld) (v : Int) : (s.putI f v).drl = s.drl := rfl
@[simp] theorem State.putI_swa (f : Fld) (v : Int) : (s.putI f v).swa = s.swa := rfl
@[simp] theorem State.putI_que (f : Fld) (v : Int) : (s.putI f v).que = s.que := rfl
@[simp] theorem State.putI_hg (f : Fld) (v : Int) : (s.putI f v).hg = s.hg := rfl
@[simp] theorem State.putI_frw (f : Fld) (v : Int) : (s.putI f v).frw = s.frw := rfl
@[simp] theorem State.putI_adc (f : Fld) (v : Int) : (s.putI f v).adc = s.adc := rfl
@[simp] theorem State.putI_mon (f : Fld) (v : Int) : (s.putI f v).mon = s.mon := rfl
@[simp] theorem State.putI_saf (f : Fld) (v : Int) : (s.putI f v).saf = s.saf := rfl
@[simp] theorem State.putI_nvm (f : Fld) (v : Int) : (s.putI f v).nvm = s.nvm := rfl
@[simp] theorem State.putI_jtag (f : Fld) (v : Int) : (s.putI f v).jtag = s.jtag := rfl
@[simp] theorem State.putI_free (f : Fld) (v : Int) : (s.putI f v).free = s.free := rfl

@[simp] theorem State.mark_pending (f : Fld) (b : Bool) : (s.mark f b).pending = s.pending := rfl
@[simp] theorem State.mark_clk (f : Fld) (b : Bool) : (s.mark f b).clk = s.clk := rfl
@[simp] theorem State.mark_pwr (f : Fld) (b : Bool) : (s.mark f b).pwr = s.pwr := rfl
@[simp] theorem State.mark_hsp (f : Fld) (b : Bool) : (s.mark f b).hsp = s.hsp := rfl
@[simp] theorem State.mark_time (f : Fld) (b : Bool) : (s.mark f b).time = s.time := rfl
@[simp] theorem State.mark_int (f : Fld) (b : Bool) : (s.mark f b).int = s.int := rfl
@[simp] theorem State.mark_mic (f : Fld) (b : Bool) : (s.mark f b).mic = s.mic := rfl
@[simp] theorem State.mark_flt (f : Fld) (b : Bool) : (s.mark f b).flt = s.flt := rfl
@[simp] theorem State.mark_lsn (f : Fld) (b : Bool) : (s.mark f b).lsn = s.lsn := rfl
@[simp] theorem State.mark_drl (f : Fld) (b : Bool) : (s.mark f b).drl = s.drl := rfl
@[simp] theorem State.mark_swa (f : Fld) (b : Bool) : (s.mark f b).swa = s.swa := rfl
@[simp] theorem State.mark_que (f : Fld) (b : Bool) : (s.mark f b).que = s.que := rfl
@[simp] theorem State.mark_hg (f : Fld) (b : Bool) : (s.mark f b).hg = s.hg := rfl
@[simp] theorem State.mark_frw (f : Fld) (b : Bool) : (s.mark f b).frw = s.frw := rfl
@[simp] theorem State.mark_adc (f : Fld) (b : Bool) : (s.mark f b).adc = s.adc := rfl
@[simp] theorem State.mark_mon (f : Fld) (b : Bool) : (s.mark f b).mon = s.mon := rfl
@[simp] theorem State.mark_saf (f : Fld) (b : Bool) : (s.mark f b).saf = s.saf := rfl
@[simp] theorem State.mark_nvm (f : Fld) (b : Bool) : (s.mark f b).nvm = s.nvm := rfl
@[simp] theorem State.mark_jtag (f : Fld) (b : Bool) : (s.mark f b).jtag = s.jtag := rfl
@[simp] theorem State.mark_free (f : Fld) (b : Bool) : (s.mark f b).free = s.free := rfl

@[simp] theorem State.putBit_pending (f : Fld) (i : Nat) (b : Bool) : (s.putBit f i b).pending = s.pending := rfl
@[simp] theorem State.putBit_clk (f : Fld) (i : Nat) (b : Bool) : (s.putBit f i b).clk = s.clk := rfl
@[simp] theorem State.putBit_pwr (f : Fld) (i : Nat) (b : Bool) : (s.putBit f i b).pwr = s.pwr := rfl
@[simp] theorem State.putBit_hsp (f : Fld) (i : Nat) (b : Bool) : (s.putBit f i b).hsp = s.hsp := rfl
@[simp] theorem State.putBit_time (f : Fld) (i : Nat) (b : Bool) : (s.putBit f i b).time = s.time := rfl
@[simp] theorem State.putBit_int (f : Fld) (i : Nat) (b : Bool) : (s.putBit f i b).int = s.int := rfl
@[simp] theorem State.putBit_mic (f : Fld) (i : Nat) (b : Bool) : (s.putBit f i b).mic = s.mic := rfl
@[simp] theorem State.putBit_flt (f : Fld) (i : Nat) (b : Bool) : (s.putBit f i b).flt = s.flt := rfl
@[simp] theorem State.putBit_lsn (f : Fld) (i : Nat) (b : Bool) : (s.putBit f i b).lsn = s.lsn := rfl
@[simp] theorem State.putBit_drl (f : Fld) (i : Nat) (b : Bool) : (s.putBit f i b).drl = s.drl := rfl
@[simp] theorem State.putBit_swa (f : Fld) (i : Nat) (b : Bool) : (s.putBit f i b).swa = s.swa := rfl
@[simp] theorem State.putBit_que (f : Fld) (i : Nat) (b : Bool) : (s.putBit f i b).que = s.que := rfl
@[simp] theorem State.putBit_hg (f : Fld) (i : Nat) (b : Bool) : (s.putBit f i b).hg = s.hg := rfl
@[simp] theorem State.putBit_frw (f : Fld) (i : Nat) (b : Bool) : (s.putBit f i b).frw = s.frw := rfl
@[simp] theorem State.putBit_adc (f : Fld) (i : Nat) (b : Bool) : (s.putBit f i b).adc = s.adc := rfl
@[simp] theorem State.putBit_mon (f : Fld) (i : Nat) (b : Bool) : (s.putBit f i b).mon = s.mon := rfl
@[simp] theorem State.putBit_saf (f : Fld) (i : Nat) (b : Bool) : (s.putBit f i b).saf = s.saf := rfl
@[simp] theorem State.putBit_nvm (f : Fld) (i : Nat) (b : Bool) : (s.putBit f i b).nvm = s.nvm := rfl
@[simp] theorem State.putBit_jtag (f : Fld) (i : Nat) (b : Bool) : (s.putBit f i b).jtag = s.jtag := rfl
@[simp] theorem State.putBit_free (f : Fld) (i : Nat) (b : Bool) : (s.putBit f i b).free = s.free := rfl

@[simp] theorem State.setPair_pending (a v : Nat) : (s.setPair a v).pending = s.pending := rfl
@[simp] theorem State.setPair_clk (a v : Nat) : (s.setPair a v).clk = s.clk := rfl
@[simp] theorem State.setPair_pwr (a v : Nat) : (s.setPair a v).pwr = s.pwr := rfl
@[simp] theorem State.setPair_hsp (a v : Nat) : (s.setPair a v).hsp = s.hsp := rfl
@[simp] theorem State.setPair_time (a v : Nat) : (s.setPair a v).time = s.time := rfl
@[simp] theorem State.setPair_int (a v : Nat) : (s.setPair a v).int = s.int := rfl
@[simp] theorem State.setPair_mic (a v : Nat) : (s.setPair a v).mic = s.mic := rfl
@[simp] theorem State.setPair_flt (a v : Nat) : (s.setPair a v).flt = s.flt := rfl
@[simp] theorem State.setPair_lsn (a v : Nat) : (s.setPair a v).lsn = s.lsn := rfl
@[simp] theorem State.setPair_drl (a v : Nat) : (s.setPair a v).drl = s.drl := rfl
@[simp] theorem State.setPair_swa (a v : Nat) : (s.setPair a v).swa = s.swa := rfl
@[simp] theorem State.setPair_que (a v : Nat) : (s.setPair a v).que = s.que := rfl
@[simp] theorem State.setPair_hg (a v : Nat) : (s.setPair a v).hg = s.hg := rfl
@[simp] theorem State.setPair_frw (a v : Nat) : (s.setPair a v).frw = s.frw := rfl
@[simp] theorem State.setPair_adc (a v : Nat) : (s.setPair a v).adc = s.adc := rfl
@[simp] theorem State.setPair_mon (a v : Nat) : (s.setPair a v).mon = s.mon := rfl
@[simp] theorem State.setPair_saf (a v : Nat) : (s.setPair a v).saf = s.saf := rfl
@[simp] theorem State.setPair_nvm (a v : Nat) : (s.setPair a v).nvm = s.nvm := rfl
@[simp] theorem State.setPair_jtag (a v : Nat) : (s.setPair a v).jtag = s.jtag := rfl
@[simp] theorem State.setPair_free (a v : Nat) : (s.setPair a v).free = s.free := rfl

@[simp] theorem State.bump64_pending (a n : Nat) : (s.bump64 a n).pending = s.pending := rfl
@[simp] theorem State.bump64_clk (a n : Nat) : (s.bump64 a n).clk = s.clk := rfl
@[simp] theorem State.bump64_pwr (a n : Nat) : (s.bump64 a n).pwr = s.pwr := rfl
@[simp] theorem State.bump64_hsp (a n : Nat) : (s.bump64 a n).hsp = s.hsp := rfl
@[simp] theorem State.bump64_time (a n : Nat) : (s.bump64 a n).time = s.time := rfl
@[simp] theorem State.bump64_int (a n : Nat) : (s.bump64 a n).int = s.int := rfl
@[simp] theorem State.bump64_mic (a n : Nat) : (s.bump64 a n).mic = s.mic := rfl
@[simp] theorem State.bump64_flt (a n : Nat) : (s.bump64 a n).flt = s.flt := rfl
@[simp] theorem State.bump64_lsn (a n : Nat) : (s.bump64 a n).lsn = s.lsn := rfl
@[simp] theorem State.bump64_drl (a n : Nat) : (s.bump64 a n).drl = s.drl := rfl
@[simp] theorem State.bump64_swa (a n : Nat) : (s.bump64 a n).swa = s.swa := rfl
@[simp] theorem State.bump64_que (a n : Nat) : (s.bump64 a n).que = s.que := rfl
@[simp] theorem State.bump64_hg (a n : Nat) : (s.bump64 a n).hg = s.hg := rfl
@[simp] theorem State.bump64_frw (a n : Nat) : (s.bump64 a n).frw = s.frw := rfl
@[simp] theorem State.bump64_adc (a n : Nat) : (s.bump64 a n).adc = s.adc := rfl
@[simp] theorem State.bump64_mon (a n : Nat) : (s.bump64 a n).mon = s.mon := rfl
@[simp] theorem State.bump64_saf (a n : Nat) : (s.bump64 a n).saf = s.saf := rfl
@[simp] theorem State.bump64_nvm (a n : Nat) : (s.bump64 a n).nvm = s.nvm := rfl
@[simp] theorem State.bump64_jtag (a n : Nat) : (s.bump64 a n).jtag = s.jtag := rfl
@[simp] theorem State.bump64_free (a n : Nat) : (s.bump64 a n).free = s.free := rfl

@[simp] theorem State.incWrap_pending (f : Fld) : (s.incWrap f).pending = s.pending := rfl
@[simp] theorem State.incWrap_clk (f : Fld) : (s.incWrap f).clk = s.clk := rfl
@[simp] theorem State.incWrap_pwr (f : Fld) : (s.incWrap f).pwr = s.pwr := rfl
@[simp] theorem State.incWrap_hsp (f : Fld) : (s.incWrap f).hsp = s.hsp := rfl
@[simp] theorem State.incWrap_time (f : Fld) : (s.incWrap f).time = s.time := rfl
@[simp] theorem State.incWrap_int (f : Fld) : (s.incWrap f).int = s.int := rfl
@[simp] theorem State.incWrap_mic (f : Fld) : (s.incWrap f).mic = s.mic := rfl
@[simp] theorem State.incWrap_flt (f : Fld) : (s.incWrap f).flt = s.flt := rfl
@[simp] theorem State.incWrap_lsn (f : Fld) : (s.incWrap f).lsn = s.lsn := rfl
@[simp] theorem State.incWrap_drl (f : Fld) : (s.incWrap f).drl = s.drl := rfl
@[simp] theorem State.incWrap_swa (f : Fld) : (s.incWrap f).swa = s.swa := rfl
@[simp] theorem State.incWrap_que (f : Fld) : (s.incWrap f).que = s.que := rfl
@[simp] theorem State.incWrap_hg (f : Fld) : (s.incWrap f).hg = s.hg := rfl
@[simp] theorem State.incWrap_frw (f : Fld) : (s.incWrap f).frw = s.frw := rfl
@[simp] theorem State.incWrap_adc (f : Fld) : (s.incWrap f).adc = s.adc := rfl
@[simp] theorem State.incWrap_mon (f : Fld) : (s.incWrap f).mon = s.mon := rfl
@[simp] theorem State.incWrap_saf (f : Fld) : (s.incWrap f).saf = s.saf := rfl
@[simp] theorem State.incWrap_nvm (f : Fld) : (s.incWrap f).nvm = s.nvm := rfl
@[simp] theorem State.incWrap_jtag (f : Fld) : (s.incWrap f).jtag = s.jtag := rfl
@[simp] theorem State.incWrap_free (f : Fld) : (s.incWrap f).free = s.free := rfl

@[simp] theorem State.incSat_pending (f : Fld) : (s.incSat f).pending = s.pending := by unfold State.incSat; split <;> rfl
@[simp] theorem State.incSat_clk (f : Fld) : (s.incSat f).clk = s.clk := by unfold State.incSat; split <;> rfl
@[simp] theorem State.incSat_pwr (f : Fld) : (s.incSat f).pwr = s.pwr := by unfold State.incSat; split <;> rfl
@[simp] theorem State.incSat_hsp (f : Fld) : (s.incSat f).hsp = s.hsp := by unfold State.incSat; split <;> rfl
@[simp] theorem State.incSat_time (f : Fld) : (s.incSat f).time = s.time := by unfold State.incSat; split <;> rfl
@[simp] theorem State.incSat_int (f : Fld) : (s.incSat f).int = s.int := by unfold State.incSat; split <;> rfl
@[simp] theorem State.incSat_mic (f : Fld) : (s.incSat f).mic = s.mic := by unfold State.incSat; split <;> rfl
@[simp] theorem State.incSat_flt (f : Fld) : (s.incSat f).flt = s.flt := by unfold State.incSat; split <;> rfl
@[simp] theorem State.incSat_lsn (f : Fld) : (s.incSat f).lsn = s.lsn := by unfold State.incSat; split <;> rfl
@[simp] theorem State.incSat_drl (f : Fld) : (s.incSat f).drl = s.drl := by unfold State.incSat; split <;> rfl
@[simp] theorem State.incSat_swa (f : Fld) : (s.incSat f).swa = s.swa := by unfold State.incSat; split <;> rfl
@[simp] theorem State.incSat_que (f : Fld) : (s.incSat f).que = s.que := by unfold State.incSat; split <;> rfl
@[simp] theorem State.incSat_hg (f : Fld) : (s.incSat f).hg = s.hg := by unfold State.incSat; split <;> rfl
@[simp] theorem State.incSat_frw (f : Fld) : (s.incSat f).frw = s.frw := by unfold State.incSat; split <;> rfl
@[simp] theorem State.incSat_adc (f : Fld) : (s.incSat f).adc = s.adc := by unfold State.incSat; split <;> rfl
@[simp] theorem State.incSat_mon (f : Fld) : (s.incSat f).mon = s.mon := by unfold State.incSat; split <;> rfl
@[simp] theorem State.incSat_saf (f : Fld) : (s.incSat f).saf = s.saf := by unfold State.incSat; split <;> rfl
@[simp] theorem State.incSat_nvm (f : Fld) : (s.incSat f).nvm = s.nvm := by unfold State.incSat; split <;> rfl
@[simp] theorem State.incSat_jtag (f : Fld) : (s.incSat f).jtag = s.jtag := by unfold State.incSat; split <;> rfl
@[simp] theorem State.incSat_free (f : Fld) : (s.incSat f).free = s.free := by unfold State.incSat; split <;> rfl

@[simp] theorem State.edge_pending (n : Nat) : (s.edge n).pending = s.pending := by unfold State.edge; dsimp only; split <;> rfl
@[simp] theorem State.edge_clk (n : Nat) : (s.edge n).clk = s.clk := by unfold State.edge; dsimp only; split <;> rfl
@[simp] theorem State.edge_pwr (n : Nat) : (s.edge n).pwr = s.pwr := by unfold State.edge; dsimp only; split <;> rfl
@[simp] theorem State.edge_hsp (n : Nat) : (s.edge n).hsp = s.hsp := by unfold State.edge; dsimp only; split <;> rfl
@[simp] theorem State.edge_time (n : Nat) : (s.edge n).time = s.time := by unfold State.edge; dsimp only; split <;> rfl
@[simp] theorem State.edge_int (n : Nat) : (s.edge n).int = s.int := by unfold State.edge; dsimp only; split <;> rfl
@[simp] theorem State.edge_mic (n : Nat) : (s.edge n).mic = s.mic := by unfold State.edge; dsimp only; split <;> rfl
@[simp] theorem State.edge_flt (n : Nat) : (s.edge n).flt = s.flt := by unfold State.edge; dsimp only; split <;> rfl
@[simp] theorem State.edge_lsn (n : Nat) : (s.edge n).lsn = s.lsn := by unfold State.edge; dsimp only; split <;> rfl
@[simp] theorem State.edge_drl (n : Nat) : (s.edge n).drl = s.drl := by unfold State.edge; dsimp only; split <;> rfl
@[simp] theorem State.edge_swa (n : Nat) : (s.edge n).swa = s.swa := by unfold State.edge; dsimp only; split <;> rfl
@[simp] theorem State.edge_que (n : Nat) : (s.edge n).que = s.que := by unfold State.edge; dsimp only; split <;> rfl
@[simp] theorem State.edge_hg (n : Nat) : (s.edge n).hg = s.hg := by unfold State.edge; dsimp only; split <;> rfl
@[simp] theorem State.edge_frw (n : Nat) : (s.edge n).frw = s.frw := by unfold State.edge; dsimp only; split <;> rfl
@[simp] theorem State.edge_adc (n : Nat) : (s.edge n).adc = s.adc := by unfold State.edge; dsimp only; split <;> rfl
@[simp] theorem State.edge_mon (n : Nat) : (s.edge n).mon = s.mon := by unfold State.edge; dsimp only; split <;> rfl
@[simp] theorem State.edge_saf (n : Nat) : (s.edge n).saf = s.saf := by unfold State.edge; dsimp only; split <;> rfl
@[simp] theorem State.edge_nvm (n : Nat) : (s.edge n).nvm = s.nvm := by unfold State.edge; dsimp only; split <;> rfl
@[simp] theorem State.edge_jtag (n : Nat) : (s.edge n).jtag = s.jtag := by unfold State.edge; dsimp only; split <;> rfl
@[simp] theorem State.edge_free (n : Nat) : (s.edge n).free = s.free := by unfold State.edge; dsimp only; split <;> rfl

@[simp] theorem State.event_pending (n : Nat) : (s.event n).pending = s.pending := by unfold State.event; simp
@[simp] theorem State.event_clk (n : Nat) : (s.event n).clk = s.clk := by unfold State.event; simp
@[simp] theorem State.event_pwr (n : Nat) : (s.event n).pwr = s.pwr := by unfold State.event; simp
@[simp] theorem State.event_hsp (n : Nat) : (s.event n).hsp = s.hsp := by unfold State.event; simp
@[simp] theorem State.event_time (n : Nat) : (s.event n).time = s.time := by unfold State.event; simp
@[simp] theorem State.event_int (n : Nat) : (s.event n).int = s.int := by unfold State.event; simp
@[simp] theorem State.event_mic (n : Nat) : (s.event n).mic = s.mic := by unfold State.event; simp
@[simp] theorem State.event_flt (n : Nat) : (s.event n).flt = s.flt := by unfold State.event; simp
@[simp] theorem State.event_lsn (n : Nat) : (s.event n).lsn = s.lsn := by unfold State.event; simp
@[simp] theorem State.event_drl (n : Nat) : (s.event n).drl = s.drl := by unfold State.event; simp
@[simp] theorem State.event_swa (n : Nat) : (s.event n).swa = s.swa := by unfold State.event; simp
@[simp] theorem State.event_que (n : Nat) : (s.event n).que = s.que := by unfold State.event; simp
@[simp] theorem State.event_hg (n : Nat) : (s.event n).hg = s.hg := by unfold State.event; simp
@[simp] theorem State.event_frw (n : Nat) : (s.event n).frw = s.frw := by unfold State.event; simp
@[simp] theorem State.event_adc (n : Nat) : (s.event n).adc = s.adc := by unfold State.event; simp
@[simp] theorem State.event_mon (n : Nat) : (s.event n).mon = s.mon := by unfold State.event; simp
@[simp] theorem State.event_saf (n : Nat) : (s.event n).saf = s.saf := by unfold State.event; simp
@[simp] theorem State.event_nvm (n : Nat) : (s.event n).nvm = s.nvm := by unfold State.event; simp
@[simp] theorem State.event_jtag (n : Nat) : (s.event n).jtag = s.jtag := by unfold State.event; simp
@[simp] theorem State.event_free (n : Nat) : (s.event n).free = s.free := by unfold State.event; simp

@[simp] theorem State.level_pending (n : Nat) (b : Bool) : (s.level n b).pending = s.pending := by unfold State.level; split <;> split <;> simp
@[simp] theorem State.level_clk (n : Nat) (b : Bool) : (s.level n b).clk = s.clk := by unfold State.level; split <;> split <;> simp
@[simp] theorem State.level_pwr (n : Nat) (b : Bool) : (s.level n b).pwr = s.pwr := by unfold State.level; split <;> split <;> simp
@[simp] theorem State.level_hsp (n : Nat) (b : Bool) : (s.level n b).hsp = s.hsp := by unfold State.level; split <;> split <;> simp
@[simp] theorem State.level_time (n : Nat) (b : Bool) : (s.level n b).time = s.time := by unfold State.level; split <;> split <;> simp
@[simp] theorem State.level_int (n : Nat) (b : Bool) : (s.level n b).int = s.int := by unfold State.level; split <;> split <;> simp
@[simp] theorem State.level_mic (n : Nat) (b : Bool) : (s.level n b).mic = s.mic := by unfold State.level; split <;> split <;> simp
@[simp] theorem State.level_flt (n : Nat) (b : Bool) : (s.level n b).flt = s.flt := by unfold State.level; split <;> split <;> simp
@[simp] theorem State.level_lsn (n : Nat) (b : Bool) : (s.level n b).lsn = s.lsn := by unfold State.level; split <;> split <;> simp
@[simp] theorem State.level_drl (n : Nat) (b : Bool) : (s.level n b).drl = s.drl := by unfold State.level; split <;> split <;> simp
@[simp] theorem State.level_swa (n : Nat) (b : Bool) : (s.level n b).swa = s.swa := by unfold State.level; split <;> split <;> simp
@[simp] theorem State.level_que (n : Nat) (b : Bool) : (s.level n b).que = s.que := by unfold State.level; split <;> split <;> simp
@[simp] theorem State.level_hg (n : Nat) (b : Bool) : (s.level n b).hg = s.hg := by unfold State.level; split <;> split <;> simp
@[simp] theorem State.level_frw (n : Nat) (b : Bool) : (s.level n b).frw = s.frw := by unfold State.level; split <;> split <;> simp
@[simp] theorem State.level_adc (n : Nat) (b : Bool) : (s.level n b).adc = s.adc := by unfold State.level; split <;> split <;> simp
@[simp] theorem State.level_mon (n : Nat) (b : Bool) : (s.level n b).mon = s.mon := by unfold State.level; split <;> split <;> simp
@[simp] theorem State.level_saf (n : Nat) (b : Bool) : (s.level n b).saf = s.saf := by unfold State.level; split <;> split <;> simp
@[simp] theorem State.level_nvm (n : Nat) (b : Bool) : (s.level n b).nvm = s.nvm := by unfold State.level; split <;> split <;> simp
@[simp] theorem State.level_jtag (n : Nat) (b : Bool) : (s.level n b).jtag = s.jtag := by unfold State.level; split <;> split <;> simp
@[simp] theorem State.level_free (n : Nat) (b : Bool) : (s.level n b).free = s.free := by unfold State.level; split <;> split <;> simp

@[simp] theorem State.supLevel_pending : (s.supLevel).pending = s.pending := by unfold State.supLevel; simp
@[simp] theorem State.supLevel_clk : (s.supLevel).clk = s.clk := by unfold State.supLevel; simp
@[simp] theorem State.supLevel_pwr : (s.supLevel).pwr = s.pwr := by unfold State.supLevel; simp
@[simp] theorem State.supLevel_hsp : (s.supLevel).hsp = s.hsp := by unfold State.supLevel; simp
@[simp] theorem State.supLevel_time : (s.supLevel).time = s.time := by unfold State.supLevel; simp
@[simp] theorem State.supLevel_int : (s.supLevel).int = s.int := by unfold State.supLevel; simp
@[simp] theorem State.supLevel_mic : (s.supLevel).mic = s.mic := by unfold State.supLevel; simp
@[simp] theorem State.supLevel_flt : (s.supLevel).flt = s.flt := by unfold State.supLevel; simp
@[simp] theorem State.supLevel_lsn : (s.supLevel).lsn = s.lsn := by unfold State.supLevel; simp
@[simp] theorem State.supLevel_drl : (s.supLevel).drl = s.drl := by unfold State.supLevel; simp
@[simp] theorem State.supLevel_swa : (s.supLevel).swa = s.swa := by unfold State.supLevel; simp
@[simp] theorem State.supLevel_que : (s.supLevel).que = s.que := by unfold State.supLevel; simp
@[simp] theorem State.supLevel_hg : (s.supLevel).hg = s.hg := by unfold State.supLevel; simp
@[simp] theorem State.supLevel_frw : (s.supLevel).frw = s.frw := by unfold State.supLevel; simp
@[simp] theorem State.supLevel_adc : (s.supLevel).adc = s.adc := by unfold State.supLevel; simp
@[simp] theorem State.supLevel_mon : (s.supLevel).mon = s.mon := by unfold State.supLevel; simp
@[simp] theorem State.supLevel_saf : (s.supLevel).saf = s.saf := by unfold State.supLevel; simp
@[simp] theorem State.supLevel_nvm : (s.supLevel).nvm = s.nvm := by unfold State.supLevel; simp
@[simp] theorem State.supLevel_jtag : (s.supLevel).jtag = s.jtag := by unfold State.supLevel; simp
@[simp] theorem State.supLevel_free : (s.supLevel).free = s.free := by unfold State.supLevel; simp

@[simp] theorem State.setStrip_pending (k : Nat) (v : StripSt) : (s.setStrip k v).pending = s.pending := rfl
@[simp] theorem State.setStrip_regs (k : Nat) (v : StripSt) : (s.setStrip k v).regs = s.regs := rfl
@[simp] theorem State.setStrip_clk (k : Nat) (v : StripSt) : (s.setStrip k v).clk = s.clk := rfl
@[simp] theorem State.setStrip_pwr (k : Nat) (v : StripSt) : (s.setStrip k v).pwr = s.pwr := rfl
@[simp] theorem State.setStrip_hsp (k : Nat) (v : StripSt) : (s.setStrip k v).hsp = s.hsp := rfl
@[simp] theorem State.setStrip_time (k : Nat) (v : StripSt) : (s.setStrip k v).time = s.time := rfl
@[simp] theorem State.setStrip_int (k : Nat) (v : StripSt) : (s.setStrip k v).int = s.int := rfl
@[simp] theorem State.setStrip_mic (k : Nat) (v : StripSt) : (s.setStrip k v).mic = s.mic := rfl
@[simp] theorem State.setStrip_flt (k : Nat) (v : StripSt) : (s.setStrip k v).flt = s.flt := rfl
@[simp] theorem State.setStrip_lsn (k : Nat) (v : StripSt) : (s.setStrip k v).lsn = s.lsn := rfl
@[simp] theorem State.setStrip_drl (k : Nat) (v : StripSt) : (s.setStrip k v).drl = s.drl := rfl
@[simp] theorem State.setStrip_que (k : Nat) (v : StripSt) : (s.setStrip k v).que = s.que := rfl
@[simp] theorem State.setStrip_hg (k : Nat) (v : StripSt) : (s.setStrip k v).hg = s.hg := rfl
@[simp] theorem State.setStrip_frw (k : Nat) (v : StripSt) : (s.setStrip k v).frw = s.frw := rfl
@[simp] theorem State.setStrip_adc (k : Nat) (v : StripSt) : (s.setStrip k v).adc = s.adc := rfl
@[simp] theorem State.setStrip_mon (k : Nat) (v : StripSt) : (s.setStrip k v).mon = s.mon := rfl
@[simp] theorem State.setStrip_saf (k : Nat) (v : StripSt) : (s.setStrip k v).saf = s.saf := rfl
@[simp] theorem State.setStrip_nvm (k : Nat) (v : StripSt) : (s.setStrip k v).nvm = s.nvm := rfl
@[simp] theorem State.setStrip_jtag (k : Nat) (v : StripSt) : (s.setStrip k v).jtag = s.jtag := rfl
@[simp] theorem State.setStrip_free (k : Nat) (v : StripSt) : (s.setStrip k v).free = s.free := rfl

@[simp] theorem State.setChain_pending (k : Nat) (v : ChainSt) : (s.setChain k v).pending = s.pending := rfl
@[simp] theorem State.setChain_regs (k : Nat) (v : ChainSt) : (s.setChain k v).regs = s.regs := rfl
@[simp] theorem State.setChain_clk (k : Nat) (v : ChainSt) : (s.setChain k v).clk = s.clk := rfl
@[simp] theorem State.setChain_pwr (k : Nat) (v : ChainSt) : (s.setChain k v).pwr = s.pwr := rfl
@[simp] theorem State.setChain_hsp (k : Nat) (v : ChainSt) : (s.setChain k v).hsp = s.hsp := rfl
@[simp] theorem State.setChain_time (k : Nat) (v : ChainSt) : (s.setChain k v).time = s.time := rfl
@[simp] theorem State.setChain_int (k : Nat) (v : ChainSt) : (s.setChain k v).int = s.int := rfl
@[simp] theorem State.setChain_mic (k : Nat) (v : ChainSt) : (s.setChain k v).mic = s.mic := rfl
@[simp] theorem State.setChain_lsn (k : Nat) (v : ChainSt) : (s.setChain k v).lsn = s.lsn := rfl
@[simp] theorem State.setChain_drl (k : Nat) (v : ChainSt) : (s.setChain k v).drl = s.drl := rfl
@[simp] theorem State.setChain_swa (k : Nat) (v : ChainSt) : (s.setChain k v).swa = s.swa := rfl
@[simp] theorem State.setChain_que (k : Nat) (v : ChainSt) : (s.setChain k v).que = s.que := rfl
@[simp] theorem State.setChain_hg (k : Nat) (v : ChainSt) : (s.setChain k v).hg = s.hg := rfl
@[simp] theorem State.setChain_frw (k : Nat) (v : ChainSt) : (s.setChain k v).frw = s.frw := rfl
@[simp] theorem State.setChain_adc (k : Nat) (v : ChainSt) : (s.setChain k v).adc = s.adc := rfl
@[simp] theorem State.setChain_mon (k : Nat) (v : ChainSt) : (s.setChain k v).mon = s.mon := rfl
@[simp] theorem State.setChain_saf (k : Nat) (v : ChainSt) : (s.setChain k v).saf = s.saf := rfl
@[simp] theorem State.setChain_nvm (k : Nat) (v : ChainSt) : (s.setChain k v).nvm = s.nvm := rfl
@[simp] theorem State.setChain_jtag (k : Nat) (v : ChainSt) : (s.setChain k v).jtag = s.jtag := rfl
@[simp] theorem State.setChain_free (k : Nat) (v : ChainSt) : (s.setChain k v).free = s.free := rfl

@[simp] theorem State.setCic_pending (k : Nat) (v : CicSt) : (s.setCic k v).pending = s.pending := rfl
@[simp] theorem State.setCic_regs (k : Nat) (v : CicSt) : (s.setCic k v).regs = s.regs := rfl
@[simp] theorem State.setCic_clk (k : Nat) (v : CicSt) : (s.setCic k v).clk = s.clk := rfl
@[simp] theorem State.setCic_pwr (k : Nat) (v : CicSt) : (s.setCic k v).pwr = s.pwr := rfl
@[simp] theorem State.setCic_hsp (k : Nat) (v : CicSt) : (s.setCic k v).hsp = s.hsp := rfl
@[simp] theorem State.setCic_time (k : Nat) (v : CicSt) : (s.setCic k v).time = s.time := rfl
@[simp] theorem State.setCic_int (k : Nat) (v : CicSt) : (s.setCic k v).int = s.int := rfl
@[simp] theorem State.setCic_mic (k : Nat) (v : CicSt) : (s.setCic k v).mic = s.mic := rfl
@[simp] theorem State.setCic_lsn (k : Nat) (v : CicSt) : (s.setCic k v).lsn = s.lsn := rfl
@[simp] theorem State.setCic_drl (k : Nat) (v : CicSt) : (s.setCic k v).drl = s.drl := rfl
@[simp] theorem State.setCic_swa (k : Nat) (v : CicSt) : (s.setCic k v).swa = s.swa := rfl
@[simp] theorem State.setCic_que (k : Nat) (v : CicSt) : (s.setCic k v).que = s.que := rfl
@[simp] theorem State.setCic_hg (k : Nat) (v : CicSt) : (s.setCic k v).hg = s.hg := rfl
@[simp] theorem State.setCic_frw (k : Nat) (v : CicSt) : (s.setCic k v).frw = s.frw := rfl
@[simp] theorem State.setCic_adc (k : Nat) (v : CicSt) : (s.setCic k v).adc = s.adc := rfl
@[simp] theorem State.setCic_mon (k : Nat) (v : CicSt) : (s.setCic k v).mon = s.mon := rfl
@[simp] theorem State.setCic_saf (k : Nat) (v : CicSt) : (s.setCic k v).saf = s.saf := rfl
@[simp] theorem State.setCic_nvm (k : Nat) (v : CicSt) : (s.setCic k v).nvm = s.nvm := rfl
@[simp] theorem State.setCic_jtag (k : Nat) (v : CicSt) : (s.setCic k v).jtag = s.jtag := rfl
@[simp] theorem State.setCic_free (k : Nat) (v : CicSt) : (s.setCic k v).free = s.free := rfl

@[simp] theorem State.setRoute_pending (k : Nat) (v : RouteSt) : (s.setRoute k v).pending = s.pending := rfl
@[simp] theorem State.setRoute_regs (k : Nat) (v : RouteSt) : (s.setRoute k v).regs = s.regs := rfl
@[simp] theorem State.setRoute_clk (k : Nat) (v : RouteSt) : (s.setRoute k v).clk = s.clk := rfl
@[simp] theorem State.setRoute_pwr (k : Nat) (v : RouteSt) : (s.setRoute k v).pwr = s.pwr := rfl
@[simp] theorem State.setRoute_hsp (k : Nat) (v : RouteSt) : (s.setRoute k v).hsp = s.hsp := rfl
@[simp] theorem State.setRoute_time (k : Nat) (v : RouteSt) : (s.setRoute k v).time = s.time := rfl
@[simp] theorem State.setRoute_int (k : Nat) (v : RouteSt) : (s.setRoute k v).int = s.int := rfl
@[simp] theorem State.setRoute_mic (k : Nat) (v : RouteSt) : (s.setRoute k v).mic = s.mic := rfl
@[simp] theorem State.setRoute_lsn (k : Nat) (v : RouteSt) : (s.setRoute k v).lsn = s.lsn := rfl
@[simp] theorem State.setRoute_drl (k : Nat) (v : RouteSt) : (s.setRoute k v).drl = s.drl := rfl
@[simp] theorem State.setRoute_swa (k : Nat) (v : RouteSt) : (s.setRoute k v).swa = s.swa := rfl
@[simp] theorem State.setRoute_que (k : Nat) (v : RouteSt) : (s.setRoute k v).que = s.que := rfl
@[simp] theorem State.setRoute_hg (k : Nat) (v : RouteSt) : (s.setRoute k v).hg = s.hg := rfl
@[simp] theorem State.setRoute_frw (k : Nat) (v : RouteSt) : (s.setRoute k v).frw = s.frw := rfl
@[simp] theorem State.setRoute_adc (k : Nat) (v : RouteSt) : (s.setRoute k v).adc = s.adc := rfl
@[simp] theorem State.setRoute_mon (k : Nat) (v : RouteSt) : (s.setRoute k v).mon = s.mon := rfl
@[simp] theorem State.setRoute_saf (k : Nat) (v : RouteSt) : (s.setRoute k v).saf = s.saf := rfl
@[simp] theorem State.setRoute_nvm (k : Nat) (v : RouteSt) : (s.setRoute k v).nvm = s.nvm := rfl
@[simp] theorem State.setRoute_jtag (k : Nat) (v : RouteSt) : (s.setRoute k v).jtag = s.jtag := rfl
@[simp] theorem State.setRoute_free (k : Nat) (v : RouteSt) : (s.setRoute k v).free = s.free := rfl

@[simp] theorem State.setSad_pending (k : Nat) (v : SadSt) : (s.setSad k v).pending = s.pending := rfl
@[simp] theorem State.setSad_regs (k : Nat) (v : SadSt) : (s.setSad k v).regs = s.regs := rfl
@[simp] theorem State.setSad_clk (k : Nat) (v : SadSt) : (s.setSad k v).clk = s.clk := rfl
@[simp] theorem State.setSad_pwr (k : Nat) (v : SadSt) : (s.setSad k v).pwr = s.pwr := rfl
@[simp] theorem State.setSad_hsp (k : Nat) (v : SadSt) : (s.setSad k v).hsp = s.hsp := rfl
@[simp] theorem State.setSad_time (k : Nat) (v : SadSt) : (s.setSad k v).time = s.time := rfl
@[simp] theorem State.setSad_int (k : Nat) (v : SadSt) : (s.setSad k v).int = s.int := rfl
@[simp] theorem State.setSad_mic (k : Nat) (v : SadSt) : (s.setSad k v).mic = s.mic := rfl
@[simp] theorem State.setSad_flt (k : Nat) (v : SadSt) : (s.setSad k v).flt = s.flt := rfl
@[simp] theorem State.setSad_drl (k : Nat) (v : SadSt) : (s.setSad k v).drl = s.drl := rfl
@[simp] theorem State.setSad_swa (k : Nat) (v : SadSt) : (s.setSad k v).swa = s.swa := rfl
@[simp] theorem State.setSad_que (k : Nat) (v : SadSt) : (s.setSad k v).que = s.que := rfl
@[simp] theorem State.setSad_hg (k : Nat) (v : SadSt) : (s.setSad k v).hg = s.hg := rfl
@[simp] theorem State.setSad_frw (k : Nat) (v : SadSt) : (s.setSad k v).frw = s.frw := rfl
@[simp] theorem State.setSad_adc (k : Nat) (v : SadSt) : (s.setSad k v).adc = s.adc := rfl
@[simp] theorem State.setSad_mon (k : Nat) (v : SadSt) : (s.setSad k v).mon = s.mon := rfl
@[simp] theorem State.setSad_saf (k : Nat) (v : SadSt) : (s.setSad k v).saf = s.saf := rfl
@[simp] theorem State.setSad_nvm (k : Nat) (v : SadSt) : (s.setSad k v).nvm = s.nvm := rfl
@[simp] theorem State.setSad_jtag (k : Nat) (v : SadSt) : (s.setSad k v).jtag = s.jtag := rfl
@[simp] theorem State.setSad_free (k : Nat) (v : SadSt) : (s.setSad k v).free = s.free := rfl

@[simp] theorem State.setQueue_pending (k : Nat) (v : QueueSt) : (s.setQueue k v).pending = s.pending := rfl
@[simp] theorem State.setQueue_regs (k : Nat) (v : QueueSt) : (s.setQueue k v).regs = s.regs := rfl
@[simp] theorem State.setQueue_clk (k : Nat) (v : QueueSt) : (s.setQueue k v).clk = s.clk := rfl
@[simp] theorem State.setQueue_pwr (k : Nat) (v : QueueSt) : (s.setQueue k v).pwr = s.pwr := rfl
@[simp] theorem State.setQueue_hsp (k : Nat) (v : QueueSt) : (s.setQueue k v).hsp = s.hsp := rfl
@[simp] theorem State.setQueue_time (k : Nat) (v : QueueSt) : (s.setQueue k v).time = s.time := rfl
@[simp] theorem State.setQueue_int (k : Nat) (v : QueueSt) : (s.setQueue k v).int = s.int := rfl
@[simp] theorem State.setQueue_mic (k : Nat) (v : QueueSt) : (s.setQueue k v).mic = s.mic := rfl
@[simp] theorem State.setQueue_flt (k : Nat) (v : QueueSt) : (s.setQueue k v).flt = s.flt := rfl
@[simp] theorem State.setQueue_lsn (k : Nat) (v : QueueSt) : (s.setQueue k v).lsn = s.lsn := rfl
@[simp] theorem State.setQueue_drl (k : Nat) (v : QueueSt) : (s.setQueue k v).drl = s.drl := rfl
@[simp] theorem State.setQueue_swa (k : Nat) (v : QueueSt) : (s.setQueue k v).swa = s.swa := rfl
@[simp] theorem State.setQueue_hg (k : Nat) (v : QueueSt) : (s.setQueue k v).hg = s.hg := rfl
@[simp] theorem State.setQueue_frw (k : Nat) (v : QueueSt) : (s.setQueue k v).frw = s.frw := rfl
@[simp] theorem State.setQueue_adc (k : Nat) (v : QueueSt) : (s.setQueue k v).adc = s.adc := rfl
@[simp] theorem State.setQueue_mon (k : Nat) (v : QueueSt) : (s.setQueue k v).mon = s.mon := rfl
@[simp] theorem State.setQueue_saf (k : Nat) (v : QueueSt) : (s.setQueue k v).saf = s.saf := rfl
@[simp] theorem State.setQueue_nvm (k : Nat) (v : QueueSt) : (s.setQueue k v).nvm = s.nvm := rfl
@[simp] theorem State.setQueue_jtag (k : Nat) (v : QueueSt) : (s.setQueue k v).jtag = s.jtag := rfl
@[simp] theorem State.setQueue_free (k : Nat) (v : QueueSt) : (s.setQueue k v).free = s.free := rfl

@[simp] theorem State.setHgp_pending (k : Nat) (v : HgPort) : (s.setHgp k v).pending = s.pending := rfl
@[simp] theorem State.setHgp_regs (k : Nat) (v : HgPort) : (s.setHgp k v).regs = s.regs := rfl
@[simp] theorem State.setHgp_clk (k : Nat) (v : HgPort) : (s.setHgp k v).clk = s.clk := rfl
@[simp] theorem State.setHgp_pwr (k : Nat) (v : HgPort) : (s.setHgp k v).pwr = s.pwr := rfl
@[simp] theorem State.setHgp_hsp (k : Nat) (v : HgPort) : (s.setHgp k v).hsp = s.hsp := rfl
@[simp] theorem State.setHgp_time (k : Nat) (v : HgPort) : (s.setHgp k v).time = s.time := rfl
@[simp] theorem State.setHgp_int (k : Nat) (v : HgPort) : (s.setHgp k v).int = s.int := rfl
@[simp] theorem State.setHgp_mic (k : Nat) (v : HgPort) : (s.setHgp k v).mic = s.mic := rfl
@[simp] theorem State.setHgp_flt (k : Nat) (v : HgPort) : (s.setHgp k v).flt = s.flt := rfl
@[simp] theorem State.setHgp_lsn (k : Nat) (v : HgPort) : (s.setHgp k v).lsn = s.lsn := rfl
@[simp] theorem State.setHgp_drl (k : Nat) (v : HgPort) : (s.setHgp k v).drl = s.drl := rfl
@[simp] theorem State.setHgp_swa (k : Nat) (v : HgPort) : (s.setHgp k v).swa = s.swa := rfl
@[simp] theorem State.setHgp_que (k : Nat) (v : HgPort) : (s.setHgp k v).que = s.que := rfl
@[simp] theorem State.setHgp_frw (k : Nat) (v : HgPort) : (s.setHgp k v).frw = s.frw := rfl
@[simp] theorem State.setHgp_adc (k : Nat) (v : HgPort) : (s.setHgp k v).adc = s.adc := rfl
@[simp] theorem State.setHgp_mon (k : Nat) (v : HgPort) : (s.setHgp k v).mon = s.mon := rfl
@[simp] theorem State.setHgp_saf (k : Nat) (v : HgPort) : (s.setHgp k v).saf = s.saf := rfl
@[simp] theorem State.setHgp_nvm (k : Nat) (v : HgPort) : (s.setHgp k v).nvm = s.nvm := rfl
@[simp] theorem State.setHgp_jtag (k : Nat) (v : HgPort) : (s.setHgp k v).jtag = s.jtag := rfl
@[simp] theorem State.setHgp_free (k : Nat) (v : HgPort) : (s.setHgp k v).free = s.free := rfl

@[simp] theorem State.setKey_pending (k : Nat) (v : KeySt) : (s.setKey k v).pending = s.pending := rfl
@[simp] theorem State.setKey_regs (k : Nat) (v : KeySt) : (s.setKey k v).regs = s.regs := rfl
@[simp] theorem State.setKey_clk (k : Nat) (v : KeySt) : (s.setKey k v).clk = s.clk := rfl
@[simp] theorem State.setKey_pwr (k : Nat) (v : KeySt) : (s.setKey k v).pwr = s.pwr := rfl
@[simp] theorem State.setKey_hsp (k : Nat) (v : KeySt) : (s.setKey k v).hsp = s.hsp := rfl
@[simp] theorem State.setKey_time (k : Nat) (v : KeySt) : (s.setKey k v).time = s.time := rfl
@[simp] theorem State.setKey_int (k : Nat) (v : KeySt) : (s.setKey k v).int = s.int := rfl
@[simp] theorem State.setKey_mic (k : Nat) (v : KeySt) : (s.setKey k v).mic = s.mic := rfl
@[simp] theorem State.setKey_flt (k : Nat) (v : KeySt) : (s.setKey k v).flt = s.flt := rfl
@[simp] theorem State.setKey_lsn (k : Nat) (v : KeySt) : (s.setKey k v).lsn = s.lsn := rfl
@[simp] theorem State.setKey_drl (k : Nat) (v : KeySt) : (s.setKey k v).drl = s.drl := rfl
@[simp] theorem State.setKey_swa (k : Nat) (v : KeySt) : (s.setKey k v).swa = s.swa := rfl
@[simp] theorem State.setKey_que (k : Nat) (v : KeySt) : (s.setKey k v).que = s.que := rfl
@[simp] theorem State.setKey_frw (k : Nat) (v : KeySt) : (s.setKey k v).frw = s.frw := rfl
@[simp] theorem State.setKey_adc (k : Nat) (v : KeySt) : (s.setKey k v).adc = s.adc := rfl
@[simp] theorem State.setKey_mon (k : Nat) (v : KeySt) : (s.setKey k v).mon = s.mon := rfl
@[simp] theorem State.setKey_saf (k : Nat) (v : KeySt) : (s.setKey k v).saf = s.saf := rfl
@[simp] theorem State.setKey_nvm (k : Nat) (v : KeySt) : (s.setKey k v).nvm = s.nvm := rfl
@[simp] theorem State.setKey_jtag (k : Nat) (v : KeySt) : (s.setKey k v).jtag = s.jtag := rfl
@[simp] theorem State.setKey_free (k : Nat) (v : KeySt) : (s.setKey k v).free = s.free := rfl

@[simp] theorem State.setCore_pending (k : Nat) (v : CoreSt) : (s.setCore k v).pending = s.pending := rfl
@[simp] theorem State.setCore_regs (k : Nat) (v : CoreSt) : (s.setCore k v).regs = s.regs := rfl
@[simp] theorem State.setCore_clk (k : Nat) (v : CoreSt) : (s.setCore k v).clk = s.clk := rfl
@[simp] theorem State.setCore_pwr (k : Nat) (v : CoreSt) : (s.setCore k v).pwr = s.pwr := rfl
@[simp] theorem State.setCore_hsp (k : Nat) (v : CoreSt) : (s.setCore k v).hsp = s.hsp := rfl
@[simp] theorem State.setCore_time (k : Nat) (v : CoreSt) : (s.setCore k v).time = s.time := rfl
@[simp] theorem State.setCore_int (k : Nat) (v : CoreSt) : (s.setCore k v).int = s.int := rfl
@[simp] theorem State.setCore_mic (k : Nat) (v : CoreSt) : (s.setCore k v).mic = s.mic := rfl
@[simp] theorem State.setCore_flt (k : Nat) (v : CoreSt) : (s.setCore k v).flt = s.flt := rfl
@[simp] theorem State.setCore_lsn (k : Nat) (v : CoreSt) : (s.setCore k v).lsn = s.lsn := rfl
@[simp] theorem State.setCore_drl (k : Nat) (v : CoreSt) : (s.setCore k v).drl = s.drl := rfl
@[simp] theorem State.setCore_swa (k : Nat) (v : CoreSt) : (s.setCore k v).swa = s.swa := rfl
@[simp] theorem State.setCore_que (k : Nat) (v : CoreSt) : (s.setCore k v).que = s.que := rfl
@[simp] theorem State.setCore_hg (k : Nat) (v : CoreSt) : (s.setCore k v).hg = s.hg := rfl
@[simp] theorem State.setCore_adc (k : Nat) (v : CoreSt) : (s.setCore k v).adc = s.adc := rfl
@[simp] theorem State.setCore_mon (k : Nat) (v : CoreSt) : (s.setCore k v).mon = s.mon := rfl
@[simp] theorem State.setCore_saf (k : Nat) (v : CoreSt) : (s.setCore k v).saf = s.saf := rfl
@[simp] theorem State.setCore_nvm (k : Nat) (v : CoreSt) : (s.setCore k v).nvm = s.nvm := rfl
@[simp] theorem State.setCore_jtag (k : Nat) (v : CoreSt) : (s.setCore k v).jtag = s.jtag := rfl
@[simp] theorem State.setCore_free (k : Nat) (v : CoreSt) : (s.setCore k v).free = s.free := rfl

@[simp] theorem State.setProg_pending (k : Nat) (v : List Host.Cell) : (s.setProg k v).pending = s.pending := rfl
@[simp] theorem State.setProg_regs (k : Nat) (v : List Host.Cell) : (s.setProg k v).regs = s.regs := rfl
@[simp] theorem State.setProg_clk (k : Nat) (v : List Host.Cell) : (s.setProg k v).clk = s.clk := rfl
@[simp] theorem State.setProg_pwr (k : Nat) (v : List Host.Cell) : (s.setProg k v).pwr = s.pwr := rfl
@[simp] theorem State.setProg_hsp (k : Nat) (v : List Host.Cell) : (s.setProg k v).hsp = s.hsp := rfl
@[simp] theorem State.setProg_time (k : Nat) (v : List Host.Cell) : (s.setProg k v).time = s.time := rfl
@[simp] theorem State.setProg_int (k : Nat) (v : List Host.Cell) : (s.setProg k v).int = s.int := rfl
@[simp] theorem State.setProg_mic (k : Nat) (v : List Host.Cell) : (s.setProg k v).mic = s.mic := rfl
@[simp] theorem State.setProg_flt (k : Nat) (v : List Host.Cell) : (s.setProg k v).flt = s.flt := rfl
@[simp] theorem State.setProg_lsn (k : Nat) (v : List Host.Cell) : (s.setProg k v).lsn = s.lsn := rfl
@[simp] theorem State.setProg_drl (k : Nat) (v : List Host.Cell) : (s.setProg k v).drl = s.drl := rfl
@[simp] theorem State.setProg_swa (k : Nat) (v : List Host.Cell) : (s.setProg k v).swa = s.swa := rfl
@[simp] theorem State.setProg_que (k : Nat) (v : List Host.Cell) : (s.setProg k v).que = s.que := rfl
@[simp] theorem State.setProg_hg (k : Nat) (v : List Host.Cell) : (s.setProg k v).hg = s.hg := rfl
@[simp] theorem State.setProg_adc (k : Nat) (v : List Host.Cell) : (s.setProg k v).adc = s.adc := rfl
@[simp] theorem State.setProg_mon (k : Nat) (v : List Host.Cell) : (s.setProg k v).mon = s.mon := rfl
@[simp] theorem State.setProg_saf (k : Nat) (v : List Host.Cell) : (s.setProg k v).saf = s.saf := rfl
@[simp] theorem State.setProg_nvm (k : Nat) (v : List Host.Cell) : (s.setProg k v).nvm = s.nvm := rfl
@[simp] theorem State.setProg_jtag (k : Nat) (v : List Host.Cell) : (s.setProg k v).jtag = s.jtag := rfl
@[simp] theorem State.setProg_free (k : Nat) (v : List Host.Cell) : (s.setProg k v).free = s.free := rfl

@[simp] theorem State.setData_pending (k : Nat) (v : List Host.Cell) : (s.setData k v).pending = s.pending := rfl
@[simp] theorem State.setData_regs (k : Nat) (v : List Host.Cell) : (s.setData k v).regs = s.regs := rfl
@[simp] theorem State.setData_clk (k : Nat) (v : List Host.Cell) : (s.setData k v).clk = s.clk := rfl
@[simp] theorem State.setData_pwr (k : Nat) (v : List Host.Cell) : (s.setData k v).pwr = s.pwr := rfl
@[simp] theorem State.setData_hsp (k : Nat) (v : List Host.Cell) : (s.setData k v).hsp = s.hsp := rfl
@[simp] theorem State.setData_time (k : Nat) (v : List Host.Cell) : (s.setData k v).time = s.time := rfl
@[simp] theorem State.setData_int (k : Nat) (v : List Host.Cell) : (s.setData k v).int = s.int := rfl
@[simp] theorem State.setData_mic (k : Nat) (v : List Host.Cell) : (s.setData k v).mic = s.mic := rfl
@[simp] theorem State.setData_flt (k : Nat) (v : List Host.Cell) : (s.setData k v).flt = s.flt := rfl
@[simp] theorem State.setData_lsn (k : Nat) (v : List Host.Cell) : (s.setData k v).lsn = s.lsn := rfl
@[simp] theorem State.setData_drl (k : Nat) (v : List Host.Cell) : (s.setData k v).drl = s.drl := rfl
@[simp] theorem State.setData_swa (k : Nat) (v : List Host.Cell) : (s.setData k v).swa = s.swa := rfl
@[simp] theorem State.setData_que (k : Nat) (v : List Host.Cell) : (s.setData k v).que = s.que := rfl
@[simp] theorem State.setData_hg (k : Nat) (v : List Host.Cell) : (s.setData k v).hg = s.hg := rfl
@[simp] theorem State.setData_adc (k : Nat) (v : List Host.Cell) : (s.setData k v).adc = s.adc := rfl
@[simp] theorem State.setData_mon (k : Nat) (v : List Host.Cell) : (s.setData k v).mon = s.mon := rfl
@[simp] theorem State.setData_saf (k : Nat) (v : List Host.Cell) : (s.setData k v).saf = s.saf := rfl
@[simp] theorem State.setData_nvm (k : Nat) (v : List Host.Cell) : (s.setData k v).nvm = s.nvm := rfl
@[simp] theorem State.setData_jtag (k : Nat) (v : List Host.Cell) : (s.setData k v).jtag = s.jtag := rfl
@[simp] theorem State.setData_free (k : Nat) (v : List Host.Cell) : (s.setData k v).free = s.free := rfl

@[simp] theorem State.setAdc_pending (k : Nat) (v : AdcConv) : (s.setAdc k v).pending = s.pending := rfl
@[simp] theorem State.setAdc_regs (k : Nat) (v : AdcConv) : (s.setAdc k v).regs = s.regs := rfl
@[simp] theorem State.setAdc_clk (k : Nat) (v : AdcConv) : (s.setAdc k v).clk = s.clk := rfl
@[simp] theorem State.setAdc_pwr (k : Nat) (v : AdcConv) : (s.setAdc k v).pwr = s.pwr := rfl
@[simp] theorem State.setAdc_hsp (k : Nat) (v : AdcConv) : (s.setAdc k v).hsp = s.hsp := rfl
@[simp] theorem State.setAdc_time (k : Nat) (v : AdcConv) : (s.setAdc k v).time = s.time := rfl
@[simp] theorem State.setAdc_int (k : Nat) (v : AdcConv) : (s.setAdc k v).int = s.int := rfl
@[simp] theorem State.setAdc_mic (k : Nat) (v : AdcConv) : (s.setAdc k v).mic = s.mic := rfl
@[simp] theorem State.setAdc_flt (k : Nat) (v : AdcConv) : (s.setAdc k v).flt = s.flt := rfl
@[simp] theorem State.setAdc_lsn (k : Nat) (v : AdcConv) : (s.setAdc k v).lsn = s.lsn := rfl
@[simp] theorem State.setAdc_drl (k : Nat) (v : AdcConv) : (s.setAdc k v).drl = s.drl := rfl
@[simp] theorem State.setAdc_swa (k : Nat) (v : AdcConv) : (s.setAdc k v).swa = s.swa := rfl
@[simp] theorem State.setAdc_que (k : Nat) (v : AdcConv) : (s.setAdc k v).que = s.que := rfl
@[simp] theorem State.setAdc_hg (k : Nat) (v : AdcConv) : (s.setAdc k v).hg = s.hg := rfl
@[simp] theorem State.setAdc_frw (k : Nat) (v : AdcConv) : (s.setAdc k v).frw = s.frw := rfl
@[simp] theorem State.setAdc_mon (k : Nat) (v : AdcConv) : (s.setAdc k v).mon = s.mon := rfl
@[simp] theorem State.setAdc_saf (k : Nat) (v : AdcConv) : (s.setAdc k v).saf = s.saf := rfl
@[simp] theorem State.setAdc_nvm (k : Nat) (v : AdcConv) : (s.setAdc k v).nvm = s.nvm := rfl
@[simp] theorem State.setAdc_jtag (k : Nat) (v : AdcConv) : (s.setAdc k v).jtag = s.jtag := rfl
@[simp] theorem State.setAdc_free (k : Nat) (v : AdcConv) : (s.setAdc k v).free = s.free := rfl

@[simp] theorem State.setDrlIn_pending (k : Nat) (v : DrlIn) : (s.setDrlIn k v).pending = s.pending := rfl
@[simp] theorem State.setDrlIn_regs (k : Nat) (v : DrlIn) : (s.setDrlIn k v).regs = s.regs := rfl
@[simp] theorem State.setDrlIn_clk (k : Nat) (v : DrlIn) : (s.setDrlIn k v).clk = s.clk := rfl
@[simp] theorem State.setDrlIn_pwr (k : Nat) (v : DrlIn) : (s.setDrlIn k v).pwr = s.pwr := rfl
@[simp] theorem State.setDrlIn_hsp (k : Nat) (v : DrlIn) : (s.setDrlIn k v).hsp = s.hsp := rfl
@[simp] theorem State.setDrlIn_time (k : Nat) (v : DrlIn) : (s.setDrlIn k v).time = s.time := rfl
@[simp] theorem State.setDrlIn_int (k : Nat) (v : DrlIn) : (s.setDrlIn k v).int = s.int := rfl
@[simp] theorem State.setDrlIn_mic (k : Nat) (v : DrlIn) : (s.setDrlIn k v).mic = s.mic := rfl
@[simp] theorem State.setDrlIn_flt (k : Nat) (v : DrlIn) : (s.setDrlIn k v).flt = s.flt := rfl
@[simp] theorem State.setDrlIn_lsn (k : Nat) (v : DrlIn) : (s.setDrlIn k v).lsn = s.lsn := rfl
@[simp] theorem State.setDrlIn_swa (k : Nat) (v : DrlIn) : (s.setDrlIn k v).swa = s.swa := rfl
@[simp] theorem State.setDrlIn_que (k : Nat) (v : DrlIn) : (s.setDrlIn k v).que = s.que := rfl
@[simp] theorem State.setDrlIn_hg (k : Nat) (v : DrlIn) : (s.setDrlIn k v).hg = s.hg := rfl
@[simp] theorem State.setDrlIn_frw (k : Nat) (v : DrlIn) : (s.setDrlIn k v).frw = s.frw := rfl
@[simp] theorem State.setDrlIn_adc (k : Nat) (v : DrlIn) : (s.setDrlIn k v).adc = s.adc := rfl
@[simp] theorem State.setDrlIn_mon (k : Nat) (v : DrlIn) : (s.setDrlIn k v).mon = s.mon := rfl
@[simp] theorem State.setDrlIn_saf (k : Nat) (v : DrlIn) : (s.setDrlIn k v).saf = s.saf := rfl
@[simp] theorem State.setDrlIn_nvm (k : Nat) (v : DrlIn) : (s.setDrlIn k v).nvm = s.nvm := rfl
@[simp] theorem State.setDrlIn_jtag (k : Nat) (v : DrlIn) : (s.setDrlIn k v).jtag = s.jtag := rfl
@[simp] theorem State.setDrlIn_free (k : Nat) (v : DrlIn) : (s.setDrlIn k v).free = s.free := rfl

@[simp] theorem State.setPart_pending (k : Nat) (v : SafPart) : (s.setPart k v).pending = s.pending := rfl
@[simp] theorem State.setPart_regs (k : Nat) (v : SafPart) : (s.setPart k v).regs = s.regs := rfl
@[simp] theorem State.setPart_clk (k : Nat) (v : SafPart) : (s.setPart k v).clk = s.clk := rfl
@[simp] theorem State.setPart_pwr (k : Nat) (v : SafPart) : (s.setPart k v).pwr = s.pwr := rfl
@[simp] theorem State.setPart_hsp (k : Nat) (v : SafPart) : (s.setPart k v).hsp = s.hsp := rfl
@[simp] theorem State.setPart_time (k : Nat) (v : SafPart) : (s.setPart k v).time = s.time := rfl
@[simp] theorem State.setPart_int (k : Nat) (v : SafPart) : (s.setPart k v).int = s.int := rfl
@[simp] theorem State.setPart_mic (k : Nat) (v : SafPart) : (s.setPart k v).mic = s.mic := rfl
@[simp] theorem State.setPart_flt (k : Nat) (v : SafPart) : (s.setPart k v).flt = s.flt := rfl
@[simp] theorem State.setPart_lsn (k : Nat) (v : SafPart) : (s.setPart k v).lsn = s.lsn := rfl
@[simp] theorem State.setPart_drl (k : Nat) (v : SafPart) : (s.setPart k v).drl = s.drl := rfl
@[simp] theorem State.setPart_swa (k : Nat) (v : SafPart) : (s.setPart k v).swa = s.swa := rfl
@[simp] theorem State.setPart_que (k : Nat) (v : SafPart) : (s.setPart k v).que = s.que := rfl
@[simp] theorem State.setPart_hg (k : Nat) (v : SafPart) : (s.setPart k v).hg = s.hg := rfl
@[simp] theorem State.setPart_frw (k : Nat) (v : SafPart) : (s.setPart k v).frw = s.frw := rfl
@[simp] theorem State.setPart_adc (k : Nat) (v : SafPart) : (s.setPart k v).adc = s.adc := rfl
@[simp] theorem State.setPart_mon (k : Nat) (v : SafPart) : (s.setPart k v).mon = s.mon := rfl
@[simp] theorem State.setPart_nvm (k : Nat) (v : SafPart) : (s.setPart k v).nvm = s.nvm := rfl
@[simp] theorem State.setPart_jtag (k : Nat) (v : SafPart) : (s.setPart k v).jtag = s.jtag := rfl
@[simp] theorem State.setPart_free (k : Nat) (v : SafPart) : (s.setPart k v).free = s.free := rfl

/-! Registers read through updates of other fields. -/

@[simp] theorem State.setStrip_rd (k : Nat) (v : StripSt) (x : Nat) : (s.setStrip k v).rd x = s.rd x := rfl
@[simp] theorem State.setStrip_get (k : Nat) (v : StripSt) (f : Fld) : (s.setStrip k v).get f = s.get f := rfl
@[simp] theorem State.setStrip_flag (k : Nat) (v : StripSt) (f : Fld) : (s.setStrip k v).flag f = s.flag f := rfl
@[simp] theorem State.setStrip_pair (k : Nat) (v : StripSt) (x : Nat) : (s.setStrip k v).pair x = s.pair x := rfl
@[simp] theorem State.setChain_rd (k : Nat) (v : ChainSt) (x : Nat) : (s.setChain k v).rd x = s.rd x := rfl
@[simp] theorem State.setChain_get (k : Nat) (v : ChainSt) (f : Fld) : (s.setChain k v).get f = s.get f := rfl
@[simp] theorem State.setChain_flag (k : Nat) (v : ChainSt) (f : Fld) : (s.setChain k v).flag f = s.flag f := rfl
@[simp] theorem State.setChain_pair (k : Nat) (v : ChainSt) (x : Nat) : (s.setChain k v).pair x = s.pair x := rfl
@[simp] theorem State.setCic_rd (k : Nat) (v : CicSt) (x : Nat) : (s.setCic k v).rd x = s.rd x := rfl
@[simp] theorem State.setCic_get (k : Nat) (v : CicSt) (f : Fld) : (s.setCic k v).get f = s.get f := rfl
@[simp] theorem State.setCic_flag (k : Nat) (v : CicSt) (f : Fld) : (s.setCic k v).flag f = s.flag f := rfl
@[simp] theorem State.setCic_pair (k : Nat) (v : CicSt) (x : Nat) : (s.setCic k v).pair x = s.pair x := rfl
@[simp] theorem State.setRoute_rd (k : Nat) (v : RouteSt) (x : Nat) : (s.setRoute k v).rd x = s.rd x := rfl
@[simp] theorem State.setRoute_get (k : Nat) (v : RouteSt) (f : Fld) : (s.setRoute k v).get f = s.get f := rfl
@[simp] theorem State.setRoute_flag (k : Nat) (v : RouteSt) (f : Fld) : (s.setRoute k v).flag f = s.flag f := rfl
@[simp] theorem State.setRoute_pair (k : Nat) (v : RouteSt) (x : Nat) : (s.setRoute k v).pair x = s.pair x := rfl
@[simp] theorem State.setSad_rd (k : Nat) (v : SadSt) (x : Nat) : (s.setSad k v).rd x = s.rd x := rfl
@[simp] theorem State.setSad_get (k : Nat) (v : SadSt) (f : Fld) : (s.setSad k v).get f = s.get f := rfl
@[simp] theorem State.setSad_flag (k : Nat) (v : SadSt) (f : Fld) : (s.setSad k v).flag f = s.flag f := rfl
@[simp] theorem State.setSad_pair (k : Nat) (v : SadSt) (x : Nat) : (s.setSad k v).pair x = s.pair x := rfl
@[simp] theorem State.setQueue_rd (k : Nat) (v : QueueSt) (x : Nat) : (s.setQueue k v).rd x = s.rd x := rfl
@[simp] theorem State.setQueue_get (k : Nat) (v : QueueSt) (f : Fld) : (s.setQueue k v).get f = s.get f := rfl
@[simp] theorem State.setQueue_flag (k : Nat) (v : QueueSt) (f : Fld) : (s.setQueue k v).flag f = s.flag f := rfl
@[simp] theorem State.setQueue_pair (k : Nat) (v : QueueSt) (x : Nat) : (s.setQueue k v).pair x = s.pair x := rfl
@[simp] theorem State.setHgp_rd (k : Nat) (v : HgPort) (x : Nat) : (s.setHgp k v).rd x = s.rd x := rfl
@[simp] theorem State.setHgp_get (k : Nat) (v : HgPort) (f : Fld) : (s.setHgp k v).get f = s.get f := rfl
@[simp] theorem State.setHgp_flag (k : Nat) (v : HgPort) (f : Fld) : (s.setHgp k v).flag f = s.flag f := rfl
@[simp] theorem State.setHgp_pair (k : Nat) (v : HgPort) (x : Nat) : (s.setHgp k v).pair x = s.pair x := rfl
@[simp] theorem State.setKey_rd (k : Nat) (v : KeySt) (x : Nat) : (s.setKey k v).rd x = s.rd x := rfl
@[simp] theorem State.setKey_get (k : Nat) (v : KeySt) (f : Fld) : (s.setKey k v).get f = s.get f := rfl
@[simp] theorem State.setKey_flag (k : Nat) (v : KeySt) (f : Fld) : (s.setKey k v).flag f = s.flag f := rfl
@[simp] theorem State.setKey_pair (k : Nat) (v : KeySt) (x : Nat) : (s.setKey k v).pair x = s.pair x := rfl
@[simp] theorem State.setCore_rd (k : Nat) (v : CoreSt) (x : Nat) : (s.setCore k v).rd x = s.rd x := rfl
@[simp] theorem State.setCore_get (k : Nat) (v : CoreSt) (f : Fld) : (s.setCore k v).get f = s.get f := rfl
@[simp] theorem State.setCore_flag (k : Nat) (v : CoreSt) (f : Fld) : (s.setCore k v).flag f = s.flag f := rfl
@[simp] theorem State.setCore_pair (k : Nat) (v : CoreSt) (x : Nat) : (s.setCore k v).pair x = s.pair x := rfl
@[simp] theorem State.setProg_rd (k : Nat) (v : List Host.Cell) (x : Nat) : (s.setProg k v).rd x = s.rd x := rfl
@[simp] theorem State.setProg_get (k : Nat) (v : List Host.Cell) (f : Fld) : (s.setProg k v).get f = s.get f := rfl
@[simp] theorem State.setProg_flag (k : Nat) (v : List Host.Cell) (f : Fld) : (s.setProg k v).flag f = s.flag f := rfl
@[simp] theorem State.setProg_pair (k : Nat) (v : List Host.Cell) (x : Nat) : (s.setProg k v).pair x = s.pair x := rfl
@[simp] theorem State.setData_rd (k : Nat) (v : List Host.Cell) (x : Nat) : (s.setData k v).rd x = s.rd x := rfl
@[simp] theorem State.setData_get (k : Nat) (v : List Host.Cell) (f : Fld) : (s.setData k v).get f = s.get f := rfl
@[simp] theorem State.setData_flag (k : Nat) (v : List Host.Cell) (f : Fld) : (s.setData k v).flag f = s.flag f := rfl
@[simp] theorem State.setData_pair (k : Nat) (v : List Host.Cell) (x : Nat) : (s.setData k v).pair x = s.pair x := rfl
@[simp] theorem State.setAdc_rd (k : Nat) (v : AdcConv) (x : Nat) : (s.setAdc k v).rd x = s.rd x := rfl
@[simp] theorem State.setAdc_get (k : Nat) (v : AdcConv) (f : Fld) : (s.setAdc k v).get f = s.get f := rfl
@[simp] theorem State.setAdc_flag (k : Nat) (v : AdcConv) (f : Fld) : (s.setAdc k v).flag f = s.flag f := rfl
@[simp] theorem State.setAdc_pair (k : Nat) (v : AdcConv) (x : Nat) : (s.setAdc k v).pair x = s.pair x := rfl
@[simp] theorem State.setDrlIn_rd (k : Nat) (v : DrlIn) (x : Nat) : (s.setDrlIn k v).rd x = s.rd x := rfl
@[simp] theorem State.setDrlIn_get (k : Nat) (v : DrlIn) (f : Fld) : (s.setDrlIn k v).get f = s.get f := rfl
@[simp] theorem State.setDrlIn_flag (k : Nat) (v : DrlIn) (f : Fld) : (s.setDrlIn k v).flag f = s.flag f := rfl
@[simp] theorem State.setDrlIn_pair (k : Nat) (v : DrlIn) (x : Nat) : (s.setDrlIn k v).pair x = s.pair x := rfl
@[simp] theorem State.setPart_rd (k : Nat) (v : SafPart) (x : Nat) : (s.setPart k v).rd x = s.rd x := rfl
@[simp] theorem State.setPart_get (k : Nat) (v : SafPart) (f : Fld) : (s.setPart k v).get f = s.get f := rfl
@[simp] theorem State.setPart_flag (k : Nat) (v : SafPart) (f : Fld) : (s.setPart k v).flag f = s.flag f := rfl
@[simp] theorem State.setPart_pair (k : Nat) (v : SafPart) (x : Nat) : (s.setPart k v).pair x = s.pair x := rfl

/-! Registers read from a state whose register file is that of another. -/

section

variable (xpending : List Instr) (xclk : ClkSt) (xpwr : PwrSt) (xhsp : HspSt) (xtime : TimeSt) (xint : IntSt)
  (xmic : MicSt) (xflt : FltSt) (xlsn : LsnSt) (xdrl : DrlSt) (xswa : SwaSt) (xque : QueSt)
  (xhg : HgSt) (xfrw : FrwSt) (xadc : AdcSt) (xmon : MonSt) (xsaf : SafSt) (xnvm : NvmSt)
  (xjtag : Nat) (xfree : Nat)

theorem State.mk_rd (x : Nat) :
    State.rd (State.mk xpending s.regs xclk xpwr xhsp xtime xint xmic xflt xlsn xdrl xswa xque xhg xfrw xadc xmon xsaf xnvm xjtag xfree) x =
      s.rd x := rfl
theorem State.mk_get (f : Fld) :
    State.get (State.mk xpending s.regs xclk xpwr xhsp xtime xint xmic xflt xlsn xdrl xswa xque xhg xfrw xadc xmon xsaf xnvm xjtag xfree) f =
      s.get f := rfl
theorem State.mk_flag (f : Fld) :
    State.flag (State.mk xpending s.regs xclk xpwr xhsp xtime xint xmic xflt xlsn xdrl xswa xque xhg xfrw xadc xmon xsaf xnvm xjtag xfree) f =
      s.flag f := rfl
theorem State.mk_pair (x : Nat) :
    State.pair (State.mk xpending s.regs xclk xpwr xhsp xtime xint xmic xflt xlsn xdrl xswa xque xhg xfrw xadc xmon xsaf xnvm xjtag xfree) x =
      s.pair x := rfl

end

/-- Two states agree when every field does. -/
theorem State.eqOf {s t : State} (hpending : s.pending = t.pending) (hregs : s.regs = t.regs) (hclk : s.clk = t.clk) (hpwr : s.pwr = t.pwr) (hhsp : s.hsp = t.hsp)
    (htime : s.time = t.time) (hint : s.int = t.int) (hmic : s.mic = t.mic) (hflt : s.flt = t.flt) (hlsn : s.lsn = t.lsn)
    (hdrl : s.drl = t.drl) (hswa : s.swa = t.swa) (hque : s.que = t.que) (hhg : s.hg = t.hg) (hfrw : s.frw = t.frw)
    (hadc : s.adc = t.adc) (hmon : s.mon = t.mon) (hsaf : s.saf = t.saf) (hnvm : s.nvm = t.nvm) (hjtag : s.jtag = t.jtag)
    (hfree : s.free = t.free) : s = t := by
  cases s; cases t; simp_all

/-! ## Updates of one unit -/

@[simp] theorem State.instantly_regs : (s.instantly).regs = s.regs := rfl
@[simp] theorem State.instantly_clk : (s.instantly).clk = s.clk := rfl
@[simp] theorem State.instantly_pwr : (s.instantly).pwr = s.pwr := rfl
@[simp] theorem State.instantly_hsp : (s.instantly).hsp = s.hsp := rfl
@[simp] theorem State.instantly_int : (s.instantly).int = s.int := rfl
@[simp] theorem State.instantly_mic : (s.instantly).mic = s.mic := rfl
@[simp] theorem State.instantly_flt : (s.instantly).flt = s.flt := rfl
@[simp] theorem State.instantly_lsn : (s.instantly).lsn = s.lsn := rfl
@[simp] theorem State.instantly_drl : (s.instantly).drl = s.drl := rfl
@[simp] theorem State.instantly_swa : (s.instantly).swa = s.swa := rfl
@[simp] theorem State.instantly_que : (s.instantly).que = s.que := rfl
@[simp] theorem State.instantly_hg : (s.instantly).hg = s.hg := rfl
@[simp] theorem State.instantly_frw : (s.instantly).frw = s.frw := rfl
@[simp] theorem State.instantly_adc : (s.instantly).adc = s.adc := rfl
@[simp] theorem State.instantly_mon : (s.instantly).mon = s.mon := rfl
@[simp] theorem State.instantly_saf : (s.instantly).saf = s.saf := rfl
@[simp] theorem State.instantly_nvm : (s.instantly).nvm = s.nvm := rfl
@[simp] theorem State.instantly_jtag : (s.instantly).jtag = s.jtag := rfl
@[simp] theorem State.instantly_free : (s.instantly).free = s.free := rfl
@[simp] theorem State.instantly_rd (a : Nat) : (s.instantly).rd a = s.rd a := rfl
@[simp] theorem State.instantly_get (f : Fld) : (s.instantly).get f = s.get f := rfl
@[simp] theorem State.instantly_flag (f : Fld) : (s.instantly).flag f = s.flag f := rfl
@[simp] theorem State.instantly_pair (a : Nat) : (s.instantly).pair a = s.pair a := rfl

@[simp] theorem State.safLine_regs (i t : Nat) : (s.safLine i t).regs = s.regs := by unfold State.safLine; split <;> rfl
@[simp] theorem State.safLine_clk (i t : Nat) : (s.safLine i t).clk = s.clk := by unfold State.safLine; split <;> rfl
@[simp] theorem State.safLine_pwr (i t : Nat) : (s.safLine i t).pwr = s.pwr := by unfold State.safLine; split <;> rfl
@[simp] theorem State.safLine_hsp (i t : Nat) : (s.safLine i t).hsp = s.hsp := by unfold State.safLine; split <;> rfl
@[simp] theorem State.safLine_time (i t : Nat) : (s.safLine i t).time = s.time := by unfold State.safLine; split <;> rfl
@[simp] theorem State.safLine_int (i t : Nat) : (s.safLine i t).int = s.int := by unfold State.safLine; split <;> rfl
@[simp] theorem State.safLine_mic (i t : Nat) : (s.safLine i t).mic = s.mic := by unfold State.safLine; split <;> rfl
@[simp] theorem State.safLine_flt (i t : Nat) : (s.safLine i t).flt = s.flt := by unfold State.safLine; split <;> rfl
@[simp] theorem State.safLine_lsn (i t : Nat) : (s.safLine i t).lsn = s.lsn := by unfold State.safLine; split <;> rfl
@[simp] theorem State.safLine_drl (i t : Nat) : (s.safLine i t).drl = s.drl := by unfold State.safLine; split <;> rfl
@[simp] theorem State.safLine_swa (i t : Nat) : (s.safLine i t).swa = s.swa := by unfold State.safLine; split <;> rfl
@[simp] theorem State.safLine_que (i t : Nat) : (s.safLine i t).que = s.que := by unfold State.safLine; split <;> rfl
@[simp] theorem State.safLine_hg (i t : Nat) : (s.safLine i t).hg = s.hg := by unfold State.safLine; split <;> rfl
@[simp] theorem State.safLine_frw (i t : Nat) : (s.safLine i t).frw = s.frw := by unfold State.safLine; split <;> rfl
@[simp] theorem State.safLine_adc (i t : Nat) : (s.safLine i t).adc = s.adc := by unfold State.safLine; split <;> rfl
@[simp] theorem State.safLine_mon (i t : Nat) : (s.safLine i t).mon = s.mon := by unfold State.safLine; split <;> rfl
@[simp] theorem State.safLine_nvm (i t : Nat) : (s.safLine i t).nvm = s.nvm := by unfold State.safLine; split <;> rfl
@[simp] theorem State.safLine_jtag (i t : Nat) : (s.safLine i t).jtag = s.jtag := by unfold State.safLine; split <;> rfl
@[simp] theorem State.safLine_free (i t : Nat) : (s.safLine i t).free = s.free := by unfold State.safLine; split <;> rfl
@[simp] theorem State.safLine_rd (i t : Nat) (a : Nat) : (s.safLine i t).rd a = s.rd a := by unfold State.safLine; split <;> rfl
@[simp] theorem State.safLine_get (i t : Nat) (f : Fld) : (s.safLine i t).get f = s.get f := by unfold State.safLine; split <;> rfl
@[simp] theorem State.safLine_flag (i t : Nat) (f : Fld) : (s.safLine i t).flag f = s.flag f := by unfold State.safLine; split <;> rfl
@[simp] theorem State.safLine_pair (i t : Nat) (a : Nat) : (s.safLine i t).pair a = s.pair a := by unfold State.safLine; split <;> rfl

@[simp] theorem State.setPairSt_regs (p : PairSt) : (s.setPairSt p).regs = s.regs := rfl
@[simp] theorem State.setPairSt_clk (p : PairSt) : (s.setPairSt p).clk = s.clk := rfl
@[simp] theorem State.setPairSt_pwr (p : PairSt) : (s.setPairSt p).pwr = s.pwr := rfl
@[simp] theorem State.setPairSt_hsp (p : PairSt) : (s.setPairSt p).hsp = s.hsp := rfl
@[simp] theorem State.setPairSt_time (p : PairSt) : (s.setPairSt p).time = s.time := rfl
@[simp] theorem State.setPairSt_int (p : PairSt) : (s.setPairSt p).int = s.int := rfl
@[simp] theorem State.setPairSt_mic (p : PairSt) : (s.setPairSt p).mic = s.mic := rfl
@[simp] theorem State.setPairSt_flt (p : PairSt) : (s.setPairSt p).flt = s.flt := rfl
@[simp] theorem State.setPairSt_lsn (p : PairSt) : (s.setPairSt p).lsn = s.lsn := rfl
@[simp] theorem State.setPairSt_swa (p : PairSt) : (s.setPairSt p).swa = s.swa := rfl
@[simp] theorem State.setPairSt_que (p : PairSt) : (s.setPairSt p).que = s.que := rfl
@[simp] theorem State.setPairSt_hg (p : PairSt) : (s.setPairSt p).hg = s.hg := rfl
@[simp] theorem State.setPairSt_frw (p : PairSt) : (s.setPairSt p).frw = s.frw := rfl
@[simp] theorem State.setPairSt_adc (p : PairSt) : (s.setPairSt p).adc = s.adc := rfl
@[simp] theorem State.setPairSt_mon (p : PairSt) : (s.setPairSt p).mon = s.mon := rfl
@[simp] theorem State.setPairSt_saf (p : PairSt) : (s.setPairSt p).saf = s.saf := rfl
@[simp] theorem State.setPairSt_nvm (p : PairSt) : (s.setPairSt p).nvm = s.nvm := rfl
@[simp] theorem State.setPairSt_jtag (p : PairSt) : (s.setPairSt p).jtag = s.jtag := rfl
@[simp] theorem State.setPairSt_free (p : PairSt) : (s.setPairSt p).free = s.free := rfl
@[simp] theorem State.setPairSt_rd (p : PairSt) (a : Nat) : (s.setPairSt p).rd a = s.rd a := rfl
@[simp] theorem State.setPairSt_get (p : PairSt) (f : Fld) : (s.setPairSt p).get f = s.get f := rfl
@[simp] theorem State.setPairSt_flag (p : PairSt) (f : Fld) : (s.setPairSt p).flag f = s.flag f := rfl
@[simp] theorem State.setPairSt_pair (p : PairSt) (a : Nat) : (s.setPairSt p).pair a = s.pair a := rfl

@[simp] theorem State.setSector_regs (x : Sector) : (s.setSector x).regs = s.regs := rfl
@[simp] theorem State.setSector_clk (x : Sector) : (s.setSector x).clk = s.clk := rfl
@[simp] theorem State.setSector_pwr (x : Sector) : (s.setSector x).pwr = s.pwr := rfl
@[simp] theorem State.setSector_hsp (x : Sector) : (s.setSector x).hsp = s.hsp := rfl
@[simp] theorem State.setSector_time (x : Sector) : (s.setSector x).time = s.time := rfl
@[simp] theorem State.setSector_int (x : Sector) : (s.setSector x).int = s.int := rfl
@[simp] theorem State.setSector_mic (x : Sector) : (s.setSector x).mic = s.mic := rfl
@[simp] theorem State.setSector_flt (x : Sector) : (s.setSector x).flt = s.flt := rfl
@[simp] theorem State.setSector_lsn (x : Sector) : (s.setSector x).lsn = s.lsn := rfl
@[simp] theorem State.setSector_drl (x : Sector) : (s.setSector x).drl = s.drl := rfl
@[simp] theorem State.setSector_swa (x : Sector) : (s.setSector x).swa = s.swa := rfl
@[simp] theorem State.setSector_que (x : Sector) : (s.setSector x).que = s.que := rfl
@[simp] theorem State.setSector_hg (x : Sector) : (s.setSector x).hg = s.hg := rfl
@[simp] theorem State.setSector_frw (x : Sector) : (s.setSector x).frw = s.frw := rfl
@[simp] theorem State.setSector_adc (x : Sector) : (s.setSector x).adc = s.adc := rfl
@[simp] theorem State.setSector_mon (x : Sector) : (s.setSector x).mon = s.mon := rfl
@[simp] theorem State.setSector_saf (x : Sector) : (s.setSector x).saf = s.saf := rfl
@[simp] theorem State.setSector_jtag (x : Sector) : (s.setSector x).jtag = s.jtag := rfl
@[simp] theorem State.setSector_free (x : Sector) : (s.setSector x).free = s.free := rfl
@[simp] theorem State.setSector_rd (x : Sector) (a : Nat) : (s.setSector x).rd a = s.rd a := rfl
@[simp] theorem State.setSector_get (x : Sector) (f : Fld) : (s.setSector x).get f = s.get f := rfl
@[simp] theorem State.setSector_flag (x : Sector) (f : Fld) : (s.setSector x).flag f = s.flag f := rfl
@[simp] theorem State.setSector_pair (x : Sector) (a : Nat) : (s.setSector x).pair a = s.pair a := rfl

@[simp] theorem State.setSlotMem_regs (k : Nat) (m : List Host.Cell) : (s.setSlotMem k m).regs = s.regs := rfl
@[simp] theorem State.setSlotMem_clk (k : Nat) (m : List Host.Cell) : (s.setSlotMem k m).clk = s.clk := rfl
@[simp] theorem State.setSlotMem_pwr (k : Nat) (m : List Host.Cell) : (s.setSlotMem k m).pwr = s.pwr := rfl
@[simp] theorem State.setSlotMem_hsp (k : Nat) (m : List Host.Cell) : (s.setSlotMem k m).hsp = s.hsp := rfl
@[simp] theorem State.setSlotMem_time (k : Nat) (m : List Host.Cell) : (s.setSlotMem k m).time = s.time := rfl
@[simp] theorem State.setSlotMem_int (k : Nat) (m : List Host.Cell) : (s.setSlotMem k m).int = s.int := rfl
@[simp] theorem State.setSlotMem_mic (k : Nat) (m : List Host.Cell) : (s.setSlotMem k m).mic = s.mic := rfl
@[simp] theorem State.setSlotMem_flt (k : Nat) (m : List Host.Cell) : (s.setSlotMem k m).flt = s.flt := rfl
@[simp] theorem State.setSlotMem_lsn (k : Nat) (m : List Host.Cell) : (s.setSlotMem k m).lsn = s.lsn := rfl
@[simp] theorem State.setSlotMem_drl (k : Nat) (m : List Host.Cell) : (s.setSlotMem k m).drl = s.drl := rfl
@[simp] theorem State.setSlotMem_swa (k : Nat) (m : List Host.Cell) : (s.setSlotMem k m).swa = s.swa := rfl
@[simp] theorem State.setSlotMem_que (k : Nat) (m : List Host.Cell) : (s.setSlotMem k m).que = s.que := rfl
@[simp] theorem State.setSlotMem_hg (k : Nat) (m : List Host.Cell) : (s.setSlotMem k m).hg = s.hg := rfl
@[simp] theorem State.setSlotMem_frw (k : Nat) (m : List Host.Cell) : (s.setSlotMem k m).frw = s.frw := rfl
@[simp] theorem State.setSlotMem_adc (k : Nat) (m : List Host.Cell) : (s.setSlotMem k m).adc = s.adc := rfl
@[simp] theorem State.setSlotMem_mon (k : Nat) (m : List Host.Cell) : (s.setSlotMem k m).mon = s.mon := rfl
@[simp] theorem State.setSlotMem_saf (k : Nat) (m : List Host.Cell) : (s.setSlotMem k m).saf = s.saf := rfl
@[simp] theorem State.setSlotMem_jtag (k : Nat) (m : List Host.Cell) : (s.setSlotMem k m).jtag = s.jtag := rfl
@[simp] theorem State.setSlotMem_free (k : Nat) (m : List Host.Cell) : (s.setSlotMem k m).free = s.free := rfl
@[simp] theorem State.setSlotMem_rd (k : Nat) (m : List Host.Cell) (a : Nat) : (s.setSlotMem k m).rd a = s.rd a := rfl
@[simp] theorem State.setSlotMem_get (k : Nat) (m : List Host.Cell) (f : Fld) : (s.setSlotMem k m).get f = s.get f := rfl
@[simp] theorem State.setSlotMem_flag (k : Nat) (m : List Host.Cell) (f : Fld) : (s.setSlotMem k m).flag f = s.flag f := rfl
@[simp] theorem State.setSlotMem_pair (k : Nat) (m : List Host.Cell) (a : Nat) : (s.setSlotMem k m).pair a = s.pair a := rfl

@[simp] theorem setDiv_regs (g d : Nat) : (setDiv s g d).regs = s.regs := rfl
@[simp] theorem setDiv_clk (g d : Nat) : (setDiv s g d).clk = s.clk := rfl
@[simp] theorem setDiv_pwr (g d : Nat) : (setDiv s g d).pwr = s.pwr := rfl
@[simp] theorem setDiv_hsp (g d : Nat) : (setDiv s g d).hsp = s.hsp := rfl
@[simp] theorem setDiv_time (g d : Nat) : (setDiv s g d).time = s.time := rfl
@[simp] theorem setDiv_int (g d : Nat) : (setDiv s g d).int = s.int := rfl
@[simp] theorem setDiv_flt (g d : Nat) : (setDiv s g d).flt = s.flt := rfl
@[simp] theorem setDiv_lsn (g d : Nat) : (setDiv s g d).lsn = s.lsn := rfl
@[simp] theorem setDiv_drl (g d : Nat) : (setDiv s g d).drl = s.drl := rfl
@[simp] theorem setDiv_swa (g d : Nat) : (setDiv s g d).swa = s.swa := rfl
@[simp] theorem setDiv_que (g d : Nat) : (setDiv s g d).que = s.que := rfl
@[simp] theorem setDiv_hg (g d : Nat) : (setDiv s g d).hg = s.hg := rfl
@[simp] theorem setDiv_frw (g d : Nat) : (setDiv s g d).frw = s.frw := rfl
@[simp] theorem setDiv_adc (g d : Nat) : (setDiv s g d).adc = s.adc := rfl
@[simp] theorem setDiv_mon (g d : Nat) : (setDiv s g d).mon = s.mon := rfl
@[simp] theorem setDiv_saf (g d : Nat) : (setDiv s g d).saf = s.saf := rfl
@[simp] theorem setDiv_nvm (g d : Nat) : (setDiv s g d).nvm = s.nvm := rfl
@[simp] theorem setDiv_jtag (g d : Nat) : (setDiv s g d).jtag = s.jtag := rfl
@[simp] theorem setDiv_free (g d : Nat) : (setDiv s g d).free = s.free := rfl
@[simp] theorem setDiv_rd (g d : Nat) (a : Nat) : (setDiv s g d).rd a = s.rd a := rfl
@[simp] theorem setDiv_get (g d : Nat) (f : Fld) : (setDiv s g d).get f = s.get f := rfl
@[simp] theorem setDiv_flag (g d : Nat) (f : Fld) : (setDiv s g d).flag f = s.flag f := rfl
@[simp] theorem setDiv_pair (g d : Nat) (a : Nat) : (setDiv s g d).pair a = s.pair a := rfl

end Sys2Proof.Machine
end

