-- ==== Sys2Proof/Laws/Ops.lean ====
section
/-! SUPPORT. The shared operations over the register file, each with one lemma that says what it can do to a register, a
field or a pair, and what an event of an interrupt source leaves. -/

namespace Sys2Proof.Machine

/-! ## One register after an operation -/

theorem rd_mark_other (s : State) (f : Fld) (b : Bool) (a : Nat) (h : f.addr ≠ a) : (s.mark f b).rd a = s.rd a :=
  rd_put_other s f _ a h

theorem rd_putI_other (s : State) (f : Fld) (v : Int) (a : Nat) (h : f.addr ≠ a) : (s.putI f v).rd a = s.rd a :=
  rd_put_other s f _ a h

theorem rd_setPair_other (s : State) (lo v a : Nat) (h : a ∉ pairRegs lo) : (s.setPair lo v).rd a = s.rd a := by
  simp only [List.mem_cons, List.not_mem_nil, or_false, not_or] at h
  unfold State.setPair
  rw [rd_wr_other _ _ _ _ (fun e => h.2 e.symm), rd_wr_other _ _ _ _ (fun e => h.1 e.symm)]

theorem rd_bump64_other (s : State) (lo n a : Nat) (h : a ∉ pairRegs lo) : (s.bump64 lo n).rd a = s.rd a :=
  rd_setPair_other _ _ _ _ h

theorem get_of_rd {s t : State} {f : Fld} (h : t.rd f.addr = s.rd f.addr) : t.get f = s.get f := by
  unfold State.get; rw [h]

theorem flag_of_rd {s t : State} {f : Fld} (h : t.rd f.addr = s.rd f.addr) : t.flag f = s.flag f := by
  unfold State.flag; rw [get_of_rd h]

theorem pair_of_rd {s t : State} {lo : Nat} (h : t.rd lo = s.rd lo) (h4 : t.rd (lo + 4) = s.rd (lo + 4)) :
    t.pair lo = s.pair lo := by unfold State.pair; rw [h, h4]

theorem pair_bump64_same (s : State) (lo n : Nat) : (s.bump64 lo n).pair lo = (s.pair lo + n) % 2 ^ 64 :=
  pair_setPair_same _ _ _

theorem flag_put_same (s : State) (f : Fld) (v : Nat) (h : f.lo + f.width ≤ 32) :
    (s.put f v).flag f = (v % 2 ^ f.width == 1) := by unfold State.flag; rw [get_put_same _ _ _ h]

theorem flag_put_other (s : State) (f g : Fld) (v : Nat) (h : f.lo + f.width ≤ 32)
    (d : f.addr ≠ g.addr ∨ g.lo + g.width ≤ f.lo ∨ f.lo + f.width ≤ g.lo) : (s.put f v).flag g = s.flag g := by
  unfold State.flag; rw [get_put_other _ _ _ _ h d]

theorem get_mark_same (s : State) (f : Fld) (b : Bool) (h : f.lo + f.width ≤ 32) (hw : f.width = 1) :
    (s.mark f b).get f = b2n b := by
  unfold State.mark; rw [get_put_same _ _ _ h, hw]; cases b <;> rfl

theorem get_mark_other (s : State) (f g : Fld) (b : Bool) (h : f.lo + f.width ≤ 32)
    (d : f.addr ≠ g.addr ∨ g.lo + g.width ≤ f.lo ∨ f.lo + f.width ≤ g.lo) : (s.mark f b).get g = s.get g :=
  get_put_other _ _ _ _ h d

theorem flag_mark_other (s : State) (f g : Fld) (b : Bool) (h : f.lo + f.width ≤ 32)
    (d : f.addr ≠ g.addr ∨ g.lo + g.width ≤ f.lo ∨ f.lo + f.width ≤ g.lo) : (s.mark f b).flag g = s.flag g :=
  flag_put_other _ _ _ _ h d

/-! ## Frames -/

theorem RegsKept.refl (s : State) (as : List Nat) : RegsKept s s as := fun _ _ => rfl

theorem RegsKept.trans {s t u : State} {as bs : List Nat} (h : RegsKept s t as) (k : RegsKept t u bs) :
    RegsKept s u (as ++ bs) := by
  intro a ha
  rw [List.mem_append, not_or] at ha
  rw [k a ha.2, h a ha.1]

theorem RegsKept.mono {s t : State} {as bs : List Nat} (h : RegsKept s t as) (k : ∀ a ∈ as, a ∈ bs) : RegsKept s t bs :=
  fun a ha => h a (fun m => ha (k a m))

theorem wr_kept (s : State) (a : Nat) (v : Word) : RegsKept s (s.wr a v) [a] := by
  intro b hb
  exact rd_wr_other _ _ _ _ (fun e => hb (by simp [e]))

theorem put_kept (s : State) (f : Fld) (v : Nat) : RegsKept s (s.put f v) [f.addr] := wr_kept _ _ _
theorem mark_kept (s : State) (f : Fld) (b : Bool) : RegsKept s (s.mark f b) [f.addr] := wr_kept _ _ _

theorem setPair_kept (s : State) (lo v : Nat) : RegsKept s (s.setPair lo v) (pairRegs lo) :=
  fun a ha => rd_setPair_other s lo v a ha

theorem bump64_kept (s : State) (lo n : Nat) : RegsKept s (s.bump64 lo n) (pairRegs lo) :=
  fun a ha => rd_bump64_other s lo n a ha

/-! ## Interrupt sources -/

theorem edge_kept (s : State) (n : Nat) : RegsKept s (s.edge n) (sourceRegs n) := by
  intro a ha
  simp only [List.mem_cons, List.not_mem_nil, or_false, not_or] at ha
  unfold State.edge
  dsimp only
  split
  · rw [rd_bump64_other _ _ _ _ (by simp; omega), rd_bump64_other _ _ _ _ (by simp; omega)]
  · rw [rd_mark_other _ _ _ _ (by simp; omega), rd_bump64_other _ _ _ _ (by simp; omega)]

theorem event_kept (s : State) (n : Nat) : RegsKept s (s.event n) (sourceRegs n) := by
  intro a ha
  unfold State.event
  rw [edge_kept _ _ a ha, rd_mark_other]
  intro e
  exact ha (by simp [← e])

theorem level_kept (s : State) (n : Nat) (b : Bool) : RegsKept s (s.level n b) (sourceRegs n) := by
  intro a ha
  have hne : (F.INT_SRCs_LIVE n).addr ≠ a := fun e => ha (by simp [← e])
  unfold State.level
  split
  · split
    · rfl
    · rw [edge_kept _ _ a ha, rd_mark_other _ _ _ _ hne]
  · split
    · rw [rd_mark_other _ _ _ _ hne]
    · rfl

/-- The edge counter of a source's group after an edge; the source is pending. -/
theorem edge_taken (s : State) (n : Nat) : EdgeTaken s (s.edge n) n := by
  unfold EdgeTaken State.edge
  dsimp only
  split
  · rename_i h
    refine ⟨?_, ?_⟩
    · rw [flag_of_rd (rd_bump64_other _ _ _ _ (by simp [A.INT_SRCs, A.INT_Gg_EDGE_LO, A.INT_Gg_COAL_LO]; omega)), h]
    · rw [pair_of_rd (rd_bump64_other _ _ _ _ (by simp [A.INT_SRCs, A.INT_Gg_EDGE_LO, A.INT_Gg_COAL_LO]; omega)) (rd_bump64_other _ _ _ _ (by simp [A.INT_SRCs, A.INT_Gg_EDGE_LO, A.INT_Gg_COAL_LO]; omega)), pair_bump64_same]
  · refine ⟨?_, ?_⟩
    · rw [flag_mark_same _ _ _ (by simp) rfl]
    · rw [pair_of_rd (rd_mark_other _ _ _ _ (by simp [A.INT_SRCs, A.INT_Gg_EDGE_LO, A.INT_Gg_COAL_LO]; omega)) (rd_mark_other _ _ _ _ (by simp [A.INT_SRCs, A.INT_Gg_EDGE_LO, A.INT_Gg_COAL_LO]; omega)), pair_bump64_same]

theorem event_taken (s : State) (n : Nat) : EdgeTaken s (s.event n) n := by
  unfold State.event
  have h := edge_taken (s.mark (F.INT_SRCs_LIVE n) true) n
  unfold EdgeTaken at *
  rw [pair_of_rd (s := s) (rd_mark_other _ _ _ _ (by simp [A.INT_SRCs, A.INT_Gg_EDGE_LO, A.INT_Gg_COAL_LO]; omega)) (rd_mark_other _ _ _ _ (by simp [A.INT_SRCs, A.INT_Gg_EDGE_LO, A.INT_Gg_COAL_LO]; omega))] at h
  exact h

end Sys2Proof.Machine
end

