-- ==== Sys2Proof/Laws/Pending.lean ====
section
/-! SUPPORT. No operation of the device touches the queue of waiting commands: one lemma per operation. -/

namespace Sys2Proof.Machine

@[simp] theorem ite_pending (c : Prop) [Decidable c] (a b : State) :
    (if c then a else b).pending = if c then a.pending else b.pending := by split <;> rfl

@[simp] theorem when_pending (s : State) (c : Bool) (f : State → State) (h : (f s).pending = s.pending) :
    (s.when c f).pending = s.pending := by unfold State.when; split <;> simp [h]

@[simp] theorem foldl_pending {α : Type} (l : List α) (f : State → α → State) (s : State)
    (h : ∀ s a, (f s a).pending = s.pending) : (l.foldl f s).pending = s.pending := by
  induction l generalizing s with
  | nil => rfl
  | cons a t ih => simp [ih, h]

theorem foldl_fst_pending {α β : Type} (l : List α) (f : State × β → α → State × β) (a : State × β)
    (h : ∀ a x, (f a x).1.pending = a.1.pending) : (l.foldl f a).1.pending = a.1.pending := by
  induction l generalizing a with
  | nil => rfl
  | cons x t ih => simp [ih, h]

theorem foldl_snd_pending {α β : Type} (l : List α) (f : β × State → α → β × State) (a : β × State)
    (h : ∀ a x, (f a x).2.pending = a.2.pending) : (l.foldl f a).2.pending = a.2.pending := by
  induction l generalizing a with
  | nil => rfl
  | cons x t ih => simp [ih, h]

@[simp] theorem forEach_pending {α : Type} (l : List α) (f : State → α → State) (s : State)
    (h : ∀ s a, (f s a).pending = s.pending) : (forEach l f s).pending = s.pending := foldl_pending _ _ _ h

@[simp] theorem State.fresh_pending (s : State) (n : Nat) : (State.fresh s n).2.pending = s.pending := by simp [State.fresh]

@[simp] theorem intDeliver_pending (s : State) (n t : Nat) : (intDeliver s n t).pending = s.pending := by simp [intDeliver]

@[simp] theorem intRedeliver_pending (s : State) (g : Nat) : (intRedeliver s g).pending = s.pending := by
  unfold intRedeliver; dsimp only; (repeat' (first | (simp; done) | split | rw [forEach_pending] | intro))

@[simp] theorem intDecide_pending (s : State) (g : Nat) : (intDecide s g).pending = s.pending := by
  unfold intDecide; dsimp only; (repeat' (first | (simp; done) | split | rw [forEach_pending] | intro))

@[simp] theorem intWithdraw_pending (s : State) : (intWithdraw s).pending = s.pending := by
  unfold intWithdraw; dsimp only; (repeat' (first | (simp; done) | split | rw [forEach_pending] | intro))

@[simp] theorem intTake_pending (s : State) (n : Nat) : (intTake s n).pending = s.pending := by simp [intTake]

@[simp] theorem intClaim_pending (s : State) (t : Nat) : (intClaim s t).pending = s.pending := by
  unfold intClaim; (repeat' split) <;> simp

@[simp] theorem intClear_pending (s : State) (w : Nat) (v : Nat) : (intClear s w v).pending = s.pending := by simp [intClear]

@[simp] theorem intRing_pending (s : State) (v : Nat) : (intRing s v).pending = s.pending := by simp [intRing]

@[simp] theorem intFallow_pending (s : State) (g : Nat) : (intFallow s g).pending = s.pending := by simp [intFallow]

@[simp] theorem intOff_pending (s : State) : (intOff s).pending = s.pending := by simp [intOff]

@[simp] theorem intTick_pending (s : State) : (intTick s).pending = s.pending := by simp [intTick]

@[simp] theorem intLiveEnd_pending (s : State) : (intLiveEnd s).pending = s.pending := by simp [intLiveEnd]

@[simp] theorem hqLevel_pending (s : State) (rose : Bool) : (hqLevel s rose).pending = s.pending := by simp [hqLevel]

@[simp] theorem queuePush_pending (s : State) (n : Nat) (es : List Nat) : (queuePush s n es).pending = s.pending := by
  simp [queuePush]

@[simp] theorem queuePop_pending (s : State) (n k : Nat) : (queuePop s n k).pending = s.pending := by simp [queuePop]

@[simp] theorem queueArrive_pending (s : State) (n : Nat) : (queueArrive s n).pending = s.pending := by
  unfold queueArrive; dsimp only; (repeat' split) <;> simp_all

@[simp] theorem queueCountDrop_pending (s : State) (n k : Nat) : (queueCountDrop s n k).pending = s.pending := by
  simp [queueCountDrop]

@[simp] theorem ciPush_pending (s : State) (n : Nat) (w : Nat) : (ciPush s n w).pending = s.pending := by simp [ciPush]

@[simp] theorem queueEnable_pending (s : State) (n : Nat) : (queueEnable s n).pending = s.pending := by simp [queueEnable]

@[simp] theorem queueDisable_pending (s : State) (n : Nat) : (queueDisable s n).pending = s.pending := by simp [queueDisable]

@[simp] theorem queuesDiscard_pending (s : State) : (queuesDiscard s).pending = s.pending := by simp [queuesDiscard]

@[simp] theorem queuesStart_pending (s : State) : (queuesStart s).pending = s.pending := by simp [queuesStart]

@[simp] theorem hqPop_pending (s : State) (h k : Nat) : (hqPop s h k).pending = s.pending := by simp [hqPop]

@[simp] theorem handoffDrop_pending (s : State) (k : Nat) : (handoffDrop s k).pending = s.pending := by simp [handoffDrop]

@[simp] theorem hgQueue_pending (s : State) (x vc : Nat) (m : Msg) : (hgQueue s x vc m).pending = s.pending := by
  simp [hgQueue]

@[simp] theorem hgSend_pending (s : State) (vc typ dst param : Nat) (body : List Nat) : (hgSend s vc typ dst param body).pending = s.pending := by
  simp [hgSend]

@[simp] theorem hgBroadcast_pending (s : State) (vc typ param : Nat) (body : List Nat) : (hgBroadcast s vc typ param body).pending = s.pending := by
  simp [hgBroadcast]

@[simp] theorem stripCounts_pending (s : State) (k : Nat) : (stripCounts s k).pending = s.pending := by simp [stripCounts]

@[simp] theorem stripDiscard_pending (s : State) (k : Nat) : (stripDiscard s k).pending = s.pending := by simp [stripDiscard]

@[simp] theorem stripRetire_pending (s : State) (k stamp : Nat) : (stripRetire s k stamp).pending = s.pending := by
  simp [stripRetire]

@[simp] theorem blockStart_pending (s : State) (k : Nat) : (blockStart s k).pending = s.pending := by
  unfold blockStart; dsimp only; (repeat' split) <;> simp_all

@[simp] theorem blockFinish_pending (s : State) (k : Nat) (b : BlockSt) : (blockFinish s k b).pending = s.pending := by
  unfold blockFinish; dsimp only; split <;> simp

@[simp] theorem stripFrame_pending (s : State) (k : Nat) : (stripFrame s k).pending = s.pending := by
  unfold stripFrame; (repeat' split) <;> simp

@[simp] theorem prerollReady_pending (s : State) : (prerollReady s).pending = s.pending := by simp [prerollReady]

@[simp] theorem slotDone_pending (s : State) (d : Nat) : (slotDone s d).pending = s.pending := by simp [slotDone]

@[simp] theorem swathFrame_pending (s : State) : (swathFrame s).pending = s.pending := by simp [swathFrame]

@[simp] theorem stripAnew_pending (s : State) (k : Nat) : (stripAnew s k).pending = s.pending :=
  (State.mark_pending _ _ _).trans ((State.put_pending _ _ _).trans ((State.setStrip_pending _ _ _).trans (stripDiscard_pending _ _)))

@[simp] theorem periodWindow_pending (s : State) : (periodWindow s).pending = s.pending := by
  unfold periodWindow; dsimp only; split
  · exact State.setPair_pending _ _ _
  · rfl

@[simp] theorem periodRuns_pending (s : State) : (periodRuns s).pending = s.pending := rfl

@[simp] theorem periodStart_pending (s : State) : (periodStart s).pending = s.pending := by
  unfold periodStart; dsimp only
  rw [periodRuns_pending, State.mark_pending, State.mark_pending, State.bump64_pending, State.setPair_pending,
    forEach_pending _ _ _ (fun s k => stripAnew_pending s k), periodWindow_pending]

@[simp] theorem shortStart_pending (s : State) : (shortStart s).pending = s.pending := by
  unfold shortStart; dsimp only; (repeat' (first | (simp; done) | split | rw [forEach_pending] | intro))

@[simp] theorem shortFrame_pending (s : State) (word : Nat) : (shortFrame s word).pending = s.pending := by
  unfold shortFrame; dsimp only; (repeat' split) <;> simp_all

@[simp] theorem mittenTouch_pending (s : State) : (mittenTouch s).pending = s.pending := by simp [mittenTouch]

@[simp] theorem markWakeBlock_pending (s : State) (m : Nat) (short : Bool) : (markWakeBlock s m short).pending = s.pending := by
  unfold markWakeBlock; dsimp only; (repeat' (first | (simp; done) | split | rw [forEach_pending] | intro))

@[simp] theorem markWakeDone_pending (s : State) (m : Nat) (short : Bool) : (markWakeDone s m short).pending = s.pending := by
  unfold markWakeDone; dsimp only; (repeat' (first | (simp; done) | split | rw [forEach_pending] | intro))

@[simp] theorem unloadStart_pending (s : State) (k : Nat) : (unloadStart s k).pending = s.pending := by simp [unloadStart]

@[simp] theorem mittenWindow_pending (s : State) (m : Nat) : (mittenWindow s m).pending = s.pending := by
  unfold mittenWindow; dsimp only; (repeat' (first | (simp; done) | split | rw [forEach_pending] | intro))

@[simp] theorem mittenOpening_pending (s : State) (m : Nat) : (mittenOpening s m).pending = s.pending := by
  simp [mittenOpening]

@[simp] theorem mittenWake_pending (s : State) (m : Nat) : (mittenWake s m).pending = s.pending := by
  unfold mittenWake; dsimp only; (repeat' (first | (simp; done) | split | rw [forEach_pending] | intro))

@[simp] theorem mittenClose_pending (s : State) (cause : Nat) : (mittenClose s cause).pending = s.pending := by
  unfold mittenClose; dsimp only; (repeat' (first | (simp; done) | split | rw [forEach_pending] | intro))

@[simp] theorem mittenDeny_pending (s : State) : (mittenDeny s).pending = s.pending := by simp [mittenDeny]

@[simp] theorem State.safLine_pending (s : State) (i t : Nat) : (State.safLine s i t).pending = s.pending := by
  simp [State.safLine]

@[simp] theorem wordBad_pending (short : Bool) (s : State) (w : Nat) : (wordBad short s w).pending = s.pending := by
  simp [wordBad]

@[simp] theorem eccCheck_pending (s : State) (short : Bool) (a n : Nat) : (eccCheck s short a n).pending = s.pending := by
  simp [eccCheck]

@[simp] theorem stripZero_pending (s : State) (k : Nat) : (stripZero s k).pending = s.pending := by simp [stripZero]

@[simp] theorem zeroWake_pending (s : State) (short : Bool) : (zeroWake s short).pending = s.pending := by
  unfold zeroWake; (repeat' split) <;> simp

@[simp] theorem zeroSwath_pending (s : State) : (zeroSwath s).pending = s.pending := by
  unfold zeroSwath
  extract_lets sc x a b c d
  have hb : b.pending = s.pending := forEach_pending _ _ _ (fun s k => stripZero_pending s k)
  have hc : c.pending = s.pending := (forEach_pending _ _ _ (by intros; simp)).trans hb
  clear_value c
  have hd : d.pending = s.pending := by unfold d; rw [zeroWake_pending, State.setPair_pending, hc]
  exact hd

@[simp] theorem zeroSwathStart_pending (s : State) : (zeroSwathStart s).pending = s.pending := by simp [zeroSwathStart]

@[simp] theorem zeroShort_pending (s : State) : (zeroShort s).pending = s.pending := by simp [zeroShort]

@[simp] theorem zeroShortStart_pending (s : State) : (zeroShortStart s).pending = s.pending := by simp [zeroShortStart]

@[simp] theorem zeroDone_pending (s : State) (short : Bool) : (zeroDone s short).pending = s.pending := by simp [zeroDone]

@[simp] theorem unloadAck_pending (s : State) (k upTo : Nat) : (unloadAck s k upTo).pending = s.pending := by
  simp [unloadAck]

@[simp] theorem unloadBegin_pending (s : State) : (unloadBegin s).pending = s.pending := by simp [unloadBegin]

@[simp] theorem unloadEnd_pending (s : State) : (unloadEnd s).pending = s.pending := by
  unfold unloadEnd; dsimp only; (repeat' (first | (simp; done) | split | rw [forEach_pending] | intro))

@[simp] theorem bulkSend_pending (s : State) (k idx stamp : Nat) : (bulkSend s k idx stamp).pending = s.pending := by
  simp [bulkSend]

@[simp] theorem unloadWait_pending (s : State) (k : Nat) : (unloadWait s k).pending = s.pending := by simp [unloadWait]

@[simp] theorem unloadNext_pending (s : State) (k : Nat) : (unloadNext s k).pending = s.pending := by
  unfold unloadNext; dsimp only; (repeat' (first | (simp; done) | split | rw [forEach_pending] | intro))

@[simp] theorem scrubRow_pending (s : State) (r corrected : Nat) (bad : List Nat) : (scrubRow s r corrected bad).pending = s.pending := by
  simp [scrubRow]

@[simp] theorem rowSpared_pending (s : State) (r : Nat) : (rowSpared s r).pending = s.pending := by simp [rowSpared]

@[simp] theorem sparesGone_pending (s : State) : (sparesGone s).pending = s.pending := by simp [sparesGone]

@[simp] theorem repairRow_pending (s : State) (r : Nat) : (repairRow s r).pending = s.pending := by simp [repairRow]

@[simp] theorem cicFeed_pending (s : State) (p : Nat) (bs : List Bool) : (cicFeed s p bs).pending = s.pending := by
  simp [cicFeed]

@[simp] theorem cicClear_pending (s : State) (p : Nat) : (cicClear s p).pending = s.pending := by simp [cicClear]

@[simp] theorem detReset_pending (s : State) (n : Nat) : (detReset s n).pending = s.pending := by simp [detReset]

@[simp] theorem chainAlign_pending (s : State) (n : Nat) : (chainAlign s n).pending = s.pending := by simp [chainAlign]

@[simp] theorem countStart_pending (s : State) (n : Nat) : (countStart s n).pending = s.pending := by
  unfold countStart
  extract_lets a b c
  rw [State.mark_pending]
  show (State.setChain a n _).pending = _
  rw [State.setChain_pending]
  exact detReset_pending s n

@[simp] theorem fadeDrop_pending (s : State) (n : Nat) : (fadeDrop s n).pending = s.pending := by simp [fadeDrop]

@[simp] theorem fadeCount_pending (s : State) (n : Nat) : (fadeCount s n).pending = s.pending := by
  unfold fadeCount; (repeat' split) <;> simp

@[simp] theorem inputRestart_pending (s : State) (p : Nat) (clear : Bool) : (inputRestart s p clear).pending = s.pending := by
  simp [inputRestart]

@[simp] theorem detect_pending (s : State) (n : Nat) (x : Int) : (detect s n x).pending = s.pending := by simp [detect]

@[simp] theorem setLastOf_pending (s : State) (c w : Nat) : (setLastOf s c w).pending = s.pending := by simp [setLastOf]

@[simp] theorem ustrPush_pending (s : State) (k w : Nat) : (ustrPush s k w).pending = s.pending := by
  unfold ustrPush; (repeat' split) <;> simp

@[simp] theorem drillPush_pending (s : State) (d w : Nat) : (drillPush s d w).pending = s.pending := by simp [drillPush]

@[simp] theorem sink_pending (s : State) (d w : Nat) : (sink s d w).pending = s.pending := by simp [sink]

@[simp] theorem routeMarks_pending (s : State) (d w : Nat) : (routeMarks s d w).1.pending = s.pending := by simp [routeMarks]

@[simp] theorem routeTake_pending (s : State) (c d : Nat) : (routeTake s c d).pending = s.pending := by
  unfold routeTake; dsimp only; (repeat' split) <;> simp_all

@[simp] theorem deliver_pending (s : State) (c w : Nat) : (deliver s c w).pending = s.pending := by simp [deliver]

@[simp] theorem unsTick_pending (s : State) (n : Nat) : (unsTick s n).pending = s.pending := by simp [unsTick]

@[simp] theorem fineForm_pending (s : State) (n off : Nat) : (fineForm s n off).pending = s.pending := by simp [fineForm]

@[simp] theorem fineOutput_pending (s : State) (n : Nat) : (fineOutput s n).pending = s.pending := by
  unfold fineOutput; (repeat' split) <;> simp

@[simp] theorem glanceForm_pending (s : State) (n off : Nat) : (glanceForm s n off).pending = s.pending := by
  simp [glanceForm]

@[simp] theorem glanceOutput_pending (s : State) (n : Nat) : (glanceOutput s n).pending = s.pending := by
  unfold glanceOutput; (repeat' split) <;> simp

@[simp] theorem sentryOutput_pending (s : State) : (sentryOutput s).pending = s.pending := by simp [sentryOutput]

@[simp] theorem sentryCount_pending (s : State) : (sentryCount s).pending = s.pending := by simp [sentryCount]

@[simp] theorem sentryClear_pending (s : State) : (sentryClear s).pending = s.pending := by simp [sentryClear]

@[simp] theorem beamPop_pending (s : State) (b : Nat) : (beamPop s b).pending = s.pending := by
  unfold beamPop; dsimp only; (repeat' split) <;> simp_all

@[simp] theorem chainFade_pending (s : State) (n : Nat) (new : Inst) : (chainFade s n new).pending = s.pending := by
  simp [chainFade]

@[simp] theorem chainInput_pending (s : State) (n : Nat) : (chainInput s n).pending = s.pending := by simp [chainInput]

@[simp] theorem chainCut_pending (s : State) (n : Nat) (new : Inst) : (chainCut s n new).pending = s.pending := by
  simp [chainCut]

@[simp] theorem routeChange_pending (s : State) (d : Nat) : (routeChange s d).pending = s.pending := by simp [routeChange]

@[simp] theorem fadesEnd_pending (s : State) : (fadesEnd s).pending = s.pending := by simp [fadesEnd]

@[simp] theorem countsStart_pending (s : State) : (countsStart s).pending = s.pending := by
  unfold countsStart
  rw [sentryCount_pending, forEach_pending _ _ _ countStart_pending]
  exact forEach_pending _ _ _ (by intros; rfl)

@[simp] theorem phaseRestart_pending (s : State) : (phaseRestart s).pending = s.pending := by
  unfold phaseRestart; dsimp only; (repeat' (first | (simp; done) | split | rw [forEach_pending] | intro))

@[simp] theorem syncAct_pending (s : State) (late : Bool) : (syncAct s late).pending = s.pending := by simp [syncAct]

@[simp] theorem syncEdge_pending (s : State) : (syncEdge s).pending = s.pending := by simp [syncEdge]

@[simp] theorem sadSeed_pending (s : State) (u : Nat) (notice : Bool) : (sadSeed s u notice).pending = s.pending := by
  simp [sadSeed]

@[simp] theorem sadStart_pending (s : State) (u : Nat) : (sadStart s u).pending = s.pending := by simp [sadStart]

@[simp] theorem sadStop_pending (s : State) (u : Nat) : (sadStop s u).pending = s.pending := by simp [sadStop]

@[simp] theorem sadFollow_pending (s : State) : (sadFollow s).pending = s.pending := by simp [sadFollow]

@[simp] theorem sadSentryChange_pending (s : State) : (sadSentryChange s).pending = s.pending := by simp [sadSentryChange]

@[simp] theorem tilth_pending (s : State) (u : Nat) (l : Int) : (tilth s u l).pending = s.pending := by simp [tilth]

@[simp] theorem sadReseed_pending (s : State) (u : Nat) : (sadReseed s u).pending = s.pending := by simp [sadReseed]

@[simp] theorem seedingEnd_pending (s : State) (u : Nat) : (seedingEnd s u).pending = s.pending := by simp [seedingEnd]

@[simp] theorem sustain_pending (s : State) (u : Nat) : (sustain s u).pending = s.pending := by simp [sustain]

@[simp] theorem setCoreState_pending (s : State) (c v : Nat) : (setCoreState s c v).pending = s.pending := by
  simp [setCoreState]

@[simp] theorem stagingDrop_pending (s : State) (c : Nat) : (stagingDrop s c).pending = s.pending := by simp [stagingDrop]

@[simp] theorem coreInit_pending (s : State) (c : Nat) : (coreInit s c).pending = s.pending := by simp [coreInit]

@[simp] theorem coreStop_pending (s : State) (c st : Nat) : (coreStop s c st).pending = s.pending := by simp [coreStop]

@[simp] theorem coreGate_pending (s : State) (c : Nat) : (coreGate s c).pending = s.pending := by simp [coreGate]

@[simp] theorem dispatch_pending (s : State) (c : Nat) : (dispatch s c).pending = s.pending := by
  unfold dispatch; dsimp only; (repeat' split) <;> simp_all

@[simp] theorem release_pending (s : State) (c t : Nat) : (release s c t).pending = s.pending := by simp [release]

@[simp] theorem jobEnd_pending (s : State) (c : Nat) : (jobEnd s c).pending = s.pending := by
  unfold jobEnd; dsimp only; (repeat' split) <;> simp_all

@[simp] theorem softWrite_pending (s : State) (c m a n : Nat) : (softWrite s c m a n).pending = s.pending := by
  simp [softWrite]

@[simp] theorem progWrite_pending (s : State) (c a : Nat) (bs : List Nat) : (progWrite s c a bs).pending = s.pending := by
  simp [progWrite]

@[simp] theorem dataWrite_pending (s : State) (c a : Nat) (bs : List Nat) : (dataWrite s c a bs).pending = s.pending := by
  simp [dataWrite]

@[simp] theorem commonWrite_pending (s : State) (a : Nat) (bs : List Nat) : (commonWrite s a bs).pending = s.pending := by
  simp [commonWrite]

@[simp] theorem coreMemLost_pending (s : State) : (coreMemLost s).pending = s.pending := by
  unfold coreMemLost; dsimp only; (repeat' (first | (simp; done) | split | rw [forEach_pending] | intro))

@[simp] theorem wdoFollow_pending (s : State) : (wdoFollow s).pending = s.pending := by simp [wdoFollow]

@[simp] theorem enterState_pending (s : State) (st cause : Nat) : (enterState s st cause).pending = s.pending := by
  simp [enterState]

@[simp] theorem faultPin_pending (s : State) (b : Bool) : (faultPin s b).pending = s.pending := by simp [faultPin]

@[simp] theorem permitClear_pending (s : State) : (permitClear s).pending = s.pending := by simp [permitClear]

@[simp] theorem ackReq_pending (s : State) : (ackReq s).pending = s.pending := by simp [ackReq]

@[simp] theorem ackFail_pending (s : State) (err : Nat) : (ackFail s err).pending = s.pending := by simp [ackFail]

@[simp] theorem disarmCore_pending (s : State) : (disarmCore s).pending = s.pending := by simp [disarmCore]

@[simp] theorem armRefuse_pending (s : State) (step reason : Nat) : (armRefuse s step reason).pending = s.pending := by
  simp [armRefuse]

@[simp] theorem enrEnd_pending (s : State) (err : Nat) : (enrEnd s err).pending = s.pending := by simp [enrEnd]

@[simp] theorem State.instantly_pending (s : State) : (State.instantly s).pending = s.pending := by simp [State.instantly]

@[simp] theorem causeReplace_pending (s : State) (cause pcause : Nat) : (causeReplace s cause pcause).pending = s.pending := by
  unfold causeReplace; dsimp only; (repeat' (first | (simp; done) | split | rw [forEach_pending] | intro))

@[simp] theorem tripAgain_pending (s : State) (cause pcause : Nat) : (tripAgain s cause pcause).pending = s.pending := by
  simp [tripAgain]

@[simp] theorem trip_pending (s : State) (cause pcause : Nat) : (trip s cause pcause).pending = s.pending := by
  unfold trip; dsimp only; (repeat' (first | (simp; done) | split | rw [forEach_pending] | intro))

@[simp] theorem lasting_pending (s : State) (i : Nat) : (lasting s i).pending = s.pending := by simp [lasting]

@[simp] theorem safLog_pending (s : State) (i : Nat) (lasting : Bool) (count : Nat) : (safLog s i lasting count).pending = s.pending := by
  simp [safLog]

@[simp] theorem disarm_pending (s : State) : (disarm s).pending = s.pending := by simp [disarm]

@[simp] theorem diagCount_pending (s : State) (i t now : Nat) : (diagCount s i t now).pending = s.pending := by
  simp [diagCount]

@[simp] theorem diagEventT_pending (s : State) (i t : Nat) : (diagEventT s i t).pending = s.pending := by simp [diagEventT]

@[simp] theorem linesTake_pending (s : State) : (linesTake s).pending = s.pending := by simp [linesTake]

@[simp] theorem diagEvent_pending (s : State) (i : Nat) : (diagEvent s i).pending = s.pending := by simp [diagEvent]

@[simp] theorem faultDepend_pending (s : State) (c : Nat) : (faultDepend s c).pending = s.pending := by simp [faultDepend]

@[simp] theorem scareHold_pending (s : State) : (scareHold s).pending = s.pending := by simp [scareHold]

@[simp] theorem scareEcc_pending (s : State) : (scareEcc s).pending = s.pending := by simp [scareEcc]

@[simp] theorem coreFault_pending (s : State) (c code : Nat) : (coreFault s c code).pending = s.pending := by
  simp [coreFault]

@[simp] theorem budgetFault_pending (s : State) (c t : Nat) : (budgetFault s c t).pending = s.pending := by
  simp [budgetFault]

@[simp] theorem pduSend_pending (s : State) (typ kind slot inp score : Nat) : (pduSend s typ kind slot inp score).pending = s.pending := by
  simp [pduSend]

@[simp] theorem stopLog_pending (s : State) : (stopLog s).pending = s.pending := by simp [stopLog]

@[simp] theorem stopConfirm_pending (s : State) (slot inp score : Nat) : (stopConfirm s slot inp score).pending = s.pending := by
  simp [stopConfirm]

@[simp] theorem stopTake_pending (s : State) (slot inp score : Nat) : (stopTake s slot inp score).pending = s.pending := by
  simp [stopTake]

@[simp] theorem pmbQueue_pending (s : State) (sent : Bool) (cmd data : Nat) : (pmbQueue s sent cmd data).pending = s.pending := by
  simp [pmbQueue]

@[simp] theorem voltSet_pending (s : State) (l mv : Nat) : (voltSet s l mv).pending = s.pending := by simp [voltSet]

@[simp] theorem freezeShow_pending (s : State) (l : Nat) (f : Fld) : (freezeShow s l f).pending = s.pending := by
  simp [freezeShow]

@[simp] theorem monFollow_pending (s : State) : (monFollow s).pending = s.pending := by simp [monFollow]

@[simp] theorem coreTarget_pending (s : State) : (coreTarget s).pending = s.pending := by simp [coreTarget]

@[simp] theorem monSentry_pending (s : State) : (monSentry s).pending = s.pending := by simp [monSentry]

@[simp] theorem monWake_pending (s : State) (fc : Nat) : (monWake s fc).pending = s.pending := by
  unfold monWake; dsimp only; (repeat' split) <;> simp_all

@[simp] theorem manClear_pending (s : State) : (manClear s).pending = s.pending := by simp [manClear]

@[simp] theorem limitNow_pending (s : State) (l : Nat) : (limitNow s l).pending = s.pending := by simp [limitNow]

@[simp] theorem ledgerAdd_pending (s : State) (x e c : Nat) : (ledgerAdd s x e c).pending = s.pending := by simp [ledgerAdd]

@[simp] theorem ledgerTake_pending (s : State) (x e : Nat) : (ledgerTake s x e).pending = s.pending := by simp [ledgerTake]

@[simp] theorem ledgersTake_pending (s : State) (x : Nat) : (ledgersTake s x).pending = s.pending := by simp [ledgersTake]

@[simp] theorem adcQueueShow_pending (s : State) (x : Nat) : (adcQueueShow s x).pending = s.pending := by simp [adcQueueShow]

@[simp] theorem adcQueueAdd_pending (s : State) (x w0 w1 : Nat) : (adcQueueAdd s x w0 w1).pending = s.pending := by
  simp [adcQueueAdd]

@[simp] theorem adcQueuePop_pending (s : State) (x n : Nat) : (adcQueuePop s x n).pending = s.pending := by
  simp [adcQueuePop]

@[simp] theorem adcWindow_pending (s : State) (x c : Nat) : (adcWindow s x c).pending = s.pending := by simp [adcWindow]

@[simp] theorem adcWindowReset_pending (s : State) (x : Nat) : (adcWindowReset s x).pending = s.pending := by
  simp [adcWindowReset]

@[simp] theorem adcBegin_pending (s : State) (x : Nat) (k : ConvKind) (e : Nat) : (adcBegin s x k e).pending = s.pending := by
  simp [adcBegin]

@[simp] theorem pairLose_pending (s : State) : (pairLose s).pending = s.pending := by simp [pairLose]

@[simp] theorem adcAbort_pending (s : State) (x : Nat) : (adcAbort s x).pending = s.pending := by
  unfold adcAbort; (repeat' split) <;> simp

@[simp] theorem scanEnd_pending (s : State) (x : Nat) : (scanEnd s x).pending = s.pending := by simp [scanEnd]

@[simp] theorem pairBegin_pending (s : State) : (pairBegin s).pending = s.pending := by simp [pairBegin]

@[simp] theorem scanNext_pending (s : State) (x : Nat) : (scanNext s x).pending = s.pending := by
  unfold scanNext; (repeat' split) <;> simp

@[simp] theorem scanBegin_pending (s : State) (x : Nat) : (scanBegin s x).pending = s.pending := by simp [scanBegin]

@[simp] theorem adcChoose_pending (s : State) (x : Nat) : (adcChoose s x).pending = s.pending := by
  unfold adcChoose; dsimp only; (repeat' split) <;> simp_all

@[simp] theorem adcKick_pending (s : State) (x : Nat) : (adcKick s x).pending = s.pending := by simp [adcKick]

@[simp] theorem adcKicks_pending (s : State) : (adcKicks s).pending = s.pending := by simp [adcKicks]

@[simp] theorem adcDeliver_pending (s : State) (x : Nat) (k : ConvKind) (e raw c tick : Nat) : (adcDeliver s x k e raw c tick).pending = s.pending := by
  simp [adcDeliver]

@[simp] theorem pairHalf_pending (s : State) (x c : Nat) : (pairHalf s x c).pending = s.pending := by
  unfold pairHalf; dsimp only; (repeat' split) <;> simp_all

@[simp] theorem selfEnd_pending (s : State) : (selfEnd s).1.pending = s.pending := by
  unfold selfEnd; dsimp only; (repeat' split) <;> simp_all

@[simp] theorem selfStart_pending (s : State) : (selfStart s).pending = s.pending := by simp [selfStart]

@[simp] theorem sysEnd_pending (s : State) (x err : Nat) : (sysEnd s x err).pending = s.pending := by simp [sysEnd]

@[simp] theorem sysAbort_pending (s : State) (x : Nat) : (sysAbort s x).pending = s.pending := by simp [sysAbort]

@[simp] theorem calResult_pending (s : State) (x raw : Nat) : (calResult s x raw).1.pending = s.pending := by
  unfold calResult; dsimp only; (repeat' split) <;> simp_all

@[simp] theorem sysResult_pending (s : State) (x raw : Nat) : (sysResult s x raw).pending = s.pending := by
  unfold sysResult; (repeat' split) <;> simp

@[simp] theorem scanResult_pending (s : State) (x : Nat) (k : ConvKind) (e raw tick : Nat) : (scanResult s x k e raw tick).pending = s.pending := by
  unfold scanResult; dsimp only; (repeat' split) <;> simp_all

@[simp] theorem urgentResult_pending (s : State) (x e raw tick : Nat) (ref : Bool) : (urgentResult s x e raw tick ref).pending = s.pending := by
  simp [urgentResult]

@[simp] theorem convEnd_pending (s : State) (x raw : Nat) : (convEnd s x raw).1.pending = s.pending := by
  unfold convEnd; (repeat' split) <;> simp

@[simp] theorem adcHold_pending (s : State) : (adcHold s).pending = s.pending := by simp [adcHold]

@[simp] theorem refChange_pending (s : State) : (refChange s).pending = s.pending := by simp [refChange]

@[simp] theorem adcSentry_pending (s : State) : (adcSentry s).pending = s.pending := by simp [adcSentry]

@[simp] theorem hgOverres_pending (s : State) (x : Nat) : (hgOverres s x).pending = s.pending := by simp [hgOverres]

@[simp] theorem hgRoutes_pending (s : State) : (hgRoutes s).pending = s.pending := by
  unfold hgRoutes
  extract_lets r plat ring reached
  simp only [State.put_pending, State.mark_pending]
  refine forEach_pending _ _ _ ?_
  intros; split <;> simp

@[simp] theorem hgHello_pending (s : State) (x g : Nat) : (hgHello s x g).pending = s.pending := by simp [hgHello]

@[simp] theorem hgKeysDrop_pending (s : State) (x : Nat) : (hgKeysDrop s x).pending = s.pending := by simp [hgKeysDrop]

@[simp] theorem nextSeq_pending (s : State) : (nextSeq s).pending = s.pending := by simp [nextSeq]

@[simp] theorem linkReset_pending (s : State) (x : Nat) : (linkReset s x).pending = s.pending := by simp [linkReset]

@[simp] theorem hgDownLevel_pending (s : State) (x : Nat) : (hgDownLevel s x).pending = s.pending := by simp [hgDownLevel]

@[simp] theorem hgResend_pending (s : State) (x : Nat) : (hgResend s x).pending = s.pending := by
  unfold hgResend; dsimp only; (repeat' (first | (simp; done) | split | rw [forEach_pending] | intro))

@[simp] theorem hgTrain_pending (s : State) (x : Nat) (keep : Bool) : (hgTrain s x keep).pending = s.pending := by
  simp [hgTrain]

@[simp] theorem hgStop_pending (s : State) (x st : Nat) : (hgStop s x st).pending = s.pending := by simp [hgStop]

@[simp] theorem hgDown_pending (s : State) (x : Nat) : (hgDown s x).pending = s.pending := by simp [hgDown]

@[simp] theorem hgFail_pending (s : State) (x : Nat) : (hgFail s x).pending = s.pending := by simp [hgFail]

@[simp] theorem hgRetrain_pending (s : State) (x : Nat) : (hgRetrain s x).pending = s.pending := by simp [hgRetrain]

@[simp] theorem hgStart_pending (s : State) (x : Nat) : (hgStart s x).pending = s.pending := by simp [hgStart]

@[simp] theorem hgDisable_pending (s : State) (x : Nat) : (hgDisable s x).pending = s.pending := by simp [hgDisable]

@[simp] theorem hgDegrade_pending (s : State) (x tx rx cause : Nat) : (hgDegrade s x tx rx cause).pending = s.pending := by
  simp [hgDegrade]

@[simp] theorem hgLanesChange_pending (s : State) (x old : Nat) : (hgLanesChange s x old).pending = s.pending := by
  simp [hgLanesChange]

@[simp] theorem hgKeepLane_pending (s : State) : (hgKeepLane s).pending = s.pending := by simp [hgKeepLane]

@[simp] theorem hgQuarantine_pending (s : State) (x st : Nat) : (hgQuarantine s x st).pending = s.pending := by
  unfold hgQuarantine
  rw [hgRoutes_pending, State.level_pending, State.put_pending, hgStop_pending, linkReset_pending]

@[simp] theorem hgQuarEnd_pending (s : State) (x : Nat) : (hgQuarEnd s x).pending = s.pending := by simp [hgQuarEnd]

@[simp] theorem macFail_pending (s : State) (x : Nat) : (macFail s x).pending = s.pending := by simp [macFail]

@[simp] theorem hgError_pending (s : State) (x cause : Nat) : (hgError s x cause).pending = s.pending := by simp [hgError]

@[simp] theorem hgSentry_pending (s : State) : (hgSentry s).pending = s.pending := by simp [hgSentry]

@[simp] theorem hgWake_pending (s : State) : (hgWake s).pending = s.pending := by simp [hgWake]

@[simp] theorem storeWords_pending (s : State) (ws : List (Nat × Word)) : (storeWords s ws).pending = s.pending := by
  unfold storeWords; (repeat' (first | (simp; done) | split | rw [forEach_pending] | intro))

@[simp] theorem candidate_pending (s : State) (ws : List (Nat × Word)) : (candidate s ws).pending = s.pending := by
  unfold candidate; (repeat' split) <;> simp

@[simp] theorem micSet_pending (s : State) (p st : Nat) : (micSet s p st).pending = s.pending := by simp [micSet]

@[simp] theorem setSettle_pending (s : State) (p : Nat) (k : Settle) : (setSettle s p k).pending = s.pending := by
  simp [setSettle]

@[simp] theorem inputUnsettled_pending (s : State) (p : Nat) : (inputUnsettled s p).pending = s.pending :=
  forEach_pending _ _ _ (by intros; simp)

@[simp] theorem settleStart_pending (s : State) (p : Nat) (k : Settle) : (settleStart s p k).pending = s.pending := by
  simp [settleStart]

@[simp] theorem settleEnd_pending (s : State) (p : Nat) (k : Settle) : (settleEnd s p k).pending = s.pending := by
  simp [settleEnd]

@[simp] theorem setDiv_pending (s : State) (g d : Nat) : (setDiv s g d).pending = s.pending := by simp [setDiv]

@[simp] theorem groupAnchor_pending (s : State) (g : Nat) : (groupAnchor s g).pending = s.pending := by
  unfold groupAnchor; dsimp only; (repeat' (first | (simp; done) | split | rw [forEach_pending] | intro))

@[simp] theorem groupUp_pending (s : State) (g : Nat) : (groupUp s g).pending = s.pending := by simp [groupUp]

@[simp] theorem groupStop_pending (s : State) (g : Nat) : (groupStop s g).pending = s.pending := by simp [groupStop]

@[simp] theorem groupDown_pending (s : State) (g : Nat) : (groupDown s g).pending = s.pending := by simp [groupDown]

@[simp] theorem groupTmc_pending (s : State) (g : Nat) : (groupTmc s g).pending = s.pending := by simp [groupTmc]

@[simp] theorem groupMode_pending (s : State) (g d : Nat) : (groupMode s g d).pending = s.pending := by simp [groupMode]

@[simp] theorem groupsFollow_pending (s : State) : (groupsFollow s).pending = s.pending := by simp [groupsFollow]

@[simp] theorem micSentry_pending (s : State) : (micSentry s).pending = s.pending := by simp [micSentry]

@[simp] theorem micWake_pending (s : State) : (micWake s).pending = s.pending := by simp [micWake]

@[simp] theorem sentryFailover_pending (s : State) : (sentryFailover s).pending = s.pending := by simp [sentryFailover]

@[simp] theorem sentryFollow_pending (s : State) : (sentryFollow s).pending = s.pending := by simp [sentryFollow]

@[simp] theorem calAbort_pending (s : State) : (calAbort s).pending = s.pending := by
  unfold calAbort; (repeat' split) <;> simp

@[simp] theorem attention_pending (s : State) (u : Nat) : (attention s u).pending = s.pending := by simp [attention]

@[simp] theorem preStart_pending (s : State) : (preStart s).pending = s.pending := by simp [preStart]

@[simp] theorem standDown_pending (s : State) : (standDown s).pending = s.pending := by simp [standDown]

@[simp] theorem preConfirm_pending (s : State) : (preConfirm s).pending = s.pending := by simp [preConfirm]

@[simp] theorem partnerPre_pending (s : State) (p : Nat) (b : Bool) : (partnerPre s p b).pending = s.pending := by
  simp [partnerPre]

@[simp] theorem State.setPairSt_pending (s : State) (p : PairSt) : (State.setPairSt s p).pending = s.pending := by
  simp [State.setPairSt]

@[simp] theorem pairsDrop_pending (s : State) (f : Nat → Nat → Bool) : (pairsDrop s f).pending = s.pending := by
  simp [pairsDrop]

@[simp] theorem drlRestart_pending (s : State) (n : Nat) : (drlRestart s n).pending = s.pending := by simp [drlRestart]

@[simp] theorem drlSentry_pending (s : State) : (drlSentry s).pending = s.pending := by simp [drlSentry]

@[simp] theorem drlWake_pending (s : State) : (drlWake s).pending = s.pending := by simp [drlWake]

@[simp] theorem transBegin_pending (s : State) (target cause : Nat) (waits : List TransWait) : (transBegin s target cause waits).pending = s.pending := by
  simp [transBegin]

@[simp] theorem transDone_pending (s : State) (w : TransWait) : (transDone s w).pending = s.pending := by
  unfold transDone; (repeat' split) <;> simp

@[simp] theorem forwardFollow_pending (s : State) : (forwardFollow s).pending = s.pending := by simp [forwardFollow]

@[simp] theorem swapAbort_pending (s : State) (err : Nat) : (swapAbort s err).pending = s.pending := by simp [swapAbort]

@[simp] theorem svcEnd_pending (s : State) (err : Nat) : (svcEnd s err).pending = s.pending := by simp [svcEnd]

@[simp] theorem sentryStep1_pending (s : State) : (sentryStep1 s).pending = s.pending := by simp [sentryStep1]

@[simp] theorem hgLine_pending (s : State) (x : Nat) (l : List Nat) : (hgLine s x l).pending = s.pending := by simp [hgLine]

@[simp] theorem msgOnLine_pending (s : State) (m : Msg) : (msgOnLine s m).1.pending = s.pending := by
  unfold msgOnLine; dsimp only; (repeat' split) <;> simp_all

@[simp] theorem keyedFollow_pending (s : State) (x : Nat) : (keyedFollow s x).pending = s.pending := by simp [keyedFollow]

@[simp] theorem authSend_pending (s : State) (x : Nat) (m : Msg) : (authSend s x m).1.pending = s.pending := by
  unfold authSend; (repeat' split) <;> simp

@[simp] theorem hgSendFrame_pending (s : State) (x : Nat) (e : Nat × Msg) (pay : Bool) : (hgSendFrame s x e pay).pending = s.pending := by
  simp [hgSendFrame]

@[simp] theorem standDownSend_pending (s : State) (x : Nat) : (standDownSend s x).pending = s.pending := by
  simp [standDownSend]

@[simp] theorem standDownsSend_pending (s : State) : (standDownsSend s).pending = s.pending := by
  unfold standDownsSend; dsimp only; (repeat' (first | (simp; done) | split | rw [forEach_pending] | intro))

@[simp] theorem micStop_pending (s : State) : (micStop s).pending = s.pending := by simp [micStop]

@[simp] theorem sentryStep2_pending (s : State) : (sentryStep2 s).pending = s.pending := by simp [sentryStep2]

@[simp] theorem sentryEntry_pending (s : State) (cause : Nat) : (sentryEntry s cause).pending = s.pending := by
  simp [sentryEntry]

@[simp] theorem sentryArrive_pending (s : State) (cause : Nat) : (sentryArrive s cause).pending = s.pending := by
  simp [sentryArrive]

@[simp] theorem exitStart_pending (s : State) (target cause : Nat) : (exitStart s target cause).pending = s.pending := by
  simp [exitStart]

@[simp] theorem requestState_pending (s : State) (target cause : Nat) : (requestState s target cause).pending = s.pending := by
  simp [requestState]

@[simp] theorem stepEnd_pending (s : State) (n : Nat) : (stepEnd s n).pending = s.pending := by
  unfold stepEnd; (repeat' split) <;> simp

@[simp] theorem stepDrop_pending (s : State) (l : List Nat) : (stepDrop s l).pending = s.pending := by
  unfold stepDrop; (repeat' split) <;> simp

@[simp] theorem failRecord_pending (s : State) (r : Nat) : (failRecord s r).pending = s.pending := by simp [failRecord]

@[simp] theorem startFail_pending (s : State) (r : Nat) : (startFail s r).pending = s.pending := by
  unfold startFail; (repeat' split) <;> simp

@[simp] theorem firstEntry_pending (s : State) : (firstEntry s).pending = s.pending := by simp [firstEntry]

@[simp] theorem awakeArrive_pending (s : State) : (awakeArrive s).pending = s.pending := by simp [awakeArrive]

@[simp] theorem selfOutcome_pending (s : State) (good : Bool) : (selfOutcome s good).pending = s.pending := by
  simp [selfOutcome]

@[simp] theorem adcTrig_pending (s : State) (x : Nat) : (adcTrig s x).pending = s.pending := by simp [adcTrig]

@[simp] theorem adcUrgent_pending (s : State) (x e : Nat) : (adcUrgent s x e).pending = s.pending := by simp [adcUrgent]

@[simp] theorem adcSelf_pending (s : State) : (adcSelf s).pending = s.pending := by simp [adcSelf]

@[simp] theorem sysCompute_pending (s : State) (x e : Nat) : (sysCompute s x e).pending = s.pending := by simp [sysCompute]

@[simp] theorem sysStep_pending (s : State) (x step : Nat) : (sysStep s x step).pending = s.pending := by simp [sysStep]

@[simp] theorem sysWrite_pending (s : State) (x e step : Nat) : (sysWrite s x e step).pending = s.pending := by
  simp [sysWrite]

@[simp] theorem adcTake_pending (s : State) (x mask : Nat) : (adcTake s x mask).pending = s.pending := by simp [adcTake]

@[simp] theorem refWrite_pending (s : State) (sel : Nat) (refen : Bool) (vnom : Nat) : (refWrite s sel refen vnom).pending = s.pending := by
  simp [refWrite]

@[simp] theorem refLossAbort_pending (s : State) (x : Nat) : (refLossAbort s x).pending = s.pending := by
  unfold refLossAbort; (repeat' split) <;> simp

@[simp] theorem wakeGo_pending (s : State) : (wakeGo s).pending = s.pending := by simp [wakeGo]

@[simp] theorem wakeRecord_pending (s : State) (src seed devp : Nat) : (wakeRecord s src seed devp).pending = s.pending := by
  simp [wakeRecord]

@[simp] theorem wakeSend_pending (s : State) (src : Nat) (body : List Nat) : (wakeSend s src body).pending = s.pending := by
  simp [wakeSend]

@[simp] theorem wakeResend_pending (s : State) (src : Nat) (old new : List Nat) : (wakeResend s src old new).pending = s.pending := by
  unfold wakeResend; dsimp only; (repeat' (first | (simp; done) | split | rw [forEach_pending] | intro))

@[simp] theorem wakeMerge_pending (s : State) (sent : Option (List Nat)) (src seed devp mark : Nat) : (wakeMerge s sent src seed devp mark).pending = s.pending := by
  unfold wakeMerge; (repeat' split) <;> simp

@[simp] theorem standUndo_pending (s : State) : (standUndo s).pending = s.pending := by
  unfold standUndo; dsimp only; (repeat' (first | (simp; done) | split | rw [forEach_pending] | intro))

@[simp] theorem qualifiedWake_pending (s : State) (src seed devp mark : Nat) : (qualifiedWake s src seed devp mark).pending = s.pending := by
  unfold qualifiedWake; dsimp only; (repeat' (first | (simp; done) | split | rw [forEach_pending] | intro))

@[simp] theorem wakesDeliver_pending (s : State) : (wakesDeliver s).pending = s.pending := by simp [wakesDeliver]

@[simp] theorem segmentTake_pending (s : State) (e : EnrolSt) (a b : Nat) : (segmentTake s e a b).pending = s.pending := by
  simp [segmentTake]

@[simp] theorem segmentCut_pending (s : State) : (segmentCut s).pending = s.pending := by
  unfold segmentCut; (repeat' split) <;> simp

@[simp] theorem enrolHear_pending (s : State) (u : Nat) (onset above ended : Bool) : (enrolHear s u onset above ended).pending = s.pending := by
  unfold enrolHear; (repeat' split) <;> simp

@[simp] theorem softDrop_pending (s : State) (c m a n : Nat) : (softDrop s c m a n).pending = s.pending := by
  simp [softDrop]

@[simp] theorem softMeet_pending (s : State) (c m a n : Nat) : (softMeet s c m a n).pending = s.pending := by
  simp [softMeet]

@[simp] theorem drainEntry_pending (s : State) (c : Nat) (e : Nat × List Nat) : (drainEntry s c e).pending = s.pending := by
  simp [drainEntry]

@[simp] theorem drainN_pending (s : State) (c n : Nat) : (drainN s c n).pending = s.pending := by simp [drainN]

@[simp] theorem drainAll_pending (s : State) (c : Nat) : (drainAll s c).pending = s.pending := by simp [drainAll]

@[simp] theorem regsFree_pending (s : State) (c : Nat) : (regsFree s c).pending = s.pending := by
  unfold regsFree
  rw [State.setCore_pending, State.fresh_pending]
  refine (foldl_snd_pending _ _ _ (by intros; rfl)).trans ?_
  refine (foldl_snd_pending _ _ _ (by intros; rfl)).trans ?_
  exact foldl_snd_pending _ _ _ (by intros; rfl)

@[simp] theorem abandon_pending (s : State) (c : Nat) : (abandon s c).pending = s.pending := by simp [abandon]

@[simp] theorem coreHalt_pending (s : State) (c : Nat) : (coreHalt s c).pending = s.pending := by simp [coreHalt]

@[simp] theorem boundary_pending (s : State) (c : Nat) : (boundary s c).pending = s.pending := by simp [boundary]

@[simp] theorem faultEnter_pending (s : State) (c code : Nat) : (faultEnter s c code).pending = s.pending := by
  simp [faultEnter]

@[simp] theorem exception_pending (s : State) (c : Nat) (x : Cause) : (exception s c x).pending = s.pending := by
  simp [exception]

@[simp] theorem exReturn_pending (s : State) (c : Nat) : (exReturn s c).pending = s.pending := by
  unfold exReturn; dsimp only; (repeat' split) <;> simp_all

@[simp] theorem bundleDone_pending (s : State) (c : Nat) (modeWrite : Bool) : (bundleDone s c modeWrite).pending = s.pending := by
  unfold bundleDone; dsimp only; (repeat' split) <;> simp_all

@[simp] theorem progMeet_pending (s : State) (c a n : Nat) : (progMeet s c a n).pending = s.pending := by simp [progMeet]

theorem wordIn_pending (s : State) (c : Nat) (e : Bool) (i : Act) (f : State → Bundle → State)
    (h : ∀ t b, t.pending = s.pending → (f t b).pending = s.pending) : (wordIn s c e i f).pending = s.pending := by
  unfold wordIn
  split
  · extract_lets k b t
    split
    · exact exception_pending _ _ _
    · exact h _ _ (progMeet_pending _ _ _ _)
  · rfl

@[simp] theorem issue_pending (s : State) (c : Nat) (e : Bool) (i : Act) : (issue s c e i).pending = s.pending := by
  unfold issue
  refine wordIn_pending _ _ _ _ _ ?_
  intro t b ht
  extract_lets k u
  have hu : u.pending = s.pending := ht
  split
  · split
    · rw [exception_pending, hu]
    · rw [bundleDone_pending, hu]
  · exact hu

theorem issueX_pending (s : State) (c : Nat) (e ok : Bool) (w : List Nat) (f : State → State)
    (h : ∀ s, (f s).pending = s.pending) : (issueX s c e ok w f).pending = s.pending := by
  unfold issueX
  refine wordIn_pending _ _ _ _ _ ?_
  intro t b ht
  extract_lets k u
  have hu : u.pending = s.pending := ht
  split
  · split
    · rw [exception_pending, hu]
    · rw [h, hu]
  · exact hu

@[simp] theorem regsPut_pending (s : State) (c : Nat) (f : CoreRegs → CoreRegs) : (regsPut s c f).pending = s.pending := by
  simp [regsPut]

@[simp] theorem State.setSector_pending (s : State) (x : Sector) : (State.setSector s x).pending = s.pending := by
  simp [State.setSector]

@[simp] theorem nvmShow_pending (s : State) : (nvmShow s).pending = s.pending := by simp [nvmShow]

@[simp] theorem programmed_pending (s : State) (n : Nat) : (programmed s n).pending = s.pending := by simp [programmed]

@[simp] theorem anchorWrite_pending (s : State) : (anchorWrite s).pending = s.pending := by simp [anchorWrite]

@[simp] theorem sectorRetire_pending (s : State) (n : Nat) : (sectorRetire s n).pending = s.pending := by simp [sectorRetire]

@[simp] theorem sectorErase_pending (s : State) (n : Nat) : (sectorErase s n).pending = s.pending := by simp [sectorErase]

theorem fragPut_pending {s t : State} {f : Frag} (h : fragPut s f = some t) : t.pending = s.pending := by
  unfold fragPut at h
  dsimp only at h
  split at h
  · cases h; simp
  · split at h <;> cases h; simp

theorem fragsPut_pending (l : List Frag) {s t : State} (h : fragsPut l s = some t) : t.pending = s.pending := by
  induction l generalizing s with
  | nil => cases h; rfl
  | cons f r ih =>
    unfold fragsPut at h
    split at h
    · rename_i hf; exact (ih h).trans (fragPut_pending hf)
    · cases h

@[simp] theorem recPut_pending (s : State) (typ id : Nat) (bs : List Nat) : (recPut s typ id bs).1.pending = s.pending := by
  unfold recPut
  split
  · dsimp only
    split
    · rename_i h; simp [fragsPut_pending _ h]
    · simp
  · simp

theorem moveLive_pending {s t : State} {n : Nat} (h : moveLive s n = some t) : t.pending = s.pending := by
  unfold moveLive at h
  split at h
  · rename_i hp
    have := fragsPut_pending _ hp
    cases h
    simpa using this
  · cases h

@[simp] theorem bootName_pending (s : State) (kind slot : Nat) : (bootName s kind slot).1.pending = s.pending := by
  simp [bootName]

@[simp] theorem sectionLoad_pending (s : State) (half : Nat) (e : Nat × Nat × Nat × List Nat × Nat) : (sectionLoad s half e).pending = s.pending := by
  simp [sectionLoad]

@[simp] theorem furrowLoad_pending (s : State) (img : Image) (slot : Nat) : (furrowLoad s img slot).pending = s.pending := by
  simp [furrowLoad]

@[simp] theorem sentryLoad_pending (s : State) (img : Image) (slot : Nat) : (sentryLoad s img slot).pending = s.pending := by
  simp [sentryLoad]

@[simp] theorem scareLoad_pending (s : State) (img : Image) (slot : Nat) : (scareLoad s img slot).pending = s.pending := by
  unfold scareLoad; dsimp only; (repeat' (first | (simp; done) | split | rw [forEach_pending] | intro))

@[simp] theorem budgetMax_pending (s : State) (c t : Nat) : (budgetMax s c t).pending = s.pending := by simp [budgetMax]

@[simp] theorem patrolBad_pending (s : State) (c m w : Nat) : (patrolBad s c m w).pending = s.pending := by simp [patrolBad]

@[simp] theorem coreRunWrite_pending (s : State) (c : Nat) (b : Bool) : (coreRunWrite s c b).pending = s.pending := by
  simp [coreRunWrite]

@[simp] theorem coreStep_pending (s : State) (c : Nat) : (coreStep s c).pending = s.pending := by simp [coreStep]

@[simp] theorem coreRetired_pending (s : State) (c : Nat) : (coreRetired s c).pending = s.pending := by simp [coreRetired]

@[simp] theorem retireMap_pending (s : State) (c : Nat) : (retireMap s c).pending = s.pending := by simp [retireMap]

@[simp] theorem sentRunWrite_pending (s : State) (b : Bool) : (sentRunWrite s b).pending = s.pending := by
  simp [sentRunWrite]

@[simp] theorem swapStart_pending (s : State) : (swapStart s).pending = s.pending := by simp [swapStart]

@[simp] theorem swapSections_pending (s : State) (img : Image) : (swapSections s img).pending = s.pending := by
  simp [swapSections]

@[simp] theorem eqSet_pending (s : State) (x l : Nat) (v : EqVal) : (eqSet s x l v).pending = s.pending := by simp [eqSet]

@[simp] theorem peerSet_pending (s : State) (x : Nat) (c3 : Nat) : (peerSet s x c3).pending = s.pending := by simp [peerSet]

@[simp] theorem lanesAgree_pending (s : State) (x tx rx : Nat) : (lanesAgree s x tx rx).pending = s.pending := by
  simp [lanesAgree]

@[simp] theorem syncLatCheck_pending (s : State) : (syncLatCheck s).pending = s.pending := by simp [syncLatCheck]

@[simp] theorem codeErrors_pending (s : State) (x e0 e1 : Nat) : (codeErrors s x e0 e1).pending = s.pending := by
  simp [codeErrors]

@[simp] theorem lreqTake_pending (s : State) (x lreq : Nat) : (lreqTake s x lreq).pending = s.pending := by
  unfold lreqTake; dsimp only; (repeat' split) <;> simp_all

@[simp] theorem hgProtoReset_pending (s : State) (x : Nat) : (hgProtoReset s x).pending = s.pending := by simp [hgProtoReset]

@[simp] theorem statusTake_pending (s : State) (x : Nat) (pl : List Nat) : (statusTake s x pl).pending = s.pending := by
  simp [statusTake]

@[simp] theorem laneFail_pending (s : State) (x l : Nat) : (laneFail s x l).pending = s.pending := by simp [laneFail]

@[simp] theorem hgRelease_pending (s : State) (x : Nat) : (hgRelease s x).pending = s.pending := by simp [hgRelease]

@[simp] theorem hgRekey_pending (s : State) (x : Nat) : (hgRekey s x).pending = s.pending := by simp [hgRekey]

@[simp] theorem authTake_pending (s : State) (x ctr : Nat) (next : Bool) : (authTake s x ctr next).pending = s.pending := by
  simp [authTake]

@[simp] theorem slotFree_pending (s : State) (x vc : Nat) : (slotFree s x vc).pending = s.pending := by simp [slotFree]

@[simp] theorem relayOut_pending (s : State) (y vc : Nat) (r : RxMsg) : (relayOut s y vc r).pending = s.pending := by
  simp [relayOut]

theorem relayStep_pending (x : Nat) (a : State × List Nat) (r : RxMsg) : (relayStep x a r).1.pending = a.1.pending := by
  unfold relayStep
  dsimp only
  split
  · rfl
  · split
    · split <;> simp
    · split
      · rfl
      · split <;> simp

@[simp] theorem relayPump_pending (s : State) : (relayPump s).pending = s.pending := by
  unfold relayPump
  refine forEach_pending _ _ _ ?_
  intro s x
  refine (foldl_fst_pending _ _ _ (relayStep_pending x)).trans ?_
  rfl

@[simp] theorem msgRoute_pending (s : State) (x vc : Nat) (m : Msg) : (msgRoute s x vc m).pending = s.pending := by
  simp [msgRoute]

@[simp] theorem msgTake_pending (s : State) (x vc : Nat) (pl : List Nat) : (msgTake s x vc pl).pending = s.pending := by
  unfold msgTake; (repeat' split) <;> simp

@[simp] theorem nakDue_pending (s : State) (x : Nat) : (nakDue s x).pending = s.pending := by simp [nakDue]

@[simp] theorem dataTake_pending (s : State) (x vc seq : Nat) (pl : List Nat) : (dataTake s x vc seq pl).pending = s.pending := by
  simp [dataTake]

@[simp] theorem hgResendFrame_pending (s : State) (x : Nat) (f : TxFrame) : (hgResendFrame s x f).pending = s.pending := by
  simp [hgResendFrame]

theorem msgOwn_pending {s : State} {x typ : Nat} {r : RxMsg × State} (h : msgOwn s x typ = some r) :
    r.2.pending = s.pending := by
  unfold msgOwn at h
  dsimp only at h
  split at h
  · cases h
  · split at h
    · cases h
    · split at h <;> cases h <;> simp

@[simp] theorem frameAt_pending (s : State) (t : Nat) : (frameAt s t).2.pending = s.pending := by
  unfold frameAt; dsimp only; (repeat' split) <;> simp_all

@[simp] theorem noticeSend_pending (s : State) : (noticeSend s).pending = s.pending := by simp [noticeSend]

@[simp] theorem keyDerive_pending (s : State) (x : Nat) : (keyDerive s x).pending = s.pending := by
  unfold keyDerive; (repeat' split) <;> simp

@[simp] theorem liveEvent_pending (s : State) : (liveEvent s).pending = s.pending := by simp [liveEvent]

@[simp] theorem remapTo_pending (s : State) (n q : Nat) (told : Bool) : (remapTo s n q told).pending = s.pending := by
  simp [remapTo]

@[simp] theorem noSpare_pending (s : State) (n : Nat) (told : Bool) : (noSpare s n told).pending = s.pending := by
  simp [noSpare]

@[simp] theorem remapOne_pending (old : List RemapSt) (s : State) (e : Nat × Nat) : (remapOne old s e).pending = s.pending := by
  unfold remapOne; dsimp only; (repeat' (first | (simp; done) | split | rw [forEach_pending] | intro))

@[simp] theorem remapNow_pending (s : State) (p : Nat) : (remapNow s p).pending = s.pending := by
  unfold remapNow
  split
  · rfl
  · extract_lets old back l
    have hb : back.pending = s.pending := forEach_pending _ _ _ (by intros; split <;> simp)
    exact (forEach_pending _ _ _ (fun s e => remapOne_pending old s e)).trans hb

@[simp] theorem autoSpare_pending (s : State) (p : Nat) : (autoSpare s p).pending = s.pending := by simp [autoSpare]

@[simp] theorem remapsWaiting_pending (s : State) : (remapsWaiting s).pending = s.pending := by simp [remapsWaiting]

@[simp] theorem calTargetLost_pending (s : State) (p : Nat) : (calTargetLost s p).pending = s.pending := by
  unfold calTargetLost; (repeat' split) <;> simp

@[simp] theorem inputFault_pending (s : State) (p : Nat) : (inputFault s p).pending = s.pending := by simp [inputFault]

@[simp] theorem livenessDiag_pending (s0 s : State) (p i : Nat) : (livenessDiag s0 s p i).pending = s.pending := by
  simp [livenessDiag]

@[simp] theorem latchDrop_pending (s : State) (p : Nat) : (latchDrop s p).pending = s.pending := by
  unfold latchDrop; dsimp only; (repeat' split) <;> simp_all

@[simp] theorem latchClr_pending (s : State) (p : Nat) : (latchClr s p).pending = s.pending := by simp [latchClr]

@[simp] theorem step10_pending (s : State) : (step10 s).pending = s.pending := by simp [step10]

@[simp] theorem powerCycle_pending (s : State) (g : Nat) : (powerCycle s g).pending = s.pending := by
  unfold powerCycle
  split
  · rfl
  · dsimp only
    rw [State.putBit_pending, groupDown_pending]
    exact forEach_pending _ _ _ calTargetLost_pending

@[simp] theorem sentryChange_pending (s : State) (old p : Nat) : (sentryChange s old p).pending = s.pending := by
  unfold sentryChange; dsimp only; (repeat' split) <;> simp_all

@[simp] theorem calOpen_pending (s : State) (r p : Nat) : (calOpen s r p).pending = s.pending := by simp [calOpen]

@[simp] theorem calShut_pending (s : State) : (calShut s).pending = s.pending := by simp [calShut]

@[simp] theorem calDone_pending (s : State) (err : Nat) : (calDone s err).pending = s.pending := by simp [calDone]

@[simp] theorem calStart_pending (s : State) : (calStart s).pending = s.pending := by
  unfold calStart; dsimp only; (repeat' split) <;> simp_all

@[simp] theorem orFree_pending (s : State) (v : Option Nat) (n : Nat) : (orFree s v n).2.pending = s.pending := by
  unfold orFree; (repeat' split) <;> simp

@[simp] theorem calResult1_pending (s : State) (p : Nat) (a b : List Int) : (calResult1 s p a b).pending = s.pending := by
  simp [calResult1]

@[simp] theorem calRecordLoad_pending (s : State) (p : Nat) (b : List Nat) : (calRecordLoad s p b).pending = s.pending := by
  unfold calRecordLoad
  rw [State.put_pending]
  exact forEach_pending _ _ _ (by intros; rfl)

@[simp] theorem calNvm_pending (s : State) (save : Bool) : (calNvm s save).pending = s.pending := by simp [calNvm]

@[simp] theorem wireFeed_pending (s : State) (k : Nat) (fs : List (Bool × Bool)) : (wireFeed s k fs).pending = s.pending := by
  simp [wireFeed]

@[simp] theorem feedCaptured_pending (s : State) (l : Captured) : (feedCaptured s l).pending = s.pending := by
  simp [feedCaptured]

@[simp] theorem shadowCompare_pending (s : State) (c : Nat) (differs : Bool) : (shadowCompare s c differs).pending = s.pending := by
  simp [shadowCompare]

@[simp] theorem fineKeep_pending (s : State) (n : Nat) : (fineKeep s n).pending = s.pending := by simp [fineKeep]

@[simp] theorem sentryHear_pending (s : State) (now : Nat) : (sentryHear s now).pending = s.pending := by simp [sentryHear]

@[simp] theorem fadeTo_pending (s : State) (n : Nat) (new : Inst) : (fadeTo s n new).pending = s.pending := by
  unfold fadeTo; dsimp only; (repeat' split) <;> simp_all

@[simp] theorem slotJudge_pending (s : State) (h : HeldSlot) (n u t es first : Nat) (pass : Option (Nat × Nat)) (give gone : Nat) (cells : List Cell) : (slotJudge s h n u t es first pass give gone cells).1.pending = s.pending := by
  unfold slotJudge; dsimp only; (repeat' (first | (simp; done) | split | rw [forEach_pending] | intro))

@[simp] theorem templateStep_pending (s : State) (h : HeldSlot) (n u t : Nat) (v : List Nat) : (templateStep s h n u t v).1.pending = s.pending := by
  unfold templateStep; dsimp only; (repeat' (first | (simp; done) | split | rw [forEach_pending] | intro))

@[simp] theorem netStep_pending (s : State) (h : HeldSlot) (n u t sc : Nat) : (netStep s h n u t sc).1.pending = s.pending := by
  unfold netStep; dsimp only; (repeat' (first | (simp; done) | split | rw [forEach_pending] | intro))

@[simp] theorem features_pending (s : State) (xs : List Int) : (features s xs).2.pending = s.pending := by
  unfold features
  refine (foldl_snd_pending _ _ _ ?_).trans rfl
  intro a r
  split <;> rfl

@[simp] theorem markedFrame_pending (s : State) (n t : Nat) : (markedFrame s n t).1.pending = s.pending := by
  unfold markedFrame
  refine (foldl_fst_pending _ _ _ (by intros; simp)).trans ?_
  dsimp only
  rw [State.setDrlIn_pending]
  split <;> simp

@[simp] theorem slotsStep_pending (s : State) (n t : Nat) (v : List Nat) : (slotsStep s n t v).1.pending = s.pending := by
  unfold slotsStep
  dsimp only
  split
  · exact foldl_fst_pending _ _ _ (by intros; simp)
  · refine foldl_fst_pending _ _ _ ?_
    intro a k
    split
    · rfl
    · split
      · simp
      · split
        · split
          · simp
          · rfl
        · rfl

@[simp] theorem inputFrame_pending (s : State) (n : Nat) : (inputFrame s n).1.pending = s.pending := by
  unfold inputFrame; dsimp only; (repeat' split) <;> simp_all

@[simp] theorem evqPut_pending (s : State) (ws : List Word) : (evqPut s ws).pending = s.pending := by simp [evqPut]

@[simp] theorem markSend_pending (s : State) (o : DrlOut) (stamp : Nat) (fine : Bool) : (markSend s o stamp fine).pending = s.pending := by
  simp [markSend]

@[simp] theorem outAct_pending (s : State) (wakes : List (Nat × Nat × Nat)) (o : DrlOut) : (outAct s wakes o).pending = s.pending := by
  simp [outAct]

@[simp] theorem outsAct_pending (s : State) (os : List DrlOut) : (outsAct s os).pending = s.pending := by simp [outsAct]

@[simp] theorem bufWrite_pending (s : State) (base : Nat) (bs : List Nat) : (bufWrite s base bs).pending = s.pending := by
  unfold bufWrite; (repeat' (first | (simp; done) | split | rw [forEach_pending] | intro))

@[simp] theorem netFollow_pending (s : State) : (netFollow s).pending = s.pending := by simp [netFollow]

@[simp] theorem pairsClear_pending (s : State) (f : Nat → Nat → Bool) : (pairsClear s f).pending = s.pending := by
  simp [pairsClear]

@[simp] theorem slotChangeOn_pending (s : State) (k : Nat) (f : Nat → Bool) : (slotChangeOn s k f).pending = s.pending := by
  simp [slotChangeOn]

@[simp] theorem slotChange_pending (s : State) (k : Nat) : (slotChange s k).pending = s.pending := by simp [slotChange]

@[simp] theorem tableDrop_pending (s : State) (k : Nat) : (tableDrop s k).pending = s.pending := by simp [tableDrop]

@[simp] theorem slotArm_pending (s : State) (k : Nat) (b : Bool) : (slotArm s k b).pending = s.pending := by simp [slotArm]

@[simp] theorem heldArm_pending (s : State) (k : Nat) (b : Bool) : (heldArm s k b).pending = s.pending := by simp [heldArm]

@[simp] theorem slotErase_pending (s : State) (k : Nat) : (slotErase s k).pending = s.pending := by simp [slotErase]

@[simp] theorem slotPlace_pending (s : State) (k : Nat) (r : List Nat) (typ cls inmask sentry netout thr pre osl refr band len : Nat) : (slotPlace s k r typ cls inmask sentry netout thr pre osl refr band len).pending = s.pending := by
  simp [slotPlace]

@[simp] theorem recInstall_pending (s : State) (r : List Nat) : (recInstall s r).pending = s.pending := by simp [recInstall]

@[simp] theorem recStart_pending (s : State) (action slot : Nat) : (recStart s action slot).pending = s.pending := by
  simp [recStart]

@[simp] theorem doInstall_pending (s : State) : (doInstall s).1.pending = s.pending := by
  unfold doInstall; dsimp only; (repeat' split) <;> simp_all

@[simp] theorem doSave_pending (s : State) : (doSave s).1.pending = s.pending := by
  unfold doSave; dsimp only; (repeat' split) <;> simp_all

@[simp] theorem doExport_pending (s : State) (slot : Nat) : (doExport s slot).1.pending = s.pending := by
  unfold doExport; dsimp only; (repeat' split) <;> simp_all

@[simp] theorem doOpen_pending (s : State) : (doOpen s).1.pending = s.pending := by
  unfold doOpen; dsimp only; (repeat' split) <;> simp_all

@[simp] theorem doPut_pending (s : State) : (doPut s).1.pending = s.pending := by
  unfold doPut
  split
  · rfl
  · dsimp only
    split
    · rfl
    · split
      · rename_i h; simp [fragsPut_pending _ h]
      · rfl

@[simp] theorem doClose_pending (s : State) : (doClose s).1.pending = s.pending := by
  unfold doClose
  split
  · rfl
  · dsimp only
    (repeat' split) <;> first | rfl | (rename_i h; simp [fragPut_pending h])

@[simp] theorem doErase_pending (s : State) (slot : Nat) : (doErase s slot).1.pending = s.pending := by
  unfold doErase; (repeat' split) <;> simp

@[simp] theorem enrRefuse_pending (s : State) : (enrRefuse s).pending = s.pending := by simp [enrRefuse]

@[simp] theorem enrStart_pending (s : State) (slot input count : Nat) : (enrStart s slot input count).pending = s.pending := by
  unfold enrStart; dsimp only; (repeat' (first | (simp; done) | split | rw [forEach_pending] | intro))

@[simp] theorem runtokWrite_pending (s : State) (v : Nat) : (runtokWrite s v).pending = s.pending := by simp [runtokWrite]

@[simp] theorem partsFresh_pending (s : State) : (partsFresh s).pending = s.pending := by
  unfold partsFresh; dsimp only; (repeat' (first | (simp; done) | split | rw [forEach_pending] | intro))

@[simp] theorem scareStart_pending (s : State) : (scareStart s).pending = s.pending := by simp [scareStart]

@[simp] theorem condsSee_pending (s : State) : (condsSee s).pending = s.pending := by simp [condsSee]

@[simp] theorem freezeLong_pending (s : State) (l : Nat) : (freezeLong s l).pending = s.pending := by
  unfold freezeLong; (repeat' split) <;> simp

@[simp] theorem lockProved_pending (s : State) : (lockProved s).pending = s.pending := by simp [lockProved]

@[simp] theorem lockStuck_pending (s : State) : (lockStuck s).pending = s.pending := by simp [lockStuck]

@[simp] theorem scareRestart_pending (s : State) (sl : Nat) (pass : Bool) : (scareRestart s sl pass).1.pending = s.pending := by
  unfold scareRestart; (repeat' split) <;> simp

@[simp] theorem armStart_pending (s : State) : (armStart s).pending = s.pending := by simp [armStart]

@[simp] theorem proofDone_pending (s : State) (pass : Bool) : (proofDone s pass).pending = s.pending := by simp [proofDone]

@[simp] theorem latchesClear_pending (s : State) : (latchesClear s).pending = s.pending := by
  have h : (forEach (upto 25) (fun s i => State.mark s (F.SAF_DIAGi_LASTING i) false) (s.put F.SAF_LATCH_BITS 0)).pending =
      s.pending := forEach_pending _ _ _ (by intros; rfl)
  unfold latchesClear
  dsimp only
  split
  · rw [faultPin_pending, h]
  · exact h

@[simp] theorem ackResp_pending (s : State) (v : Nat) : (ackResp s v).pending = s.pending := by simp [ackResp]

@[simp] theorem pduCheck_pending (s : State) (kind : Nat) (b : List Nat) : (pduCheck s kind b).1.pending = s.pending := by
  unfold pduCheck; dsimp only; (repeat' split) <;> simp_all

@[simp] theorem stopOverHeartbeat_pending (s : State) (p : Nat) : (stopOverHeartbeat s p).pending = s.pending := by
  simp [stopOverHeartbeat]

@[simp] theorem partnerStop_pending (s : State) (p : Nat) : (partnerStop s p).pending = s.pending := by simp [partnerStop]

@[simp] theorem coresStart_pending (s : State) : (coresStart s).pending = s.pending := by simp [coresStart]

@[simp] theorem soundStart_pending (s : State) : (soundStart s).pending = s.pending := by
  unfold soundStart
  rw [countsStart_pending]
  refine (forEach_pending _ _ _ (by intros; rfl)).trans ?_
  exact forEach_pending _ _ _ (by intros; rfl)

@[simp] theorem unitsStart_pending (s : State) : (unitsStart s).pending = s.pending := by simp [unitsStart]

@[simp] theorem firstArrive_pending (s : State) (st cause : Nat) : (firstArrive s st cause).pending = s.pending := by
  simp [firstArrive]

@[simp] theorem serviceArrive_pending (s : State) : (serviceArrive s).pending = s.pending := by simp [serviceArrive]

@[simp] theorem sentryFirst_pending (s : State) (cause : Nat) : (sentryFirst s cause).pending = s.pending := by
  simp [sentryFirst]

@[simp] theorem startEnter_pending (s : State) (row : Nat) : (startEnter s row).pending = s.pending := by simp [startEnter]

@[simp] theorem startCheck_pending (s : State) : (startCheck s).pending = s.pending := by
  unfold startCheck; (repeat' split) <;> simp

@[simp] theorem stepsGo_pending (s : State) : (stepsGo s).pending = s.pending := by simp [stepsGo]

@[simp] theorem supLatch_pending (s : State) (f : Fld) : (supLatch s f).pending = s.pending := by simp [supLatch]

@[simp] theorem clkStop_pending (s : State) (phase : ClkPhase) (why : ClkWhy) : (clkStop s phase why).pending = s.pending := by
  simp [clkStop]

@[simp] theorem planHold_pending (s : State) : (planHold s).pending = s.pending := by simp [planHold]

@[simp] theorem planHoldTry_pending (s : State) : (planHoldTry s).pending = s.pending := by simp [planHoldTry]

@[simp] theorem lockBegin_pending (s : State) : (lockBegin s).pending = s.pending := by simp [lockBegin]

@[simp] theorem planTell_pending (s : State) : (planTell s).pending = s.pending := by simp [planTell]

@[simp] theorem planStart_pending (s : State) (cls m : Nat) (remote : Bool) : (planStart s cls m remote).pending = s.pending := by
  simp [planStart]

@[simp] theorem rateFresh_pending (s : State) (old : Nat) : (rateFresh s old).pending = s.pending := by simp [rateFresh]

@[simp] theorem shortGap_pending (s : State) : (shortGap s).pending = s.pending := by
  unfold shortGap; (repeat' split) <;> simp

@[simp] theorem planResume_pending (s : State) : (planResume s).pending = s.pending := by simp [planResume]

theorem heldGo_pending (s : State) (f : State → State) (h : ∀ s, (f s).pending = s.pending) :
    (heldGo s f).pending = s.pending := by
  unfold heldGo; (repeat' split) <;> simp [h]

@[simp] theorem inputsResume_pending (s : State) : (inputsResume s).pending = s.pending := by simp [inputsResume]

theorem clkResume_pending (s : State) (f : State → State) (h : ∀ s, (f s).pending = s.pending) :
    (clkResume s f).pending = s.pending := by
  unfold clkResume
  extract_lets why w a b c d x e g i k
  have ha : a.pending = s.pending := rfl
  have hb : b.pending = s.pending := by unfold b; rw [wdoFollow_pending, State.put_pending, ha]
  have hc : c.pending = s.pending := by
    unfold c
    split
    · rw [shortGap_pending, sentryCount_pending, hb]
    · rw [countsStart_pending, fadesEnd_pending, hb]
  have hd : d.pending = s.pending := by
    unfold d
    split
    · exact hc
    · rw [inputsResume_pending, hc]
  have he : e.pending = s.pending := hd
  have hg : g.pending = s.pending := by unfold g; rw [adcKicks_pending, monFollow_pending, he]
  have hi : i.pending = s.pending := by
    unfold i
    split
    · rw [planResume_pending, hg]
    · exact hg
  have hk : k.pending = s.pending := by
    unfold k
    split
    · rw [trip_pending, hi]
    · exact hi
  clear_value k
  split
  · rw [heldGo_pending _ _ h, hk]
  · exact hk

@[simp] theorem startClear_pending (s : State) : (startClear s).pending = s.pending := by simp [startClear]

@[simp] theorem startBegin_pending (s : State) : (startBegin s).pending = s.pending := by
  unfold startBegin
  extract_lets a b c d e x g
  have ha : a.pending = s.pending := (State.put_pending _ _ _).trans (startClear_pending s)
  clear_value a
  have hc : c.pending = s.pending := by unfold c b; rw [wdoFollow_pending, State.mark_pending, State.mark_pending, State.put_pending, ha]
  clear_value c
  have he : e.pending = s.pending := by
    unfold e d; rw [State.wr_pending, State.level_pending, State.wr_pending, State.mark_pending, State.put_pending, hc]
  clear_value e
  rw [forwardFollow_pending, hgDisable_pending, hgDisable_pending]; exact he

@[simp] theorem startRestart_pending (s : State) : (startRestart s).pending = s.pending := by simp [startRestart]

@[simp] theorem checkBegin_pending (s : State) : (checkBegin s).pending = s.pending := by simp [checkBegin]

@[simp] theorem startClass_pending (s : State) (c : Nat) : (startClass s c).pending = s.pending := by simp [startClass]

@[simp] theorem startWindow_pending (s : State) (n : Nat) : (startWindow s n).pending = s.pending := by simp [startWindow]

@[simp] theorem freqError_pending (s : State) (c : Nat) : (freqError s c).pending = s.pending := by simp [freqError]

@[simp] theorem supervise_pending (s : State) (n : Nat) : (supervise s n).pending = s.pending := by simp [supervise]

@[simp] theorem stable_pending (s : State) (n : Nat) : (stable s n).pending = s.pending := by simp [stable]

@[simp] theorem stability_pending (s : State) (n : Nat) : (stability s n).pending = s.pending := by simp [stability]

@[simp] theorem ringCount_pending (s : State) (m n : Nat) : (ringCount s m n).pending = s.pending := by simp [ringCount]

@[simp] theorem pmbFail_pending (s : State) (sent : Bool) : (pmbFail s sent).pending = s.pending := by simp [pmbFail]

@[simp] theorem pmerrReads_pending (s : State) : (pmerrReads s).pending = s.pending := by simp [pmerrReads]

@[simp] theorem pmerrClear_pending (s : State) : (pmerrClear s).pending = s.pending := by simp [pmerrClear]

@[simp] theorem railCount_pending (s : State) (k : Nat) (c limit : Bool) : (railCount s k c limit).pending = s.pending := by
  simp [railCount]

@[simp] theorem manual_pending (s : State) : (manual s).pending = s.pending := by simp [manual]

@[simp] theorem laterWord_pending (s : State) (a : Nat) (f : Fld) (v : Nat) : (laterWord s a f v).pending = s.pending := by
  simp [laterWord]

@[simp] theorem nvmStart_pending (s : State) (cmd : Nat) : (nvmStart s cmd).pending = s.pending := by simp [nvmStart]

@[simp] theorem State.setSlotMem_pending (s : State) (k : Nat) (m : List Host.Cell) : (State.setSlotMem s k m).pending = s.pending := by
  simp [State.setSlotMem]

@[simp] theorem slotInvalid_pending (s : State) (k : Nat) : (slotInvalid s k).pending = s.pending := by simp [slotInvalid]

@[simp] theorem imageErase_pending (s : State) (k : Nat) : (imageErase s k).pending = s.pending := by simp [imageErase]

@[simp] theorem slotSectorGone_pending (s : State) (k n : Nat) : (slotSectorGone s k n).pending = s.pending := by
  unfold slotSectorGone
  dsimp only
  split
  · rw [State.setSlotMem_pending, slotInvalid_pending]
  · rfl

@[simp] theorem pageWrite_pending (s : State) (k p : Nat) : (pageWrite s k p).pending = s.pending := by simp [pageWrite]

@[simp] theorem slotVerify_pending (s : State) (kind k : Nat) : (slotVerify s kind k).1.pending = s.pending := by
  unfold slotVerify; (repeat' split) <;> simp

@[simp] theorem bufZero_pending (s : State) : (bufZero s).pending = s.pending := by
  unfold bufZero; (repeat' (first | (simp; done) | split | rw [forEach_pending] | intro))

@[simp] theorem keyInstall_pending (s : State) (kind : Nat) : (keyInstall s kind).1.pending = s.pending := by
  unfold keyInstall; dsimp only; (repeat' split) <;> simp_all

@[simp] theorem linkInstall_pending (s : State) : (linkInstall s).pending = s.pending := by simp [linkInstall]

@[simp] theorem bootSave_pending (s : State) : (bootSave s).1.pending = s.pending := by simp [bootSave]

@[simp] theorem recRead_pending (s : State) : (recRead s).pending = s.pending := by simp [recRead]

theorem recWorn_pending (s : State) (worn : Option (Fin 512)) (w : State → State × Bool)
    (h : ∀ s, (w s).1.pending = s.pending) : (recWorn s worn w).1.pending = s.pending := by
  unfold recWorn
  dsimp only
  split
  · exact h s
  · split
    · split
      · dsimp only
        rw [h, sectorRetire_pending]
        rename_i n _
        cases hm : moveLive ((w s).1.setSector { (w s).1.sector n with
            frags := ((w s).1.sector n).frags.filter (fun f => decide (f.seq ≠ (w s).1.nvm.seq)) }) n with
        | none => simp [h]
        | some t => simp [moveLive_pending hm, h]
      · exact h s
    · exact h s

theorem nvmRetire_pending (s : State) (worn : Option (Fin 512)) (k : Nat) :
    (match worn with | some n => sectorRetire (slotSectorGone s k n) n | none => s).pending = s.pending := by
  split
  · rw [sectorRetire_pending, slotSectorGone_pending]
  · rfl

@[simp] theorem nvmEffect_pending (s : State) (cmd : Nat) (worn : Option (Fin 512)) : (nvmEffect s cmd worn).1.pending = s.pending := by
  unfold nvmEffect
  extract_lets k bad retire
  have hr : ∀ t, (retire t).pending = t.pending := fun t => nvmRetire_pending t worn k
  split
  · split
    · exact (hr _).trans (imageErase_pending _ _)
    · exact imageErase_pending _ _
  · split
    · split
      · exact (hr _).trans (pageWrite_pending _ _ _)
      · exact pageWrite_pending _ _ _
    · split
      · exact slotVerify_pending _ _ _
      · split
        · exact recWorn_pending _ _ _ (fun t => bootName_pending _ _ _)
        · split
          · exact recWorn_pending _ _ _ (fun t => bootSave_pending _)
          · split
            · exact keyInstall_pending _ _
            · split
              · exact linkInstall_pending _
              · split
                · exact recWorn_pending _ _ _ (fun t => recPut_pending _ _ _ _)
                · split
                  · exact recWorn_pending _ _ _ (fun t => recPut_pending _ _ _ _)
                  · exact recRead_pending _

@[simp] theorem mapRow_pending (s : State) (r : Nat) : (mapRow s r).pending = s.pending := by simp [mapRow]

@[simp] theorem retireStart_pending (s : State) (arg : Nat) : (retireStart s arg).pending = s.pending := by
  unfold retireStart; dsimp only; (repeat' split) <;> simp_all

@[simp] theorem svcStart_pending (s : State) (a : Nat) : (svcStart s a).pending = s.pending := by simp [svcStart]

@[simp] theorem sectorRetireAct_pending (s : State) (n : Nat) : (sectorRetireAct s n).1.pending = s.pending := by
  unfold sectorRetireAct
  split
  · simp
  · split
    · rename_i h; simp [moveLive_pending h]
    · rfl

@[simp] theorem svcEffect_pending (s : State) (a arg : Nat) : (svcEffect s a arg).1.pending = s.pending := by
  unfold svcEffect; (repeat' split) <;> simp

@[simp] theorem calSaveAll_pending (s : State) : (calSaveAll s).1.pending = s.pending := by
  unfold calSaveAll
  refine foldl_fst_pending _ _ _ ?_
  intros; split <;> simp

@[simp] theorem calLoadAll_pending (s : State) : (calLoadAll s).1.pending = s.pending := by
  unfold calLoadAll
  refine foldl_fst_pending _ _ _ ?_
  intro a p
  split
  · split
    · exact calRecordLoad_pending _ _ _
    · rfl
  · rfl

@[simp] theorem jtagSelect_pending (s : State) (code : Nat) : (jtagSelect s code).pending = s.pending := by simp [jtagSelect]

@[simp] theorem winWrite_pending (s : State) (a : Nat) (w : Word) : (winWrite s a w).pending = s.pending := by
  unfold winWrite; (repeat' split) <;> simp

@[simp] theorem rangeFix_pending (s : State) (old : Word) (w : Word) (r : Fld × Nat × Nat) : (rangeFix s old w r).1.pending = s.pending := by
  unfold rangeFix; dsimp only; (repeat' split) <;> simp_all

@[simp] theorem monFix_pending (s : State) (a : Nat) (old w : Word) : (monFix s a old w).1.pending = s.pending := by
  unfold monFix; dsimp only; (repeat' split) <;> simp_all

theorem rangeFixes_pending (l : List (Fld × Nat × Nat)) (old : Word) (a : State × Word) :
    (l.foldl (fun p q => rangeFix p.1 old p.2 q) a).1.pending = a.1.pending :=
  foldl_fst_pending l _ a (fun a x => rangeFix_pending a.1 old a.2 x)

@[simp] theorem storeWord_pending (s : State) (e : Nat × Word) : (storeWord s e).pending = s.pending := by
  unfold storeWord
  split
  · split
    · rfl
    · exact winWrite_pending _ _ _
  · split
    · exact State.wr_pending _ _ _
    · split
      · rfl
      · split
        · rw [State.put_pending, State.put_pending]
        · split
          · rfl
          · extract_lets old f g
            rw [State.wr_pending]
            refine (monFix_pending _ _ _ _).trans ?_
            unfold f
            split
            · rfl
            · exact rangeFixes_pending _ _ _

@[simp] theorem divFollow_pending (s : State) (g : Nat) : (divFollow s g).pending = s.pending := by simp [divFollow]

@[simp] theorem actClk_pending (old : State) (a : Nat) (s : State) : (actClk old a s).pending = s.pending := by
  simp [actClk]

@[simp] theorem actPlan_pending (old : State) (w : Word) (s : State) : (actPlan old w s).pending = s.pending := by
  simp [actPlan]

@[simp] theorem actReq_pending (o : Origin) (w : Word) (s : State) : (actReq o w s).pending = s.pending := by simp [actReq]

@[simp] theorem inputEnable_pending (s : State) (p : Nat) : (inputEnable s p).pending = s.pending := by simp [inputEnable]

@[simp] theorem inputDisable_pending (s : State) (p : Nat) : (inputDisable s p).pending = s.pending := by simp [inputDisable]

@[simp] theorem chainEnable_pending (s : State) (n : Nat) : (chainEnable s n).pending = s.pending := by simp [chainEnable]

@[simp] theorem actMic_pending (old : State) (a : Nat) (w : Word) (s : State) : (actMic old a w s).pending = s.pending := by
  simp [actMic]

@[simp] theorem actFlt_pending (old : State) (a : Nat) (w : Word) (s : State) : (actFlt old a w s).pending = s.pending := by
  simp [actFlt]

@[simp] theorem actLsn_pending (old : State) (a : Nat) (w : Word) (s : State) : (actLsn old a w s).pending = s.pending := by
  simp [actLsn]

@[simp] theorem heldTake_pending (s : State) (k : Nat) : (heldTake s k).pending = s.pending := by simp [heldTake]

@[simp] theorem actSlot_pending (old : State) (k sub : Nat) (s : State) : (actSlot old k sub s).pending = s.pending := by
  simp [actSlot]

@[simp] theorem actDrl_pending (old : State) (a : Nat) (w : Word) (s : State) : (actDrl old a w s).pending = s.pending := by
  simp [actDrl]

@[simp] theorem stripEnable_pending (s : State) (k : Nat) : (stripEnable s k).pending = s.pending := by simp [stripEnable]

@[simp] theorem stripDisable_pending (s : State) (k base len : Nat) : (stripDisable s k base len).pending = s.pending := by
  simp [stripDisable]

@[simp] theorem actStrip_pending (old : State) (ws : List (Nat × Word)) (k sub : Nat) (s : State) : (actStrip old ws k sub s).pending = s.pending := by
  simp [actStrip]

@[simp] theorem tickAcc_pending (s : State) : (tickAcc s).pending = s.pending := by simp [tickAcc]

@[simp] theorem levelTick_pending (s : State) : (levelTick s).pending = s.pending := by
  unfold levelTick; dsimp only; (repeat' (first | (simp; done) | split | rw [forEach_pending] | intro))

@[simp] theorem mittenMs_pending (s : State) : (mittenMs s).pending = s.pending := by simp [mittenMs]

@[simp] theorem msTick_pending (s : State) : (msTick s).pending = s.pending := by simp [msTick]

@[simp] theorem msAcc_pending (s : State) : (msAcc s).pending = s.pending := by simp [msAcc]

@[simp] theorem cycTick_pending (s : State) : (cycTick s).pending = s.pending := by simp [cycTick]

@[simp] theorem tokenTick_pending (s : State) : (tokenTick s).pending = s.pending := by
  unfold tokenTick; dsimp only; (repeat' (first | (simp; done) | split | rw [forEach_pending] | intro))

@[simp] theorem syncNow_pending (s : State) : (syncNow s).pending = s.pending := by simp [syncNow]

@[simp] theorem syncTick_pending (s : State) : (syncTick s).pending = s.pending := by
  unfold syncTick; (repeat' split) <;> simp

@[simp] theorem pckTick_pending (s : State) : (pckTick s).pending = s.pending := by simp [pckTick]

@[simp] theorem cycTickS_pending (s : State) : (cycTickS s).pending = s.pending := by simp [cycTickS]

@[simp] theorem idle_pending (s : State) : (idle s).pending = s.pending := by simp [idle]

@[simp] theorem actSwa_pending (o : Origin) (old : State) (ws : List (Nat × Word)) (a : Nat) (w : Word) (s : State) : (actSwa o old ws a w s).pending = s.pending := by
  simp [actSwa]

@[simp] theorem actFrw_pending (old : State) (a : Nat) (w : Word) (s : State) : (actFrw old a w s).pending = s.pending := by
  simp [actFrw]

@[simp] theorem actQue_pending (old : State) (a : Nat) (w : Word) (s : State) : (actQue old a w s).pending = s.pending := by
  simp [actQue]

@[simp] theorem actInt_pending (a : Nat) (w : Word) (s : State) : (actInt a w s).pending = s.pending := by simp [actInt]

@[simp] theorem actAdc_pending (old : State) (a : Nat) (w : Word) (s : State) : (actAdc old a w s).pending = s.pending := by
  simp [actAdc]

@[simp] theorem actMon_pending (old : State) (a : Nat) (w : Word) (s : State) : (actMon old a w s).pending = s.pending := by
  simp [actMon]

@[simp] theorem actHg_pending (old : State) (a : Nat) (w : Word) (s : State) : (actHg old a w s).pending = s.pending := by
  simp [actHg]

@[simp] theorem actSaf_pending (old : State) (a : Nat) (w : Word) (s : State) : (actSaf old a w s).pending = s.pending := by
  simp [actSaf]

@[simp] theorem actWord_pending (o : Origin) (old : State) (ws : List (Nat × Word)) (a : Nat) (w : Word) (s : State) : (actWord o old ws a w s).pending = s.pending := by
  unfold actWord; (repeat' split) <;> simp

theorem actAll_pending (o : Origin) (old : State) (ws l : List (Nat × Word)) (s : State) :
    (actAll o old ws l s).pending = s.pending := by
  induction l generalizing s with
  | nil => rfl
  | cons e t ih => rw [actAll, ih]; simp

@[simp] theorem applyWords_pending (o : Origin) (ws : List (Nat × Word)) (s : State) : (applyWords o ws s).pending = s.pending := by
  unfold applyWords
  rw [actAll_pending]
  exact forEach_pending _ _ _ storeWord_pending

@[simp] theorem applyNow_pending (o : Origin) (ws : List (Nat × Word)) (s : State) : (applyNow o ws s).pending = s.pending := by
  simp [applyNow]

@[simp] theorem applyDeferred_pending (s : State) : (applyDeferred s).pending = s.pending := by simp [applyDeferred]

@[simp] theorem rcTake_pending (s : State) (host : Bool) (core n : Nat) (w : RcWin) : (rcTake s host core n w).pending = s.pending := by
  cases w <;> simp [rcTake]

@[simp] theorem replayPut_pending (s : State) (ws : List Word) : (replayPut s ws).pending = s.pending := by
  unfold replayPut
  rw [State.put_pending, State.put_pending]
  exact forEach_pending _ _ _ (by intros; simp)

@[simp] theorem readEffects_pending (s : State) (a n : Nat) : (readEffects s a n).pending = s.pending := by
  unfold readEffects
  extract_lets w
  split
  · rfl
  · refine (forEach_pending _ _ _ (by intros; simp)).trans ?_
    simp

@[simp] theorem coreReadTake_pending (s : State) (c a : Nat) : (coreReadTake s c a).pending = s.pending := by
  unfold coreReadTake
  (repeat' split) <;> simp

@[simp] theorem hostCommit_pending (o : Origin) (ws : List (Nat × Word)) (s : State) : (hostCommit o ws s).pending = s.pending := by
  simp [hostCommit]

@[simp] theorem admittedAs_pending (t s : State) : (admittedAs t s).pending = s.pending := by
  unfold admittedAs
  split
  · rfl
  · extract_lets a b
    have ha : a.pending = s.pending := forEach_pending _ _ _ (by intros; simp)
    have hb : b.pending = s.pending := (forEach_pending _ _ _ (by intros; simp)).trans ha
    split
    · rw [State.put_pending, State.put_pending, hb]
    · exact hb

@[simp] theorem admitted_pending (s : State) : (admitted s).pending = s.pending := admittedAs_pending s s

@[simp] theorem decisionShow_pending (o : Origin) (d : Deny) (s : State) : (decisionShow o d s).pending = s.pending := by
  unfold decisionShow; (repeat' split) <;> simp

@[simp] theorem acceptCommit_pending (c : Commit) (s : State) : (acceptCommit c s).pending = s.pending := by
  unfold acceptCommit; (repeat' split) <;> simp

@[simp] theorem bufferStore_pending (s : State) (c a : Nat) (bs : List Nat) : (bufferStore s c a bs).pending = s.pending := by
  simp [bufferStore]

@[simp] theorem loadGive_pending (s : State) (c name : Nat) (v : BitVec 128) (long : Bool) : (loadGive s c name v long).pending = s.pending := by
  simp [loadGive]

@[simp] theorem bundleWait_pending (s : State) (c : Nat) : (bundleWait s c).pending = s.pending := by
  unfold bundleWait; dsimp only; (repeat' split) <;> simp_all

/-- The state that an access leaves has the queue `p`. -/
def Access.keeps (p : List Instr) : Access → Prop
  | .fault s _ _ => s.pending = p
  | .wait => True
  | .done s _ _ => s.pending = p

theorem issueL_pending (s : State) (c : Nat) (e ok : Bool) (uses writes : List Nat) (f : State → CoreRegs → Nat × Access)
    (g : State → CoreRegs → List Nat → Bool → State) (hf : ∀ t r, (f t r).2.keeps t.pending)
    (hg : ∀ t r bs l, (g t r bs l).pending = t.pending) : (issueL s c e ok uses writes f g).pending = s.pending := by
  unfold issueL
  refine wordIn_pending _ _ _ _ _ ?_
  intro t b ht
  extract_lets w u
  have hu : u.pending = s.pending := ht
  split
  · split
    · rw [exception_pending, hu]
    · have := hf u b.before
      split
      · rename_i h; rw [h] at this; rw [exception_pending, this, hu]
      · exact bundleWait_pending _ _
      · rename_i h; rw [h] at this; rw [bundleDone_pending, hg, this, hu]
  · exact hu

theorem readBuffered_keeps (s : State) (c o n : Nat) (b : Bool) : (readBuffered s c o n b).keeps s.pending := by
  unfold readBuffered
  generalize badIn _ _ _ = bad
  split
  · rfl
  · exact softMeet_pending _ _ _ _ _

theorem bufferedLoad_keeps (s : State) (c a n : Nat) (b : Bool) : (bufferedLoad s c a n b).keeps s.pending := by
  unfold bufferedLoad
  extract_lets o buf hits k
  split
  · split
    · rfl
    · have := readBuffered_keeps (drainN s c k) c o n b
      rwa [drainN_pending] at this
  · exact readBuffered_keeps _ _ _ _ _

theorem popAccess_keeps (s : State) (c n k : Nat) : (popAccess s c n k).keeps s.pending := by
  unfold popAccess
  split
  · rfl
  · split <;> simp [Access.keeps]

theorem pushAccess_keeps (s : State) (c n : Nat) (es : List Nat) : (pushAccess s c n es).keeps s.pending := by
  unfold pushAccess
  split
  · rfl
  · split <;> simp [Access.keeps]

theorem memLoad_keeps (s : State) (c a n : Nat) : (memLoad s c a n).keeps s.pending := by
  unfold memLoad
  split
  · rfl
  · split
    · split
      · rfl
      · exact progMeet_pending _ _ _ _
    · exact bufferedLoad_keeps _ _ _ _ _
    · exact bufferedLoad_keeps _ _ _ _ _
    · split
      · rfl
      · split
        · exact popAccess_keeps _ _ _ _
        · rfl
    · split
      · rfl
      · exact coreReadTake_pending _ _ _
    · split
      · exact (eccCheck_pending _ _ _ _).trans (mittenTouch_pending _)
      · exact mittenDeny_pending _
    · rfl

theorem devStore_keeps (s : State) (c a : Nat) (w : Word) : (devStore s c a w).keeps s.pending := by
  unfold devStore
  split
  · split
    · exact applyNow_pending _ _ _
    · rfl
  · split
    · rfl
    · split
      · extract_lets l l'
        split
        · rfl
        · exact State.put_pending _ _ _
      · exact applyNow_pending _ _ _

theorem memStore_keeps (s : State) (c a : Nat) (bs : List Nat) : (memStore s c a bs).keeps s.pending := by
  unfold memStore
  extract_lets n
  split
  · rfl
  · split
    · rfl
    · exact bufferStore_pending _ _ _ _
    · exact bufferStore_pending _ _ _ _
    · split
      · rfl
      · split
        · exact pushAccess_keeps _ _ _ _
        · rfl
    · split
      · rfl
      · exact devStore_keeps _ _ _ _
    · exact mittenDeny_pending _
    · rfl

@[simp] theorem loadImm_pending (s : State) (i : IForm) (z : Nat) : (loadImm s i z).pending = s.pending :=
  issueL_pending _ _ _ _ _ _ _ _ (fun _ _ => memLoad_keeps _ _ _ _) (fun _ _ _ _ => loadGive_pending _ _ _ _ _)

@[simp] theorem storeImm_pending (s : State) (i : IForm) (z : Nat) : (storeImm s i z).pending = s.pending :=
  issueL_pending _ _ _ _ _ _ _ _ (fun _ _ => memStore_keeps _ _ _ _) (fun _ _ _ _ => rfl)

@[simp] theorem baseUpdate_pending (s : State) (i : IForm) (b : CoreRegs) (size : Nat) : (baseUpdate s i b size).pending = s.pending := by
  simp [baseUpdate]

@[simp] theorem popInstr_pending (s : State) (i : IForm) (k : Nat) : (popInstr s i k).pending = s.pending :=
  issueL_pending _ _ _ _ _ _ _ _ (fun _ _ => popAccess_keeps _ _ _ _) (fun _ _ _ _ => loadGive_pending _ _ _ _ _)

@[simp] theorem pushInstr_pending (s : State) (i : IForm) (v : Bool) : (pushInstr s i v).pending = s.pending :=
  issueL_pending _ _ _ _ _ _ _ _ (fun _ _ => pushAccess_keeps _ _ _ _) (fun _ _ _ _ => rfl)

@[simp] theorem amo_pending (s : State) (i : RForm) (f : Word → Word → Word → Word) : (amo s i f).pending = s.pending := by
  unfold amo
  refine issueX_pending _ _ _ _ _ _ ?_
  intro t
  extract_lets u b a o stop v old w
  have hu : u.pending = t.pending := drainAll_pending _ _
  split
  · rw [exception_pending, hu]
  · split
    · rw [exception_pending, hu]
    · split
      · rw [exception_pending, hu]
      · rw [bundleDone_pending, regsPut_pending]
        exact (commonWrite_pending _ _ _).trans ((softMeet_pending _ _ _ _ _).trans hu)

@[simp] theorem alu_pending (s : State) (i : RForm) (f : Word → Word → Word) : (alu s i f).pending = s.pending := by
  simp [alu]

@[simp] theorem alu1_pending (s : State) (i : RForm) (f : Word → Word) : (alu1 s i f).pending = s.pending := by simp [alu1]

@[simp] theorem aluSat_pending (s : State) (i : RForm) (ok : Bool) (f : Int → Int → Int) : (aluSat s i ok f).pending = s.pending := by
  simp [aluSat]

@[simp] theorem aluImm_pending (s : State) (i : IForm) (ok : Bool) (f : Word → Word) : (aluImm s i ok f).pending = s.pending := by
  simp [aluImm]

@[simp] theorem cmpR_pending (s : State) (i : RForm) (f : Word → Word → Bool) : (cmpR s i f).pending = s.pending := by
  simp [cmpR]

@[simp] theorem cmpI_pending (s : State) (i : IForm) (f : Word → Bool) : (cmpI s i f).pending = s.pending := by simp [cmpI]

@[simp] theorem predOp_pending (s : State) (i : RForm) (f : Bool → Bool → Bool) : (predOp s i f).pending = s.pending := by
  simp [predOp]

@[simp] theorem branchIf_pending (s : State) (i : IForm) (f : Word → Bool) : (branchIf s i f).pending = s.pending := by
  simp [branchIf]

@[simp] theorem branchPred_pending (s : State) (i : IForm) (v : Bool) : (branchPred s i v).pending = s.pending := by
  simp [branchPred]

@[simp] theorem smacStep_pending (s : State) (i : RForm) (x y : Bool) (neg : Bool) : (smacStep s i x y neg).pending = s.pending := by
  simp [smacStep]

@[simp] theorem crGet_pending (s : State) (c n : Nat) : (crGet s c n).2.pending = s.pending := by
  unfold crGet; dsimp only; (repeat' split) <;> simp_all

@[simp] theorem coreSubmit_pending (s : State) (c : Nat) : (coreSubmit s c).1.pending = s.pending := by
  unfold coreSubmit; dsimp only; (repeat' split) <;> simp_all

@[simp] theorem initEnds_pending (s : State) (c : Nat) : (initEnds s c).pending = s.pending := by simp [initEnds]

@[simp] theorem taskEnd_pending (s : State) (c : Nat) : (taskEnd s c).pending = s.pending := by
  unfold taskEnd; dsimp only; (repeat' (first | (simp; done) | split | rw [forEach_pending] | intro))

@[simp] theorem vecTo_pending (s : State) (i : RForm) (ok : Bool) (uses : List Nat) (f : CoreRegs → BitVec 128 × Bool) : (vecTo s i ok uses f).pending = s.pending := by
  simp [vecTo]

@[simp] theorem lanes2_pending (s : State) (i : RForm) (func : BitVec 8) (f : Bool → Nat → BitVec 128 → BitVec 128 → Nat × Bool) : (lanes2 s i func f).pending = s.pending := by
  simp [lanes2]

@[simp] theorem whole2_pending (s : State) (i : RForm) (f : BitVec 128 → BitVec 128 → BitVec 128) : (whole2 s i f).pending = s.pending := by
  simp [whole2]

@[simp] theorem shiftLanes_pending (s : State) (i : RForm) (func : BitVec 8) (f : BitVec 8 → Bool → Nat → BitVec 128 → Nat → Nat) : (shiftLanes s i func f).pending = s.pending := by
  simp [shiftLanes]

@[simp] theorem cmpLanes_pending (s : State) (i : RForm) (func : BitVec 8) (f : Bool → Nat → BitVec 128 → BitVec 128 → Bool) : (cmpLanes s i func f).pending = s.pending := by
  simp [cmpLanes]

@[simp] theorem accTo_pending (s : State) (i : RForm) (ok : Bool) (uses : List Nat) (f : CoreRegs → Nat → Int × Bool) : (accTo s i ok uses f).pending = s.pending := by
  simp [accTo]

@[simp] theorem vecToP_pending (s : State) (i : RForm) (ok : Bool) (f : BitVec 128 → Bool) : (vecToP s i ok f).pending = s.pending := by
  simp [vecToP]

@[simp] theorem hspSnap_pending (s : State) : (hspSnap s).pending = s.pending := by simp [hspSnap]

@[simp] theorem hspError_pending (s : State) (code : Nat) : (hspError s code).pending = s.pending := by simp [hspError]

@[simp] theorem hspRecord_pending (s : State) (st : Nat) : (hspRecord s st).pending = s.pending := by simp [hspRecord]

@[simp] theorem stageSet_pending (s : State) (v : Option (List (Nat × Word))) : (stageSet s v).pending = s.pending := by
  simp [stageSet]

@[simp] theorem hspWrite_pending (o : Origin) (s : State) (a : Nat) (data : List Word) : (hspWrite o s a data).pending = s.pending := by
  unfold hspWrite; (repeat' split) <;> simp

@[simp] theorem hspCommit_pending (o : Origin) (s : State) (a : Nat) : (hspCommit o s a).pending = s.pending := by
  unfold hspCommit; (repeat' split) <;> simp

@[simp] theorem hspZeroize_pending (s : State) (a : Nat) : (hspZeroize s a).pending = s.pending := by simp [hspZeroize]

@[simp] theorem historyTaken_pending (s : State) (o n : Nat) : (historyTaken s o n).pending = s.pending := by
  simp [historyTaken]

@[simp] theorem hspEffect_pending (o : Origin) (s : State) (op addr n : Nat) (data : List Word) : (hspEffect o s op addr n data).pending = s.pending := by
  simp [hspEffect]

@[simp] theorem historyDenied_pending (s : State) (code op addr n : Nat) : (historyDenied s code op addr n).pending = s.pending := by
  simp [historyDenied]

@[simp] theorem hspLocal_pending (o : Origin) (s : State) (op addr cnt : Nat) (data : List Word) (code : Nat) : (hspLocal o s op addr cnt data code).1.pending = s.pending := by
  unfold hspLocal; (repeat' split) <;> simp

@[simp] theorem tunForward_pending (s : State) (op addr cnt : Nat) (data : List Word) : (tunForward s op addr cnt data).pending = s.pending := by
  simp [tunForward]

@[simp] theorem hspDrive_pending (s : State) (st : Nat) (ws : List Word) : (hspDrive s st ws).pending = s.pending := by
  simp [hspDrive]

@[simp] theorem hspRun_pending (op addr cnt : Nat) (data : List Word) (crc : Nat) (s : State) : (hspRun op addr cnt data crc s).pending = s.pending := by
  simp [hspRun]

@[simp] theorem tunEnd_pending (s : State) (state : Nat) : (tunEnd s state).pending = s.pending := by simp [tunEnd]

@[simp] theorem tunReply_pending (s : State) (tag st : Nat) (ws : List Word) : (tunReply s tag st ws).pending = s.pending := by
  simp [tunReply]

@[simp] theorem tunBroken_pending (s : State) (tag : Nat) : (tunBroken s tag).pending = s.pending := by simp [tunBroken]

@[simp] theorem tunRun_pending (s : State) (t : TunIn) : (tunRun s t).pending = s.pending := by simp [tunRun]

@[simp] theorem tunTake_pending (s : State) (t : TunIn) (last : Bool) : (tunTake s t last).pending = s.pending := by
  simp [tunTake]

@[simp] theorem responsePut_pending (s : State) (ws : List Word) : (responsePut s ws).pending = s.pending := by
  unfold responsePut; (repeat' (first | (simp; done) | split | rw [forEach_pending] | intro))

@[simp] theorem offState_pending (s : State) : (offState s).pending = s.pending := by simp [offState]

@[simp] theorem offCause_pending (s : State) (por pin : Bool) (rail : Nat) : (offCause s por pin rail).pending = s.pending := by
  simp [offCause]

@[simp] theorem strapsPut_pending (s : State) (devid : Nat) (clksrc test0 io33 : Bool) : (strapsPut s devid clksrc test0 io33).pending = s.pending := by
  simp [strapsPut]

@[simp] theorem release124_pending (s : State) (devid : Nat) (clksrc test0 io33 : Bool) : (release124 s devid clksrc test0 io33).pending = s.pending := by
  simp [release124]

@[simp] theorem startTry_pending (s : State) : (startTry s).pending = s.pending := by simp [startTry]

@[simp] theorem rowFix_pending (s : State) (r : Nat) : (rowFix s r).1.pending = s.pending := by
  unfold rowFix; (repeat' split) <;> simp

@[simp] theorem phaseBFix_pending (s : State) (rows : List Nat) (cores : Nat) (sectors : List Nat) :
    (phaseBFix s rows cores sectors).1.pending = s.pending := by
  have h : ∀ (l : List Nat) (a : State × Bool), (l.foldl (fun a n => let x := rowFix a.1 n; (x.1, a.2 && x.2)) a).1.pending = a.1.pending :=
    fun l a => foldl_fst_pending l _ a (by intros; simp)
  have h2 : ∀ (l : List Nat) (t : State), (forEach l (fun s c => if coreState s c = C_RETIRED then s else retireMap (coreRetired s c) c) t).pending = t.pending :=
    fun l t => forEach_pending l _ t (by intros; simp)
  unfold phaseBFix
  dsimp only
  split
  · rw [forEach_pending _ _ _ sectorRetire_pending, h2, h]
  · rw [State.mark_pending, forEach_pending _ _ _ sectorRetire_pending, h2, h]

@[simp] theorem bootApply_pending (s : State) : (bootApply s).pending = s.pending := by simp [bootApply]

@[simp] theorem mountShow_pending (s : State) : (mountShow s).pending = s.pending := by
  unfold mountShow; dsimp only; (repeat' (first | (simp; done) | split | rw [forEach_pending] | intro))

@[simp] theorem altNote_pending (s : State) (kind slot : Nat) : (altNote s kind slot).pending = s.pending := by
  simp [altNote]

@[simp] theorem imagesOk_pending (s : State) : (imagesOk s).pending = s.pending := by
  unfold imagesOk; (repeat' split) <;> simp

@[simp] theorem seedsLoad_pending (s : State) : (seedsLoad s).pending = s.pending := by
  unfold seedsLoad; (repeat' (first | (simp; done) | split | rw [forEach_pending] | intro))

@[simp] theorem mapLoad_pending (s : State) : (mapLoad s).pending = s.pending := by unfold mapLoad; (repeat' split) <;> simp

@[simp] theorem storeLoad_pending (s : State) : (storeLoad s).pending = s.pending := by simp [storeLoad]

theorem imagesLoad_pending {s t : State} (h : imagesLoad s = some t) : t.pending = s.pending := by
  unfold imagesLoad at h
  split at h
  · cases h
    refine (forEach_pending _ _ _ ?_).trans ?_
    · intros; split <;> simp
    · simp
  · cases h

@[simp] theorem exitRefused_pending (s : State) : (exitRefused s).pending = s.pending := by simp [exitRefused]

@[simp] theorem exitArrive_pending (s : State) (t : TransSt) : (exitArrive s t).pending = s.pending := by
  unfold exitArrive; (repeat' split) <;> simp

@[simp] theorem plainArrive_pending (s : State) (t : TransSt) : (plainArrive s t).pending = s.pending := by
  simp [plainArrive]

@[simp] theorem withLoad_pending (t : State) (ws : List (Nat × Word)) : (withLoad t ws).pending = t.pending := by
  simp [withLoad]

@[simp] theorem releaseNote_pending (s : State) (c t : Nat) : (releaseNote s c t).pending = s.pending := by
  simp [releaseNote]

@[simp] theorem coreStruck_pending (s : State) (e : Fin 6 × Fin 3 × Bool × Nat) : (coreStruck s e).pending = s.pending := by
  simp [coreStruck]

@[simp] theorem corePatrol_pending (s : State) (c m w : Nat) (double : Bool) : (corePatrol s c m w double).pending = s.pending := by
  simp [corePatrol]

@[simp] theorem sentryFeed_pending (s : State) (bs : List Bool) : (sentryFeed s bs).pending = s.pending := by
  simp [sentryFeed]

@[simp] theorem chainRemap_pending (s : State) (n : Nat) (new : Inst) : (chainRemap s n new).pending = s.pending := by
  simp [chainRemap]

@[simp] theorem chainCutTo_pending (s : State) (n : Nat) (new : Inst) : (chainCutTo s n new).pending = s.pending := by
  unfold chainCutTo; (repeat' split) <;> simp

@[simp] theorem crWrite_pending (s : State) (c n : Nat) (v : Word) : (crWrite s c n v).pending = s.pending := by
  simp [crWrite]

@[simp] theorem ctrSpent_pending (s : State) (x : Nat) : (ctrSpent s x).pending = s.pending := by simp [ctrSpent]

@[simp] theorem partnerHeard_pending (s : State) (p : Nat) : (partnerHeard s p).pending = s.pending := by
  simp [partnerHeard]

@[simp] theorem wordsStruck_pending (s : State) (l : List (Bool × Bool × Nat)) : (wordsStruck s l).pending = s.pending := by
  simp [wordsStruck]

end Sys2Proof.Machine
end

