-- ==== Sys2Proof/Machine/Pins.lean ====
section
/-! DEFINITION. The output pins as views of the state (R116, R122, R235, R244, R525, R685, R689): no pin is a field of its own. -/

namespace Sys2Proof.Machine

/-- What an output does to its pin: high-impedance, or a level. -/
inductive PinOut where
  | hiZ | low | high
  deriving DecidableEq, Repr

/-- VDDIO is good; until then every output is high-impedance (R122, R793). -/
def ioGood (s : State) : Bool := nth s.pwr.rails 6 false

/-- An output that drives both levels. -/
def pinDrive (s : State) (b : Bool) : PinOut := if !ioGood s then .hiZ else if b then .high else .low

/-- An open-drain output that is asserted by pulling low. -/
def pinPull (s : State) (b : Bool) : PinOut := if ioGood s && b then .low else .hiZ

/-- HWAKE (R235) and HPRE (R244). -/
def pinHwake (s : State) : PinOut := pinDrive s (hwakeOn s)
def pinHpre (s : State) : PinOut := pinDrive s (hpreOn s)

/-- HIRQ#, active low (R525). -/
def pinHirq (s : State) : PinOut := pinDrive s (!hirqOn s)

/-- FAULT#, open-drain (R689): asserted in OFF and throughout start-up, and while the Scarecrow asserts it. -/
def pinFault (s : State) : PinOut :=
  pinPull s (s.flag F.SAF_ST_FAULTN || decide (s.pstate = OFF))

/-- STOPA and STOPB (R685): `wave` is the wave's level of STOPA where the outputs are dynamic or held; test mode holds both
low (R788). -/
def pinStopA (s : State) (wave : Bool) : PinOut := pinDrive s (!s.pwr.test && (stopLevels s wave).1)
def pinStopB (s : State) (wave : Bool) : PinOut := pinDrive s (!s.pwr.test && (stopLevels s wave).2)

/-- MICPWRg (R116, R136) and PCKg (R155). -/
def pinMicpwr (s : State) (g : Nat) : PinOut := pinDrive s (groupPowered s g)
def pinPck (s : State) (g : Nat) : PinOut := pinDrive s ((s.mic.pck[g]?.map (·.high)).getD false)

/-- HSD0 to HSD3 outside a response phase, which is no state of the model (R68). -/
def pinHsd (_ : State) : PinOut := .hiZ

end Sys2Proof.Machine
end

