-- ==== Sys2Proof/Tests/Slice0.lean ====
section
/-! SUPPORT. The model's own tests: well-formedness, effects read off the manual's worked examples, and for every statement
that has hypotheses a concrete state and operands that meet them, clause by clause. -/

set_option maxRecDepth 100000
set_option Elab.async false

namespace Sys2Proof.Tests

open Sys2Proof Sys2Proof.Machine

/-! ## Well-formedness: one ill-formed term for each check -/

theorem test_wf_write : (Instr.write 0 2 [5] 0).wellFormed = false ∧ (Instr.write 0 1 [5] 0).wellFormed = true := by decide
theorem test_wf_undefinedOpcode : (Instr.undefinedOpcode 0x0B 0 0 0).wellFormed = false ∧ (Instr.undefinedOpcode 1 0 0 0).wellFormed = true := by decide
theorem test_wf_strips : (Instr.swathBlockStart 8).wellFormed = false ∧ (Instr.unloadBlockSend 8).wellFormed = false ∧
    (Instr.uack 8 256).wellFormed = false ∧ (Instr.uack 7 255).wellFormed = false ∧ (Instr.uack 7 256).wellFormed = true := by decide
theorem test_wf_rowRepair : (Instr.rowRepair 32768).wellFormed = false ∧ (Instr.rowRepair 32767).wellFormed = true := by decide
theorem test_wf_coreEccPatrol : (Instr.coreEccPatrol 0 0 65536 (false, [])).wellFormed = false ∧ (Instr.coreEccPatrol 4 2 0 (false, [])).wellFormed = false ∧
    (Instr.coreEccPatrol 4 0 32767 (false, [])).wellFormed = true := by decide
theorem test_wf_shifts : (Instr.slli ⟨0, true, 1, 1, 32⟩).wellFormed = false ∧ (Instr.srli ⟨0, true, 1, 1, 0⟩).wellFormed = false ∧
    (Instr.srai ⟨0, true, 1, 1, 0⟩).wellFormed = false ∧ (Instr.rori ⟨0, true, 1, 1, 0⟩).wellFormed = false ∧
    (Instr.rori ⟨0, true, 1, 1, 96⟩).wellFormed = true := by decide
theorem test_wf_vector_shifts : (Instr.vsll ⟨0, true, 1, 1, 0⟩ 2).wellFormed = false ∧ (Instr.vsrl ⟨0, true, 1, 1, 0⟩ 0).wellFormed = false ∧
    (Instr.vsra ⟨0, true, 1, 1, 0⟩ 0).wellFormed = false ∧ (Instr.vsrar ⟨0, true, 1, 1, 0⟩ 0).wellFormed = false := by decide
theorem test_wf_vector_compares : (Instr.vcmpEq ⟨0, true, 1, 1, 0⟩ 2).wellFormed = false ∧ (Instr.vcmpLt ⟨0, true, 1, 1, 0⟩ 0).wellFormed = false ∧
    (Instr.vcmpLtu ⟨0, true, 1, 1, 0⟩ 0).wellFormed = false ∧ (Instr.vcmpLe ⟨0, true, 1, 1, 0⟩ 0).wellFormed = false := by decide
theorem test_wf_vany_vall : (Instr.vany ⟨0, true, 1, 1, 0⟩ 2).wellFormed = false ∧ (Instr.vall ⟨0, true, 1, 1, 0⟩ 0).wellFormed = false := by decide
theorem test_wf_queues : (Instr.entryArrive 64).wellFormed = false ∧ (Instr.creditReturn 64).wellFormed = false ∧
    (Instr.hqPop 8 0).wellFormed = false := by decide
theorem test_wf_interrupts : (Instr.sourceEdge 0).wellFormed = false ∧ (Instr.sourceEdge 128).wellFormed = false ∧
    (Instr.delivery 16).wellFormed = false ∧ (Instr.fallowExpire 16).wellFormed = false ∧ (Instr.claim 5).wellFormed = false ∧
    (Instr.pendClear 4 0).wellFormed = false := by decide

/-- No word spells a command: the table gives its rows no bits. -/
theorem test_no_word_is_a_command : decodeTableWord 32 0 = none ∧ (State.reset.withFetchWord 32 0).pending = [] := by decide +kernel

/-! ## States that the tests start from -/

/-- Fields written in order. -/
def puts (l : List (Fld × Nat)) (s : State) : State := l.foldl (fun s e => s.put e.1 e.2) s
/-- WATCH, locked on class 3 with M of code 4, RST# high, the Scarecrow running. -/
def inWatch : State := { puts [(F.PWR_STATE_STATE, WATCH), (F.CLK_STAT_LOCK, 1)] State.reset with clk.cls := 3, clk.mult := 4, pwr.rst := false, frw.scState := C_RUN }
/-- A message of a type that waits for this device. -/
def rx (typ param src : Nat) (body : List Nat) : RxMsg := ⟨1, ⟨typ, 0, src, false, 1, 1, param, body, []⟩, true, none, 0⟩
def withRx (x : Nat) (r : RxMsg) (s : State) : State :=
  { s.setHgp x { s.hgp x with rx := [r] } with clk := { s.clk with await := [1, 2] } }
/-- The state once the message has been taken. -/
def taken (s : State) (x typ : Nat) : State := match msgOwn s x typ with | some (_, u) => u | none => s
def crcOf (op addr cnt : Nat) (ws : List Word) : BitVec 16 := BitVec.ofNat 16 (hostCrc op addr cnt ws)
/-- A public key, and a record of 32 zero bytes signed under it. -/
def keyT : List Nat := bytesOfBe 64 0x9fad84aeae08bbef7f010014d82cef6a09de2b0cf871b5ce0c4f1d13a59a593407cb45769f1070e2c2470fe5b1bfe63133c0b0cdc64ea4bf3791a8ec2a07fd4f
def recT : List Nat := List.replicate 32 0 ++ bytesOfBe 64 0x697d7b8eef74dd5796e02ed6480487a8d99a62d16022815be5be81bd7e9dbdba3ed27cac54c60a533fea178e59a16fbde52581ec488d8f61d70f2b02a5cf1d34
/-- Powered, clocked microphone groups with every input enabled. -/
def withMics : State := { puts [(F.PWR_MICPWR_GRP, 15), (F.MIC_INEN_EN, 0xFFFFFFFF), (⟨A.CLK_PDM, 0, 16⟩, 0x4444)] inWatch with mic.div := [32, 32, 32, 32] }
/-! One unit of a kind in a given state, the others as at reset. -/
def sadsT (q : SadSt) : List SadSt := List.replicate 2 { q with run := true }
def queT (n : Nat) (q : QueueSt) : List QueueSt := setNth (List.replicate 64 QueueSt.reset) n q
def routeT (d : Nat) (r : RouteSt) : List RouteSt := setNth (List.replicate 148 RouteSt.reset) d r
def coreT (c : Nat) (q : CoreSt) : List CoreSt := setNth (List.replicate 6 CoreSt.reset) c q
def stripT (k : Nat) (q : StripSt) : List StripSt := setNth (List.replicate 8 StripSt.reset) k q
def adcT (x : Nat) (q : AdcConv) : List AdcConv := setNth (List.replicate 2 AdcConv.reset) x q
def portT (x : Nat) (q : HgPort) : List HgPort := setNth (List.replicate 2 HgPort.reset) x q
/-- An image of no section for the Furrow-F cores, of half programs, version 7, signed under that key; and the store of slot B with it. -/
def imgT : List Nat := bytesOfBe 100 0x5446494d01010700000000000000000000000000000000000000000000000000697d7b8eef74dd5796e02ed6480487a8d99a62d16022815be5be81bd7e9dbdba096cb6f92141abde915dd35fe0d6e0e4d77c5a49c1445299a7b1765bcf0d7959c19fe4dd
def withImage : State := { inWatch with nvm.fwkey := some keyT, nvm.valid := 2, nvm.slot := setNth inWatch.nvm.slot 1 (memWrite [] 0 imgT) }
def imgOk (s : State) (k n : Nat) : Image := match imageCheck s k n with | .ok i => i | .error _ => ⟨0, 0, 0, [], []⟩
/-- Core F1 in INIT, the sentry core and the Scarecrow running. -/
def withCores : State := puts [(F.FRW_COREc_ST_STATE 1, C_RUN), (F.FRW_COREc_ST_INIT 1, 1), (F.FRW_COREc_CTL_RUN 1, 1), (F.FRW_SENT_CTL_STATE, C_RUN)] inWatch
def withCore (c : Nat) (q : CoreSt) (s : State) : State := { s with frw.core := coreT c q }
/-- Register s3 of F1 holds an address; its store buffer holds `n` stores of 16 bytes there. -/
def memCore (a : Word) : State := withCore 1 { CoreSt.reset with regs := CoreRegs.reset.setS 3 a } withCores
def bufCore (a : Word) (n : Nat) : State := withCore 1 { CoreSt.reset with regs := CoreRegs.reset.setS 3 a, buf := List.replicate n (a.toNat, [1, 2, 3, 4, 5, 6, 7, 8, 9, 10, 11, 12, 13, 14, 15, 16]) } withCores
def frameT (vc kind seq : Nat) (pl : List Nat) : List Byte := (frameBytes vc kind seq pl).map (BitVec.ofNat 8)
def noteT : Msg := ⟨T_NOTICE, 0, 0, false, 1, 1, 0, [], []⟩
def confT (key gen : Nat) : RxMsg :=
  let m : Msg := ⟨T_KEY_CONFIRM, 0, 1, true, 1, 1, 0, [], []⟩
  ⟨1, { m with trailer := trailerOf key 0 gen m }, true, none, 0⟩
def keyP (k : KeySt) (r : List RxMsg) (s : State) : State :=
  { s.setHgp 0 { s.hgp 0 with key := k, rx := r } with clk := { s.clk with await := [1, 2] } }
def pduT (p kind seq : Nat) : List Nat := let b := [p, kind, 0, 0] ++ bytesOfLe 4 seq ++ List.replicate 8 0; b ++ bytesOfLe 4 (crc32c b)
def partT : SafPart := ⟨0, false, false, none, none⟩

theorem calmF (s : State) (c : Nat) (h : (s.core c).drop = false ∧ s.flag (F.FRW_COREc_CTL_RUN c) = true ∧ s.flag (F.FRW_COREc_ST_INIT c) = true) : Calm s c :=
  .inr (.inr ⟨h.1, h.2.1, .inl h.2.2⟩)
theorem calmS (s : State) (c : Nat) (h : 4 ≤ c) : Calm s c := .inr (.inl h)
theorem plainF (s : State) (c : Nat) (h : (s.core c).slot = none ∧ (bundleOf (s.core c)).br = none ∧ loopAt (s.core c).regs (s.core c).pc 0 = false ∧ loopAt (s.core c).regs (s.core c).pc 1 = false) (k : Calm s c) : PlainEnd s c :=
  ⟨h.1, h.2.1, h.2.2.1, h.2.2.2, k⟩

/-! ## Effects, from the manual's values and worked examples -/

/-- R73: the check value of the CRC over the string 123456789. -/
theorem test_crc16_check_value : crc16 [0x31, 0x32, 0x33, 0x34, 0x35, 0x36, 0x37, 0x38, 0x39] = 0x29B1 := by decide +kernel
/-- R622: the check value of the frame CRC over the string 123456789. -/
theorem test_crc32_check_value : crc32 [0x31, 0x32, 0x33, 0x34, 0x35, 0x36, 0x37, 0x38, 0x39] = 0xCBF43926 := by decide +kernel
/-- The published example of AES-128 (FIPS 197, appendix C.1), the standard that R642 names. -/
theorem test_aes128_published : aes128 (upto 16) ((upto 16).map (fun i => 17 * i)) =
    [0x69, 0xC4, 0xE0, 0xD8, 0x6A, 0x7B, 0x04, 0x30, 0xD8, 0xCD, 0xB7, 0x80, 0x70, 0xB4, 0xC5, 0x5A] := by decide +kernel
/-- The published digest of the string abc under SHA-256, which R734 names. -/
theorem test_sha256_published : sha256 [0x61, 0x62, 0x63] =
    0xBA7816BF8F01CFEA414140DE5DAE2223B00361A396177A9CB410FF61F20015AD := by decide +kernel
/-- The example of chapter 6: DELAY = 63 steps at 192 kHz is three comb samples and φ = 60. -/
theorem test_delay_split : delaySplit 3072000 16 63 = (3, 60) := by decide +kernel
/-- The example of chapter 9: the block lengths of its two strips. -/
theorem test_block_bytes : blockBytes 20 32 = 20544 ∧ blockBytes 24 4 = 3136 := by decide
/-- The example of chapter 8: S = t − 61 and D = 19 800 over 60 frames score 891. -/
theorem test_drill_score : cellScore 59 19800 = 891 := by decide
/-- The example of chapter 8: a floor 21.60 dB above FREF gives the wake threshold 932 and the stop threshold 856. -/
theorem test_drill_thresholds : let s := (State.reset.putI (F.LSN_SADu_FLOOR_FLOOR 1) (-3840)).putI (F.LSN_SADu_FREF_FREF 1) (-6000)
    thetaWake s ⟨0, 1, 760, 0, 96, 0, 6, true⟩ 1 = 932 ∧ thetaStop s ⟨0, 4, 760, 0, 96, 0, 6, true⟩ 1 = 856 := by decide +kernel
/-- The example of chapter 15: with F3 and the host enabled and PTR 4, source 41 goes to F3. -/
theorem test_interrupt_target : intTarget (puts [(⟨A.INT_ENt_w 3 1, 9, 1⟩, 1), (⟨A.INT_ENt_w 4 1, 9, 1⟩, 1), (F.FRW_COREc_ST_STATE 3, C_IDLE), (F.INT_Gg_ST_PTR 5, 4)] inWatch) 41 = some 3 := by decide +kernel
/-- R374: a sum past 2^31 − 1 clamps and sets SATF, and the word after the bundle is next. -/
theorem test_adds_clamps : let s := withCore 1 { CoreSt.reset with regs := (CoreRegs.reset.setS 3 0x7FFFFFFF).setS 4 1 } withCores
    ∃ t, exec (.adds ⟨1, true, 3, 3, 4⟩) s = .next t ∧ (t.core 1).regs.sv 3 = 0x7FFFFFFF ∧ (t.core 1).regs.fstat.getLsbD 0 = true ∧ (t.core 1).pc = 4 :=
  ⟨_, rfl, by decide +kernel⟩
/-- The invariant holds at reset with any well-formed command waiting. -/
theorem test_hypotheses_StepNeverStopsAndKeepsSound : Sound { State.reset with pending := [.tick 0 0 0] } := by
  unfold Sound QueueOk Canonical Shaped; decide +kernel

/-! ## The hypotheses of the statements are met -/

theorem test_hypotheses_StepRunsFrontCommand :
    (∃ (s : State), s.pending = [] ∧ s.clk.present = true ∧ s.pwr.rst = false ∧ s.pwr.test = false) ∧
    (∃ (s : State), s.pending = [] ∧ (s.clk.present = false ∨ s.pwr.rst = true ∨ s.pwr.test = true)) :=
  ⟨⟨({ inWatch with clk.present := true, pwr.rst := false } : State), by decide +kernel⟩,
    ⟨({ inWatch with clk.present := false } : State), by decide +kernel⟩⟩





theorem test_hypotheses_RekeyInProgress :
    (∃ (s : State) (x : Fin 2), s.get (F.HGx_SEC_KST x) = 3) :=
  ⟨puts [(F.HGx_SEC_KST 0, 3)] inWatch, 0, by decide +kernel⟩

theorem test_hypotheses_ClockLossAndReturn :
    (∃ (s : State), s.clk.present = true) ∧
    (∃ (s : State), s.clk.present = true ∧ wdoRuns s = false) ∧
    (∃ (s : State), s.clk.present = true ∧ wdoRuns s = true ∧ s.awake = false) ∧
    (∃ (s : State), s.clk.present = false) ∧
    (∃ (s : State), s.clk.present = false ∧ wdoRuns s = true) ∧
    (∃ (s : State), (s.clk.present = true ∨ wdoRuns s = false)) ∧
    (∃ (s : State), s.clk.present = false ∧ s.clk.longLoss = false ∧ s.pstate = SENTRY ∧ s.clk.phase = .run ∧ s.pwr.trans = none) ∧
    (∃ (s : State), s.clk.present = false ∧ s.clk.longLoss = false ∧ s.awake = true ∧ s.clk.phase = .run) ∧
    (∃ (s : State), s.clk.present = true ∧ s.clk.phase = .run ∧ s.clk.why = .none ∧ s.flag F.CLK_STAT_LOCK = true) :=
  ⟨⟨inWatch, by decide +kernel⟩,
    ⟨puts [(F.PWR_STATE_STATE, SENTRY)] inWatch, by decide +kernel⟩,
    ⟨({ (puts [(F.PWR_STATE_STATE, SENTRY)] inWatch) with clk.phase := .lock } : State), by decide +kernel⟩,
    ⟨({ inWatch with clk.present := false } : State), by decide +kernel⟩,
    ⟨({ (puts [(F.PWR_STATE_STATE, WATCH)] inWatch) with clk.present := false } : State), by decide +kernel⟩,
    ⟨inWatch, by decide +kernel⟩,
    ⟨({ (puts [(F.PWR_STATE_STATE, SENTRY)] inWatch) with clk.present := false } : State), by decide +kernel⟩,
    ⟨({ inWatch with clk.present := false } : State), by decide +kernel⟩,
    ⟨inWatch, by decide +kernel⟩⟩

theorem test_hypotheses_ClockWindowsAndLocks :
    (∃ (s : State), wdoRuns s = true ∧ s.clk.present = true ∧ stepRuns s 1 = false ∧ ((s.clk.phase = .lock ∧ (s.clk.why = .plan ∨ s.clk.why = .mOnly)) ∨ (s.clk.phase = .hold ∧ s.clk.failed = true))) ∧
    (∃ (s : State) (n : Nat), wdoRuns s = true ∧ s.clk.present = true ∧ stepRuns s 1 = true ∧ classOf n ≠ 0 ∧ classOf n = s.clk.startCls) ∧
    (∃ (s : State) (n : Nat), wdoRuns s = true ∧ s.clk.present = true ∧ stepRuns s 1 = true ∧ (classOf n = 0 ∨ classOf n ≠ s.clk.startCls)) ∧
    (∃ (s : State), (wdoRuns s = false ∨ s.clk.present = false)) ∧
    (∃ (s : State), wdoRuns s = true ∧ s.clk.present = true ∧ s.get F.CLK_WDO_REF ≠ 0) ∧
    (∃ (s : State), s.clk.present = true ∧ stepRuns s 2 = false ∧ s.clk.phase = .lock ∧ s.clk.why = .plan ∧ transWaits s .lock = false ∧ hgUp s 0 = false ∧ hgUp s 1 = false) ∧
    (∃ (s : State), s.clk.phase = .retrain ∧ s.clk.present = true ∧ hgTraining s 0 = false ∧ hgTraining s 1 = false ∧ s.clk.why = .plan ∧ s.pwr.held = none ∧ s.pwr.offResp = false) ∧
    (∃ (s : State), s.clk.phase = .hold ∧ s.clk.why = .plan ∧ s.clk.failed = false) :=
  ⟨⟨({ inWatch with clk.phase := .lock, clk.why := .plan } : State), by decide +kernel⟩,
    ⟨({ inWatch with pwr.start := some ⟨[], false, 0, []⟩, clk.startCls := 3 } : State), 10000, by decide +kernel⟩,
    ⟨({ inWatch with pwr.start := some ⟨[], false, 0, []⟩, clk.startCls := 2 } : State), 10000, by decide +kernel⟩,
    ⟨({ inWatch with clk.present := false } : State), by decide +kernel⟩,
    ⟨puts [(F.CLK_WDO_REF, 1)] inWatch, by decide +kernel⟩,
    ⟨({ inWatch with clk.phase := .lock, clk.why := .plan } : State), by decide +kernel⟩,
    ⟨({ inWatch with clk.phase := .retrain, clk.why := .plan } : State), by decide +kernel⟩,
    ⟨({ inWatch with clk.phase := .hold, clk.why := .plan } : State), by decide +kernel⟩⟩

def stClockPlanMessages_0 : State := puts [(F.SYS_STRAP_DEVID, 1)] (withRx 0 (rx T_CLOCK_PLAN 7 0 [3, 2, 0, 0]) inWatch)
def stClockPlanMessages_1 : State := puts [(F.SYS_STRAP_DEVID, 1)] (withRx 0 (rx T_CLOCK_PLAN 7 0 [2, 5, 0, 0]) inWatch)
def stClockPlanMessages_2 : State := ({ (puts [(F.SYS_STRAP_DEVID, 1)] (withRx 0 (rx T_CLOCK_PLAN 7 0 [1, 2, 0, 0]) inWatch)) with clk.cls := 1 } : State)
def stClockPlanMessages_3 : State := withRx 0 (rx T_CLOCK_PLAN 7 0 [3, 2, 0, 0]) inWatch
def stClockPlanMessages_4 : State := ({ (puts [(F.HG0_ROUTEp_VALID 2, 1)] (withRx 0 (rx T_PLAN_ACK 0 1 []) inWatch)) with clk.phase := .wait, clk.acks := [1, 2] } : State)
def stClockPlanMessages_5 : State := ({ (puts [(F.HG0_ROUTEp_VALID 1, 1)] (withRx 0 (rx T_PLAN_ACK 0 1 []) inWatch)) with clk.phase := .wait, clk.acks := [1, 2] } : State)
def stClockPlanMessages_6 : State := withRx 0 (rx T_PLAN_ACK 9 1 []) inWatch

theorem test_hypotheses_ClockPlanMessages :
    (∃ (s : State) (u : State) (x : Fin 2) (r : RxMsg), msgOwn s x T_CLOCK_PLAN = some (r, u) ∧ s.devid ≠ 0 ∧ 2 ≤ nth r.msg.body 0 0 ∧ nth r.msg.body 0 0 ≤ 4 ∧ s.clk.phase = .run ∧ nth r.msg.body 0 0 = s.clk.cls) ∧
    (∃ (s : State) (u : State) (x : Fin 2) (r : RxMsg), msgOwn s x T_CLOCK_PLAN = some (r, u) ∧ s.devid ≠ 0 ∧ 1 ≤ nth r.msg.body 0 0 ∧ nth r.msg.body 0 0 ≤ 4 ∧ s.clk.phase = .run ∧ nth r.msg.body 0 0 ≠ s.clk.cls ∧ s.mon.bus = []) ∧
    (∃ (s : State) (u : State) (x : Fin 2) (r : RxMsg), msgOwn s x T_CLOCK_PLAN = some (r, u) ∧ s.devid ≠ 0 ∧ nth r.msg.body 0 0 = 1 ∧ s.clk.phase = .run ∧ s.clk.cls = 1) ∧
    (∃ (s : State) (u : State) (x : Fin 2) (r : RxMsg), msgOwn s x T_CLOCK_PLAN = some (r, u) ∧ (s.devid = 0 ∨ nth r.msg.body 0 0 = 0 ∨ 4 < nth r.msg.body 0 0)) ∧
    (∃ (s : State) (u : State) (x : Fin 2) (r : RxMsg), msgOwn s x T_PLAN_ACK = some (r, u) ∧ s.devid = 0 ∧ s.clk.phase = .wait ∧ r.msg.param = s.hg.planTag ∧ (∃ p ∈ s.clk.acks, p ≠ r.msg.src ∧ s.flag (F.HG0_ROUTEp_VALID p) = true)) ∧
    (∃ (s : State) (u : State) (x : Fin 2) (r : RxMsg), msgOwn s x T_PLAN_ACK = some (r, u) ∧ s.devid = 0 ∧ s.clk.phase = .wait ∧ r.msg.param = s.hg.planTag ∧ s.clk.bus = false ∧ (∀ p ∈ s.clk.acks, p = r.msg.src ∨ s.flag (F.HG0_ROUTEp_VALID p) = false)) ∧
    (∃ (s : State) (u : State) (x : Fin 2) (r : RxMsg), msgOwn s x T_PLAN_ACK = some (r, u) ∧ (s.devid ≠ 0 ∨ s.clk.phase ≠ .wait ∨ r.msg.param ≠ s.hg.planTag)) ∧
    (∃ (s : State) (x : Fin 2), msgOwn s x T_CLOCK_PLAN = none) ∧
    (∃ (s : State) (x : Fin 2), msgOwn s x T_PLAN_ACK = none) :=
  ⟨⟨stClockPlanMessages_0, taken stClockPlanMessages_0 0 T_CLOCK_PLAN, 0, rx T_CLOCK_PLAN 7 0 [3, 2, 0, 0], by decide +kernel⟩,
    ⟨stClockPlanMessages_1, taken stClockPlanMessages_1 0 T_CLOCK_PLAN, 0, rx T_CLOCK_PLAN 7 0 [2, 5, 0, 0], by decide +kernel⟩,
    ⟨stClockPlanMessages_2, taken stClockPlanMessages_2 0 T_CLOCK_PLAN, 0, rx T_CLOCK_PLAN 7 0 [1, 2, 0, 0], by decide +kernel⟩,
    ⟨stClockPlanMessages_3, taken stClockPlanMessages_3 0 T_CLOCK_PLAN, 0, rx T_CLOCK_PLAN 7 0 [3, 2, 0, 0], by decide +kernel⟩,
    ⟨stClockPlanMessages_4, taken stClockPlanMessages_4 0 T_PLAN_ACK, 0, rx T_PLAN_ACK 0 1 [], by decide +kernel⟩,
    ⟨stClockPlanMessages_5, taken stClockPlanMessages_5 0 T_PLAN_ACK, 0, rx T_PLAN_ACK 0 1 [], by decide +kernel⟩,
    ⟨stClockPlanMessages_6, taken stClockPlanMessages_6 0 T_PLAN_ACK, 0, rx T_PLAN_ACK 9 1 [], by decide +kernel⟩,
    ⟨inWatch, 0, by decide +kernel⟩,
    ⟨inWatch, 0, by decide +kernel⟩⟩

theorem test_hypotheses_HspQueries :
    (∃ (s : State) (addr : BitVec 24) (cnt : BitVec 16) (crc : BitVec 16), hspAnswers s = true ∧ crc.toNat = hostCrc OP_TICK addr.toNat cnt.toNat [] ∧ frameBad OP_TICK addr.toNat cnt.toNat = false) ∧
    (∃ (s : State) (addr : BitVec 24) (cnt : BitVec 16) (crc : BitVec 16), hspAnswers s = true ∧ crc.toNat = hostCrc OP_STATUS addr.toNat cnt.toNat [] ∧ frameBad OP_STATUS addr.toNat cnt.toNat = false ∧ cntDev cnt.toNat = 0) ∧
    (∃ (s : State) (addr : BitVec 24) (cnt : BitVec 16) (crc : BitVec 16), hspAnswers s = true ∧ crc.toNat = hostCrc OP_READ addr.toNat cnt.toNat [] ∧ frameBad OP_READ addr.toNat cnt.toNat = false ∧ cntDev cnt.toNat = 0 ∧ rangeResponds s addr.toNat (cntN cnt.toNat) = true ∧ readWins addr.toNat (cntN cnt.toNat) = []) ∧
    (∃ (s : State) (addr : BitVec 24) (cnt : BitVec 16) (crc : BitVec 16), hspAnswers s = true ∧ crc.toNat = hostCrc OP_WINDOW addr.toNat cnt.toNat [] ∧ frameBad OP_WINDOW addr.toNat cnt.toNat = false ∧ cntDev cnt.toNat = 0 ∧ addr.toNat < 0x800000 ∧ rangeResponds s addr.toNat (cntN cnt.toNat) = true) ∧
    (∃ (s : State) (addr : BitVec 24) (cnt : BitVec 16) (crc : BitVec 16) (op : BitVec 8), hspAnswers s = true ∧ opDefined op.toNat = false ∧ crc.toNat = hostCrc op.toNat addr.toNat cnt.toNat []) :=
  ⟨⟨inWatch, 0, 0, crcOf OP_TICK 0 0 [], by decide +kernel⟩,
    ⟨inWatch, 0, 0, crcOf OP_STATUS 0 0 [], by decide +kernel⟩,
    ⟨inWatch, 0x030004, 2, crcOf OP_READ 0x030004 2 [], by decide +kernel⟩,
    ⟨inWatch, 0x400000, 2, crcOf OP_WINDOW 0x400000 2 [], by decide +kernel⟩,
    ⟨inWatch, 0, 0, crcOf 1 0 0 [], 1, by decide +kernel⟩⟩

def stHspCommitsAndStaging_6 : State := ({ inWatch with hsp.checks := [⟨.host, [(A.SWA_CFG, 0xFFFFFFFF)]⟩], mic.waitRemap := [] } : State)
def stHspCommitsAndStaging_7 : State := ({ inWatch with hsp.checks := [⟨.host, []⟩] } : State)
def stHspCommitsAndStaging_8 : State := ({ inWatch with hsp.checks := [⟨.core 2, [(A.SWA_CFG, 0xFFFFFFFF)]⟩] } : State)
def stHspCommitsAndStaging_9 : State := ({ inWatch with hsp.checks := [⟨.sentry, []⟩] } : State)

theorem test_hypotheses_HspCommitsAndStaging :
    (∃ (s : State) (addr : BitVec 24) (cnt : BitVec 16) (crc : BitVec 16) (ws : List Word) (l : List (Nat × Word)), hspAnswers s = true ∧ s.flag F.SYS_CMT_STICKY = false ∧ hostChecking s = false ∧ s.hsp.stage = some l ∧ crc.toNat = hostCrc OP_WRITE addr.toNat cnt.toNat ws ∧ frameBad OP_WRITE addr.toNat cnt.toNat = false ∧ cntDev cnt.toNat = 0 ∧ ws.length = cntN cnt.toNat ∧ stageOver s addr.toNat ws = false ∧ writeDenied s addr.toNat ws.length = false) ∧
    (∃ (s : State) (addr : BitVec 24) (cnt : BitVec 16) (crc : BitVec 16) (ws : List Word), hspAnswers s = true ∧ s.flag F.SYS_CMT_STICKY = false ∧ hostChecking s = false ∧ s.hsp.stage = none ∧ crc.toNat = hostCrc OP_WRITE addr.toNat cnt.toNat ws ∧ frameBad OP_WRITE addr.toNat cnt.toNat = false ∧ cntDev cnt.toNat = 0 ∧ ws.length = cntN cnt.toNat ∧ writeDenied s addr.toNat ws.length = false ∧ needsCheck (writeWords addr.toNat ws) = true) ∧
    (∃ (s : State) (cnt : BitVec 16) (crc : BitVec 16), hspAnswers s = true ∧ s.flag F.SYS_CMT_STICKY = false ∧ hostChecking s = false ∧ crc.toNat = hostCrc OP_COMMIT 0 cnt.toNat [] ∧ cnt.toNat = 0) ∧
    (∃ (s : State) (cnt : BitVec 16) (crc : BitVec 16) (l : List (Nat × Word)), hspAnswers s = true ∧ s.flag F.SYS_CMT_STICKY = false ∧ hostChecking s = false ∧ s.hsp.stage = some l ∧ needsCheck l = true ∧ crc.toNat = hostCrc OP_COMMIT 1 cnt.toNat [] ∧ cnt.toNat = 0) ∧
    (∃ (s : State) (cnt : BitVec 16) (crc : BitVec 16), hspAnswers s = true ∧ s.flag F.SYS_CMT_STICKY = false ∧ hostChecking s = false ∧ crc.toNat = hostCrc OP_COMMIT 2 cnt.toNat [] ∧ cnt.toNat = 0) ∧
    (∃ (s : State) (addr : BitVec 24) (cnt : BitVec 16) (crc : BitVec 16) (ws : List Word) (u : State), hspAnswers s = true ∧ s.flag F.SYS_CMT_STICKY = false ∧ hostChecking s = false ∧ s.hsp.stage = none ∧ crc.toNat = hostCrc OP_WRITE addr.toNat cnt.toNat ws ∧ frameBad OP_WRITE addr.toNat cnt.toNat = false ∧ cntDev cnt.toNat = 0 ∧ ws.length = cntN cnt.toNat ∧ writeDenied s addr.toNat ws.length = false ∧ needsCheck (writeWords addr.toNat ws) = false ∧ u = applyNow .host (writeWords addr.toNat ws) (((hspSnap s).incWrap F.SYS_CMT_SEQ).put F.SYS_CMT_RESULT 2)) ∧
    (∃ (s : State) (cnt : BitVec 16) (crc : BitVec 16) (l : List (Nat × Word)) (u : State), hspAnswers s = true ∧ s.flag F.SYS_CMT_STICKY = false ∧ hostChecking s = false ∧ s.hsp.stage = some l ∧ needsCheck l = false ∧ crc.toNat = hostCrc OP_COMMIT 1 cnt.toNat [] ∧ cnt.toNat = 0 ∧ u = applyNow .host l (((stageSet (hspSnap s) none).incWrap F.SYS_CMT_SEQ).put F.SYS_CMT_RESULT 2)) ∧
    (∃ (s : State) (cnt : BitVec 16) (crc : BitVec 16), hspAnswers s = true ∧ s.flag F.SYS_CMT_STICKY = false ∧ hostChecking s = false ∧ s.hsp.stage = none ∧ crc.toNat = hostCrc OP_COMMIT 1 cnt.toNat [] ∧ cnt.toNat = 0) ∧
    (∃ (s : State) (a : BitVec 24) (cnt : BitVec 16) (crc : BitVec 16), hspAnswers s = true ∧ 1 ≤ a.toNat ∧ a.toNat ≤ 3 ∧ crc.toNat = hostCrc OP_ZEROIZE a.toNat cnt.toNat [] ∧ cnt.toNat = 0) ∧
    (∃ (s : State) (c : Commit) (rest : List Commit) (e : Nat × Nat), s.hsp.checks = c :: rest ∧ byHost c.origin = true ∧ admitWords s c.words false = some e ∧ s.mic.waitRemap = []) ∧
    (∃ (s : State) (c : Commit) (rest : List Commit) (u : State), s.hsp.checks = c :: rest ∧ byHost c.origin = true ∧ admitWords s c.words false = none ∧ u = acceptCommit c { s with hsp := { s.hsp with checks := rest } } ∧ u.mic.waitRemap = []) ∧
    (∃ (s : State) (c : Commit) (rest : List Commit) (e : Nat × Nat) (k : Nat), s.hsp.checks = c :: rest ∧ fcmtOf c.origin = some k ∧ k < 5 ∧ admitWords s c.words false = some e ∧ s.mic.waitRemap = []) ∧
    (∃ (s : State) (c : Commit) (rest : List Commit) (u : State) (k : Nat), s.hsp.checks = c :: rest ∧ fcmtOf c.origin = some k ∧ k < 5 ∧ admitWords s c.words false = none ∧ u = acceptCommit c { s with hsp := { s.hsp with checks := rest } } ∧ u.mic.waitRemap = []) ∧
    (∃ (s : State), s.hsp.checks = []) ∧
    (∃ (s : State) (a : BitVec 24), blockResponds s a.toNat = false) ∧
    (∃ (s : State) (a : BitVec 24) (w : Word), needsCheck [(a.toNat / 4 * 4, w)] = true ∧ (admitWords s [(a.toNat / 4 * 4, w)] false).isSome = true) ∧
    (∃ (s : State) (a : BitVec 24) (w : Word), blockResponds s a.toNat = true ∧ needsCheck [(a.toNat / 4 * 4, w)] = false) ∧
    (∃ (s : State) (a : BitVec 24) (w : Word), blockResponds s a.toNat = true ∧ needsCheck [(a.toNat / 4 * 4, w)] = true ∧ admitWords s [(a.toNat / 4 * 4, w)] false = none) ∧
    (∃ (s : State), s.pwr.deferring = false ∧ s.pstate ≠ OFF) ∧
    (∃ (s : State) (a : BitVec 24), s.pwr.deferring = false ∧ s.pstate ≠ OFF ∧ 0x120000 ≤ a.toNat ∧ a.toNat < 0x400000) :=
  ⟨⟨({ (puts [(F.SYS_CMT_STICKY, 0)] inWatch) with hsp.stage := some [] } : State), 0x050010, 1, crcOf OP_WRITE 0x050010 1 [5], [5], [], by decide +kernel⟩,
    ⟨({ (puts [(F.SYS_CMT_STICKY, 0)] inWatch) with hsp.stage := none } : State), 0x010004, 1, crcOf OP_WRITE 0x010004 1 [5], [5], by decide +kernel⟩,
    ⟨puts [(F.SYS_CMT_STICKY, 0)] inWatch, 0, crcOf OP_COMMIT 0 0 [], by decide +kernel⟩,
    ⟨({ (puts [(F.SYS_CMT_STICKY, 0)] inWatch) with hsp.stage := some [(0x010004, 5)] } : State), 0, crcOf OP_COMMIT 1 0 [], [(0x010004, 5)], by decide +kernel⟩,
    ⟨puts [(F.SYS_CMT_STICKY, 0)] inWatch, 0, crcOf OP_COMMIT 2 0 [], by decide +kernel⟩,
    ⟨inWatch, 0x00000C, 1, crcOf OP_WRITE 0x00000C 1 [5], [5], applyNow .host (writeWords 0x00000C [5]) (((hspSnap inWatch).incWrap F.SYS_CMT_SEQ).put F.SYS_CMT_RESULT 2), by decide +kernel⟩,
    ⟨({ inWatch with hsp.stage := some [(0x00000C, 5)] } : State), 0, crcOf OP_COMMIT 1 0 [], [(0x00000C, 5)], applyNow .host [(0x00000C, 5)] (((stageSet (hspSnap { inWatch with hsp.stage := some [(0x00000C, 5)] }) none).incWrap F.SYS_CMT_SEQ).put F.SYS_CMT_RESULT 2), by decide +kernel⟩,
    ⟨inWatch, 0, crcOf OP_COMMIT 1 0 [], by decide +kernel⟩,
    ⟨inWatch, 3, 0, crcOf OP_ZEROIZE 3 0 [], by decide +kernel⟩,
    ⟨stHspCommitsAndStaging_6, ⟨.host, [(A.SWA_CFG, 0xFFFFFFFF)]⟩, [], (admitWords (stHspCommitsAndStaging_6) [(A.SWA_CFG, 0xFFFFFFFF)] false).getD (0, 0), by decide +kernel⟩,
    ⟨stHspCommitsAndStaging_7, ⟨.host, []⟩, [], acceptCommit ⟨.host, []⟩ { (stHspCommitsAndStaging_7) with hsp := { (stHspCommitsAndStaging_7).hsp with checks := [] } }, by decide +kernel⟩,
    ⟨stHspCommitsAndStaging_8, ⟨.core 2, [(A.SWA_CFG, 0xFFFFFFFF)]⟩, [], (admitWords stHspCommitsAndStaging_8 [(A.SWA_CFG, 0xFFFFFFFF)] false).getD (0, 0), 2, by decide +kernel⟩,
    ⟨stHspCommitsAndStaging_9, ⟨.sentry, []⟩, [], acceptCommit ⟨.sentry, []⟩ { stHspCommitsAndStaging_9 with hsp := { stHspCommitsAndStaging_9.hsp with checks := [] } }, 4, by decide +kernel⟩,
    ⟨inWatch, by decide +kernel⟩,
    ⟨State.reset, 0x010004, by decide +kernel⟩,
    ⟨inWatch, BitVec.ofNat 24 A.SWA_CFG, 0xFFFFFFFF, by decide +kernel⟩,
    ⟨inWatch, 0x00000C, 5, by decide +kernel⟩,
    ⟨inWatch, BitVec.ofNat 24 A.CLK_PDM, 0, by decide +kernel⟩,
    ⟨inWatch, by decide +kernel⟩,
    ⟨inWatch, 0x120000, by decide +kernel⟩⟩

def stTunnel_2 : State := withRx 0 (rx T_REG_RSP 5 1 [0, 0]) inWatch
def stTunnel_3 : State := ({ (withRx 0 (rx T_REG_RSP 0x1000005 1 [0x12, 0, 0, 0, 1, 2, 3, 4, 5, 6, 7, 8]) inWatch) with hsp.tun := some (5, 1) } : State)
def stTunnel_4 : State := puts [(F.SYS_STRAP_DEVID, 1)] (withRx 0 (rx T_REG_REQ 5 0 [0x0B, 3, 0, 4, 0, 1, 0, 0]) inWatch)
def stTunnel_5 : State := puts [(F.SYS_TUNLAST_TAG, 5)] (withRx 0 (rx T_REG_REQ 5 0 []) inWatch)
def stTunnel_6 : State := ({ (withRx 0 (rx T_REG_RSP 5 1 [0x12, 0, 0, 0, 1, 2, 3, 4, 5, 6, 7, 8]) inWatch) with hsp.tun := some (5, 1) } : State)
def stTunnel_7 : State := puts [(F.SYS_STRAP_DEVID, 1)] (withRx 0 (rx T_REG_REQ 0x1000005 0 [0x0B, 3, 0, 4, 0, 1, 0, 0]) inWatch)
def stTunnel_10 : TunIn := ⟨5, 1, 2, 0x0C, 2, [7], 0⟩
def stTunnel_8 : State := ({ (puts [(F.SYS_STRAP_DEVID, 1)] (withRx 0 (rx T_REG_REQ 0x1010005 0 [0x02, 0, 0, 0x0C, 0, 2, 0, 0, 1, 0, 0, 0]) inWatch)) with hg.tun := some stTunnel_10 } : State)
def stTunnel_9 : State := puts [(F.SYS_STRAP_DEVID, 1)] (withRx 0 (rx T_REG_REQ 0x1010005 0 [0x02, 0, 0, 0x0C, 0, 2, 0, 0, 1, 0, 0, 0]) inWatch)
/-- The state once the message has been taken and its sender heard. -/
def heard (s : State) (x typ src : Nat) : State := partnerHeard (taken s x typ) src

theorem test_hypotheses_Tunnel :
    (∃ (s : State) (u : State) (v : State) (r : RxMsg), v = partnerHeard u r.msg.src ∧ s.hsp.tun.isSome = true ∧ s.clk.present = true) ∧
    (∃ (s : State) (u : State) (v : State) (r : RxMsg), v = partnerHeard u r.msg.src ∧ (s.hsp.tun = none ∨ s.clk.present = false)) ∧
    (∃ (s : State) (u : State) (v : State) (x : Fin 2) (r : RxMsg), v = partnerHeard u r.msg.src ∧ msgOwn s x T_REG_RSP = some (r, u) ∧ (s.hsp.tun ≠ some (r.msg.param % 65536, r.msg.src) ∨ s.hsp.tunBuf.length ≠ 192 * (r.msg.param / 65536 % 256))) ∧
    (∃ (s : State) (u : State) (v : State) (x : Fin 2) (r : RxMsg), v = partnerHeard u r.msg.src ∧ msgOwn s x T_REG_RSP = some (r, u) ∧ s.hsp.tun = some (r.msg.param % 65536, r.msg.src) ∧ s.hsp.tunBuf.length = 192 * (r.msg.param / 65536 % 256) ∧ bit r.msg.param 24 = false) ∧
    (∃ (s : State) (u : State) (v : State) (x : Fin 2) (r : RxMsg) (ws : List Word), v = partnerHeard u r.msg.src ∧ msgOwn s x T_REG_RSP = some (r, u) ∧ s.hsp.tun = some (r.msg.param % 65536, r.msg.src) ∧ s.hsp.tunBuf.length = 192 * (r.msg.param / 65536 % 256) ∧ bit r.msg.param 24 = true ∧ ws = bodyWords (List.replicate 8 0 ++ (s.hsp.tunBuf ++ r.msg.body.drop 8))) ∧
    (∃ (s : State) (u : State) (v : State) (x : Fin 2) (r : RxMsg), v = partnerHeard u r.msg.src ∧ msgOwn s x T_REG_REQ = some (r, u) ∧ s.devid ≠ 0 ∧ r.msg.param % 65536 ≠ s.get F.SYS_TUNLAST_TAG ∧ s.hg.tun = none ∧ r.msg.param / 65536 % 256 = 0 ∧ bit r.msg.param 24 = false) ∧
    (∃ (s : State) (u : State) (v : State) (x : Fin 2) (r : RxMsg) (n : TunIn), v = partnerHeard u r.msg.src ∧ msgOwn s x T_REG_REQ = some (r, u) ∧ s.devid ≠ 0 ∧ r.msg.param % 65536 ≠ s.get F.SYS_TUNLAST_TAG ∧ s.hg.tun = none ∧ r.msg.param / 65536 % 256 = 0 ∧ bit r.msg.param 24 = true ∧ n = ⟨r.msg.param % 65536, 1, nth r.msg.body 0 0, beOfBytes ((r.msg.body.drop 1).take 3), beOfBytes ((r.msg.body.drop 4).take 2), bodyWords r.msg.body, x.val⟩) ∧
    (∃ (s : State) (u : State) (v : State) (x : Fin 2) (r : RxMsg) (n : TunIn), v = partnerHeard u r.msg.src ∧ msgOwn s x T_REG_REQ = some (r, u) ∧ s.devid ≠ 0 ∧ r.msg.param % 65536 ≠ s.get F.SYS_TUNLAST_TAG ∧ s.hg.tun = some n ∧ n.tag = r.msg.param % 65536 ∧ n.seg = r.msg.param / 65536 % 256) ∧
    (∃ (s : State) (u : State) (v : State) (x : Fin 2) (r : RxMsg), v = partnerHeard u r.msg.src ∧ msgOwn s x T_REG_REQ = some (r, u) ∧ s.devid ≠ 0 ∧ r.msg.param % 65536 ≠ s.get F.SYS_TUNLAST_TAG ∧ (s.hg.tun = none ∧ r.msg.param / 65536 % 256 ≠ 0)) ∧
    (∃ (s : State) (u : State) (v : State) (x : Fin 2) (r : RxMsg), v = partnerHeard u r.msg.src ∧ msgOwn s x T_REG_REQ = some (r, u) ∧ (s.devid = 0 ∨ r.msg.param % 65536 = s.get F.SYS_TUNLAST_TAG)) ∧
    (∃ (s : State) (u : State) (v : State) (r : RxMsg), v = partnerHeard u r.msg.src ∧ s.clk.present = true) ∧
    (∃ (s : State) (u : State) (v : State) (r : RxMsg), v = partnerHeard u r.msg.src ∧ s.clk.present = false) ∧
    (∃ (s : State) (u : State) (v : State) (x : Fin 2) (r : RxMsg), v = partnerHeard u r.msg.src ∧ msgOwn s x T_REG_RSP = none) ∧
    (∃ (s : State) (u : State) (v : State) (x : Fin 2) (r : RxMsg), v = partnerHeard u r.msg.src ∧ msgOwn s x T_REG_REQ = none) :=
  ⟨⟨({ inWatch with hsp.tun := some (1, 1) } : State), inWatch, partnerHeard inWatch 0, rx T_REG_RSP 5 0 [], by decide +kernel⟩,
    ⟨inWatch, inWatch, partnerHeard inWatch 0, rx T_REG_RSP 5 0 [], by decide +kernel⟩,
    ⟨stTunnel_2, taken stTunnel_2 0 T_REG_RSP, heard stTunnel_2 0 T_REG_RSP 1, 0, rx T_REG_RSP 5 1 [0, 0], by decide +kernel⟩,
    ⟨stTunnel_6, taken stTunnel_6 0 T_REG_RSP, heard stTunnel_6 0 T_REG_RSP 1, 0, rx T_REG_RSP 5 1 [0x12, 0, 0, 0, 1, 2, 3, 4, 5, 6, 7, 8], by decide +kernel⟩,
    ⟨stTunnel_3, taken stTunnel_3 0 T_REG_RSP, heard stTunnel_3 0 T_REG_RSP 1, 0, rx T_REG_RSP 0x1000005 1 [0x12, 0, 0, 0, 1, 2, 3, 4, 5, 6, 7, 8], [0x08070605], by decide +kernel⟩,
    ⟨stTunnel_4, taken stTunnel_4 0 T_REG_REQ, heard stTunnel_4 0 T_REG_REQ 0, 0, rx T_REG_REQ 5 0 [0x0B, 3, 0, 4, 0, 1, 0, 0], by decide +kernel⟩,
    ⟨stTunnel_7, taken stTunnel_7 0 T_REG_REQ, heard stTunnel_7 0 T_REG_REQ 0, 0, rx T_REG_REQ 0x1000005 0 [0x0B, 3, 0, 4, 0, 1, 0, 0], ⟨5, 1, 0x0B, 0x030004, 1, [], 0⟩, by decide +kernel⟩,
    ⟨stTunnel_8, taken stTunnel_8 0 T_REG_REQ, heard stTunnel_8 0 T_REG_REQ 0, 0, rx T_REG_REQ 0x1010005 0 [0x02, 0, 0, 0x0C, 0, 2, 0, 0, 1, 0, 0, 0], stTunnel_10, by decide +kernel⟩,
    ⟨stTunnel_9, taken stTunnel_9 0 T_REG_REQ, heard stTunnel_9 0 T_REG_REQ 0, 0, rx T_REG_REQ 0x1010005 0 [0x02, 0, 0, 0x0C, 0, 2, 0, 0, 1, 0, 0, 0], by decide +kernel⟩,
    ⟨stTunnel_5, taken stTunnel_5 0 T_REG_REQ, heard stTunnel_5 0 T_REG_REQ 0, 0, rx T_REG_REQ 5 0 [], by decide +kernel⟩,
    ⟨inWatch, inWatch, partnerHeard inWatch 0, rx T_REG_RSP 5 0 [], by decide +kernel⟩,
    ⟨({ inWatch with clk.present := false } : State), inWatch, partnerHeard inWatch 0, rx T_REG_RSP 5 0 [], by decide +kernel⟩,
    ⟨inWatch, inWatch, partnerHeard inWatch 0, 0, rx T_REG_RSP 5 0 [], by decide +kernel⟩,
    ⟨inWatch, inWatch, partnerHeard inWatch 0, 0, rx T_REG_RSP 5 0 [], by decide +kernel⟩⟩

def stResetAndSupplies_0 : State := ({ (puts [(F.PWR_STATE_STATE, OFF)] inWatch) with pwr.armed := true } : State)

theorem test_hypotheses_ResetAndSupplies :
    (∃ (s : State), s.pwr.rst = false) ∧
    (∃ (s : State), s.pwr.rst = true) ∧
    (∃ (s : State) (v : Fin 7), railsGood s = true ∧ nth s.pwr.rails v.val false = true) ∧
    (∃ (s : State) (v : Fin 7), railsGood s = false ∧ nth s.pwr.rails v.val false = true) ∧
    (∃ (s : State) (v : Fin 7), nth s.pwr.rails v.val false = false) ∧
    (∃ (s : State) (v : Fin 7), nth s.pwr.rails v.val false = false ∧ (railsGood { s with pwr := { s.pwr with rails := setNth s.pwr.rails v.val true } } = false ∨ s.pwr.rst = true)) ∧
    (∃ (s : State) (v : Fin 7), nth s.pwr.rails v.val false = false ∧ s.pwr.rst = false ∧ railsGood { s with pwr := { s.pwr with rails := setNth s.pwr.rails v.val true } } = true) ∧
    (∃ (s : State) (v : Fin 7), nth s.pwr.rails v.val false = true) ∧
    (∃ (s : State), s.pwr.rst = true ∧ railsGood s = true) ∧
    (∃ (s : State), s.pwr.rst = true ∧ railsGood s = true ∧ s.clk.present = true ∧ s.pstate = OFF ∧ s.pwr.start = none ∧ s.pwr.offResp = false) ∧
    (∃ (s : State) (t0 : Bool), s.pwr.rst = true ∧ railsGood s = true ∧ (t0 = true ∨ s.clk.present = false)) ∧
    (∃ (s : State), s.pwr.rst = true ∧ railsGood s = false) ∧
    (∃ (s : State), s.pwr.armed = true ∧ s.pwr.rst = false ∧ railsGood s = true ∧ s.clk.present = true ∧ s.pstate = OFF ∧ s.pwr.start = none ∧ s.pwr.offResp = false) ∧
    (∃ (s : State), s.pwr.armed = false ∨ s.pwr.rst = true ∨ railsGood s = false ∨ s.clk.present = false ∨ s.pstate ≠ OFF ∨ s.pwr.start ≠ none ∨ s.pwr.offResp = true) :=
  ⟨⟨inWatch, by decide +kernel⟩,
    ⟨({ inWatch with pwr.rst := true } : State), by decide +kernel⟩,
    ⟨inWatch, 0, by decide +kernel⟩,
    ⟨({ inWatch with pwr.rails := [false, true, true, true, true, true, true] } : State), 3, by decide +kernel⟩,
    ⟨({ inWatch with pwr.rails := [false, true, true, true, true, true, true] } : State), 0, by decide +kernel⟩,
    ⟨({ inWatch with pwr.rails := [false, false, true, true, true, true, true] } : State), 0, by decide +kernel⟩,
    ⟨({ inWatch with pwr.rails := [false, true, true, true, true, true, true] } : State), 0, by decide +kernel⟩,
    ⟨inWatch, 2, by decide +kernel⟩,
    ⟨({ inWatch with pwr.rst := true } : State), by decide +kernel⟩,
    ⟨({ (puts [(F.PWR_STATE_STATE, OFF)] inWatch) with pwr.rst := true } : State), by decide +kernel⟩,
    ⟨({ inWatch with pwr.rst := true } : State), true, by decide +kernel⟩,
    ⟨({ inWatch with pwr.rst := true, pwr.rails := [false, true, true, true, true, true, true] } : State), by decide +kernel⟩,
    ⟨stResetAndSupplies_0, by decide +kernel⟩,
    ⟨inWatch, by decide +kernel⟩⟩

def stStartupSteps_0 (l : List Nat) (w z : Bool) : State := ({ (puts [(F.PWR_STATE_STATE, OFF)] inWatch) with pwr.start := some ⟨l, w, 0, []⟩, swa.zsw := z } : State)
/-- A sentry image in slot A of its kind: four bytes of program, four of data, version 9, signed under the test key. -/
def stStartupSteps_2 : State := let s := stStartupSteps_0 [1, 2, 3, 4, 5] false true
  { s with nvm := { s.nvm with fwkey := some keyT, valid := 16, slot := setNth s.nvm.slot 4 (memWrite [] 0 (bytesOfBe 136 0x5446494d03000900040000000200000000000000000000000000000000000000010000000000000004000000000000000200000004000000000000000000001001020304697d7b8eef74dd5796e02ed6480487a8d99a62d16022815be5be81bd7e9dbdbad90273f38869c8e24a4a2500fcdd5daf8e16e351e00369488745a5fe74b5fdc82d8d9381)) } }
def stStartupSteps_1 : State := ({ inWatch with pwr.trans := some ⟨2, 0, [.phaseB], false, false⟩ } : State)

theorem test_hypotheses_StartupSteps :
    (∃ (s : State) (t0 : StartSt), s.clk.present = true ∧ s.pwr.start = some t0 ∧ stepRuns s 3 = true ∧ stepOver t0 4 = false ∧ stepOver t0 7 = false) ∧
    (∃ (s : State) (t0 : StartSt), s.clk.present = true ∧ s.pstate = OFF ∧ s.pwr.start = some t0 ∧ t0.row = 0 ∧ stepRuns s 3 = true ∧ stepOver t0 7 = false ∧ s.swa.zsw = false ∧ s.swa.zss = false) ∧
    (∃ (s : State) (t0 : StartSt), s.clk.present = true ∧ s.pstate = OFF ∧ s.pwr.start = some t0 ∧ stepRuns s 4 = true ∧ stepOver t0 7 = false ∧ s.swa.zsw = false ∧ s.swa.zss = false) ∧
    (∃ (s : State) (t0 : StartSt), s.clk.present = true ∧ s.pwr.start = some t0 ∧ t0.row = 0 ∧ stepRuns s 4 = true ∧ stepOver t0 7 = false) ∧
    (∃ (s : State), s.clk.present = true ∧ s.pwr.start = none ∧ transWaits s .phaseB = true ∧ transWaits s .lock = false) ∧
    (∃ (s : State) (t0 : StartSt), s.clk.present = true ∧ s.pwr.start = some t0 ∧ t0.row = 0 ∧ stepRuns s 5 = true ∧ stepOver t0 7 = false ∧ s.swa.zsw = true) ∧
    (∃ (s : State) (n : Fin 3) (t0 : StartSt), n ≠ 0 ∧ s.clk.present = true ∧ s.pwr.start = some t0 ∧ stepRuns s 5 = true ∧ stepOver t0 7 = false ∧ s.swa.zsw = true) ∧
    (∃ (s : State) (t0 : StartSt) (e : Nat × Image), s.clk.present = true ∧ s.pwr.start = some t0 ∧ stepRuns s 6 = true ∧ stepOver t0 7 = false ∧ s.swa.zsw = true ∧ slotChoose s 3 = some e) ∧
    (∃ (s : State) (t0 : StartSt), s.clk.present = true ∧ s.pwr.start = some t0 ∧ t0.row = 0 ∧ stepRuns s 6 = true ∧ stepOver t0 7 = false ∧ s.swa.zsw = true ∧ slotChoose s 3 = none) ∧
    (∃ (s : State) (t0 : StartSt), s.clk.present = true ∧ s.pwr.start = some t0 ∧ t0.row = 0 ∧ stepRuns s 9 = true ∧ stepOver t0 7 = false ∧ s.swa.zsw = true) ∧
    (∃ (s : State), s.clk.present = true ∧ s.pwr.start = none ∧ transWaits s .images = true ∧ transWaits s .lock = false ∧ transWaits s .phaseB = false) ∧
    (∃ (s : State) (t0 : StartSt), s.pwr.start = some t0 ∧ t0.row = 0 ∧ t0.watch = true ∧ stepsOver s = true ∧ s.clk.present = true) ∧
    (∃ (s : State), s.clk.present = false ∨ (s.pwr.start = none ∧ s.pwr.trans = none)) :=
  ⟨⟨stStartupSteps_0 [1, 2] false false, ⟨[1, 2], false, 0, []⟩, by decide +kernel⟩,
    ⟨stStartupSteps_0 [1, 2] false false, ⟨[1, 2], false, 0, []⟩, by decide +kernel⟩,
    ⟨stStartupSteps_0 [1, 2, 3] false false, ⟨[1, 2, 3], false, 0, []⟩, by decide +kernel⟩,
    ⟨stStartupSteps_0 [1, 2, 3] false false, ⟨[1, 2, 3], false, 0, []⟩, by decide +kernel⟩,
    ⟨stStartupSteps_1, by decide +kernel⟩,
    ⟨stStartupSteps_0 [1, 2, 3, 4] false true, ⟨[1, 2, 3, 4], false, 0, []⟩, by decide +kernel⟩,
    ⟨stStartupSteps_0 [1, 2, 3, 4] false true, 1, ⟨[1, 2, 3, 4], false, 0, []⟩, by decide +kernel⟩,
    ⟨stStartupSteps_2, ⟨[1, 2, 3, 4, 5], false, 0, []⟩, (slotChoose stStartupSteps_2 3).getD (0, ⟨0, 0, 0, [], []⟩), by decide +kernel⟩,
    ⟨stStartupSteps_0 [1, 2, 3, 4, 5] false true, ⟨[1, 2, 3, 4, 5], false, 0, []⟩, by decide +kernel⟩,
    ⟨stStartupSteps_0 [1, 2, 3, 4, 5, 6] true true, ⟨[1, 2, 3, 4, 5, 6], true, 0, []⟩, by decide +kernel⟩,
    ⟨({ inWatch with pwr.trans := some ⟨2, 0, [.images], false, false⟩ } : State), by decide +kernel⟩,
    ⟨({ inWatch with pwr.start := some ⟨[1, 2, 3, 4, 5, 6, 7, 8, 9, 10], true, 0, []⟩ } : State), ⟨[1, 2, 3, 4, 5, 6, 7, 8, 9, 10], true, 0, []⟩, by decide +kernel⟩,
    ⟨inWatch, by decide +kernel⟩⟩

def stStateRequests_0 (p g : Nat) : State := ({ (puts [(F.PWR_STATE_STATE, p)] inWatch) with pwr.trans := some ⟨g, 1, [], false, false⟩ } : State)

theorem test_hypotheses_StateRequests :
    (∃ (s : State) (g : Fin 6), (s.pstate = WATCH ∨ s.pstate = RECORD ∨ s.pstate = SERVICE) ∧ (g.val = WATCH ∨ g.val = RECORD ∨ g.val = SERVICE) ∧ g.val ≠ s.pstate ∧ s.pwr.start = none ∧ s.pwr.trans = none ∧ (checkRequest s g.val).isNone = true) ∧
    (∃ (s : State), (s.pstate = WATCH ∨ s.pstate = SERVICE) ∧ s.pwr.start = none ∧ s.pwr.trans = none ∧ (checkRequest s SENTRY).isNone = true) ∧
    (∃ (s : State) (g : Fin 6), s.pstate = SENTRY ∧ (g.val = WATCH ∨ g.val = SERVICE) ∧ s.pwr.start = none ∧ s.pwr.trans = none ∧ (checkRequest s g.val).isNone = true ∧ s.clk.cls = 1) ∧
    (∃ (s : State) (g : Fin 6), s.pstate = SENTRY ∧ (g.val = WATCH ∨ g.val = SERVICE) ∧ s.pwr.start = none ∧ s.pwr.trans = none ∧ (checkRequest s g.val).isNone = true ∧ s.clk.cls ≠ 1 ∧ (checkDeferred s).isNone = true) ∧
    (∃ (s : State) (g : Fin 6), s.pstate = SENTRY ∧ (g.val = WATCH ∨ g.val = SERVICE) ∧ s.pwr.start = none ∧ s.pwr.trans = none ∧ (checkRequest s g.val).isNone = true ∧ s.clk.cls ≠ 1 ∧ (checkDeferred s).isNone = false) ∧
    (∃ (s : State), s.pstate = TRIPPED ∧ s.pwr.start = none ∧ s.pwr.trans = none) ∧
    (∃ (s : State) (g : Fin 6), (checkRequest s g.val).isNone = false ∨ s.pwr.trans.isSome = true ∨ s.pwr.start.isSome = true ∨ (g.val = s.pstate ∧ s.pstate ≠ SENTRY) ∨ g = 0) ∧
    (∃ (s : State) (x : TransSt), s.pwr.trans = some x ∧ x.waits = [] ∧ s.clk.present = true ∧ s.clk.phase = .run ∧ (s.pstate = WATCH ∨ s.pstate = RECORD ∨ s.pstate = SERVICE) ∧ (x.target = WATCH ∨ x.target = RECORD ∨ x.target = SERVICE)) ∧
    (∃ (s : State) (x : TransSt), s.pwr.trans = some x ∧ x.waits = [] ∧ s.clk.present = true ∧ s.clk.phase = .run ∧ x.target = SENTRY) ∧
    (∃ (s : State) (x : TransSt), s.pwr.trans = some x ∧ x.waits = [] ∧ s.clk.present = true ∧ s.clk.phase = .run ∧ s.pstate = SENTRY ∧ x.target ≠ SENTRY ∧ s.clk.cls = 1) ∧
    (∃ (s : State) (x : TransSt), s.pwr.trans = some x ∧ x.waits = [] ∧ s.clk.present = true ∧ s.clk.phase = .run ∧ s.pstate = SENTRY ∧ x.target ≠ SENTRY ∧ s.clk.cls ≠ 1 ∧ exitDeny s ≠ none) ∧
    (∃ (s : State) (x : TransSt), s.pwr.trans = some x ∧ x.waits = [] ∧ s.clk.present = true ∧ s.clk.phase = .run ∧ s.pstate = SENTRY ∧ x.target ≠ SENTRY ∧ s.clk.cls ≠ 1 ∧ exitDeny s = none) ∧
    (∃ (s : State) (x : TransSt), s.pwr.trans = some x ∧ x.waits ≠ []) ∧
    (∃ (s : State), s.pwr.trans = none ∨ s.clk.present = false ∨ s.clk.phase ≠ .run) :=
  ⟨⟨inWatch, 3, by decide +kernel⟩,
    ⟨inWatch, by decide +kernel⟩,
    ⟨({ (puts [(F.PWR_STATE_STATE, SENTRY)] inWatch) with clk.cls := 1 } : State), 2, by decide +kernel⟩,
    ⟨puts [(F.PWR_STATE_STATE, SENTRY)] inWatch, 2, by decide +kernel⟩,
    ⟨({ (puts [(F.PWR_STATE_STATE, SENTRY)] inWatch) with pwr.deferring := true, pwr.deferred := [(A.SWA_CFG, 0xFFFFFFFF)] } : State), 2, by decide +kernel⟩,
    ⟨puts [(F.PWR_STATE_STATE, TRIPPED)] inWatch, by decide +kernel⟩,
    ⟨inWatch, 4, by decide +kernel⟩,
    ⟨stStateRequests_0 WATCH RECORD, ⟨RECORD, 1, [], false, false⟩, by decide +kernel⟩,
    ⟨stStateRequests_0 WATCH SENTRY, ⟨SENTRY, 1, [], false, false⟩, by decide +kernel⟩,
    ⟨({ stStateRequests_0 SENTRY WATCH with clk.cls := 1 } : State), ⟨WATCH, 1, [], false, false⟩, by decide +kernel⟩,
    ⟨({ stStateRequests_0 SENTRY WATCH with pwr.deferring := true, pwr.deferred := [(A.SWA_CFG, 0xFFFFFFFF)] } : State), ⟨WATCH, 1, [], false, false⟩, by decide +kernel⟩,
    ⟨stStateRequests_0 SENTRY WATCH, ⟨WATCH, 1, [], false, false⟩, by decide +kernel⟩,
    ⟨({ inWatch with pwr.trans := some ⟨3, 0, [.lock], false, false⟩ } : State), ⟨3, 0, [.lock], false, false⟩, by decide +kernel⟩,
    ⟨inWatch, by decide +kernel⟩⟩

def stMicLiveness_6 : State := ({ (puts [(F.PWR_STATE_STATE, WATCH), (F.MIC_CFG_PARTNER_EN, 1), (F.MIC_CFG_PARTNER_IN, 1)] withMics) with mic.levels := [[], [(10, 1), (1, 1)]] } : State)
def stMicLiveness_7 : State := ({ (puts [(F.PWR_STATE_STATE, WATCH), (F.MIC_CFG_PARTNER_EN, 1), (F.MIC_CFG_PARTNER_IN, 1)] withMics) with mic.levels := [[], [(1000, 1), (1, 1)]] } : State)
def stMicLiveness_8 : State := ({ (puts [(F.PWR_STATE_STATE, WATCH), (F.MIC_CFG_PARTNER_EN, 1), (F.MIC_CFG_PARTNER_IN, 1)] withMics) with mic.levels := [[(1000, 1)], [(1000, 1), (1, 1)]] } : State)
def stMicLiveness_9 : State := ({ (puts [(F.PWR_STATE_STATE, WATCH), (F.MIC_CFG_PARTNER_EN, 1), (F.MIC_CFG_PARTNER_IN, 1), (F.MIC_PART_RUN, 49), (F.MIC_CFG_FAILOVER, 0)] withMics) with mic.levels := [[], [(1000, 1), (1, 1)]] } : State)

theorem test_hypotheses_MicLiveness :
    (∃ (s : State) (p : Fin 32), inputChecked s p = true ∧ micState s p = MS_FAULT ∧ stopsFedBy s p = []) ∧
    (∃ (s : State) (p : Fin 32), inputChecked s p = true ∧ micState s p ≠ MS_FAULT ∧ stopsFedBy s p = [] ∧ s.mic.cal = none ∧ s.flag F.MIC_CFG_AUTO_SPARE = false ∧ sentryIn s ≠ p) ∧
    (∃ (s : State) (p : Fin 32) (n : BitVec 16) (w : Nat) (l : List Nat), w = 2 ^ (10 + s.get F.MIC_DENS_WIN) ∧ l = (nth s.mic.dens p []).filter (fun k => decide (s.time.ms < k + 1000)) ∧ inputChecked s p = true ∧ (256 * n.toNat < s.get F.MIC_DENS_DLO * w ∨ s.get F.MIC_DENS_DHI * w < 256 * n.toNat) ∧ micState s p = MS_OK ∧ l.length < 3 ∧ stopsFedBy s p = []) ∧
    (∃ (s : State) (p : Fin 32) (n : BitVec 16) (w : Nat), w = 2 ^ (10 + s.get F.MIC_DENS_WIN) ∧ s.get F.MIC_DENS_DLO * w ≤ 256 * n.toNat ∧ 256 * n.toNat ≤ s.get F.MIC_DENS_DHI * w) ∧
    (∃ (s : State) (p : Fin 32), inputChecked s p = true ∧ s.pstate ≠ SENTRY ∧ floorDeparts s p = true ∧ (micState s p = MS_OK ∨ micState s p = MS_SUSPECT)) ∧
    (∃ (s : State) (p : Fin 32), inputChecked s p = false) ∧
    (∃ (s : State) (p : Fin 32), micState s p = MS_SUSPECT) ∧
    (∃ (s : State) (p : Fin 32), micState s p ≠ MS_SUSPECT) ∧
    (∃ (s : State) (p : Fin 32), MS_DEVIANT ≤ s.get (F.MIC_STATn_STATE p)) ∧
    (∃ (s : State) (p : Fin 32), s.get (F.MIC_STATn_STATE p) < MS_DEVIANT) ∧
    (∃ (s : State) (l : Nat × Nat) (f : Nat × Nat) (a : Nat × Nat), s.awake = true ∧ listens s = true ∧ s.flag F.MIC_CFG_PARTNER_EN = true ∧ l = level10 s (s.get F.MIC_CFG_PARTNER_IN) ∧ f = levelFloor s (s.get F.MIC_CFG_PARTNER_IN) ∧ a = level10 s (sentryIn s) ∧ (l.1 * f.2 < 100 * f.1 * l.2 ∨ l.1 = 0)) ∧
    (∃ (s : State) (l : Nat × Nat) (f : Nat × Nat) (a : Nat × Nat), s.awake = true ∧ listens s = true ∧ s.flag F.MIC_CFG_PARTNER_EN = true ∧ l = level10 s (s.get F.MIC_CFG_PARTNER_IN) ∧ f = levelFloor s (s.get F.MIC_CFG_PARTNER_IN) ∧ a = level10 s (sentryIn s) ∧ 100 * f.1 * l.2 ≤ l.1 * f.2 ∧ l.1 ≠ 0 ∧ (a.1 * l.2) ^ 10 * 10 ^ s.get F.MIC_NBCFG_PLIM < (l.1 * a.2) ^ 10 ∧ s.get F.MIC_PART_RUN ≠ 49) ∧
    (∃ (s : State) (l : Nat × Nat) (f : Nat × Nat) (a : Nat × Nat), s.awake = true ∧ listens s = true ∧ s.flag F.MIC_CFG_PARTNER_EN = true ∧ l = level10 s (s.get F.MIC_CFG_PARTNER_IN) ∧ f = levelFloor s (s.get F.MIC_CFG_PARTNER_IN) ∧ a = level10 s (sentryIn s) ∧ 100 * f.1 * l.2 ≤ l.1 * f.2 ∧ l.1 ≠ 0 ∧ (a.1 * l.2) ^ 10 * 10 ^ s.get F.MIC_NBCFG_PLIM < (l.1 * a.2) ^ 10 ∧ s.get F.MIC_PART_RUN = 49 ∧ s.flag F.MIC_CFG_FAILOVER = false) ∧
    (∃ (s : State) (l : Nat × Nat) (f : Nat × Nat) (a : Nat × Nat), s.awake = true ∧ listens s = true ∧ s.flag F.MIC_CFG_PARTNER_EN = true ∧ l = level10 s (s.get F.MIC_CFG_PARTNER_IN) ∧ f = levelFloor s (s.get F.MIC_CFG_PARTNER_IN) ∧ a = level10 s (sentryIn s) ∧ 100 * f.1 * l.2 ≤ l.1 * f.2 ∧ l.1 ≠ 0 ∧ (l.1 * a.2) ^ 10 ≤ (a.1 * l.2) ^ 10 * 10 ^ s.get F.MIC_NBCFG_PLIM) ∧
    (∃ (s : State), s.flag F.MIC_CFG_PARTNER_EN = false ∨ s.awake = false ∨ listens s = false) :=
  ⟨⟨puts [(F.MIC_STATn_STATE 3, MS_FAULT)] withMics, 3, by decide +kernel⟩,
    ⟨puts [(F.MIC_CFG_AUTO_SPARE, 0)] withMics, 3, by decide +kernel⟩,
    ⟨withMics, 3, 0, 2 ^ (10 + withMics.get F.MIC_DENS_WIN), [], by decide +kernel⟩,
    ⟨withMics, 3, BitVec.ofNat 16 (2 ^ (9 + withMics.get F.MIC_DENS_WIN)), 2 ^ (10 + withMics.get F.MIC_DENS_WIN), by decide +kernel⟩,
    ⟨puts [(F.MIC_NBRn_MASK 3, 6), (F.MIC_STATn_FLOOR 3, 200)] withMics, 3, by decide +kernel⟩,
    ⟨inWatch, 3, by decide +kernel⟩,
    ⟨puts [(F.MIC_STATn_STATE 3, MS_SUSPECT)] withMics, 3, by decide +kernel⟩,
    ⟨withMics, 3, by decide +kernel⟩,
    ⟨puts [(F.MIC_STATn_STATE 3, MS_FAULT)] withMics, 3, by decide +kernel⟩,
    ⟨withMics, 3, by decide +kernel⟩,
    ⟨stMicLiveness_6, level10 stMicLiveness_6 (stMicLiveness_6.get F.MIC_CFG_PARTNER_IN), levelFloor stMicLiveness_6 (stMicLiveness_6.get F.MIC_CFG_PARTNER_IN), level10 stMicLiveness_6 (sentryIn stMicLiveness_6), by decide +kernel⟩,
    ⟨stMicLiveness_7, level10 stMicLiveness_7 (stMicLiveness_7.get F.MIC_CFG_PARTNER_IN), levelFloor stMicLiveness_7 (stMicLiveness_7.get F.MIC_CFG_PARTNER_IN), level10 stMicLiveness_7 (sentryIn stMicLiveness_7), by decide +kernel⟩,
    ⟨stMicLiveness_9, level10 stMicLiveness_9 (stMicLiveness_9.get F.MIC_CFG_PARTNER_IN), levelFloor stMicLiveness_9 (stMicLiveness_9.get F.MIC_CFG_PARTNER_IN), level10 stMicLiveness_9 (sentryIn stMicLiveness_9), by decide +kernel⟩,
    ⟨stMicLiveness_8, level10 stMicLiveness_8 (stMicLiveness_8.get F.MIC_CFG_PARTNER_IN), levelFloor stMicLiveness_8 (stMicLiveness_8.get F.MIC_CFG_PARTNER_IN), level10 stMicLiveness_8 (sentryIn stMicLiveness_8), by decide +kernel⟩,
    ⟨withMics, by decide +kernel⟩⟩

theorem test_hypotheses_MicPowerAndRoles :
    (∃ (s : State) (g : Nat) (l : List Nat), s.awake = true ∧ s.pwr.start = none ∧ s.mic.settle.length = 32 ∧ s.mic.div.length = 4 ∧ groupsDue s = g :: l) ∧
    (∃ (s : State), s.clk.present = true ∧ s.pwr.start = none ∧ s.mic.oldGroup = none ∧ s.mic.settle.length = 32) ∧
    (∃ (s : State) (p : Fin 32), s.clk.present = true ∧ nth s.mic.settle p .none = .tmc) ∧
    (∃ (s : State) (p : Fin 32), s.clk.present = false ∨ nth s.mic.settle p .none ≠ .tmc) ∧
    (∃ (s : State) (g : Fin 4), armedRules s = false ∧ groupPowered s g = true ∧ s.bitOf F.MIC_PWRCTL_BUSY g = false ∧ s.pstate ≠ SENTRY ∧ s.mic.cal = none ∧ s.mic.div.length = 4) ∧
    (∃ (s : State) (g : Fin 4), armedRules s = true ∨ groupPowered s g = false ∨ s.bitOf F.MIC_PWRCTL_BUSY g = true ∨ (s.pstate = SENTRY ∧ sentryIn s / 8 = g.val)) ∧
    (∃ (s : State) (g : Fin 4), s.clk.present = true ∧ s.bitOf F.MIC_PWRCTL_BUSY g = true) ∧
    (∃ (s : State) (g : Fin 4), s.bitOf F.MIC_PWRCTL_BUSY g = false) ∧
    (∃ (s : State) (p : Fin 32), s.bitOf F.MIC_INEN_EN p = true) ∧
    (∃ (s : State) (p : Fin 32), s.bitOf F.MIC_INEN_EN p = false ∨ sentryIn s = p) ∧
    (∃ (s : State) (n : Fin 32), n < s.flt.chain.length ∧ mapOn s n = true ∧ (s.chain n).inst.input ≠ mapPhys s n ∧ s.flag (F.MIC_MAPn_CUT n) = true ∧ (s.chain n).fade = none) ∧
    (∃ (s : State) (n : Fin 32), n < s.flt.chain.length ∧ mapOn s n = true ∧ (s.chain n).inst.input ≠ mapPhys s n ∧ s.flag (F.MIC_MAPn_CUT n) = false) ∧
    (∃ (s : State) (n : Fin 32), mapOn s n = false ∨ (s.chain n).inst.input = mapPhys s n) :=
  ⟨⟨puts [(F.PWR_CFG_STAGGER, 1), (F.MIC_PWRCTL_EN, 7), (F.PWR_MICPWR_GRP, 1)] withMics, 1, [2], by decide +kernel⟩,
    ⟨withMics, by decide +kernel⟩,
    ⟨({ withMics with mic.settle := setNth (List.replicate 32 .none) 3 .tmc } : State), 3, by decide +kernel⟩,
    ⟨withMics, 3, by decide +kernel⟩,
    ⟨withMics, 1, by decide +kernel⟩,
    ⟨inWatch, 1, by decide +kernel⟩,
    ⟨puts [(F.MIC_PWRCTL_BUSY, 2 ^ (1 : Nat)), (F.MIC_PWRCTL_EN, 15)] withMics, 1, by decide +kernel⟩,
    ⟨withMics, 1, by decide +kernel⟩,
    ⟨withMics, 3, by decide +kernel⟩,
    ⟨puts [(F.MIC_INEN_EN, 0)] withMics, 3, by decide +kernel⟩,
    ⟨puts [(F.MIC_MAPn_CUT 3, 1), (F.MIC_MAPn_EN 3, 1), (F.MIC_MAPn_PHYS 3, 7)] withMics, 3, by decide +kernel⟩,
    ⟨puts [(F.MIC_MAPn_EN 3, 1), (F.MIC_MAPn_PHYS 3, 7)] withMics, 3, by decide +kernel⟩,
    ⟨withMics, 3, by decide +kernel⟩⟩

def stMicCalibration_0 : State := ({ puts [(F.MIC_CALCTL_LEN, 0)] withMics with mic.cal := some ⟨[1]⟩, flt.cic := List.replicate 32 { CicSt.reset with meas := some (List.replicate 4096 0) } } : State)
def stMicCalibration_1 (p : Nat) : List Int := cicOutput stMicCalibration_0 p ((((stMicCalibration_0.cic p).meas).getD []).reverse.take 4096)

theorem test_hypotheses_MicCalibration :
    (∃ (s : State), s.awake = true ∧ calRefusal s ≠ 0) ∧
    (∃ (s : State) (p : Nat) (l : List Nat), s.awake = true ∧ calRefusal s = 0 ∧ ones 32 (s.get F.MIC_CALSEL_SEL) = p :: l) ∧
    (∃ (s : State), s.awake = true ∧ calRefusal s = 0 ∧ ones 32 (s.get F.MIC_CALSEL_SEL) = []) ∧
    (∃ (s : State) (p : Nat) (n : Nat) (x : Nat) (l : List Nat) (a : List Int) (b : List Int), s.mic.cal = some ⟨p :: l⟩ ∧ n = 2 ^ (12 + s.get F.MIC_CALCTL_LEN) ∧ p < 32 ∧ a = cicOutput s (s.get F.MIC_CALCTL_REF) ((((s.cic (s.get F.MIC_CALCTL_REF)).meas).getD []).reverse.take n) ∧ b = cicOutput s p ((((s.cic p).meas).getD []).reverse.take n) ∧ a.length = n ∧ b.length = n ∧ x = sqrtQuot (2 ^ 44 * (sumI (a.map (fun y => y * y))).toNat) (sumI (b.map (fun y => y * y))).toNat) ∧
    (∃ (s : State) (p : Nat) (l : List Nat), s.mic.cal = some ⟨p :: l⟩ ∧ (((s.cic p).meas).getD []).length < 2 ^ (12 + s.get F.MIC_CALCTL_LEN)) ∧
    (∃ (s : State), s.mic.cal = none) ∧
    (∃ (s : State), s.awake = true ∧ s.flag F.MIC_CALCTL_BUSY = false) ∧
    (∃ (s : State), s.awake = true ∧ s.flag F.MIC_CALCTL_BUSY = true) ∧
    (∃ (s : State), s.awake = false) ∧
    (∃ (s : State) (save : Bool), s.mic.nvm = some save) ∧
    (∃ (s : State), s.mic.nvm = none) :=
  ⟨⟨inWatch, by decide +kernel⟩,
    ⟨puts [(F.MIC_CALSEL_SEL, 2)] withMics, 1, [], by decide +kernel⟩,
    ⟨withMics, by decide +kernel⟩,
    ⟨stMicCalibration_0, 1, 4096, sqrtQuot (2 ^ 44 * (sumI ((stMicCalibration_1 0).map (fun y => y * y))).toNat) (sumI ((stMicCalibration_1 1).map (fun y => y * y))).toNat, [], stMicCalibration_1 0, stMicCalibration_1 1, by decide +kernel⟩,
    ⟨({ withMics with mic.cal := some ⟨[1]⟩ } : State), 1, [], by decide +kernel⟩,
    ⟨withMics, by decide +kernel⟩,
    ⟨withMics, by decide +kernel⟩,
    ⟨puts [(F.MIC_CALCTL_BUSY, 1)] withMics, by decide +kernel⟩,
    ⟨State.reset, by decide +kernel⟩,
    ⟨({ withMics with mic.nvm := some true } : State), true, by decide +kernel⟩,
    ⟨withMics, by decide +kernel⟩⟩

/-- Channel 3 on input 3, whose comb has `n` samples. -/
def stSoundOutputs_0 (n : Nat) : State := ({ puts [(F.MIC_MAPn_EN 3, 1), (F.MIC_MAPn_PHYS 3, 3)] withMics with flt.cic := List.replicate 32 { CicSt.reset with frames := n, ring := [5, 4, 3] } } : State)
def stSoundOutputs_3 (n : Nat) : State := let s := puts [(F.FLT_CICp_K1M1 3, 1)] (stSoundOutputs_0 n); s
def stSoundOutputs_5 (u : State) : Int := sumI ((upto 16).map (fun k => toSigned 24 (u.get (F.FLT_GLCk_TAP k)) * q22 (q22 (ringAt (u.cic (u.chain 3).inst.input).ring (((glanceDue u 3).getD 0) + k) * cicGain (cicK1 u (u.chain 3).inst.input) (cicOrder u (u.chain 3).inst.input)) * (u.chain 3).inst.gain)))
def stSoundOutputs_6 (l : List Nat) (p : Bool) : State := ({ (puts [(F.QUE_Qn_CFG_EN 34, 1), (F.QUE_Qn_PROD_PUSHN 34, 2)] withMics) with que.q := queT 34 { QueueSt.reset with primed := p, occ := l } } : State)

theorem test_hypotheses_SoundOutputs :
    (∃ (s : State) (n : Fin 32) (bs : Captured) (u : State) (off : Nat), u = feedCaptured s bs ∧ filtersRun s = true ∧ mapOn s n = true ∧ fineDue u n = some off) ∧
    (∃ (s : State) (n : Fin 32) (bs : Captured) (u : State), u = feedCaptured s bs ∧ filtersRun s = true ∧ mapOn s n = true ∧ fineDue u n = none) ∧
    (∃ (s : State) (n : Fin 32), filtersRun s = false ∨ mapOn s n = false) ∧
    (∃ (s : State) (n : Fin 32), glanceK s n = none) ∧
    (∃ (s : State) (n : Fin 32) (bs : Captured) (u : State) (acc : Int) (off : Nat), u = feedCaptured s bs ∧ filtersRun s = true ∧ mapOn s n = true ∧ (glanceK s n).isSome = true ∧ glanceDue u n = some off ∧ acc = sumI ((upto 16).map (fun k => toSigned 24 (u.get (F.FLT_GLCk_TAP k)) * q22 (q22 (ringAt (u.cic (u.chain n).inst.input).ring (off + k) * cicGain (cicK1 u (u.chain n).inst.input) (cicOrder u (u.chain n).inst.input)) * (u.chain n).inst.gain)))) ∧
    (∃ (s : State) (n : Fin 32) (bs : Captured) (u : State), u = feedCaptured s bs ∧ filtersRun s = true ∧ mapOn s n = true ∧ (glanceK s n).isSome = true ∧ glanceDue u n = none) ∧
    (∃ (s : State) (bs : List Bool) (u : State), u = sentryFeed (cicFeed s (sentryIn s) bs) bs ∧ sentryRuns s = true ∧ sentryDue u = true) ∧
    (∃ (s : State) (bs : List Bool) (u : State), u = sentryFeed (cicFeed s (sentryIn s) bs) bs ∧ sentryRuns s = true ∧ sentryDue u = false) ∧
    (∃ (s : State), sentryRuns s = false) ∧
    (∃ (s : State) (b : Fin 16) (w : Nat) (l : List Nat), filtersRun s = true ∧ queueOn s (32 + b.val) = true ∧ (s.queue (32 + b.val)).occ = w :: l ∧ ((s.queue (32 + b.val)).primed = true ∨ s.get (F.QUE_Qn_PROD_PUSHN (32 + b.val)) ≤ l.length + 1)) ∧
    (∃ (s : State) (b : Fin 16), filtersRun s = true ∧ queueOn s (32 + b.val) = true ∧ (s.queue (32 + b.val)).primed = false ∧ (s.queue (32 + b.val)).occ.length < s.get (F.QUE_Qn_PROD_PUSHN (32 + b.val))) ∧
    (∃ (s : State) (b : Fin 16), filtersRun s = true ∧ queueOn s (32 + b.val) = true ∧ (s.queue (32 + b.val)).primed = true ∧ (s.queue (32 + b.val)).occ = []) ∧
    (∃ (s : State) (b : Fin 16), filtersRun s = false ∨ queueOn s (32 + b.val) = false) :=
  ⟨⟨stSoundOutputs_0 4000, 3, [], feedCaptured (stSoundOutputs_0 4000) [], (fineDue (stSoundOutputs_0 4000) 3).getD 0, by decide +kernel⟩,
    ⟨stSoundOutputs_0 0, 3, [], feedCaptured (stSoundOutputs_0 0) [], by decide +kernel⟩,
    ⟨puts [(F.PWR_STATE_STATE, SENTRY)] withMics, 3, by decide +kernel⟩,
    ⟨inWatch, 3, by decide +kernel⟩,
    ⟨stSoundOutputs_3 4000, 3, [], feedCaptured (stSoundOutputs_3 4000) [], stSoundOutputs_5 (stSoundOutputs_3 4000), (glanceDue (stSoundOutputs_3 4000) 3).getD 0, by decide +kernel⟩,
    ⟨stSoundOutputs_3 0, 3, [], feedCaptured (stSoundOutputs_3 0) [], by decide +kernel⟩,
    ⟨({ withMics with flt.sent := { withMics.flt.sent with n32 := 2 } } : State), [], sentryFeed (cicFeed { withMics with flt.sent := { withMics.flt.sent with n32 := 2 } } 0 []) [], by decide +kernel⟩,
    ⟨withMics, [true], sentryFeed (cicFeed withMics 0 [true]) [true], by decide +kernel⟩,
    ⟨inWatch, by decide +kernel⟩,
    ⟨stSoundOutputs_6 [7, 8] false, 2, 7, [8], by decide +kernel⟩,
    ⟨stSoundOutputs_6 [7] false, 2, by decide +kernel⟩,
    ⟨stSoundOutputs_6 [] true, 2, by decide +kernel⟩,
    ⟨inWatch, 2, by decide +kernel⟩⟩

def stSoundChanges_0 : State := puts [(F.MIC_MAPn_EN 3, 1), (F.FLT_CHn_FIR_BANK 3, 2), (F.FLT_CHn_FIR_TAPSM1 3, 0)] ({ withMics with flt.chain := setNth ((List.range 32).map ChainSt.reset) 3 { ChainSt.reset 3 with inst := { (ChainSt.reset 3).inst with taps := 1, oshift := 0 } } } : State)
def stSoundChanges_1 (i : Nat) : State := let s := stSoundChanges_0; s.setChain 3 { s.chain 3 with fade := some ⟨(ChainSt.reset 3).inst, i, 3, 0⟩ }
def stSoundChanges_2 : State := let s := stSoundChanges_0; s.setChain 3 { s.chain 3 with inst := { (s.chain 3).inst with bank := 2 } }

theorem test_hypotheses_SoundChanges :
    (∃ (s : State) (n : Fin 32) (i : Inst), s.flt.chain.length = 32 ∧ s.flt.route.length = 148 ∧ filtersRun s = true ∧ mapOn s n = true ∧ i = { (s.chain n).inst with bank := (instTarget s n).bank, taps := (instTarget s n).taps, oshift := (instTarget s n).oshift } ∧ i ≠ (s.chain n).inst ∧ (s.chain n).fade = none) ∧
    (∃ (s : State) (n : Fin 32) (i : Inst) (f : ChainFade), s.flt.chain.length = 32 ∧ s.flt.route.length = 148 ∧ filtersRun s = true ∧ mapOn s n = true ∧ i = { (s.chain n).inst with bank := (instTarget s n).bank, taps := (instTarget s n).taps, oshift := (instTarget s n).oshift } ∧ (s.chain n).fade = some f ∧ f.i = 0) ∧
    (∃ (s : State) (n : Fin 32) (i : Inst) (f : ChainFade), s.flt.chain.length = 32 ∧ s.flt.route.length = 148 ∧ filtersRun s = true ∧ mapOn s n = true ∧ i = { (s.chain n).inst with bank := (instTarget s n).bank, taps := (instTarget s n).taps, oshift := (instTarget s n).oshift } ∧ (s.chain n).fade = some f ∧ f.i ≠ 0) ∧
    (∃ (s : State) (n : Fin 32) (i : Inst), s.flt.chain.length = 32 ∧ s.flt.route.length = 148 ∧ filtersRun s = true ∧ mapOn s n = true ∧ i = { (s.chain n).inst with bank := (instTarget s n).bank, taps := (instTarget s n).taps, oshift := (instTarget s n).oshift } ∧ i = (s.chain n).inst) ∧
    (∃ (s : State) (n : Fin 32), s.flt.chain.length = 32 ∧ s.flt.route.length = 148 ∧ (filtersRun s = false ∨ mapOn s n = false)) ∧
    (∃ (s : State) (p : Fin 32), s.flt.chain.length = 32 ∧ s.flt.route.length = 148 ∧ filtersRun s = true) ∧
    (∃ (s : State) (p : Fin 32), s.flt.chain.length = 32 ∧ s.flt.route.length = 148 ∧ filtersRun s = false) ∧
    (∃ (s : State) (d : Fin 148), s.flt.chain.length = 32 ∧ s.flt.route.length = 148 ∧ d.val < 144 ∧ filtersRun s = true ∧ (s.route d).src ≠ s.get (F.FLT_RTd_SRC d) ∧ s.flag (F.FLT_RTd_CUT d) = true) ∧
    (∃ (s : State) (d : Fin 148), s.flt.chain.length = 32 ∧ s.flt.route.length = 148 ∧ d.val < 144 ∧ filtersRun s = true ∧ (s.route d).src ≠ s.get (F.FLT_RTd_SRC d) ∧ s.flag (F.FLT_RTd_CUT d) = false) ∧
    (∃ (s : State) (d : Fin 148), s.flt.chain.length = 32 ∧ s.flt.route.length = 148 ∧ 144 ≤ d.val ∧ filtersRun s = true ∧ s.drl.enr = none ∧ (s.route d).src ≠ s.get (F.FLT_RTd_SRC d)) ∧
    (∃ (s : State) (d : Fin 148), s.flt.chain.length = 32 ∧ s.flt.route.length = 148 ∧ (filtersRun s = false ∨ (s.route d).src = s.get (F.FLT_RTd_SRC d))) ∧
    (∃ (s : State) (k : Fin 148) (o : Nat) (l : Nat), s.flt.chain.length = 32 ∧ s.flt.route.length = 148 ∧ (s.route k).fade = some (o, 2 ^ l, l)) ∧
    (∃ (s : State) (k : Fin 148) (f : ChainFade), s.flt.chain.length = 32 ∧ s.flt.route.length = 148 ∧ k.val < 32 ∧ (s.chain k).fade = some f ∧ f.i = 2 ^ f.log2L) ∧
    (∃ (s : State) (k : Fin 148), s.flt.chain.length = 32 ∧ s.flt.route.length = 148 ∧ (s.route k).fade.all (fun f => f.2.1 != 2 ^ f.2.2) = true) ∧
    (∃ (s : State) (k : Fin 148), s.flt.chain.length = 32 ∧ s.flt.route.length = 148 ∧ (32 ≤ k.val ∨ (s.chain k).fade.all (fun f => f.i != 2 ^ f.log2L) = true)) ∧
    (∃ (s : State), s.flt.chain.length = 32 ∧ s.flt.route.length = 148 ∧ s.flt.sync = none ∧ s.clk.phase = .run ∧ s.clk.present = true ∧ s.pstate ≠ OFF ∧ (s.flag F.FLT_SYNC_BCAST = false ∨ s.devid ≠ 0) ∧ s.flag F.FLT_SYNC_PIN_EN = true) ∧
    (∃ (s : State), s.flt.chain.length = 32 ∧ s.flt.route.length = 148 ∧ s.flt.sync = none ∧ s.clk.phase = .run ∧ s.clk.present = true ∧ s.pstate ≠ OFF ∧ (s.flag F.FLT_SYNC_BCAST = false ∨ s.devid ≠ 0) ∧ s.awake = true) ∧
    (∃ (s : State), s.flt.chain.length = 32 ∧ s.flt.route.length = 148 ∧ s.flt.sync = none ∧ s.clk.phase = .run ∧ s.clk.present = true ∧ s.pstate ≠ OFF ∧ s.flag F.FLT_SYNC_BCAST = true ∧ s.devid = 0 ∧ s.flag F.FLT_SYNC_PIN_EN = true) ∧
    (∃ (s : State), s.flt.chain.length = 32 ∧ s.flt.route.length = 148 ∧ s.flt.sync = none ∧ s.clk.phase = .run ∧ s.clk.present = true ∧ s.pstate ≠ OFF ∧ s.flag F.FLT_SYNC_BCAST = true ∧ s.devid = 0 ∧ s.awake = true) ∧
    (∃ (s : State), s.flt.chain.length = 32 ∧ s.flt.route.length = 148 ∧ (s.flt.sync.isSome = true ∨ s.clk.phase ≠ .run ∨ s.clk.present = false ∨ s.pstate = OFF)) ∧
    (∃ (s : State), s.flt.chain.length = 32 ∧ s.flt.route.length = 148 ∧ s.flag F.FLT_SYNC_PIN_EN = false) ∧
    (∃ (s : State), s.flt.chain.length = 32 ∧ s.flt.route.length = 148 ∧ s.awake = false) ∧
    (∃ (s : State), s.flt.chain.length = 32 ∧ s.flt.route.length = 148 ∧ s.flt.sync = some 0) ∧
    (∃ (s : State), s.flt.chain.length = 32 ∧ s.flt.route.length = 148 ∧ s.flt.sync ≠ some 0) :=
  ⟨⟨stSoundChanges_0, 3, { (stSoundChanges_0.chain 3).inst with bank := 2 }, by decide +kernel⟩,
    ⟨stSoundChanges_1 0, 3, { ((stSoundChanges_1 0).chain 3).inst with bank := 2 }, ⟨(ChainSt.reset 3).inst, 0, 3, 0⟩, by decide +kernel⟩,
    ⟨stSoundChanges_1 2, 3, { ((stSoundChanges_1 2).chain 3).inst with bank := 2 }, ⟨(ChainSt.reset 3).inst, 2, 3, 0⟩, by decide +kernel⟩,
    ⟨stSoundChanges_2, 3, (stSoundChanges_2.chain 3).inst, by decide +kernel⟩,
    ⟨State.reset, 3, by decide +kernel⟩,
    ⟨puts [(F.MIC_MAPn_EN 3, 1), (F.MIC_CALn_GAIN_GAIN 3, 5)] withMics, 3, by decide +kernel⟩,
    ⟨State.reset, 3, by decide +kernel⟩,
    ⟨puts [(F.FLT_RTd_CUT 0, 1), (F.FLT_RTd_SRC 0, 5)] withMics, 0, by decide +kernel⟩,
    ⟨puts [(F.FLT_RTd_CUT 0, 0), (F.FLT_RTd_SRC 0, 5)] withMics, 0, by decide +kernel⟩,
    ⟨puts [(F.FLT_RTd_CUT 145, 0), (F.FLT_RTd_SRC 145, 5)] withMics, 145, by decide +kernel⟩,
    ⟨State.reset, 0, by decide +kernel⟩,
    ⟨{ withMics with flt.route := routeT 0 { RouteSt.reset with fade := some (0, 8, 3) } }, 0, 0, 3, by decide +kernel⟩,
    ⟨stSoundChanges_1 8, 3, ⟨(ChainSt.reset 3).inst, 8, 3, 0⟩, by decide +kernel⟩,
    ⟨withMics, 3, by decide +kernel⟩,
    ⟨withMics, 3, by decide +kernel⟩,
    ⟨puts [(F.FLT_SYNC_PIN_EN, 1), (F.FLT_SYNC_BCAST, 0)] withMics, by decide +kernel⟩,
    ⟨puts [(F.FLT_SYNC_BCAST, 0)] withMics, by decide +kernel⟩,
    ⟨puts [(F.FLT_SYNC_PIN_EN, 1), (F.FLT_SYNC_BCAST, 1)] withMics, by decide +kernel⟩,
    ⟨puts [(F.FLT_SYNC_BCAST, 1)] withMics, by decide +kernel⟩,
    ⟨{ withMics with flt.sync := some 3 }, by decide +kernel⟩,
    ⟨puts [(F.FLT_SYNC_PIN_EN, 0)] withMics, by decide +kernel⟩,
    ⟨State.reset, by decide +kernel⟩,
    ⟨{ withMics with flt.sync := some 0 }, by decide +kernel⟩,
    ⟨withMics, by decide +kernel⟩⟩

def stListeningFrames_1 : State := ({ (puts [(F.LSN_SADu_TL_FREEZE 0, 0), (F.LSN_SADu_ST_SEEDING 0, 1)] inWatch) with drl.enr := none, lsn.sad := sadsT { SadSt.reset with buf := List.replicate 160 100 } } : State)

theorem test_hypotheses_ListeningFrames :
    (∃ (s : State) (u : Fin 2), s.lsn.sad.length = 2 ∧ listens s = true ∧ (s.sad u).run = true ∧ 0 < sadLen s u ∧ sadLen s u ≤ (s.sad u).buf.length ∧ (frameMarked ((s.sad u).buf.take (sadLen s u)) || s.flag (F.LSN_SADu_TL_FREEZE u)) = true) ∧
    (∃ (s : State) (u : Fin 2) (l : Int), s.lsn.sad.length = 2 ∧ listens s = true ∧ (s.sad u).run = true ∧ 0 < sadLen s u ∧ sadLen s u ≤ (s.sad u).buf.length ∧ frameMarked ((s.sad u).buf.take (sadLen s u)) = false ∧ s.flag (F.LSN_SADu_TL_FREEZE u) = false ∧ (s.sad u).pend = false ∧ s.flag (F.LSN_SADu_ST_SEEDING u) = true ∧ l = frameLevel (sumSquares ((s.sad u).buf.take (sadLen s u))) (sadLen s u)) ∧
    (∃ (s : State) (u : Fin 2), s.lsn.sad.length = 2 ∧ (s.sad u).run = true ∧ s.flag (F.LSN_SADu_ST_SEEDING u) = true ∧ 150 ≤ (s.sad u).win.length ∧ sadFloor s u ≤ 100 * s.getI (F.LSN_SADu_TL_CEIL u)) ∧
    (∃ (s : State) (u : Fin 2), s.lsn.sad.length = 2 ∧ (s.sad u).run = true ∧ s.flag (F.LSN_SADu_ST_SEEDING u) = true ∧ 150 ≤ (s.sad u).win.length ∧ 100 * s.getI (F.LSN_SADu_TL_CEIL u) < sadFloor s u) ∧
    (∃ (s : State) (u : Fin 2), s.lsn.sad.length = 2 ∧ s.flag (F.LSN_SADu_ST_ACTIVE u) = true ∧ 100 * s.get (F.LSN_SADu_TL_MAXEV u) ≤ (s.sad u).act) ∧
    (∃ (s : State) (u : Fin 2), s.lsn.sad.length = 2 ∧ 150 ≤ (s.sad u).railHi ∧ (s.sad u).railed = false) ∧
    (∃ (s : State) (u : Fin 2), s.lsn.sad.length = 2 ∧ (s.sad u).railHi < 150 ∧ 150 ≤ (s.sad u).railLo ∧ (s.sad u).railed = false) ∧
    (∃ (s : State) (u : Fin 2), s.lsn.sad.length = 2 ∧ (s.sad u).run = true ∧ s.flag (F.LSN_SADu_TL_FREEZE u) = true) ∧
    (∃ (s : State) (u : Fin 2), s.lsn.sad.length = 2 ∧ (s.sad u).run = true ∧ s.flag (F.LSN_SADu_TL_FREEZE u) = false) ∧
    (∃ (s : State) (u : Fin 2), s.lsn.sad.length = 2 ∧ (s.sad u).run = false) ∧
    (∃ (s : State) (u : Fin 2), s.lsn.sad.length = 2 ∧ (s.clk.present = false ∨ (s.sad u).run = false ∨ (s.sad u).buf.length < sadLen s u)) ∧
    (∃ (s : State) (u : Fin 2), s.lsn.sad.length = 2 ∧ ((s.sad u).run = false ∨ s.flag (F.LSN_SADu_ST_SEEDING u) = false ∨ (s.sad u).win.length < 150)) ∧
    (∃ (s : State) (u : Fin 2), s.lsn.sad.length = 2 ∧ (s.flag (F.LSN_SADu_ST_ACTIVE u) = false ∨ (s.sad u).act < 100 * s.get (F.LSN_SADu_TL_MAXEV u))) ∧
    (∃ (s : State) (u : Fin 2), s.lsn.sad.length = 2 ∧ ((s.sad u).railed = true ∨ (s.sad u).railHi < 150 ∧ (s.sad u).railLo < 150)) :=
  ⟨⟨({ inWatch with drl.enr := none, lsn.sad := sadsT { SadSt.reset with buf := List.replicate 160 (2 ^ 24) } } : State), 0, by decide +kernel⟩,
    ⟨stListeningFrames_1, 0, (frameLevel (sumSquares (((stListeningFrames_1).sad 0).buf.take (sadLen (stListeningFrames_1) 0))) (sadLen (stListeningFrames_1) 0)), by decide +kernel⟩,
    ⟨({ (puts [(F.LSN_SADu_ST_SEEDING 0, 1)] inWatch) with lsn.sad := sadsT { SadSt.reset with win := List.replicate 150 (-9000) } } : State), 0, by decide +kernel⟩,
    ⟨({ (puts [(F.LSN_SADu_ST_SEEDING 0, 1), (F.LSN_SADu_TL_CEIL 0, 206), (F.LSN_SADu_FLOOR_FLOOR 0, 0)] inWatch) with lsn.sad := sadsT { SadSt.reset with win := List.replicate 150 (-1000) } } : State), 0, by decide +kernel⟩,
    ⟨({ (puts [(F.LSN_SADu_ST_ACTIVE 0, 1)] inWatch) with drl.enr := none, lsn.sad := sadsT { SadSt.reset with act := 1000000 } } : State), 0, by decide +kernel⟩,
    ⟨({ (puts [(F.LSN_SADu_ST_RAIL_HI 0, 0)] inWatch) with lsn.sad := sadsT { SadSt.reset with railHi := 150 } } : State), 0, by decide +kernel⟩,
    ⟨({ (puts [(F.LSN_SADu_ST_RAIL_LO 0, 0)] inWatch) with lsn.sad := sadsT { SadSt.reset with railLo := 150 } } : State), 0, by decide +kernel⟩,
    ⟨({ (puts [(F.LSN_SADu_TL_FREEZE 0, 1)] inWatch) with lsn.sad := sadsT SadSt.reset } : State), 0, by decide +kernel⟩,
    ⟨({ (puts [(F.LSN_SADu_TL_FREEZE 0, 0), (F.LSN_SADu_ST_ACTIVE 0, 0)] inWatch) with lsn.sad := sadsT SadSt.reset } : State), 0, by decide +kernel⟩,
    ⟨inWatch, 0, by decide +kernel⟩,
    ⟨inWatch, 0, by decide +kernel⟩,
    ⟨inWatch, 0, by decide +kernel⟩,
    ⟨({ (puts [(F.LSN_SADu_ST_ACTIVE 0, 1)] inWatch) with lsn.sad := sadsT { SadSt.reset with act := 99 } } : State), 0, by decide +kernel⟩,
    ⟨({ inWatch with lsn.sad := sadsT { SadSt.reset with railHi := 150, railed := true } } : State), 0, by decide +kernel⟩⟩

theorem test_hypotheses_WakeRows :
    (∃ (s : State), s.clk.present = true ∧ (s.pwr.start.isSome = true ∨ s.pwr.offResp = true) ∧ s.flag F.LSN_CFG_WAKEIN_EN = true ∧ s.lsn.pinReady = true) ∧
    (∃ (s : State), s.clk.present = true ∧ s.pstate ≠ OFF ∧ wakeHolds s = false ∧ s.flag F.PWR_CFG_WAKE_GO = false ∧ s.flag F.LSN_CFG_WAKEIN_EN = true ∧ s.lsn.pinReady = true ∧ s.flag F.LSN_WAKE_QUAL = false) ∧
    (∃ (s : State), s.clk.present = true ∧ s.pstate ≠ OFF ∧ wakeHolds s = false ∧ s.flag F.PWR_CFG_WAKE_GO = false ∧ s.flag F.LSN_CFG_WAKEIN_EN = true ∧ s.lsn.pinReady = true ∧ s.flag F.LSN_WAKE_QUAL = true ∧ wakeSame s = none) ∧
    (∃ (s : State), s.clk.present = false ∨ s.lsn.pinReady = false ∨ s.flag F.LSN_CFG_WAKEIN_EN = false ∨ (s.pstate = OFF ∧ s.pwr.start = none ∧ s.pwr.offResp = false)) ∧
    (∃ (s : State), s.clk.present = true ∧ (s.pstate ≠ OFF ∨ s.pwr.start.isSome = true ∨ s.pwr.offResp = true)) ∧
    (∃ (s : State), s.clk.present = false ∨ (s.pstate = OFF ∧ s.pwr.start = none ∧ s.pwr.offResp = false)) ∧
    (∃ (s : State), s.clk.present = true ∧ s.flag F.LSN_WAKE_PRE = true) ∧
    (∃ (s : State), s.clk.present = false ∨ s.flag F.LSN_WAKE_PRE = false) ∧
    (∃ (s : State), s.clk.present = true) ∧
    (∃ (s : State), s.clk.present = false) ∧
    (∃ (s : State) (p : Fin 4), s.clk.present = true) ∧
    (∃ (s : State) (p : Fin 4), s.clk.present = false) :=
  ⟨⟨({ (puts [(F.LSN_CFG_WAKEIN_EN, 1)] inWatch) with clk.present := true, lsn.pinReady := true, pwr.start := some ⟨[], false, 0, []⟩ } : State), by decide +kernel⟩,
    ⟨({ (puts [(F.PWR_STATE_STATE, WATCH), (F.LSN_CFG_WAKEIN_EN, 1), (F.LSN_WAKE_QUAL, 0), (F.PWR_CFG_WAKE_GO, 0)] inWatch) with clk.present := true, pwr.start := none, pwr.trans := none, lsn.pinReady := true } : State), by decide +kernel⟩,
    ⟨({ (puts [(F.PWR_STATE_STATE, WATCH), (F.LSN_CFG_WAKEIN_EN, 1), (F.LSN_WAKE_QUAL, 1), (F.PWR_CFG_WAKE_GO, 0)] inWatch) with clk.present := true, pwr.start := none, pwr.trans := none, lsn.pinReady := true } : State), by decide +kernel⟩,
    ⟨({ inWatch with lsn.pinReady := false } : State), by decide +kernel⟩,
    ⟨({ inWatch with clk.present := true } : State), by decide +kernel⟩,
    ⟨({ inWatch with clk.present := false } : State), by decide +kernel⟩,
    ⟨({ (puts [(F.LSN_WAKE_PRE, 1)] inWatch) with clk.present := true } : State), by decide +kernel⟩,
    ⟨puts [(F.LSN_WAKE_PRE, 0)] inWatch, by decide +kernel⟩,
    ⟨({ inWatch with clk.present := true } : State), by decide +kernel⟩,
    ⟨({ inWatch with clk.present := false } : State), by decide +kernel⟩,
    ⟨({ inWatch with clk.present := true } : State), 0, by decide +kernel⟩,
    ⟨({ inWatch with clk.present := false } : State), 0, by decide +kernel⟩⟩

theorem test_hypotheses_DrillFramesAndRecords :
    (∃ (s : State) (n : Fin 4), s.drl.inp.length = 5 ∧ drlRuns s n = true ∧ 400 ≤ (s.drlIn n).buf.length ∧ s.drl.pairs = [] ∧ s.drl.enr = none ∧ (frameInfo (s.drlIn n)).2 = true) ∧
    (∃ (s : State) (n : Fin 4), s.drl.inp.length = 5 ∧ drlRuns s n = true ∧ 400 ≤ (s.drlIn n).buf.length ∧ s.drl.enr = none ∧ (∀ k < 64, s.get (F.DRL_SLOTs_ST_STATE k) ≠ 3) ∧ (frameInfo (s.drlIn n)).2 = false) ∧
    (∃ (s : State), s.drl.evq.length ≤ 64) ∧
    (∃ (s : State) (k : Fin 64) (c : Instr × Nat), c ∈ [(Instr.install k, 1), (.save k, 2), (.recExport k, 3), (.erase k, 4), (.recOpen k, 5), (.put k, 6), (.close k, 7)] ∧ s.awake = true ∧ s.flag F.DRL_RECCTL_BUSY = false) ∧
    (∃ (s : State) (k : Fin 64) (c : Instr × Nat), c ∈ [(Instr.install k, 1), (.save k, 2), (.recExport k, 3), (.erase k, 4), (.recOpen k, 5), (.put k, 6), (.close k, 7)] ∧ s.awake = true ∧ s.flag F.DRL_RECCTL_BUSY = true) ∧
    (∃ (s : State) (k : Nat) (e : Nat), k < 64 ∧ s.awake = true ∧ s.drl.act = some ⟨4, k, e⟩ ∧ slotBusy s k = false) ∧
    (∃ (s : State) (k : Nat) (e : Nat), s.awake = true ∧ s.drl.act = some ⟨3, k, e⟩ ∧ slotRec s k = []) ∧
    (∃ (s : State) (k : Fin 64), s.awake = true ∧ (s.flag F.SAF_ARM_REQ && slotClass s k CL_STOP) = false ∧ slotState s k = SL_LOADED) ∧
    (∃ (s : State) (k : Fin 64), s.awake = true ∧ (s.flag F.SAF_ARM_REQ && slotClass s k CL_STOP) = false ∧ slotState s k = SL_ARMED) ∧
    (∃ (s : State) (k : Fin 64), s.flag F.SAF_ARM_REQ = true ∧ slotClass s k CL_STOP = true) ∧
    (∃ (s : State) (k : Fin 64), slotState s k = SL_VERIFYING ∧ s.awake = true ∧ coreState s SCARE = C_RUN ∧ recordSigned s (slotRec s k) = true) ∧
    (∃ (s : State) (k : Fin 64), slotState s k = SL_VERIFYING ∧ s.awake = true ∧ coreState s SCARE = C_RUN ∧ recordSigned s (slotRec s k) = false) ∧
    (∃ (s : State) (ins : BitVec 5) (late stopLate : Bool) (lanes : Option (List (Fin 64 × Fin 4 × BitVec 10))), (∀ n ∈ ones 5 ins.toNat, drlRuns s n = false ∨ (s.drlIn n).buf.length < 400)) ∧
    (∃ (s : State) (k : Fin 64) (c : Instr), c ∈ [Instr.install k, .save k, .recExport k, .erase k, .recOpen k, .put k, .close k] ∧ s.awake = false) ∧
    (∃ (s : State) (a : RecAct), s.awake = true ∧ s.drl.act = some a) ∧
    (∃ (s : State), s.awake = false ∨ s.drl.act = none) ∧
    (∃ (s : State) (k : Fin 64), s.awake = true ∧ (s.flag F.SAF_ARM_REQ && slotClass s k CL_STOP) = false ∧ slotState s k ≠ SL_LOADED) ∧
    (∃ (s : State) (k : Fin 64) (b : Bool), (s.flag F.SAF_ARM_REQ && slotClass s k CL_STOP) = false ∧ s.pstate = SENTRY ∧ s.drl.held.any (fun h => h.slot == k) = true) ∧
    (∃ (s : State) (k : Fin 64) (b : Bool), (s.flag F.SAF_ARM_REQ && slotClass s k CL_STOP) = false ∧ s.pstate = SENTRY ∧ s.drl.held.any (fun h => h.slot == k) = false) ∧
    (∃ (s : State) (k : Fin 64), slotState s k ≠ SL_VERIFYING ∨ s.awake = false ∨ coreState s SCARE ≠ C_RUN) :=
  ⟨⟨({ (puts [(F.DRL_CFG_EN, 1), (F.DRL_INn_CFG_EN 1, 1)] inWatch) with drl.pairs := [], drl.enr := none, drl.inp := List.replicate 5 { DrlIn.reset with buf := List.replicate 400 (2 ^ 24, 0) }, flt.route := routeT 145 { RouteSt.reset with src := 1 } } : State), 1, by decide +kernel⟩,
    ⟨({ (puts [(F.DRL_CFG_EN, 1), (F.DRL_INn_CFG_EN 1, 1)] inWatch) with drl.enr := none, drl.inp := List.replicate 5 { DrlIn.reset with buf := List.replicate 400 (5, 0) }, flt.route := routeT 145 { RouteSt.reset with src := 1 } } : State), 1, by decide +kernel⟩,
    ⟨inWatch, by decide +kernel⟩,
    ⟨puts [(F.PWR_STATE_STATE, WATCH), (F.DRL_RECCTL_BUSY, 0)] inWatch, 3, (.install 3, 1), by decide +kernel⟩,
    ⟨puts [(F.PWR_STATE_STATE, WATCH), (F.DRL_RECCTL_BUSY, 1)] inWatch, 3, (.install 3, 1), by decide +kernel⟩,
    ⟨({ (puts [(F.PWR_STATE_STATE, WATCH)] inWatch) with drl.act := some ⟨4, 1, 1⟩ } : State), 1, 1, by decide +kernel⟩,
    ⟨({ (puts [(F.PWR_STATE_STATE, WATCH)] inWatch) with drl.act := some ⟨3, 1, 1⟩ } : State), 1, 1, by decide +kernel⟩,
    ⟨puts [(F.PWR_STATE_STATE, WATCH), (F.DRL_SLOTs_ST_STATE 3, SL_LOADED)] inWatch, 3, by decide +kernel⟩,
    ⟨puts [(F.PWR_STATE_STATE, WATCH), (F.DRL_SLOTs_ST_STATE 3, SL_ARMED)] inWatch, 3, by decide +kernel⟩,
    ⟨puts [(F.SAF_ARM_REQ, 1), (F.DRL_SLOTs_CFG_CLASS 3, 2)] inWatch, 3, by decide +kernel⟩,
    ⟨({ (puts [(F.PWR_STATE_STATE, WATCH), (F.DRL_SLOTs_ST_STATE 3, SL_VERIFYING)] inWatch) with drl.recs := [(3, recT)], nvm.seedkey := some keyT } : State), 3, by decide +kernel⟩,
    ⟨puts [(F.PWR_STATE_STATE, WATCH), (F.DRL_SLOTs_ST_STATE 3, SL_VERIFYING)] inWatch, 3, by decide +kernel⟩,
    ⟨inWatch, 31, true, true, none, by decide +kernel⟩,
    ⟨puts [(F.PWR_STATE_STATE, SENTRY)] inWatch, 3, .install 3, by decide +kernel⟩,
    ⟨({ inWatch with drl.act := some ⟨1, 1, 1⟩ } : State), ⟨1, 1, 1⟩, by decide +kernel⟩,
    ⟨inWatch, by decide +kernel⟩,
    ⟨inWatch, 3, by decide +kernel⟩,
    ⟨({ (puts [(F.PWR_STATE_STATE, SENTRY)] inWatch) with drl.held := [⟨3, 1, 9, 8, 7, 6, 5, true⟩] } : State), 3, false, by decide +kernel⟩,
    ⟨puts [(F.PWR_STATE_STATE, SENTRY)] inWatch, 3, false, by decide +kernel⟩,
    ⟨inWatch, 3, by decide +kernel⟩⟩

theorem test_hypotheses_EnrolmentRows :
    (∃ (s : State) (k : Fin 64) (i : Fin 4) (c : Fin 32), (s.pstate = WATCH ∨ s.pstate = SERVICE) ∧ s.drl.enr = none ∧ slotBusy s k = false ∧ 5 ≤ c.val ∧ c.val ≤ 20) ∧
    (∃ (s : State) (k : Fin 64) (i : Fin 4) (c : Fin 32), s.awake = true ∧ s.drl.enr = none ∧ (c.val < 5 ∨ 20 < c.val ∨ slotBusy s k = true ∨ (s.pstate ≠ WATCH ∧ s.pstate ≠ SERVICE))) ∧
    (∃ (s : State) (k : Fin 64) (i : Fin 4) (c : Fin 32), s.awake = true ∧ s.drl.enr.isSome = true) ∧
    (∃ (s : State) (k : Fin 64) (i : Fin 4) (c : Fin 32), s.pstate = SENTRY) ∧
    (∃ (s : State) (k : Fin 64) (i : Fin 4) (c : Fin 32), s.pstate = OFF) ∧
    (∃ (s : State), s.drl.enr.isSome = true) ∧
    (∃ (s : State), s.drl.enr = none) ∧
    (∃ (s : State), s.clk.present = true ∧ s.drl.enr.isSome = true ∧ s.get F.DRL_ENR_ST_STATE = 1) ∧
    (∃ (s : State), s.clk.present = false ∨ s.drl.enr = none ∨ s.get F.DRL_ENR_ST_STATE ≠ 1) ∧
    (∃ (s : State) (e : EnrolSt), s.drl.enr = some e ∧ e.segs.length = e.count ∧ s.get F.DRL_ENR_ST_STATE = 3) ∧
    (∃ (s : State) (e : EnrolSt), s.drl.enr = some e ∧ (e.segs.length ≠ e.count ∨ s.get F.DRL_ENR_ST_STATE ≠ 3)) :=
  ⟨⟨({ (puts [(F.PWR_STATE_STATE, WATCH)] inWatch) with drl.enr := none } : State), 3, 1, 5, by decide +kernel⟩,
    ⟨({ (puts [(F.PWR_STATE_STATE, WATCH)] inWatch) with drl.enr := none } : State), 3, 1, 4, by decide +kernel⟩,
    ⟨({ inWatch with drl.enr := some ⟨0, 0, 5, [], none, 0, false⟩ } : State), 3, 1, 5, by decide +kernel⟩,
    ⟨puts [(F.PWR_STATE_STATE, SENTRY)] inWatch, 3, 1, 5, by decide +kernel⟩,
    ⟨State.reset, 3, 1, 5, by decide +kernel⟩,
    ⟨({ inWatch with drl.enr := some ⟨0, 0, 5, [], none, 0, false⟩ } : State), by decide +kernel⟩,
    ⟨inWatch, by decide +kernel⟩,
    ⟨({ (puts [(F.DRL_ENR_ST_STATE, 1)] inWatch) with clk.present := true, drl.enr := some ⟨0, 0, 5, [], none, 0, false⟩ } : State), by decide +kernel⟩,
    ⟨puts [(F.DRL_ENR_ST_STATE, (1) + 1)] inWatch, by decide +kernel⟩,
    ⟨({ (puts [(F.DRL_ENR_ST_STATE, 3)] inWatch) with drl.enr := some ⟨0, 3, 1, [[]], none, 0, true⟩ } : State), ⟨0, 3, 1, [[]], none, 0, true⟩, by decide +kernel⟩,
    ⟨({ (puts [(F.DRL_ENR_ST_STATE, 1)] inWatch) with drl.enr := some ⟨0, 3, 1, [], none, 0, true⟩ } : State), ⟨0, 3, 1, [], none, 0, true⟩, by decide +kernel⟩⟩

theorem test_hypotheses_SwathWriting :
    (∃ (s : State) (k : Fin 8) (b : BlockSt), s.swa.strip.length = 8 ∧ swathRuns s = true ∧ stripOn s k = true ∧ (s.strip k).cur = some b ∧ b.frames < 255) ∧
    (∃ (s : State) (k : Fin 8) (b : BlockSt), s.swa.strip.length = 8 ∧ swathRuns s = true ∧ (upto 8).filter (stripOn s) = [k.val] ∧ (s.strip k).cur = some b ∧ b.frames < 255) ∧
    (∃ (s : State), s.swa.strip.length = 8 ∧ swathRuns s = false) ∧
    (∃ (s : State) (k : Fin 8) (i : Nat), s.swa.strip.length = 8 ∧ swathRuns s = true ∧ stripOn s k = true ∧ (s.strip k).cur = none ∧ swathSC s % 256 = 0 ∧ (s.strip k).tags.head?.map (·.2) ≠ some (swathSC s) ∧ i = (s.strip k).next.getD 0) ∧
    (∃ (s : State) (k : Fin 8), s.swa.strip.length = 8 ∧ (swathRuns s = false ∨ stripOn s k = false ∨ (s.strip k).cur.isSome = true ∨ swathSC s % 256 ≠ 0 ∨ (s.strip k).tags.head?.map (·.2) = some (swathSC s))) ∧
    (∃ (s : State) (i : Nat), s.swa.strip.length = 8 ∧ s.pstate = SENTRY ∧ s.clk.present = true ∧ s.swa.scur = none ∧ shortSSC s % 256 = 0 ∧ i = s.swa.snext.getD 0) ∧
    (∃ (s : State), s.swa.strip.length = 8 ∧ (s.pstate ≠ SENTRY ∨ s.clk.present = false ∨ s.swa.scur.isSome = true ∨ shortSSC s % 256 ≠ 0)) ∧
    (∃ (s : State) (k : Fin 8) (b : BlockSt), s.swa.strip.length = 8 ∧ swathRuns s = true ∧ stripOn s k = true ∧ (s.strip k).cur = some b ∧ b.frames = 255) :=
  ⟨⟨({ (puts [(F.SWA_STs_CFG_EN 2, 1)] inWatch) with swa.run := true, swa.strip := stripT 2 { StripSt.reset with cur := some ⟨0, 0, 3, false, false, false, false, 0, 0, 0, 0, 0⟩ } } : State), 2, ⟨0, 0, 3, false, false, false, false, 0, 0, 0, 0, 0⟩, by decide +kernel⟩,
    ⟨({ (puts [(F.SWA_STs_CFG_EN 2, 1), (F.SWA_STs_CFG_EN 0, 0)] inWatch) with swa.run := true, swa.strip := stripT 2 { StripSt.reset with cur := some ⟨0, 0, 3, false, false, false, false, 0, 0, 0, 0, 0⟩ } } : State), 2, ⟨0, 0, 3, false, false, false, false, 0, 0, 0, 0, 0⟩, by decide +kernel⟩,
    ⟨inWatch, by decide +kernel⟩,
    ⟨({ (puts [(F.SWA_STs_CFG_EN 2, 1)] inWatch) with swa.run := true } : State), 2, 0, by decide +kernel⟩,
    ⟨inWatch, 2, by decide +kernel⟩,
    ⟨({ (puts [(F.PWR_STATE_STATE, SENTRY)] inWatch) with clk.present := true, swa.scur := none, swa.stags := [(5, 0)], swa.snext := some 6 } : State), 6, by decide +kernel⟩,
    ⟨inWatch, by decide +kernel⟩,
    ⟨({ (puts [(F.SWA_STs_CFG_EN 2, 1)] inWatch) with swa.run := true, swa.strip := stripT 2 { StripSt.reset with cur := some ⟨0, 0, 255, false, false, false, false, 0, 0, 0, 0, 0⟩ } } : State), 2, ⟨0, 0, 255, false, false, false, false, 0, 0, 0, 0, 0⟩, by decide +kernel⟩⟩

theorem test_hypotheses_MittenAndUnload :
    (∃ (s : State) (o : Origin), (mittenOpen s || s.flag F.SWA_MITTEN_SS_OPEN) = true ∧ sameEdge s s.swa.wakeAt = none) ∧
    (∃ (s : State) (o : Origin), mittenOpen s = false ∧ s.flag F.SWA_MITTEN_SS_OPEN = false) ∧
    (∃ (s : State), mittenOpen s = true ∧ s.clk.present = true ∧ s.clk.phase = .run) ∧
    (∃ (s : State) (k : Fin 8), (s.strip k).unl = true ∧ s.coreRuns = true ∧ (s.pstate ≠ RECORD ∨ s.pwr.trans = none) ∧ (mittenOpen s = false ∨ (∃ b, (completeBlocks s k).find? (fun t => decide (Nat.max (s.strip k).sent (stripUptr s k) ≤ t.2)) = some b ∧ b.2 + 255 < s.pair A.SWA_WSTART_LO)) ∧ s.flag (F.SWA_STs_UNL_WAIT k) = false) ∧
    (∃ (s : State) (k : Fin 8), (s.strip k).unl = true ∧ s.coreRuns = true ∧ (s.pstate ≠ RECORD ∨ s.pwr.trans = none) ∧ (mittenOpen s = false ∨ (∃ b, (completeBlocks s k).find? (fun t => decide (Nat.max (s.strip k).sent (stripUptr s k) ≤ t.2)) = some b ∧ b.2 + 255 < s.pair A.SWA_WSTART_LO)) ∧ s.flag (F.SWA_STs_UNL_WAIT k) = true) ∧
    (∃ (s : State) (k : Fin 8) (b : Nat × Nat), s.swa.strip.length = 8 ∧ (s.strip k).unl = true ∧ s.coreRuns = true ∧ (s.pstate ≠ RECORD ∨ s.pwr.trans = none) ∧ mittenOpen s = true ∧ (completeBlocks s k).find? (fun t => decide (Nat.max (s.strip k).sent (stripUptr s k) ≤ t.2)) = some b ∧ s.pair A.SWA_WSTART_LO ≤ b.2 + 255 ∧ s.get (F.SWA_STs_UNL_DEST k) < 2) ∧
    (∃ (s : State) (k : Fin 8) (b : Nat × Nat) (x : Fin 2), s.swa.strip.length = 8 ∧ (s.strip k).unl = true ∧ s.coreRuns = true ∧ (s.pstate ≠ RECORD ∨ s.pwr.trans = none) ∧ mittenOpen s = true ∧ (completeBlocks s k).find? (fun t => decide (Nat.max (s.strip k).sent (stripUptr s k) ≤ t.2)) = some b ∧ s.pair A.SWA_WSTART_LO ≤ b.2 + 255 ∧ s.hg.port.length = 2 ∧ s.get (F.SWA_STs_UNL_DEST k) = 2 + x.val ∧ hgUp s x = true ∧ s.flag (F.HG0_ROUTEp_VALID 4) = true ∧ s.get (F.HG0_ROUTEp_PORT 4) = x.val ∧ ((s.hgp x).tx.filter (fun e => e.1 == VC_BULK)).length < 16) ∧
    (∃ (s : State) (k : Fin 8) (n : Nat), s.swa.strip.length = 8 ∧ stripOn s k = true ∧ (s.strip k).unl = true ∧ s.get (F.SWA_STs_UNL_DEST k) = 1 ∧ n % 256 = 0 ∧ stripUptr s k < n ∧ n ≤ swathSC s / 256 * 256) ∧
    (∃ (s : State) (k : Fin 8) (n : Nat), (stripOn s k = false ∨ (s.strip k).unl = false ∨ s.get (F.SWA_STs_UNL_DEST k) ≠ 1 ∨ n % 256 ≠ 0 ∨ n ≤ stripUptr s k ∨ swathSC s < n)) ∧
    (∃ (s : State) (o : Origin) (m : Nat), (mittenOpen s || s.flag F.SWA_MITTEN_SS_OPEN) = true ∧ sameEdge s s.swa.wakeAt = some m) ∧
    (∃ (s : State), mittenOpen s = false ∨ s.clk.present = false ∨ s.clk.phase ≠ .run) ∧
    (∃ (s : State) (k : Fin 8), (s.strip k).unl = false ∨ s.coreRuns = false ∨ (s.pstate = RECORD ∧ s.pwr.trans.isSome = true) ∨ (mittenOpen s = true ∧ (completeBlocks s k).find? (fun t => decide (Nat.max (s.strip k).sent (stripUptr s k) ≤ t.2)) = none)) ∧
    (∃ (s : State) (k : Fin 8) (b : Nat × Nat) (x : Fin 2), s.swa.strip.length = 8 ∧ (s.strip k).unl = true ∧ s.coreRuns = true ∧ (s.pstate ≠ RECORD ∨ s.pwr.trans = none) ∧ mittenOpen s = true ∧ (completeBlocks s k).find? (fun t => decide (Nat.max (s.strip k).sent (stripUptr s k) ≤ t.2)) = some b ∧ s.pair A.SWA_WSTART_LO ≤ b.2 + 255 ∧ s.hg.port.length = 2 ∧ s.get (F.SWA_STs_UNL_DEST k) = 2 + x.val ∧ (hgUp s x = false ∨ s.flag (F.HG0_ROUTEp_VALID 4) = false ∨ s.get (F.HG0_ROUTEp_PORT 4) ≠ x.val ∨ 16 ≤ ((s.hgp x).tx.filter (fun e => e.1 == VC_BULK)).length)) :=
  ⟨⟨puts [(F.SWA_MITTEN_OPEN, 1)] inWatch, .host, by decide +kernel⟩,
    ⟨puts [(F.SWA_MITTEN_SS_OPEN, 0)] inWatch, .host, by decide +kernel⟩,
    ⟨({ (puts [(F.SWA_MITTEN_OPEN, 1)] inWatch) with clk.present := true, clk.phase := .run } : State), by decide +kernel⟩,
    ⟨({ (puts [(F.CLK_STAT_LOCK, 1), (F.SWA_STs_UNL_WAIT 2, 0)] inWatch) with swa.strip := stripT 2 { StripSt.reset with unl := true } } : State), 2, by exact ⟨by decide +kernel, by decide +kernel, by decide +kernel, Or.inl (by decide +kernel), by decide +kernel⟩⟩,
    ⟨({ (puts [(F.CLK_STAT_LOCK, 1), (F.SWA_STs_UNL_WAIT 2, 1)] inWatch) with swa.strip := stripT 2 { StripSt.reset with unl := true } } : State), 2, by exact ⟨by decide +kernel, by decide +kernel, by decide +kernel, Or.inl (by decide +kernel), by decide +kernel⟩⟩,
    ⟨({ (puts [(F.CLK_STAT_LOCK, 1), (F.SWA_MITTEN_OPEN, 1)] inWatch) with swa.strip := stripT 2 { StripSt.reset with unl := true, tags := [(0, 0)] } } : State), 2, (0, 0), by decide +kernel⟩,
    ⟨({ (puts [(F.CLK_STAT_LOCK, 1), (F.SWA_STs_UNL_DEST 2, 2 + ((1 : Fin 2)).val), (F.HGx_ST_STATE ((1 : Fin 2)), HG_UP), (F.SWA_MITTEN_OPEN, 1), (F.SWA_STs_UNL_DEST 2, 3), (F.HGx_ST_STATE 1, HG_UP), (F.HG0_ROUTEp_PORT 4, 1), (F.HG0_ROUTEp_VALID 4, 1)] inWatch) with swa.strip := stripT 2 { StripSt.reset with unl := true, tags := [(0, 0)] } } : State), 2, (0, 0), (1 : Fin 2), by decide +kernel⟩,
    ⟨({ (puts [(F.SWA_STs_UNL_DEST 2, 1), (F.SWA_STs_CFG_EN 2, 1), (F.SWA_STs_UNL_DEST 2, 1)] (inWatch.setPair A.SWA_SC_LO 300)) with swa.strip := stripT 2 { StripSt.reset with unl := true, tags := [(0, 0)] } } : State), 2, 256, by decide +kernel⟩,
    ⟨inWatch, 2, 1, by decide +kernel⟩,
    ⟨({ (puts [(F.SWA_MITTEN_OPEN, 1)] inWatch) with swa.wakeAt := some (inWatch.time.hsck, 7) } : State), .host, 7, by decide +kernel⟩,
    ⟨inWatch, by decide +kernel⟩,
    ⟨inWatch, 2, by decide +kernel⟩,
    ⟨({ (puts [(F.CLK_STAT_LOCK, 1), (F.SWA_STs_UNL_DEST 2, 3), (F.SWA_MITTEN_OPEN, 1)] inWatch) with swa.strip := stripT 2 { StripSt.reset with unl := true, tags := [(0, 0)] } } : State), 2, (0, 0), (1 : Fin 2), by decide +kernel⟩⟩

theorem test_hypotheses_ZeroizeAndRepair :
    (∃ (s : State), s.pstate = SENTRY) ∧
    (∃ (s : State), s.pstate ≠ SENTRY ∧ s.swa.strip.length = 8) ∧
    (∃ (s : State) (short : Bool), s.clk.present = true ∧ s.pwr.start = none ∧ s.pwr.trans = none ∧ (if short then s.swa.zss else s.swa.zsw) = true ∧ (if short then s.swa.zsw else s.swa.zss) = false) ∧
    (∃ (s : State) (short : Bool), s.clk.present = true ∧ s.pwr.start = none ∧ s.pwr.trans = none ∧ s.swa.zsw = true ∧ s.swa.zss = true) ∧
    (∃ (s : State) (short : Bool), (s.clk.present = false ∨ (if short then s.swa.zss else s.swa.zsw) = false)) ∧
    (∃ (s : State) (r : Fin 32768) (n : BitVec 8), s.coreRuns = true ∧ s.awake = true ∧ (∀ w ∈ s.swa.bad, w / 1024 ≠ r.val) ∧ (n.toNat < 4 ∨ r.val ∈ s.swa.flagged)) ∧
    (∃ (s : State) (r : Fin 32768) (n : BitVec 8) (i : Fin 128), s.coreRuns = true ∧ s.awake = true ∧ r.val ∉ s.swa.flagged ∧ s.swa.flagged.length < 511) ∧
    (∃ (s : State) (r : Nat), s.awake = true ∧ s.flag F.SWA_CFG_AUTOREP = true ∧ r ∈ s.swa.flagged ∧ s.get F.SWA_REP_USED < 256) ∧
    (∃ (s : State) (r : Nat), s.awake = true ∧ s.flag F.SWA_CFG_AUTOREP = true ∧ r ∈ s.swa.flagged ∧ 256 ≤ s.get F.SWA_REP_USED) ∧
    (∃ (s : State) (r : Nat), (r ∉ s.swa.flagged ∨ s.flag F.SWA_CFG_AUTOREP = false ∨ s.awake = false)) ∧
    (∃ (s : State), s.pstate ≠ SENTRY ∨ s.flag F.SWA_MITTEN_SS_OPEN = false ∨ sameEdge s s.swa.openAt = none) ∧
    (∃ (s : State) (m : Nat), s.pstate = SENTRY ∧ s.flag F.SWA_MITTEN_SS_OPEN = true ∧ sameEdge s s.swa.openAt = some m) ∧
    (∃ (s : State) (r : Fin 32768) (n : BitVec 8), s.coreRuns = true ∧ s.awake = true ∧ 4 ≤ n.toNat ∧ r.val ∉ s.swa.flagged ∧ s.swa.flagged.length < 511) ∧
    (∃ (s : State) (r : Fin 32768) (bad : Bool) (a : Fin 4194304), s.coreRuns = true ∧ s.awake = true) ∧
    (∃ (s : State) (r : Fin 32768) (bad : Bool) (a : Fin 4194304), s.coreRuns = true ∧ s.awake = true ∧ 8 * a.val < shortBytes) ∧
    (∃ (s : State) (r : Fin 32768) (n : BitVec 8) (l : List (Fin 128)) (w : List (Bool × Bool × Fin 4194304)), s.coreRuns = false ∨ s.awake = false) :=
  ⟨⟨puts [(F.PWR_STATE_STATE, SENTRY)] inWatch, by decide +kernel⟩,
    ⟨inWatch, by decide +kernel⟩,
    ⟨({ inWatch with clk.present := true, pwr.start := none, pwr.trans := none, swa.zss := true } : State), true, by decide +kernel⟩,
    ⟨({ inWatch with clk.present := true, pwr.start := none, pwr.trans := none, swa.zsw := true, swa.zss := true } : State), false, by decide +kernel⟩,
    ⟨inWatch, true, by decide +kernel⟩,
    ⟨puts [(F.CLK_STAT_LOCK, 1), (F.PWR_STATE_STATE, WATCH)] inWatch, 0, 0, by decide +kernel⟩,
    ⟨puts [(F.CLK_STAT_LOCK, 1), (F.PWR_STATE_STATE, WATCH), (F.SWA_CFG_SAFE_EN, 0)] inWatch, 0, 0, 5, by decide +kernel⟩,
    ⟨({ (puts [(F.PWR_STATE_STATE, WATCH), (F.SWA_CFG_AUTOREP, 1)] inWatch) with swa.flagged := [1] } : State), 1, by decide +kernel⟩,
    ⟨({ (puts [(F.PWR_STATE_STATE, WATCH), (F.SWA_CFG_AUTOREP, 1), (F.SWA_REP_USED, 256)] inWatch) with swa.flagged := [1] } : State), 1, by decide +kernel⟩,
    ⟨inWatch, 1, by decide +kernel⟩,
    ⟨inWatch, by decide +kernel⟩,
    ⟨({ (puts [(F.PWR_STATE_STATE, SENTRY), (F.SWA_MITTEN_SS_OPEN, 1)] inWatch) with swa.openAt := some (inWatch.time.hsck, 7) } : State), 7, by decide +kernel⟩,
    ⟨puts [(F.CLK_STAT_LOCK, 1), (F.PWR_STATE_STATE, WATCH)] inWatch, 7, 4, by decide +kernel⟩,
    ⟨puts [(F.CLK_STAT_LOCK, 1), (F.PWR_STATE_STATE, WATCH)] inWatch, 7, true, 9, by decide +kernel⟩,
    ⟨puts [(F.CLK_STAT_LOCK, 1), (F.PWR_STATE_STATE, WATCH)] inWatch, 7, true, 9, by decide +kernel⟩,
    ⟨puts [(F.PWR_STATE_STATE, SENTRY)] inWatch, 7, 1, [], [], by decide +kernel⟩⟩

theorem test_hypotheses_TasksAndBudgets :
    (∃ (s : State) (c : Fin 4) (t : Fin 16), s.frw.core.length = 6 ∧ coreClocked s c = true ∧ coreLive s c = true ∧ s.flag (F.FRW_COREc_ST_INIT c) = false ∧ triggered s c t = true ∧ (∀ j ∈ (s.core c).jobs, j.task ≠ t.val)) ∧
    (∃ (s : State) (c : Fin 4) (t : Fin 16), s.frw.core.length = 6 ∧ coreClocked s c = true ∧ coreState s c = C_IDLE ∧ s.flag (F.FRW_COREc_ST_INIT c) = false ∧ triggered s c t = true ∧ (s.core c).jobs = [] ∧ (s.core c).run = none ∧ eligible s c = true) ∧
    (∃ (s : State) (c : Fin 4) (t : Fin 16), s.frw.core.length = 6 ∧ coreClocked s c = true ∧ coreLive s c = true ∧ s.flag (F.FRW_COREc_ST_INIT c) = false ∧ triggered s c t = true ∧ (∃ j ∈ (s.core c).jobs, j.task = t.val) ∧ t.val ∉ (s.core c).heldRel) ∧
    (∃ (s : State) (c : Fin 4) (t : Fin 16), s.frw.core.length = 6 ∧ coreClocked s c = true ∧ coreLive s c = true ∧ s.flag (F.FRW_COREc_ST_INIT c) = false ∧ triggered s c t = true ∧ (∃ j ∈ (s.core c).jobs, j.task = t.val) ∧ t.val ∈ (s.core c).heldRel) ∧
    (∃ (s : State) (c : Fin 4) (t : Fin 16), s.frw.core.length = 6 ∧ (triggered s c t = false ∨ coreClocked s c = false ∨ coreLive s c = false ∨ s.flag (F.FRW_COREc_ST_INIT c) = true)) ∧
    (∃ (s : State) (c : Fin 4) (t : Nat), s.frw.core.length = 6 ∧ coreClocked s c = true ∧ coreLive s c = true ∧ (s.core c).run = some t ∧ t < 16 ∧ s.flag (F.FRW_Tc_t_ENTRY_OVRSTOP c t) = false ∧ depends s c t = false) ∧
    (∃ (s : State) (c : Fin 4) (t : Nat), s.frw.core.length = 6 ∧ coreClocked s c = true ∧ coreLive s c = true ∧ (s.core c).run = some t ∧ t < 16 ∧ s.flag (F.FRW_Tc_t_ENTRY_OVRSTOP c t) = false ∧ depends s c t = true) ∧
    (∃ (s : State) (c : Fin 4) (t : Nat), s.frw.core.length = 6 ∧ coreClocked s c = true ∧ coreLive s c = true ∧ (s.core c).run = some t ∧ t < 16 ∧ depends s c t = false ∧ s.flag (F.FRW_Tc_t_ENTRY_OVRSTOP c t) = true ∧ atBoundary (s.core c) = true ∧ t ∉ (s.core c).heldRel) ∧
    (∃ (s : State) (c : Fin 4) (t : Nat), s.frw.core.length = 6 ∧ coreClocked s c = true ∧ coreLive s c = true ∧ (s.core c).run = some t ∧ t < 16 ∧ depends s c t = false ∧ s.flag (F.FRW_Tc_t_ENTRY_OVRSTOP c t) = true ∧ (s.core c).bun.isSome = true) ∧
    (∃ (s : State) (c : Fin 4), s.frw.core.length = 6 ∧ ((s.core c).run = none ∨ coreClocked s c = false ∨ coreLive s c = false)) ∧
    (∃ (s : State) (c : Fin 4), s.frw.core.length = 6 ∧ coreClocked s c = true ∧ coreState s c = C_RUN ∧ s.flag (F.FRW_COREc_ST_INIT c) = true ∧ depends s c 15 = false) ∧
    (∃ (s : State) (c : Fin 4), s.frw.core.length = 6 ∧ coreClocked s c = true ∧ coreState s c = C_RUN ∧ s.flag (F.FRW_COREc_ST_INIT c) = true ∧ depends s c 15 = true) ∧
    (∃ (s : State) (c : Fin 4), s.frw.core.length = 6 ∧ (s.flag (F.FRW_COREc_ST_INIT c) = false ∨ coreClocked s c = false ∨ coreState s c ≠ C_RUN)) :=
  ⟨⟨({ (puts [(F.FRW_COREc_ST_INIT 1, 0), (F.FRW_COREc_ST_STATE 1, C_RUN), (F.FRW_Tc_t_ENTRY_KIND 1 1, KIND_PERIOD), (F.FRW_Tc_t_TRIG_N 1 1, 1)] inWatch) with time.hsck := 50 } : State), 1, 1, by decide +kernel⟩,
    ⟨({ (puts [(F.FRW_COREc_ST_INIT 1, 0), (F.FRW_COREc_ST_STATE 1, C_IDLE), (F.FRW_Tc_t_ENTRY_KIND 1 1, KIND_PERIOD), (F.FRW_Tc_t_TRIG_N 1 1, 1)] inWatch) with time.hsck := 50 } : State), 1, 1, by decide +kernel⟩,
    ⟨({ (puts [(F.FRW_COREc_ST_INIT 1, 0), (F.FRW_COREc_ST_STATE 1, C_RUN), (F.FRW_Tc_t_ENTRY_KIND 1 1, KIND_PERIOD), (F.FRW_Tc_t_TRIG_N 1 1, 1)] inWatch) with time.hsck := 50, frw.core := coreT 1 { CoreSt.reset with jobs := [⟨1, 9, none⟩] } } : State), 1, 1, by decide +kernel⟩,
    ⟨({ (puts [(F.FRW_COREc_ST_INIT 1, 0), (F.FRW_COREc_ST_STATE 1, C_RUN), (F.FRW_Tc_t_ENTRY_KIND 1 1, KIND_PERIOD), (F.FRW_Tc_t_TRIG_N 1 1, 1)] inWatch) with time.hsck := 50, frw.core := coreT 1 { CoreSt.reset with jobs := [⟨1, 9, none⟩], heldRel := [1] } } : State), 1, 1, by decide +kernel⟩,
    ⟨inWatch, 1, 1, by decide +kernel⟩,
    ⟨({ (puts [(F.FRW_COREc_ST_INIT 1, 0), (F.FRW_COREc_ST_STATE 1, C_RUN), (F.FRW_Tc_t_ENTRY_KIND 1 1, KIND_PERIOD), (F.FRW_Tc_t_TRIG_N 1 1, 1), (F.FRW_Tc_t_ENTRY_OVRSTOP 1 1, 0)] inWatch) with time.hsck := 50, frw.core := coreT 1 { CoreSt.reset with run := some 1 } } : State), 1, 1, by decide +kernel⟩,
    ⟨(({ (puts [(F.FRW_COREc_ST_INIT 1, 0), (F.FRW_COREc_ST_STATE 1, C_RUN), (F.FRW_Tc_t_ENTRY_KIND 1 1, KIND_PERIOD), (F.FRW_Tc_t_TRIG_N 1 1, 1), (F.FRW_Tc_t_ENTRY_OVRSTOP 1 1, 0)] inWatch) with time.hsck := 50, frw.core := coreT 1 { CoreSt.reset with run := some 1 } } : State)).setPair A.SAF_DEP_LO (2 ^ 17), 1, 1, by decide +kernel⟩,
    ⟨({ (puts [(F.FRW_COREc_ST_INIT 1, 0), (F.FRW_COREc_ST_STATE 1, C_RUN), (F.FRW_Tc_t_ENTRY_KIND 1 1, KIND_PERIOD), (F.FRW_Tc_t_TRIG_N 1 1, 1), (F.FRW_Tc_t_ENTRY_OVRSTOP 1 1, 1)] inWatch) with time.hsck := 50, frw.core := coreT 1 { CoreSt.reset with run := some 1 } } : State), 1, 1, by decide +kernel⟩,
    ⟨({ (puts [(F.FRW_COREc_ST_INIT 1, 0), (F.FRW_COREc_ST_STATE 1, C_RUN), (F.FRW_Tc_t_ENTRY_KIND 1 1, KIND_PERIOD), (F.FRW_Tc_t_TRIG_N 1 1, 1), (F.FRW_Tc_t_ENTRY_OVRSTOP 1 1, 1)] inWatch) with time.hsck := 50, frw.core := coreT 1 { CoreSt.reset with run := some 1, bun := some (bundleOf CoreSt.reset) } } : State), 1, 1, by decide +kernel⟩,
    ⟨inWatch, 1, by decide +kernel⟩,
    ⟨puts [(F.FRW_COREc_ST_INIT 1, 1), (F.FRW_COREc_ST_STATE 1, C_RUN)] inWatch, 1, by decide +kernel⟩,
    ⟨(puts [(F.FRW_COREc_ST_INIT 1, 1), (F.FRW_COREc_ST_STATE 1, C_RUN)] inWatch).setPair A.SAF_DEP_LO (2 ^ 31), 1, by decide +kernel⟩,
    ⟨inWatch, 1, by decide +kernel⟩⟩

theorem test_hypotheses_CoreControl :
    (∃ (s : State) (c : Fin 4), s.frw.core.length = 6 ∧ s.awake = true ∧ (coreState s c = C_HALT ∨ coreState s c = C_FAULT)) ∧
    (∃ (s : State) (c : Fin 4), s.frw.core.length = 6 ∧ s.pstate ≠ SERVICE ∧ (∃ t < 16, taskKind s c t ≠ 0)) ∧
    (∃ (s : State) (c : Fin 4), s.frw.core.length = 6 ∧ (s.pstate = SERVICE ∨ (∀ t < 16, taskKind s c t = 0)) ∧ coreLive s c = true ∧ eligible s c = true) ∧
    (∃ (s : State) (c : Fin 4), s.frw.core.length = 6 ∧ coreState s c = C_HALT) ∧
    (∃ (s : State) (c : Fin 4), s.frw.core.length = 6 ∧ coreState s c ≠ C_HALT) ∧
    (∃ (s : State) (c : Fin 4), s.frw.core.length = 6 ∧ (∀ t < 16, taskKind s c t = 0) ∧ coreState s c ≠ C_RETIRED) ∧
    (∃ (s : State) (c : Fin 4), s.frw.core.length = 6 ∧ ((∃ t < 16, taskKind s c t ≠ 0) ∨ coreState s c = C_RETIRED)) ∧
    (∃ (s : State), s.frw.core.length = 6 ∧ coreState s SENT = C_FAULT ∧ coreClocked s SENT = true) ∧
    (∃ (s : State), s.frw.core.length = 6 ∧ (coreState s SENT ≠ C_FAULT ∨ coreClocked s SENT = false)) ∧
    (∃ (s : State), s.frw.core.length = 6 ∧ s.pstate ≠ OFF ∧ s.pstate ≠ SENTRY ∧ (coreState s SENT = C_HALT ∨ coreState s SENT = C_OFF)) ∧
    (∃ (s : State) (b : Bool), s.frw.core.length = 6 ∧ (s.pstate = SENTRY ∨ s.pstate = OFF ∨ decide (coreState s SENT = C_HALT ∨ coreState s SENT = C_OFF) = !b)) ∧
    (∃ (s : State) (c : Fin 4), s.frw.core.length = 6 ∧ (s.awake = false ∨ (coreState s c ≠ C_HALT ∧ coreState s c ≠ C_FAULT))) ∧
    (∃ (s : State) (c : Fin 4), s.frw.core.length = 6 ∧ (s.pstate = SERVICE ∨ (∀ t < 16, taskKind s c t = 0)) ∧ (coreLive s c = false ∨ eligible s c = false)) ∧
    (∃ (s : State), s.frw.core.length = 6 ∧ s.pstate ≠ OFF ∧ s.pstate ≠ SENTRY ∧ coreState s SENT ≠ C_HALT ∧ coreState s SENT ≠ C_OFF) :=
  ⟨⟨puts [(F.PWR_STATE_STATE, WATCH), (F.FRW_COREc_ST_STATE 1, C_HALT)] inWatch, 1, by decide +kernel⟩,
    ⟨puts [(F.FRW_Tc_t_ENTRY_KIND 1 1, KIND_PERIOD)] inWatch, 1, by decide +kernel⟩,
    ⟨puts [(F.FRW_COREc_ST_STATE 1, C_RUN)] inWatch, 1, by decide +kernel⟩,
    ⟨puts [(F.FRW_COREc_ST_STATE 1, C_HALT)] inWatch, 1, by decide +kernel⟩,
    ⟨inWatch, 1, by decide +kernel⟩,
    ⟨inWatch, 1, by decide +kernel⟩,
    ⟨puts [(F.FRW_COREc_ST_STATE 1, C_RETIRED)] inWatch, 1, by decide +kernel⟩,
    ⟨({ (puts [(F.FRW_SENT_CTL_STATE, C_FAULT)] inWatch) with clk.present := true } : State), by decide +kernel⟩,
    ⟨inWatch, by decide +kernel⟩,
    ⟨puts [(F.FRW_SENT_CTL_STATE, C_HALT)] inWatch, by decide +kernel⟩,
    ⟨puts [(F.PWR_STATE_STATE, SENTRY)] inWatch, true, by decide +kernel⟩,
    ⟨inWatch, 1, by decide +kernel⟩,
    ⟨inWatch, 1, by decide +kernel⟩,
    ⟨puts [(F.FRW_SENT_CTL_STATE, C_RUN)] inWatch, by decide +kernel⟩⟩

theorem test_hypotheses_CoreTraffic :
    (∃ (s : State) (c : Fin 6) (a : Nat) (bs : List Nat) (l : List (Nat × List Nat)), s.frw.core.length = 6 ∧ s.frw.data.length = 6 ∧ coreClocked s c = true ∧ (s.core c).buf = (a, bs) :: l ∧ DATA_BASE ≤ a ∧ a < COMMON_BASE) ∧
    (∃ (s : State) (c : Fin 6) (a : Nat) (bs : List Nat) (l : List (Nat × List Nat)), s.frw.core.length = 6 ∧ s.frw.data.length = 6 ∧ coreClocked s c = true ∧ (s.core c).buf = (a, bs) :: l ∧ COMMON_BASE ≤ a) ∧
    (∃ (s : State) (c : Fin 6), s.frw.core.length = 6 ∧ s.frw.data.length = 6 ∧ ((s.core c).buf = [] ∨ coreClocked s c = false)) ∧
    (∃ (s : State) (c : Fin 6) (n : BitVec 5) (v : BitVec 128) (l : List (Nat × BitVec 128)), s.frw.core.length = 6 ∧ s.frw.data.length = 6 ∧ coreClocked s c = true ∧ (s.core c).ret = (regS n.toNat, v) :: l ∧ (∀ e ∈ l, e.1 ≠ regS n.toNat)) ∧
    (∃ (s : State) (c : Fin 6) (n : Fin 16) (v : BitVec 128) (l : List (Nat × BitVec 128)), s.frw.core.length = 6 ∧ s.frw.data.length = 6 ∧ coreClocked s c = true ∧ (s.core c).ret = (regQ n.val, v) :: l ∧ (∀ e ∈ l, e.1 ≠ regQ n.val)) ∧
    (∃ (s : State) (c : Fin 6), s.frw.core.length = 6 ∧ s.frw.data.length = 6 ∧ ((s.core c).ret = [] ∨ coreClocked s c = false)) ∧
    (∃ (s : State) (c : Fin 6) (m : Fin 3) (a : Nat), s.frw.core.length = 6 ∧ s.frw.data.length = 6 ∧ coreClocked s c = true ∧ c.val < 4 ∧ a < memoryBytes c m) ∧
    (∃ (s : State) (c : Fin 6) (m : Fin 3) (a : Nat), s.frw.core.length = 6 ∧ s.frw.data.length = 6 ∧ coreClocked s c = true ∧ 4 ≤ c.val ∧ a < memoryBytes c m) ∧
    (∃ (s : State) (c : Fin 6) (a : Nat), s.frw.core.length = 6 ∧ s.frw.data.length = 6 ∧ coreClocked s c = true ∧ c.val < 4 ∧ a < progBytes c ∧ s.frw.badProg.length = 6) ∧
    (∃ (s : State) (c : Fin 6) (a : Nat), s.frw.core.length = 6 ∧ s.frw.data.length = 6 ∧ coreClocked s c = true ∧ c.val < 4 ∧ a < dataBytes c ∧ s.frw.badData.length = 6) ∧
    (∃ (s : State) (c : Fin 6) (a : Nat), s.frw.core.length = 6 ∧ s.frw.data.length = 6 ∧ coreClocked s c = true ∧ c.val < 4 ∧ a < commonBytes) ∧
    (∃ (s : State) (c : Fin 6) (m : Fin 2) (a : Nat), s.frw.core.length = 6 ∧ s.frw.data.length = 6 ∧ coreClocked s c = true ∧ 4 ≤ c.val ∧ a < memoryBytes c m ∧ s.frw.badProg.length = 6 ∧ s.frw.badData.length = 6) ∧
    (∃ (s : State) (c : Fin 6) (m : Fin 3) (a : Nat) (b : Bool) (l : List (Fin 6 × Fin 3 × Bool × Nat)), s.frw.core.length = 6 ∧ s.frw.data.length = 6 ∧ (memoryBytes c m ≤ a ∨ coreClocked s c = false)) ∧
    (∃ (s : State) (c d : Fin 6) (m k : Fin 3) (a b : Nat), s.frw.core.length = 6 ∧ s.frw.data.length = 6 ∧ coreClocked s c = true ∧ a < memoryBytes c m ∧ b < memoryBytes d k) ∧
    (∃ (s : State) (c d : Fin 6) (m k : Fin 3) (a b : Nat), s.frw.core.length = 6 ∧ s.frw.data.length = 6 ∧ coreClocked s c = true ∧ a < memoryBytes c m ∧ b < memoryBytes d k ∧ s.frw.badProg.length = 6 ∧ s.frw.badData.length = 6) :=
  ⟨⟨({ inWatch with frw.core := coreT 1 { CoreSt.reset with buf := [(DATA_BASE + 4, [1, 2, 3, 4])] } } : State), 1, DATA_BASE + 4, [1, 2, 3, 4], [], by decide +kernel⟩,
    ⟨({ inWatch with frw.core := coreT 1 { CoreSt.reset with buf := [(COMMON_BASE + 4, [1, 2, 3, 4])] } } : State), 1, COMMON_BASE + 4, [1, 2, 3, 4], [], by decide +kernel⟩,
    ⟨inWatch, 0, by decide +kernel⟩,
    ⟨({ inWatch with frw.core := coreT 1 { CoreSt.reset with ret := [(regS 31, 7), (regQ 3, 9)], bun := some (bundleOf CoreSt.reset) } } : State), 1, 31, 7, [(regQ 3, 9)], by decide +kernel⟩,
    ⟨({ inWatch with frw.core := coreT 1 { CoreSt.reset with ret := [(regQ 15, 7), (regS 1, 2)] } } : State), 1, 15, 7, [(regS 1, 2)], by decide +kernel⟩,
    ⟨inWatch, 0, by decide +kernel⟩,
    ⟨inWatch, 0, 2, commonBytes - 1, by decide +kernel⟩,
    ⟨inWatch, 4, 1, 32767, by decide +kernel⟩,
    ⟨inWatch, 0, 65535, by decide +kernel⟩,
    ⟨inWatch, 0, 131071, by decide +kernel⟩,
    ⟨inWatch, 0, commonBytes - 1, by decide +kernel⟩,
    ⟨inWatch, 5, 0, 9, by decide +kernel⟩,
    ⟨inWatch, 4, 2, 0, true, [], by decide +kernel⟩,
    ⟨inWatch, 1, 5, 2, 1, 9, 32767, by decide +kernel⟩,
    ⟨inWatch, 1, 0, 2, 2, 9, commonBytes - 1, by decide +kernel⟩⟩

def imgT0 : List Nat := bytesOfBe 100 0x5446494d01000700000000000000000000000000000000000000000000000000697d7b8eef74dd5796e02ed6480487a8d99a62d16022815be5be81bd7e9dbdba5a036c11b04e5c31ce46cbc75e18cb1079f3d1628e00d9da55ad5a9d8a9a2d5f93c05515
def imgErr (s : State) (k n : Nat) : Nat := match imageCheck s k n with | .ok _ => 0 | .error e => e
/-- The same image not marked as one for an update, signed. -/
def withImage0 : State := { withImage with nvm.slot := setNth inWatch.nvm.slot 1 (memWrite [] 0 imgT0) }

theorem test_hypotheses_HitlessUpdate :
    (∃ (s : State), s.get F.FRW_SWAP_STATE ≠ 1 ∧ s.get F.FRW_SWAP_STATE ≠ 2 ∧ s.awake = true ∧ s.flag F.FRW_CFG_SPLIT = true ∧ (∀ c < 4, s.flag (F.FRW_COREc_ST_UNSIGNED c) = false ∨ coreState s c = C_RETIRED)) ∧
    (∃ (s : State), (s.get F.FRW_SWAP_STATE = 1 ∨ s.get F.FRW_SWAP_STATE = 2 ∨ s.awake = false ∨ s.flag F.FRW_CFG_SPLIT = false ∨ (∃ c < 4, s.flag (F.FRW_COREc_ST_UNSIGNED c) = true ∧ coreState s c ≠ C_RETIRED))) ∧
    (∃ (s : State), s.get F.FRW_SWAP_STATE = 1 ∧ s.coreRuns = true ∧ bit s.nvm.valid (1 - s.get F.FRW_IMG_FACT) = false) ∧
    (∃ (s : State) (e : Nat), s.get F.FRW_SWAP_STATE = 1 ∧ s.coreRuns = true ∧ bit s.nvm.valid (1 - s.get F.FRW_IMG_FACT) = true ∧ imageCheck s 1 (1 - s.get F.FRW_IMG_FACT) = .error e) ∧
    (∃ (s : State) (img : Image), s.get F.FRW_SWAP_STATE = 1 ∧ s.coreRuns = true ∧ bit s.nvm.valid (1 - s.get F.FRW_IMG_FACT) = true ∧ imageCheck s 1 (1 - s.get F.FRW_IMG_FACT) = .ok img ∧ bit img.flags 0 = false) ∧
    (∃ (s : State) (img : Image), s.get F.FRW_SWAP_STATE = 1 ∧ s.coreRuns = true ∧ bit s.nvm.valid (1 - s.get F.FRW_IMG_FACT) = true ∧ imageCheck s 1 (1 - s.get F.FRW_IMG_FACT) = .ok img ∧ bit img.flags 0 = true) ∧
    (∃ (s : State), (s.get F.FRW_SWAP_STATE ≠ 1 ∨ s.coreRuns = false)) ∧
    (∃ (s : State), s.get F.FRW_SWAP_STATE = 2 ∧ s.coreRuns = true ∧ frameBoundary s = true ∧ s.frw.swapTasks = []) ∧
    (∃ (s : State) (a : Nat) (w : Word), s.get F.FRW_SWAP_STATE = 2 ∧ s.coreRuns = true ∧ frameBoundary s = true ∧ s.frw.swapTasks = [(a, w)] ∧ (∃ (c : Fin 4) (k : Fin 16), a = A.FRW_Tc_t_BOUND c k)) ∧
    (∃ (s : State), (s.get F.FRW_SWAP_STATE ≠ 2 ∨ s.coreRuns = false ∨ frameBoundary s = false)) ∧
    (∃ (s : State), s.clk.present = true ∧ s.get F.FRW_SWAP_STATE = 2) ∧
    (∃ (s : State), s.clk.present = true ∧ s.get F.FRW_SWAP_STATE = 2 ∧ s.pwr.deferring = true) ∧
    (∃ (s : State), (s.clk.present = false ∨ s.get F.FRW_SWAP_STATE ≠ 2)) :=
  ⟨⟨puts [(F.FRW_SWAP_STATE, 0), (F.PWR_STATE_STATE, WATCH), (F.FRW_CFG_SPLIT, 1)] inWatch, by decide +kernel⟩,
    ⟨puts [(F.FRW_SWAP_STATE, 1)] inWatch, Or.inl (by decide +kernel)⟩,
    ⟨puts [(F.FRW_SWAP_STATE, 1), (F.CLK_STAT_LOCK, 1)] inWatch, by decide +kernel⟩,
    ⟨puts [(F.FRW_SWAP_STATE, 1), (F.CLK_STAT_LOCK, 1)] { inWatch with nvm.valid := 2 }, imgErr { inWatch with nvm.valid := 2 } 1 1, by decide +kernel⟩,
    ⟨puts [(F.FRW_SWAP_STATE, 1), (F.CLK_STAT_LOCK, 1)] withImage0, imgOk withImage0 1 1, by decide +kernel⟩,
    ⟨puts [(F.FRW_SWAP_STATE, 1), (F.CLK_STAT_LOCK, 1)] withImage, imgOk withImage 1 1, by decide +kernel⟩,
    ⟨inWatch, by decide +kernel⟩,
    ⟨puts [(F.FRW_SWAP_STATE, 2), (F.CLK_STAT_LOCK, 1)] inWatch, by decide +kernel⟩,
    ⟨({ (puts [(F.FRW_SWAP_STATE, 2), (F.CLK_STAT_LOCK, 1)] inWatch) with frw.swapTasks := [(A.FRW_Tc_t_BOUND 1 2, 77)] } : State), A.FRW_Tc_t_BOUND 1 2, 77, by decide +kernel, by decide +kernel, by decide +kernel, by decide +kernel, 1, 2, rfl⟩,
    ⟨inWatch, by decide +kernel⟩,
    ⟨({ (puts [(F.FRW_SWAP_STATE, 2)] inWatch) with clk.present := true } : State), by decide +kernel⟩,
    ⟨({ (puts [(F.FRW_SWAP_STATE, 2)] inWatch) with clk.present := true, pwr.deferring := true } : State), by decide +kernel⟩,
    ⟨inWatch, by decide +kernel⟩⟩

theorem test_hypotheses_FurrowRegisterAlu :
    (∃ (e : (RForm → Instr) × (Word → Word → Word)), e ∈ ([(.add, fun a b => a + b), (.sub, fun a b => a - b), (.and, fun a b => a &&& b), (.or, fun a b => a ||| b), (.xor, fun a b => a ^^^ b), (.andn, fun a b => a &&& ~~~b), (.orn, fun a b => a ||| ~~~b), (.sll, fun a b => a <<< (b.toNat % 32)), (.srl, fun a b => a >>> (b.toNat % 32)), (.sra, fun a b => a.sshiftRight (b.toNat % 32)), (.ror, fun a b => (a >>> (b.toNat % 32)) ||| (a <<< (32 - b.toNat % 32))), (.slt, fun a b => if a.toInt < b.toInt then 1 else 0), (.sltu, fun a b => if a.toNat < b.toNat then 1 else 0), (.min, fun a b => if a.toInt ≤ b.toInt then a else b), (.max, fun a b => if a.toInt ≤ b.toInt then b else a), (.minu, fun a b => if a.toNat ≤ b.toNat then a else b), (.maxu, fun a b => if a.toNat ≤ b.toNat then b else a)] : List ((RForm → Instr) × (Word → Word → Word)))) ∧
    (∃ (s : State) (i : RForm) (e : (RForm → Instr) × (Int → Int → Int)) (v : Int), e ∈ ([(.adds, fun a b => a + b), (.subs, fun a b => a - b)] : List ((RForm → Instr) × (Int → Int → Int))) ∧ v = e.2 ((beforeOf s i.c).sv i.rs1).toInt ((beforeOf s i.c).sv i.rs2).toInt) ∧
    (∃ (i : RForm) (e : (RForm → Instr) × (Word → Word)), e ∈ ([(.clz, clzW), (.ctz, ctzW), (.popc, popW), (.sextb, fun a => (a.extractLsb' 0 8).signExtend 32), (.sexth, fun a => (a.extractLsb' 0 16).signExtend 32), (.zexth, fun a => a &&& 0xFFFF), (.rev8, rev8W)] : List ((RForm → Instr) × (Word → Word))) ∧ i.rs2 = 0) ∧
    (∃ (a : Word), a = 0) ∧
    (∃ (a : Word), a ≠ 0) ∧
    (∃ (k : Nat), k < 4) :=
  ⟨⟨_, .head _⟩,
    ⟨(withCores), ⟨1, true, 2, 3, 0⟩, _, _, .head _, rfl⟩,
    ⟨⟨1, true, 2, 3, 0⟩, _, .head _, by decide +kernel⟩,
    ⟨_, rfl⟩,
    ⟨5, by decide +kernel⟩,
    ⟨1, by decide +kernel⟩⟩

theorem test_hypotheses_FurrowImmediateAlu :
    (∃ (i : IForm) (e : (IForm → Instr) × (Word → Word)), e ∈ ([(.addi, fun a => a + i.imm.signExtend 32), (.andi, fun a => a &&& i.imm.zeroExtend 32), (.ori, fun a => a ||| i.imm.zeroExtend 32), (.xori, fun a => a ^^^ i.imm.zeroExtend 32), (.shori, fun a => (a <<< 13) ||| i.imm.zeroExtend 32), (.slti, fun a => if a.toInt < i.imm.toInt then 1 else 0), (.sltiu, fun a => if a.toNat < i.imm.toNat then 1 else 0)] : List ((IForm → Instr) × (Word → Word)))) ∧
    (∃ (i : IForm) (e : (IForm → Instr) × (Word → Word)), e ∈ ([(.slli, fun a => a <<< (i.imm.toNat % 32)), (.srli, fun a => a >>> (i.imm.toNat % 32)), (.srai, fun a => a.sshiftRight (i.imm.toNat % 32)), (.rori, fun a => (a >>> (i.imm.toNat % 32)) ||| (a <<< (32 - i.imm.toNat % 32)))] : List ((IForm → Instr) × (Word → Word))) ∧ i.imm.toNat < 128) :=
  ⟨⟨⟨1, true, 2, 3, 127⟩, _, .head _⟩,
    ⟨⟨1, true, 2, 3, 127⟩, _, .head _, by decide +kernel⟩⟩

theorem test_hypotheses_FurrowPredicates :
    (∃ (i : RForm) (e : (RForm → Instr) × (Word → Word → Bool)), e ∈ ([(.cmpEq, fun a b => decide (a = b)), (.cmpNe, fun a b => decide (a ≠ b)), (.cmpLt, fun a b => decide (a.toInt < b.toInt)), (.cmpGe, fun a b => decide (b.toInt ≤ a.toInt)), (.cmpLtu, fun a b => decide (a.toNat < b.toNat)), (.cmpGeu, fun a b => decide (b.toNat ≤ a.toNat))] : List ((RForm → Instr) × (Word → Word → Bool))) ∧ i.rd.toNat < 8) ∧
    (∃ (i : IForm) (e : (IForm → Instr) × (Word → Bool)), e ∈ ([(.cmpiEq, fun a => decide (a = i.imm.signExtend 32)), (.cmpiNe, fun a => decide (a ≠ i.imm.signExtend 32)), (.cmpiLt, fun a => decide (a.toInt < i.imm.toInt)), (.cmpiGe, fun a => decide (i.imm.toInt ≤ a.toInt)), (.cmpiLtu, fun a => decide (a.toNat < i.imm.toNat)), (.cmpiGeu, fun a => decide (i.imm.toNat ≤ a.toNat))] : List ((IForm → Instr) × (Word → Bool))) ∧ i.rd.toNat < 8) ∧
    (∃ (i : RForm) (e : (RForm → Instr) × (Bool → Bool → Bool)), e ∈ ([(.pand, fun a b => a && b), (.por, fun a b => a || b), (.pxor, fun a b => xor a b), (.pandn, fun a b => a && !b), (.porn, fun a b => a || !b)] : List ((RForm → Instr) × (Bool → Bool → Bool))) ∧ i.rd.toNat < 8 ∧ i.rs1.toNat < 8 ∧ i.rs2.toNat < 8) ∧
    (∃ (f : BitVec 8), f.toNat < 8) ∧
    (∃ (i : RForm), i.rs1 = 0 ∧ i.rs2 = 0) ∧
    (∃ (i : RForm), i.rd = 0 ∧ i.rs2 = 0) :=
  ⟨⟨⟨1, true, 7, 3, 4⟩, _, .head _, by decide +kernel⟩,
    ⟨⟨1, true, 7, 3, 127⟩, _, .head _, by decide +kernel⟩,
    ⟨⟨1, true, 7, 7, 7⟩, _, .head _, by decide +kernel⟩,
    ⟨7, by decide +kernel⟩,
    ⟨⟨1, true, 0, 0, 0⟩, by decide +kernel⟩,
    ⟨⟨1, true, 0, 0, 0⟩, by decide +kernel⟩⟩

theorem test_hypotheses_FurrowAccumulatorAndLoops :
    (∃ (s : State) (i : RForm) (x : Bool) (y : Bool) (e : Instr × Int) (v : Int × Bool), e ∈ ([(.smac i x y, 1), (.smsu i x y, -1)] : List (Instr × Int)) ∧ 4 ≤ i.c.val ∧ i.rd = 0 ∧ v = accF (beforeOf s i.c).fmNow (ac0 (beforeOf s i.c) + e.2 * (halfOf ((beforeOf s i.c).sv i.rs1) x * halfOf ((beforeOf s i.c).sv i.rs2) y))) ∧
    (∃ (i : RForm), 4 ≤ i.c.val ∧ i.rd = 0 ∧ i.rs1 = 0 ∧ i.rs2 = 0) ∧
    (∃ (s : State) (i : RForm) (v : Nat × Bool), 4 ≤ i.c.val ∧ i.rs1 = 0 ∧ i.rs2 = 0 ∧ v = narrowF (beforeOf s i.c).fmNow 32 (ac0 (beforeOf s i.c))) ∧
    (∃ (i : RForm) (f : BitVec 8), f.toNat < 6 ∧ i.rs1 = 0 ∧ i.rs2 = 0) ∧
    (∃ (s : State) (i : RForm) (f : BitVec 8) (r : CoreRegs), f.toNat < 6 ∧ i.rd = 0 ∧ i.rs2 = 0 ∧ r = loopRegPut (s.core i.c).regs f.toNat ((beforeOf s i.c).sv i.rs1) ∧ loopAt r (s.core i.c).pc 0 = false ∧ loopAt r (s.core i.c).pc 1 = false) ∧
    (∃ (r : CoreRegs) (f : Nat) (g : Nat), f < 6 ∧ g < 6 ∧ r.lc.length = 2 ∧ r.lb.length = 2 ∧ r.le.length = 2 ∧ g ≠ f) :=
  ⟨⟨(withCores), ⟨4, true, 0, 0, 0⟩, true, true, _, _, .head _, by decide +kernel, by decide +kernel, rfl⟩,
    ⟨⟨4, true, 0, 0, 0⟩, by decide +kernel⟩,
    ⟨(withCores), ⟨4, true, 0, 0, 0⟩, _, by decide +kernel, by decide +kernel, by decide +kernel, rfl⟩,
    ⟨⟨4, true, 0, 0, 0⟩, 5, by decide +kernel⟩,
    ⟨(withCores), ⟨4, true, 0, 0, 0⟩, 5, CoreRegs.reset, by decide +kernel⟩,
    ⟨CoreRegs.reset, 5, 4, by decide +kernel⟩⟩

theorem test_hypotheses_FurrowTransfers :
    (∃ (s : State) (c : Fin 6) (x : Instr) (taken : Bool) (target : Nat) (ws : List Nat) (r : CoreRegs), (s.core c).bun = none ∧ TakesWord s c 0 ws ∧ PlainEnd s c ∧ ((∃ i : BForm, i.c = c ∧ i.e = true ∧ x = .br i ∧ taken = true ∧ ws = [] ∧ r = (s.core c).regs ∧ (target : Int) = (((s.core c).pc : Int) + 4 * i.offs.toInt) % 2 ^ 32) ∨ (∃ (i : BForm) (n : Fin 3), i.c = c ∧ i.e = true ∧ x = .call i 0 n ∧ taken = true ∧ ws = [regS 31] ∧ r = (s.core c).regs.setS 31 (BitVec.ofNat 32 ((s.core c).pc + 4 + 4 * (n.val + 1))) ∧ (target : Int) = (((s.core c).pc : Int) + 4 * i.offs.toInt) % 2 ^ 32) ∨ (∃ (i : RForm) (n : Fin 3), i.c = c ∧ i.e = true ∧ x = .jalr i 0 0 n ∧ i.rs2 = 0 ∧ (i.rd ≠ i.rs1 ∨ i.rd = 0) ∧ taken = true ∧ ws = [regS i.rd.toNat] ∧ r = (s.core c).regs.setS i.rd (BitVec.ofNat 32 ((s.core c).pc + 4 + 4 * (n.val + 1))) ∧ target = ((s.core c).regs.sv i.rs1).toNat / 4 * 4) ∨ (∃ i : IForm, i.c = c ∧ i.e = true ∧ i.rd = 0 ∧ ws = [] ∧ r = (s.core c).regs ∧ (target : Int) = (((s.core c).pc : Int) + 4 * i.imm.toInt) % 2 ^ 32 ∧ ((x, taken) ∈ [(Instr.bz i, decide (((s.core c).regs.sv i.rs1).toInt = 0)), (.bnz i, decide (((s.core c).regs.sv i.rs1).toInt ≠ 0)), (.bltz i, decide (((s.core c).regs.sv i.rs1).toInt < 0)), (.bgez i, decide (0 ≤ ((s.core c).regs.sv i.rs1).toInt)), (.bgtz i, decide (0 < ((s.core c).regs.sv i.rs1).toInt)), (.blez i, decide (((s.core c).regs.sv i.rs1).toInt ≤ 0))] ∨ (i.rs1.toNat < 8 ∧ (x, taken) ∈ [(Instr.bp i, (s.core c).regs.pv i.rs1.toNat), (.bnp i, !(s.core c).regs.pv i.rs1.toNat)]))))) ∧
    (∃ (s : State) (c : Fin 6) (x : Instr) (taken : Bool) (target : Nat) (ws : List Nat) (r : CoreRegs), (s.core c).bun = none ∧ TakesWord s c 0 ws ∧ PlainEnd s c ∧ ((∃ i : BForm, i.c = c ∧ i.e = true ∧ x = .br i ∧ taken = true ∧ ws = [] ∧ r = (s.core c).regs ∧ (target : Int) = (((s.core c).pc : Int) + 4 * i.offs.toInt) % 2 ^ 32) ∨ (∃ (i : BForm) (n : Fin 3), i.c = c ∧ i.e = true ∧ x = .call i 0 n ∧ taken = true ∧ ws = [regS 31] ∧ r = (s.core c).regs.setS 31 (BitVec.ofNat 32 ((s.core c).pc + 4 + 4 * (n.val + 1))) ∧ (target : Int) = (((s.core c).pc : Int) + 4 * i.offs.toInt) % 2 ^ 32) ∨ (∃ (i : RForm) (n : Fin 3), i.c = c ∧ i.e = true ∧ x = .jalr i 0 0 n ∧ i.rs2 = 0 ∧ (i.rd ≠ i.rs1 ∨ i.rd = 0) ∧ taken = true ∧ ws = [regS i.rd.toNat] ∧ r = (s.core c).regs.setS i.rd (BitVec.ofNat 32 ((s.core c).pc + 4 + 4 * (n.val + 1))) ∧ target = ((s.core c).regs.sv i.rs1).toNat / 4 * 4) ∨ (∃ i : IForm, i.c = c ∧ i.e = true ∧ i.rd = 0 ∧ ws = [] ∧ r = (s.core c).regs ∧ (target : Int) = (((s.core c).pc : Int) + 4 * i.imm.toInt) % 2 ^ 32 ∧ ((x, taken) ∈ [(Instr.bz i, decide (((s.core c).regs.sv i.rs1).toInt = 0)), (.bnz i, decide (((s.core c).regs.sv i.rs1).toInt ≠ 0)), (.bltz i, decide (((s.core c).regs.sv i.rs1).toInt < 0)), (.bgez i, decide (0 ≤ ((s.core c).regs.sv i.rs1).toInt)), (.bgtz i, decide (0 < ((s.core c).regs.sv i.rs1).toInt)), (.blez i, decide (((s.core c).regs.sv i.rs1).toInt ≤ 0))] ∨ (i.rs1.toNat < 8 ∧ (x, taken) ∈ [(Instr.bp i, (s.core c).regs.pv i.rs1.toNat), (.bnp i, !(s.core c).regs.pv i.rs1.toNat)]))))) ∧
    (∃ (s : State) (c : Fin 6) (x : Instr) (taken : Bool) (target : Nat) (ws : List Nat) (r : CoreRegs), (s.core c).bun = none ∧ TakesWord s c 0 ws ∧ PlainEnd s c ∧ ((∃ i : BForm, i.c = c ∧ i.e = true ∧ x = .br i ∧ taken = true ∧ ws = [] ∧ r = (s.core c).regs ∧ (target : Int) = (((s.core c).pc : Int) + 4 * i.offs.toInt) % 2 ^ 32) ∨ (∃ (i : BForm) (n : Fin 3), i.c = c ∧ i.e = true ∧ x = .call i 0 n ∧ taken = true ∧ ws = [regS 31] ∧ r = (s.core c).regs.setS 31 (BitVec.ofNat 32 ((s.core c).pc + 4 + 4 * (n.val + 1))) ∧ (target : Int) = (((s.core c).pc : Int) + 4 * i.offs.toInt) % 2 ^ 32) ∨ (∃ (i : RForm) (n : Fin 3), i.c = c ∧ i.e = true ∧ x = .jalr i 0 0 n ∧ i.rs2 = 0 ∧ (i.rd ≠ i.rs1 ∨ i.rd = 0) ∧ taken = true ∧ ws = [regS i.rd.toNat] ∧ r = (s.core c).regs.setS i.rd (BitVec.ofNat 32 ((s.core c).pc + 4 + 4 * (n.val + 1))) ∧ target = ((s.core c).regs.sv i.rs1).toNat / 4 * 4) ∨ (∃ i : IForm, i.c = c ∧ i.e = true ∧ i.rd = 0 ∧ ws = [] ∧ r = (s.core c).regs ∧ (target : Int) = (((s.core c).pc : Int) + 4 * i.imm.toInt) % 2 ^ 32 ∧ ((x, taken) ∈ [(Instr.bz i, decide (((s.core c).regs.sv i.rs1).toInt = 0)), (.bnz i, decide (((s.core c).regs.sv i.rs1).toInt ≠ 0)), (.bltz i, decide (((s.core c).regs.sv i.rs1).toInt < 0)), (.bgez i, decide (0 ≤ ((s.core c).regs.sv i.rs1).toInt)), (.bgtz i, decide (0 < ((s.core c).regs.sv i.rs1).toInt)), (.blez i, decide (((s.core c).regs.sv i.rs1).toInt ≤ 0))] ∨ (i.rs1.toNat < 8 ∧ (x, taken) ∈ [(Instr.bp i, (s.core c).regs.pv i.rs1.toNat), (.bnp i, !(s.core c).regs.pv i.rs1.toNat)]))))) ∧
    (∃ (s : State) (c : Fin 6) (x : Instr) (taken : Bool) (target : Nat) (ws : List Nat) (r : CoreRegs), (s.core c).bun = none ∧ TakesWord s c 0 ws ∧ PlainEnd s c ∧ ((∃ i : BForm, i.c = c ∧ i.e = true ∧ x = .br i ∧ taken = true ∧ ws = [] ∧ r = (s.core c).regs ∧ (target : Int) = (((s.core c).pc : Int) + 4 * i.offs.toInt) % 2 ^ 32) ∨ (∃ (i : BForm) (n : Fin 3), i.c = c ∧ i.e = true ∧ x = .call i 0 n ∧ taken = true ∧ ws = [regS 31] ∧ r = (s.core c).regs.setS 31 (BitVec.ofNat 32 ((s.core c).pc + 4 + 4 * (n.val + 1))) ∧ (target : Int) = (((s.core c).pc : Int) + 4 * i.offs.toInt) % 2 ^ 32) ∨ (∃ (i : RForm) (n : Fin 3), i.c = c ∧ i.e = true ∧ x = .jalr i 0 0 n ∧ i.rs2 = 0 ∧ (i.rd ≠ i.rs1 ∨ i.rd = 0) ∧ taken = true ∧ ws = [regS i.rd.toNat] ∧ r = (s.core c).regs.setS i.rd (BitVec.ofNat 32 ((s.core c).pc + 4 + 4 * (n.val + 1))) ∧ target = ((s.core c).regs.sv i.rs1).toNat / 4 * 4) ∨ (∃ i : IForm, i.c = c ∧ i.e = true ∧ i.rd = 0 ∧ ws = [] ∧ r = (s.core c).regs ∧ (target : Int) = (((s.core c).pc : Int) + 4 * i.imm.toInt) % 2 ^ 32 ∧ ((x, taken) ∈ [(Instr.bz i, decide (((s.core c).regs.sv i.rs1).toInt = 0)), (.bnz i, decide (((s.core c).regs.sv i.rs1).toInt ≠ 0)), (.bltz i, decide (((s.core c).regs.sv i.rs1).toInt < 0)), (.bgez i, decide (0 ≤ ((s.core c).regs.sv i.rs1).toInt)), (.bgtz i, decide (0 < ((s.core c).regs.sv i.rs1).toInt)), (.blez i, decide (((s.core c).regs.sv i.rs1).toInt ≤ 0))] ∨ (i.rs1.toNat < 8 ∧ (x, taken) ∈ [(Instr.bp i, (s.core c).regs.pv i.rs1.toNat), (.bnp i, !(s.core c).regs.pv i.rs1.toNat)]))))) ∧
    (∃ (s : State) (c : Fin 6) (x : Instr) (taken : Bool) (target : Nat) (ws : List Nat) (r : CoreRegs), (s.core c).bun = none ∧ TakesWord s c 0 ws ∧ PlainEnd s c ∧ ((∃ i : BForm, i.c = c ∧ i.e = true ∧ x = .br i ∧ taken = true ∧ ws = [] ∧ r = (s.core c).regs ∧ (target : Int) = (((s.core c).pc : Int) + 4 * i.offs.toInt) % 2 ^ 32) ∨ (∃ (i : BForm) (n : Fin 3), i.c = c ∧ i.e = true ∧ x = .call i 0 n ∧ taken = true ∧ ws = [regS 31] ∧ r = (s.core c).regs.setS 31 (BitVec.ofNat 32 ((s.core c).pc + 4 + 4 * (n.val + 1))) ∧ (target : Int) = (((s.core c).pc : Int) + 4 * i.offs.toInt) % 2 ^ 32) ∨ (∃ (i : RForm) (n : Fin 3), i.c = c ∧ i.e = true ∧ x = .jalr i 0 0 n ∧ i.rs2 = 0 ∧ (i.rd ≠ i.rs1 ∨ i.rd = 0) ∧ taken = true ∧ ws = [regS i.rd.toNat] ∧ r = (s.core c).regs.setS i.rd (BitVec.ofNat 32 ((s.core c).pc + 4 + 4 * (n.val + 1))) ∧ target = ((s.core c).regs.sv i.rs1).toNat / 4 * 4) ∨ (∃ i : IForm, i.c = c ∧ i.e = true ∧ i.rd = 0 ∧ ws = [] ∧ r = (s.core c).regs ∧ (target : Int) = (((s.core c).pc : Int) + 4 * i.imm.toInt) % 2 ^ 32 ∧ ((x, taken) ∈ [(Instr.bz i, decide (((s.core c).regs.sv i.rs1).toInt = 0)), (.bnz i, decide (((s.core c).regs.sv i.rs1).toInt ≠ 0)), (.bltz i, decide (((s.core c).regs.sv i.rs1).toInt < 0)), (.bgez i, decide (0 ≤ ((s.core c).regs.sv i.rs1).toInt)), (.bgtz i, decide (0 < ((s.core c).regs.sv i.rs1).toInt)), (.blez i, decide (((s.core c).regs.sv i.rs1).toInt ≤ 0))] ∨ (i.rs1.toNat < 8 ∧ (x, taken) ∈ [(Instr.bp i, (s.core c).regs.pv i.rs1.toNat), (.bnp i, !(s.core c).regs.pv i.rs1.toNat)]))))) ∧
    (∃ (s : State) (i : RForm) (d : Transfer), TakesWord s i.c 0 [regS i.rd.toNat] ∧ i.e = true ∧ (s.core i.c).slot = some d ∧ (s.core i.c).bun = none ∧ loopAt (s.core i.c).regs (s.core i.c).pc 0 = false ∧ loopAt (s.core i.c).regs (s.core i.c).pc 1 = false ∧ Calm s i.c) ∧
    (∃ (s : State) (i : IForm) (k : Fin 2) (r : CoreRegs), TakesWord s i.c 0 [regL (3 * k), regL (3 * k + 1), regL (3 * k + 2)] ∧ i.e = true ∧ PlainEnd s i.c ∧ (s.core i.c).bun = none ∧ i.rd.toNat = k.val ∧ 1 ≤ i.imm.toNat ∧ r = (s.core i.c).regs ∧ r.lc.length = 2 ∧ r.lb.length = 2 ∧ r.le.length = 2 ∧ (s.core i.c).pc % 4 = 0) ∧
    (∃ (s : State) (i : RForm) (r : CoreRegs) (n : Word), TakesWord s i.c 0 [regS i.rd.toNat] ∧ i.e = true ∧ (s.core i.c).bun = none ∧ (s.core i.c).slot = none ∧ r = (s.core i.c).regs ∧ loopAt r (s.core i.c).pc 1 = true ∧ n = nth r.lc 1 0 ∧ r.lc.length = 2 ∧ 1 < n.toNat ∧ Calm s i.c) ∧
    (∃ (s : State) (i : RForm) (r : CoreRegs), TakesWord s i.c 0 [regS i.rd.toNat] ∧ i.e = true ∧ (s.core i.c).bun = none ∧ (s.core i.c).slot = none ∧ r = (s.core i.c).regs ∧ loopAt r (s.core i.c).pc 1 = true ∧ loopAt r (s.core i.c).pc 0 = false ∧ (nth r.lc 1 0).toNat = 1 ∧ Calm s i.c) :=
  ⟨⟨(withCores), 1, _, _, 20, _, _, by decide +kernel, by unfold TakesWord; decide +kernel, plainF _ _ (by decide +kernel) (calmF _ _ (by decide +kernel)), .inl ⟨⟨1, true, 5⟩, rfl, rfl, rfl, rfl, rfl, rfl, by decide +kernel⟩⟩,
    ⟨(withCores), 1, _, _, 4294967292, _, _, by decide +kernel, by unfold TakesWord; decide +kernel, plainF _ _ (by decide +kernel) (calmF _ _ (by decide +kernel)), .inr (.inl ⟨⟨1, true, -1⟩, 2, rfl, rfl, rfl, rfl, rfl, rfl, by decide +kernel⟩)⟩,
    ⟨(withCores), 1, _, _, 0, _, _, by decide +kernel, by unfold TakesWord; decide +kernel, plainF _ _ (by decide +kernel) (calmF _ _ (by decide +kernel)), .inr (.inr (.inl ⟨⟨1, true, 0, 0, 0⟩, 0, rfl, rfl, rfl, rfl, .inr rfl, rfl, rfl, rfl, by decide +kernel⟩))⟩,
    ⟨(withCores), 1, _, _, 4294950912, _, _, by decide +kernel, by unfold TakesWord; decide +kernel, plainF _ _ (by decide +kernel) (calmF _ _ (by decide +kernel)), .inr (.inr (.inr ⟨⟨1, true, 0, 3, 4096⟩, rfl, rfl, rfl, rfl, rfl, by decide +kernel, .inl (.head _)⟩))⟩,
    ⟨(withCores), 1, _, _, 16380, _, _, by decide +kernel, by unfold TakesWord; decide +kernel, plainF _ _ (by decide +kernel) (calmF _ _ (by decide +kernel)), .inr (.inr (.inr ⟨⟨1, true, 0, 7, 4095⟩, rfl, rfl, rfl, rfl, rfl, by decide +kernel, .inr ⟨by decide, .head _⟩⟩))⟩,
    ⟨({ ((withCores)) with frw.core := coreT 1 { CoreSt.reset with slot := some ⟨0, 4, true, 64⟩ } } : State), ⟨1, true, 5, 3, 4⟩, ⟨0, 4, true, 64⟩, by unfold TakesWord; decide +kernel, by decide +kernel, by decide +kernel, by decide +kernel, by decide +kernel, by decide +kernel, calmF _ _ (by decide +kernel)⟩,
    ⟨(withCores), ⟨1, true, 1, 3, 1⟩, 1, _, by unfold TakesWord; decide +kernel, by decide +kernel, plainF _ _ (by decide +kernel) (calmF _ _ (by decide +kernel)), by decide +kernel, by decide +kernel, by decide +kernel, rfl, rfl, rfl, rfl, by decide +kernel⟩,
    ⟨({ ((withCores)) with frw.core := coreT 1 { CoreSt.reset with regs := { CoreRegs.reset with lc := [0, 2] } } } : State), ⟨1, true, 5, 3, 4⟩, _, _, by unfold TakesWord; decide +kernel, by decide +kernel, by decide +kernel, by decide +kernel, rfl, rfl, rfl, rfl, by decide +kernel, calmF _ _ (by decide +kernel)⟩,
    ⟨({ ((withCores)) with frw.core := coreT 1 { CoreSt.reset with regs := { CoreRegs.reset with lc := [0, 1] } } } : State), ⟨1, true, 5, 3, 4⟩, _, by unfold TakesWord; decide +kernel, by decide +kernel, by decide +kernel, by decide +kernel, rfl, rfl, rfl, rfl, calmF _ _ (by decide +kernel)⟩⟩

theorem test_hypotheses_FurrowVectorLanes :
    (∃ (s : State) (i : RForm) (f : BitVec 8) (w : Bool) (a : BitVec 128) (b : BitVec 128) (e : (RForm → BitVec 8 → Instr) × (Int → Int → Int)) (q : BitVec 128), e ∈ ([(.vadd, fun x y => x + y), (.vsub, fun x y => x - y)] : List ((RForm → BitVec 8 → Instr) × (Int → Int → Int))) ∧ i.c.val < 4 ∧ i.rd.toNat < 16 ∧ i.rs1.toNat < 16 ∧ a = (beforeOf s i.c).qv i.rs1 ∧ b = (beforeOf s i.c).qv i.rs2 ∧ w = bit f.toNat 0 ∧ i.rs2.toNat < 16 ∧ f.toNat < 2 ∧ (∀ k < laneCount w, laneU w q k = ofSigned (laneBits w) (e.2 (laneS w a k) (laneS w b k)))) ∧
    (∃ (s : State) (i : RForm) (f : BitVec 8) (w : Bool) (a : BitVec 128) (b : BitVec 128) (e : (RForm → BitVec 8 → Instr) × (Int → Int → Int)) (q : BitVec 128), e ∈ ([(.vadds, fun x y => x + y), (.vsubs, fun x y => x - y)] : List ((RForm → BitVec 8 → Instr) × (Int → Int → Int))) ∧ i.c.val < 4 ∧ i.rd.toNat < 16 ∧ i.rs1.toNat < 16 ∧ a = (beforeOf s i.c).qv i.rs1 ∧ b = (beforeOf s i.c).qv i.rs2 ∧ w = bit f.toNat 0 ∧ i.rs2.toNat < 16 ∧ f.toNat < 2 ∧ (∀ k < laneCount w, laneS w q k = satS (laneBits w) (e.2 (laneS w a k) (laneS w b k)))) ∧
    (∃ (s : State) (i : RForm) (f : BitVec 8) (w : Bool) (a : BitVec 128) (b : BitVec 128) (e : (RForm → BitVec 8 → Instr) × (Int → Int → Int)) (q : BitVec 128), e ∈ ([(.vmin, fun x y => if x < y then x else y), (.vmax, fun x y => if x < y then y else x)] : List ((RForm → BitVec 8 → Instr) × (Int → Int → Int))) ∧ i.c.val < 4 ∧ i.rd.toNat < 16 ∧ i.rs1.toNat < 16 ∧ a = (beforeOf s i.c).qv i.rs1 ∧ b = (beforeOf s i.c).qv i.rs2 ∧ w = bit f.toNat 0 ∧ i.rs2.toNat < 16 ∧ f.toNat < 2 ∧ (∀ k < laneCount w, laneS w q k = e.2 (laneS w a k) (laneS w b k))) ∧
    (∃ (s : State) (i : RForm) (f : BitVec 8) (w : Bool) (a : BitVec 128) (b : BitVec 128) (q : BitVec 128), i.c.val < 4 ∧ i.rd.toNat < 16 ∧ i.rs1.toNat < 16 ∧ a = (beforeOf s i.c).qv i.rs1 ∧ b = (beforeOf s i.c).qv i.rs2 ∧ w = bit f.toNat 0 ∧ i.rs2 = 0 ∧ f.toNat < 2 ∧ (∀ k < laneCount w, laneS w q k = satS (laneBits w) (laneS w a k).natAbs)) ∧
    (∃ (s : State) (i : RForm) (f : BitVec 8) (w : Bool) (a : BitVec 128) (b : BitVec 128) (e : (RForm → BitVec 8 → Instr) × (Nat → Nat)) (q : BitVec 128), e ∈ ([(.vsll, fun k => laneU w a k * 2 ^ bits f.toNat 3 5 % 2 ^ laneBits w), (.vsrl, fun k => laneU w a k / 2 ^ bits f.toNat 3 5), (.vsra, fun k => ofSigned (laneBits w) (laneS w a k / 2 ^ bits f.toNat 3 5)), (.vsrar, fun k => ofSigned (laneBits w) (rndF (laneS w a k) (bits f.toNat 3 5) (fmRnd (beforeOf s i.c).fmNow)))] : List ((RForm → BitVec 8 → Instr) × (Nat → Nat))) ∧ i.c.val < 4 ∧ i.rd.toNat < 16 ∧ i.rs1.toNat < 16 ∧ a = (beforeOf s i.c).qv i.rs1 ∧ b = (beforeOf s i.c).qv i.rs2 ∧ w = bit f.toNat 0 ∧ i.rs2 = 0 ∧ (w = true ∨ bits f.toNat 3 5 ≤ 15) ∧ (∀ k < laneCount w, laneU w q k = e.2 k)) ∧
    (∃ (s : State) (i : RForm) (f : BitVec 8) (w : Bool) (a : BitVec 128) (b : BitVec 128) (e : (RForm → BitVec 8 → Instr) × (Nat → Bool)) (q : BitVec 128), e ∈ ([(.vcmpEq, fun k => laneU w a k == laneU w b k), (.vcmpLt, fun k => decide (laneS w a k < laneS w b k)), (.vcmpLtu, fun k => decide (laneU w a k < laneU w b k)), (.vcmpLe, fun k => decide (laneS w a k ≤ laneS w b k))] : List ((RForm → BitVec 8 → Instr) × (Nat → Bool))) ∧ i.c.val < 4 ∧ i.rd.toNat < 16 ∧ i.rs1.toNat < 16 ∧ a = (beforeOf s i.c).qv i.rs1 ∧ b = (beforeOf s i.c).qv i.rs2 ∧ w = bit f.toNat 0 ∧ i.rs2.toNat < 16 ∧ f.toNat < 8 ∧ (∀ k < laneCount w, laneU w q k = if e.2 k then 2 ^ laneBits w - 1 else 0)) ∧
    (∃ (s : State) (i : RForm) (f : BitVec 8) (w : Bool) (a : BitVec 128) (b : BitVec 128) (e : (RForm → Instr) × BitVec 128), e ∈ ([(.vand, a &&& b), (.vor, a ||| b), (.vxor, a ^^^ b), (.vandn, a &&& ~~~b)] : List ((RForm → Instr) × BitVec 128)) ∧ i.c.val < 4 ∧ i.rd.toNat < 16 ∧ i.rs1.toNat < 16 ∧ a = (beforeOf s i.c).qv i.rs1 ∧ b = (beforeOf s i.c).qv i.rs2 ∧ w = bit f.toNat 0 ∧ i.rs2.toNat < 16) :=
  ⟨⟨(withCores), ⟨1, true, 15, 15, 0⟩, 1, _, _, _, _, 0, .head _, by decide +kernel, by decide +kernel, by decide +kernel, rfl, rfl, rfl, by decide +kernel⟩,
    ⟨(withCores), ⟨1, true, 15, 15, 0⟩, 1, _, _, _, _, 0, .head _, by decide +kernel, by decide +kernel, by decide +kernel, rfl, rfl, rfl, by decide +kernel⟩,
    ⟨(withCores), ⟨1, true, 15, 15, 0⟩, 1, _, _, _, _, 0, .head _, by decide +kernel, by decide +kernel, by decide +kernel, rfl, rfl, rfl, by decide +kernel⟩,
    ⟨(withCores), ⟨1, true, 15, 15, 0⟩, 1, _, _, _, 0, by decide +kernel, by decide +kernel, by decide +kernel, rfl, rfl, rfl, by decide +kernel⟩,
    ⟨(withCores), ⟨1, true, 15, 15, 0⟩, 0x79, _, _, _, _, 0, .head _, by decide +kernel, by decide +kernel, by decide +kernel, rfl, rfl, rfl, by decide +kernel⟩,
    ⟨(withCores), ⟨1, true, 15, 15, 0⟩, 7, _, _, _, _, 0xFFFFFFFFFFFFFFFFFFFFFFFFFFFFFFFF, .head _, by decide +kernel, by decide +kernel, by decide +kernel, rfl, rfl, rfl, by decide +kernel⟩,
    ⟨(withCores), ⟨1, true, 15, 15, 0⟩, 1, _, _, _, _, .head _, by decide +kernel, by decide +kernel, by decide +kernel, rfl, rfl, rfl, by decide +kernel⟩⟩

theorem test_hypotheses_FurrowVectorMoves :
    (∃ (s : State) (i : RForm) (f : BitVec 8) (w : Bool) (a : BitVec 128) (b : BitVec 128), i.c.val < 4 ∧ a = (beforeOf s i.c).qv i.rs1 ∧ b = (beforeOf s i.c).qv i.rs2 ∧ w = bit f.toNat 0 ∧ i.rd.toNat < 8 ∧ i.rs1.toNat < 16 ∧ i.rs2 = 0 ∧ (f = 2 ∨ f = 3)) ∧
    (∃ (s : State) (i : RForm) (f : BitVec 8) (w : Bool) (a : BitVec 128) (b : BitVec 128) (q : BitVec 128), i.c.val < 4 ∧ a = (beforeOf s i.c).qv i.rs1 ∧ b = (beforeOf s i.c).qv i.rs2 ∧ w = bit f.toNat 0 ∧ i.rd.toNat < 16 ∧ i.rs2 = 0 ∧ f.toNat < 2 ∧ (∀ k < laneCount w, laneU w q k = ((beforeOf s i.c).sv i.rs1).toNat % 2 ^ laneBits w)) ∧
    (∃ (s : State) (i : RForm) (f : BitVec 8) (w : Bool) (a : BitVec 128) (b : BitVec 128), i.c.val < 4 ∧ a = (beforeOf s i.c).qv i.rs1 ∧ b = (beforeOf s i.c).qv i.rs2 ∧ w = bit f.toNat 0 ∧ i.rs1.toNat < 16 ∧ i.rs2 = 0 ∧ f.toNat < 16 ∧ (w = false ∨ bits f.toNat 1 3 ≤ 3)) ∧
    (∃ (s : State) (i : RForm) (f : BitVec 8) (w : Bool) (a : BitVec 128) (b : BitVec 128) (q : BitVec 128), i.c.val < 4 ∧ a = (beforeOf s i.c).qv i.rs1 ∧ b = (beforeOf s i.c).qv i.rs2 ∧ w = bit f.toNat 0 ∧ i.rd.toNat < 16 ∧ i.rs2 = 0 ∧ f.toNat < 16 ∧ (w = false ∨ bits f.toNat 1 3 ≤ 3) ∧ (∀ k < laneCount w, laneU w q k = if k = bits f.toNat 1 3 then ((beforeOf s i.c).sv i.rs1).toNat % 2 ^ laneBits w else laneU w ((beforeOf s i.c).qv i.rd) k)) ∧
    (∃ (s : State) (i : RForm) (f : BitVec 8) (w : Bool) (a : BitVec 128) (b : BitVec 128) (q : BitVec 128), i.c.val < 4 ∧ a = (beforeOf s i.c).qv i.rs1 ∧ b = (beforeOf s i.c).qv i.rs2 ∧ w = bit f.toNat 0 ∧ i.rd.toNat < 16 ∧ i.rs1.toNat < 16 ∧ i.rs2.toNat < 16 ∧ f.toNat < 16 ∧ (w = false ∨ bits f.toNat 1 3 ≤ 3) ∧ (∀ k < laneCount w, laneU w q k = if k + bits f.toNat 1 3 < laneCount w then laneU w a (k + bits f.toNat 1 3) else laneU w b (k + bits f.toNat 1 3 - laneCount w))) ∧
    (∃ (s : State) (i : RForm) (f : BitVec 8) (w : Bool) (a : BitVec 128) (b : BitVec 128) (q : BitVec 128), i.c.val < 4 ∧ a = (beforeOf s i.c).qv i.rs1 ∧ b = (beforeOf s i.c).qv i.rs2 ∧ w = bit f.toNat 0 ∧ i.rd.toNat < 16 ∧ i.rs1.toNat < 16 ∧ i.rs2 = 0 ∧ (f = 0 ∨ f = 2) ∧ (∀ k < 4, laneS true q k = laneS false a (4 * bits f.toNat 1 1 + k))) ∧
    (∃ (s : State) (i : RForm) (f : BitVec 8) (w : Bool) (a : BitVec 128) (b : BitVec 128) (q : BitVec 128), i.c.val < 4 ∧ a = (beforeOf s i.c).qv i.rs1 ∧ b = (beforeOf s i.c).qv i.rs2 ∧ w = bit f.toNat 0 ∧ i.rd.toNat < 16 ∧ i.rs1.toNat < 16 ∧ i.rs2.toNat < 16 ∧ bit (beforeOf s i.c).fmNow.toNat 0 = true ∧ (∀ k < 4, laneS false q k = satS 16 (laneS true a k) ∧ laneS false q (4 + k) = satS 16 (laneS true b k))) ∧
    (∃ (s : State) (i : RForm) (f : BitVec 8) (w : Bool) (a : BitVec 128) (b : BitVec 128) (q : BitVec 128), i.c.val < 4 ∧ a = (beforeOf s i.c).qv i.rs1 ∧ b = (beforeOf s i.c).qv i.rs2 ∧ w = bit f.toNat 0 ∧ i.rd.toNat < 16 ∧ i.rs1.toNat < 16 ∧ i.rs2.toNat < 16 ∧ bit (beforeOf s i.c).fmNow.toNat 0 = false ∧ (∀ k < 4, laneU false q k = laneU true a k % 65536 ∧ laneU false q (4 + k) = laneU true b k % 65536)) :=
  ⟨⟨(withCores), ⟨1, true, 7, 15, 0⟩, 3, _, _, _, by decide +kernel, rfl, rfl, rfl, by decide +kernel⟩,
    ⟨(withCores), ⟨1, true, 7, 15, 0⟩, 1, _, _, _, 0, by decide +kernel, rfl, rfl, rfl, by decide +kernel⟩,
    ⟨(withCores), ⟨1, true, 7, 15, 0⟩, 7, _, _, _, by decide +kernel, rfl, rfl, rfl, by decide +kernel⟩,
    ⟨(withCores), ⟨1, true, 7, 15, 0⟩, 7, _, _, _, 0, by decide +kernel, rfl, rfl, rfl, by decide +kernel⟩,
    ⟨(withCores), ⟨1, true, 7, 15, 0⟩, 14, _, _, _, 0, by decide +kernel, rfl, rfl, rfl, by decide +kernel⟩,
    ⟨(withCores), ⟨1, true, 7, 15, 0⟩, 2, _, _, _, 0, by decide +kernel, rfl, rfl, rfl, by decide +kernel⟩,
    ⟨(withCores), ⟨1, true, 7, 15, 0⟩, 1, _, _, _, 0, by decide +kernel, rfl, rfl, rfl, by decide +kernel⟩,
    ⟨({ ((withCores)) with frw.core := coreT 1 { CoreSt.reset with regs := { CoreRegs.reset with fmode := 0, fmNow := 0, fmNext := 0 } } } : State), ⟨1, true, 7, 15, 0⟩, 1, _, _, _, 0, by decide +kernel, rfl, rfl, rfl, by decide +kernel⟩⟩

theorem test_hypotheses_FurrowVectorAccumulators :
    (∃ (s : State) (i : RForm) (f : BitVec 8) (w : Bool) (a : BitVec 128) (b : BitVec 128) (r : CoreRegs) (q : BitVec 128) (p : Nat → Int), i.c.val < 4 ∧ r = beforeOf s i.c ∧ a = r.qv i.rs1 ∧ b = r.qv i.rs2 ∧ w = bit f.toNat 0 ∧ i.rd.toNat < 16 ∧ i.rs1.toNat < 16 ∧ i.rs2.toNat < 16 ∧ f.toNat < 2 ∧ (∀ k, p k = if w then toSigned 24 (laneU true a k) * toSigned 24 (laneU true b k) else laneS false a k * laneS false b k) ∧ (∀ k < laneCount w, laneU w q k = (narrowF r.fmNow (laneBits w) (p k)).1)) ∧
    (∃ (s : State) (i : RForm) (f : BitVec 8) (w : Bool) (a : BitVec 128) (b : BitVec 128) (r : CoreRegs) (e : (RForm → BitVec 8 → Instr) × Int) (v : Nat → Int × Bool), e ∈ ([(.vmac, 1), (.vmsu, -1)] : List ((RForm → BitVec 8 → Instr) × Int)) ∧ i.c.val < 4 ∧ r = beforeOf s i.c ∧ a = r.qv i.rs1 ∧ b = r.qv i.rs2 ∧ w = bit f.toNat 0 ∧ i.rd.toNat < 4 ∧ i.rs1.toNat < 16 ∧ i.rs2.toNat < 16 ∧ f.toNat < 2 ∧ (∀ k, v k = accF r.fmNow (accLane r i.rd k + e.2 * prodP w a b k))) ∧
    (∃ (s : State) (i : RForm) (f : BitVec 8) (w : Bool) (a : BitVec 128) (b : BitVec 128) (r : CoreRegs) (v : Nat → Int × Bool), i.c.val < 4 ∧ r = beforeOf s i.c ∧ a = r.qv i.rs1 ∧ b = r.qv i.rs2 ∧ w = bit f.toNat 0 ∧ i.rd.toNat < 4 ∧ i.rs1.toNat < 16 ∧ f.toNat < 2 ∧ (∀ k, v k = accF r.fmNow (accLane r i.rd k + prodS w a (r.sv i.rs2) k))) ∧
    (∃ (s : State) (i : RForm) (f : BitVec 8) (w : Bool) (a : BitVec 128) (b : BitVec 128) (r : CoreRegs), i.c.val < 4 ∧ r = beforeOf s i.c ∧ a = r.qv i.rs1 ∧ b = r.qv i.rs2 ∧ w = bit f.toNat 0 ∧ i.rd.toNat < 4 ∧ i.rs1 = 0 ∧ i.rs2 = 0) ∧
    (∃ (s : State) (i : RForm) (f : BitVec 8) (w : Bool) (a : BitVec 128) (b : BitVec 128) (r : CoreRegs) (q : BitVec 128) (v : Nat → Nat × Bool), i.c.val < 4 ∧ r = beforeOf s i.c ∧ a = r.qv i.rs1 ∧ b = r.qv i.rs2 ∧ w = bit f.toNat 0 ∧ i.rd.toNat < 16 ∧ i.rs1.toNat < 4 ∧ f.toNat < 2 ∧ (if w then i.rs2 = 0 else i.rs2.toNat < 4) ∧ (∀ k, v k = if w then narrowF r.fmNow 32 (accLane r i.rs1 k) else if k < 4 then narrowF r.fmNow 16 (accLane r i.rs1 k) else narrowF r.fmNow 16 (accLane r i.rs2 (k - 4))) ∧ (∀ k < laneCount w, laneU w q k = (v k).1)) ∧
    (∃ (s : State) (i : RForm) (f : BitVec 8) (w : Bool) (a : BitVec 128) (b : BitVec 128) (r : CoreRegs), i.c.val < 4 ∧ r = beforeOf s i.c ∧ a = r.qv i.rs1 ∧ b = r.qv i.rs2 ∧ w = bit f.toNat 0 ∧ i.rd.toNat < 4 ∧ i.rs1.toNat < 16 ∧ i.rs2 = 0) ∧
    (∃ (s : State) (i : RForm) (f : BitVec 8) (w : Bool) (a : BitVec 128) (b : BitVec 128) (r : CoreRegs) (q : BitVec 128), i.c.val < 4 ∧ r = beforeOf s i.c ∧ a = r.qv i.rs1 ∧ b = r.qv i.rs2 ∧ w = bit f.toNat 0 ∧ i.rd.toNat < 16 ∧ i.rs1.toNat < 4 ∧ i.rs2 = 0 ∧ (f = 0 ∨ f = 2) ∧ (∀ k < 4, laneU true q k = if f = 0 then ofSigned 56 (accLane r i.rs1 k) % 2 ^ 32 else ofSigned 32 (toSigned 24 (ofSigned 56 (accLane r i.rs1 k) / 2 ^ 32)))) ∧
    (∃ (s : State) (i : RForm) (f : BitVec 8) (w : Bool) (a : BitVec 128) (b : BitVec 128) (r : CoreRegs) (v : Int × Bool), i.c.val < 4 ∧ r = beforeOf s i.c ∧ a = r.qv i.rs1 ∧ b = r.qv i.rs2 ∧ w = bit f.toNat 0 ∧ i.rd.toNat < 4 ∧ i.rs1.toNat < 4 ∧ i.rs2 = 0 ∧ v = accF r.fmNow (sumI (r.acv i.rs1))) :=
  ⟨⟨(withCores), ⟨1, true, 3, 3, 0⟩, 1, _, _, _, _, 0, _, by decide +kernel, rfl, rfl, rfl, rfl, by decide +kernel, by decide +kernel, by decide +kernel, by decide +kernel, fun _ => rfl, by decide +kernel⟩,
    ⟨(withCores), ⟨1, true, 3, 3, 0⟩, 1, _, _, _, _, _, _, .head _, by decide +kernel, rfl, rfl, rfl, rfl, by decide +kernel, by decide +kernel, by decide +kernel, by decide +kernel, fun _ => rfl⟩,
    ⟨(withCores), ⟨1, true, 3, 3, 0⟩, 1, _, _, _, _, _, by decide +kernel, rfl, rfl, rfl, rfl, by decide +kernel, by decide +kernel, by decide +kernel, fun _ => rfl⟩,
    ⟨(withCores), ⟨1, true, 3, 0, 0⟩, 1, _, _, _, _, by decide +kernel, rfl, rfl, rfl, rfl, by decide +kernel⟩,
    ⟨(withCores), ⟨1, true, 3, 3, 0⟩, 1, _, _, _, _, 0, _, by decide +kernel, rfl, rfl, rfl, rfl, by decide +kernel, by decide +kernel, by decide +kernel, by decide +kernel, fun _ => rfl, by decide +kernel⟩,
    ⟨(withCores), ⟨1, true, 3, 3, 0⟩, 1, _, _, _, _, by decide +kernel, rfl, rfl, rfl, rfl, by decide +kernel⟩,
    ⟨(withCores), ⟨1, true, 3, 3, 0⟩, 2, _, _, _, _, 0, by decide +kernel, rfl, rfl, rfl, rfl, by decide +kernel⟩,
    ⟨(withCores), ⟨1, true, 3, 3, 0⟩, 1, _, _, _, _, _, by decide +kernel, rfl, rfl, rfl, rfl, by decide +kernel, by decide +kernel, by decide +kernel, rfl⟩⟩

theorem test_hypotheses_FurrowLoads :
    (∃ (s : State) (c : Fin 6) (rd : BitVec 5) (base : Word) (off : Word) (x : Instr) (z : Fin 7) (ws : List Nat) (up : CoreRegs → CoreRegs) (a : Nat) (n : Nat) (v : Nat → BitVec 128) (vec : Bool) (give : BitVec 128 → CoreRegs → CoreRegs), ((∃ i : IForm, i.c = c ∧ i.e = true ∧ i.rd = rd ∧ base = (beforeOf s c).sv i.rs1 ∧ off = i.imm.signExtend 32 ∧ up = id ∧ ws = [dataReg vec rd] ∧ [Instr.ldb i, .ldbu i, .ldh i, .ldhu i, .ldw i, .ldvl i, .ldv i][z.val]? = some x ∧ a = (base.toNat + off.toNat * n) % 2 ^ 32) ∨ (∃ i : IForm, i.c = c ∧ i.e = true ∧ i.rd = rd ∧ base = (beforeOf s c).sv i.rs1 ∧ off = i.imm.signExtend 32 ∧ (vec = true ∨ i.rd ≠ i.rs1) ∧ up = (fun r => r.setS i.rs1 (BitVec.ofNat 32 (base.toNat + off.toNat * n))) ∧ ws = [dataReg vec rd, regS i.rs1.toNat] ∧ x = .ldP z i ∧ a = base.toNat) ∨ (∃ i : RForm, i.c = c ∧ i.e = true ∧ i.rd = rd ∧ base = (beforeOf s c).sv i.rs1 ∧ off = (beforeOf s c).sv i.rs2 ∧ up = id ∧ ws = [dataReg vec rd] ∧ x = .ldX (BitVec.ofNat 8 z.val) i ∧ a = (base.toNat + off.toNat * n) % 2 ^ 32)) ∧ (z.val, n, vec, v) ∈ ([(0, 1, false, fun u => ((BitVec.ofNat 8 u).signExtend 32).setWidth 128), (1, 1, false, fun u => BitVec.ofNat 128 u), (2, 2, false, fun u => ((BitVec.ofNat 16 u).signExtend 32).setWidth 128), (3, 2, false, fun u => BitVec.ofNat 128 u), (4, 4, false, fun u => BitVec.ofNat 128 u), (5, 8, true, fun u => BitVec.ofNat 128 u), (6, 16, true, fun u => BitVec.ofNat 128 u)] : List (Nat × Nat × Bool × (Nat → BitVec 128))) ∧ (vec = true → c.val < 4 ∧ rd.toNat < 16) ∧ TakesWord s c 2 ws ∧ PlainEnd s c ∧ a % n = 0 ∧ give = (fun u r => if vec then r.setQ rd u else r.setS rd (u.setWidth 32)) ∧ DATA_BASE ≤ a ∧ a < DATA_BASE + dataBytes c ∧ (∀ e ∈ (s.core c).buf, a + n ≤ e.1 ∨ e.1 + e.2.length ≤ a) ∧ badIn (nth s.frw.badData c []) (a - DATA_BASE) n = false) ∧
    (∃ (s : State) (c : Fin 6) (rd : BitVec 5) (base : Word) (off : Word) (x : Instr) (z : Fin 7) (ws : List Nat) (up : CoreRegs → CoreRegs) (a : Nat) (n : Nat) (v : Nat → BitVec 128) (vec : Bool) (give : BitVec 128 → CoreRegs → CoreRegs), ((∃ i : IForm, i.c = c ∧ i.e = true ∧ i.rd = rd ∧ base = (beforeOf s c).sv i.rs1 ∧ off = i.imm.signExtend 32 ∧ up = id ∧ ws = [dataReg vec rd] ∧ [Instr.ldb i, .ldbu i, .ldh i, .ldhu i, .ldw i, .ldvl i, .ldv i][z.val]? = some x ∧ a = (base.toNat + off.toNat * n) % 2 ^ 32) ∨ (∃ i : IForm, i.c = c ∧ i.e = true ∧ i.rd = rd ∧ base = (beforeOf s c).sv i.rs1 ∧ off = i.imm.signExtend 32 ∧ (vec = true ∨ i.rd ≠ i.rs1) ∧ up = (fun r => r.setS i.rs1 (BitVec.ofNat 32 (base.toNat + off.toNat * n))) ∧ ws = [dataReg vec rd, regS i.rs1.toNat] ∧ x = .ldP z i ∧ a = base.toNat) ∨ (∃ i : RForm, i.c = c ∧ i.e = true ∧ i.rd = rd ∧ base = (beforeOf s c).sv i.rs1 ∧ off = (beforeOf s c).sv i.rs2 ∧ up = id ∧ ws = [dataReg vec rd] ∧ x = .ldX (BitVec.ofNat 8 z.val) i ∧ a = (base.toNat + off.toNat * n) % 2 ^ 32)) ∧ (z.val, n, vec, v) ∈ ([(0, 1, false, fun u => ((BitVec.ofNat 8 u).signExtend 32).setWidth 128), (1, 1, false, fun u => BitVec.ofNat 128 u), (2, 2, false, fun u => ((BitVec.ofNat 16 u).signExtend 32).setWidth 128), (3, 2, false, fun u => BitVec.ofNat 128 u), (4, 4, false, fun u => BitVec.ofNat 128 u), (5, 8, true, fun u => BitVec.ofNat 128 u), (6, 16, true, fun u => BitVec.ofNat 128 u)] : List (Nat × Nat × Bool × (Nat → BitVec 128))) ∧ (vec = true → c.val < 4 ∧ rd.toNat < 16) ∧ TakesWord s c 2 ws ∧ PlainEnd s c ∧ a % n = 0 ∧ give = (fun u r => if vec then r.setQ rd u else r.setS rd (u.setWidth 32)) ∧ DATA_BASE ≤ a ∧ a < DATA_BASE + dataBytes c ∧ (∀ e ∈ (s.core c).buf, a + n ≤ e.1 ∨ e.1 + e.2.length ≤ a) ∧ badIn (nth s.frw.badData c []) (a - DATA_BASE) n = false) ∧
    (∃ (s : State) (c : Fin 6) (rd : BitVec 5) (base : Word) (off : Word) (x : Instr) (z : Fin 7) (ws : List Nat) (up : CoreRegs → CoreRegs) (a : Nat) (n : Nat) (v : Nat → BitVec 128) (vec : Bool) (give : BitVec 128 → CoreRegs → CoreRegs), ((∃ i : IForm, i.c = c ∧ i.e = true ∧ i.rd = rd ∧ base = (beforeOf s c).sv i.rs1 ∧ off = i.imm.signExtend 32 ∧ up = id ∧ ws = [dataReg vec rd] ∧ [Instr.ldb i, .ldbu i, .ldh i, .ldhu i, .ldw i, .ldvl i, .ldv i][z.val]? = some x ∧ a = (base.toNat + off.toNat * n) % 2 ^ 32) ∨ (∃ i : IForm, i.c = c ∧ i.e = true ∧ i.rd = rd ∧ base = (beforeOf s c).sv i.rs1 ∧ off = i.imm.signExtend 32 ∧ (vec = true ∨ i.rd ≠ i.rs1) ∧ up = (fun r => r.setS i.rs1 (BitVec.ofNat 32 (base.toNat + off.toNat * n))) ∧ ws = [dataReg vec rd, regS i.rs1.toNat] ∧ x = .ldP z i ∧ a = base.toNat) ∨ (∃ i : RForm, i.c = c ∧ i.e = true ∧ i.rd = rd ∧ base = (beforeOf s c).sv i.rs1 ∧ off = (beforeOf s c).sv i.rs2 ∧ up = id ∧ ws = [dataReg vec rd] ∧ x = .ldX (BitVec.ofNat 8 z.val) i ∧ a = (base.toNat + off.toNat * n) % 2 ^ 32)) ∧ (z.val, n, vec, v) ∈ ([(0, 1, false, fun u => ((BitVec.ofNat 8 u).signExtend 32).setWidth 128), (1, 1, false, fun u => BitVec.ofNat 128 u), (2, 2, false, fun u => ((BitVec.ofNat 16 u).signExtend 32).setWidth 128), (3, 2, false, fun u => BitVec.ofNat 128 u), (4, 4, false, fun u => BitVec.ofNat 128 u), (5, 8, true, fun u => BitVec.ofNat 128 u), (6, 16, true, fun u => BitVec.ofNat 128 u)] : List (Nat × Nat × Bool × (Nat → BitVec 128))) ∧ (vec = true → c.val < 4 ∧ rd.toNat < 16) ∧ TakesWord s c 2 ws ∧ PlainEnd s c ∧ a % n = 0 ∧ give = (fun u r => if vec then r.setQ rd u else r.setS rd (u.setWidth 32)) ∧ DATA_BASE ≤ a ∧ a < DATA_BASE + dataBytes c ∧ (∀ e ∈ (s.core c).buf, a + n ≤ e.1 ∨ e.1 + e.2.length ≤ a) ∧ badIn (nth s.frw.badData c []) (a - DATA_BASE) n = false) ∧
    (∃ (s : State) (c : Fin 6) (rd : BitVec 5) (base : Word) (off : Word) (x : Instr) (z : Fin 7) (ws : List Nat) (up : CoreRegs → CoreRegs) (a : Nat) (n : Nat) (v : Nat → BitVec 128) (vec : Bool) (give : BitVec 128 → CoreRegs → CoreRegs) (l : List (Nat × List Nat)) (e : Nat × List Nat), ((∃ i : IForm, i.c = c ∧ i.e = true ∧ i.rd = rd ∧ base = (beforeOf s c).sv i.rs1 ∧ off = i.imm.signExtend 32 ∧ up = id ∧ ws = [dataReg vec rd] ∧ [Instr.ldb i, .ldbu i, .ldh i, .ldhu i, .ldw i, .ldvl i, .ldv i][z.val]? = some x ∧ a = (base.toNat + off.toNat * n) % 2 ^ 32) ∨ (∃ i : IForm, i.c = c ∧ i.e = true ∧ i.rd = rd ∧ base = (beforeOf s c).sv i.rs1 ∧ off = i.imm.signExtend 32 ∧ (vec = true ∨ i.rd ≠ i.rs1) ∧ up = (fun r => r.setS i.rs1 (BitVec.ofNat 32 (base.toNat + off.toNat * n))) ∧ ws = [dataReg vec rd, regS i.rs1.toNat] ∧ x = .ldP z i ∧ a = base.toNat) ∨ (∃ i : RForm, i.c = c ∧ i.e = true ∧ i.rd = rd ∧ base = (beforeOf s c).sv i.rs1 ∧ off = (beforeOf s c).sv i.rs2 ∧ up = id ∧ ws = [dataReg vec rd] ∧ x = .ldX (BitVec.ofNat 8 z.val) i ∧ a = (base.toNat + off.toNat * n) % 2 ^ 32)) ∧ (z.val, n, vec, v) ∈ ([(0, 1, false, fun u => ((BitVec.ofNat 8 u).signExtend 32).setWidth 128), (1, 1, false, fun u => BitVec.ofNat 128 u), (2, 2, false, fun u => ((BitVec.ofNat 16 u).signExtend 32).setWidth 128), (3, 2, false, fun u => BitVec.ofNat 128 u), (4, 4, false, fun u => BitVec.ofNat 128 u), (5, 8, true, fun u => BitVec.ofNat 128 u), (6, 16, true, fun u => BitVec.ofNat 128 u)] : List (Nat × Nat × Bool × (Nat → BitVec 128))) ∧ (vec = true → c.val < 4 ∧ rd.toNat < 16) ∧ TakesWord s c 2 ws ∧ PlainEnd s c ∧ a % n = 0 ∧ give = (fun u r => if vec then r.setQ rd u else r.setS rd (u.setWidth 32)) ∧ DATA_BASE ≤ a ∧ a < DATA_BASE + dataBytes c ∧ (s.core c).buf = l ++ [e] ∧ e.1 ≤ a ∧ a + n ≤ e.1 + e.2.length) ∧
    (∃ (s : State) (c : Fin 6) (rd : BitVec 5) (base : Word) (off : Word) (x : Instr) (z : Fin 7) (ws : List Nat) (up : CoreRegs → CoreRegs) (a : Nat) (n : Nat) (v : Nat → BitVec 128) (vec : Bool), ((∃ i : IForm, i.c = c ∧ i.e = true ∧ i.rd = rd ∧ base = (beforeOf s c).sv i.rs1 ∧ off = i.imm.signExtend 32 ∧ up = id ∧ ws = [dataReg vec rd] ∧ [Instr.ldb i, .ldbu i, .ldh i, .ldhu i, .ldw i, .ldvl i, .ldv i][z.val]? = some x ∧ a = (base.toNat + off.toNat * n) % 2 ^ 32) ∨ (∃ i : IForm, i.c = c ∧ i.e = true ∧ i.rd = rd ∧ base = (beforeOf s c).sv i.rs1 ∧ off = i.imm.signExtend 32 ∧ (vec = true ∨ i.rd ≠ i.rs1) ∧ up = (fun r => r.setS i.rs1 (BitVec.ofNat 32 (base.toNat + off.toNat * n))) ∧ ws = [dataReg vec rd, regS i.rs1.toNat] ∧ x = .ldP z i ∧ a = base.toNat) ∨ (∃ i : RForm, i.c = c ∧ i.e = true ∧ i.rd = rd ∧ base = (beforeOf s c).sv i.rs1 ∧ off = (beforeOf s c).sv i.rs2 ∧ up = id ∧ ws = [dataReg vec rd] ∧ x = .ldX (BitVec.ofNat 8 z.val) i ∧ a = (base.toNat + off.toNat * n) % 2 ^ 32)) ∧ (z.val, n, vec, v) ∈ ([(0, 1, false, fun u => ((BitVec.ofNat 8 u).signExtend 32).setWidth 128), (1, 1, false, fun u => BitVec.ofNat 128 u), (2, 2, false, fun u => ((BitVec.ofNat 16 u).signExtend 32).setWidth 128), (3, 2, false, fun u => BitVec.ofNat 128 u), (4, 4, false, fun u => BitVec.ofNat 128 u), (5, 8, true, fun u => BitVec.ofNat 128 u), (6, 16, true, fun u => BitVec.ofNat 128 u)] : List (Nat × Nat × Bool × (Nat → BitVec 128))) ∧ (vec = true → c.val < 4 ∧ rd.toNat < 16) ∧ TakesWord s c 2 ws ∧ PlainEnd s c ∧ a % n = 0 ∧ c.val < 4 ∧ COMMON_BASE ≤ a ∧ a < COMMON_BASE + commonBytes ∧ (s.core c).buf = [] ∧ badIn s.frw.badCommon (a - COMMON_BASE) n = false) ∧
    (∃ (s : State) (c : Fin 6) (rd : BitVec 5) (base : Word) (off : Word) (x : Instr) (z : Fin 7) (ws : List Nat) (up : CoreRegs → CoreRegs) (a : Nat) (n : Nat) (v : Nat → BitVec 128) (vec : Bool), ((∃ i : IForm, i.c = c ∧ i.e = true ∧ i.rd = rd ∧ base = (beforeOf s c).sv i.rs1 ∧ off = i.imm.signExtend 32 ∧ up = id ∧ ws = [dataReg vec rd] ∧ [Instr.ldb i, .ldbu i, .ldh i, .ldhu i, .ldw i, .ldvl i, .ldv i][z.val]? = some x ∧ a = (base.toNat + off.toNat * n) % 2 ^ 32) ∨ (∃ i : IForm, i.c = c ∧ i.e = true ∧ i.rd = rd ∧ base = (beforeOf s c).sv i.rs1 ∧ off = i.imm.signExtend 32 ∧ (vec = true ∨ i.rd ≠ i.rs1) ∧ up = (fun r => r.setS i.rs1 (BitVec.ofNat 32 (base.toNat + off.toNat * n))) ∧ ws = [dataReg vec rd, regS i.rs1.toNat] ∧ x = .ldP z i ∧ a = base.toNat) ∨ (∃ i : RForm, i.c = c ∧ i.e = true ∧ i.rd = rd ∧ base = (beforeOf s c).sv i.rs1 ∧ off = (beforeOf s c).sv i.rs2 ∧ up = id ∧ ws = [dataReg vec rd] ∧ x = .ldX (BitVec.ofNat 8 z.val) i ∧ a = (base.toNat + off.toNat * n) % 2 ^ 32)) ∧ (z.val, n, vec, v) ∈ ([(0, 1, false, fun u => ((BitVec.ofNat 8 u).signExtend 32).setWidth 128), (1, 1, false, fun u => BitVec.ofNat 128 u), (2, 2, false, fun u => ((BitVec.ofNat 16 u).signExtend 32).setWidth 128), (3, 2, false, fun u => BitVec.ofNat 128 u), (4, 4, false, fun u => BitVec.ofNat 128 u), (5, 8, true, fun u => BitVec.ofNat 128 u), (6, 16, true, fun u => BitVec.ofNat 128 u)] : List (Nat × Nat × Bool × (Nat → BitVec 128))) ∧ (vec = true → c.val < 4 ∧ rd.toNat < 16) ∧ TakesWord s c 2 ws ∧ PlainEnd s c ∧ a % n = 0 ∧ c.val < 4 ∧ COMMON_BASE ≤ a ∧ a < COMMON_BASE + commonBytes ∧ (s.core c).buf = [] ∧ badIn s.frw.badCommon (a - COMMON_BASE) n = false) ∧
    (∃ (s : State) (c : Fin 6) (rd : BitVec 5) (base : Word) (off : Word) (x : Instr) (z : Fin 7) (ws : List Nat) (up : CoreRegs → CoreRegs) (a : Nat) (n : Nat) (v : Nat → BitVec 128) (vec : Bool), ((∃ i : IForm, i.c = c ∧ i.e = true ∧ i.rd = rd ∧ base = (beforeOf s c).sv i.rs1 ∧ off = i.imm.signExtend 32 ∧ up = id ∧ ws = [dataReg vec rd] ∧ [Instr.ldb i, .ldbu i, .ldh i, .ldhu i, .ldw i, .ldvl i, .ldv i][z.val]? = some x ∧ a = (base.toNat + off.toNat * n) % 2 ^ 32) ∨ (∃ i : IForm, i.c = c ∧ i.e = true ∧ i.rd = rd ∧ base = (beforeOf s c).sv i.rs1 ∧ off = i.imm.signExtend 32 ∧ (vec = true ∨ i.rd ≠ i.rs1) ∧ up = (fun r => r.setS i.rs1 (BitVec.ofNat 32 (base.toNat + off.toNat * n))) ∧ ws = [dataReg vec rd, regS i.rs1.toNat] ∧ x = .ldP z i ∧ a = base.toNat) ∨ (∃ i : RForm, i.c = c ∧ i.e = true ∧ i.rd = rd ∧ base = (beforeOf s c).sv i.rs1 ∧ off = (beforeOf s c).sv i.rs2 ∧ up = id ∧ ws = [dataReg vec rd] ∧ x = .ldX (BitVec.ofNat 8 z.val) i ∧ a = (base.toNat + off.toNat * n) % 2 ^ 32)) ∧ (z.val, n, vec, v) ∈ ([(0, 1, false, fun u => ((BitVec.ofNat 8 u).signExtend 32).setWidth 128), (1, 1, false, fun u => BitVec.ofNat 128 u), (2, 2, false, fun u => ((BitVec.ofNat 16 u).signExtend 32).setWidth 128), (3, 2, false, fun u => BitVec.ofNat 128 u), (4, 4, false, fun u => BitVec.ofNat 128 u), (5, 8, true, fun u => BitVec.ofNat 128 u), (6, 16, true, fun u => BitVec.ofNat 128 u)] : List (Nat × Nat × Bool × (Nat → BitVec 128))) ∧ (vec = true → c.val < 4 ∧ rd.toNat < 16) ∧ TakesWord s c 2 ws ∧ PlainEnd s c ∧ a % n = 0 ∧ c.val < 4 ∧ COMMON_BASE ≤ a ∧ a < COMMON_BASE + commonBytes ∧ (s.core c).buf = [] ∧ badIn s.frw.badCommon (a - COMMON_BASE) n = false) :=
  ⟨⟨memCore 0x10000000, 1, _, _, _, _, 6, _, _, 0x10000000, _, _, _, _, .inl ⟨⟨1, true, 15, 3, 0⟩, rfl, rfl, rfl, rfl, rfl, rfl, rfl, rfl, by decide +kernel⟩, .tail _ (.tail _ (.tail _ (.tail _ (.tail _ (.tail _ (.head _)))))), fun _ => by decide, by unfold TakesWord; decide +kernel, plainF _ _ (by decide +kernel) (calmF _ _ (by decide +kernel)), by decide +kernel, rfl, by decide +kernel⟩,
    ⟨memCore 0x1001FFF0, 1, _, _, _, _, 6, _, _, 0x1001FFF0, _, _, _, _, .inr (.inl ⟨⟨1, true, 15, 3, 0⟩, rfl, rfl, rfl, rfl, rfl, .inl rfl, rfl, rfl, rfl, rfl⟩), .tail _ (.tail _ (.tail _ (.tail _ (.tail _ (.tail _ (.head _)))))), fun _ => by decide, by unfold TakesWord; decide +kernel, plainF _ _ (by decide +kernel) (calmF _ _ (by decide +kernel)), by decide +kernel, rfl, by decide +kernel⟩,
    ⟨memCore 0x1001FFF0, 1, _, _, _, _, 6, _, _, 0x1001FFF0, _, _, _, _, .inr (.inr ⟨⟨1, true, 15, 3, 0⟩, rfl, rfl, rfl, rfl, rfl, rfl, rfl, rfl, by decide +kernel⟩), .tail _ (.tail _ (.tail _ (.tail _ (.tail _ (.tail _ (.head _)))))), fun _ => by decide, by unfold TakesWord; decide +kernel, plainF _ _ (by decide +kernel) (calmF _ _ (by decide +kernel)), by decide +kernel, rfl, by decide +kernel⟩,
    ⟨bufCore 0x10000000 1, 1, _, _, _, _, 6, _, _, 0x10000000, _, _, _, _, [], (0x10000000, [1, 2, 3, 4, 5, 6, 7, 8, 9, 10, 11, 12, 13, 14, 15, 16]), .inl ⟨⟨1, true, 15, 3, 0⟩, rfl, rfl, rfl, rfl, rfl, rfl, rfl, rfl, by decide +kernel⟩, .tail _ (.tail _ (.tail _ (.tail _ (.tail _ (.tail _ (.head _)))))), fun _ => by decide, by unfold TakesWord; decide +kernel, plainF _ _ (by decide +kernel) (calmF _ _ (by decide +kernel)), by decide +kernel, rfl, by decide +kernel⟩,
    ⟨memCore 0x20000000, 1, _, _, _, _, 6, _, _, 0x20000000, _, _, _, .inl ⟨⟨1, true, 15, 3, 0⟩, rfl, rfl, rfl, rfl, rfl, rfl, rfl, rfl, by decide +kernel⟩, .tail _ (.tail _ (.tail _ (.tail _ (.tail _ (.tail _ (.head _)))))), fun _ => by decide, by unfold TakesWord; decide +kernel, plainF _ _ (by decide +kernel) (calmF _ _ (by decide +kernel)), by decide +kernel, by decide +kernel⟩,
    ⟨memCore 0x200FFFF0, 1, _, _, _, _, 6, _, _, 0x200FFFF0, _, _, _, .inr (.inl ⟨⟨1, true, 15, 3, 0⟩, rfl, rfl, rfl, rfl, rfl, .inl rfl, rfl, rfl, rfl, rfl⟩), .tail _ (.tail _ (.tail _ (.tail _ (.tail _ (.tail _ (.head _)))))), fun _ => by decide, by unfold TakesWord; decide +kernel, plainF _ _ (by decide +kernel) (calmF _ _ (by decide +kernel)), by decide +kernel, by decide +kernel⟩,
    ⟨memCore 0x200FFFF0, 1, _, _, _, _, 6, _, _, 0x200FFFF0, _, _, _, .inr (.inr ⟨⟨1, true, 15, 3, 0⟩, rfl, rfl, rfl, rfl, rfl, rfl, rfl, rfl, by decide +kernel⟩), .tail _ (.tail _ (.tail _ (.tail _ (.tail _ (.tail _ (.head _)))))), fun _ => by decide, by unfold TakesWord; decide +kernel, plainF _ _ (by decide +kernel) (calmF _ _ (by decide +kernel)), by decide +kernel, by decide +kernel⟩⟩

theorem test_hypotheses_FurrowStores :
    (∃ (s : State) (c : Fin 6) (rd : BitVec 5) (base : Word) (off : Word) (x : Instr) (z : Fin 5) (ws : List Nat) (up : CoreRegs → CoreRegs) (a : Nat) (n : Nat) (vec : Bool) (bs : List Nat), ((∃ i : IForm, i.c = c ∧ i.e = true ∧ i.rd = rd ∧ base = (beforeOf s c).sv i.rs1 ∧ off = i.imm.signExtend 32 ∧ up = id ∧ ws = [] ∧ [Instr.stb i, .sth i, .stw i, .stvl i, .stv i][z.val]? = some x ∧ a = (base.toNat + off.toNat * n) % 2 ^ 32) ∨ (∃ i : IForm, i.c = c ∧ i.e = true ∧ i.rd = rd ∧ base = (beforeOf s c).sv i.rs1 ∧ off = i.imm.signExtend 32 ∧ up = (fun r => r.setS i.rs1 (BitVec.ofNat 32 (base.toNat + off.toNat * n))) ∧ ws = [regS i.rs1.toNat] ∧ x = .stP z i ∧ a = base.toNat) ∨ (∃ i : RForm, i.c = c ∧ i.e = true ∧ i.rd = rd ∧ base = (beforeOf s c).sv i.rs1 ∧ off = (beforeOf s c).sv i.rs2 ∧ up = id ∧ ws = [] ∧ x = .stX (BitVec.ofNat 8 (nth [0, 2, 4, 5, 6] z.val 0)) i ∧ a = (base.toNat + off.toNat * n) % 2 ^ 32)) ∧ (z.val, n, vec) ∈ [(0, 1, false), (1, 2, false), (2, 4, false), (3, 8, true), (4, 16, true)] ∧ (vec = true → c.val < 4 ∧ rd.toNat < 16) ∧ TakesWord s c 2 ws ∧ PlainEnd s c ∧ a % n = 0 ∧ bs = bytesOfLe n (if vec then ((beforeOf s c).qv rd).toNat else ((beforeOf s c).sv rd).toNat) ∧ ((DATA_BASE ≤ a ∧ a < DATA_BASE + dataBytes c) ∨ (c.val < 4 ∧ COMMON_BASE ≤ a ∧ a < COMMON_BASE + commonBytes)) ∧ (s.core c).buf.length < 4) ∧
    (∃ (s : State) (c : Fin 6) (rd : BitVec 5) (base : Word) (off : Word) (x : Instr) (z : Fin 5) (ws : List Nat) (up : CoreRegs → CoreRegs) (a : Nat) (n : Nat) (vec : Bool) (bs : List Nat), ((∃ i : IForm, i.c = c ∧ i.e = true ∧ i.rd = rd ∧ base = (beforeOf s c).sv i.rs1 ∧ off = i.imm.signExtend 32 ∧ up = id ∧ ws = [] ∧ [Instr.stb i, .sth i, .stw i, .stvl i, .stv i][z.val]? = some x ∧ a = (base.toNat + off.toNat * n) % 2 ^ 32) ∨ (∃ i : IForm, i.c = c ∧ i.e = true ∧ i.rd = rd ∧ base = (beforeOf s c).sv i.rs1 ∧ off = i.imm.signExtend 32 ∧ up = (fun r => r.setS i.rs1 (BitVec.ofNat 32 (base.toNat + off.toNat * n))) ∧ ws = [regS i.rs1.toNat] ∧ x = .stP z i ∧ a = base.toNat) ∨ (∃ i : RForm, i.c = c ∧ i.e = true ∧ i.rd = rd ∧ base = (beforeOf s c).sv i.rs1 ∧ off = (beforeOf s c).sv i.rs2 ∧ up = id ∧ ws = [] ∧ x = .stX (BitVec.ofNat 8 (nth [0, 2, 4, 5, 6] z.val 0)) i ∧ a = (base.toNat + off.toNat * n) % 2 ^ 32)) ∧ (z.val, n, vec) ∈ [(0, 1, false), (1, 2, false), (2, 4, false), (3, 8, true), (4, 16, true)] ∧ (vec = true → c.val < 4 ∧ rd.toNat < 16) ∧ TakesWord s c 2 ws ∧ PlainEnd s c ∧ a % n = 0 ∧ bs = bytesOfLe n (if vec then ((beforeOf s c).qv rd).toNat else ((beforeOf s c).sv rd).toNat) ∧ ((DATA_BASE ≤ a ∧ a < DATA_BASE + dataBytes c) ∨ (c.val < 4 ∧ COMMON_BASE ≤ a ∧ a < COMMON_BASE + commonBytes)) ∧ (s.core c).buf.length < 4) ∧
    (∃ (s : State) (c : Fin 6) (rd : BitVec 5) (base : Word) (off : Word) (x : Instr) (z : Fin 5) (ws : List Nat) (up : CoreRegs → CoreRegs) (a : Nat) (n : Nat) (vec : Bool) (bs : List Nat), ((∃ i : IForm, i.c = c ∧ i.e = true ∧ i.rd = rd ∧ base = (beforeOf s c).sv i.rs1 ∧ off = i.imm.signExtend 32 ∧ up = id ∧ ws = [] ∧ [Instr.stb i, .sth i, .stw i, .stvl i, .stv i][z.val]? = some x ∧ a = (base.toNat + off.toNat * n) % 2 ^ 32) ∨ (∃ i : IForm, i.c = c ∧ i.e = true ∧ i.rd = rd ∧ base = (beforeOf s c).sv i.rs1 ∧ off = i.imm.signExtend 32 ∧ up = (fun r => r.setS i.rs1 (BitVec.ofNat 32 (base.toNat + off.toNat * n))) ∧ ws = [regS i.rs1.toNat] ∧ x = .stP z i ∧ a = base.toNat) ∨ (∃ i : RForm, i.c = c ∧ i.e = true ∧ i.rd = rd ∧ base = (beforeOf s c).sv i.rs1 ∧ off = (beforeOf s c).sv i.rs2 ∧ up = id ∧ ws = [] ∧ x = .stX (BitVec.ofNat 8 (nth [0, 2, 4, 5, 6] z.val 0)) i ∧ a = (base.toNat + off.toNat * n) % 2 ^ 32)) ∧ (z.val, n, vec) ∈ [(0, 1, false), (1, 2, false), (2, 4, false), (3, 8, true), (4, 16, true)] ∧ (vec = true → c.val < 4 ∧ rd.toNat < 16) ∧ TakesWord s c 2 ws ∧ PlainEnd s c ∧ a % n = 0 ∧ bs = bytesOfLe n (if vec then ((beforeOf s c).qv rd).toNat else ((beforeOf s c).sv rd).toNat) ∧ ((DATA_BASE ≤ a ∧ a < DATA_BASE + dataBytes c) ∨ (c.val < 4 ∧ COMMON_BASE ≤ a ∧ a < COMMON_BASE + commonBytes)) ∧ (s.core c).buf.length < 4) ∧
    (∃ (s : State) (c : Fin 6) (rd : BitVec 5) (base : Word) (off : Word) (x : Instr) (z : Fin 5) (ws : List Nat) (up : CoreRegs → CoreRegs) (a : Nat) (n : Nat) (vec : Bool) (bs : List Nat) (e : Nat × List Nat) (l : List (Nat × List Nat)), ((∃ i : IForm, i.c = c ∧ i.e = true ∧ i.rd = rd ∧ base = (beforeOf s c).sv i.rs1 ∧ off = i.imm.signExtend 32 ∧ up = id ∧ ws = [] ∧ [Instr.stb i, .sth i, .stw i, .stvl i, .stv i][z.val]? = some x ∧ a = (base.toNat + off.toNat * n) % 2 ^ 32) ∨ (∃ i : IForm, i.c = c ∧ i.e = true ∧ i.rd = rd ∧ base = (beforeOf s c).sv i.rs1 ∧ off = i.imm.signExtend 32 ∧ up = (fun r => r.setS i.rs1 (BitVec.ofNat 32 (base.toNat + off.toNat * n))) ∧ ws = [regS i.rs1.toNat] ∧ x = .stP z i ∧ a = base.toNat) ∨ (∃ i : RForm, i.c = c ∧ i.e = true ∧ i.rd = rd ∧ base = (beforeOf s c).sv i.rs1 ∧ off = (beforeOf s c).sv i.rs2 ∧ up = id ∧ ws = [] ∧ x = .stX (BitVec.ofNat 8 (nth [0, 2, 4, 5, 6] z.val 0)) i ∧ a = (base.toNat + off.toNat * n) % 2 ^ 32)) ∧ (z.val, n, vec) ∈ [(0, 1, false), (1, 2, false), (2, 4, false), (3, 8, true), (4, 16, true)] ∧ (vec = true → c.val < 4 ∧ rd.toNat < 16) ∧ TakesWord s c 2 ws ∧ PlainEnd s c ∧ a % n = 0 ∧ bs = bytesOfLe n (if vec then ((beforeOf s c).qv rd).toNat else ((beforeOf s c).sv rd).toNat) ∧ ((DATA_BASE ≤ a ∧ a < DATA_BASE + dataBytes c) ∨ (c.val < 4 ∧ COMMON_BASE ≤ a ∧ a < COMMON_BASE + commonBytes)) ∧ (s.core c).buf = e :: l ∧ l.length = 3) :=
  ⟨⟨memCore 0x10000000, 1, _, _, _, _, 4, _, _, 0x10000000, _, _, _, .inl ⟨⟨1, true, 15, 3, 0⟩, rfl, rfl, rfl, rfl, rfl, rfl, rfl, rfl, by decide +kernel⟩, .tail _ (.tail _ (.tail _ (.tail _ (.head _)))), fun _ => by decide, by unfold TakesWord; decide +kernel, plainF _ _ (by decide +kernel) (calmF _ _ (by decide +kernel)), by decide +kernel, rfl, by decide +kernel⟩,
    ⟨memCore 0x1001FFF0, 1, _, _, _, _, 4, _, _, 0x1001FFF0, _, _, _, .inr (.inl ⟨⟨1, true, 15, 3, 0⟩, rfl, rfl, rfl, rfl, rfl, rfl, rfl, rfl, rfl⟩), .tail _ (.tail _ (.tail _ (.tail _ (.head _)))), fun _ => by decide, by unfold TakesWord; decide +kernel, plainF _ _ (by decide +kernel) (calmF _ _ (by decide +kernel)), by decide +kernel, rfl, by decide +kernel⟩,
    ⟨memCore 0x200FFFF0, 1, _, _, _, _, 4, _, _, 0x200FFFF0, _, _, _, .inr (.inr ⟨⟨1, true, 15, 3, 0⟩, rfl, rfl, rfl, rfl, rfl, rfl, rfl, rfl, by decide +kernel⟩), .tail _ (.tail _ (.tail _ (.tail _ (.head _)))), fun _ => by decide, by unfold TakesWord; decide +kernel, plainF _ _ (by decide +kernel) (calmF _ _ (by decide +kernel)), by decide +kernel, rfl, by decide +kernel⟩,
    ⟨bufCore 0x10000000 4, 1, _, _, _, _, 4, _, _, 0x10000000, _, _, _, _, _, .inl ⟨⟨1, true, 15, 3, 0⟩, rfl, rfl, rfl, rfl, rfl, rfl, rfl, rfl, by decide +kernel⟩, .tail _ (.tail _ (.tail _ (.tail _ (.head _)))), fun _ => by decide, by unfold TakesWord; decide +kernel, plainF _ _ (by decide +kernel) (calmF _ _ (by decide +kernel)), by decide +kernel, rfl, by decide +kernel, rfl, by decide +kernel⟩⟩

theorem test_hypotheses_FurrowDeviceAccess :
    (∃ (s : State) (i : IForm) (a : Nat), i.e = true ∧ (s.core i.c).bun = none ∧ a = (((s.core i.c).regs.sv i.rs1).toNat + (i.imm.signExtend 32).toNat * 4) % 2 ^ 32 ∧ TakesWord s i.c 2 [regS i.rd.toNat] ∧ PlainEnd s i.c ∧ a % 4 = 0 ∧ 0x40000000 ≤ a ∧ a < 0x40400000 ∧ rcWin (a - 0x40000000) = none) ∧
    (∃ (s : State) (i : IForm) (a : Nat), i.e = true ∧ (s.core i.c).bun = none ∧ a = (((s.core i.c).regs.sv i.rs1).toNat + (i.imm.signExtend 32).toNat * 4) % 2 ^ 32 ∧ TakesWord s i.c 2 [] ∧ PlainEnd s i.c ∧ i.c.val < 4 ∧ a % 4 = 0 ∧ 0x40000000 ≤ a ∧ a < 0x40400000 ∧ isChecked (a - 0x40000000) = true ∧ (nth s.hsp.fw i.c []).length < 256 ∧ s.hsp.fw.length = 5) ∧
    (∃ (s : State) (i : IForm) (a : Nat), i.e = true ∧ (s.core i.c).bun = none ∧ a = (((s.core i.c).regs.sv i.rs1).toNat + (i.imm.signExtend 32).toNat * 4) % 2 ^ 32 ∧ CanTrap s i.c ∧ TakesWord s i.c 2 [regS i.rd.toNat] ∧ a % 4 ≠ 0) ∧
    (∃ (s : State) (i : IForm) (a : Nat), i.e = true ∧ (s.core i.c).bun = none ∧ a = (((s.core i.c).regs.sv i.rs1).toNat + (i.imm.signExtend 32).toNat * 4) % 2 ^ 32 ∧ CanTrap s i.c ∧ TakesWord s i.c 2 [] ∧ a % 4 ≠ 0) ∧
    (∃ (s : State) (i : IForm) (a : Nat), i.e = true ∧ (s.core i.c).bun = none ∧ a = (((s.core i.c).regs.sv i.rs1).toNat + (i.imm.signExtend 32).toNat * 4) % 2 ^ 32 ∧ CanTrap s i.c ∧ TakesWord s i.c 2 [] ∧ a % 4 = 0 ∧ a < progLimit s i.c) ∧
    (∃ (s : State) (i : IForm) (a : Nat), i.e = true ∧ (s.core i.c).bun = none ∧ a = (((s.core i.c).regs.sv i.rs1).toNat + (i.imm.signExtend 32).toNat * 4) % 2 ^ 32 ∧ CanTrap s i.c ∧ TakesWord s i.c 2 [regS i.rd.toNat] ∧ a % 4 = 0 ∧ 0x50000000 ≤ a ∧ a < 0x80000000) ∧
    (∃ (s : State) (i : IForm) (a : Nat), i.e = true ∧ (s.core i.c).bun = none ∧ a = (((s.core i.c).regs.sv i.rs1).toNat + (i.imm.signExtend 32).toNat * 4) % 2 ^ 32 ∧ CanTrap s i.c ∧ TakesWord s i.c 2 [regS i.rd.toNat] ∧ a % 4 = 0 ∧ i.c.val < 4 ∧ 0x80000000 ≤ a ∧ a < 0x82000000 ∧ mittenOpen s = false) :=
  ⟨⟨withCore 1 { CoreSt.reset with regs := { CoreRegs.reset.setS 3 0x403FFFFC with evec := 512 } } withCores, ⟨1, true, 2, 3, 0⟩, 0x403FFFFC, by decide +kernel, by decide +kernel, by decide +kernel, by unfold TakesWord; decide +kernel, plainF _ _ (by decide +kernel) (calmF _ _ (by decide +kernel)), by decide +kernel⟩,
    ⟨withCore 1 { CoreSt.reset with regs := { CoreRegs.reset.setS 3 (BitVec.ofNat 32 (0x40000000 + A.SWA_CFG)) with evec := 512 } } withCores, ⟨1, true, 2, 3, 0⟩, 0x40000000 + A.SWA_CFG, by decide +kernel, by decide +kernel, by decide +kernel, by unfold TakesWord; decide +kernel, plainF _ _ (by decide +kernel) (calmF _ _ (by decide +kernel)), by decide +kernel⟩,
    ⟨withCore 1 { CoreSt.reset with regs := { CoreRegs.reset.setS 3 0x10000001 with evec := 512 } } withCores, ⟨1, true, 2, 3, 0⟩, _, by decide +kernel, by decide +kernel, rfl, by unfold CanTrap; decide +kernel, by unfold TakesWord; decide +kernel, by decide +kernel⟩,
    ⟨withCore 1 { CoreSt.reset with regs := { CoreRegs.reset.setS 3 0x10000001 with evec := 512 } } withCores, ⟨1, true, 2, 3, 0⟩, _, by decide +kernel, by decide +kernel, rfl, by unfold CanTrap; decide +kernel, by unfold TakesWord; decide +kernel, by decide +kernel⟩,
    ⟨withCore 1 { CoreSt.reset with regs := { CoreRegs.reset.setS 3 0x7FFC with evec := 512 } } withCores, ⟨1, true, 2, 3, 0⟩, _, by decide +kernel, by decide +kernel, rfl, by unfold CanTrap; decide +kernel, by unfold TakesWord; decide +kernel, rfl, by decide +kernel⟩,
    ⟨withCore 1 { CoreSt.reset with regs := { CoreRegs.reset.setS 3 0x50000000 with evec := 512 } } withCores, ⟨1, true, 2, 3, 0⟩, _, by decide +kernel, by decide +kernel, rfl, by unfold CanTrap; decide +kernel, by unfold TakesWord; decide +kernel, rfl, by decide +kernel⟩,
    ⟨withCore 1 { CoreSt.reset with regs := { CoreRegs.reset.setS 3 0x81FFFFFC with evec := 512 } } withCores, ⟨1, true, 2, 3, 0⟩, _, by decide +kernel, by decide +kernel, rfl, by unfold CanTrap; decide +kernel, by unfold TakesWord; decide +kernel, rfl, by decide +kernel⟩⟩

theorem test_hypotheses_FurrowQueueInstructions :
    (∃ (s : State) (i : IForm) (n : Nat) (q : QueueSt) (w : Nat) (l : List Nat), i.c.val < 4 ∧ i.e = true ∧ i.rs1 = 0 ∧ n = i.imm.toNat ∧ s.que.q.length = 64 ∧ queueOn s n = true ∧ q = s.queue n ∧ n < 56 ∧ s.get (F.QUE_Qn_CONS_CORE n) = i.c.val ∧ q.occ = w :: l ∧ TakesWord s i.c 2 [regS i.rd.toNat] ∧ PlainEnd s i.c) ∧
    (∃ (s : State) (i : IForm) (n : Nat) (q : QueueSt) (w0 : Nat) (w1 : Nat) (w2 : Nat) (w3 : Nat) (l : List Nat), i.c.val < 4 ∧ i.e = true ∧ i.rs1 = 0 ∧ n = i.imm.toNat ∧ s.que.q.length = 64 ∧ queueOn s n = true ∧ q = s.queue n ∧ n < 56 ∧ i.rd.toNat < 16 ∧ s.get (F.QUE_Qn_CONS_CORE n) = i.c.val ∧ q.occ = w0 :: w1 :: w2 :: w3 :: l ∧ TakesWord s i.c 2 [regQ i.rd.toNat] ∧ PlainEnd s i.c) ∧
    (∃ (s : State) (i : IForm) (n : Nat) (q : QueueSt), i.c.val < 4 ∧ i.e = true ∧ i.rs1 = 0 ∧ n = i.imm.toNat ∧ s.que.q.length = 64 ∧ queueOn s n = true ∧ q = s.queue n ∧ s.get (F.QUE_Qn_CONS_CORE n) = i.c.val ∧ (s.core i.c).bun = none ∧ (s.core i.c).slot = none ∧ q.occ = [] ∧ TakesWord s i.c 2 [regS i.rd.toNat]) ∧
    (∃ (s : State) (i : IForm) (n : Nat) (q : QueueSt), i.c.val < 4 ∧ i.e = true ∧ i.rs1 = 0 ∧ n = i.imm.toNat ∧ s.que.q.length = 64 ∧ queueOn s n = true ∧ q = s.queue n ∧ s.get (F.QUE_Qn_CONS_CORE n) = i.c.val ∧ (s.core i.c).bun = none ∧ (s.core i.c).slot = none ∧ q.occ.length < 4 ∧ i.rd.toNat < 16 ∧ TakesWord s i.c 2 [regQ i.rd.toNat]) ∧
    (∃ (s : State) (i : IForm) (n : Nat) (q : QueueSt), i.c.val < 4 ∧ i.e = true ∧ i.rs1 = 0 ∧ n = i.imm.toNat ∧ s.que.q.length = 64 ∧ queueOn s n = true ∧ q = s.queue n ∧ s.get (F.QUE_Qn_PROD_CORE n) = i.c.val ∧ TakesWord s i.c 2 [] ∧ PlainEnd s i.c ∧ 1 ≤ q.cred) ∧
    (∃ (s : State) (i : IForm) (n : Nat) (q : QueueSt), i.c.val < 4 ∧ i.e = true ∧ i.rs1 = 0 ∧ n = i.imm.toNat ∧ s.que.q.length = 64 ∧ queueOn s n = true ∧ q = s.queue n ∧ s.get (F.QUE_Qn_PROD_CORE n) = i.c.val ∧ TakesWord s i.c 2 [] ∧ PlainEnd s i.c ∧ 4 ≤ q.cred ∧ i.rd.toNat < 16) ∧
    (∃ (s : State) (i : IForm) (n : Nat) (q : QueueSt), i.c.val < 4 ∧ i.e = true ∧ i.rs1 = 0 ∧ n = i.imm.toNat ∧ s.que.q.length = 64 ∧ queueOn s n = true ∧ q = s.queue n ∧ s.get (F.QUE_Qn_PROD_CORE n) = i.c.val ∧ TakesWord s i.c 2 [] ∧ PlainEnd s i.c ∧ q.cred = 0 ∧ (s.core i.c).bun = none) ∧
    (∃ (s : State) (i : IForm) (n : Nat) (q : QueueSt), i.c.val < 4 ∧ i.e = true ∧ i.rs1 = 0 ∧ n = i.imm.toNat ∧ s.que.q.length = 64 ∧ queueOn s n = true ∧ q = s.queue n ∧ s.get (F.QUE_Qn_PROD_CORE n) = i.c.val ∧ TakesWord s i.c 2 [] ∧ PlainEnd s i.c ∧ q.cred < 4 ∧ (s.core i.c).bun = none ∧ i.rd.toNat < 16) :=
  ⟨⟨{ puts [(F.QUE_Qn_CFG_EN 55, 1), (F.QUE_Qn_CONS_CORE 55, 1), (F.QUE_Qn_PROD_CORE 55, 1)] withCores with que := { withCores.que with q := queT 55 { QueueSt.reset with occ := [7] } } }, ⟨1, true, 15, 0, 55⟩, _, _, _, _, by decide +kernel, by decide +kernel, by decide +kernel, rfl, by decide +kernel, rfl, rfl, by decide +kernel, rfl, rfl, by unfold TakesWord; decide +kernel, plainF _ _ (by decide +kernel) (calmF _ _ (by decide +kernel))⟩,
    ⟨{ puts [(F.QUE_Qn_CFG_EN 55, 1), (F.QUE_Qn_CONS_CORE 55, 1), (F.QUE_Qn_PROD_CORE 55, 1)] withCores with que := { withCores.que with q := queT 55 { QueueSt.reset with occ := [1, 2, 3, 4] } } }, ⟨1, true, 15, 0, 55⟩, _, _, _, _, _, _, _, by decide +kernel, by decide +kernel, by decide +kernel, rfl, by decide +kernel, rfl, rfl, by decide +kernel, by decide +kernel, rfl, rfl, by unfold TakesWord; decide +kernel, plainF _ _ (by decide +kernel) (calmF _ _ (by decide +kernel))⟩,
    ⟨{ puts [(F.QUE_Qn_CFG_EN 55, 1), (F.QUE_Qn_CONS_CORE 55, 1), (F.QUE_Qn_PROD_CORE 55, 1)] withCores with que := { withCores.que with q := queT 55 { QueueSt.reset with occ := [] } } }, ⟨1, true, 15, 0, 55⟩, _, _, by decide +kernel, by decide +kernel, by decide +kernel, rfl, by decide +kernel, rfl, rfl, rfl, by decide +kernel, by decide +kernel, rfl, by unfold TakesWord; decide +kernel⟩,
    ⟨{ puts [(F.QUE_Qn_CFG_EN 55, 1), (F.QUE_Qn_CONS_CORE 55, 1), (F.QUE_Qn_PROD_CORE 55, 1)] withCores with que := { withCores.que with q := queT 55 { QueueSt.reset with occ := [1, 2, 3] } } }, ⟨1, true, 15, 0, 55⟩, _, _, by decide +kernel, by decide +kernel, by decide +kernel, rfl, by decide +kernel, rfl, rfl, rfl, by decide +kernel, by decide +kernel, by decide +kernel, by decide +kernel, by unfold TakesWord; decide +kernel⟩,
    ⟨{ puts [(F.QUE_Qn_CFG_EN 55, 1), (F.QUE_Qn_CONS_CORE 55, 1), (F.QUE_Qn_PROD_CORE 55, 1)] withCores with que := { withCores.que with q := queT 55 { QueueSt.reset with cred := 1 } } }, ⟨1, true, 15, 0, 55⟩, _, _, by decide +kernel, by decide +kernel, by decide +kernel, rfl, by decide +kernel, rfl, rfl, rfl, by unfold TakesWord; decide +kernel, plainF _ _ (by decide +kernel) (calmF _ _ (by decide +kernel)), by decide +kernel⟩,
    ⟨{ puts [(F.QUE_Qn_CFG_EN 55, 1), (F.QUE_Qn_CONS_CORE 55, 1), (F.QUE_Qn_PROD_CORE 55, 1)] withCores with que := { withCores.que with q := queT 55 { QueueSt.reset with cred := 4 } } }, ⟨1, true, 15, 0, 55⟩, _, _, by decide +kernel, by decide +kernel, by decide +kernel, rfl, by decide +kernel, rfl, rfl, rfl, by unfold TakesWord; decide +kernel, plainF _ _ (by decide +kernel) (calmF _ _ (by decide +kernel)), by decide +kernel⟩,
    ⟨{ puts [(F.QUE_Qn_CFG_EN 55, 1), (F.QUE_Qn_CONS_CORE 55, 1), (F.QUE_Qn_PROD_CORE 55, 1)] withCores with que := { withCores.que with q := queT 55 { QueueSt.reset with cred := 0 } } }, ⟨1, true, 15, 0, 55⟩, _, _, by decide +kernel, by decide +kernel, by decide +kernel, rfl, by decide +kernel, rfl, rfl, rfl, by unfold TakesWord; decide +kernel, plainF _ _ (by decide +kernel) (calmF _ _ (by decide +kernel)), rfl, by decide +kernel⟩,
    ⟨{ puts [(F.QUE_Qn_CFG_EN 55, 1), (F.QUE_Qn_CONS_CORE 55, 1), (F.QUE_Qn_PROD_CORE 55, 1)] withCores with que := { withCores.que with q := queT 55 { QueueSt.reset with cred := 3 } } }, ⟨1, true, 15, 0, 55⟩, _, _, by decide +kernel, by decide +kernel, by decide +kernel, rfl, by decide +kernel, rfl, rfl, rfl, by unfold TakesWord; decide +kernel, plainF _ _ (by decide +kernel) (calmF _ _ (by decide +kernel)), by decide +kernel⟩⟩

theorem test_hypotheses_FurrowAtomics :
    (∃ (s : State) (i : RForm) (a : Nat) (old : Word) (b : Word) (d : Word) (e : Instr × Word), e ∈ ([(.amoSwap i, b), (.amoAdd i, old + b), (.amoAnd i, old &&& b), (.amoOr i, old ||| b), (.amoMaxu i, if b.toNat ≤ old.toNat then old else b), (.amoMinu i, if old.toNat ≤ b.toNat then old else b), (.amoCas i, if old = d then b else old)] : List (Instr × Word)) ∧ i.e = true ∧ (s.core i.c).bun = none ∧ a = ((s.core i.c).regs.sv i.rs1).toNat ∧ old = memWord s.frw.common (a - COMMON_BASE) ∧ b = (s.core i.c).regs.sv i.rs2 ∧ d = (s.core i.c).regs.sv i.rd ∧ i.c.val < 4 ∧ TakesWord s i.c 3 [regS i.rd.toNat] ∧ PlainEnd s i.c ∧ (s.core i.c).buf = [] ∧ a % 4 = 0 ∧ COMMON_BASE ≤ a ∧ a < COMMON_BASE + commonBytes ∧ badIn s.frw.badCommon (a - COMMON_BASE) 4 = false) ∧
    (∃ (s : State) (i : RForm) (a : Nat) (old : Word) (b : Word) (d : Word) (e : Instr × Word), e ∈ ([(.amoSwap i, b), (.amoAdd i, old + b), (.amoAnd i, old &&& b), (.amoOr i, old ||| b), (.amoMaxu i, if b.toNat ≤ old.toNat then old else b), (.amoMinu i, if old.toNat ≤ b.toNat then old else b), (.amoCas i, if old = d then b else old)] : List (Instr × Word)) ∧ i.e = true ∧ (s.core i.c).bun = none ∧ a = ((s.core i.c).regs.sv i.rs1).toNat ∧ old = memWord s.frw.common (a - COMMON_BASE) ∧ b = (s.core i.c).regs.sv i.rs2 ∧ d = (s.core i.c).regs.sv i.rd ∧ 4 ≤ i.c.val ∧ TakesWord s i.c 3 [regS i.rd.toNat] ∧ CanTrap s i.c ∧ (s.core i.c).slot = none) :=
  ⟨⟨memCore 0x200FFFFC, ⟨1, true, 2, 3, 4⟩, _, _, _, _, _, .head _, by decide +kernel, by decide +kernel, rfl, rfl, rfl, rfl, by decide +kernel, by unfold TakesWord; decide +kernel, plainF _ _ (by decide +kernel) (calmF _ _ (by decide +kernel)), by decide +kernel, rfl, by decide +kernel, by decide +kernel, rfl⟩,
    ⟨withCore 4 { CoreSt.reset with regs := { CoreRegs.reset with evec := 512 } } withCores, ⟨4, true, 2, 3, 4⟩, _, _, _, _, _, .head _, by decide +kernel, by decide +kernel, rfl, rfl, rfl, rfl, by decide +kernel, by unfold TakesWord; decide +kernel, by unfold CanTrap; decide +kernel, by decide +kernel⟩⟩

theorem test_hypotheses_FurrowSystem :
    (∃ (s : State) (i : RForm) (v : Word) (r : CoreRegs) (e : BitVec 8 × CoreRegs), e ∈ ([(0, { r with fmode := v.extractLsb' 0 8 }), (1, { r with fstat := v.extractLsb' 0 2 }), (2, { r with epc := v }), (4, { r with efmode := v.extractLsb' 0 8 }), (5, r), (6, { r with evec := v }), (7, r), (8, r), (9, r), (10, r)] : List (BitVec 8 × CoreRegs)) ∧ i.e = true ∧ (s.core i.c).bun = none ∧ s.hsp.fw.length = 5 ∧ TakesWord s i.c 3 [] ∧ PlainEnd s i.c ∧ i.rd = 0 ∧ i.rs2 = 0 ∧ v = (s.core i.c).regs.sv i.rs1 ∧ r = (s.core i.c).regs) ∧
    (∃ (s : State) (i : RForm), i.e = true ∧ (s.core i.c).bun = none ∧ s.hsp.fw.length = 5 ∧ TakesWord s i.c 3 [] ∧ PlainEnd s i.c ∧ i.rd = 0 ∧ i.rs2 = 0 ∧ (s.core i.c).slot = none ∧ ((s.core i.c).regs.sv i.rs1).getLsbD 12 = true) ∧
    (∃ (s : State) (i : RForm) (r : CoreRegs) (e : BitVec 8 × Word), e ∈ ([(0, r.fmode.zeroExtend 32), (1, r.fstat.zeroExtend 32), (2, r.epc), (3, r.estat), (4, r.efmode.zeroExtend 32), (5, r.eaddr), (6, r.evec), (7, BitVec.ofNat 32 (coreId s i.c)), (9, r.cycHi), (10, BitVec.ofNat 32 (taskReg s i.c))] : List (BitVec 8 × Word)) ∧ i.e = true ∧ (s.core i.c).bun = none ∧ s.hsp.fw.length = 5 ∧ TakesWord s i.c 3 [regS i.rd.toNat] ∧ PlainEnd s i.c ∧ i.rs1 = 0 ∧ i.rs2 = 0 ∧ r = (s.core i.c).regs) ∧
    (∃ (s : State) (i : RForm) (r : CoreRegs), i.e = true ∧ (s.core i.c).bun = none ∧ s.hsp.fw.length = 5 ∧ TakesWord s i.c 3 [regS i.rd.toNat] ∧ PlainEnd s i.c ∧ i.rs1 = 0 ∧ i.rs2 = 0 ∧ r = (s.core i.c).regs ∧ i.c.val < 4) ∧
    (∃ (s : State) (i : RForm) (f : BitVec 8), i.e = true ∧ (s.core i.c).bun = none ∧ s.hsp.fw.length = 5 ∧ TakesWord s i.c 3 [] ∧ PlainEnd s i.c ∧ (s.core i.c).buf = [] ∧ i.rd = 0 ∧ i.rs1 = 0 ∧ i.rs2 = 0 ∧ f.toNat < 8 ∧ i.c.val ≠ SCARE) ∧
    (∃ (s : State) (i : RForm) (n : Nat), i.e = true ∧ (s.core i.c).bun = none ∧ s.hsp.fw.length = 5 ∧ TakesWord s i.c 3 [regS i.rd.toNat] ∧ PlainEnd s i.c ∧ (s.core i.c).buf = [] ∧ i.rs1 = 0 ∧ i.rs2 = 0 ∧ i.c.val < 5 ∧ (∀ x ∈ s.hsp.checks, x.origin ≠ coreOrigin i.c) ∧ n = (if s.get (F.FRW_FCMTk_SEQ i.c) = 65535 then 1 else s.get (F.FRW_FCMTk_SEQ i.c) + 1) ∧ nth s.hsp.fw i.c [] ≠ []) ∧
    (∃ (s : State) (i : RForm) (n : Nat), i.e = true ∧ (s.core i.c).bun = none ∧ s.hsp.fw.length = 5 ∧ TakesWord s i.c 3 [regS i.rd.toNat] ∧ PlainEnd s i.c ∧ (s.core i.c).buf = [] ∧ i.rs1 = 0 ∧ i.rs2 = 0 ∧ i.c.val < 5 ∧ (∀ x ∈ s.hsp.checks, x.origin ≠ coreOrigin i.c) ∧ n = (if s.get (F.FRW_FCMTk_SEQ i.c) = 65535 then 1 else s.get (F.FRW_FCMTk_SEQ i.c) + 1) ∧ nth s.hsp.fw i.c [] = []) ∧
    (∃ (s : State) (i : RForm), i.e = true ∧ (s.core i.c).bun = none ∧ s.hsp.fw.length = 5 ∧ TakesWord s i.c 3 [regS i.rd.toNat] ∧ PlainEnd s i.c ∧ (s.core i.c).buf = [] ∧ i.rs1 = 0 ∧ i.rs2 = 0 ∧ i.c.val < 5 ∧ (∃ x ∈ s.hsp.checks, x.origin = coreOrigin i.c)) ∧
    (∃ (s : State) (i : RForm), i.e = true ∧ (s.core i.c).bun = none ∧ s.hsp.fw.length = 5 ∧ TakesWord s i.c 3 [] ∧ PlainEnd s i.c ∧ (s.core i.c).buf = [] ∧ i.rd = 0 ∧ i.rs1 = 0 ∧ i.rs2 = 0 ∧ i.c.val < 4 ∧ coreLive s i.c = true ∧ (s.core i.c).stepping = false ∧ s.flag (F.FRW_COREc_CTL_RUN i.c) = true ∧ (s.core i.c).regs.estat.getLsbD 12 = false ∧ s.flag (F.FRW_COREc_ST_INIT i.c) = true ∧ (s.core i.c).jobs = []) ∧
    (∃ (s : State) (i : RForm) (j : Job), i.e = true ∧ (s.core i.c).bun = none ∧ s.hsp.fw.length = 5 ∧ TakesWord s i.c 3 [] ∧ PlainEnd s i.c ∧ (s.core i.c).buf = [] ∧ i.rd = 0 ∧ i.rs1 = 0 ∧ i.rs2 = 0 ∧ i.c.val < 4 ∧ coreLive s i.c = true ∧ (s.core i.c).stepping = false ∧ s.flag (F.FRW_COREc_CTL_RUN i.c) = true ∧ (s.core i.c).regs.estat.getLsbD 12 = false ∧ s.flag (F.FRW_COREc_ST_INIT i.c) = false ∧ (s.core i.c).jobs = [j] ∧ (s.core i.c).run = some j.task ∧ (s.core i.c).heldRel = []) ∧
    (∃ (s : State) (i : RForm) (r : CoreRegs) (n : Nat), i.e = true ∧ (s.core i.c).bun = none ∧ s.hsp.fw.length = 5 ∧ TakesWord s i.c 3 [regS i.rd.toNat] ∧ PlainEnd s i.c ∧ i.rs1 = 0 ∧ i.rs2 = 0 ∧ r = (s.core i.c).regs ∧ 4 ≤ i.c.val ∧ n = nth s.frw.cyc (i.c - 4) 0) :=
  ⟨⟨(withCores), ⟨1, true, 0, 0, 0⟩, _, _, _, .head _, by decide +kernel, by decide +kernel, by decide +kernel, by unfold TakesWord; decide +kernel, plainF _ _ (by decide +kernel) (calmF _ _ (by decide +kernel)), by decide +kernel, by decide +kernel, rfl, rfl⟩,
    ⟨memCore 0x1000, ⟨1, true, 0, 3, 0⟩, by decide +kernel, by decide +kernel, by decide +kernel, by unfold TakesWord; decide +kernel, plainF _ _ (by decide +kernel) (calmF _ _ (by decide +kernel)), by decide +kernel⟩,
    ⟨(withCores), ⟨1, true, 0, 0, 0⟩, _, _, .head _, by decide +kernel, by decide +kernel, by decide +kernel, by unfold TakesWord; decide +kernel, plainF _ _ (by decide +kernel) (calmF _ _ (by decide +kernel)), by decide +kernel, by decide +kernel, rfl⟩,
    ⟨(withCores), ⟨1, true, 0, 0, 0⟩, _, by decide +kernel, by decide +kernel, by decide +kernel, by unfold TakesWord; decide +kernel, plainF _ _ (by decide +kernel) (calmF _ _ (by decide +kernel)), by decide +kernel, by decide +kernel, rfl, by decide +kernel⟩,
    ⟨(withCores), ⟨1, true, 0, 0, 0⟩, 7, by decide +kernel, by decide +kernel, by decide +kernel, by unfold TakesWord; decide +kernel, plainF _ _ (by decide +kernel) (calmF _ _ (by decide +kernel)), by decide +kernel⟩,
    ⟨{ withCores with hsp := { withCores.hsp with fw := setNth withCores.hsp.fw 1 [(0x050010, 5)] } }, ⟨1, true, 0, 0, 0⟩, _, by decide +kernel, by decide +kernel, by decide +kernel, by unfold TakesWord; decide +kernel, plainF _ _ (by decide +kernel) (calmF _ _ (by decide +kernel)), by decide +kernel, by decide +kernel, by decide +kernel, by decide +kernel, by decide +kernel, rfl, by decide +kernel⟩,
    ⟨(withCores), ⟨1, true, 0, 0, 0⟩, _, by decide +kernel, by decide +kernel, by decide +kernel, by unfold TakesWord; decide +kernel, plainF _ _ (by decide +kernel) (calmF _ _ (by decide +kernel)), by decide +kernel, by decide +kernel, by decide +kernel, by decide +kernel, by decide +kernel, rfl, by decide +kernel⟩,
    ⟨{ withCores with hsp := { withCores.hsp with checks := [⟨coreOrigin 1, []⟩] } }, ⟨1, true, 0, 0, 0⟩, rfl, by decide +kernel, by decide +kernel, by unfold TakesWord; decide +kernel, plainF _ _ (by decide +kernel) (calmF _ _ (by decide +kernel)), by decide +kernel, by decide +kernel, by decide +kernel, by decide +kernel, ⟨⟨coreOrigin 1, []⟩, .head _, rfl⟩⟩,
    ⟨withCores, ⟨1, true, 0, 0, 0⟩, by decide +kernel, by decide +kernel, by decide +kernel, by unfold TakesWord; decide +kernel, plainF _ _ (by decide +kernel) (calmF _ _ (by decide +kernel)), by decide +kernel⟩,
    ⟨puts [(F.FRW_COREc_ST_INIT 1, 0)] (withCore 1 { CoreSt.reset with jobs := [⟨1, 9, none⟩], run := some 1 } withCores), ⟨1, true, 0, 0, 0⟩, ⟨1, 9, none⟩, rfl, by decide +kernel, by decide +kernel, by unfold TakesWord; decide +kernel, plainF _ _ (by decide +kernel) (.inr (.inr ⟨by decide +kernel, by decide +kernel, .inr ⟨⟨1, 9, none⟩, rfl, rfl⟩⟩)), by decide +kernel⟩,
    ⟨{ withCores with frw.cyc := [5, 2 ^ 32 + 6] }, ⟨5, true, 2, 0, 0⟩, _, _, rfl, by decide +kernel, by decide +kernel, by unfold TakesWord; decide +kernel, plainF _ _ (by decide +kernel) (.inr (.inl (by decide))), by decide +kernel, by decide +kernel, rfl, by decide, rfl⟩⟩

theorem test_hypotheses_FurrowExceptions :
    (∃ (s : State) (i : RForm) (n : Nat) (x : Instr), i.e = true ∧ (s.core i.c).bun = none ∧ (s.core i.c).slot = none ∧ CanTrap s i.c ∧ ((i.rs2 ≠ 0 ∧ n = 0 ∧ x = .abs i) ∨ (8 ≤ i.rd.toNat ∧ n = 0 ∧ x = .cmpEq i) ∨ (∃ f : BitVec 8, 8 ≤ f.toNat ∧ n = 0 ∧ x = .sel i f) ∨ (i.c.val < 4 ∧ n = 0 ∧ x = .sclr i) ∨ (4 ≤ i.c.val ∧ n = 1 ∧ x = .vand i) ∨ (∃ f : BitVec 8, 2 ≤ f.toNat ∧ n = 1 ∧ x = .vadd i f) ∨ (i.rd ≠ 0 ∧ n = 3 ∧ x = .fence 0 i) ∨ (4 ≤ i.c.val ∧ n = 3 ∧ x = .tend 0 i) ∨ ((s.core i.c).regs.estat.getLsbD 12 = false ∧ i.rd = 0 ∧ i.rs1 = 0 ∧ i.rs2 = 0 ∧ n = 3 ∧ x = .eret 0 i)) ∧ TakesWord s i.c n []) ∧
    (∃ (s : State) (i : RForm) (n : Nat) (x : Instr), i.e = true ∧ (s.core i.c).bun = none ∧ (s.core i.c).slot = none ∧ CanTrap s i.c ∧ ((i.rs2 ≠ 0 ∧ n = 0 ∧ x = .abs i) ∨ (8 ≤ i.rd.toNat ∧ n = 0 ∧ x = .cmpEq i) ∨ (∃ f : BitVec 8, 8 ≤ f.toNat ∧ n = 0 ∧ x = .sel i f) ∨ (i.c.val < 4 ∧ n = 0 ∧ x = .sclr i) ∨ (4 ≤ i.c.val ∧ n = 1 ∧ x = .vand i) ∨ (∃ f : BitVec 8, 2 ≤ f.toNat ∧ n = 1 ∧ x = .vadd i f) ∨ (i.rd ≠ 0 ∧ n = 3 ∧ x = .fence 0 i) ∨ (4 ≤ i.c.val ∧ n = 3 ∧ x = .tend 0 i) ∨ ((s.core i.c).regs.estat.getLsbD 12 = false ∧ i.rd = 0 ∧ i.rs1 = 0 ∧ i.rs2 = 0 ∧ n = 3 ∧ x = .eret 0 i)) ∧ TakesWord s i.c n []) ∧
    (∃ (s : State) (i : RForm) (n : Nat) (x : Instr), i.e = true ∧ (s.core i.c).bun = none ∧ (s.core i.c).slot = none ∧ CanTrap s i.c ∧ ((i.rs2 ≠ 0 ∧ n = 0 ∧ x = .abs i) ∨ (8 ≤ i.rd.toNat ∧ n = 0 ∧ x = .cmpEq i) ∨ (∃ f : BitVec 8, 8 ≤ f.toNat ∧ n = 0 ∧ x = .sel i f) ∨ (i.c.val < 4 ∧ n = 0 ∧ x = .sclr i) ∨ (4 ≤ i.c.val ∧ n = 1 ∧ x = .vand i) ∨ (∃ f : BitVec 8, 2 ≤ f.toNat ∧ n = 1 ∧ x = .vadd i f) ∨ (i.rd ≠ 0 ∧ n = 3 ∧ x = .fence 0 i) ∨ (4 ≤ i.c.val ∧ n = 3 ∧ x = .tend 0 i) ∨ ((s.core i.c).regs.estat.getLsbD 12 = false ∧ i.rd = 0 ∧ i.rs1 = 0 ∧ i.rs2 = 0 ∧ n = 3 ∧ x = .eret 0 i)) ∧ TakesWord s i.c n []) ∧
    (∃ (s : State) (i : RForm) (n : Nat) (x : Instr), i.e = true ∧ (s.core i.c).bun = none ∧ (s.core i.c).slot = none ∧ CanTrap s i.c ∧ ((i.rs2 ≠ 0 ∧ n = 0 ∧ x = .abs i) ∨ (8 ≤ i.rd.toNat ∧ n = 0 ∧ x = .cmpEq i) ∨ (∃ f : BitVec 8, 8 ≤ f.toNat ∧ n = 0 ∧ x = .sel i f) ∨ (i.c.val < 4 ∧ n = 0 ∧ x = .sclr i) ∨ (4 ≤ i.c.val ∧ n = 1 ∧ x = .vand i) ∨ (∃ f : BitVec 8, 2 ≤ f.toNat ∧ n = 1 ∧ x = .vadd i f) ∨ (i.rd ≠ 0 ∧ n = 3 ∧ x = .fence 0 i) ∨ (4 ≤ i.c.val ∧ n = 3 ∧ x = .tend 0 i) ∨ ((s.core i.c).regs.estat.getLsbD 12 = false ∧ i.rd = 0 ∧ i.rs1 = 0 ∧ i.rs2 = 0 ∧ n = 3 ∧ x = .eret 0 i)) ∧ TakesWord s i.c n []) ∧
    (∃ (s : State) (i : RForm) (n : Nat) (x : Instr), i.e = true ∧ (s.core i.c).bun = none ∧ (s.core i.c).slot = none ∧ CanTrap s i.c ∧ ((i.rs2 ≠ 0 ∧ n = 0 ∧ x = .abs i) ∨ (8 ≤ i.rd.toNat ∧ n = 0 ∧ x = .cmpEq i) ∨ (∃ f : BitVec 8, 8 ≤ f.toNat ∧ n = 0 ∧ x = .sel i f) ∨ (i.c.val < 4 ∧ n = 0 ∧ x = .sclr i) ∨ (4 ≤ i.c.val ∧ n = 1 ∧ x = .vand i) ∨ (∃ f : BitVec 8, 2 ≤ f.toNat ∧ n = 1 ∧ x = .vadd i f) ∨ (i.rd ≠ 0 ∧ n = 3 ∧ x = .fence 0 i) ∨ (4 ≤ i.c.val ∧ n = 3 ∧ x = .tend 0 i) ∨ ((s.core i.c).regs.estat.getLsbD 12 = false ∧ i.rd = 0 ∧ i.rs1 = 0 ∧ i.rs2 = 0 ∧ n = 3 ∧ x = .eret 0 i)) ∧ TakesWord s i.c n []) ∧
    (∃ (s : State) (i : RForm) (n : Nat) (x : Instr), i.e = true ∧ (s.core i.c).bun = none ∧ (s.core i.c).slot = none ∧ CanTrap s i.c ∧ ((i.rs2 ≠ 0 ∧ n = 0 ∧ x = .abs i) ∨ (8 ≤ i.rd.toNat ∧ n = 0 ∧ x = .cmpEq i) ∨ (∃ f : BitVec 8, 8 ≤ f.toNat ∧ n = 0 ∧ x = .sel i f) ∨ (i.c.val < 4 ∧ n = 0 ∧ x = .sclr i) ∨ (4 ≤ i.c.val ∧ n = 1 ∧ x = .vand i) ∨ (∃ f : BitVec 8, 2 ≤ f.toNat ∧ n = 1 ∧ x = .vadd i f) ∨ (i.rd ≠ 0 ∧ n = 3 ∧ x = .fence 0 i) ∨ (4 ≤ i.c.val ∧ n = 3 ∧ x = .tend 0 i) ∨ ((s.core i.c).regs.estat.getLsbD 12 = false ∧ i.rd = 0 ∧ i.rs1 = 0 ∧ i.rs2 = 0 ∧ n = 3 ∧ x = .eret 0 i)) ∧ TakesWord s i.c n []) ∧
    (∃ (s : State) (i : RForm) (n : Nat) (x : Instr), i.e = true ∧ (s.core i.c).bun = none ∧ (s.core i.c).slot = none ∧ CanTrap s i.c ∧ ((i.rs2 ≠ 0 ∧ n = 0 ∧ x = .abs i) ∨ (8 ≤ i.rd.toNat ∧ n = 0 ∧ x = .cmpEq i) ∨ (∃ f : BitVec 8, 8 ≤ f.toNat ∧ n = 0 ∧ x = .sel i f) ∨ (i.c.val < 4 ∧ n = 0 ∧ x = .sclr i) ∨ (4 ≤ i.c.val ∧ n = 1 ∧ x = .vand i) ∨ (∃ f : BitVec 8, 2 ≤ f.toNat ∧ n = 1 ∧ x = .vadd i f) ∨ (i.rd ≠ 0 ∧ n = 3 ∧ x = .fence 0 i) ∨ (4 ≤ i.c.val ∧ n = 3 ∧ x = .tend 0 i) ∨ ((s.core i.c).regs.estat.getLsbD 12 = false ∧ i.rd = 0 ∧ i.rs1 = 0 ∧ i.rs2 = 0 ∧ n = 3 ∧ x = .eret 0 i)) ∧ TakesWord s i.c n []) ∧
    (∃ (s : State) (i : RForm) (n : Nat) (x : Instr), i.e = true ∧ (s.core i.c).bun = none ∧ (s.core i.c).slot = none ∧ CanTrap s i.c ∧ ((i.rs2 ≠ 0 ∧ n = 0 ∧ x = .abs i) ∨ (8 ≤ i.rd.toNat ∧ n = 0 ∧ x = .cmpEq i) ∨ (∃ f : BitVec 8, 8 ≤ f.toNat ∧ n = 0 ∧ x = .sel i f) ∨ (i.c.val < 4 ∧ n = 0 ∧ x = .sclr i) ∨ (4 ≤ i.c.val ∧ n = 1 ∧ x = .vand i) ∨ (∃ f : BitVec 8, 2 ≤ f.toNat ∧ n = 1 ∧ x = .vadd i f) ∨ (i.rd ≠ 0 ∧ n = 3 ∧ x = .fence 0 i) ∨ (4 ≤ i.c.val ∧ n = 3 ∧ x = .tend 0 i) ∨ ((s.core i.c).regs.estat.getLsbD 12 = false ∧ i.rd = 0 ∧ i.rs1 = 0 ∧ i.rs2 = 0 ∧ n = 3 ∧ x = .eret 0 i)) ∧ TakesWord s i.c n []) ∧
    (∃ (s : State) (i : RForm) (n : Nat) (x : Instr), i.e = true ∧ (s.core i.c).bun = none ∧ (s.core i.c).slot = none ∧ CanTrap s i.c ∧ ((i.rs2 ≠ 0 ∧ n = 0 ∧ x = .abs i) ∨ (8 ≤ i.rd.toNat ∧ n = 0 ∧ x = .cmpEq i) ∨ (∃ f : BitVec 8, 8 ≤ f.toNat ∧ n = 0 ∧ x = .sel i f) ∨ (i.c.val < 4 ∧ n = 0 ∧ x = .sclr i) ∨ (4 ≤ i.c.val ∧ n = 1 ∧ x = .vand i) ∨ (∃ f : BitVec 8, 2 ≤ f.toNat ∧ n = 1 ∧ x = .vadd i f) ∨ (i.rd ≠ 0 ∧ n = 3 ∧ x = .fence 0 i) ∨ (4 ≤ i.c.val ∧ n = 3 ∧ x = .tend 0 i) ∨ ((s.core i.c).regs.estat.getLsbD 12 = false ∧ i.rd = 0 ∧ i.rs1 = 0 ∧ i.rs2 = 0 ∧ n = 3 ∧ x = .eret 0 i)) ∧ TakesWord s i.c n []) ∧
    (∃ (s : State) (i : RForm) (b : Bundle) (k : CoreSt), i.e = true ∧ i.c.val < 4 ∧ k = s.core i.c ∧ k.bun = some b ∧ k.slot = none ∧ k.ret = [] ∧ canIssue s i.c = true ∧ i.c.val < s.frw.core.length ∧ fetchFault s i.c (k.pc + 4 * b.words) = none ∧ progMeet s i.c (k.pc + 4 * b.words) 4 = s ∧ 1 ≤ b.words ∧ b.words ≤ 2 ∧ b.ill = none ∧ CanTrap s i.c) ∧
    (∃ (s : State) (i : RForm), i.e = true ∧ (s.core i.c).bun = none ∧ (s.core i.c).slot = none ∧ CanTrap s i.c ∧ i.rd = 0 ∧ i.rs1 = 0 ∧ i.rs2 = 0 ∧ TakesWord s i.c 3 []) ∧
    (∃ (s : State) (i : RForm), i.e = true ∧ (s.core i.c).bun = none ∧ (s.core i.c).regs.estat.getLsbD 12 = true ∧ i.rd = 0 ∧ i.rs1 = 0 ∧ i.rs2 = 0 ∧ TakesWord s i.c 3 [] ∧ i.c.val < 4 ∧ (∀ j < 16, depends s i.c j = false)) ∧
    (∃ (s : State) (i : RForm) (k : CoreSt), i.e = true ∧ k = s.core i.c ∧ k.bun = none ∧ k.slot = none ∧ k.regs.estat.getLsbD 12 = true ∧ i.rd = 0 ∧ i.rs1 = 0 ∧ i.rs2 = 0 ∧ TakesWord s i.c 3 [] ∧ Calm s i.c ∧ k.regs.estat.getLsbD 9 = false ∧ k.regs.estat.getLsbD 8 = false) ∧
    (∃ (s : State) (i : RForm) (k : CoreSt) (d : Transfer), i.e = true ∧ k = s.core i.c ∧ k.bun = none ∧ k.slot = none ∧ k.regs.estat.getLsbD 12 = true ∧ i.rd = 0 ∧ i.rs1 = 0 ∧ i.rs2 = 0 ∧ TakesWord s i.c 3 [] ∧ Calm s i.c ∧ k.regs.estat.getLsbD 9 = false ∧ k.regs.estat.getLsbD 8 = true ∧ k.replay = some d) ∧
    (∃ (s : State) (i : RForm), i.e = true ∧ (s.core i.c).bun = none ∧ (s.core i.c).slot = none ∧ TakesWord s i.c 3 [] ∧ i.rd = 0 ∧ i.rs1 = 0 ∧ i.rs2 = 0 ∧ i.c.val < 4 ∧ s.pstate = SERVICE) ∧
    (∃ (s : State) (i : RForm), i.e = true ∧ (s.core i.c).bun = none ∧ (s.core i.c).slot = none ∧ TakesWord s i.c 3 [] ∧ i.rd = 0 ∧ i.rs1 = 0 ∧ i.rs2 = 0 ∧ i.c.val = SENT ∧ s.pstate ≠ SENTRY) ∧
    (∃ (s : State) (i : RForm), i.e = true ∧ (s.core i.c).bun = none ∧ (s.core i.c).slot = none ∧ TakesWord s i.c 3 [] ∧ i.rd = 0 ∧ i.rs1 = 0 ∧ i.rs2 = 0 ∧ i.c.val < 4 ∧ s.pstate ≠ SERVICE ∧ (s.core i.c).buf = [] ∧ CanTrap s i.c) :=
  ⟨⟨withCore 1 { CoreSt.reset with regs := { CoreRegs.reset with evec := 512 } } withCores, ⟨1, true, 2, 3, 1⟩, 0, _, rfl, by decide +kernel, by decide +kernel, by unfold CanTrap; decide +kernel, .inl ⟨by decide, rfl, rfl⟩, by unfold TakesWord; decide +kernel⟩,
    ⟨withCore 1 { CoreSt.reset with regs := { CoreRegs.reset with evec := 512 } } withCores, ⟨1, true, 8, 3, 1⟩, 0, _, rfl, by decide +kernel, by decide +kernel, by unfold CanTrap; decide +kernel, .inr (.inl ⟨by decide, rfl, rfl⟩), by unfold TakesWord; decide +kernel⟩,
    ⟨withCore 1 { CoreSt.reset with regs := { CoreRegs.reset with evec := 512 } } withCores, ⟨1, true, 8, 3, 1⟩, 0, _, rfl, by decide +kernel, by decide +kernel, by unfold CanTrap; decide +kernel, .inr (.inr (.inl ⟨8, by decide, rfl, rfl⟩)), by unfold TakesWord; decide +kernel⟩,
    ⟨withCore 1 { CoreSt.reset with regs := { CoreRegs.reset with evec := 512 } } withCores, ⟨1, true, 0, 0, 0⟩, 0, _, rfl, by decide +kernel, by decide +kernel, by unfold CanTrap; decide +kernel, .inr (.inr (.inr (.inl ⟨by decide, rfl, rfl⟩))), by unfold TakesWord; decide +kernel⟩,
    ⟨withCore 4 { CoreSt.reset with regs := { CoreRegs.reset with evec := 512 } } withCores, ⟨4, true, 0, 0, 0⟩, 1, _, rfl, by decide +kernel, by decide +kernel, by unfold CanTrap; decide +kernel, .inr (.inr (.inr (.inr (.inl ⟨by decide, rfl, rfl⟩)))), by unfold TakesWord; decide +kernel⟩,
    ⟨withCore 1 { CoreSt.reset with regs := { CoreRegs.reset with evec := 512 } } withCores, ⟨1, true, 0, 0, 0⟩, 1, _, rfl, by decide +kernel, by decide +kernel, by unfold CanTrap; decide +kernel, .inr (.inr (.inr (.inr (.inr (.inl ⟨2, by decide, rfl, rfl⟩))))), by unfold TakesWord; decide +kernel⟩,
    ⟨withCore 1 { CoreSt.reset with regs := { CoreRegs.reset with evec := 512 } } withCores, ⟨1, true, 1, 0, 0⟩, 3, _, rfl, by decide +kernel, by decide +kernel, by unfold CanTrap; decide +kernel, .inr (.inr (.inr (.inr (.inr (.inr (.inl ⟨by decide, rfl, rfl⟩)))))), by unfold TakesWord; decide +kernel⟩,
    ⟨withCore 4 { CoreSt.reset with regs := { CoreRegs.reset with evec := 512 } } withCores, ⟨4, true, 0, 0, 0⟩, 3, _, rfl, by decide +kernel, by decide +kernel, by unfold CanTrap; decide +kernel, .inr (.inr (.inr (.inr (.inr (.inr (.inr (.inl ⟨by decide, rfl, rfl⟩))))))), by unfold TakesWord; decide +kernel⟩,
    ⟨withCore 1 { CoreSt.reset with regs := { CoreRegs.reset with evec := 512 } } withCores, ⟨1, true, 0, 0, 0⟩, 3, _, rfl, by decide +kernel, by decide +kernel, by unfold CanTrap; decide +kernel, .inr (.inr (.inr (.inr (.inr (.inr (.inr (.inr ⟨by decide +kernel, rfl, rfl, rfl, rfl, rfl⟩))))))), by unfold TakesWord; decide +kernel⟩,
    ⟨withCore 1 { CoreSt.reset with regs := { CoreRegs.reset with evec := 512 }, bun := some ⟨2, 3, true, none, [], none, false, { CoreRegs.reset with evec := 512 }⟩ } withCores, ⟨1, true, 0, 0, 0⟩, ⟨2, 3, true, none, [], none, false, { CoreRegs.reset with evec := 512 }⟩, _, by decide +kernel, by decide +kernel, rfl, rfl, rfl, rfl, by decide +kernel, by decide +kernel, rfl, by decide +kernel, by decide +kernel, by decide +kernel, by unfold CanTrap; decide +kernel⟩,
    ⟨withCore 1 { CoreSt.reset with regs := { CoreRegs.reset with evec := 512 } } withCores, ⟨1, true, 0, 0, 0⟩, by decide +kernel, by decide +kernel, by decide +kernel, by unfold CanTrap; decide +kernel, by decide +kernel, by decide +kernel, by decide +kernel, by unfold TakesWord; decide +kernel⟩,
    ⟨withCore 1 { CoreSt.reset with regs := { CoreRegs.reset with estat := 0x1000 } } withCores, ⟨1, true, 0, 0, 0⟩, by decide +kernel, by decide +kernel, by decide +kernel, by decide +kernel, by decide +kernel, by decide +kernel, by unfold TakesWord; decide +kernel, by decide +kernel⟩,
    ⟨withCore 1 { CoreSt.reset with regs := { CoreRegs.reset with estat := 0x1000 } } withCores, ⟨1, true, 0, 0, 0⟩, _, by decide +kernel, rfl, rfl, rfl, rfl, by decide +kernel, by decide +kernel, by decide +kernel, by unfold TakesWord; decide +kernel, calmF _ _ (by decide +kernel), rfl, rfl⟩,
    ⟨withCore 1 { CoreSt.reset with regs := { CoreRegs.reset with estat := 0x1100 }, replay := some ⟨0, 4, true, 64⟩ } withCores, ⟨1, true, 0, 0, 0⟩, _, ⟨0, 4, true, 64⟩, by decide +kernel, rfl, rfl, rfl, rfl, by decide +kernel, by decide +kernel, by decide +kernel, by unfold TakesWord; decide +kernel, calmF _ _ (by decide +kernel), rfl, rfl, rfl⟩,
    ⟨puts [(F.PWR_STATE_STATE, SERVICE)] withCores, ⟨1, true, 0, 0, 0⟩, by decide +kernel, by decide +kernel, by decide +kernel, by unfold TakesWord; decide +kernel, by decide +kernel⟩,
    ⟨withCores, ⟨4, true, 0, 0, 0⟩, by decide +kernel, by decide +kernel, by decide +kernel, by unfold TakesWord; decide +kernel, by decide +kernel⟩,
    ⟨withCore 1 { CoreSt.reset with regs := { CoreRegs.reset with evec := 512 } } withCores, ⟨1, true, 0, 0, 0⟩, by decide +kernel, by decide +kernel, by decide +kernel, by unfold TakesWord; decide +kernel, by decide +kernel, by decide +kernel, by decide +kernel, by decide +kernel, by decide +kernel, by decide +kernel, by unfold CanTrap; decide +kernel⟩⟩

theorem test_hypotheses_QueueFabric :
    (∃ (s : State) (n : Nat) (e : Nat) (l : List Nat), s.que.q.length = 64 ∧ queueOn s n = true ∧ s.coreRuns = true ∧ (s.queue n).infl = e :: l) ∧
    (∃ (s : State) (n : Nat), s.que.q.length = 64 ∧ (queueOn s n = false ∨ s.coreRuns = false ∨ (s.queue n).infl = [])) ∧
    (∃ (s : State) (n : Nat), s.que.q.length = 64 ∧ queueOn s n = true ∧ s.coreRuns = true ∧ 0 < (s.queue n).ret) ∧
    (∃ (s : State) (n : Nat), s.que.q.length = 64 ∧ (queueOn s n = false ∨ s.coreRuns = false ∨ (s.queue n).ret = 0)) ∧
    (∃ (s : State) (h : Nat), s.que.q.length = 64 ∧ h < 8 ∧ queueOn s (56 + h) = true) ∧
    (∃ (s : State) (h : Nat), s.que.q.length = 64 ∧ (8 ≤ h ∨ queueOn s (56 + h) = false)) ∧
    (∃ (s : State), s.que.q.length = 64 ∧ s.coreRuns = true ∧ s.awake = true) ∧
    (∃ (s : State), s.que.q.length = 64 ∧ (s.coreRuns = false ∨ s.awake = false)) :=
  ⟨⟨({ (puts [(F.CLK_STAT_LOCK, 1), (F.QUE_Qn_CFG_EN 5, 1)] inWatch) with que.q := queT 5 { QueueSt.reset with infl := [7] } } : State), 5, 7, [], by decide +kernel⟩,
    ⟨inWatch, 5, by decide +kernel⟩,
    ⟨({ (puts [(F.CLK_STAT_LOCK, 1), (F.QUE_Qn_CFG_EN 5, 1)] inWatch) with que.q := queT 5 { QueueSt.reset with ret := 1 } } : State), 5, by decide +kernel⟩,
    ⟨inWatch, 5, by decide +kernel⟩,
    ⟨({ (puts [(F.QUE_Qn_CFG_EN 63, 1)] inWatch) with que.q := queT 63 { QueueSt.reset with occ := [7, 8] } } : State), 7, by decide +kernel⟩,
    ⟨inWatch, 1, by decide +kernel⟩,
    ⟨puts [(F.CLK_STAT_LOCK, 1), (F.PWR_STATE_STATE, WATCH)] inWatch, by decide +kernel⟩,
    ⟨State.reset, by decide +kernel⟩⟩

theorem test_hypotheses_InterruptDelivery :
    (∃ (s : State) (n : Nat), sourceExists n = true ∧ (s.pstate ≠ OFF ∨ s.pwr.offResp = true)) ∧
    (∃ (s : State) (n : Nat), (sourceExists n = false ∨ (s.pstate = OFF ∧ s.pwr.offResp = false))) ∧
    (∃ (s : State) (g : Nat) (n : Nat) (u : Nat), g < 16 ∧ s.clk.present = true ∧ s.clk.phase = .run ∧ s.int.redeliver = [] ∧ s.get (F.INT_Gg_ST_HOLD g) = 0 ∧ (groupSources g).filter (intWaiting s) = [n] ∧ intTarget s n = some u) ∧
    (∃ (s : State) (g : Nat) (n : Nat) (u : Nat), g < 16 ∧ s.clk.present = true ∧ s.clk.phase = .run ∧ s.int.redeliver = [] ∧ s.get (F.INT_Gg_ST_HOLD g) = 0 ∧ s.get (F.INT_Gg_CFG_FALLOW g) ≠ 0 ∧ n ∈ groupSources g ∧ intWaiting s n = true ∧ intTarget s n = some u ∧ (∀ m ∈ groupSources g, n < m → intWaiting s m = true → intTarget s m = none)) ∧
    (∃ (s : State) (g : Nat), g < 16 ∧ s.clk.present = true ∧ s.clk.phase = .run ∧ s.int.redeliver = [] ∧ s.get (F.INT_Gg_ST_HOLD g) = 0 ∧ s.get (F.INT_Gg_CFG_FALLOW g) = 0) ∧
    (∃ (s : State) (g : Nat) (n : Nat) (u : Nat), g < 16 ∧ s.clk.present = true ∧ s.clk.phase = .run ∧ n ∈ s.int.redeliver ∧ n ∈ groupSources g ∧ intWaiting s n = true ∧ intTarget s n = some u ∧ s.get (F.INT_Gg_ST_HOLD g) ≠ 0) ∧
    (∃ (s : State) (g : Nat), (16 ≤ g ∨ s.clk.present = false ∨ s.clk.phase ≠ .run ∨ (s.int.redeliver = [] ∧ s.get (F.INT_Gg_ST_HOLD g) ≠ 0) ∨ (s.int.redeliver = [] ∧ ∀ n ∈ groupSources g, intWaiting s n = false ∨ intTarget s n = none))) ∧
    (∃ (s : State) (n : Nat) (u : Nat) (k : Nat) (j : Nat), j < k ∧ intTarget s n = some u ∧ k < 5 ∧ u = (s.get (F.INT_Gg_ST_PTR (n / 8)) + 1 + k) % 5) ∧
    (∃ (s : State) (g : Nat), g < 16 ∧ s.clk.present = true ∧ s.get (F.INT_Gg_ST_HOLD g) ≠ 0 ∧ s.int.redeliver = [] ∧ (∀ n ∈ groupSources g, intWaiting s n = false)) ∧
    (∃ (s : State) (g : Nat), g < 16 ∧ s.clk.present = true ∧ s.get (F.INT_Gg_ST_HOLD g) ≠ 0) ∧
    (∃ (s : State) (g : Nat), (16 ≤ g ∨ s.clk.present = false ∨ s.get (F.INT_Gg_ST_HOLD g) = 0)) ∧
    (∃ (s : State) (u : Nat) (n : Nat) (l : List Nat), u < 5 ∧ intClaimable s u = n :: l) ∧
    (∃ (s : State) (u : Nat), (intClaimable s u = [] ∨ 5 ≤ u)) ∧
    (∃ (s : State) (w : Nat), w < 4) ∧
    (∃ (s : State) (w : Nat), 4 ≤ w) ∧
    (∃ (s : State), s.pstate ≠ OFF) ∧
    (∃ (s : State), s.pstate = OFF) :=
  ⟨⟨(puts [(⟨A.INT_ENt_w 4 0, 9, 1⟩, 1)] inWatch), 9, by decide +kernel⟩,
    ⟨(puts [(⟨A.INT_ENt_w 4 0, 9, 1⟩, 1)] inWatch), 8, by decide +kernel⟩,
    ⟨({ (puts [(F.INT_Gg_ST_HOLD 1, 0), (F.INT_SRCs_PEND 9, 1), (F.INT_SRCs_DTGT 9, 7)] (puts [(⟨A.INT_ENt_w 4 0, 9, 1⟩, 1)] inWatch)) with clk.present := true, clk.phase := .run, int.redeliver := [] } : State), 1, 9, 4, by decide +kernel⟩,
    ⟨({ (puts [(F.INT_Gg_ST_HOLD 1, 0), (F.INT_SRCs_PEND 9, 1), (F.INT_SRCs_DTGT 9, 7), (F.INT_Gg_CFG_FALLOW 1, 5), (F.INT_SRCs_PEND 14, 1), (F.INT_SRCs_DTGT 14, 7)] (puts [(⟨A.INT_ENt_w 4 0, 9, 1⟩, 1)] inWatch)) with clk.present := true, clk.phase := .run, int.redeliver := [] } : State), 1, 9, 4, by decide +kernel⟩,
    ⟨({ (puts [(F.INT_Gg_ST_HOLD 1, 0), (F.INT_SRCs_PEND 9, 1), (F.INT_SRCs_DTGT 9, 7), (F.INT_SRCs_PEND 10, 1), (F.INT_SRCs_DTGT 10, 7), (⟨A.INT_ENt_w 4 0, 10, 1⟩, 1)] (puts [(⟨A.INT_ENt_w 4 0, 9, 1⟩, 1)] inWatch)) with clk.present := true, clk.phase := .run, int.redeliver := [] } : State), 1, by decide +kernel⟩,
    ⟨({ (puts [(F.INT_Gg_ST_HOLD 1, 5), (F.INT_SRCs_PEND 9, 1), (F.INT_SRCs_DTGT 9, 7)] (puts [(⟨A.INT_ENt_w 4 0, 9, 1⟩, 1)] inWatch)) with clk.present := true, clk.phase := .run, int.redeliver := [9] } : State), 1, 9, 4, by decide +kernel⟩,
    ⟨({ (puts [(F.INT_Gg_ST_HOLD 1, 5), (F.INT_SRCs_PEND 9, 1), (F.INT_SRCs_DTGT 9, 7)] (puts [(⟨A.INT_ENt_w 4 0, 9, 1⟩, 1)] inWatch)) with clk.present := true, clk.phase := .run, int.redeliver := [] } : State), 1, by decide +kernel⟩,
    ⟨puts [(F.INT_Gg_ST_PTR 1, 4)] (puts [(⟨A.INT_ENt_w 4 0, 9, 1⟩, 1)] inWatch), 9, 4, 4, 3, by decide +kernel⟩,
    ⟨({ (puts [(F.INT_Gg_ST_HOLD 1, 1)] (puts [(⟨A.INT_ENt_w 4 0, 9, 1⟩, 1)] inWatch)) with clk.present := true, int.redeliver := [] } : State), 1, by decide +kernel⟩,
    ⟨({ (puts [(F.INT_Gg_ST_HOLD 1, 5), (F.INT_SRCs_PEND 9, 1), (F.INT_SRCs_DTGT 9, 7)] (puts [(⟨A.INT_ENt_w 4 0, 9, 1⟩, 1)] inWatch)) with clk.present := true, clk.phase := .run, int.redeliver := [9] } : State), 1, by decide +kernel⟩,
    ⟨(puts [(⟨A.INT_ENt_w 4 0, 9, 1⟩, 1)] inWatch), 1, by decide +kernel⟩,
    ⟨({ (puts [(F.INT_SRCs_PEND 9, 1)] (puts [(⟨A.INT_ENt_w 4 0, 9, 1⟩, 1)] inWatch)) with int.redeliver := [9, 3] } : State), 4, 9, [], by decide +kernel⟩,
    ⟨(puts [(⟨A.INT_ENt_w 4 0, 9, 1⟩, 1)] inWatch), 4, by decide +kernel⟩,
    ⟨puts [(F.INT_SRCs_PEND 9, 1), (F.INT_SRCs_PEND 33, 1)] (puts [(⟨A.INT_ENt_w 4 0, 9, 1⟩, 1)] inWatch), 1, by decide +kernel⟩,
    ⟨(puts [(⟨A.INT_ENt_w 4 0, 9, 1⟩, 1)] inWatch), 4, by decide +kernel⟩,
    ⟨(puts [(⟨A.INT_ENt_w 4 0, 9, 1⟩, 1)] inWatch), by decide +kernel⟩,
    ⟨State.reset, by decide +kernel⟩⟩

theorem test_hypotheses_AdcConversions :
    (∃ (s : State) (x : Fin 2) (e : Nat) (ref : Bool) (tick : Nat), s.adc.x.length = 2 ∧ adcRuns s = true ∧ (s.adcx x).conv = some (.urgent, e, ref, tick) ∧ e < 16 ∧ tick < 2 ^ 24 ∧ (s.adcx x).take = []) ∧
    (∃ (s : State) (x : Fin 2), s.adc.x.length = 2 ∧ ((s.adcx x).conv = none ∨ adcRuns s = false)) ∧
    (∃ (s : State) (x : Fin 2) (tick : Nat) (ref : Bool), s.adc.x.length = 2 ∧ adcRuns s = true ∧ (s.adcx x).conv = some (.cal, 0, ref, tick) ∧ s.adc.self = true ∧ (s.adcx x).calN < 1023 ∧ (s.adcx x).take = []) ∧
    (∃ (s : State) (x : Fin 2) (tick : Nat) (ref : Bool), s.adc.x.length = 2 ∧ adcRuns s = true ∧ (s.adcx x).conv = some (.cal, 0, ref, tick) ∧ s.adc.self = true ∧ 1024 ≤ (s.adcx x).calN ∧ (s.adcx x).calN < 2047 ∧ (s.adcx x).take = []) ∧
    (∃ (s : State) (x : Fin 2) (tick : Nat) (ref : Bool) (y : Fin 2), s.adc.x.length = 2 ∧ y ≠ x ∧ adcRuns s = true ∧ (s.adcx x).conv = some (.cal, 0, ref, tick) ∧ s.adc.self = true ∧ (s.adcx x).calN = 2047 ∧ (s.adcx y).calN = 2048 ∧ s.pwr.start = none ∧ s.pwr.trans = none) ∧
    (∃ (s : State) (x : Fin 2) (raw : BitVec 12) (tick : Nat) (ref : Bool) (y : Fin 2) (f : Int) (g : Nat), s.adc.x.length = 2 ∧ y ≠ x ∧ adcRuns s = true ∧ (s.adcx x).conv = some (.cal, 0, ref, tick) ∧ s.adc.self = true ∧ (s.adcx x).calN = 2047 ∧ (s.adcx y).calN = 2048 ∧ s.pwr.start = none ∧ s.pwr.trans = none ∧ selfFactors (s.adcx x).cal0 ((s.adcx x).cal1 + raw.toNat) = some (f, g) ∧ (selfFactors (s.adcx y).cal0 (s.adcx y).cal1).isSome = true ∧ adcRef s < 3) ∧
    (∃ (s : State) (x : Fin 2) (tick : Nat) (e : Nat) (ref : Bool), s.adc.x.length = 2 ∧ adcRuns s = true ∧ (s.adcx x).conv = some (.scan, e, ref, tick) ∧ e < 16 ∧ (s.adcx x).take = []) ∧
    (∃ (s : State) (x : Fin 2) (tick : Nat) (e : Nat) (ref : Bool), s.adc.x.length = 2 ∧ adcRuns s = true ∧ (s.adcx x).conv = some (.scan, e, ref, tick) ∧ e < 16 ∧ (s.adcx x).take = [] ∧ s.flag (F.ADC_x_ENTe_CFG_LED x e) = true ∧ s.get (F.ADC_x_ENTe_LCNT_COUNT x e) < 0xFFFFF) ∧
    (∃ (s : State) (x : Fin 2) (tick : Nat) (st : Nat) (e : Nat) (n : Nat) (sum : Int) (ref : Bool), s.adc.x.length = 2 ∧ adcRuns s = true ∧ (s.adcx x).conv = some (.sys, e, ref, tick) ∧ (s.adcx x).sys = some (st, e, n, sum) ∧ n < 255 ∧ (s.adcx x).take = []) ∧
    (∃ (s : State) (x : Fin 2), s.adc.x.length = 2 ∧ s.awake = true ∧ s.get (F.ADC_x_CTL_MODE x) = 2 ∧ ((s.adcx x).scan.isSome = true ∨ (s.adcx x).start = true) ∧ s.flag (F.ADC_x_STAT_TPEND x) = false) ∧
    (∃ (s : State) (x : Fin 2), s.adc.x.length = 2 ∧ s.awake = true ∧ s.get (F.ADC_x_CTL_MODE x) = 2 ∧ s.flag (F.ADC_x_STAT_TPEND x) = true) ∧
    (∃ (s : State) (x : Fin 2), s.adc.x.length = 2 ∧ s.awake = true ∧ s.get (F.ADC_x_CTL_MODE x) = 2 ∧ (s.adcx x).scan = none ∧ (s.adcx x).start = false ∧ s.flag (F.ADC_x_STAT_TPEND x) = false) ∧
    (∃ (s : State) (x : Fin 2), s.adc.x.length = 2 ∧ s.awake = true ∧ s.get (F.ADC_x_CTL_MODE x) = 2 ∧ (s.adcx x).scan = none ∧ (s.adcx x).start = false ∧ s.flag (F.ADC_x_STAT_TPEND x) = false ∧ (s.adcx x).conv.isSome = true) ∧
    (∃ (s : State) (x : Fin 2), s.adc.x.length = 2 ∧ (s.get (F.ADC_x_CTL_MODE x) ≠ 2 ∨ s.awake = false)) ∧
    (∃ (s : State) (x : Fin 2), s.adc.x.length = 2 ∧ s.awake = true ∧ adcRuns s = true ∧ (s.adcx x).urg = none ∧ (s.adcx x).take = []) ∧
    (∃ (s : State) (x : Fin 2), s.adc.x.length = 2 ∧ s.awake = true ∧ adcRuns s = true ∧ (s.adcx x).urg.isSome = true) ∧
    (∃ (s : State), s.adc.x.length = 2 ∧ (s.awake = false ∨ adcRuns s = false)) ∧
    (∃ (s : State) (x : Fin 2), s.adc.x.length = 2 ∧ s.awake = true ∧ (s.adcx x).take = [] ∧ (s.adcx x).conv = none) ∧
    (∃ (s : State) (x : Fin 2), s.adc.x.length = 2 ∧ s.awake = true ∧ (s.adcx x).take = [] ∧ (s.adcx x).conv.isSome = true) ∧
    (∃ (s : State), s.adc.x.length = 2 ∧ s.awake = false) ∧
    (∃ (s : State) (x : Fin 2), s.adc.x.length = 2 ∧ s.awake = true ∧ (s.adcx x).q.length ≤ 64) ∧
    (∃ (s : State) (sel : Fin 3) (refen : Bool), s.adc.x.length = 2 ∧ s.awake = true ∧ (sel.val ≠ adcRef s ∨ (s.flag F.ADC_REF_REFEN = true ∧ refen = false))) ∧
    (∃ (s : State) (sel : Fin 3) (refen : Bool), s.adc.x.length = 2 ∧ s.awake = true ∧ sel.val = adcRef s ∧ (s.flag F.ADC_REF_REFEN = false ∨ refen = true)) ∧
    (∃ (s : State) (good : Bool), s.adc.x.length = 2 ∧ adcRuns s = true ∧ refSettles s = true ∧ (good = true ∨ s.adc.settled = false)) ∧
    (∃ (s : State) (good : Bool), s.adc.x.length = 2 ∧ (adcRuns s = false ∨ refSettles s = false ∨ (good = false ∧ s.adc.settled = true))) ∧
    (∃ (s : State), s.adc.x.length = 2 ∧ s.flag F.ADC_REF_REFOK = true) ∧
    (∃ (s : State), s.adc.x.length = 2 ∧ s.flag F.ADC_REF_REFOK = false) :=
  ⟨⟨({ inWatch with adc.x := adcT 1 { AdcConv.reset with conv := some (.urgent, 15, true, 9) } } : State), 1, 15, true, 9, by decide +kernel⟩,
    ⟨inWatch, 1, by decide +kernel⟩,
    ⟨({ inWatch with adc.self := true, adc.x := adcT 1 { AdcConv.reset with conv := some (.cal, 0, true, 9) } } : State), 1, 9, true, by decide +kernel⟩,
    ⟨({ inWatch with adc.self := true, adc.x := adcT 1 { AdcConv.reset with conv := some (.cal, 0, true, 9), calN := 2046 } } : State), 1, 9, true, by decide +kernel⟩,
    ⟨({ inWatch with adc.self := true, adc.x := [{ AdcConv.reset with calN := 2048 }, { AdcConv.reset with conv := some (.cal, 0, true, 9), calN := 2047 }] } : State), 1, 9, true, 0, by decide +kernel⟩,
    ⟨({ inWatch with adc.self := true, adc.x := [{ AdcConv.reset with calN := 2048, cal0 := 0, cal1 := 3072 * 1024 }, { AdcConv.reset with conv := some (.cal, 0, true, 9), calN := 2047, cal0 := 0, cal1 := 3072 * 1024 - 5 }] } : State), 1, 5, 9, true, 0, 0, 0x4000, by decide +kernel⟩,
    ⟨({ inWatch with adc.x := adcT 1 { AdcConv.reset with conv := some (.scan, 15, true, 9), scan := some [15] } } : State), 1, 9, 15, true, by decide +kernel⟩,
    ⟨({ (puts [(F.ADC_x_ENTe_CFG_LED 1 15, 1), (F.ADC_x_ENTe_LCNT_COUNT 1 15, 0xFFFFE)] inWatch) with adc.x := adcT 1 { AdcConv.reset with conv := some (.scan, 15, true, 9), scan := some [15] } } : State), 1, 9, 15, true, by decide +kernel⟩,
    ⟨({ inWatch with adc.x := adcT 1 { AdcConv.reset with conv := some (.sys, 15, true, 9), sys := some (1, 15, 254, 7) } } : State), 1, 9, 1, 15, 254, 7, true, by decide +kernel⟩,
    ⟨({ (puts [(F.PWR_STATE_STATE, WATCH), (F.ADC_x_CTL_MODE 1, 2), (F.ADC_x_STAT_TPEND 1, 0)] inWatch) with adc.x := adcT 1 { AdcConv.reset with scan := some [1] } } : State), 1, by decide +kernel⟩,
    ⟨(puts [(F.PWR_STATE_STATE, WATCH), (F.ADC_x_CTL_MODE 1, 2), (F.ADC_x_STAT_TPEND 1, 1)] inWatch), 1, by decide +kernel⟩,
    ⟨(puts [(F.PWR_STATE_STATE, WATCH), (F.ADC_x_CTL_MODE 1, 2), (F.ADC_x_STAT_TPEND 1, 0)] inWatch), 1, by decide +kernel⟩,
    ⟨({ (puts [(F.PWR_STATE_STATE, WATCH), (F.ADC_x_CTL_MODE 1, 2), (F.ADC_x_STAT_TPEND 1, 0)] inWatch) with adc.x := adcT 1 { AdcConv.reset with conv := some (.urgent, 15, true, 9) } } : State), 1, by decide +kernel⟩,
    ⟨puts [(F.ADC_x_CTL_MODE 1, 3)] inWatch, 1, by decide +kernel⟩,
    ⟨({ inWatch with adc.x := adcT 1 { AdcConv.reset with conv := some (.scan, 3, true, 9) } } : State), 1, by decide +kernel⟩,
    ⟨({ (puts [(F.PWR_STATE_STATE, WATCH)] inWatch) with adc.x := adcT 1 { AdcConv.reset with urg := some 1 } } : State), 1, by decide +kernel⟩,
    ⟨State.reset, by decide +kernel⟩,
    ⟨inWatch, 1, by decide +kernel⟩,
    ⟨({ inWatch with adc.x := adcT 1 { AdcConv.reset with conv := some (.urgent, 15, true, 9) } } : State), 1, by decide +kernel⟩,
    ⟨State.reset, by decide +kernel⟩,
    ⟨inWatch, 1, by decide +kernel⟩,
    ⟨inWatch, 2, true, by decide +kernel⟩,
    ⟨inWatch, 0, true, by decide +kernel⟩,
    ⟨puts [(F.ADC_REF_REFEN, 1)] inWatch, true, by decide +kernel⟩,
    ⟨State.reset, true, by decide +kernel⟩,
    ⟨puts [(F.ADC_REF_REFOK, 1)] inWatch, by decide +kernel⟩,
    ⟨inWatch, by decide +kernel⟩⟩

theorem test_hypotheses_AdcCalibration :
    (∃ (s : State), s.adc.x.length = 2 ∧ s.awake = false) ∧
    (∃ (s : State), s.adc.x.length = 2 ∧ s.awake = true ∧ s.adc.self = true) ∧
    (∃ (s : State), s.adc.x.length = 2 ∧ s.awake = true ∧ s.adc.self = false ∧ armedRules s = true) ∧
    (∃ (s : State), s.adc.x.length = 2 ∧ s.awake = true ∧ s.adc.self = false ∧ armedRules s = false ∧ s.flag F.ADC_REF_REFOK = false) ∧
    (∃ (s : State), s.adc.x.length = 2 ∧ s.awake = true ∧ s.adc.self = false ∧ armedRules s = false ∧ s.flag F.ADC_REF_REFOK = true) ∧
    (∃ (s : State), s.adc.x.length = 2 ∧ s.awake = true ∧ armedRules s = true) ∧
    (∃ (s : State) (x : Fin 2), s.adc.x.length = 2 ∧ s.awake = true ∧ armedRules s = false ∧ ((s.adcx x).sys.isSome = true ∨ s.adc.self = true)) ∧
    (∃ (s : State) (x : Fin 2), s.adc.x.length = 2 ∧ s.awake = true ∧ armedRules s = false ∧ (s.adcx x).sys = none ∧ s.adc.self = false) ∧
    (∃ (s : State) (x : Fin 2), s.adc.x.length = 2 ∧ s.awake = true ∧ armedRules s = false ∧ (s.adcx x).sys = none ∧ s.adc.self = false ∧ (s.get (F.ADC_x_SYSCODE_F x) ≤ s.get (F.ADC_x_SYSCODE_Z x) ∨ s.getI (F.ADC_x_SYSU1_U1 x) - s.getI (F.ADC_x_SYSU0_U0 x) < 1024)) ∧
    (∃ (s : State) (x : Fin 2) (g : Int) (z : Int) (f : Int) (u0 : Int) (u1 : Int), s.adc.x.length = 2 ∧ s.awake = true ∧ armedRules s = false ∧ (s.adcx x).sys = none ∧ s.adc.self = false ∧ z = s.get (F.ADC_x_SYSCODE_Z x) ∧ f = s.get (F.ADC_x_SYSCODE_F x) ∧ u0 = s.getI (F.ADC_x_SYSU0_U0 x) ∧ u1 = s.getI (F.ADC_x_SYSU1_U1 x) ∧ z < f ∧ 1024 ≤ u1 - u0 ∧ g = (2 * (2 ^ 18 * (f - z)) + (u1 - u0)) / (2 * (u1 - u0)) ∧ (g < 0x2000 ∨ 0x10000 < g)) ∧
    (∃ (s : State) (x : Fin 2) (g : Int) (y : Int) (z : Int) (f : Int) (u0 : Int) (u1 : Int), s.adc.x.length = 2 ∧ s.awake = true ∧ armedRules s = false ∧ (s.adcx x).sys = none ∧ s.adc.self = false ∧ z = s.get (F.ADC_x_SYSCODE_Z x) ∧ f = s.get (F.ADC_x_SYSCODE_F x) ∧ u0 = s.getI (F.ADC_x_SYSU0_U0 x) ∧ u1 = s.getI (F.ADC_x_SYSU1_U1 x) ∧ z < f ∧ 1024 ≤ u1 - u0 ∧ g = (2 * (2 ^ 18 * (f - z)) + (u1 - u0)) / (2 * (u1 - u0)) ∧ 0x2000 ≤ g ∧ g ≤ 0x10000 ∧ y = u0 - (2 * (z * 2 ^ 18) + g) / (2 * g)) ∧
    (∃ (s : State) (x : Fin 2) (g : Int) (y : Int) (z : Int) (f : Int) (u0 : Int) (u1 : Int), s.adc.x.length = 2 ∧ s.awake = true ∧ armedRules s = false ∧ (s.adcx x).sys = none ∧ s.adc.self = false ∧ z = s.get (F.ADC_x_SYSCODE_Z x) ∧ f = s.get (F.ADC_x_SYSCODE_F x) ∧ u0 = s.getI (F.ADC_x_SYSU0_U0 x) ∧ u1 = s.getI (F.ADC_x_SYSU1_U1 x) ∧ z < f ∧ 1024 ≤ u1 - u0 ∧ g = (2 * (2 ^ 18 * (f - z)) + (u1 - u0)) / (2 * (u1 - u0)) ∧ 0x2000 ≤ g ∧ g ≤ 0x10000 ∧ y = u0 - (2 * (z * 2 ^ 18) + g) / (2 * g) ∧ -131072 ≤ y ∧ y ≤ 131071) :=
  ⟨⟨State.reset, by decide +kernel⟩,
    ⟨({ (puts [(F.PWR_STATE_STATE, WATCH)] inWatch) with adc.self := true } : State), by decide +kernel⟩,
    ⟨puts [(F.PWR_STATE_STATE, WATCH), (F.SAF_ARM_REQ, 1)] inWatch, by decide +kernel⟩,
    ⟨puts [(F.PWR_STATE_STATE, WATCH), (F.ADC_REF_REFOK, 0)] inWatch, by decide +kernel⟩,
    ⟨puts [(F.PWR_STATE_STATE, WATCH), (F.ADC_REF_REFOK, 1)] inWatch, by decide +kernel⟩,
    ⟨puts [(F.PWR_STATE_STATE, WATCH), (F.SAF_ST_ARMED, 1)] inWatch, by decide +kernel⟩,
    ⟨({ (puts [(F.PWR_STATE_STATE, WATCH)] inWatch) with adc.self := true } : State), 0, by decide +kernel⟩,
    ⟨puts [(F.PWR_STATE_STATE, WATCH)] inWatch, 1, by decide +kernel⟩,
    ⟨puts [(F.PWR_STATE_STATE, WATCH)] inWatch, 0, by decide +kernel⟩,
    ⟨puts [(F.PWR_STATE_STATE, WATCH), (F.ADC_x_SYSCODE_Z 0, 1000), (F.ADC_x_SYSCODE_F 0, 1999), (F.ADC_x_SYSU0_U0 0, 0), (F.ADC_x_SYSU1_U1 0, 32000)] inWatch, 0, 8184, 1000, 1999, 0, 32000, by decide +kernel⟩,
    ⟨puts [(F.PWR_STATE_STATE, WATCH), (F.ADC_x_SYSCODE_Z 0, 1000), (F.ADC_x_SYSCODE_F 0, 3000), (F.ADC_x_SYSU0_U0 0, 0), (F.ADC_x_SYSU1_U1 0, 32000)] inWatch, 0, 16384, -16000, 1000, 3000, 0, 32000, by decide +kernel⟩,
    ⟨puts [(F.PWR_STATE_STATE, WATCH), (F.ADC_x_SYSCODE_Z 0, 1000), (F.ADC_x_SYSCODE_F 0, 3000), (F.ADC_x_SYSU0_U0 0, 0), (F.ADC_x_SYSU1_U1 0, 32000)] inWatch, 0, 16384, -16000, 1000, 3000, 0, 32000, by decide +kernel⟩⟩

theorem test_hypotheses_MonitorRows :
    (∃ (s : State), s.mon.crit.length = 4 ∧ s.mon.frz.length = 2 ∧ s.mon.runs.length = 4 ∧ monRuns s = true) ∧
    (∃ (s : State), s.mon.crit.length = 4 ∧ s.mon.frz.length = 2 ∧ s.mon.runs.length = 4 ∧ monRuns s = false) ∧
    (∃ (s : State) (v : Fin 8) (a : BitVec 16) (b : BitVec 16) (c : BitVec 16) (d : BitVec 16), s.mon.crit.length = 4 ∧ s.mon.frz.length = 2 ∧ s.mon.runs.length = 4 ∧ monRuns s = true ∧ s.bitOf F.MON_ST_VOUT v = false ∧ (∀ x ∈ [a, b, c, d], railInside s v x.toNat = false)) ∧
    (∃ (s : State) (v : Fin 8) (a : BitVec 16) (b : BitVec 16) (c : BitVec 16) (d : BitVec 16), s.mon.crit.length = 4 ∧ s.mon.frz.length = 2 ∧ s.mon.runs.length = 4 ∧ (monRuns s = false ∨ s.bitOf F.MON_ST_VOUT v = true ∨ (∃ x ∈ [a, b, c, d], railInside s v x.toNat = true))) ∧
    (∃ (s : State) (v : Fin 8) (a : BitVec 16) (b : BitVec 16), s.mon.crit.length = 4 ∧ s.mon.frz.length = 2 ∧ s.mon.runs.length = 4 ∧ monRuns s = true ∧ s.bitOf F.MON_ST_VOUT v = true ∧ railInside s v a.toNat = true ∧ railInside s v b.toNat = true) ∧
    (∃ (s : State) (l : List (BitVec 20)), s.mon.crit.length = 4 ∧ s.mon.frz.length = 2 ∧ s.mon.runs.length = 4 ∧ monRuns s = true ∧ l.length = 12) ∧
    (∃ (s : State) (b : PmbTr) (l : List PmbTr), s.mon.crit.length = 4 ∧ s.mon.frz.length = 2 ∧ s.mon.runs.length = 4 ∧ s.mon.bus = b :: l ∧ b.cmd ≠ PMB_STATUS) ∧
    (∃ (s : State) (r : Fin 4) (b : PmbTr) (l : List PmbTr), s.mon.crit.length = 4 ∧ s.mon.frz.length = 2 ∧ s.mon.runs.length = 4 ∧ r ≠ 0 ∧ s.mon.bus = b :: l ∧ b.tries < 2) ∧
    (∃ (s : State) (r : Fin 4) (b : PmbTr) (l : List PmbTr), s.mon.crit.length = 4 ∧ s.mon.frz.length = 2 ∧ s.mon.runs.length = 4 ∧ r ≠ 0 ∧ s.mon.bus = b :: l ∧ 2 ≤ b.tries) ∧
    (∃ (s : State), s.mon.crit.length = 4 ∧ s.mon.frz.length = 2 ∧ s.mon.runs.length = 4 ∧ s.mon.bus = []) ∧
    (∃ (s : State) (b : Bool), s.mon.crit.length = 4 ∧ s.mon.frz.length = 2 ∧ s.mon.runs.length = 4 ∧ pmbReady s b = true) ∧
    (∃ (s : State) (b : Bool), s.mon.crit.length = 4 ∧ s.mon.frz.length = 2 ∧ s.mon.runs.length = 4 ∧ pmbReady s b = false) ∧
    (∃ (s : State) (n : BitVec 8) (v : Nat), s.mon.crit.length = 4 ∧ s.mon.frz.length = 2 ∧ s.mon.runs.length = 4 ∧ s.clk.present = true ∧ (s.pstate = SENTRY ∨ monRuns s = true) ∧ n ≠ 0 ∧ frozen s L_SENT = false ∧ v = s.get F.MON_SAVS_ST_VSET ∧ s.get F.MON_SAVS_CFG_VMIN ≤ v ∧ v ≤ s.get F.MON_SAVS_CFG_VMAX) ∧
    (∃ (s : State) (c : Nat) (v : Nat), s.mon.crit.length = 4 ∧ s.mon.frz.length = 2 ∧ s.mon.runs.length = 4 ∧ s.clk.present = true ∧ monRuns s = true ∧ ringMin s = some c ∧ frozen s L_CORE = false ∧ s.mon.skip ≤ 1 ∧ v = s.get F.MON_CAVS_ST_VSET ∧ c < s.get F.MON_CAVS_TGT_TGT ∧ s.get F.MON_CAVS_CFG_VMIN ≤ v ∧ v ≤ s.get F.MON_CAVS_CFG_VMAX) ∧
    (∃ (s : State), s.mon.crit.length = 4 ∧ s.mon.frz.length = 2 ∧ s.mon.runs.length = 4 ∧ s.pstate = SERVICE ∧ s.get F.MON_CAVS_CFG_VMIN ≤ s.get F.MON_CAVS_CFG_VMAX) ∧
    (∃ (s : State), s.mon.crit.length = 4 ∧ s.mon.frz.length = 2 ∧ s.mon.runs.length = 4 ∧ s.pstate ≠ SERVICE) ∧
    (∃ (s : State), s.mon.crit.length = 4 ∧ s.mon.frz.length = 2 ∧ s.mon.runs.length = 4 ∧ s.flag F.MON_ST_PMERR = true) ∧
    (∃ (s : State), s.mon.crit.length = 4 ∧ s.mon.frz.length = 2 ∧ s.mon.runs.length = 4 ∧ s.flag F.MON_ST_PMERR = false) ∧
    (∃ (s : State), s.mon.crit.length = 4 ∧ s.mon.frz.length = 2 ∧ s.mon.runs.length = 4 ∧ (s.clk.present = false ∨ monRuns s = false)) ∧
    (∃ (s : State), s.mon.crit.length = 4 ∧ s.mon.frz.length = 2 ∧ s.mon.runs.length = 4 ∧ s.clk.present = true ∧ monRuns s = true ∧ (ringMin s = none ∨ frozen s L_CORE = true ∨ 2 ≤ s.mon.skip)) ∧
    (∃ (s : State) (c : Nat) (v : Nat), s.mon.crit.length = 4 ∧ s.mon.frz.length = 2 ∧ s.mon.runs.length = 4 ∧ s.clk.present = true ∧ monRuns s = true ∧ ringMin s = some c ∧ frozen s L_CORE = false ∧ s.mon.skip ≤ 1 ∧ v = s.get F.MON_CAVS_ST_VSET ∧ s.get F.MON_CAVS_TGT_TGT ≤ c ∧ (256 * c ≤ s.get F.MON_CAVS_TGT_TGT * (256 + s.get F.MON_CAVS_STEP_HYS) ∨ Nat.min 255 (s.mon.cDown + 1) < s.get F.MON_CAVS_STEP_DWAIT) ∧ s.get F.MON_CAVS_CFG_VMIN ≤ v ∧ v ≤ s.get F.MON_CAVS_CFG_VMAX) ∧
    (∃ (s : State) (c : Nat) (v : Nat), s.mon.crit.length = 4 ∧ s.mon.frz.length = 2 ∧ s.mon.runs.length = 4 ∧ s.clk.present = true ∧ monRuns s = true ∧ ringMin s = some c ∧ frozen s L_CORE = false ∧ s.mon.skip ≤ 1 ∧ v = s.get F.MON_CAVS_ST_VSET ∧ s.get F.MON_CAVS_TGT_TGT * (256 + s.get F.MON_CAVS_STEP_HYS) < 256 * c ∧ s.get F.MON_CAVS_STEP_DWAIT ≤ Nat.min 255 (s.mon.cDown + 1) ∧ s.get F.MON_CAVS_CFG_VMIN ≤ v ∧ v ≤ s.get F.MON_CAVS_CFG_VMAX) ∧
    (∃ (s : State), s.mon.crit.length = 4 ∧ s.mon.frz.length = 2 ∧ s.mon.runs.length = 4 ∧ (s.clk.present = false ∨ (s.pstate ≠ SENTRY ∧ monRuns s = false))) ∧
    (∃ (s : State) (m : Bool) (v : Nat), s.mon.crit.length = 4 ∧ s.mon.frz.length = 2 ∧ s.mon.runs.length = 4 ∧ s.clk.present = true ∧ (s.pstate = SENTRY ∨ monRuns s = true) ∧ frozen s L_SENT = false ∧ v = s.get F.MON_SAVS_ST_VSET ∧ s.get F.MON_SAVS_CFG_VMIN ≤ v ∧ v ≤ s.get F.MON_SAVS_CFG_VMAX ∧ (m = true ∨ s.mon.runOk < 63 ∨ s.mon.marOk < 63 ∨ s.mon.sDown < 63)) ∧
    (∃ (s : State) (v : Nat), s.mon.crit.length = 4 ∧ s.mon.frz.length = 2 ∧ s.mon.runs.length = 4 ∧ s.clk.present = true ∧ (s.pstate = SENTRY ∨ monRuns s = true) ∧ frozen s L_SENT = false ∧ v = s.get F.MON_SAVS_ST_VSET ∧ s.get F.MON_SAVS_CFG_VMIN ≤ v ∧ v ≤ s.get F.MON_SAVS_CFG_VMAX ∧ 63 ≤ s.mon.runOk ∧ 63 ≤ s.mon.marOk ∧ 63 ≤ s.mon.sDown) ∧
    (∃ (s : State), s.mon.crit.length = 4 ∧ s.mon.frz.length = 2 ∧ s.mon.runs.length = 4 ∧ s.clk.present = true ∧ (s.pstate = SENTRY ∨ monRuns s = true) ∧ frozen s L_SENT = true) ∧
    (∃ (s : State) (b : PmbTr) (l : List PmbTr), s.mon.crit.length = 4 ∧ s.mon.frz.length = 2 ∧ s.mon.runs.length = 4 ∧ s.mon.bus = b :: l ∧ b.cmd = PMB_STATUS) ∧
    (∃ (s : State) (l : List (BitVec 20)), s.mon.crit.length = 4 ∧ s.mon.frz.length = 2 ∧ s.mon.runs.length = 4 ∧ (monRuns s = false ∨ l.length ≠ 12)) ∧
    (∃ (s : State) (v : Fin 8) (a : BitVec 16) (b : BitVec 16), s.mon.crit.length = 4 ∧ s.mon.frz.length = 2 ∧ s.mon.runs.length = 4 ∧ (monRuns s = false ∨ s.bitOf F.MON_ST_VOUT v = false ∨ railInside s v a.toNat = false ∨ railInside s v b.toNat = false)) ∧
    (∃ (s : State), s.mon.crit.length = 4 ∧ s.mon.frz.length = 2 ∧ s.mon.runs.length = 4 ∧ s.clk.present = true ∧ (s.pstate = SENTRY ∨ monRuns s = true) ∧ frozen s L_SENT = false ∧ vClamp s L_SENT (s.get F.MON_SAVS_ST_VSET) ≠ s.get F.MON_SAVS_ST_VSET) ∧
    (∃ (s : State), s.mon.crit.length = 4 ∧ s.mon.frz.length = 2 ∧ s.mon.runs.length = 4 ∧ s.clk.present = true ∧ monRuns s = true ∧ ringMin s ≠ none ∧ frozen s L_CORE = false ∧ s.mon.skip ≤ 1 ∧ vClamp s L_CORE (s.get F.MON_CAVS_ST_VSET) ≠ s.get F.MON_CAVS_ST_VSET) :=
  ⟨⟨inWatch, by decide +kernel⟩,
    ⟨(State.reset), by decide +kernel⟩,
    ⟨puts [(F.MON_ST_VOUT, 0)] inWatch, 3, 9451, 9451, 9451, 9451, by decide +kernel, by decide +kernel, by decide +kernel, by decide +kernel, by decide +kernel, fun x hx => by rw [List.eq_of_mem_replicate (n := 4) (a := 9451) hx]; decide +kernel⟩,
    ⟨puts [(F.MON_ST_VOUT, 0)] inWatch, 3, 8550, 9451, 9451, 9451, by decide +kernel, by decide +kernel, by decide +kernel, .inr (.inr ⟨8550, .head _, by decide +kernel⟩)⟩,
    ⟨puts [(F.MON_CAVS_ST_VSET, 750), (F.MON_ST_VOUT, 2)] inWatch, 1, 7900, 7100, by decide +kernel⟩,
    ⟨inWatch, List.replicate 12 5, by decide +kernel⟩,
    ⟨({ inWatch with mon.bus := [⟨true, 1, 0, 0⟩], clk.phase := .run } : State), ⟨true, 1, 0, 0⟩, [], by decide +kernel⟩,
    ⟨({ inWatch with mon.bus := [⟨true, 1, 0, 0⟩] } : State), 1, ⟨true, 1, 0, 0⟩, [], by decide +kernel⟩,
    ⟨({ inWatch with mon.bus := [⟨true, 1, 0, 2⟩], clk.phase := .run } : State), 1, ⟨true, 1, 0, 2⟩, [], by decide +kernel⟩,
    ⟨({ inWatch with mon.bus := [] } : State), by decide +kernel⟩,
    ⟨inWatch, true, by decide +kernel⟩,
    ⟨(State.reset), false, by decide +kernel⟩,
    ⟨({ (puts [(F.PWR_STATE_STATE, SENTRY), (F.MON_SAVS_CFG_VMIN, 500), (F.MON_SAVS_CFG_VMAX, 900), (F.MON_SAVS_ST_VSET, 500)] inWatch) with clk.present := true } : State), 1, 500, by decide +kernel⟩,
    ⟨({ (puts [(F.MON_CAVS_CFG_VMIN, 500), (F.MON_CAVS_CFG_VMAX, 900), (F.MON_CAVS_ST_VSET, 500), (F.MON_PMm_COUNT 7, 5), (F.MON_CAVS_TGT_TGT, 6)] inWatch) with clk.present := true } : State), 5, 500, by decide +kernel⟩,
    ⟨puts [(F.PWR_STATE_STATE, SERVICE)] inWatch, by decide +kernel⟩,
    ⟨inWatch, by decide +kernel⟩,
    ⟨puts [(F.MON_ST_PMERR, 1)] inWatch, by decide +kernel⟩,
    ⟨puts [(F.MON_ST_PMERR, 0)] inWatch, by decide +kernel⟩,
    ⟨State.reset, by decide +kernel⟩,
    ⟨({ (puts [(F.MON_CAVS_CFG_VMIN, 500), (F.MON_CAVS_CFG_VMAX, 900), (F.MON_CAVS_ST_VSET, 503), (F.MON_PMm_COUNT 7, 7), (F.MON_CAVS_TGT_TGT, 6), (F.MON_CAVS_STEP_HYS, 0), (F.MON_CAVS_STEP_DWAIT, 10), (F.MON_CAVS_STEP_DN, 5)] inWatch) with mon.skip := 2 } : State), by decide +kernel⟩,
    ⟨({ (puts [(F.MON_CAVS_CFG_VMIN, 500), (F.MON_CAVS_CFG_VMAX, 900), (F.MON_CAVS_ST_VSET, 503), (F.MON_PMm_COUNT 7, 7), (F.MON_CAVS_TGT_TGT, 6), (F.MON_CAVS_STEP_HYS, 0), (F.MON_CAVS_STEP_DWAIT, 10), (F.MON_CAVS_STEP_DN, 5)] inWatch) with mon.cDown := 8, mon.skip := 1 } : State), 7, 503, by decide +kernel⟩,
    ⟨({ (puts [(F.MON_CAVS_CFG_VMIN, 500), (F.MON_CAVS_CFG_VMAX, 900), (F.MON_CAVS_ST_VSET, 503), (F.MON_PMm_COUNT 7, 7), (F.MON_CAVS_TGT_TGT, 6), (F.MON_CAVS_STEP_HYS, 0), (F.MON_CAVS_STEP_DWAIT, 10), (F.MON_CAVS_STEP_DN, 5)] inWatch) with mon.cDown := 9, mon.skip := 1 } : State), 7, 503, by decide +kernel⟩,
    ⟨State.reset, by decide +kernel⟩,
    ⟨({ (puts [(F.MON_SAVS_CFG_VMIN, 500), (F.MON_SAVS_CFG_VMAX, 900), (F.MON_SAVS_ST_VSET, 503)] inWatch) with mon.runOk := 63, mon.marOk := 64, mon.sDown := 62 } : State), false, 503, by decide +kernel⟩,
    ⟨({ (puts [(F.MON_SAVS_CFG_VMIN, 500), (F.MON_SAVS_CFG_VMAX, 900), (F.MON_SAVS_ST_VSET, 503)] inWatch) with mon.runOk := 63, mon.marOk := 64, mon.sDown := 63 } : State), 503, by decide +kernel⟩,
    ⟨puts [(F.MON_SAVS_CFG_VMIN, 500), (F.MON_SAVS_CFG_VMAX, 900), (F.MON_SAVS_ST_VSET, 500), (F.MON_SAVS_CFG_FREEZE, 1)] inWatch, by decide +kernel⟩,
    ⟨({ inWatch with mon.bus := [⟨true, PMB_STATUS, 0, 0⟩] } : State), ⟨true, PMB_STATUS, 0, 0⟩, [], by decide +kernel⟩,
    ⟨State.reset, [], by decide +kernel⟩,
    ⟨inWatch, 3, 8550, 9451, by decide +kernel⟩,
    ⟨puts [(F.MON_SAVS_CFG_VMIN, 500), (F.MON_SAVS_CFG_VMAX, 900), (F.MON_SAVS_ST_VSET, 901)] inWatch, by decide +kernel⟩,
    ⟨puts [(F.MON_CAVS_CFG_VMIN, 500), (F.MON_CAVS_CFG_VMAX, 900), (F.MON_CAVS_ST_VSET, 901), (F.MON_PMm_COUNT 7, 5)] inWatch, by decide +kernel⟩⟩

theorem test_hypotheses_HedgerowTraining :
    (∃ (s : State) (x : Fin 2) (l0 : Bool) (l1 : Bool), s.hg.port.length = 2 ∧ inStep s x HG_DETECT = true ∧ (b2n l0 + 2 * b2n l1) &&& hgLanes s x ≠ 0) ∧
    (∃ (s : State) (x : Fin 2) (l0 : Bool) (l1 : Bool), s.hg.port.length = 2 ∧ (inStep s x HG_DETECT = false ∨ (b2n l0 + 2 * b2n l1) &&& hgLanes s x = 0)) ∧
    (∃ (s : State) (x : Fin 2), s.hg.port.length = 2 ∧ inStep s x HG_EQ = true) ∧
    (∃ (s : State) (x : Fin 2), s.hg.port.length = 2 ∧ inStep s x HG_EQ = false) ∧
    (∃ (s : State) (x : Fin 2), s.hg.port.length = 2 ∧ inStep s x HG_DESKEW = true) ∧
    (∃ (s : State) (x : Fin 2), s.hg.port.length = 2 ∧ inStep s x HG_DESKEW = false) ∧
    (∃ (s : State) (x : Fin 2) (c3 : BitVec 4), s.hg.port.length = 2 ∧ inStep s x HG_IDENT = true ∧ bit c3.toNat 3 = false ∧ (c3.toNat % 4 = s.devid ∨ c3.toNat / 4 % 2 = x.val)) ∧
    (∃ (s : State) (x : Fin 2) (c3 : BitVec 4) (tl : BitVec 2) (lr : BitVec 2), s.hg.port.length = 2 ∧ inStep s x HG_IDENT = true ∧ (bit c3.toNat 3 = true ∨ c3.toNat % 4 ≠ s.devid ∧ c3.toNat / 4 % 2 ≠ x.val) ∧ hgLanes s x &&& lr.toNat ≠ 0 ∧ tl.toNat &&& (s.hgp x).lreq ≠ 0 ∧ ((hgLanes s x &&& lr.toNat = hgLanes s x ∧ tl.toNat &&& (s.hgp x).lreq = hgLanes s x) ∨ s.flag (F.HGx_CFG_DEGR_EN x) = true)) ∧
    (∃ (s : State) (x : Fin 2) (c3 : BitVec 4) (tl : BitVec 2) (lr : BitVec 2), s.hg.port.length = 2 ∧ inStep s x HG_IDENT = true ∧ (bit c3.toNat 3 = true ∨ c3.toNat % 4 ≠ s.devid ∧ c3.toNat / 4 % 2 ≠ x.val) ∧ (hgLanes s x &&& lr.toNat = 0 ∨ tl.toNat &&& (s.hgp x).lreq = 0 ∨ (¬(hgLanes s x &&& lr.toNat = hgLanes s x ∧ tl.toNat &&& (s.hgp x).lreq = hgLanes s x) ∧ s.flag (F.HGx_CFG_DEGR_EN x) = false))) ∧
    (∃ (s : State) (x : Fin 2), s.hg.port.length = 2 ∧ inStep s x HG_IDENT = false) ∧
    (∃ (s : State) (x : Fin 2), s.hg.port.length = 2 ∧ inStep s x HG_RTT = true ∧ 16 ≤ (s.hgp x).echoes) ∧
    (∃ (s : State) (x : Fin 2), s.hg.port.length = 2 ∧ (inStep s x HG_RTT = false ∨ (s.hgp x).echoes < 16)) ∧
    (∃ (s : State) (x : Fin 2), s.hg.port.length = 2 ∧ hgRuns s x = true ∧ hgTraining s x = true) ∧
    (∃ (s : State) (x : Fin 2), s.hg.port.length = 2 ∧ (hgRuns s x = false ∨ hgTraining s x = false)) ∧
    (∃ (s : State) (x : Fin 2), s.hg.port.length = 2 ∧ (inStep s x HG_WAIT = true ∨ inStep s x HG_CONFLICT = true)) ∧
    (∃ (s : State) (x : Fin 2), s.hg.port.length = 2 ∧ inStep s x HG_WAIT = false ∧ inStep s x HG_CONFLICT = false) ∧
    (∃ (s : State) (x : Fin 2), s.hg.port.length = 2 ∧ (inStep s x HG_RTT = true ∨ inStep s x HG_UP = true)) ∧
    (∃ (s : State) (x : Fin 2), s.hg.port.length = 2 ∧ inStep s x HG_RTT = false ∧ inStep s x HG_UP = false) ∧
    (∃ (s : State) (x : Fin 2) (i : BitVec 4), s.hg.port.length = 2 ∧ inStep s x HG_RTT = true ∧ (s.hgp x).echoes = i.toNat) ∧
    (∃ (s : State) (x : Fin 2) (i : BitVec 4), s.hg.port.length = 2 ∧ (inStep s x HG_RTT = false ∨ (s.hgp x).echoes ≠ i.toNat)) ∧
    (∃ (s : State) (x : Fin 2) (l : Fin 2), s.hg.port.length = 2 ∧ (s.get (F.HGx_ST_STATE x) = HG_EQ ∨ s.get (F.HGx_ST_STATE x) = HG_UP) ∧ hgRuns s x = true ∧ s.flag (F.HGx_EQl_LOCK x l) = true ∧ s.flag (F.HGx_EQl_FREEZE x l) = false ∧ (∀ j < 8, nth (s.hgp x).railRun j 0 + 1 < 2 ^ 20)) ∧
    (∃ (s : State) (x : Fin 2) (l : Fin 2), s.hg.port.length = 2 ∧ (s.flag (F.HGx_EQl_LOCK x l) = false ∨ s.flag (F.HGx_EQl_FREEZE x l) = true ∨ hgRuns s x = false ∨ (s.get (F.HGx_ST_STATE x) ≠ HG_EQ ∧ s.get (F.HGx_ST_STATE x) ≠ HG_UP))) ∧
    (∃ (s : State) (x : Fin 2), s.hg.port.length = 2 ∧ inStep s x HG_RTT = true ∧ 16 ≤ (s.hgp x).echoes ∧ x.val = 0 ∧ s.pwr.deferring = true ∧ s.flag F.PWR_CFG_HG_KEEP = true) ∧
    (∃ (s : State) (x : Fin 2), s.hg.port.length = 2 ∧ inStep s x HG_RTT = true ∧ 16 ≤ (s.hgp x).echoes ∧ (x.val ≠ 0 ∨ s.pwr.deferring = false ∨ s.flag F.PWR_CFG_HG_KEEP = false)) ∧
    (∃ (s : State) (x : Fin 2) (l : Fin 2) (e : Fin 4) (up : Bool), s.hg.port.length = 2 ∧ (s.get (F.HGx_ST_STATE x) = HG_EQ ∨ s.get (F.HGx_ST_STATE x) = HG_UP) ∧ hgRuns s x = true ∧ s.flag (F.HGx_EQl_LOCK x l) = true ∧ s.flag (F.HGx_EQl_FREEZE x l) = false ∧ nth (s.hgp x).railRun (4 * l.val + e.val) 0 + 1 = 2 ^ 20 ∧ (if e.val < 2 then (s.get (eqElem x l e).1 : Int) else s.getI (eqElem x l e).1) = (if up then (eqElem x l e).2.2 else (eqElem x l e).2.1)) :=
  ⟨⟨puts [(F.HGx_ST_STATE 0, HG_DETECT)] inWatch, 0, true, true, by decide +kernel⟩,
    ⟨inWatch, 0, true, true, by decide +kernel⟩,
    ⟨puts [(F.HGx_ST_STATE 0, HG_EQ)] inWatch, 0, by decide +kernel⟩,
    ⟨inWatch, 0, by decide +kernel⟩,
    ⟨puts [(F.HGx_ST_STATE 0, HG_DESKEW)] inWatch, 0, by decide +kernel⟩,
    ⟨inWatch, 0, by decide +kernel⟩,
    ⟨puts [(F.HGx_ST_STATE 0, HG_IDENT)] inWatch, 0, 0, by decide +kernel⟩,
    ⟨puts [(F.HGx_ST_STATE 0, HG_IDENT)] inWatch, 0, 5, 3, 3, by decide +kernel⟩,
    ⟨puts [(F.HGx_ST_STATE 0, HG_IDENT)] inWatch, 0, 5, 0, 3, by decide +kernel⟩,
    ⟨inWatch, 0, by decide +kernel⟩,
    ⟨({ (puts [(F.HGx_ST_STATE 0, HG_RTT)] inWatch) with hg.port := portT 0 { HgPort.reset with echoes := 16 } } : State), 0, by decide +kernel⟩,
    ⟨inWatch, 0, by decide +kernel⟩,
    ⟨puts [(F.HGx_ST_STATE 0, HG_RTT)] inWatch, 0, by decide +kernel⟩,
    ⟨inWatch, 0, by decide +kernel⟩,
    ⟨puts [(F.HGx_ST_STATE 0, HG_WAIT)] inWatch, 0, by decide +kernel⟩,
    ⟨inWatch, 0, by decide +kernel⟩,
    ⟨puts [(F.HGx_ST_STATE 0, HG_RTT)] inWatch, 0, by decide +kernel⟩,
    ⟨inWatch, 0, by decide +kernel⟩,
    ⟨puts [(F.HGx_ST_STATE 0, HG_RTT)] inWatch, 0, 0, by decide +kernel⟩,
    ⟨inWatch, 0, 0, by decide +kernel⟩,
    ⟨puts [(F.HGx_ST_STATE 0, HG_EQ), (F.HGx_EQl_LOCK 0 0, 1), (F.HGx_EQl_FREEZE 0 0, 0)] inWatch, 0, 0, by decide +kernel⟩,
    ⟨puts [(F.HGx_EQl_LOCK 0 0, 0)] inWatch, 0, 0, by decide +kernel⟩,
    ⟨({ (puts [(F.HGx_ST_STATE 0, HG_RTT), (F.HGx_ST_TXL 0, 3), (F.HGx_ST_RXL 0, 3), (F.PWR_CFG_HG_KEEP, 1)] inWatch) with pwr.deferring := true, hg.port := portT 0 { HgPort.reset with echoes := 16 } } : State), 0, by decide +kernel⟩,
    ⟨({ (puts [(F.HGx_ST_STATE 0, HG_RTT)] inWatch) with hg.port := portT 0 { HgPort.reset with echoes := 16 } } : State), 0, by decide +kernel⟩,
    ⟨({ (puts [(F.HGx_ST_STATE 0, HG_EQ), (F.HGx_EQl_LOCK 0 0, 1), (F.HGx_EQl_FREEZE 0 0, 0), (F.HGx_EQl_DFE2 0 0, 31)] inWatch) with hg.port := portT 0 { HgPort.reset with railRun := List.replicate 8 1048575 } } : State), 0, 0, 2, true, by decide +kernel⟩⟩

theorem test_hypotheses_HedgerowLanes :
    (∃ (s : State) (x : Fin 2), s.hg.port.length = 2 ∧ (inStep s x HG_UP = true ∨ inStep s x HG_DESKEW = true)) ∧
    (∃ (s : State) (x : Fin 2) (l : Fin 2), s.hg.port.length = 2 ∧ inStep s x HG_UP = true ∧ s.bitOf (F.HGx_ST_RXL x) l = true ∧ s.flag (F.HGx_CFG_DEGR_EN x) = true ∧ s.get (F.HGx_ST_TXL x) ≠ 0 ∧ setBit (s.get (F.HGx_ST_RXL x)) l false ≠ 0) ∧
    (∃ (s : State) (x : Fin 2) (l : Fin 2) (k : BitVec 2), s.hg.port.length = 2 ∧ inStep s x HG_UP = true ∧ s.get (F.HGx_ST_RXL x) = 3 ∧ k.toNat = 2 ^ l.val ∧ s.flag (F.HGx_CFG_DEGR_EN x) = true ∧ s.get (F.HGx_ST_TXL x) ≠ 0) ∧
    (∃ (s : State) (x : Fin 2) (l : Fin 2), s.hg.port.length = 2 ∧ inStep s x HG_UP = true ∧ s.bitOf (F.HGx_ST_RXL x) l = true ∧ (s.flag (F.HGx_CFG_DEGR_EN x) = false ∨ s.get (F.HGx_ST_TXL x) = 0 ∨ setBit (s.get (F.HGx_ST_RXL x)) l false = 0)) ∧
    (∃ (s : State) (x : Fin 2), s.hg.port.length = 2 ∧ inStep s x HG_UP = false) ∧
    (∃ (s : State) (x : Fin 2), s.hg.port.length = 2 ∧ inStep s x HG_UP = false) ∧
    (∃ (s : State) (x : Fin 2), s.hg.port.length = 2 ∧ inStep s x HG_UP = true ∧ (s.hgp x).unacked ≠ [] ∧ s.clk.phase = .run ∧ (s.hgp x).rtos < 7) ∧
    (∃ (s : State) (x : Fin 2), s.hg.port.length = 2 ∧ inStep s x HG_UP = true ∧ (s.hgp x).unacked ≠ [] ∧ s.clk.phase = .run ∧ 7 ≤ (s.hgp x).rtos) ∧
    (∃ (s : State) (x : Fin 2), s.hg.port.length = 2 ∧ inStep s x HG_UP = true ∧ (s.hgp x).clean = false) ∧
    (∃ (s : State) (x : Fin 2), s.hg.port.length = 2 ∧ hgUp s x = false) ∧
    (∃ (s : State) (x : Fin 2) (e0 : Nat) (e1 : Nat), s.hg.port.length = 2 ∧ hgRuns s x = true ∧ s.pair (A.HGx_CRCERR_LO x) + (s.pair (A.HGx_CODEERRl_LO x 0) + e0) % 2 ^ 64 + (s.pair (A.HGx_CODEERRl_LO x 1) + e1) % 2 ^ 64 - (s.hgp x).errBase < s.get (F.HGx_CFG_ERRLIM x)) ∧
    (∃ (s : State) (x : Fin 2) (e0 : Nat) (e1 : Nat), s.hg.port.length = 2 ∧ hgRuns s x = true ∧ s.get (F.HGx_CFG_ERRLIM x) ≤ s.pair (A.HGx_CRCERR_LO x) + (s.pair (A.HGx_CODEERRl_LO x 0) + e0) % 2 ^ 64 + (s.pair (A.HGx_CODEERRl_LO x 1) + e1) % 2 ^ 64 - (s.hgp x).errBase) ∧
    (∃ (s : State) (x : Fin 2), s.hg.port.length = 2 ∧ hgRuns s x = false) ∧
    (∃ (s : State) (x : Fin 2), s.hg.port.length = 2 ∧ hgUp s x = true ∧ s.flag (F.HGx_CFG_EN x) = true ∧ hgRuns s x = true) ∧
    (∃ (s : State) (x : Fin 2), s.hg.port.length = 2 ∧ (s.flag (F.HGx_CFG_EN x) = false ∨ hgRuns s x = false ∨ (s.get (F.HGx_ST_STATE x) ≠ HG_UP ∧ s.get (F.HGx_ST_STATE x) ≠ HG_WAIT ∧ s.get (F.HGx_ST_STATE x) ≠ HG_CONFLICT))) ∧
    (∃ (s : State) (x : Fin 2) (l : Fin 2), s.hg.port.length = 2 ∧ hgUp s x = true ∧ hgLanes s x = 2 ^ l.val ∧ s.get (F.HGx_ST_TXL x) = 3 ∧ s.get (F.HGx_ST_RXL x) = 3) ∧
    (∃ (s : State) (x : Fin 2) (o : BitVec 2), s.hg.port.length = 2 ∧ (hgUp s x = false ∨ hgLanes s x = o.toNat)) ∧
    (∃ (s : State) (x : Fin 2), s.hg.port.length = 2 ∧ inStep s x HG_UP = false ∧ inStep s x HG_DESKEW = false) ∧
    (∃ (s : State) (x : Fin 2) (l : Fin 2), s.hg.port.length = 2 ∧ inStep s x HG_UP = true ∧ s.bitOf (F.HGx_ST_RXL x) l = false) ∧
    (∃ (s : State) (x : Fin 2) (k : BitVec 2), s.hg.port.length = 2 ∧ inStep s x HG_UP = true ∧ s.get (F.HGx_ST_RXL x) ≠ 0 ∧ s.get (F.HGx_ST_RXL x) &&& k.toNat = 0) ∧
    (∃ (s : State) (x : Fin 2) (k : BitVec 2), s.hg.port.length = 2 ∧ s.get (F.HGx_ST_RXL x) &&& k.toNat = s.get (F.HGx_ST_RXL x)) ∧
    (∃ (s : State) (x : Fin 2), s.hg.port.length = 2 ∧ ((s.hgp x).unacked = [] ∨ s.clk.phase ≠ .run)) ∧
    (∃ (s : State) (x : Fin 2), s.hg.port.length = 2 ∧ (s.get (F.HGx_ST_STATE x) = HG_WAIT ∨ s.get (F.HGx_ST_STATE x) = HG_CONFLICT) ∧ s.flag (F.HGx_CFG_EN x) = true ∧ hgRuns s x = true) ∧
    (∃ (s : State) (x : Fin 2) (o : BitVec 2), s.hg.port.length = 2 ∧ hgUp s x = true ∧ hgLanes s x ≠ o.toNat ∧ hgLanes s x ||| o.toNat = o.toNat ∧ (s.get (F.HGx_ST_TXL x) &&& hgLanes s x = 0 ∨ s.get (F.HGx_ST_RXL x) &&& hgLanes s x = 0)) ∧
    (∃ (s : State) (x : Fin 2) (o : BitVec 2), s.hg.port.length = 2 ∧ hgUp s x = true ∧ hgLanes s x ≠ o.toNat ∧ hgLanes s x = (hgLanes s x ||| o.toNat)) ∧
    (∃ (s : State) (x : Fin 2) (o : BitVec 2), s.hg.port.length = 2 ∧ hgUp s x = true ∧ hgLanes s x ≠ (hgLanes s x ||| o.toNat) ∧ o.toNat ≠ (hgLanes s x ||| o.toNat)) :=
  ⟨⟨puts [(F.HGx_ST_STATE 0, HG_UP)] inWatch, 0, by decide +kernel⟩,
    ⟨puts [(F.HGx_ST_STATE 0, HG_UP), (F.HGx_ST_RXL 0, 2 ^ (0 : Nat)), (F.HGx_CFG_DEGR_EN 0, 1), (F.HGx_ST_TXL 0, (0) + 1), (F.HGx_ST_STATE 0, HG_UP), (F.HGx_ST_RXL 0, 3), (F.HGx_ST_TXL 0, 3), (F.HGx_CFG_DEGR_EN 0, 1)] inWatch, 0, 0, by decide +kernel⟩,
    ⟨puts [(F.HGx_ST_STATE 0, HG_UP), (F.HGx_ST_RXL 0, 3), (F.HGx_CFG_DEGR_EN 0, 1), (F.HGx_ST_TXL 0, (0) + 1), (F.HGx_ST_STATE 0, HG_UP), (F.HGx_ST_RXL 0, 3), (F.HGx_ST_TXL 0, 3), (F.HGx_CFG_DEGR_EN 0, 1)] inWatch, 0, 0, 1, by decide +kernel⟩,
    ⟨puts [(F.HGx_ST_STATE 0, HG_UP), (F.HGx_ST_RXL 0, 2 ^ (0 : Nat)), (F.HGx_CFG_DEGR_EN 0, 0)] inWatch, 0, 0, by decide +kernel⟩,
    ⟨inWatch, 0, by decide +kernel⟩,
    ⟨inWatch, 0, by decide +kernel⟩,
    ⟨({ (puts [(F.HGx_ST_STATE 0, HG_UP)] inWatch) with clk.phase := .run, hg.port := portT 0 { HgPort.reset with unacked := [⟨0, 1, noteT⟩] } } : State), 0, by decide +kernel⟩,
    ⟨({ (puts [(F.HGx_ST_STATE 0, HG_UP)] inWatch) with clk.phase := .run, hg.port := portT 0 { HgPort.reset with unacked := [⟨0, 1, noteT⟩], rtos := 7 } } : State), 0, by decide +kernel⟩,
    ⟨({ (puts [(F.HGx_ST_STATE 0, HG_UP)] inWatch) with hg.port := portT 0 { HgPort.reset with clean := false } } : State), 0, by decide +kernel⟩,
    ⟨inWatch, 0, by decide +kernel⟩,
    ⟨inWatch, 0, 1, 1, by decide +kernel⟩,
    ⟨inWatch, 0, 200, 55, by decide +kernel⟩,
    ⟨puts [(F.HGx_QCTL_QSTATE 0, 1)] inWatch, 0, by decide +kernel⟩,
    ⟨puts [(F.HGx_ST_STATE 0, HG_UP), (F.HGx_CFG_EN 0, 1)] inWatch, 0, by decide +kernel⟩,
    ⟨puts [(F.HGx_CFG_EN 0, 0)] inWatch, 0, by decide +kernel⟩,
    ⟨puts [(F.HGx_ST_STATE 0, HG_UP), (F.HGx_ST_TXL 0, 3), (F.HGx_ST_RXL 0, 3), (F.HGx_ST_STATE 0, HG_UP), (F.HGx_ST_RXL 0, 3), (F.HGx_ST_TXL 0, 3), (F.HGx_CFG_LANES 0, 1)] inWatch, 0, 0, by decide +kernel⟩,
    ⟨inWatch, 0, 0, by decide +kernel⟩,
    ⟨inWatch, 0, by decide +kernel⟩,
    ⟨puts [(F.HGx_ST_STATE 0, HG_UP), (F.HGx_ST_RXL 0, 1), (F.HGx_ST_TXL 0, 3), (F.HGx_CFG_DEGR_EN 0, 1)] inWatch, 0, 1, by decide +kernel⟩,
    ⟨puts [(F.HGx_ST_STATE 0, HG_UP), (F.HGx_ST_RXL 0, 1), (F.HGx_ST_TXL 0, 3), (F.HGx_CFG_DEGR_EN 0, 1)] inWatch, 0, 2, by decide +kernel⟩,
    ⟨puts [(F.HGx_ST_STATE 0, HG_UP), (F.HGx_ST_RXL 0, 2), (F.HGx_ST_TXL 0, 3), (F.HGx_CFG_DEGR_EN 0, 1)] inWatch, 0, 2, by decide +kernel⟩,
    ⟨puts [(F.HGx_ST_STATE 0, HG_UP), (F.HGx_ST_RXL 0, 2), (F.HGx_ST_TXL 0, 3), (F.HGx_CFG_DEGR_EN 0, 1)] inWatch, 0, by decide +kernel⟩,
    ⟨puts [(F.HGx_ST_STATE 0, HG_WAIT), (F.HGx_CFG_EN 0, 1)] inWatch, 0, by decide +kernel⟩,
    ⟨puts [(F.HGx_ST_STATE 0, HG_UP), (F.HGx_ST_RXL 0, 2), (F.HGx_ST_TXL 0, 3), (F.HGx_CFG_DEGR_EN 0, 1), (F.HGx_CFG_LANES 0, 1)] inWatch, 0, 3, by decide +kernel⟩,
    ⟨puts [(F.HGx_ST_STATE 0, HG_UP), (F.HGx_ST_RXL 0, 1), (F.HGx_ST_TXL 0, 3), (F.HGx_CFG_DEGR_EN 0, 1), (F.HGx_CFG_LANES 0, 3)] inWatch, 0, 1, by decide +kernel⟩,
    ⟨puts [(F.HGx_ST_STATE 0, HG_UP), (F.HGx_ST_RXL 0, 1), (F.HGx_ST_TXL 0, 3), (F.HGx_CFG_DEGR_EN 0, 1), (F.HGx_CFG_LANES 0, 2)] inWatch, 0, 1, by decide +kernel⟩⟩

theorem test_hypotheses_FramesAndMessagesRoundTrip :
    (∃ (vc : Nat) (kind : Nat) (seq : Nat) (pl : List Nat) (b : Nat), b ∈ frameBytes vc kind seq pl ∧ vc < 4 ∧ kind < 2 ∧ seq < 4096 ∧ pl.length ≤ 256 ∧ (∀ b ∈ pl, b < 256)) ∧
    (∃ (m : Msg), m.dst < 8 ∧ m.src < 8 ∧ m.param < 2 ^ 32 ∧ m.trailer.length = (if m.auth then 16 else 0)) ∧
    (∃ (pl : List Nat), (pl.length < 8 ∨ 128 ≤ nth pl 1 0 ∨ (bit (nth pl 1 0) 6 = true ∧ pl.length < 24))) :=
  ⟨⟨1, 1, 1, [], 21, by decide +kernel⟩,
    ⟨{ noteT with auth := true, trailer := List.replicate 16 7 }, by decide +kernel⟩,
    ⟨[], by decide +kernel⟩⟩

theorem test_hypotheses_HedgerowReceive :
    (∃ (s : State) (x : Fin 2) (f : List Byte) (e0 : Nat) (e1 : Nat) (ab : Bool), s.hg.port.length = 2 ∧ inStep s x HG_UP = true ∧ frameCheck (f.map BitVec.toNat) (decide (e0 + e1 ≠ 0)) ab = .crc) ∧
    (∃ (s : State) (x : Fin 2) (f : List Byte) (ab : Bool), s.hg.port.length = 2 ∧ inStep s x HG_UP = true ∧ frameCheck (f.map BitVec.toNat) false ab = .proto) ∧
    (∃ (s : State) (x : Fin 2) (f : List Byte) (vc : Nat) (seq : Nat) (pl : List Nat), s.hg.port.length = 2 ∧ inStep s x HG_UP = true ∧ frameCheck (f.map BitVec.toNat) false false = .good 0 vc seq pl ∧ (s.hgp x).expSeq < 4096 ∧ seq ≠ (s.hgp x).expSeq ∧ ((s.hgp x).expSeq + 4096 - seq) % 4096 ≤ 16 ∧ ((s.hgp x).expSeq + 4096 - seq) % 4096 ≠ 0) ∧
    (∃ (s : State) (x : Fin 2) (f : List Byte) (vc : Nat) (seq : Nat) (pl : List Nat), s.hg.port.length = 2 ∧ inStep s x HG_UP = true ∧ frameCheck (f.map BitVec.toNat) false false = .good 0 vc seq pl ∧ (s.hgp x).expSeq < 4096 ∧ 16 < ((s.hgp x).expSeq + 4096 - seq) % 4096) ∧
    (∃ (s : State) (x : Fin 2) (f : List Byte) (vc : Nat) (seq : Nat) (pl : List Nat), s.hg.port.length = 2 ∧ inStep s x HG_UP = true ∧ frameCheck (f.map BitVec.toNat) false false = .good 0 vc seq pl ∧ (s.hgp x).expSeq < 4096 ∧ seq = (s.hgp x).expSeq ∧ hgSlots vc ≤ ((s.hgp x).rx.filter (fun r => r.vc == vc)).length) ∧
    (∃ (s : State) (x : Fin 2) (f : List Byte) (vc : Nat) (seq : Nat) (pl : List Nat), s.hg.port.length = 2 ∧ inStep s x HG_UP = true ∧ frameCheck (f.map BitVec.toNat) false false = .good 0 vc seq pl ∧ (s.hgp x).expSeq < 4096 ∧ seq = (s.hgp x).expSeq ∧ ((s.hgp x).rx.filter (fun r => r.vc == vc)).length < hgSlots vc ∧ msgParse pl = none) ∧
    (∃ (s : State) (x : Fin 2) (f : List Byte) (vc : Nat) (seq : Nat) (pl : List Nat) (m : Msg), s.hg.port.length = 2 ∧ inStep s x HG_UP = true ∧ frameCheck (f.map BitVec.toNat) false false = .good 0 vc seq pl ∧ (s.hgp x).expSeq < 4096 ∧ seq = (s.hgp x).expSeq ∧ 2 ≤ vc ∧ (s.hgp 0).rx = [] ∧ (s.hgp 1).rx = [] ∧ msgParse pl = some m ∧ m.auth = false ∧ hgAuth s x vc = false ∧ typeVc m.typ = some vc ∧ bodyOk m = true ∧ s.devid < 4 ∧ m.dst = s.devid) ∧
    (∃ (s : State) (x : Fin 2) (f : List Byte) (pl : List Nat), s.hg.port.length = 2 ∧ inStep s x HG_UP = true ∧ frameCheck (f.map BitVec.toNat) false false = .good 1 0 0 pl ∧ pl.length = 12 ∧ (∃ v < 4, 32 < (nth (s.hgp x).sent v 0 + 256 - nth pl (4 + v) 0) % 256)) ∧
    (∃ (s : State) (x : Fin 2) (f : List Byte) (pl : List Nat), s.hg.port.length = 2 ∧ inStep s x HG_UP = true ∧ frameCheck (f.map BitVec.toNat) false false = .good 1 0 0 pl ∧ pl.length = 12 ∧ (∀ v < 4, (nth (s.hgp x).sent v 0 + 256 - nth pl (4 + v) 0) % 256 ≤ 32) ∧ (s.hgp 0).rx = [] ∧ (s.hgp 1).rx = [] ∧ s.get (F.HGx_ST_TXL x) &&& (nth pl 8 0 % 4) = s.get (F.HGx_ST_TXL x) ∧ bit (leOfBytes (pl.take 2)) 12 = false) ∧
    (∃ (s : State) (x : Fin 2) (f : List Byte) (pl : List Nat) (i : Nat), s.hg.port.length = 2 ∧ inStep s x HG_UP = true ∧ frameCheck (f.map BitVec.toNat) false false = .good 1 0 0 pl ∧ pl.length = 12 ∧ (∀ v < 4, (nth (s.hgp x).sent v 0 + 256 - nth pl (4 + v) 0) % 256 ≤ 32) ∧ (s.hgp 0).rx = [] ∧ (s.hgp 1).rx = [] ∧ s.get (F.HGx_ST_TXL x) &&& (nth pl 8 0 % 4) = s.get (F.HGx_ST_TXL x) ∧ bit (leOfBytes (pl.take 2)) 12 = true ∧ (s.hgp x).unacked.findIdx? (fun u => u.seq == leOfBytes (pl.take 2) % 4096) = some i) ∧
    (∃ (s : State) (x : Fin 2), s.hg.port.length = 2 ∧ inStep s x HG_UP = false) ∧
    (∃ (s : State) (x : Fin 2) (f : List Byte) (vc : Nat) (pl : List Nat), s.hg.port.length = 2 ∧ inStep s x HG_UP = true ∧ frameCheck (f.map BitVec.toNat) false false = .good 0 vc (s.hgp x).expSeq pl ∧ (s.hgp x).expSeq < 4096 ∧ ((s.hgp x).rx.filter (fun r => r.vc == vc)).length < hgSlots vc) ∧
    (∃ (s : State) (x : Fin 2) (f : List Byte) (vc : Nat) (seq : Nat) (pl : List Nat), s.hg.port.length = 2 ∧ inStep s x HG_UP = true ∧ frameCheck (f.map BitVec.toNat) false false = .good 1 vc seq pl) ∧
    (∃ (s : State) (x : Fin 2) (f : List Byte) (vc : Nat) (seq : Nat) (pl : List Nat), s.hg.port.length = 2 ∧ inStep s x HG_UP = true ∧ frameCheck (f.map BitVec.toNat) false false = .good 1 vc seq pl ∧ (vc ≠ 0 ∨ seq ≠ 0 ∨ pl.length ≠ 12)) ∧
    (∃ (s : State) (x : Fin 2) (f : List Byte) (vc : Nat) (seq : Nat) (pl : List Nat), s.hg.port.length = 2 ∧ inStep s x HG_UP = true ∧ frameCheck (f.map BitVec.toNat) false false = .good 1 vc seq pl ∧ vc = 0 ∧ seq = 0 ∧ pl.length = 12) ∧
    (∃ (s : State) (x : Fin 2) (f : List Byte) (vc : Nat) (seq : Nat) (pl : List Nat), s.hg.port.length = 2 ∧ inStep s x HG_UP = true ∧ frameCheck (f.map BitVec.toNat) false false = .good 0 vc seq pl) :=
  ⟨⟨puts [(F.HGx_ST_STATE 0, HG_UP)] inWatch, 0, [], 1, 1, false, by decide +kernel⟩,
    ⟨puts [(F.HGx_ST_STATE 0, HG_UP)] inWatch, 0, frameT 0 2 0 [], false, by decide +kernel⟩,
    ⟨puts [(F.HGx_ST_STATE 0, HG_UP)] inWatch, 0, frameT 0 0 4080 [], 0, 4080, [], by decide +kernel⟩,
    ⟨puts [(F.HGx_ST_STATE 0, HG_UP)] inWatch, 0, frameT 0 0 4079 [], 0, 4079, [], by decide +kernel⟩,
    ⟨({ (puts [(F.HGx_ST_STATE 0, HG_UP)] inWatch) with hg.port := portT 0 { HgPort.reset with rx := List.replicate 4 { rx 0x20 0 1 [] with vc := 0 } } } : State), 0, frameT 0 0 0 [], 0, 0, [], by decide +kernel⟩,
    ⟨puts [(F.HGx_ST_STATE 0, HG_UP)] inWatch, 0, frameT 0 0 0 [], 0, 0, [], by decide +kernel⟩,
    ⟨puts [(F.HGx_ST_STATE 0, HG_UP)] inWatch, 0, frameT 3 0 0 (msgBytes ⟨0x12, 0, 1, false, 1, 1, 0, List.replicate 12 0, []⟩), 3, 0, msgBytes ⟨0x12, 0, 1, false, 1, 1, 0, List.replicate 12 0, []⟩, ⟨0x12, 0, 1, false, 1, 1, 0, List.replicate 12 0, []⟩, by decide +kernel⟩,
    ⟨puts [(F.HGx_ST_STATE 0, HG_UP)] inWatch, 0, frameT 0 1 0 [0, 0, 0, 0, 223, 0, 0, 0, 3, 0, 0, 0], [0, 0, 0, 0, 223, 0, 0, 0, 3, 0, 0, 0], by decide +kernel⟩,
    ⟨puts [(F.HGx_ST_STATE 0, HG_UP)] inWatch, 0, frameT 0 1 0 [0, 0, 0, 0, 224, 0, 0, 0, 3, 0, 0, 0], [0, 0, 0, 0, 224, 0, 0, 0, 3, 0, 0, 0], by decide +kernel⟩,
    ⟨({ (puts [(F.HGx_ST_STATE 0, HG_UP)] inWatch) with hg.port := portT 0 { HgPort.reset with unacked := [⟨6, 1, noteT⟩, ⟨7, 1, noteT⟩] } } : State), 0, frameT 0 1 0 [7, 16, 0, 0, 224, 0, 0, 0, 3, 0, 0, 0], [7, 16, 0, 0, 224, 0, 0, 0, 3, 0, 0, 0], 1, by decide +kernel⟩,
    ⟨inWatch, 0, by decide +kernel⟩,
    ⟨puts [(F.HGx_ST_STATE 0, HG_UP)] inWatch, 0, frameT 1 0 0 [], 1, [], by decide +kernel⟩,
    ⟨puts [(F.HGx_ST_STATE 0, HG_UP)] inWatch, 0, frameT 0 1 0 [], 0, 0, [], by decide +kernel⟩,
    ⟨puts [(F.HGx_ST_STATE 0, HG_UP)] inWatch, 0, frameT 0 1 0 [], 0, 0, [], by decide +kernel⟩,
    ⟨puts [(F.HGx_ST_STATE 0, HG_UP)] inWatch, 0, frameT 0 1 0 [0, 0, 0, 0, 224, 0, 0, 0, 3, 0, 0, 0], 0, 0, [0, 0, 0, 0, 224, 0, 0, 0, 3, 0, 0, 0], by decide +kernel⟩,
    ⟨puts [(F.HGx_ST_STATE 0, HG_UP)] inWatch, 0, frameT 0 0 0 [], 0, 0, [], by decide +kernel⟩⟩

theorem test_hypotheses_HedgerowTransmit :
    (∃ (s : State) (x : Fin 2) (f : TxFrame) (l : List TxFrame), s.hg.port.length = 2 ∧ inStep s x HG_UP = true ∧ (s.hgp x).retx = f :: l ∧ f.msg.typ ≠ T_SYNC ∧ f.msg.typ ≠ T_TIME_MARK ∧ (f.msg.auth = true ∨ f.msg.trailer = [])) ∧
    (∃ (s : State) (x : Fin 2) (vc : Nat) (m : Msg) (pay : Bool), s.hg.port.length = 2 ∧ inStep s x HG_UP = true ∧ (s.hgp x).retx = [] ∧ hgPick s x = some ((vc, m), pay) ∧ m.typ ≠ T_SYNC ∧ m.typ ≠ T_TIME_MARK ∧ m.typ ≠ T_KEY_CONFIRM ∧ (s.rd (A.HGx_TXCTR x)).toNat + 1 < 2 ^ 31 ∧ (s.hgp 0).rx = [] ∧ (s.hgp 1).rx = []) ∧
    (∃ (s : State) (x : Fin 2), s.hg.port.length = 2 ∧ inStep s x HG_UP = true ∧ (s.hgp x).retx = [] ∧ hgPick s x = none) ∧
    (∃ (s : State) (x : Fin 2) (e : Nat × Msg), s.hg.port.length = 2 ∧ inStep s x HG_UP = true ∧ hgFirst s x VC_SAFE = some e) ∧
    (∃ (s : State) (x : Fin 2) (e : Nat × Msg) (pay : Bool), s.hg.port.length = 2 ∧ inStep s x HG_UP = true ∧ hgPick s x = some (e, pay)) ∧
    (∃ (s : State) (x : Fin 2), s.hg.port.length = 2 ∧ inStep s x HG_UP = false) ∧
    (∃ (s : State) (x : Fin 2) (f : TxFrame) (l : List TxFrame), s.hg.port.length = 2 ∧ inStep s x HG_UP = true ∧ (s.hgp x).retx = f :: l) ∧
    (∃ (s : State) (x : Fin 2) (vc : Nat) (m : Msg) (pay : Bool), s.hg.port.length = 2 ∧ inStep s x HG_UP = true ∧ (s.hgp x).retx = [] ∧ hgPick s x = some ((vc, m), pay)) ∧
    (∃ (s : State) (x : Fin 2) (vc : Nat) (m : Msg) (pay : Bool), s.hg.port.length = 2 ∧ inStep s x HG_UP = true ∧ (s.hgp x).retx = [] ∧ hgPick s x = some ((vc, m), pay) ∧ m.typ = T_KEY_CONFIRM ∧ m.auth = true ∧ (s.hgp x).key.confSeen = false ∧ (s.hgp 0).rx = [] ∧ (s.hgp 1).rx = []) :=
  ⟨⟨({ (puts [(F.HGx_ST_STATE 0, HG_UP)] inWatch) with hg.port := portT 0 { HgPort.reset with retx := [⟨6, 1, noteT⟩] } } : State), 0, ⟨6, 1, noteT⟩, [], by decide +kernel⟩,
    ⟨({ (puts [(F.HGx_ST_STATE 0, HG_UP), (F.HGx_SEC_KST 0, 2), (F.HGx_ST_STATE 0, HG_UP)] inWatch) with hg.port := portT 0 { HgPort.reset with tx := [(1, noteT)], init := [4, 8, 32, 32] } } : State), 0, 1, noteT, false, by decide +kernel⟩,
    ⟨puts [(F.HGx_ST_STATE 0, HG_UP)] inWatch, 0, by decide +kernel⟩,
    ⟨({ (puts [(F.HGx_ST_STATE 0, HG_UP), (F.HGx_SEC_KST 0, 2), (F.HGx_ST_STATE 0, HG_UP)] inWatch) with hg.port := portT 0 { HgPort.reset with tx := [(0, { noteT with typ := T_SAFE_HB })], init := [4, 8, 32, 32] } } : State), 0, (0, { noteT with typ := T_SAFE_HB }), by decide +kernel⟩,
    ⟨({ (puts [(F.HGx_ST_STATE 0, HG_UP), (F.HGx_SEC_KST 0, 2), (F.HGx_ST_STATE 0, HG_UP)] inWatch) with hg.port := portT 0 { HgPort.reset with tx := [(0, { noteT with typ := T_SAFE_HB })], init := [4, 8, 32, 32] } } : State), 0, (0, { noteT with typ := T_SAFE_HB }), false, by decide +kernel⟩,
    ⟨inWatch, 0, by decide +kernel⟩,
    ⟨({ (puts [(F.HGx_ST_STATE 0, HG_UP)] inWatch) with hg.port := portT 0 { HgPort.reset with retx := [⟨6, 1, { noteT with typ := T_SYNC }⟩] } } : State), 0, ⟨6, 1, { noteT with typ := T_SYNC }⟩, [], by decide +kernel⟩,
    ⟨({ (puts [(F.HGx_ST_STATE 0, HG_UP), (F.HGx_SEC_KST 0, 2)] inWatch) with hg.port := portT 0 { HgPort.reset with tx := [(1, noteT)], init := [4, 8, 32, 32] } } : State), 0, 1, noteT, false, by decide +kernel⟩,
    ⟨({ (puts [(F.HGx_ST_STATE 0, HG_UP)] inWatch) with hg.port := portT 0 { HgPort.reset with tx := [(1, { noteT with typ := T_KEY_CONFIRM, auth := true })], init := [4, 8, 32, 32] } } : State), 0, 1, { noteT with typ := T_KEY_CONFIRM, auth := true }, false, by decide +kernel⟩⟩

def stHedgerowKeysAndQuarantine_4 : State := puts [(F.HGx_SEC_KST 0, (2) + 1)] ({ keyP { KeySt.reset with helloSent := true } [rx T_KEY_HELLO 1 1 (List.replicate 16 0)] inWatch with nvm := { inWatch.nvm with link := setNth inWatch.nvm.link 0 (some (7, 3)) } })
def stHedgerowKeysAndQuarantine_5 : State := (keyP { KeySt.reset with helloSent := true, helloSeen := true, nextRecv := 5, gen := 1 } [confT 5 1] inWatch)
def stHedgerowKeysAndQuarantine_6 : State := (keyP { KeySt.reset with helloSent := true, helloSeen := true, nextRecv := 5, gen := 1 } [confT 6 1] inWatch)
def stHedgerowKeysAndQuarantine_k : State := keyP { KeySt.reset with helloSent := true } [rx T_KEY_HELLO 1 1 (List.replicate 16 0)] inWatch
def stHedgerowKeysAndQuarantine_l : State := keyP { KeySt.reset with helloSent := false } [rx T_KEY_HELLO 1 1 (List.replicate 16 0)] inWatch
def stHedgerowKeysAndQuarantine_m : State := puts [(F.HGx_ST_STATE 0, HG_UP), (F.HGx_SEC_KST 0, 2)] ({ stHedgerowKeysAndQuarantine_l with nvm := { inWatch.nvm with link := setNth inWatch.nvm.link 0 (some (7, 3)) } })

theorem test_hypotheses_HedgerowKeysAndQuarantine :
    (∃ (s : State) (x : Fin 2), s.hg.port.length = 2 ∧ inStep s x HG_UP = true ∧ s.get (F.HGx_SEC_KST x) < 2) ∧
    (∃ (s : State) (x : Fin 2), s.hg.port.length = 2 ∧ (inStep s x HG_UP = false ∨ 2 ≤ s.get (F.HGx_SEC_KST x))) ∧
    (∃ (s : State) (x : Fin 2), s.hg.port.length = 2 ∧ hgUp s x = true ∧ s.get (F.HGx_SEC_KST x) = 2) ∧
    (∃ (s : State) (x : Fin 2), s.hg.port.length = 2 ∧ (hgUp s x = false ∨ s.get (F.HGx_SEC_KST x) ≠ 2)) ∧
    (∃ (s : State) (x : Fin 2) (r : RxMsg) (u : State) (lk : Nat) (perm : Nat), s.hg.port.length = 2 ∧ msgOwn s x T_KEY_HELLO = some (r, u) ∧ s.get (F.HGx_SEC_KST x) ≠ 2 ∧ (s.hgp x).key.helloSent = true ∧ (s.hgp x).key.helloSeen = false ∧ hgKey s x = some (lk, perm)) ∧
    (∃ (s : State) (x : Fin 2) (r : RxMsg) (u : State), s.hg.port.length = 2 ∧ msgOwn s x T_KEY_CONFIRM = some (r, u) ∧ keyDerived (s.hgp x).key = true ∧ trailerCtr r.msg = 0 ∧ trailerGen r.msg = (s.hgp x).key.gen % 2 ∧ macOk (s.hgp x).key.nextRecv r.msg = true) ∧
    (∃ (s : State) (x : Fin 2) (r : RxMsg) (u : State), s.hg.port.length = 2 ∧ msgOwn s x T_KEY_CONFIRM = some (r, u) ∧ (keyDerived (s.hgp x).key = false ∨ trailerGen r.msg ≠ (s.hgp x).key.gen % 2 ∨ macOk (s.hgp x).key.nextRecv r.msg = false ∨ trailerCtr r.msg ≠ 0)) ∧
    (∃ (s : State) (x : Fin 2), s.hg.port.length = 2 ∧ s.clk.present = true ∧ s.get (F.HGx_QCTL_QSTATE x) = 1) ∧
    (∃ (s : State) (x : Fin 2), s.hg.port.length = 2 ∧ (s.clk.present = false ∨ s.get (F.HGx_QCTL_QSTATE x) ≠ 1)) ∧
    (∃ (s : State) (x : Fin 2), s.hg.port.length = 2 ∧ hgQuar s x = true) ∧
    (∃ (s : State) (x : Fin 2), s.hg.port.length = 2 ∧ hgQuar s x = false) ∧
    (∃ (s : State) (x : Fin 2) (r : RxMsg) (u : State), s.hg.port.length = 2 ∧ msgOwn s x T_KEY_HELLO = some (r, u) ∧ s.get (F.HGx_SEC_KST x) ≠ 2 ∧ (s.hgp x).key.helloSent = true ∧ (s.hgp x).key.helloSeen = false ∧ hgKey s x = none) ∧
    (∃ (s : State) (x : Fin 2) (r : RxMsg) (u : State), s.hg.port.length = 2 ∧ msgOwn s x T_KEY_HELLO = some (r, u) ∧ s.get (F.HGx_SEC_KST x) ≠ 2 ∧ ((s.hgp x).key.helloSent = false ∨ (s.hgp x).key.helloSeen = true)) ∧
    (∃ (s : State) (x : Fin 2) (r : RxMsg) (u : State) (lk : Nat) (perm : Nat), s.hg.port.length = 2 ∧ msgOwn s x T_KEY_HELLO = some (r, u) ∧ s.get (F.HGx_SEC_KST x) = 2 ∧ hgUp s x = true ∧ hgKey s x = some (lk, perm)) ∧
    (∃ (s : State) (x : Fin 2), s.hg.port.length = 2 ∧ msgOwn s x T_KEY_HELLO = none) ∧
    (∃ (s : State) (x : Fin 2), s.hg.port.length = 2 ∧ msgOwn s x T_KEY_CONFIRM = none) :=
  ⟨⟨puts [(F.HGx_ST_STATE 0, HG_UP)] inWatch, 0, by decide +kernel⟩,
    ⟨inWatch, 0, by decide +kernel⟩,
    ⟨puts [(F.HGx_ST_STATE 0, HG_UP), (F.HGx_SEC_KST 0, 2)] inWatch, 0, by decide +kernel⟩,
    ⟨inWatch, 0, by decide +kernel⟩,
    ⟨stHedgerowKeysAndQuarantine_4, 0, rx T_KEY_HELLO 1 1 (List.replicate 16 0), taken (stHedgerowKeysAndQuarantine_4) 0 T_KEY_HELLO, 7, 3, by decide +kernel⟩,
    ⟨stHedgerowKeysAndQuarantine_5, 0, confT 5 1, taken (stHedgerowKeysAndQuarantine_5) 0 T_KEY_CONFIRM, by decide +kernel⟩,
    ⟨stHedgerowKeysAndQuarantine_6, 0, confT 6 1, taken (stHedgerowKeysAndQuarantine_6) 0 T_KEY_CONFIRM, by decide +kernel⟩,
    ⟨puts [(F.HGx_QCTL_QSTATE 0, 1)] inWatch, 0, by decide +kernel⟩,
    ⟨puts [(F.HGx_QCTL_QSTATE 0, (1) + 1)] inWatch, 0, by decide +kernel⟩,
    ⟨puts [(F.HGx_QCTL_QSTATE 0, 1)] inWatch, 0, by decide +kernel⟩,
    ⟨inWatch, 0, by decide +kernel⟩,
    ⟨stHedgerowKeysAndQuarantine_k, 0, rx T_KEY_HELLO 1 1 (List.replicate 16 0), taken stHedgerowKeysAndQuarantine_k 0 T_KEY_HELLO, by decide +kernel⟩,
    ⟨stHedgerowKeysAndQuarantine_l, 0, rx T_KEY_HELLO 1 1 (List.replicate 16 0), taken stHedgerowKeysAndQuarantine_l 0 T_KEY_HELLO, by decide +kernel⟩,
    ⟨stHedgerowKeysAndQuarantine_m, 0, rx T_KEY_HELLO 1 1 (List.replicate 16 0), taken stHedgerowKeysAndQuarantine_m 0 T_KEY_HELLO, 7, 3, by decide +kernel⟩,
    ⟨inWatch, 0, by decide +kernel⟩,
    ⟨inWatch, 0, by decide +kernel⟩⟩

def stHedgerowMessages_8 : State := (withRx 0 (rx T_WAKE 0 1 []) inWatch)
def stHedgerowMessages_10 : State := ({ (puts [(F.FLT_SYNC_MSG_EN, 1)] (withRx 0 (rx T_SYNC 0 1 [100, 0, 0, 0]) inWatch)) with flt.sync := none, clk.phase := .run, clk.present := true } : State)
def stHedgerowMessages_11 : State := ({ (puts [(F.FLT_SYNC_MSG_EN, 1), (F.HGx_RTT_LAT 0, 1)] (withRx 0 (rx T_SYNC 0 1 [1, 0, 0, 0]) inWatch)) with flt.sync := none, clk.phase := .run, clk.present := true } : State)
def stHedgerowMessages_12 : State := puts [(F.FLT_SYNC_MSG_EN, 0)] (withRx 0 (rx T_SYNC 0 1 [1, 0, 0, 0]) inWatch)
def stHedgerowMessages_13 : State := puts [(F.LSN_CFG_RWAKE_EN, 0)] (withRx 0 (rx T_WAKE 0 3 (List.replicate 12 1)) inWatch)
def stHedgerowMessages_14 : State := ({ (puts [(F.LSN_CFG_RWAKE_EN, 1), (F.PWR_STATE_STATE, WATCH), (F.LSN_WAKE_QUAL, 0)] (withRx 0 (rx T_WAKE 0 3 (List.replicate 12 1)) inWatch)) with pwr.start := none, pwr.trans := none } : State)
def stHedgerowMessages_15 : State := puts [(F.LSN_CFG_RPRE_EN, 1)] (withRx 0 (rx T_PREWAKE 0 3 []) inWatch)
def stHedgerowMessages_16 : State := puts [(F.LSN_CFG_RPRE_EN, 0)] (withRx 0 (rx T_PREWAKE 0 3 []) inWatch)
def stHedgerowMessages_17 : State := (withRx 0 (rx T_STAND_DOWN 0 3 []) inWatch)
def stHedgerowMessages_18 : State := (withRx 0 (rx T_TIME_MARK 0 3 (List.replicate 12 1)) (inWatch.setPair A.SWA_SC_LO 300))
def stHedgerowMessages_19 : State := (withRx 0 (rx T_NOTICE 0 3 (List.replicate 32 1)) inWatch)
def stHedgerowMessages_20 : State := (withRx 0 (rx T_TOPO 0 4 [1, 2, 0, 0]) inWatch)
def stHedgerowMessages_21 : State := (withRx 0 (rx T_AUDIO 0 1 []) inWatch)
def stHedgerowMessages_22 : State := (withRx 0 (rx T_BULK_SEG 0 1 []) inWatch)
def stHedgerowMessages_23 : State := (withRx 0 (rx T_NAK_DENIED 0 1 []) inWatch)
def stHedgerowMessages_24 : State := ({ ((withRx 0 (rx T_BULK_ACK 0 1 (7 :: List.replicate 11 0)) inWatch)) with swa.strip := stripT 7 { StripSt.reset with flight := [0] } } : State)
def stHedgerowMessages_25 : State := (withRx 0 (rx T_BULK_ACK 0 1 (7 :: List.replicate 11 0)) inWatch)
def stHedgerowMessages_26 : State := puts [(F.HG0_ROUTEp_VALID (rx T_BULK_READ 0 4 (List.replicate 12 0)).msg.src, 1), (F.HG0_ROUTEp_VALID 4, 1)] (withRx 0 (rx T_BULK_READ 0 4 (List.replicate 12 0)) inWatch)
def stHedgerowMessages_27 : State := puts [(F.SWA_MITTEN_OPEN, 1)] (withRx 0 (rx T_BULK_READ 0 4 (List.replicate 12 0)) inWatch)
def stHedgerowMessages_s : State := withRx 0 (rx T_STAND_DOWN 0 4 []) inWatch
def stHedgerowMessages_r : State := puts [(F.SWA_MITTEN_OPEN, 1), (F.SWA_MITTEN_SS_OPEN, 1), (F.HG0_ROUTEp_VALID 4, 1), (F.HG0_ROUTEp_PORT 4, 1)] (withRx 0 (rx T_BULK_READ 9 4 ([1, 0, 0, 0, 0xC0, 0xFF, 3, 0, 4, 0, 0, 0])) inWatch)

theorem test_hypotheses_HedgerowMessages :
    (∃ (s : State) (x : Fin 2), s.hg.port.length = 2 ∧ msgOwn s x T_SYNC = none) ∧
    (∃ (s : State) (x : Fin 2), s.hg.port.length = 2 ∧ msgOwn s x T_WAKE = none) ∧
    (∃ (s : State) (x : Fin 2), s.hg.port.length = 2 ∧ msgOwn s x T_PREWAKE = none) ∧
    (∃ (s : State) (x : Fin 2), s.hg.port.length = 2 ∧ msgOwn s x T_STAND_DOWN = none) ∧
    (∃ (s : State) (x : Fin 2), s.hg.port.length = 2 ∧ msgOwn s x T_TIME_MARK = none) ∧
    (∃ (s : State) (x : Fin 2), s.hg.port.length = 2 ∧ msgOwn s x T_NOTICE = none) ∧
    (∃ (s : State) (x : Fin 2), s.hg.port.length = 2 ∧ msgOwn s x T_TOPO = none) ∧
    (∃ (s : State) (x : Fin 2), s.hg.port.length = 2 ∧ msgOwn s x T_AUDIO = none) ∧
    (∃ (s : State) (x : Fin 2), s.hg.port.length = 2 ∧ msgOwn s x T_BULK_SEG = none) ∧
    (∃ (s : State) (x : Fin 2), s.hg.port.length = 2 ∧ msgOwn s x T_BULK_ACK = none) ∧
    (∃ (s : State) (x : Fin 2), s.hg.port.length = 2 ∧ msgOwn s x T_BULK_READ = none) ∧
    (∃ (s : State) (x : Fin 2), s.hg.port.length = 2 ∧ msgOwn s x T_NAK_DENIED = none) ∧
    (∃ (s : State) (x : Fin 2) (typ : Nat) (r : RxMsg), r ∈ (s.hgp x).rx ∧ s.hg.port.length = 2 ∧ msgOwn s x typ = none) ∧
    (∃ (s : State) (x : Fin 2) (typ : Nat) (r : RxMsg) (u : State), s.hg.port.length = 2 ∧ msgOwn s x typ = some (r, u) ∧ r.relay = none) ∧
    (∃ (s : State) (x : Fin 2) (r : RxMsg) (u : State), s.hg.port.length = 2 ∧ msgOwn s x T_SYNC = some (r, u) ∧ s.flag F.FLT_SYNC_MSG_EN = true ∧ s.flt.sync = none ∧ s.clk.phase = .run ∧ s.clk.present = true ∧ s.pstate ≠ OFF ∧ s.time.hsck + s.get (F.HGx_RTT_LAT x) < r.at_ + leOfBytes r.msg.body) ∧
    (∃ (s : State) (x : Fin 2) (r : RxMsg) (u : State), s.hg.port.length = 2 ∧ msgOwn s x T_SYNC = some (r, u) ∧ s.flag F.FLT_SYNC_MSG_EN = true ∧ s.flt.sync = none ∧ s.clk.phase = .run ∧ s.clk.present = true ∧ s.pstate ≠ OFF ∧ r.at_ + leOfBytes r.msg.body ≤ s.time.hsck + s.get (F.HGx_RTT_LAT x)) ∧
    (∃ (s : State) (x : Fin 2) (r : RxMsg) (u : State), s.hg.port.length = 2 ∧ msgOwn s x T_SYNC = some (r, u) ∧ (s.flag F.FLT_SYNC_MSG_EN = false ∨ s.flt.sync ≠ none ∨ s.clk.phase ≠ .run ∨ s.clk.present = false ∨ s.pstate = OFF)) ∧
    (∃ (s : State) (x : Fin 2) (r : RxMsg) (u : State), s.hg.port.length = 2 ∧ msgOwn s x T_WAKE = some (r, u) ∧ s.flag F.LSN_CFG_RWAKE_EN = false) ∧
    (∃ (s : State) (x : Fin 2) (r : RxMsg) (u : State), s.hg.port.length = 2 ∧ msgOwn s x T_WAKE = some (r, u) ∧ s.flag F.LSN_CFG_RWAKE_EN = true ∧ s.pstate = WATCH ∧ s.pwr.start = none ∧ s.pwr.trans = none ∧ s.flag F.LSN_WAKE_QUAL = false) ∧
    (∃ (s : State) (x : Fin 2) (r : RxMsg) (u : State), s.hg.port.length = 2 ∧ msgOwn s x T_PREWAKE = some (r, u) ∧ s.flag F.LSN_CFG_RPRE_EN = true ∧ r.msg.src < 4) ∧
    (∃ (s : State) (x : Fin 2) (r : RxMsg) (u : State), s.hg.port.length = 2 ∧ msgOwn s x T_PREWAKE = some (r, u) ∧ (s.flag F.LSN_CFG_RPRE_EN = false ∨ 4 ≤ r.msg.src)) ∧
    (∃ (s : State) (x : Fin 2) (r : RxMsg) (u : State), s.hg.port.length = 2 ∧ msgOwn s x T_STAND_DOWN = some (r, u) ∧ r.msg.src < 4) ∧
    (∃ (s : State) (x : Fin 2) (r : RxMsg) (u : State), s.hg.port.length = 2 ∧ msgOwn s x T_TIME_MARK = some (r, u)) ∧
    (∃ (s : State) (x : Fin 2) (r : RxMsg) (u : State), s.hg.port.length = 2 ∧ msgOwn s x T_NOTICE = some (r, u)) ∧
    (∃ (s : State) (x : Fin 2) (r : RxMsg) (u : State), s.hg.port.length = 2 ∧ msgOwn s x T_TOPO = some (r, u)) ∧
    (∃ (s : State) (x : Fin 2) (r : RxMsg) (u : State), s.hg.port.length = 2 ∧ msgOwn s x T_AUDIO = some (r, u)) ∧
    (∃ (s : State) (x : Fin 2) (r : RxMsg) (u : State), s.hg.port.length = 2 ∧ msgOwn s x T_BULK_SEG = some (r, u)) ∧
    (∃ (s : State) (x : Fin 2) (r : RxMsg) (u : State), s.hg.port.length = 2 ∧ msgOwn s x T_NAK_DENIED = some (r, u)) ∧
    (∃ (s : State) (x : Fin 2) (r : RxMsg) (u : State) (k : Nat) (l : List Nat), s.hg.port.length = 2 ∧ msgOwn s x T_BULK_ACK = some (r, u) ∧ k = nth r.msg.body 0 0 ∧ k < 8 ∧ s.swa.strip.length = 8 ∧ (s.strip k).flight = leOfBytes (r.msg.body.drop 4) :: l ∧ stripUptr s k < leOfBytes (r.msg.body.drop 4) + 256 ∧ leOfBytes (r.msg.body.drop 4) + 256 < 2 ^ 64) ∧
    (∃ (s : State) (x : Fin 2) (r : RxMsg) (u : State) (k : Nat), s.hg.port.length = 2 ∧ msgOwn s x T_BULK_ACK = some (r, u) ∧ k = nth r.msg.body 0 0 ∧ (8 ≤ k ∨ (s.strip k).flight.head? ≠ some (leOfBytes (r.msg.body.drop 4)))) ∧
    (∃ (s : State), s.hg.port.length = 2 ∧ s.get F.HG0_NTXCTL_DST < 5 ∧ s.flag (F.HG0_ROUTEp_VALID (s.get F.HG0_NTXCTL_DST)) = true) ∧
    (∃ (s : State), s.hg.port.length = 2 ∧ (5 ≤ s.get F.HG0_NTXCTL_DST ∨ s.flag (F.HG0_ROUTEp_VALID (s.get F.HG0_NTXCTL_DST)) = false)) ∧
    (∃ (s : State) (k : Fin 8) (b : Nat) (l : List Nat), s.hg.port.length = 2 ∧ s.clk.present = true ∧ (s.strip k).flight = b :: l) ∧
    (∃ (s : State) (k : Fin 8), s.hg.port.length = 2 ∧ (s.clk.present = false ∨ (s.strip k).flight = [])) ∧
    (∃ (s : State) (x : Fin 2) (r : RxMsg) (u : State), s.hg.port.length = 2 ∧ msgOwn s x T_WAKE = some (r, u) ∧ s.flag F.LSN_CFG_RWAKE_EN = true) ∧
    (∃ (s : State) (x : Fin 2) (r : RxMsg) (u : State), s.hg.port.length = 2 ∧ msgOwn s x T_STAND_DOWN = some (r, u) ∧ 4 ≤ r.msg.src) ∧
    (∃ (s : State) (x : Fin 2) (r : RxMsg) (u : State) (k : Nat) (l : List Nat), s.hg.port.length = 2 ∧ msgOwn s x T_BULK_ACK = some (r, u) ∧ k = nth r.msg.body 0 0 ∧ k < 8 ∧ (s.strip k).flight = leOfBytes (r.msg.body.drop 4) :: l) ∧
    (∃ (s : State) (x : Fin 2) (r : RxMsg) (u : State) (sh : Bool) (a : Nat) (n : Nat), s.hg.port.length = 2 ∧ msgOwn s x T_BULK_READ = some (r, u) ∧ sh = decide (nth r.msg.body 0 0 = 1) ∧ a = leOfBytes ((r.msg.body.drop 4).take 4) ∧ n = leOfBytes ((r.msg.body.drop 8).take 4) ∧ (mittenOpen s = false ∨ (if sh then shortBytes else swathBytes) < a + n ∨ rangeReadable s sh a n = false)) ∧
    (∃ (s : State) (x : Fin 2) (r : RxMsg) (u : State) (sh : Bool) (a : Nat) (n : Nat), s.hg.port.length = 2 ∧ msgOwn s x T_BULK_READ = some (r, u) ∧ sh = decide (nth r.msg.body 0 0 = 1) ∧ a = leOfBytes ((r.msg.body.drop 4).take 4) ∧ n = leOfBytes ((r.msg.body.drop 8).take 4) ∧ (mittenOpen s = false ∨ (if sh then shortBytes else swathBytes) < a + n ∨ rangeReadable s sh a n = false) ∧ r.msg.src < 5 ∧ s.flag (F.HG0_ROUTEp_VALID r.msg.src) = true) ∧
    (∃ (s : State) (x : Fin 2) (r : RxMsg) (u : State) (sh : Bool) (a : Nat) (n : Nat), s.hg.port.length = 2 ∧ msgOwn s x T_BULK_READ = some (r, u) ∧ sh = decide (nth r.msg.body 0 0 = 1) ∧ a = leOfBytes ((r.msg.body.drop 4).take 4) ∧ n = leOfBytes ((r.msg.body.drop 8).take 4) ∧ mittenOpen s = true ∧ a + n ≤ (if sh then shortBytes else swathBytes) ∧ rangeReadable s sh a n = true) ∧
    (∃ (s : State) (x : Fin 2) (r : RxMsg) (u : State) (sh : Bool) (a : Nat) (n : Nat), s.hg.port.length = 2 ∧ msgOwn s x T_BULK_READ = some (r, u) ∧ sh = decide (nth r.msg.body 0 0 = 1) ∧ a = leOfBytes ((r.msg.body.drop 4).take 4) ∧ n = leOfBytes ((r.msg.body.drop 8).take 4) ∧ mittenOpen s = true ∧ a + n ≤ (if sh then shortBytes else swathBytes) ∧ rangeReadable s sh a n = true ∧ r.msg.src < 5 ∧ s.flag (F.HG0_ROUTEp_VALID r.msg.src) = true) ∧
    (∃ (s : State) (u : Fin 16), s.hg.port.length = 2 ∧ (∀ y < 2, s.bitOf (F.HGx_USTR_STREAMS y) u = false)) ∧
    (∃ (s : State) (u : Fin 16) (y : Nat) (n : Nat), s.hg.port.length = 2 ∧ (upto 2).find? (fun y => s.bitOf (F.HGx_USTR_STREAMS y) u) = some y ∧ n = Nat.min 64 (nth s.hg.ustr u UStream.reset).buf.length ∧ (hgUp s y = false ∨ (n < 64 ∧ (n = 0 ∨ s.swa.run = true)) ∨ 16 ≤ hgWaiting s y VC_AUDIO)) ∧
    (∃ (s : State) (u : Fin 16) (y : Nat) (n : Nat), s.hg.port.length = 2 ∧ (upto 2).find? (fun y => s.bitOf (F.HGx_USTR_STREAMS y) u) = some y ∧ n = Nat.min 64 (nth s.hg.ustr u UStream.reset).buf.length ∧ s.hg.ustr.length = 16 ∧ hgUp s y = true ∧ (n = 64 ∨ (n ≠ 0 ∧ s.swa.run = false)) ∧ hgWaiting s y VC_AUDIO < 16) :=
  ⟨⟨inWatch, 0, by decide +kernel⟩,
    ⟨inWatch, 0, by decide +kernel⟩,
    ⟨inWatch, 0, by decide +kernel⟩,
    ⟨inWatch, 0, by decide +kernel⟩,
    ⟨inWatch, 0, by decide +kernel⟩,
    ⟨inWatch, 0, by decide +kernel⟩,
    ⟨inWatch, 0, by decide +kernel⟩,
    ⟨inWatch, 0, by decide +kernel⟩,
    ⟨inWatch, 0, by decide +kernel⟩,
    ⟨inWatch, 0, by decide +kernel⟩,
    ⟨inWatch, 0, by decide +kernel⟩,
    ⟨inWatch, 0, by decide +kernel⟩,
    ⟨(withRx 0 (rx T_WAKE 0 1 []) inWatch), 0, T_SYNC, rx T_WAKE 0 1 [], by decide +kernel⟩,
    ⟨stHedgerowMessages_8, 0, T_WAKE, rx T_WAKE 0 1 [], taken (stHedgerowMessages_8) 0 T_WAKE, by decide +kernel⟩,
    ⟨stHedgerowMessages_10, 0, rx T_SYNC 0 1 [100, 0, 0, 0], taken (stHedgerowMessages_10) 0 T_SYNC, by decide +kernel⟩,
    ⟨stHedgerowMessages_11, 0, rx T_SYNC 0 1 [1, 0, 0, 0], taken (stHedgerowMessages_11) 0 T_SYNC, by decide +kernel⟩,
    ⟨stHedgerowMessages_12, 0, rx T_SYNC 0 1 [1, 0, 0, 0], taken (stHedgerowMessages_12) 0 T_SYNC, by decide +kernel⟩,
    ⟨stHedgerowMessages_13, 0, rx T_WAKE 0 3 (List.replicate 12 1), taken (stHedgerowMessages_13) 0 T_WAKE, by decide +kernel⟩,
    ⟨stHedgerowMessages_14, 0, rx T_WAKE 0 3 (List.replicate 12 1), taken (stHedgerowMessages_14) 0 T_WAKE, by decide +kernel⟩,
    ⟨stHedgerowMessages_15, 0, rx T_PREWAKE 0 3 [], taken (stHedgerowMessages_15) 0 T_PREWAKE, by decide +kernel⟩,
    ⟨stHedgerowMessages_16, 0, rx T_PREWAKE 0 3 [], taken (stHedgerowMessages_16) 0 T_PREWAKE, by decide +kernel⟩,
    ⟨stHedgerowMessages_17, 0, rx T_STAND_DOWN 0 3 [], taken (stHedgerowMessages_17) 0 T_STAND_DOWN, by decide +kernel⟩,
    ⟨stHedgerowMessages_18, 0, rx T_TIME_MARK 0 3 (List.replicate 12 1), taken (stHedgerowMessages_18) 0 T_TIME_MARK, by decide +kernel⟩,
    ⟨stHedgerowMessages_19, 0, rx T_NOTICE 0 3 (List.replicate 32 1), taken (stHedgerowMessages_19) 0 T_NOTICE, by decide +kernel⟩,
    ⟨stHedgerowMessages_20, 0, rx T_TOPO 0 4 [1, 2, 0, 0], taken (stHedgerowMessages_20) 0 T_TOPO, by decide +kernel⟩,
    ⟨stHedgerowMessages_21, 0, rx T_AUDIO 0 1 [], taken (stHedgerowMessages_21) 0 T_AUDIO, by decide +kernel⟩,
    ⟨stHedgerowMessages_22, 0, rx T_BULK_SEG 0 1 [], taken (stHedgerowMessages_22) 0 T_BULK_SEG, by decide +kernel⟩,
    ⟨stHedgerowMessages_23, 0, rx T_NAK_DENIED 0 1 [], taken (stHedgerowMessages_23) 0 T_NAK_DENIED, by decide +kernel⟩,
    ⟨stHedgerowMessages_24, 0, rx T_BULK_ACK 0 1 (7 :: List.replicate 11 0), taken (stHedgerowMessages_24) 0 T_BULK_ACK, 7, [], by decide +kernel⟩,
    ⟨stHedgerowMessages_25, 0, rx T_BULK_ACK 0 1 (7 :: List.replicate 11 0), taken (stHedgerowMessages_25) 0 T_BULK_ACK, 7, by decide +kernel⟩,
    ⟨puts [(F.HG0_NTXCTL_DST, 4), (F.HG0_ROUTEp_VALID 4, 1)] inWatch, by decide +kernel⟩,
    ⟨inWatch, by decide +kernel⟩,
    ⟨({ inWatch with swa.strip := stripT 7 { StripSt.reset with flight := [256] } } : State), 7, 256, [], by decide +kernel⟩,
    ⟨inWatch, 2, by decide +kernel⟩,
    ⟨stHedgerowMessages_14, 0, rx T_WAKE 0 3 (List.replicate 12 1), taken stHedgerowMessages_14 0 T_WAKE, by decide +kernel⟩,
    ⟨stHedgerowMessages_s, 0, rx T_STAND_DOWN 0 4 [], taken stHedgerowMessages_s 0 T_STAND_DOWN, by decide +kernel⟩,
    ⟨stHedgerowMessages_24, 0, rx T_BULK_ACK 0 1 (7 :: List.replicate 11 0), taken stHedgerowMessages_24 0 T_BULK_ACK, 7, [], by decide +kernel⟩,
    ⟨stHedgerowMessages_26, 0, rx T_BULK_READ 0 4 (List.replicate 12 0), taken stHedgerowMessages_26 0 T_BULK_READ, false, 0, 0, by decide +kernel⟩,
    ⟨stHedgerowMessages_26, 0, rx T_BULK_READ 0 4 (List.replicate 12 0), taken stHedgerowMessages_26 0 T_BULK_READ, false, 0, 0, by decide +kernel⟩,
    ⟨stHedgerowMessages_27, 0, rx T_BULK_READ 0 4 (List.replicate 12 0), taken stHedgerowMessages_27 0 T_BULK_READ, false, 0, 0, by decide +kernel⟩,
    ⟨stHedgerowMessages_r, 0, rx T_BULK_READ 9 4 ([1, 0, 0, 0, 0xC0, 0xFF, 3, 0, 4, 0, 0, 0]), taken stHedgerowMessages_r 0 T_BULK_READ, true, 0x3FFC0, 4, by decide +kernel⟩,
    ⟨inWatch, 2, by decide +kernel⟩,
    ⟨({ (puts [(F.HGx_USTR_STREAMS 1, 0x8000), (F.HGx_ST_STATE 1, HG_UP)] inWatch) with swa.run := true, hg.ustr := setNth (List.replicate 16 UStream.reset) 15 { UStream.reset with buf := List.replicate 63 1, drops := 3, count := 128 } } : State), 15, 1, 63, by decide +kernel⟩,
    ⟨({ (puts [(F.HGx_USTR_STREAMS 1, 0x8000), (F.HGx_ST_STATE 1, HG_UP)] inWatch) with swa.run := false, hg.ustr := setNth (List.replicate 16 UStream.reset) 15 { UStream.reset with buf := List.replicate 5 1, drops := 3, count := 128 } } : State), 15, 1, 5, by decide +kernel⟩⟩

theorem test_hypotheses_SafetyOutputs :
    (∃ (s : State) (v : BitVec 16), scareRuns s = true ∧ ((v = 0x5A3C ∧ (s.saf.token = none ∨ s.saf.token = some 0xA5C3)) ∨ (v = 0xA5C3 ∧ (s.saf.token = none ∨ s.saf.token = some 0x5A3C)))) ∧
    (∃ (s : State) (v : BitVec 16), scareRuns s = true ∧ s.pstate ≠ OFF ∧ s.saf.permit = true ∧ tokenGood s v.toNat = false) ∧
    (∃ (s : State), scareRuns s = false) ∧
    (∃ (s : State), (s.saf.permit = false ∨ s.clk.present = false)) ∧
    (∃ (s : State), s.saf.decision.isSome = true ∧ s.clk.present = true) ∧
    (∃ (s : State), (s.saf.decision = none ∨ s.clk.present = false)) ∧
    (∃ (s : State) (w : Bool) (a : Bool) (b : Bool), s.clk.present = true ∧ s.awake = true ∧ (a, b) = (if s.get F.SAF_ST_OUT = 0 then (false, false) else (w, !w))) ∧
    (∃ (s : State), scareRuns s = true ∧ s.coreRuns = true ∧ s.saf.lines = [] ∧ nth s.mon.frzAt 0 none = none ∧ nth s.mon.frzAt 1 none = none ∧ s.flag F.SAF_ARM_AINS_EN = false ∧ (s.saf.token = none ∨ s.saf.token = some 0x5A3C ∨ s.saf.token = some 0xA5C3) ∧ s.saf.decision = none) ∧
    (∃ (s : State) (k : Nat) (n : Nat) (v : Nat), scareRuns s = true ∧ s.coreRuns = true ∧ s.saf.lines = [] ∧ nth s.mon.frzAt 0 none = none ∧ nth s.mon.frzAt 1 none = none ∧ s.flag F.SAF_ARM_AINS_EN = false ∧ (s.saf.token = none ∨ s.saf.token = some 0x5A3C ∨ s.saf.token = some 0xA5C3) ∧ s.saf.decision = some (k, n, v) ∧ s.armed = true ∧ s.saf.arming = false ∧ k ∈ s.saf.table ∧ s.pwr.trans = none) ∧
    (∃ (s : State), (scareRuns s = false ∨ s.coreRuns = false)) ∧
    (∃ (s : State), s.awake = true ∧ s.clk.present = true ∧ coreState s SCARE = C_HALT) ∧
    (∃ (s : State), (s.awake = false ∨ s.clk.present = false ∨ (coreState s SCARE ≠ C_HALT ∧ coreState s SCARE ≠ C_FAULT))) ∧
    (∃ (s : State), scareRuns s = true ∧ s.saf.permit = false) ∧
    (∃ (s : State), s.saf.permit = true ∧ s.clk.present = true) ∧
    (∃ (s : State), (s.clk.present = false ∨ s.awake = false)) ∧
    (∃ (s : State), scareRuns s = true ∧ s.coreRuns = true) :=
  ⟨⟨inWatch, 0x5A3C, by decide +kernel⟩,
    ⟨({ inWatch with saf.permit := true } : State), 0, by decide +kernel⟩,
    ⟨(State.reset), by decide +kernel⟩,
    ⟨({ inWatch with saf.permit := false } : State), by decide +kernel⟩,
    ⟨({ inWatch with saf.decision := some (1, 0, 5) } : State), by decide +kernel⟩,
    ⟨inWatch, by decide +kernel⟩,
    ⟨({ (puts [(F.PWR_STATE_STATE, WATCH)] inWatch) with clk.present := true } : State), true, false, false, by decide +kernel⟩,
    ⟨puts [(F.HGx_ST_STATE 1, HG_UP)] inWatch, by decide +kernel⟩,
    ⟨({ (puts [(F.CLK_STAT_LOCK, 1), (F.SAF_ARM_AINS_EN, 0), (F.SAF_ST_ARMED, 1)] inWatch) with saf.lines := [], saf.token := none, saf.decision := some (63, 0, 5), saf.arming := false, pwr.trans := none, saf.table := [63] } : State), 63, 0, 5, by decide +kernel⟩,
    ⟨(State.reset), by decide +kernel⟩,
    ⟨({ (puts [(F.PWR_STATE_STATE, WATCH)] inWatch) with clk.present := true, frw.scState := C_HALT } : State), by decide +kernel⟩,
    ⟨puts [(F.PWR_STATE_STATE, OFF)] inWatch, by decide +kernel⟩,
    ⟨inWatch, by decide +kernel⟩,
    ⟨({ inWatch with saf.permit := true } : State), by decide +kernel⟩,
    ⟨State.reset, by decide +kernel⟩,
    ⟨puts [(F.CLK_STAT_LOCK, 1)] inWatch, by decide +kernel⟩⟩

def stArmingAndAcknowledgement_14 : State := ({ inWatch with saf.ackReq := true, saf.match_ := true } : State)
def stArmingAndAcknowledgement_15 : State := ({ inWatch with saf.ackReq := true } : State)

theorem test_hypotheses_ArmingAndAcknowledgement :
    (∃ (s : State), s.saf.arming = true ∧ scareRuns s = true ∧ (s.flag F.PWR_BOOTST_FAIL = true ∨ s.flag F.PWR_BOOTST_ADCCAL_OK = false)) ∧
    (∃ (s : State), s.saf.arming = true ∧ scareRuns s = true ∧ s.flag F.PWR_BOOTST_FAIL = false ∧ s.flag F.PWR_BOOTST_ADCCAL_OK = true ∧ s.get F.SAF_LATCH_BITS ≠ 0) ∧
    (∃ (s : State), s.saf.arming = true ∧ scareRuns s = true ∧ s.flag F.PWR_BOOTST_FAIL = false ∧ s.flag F.PWR_BOOTST_ADCCAL_OK = true ∧ s.get F.SAF_LATCH_BITS = 0 ∧ stopsVerified s = false) ∧
    (∃ (s : State), s.saf.arming = true ∧ scareRuns s = true ∧ s.flag F.PWR_BOOTST_FAIL = false ∧ s.flag F.PWR_BOOTST_ADCCAL_OK = true ∧ s.get F.SAF_LATCH_BITS = 0 ∧ stopsVerified s = true ∧ s.pstate ≠ OFF) ∧
    (∃ (s : State), (s.saf.arming = false ∨ scareRuns s = false)) ∧
    (∃ (s : State), scareRuns s = false) ∧
    (∃ (s : State), (s.armed = true ∨ s.saf.arming = true ∨ s.flag F.SAF_ARM_REQ = true)) ∧
    (∃ (s : State), s.armed = false ∧ s.saf.arming = false ∧ s.flag F.SAF_ARM_REQ = false) ∧
    (∃ (s : State), s.pstate = SENTRY) ∧
    (∃ (s : State), s.pstate ≠ SENTRY) ∧
    (∃ (s : State) (u : State), s.saf.ackReq = true ∧ scareRuns s = true ∧ u = { s with saf := { s.saf with ackReq := false } } ∧ ackError u = 0) ∧
    (∃ (s : State) (u : State), s.saf.ackReq = true ∧ scareRuns s = true ∧ u = { s with saf := { s.saf with ackReq := false } } ∧ ackError u ≠ 0) ∧
    (∃ (s : State) (i : Nat), i < 25 ∧ ackError s = 0 ∧ s.bitOf F.SAF_LATCH_BITS i = true) ∧
    (∃ (s : State), (s.saf.ackReq = false ∨ scareRuns s = false)) ∧
    (∃ (s : State) (v : BitVec 16), s.get F.SAF_ACK_STEP = 2 ∧ scareRuns s = true ∧ v.toNat ≠ Nat.xor (s.get F.SAF_ACK_CHAL) 0x5AA5) ∧
    (∃ (s : State) (v : BitVec 16), s.get F.SAF_ACK_STEP = 2 ∧ scareRuns s = true ∧ v.toNat = Nat.xor (s.get F.SAF_ACK_CHAL) 0x5AA5 ∧ (s.time.ms < s.saf.ackAt + 200 ∨ s.saf.ackAt + 10000 < s.time.ms)) ∧
    (∃ (s : State) (v : BitVec 16), s.get F.SAF_ACK_STEP = 2 ∧ scareRuns s = true ∧ v.toNat = Nat.xor (s.get F.SAF_ACK_CHAL) 0x5AA5 ∧ s.saf.ackAt + 200 ≤ s.time.ms ∧ s.time.ms ≤ s.saf.ackAt + 10000) ∧
    (∃ (s : State), (s.get F.SAF_ACK_STEP ≠ 2 ∨ scareRuns s = false)) :=
  ⟨⟨({ (puts [(F.PWR_BOOTST_FAIL, 1)] inWatch) with saf.arming := true } : State), by decide +kernel⟩,
    ⟨({ (puts [(F.PWR_BOOTST_FAIL, 0), (F.PWR_BOOTST_ADCCAL_OK, 1), (F.SAF_LATCH_BITS, (0) + 1)] inWatch) with saf.arming := true } : State), by decide +kernel⟩,
    ⟨({ (puts [(F.PWR_BOOTST_FAIL, 0), (F.SAF_LATCH_BITS, 0), (F.PWR_BOOTST_ADCCAL_OK, 1), (F.DRL_SLOTs_CFG_ARM 63, 1), (F.DRL_SLOTs_CFG_CLASS 63, 0xF)] inWatch) with saf.arming := true } : State), by decide +kernel⟩,
    ⟨({ (puts [(F.PWR_BOOTST_FAIL, 0), (F.PWR_BOOTST_ADCCAL_OK, 1), (F.SAF_LATCH_BITS, 0)] inWatch) with saf.arming := true } : State), by decide +kernel⟩,
    ⟨({ inWatch with saf.arming := false } : State), by decide +kernel⟩,
    ⟨(State.reset), by decide +kernel⟩,
    ⟨puts [(F.SAF_ST_ARMED, 1)] inWatch, by decide +kernel⟩,
    ⟨({ (puts [(F.SAF_ST_ARMED, 0), (F.SAF_ARM_REQ, 0)] inWatch) with saf.arming := false } : State), by decide +kernel⟩,
    ⟨puts [(F.PWR_STATE_STATE, SENTRY)] inWatch, by decide +kernel⟩,
    ⟨inWatch, by decide +kernel⟩,
    ⟨stArmingAndAcknowledgement_14, ({ (stArmingAndAcknowledgement_14) with saf := { (stArmingAndAcknowledgement_14).saf with ackReq := false } }), by decide +kernel⟩,
    ⟨stArmingAndAcknowledgement_15, ({ (stArmingAndAcknowledgement_15) with saf := { (stArmingAndAcknowledgement_15).saf with ackReq := false } }), by decide +kernel⟩,
    ⟨({ (puts [(F.SAF_LATCH_BITS, 0x1000000)] inWatch) with saf.proved := [24], saf.match_ := true } : State), 24, by decide +kernel⟩,
    ⟨({ inWatch with saf.ackReq := false } : State), by decide +kernel⟩,
    ⟨puts [(F.SAF_ACK_STEP, 2)] inWatch, 0, by decide +kernel⟩,
    ⟨({ (puts [(F.SAF_ACK_STEP, 2), (F.SAF_ACK_CHAL, 0)] inWatch) with time.ms := 199 } : State), 0x5AA5, by decide +kernel⟩,
    ⟨({ (puts [(F.SAF_ACK_STEP, 2), (F.SAF_ACK_CHAL, 0)] inWatch) with time.ms := 200 } : State), 0x5AA5, by decide +kernel⟩,
    ⟨puts [(F.SAF_ACK_STEP, (2) + 1)] inWatch, by decide +kernel⟩⟩

def stSafetyPartners_0 : State := (withRx 0 (rx T_SAFE_HB 0 1 (pduT 3 1 1)) State.reset)
def stSafetyPartners_1 : State := (withRx 0 (rx T_SAFE_HB 0 1 (pduT 3 2 1)) inWatch)
def stSafetyPartners_2 : State := ({ (puts [(F.SAF_PARTp_STOPSRC 3, 1), (F.SAF_PARTp_HBREQ 3, 0), (F.SAF_PARTp_STOPSRC 3, 1)] (withRx 0 (rx T_SAFE_HB 0 1 (pduT 3 1 1)) inWatch)) with time.ms := 9, saf.part := setNth (List.replicate 4 partT) 3 { partT with sync := true, at_ := some 9 } } : State)
def stSafetyPartners_3 : State := (withRx 0 (rx T_SAFE_STOP 0 1 (pduT 3 2 1)) State.reset)
def stSafetyPartners_4 : State := ({ (puts [(F.SAF_PARTp_STOPSRC 3, 1), (F.SAF_PARTp_STOPSRC 3, 1), (F.SAF_ST_ARMED, 1)] (withRx 0 (rx T_SAFE_STOP 0 1 (pduT 3 2 1)) inWatch)) with saf.arming := false, pwr.trans := none, saf.part := setNth (List.replicate 4 partT) 3 { partT with sync := true, at_ := some 9 } } : State)
def stSafetyPartners_5 : State := ({ (puts [(F.SAF_PARTp_STOPSRC 3, 0), (F.SAF_PARTp_HBREQ 3, 1), (F.SAF_PARTp_HBREQ 3, 1)] (withRx 0 (rx T_SAFE_STOP 0 1 (pduT 3 2 1)) inWatch)) with saf.part := setNth (List.replicate 4 partT) 3 { partT with sync := true, at_ := some 9 } } : State)

theorem test_hypotheses_SafetyPartners :
    (∃ (s : State) (x : Fin 2) (r : RxMsg) (u : State), s.hg.port.length = 2 ∧ s.saf.part.length = 4 ∧ msgOwn s x T_SAFE_HB = some (r, u) ∧ scareRuns s = false) ∧
    (∃ (s : State) (x : Fin 2) (r : RxMsg) (u : State), s.hg.port.length = 2 ∧ s.saf.part.length = 4 ∧ msgOwn s x T_SAFE_HB = some (r, u) ∧ scareRuns s = true ∧ (r.msg.body.length ≠ 20 ∨ leOfBytes (r.msg.body.drop 16) ≠ crc32c (r.msg.body.take 16) ∨ nth r.msg.body 1 0 ≠ 1 ∨ partSet s (nth r.msg.body 0 0) = false)) ∧
    (∃ (s : State) (x : Fin 2) (r : RxMsg) (u : State) (p : Nat), s.hg.port.length = 2 ∧ s.saf.part.length = 4 ∧ msgOwn s x T_SAFE_HB = some (r, u) ∧ scareRuns s = true ∧ r.msg.body.length = 20 ∧ leOfBytes (r.msg.body.drop 16) = crc32c (r.msg.body.take 16) ∧ nth r.msg.body 1 0 = 1 ∧ p = nth r.msg.body 0 0 ∧ p < 4 ∧ s.flag (F.SAF_PARTp_STOPSRC p) = true ∧ s.flag (F.SAF_PARTp_HBREQ p) = false ∧ (s.part p).sync = true ∧ (s.part p).at_ = some s.time.ms ∧ (s.part p).ssEq + 1 < 2 ^ 32 ∧ leOfBytes ((r.msg.body.drop 4).take 4) = (s.part p).ssEq + 1) ∧
    (∃ (s : State) (x : Fin 2) (r : RxMsg) (u : State), s.hg.port.length = 2 ∧ s.saf.part.length = 4 ∧ msgOwn s x T_SAFE_STOP = some (r, u) ∧ scareRuns s = false) ∧
    (∃ (s : State) (x : Fin 2) (r : RxMsg) (u : State) (p : Nat), s.hg.port.length = 2 ∧ s.saf.part.length = 4 ∧ msgOwn s x T_SAFE_STOP = some (r, u) ∧ scareRuns s = true ∧ r.msg.body.length = 20 ∧ leOfBytes (r.msg.body.drop 16) = crc32c (r.msg.body.take 16) ∧ nth r.msg.body 1 0 = 2 ∧ p = nth r.msg.body 0 0 ∧ p < 4 ∧ (s.part p).sync = true ∧ (s.part p).ssEq + 1 < 2 ^ 32 ∧ leOfBytes ((r.msg.body.drop 4).take 4) = (s.part p).ssEq + 1 ∧ s.flag (F.SAF_PARTp_STOPSRC p) = true ∧ s.armed = true ∧ s.saf.arming = false ∧ s.pwr.trans = none) ∧
    (∃ (s : State) (x : Fin 2) (r : RxMsg) (u : State) (p : Nat), s.hg.port.length = 2 ∧ s.saf.part.length = 4 ∧ msgOwn s x T_SAFE_STOP = some (r, u) ∧ scareRuns s = true ∧ r.msg.body.length = 20 ∧ leOfBytes (r.msg.body.drop 16) = crc32c (r.msg.body.take 16) ∧ nth r.msg.body 1 0 = 2 ∧ p = nth r.msg.body 0 0 ∧ p < 4 ∧ (s.part p).sync = true ∧ (s.part p).ssEq + 1 < 2 ^ 32 ∧ leOfBytes ((r.msg.body.drop 4).take 4) = (s.part p).ssEq + 1 ∧ s.flag (F.SAF_PARTp_STOPSRC p) = false ∧ s.flag (F.SAF_PARTp_HBREQ p) = true) ∧
    (∃ (s : State) (p : Fin 4), s.hg.port.length = 2 ∧ s.saf.part.length = 4 ∧ scareRuns s = true ∧ s.flag (F.SAF_PARTp_HBREQ p) = false) ∧
    (∃ (s : State) (p : Fin 4), s.hg.port.length = 2 ∧ s.saf.part.length = 4 ∧ scareRuns s = true ∧ s.pstate ≠ OFF ∧ s.flag (F.SAF_PARTp_HBREQ p) = true) ∧
    (∃ (s : State), s.hg.port.length = 2 ∧ s.saf.part.length = 4 ∧ scareRuns s = false) ∧
    (∃ (s : State) (x : Fin 2), s.hg.port.length = 2 ∧ s.saf.part.length = 4 ∧ msgOwn s x T_SAFE_HB = none) ∧
    (∃ (s : State) (x : Fin 2), s.hg.port.length = 2 ∧ s.saf.part.length = 4 ∧ msgOwn s x T_SAFE_STOP = none) ∧
    (∃ (s : State) (x : Fin 2) (r : RxMsg) (u : State) (c : State × Bool) (p : Nat), s.hg.port.length = 2 ∧ s.saf.part.length = 4 ∧ msgOwn s x T_SAFE_HB = some (r, u) ∧ scareRuns s = true ∧ c = pduCheck (partnerHeard u r.msg.src) 1 r.msg.body ∧ p = nth r.msg.body 0 0) ∧
    (∃ (s : State) (x : Fin 2) (r : RxMsg) (u : State) (c : State × Bool) (p : Nat), s.hg.port.length = 2 ∧ s.saf.part.length = 4 ∧ msgOwn s x T_SAFE_STOP = some (r, u) ∧ scareRuns s = true ∧ c = pduCheck (partnerHeard u r.msg.src) 2 r.msg.body ∧ p = nth r.msg.body 0 0) :=
  ⟨⟨stSafetyPartners_0, 0, rx T_SAFE_HB 0 1 (pduT 3 1 1), taken (stSafetyPartners_0) 0 T_SAFE_HB, by decide +kernel⟩,
    ⟨stSafetyPartners_1, 0, rx T_SAFE_HB 0 1 (pduT 3 2 1), taken (stSafetyPartners_1) 0 T_SAFE_HB, by decide +kernel⟩,
    ⟨stSafetyPartners_2, 0, rx T_SAFE_HB 0 1 (pduT 3 1 1), taken (stSafetyPartners_2) 0 T_SAFE_HB, 3, by decide +kernel⟩,
    ⟨stSafetyPartners_3, 0, rx T_SAFE_STOP 0 1 (pduT 3 2 1), taken (stSafetyPartners_3) 0 T_SAFE_STOP, by decide +kernel⟩,
    ⟨stSafetyPartners_4, 0, rx T_SAFE_STOP 0 1 (pduT 3 2 1), taken (stSafetyPartners_4) 0 T_SAFE_STOP, 3, by decide +kernel⟩,
    ⟨stSafetyPartners_5, 0, rx T_SAFE_STOP 0 1 (pduT 3 2 1), taken (stSafetyPartners_5) 0 T_SAFE_STOP, 3, by decide +kernel⟩,
    ⟨puts [(F.SAF_PARTp_HBREQ 3, 0)] inWatch, 3, by decide +kernel⟩,
    ⟨puts [(F.SAF_PARTp_HBREQ 3, 1)] inWatch, 3, by decide +kernel⟩,
    ⟨(State.reset), by decide +kernel⟩,
    ⟨inWatch, 0, by decide +kernel⟩,
    ⟨inWatch, 0, by decide +kernel⟩,
    ⟨stSafetyPartners_2, 0, rx T_SAFE_HB 0 1 (pduT 3 1 1), taken stSafetyPartners_2 0 T_SAFE_HB, pduCheck (partnerHeard (taken stSafetyPartners_2 0 T_SAFE_HB) 1) 1 (pduT 3 1 1), 3, by decide +kernel⟩,
    ⟨stSafetyPartners_4, 0, rx T_SAFE_STOP 0 1 (pduT 3 2 1), taken stSafetyPartners_4 0 T_SAFE_STOP, pduCheck (partnerHeard (taken stSafetyPartners_4 0 T_SAFE_STOP) 1) 2 (pduT 3 2 1), 3, by decide +kernel⟩⟩

def stNvmServiceAndTestAccess_15 : State := ({ (puts [(F.PWR_STATE_STATE, WATCH)] inWatch) with pwr.deferring := false, nvm.act := none } : State)
def stNvmServiceAndTestAccess_26 : State := ({ (puts [(F.NVM_ST_MOUNTED, 1)] inWatch) with nvm.bad := (List.range 600).drop 260, nvm.sec := [⟨256, 3, [⟨5, 0, true, 1, 1, []⟩]⟩] } : State)
def stNvmServiceAndTestAccess_31 : State := ({ inWatch with nvm.bad := [254, 255] ++ (List.range 512).drop 257, nvm.sec := [⟨256, 3, [⟨5, 0, true, 1, 1, [7]⟩]⟩] } : State)
def stNvmServiceAndTestAccess_32 : State := ({ inWatch with mic.nvm := some true, nvm.bad := (List.range 512).drop 260 } : State)
def stNvmServiceAndTestAccess_33 : State := ({ inWatch with mic.nvm := some true } : State)
/-- A pair whose second part is known. -/
theorem pair_of_snd {α : Type} (p : α × Bool) (b : Bool) (h : p.2 = b) : p = (p.1, b) := by cases p; cases h; rfl

theorem test_hypotheses_NvmServiceAndTestAccess :
    (∃ (s : State) (e : Instr × Nat), e ∈ [(Instr.eraseSlot, 1), (.program, 2), (.verify, 3), (.activate, 4), (.bootsave, 5), (.provkey, 6), (.provlink, 7), (.recwrite, 8), (.recdel, 9), (.recread, 10)] ∧ s.pwr.deferring = false ∧ s.nvm.cmd = none) ∧
    (∃ (s : State) (e : Instr × Nat), e ∈ [(Instr.eraseSlot, 1), (.program, 2), (.verify, 3), (.activate, 4), (.bootsave, 5), (.provkey, 6), (.provlink, 7), (.recwrite, 8), (.recdel, 9), (.recread, 10)] ∧ s.pwr.deferring = false ∧ s.nvm.cmd.isSome = true) ∧
    (∃ (s : State) (e : Instr × Nat), e ∈ [(Instr.eraseSlot, 1), (.program, 2), (.verify, 3), (.activate, 4), (.bootsave, 5), (.provkey, 6), (.provlink, 7), (.recwrite, 8), (.recdel, 9), (.recread, 10)] ∧ s.pwr.deferring = true) ∧
    (∃ (s : State), s.flag F.NVM_ST_MOUNTED = false) ∧
    (∃ (s : State), s.flag F.NVM_ST_MOUNTED = true ∧ s.pstate ≠ SERVICE) ∧
    (∃ (s : State), s.flag F.NVM_ST_MOUNTED = true ∧ nvmKind s ≠ 0 ∧ nvmSlot s = activeSlot s (nvmKind s)) ∧
    (∃ (s : State) (c : Nat) (e : Nat), s.nvm.cmd = some (c, e) ∧ e ≠ 0 ∧ e < 16) ∧
    (∃ (s : State), s.nvm.cmd = some (1, 0) ∧ nvmKind s ≠ 0 ∧ s.nvm.slot.length = 6) ∧
    (∃ (s : State) (img : Image), s.nvm.cmd = some (3, 0) ∧ nvmKind s ≠ 0 ∧ imageCheck { s with nvm := { s.nvm with cmd := none } } (nvmKind s) (nvmIndex s) = .ok img) ∧
    (∃ (s : State), s.nvm.cmd = none) ∧
    (∃ (s : State) (e : Instr × Nat), e ∈ [(Instr.rowrep, 1), (.retire, 2), (.unretire, 3), (.sectret, 4), (.savemap, 5), (.reloadSc, 6), (.loadSentry, 7)] ∧ s.pwr.deferring = false ∧ s.nvm.act = none ∧ (svcRefuse s e.2 (s.get F.SVC_ARG_ARG) ≠ 0 ∨ e.2 ≠ 2 ∧ e.2 ≠ 6)) ∧
    (∃ (s : State) (e : Instr × Nat), e ∈ [(Instr.rowrep, 1), (.retire, 2), (.unretire, 3), (.sectret, 4), (.savemap, 5), (.reloadSc, 6), (.loadSentry, 7)] ∧ s.pwr.deferring = false ∧ s.nvm.act.isSome = true) ∧
    (∃ (s : State) (e : Instr × Nat), e ∈ [(Instr.rowrep, 1), (.retire, 2), (.unretire, 3), (.sectret, 4), (.savemap, 5), (.reloadSc, 6), (.loadSentry, 7)] ∧ s.pwr.deferring = true) ∧
    (∃ (s : State) (o : Nat), s.pwr.deferring = false ∧ s.nvm.act = none ∧ s.awake = true ∧ retireRefusal s (s.get F.SVC_ARG_ARG % 4) (s.get F.SVC_ARG_ARG / 256 % 4) = some o) ∧
    (∃ (s : State), s.pwr.deferring = false ∧ s.nvm.act = none ∧ s.awake = true ∧ retireRefusal s (s.get F.SVC_ARG_ARG % 4) (s.get F.SVC_ARG_ARG / 256 % 4) = none) ∧
    (∃ (s : State), s.pwr.deferring = false ∧ s.nvm.act = none ∧ s.pstate = SERVICE ∧ s.frw.scState ≠ 0) ∧
    (∃ (s : State) (a : Nat) (arg : Nat) (e : Nat), s.nvm.act = some (a, arg, e) ∧ e ≠ 0 ∧ e < 16 ∧ a ≠ 2) ∧
    (∃ (s : State) (arg : Nat) (e : Nat) (ws : List (Nat × Word)), s.nvm.act = some (2, arg, e) ∧ s.nvm.retire = some ws ∧ (coreAtFrame s (arg % 4) && coreAtFrame s (arg / 256 % 4)) = false) ∧
    (∃ (s : State) (arg : Nat) (e : Nat) (ws : List (Nat × Word)), s.nvm.act = some (2, arg, e) ∧ s.nvm.retire = some ws ∧ coreAtFrame s (arg % 4) = true ∧ coreAtFrame s (arg / 256 % 4) = true) ∧
    (∃ (s : State), s.nvm.retire.isSome = true ∧ s.clk.present = true) ∧
    (∃ (s : State), (s.nvm.retire = none ∨ s.clk.present = false)) ∧
    (∃ (s : State) (r : Nat), (r ∉ s.swa.flagged ∨ s.flag F.SWA_CFG_AUTOREP = false ∨ s.awake = false)) ∧
    (∃ (s : State) (n : Nat) (u : State), s.flag F.NVM_ST_MOUNTED = true ∧ (erased s).length < 8 ∧ reclaimChoice s = some n ∧ moveLive s n = some u ∧ (u.sector n).erased < 49999) ∧
    (∃ (s : State), (s.flag F.NVM_ST_MOUNTED = false ∨ 8 ≤ (erased s).length ∨ reclaimChoice s = none)) ∧
    (∃ (s : State), s.mic.nvm = none) ∧
    (∃ (s : State), s.mic.nvm = some false ∧ (∀ p < 32, recGet s R_CAL p = none)) ∧
    (∃ (s : State) (e : Instr × Nat), e ∈ [(Instr.extest, 0x00), (.idcode, 0x01), (.samplePreload, 0x02), (.clamp, 0x04), (.highz, 0x05), (.bypass, 0x1F), (.testLogicReset, 0x01)] ∧ s.pwr.test = true) ∧
    (∃ (s : State) (e : Instr × Nat), e ∈ [(Instr.extest, 0x00), (.idcode, 0x01), (.samplePreload, 0x02), (.clamp, 0x04), (.highz, 0x05), (.bypass, 0x1F), (.testLogicReset, 0x01)] ∧ s.pwr.test = false) ∧
    (∃ (s : State), s.jtag = 0x01) ∧
    (∃ (s : State), (s.jtag = 0x1F ∨ s.jtag = 0x04 ∨ s.jtag = 0x05)) ∧
    (∃ (s : State) (r : Nat), r ∈ s.swa.flagged ∧ s.flag F.SWA_CFG_AUTOREP = true ∧ s.awake = true) ∧
    (∃ (s : State) (r : Nat), r ∈ s.swa.flagged ∧ s.flag F.SWA_CFG_AUTOREP = true ∧ s.awake = true ∧ r ∉ s.swa.repaired ∧ s.get F.SWA_REP_USED < 256 ∧ s.flag F.SWA_REP_EXHAUST = false) ∧
    (∃ (s : State) (n : Nat), reclaimChoice s = some n ∧ moveLive s n = none) ∧
    (∃ (s : State) (c : Nat) (w : Option (Fin 512)), s.nvm.cmd = some (c, 0)) ∧
    (∃ (s : State), s.nvm.cmd = some (6, 0) ∧ nvmKind s = 1 ∧ s.nvm.fwkey = none) ∧
    (∃ (s : State), s.nvm.cmd = some (6, 0) ∧ nvmKind s = 2 ∧ s.nvm.seedkey = none) ∧
    (∃ (s : State) (k : List Nat), s.nvm.cmd = some (6, 0) ∧ nvmKind s = 1 ∧ s.nvm.fwkey = some k ∧ ecdsaOk k ((bufRead s nvmBuf 128).drop 64) (bufRead s nvmBuf 64) = false) ∧
    (∃ (s : State), s.nvm.cmd = some (7, 0)) ∧
    (∃ (s : State), s.nvm.cmd = some (10, 0)) ∧
    (∃ (s : State) (a : Nat) (arg : Nat), s.nvm.act = some (a, arg, 0) ∧ ¬ (a = 2 ∧ retirePending s = true)) ∧
    (∃ (s : State) (arg : Nat) (e : Nat), s.nvm.act = some (2, arg, e) ∧ retirePending s = true) ∧
    (∃ (s : State) (arg : Nat), s.nvm.act = some (3, arg, 0)) ∧
    (∃ (s : State) (u : State), s.mic.nvm = some true ∧ calSaveAll s = (u, true)) ∧
    (∃ (s : State) (u : State), s.mic.nvm = some true ∧ calSaveAll s = (u, false)) :=
  ⟨⟨({ inWatch with pwr.deferring := false, nvm.cmd := none } : State), (.eraseSlot, 1), by decide +kernel⟩,
    ⟨({ inWatch with pwr.deferring := false, nvm.cmd := some (1, 0) } : State), (.eraseSlot, 1), by decide +kernel⟩,
    ⟨({ inWatch with pwr.deferring := true } : State), (.eraseSlot, 1), by decide +kernel⟩,
    ⟨puts [(F.NVM_ST_MOUNTED, 0)] inWatch, by decide +kernel⟩,
    ⟨puts [(F.NVM_ST_MOUNTED, 1)] inWatch, by decide +kernel⟩,
    ⟨puts [(F.NVM_ST_MOUNTED, 1)] inWatch, by decide +kernel⟩,
    ⟨({ inWatch with nvm.cmd := some (1, 1) } : State), 1, 1, by decide +kernel⟩,
    ⟨({ inWatch with nvm.cmd := some (1, 0) } : State), by decide +kernel⟩,
    ⟨({ (puts [(F.NVM_CTL_KIND, 1), (F.NVM_CTL_SLOT, 1)] (withImage)) with nvm.cmd := some (3, 0) } : State), imgOk withImage 1 1, by decide +kernel⟩,
    ⟨({ inWatch with nvm.cmd := none } : State), by decide +kernel⟩,
    ⟨({ inWatch with pwr.deferring := false, nvm.act := none } : State), (.rowrep, 1), by decide +kernel⟩,
    ⟨({ inWatch with pwr.deferring := false, nvm.act := some (1, 0, 0) } : State), (.rowrep, 1), by decide +kernel⟩,
    ⟨({ inWatch with pwr.deferring := true } : State), (.rowrep, 1), by decide +kernel⟩,
    ⟨stNvmServiceAndTestAccess_15, (retireRefusal (stNvmServiceAndTestAccess_15) 0 0).getD 0, by decide +kernel⟩,
    ⟨({ (puts [(F.PWR_STATE_STATE, WATCH), (F.SVC_ARG_ARG, 0x100)] inWatch) with pwr.deferring := false, nvm.act := none } : State), by decide +kernel⟩,
    ⟨({ (puts [(F.PWR_STATE_STATE, SERVICE)] inWatch) with pwr.deferring := false, nvm.act := none } : State), by decide +kernel⟩,
    ⟨({ inWatch with nvm.act := some (1, 1, 1) } : State), 1, 1, 1, by decide +kernel⟩,
    ⟨({ (puts [(F.FRW_COREc_ST_STATE 1, C_RUN)] inWatch) with nvm.act := some (2, 0x100, 0), nvm.retire := some [] } : State), 0x100, 0, [], by decide +kernel⟩,
    ⟨({ inWatch with nvm.act := some (2, 1, 1), nvm.retire := some [(A.FRW_COREc_CTL 1, 1)] } : State), 1, 1, [(A.FRW_COREc_CTL 1, 1)], by decide +kernel⟩,
    ⟨({ inWatch with nvm.retire := some [] } : State), by decide +kernel⟩,
    ⟨({ inWatch with nvm.retire := none } : State), by decide +kernel⟩,
    ⟨inWatch, 1, by decide +kernel⟩,
    ⟨stNvmServiceAndTestAccess_26, 256, (moveLive (stNvmServiceAndTestAccess_26) 256).getD (stNvmServiceAndTestAccess_26), by decide +kernel⟩,
    ⟨inWatch, by decide +kernel⟩,
    ⟨({ inWatch with mic.nvm := none } : State), by decide +kernel⟩,
    ⟨({ inWatch with mic.nvm := some false } : State), by decide +kernel⟩,
    ⟨({ inWatch with pwr.test := true } : State), (.extest, 0x00), by decide +kernel⟩,
    ⟨({ inWatch with pwr.test := false } : State), (.extest, 0x00), by decide +kernel⟩,
    ⟨inWatch, by decide +kernel⟩,
    ⟨({ inWatch with jtag := 0x1F } : State), by decide +kernel⟩,
    ⟨({ (puts [(F.SWA_CFG_AUTOREP, 1)] inWatch) with swa.flagged := [5] } : State), 5, by decide +kernel⟩,
    ⟨({ (puts [(F.SWA_CFG_AUTOREP, 1)] inWatch) with swa.flagged := [5] } : State), 5, by decide +kernel⟩,
    ⟨stNvmServiceAndTestAccess_31, 256, by decide +kernel⟩,
    ⟨({ inWatch with nvm.cmd := some (4, 0) } : State), 4, some 300, by decide +kernel⟩,
    ⟨({ (puts [(F.NVM_CTL_KIND, 1)] inWatch) with nvm.cmd := some (6, 0), nvm.fwkey := none } : State), by decide +kernel⟩,
    ⟨({ (puts [(F.NVM_CTL_KIND, 2)] inWatch) with nvm.cmd := some (6, 0), nvm.seedkey := none } : State), by decide +kernel⟩,
    ⟨({ (puts [(F.NVM_CTL_KIND, 1)] inWatch) with nvm.cmd := some (6, 0), nvm.fwkey := some [] } : State), [], by decide +kernel⟩,
    ⟨({ inWatch with nvm.cmd := some (7, 0) } : State), by decide +kernel⟩,
    ⟨({ inWatch with nvm.cmd := some (10, 0) } : State), by decide +kernel⟩,
    ⟨({ inWatch with nvm.act := some (5, 0, 0) } : State), 5, 0, by decide +kernel⟩,
    ⟨({ inWatch with nvm.act := some (2, 0x100, 0), nvm.retire := some [] } : State), 0x100, 0, by decide +kernel⟩,
    ⟨({ inWatch with nvm.act := some (3, 1, 0), nvm.cores := [1] } : State), 1, by decide +kernel⟩,
    ⟨stNvmServiceAndTestAccess_33, (calSaveAll stNvmServiceAndTestAccess_33).1, by decide +kernel, pair_of_snd _ _ (by decide +kernel)⟩,
    ⟨stNvmServiceAndTestAccess_32, (calSaveAll stNvmServiceAndTestAccess_32).1, by decide +kernel, pair_of_snd _ _ (by decide +kernel)⟩⟩

end Sys2Proof.Tests
end

section
/-! PROOFS. What reset leaves (O3): the reset words of the filter coefficients and the glance taps (R222), and the
invariant of the block at reset. -/

namespace Sys2Proof.Machine

/-! ## Fields at reset -/

/-- At reset the register file lists no word, so that a field of the low 24 bits, such as a coefficient or a tap, shows its
register's reset word (R753). -/
theorem get_reset_low24 (a v : Nat) (h : resetWord a = BitVec.ofNat 32 v) (hv : v < 2 ^ 24) :
    State.reset.get ⟨a, 0, 24⟩ = v := by
  show bits (resetWord a).toNat 0 24 = v
  rw [h, BitVec.toNat_ofNat, bits]
  omega

theorem resetWord_of_special (a v : Nat) (h : resetSpecial a = some v) : resetWord a = BitVec.ofNat 32 v := by
  simp only [resetWord, h]

/-- In the coefficient store only the first word of each bank of 0x800 bytes resets to something else than 0. -/
theorem resetSpecial_coefficientStore (a : Nat) (lo : 0x044000 ≤ a) (hi : a < 0x050000) :
    resetSpecial a = some (if (a - 0x044000) % 0x800 = 0 then 0x7FFFFF else 0) := by
  unfold resetSpecial
  rw [if_neg (by omega), if_neg (by omega), if_neg (by omega), if_pos ⟨lo, hi⟩]

/-- The reset word of coefficient `i` of bank `b`. -/
theorem resetWord_coefficient (b i : Nat) (hb : b < 24) (hi : i < 512) :
    resetWord (A.FLT_COEFb_i b i) = if i = 0 then 0x7FFFFF#32 else 0#32 := by
  show resetWord (0x044000 + 0x800 * b + 4 * i) = _
  have offset : (0x044000 + 0x800 * b + 4 * i - 0x044000) % 0x800 = 4 * i := by omega
  rw [resetWord_of_special _ _ (resetSpecial_coefficientStore _ (by omega) (by omega)), offset]
  by_cases h : i = 0
  · rw [if_pos h, if_pos (by omega)]
  · rw [if_neg h, if_neg (by omega)]

theorem reset_first_coefficient (b : Nat) (hb : b < 24) : State.reset.get (F.FLT_COEFb_i_C b 0) = 0x7FFFFF :=
  get_reset_low24 _ _ (resetWord_coefficient b 0 hb (by omega)) (by omega)

theorem reset_other_coefficient (b i : Nat) (hb : b < 24) (h0 : 0 < i) (hi : i < 512) :
    State.reset.get (F.FLT_COEFb_i_C b i) = 0 :=
  get_reset_low24 _ _ ((resetWord_coefficient b i hb hi).trans (if_neg (by omega))) (by omega)

/-- The map of R753 gives each of the sixteen glance taps the same reset word. -/
theorem resetWord_glanceTap : ∀ k < 16, resetWord (A.FLT_GLCk k) = 0x080000#32 := by decide +kernel

theorem reset_glanceTap (k : Nat) (hk : k < 16) : State.reset.get (F.FLT_GLCk_TAP k) = 0x080000 :=
  get_reset_low24 _ _ (resetWord_glanceTap k hk) (by omega)

/-- The glance taps at reset sum to unity in their format (R222). -/
theorem reset_glanceTaps_sum : sumN ((upto 16).map (fun k => State.reset.get (F.FLT_GLCk_TAP k))) = 2 ^ 23 := by
  have taps : (upto 16).map (fun k => State.reset.get (F.FLT_GLCk_TAP k)) = (upto 16).map (fun _ => 0x080000) :=
    List.map_congr_left fun k hk => reset_glanceTap k (List.mem_range.mp hk)
  rw [taps]
  decide

/-! ## The invariant at reset -/

theorem reset_queueOk : QueueOk State.reset := List.forall_mem_nil _

/-- A unit's memories that are all empty are canonical. -/
theorem emptyMemories_wf (n : Nat) : ∀ m ∈ List.replicate n ([] : List Host.Cell), Memory.wf m = true := by
  intro m hm
  rw [List.eq_of_mem_replicate hm]
  exact mem_empty_wf

theorem reset_canonical : Canonical State.reset := by
  obtain ⟨swath, short, common, registers⟩ := reset_memories_wf
  exact ⟨registers, swath, short, common, emptyMemories_wf 6, emptyMemories_wf 6, emptyMemories_wf 6⟩

theorem reset_shaped : Shaped State.reset := by
  simp [Shaped, State.reset]

theorem reset_sound : Sound State.reset := ⟨reset_queueOk, reset_canonical, reset_shaped⟩

/-- PWR_STATE is reset to OFF. -/
theorem reset_pstate : State.reset.pstate = OFF := by decide

theorem reset_not_armed : State.reset.armed = false := by decide

/-- Settles O3: the coefficients and the glance taps read their reset words (R222), and the reset state is sound. -/
theorem resetState : Obligations.ResetState :=
  ⟨fun b hb => ⟨reset_first_coefficient b hb, fun i => reset_other_coefficient b i hb⟩, reset_glanceTap,
    reset_glanceTaps_sum, reset_sound, rfl, reset_pstate, reset_not_armed, rfl⟩

end Sys2Proof.Machine
end

section
/-! PROOFS. A REKEY request during a rekey is ignored (R674). -/

namespace Sys2Proof.Machine

/-- REKEY completes in the state of `hgRekey`. -/
theorem exec_rekey (x : Fin 2) (s : State) : exec (.rekey x) s = .next (hgRekey s x) := rfl

/-- Only a KEYED port starts a rekey (R658). -/
theorem hgRekey_eq_self_of_not_keyed {s : State} {x : Nat} (notKeyed : s.get (F.HGx_SEC_KST x) ≠ 2) : hgRekey s x = s :=
  if_neg fun ⟨_, keyed⟩ => notKeyed keyed

/-- Settles O4: a port that is rekeying (HGx_SEC.KST = 3) is not KEYED (KST = 2), so no second rekey starts. -/
theorem rekeyInProgress : Obligations.RekeyInProgress := by
  intro s x rekeying
  have notKeyed : s.get (F.HGx_SEC_KST x) ≠ 2 := by omega
  exact ⟨hgRekey s x, exec_rekey x s, hgRekey_eq_self_of_not_keyed notKeyed⟩

end Sys2Proof.Machine
end

section
/-! PROOFS. The parts of the state: what a statement about an operation names as changed or unchanged. -/

namespace Sys2Proof.Machine

/-- The parts of the state beside the register file and the queue of commands. -/
inductive Part where
  | clk | pwr | hsp | time | int | mic | flt | lsn | drl | swa | que | hg | frw | adc | mon | saf | nvm | jtag | free
  deriving DecidableEq

/-- A part is the same in two states. -/
def Part.Same : Part → State → State → Prop
  | .clk, s, t => t.clk = s.clk
  | .pwr, s, t => t.pwr = s.pwr
  | .hsp, s, t => t.hsp = s.hsp
  | .time, s, t => t.time = s.time
  | .int, s, t => t.int = s.int
  | .mic, s, t => t.mic = s.mic
  | .flt, s, t => t.flt = s.flt
  | .lsn, s, t => t.lsn = s.lsn
  | .drl, s, t => t.drl = s.drl
  | .swa, s, t => t.swa = s.swa
  | .que, s, t => t.que = s.que
  | .hg, s, t => t.hg = s.hg
  | .frw, s, t => t.frw = s.frw
  | .adc, s, t => t.adc = s.adc
  | .mon, s, t => t.mon = s.mon
  | .saf, s, t => t.saf = s.saf
  | .nvm, s, t => t.nvm = s.nvm
  | .jtag, s, t => t.jtag = s.jtag
  | .free, s, t => t.free = s.free

theorem Part.Same.rfl {p : Part} {s : State} : p.Same s s := by cases p <;> exact Eq.refl _

theorem Part.Same.trans {p : Part} {s t u : State} (h : p.Same s t) (k : p.Same t u) : p.Same s u := by
  cases p <;> exact Eq.trans k h

end Sys2Proof.Machine
end

section
/-! PROOFS. The step (O1): the front command runs, and an idle cycle passes one HSCK cycle. -/

namespace Sys2Proof.Machine

/-! ## The time counters in an idle cycle -/

/-- A fold of updates keeps what each of them keeps. -/
theorem forEach_keeps {α β : Type} (π : State → β) (l : List α) (f : State → α → State) (s : State)
    (h : ∀ s a, π (f s a) = π s) : π (forEach l f s) = π s := by
  unfold forEach
  induction l generalizing s with
  | nil => rfl
  | cons a t ih => rw [List.foldl_cons, ih, h]

@[simp] theorem ite_time (c : Prop) [Decidable c] (a b : State) : (if c then a else b).time = if c then a.time else b.time :=
  apply_ite ..

@[simp] theorem forEach_time {α : Type} (l : List α) (f : State → α → State) (s : State) (h : ∀ s a, (f s a).time = s.time) :
    (forEach l f s).time = s.time := forEach_keeps State.time l f s h

@[simp] theorem intLiveEnd_time (s : State) : (intLiveEnd s).time = s.time := by simp [intLiveEnd]
@[simp] theorem intTick_time (s : State) : (intTick s).time = s.time := by simp [intTick]
@[simp] theorem mittenMs_time (s : State) : (mittenMs s).time = s.time := by simp [mittenMs]
@[simp] theorem cycTick_time (s : State) : (cycTick s).time = s.time := by simp [cycTick]
@[simp] theorem cycTickS_time (s : State) : (cycTickS s).time = s.time := rfl
@[simp] theorem tokenTick_time (s : State) : (tokenTick s).time = s.time := forEach_time _ _ _ fun _ _ => rfl
@[simp] theorem pckTick_time (s : State) : (pckTick s).time = s.time := rfl

@[simp] theorem levelTick_time (s : State) : (levelTick s).time = s.time :=
  forEach_time _ _ _ fun s p => by dsimp only; split <;> rfl

/-- The 1 µs tick and the millisecond advance their own counters alone. -/
theorem tickAcc_hsck (s : State) : (tickAcc s).time.hsck = s.time.hsck := by
  unfold tickAcc
  dsimp only
  repeat' split
  · rfl
  · rw [intTick_time]
  · rfl
theorem msTick_hsck (s : State) : (msTick s).time.hsck = s.time.hsck := by simp [msTick]
theorem msAcc_hsck (s : State) : (msAcc s).time.hsck = s.time.hsck := by
  unfold msAcc
  repeat' split
  · rfl
  · rfl
  · rw [msTick_hsck]

@[simp] theorem chainAlign_time (s : State) (n : Nat) : (chainAlign s n).time = s.time := rfl
@[simp] theorem detReset_time (s : State) (n : Nat) : (detReset s n).time = s.time := by simp [detReset]
@[simp] theorem countStart_time (s : State) (n : Nat) : (countStart s n).time = s.time := by
  rw [countStart, State.mark_time, State.setChain_time, detReset_time, chainAlign_time]
@[simp] theorem sentryCount_time (s : State) : (sentryCount s).time = s.time := rfl
@[simp] theorem countsStart_time (s : State) : (countsStart s).time = s.time := by
  rw [countsStart, sentryCount_time, forEach_time _ _ _ countStart_time]
  exact forEach_time _ _ _ fun _ _ => State.setCic_time ..
@[simp] theorem fadesEnd_time (s : State) : (fadesEnd s).time = s.time := by simp [fadesEnd, fadeDrop]
@[simp] theorem phaseRestart_time (s : State) : (phaseRestart s).time = s.time := by
  unfold phaseRestart
  rw [forEach_time _ _ _ chainAlign_time]
  exact forEach_time _ _ _ fun _ _ => State.setCic_time ..
@[simp] theorem syncAct_time (s : State) (late : Bool) : (syncAct s late).time = s.time := by simp [syncAct]
@[simp] theorem drlRestart_time (s : State) (i : Nat) : (drlRestart s i).time = s.time := rfl
@[simp] theorem syncNow_time (s : State) : (syncNow s).time = s.time := by
  rw [syncNow, forEach_time _ _ _ drlRestart_time, syncAct_time]

@[simp] theorem syncTick_time (s : State) : (syncTick s).time = s.time := by
  unfold syncTick
  split <;> simp

/-- Where the device is clocked an idle cycle counts one HSCK cycle. -/
theorem idle_hsck (s : State) (present : s.clk.present = true) (reset : s.pwr.rst = false) (test : s.pwr.test = false) :
    (idle s).time.hsck = s.time.hsck + 1 := by
  simp [idle, present, reset, test, msAcc_hsck, tickAcc_hsck]

/-- Without HSCK, in reset and in test mode an idle cycle changes nothing. -/
theorem idle_stands (s : State) (stands : s.clk.present = false ∨ s.pwr.rst = true ∨ s.pwr.test = true) : idle s = s := by
  refine if_neg ?_
  rcases stands with h | h | h <;> simp [h]

theorem step_idle (s : State) (empty : s.pending = []) : step s = .next (idle s) := by rw [step, empty]

/-- Settles O1: the queue's front decides, and an empty queue leaves the idle cycle. -/
theorem stepRunsFrontCommand : Obligations.StepRunsFrontCommand := by
  refine ⟨fun _ _ _ => rfl, fun s empty present reset test => ?_, fun s empty stands => ?_⟩
  · exact ⟨idle s, step_idle s empty, (idle_pending s).trans empty, idle_hsck s present reset test⟩
  · rw [step_idle s empty, idle_stands s stands]

end Sys2Proof.Machine
end

section
/-! PROOFS. Frames and messages of a Hedgerow link give back what they were built from (O52; R622, R623, R641). -/

namespace Sys2Proof.Machine

/-! ## Little-endian bytes -/

@[simp] theorem bytesOfLe_length (n x : Nat) : (bytesOfLe n x).length = n := by
  induction n generalizing x with
  | zero => rfl
  | succ n ih => simp [bytesOfLe, ih]

theorem bytesOfLe_lt (n x : Nat) : ∀ b ∈ bytesOfLe n x, b < 256 := by
  induction n generalizing x with
  | zero => simp [bytesOfLe]
  | succ n ih =>
    intro b hb
    rcases List.mem_cons.mp hb with rfl | hb
    · omega
    · exact ih _ b hb

theorem leOfBytes_bytesOfLe (n x : Nat) : leOfBytes (bytesOfLe n x) = x % 256 ^ n := by
  induction n generalizing x with
  | zero => simp [bytesOfLe, leOfBytes, Nat.mod_one]
  | succ n ih =>
    rw [bytesOfLe, leOfBytes, ih, Nat.pow_succ', Nat.mod_mul, Nat.mod_mod]

theorem leOfBytes_word {x : Nat} (h : x < 2 ^ 32) : leOfBytes (bytesOfLe 4 x) = x := by
  rw [leOfBytes_bytesOfLe]
  omega

/-! ## CRC-32 -/

theorem crc32Step_lt {p crc : Nat} (b : Bool) (hp : p < 2 ^ 32) (h : crc < 2 ^ 32) : crc32Step p crc b < 2 ^ 32 := by
  have half : crc / 2 < 2 ^ 32 := by omega
  unfold crc32Step
  dsimp only
  split
  · exact Nat.xor_lt_two_pow half hp
  · exact half

theorem crc32_lt (bytes : List Nat) : crc32 bytes < 2 ^ 32 := by
  refine Nat.xor_lt_two_pow ?_ (by omega)
  generalize hl : bytes.flatMap bitsLsb = l
  clear hl
  suffices ∀ c < 2 ^ 32, l.foldl (crc32Step 0xEDB88320) c < 2 ^ 32 from this _ (by omega)
  induction l with
  | nil => exact fun c hc => hc
  | cons b t ih => exact fun c hc => ih _ (crc32Step_lt b (by omega) hc)

/-! ## Padding -/

theorem padTo_length {α : Type} (n : Nat) (d : α) (l : List α) : (padTo n d l).length = n := by
  simp [padTo]
  omega

theorem take_padTo {α : Type} (n : Nat) (d : α) (l : List α) (h : l.length ≤ n) : (padTo n d l).take l.length = l := by
  simp [padTo, List.take_take, Nat.min_eq_left h]

theorem padTo_lt {n : Nat} {l : List Nat} (h : ∀ b ∈ l, b < 256) : ∀ b ∈ padTo n 0 l, b < 256 := by
  intro b hb
  rcases List.mem_append.mp (List.mem_of_mem_take hb) with hb | hb
  · exact h b hb
  · rw [List.eq_of_mem_replicate hb]
    omega

/-! ## Frames -/

/-- The header word of a frame (R622). -/
def frameHeader (vc kind seq len : Nat) : Nat := vc + 4 * kind + 16 * seq + 2 ^ 16 * len

/-- A frame without its CRC. -/
def frameBody (vc kind seq : Nat) (pl : List Nat) : List Nat :=
  bytesOfLe 4 (frameHeader vc kind seq pl.length) ++ padTo ((pl.length + 3) / 4 * 4) 0 pl

theorem frameBytes_eq (vc kind seq : Nat) (pl : List Nat) :
    frameBytes vc kind seq pl = frameBody vc kind seq pl ++ bytesOfLe 4 (crc32 (frameBody vc kind seq pl)) := rfl

theorem frameBody_length (vc kind seq : Nat) (pl : List Nat) :
    (frameBody vc kind seq pl).length = 4 + (pl.length + 3) / 4 * 4 := by
  rw [frameBody, List.length_append, bytesOfLe_length, padTo_length]

theorem frameBytes_length (vc kind seq : Nat) (pl : List Nat) :
    (frameBytes vc kind seq pl).length = 8 + (pl.length + 3) / 4 * 4 := by
  rw [frameBytes_eq, List.length_append, bytesOfLe_length, frameBody_length]
  omega

theorem frameBytes_lt {vc kind seq : Nat} {pl : List Nat} (h : ∀ b ∈ pl, b < 256) : ∀ b ∈ frameBytes vc kind seq pl, b < 256 := by
  intro b hb
  rw [frameBytes_eq, frameBody] at hb
  rcases List.mem_append.mp hb with hb | hb
  · rcases List.mem_append.mp hb with hb | hb
    · exact bytesOfLe_lt _ _ b hb
    · exact padTo_lt h b hb
  · exact bytesOfLe_lt _ _ b hb

/-- The checks on a frame with a code error or an ABORT discard it. -/
theorem frameCheck_discards (b : List Nat) {codeErr abort : Bool} (h : codeErr = true ∨ abort = true) :
    frameCheck b codeErr abort = .crc := by
  rcases h with rfl | rfl <;> simp [frameCheck]

/-- The header's fields stand side by side. -/
theorem frameHeader_fields {vc kind seq len : Nat} (hv : vc < 4) (hk : kind < 2) (hs : seq < 4096) (hl : len ≤ 256) :
    bits (frameHeader vc kind seq len) 0 2 = vc ∧ bits (frameHeader vc kind seq len) 2 2 = kind ∧
      bits (frameHeader vc kind seq len) 4 12 = seq ∧ bits (frameHeader vc kind seq len) 16 9 = len ∧
      bits (frameHeader vc kind seq len) 25 7 = 0 ∧ frameHeader vc kind seq len < 2 ^ 32 := by
  simp only [bits, frameHeader]
  omega

/-- What the checks see of a frame: its body, its CRC, its header and its payload. -/
theorem frameBytes_parts (vc kind seq : Nat) (pl : List Nat) :
    (frameBytes vc kind seq pl).take (4 + (pl.length + 3) / 4 * 4) = frameBody vc kind seq pl ∧
      (frameBytes vc kind seq pl).drop (4 + (pl.length + 3) / 4 * 4) = bytesOfLe 4 (crc32 (frameBody vc kind seq pl)) ∧
      (frameBytes vc kind seq pl).take 4 = bytesOfLe 4 (frameHeader vc kind seq pl.length) ∧
      ((frameBytes vc kind seq pl).drop 4).take pl.length = pl := by
  have body := frameBody_length vc kind seq pl
  have header := bytesOfLe_length 4 (frameHeader vc kind seq pl.length)
  refine ⟨?_, ?_, ?_, ?_⟩
  · rw [frameBytes_eq, ← body, List.take_left]
  · rw [frameBytes_eq, ← body, List.drop_left]
  · rw [frameBytes_eq, frameBody, List.append_assoc, List.take_left' header]
  · rw [frameBytes_eq, frameBody, List.append_assoc, List.drop_left' header,
      List.take_append_of_le_length (by rw [padTo_length]; omega), take_padTo _ _ _ (by omega)]

/-- The checks of R623 give a frame's fields back. -/
theorem frameCheck_frameBytes {vc kind seq : Nat} {pl : List Nat} (hv : vc < 4) (hk : kind < 2) (hs : seq < 4096)
    (hl : pl.length ≤ 256) : frameCheck (frameBytes vc kind seq pl) false false = .good kind vc seq pl := by
  obtain ⟨body, crc, header, payload⟩ := frameBytes_parts vc kind seq pl
  obtain ⟨fvc, fkind, fseq, flen, fzero, fits⟩ := frameHeader_fields hv hk hs hl
  have n : (frameBytes vc kind seq pl).length - 4 = 4 + (pl.length + 3) / 4 * 4 := by
    rw [frameBytes_length]
    omega
  have long : ¬ (frameBytes vc kind seq pl).length < 8 := by
    rw [frameBytes_length]
    omega
  unfold frameCheck
  simp only [n, body, crc, header, leOfBytes_word (crc32_lt _), leOfBytes_word fits, fvc, fkind, fseq, flen, fzero, payload]
  rw [if_neg (by simp [long]), if_neg (by omega)]

/-! ## Messages -/

/-- Byte 1 of a message: DST, SRC and AUTH side by side, bit 7 clear (R641). -/
theorem msgByte1_fields {dst src : Nat} (auth : Bool) (hd : dst < 8) (hs : src < 8) :
    (dst + 8 * src + 64 * b2n auth) % 8 = dst ∧ (dst + 8 * src + 64 * b2n auth) / 8 % 8 = src ∧
      bit (dst + 8 * src + 64 * b2n auth) 6 = auth ∧ dst + 8 * src + 64 * b2n auth < 128 := by
  cases auth <;> simp [bit, b2n] <;> omega

theorem msgBytes_length (m : Msg) : (msgBytes m).length = 8 + m.body.length := by
  simp [msgBytes]
  omega

/-- A message parsed from its bytes is that message. -/
theorem msgParse_msgBytes (m : Msg) (hd : m.dst < 8) (hs : m.src < 8) (hp : m.param < 2 ^ 32)
    (ht : m.trailer.length = if m.auth then 16 else 0) : msgParse (msgBytes m ++ m.trailer) = some m := by
  obtain ⟨dst, src, auth, low⟩ := msgByte1_fields m.auth hd hs
  have head : msgBytes m ++ m.trailer = [m.typ, m.dst + 8 * m.src + 64 * b2n m.auth, m.hops, m.hopmax] ++
      (bytesOfLe 4 m.param ++ (m.body ++ m.trailer)) := by simp [msgBytes]
  have byte1 : nth (msgBytes m ++ m.trailer) 1 0 = m.dst + 8 * m.src + 64 * b2n m.auth := by rw [head]; rfl
  have param : ((msgBytes m ++ m.trailer).drop 4).take 4 = bytesOfLe 4 m.param := by
    rw [head]
    exact List.take_left' (bytesOfLe_length _ _)
  have n : (msgBytes m ++ m.trailer).length - m.trailer.length = (msgBytes m).length := by simp
  have body : (msgBytes m).drop 8 = m.body := by
    rw [msgBytes, List.drop_left' (by simp)]
  unfold msgParse
  simp only [byte1, auth, ← ht, param, n, List.take_left, List.drop_left, body, dst, src, leOfBytes_word hp]
  rw [if_neg]
  · rw [head]; rfl
  · rw [List.length_append, msgBytes_length]
    omega

/-- A payload too short for its header and trailer, or with bit 7 of byte 1 set, is no message. -/
theorem msgParse_none {pl : List Nat} (h : pl.length < 8 ∨ 128 ≤ nth pl 1 0 ∨ (bit (nth pl 1 0) 6 = true ∧ pl.length < 24)) :
    msgParse pl = none := by
  unfold msgParse
  dsimp only
  refine if_pos ?_
  rcases h with short | bit7 | ⟨auth, short⟩
  · left; omega
  · exact .inr bit7
  · left
    rw [auth]
    exact short

/-- Settles O52: each check reads one part of the bytes, which the builder put there. -/
theorem framesAndMessagesRoundTrip : Obligations.FramesAndMessagesRoundTrip := by
  refine ⟨fun vc kind seq pl hv hk hs hl hb => ?_, msgParse_msgBytes, fun _ => msgParse_none⟩
  exact ⟨frameCheck_frameBytes hv hk hs hl, frameBytes_length .., frameBytes_lt hb, frameCheck_discards _ (.inl rfl),
    frameCheck_discards _ (.inr rfl)⟩

end Sys2Proof.Machine
end

section
/-! PROOFS. Rules for reading a state after an update: registers, fields and pairs, what an update of the register file
leaves, and how a command's outcome is named. -/

namespace Sys2Proof.Machine

/-! ## Outcomes -/

theorem Gives.of_next {c : Instr} {s t : State} {P : State → Prop} (h : exec c s = .next t) (p : P t) : Gives c s P := ⟨t, h, p⟩

/-! ## One field after an update of another -/

/-- Two fields share no bit. -/
abbrev Fld.apart (f g : Fld) : Prop := f.addr ≠ g.addr ∨ g.lo + g.width ≤ f.lo ∨ f.lo + f.width ≤ g.lo

variable (s : State)

@[simp] theorem get_put_apart (f g : Fld) (v : Nat) (h : f.lo + f.width ≤ 32) (d : f.addr ≠ g.addr ∨ g.lo + g.width ≤ f.lo ∨ f.lo + f.width ≤ g.lo) : (s.put f v).get g = s.get g :=
  get_put_other s f g v h d

@[simp] theorem get_mark_apart (f g : Fld) (b : Bool) (h : f.lo + f.width ≤ 32) (d : f.addr ≠ g.addr ∨ g.lo + g.width ≤ f.lo ∨ f.lo + f.width ≤ g.lo) : (s.mark f b).get g = s.get g :=
  get_mark_other s f g b h d

@[simp] theorem flag_put_apart (f g : Fld) (v : Nat) (h : f.lo + f.width ≤ 32) (d : f.addr ≠ g.addr ∨ g.lo + g.width ≤ f.lo ∨ f.lo + f.width ≤ g.lo) : (s.put f v).flag g = s.flag g :=
  flag_put_other s f g v h d

@[simp] theorem flag_mark_apart (f g : Fld) (b : Bool) (h : f.lo + f.width ≤ 32) (d : f.addr ≠ g.addr ∨ g.lo + g.width ≤ f.lo ∨ f.lo + f.width ≤ g.lo) : (s.mark f b).flag g = s.flag g :=
  flag_mark_other s f g b h d

end Sys2Proof.Machine
end

section
/-! PROOFS. What an operation of the device can do, said once per operation (for O2 and the frames of the other
statements): the queue of commands stands, the parts of the state that it does not name stand, and the invariant of the
block is kept. -/

namespace Sys2Proof.Machine

/-! ## The invariant, unit by unit -/

def HspOk (x : HspSt) : Prop := x.fw.length = 5
def LsnOk (x : LsnSt) : Prop := x.sad.length = 2
def DrlOk (x : DrlSt) : Prop := x.inp.length = 5
def FltOk (x : FltSt) : Prop := x.cic.length = 32 ∧ x.chain.length = 32 ∧ x.route.length = 148
def MicOk (x : MicSt) : Prop := x.settle.length = 32
def SwaOk (x : SwaSt) : Prop := x.strip.length = 8 ∧ Memory.wf x.mem = true ∧ Memory.wf x.short = true
def QueOk (x : QueSt) : Prop := x.q.length = 64
def HgOk (x : HgSt) : Prop := x.port.length = 2 ∧ x.ustr.length = 16
def FrwOk (x : FrwSt) : Prop :=
  x.core.length = 6 ∧ x.prog.length = 6 ∧ x.data.length = 6 ∧ x.badProg.length = 6 ∧ x.badData.length = 6 ∧
    Memory.wf x.common = true ∧ (∀ m ∈ x.prog, Memory.wf m = true) ∧ (∀ m ∈ x.data, Memory.wf m = true)
def AdcOk (x : AdcSt) : Prop := x.x.length = 2
def MonOk (x : MonSt) : Prop := x.crit.length = 4 ∧ x.frz.length = 2 ∧ x.runs.length = 4
def SafOk (x : SafSt) : Prop := x.part.length = 4
def NvmOk (x : NvmSt) : Prop := x.slot.length = 6 ∧ ∀ m ∈ x.slot, Memory.wf m = true

/-- The canonical and shaped block, unit by unit. -/
structure Inv (s : State) : Prop where
  regs : sparseWf resetWord s.regs = true
  hsp : HspOk s.hsp
  mic : MicOk s.mic
  flt : FltOk s.flt
  lsn : LsnOk s.lsn
  drl : DrlOk s.drl
  swa : SwaOk s.swa
  que : QueOk s.que
  hg : HgOk s.hg
  frw : FrwOk s.frw
  adc : AdcOk s.adc
  mon : MonOk s.mon
  saf : SafOk s.saf
  nvm : NvmOk s.nvm

theorem inv_iff (s : State) : Inv s ↔ Canonical s ∧ Shaped s := by
  constructor
  · rintro ⟨regs, hsp, mic, ⟨cic, chain, route⟩, lsn, drl, ⟨strip, mem, short⟩, que, ⟨port, ustr⟩,
      ⟨core, prog, data, badProg, badData, common, progs, datas⟩, adc, ⟨crit, frz, runs⟩, saf, slot, slots⟩
    exact ⟨⟨regs, mem, short, common, progs, datas, slots⟩, que, port, ustr, core, prog, data, badProg, badData, hsp, lsn, drl,
      cic, chain, route, mic, strip, adc, crit, frz, runs, slot, saf⟩
  · rintro ⟨⟨regs, mem, short, common, progs, datas, slots⟩, que, port, ustr, core, prog, data, badProg, badData, hsp, lsn, drl,
      cic, chain, route, mic, strip, adc, crit, frz, runs, slot, saf⟩
    exact ⟨regs, hsp, mic, ⟨cic, chain, route⟩, lsn, drl, ⟨strip, mem, short⟩, que, ⟨port, ustr⟩,
      ⟨core, prog, data, badProg, badData, common, progs, datas⟩, adc, ⟨crit, frz, runs⟩, saf, slot, slots⟩

/-! ## What is kept between two states -/

/-- Every part of the first list stands in the second. -/
def partsIn (us vs : List Part) : Bool := us.all fun p => decide (p ∈ vs)

theorem mem_of_partsIn {us vs : List Part} (h : partsIn us vs = true) {p : Part} (hp : p ∈ us) : p ∈ vs :=
  of_decide_eq_true (List.all_eq_true.mp h p hp)

/-- Between two states the queue stands, and so does every part outside a list; the invariant is kept. -/
structure Keeps (ps : List Part) (s t : State) : Prop where
  pending : t.pending = s.pending
  same : ∀ p, p ∉ ps → p.Same s t
  inv : Inv s → Inv t

namespace Keeps

variable {ps qs : List Part} {s t u : State}

protected theorem rfl : Keeps [] s s := ⟨Eq.refl _, fun _ _ => Part.Same.rfl, id⟩

theorem andThen (h : Keeps ps s t) (k : Keeps qs t u) : Keeps (ps ++ qs) s u where
  pending := k.pending.trans h.pending
  same p hp := by
    rw [List.mem_append, not_or] at hp
    exact (h.same p hp.1).trans (k.same p hp.2)
  inv := k.inv ∘ h.inv

theorem mono (h : Keeps ps s t) (k : partsIn ps qs = true) : Keeps qs s t :=
  ⟨h.pending, fun p hp => h.same p fun m => hp (mem_of_partsIn k m), h.inv⟩

theorem left (h : Keeps ps s t) : Keeps (ps ++ qs) s t :=
  ⟨h.pending, fun p hp => h.same p fun m => hp (List.mem_append_left _ m), h.inv⟩

theorem right (h : Keeps ps s t) : Keeps (qs ++ ps) s t :=
  ⟨h.pending, fun p hp => h.same p fun m => hp (List.mem_append_right _ m), h.inv⟩

theorem ite {c : Prop} [Decidable c] (h : Keeps ps s t) (k : Keeps qs s u) : Keeps (ps ++ qs) s (if c then t else u) := by
  split
  · exact ⟨h.pending, fun p hp => h.same p fun m => hp (List.mem_append_left _ m), h.inv⟩
  · exact ⟨k.pending, fun p hp => k.same p fun m => hp (List.mem_append_right _ m), k.inv⟩

theorem foldl {α : Type} {l : List α} {f : State → α → State} (h : ∀ s a, Keeps ps s (f s a)) : Keeps ps s (l.foldl f s) := by
  induction l generalizing s with
  | nil => exact ⟨Eq.refl _, fun _ _ => Part.Same.rfl, id⟩
  | cons a l ih =>
    exact ⟨ih.pending.trans (h s a).pending, fun p hp => ((h s a).same p hp).trans (ih.same p hp), ih.inv ∘ (h s a).inv⟩

theorem forEach {α : Type} {l : List α} {f : State → α → State} (h : ∀ s a, Keeps ps s (f s a)) : Keeps ps s (forEach l f s) :=
  foldl h

/-- A fold over a pair whose first component is the state. -/
theorem foldl_fst {α β : Type} {l : List α} {f : State × β → α → State × β} {b : β}
    (h : ∀ s b a, Keeps ps s (f (s, b) a).1) : Keeps ps s (l.foldl f (s, b)).1 := by
  induction l generalizing s b with
  | nil => exact ⟨Eq.refl _, fun _ _ => Part.Same.rfl, id⟩
  | cons a l ih =>
    have h1 := h s b a
    have h2 := ih (s := (f (s, b) a).1) (b := (f (s, b) a).2)
    exact ⟨h2.pending.trans h1.pending, fun p hp => (h1.same p hp).trans (h2.same p hp), h2.inv ∘ h1.inv⟩

/-- A fold over a pair whose second component is the state. -/
theorem foldl_snd {α β : Type} {l : List α} {f : β × State → α → β × State} {b : β}
    (h : ∀ s b a, Keeps ps s (f (b, s) a).2) : Keeps ps s (l.foldl f (b, s)).2 := by
  induction l generalizing s b with
  | nil => exact ⟨Eq.refl _, fun _ _ => Part.Same.rfl, id⟩
  | cons a l ih =>
    have h1 := h s b a
    have h2 := ih (s := (f (b, s) a).2) (b := (f (b, s) a).1)
    exact ⟨h2.pending.trans h1.pending, fun p hp => (h1.same p hp).trans (h2.same p hp), h2.inv ∘ h1.inv⟩

theorem when {c : Bool} {f : State → State} (h : Keeps ps s t) (k : Keeps qs s (f t)) : Keeps (ps ++ qs) s (t.when c f) := by
  cases c
  · exact ⟨h.pending, fun p hp => h.same p fun m => hp (List.mem_append_left _ m), h.inv⟩
  · exact ⟨k.pending, fun p hp => k.same p fun m => hp (List.mem_append_right _ m), k.inv⟩

theorem ite_fst {α : Type} {c : Prop} [Decidable c] {p q : State × α} (h : Keeps ps s p.1) (k : Keeps qs s q.1) :
    Keeps (ps ++ qs) s (if c then p else q).1 := by
  rw [apply_ite Prod.fst]
  exact h.ite k

theorem ite_snd {α : Type} {c : Prop} [Decidable c] {p q : α × State} (h : Keeps ps s p.2) (k : Keeps qs s q.2) :
    Keeps (ps ++ qs) s (if c then p else q).2 := by
  rw [apply_ite Prod.snd]
  exact h.ite k

theorem getD {o : Option State} (h : Keeps ps s t) (k : ∀ u, o = some u → Keeps qs s u) : Keeps (ps ++ qs) s (o.getD t) := by
  cases o with
  | none => exact ⟨h.pending, fun p hp => h.same p fun m => hp (List.mem_append_left _ m), h.inv⟩
  | some u =>
    have k := k u (Eq.refl _)
    exact ⟨k.pending, fun p hp => k.same p fun m => hp (List.mem_append_right _ m), k.inv⟩

theorem of_fst {α : Type} {p : State × α} {a : α} (h : Keeps ps s p.1) (e : p = (t, a)) : Keeps ps s t := by
  rw [e] at h
  exact h

theorem of_snd {α : Type} {p : α × State} {a : α} (h : Keeps ps s p.2) (e : p = (a, t)) : Keeps ps s t := by
  rw [e] at h
  exact h

theorem clk (h : Keeps ps s t) (k : decide (Part.clk ∉ ps) = true) : t.clk = s.clk := h.same .clk (of_decide_eq_true k)
theorem pwr (h : Keeps ps s t) (k : decide (Part.pwr ∉ ps) = true) : t.pwr = s.pwr := h.same .pwr (of_decide_eq_true k)
theorem hsp (h : Keeps ps s t) (k : decide (Part.hsp ∉ ps) = true) : t.hsp = s.hsp := h.same .hsp (of_decide_eq_true k)
theorem time (h : Keeps ps s t) (k : decide (Part.time ∉ ps) = true) : t.time = s.time := h.same .time (of_decide_eq_true k)
theorem int (h : Keeps ps s t) (k : decide (Part.int ∉ ps) = true) : t.int = s.int := h.same .int (of_decide_eq_true k)
theorem mic (h : Keeps ps s t) (k : decide (Part.mic ∉ ps) = true) : t.mic = s.mic := h.same .mic (of_decide_eq_true k)
theorem flt (h : Keeps ps s t) (k : decide (Part.flt ∉ ps) = true) : t.flt = s.flt := h.same .flt (of_decide_eq_true k)
theorem lsn (h : Keeps ps s t) (k : decide (Part.lsn ∉ ps) = true) : t.lsn = s.lsn := h.same .lsn (of_decide_eq_true k)
theorem drl (h : Keeps ps s t) (k : decide (Part.drl ∉ ps) = true) : t.drl = s.drl := h.same .drl (of_decide_eq_true k)
theorem swa (h : Keeps ps s t) (k : decide (Part.swa ∉ ps) = true) : t.swa = s.swa := h.same .swa (of_decide_eq_true k)
theorem que (h : Keeps ps s t) (k : decide (Part.que ∉ ps) = true) : t.que = s.que := h.same .que (of_decide_eq_true k)
theorem hg (h : Keeps ps s t) (k : decide (Part.hg ∉ ps) = true) : t.hg = s.hg := h.same .hg (of_decide_eq_true k)
theorem frw (h : Keeps ps s t) (k : decide (Part.frw ∉ ps) = true) : t.frw = s.frw := h.same .frw (of_decide_eq_true k)
theorem adc (h : Keeps ps s t) (k : decide (Part.adc ∉ ps) = true) : t.adc = s.adc := h.same .adc (of_decide_eq_true k)
theorem mon (h : Keeps ps s t) (k : decide (Part.mon ∉ ps) = true) : t.mon = s.mon := h.same .mon (of_decide_eq_true k)
theorem saf (h : Keeps ps s t) (k : decide (Part.saf ∉ ps) = true) : t.saf = s.saf := h.same .saf (of_decide_eq_true k)
theorem nvm (h : Keeps ps s t) (k : decide (Part.nvm ∉ ps) = true) : t.nvm = s.nvm := h.same .nvm (of_decide_eq_true k)
theorem jtag (h : Keeps ps s t) (k : decide (Part.jtag ∉ ps) = true) : t.jtag = s.jtag := h.same .jtag (of_decide_eq_true k)
theorem free (h : Keeps ps s t) (k : decide (Part.free ∉ ps) = true) : t.free = s.free := h.same .free (of_decide_eq_true k)

end Keeps

/-- A command completes: it answers a next state, the queue stands, the invariant is kept. -/
def Completes (s : State) (o : Host.Outcome State Fault Refusal) : Prop :=
  ∃ t, o = .next t ∧ t.pending = s.pending ∧ (Inv s → Inv t)

theorem Completes.of_keeps {ps : List Part} {s t : State} (h : Keeps ps s t) : Completes s (.next t) :=
  ⟨t, rfl, h.pending, h.inv⟩

theorem Completes.after {ps : List Part} {s t : State} {o : Host.Outcome State Fault Refusal} (h : Keeps ps s t)
    (k : Completes t o) : Completes s o := by
  obtain ⟨u, hu, pending, inv⟩ := k
  exact ⟨u, hu, pending.trans h.pending, inv ∘ h.inv⟩

/-- What holds of every entry still does when one is replaced by an entry of which it holds. -/
theorem forall_mem_set {α : Type} {P : α → Prop} {l : List α} {i : Nat} {v : α} (h : ∀ m ∈ l, P m) (k : P v) :
    ∀ m ∈ l.set i v, P m := by
  intro m hm
  rcases List.mem_or_eq_of_mem_set hm with hm | rfl
  · exact h m hm
  · exact k

/-! ## One part replaced -/

section

variable {s : State}

theorem clk_replaced {x : ClkSt} : Keeps [.clk] s { s with clk := x } where
  pending := rfl
  same p hp := by
    cases p with
    | clk => exact absurd (List.mem_singleton.mpr rfl) hp
    | _ => exact rfl
  inv h := ⟨h.regs, h.hsp, h.mic, h.flt, h.lsn, h.drl, h.swa, h.que, h.hg, h.frw, h.adc, h.mon, h.saf, h.nvm⟩

theorem pwr_replaced {x : PwrSt} : Keeps [.pwr] s { s with pwr := x } where
  pending := rfl
  same p hp := by
    cases p with
    | pwr => exact absurd (List.mem_singleton.mpr rfl) hp
    | _ => exact rfl
  inv h := ⟨h.regs, h.hsp, h.mic, h.flt, h.lsn, h.drl, h.swa, h.que, h.hg, h.frw, h.adc, h.mon, h.saf, h.nvm⟩

theorem hsp_replaced {x : HspSt} (k : HspOk s.hsp → HspOk x) : Keeps [.hsp] s { s with hsp := x } where
  pending := rfl
  same p hp := by
    cases p with
    | hsp => exact absurd (List.mem_singleton.mpr rfl) hp
    | _ => exact rfl
  inv h := ⟨h.regs, k h.hsp, h.mic, h.flt, h.lsn, h.drl, h.swa, h.que, h.hg, h.frw, h.adc, h.mon, h.saf, h.nvm⟩

theorem time_replaced {x : TimeSt} : Keeps [.time] s { s with time := x } where
  pending := rfl
  same p hp := by
    cases p with
    | time => exact absurd (List.mem_singleton.mpr rfl) hp
    | _ => exact rfl
  inv h := ⟨h.regs, h.hsp, h.mic, h.flt, h.lsn, h.drl, h.swa, h.que, h.hg, h.frw, h.adc, h.mon, h.saf, h.nvm⟩

theorem int_replaced {x : IntSt} : Keeps [.int] s { s with int := x } where
  pending := rfl
  same p hp := by
    cases p with
    | int => exact absurd (List.mem_singleton.mpr rfl) hp
    | _ => exact rfl
  inv h := ⟨h.regs, h.hsp, h.mic, h.flt, h.lsn, h.drl, h.swa, h.que, h.hg, h.frw, h.adc, h.mon, h.saf, h.nvm⟩

theorem mic_replaced {x : MicSt} (k : MicOk s.mic → MicOk x) : Keeps [.mic] s { s with mic := x } where
  pending := rfl
  same p hp := by
    cases p with
    | mic => exact absurd (List.mem_singleton.mpr rfl) hp
    | _ => exact rfl
  inv h := ⟨h.regs, h.hsp, k h.mic, h.flt, h.lsn, h.drl, h.swa, h.que, h.hg, h.frw, h.adc, h.mon, h.saf, h.nvm⟩

theorem flt_replaced {x : FltSt} (k : FltOk s.flt → FltOk x) : Keeps [.flt] s { s with flt := x } where
  pending := rfl
  same p hp := by
    cases p with
    | flt => exact absurd (List.mem_singleton.mpr rfl) hp
    | _ => exact rfl
  inv h := ⟨h.regs, h.hsp, h.mic, k h.flt, h.lsn, h.drl, h.swa, h.que, h.hg, h.frw, h.adc, h.mon, h.saf, h.nvm⟩

theorem lsn_replaced {x : LsnSt} (k : LsnOk s.lsn → LsnOk x) : Keeps [.lsn] s { s with lsn := x } where
  pending := rfl
  same p hp := by
    cases p with
    | lsn => exact absurd (List.mem_singleton.mpr rfl) hp
    | _ => exact rfl
  inv h := ⟨h.regs, h.hsp, h.mic, h.flt, k h.lsn, h.drl, h.swa, h.que, h.hg, h.frw, h.adc, h.mon, h.saf, h.nvm⟩

theorem drl_replaced {x : DrlSt} (k : DrlOk s.drl → DrlOk x) : Keeps [.drl] s { s with drl := x } where
  pending := rfl
  same p hp := by
    cases p with
    | drl => exact absurd (List.mem_singleton.mpr rfl) hp
    | _ => exact rfl
  inv h := ⟨h.regs, h.hsp, h.mic, h.flt, h.lsn, k h.drl, h.swa, h.que, h.hg, h.frw, h.adc, h.mon, h.saf, h.nvm⟩

theorem swa_replaced {x : SwaSt} (k : SwaOk s.swa → SwaOk x) : Keeps [.swa] s { s with swa := x } where
  pending := rfl
  same p hp := by
    cases p with
    | swa => exact absurd (List.mem_singleton.mpr rfl) hp
    | _ => exact rfl
  inv h := ⟨h.regs, h.hsp, h.mic, h.flt, h.lsn, h.drl, k h.swa, h.que, h.hg, h.frw, h.adc, h.mon, h.saf, h.nvm⟩

theorem que_replaced {x : QueSt} (k : QueOk s.que → QueOk x) : Keeps [.que] s { s with que := x } where
  pending := rfl
  same p hp := by
    cases p with
    | que => exact absurd (List.mem_singleton.mpr rfl) hp
    | _ => exact rfl
  inv h := ⟨h.regs, h.hsp, h.mic, h.flt, h.lsn, h.drl, h.swa, k h.que, h.hg, h.frw, h.adc, h.mon, h.saf, h.nvm⟩

theorem hg_replaced {x : HgSt} (k : HgOk s.hg → HgOk x) : Keeps [.hg] s { s with hg := x } where
  pending := rfl
  same p hp := by
    cases p with
    | hg => exact absurd (List.mem_singleton.mpr rfl) hp
    | _ => exact rfl
  inv h := ⟨h.regs, h.hsp, h.mic, h.flt, h.lsn, h.drl, h.swa, h.que, k h.hg, h.frw, h.adc, h.mon, h.saf, h.nvm⟩

theorem frw_replaced {x : FrwSt} (k : FrwOk s.frw → FrwOk x) : Keeps [.frw] s { s with frw := x } where
  pending := rfl
  same p hp := by
    cases p with
    | frw => exact absurd (List.mem_singleton.mpr rfl) hp
    | _ => exact rfl
  inv h := ⟨h.regs, h.hsp, h.mic, h.flt, h.lsn, h.drl, h.swa, h.que, h.hg, k h.frw, h.adc, h.mon, h.saf, h.nvm⟩

theorem adc_replaced {x : AdcSt} (k : AdcOk s.adc → AdcOk x) : Keeps [.adc] s { s with adc := x } where
  pending := rfl
  same p hp := by
    cases p with
    | adc => exact absurd (List.mem_singleton.mpr rfl) hp
    | _ => exact rfl
  inv h := ⟨h.regs, h.hsp, h.mic, h.flt, h.lsn, h.drl, h.swa, h.que, h.hg, h.frw, k h.adc, h.mon, h.saf, h.nvm⟩

theorem mon_replaced {x : MonSt} (k : MonOk s.mon → MonOk x) : Keeps [.mon] s { s with mon := x } where
  pending := rfl
  same p hp := by
    cases p with
    | mon => exact absurd (List.mem_singleton.mpr rfl) hp
    | _ => exact rfl
  inv h := ⟨h.regs, h.hsp, h.mic, h.flt, h.lsn, h.drl, h.swa, h.que, h.hg, h.frw, h.adc, k h.mon, h.saf, h.nvm⟩

theorem saf_replaced {x : SafSt} (k : SafOk s.saf → SafOk x) : Keeps [.saf] s { s with saf := x } where
  pending := rfl
  same p hp := by
    cases p with
    | saf => exact absurd (List.mem_singleton.mpr rfl) hp
    | _ => exact rfl
  inv h := ⟨h.regs, h.hsp, h.mic, h.flt, h.lsn, h.drl, h.swa, h.que, h.hg, h.frw, h.adc, h.mon, k h.saf, h.nvm⟩

theorem nvm_replaced {x : NvmSt} (k : NvmOk s.nvm → NvmOk x) : Keeps [.nvm] s { s with nvm := x } where
  pending := rfl
  same p hp := by
    cases p with
    | nvm => exact absurd (List.mem_singleton.mpr rfl) hp
    | _ => exact rfl
  inv h := ⟨h.regs, h.hsp, h.mic, h.flt, h.lsn, h.drl, h.swa, h.que, h.hg, h.frw, h.adc, h.mon, h.saf, k h.nvm⟩

theorem jtag_replaced {x : Nat} : Keeps [.jtag] s { s with jtag := x } where
  pending := rfl
  same p hp := by
    cases p with
    | jtag => exact absurd (List.mem_singleton.mpr rfl) hp
    | _ => exact rfl
  inv h := ⟨h.regs, h.hsp, h.mic, h.flt, h.lsn, h.drl, h.swa, h.que, h.hg, h.frw, h.adc, h.mon, h.saf, h.nvm⟩

theorem free_replaced {x : Nat} : Keeps [.free] s { s with free := x } where
  pending := rfl
  same p hp := by
    cases p with
    | free => exact absurd (List.mem_singleton.mpr rfl) hp
    | _ => exact rfl
  inv h := ⟨h.regs, h.hsp, h.mic, h.flt, h.lsn, h.drl, h.swa, h.que, h.hg, h.frw, h.adc, h.mon, h.saf, h.nvm⟩

/-- A register written. -/
theorem State.wr_keeps {a : Nat} {v : Word} : Keeps [] s (s.wr a v) where
  pending := rfl
  same p _ := by cases p <;> exact rfl
  inv h := ⟨wr_regs_wf s a v h.regs, h.hsp, h.mic, h.flt, h.lsn, h.drl, h.swa, h.que, h.hg, h.frw, h.adc, h.mon, h.saf, h.nvm⟩

end

end Sys2Proof.Machine
end

section
/-! PROOFS. What every operation of the device leaves unchanged, and that it keeps the invariant of the block; then that every
command completes (for O2). -/

namespace Sys2Proof.Machine

/-- What a register write may touch: every part but the test access port. -/
abbrev unitParts : List Part :=
  [.clk, .pwr, .hsp, .time, .int, .mic, .flt, .lsn, .drl, .swa, .que, .hg, .frw, .adc, .mon, .saf, .nvm, .free]

/-- What a transition of the device's state may touch: every part but the clock and the test access port. -/
abbrev stateParts : List Part :=
  [.pwr, .hsp, .time, .int, .mic, .flt, .lsn, .drl, .swa, .que, .hg, .frw, .adc, .mon, .saf, .nvm, .free]

/-- What a core's exception may touch: with a fault of the core comes a stop of the device. -/
abbrev stopParts : List Part := [.pwr, .hsp, .time, .lsn, .drl, .swa, .frw, .saf, .free]

theorem State.setCore_keeps {s : State} {c : Nat} {v : CoreSt} : Keeps [.frw] s (State.setCore s c v) := by
  unfold State.setCore
  extract_lets old
  exact (frw_replaced (by simp +contextual +zetaDelta [FrwOk, setNth])).mono rfl

theorem State.put_keeps {s : State} {f : Fld} {v : Nat} : Keeps [] s (State.put s f v) := by
  unfold State.put
  exact (State.wr_keeps).mono rfl

theorem State.mark_keeps {s : State} {f : Fld} {b : Bool} : Keeps [] s (State.mark s f b) := by
  unfold State.mark
  exact (State.put_keeps).mono rfl

theorem stagingDrop_keeps {s : State} {c : Nat} : Keeps [.hsp] s (stagingDrop s c) := by
  unfold stagingDrop
  extract_lets old
  exact (((hsp_replaced (by simp +contextual +zetaDelta [HspOk, setNth])).andThen State.put_keeps).ite Keeps.rfl).mono rfl

theorem setCoreState_keeps {s : State} {c v : Nat} : Keeps [.frw] s (setCoreState s c v) := by
  unfold setCoreState
  extract_lets old
  exact ((State.put_keeps).ite ((State.put_keeps).ite (frw_replaced (by exact id)))).mono rfl

theorem coreStop_keeps {s : State} {c st : Nat} : Keeps [.hsp, .frw] s (coreStop s c st) := by
  unfold coreStop
  extract_lets s1 k s2
  have hs1 : Keeps [.hsp, .frw] s s1 := ((setCoreState_keeps).andThen stagingDrop_keeps).mono rfl
  have hs2 : Keeps [.hsp, .frw] s s2 := (hs1.andThen State.setCore_keeps).mono rfl
  clear_value s1 s2
  exact ((hs2.andThen State.mark_keeps).ite hs2).mono rfl

theorem scareHold_keeps {s : State} : Keeps [.hsp, .frw] s (scareHold s) := by
  unfold scareHold
  exact (Keeps.rfl.ite coreStop_keeps).mono rfl

theorem State.incSat_keeps {s : State} {f : Fld} : Keeps [] s (State.incSat s f) := by
  unfold State.incSat
  exact ((State.put_keeps).ite Keeps.rfl).mono rfl

theorem safLog_keeps {s : State} {i : Nat} {lasting : Bool} {count : Nat} : Keeps [] s (safLog s i lasting count) := by
  unfold safLog
  extract_lets p w s1
  have hs1 : Keeps [] s s1 := ((State.wr_keeps).andThen State.wr_keeps).mono rfl
  clear_value s1
  exact (hs1.andThen State.put_keeps).mono rfl

theorem State.putBit_keeps {s : State} {f : Fld} {i : Nat} {b : Bool} : Keeps [] s (State.putBit s f i b) := by
  unfold State.putBit
  exact (State.put_keeps).mono rfl

theorem State.setPair_keeps {s : State} {lo v : Nat} : Keeps [] s (State.setPair s lo v) := by
  unfold State.setPair
  exact ((State.wr_keeps).andThen State.wr_keeps).mono rfl

theorem State.bump64_keeps {s : State} {lo n : Nat} : Keeps [] s (State.bump64 s lo n) := by
  unfold State.bump64
  exact (State.setPair_keeps).mono rfl

theorem State.edge_keeps {s : State} {n : Nat} : Keeps [] s (State.edge s n) := by
  unfold State.edge
  extract_lets s1
  have hs1 : Keeps [] s s1 := (State.bump64_keeps).mono rfl
  clear_value s1
  exact ((hs1.andThen State.bump64_keeps).ite (hs1.andThen State.mark_keeps)).mono rfl

theorem State.event_keeps {s : State} {n : Nat} : Keeps [] s (State.event s n) := by
  unfold State.event
  exact ((State.mark_keeps).andThen State.edge_keeps).mono rfl

theorem faultPin_keeps {s : State} {b : Bool} : Keeps [] s (faultPin s b) := by
  unfold faultPin
  exact (State.mark_keeps).mono rfl

theorem ackFail_keeps {s : State} {err : Nat} : Keeps [.saf] s (ackFail s err) := by
  unfold ackFail
  extract_lets old s1
  have hs1 : Keeps [.saf] s s1 := (saf_replaced (by exact id)).mono rfl
  clear_value s1
  exact ((((hs1.andThen State.put_keeps).andThen State.put_keeps).andThen State.incSat_keeps).andThen State.event_keeps).mono rfl

theorem permitClear_keeps {s : State} : Keeps [.saf] s (permitClear s) := by
  unfold permitClear
  extract_lets old s1
  have hs1 : Keeps [.saf] s s1 := (saf_replaced (by exact id)).mono rfl
  clear_value s1
  exact (hs1.andThen State.put_keeps).mono rfl

theorem disarmCore_keeps {s : State} : Keeps [.saf] s (disarmCore s) := by
  unfold disarmCore
  extract_lets s1 s2 old
  have hs1 : Keeps [.saf] s s1 := (permitClear_keeps).mono rfl
  have hs2 : Keeps [.saf] s s2 := (((hs1.andThen State.mark_keeps).andThen State.mark_keeps).andThen State.mark_keeps).mono rfl
  clear_value s1 s2
  exact (hs2.andThen (saf_replaced (by exact id))).mono rfl

theorem armRefuse_keeps {s : State} {step reason : Nat} : Keeps [.saf] s (armRefuse s step reason) := by
  unfold armRefuse
  extract_lets s1
  have hs1 : Keeps [.saf] s s1 := (disarmCore_keeps).mono rfl
  clear_value s1
  exact ((((hs1.andThen State.put_keeps).andThen State.put_keeps).andThen State.put_keeps).andThen State.event_keeps).mono rfl

theorem State.setStrip_keeps {s : State} {k : Nat} {v : StripSt} : Keeps [.swa] s (State.setStrip s k v) := by
  unfold State.setStrip
  extract_lets old
  exact (swa_replaced (by simp +contextual +zetaDelta [SwaOk, setNth])).mono rfl

theorem stripCounts_keeps {s : State} {k : Nat} : Keeps [.swa] s (stripCounts s k) := by
  unfold stripCounts
  extract_lets s1 lag ring s2 old
  have hs1 : Keeps [] s s1 := (State.put_keeps).mono rfl
  have hs2 : Keeps [] s s2 := (hs1.andThen State.put_keeps).mono rfl
  clear_value s1 s2
  exact (((hs2.ite ((hs2.andThen State.setStrip_keeps).andThen State.event_keeps)).ite ((hs2.andThen State.setStrip_keeps).ite hs2)).ite hs1).mono rfl

theorem unloadStart_keeps {s : State} {k : Nat} : Keeps [.swa] s (unloadStart s k) := by
  unfold unloadStart
  extract_lets w u s1 s2 old s3
  have hs1 : Keeps [] s s1 := (State.setPair_keeps).mono rfl
  have hs2 : Keeps [] s s2 := (hs1.andThen State.mark_keeps).mono rfl
  have hs3 : Keeps [.swa] s s3 := (hs2.andThen State.setStrip_keeps).mono rfl
  clear_value s1 s2 s3
  exact (hs3.andThen stripCounts_keeps).mono rfl

theorem unloadBegin_keeps {s : State} : Keeps [.swa] s (unloadBegin s) := by
  unfold unloadBegin
  exact (Keeps.forEach (ps := [.swa]) (fun _ _ => (unloadStart_keeps).mono rfl)).mono rfl

theorem wdoFollow_keeps {s : State} : Keeps [] s (wdoFollow s) := by
  unfold wdoFollow
  exact (State.mark_keeps).mono rfl

theorem State.setSad_keeps {s : State} {k : Nat} {v : SadSt} : Keeps [.lsn] s (State.setSad s k v) := by
  unfold State.setSad
  extract_lets old
  exact (lsn_replaced (by simp +contextual +zetaDelta [LsnOk, setNth])).mono rfl

theorem sadSeed_keeps {s : State} {u : Nat} {notice : Bool} : Keeps [.lsn] s (sadSeed s u notice) := by
  unfold sadSeed
  extract_lets was old s1 s2
  have hs1 : Keeps [.lsn] s s1 := (State.setSad_keeps).mono rfl
  have hs2 : Keeps [.lsn] s s2 := ((hs1.andThen State.mark_keeps).andThen State.mark_keeps).mono rfl
  clear_value s1 s2
  exact ((hs2.andThen State.event_keeps).ite hs2).mono rfl

theorem sadStart_keeps {s : State} {u : Nat} : Keeps [.lsn] s (sadStart s u) := by
  unfold sadStart
  extract_lets old
  exact ((State.setSad_keeps).andThen sadSeed_keeps).mono rfl

theorem sadStop_keeps {s : State} {u : Nat} : Keeps [.lsn] s (sadStop s u) := by
  unfold sadStop
  extract_lets s1
  have hs1 : Keeps [.lsn] s s1 := (State.setSad_keeps).mono rfl
  clear_value s1
  exact (((hs1.andThen State.mark_keeps).andThen State.mark_keeps).andThen State.mark_keeps).mono rfl

theorem sadFollow_keeps {s : State} : Keeps [.lsn] s (sadFollow s) := by
  unfold sadFollow
  exact (Keeps.forEach (ps := [.lsn]) (fun _ _ => ((sadStart_keeps).ite ((sadStop_keeps).ite Keeps.rfl)).mono rfl)).mono rfl

theorem enterState_keeps {s : State} {st cause : Nat} : Keeps [.pwr, .lsn] s (enterState s st cause) := by
  unfold enterState
  extract_lets last old s1 s2 s3 s4 s5
  have hs1 : Keeps [.pwr] s s1 := (pwr_replaced).mono rfl
  have hs2 : Keeps [.pwr] s s2 := (((hs1.andThen State.put_keeps).andThen State.mark_keeps).andThen State.put_keeps).mono rfl
  have hs3 : Keeps [.pwr] s s3 := ((hs2.andThen State.put_keeps).andThen State.put_keeps).mono rfl
  have hs4 : Keeps [.pwr] s s4 := ((hs3.andThen State.bump64_keeps).andThen State.event_keeps).mono rfl
  have hs5 : Keeps [.pwr] s s5 := (hs4.ite (hs4.andThen State.mark_keeps)).mono rfl
  clear_value s1 s2 s3 s4 s5
  exact ((hs5.andThen sadFollow_keeps).andThen wdoFollow_keeps).mono rfl

theorem State.instantly_keeps {s : State} : Keeps [.time] s (State.instantly s) := by
  unfold State.instantly
  extract_lets old
  exact (time_replaced).mono rfl

theorem enrEnd_keeps {s : State} {err : Nat} : Keeps [.drl] s (enrEnd s err) := by
  unfold enrEnd
  extract_lets old s1
  have hs1 : Keeps [.drl] s s1 := (drl_replaced (by exact id)).mono rfl
  clear_value s1
  exact ((((hs1.andThen State.put_keeps).andThen State.put_keeps).andThen State.event_keeps).ite Keeps.rfl).mono rfl

theorem causeReplace_keeps {s : State} {cause pcause : Nat} : Keeps [.pwr] s (causeReplace s cause pcause) := by
  unfold causeReplace
  extract_lets s1 old
  have hs1 : Keeps [] s s1 := (State.put_keeps).mono rfl
  clear_value s1
  split
  · exact ((hs1.andThen pwr_replaced).ite hs1).mono rfl
  · exact ((hs1.andThen State.put_keeps).ite hs1).mono rfl

theorem tripAgain_keeps {s : State} {cause pcause : Nat} : Keeps [.pwr] s (tripAgain s cause pcause) := by
  unfold tripAgain
  exact ((causeReplace_keeps).ite Keeps.rfl).mono rfl

theorem trip_keeps {s : State} {cause pcause : Nat} : Keeps [.pwr, .time, .lsn, .drl, .swa, .saf] s (trip s cause pcause) := by
  unfold trip
  extract_lets s1 old s2 s3 s4 old1
  have hs1 : Keeps [.saf] s s1 := ((disarmCore_keeps).andThen State.event_keeps).mono rfl
  have hs2 : Keeps [.saf] s s2 := (hs1.andThen (saf_replaced (by exact id))).mono rfl
  have hs3 : Keeps [.saf] s s3 := ((hs2.andThen State.mark_keeps).andThen State.put_keeps).mono rfl
  have hs4 : Keeps [.saf] s s4 := ((hs3.andThen State.bump64_keeps).andThen State.event_keeps).mono rfl
  clear_value s1 s2 s3 s4
  split
  · rename_i e
    split
    · extract_lets s5
      have hs5 : Keeps [.pwr, .saf] s s5 := (hs4.andThen pwr_replaced).mono rfl
      clear_value s5
      exact ((hs5.andThen State.put_keeps).ite
        (((((hs4.andThen enrEnd_keeps).andThen State.instantly_keeps).andThen State.mark_keeps).andThen enterState_keeps).andThen unloadBegin_keeps)).mono rfl
    · exact ((((hs4.andThen enrEnd_keeps).andThen State.instantly_keeps).andThen State.mark_keeps).andThen enterState_keeps).mono rfl
  · exact (tripAgain_keeps).mono rfl

theorem lasting_keeps {s : State} {i : Nat} : Keeps [.pwr, .time, .lsn, .drl, .swa, .saf] s (lasting s i) := by
  unfold lasting
  extract_lets s1 s2 s3 dynamic s4 s5 old s6
  have hs1 : Keeps [] s s1 := ((State.putBit_keeps).andThen State.mark_keeps).mono rfl
  have hs2 : Keeps [] s s2 := ((hs1.andThen faultPin_keeps).andThen State.event_keeps).mono rfl
  have hs3 : Keeps [.saf] s s3 := ((hs2.andThen ackFail_keeps).ite hs2).mono rfl
  have hs4 : Keeps [.saf] s s4 := ((hs3.andThen permitClear_keeps).ite hs3).mono rfl
  have hs5 : Keeps [.saf] s s5 := ((hs4.andThen State.put_keeps).ite hs4).mono rfl
  have hs6 : Keeps [.saf] s s6 := ((hs5.andThen (saf_replaced (by exact id))).ite hs5).mono rfl
  clear_value s1 s2 s3 s4 s5 s6
  exact ((hs6.andThen armRefuse_keeps).ite (hs6.ite (hs6.andThen trip_keeps))).mono rfl

theorem diagCount_keeps {s : State} {i t now : Nat} : Keeps [.pwr, .time, .lsn, .drl, .swa, .saf] s (diagCount s i t now) := by
  unfold diagCount
  extract_lets old times last proved old1 s1 s2 is s3
  have hs1 : Keeps [.saf] s s1 := (saf_replaced (by exact id)).mono rfl
  have hs2 : Keeps [.saf] s s2 := ((hs1.andThen State.put_keeps).andThen State.incSat_keeps).mono rfl
  have hs3 : Keeps [.saf] s s3 := (hs2.andThen safLog_keeps).mono rfl
  clear_value s1 s2 s3
  exact (Keeps.rfl.ite ((hs3.andThen lasting_keeps).ite ((hs3.andThen State.bump64_keeps).andThen State.event_keeps))).mono rfl

theorem State.safLine_keeps {s : State} {i t : Nat} : Keeps [.saf] s (State.safLine s i t) := by
  unfold State.safLine
  extract_lets old
  exact (Keeps.rfl.ite (saf_replaced (by exact id))).mono rfl

theorem diagEventT_keeps {s : State} {i t : Nat} : Keeps [.pwr, .time, .lsn, .drl, .swa, .saf] s (diagEventT s i t) := by
  unfold diagEventT
  exact ((diagCount_keeps).ite State.safLine_keeps).mono rfl

theorem diagEvent_keeps {s : State} {i : Nat} : Keeps [.pwr, .time, .lsn, .drl, .swa, .saf] s (diagEvent s i) := by
  unfold diagEvent
  exact (diagEventT_keeps).mono rfl

theorem scareEcc_keeps {s : State} : Keeps [.pwr, .hsp, .time, .lsn, .drl, .swa, .frw, .saf] s (scareEcc s) := by
  unfold scareEcc
  exact ((diagEvent_keeps).andThen scareHold_keeps).mono rfl

theorem softDrop_keeps {s : State} {c m a n : Nat} : Keeps [.frw] s (softDrop s c m a n) := by
  unfold softDrop
  extract_lets old
  exact (frw_replaced (by exact id)).mono rfl

theorem softMeet_keeps {s : State} {c m a n : Nat} : Keeps [.frw] s (softMeet s c m a n) := by
  unfold softMeet
  extract_lets l
  exact (Keeps.rfl.ite (((softDrop_keeps).andThen (Keeps.forEach (ps := []) (fun _ _ => (State.incSat_keeps).mono rfl))).ite softDrop_keeps)).mono rfl

theorem softWrite_keeps {s : State} {c m a n : Nat} : Keeps [.frw] s (softWrite s c m a n) := by
  unfold softWrite
  extract_lets old
  exact (frw_replaced (by exact id)).mono rfl

theorem commonWrite_keeps {s : State} {a : Nat} {bs : List Nat} : Keeps [.frw] s (commonWrite s a bs) := by
  unfold commonWrite
  extract_lets b s1 old
  have hs1 : Keeps [.frw] s s1 := (softWrite_keeps).mono rfl
  clear_value s1
  exact (hs1.andThen (frw_replaced (by simp +contextual +zetaDelta [FrwOk, memClear_wf, memWrite_wf, memSet_wf, memBits_wf, mem_empty_wf]))).mono rfl

/-- What holds of an entry of a list or of nothing holds of the entry named. -/
theorem nth_wf {l : List (List Host.Cell)} {i : Nat} (h : ∀ m ∈ l, Memory.wf m = true) : Memory.wf (nth l i []) = true := by
  unfold nth
  cases e : l[i]? with
  | none => rfl
  | some m => exact h m (List.mem_of_getElem? e)

/-- A core's data memory replaced by a canonical one. -/
theorem State.setData_keeps {s : State} {c : Nat} {m : List Host.Cell} (k : FrwOk s.frw → Memory.wf m = true) :
    Keeps [.frw] s (s.setData c m) :=
  frw_replaced fun h => by
    have hm := k h
    obtain ⟨core, prog, data, badProg, badData, common, progs, datas⟩ := h
    exact ⟨core, prog, by simpa [setNth] using data, badProg, badData, common, progs, forall_mem_set datas hm⟩

theorem dataWrite_keeps {s : State} {c a : Nat} {bs : List Nat} : Keeps [.frw] s (dataWrite s c a bs) := by
  unfold dataWrite
  extract_lets b s1 old
  have soft : Keeps [.frw] s (softWrite s c 1 a bs.length) := softWrite_keeps
  have hs1 : Keeps [.frw] s s1 := (soft.andThen (State.setData_keeps fun h => by
    obtain ⟨_, _, _, _, _, _, _, datas⟩ := h
    exact memWrite_wf _ _ _ (nth_wf datas))).mono rfl
  clear_value s1
  exact (hs1.andThen (frw_replaced (by simp +contextual +zetaDelta [FrwOk, setNth]))).mono rfl

theorem drainEntry_keeps {s : State} {c : Nat} {e : Nat × List Nat} : Keeps [.frw] s (drainEntry s c e) := by
  unfold drainEntry
  split
  · extract_lets common o bad s1 s2
    have hs1 : Keeps [.frw] s s1 := ((softMeet_keeps).ite Keeps.rfl).mono rfl
    have hs2 : Keeps [.frw] s s2 := ((hs1.andThen commonWrite_keeps).ite (hs1.andThen dataWrite_keeps)).mono rfl
    clear_value s1 s2
    exact ((hs2.andThen State.mark_keeps).ite hs2).mono rfl

theorem drainN_keeps {s : State} {c n : Nat} : Keeps [.frw] s (drainN s c n) := by
  unfold drainN
  extract_lets k
  exact ((State.setCore_keeps).andThen (Keeps.forEach (ps := [.frw]) (fun _ _ => (drainEntry_keeps).mono rfl))).mono rfl

theorem drainAll_keeps {s : State} {c : Nat} : Keeps [.frw] s (drainAll s c) := by
  unfold drainAll
  exact (drainN_keeps).mono rfl

theorem faultDepend_keeps {s : State} {c : Nat} : Keeps [.pwr, .time, .lsn, .drl, .swa, .saf] s (faultDepend s c) := by
  unfold faultDepend
  exact ((diagEventT_keeps).ite Keeps.rfl).mono rfl

theorem coreFault_keeps {s : State} {c code : Nat} : Keeps [.pwr, .hsp, .time, .lsn, .drl, .swa, .frw, .saf] s (coreFault s c code) := by
  unfold coreFault
  extract_lets s1 s2
  have hs1 : Keeps [.hsp, .frw] s s1 := (coreStop_keeps).mono rfl
  have hs2 : Keeps [.hsp, .frw] s s2 := ((hs1.andThen State.put_keeps).ite hs1).mono rfl
  clear_value s1 s2
  exact ((hs2.andThen diagEvent_keeps).ite ((hs2.andThen State.event_keeps).andThen faultDepend_keeps)).mono rfl

theorem faultEnter_keeps {s : State} {c code : Nat} : Keeps [.pwr, .hsp, .time, .lsn, .drl, .swa, .frw, .saf] s (faultEnter s c code) := by
  unfold faultEnter
  extract_lets s1
  have hs1 : Keeps [.frw] s s1 := ((State.setCore_keeps).andThen drainAll_keeps).mono rfl
  clear_value s1
  exact (hs1.andThen coreFault_keeps).mono rfl

theorem State.fresh_keeps {s : State} {n : Nat} : Keeps [.free] s (State.fresh s n).2 := by
  unfold State.fresh
  exact (free_replaced).mono rfl

theorem regsFree_keeps {s : State} {c : Nat} : Keeps [.frw, .free] s (regsFree s c) := by
  unfold regsFree
  split
  · rename_i x vs s1 e
    have hs1 : Keeps [.free] s s1 := (Keeps.of_snd (Keeps.foldl_snd (ps := [.free]) (fun s b a => by
        split
        · rename_i x1 v s2 e1
          have hs2 : Keeps [.free] s s2 := (Keeps.of_snd State.fresh_keeps e1).mono rfl
          exact hs2.mono rfl)) e).mono rfl
    split
    · rename_i x1 vq s2 e1
      have hs2 : Keeps [.free] s s2 := (Keeps.of_snd (hs1.andThen (Keeps.foldl_snd (ps := [.free]) (fun s b a => by
          split
          · rename_i x2 v s3 e2
            have hs3 : Keeps [.free] s s3 := (Keeps.of_snd State.fresh_keeps e2).mono rfl
            exact hs3.mono rfl))) e1).mono rfl
      split
      · rename_i x2 va s3 e2
        have hs3 : Keeps [.free] s s3 := (Keeps.of_snd (hs2.andThen (Keeps.foldl_snd (ps := [.free]) (fun s b a => by
            split
            · rename_i x3 v s4 e3
              have hs4 : Keeps [.free] s s4 := (Keeps.of_snd State.fresh_keeps e3).mono rfl
              exact hs4.mono rfl))) e2).mono rfl
        split
        · rename_i x3 v s4 e3
          have hs4 : Keeps [.free] s s4 := (Keeps.of_snd (hs3.andThen State.fresh_keeps) e3).mono rfl
          extract_lets k ac old
          exact (hs4.andThen State.setCore_keeps).mono rfl

theorem dispatch_keeps {s : State} {c : Nat} : Keeps [.frw] s (dispatch s c) := by
  unfold dispatch
  extract_lets k k1 jobs
  split
  · rename_i e
    split
    · exact ((State.setCore_keeps).andThen setCoreState_keeps).mono rfl
    · extract_lets r jobs1 s1
      have hs1 : Keeps [.frw] s s1 := (State.setCore_keeps).mono rfl
      clear_value s1
      exact (Keeps.rfl.ite ((hs1.andThen setCoreState_keeps).andThen State.put_keeps)).mono rfl
  · exact Keeps.rfl.mono rfl

theorem release_keeps {s : State} {c t : Nat} : Keeps [.frw] s (release s c t) := by
  unfold release
  extract_lets k j
  exact ((((State.incSat_keeps).andThen State.event_keeps).ite State.setCore_keeps).ite ((State.setCore_keeps).andThen dispatch_keeps)).mono rfl

theorem jobEnd_keeps {s : State} {c : Nat} : Keeps [.frw] s (jobEnd s c) := by
  unfold jobEnd
  extract_lets k
  split
  · exact (dispatch_keeps).mono rfl
  · extract_lets rest s1
    have hs1 : Keeps [.frw] s s1 := (State.setCore_keeps).mono rfl
    clear_value s1
    exact ((hs1.andThen release_keeps).ite (hs1.andThen dispatch_keeps)).mono rfl

theorem abandon_keeps {s : State} {c : Nat} : Keeps [.frw, .free] s (abandon s c) := by
  unfold abandon
  extract_lets k s1 s2 k1 old s3
  have hs1 : Keeps [.frw] s s1 := ((State.setCore_keeps).andThen drainAll_keeps).mono rfl
  have hs2 : Keeps [.frw, .free] s s2 := (hs1.andThen regsFree_keeps).mono rfl
  have hs3 : Keeps [.frw, .free] s s3 := (hs2.andThen State.setCore_keeps).mono rfl
  clear_value s1 s2 s3
  exact (hs3.andThen jobEnd_keeps).mono rfl

theorem coreHalt_keeps {s : State} {c : Nat} : Keeps [.hsp, .frw] s (coreHalt s c) := by
  unfold coreHalt
  extract_lets s1
  have hs1 : Keeps [.frw] s s1 := ((State.setCore_keeps).andThen drainAll_keeps).mono rfl
  clear_value s1
  exact (hs1.andThen coreStop_keeps).mono rfl

theorem boundary_keeps {s : State} {c : Nat} : Keeps [.hsp, .frw, .free] s (boundary s c) := by
  unfold boundary
  extract_lets k
  exact ((State.setCore_keeps).ite (Keeps.rfl.ite ((abandon_keeps).ite (Keeps.rfl.ite ((coreHalt_keeps).ite (Keeps.rfl.ite dispatch_keeps)))))).mono rfl

theorem exception_keeps {s : State} {c : Nat} {x : Cause} : Keeps stopParts s (exception s c x) := by
  unfold exception
  extract_lets k b r exl loops est epc s1 r' pc s2
  have hs1 : Keeps [] s s1 := ((State.mark_keeps).ite ((State.mark_keeps).ite Keeps.rfl)).mono rfl
  have hs2 : Keeps [.frw] s s2 := (hs1.andThen State.setCore_keeps).mono rfl
  clear_value s1 s2
  exact (((hs1.andThen State.setCore_keeps).andThen scareEcc_keeps).ite (((hs1.andThen State.setCore_keeps).andThen faultEnter_keeps).ite
    (((hs1.andThen State.setCore_keeps).andThen faultEnter_keeps).ite (((hs2.andThen State.put_keeps).ite hs2).andThen boundary_keeps)))).mono rfl

theorem progMeet_keeps {s : State} {c a n : Nat} : Keeps [.frw] s (progMeet s c a n) := by
  unfold progMeet
  exact (((softMeet_keeps).ite Keeps.rfl).ite softMeet_keeps).mono rfl

theorem wordIn_keeps {s : State} {c : Nat} {e : Bool} {i : Act} {f : State → Bundle → State} {fs : List Part}
    (k : ∀ s b, Keeps fs s (f s b)) : Keeps (stopParts ++ fs) s (wordIn s c e i f) := by
  unfold wordIn
  extract_lets core b s'
  have hs' : Keeps [.frw] s s' := State.setCore_keeps
  clear_value s'
  split
  · split
    · exact (hs'.andThen exception_keeps).mono rfl |>.left
    · exact Keeps.andThen (ps := stopParts) ((hs'.andThen progMeet_keeps).mono rfl) (k _ _)
  · exact (Keeps.rfl.mono rfl).left

theorem bundleDone_keeps {s : State} {c : Nat} {modeWrite : Bool} : Keeps [.hsp, .frw, .free] s (bundleDone s c modeWrite) := by
  unfold bundleDone
  extract_lets k b next old r k1
  split
  · rename_i x t e
    split
    · exact ((State.setCore_keeps).andThen boundary_keeps).mono rfl
  · rename_i x e
    split
    · exact ((State.setCore_keeps).andThen boundary_keeps).mono rfl
    · split
      · exact ((State.setCore_keeps).andThen boundary_keeps).mono rfl

theorem issue_keeps {s : State} {c : Nat} {e : Bool} {i : Act} : Keeps stopParts s (issue s c e i) := by
  unfold issue
  exact (wordIn_keeps (fs := stopParts) (fun s1 b => by
      extract_lets k s2
      have hs2 : Keeps [.frw] s1 s2 := (State.setCore_keeps).mono rfl
      clear_value s2
      split
      · split
        · exact (hs2.andThen exception_keeps).mono rfl
        · exact (hs2.andThen bundleDone_keeps).mono rfl
      · exact hs2.mono rfl)).mono rfl

theorem cmpR_keeps {s : State} {i : RForm} {f : Word → Word → Bool} : Keeps stopParts s (cmpR s i f) := by
  unfold cmpR
  exact (issue_keeps).mono rfl

theorem execCmpLt_completes {i : RForm} {s : State} : Completes s (execCmpLt i s) := by
  unfold execCmpLt
  exact Completes.of_keeps cmpR_keeps

theorem State.setHgp_keeps {s : State} {x : Nat} {p : HgPort} : Keeps [.hg] s (State.setHgp s x p) := by
  unfold State.setHgp
  extract_lets old
  exact (hg_replaced (by simp +contextual +zetaDelta [HgOk, setNth])).mono rfl

theorem hgQueue_keeps {s : State} {x vc : Nat} {m : Msg} : Keeps [.hg] s (hgQueue s x vc m) := by
  unfold hgQueue
  extract_lets old
  exact (State.setHgp_keeps).mono rfl

theorem hgSend_keeps {s : State} {vc typ dst param : Nat} {body : List Nat} : Keeps [.hg] s (hgSend s vc typ dst param body) := by
  unfold hgSend
  extract_lets x
  exact ((hgQueue_keeps).ite Keeps.rfl).mono rfl

theorem tunForward_keeps {s : State} {op addr cnt : Nat} {data : List Word} : Keeps [.hsp, .hg] s (tunForward s op addr cnt data) := by
  unfold tunForward
  extract_lets tag old s1 s2 n
  have hs1 : Keeps [.hsp] s s1 := (hsp_replaced (by exact id)).mono rfl
  have hs2 : Keeps [.hsp] s s2 := ((hs1.andThen State.put_keeps).andThen State.put_keeps).mono rfl
  clear_value s1 s2
  exact (hs2.andThen (Keeps.forEach (ps := [.hg]) (fun _ _ => (hgSend_keeps).mono rfl))).mono rfl

theorem freezeShow_keeps {s : State} {l : Nat} {f : Fld} : Keeps [.mon] s (freezeShow s l f) := by
  unfold freezeShow
  extract_lets now at_ old
  exact (Keeps.rfl.ite ((mon_replaced (by exact id)).andThen State.mark_keeps)).mono rfl

theorem State.level_keeps {s : State} {n : Nat} {b : Bool} : Keeps [] s (State.level s n b) := by
  unfold State.level
  exact ((Keeps.rfl.ite ((State.mark_keeps).andThen State.edge_keeps)).ite ((State.mark_keeps).ite Keeps.rfl)).mono rfl

theorem monFollow_keeps {s : State} : Keeps [.mon] s (monFollow s) := by
  unfold monFollow
  extract_lets s1
  have hs1 : Keeps [.mon] s s1 := ((freezeShow_keeps).andThen freezeShow_keeps).mono rfl
  clear_value s1
  exact (hs1.andThen State.level_keeps).mono rfl

theorem pmbQueue_keeps {s : State} {sent : Bool} {cmd data : Nat} : Keeps [.mon] s (pmbQueue s sent cmd data) := by
  unfold pmbQueue
  extract_lets old
  exact ((mon_replaced (by exact id)).ite Keeps.rfl).mono rfl

theorem voltSet_keeps {s : State} {l mv : Nat} : Keeps [.mon] s (voltSet s l mv) := by
  unfold voltSet
  extract_lets prev old s1
  have hs1 : Keeps [.mon] s s1 := (mon_replaced (by exact id)).mono rfl
  clear_value s1
  exact ((hs1.andThen State.put_keeps).andThen pmbQueue_keeps).mono rfl

theorem manual_keeps {s : State} : Keeps [.mon] s (manual s) := by
  unfold manual
  extract_lets s1
  have hs1 : Keeps [] s s1 := (State.mark_keeps).mono rfl
  clear_value s1
  exact (((hs1.andThen voltSet_keeps).andThen monFollow_keeps).ite State.mark_keeps).mono rfl

theorem execManualVoltage_completes {vman : BitVec 10} {s : State} : Completes s (execManualVoltage vman s) := by
  unfold execManualVoltage
  split
  · exact Completes.of_keeps ((State.put_keeps).andThen manual_keeps)
  · exact Completes.of_keeps manual_keeps

theorem nextSeq_keeps {s : State} : Keeps [.nvm] s (nextSeq s) := by
  unfold nextSeq
  extract_lets old
  exact (nvm_replaced (by exact id)).mono rfl

theorem programmed_keeps {s : State} {n : Nat} : Keeps [.nvm] s (programmed s n) := by
  unfold programmed
  extract_lets old
  exact (nvm_replaced (by exact id)).mono rfl

theorem State.setSector_keeps {s : State} {x : Sector} : Keeps [.nvm] s (State.setSector s x) := by
  unfold State.setSector
  extract_lets old
  exact (nvm_replaced (by exact id)).mono rfl

theorem fragPut_keeps {s t : State} {f : Frag} (e : fragPut s f = some t) : Keeps [.nvm] s t := by
  have put : ∀ n, Keeps [.nvm] s (programmed { s.setSector { s.sector n with frags := (s.sector n).frags ++ [f] } with
      nvm := { (s.setSector { s.sector n with frags := (s.sector n).frags ++ [f] }).nvm with cur := n } } (fragSize f)) := fun n =>
    (((State.setSector_keeps).andThen (nvm_replaced (by exact id))).andThen programmed_keeps).mono rfl
  unfold fragPut at e
  extract_lets put' c at e
  split at e
  · cases e
    exact put c
  · split at e
    · cases e
      exact put _
    · simp at e

theorem fragsPut_keeps {s t : State} {l : List Frag} (e : fragsPut l s = some t) : Keeps [.nvm] s t := by
  induction l generalizing s with
  | nil =>
    cases e
    exact Keeps.rfl.mono rfl
  | cons f l ih =>
    rw [fragsPut] at e
    split at e
    · rename_i u eu
      exact ((fragPut_keeps eu).andThen (ih e)).mono rfl
    · simp at e

theorem nvmShow_keeps {s : State} : Keeps [] s (nvmShow s) := by
  unfold nvmShow
  extract_lets u counts low rose s1 s2 s3 s4 s5 s6 s7
  have hs1 : Keeps [] s s1 := ((State.put_keeps).andThen State.mark_keeps).mono rfl
  have hs2 : Keeps [] s s2 := ((hs1.andThen State.put_keeps).andThen State.put_keeps).mono rfl
  have hs3 : Keeps [] s s3 := (hs2.andThen State.put_keeps).mono rfl
  have hs4 : Keeps [] s s4 := (hs3.andThen State.put_keeps).mono rfl
  have hs5 : Keeps [] s s5 := ((hs4.andThen State.put_keeps).andThen State.setPair_keeps).mono rfl
  have hs6 : Keeps [] s s6 := (hs5.andThen State.put_keeps).mono rfl
  have hs7 : Keeps [] s s7 := (hs6.andThen State.put_keeps).mono rfl
  clear_value s1 s2 s3 s4 s5 s6 s7
  exact ((hs7.andThen State.event_keeps).ite hs7).mono rfl

theorem recPut_keeps {s : State} {typ id : Nat} {bs : List Nat} : Keeps [.nvm] s (recPut s typ id bs).1 := by
  unfold recPut
  extract_lets t
  have ht : Keeps [.nvm] s t := (nextSeq_keeps).mono rfl
  clear_value t
  split
  · rename_i e
    split
    · rename_i x s1 e1
      have hs1 : Keeps [.nvm] s s1 := (ht.andThen (fragsPut_keeps e1)).mono rfl
      exact (hs1.andThen nvmShow_keeps).mono rfl
    · exact (State.event_keeps).mono rfl
  · exact (State.event_keeps).mono rfl

theorem doSave_keeps {s : State} : Keeps [.nvm] s (doSave s).1 := by
  unfold doSave
  extract_lets r e p
  have hp : Keeps [.nvm] s p.1 := (recPut_keeps).mono rfl
  clear_value p
  split
  · exact Keeps.rfl.mono rfl
  · exact hp.mono rfl

theorem aluImm_keeps {s : State} {i : IForm} {ok : Bool} {f : Word → Word} : Keeps stopParts s (aluImm s i ok f) := by
  unfold aluImm
  exact (issue_keeps).mono rfl

theorem execRori_completes {i : IForm} {s : State} : Completes s (execRori i s) := by
  unfold execRori
  exact Completes.of_keeps aluImm_keeps

theorem calAbort_keeps {s : State} : Keeps [.mic] s (calAbort s) := by
  unfold calAbort
  split
  · exact Keeps.rfl.mono rfl
  · extract_lets old s1
    have hs1 : Keeps [.mic] s s1 := (mic_replaced (by exact id)).mono rfl
    clear_value s1
    exact ((((hs1.andThen State.mark_keeps).andThen State.mark_keeps).andThen State.put_keeps).andThen State.event_keeps).mono rfl

theorem drlSentry_keeps {s : State} : Keeps [.drl] s (drlSentry s) := by
  unfold drlSentry
  extract_lets s1 held old
  have hs1 : Keeps [.drl] s s1 := (enrEnd_keeps).mono rfl
  clear_value s1
  exact (hs1.andThen (drl_replaced (by simp [DrlOk]))).mono rfl

theorem swapAbort_keeps {s : State} {err : Nat} : Keeps [.hsp, .frw] s (swapAbort s err) := by
  unfold swapAbort
  extract_lets old s1 old1 s2
  have hs1 : Keeps [.frw] s s1 := (frw_replaced (by exact id)).mono rfl
  have hs2 : Keeps [.hsp, .frw] s s2 := (hs1.andThen (hsp_replaced (by exact id))).mono rfl
  clear_value s1 s2
  exact (((((hs2.andThen State.put_keeps).andThen State.put_keeps).andThen State.mark_keeps).andThen State.event_keeps).ite Keeps.rfl).mono rfl

theorem svcEnd_keeps {s : State} {err : Nat} : Keeps [.hsp, .nvm] s (svcEnd s err) := by
  unfold svcEnd
  extract_lets old s1 old1 s2
  have hs1 : Keeps [.nvm] s s1 := (nvm_replaced (by exact id)).mono rfl
  have hs2 : Keeps [.hsp, .nvm] s s2 := (hs1.andThen (hsp_replaced (by exact id))).mono rfl
  clear_value s1 s2
  exact ((((hs2.andThen State.mark_keeps).andThen State.mark_keeps).andThen State.put_keeps).andThen State.event_keeps).mono rfl

theorem State.setAdc_keeps {s : State} {x : Nat} {c : AdcConv} : Keeps [.adc] s (State.setAdc s x c) := by
  unfold State.setAdc
  extract_lets old
  exact (adc_replaced (by simp +contextual +zetaDelta [AdcOk, setNth])).mono rfl

theorem pairLose_keeps {s : State} : Keeps [.adc] s (pairLose s) := by
  unfold pairLose
  extract_lets old
  exact (((adc_replaced (by exact id)).andThen State.incSat_keeps).ite Keeps.rfl).mono rfl

theorem adcAbort_keeps {s : State} {x : Nat} : Keeps [.adc] s (adcAbort s x) := by
  unfold adcAbort
  split
  · exact Keeps.rfl.mono rfl
  · extract_lets old s1 s2 s3
    have hs1 : Keeps [.adc] s s1 := (State.setAdc_keeps).mono rfl
    have hs2 : Keeps [.adc] s s2 := ((hs1.andThen State.mark_keeps).andThen State.mark_keeps).mono rfl
    have hs3 : Keeps [.adc] s s3 := (hs2.andThen State.bump64_keeps).mono rfl
    clear_value s1 s2 s3
    exact ((hs3.andThen pairLose_keeps).ite hs3).mono rfl

theorem adcHold_keeps {s : State} : Keeps [.adc] s (adcHold s) := by
  unfold adcHold
  exact ((adcAbort_keeps).andThen adcAbort_keeps).mono rfl

theorem sysEnd_keeps {s : State} {x err : Nat} : Keeps [.adc] s (sysEnd s x err) := by
  unfold sysEnd
  extract_lets old s1
  have hs1 : Keeps [.adc] s s1 := (State.setAdc_keeps).mono rfl
  clear_value s1
  exact ((((hs1.andThen State.mark_keeps).andThen State.mark_keeps).andThen State.put_keeps).andThen State.event_keeps).mono rfl

theorem sysAbort_keeps {s : State} {x : Nat} : Keeps [.adc] s (sysAbort s x) := by
  unfold sysAbort
  exact ((sysEnd_keeps).ite Keeps.rfl).mono rfl

theorem adcQueueShow_keeps {s : State} {x : Nat} : Keeps [] s (adcQueueShow s x) := by
  unfold adcQueueShow
  exact ((State.put_keeps).andThen State.level_keeps).mono rfl

theorem adcSentry_keeps {s : State} : Keeps [.adc] s (adcSentry s) := by
  unfold adcSentry
  extract_lets s1 s2 old s3 s4 s5
  have hs1 : Keeps [.adc] s s1 := (adcHold_keeps).mono rfl
  have hs2 : Keeps [.adc] s s2 := ((hs1.andThen sysAbort_keeps).andThen sysAbort_keeps).mono rfl
  have hs3 : Keeps [.adc] s s3 := (hs2.andThen (adc_replaced (by exact id))).mono rfl
  have hs4 : Keeps [.adc] s s4 :=
    (((((hs3.andThen State.mark_keeps).andThen State.mark_keeps).andThen State.put_keeps).andThen State.event_keeps).ite hs2).mono rfl
  have hs5 : Keeps [.adc] s s5 := (hs4.andThen State.mark_keeps).mono rfl
  clear_value s1 s2 s3 s4 s5
  exact (hs5.andThen (Keeps.forEach (ps := [.adc]) (fun s6 x => by
      extract_lets k s7 s8
      have hs7 : Keeps [] s6 s7 := (State.put_keeps).mono rfl
      have hs8 : Keeps [.adc] s6 s8 := (hs7.andThen State.setAdc_keeps).mono rfl
      clear_value s7 s8
      exact (((hs8.andThen State.mark_keeps).andThen State.mark_keeps).andThen adcQueueShow_keeps).mono rfl))).mono rfl

theorem inputUnsettled_keeps {s : State} {p : Nat} : Keeps [] s (inputUnsettled s p) := by
  unfold inputUnsettled
  exact (Keeps.forEach (ps := []) (fun _ _ => (State.mark_keeps).mono rfl)).mono rfl

theorem setSettle_keeps {s : State} {p : Nat} {k : Settle} : Keeps [.mic] s (setSettle s p k) := by
  unfold setSettle
  extract_lets old
  exact (mic_replaced (by simp +contextual +zetaDelta [MicOk, setNth])).mono rfl

theorem micSet_keeps {s : State} {p st : Nat} : Keeps [] s (micSet s p st) := by
  unfold micSet
  exact ((State.put_keeps).andThen State.putBit_keeps).mono rfl

theorem settleStart_keeps {s : State} {p : Nat} {k : Settle} : Keeps [.mic] s (settleStart s p k) := by
  unfold settleStart
  extract_lets s1
  have hs1 : Keeps [.mic] s s1 := ((setSettle_keeps).andThen inputUnsettled_keeps).mono rfl
  clear_value s1
  exact ((hs1.andThen micSet_keeps).ite hs1).mono rfl

theorem groupTmc_keeps {s : State} {g : Nat} : Keeps [.mic] s (groupTmc s g) := by
  unfold groupTmc
  exact (Keeps.forEach (ps := [.mic]) (fun _ _ => (settleStart_keeps).mono rfl)).mono rfl

theorem State.setCic_keeps {s : State} {k : Nat} {v : CicSt} : Keeps [.flt] s (State.setCic s k v) := by
  unfold State.setCic
  extract_lets old
  exact (flt_replaced (by simp +contextual +zetaDelta [FltOk, setNth])).mono rfl

theorem groupAnchor_keeps {s : State} {g : Nat} : Keeps [.flt] s (groupAnchor s g) := by
  unfold groupAnchor
  exact (Keeps.forEach (ps := [.flt]) (fun s1 p => by
      extract_lets old
      exact (State.setCic_keeps).mono rfl)).mono rfl

theorem setDiv_keeps {s : State} {g d : Nat} : Keeps [.mic] s (setDiv s g d) := by
  unfold setDiv
  extract_lets o p p1 old
  exact (mic_replaced (by exact id)).mono rfl

theorem groupMode_keeps {s : State} {g d : Nat} : Keeps [.mic, .flt] s (groupMode s g d) := by
  unfold groupMode
  exact ((((setDiv_keeps).andThen groupAnchor_keeps).andThen groupTmc_keeps).ite Keeps.rfl).mono rfl

theorem groupStop_keeps {s : State} {g : Nat} : Keeps [.mic] s (groupStop s g) := by
  unfold groupStop
  exact ((setDiv_keeps).andThen (Keeps.forEach (ps := [.mic]) (fun _ _ => (setSettle_keeps).mono rfl))).mono rfl

theorem micStop_keeps {s : State} : Keeps [.mic, .flt] s (micStop s) := by
  unfold micStop
  extract_lets g
  exact ((Keeps.forEach (ps := [.mic]) (fun _ _ => (groupStop_keeps).mono rfl)).andThen groupMode_keeps).mono rfl

theorem unloadEnd_keeps {s : State} : Keeps [.swa] s (unloadEnd s) := by
  unfold unloadEnd
  exact (Keeps.forEach (ps := [.swa]) (fun s1 k => by
      extract_lets old
      exact ((State.setStrip_keeps).andThen State.mark_keeps).mono rfl)).mono rfl

theorem hgResend_keeps {s : State} {x : Nat} : Keeps [.swa] s (hgResend s x) := by
  unfold hgResend
  exact ((Keeps.forEach (ps := [.swa]) (fun s1 k => by
      split
      · extract_lets old
        exact (State.setStrip_keeps).mono rfl
      · exact Keeps.rfl.mono rfl)).ite Keeps.rfl).mono rfl

theorem hgRoutes_keeps {s : State} : Keeps [] s (hgRoutes s) := by
  unfold hgRoutes
  extract_lets r plat ring reached s1 s2 s3 s4
  have hs1 : Keeps [] s s1 := (Keeps.forEach (ps := []) (fun s5 p => by
      split
      · exact ((((State.put_keeps).andThen State.put_keeps).andThen State.put_keeps).andThen State.put_keeps).mono rfl
      · exact (State.wr_keeps).mono rfl)).mono rfl
  have hs2 : Keeps [] s s2 := (hs1.andThen State.put_keeps).mono rfl
  have hs3 : Keeps [] s s3 := ((hs2.andThen State.mark_keeps).andThen State.mark_keeps).mono rfl
  have hs4 : Keeps [] s s4 := (hs3.andThen State.put_keeps).mono rfl
  clear_value s1 s2 s3 s4
  exact (hs4.andThen State.put_keeps).mono rfl

theorem hgDownLevel_keeps {s : State} {x : Nat} : Keeps [] s (hgDownLevel s x) := by
  unfold hgDownLevel
  exact (State.level_keeps).mono rfl

theorem hgStop_keeps {s : State} {x st : Nat} : Keeps [.swa] s (hgStop s x st) := by
  unfold hgStop
  extract_lets s1 s2 s3 s4
  have hs1 : Keeps [.swa] s s1 := (hgResend_keeps).mono rfl
  have hs2 : Keeps [.swa] s s2 := ((hs1.andThen State.put_keeps).andThen State.put_keeps).mono rfl
  have hs3 : Keeps [.swa] s s3 := (((hs2.andThen State.put_keeps).andThen State.mark_keeps).andThen State.put_keeps).mono rfl
  have hs4 : Keeps [.swa] s s4 := ((hs3.andThen State.level_keeps).andThen State.mark_keeps).mono rfl
  clear_value s1 s2 s3 s4
  exact ((hs4.andThen hgDownLevel_keeps).andThen hgRoutes_keeps).mono rfl

theorem State.setKey_keeps {s : State} {x : Nat} {k : KeySt} : Keeps [.hg] s (State.setKey s x k) := by
  unfold State.setKey
  extract_lets old
  exact (State.setHgp_keeps).mono rfl

theorem hgKeysDrop_keeps {s : State} {x : Nat} : Keeps [.hg] s (hgKeysDrop s x) := by
  unfold hgKeysDrop
  extract_lets s1
  have hs1 : Keeps [.hg] s s1 := (State.setKey_keeps).mono rfl
  clear_value s1
  exact ((((hs1.andThen State.put_keeps).andThen State.put_keeps).andThen State.wr_keeps).andThen State.wr_keeps).mono rfl

theorem linkReset_keeps {s : State} {x : Nat} : Keeps [.hg] s (linkReset s x) := by
  unfold linkReset
  extract_lets p s1 s2 p1 p2
  have hs1 : Keeps [] s s1 := (State.bump64_keeps).mono rfl
  have hs2 : Keeps [] s s2 := (hs1.andThen State.bump64_keeps).mono rfl
  clear_value s1 s2
  exact (Keeps.rfl.ite ((hs2.andThen State.setHgp_keeps).andThen hgKeysDrop_keeps)).mono rfl

theorem hgDisable_keeps {s : State} {x : Nat} : Keeps [.swa, .hg] s (hgDisable s x) := by
  unfold hgDisable
  exact ((linkReset_keeps).andThen hgStop_keeps).mono rfl

theorem hgOverres_keeps {s : State} {x : Nat} : Keeps [] s (hgOverres s x) := by
  unfold hgOverres
  exact (State.mark_keeps).mono rfl

theorem hgTrain_keeps {s : State} {x : Nat} {keep : Bool} : Keeps [.swa, .hg] s (hgTrain s x keep) := by
  unfold hgTrain
  extract_lets s1 old s2 s3 s4
  have hs1 : Keeps [.swa] s s1 := (hgResend_keeps).mono rfl
  have hs2 : Keeps [.swa, .hg] s s2 := (hs1.andThen State.setHgp_keeps).mono rfl
  have hs3 : Keeps [.swa, .hg] s s3 := ((hs2.andThen State.put_keeps).andThen hgDownLevel_keeps).mono rfl
  have hs4 : Keeps [.swa, .hg] s s4 := ((hs3.andThen State.put_keeps).andThen State.put_keeps).mono rfl
  clear_value s1 s2 s3 s4
  exact (hs4.andThen hgOverres_keeps).mono rfl

theorem hgDown_keeps {s : State} {x : Nat} : Keeps [.swa, .hg] s (hgDown s x) := by
  unfold hgDown
  extract_lets s1
  have hs1 : Keeps [.swa, .hg] s s1 := ((linkReset_keeps).andThen hgStop_keeps).mono rfl
  clear_value s1
  exact ((hs1.andThen hgTrain_keeps).ite hs1).mono rfl

theorem hgDegrade_keeps {s : State} {x tx rx cause : Nat} : Keeps [.swa, .hg] s (hgDegrade s x tx rx cause) := by
  unfold hgDegrade
  extract_lets s1 s2 s3
  have hs1 : Keeps [] s s1 := ((State.put_keeps).andThen State.put_keeps).mono rfl
  have hs2 : Keeps [] s s2 := ((hs1.andThen State.mark_keeps).andThen State.put_keeps).mono rfl
  have hs3 : Keeps [] s s3 := (hs2.ite (hs2.andThen State.level_keeps)).mono rfl
  clear_value s1 s2 s3
  exact ((hgDown_keeps).ite (hs3.andThen hgOverres_keeps)).mono rfl

theorem hgKeepLane_keeps {s : State} : Keeps [.swa, .hg] s (hgKeepLane s) := by
  unfold hgKeepLane
  extract_lets p
  exact (((State.setHgp_keeps).andThen hgDegrade_keeps).ite Keeps.rfl).mono rfl

theorem hgSentry_keeps {s : State} : Keeps [.swa, .hg] s (hgSentry s) := by
  unfold hgSentry
  exact (((hgKeepLane_keeps).andThen hgDisable_keeps).ite ((hgDisable_keeps).andThen hgDisable_keeps)).mono rfl

theorem msgOnLine_keeps {s : State} {m : Msg} : Keeps [.free] s (msgOnLine s m).1 := by
  unfold msgOnLine
  extract_lets from_
  split
  · rename_i e
    split
    · exact Keeps.rfl.mono rfl
    · rename_i x e1
      split
      · rename_i x1 v s1 e2
        have hs1 : Keeps [.free] s s1 := (Keeps.of_snd State.fresh_keeps e2).mono rfl
        exact hs1.mono rfl
  · rename_i e
    split
    · exact Keeps.rfl.mono rfl
    · exact Keeps.rfl.mono rfl

theorem keyedFollow_keeps {s : State} {x : Nat} : Keeps [.hg] s (keyedFollow s x) := by
  unfold keyedFollow
  extract_lets k k1
  exact ((((State.setKey_keeps).andThen State.put_keeps).andThen State.put_keeps).ite Keeps.rfl).mono rfl

theorem authSend_keeps {s : State} {x : Nat} {m : Msg} : Keeps [.hg] s (authSend s x m).1 := by
  unfold authSend
  extract_lets k t s1 ctr
  have hs1 : Keeps [.hg] s s1 := ((State.setKey_keeps).andThen State.wr_keeps).mono rfl
  clear_value s1
  split
  · exact Keeps.rfl.mono rfl
  · rename_i e
    split
    · exact (hs1.andThen keyedFollow_keeps).mono rfl
    · exact (State.wr_keeps).mono rfl

theorem hgLine_keeps {s : State} {x : Nat} {l : List Nat} : Keeps [.hg] s (hgLine s x l) := by
  unfold hgLine
  extract_lets old
  exact (hg_replaced (by exact id)).mono rfl

theorem hgSendFrame_keeps {s : State} {x : Nat} {e : Nat × Msg} {pay : Bool} : Keeps [.hg, .free] s (hgSendFrame s x e pay) := by
  unfold hgSendFrame
  split
  · extract_lets p cost s1
    have hs1 : Keeps [.hg] s s1 := (State.setHgp_keeps).mono rfl
    clear_value s1
    split
    · rename_i x1 s2 w e
      have hs2 : Keeps [.hg, .free] s s2 := (Keeps.of_fst (hs1.andThen msgOnLine_keeps) e).mono rfl
      split
      · rename_i x2 s3 t e2
        have hs3 : Keeps [.hg, .free] s s3 := (Keeps.of_fst (hs2.andThen authSend_keeps) e2).mono rfl
        extract_lets p2 s4
        have hs4 : Keeps [.hg, .free] s s4 := (hs3.andThen State.setHgp_keeps).mono rfl
        clear_value s4
        exact ((hs4.andThen State.bump64_keeps).andThen hgLine_keeps).mono rfl

theorem standDownSend_keeps {s : State} {x : Nat} : Keeps [.hg, .free] s (standDownSend s x) := by
  unfold standDownSend
  exact (Keeps.forEach (ps := [.hg, .free]) (fun s1 e => by
      extract_lets line s2 old
      have hs2 : Keeps [.hg, .free] s1 s2 := (hgSendFrame_keeps).mono rfl
      clear_value s2
      exact ((hs2.andThen (hg_replaced (by exact id))).ite Keeps.rfl).mono rfl)).mono rfl

theorem standDownsSend_keeps {s : State} : Keeps [.hg, .free] s (standDownsSend s) := by
  unfold standDownsSend
  extract_lets old s1
  have hs1 : Keeps [.hg, .free] s s1 := (((hg_replaced (by exact id)).andThen standDownSend_keeps).andThen standDownSend_keeps).mono rfl
  clear_value s1
  exact ((hs1.andThen (Keeps.forEach (ps := [.hg]) (fun s2 x => by
      extract_lets old1
      exact (State.setHgp_keeps).mono rfl))).ite Keeps.rfl).mono rfl

theorem queueCountDrop_keeps {s : State} {n k : Nat} : Keeps [] s (queueCountDrop s n k) := by
  unfold queueCountDrop
  extract_lets s1
  have hs1 : Keeps [] s s1 := (State.put_keeps).mono rfl
  clear_value s1
  exact (hs1.andThen State.bump64_keeps).mono rfl

theorem State.setQueue_keeps {s : State} {n : Nat} {v : QueueSt} : Keeps [.que] s (State.setQueue s n v) := by
  unfold State.setQueue
  extract_lets old
  exact (que_replaced (by simp +contextual +zetaDelta [QueOk, setNth])).mono rfl

theorem hqLevel_keeps {s : State} {rose : Bool} : Keeps [] s (hqLevel s rose) := by
  unfold hqLevel
  exact (((State.edge_keeps).ite State.level_keeps).ite State.level_keeps).mono rfl

theorem queuesDiscard_keeps {s : State} : Keeps [.que] s (queuesDiscard s) := by
  unfold queuesDiscard
  exact (Keeps.forEach (ps := [.que]) (fun s1 n => by
      extract_lets q k s2 s3
      have hs2 : Keeps [] s1 s2 := (Keeps.rfl.ite queueCountDrop_keeps).mono rfl
      have hs3 : Keeps [.que] s1 s3 := (hs2.andThen State.setQueue_keeps).mono rfl
      clear_value s2 s3
      exact ((hs3.andThen hqLevel_keeps).ite hs3).mono rfl)).mono rfl

theorem intWithdraw_keeps {s : State} : Keeps [.int] s (intWithdraw s) := by
  unfold intWithdraw
  extract_lets lost s1 rest old
  have hs1 : Keeps [] s s1 := (Keeps.forEach (ps := []) (fun _ _ => (State.put_keeps).mono rfl)).mono rfl
  clear_value s1
  exact (hs1.andThen int_replaced).mono rfl

theorem sentryStep2_keeps {s : State} :
    Keeps [.pwr, .hsp, .int, .mic, .flt, .drl, .swa, .que, .hg, .frw, .adc, .nvm, .free] s (sentryStep2 s) := by
  unfold sentryStep2
  extract_lets old s1 s2 s3 s4 s5 s6 old1 s7
  have hs1 : Keeps [.pwr] s s1 := (pwr_replaced).mono rfl
  have hs2 : Keeps [.pwr, .mic, .drl] s s2 := (((hs1.andThen drlSentry_keeps).andThen calAbort_keeps).andThen State.put_keeps).mono rfl
  have hs3 : Keeps [.pwr, .hsp, .mic, .drl, .frw] s s3 := (hs2.andThen swapAbort_keeps).mono rfl
  have hs4 : Keeps [.pwr, .hsp, .mic, .drl, .frw, .nvm] s s4 := ((hs3.andThen svcEnd_keeps).ite hs3).mono rfl
  have hs5 : Keeps [.pwr, .hsp, .mic, .drl, .frw, .adc, .nvm] s s5 := (hs4.andThen adcSentry_keeps).mono rfl
  have hs6 : Keeps [.pwr, .hsp, .mic, .flt, .drl, .swa, .que, .hg, .frw, .adc, .nvm, .free] s s6 :=
    (((((hs5.andThen queuesDiscard_keeps).andThen standDownsSend_keeps).andThen hgSentry_keeps).andThen unloadEnd_keeps).andThen micStop_keeps).mono rfl
  have hs7 : Keeps [.pwr, .hsp, .mic, .flt, .drl, .swa, .que, .hg, .frw, .adc, .nvm, .free] s s7 := (hs6.andThen (swa_replaced (by exact id))).mono rfl
  clear_value s1 s2 s3 s4 s5 s6 s7
  exact (((hs7.andThen State.mark_keeps).andThen State.mark_keeps).andThen intWithdraw_keeps).mono rfl

theorem mittenWindow_keeps {s : State} {m : Nat} : Keeps [] s (mittenWindow s m) := by
  unfold mittenWindow
  extract_lets w s1 w1 s2
  have hs1 : Keeps [] s s1 := (State.setPair_keeps).mono rfl
  have hs2 : Keeps [] s s2 := (State.setPair_keeps).mono rfl
  clear_value s1 s2
  exact ((hs1.andThen State.put_keeps).ite (hs2.andThen (Keeps.forEach (ps := []) (fun _ _ => (State.put_keeps).mono rfl)))).mono rfl

theorem mittenTouch_keeps {s : State} : Keeps [.swa] s (mittenTouch s) := by
  unfold mittenTouch
  extract_lets s1 old
  have hs1 : Keeps [] s s1 := (State.put_keeps).mono rfl
  clear_value s1
  exact (hs1.andThen (swa_replaced (by exact id))).mono rfl

theorem mittenOpening_keeps {s : State} {m : Nat} : Keeps [.swa] s (mittenOpening s m) := by
  unfold mittenOpening
  extract_lets s1 old s2 s3
  have hs1 : Keeps [] s s1 := ((mittenWindow_keeps).andThen State.mark_keeps).mono rfl
  have hs2 : Keeps [.swa] s s2 := (hs1.andThen (swa_replaced (by exact id))).mono rfl
  have hs3 : Keeps [.swa] s s3 := ((hs2.andThen mittenTouch_keeps).andThen State.event_keeps).mono rfl
  clear_value s3
  exact ((((hs2.andThen State.mark_keeps).andThen mittenTouch_keeps).andThen State.event_keeps).ite (hs3.andThen (Keeps.forEach
    (ps := [.swa]) (fun _ _ => (unloadStart_keeps).mono rfl)))).mono rfl

theorem mittenClose_keeps {s : State} {cause : Nat} : Keeps [.swa] s (mittenClose s cause) := by
  unfold mittenClose
  extract_lets s1 s2 s3
  have hs1 : Keeps [] s s1 := ((State.mark_keeps).andThen State.mark_keeps).mono rfl
  have hs2 : Keeps [] s s2 := (hs1.andThen State.put_keeps).mono rfl
  have hs3 : Keeps [] s s3 := ((hs2.andThen State.put_keeps).andThen State.event_keeps).mono rfl
  clear_value s1 s2 s3
  split
  · rename_i e
    split
    · exact ((hs3.andThen mittenOpening_keeps).ite hs3).mono rfl
    · exact hs3.mono rfl
  · exact Keeps.rfl.mono rfl

theorem hgBroadcast_keeps {s : State} {vc typ param : Nat} {body : List Nat} : Keeps [.hg] s (hgBroadcast s vc typ param body) := by
  unfold hgBroadcast
  exact (Keeps.forEach (ps := [.hg]) (fun _ _ => (Keeps.rfl.ite hgQueue_keeps).mono rfl)).mono rfl

theorem standDown_keeps {s : State} : Keeps [.lsn, .hg] s (standDown s) := by
  unfold standDown
  extract_lets s1 old s2
  have hs1 : Keeps [] s s1 := (((State.mark_keeps).andThen State.bump64_keeps).andThen State.event_keeps).mono rfl
  have hs2 : Keeps [.lsn] s s2 := (hs1.andThen (lsn_replaced (by exact id))).mono rfl
  clear_value s1 s2
  exact (((hs2.andThen hgBroadcast_keeps).ite hs2).ite Keeps.rfl).mono rfl

theorem sentryStep1_keeps {s : State} : Keeps [.lsn, .swa, .hg] s (sentryStep1 s) := by
  unfold sentryStep1
  extract_lets s1 s2
  have hs1 : Keeps [.swa] s s1 := (mittenClose_keeps).mono rfl
  have hs2 : Keeps [.swa] s s2 := ((hs1.andThen State.mark_keeps).andThen State.mark_keeps).mono rfl
  clear_value s1 s2
  exact ((hs2.andThen standDown_keeps).andThen State.put_keeps).mono rfl

theorem transBegin_keeps {s : State} {target cause : Nat} {waits : List TransWait} :
    Keeps [.pwr, .time] s (transBegin s target cause waits) := by
  unfold transBegin
  extract_lets old old1 s1
  have hs1 : Keeps [.pwr, .time] s s1 := ((pwr_replaced (x := s1.pwr)).andThen time_replaced).mono rfl
  clear_value s1
  exact (((hs1.andThen State.mark_keeps).andThen State.put_keeps).andThen State.mark_keeps).mono rfl

theorem stripDiscard_keeps {s : State} {k : Nat} : Keeps [.swa] s (stripDiscard s k) := by
  unfold stripDiscard
  extract_lets s1 old
  have hs1 : Keeps [] s s1 := (State.bump64_keeps).mono rfl
  clear_value s1
  exact ((hs1.andThen State.setStrip_keeps).andThen State.put_keeps).mono rfl

theorem stripZero_keeps {s : State} {k : Nat} : Keeps [.swa] s (stripZero s k) := by
  unfold stripZero
  extract_lets st s1
  have hs1 : Keeps [.swa] s s1 := (State.setStrip_keeps).mono rfl
  clear_value s1
  exact (hs1.andThen stripDiscard_keeps).mono rfl

theorem zeroWake_keeps {s : State} {short : Bool} : Keeps [] s (zeroWake s short) := by
  unfold zeroWake
  split
  · exact ((mittenWindow_keeps).ite Keeps.rfl).mono rfl
  · exact Keeps.rfl.mono rfl

theorem zeroSwath_keeps {s : State} : Keeps [.swa] s (zeroSwath s) := by
  unfold zeroSwath
  extract_lets sc old s1 s2 s3 s4 old1
  have hs1 : Keeps [.swa] s s1 := (swa_replaced (by exact id)).mono rfl
  have hs2 : Keeps [.swa] s s2 := (hs1.andThen (Keeps.forEach (ps := [.swa]) (fun _ _ => (stripZero_keeps).mono rfl))).mono rfl
  have hs3 : Keeps [.swa] s s3 := (hs2.andThen (Keeps.forEach (ps := [.swa]) (fun s5 k => by
      extract_lets s6 old2
      have hs6 : Keeps [] s5 s6 := (State.setPair_keeps).mono rfl
      clear_value s6
      exact (hs6.andThen State.setStrip_keeps).mono rfl))).mono rfl
  have hs4 : Keeps [.swa] s s4 := ((hs3.andThen State.setPair_keeps).andThen zeroWake_keeps).mono rfl
  clear_value s1 s2 s3 s4
  exact (hs4.andThen (swa_replaced (by simp +contextual +zetaDelta [SwaOk, memClear_wf, memWrite_wf, memSet_wf, memBits_wf, mem_empty_wf]))).mono rfl

theorem zeroSwathStart_keeps {s : State} : Keeps [.swa] s (zeroSwathStart s) := by
  unfold zeroSwathStart
  extract_lets s1 old s2
  have hs1 : Keeps [.swa] s s1 := (zeroSwath_keeps).mono rfl
  have hs2 : Keeps [.swa] s s2 := (hs1.andThen (swa_replaced (by exact id))).mono rfl
  clear_value s1 s2
  exact (((State.mark_keeps).andThen State.event_keeps).ite (hs2.andThen State.put_keeps)).mono rfl

theorem sentryEntry_keeps {s : State} {cause : Nat} :
    Keeps [.pwr, .hsp, .time, .int, .mic, .flt, .lsn, .drl, .swa, .que, .hg, .frw, .adc, .nvm, .free] s (sentryEntry s cause) := by
  unfold sentryEntry
  extract_lets s1
  have hs1 : Keeps [.pwr, .hsp, .int, .mic, .flt, .lsn, .drl, .swa, .que, .hg, .frw, .adc, .nvm, .free] s s1 :=
    ((sentryStep1_keeps).andThen sentryStep2_keeps).mono rfl
  clear_value s1
  exact (((hs1.andThen zeroSwathStart_keeps).andThen State.mark_keeps).andThen transBegin_keeps).mono rfl

theorem laterWord_keeps {s : State} {a : Nat} {f : Fld} {v : Nat} : Keeps [.pwr] s (laterWord s a f v) := by
  unfold laterWord
  extract_lets old
  exact (pwr_replaced).mono rfl

theorem nvmStart_keeps {s : State} {cmd : Nat} : Keeps [.pwr, .nvm] s (nvmStart s cmd) := by
  unfold nvmStart
  extract_lets old
  exact (Keeps.rfl.ite ((laterWord_keeps).ite ((State.put_keeps).ite (((nvm_replaced (by exact id)).andThen State.mark_keeps).andThen State.put_keeps)))).mono rfl

theorem execBootsave_completes {s : State} : Completes s (execBootsave s) := by
  unfold execBootsave
  exact Completes.of_keeps nvmStart_keeps

theorem branchIf_keeps {s : State} {i : IForm} {f : Word → Bool} : Keeps stopParts s (branchIf s i f) := by
  unfold branchIf
  extract_lets k b before
  exact (issue_keeps).mono rfl

theorem execBnz_completes {i : IForm} {s : State} : Completes s (execBnz i s) := by
  unfold execBnz
  exact Completes.of_keeps branchIf_keeps

theorem disarm_keeps {s : State} : Keeps [.saf] s (disarm s) := by
  unfold disarm
  exact (((disarmCore_keeps).andThen State.event_keeps).ite Keeps.rfl).mono rfl

theorem State.setDrlIn_keeps {s : State} {n : Nat} {v : DrlIn} : Keeps [.drl] s (State.setDrlIn s n v) := by
  unfold State.setDrlIn
  extract_lets old
  exact (drl_replaced (by simp +contextual +zetaDelta [DrlOk, setNth])).mono rfl

theorem drlRestart_keeps {s : State} {n : Nat} : Keeps [.drl] s (drlRestart s n) := by
  unfold drlRestart
  extract_lets s1 old
  have hs1 : Keeps [.drl] s s1 := (State.setDrlIn_keeps).mono rfl
  clear_value s1
  exact (hs1.andThen (drl_replaced (by exact id))).mono rfl

theorem State.setChain_keeps {s : State} {k : Nat} {v : ChainSt} : Keeps [.flt] s (State.setChain s k v) := by
  unfold State.setChain
  extract_lets old
  exact (flt_replaced (by simp +contextual +zetaDelta [FltOk, setNth])).mono rfl

theorem chainAlign_keeps {s : State} {n : Nat} : Keeps [.flt] s (chainAlign s n) := by
  unfold chainAlign
  extract_lets c old
  exact (State.setChain_keeps).mono rfl

theorem phaseRestart_keeps {s : State} : Keeps [.mic, .flt] s (phaseRestart s) := by
  unfold phaseRestart
  extract_lets s1 s2 old old1 old2
  have hs1 : Keeps [.flt] s s1 := (Keeps.forEach (ps := [.flt]) (fun s3 p => by
      extract_lets old3
      exact (State.setCic_keeps).mono rfl)).mono rfl
  have hs2 : Keeps [.flt] s s2 := (hs1.andThen (Keeps.forEach (ps := [.flt]) (fun _ _ => (chainAlign_keeps).mono rfl))).mono rfl
  clear_value s1 s2
  exact ((hs2.andThen (mic_replaced (x := { s2.mic with phase := 63 }) (by exact id))).andThen (flt_replaced (by exact id))).mono rfl

theorem sentryCount_keeps {s : State} : Keeps [.flt] s (sentryCount s) := by
  unfold sentryCount
  extract_lets old old1
  exact (flt_replaced (by exact id)).mono rfl

theorem detReset_keeps {s : State} {n : Nat} : Keeps [.flt] s (detReset s n) := by
  unfold detReset
  extract_lets s1 old
  have hs1 : Keeps [] s s1 := (((State.put_keeps).andThen State.put_keeps).andThen State.put_keeps).mono rfl
  clear_value s1
  exact (hs1.andThen State.setChain_keeps).mono rfl

theorem countStart_keeps {s : State} {n : Nat} : Keeps [.flt] s (countStart s n) := by
  unfold countStart
  extract_lets s1 u old s2
  have hs1 : Keeps [.flt] s s1 := ((chainAlign_keeps).andThen detReset_keeps).mono rfl
  have hs2 : Keeps [.flt] s s2 := (hs1.andThen State.setChain_keeps).mono rfl
  clear_value s1 s2
  exact (hs2.andThen State.mark_keeps).mono rfl

theorem countsStart_keeps {s : State} : Keeps [.flt] s (countsStart s) := by
  unfold countsStart
  extract_lets s1 s2
  have hs1 : Keeps [.flt] s s1 := (Keeps.forEach (ps := [.flt]) (fun s3 p => by
      extract_lets old
      exact (State.setCic_keeps).mono rfl)).mono rfl
  have hs2 : Keeps [.flt] s s2 := (hs1.andThen (Keeps.forEach (ps := [.flt]) (fun _ _ => (countStart_keeps).mono rfl))).mono rfl
  clear_value s1 s2
  exact (hs2.andThen sentryCount_keeps).mono rfl

theorem fadeDrop_keeps {s : State} {n : Nat} : Keeps [.flt] s (fadeDrop s n) := by
  unfold fadeDrop
  extract_lets old
  exact ((State.setChain_keeps).andThen State.mark_keeps).mono rfl

theorem State.setRoute_keeps {s : State} {k : Nat} {v : RouteSt} : Keeps [.flt] s (State.setRoute s k v) := by
  unfold State.setRoute
  extract_lets old
  exact (flt_replaced (by simp +contextual +zetaDelta [FltOk, setNth])).mono rfl

theorem fadesEnd_keeps {s : State} : Keeps [.flt] s (fadesEnd s) := by
  unfold fadesEnd
  extract_lets s1
  have hs1 : Keeps [.flt] s s1 := (Keeps.forEach (ps := [.flt]) (fun _ _ => ((fadeDrop_keeps).ite Keeps.rfl).mono rfl)).mono rfl
  clear_value s1
  exact (hs1.andThen (Keeps.forEach (ps := [.flt]) (fun s2 d => by
      extract_lets old
      exact (((State.setRoute_keeps).andThen State.mark_keeps).ite Keeps.rfl).mono rfl))).mono rfl

theorem State.incWrap_keeps {s : State} {f : Fld} : Keeps [] s (State.incWrap s f) := by
  unfold State.incWrap
  exact (State.put_keeps).mono rfl

theorem syncAct_keeps {s : State} {late : Bool} : Keeps [.mic, .flt, .swa] s (syncAct s late) := by
  unfold syncAct
  extract_lets old s1 s2 old1 s3 s4 s5
  have hs1 : Keeps [.flt] s s1 := (flt_replaced (by exact id)).mono rfl
  have hs2 : Keeps [.mic, .flt] s s2 := (hs1.andThen phaseRestart_keeps).mono rfl
  have hs3 : Keeps [.mic, .flt, .swa] s s3 :=
    ((hs2.andThen (swa_replaced (by simp +contextual +zetaDelta [SwaOk, setNth]))).ite hs2).mono rfl
  have hs4 : Keeps [.mic, .flt, .swa] s s4 :=
    ((hs3.andThen sentryCount_keeps).ite ((hs3.andThen fadesEnd_keeps).andThen countsStart_keeps)).mono rfl
  have hs5 : Keeps [.mic, .flt, .swa] s s5 := (((hs4.andThen State.mark_keeps).andThen State.event_keeps).ite hs4).mono rfl
  clear_value s1 s2 s3 s4 s5
  exact ((hs5.andThen State.incWrap_keeps).andThen State.event_keeps).mono rfl

theorem syncNow_keeps {s : State} : Keeps [.mic, .flt, .drl, .swa] s (syncNow s) := by
  unfold syncNow
  exact ((syncAct_keeps).andThen (Keeps.forEach (ps := [.drl]) (fun _ _ => (drlRestart_keeps).mono rfl))).mono rfl

theorem syncTick_keeps {s : State} : Keeps [.mic, .flt, .drl, .swa] s (syncTick s) := by
  unfold syncTick
  split
  · exact (syncNow_keeps).mono rfl
  · extract_lets old
    exact (flt_replaced (by exact id)).mono rfl
  · exact Keeps.rfl.mono rfl

theorem execWaitEnd_completes {x : Fin 2} {s : State} : Completes s (execWaitEnd x s) := by
  unfold execWaitEnd
  exact Completes.of_keeps ((hgTrain_keeps).ite Keeps.rfl)

theorem chainInput_keeps {s : State} {n : Nat} : Keeps [.flt] s (chainInput s n) := by
  unfold chainInput
  extract_lets i g s1 old s2
  have hs1 : Keeps [.flt] s s1 := (chainAlign_keeps).mono rfl
  have hs2 : Keeps [.flt] s s2 := (hs1.andThen State.setChain_keeps).mono rfl
  clear_value s1 s2
  exact (hs2.andThen State.mark_keeps).mono rfl

theorem chainCut_keeps {s : State} {n : Nat} {new : Inst} : Keeps [.flt] s (chainCut s n new) := by
  unfold chainCut
  extract_lets s1 old s2
  have hs1 : Keeps [.flt] s s1 := (fadeDrop_keeps).mono rfl
  have hs2 : Keeps [.flt] s s2 := ((hs1.andThen State.setChain_keeps).andThen chainInput_keeps).mono rfl
  clear_value s1 s2
  exact (hs2.ite (hs2.andThen detReset_keeps)).mono rfl

theorem remapTo_keeps {s : State} {n q : Nat} {told : Bool} : Keeps [.flt] s (remapTo s n q told) := by
  unfold remapTo
  extract_lets s1 s2 old s3 i old1 s4
  have hs1 : Keeps [] s s1 := ((State.put_keeps).andThen State.putBit_keeps).mono rfl
  have hs2 : Keeps [] s s2 := ((hs1.andThen State.mark_keeps).andThen State.mark_keeps).mono rfl
  have hs3 : Keeps [.flt] s s3 := (hs2.andThen State.setChain_keeps).mono rfl
  have hs4 : Keeps [.flt] s s4 := (hs3.andThen chainCut_keeps).mono rfl
  clear_value s1 s2 s3 s4
  exact (hs4.ite (hs4.andThen State.event_keeps)).mono rfl

theorem enrRefuse_keeps {s : State} : Keeps [] s (enrRefuse s) := by
  unfold enrRefuse
  exact (((State.put_keeps).andThen State.put_keeps).andThen State.event_keeps).mono rfl

theorem enrStart_keeps {s : State} {slot input count : Nat} : Keeps [.drl] s (enrStart s slot input count) := by
  unfold enrStart
  extract_lets s1 old s2
  have hs1 : Keeps [] s s1 := (((State.put_keeps).andThen State.put_keeps).andThen State.put_keeps).mono rfl
  have hs2 : Keeps [.drl] s s2 := (hs1.andThen (drl_replaced (by exact id))).mono rfl
  clear_value s1 s2
  exact (((hs1.andThen State.put_keeps).andThen State.event_keeps).ite ((hs1.andThen enrRefuse_keeps).ite
    (((hs2.andThen State.put_keeps).andThen State.put_keeps).andThen State.put_keeps))).mono rfl

theorem execEnrolmentStart_completes {slot : Fin 64} {input : Fin 4} {count : Fin 32} {s : State} : Completes s
  (execEnrolmentStart slot input count s) := by
  unfold execEnrolmentStart
  exact Completes.of_keeps ((enrStart_keeps).ite ((enrRefuse_keeps).ite Keeps.rfl))

theorem cicClear_keeps {s : State} {p : Nat} : Keeps [.flt] s (cicClear s p) := by
  unfold cicClear
  extract_lets old
  exact (State.setCic_keeps).mono rfl

theorem fadeCount_keeps {s : State} {n : Nat} : Keeps [.flt] s (fadeCount s n) := by
  unfold fadeCount
  split
  · extract_lets old
    exact (State.setChain_keeps).mono rfl
  · exact Keeps.rfl.mono rfl

theorem inputRestart_keeps {s : State} {p : Nat} {clear : Bool} : Keeps [.flt] s (inputRestart s p clear) := by
  unfold inputRestart
  extract_lets old s1
  have hs1 : Keeps [.flt] s s1 := ((cicClear_keeps).ite State.setCic_keeps).mono rfl
  clear_value s1
  exact ((hs1.andThen (Keeps.forEach (ps := [.flt]) (fun _ _ => (countStart_keeps).mono rfl))).andThen (Keeps.forEach (ps := [.flt])
    (fun _ _ => (fadeCount_keeps).mono rfl))).mono rfl

theorem settleEnd_keeps {s : State} {p : Nat} {k : Settle} : Keeps [.mic, .flt] s (settleEnd s p k) := by
  unfold settleEnd
  extract_lets s1 s2 old
  have hs1 : Keeps [.mic, .flt] s s1 := ((setSettle_keeps).andThen inputRestart_keeps).mono rfl
  have hs2 : Keeps [.mic, .flt] s s2 := ((hs1.andThen sentryCount_keeps).ite hs1).mono rfl
  clear_value s1 s2
  exact ((hs2.andThen (mic_replaced (by exact id))).ite Keeps.rfl).mono rfl

theorem State.putI_keeps {s : State} {f : Fld} {v : ℤ} : Keeps [] s (State.putI s f v) := by
  unfold State.putI
  exact (State.put_keeps).mono rfl

theorem sadDecide_keeps {s : State} {u : Nat} {l : Int} : Keeps [.lsn] s (sadDecide s u l).st := by
  unfold sadDecide
  extract_lets q above on off hang lock act s1 s2 s3
  have hs1 : Keeps [.lsn] s s1 := State.setSad_keeps
  have hs2 : Keeps [.lsn] s s2 := (((hs1.andThen State.mark_keeps).andThen State.bump64_keeps).andThen State.event_keeps).mono rfl
  have hs3 : Keeps [.lsn] s s3 := State.setSad_keeps
  clear_value s1 s2 s3
  split
  · exact Keeps.rfl.mono rfl
  · split
    · exact hs2
    · split
      · exact ((hs3.andThen State.mark_keeps).andThen State.event_keeps).mono rfl
      · exact State.setSad_keeps

theorem tilth_keeps {s : State} {u : Nat} {l : ℤ} : Keeps [.lsn] s (tilth s u l) := by
  unfold tilth
  extract_lets q win m f seeding r f1 s1 hi lo stays
  have hs1 : Keeps [] s s1 := (State.putI_keeps).mono rfl
  clear_value s1
  exact (hs1.andThen State.setSad_keeps).mono rfl

theorem sadFrame_keeps {s : State} {u : Nat} : Keeps [.lsn] s (sadFrame s u).st := by
  unfold sadFrame
  extract_lets n q fr s1 l excl s2 s3 d
  have hs1 : Keeps [.lsn] s s1 := State.setSad_keeps
  have hs2 : Keeps [.lsn] s s2 := ((hs1.andThen State.putI_keeps).andThen State.mark_keeps).mono rfl
  have hs3 : Keeps [.lsn] s s3 := ((hs2.andThen sadSeed_keeps).ite hs2).mono rfl
  have hd : Keeps [.lsn] s d.st := (hs3.andThen sadDecide_keeps).mono rfl
  clear_value s1 s2 s3 d
  split
  · exact hs2
  · exact (hd.andThen tilth_keeps).mono rfl

theorem attention_keeps {s : State} {u : Nat} : Keeps [] s (attention s u) := by
  unfold attention
  exact ((((State.mark_keeps).andThen State.bump64_keeps).andThen State.event_keeps).ite Keeps.rfl).mono rfl

theorem segmentTake_keeps {s : State} {e : EnrolSt} {a b : Nat} : Keeps [.drl] s (segmentTake s e a b) := by
  unfold segmentTake
  extract_lets fs back segs old s1 s2
  have hback : ∀ s3 err, Keeps [.drl] s3 (back s3 err) := fun s3 err => by
      unfold back
      extract_lets old1 s4
      have hs4 : Keeps [.drl] s3 s4 := (drl_replaced (by exact id)).mono rfl
      clear_value s4
      exact ((hs4.andThen State.put_keeps).andThen State.put_keeps).mono rfl
  have hs1 : Keeps [.drl] s s1 := (drl_replaced (by exact id)).mono rfl
  have hs2 : Keeps [.drl] s s2 := ((hs1.andThen State.put_keeps).andThen State.put_keeps).mono rfl
  clear_value s1 s2
  exact ((hback _ _).ite ((hback _ _).ite (hs2.andThen State.put_keeps))).mono rfl

theorem segmentCut_keeps {s : State} : Keeps [.drl] s (segmentCut s) := by
  unfold segmentCut
  split
  · rename_i x e e1
    split
    · exact ((segmentTake_keeps).ite Keeps.rfl).mono rfl
    · exact Keeps.rfl.mono rfl
  · exact Keeps.rfl.mono rfl

theorem enrolHear_keeps {s : State} {u : Nat} {onset above ended : Bool} : Keeps [.drl] s (enrolHear s u onset above ended) := by
  unfold enrolHear
  split
  · exact Keeps.rfl.mono rfl
  · rename_i x e e1
    extract_lets now e2 e3 e4 old s1 s2
    have hs1 : Keeps [.drl] s s1 := (drl_replaced (by exact id)).mono rfl
    have hs2 : Keeps [.drl] s s2 := ((hs1.andThen State.put_keeps).ite hs1).mono rfl
    clear_value s1 s2
    exact (Keeps.rfl.ite (hs2.andThen segmentCut_keeps)).mono rfl

theorem execSadFrame_completes {u : Fin 2} {s : State} : Completes s (execSadFrame u s) := by
  unfold execSadFrame
  extract_lets u1 f o above s1
  have ho : Keeps [.lsn] s o.st := (sadFrame_keeps).mono rfl
  have hs1 : Keeps [.lsn] s s1 := ((ho.andThen attention_keeps).ite ho).mono rfl
  clear_value o s1
  split
  · rename_i e
    split
    · exact Completes.of_keeps (hs1.andThen enrolHear_keeps)
    · exact Completes.of_keeps Keeps.rfl
  · rename_i e
    split
    · exact Completes.of_keeps (hs1.andThen enrolHear_keeps)
    · exact Completes.of_keeps Keeps.rfl

/-- The rest of a bundle may speak of the state before the fetch, as an instruction that waits does. -/
theorem wordIn_keeps_from {s : State} {c : Nat} {e : Bool} {i : Act} {f : State → Bundle → State} {fs : List Part}
    (k : ∀ t b, Keeps stopParts s t → Keeps fs s (f t b)) : Keeps (stopParts ++ fs) s (wordIn s c e i f) := by
  unfold wordIn
  extract_lets core b s'
  have hs' : Keeps [.frw] s s' := State.setCore_keeps
  clear_value s'
  split
  · split
    · exact (hs'.andThen exception_keeps).mono rfl |>.left
    · exact (k _ _ ((hs'.andThen progMeet_keeps).mono rfl)).right
  · exact (Keeps.rfl.mono rfl).left

theorem issueX_keeps {s : State} {c : Nat} {e ok : Bool} {writes : List Nat} {f : State → State} {fs : List Part}
    (k : ∀ s, Keeps fs s (f s)) : Keeps (stopParts ++ (stopParts ++ fs)) s (issueX s c e ok writes f) := by
  unfold issueX
  refine wordIn_keeps fun s1 b => ?_
  extract_lets core s2
  have hs2 : Keeps [.frw] s1 s2 := State.setCore_keeps
  clear_value s2
  split
  · split
    · exact (hs2.andThen exception_keeps).mono rfl |>.left
    · exact Keeps.andThen (ps := stopParts) (hs2.mono rfl) (k _)
  · exact (hs2.mono rfl).left

theorem regsPut_keeps {s : State} {c : Nat} {f : CoreRegs → CoreRegs} : Keeps [.frw] s (regsPut s c f) := by
  unfold regsPut
  extract_lets k
  exact (State.setCore_keeps).mono rfl

theorem amo_keeps {s : State} {i : RForm} {f : Word → Word → Word → Word} : Keeps stopParts s (amo s i f) := by
  unfold amo
  extract_lets c
  exact (issueX_keeps (fs := stopParts) (fun s1 => by
      extract_lets s2 b a o stop s3 old s4
      have hs2 : Keeps [.frw] s1 s2 := (drainAll_keeps).mono rfl
      have hstop : ∀ code info, Keeps stopParts s1 (stop code info) := fun code info => by
          unfold stop
          exact (hs2.andThen exception_keeps).mono rfl
      have hs3 : Keeps [.frw] s1 s3 := (hs2.andThen softMeet_keeps).mono rfl
      have hs4 : Keeps [.frw] s1 s4 := (hs3.andThen commonWrite_keeps).mono rfl
      clear_value s2 s3 s4
      exact ((hstop _ _).ite ((hstop _ _).ite ((hstop _ _).ite ((hs4.andThen regsPut_keeps).andThen bundleDone_keeps)))).mono rfl)).mono rfl

theorem execAmoMinu_completes {i : RForm} {s : State} : Completes s (execAmoMinu i s) := by
  unfold execAmoMinu
  exact Completes.of_keeps amo_keeps

theorem intOff_keeps {s : State} : Keeps [.int] s (intOff s) where
  pending := rfl
  same p hp := by
    cases p with
    | int => exact absurd (List.mem_singleton.mpr rfl) hp
    | _ => exact rfl
  inv h := ⟨sparseWf_clear _ _ _ _ h.regs, h.hsp, h.mic, h.flt, h.lsn, h.drl, h.swa, h.que, h.hg, h.frw, h.adc, h.mon, h.saf, h.nvm⟩

theorem groupDown_keeps {s : State} {g : Nat} : Keeps [.mic] s (groupDown s g) := by
  unfold groupDown
  exact ((State.putBit_keeps).andThen groupStop_keeps).mono rfl

theorem execLinkDown_completes {x : Fin 2} {s : State} : Completes s (execLinkDown x s) := by
  unfold execLinkDown
  extract_lets s1
  have hs1 : Keeps [] s s1 := ((State.mark_keeps).andThen State.mark_keeps).mono rfl
  clear_value s1
  split
  · exact Completes.of_keeps (hs1.andThen hgDown_keeps)
  · exact Completes.of_keeps Keeps.rfl

theorem admittedAs_keeps {t s : State} : Keeps [] s (admittedAs t s) := by
  unfold admittedAs
  extract_lets s1 s2
  have hs1 : Keeps [] s s1 := (Keeps.forEach (ps := []) (fun _ _ => (State.put_keeps).mono rfl)).mono rfl
  have hs2 : Keeps [] s s2 := (hs1.andThen (Keeps.forEach (ps := []) (fun s3 n => by
      exact (State.put_keeps).mono rfl))).mono rfl
  clear_value s1 s2
  exact (Keeps.rfl.ite (((hs2.andThen State.put_keeps).andThen State.put_keeps).ite hs2)).mono rfl

theorem admitted_keeps {s : State} : Keeps [] s (admitted s) := by
  unfold admitted
  exact (admittedAs_keeps).mono rfl

theorem execSwapTimeout_completes {s : State} : Completes s (execSwapTimeout s) := by
  unfold execSwapTimeout
  exact Completes.of_keeps (((swapAbort_keeps).andThen admitted_keeps).ite Keeps.rfl)

theorem jtagSelect_keeps {s : State} {code : Nat} : Keeps [.jtag] s (jtagSelect s code) := by
  unfold jtagSelect
  exact ((jtag_replaced).ite Keeps.rfl).mono rfl

theorem execClamp_completes {s : State} : Completes s (execClamp s) := by
  unfold execClamp
  exact Completes.of_keeps jtagSelect_keeps

theorem chainFade_keeps {s : State} {n : Nat} {new : Inst} : Keeps [.flt] s (chainFade s n new) := by
  unfold chainFade
  extract_lets c s1
  have hs1 : Keeps [.flt] s s1 := (State.setChain_keeps).mono rfl
  clear_value s1
  exact (hs1.andThen State.mark_keeps).mono rfl

theorem chainCutTo_keeps {s : State} {n : Nat} {new : Inst} : Keeps [.flt] s (chainCutTo s n new) := by
  unfold chainCutTo
  extract_lets i with_
  split
  · exact (((chainCut_keeps).andThen chainFade_keeps).ite chainCut_keeps).mono rfl
  · exact (chainCut_keeps).mono rfl

theorem ledgerTake_keeps {s : State} {x e : Nat} : Keeps [] s (ledgerTake s x e) := by
  unfold ledgerTake
  extract_lets s1 s2 s3 s4 s5 s6 s7
  have hs1 : Keeps [] s s1 := (State.put_keeps).mono rfl
  have hs2 : Keeps [] s s2 := (hs1.andThen State.put_keeps).mono rfl
  have hs3 : Keeps [] s s3 := (hs2.andThen State.put_keeps).mono rfl
  have hs4 : Keeps [] s s4 := (hs3.andThen State.put_keeps).mono rfl
  have hs5 : Keeps [] s s5 := (hs4.andThen State.put_keeps).mono rfl
  have hs6 : Keeps [] s s6 := ((hs5.andThen State.put_keeps).andThen State.put_keeps).mono rfl
  have hs7 : Keeps [] s s7 := ((hs6.andThen State.put_keeps).andThen State.put_keeps).mono rfl
  clear_value s1 s2 s3 s4 s5 s6 s7
  exact (hs7.andThen State.put_keeps).mono rfl

theorem ledgersTake_keeps {s : State} {x : Nat} : Keeps [.adc] s (ledgersTake s x) := by
  unfold ledgersTake
  extract_lets es old
  exact ((State.setAdc_keeps).andThen (Keeps.forEach (ps := []) (fun _ _ => (ledgerTake_keeps).mono rfl))).mono rfl

theorem adcBegin_keeps {s : State} {x : Nat} {k : ConvKind} {e : Nat} : Keeps [.adc] s (adcBegin s x k e) := by
  unfold adcBegin
  extract_lets old s1 s2
  have hs1 : Keeps [.adc] s s1 := (State.setAdc_keeps).mono rfl
  have hs2 : Keeps [.adc] s s2 := ((hs1.andThen State.mark_keeps).andThen State.put_keeps).mono rfl
  clear_value s1 s2
  exact (hs2.andThen State.mark_keeps).mono rfl

theorem pairBegin_keeps {s : State} : Keeps [.adc] s (pairBegin s) := by
  unfold pairBegin
  extract_lets s1 old s2
  have hs1 : Keeps [] s s1 := (State.mark_keeps).mono rfl
  have hs2 : Keeps [.adc] s s2 := (hs1.andThen (adc_replaced (by exact id))).mono rfl
  clear_value s1 s2
  exact ((hs2.andThen adcBegin_keeps).andThen adcBegin_keeps).mono rfl

theorem scanNext_keeps {s : State} {x : Nat} : Keeps [.adc] s (scanNext s x) := by
  unfold scanNext
  split
  · exact (((pairBegin_keeps).ite State.mark_keeps).ite adcBegin_keeps).mono rfl
  · exact Keeps.rfl.mono rfl

theorem scanEnd_keeps {s : State} {x : Nat} : Keeps [.adc] s (scanEnd s x) := by
  unfold scanEnd
  extract_lets t k s1
  have hs1 : Keeps [.adc] s s1 := ((State.setAdc_keeps).andThen State.mark_keeps).mono rfl
  clear_value s1
  exact ((hs1.andThen State.bump64_keeps).andThen State.event_keeps).mono rfl

theorem scanBegin_keeps {s : State} {x : Nat} : Keeps [.adc] s (scanBegin s x) := by
  unfold scanBegin
  extract_lets m old s1
  have hs1 : Keeps [.adc] s s1 := (State.setAdc_keeps).mono rfl
  clear_value s1
  exact ((hs1.andThen scanEnd_keeps).ite (hs1.andThen scanNext_keeps)).mono rfl

theorem adcChoose_keeps {s : State} {x : Nat} : Keeps [.adc] s (adcChoose s x) := by
  unfold adcChoose
  extract_lets s1 k s2 k1 ref s3
  have hs1 : Keeps [.adc] s s1 := (ledgersTake_keeps).mono rfl
  have hs2 : Keeps [.adc] s s2 := ((hs1.andThen State.setAdc_keeps).ite hs1).mono rfl
  have hs3 : Keeps [.adc] s s3 := ((hs2.andThen scanBegin_keeps).ite hs2).mono rfl
  clear_value s1 s2 s3
  split
  · exact (hs2.andThen adcBegin_keeps).mono rfl
  · rename_i x1 e
    split
    · exact ((hs2.andThen adcBegin_keeps).ite hs2).mono rfl
    · split
      · exact ((hs2.andThen adcBegin_keeps).ite hs2).mono rfl
      · exact (hs2.ite ((hs2.andThen pairBegin_keeps).ite ((hs2.andThen scanNext_keeps).ite ((hs3.andThen adcBegin_keeps).ite hs3)))).mono rfl

theorem adcKick_keeps {s : State} {x : Nat} : Keeps [.adc] s (adcKick s x) := by
  unfold adcKick
  exact ((adcChoose_keeps).ite Keeps.rfl).mono rfl

theorem adcKicks_keeps {s : State} : Keeps [.adc] s (adcKicks s) := by
  unfold adcKicks
  exact ((adcKick_keeps).andThen adcKick_keeps).mono rfl

theorem execRefokSettle_completes {good : Bool} {s : State} : Completes s (execRefokSettle good s) := by
  unfold execRefokSettle
  extract_lets old s1
  have hs1 : Keeps [.adc] s s1 := (adc_replaced (by exact id)).mono rfl
  clear_value s1
  split
  · exact Completes.of_keeps (((hs1.andThen State.mark_keeps).andThen State.level_keeps).andThen adcKicks_keeps)
  · exact Completes.of_keeps Keeps.rfl

theorem monWake_keeps {s : State} {fc : Nat} : Keeps [.mon] s (monWake s fc) := by
  unfold monWake
  extract_lets s1 old
  have hs1 : Keeps [.mon] s s1 := (pmbQueue_keeps).mono rfl
  clear_value s1
  split
  · exact ((hs1.andThen (mon_replaced (by exact id))).andThen voltSet_keeps).mono rfl
  · exact hs1.mono rfl

theorem selfStart_keeps {s : State} : Keeps [.adc] s (selfStart s) := by
  unfold selfStart
  extract_lets z old s1 s2
  have hs1 : Keeps [.adc] s s1 := (adc_replaced (by simp [AdcOk])).mono rfl
  have hs2 : Keeps [.adc] s s2 := ((hs1.andThen State.mark_keeps).andThen State.put_keeps).mono rfl
  clear_value s1 s2
  exact (hs2.andThen adcKicks_keeps).mono rfl

theorem exitStart_keeps {s : State} {target cause : Nat} : Keeps [.pwr, .time, .swa, .adc, .mon] s (exitStart s target cause) := by
  unfold exitStart
  extract_lets s1 old s2 s3 due s4 old1 s5
  have hs1 : Keeps [.swa, .mon] s s1 := ((monWake_keeps).andThen zeroSwath_keeps).mono rfl
  have hs2 : Keeps [.swa, .mon] s s2 := (hs1.andThen (swa_replaced (by exact id))).mono rfl
  have hs3 : Keeps [.swa, .mon] s s3 := (hs2.andThen State.put_keeps).mono rfl
  have hs4 : Keeps [.pwr, .time, .swa, .mon] s s4 := (hs3.andThen transBegin_keeps).mono rfl
  have hs5 : Keeps [.pwr, .time, .swa, .mon] s s5 := (hs4.andThen pwr_replaced).mono rfl
  clear_value s1 s2 s3 s4 s5
  exact (hs5.ite (hs5.andThen selfStart_keeps)).mono rfl

theorem requestState_keeps {s : State} {target cause : Nat} :
    Keeps [.pwr, .hsp, .time, .int, .mic, .flt, .lsn, .drl, .swa, .que, .hg, .frw, .adc, .mon, .nvm, .free] s (requestState s target cause) := by
  unfold requestState
  extract_lets old
  exact (Keeps.rfl.ite ((((State.mark_keeps).andThen unloadBegin_keeps).ite (((State.mark_keeps).andThen unloadEnd_keeps).ite Keeps.rfl)).ite
    (Keeps.rfl.ite (((((pwr_replaced).andThen State.mark_keeps).andThen State.put_keeps).ite exitStart_keeps).ite
      ((sentryEntry_keeps).ite transBegin_keeps))))).mono rfl

theorem heldGo_keeps {s : State} {arrive : State → State} {fs : List Part} (k : ∀ s, Keeps fs s (arrive s)) :
    Keeps ([.pwr, .hsp, .time, .int, .mic, .flt, .lsn, .drl, .swa, .que, .hg, .frw, .adc, .mon, .nvm, .free] ++ fs) s (heldGo s arrive) := by
  unfold heldGo
  split
  · exact (((requestState_keeps).ite Keeps.rfl).mono rfl).left
  · split
    · exact Keeps.andThen (ps := [.pwr, .hsp, .time, .int, .mic, .flt, .lsn, .drl, .swa, .que, .hg, .frw, .adc, .mon, .nvm, .free])
          ((pwr_replaced).mono rfl) (k _)
    · exact (Keeps.rfl.mono rfl).left

/-- What an access of a core's data space leaves. -/
def Access.Keeps (ps : List Part) (s : State) : Access → Prop
  | .fault u _ _ => Machine.Keeps ps s u
  | .wait => True
  | .done u _ _ => Machine.Keeps ps s u

theorem Access.Keeps.widen {ps qs : List Part} {s : State} {a : Access} (h : a.Keeps ps s) (k : partsIn ps qs = true) : a.Keeps qs s := by
  cases a with
  | fault u code info => exact Machine.Keeps.mono h k
  | wait => trivial
  | done u bs long => exact Machine.Keeps.mono h k

theorem readBuffered_leaves {s : State} {c o n : Nat} {common : Bool} : (readBuffered s c o n common).Keeps [.frw] s := by
  unfold readBuffered
  split
  · split
    · exact Keeps.rfl.mono rfl
    · exact softMeet_keeps
  · split
    · exact Keeps.rfl.mono rfl
    · exact softMeet_keeps

theorem coreRetired_keeps {s : State} {c : Nat} : Keeps [.hsp, .frw] s (coreRetired s c) := by
  unfold coreRetired
  exact (((drainAll_keeps).andThen coreStop_keeps).andThen State.mark_keeps).mono rfl

theorem mountShow_keeps {s : State} : Keeps [.hsp, .swa, .frw] s (mountShow s) := by
  unfold mountShow
  extract_lets s1 old s2 s3 s4
  have hs1 : Keeps [] s s1 := (nvmShow_keeps).mono rfl
  have hs2 : Keeps [.swa] s s2 := (hs1.andThen (swa_replaced (by exact id))).mono rfl
  have hs3 : Keeps [.swa] s s3 := (hs2.andThen State.put_keeps).mono rfl
  have hs4 : Keeps [.hsp, .swa, .frw] s s4 :=
    (hs3.andThen (Keeps.forEach (ps := [.hsp, .frw]) (fun _ _ => (Keeps.rfl.ite coreRetired_keeps).mono rfl))).mono rfl
  clear_value s1 s2 s3 s4
  exact (hs4.andThen (Keeps.forEach (ps := []) (fun _ _ => (State.put_keeps).mono rfl))).mono rfl

theorem execAlignSend_completes {x : Fin 2} {s : State} : Completes s (execAlignSend x s) := by
  unfold execAlignSend
  exact Completes.of_keeps ((hgLine_keeps).ite Keeps.rfl)

theorem hgRetrain_keeps {s : State} {x : Nat} : Keeps [.swa, .hg] s (hgRetrain s x) := by
  unfold hgRetrain
  extract_lets st
  exact (Keeps.rfl.ite (((hgTrain_keeps).andThen hgRoutes_keeps).ite ((hgTrain_keeps).ite Keeps.rfl))).mono rfl

theorem stopOverHeartbeat_keeps {s : State} {p : Nat} : Keeps [.pwr] s (stopOverHeartbeat s p) := by
  unfold stopOverHeartbeat
  exact ((causeReplace_keeps).ite Keeps.rfl).mono rfl

theorem noticeSend_keeps {s : State} : Keeps [.hg] s (noticeSend s) := by
  unfold noticeSend
  extract_lets d
  exact ((hgSend_keeps).ite State.mark_keeps).mono rfl

theorem execNoticeSend_completes {s : State} : Completes s (execNoticeSend s) := by
  unfold execNoticeSend
  exact Completes.of_keeps noticeSend_keeps

theorem State.setPairSt_keeps {s : State} {p : PairSt} : Keeps [.drl] s (State.setPairSt s p) := by
  unfold State.setPairSt
  extract_lets rest old
  exact (drl_replaced (by exact id)).mono rfl

theorem slotJudge_keeps {s : State} {h : HeldSlot} {n u t es first : Nat} {pass : Option (Nat × Nat)} {give gone : Nat} {cells : List Cell} :
    Keeps [.drl] s (slotJudge s h n u t es first pass give gone cells).1 := by
  unfold slotJudge
  extract_lets k p s1 dec s2
  have hs1 : Keeps [] s s1 := (State.put_keeps).mono rfl
  have hs2 : Keeps [.drl] s s2 := (hs1.andThen State.setPairSt_keeps).mono rfl
  clear_value s1 s2
  split
  · exact (hs2.andThen State.bump64_keeps).mono rfl
  · rename_i e
    split
    · split
      · exact (hs1.andThen State.setPairSt_keeps).mono rfl
      · exact (hs1.andThen State.setPairSt_keeps).mono rfl
      · split
        · exact (hs1.andThen State.setPairSt_keeps).mono rfl
        · exact (hs1.andThen State.setPairSt_keeps).mono rfl
      · exact (hs1.andThen State.setPairSt_keeps).mono rfl
    · exact (hs1.andThen State.setPairSt_keeps).mono rfl

theorem netStep_keeps {s : State} {h : HeldSlot} {n u t sc : Nat} : Keeps [.drl] s (netStep s h n u t sc).1 := by
  unfold netStep
  extract_lets p first
  split
  · exact (State.setPairSt_keeps).mono rfl
  · exact (slotJudge_keeps).mono rfl

theorem accTo_keeps {s : State} {i : RForm} {ok : Bool} {uses : List Nat} {f : CoreRegs → Nat → ℤ × Bool} :
    Keeps stopParts s (accTo s i ok uses f) := by
  unfold accTo
  exact (issue_keeps).mono rfl

theorem execVacset_completes {i : RForm} {func : BitVec 8} {s : State} : Completes s (execVacset i func s) := by
  unfold execVacset
  exact Completes.of_keeps accTo_keeps

theorem execCmpLtu_completes {i : RForm} {s : State} : Completes s (execCmpLtu i s) := by
  unfold execCmpLtu
  exact Completes.of_keeps cmpR_keeps

theorem intTake_keeps {s : State} {n : Nat} : Keeps [.int] s (intTake s n) := by
  unfold intTake
  extract_lets s1 rest old
  have hs1 : Keeps [] s s1 := ((State.mark_keeps).andThen State.put_keeps).mono rfl
  clear_value s1
  exact (hs1.andThen int_replaced).mono rfl

theorem intClaim_keeps {s : State} {t : Nat} : Keeps [.int] s (intClaim s t) := by
  unfold intClaim
  split
  · exact Keeps.rfl.mono rfl
  · exact ((intTake_keeps).andThen State.bump64_keeps).mono rfl

theorem queuePop_keeps {s : State} {n k : Nat} : Keeps [.que] s (queuePop s n k) := by
  unfold queuePop
  extract_lets q s1
  have hs1 : Keeps [.que] s s1 := (State.setQueue_keeps).mono rfl
  clear_value s1
  exact ((hs1.andThen hqLevel_keeps).ite hs1).mono rfl

theorem hqPop_keeps {s : State} {h k : Nat} : Keeps [.que] s (hqPop s h k) := by
  unfold hqPop
  exact ((queuePop_keeps).ite Keeps.rfl).mono rfl

theorem adcQueuePop_keeps {s : State} {x n : Nat} : Keeps [.adc] s (adcQueuePop s x n) := by
  unfold adcQueuePop
  extract_lets c
  exact ((State.setAdc_keeps).andThen adcQueueShow_keeps).mono rfl

theorem rcTake_keeps {s : State} {host : Bool} {core n : Nat} {x4 : RcWin} :
    Keeps [.int, .drl, .que, .adc] s (rcTake s host core n x4) := by
  unfold rcTake
  split
  · exact ((intClaim_keeps).ite Keeps.rfl).mono rfl
  · exact (hqPop_keeps).mono rfl
  · extract_lets old s1
    have hs1 : Keeps [.drl] s s1 := (drl_replaced (by exact id)).mono rfl
    clear_value s1
    exact (hs1.andThen State.put_keeps).mono rfl
  · exact (adcQueuePop_keeps).mono rfl

theorem coreReadTake_keeps {s : State} {c a : Nat} : Keeps [.int, .drl, .que, .adc] s (coreReadTake s c a) := by
  unfold coreReadTake
  split
  · exact ((rcTake_keeps).ite Keeps.rfl).mono rfl
  · exact ((rcTake_keeps).ite Keeps.rfl).mono rfl
  · exact (rcTake_keeps).mono rfl
  · exact Keeps.rfl.mono rfl

theorem execClaim_completes {t : Nat} {s : State} : Completes s (execClaim t s) := by
  unfold execClaim
  exact Completes.of_keeps ((intClaim_keeps).ite Keeps.rfl)

theorem queuePush_keeps {s : State} {n : Nat} {es : List Nat} : Keeps [.que] s (queuePush s n es) := by
  unfold queuePush
  extract_lets q
  exact (State.setQueue_keeps).mono rfl

theorem ciPush_keeps {s : State} {n w : Nat} : Keeps [.que] s (ciPush s n w) := by
  unfold ciPush
  extract_lets q w1 old
  exact (((((queueCountDrop_keeps).andThen State.setQueue_keeps).andThen State.event_keeps).ite
    ((queuePush_keeps).andThen State.setQueue_keeps)).ite Keeps.rfl).mono rfl

theorem forwardFollow_keeps {s : State} : Keeps [] s (forwardFollow s) := by
  unfold forwardFollow
  exact (State.mark_keeps).mono rfl

theorem hgStart_keeps {s : State} {x : Nat} : Keeps [.swa, .hg] s (hgStart s x) := by
  unfold hgStart
  exact ((hgTrain_keeps).ite Keeps.rfl).mono rfl

theorem hgWake_keeps {s : State} : Keeps [.swa, .hg] s (hgWake s) := by
  unfold hgWake
  exact (Keeps.forEach (ps := [.swa, .hg]) (fun _ _ => (((hgRetrain_keeps).ite Keeps.rfl).ite ((hgStart_keeps).ite Keeps.rfl)).mono rfl)).mono rfl

theorem queueEnable_keeps {s : State} {n : Nat} : Keeps [.que] s (queueEnable s n) := by
  unfold queueEnable
  exact (State.setQueue_keeps).mono rfl

theorem queuesStart_keeps {s : State} : Keeps [.que] s (queuesStart s) := by
  unfold queuesStart
  exact (Keeps.forEach (ps := [.que]) (fun _ _ => (queueEnable_keeps).mono rfl)).mono rfl

theorem stripAnew_keeps {s : State} {k : Nat} : Keeps [.swa] s (stripAnew s k) := by
  unfold stripAnew
  extract_lets old s1
  have hs1 : Keeps [.swa] s s1 := ((stripDiscard_keeps).andThen State.setStrip_keeps).mono rfl
  clear_value s1
  exact ((hs1.andThen State.put_keeps).andThen State.mark_keeps).mono rfl

theorem periodWindow_keeps {s : State} : Keeps [.swa] s (periodWindow s) := by
  unfold periodWindow
  extract_lets old s1
  have hs1 : Keeps [.swa] s s1 := (swa_replaced (by exact id)).mono rfl
  clear_value s1
  exact ((hs1.andThen State.setPair_keeps).ite hs1).mono rfl

theorem periodRuns_keeps {s : State} : Keeps [.swa, .hg] s (periodRuns s) := by
  unfold periodRuns
  extract_lets old old1
  exact ((swa_replaced (x := { s.swa with run := true }) (by exact id)).andThen (hg_replaced
    (x := { s.hg with ustr := s.hg.ustr.map fun u => { u with count := 0 } })
    fun h => ⟨h.1, by simpa using h.2⟩)).mono rfl

theorem periodStart_keeps {s : State} : Keeps [.swa, .hg] s (periodStart s) := by
  unfold periodStart
  extract_lets s1
  have hs1 : Keeps [.swa] s s1 :=
    ((((periodWindow_keeps).andThen (Keeps.forEach (ps := [.swa])
      (fun _ _ => (stripAnew_keeps).mono rfl))).andThen State.setPair_keeps).andThen State.bump64_keeps).mono rfl
  clear_value s1
  exact (((hs1.andThen State.mark_keeps).andThen State.mark_keeps).andThen periodRuns_keeps).mono rfl

theorem awakeArrive_keeps {s : State} : Keeps [.swa, .que, .hg] s (awakeArrive s) := by
  unfold awakeArrive
  exact ((((periodStart_keeps).andThen queuesStart_keeps).andThen hgWake_keeps).andThen forwardFollow_keeps).mono rfl

theorem soundStart_keeps {s : State} : Keeps [.flt] s (soundStart s) := by
  unfold soundStart
  extract_lets chains old routes old1 s1 s2 s3
  have hs1 : Keeps [.flt] s s1 := flt_replaced fun _ => ⟨by simp, by simp [chains, upto], by simp [routes, upto]⟩
  have hs2 : Keeps [.flt] s s2 := (hs1.andThen (Keeps.forEach (ps := []) fun _ _ => State.mark_keeps)).mono rfl
  have hs3 : Keeps [.flt] s s3 := (hs2.andThen (Keeps.forEach (ps := []) fun _ _ => State.mark_keeps)).mono rfl
  clear_value s3
  exact (hs3.andThen countsStart_keeps).mono rfl

theorem drlWake_keeps {s : State} : Keeps [.drl] s (drlWake s) := by
  unfold drlWake
  extract_lets old
  exact (drl_replaced (by simp [DrlOk])).mono rfl

theorem unitsStart_keeps {s : State} : Keeps [.flt, .drl, .swa, .que, .hg, .adc, .mon] s (unitsStart s) := by
  unfold unitsStart
  exact (((((drlWake_keeps).andThen soundStart_keeps).andThen awakeArrive_keeps).andThen monFollow_keeps).andThen adcKicks_keeps).mono rfl

theorem groupUp_keeps {s : State} {g : Nat} : Keeps [.mic, .flt] s (groupUp s g) := by
  unfold groupUp
  extract_lets s1
  have hs1 : Keeps [.mic, .flt] s s1 := (((State.putBit_keeps).andThen setDiv_keeps).andThen groupAnchor_keeps).mono rfl
  clear_value s1
  exact (hs1.andThen (Keeps.forEach (ps := [.mic, .flt]) (fun _ _ => ((settleStart_keeps).andThen cicClear_keeps).mono rfl))).mono rfl

theorem sentryClear_keeps {s : State} : Keeps [.flt] s (sentryClear s) := by
  unfold sentryClear
  extract_lets old old1
  exact (flt_replaced (by exact id)).mono rfl

theorem micSentry_keeps {s : State} : Keeps [.mic, .flt] s (micSentry s) := by
  unfold micSentry
  extract_lets g s1 s2 s3 old s4
  have hs1 : Keeps [.mic] s s1 := (Keeps.forEach (ps := [.mic]) (fun _ _ => (groupDown_keeps).mono rfl)).mono rfl
  have hs2 : Keeps [.mic] s s2 := (hs1.andThen State.put_keeps).mono rfl
  have hs3 : Keeps [.mic, .flt] s s3 := ((hs2.andThen groupMode_keeps).ite (hs2.andThen groupUp_keeps)).mono rfl
  have hs4 : Keeps [.mic, .flt] s s4 := (hs3.andThen (mic_replaced (by exact id))).mono rfl
  clear_value s1 s2 s3 s4
  exact (hs4.andThen sentryClear_keeps).mono rfl

theorem queueArrive_keeps {s : State} {n : Nat} : Keeps [.que] s (queueArrive s n) := by
  unfold queueArrive
  extract_lets q
  split
  · exact Keeps.rfl.mono rfl
  · extract_lets s1 s2
    have hs1 : Keeps [.que] s s1 := (State.setQueue_keeps).mono rfl
    have hs2 : Keeps [.que] s s2 := ((hs1.andThen State.put_keeps).ite hs1).mono rfl
    clear_value s1 s2
    exact ((hs2.andThen hqLevel_keeps).ite hs2).mono rfl

theorem execEntryArrive_completes {n : Nat} {s : State} : Completes s (execEntryArrive n s) := by
  unfold execEntryArrive
  exact Completes.of_keeps ((queueArrive_keeps).ite Keeps.rfl)

theorem execTopoSend_completes {s : State} : Completes s (execTopoSend s) := by
  unfold execTopoSend
  extract_lets old s1
  have hs1 : Keeps [.hg] s s1 := (hg_replaced (by exact id)).mono rfl
  clear_value s1
  exact Completes.of_keeps (hs1.andThen hgBroadcast_keeps)

theorem execFadeComplete_completes {route : Bool} {k : Fin 148} {s : State} : Completes s (execFadeComplete route k s) := by
  unfold execFadeComplete
  extract_lets k1 old
  split
  · rename_i e
    split
    · exact Completes.of_keeps ((((State.setRoute_keeps).andThen State.mark_keeps).andThen State.event_keeps).ite Keeps.rfl)
    · exact Completes.of_keeps Keeps.rfl
  · rename_i e
    split
    · split
      · exact Completes.of_keeps (((fadeDrop_keeps).andThen State.event_keeps).ite Keeps.rfl)
      · exact Completes.of_keeps Keeps.rfl
    · exact Completes.of_keeps Keeps.rfl

theorem adcWindow_keeps {s : State} {x c : Nat} : Keeps [.adc] s (adcWindow s x c) := by
  unfold adcWindow
  extract_lets inside k was ev s1
  have hs1 : Keeps [.adc] s s1 := ((State.setAdc_keeps).andThen State.mark_keeps).mono rfl
  clear_value s1
  exact (((State.setAdc_keeps).andThen State.mark_keeps).ite ((State.setAdc_keeps).ite ((State.setAdc_keeps).ite
    ((hs1.andThen State.event_keeps).ite hs1)))).mono rfl

theorem ledgerAdd_keeps {s : State} {x e c : Nat} : Keeps [] s (ledgerAdd s x e c) := by
  unfold ledgerAdd
  extract_lets n s1 s2 s3 s4
  have hs1 : Keeps [] s s1 := (State.put_keeps).mono rfl
  have hs2 : Keeps [] s s2 := (hs1.andThen State.put_keeps).mono rfl
  have hs3 : Keeps [] s s3 := (hs2.andThen State.put_keeps).mono rfl
  have hs4 : Keeps [] s s4 := (hs3.andThen State.put_keeps).mono rfl
  clear_value s1 s2 s3 s4
  exact ((State.incSat_keeps).ite ((hs4.andThen State.event_keeps).ite hs4)).mono rfl

theorem adcQueueAdd_keeps {s : State} {x w0 w1 : Nat} : Keeps [.adc] s (adcQueueAdd s x w0 w1) := by
  unfold adcQueueAdd
  extract_lets c
  exact (((State.setAdc_keeps).andThen adcQueueShow_keeps).ite ((State.incSat_keeps).andThen State.event_keeps)).mono rfl

theorem adcDeliver_keeps {s : State} {x : Nat} {k : ConvKind} {e raw c tick : Nat} :
    Keeps [.adc, .free] s (adcDeliver s x k e raw c tick) := by
  unfold adcDeliver
  extract_lets s1 win w0 n f
  have hs1 : Keeps [] s s1 := ((ledgerAdd_keeps).ite Keeps.rfl).mono rfl
  have hf : Keeps [.free] s f.2 := (hs1.andThen State.fresh_keeps).mono rfl
  clear_value s1 f
  exact (((hf.andThen adcQueueAdd_keeps).ite (hs1.andThen adcQueueAdd_keeps)).ite hs1).mono rfl

theorem pairHalf_keeps {s : State} {x c : Nat} : Keeps [.pwr, .time, .lsn, .drl, .swa, .adc, .saf] s (pairHalf s x c) := by
  unfold pairHalf
  extract_lets old s1 old1 s2
  have hs1 : Keeps [.adc] s s1 := ((adc_replaced (by exact id)).ite (adc_replaced (by exact id))).mono rfl
  have hs2 : Keeps [.adc] s s2 := (hs1.andThen (adc_replaced (by exact id))).mono rfl
  clear_value s1 s2
  split
  · rename_i e
    split
    · extract_lets s3 s4
      have hs3 : Keeps [.adc] s s3 := ((hs2.andThen State.bump64_keeps).andThen State.putI_keeps).mono rfl
      have hs4 : Keeps [.adc] s s4 := ((hs3.andThen State.bump64_keeps).andThen State.event_keeps).mono rfl
      clear_value s3 s4
      exact ((hs4.andThen diagEventT_keeps).ite hs3).mono rfl
    · exact hs1.mono rfl
  · exact Keeps.rfl.mono rfl

theorem scanResult_keeps {s : State} {x : Nat} {k : ConvKind} {e raw tick : Nat} :
    Keeps [.pwr, .time, .lsn, .drl, .swa, .adc, .saf, .free] s (scanResult s x k e raw tick) := by
  unfold scanResult
  extract_lets c s1 s2 s3 a
  have hs1 : Keeps [.adc] s s1 := ((adcWindow_keeps).ite Keeps.rfl).mono rfl
  have hs2 : Keeps [.adc, .free] s s2 := (hs1.andThen adcDeliver_keeps).mono rfl
  have hs3 : Keeps [.pwr, .time, .lsn, .drl, .swa, .adc, .saf, .free] s s3 := ((hs2.andThen pairHalf_keeps).ite hs2).mono rfl
  clear_value s1 s2 s3
  split
  · exact (((hs3.andThen scanEnd_keeps).ite (hs3.andThen State.setAdc_keeps)).ite hs3).mono rfl
  · exact hs3.mono rfl

theorem preConfirm_keeps {s : State} : Keeps [] s (preConfirm s) := by
  unfold preConfirm
  exact (((State.mark_keeps).andThen State.bump64_keeps).ite Keeps.rfl).mono rfl

theorem markWakeBlock_keeps {s : State} {m : Nat} {short : Bool} : Keeps [.swa] s (markWakeBlock s m short) := by
  unfold markWakeBlock
  extract_lets old s1 old1
  have hs1 : Keeps [.swa] s s1 := ((swa_replaced (by exact id)).ite (swa_replaced (by exact id))).mono rfl
  clear_value s1
  split
  · rename_i e
    split
    · exact ((hs1.andThen (swa_replaced (by exact id))).ite hs1).mono rfl
    · exact hs1.mono rfl
  · exact (hs1.andThen (Keeps.forEach (ps := [.swa]) (fun s2 k => by
      split
      · extract_lets old2
        exact ((State.setStrip_keeps).ite Keeps.rfl).mono rfl
      · exact Keeps.rfl.mono rfl))).mono rfl

theorem stopLog_keeps {s : State} : Keeps [.free] s (stopLog s) := by
  unfold stopLog
  extract_lets p v s1
  have hv : Keeps [.free] s v.2 := (State.fresh_keeps).mono rfl
  have hs1 : Keeps [.free] s s1 := ((hv.andThen State.wr_keeps).andThen State.wr_keeps).mono rfl
  clear_value v s1
  exact (hs1.andThen State.put_keeps).mono rfl

theorem pduSend_keeps {s : State} {typ kind slot inp score : Nat} : Keeps [.hg, .saf] s (pduSend s typ kind slot inp score) := by
  unfold pduSend
  extract_lets b old s1
  have hs1 : Keeps [.saf] s s1 := (saf_replaced (by exact id)).mono rfl
  clear_value s1
  exact (hs1.andThen hgBroadcast_keeps).mono rfl

theorem stopConfirm_keeps {s : State} {slot inp score : Nat} :
    Keeps [.pwr, .time, .lsn, .drl, .swa, .hg, .saf, .free] s (stopConfirm s slot inp score) := by
  unfold stopConfirm
  extract_lets old s1 s2 s3 s4
  have hs1 : Keeps [.saf, .free] s s1 := ((saf_replaced (by exact id)).andThen stopLog_keeps).mono rfl
  have hs2 : Keeps [.saf, .free] s s2 := ((hs1.andThen ackFail_keeps).ite hs1).mono rfl
  have hs3 : Keeps [.saf, .free] s s3 := ((hs2.andThen permitClear_keeps).andThen State.event_keeps).mono rfl
  have hs4 : Keeps [.hg, .saf, .free] s s4 := (hs3.andThen pduSend_keeps).mono rfl
  clear_value s1 s2 s3 s4
  exact ((hs2.andThen armRefuse_keeps).ite (hs4.andThen trip_keeps)).mono rfl

theorem stopTake_keeps {s : State} {slot inp score : Nat} :
    Keeps [.pwr, .time, .lsn, .drl, .swa, .hg, .saf, .free] s (stopTake s slot inp score) := by
  unfold stopTake
  extract_lets old s1
  have hs1 : Keeps [.pwr, .time, .lsn, .drl, .swa, .saf] s s1 := (Keeps.rfl.ite diagCount_keeps).mono rfl
  clear_value s1
  exact ((saf_replaced (by exact id)).ite ((hs1.andThen stopConfirm_keeps).ite Keeps.rfl)).mono rfl

theorem wakeRecord_keeps {s : State} {src seed devp : Nat} : Keeps [] s (wakeRecord s src seed devp) := by
  unfold wakeRecord
  extract_lets s1
  have hs1 : Keeps [] s s1 := (State.put_keeps).mono rfl
  clear_value s1
  exact ((hs1.andThen State.put_keeps).ite ((hs1.andThen State.put_keeps).ite hs1)).mono rfl

theorem markWakeDone_keeps {s : State} {m : Nat} {short : Bool} : Keeps [.swa] s (markWakeDone s m short) := by
  unfold markWakeDone
  split
  · rename_i e
    split
    · exact Keeps.rfl.mono rfl
    · extract_lets a h old
      exact ((swa_replaced (by simp +contextual +zetaDelta [SwaOk, memClear_wf, memWrite_wf, memSet_wf, memBits_wf, mem_empty_wf])).ite Keeps.rfl).mono rfl
  · exact (Keeps.forEach (ps := [.swa]) (fun s1 k => by
      split
      · exact Keeps.rfl.mono rfl
      · extract_lets a mem crc old
        exact ((swa_replaced (by simp +contextual +zetaDelta [SwaOk, memClear_wf, memWrite_wf, memSet_wf, memBits_wf, mem_empty_wf])).ite Keeps.rfl).mono rfl)).mono rfl

theorem mittenWake_keeps {s : State} {m : Nat} : Keeps [.swa] s (mittenWake s m) := by
  unfold mittenWake
  extract_lets short old s1 s2
  have hs1 : Keeps [.swa] s s1 := (swa_replaced (by exact id)).mono rfl
  have hs2 : Keeps [.swa] s s2 := ((hs1.andThen markWakeBlock_keeps).andThen markWakeDone_keeps).mono rfl
  clear_value s1 s2
  split
  · rename_i e
    split
    · exact (((hs2.andThen mittenWindow_keeps).ite hs2).andThen mittenTouch_keeps).mono rfl
    · exact (hs2.andThen mittenTouch_keeps).mono rfl
  · exact (hs2.andThen mittenOpening_keeps).mono rfl

theorem wakeResend_keeps {s : State} {src : Nat} {old new : List Nat} : Keeps [.lsn, .hg] s (wakeResend s src old new) := by
  unfold wakeResend
  extract_lets fix s1 old1
  have hs1 : Keeps [.hg] s s1 := (Keeps.forEach (ps := [.hg]) (fun s2 x => by
      extract_lets old2
      exact (State.setHgp_keeps).mono rfl)).mono rfl
  clear_value s1
  exact (hs1.andThen (lsn_replaced (by exact id))).mono rfl

theorem wakeSend_keeps {s : State} {src : Nat} {body : List Nat} : Keeps [.lsn, .hg] s (wakeSend s src body) := by
  unfold wakeSend
  extract_lets s1 old
  have hs1 : Keeps [.hg] s s1 := ((hgBroadcast_keeps).ite Keeps.rfl).mono rfl
  clear_value s1
  exact (hs1.andThen (lsn_replaced (by exact id))).mono rfl

theorem wakeMerge_keeps {s : State} {sent : Option (List Nat)} {src seed devp mark : Nat} :
    Keeps [.lsn, .swa, .hg] s (wakeMerge s sent src seed devp mark) := by
  unfold wakeMerge
  extract_lets s1 s2 m s3 src1
  have hs1 : Keeps [] s s1 := ((State.bump64_keeps).andThen preConfirm_keeps).mono rfl
  have hs2 : Keeps [] s s2 := ((hs1.andThen wakeRecord_keeps).ite hs1).mono rfl
  have hs3 : Keeps [.swa] s s3 := ((hs2.andThen State.setPair_keeps).andThen mittenWake_keeps).mono rfl
  clear_value s1 s2 s3
  split
  · exact (hs3.andThen wakeResend_keeps).mono rfl
  · exact (hs3.andThen wakeSend_keeps).mono rfl

theorem standUndo_keeps {s : State} : Keeps [.lsn, .hg] s (standUndo s) := by
  unfold standUndo
  split
  · rename_i x t was e
    extract_lets s1 s2 s3 old
    have hs1 : Keeps [] s s1 := ((State.setPair_keeps).andThen State.bump64_keeps).mono rfl
    have hs2 : Keeps [] s s2 := (hs1.ite ((hs1.andThen State.mark_keeps).andThen State.mark_keeps)).mono rfl
    have hs3 : Keeps [.hg] s s3 := (hs2.andThen (Keeps.forEach (ps := [.hg]) (fun s4 x1 => by
        extract_lets old1
        exact (State.setHgp_keeps).mono rfl))).mono rfl
    clear_value s1 s2 s3
    exact ((hs3.andThen (lsn_replaced (by exact id))).ite Keeps.rfl).mono rfl
  · exact Keeps.rfl.mono rfl

theorem wakeGo_keeps {s : State} :
    Keeps [.pwr, .hsp, .time, .int, .mic, .flt, .lsn, .drl, .swa, .que, .hg, .frw, .adc, .mon, .nvm, .free] s (wakeGo s) := by
  unfold wakeGo
  exact ((requestState_keeps).ite Keeps.rfl).mono rfl

theorem qualifiedWake_keeps {s : State} {src seed devp mark : Nat} :
    Keeps [.pwr, .hsp, .time, .int, .mic, .flt, .lsn, .drl, .swa, .que, .hg, .frw, .adc, .mon, .nvm, .free] s
      (qualifiedWake s src seed devp mark) := by
  unfold qualifiedWake
  extract_lets old was s1 s2 s3 s4
  have hs1 : Keeps [.lsn, .hg] s s1 := (((State.mark_keeps).andThen standUndo_keeps).andThen preConfirm_keeps).mono rfl
  have hs2 : Keeps [.lsn, .hg] s s2 :=
    ((hs1.andThen State.mark_keeps).ite ((hs1.andThen wakeRecord_keeps).andThen State.setPair_keeps)).mono rfl
  have hs3 : Keeps [.lsn, .hg] s s3 := ((hs2.andThen State.bump64_keeps).andThen State.event_keeps).mono rfl
  have hs4 : Keeps [.pwr, .hsp, .time, .int, .mic, .flt, .lsn, .drl, .swa, .que, .hg, .frw, .adc, .mon, .nvm, .free] s s4 :=
    ((hs3.andThen mittenWake_keeps).andThen wakeGo_keeps).mono rfl
  clear_value s1 s2 s3 s4
  split
  · exact (pwr_replaced).mono rfl
  · rename_i e
    split
    · exact (wakeMerge_keeps).mono rfl
    · exact (((hs4.andThen hgBroadcast_keeps).ite hs4).ite (hs4.andThen wakeSend_keeps)).mono rfl

theorem wakesDeliver_keeps {s : State} :
    Keeps [.pwr, .hsp, .time, .int, .mic, .flt, .lsn, .drl, .swa, .que, .hg, .frw, .adc, .mon, .nvm, .free] s (wakesDeliver s) := by
  unfold wakesDeliver
  extract_lets l old
  exact ((pwr_replaced).andThen (Keeps.forEach
    (ps := [.pwr, .hsp, .time, .int, .mic, .flt, .lsn, .drl, .swa, .que, .hg, .frw, .adc, .mon, .nvm, .free])
      (fun _ _ => (qualifiedWake_keeps).mono rfl))).mono rfl

theorem coreGate_keeps {s : State} {c : Nat} : Keeps [.hsp, .frw] s (coreGate s c) := by
  unfold coreGate
  exact (Keeps.rfl.ite ((State.setCore_keeps).andThen coreStop_keeps)).mono rfl

theorem monSentry_keeps {s : State} : Keeps [.mon] s (monSentry s) := by
  unfold monSentry
  extract_lets old s1 s2
  have hs1 : Keeps [.mon] s s1 := (mon_replaced (by exact id)).mono rfl
  have hs2 : Keeps [.mon] s s2 := ((hs1.andThen pmbQueue_keeps).ite hs1).mono rfl
  clear_value s1 s2
  exact (hs2.andThen monFollow_keeps).mono rfl

/-- A core's program memory replaced by a canonical one. -/
theorem State.setProg_keeps {s : State} {c : Nat} {m : List Host.Cell} (k : FrwOk s.frw → Memory.wf m = true) :
    Keeps [.frw] s (s.setProg c m) :=
  frw_replaced fun h => by
    have hm := k h
    obtain ⟨core, prog, data, badProg, badData, common, progs, datas⟩ := h
    exact ⟨core, by simpa [setNth] using prog, data, badProg, badData, common, forall_mem_set progs hm, datas⟩

theorem coreMemLost_keeps {s : State} : Keeps [.frw] s (coreMemLost s) := by
  unfold coreMemLost
  extract_lets s1 bp bd old
  have hs1 : Keeps [.frw] s s1 := Keeps.forEach fun _ _ =>
    ((State.setProg_keeps fun _ => mem_empty_wf).andThen (State.setData_keeps fun _ => mem_empty_wf)).mono rfl
  have four : ∀ l : List (List Nat), l.length = 6 → ((upto 4).map (fun _ => ([] : List Nat)) ++ l.drop 4).length = 6 := by
    intro l hl
    simp [upto, hl]
  refine (hs1.andThen (frw_replaced fun h => ?_)).mono rfl
  obtain ⟨core, prog, data, badProg, badData, common, progs, datas⟩ := h
  exact ⟨core, prog, data, four _ badProg, four _ badData, mem_empty_wf, progs, datas⟩

theorem coreInit_keeps {s : State} {c : Nat} : Keeps [.frw] s (coreInit s c) := by
  unfold coreInit
  extract_lets s1
  have hs1 : Keeps [.frw] s s1 := ((State.setCore_keeps).andThen setCoreState_keeps).mono rfl
  clear_value s1
  exact (((hs1.andThen State.mark_keeps).andThen State.mark_keeps).ite hs1).mono rfl

theorem sentryArrive_keeps {s : State} {cause : Nat} : Keeps [.pwr, .hsp, .mic, .flt, .lsn, .swa, .frw, .mon] s (sentryArrive s cause) := by
  unfold sentryArrive
  extract_lets s1 s2 s3 old old1 s4
  have hs1 : Keeps [.pwr, .hsp, .lsn, .frw] s s1 :=
    ((Keeps.forEach (ps := [.hsp, .frw]) (fun _ _ => (coreGate_keeps).mono rfl)).andThen enterState_keeps).mono rfl
  have hs2 : Keeps [.pwr, .hsp, .mic, .flt, .lsn, .frw, .mon] s s2 :=
    (((hs1.andThen coreMemLost_keeps).andThen monSentry_keeps).andThen micSentry_keeps).mono rfl
  have hs3 : Keeps [.pwr, .hsp, .mic, .flt, .lsn, .frw, .mon] s s3 := (hs2.andThen State.setPair_keeps).mono rfl
  have hs4 : Keeps [.pwr, .hsp, .mic, .flt, .lsn, .swa, .frw, .mon] s s4 :=
    ((hs3.andThen (pwr_replaced (x := s4.pwr))).andThen (swa_replaced (by exact id))).mono rfl
  clear_value s1 s2 s3 s4
  exact (((hs4.andThen coreInit_keeps).ite hs4).andThen forwardFollow_keeps).mono rfl

theorem manClear_keeps {s : State} : Keeps [.mon] s (manClear s) := by
  unfold manClear
  exact (((State.mark_keeps).andThen monFollow_keeps).ite Keeps.rfl).mono rfl

theorem exitRefused_keeps {s : State} : Keeps [.pwr, .hsp, .mic, .swa, .frw, .adc, .mon] s (exitRefused s) := by
  unfold exitRefused
  extract_lets old old1 old2 s1 s2 s3 s4 s5
  have hs1 : Keeps [.pwr, .swa, .frw] s s1 :=
    (((pwr_replaced (x := s1.pwr)).andThen (swa_replaced (x := s1.swa) (by exact id))).andThen (frw_replaced (by exact id))).mono rfl
  have hs2 : Keeps [.pwr, .swa, .frw] s s2 := (((hs1.andThen State.mark_keeps).andThen State.put_keeps).andThen State.put_keeps).mono rfl
  have hs3 : Keeps [.pwr, .swa, .frw, .adc] s s3 := (hs2.andThen adcSentry_keeps).mono rfl
  have hs4 : Keeps [.pwr, .hsp, .swa, .frw, .adc] s s4 :=
    (((hs3.andThen State.mark_keeps).andThen wdoFollow_keeps).andThen (Keeps.forEach (ps := [.hsp, .frw])
      (fun _ _ => (coreGate_keeps).mono rfl))).mono rfl
  have hs5 : Keeps [.pwr, .hsp, .mic, .swa, .frw, .adc] s s5 :=
    (hs4.andThen (Keeps.forEach (ps := [.mic]) (fun _ _ => (groupDown_keeps).mono rfl))).mono rfl
  clear_value s1 s2 s3 s4 s5
  exact ((hs5.andThen coreMemLost_keeps).andThen monSentry_keeps).mono rfl

theorem retireStart_keeps {s : State} {arg : Nat} : Keeps [.hsp, .nvm] s (retireStart s arg) := by
  unfold retireStart
  extract_lets c d old old1
  split
  · exact (((nvm_replaced (by exact id)).andThen State.put_keeps).andThen State.put_keeps).mono rfl
  · exact (hsp_replaced (by exact id)).mono rfl

theorem svcStart_keeps {s : State} {a : Nat} : Keeps [.pwr, .hsp, .frw, .nvm] s (svcStart s a) := by
  unfold svcStart
  extract_lets arg e old s1 s2
  have hs1 : Keeps [.nvm] s s1 := (nvm_replaced (by exact id)).mono rfl
  have hs2 : Keeps [.nvm] s s2 :=
    ((((hs1.andThen State.mark_keeps).andThen State.put_keeps).andThen State.put_keeps).andThen State.put_keeps).mono rfl
  clear_value s1 s2
  exact (Keeps.rfl.ite ((laterWord_keeps).ite ((State.put_keeps).ite (hs2.ite ((hs2.andThen retireStart_keeps).ite
    ((hs2.andThen scareHold_keeps).ite hs2)))))).mono rfl

theorem recStart_keeps {s : State} {action slot : Nat} : Keeps [.drl] s (recStart s action slot) := by
  unfold recStart
  extract_lets s1 old s2
  have hs1 : Keeps [] s s1 := (State.put_keeps).mono rfl
  have hs2 : Keeps [.drl] s s2 := (hs1.andThen (drl_replaced (by exact id))).mono rfl
  clear_value s1 s2
  exact (Keeps.rfl.ite (hs2.andThen State.mark_keeps)).mono rfl

theorem netFollow_keeps {s : State} : Keeps [] s (netFollow s) := by
  unfold netFollow
  extract_lets ns
  exact (State.put_keeps).mono rfl

theorem pairsClear_keeps {s : State} {f : Nat → Nat → Bool} : Keeps [.drl] s (pairsClear s f) := by
  unfold pairsClear
  extract_lets l old
  exact (drl_replaced (by exact id)).mono rfl

theorem slotChangeOn_keeps {s : State} {k : Nat} {f : Nat → Bool} : Keeps [.drl] s (slotChangeOn s k f) := by
  unfold slotChangeOn
  exact (pairsClear_keeps).mono rfl

theorem heldArm_keeps {s : State} {k : Nat} {b : Bool} : Keeps [.drl] s (heldArm s k b) := by
  unfold heldArm
  extract_lets s1 s2 old
  have hs1 : Keeps [.drl] s s1 := ((slotChangeOn_keeps).andThen State.mark_keeps).mono rfl
  have hs2 : Keeps [.drl] s s2 := (hs1.andThen State.put_keeps).mono rfl
  clear_value s1 s2
  exact (hs2.andThen (drl_replaced (by exact id))).mono rfl

theorem slotChange_keeps {s : State} {k : Nat} : Keeps [.drl] s (slotChange s k) := by
  unfold slotChange
  exact (slotChangeOn_keeps).mono rfl

theorem tableDrop_keeps {s : State} {k : Nat} : Keeps [.saf] s (tableDrop s k) := by
  unfold tableDrop
  extract_lets old
  exact (saf_replaced (by exact id)).mono rfl

theorem slotArm_keeps {s : State} {k : Nat} {b : Bool} : Keeps [.drl, .saf] s (slotArm s k b) := by
  unfold slotArm
  extract_lets s1 st s2 s3
  have hs1 : Keeps [.drl] s s1 := (slotChange_keeps).mono rfl
  have hs2 : Keeps [.drl] s s2 := (hs1.andThen State.mark_keeps).mono rfl
  have hs3 : Keeps [.drl, .saf] s s3 := ((hs1.andThen State.mark_keeps).andThen tableDrop_keeps).mono rfl
  clear_value s1 s2 s3
  exact ((((hs2.andThen State.put_keeps).andThen netFollow_keeps).ite (hs1.andThen State.mark_keeps)).ite
    (((hs3.andThen State.put_keeps).ite hs3).andThen netFollow_keeps)).mono rfl

theorem heldTake_keeps {s : State} {k : Nat} : Keeps [.drl] s (heldTake s k) := by
  unfold heldTake
  extract_lets old
  exact (drl_replaced (by exact id)).mono rfl

theorem actSlot_keeps {old : State} {k sub : Nat} {s : State} : Keeps [.drl, .saf] s (actSlot old k sub s) := by
  unfold actSlot
  extract_lets moved b s1 s2
  have hs1 : Keeps [.drl] s s1 := (slotChangeOn_keeps).mono rfl
  have hs2 : Keeps [.drl] s s2 := ((slotChange_keeps).ite Keeps.rfl).mono rfl
  clear_value s1 s2
  exact ((hs1.ite ((hs1.andThen heldArm_keeps).ite (hs1.andThen slotArm_keeps))).ite ((hs2.andThen heldTake_keeps).ite
    ((((slotChange_keeps).ite Keeps.rfl).andThen heldTake_keeps).ite Keeps.rfl))).mono rfl

theorem actDrl_keeps {old : State} {a : Nat} {w : Word} {s : State} : Keeps [.drl, .saf] s (actDrl old a w s) := by
  unfold actDrl
  extract_lets o became s1
  have hs1 : Keeps [.drl] s s1 := ((enrEnd_keeps).ite Keeps.rfl).mono rfl
  clear_value s1
  exact (((Keeps.forEach (ps := [.drl]) (fun _ _ => (drlRestart_keeps).mono rfl)).andThen netFollow_keeps).ite
    (((drlRestart_keeps).ite Keeps.rfl).ite (((hs1.andThen enrStart_keeps).ite hs1).ite ((Keeps.rfl.ite recStart_keeps).ite
      ((actSlot_keeps).ite Keeps.rfl))))).mono rfl

theorem clkStop_keeps {s : State} {phase : ClkPhase} {why : ClkWhy} : Keeps [.clk, .adc, .mon] s (clkStop s phase why) := by
  unfold clkStop
  extract_lets old s1
  have hs1 : Keeps [.clk] s s1 := (clk_replaced).mono rfl
  clear_value s1
  exact (((hs1.andThen wdoFollow_keeps).andThen adcHold_keeps).andThen monFollow_keeps).mono rfl

theorem planTell_keeps {s : State} : Keeps [.hg] s (planTell s) := by
  unfold planTell
  extract_lets tag old s1
  have hs1 : Keeps [.hg] s s1 := (hg_replaced (by exact id)).mono rfl
  clear_value s1
  exact ((hs1.andThen hgBroadcast_keeps).ite Keeps.rfl).mono rfl

theorem lockBegin_keeps {s : State} : Keeps [.clk] s (lockBegin s) := by
  unfold lockBegin
  extract_lets old s1
  have hs1 : Keeps [.clk] s s1 := (clk_replaced).mono rfl
  clear_value s1
  exact ((hs1.andThen State.put_keeps).andThen State.mark_keeps).mono rfl

theorem planHold_keeps {s : State} : Keeps [.clk, .mon] s (planHold s) := by
  unfold planHold
  extract_lets up old s1
  have hs1 : Keeps [.clk] s s1 := ((clk_replaced).andThen State.put_keeps).mono rfl
  clear_value s1
  exact ((hs1.andThen voltSet_keeps).ite hs1).mono rfl

theorem planHoldTry_keeps {s : State} : Keeps [.clk, .mon] s (planHoldTry s) := by
  unfold planHoldTry
  exact ((planHold_keeps).ite Keeps.rfl).mono rfl

theorem planStart_keeps {s : State} {cls m : Nat} {remote : Bool} : Keeps [.clk, .hg, .adc, .mon] s (planStart s cls m remote) := by
  unfold planStart
  extract_lets fresh only old s1 s2 up s3 s4 acks bus s5 old1 s6 old2 s7
  have hs1 : Keeps [.clk] s s1 := (clk_replaced).mono rfl
  have hs2 : Keeps [.clk] s s2 := ((hs1.andThen State.mark_keeps).andThen State.mark_keeps).mono rfl
  have hs3 : Keeps [.clk, .adc, .mon] s s3 := (hs2.andThen clkStop_keeps).mono rfl
  have hs4 : Keeps [.clk, .adc, .mon] s s4 := ((hs3.andThen voltSet_keeps).ite hs3).mono rfl
  have hs5 : Keeps [.clk, .adc, .mon] s s5 := (hs2.andThen clkStop_keeps).mono rfl
  have hs6 : Keeps [.clk, .adc, .mon] s s6 := (hs5.andThen clk_replaced).mono rfl
  have hs7 : Keeps [.clk] s s7 := (hs2.andThen clk_replaced).mono rfl
  clear_value s1 s2 s3 s4 s5 s6 s7
  exact (Keeps.rfl.ite (((hs4.andThen lockBegin_keeps).andThen planTell_keeps).ite (((hs6.ite
    (hs6.andThen planTell_keeps)).andThen planHoldTry_keeps).ite ((hs7.ite (hs7.andThen planTell_keeps)).andThen planHold_keeps)))).mono rfl

theorem actPlan_keeps {old : State} {w : Word} {s : State} : Keeps [.clk, .hg, .adc, .mon] s (actPlan old w s) := by
  unfold actPlan
  exact ((planStart_keeps).ite Keeps.rfl).mono rfl

theorem groupsFollow_keeps {s : State} : Keeps [.mic] s (groupsFollow s) := by
  unfold groupsFollow
  exact ((Keeps.forEach (ps := [.mic]) (fun _ _ => (groupDown_keeps).mono rfl)).ite Keeps.rfl).mono rfl

theorem State.supLevel_keeps {s : State} : Keeps [] s (State.supLevel s) := by
  unfold State.supLevel
  exact (State.level_keeps).mono rfl

theorem divFollow_keeps {s : State} {g : Nat} : Keeps [.mic, .flt] s (divFollow s g) := by
  unfold divFollow
  extract_lets d
  exact ((groupMode_keeps).ite Keeps.rfl).mono rfl

theorem actClk_keeps {old : State} {a : Nat} {s : State} : Keeps [.mic, .flt] s (actClk old a s) := by
  unfold actClk
  exact (((groupsFollow_keeps).andThen (Keeps.forEach (ps := [.mic, .flt]) (fun _ _ => (Keeps.rfl.ite divFollow_keeps).mono rfl))).ite
    ((forwardFollow_keeps).ite ((State.supLevel_keeps).ite Keeps.rfl))).mono rfl

theorem actReq_keeps {o : Origin} {w : Word} {s : State} :
    Keeps [.pwr, .hsp, .time, .int, .mic, .flt, .lsn, .drl, .swa, .que, .hg, .frw, .adc, .mon, .nvm, .free] s (actReq o w s) := by
  unfold actReq
  exact (requestState_keeps).mono rfl

theorem calTargetLost_keeps {s : State} {p : Nat} : Keeps [.mic] s (calTargetLost s p) := by
  unfold calTargetLost
  split
  · exact ((calAbort_keeps).ite Keeps.rfl).mono rfl
  · exact Keeps.rfl.mono rfl

theorem inputDisable_keeps {s : State} {p : Nat} : Keeps [.mic] s (inputDisable s p) := by
  unfold inputDisable
  exact ((calTargetLost_keeps).andThen setSettle_keeps).mono rfl

theorem calNvm_keeps {s : State} {save : Bool} : Keeps [.mic] s (calNvm s save) := by
  unfold calNvm
  extract_lets old s1
  have hs1 : Keeps [.mic] s s1 := (mic_replaced (by exact id)).mono rfl
  clear_value s1
  exact ((State.put_keeps).ite ((hs1.andThen State.mark_keeps).andThen State.put_keeps)).mono rfl

theorem sadSentryChange_keeps {s : State} : Keeps [.lsn] s (sadSentryChange s) := by
  unfold sadSentryChange
  exact (Keeps.forEach (ps := [.lsn]) (fun _ _ => ((sadSeed_keeps).ite Keeps.rfl).mono rfl)).mono rfl

theorem sentryChange_keeps {s : State} {old p : Nat} : Keeps [.mic, .flt, .lsn] s (sentryChange s old p) := by
  unfold sentryChange
  extract_lets s1 s2 old1 s3
  have hs1 : Keeps [] s s1 := (State.put_keeps).mono rfl
  have hs2 : Keeps [.mic, .flt] s s2 := (hs1.ite (hs1.andThen groupUp_keeps)).mono rfl
  have hs3 : Keeps [.mic, .flt] s s3 := ((show Keeps [.mic, .flt] _ _ by
      split
      · exact (((hs2.andThen (mic_replaced (by exact id))).andThen groupDown_keeps).ite (hs2.andThen (mic_replaced (by exact id)))).mono rfl
      · exact (hs2.andThen (mic_replaced (by exact id))).mono rfl).ite hs1).mono rfl
  clear_value s1 s2 s3
  exact (Keeps.rfl.ite ((hs3.andThen sentryClear_keeps).andThen sadSentryChange_keeps)).mono rfl

theorem inputEnable_keeps {s : State} {p : Nat} : Keeps [.mic, .flt] s (inputEnable s p) := by
  unfold inputEnable
  exact ((((settleStart_keeps).andThen cicClear_keeps).ite inputRestart_keeps).ite Keeps.rfl).mono rfl

theorem powerCycle_keeps {s : State} {g : Nat} : Keeps [.mic] s (powerCycle s g) := by
  unfold powerCycle
  extract_lets s1
  have hs1 : Keeps [.mic] s s1 := (Keeps.forEach (ps := [.mic]) (fun _ _ => (calTargetLost_keeps).mono rfl)).mono rfl
  clear_value s1
  exact (Keeps.rfl.ite ((hs1.andThen groupDown_keeps).andThen State.putBit_keeps)).mono rfl

theorem calDone_keeps {s : State} {err : Nat} : Keeps [] s (calDone s err) := by
  unfold calDone
  exact ((((State.mark_keeps).andThen State.mark_keeps).andThen State.put_keeps).andThen State.event_keeps).mono rfl

theorem calOpen_keeps {s : State} {r p : Nat} : Keeps [.flt] s (calOpen s r p) := by
  unfold calOpen
  extract_lets old s1 old1
  have hs1 : Keeps [.flt] s s1 := (State.setCic_keeps).mono rfl
  clear_value s1
  exact (hs1.andThen State.setCic_keeps).mono rfl

theorem calStart_keeps {s : State} : Keeps [.mic, .flt] s (calStart s) := by
  unfold calStart
  extract_lets e ts s1 old
  have hs1 : Keeps [] s s1 := ((State.mark_keeps).andThen State.put_keeps).mono rfl
  clear_value ts
  split
  · exact (State.put_keeps).mono rfl
  · split
    · exact (hs1.andThen calDone_keeps).mono rfl
    · exact ((hs1.andThen (mic_replaced (by exact id))).andThen calOpen_keeps).mono rfl

theorem chainEnable_keeps {s : State} {n : Nat} : Keeps [.flt] s (chainEnable s n) := by
  unfold chainEnable
  extract_lets old s1 s2
  have hs1 : Keeps [.flt] s s1 := (State.setChain_keeps).mono rfl
  have hs2 : Keeps [.flt] s s2 := (hs1.andThen State.mark_keeps).mono rfl
  clear_value s1 s2
  exact (((hs2.andThen State.mark_keeps).andThen State.mark_keeps).andThen countStart_keeps).mono rfl

theorem latchDrop_keeps {s : State} {p : Nat} : Keeps [.flt] s (latchDrop s p) := by
  unfold latchDrop
  extract_lets s1
  have hs1 : Keeps [] s s1 := (micSet_keeps).mono rfl
  clear_value s1
  split
  · rename_i e
    split
    · extract_lets old
      exact ((hs1.andThen State.mark_keeps).andThen State.setChain_keeps).mono rfl
    · exact hs1.mono rfl
  · exact Keeps.rfl.mono rfl

theorem latchClr_keeps {s : State} {p : Nat} : Keeps [.mic, .flt] s (latchClr s p) := by
  unfold latchClr
  extract_lets s1
  have hs1 : Keeps [.flt] s s1 := (latchDrop_keeps).mono rfl
  clear_value s1
  exact (((hs1.andThen settleStart_keeps).ite hs1).ite Keeps.rfl).mono rfl

theorem actMic_keeps {old : State} {a : Nat} {w : Word} {s : State} : Keeps [.mic, .flt, .lsn] s (actMic old a w s) := by
  unfold actMic
  extract_lets o p s1 s2 n
  have hs1 : Keeps [.mic, .flt] s s1 := ((calStart_keeps).ite Keeps.rfl).mono rfl
  have hs2 : Keeps [.mic, .flt] s s2 := ((hs1.andThen calNvm_keeps).ite hs1).mono rfl
  clear_value s1 s2
  exact ((Keeps.rfl.ite ((State.put_keeps).andThen sentryChange_keeps)).ite ((Keeps.forEach (ps := [.mic, .flt]) (fun _ _ => (Keeps.rfl.ite
    ((inputEnable_keeps).ite inputDisable_keeps)).mono rfl)).ite (((groupsFollow_keeps).andThen (Keeps.forEach (ps := [.mic])
      (fun _ _ => (powerCycle_keeps).mono rfl))).ite (((hs2.andThen calNvm_keeps).ite hs2).ite (((chainEnable_keeps).ite
        ((fadeDrop_keeps).ite Keeps.rfl)).ite (((latchClr_keeps).ite Keeps.rfl).ite ((State.put_keeps).ite Keeps.rfl))))))).mono rfl

theorem syncEdge_keeps {s : State} : Keeps [.flt, .hg] s (syncEdge s) := by
  unfold syncEdge
  extract_lets n old old1 s1
  have hs1 : Keeps [.flt, .hg] s s1 := ((flt_replaced (x := s1.flt) (by exact id)).andThen (hg_replaced (by exact id))).mono rfl
  clear_value s1
  exact (Keeps.rfl.ite ((hs1.andThen hgBroadcast_keeps).ite (flt_replaced (by exact id)))).mono rfl

theorem actFlt_keeps {old : State} {a : Nat} {w : Word} {s : State} : Keeps [.flt, .hg] s (actFlt old a w s) := by
  unfold actFlt
  extract_lets o p n
  exact (((syncEdge_keeps).ite Keeps.rfl).ite ((Keeps.rfl.ite inputRestart_keeps).ite ((Keeps.rfl.ite inputRestart_keeps).ite Keeps.rfl))).mono rfl

theorem sadReseed_keeps {s : State} {u : Nat} : Keeps [.lsn] s (sadReseed s u) := by
  unfold sadReseed
  extract_lets old
  exact (Keeps.rfl.ite ((State.setSad_keeps).ite sadSeed_keeps)).mono rfl

theorem actLsn_keeps {old : State} {a : Nat} {w : Word} {s : State} : Keeps [.lsn] s (actLsn old a w s) := by
  unfold actLsn
  exact ((sadFollow_keeps).ite ((Keeps.rfl.ite (((sadStop_keeps).ite Keeps.rfl).andThen sadFollow_keeps)).ite (Keeps.forEach (ps := [.lsn])
    (fun _ _ => ((sadReseed_keeps).ite Keeps.rfl).mono rfl)))).mono rfl

theorem zeroShort_keeps {s : State} : Keeps [.swa] s (zeroShort s) := by
  unfold zeroShort
  extract_lets s1 s2 old s3 cur tags old1 s4
  have hs1 : Keeps [] s s1 := (State.bump64_keeps).mono rfl
  have hs2 : Keeps [] s s2 := (hs1.andThen State.setPair_keeps).mono rfl
  have hs3 : Keeps [.swa] s s3 := (hs2.andThen (swa_replaced (by exact id))).mono rfl
  have hs4 : Keeps [.swa] s s4 :=
    (hs3.andThen (swa_replaced (by simp +contextual +zetaDelta [SwaOk, memClear_wf, memWrite_wf, memSet_wf, memBits_wf, mem_empty_wf]))).mono rfl
  clear_value s1 s2 s3 s4
  exact (hs4.andThen zeroWake_keeps).mono rfl

theorem zeroShortStart_keeps {s : State} : Keeps [.swa] s (zeroShortStart s) := by
  unfold zeroShortStart
  extract_lets s1 old s2
  have hs1 : Keeps [.swa] s s1 := (zeroShort_keeps).mono rfl
  have hs2 : Keeps [.swa] s s2 := (hs1.andThen (swa_replaced (by exact id))).mono rfl
  clear_value s1 s2
  exact (hs2.andThen State.put_keeps).mono rfl

theorem stripDisable_keeps {s : State} {k base len : Nat} : Keeps [.swa] s (stripDisable s k base len) := by
  unfold stripDisable
  extract_lets s1 old s2
  have hs1 : Keeps [.swa] s s1 := (stripDiscard_keeps).mono rfl
  have hs2 : Keeps [.swa] s s2 :=
    (hs1.andThen (swa_replaced (by simp +contextual +zetaDelta [SwaOk, memClear_wf, memWrite_wf, memSet_wf, memBits_wf, mem_empty_wf]))).mono rfl
  clear_value s1 s2
  exact ((hs2.andThen State.setStrip_keeps).andThen State.mark_keeps).mono rfl

theorem stripEnable_keeps {s : State} {k : Nat} : Keeps [.swa] s (stripEnable s k) := by
  unfold stripEnable
  extract_lets s1 s2
  have hs1 : Keeps [.swa] s s1 := (State.setStrip_keeps).mono rfl
  have hs2 : Keeps [.swa] s s2 := ((hs1.andThen State.put_keeps).andThen State.mark_keeps).mono rfl
  clear_value s1 s2
  exact ((hs2.andThen unloadStart_keeps).ite hs2).mono rfl

theorem unloadAck_keeps {s : State} {k upTo : Nat} : Keeps [.swa] s (unloadAck s k upTo) := by
  unfold unloadAck
  extract_lets st due s1 s2 s3
  have hs1 : Keeps [] s s1 := (State.bump64_keeps).mono rfl
  have hs2 : Keeps [] s s2 := (hs1.andThen State.setPair_keeps).mono rfl
  have hs3 : Keeps [.swa] s s3 := (hs2.andThen State.setStrip_keeps).mono rfl
  clear_value s1 s2 s3
  exact ((hs3.andThen stripCounts_keeps).ite Keeps.rfl).mono rfl

theorem actStrip_keeps {old : State} {ws : List (Nat × Word)} {k sub : Nat} {s : State} : Keeps [.swa] s (actStrip old ws k sub s) := by
  unfold actStrip
  extract_lets s1 d old1
  have hs1 : Keeps [] s s1 := (State.put_keeps).mono rfl
  clear_value s1
  exact (((hs1.andThen stripDisable_keeps).ite ((hs1.andThen stripEnable_keeps).ite hs1)).ite
    ((((State.setStrip_keeps).andThen State.mark_keeps).ite ((unloadStart_keeps).ite Keeps.rfl)).ite ((unloadAck_keeps).ite Keeps.rfl))).mono rfl

theorem actSwa_keeps {o : Origin} {old : State} {ws : List (Nat × Word)} {a : Nat} {w : Word} {s : State} :
    Keeps [.swa] s (actSwa o old ws a w s) := by
  unfold actSwa
  extract_lets off s1 was tmo s2
  have hs1 : Keeps [.swa] s s1 := ((mittenClose_keeps).ite Keeps.rfl).mono rfl
  have hs2 : Keeps [.swa] s s2 := ((zeroSwathStart_keeps).ite Keeps.rfl).mono rfl
  clear_value s1 s2
  exact ((((hs1.andThen mittenClose_keeps).ite (hs1.andThen State.put_keeps)).ite hs1).ite
    (((hs2.andThen zeroShortStart_keeps).ite hs2).ite ((actStrip_keeps).ite Keeps.rfl))).mono rfl

theorem coreRunWrite_keeps {s : State} {c : Nat} {b : Bool} : Keeps [.hsp, .frw] s (coreRunWrite s c b) := by
  unfold coreRunWrite
  extract_lets s1 st
  have hs1 : Keeps [] s s1 := (State.mark_keeps).mono rfl
  clear_value s1
  exact (((hs1.andThen coreInit_keeps).ite hs1).ite ((hs1.andThen coreHalt_keeps).ite hs1)).mono rfl

theorem anchorWrite_keeps {s : State} : Keeps [.nvm] s (anchorWrite s) := by
  unfold anchorWrite
  extract_lets g old s1
  have hs1 : Keeps [.nvm] s s1 := (nvm_replaced (by exact id)).mono rfl
  clear_value s1
  exact ((hs1.andThen State.put_keeps).andThen programmed_keeps).mono rfl

theorem retireMap_keeps {s : State} {c : Nat} : Keeps [.nvm] s (retireMap s c) := by
  unfold retireMap
  extract_lets old s1
  have hs1 : Keeps [.nvm] s s1 := (nvm_replaced (by exact id)).mono rfl
  clear_value s1
  exact ((hs1.andThen anchorWrite_keeps).andThen nvmShow_keeps).mono rfl

theorem swapStart_keeps {s : State} : Keeps [] s (swapStart s) := by
  unfold swapStart
  extract_lets st
  exact (Keeps.rfl.ite ((State.put_keeps).andThen State.put_keeps)).mono rfl

theorem sentRunWrite_keeps {s : State} {b : Bool} : Keeps [.hsp, .frw] s (sentRunWrite s b) := by
  unfold sentRunWrite
  extract_lets s1
  have hs1 : Keeps [] s s1 := (State.mark_keeps).mono rfl
  clear_value s1
  exact (hs1.ite (((hs1.andThen coreInit_keeps).ite hs1).ite (hs1.ite (hs1.andThen coreHalt_keeps)))).mono rfl

theorem coreStep_keeps {s : State} {c : Nat} : Keeps [.frw] s (coreStep s c) := by
  unfold coreStep
  extract_lets old
  exact ((State.setCore_keeps).ite Keeps.rfl).mono rfl

theorem actFrw_keeps {old : State} {a : Nat} {w : Word} {s : State} : Keeps [.hsp, .frw, .nvm] s (actFrw old a w s) := by
  unfold actFrw
  extract_lets o c run s1 s2 c1 t old1
  have hs1 : Keeps [.hsp, .frw] s s1 := (Keeps.rfl.ite coreRunWrite_keeps).mono rfl
  have hs2 : Keeps [.hsp, .frw] s s2 := ((hs1.andThen coreStep_keeps).ite hs1).mono rfl
  clear_value s1 s2
  exact (((swapStart_keeps).ite Keeps.rfl).ite ((Keeps.rfl.ite sentRunWrite_keeps).ite
    ((((hs2.andThen coreRetired_keeps).andThen retireMap_keeps).ite ((hs2.andThen State.mark_keeps).ite hs2)).ite
      (((State.setCore_keeps).ite Keeps.rfl).ite Keeps.rfl)))).mono rfl

theorem queueDisable_keeps {s : State} {n : Nat} : Keeps [.que] s (queueDisable s n) := by
  unfold queueDisable
  extract_lets q k s1 s2
  have hs1 : Keeps [] s s1 := ((queueCountDrop_keeps).ite Keeps.rfl).mono rfl
  have hs2 : Keeps [.que] s s2 := (hs1.andThen State.setQueue_keeps).mono rfl
  clear_value s1 s2
  exact ((hs2.andThen hqLevel_keeps).ite hs2).mono rfl

theorem actQue_keeps {old : State} {a : Nat} {w : Word} {s : State} : Keeps [.que] s (actQue old a w s) := by
  unfold actQue
  extract_lets o n s1
  have hs1 : Keeps [] s s1 := ((State.put_keeps).ite Keeps.rfl).mono rfl
  clear_value s1
  exact (((hs1.ite (hs1.andThen queueEnable_keeps)).ite ((hs1.andThen queueDisable_keeps).ite hs1)).ite Keeps.rfl).mono rfl

theorem intRing_keeps {s : State} {v : Nat} : Keeps [] s (intRing s v) := by
  unfold intRing
  exact (Keeps.forEach (ps := []) (fun _ _ => (State.event_keeps).mono rfl)).mono rfl

theorem intClear_keeps {s : State} {w v : Nat} : Keeps [.int] s (intClear s w v) := by
  unfold intClear
  exact (Keeps.forEach (ps := [.int]) (fun _ _ => (((intTake_keeps).andThen State.bump64_keeps).ite Keeps.rfl).mono rfl)).mono rfl

theorem intFallow_keeps {s : State} {g : Nat} : Keeps [] s (intFallow s g) := by
  unfold intFallow
  exact (State.put_keeps).mono rfl

theorem actInt_keeps {a : Nat} {w : Word} {s : State} : Keeps [.int] s (actInt a w s) := by
  unfold actInt
  extract_lets o
  exact ((intClear_keeps).ite ((intRing_keeps).ite ((intWithdraw_keeps).ite ((intFallow_keeps).ite Keeps.rfl)))).mono rfl

theorem refChange_keeps {s : State} : Keeps [.adc] s (refChange s) := by
  unfold refChange
  extract_lets s1 old s2
  have hs1 : Keeps [.adc] s s1 := ((((adcHold_keeps).andThen sysAbort_keeps).andThen sysAbort_keeps).andThen State.mark_keeps).mono rfl
  have hs2 : Keeps [.adc] s s2 := (hs1.andThen (adc_replaced (by exact id))).mono rfl
  clear_value s1 s2
  exact (hs2.andThen State.level_keeps).mono rfl

theorem refWrite_keeps {s : State} {sel : Nat} {refen : Bool} {vnom : Nat} : Keeps [.adc] s (refWrite s sel refen vnom) := by
  unfold refWrite
  extract_lets badV s1 s2 change drop s3 s4
  have hs1 : Keeps [] s s1 := ((State.mark_keeps).ite Keeps.rfl).mono rfl
  have hs2 : Keeps [] s s2 := (hs1.ite (hs1.andThen State.put_keeps)).mono rfl
  have hs3 : Keeps [] s s3 := (hs2.andThen State.mark_keeps).mono rfl
  have hs4 : Keeps [] s s4 := ((hs3.andThen State.put_keeps).ite hs3).mono rfl
  clear_value s1 s2 s3 s4
  exact (((hs4.andThen refChange_keeps).andThen adcKicks_keeps).ite hs4).mono rfl

theorem adcTake_keeps {s : State} {x mask : Nat} : Keeps [.adc] s (adcTake s x mask) := by
  unfold adcTake
  extract_lets k s1
  have hs1 : Keeps [.adc] s s1 := (State.setAdc_keeps).mono rfl
  clear_value s1
  exact ((hs1.andThen ledgersTake_keeps).ite hs1).mono rfl

theorem adcTrig_keeps {s : State} {x : Nat} : Keeps [.adc] s (adcTrig s x) := by
  unfold adcTrig
  extract_lets k
  exact (((State.incSat_keeps).ite ((State.mark_keeps).ite ((State.setAdc_keeps).andThen adcKick_keeps))).ite Keeps.rfl).mono rfl

theorem sysCompute_keeps {s : State} {x e : Nat} : Keeps [.adc, .free] s (sysCompute s x e) := by
  unfold sysCompute
  extract_lets z f u0 u1 g y s1 v
  have hs1 : Keeps [] s s1 := (State.put_keeps).mono rfl
  have hv : Keeps [.free] s v.2 := (hs1.andThen State.fresh_keeps).mono rfl
  clear_value s1 v
  exact ((sysEnd_keeps).ite ((sysEnd_keeps).ite (((hs1.andThen State.putI_keeps).andThen sysEnd_keeps).ite
    ((hv.andThen State.put_keeps).andThen sysEnd_keeps)))).mono rfl

theorem sysStep_keeps {s : State} {x step : Nat} : Keeps [.adc, .free] s (sysStep s x step) := by
  unfold sysStep
  extract_lets r e old s1
  have hs1 : Keeps [.adc] s s1 := (State.setAdc_keeps).mono rfl
  clear_value s1
  exact ((State.put_keeps).ite ((sysCompute_keeps).ite (((hs1.andThen State.mark_keeps).andThen State.put_keeps).andThen adcKick_keeps))).mono rfl

theorem sysWrite_keeps {s : State} {x e step : Nat} : Keeps [.adc, .free] s (sysWrite s x e step) := by
  unfold sysWrite
  exact (((State.put_keeps).andThen sysStep_keeps).ite Keeps.rfl).mono rfl

theorem adcSelf_keeps {s : State} : Keeps [.adc] s (adcSelf s) := by
  unfold adcSelf
  exact (Keeps.rfl.ite ((State.put_keeps).ite ((State.put_keeps).ite selfStart_keeps))).mono rfl

theorem adcWindowReset_keeps {s : State} {x : Nat} : Keeps [.adc] s (adcWindowReset s x) := by
  unfold adcWindowReset
  extract_lets old
  exact (State.setAdc_keeps).mono rfl

theorem actAdc_keeps {old : State} {a : Nat} {w : Word} {s : State} : Keeps [.adc, .free] s (actAdc old a w s) := by
  unfold actAdc
  extract_lets moved
  exact ((refWrite_keeps).ite (((adcSelf_keeps).ite Keeps.rfl).ite (Keeps.forEach (ps := [.adc, .free]) (fun s1 x => by
      extract_lets s2
      have hs2 : Keeps [.adc] s1 s2 := ((adcWindowReset_keeps).ite Keeps.rfl).mono rfl
      clear_value s2
      exact (((hs2.andThen adcTrig_keeps).ite (hs2.andThen adcKick_keeps)).ite ((Keeps.rfl.ite adcWindowReset_keeps).ite
        ((adcTake_keeps).ite ((Keeps.rfl.ite sysWrite_keeps).ite Keeps.rfl)))).mono rfl)))).mono rfl

theorem limitNow_keeps {s : State} {l : Nat} : Keeps [.mon] s (limitNow s l) := by
  unfold limitNow
  extract_lets v held
  exact ((voltSet_keeps).ite Keeps.rfl).mono rfl

theorem pmerrReads_keeps {s : State} : Keeps [.mon] s (pmerrReads s) := by
  unfold pmerrReads
  extract_lets s1
  have hs1 : Keeps [.mon] s s1 := ((pmbQueue_keeps).ite Keeps.rfl).mono rfl
  clear_value s1
  exact ((hs1.andThen pmbQueue_keeps).ite hs1).mono rfl

theorem actMon_keeps {old : State} {a : Nat} {w : Word} {s : State} : Keeps [.mon] s (actMon old a w s) := by
  unfold actMon
  extract_lets s1
  have hs1 : Keeps [.mon] s s1 := ((manual_keeps).ite Keeps.rfl).mono rfl
  clear_value s1
  exact (((pmerrReads_keeps).ite Keeps.rfl).ite (((monFollow_keeps).andThen limitNow_keeps).ite
    (((hs1.andThen monFollow_keeps).andThen limitNow_keeps).ite (((manual_keeps).ite Keeps.rfl).ite Keeps.rfl)))).mono rfl

theorem hgHello_keeps {s : State} {x g : Nat} : Keeps [.hg] s (hgHello s x g) := by
  unfold hgHello
  extract_lets nonce old s1 old1 k
  have hs1 : Keeps [.hg] s s1 := (hg_replaced (by exact id)).mono rfl
  clear_value s1
  exact ((hs1.andThen State.setKey_keeps).andThen hgQueue_keeps).mono rfl

theorem hgRekey_keeps {s : State} {x : Nat} : Keeps [.hg] s (hgRekey s x) := by
  unfold hgRekey
  extract_lets g old s1
  have hs1 : Keeps [.hg] s s1 := (State.setKey_keeps).mono rfl
  clear_value s1
  exact (((hs1.andThen State.put_keeps).andThen hgHello_keeps).ite Keeps.rfl).mono rfl

theorem hgLanesChange_keeps {s : State} {x old : Nat} : Keeps [.swa, .hg] s (hgLanesChange s x old) := by
  unfold hgLanesChange
  extract_lets new p s1 s2
  have hs1 : Keeps [.hg] s s1 := (State.setHgp_keeps).mono rfl
  have hs2 : Keeps [.swa, .hg] s s2 := (hs1.andThen hgDegrade_keeps).mono rfl
  clear_value s1 s2
  exact (Keeps.rfl.ite ((hs2.ite (hs2.andThen hgRetrain_keeps)).ite hgRetrain_keeps)).mono rfl

theorem hgQuarEnd_keeps {s : State} {x : Nat} : Keeps [.swa, .hg] s (hgQuarEnd s x) := by
  unfold hgQuarEnd
  extract_lets s1
  have hs1 : Keeps [] s s1 := (((State.put_keeps).andThen State.level_keeps).andThen State.put_keeps).mono rfl
  clear_value s1
  exact ((hs1.andThen hgStart_keeps).ite hs1).mono rfl

theorem hgRelease_keeps {s : State} {x : Nat} : Keeps [.swa, .hg] s (hgRelease s x) := by
  unfold hgRelease
  extract_lets old s1 s2
  have hs1 : Keeps [.hg] s s1 := (State.setHgp_keeps).mono rfl
  have hs2 : Keeps [.hg] s s2 := ((hs1.andThen State.put_keeps).andThen State.put_keeps).mono rfl
  clear_value s1 s2
  exact ((hs2.andThen hgQuarEnd_keeps).ite hs2).mono rfl

theorem actHg_keeps {old : State} {a : Nat} {w : Word} {s : State} : Keeps [.swa, .hg] s (actHg old a w s) := by
  unfold actHg
  extract_lets s1
  have hs1 : Keeps [.swa, .hg] s s1 := (Keeps.forEach (ps := [.swa, .hg]) (fun s2 x => by
      extract_lets was on s3
      have hs3 : Keeps [.swa, .hg] s2 s3 := (hgLanesChange_keeps).mono rfl
      clear_value s3
      exact (((hgDisable_keeps).ite ((hgStart_keeps).ite ((hs3.andThen hgRetrain_keeps).ite hs3))).ite ((hgOverres_keeps).ite
        (((hgRekey_keeps).ite Keeps.rfl).ite (((hgRelease_keeps).ite Keeps.rfl).ite Keeps.rfl)))).mono rfl)).mono rfl
  clear_value s1
  exact ((hs1.andThen noticeSend_keeps).ite hs1).mono rfl

theorem runtokWrite_keeps {s : State} {v : Nat} : Keeps [.pwr, .time, .lsn, .drl, .swa, .saf] s (runtokWrite s v) := by
  unfold runtokWrite
  extract_lets good old old1 s1
  have hold : Keeps [] s old := (State.put_keeps).mono rfl
  have hs1 : Keeps [.saf] s s1 := (hold.andThen (saf_replaced (by exact id))).mono rfl
  clear_value old s1
  exact (hs1.ite ((hs1.andThen permitClear_keeps).andThen diagEvent_keeps)).mono rfl

theorem State.setPart_keeps {s : State} {p : Nat} {v : SafPart} : Keeps [.saf] s (State.setPart s p v) := by
  unfold State.setPart
  extract_lets old
  exact (saf_replaced (by simp +contextual +zetaDelta [SafOk, setNth])).mono rfl

theorem ackReq_keeps {s : State} : Keeps [.saf] s (ackReq s) := by
  unfold ackReq
  extract_lets old
  exact (((State.put_keeps).andThen State.put_keeps).ite
    (((((saf_replaced (by exact id)).andThen State.put_keeps).andThen State.put_keeps).andThen State.put_keeps).andThen State.event_keeps)).mono rfl

theorem latchesClear_keeps {s : State} : Keeps [] s (latchesClear s) := by
  unfold latchesClear
  extract_lets s1 s2
  have hs1 : Keeps [] s s1 := (State.put_keeps).mono rfl
  have hs2 : Keeps [] s s2 := (hs1.andThen (Keeps.forEach (ps := []) (fun _ _ => (State.mark_keeps).mono rfl))).mono rfl
  clear_value s1 s2
  exact ((hs2.andThen faultPin_keeps).ite hs2).mono rfl

theorem ackResp_keeps {s : State} {v : Nat} : Keeps [.pwr, .time, .saf] s (ackResp s v) := by
  unfold ackResp
  extract_lets s1
  have hs1 : Keeps [] s s1 := (((latchesClear_keeps).andThen State.put_keeps).andThen State.event_keeps).mono rfl
  clear_value s1
  exact (Keeps.rfl.ite ((ackFail_keeps).ite ((ackFail_keeps).ite ((hs1.andThen transBegin_keeps).ite hs1)))).mono rfl

theorem armStart_keeps {s : State} : Keeps [.saf] s (armStart s) := by
  unfold armStart
  extract_lets old s1
  have hs1 : Keeps [.saf] s s1 := (saf_replaced (by exact id)).mono rfl
  clear_value s1
  exact (((hs1.andThen State.put_keeps).andThen State.put_keeps).andThen State.put_keeps).mono rfl

theorem actSaf_keeps {old : State} {a : Nat} {w : Word} {s : State} : Keeps [.pwr, .time, .lsn, .drl, .swa, .saf] s (actSaf old a w s) := by
  unfold actSaf
  extract_lets s1
  have hs1 : Keeps [.saf] s s1 := ((disarm_keeps).ite Keeps.rfl).mono rfl
  clear_value s1
  exact (((hs1.andThen ackReq_keeps).ite hs1).ite ((ackResp_keeps).ite ((runtokWrite_keeps).ite (((armStart_keeps).ite
    ((disarm_keeps).ite Keeps.rfl)).ite (Keeps.forEach (ps := [.saf]) (fun _ _ => ((State.setPart_keeps).ite Keeps.rfl).mono rfl)))))).mono rfl

theorem actWord_keeps {o : Origin} {old : State} {ws : List (Nat × Word)} {a : Nat} {w : Word} {s : State} :
    Keeps unitParts s (actWord o old ws a w s) := by
  unfold actWord
  split
  · exact ((State.level_keeps).ite Keeps.rfl).mono rfl
  · exact ((actPlan_keeps).ite actClk_keeps).mono rfl
  · exact ((actReq_keeps).ite Keeps.rfl).mono rfl
  · exact (actMic_keeps).mono rfl
  · exact (actFlt_keeps).mono rfl
  · exact (actLsn_keeps).mono rfl
  · exact (actDrl_keeps).mono rfl
  · exact (actSwa_keeps).mono rfl
  · exact (actFrw_keeps).mono rfl
  · exact (actQue_keeps).mono rfl
  · exact (actInt_keeps).mono rfl
  · exact (actAdc_keeps).mono rfl
  · exact (actMon_keeps).mono rfl
  · exact (actHg_keeps).mono rfl
  · exact (actHg_keeps).mono rfl
  · exact (actSaf_keeps).mono rfl
  · exact ((svcStart_keeps).ite Keeps.rfl).mono rfl
  · exact ((nvmStart_keeps).ite Keeps.rfl).mono rfl
  · exact Keeps.rfl.mono rfl

theorem actAll_keeps {o : Origin} {old : State} {ws l : List (Nat × Word)} {s : State} :
    Keeps unitParts s (actAll o old ws l s) := by
  induction l generalizing s with
  | nil => exact Keeps.rfl.mono rfl
  | cons e l ih => exact ((actWord_keeps).andThen ih).mono rfl

theorem progWrite_keeps {s : State} {c a : Nat} {bs : List Nat} : Keeps [.frw] s (progWrite s c a bs) := by
  unfold progWrite
  extract_lets b s1 old
  have soft : Keeps [.frw] s (softWrite s c 0 a bs.length) := softWrite_keeps
  have hs1 : Keeps [.frw] s s1 := (soft.andThen (State.setProg_keeps fun h => by
    obtain ⟨_, _, _, _, _, _, progs, _⟩ := h
    exact memWrite_wf _ _ _ (nth_wf progs))).mono rfl
  clear_value s1
  exact (hs1.andThen (frw_replaced (by simp +contextual +zetaDelta [FrwOk, setNth]))).mono rfl

theorem winWrite_keeps {s : State} {a : Nat} {w : Word} : Keeps [.frw] s (winWrite s a w) := by
  unfold winWrite
  extract_lets bs
  split
  · extract_lets s1
    have hs1 : Keeps [.frw] s s1 := (progWrite_keeps).mono rfl
    clear_value s1
    exact ((hs1.andThen State.mark_keeps).ite (hs1.andThen State.mark_keeps)).mono rfl
  · exact (dataWrite_keeps).mono rfl
  · exact (commonWrite_keeps).mono rfl
  · exact Keeps.rfl.mono rfl

theorem rangeFix_keeps {s : State} {old w : Word} {r : Fld × Nat × Nat} : Keeps [.free] s (rangeFix s old w r).1 := by
  unfold rangeFix
  extract_lets v
  split
  · exact Keeps.rfl.mono rfl
  · rename_i e
    split
    · exact (State.mark_keeps).mono rfl
    · split
      · rename_i x v1 s1 e2
        have hs1 : Keeps [.free] s s1 := (Keeps.of_snd State.fresh_keeps e2).mono rfl
        exact hs1.mono rfl

theorem monFix_keeps {s : State} {a : Nat} {old w : Word} : Keeps [] s (monFix s a old w).1 := by
  unfold monFix
  extract_lets bad
  split
  · exact (State.mark_keeps).mono rfl
  · rename_i e
    split
    · exact (State.mark_keeps).mono rfl
    · split
      · exact (State.mark_keeps).mono rfl
      · exact Keeps.rfl.mono rfl

theorem storeWord_keeps {s : State} {e : Nat × Word} : Keeps [.frw, .free] s (storeWord s e) := by
  unfold storeWord
  split
  · exact (Keeps.rfl.ite winWrite_keeps).mono rfl
  · split
    · exact (State.wr_keeps).mono rfl
    · split
      · exact Keeps.rfl.mono rfl
      · split
        · exact ((State.put_keeps).andThen State.put_keeps).mono rfl
        · split
          · exact Keeps.rfl.mono rfl
          · rename_i x r e5
            extract_lets old f f1 rw c
            have hf : Keeps [.free] s f.1 := (Keeps.ite_fst (s := s) Keeps.rfl
              (Keeps.foldl_fst (ps := [.free]) fun _ _ _ => rangeFix_keeps)).mono rfl
            have hf1 : Keeps [.free] s f1.1 := (hf.andThen monFix_keeps).mono rfl
            clear_value f f1
            exact (hf1.andThen State.wr_keeps).mono rfl

theorem applyWords_keeps {o : Origin} {ws : List (Nat × Word)} {s : State} : Keeps unitParts s (applyWords o ws s) := by
  unfold applyWords
  extract_lets ws1
  exact ((Keeps.forEach (ps := [.frw, .free]) (fun _ _ => (storeWord_keeps).mono rfl)).andThen actAll_keeps).mono rfl

theorem applyDeferred_keeps {s : State} : Keeps unitParts s (applyDeferred s) := by
  unfold applyDeferred
  extract_lets svc ws old s1 s2
  have hs1 : Keeps [.pwr] s s1 := (pwr_replaced).mono rfl
  have hs2 : Keeps unitParts s s2 := (hs1.andThen applyWords_keeps).mono rfl
  clear_value s1 s2
  exact (hs2.andThen (Keeps.forEach (ps := unitParts) (fun _ _ => (applyWords_keeps).mono rfl))).mono rfl

theorem partsFresh_keeps {s : State} : Keeps [.saf] s (partsFresh s) := by
  unfold partsFresh
  extract_lets old s1
  have hs1 : Keeps [.saf] s s1 := (saf_replaced (by simp [SafOk])).mono rfl
  clear_value s1
  exact (hs1.andThen (Keeps.forEach (ps := []) (fun _ _ => ((State.mark_keeps).andThen State.mark_keeps).mono rfl))).mono rfl

theorem scareStart_keeps {s : State} : Keeps [.frw, .saf] s (scareStart s) := by
  unfold scareStart
  extract_lets s1 old
  have hs1 : Keeps [.frw, .saf] s s1 := ((coreInit_keeps).andThen partsFresh_keeps).mono rfl
  clear_value s1
  exact (hs1.andThen (saf_replaced (by exact id))).mono rfl

theorem coresStart_keeps {s : State} : Keeps [.hsp, .frw, .saf] s (coresStart s) := by
  unfold coresStart
  extract_lets s1 s2
  have hs1 : Keeps [.frw] s s1 :=
    (Keeps.forEach (ps := [.frw]) (fun _ _ => ((coreInit_keeps).ite ((setCoreState_keeps).ite Keeps.rfl)).mono rfl)).mono rfl
  have hs2 : Keeps [.frw, .saf] s s2 := ((hs1.andThen scareStart_keeps).ite ((hs1.andThen setCoreState_keeps).ite hs1)).mono rfl
  clear_value s1 s2
  exact ((hs2.andThen setCoreState_keeps).ite (((hs2.andThen coreInit_keeps).ite hs2).ite ((hs2.andThen coreHalt_keeps).ite hs2))).mono rfl

theorem storeWords_keeps {s : State} {ws : List (Nat × Word)} : Keeps [] s (storeWords s ws) := by
  unfold storeWords
  exact (Keeps.forEach (ps := []) (fun _ _ => (State.wr_keeps).mono rfl)).mono rfl

theorem sentryFailover_keeps {s : State} : Keeps [.flt, .lsn] s (sentryFailover s) := by
  unfold sentryFailover
  extract_lets p s1 s2 d old s3
  have hs1 : Keeps [] s s1 := ((State.put_keeps).andThen State.mark_keeps).mono rfl
  have hs2 : Keeps [] s s2 := ((hs1.andThen State.mark_keeps).andThen State.event_keeps).mono rfl
  have hs3 : Keeps [.flt] s s3 := (hs2.andThen (flt_replaced (by exact id))).mono rfl
  clear_value s1 s2 s3
  exact ((hs3.andThen sadSentryChange_keeps).ite Keeps.rfl).mono rfl

theorem sentryFollow_keeps {s : State} : Keeps [.flt, .lsn] s (sentryFollow s) := by
  unfold sentryFollow
  exact ((sentryFailover_keeps).ite Keeps.rfl).mono rfl

theorem micWake_keeps {s : State} : Keeps [.mic, .flt] s (micWake s) := by
  unfold micWake
  extract_lets old s1
  have hs1 : Keeps [.mic] s s1 := ((mic_replaced (by exact id)).andThen groupsFollow_keeps).mono rfl
  clear_value s1
  exact (hs1.andThen (Keeps.forEach (ps := [.mic, .flt]) (fun _ _ => (groupMode_keeps).mono rfl))).mono rfl

theorem exitArrive_keeps {s : State} {t : TransSt} : Keeps unitParts s (exitArrive s t) := by
  unfold exitArrive
  split
  · exact ((exitRefused_keeps).andThen State.bump64_keeps).mono rfl
  · rename_i d e
    extract_lets ws any old s1 s2 s3
    have hs1 : Keeps [.pwr, .lsn, .frw] s s1 := ((frw_replaced (by exact id)).andThen enterState_keeps).mono rfl
    have hs2 : Keeps unitParts s s2 := (((hs1.andThen storeWords_keeps).andThen coresStart_keeps).andThen applyDeferred_keeps).mono rfl
    have hs3 : Keeps unitParts s s3 := (((hs2.andThen State.bump64_keeps).andThen admitted_keeps).ite hs2).mono rfl
    clear_value s1 s2 s3
    exact ((((hs3.andThen micWake_keeps).andThen unitsStart_keeps).andThen sentryFollow_keeps).andThen wakesDeliver_keeps).mono rfl

theorem plainArrive_keeps {s : State} {t : TransSt} : Keeps [.pwr, .flt, .lsn, .drl, .swa, .mon, .saf] s (plainArrive s t) := by
  unfold plainArrive
  extract_lets from_ s1 s2 s3 s4 s5
  have hs1 : Keeps [.drl] s s1 := ((enrEnd_keeps).ite Keeps.rfl).mono rfl
  have hs2 : Keeps [.drl, .mon] s s2 := ((hs1.andThen manClear_keeps).ite hs1).mono rfl
  have hs3 : Keeps [.drl, .mon, .saf] s s3 := ((hs2.andThen disarm_keeps).ite hs2).mono rfl
  have hs4 : Keeps [.pwr, .lsn, .drl, .mon, .saf] s s4 := ((hs3.andThen State.mark_keeps).andThen enterState_keeps).mono rfl
  have hs5 : Keeps [.pwr, .lsn, .drl, .swa, .mon, .saf] s s5 := ((hs4.andThen unloadBegin_keeps).ite (hs4.andThen unloadEnd_keeps)).mono rfl
  clear_value s1 s2 s3 s4 s5
  exact ((hs5.andThen sentryFollow_keeps).ite hs5).mono rfl

theorem execTransitionComplete_completes {s : State} : Completes s (execTransitionComplete s) := by
  unfold execTransitionComplete
  split
  · rename_i x t e
    split
    · exact Completes.of_keeps Keeps.rfl
    · split
      · exact Completes.of_keeps ((((manClear_keeps).ite Keeps.rfl).andThen sentryArrive_keeps).andThen wakesDeliver_keeps)
      · split
        · exact Completes.of_keeps (Keeps.rfl.ite exitArrive_keeps)
        · exact Completes.of_keeps plainArrive_keeps
  · exact Completes.of_keeps Keeps.rfl

theorem mittenMs_keeps {s : State} : Keeps [.swa] s (mittenMs s) := by
  unfold mittenMs
  extract_lets old s1
  have hs1 : Keeps [.swa] s s1 := (swa_replaced (by exact id)).mono rfl
  clear_value s1
  exact (((swa_replaced (by exact id)).ite (hs1.andThen State.put_keeps)).ite Keeps.rfl).mono rfl

theorem levelTick_keeps {s : State} : Keeps [.mic] s (levelTick s) := by
  unfold levelTick
  exact (Keeps.forEach (ps := [.mic]) (fun s1 p => by
      split
      · extract_lets ls old s2
        have hs2 : Keeps [.mic] s1 s2 := (mic_replaced (by exact id)).mono rfl
        clear_value s2
        exact (hs2.andThen State.put_keeps).mono rfl
      · exact Keeps.rfl.mono rfl)).mono rfl

theorem msTick_keeps {s : State} : Keeps [.time, .mic, .swa] s (msTick s) := by
  unfold msTick
  extract_lets old s1 s2 s3
  have hs1 : Keeps [.time] s s1 := (time_replaced).mono rfl
  have hs2 : Keeps [.time] s s2 := (hs1.ite (hs1.andThen State.bump64_keeps)).mono rfl
  have hs3 : Keeps [.time, .swa] s s3 := (hs2.andThen mittenMs_keeps).mono rfl
  clear_value s1 s2 s3
  exact ((hs3.andThen levelTick_keeps).ite hs3).mono rfl

theorem sectionLoad_keeps {s : State} {half : Nat} {e : Nat × Nat × Nat × List Nat × Nat} : Keeps [.frw] s (sectionLoad s half e) := by
  unfold sectionLoad
  extract_lets c data dest
  exact ((progWrite_keeps).ite ((dataWrite_keeps).ite ((commonWrite_keeps).ite Keeps.rfl))).mono rfl

theorem swapSections_keeps {s : State} {img : Image} : Keeps [.frw] s (swapSections s img) := by
  unfold swapSections
  exact (Keeps.forEach (ps := [.frw]) (fun s1 e => by
      extract_lets c fresh
      exact ((Keeps.rfl.ite sectionLoad_keeps).ite (((sectionLoad_keeps).ite Keeps.rfl).ite
        (((sectionLoad_keeps).ite Keeps.rfl).ite Keeps.rfl))).mono rfl)).mono rfl

theorem bufZero_keeps {s : State} : Keeps [] s (bufZero s) := by
  unfold bufZero
  exact (Keeps.forEach (ps := []) (fun _ _ => (State.wr_keeps).mono rfl)).mono rfl

theorem bundleWait_keeps {s : State} {c : Nat} : Keeps [.frw] s (bundleWait s c) := by
  unfold bundleWait
  extract_lets k
  split
  · exact (State.setCore_keeps).mono rfl
  · exact Keeps.rfl.mono rfl

theorem issueL_keeps {s : State} {c : Nat} {e ok : Bool} {uses writes : List Nat} {f : State → CoreRegs → Nat × Access}
    {g : State → CoreRegs → List Nat → Bool → State} {fs gs : List Part} (k : ∀ s r, (f s r).2.Keeps fs s)
    (l : ∀ s r bs long, Keeps gs s (g s r bs long)) :
    Keeps (stopParts ++ (stopParts ++ (fs ++ (gs ++ stopParts)))) s (issueL s c e ok uses writes f g) := by
  unfold issueL
  refine wordIn_keeps_from fun s1 b h => ?_
  extract_lets core s2
  have hs2 : Keeps stopParts s s2 := (h.andThen State.setCore_keeps).mono rfl
  clear_value s2
  split
  · split
    · exact ((hs2.andThen exception_keeps).mono rfl).left
    · have access := k s2 b.before
      split
      all_goals
        rename_i heq
        rw [heq] at access
      · exact hs2.andThen (Keeps.andThen access (exception_keeps).right)
      · exact ((bundleWait_keeps).mono rfl).left
      · exact hs2.andThen (Keeps.andThen access ((l _ _ _ _).andThen ((bundleDone_keeps).mono rfl)))
  · exact hs2.left

theorem Access.Keeps.after {ps : List Part} {s t : State} {a : Access} (h : Machine.Keeps ps s t) (k : a.Keeps ps t)
    (idem : partsIn (ps ++ ps) ps = true) : a.Keeps ps s := by
  cases a with
  | fault u code info => exact (Machine.Keeps.andThen h k).mono idem
  | wait => trivial
  | done u bs long => exact (Machine.Keeps.andThen h k).mono idem

theorem bufferedLoad_leaves {s : State} {c a n : Nat} {common : Bool} : (bufferedLoad s c a n common).Keeps [.frw] s := by
  unfold bufferedLoad
  extract_lets o buf hits k
  split
  · split
    · exact Keeps.rfl.mono rfl
    · exact Access.Keeps.after drainN_keeps readBuffered_leaves rfl
  · exact readBuffered_leaves

theorem popAccess_leaves {s : State} {c n k : Nat} : (popAccess s c n k).Keeps [.que] s := by
  unfold popAccess
  split
  · exact Keeps.rfl.mono rfl
  · split
    · trivial
    · exact queuePop_keeps

theorem wordBad_keeps {short : Bool} {s : State} {w : Nat} : Keeps [.saf] s (wordBad short s w) := by
  unfold wordBad
  extract_lets s1 s2
  have hs1 : Keeps [] s s1 := ((State.mark_keeps).ite State.mark_keeps).mono rfl
  have hs2 : Keeps [.saf] s s2 := (((hs1.andThen State.mark_keeps).andThen State.safLine_keeps).ite hs1).mono rfl
  clear_value s1 s2
  exact (((hs2.andThen State.put_keeps).andThen State.mark_keeps).andThen State.event_keeps).mono rfl

theorem eccCheck_keeps {s : State} {short : Bool} {a n : Nat} : Keeps [.swa, .saf] s (eccCheck s short a n) := by
  unfold eccCheck
  extract_lets hit s1 old s2
  have hs1 : Keeps [] s s1 := (State.bump64_keeps).mono rfl
  have hs2 : Keeps [.swa] s s2 := ((hs1.andThen (swa_replaced (by exact id))).ite (hs1.andThen (swa_replaced (by exact id)))).mono rfl
  clear_value s1 s2
  exact (hs2.andThen (Keeps.forEach (ps := [.saf]) (fun _ _ => (wordBad_keeps).mono rfl))).mono rfl

theorem mittenDeny_keeps {s : State} : Keeps [] s (mittenDeny s) := by
  unfold mittenDeny
  exact (State.incSat_keeps).mono rfl

theorem memLoad_leaves {s : State} {c a n : Nat} : (memLoad s c a n).Keeps unitParts s := by
  unfold memLoad
  split
  · exact Keeps.rfl.mono rfl
  · split
    · split
      · exact Keeps.rfl.mono rfl
      · exact (progMeet_keeps).mono rfl
    · exact (bufferedLoad_leaves).widen rfl
    · exact (bufferedLoad_leaves).widen rfl
    · split
      · exact Keeps.rfl.mono rfl
      · split
        · exact (popAccess_leaves).widen rfl
        · exact Keeps.rfl.mono rfl
    · split
      · exact Keeps.rfl.mono rfl
      · exact (coreReadTake_keeps).mono rfl
    · split
      · exact ((mittenTouch_keeps).andThen eccCheck_keeps).mono rfl
      · exact (mittenDeny_keeps).mono rfl
    · exact Keeps.rfl.mono rfl

theorem loadGive_keeps {s : State} {c name : Nat} {v : BitVec 128} {long : Bool} : Keeps [.frw] s (loadGive s c name v long) := by
  unfold loadGive
  extract_lets k k1
  exact ((State.setCore_keeps).ite regsPut_keeps).mono rfl

theorem loadImm_keeps {s : State} {i : IForm} {z : Nat} : Keeps unitParts s (loadImm s i z) := by
  unfold loadImm
  exact (issueL_keeps (fs := unitParts) (gs := [.frw]) (fun _ _ => memLoad_leaves)
    (fun _ _ _ _ => loadGive_keeps)).mono rfl

theorem execLdw_completes {i : IForm} {s : State} : Completes s (execLdw i s) := by
  unfold execLdw
  exact Completes.of_keeps loadImm_keeps

theorem noSpare_keeps {s : State} {n : Nat} {told : Bool} : Keeps [.flt] s (noSpare s n told) := by
  unfold noSpare
  extract_lets s1 s2 old
  have hs1 : Keeps [] s s1 := (State.mark_keeps).mono rfl
  have hs2 : Keeps [] s s2 := (hs1.ite (hs1.andThen State.event_keeps)).mono rfl
  clear_value s1 s2
  exact ((hs2.andThen State.setChain_keeps).ite hs2).mono rfl

theorem remapOne_keeps {old : List RemapSt} {s : State} {e : Nat × Nat} : Keeps [.mic, .flt] s (remapOne old s e) := by
  unfold remapOne
  extract_lets was q told s1 old1
  have hs1 : Keeps [.flt] s s1 := by
    unfold s1
    clear_value was
    clear_value q
    clear_value told
    clear_value old1
    split
    · exact (remapTo_keeps).mono rfl
    · exact (noSpare_keeps).mono rfl
  clear_value s1
  exact (hs1.andThen (mic_replaced (by exact id))).mono rfl

theorem selfEnd_keeps {s : State} : Keeps [.adc] s (selfEnd s).1 := by
  unfold selfEnd
  extract_lets r a b old s1 s2
  have hs1 : Keeps [.adc] s s1 := (adc_replaced (by exact id)).mono rfl
  have hs2 : Keeps [.adc] s s2 := (((hs1.andThen State.mark_keeps).andThen State.mark_keeps).andThen State.event_keeps).mono rfl
  clear_value s1 s2
  split
  · extract_lets s3 s4
    have hs3 : Keeps [.adc] s s3 := ((hs2.andThen State.putI_keeps).andThen State.put_keeps).mono rfl
    have hs4 : Keeps [.adc] s s4 := ((hs3.andThen State.putI_keeps).andThen State.put_keeps).mono rfl
    clear_value s3 s4
    exact (hs4.andThen State.putBit_keeps).mono rfl
  · exact (hs2.andThen State.put_keeps).mono rfl

theorem vecToP_keeps {s : State} {i : RForm} {ok : Bool} {f : BitVec 128 → Bool} : Keeps stopParts s (vecToP s i ok f) := by
  unfold vecToP
  exact (issue_keeps).mono rfl

theorem execEvqPop_completes {n : BitVec 7} {s : State} : Completes s (execEvqPop n s) := by
  unfold execEvqPop
  extract_lets old s1
  have hs1 : Keeps [.drl] s s1 := (drl_replaced (by exact id)).mono rfl
  clear_value s1
  exact Completes.of_keeps (hs1.andThen State.put_keeps)

theorem alu_keeps {s : State} {i : RForm} {f : Word → Word → Word} : Keeps stopParts s (alu s i f) := by
  unfold alu
  exact (issue_keeps).mono rfl

theorem execSra_completes {i : RForm} {s : State} : Completes s (execSra i s) := by
  unfold execSra
  exact Completes.of_keeps alu_keeps

theorem slotFree_keeps {s : State} {x vc : Nat} : Keeps [.hg] s (slotFree s x vc) := by
  unfold slotFree
  extract_lets p
  exact (State.setHgp_keeps).mono rfl

theorem relayOut_keeps {s : State} {y vc : Nat} {r : RxMsg} : Keeps [.hg] s (relayOut s y vc r) := by
  unfold relayOut
  extract_lets m auth age body
  exact (hgQueue_keeps).mono rfl

theorem relayStep_keeps {x : Nat} {s : State} {b : List Nat} {r : RxMsg} : Keeps [.hg] s (relayStep x (s, b) r).1 := by
  have keep : ∀ s r, Keeps [.hg] s (State.setHgp s x { s.hgp x with rx := (s.hgp x).rx ++ [r] }) := fun _ _ => State.setHgp_keeps
  have done : ∀ s, Keeps [.hg] s (if r.own then State.setHgp s x { s.hgp x with rx := (s.hgp x).rx ++ [{ r with relay := none }] }
      else slotFree s x r.vc) := fun s => ((keep s _).ite slotFree_keeps).mono rfl
  unfold relayStep
  dsimp only
  split
  · exact keep _ _
  · split
    · exact ((Keeps.rfl.ite State.bump64_keeps).andThen (done _)).mono rfl
    · split
      · exact keep _ _
      · exact (((relayOut_keeps).andThen State.bump64_keeps).andThen (done _)).mono rfl

theorem relayPump_keeps {s : State} : Keeps [.hg] s (relayPump s) := by
  unfold relayPump
  refine Keeps.forEach fun s x => ?_
  extract_lets l
  exact ((State.setHgp_keeps).andThen (Keeps.foldl_fst (ps := [.hg]) fun _ _ _ => relayStep_keeps)).mono rfl

theorem msgRoute_keeps {s : State} {x vc : Nat} {m : Msg} : Keeps [.hg] s (msgRoute s x vc m) := by
  unfold msgRoute
  extract_lets m1 own on bad r old
  exact (((State.bump64_keeps).andThen slotFree_keeps).ite ((State.setHgp_keeps).andThen relayPump_keeps)).mono rfl

theorem cmpI_keeps {s : State} {i : IForm} {f : Word → Bool} : Keeps stopParts s (cmpI s i f) := by
  unfold cmpI
  exact (issue_keeps).mono rfl

theorem execCmpiLt_completes {i : IForm} {s : State} : Completes s (execCmpiLt i s) := by
  unfold execCmpiLt
  exact Completes.of_keeps cmpI_keeps

theorem hgFail_keeps {s : State} {x : Nat} : Keeps [.swa, .hg] s (hgFail s x) := by
  unfold hgFail
  extract_lets n old
  exact (((State.setHgp_keeps).andThen hgStop_keeps).ite ((State.setHgp_keeps).andThen hgTrain_keeps)).mono rfl

theorem startClear_keeps {s : State} : Keeps [.clk, .pwr] s (startClear s) := by
  unfold startClear
  extract_lets old s1 old1
  have hs1 : Keeps [.clk] s s1 := (clk_replaced).mono rfl
  clear_value s1
  exact (hs1.andThen pwr_replaced).mono rfl

theorem startBegin_keeps {s : State} : Keeps [.clk, .pwr, .mic, .swa, .hg] s (startBegin s) := by
  unfold startBegin
  extract_lets s1 s2 s3 s4 s5 old s6
  have hs1 : Keeps [.clk, .pwr] s s1 := ((startClear_keeps).andThen State.put_keeps).mono rfl
  have hs2 : Keeps [.clk, .pwr] s s2 := (hs1.andThen State.put_keeps).mono rfl
  have hs3 : Keeps [.clk, .pwr] s s3 := (((hs2.andThen State.mark_keeps).andThen State.mark_keeps).andThen wdoFollow_keeps).mono rfl
  have hs4 : Keeps [.clk, .pwr] s s4 := ((hs3.andThen State.put_keeps).andThen State.mark_keeps).mono rfl
  have hs5 : Keeps [.clk, .pwr] s s5 := (((hs4.andThen State.wr_keeps).andThen State.level_keeps).andThen State.wr_keeps).mono rfl
  have hs6 : Keeps [.clk, .pwr, .mic] s s6 := (hs5.andThen (mic_replaced (by simp [MicOk]))).mono rfl
  clear_value s1 s2 s3 s4 s5 s6
  exact (((hs6.andThen hgDisable_keeps).andThen hgDisable_keeps).andThen forwardFollow_keeps).mono rfl

theorem startTry_keeps {s : State} : Keeps [.clk, .pwr, .mic, .swa, .hg] s (startTry s) := by
  unfold startTry
  exact ((startBegin_keeps).ite Keeps.rfl).mono rfl

theorem linesTake_keeps {s : State} : Keeps [.pwr, .time, .lsn, .drl, .swa, .saf] s (linesTake s) := by
  unfold linesTake
  extract_lets old
  exact ((saf_replaced (by exact id)).andThen (Keeps.forEach (ps := [.pwr, .time, .lsn, .drl, .swa, .saf]) (fun _ _ => (diagCount_keeps).mono rfl))).mono rfl

theorem execRetrain_completes {x : Fin 2} {s : State} : Completes s (execRetrain x s) := by
  unfold execRetrain
  exact Completes.of_keeps hgRetrain_keeps

theorem zeroDone_keeps {s : State} {short : Bool} : Keeps [.swa] s (zeroDone s short) := by
  unfold zeroDone
  extract_lets old s1 s2
  have hs1 : Keeps [.swa] s s1 := (swa_replaced (by exact id)).mono rfl
  have hs2 : Keeps [.swa] s s2 := (hs1.andThen State.put_keeps).mono rfl
  clear_value s1 s2
  exact (hs2.ite ((hs2.andThen State.mark_keeps).andThen State.event_keeps)).mono rfl

theorem budgetFault_keeps {s : State} {c t : Nat} : Keeps [.pwr, .time, .lsn, .drl, .swa, .saf] s (budgetFault s c t) := by
  unfold budgetFault
  extract_lets s1 s2
  have hs1 : Keeps [] s s1 := (((State.incSat_keeps).andThen State.incSat_keeps).andThen State.put_keeps).mono rfl
  have hs2 : Keeps [] s s2 := (hs1.andThen State.event_keeps).mono rfl
  clear_value s1 s2
  exact ((hs2.andThen diagEvent_keeps).ite hs2).mono rfl

theorem budgetMax_keeps {s : State} {c t : Nat} : Keeps [] s (budgetMax s c t) := by
  unfold budgetMax
  extract_lets n
  exact ((State.put_keeps).ite Keeps.rfl).mono rfl

theorem execBudgetFault_completes {c : Fin 4} {s : State} : Completes s (execBudgetFault c s) := by
  unfold execBudgetFault
  split
  · rename_i x v e
    extract_lets s1 k s2
    have hs1 : Keeps [.pwr, .time, .lsn, .drl, .swa, .saf] s s1 := ((budgetMax_keeps).andThen budgetFault_keeps).mono rfl
    have hs2 : Keeps [.pwr, .time, .lsn, .drl, .swa, .frw, .saf] s s2 := (hs1.andThen State.setCore_keeps).mono rfl
    clear_value s1 s2
    split
    · split
      · exact Completes.of_keeps ((hs2.andThen abandon_keeps).ite hs2)
      · exact Completes.of_keeps hs1
    · exact Completes.of_keeps Keeps.rfl
  · exact Completes.of_keeps Keeps.rfl

theorem execZshort_completes {s : State} : Completes s (execZshort s) := by
  unfold execZshort
  exact Completes.of_keeps zeroShortStart_keeps

theorem execVmacs_completes {i : RForm} {func : BitVec 8} {s : State} : Completes s (execVmacs i func s) := by
  unfold execVmacs
  exact Completes.of_keeps accTo_keeps

theorem orFree_keeps {s : State} {v : Option Nat} {n : Nat} : Keeps [.free] s (orFree s v n).2 := by
  unfold orFree
  split
  · exact Keeps.rfl.mono rfl
  · exact (State.fresh_keeps).mono rfl

theorem calResult1_keeps {s : State} {p : Nat} {a b : List ℤ} : Keeps [.free] s (calResult1 s p a b) := by
  unfold calResult1
  extract_lets sr st pk ratio r1 qual signed r2 lag clip lowq s1 s2
  have hr1 : Keeps [.free] s r1.2 := (orFree_keeps).mono rfl
  have hr2 : Keeps [.free] s r2.2 := (hr1.andThen orFree_keeps).mono rfl
  have hs1 : Keeps [.free] s s1 := ((hr2.andThen State.put_keeps).andThen State.putI_keeps).mono rfl
  have hs2 : Keeps [.free] s s2 := (hs1.andThen State.put_keeps).mono rfl
  clear_value r1 r2 s1 s2
  exact (hs2.andThen State.put_keeps).mono rfl

theorem branchPred_keeps {s : State} {i : IForm} {v : Bool} : Keeps stopParts s (branchPred s i v) := by
  unfold branchPred
  extract_lets k before
  exact (issue_keeps).mono rfl

theorem execBnp_completes {i : IForm} {s : State} : Completes s (execBnp i s) := by
  unfold execBnp
  exact Completes.of_keeps branchPred_keeps

theorem refLossAbort_keeps {s : State} {x : Nat} : Keeps [.adc] s (refLossAbort s x) := by
  unfold refLossAbort
  split
  · extract_lets old
    exact (State.setAdc_keeps).mono rfl
  · exact (adcAbort_keeps).mono rfl

theorem execRefokLoss_completes {s : State} : Completes s (execRefokLoss s) := by
  unfold execRefokLoss
  extract_lets s1 s2 s3 s4
  have hs1 : Keeps [] s s1 := (State.mark_keeps).mono rfl
  have hs2 : Keeps [] s s2 := ((hs1.andThen State.level_keeps).ite hs1).mono rfl
  have hs3 : Keeps [.adc] s s3 := ((hs2.andThen refLossAbort_keeps).andThen refLossAbort_keeps).mono rfl
  have hs4 : Keeps [.adc] s s4 := ((hs3.andThen sysAbort_keeps).andThen sysAbort_keeps).mono rfl
  clear_value s1 s2 s3 s4
  split
  · exact Completes.of_keeps (hs4.andThen diagEventT_keeps)
  · exact Completes.of_keeps Keeps.rfl

theorem rowSpared_keeps {s : State} {r : Nat} : Keeps [.swa] s (rowSpared s r) := by
  unfold rowSpared
  extract_lets old
  exact (swa_replaced (by exact id)).mono rfl

theorem sparesGone_keeps {s : State} : Keeps [] s (sparesGone s) := by
  unfold sparesGone
  exact (Keeps.rfl.ite ((State.mark_keeps).andThen State.event_keeps)).mono rfl

theorem repairRow_keeps {s : State} {r : Nat} : Keeps [.swa] s (repairRow s r) := by
  unfold repairRow
  extract_lets used s1 s2
  have hs1 : Keeps [.swa] s s1 := (rowSpared_keeps).mono rfl
  have hs2 : Keeps [.swa] s s2 := ((hs1.andThen State.put_keeps).andThen State.put_keeps).mono rfl
  clear_value s1 s2
  exact (((hs2.andThen State.event_keeps).andThen sparesGone_keeps).ite Keeps.rfl).mono rfl

theorem mapRow_keeps {s : State} {r : Nat} : Keeps [.swa, .nvm] s (mapRow s r) := by
  unfold mapRow
  extract_lets t old
  have ht : Keeps [.swa] s t := (repairRow_keeps).mono rfl
  clear_value t
  exact (ht.ite (((ht.andThen (nvm_replaced (by exact id))).andThen anchorWrite_keeps).andThen nvmShow_keeps)).mono rfl

theorem execRowRepair_completes {r : Nat} {s : State} : Completes s (execRowRepair r s) := by
  unfold execRowRepair
  exact Completes.of_keeps ((mapRow_keeps).ite Keeps.rfl)

theorem liveEvent_keeps {s : State} : Keeps [] s (liveEvent s) := by
  unfold liveEvent
  exact (State.bump64_keeps).mono rfl

theorem execEraseSlot_completes {s : State} : Completes s (execEraseSlot s) := by
  unfold execEraseSlot
  exact Completes.of_keeps nvmStart_keeps

theorem baseUpdate_keeps {s : State} {i : IForm} {b : CoreRegs} {size : Nat} : Keeps [.frw] s (baseUpdate s i b size) := by
  unfold baseUpdate
  exact (regsPut_keeps).mono rfl

theorem execLdP_completes {z : Fin 7} {i : IForm} {s : State} : Completes s (execLdP z i s) := by
  unfold execLdP
  exact Completes.of_keeps (issueL_keeps (fs := unitParts) (gs := [.frw]) (fun _ _ => memLoad_leaves)
    (fun _ _ _ _ => ((loadGive_keeps).andThen baseUpdate_keeps).mono rfl))

theorem alu1_keeps {s : State} {i : RForm} {f : Word → Word} : Keeps stopParts s (alu1 s i f) := by
  unfold alu1
  exact (issue_keeps).mono rfl

theorem execZexth_completes {i : RForm} {s : State} : Completes s (execZexth i s) := by
  unfold execZexth
  exact Completes.of_keeps alu1_keeps

theorem firstEntry_keeps {s : State} : Keeps [.pwr] s (firstEntry s) := by
  unfold firstEntry
  extract_lets boot old s1 s2
  have hs1 : Keeps [.pwr] s s1 := (pwr_replaced).mono rfl
  have hs2 : Keeps [.pwr] s s2 := ((hs1.andThen faultPin_keeps).ite hs1).mono rfl
  clear_value s1 s2
  exact (hs2.andThen State.put_keeps).mono rfl

theorem firstArrive_keeps {s : State} {st cause : Nat} : Keeps stateParts s (firstArrive s st cause) := by
  unfold firstArrive
  exact (((((firstEntry_keeps).andThen enterState_keeps).andThen coresStart_keeps).andThen unitsStart_keeps).andThen wakesDeliver_keeps).mono rfl

theorem execBootConfigCommit_completes {s : State} : Completes s (execBootConfigCommit s) := by
  unfold execBootConfigCommit
  split
  · rename_i x t e
    extract_lets ws d old s1 s2
    have hs1 : Keeps [.frw] s s1 := (frw_replaced (by exact id)).mono rfl
    have hs2 : Keeps [.frw] s s2 :=
      ((((hs1.andThen storeWords_keeps).andThen State.bump64_keeps).andThen admitted_keeps).ite (hs1.andThen State.bump64_keeps)).mono rfl
    clear_value s1 s2
    split
    · exact Completes.of_keeps (hs2.andThen firstArrive_keeps)
    · exact Completes.of_keeps Keeps.rfl
  · exact Completes.of_keeps Keeps.rfl

theorem codeErrors_keeps {s : State} {x e0 e1 : Nat} : Keeps [] s (codeErrors s x e0 e1) := by
  unfold codeErrors
  exact ((State.bump64_keeps).andThen State.bump64_keeps).mono rfl

theorem nakDue_keeps {s : State} {x : Nat} : Keeps [.hg] s (nakDue s x) := by
  unfold nakDue
  extract_lets p
  exact (State.setHgp_keeps).mono rfl

theorem hgProtoReset_keeps {s : State} {x : Nat} : Keeps [.swa, .hg] s (hgProtoReset s x) := by
  unfold hgProtoReset
  exact ((State.bump64_keeps).andThen hgDown_keeps).mono rfl

theorem hgQuarantine_keeps {s : State} {x st : Nat} : Keeps [.swa, .hg] s (hgQuarantine s x st) := by
  unfold hgQuarantine
  extract_lets s1 s2 s3
  have hs1 : Keeps [.hg] s s1 := (linkReset_keeps).mono rfl
  have hs2 : Keeps [.swa, .hg] s s2 := (hs1.andThen hgStop_keeps).mono rfl
  have hs3 : Keeps [.swa, .hg] s s3 := (hs2.andThen State.put_keeps).mono rfl
  clear_value s1 s2 s3
  exact ((hs3.andThen State.level_keeps).andThen hgRoutes_keeps).mono rfl

theorem macFail_keeps {s : State} {x : Nat} : Keeps [.swa, .hg] s (macFail s x) := by
  unfold macFail
  extract_lets now t old s1 s2 s3
  have hs1 : Keeps [.hg] s s1 := (State.setHgp_keeps).mono rfl
  have hs2 : Keeps [.hg] s s2 := ((hs1.andThen State.bump64_keeps).andThen State.put_keeps).mono rfl
  have hs3 : Keeps [.hg] s s3 := (hs2.andThen State.event_keeps).mono rfl
  clear_value s1 s2 s3
  exact ((hs3.andThen hgQuarantine_keeps).ite hs3).mono rfl

theorem authTake_keeps {s : State} {x ctr : Nat} {next : Bool} : Keeps [.hg] s (authTake s x ctr next) := by
  unfold authTake
  extract_lets k s1
  have hs1 : Keeps [] s s1 := (State.wr_keeps).mono rfl
  clear_value s1
  exact ((hs1.andThen State.setKey_keeps).ite hs1).mono rfl

theorem msgTake_keeps {s : State} {x vc : Nat} {pl : List Nat} : Keeps [.swa, .hg] s (msgTake s x vc pl) := by
  unfold msgTake
  extract_lets drop
  have hdrop : ∀ s1 k, Keeps [.hg] s1 (drop s1 k) := fun s1 k => by
      unfold drop
      exact ((State.bump64_keeps).andThen slotFree_keeps).mono rfl
  split
  · exact (hdrop _ _).mono rfl
  · rename_i x1 m e
    split
    · exact ((slotFree_keeps).andThen macFail_keeps).mono rfl
    · exact ((hdrop _ _).andThen macFail_keeps).mono rfl
    · extract_lets s1
      have hs1 : Keeps [.hg] s s1 := by
        unfold s1
        split
        · exact (authTake_keeps).mono rfl
        · exact Keeps.rfl.mono rfl
      clear_value s1
      exact ((hs1.andThen (hdrop _ _)).ite ((hs1.andThen (hdrop _ _)).ite ((hs1.andThen (hdrop _ _)).ite (hs1.andThen msgRoute_keeps)))).mono rfl
    · extract_lets s1
      have hs1 : Keeps [.hg] s s1 := by
        unfold s1
        split
        · exact (authTake_keeps).mono rfl
        · exact Keeps.rfl.mono rfl
      clear_value s1
      exact ((hs1.andThen (hdrop _ _)).ite ((hs1.andThen (hdrop _ _)).ite ((hs1.andThen (hdrop _ _)).ite (hs1.andThen msgRoute_keeps)))).mono rfl

theorem dataTake_keeps {s : State} {x vc seq : Nat} {pl : List Nat} : Keeps [.swa, .hg] s (dataTake s x vc seq pl) := by
  unfold dataTake
  extract_lets p back s1
  have hs1 : Keeps [.hg] s s1 := (State.setHgp_keeps).mono rfl
  clear_value s1
  exact (((hgProtoReset_keeps).ite ((hs1.andThen State.bump64_keeps).andThen msgTake_keeps)).ite (Keeps.rfl.ite nakDue_keeps)).mono rfl

theorem execDataFrame_completes {x : Fin 2} {frame : List Byte} {e0 e1 : Nat} {abort : Bool} {s : State} : Completes s
  (execDataFrame x frame e0 e1 abort s) := by
  unfold execDataFrame
  extract_lets s1
  have hs1 : Keeps [] s s1 := (codeErrors_keeps).mono rfl
  clear_value s1
  split
  · rename_i e
    split
    · exact Completes.of_keeps ((hs1.andThen State.bump64_keeps).andThen nakDue_keeps)
    · exact Completes.of_keeps ((hs1.andThen State.bump64_keeps).andThen nakDue_keeps)
    · exact Completes.of_keeps ((hs1.andThen dataTake_keeps).ite hs1)
  · exact Completes.of_keeps Keeps.rfl

theorem hspSnap_keeps {s : State} : Keeps [] s (hspSnap s) := by
  unfold hspSnap
  exact (State.incWrap_keeps).mono rfl

theorem hspDrive_keeps {s : State} {st : Nat} {ws : List Word} : Keeps [.hsp] s (hspDrive s st ws) := by
  unfold hspDrive
  extract_lets old
  exact (hsp_replaced (by exact id)).mono rfl

theorem hspError_keeps {s : State} {code : Nat} : Keeps [] s (hspError s code) := by
  unfold hspError
  extract_lets s1
  have hs1 : Keeps [] s s1 := ((State.incSat_keeps).ite ((State.incSat_keeps).ite ((State.incSat_keeps).ite State.incSat_keeps))).mono rfl
  clear_value s1
  exact (Keeps.rfl.ite (hs1.andThen State.event_keeps)).mono rfl

theorem hspRecord_keeps {s : State} {st : Nat} : Keeps [] s (hspRecord s st) := by
  unfold hspRecord
  exact ((State.put_keeps).andThen hspError_keeps).mono rfl

theorem stageSet_keeps {s : State} {v : Option (List (Nat × Word))} : Keeps [.hsp] s (stageSet s v) := by
  unfold stageSet
  extract_lets old s1
  have hs1 : Keeps [.hsp] s s1 := (hsp_replaced (by exact id)).mono rfl
  clear_value s1
  exact ((hs1.andThen State.mark_keeps).andThen State.put_keeps).mono rfl

theorem applyNow_keeps {o : Origin} {ws : List (Nat × Word)} {s : State} : Keeps unitParts s (applyNow o ws s) := by
  unfold applyNow
  extract_lets ws1 now wait old s1
  have hs1 : Keeps [.pwr] s s1 := (pwr_replaced).mono rfl
  clear_value s1
  exact ((hs1.andThen applyWords_keeps).ite applyWords_keeps).mono rfl

theorem hostCommit_keeps {o : Origin} {ws : List (Nat × Word)} {s : State} : Keeps unitParts s (hostCommit o ws s) := by
  unfold hostCommit
  extract_lets s1 s2 old
  have hs1 : Keeps [] s s1 := (State.incWrap_keeps).mono rfl
  have hs2 : Keeps [] s s2 := (hs1.andThen State.put_keeps).mono rfl
  clear_value s1 s2
  exact ((hs2.andThen (hsp_replaced (by exact id))).ite ((hs1.andThen State.put_keeps).andThen applyNow_keeps)).mono rfl

theorem hspWrite_keeps {o : Origin} {s : State} {a : Nat} {data : List Word} : Keeps unitParts s (hspWrite o s a data) := by
  unfold hspWrite
  extract_lets ws
  split
  · exact (stageSet_keeps).mono rfl
  · exact (hostCommit_keeps).mono rfl

theorem replayPut_keeps {s : State} {ws : List Word} : Keeps [] s (replayPut s ws) := by
  unfold replayPut
  extract_lets s1
  have hs1 : Keeps [] s s1 := (Keeps.forEach (ps := []) (fun _ _ => (State.wr_keeps).mono rfl)).mono rfl
  clear_value s1
  exact ((hs1.andThen State.put_keeps).andThen State.put_keeps).mono rfl

theorem readEffects_keeps {s : State} {a n : Nat} : Keeps [.int, .drl, .que, .adc] s (readEffects s a n) := by
  unfold readEffects
  extract_lets wins
  exact (Keeps.rfl.ite ((replayPut_keeps).andThen (Keeps.forEach (ps := [.int, .drl, .que, .adc]) (fun _ _ => (rcTake_keeps).mono rfl)))).mono rfl

theorem hspCommit_keeps {o : Origin} {s : State} {a : Nat} : Keeps unitParts s (hspCommit o s a) := by
  unfold hspCommit
  extract_lets s'
  have hs' : Keeps [.hsp] s s' := (stageSet_keeps).mono rfl
  clear_value s'
  split
  · exact (stageSet_keeps).mono rfl
  · rename_i e
    split
    · split
      · exact ((hs').andThen hostCommit_keeps).mono rfl
      · exact (hs').mono rfl
    · exact (hs').mono rfl

theorem hspZeroize_keeps {s : State} {a : Nat} : Keeps [.swa] s (hspZeroize s a) := by
  unfold hspZeroize
  extract_lets s1
  have hs1 : Keeps [.swa] s s1 := ((zeroSwathStart_keeps).ite Keeps.rfl).mono rfl
  clear_value s1
  exact ((hs1.andThen zeroShortStart_keeps).ite hs1).mono rfl

theorem historyTaken_keeps {s : State} {o n : Nat} : Keeps [.swa, .saf] s (historyTaken s o n) := by
  unfold historyTaken
  extract_lets short
  exact ((mittenTouch_keeps).andThen eccCheck_keeps).mono rfl

theorem hspEffect_keeps {o : Origin} {s : State} {op addr n : Nat} {data : List Word} :
    Keeps unitParts s (hspEffect o s op addr n data) := by
  unfold hspEffect
  exact ((hspWrite_keeps).ite ((readEffects_keeps).ite ((hspCommit_keeps).ite ((hspZeroize_keeps).ite ((historyTaken_keeps).ite Keeps.rfl))))).mono rfl

theorem historyDenied_keeps {s : State} {code op addr n : Nat} : Keeps [] s (historyDenied s code op addr n) := by
  unfold historyDenied
  exact ((mittenDeny_keeps).ite Keeps.rfl).mono rfl

theorem hspLocal_keeps {o : Origin} {s : State} {op addr cnt : Nat} {data : List Word} {code : Nat} :
    Keeps unitParts s (hspLocal o s op addr cnt data code).1 := by
  unfold hspLocal
  extract_lets st
  split
  · exact ((hspEffect_keeps).andThen hspRecord_keeps).mono rfl
  · exact ((historyDenied_keeps).andThen hspRecord_keeps).mono rfl

theorem hspRun_keeps {op addr cnt : Nat} {data : List Word} {crc : Nat} {s : State} :
    Keeps unitParts s (hspRun op addr cnt data crc s) := by
  unfold hspRun
  extract_lets s1 st r code st1 s2
  have hs1 : Keeps [] s s1 := (hspSnap_keeps).mono rfl
  have hr : Keeps unitParts s r.1 := (hs1.andThen hspLocal_keeps).mono rfl
  have hs2 : Keeps [.hsp, .hg] s s2 := ((hs1.andThen tunForward_keeps).ite hs1).mono rfl
  clear_value s1 r s2
  exact (Keeps.rfl.ite (((hs1.andThen hspRecord_keeps).andThen hspDrive_keeps).ite ((hr.andThen hspDrive_keeps).ite
    ((hs2.andThen hspRecord_keeps).andThen hspDrive_keeps)))).mono rfl

theorem execRead_completes {addr : BitVec 24} {cnt crc : BitVec 16} {s : State} : Completes s (execRead addr cnt crc s) := by
  unfold execRead
  exact Completes.of_keeps hspRun_keeps

theorem vecTo_keeps {s : State} {i : RForm} {ok : Bool} {uses : List Nat} {f : CoreRegs → BitVec 128 × Bool} :
    Keeps stopParts s (vecTo s i ok uses f) := by
  unfold vecTo
  exact (issue_keeps).mono rfl

theorem execVmul_completes {i : RForm} {func : BitVec 8} {s : State} : Completes s (execVmul i func s) := by
  unfold execVmul
  extract_lets w
  exact Completes.of_keeps vecTo_keeps

theorem bootName_keeps {s : State} {kind slot : Nat} : Keeps [.nvm] s (bootName s kind slot).1 := by
  unfold bootName
  extract_lets b
  exact (recPut_keeps).mono rfl

theorem execSwapSwitch_completes {s : State} : Completes s (execSwapSwitch s) := by
  unfold execSwapSwitch
  extract_lets slot s1 s2 s3 old s4 s5
  have hs1 : Keeps [] s s1 := (Keeps.forEach (ps := []) (fun _ _ => (Keeps.rfl.ite State.put_keeps).mono rfl)).mono rfl
  have hs2 : Keeps [] s s2 := (hs1.andThen (Keeps.forEach (ps := []) (fun s6 e => by
      exact (State.wr_keeps).mono rfl))).mono rfl
  have hs3 : Keeps [] s s3 := ((hs2.andThen State.put_keeps).andThen State.put_keeps).mono rfl
  have hs4 : Keeps [.frw] s s4 := (hs3.andThen (frw_replaced (by exact id))).mono rfl
  have hs5 : Keeps [.frw] s s5 :=
    ((((hs4.andThen State.put_keeps).andThen State.put_keeps).andThen State.mark_keeps).andThen State.event_keeps).mono rfl
  clear_value s1 s2 s3 s4 s5
  split
  · exact Completes.of_keeps (hs5.andThen bootName_keeps)
  · exact Completes.of_keeps Keeps.rfl

theorem execCmpiGeu_completes {i : IForm} {s : State} : Completes s (execCmpiGeu i s) := by
  unfold execCmpiGeu
  exact Completes.of_keeps cmpI_keeps

theorem execCoreRun_completes {c : Fin 4} {b : Bool} {s : State} : Completes s (execCoreRun c b s) := by
  unfold execCoreRun
  exact Completes.of_keeps (Keeps.rfl.ite coreRunWrite_keeps)

theorem crWrite_keeps {s : State} {c n : Nat} {v : Word} : Keeps [.frw] s (crWrite s c n v) := by
  unfold crWrite
  extract_lets k
  exact (State.setCore_keeps).mono rfl

theorem execMinu_completes {i : RForm} {s : State} : Completes s (execMinu i s) := by
  unfold execMinu
  exact Completes.of_keeps alu_keeps

theorem intRedeliver_keeps {s : State} {g : Nat} : Keeps [.int] s (intRedeliver s g) := by
  unfold intRedeliver
  extract_lets s1 left old
  have hs1 : Keeps [] s s1 := (Keeps.forEach (ps := []) (fun s2 n => by
      split
      · rename_i e
        split
        · exact (State.put_keeps).mono rfl
        · exact Keeps.rfl.mono rfl
      · exact Keeps.rfl.mono rfl)).mono rfl
  clear_value s1
  exact (hs1.andThen int_replaced).mono rfl

theorem intDeliver_keeps {s : State} {n t : Nat} : Keeps [] s (intDeliver s n t) := by
  unfold intDeliver
  extract_lets g
  exact (((State.put_keeps).andThen State.put_keeps).andThen State.put_keeps).mono rfl

theorem intDecide_keeps {s : State} {g : Nat} : Keeps [.int] s (intDecide s g) := by
  unfold intDecide
  extract_lets s1
  have hs1 : Keeps [.int] s s1 := (intRedeliver_keeps).mono rfl
  clear_value s1
  split
  · exact hs1.mono rfl
  · rename_i e
    split
    · exact (hs1.andThen (Keeps.forEach (ps := []) (fun s2 n => by
        split
        · split
          · exact (intDeliver_keeps).mono rfl
          · exact Keeps.rfl.mono rfl
        · exact Keeps.rfl.mono rfl))).mono rfl
    · split
      · exact hs1.mono rfl
      · split
        · exact (hs1.andThen intDeliver_keeps).mono rfl
        · exact hs1.mono rfl

theorem shiftLanes_keeps {s : State} {i : RForm} {func : BitVec 8} {f : BitVec 8 → Bool → Nat → BitVec 128 → Nat → Nat} :
    Keeps stopParts s (shiftLanes s i func f) := by
  unfold shiftLanes
  extract_lets w n
  exact (vecTo_keeps).mono rfl

theorem execVsra_completes {i : RForm} {func : BitVec 8} {s : State} : Completes s (execVsra i func s) := by
  unfold execVsra
  exact Completes.of_keeps shiftLanes_keeps

theorem execCmpGeu_completes {i : RForm} {s : State} : Completes s (execCmpGeu i s) := by
  unfold execCmpGeu
  exact Completes.of_keeps cmpR_keeps

theorem setLastOf_keeps {s : State} {c w : Nat} : Keeps [.flt] s (setLastOf s c w) := by
  unfold setLastOf
  extract_lets old
  exact (flt_replaced (by exact id)).mono rfl

theorem execDeskewEnd_completes {x : Fin 2} {s : State} : Completes s (execDeskewEnd x s) := by
  unfold execDeskewEnd
  exact Completes.of_keeps ((State.put_keeps).ite Keeps.rfl)

theorem execAdcQpop_completes {x : Fin 2} {n : BitVec 7} {s : State} : Completes s (execAdcQpop x n s) := by
  unfold execAdcQpop
  exact Completes.of_keeps ((adcQueuePop_keeps).ite Keeps.rfl)

theorem detect_keeps {s : State} {n : Nat} {x : ℤ} : Keeps [.flt] s (detect s n x) := by
  unfold detect
  extract_lets m c i p k h ph q e e1 s1 old
  have hs1 : Keeps [] s s1 := (((State.put_keeps).andThen State.put_keeps).andThen State.put_keeps).mono rfl
  clear_value s1
  exact (hs1.andThen State.setChain_keeps).mono rfl

theorem unsTick_keeps {s : State} {n : Nat} : Keeps [.flt] s (unsTick s n) := by
  unfold unsTick
  extract_lets c s1
  have hs1 : Keeps [.flt] s s1 := (State.setChain_keeps).mono rfl
  clear_value s1
  exact (hs1.andThen State.mark_keeps).mono rfl

theorem routeMarks_keeps {s : State} {d w : Nat} : Keeps [.flt] s (routeMarks s d w).1 := by
  unfold routeMarks
  extract_lets r w1 w2
  exact (State.setRoute_keeps).mono rfl

theorem ustrPush_keeps {s : State} {k w : Nat} : Keeps [.hg] s (ustrPush s k w) := by
  unfold ustrPush
  split
  · exact Keeps.rfl.mono rfl
  · extract_lets u old s1
    have hs1 : Keeps [.hg] s s1 := (hg_replaced (by simp +contextual +zetaDelta [HgOk, setNth])).mono rfl
    clear_value s1
    exact ((hg_replaced (by simp +contextual +zetaDelta [HgOk, setNth])).ite ((hs1.andThen State.bump64_keeps).andThen State.event_keeps)).mono rfl

theorem handoffDrop_keeps {s : State} {k : Nat} : Keeps [] s (handoffDrop s k) := by
  unfold handoffDrop
  exact ((State.bump64_keeps).andThen State.event_keeps).mono rfl

theorem drillPush_keeps {s : State} {d w : Nat} : Keeps [.drl] s (drillPush s d w) := by
  unfold drillPush
  extract_lets i i1 old
  exact (Keeps.rfl.ite ((drl_replaced (by simp +contextual +zetaDelta [DrlOk, setNth])).ite ((drl_replaced
    (by simp +contextual +zetaDelta [DrlOk, setNth])).andThen handoffDrop_keeps))).mono rfl

theorem sink_keeps {s : State} {d w : Nat} : Keeps [.flt, .drl, .que, .hg] s (sink s d w) := by
  unfold sink
  extract_lets old s1
  have hs1 : Keeps [.flt] s s1 := (State.setRoute_keeps).mono rfl
  clear_value s1
  exact (hs1.ite ((hs1.andThen ciPush_keeps).ite ((hs1.andThen ustrPush_keeps).ite (hs1.andThen drillPush_keeps)))).mono rfl

theorem routeTake_keeps {s : State} {c d : Nat} : Keeps [.flt, .drl, .que, .hg] s (routeTake s c d) := by
  unfold routeTake
  extract_lets r m b m1
  have hm : Keeps [.flt] s m.1 := (routeMarks_keeps).mono rfl
  have hm1 : Keeps [.flt] s m1.1 := (routeMarks_keeps).mono rfl
  clear_value m m1
  split
  · exact ((hm.andThen sink_keeps).ite Keeps.rfl).mono rfl
  · rename_i x old i l e
    extract_lets driver a x1 m2
    have hm2 : Keeps [.flt] s m2.1 := ((State.setRoute_keeps).andThen routeMarks_keeps).mono rfl
    clear_value m2
    exact (((hm2.andThen sink_keeps).ite (hm1.andThen sink_keeps)).ite Keeps.rfl).mono rfl

theorem deliver_keeps {s : State} {c w : Nat} : Keeps [.flt, .lsn, .drl, .que, .hg] s (deliver s c w) := by
  unfold deliver
  extract_lets s1 s2
  have hs1 : Keeps [.flt] s s1 := (setLastOf_keeps).mono rfl
  have hs2 : Keeps [.flt, .drl, .que, .hg] s s2 :=
    (hs1.andThen (Keeps.forEach (ps := [.flt, .drl, .que, .hg]) (fun _ _ => (routeTake_keeps).mono rfl))).mono rfl
  clear_value s1 s2
  exact (hs2.andThen (Keeps.forEach (ps := [.lsn]) (fun s3 u => by
      extract_lets q
      exact ((State.setSad_keeps).ite Keeps.rfl).mono rfl))).mono rfl

theorem fineForm_keeps {s : State} {n off : Nat} : Keeps [.flt, .lsn, .drl, .que, .hg] s (fineForm s n off) := by
  unfold fineForm
  extract_lets old c uns o r s1 sat s2 x s3 s4
  have hs1 : Keeps [.flt] s s1 := (State.setChain_keeps).mono rfl
  have hs2 : Keeps [.flt] s s2 := ((((hs1.andThen State.mark_keeps).andThen State.incSat_keeps).andThen State.event_keeps).ite hs1).mono rfl
  have hs3 : Keeps [.flt] s s3 := (hs2.andThen detect_keeps).mono rfl
  have hs4 : Keeps [.flt] s s4 := (hs3.andThen unsTick_keeps).mono rfl
  clear_value s1 s2 s3 s4
  exact (hs4.andThen deliver_keeps).mono rfl

theorem execLtake_completes {x : Fin 2} {mask : BitVec 16} {s : State} : Completes s (execLtake x mask s) := by
  unfold execLtake
  exact Completes.of_keeps ((adcTake_keeps).ite Keeps.rfl)

theorem execLoop_completes {i : IForm} {words : Fin 3} {s : State} : Completes s (execLoop i words s) := by
  unfold execLoop
  extract_lets pc n k
  exact Completes.of_keeps issue_keeps

theorem execSectret_completes {s : State} : Completes s (execSectret s) := by
  unfold execSectret
  exact Completes.of_keeps svcStart_keeps

theorem popInstr_keeps {s : State} {i : IForm} {k : Nat} : Keeps unitParts s (popInstr s i k) := by
  unfold popInstr
  exact (issueL_keeps (fs := [.que]) (gs := [.frw]) (fun _ _ => popAccess_leaves)
    (fun _ _ _ _ => loadGive_keeps)).mono rfl

theorem execQpop_completes {i : IForm} {s : State} : Completes s (execQpop i s) := by
  unfold execQpop
  exact Completes.of_keeps popInstr_keeps

theorem sustain_keeps {s : State} {u : Nat} : Keeps [.lsn] s (sustain s u) := by
  unfold sustain
  extract_lets old s1
  have hs1 : Keeps [.lsn] s s1 := (State.setSad_keeps).mono rfl
  clear_value s1
  exact ((((hs1.andThen State.mark_keeps).andThen State.event_keeps).andThen State.mark_keeps).andThen State.event_keeps).mono rfl

theorem execSustained_completes {u : Fin 2} {s : State} : Completes s (execSustained u s) := by
  unfold execSustained
  exact Completes.of_keeps (((sustain_keeps).andThen enrolHear_keeps).ite Keeps.rfl)

theorem keyDerive_keeps {s : State} {x : Nat} : Keeps [.hg] s (keyDerive s x) := by
  unfold keyDerive
  extract_lets k a nA nB
  split
  · extract_lets k1 k2 s1
    have hs1 : Keeps [.hg] s s1 := (State.setKey_keeps).mono rfl
    clear_value s1
    exact ((hs1.andThen hgQueue_keeps).ite Keeps.rfl).mono rfl
  · exact Keeps.rfl.mono rfl

theorem pduCheck_keeps {s : State} {kind : Nat} {b : List Nat} : Keeps [.pwr, .time, .lsn, .drl, .swa, .saf] s (pduCheck s kind b).1 := by
  unfold pduCheck
  extract_lets p bad q seq d near hb inTime now s1
  have hbad : Keeps [.pwr, .time, .lsn, .drl, .swa, .saf] s bad.1 := (diagCount_keeps).mono rfl
  have hs1 : Keeps [.pwr, .time, .lsn, .drl, .swa, .saf] s s1 := (Keeps.rfl.ite diagCount_keeps).mono rfl
  clear_value bad s1
  split
  · exact hbad.mono rfl
  · rename_i e
    split
    · exact ((State.setPart_keeps).andThen diagCount_keeps).mono rfl
    · split
      · exact hbad.mono rfl
      · split
        · split
          · exact hbad.mono rfl
          · exact (hs1.andThen State.setPart_keeps).mono rfl
        · exact (State.setPart_keeps).mono rfl

theorem execCommitDiscard_completes {cnt crc : BitVec 16} {s : State} : Completes s (execCommitDiscard cnt crc s) := by
  unfold execCommitDiscard
  exact Completes.of_keeps hspRun_keeps

theorem aluSat_keeps {s : State} {i : RForm} {ok : Bool} {f : ℤ → ℤ → ℤ} : Keeps stopParts s (aluSat s i ok f) := by
  unfold aluSat
  exact (issue_keeps).mono rfl

theorem execSubs_completes {i : RForm} {s : State} : Completes s (execSubs i s) := by
  unfold execSubs
  exact Completes.of_keeps aluSat_keeps

theorem predOp_keeps {s : State} {i : RForm} {f : Bool → Bool → Bool} : Keeps stopParts s (predOp s i f) := by
  unfold predOp
  exact (issue_keeps).mono rfl

theorem lreqTake_keeps {s : State} {x lreq : Nat} : Keeps [.swa, .hg] s (lreqTake s x lreq) := by
  unfold lreqTake
  extract_lets old s1 tx old1 s2 s3
  have hs1 : Keeps [.hg] s s1 := (State.setHgp_keeps).mono rfl
  have hs2 : Keeps [.hg] s s2 := (hs1.andThen State.setHgp_keeps).mono rfl
  have hs3 : Keeps [.hg] s s3 := (hs2.andThen hgLine_keeps).mono rfl
  clear_value s1 s2 s3
  exact (hs1.ite (hs3.andThen hgDegrade_keeps)).mono rfl

theorem execBypass_completes {s : State} : Completes s (execBypass s) := by
  unfold execBypass
  exact Completes.of_keeps jtagSelect_keeps

theorem unloadWait_keeps {s : State} {k : Nat} : Keeps [] s (unloadWait s k) := by
  unfold unloadWait
  exact (Keeps.rfl.ite ((State.mark_keeps).andThen mittenDeny_keeps)).mono rfl

theorem bulkSend_keeps {s : State} {k idx stamp : Nat} : Keeps [.swa, .hg, .saf] s (bulkSend s k idx stamp) := by
  unfold bulkSend
  extract_lets x room a data seg s1 old s2
  have hs1 : Keeps [.hg] s s1 := (Keeps.forEach (ps := [.hg]) (fun _ _ => (hgQueue_keeps).mono rfl)).mono rfl
  have hs2 : Keeps [.swa, .hg] s s2 := ((hs1.andThen State.setStrip_keeps).andThen State.mark_keeps).mono rfl
  clear_value s1 s2
  exact (((hs2.andThen eccCheck_keeps).andThen mittenTouch_keeps).ite Keeps.rfl).mono rfl

theorem unloadNext_keeps {s : State} {k : Nat} : Keeps [.swa, .hg, .saf] s (unloadNext s k) := by
  unfold unloadNext
  extract_lets st
  split
  · rename_i e
    split
    · exact (unloadWait_keeps).mono rfl
    · split
      · exact ((unloadWait_keeps).ite ((bulkSend_keeps).ite (((State.setStrip_keeps).andThen State.mark_keeps).andThen mittenTouch_keeps))).mono rfl
      · exact Keeps.rfl.mono rfl
  · exact Keeps.rfl.mono rfl

theorem freezeLong_keeps {s : State} {l : Nat} : Keeps [.pwr, .time, .lsn, .drl, .swa, .mon, .saf] s (freezeLong s l) := by
  unfold freezeLong
  split
  · extract_lets old
    exact (((mon_replaced (by exact id)).andThen diagCount_keeps).ite Keeps.rfl).mono rfl
  · exact Keeps.rfl.mono rfl

theorem failRecord_keeps {s : State} {r : Nat} : Keeps [.pwr] s (failRecord s r) := by
  unfold failRecord
  extract_lets s1 old
  have hs1 : Keeps [] s s1 := (((State.mark_keeps).andThen State.put_keeps).andThen State.level_keeps).mono rfl
  clear_value s1
  exact (hs1.andThen pwr_replaced).mono rfl

theorem startFail_keeps {s : State} {r : Nat} : Keeps [.pwr] s (startFail s r) := by
  unfold startFail
  split
  · extract_lets later s1 old
    have hs1 : Keeps [.pwr] s s1 := (failRecord_keeps).mono rfl
    clear_value s1
    exact (Keeps.rfl.ite (hs1.andThen pwr_replaced)).mono rfl
  · exact Keeps.rfl.mono rfl

theorem laneFail_keeps {s : State} {x l : Nat} : Keeps [.swa, .hg] s (laneFail s x l) := by
  unfold laneFail
  extract_lets p s1
  have hs1 : Keeps [.hg] s s1 := (State.setHgp_keeps).mono rfl
  clear_value s1
  exact ((hs1.andThen hgDegrade_keeps).ite Keeps.rfl).mono rfl

theorem execVany_completes {i : RForm} {func : BitVec 8} {s : State} : Completes s (execVany i func s) := by
  unfold execVany
  exact Completes.of_keeps vecToP_keeps

theorem execFence_completes {func : BitVec 8} {i : RForm} {s : State} : Completes s (execFence func i s) := by
  unfold execFence
  exact Completes.of_keeps (issueX_keeps (fs := [.hsp, .frw, .free]) (fun _ => ((drainAll_keeps).andThen bundleDone_keeps).mono rfl))

theorem partnerHeard_keeps {s : State} {p : Nat} : Keeps [.clk] s (partnerHeard s p) := by
  unfold partnerHeard
  extract_lets old
  exact (clk_replaced).mono rfl

theorem msgOwn_keeps {s t : State} {x typ : Nat} {r : RxMsg} (e : msgOwn s x typ = some (r, t)) : Keeps [.hg] s t := by
  unfold msgOwn at e
  extract_lets p at e
  split at e
  · simp at e
  · split at e
    · simp at e
    · split at e
      · cases e
        exact State.setHgp_keeps
      · cases e
        exact ((State.setHgp_keeps).andThen slotFree_keeps).mono rfl

theorem onMsg_completes {s : State} {x typ : Nat} {f : RxMsg → State → State} {fs : List Part} (k : ∀ r s, Keeps fs s (f r s)) :
    Completes s (onMsg s x typ f) := by
  unfold onMsg
  split
  · rename_i r t e
    exact Completes.of_keeps (((msgOwn_keeps e).andThen partnerHeard_keeps).andThen (k _ _))
  · exact Completes.of_keeps Keeps.rfl

theorem partnerPre_keeps {s : State} {p : Nat} {b : Bool} : Keeps [] s (partnerPre s p b) := by
  unfold partnerPre
  exact (State.putBit_keeps).mono rfl

theorem execStandDown_completes {x : Fin 2} {s : State} : Completes s (execStandDown x s) := by
  unfold execStandDown
  exact onMsg_completes (fs := []) (fun _ _ => ((partnerPre_keeps).ite Keeps.rfl).mono rfl)

theorem stepDrop_keeps {s : State} {l : List Nat} : Keeps [.pwr] s (stepDrop s l) := by
  unfold stepDrop
  split
  · extract_lets old
    exact (pwr_replaced).mono rfl
  · exact Keeps.rfl.mono rfl

theorem shortStart_keeps {s : State} : Keeps [.swa] s (shortStart s) := by
  unfold shortStart
  extract_lets ssc idx wraps h s1 tags wake b mem old s2 s3
  have hs1 : Keeps [] s s1 := by
    unfold s1
    split
    · exact (State.bump64_keeps).mono rfl
    · exact Keeps.rfl.mono rfl
  have hs2 : Keeps [.swa] s s2 :=
    (hs1.andThen (swa_replaced (by simp +contextual +zetaDelta [SwaOk, memClear_wf, memWrite_wf, memSet_wf, memBits_wf, mem_empty_wf]))).mono rfl
  have hs3 : Keeps [.swa] s s3 := (hs2.andThen State.put_keeps).mono rfl
  clear_value s1 s2 s3
  exact ((hs3.andThen State.mark_keeps).ite hs3).mono rfl

theorem execLoadSentry_completes {s : State} : Completes s (execLoadSentry s) := by
  unfold execLoadSentry
  exact Completes.of_keeps svcStart_keeps

theorem execAnd_completes {i : RForm} {s : State} : Completes s (execAnd i s) := by
  unfold execAnd
  exact Completes.of_keeps alu_keeps

theorem evqPut_keeps {s : State} {ws : List Word} : Keeps [.drl] s (evqPut s ws) := by
  unfold evqPut
  extract_lets old s1
  have hs1 : Keeps [.drl] s s1 := (drl_replaced (by exact id)).mono rfl
  clear_value s1
  exact ((hs1.andThen State.put_keeps).ite ((State.incSat_keeps).andThen State.event_keeps)).mono rfl

theorem markSend_keeps {s : State} {o : DrlOut} {stamp : Nat} {fine : Bool} : Keeps [.hg, .free] s (markSend s o stamp fine) := by
  unfold markSend
  extract_lets per f age at_
  have hf : Keeps [.free] s f.2 := (State.fresh_keeps).mono rfl
  clear_value f
  exact ((hf.andThen hgBroadcast_keeps).ite Keeps.rfl).mono rfl

theorem preStart_keeps {s : State} : Keeps [.hg] s (preStart s) := by
  unfold preStart
  extract_lets s1
  have hs1 : Keeps [] s s1 := (((State.mark_keeps).andThen State.bump64_keeps).andThen State.event_keeps).mono rfl
  clear_value s1
  exact (((hs1.andThen hgBroadcast_keeps).ite hs1).ite Keeps.rfl).mono rfl

theorem outAct_keeps {s : State} {wakes : List (Nat × Nat × Nat)} {o : DrlOut} : Keeps stateParts s (outAct s wakes o) := by
  unfold outAct
  extract_lets m s1 s2 s3 mine
  have hs1 : Keeps [.drl] s s1 := ((evqPut_keeps).andThen State.event_keeps).mono rfl
  have hs2 : Keeps [.drl] s s2 := (evqPut_keeps).mono rfl
  have hs3 : Keeps [.drl] s s3 := (hs2.andThen State.event_keeps).mono rfl
  clear_value s1 s2 s3
  exact ((hs1.andThen markSend_keeps).ite ((hs2.andThen preStart_keeps).ite (hs2.ite (((hs3.andThen qualifiedWake_keeps).ite hs3).ite
    (((hs2.andThen State.event_keeps).andThen stopTake_keeps).ite (hs2.andThen State.event_keeps)))))).mono rfl

theorem outsAct_keeps {s : State} {os : List DrlOut} : Keeps stateParts s (outsAct s os) := by
  unfold outsAct
  extract_lets wakes s1
  have hs1 : Keeps stateParts s s1 := (Keeps.forEach (ps := stateParts) (fun _ _ => (outAct_keeps).mono rfl)).mono rfl
  clear_value s1
  exact ((hs1.andThen standDown_keeps).ite hs1).mono rfl

theorem blockFinish_keeps {s : State} {k : Nat} {b : BlockSt} : Keeps [.swa, .free] s (blockFinish s k b) := by
  unfold blockFinish
  extract_lets a u s1 h crc old s2 old1
  have hu : Keeps [.free] s u.2 := (Keeps.ite_snd (s := s) Keeps.rfl State.fresh_keeps).mono rfl
  have hs1 : Keeps [.free] s s1 := hu.mono rfl
  have hs2 : Keeps [.swa, .free] s s2 :=
    (hs1.andThen (swa_replaced (by simp +contextual +zetaDelta [SwaOk, memClear_wf, memWrite_wf, memSet_wf, memBits_wf, mem_empty_wf]))).mono rfl
  clear_value u s1 s2
  exact (hs2.andThen State.setStrip_keeps).mono rfl

theorem shortGap_keeps {s : State} : Keeps [.swa] s (shortGap s) := by
  unfold shortGap
  split
  · extract_lets old
    exact (swa_replaced (by exact id)).mono rfl
  · extract_lets old
    exact (swa_replaced (by exact id)).mono rfl

theorem inputsResume_keeps {s : State} : Keeps [.mic, .flt] s (inputsResume s) := by
  unfold inputsResume
  exact (Keeps.forEach (ps := [.mic, .flt]) (fun _ _ => ((Keeps.rfl.ite
    ((setDiv_keeps).andThen groupAnchor_keeps)).andThen groupTmc_keeps).mono rfl)).mono rfl

theorem planResume_keeps {s : State} : Keeps [.clk] s (planResume s) := by
  unfold planResume
  extract_lets old
  exact (((clk_replaced).andThen State.mark_keeps).andThen State.event_keeps).mono rfl

theorem clkResume_keeps {s : State} {arrive : State → State} {fs : List Part} (k : ∀ s, Keeps fs s (arrive s)) :
    Keeps (unitParts ++ fs) s (clkResume s arrive) := by
  unfold clkResume
  extract_lets why old s1 s2 s3 s4 old1 s5 s6 s7 s8
  have hs2 : Keeps [.clk] s s2 := (((clk_replaced).andThen State.put_keeps).andThen wdoFollow_keeps).mono rfl
  have hs3 : Keeps [.clk, .flt, .swa] s s3 :=
    (((hs2.andThen sentryCount_keeps).andThen shortGap_keeps).ite ((hs2.andThen fadesEnd_keeps).andThen countsStart_keeps)).mono rfl
  have hs4 : Keeps [.clk, .mic, .flt, .swa] s s4 := (hs3.ite (hs3.andThen inputsResume_keeps)).mono rfl
  have hs5 : Keeps [.clk, .mic, .flt, .swa] s s5 :=
    (hs4.andThen (swa_replaced (by simp +contextual +zetaDelta [SwaOk]))).mono rfl
  have hs6 : Keeps [.clk, .mic, .flt, .swa, .adc, .mon] s s6 := ((hs5.andThen monFollow_keeps).andThen adcKicks_keeps).mono rfl
  have hs7 : Keeps [.clk, .mic, .flt, .swa, .adc, .mon] s s7 := ((hs6.andThen planResume_keeps).ite hs6).mono rfl
  have hs8 : Keeps [.clk, .pwr, .time, .mic, .flt, .lsn, .drl, .swa, .adc, .mon, .saf] s s8 := ((hs7.andThen trip_keeps).ite hs7).mono rfl
  clear_value s8
  split
  · have held := heldGo_keeps (s := s8) k
    have both := hs8.andThen held
    exact ⟨both.pending, fun p hp => both.same p fun m => hp (by
      rw [← List.append_assoc, List.mem_append] at m
      rcases m with m | m
      · exact List.mem_append_left _ (mem_of_partsIn rfl m)
      · exact List.mem_append_right _ m), both.inv⟩
  · exact (hs8.mono rfl).left

theorem serviceArrive_keeps {s : State} : Keeps stateParts s (serviceArrive s) := by
  unfold serviceArrive
  exact (firstArrive_keeps).mono rfl

theorem execPlanResume_completes {s : State} : Completes s (execPlanResume s) := by
  unfold execPlanResume
  exact Completes.of_keeps ((clkResume_keeps (fs := stateParts) (fun _ => (serviceArrive_keeps).mono rfl)).ite Keeps.rfl)

theorem tunReply_keeps {s : State} {tag st : Nat} {ws : List Word} : Keeps [.hg] s (tunReply s tag st ws) := by
  unfold tunReply
  extract_lets n
  exact (Keeps.forEach (ps := [.hg]) (fun _ _ => (hgSend_keeps).mono rfl)).mono rfl

theorem tunBroken_keeps {s : State} {tag : Nat} : Keeps [.hg] s (tunBroken s tag) := by
  unfold tunBroken
  extract_lets old s1 st
  have hs1 : Keeps [.hg] s s1 := ((hg_replaced (by exact id)).andThen hspSnap_keeps).mono rfl
  clear_value s1
  exact ((hs1.andThen hspRecord_keeps).andThen tunReply_keeps).mono rfl

theorem lanes2_keeps {s : State} {i : RForm} {func : BitVec 8} {f : Bool → Nat → BitVec 128 → BitVec 128 → Nat × Bool} :
    Keeps stopParts s (lanes2 s i func f) := by
  unfold lanes2
  extract_lets w
  exact (vecTo_keeps).mono rfl

theorem execVmin_completes {i : RForm} {func : BitVec 8} {s : State} : Completes s (execVmin i func s) := by
  unfold execVmin
  exact Completes.of_keeps lanes2_keeps

theorem strapsPut_keeps {s : State} {devid : Nat} {clksrc test0 io33 : Bool} : Keeps [] s (strapsPut s devid clksrc test0 io33) := by
  unfold strapsPut
  extract_lets s1
  have hs1 : Keeps [] s s1 := (((State.put_keeps).andThen State.mark_keeps).andThen State.mark_keeps).mono rfl
  clear_value s1
  exact ((hs1.andThen State.mark_keeps).andThen State.mark_keeps).mono rfl

theorem release124_keeps {s : State} {devid : Nat} {clksrc test0 io33 : Bool} :
    Keeps [.pwr, .time, .hg] s (release124 s devid clksrc test0 io33) := by
  unfold release124
  extract_lets s1 old s2 old1
  have hs1 : Keeps [] s s1 := (strapsPut_keeps).mono rfl
  have hs2 : Keeps [.time, .hg] s s2 := ((hs1.andThen (time_replaced (x := s2.time))).andThen (hg_replaced (by exact id))).mono rfl
  clear_value s1 s2
  exact ((hs2.andThen pwr_replaced).andThen forwardFollow_keeps).mono rfl

theorem rateFresh_keeps {s : State} {old : Nat} : Keeps [.time] s (rateFresh s old) := by
  unfold rateFresh
  extract_lets old1
  exact (Keeps.rfl.ite time_replaced).mono rfl

theorem stable_keeps {s : State} {n : Nat} : Keeps [.clk, .time, .swa, .hg] s (stable s n) := by
  unfold stable
  extract_lets old s1 old1 s2 s3 old2
  have hs1 : Keeps [.clk] s s1 := ((((State.put_keeps).andThen State.put_keeps).andThen State.mark_keeps).andThen lockBegin_keeps).mono rfl
  have hs2 : Keeps [.clk, .time] s s2 := ((hs1.andThen clk_replaced).andThen rateFresh_keeps).mono rfl
  have hs3 : Keeps [.clk, .time] s s3 := ((hs2.andThen State.put_keeps).andThen State.put_keeps).mono rfl
  clear_value s1 s2 s3
  exact ((((hs3.andThen clk_replaced).andThen hgDisable_keeps).andThen hgDisable_keeps).ite hs2).mono rfl

theorem execAmoMaxu_completes {i : RForm} {s : State} : Completes s (execAmoMaxu i s) := by
  unfold execAmoMaxu
  exact Completes.of_keeps amo_keeps

theorem execPartnerPrewakeTimeout_completes {p : Fin 4} {s : State} : Completes s (execPartnerPrewakeTimeout p s) := by
  unfold execPartnerPrewakeTimeout
  exact Completes.of_keeps ((partnerPre_keeps).ite Keeps.rfl)

theorem remapNow_keeps {s : State} {p : Nat} : Keeps [.mic, .flt] s (remapNow s p) := by
  unfold remapNow
  split
  · exact Keeps.rfl.mono rfl
  · rename_i x n e
    extract_lets old back l old1
    have hback : Keeps [] s back := (Keeps.forEach (ps := []) (fun s1 r => by
        split
        · exact ((State.put_keeps).andThen State.putBit_keeps).mono rfl
        · exact Keeps.rfl.mono rfl)).mono rfl
    clear_value back
    exact ((hback.andThen (mic_replaced (by exact id))).andThen (Keeps.forEach (ps := [.mic, .flt]) (fun _ _ => (remapOne_keeps).mono rfl))).mono rfl

theorem remapsWaiting_keeps {s : State} : Keeps [.mic, .flt] s (remapsWaiting s) := by
  unfold remapsWaiting
  extract_lets l ps old
  exact (Keeps.rfl.ite ((mic_replaced (by exact id)).andThen (Keeps.forEach (ps := [.mic, .flt]) (fun _ _ => (remapNow_keeps).mono rfl)))).mono rfl

theorem cmpLanes_keeps {s : State} {i : RForm} {func : BitVec 8} {f : Bool → Nat → BitVec 128 → BitVec 128 → Bool} :
    Keeps stopParts s (cmpLanes s i func f) := by
  unfold cmpLanes
  extract_lets w
  exact (vecTo_keeps).mono rfl

theorem execVcmpLt_completes {i : RForm} {func : BitVec 8} {s : State} : Completes s (execVcmpLt i func s) := by
  unfold execVcmpLt
  exact Completes.of_keeps cmpLanes_keeps

theorem execRekey_completes {x : Fin 2} {s : State} : Completes s (execRekey x s) := by
  unfold execRekey
  exact Completes.of_keeps hgRekey_keeps

theorem execReseed_completes {u : Fin 2} {s : State} : Completes s (execReseed u s) := by
  unfold execReseed
  exact Completes.of_keeps sadReseed_keeps

theorem proofDone_keeps {s : State} {pass : Bool} : Keeps [.pwr, .time, .lsn, .drl, .swa, .saf] s (proofDone s pass) := by
  unfold proofDone
  extract_lets s1 add old
  have hs1 : Keeps [] s s1 := (State.mark_keeps).mono rfl
  clear_value s1
  exact ((hs1.andThen (saf_replaced (by exact id))).ite (hs1.andThen diagCount_keeps)).mono rfl

theorem execArming_completes {proof readback : Bool} {s : State} : Completes s (execArming proof readback s) := by
  unfold execArming
  extract_lets s1 old s2 s3
  have hs1 : Keeps [.pwr, .time, .lsn, .drl, .swa, .saf] s s1 := (proofDone_keeps).mono rfl
  have hs2 : Keeps [.pwr, .time, .lsn, .drl, .swa, .saf] s s2 := (hs1.andThen (saf_replaced (by exact id))).mono rfl
  have hs3 : Keeps [.pwr, .time, .lsn, .drl, .swa, .saf] s s3 :=
    (((hs2.andThen State.put_keeps).andThen State.mark_keeps).andThen State.mark_keeps).mono rfl
  clear_value s1 s2 s3
  split
  · rename_i e
    split
    · exact Completes.of_keeps armRefuse_keeps
    · split
      · exact Completes.of_keeps armRefuse_keeps
      · split
        · exact Completes.of_keeps armRefuse_keeps
        · split
          · exact Completes.of_keeps ((armRefuse_keeps).andThen proofDone_keeps)
          · split
            · exact Completes.of_keeps (hs1.andThen armRefuse_keeps)
            · exact Completes.of_keeps (((hs3.andThen State.put_keeps).andThen State.put_keeps).andThen State.event_keeps)
  · exact Completes.of_keeps Keeps.rfl

theorem railCount_keeps {s : State} {k : Nat} {c limit : Bool} :
    Keeps [.pwr, .time, .lsn, .drl, .swa, .mon, .saf] s (railCount s k c limit) := by
  unfold railCount
  extract_lets n old s1 was rails s2 s3
  have hs1 : Keeps [.mon] s s1 := (mon_replaced (by simp +contextual +zetaDelta [MonOk, setNth])).mono rfl
  have hs2 : Keeps [.mon] s s2 := (hs1.andThen State.putBit_keeps).mono rfl
  have hs3 : Keeps [.mon] s s3 := (hs2.andThen State.level_keeps).mono rfl
  clear_value s1 s2 s3
  exact ((hs3.andThen diagEvent_keeps).ite hs3).mono rfl

theorem autoSpare_keeps {s : State} {p : Nat} : Keeps [.mic, .flt] s (autoSpare s p) := by
  unfold autoSpare
  extract_lets old
  exact (((mic_replaced (by exact id)).ite remapNow_keeps).ite Keeps.rfl).mono rfl

theorem inputFault_keeps {s : State} {p : Nat} : Keeps [.mic, .flt, .lsn] s (inputFault s p) := by
  unfold inputFault
  extract_lets s1 s2 s3
  have hs1 : Keeps [] s s1 := (((micSet_keeps).andThen State.incSat_keeps).andThen State.event_keeps).mono rfl
  have hs2 : Keeps [.mic] s s2 := (hs1.andThen calTargetLost_keeps).mono rfl
  have hs3 : Keeps [.mic, .flt] s s3 := (hs2.andThen autoSpare_keeps).mono rfl
  clear_value s1 s2 s3
  exact ((hs3.andThen sentryFailover_keeps).ite hs3).mono rfl

theorem livenessDiag_keeps {s0 s : State} {p i : Nat} : Keeps [.pwr, .time, .lsn, .drl, .swa, .saf] s (livenessDiag s0 s p i) := by
  unfold livenessDiag
  extract_lets ins replaced again old s1
  have hs1 : Keeps [.saf] s s1 := (saf_replaced (by exact id)).mono rfl
  clear_value s1
  exact (Keeps.rfl.ite (((hs1.andThen diagEventT_keeps).ite (hs1.andThen diagEventT_keeps)).ite diagEvent_keeps)).mono rfl

theorem execStuckAt_completes {p : Fin 32} {v : Bool} {s : State} : Completes s (execStuckAt p v s) := by
  unfold execStuckAt
  extract_lets p1 t t1
  have ht : Keeps [] s t := ((liveEvent_keeps).andThen State.mark_keeps).mono rfl
  have ht1 : Keeps [.mic, .flt, .lsn] s t1 := (ht.ite (ht.andThen inputFault_keeps)).mono rfl
  clear_value t t1
  split
  · exact Completes.of_keeps (ht1.andThen livenessDiag_keeps)
  · exact Completes.of_keeps Keeps.rfl

theorem execVsubs_completes {i : RForm} {func : BitVec 8} {s : State} : Completes s (execVsubs i func s) := by
  unfold execVsubs
  exact Completes.of_keeps lanes2_keeps

theorem execVacsum_completes {i : RForm} {func : BitVec 8} {s : State} : Completes s (execVacsum i func s) := by
  unfold execVacsum
  exact Completes.of_keeps accTo_keeps

theorem releaseNote_keeps {s : State} {c t : Nat} : Keeps [.frw] s (releaseNote s c t) := by
  unfold releaseNote
  extract_lets old
  exact (State.setCore_keeps).mono rfl

theorem execTaskRelease_completes {c : Fin 4} {t : Fin 16} {s : State} : Completes s (execTaskRelease c t s) := by
  unfold execTaskRelease
  exact Completes.of_keeps (((releaseNote_keeps).andThen release_keeps).ite Keeps.rfl)

theorem execStatus_completes {addr : BitVec 24} {cnt crc : BitVec 16} {s : State} : Completes s (execStatus addr cnt crc s) := by
  unfold execStatus
  exact Completes.of_keeps hspRun_keeps

theorem execVerify_completes {s : State} : Completes s (execVerify s) := by
  unfold execVerify
  exact Completes.of_keeps nvmStart_keeps

theorem doOpen_keeps {s : State} : Keeps [.drl, .nvm] s (doOpen s).1 := by
  unfold doOpen
  extract_lets t s1 old
  have hs1 : Keeps [.nvm] s s1 := (nextSeq_keeps).mono rfl
  clear_value s1
  split
  · exact Keeps.rfl.mono rfl
  · exact ((hs1.andThen (drl_replaced (by exact id))).andThen State.put_keeps).mono rfl

/-- Whatever is stored bit by bit, a canonical memory stays canonical. -/
theorem forEach_memBits_wf {α : Type} {l : List α} {m : List Host.Cell} {base w : Nat} {off v : α → Nat} (h : Memory.wf m = true) :
    Memory.wf (forEach l (fun m i => memBits m base (off i) w (v i)) m) = true := by
  unfold forEach
  induction l generalizing m with
  | nil => exact h
  | cons i l ih => exact ih (memBits_wf _ _ _ _ _ h)

theorem stripFrame_keeps {s : State} {k : Nat} : Keeps [.swa, .free] s (stripFrame s k) := by
  unfold stripFrame
  split
  · exact Keeps.rfl.mono rfl
  · rename_i b e
    extract_lets w n first a words mem mask b' old s1 old1 s2 s3 s4
    have hs1 : Keeps [.swa] s s1 := swa_replaced fun h => ⟨h.1, forEach_memBits_wf h.2.1, h.2.2⟩
    have hs2 : Keeps [.swa] s s2 := (hs1.andThen State.setStrip_keeps).mono rfl
    have hs3 : Keeps [.swa] s s3 := (hs2.andThen State.bump64_keeps).mono rfl
    exact ((hs3.andThen blockFinish_keeps).ite hs3).mono rfl

theorem tunEnd_keeps {s : State} {state : Nat} : Keeps [.hsp] s (tunEnd s state) := by
  unfold tunEnd
  extract_lets old s1
  have hs1 : Keeps [.hsp] s s1 := (hsp_replaced (by exact id)).mono rfl
  clear_value s1
  exact (((hs1.andThen State.put_keeps).andThen State.mark_keeps).andThen State.level_keeps).mono rfl

theorem execFloorRail_completes {u : Fin 2} {s : State} : Completes s (execFloorRail u s) := by
  unfold execFloorRail
  extract_lets q told
  have htold : Keeps [.lsn] s told := (State.setSad_keeps).mono rfl
  clear_value told
  split
  · exact Completes.of_keeps ((htold.andThen State.mark_keeps).andThen State.event_keeps)
  · rename_i e
    split
    · exact Completes.of_keeps ((htold.andThen State.mark_keeps).andThen State.event_keeps)
    · exact Completes.of_keeps Keeps.rfl

theorem smacStep_keeps {s : State} {i : RForm} {x y neg : Bool} : Keeps stopParts s (smacStep s i x y neg) := by
  unfold smacStep
  exact (issue_keeps).mono rfl

theorem execSmsu_completes {i : RForm} {x y : Bool} {s : State} : Completes s (execSmsu i x y s) := by
  unfold execSmsu
  exact Completes.of_keeps smacStep_keeps

theorem sentryFeed_keeps {s : State} {bs : List Bool} : Keeps [.flt] s (sentryFeed s bs) := by
  unfold sentryFeed
  extract_lets old
  exact (flt_replaced (by exact id)).mono rfl

theorem execSamplePreload_completes {s : State} : Completes s (execSamplePreload s) := by
  unfold execSamplePreload
  exact Completes.of_keeps jtagSelect_keeps

theorem execCalSave_completes {s : State} : Completes s (execCalSave s) := by
  unfold execCalSave
  exact Completes.of_keeps ((calNvm_keeps).ite Keeps.rfl)

theorem condsSee_keeps {s : State} : Keeps [.saf] s (condsSee s) := by
  unfold condsSee
  exact (Keeps.forEach (ps := [.saf]) (fun s1 i => by
      extract_lets old
      exact ((saf_replaced (by exact id)).ite Keeps.rfl).mono rfl)).mono rfl

theorem execStoreDrain_completes {c : Fin 6} {s : State} : Completes s (execStoreDrain c s) := by
  unfold execStoreDrain
  exact Completes.of_keeps ((drainN_keeps).ite Keeps.rfl)

theorem fineKeep_keeps {s : State} {n : Nat} : Keeps [.drl] s (fineKeep s n) := by
  unfold fineKeep
  exact ((Keeps.forEach (ps := [.drl]) (fun s1 d => by
      extract_lets i now keep
      exact ((State.setDrlIn_keeps).ite Keeps.rfl).mono rfl)).ite Keeps.rfl).mono rfl

theorem execMflp_completes {i : RForm} {func : BitVec 8} {s : State} : Completes s (execMflp i func s) := by
  unfold execMflp
  exact Completes.of_keeps issue_keeps

theorem bufferStore_keeps {s : State} {c a : Nat} {bs : List Nat} : Keeps [.frw] s (bufferStore s c a bs) := by
  unfold bufferStore
  extract_lets s1 old
  have hs1 : Keeps [.frw] s s1 := ((drainN_keeps).ite Keeps.rfl).mono rfl
  clear_value s1
  exact (hs1.andThen State.setCore_keeps).mono rfl

theorem pushAccess_leaves {s : State} {c n : Nat} {es : List Nat} : (pushAccess s c n es).Keeps [.que] s := by
  unfold pushAccess
  split
  · exact Keeps.rfl.mono rfl
  · split
    · trivial
    · exact queuePush_keeps

theorem devStore_leaves {s : State} {c a : Nat} {w : Word} : (devStore s c a w).Keeps unitParts s := by
  unfold devStore
  extract_lets l l'
  split
  · split
    · exact (applyNow_keeps).mono rfl
    · exact Keeps.rfl.mono rfl
  · split
    · exact Keeps.rfl.mono rfl
    · split
      · split
        · exact Keeps.rfl.mono rfl
        · exact ((hsp_replaced (by simp [HspOk, setNth])).andThen State.put_keeps).mono rfl
      · exact (applyNow_keeps).mono rfl

theorem memStore_leaves {s : State} {c a : Nat} {bs : List Nat} : (memStore s c a bs).Keeps unitParts s := by
  unfold memStore
  extract_lets n
  split
  · exact Keeps.rfl.mono rfl
  · split
    · exact Keeps.rfl.mono rfl
    · exact (bufferStore_keeps).mono rfl
    · exact (bufferStore_keeps).mono rfl
    · split
      · exact Keeps.rfl.mono rfl
      · split
        · exact (pushAccess_leaves).widen rfl
        · exact Keeps.rfl.mono rfl
    · split
      · exact Keeps.rfl.mono rfl
      · exact devStore_leaves
    · exact (mittenDeny_keeps).mono rfl
    · exact Keeps.rfl.mono rfl

theorem storeImm_keeps {s : State} {i : IForm} {z : Nat} : Keeps unitParts s (storeImm s i z) := by
  unfold storeImm
  exact (issueL_keeps (fs := unitParts) (gs := []) (fun _ _ => memStore_leaves)
    (fun _ _ _ _ => Keeps.rfl)).mono rfl

theorem execStw_completes {i : IForm} {s : State} : Completes s (execStw i s) := by
  unfold execStw
  exact Completes.of_keeps storeImm_keeps

theorem lanesAgree_keeps {s : State} {x tx rx : Nat} : Keeps [.swa, .hg] s (lanesAgree s x tx rx) := by
  unfold lanesAgree
  extract_lets s1
  have hs1 : Keeps [] s s1 := ((State.put_keeps).andThen State.put_keeps).mono rfl
  clear_value s1
  exact ((hs1.andThen hgFail_keeps).ite ((((hs1.andThen State.mark_keeps).andThen State.put_keeps).andThen State.level_keeps).ite
    ((((hs1.andThen State.mark_keeps).andThen State.put_keeps).andThen State.level_keeps).ite (hs1.andThen hgFail_keeps)))).mono rfl

theorem execFallowExpire_completes {g : Nat} {s : State} : Completes s (execFallowExpire g s) := by
  unfold execFallowExpire
  extract_lets s1
  have hs1 : Keeps [] s s1 := (State.put_keeps).mono rfl
  clear_value s1
  exact Completes.of_keeps (((hs1.andThen intDecide_keeps).ite hs1).ite Keeps.rfl)

theorem execDelivery_completes {g : Nat} {s : State} : Completes s (execDelivery g s) := by
  unfold execDelivery
  exact Completes.of_keeps ((intDecide_keeps).ite Keeps.rfl)

theorem stripRetire_keeps {s : State} {k stamp : Nat} : Keeps [.swa] s (stripRetire s k stamp) := by
  unfold stripRetire
  extract_lets st n s1 s2
  have hs1 : Keeps [.swa] s s1 := (State.setStrip_keeps).mono rfl
  have hs2 : Keeps [.swa] s s2 := (hs1.andThen State.setPair_keeps).mono rfl
  clear_value s1 s2
  exact ((hs2.ite ((hs2.andThen State.bump64_keeps).andThen State.event_keeps)).ite (hs1.ite (hs1.andThen State.bump64_keeps))).mono rfl

theorem blockStart_keeps {s : State} {k : Nat} : Keeps [.swa] s (blockStart s k) := by
  unfold blockStart
  extract_lets st sc nblk idx wraps s1 st1 tags wake old s2 next s3 s4 s5 old1
  have hs1 : Keeps [.swa] s s1 := by
    unfold s1
    split
    · exact (stripRetire_keeps).mono rfl
    · exact Keeps.rfl.mono rfl
  have hs2 : Keeps [.swa] s s2 := (hs1.andThen (swa_replaced (by exact id))).mono rfl
  have hs3 : Keeps [.swa] s s3 := (hs2.andThen State.setStrip_keeps).mono rfl
  have hs4 : Keeps [.swa] s s4 := (hs3.andThen State.put_keeps).mono rfl
  have hs5 : Keeps [.swa] s s5 := ((hs4.andThen State.mark_keeps).ite hs4).mono rfl
  clear_value s1 s2 s3 s4 s5
  exact (hs5.andThen (swa_replaced (by simp +contextual +zetaDelta [SwaOk, memClear_wf, memWrite_wf, memSet_wf, memBits_wf, mem_empty_wf]))).mono rfl

theorem slotDone_keeps {s : State} {d : Nat} : Keeps [.flt] s (slotDone s d) := by
  unfold slotDone
  extract_lets r
  exact ((State.setRoute_keeps).ite Keeps.rfl).mono rfl

theorem prerollReady_keeps {s : State} : Keeps [] s (prerollReady s) := by
  unfold prerollReady
  extract_lets on
  exact (Keeps.rfl.ite (((State.mark_keeps).andThen State.event_keeps).ite Keeps.rfl)).mono rfl

theorem swathFrame_keeps {s : State} : Keeps [.flt, .swa, .free] s (swathFrame s) := by
  unfold swathFrame
  extract_lets on s1 s2 s3 old s4 s5
  have hs1 : Keeps [.swa] s s1 := (Keeps.forEach (ps := [.swa]) (fun _ _ => ((blockStart_keeps).ite Keeps.rfl).mono rfl)).mono rfl
  have hs2 : Keeps [.flt, .swa, .free] s s2 :=
    ((hs1.andThen (Keeps.forEach (ps := [.swa, .free]) (fun _ _ => (stripFrame_keeps).mono rfl))).andThen (Keeps.forEach (ps := [.flt])
      (fun _ _ => (slotDone_keeps).mono rfl))).mono rfl
  have hs3 : Keeps [.flt, .swa, .free] s s3 := (hs2.andThen State.setPair_keeps).mono rfl
  have hs4 : Keeps [.flt, .swa, .free] s s4 := (hs3.andThen (swa_replaced (by simp +contextual +zetaDelta [SwaOk, setNth]))).mono rfl
  have hs5 : Keeps [.flt, .swa, .free] s s5 := (hs4.andThen (Keeps.forEach (ps := [.swa]) (fun _ _ => (stripCounts_keeps).mono rfl))).mono rfl
  clear_value s1 s2 s3 s4 s5
  exact (hs5.andThen prerollReady_keeps).mono rfl

theorem execSwathFrame_completes {s : State} : Completes s (execSwathFrame s) := by
  unfold execSwathFrame
  exact Completes.of_keeps ((swathFrame_keeps).ite Keeps.rfl)

theorem execIntBell_completes {v : BitVec 8} {s : State} : Completes s (execIntBell v s) := by
  unfold execIntBell
  exact Completes.of_keeps (Keeps.rfl.ite intRing_keeps)

theorem offCause_keeps {s : State} {por pin : Bool} {rail : Nat} : Keeps [] s (offCause s por pin rail) := by
  unfold offCause
  exact (((State.mark_keeps).andThen State.mark_keeps).andThen State.put_keeps).mono rfl

/-- The reset state is canonical and shaped, unit by unit. -/
theorem reset_inv : Inv State.reset := (inv_iff _).mpr ⟨reset_canonical, reset_shaped⟩

theorem offState_keeps {s : State} :
    Keeps [.clk, .pwr, .hsp, .time, .int, .mic, .flt, .lsn, .drl, .swa, .que, .hg, .frw, .adc, .mon, .saf, .nvm] s (offState s) where
  pending := rfl
  same p hp := by
    cases p with
    | jtag => exact rfl
    | free => exact rfl
    | _ => exact absurd (by decide) hp
  inv h := by
    obtain ⟨regs, hsp, mic, flt, lsn, drl, swa, que, hg, frw, adc, mon, saf, -⟩ := reset_inv
    exact ⟨regs, hsp, mic, flt, lsn, drl, swa, que, hg, frw, adc, mon, saf, h.nvm⟩

theorem execSupplyLoss_completes {v : Fin 7} {lost : Bool} {s : State} : Completes s (execSupplyLoss v lost s) := by
  unfold execSupplyLoss
  extract_lets was rails t old old1 s1
  have ht : Keeps [.clk, .pwr, .hsp, .time, .int, .mic, .flt, .lsn, .drl, .swa, .que, .hg, .frw, .adc, .mon, .saf, .nvm] s t :=
    ((offState_keeps).andThen offCause_keeps).mono rfl
  have hs1 : Keeps [.pwr] s s1 := (pwr_replaced).mono rfl
  clear_value t s1
  split
  · exact Completes.of_keeps Keeps.rfl
  · rename_i e
    split
    · exact Completes.of_keeps (ht.andThen pwr_replaced)
    · exact Completes.of_keeps (hs1.ite (hs1.andThen State.putBit_keeps))

theorem execMtlp_completes {i : RForm} {func : BitVec 8} {s : State} : Completes s (execMtlp i func s) := by
  unfold execMtlp
  exact Completes.of_keeps issue_keeps

theorem fadeTo_keeps {s : State} {n : Nat} {new : Inst} : Keeps [.flt] s (fadeTo s n new) := by
  unfold fadeTo
  extract_lets c
  split
  · exact Keeps.rfl.mono rfl
  · rename_i e
    split
    · exact (chainFade_keeps).mono rfl
    · exact ((State.setChain_keeps).ite Keeps.rfl).mono rfl

theorem patrolBad_keeps {s : State} {c m w : Nat} : Keeps [.pwr, .hsp, .time, .lsn, .drl, .swa, .frw, .saf] s (patrolBad s c m w) := by
  unfold patrolBad
  extract_lets add old s1
  have hs1 : Keeps [.frw] s s1 :=
    ((frw_replaced (by simp +contextual +zetaDelta [FrwOk, setNth])).ite ((frw_replaced
      (by simp +contextual +zetaDelta [FrwOk, setNth])).ite (frw_replaced (by exact id)))).mono rfl
  clear_value s1
  exact ((hs1.andThen State.mark_keeps).ite ((hs1.andThen scareEcc_keeps).ite hs1)).mono rfl

theorem execPandn_completes {i : RForm} {s : State} : Completes s (execPandn i s) := by
  unfold execPandn
  exact Completes.of_keeps predOp_keeps

theorem execPand_completes {i : RForm} {s : State} : Completes s (execPand i s) := by
  unfold execPand
  exact Completes.of_keeps predOp_keeps

theorem adcUrgent_keeps {s : State} {x e : Nat} : Keeps [.adc] s (adcUrgent s x e) := by
  unfold adcUrgent
  extract_lets old s1 s2
  have hs1 : Keeps [.adc] s s1 := (State.setAdc_keeps).mono rfl
  have hs2 : Keeps [.adc] s s2 := ((hs1.andThen State.mark_keeps).andThen State.put_keeps).mono rfl
  clear_value s1 s2
  exact ((State.incSat_keeps).ite ((hs2.andThen adcAbort_keeps).andThen adcKick_keeps)).mono rfl

theorem execRailIn_completes {v : Fin 8} {lo hi : BitVec 16} {s : State} : Completes s (execRailIn v lo hi s) := by
  unfold execRailIn
  extract_lets v1 s1
  have hs1 : Keeps [] s s1 := (State.putBit_keeps).mono rfl
  clear_value s1
  split
  · exact Completes.of_keeps ((hs1.andThen State.level_keeps).andThen monFollow_keeps)
  · exact Completes.of_keeps Keeps.rfl

theorem wordStruck_ok {w : SwaSt} {short bad : Bool} {a : Nat} (h : SwaOk w) : SwaOk (wordStruck w short bad a) := by
  cases short <;> cases bad <;> exact h

theorem wordsStruck_keeps {s : State} {l : List (Bool × Bool × Nat)} : Keeps [.swa] s (wordsStruck s l) := by
  unfold wordsStruck
  exact Keeps.forEach fun _ _ => ((swa_replaced wordStruck_ok).ite Keeps.rfl).mono rfl

theorem sectorRetire_keeps {s : State} {n : Nat} : Keeps [.nvm] s (sectorRetire s n) := by
  unfold sectorRetire
  extract_lets old s1
  have hs1 : Keeps [.nvm] s s1 := (nvm_replaced (by exact id)).mono rfl
  clear_value s1
  exact (Keeps.rfl.ite (((hs1.andThen anchorWrite_keeps).andThen State.event_keeps).andThen nvmShow_keeps)).mono rfl

theorem mapLoad_keeps {s : State} : Keeps [] s (mapLoad s) := by
  unfold mapLoad
  split
  · extract_lets w
    exact ((storeWords_keeps).ite Keeps.rfl).mono rfl
  · exact Keeps.rfl.mono rfl

theorem slotErase_keeps {s : State} {k : Nat} : Keeps [.drl, .saf] s (slotErase s k) := by
  unfold slotErase
  extract_lets s1 s2 s3 s4 s5 old s6
  have hs1 : Keeps [.drl] s s1 := (slotChange_keeps).mono rfl
  have hs2 : Keeps [.drl] s s2 := (hs1.andThen State.wr_keeps).mono rfl
  have hs3 : Keeps [.drl] s s3 := (hs2.andThen State.wr_keeps).mono rfl
  have hs4 : Keeps [.drl] s s4 := (hs3.andThen State.wr_keeps).mono rfl
  have hs5 : Keeps [.drl] s s5 := ((hs4.andThen State.put_keeps).andThen State.put_keeps).mono rfl
  have hs6 : Keeps [.drl] s s6 := (hs5.andThen (drl_replaced (by exact id))).mono rfl
  clear_value s1 s2 s3 s4 s5 s6
  exact ((hs6.andThen tableDrop_keeps).andThen netFollow_keeps).mono rfl

theorem slotPlace_keeps {s : State} {k : Nat} {r : List Nat} {typ cls inmask sentry netout thr pre osl refr band len : Nat} :
    Keeps [.drl, .saf] s (slotPlace s k r typ cls inmask sentry netout thr pre osl refr band len) := by
  unfold slotPlace
  extract_lets s1 old s2 s3 s4 s5 s6 s7 s8
  have hs1 : Keeps [.drl, .saf] s s1 := (slotErase_keeps).mono rfl
  have hs2 : Keeps [.drl, .saf] s s2 := (hs1.andThen (drl_replaced (by exact id))).mono rfl
  have hs3 : Keeps [.drl, .saf] s s3 := ((hs2.andThen State.put_keeps).andThen State.put_keeps).mono rfl
  have hs4 : Keeps [.drl, .saf] s s4 := ((hs3.andThen State.put_keeps).andThen State.put_keeps).mono rfl
  have hs5 : Keeps [.drl, .saf] s s5 := ((hs4.andThen State.put_keeps).andThen State.put_keeps).mono rfl
  have hs6 : Keeps [.drl, .saf] s s6 := ((hs5.andThen State.put_keeps).andThen State.put_keeps).mono rfl
  have hs7 : Keeps [.drl, .saf] s s7 := ((hs6.andThen State.put_keeps).andThen State.put_keeps).mono rfl
  have hs8 : Keeps [.drl, .saf] s s8 := ((hs7.andThen State.put_keeps).andThen State.put_keeps).mono rfl
  clear_value s1 s2 s3 s4 s5 s6 s7 s8
  exact (hs8.andThen State.put_keeps).mono rfl

theorem recInstall_keeps {s : State} {r : List Nat} : Keeps [.drl, .saf] s (recInstall s r) := by
  unfold recInstall
  extract_lets s1 s2 s3
  have hs1 : Keeps [.drl, .saf] s s1 := (Keeps.forEach (ps := [.drl, .saf]) (fun _ _ => (slotErase_keeps).mono rfl)).mono rfl
  have hs2 : Keeps [.drl, .saf] s s2 := (hs1.andThen (Keeps.forEach (ps := [.drl, .saf]) (fun s4 e => by
      extract_lets c
      exact (slotPlace_keeps).mono rfl))).mono rfl
  have hs3 : Keeps [.drl, .saf] s s3 := (hs2.andThen State.put_keeps).mono rfl
  clear_value s1 s2 s3
  exact (((hs3.andThen State.put_keeps).andThen netFollow_keeps).ite slotPlace_keeps).mono rfl

theorem seedsLoad_keeps {s : State} : Keeps [.drl, .saf] s (seedsLoad s) := by
  unfold seedsLoad
  exact (Keeps.forEach (ps := [.drl, .saf]) (fun s1 id => by
      split
      · exact ((recInstall_keeps).ite Keeps.rfl).mono rfl
      · exact Keeps.rfl.mono rfl)).mono rfl

theorem calRecordLoad_keeps {s : State} {p : Nat} {b : List Nat} : Keeps [] s (calRecordLoad s p b) := by
  unfold calRecordLoad
  extract_lets s1 s2 s3
  have hs1 : Keeps [] s s1 := (State.put_keeps).mono rfl
  have hs2 : Keeps [] s s2 := (hs1.andThen State.put_keeps).mono rfl
  have hs3 : Keeps [] s s3 := (hs2.andThen (Keeps.forEach (ps := []) (fun _ _ => (State.put_keeps).mono rfl))).mono rfl
  clear_value s1 s2 s3
  exact (hs3.andThen State.put_keeps).mono rfl

theorem calLoadAll_keeps {s : State} : Keeps [] s (calLoadAll s).1 := by
  unfold calLoadAll
  exact (Keeps.foldl_fst (ps := []) (fun s b a => by
      split
      · rename_i x b1 e
        split
        · exact (calRecordLoad_keeps).mono rfl
        · exact Keeps.rfl.mono rfl
      · exact Keeps.rfl.mono rfl)).mono rfl

theorem storeLoad_keeps {s : State} : Keeps [.pwr, .drl, .saf] s (storeLoad s) := by
  unfold storeLoad
  extract_lets s1 s2 old
  have hs1 : Keeps [.drl, .saf] s s1 := (Keeps.rfl.ite ((seedsLoad_keeps).andThen mapLoad_keeps)).mono rfl
  have hs2 : Keeps [.drl, .saf] s s2 := (hs1.andThen calLoadAll_keeps).mono rfl
  clear_value s1 s2
  exact (hs2.andThen pwr_replaced).mono rfl

theorem execCall_completes {i : BForm} {words slot : Fin 3} {s : State} : Completes s (execCall i words slot s) := by
  unfold execCall
  extract_lets pc
  exact Completes.of_keeps issue_keeps

theorem execStatusSend_completes {x : Fin 2} {s : State} : Completes s (execStatusSend x s) := by
  unfold execStatusSend
  extract_lets p
  exact Completes.of_keeps (((hgLine_keeps).andThen State.setHgp_keeps).ite Keeps.rfl)

theorem bootSave_keeps {s : State} : Keeps [.nvm] s (bootSave s).1 := by
  unfold bootSave
  exact (recPut_keeps).mono rfl

theorem supLatch_keeps {s : State} {f : Fld} : Keeps [] s (supLatch s f) := by
  unfold supLatch
  exact ((State.mark_keeps).andThen State.supLevel_keeps).mono rfl

theorem hgError_keeps {s : State} {x cause : Nat} : Keeps [.swa, .hg] s (hgError s x cause) := by
  unfold hgError
  extract_lets s1 now w t old s2 s3
  have hs1 : Keeps [] s s1 := ((State.put_keeps).andThen State.event_keeps).mono rfl
  have hs2 : Keeps [.hg] s s2 := (hs1.andThen State.setHgp_keeps).mono rfl
  have hs3 : Keeps [.hg] s s3 := (hs2.andThen State.put_keeps).mono rfl
  clear_value s1 s2 s3
  exact (hs1.ite ((hs3.andThen hgQuarantine_keeps).ite hs3)).mono rfl

theorem execRtoExpire_completes {x : Fin 2} {s : State} : Completes s (execRtoExpire x s) := by
  unfold execRtoExpire
  extract_lets p s1 s2 s3
  have hs1 : Keeps [] s s1 := (State.bump64_keeps).mono rfl
  have hs2 : Keeps [.hg] s s2 := (hs1.andThen State.setHgp_keeps).mono rfl
  have hs3 : Keeps [.swa, .hg] s s3 := (hs2.andThen hgError_keeps).mono rfl
  clear_value s1 s2 s3
  split
  · rename_i e
    split
    · exact Completes.of_keeps ((hs3.andThen hgDown_keeps).ite hs3)
    · exact Completes.of_keeps hs2
  · exact Completes.of_keeps Keeps.rfl

theorem intTick_keeps {s : State} : Keeps [] s (intTick s) := by
  unfold intTick
  exact (Keeps.forEach (ps := []) (fun s1 g => by
      extract_lets h
      exact (Keeps.rfl.ite State.put_keeps).mono rfl)).mono rfl

theorem execVacput_completes {i : RForm} {func : BitVec 8} {s : State} : Completes s (execVacput i func s) := by
  unfold execVacput
  exact Completes.of_keeps accTo_keeps

theorem calShut_keeps {s : State} : Keeps [.flt] s (calShut s) := by
  unfold calShut
  extract_lets old
  exact (flt_replaced (by simp +contextual +zetaDelta [FltOk, setNth])).mono rfl

theorem execCalTargetEnd_completes {s : State} : Completes s (execCalTargetEnd s) := by
  unfold execCalTargetEnd
  split
  · rename_i x p rest e
    extract_lets r n a b s1 old
    have hs1 : Keeps [.flt, .free] s s1 := ((calResult1_keeps).andThen calShut_keeps).mono rfl
    clear_value s1
    split
    · split
      · exact Completes.of_keeps ((hs1.andThen (mic_replaced (by exact id))).andThen calDone_keeps)
      · exact Completes.of_keeps ((hs1.andThen (mic_replaced (by exact id))).andThen calOpen_keeps)
    · exact Completes.of_keeps Keeps.rfl
  · exact Completes.of_keeps Keeps.rfl

/-- An image slot's memory replaced by a canonical one. -/
theorem State.setSlotMem_keeps {s : State} {k : Nat} {m : List Host.Cell} (h : NvmOk s.nvm → Memory.wf m = true) :
    Keeps [.nvm] s (s.setSlotMem k m) :=
  nvm_replaced fun ok => ⟨by simpa [setNth] using ok.1, forall_mem_set ok.2 (h ok)⟩

theorem slotInvalid_keeps {s : State} {k : Nat} : Keeps [.nvm] s (slotInvalid s k) := by
  unfold slotInvalid
  extract_lets old s1
  have hs1 : Keeps [.nvm] s s1 := (nvm_replaced (by exact id)).mono rfl
  clear_value s1
  exact (hs1.andThen State.put_keeps).mono rfl

theorem slotSectorGone_keeps {s : State} {k n : Nat} : Keeps [.nvm] s (slotSectorGone s k n) := by
  unfold slotSectorGone
  extract_lets good p tail kept
  split
  · exact ((slotInvalid_keeps).andThen (State.setSlotMem_keeps fun h => memWrite_wf _ _ _ (nth_wf h.2))).mono rfl
  · exact Keeps.rfl.mono rfl

theorem execLockLoss_completes {s : State} : Completes s (execLockLoss s) := by
  unfold execLockLoss
  extract_lets s1 old s2
  have hs1 : Keeps [] s s1 := (supLatch_keeps).mono rfl
  have hs2 : Keeps [.clk, .adc, .mon] s s2 :=
    ((((hs1.andThen clk_replaced).andThen clkStop_keeps).andThen lockBegin_keeps).ite (hs1.andThen State.mark_keeps)).mono rfl
  clear_value s1 s2
  split
  · exact Completes.of_keeps ((hs2.andThen diagEvent_keeps).ite (hs2.andThen diagEventT_keeps))
  · exact Completes.of_keeps Keeps.rfl

theorem execTopo_completes {x : Fin 2} {s : State} : Completes s (execTopo x s) := by
  unfold execTopo
  exact onMsg_completes (fs := [.hg]) (fun r s1 => by
      extract_lets c old
      exact (((hg_replaced (by exact id)).andThen hgRoutes_keeps).andThen relayPump_keeps).mono rfl)

theorem execBltz_completes {i : IForm} {s : State} : Completes s (execBltz i s) := by
  unfold execBltz
  exact Completes.of_keeps branchIf_keeps

theorem execRev8_completes {i : RForm} {s : State} : Completes s (execRev8 i s) := by
  unfold execRev8
  exact Completes.of_keeps alu1_keeps

theorem sentryFirst_keeps {s : State} {cause : Nat} :
    Keeps [.pwr, .hsp, .time, .int, .mic, .flt, .lsn, .drl, .swa, .que, .hg, .frw, .adc, .mon, .nvm, .free] s (sentryFirst s cause) := by
  unfold sentryFirst
  extract_lets s1 s2 old s3
  have hs1 : Keeps [.pwr, .swa, .hg, .adc] s s1 := (((firstEntry_keeps).andThen hgSentry_keeps).andThen adcSentry_keeps).mono rfl
  have hs2 : Keeps [.pwr, .hsp, .mic, .flt, .lsn, .swa, .hg, .frw, .adc, .mon] s s2 :=
    ((hs1.andThen State.mark_keeps).andThen sentryArrive_keeps).mono rfl
  have hs3 : Keeps [.pwr, .hsp, .mic, .flt, .lsn, .swa, .hg, .frw, .adc, .mon] s s3 :=
    ((((hs2.andThen pwr_replaced).andThen State.mark_keeps).andThen State.put_keeps).ite hs2).mono rfl
  clear_value s1 s2 s3
  exact (hs3.andThen wakesDeliver_keeps).mono rfl

theorem startEnter_keeps {s : State} {row : Nat} : Keeps stateParts s (startEnter s row) := by
  unfold startEnter
  extract_lets old
  exact ((((pwr_replaced).andThen wdoFollow_keeps).andThen forwardFollow_keeps).ite ((sentryFirst_keeps).ite ((firstArrive_keeps).ite
    (((sentryFirst_keeps).ite firstArrive_keeps).ite firstArrive_keeps)))).mono rfl

theorem startCheck_keeps {s : State} : Keeps stateParts s (startCheck s) := by
  unfold startCheck
  split
  · exact ((startEnter_keeps).ite Keeps.rfl).mono rfl
  · exact Keeps.rfl.mono rfl

theorem stepsGo_keeps {s : State} : Keeps stateParts s (stepsGo s) := by
  unfold stepsGo
  exact ((((zeroSwathStart_keeps).andThen zeroShortStart_keeps).ite Keeps.rfl).andThen startCheck_keeps).mono rfl

theorem stepEnd_keeps {s : State} {n : Nat} : Keeps [.pwr] s (stepEnd s n) := by
  unfold stepEnd
  split
  · extract_lets old
    exact (pwr_replaced).mono rfl
  · exact Keeps.rfl.mono rfl

theorem step10_keeps {s : State} : Keeps [.pwr] s (step10 s) := by
  unfold step10
  exact ((stepEnd_keeps).ite Keeps.rfl).mono rfl

theorem execTsuEnd_completes {g : Fin 4} {s : State} : Completes s (execTsuEnd g s) := by
  unfold execTsuEnd
  extract_lets g1 s1 old s2
  have hs1 : Keeps [.mic, .flt] s s1 := (Keeps.forEach (ps := [.mic, .flt]) (fun _ _ => (settleEnd_keeps).mono rfl)).mono rfl
  have hs2 : Keeps [.mic, .flt] s s2 := by
    unfold s2
    split
    · exact (((hs1.andThen (mic_replaced (by simp +contextual +zetaDelta [MicOk, setNth]))).andThen groupDown_keeps).ite hs1).mono rfl
    · exact hs1.mono rfl
  clear_value s1 s2
  split
  · exact Completes.of_keeps Keeps.rfl
  · exact Completes.of_keeps ((hs2.andThen step10_keeps).andThen stepsGo_keeps)

theorem bufWrite_keeps {s : State} {base : Nat} {bs : List Nat} : Keeps [] s (bufWrite s base bs) := by
  unfold bufWrite
  exact (Keeps.forEach (ps := []) (fun _ _ => (State.wr_keeps).mono rfl)).mono rfl

theorem doExport_keeps {s : State} {slot : Nat} : Keeps [] s (doExport s slot).1 := by
  unfold doExport
  extract_lets r n o c
  split
  · exact Keeps.rfl.mono rfl
  · rename_i e
    split
    · exact ((State.put_keeps).andThen bufWrite_keeps).mono rfl
    · split
      · exact Keeps.rfl.mono rfl
      · exact ((State.put_keeps).andThen bufWrite_keeps).mono rfl

theorem execVmax_completes {i : RForm} {func : BitVec 8} {s : State} : Completes s (execVmax i func s) := by
  unfold execVmax
  exact Completes.of_keeps lanes2_keeps

theorem rowFix_keeps {s : State} {r : Nat} : Keeps [.swa, .nvm] s (rowFix s r).1 := by
  unfold rowFix
  extract_lets old old1 s1
  have hs1 : Keeps [.swa, .nvm] s s1 :=
    (((swa_replaced (x := { s.swa with repaired := s.nvm.rows ++ [r] }) (by exact id)).andThen (nvm_replaced (by exact id))).andThen anchorWrite_keeps).mono rfl
  clear_value s1
  split
  · exact Keeps.rfl.mono rfl
  · rename_i e
    split
    · exact Keeps.rfl.mono rfl
    · exact (hs1.andThen State.put_keeps).mono rfl

theorem phaseBFix_keeps {s : State} {rows : List Nat} {cores : Nat} {sectors : List Nat} :
    Keeps [.hsp, .swa, .frw, .nvm] s (phaseBFix s rows cores sectors).1 := by
  unfold phaseBFix
  extract_lets r s1 s2
  have hr : Keeps [.swa, .nvm] s r.1 := (Keeps.foldl_fst (ps := [.swa, .nvm]) (fun s b a => by
      extract_lets x
      have hx : Keeps [.swa, .nvm] s x.1 := (rowFix_keeps).mono rfl
      clear_value x
      exact hx.mono rfl)).mono rfl
  have hs1 : Keeps [.hsp, .swa, .frw, .nvm] s s1 :=
    (hr.andThen (Keeps.forEach (ps := [.hsp, .frw, .nvm]) (fun _ _ => (Keeps.rfl.ite ((coreRetired_keeps).andThen retireMap_keeps)).mono rfl))).mono rfl
  have hs2 : Keeps [.hsp, .swa, .frw, .nvm] s s2 :=
    (hs1.andThen (Keeps.forEach (ps := [.nvm]) (fun _ _ => (sectorRetire_keeps).mono rfl))).mono rfl
  clear_value r s1 s2
  exact (hs2.ite (hs2.andThen State.mark_keeps)).mono rfl

theorem initEnds_keeps {s : State} {c : Nat} : Keeps [.frw] s (initEnds s c) := by
  unfold initEnds
  extract_lets old
  exact ((State.setCore_keeps).andThen State.mark_keeps).mono rfl

theorem taskEnd_keeps {s : State} {c : Nat} : Keeps [.hsp, .frw, .free] s (taskEnd s c) := by
  unfold taskEnd
  extract_lets k old s1 s2
  have hs1 : Keeps [.frw] s s1 := (State.setCore_keeps).mono rfl
  have hs2 : Keeps [.frw] s s2 := (((hs1.andThen initEnds_keeps).andThen dispatch_keeps).ite (hs1.andThen jobEnd_keeps)).mono rfl
  clear_value s1 s2
  exact (hs2.andThen boundary_keeps).mono rfl

theorem pmerrClear_keeps {s : State} : Keeps [.mon] s (pmerrClear s) := by
  unfold pmerrClear
  exact (((State.mark_keeps).andThen pmerrReads_keeps).ite Keeps.rfl).mono rfl

theorem execPowerCycleOffEnd_completes {g : Fin 4} {s : State} : Completes s (execPowerCycleOffEnd g s) := by
  unfold execPowerCycleOffEnd
  extract_lets g1 s1
  have hs1 : Keeps [] s s1 := (State.putBit_keeps).mono rfl
  clear_value s1
  split
  · rename_i e
    split
    · exact Completes.of_keeps (((hs1.andThen (Keeps.forEach (ps := [.flt])
      (fun _ _ => (latchDrop_keeps).mono rfl))).andThen groupUp_keeps).andThen State.event_keeps)
    · exact Completes.of_keeps (hs1.andThen State.event_keeps)
  · exact Completes.of_keeps Keeps.rfl

theorem sectorErase_keeps {s : State} {n : Nat} : Keeps [.nvm] s (sectorErase s n) := by
  unfold sectorErase
  extract_lets x s1 old s2
  have hs1 : Keeps [.nvm] s s1 := (State.setSector_keeps).mono rfl
  have hs2 : Keeps [.nvm] s s2 := (hs1.andThen (nvm_replaced (by exact id))).mono rfl
  clear_value s1 s2
  exact ((hs2.andThen sectorRetire_keeps).ite hs2).mono rfl

theorem imageErase_keeps {s : State} {k : Nat} : Keeps [.nvm] s (imageErase s k) := by
  unfold imageErase
  exact (((slotInvalid_keeps).andThen (State.setSlotMem_keeps fun _ => mem_empty_wf)).andThen
    (Keeps.forEach (ps := [.nvm]) fun _ _ => sectorErase_keeps)).mono rfl

theorem pageWrite_keeps {s : State} {k p : Nat} : Keeps [.nvm] s (pageWrite s k p) := by
  unfold pageWrite
  exact (((slotInvalid_keeps).andThen (State.setSlotMem_keeps fun h => memWrite_wf _ _ _ (nth_wf h.2))).andThen
    programmed_keeps).mono rfl

theorem slotVerify_keeps {s : State} {kind k : Nat} : Keeps [.nvm] s (slotVerify s kind k).1 := by
  unfold slotVerify
  split
  · extract_lets old
    exact ((nvm_replaced (by exact id)).andThen State.put_keeps).mono rfl
  · exact (slotInvalid_keeps).mono rfl

theorem moveLive_keeps {s t : State} {n : Nat} (e : moveLive s n = some t) : Keeps [.nvm] s t := by
  unfold moveLive at e
  split at e
  · rename_i u eu
    cases e
    exact (((nvm_replaced (by exact id)).andThen (fragsPut_keeps eu)).andThen State.setSector_keeps).mono rfl
  · simp at e

theorem recWorn_keeps {s : State} {worn : Option (Fin 512)} {write : State → State × Bool} {fs : List Part}
    (k : ∀ s, Keeps fs s (write s).1) : Keeps (fs ++ ([.nvm] ++ fs)) s (recWorn s worn write).1 := by
  unfold recWorn
  dsimp only
  split
  · exact (k s).left
  · split
    · split
      · refine (k s).andThen (Keeps.andThen (ps := [.nvm]) ?_ (k _))
        refine Keeps.mono (Keeps.andThen ?_ sectorRetire_keeps) (ps := [.nvm] ++ [.nvm]) rfl
        exact ((State.setSector_keeps).getD fun _ e => (State.setSector_keeps).andThen (moveLive_keeps e)).mono rfl
      · exact (k s).left
    · exact (k s).left

theorem keyInstall_keeps {s : State} {kind : Nat} : Keeps [.nvm] s (keyInstall s kind).1 := by
  unfold keyInstall
  extract_lets new sig old good s1 old1
  have hs1 : Keeps [] s s1 := bufZero_keeps
  clear_value s1
  split
  · exact ((hs1.andThen (nvm_replaced fun h => by split <;> exact h)).andThen anchorWrite_keeps).mono rfl
  · exact hs1.mono rfl

theorem linkInstall_keeps {s : State} : Keeps [.nvm] s (linkInstall s) := by
  unfold linkInstall
  extract_lets k old old1
  have hold : Keeps [] s old := bufZero_keeps
  have nvm : s.nvm = old.nvm := (hold.nvm rfl).symm
  exact ((hold.andThen (nvm_replaced fun h => by rw [← nvm] at h; exact h)).andThen anchorWrite_keeps).mono rfl

theorem recRead_keeps {s : State} : Keeps [] s (recRead s) := by
  unfold recRead
  extract_lets bs
  exact ((bufWrite_keeps).andThen State.put_keeps).mono rfl

theorem nvmEffect_keeps {s : State} {cmd : Nat} {worn : Option (Fin 512)} : Keeps [.nvm] s (nvmEffect s cmd worn).1 := by
  unfold nvmEffect
  extract_lets k bad retire s1 s2
  have hretire : ∀ s3, Keeps [.nvm] s3 (retire s3) := fun s3 => by
      unfold retire
      split
      · exact ((slotSectorGone_keeps).andThen sectorRetire_keeps).mono rfl
      · exact Keeps.rfl.mono rfl
  have hs1 : Keeps [.nvm] s s1 := (imageErase_keeps).mono rfl
  have hs2 : Keeps [.nvm] s s2 := (pageWrite_keeps).mono rfl
  clear_value s1 s2
  split
  · rename_i e
    split
    · exact (hs1.andThen (hretire _)).mono rfl
    · exact hs1.mono rfl
  · rename_i e
    split
    · split
      · exact (hs2.andThen (hretire _)).mono rfl
      · exact hs2.mono rfl
    · split
      · exact (slotVerify_keeps).mono rfl
      · split
        · exact (recWorn_keeps (fs := [.nvm]) (fun _ => (bootName_keeps).mono rfl)).mono rfl
        · split
          · exact (recWorn_keeps (fs := [.nvm]) (fun _ => (bootSave_keeps).mono rfl)).mono rfl
          · split
            · exact (keyInstall_keeps).mono rfl
            · split
              · exact (linkInstall_keeps).mono rfl
              · split
                · exact (recWorn_keeps (fs := [.nvm]) (fun _ => (recPut_keeps).mono rfl)).mono rfl
                · split
                  · exact (recWorn_keeps (fs := [.nvm]) (fun _ => (recPut_keeps).mono rfl)).mono rfl
                  · exact (recRead_keeps).mono rfl

theorem markedFrame_keeps {s : State} {n t : Nat} : Keeps [.drl] s (markedFrame s n t).1 := by
  unfold markedFrame
  extract_lets s1 old s2
  have hs1 : Keeps [] s s1 := (Keeps.rfl.ite ((State.mark_keeps).andThen State.incSat_keeps)).mono rfl
  have hs2 : Keeps [.drl] s s2 := (hs1.andThen State.setDrlIn_keeps).mono rfl
  clear_value s1 s2
  exact (hs2.andThen (Keeps.foldl_fst (ps := [.drl]) (fun s b a => by
      extract_lets p net s3 cls
      have hs3 : Keeps [.drl] s s3 := (State.setPairSt_keeps).mono rfl
      clear_value s3
      exact hs3.mono rfl))).mono rfl

theorem features_keeps {s : State} {xs : List ℤ} : Keeps [.free] s (features s xs).2 := by
  unfold features
  exact (Keeps.foldl_snd (ps := [.free]) (fun s b a => by
      extract_lets f
      have hf : Keeps [.free] s f.2 := (State.fresh_keeps).mono rfl
      clear_value f
      split
      · exact Keeps.rfl.mono rfl
      · exact hf.mono rfl)).mono rfl

theorem templateStep_keeps {s : State} {h : HeldSlot} {n u t : Nat} {v : List Nat} :
    Keeps [.drl, .free] s (templateStep s h n u t v).1 := by
  unfold templateStep
  extract_lets p row pass f
  have hf : Keeps [.free] s f.2 := (State.fresh_keeps).mono rfl
  clear_value f
  split
  · exact (State.setPairSt_keeps).mono rfl
  · rename_i e
    split
    · exact (slotJudge_keeps).mono rfl
    · exact (hf.andThen slotJudge_keeps).mono rfl

theorem slotsStep_keeps {s : State} {n t : Nat} {v : List Nat} : Keeps [.drl, .free] s (slotsStep s n t v).1 := by
  unfold slotsStep
  extract_lets u scores
  split
  · exact (Keeps.foldl_fst (ps := [.drl, .free]) (fun s b a => by
      extract_lets r
      have hr : Keeps [.drl, .free] s r.1 := (templateStep_keeps).mono rfl
      clear_value r
      exact hr.mono rfl)).mono rfl
  · exact (Keeps.foldl_fst (ps := [.drl, .free]) (fun s b a => by
      extract_lets s1 r
      have hs1 : Keeps [] s s1 := Keeps.rfl.mono rfl
      have hr : Keeps [.drl, .free] s r.1 := (hs1.andThen templateStep_keeps).mono rfl
      clear_value s1 r
      split
      · exact Keeps.rfl.mono rfl
      · split
        · exact hr.mono rfl
        · split
          · split
            · extract_lets r1
              have hr1 : Keeps [.drl] s r1.1 := (hs1.andThen netStep_keeps).mono rfl
              clear_value r1
              exact hr1.mono rfl
            · exact Keeps.rfl.mono rfl
          · exact Keeps.rfl.mono rfl)).mono rfl

theorem inputFrame_keeps {s : State} {n : Nat} : Keeps [.drl, .free] s (inputFrame s n).1 := by
  unfold inputFrame
  extract_lets i fi f xs i1 v s1 s2
  have hv : Keeps [.free] s v.2 := (features_keeps).mono rfl
  have hs1 : Keeps [.drl, .free] s s1 := (hv.andThen State.setDrlIn_keeps).mono rfl
  have hs2 : Keeps [.drl, .free] s s2 := (hs1.ite (hs1.andThen State.mark_keeps)).mono rfl
  clear_value v s1 s2
  split
  · exact ((State.setDrlIn_keeps).andThen markedFrame_keeps).mono rfl
  · exact (hs2.andThen slotsStep_keeps).mono rfl

theorem coreSubmit_keeps {s : State} {c : Nat} : Keeps [.hsp] s (coreSubmit s c).1 := by
  unfold coreSubmit
  extract_lets o ws n s1 s2 old
  have hs1 : Keeps [] s s1 := (((State.put_keeps).andThen State.put_keeps).andThen State.put_keeps).mono rfl
  have hs2 : Keeps [.hsp] s s2 := ((hs1.andThen State.put_keeps).andThen stagingDrop_keeps).mono rfl
  clear_value s1 s2
  split
  · exact Keeps.rfl.mono rfl
  · rename_i e
    split
    · exact (hs1.andThen State.put_keeps).mono rfl
    · exact (hs2.andThen (hsp_replaced (by exact id))).mono rfl

theorem coreTarget_keeps {s : State} : Keeps [] s (coreTarget s) := by
  unfold coreTarget
  exact (State.put_keeps).mono rfl

theorem transDone_keeps {s : State} {w : TransWait} : Keeps [.pwr] s (transDone s w) := by
  unfold transDone
  split
  · extract_lets old
    exact (pwr_replaced).mono rfl
  · exact Keeps.rfl.mono rfl

theorem execMultiplierLock_completes {s : State} : Completes s (execMultiplierLock s) := by
  unfold execMultiplierLock
  extract_lets s1 s2 s3 old s4 s5
  have hs1 : Keeps [] s s1 := (((State.mark_keeps).andThen State.mark_keeps).andThen coreTarget_keeps).mono rfl
  have hs2 : Keeps [] s s2 := ((State.mark_keeps).andThen coreTarget_keeps).mono rfl
  have hs3 : Keeps [.pwr] s s3 := (hs2.andThen transDone_keeps).mono rfl
  have hs4 : Keeps [.clk, .pwr] s s4 := ((hs3.andThen clk_replaced).andThen State.put_keeps).mono rfl
  have hs5 : Keeps [.pwr] s s5 := (((State.mark_keeps).andThen coreTarget_keeps).andThen transDone_keeps).mono rfl
  clear_value s1 s2 s3 s4 s5
  split
  · exact Completes.of_keeps Keeps.rfl
  · rename_i e
    split
    · exact Completes.of_keeps ((hs1.andThen stepEnd_keeps).andThen adcKicks_keeps)
    · split
      · split
        · exact Completes.of_keeps (hs4.andThen (Keeps.forEach (ps := [.swa, .hg]) (fun _ _ => (hgRetrain_keeps).mono rfl)))
        · exact Completes.of_keeps (hs3.andThen (clkResume_keeps (fs := stateParts) (fun _ => (serviceArrive_keeps).mono rfl)))
      · split
        · exact Completes.of_keeps ((hs5.ite (hs5.andThen selfStart_keeps)).andThen adcKicks_keeps)
        · exact Completes.of_keeps Keeps.rfl

theorem execAmoAnd_completes {i : RForm} {s : State} : Completes s (execAmoAnd i s) := by
  unfold execAmoAnd
  exact Completes.of_keeps amo_keeps

theorem scareLoad_keeps {s : State} {img : Image} {slot : Nat} : Keeps [.frw] s (scareLoad s img slot) := by
  unfold scareLoad
  extract_lets s1 s2
  have hs1 : Keeps [.frw] s s1 := (Keeps.forEach (ps := [.frw]) (fun _ _ => (progWrite_keeps).mono rfl)).mono rfl
  have hs2 : Keeps [.frw] s s2 := ((hs1.andThen State.put_keeps).andThen State.put_keeps).mono rfl
  clear_value s1 s2
  exact (hs2.andThen (Keeps.forEach (ps := []) (fun _ _ => (State.put_keeps).mono rfl))).mono rfl

theorem furrowLoad_keeps {s : State} {img : Image} {slot : Nat} : Keeps [.frw] s (furrowLoad s img slot) := by
  unfold furrowLoad
  extract_lets s1 s2
  have hs1 : Keeps [.frw] s s1 := (Keeps.forEach (ps := [.frw]) (fun _ _ => (Keeps.rfl.ite sectionLoad_keeps).mono rfl)).mono rfl
  have hs2 : Keeps [.frw] s s2 :=
    (hs1.andThen (Keeps.forEach (ps := []) (fun _ _ => (Keeps.rfl.ite ((State.mark_keeps).andThen State.put_keeps)).mono rfl))).mono rfl
  clear_value s1 s2
  exact ((hs2.andThen State.put_keeps).andThen State.put_keeps).mono rfl

theorem imagesLoad_keeps {s t : State} (e : imagesLoad s = some t) : Keeps [.hsp, .frw] s t := by
  unfold imagesLoad at e
  split at e
  · cases e
    exact ((((furrowLoad_keeps).andThen scareLoad_keeps).andThen
      (Keeps.forEach (ps := [.frw]) fun s c => (Keeps.rfl.ite setCoreState_keeps).mono rfl)).andThen (frw_replaced (by exact id))).mono rfl
  · simp at e

theorem imagesOk_keeps {s : State} : Keeps [] s (imagesOk s) := by
  unfold imagesOk
  split
  · exact ((State.mark_keeps).ite Keeps.rfl).mono rfl
  · exact Keeps.rfl.mono rfl

theorem altNote_keeps {s : State} {kind slot : Nat} : Keeps [] s (altNote s kind slot) := by
  unfold altNote
  exact (Keeps.rfl.ite State.mark_keeps).mono rfl

theorem execImageLoadEnd_completes {s : State} : Completes s (execImageLoadEnd s) := by
  unfold execImageLoadEnd
  extract_lets s1 s2 old s3
  have hs1 : Keeps [.pwr, .drl, .saf] s s1 := ((transDone_keeps).andThen storeLoad_keeps).mono rfl
  have hs2 : Keeps [.pwr, .drl, .saf] s s2 := (hs1.andThen failRecord_keeps).mono rfl
  have hs3 : Keeps [.pwr, .drl, .saf] s s3 := (hs2.andThen pwr_replaced).mono rfl
  clear_value s1 s2 s3
  split
  · exact Completes.of_keeps Keeps.rfl
  · rename_i e
    split
    · split
      · rename_i x s4 e2
        have hs4 : Keeps [.hsp, .frw] s s4 := (imagesLoad_keeps e2).mono rfl
        exact Completes.of_keeps ((((((hs4.andThen altNote_keeps).andThen altNote_keeps).andThen storeLoad_keeps).andThen stepEnd_keeps).andThen imagesOk_keeps).andThen stepsGo_keeps)
      · exact Completes.of_keeps (((startFail_keeps).andThen stepEnd_keeps).andThen stepsGo_keeps)
    · split
      · split
        · rename_i x s4 e3
          have hs4 : Keeps [.pwr, .hsp, .drl, .frw, .saf] s s4 := (hs1.andThen (imagesLoad_keeps e3)).mono rfl
          exact Completes.of_keeps hs4
        · exact Completes.of_keeps (hs3.andThen State.put_keeps)
      · exact Completes.of_keeps Keeps.rfl

theorem cicFeed_keeps {s : State} {p : Nat} {bs : List Bool} : Keeps [.flt] s (cicFeed s p bs) := by
  unfold cicFeed
  extract_lets old
  exact ((State.setCic_keeps).ite State.setCic_keeps).mono rfl

theorem wireFeed_keeps {s : State} {k : Nat} {fs : List (Bool × Bool)} : Keeps [.flt] s (wireFeed s k fs) := by
  unfold wireFeed
  exact ((cicFeed_keeps).andThen cicFeed_keeps).mono rfl

theorem feedCaptured_keeps {s : State} {l : Captured} : Keeps [.flt] s (feedCaptured s l) := by
  unfold feedCaptured
  exact (Keeps.forEach (ps := [.flt]) (fun _ _ => (wireFeed_keeps).mono rfl)).mono rfl

theorem shadowCompare_keeps {s : State} {c : Nat} {differs : Bool} :
    Keeps [.pwr, .time, .lsn, .drl, .swa, .saf] s (shadowCompare s c differs) := by
  unfold shadowCompare
  exact ((diagEvent_keeps).ite Keeps.rfl).mono rfl

theorem glanceForm_keeps {s : State} {n off : Nat} : Keeps [.flt, .lsn, .drl, .que, .hg] s (glanceForm s n off) := by
  unfold glanceForm
  extract_lets old c p g u acc r uns w s1
  have hs1 : Keeps [.flt] s s1 := (State.setChain_keeps).mono rfl
  clear_value s1
  exact (hs1.andThen deliver_keeps).mono rfl

theorem glanceOutput_keeps {s : State} {n : Nat} : Keeps [.flt, .lsn, .drl, .que, .hg] s (glanceOutput s n) := by
  unfold glanceOutput
  split
  · exact (glanceForm_keeps).mono rfl
  · exact Keeps.rfl.mono rfl

theorem execGlanceOutput_completes {n : Fin 32} {bs : Captured} {differs : Bool} {s : State} : Completes s (execGlanceOutput n bs differs s) := by
  unfold execGlanceOutput
  extract_lets n1 s1
  have hs1 : Keeps [.flt] s s1 := (feedCaptured_keeps).mono rfl
  clear_value s1
  split
  · exact Completes.of_keeps (hs1.ite ((hs1.andThen glanceOutput_keeps).andThen shadowCompare_keeps))
  · exact Completes.of_keeps Keeps.rfl

theorem execStatusTimeout_completes {x : Fin 2} {s : State} : Completes s (execStatusTimeout x s) := by
  unfold execStatusTimeout
  exact Completes.of_keeps ((hgDown_keeps).ite Keeps.rfl)

theorem execAckChallenge_completes {s : State} : Completes s (execAckChallenge s) := by
  unfold execAckChallenge
  extract_lets old s1 e
  have hs1 : Keeps [.saf] s s1 := (saf_replaced (by exact id)).mono rfl
  clear_value s1
  split
  · split
    · split
      · rename_i x v s2 e3
        have hs2 : Keeps [.saf, .free] s s2 := (Keeps.of_snd (hs1.andThen State.fresh_keeps) e3).mono rfl
        extract_lets old1 s3
        have hs3 : Keeps [.saf, .free] s s3 := (hs2.andThen (saf_replaced (by exact id))).mono rfl
        clear_value s3
        exact Completes.of_keeps (((hs3.andThen State.put_keeps).andThen State.put_keeps).andThen State.event_keeps)
    · exact Completes.of_keeps (((hs1.andThen State.put_keeps).andThen State.put_keeps).andThen State.event_keeps)
  · exact Completes.of_keeps Keeps.rfl

theorem execLdv_completes {i : IForm} {s : State} : Completes s (execLdv i s) := by
  unfold execLdv
  exact Completes.of_keeps loadImm_keeps

theorem execEcho_completes {x : Fin 2} {i : BitVec 4} {crt : Nat} {s : State} : Completes s (execEcho x i crt s) := by
  unfold execEcho
  extract_lets p
  exact Completes.of_keeps ((State.setHgp_keeps).ite Keeps.rfl)

theorem causeShown_keeps {s : State} {c code : Nat} : Keeps [] s (causeShown s c code) := by
  unfold causeShown
  exact ((State.put_keeps).ite Keeps.rfl).mono rfl

theorem cycTickS_keeps {s : State} : Keeps [.frw] s (cycTickS s) := by
  unfold cycTickS
  extract_lets one sent old
  exact (frw_replaced (by exact id)).mono rfl

theorem statusTake_keeps {s : State} {x : Nat} {pl : List Nat} : Keeps [.swa, .hg] s (statusTake s x pl) := by
  unfold statusTake
  extract_lets p freed ack nak p1 p2 p3
  exact ((hgProtoReset_keeps).ite ((State.setHgp_keeps).andThen lreqTake_keeps)).mono rfl

theorem execAbs_completes {i : RForm} {s : State} : Completes s (execAbs i s) := by
  unfold execAbs
  exact Completes.of_keeps aluSat_keeps

theorem responsePut_keeps {s : State} {ws : List Word} : Keeps [] s (responsePut s ws) := by
  unfold responsePut
  exact (Keeps.forEach (ps := []) (fun _ _ => (State.wr_keeps).mono rfl)).mono rfl

theorem execRegRsp_completes {x : Fin 2} {s : State} : Completes s (execRegRsp x s) := by
  unfold execRegRsp
  exact onMsg_completes (fs := [.hsp]) (fun r s1 => by
      extract_lets seg b buf s2 old
      have hs2 : Keeps [] s1 s2 := (responsePut_keeps).mono rfl
      clear_value s2
      split
      · exact (Keeps.rfl.ite ((((hs2.andThen State.put_keeps).andThen State.put_keeps).andThen tunEnd_keeps).ite (hsp_replaced (by exact id)))).mono rfl
      · exact Keeps.rfl.mono rfl)

theorem execVwide_completes {i : RForm} {func : BitVec 8} {s : State} : Completes s (execVwide i func s) := by
  unfold execVwide
  extract_lets g legal
  exact Completes.of_keeps vecTo_keeps

theorem pmbFail_keeps {s : State} {sent : Bool} : Keeps [.mon] s (pmbFail s sent) := by
  unfold pmbFail
  extract_lets old s1
  have hs1 : Keeps [.mon] s s1 := (mon_replaced (by simp +contextual +zetaDelta [MonOk, setNth])).mono rfl
  clear_value s1
  exact ((((hs1.andThen State.mark_keeps).andThen State.mark_keeps).andThen State.event_keeps).andThen monFollow_keeps).mono rfl

theorem execPmbusTransactionEnd_completes {res : Fin 4} {w : BitVec 16} {s : State} : Completes s (execPmbusTransactionEnd res w s) := by
  unfold execPmbusTransactionEnd
  split
  · exact Completes.of_keeps Keeps.rfl
  · rename_i x t rest e
    extract_lets l old old1 done s1 old2 f
    have hdone : Keeps [.clk, .mon] s done := (((clk_replaced).andThen (mon_replaced (by exact id))).andThen planHoldTry_keeps).mono rfl
    have hs1 : Keeps [.clk, .mon] s s1 := (hdone.andThen State.put_keeps).mono rfl
    clear_value done s1
    split
    · split
      · split
        · exact Completes.of_keeps (hs1.andThen pmbFail_keeps)
        · exact Completes.of_keeps ((hs1.andThen (mon_replaced (by simp +contextual +zetaDelta [MonOk, setNth]))).andThen monFollow_keeps)
      · exact Completes.of_keeps hdone
    · split
      · exact Completes.of_keeps (mon_replaced (by exact id))
      · exact Completes.of_keeps ((hdone.andThen State.incSat_keeps).andThen pmbFail_keeps)

theorem seedingEnd_keeps {s : State} {u : Nat} : Keeps [] s (seedingEnd s u) := by
  unfold seedingEnd
  extract_lets s1
  have hs1 : Keeps [] s s1 := (State.mark_keeps).mono rfl
  clear_value s1
  exact (((hs1.andThen State.mark_keeps).andThen State.event_keeps).ite hs1).mono rfl

theorem execSeedingEnd_completes {u : Fin 2} {s : State} : Completes s (execSeedingEnd u s) := by
  unfold execSeedingEnd
  exact Completes.of_keeps ((seedingEnd_keeps).ite Keeps.rfl)

theorem execSentryInChange_completes {p : Fin 32} {s : State} : Completes s (execSentryInChange p s) := by
  unfold execSentryInChange
  exact Completes.of_keeps ((sentryChange_keeps).ite Keeps.rfl)

theorem execEnrolmentBuild_completes {s : State} : Completes s (execEnrolmentBuild s) := by
  unfold execEnrolmentBuild
  split
  · rename_i x e e1
    extract_lets tmpl scores m fc fb fo fp fr fi fs fd s1 h r s2 old s3
    have hfc : Keeps [.free] s fc.2 := (State.fresh_keeps).mono rfl
    have hfb : Keeps [.free] s fb.2 := (hfc.andThen State.fresh_keeps).mono rfl
    have hfo : Keeps [.free] s fo.2 := (hfb.andThen State.fresh_keeps).mono rfl
    have hfp : Keeps [.free] s fp.2 := (hfo.andThen State.fresh_keeps).mono rfl
    have hfr : Keeps [.free] s fr.2 := (hfp.andThen State.fresh_keeps).mono rfl
    have hfi : Keeps [.free] s fi.2 := (hfr.andThen State.fresh_keeps).mono rfl
    have hfs : Keeps [.free] s fs.2 := (hfi.andThen State.fresh_keeps).mono rfl
    have hfd : Keeps [.free] s fd.2 := (hfs.andThen State.fresh_keeps).mono rfl
    have hs1 : Keeps [.free] s s1 := hfd.mono rfl
    have hs2 : Keeps [.free] s s2 := (hs1.andThen bufWrite_keeps).mono rfl
    have hs3 : Keeps [.drl, .free] s s3 := (hs2.andThen (drl_replaced (by exact id))).mono rfl
    clear_value fc fb fo fp fr fi fs fd s1 s2 s3
    split
    · exact Completes.of_keeps ((((hs3.andThen State.put_keeps).andThen State.put_keeps).andThen State.put_keeps).andThen State.event_keeps)
    · exact Completes.of_keeps Keeps.rfl
  · exact Completes.of_keeps Keeps.rfl

theorem execStatusWordPoll_completes {sent : Bool} {s : State} : Completes s (execStatusWordPoll sent s) := by
  unfold execStatusWordPoll
  exact Completes.of_keeps pmbQueue_keeps

theorem sentryLoad_keeps {s : State} {img : Image} {slot : Nat} : Keeps [.frw] s (sentryLoad s img slot) := by
  unfold sentryLoad
  extract_lets s1
  have hs1 : Keeps [.frw] s s1 := (Keeps.forEach (ps := [.frw]) (fun s2 e => by
      extract_lets old
      exact (sectionLoad_keeps).mono rfl)).mono rfl
  clear_value s1
  exact ((hs1.andThen State.mark_keeps).andThen State.put_keeps).mono rfl

theorem execAndn_completes {i : RForm} {s : State} : Completes s (execAndn i s) := by
  unfold execAndn
  exact Completes.of_keeps alu_keeps

theorem startRestart_keeps {s : State} : Keeps [.clk, .pwr, .mic, .swa, .hg] s (startRestart s) := by
  unfold startRestart
  exact ((startBegin_keeps).ite Keeps.rfl).mono rfl

theorem sentryHear_keeps {s : State} {now : Nat} : Keeps [.drl] s (sentryHear s now) := by
  unfold sentryHear
  extract_lets old
  exact ((State.setDrlIn_keeps).ite Keeps.rfl).mono rfl

theorem shortFrame_keeps {s : State} {word : Nat} : Keeps [.swa] s (shortFrame s word) := by
  unfold shortFrame
  extract_lets s1 old
  have hs1 : Keeps [.swa] s s1 := ((shortStart_keeps).ite Keeps.rfl).mono rfl
  clear_value s1
  split
  · exact (hs1.andThen State.setPair_keeps).mono rfl
  · rename_i b e
    extract_lets mem b' done mem1 s2 s3
    have wf : SwaOk s1.swa → Memory.wf mem1 = true := by
      intro h
      have frame : Memory.wf mem = true := memWrite_wf _ _ _ h.2.2
      unfold mem1
      split
      · exact memWrite_wf _ _ _ frame
      · exact frame
    have hs2 : Keeps [.swa] s s2 := (hs1.andThen (swa_replaced (x := s2.swa) fun h => ⟨h.1, h.2.1, wf h⟩)).mono rfl
    exact ((hs2.andThen State.bump64_keeps).andThen State.setPair_keeps).mono rfl

theorem sentryOutput_keeps {s : State} : Keeps [.flt, .lsn, .drl, .swa, .que, .hg] s (sentryOutput s) := by
  unfold sentryOutput
  extract_lets d uns w old s1 s2
  have hs1 : Keeps [.flt] s s1 := (flt_replaced (by exact id)).mono rfl
  have hs2 : Keeps [.flt, .lsn, .drl, .que, .hg] s s2 := (hs1.andThen deliver_keeps).mono rfl
  clear_value s1 s2
  exact ((hs2.andThen shortFrame_keeps).ite hs2).mono rfl

theorem execSentryDecimatorOutput_completes {bs : List Bool} {differs : Bool} {s : State} : Completes s (execSentryDecimatorOutput bs differs s) := by
  unfold execSentryDecimatorOutput
  extract_lets now s1
  have hs1 : Keeps [.flt] s s1 := ((cicFeed_keeps).andThen sentryFeed_keeps).mono rfl
  clear_value s1
  split
  · exact Completes.of_keeps ((((hs1.andThen sentryOutput_keeps).andThen sentryHear_keeps).andThen shadowCompare_keeps).ite hs1)
  · exact Completes.of_keeps Keeps.rfl

theorem execCompute_completes {x : Fin 2} {e : Fin 16} {s : State} : Completes s (execCompute x e s) := by
  unfold execCompute
  exact Completes.of_keeps sysWrite_keeps

theorem execHalt_completes {func : BitVec 8} {i : RForm} {s : State} : Completes s (execHalt func i s) := by
  unfold execHalt
  extract_lets c
  exact Completes.of_keeps (issueX_keeps (fs := stopParts) (fun s1 => by
      extract_lets s2
      have hs2 : Keeps [.frw] s1 s2 := (drainAll_keeps).mono rfl
      clear_value s2
      exact (((hs2.andThen coreHalt_keeps).andThen State.mark_keeps).ite (((hs2.andThen coreHalt_keeps).andThen State.mark_keeps).ite
        (hs2.andThen exception_keeps))).mono rfl))

theorem execSwapReq_completes {s : State} : Completes s (execSwapReq s) := by
  unfold execSwapReq
  exact Completes.of_keeps swapStart_keeps

theorem execXori_completes {i : IForm} {s : State} : Completes s (execXori i s) := by
  unfold execXori
  exact Completes.of_keeps aluImm_keeps

theorem candidate_keeps {s : State} {ws : List (Nat × Word)} : Keeps [.clk] s (candidate s ws) := by
  unfold candidate
  extract_lets t old
  have ht : Keeps [] s t := (storeWords_keeps).mono rfl
  clear_value t
  split
  · exact ((ht.andThen clk_replaced).ite ht).mono rfl
  · exact ht.mono rfl

theorem acceptCommit_keeps {c : Commit} {s : State} : Keeps unitParts s (acceptCommit c s) := by
  unfold acceptCommit
  split
  · exact ((State.put_keeps).andThen admittedAs_keeps).mono rfl
  · extract_lets old
    exact ((nvm_replaced (by exact id)).andThen admittedAs_keeps).mono rfl
  · exact ((applyNow_keeps).andThen admitted_keeps).mono rfl

theorem execSeedVerifyDone_completes {k : Fin 64} {s : State} : Completes s (execSeedVerifyDone k s) := by
  unfold execSeedVerifyDone
  extract_lets k1 s1 old s2
  have hs1 : Keeps [] s s1 := (State.put_keeps).mono rfl
  have hs2 : Keeps [.saf] s s2 := ((hs1.andThen (saf_replaced (by exact id))).ite hs1).mono rfl
  clear_value s1 s2
  split
  · rename_i e
    split
    · exact Completes.of_keeps (hs2.andThen netFollow_keeps)
    · exact Completes.of_keeps (((State.put_keeps).andThen State.mark_keeps).andThen netFollow_keeps)
  · exact Completes.of_keeps Keeps.rfl

theorem execHqPop_completes {h k : Nat} {s : State} : Completes s (execHqPop h k s) := by
  unfold execHqPop
  exact Completes.of_keeps ((hqPop_keeps).ite Keeps.rfl)

theorem execVnarr_completes {i : RForm} {func : BitVec 8} {s : State} : Completes s (execVnarr i func s) := by
  unfold execVnarr
  exact Completes.of_keeps vecTo_keeps

theorem checkBegin_keeps {s : State} : Keeps [.clk, .adc, .mon] s (checkBegin s) := by
  unfold checkBegin
  extract_lets old s1
  have hs1 : Keeps [.clk] s s1 := (clk_replaced).mono rfl
  clear_value s1
  exact (((hs1.andThen clkStop_keeps).andThen State.put_keeps).ite Keeps.rfl).mono rfl

theorem execHsckReturn_completes {s : State} : Completes s (execHsckReturn s) := by
  unfold execHsckReturn
  extract_lets long old s1 s2 s3 old1 s4
  have hs1 : Keeps [.clk] s s1 := (clk_replaced).mono rfl
  have hs2 : Keeps [.clk, .swa] s s2 :=
    (((hs1.andThen shortGap_keeps).andThen zeroSwathStart_keeps).ite (hs1.andThen shortGap_keeps)).mono rfl
  have hs3 : Keeps [.clk, .swa] s s3 := (hs2.andThen State.bump64_keeps).mono rfl
  have hs4 : Keeps [.clk, .swa] s s4 := ((hs1.andThen zeroSwathStart_keeps).ite hs1).mono rfl
  clear_value s1 s2 s3 s4
  split
  · exact Completes.of_keeps Keeps.rfl
  · rename_i e
    split
    · exact Completes.of_keeps (((hs1.andThen zeroSwath_keeps).ite hs1).andThen startRestart_keeps)
    · split
      · split
        · exact Completes.of_keeps hs2
        · split
          · exact Completes.of_keeps (((hs3.andThen clk_replaced).andThen clkStop_keeps).andThen lockBegin_keeps)
          · exact Completes.of_keeps hs3
      · exact Completes.of_keeps (hs4.andThen checkBegin_keeps)

theorem beamPop_keeps {s : State} {b : Nat} : Keeps [.flt, .lsn, .drl, .que, .hg] s (beamPop s b) := by
  unfold beamPop
  extract_lets n q primed s1 s2
  have hs1 : Keeps [.que] s s1 := (State.setQueue_keeps).mono rfl
  have hs2 : Keeps [.que] s s2 := (hs1.andThen State.put_keeps).mono rfl
  clear_value s1 s2
  split
  · exact (deliver_keeps).mono rfl
  · rename_i e
    split
    · exact (((hs2.andThen State.bump64_keeps).andThen State.event_keeps).andThen deliver_keeps).mono rfl
    · exact ((hs1.andThen queuePop_keeps).andThen deliver_keeps).mono rfl

theorem execCmpiGe_completes {i : IForm} {s : State} : Completes s (execCmpiGe i s) := by
  unfold execCmpiGe
  exact Completes.of_keeps cmpI_keeps

theorem doInstall_keeps {s : State} : Keeps [.drl, .saf] s (doInstall s).1 := by
  unfold doInstall
  split
  · exact Keeps.rfl.mono rfl
  · rename_i x key e
    extract_lets e1
    split
    · exact Keeps.rfl.mono rfl
    · exact (recInstall_keeps).mono rfl

theorem execSentryImageLoadEnd_completes {s : State} : Completes s (execSentryImageLoadEnd s) := by
  unfold execSentryImageLoadEnd
  split
  · rename_i e
    split
    · exact Completes.of_keeps ((((((stepEnd_keeps).andThen sentryLoad_keeps).andThen altNote_keeps).andThen setCoreState_keeps).andThen imagesOk_keeps).andThen stepsGo_keeps)
    · exact Completes.of_keeps (((startFail_keeps).andThen stepEnd_keeps).andThen stepsGo_keeps)
  · exact Completes.of_keeps Keeps.rfl

theorem execStartupConditionsMet_completes {s : State} : Completes s (execStartupConditionsMet s) := by
  unfold execStartupConditionsMet
  exact Completes.of_keeps startTry_keeps

theorem frameAt_keeps {s : State} {t : Nat} : Keeps [.free] s (frameAt s t).2 := by
  unfold frameAt
  extract_lets back
  split
  · exact Keeps.rfl.mono rfl
  · exact (State.fresh_keeps).mono rfl

theorem execTimeMark_completes {x : Fin 2} {same : Bool} {s : State} : Completes s (execTimeMark x same s) := by
  unfold execTimeMark
  exact onMsg_completes (fs := [.free]) (fun r s1 => by
      extract_lets b
      split
      · rename_i x1 v s2 e
        have hs2 : Keeps [.free] s1 s2 := (Keeps.of_snd frameAt_keeps e).mono rfl
        extract_lets s3 s4 s5 s6
        have hs3 : Keeps [.free] s1 s3 := ((hs2.andThen State.incSat_keeps).ite hs2).mono rfl
        have hs4 : Keeps [.free] s1 s4 := (((hs3.andThen State.put_keeps).andThen State.mark_keeps).andThen State.mark_keeps).mono rfl
        have hs5 : Keeps [.free] s1 s5 := ((hs4.andThen State.put_keeps).andThen State.mark_keeps).mono rfl
        have hs6 : Keeps [.free] s1 s6 := ((hs5.andThen State.setPair_keeps).andThen State.setPair_keeps).mono rfl
        clear_value s3 s4 s5 s6
        exact (hs6.andThen State.event_keeps).mono rfl)

theorem execPrewakeGapEnd_completes {s : State} : Completes s (execPrewakeGapEnd s) := by
  unfold execPrewakeGapEnd
  extract_lets old
  exact Completes.of_keeps ((lsn_replaced (by exact id)).ite Keeps.rfl)

theorem tunRun_keeps {s : State} {t : TunIn} : Keeps unitParts s (tunRun s t) := by
  unfold tunRun
  extract_lets old s1 code r
  have hs1 : Keeps [.hg] s s1 := ((hg_replaced (by exact id)).andThen hspSnap_keeps).mono rfl
  have hr : Keeps unitParts s r.1 := (hs1.andThen hspLocal_keeps).mono rfl
  clear_value s1 r
  exact ((hr.andThen State.put_keeps).andThen tunReply_keeps).mono rfl

theorem tunTake_keeps {s : State} {t : TunIn} {last : Bool} : Keeps unitParts s (tunTake s t last) := by
  unfold tunTake
  extract_lets old
  exact ((tunRun_keeps).ite (hg_replaced (by exact id))).mono rfl

theorem execRegReq_completes {x : Fin 2} {s : State} : Completes s (execRegReq x s) := by
  unfold execRegReq
  exact onMsg_completes (fs := unitParts) (fun r s1 => by
      extract_lets tag seg last b fresh
      split
      · exact Keeps.rfl.mono rfl
      · rename_i e
        split
        · exact ((tunTake_keeps).ite tunBroken_keeps).mono rfl
        · rename_i x1 t e1
          extract_lets s2
          have hs2 : Keeps [.hg] s1 s2 := (tunBroken_keeps).mono rfl
          clear_value s2
          exact (((tunTake_keeps).ite tunBroken_keeps).ite ((hs2.andThen tunTake_keeps).ite (hs2.andThen tunBroken_keeps))).mono rfl)

theorem scrubRow_keeps {s : State} {r corrected : Nat} {bad : List Nat} : Keeps [.swa, .saf] s (scrubRow s r corrected bad) := by
  unfold scrubRow
  extract_lets s1 old s2 s3 old1 s4
  have hs1 : Keeps [] s s1 := (State.bump64_keeps).mono rfl
  have hs2 : Keeps [.swa] s s2 := (hs1.andThen (swa_replaced (by exact id))).mono rfl
  have hs3 : Keeps [.swa, .saf] s s3 := (hs2.andThen (Keeps.forEach (ps := [.saf]) (fun _ _ => (wordBad_keeps).mono rfl))).mono rfl
  have hs4 : Keeps [.swa, .saf] s s4 := (hs3.andThen (swa_replaced (by exact id))).mono rfl
  clear_value s1 s2 s3 s4
  exact ((hs4.andThen State.put_keeps).ite hs3).mono rfl

theorem doErase_keeps {s : State} {slot : Nat} : Keeps [.drl, .saf] s (doErase s slot).1 := by
  unfold doErase
  split
  · exact Keeps.rfl.mono rfl
  · exact (slotErase_keeps).mono rfl

theorem doPut_keeps {s : State} : Keeps [.drl, .nvm] s (doPut s).1 := by
  unfold doPut
  split
  · exact Keeps.rfl.mono rfl
  · rename_i x r e
    extract_lets o c r'
    split
    · exact Keeps.rfl.mono rfl
    · split
      · rename_i x1 s1 e2
        have hs1 : Keeps [.nvm] s s1 := (fragsPut_keeps e2).mono rfl
        extract_lets old
        exact (((hs1.andThen (drl_replaced (by exact id))).andThen State.put_keeps).andThen nvmShow_keeps).mono rfl
      · exact Keeps.rfl.mono rfl

theorem doClose_keeps {s : State} : Keeps [.drl, .nvm] s (doClose s).1 := by
  unfold doClose
  split
  · exact Keeps.rfl.mono rfl
  · rename_i x r e
    extract_lets old drop e1 k
    have hdrop : Keeps [.drl] s drop := (drl_replaced (by exact id)).mono rfl
    clear_value drop
    split
    · exact hdrop.mono rfl
    · split
      · exact hdrop.mono rfl
      · split
        · rename_i x1 s1 e4
          have hs1 : Keeps [.nvm] s s1 := (fragPut_keeps e4).mono rfl
          extract_lets old1
          exact ((hs1.andThen (drl_replaced (by exact id))).andThen nvmShow_keeps).mono rfl
        · exact hdrop.mono rfl

theorem execRecordActionDone_completes {s : State} : Completes s (execRecordActionDone s) := by
  unfold execRecordActionDone
  split
  · exact Completes.of_keeps Keeps.rfl
  · rename_i x a e
    extract_lets old s1 r
    have hs1 : Keeps [.drl] s s1 := (drl_replaced (by exact id)).mono rfl
    have hr : Keeps [.drl, .saf, .nvm] s r.1 :=
      (Keeps.ite_fst (hs1.andThen doInstall_keeps) (Keeps.ite_fst (hs1.andThen doSave_keeps) (Keeps.ite_fst (hs1.andThen doExport_keeps)
        (Keeps.ite_fst (hs1.andThen doErase_keeps) (Keeps.ite_fst (hs1.andThen doOpen_keeps) (Keeps.ite_fst (hs1.andThen doPut_keeps)
          (hs1.andThen doClose_keeps))))))).mono rfl
    clear_value s1 r
    split
    · exact Completes.of_keeps ((((hr.andThen State.mark_keeps).andThen State.mark_keeps).andThen State.put_keeps).andThen State.event_keeps)
    · exact Completes.of_keeps Keeps.rfl

theorem execAdd_completes {i : RForm} {s : State} : Completes s (execAdd i s) := by
  unfold execAdd
  exact Completes.of_keeps alu_keeps

theorem execVsub_completes {i : RForm} {func : BitVec 8} {s : State} : Completes s (execVsub i func s) := by
  unfold execVsub
  exact Completes.of_keeps lanes2_keeps

theorem recRow_completes {s : State} {action slot : Nat} : Completes s (recRow s action slot) := by
  unfold recRow
  exact Completes.of_keeps ((recStart_keeps).ite Keeps.rfl)

theorem execOpen_completes {slot : Fin 64} {s : State} : Completes s (execOpen slot s) := by
  unfold execOpen
  exact recRow_completes

theorem execSrl_completes {i : RForm} {s : State} : Completes s (execSrl i s) := by
  unfold execSrl
  exact Completes.of_keeps alu_keeps

theorem execPartnerDeafCheck_completes {s : State} : Completes s (execPartnerDeafCheck s) := by
  unfold execPartnerDeafCheck
  extract_lets p l f a n s1 s2
  have hs1 : Keeps [] s s1 := (State.put_keeps).mono rfl
  have hs2 : Keeps [] s s2 := (((hs1.andThen State.mark_keeps).andThen liveEvent_keeps).andThen State.event_keeps).mono rfl
  clear_value s1 s2
  split
  · rename_i e
    split
    · exact Completes.of_keeps Keeps.rfl
    · split
      · split
        · exact Completes.of_keeps (hs2.andThen sentryFailover_keeps)
        · exact Completes.of_keeps hs1
      · exact Completes.of_keeps State.put_keeps
  · exact Completes.of_keeps Keeps.rfl

theorem execWakeinDebounce_completes {mark : BitVec 64} {s : State} : Completes s (execWakeinDebounce mark s) := by
  unfold execWakeinDebounce
  extract_lets old
  split
  · exact Completes.of_keeps ((lsn_replaced (by exact id)).andThen qualifiedWake_keeps)
  · exact Completes.of_keeps Keeps.rfl

theorem execRecdel_completes {s : State} : Completes s (execRecdel s) := by
  unfold execRecdel
  exact Completes.of_keeps nvmStart_keeps

theorem execHighz_completes {s : State} : Completes s (execHighz s) := by
  unfold execHighz
  exact Completes.of_keeps jtagSelect_keeps

theorem execSyncAct_completes {s : State} : Completes s (execSyncAct s) := by
  unfold execSyncAct
  exact Completes.of_keeps ((syncNow_keeps).ite Keeps.rfl)

theorem startClass_keeps {s : State} {c : Nat} : Keeps [.pwr] s (startClass s c) := by
  unfold startClass
  exact (((stepDrop_keeps).andThen State.mark_keeps).ite Keeps.rfl).mono rfl

theorem startWindow_keeps {s : State} {n : Nat} : Keeps [.clk, .pwr] s (startWindow s n) := by
  unfold startWindow
  extract_lets c m old s1 s2 s3
  have hs1 : Keeps [.clk] s s1 := (clk_replaced).mono rfl
  have hs2 : Keeps [.clk] s s2 := (((hs1.andThen State.put_keeps).andThen State.put_keeps).andThen State.mark_keeps).mono rfl
  have hs3 : Keeps [.clk] s s3 := (((hs2.andThen State.put_keeps).andThen State.put_keeps).andThen State.put_keeps).mono rfl
  clear_value s1 s2 s3
  exact (((hs3.andThen stepEnd_keeps).andThen startClass_keeps).ite ((clk_replaced).andThen State.put_keeps)).mono rfl

theorem stability_keeps {s : State} {n : Nat} : Keeps [.clk, .time, .swa, .hg] s (stability s n) := by
  unfold stability
  extract_lets c agree s1 s2 s3 old
  have hs1 : Keeps [] s s1 := (Keeps.rfl.ite State.put_keeps).mono rfl
  have hs2 : Keeps [.clk] s s2 := (hs1.andThen clk_replaced).mono rfl
  have hs3 : Keeps [.clk] s s3 := ((hs2.andThen supLatch_keeps).andThen State.put_keeps).mono rfl
  clear_value s3
  exact (((hs2.andThen stable_keeps).ite ((hs3.andThen clk_replaced).andThen State.put_keeps)).ite (hs2.andThen State.put_keeps)).mono rfl

theorem freqError_keeps {s : State} {c : Nat} :
    Keeps [.clk, .pwr, .time, .mic, .lsn, .drl, .swa, .hg, .adc, .mon, .saf] s (freqError s c) := by
  unfold freqError
  extract_lets s1 old s2 s3
  have hs1 : Keeps [] s s1 := (supLatch_keeps).mono rfl
  have hs2 : Keeps [.clk] s s2 := (hs1.andThen clk_replaced).mono rfl
  have hs3 : Keeps [.clk] s s3 := ((hs2.andThen State.put_keeps).ite hs2).mono rfl
  clear_value s1 s2 s3
  exact ((hs1.andThen startRestart_keeps).ite ((hs1.andThen diagEvent_keeps).ite
    (((hs3.andThen diagEventT_keeps).andThen clkStop_keeps).andThen State.put_keeps))).mono rfl

theorem supervise_keeps {s : State} {n : Nat} :
    Keeps [.clk, .pwr, .time, .mic, .lsn, .drl, .swa, .hg, .adc, .mon, .saf] s (supervise s n) := by
  unfold supervise
  extract_lets r d err was old s1
  have hs1 : Keeps [.clk] s s1 := ((clk_replaced).andThen State.mark_keeps).mono rfl
  clear_value s1
  exact (Keeps.rfl.ite ((hs1.andThen freqError_keeps).ite hs1)).mono rfl

theorem execWdoWindow_completes {count : Nat} {s : State} : Completes s (execWdoWindow count s) := by
  unfold execWdoWindow
  extract_lets s1
  have hs1 : Keeps [] s s1 := (State.put_keeps).mono rfl
  clear_value s1
  split
  · exact Completes.of_keeps Keeps.rfl
  · rename_i e
    split
    · exact Completes.of_keeps (hs1.andThen startWindow_keeps)
    · split
      · exact Completes.of_keeps (hs1.andThen planHoldTry_keeps)
      · exact Completes.of_keeps (hs1.ite (hs1.andThen stability_keeps))
      · exact Completes.of_keeps (hs1.ite (hs1.andThen supervise_keeps))
      · exact Completes.of_keeps (hs1.andThen supervise_keeps)

theorem execRailOut_completes {v : Fin 8} {x0 x1 x2 x3 : BitVec 16} {s : State} : Completes s (execRailOut v x0 x1 x2 x3 s) := by
  unfold execRailOut
  extract_lets v1 s1
  have hs1 : Keeps [] s s1 := (((State.putBit_keeps).andThen State.putBit_keeps).andThen State.level_keeps).mono rfl
  clear_value s1
  split
  · exact Completes.of_keeps ((hs1.andThen diagEvent_keeps).andThen monFollow_keeps)
  · exact Completes.of_keeps Keeps.rfl

theorem sectorRetireAct_keeps {s : State} {n : Nat} : Keeps [.nvm] s (sectorRetireAct s n).1 := by
  unfold sectorRetireAct
  split
  · exact ((slotSectorGone_keeps).andThen sectorRetire_keeps).mono rfl
  · rename_i x e
    split
    · rename_i x1 s1 e1
      have hs1 : Keeps [.nvm] s s1 := (moveLive_keeps e1).mono rfl
      exact (hs1.andThen sectorRetire_keeps).mono rfl
    · exact Keeps.rfl.mono rfl

theorem lockProved_keeps {s : State} : Keeps [.saf] s (lockProved s) := by
  unfold lockProved
  extract_lets add old
  exact (saf_replaced (by exact id)).mono rfl

theorem lockStuck_keeps {s : State} : Keeps [.saf] s (lockStuck s) := by
  unfold lockStuck
  extract_lets add old
  exact (saf_replaced (by exact id)).mono rfl

theorem scareRestart_keeps {s : State} {sl : Nat} {pass : Bool} : Keeps [.frw, .saf] s (scareRestart s sl pass).1 := by
  unfold scareRestart
  split
  · rename_i x img e
    split
    · exact (((scareLoad_keeps).andThen scareStart_keeps).andThen lockProved_keeps).mono rfl
    · exact (lockStuck_keeps).mono rfl
  · exact (lockStuck_keeps).mono rfl

theorem svcEffect_keeps {s : State} {a arg : Nat} : Keeps [.swa, .frw, .saf, .nvm] s (svcEffect s a arg).1 := by
  unfold svcEffect
  extract_lets old r r1
  have hr : Keeps [.nvm] s r.1 := (recPut_keeps).mono rfl
  have hr1 : Keeps [.frw, .saf] s r1.1 := (scareRestart_keeps).mono rfl
  clear_value r r1
  split
  · rename_i e
    split
    · exact Keeps.rfl.mono rfl
    · split
      · exact Keeps.rfl.mono rfl
      · exact (mapRow_keeps).mono rfl
  · rename_i e
    split
    · exact (retireMap_keeps).mono rfl
    · split
      · exact ((nvm_replaced (by exact id)).andThen anchorWrite_keeps).mono rfl
      · split
        · split
          · exact Keeps.rfl.mono rfl
          · exact (sectorRetireAct_keeps).mono rfl
        · split
          · exact hr.mono rfl
          · split
            · split
              · exact hr1.mono rfl
              · exact Keeps.rfl.mono rfl
            · split
              · exact (sentryLoad_keeps).mono rfl
              · exact Keeps.rfl.mono rfl

theorem execTend_completes {func : BitVec 8} {i : RForm} {s : State} : Completes s (execTend func i s) := by
  unfold execTend
  exact Completes.of_keeps (issueX_keeps (fs := [.hsp, .frw, .free]) (fun _ => ((drainAll_keeps).andThen taskEnd_keeps).mono rfl))

theorem execInitOverrun_completes {c : Fin 4} {s : State} : Completes s (execInitOverrun c s) := by
  unfold execInitOverrun
  exact Completes.of_keeps ((budgetFault_keeps).ite Keeps.rfl)

theorem urgentResult_keeps {s : State} {x e raw tick : Nat} {ref : Bool} :
    Keeps [.pwr, .time, .lsn, .drl, .swa, .adc, .saf] s (urgentResult s x e raw tick ref) := by
  unfold urgentResult
  extract_lets cal c old s1 s2 s3 s4
  have hs1 : Keeps [.adc] s s1 := (State.setAdc_keeps).mono rfl
  have hs2 : Keeps [.adc] s s2 := (((hs1.andThen State.mark_keeps).andThen State.mark_keeps).andThen State.put_keeps).mono rfl
  have hs3 : Keeps [.adc] s s3 := (((hs2.andThen State.put_keeps).andThen State.mark_keeps).andThen State.mark_keeps).mono rfl
  have hs4 : Keeps [.adc] s s4 := ((hs3.andThen State.incWrap_keeps).andThen State.put_keeps).mono rfl
  clear_value s1 s2 s3 s4
  exact ((hs4.andThen diagEventT_keeps).ite hs4).mono rfl

theorem calResult_keeps {s : State} {x raw : Nat} : Keeps [.adc] s (calResult s x raw).1 := by
  unfold calResult
  extract_lets k k1 s1 r
  have hs1 : Keeps [.adc] s s1 := (State.setAdc_keeps).mono rfl
  have hr : Keeps [.adc] s r.1 := (hs1.andThen selfEnd_keeps).mono rfl
  clear_value s1 r
  split
  · exact (hr.andThen adcKick_keeps).mono rfl
  · exact hs1.mono rfl

theorem sysResult_keeps {s : State} {x raw : Nat} : Keeps [.adc] s (sysResult s x raw) := by
  unfold sysResult
  split
  · exact Keeps.rfl.mono rfl
  · rename_i x1 st e n sum e1
    extract_lets sum1 u old
    exact (((State.putI_keeps).andThen sysEnd_keeps).ite State.setAdc_keeps).mono rfl

theorem convEnd_keeps {s : State} {x raw : Nat} : Keeps [.pwr, .time, .lsn, .drl, .swa, .adc, .saf, .free] s (convEnd s x raw).1 := by
  unfold convEnd
  split
  · exact Keeps.rfl.mono rfl
  · rename_i x1 k e ref tick e1
    extract_lets old s1 s2 s3 r
    have hs1 : Keeps [.adc] s s1 := (State.setAdc_keeps).mono rfl
    have hs2 : Keeps [.adc] s s2 := ((hs1.andThen State.mark_keeps).andThen State.bump64_keeps).mono rfl
    have hs3 : Keeps [.adc] s s3 := (hs2.andThen ledgersTake_keeps).mono rfl
    have hr : Keeps [.pwr, .time, .lsn, .drl, .swa, .adc, .saf, .free] s r.1 := by
      unfold r
      split
      · exact (hs3.andThen urgentResult_keeps).mono rfl
      · exact (hs3.andThen calResult_keeps).mono rfl
      · exact (hs3.andThen sysResult_keeps).mono rfl
      · exact (hs3.andThen scanResult_keeps).mono rfl
    clear_value s1 s2 s3 r
    exact (hr.andThen adcKick_keeps).mono rfl

theorem selfOutcome_keeps {s : State} {good : Bool} : Keeps [.pwr] s (selfOutcome s good) := by
  unfold selfOutcome
  extract_lets s1 phb s2 s3
  have hs1 : Keeps [] s s1 := (State.mark_keeps).mono rfl
  have hs2 : Keeps [.pwr] s s2 := (transDone_keeps).mono rfl
  have hs3 : Keeps [.pwr] s s3 := (hs2.andThen State.mark_keeps).mono rfl
  clear_value s1 s2 s3
  exact (((hs1.ite (hs1.andThen startFail_keeps)).andThen stepEnd_keeps).ite (((hs3.ite
    (hs3.andThen failRecord_keeps)).ite hs2).ite Keeps.rfl)).mono rfl

theorem execConversionEnd_completes {x : Fin 2} {raw : BitVec 12} {s : State} : Completes s (execConversionEnd x raw s) := by
  unfold execConversionEnd
  extract_lets r
  have hr : Keeps [.pwr, .time, .lsn, .drl, .swa, .adc, .saf, .free] s r.1 := (convEnd_keeps).mono rfl
  clear_value r
  split
  · rename_i e
    refine Completes.of_keeps (ps := stateParts) ?_
    split
    · exact ((hr.andThen selfOutcome_keeps).andThen stepsGo_keeps).mono rfl
    · exact hr.mono rfl
  · exact Completes.of_keeps Keeps.rfl

theorem execZswath_completes {s : State} : Completes s (execZswath s) := by
  unfold execZswath
  exact Completes.of_keeps zeroSwathStart_keeps

theorem execSelfTestPhaseBEnd_completes {fail : Bool} {rows : List (Fin 32768)} {cores : BitVec 4} {sectors : List
  (Fin 512)} {s : State} : Completes s (execSelfTestPhaseBEnd fail rows cores sectors s) := by
  unfold execSelfTestPhaseBEnd
  extract_lets r good s1 s2 r1 good1 s3 s4 s5 old s6 s7
  have hr : Keeps [.hsp, .swa, .frw, .nvm] s r.1 := (phaseBFix_keeps).mono rfl
  have hs1 : Keeps [.pwr, .hsp, .swa, .frw, .nvm] s s1 :=
    (((hr.andThen State.mark_keeps).ite (hr.andThen startFail_keeps)).andThen stepEnd_keeps).mono rfl
  have hs2 : Keeps [.pwr, .hsp, .swa, .hg, .frw, .nvm] s s2 := ((hs1.andThen hgStart_keeps).andThen hgStart_keeps).mono rfl
  have hr1 : Keeps [.hsp, .swa, .frw, .nvm] s r1.1 := (phaseBFix_keeps).mono rfl
  have hs3 : Keeps [.pwr, .hsp, .swa, .frw, .nvm] s s3 := ((hr1.andThen transDone_keeps).andThen State.mark_keeps).mono rfl
  have hs4 : Keeps [.pwr, .hsp, .swa, .frw, .nvm] s s4 := (hs3.andThen State.mark_keeps).mono rfl
  have hs5 : Keeps [.pwr, .hsp, .swa, .frw, .nvm] s s5 := ((hs4.andThen failRecord_keeps).andThen faultPin_keeps).mono rfl
  have hs6 : Keeps [.pwr, .hsp, .swa, .frw, .nvm] s s6 := (hs5.andThen pwr_replaced).mono rfl
  have hs7 : Keeps [.pwr, .hsp, .swa, .frw, .nvm] s s7 := (hs4.ite (hs6.andThen State.put_keeps)).mono rfl
  clear_value r s1 s2 r1 s3 s4 s5 s6 s7
  split
  · exact Completes.of_keeps Keeps.rfl
  · rename_i e
    split
    · exact Completes.of_keeps (((hs2.andThen selfStart_keeps).ite hs2).andThen stepsGo_keeps)
    · split
      · exact Completes.of_keeps ((hs7.andThen State.event_keeps).andThen selfStart_keeps)
      · exact Completes.of_keeps Keeps.rfl

theorem execBlez_completes {i : IForm} {s : State} : Completes s (execBlez i s) := by
  unfold execBlez
  exact Completes.of_keeps branchIf_keeps

theorem execWakeinRelease_completes {s : State} : Completes s (execWakeinRelease s) := by
  unfold execWakeinRelease
  extract_lets old
  split
  · exact Completes.of_keeps (lsn_replaced (by exact id))
  · exact Completes.of_keeps Keeps.rfl

theorem execOr_completes {i : RForm} {s : State} : Completes s (execOr i s) := by
  unfold execOr
  exact Completes.of_keeps alu_keeps

theorem execStvl_completes {i : IForm} {s : State} : Completes s (execStvl i s) := by
  unfold execStvl
  exact Completes.of_keeps storeImm_keeps

theorem execLoadReturn_completes {c : Fin 6} {s : State} : Completes s (execLoadReturn c s) := by
  unfold execLoadReturn
  exact Completes.of_keeps ((State.setCore_keeps).ite Keeps.rfl)

theorem execSel_completes {i : RForm} {func : BitVec 8} {s : State} : Completes s (execSel i func s) := by
  unfold execSel
  exact Completes.of_keeps issue_keeps

theorem execShortSwathBlockStart_completes {s : State} : Completes s (execShortSwathBlockStart s) := by
  unfold execShortSwathBlockStart
  exact Completes.of_keeps ((shortStart_keeps).ite Keeps.rfl)

theorem execVall_completes {i : RForm} {func : BitVec 8} {s : State} : Completes s (execVall i func s) := by
  unfold execVall
  extract_lets w
  exact Completes.of_keeps vecToP_keeps

theorem execIdcode_completes {s : State} : Completes s (execIdcode s) := by
  unfold execIdcode
  exact Completes.of_keeps jtagSelect_keeps

theorem execSlt_completes {i : RForm} {s : State} : Completes s (execSlt i s) := by
  unfold execSlt
  exact Completes.of_keeps alu_keeps

theorem execRstRelease_completes {devid : Fin 4} {clksrc test0 io33 met : Bool} {s : State} : Completes s
  (execRstRelease devid clksrc test0 io33 met s) := by
  unfold execRstRelease
  extract_lets old s1
  have hs1 : Keeps [.pwr, .time, .hg] s s1 := (release124_keeps).mono rfl
  clear_value s1
  split
  · exact Completes.of_keeps Keeps.rfl
  · rename_i e
    split
    · exact Completes.of_keeps pwr_replaced
    · exact Completes.of_keeps ((hs1.andThen startTry_keeps).ite hs1)

theorem execSlli_completes {i : IForm} {s : State} : Completes s (execSlli i s) := by
  unfold execSlli
  exact Completes.of_keeps aluImm_keeps

theorem tokenTick_keeps {s : State} : Keeps [.hg] s (tokenTick s) := by
  unfold tokenTick
  exact (Keeps.forEach (ps := [.hg]) (fun s1 x => by
      extract_lets p t
      exact (State.setHgp_keeps).mono rfl)).mono rfl

theorem execKeyConfirm_completes {x : Fin 2} {s : State} : Completes s (execKeyConfirm x s) := by
  unfold execKeyConfirm
  exact onMsg_completes (fs := [.swa, .hg]) (fun r s1 => by
      extract_lets k s2 s3
      have hs2 : Keeps [] s1 s2 := (Keeps.rfl.ite State.wr_keeps).mono rfl
      have hs3 : Keeps [.swa, .hg] s1 s3 := (macFail_keeps).mono rfl
      clear_value s2 s3
      exact (((hs2.andThen State.setKey_keeps).andThen keyedFollow_keeps).ite ((hs3.andThen hgDown_keeps).ite hs3)).mono rfl)

theorem execBulkResend_completes {k : Fin 8} {s : State} : Completes s (execBulkResend k s) := by
  unfold execBulkResend
  split
  · extract_lets old
    exact Completes.of_keeps State.setStrip_keeps
  · exact Completes.of_keeps Keeps.rfl

theorem execSyncNow_completes {s : State} : Completes s (execSyncNow s) := by
  unfold execSyncNow
  exact Completes.of_keeps ((syncEdge_keeps).ite Keeps.rfl)

theorem execPowerCycle_completes {g : Fin 4} {s : State} : Completes s (execPowerCycle g s) := by
  unfold execPowerCycle
  exact Completes.of_keeps powerCycle_keeps

theorem execSltu_completes {i : RForm} {s : State} : Completes s (execSltu i s) := by
  unfold execSltu
  exact Completes.of_keeps alu_keeps

theorem syncLatCheck_keeps {s : State} : Keeps [] s (syncLatCheck s) := by
  unfold syncLatCheck
  exact (((State.mark_keeps).andThen State.event_keeps).ite Keeps.rfl).mono rfl

theorem corePatrol_keeps {s : State} {c m w : Nat} {double : Bool} :
    Keeps [.pwr, .hsp, .time, .lsn, .drl, .swa, .frw, .saf] s (corePatrol s c m w double) := by
  unfold corePatrol
  extract_lets s1
  have hs1 : Keeps [.frw] s s1 := (softDrop_keeps).mono rfl
  clear_value s1
  exact ((patrolBad_keeps).ite ((hs1.andThen State.incSat_keeps).ite hs1)).mono rfl

theorem calSaveAll_keeps {s : State} : Keeps [.nvm] s (calSaveAll s).1 := by
  unfold calSaveAll
  exact (Keeps.foldl_fst (ps := [.nvm]) (fun s b a => by
      split
      · exact (recPut_keeps).mono rfl
      · exact Keeps.rfl.mono rfl)).mono rfl

theorem execCalNvmActionEnd_completes {s : State} : Completes s (execCalNvmActionEnd s) := by
  unfold execCalNvmActionEnd
  split
  · extract_lets r
    have hr : Keeps [.nvm] s r.1 := (Keeps.ite_fst calSaveAll_keeps calLoadAll_keeps).mono rfl
    exact Completes.of_keeps ((hr.andThen (mic_replaced (by exact id))).andThen calDone_keeps)
  · exact Completes.of_keeps Keeps.rfl

theorem execSave_completes {slot : Fin 64} {s : State} : Completes s (execSave slot s) := by
  unfold execSave
  exact recRow_completes

theorem coreStruck_keeps {s : State} {e : Fin 6 × Fin 3 × Bool × Nat} : Keeps [.frw] s (coreStruck s e) := by
  unfold coreStruck
  extract_lets c m w add old k
  exact (Keeps.rfl.ite (((frw_replaced (by simp +contextual +zetaDelta [FrwOk, setNth])).ite ((frw_replaced
    (by simp +contextual +zetaDelta [FrwOk, setNth])).ite (frw_replaced (by exact id)))).ite (Keeps.rfl.ite (frw_replaced (by exact id))))).mono rfl

theorem execCoreEccPatrol_completes {c : Fin 6} {m : Fin 3} {a : Nat} {found : Bool × List
  (Fin 6 × Fin 3 × Bool × Nat)} {s : State} : Completes s (execCoreEccPatrol c m a found s) := by
  unfold execCoreEccPatrol
  exact Completes.of_keeps (((corePatrol_keeps).andThen (Keeps.forEach (ps := [.frw]) (fun _ _ => (coreStruck_keeps).mono rfl))).ite Keeps.rfl)

theorem execSavemap_completes {s : State} : Completes s (execSavemap s) := by
  unfold execSavemap
  exact Completes.of_keeps svcStart_keeps

theorem pckTick_keeps {s : State} : Keeps [.mic] s (pckTick s) := by
  unfold pckTick
  extract_lets ph pck old
  exact (mic_replaced (by exact id)).mono rfl

theorem execSextb_completes {i : RForm} {s : State} : Completes s (execSextb i s) := by
  unfold execSextb
  exact Completes.of_keeps alu1_keeps

theorem ringCount_keeps {s : State} {m n : Nat} : Keeps [.pwr, .time, .lsn, .drl, .swa, .saf] s (ringCount s m n) := by
  unfold ringCount
  extract_lets s1
  have hs1 : Keeps [] s s1 := (State.put_keeps).mono rfl
  clear_value s1
  exact ((((hs1.andThen State.mark_keeps).andThen State.event_keeps).andThen diagEvent_keeps).ite hs1).mono rfl

theorem whole2_keeps {s : State} {i : RForm} {f : BitVec 128 → BitVec 128 → BitVec 128} : Keeps stopParts s (whole2 s i f) := by
  unfold whole2
  exact (vecTo_keeps).mono rfl

theorem execVand_completes {i : RForm} {s : State} : Completes s (execVand i s) := by
  unfold execVand
  exact Completes.of_keeps whole2_keeps

theorem execMicGroupPowerUp_completes {s : State} : Completes s (execMicGroupPowerUp s) := by
  unfold execMicGroupPowerUp
  extract_lets l
  split
  · exact Completes.of_keeps (((Keeps.forEach (ps := [.mic, .flt]) (fun _ _ => (groupUp_keeps).mono rfl)).andThen step10_keeps).andThen stepsGo_keeps)
  · exact Completes.of_keeps Keeps.rfl

theorem partnerStop_keeps {s : State} {p : Nat} : Keeps [.pwr, .time, .lsn, .drl, .swa, .saf, .free] s (partnerStop s p) := by
  unfold partnerStop
  extract_lets old s1 s2
  have hs1 : Keeps [.saf, .free] s s1 := ((saf_replaced (by exact id)).andThen stopLog_keeps).mono rfl
  have hs2 : Keeps [.saf, .free] s s2 := ((hs1.andThen ackFail_keeps).ite hs1).mono rfl
  clear_value s1 s2
  exact ((hs2.andThen armRefuse_keeps).ite
    (((((hs2.andThen permitClear_keeps).andThen State.event_keeps).andThen trip_keeps).andThen stopOverHeartbeat_keeps).ite hs2)).mono rfl

theorem execSafeStop_completes {x : Fin 2} {s : State} : Completes s (execSafeStop x s) := by
  unfold execSafeStop
  exact onMsg_completes (fs := [.pwr, .time, .lsn, .drl, .swa, .saf, .free]) (fun r s1 => by
      extract_lets c p
      have hc : Keeps [.pwr, .time, .lsn, .drl, .swa, .saf] s1 c.1 := (pduCheck_keeps).mono rfl
      clear_value c
      exact (Keeps.rfl.ite (hc.ite ((hc.andThen partnerStop_keeps).ite (hc.andThen stopLog_keeps)))).mono rfl)

theorem execHsckLoss_completes {s : State} : Completes s (execHsckLoss s) := by
  unfold execHsckLoss
  extract_lets wdo was old s1 s2 s3 s4 old1 s5
  have hs1 : Keeps [.clk] s s1 := ((clk_replaced).andThen State.mark_keeps).mono rfl
  have hs2 : Keeps [.clk] s s2 := (hs1.andThen State.mark_keeps).mono rfl
  have hs3 : Keeps [.clk] s s3 := ((hs2.andThen supLatch_keeps).andThen State.bump64_keeps).mono rfl
  have hs4 : Keeps [.clk, .adc, .mon] s s4 := ((hs3.andThen adcHold_keeps).andThen monFollow_keeps).mono rfl
  have hs5 : Keeps [.clk, .adc, .mon] s s5 := (hs4.ite ((hs4.andThen clk_replaced).andThen State.put_keeps)).mono rfl
  clear_value s1 s2 s3 s4 s5
  split
  · exact Completes.of_keeps Keeps.rfl
  · rename_i e
    split
    · exact Completes.of_keeps ((hs5.andThen diagEvent_keeps).ite hs5)
    · exact Completes.of_keeps hs2

theorem execSacx_completes {i : RForm} {s : State} : Completes s (execSacx i s) := by
  unfold execSacx
  exact Completes.of_keeps issue_keeps

theorem execMfp_completes {i : RForm} {s : State} : Completes s (execMfp i s) := by
  unfold execMfp
  exact Completes.of_keeps issue_keeps

theorem execLdX_completes {func : BitVec 8} {i : RForm} {s : State} : Completes s (execLdX func i s) := by
  unfold execLdX
  exact Completes.of_keeps (issueL_keeps (fs := unitParts) (gs := [.frw]) (fun _ _ => memLoad_leaves)
    (fun _ _ _ _ => loadGive_keeps))

theorem bootApply_keeps {s : State} : Keeps [] s (bootApply s) := by
  unfold bootApply
  extract_lets b f s1 s2 s3 s4 s5
  have hs1 : Keeps [] s s1 := (State.put_keeps).mono rfl
  have hs2 : Keeps [] s s2 := (((hs1.andThen State.mark_keeps).andThen State.mark_keeps).andThen State.mark_keeps).mono rfl
  have hs3 : Keeps [] s s3 := ((hs2.andThen State.put_keeps).andThen State.put_keeps).mono rfl
  have hs4 : Keeps [] s s4 := (hs3.andThen State.wr_keeps).mono rfl
  have hs5 : Keeps [] s s5 := (hs4.andThen State.put_keeps).mono rfl
  clear_value s1 s2 s3 s4 s5
  exact ((hs5.andThen State.put_keeps).andThen State.put_keeps).mono rfl

theorem execNvmMount_completes {copies : Fin 3} {s : State} : Completes s (execNvmMount copies s) := by
  unfold execNvmMount
  extract_lets s1 s2 watch old s3 s4 s5
  have hs1 : Keeps [] s s1 := (((State.mark_keeps).andThen State.mark_keeps).andThen State.put_keeps).mono rfl
  have hs2 : Keeps [.hsp, .swa, .frw] s s2 := ((hs1.andThen mountShow_keeps).andThen bootApply_keeps).mono rfl
  have hs3 : Keeps [.pwr, .hsp, .swa, .frw] s s3 := (hs2.andThen pwr_replaced).mono rfl
  have hs4 : Keeps [.pwr, .hsp, .swa, .frw] s s4 := (hs3.ite (hs3.andThen startFail_keeps)).mono rfl
  have hs5 : Keeps [.pwr, .hsp, .swa, .frw] s s5 := ((hs4.ite (hs4.andThen stepDrop_keeps)).andThen stepEnd_keeps).mono rfl
  clear_value s1 s2 s3 s4 s5
  split
  · rename_i e
    split
    · exact Completes.of_keeps (((startFail_keeps).andThen stepEnd_keeps).andThen stepsGo_keeps)
    · exact Completes.of_keeps ((hs5.andThen step10_keeps).andThen stepsGo_keeps)
  · exact Completes.of_keeps Keeps.rfl

theorem eqSet_keeps {s : State} {x l : Nat} {v : EqVal} : Keeps [] s (eqSet s x l v) := by
  unfold eqSet
  extract_lets s1
  have hs1 : Keeps [] s s1 := ((State.put_keeps).andThen State.put_keeps).mono rfl
  clear_value s1
  exact (Keeps.rfl.ite ((hs1.andThen State.put_keeps).andThen State.put_keeps)).mono rfl

theorem ctrSpent_keeps {s : State} {x : Nat} : Keeps [.hg] s (ctrSpent s x) := by
  unfold ctrSpent
  exact ((hgRekey_keeps).ite Keeps.rfl).mono rfl

theorem execMittenIdleTimeout_completes {s : State} : Completes s (execMittenIdleTimeout s) := by
  unfold execMittenIdleTimeout
  exact Completes.of_keeps ((mittenClose_keeps).ite Keeps.rfl)

theorem execVcmpEq_completes {i : RForm} {func : BitVec 8} {s : State} : Completes s (execVcmpEq i func s) := by
  unfold execVcmpEq
  exact Completes.of_keeps cmpLanes_keeps

theorem execPrewakeTimeout_completes {s : State} : Completes s (execPrewakeTimeout s) := by
  unfold execPrewakeTimeout
  extract_lets was t old
  have ht : Keeps [.lsn, .hg] s t := (standDown_keeps).mono rfl
  clear_value t
  exact Completes.of_keeps ((ht.andThen (lsn_replaced (by exact id))).ite Keeps.rfl)

theorem execAmoAdd_completes {i : RForm} {s : State} : Completes s (execAmoAdd i s) := by
  unfold execAmoAdd
  exact Completes.of_keeps amo_keeps

theorem execWake_completes {x : Fin 2} {s : State} : Completes s (execWake x s) := by
  unfold execWake
  exact onMsg_completes (fs := [.pwr, .hsp, .time, .int, .mic, .flt, .lsn, .drl, .swa, .que, .hg, .frw, .adc, .mon, .nvm, .free]) (fun r s1 => by
      extract_lets s2 s3
      have hs2 : Keeps [] s1 s2 := (State.setPair_keeps).mono rfl
      have hs3 : Keeps [] s1 s3 := ((hs2.andThen partnerPre_keeps).ite hs2).mono rfl
      clear_value s2 s3
      exact ((hs3.andThen qualifiedWake_keeps).ite hs3).mono rfl)

theorem chainRemap_keeps {s : State} {n : Nat} {new : Inst} : Keeps [.flt] s (chainRemap s n new) := by
  unfold chainRemap
  exact ((chainFade_keeps).andThen chainInput_keeps).mono rfl

theorem execDensityEvent_completes {p : Fin 32} {n : BitVec 16} {s : State} : Completes s (execDensityEvent p n s) := by
  unfold execDensityEvent
  extract_lets p1 w out now d old t t1 st t2
  have ht : Keeps [.mic] s t := (mic_replaced (by exact id)).mono rfl
  have ht1 : Keeps [.mic] s t1 := ((ht.andThen liveEvent_keeps).andThen State.mark_keeps).mono rfl
  have ht2 : Keeps [.mic, .flt, .lsn] s t2 := ((ht1.andThen inputFault_keeps).ite ((ht1.andThen micSet_keeps).ite ht1)).mono rfl
  clear_value t t1 t2
  split
  · exact Completes.of_keeps (ht2.andThen livenessDiag_keeps)
  · exact Completes.of_keeps Keeps.rfl

theorem execZero_completes {x : Fin 2} {e : Fin 16} {s : State} : Completes s (execZero x e s) := by
  unfold execZero
  exact Completes.of_keeps sysWrite_keeps

theorem execResetMode_completes {s : State} : Completes s (execResetMode s) := by
  unfold execResetMode
  extract_lets s1 s2 old
  have hs1 : Keeps [] s s1 := (hspSnap_keeps).mono rfl
  have hs2 : Keeps [] s s2 := ((hs1.andThen State.put_keeps).andThen State.put_keeps).mono rfl
  clear_value s1 s2
  split
  · exact Completes.of_keeps Keeps.rfl
  · exact Completes.of_keeps (hs2.andThen (hsp_replaced (by exact id)))

theorem execBp_completes {i : IForm} {s : State} : Completes s (execBp i s) := by
  unfold execBp
  exact Completes.of_keeps branchPred_keeps

theorem execScarecrowCycle_completes {s : State} : Completes s (execScarecrowCycle s) := by
  unfold execScarecrowCycle
  extract_lets s1 s2 s3 s4 s5 old
  have hs1 : Keeps [.pwr, .time, .lsn, .drl, .swa, .hg, .saf, .free] s s1 := by
    unfold s1
    split
    · exact (stopTake_keeps).mono rfl
    · exact Keeps.rfl.mono rfl
  have hs2 : Keeps [.pwr, .time, .lsn, .drl, .swa, .hg, .mon, .saf, .free] s s2 :=
    ((((hs1.andThen linesTake_keeps).andThen condsSee_keeps).andThen freezeLong_keeps).andThen freezeLong_keeps).mono rfl
  have hs3 : Keeps [.pwr, .time, .lsn, .drl, .swa, .hg, .adc, .mon, .saf, .free] s s3 :=
    (((hs2.andThen adcUrgent_keeps).andThen adcUrgent_keeps).ite hs2).mono rfl
  have hs4 : Keeps [.pwr, .time, .lsn, .drl, .swa, .hg, .adc, .mon, .saf, .free] s s4 := (hs3.andThen pduSend_keeps).mono rfl
  have hs5 : Keeps [.pwr, .time, .lsn, .drl, .swa, .hg, .adc, .mon, .saf, .free] s s5 := (hs4.andThen runtokWrite_keeps).mono rfl
  clear_value s1 s2 s3 s4 s5
  split
  · exact Completes.of_keeps (hs5.andThen (saf_replaced (by exact id)))
  · exact Completes.of_keeps Keeps.rfl

theorem crGet_keeps {s : State} {c n : Nat} : Keeps [.frw] s (crGet s c n).2 := by
  unfold crGet
  extract_lets r v
  split
  · exact Keeps.rfl.mono rfl
  · rename_i e
    split
    · exact Keeps.rfl.mono rfl
    · split
      · exact Keeps.rfl.mono rfl
      · split
        · exact Keeps.rfl.mono rfl
        · split
          · exact Keeps.rfl.mono rfl
          · split
            · exact Keeps.rfl.mono rfl
            · split
              · exact Keeps.rfl.mono rfl
              · split
                · exact Keeps.rfl.mono rfl
                · split
                  · exact regsPut_keeps (f := fun r => { r with cycHi := _ })
                  · split
                    · exact Keeps.rfl.mono rfl
                    · exact Keeps.rfl.mono rfl

theorem execMfcr_completes {i : RForm} {func : BitVec 8} {s : State} : Completes s (execMfcr i func s) := by
  unfold execMfcr
  exact Completes.of_keeps (issueX_keeps (fs := [.hsp, .frw, .free]) (fun s1 => by
      split
      · rename_i x v s2 e
        have hs2 : Keeps [.frw] s1 s2 := (Keeps.of_snd crGet_keeps e).mono rfl
        exact ((hs2.andThen regsPut_keeps).andThen bundleDone_keeps).mono rfl))

theorem intLiveEnd_keeps {s : State} : Keeps [] s (intLiveEnd s) := by
  unfold intLiveEnd
  exact (Keeps.forEach (ps := []) (fun _ _ => ((State.mark_keeps).ite Keeps.rfl).mono rfl)).mono rfl

theorem pushInstr_keeps {s : State} {i : IForm} {vec : Bool} : Keeps unitParts s (pushInstr s i vec) := by
  unfold pushInstr
  exact (issueL_keeps (fs := [.que]) (gs := []) (fun _ _ => pushAccess_leaves)
    (fun _ _ _ _ => Keeps.rfl)).mono rfl

theorem execSlotArm_completes {k : Fin 64} {b : Bool} {s : State} : Completes s (execSlotArm k b s) := by
  unfold execSlotArm
  extract_lets k1
  split
  · exact Completes.of_keeps Keeps.rfl
  · rename_i e
    split
    · exact Completes.of_keeps slotArm_keeps
    · split
      · exact Completes.of_keeps heldArm_keeps
      · exact Completes.of_keeps Keeps.rfl

theorem execReferenceChange_completes {sel : Fin 3} {refen : Bool} {vnom : BitVec 12} {s : State} : Completes s
  (execReferenceChange sel refen vnom s) := by
  unfold execReferenceChange
  exact Completes.of_keeps ((refWrite_keeps).ite Keeps.rfl)

theorem execXor_completes {i : RForm} {s : State} : Completes s (execXor i s) := by
  unfold execXor
  exact Completes.of_keeps alu_keeps

theorem execLongLoss_completes {s : State} : Completes s (execLongLoss s) := by
  unfold execLongLoss
  extract_lets old
  exact Completes.of_keeps (((clk_replaced).andThen supLatch_keeps).ite Keeps.rfl)

theorem execReferenceTrack_completes {s : State} : Completes s (execReferenceTrack s) := by
  unfold execReferenceTrack
  extract_lets r n step
  split
  · exact Completes.of_keeps State.put_keeps
  · exact Completes.of_keeps Keeps.rfl

theorem execPlanFail_completes {s : State} : Completes s (execPlanFail s) := by
  unfold execPlanFail
  extract_lets old
  exact Completes.of_keeps ((((clk_replaced).andThen State.put_keeps).andThen supLatch_keeps).ite Keeps.rfl)

theorem execTick_completes {addr : BitVec 24} {cnt crc : BitVec 16} {s : State} : Completes s (execTick addr cnt crc s) := by
  unfold execTick
  exact Completes.of_keeps hspRun_keeps

theorem execWrite_completes {addr : BitVec 24} {cnt : BitVec 16} {data : List Word} {crc : BitVec 16} {s : State} : Completes s
  (execWrite addr cnt data crc s) := by
  unfold execWrite
  exact Completes.of_keeps hspRun_keeps

theorem execCommitOpen_completes {cnt crc : BitVec 16} {s : State} : Completes s (execCommitOpen cnt crc s) := by
  unfold execCommitOpen
  exact Completes.of_keeps hspRun_keeps

theorem execCommitApply_completes {cnt crc : BitVec 16} {s : State} : Completes s (execCommitApply cnt crc s) := by
  unfold execCommitApply
  exact Completes.of_keeps hspRun_keeps

theorem execZeroize_completes {addr : BitVec 24} {cnt crc : BitVec 16} {s : State} : Completes s (execZeroize addr cnt crc s) := by
  unfold execZeroize
  exact Completes.of_keeps hspRun_keeps

theorem execWindowRead_completes {addr : BitVec 24} {cnt crc : BitVec 16} {s : State} : Completes s (execWindowRead addr cnt crc s) := by
  unfold execWindowRead
  exact Completes.of_keeps hspRun_keeps

theorem execUndefinedOpcode_completes {op : BitVec 8} {addr : BitVec 24} {cnt crc : BitVec 16} {s : State} : Completes s
  (execUndefinedOpcode op addr cnt crc s) := by
  unfold execUndefinedOpcode
  exact Completes.of_keeps (Keeps.rfl.ite hspRun_keeps)

theorem execTruncatedTransaction_completes {s : State} : Completes s (execTruncatedTransaction s) := by
  unfold execTruncatedTransaction
  extract_lets s1 s2 old
  have hs1 : Keeps [] s s1 := (hspSnap_keeps).mono rfl
  have hs2 : Keeps [] s s2 := (hs1.andThen hspRecord_keeps).mono rfl
  clear_value s1 s2
  split
  · exact Completes.of_keeps Keeps.rfl
  · exact Completes.of_keeps (hs2.andThen (hsp_replaced (by exact id)))

theorem execTunnelTimeout_completes {s : State} : Completes s (execTunnelTimeout s) := by
  unfold execTunnelTimeout
  exact Completes.of_keeps ((tunEnd_keeps).ite Keeps.rfl)

theorem decisionShow_keeps {o : Origin} {d : Deny} {s : State} : Keeps [.hsp, .frw, .nvm] s (decisionShow o d s) := by
  unfold decisionShow
  split
  · rename_i e
    split
    · exact ((State.put_keeps).andThen State.event_keeps).mono rfl
    · extract_lets s1
      have hs1 : Keeps [] s s1 := (((State.put_keeps).andThen State.mark_keeps).andThen State.put_keeps).mono rfl
      clear_value s1
      exact ((hs1.andThen State.put_keeps).andThen State.event_keeps).mono rfl
  · rename_i e
    split
    · split
      · exact ((State.put_keeps).andThen State.event_keeps).mono rfl
      · exact ((((State.put_keeps).andThen State.put_keeps).andThen State.put_keeps).andThen State.event_keeps).mono rfl
    · split
      · exact (swapAbort_keeps).mono rfl
      · exact (((State.put_keeps).andThen State.put_keeps).andThen svcEnd_keeps).mono rfl
      · exact Keeps.rfl.mono rfl

theorem execAdmissionDecision_completes {s : State} : Completes s (execAdmissionDecision s) := by
  unfold execAdmissionDecision
  split
  · exact Completes.of_keeps Keeps.rfl
  · rename_i x c rest e
    extract_lets d old s1 s2
    have hs1 : Keeps [.hsp] s s1 := (hsp_replaced (by exact id)).mono rfl
    have hs2 : Keeps unitParts s s2 := by
      unfold s2
      clear_value d
      clear_value old
      split
      · exact ((hs1.andThen acceptCommit_keeps).andThen State.bump64_keeps).mono rfl
      · exact (hs1.andThen State.bump64_keeps).mono rfl
    clear_value s1 s2
    exact Completes.of_keeps ((hs2.andThen decisionShow_keeps).andThen remapsWaiting_keeps)

theorem execRegisterWrite_completes {o : Origin} {a : BitVec 24} {w : Word} {s : State} : Completes s (execRegisterWrite o a w s) := by
  unfold execRegisterWrite
  extract_lets ws s1
  have hs1 : Keeps unitParts s s1 := (applyNow_keeps).mono rfl
  clear_value s1
  split
  · exact Completes.of_keeps Keeps.rfl
  · rename_i e
    split
    · exact Completes.of_keeps Keeps.rfl
    · exact Completes.of_keeps ((hs1.andThen admitted_keeps).ite hs1)

theorem execRstAssert_completes {short : Bool} {s : State} : Completes s (execRstAssert short s) := by
  unfold execRstAssert
  extract_lets v t old t1 t2 old1
  have hv : Keeps [.free] s v.2 := (State.fresh_keeps).mono rfl
  have ht : Keeps unitParts s t := ((hv.andThen offState_keeps).andThen offCause_keeps).mono rfl
  have ht1 : Keeps unitParts s t1 := (ht.andThen pwr_replaced).mono rfl
  have ht2 : Keeps [.clk, .pwr, .hsp, .time, .int, .mic, .flt, .lsn, .drl, .swa, .que, .hg, .frw, .adc, .mon, .saf, .nvm] s t2 :=
    ((offState_keeps).andThen offCause_keeps).mono rfl
  clear_value v t t1 t2
  split
  · exact Completes.of_keeps Keeps.rfl
  · rename_i e
    split
    · split
      · exact Completes.of_keeps hv
      · exact Completes.of_keeps ((ht1.andThen strapsPut_keeps).andThen forwardFollow_keeps)
    · exact Completes.of_keeps (ht2.andThen pwr_replaced)

theorem execSupplyGood_completes {v : Fin 7} {devid : Fin 4} {clksrc test0 io33 : Bool} {s : State} : Completes s
  (execSupplyGood v devid clksrc test0 io33 s) := by
  unfold execSupplyGood
  extract_lets old s1
  have hs1 : Keeps [.pwr] s s1 := (pwr_replaced).mono rfl
  clear_value s1
  split
  · exact Completes.of_keeps Keeps.rfl
  · exact Completes.of_keeps ((hs1.andThen release124_keeps).ite hs1)

theorem execSelfTestPhaseAEnd_completes {pass : Bool} {s : State} : Completes s (execSelfTestPhaseAEnd pass s) := by
  unfold execSelfTestPhaseAEnd
  extract_lets s1
  have hs1 : Keeps [.pwr] s s1 := ((State.mark_keeps).ite startFail_keeps).mono rfl
  clear_value s1
  split
  · exact Completes.of_keeps ((hs1.andThen stepEnd_keeps).andThen stepsGo_keeps)
  · exact Completes.of_keeps Keeps.rfl

theorem execStateRequest_completes {o : Origin} {target : Fin 6} {s : State} : Completes s (execStateRequest o target s) := by
  unfold execStateRequest
  split
  · exact Completes.of_keeps requestState_keeps
  · exact Completes.of_keeps Keeps.rfl

theorem execTmcEnd_completes {p : Fin 32} {s : State} : Completes s (execTmcEnd p s) := by
  unfold execTmcEnd
  exact Completes.of_keeps ((settleEnd_keeps).ite Keeps.rfl)

theorem execNeighbourEvent_completes {p : Fin 32} {s : State} : Completes s (execNeighbourEvent p s) := by
  unfold execNeighbourEvent
  extract_lets p1 t
  have ht : Keeps [] s t := ((liveEvent_keeps).andThen State.mark_keeps).mono rfl
  clear_value t
  split
  · exact Completes.of_keeps ((ht.andThen micSet_keeps).ite ht)
  · exact Completes.of_keeps Keeps.rfl

theorem execSuspectClear_completes {p : Fin 32} {s : State} : Completes s (execSuspectClear p s) := by
  unfold execSuspectClear
  extract_lets p1 old old1
  split
  · exact Completes.of_keeps ((micSet_keeps).andThen (mic_replaced (by exact id)))
  · exact Completes.of_keeps Keeps.rfl

theorem execLatchClr_completes {p : Fin 32} {s : State} : Completes s (execLatchClr p s) := by
  unfold execLatchClr
  exact Completes.of_keeps latchClr_keeps

theorem execMapChange_completes {n : Fin 32} {s : State} : Completes s (execMapChange n s) := by
  unfold execMapChange
  extract_lets n1 c s1 old s2
  have hs1 : Keeps [] s s1 := (State.mark_keeps).mono rfl
  have hs2 : Keeps [.flt] s s2 := ((hs1.andThen State.mark_keeps).andThen State.setChain_keeps).mono rfl
  clear_value s1 s2
  split
  · exact Completes.of_keeps Keeps.rfl
  · exact Completes.of_keeps ((hs2.andThen chainCutTo_keeps).ite (hs2.andThen chainRemap_keeps))

theorem execCalStart_completes {s : State} : Completes s (execCalStart s) := by
  unfold execCalStart
  exact Completes.of_keeps ((calStart_keeps).ite Keeps.rfl)

theorem execCalLoad_completes {s : State} : Completes s (execCalLoad s) := by
  unfold execCalLoad
  exact Completes.of_keeps ((calNvm_keeps).ite Keeps.rfl)

theorem fineOutput_keeps {s : State} {n : Nat} : Keeps [.flt, .lsn, .drl, .que, .hg] s (fineOutput s n) := by
  unfold fineOutput
  split
  · exact (fineForm_keeps).mono rfl
  · exact Keeps.rfl.mono rfl

theorem execFineChainOutput_completes {n : Fin 32} {bs : Captured} {differs : Bool} {s : State} : Completes s
  (execFineChainOutput n bs differs s) := by
  unfold execFineChainOutput
  extract_lets n1 s1 t
  have hs1 : Keeps [.flt] s s1 := (feedCaptured_keeps).mono rfl
  have ht : Keeps [.pwr, .time, .flt, .lsn, .drl, .swa, .que, .hg, .saf] s t :=
    (((hs1.andThen fineOutput_keeps).andThen fineKeep_keeps).andThen shadowCompare_keeps).mono rfl
  clear_value s1 t
  split
  · rename_i e
    split
    · exact Completes.of_keeps hs1
    · exact Completes.of_keeps (ht.andThen divFollow_keeps)
  · exact Completes.of_keeps Keeps.rfl

theorem execBankSwap_completes {n : Fin 32} {s : State} : Completes s (execBankSwap n s) := by
  unfold execBankSwap
  extract_lets n1 t i
  exact Completes.of_keeps ((fadeTo_keeps).ite Keeps.rfl)

theorem execCalibrationChange_completes {p : Fin 32} {s : State} : Completes s (execCalibrationChange p s) := by
  unfold execCalibrationChange
  extract_lets p1 taps
  exact Completes.of_keeps ((Keeps.forEach (ps := [.flt]) (fun s1 n => by
      extract_lets i
      exact (fadeTo_keeps).mono rfl)).ite Keeps.rfl)

theorem routeChange_keeps {s : State} {d : Nat} : Keeps [.flt] s (routeChange s d) := by
  unfold routeChange
  extract_lets r src s1
  have hs1 : Keeps [.flt] s s1 := (State.setRoute_keeps).mono rfl
  clear_value s1
  exact (Keeps.rfl.ite ((State.setRoute_keeps).ite (hs1.andThen State.mark_keeps))).mono rfl

theorem execRouteChange_completes {d : Fin 148} {s : State} : Completes s (execRouteChange d s) := by
  unfold execRouteChange
  extract_lets d1 src s1 s2 lost
  have hs1 : Keeps [.flt] s s1 := (routeChange_keeps).mono rfl
  have hs2 : Keeps [.flt, .drl] s s2 := (hs1.andThen drlRestart_keeps).mono rfl
  clear_value s1 s2
  split
  · rename_i e
    split
    · exact Completes.of_keeps hs1
    · exact Completes.of_keeps ((hs2.andThen enrEnd_keeps).ite hs2)
  · exact Completes.of_keeps Keeps.rfl

theorem execSyncPinEdge_completes {s : State} : Completes s (execSyncPinEdge s) := by
  unfold execSyncPinEdge
  exact Completes.of_keeps ((syncEdge_keeps).ite Keeps.rfl)

theorem execWakeClear_completes {att qual more : Bool} {s : State} : Completes s (execWakeClear att qual more s) := by
  unfold execWakeClear
  extract_lets s1 s2
  have hs1 : Keeps [] s s1 := ((State.mark_keeps).ite Keeps.rfl).mono rfl
  have hs2 : Keeps [] s s2 := ((hs1.andThen State.mark_keeps).ite hs1).mono rfl
  clear_value s1 s2
  exact Completes.of_keeps ((hs2.andThen State.mark_keeps).ite hs2)

theorem execFeatureFrame_completes {ins : BitVec 5} {late stopLate : Bool} {lanes : Option (List
  (Fin 64 × Fin 4 × BitVec 10))} {s : State} : Completes s (execFeatureFrame ins late stopLate lanes s) := by
  unfold execFeatureFrame
  extract_lets ns s1 stops s2 s3 r s4 s5
  have hs1 : Keeps [] s s1 := (((State.incSat_keeps).andThen State.event_keeps).ite Keeps.rfl).mono rfl
  have hs2 : Keeps [.pwr, .time, .lsn, .drl, .swa, .saf] s s2 := ((hs1.andThen diagEvent_keeps).ite hs1).mono rfl
  have hs3 : Keeps [.pwr, .time, .lsn, .drl, .swa, .saf] s s3 := ((hs2.andThen diagEvent_keeps).ite hs2).mono rfl
  have hr : Keeps [.pwr, .time, .lsn, .drl, .swa, .saf, .free] s r.1 := (hs3.andThen (Keeps.foldl_fst (ps := [.drl, .free]) (fun s b a => by
      extract_lets r1
      have hr1 : Keeps [.drl, .free] s r1.1 := (inputFrame_keeps).mono rfl
      clear_value r1
      exact hr1.mono rfl))).mono rfl
  have hs4 : Keeps stateParts s s4 := (hr.andThen outsAct_keeps).mono rfl
  have hs5 : Keeps stateParts s s5 :=
    ((hs4.andThen (Keeps.forEach (ps := [.pwr, .time, .lsn, .drl, .swa, .hg, .saf, .free]) (fun _ _ =>
      ((State.event_keeps).andThen stopTake_keeps).mono rfl))).ite hs4).mono rfl
  clear_value s1 s2 s3 r s4 s5
  split
  · exact Completes.of_keeps Keeps.rfl
  · exact Completes.of_keeps (hs5.andThen segmentCut_keeps)

theorem execInstall_completes {slot : Fin 64} {s : State} : Completes s (execInstall slot s) := by
  unfold execInstall
  exact recRow_completes

theorem execExport_completes {slot : Fin 64} {s : State} : Completes s (execExport slot s) := by
  unfold execExport
  exact recRow_completes

theorem execErase_completes {slot : Fin 64} {s : State} : Completes s (execErase slot s) := by
  unfold execErase
  exact recRow_completes

theorem execPut_completes {slot : Fin 64} {s : State} : Completes s (execPut slot s) := by
  unfold execPut
  exact recRow_completes

theorem execClose_completes {slot : Fin 64} {s : State} : Completes s (execClose slot s) := by
  unfold execClose
  exact recRow_completes

theorem execEnrolmentAbort_completes {s : State} : Completes s (execEnrolmentAbort s) := by
  unfold execEnrolmentAbort
  exact Completes.of_keeps enrEnd_keeps

theorem execEnrolmentTimeout_completes {s : State} : Completes s (execEnrolmentTimeout s) := by
  unfold execEnrolmentTimeout
  exact Completes.of_keeps ((enrEnd_keeps).ite Keeps.rfl)

theorem execSwathBlockStart_completes {k : Nat} {s : State} : Completes s (execSwathBlockStart k s) := by
  unfold execSwathBlockStart
  exact Completes.of_keeps (((blockStart_keeps).andThen stripCounts_keeps).ite Keeps.rfl)

theorem execMittenRelease_completes {o : Origin} {s : State} : Completes s (execMittenRelease o s) := by
  unfold execMittenRelease
  exact Completes.of_keeps mittenClose_keeps

theorem execUnloadBlockSend_completes {k : Nat} {s : State} : Completes s (execUnloadBlockSend k s) := by
  unfold execUnloadBlockSend
  exact Completes.of_keeps ((unloadNext_keeps).ite Keeps.rfl)

theorem execUack_completes {k upTo : Nat} {s : State} : Completes s (execUack k upTo s) := by
  unfold execUack
  exact Completes.of_keeps ((unloadAck_keeps).ite Keeps.rfl)

theorem execZeroizeSweepDone_completes {short : Bool} {s : State} : Completes s (execZeroizeSweepDone short s) := by
  unfold execZeroizeSweepDone
  extract_lets at7 s1 s2
  have hs1 : Keeps [.pwr, .swa] s s1 := ((zeroDone_keeps).andThen transDone_keeps).mono rfl
  have hs2 : Keeps [.pwr, .swa] s s2 := ((hs1.andThen zeroShortStart_keeps).ite hs1).mono rfl
  clear_value s1 s2
  split
  · rename_i e
    split
    · exact Completes.of_keeps (((hs2.andThen stepEnd_keeps).ite hs2).andThen stepsGo_keeps)
    · exact Completes.of_keeps Keeps.rfl
  · rename_i e
    split
    · exact Completes.of_keeps (((hs2.andThen stepEnd_keeps).ite hs2).andThen stepsGo_keeps)
    · exact Completes.of_keeps Keeps.rfl

theorem execPatrolScrub_completes {r : Fin 32768} {corrected : BitVec 8} {found : List (Fin 128) × List
  (Bool × Bool × Fin 4194304)} {s : State} : Completes s (execPatrolScrub r corrected found s) := by
  unfold execPatrolScrub
  exact Completes.of_keeps (((scrubRow_keeps).andThen wordsStruck_keeps).ite Keeps.rfl)

theorem execSentryCoreRestart_completes {s : State} : Completes s (execSentryCoreRestart s) := by
  unfold execSentryCoreRestart
  exact Completes.of_keeps ((coreInit_keeps).ite Keeps.rfl)

theorem execCoreStep_completes {c : Fin 4} {s : State} : Completes s (execCoreStep c s) := by
  unfold execCoreStep
  exact Completes.of_keeps coreStep_keeps

theorem execCoreRetire_completes {c : Fin 4} {s : State} : Completes s (execCoreRetire c s) := by
  unfold execCoreRetire
  exact Completes.of_keeps (Keeps.rfl.ite ((coreRetired_keeps).andThen retireMap_keeps))

theorem execSentryCoreRun_completes {b : Bool} {s : State} : Completes s (execSentryCoreRun b s) := by
  unfold execSentryCoreRun
  exact Completes.of_keeps sentRunWrite_keeps

theorem execSub_completes {i : RForm} {s : State} : Completes s (execSub i s) := by
  unfold execSub
  exact Completes.of_keeps alu_keeps

theorem execOrn_completes {i : RForm} {s : State} : Completes s (execOrn i s) := by
  unfold execOrn
  exact Completes.of_keeps alu_keeps

theorem execSll_completes {i : RForm} {s : State} : Completes s (execSll i s) := by
  unfold execSll
  exact Completes.of_keeps alu_keeps

theorem execRor_completes {i : RForm} {s : State} : Completes s (execRor i s) := by
  unfold execRor
  exact Completes.of_keeps alu_keeps

theorem execMin_completes {i : RForm} {s : State} : Completes s (execMin i s) := by
  unfold execMin
  exact Completes.of_keeps alu_keeps

theorem execMax_completes {i : RForm} {s : State} : Completes s (execMax i s) := by
  unfold execMax
  exact Completes.of_keeps alu_keeps

theorem execMaxu_completes {i : RForm} {s : State} : Completes s (execMaxu i s) := by
  unfold execMaxu
  exact Completes.of_keeps alu_keeps

theorem execAdds_completes {i : RForm} {s : State} : Completes s (execAdds i s) := by
  unfold execAdds
  exact Completes.of_keeps aluSat_keeps

theorem execClz_completes {i : RForm} {s : State} : Completes s (execClz i s) := by
  unfold execClz
  exact Completes.of_keeps alu1_keeps

theorem execCtz_completes {i : RForm} {s : State} : Completes s (execCtz i s) := by
  unfold execCtz
  exact Completes.of_keeps alu1_keeps

theorem execPopc_completes {i : RForm} {s : State} : Completes s (execPopc i s) := by
  unfold execPopc
  exact Completes.of_keeps alu1_keeps

theorem execSexth_completes {i : RForm} {s : State} : Completes s (execSexth i s) := by
  unfold execSexth
  exact Completes.of_keeps alu1_keeps

theorem execAddi_completes {i : IForm} {s : State} : Completes s (execAddi i s) := by
  unfold execAddi
  exact Completes.of_keeps aluImm_keeps

theorem execAndi_completes {i : IForm} {s : State} : Completes s (execAndi i s) := by
  unfold execAndi
  exact Completes.of_keeps aluImm_keeps

theorem execOri_completes {i : IForm} {s : State} : Completes s (execOri i s) := by
  unfold execOri
  exact Completes.of_keeps aluImm_keeps

theorem execShori_completes {i : IForm} {s : State} : Completes s (execShori i s) := by
  unfold execShori
  exact Completes.of_keeps aluImm_keeps

theorem execSrli_completes {i : IForm} {s : State} : Completes s (execSrli i s) := by
  unfold execSrli
  exact Completes.of_keeps aluImm_keeps

theorem execSrai_completes {i : IForm} {s : State} : Completes s (execSrai i s) := by
  unfold execSrai
  exact Completes.of_keeps aluImm_keeps

theorem execSlti_completes {i : IForm} {s : State} : Completes s (execSlti i s) := by
  unfold execSlti
  exact Completes.of_keeps aluImm_keeps

theorem execSltiu_completes {i : IForm} {s : State} : Completes s (execSltiu i s) := by
  unfold execSltiu
  exact Completes.of_keeps aluImm_keeps

theorem execCmpEq_completes {i : RForm} {s : State} : Completes s (execCmpEq i s) := by
  unfold execCmpEq
  exact Completes.of_keeps cmpR_keeps

theorem execCmpNe_completes {i : RForm} {s : State} : Completes s (execCmpNe i s) := by
  unfold execCmpNe
  exact Completes.of_keeps cmpR_keeps

theorem execCmpGe_completes {i : RForm} {s : State} : Completes s (execCmpGe i s) := by
  unfold execCmpGe
  exact Completes.of_keeps cmpR_keeps

theorem execCmpiEq_completes {i : IForm} {s : State} : Completes s (execCmpiEq i s) := by
  unfold execCmpiEq
  exact Completes.of_keeps cmpI_keeps

theorem execCmpiNe_completes {i : IForm} {s : State} : Completes s (execCmpiNe i s) := by
  unfold execCmpiNe
  exact Completes.of_keeps cmpI_keeps

theorem execCmpiLtu_completes {i : IForm} {s : State} : Completes s (execCmpiLtu i s) := by
  unfold execCmpiLtu
  exact Completes.of_keeps cmpI_keeps

theorem execPor_completes {i : RForm} {s : State} : Completes s (execPor i s) := by
  unfold execPor
  exact Completes.of_keeps predOp_keeps

theorem execPxor_completes {i : RForm} {s : State} : Completes s (execPxor i s) := by
  unfold execPxor
  exact Completes.of_keeps predOp_keeps

theorem execPorn_completes {i : RForm} {s : State} : Completes s (execPorn i s) := by
  unfold execPorn
  exact Completes.of_keeps predOp_keeps

theorem execMtp_completes {i : RForm} {s : State} : Completes s (execMtp i s) := by
  unfold execMtp
  exact Completes.of_keeps issue_keeps

theorem execBr_completes {i : BForm} {s : State} : Completes s (execBr i s) := by
  unfold execBr
  exact Completes.of_keeps issue_keeps

theorem execJalr_completes {i : RForm} {func : BitVec 8} {words slot : Fin 3} {s : State} : Completes s (execJalr i func words slot s) := by
  unfold execJalr
  extract_lets k before legal
  exact Completes.of_keeps issue_keeps

theorem execBz_completes {i : IForm} {s : State} : Completes s (execBz i s) := by
  unfold execBz
  exact Completes.of_keeps branchIf_keeps

theorem execBgez_completes {i : IForm} {s : State} : Completes s (execBgez i s) := by
  unfold execBgez
  exact Completes.of_keeps branchIf_keeps

theorem execBgtz_completes {i : IForm} {s : State} : Completes s (execBgtz i s) := by
  unfold execBgtz
  exact Completes.of_keeps branchIf_keeps

theorem execSmac_completes {i : RForm} {x y : Bool} {s : State} : Completes s (execSmac i x y s) := by
  unfold execSmac
  exact Completes.of_keeps smacStep_keeps

theorem execSclr_completes {i : RForm} {s : State} : Completes s (execSclr i s) := by
  unfold execSclr
  extract_lets legal
  exact Completes.of_keeps issue_keeps

theorem execSacset_completes {i : RForm} {s : State} : Completes s (execSacset i s) := by
  unfold execSacset
  exact Completes.of_keeps issue_keeps

theorem execSetm_completes {i : RForm} {func : BitVec 8} {s : State} : Completes s (execSetm i func s) := by
  unfold execSetm
  exact Completes.of_keeps (issueX_keeps (fs := [.hsp, .frw, .free]) (fun _ => ((regsPut_keeps).andThen bundleDone_keeps).mono rfl))

theorem execMtcr_completes {i : RForm} {func : BitVec 8} {s : State} : Completes s (execMtcr i func s) := by
  unfold execMtcr
  exact Completes.of_keeps (issueX_keeps (fs := [.hsp, .frw, .free]) (fun _ => ((crWrite_keeps).andThen bundleDone_keeps).mono rfl))

theorem execVadd_completes {i : RForm} {func : BitVec 8} {s : State} : Completes s (execVadd i func s) := by
  unfold execVadd
  exact Completes.of_keeps lanes2_keeps

theorem execVadds_completes {i : RForm} {func : BitVec 8} {s : State} : Completes s (execVadds i func s) := by
  unfold execVadds
  exact Completes.of_keeps lanes2_keeps

theorem execVabs_completes {i : RForm} {func : BitVec 8} {s : State} : Completes s (execVabs i func s) := by
  unfold execVabs
  extract_lets w
  exact Completes.of_keeps vecTo_keeps

theorem execVor_completes {i : RForm} {s : State} : Completes s (execVor i s) := by
  unfold execVor
  exact Completes.of_keeps whole2_keeps

theorem execVxor_completes {i : RForm} {s : State} : Completes s (execVxor i s) := by
  unfold execVxor
  exact Completes.of_keeps whole2_keeps

theorem execVandn_completes {i : RForm} {s : State} : Completes s (execVandn i s) := by
  unfold execVandn
  exact Completes.of_keeps whole2_keeps

theorem execVsll_completes {i : RForm} {func : BitVec 8} {s : State} : Completes s (execVsll i func s) := by
  unfold execVsll
  exact Completes.of_keeps shiftLanes_keeps

theorem execVsrl_completes {i : RForm} {func : BitVec 8} {s : State} : Completes s (execVsrl i func s) := by
  unfold execVsrl
  exact Completes.of_keeps shiftLanes_keeps

theorem execVsrar_completes {i : RForm} {func : BitVec 8} {s : State} : Completes s (execVsrar i func s) := by
  unfold execVsrar
  exact Completes.of_keeps shiftLanes_keeps

theorem execVcmpLtu_completes {i : RForm} {func : BitVec 8} {s : State} : Completes s (execVcmpLtu i func s) := by
  unfold execVcmpLtu
  exact Completes.of_keeps cmpLanes_keeps

theorem execVcmpLe_completes {i : RForm} {func : BitVec 8} {s : State} : Completes s (execVcmpLe i func s) := by
  unfold execVcmpLe
  exact Completes.of_keeps cmpLanes_keeps

theorem execVbsl_completes {i : RForm} {func : BitVec 8} {s : State} : Completes s (execVbsl i func s) := by
  unfold execVbsl
  exact Completes.of_keeps vecTo_keeps

theorem execVsplat_completes {i : RForm} {func : BitVec 8} {s : State} : Completes s (execVsplat i func s) := by
  unfold execVsplat
  extract_lets w
  exact Completes.of_keeps vecTo_keeps

theorem execVget_completes {i : RForm} {func : BitVec 8} {s : State} : Completes s (execVget i func s) := by
  unfold execVget
  extract_lets w n legal
  exact Completes.of_keeps issue_keeps

theorem execVput_completes {i : RForm} {func : BitVec 8} {s : State} : Completes s (execVput i func s) := by
  unfold execVput
  extract_lets w n legal
  exact Completes.of_keeps vecTo_keeps

theorem execVslide_completes {i : RForm} {func : BitVec 8} {s : State} : Completes s (execVslide i func s) := by
  unfold execVslide
  extract_lets w n legal
  exact Completes.of_keeps vecTo_keeps

theorem execVmac_completes {i : RForm} {func : BitVec 8} {s : State} : Completes s (execVmac i func s) := by
  unfold execVmac
  exact Completes.of_keeps accTo_keeps

theorem execVmsu_completes {i : RForm} {func : BitVec 8} {s : State} : Completes s (execVmsu i func s) := by
  unfold execVmsu
  exact Completes.of_keeps accTo_keeps

theorem execVclr_completes {i : RForm} {func : BitVec 8} {s : State} : Completes s (execVclr i func s) := by
  unfold execVclr
  exact Completes.of_keeps accTo_keeps

theorem execVext_completes {i : RForm} {func : BitVec 8} {s : State} : Completes s (execVext i func s) := by
  unfold execVext
  extract_lets w legal
  exact Completes.of_keeps vecTo_keeps

theorem execVacget_completes {i : RForm} {func : BitVec 8} {s : State} : Completes s (execVacget i func s) := by
  unfold execVacget
  extract_lets legal
  exact Completes.of_keeps vecTo_keeps

theorem execLdb_completes {i : IForm} {s : State} : Completes s (execLdb i s) := by
  unfold execLdb
  exact Completes.of_keeps loadImm_keeps

theorem execLdbu_completes {i : IForm} {s : State} : Completes s (execLdbu i s) := by
  unfold execLdbu
  exact Completes.of_keeps loadImm_keeps

theorem execLdh_completes {i : IForm} {s : State} : Completes s (execLdh i s) := by
  unfold execLdh
  exact Completes.of_keeps loadImm_keeps

theorem execLdhu_completes {i : IForm} {s : State} : Completes s (execLdhu i s) := by
  unfold execLdhu
  exact Completes.of_keeps loadImm_keeps

theorem execLdvl_completes {i : IForm} {s : State} : Completes s (execLdvl i s) := by
  unfold execLdvl
  exact Completes.of_keeps loadImm_keeps

theorem execStb_completes {i : IForm} {s : State} : Completes s (execStb i s) := by
  unfold execStb
  exact Completes.of_keeps storeImm_keeps

theorem execSth_completes {i : IForm} {s : State} : Completes s (execSth i s) := by
  unfold execSth
  exact Completes.of_keeps storeImm_keeps

theorem execStv_completes {i : IForm} {s : State} : Completes s (execStv i s) := by
  unfold execStv
  exact Completes.of_keeps storeImm_keeps

theorem execStP_completes {z : Fin 5} {i : IForm} {s : State} : Completes s (execStP z i s) := by
  unfold execStP
  exact Completes.of_keeps (issueL_keeps (fs := unitParts) (gs := [.frw]) (fun _ _ => memStore_leaves)
    (fun _ _ _ _ => baseUpdate_keeps))

theorem execStX_completes {func : BitVec 8} {i : RForm} {s : State} : Completes s (execStX func i s) := by
  unfold execStX
  exact Completes.of_keeps (issueL_keeps (fs := unitParts) (gs := []) (fun _ _ => memStore_leaves)
    (fun _ _ _ _ => Keeps.rfl))

theorem execQpopv_completes {i : IForm} {s : State} : Completes s (execQpopv i s) := by
  unfold execQpopv
  exact Completes.of_keeps popInstr_keeps

theorem execQpush_completes {i : IForm} {s : State} : Completes s (execQpush i s) := by
  unfold execQpush
  exact Completes.of_keeps pushInstr_keeps

theorem execQpushv_completes {i : IForm} {s : State} : Completes s (execQpushv i s) := by
  unfold execQpushv
  exact Completes.of_keeps pushInstr_keeps

theorem execQocc_completes {i : IForm} {s : State} : Completes s (execQocc i s) := by
  unfold execQocc
  refine Completes.of_keeps (issueL_keeps (fs := []) (gs := [.frw]) (fun s _ => ?_) (fun _ _ _ _ => loadGive_keeps))
  dsimp only
  split <;> exact Keeps.rfl

theorem execCommit_completes {func : BitVec 8} {i : RForm} {s : State} : Completes s (execCommit func i s) := by
  unfold execCommit
  extract_lets legal
  exact Completes.of_keeps (issueX_keeps (fs := [.hsp, .frw, .free]) (fun s1 => by
      extract_lets r
      have hr : Keeps [.hsp, .frw] s1 r.1 := ((drainAll_keeps).andThen coreSubmit_keeps).mono rfl
      clear_value r
      exact ((hr.andThen regsPut_keeps).andThen bundleDone_keeps).mono rfl))

theorem execBell_completes {func : BitVec 8} {i : RForm} {s : State} : Completes s (execBell func i s) := by
  unfold execBell
  extract_lets legal
  exact Completes.of_keeps (issueX_keeps (fs := [.hsp, .frw, .free]) (fun _ =>
    (((drainAll_keeps).andThen State.event_keeps).andThen bundleDone_keeps).mono rfl))

theorem exReturn_keeps {s : State} {c : Nat} : Keeps [.hsp, .frw, .free] s (exReturn s c) := by
  unfold exReturn
  extract_lets k old r ds sh r1 r2
  split
  · exact ((State.setCore_keeps).andThen boundary_keeps).mono rfl
  · exact ((State.setCore_keeps).andThen boundary_keeps).mono rfl

theorem execEret_completes {func : BitVec 8} {i : RForm} {s : State} : Completes s (execEret func i s) := by
  unfold execEret
  exact Completes.of_keeps (issueX_keeps (fs := stopParts) (fun _ => ((exReturn_keeps).ite exception_keeps).mono rfl))

theorem execTrap_completes {func : BitVec 8} {i : RForm} {s : State} : Completes s (execTrap func i s) := by
  unfold execTrap
  exact Completes.of_keeps (issueX_keeps (fs := stopParts) (fun _ => (exception_keeps).mono rfl))

theorem execAmoSwap_completes {i : RForm} {s : State} : Completes s (execAmoSwap i s) := by
  unfold execAmoSwap
  exact Completes.of_keeps amo_keeps

theorem execAmoOr_completes {i : RForm} {s : State} : Completes s (execAmoOr i s) := by
  unfold execAmoOr
  exact Completes.of_keeps amo_keeps

theorem execAmoCas_completes {i : RForm} {s : State} : Completes s (execAmoCas i s) := by
  unfold execAmoCas
  exact Completes.of_keeps amo_keeps

theorem execCreditReturn_completes {n : Nat} {s : State} : Completes s (execCreditReturn n s) := by
  unfold execCreditReturn
  extract_lets old
  exact Completes.of_keeps ((State.setQueue_keeps).ite Keeps.rfl)

theorem execBqPop_completes {b : Fin 16} {s : State} : Completes s (execBqPop b s) := by
  unfold execBqPop
  exact Completes.of_keeps ((beamPop_keeps).ite Keeps.rfl)

theorem execAuditFault_completes {n : Fin 72} {s : State} : Completes s (execAuditFault n s) := by
  unfold execAuditFault
  exact Completes.of_keeps (((((State.mark_keeps).andThen State.put_keeps).andThen State.event_keeps).andThen diagEvent_keeps).ite Keeps.rfl)

theorem execSourceEdge_completes {n : Nat} {s : State} : Completes s (execSourceEdge n s) := by
  unfold execSourceEdge
  exact Completes.of_keeps ((State.event_keeps).ite Keeps.rfl)

theorem execPendClear_completes {w : Nat} {v : Word} {s : State} : Completes s (execPendClear w v s) := by
  unfold execPendClear
  exact Completes.of_keeps ((intClear_keeps).ite Keeps.rfl)

theorem execTrig_completes {x : Fin 2} {s : State} : Completes s (execTrig x s) := by
  unfold execTrig
  exact Completes.of_keeps ((adcTrig_keeps).ite Keeps.rfl)

theorem execUrgentRequest_completes {x : Fin 2} {e : Fin 16} {s : State} : Completes s (execUrgentRequest x e s) := by
  unfold execUrgentRequest
  exact Completes.of_keeps ((adcUrgent_keeps).ite Keeps.rfl)

theorem execSelf_completes {s : State} : Completes s (execSelf s) := by
  unfold execSelf
  exact Completes.of_keeps ((adcSelf_keeps).ite Keeps.rfl)

theorem execFull_completes {x : Fin 2} {e : Fin 16} {s : State} : Completes s (execFull x e s) := by
  unfold execFull
  exact Completes.of_keeps sysWrite_keeps

theorem execThermalReading_completes {n : Fin 4} {t : BitVec 12} {s : State} : Completes s (execThermalReading n t s) := by
  unfold execThermalReading
  extract_lets n1 v s1 warm was crit old s2 s3 s4
  have hs1 : Keeps [] s s1 := (State.put_keeps).mono rfl
  have hs2 : Keeps [.mon] s s2 := (hs1.andThen (mon_replaced (by simp +contextual +zetaDelta [MonOk, setNth]))).mono rfl
  have hs3 : Keeps [.mon] s s3 := ((hs2.andThen State.putBit_keeps).andThen State.mark_keeps).mono rfl
  have hs4 : Keeps [.mon] s s4 := (hs3.andThen State.level_keeps).mono rfl
  clear_value s1 s2 s3 s4
  split
  · exact Completes.of_keeps ((hs4.andThen diagEvent_keeps).ite hs4)
  · exact Completes.of_keeps Keeps.rfl

theorem execPmGate_completes {counts : List (BitVec 20)} {s : State} : Completes s (execPmGate counts s) := by
  unfold execPmGate
  split
  · exact Completes.of_keeps ((Keeps.forEach (ps := [.pwr, .time, .lsn, .drl, .swa, .saf])
    (fun _ _ => (ringCount_keeps).mono rfl)).andThen monFollow_keeps)
  · exact Completes.of_keeps Keeps.rfl

theorem execSentryAvsEval_completes {fails : BitVec 8} {margin : Bool} {s : State} : Completes s (execSentryAvsEval fails margin s) := by
  unfold execSentryAvsEval
  extract_lets canf runOk marOk old s1 s2 v lo hi up clean down s3 old1
  have hs1 : Keeps [.mon] s s1 := (mon_replaced (by exact id)).mono rfl
  have hs2 : Keeps [.mon] s s2 := (hs1.andThen State.put_keeps).mono rfl
  have hs3 : Keeps [.pwr, .time, .lsn, .drl, .swa, .mon, .saf] s s3 := ((hs2.andThen railCount_keeps).andThen railCount_keeps).mono rfl
  clear_value s1 s2 s3
  split
  · rename_i e
    split
    · exact Completes.of_keeps (hs2.andThen monFollow_keeps)
    · split
      · exact Completes.of_keeps (hs3.andThen voltSet_keeps)
      · split
        · exact Completes.of_keeps ((hs3.andThen voltSet_keeps).ite hs3)
        · split
          · exact Completes.of_keeps ((hs3.andThen (mon_replaced (by exact id))).andThen voltSet_keeps)
          · exact Completes.of_keeps hs3
  · exact Completes.of_keeps Keeps.rfl

theorem execCoreAvsEval_completes {s : State} : Completes s (execCoreAvsEval s) := by
  unfold execCoreAvsEval
  extract_lets old s1
  have hs1 : Keeps [.mon] s s1 := (mon_replaced (by exact id)).mono rfl
  clear_value s1
  split
  · rename_i e
    split
    · exact Completes.of_keeps (hs1.andThen monFollow_keeps)
    · extract_lets s2 v lo hi tgt up down s3 old1 s4
      have hs2 : Keeps [.mon] s s2 := (hs1.andThen State.put_keeps).mono rfl
      have hs3 : Keeps [.pwr, .time, .lsn, .drl, .swa, .mon, .saf] s s3 := ((hs2.andThen railCount_keeps).andThen railCount_keeps).mono rfl
      have hs4 : Keeps [.pwr, .time, .lsn, .drl, .swa, .mon, .saf] s s4 := (hs3.andThen (mon_replaced (by exact id))).mono rfl
      clear_value s2 s3 s4
      split
      · exact Completes.of_keeps (hs1.andThen monFollow_keeps)
      · split
        · exact Completes.of_keeps hs1
        · split
          · exact Completes.of_keeps (hs3.andThen voltSet_keeps)
          · split
            · exact Completes.of_keeps ((hs3.andThen voltSet_keeps).ite hs3)
            · split
              · exact Completes.of_keeps (hs4.andThen voltSet_keeps)
              · exact Completes.of_keeps hs3
  · exact Completes.of_keeps Keeps.rfl

theorem execPmerrClear_completes {s : State} : Completes s (execPmerrClear s) := by
  unfold execPmerrClear
  exact Completes.of_keeps pmerrClear_keeps

theorem execDetectEnd_completes {x : Fin 2} {l0 l1 : Bool} {s : State} : Completes s (execDetectEnd x l0 l1 s) := by
  unfold execDetectEnd
  extract_lets k s1 old
  have hs1 : Keeps [] s s1 := ((State.mark_keeps).andThen State.mark_keeps).mono rfl
  clear_value s1
  exact Completes.of_keeps (((hs1.andThen State.setHgp_keeps).andThen State.put_keeps).ite Keeps.rfl)

theorem execEqEnd_completes {x : Fin 2} {v0 v1 : EqVal} {s : State} : Completes s (execEqEnd x v0 v1 s) := by
  unfold execEqEnd
  exact Completes.of_keeps ((((eqSet_keeps).andThen eqSet_keeps).andThen State.put_keeps).ite Keeps.rfl)

theorem peerSet_keeps {s : State} {x c3 : Nat} : Keeps [] s (peerSet s x c3) := by
  unfold peerSet
  exact (((State.put_keeps).andThen State.mark_keeps).andThen State.mark_keeps).mono rfl

theorem execIdentEnd_completes {x : Fin 2} {c3 : BitVec 4} {txLanes lreq : BitVec 2} {keepState : Bool} {slots : BitVec 8 × BitVec 8 × BitVec 8 × BitVec 8} {s : State} : Completes s (execIdentEnd x c3 txLanes lreq keepState slots s) := by
  unfold execIdentEnd
  extract_lets s1 kept s2 old p adv s3 s4
  have hs1 : Keeps [] s s1 := (peerSet_keeps).mono rfl
  have hs2 : Keeps [.hg] s s2 := (hs1.ite (hs1.andThen linkReset_keeps)).mono rfl
  have hs3 : Keeps [.hg] s s3 := (hs2.andThen State.setHgp_keeps).mono rfl
  have hs4 : Keeps [.hg] s s4 := (hs3.andThen State.put_keeps).mono rfl
  clear_value s1 s2 s3 s4
  split
  · rename_i e
    split
    · exact Completes.of_keeps (hs1.andThen hgStop_keeps)
    · exact Completes.of_keeps (hs4.andThen lanesAgree_keeps)
  · exact Completes.of_keeps Keeps.rfl

theorem execRttEnd_completes {x : Fin 2} {s : State} : Completes s (execRttEnd x s) := by
  unfold execRttEnd
  extract_lets p kept oneway s1 s2 s3 s4 s5 s6 s7
  have hs1 : Keeps [] s s1 := ((State.put_keeps).andThen State.put_keeps).mono rfl
  have hs2 : Keeps [] s s2 := (hs1.andThen State.put_keeps).mono rfl
  have hs3 : Keeps [] s s3 := ((hs2.andThen State.put_keeps).andThen State.mark_keeps).mono rfl
  have hs4 : Keeps [.hg] s s4 := (hs3.andThen State.setHgp_keeps).mono rfl
  have hs5 : Keeps [.hg] s s5 := ((hs4.andThen State.level_keeps).andThen State.event_keeps).mono rfl
  have hs6 : Keeps [.hg] s s6 := (((hs5.andThen hgOverres_keeps).andThen hgRoutes_keeps).andThen syncLatCheck_keeps).mono rfl
  have hs7 : Keeps [.swa, .hg] s s7 := ((hs6.andThen hgKeepLane_keeps).ite hs6).mono rfl
  clear_value s1 s2 s3 s4 s5 s6 s7
  split
  · exact Completes.of_keeps (hs7.ite ((hs7.andThen State.put_keeps).andThen hgHello_keeps))
  · exact Completes.of_keeps Keeps.rfl

theorem execTrainingTimeout_completes {x : Fin 2} {s : State} : Completes s (execTrainingTimeout x s) := by
  unfold execTrainingTimeout
  exact Completes.of_keeps ((hgFail_keeps).ite Keeps.rfl)

theorem execLanesChange_completes {x : Fin 2} {old : BitVec 2} {s : State} : Completes s (execLanesChange x old s) := by
  unfold execLanesChange
  exact Completes.of_keeps hgLanesChange_keeps

theorem execStatusFrame_completes {x : Fin 2} {frame : List Byte} {e0 e1 : Nat} {abort : Bool} {s : State} : Completes s
  (execStatusFrame x frame e0 e1 abort s) := by
  unfold execStatusFrame
  extract_lets s1
  have hs1 : Keeps [] s s1 := (codeErrors_keeps).mono rfl
  clear_value s1
  split
  · rename_i e
    split
    · exact Completes.of_keeps (hs1.andThen State.bump64_keeps)
    · exact Completes.of_keeps (hs1.andThen State.bump64_keeps)
    · split
      · exact Completes.of_keeps hs1
      · split
        · exact Completes.of_keeps ((hs1.andThen statusTake_keeps).andThen relayPump_keeps)
        · exact Completes.of_keeps (hs1.andThen State.bump64_keeps)
  · exact Completes.of_keeps Keeps.rfl

theorem hgResendFrame_keeps {s : State} {x : Nat} {f : TxFrame} : Keeps [.hg, .free] s (hgResendFrame s x f) := by
  unfold hgResendFrame
  split
  · rename_i x1 s1 w e
    have hs1 : Keeps [.free] s s1 := (Keeps.of_fst msgOnLine_keeps e).mono rfl
    extract_lets k m old s2
    have hs2 : Keeps [.hg, .free] s s2 := (hs1.andThen State.setHgp_keeps).mono rfl
    clear_value s2
    exact ((hs2.andThen State.bump64_keeps).andThen hgLine_keeps).mono rfl

theorem execFrameTransmit_completes {x : Fin 2} {s : State} : Completes s (execFrameTransmit x s) := by
  unfold execFrameTransmit
  split
  · rename_i e
    split
    · exact Completes.of_keeps hgResendFrame_keeps
    · split
      · exact Completes.of_keeps (((hgSendFrame_keeps).andThen ctrSpent_keeps).andThen relayPump_keeps)
      · exact Completes.of_keeps Keeps.rfl
  · exact Completes.of_keeps Keeps.rfl

theorem execAlignMissed_completes {x l : Fin 2} {s : State} : Completes s (execAlignMissed x l s) := by
  unfold execAlignMissed
  exact Completes.of_keeps laneFail_keeps

theorem execPing_completes {x : Fin 2} {i : BitVec 4} {s : State} : Completes s (execPing x i s) := by
  unfold execPing
  exact Completes.of_keeps ((hgLine_keeps).ite Keeps.rfl)

theorem execLanemode_completes {x : Fin 2} {set : BitVec 2} {s : State} : Completes s (execLanemode x set s) := by
  unfold execLanemode
  extract_lets rx old s1
  have hs1 : Keeps [.hg] s s1 := (State.setHgp_keeps).mono rfl
  clear_value s1
  exact Completes.of_keeps ((hs1.andThen hgDegrade_keeps).ite Keeps.rfl)

theorem execLaneFail_completes {x l : Fin 2} {unlock : Bool} {errs : Nat} {s : State} : Completes s (execLaneFail x l unlock errs s) := by
  unfold execLaneFail
  extract_lets s1 s2
  have hs1 : Keeps [] s s1 := (State.bump64_keeps).mono rfl
  have hs2 : Keeps [] s s2 := ((hs1.andThen State.mark_keeps).ite hs1).mono rfl
  clear_value s1 s2
  split
  · exact Completes.of_keeps (hs2.andThen laneFail_keeps)
  · exact Completes.of_keeps Keeps.rfl

theorem execEqAdapt_completes {x l : Fin 2} {e : Fin 4} {up : Bool} {s : State} : Completes s (execEqAdapt x l e up s) := by
  unfold execEqAdapt
  split
  · split
    · extract_lets old new s1 j n old1 s2
      have hs1 : Keeps [] s s1 := (State.putI_keeps).mono rfl
      have hs2 : Keeps [.hg] s s2 := (hs1.andThen State.setHgp_keeps).mono rfl
      clear_value s1 s2
      exact Completes.of_keeps (((hs2.andThen State.mark_keeps).andThen hgError_keeps).ite hs2)
  · exact Completes.of_keeps Keeps.rfl

theorem execErrorRateWindow_completes {x : Fin 2} {e0 e1 : Nat} {s : State} : Completes s (execErrorRateWindow x e0 e1 s) := by
  unfold execErrorRateWindow
  extract_lets s1 sum old old1 s2
  have hs1 : Keeps [] s s1 := (codeErrors_keeps).mono rfl
  have hs2 : Keeps [.hg] s s2 := (hs1.andThen State.setHgp_keeps).mono rfl
  clear_value s1 s2
  split
  · exact Completes.of_keeps ((hs2.andThen hgError_keeps).ite hs2)
  · exact Completes.of_keeps Keeps.rfl

theorem execClockPlan_completes {x : Fin 2} {s : State} : Completes s (execClockPlan x s) := by
  unfold execClockPlan
  exact onMsg_completes (fs := [.clk, .hg, .adc, .mon]) (fun r s1 => by
      extract_lets c m s2 old s3
      have hs2 : Keeps [] s1 s2 := ((State.put_keeps).andThen State.put_keeps).mono rfl
      have hs3 : Keeps [.hg] s1 s3 := ((hs2.andThen (hg_replaced (by exact id))).andThen hgSend_keeps).mono rfl
      clear_value s2 s3
      exact (Keeps.rfl.ite (hs3.andThen planStart_keeps)).mono rfl)

theorem execPlanAck_completes {x : Fin 2} {s : State} : Completes s (execPlanAck x s) := by
  unfold execPlanAck
  exact onMsg_completes (fs := [.clk, .mon]) (fun r s1 => by
      extract_lets old
      exact (((clk_replaced).andThen planHoldTry_keeps).ite Keeps.rfl).mono rfl)

theorem execSync_completes {x : Fin 2} {s : State} : Completes s (execSync x s) := by
  unfold execSync
  exact onMsg_completes (fs := [.flt]) (fun r s1 => by
      extract_lets edge stopped old
      exact (Keeps.rfl.ite ((flt_replaced (by exact id)).ite (((flt_replaced (by exact id)).andThen State.mark_keeps).andThen State.event_keeps))).mono rfl)

theorem execPrewake_completes {x : Fin 2} {s : State} : Completes s (execPrewake x s) := by
  unfold execPrewake
  exact onMsg_completes (fs := []) (fun _ _ => ((partnerPre_keeps).ite Keeps.rfl).mono rfl)

theorem execNotice_completes {x : Fin 2} {s : State} : Completes s (execNotice x s) := by
  unfold execNotice
  exact onMsg_completes (fs := []) (fun r s1 => by
      extract_lets s2 s3
      have hs2 : Keeps [] s1 s2 := (Keeps.forEach (ps := []) (fun _ _ => (State.wr_keeps).mono rfl)).mono rfl
      have hs3 : Keeps [] s1 s3 := ((hs2.andThen State.incSat_keeps).ite hs2).mono rfl
      clear_value s2 s3
      exact (((hs3.andThen State.put_keeps).andThen State.mark_keeps).andThen State.event_keeps).mono rfl)

theorem execKeyHello_completes {x : Fin 2} {s : State} : Completes s (execKeyHello x s) := by
  unfold execKeyHello
  exact onMsg_completes (fs := [.hg]) (fun r s1 => by
      extract_lets s2 k
      have hs2 : Keeps [.hg] s1 s2 := (hgRekey_keeps).mono rfl
      clear_value s2
      exact (hs2.ite ((hs2.andThen State.setKey_keeps).andThen keyDerive_keeps)).mono rfl)

theorem execAudio_completes {x : Fin 2} {s : State} : Completes s (execAudio x s) := by
  unfold execAudio
  exact onMsg_completes (fs := []) (fun _ _ => Keeps.rfl.mono rfl)

theorem execBulkSeg_completes {x : Fin 2} {s : State} : Completes s (execBulkSeg x s) := by
  unfold execBulkSeg
  exact onMsg_completes (fs := []) (fun _ _ => Keeps.rfl.mono rfl)

theorem execBulkAck_completes {x : Fin 2} {s : State} : Completes s (execBulkAck x s) := by
  unfold execBulkAck
  exact onMsg_completes (fs := [.swa]) (fun r s1 => by
      extract_lets k stamp
      exact ((unloadAck_keeps).ite Keeps.rfl).mono rfl)

theorem execBulkRead_completes {x : Fin 2} {s : State} : Completes s (execBulkRead x s) := by
  unfold execBulkRead
  exact onMsg_completes (fs := [.swa, .hg, .saf]) (fun r s1 => by
      extract_lets short a n tag dst data y seg s2
      have hs2 : Keeps [.swa, .saf] s1 s2 := ((eccCheck_keeps).andThen mittenTouch_keeps).mono rfl
      clear_value s2
      exact ((hs2.andThen (Keeps.forEach (ps := [.hg]) (fun _ _ => (hgSend_keeps).mono rfl))).ite ((mittenDeny_keeps).andThen hgSend_keeps)).mono rfl)

theorem execNakDenied_completes {x : Fin 2} {s : State} : Completes s (execNakDenied x s) := by
  unfold execNakDenied
  exact onMsg_completes (fs := []) (fun _ _ => Keeps.rfl.mono rfl)

theorem execSafeHb_completes {x : Fin 2} {s : State} : Completes s (execSafeHb x s) := by
  unfold execSafeHb
  exact onMsg_completes (fs := [.pwr, .time, .lsn, .drl, .swa, .saf]) (fun r s1 => by
      extract_lets b c s2 p healthy q s3 s4 s5 s6
      have hc : Keeps [.pwr, .time, .lsn, .drl, .swa, .saf] s1 c.1 := (pduCheck_keeps).mono rfl
      have hs2 : Keeps [.pwr, .time, .lsn, .drl, .swa, .saf] s1 s2 := hc.mono rfl
      have hs3 : Keeps [.pwr, .time, .lsn, .drl, .swa, .saf] s1 s3 := (hs2.andThen State.setPart_keeps).mono rfl
      have hs4 : Keeps [.pwr, .time, .lsn, .drl, .swa, .saf] s1 s4 := ((hs3.andThen State.mark_keeps).andThen State.mark_keeps).mono rfl
      have hs5 : Keeps [.pwr, .time, .lsn, .drl, .swa, .saf] s1 s5 := (hs4.andThen State.put_keeps).mono rfl
      have hs6 : Keeps [.pwr, .time, .lsn, .drl, .swa, .saf] s1 s6 := (hs5.ite (hs5.andThen diagCount_keeps)).mono rfl
      clear_value c s2 s3 s4 s5 s6
      exact (Keeps.rfl.ite (hc.ite (((hs6.andThen diagCount_keeps).ite hs6).ite hs5))).mono rfl)

theorem execQholdEnd_completes {x : Fin 2} {s : State} : Completes s (execQholdEnd x s) := by
  unfold execQholdEnd
  exact Completes.of_keeps ((hgQuarEnd_keeps).ite Keeps.rfl)

theorem execRelease_completes {x : Fin 2} {s : State} : Completes s (execRelease x s) := by
  unfold execRelease
  exact Completes.of_keeps hgRelease_keeps

theorem execKeyingTimeout_completes {x : Fin 2} {s : State} : Completes s (execKeyingTimeout x s) := by
  unfold execKeyingTimeout
  extract_lets s1
  have hs1 : Keeps [.swa, .hg] s s1 := (macFail_keeps).mono rfl
  clear_value s1
  split
  · exact Completes.of_keeps ((hs1.andThen hgDown_keeps).ite hs1)
  · exact Completes.of_keeps Keeps.rfl

theorem execPartialTunnelTimeout_completes {s : State} : Completes s (execPartialTunnelTimeout s) := by
  unfold execPartialTunnelTimeout
  extract_lets old
  exact Completes.of_keeps ((hg_replaced (by exact id)).ite Keeps.rfl)

theorem execAudioMessageSend_completes {u : Fin 16} {s : State} : Completes s (execAudioMessageSend u s) := by
  unfold execAudioMessageSend
  extract_lets st n l first disc data body old s1
  have hs1 : Keeps [.hg] s s1 := (hg_replaced (by simp +contextual +zetaDelta [HgOk, setNth])).mono rfl
  clear_value s1
  split
  · rename_i x v e
    split
    · exact Completes.of_keeps (hs1.andThen hgQueue_keeps)
    · exact Completes.of_keeps Keeps.rfl
  · exact Completes.of_keeps Keeps.rfl

theorem execConfirmationTimeout_completes {s : State} : Completes s (execConfirmationTimeout s) := by
  unfold execConfirmationTimeout
  split
  · extract_lets old
    exact Completes.of_keeps (((saf_replaced (by exact id)).andThen permitClear_keeps).andThen diagEvent_keeps)
  · exact Completes.of_keeps Keeps.rfl

theorem execRuntokWrite_completes {v : BitVec 16} {s : State} : Completes s (execRuntokWrite v s) := by
  unfold execRuntokWrite
  exact Completes.of_keeps ((runtokWrite_keeps).ite Keeps.rfl)

theorem execRunPermitTimeout_completes {s : State} : Completes s (execRunPermitTimeout s) := by
  unfold execRunPermitTimeout
  exact Completes.of_keeps (((permitClear_keeps).andThen diagEvent_keeps).ite Keeps.rfl)

theorem execReadbackSample_completes {fba fbb wave : Bool} {s : State} : Completes s (execReadbackSample fba fbb wave s) := by
  unfold execReadbackSample
  extract_lets pol s1 old
  have hs1 : Keeps [] s s1 := (State.put_keeps).mono rfl
  clear_value s1
  split
  · rename_i e
    split
    · extract_lets da db match_ s2 s3
      have hs2 : Keeps [.saf] s s2 := (hs1.andThen (saf_replaced (by exact id))).mono rfl
      have hs3 : Keeps [.pwr, .time, .lsn, .drl, .swa, .saf] s s3 := ((hs2.andThen diagEvent_keeps).ite hs2).mono rfl
      clear_value s2 s3
      exact Completes.of_keeps ((hs3.andThen diagEvent_keeps).ite hs3)
  · exact Completes.of_keeps Keeps.rfl

theorem execLockstepMismatch_completes {s : State} : Completes s (execLockstepMismatch s) := by
  unfold execLockstepMismatch
  extract_lets again old s1
  have hs1 : Keeps [.saf] s s1 := (saf_replaced (by exact id)).mono rfl
  clear_value s1
  split
  · exact Completes.of_keeps ((hs1.andThen diagEvent_keeps).andThen scareHold_keeps)
  · exact Completes.of_keeps Keeps.rfl

theorem execProof_completes {pass : Bool} {s : State} : Completes s (execProof pass s) := by
  unfold execProof
  exact Completes.of_keeps ((proofDone_keeps).ite Keeps.rfl)

theorem execHeartbeatTimeout_completes {p : Fin 4} {s : State} : Completes s (execHeartbeatTimeout p s) := by
  unfold execHeartbeatTimeout
  extract_lets s1 old s2 old1 s3
  have hs1 : Keeps [] s s1 := ((State.mark_keeps).andThen State.mark_keeps).mono rfl
  have hs2 : Keeps [.saf] s s2 := (hs1.andThen State.setPart_keeps).mono rfl
  have hs3 : Keeps [.saf] s s3 := ((hs2.andThen (saf_replaced (by exact id))).ite hs2).mono rfl
  clear_value s1 s2 s3
  split
  · rename_i e
    split
    · exact Completes.of_keeps (hs3.andThen diagCount_keeps)
    · exact Completes.of_keeps (hs1.andThen State.setPart_keeps)
  · exact Completes.of_keeps Keeps.rfl

theorem execAckReq_completes {s : State} : Completes s (execAckReq s) := by
  unfold execAckReq
  exact Completes.of_keeps ackReq_keeps

theorem execAckResp_completes {v : BitVec 16} {s : State} : Completes s (execAckResp v s) := by
  unfold execAckResp
  exact Completes.of_keeps ackResp_keeps

theorem execDisarm_completes {s : State} : Completes s (execDisarm s) := by
  unfold execDisarm
  exact Completes.of_keeps disarm_keeps

theorem execScarecrowRestart_completes {pass : Bool} {s : State} : Completes s (execScarecrowRestart pass s) := by
  unfold execScarecrowRestart
  exact Completes.of_keeps ((scareRestart_keeps).ite Keeps.rfl)

theorem execRowrep_completes {s : State} : Completes s (execRowrep s) := by
  unfold execRowrep
  exact Completes.of_keeps svcStart_keeps

theorem execRetire_completes {s : State} : Completes s (execRetire s) := by
  unfold execRetire
  exact Completes.of_keeps svcStart_keeps

theorem execRetireTakesEffect_completes {s : State} : Completes s (execRetireTakesEffect s) := by
  unfold execRetireTakesEffect
  split
  · extract_lets c old old1 s1
    have hs1 : Keeps [.nvm] s s1 := ((storeWords_keeps).andThen (nvm_replaced (x := s1.nvm) fun h => by
      rw [(storeWords_keeps).nvm rfl] at h
      exact h)).mono rfl
    clear_value s1
    split
    · exact Completes.of_keeps (hs1.andThen coreRetired_keeps)
    · exact Completes.of_keeps Keeps.rfl
  · exact Completes.of_keeps Keeps.rfl

theorem execRetireTimeout_completes {s : State} : Completes s (execRetireTimeout s) := by
  unfold execRetireTimeout
  exact Completes.of_keeps (((svcEnd_keeps).andThen admitted_keeps).ite Keeps.rfl)

theorem execUnretire_completes {s : State} : Completes s (execUnretire s) := by
  unfold execUnretire
  exact Completes.of_keeps svcStart_keeps

theorem execReloadSc_completes {s : State} : Completes s (execReloadSc s) := by
  unfold execReloadSc
  exact Completes.of_keeps svcStart_keeps

theorem execServiceActionDone_completes {s : State} : Completes s (execServiceActionDone s) := by
  unfold execServiceActionDone
  split
  · rename_i x fst i l e
    extract_lets r
    have hr : Keeps [.swa, .frw, .saf, .nvm] s r.1 := (Keeps.ite_fst (s := s) svcEffect_keeps Keeps.rfl).mono rfl
    clear_value r
    split
    · exact Completes.of_keeps Keeps.rfl
    · exact Completes.of_keeps ((hr.andThen nvmShow_keeps).andThen svcEnd_keeps)
  · exact Completes.of_keeps Keeps.rfl

theorem execProgram_completes {s : State} : Completes s (execProgram s) := by
  unfold execProgram
  exact Completes.of_keeps nvmStart_keeps

theorem execActivate_completes {s : State} : Completes s (execActivate s) := by
  unfold execActivate
  exact Completes.of_keeps nvmStart_keeps

theorem execProvkey_completes {s : State} : Completes s (execProvkey s) := by
  unfold execProvkey
  exact Completes.of_keeps nvmStart_keeps

theorem execProvlink_completes {s : State} : Completes s (execProvlink s) := by
  unfold execProvlink
  exact Completes.of_keeps nvmStart_keeps

theorem execRecwrite_completes {s : State} : Completes s (execRecwrite s) := by
  unfold execRecwrite
  exact Completes.of_keeps nvmStart_keeps

theorem execRecread_completes {s : State} : Completes s (execRecread s) := by
  unfold execRecread
  exact Completes.of_keeps nvmStart_keeps

theorem execNvmCommandDone_completes {worn : Option (Fin 512)} {s : State} : Completes s (execNvmCommandDone worn s) := by
  unfold execNvmCommandDone
  split
  · extract_lets old s1 r s2
    have hs1 : Keeps [.nvm] s s1 := (nvm_replaced (by exact id)).mono rfl
    have hr : Keeps [.nvm] s r.1 := (Keeps.ite_fst (hs1.andThen nvmEffect_keeps) ((hs1.andThen bufZero_keeps).ite hs1)).mono rfl
    have hs2 : Keeps [.nvm] s s2 := (hr.andThen nvmShow_keeps).mono rfl
    clear_value s1 r s2
    exact Completes.of_keeps ((((hs2.andThen State.mark_keeps).andThen State.mark_keeps).andThen State.put_keeps).andThen State.event_keeps)
  · exact Completes.of_keeps Keeps.rfl

theorem execReclaim_completes {s : State} : Completes s (execReclaim s) := by
  unfold execReclaim
  split
  · rename_i e
    split
    · rename_i x v e1
      refine Completes.of_keeps (ps := [.nvm]) ?_
      split
      · rename_i x1 s1 e2
        have hs1 : Keeps [.nvm] s s1 := (moveLive_keeps e2).mono rfl
        exact ((hs1.andThen sectorErase_keeps).andThen nvmShow_keeps).mono rfl
      · exact Keeps.rfl.mono rfl
    · exact Completes.of_keeps Keeps.rfl
  · exact Completes.of_keeps Keeps.rfl

theorem execExtest_completes {s : State} : Completes s (execExtest s) := by
  unfold execExtest
  exact Completes.of_keeps jtagSelect_keeps

theorem execSwapLoadEnd_completes {s : State} : Completes s (execSwapLoadEnd s) := by
  unfold execSwapLoadEnd
  extract_lets k
  split
  · rename_i e
    split
    · exact Completes.of_keeps swapAbort_keeps
    · split
      · exact Completes.of_keeps swapAbort_keeps
      · extract_lets s1 ws old s2 old1
        have hs1 : Keeps [.frw] s s1 := (swapSections_keeps).mono rfl
        have hs2 : Keeps [.frw] s s2 := (hs1.andThen (frw_replaced (by exact id))).mono rfl
        clear_value s1 s2
        split
        · exact Completes.of_keeps swapAbort_keeps
        · exact Completes.of_keeps (hs2.andThen (hsp_replaced (by exact id)))
  · exact Completes.of_keeps Keeps.rfl

theorem execTestLogicReset_completes {s : State} : Completes s (execTestLogicReset s) := by
  unfold execTestLogicReset
  exact Completes.of_keeps jtagSelect_keeps

theorem msAcc_keeps {s : State} : Keeps [.time, .mic, .swa] s (msAcc s) := by
  unfold msAcc
  extract_lets old
  exact (Keeps.rfl.ite ((time_replaced).ite ((time_replaced).andThen msTick_keeps))).mono rfl

theorem withLoad_keeps {t : State} {ws : List (Nat × Word)} : Keeps [] t (withLoad t ws) := by
  unfold withLoad
  exact ((calLoadAll_keeps).ite Keeps.rfl).mono rfl

theorem cycTick_keeps {s : State} : Keeps [] s (cycTick s) := by
  unfold cycTick
  exact (Keeps.forEach (ps := []) (fun s1 c => by
      extract_lets s2
      have hs2 : Keeps [] s1 s2 := (State.bump64_keeps).mono rfl
      clear_value s2
      exact ((hs2.ite (hs2.andThen State.bump64_keeps)).ite Keeps.rfl).mono rfl)).mono rfl

theorem tickAcc_keeps {s : State} : Keeps [.time] s (tickAcc s) := by
  unfold tickAcc
  extract_lets a old
  exact (Keeps.rfl.ite (((time_replaced).andThen intTick_keeps).ite time_replaced)).mono rfl

theorem idle_keeps {s : State} : Keeps [.time, .mic, .flt, .drl, .swa, .hg, .frw] s (idle s) := by
  unfold idle
  extract_lets s1 old s2
  have hs1 : Keeps [] s s1 := (intLiveEnd_keeps).mono rfl
  have hs2 : Keeps [.time] s s2 := (hs1.andThen time_replaced).mono rfl
  clear_value s1 s2
  exact ((((((((hs2.andThen tickAcc_keeps).andThen msAcc_keeps).andThen cycTick_keeps).andThen cycTickS_keeps).andThen tokenTick_keeps).andThen syncTick_keeps).andThen pckTick_keeps).ite Keeps.rfl).mono rfl

theorem pairsDrop_keeps {s : State} {f : Nat → Nat → Bool} : Keeps [.drl] s (pairsDrop s f) := by
  unfold pairsDrop
  extract_lets old
  exact (drl_replaced (by exact id)).mono rfl

end Sys2Proof.Machine
end

section
/-! PROOFS. Every command completes and every step keeps a sound state sound (O2). -/

namespace Sys2Proof.Machine

/-- Every command completes, whatever the state. -/
theorem exec_completes (c : Instr) (s : State) : Completes s (exec c s) := by
  cases c with
  | hsckLoss => exact execHsckLoss_completes
  | hsckReturn => exact execHsckReturn_completes
  | longLoss => exact execLongLoss_completes
  | wdoWindow => exact execWdoWindow_completes
  | referenceTrack => exact execReferenceTrack_completes
  | multiplierLock => exact execMultiplierLock_completes
  | planResume => exact execPlanResume_completes
  | planFail => exact execPlanFail_completes
  | lockLoss => exact execLockLoss_completes
  | tick => exact execTick_completes
  | write => exact execWrite_completes
  | read => exact execRead_completes
  | status => exact execStatus_completes
  | commitOpen => exact execCommitOpen_completes
  | commitApply => exact execCommitApply_completes
  | commitDiscard => exact execCommitDiscard_completes
  | zeroize => exact execZeroize_completes
  | windowRead => exact execWindowRead_completes
  | resetMode => exact execResetMode_completes
  | undefinedOpcode => exact execUndefinedOpcode_completes
  | truncatedTransaction => exact execTruncatedTransaction_completes
  | tunnelTimeout => exact execTunnelTimeout_completes
  | admissionDecision => exact execAdmissionDecision_completes
  | registerWrite => exact execRegisterWrite_completes
  | rstAssert => exact execRstAssert_completes
  | supplyLoss => exact execSupplyLoss_completes
  | supplyGood => exact execSupplyGood_completes
  | rstRelease => exact execRstRelease_completes
  | selfTestPhaseAEnd => exact execSelfTestPhaseAEnd_completes
  | selfTestPhaseBEnd => exact execSelfTestPhaseBEnd_completes
  | nvmMount => exact execNvmMount_completes
  | sentryImageLoadEnd => exact execSentryImageLoadEnd_completes
  | imageLoadEnd => exact execImageLoadEnd_completes
  | micGroupPowerUp => exact execMicGroupPowerUp_completes
  | bootConfigCommit => exact execBootConfigCommit_completes
  | stateRequest => exact execStateRequest_completes
  | transitionComplete => exact execTransitionComplete_completes
  | tsuEnd g => exact show Completes s (execTsuEnd g s) from execTsuEnd_completes
  | tmcEnd => exact execTmcEnd_completes
  | powerCycle => exact execPowerCycle_completes
  | powerCycleOffEnd => exact execPowerCycleOffEnd_completes
  | stuckAt => exact execStuckAt_completes
  | densityEvent => exact execDensityEvent_completes
  | neighbourEvent => exact execNeighbourEvent_completes
  | suspectClear => exact execSuspectClear_completes
  | partnerDeafCheck => exact execPartnerDeafCheck_completes
  | latchClr => exact execLatchClr_completes
  | sentryInChange => exact execSentryInChange_completes
  | mapChange => exact execMapChange_completes
  | calStart => exact execCalStart_completes
  | calTargetEnd => exact execCalTargetEnd_completes
  | calSave => exact execCalSave_completes
  | calLoad => exact execCalLoad_completes
  | fineChainOutput => exact execFineChainOutput_completes
  | glanceOutput => exact execGlanceOutput_completes
  | sentryDecimatorOutput => exact execSentryDecimatorOutput_completes
  | bankSwap => exact execBankSwap_completes
  | calibrationChange => exact execCalibrationChange_completes
  | routeChange => exact execRouteChange_completes
  | fadeComplete => exact execFadeComplete_completes
  | syncPinEdge => exact execSyncPinEdge_completes
  | syncNow => exact execSyncNow_completes
  | syncAct => exact execSyncAct_completes
  | sadFrame => exact execSadFrame_completes
  | seedingEnd => exact execSeedingEnd_completes
  | sustained => exact execSustained_completes
  | floorRail => exact execFloorRail_completes
  | reseed => exact execReseed_completes
  | wakeinDebounce => exact execWakeinDebounce_completes
  | wakeinRelease => exact execWakeinRelease_completes
  | wakeClear => exact execWakeClear_completes
  | prewakeTimeout => exact execPrewakeTimeout_completes
  | prewakeGapEnd => exact execPrewakeGapEnd_completes
  | partnerPrewakeTimeout => exact execPartnerPrewakeTimeout_completes
  | featureFrame => exact execFeatureFrame_completes
  | evqPop => exact execEvqPop_completes
  | install => exact execInstall_completes
  | save => exact execSave_completes
  | recExport => exact execExport_completes
  | erase => exact execErase_completes
  | recOpen => exact execOpen_completes
  | put => exact execPut_completes
  | close => exact execClose_completes
  | recordActionDone => exact execRecordActionDone_completes
  | seedVerifyDone => exact execSeedVerifyDone_completes
  | slotArm => exact execSlotArm_completes
  | enrolmentStart => exact execEnrolmentStart_completes
  | enrolmentAbort => exact execEnrolmentAbort_completes
  | enrolmentBuild => exact execEnrolmentBuild_completes
  | enrolmentTimeout => exact execEnrolmentTimeout_completes
  | swathBlockStart => exact execSwathBlockStart_completes
  | shortSwathBlockStart => exact execShortSwathBlockStart_completes
  | mittenRelease => exact execMittenRelease_completes
  | mittenIdleTimeout => exact execMittenIdleTimeout_completes
  | unloadBlockSend => exact execUnloadBlockSend_completes
  | uack => exact execUack_completes
  | zswath => exact execZswath_completes
  | zshort => exact execZshort_completes
  | zeroizeSweepDone => exact execZeroizeSweepDone_completes
  | patrolScrub => exact execPatrolScrub_completes
  | rowRepair => exact execRowRepair_completes
  | taskRelease => exact execTaskRelease_completes
  | budgetFault => exact execBudgetFault_completes
  | initOverrun => exact execInitOverrun_completes
  | sentryCoreRestart => exact execSentryCoreRestart_completes
  | storeDrain => exact execStoreDrain_completes
  | loadReturn => exact execLoadReturn_completes
  | coreEccPatrol => exact execCoreEccPatrol_completes
  | coreRun => exact execCoreRun_completes
  | coreStep => exact execCoreStep_completes
  | coreRetire => exact execCoreRetire_completes
  | sentryCoreRun => exact execSentryCoreRun_completes
  | swapReq => exact execSwapReq_completes
  | swapSwitch => exact execSwapSwitch_completes
  | swapTimeout => exact execSwapTimeout_completes
  | add => exact execAdd_completes
  | sub => exact execSub_completes
  | and => exact execAnd_completes
  | or => exact execOr_completes
  | xor => exact execXor_completes
  | andn => exact execAndn_completes
  | orn => exact execOrn_completes
  | sll => exact execSll_completes
  | srl => exact execSrl_completes
  | sra => exact execSra_completes
  | ror => exact execRor_completes
  | slt => exact execSlt_completes
  | sltu => exact execSltu_completes
  | min => exact execMin_completes
  | max => exact execMax_completes
  | minu => exact execMinu_completes
  | maxu => exact execMaxu_completes
  | adds => exact execAdds_completes
  | subs => exact execSubs_completes
  | abs => exact execAbs_completes
  | clz => exact execClz_completes
  | ctz => exact execCtz_completes
  | popc => exact execPopc_completes
  | sextb => exact execSextb_completes
  | sexth => exact execSexth_completes
  | zexth => exact execZexth_completes
  | rev8 => exact execRev8_completes
  | addi => exact execAddi_completes
  | andi => exact execAndi_completes
  | ori => exact execOri_completes
  | xori => exact execXori_completes
  | shori => exact execShori_completes
  | slli => exact execSlli_completes
  | srli => exact execSrli_completes
  | srai => exact execSrai_completes
  | rori => exact execRori_completes
  | slti => exact execSlti_completes
  | sltiu => exact execSltiu_completes
  | cmpEq => exact execCmpEq_completes
  | cmpNe => exact execCmpNe_completes
  | cmpLt => exact execCmpLt_completes
  | cmpGe => exact execCmpGe_completes
  | cmpLtu => exact execCmpLtu_completes
  | cmpGeu => exact execCmpGeu_completes
  | cmpiEq => exact execCmpiEq_completes
  | cmpiNe => exact execCmpiNe_completes
  | cmpiLt => exact execCmpiLt_completes
  | cmpiGe => exact execCmpiGe_completes
  | cmpiLtu => exact execCmpiLtu_completes
  | cmpiGeu => exact execCmpiGeu_completes
  | pand => exact execPand_completes
  | por => exact execPor_completes
  | pxor => exact execPxor_completes
  | pandn => exact execPandn_completes
  | porn => exact execPorn_completes
  | sel => exact execSel_completes
  | mfp => exact execMfp_completes
  | mtp => exact execMtp_completes
  | br => exact execBr_completes
  | call => exact execCall_completes
  | jalr => exact execJalr_completes
  | bz => exact execBz_completes
  | bnz => exact execBnz_completes
  | bltz => exact execBltz_completes
  | bgez => exact execBgez_completes
  | bgtz => exact execBgtz_completes
  | blez => exact execBlez_completes
  | bp => exact execBp_completes
  | bnp => exact execBnp_completes
  | loop => exact execLoop_completes
  | mtlp => exact execMtlp_completes
  | mflp => exact execMflp_completes
  | smac => exact execSmac_completes
  | smsu => exact execSmsu_completes
  | sclr => exact execSclr_completes
  | sacx => exact execSacx_completes
  | sacset => exact execSacset_completes
  | setm => exact execSetm_completes
  | mtcr => exact execMtcr_completes
  | mfcr => exact execMfcr_completes
  | vadd => exact execVadd_completes
  | vsub => exact execVsub_completes
  | vadds => exact execVadds_completes
  | vsubs => exact execVsubs_completes
  | vmin => exact execVmin_completes
  | vmax => exact execVmax_completes
  | vabs => exact execVabs_completes
  | vand => exact execVand_completes
  | vor => exact execVor_completes
  | vxor => exact execVxor_completes
  | vandn => exact execVandn_completes
  | vsll => exact execVsll_completes
  | vsrl => exact execVsrl_completes
  | vsra => exact execVsra_completes
  | vsrar => exact execVsrar_completes
  | vcmpEq => exact execVcmpEq_completes
  | vcmpLt => exact execVcmpLt_completes
  | vcmpLtu => exact execVcmpLtu_completes
  | vcmpLe => exact execVcmpLe_completes
  | vbsl => exact execVbsl_completes
  | vany => exact execVany_completes
  | vall => exact execVall_completes
  | vsplat => exact execVsplat_completes
  | vget => exact execVget_completes
  | vput => exact execVput_completes
  | vslide => exact execVslide_completes
  | vwide => exact execVwide_completes
  | vnarr => exact execVnarr_completes
  | vmul => exact execVmul_completes
  | vmac => exact execVmac_completes
  | vmsu => exact execVmsu_completes
  | vmacs => exact execVmacs_completes
  | vclr => exact execVclr_completes
  | vext => exact execVext_completes
  | vacset => exact execVacset_completes
  | vacget => exact execVacget_completes
  | vacput => exact execVacput_completes
  | vacsum => exact execVacsum_completes
  | ldb => exact execLdb_completes
  | ldbu => exact execLdbu_completes
  | ldh => exact execLdh_completes
  | ldhu => exact execLdhu_completes
  | ldw => exact execLdw_completes
  | ldvl => exact execLdvl_completes
  | ldv => exact execLdv_completes
  | stb => exact execStb_completes
  | sth => exact execSth_completes
  | stw => exact execStw_completes
  | stvl => exact execStvl_completes
  | stv => exact execStv_completes
  | ldP => exact execLdP_completes
  | stP => exact execStP_completes
  | ldX => exact execLdX_completes
  | stX => exact execStX_completes
  | qpop => exact execQpop_completes
  | qpopv => exact execQpopv_completes
  | qpush => exact execQpush_completes
  | qpushv => exact execQpushv_completes
  | qocc => exact execQocc_completes
  | fence => exact execFence_completes
  | commit => exact execCommit_completes
  | bell => exact execBell_completes
  | tend => exact execTend_completes
  | eret => exact execEret_completes
  | trap => exact execTrap_completes
  | halt => exact execHalt_completes
  | amoSwap => exact execAmoSwap_completes
  | amoAdd => exact execAmoAdd_completes
  | amoAnd => exact execAmoAnd_completes
  | amoOr => exact execAmoOr_completes
  | amoMaxu => exact execAmoMaxu_completes
  | amoMinu => exact execAmoMinu_completes
  | amoCas => exact execAmoCas_completes
  | entryArrive => exact execEntryArrive_completes
  | creditReturn => exact execCreditReturn_completes
  | bqPop => exact execBqPop_completes
  | hqPop => exact execHqPop_completes
  | auditFault => exact execAuditFault_completes
  | sourceEdge => exact execSourceEdge_completes
  | delivery => exact execDelivery_completes
  | fallowExpire => exact execFallowExpire_completes
  | claim => exact execClaim_completes
  | pendClear => exact execPendClear_completes
  | intBell => exact execIntBell_completes
  | conversionEnd => exact execConversionEnd_completes
  | trig => exact execTrig_completes
  | urgentRequest => exact execUrgentRequest_completes
  | self => exact execSelf_completes
  | zero => exact execZero_completes
  | full => exact execFull_completes
  | compute => exact execCompute_completes
  | ltake => exact execLtake_completes
  | adcQpop => exact execAdcQpop_completes
  | referenceChange => exact execReferenceChange_completes
  | refokSettle => exact execRefokSettle_completes
  | refokLoss => exact execRefokLoss_completes
  | thermalReading => exact execThermalReading_completes
  | railOut => exact execRailOut_completes
  | railIn => exact execRailIn_completes
  | pmGate => exact execPmGate_completes
  | pmbusTransactionEnd => exact execPmbusTransactionEnd_completes
  | statusWordPoll => exact execStatusWordPoll_completes
  | sentryAvsEval => exact execSentryAvsEval_completes
  | coreAvsEval => exact execCoreAvsEval_completes
  | manualVoltage => exact execManualVoltage_completes
  | pmerrClear => exact execPmerrClear_completes
  | detectEnd => exact execDetectEnd_completes
  | eqEnd => exact execEqEnd_completes
  | deskewEnd => exact execDeskewEnd_completes
  | identEnd => exact execIdentEnd_completes
  | rttEnd => exact execRttEnd_completes
  | trainingTimeout => exact execTrainingTimeout_completes
  | waitEnd => exact execWaitEnd_completes
  | retrain => exact execRetrain_completes
  | lanesChange => exact execLanesChange_completes
  | dataFrame => exact execDataFrame_completes
  | statusFrame => exact execStatusFrame_completes
  | statusSend => exact execStatusSend_completes
  | frameTransmit => exact execFrameTransmit_completes
  | alignSend => exact execAlignSend_completes
  | alignMissed => exact execAlignMissed_completes
  | ping => exact execPing_completes
  | echo => exact execEcho_completes
  | lanemode => exact execLanemode_completes
  | laneFail => exact execLaneFail_completes
  | rtoExpire => exact execRtoExpire_completes
  | statusTimeout => exact execStatusTimeout_completes
  | linkDown => exact execLinkDown_completes
  | eqAdapt => exact execEqAdapt_completes
  | errorRateWindow => exact execErrorRateWindow_completes
  | regReq => exact execRegReq_completes
  | regRsp => exact execRegRsp_completes
  | clockPlan => exact execClockPlan_completes
  | planAck => exact execPlanAck_completes
  | sync => exact execSync_completes
  | wake => exact execWake_completes
  | prewake => exact execPrewake_completes
  | standDown => exact execStandDown_completes
  | timeMark => exact execTimeMark_completes
  | notice => exact execNotice_completes
  | keyHello => exact execKeyHello_completes
  | keyConfirm => exact execKeyConfirm_completes
  | topo => exact execTopo_completes
  | audio => exact execAudio_completes
  | bulkSeg => exact execBulkSeg_completes
  | bulkAck => exact execBulkAck_completes
  | bulkRead => exact execBulkRead_completes
  | nakDenied => exact execNakDenied_completes
  | safeHb => exact execSafeHb_completes
  | safeStop => exact execSafeStop_completes
  | qholdEnd => exact execQholdEnd_completes
  | release => exact execRelease_completes
  | keyingTimeout => exact execKeyingTimeout_completes
  | rekey => exact execRekey_completes
  | topoSend => exact execTopoSend_completes
  | partialTunnelTimeout => exact execPartialTunnelTimeout_completes
  | noticeSend => exact execNoticeSend_completes
  | audioMessageSend => exact execAudioMessageSend_completes
  | bulkResend => exact execBulkResend_completes
  | scarecrowCycle => exact execScarecrowCycle_completes
  | confirmationTimeout => exact execConfirmationTimeout_completes
  | runtokWrite => exact execRuntokWrite_completes
  | runPermitTimeout => exact execRunPermitTimeout_completes
  | readbackSample => exact execReadbackSample_completes
  | lockstepMismatch => exact execLockstepMismatch_completes
  | arming => exact execArming_completes
  | proof => exact execProof_completes
  | heartbeatTimeout => exact execHeartbeatTimeout_completes
  | ackReq => exact execAckReq_completes
  | ackChallenge => exact execAckChallenge_completes
  | ackResp => exact execAckResp_completes
  | disarm => exact execDisarm_completes
  | scarecrowRestart => exact execScarecrowRestart_completes
  | rowrep => exact execRowrep_completes
  | retire => exact execRetire_completes
  | retireTakesEffect => exact execRetireTakesEffect_completes
  | retireTimeout => exact execRetireTimeout_completes
  | unretire => exact execUnretire_completes
  | sectret => exact execSectret_completes
  | savemap => exact execSavemap_completes
  | reloadSc => exact execReloadSc_completes
  | loadSentry => exact execLoadSentry_completes
  | serviceActionDone => exact execServiceActionDone_completes
  | eraseSlot => exact execEraseSlot_completes
  | program => exact execProgram_completes
  | verify => exact execVerify_completes
  | activate => exact execActivate_completes
  | bootsave => exact execBootsave_completes
  | provkey => exact execProvkey_completes
  | provlink => exact execProvlink_completes
  | recwrite => exact execRecwrite_completes
  | recdel => exact execRecdel_completes
  | recread => exact execRecread_completes
  | nvmCommandDone => exact execNvmCommandDone_completes
  | reclaim => exact execReclaim_completes
  | extest => exact execExtest_completes
  | idcode => exact execIdcode_completes
  | samplePreload => exact execSamplePreload_completes
  | clamp => exact execClamp_completes
  | highz => exact execHighz_completes
  | bypass => exact execBypass_completes
  | startupConditionsMet => exact execStartupConditionsMet_completes
  | swathFrame => exact execSwathFrame_completes
  | calNvmActionEnd => exact execCalNvmActionEnd_completes
  | swapLoadEnd => exact execSwapLoadEnd_completes
  | testLogicReset => exact execTestLogicReset_completes

/-- The queue of a sound state without its front holds well-formed commands still. -/
theorem queueOk_rest {s t : State} {c : Instr} {rest : List Instr} (h : QueueOk s) (front : s.pending = c :: rest)
    (queue : t.pending = rest) : QueueOk t := by
  intro d hd
  rw [queue] at hd
  exact h d (front ▸ List.mem_cons_of_mem _ hd)

/-- Settles O2: a command completes and keeps the invariant unit by unit; a step without a command passes a cycle. -/
theorem stepNeverStopsAndKeepsSound : Obligations.StepNeverStopsAndKeepsSound := by
  unfold Obligations.StepNeverStopsAndKeepsSound
  rintro s ⟨queue, shape⟩
  cases front : s.pending with
  | nil =>
    have k := idle_keeps (s := s)
    refine ⟨idle s, by rw [step, front], ⟨?_, (inv_iff _).mp (k.inv ((inv_iff _).mpr shape))⟩, by rw [k.pending, front]; rfl⟩
    intro c hc
    exact queue c (k.pending ▸ hc)
  | cons c rest =>
    have unqueued : Inv { s with pending := rest } :=
      have h := (inv_iff s).mpr shape
      ⟨h.regs, h.hsp, h.mic, h.flt, h.lsn, h.drl, h.swa, h.que, h.hg, h.frw, h.adc, h.mon, h.saf, h.nvm⟩
    obtain ⟨t, runs, pending, inv⟩ := exec_completes c { s with pending := rest }
    exact ⟨t, by rw [step, front]; exact runs, ⟨queueOk_rest queue front pending, (inv_iff _).mp (inv unqueued)⟩, pending⟩

end Sys2Proof.Machine
end

section
/-! PROOFS. Furrow's bundles: what a word that can be taken does, said once for every instruction of a slot (for the Furrow
statements). -/

namespace Sys2Proof.Machine

/-! ## A core read and written -/

section

variable {s : State} {c : Nat} {k l : CoreSt}

theorem core_setCore_same (h : c < s.frw.core.length) : (s.setCore c k).core c = k := by
  simp [State.core, State.setCore, nth, setNth, h]

theorem core_setCore_other {d : Nat} (h : c ≠ d) : (s.setCore c k).core d = s.core d := by
  simp [State.core, State.setCore, nth, setNth, List.getElem?_set, h]

theorem setCore_setCore : (s.setCore c k).setCore c l = s.setCore c l := by
  simp [State.setCore, setNth]

theorem setCore_core (h : c < s.frw.core.length) : s.setCore c (s.core c) = s := by
  have same : setNth s.frw.core c (s.core c) = s.frw.core := by
    simp [State.core, nth, setNth, h]
  rw [State.setCore, same]

@[simp] theorem setCore_length : (s.setCore c k).frw.core.length = s.frw.core.length := by
  simp [State.setCore, setNth]

@[simp] theorem setCore_flag {f : Fld} : (s.setCore c k).flag f = s.flag f := rfl

end

/-! ## The end of a bundle -/

/-- Between two bundles of calm code nothing happens but the end of a single step. -/
theorem boundary_calm {s : State} {c : Nat} (h : c < s.frw.core.length) (between : atBoundary (s.core c) = true) (calm : Calm s c) :
    boundary s c = s.setCore c { s.core c with stepping := false } := by
  by_cases step : (s.core c).stepping = true
  · simp [boundary, step]
  · have same : ({ s.core c with stepping := false } : CoreSt) = s.core c := by
      cases e : s.core c
      simp_all
    rw [same, setCore_core h]
    rcases calm with go | sentry | ⟨drop, run, job⟩
    · exact absurd go step
    · simp [boundary, step, sentry]
    · have stays : dispatch s c = s ∨ s.flag (F.FRW_COREc_ST_INIT c) = true := by
        rcases job with init | ⟨j, first, runs⟩
        · exact .inr init
        · exact .inl (by simp [dispatch, first, runs])
      rcases stays with stays | init
      · simp [boundary, step, drop, between, run, stays]
      · simp [boundary, step, drop, between, run, init]

theorem bundleCause_none {k : CoreSt} {b : Bundle} (good : b.bad = false) (straight : k.slot = none ∨ b.ctl = false)
    (loops : b.br = none ∨ loopAt b.before k.pc 0 = false ∧ loopAt b.before k.pc 1 = false) (well : b.ill = none) :
    bundleCause k b = none := by
  have noLoop : (b.br.isSome && (loopAt b.before k.pc 0 || loopAt b.before k.pc 1)) = false := by
    rcases loops with br | ⟨outer, inner⟩
    · simp [br]
    · simp [outer, inner]
  have noDelay : (k.slot.isSome && b.ctl) = false := by
    rcases straight with h | h <;> simp [h]
  simp [bundleCause, good, noLoop, noDelay, well]

theorem endsBundle_open {c : Nat} (h : c < 4) : endsBundle c false = false := by
  simp [endsBundle, h]

theorem loopAct_none {r : CoreRegs} {pc next : Nat} (outer : loopAt r pc 0 = false) (inner : loopAt r pc 1 = false) :
    loopAct r pc next = (r, next) := by
  simp [loopAct, outer, inner]

theorem returnFor_none {k : CoreSt} {names : List Nat} (h : k.ret = []) : returnFor k names = k := by
  obtain ⟨regs, pc, slot, replay, shadow, bun, ret, buf, jobs, run, heldRel, lastRel, initEnd, stepping, drop⟩ := k
  subst h
  cases bun <;> rfl

theorem calm_setCore {s : State} {c : Nat} {k : CoreSt} (h : c < s.frw.core.length) (calm : Calm s c)
    (jobs : k.jobs = (s.core c).jobs) (run : k.run = (s.core c).run) (drop : k.drop = (s.core c).drop)
    (stepping : k.stepping = (s.core c).stepping) : Calm (s.setCore c k) c := by
  unfold Calm at calm ⊢
  simpa only [core_setCore_same h, setCore_flag, jobs, run, drop, stepping] using calm

section

variable {s : State} {c : Nat} {k : CoreSt} {b : Bundle} {r : CoreRegs}

/-- The end of a bundle that is no delay slot and holds no transfer: the loops say where the core goes on. -/
theorem bundleDone_falls (h : c < s.frw.core.length) (slot : k.slot = none) (br : b.br = none)
    (calm : Calm (s.setCore c { k with bun := none, shadow := false }) c) :
    bundleDone (s.setCore c { k with bun := some b, regs := r }) c false =
      s.setCore c { k with
        regs := (loopAct { r with fmNow := r.fmNext, fmNext := r.fmode } k.pc ((k.pc + 4 * b.words) % 2 ^ 32)).1,
        pc := (loopAct { r with fmNow := r.fmNext, fmNext := r.fmode } k.pc ((k.pc + 4 * b.words) % 2 ^ 32)).2,
        bun := none, shadow := false, stepping := false } := by
  unfold bundleDone
  simp only [core_setCore_same h, bundleOf, Option.getD_some, slot, br]
  rw [setCore_setCore, boundary_calm (by simpa using h) (by rw [core_setCore_same h]; simp [atBoundary, slot])]
  · rw [core_setCore_same h, setCore_setCore]
  · unfold Calm at calm ⊢
    simpa only [core_setCore_same h, setCore_flag] using calm

/-- The core after the last word of a bundle that no transfer and no loop leaves. -/
theorem bundleDone_plain (h : c < s.frw.core.length) (slot : k.slot = none) (br : b.br = none) (outer : loopAt r k.pc 0 = false)
    (inner : loopAt r k.pc 1 = false) (calm : Calm (s.setCore c { k with bun := none, shadow := false }) c) :
    bundleDone (s.setCore c { k with bun := some b, regs := r }) c false =
      s.setCore c { k with
        regs := { r with fmNow := r.fmNext, fmNext := r.fmode }, pc := (k.pc + 4 * b.words) % 2 ^ 32, bun := none, shadow := false,
        stepping := false } := by
  have loops : ∀ i, loopAt { r with fmNow := r.fmNext, fmNext := r.fmode } k.pc i = loopAt r k.pc i := fun _ => rfl
  rw [bundleDone_falls h slot br calm, loopAct_none (by rw [loops, outer]) (by rw [loops, inner])]

/-- The end of a delay slot: the core goes on at the target of a taken transfer. -/
theorem bundleDone_lands {d : Transfer} (h : c < s.frw.core.length) (slot : k.slot = some d) (outer : loopAt r k.pc 0 = false)
    (inner : loopAt r k.pc 1 = false) (calm : Calm (s.setCore c { k with bun := none, shadow := false }) c) :
    bundleDone (s.setCore c { k with bun := some b, regs := r }) c false =
      s.setCore c { k with
        regs := { r with fmNow := r.fmNext, fmNext := r.fmode },
        pc := if d.taken then d.target else (k.pc + 4 * b.words) % 2 ^ 32, bun := none, shadow := false, slot := none,
        stepping := false } := by
  have loops : ∀ i, loopAt { r with fmNow := r.fmNext, fmNext := r.fmode } k.pc i = loopAt r k.pc i := fun _ => rfl
  unfold bundleDone
  simp only [core_setCore_same h, bundleOf, Option.getD_some, slot]
  rw [loopAct_none (by rw [loops, outer]) (by rw [loops, inner]), setCore_setCore,
    boundary_calm (by simpa using h) (by rw [core_setCore_same h]; simp [atBoundary])]
  · rw [core_setCore_same h, setCore_setCore]
  · unfold Calm at calm ⊢
    simpa only [core_setCore_same h, setCore_flag] using calm

/-- The end of a bundle with a transfer: its delay slot comes next. -/
theorem bundleDone_turns {taken : Bool} {target : Nat} (h : c < s.frw.core.length) (slot : k.slot = none)
    (br : b.br = some (taken, target)) (kept : k.stepping = true ∨ 4 ≤ c ∨ k.drop = false) :
    bundleDone (s.setCore c { k with bun := some b, regs := r }) c false =
      s.setCore c { k with
        regs := { r with fmNow := r.fmNext, fmNext := r.fmode }, pc := (k.pc + 4 * b.words) % 2 ^ 32, bun := none, shadow := false,
        slot := some ⟨k.pc, (k.pc + 4 * b.words) % 2 ^ 32, taken, target⟩, stepping := false } := by
  unfold bundleDone
  simp only [core_setCore_same h, bundleOf, Option.getD_some, slot, br]
  rw [setCore_setCore]
  unfold boundary
  simp only [core_setCore_same h, setCore_setCore]
  by_cases step : k.stepping = true
  · simp [step]
  · rcases kept with go | sentry | drop
    · exact absurd go step
    · simp [step, sentry]
    · simp [step, drop, atBoundary]

end

/-! ## A word taken into its bundle -/

section

variable {s : State} {c : Nat} {e : Bool} {i : Act}

theorem wordIn_takes {f : State → Bundle → State} {n : Nat} {ws : List Nat} (h : TakesWord s c n ws) :
    wordIn s c e i f = f s (bundleAdd c (bundleOf (s.core c)) e i) := by
  obtain ⟨len, issues, ret, fetches, meets, -⟩ := h
  unfold wordIn
  simp only [issues, if_true, returnFor_none ret, setCore_core len, fetches, meets]

/-- The bundle with a word in it that breaks no rule. -/
theorem bundleAdd_joins (h : TakesWord s c i.slot i.writes) (fits : e = true ∨ c < 4 ∧ i.slot ≠ 3) :
    bundleAdd c (bundleOf (s.core c)) e i =
      { bundleOf (s.core c) with
        words := (bundleOf (s.core c)).words + 1, last := i.slot, ill := if i.ok then none else some i.slot,
        wrote := (bundleOf (s.core c)).wrote ++ i.writes, br := if i.br.isSome then i.br else (bundleOf (s.core c)).br,
        ctl := (bundleOf (s.core c)).ctl || i.ctl || decide (i.slot = 3) } := by
  obtain ⟨-, -, -, -, -, room, good, well, order, apart⟩ := h
  have clash : i.writes.any (fun w => w != regS 0 && w != regP 0 && (bundleOf (s.core c)).wrote.contains w) = false := by
    rw [List.any_eq_false]
    intro w hw
    have := apart w hw
    simp only [Bool.and_eq_true, bne_iff_ne, List.contains_iff_mem, not_and]
    exact fun a => this a.1 a.2
  have late : (decide ((bundleOf (s.core c)).words ≠ 0) && (decide (i.slot ≤ (bundleOf (s.core c)).last) || decide (i.slot = 3))) = false := by
    by_cases first : (bundleOf (s.core c)).words = 0
    · simp [first]
    · obtain ⟨later, slot⟩ := order first
      simp [slot, later]
  have alone : (decide (c < 4) || e) = true ∧ (decide (i.slot = 3) && !e && decide (c < 4)) = false := by
    rcases fits with rfl | ⟨small, slot⟩
    · simp
    · simp [small, slot]
  obtain ⟨furrow, alone⟩ := alone
  have full : decide (3 ≤ (bundleOf (s.core c)).words) = false := decide_eq_false (by omega)
  unfold bundleAdd
  simp only [clash]
  rw [late]
  simp only [alone, furrow, full, good, well, Bool.and_true, Bool.or_false, Option.isSome_none, Bool.false_or]

/-- The bundle with a legal word of slot 0, 1 or 2 in it. -/
theorem bundleAdd_takes (h : TakesWord s c i.slot i.writes) (legal : i.ok = true) (slot : i.slot ≠ 3) (fits : e = true ∨ c < 4) :
    bundleAdd c (bundleOf (s.core c)) e i =
      { bundleOf (s.core c) with
        words := (bundleOf (s.core c)).words + 1, last := i.slot, wrote := (bundleOf (s.core c)).wrote ++ i.writes,
        br := if i.br.isSome then i.br else (bundleOf (s.core c)).br, ctl := (bundleOf (s.core c)).ctl || i.ctl } := by
  have well : (bundleOf (s.core c)).ill = none := h.2.2.2.2.2.2.2.1
  rw [bundleAdd_joins h (fits.imp id fun small => ⟨small, slot⟩), legal, if_pos rfl, decide_eq_false slot, Bool.or_false, ← well]

/-- A legal word of slot 0, 1 or 2 that ends its bundle. -/
theorem issue_ends {r : CoreRegs} (h : TakesWord s c i.slot i.writes) (legal : i.ok = true) (slot : i.slot ≠ 3)
    (eff : i.eff (beforeOf s c) (s.core c).regs = r) (straight : (s.core c).slot = none ∨ (bundleOf (s.core c)).ctl = false ∧ i.ctl = false)
    (loops : (bundleOf (s.core c)).br = none ∧ i.br = none ∨
      loopAt (beforeOf s c) (s.core c).pc 0 = false ∧ loopAt (beforeOf s c) (s.core c).pc 1 = false) :
    issue s c true i = bundleDone (s.setCore c { s.core c with
      bun := some { bundleOf (s.core c) with
        words := (bundleOf (s.core c)).words + 1, last := i.slot, wrote := (bundleOf (s.core c)).wrote ++ i.writes,
        br := if i.br.isSome then i.br else (bundleOf (s.core c)).br, ctl := (bundleOf (s.core c)).ctl || i.ctl },
      regs := r }) c false := by
  have len := h.1
  have good : (bundleOf (s.core c)).bad = false := h.2.2.2.2.2.2.1
  have well : (bundleOf (s.core c)).ill = none := h.2.2.2.2.2.2.2.1
  unfold beforeOf at eff loops
  unfold issue
  rw [wordIn_takes h, bundleAdd_takes h legal slot (.inl rfl)]
  simp only [endsBundle, Bool.true_or, if_true, core_setCore_same len, well, eff, Option.isSome_none, Bool.false_eq_true, if_false]
  rw [bundleCause_none]
  · exact good
  · exact straight.imp id fun h => by simp [h.1, h.2]
  · rcases loops with ⟨b, a⟩ | ⟨outer, inner⟩
    · exact .inl (by simp [a, b])
    · exact .inr ⟨outer, inner⟩
  · rfl

/-- A legal word of slot 0, 1 or 2 without a transfer at a plain end of its bundle. -/
theorem issue_ends_plain {r : CoreRegs} (h : TakesWord s c i.slot i.writes) (legal : i.ok = true) (slot : i.slot ≠ 3) (br : i.br = none)
    (eff : i.eff (beforeOf s c) (s.core c).regs = r) (plain : PlainEnd s c) (outer : loopAt r (s.core c).pc 0 = false)
    (inner : loopAt r (s.core c).pc 1 = false) : issue s c true i = s.setCore c ((s.core c).past r) := by
  obtain ⟨noSlot, noBr, -, -, calm⟩ := plain
  rw [issue_ends h legal slot eff (.inl noSlot) (.inl ⟨noBr, br⟩)]
  exact bundleDone_plain h.1 noSlot (by simp [br, noBr]) outer inner (calm_setCore h.1 calm rfl rfl rfl rfl)

/-- A legal word of slot 0, 1 or 2 without a transfer retires: it ends its bundle or leaves it open. -/
theorem issue_retires {r : CoreRegs} (h : TakesWord s c i.slot i.writes) (legal : i.ok = true) (slot : i.slot ≠ 3) (br : i.br = none)
    (ctl : i.ctl = false) (eff : i.eff (beforeOf s c) (s.core c).regs = r) :
    (e = true → PlainEnd s c → loopAt r (s.core c).pc 0 = false → loopAt r (s.core c).pc 1 = false →
      issue s c e i = s.setCore c ((s.core c).past r)) ∧
    (e = false → c < 4 → issue s c e i = s.setCore c ((s.core c).within i.slot i.writes r)) := by
  have well : (bundleOf (s.core c)).ill = none := h.2.2.2.2.2.2.2.1
  refine ⟨fun ends plain outer inner => ends ▸ issue_ends_plain h legal slot br eff plain outer inner, fun opens small => ?_⟩
  unfold beforeOf at eff
  unfold issue
  rw [wordIn_takes h, bundleAdd_takes h legal slot (.inr small)]
  simp only [opens, endsBundle_open small, Bool.false_eq_true, if_false, well, eff, br, ctl, Option.isSome_none, CoreSt.within,
    Bool.or_false]

/-- An instruction whose effect leaves the loops alone retires. -/
theorem retires_of_issue {x : Instr} {r : CoreRegs} (runs : exec x s = ok (issue s c e i)) (legal : i.ok = true) (slot : i.slot ≠ 3)
    (br : i.br = none) (ctl : i.ctl = false) (eff : i.eff (beforeOf s c) (s.core c).regs = r)
    (loops : ∀ n, loopAt r (s.core c).pc n = loopAt (s.core c).regs (s.core c).pc n) : Retires x s c e i.slot i.writes r := by
  intro h
  obtain ⟨ends, opens⟩ := issue_retires (e := e) h legal slot br ctl eff
  refine ⟨fun he plain => ⟨_, runs, ?_⟩, fun he small => ⟨_, runs, opens he small⟩⟩
  have plain' := plain
  obtain ⟨-, -, outer, inner, -⟩ := plain'
  exact ends he plain ((loops 0).trans outer) ((loops 1).trans inner)

end

/-! ## Registers written -/

section

variable {r : CoreRegs} {pc n : Nat}

@[simp] theorem loopAt_setS {d : BitVec 5} {v : Word} : loopAt (r.setS d v) pc n = loopAt r pc n := by
  unfold CoreRegs.setS
  split <;> rfl

@[simp] theorem loopAt_setP {d : BitVec 5} {b : Bool} : loopAt (r.setP d b) pc n = loopAt r pc n := by
  unfold CoreRegs.setP
  split <;> rfl

@[simp] theorem loopAt_flags {sat ov : Bool} : loopAt (r.flags sat ov) pc n = loopAt r pc n := rfl

@[simp] theorem flags_none : r.flags false false = r := by
  simp [CoreRegs.flags, b2n]

end

/-- A slot 0 instruction that computes one scalar register. -/
theorem retires_of_aluAct {x : Instr} {s : State} {c : Nat} {e legal : Bool} {uses : List (BitVec 5)} {rd : BitVec 5}
    {f : CoreRegs → Word × Bool} (runs : exec x s = ok (issue s c e (aluAct legal uses rd f))) (ok : legal = true) :
    Retires x s c e 0 [regS rd.toNat] (((s.core c).regs.setS rd (f (beforeOf s c)).1).flags (f (beforeOf s c)).2 false) :=
  retires_of_issue (i := aluAct legal uses rd f) runs ok (Nat.zero_ne_add_one 2) rfl rfl rfl fun _ => by rw [loopAt_flags, loopAt_setS]

/-- The same, where nothing clamps. -/
theorem retires_of_aluAct_value {x : Instr} {s : State} {c : Nat} {e legal : Bool} {uses : List (BitVec 5)} {rd : BitVec 5}
    {f : CoreRegs → Word} {v : Word} (runs : exec x s = ok (issue s c e (aluAct legal uses rd fun b => (f b, false)))) (ok : legal = true)
    (value : f (beforeOf s c) = v) : Retires x s c e 0 [regS rd.toNat] ((s.core c).regs.setS rd v) := by
  have h := retires_of_aluAct runs ok
  rwa [value, flags_none] at h

end Sys2Proof.Machine
end

section
/-! PROOFS. Furrow's scalar arithmetic, immediates and predicates (O30, O31, O32). -/

namespace Sys2Proof.Machine

/-! ## The shared shapes of a scalar instruction -/

section

variable {x : Instr} {s : State}

theorem retires_of_alu {i : RForm} {f : Word → Word → Word} {v : Word} (runs : exec x s = ok (alu s i f))
    (value : f ((beforeOf s i.c).sv i.rs1) ((beforeOf s i.c).sv i.rs2) = v) :
    Retires x s i.c i.e 0 [regS i.rd.toNat] ((s.core i.c).regs.setS i.rd v) :=
  retires_of_aluAct_value runs rfl value

theorem retires_of_alu1 {i : RForm} {f : Word → Word} {v : Word} (runs : exec x s = ok (alu1 s i f)) (one : i.rs2 = 0)
    (value : f ((beforeOf s i.c).sv i.rs1) = v) :
    Retires x s i.c i.e 0 [regS i.rd.toNat] ((s.core i.c).regs.setS i.rd v) :=
  retires_of_aluAct_value runs (decide_eq_true one) value

theorem retires_of_aluImm {i : IForm} {legal : Bool} {f : Word → Word} {v : Word} (runs : exec x s = ok (aluImm s i legal f))
    (ok : legal = true) (value : f ((beforeOf s i.c).sv i.rs1) = v) :
    Retires x s i.c i.e 0 [regS i.rd.toNat] ((s.core i.c).regs.setS i.rd v) :=
  retires_of_aluAct_value runs ok value

theorem retires_of_aluSat {i : RForm} {legal : Bool} {f : Int → Int → Int} {v : Int} (runs : exec x s = ok (aluSat s i legal f))
    (ok : legal = true) (value : f ((beforeOf s i.c).sv i.rs1).toInt ((beforeOf s i.c).sv i.rs2).toInt = v) :
    Retires x s i.c i.e 0 [regS i.rd.toNat] (((s.core i.c).regs.setS i.rd (BitVec.ofInt 32 (satS 32 v))).flags (!fitsS 32 v) false) := by
  have h := retires_of_aluAct runs ok
  dsimp only at h
  rwa [value] at h

theorem retires_of_predAct {c : Nat} {e legal : Bool} {uses : List Nat} {rd : BitVec 5} {f : CoreRegs → Bool} {v : Bool}
    (runs : exec x s = Machine.ok (issue s c e (predAct legal uses rd f))) (ok : legal = true) (low : rd.toNat < 8)
    (value : f (beforeOf s c) = v) : Retires x s c e 0 [regP rd.toNat] ((s.core c).regs.setP rd v) := by
  subst value
  exact retires_of_issue (i := predAct legal uses rd f) runs (by simp [predAct, ok, low]) (Nat.zero_ne_add_one 2) rfl rfl rfl fun _ => loopAt_setP

end

/-! ## The values -/

theorem slt_iff_toInt {a b : Word} : a.slt b = decide (a.toInt < b.toInt) := rfl

theorem ult_iff_toNat {a b : Word} : a.ult b = decide (a.toNat < b.toNat) := rfl

theorem word01_decide {p : Prop} [Decidable p] : word01 (decide p) = if p then 1 else 0 := by
  by_cases h : p <;> simp [word01, h]

theorem min_of_lt {a b : Word} : (if a.slt b then a else b) = if a.toInt ≤ b.toInt then a else b := by
  rw [slt_iff_toInt]
  rcases lt_trichotomy a.toInt b.toInt with h | h | h
  · simp [h, h.le]
  · simp [BitVec.toInt_inj.mp h]
  · simp [h.not_gt, h.not_ge]

theorem max_of_lt {a b : Word} : (if a.slt b then b else a) = if a.toInt ≤ b.toInt then b else a := by
  rw [slt_iff_toInt]
  rcases lt_trichotomy a.toInt b.toInt with h | h | h
  · simp [h, h.le]
  · simp [BitVec.toInt_inj.mp h]
  · simp [h.not_gt, h.not_ge]

theorem minu_of_lt {a b : Word} : (if a.ult b then a else b) = if a.toNat ≤ b.toNat then a else b := by
  rw [ult_iff_toNat]
  rcases lt_trichotomy a.toNat b.toNat with h | h | h
  · simp [h, h.le]
  · simp [BitVec.eq_of_toNat_eq h]
  · simp [h.not_gt, h.not_ge]

theorem maxu_of_lt {a b : Word} : (if a.ult b then b else a) = if a.toNat ≤ b.toNat then b else a := by
  rw [ult_iff_toNat]
  rcases lt_trichotomy a.toNat b.toNat with h | h | h
  · simp [h, h.le]
  · simp [BitVec.eq_of_toNat_eq h]
  · simp [h.not_gt, h.not_ge]

theorem bne_eq_decide {a b : Word} : (a != b) = decide (a ≠ b) := by
  by_cases h : a = b <;> simp [h]

theorem not_slt_eq {a b : Word} : (!a.slt b) = decide (b.toInt ≤ a.toInt) := by
  rw [slt_iff_toInt, ← decide_not, decide_eq_decide, Int.not_lt]

theorem not_ult_eq {a b : Word} : (!a.ult b) = decide (b.toNat ≤ a.toNat) := by
  rw [ult_iff_toNat, ← decide_not, decide_eq_decide, Nat.not_lt]

theorem toInt_sext13 {n : BitVec 13} : (sext13 n).toInt = n.toInt := BitVec.toInt_signExtend_of_le (by decide)

theorem toNat_zext13 {n : BitVec 13} : (zext13 n).toNat = n.toNat := by
  rw [zext13, BitVec.toNat_setWidth, Nat.mod_eq_of_lt (by omega)]

theorem rotateRight_small {a : Word} {n : Nat} (h : n < 32) : a.rotateRight n = (a >>> n) ||| (a <<< (32 - n)) := by
  rw [BitVec.rotateRight_def, Nat.mod_eq_of_lt h]

theorem zexth_eq_and {a : Word} : (a.truncate 16).zeroExtend 32 = a &&& 0xFFFF := by
  apply BitVec.eq_of_getLsbD_eq
  intro i hi
  rw [BitVec.getLsbD_and]
  simp only [BitVec.truncate_eq_setWidth, BitVec.getLsbD_setWidth, hi, decide_true, Bool.true_and]
  interval_cases i <;> simp

section

variable {a : Word} {n : BitVec 13}

theorem slt_sext13 : a.slt (sext13 n) = decide (a.toInt < n.toInt) := by rw [slt_iff_toInt, toInt_sext13]
theorem ult_zext13 : a.ult (zext13 n) = decide (a.toNat < n.toNat) := by rw [ult_iff_toNat, toNat_zext13]
theorem not_slt_sext13 : (!a.slt (sext13 n)) = decide (n.toInt ≤ a.toInt) := by rw [not_slt_eq, toInt_sext13]
theorem not_ult_zext13 : (!a.ult (zext13 n)) = decide (n.toNat ≤ a.toNat) := by rw [not_ult_eq, toNat_zext13]

theorem word01_slt_sext13 : word01 (a.slt (sext13 n)) = if a.toInt < n.toInt then 1 else 0 := by
  rw [slt_sext13, word01_decide]

theorem word01_ult_zext13 : word01 (a.ult (zext13 n)) = if a.toNat < n.toNat then 1 else 0 := by
  rw [ult_zext13, word01_decide]

end

/-- A value clamped to a signed word, and whether it was. -/
theorem satS_32 {v : Int} : satS 32 v = if 2 ^ 31 ≤ v then 2 ^ 31 - 1 else if v < -2 ^ 31 then -2 ^ 31 else v := by
  unfold satS
  norm_num
  split_ifs <;> omega

theorem fitsS_32 {v : Int} : (!fitsS 32 v) = (decide (2 ^ 31 ≤ v) || decide (v < -2 ^ 31)) := by
  unfold fitsS
  rw [satS_32]
  norm_num
  by_cases high : 2147483648 ≤ v
  · simp only [high, if_true, decide_true, Bool.not_true, Bool.false_and, beq_eq_false_iff_ne, ne_eq]
    omega
  · by_cases low : v < -2147483648
    · simp only [high, low, if_false, if_true, decide_true, Bool.not_true, Bool.and_false, beq_eq_false_iff_ne, ne_eq]
      omega
    · simp [high, low]

theorem abs_value {a : Word} : BitVec.ofInt 32 (satS 32 a.toInt.natAbs) =
    if a = 0x80000000 then 0x7FFFFFFF else if a.toInt < 0 then -a else a := by
  rw [satS_32]
  have low := BitVec.le_toInt a
  have high := BitVec.toInt_lt (x := a)
  by_cases least : a = 0x80000000
  · subst least
    decide
  · have apart : a.toInt ≠ -2 ^ 31 := fun h => least (BitVec.toInt_inj.mp (h.trans (by decide)))
    rw [if_neg (by omega), if_neg (by omega), if_neg least]
    split
    · rename_i neg
      rw [show ((a.toInt.natAbs : Nat) : Int) = -a.toInt by omega, BitVec.ofInt_neg, BitVec.ofInt_toInt]
    · rw [show ((a.toInt.natAbs : Nat) : Int) = a.toInt by omega, BitVec.ofInt_toInt]

theorem abs_clamps {a : Word} : (!fitsS 32 a.toInt.natAbs) = decide (a = 0x80000000) := by
  rw [fitsS_32]
  have low := BitVec.le_toInt a
  have high := BitVec.toInt_lt (x := a)
  by_cases least : a = 0x80000000
  · subst least
    decide
  · have apart : a.toInt ≠ -2 ^ 31 := fun h => least (BitVec.toInt_inj.mp (h.trans (by decide)))
    simp only [least, decide_false, Bool.or_eq_false_iff, decide_eq_false_iff_not]
    omega

/-! ## Counts of bits -/

theorem bit_eq_testBit {x i : Nat} : bit x i = x.testBit i := by
  rw [Nat.testBit_eq_decide_div_mod_eq, bit, beq_eq_decide]

/-- The first index below 32 at which a predicate holds, or 32. -/
theorem firstBelow_spec {p : Nat → Bool} :
    let n := ((upto 32).find? p).getD 32
    n ≤ 32 ∧ (∀ j < n, p j = false) ∧ (n = 32 ∨ p n = true) := by
  intro n
  cases e : (upto 32).find? p with
  | none =>
    have none := List.find?_range_eq_none.mp e
    have hn : n = 32 := by simp [n, e]
    exact ⟨hn.le, fun j hj => by simpa using none j (by omega), .inl hn⟩
  | some k =>
    obtain ⟨found, within, before⟩ := List.find?_range_eq_some.mp e
    have hn : n = k := by simp [n, e]
    rw [hn]
    exact ⟨(List.mem_range.mp within).le, fun j hj => by simpa using before j hj, .inr found⟩

theorem clzW_toNat {a : Word} : (clzW a).toNat = ((upto 32).find? fun i => bit a.toNat (31 - i)).getD 32 := by
  have small := (firstBelow_spec (p := fun i => bit a.toNat (31 - i))).1
  rw [clzW, BitVec.toNat_ofNat, Nat.mod_eq_of_lt (by omega)]

theorem ctzW_toNat {a : Word} : (ctzW a).toNat = ((upto 32).find? fun i => bit a.toNat i).getD 32 := by
  have small := (firstBelow_spec (p := fun i => bit a.toNat i)).1
  rw [ctzW, BitVec.toNat_ofNat, Nat.mod_eq_of_lt (by omega)]

theorem clzW_spec {a : Word} : (clzW a).toNat ≤ 32 ∧ a.toNat < 2 ^ (32 - (clzW a).toNat) ∧
    (clzW a = 32 ∨ 2 ^ (31 - (clzW a).toNat) ≤ a.toNat) := by
  obtain ⟨small, zeros, one⟩ := firstBelow_spec (p := fun i => bit a.toNat (31 - i))
  rw [← clzW_toNat] at small zeros one
  refine ⟨small, Nat.lt_pow_two_of_testBit _ fun i hi => ?_, one.imp (fun h => BitVec.eq_of_toNat_eq h) fun h => ?_⟩
  · by_cases high : 32 ≤ i
    · exact Nat.testBit_lt_two_pow (a.isLt.trans_le (Nat.pow_le_pow_right (by omega) high))
    · have h := zeros (31 - i) (by omega)
      rwa [bit_eq_testBit, show 31 - (31 - i) = i by omega] at h
  · rw [bit_eq_testBit] at h
    exact Nat.ge_two_pow_of_testBit h

theorem ctzW_zero : ctzW 0 = 32 := by decide

theorem ctzW_spec {a : Word} (h : a ≠ 0) : a.toNat % 2 ^ (ctzW a).toNat = 0 ∧ bit a.toNat (ctzW a).toNat = true := by
  obtain ⟨-, zeros, one⟩ := firstBelow_spec (p := fun i => bit a.toNat i)
  rw [← ctzW_toNat] at zeros one
  refine ⟨Nat.eq_of_testBit_eq fun i => ?_, one.resolve_left fun all => h (BitVec.eq_of_toNat_eq (Nat.eq_of_testBit_eq fun i => ?_))⟩
  · rw [Nat.testBit_mod_two_pow, Nat.zero_testBit]
    by_cases low : i < (ctzW a).toNat
    · rw [← bit_eq_testBit, zeros i low, Bool.and_false]
    · simp [low]
  · rw [show (0 : Word).toNat = 0 from rfl, Nat.zero_testBit]
    by_cases low : i < 32
    · rw [← bit_eq_testBit, zeros i (by omega)]
    · exact Nat.testBit_lt_two_pow (a.isLt.trans_le (Nat.pow_le_pow_right (by omega) (by omega)))

/-- The number of entries that satisfy a predicate, as a sum. -/
theorem length_filter_eq_sumN {p : Nat → Bool} {l : List Nat} : (l.filter p).length = sumN (l.map fun k => b2n (p k)) := by
  rw [sumN, ← List.sum_eq_foldl]
  induction l with
  | nil => rfl
  | cons k l ih => cases h : p k <;> simp [h, ih, b2n, Nat.add_comm]

theorem popW_toNat {a : Word} : (popW a).toNat = sumN ((upto 32).map fun k => b2n (bit a.toNat k)) := by
  have few : (ones 32 a.toNat).length ≤ 32 := (List.length_filter_le _ _).trans (by simp [upto])
  rw [popW, popcount, BitVec.toNat_ofNat, Nat.mod_eq_of_lt (by omega), ones, length_filter_eq_sumN]

theorem rev8W_bytes {a : Word} {k : Nat} (h : k < 4) : bits (rev8W a).toNat (8 * k) 8 = bits a.toNat (24 - 8 * k) 8 := by
  have b0 := Nat.mod_lt a.toNat (show 256 > 0 by decide)
  have b1 := Nat.mod_lt (a.toNat / 256) (show 256 > 0 by decide)
  have b2 := Nat.mod_lt (a.toNat / 65536) (show 256 > 0 by decide)
  have b3 := Nat.mod_lt (a.toNat / 16777216) (show 256 > 0 by decide)
  have value : (rev8W a).toNat = a.toNat / 16777216 % 256 + 256 * (a.toNat / 65536 % 256 + 256 * (a.toNat / 256 % 256 +
      256 * (a.toNat % 256))) := by
    simp only [rev8W, beOfBytes, bytesOfLe, List.reverse_cons, List.reverse_nil, List.nil_append, List.cons_append, leOfBytes,
      BitVec.toNat_ofNat, Nat.div_div_eq_div_mul, Nat.mod_mod]
    norm_num
    omega
  rw [value]
  unfold bits
  clear value
  interval_cases k
  all_goals
    norm_num only [Nat.div_one, Nat.mul_zero, Nat.mul_one, Nat.sub_zero, Nat.sub_self, pow_zero]
    generalize a.toNat / 16777216 % 256 = w3 at *
    generalize a.toNat / 65536 % 256 = w2 at *
    generalize a.toNat / 256 % 256 = w1 at *
    generalize a.toNat % 256 = w0 at *
    omega

end Sys2Proof.Machine

open Sys2Proof Sys2Proof.Machine

/-- Settles O30: every instruction is one word of slot 0 that writes one scalar register. -/
theorem furrowRegisterAlu : Obligations.FurrowRegisterAlu := by
  unfold Obligations.FurrowRegisterAlu
  refine ⟨fun s i => ?_, fun s i => ?_, fun s i one => ?_, fun s i one => ?_, fun a => ?_⟩
  · simp only [List.mem_cons, List.not_mem_nil, or_false, forall_eq_or_imp, forall_eq]
    exact ⟨retires_of_alu rfl rfl, retires_of_alu rfl rfl, retires_of_alu rfl rfl,
      retires_of_alu rfl rfl, retires_of_alu rfl rfl, retires_of_alu rfl rfl,
      retires_of_alu rfl rfl, retires_of_alu rfl rfl, retires_of_alu rfl rfl,
      retires_of_alu rfl rfl, retires_of_alu rfl (rotateRight_small (Nat.mod_lt _ (Nat.zero_lt_succ 31))),
      retires_of_alu rfl word01_decide, retires_of_alu rfl word01_decide,
      retires_of_alu rfl min_of_lt, retires_of_alu rfl max_of_lt,
      retires_of_alu rfl minu_of_lt, retires_of_alu rfl maxu_of_lt⟩
  · simp only [List.mem_cons, List.not_mem_nil, or_false, forall_eq_or_imp, forall_eq]
    simp only [← satS_32, ← fitsS_32]
    exact ⟨retires_of_aluSat rfl rfl rfl, retires_of_aluSat rfl rfl rfl⟩
  · have h := retires_of_aluSat (x := .abs i) (s := s) (i := i) rfl (decide_eq_true one) rfl
    rwa [abs_value, abs_clamps] at h
  · simp only [List.mem_cons, List.not_mem_nil, or_false, forall_eq_or_imp, forall_eq]
    exact ⟨retires_of_alu1 rfl one rfl, retires_of_alu1 rfl one rfl, retires_of_alu1 rfl one rfl,
      retires_of_alu1 rfl one rfl, retires_of_alu1 rfl one rfl, retires_of_alu1 rfl one zexth_eq_and,
      retires_of_alu1 rfl one rfl⟩
  · obtain ⟨small, above, top⟩ := clzW_spec (a := a)
    exact ⟨small, above, top, fun h => h ▸ ctzW_zero, ctzW_spec, popW_toNat, fun k => rev8W_bytes⟩

/-- Settles O31: every instruction is one word of slot 0 that reads RS1 and the immediate. -/
theorem furrowImmediateAlu : Obligations.FurrowImmediateAlu := by
  unfold Obligations.FurrowImmediateAlu
  refine fun s i => ⟨?_, fun short => ?_⟩
  · simp only [List.mem_cons, List.not_mem_nil, or_false, forall_eq_or_imp, forall_eq]
    exact ⟨retires_of_aluImm rfl rfl rfl, retires_of_aluImm rfl rfl rfl, retires_of_aluImm rfl rfl rfl,
      retires_of_aluImm rfl rfl rfl, retires_of_aluImm rfl rfl rfl,
      retires_of_aluImm rfl rfl word01_slt_sext13, retires_of_aluImm rfl rfl word01_ult_zext13⟩
  · have legal : decide (i.imm.toNat < 128) = true := decide_eq_true short
    simp only [List.mem_cons, List.not_mem_nil, or_false, forall_eq_or_imp, forall_eq]
    exact ⟨retires_of_aluImm rfl legal rfl, retires_of_aluImm rfl legal rfl, retires_of_aluImm rfl legal rfl,
      retires_of_aluImm rfl legal (rotateRight_small (Nat.mod_lt _ (Nat.zero_lt_succ 31)))⟩

/-- Settles O32: compares and predicate logic write one predicate, SEL and MFP one scalar register, MTP the predicates. -/
theorem furrowPredicates : Obligations.FurrowPredicates := by
  unfold Obligations.FurrowPredicates
  refine fun s => ⟨fun i low => ?_, fun i low => ?_, fun i low l1 l2 => ?_, fun i f low => ?_, fun i h1 h2 => ?_, fun i h1 h2 => ?_⟩
  · simp only [List.mem_cons, List.not_mem_nil, or_false, forall_eq_or_imp, forall_eq]
    exact ⟨retires_of_predAct rfl rfl low rfl, retires_of_predAct rfl rfl low bne_eq_decide, retires_of_predAct rfl rfl low rfl,
      retires_of_predAct rfl rfl low not_slt_eq, retires_of_predAct rfl rfl low rfl, retires_of_predAct rfl rfl low not_ult_eq⟩
  · simp only [List.mem_cons, List.not_mem_nil, or_false, forall_eq_or_imp, forall_eq]
    exact ⟨retires_of_predAct rfl rfl low rfl, retires_of_predAct rfl rfl low bne_eq_decide,
      retires_of_predAct rfl rfl low slt_sext13,
      retires_of_predAct rfl rfl low not_slt_sext13,
      retires_of_predAct rfl rfl low ult_zext13,
      retires_of_predAct rfl rfl low not_ult_zext13⟩
  · have legal : (decide (i.rs1.toNat < 8) && decide (i.rs2.toNat < 8)) = true := by simp [l1, l2]
    simp only [List.mem_cons, List.not_mem_nil, or_false, forall_eq_or_imp, forall_eq]
    exact ⟨retires_of_predAct rfl legal low rfl, retires_of_predAct rfl legal low rfl, retires_of_predAct rfl legal low rfl,
      retires_of_predAct rfl legal low rfl, retires_of_predAct rfl legal low rfl⟩
  · exact retires_of_aluAct_value rfl (decide_eq_true low) rfl
  · exact retires_of_aluAct_value rfl (by simp [h1, h2]) rfl
  · exact retires_of_issue (i := ⟨0, decide (i.rd = 0) && decide (i.rs2 = 0), [regS i.rs1.toNat], (upto 7).map (fun n => regP (n + 1)), none,
      false, fun b r => { r with p := ((b.sv i.rs1).truncate 8) ||| 1 }⟩) rfl (by simp [h1, h2]) (Nat.zero_ne_add_one 2) rfl rfl
      rfl fun _ => rfl
end

section
/-! PROOFS. Furrow-S multiply-accumulates and the loop-register moves (O33). -/

namespace Sys2Proof.Machine

section

variable {r : CoreRegs} {pc n : Nat}

@[simp] theorem loopAt_ac0Put {v : Int} : loopAt (ac0Put r v) pc n = loopAt r pc n := rfl

end

/-- A slot 0 word of Furrow-S whose effect is on the accumulator alone. -/
theorem retires_of_acAct {x : Instr} {s : State} {c : Nat} {e legal : Bool} {uses : List Nat} {eff : CoreRegs → CoreRegs → CoreRegs}
    {r : CoreRegs} (runs : exec x s = Machine.ok (issue s c e ⟨0, legal, uses, [regAc 0], none, false, eff⟩)) (ok : legal = true)
    (value : eff (beforeOf s c) (s.core c).regs = r)
    (loops : ∀ n, loopAt r (s.core c).pc n = loopAt (s.core c).regs (s.core c).pc n) : Retires x s c e 0 [regAc 0] r :=
  retires_of_issue (i := ⟨0, legal, uses, [regAc 0], none, false, eff⟩) runs ok (Nat.zero_ne_add_one 2) rfl rfl value loops

/-- Loop registers: 0 and 3 count, 1 and 4 begin, 2 and 5 end the loops 0 and 1. -/
theorem loopReg_loopRegPut {r : CoreRegs} {v : Word} {f g : Nat} (lc : r.lc.length = 2) (lb : r.lb.length = 2) (le : r.le.length = 2)
    (hf : f < 6) (hg : g < 6) :
    loopReg (loopRegPut r f v) g = if g = f then (if f % 3 = 0 then v else v &&& 0xFFFFFFFC) else loopReg r g := by
  obtain ⟨c0, c1, hc⟩ := List.length_eq_two.mp lc
  obtain ⟨b0, b1, hb⟩ := List.length_eq_two.mp lb
  obtain ⟨e0, e1, he⟩ := List.length_eq_two.mp le
  interval_cases f <;> interval_cases g <;> simp [loopReg, loopRegPut, nth, setNth, hc, hb, he]

end Sys2Proof.Machine

open Sys2Proof Sys2Proof.Machine

/-- Settles O33: every instruction is one word of slot 0; MTLP may end no loop of its own bundle. -/
theorem furrowAccumulatorAndLoops : Obligations.FurrowAccumulatorAndLoops := by
  unfold Obligations.FurrowAccumulatorAndLoops
  refine fun s i => ⟨fun x y sentry d => ?_, fun sentry d h1 h2 => ?_, fun sentry h1 h2 v hv => ?_, fun sentry d h2 => ?_,
    fun f low h1 h2 => ?_, fun f r low d h2 hr outer inner => ?_, fun r v lc lb le f hf => ⟨?_, fun g hg apart => ?_⟩⟩
  · simp only [List.mem_cons, List.not_mem_nil, or_false, forall_eq_or_imp, forall_eq]
    refine ⟨retires_of_acAct rfl (by simp [sentry, d]) ?_ fun _ => rfl, retires_of_acAct rfl (by simp [sentry, d]) ?_ fun _ => rfl⟩
    · simp only [one_mul, Bool.false_eq_true, if_false]
    · simp only [neg_one_mul, if_true, ← sub_eq_add_neg]
  · exact retires_of_acAct rfl (by simp [sentry, d, h1, h2]) rfl fun _ => rfl
  · subst hv
    exact retires_of_aluAct (x := .sacx i) (s := s) rfl (by simp [sentry, h1, h2])
  · exact retires_of_acAct rfl (by simp [sentry, d, h2]) (by norm_cast) fun _ => rfl
  · exact retires_of_aluAct_value rfl (by simp [low, h1, h2]) rfl
  · intro takes
    obtain ⟨ends, opens⟩ := issue_retires (e := i.e) (i := ⟨0, decide (f.toNat < 6) && decide (i.rd = 0) && decide (i.rs2 = 0),
      [regS i.rs1.toNat], [regL f.toNat], none, false, fun b r => loopRegPut r f.toNat (b.sv i.rs1)⟩) takes (by simp [low, d, h2])
      (Nat.zero_ne_add_one 2) rfl rfl hr.symm
    exact ⟨fun he plain => ⟨_, rfl, ends he plain outer inner⟩, fun he small => ⟨_, rfl, opens he small⟩⟩
  · rw [loopReg_loopRegPut lc lb le hf hf, if_pos rfl]
  · rw [loopReg_loopRegPut lc lb le hf hg, if_neg apart]
end

section
/-! PROOFS. Furrow's branches, calls, delay slots and hardware loops (O34). -/

namespace Sys2Proof.Machine

section

variable {s : State} {c : Nat} {e : Bool} {i : Act} {r : CoreRegs}

theorem beforeOf_first (first : (s.core c).bun = none) : beforeOf s c = (s.core c).regs := by
  simp [beforeOf, bundleOf, first]

theorem calm_kept (h : Calm s c) : (s.core c).stepping = true ∨ 4 ≤ c ∨ (s.core c).drop = false :=
  h.imp_right fun h => h.imp_right And.left

/-- A transfer that begins and ends its bundle is held over its delay slot. -/
theorem issue_turns {taken : Bool} {target : Nat} (h : TakesWord s c i.slot i.writes) (legal : i.ok = true) (slot : i.slot ≠ 3)
    (br : i.br = some (taken, target)) (first : (s.core c).bun = none) (plain : PlainEnd s c)
    (eff : i.eff (s.core c).regs (s.core c).regs = r) : issue s c true i = s.setCore c ((s.core c).turned taken target r) := by
  obtain ⟨noSlot, -, outer, inner, calm⟩ := plain
  have before := beforeOf_first first
  rw [issue_ends h legal slot (by rw [before, eff]) (.inl noSlot) (.inr (by rw [before]; exact ⟨outer, inner⟩))]
  exact bundleDone_turns h.1 noSlot (by simp [br]) (calm_kept calm)

theorem gives_turned {x : Instr} {ws : List Nat} {taken : Bool} {target : Nat} {legal : Bool} {uses : List Nat} {taken' : Bool} {target' : Nat}
    {eff : CoreRegs → CoreRegs → CoreRegs}
    (runs : exec x s = ok (issue s c e ⟨0, legal, uses, ws, some (taken', target'), true, eff⟩)) (ends : e = true) (lawful : legal = true)
    (h : TakesWord s c 0 ws) (first : (s.core c).bun = none) (plain : PlainEnd s c) (goes : taken' = taken) (goal : target' = target)
    (value : eff (s.core c).regs (s.core c).regs = r) : Gives x s (fun t => t = s.setCore c ((s.core c).turned taken target r)) := by
  subst ends goes goal
  exact ⟨_, runs, issue_turns h lawful (Nat.zero_ne_add_one 2) rfl first plain value⟩

theorem branchTo_eq {pc target : Nat} {off : Int} (h : (target : Int) = ((pc : Int) + 4 * off) % 2 ^ 32) : branchTo pc off = target := by
  have e : ((pc : Int) + 4 * off) % (2 ^ 32 : Nat) = target := by exact_mod_cast h.symm
  rw [branchTo, e, Int.toNat_natCast]

theorem gives_branchIf {x : Instr} {i : IForm} {f : Word → Bool} {taken : Bool} {target : Nat} (runs : exec x s = ok (branchIf s i f))
    (ends : i.e = true) (zero : i.rd = 0) (h : TakesWord s i.c 0 []) (first : (s.core i.c).bun = none) (plain : PlainEnd s i.c)
    (goes : f ((s.core i.c).regs.sv i.rs1) = taken) (goal : (target : Int) = (((s.core i.c).pc : Int) + 4 * i.imm.toInt) % 2 ^ 32) :
    Gives x s (fun t => t = s.setCore i.c ((s.core i.c).turned taken target (s.core i.c).regs)) := by
  refine gives_turned runs ends (decide_eq_true zero) h first plain ?_ (branchTo_eq goal) rfl
  rw [returnFor_none h.2.2.1, first]
  exact goes

theorem gives_branchPred {x : Instr} {i : IForm} {v taken : Bool} {target : Nat} (runs : exec x s = ok (branchPred s i v))
    (ends : i.e = true) (zero : i.rd = 0) (low : i.rs1.toNat < 8) (h : TakesWord s i.c 0 []) (first : (s.core i.c).bun = none)
    (plain : PlainEnd s i.c) (goes : ((s.core i.c).regs.pv i.rs1.toNat == v) = taken)
    (goal : (target : Int) = (((s.core i.c).pc : Int) + 4 * i.imm.toInt) % 2 ^ 32) :
    Gives x s (fun t => t = s.setCore i.c ((s.core i.c).turned taken target (s.core i.c).regs)) := by
  refine gives_turned runs ends (by simp [zero, low]) h first plain ?_ (branchTo_eq goal) rfl
  rw [show (bundleOf (s.core i.c)).before = (s.core i.c).regs from beforeOf_first first]
  exact goes

theorem eq_zero_iff_toInt {a : Word} : (a == 0) = decide (a.toInt = 0) := by
  rw [beq_eq_decide, decide_eq_decide, ← BitVec.toInt_inj]
  rfl

theorem ne_zero_iff_toInt {a : Word} : (a != 0) = decide (a.toInt ≠ 0) := by
  rw [bne, eq_zero_iff_toInt, decide_not]

theorem slt_zero {a : Word} : a.slt 0 = decide (a.toInt < 0) := rfl

theorem not_slt_zero {a : Word} : (!a.slt 0) = decide (0 ≤ a.toInt) := not_slt_eq

theorem zero_slt {a : Word} : (0 : Word).slt a = decide (0 < a.toInt) := rfl

theorem not_zero_slt {a : Word} : (!(0 : Word).slt a) = decide (a.toInt ≤ 0) := not_slt_eq

end

/-! ## Hardware loops -/

theorem ofNat_and_mask {n : Nat} (h : n % 4 = 0) : BitVec.ofNat 32 n &&& 4294967292#32 = BitVec.ofNat 32 n := by
  have low : ∀ j < 2, n.testBit j = false := by
    intro j hj
    rw [Nat.testBit_eq_decide_div_mod_eq, decide_eq_false_iff_not]
    interval_cases j <;> omega
  apply BitVec.eq_of_getLsbD_eq
  intro j hj
  rw [BitVec.getLsbD_and, BitVec.getLsbD_ofNat]
  by_cases small : j < 2
  · simp [low j small]
  · have high : (4294967292#32).getLsbD j = true := by
      have : 2 ≤ j := by omega
      interval_cases j <;> rfl
    rw [high, Bool.and_true]

/-- What LOOP writes: the count, the first and the last bundle of loop `k`. -/
theorem loopRegPut_three {r : CoreRegs} {k pc n m : Nat} {v : Word} (hk : k < 2) (hn : (pc + 4 * n) % 4 = 0) (hm : (pc + 4 * m) % 4 = 0) :
    loopRegPut (loopRegPut (loopRegPut r (3 * k) v) (3 * k + 1) (BitVec.ofNat 32 (pc + 4 * n))) (3 * k + 2) (BitVec.ofNat 32 (pc + 4 * m)) =
      { r with
        lc := setNth r.lc k v, lb := setNth r.lb k (BitVec.ofNat 32 (pc + 4 * n)), le := setNth r.le k (BitVec.ofNat 32 (pc + 4 * m)) } := by
  unfold loopRegPut
  interval_cases k <;> simp [ofNat_and_mask hn, ofNat_and_mask hm]

/-- A loop whose last bundle lies past the pc does not end at it. -/
theorem loopAt_ahead {r : CoreRegs} {k n pc m : Nat} {v b : Word} (ahead : 1 ≤ m) (near : 4 * m < 2 ^ 32) (lc : k < r.lc.length)
    (le : k < r.le.length) (other : loopAt r pc n = false) :
    loopAt { r with lc := setNth r.lc k v, lb := setNth r.lb k b, le := setNth r.le k (BitVec.ofNat 32 (pc + 4 * m)) } pc n = false := by
  by_cases same : n = k
  · subst same
    have far : (BitVec.ofNat 32 (pc + 4 * m)).toNat ≠ pc := by
      rw [BitVec.toNat_ofNat]
      omega
    have last : nth (setNth r.le n (BitVec.ofNat 32 (pc + 4 * m))) n 0 = BitVec.ofNat 32 (pc + 4 * m) := by simp [nth, setNth, le]
    unfold loopAt
    rw [last, decide_eq_false far, Bool.and_false]
  · have apart : ∀ (l : List Word) (w : Word), nth (setNth l k w) n 0 = nth l n 0 := by
      intro l w
      simp [nth, setNth, List.getElem?_set, Ne.symm same]
    unfold loopAt at other ⊢
    rw [apart, apart]
    exact other

section

variable {r : CoreRegs} {pc next : Nat}

@[simp] theorem setS_lc {d : BitVec 5} {v : Word} : (r.setS d v).lc = r.lc := by
  unfold CoreRegs.setS
  split <;> rfl

@[simp] theorem setS_lb {d : BitVec 5} {v : Word} : (r.setS d v).lb = r.lb := by
  unfold CoreRegs.setS
  split <;> rfl

theorem loopAt_modes {now later : BitVec 8} {n : Nat} : loopAt { r with fmNow := now, fmNext := later } pc n = loopAt r pc n := rfl

/-- The inner loop goes back while its count is above 1. -/
theorem loopAct_back (inner : loopAt r pc 1 = true) (more : 1 < (nth r.lc 1 0).toNat) :
    loopAct r pc next = ({ r with lc := setNth r.lc 1 (nth r.lc 1 0 - 1) }, (nth r.lb 1 0).toNat) := by
  have step : loopStep r 1 = ({ r with lc := setNth r.lc 1 (nth r.lc 1 0 - 1) }, some (nth r.lb 1 0).toNat) := if_pos more
  simp only [loopAct, inner, if_true, step]

/-- The inner loop ends at count 1, and the outer loop does not end here. -/
theorem loopAct_through (inner : loopAt r pc 1 = true) (last : ¬ 1 < (nth r.lc 1 0).toNat) (outer : loopAt r pc 0 = false) :
    loopAct r pc next = ({ r with lc := setNth r.lc 1 0 }, next) := by
  have stands : loopAt { r with lc := setNth r.lc 1 0 } pc 0 = false := by
    have apart : nth (setNth r.lc 1 0) 0 0 = nth r.lc 0 0 := by simp [nth, setNth, List.getElem?_set]
    unfold loopAt at outer ⊢
    rw [apart]
    exact outer
  have step : loopStep r 1 = ({ r with lc := setNth r.lc 1 0 }, none) := if_neg last
  simp only [loopAct, inner, if_true, step, stands, Bool.false_eq_true, if_false, Option.getD_none]

end

section

variable {s : State} {i : RForm}

/-- ADD as the word that ends its bundle alone, whatever comes after it. -/
theorem issue_add_ends (takes : TakesWord s i.c 0 [regS i.rd.toNat]) (first : (s.core i.c).bun = none) :
    issue s i.c true (aluAct true [i.rs1, i.rs2] i.rd fun b => (b.sv i.rs1 + b.sv i.rs2, false)) =
      bundleDone (s.setCore i.c { s.core i.c with
        bun := some { bundleOf (s.core i.c) with words := 1, last := 0, wrote := [regS i.rd.toNat] },
        regs := (s.core i.c).regs.setS i.rd ((s.core i.c).regs.sv i.rs1 + (s.core i.c).regs.sv i.rs2) }) i.c false := by
  have before := beforeOf_first first
  have fresh : bundleOf (s.core i.c) = ⟨0, 0, false, none, [], none, false, (s.core i.c).regs⟩ := by simp [bundleOf, first]
  rw [issue_ends (r := (s.core i.c).regs.setS i.rd ((s.core i.c).regs.sv i.rs1 + (s.core i.c).regs.sv i.rs2)) takes rfl
    (Nat.zero_ne_add_one 2) (by simp [aluAct, before]) (.inr ⟨by rw [fresh], rfl⟩) (.inl ⟨by rw [fresh], rfl⟩)]
  simp [fresh, aluAct]

/-- ADD in a delay slot. -/
theorem gives_add_lands {d : Transfer} (takes : TakesWord s i.c 0 [regS i.rd.toNat]) (ends : i.e = true) (slot : (s.core i.c).slot = some d)
    (first : (s.core i.c).bun = none) (outer : loopAt (s.core i.c).regs (s.core i.c).pc 0 = false)
    (inner : loopAt (s.core i.c).regs (s.core i.c).pc 1 = false) (calm : Calm s i.c) :
    Gives (.add i) s fun t => t = s.setCore i.c { (s.core i.c).past
      ((s.core i.c).regs.setS i.rd ((s.core i.c).regs.sv i.rs1 + (s.core i.c).regs.sv i.rs2)) with
        slot := none, pc := if d.taken then d.target else ((s.core i.c).pc + 4) % 2 ^ 32 } := by
  refine ⟨_, rfl, ?_⟩
  rw [alu, ends, issue_add_ends takes first, bundleDone_lands takes.1 slot (by rw [loopAt_setS, outer]) (by rw [loopAt_setS, inner])
    (calm_setCore takes.1 calm rfl rfl rfl rfl)]
  simp [CoreSt.past]

/-- ADD as the last bundle of a loop. -/
theorem gives_add_falls {r r' : CoreRegs} {next : Nat} (takes : TakesWord s i.c 0 [regS i.rd.toNat]) (ends : i.e = true)
    (slot : (s.core i.c).slot = none) (first : (s.core i.c).bun = none) (calm : Calm s i.c)
    (sum : r = (s.core i.c).regs.setS i.rd ((s.core i.c).regs.sv i.rs1 + (s.core i.c).regs.sv i.rs2))
    (loops : loopAct { r with fmNow := r.fmNext, fmNext := r.fmode } (s.core i.c).pc (((s.core i.c).pc + 4) % 2 ^ 32) =
      ({ r' with fmNow := r'.fmNext, fmNext := r'.fmode }, next)) :
    Gives (.add i) s fun t => t = s.setCore i.c { (s.core i.c).past r' with pc := next } := by
  refine ⟨_, rfl, ?_⟩
  rw [alu, ends, issue_add_ends takes first, ← sum, bundleDone_falls takes.1 slot (by simp [bundleOf, first])
    (calm_setCore takes.1 calm rfl rfl rfl rfl), Nat.mul_one, loops]
  rfl

end

end Sys2Proof.Machine

open Sys2Proof Sys2Proof.Machine

/-- Settles O34: a transfer waits in the core for its delay slot; LOOP's own bundle ends no loop. -/
theorem furrowTransfers : Obligations.FurrowTransfers := by
  unfold Obligations.FurrowTransfers
  refine fun s => ⟨?_, ?_, ?_, ?_, ?_⟩
  · rintro c x taken target ws r first takes plain (⟨i, rfl, he, rfl, rfl, rfl, rfl, goal⟩ | ⟨i, n, rfl, he, rfl, rfl, rfl, rfl, goal⟩ |
      ⟨i, n, rfl, he, rfl, h2, apart, rfl, rfl, rfl, rfl⟩ | ⟨i, rfl, he, hd, rfl, rfl, goal, branch⟩)
    · exact gives_turned rfl he rfl takes first plain rfl (branchTo_eq goal) rfl
    · exact gives_turned rfl he rfl takes first plain rfl (branchTo_eq goal) rfl
    · refine gives_turned rfl he ?_ takes first plain rfl ?_ ?_
      · rcases apart with ne | zero <;> simp [h2, *]
      · rw [returnFor_none takes.2.2.1, show (bundleOf (s.core i.c)).before = (s.core i.c).regs from beforeOf_first first]
      · rw [returnFor_none takes.2.2.1]
        rfl
    · rcases branch with word | ⟨low, pred⟩
      · simp only [List.mem_cons, List.not_mem_nil, or_false, Prod.mk.injEq] at word
        rcases word with ⟨rfl, rfl⟩ | ⟨rfl, rfl⟩ | ⟨rfl, rfl⟩ | ⟨rfl, rfl⟩ | ⟨rfl, rfl⟩ | ⟨rfl, rfl⟩
        · exact gives_branchIf rfl he hd takes first plain eq_zero_iff_toInt goal
        · exact gives_branchIf rfl he hd takes first plain ne_zero_iff_toInt goal
        · exact gives_branchIf rfl he hd takes first plain slt_zero goal
        · exact gives_branchIf rfl he hd takes first plain not_slt_zero goal
        · exact gives_branchIf rfl he hd takes first plain zero_slt goal
        · exact gives_branchIf rfl he hd takes first plain not_zero_slt goal
      · simp only [List.mem_cons, List.not_mem_nil, or_false, Prod.mk.injEq] at pred
        rcases pred with ⟨rfl, rfl⟩ | ⟨rfl, rfl⟩
        · exact gives_branchPred rfl he hd low takes first plain (by simp) goal
        · exact gives_branchPred rfl he hd low takes first plain (by simp) goal
  · intro i d takes he slot first outer inner calm
    exact gives_add_lands takes he slot first outer inner calm
  · intro i k r takes he plain first rd ahead hr lc lb le aligned
    subst hr
    have hk : i.rd.toNat % 2 = k.val := by omega
    have ends := plain
    obtain ⟨-, -, outer, inner, -⟩ := ends
    have value := loopRegPut_three (r := (s.core i.c).regs) (k := k) (pc := (s.core i.c).pc) (n := 1) (m := i.imm.toNat)
      (v := if (s.core i.c).regs.sv i.rs1 = 0 then 1 else (s.core i.c).regs.sv i.rs1) k.isLt (by omega) (by omega)
    have near := i.imm.isLt
    refine ⟨_, rfl, ?_⟩
    dsimp only
    rw [he, hk, issue_ends_plain takes (by simpa using ⟨by omega, ahead⟩) (Nat.zero_ne_add_one 2) rfl
      (by rw [beforeOf_first first]; exact value) plain (loopAt_ahead ahead (by omega) (by omega) (by omega) outer)
      (loopAt_ahead ahead (by omega) (by omega) (by omega) inner)]
  · intro i r n takes he first slot hr at1 hn lc more calm
    subst hr hn
    refine gives_add_falls takes he slot first calm rfl ((loopAct_back ?_ ?_).trans ?_)
    · rw [loopAt_modes, loopAt_setS, at1]
    · rw [setS_lc]
      exact more
    · simp
  · intro i r takes he first slot hr at1 at0 one calm
    subst hr
    have falls : Gives (.add i) s fun t => t = s.setCore i.c { (s.core i.c).past
        { (s.core i.c).regs.setS i.rd ((s.core i.c).regs.sv i.rs1 + (s.core i.c).regs.sv i.rs2) with
          lc := setNth (s.core i.c).regs.lc 1 0 } with pc := ((s.core i.c).pc + 4) % 2 ^ 32 } := by
      refine gives_add_falls takes he slot first calm rfl ((loopAct_through ?_ ?_ ?_).trans ?_)
      · rw [loopAt_modes, loopAt_setS, at1]
      · rw [setS_lc, one]
        decide
      · rw [loopAt_modes, loopAt_setS, at0]
      · simp
    obtain ⟨t, runs, same⟩ := falls
    refine ⟨t, runs, same.trans ?_⟩
    simp [CoreSt.past, bundleOf, first]
end

section
/-! PROOFS. Furrow's vector instructions (O35). -/

namespace Sys2Proof.Machine

/-! ## A vector from its lanes -/

theorem foldr_digits {B n x : Nat} {f : Nat → Nat} (h : ∀ k < n, f k % B = x / B ^ k % B) :
    ((List.range n).map f).foldr (fun v acc => v % B + B * acc) 0 = x % B ^ n := by
  induction n generalizing f x with
  | zero => simp [Nat.mod_one]
  | succ n ih =>
    have rest : ∀ k < n, (f ∘ Nat.succ) k % B = x / B / B ^ k % B := fun k hk => by
      rw [Function.comp_apply, h _ (by omega), Nat.div_div_eq_div_mul, ← Nat.pow_succ']
    have first : f 0 % B = x % B := by simpa using h 0 (by omega)
    rw [List.range_succ_eq_map, List.map_cons, List.foldr_cons, List.map_map, ih rest, first, Nat.pow_succ', Nat.mod_mul]

/-- A vector is known by its lanes. -/
theorem mapLanes_eq {w : Bool} {q : BitVec 128} {f : Nat → Nat} (h : ∀ k < laneCount w, laneU w q k = f k % 2 ^ laneBits w) :
    mapLanes w f = q := by
  have digits : ∀ k < laneCount w, f k % 2 ^ laneBits w = q.toNat / (2 ^ laneBits w) ^ k % 2 ^ laneBits w := fun k hk => by
    rw [← h k hk, laneU, bits, ← Nat.pow_mul]
  have whole : (2 ^ laneBits w) ^ laneCount w = 2 ^ 128 := by cases w <;> rfl
  have value := foldr_digits digits
  rw [whole, Nat.mod_eq_of_lt q.isLt] at value
  rw [mapLanes, ofLanes, upto, value, BitVec.ofNat_toNat, BitVec.setWidth_eq]

theorem ofLanes_map {w : Bool} {f : Nat → Nat} : ofLanes w ((upto (laneCount w)).map f) = mapLanes w f := rfl

section

variable {n : Nat} {v : Int}

theorem ofSigned_lt : ofSigned n v < 2 ^ n := by
  have pos : (0 : Int) < ((2 ^ n : Nat) : Int) := by exact_mod_cast Nat.two_pow_pos n
  have low := Int.emod_nonneg v pos.ne'
  have high := Int.emod_lt_of_pos v pos
  rw [ofSigned]
  omega

@[simp] theorem ofSigned_mod : ofSigned n v % 2 ^ n = ofSigned n v := Nat.mod_eq_of_lt ofSigned_lt

theorem ofSigned_toSigned {x : Nat} : ofSigned n (toSigned n x) = x % 2 ^ n := by
  have pos : (0 : Int) < ((2 ^ n : Nat) : Int) := by exact_mod_cast Nat.two_pow_pos n
  have small : ((x % 2 ^ n : Nat) : Int) % ((2 ^ n : Nat) : Int) = (x % 2 ^ n : Nat) := by
    rw [← Int.natCast_mod, Nat.mod_mod]
  rw [ofSigned, toSigned]
  split
  · rw [small, Int.toNat_natCast]
  · rw [Int.sub_emod_right, small, Int.toNat_natCast]

end

section

variable {w : Bool} {q : BitVec 128} {k : Nat}

theorem laneU_lt : laneU w q k < 2 ^ laneBits w := Nat.mod_lt _ (Nat.two_pow_pos _)

@[simp] theorem laneU_mod : laneU w q k % 2 ^ laneBits w = laneU w q k := Nat.mod_eq_of_lt laneU_lt

theorem ofSigned_laneS : ofSigned (laneBits w) (laneS w q k) = laneU w q k := by
  rw [laneS, ofSigned_toSigned, laneU_mod]

theorem laneU_of_laneS {v : Int} (h : laneS w q k = v) : laneU w q k = ofSigned (laneBits w) v := by
  rw [← h, ofSigned_laneS]

end

/-! ## The shared shapes of a vector instruction -/

theorem one_ne_three : (1 : Nat) ≠ 3 := by decide

section

variable {r : CoreRegs} {pc n : Nat}

@[simp] theorem loopAt_setQ {d : BitVec 5} {v : BitVec 128} : loopAt (r.setQ d v) pc n = loopAt r pc n := rfl

@[simp] theorem loopAt_setAc {d : BitVec 5} {v : List Int} : loopAt (r.setAc d v) pc n = loopAt r pc n := rfl

end

section

variable {x : Instr} {s : State} {i : RForm} {legal sat : Bool} {uses : List Nat} {q : BitVec 128}

theorem retires_of_vecTo {f : CoreRegs → BitVec 128 × Bool} (runs : exec x s = ok (vecTo s i legal uses f)) (vec : i.c.val < 4)
    (ok : legal = true) (rd : i.rd.toNat < 16) (value : f (beforeOf s i.c) = (q, sat)) :
    Retires x s i.c i.e 1 [regQ i.rd.toNat] (((s.core i.c).regs.setQ i.rd q).flags sat false) := by
  have value1 : (f (beforeOf s i.c)).1 = q := by rw [value]
  have value2 : (f (beforeOf s i.c)).2 = sat := by rw [value]
  subst value1 value2
  exact retires_of_issue (i := ⟨1, onF i && legal && okQ i.rd, uses, [regQ i.rd.toNat], none, false,
    fun b r => (r.setQ i.rd (f b).1).flags (f b).2 false⟩) runs (by simp [onF, vec, ok, okQ, rd]) one_ne_three rfl rfl rfl
    fun _ => by rw [loopAt_flags, loopAt_setQ]

/-- The same, where nothing clamps. -/
theorem retires_of_vecTo_value {f : CoreRegs → BitVec 128 × Bool} (runs : exec x s = ok (vecTo s i legal uses f)) (vec : i.c.val < 4)
    (ok : legal = true) (rd : i.rd.toNat < 16) (value : f (beforeOf s i.c) = (q, false)) :
    Retires x s i.c i.e 1 [regQ i.rd.toNat] ((s.core i.c).regs.setQ i.rd q) := by
  have h := retires_of_vecTo runs vec ok rd value
  rwa [flags_none] at h

theorem retires_of_lanes2 {func : BitVec 8} {f : Bool → Nat → BitVec 128 → BitVec 128 → Nat × Bool} {g : Nat → Nat × Bool} {w : Bool}
    (runs : exec x s = ok (lanes2 s i func f)) (vec : i.c.val < 4) (small : func.toNat < 2) (rd : i.rd.toNat < 16)
    (rs1 : i.rs1.toNat < 16) (rs2 : i.rs2.toNat < 16) (hw : w = bit func.toNat 0)
    (hg : ∀ k, f w k ((beforeOf s i.c).qv i.rs1) ((beforeOf s i.c).qv i.rs2) = g k)
    (lanes : ∀ k < laneCount w, laneU w q k = (g k).1 % 2 ^ laneBits w) :
    Retires x s i.c i.e 1 [regQ i.rd.toNat] (((s.core i.c).regs.setQ i.rd q).flags ((upto (laneCount w)).any fun k => (g k).2) false) := by
  subst hw
  refine retires_of_vecTo runs vec (by simp [small, okQ, rs1, rs2]) rd ?_
  simp only [hg, List.map_map, List.any_map]
  exact Prod.ext (mapLanes_eq lanes) rfl

/-- The same, where no lane clamps. -/
theorem retires_of_lanes2_value {func : BitVec 8} {f : Bool → Nat → BitVec 128 → BitVec 128 → Nat × Bool} {g : Nat → Nat} {w : Bool}
    (runs : exec x s = ok (lanes2 s i func f)) (vec : i.c.val < 4) (small : func.toNat < 2) (rd : i.rd.toNat < 16)
    (rs1 : i.rs1.toNat < 16) (rs2 : i.rs2.toNat < 16) (hw : w = bit func.toNat 0)
    (hg : ∀ k, f w k ((beforeOf s i.c).qv i.rs1) ((beforeOf s i.c).qv i.rs2) = (g k, false))
    (lanes : ∀ k < laneCount w, laneU w q k = g k % 2 ^ laneBits w) :
    Retires x s i.c i.e 1 [regQ i.rd.toNat] ((s.core i.c).regs.setQ i.rd q) := by
  have h := retires_of_lanes2 (q := q) (g := fun k => (g k, false)) runs vec small rd rs1 rs2 hw hg lanes
  have none : ((upto (laneCount w)).any fun _ => false) = false := by simp
  rwa [none, flags_none] at h

theorem retires_of_mapLanes {f : CoreRegs → BitVec 128 × Bool} {g : Nat → Nat} {w : Bool} (runs : exec x s = ok (vecTo s i legal uses f))
    (vec : i.c.val < 4) (ok : legal = true) (rd : i.rd.toNat < 16) (value : f (beforeOf s i.c) = (mapLanes w g, false))
    (lanes : ∀ k < laneCount w, laneU w q k = g k % 2 ^ laneBits w) :
    Retires x s i.c i.e 1 [regQ i.rd.toNat] ((s.core i.c).regs.setQ i.rd q) :=
  retires_of_vecTo_value runs vec ok rd (by rw [value, mapLanes_eq lanes])

theorem upto_four : upto 4 = [0, 1, 2, 3] := rfl

theorem retires_of_accTo {f : CoreRegs → Nat → Int × Bool} {v : Nat → Int × Bool} (runs : exec x s = ok (accTo s i legal uses f))
    (vec : i.c.val < 4) (ok : legal = true) (rd : i.rd.toNat < 4) (value : ∀ k, f (beforeOf s i.c) k = v k) :
    Retires x s i.c i.e 1 [regAc i.rd.toNat] (((s.core i.c).regs.setAc i.rd [(v 0).1, (v 1).1, (v 2).1, (v 3).1]).flags false
      ((v 0).2 || (v 1).2 || (v 2).2 || (v 3).2)) := by
  obtain rfl : f (beforeOf s i.c) = v := funext value
  unfold accTo at runs
  refine retires_of_issue runs (by simp [onF, vec, ok, okAc, rd]) one_ne_three rfl rfl ?_ fun _ => (loopAt_flags).trans loopAt_setAc
  simp only [upto_four, List.map_cons, List.map_nil, List.any_cons, List.any_nil, Bool.or_false, Bool.or_assoc]

/-- The same, where nothing saturates. -/
theorem retires_of_accTo_value {f : CoreRegs → Nat → Int × Bool} {v : Nat → Int} (runs : exec x s = ok (accTo s i legal uses f))
    (vec : i.c.val < 4) (ok : legal = true) (rd : i.rd.toNat < 4) (value : ∀ k, f (beforeOf s i.c) k = (v k, false)) :
    Retires x s i.c i.e 1 [regAc i.rd.toNat] ((s.core i.c).regs.setAc i.rd ((upto 4).map v)) := by
  have h := retires_of_accTo (v := fun k => (v k, false)) runs vec ok rd value
  simpa only [Bool.or_self, flags_none, upto_four, List.map_cons, List.map_nil] using h

theorem retires_of_vecToP {f : BitVec 128 → Bool} {v : Bool} (runs : exec x s = Machine.ok (vecToP s i legal f)) (vec : i.c.val < 4)
    (ok : legal = true) (rd : i.rd.toNat < 8) (rs1 : i.rs1.toNat < 16) (rs2 : i.rs2 = 0)
    (value : f ((beforeOf s i.c).qv i.rs1) = v) : Retires x s i.c i.e 1 [regP i.rd.toNat] ((s.core i.c).regs.setP i.rd v) := by
  subst value
  exact retires_of_issue (i := ⟨1, onF i && legal && okP i.rd && okQ i.rs1 && decide (i.rs2 = 0), [regQ i.rs1.toNat], [regP i.rd.toNat],
    none, false, fun b r => r.setP i.rd (f (b.qv i.rs1))⟩) runs (by simp [onF, vec, ok, okP, okQ, rd, rs1, rs2]) one_ne_three rfl rfl rfl
    fun _ => loopAt_setP

end

/-! ## Lane by lane -/

theorem floorDiv_eq {a : Int} {n : Nat} : floorDiv a n = a / n := Int.fdiv_eq_ediv_of_nonneg a (Int.natCast_nonneg n)

theorem minLane_eq {w : Bool} {a b : BitVec 128} {k : Nat} : (if laneS w a k ≤ laneS w b k then laneU w a k else laneU w b k) =
    ofSigned (laneBits w) (if laneS w a k < laneS w b k then laneS w a k else laneS w b k) := by
  rcases lt_trichotomy (laneS w a k) (laneS w b k) with h | h | h
  · rw [if_pos h.le, if_pos h, ofSigned_laneS]
  · rw [if_pos h.le, if_neg h.not_lt, ← h, ofSigned_laneS]
  · rw [if_neg h.not_ge, if_neg h.not_gt, ofSigned_laneS]

theorem maxLane_eq {w : Bool} {a b : BitVec 128} {k : Nat} : (if laneS w a k ≤ laneS w b k then laneU w b k else laneU w a k) =
    ofSigned (laneBits w) (if laneS w a k < laneS w b k then laneS w b k else laneS w a k) := by
  rcases lt_trichotomy (laneS w a k) (laneS w b k) with h | h | h
  · rw [if_pos h.le, if_pos h, ofSigned_laneS]
  · rw [if_pos h.le, if_neg h.not_lt, h, ofSigned_laneS]
  · rw [if_neg h.not_ge, if_neg h.not_gt, ofSigned_laneS]

theorem retires_of_clampLanes {x : Instr} {s : State} {i : RForm} {func : BitVec 8} {f : Bool → Nat → BitVec 128 → BitVec 128 → Nat × Bool}
    {g : Nat → Int} {w : Bool} {q : BitVec 128} (runs : exec x s = ok (lanes2 s i func f)) (vec : i.c.val < 4) (small : func.toNat < 2)
    (rd : i.rd.toNat < 16) (rs1 : i.rs1.toNat < 16) (rs2 : i.rs2.toNat < 16) (hw : w = bit func.toNat 0)
    (hg : ∀ k, f w k ((beforeOf s i.c).qv i.rs1) ((beforeOf s i.c).qv i.rs2) = clampLane w (g k))
    (lanes : ∀ k < laneCount w, laneS w q k = satS (laneBits w) (g k)) :
    Retires x s i.c i.e 1 [regQ i.rd.toNat]
      (((s.core i.c).regs.setQ i.rd q).flags ((upto (laneCount w)).any fun k => !fitsS (laneBits w) (g k)) false) :=
  retires_of_lanes2 (g := fun k => clampLane w (g k)) runs vec small rd rs1 rs2 hw hg fun k hk => by
    rw [laneU_of_laneS (lanes k hk), clampLane, ofSigned_mod]

theorem retires_of_shiftLanes {x : Instr} {s : State} {i : RForm} {func : BitVec 8} {f : BitVec 8 → Bool → Nat → BitVec 128 → Nat → Nat}
    {g : Nat → Nat} {w : Bool} {q : BitVec 128} (runs : exec x s = ok (shiftLanes s i func f)) (vec : i.c.val < 4)
    (rd : i.rd.toNat < 16) (rs1 : i.rs1.toNat < 16) (rs2 : i.rs2 = 0) (hw : w = bit func.toNat 0)
    (amount : w = true ∨ bits func.toNat 3 5 ≤ 15)
    (lanes : ∀ k < laneCount w, laneU w q k = g k)
    (hg : ∀ k < laneCount w, f (beforeOf s i.c).fmNow w (bits func.toNat 3 5) ((beforeOf s i.c).qv i.rs1) k = g k) :
    Retires x s i.c i.e 1 [regQ i.rd.toNat] ((s.core i.c).regs.setQ i.rd q) := by
  subst hw
  refine retires_of_mapLanes runs vec ?_ rd rfl fun k hk => ?_
  · simp only [okQ, rs1, rs2, decide_true, Bool.true_and, Bool.or_eq_true, decide_eq_true_eq]
    exact amount
  · rw [hg k hk, ← lanes k hk, laneU_mod]

theorem retires_of_cmpLanes {x : Instr} {s : State} {i : RForm} {func : BitVec 8} {f : Bool → Nat → BitVec 128 → BitVec 128 → Bool}
    {g : Nat → Bool} {w : Bool} {q : BitVec 128} (runs : exec x s = ok (cmpLanes s i func f)) (vec : i.c.val < 4)
    (rd : i.rd.toNat < 16) (rs1 : i.rs1.toNat < 16) (rs2 : i.rs2.toNat < 16) (small : func.toNat < 8) (hw : w = bit func.toNat 0)
    (hg : ∀ k, f w k ((beforeOf s i.c).qv i.rs1) ((beforeOf s i.c).qv i.rs2) = g k)
    (lanes : ∀ k < laneCount w, laneU w q k = if g k then 2 ^ laneBits w - 1 else 0) :
    Retires x s i.c i.e 1 [regQ i.rd.toNat] ((s.core i.c).regs.setQ i.rd q) := by
  subst hw
  refine retires_of_mapLanes runs vec (by simp [small, okQ, rs1, rs2]) rd rfl fun k hk => ?_
  rw [hg k, ← lanes k hk, laneU_mod]

theorem retires_of_whole2 {x : Instr} {s : State} {i : RForm} {f : BitVec 128 → BitVec 128 → BitVec 128} {q : BitVec 128}
    (runs : exec x s = ok (whole2 s i f)) (vec : i.c.val < 4) (rd : i.rd.toNat < 16) (rs1 : i.rs1.toNat < 16) (rs2 : i.rs2.toNat < 16)
    (value : f ((beforeOf s i.c).qv i.rs1) ((beforeOf s i.c).qv i.rs2) = q) :
    Retires x s i.c i.e 1 [regQ i.rd.toNat] ((s.core i.c).regs.setQ i.rd q) := by
  subst value
  exact retires_of_vecTo_value runs vec (by simp [okQ, rs1, rs2]) rd rfl

end Sys2Proof.Machine

open Sys2Proof Sys2Proof.Machine

/-- Settles O35: every instruction is one word of slot 1, and a vector is known by its lanes. -/
theorem furrowVectorLanes : Obligations.FurrowVectorLanes := by
  unfold Obligations.FurrowVectorLanes
  rintro s i f w a b vec rd rs1 rfl rfl hw
  refine ⟨fun rs2 small => ?_, fun rs2 small => ?_, fun rs2 small => ?_, fun rs2 small q lanes => ?_, fun rs2 amount => ?_,
    fun rs2 small => ?_, fun rs2 => ?_, fun rs2 => ?_⟩
  · simp only [List.mem_cons, List.not_mem_nil, or_false, forall_eq_or_imp, forall_eq]
    exact ⟨fun q lanes => retires_of_lanes2_value (x := .vadd i f) (s := s) rfl vec small rd rs1 rs2 hw (fun _ => rfl) fun k hk => by
        rw [lanes k hk, ofSigned_mod],
      fun q lanes => retires_of_lanes2_value (x := .vsub i f) (s := s) rfl vec small rd rs1 rs2 hw (fun _ => rfl) fun k hk => by
        rw [lanes k hk, ofSigned_mod]⟩
  · simp only [List.mem_cons, List.not_mem_nil, or_false, forall_eq_or_imp, forall_eq]
    exact ⟨fun q lanes => retires_of_clampLanes (x := .vadds i f) (s := s) rfl vec small rd rs1 rs2 hw (fun _ => rfl) lanes,
      fun q lanes => retires_of_clampLanes (x := .vsubs i f) (s := s) rfl vec small rd rs1 rs2 hw (fun _ => rfl) lanes⟩
  · simp only [List.mem_cons, List.not_mem_nil, or_false, forall_eq_or_imp, forall_eq]
    exact ⟨fun q lanes => retires_of_lanes2_value (x := .vmin i f) (s := s) rfl vec small rd rs1 rs2 hw
        (fun _ => congrArg (·, false) minLane_eq) fun k hk => by rw [laneU_of_laneS (lanes k hk), ofSigned_mod],
      fun q lanes => retires_of_lanes2_value (x := .vmax i f) (s := s) rfl vec small rd rs1 rs2 hw
        (fun _ => congrArg (·, false) maxLane_eq) fun k hk => by rw [laneU_of_laneS (lanes k hk), ofSigned_mod]⟩
  · subst hw
    refine retires_of_vecTo (x := .vabs i f) (s := s) rfl vec (by simp [small, okQ, rs1, rs2]) rd ?_
    simp only [List.map_map, List.any_map]
    refine Prod.ext (mapLanes_eq fun k hk => ?_) rfl
    rw [laneU_of_laneS (lanes k hk), Function.comp_apply, clampLane, ofSigned_mod]
  · simp only [List.mem_cons, List.not_mem_nil, or_false, forall_eq_or_imp, forall_eq]
    exact ⟨fun q lanes => retires_of_shiftLanes (x := .vsll i f) (s := s) rfl vec rd rs1 rs2 hw amount lanes fun _ _ => rfl,
      fun q lanes => retires_of_shiftLanes (x := .vsrl i f) (s := s) rfl vec rd rs1 rs2 hw amount lanes fun _ _ => rfl,
      fun q lanes => retires_of_shiftLanes (x := .vsra i f) (s := s) rfl vec rd rs1 rs2 hw amount lanes fun _ _ => by
        rw [floorDiv_eq, Nat.cast_pow, Nat.cast_ofNat],
      fun q lanes => retires_of_shiftLanes (x := .vsrar i f) (s := s) rfl vec rd rs1 rs2 hw amount lanes fun _ _ => rfl⟩
  · simp only [List.mem_cons, List.not_mem_nil, or_false, forall_eq_or_imp, forall_eq]
    exact ⟨fun q => retires_of_cmpLanes (x := .vcmpEq i f) (s := s) rfl vec rd rs1 rs2 small hw fun _ => rfl,
      fun q => retires_of_cmpLanes (x := .vcmpLt i f) (s := s) rfl vec rd rs1 rs2 small hw fun _ => rfl,
      fun q => retires_of_cmpLanes (x := .vcmpLtu i f) (s := s) rfl vec rd rs1 rs2 small hw fun _ => rfl,
      fun q => retires_of_cmpLanes (x := .vcmpLe i f) (s := s) rfl vec rd rs1 rs2 small hw fun _ => rfl⟩
  · simp only [List.mem_cons, List.not_mem_nil, or_false, forall_eq_or_imp, forall_eq]
    exact ⟨retires_of_whole2 (x := .vand i) (s := s) rfl vec rd rs1 rs2 rfl, retires_of_whole2 (x := .vor i) (s := s) rfl vec rd rs1 rs2 rfl,
      retires_of_whole2 (x := .vxor i) (s := s) rfl vec rd rs1 rs2 rfl, retires_of_whole2 (x := .vandn i) (s := s) rfl vec rd rs1 rs2 rfl⟩
  · exact retires_of_vecTo_value (x := .vbsl i 0) (s := s) rfl vec (by simp [okQ, rs1, rs2]) rd rfl
end

section
/-! PROOFS. Furrow's vector tests, moves, widening and narrowing (O36). -/

namespace Sys2Proof.Machine

theorem any_ne_iff {a : BitVec 128} : (a != 0) = decide (a ≠ 0) := by
  rw [Bool.eq_iff_iff, bne_iff_ne, decide_eq_true_eq]

theorem allLanes_iff {w : Bool} {a : BitVec 128} :
    ((upto (laneCount w)).all fun k => laneU w a k != 0) = decide (∀ k < laneCount w, laneU w a k ≠ 0) := by
  rw [Bool.eq_iff_iff, List.all_eq_true, decide_eq_true_eq]
  exact forall_congr' fun k => by rw [upto, List.mem_range, bne_iff_ne]

/-- Lane `k` of two runs of four, one behind the other. -/
def laneOfTwo {α : Type} (f g : Nat → α) (k : Nat) : α := if k < 4 then f k else g (k - 4)

theorem map_laneOfTwo {α : Type} {f g : Nat → α} : (upto 4).map f ++ (upto 4).map g = (upto 8).map (laneOfTwo f g) := rfl

theorem ofLanes_two {q : BitVec 128} {f g : Nat → Nat} (lanes : ∀ k < 4, laneU false q k = f k % 2 ^ 16 ∧ laneU false q (4 + k) = g k % 2 ^ 16) :
    ofLanes false ((upto 4).map f ++ (upto 4).map g) = q := by
  rw [map_laneOfTwo]
  refine mapLanes_eq (w := false) fun k hk => ?_
  have hk : k < 8 := hk
  unfold laneOfTwo
  split
  · next low => exact (lanes k low).1
  · next high =>
    have second := (lanes (k - 4) (by omega)).2
    rwa [Nat.add_sub_of_le (Nat.le_of_not_lt high)] at second

theorem ofSigned_toSigned_narrow {y : Nat} : ofSigned 16 (toSigned 32 y) = y % 2 ^ 32 % 65536 := by
  simp only [ofSigned, toSigned]
  split <;> omega

theorem ofSigned_laneS_narrow {q : BitVec 128} {k : Nat} : ofSigned 16 (laneS true q k) = laneU true q k % 65536 := by
  have wide : laneU true q k % 2 ^ 32 = laneU true q k := laneU_mod
  rw [laneS, show laneBits true = 32 from rfl, ofSigned_toSigned_narrow, wide]

/-- VNARR with SAT as it stands, from the values of its lanes. -/
theorem retires_of_vnarr {s : State} {i : RForm} {q : BitVec 128} {sat flag : Bool} (vec : i.c.val < 4) (rd : i.rd.toNat < 16)
    (rs1 : i.rs1.toNat < 16) (rs2 : i.rs2.toNat < 16) (mode : bit (beforeOf s i.c).fmNow.toNat 0 = sat)
    (lanes : ∀ k < 4, laneU false q k = ofSigned 16 (if sat then satS 16 (laneS true ((beforeOf s i.c).qv i.rs1) k) else laneS true ((beforeOf s i.c).qv i.rs1) k) ∧
      laneU false q (4 + k) = ofSigned 16 (if sat then satS 16 (laneS true ((beforeOf s i.c).qv i.rs2) k) else laneS true ((beforeOf s i.c).qv i.rs2) k))
    (clamps : (sat && ((upto 4).any (fun k => !fitsS 16 (laneS true ((beforeOf s i.c).qv i.rs1) k)) ||
      (upto 4).any (fun k => !fitsS 16 (laneS true ((beforeOf s i.c).qv i.rs2) k)))) = flag) :
    Retires (.vnarr i 0) s i.c i.e 1 [regQ i.rd.toNat] (((s.core i.c).regs.setQ i.rd q).flags flag false) := by
  refine retires_of_vecTo (x := .vnarr i 0) (s := s) rfl vec (by simp [okQ, rs1, rs2]) rd (Prod.ext ?_ ?_)
  · simp only [mode, List.map_append, List.map_map]
    exact ofLanes_two fun k hk => by simpa only [Function.comp_apply, ofSigned_mod] using lanes k hk
  · simp only [mode, List.any_append, List.any_map]
    exact clamps

end Sys2Proof.Machine

open Sys2Proof Sys2Proof.Machine

/-- Settles O36: every instruction is one word of slot 1, and a vector is known by its lanes. -/
theorem furrowVectorMoves : Obligations.FurrowVectorMoves := by
  unfold Obligations.FurrowVectorMoves
  rintro s i f w a b vec rfl rfl rfl
  refine ⟨fun rd rs1 rs2 => ⟨?_, fun sel => ?_⟩, fun rd rs2 small q lanes => ?_, fun rs1 rs2 small lane => ?_,
    fun rd rs2 small lane q lanes => ?_, fun rd rs1 rs2 small lane q lanes => ?_, fun rd rs1 rs2 half q lanes => ?_,
    fun rd rs1 rs2 sat q lanes => ?_, fun rd rs1 rs2 sat q lanes => ?_⟩
  · exact retires_of_vecToP (x := .vany i 0) (s := s) rfl vec (decide_eq_true rfl) rd rs1 rs2 any_ne_iff
  · have legal : decide (f.toNat / 2 = 1) = true := by rcases sel with rfl | rfl <;> rfl
    exact retires_of_vecToP (x := .vall i f) (s := s) rfl vec legal rd rs1 rs2 allLanes_iff
  · exact retires_of_mapLanes (x := .vsplat i f) (s := s) rfl vec (by simp [small, rs2]) rd rfl lanes
  · refine retires_of_issue (x := .vget i f) (s := s) rfl ?_ one_ne_three rfl rfl rfl fun _ => loopAt_setS
    simp only [onF, vec, small, okQ, rs1, rs2, decide_true, Bool.true_and, Bool.or_eq_true, Bool.not_eq_true', decide_eq_true_eq]
    exact lane
  · refine retires_of_mapLanes (x := .vput i f) (s := s) rfl vec ?_ rd rfl fun k hk => ?_
    · simp only [small, rs2, decide_true, Bool.true_and, Bool.or_eq_true, Bool.not_eq_true', decide_eq_true_eq]
      exact lane
    · rw [lanes k hk]
      split
      · rfl
      · rw [laneU_mod]
  · refine retires_of_mapLanes (x := .vslide i f) (s := s) rfl vec ?_ rd rfl fun k hk => ?_
    · simp only [small, okQ, rs1, rs2, decide_true, Bool.true_and, Bool.or_eq_true, Bool.not_eq_true', decide_eq_true_eq]
      exact lane
    · rw [lanes k hk]
      split <;> rw [laneU_mod]
  · have legal : ((decide (f = 0) || decide (f = 2)) && okQ i.rs1 && decide (i.rs2 = 0)) = true := by
      rcases half with rfl | rfl <;> simp [okQ, rs1, rs2]
    refine retires_of_mapLanes (w := true) (x := .vwide i f) (s := s) rfl vec legal rd rfl fun k hk => ?_
    rw [laneU_of_laneS (lanes k hk)]
    exact (ofSigned_mod).symm
  · exact retires_of_vnarr vec rd rs1 rs2 sat (fun k hk => ⟨laneU_of_laneS (lanes k hk).1, laneU_of_laneS (lanes k hk).2⟩) rfl
  · have h := retires_of_vnarr (q := q) (flag := false) vec rd rs1 rs2 sat (fun k hk => ?_) rfl
    · rwa [flags_none] at h
    · simpa only [Bool.false_eq_true, if_false, ofSigned_laneS_narrow] using lanes k hk
end

section
/-! PROOFS. Furrow's vector products and accumulator moves (O37). -/

namespace Sys2Proof.Machine

/-- A narrowed value fits its lane. -/
@[simp] theorem narrowF_mod {m : BitVec 8} {n : Nat} {v : Int} : (narrowF m n v).1 % 2 ^ n = (narrowF m n v).1 := by
  simp only [narrowF]
  split <;> exact ofSigned_mod

/-- A vector of narrowed lanes, and whether one of them was clamped. -/
theorem retires_of_narrowed {x : Instr} {s : State} {i : RForm} {legal w : Bool} {uses : List Nat} {q : BitVec 128}
    {f : CoreRegs → BitVec 128 × Bool} {v : Nat → Nat × Bool} (runs : exec x s = ok (vecTo s i legal uses f)) (vec : i.c.val < 4)
    (ok : legal = true) (rd : i.rd.toNat < 16)
    (value : f (beforeOf s i.c) = (ofLanes w (((upto (laneCount w)).map v).map (·.1)), ((upto (laneCount w)).map v).any (·.2)))
    (lanes : ∀ k < laneCount w, laneU w q k = (v k).1) (fits : ∀ k < laneCount w, (v k).1 % 2 ^ laneBits w = (v k).1) :
    Retires x s i.c i.e 1 [regQ i.rd.toNat] (((s.core i.c).regs.setQ i.rd q).flags ((upto (laneCount w)).any fun k => (v k).2) false) := by
  refine retires_of_vecTo runs vec ok rd (value.trans (Prod.ext ?_ ?_))
  · simp only [List.map_map]
    exact mapLanes_eq fun k hk => (lanes k hk).trans (fits k hk).symm
  · simp only [List.any_map]
    rfl

/-- VEXT narrows four lanes of one accumulator, or those of two. -/
theorem extLanes_eq {w : Bool} {f g h v : Nat → Nat × Bool} (hv : ∀ k, v k = if w then f k else if k < 4 then g k else h (k - 4)) :
    (upto (laneCount w)).map v = if w then (upto 4).map f else (upto 4).map g ++ (upto 4).map h := by
  obtain rfl : v = fun k => if w then f k else if k < 4 then g k else h (k - 4) := funext hv
  cases w <;> rfl

theorem extLane_mod {w : Bool} {m : BitVec 8} {x y z : Nat → Int} {v : Nat → Nat × Bool} {k : Nat}
    (hv : ∀ k, v k = if w then narrowF m 32 (x k) else if k < 4 then narrowF m 16 (y k) else narrowF m 16 (z (k - 4))) :
    (v k).1 % 2 ^ laneBits w = (v k).1 := by
  rw [hv]
  cases w
  · rw [if_neg Bool.false_ne_true]
    split <;> exact narrowF_mod
  · exact narrowF_mod

theorem toSigned_mod {n x : Nat} : toSigned n (x % 2 ^ n) = toSigned n x := by
  rw [toSigned, toSigned, Nat.mod_mod]

/-- The four lanes of VACSUM. -/
def sumLane (v : Int × Bool) (k : Nat) : Int × Bool := if k = 0 then v else (0, false)

theorem sumLane_zero {v : Int × Bool} : sumLane v 0 = v := rfl

theorem sumLane_succ {v : Int × Bool} {k : Nat} [NeZero k] : sumLane v k = (0, false) := if_neg (NeZero.ne k)

end Sys2Proof.Machine

open Sys2Proof Sys2Proof.Machine

/-- Settles O37: every instruction is one word of slot 1; a vector is known by its lanes and an accumulator by its four values. -/
theorem furrowVectorAccumulators : Obligations.FurrowVectorAccumulators := by
  unfold Obligations.FurrowVectorAccumulators
  rintro s i f w a b r vec rfl rfl rfl rfl
  refine ⟨fun rd rs1 rs2 small q p hp lanes => ?_, fun rd rs1 rs2 small => ?_, fun rd rs1 small v hv => ?_, fun rd rs1 rs2 => ?_,
    fun rd rs1 small rs2 q v hv lanes => ?_, fun rd rs1 rs2 => ?_, fun rd rs1 rs2 sel q lanes => ?_, fun rd rs1 rs2 => ?_, fun rd rs1 rs2 v hv => ?_⟩
  · exact retires_of_narrowed (x := .vmul i f) (s := s) rfl vec (by simp [small, okQ, rs1, rs2]) rd
      (by simp only [hp, sext24]) lanes fun _ _ => narrowF_mod
  · simp only [List.mem_cons, List.not_mem_nil, or_false, forall_eq_or_imp, forall_eq]
    refine ⟨fun v hv => retires_of_accTo (x := .vmac i f) (s := s) rfl vec (by simp [small, okQ, rs1, rs2]) rd fun k => ?_,
      fun v hv => retires_of_accTo (x := .vmsu i f) (s := s) rfl vec (by simp [small, okQ, rs1, rs2]) rd fun k => ?_⟩
    · rw [hv, one_mul]
    · rw [hv, neg_one_mul, ← sub_eq_add_neg]
  · exact retires_of_accTo (x := .vmacs i f) (s := s) rfl vec (by simp [small, okQ, rs1]) rd fun k => (hv k).symm
  · exact retires_of_accTo_value (x := .vclr i 0) (s := s) rfl vec (by simp [rs1, rs2]) rd fun _ => rfl
  · have legal : (decide (f.toNat < 2) && okAc i.rs1 && (if bit f.toNat 0 then decide (i.rs2 = 0) else okAc i.rs2)) = true := by
      split at rs2 <;> simp [*, okAc]
    exact retires_of_narrowed (x := .vext i f) (s := s) rfl vec legal rd (by rw [← extLanes_eq hv]) lanes fun k _ => extLane_mod hv
  · exact retires_of_accTo_value (x := .vacset i 0) (s := s) rfl vec (by simp [okQ, rs1, rs2]) rd fun _ => by
      rw [Nat.cast_pow, Nat.cast_ofNat]
  · refine retires_of_mapLanes (w := true) (x := .vacget i f) (s := s) rfl vec ?_ rd rfl fun k hk => ?_
    · rcases sel with rfl | rfl <;> simp [okAc, rs1, rs2]
    · rw [lanes k hk]
      rcases sel with rfl | rfl
      · simp only [if_true, bits, pow_zero, Nat.div_one]
        exact (Nat.mod_mod _ _).symm
      · simp only [if_neg (show ¬ (2 : BitVec 8) = 0 by decide), bits, toSigned_mod]
        exact (ofSigned_mod).symm
  · exact retires_of_accTo_value (x := .vacput i 0) (s := s) rfl vec (by simp [okQ, rs1, rs2]) rd fun _ => by
      rw [bits, pow_zero, Nat.div_one]
  · have h := retires_of_accTo (v := sumLane v) (x := .vacsum i 0) (s := s) rfl vec (by simp [okAc, rs1, rs2]) rd fun k => by
      rw [hv, sumLane]
    simpa only [sumLane_zero, sumLane_succ, Bool.or_false] using h
end

section
/-! PROOFS. Furrow's slot L: what a load or store that can be taken does to its core and beside it (for O38 to O42). -/

namespace Sys2Proof.Machine

/-! ## What the check or the drain of a memory leaves -/

/-- Core `c`'s accesses to memory leave the cores, the programs, every other unit and every register but the core's ECC word. -/
structure Beside (c : Nat) (s t : State) : Prop where
  core : t.frw.core = s.frw.core
  prog : t.frw.prog = s.frw.prog
  regs : RegsKept s t [A.FRW_COREc_ECC c]
  rest : t = { s with regs := t.regs, frw := t.frw }

namespace Beside

variable {c : Nat} {s t u : State}

theorem refl : Beside c s s := ⟨rfl, rfl, RegsKept.refl s _, rfl⟩

theorem trans (h : Beside c s t) (k : Beside c t u) : Beside c s u := by
  obtain ⟨core, prog, regs, rest⟩ := h
  obtain ⟨core', prog', regs', rest'⟩ := k
  refine ⟨core'.trans core, prog'.trans prog, fun a ha => (regs' a ha).trans (regs a ha), ?_⟩
  rw [rest', rest]

theorem put {f : Fld} {v : Nat} (h : f.addr = A.FRW_COREc_ECC c) : Beside c s (s.put f v) :=
  ⟨rfl, rfl, h ▸ put_kept s f v, rfl⟩

theorem memories {m : FrwSt} (core : m.core = s.frw.core) (prog : m.prog = s.frw.prog) : Beside c s { s with frw := m } :=
  ⟨core, prog, fun _ _ => rfl, rfl⟩

theorem forEach {α : Type} {l : List α} {f : State → α → State} (h : ∀ s a, Beside c s (f s a)) : Beside c s (forEach l f s) := by
  induction l generalizing s with
  | nil => exact refl
  | cons a l ih => exact (h s a).trans ih

end Beside

section

variable {s : State} {c d : Nat} {k : CoreSt}

theorem incSat_setCore {f : Fld} : (s.setCore c k).incSat f = (s.incSat f).setCore c k := by
  unfold State.incSat
  rw [State.setCore_get]
  split <;> rfl

theorem softDrop_setCore {m a n : Nat} : softDrop (s.setCore c k) d m a n = (softDrop s d m a n).setCore c k := rfl

theorem softMeet_setCore {m a n : Nat} : softMeet (s.setCore c k) d m a n = (softMeet s d m a n).setCore c k := by
  have counts : ∀ (l : List (Nat × Nat × Nat)) (s : State),
      forEach l (fun s _ => s.incSat (F.FRW_COREc_ECC_SBE d)) (s.setCore c k) =
        (forEach l (fun s _ => s.incSat (F.FRW_COREc_ECC_SBE d)) s).setCore c k := fun l => by
    induction l with
    | nil => exact fun _ => rfl
    | cons e l ih => exact fun s => by simp only [forEach, List.foldl_cons] at ih ⊢; rw [incSat_setCore, ih]
  have soft : (s.setCore c k).frw.soft = s.frw.soft := rfl
  unfold softMeet
  dsimp only
  rw [soft, softDrop_setCore, counts]
  split
  · rfl
  · split <;> rfl

theorem softDrop_beside {m a n : Nat} : Beside c s (softDrop s d m a n) := Beside.memories rfl rfl

theorem softMeet_beside {m a n : Nat} : Beside c s (softMeet s c m a n) := by
  have count : ∀ s : State, Beside c s (s.incSat (F.FRW_COREc_ECC_SBE c)) := fun s => by
    unfold State.incSat
    split
    · exact Beside.put rfl
    · exact Beside.refl
  unfold softMeet
  dsimp only
  split
  · exact Beside.refl
  · split
    · exact (softDrop_beside).trans (Beside.forEach fun s _ => count s)
    · exact softDrop_beside

end

/-! ## The end of a bundle whose last word is one of slot L -/

section

variable {s t : State} {c : Nat}

/-- What the end of core `c`'s bundle looks at beside its core: the cores and the core's RUN and INIT. -/
structure Quiet (c : Nat) (s t : State) : Prop where
  core : t.frw.core = s.frw.core
  run : t.flag (F.FRW_COREc_CTL_RUN c) = s.flag (F.FRW_COREc_CTL_RUN c)
  init : t.flag (F.FRW_COREc_ST_INIT c) = s.flag (F.FRW_COREc_ST_INIT c)

theorem Quiet.refl : Quiet c s s := ⟨rfl, rfl, rfl⟩

theorem Beside.quiet (h : Beside c s t) : Quiet c s t :=
  ⟨h.core, flag_of_rd (h.regs _ (by simp)), flag_of_rd (h.regs _ (by simp))⟩

theorem calm_quiet {k : CoreSt} (h : c < s.frw.core.length) (keeps : Quiet c s t) (calm : Calm s c) (jobs : k.jobs = (s.core c).jobs)
    (run : k.run = (s.core c).run) (drop : k.drop = (s.core c).drop) (stepping : k.stepping = (s.core c).stepping) :
    Calm (t.setCore c k) c := by
  obtain ⟨core, run', init'⟩ := keeps
  unfold Calm at calm ⊢
  simpa only [core_setCore_same (core ▸ h : c < t.frw.core.length), setCore_flag, jobs, run, drop, stepping, run', init'] using calm

/-- The core's bundle with a word of slot L in it and what the word leaves: the registers, the loads on their way, the stores that wait. -/
def CoreSt.loaded (k : CoreSt) (ws : List Nat) (r : CoreRegs) (ret : List (Nat × BitVec 128)) (buf : List (Nat × List Nat)) : CoreSt :=
  { k.within 2 ws r with ret := ret, buf := buf }

/-- The core's bundle with a word of slot L in it. -/
def CoreSt.joined (k : CoreSt) (ws : List Nat) : Bundle :=
  { bundleOf k with words := (bundleOf k).words + 1, last := 2, wrote := (bundleOf k).wrote ++ ws }

theorem joined_eq {k : CoreSt} {ws : List Nat} : k.joined ws =
    { bundleOf k with words := (bundleOf k).words + 1, last := 2, wrote := (bundleOf k).wrote ++ ws } := rfl

theorem within_eq_loaded {k : CoreSt} {ws : List Nat} : k.within 2 ws k.regs = k.loaded ws k.regs k.ret k.buf := rfl

theorem bundleDone_loaded {ws : List Nat} {r : CoreRegs} {ret : List (Nat × BitVec 128)} {buf : List (Nat × List Nat)}
    (h : c < s.frw.core.length) (keeps : Quiet c s t) (plain : PlainEnd s c)
    (loops : ∀ m, loopAt r (s.core c).pc m = loopAt (s.core c).regs (s.core c).pc m) :
    bundleDone (t.setCore c ((s.core c).loaded ws r ret buf)) c false =
      t.setCore c { (s.core c).past r with ret := ret, buf := buf } := by
  obtain ⟨noSlot, noBr, outer, inner, calm⟩ := plain
  exact bundleDone_plain (k := { s.core c with ret := ret, buf := buf }) (keeps.core ▸ h) noSlot noBr ((loops 0).trans outer)
    ((loops 1).trans inner)
    (calm_quiet h keeps calm rfl rfl rfl rfl)

theorem two_ne_three : (2 : Nat) ≠ 3 := by decide

/-- The word's bundle can end: no rule is broken by its transfer, its delay slot or its loops. -/
def EndsWell (s : State) (c : Nat) : Prop :=
  ((s.core c).slot = none ∨ (bundleOf (s.core c)).ctl = false) ∧
    ((bundleOf (s.core c)).br = none ∨ loopAt (beforeOf s c) (s.core c).pc 0 = false ∧ loopAt (beforeOf s c) (s.core c).pc 1 = false)

theorem PlainEnd.endsWell (h : PlainEnd s c) : EndsWell s c := by
  obtain ⟨slot, br, -, -, -⟩ := h
  exact ⟨.inl slot, .inl br⟩

/-- The state in which a word of slot L makes its access. -/
def opened (s : State) (c : Nat) (ws : List Nat) : State := s.setCore c ((s.core c).loaded ws (s.core c).regs [] (s.core c).buf)

section

variable {ok : Bool} {uses ws : List Nat} {f : State → CoreRegs → Nat × Access} {g : State → CoreRegs → List Nat → Bool → State}

/-- A legal word of slot L that ends its bundle makes its access with the registers before the bundle. -/
theorem issueL_eq (h : TakesWord s c 2 ws) (legal : ok = true) (ends : EndsWell s c) :
    issueL s c true ok uses ws f g =
      match f (opened s c ws) (beforeOf s c) with
      | (a, .fault u code info) => exception u c ⟨code, info, a, false, 2, none⟩
      | (_, .wait) => bundleWait s c
      | (_, .done u bs long) => bundleDone (g u (beforeOf s c) bs long) c false := by
  obtain ⟨straight, loops⟩ := ends
  have takes := h
  obtain ⟨len, -, ret, -, -, -, good, well, -⟩ := takes
  have added := bundleAdd_takes (i := ⟨2, ok, uses, ws, none, false, fun _ r => r⟩) h legal two_ne_three (.inl rfl)
  simp only [Option.isSome_none, Bool.false_eq_true, if_false, Bool.or_false] at added
  have joins : s.setCore c { s.core c with bun := some ((s.core c).joined ws) } = opened s c ws := by
    rw [opened, ← ret]; rfl
  unfold issueL
  rw [wordIn_takes (i := ⟨2, ok, uses, ws, none, false, fun _ r => r⟩) h, added.trans (joined_eq (ws := ws)).symm]
  simp only [endsBundle, Bool.true_or, if_true, joins]
  rw [bundleCause_none (b := (s.core c).joined ws)]
  · rfl
  · exact good
  · rwa [opened, core_setCore_same len]
  · rwa [opened, core_setCore_same len]
  · exact well

end

/-- An instruction of slot L that ends its bundle: the registers `ws` that it names, its address and its access, and what it does with
what the access brought. -/
def MemWord (x : Instr) (s : State) (c : Nat) (ws : List Nat) (a : Nat) (acc : State → Access)
    (g : State → CoreRegs → List Nat → Bool → State) : Prop :=
  ∃ ok uses f, exec x s = Machine.ok (issueL s c true ok uses ws f g) ∧ ok = true ∧ ∀ t, f t (beforeOf s c) = (a, acc t)

section

variable {x : Instr} {ws : List Nat} {a : Nat} {acc : State → Access} {g : State → CoreRegs → List Nat → Bool → State}

theorem MemWord.done {u : State} {bs : List Nat} {long : Bool} (w : MemWord x s c ws a acc g) (takes : TakesWord s c 2 ws)
    (ends : EndsWell s c) (access : acc (opened s c ws) = .done u bs long) :
    exec x s = ok (bundleDone (g u (beforeOf s c) bs long) c false) := by
  obtain ⟨legal, uses, f, runs, ok, reads⟩ := w
  rw [runs, issueL_eq takes ok ends, reads, access]

theorem MemWord.waits (w : MemWord x s c ws a acc g) (takes : TakesWord s c 2 ws) (ends : EndsWell s c)
    (access : acc (opened s c ws) = .wait) : exec x s = ok (bundleWait s c) := by
  obtain ⟨legal, uses, f, runs, ok, reads⟩ := w
  rw [runs, issueL_eq takes ok ends, reads, access]

theorem MemWord.faults {u : State} {code info : Nat} (w : MemWord x s c ws a acc g) (takes : TakesWord s c 2 ws) (ends : EndsWell s c)
    (access : acc (opened s c ws) = .fault u code info) : exec x s = ok (exception u c ⟨code, info, a, false, 2, none⟩) := by
  obtain ⟨legal, uses, f, runs, ok, reads⟩ := w
  rw [runs, issueL_eq takes ok ends, reads, access]

end

end

end Sys2Proof.Machine
end

section
/-! PROOFS. Furrow's loads (O38). -/

namespace Sys2Proof.Machine

/-! ## Addresses -/

section

variable {base off : Word} {n : Nat}

theorem atOffset_toNat : (atOffset base off n).toNat = (base.toNat + off.toNat * n) % 2 ^ 32 := by
  rw [atOffset, BitVec.toNat_add, BitVec.toNat_mul, BitVec.toNat_ofNat, Nat.add_mod_mod, Nat.add_mod, Nat.mul_mod, Nat.mod_mod,
    ← Nat.mul_mod, ← Nat.add_mod]

theorem atOffset_eq : atOffset base off n = BitVec.ofNat 32 (base.toNat + off.toNat * n) :=
  BitVec.eq_of_toNat_eq (by rw [atOffset_toNat, BitVec.toNat_ofNat])

end

section

variable {t : State} {c a n : Nat}

theorem progLimit_le : progLimit t c ≤ 65536 := by
  unfold progLimit
  split
  · decide
  · split <;> decide

theorem dataBytes_le : dataBytes c ≤ 131072 := by
  unfold dataBytes
  split <;> decide

theorem regionAt_data (low : DATA_BASE ≤ a) (high : a < DATA_BASE + dataBytes c) : regionAt t c a = .data (a - DATA_BASE) := by
  have := progLimit_le (t := t) (c := c)
  unfold regionAt
  unfold DATA_BASE at *
  rw [if_neg (by omega), if_pos ⟨low, high⟩]

theorem regionAt_common (furrow : c < 4) (low : COMMON_BASE ≤ a) (high : a < COMMON_BASE + commonBytes) :
    regionAt t c a = .common (a - COMMON_BASE) := by
  have := progLimit_le (t := t) (c := c)
  have := dataBytes_le (c := c)
  unfold regionAt
  unfold DATA_BASE COMMON_BASE commonBytes at *
  rw [if_neg (by omega), if_neg (by omega), if_neg (by omega), if_neg (by omega), if_pos ⟨low, high⟩]

end

/-! ## What an access answers -/

section

variable {t : State} {c a n : Nat} {common : Bool}

theorem memLoad_data (aligned : a % n = 0) (low : DATA_BASE ≤ a) (high : a < DATA_BASE + dataBytes c) :
    memLoad t c a n = bufferedLoad t c a n false := by
  unfold memLoad
  rw [if_neg (not_not_intro aligned), regionAt_data low high]

theorem memLoad_common (furrow : c < 4) (aligned : a % n = 0) (low : COMMON_BASE ≤ a) (high : a < COMMON_BASE + commonBytes) :
    memLoad t c a n = bufferedLoad t c a n true := by
  unfold memLoad
  rw [if_neg (not_not_intro aligned), regionAt_common furrow low high]

theorem bufferedLoad_clear (apart : ∀ e ∈ (t.core c).buf, a + n ≤ e.1 ∨ e.1 + e.2.length ≤ a) :
    bufferedLoad t c a n common = readBuffered t c (if common then a - COMMON_BASE else a - DATA_BASE) n common := by
  have none : (t.core c).buf.filter (fun e => meets a n e.1 e.2.length) = [] := by
    rw [List.filter_eq_nil_iff]
    intro e he
    simp only [meets, Bool.and_eq_true, decide_eq_true_eq, not_and_or, Nat.not_lt]
    exact (apart e he).symm
  unfold bufferedLoad
  simp only [none, List.getLast?_nil]

theorem bufferedLoad_forward {l : List (Nat × List Nat)} {e : Nat × List Nat} (pos : 0 < n) (buf : (t.core c).buf = l ++ [e])
    (low : e.1 ≤ a) (high : a + n ≤ e.1 + e.2.length) :
    bufferedLoad t c a n common = .done t ((e.2.drop (a - e.1)).take n) common := by
  have hit : meets a n e.1 e.2.length = true := by
    rw [meets, Bool.and_eq_true, decide_eq_true_eq, decide_eq_true_eq]
    omega
  unfold bufferedLoad
  simp only [buf, List.filter_append, List.filter_cons, hit, if_true, List.filter_nil, List.getLast?_append, List.getLast?_singleton,
    Option.some_or]
  rw [if_pos ⟨low, high⟩]

theorem readBuffered_data {o : Nat} (good : badIn (nth t.frw.badData c []) o n = false) :
    readBuffered t c o n false = .done (softMeet t c 1 o n) (memRead (t.data c) o n) false := by
  simp only [readBuffered, Bool.false_eq_true, if_false, good]

theorem readBuffered_common {o : Nat} (good : badIn t.frw.badCommon o n = false) :
    readBuffered t c o n true = .done (softMeet t c 2 o n) (memRead t.frw.common o n) true := by
  simp only [readBuffered, if_true, good, Bool.false_eq_true, if_false]

theorem memLoad_data_clear (aligned : a % n = 0) (low : DATA_BASE ≤ a) (high : a < DATA_BASE + dataBytes c)
    (apart : ∀ e ∈ (t.core c).buf, a + n ≤ e.1 ∨ e.1 + e.2.length ≤ a)
    (good : badIn (nth t.frw.badData c []) (a - DATA_BASE) n = false) :
    memLoad t c a n = .done (softMeet t c 1 (a - DATA_BASE) n) (memRead (t.data c) (a - DATA_BASE) n) false := by
  rw [memLoad_data aligned low high, bufferedLoad_clear apart, if_neg Bool.false_ne_true, readBuffered_data good]

theorem memLoad_common_clear (furrow : c < 4) (aligned : a % n = 0) (low : COMMON_BASE ≤ a) (high : a < COMMON_BASE + commonBytes)
    (apart : ∀ e ∈ (t.core c).buf, a + n ≤ e.1 ∨ e.1 + e.2.length ≤ a) (good : badIn t.frw.badCommon (a - COMMON_BASE) n = false) :
    memLoad t c a n = .done (softMeet t c 2 (a - COMMON_BASE) n) (memRead t.frw.common (a - COMMON_BASE) n) true := by
  rw [memLoad_common furrow aligned low high, bufferedLoad_clear apart, if_pos rfl, readBuffered_common good]

end

/-! ## A load's result -/

section

variable {u : State} {c : Nat} {k : CoreSt} {vec : Bool} {rd : BitVec 5} {v : BitVec 128}

/-- A register named by its number takes a value. -/
def CoreRegs.take (r : CoreRegs) (vec : Bool) (rd : BitVec 5) (v : BitVec 128) : CoreRegs :=
  if vec then r.setQ rd v else r.setS rd (v.setWidth 32)

theorem give_dataReg {r : CoreRegs} : r.give (dataReg vec rd, v) = r.take vec rd v := by
  have small := rd.isLt
  cases vec
  · simp [CoreRegs.give, dataReg, CoreRegs.take, show rd.toNat < 32 from small]
  · simp [CoreRegs.give, dataReg, CoreRegs.take, CoreRegs.setQ]

theorem loadGive_now (h : c < u.frw.core.length) :
    loadGive (u.setCore c k) c (dataReg vec rd) v false = u.setCore c { k with regs := k.regs.take vec rd v } := by
  unfold loadGive regsPut
  simp only [Bool.false_eq_true, if_false, core_setCore_same h, setCore_setCore, give_dataReg]

theorem loadGive_later {name : Nat} (h : c < u.frw.core.length) (ret : k.ret = []) :
    loadGive (u.setCore c k) c name v true = u.setCore c { k with ret := [(name, v)] } := by
  unfold loadGive
  simp only [if_true, core_setCore_same h, ret, List.length_nil, if_neg (show ¬ 4 ≤ 0 by decide), setCore_setCore, List.nil_append]

theorem regsPut_setCore {f : CoreRegs → CoreRegs} (h : c < u.frw.core.length) :
    regsPut (u.setCore c k) c f = u.setCore c { k with regs := f k.regs } := by
  unfold regsPut
  simp only [core_setCore_same h, setCore_setCore]

@[simp] theorem loopAt_take {r : CoreRegs} {pc n : Nat} : loopAt (r.take vec rd v) pc n = loopAt r pc n := by
  unfold CoreRegs.take
  split
  · exact loopAt_setQ
  · exact loopAt_setS

end

/-! ## The sizes of a load -/

/-- The sizes that LD names: the code, the bytes, the register file, the value of the bytes. -/
def loadSizes : List (Nat × Nat × Bool × (Nat → BitVec 128)) :=
  [(0, 1, false, fun u => ((BitVec.ofNat 8 u).signExtend 32).setWidth 128), (1, 1, false, fun u => BitVec.ofNat 128 u),
    (2, 2, false, fun u => ((BitVec.ofNat 16 u).signExtend 32).setWidth 128), (3, 2, false, fun u => BitVec.ofNat 128 u),
    (4, 4, false, fun u => BitVec.ofNat 128 u), (5, 8, true, fun u => BitVec.ofNat 128 u), (6, 16, true, fun u => BitVec.ofNat 128 u)]

theorem toSigned_eq_toInt {n u : Nat} (h : 0 < n) : toSigned n u = (BitVec.ofNat n u).toInt := by
  have half : 2 ^ n = 2 * 2 ^ (n - 1) := by rw [← Nat.pow_succ', Nat.succ_eq_add_one, Nat.sub_add_cancel h]
  rw [BitVec.toInt_eq_toNat_cond, BitVec.toNat_ofNat]
  unfold toSigned
  dsimp only
  split <;> rename_i low
  · rw [if_pos (by omega)]
  · rw [if_neg (by omega)]

theorem signExtend_eq {n u : Nat} (h : 0 < n) :
    BitVec.ofNat 128 (ofSigned 32 (toSigned n u)) = ((BitVec.ofNat n u).signExtend 32).setWidth 128 := by
  apply BitVec.eq_of_toNat_eq
  rw [BitVec.toNat_ofNat, BitVec.toNat_setWidth, BitVec.signExtend, BitVec.toNat_ofInt, toSigned_eq_toInt h, ofSigned]

theorem loadSizes_spec {z n : Nat} {vec : Bool} {v : Nat → BitVec 128} (h : (z, n, vec, v) ∈ loadSizes) :
    z ≤ 6 ∧ 0 < n ∧ loadBytes z = n ∧ decide (5 ≤ z) = vec ∧ ∀ bs, loadValue z bs = v (leOfBytes bs) := by
  simp only [loadSizes, List.mem_cons, Prod.mk.injEq, List.not_mem_nil, or_false] at h
  rcases h with ⟨rfl, rfl, rfl, rfl⟩ | ⟨rfl, rfl, rfl, rfl⟩ | ⟨rfl, rfl, rfl, rfl⟩ | ⟨rfl, rfl, rfl, rfl⟩ | ⟨rfl, rfl, rfl, rfl⟩ |
    ⟨rfl, rfl, rfl, rfl⟩ | ⟨rfl, rfl, rfl, rfl⟩
  · exact ⟨by decide, by decide, rfl, rfl, fun _ => signExtend_eq (by decide)⟩
  · exact ⟨by decide, by decide, rfl, rfl, fun _ => rfl⟩
  · exact ⟨by decide, by decide, rfl, rfl, fun _ => signExtend_eq (by decide)⟩
  all_goals exact ⟨by decide, by decide, rfl, rfl, fun _ => rfl⟩

/-! ## The forms of a load -/

/-- An instruction that brings a value to a register: what its access brings and what it does to its base. -/
def LoadWord (x : Instr) (s : State) (c : Nat) (vec : Bool) (rd : BitVec 5) (ws : List Nat) (a : Nat) (acc : State → Access)
    (v : Nat → BitVec 128) (up : CoreRegs → CoreRegs) : Prop :=
  ∃ g, MemWord x s c ws a acc g ∧
    ∀ (u : State) (k : CoreSt) (bs : List Nat) (long : Bool), c < u.frw.core.length → g (u.setCore c k) (beforeOf s c) bs long =
      regsPut (loadGive (u.setCore c k) c (dataReg vec rd) (v (leOfBytes bs)) long) c up

section

variable {x : Instr} {s u : State} {c : Nat} {vec : Bool} {rd : BitVec 5} {ws : List Nat} {a n : Nat} {acc : State → Access}
  {v : Nat → BitVec 128} {up : CoreRegs → CoreRegs} {bs : List Nat}

theorem LoadWord.gives_now (l : LoadWord x s c vec rd ws a acc v up) (takes : TakesWord s c 2 ws) (plain : PlainEnd s c)
    (loops : ∀ r m, loopAt (up r) (s.core c).pc m = loopAt r (s.core c).pc m) (quiet : Quiet c s u)
    (access : acc (opened s c ws) = .done (u.setCore c ((s.core c).loaded ws (s.core c).regs [] (s.core c).buf)) bs false) :
    Gives x s (fun t => t = u.setCore c ((s.core c).past (up ((s.core c).regs.take vec rd (v (leOfBytes bs)))))) := by
  obtain ⟨g, word, gives⟩ := l
  have len : c < u.frw.core.length := quiet.core ▸ takes.1
  have ret : (s.core c).ret = [] := takes.2.2.1
  refine Gives.of_next (word.done takes plain.endsWell access) ?_
  rw [gives _ _ _ _ len, loadGive_now len, regsPut_setCore len]
  exact (bundleDone_loaded takes.1 quiet plain fun m => (loops _ m).trans loopAt_take).trans (by rw [← ret]; rfl)

theorem LoadWord.gives_later (l : LoadWord x s c vec rd ws a acc v up) (takes : TakesWord s c 2 ws) (plain : PlainEnd s c)
    (loops : ∀ r m, loopAt (up r) (s.core c).pc m = loopAt r (s.core c).pc m) (quiet : Quiet c s u)
    (access : acc (opened s c ws) = .done (u.setCore c ((s.core c).loaded ws (s.core c).regs [] (s.core c).buf)) bs true) :
    Gives x s (fun t => t = u.setCore c { (s.core c).past (up (s.core c).regs) with ret := [(dataReg vec rd, v (leOfBytes bs))] }) := by
  obtain ⟨g, word, gives⟩ := l
  have len : c < u.frw.core.length := quiet.core ▸ takes.1
  refine Gives.of_next (word.done takes plain.endsWell access) ?_
  rw [gives _ _ _ _ len, loadGive_later len rfl, regsPut_setCore len]
  exact bundleDone_loaded takes.1 quiet plain fun m => loops _ m

theorem opened_buf (h : c < s.frw.core.length) : ((opened s c ws).core c).buf = (s.core c).buf := by
  rw [opened, core_setCore_same h]
  rfl

/-- Where no waiting store meets it, a load from the data memory reads the bytes there. -/
theorem LoadWord.reads_data (l : LoadWord x s c vec rd ws a (memLoad · c a n) v up) (takes : TakesWord s c 2 ws) (plain : PlainEnd s c)
    (loops : ∀ r m, loopAt (up r) (s.core c).pc m = loopAt r (s.core c).pc m) (aligned : a % n = 0) (low : DATA_BASE ≤ a)
    (high : a < DATA_BASE + dataBytes c) (apart : ∀ e ∈ (s.core c).buf, a + n ≤ e.1 ∨ e.1 + e.2.length ≤ a)
    (good : badIn (nth s.frw.badData c []) (a - DATA_BASE) n = false) :
    Gives x s (fun t => t = (softMeet s c 1 (a - DATA_BASE) n).setCore c
      ((s.core c).past (up ((s.core c).regs.take vec rd (v (leOfBytes (memRead (s.data c) (a - DATA_BASE) n))))))) := by
  refine l.gives_now takes plain loops (softMeet_beside).quiet ?_
  rw [← softMeet_setCore]
  exact memLoad_data_clear aligned low high (by rw [opened_buf takes.1]; exact apart) good

/-- Where the youngest waiting store covers it, a load from the data memory reads its bytes. -/
theorem LoadWord.reads_store {l : List (Nat × List Nat)} {e : Nat × List Nat} (w : LoadWord x s c vec rd ws a (memLoad · c a n) v up)
    (takes : TakesWord s c 2 ws) (plain : PlainEnd s c) (loops : ∀ r m, loopAt (up r) (s.core c).pc m = loopAt r (s.core c).pc m)
    (aligned : a % n = 0) (pos : 0 < n) (low : DATA_BASE ≤ a) (high : a < DATA_BASE + dataBytes c)
    (buf : (s.core c).buf = l ++ [e]) (first : e.1 ≤ a) (last : a + n ≤ e.1 + e.2.length) :
    Gives x s (fun t => t = s.setCore c ((s.core c).past (up ((s.core c).regs.take vec rd (v (leOfBytes ((e.2.drop (a - e.1)).take n))))))) := by
  refine w.gives_now takes plain loops Quiet.refl ?_
  exact (memLoad_data aligned low high).trans (bufferedLoad_forward pos (by rw [opened_buf takes.1, buf]) first last)

/-- A load from the Common is on its way to its register. -/
theorem LoadWord.reads_common (l : LoadWord x s c vec rd ws a (memLoad · c a n) v up) (takes : TakesWord s c 2 ws) (plain : PlainEnd s c)
    (loops : ∀ r m, loopAt (up r) (s.core c).pc m = loopAt r (s.core c).pc m) (furrow : c < 4) (aligned : a % n = 0) (low : COMMON_BASE ≤ a)
    (high : a < COMMON_BASE + commonBytes) (buf : (s.core c).buf = []) (good : badIn s.frw.badCommon (a - COMMON_BASE) n = false) :
    Gives x s (fun t => t = (softMeet s c 2 (a - COMMON_BASE) n).setCore c { (s.core c).past (up (s.core c).regs) with
      ret := [(dataReg vec rd, v (leOfBytes (memRead s.frw.common (a - COMMON_BASE) n)))] }) := by
  refine l.gives_later takes plain loops (softMeet_beside).quiet ?_
  rw [← softMeet_setCore]
  exact memLoad_common_clear furrow aligned low high (by rw [opened_buf takes.1, buf]; simp) good

end

/-! ## The instructions -/

section

variable {s : State} {vec : Bool} {n : Nat} {v : Nat → BitVec 128}

theorem vecOk_of {c : Fin 6} {rd : BitVec 5} (h : vec = true → c.val < 4 ∧ rd.toNat < 16) : vecOk c vec rd = true := by
  cases vec
  · rfl
  · simp [vecOk, h rfl]

theorem regsPut_id {u : State} {c : Nat} (h : c < u.frw.core.length) : regsPut u c id = u := setCore_core h

theorem loadGive_length {u : State} {c name : Nat} {b : BitVec 128} {long : Bool} : (loadGive u c name b long).frw.core.length = u.frw.core.length := by
  unfold loadGive regsPut
  split <;> exact setCore_length

theorem loadWord_imm {i : IForm} {z a : Nat} {x : Instr} (size : (z, n, vec, v) ∈ loadSizes) (e : i.e = true)
    (vector : vec = true → i.c.val < 4 ∧ i.rd.toNat < 16)
    (address : a = (((beforeOf s i.c).sv i.rs1).toNat + (i.imm.signExtend 32).toNat * n) % 2 ^ 32) (runs : exec x s = ok (loadImm s i z)) :
    LoadWord x s i.c vec i.rd [dataReg vec i.rd] a (memLoad · i.c a n) v id := by
  subst address
  obtain ⟨-, -, rfl, rfl, value⟩ := loadSizes_spec size
  rw [loadImm, e] at runs
  refine ⟨_, ⟨_, _, _, runs, vecOk_of vector, fun t => ?_⟩, fun u k bs long h => ?_⟩
  · simp only [atOffset_toNat]
  · rw [regsPut_id (by rw [loadGive_length, setCore_length]; exact h), value]

theorem loadWord_post {i : IForm} {z : Fin 7} {a : Nat} (size : (z.val, n, vec, v) ∈ loadSizes) (e : i.e = true)
    (vector : vec = true → i.c.val < 4 ∧ i.rd.toNat < 16) (apart : vec = true ∨ i.rd ≠ i.rs1) (address : a = ((beforeOf s i.c).sv i.rs1).toNat) :
    LoadWord (.ldP z i) s i.c vec i.rd [dataReg vec i.rd, regS i.rs1.toNat] a (memLoad · i.c a n) v
      (fun r => r.setS i.rs1 (BitVec.ofNat 32 (((beforeOf s i.c).sv i.rs1).toNat + (i.imm.signExtend 32).toNat * n))) := by
  subst address
  obtain ⟨-, -, rfl, rfl, value⟩ := loadSizes_spec size
  have runs : exec (.ldP z i) s = _ := execLdP.eq_1 z i s
  rw [e] at runs
  refine ⟨_, ⟨_, _, _, runs, ?_, fun t => rfl⟩, fun u k bs long h => ?_⟩
  · rw [vecOk_of vector]
    simpa using apart
  · rw [baseUpdate, atOffset_eq, value]

theorem loadWord_index {i : RForm} {z : Fin 7} {a : Nat} (size : (z.val, n, vec, v) ∈ loadSizes) (e : i.e = true)
    (vector : vec = true → i.c.val < 4 ∧ i.rd.toNat < 16)
    (address : a = (((beforeOf s i.c).sv i.rs1).toNat + ((beforeOf s i.c).sv i.rs2).toNat * n) % 2 ^ 32) :
    LoadWord (.ldX (BitVec.ofNat 8 z.val) i) s i.c vec i.rd [dataReg vec i.rd] a (memLoad · i.c a n) v id := by
  subst address
  obtain ⟨small, -, rfl, rfl, value⟩ := loadSizes_spec size
  have code : (BitVec.ofNat 8 z.val).toNat = z.val := by rw [BitVec.toNat_ofNat]; omega
  have runs : exec (.ldX (BitVec.ofNat 8 z.val) i) s = _ := execLdX.eq_1 (BitVec.ofNat 8 z.val) i s
  rw [e, code] at runs
  refine ⟨_, ⟨_, _, _, runs, ?_, fun t => ?_⟩, fun u k bs long h => ?_⟩
  · rw [vecOk_of vector, decide_eq_true small]
    rfl
  · simp only [atOffset_toNat]
  · rw [regsPut_id (by rw [loadGive_length, setCore_length]; exact h), value]

end

end Sys2Proof.Machine

open Sys2Proof Sys2Proof.Machine

/-- Settles O38: every form makes the access of slot L with its address, size and base. -/
theorem furrowLoads : Obligations.FurrowLoads := by
  unfold Obligations.FurrowLoads
  intro s c rd base off x z ws up a n v vec form size vector takes plain aligned
  have word : LoadWord x s c vec rd ws a (memLoad · c a n) v up ∧ ∀ r m, loopAt (up r) (s.core c).pc m = loopAt r (s.core c).pc m := by
    rcases form with ⟨i, rfl, e, rfl, rfl, rfl, rfl, rfl, code, rfl⟩ | ⟨i, rfl, e, rfl, rfl, rfl, apart, rfl, rfl, rfl, rfl⟩ |
      ⟨i, rfl, e, rfl, rfl, rfl, rfl, rfl, rfl, rfl⟩
    · refine ⟨loadWord_imm size e vector rfl ?_, fun _ _ => rfl⟩
      fin_cases z <;> (cases code; rfl)
    · exact ⟨loadWord_post size e vector apart rfl, fun _ _ => loopAt_setS⟩
    · exact ⟨loadWord_index size e vector rfl, fun _ _ => rfl⟩
  obtain ⟨word, loops⟩ := word
  have pos := (loadSizes_spec size).2.1
  refine ⟨?_, fun furrow low high buf good => word.reads_common takes plain loops furrow aligned low high buf good⟩
  rintro give rfl low high
  exact ⟨fun apart good => word.reads_data takes plain loops aligned low high apart good,
    fun l e buf first last => word.reads_store takes plain loops aligned pos low high buf first last⟩
end

section
/-! PROOFS. Furrow's stores (O39). -/

namespace Sys2Proof.Machine

/-! ## The drain of the oldest store -/

section

variable {s : State} {c d a : Nat} {k : CoreSt} {bs : List Nat} {e : Nat × List Nat}

theorem softWrite_beside {m n : Nat} : Beside c s (softWrite s d m a n) := Beside.memories rfl rfl

theorem dataWrite_beside : Beside c s (dataWrite s c a bs) := Beside.memories rfl rfl

theorem commonWrite_beside : Beside c s (commonWrite s a bs) := Beside.memories rfl rfl

theorem Beside.ite {p : Prop} [Decidable p] {t u : State} (h : Beside c s t) (k : Beside c s u) : Beside c s (if p then t else u) := by
  split
  · exact h
  · exact k

theorem drainEntry_beside : Beside c s (drainEntry s c e) := by
  have met : ∀ {p : Prop} [Decidable p] {m o n : Nat}, Beside c s (if p then softMeet s c m o n else s) :=
    Beside.ite softMeet_beside Beside.refl
  have written : ∀ {p : Prop} [Decidable p] {t : State} {o : Nat}, Beside c t (if p then commonWrite t o e.2 else dataWrite t c o e.2) :=
    Beside.ite commonWrite_beside dataWrite_beside
  exact Beside.ite ((met.trans written).trans (Beside.put rfl)) (met.trans written)

theorem dataWrite_setCore : dataWrite (s.setCore c k) d a bs = (dataWrite s d a bs).setCore c k := rfl

theorem commonWrite_setCore : commonWrite (s.setCore c k) a bs = (commonWrite s a bs).setCore c k := rfl

theorem mark_setCore {f : Fld} {b : Bool} : (s.setCore c k).mark f b = (s.mark f b).setCore c k := rfl

theorem ite_setCore {p : Prop} [Decidable p] {t : State} :
    (if p then s.setCore c k else t.setCore c k) = (if p then s else t).setCore c k := (apply_ite (fun u : State => u.setCore c k) p s t).symm

theorem drainEntry_setCore : drainEntry (s.setCore c k) d e = (drainEntry s d e).setCore c k := by
  have same : (s.setCore c k).frw.badCommon = s.frw.badCommon ∧ (s.setCore c k).frw.badData = s.frw.badData := ⟨rfl, rfl⟩
  unfold drainEntry
  simp only [same.1, same.2, softMeet_setCore, ite_setCore, dataWrite_setCore, commonWrite_setCore, mark_setCore]

/-- A full buffer's oldest store drains before the next one enters. -/
theorem drainN_first {l : List (Nat × List Nat)} (h : c < s.frw.core.length) (buf : k.buf = e :: l) :
    drainN (s.setCore c k) c 1 = (drainEntry s c e).setCore c { k with buf := l } := by
  unfold drainN
  simp only [core_setCore_same h, buf, List.take_succ_cons, List.take_zero, List.drop_succ_cons, List.drop_zero, setCore_setCore]
  exact drainEntry_setCore

/-- A store enters a buffer with room. -/
theorem bufferStore_room (h : c < s.frw.core.length) (room : k.buf.length < 4) :
    bufferStore (s.setCore c k) c a bs = s.setCore c { k with buf := k.buf ++ [(a, bs)] } := by
  unfold bufferStore
  simp only [core_setCore_same h, if_neg (Nat.not_le_of_lt room), setCore_setCore]

/-- A store enters a full buffer. -/
theorem bufferStore_full {l : List (Nat × List Nat)} (h : c < s.frw.core.length) (buf : k.buf = e :: l) (full : l.length = 3) :
    bufferStore (s.setCore c k) c a bs = (drainEntry s c e).setCore c { k with buf := l ++ [(a, bs)] } := by
  have len : c < (drainEntry s c e).frw.core.length := by rw [(drainEntry_beside).core]; exact h
  have four : 4 ≤ k.buf.length := by rw [buf, List.length_cons, full]
  unfold bufferStore
  simp only [core_setCore_same h, if_pos four, drainN_first h buf, core_setCore_same len, setCore_setCore]

theorem memStore_buffered (aligned : a % bs.length = 0)
    (inside : (DATA_BASE ≤ a ∧ a < DATA_BASE + dataBytes c) ∨ (c < 4 ∧ COMMON_BASE ≤ a ∧ a < COMMON_BASE + commonBytes)) :
    memStore s c a bs = .done (bufferStore s c a bs) [] false := by
  unfold memStore
  dsimp only
  rw [if_neg (not_not_intro aligned)]
  rcases inside with ⟨low, high⟩ | ⟨furrow, low, high⟩
  · rw [regionAt_data low high]
  · rw [regionAt_common furrow low high]

end

/-! ## The forms of a store -/

/-- An instruction that sends a register's value away: what its access makes of it and what it does to its base. -/
def StoreWord (x : Instr) (s : State) (c : Nat) (ws : List Nat) (a : Nat) (acc : State → Access) (up : CoreRegs → CoreRegs) : Prop :=
  ∃ g, MemWord x s c ws a acc g ∧ ∀ (u : State) (k : CoreSt) (l : List Nat) (long : Bool), c < u.frw.core.length →
    g (u.setCore c k) (beforeOf s c) l long = regsPut (u.setCore c k) c up

section

variable {x : Instr} {s u : State} {c : Nat} {ws : List Nat} {a : Nat} {acc : State → Access} {up : CoreRegs → CoreRegs}

theorem StoreWord.done {buf : List (Nat × List Nat)} {bs : List Nat} {long : Bool} (w : StoreWord x s c ws a acc up)
    (takes : TakesWord s c 2 ws) (plain : PlainEnd s c) (loops : ∀ r m, loopAt (up r) (s.core c).pc m = loopAt r (s.core c).pc m)
    (quiet : Quiet c s u) (access : acc (opened s c ws) = .done (u.setCore c ((s.core c).loaded ws (s.core c).regs [] buf)) bs long) :
    exec x s = ok (u.setCore c { (s.core c).past (up (s.core c).regs) with buf := buf }) := by
  obtain ⟨g, word, gives⟩ := w
  have len : c < u.frw.core.length := quiet.core ▸ takes.1
  have ret : (s.core c).ret = [] := takes.2.2.1
  rw [word.done takes plain.endsWell access, gives _ _ _ _ len, regsPut_setCore len]
  exact congrArg _ ((bundleDone_loaded takes.1 quiet plain fun m => loops _ m).trans (by rw [← ret]; rfl))

theorem storeWord_imm {i : IForm} {z a : Nat} {bs : List Nat} (e : i.e = true)
    (vector : decide (3 ≤ z) = true → i.c.val < 4 ∧ i.rd.toNat < 16)
    (address : a = (((beforeOf s i.c).sv i.rs1).toNat + (i.imm.signExtend 32).toNat * storeBytes z) % 2 ^ 32)
    (value : bs = storeValue z (beforeOf s i.c) i.rd) (runs : exec x s = ok (storeImm s i z)) :
    StoreWord x s i.c [] a (memStore · i.c a bs) id := by
  subst address value
  rw [storeImm, e] at runs
  refine ⟨_, ⟨_, _, _, runs, vecOk_of vector, fun t => ?_⟩, fun u k l long h => ?_⟩
  · simp only [atOffset_toNat]
  · rw [regsPut_id (by rw [setCore_length]; exact h)]

theorem storeWord_post {i : IForm} {z : Fin 5} {a : Nat} {bs : List Nat} (e : i.e = true)
    (vector : decide (3 ≤ z.val) = true → i.c.val < 4 ∧ i.rd.toNat < 16) (address : a = ((beforeOf s i.c).sv i.rs1).toNat)
    (value : bs = storeValue z (beforeOf s i.c) i.rd) :
    StoreWord (.stP z i) s i.c [regS i.rs1.toNat] a (memStore · i.c a bs)
      (fun r => r.setS i.rs1 (BitVec.ofNat 32 (((beforeOf s i.c).sv i.rs1).toNat + (i.imm.signExtend 32).toNat * storeBytes z))) := by
  subst address value
  have runs : exec (.stP z i) s = _ := execStP.eq_1 z i s
  rw [e] at runs
  refine ⟨_, ⟨_, _, _, runs, vecOk_of vector, fun t => rfl⟩, fun u k l long h => ?_⟩
  rw [baseUpdate, atOffset_eq]

theorem storeWord_index {i : RForm} {z a : Nat} {func : BitVec 8} {bs : List Nat} (e : i.e = true) (code : storeFunc func.toNat = some z)
    (vector : decide (3 ≤ z) = true → i.c.val < 4 ∧ i.rd.toNat < 16)
    (address : a = (((beforeOf s i.c).sv i.rs1).toNat + ((beforeOf s i.c).sv i.rs2).toNat * storeBytes z) % 2 ^ 32)
    (value : bs = storeValue z (beforeOf s i.c) i.rd) : StoreWord (.stX func i) s i.c [] a (memStore · i.c a bs) id := by
  subst address value
  have runs : exec (.stX func i) s = _ := execStX.eq_1 func i s
  simp only [e, code, Option.getD_some, Option.isSome_some, Bool.true_and] at runs
  refine ⟨_, ⟨_, _, _, runs, vecOk_of vector, fun t => ?_⟩, fun u k l long h => ?_⟩
  · simp only [atOffset_toNat]
  · rw [regsPut_id (by rw [setCore_length]; exact h)]

end

/-- The sizes that ST names: the code, the bytes, the register file. -/
def storeSizes : List (Nat × Nat × Bool) := [(0, 1, false), (1, 2, false), (2, 4, false), (3, 8, true), (4, 16, true)]

theorem storeSizes_spec {z n : Nat} {vec : Bool} (h : (z, n, vec) ∈ storeSizes) : storeBytes z = n ∧ decide (3 ≤ z) = vec := by
  simp only [storeSizes, List.mem_cons, Prod.mk.injEq, List.not_mem_nil, or_false] at h
  rcases h with ⟨rfl, rfl, rfl⟩ | ⟨rfl, rfl, rfl⟩ | ⟨rfl, rfl, rfl⟩ | ⟨rfl, rfl, rfl⟩ | ⟨rfl, rfl, rfl⟩ <;> exact ⟨rfl, rfl⟩

theorem storeValue_eq {z : Nat} {r : CoreRegs} {rd : BitVec 5} :
    storeValue z r rd = bytesOfLe (storeBytes z) (if decide (3 ≤ z) then (r.qv rd).toNat else (r.sv rd).toNat) := by
  simp only [storeValue, decide_eq_true_eq]

end Sys2Proof.Machine

open Sys2Proof Sys2Proof.Machine

/-- Settles O39: every form puts its bytes at the end of the store buffer, past the drain of the oldest store of a full one. -/
theorem furrowStores : Obligations.FurrowStores := by
  unfold Obligations.FurrowStores
  intro s c rd base off x z ws up a n vec bs form size vector takes plain aligned hbs inside
  obtain ⟨rfl, rfl⟩ := storeSizes_spec size
  have word : StoreWord x s c ws a (memStore · c a bs) up ∧ ∀ r m, loopAt (up r) (s.core c).pc m = loopAt r (s.core c).pc m := by
    rw [← storeValue_eq] at hbs
    rcases form with ⟨i, rfl, e, rfl, rfl, rfl, rfl, rfl, code, rfl⟩ | ⟨i, rfl, e, rfl, rfl, rfl, rfl, rfl, rfl, rfl⟩ |
      ⟨i, rfl, e, rfl, rfl, rfl, rfl, rfl, rfl, rfl⟩
    · refine ⟨storeWord_imm e vector rfl hbs ?_, fun _ _ => rfl⟩
      fin_cases z <;> (cases code; rfl)
    · exact ⟨storeWord_post e vector rfl hbs, fun _ _ => loopAt_setS⟩
    · refine ⟨storeWord_index e ?_ vector rfl hbs, fun _ _ => rfl⟩
      fin_cases z <;> rfl
  obtain ⟨word, loops⟩ := word
  have aligned : a % bs.length = 0 := by rwa [hbs, bytesOfLe_length]
  have stored : ∀ {t}, bufferStore (opened s c ws) c a bs = t → memStore (opened s c ws) c a bs = .done t [] false := by
    rintro _ rfl
    exact memStore_buffered aligned inside
  refine ⟨fun room => ⟨_, word.done takes plain loops Quiet.refl (stored (bufferStore_room takes.1 room)), rfl⟩, fun e l buf full => ?_⟩
  have beside : Beside c s (drainEntry s c e) := drainEntry_beside
  refine ⟨_, word.done takes plain loops beside.quiet (stored (bufferStore_full takes.1 buf full)), ?_⟩
  obtain ⟨core, prog, regs, rest⟩ := beside
  have len : c.val < (drainEntry s c e).frw.core.length := by rw [core]; exact takes.1
  rw [core_setCore_same len]
  refine ⟨rfl, rfl, rfl, prog, ?_, regs⟩
  rw [rest]
  rfl
end

section
/-! PROOFS. Furrow's exceptions and its slot X, said once for every instruction that ends there (for O40 to O44). -/

namespace Sys2Proof.Machine

/-! ## Taking an exception -/

section

variable {u : State} {c : Nat} {k : CoreSt} {x : Cause} {epc : Nat}

/-- The cause can be taken by the core as it stands: it is no handler's, it has a vector, and the core is not one to be abandoned. -/
def Traps (k : CoreSt) (c : Nat) (x : Cause) : Prop :=
  (bundleOf k).before.estat.getLsbD 12 = false ∧ 512 ≤ (bundleOf k).before.evec.toNat ∧ loopAt (bundleOf k).before k.pc 0 = false ∧
    loopAt (bundleOf k).before k.pc 1 = false ∧ (k.stepping = true ∨ 4 ≤ c ∨ k.drop = false) ∧ x.fetch = false ∧ x.code < 256 ∧
    x.code ≠ X_DATA_ECC ∧ x.code ≠ X_FETCH_ECC

/-- The address that EPC takes. -/
def Cause.epcAt (x : Cause) (k : CoreSt) : Nat :=
  match x.epc with | some a => a | none => match k.slot with | some t => t.addr | none => k.pc

/-- A core in a handler starts no job and is not halted at a boundary. -/
theorem boundary_handler (h : c < u.frw.core.length) (level : k.regs.estat.getLsbD 12 = true) (bun : k.bun = none)
    (kept : k.stepping = true ∨ 4 ≤ c ∨ k.drop = false) :
    boundary (u.setCore c k) c = u.setCore c { k with stepping := false } := by
  by_cases step : k.stepping = true
  · unfold boundary
    simp only [core_setCore_same h, step, if_true, setCore_setCore]
  · have stays : ({ k with stepping := false } : CoreSt) = k := by cases k; simp_all
    have handler : eligible (u.setCore c k) c = false := by
      unfold eligible
      simp only [core_setCore_same h, level, Bool.not_true, Bool.and_false]
    rw [stays]
    unfold boundary
    simp only [core_setCore_same h, step, Bool.false_eq_true, if_false, handler, and_false]
    rcases kept with go | sentry | drop
    · exact absurd go step
    · rw [if_pos sentry]
    · have idle : dispatch (u.setCore c k) c = u.setCore c k := by
        unfold dispatch
        simp only [handler, Bool.false_eq_true, and_false, if_false]
      simp only [drop, idle, Bool.false_eq_true, false_and, if_false, ite_self]

theorem estat_level {code slot shadow n words info : Nat} (h : code < 256) (hs : slot ≤ 1) (hd : shadow ≤ 1) :
    (BitVec.ofNat 32 (code + 2 ^ 8 * slot + 2 ^ 9 * shadow + 2 ^ 12 + 2 ^ 14 * n + 2 ^ 16 * words + 2 ^ 24 * info)).getLsbD 12 = true := by
  rw [BitVec.getLsbD_ofNat, Nat.testBit_eq_decide_div_mod_eq]
  simp only [decide_eq_true_eq, Bool.and_eq_true]
  omega

theorem b2n_le {b : Bool} : b2n b ≤ 1 := by cases b <;> decide

theorem exception_traps (h : c < u.frw.core.length) (traps : Traps k c x) (hepc : x.epcAt k = epc) :
    exception (u.setCore c k) c x =
      causeShown (u.setCore c (k.trapped x.code x.info x.addr x.slot (Nat.min 3 (bundleOf k).words) epc)) c x.code := by
  obtain ⟨level, vector, outer, inner, kept, fetch, small, data, prog⟩ := traps
  subst hepc
  have page : ¬ (bundleOf k).before.evec.toNat / 512 = 0 := by omega
  have clear : b2n false = 0 := rfl
  unfold exception
  simp only [core_setCore_same h, level, outer, inner, fetch, data, prog, and_false, or_false, if_false, Bool.false_eq_true, page,
    setCore_setCore, clear, Nat.mul_zero, Nat.add_zero]
  unfold causeShown
  split
  · exact boundary_handler (u := u.put (F.FRW_COREc_ST_CAUSE c) x.code) h (estat_level small b2n_le b2n_le) rfl kept
  · exact boundary_handler h (estat_level small b2n_le b2n_le) rfl kept

end

/-! ## A word of slot L that traps -/

section

variable {s u : State} {c : Nat} {ws : List Nat}

theorem endsWell_fresh (h : (s.core c).bun = none) : EndsWell s c := by
  have fresh : (bundleOf (s.core c)).ctl = false ∧ (bundleOf (s.core c)).br = none := by rw [bundleOf, h]; exact ⟨rfl, rfl⟩
  exact ⟨.inr fresh.1, .inl fresh.2⟩

theorem beforeOf_fresh (h : (s.core c).bun = none) : beforeOf s c = (s.core c).regs := by rw [beforeOf, bundleOf, h]; rfl

theorem words_fresh {k : CoreSt} (h : k.bun = none) : (bundleOf k).words = 0 := by rw [bundleOf, h]; rfl

theorem CanTrap.traps {x : Cause} {k : CoreSt} (can : CanTrap s c) (before : (bundleOf k).before = beforeOf s c) (pc : k.pc = (s.core c).pc)
    (stepping : k.stepping = (s.core c).stepping) (drop : k.drop = (s.core c).drop) (fetch : x.fetch = false) (small : x.code < 256)
    (data : x.code ≠ X_DATA_ECC) (prog : x.code ≠ X_FETCH_ECC) : Traps k c x := by
  obtain ⟨level, vector, outer, inner, kept⟩ := can
  unfold Traps
  rw [before, pc, stepping, drop]
  exact ⟨level, vector, outer, inner, kept, fetch, small, data, prog⟩

/-- The address that EPC takes of a cause that does not name one. -/
def CoreSt.here (k : CoreSt) : Nat := match k.slot with | some d => d.addr | none => k.pc

theorem MemWord.traps {x : Instr} {a code info : Nat} {acc : State → Access} {g : State → CoreRegs → List Nat → Bool → State}
    (w : MemWord x s c ws a acc g) (takes : TakesWord s c 2 ws) (bun : (s.core c).bun = none) (can : CanTrap s c)
    (core : u.frw.core = s.frw.core) (small : code < 256) (data : code ≠ X_DATA_ECC) (prog : code ≠ X_FETCH_ECC)
    (access : acc (opened s c ws) = .fault (u.setCore c ((s.core c).loaded ws (s.core c).regs [] (s.core c).buf)) code info) :
    Gives x s (fun t => t = causeShown (u.setCore c ((s.core c).trapped code info a 2 1 (s.core c).here)) c code) := by
  have len : c < u.frw.core.length := core ▸ takes.1
  have ret : (s.core c).ret = [] := takes.2.2.1
  have one : Nat.min 3 ((bundleOf (s.core c)).words + 1) = 1 := by rw [words_fresh bun]; rfl
  refine Gives.of_next (w.faults takes (endsWell_fresh bun) access) ?_
  rw [exception_traps (k := (s.core c).loaded ws (s.core c).regs [] (s.core c).buf) len (can.traps rfl rfl rfl rfl rfl small data prog) rfl]
  refine congrArg (fun k => causeShown (u.setCore c k) c code) ?_
  rw [← one]
  cases hk : s.core c
  simp only [hk] at ret
  subst ret
  rfl

end

end Sys2Proof.Machine
end

section
/-! PROOFS. Device words, staging, history windows and refused accesses of a core (O40). -/

namespace Sys2Proof.Machine

/-! ## What a core's bundle does not change -/

section

variable {s : State} {c : Nat} {k : CoreSt}

theorem fltView_setCore {a : Nat} {v : Word} : fltView (s.setCore c k) a v = fltView s a v := rfl

theorem drlView_setCore {a : Nat} {v : Word} : drlView (s.setCore c k) a v = drlView s a v := rfl

theorem queView_setCore {a : Nat} {v : Word} : queView (s.setCore c k) a v = queView s a v := rfl

theorem intView_setCore {a : Nat} {v : Word} : intView (s.setCore c k) a v = intView s a v := rfl

theorem hgView_setCore {x a : Nat} {v : Word} : hgView (s.setCore c k) x a v = hgView s x a v := rfl

theorem deferredView_setCore {a : Nat} {v : Word} : deferredView (s.setCore c k) a v = deferredView s a v := rfl

theorem pc_setCore {d : Nat} (h : c < s.frw.core.length) (pc : k.pc = (s.core c).pc) : ((s.setCore c k).core d).pc = (s.core d).pc := by
  by_cases same : c = d
  · subst same
    rw [core_setCore_same h, pc]
  · rw [core_setCore_other same]

/-- What a register shows depends on the cores through their pc alone. -/
theorem regView_setCore {a : Nat} (h : c < s.frw.core.length) (pc : k.pc = (s.core c).pc) :
    regView (s.setCore c k) a = regView s a := by
  unfold regView
  simp only [pc_setCore h pc, fltView_setCore, drlView_setCore, queView_setCore, intView_setCore, hgView_setCore]
  rfl

end

theorem opened_regView {s : State} {c a : Nat} {ws : List Nat} (h : c < s.frw.core.length) : regView (opened s c ws) a = regView s a :=
  regView_setCore (k := (s.core c).loaded ws (s.core c).regs [] (s.core c).buf) h rfl

theorem opened_deferredView {s : State} {c a : Nat} {ws : List Nat} {v : Word} : deferredView (opened s c ws) a v = deferredView s a v :=
  deferredView_setCore

/-! ## Where an address leads -/

section

variable {t : State} {c a n : Nat}

theorem regionAt_device (low : 0x40000000 ≤ a) (high : a < 0x40400000) : regionAt t c a = .dev (a - 0x40000000) := by
  have := progLimit_le (t := t) (c := c)
  have := dataBytes_le (c := c)
  unfold regionAt
  unfold DATA_BASE
  rw [if_neg (by omega), if_neg (by omega), if_pos ⟨low, high⟩]

theorem regionAt_history (furrow : c < 4) (low : 0x80000000 ≤ a) (high : a < 0x82000000) :
    regionAt t c a = .hist false (a - 0x80000000) := by
  have := progLimit_le (t := t) (c := c)
  have := dataBytes_le (c := c)
  unfold regionAt
  unfold DATA_BASE COMMON_BASE commonBytes
  rw [if_neg (by omega), if_neg (by omega), if_neg (by omega), if_neg (by omega), if_neg (by omega), if_neg (by omega),
    if_pos ⟨low, high⟩]

theorem regionAt_hole (low : 0x50000000 ≤ a) (high : a < 0x80000000) : regionAt t c a = .none := by
  have := progLimit_le (t := t) (c := c)
  have := dataBytes_le (c := c)
  unfold regionAt
  unfold DATA_BASE COMMON_BASE commonBytes
  rw [if_neg (by omega), if_neg (by omega), if_neg (by omega)]
  split
  · rfl
  · rw [if_neg (by omega), if_neg (by omega), if_neg (by omega), if_neg (by omega)]

theorem regionAt_prog (low : a < progLimit t c) : regionAt t c a = .prog := if_pos low

/-! ## What an access answers there -/

theorem memLoad_misaligned (h : a % n ≠ 0) : memLoad t c a n = .fault t X_ALIGN 0 := if_pos h

theorem memStore_misaligned {bs : List Nat} (h : a % bs.length ≠ 0) : memStore t c a bs = .fault t X_ALIGN 0 := if_pos h

theorem memLoad_device (aligned : a % 4 = 0) (low : 0x40000000 ≤ a) (high : a < 0x40400000) :
    memLoad t c a 4 = .done (coreReadTake t c (a - 0x40000000)) (bytesOfLe 4 (coreReadWord t c (a - 0x40000000)).toNat) true := by
  unfold memLoad
  rw [if_neg (not_not_intro aligned), regionAt_device low high]
  rfl

theorem memLoad_hole (aligned : a % 4 = 0) (low : 0x50000000 ≤ a) (high : a < 0x80000000) : memLoad t c a 4 = .fault t X_BUS 1 := by
  unfold memLoad
  rw [if_neg (not_not_intro aligned), regionAt_hole low high]
  simp only [offMap, if_neg (show ¬ (c < 4 ∧ 0x80000000 ≤ a) by omega)]

theorem memLoad_history_shut (aligned : a % 4 = 0) (furrow : c < 4) (low : 0x80000000 ≤ a) (high : a < 0x82000000)
    (shut : mittenOpen t = false) : memLoad t c a 4 = .fault (mittenDeny t) X_MITTEN 0 := by
  have unreadable : rangeReadable t false (a - 0x80000000) 4 = false := by
    have one : upto (ceilDiv 4 4) = [0] := rfl
    simp only [rangeReadable, one, List.all_cons, List.all_nil, Bool.and_true, Bool.false_eq_true, if_false, swathReadable, shut, Bool.false_and]
  unfold memLoad
  rw [if_neg (not_not_intro aligned), regionAt_history furrow low high]
  simp only [unreadable, Bool.false_eq_true, if_false]

theorem memStore_prog {bs : List Nat} (aligned : a % bs.length = 0) (low : a < progLimit t c) : memStore t c a bs = .fault t X_BUS 2 := by
  unfold memStore
  dsimp only
  rw [if_neg (not_not_intro aligned), regionAt_prog low]

theorem memStore_device {bs : List Nat} (aligned : a % bs.length = 0) (four : bs.length = 4) (low : 0x40000000 ≤ a) (high : a < 0x40400000) :
    memStore t c a bs = devStore t c (a - 0x40000000) (BitVec.ofNat 32 (leOfBytes bs)) := by
  unfold memStore
  dsimp only
  rw [if_neg (not_not_intro aligned), regionAt_device low high]
  simp only [four, ne_eq, not_true_eq_false, if_false]

end

/-! ## The instructions -/

section

variable {s : State} {i : IForm} {a : Nat}

/-- LDW as a load of slot L. -/
theorem loadWord_ldw (e : i.e = true) (bun : (s.core i.c).bun = none)
    (address : a = (((s.core i.c).regs.sv i.rs1).toNat + (i.imm.signExtend 32).toNat * 4) % 2 ^ 32) :
    LoadWord (.ldw i) s i.c false i.rd [regS i.rd.toNat] a (memLoad · i.c a 4) (fun u => BitVec.ofNat 128 u) id :=
  loadWord_imm (z := 4) (n := 4) (by simp [loadSizes]) e (fun h => absurd h Bool.false_ne_true) (by rw [address, beforeOf_fresh bun]) rfl

/-- STW as a store of slot L. -/
theorem storeWord_stw (e : i.e = true) (bun : (s.core i.c).bun = none)
    (address : a = (((s.core i.c).regs.sv i.rs1).toNat + (i.imm.signExtend 32).toNat * 4) % 2 ^ 32) :
    StoreWord (.stw i) s i.c [] a (memStore · i.c a (bytesOfLe 4 ((s.core i.c).regs.sv i.rd).toNat)) id :=
  storeWord_imm (z := 2) e (fun h => absurd h (by decide)) (by rw [address, beforeOf_fresh bun]; rfl) (by rw [← beforeOf_fresh bun]; rfl) rfl

/-- A word whose read has no effect is what the device shows of it. -/
theorem coreRead_plain {t : State} {c r : Nat} (plain : rcWin r = none) :
    coreReadTake t c r = t ∧ coreReadWord t c r = deferredView t r (regView t r) := by
  constructor
  · unfold coreReadTake
    rw [plain]
  · unfold coreReadWord
    rw [plain]

theorem length_stageAdd {ws : List (Nat × Word)} {w : Word} : (stageAdd ws a w).length ≤ ws.length + 1 := by
  unfold stageAdd
  split
  · rw [List.length_map]
    omega
  · rw [List.length_append, List.length_singleton]

/-- Core `c`'s staging set after a word joined it (R430). -/
def staged (s : State) (c : Nat) (l : List (Nat × Word)) : State :=
  ({ s with hsp := { s.hsp with fw := setNth s.hsp.fw c l } } : State).put (F.FRW_FCMTk_STAGED c) l.length

theorem devStore_staged {t : State} {c r : Nat} {w : Word} (furrow : c < 4) (checked : isChecked r = true)
    (room : (nth t.hsp.fw c []).length < 256) : devStore t c r w = .done (staged t c (stageAdd (nth t.hsp.fw c []) r w)) [] false := by
  have fits : ¬ stageLimit c < (stageAdd (nth t.hsp.fw c []) r w).length := by
    have := length_stageAdd (ws := nth t.hsp.fw c []) (a := r) (w := w)
    rw [stageLimit, if_pos furrow]
    omega
  have scare : c ≠ SCARE := by unfold SCARE; omega
  have sent : c ≠ SENT := by unfold SENT; omega
  unfold devStore
  simp only [scare, sent, if_false, false_and, checked, if_true, fits]
  rfl

theorem staged_kept {c : Nat} {l : List (Nat × Word)} : RegsKept s (staged s c l) [A.FRW_FCMTk c] := by
  intro a ha
  rw [staged, put_kept _ _ _ a ha]
  rfl

theorem staged_quiet {c : Nat} {l : List (Nat × Word)} (small : c < 4) : Quiet c s (staged s c l) := by
  have apart : A.FRW_COREc_CTL c ≠ A.FRW_FCMTk c ∧ A.FRW_COREc_ST c ≠ A.FRW_FCMTk c := by
    unfold A.FRW_COREc_CTL A.FRW_COREc_ST A.FRW_FCMTk
    omega
  exact ⟨rfl, flag_of_rd (staged_kept _ (by simpa using apart.1)), flag_of_rd (staged_kept _ (by simpa using apart.2))⟩

theorem mittenDeny_kept {t : State} : RegsKept t (mittenDeny t) [A.SWA_DENY] := by
  unfold mittenDeny State.incSat
  split
  · exact put_kept _ _ _
  · exact RegsKept.refl _ _

theorem mittenDeny_cores {t : State} : (mittenDeny t).frw.core = t.frw.core := by
  unfold mittenDeny State.incSat
  split <;> rfl

theorem mittenDeny_count {t : State} : (mittenDeny t).get F.SWA_DENY_COUNT = Nat.min (t.get F.SWA_DENY_COUNT + 1) (2 ^ 32 - 1) := by
  have bound : t.get F.SWA_DENY_COUNT < 2 ^ 32 := get_lt t F.SWA_DENY_COUNT
  have width : (F.SWA_DENY_COUNT).width = 32 := rfl
  unfold mittenDeny State.incSat
  rw [width]
  split
  · next room => 
    rw [get_put_same _ _ _ (by decide), width, Nat.mod_eq_of_lt room]
    exact (Nat.min_eq_left (by omega)).symm
  · next full => exact (by omega : t.get F.SWA_DENY_COUNT = 2 ^ 32 - 1).trans (Nat.min_eq_right (by omega)).symm

theorem mittenDeny_setCore {t : State} {c : Nat} {k : CoreSt} : mittenDeny (t.setCore c k) = (mittenDeny t).setCore c k := incSat_setCore

theorem causeShown_kept {t : State} {c code : Nat} : RegsKept t (causeShown t c code) [A.FRW_COREc_ST c] := by
  unfold causeShown
  split
  · exact put_kept _ _ _
  · exact RegsKept.refl _ _

end

end Sys2Proof.Machine

open Sys2Proof Sys2Proof.Machine

/-- Settles O40: each access is a word of slot L at the region its address lies in. -/
theorem furrowDeviceAccess : Obligations.FurrowDeviceAccess := by
  unfold Obligations.FurrowDeviceAccess
  intro s i a e bun address
  have load := loadWord_ldw e bun address
  have store := storeWord_stw e bun address
  have four : (bytesOfLe 4 ((s.core i.c).regs.sv i.rd).toNat).length = 4 := bytesOfLe_length _ _
  have same : a % (bytesOfLe 4 ((s.core i.c).regs.sv i.rd).toNat).length = a % 4 := by rw [four]
  have word : BitVec.ofNat 32 (leOfBytes (bytesOfLe 4 ((s.core i.c).regs.sv i.rd).toNat)) = (s.core i.c).regs.sv i.rd := by
    rw [leOfBytes_word (BitVec.isLt _), BitVec.ofNat_toNat, BitVec.setWidth_eq]
  refine ⟨fun takes plain aligned low high read => ?_, fun takes plain furrow aligned low high checked room size => ?_, fun can => ?_⟩
  · obtain ⟨stays, value⟩ := coreRead_plain (t := opened s i.c [regS i.rd.toNat]) (c := i.c) read
    obtain ⟨t, runs, result⟩ := load.gives_later takes plain (fun _ _ => rfl) Quiet.refl (by
      rw [memLoad_device aligned low high, stays]; rfl)
    refine ⟨t, runs, result.trans ?_⟩
    rw [leOfBytes_word (BitVec.isLt _), value, opened_deferredView, opened_regView takes.1]
    rfl
  · have done := store.done takes plain (fun _ _ => rfl) (staged_quiet furrow) (by
      rw [memStore_device (same.trans aligned) four low high, word]
      exact devStore_staged (t := opened s i.c []) furrow checked room)
    have index : i.c.val < s.hsp.fw.length := by omega
    refine ⟨_, done, ?_, ?_, core_setCore_same takes.1, staged_kept⟩
    · rw [show (((staged s i.c _).setCore i.c _).hsp.fw) = setNth s.hsp.fw i.c _ from rfl, nth, setNth, List.getElem?_set_self index]
      rfl
    · exact get_put_same _ (F.FRW_FCMTk_STAGED i.c) _ (show 20 + 9 ≤ 32 by decide)
  · obtain ⟨_, loads, -⟩ := load
    obtain ⟨_, stores, -⟩ := store
    refine ⟨fun takes odd => loads.traps takes bun can rfl (by decide) (by decide) (by decide) (memLoad_misaligned odd),
      fun takes odd => stores.traps takes bun can rfl (by decide) (by decide) (by decide) (memStore_misaligned (by rwa [same])),
      fun takes aligned low => stores.traps takes bun can rfl (by decide) (by decide) (by decide)
        (memStore_prog (same.trans aligned) low),
      fun takes aligned low high => loads.traps takes bun can rfl (by decide) (by decide) (by decide) (memLoad_hole aligned low high),
      fun takes aligned furrow low high shut => ?_⟩
    have denied : memLoad (opened s i.c [regS i.rd.toNat]) i.c a 4 = .fault ((mittenDeny s).setCore i.c
        ((s.core i.c).loaded [regS i.rd.toNat] (s.core i.c).regs [] (s.core i.c).buf)) X_MITTEN 0 :=
      (memLoad_history_shut (t := opened s i.c [regS i.rd.toNat]) aligned furrow low high shut).trans (by rw [← mittenDeny_setCore]; rfl)
    obtain ⟨t, runs, rfl⟩ := loads.traps takes bun can mittenDeny_cores (by decide) (by decide) (by decide) denied
    refine ⟨_, runs, ?_, rfl⟩
    rw [get_of_rd (causeShown_kept _ ?_), State.setCore_get, mittenDeny_count]
    simp only [List.mem_singleton]
    unfold A.SWA_DENY A.FRW_COREc_ST
    omega
end

section
/-! PROOFS. Furrow's queue instructions (O41). -/

namespace Sys2Proof.Machine

theorem leOfBytes_append {l m : List Nat} : leOfBytes (l ++ m) = leOfBytes l + 256 ^ l.length * leOfBytes m := by
  induction l with
  | nil => simp [leOfBytes]
  | cons b l ih =>
    rw [List.cons_append, leOfBytes, ih, leOfBytes, List.length_cons, Nat.pow_succ']
    ring

theorem leOfBytes_words {w : Nat} {l : List Nat} :
    leOfBytes ((w :: l).flatMap (bytesOfLe 4)) = w % 2 ^ 32 + 2 ^ 32 * leOfBytes (l.flatMap (bytesOfLe 4)) := by
  rw [List.flatMap_cons, leOfBytes_append, leOfBytes_bytesOfLe, bytesOfLe_length, show 256 ^ 4 = 2 ^ 32 by rfl]

section

variable {s t : State} {i : IForm} {c n k : Nat}

/-- A pop that its core may take. -/
theorem popAccess_done (on : queueOn t n = true) (mine : t.get (F.QUE_Qn_CONS_CORE n) = c) (enough : k ≤ (t.queue n).occ.length) :
    popAccess t c n k = .done (queuePop t n k) (((t.queue n).occ.take k).flatMap (bytesOfLe 4)) true := by
  unfold popAccess
  simp only [on, mine, Bool.not_true, bne_self_eq_false, Bool.or_self, Bool.false_eq_true, if_false, Nat.not_lt_of_le enough]

theorem popAccess_waits (on : queueOn t n = true) (mine : t.get (F.QUE_Qn_CONS_CORE n) = c) (few : (t.queue n).occ.length < k) :
    popAccess t c n k = .wait := by
  unfold popAccess
  simp only [on, mine, Bool.not_true, bne_self_eq_false, Bool.or_self, Bool.false_eq_true, if_false, few, if_true]

theorem pushAccess_done {es : List Nat} (on : queueOn t n = true) (mine : t.get (F.QUE_Qn_PROD_CORE n) = c) (enough : es.length ≤ (t.queue n).cred) :
    pushAccess t c n es = .done (queuePush t n es) [] false := by
  unfold pushAccess
  simp only [on, mine, Bool.not_true, bne_self_eq_false, Bool.or_self, Bool.false_eq_true, if_false, Nat.not_lt_of_le enough]

theorem pushAccess_waits {es : List Nat} (on : queueOn t n = true) (mine : t.get (F.QUE_Qn_PROD_CORE n) = c) (few : (t.queue n).cred < es.length) :
    pushAccess t c n es = .wait := by
  unfold pushAccess
  simp only [on, mine, Bool.not_true, bne_self_eq_false, Bool.or_self, Bool.false_eq_true, if_false, few, if_true]

/-- Only a host queue's level is a source (R486). -/
theorem queuePop_inner (small : n < 56) : queuePop t n k = t.setQueue n { t.queue n with
    occ := (t.queue n).occ.drop k, ret := (t.queue n).ret + Nat.min k (t.queue n).occ.length } := by
  have inner : queueClass n ≠ 3 := by
    unfold queueClass
    rw [if_pos small]
    split
    · decide
    · split <;> decide
  exact if_neg inner

theorem bundleWait_fresh (bun : (s.core c).bun = none) : bundleWait s c = s := by
  unfold bundleWait
  simp only [bun]

theorem queOk_of {vec : Bool} (furrow : i.c.val < 4) (rs1 : i.rs1 = 0) (vector : vec = true → i.rd.toNat < 16) : queOk i vec = true := by
  cases vec
  · simp [queOk, furrow, rs1]
  · simp [queOk, furrow, rs1, vector rfl]

/-- QPOP and QPOPV as words of slot L. -/
theorem loadWord_pop {x : Instr} {vec : Bool} (e : i.e = true) (furrow : i.c.val < 4) (rs1 : i.rs1 = 0) (hvec : vec = decide (k = 4))
    (vector : vec = true → i.rd.toNat < 16) (runs : exec x s = ok (popInstr s i k)) :
    LoadWord x s i.c vec i.rd [dataReg vec i.rd] (0x30000000 + 16 * i.imm.toNat) (popAccess · i.c i.imm.toNat k) (fun u => BitVec.ofNat 128 u) id := by
  subst hvec
  rw [popInstr, e] at runs
  refine ⟨_, ⟨_, _, _, runs, queOk_of furrow rs1 vector, fun t => rfl⟩, fun u k bs long h => ?_⟩
  rw [regsPut_id (by rw [loadGive_length, setCore_length]; exact h)]

theorem loadWord_occ (e : i.e = true) (furrow : i.c.val < 4) (rs1 : i.rs1 = 0) :
    LoadWord (.qocc i) s i.c false i.rd [regS i.rd.toNat] (0x30000000 + 16 * i.imm.toNat)
      (fun t => if queueOn t i.imm.toNat then .done t (bytesOfLe 4 (t.queue i.imm.toNat).occ.length) true else .fault t X_BUS 4)
      (fun u => BitVec.ofNat 128 u) id := by
  have runs : exec (.qocc i) s = _ := execQocc.eq_1 i s
  rw [e] at runs
  refine ⟨_, ⟨_, _, _, runs, queOk_of furrow rs1 (fun h => absurd h Bool.false_ne_true), fun t => rfl⟩, fun u k bs long h => ?_⟩
  rw [regsPut_id (by rw [loadGive_length, setCore_length]; exact h)]
  rfl

/-- The entries that a push takes from its register. -/
def pushed (r : CoreRegs) (rd : BitVec 5) (vec : Bool) : List Nat :=
  if vec then (upto 4).map (fun k => laneU true (r.qv rd) k) else [(r.sv rd).toNat]

/-- QPUSH and QPUSHV as words of slot L. -/
theorem storeWord_push {x : Instr} {vec : Bool} (e : i.e = true) (furrow : i.c.val < 4) (rs1 : i.rs1 = 0)
    (vector : vec = true → i.rd.toNat < 16) (runs : exec x s = ok (pushInstr s i vec)) :
    StoreWord x s i.c [] (0x30000400 + 16 * i.imm.toNat) (pushAccess · i.c i.imm.toNat (pushed (beforeOf s i.c) i.rd vec)) id := by
  rw [pushInstr, e] at runs
  refine ⟨_, ⟨_, _, _, runs, queOk_of furrow rs1 vector, fun t => ?_⟩, fun u k l long h => ?_⟩
  · cases vec <;> rfl
  · rw [regsPut_id (by rw [setCore_length]; exact h)]

theorem setQueue_quiet {v : QueueSt} : Quiet c s (s.setQueue n v) := ⟨rfl, rfl, rfl⟩

/-- A pop brings the oldest entries. -/
theorem pop_gives {x : Instr} {vec : Bool} {a : Nat} {rd : BitVec 5} (w : LoadWord x s c vec rd [dataReg vec rd] a (popAccess · c n k) (fun u => BitVec.ofNat 128 u) id)
    (takes : TakesWord s c 2 [dataReg vec rd]) (plain : PlainEnd s c) (small : n < 56) (on : queueOn s n = true)
    (mine : s.get (F.QUE_Qn_CONS_CORE n) = c) {l m : List Nat} (occ : (s.queue n).occ = l ++ m) (many : l.length = k) :
    Gives x s (fun t => t = (s.setQueue n { s.queue n with occ := m, ret := (s.queue n).ret + k }).setCore c
      { (s.core c).past (s.core c).regs with ret := [(dataReg vec rd, BitVec.ofNat 128 (leOfBytes (l.flatMap (bytesOfLe 4))))] }) := by
  refine w.gives_later takes plain (fun _ _ => rfl) setQueue_quiet ?_
  have enough : k ≤ (s.queue n).occ.length := by rw [occ, List.length_append, many]; omega
  refine (popAccess_done (t := opened s c [dataReg vec rd]) on mine enough).trans ?_
  rw [queuePop_inner small, show (opened s c [dataReg vec rd]).queue n = s.queue n from rfl, show Nat.min k (s.queue n).occ.length = k from Nat.min_eq_left enough, occ]
  subst many
  rw [List.drop_left, List.take_left]
  rfl

/-- A push sends entries on their way. -/
theorem push_gives {x : Instr} {a : Nat} {es : List Nat} (w : StoreWord x s c [] a (pushAccess · c n es) id)
    (takes : TakesWord s c 2 []) (plain : PlainEnd s c) (on : queueOn s n = true) (mine : s.get (F.QUE_Qn_PROD_CORE n) = c)
    (enough : es.length ≤ (s.queue n).cred) :
    Gives x s (fun t => t = (s.setQueue n { s.queue n with cred := (s.queue n).cred - es.length, infl := (s.queue n).infl ++ es }).setCore c
      ((s.core c).past (s.core c).regs)) :=
  ⟨_, w.done takes plain (fun _ _ => rfl) setQueue_quiet (pushAccess_done (t := opened s c []) on mine enough), rfl⟩

end

end Sys2Proof.Machine

open Sys2Proof Sys2Proof.Machine

/-- Settles O41: each instruction is a word of slot L whose access is the queue's. -/
theorem furrowQueueInstructions : Obligations.FurrowQueueInstructions := by
  unfold Obligations.FurrowQueueInstructions
  rintro s i n q furrow e rs1 rfl size on rfl
  have scalar : false = true → i.rd.toNat < 16 := fun h => absurd h Bool.false_ne_true
  have pop := loadWord_pop (x := .qpop i) (s := s) (k := 1) (vec := false) e furrow rs1 rfl scalar rfl
  have push := storeWord_push (x := .qpush i) (s := s) (vec := false) e furrow rs1 scalar rfl
  have popv := fun rd : i.rd.toNat < 16 => loadWord_pop (x := .qpopv i) (s := s) (k := 4) (vec := true) e furrow rs1 rfl (fun _ => rd) rfl
  have pushv := fun rd : i.rd.toNat < 16 => storeWord_push (x := .qpushv i) (s := s) (vec := true) e furrow rs1 (fun _ => rd) rfl
  refine ⟨fun w l small mine occ takes plain => ?_, fun w0 w1 w2 w3 l small rd mine occ takes plain => ?_,
    fun mine bun slot => ⟨fun none takes => ?_, fun few rd takes => ?_⟩,
    fun mine takes plain => ⟨push_gives push takes plain on mine, fun cred rd => push_gives (pushv rd) takes plain on mine cred,
      fun none bun => ?_, fun few bun rd => ?_⟩, fun takes plain => ?_⟩
  · obtain ⟨t, runs, result⟩ := pop_gives pop takes plain small on mine (l := [w]) occ rfl
    refine ⟨t, runs, result.trans ?_⟩
    rw [leOfBytes_words, List.flatMap_nil, leOfBytes, Nat.mul_zero, Nat.add_zero]
    rfl
  · obtain ⟨t, runs, result⟩ := pop_gives (popv rd) takes plain small on mine (l := [w0, w1, w2, w3]) occ rfl
    refine ⟨t, runs, result.trans ?_⟩
    rw [leOfBytes_words, leOfBytes_words, leOfBytes_words, leOfBytes_words, List.flatMap_nil, leOfBytes]
    have flat : w0 % 2 ^ 32 + 2 ^ 32 * (w1 % 2 ^ 32 + 2 ^ 32 * (w2 % 2 ^ 32 + 2 ^ 32 * (w3 % 2 ^ 32 + 2 ^ 32 * 0))) =
        w0 % 2 ^ 32 + 2 ^ 32 * (w1 % 2 ^ 32) + 2 ^ 64 * (w2 % 2 ^ 32) + 2 ^ 96 * (w3 % 2 ^ 32) := by ring
    rw [flat]
    rfl
  · obtain ⟨g, word, -⟩ := pop
    exact ⟨_, word.waits takes (endsWell_fresh bun) (popAccess_waits (t := opened s i.c _) on mine
      (show (s.queue i.imm.toNat).occ.length < 1 by rw [none]; decide)), bundleWait_fresh bun⟩
  · obtain ⟨g, word, -⟩ := popv rd
    exact ⟨_, word.waits takes (endsWell_fresh bun) (popAccess_waits (t := opened s i.c _) on mine few), bundleWait_fresh bun⟩
  · obtain ⟨g, word, -⟩ := push
    exact ⟨_, word.waits takes (endsWell_fresh bun) (pushAccess_waits (t := opened s i.c _) on mine
      (show (s.queue i.imm.toNat).cred < 1 by rw [none]; decide)), bundleWait_fresh bun⟩
  · obtain ⟨g, word, -⟩ := pushv rd
    exact ⟨_, word.waits takes (endsWell_fresh bun) (pushAccess_waits (t := opened s i.c _) on mine few), bundleWait_fresh bun⟩
  · obtain ⟨t, runs, result⟩ := (loadWord_occ (s := s) e furrow rs1).gives_later takes plain (fun _ _ => rfl) Quiet.refl (if_pos on)
    refine ⟨t, runs, result.trans ?_⟩
    rw [leOfBytes_bytesOfLe]
    rfl
end

section
/-! PROOFS. Furrow's slot X and illegal words (for O42, O43, O44). -/

namespace Sys2Proof.Machine

section

variable {s t : State} {c n : Nat} {ws vs : List Nat}

/-- With no bundle open a word may name any registers. -/
theorem TakesWord.fresh (h : TakesWord s c n ws) (bun : (s.core c).bun = none) : TakesWord s c n vs := by
  obtain ⟨len, issues, ret, fetches, meets, room, good, well, order, -⟩ := h
  refine ⟨len, issues, ret, fetches, meets, room, good, well, order, fun w _ _ _ => ?_⟩
  rw [bundleOf, bun]
  exact List.not_mem_nil

/-- The core with the bundle that a word of slot X closes, and what the word leaves of the registers. -/
def CoreSt.closed (k : CoreSt) (ws : List Nat) (r : CoreRegs) : CoreSt :=
  { k with bun := some { bundleOf k with words := (bundleOf k).words + 1, last := 3, wrote := (bundleOf k).wrote ++ ws, ctl := true }, regs := r }

/-- The state in which a word of slot X acts. -/
def closing (s : State) (c : Nat) (ws : List Nat) : State := s.setCore c ((s.core c).closed ws (s.core c).regs)

/-- A legal word of slot X that ends its bundle acts on the core with that bundle. -/
theorem issueX_eq {ok : Bool} {f : State → State} (h : TakesWord s c 3 ws) (legal : ok = true) (slot : (s.core c).slot = none)
    (loops : (bundleOf (s.core c)).br = none ∨ loopAt (beforeOf s c) (s.core c).pc 0 = false ∧ loopAt (beforeOf s c) (s.core c).pc 1 = false) :
    issueX s c true ok ws f = f (closing s c ws) := by
  have len := h.1
  have good : (bundleOf (s.core c)).bad = false := h.2.2.2.2.2.2.1
  have well : (bundleOf (s.core c)).ill = none := h.2.2.2.2.2.2.2.1
  unfold issueX
  rw [wordIn_takes (i := ⟨3, ok, [], ws, none, false, fun _ r => r⟩) h, bundleAdd_joins h (.inl rfl)]
  simp only [endsBundle, Bool.true_or, if_true, core_setCore_same len, legal, Option.isSome_none, Bool.false_eq_true, if_false, decide_true,
    Bool.or_true]
  rw [bundleCause_none]
  · simp only [closing, CoreSt.closed, well]
  · exact good
  · exact .inl slot
  · exact loops
  · rfl

/-- The bundle of a word of slot X ends: nothing acts after it. -/
theorem bundleDone_closed {r : CoreRegs} (h : c < s.frw.core.length) (quiet : Quiet c s t) (plain : PlainEnd s c)
    (loops : ∀ m, loopAt r (s.core c).pc m = loopAt (s.core c).regs (s.core c).pc m) :
    bundleDone (t.setCore c ((s.core c).closed ws r)) c false = t.setCore c ((s.core c).past r) := by
  obtain ⟨noSlot, noBr, outer, inner, calm⟩ := plain
  exact bundleDone_plain (k := s.core c) (quiet.core ▸ h) noSlot noBr ((loops 0).trans outer) ((loops 1).trans inner)
    (calm_quiet h quiet calm rfl rfl rfl rfl)

/-- A buffer that holds nothing drains nothing. -/
theorem drainAll_empty {u : State} (h : c < u.frw.core.length) (buf : (u.core c).buf = []) : drainAll u c = u := by
  have same : ({ u.core c with buf := [] } : CoreSt) = u.core c := by rw [← buf]
  unfold drainAll drainN
  simp only [buf, List.length_nil, List.take_zero, List.drop_nil, same, setCore_core h]
  rfl

theorem closing_drained (h : c < s.frw.core.length) (buf : (s.core c).buf = []) : drainAll (closing s c ws) c = closing s c ws :=
  drainAll_empty (by rw [closing, setCore_length]; exact h) (by rw [closing, core_setCore_same h]; exact buf)

/-! ## Illegal words -/

/-- A bundle of one word takes an exception. -/
theorem exception_single {b : Bundle} {x : Cause} {epc : Nat} (h : c < s.frw.core.length) (bun : (s.core c).bun = none)
    (traps : Traps { s.core c with bun := some b } c x) (words : b.words = (bundleOf (s.core c)).words + 1) (before : b.before = beforeOf s c)
    (hepc : x.epcAt { s.core c with bun := some b } = epc) :
    exception (s.setCore c { s.core c with bun := some b }) c x =
      causeShown (s.setCore c ((s.core c).trapped x.code x.info x.addr x.slot 1 epc)) c x.code := by
  have one : Nat.min 3 b.words = 1 := by rw [words, words_fresh bun]; rfl
  rw [exception_traps h traps hepc, ← one]
  unfold CoreSt.trapped
  simp only [show (bundleOf (s.core c)).before = b.before from before.symm]
  rfl

/-- A word that breaks the rule of its own encoding takes exception 1. -/
theorem exception_illegal {b : Bundle} (h : TakesWord s c n ws) (bun : (s.core c).bun = none) (slot : (s.core c).slot = none)
    (can : CanTrap s c) (words : b.words = (bundleOf (s.core c)).words + 1) (before : b.before = beforeOf s c) :
    exception (s.setCore c { s.core c with bun := some b }) c ⟨X_ILLEGAL, 0, 0, false, n, none⟩ =
      causeShown (s.setCore c ((s.core c).trapped 1 0 0 n 1 (s.core c).pc)) c 1 := by
  refine exception_single (x := ⟨X_ILLEGAL, 0, 0, false, n, none⟩) h.1 bun
    (can.traps before rfl rfl rfl rfl (show X_ILLEGAL < 256 by decide) (show X_ILLEGAL ≠ X_DATA_ECC by decide)
      (show X_ILLEGAL ≠ X_FETCH_ECC by decide)) words before ?_
  simp only [Cause.epcAt, slot]

theorem bundleCause_illegal {k : CoreSt} {b : Bundle} (good : b.bad = false) (straight : k.slot = none)
    (loops : loopAt b.before k.pc 0 = false ∧ loopAt b.before k.pc 1 = false) (ill : b.ill = some n) :
    bundleCause k b = some ⟨X_ILLEGAL, 0, 0, false, n, none⟩ := by
  unfold bundleCause
  rw [good, straight, loops.1, loops.2, ill]
  simp

theorem issue_illegal {i : Act} (h : TakesWord s c i.slot i.writes) (illegal : i.ok = false) (bun : (s.core c).bun = none)
    (slot : (s.core c).slot = none) (can : CanTrap s c) :
    issue s c true i = causeShown (s.setCore c ((s.core c).trapped 1 0 0 i.slot 1 (s.core c).pc)) c 1 := by
  have len := h.1
  have good : (bundleOf (s.core c)).bad = false := h.2.2.2.2.2.2.1
  obtain ⟨-, -, outer, inner, -⟩ := id can
  unfold issue
  rw [wordIn_takes h, bundleAdd_joins h (.inl rfl)]
  simp only [endsBundle, Bool.true_or, if_true, core_setCore_same len, illegal, Bool.false_eq_true, if_false, Option.isSome_some]
  rw [bundleCause_illegal]
  · exact exception_illegal h bun slot can rfl rfl
  · exact good
  · exact slot
  · exact ⟨outer, inner⟩
  · rfl

theorem issueX_illegal {ok : Bool} {f : State → State} (h : TakesWord s c 3 ws) (illegal : ok = false) (bun : (s.core c).bun = none)
    (slot : (s.core c).slot = none) (can : CanTrap s c) :
    issueX s c true ok ws f = causeShown (s.setCore c ((s.core c).trapped 1 0 0 3 1 (s.core c).pc)) c 1 := by
  have len := h.1
  have good : (bundleOf (s.core c)).bad = false := h.2.2.2.2.2.2.1
  obtain ⟨-, -, outer, inner, -⟩ := id can
  unfold issueX
  rw [wordIn_takes (i := ⟨3, ok, [], ws, none, false, fun _ r => r⟩) h, bundleAdd_joins h (.inl rfl)]
  simp only [endsBundle, Bool.true_or, if_true, core_setCore_same len, illegal, Bool.false_eq_true, if_false]
  rw [bundleCause_illegal]
  · exact exception_illegal h bun slot can rfl rfl
  · exact good
  · exact slot
  · exact ⟨outer, inner⟩
  · rfl

end

end Sys2Proof.Machine
end

section
/-! PROOFS. Furrow's atomics (O42). -/

namespace Sys2Proof.Machine

/-! ## A word of the Common -/

section

variable {s : State} {c d m a n : Nat}

theorem memRead_memWrite_same {l : List Host.Cell} {bs : List Nat} (h : ∀ b ∈ bs, b < 256) : memRead (memWrite l a bs) a bs.length = bs := by
  apply List.ext_getElem
  · simp [memRead, upto]
  · intro i hi hj
    simp only [memRead, upto, List.getElem_map, List.getElem_range]
    rw [memGet_memWrite_at _ _ _ _ hj]
    exact Nat.mod_eq_of_lt (h _ (List.getElem_mem hj))

theorem memWord_memWrite {l : List Host.Cell} {v : Word} : memWord (memWrite l a (bytesOfLe 4 v.toNat)) a = v := by
  have read := memRead_memWrite_same (l := l) (a := a) (bytesOfLe_lt 4 v.toNat)
  rw [bytesOfLe_length] at read
  rw [memWord, read, leOfBytes_word v.isLt, BitVec.ofNat_toNat, BitVec.setWidth_eq]

theorem incSat_regs {f : Fld} : s.incSat f = { s with regs := (s.incSat f).regs } := by
  unfold State.incSat
  split <;> rfl

theorem forEach_incSat_regs {α : Type} {l : List α} {f : Fld} :
    forEach l (fun s _ => s.incSat f) s = { s with regs := (forEach l (fun s _ => s.incSat f) s).regs } := by
  induction l generalizing s with
  | nil => rfl
  | cons e l ih =>
    have first := incSat_regs (s := s) (f := f)
    have rest := ih (s := s.incSat f)
    simp only [forEach, List.foldl_cons] at rest ⊢
    rw [rest, first]

/-- A check of a memory changes the core's ECC word and the list of errors to come, nothing else. -/
theorem softMeet_soft : softMeet s c m a n =
    { s with regs := (softMeet s c m a n).regs, frw := { s.frw with soft := (softMeet s c m a n).frw.soft } } := by
  unfold softMeet
  dsimp only
  split
  · rfl
  · split
    · rw [forEach_incSat_regs]
      rfl
    · rfl

theorem softMeet_common : (softMeet s c m a n).frw.common = s.frw.common := by rw [softMeet_soft]

theorem softMeet_badCommon : (softMeet s c m a n).frw.badCommon = s.frw.badCommon := by rw [softMeet_soft]

end

/-! ## The instructions -/

section

variable {s : State} {i : RForm} {f : Word → Word → Word → Word} {x : Instr} {a : Nat} {old : Word}

/-- The Common with a word replaced, as an atomic leaves it. -/
def swapped (s : State) (c a : Nat) (v : Word) : State :=
  commonWrite (softMeet s c 2 (a - COMMON_BASE) 4) (a - COMMON_BASE) (bytesOfLe 4 v.toNat)

theorem swapped_quiet {c : Nat} {v : Word} : Quiet c s (swapped s c a v) :=
  Beside.quiet (Beside.trans softMeet_beside commonWrite_beside)

theorem amo_gives (runs : exec x s = ok (amo s i f)) (e : i.e = true) (bun : (s.core i.c).bun = none) (furrow : i.c.val < 4)
    (takes : TakesWord s i.c 3 [regS i.rd.toNat]) (plain : PlainEnd s i.c) (buf : (s.core i.c).buf = [])
    (address : a = ((s.core i.c).regs.sv i.rs1).toNat) (hold : old = memWord s.frw.common (a - COMMON_BASE)) (aligned : a % 4 = 0)
    (low : COMMON_BASE ≤ a) (high : a < COMMON_BASE + commonBytes) (good : badIn s.frw.badCommon (a - COMMON_BASE) 4 = false) :
    exec x s = ok ((swapped s i.c a (f old ((s.core i.c).regs.sv i.rs2) ((s.core i.c).regs.sv i.rd))).setCore i.c
      ((s.core i.c).past ((s.core i.c).regs.setS i.rd old))) := by
  have slot : (s.core i.c).slot = none := plain.1
  have before : (bundleOf ((closing s i.c [regS i.rd.toNat]).core i.c)).before = (s.core i.c).regs := by
    rw [closing, core_setCore_same takes.1]
    exact beforeOf_fresh bun
  have inside : ¬ (a < COMMON_BASE ∨ COMMON_BASE + commonBytes ≤ a) := by omega
  have good' : badIn (closing s i.c [regS i.rd.toNat]).frw.badCommon (a - COMMON_BASE) 4 = false := good
  rw [runs, amo, e, issueX_eq takes (decide_eq_true furrow) slot (.inl plain.2.1), closing_drained takes.1 buf]
  simp only [before, ← address, aligned, inside, ne_eq, not_true_eq_false, if_false, good', Bool.false_eq_true]
  have read : memWord (softMeet (closing s i.c [regS i.rd.toNat]) i.c 2 (a - COMMON_BASE) 4).frw.common (a - COMMON_BASE) = old := by
    rw [softMeet_common, hold]
    rfl
  have acts : ∀ v, commonWrite (softMeet (closing s i.c [regS i.rd.toNat]) i.c 2 (a - COMMON_BASE) 4) (a - COMMON_BASE) (bytesOfLe 4 v.toNat) =
      (swapped s i.c a v).setCore i.c ((s.core i.c).closed [regS i.rd.toNat] (s.core i.c).regs) := fun v => by
    rw [closing, softMeet_setCore, commonWrite_setCore, swapped]
  rw [read, acts, regsPut_setCore (by rw [(swapped_quiet).core]; exact takes.1)]
  exact congrArg _ (bundleDone_closed takes.1 swapped_quiet plain fun _ => loopAt_setS)

/-- What a word of the Common replaced changes, and what it leaves. -/
theorem swapped_leaves {c : Nat} {v : Word} : memWord (swapped s c a v).frw.common (a - COMMON_BASE) = v ∧
    (∀ o, (o < a - COMMON_BASE ∨ a - COMMON_BASE + 4 ≤ o) → memGet (swapped s c a v).frw.common o = memGet s.frw.common o) ∧
    swapped s c a v = { s with regs := (swapped s c a v).regs, frw := { s.frw with common := (swapped s c a v).frw.common, badCommon := (swapped s c a v).frw.badCommon, soft := (swapped s c a v).frw.soft } } ∧
    (softMeet s c 2 (a - COMMON_BASE) 4 = s → (swapped s c a v).regs = s.regs) ∧ RegsKept s (swapped s c a v) [A.FRW_COREc_ECC c] := by
  have common : (swapped s c a v).frw.common = memWrite s.frw.common (a - COMMON_BASE) (bytesOfLe 4 v.toNat) := by
    rw [← softMeet_common (s := s) (c := c) (m := 2) (a := a - COMMON_BASE) (n := 4)]
    rfl
  refine ⟨?_, fun o apart => ?_, ?_, fun same => ?_, (Beside.trans softMeet_beside commonWrite_beside).regs⟩
  · rw [common, memWord_memWrite]
  · rw [common, memGet_memWrite_other _ _ _ _ (by rw [bytesOfLe_length]; exact apart)]
  · have soft := softMeet_soft (s := s) (c := c) (m := 2) (a := a - COMMON_BASE) (n := 4)
    unfold swapped
    rw [soft]
    rfl
  · rw [swapped, same]
    rfl

theorem amo_illegal (runs : exec x s = ok (amo s i f)) (e : i.e = true) (bun : (s.core i.c).bun = none) (sentry : 4 ≤ i.c.val)
    (takes : TakesWord s i.c 3 [regS i.rd.toNat]) (can : CanTrap s i.c) (slot : (s.core i.c).slot = none) :
    Gives x s (fun t => t = s.setCore i.c ((s.core i.c).trapped 1 0 0 3 1 (s.core i.c).pc)) := by
  refine ⟨_, runs, ?_⟩
  rw [amo, e, issueX_illegal takes (decide_eq_false (Nat.not_lt.mpr sentry)) bun slot can]
  exact if_neg (Nat.not_lt.mpr sentry)

end

end Sys2Proof.Machine

open Sys2Proof Sys2Proof.Machine

/-- Settles O42: each atomic is a word of slot X that replaces a word of the Common, and Furrow-S has no such word. -/
theorem furrowAtomics : Obligations.FurrowAtomics := by
  unfold Obligations.FurrowAtomics
  rintro s i a old b d e bun rfl rfl rfl rfl x hx
  have acts : ∃ f, exec x.1 s = ok (amo s i f) ∧ f (memWord s.frw.common (((s.core i.c).regs.sv i.rs1).toNat - COMMON_BASE)) ((s.core i.c).regs.sv i.rs2)
      ((s.core i.c).regs.sv i.rd) = x.2 := by
    simp only [List.mem_cons, List.not_mem_nil, or_false] at hx
    rcases hx with rfl | rfl | rfl | rfl | rfl | rfl | rfl
    · exact ⟨_, rfl, rfl⟩
    · exact ⟨_, rfl, rfl⟩
    · exact ⟨_, rfl, rfl⟩
    · exact ⟨_, rfl, rfl⟩
    · exact ⟨_, rfl, by simp only [← Nat.not_lt, ite_not]⟩
    · exact ⟨_, rfl, by simp only [← Nat.not_lt, ite_not]⟩
    · exact ⟨_, rfl, rfl⟩
  obtain ⟨f, runs, value⟩ := acts
  refine ⟨fun furrow takes plain buf aligned low high good => ⟨_, amo_gives runs e bun furrow takes plain buf rfl rfl aligned low high good, ?_⟩,
    fun sentry takes can slot => amo_illegal runs e bun sentry takes can slot⟩
  rw [value]
  obtain ⟨word, apart, rest, same, regs⟩ := swapped_leaves (s := s) (c := i.c) (a := ((s.core i.c).regs.sv i.rs1).toNat) (v := x.2)
  have len : i.c.val < (swapped s i.c ((s.core i.c).regs.sv i.rs1).toNat x.2).frw.core.length := by rw [(swapped_quiet).core]; exact takes.1
  refine ⟨core_setCore_same len, fun c other => ?_, word, apart, ?_, same, regs⟩
  · rw [core_setCore_other (fun h => other (Fin.ext h.symm)), State.core, (swapped_quiet).core]
    rfl
  · rw [rest]
    rfl
end

section
/-! PROOFS. Reading registers after a chain of updates: what a record update, a field, a pair and an event leave of a
register, a field, a flag and a pair; and the frame that a chain of updates keeps. The side conditions speak of addresses
and bit ranges alone, so `decide` settles them. -/

namespace Sys2Proof.Machine

/-! ## Outcomes -/

/-- The command's outcome under another name. -/
theorem Gives.of_eq {c : Instr} {s t u : State} {P : State → Prop} (h : exec c s = .next t) (e : t = u) (p : P u) : Gives c s P :=
  ⟨u, e ▸ h, p⟩

section

variable {s t : State} {as : List Nat}

/-! ## A frame, read by read -/

theorem RegsKept.get {f : Fld} (h : RegsKept s t as) (m : f.addr ∉ as) : t.get f = s.get f := get_of_rd (h _ m)

theorem RegsKept.flag {f : Fld} (h : RegsKept s t as) (m : f.addr ∉ as) : t.flag f = s.flag f := flag_of_rd (h _ m)

theorem RegsKept.pair {a : Nat} (h : RegsKept s t as) (m : a ∉ as) (n : a + 4 ∉ as) : t.pair a = s.pair a := pair_of_rd (h _ m) (h _ n)

theorem RegsKept.bitOf {f : Fld} {i : Nat} (h : RegsKept s t as) (m : f.addr ∉ as) : t.bitOf f i = s.bitOf f i := by
  unfold State.bitOf; rw [h.get m]

theorem RegsKept.getI {f : Fld} (h : RegsKept s t as) (m : f.addr ∉ as) : t.getI f = s.getI f := by
  unfold State.getI; rw [h.get m]

theorem regsKept_congr {u : State} (h : RegsKept t u as) : RegsKept s u as ↔ RegsKept s t as :=
  ⟨fun k a m => (h a m).symm.trans (k a m), fun k a m => (h a m).trans (k a m)⟩

end

/-! ## A record update of another part -/

section

variable (s : State) (pending : List Instr) (clk : ClkSt) (pwr : PwrSt) (hsp : HspSt) (time : TimeSt) (int : IntSt) (mic : MicSt)
  (flt : FltSt) (lsn : LsnSt) (drl : DrlSt) (swa : SwaSt) (que : QueSt) (hg : HgSt) (frw : FrwSt) (adc : AdcSt) (mon : MonSt)
  (saf : SafSt) (nvm : NvmSt) (jtag free : Nat)

@[simp] theorem rd_with (a : Nat) : (State.mk pending s.regs clk pwr hsp time int mic flt lsn drl swa que hg frw adc mon saf nvm jtag free).rd a = s.rd a := rfl

@[simp] theorem get_with (f : Fld) : (State.mk pending s.regs clk pwr hsp time int mic flt lsn drl swa que hg frw adc mon saf nvm jtag free).get f = s.get f := rfl

@[simp] theorem flag_with (f : Fld) : (State.mk pending s.regs clk pwr hsp time int mic flt lsn drl swa que hg frw adc mon saf nvm jtag free).flag f = s.flag f := rfl

@[simp] theorem pair_with (a : Nat) : (State.mk pending s.regs clk pwr hsp time int mic flt lsn drl swa que hg frw adc mon saf nvm jtag free).pair a = s.pair a := rfl

@[simp] theorem bitOf_with (f : Fld) (i : Nat) : (State.mk pending s.regs clk pwr hsp time int mic flt lsn drl swa que hg frw adc mon saf nvm jtag free).bitOf f i = s.bitOf f i := rfl

@[simp] theorem getI_with (f : Fld) : (State.mk pending s.regs clk pwr hsp time int mic flt lsn drl swa que hg frw adc mon saf nvm jtag free).getI f = s.getI f := rfl

@[simp] theorem edgeTaken_with {n : Nat} {t : State} : EdgeTaken t (State.mk pending s.regs clk pwr hsp time int mic flt lsn drl swa que hg frw adc mon saf nvm jtag free) n ↔ EdgeTaken t s n := Iff.rfl

@[simp] theorem pstate_with : (State.mk pending s.regs clk pwr hsp time int mic flt lsn drl swa que hg frw adc mon saf nvm jtag free).pstate = s.pstate := rfl

@[simp] theorem awake_with : (State.mk pending s.regs clk pwr hsp time int mic flt lsn drl swa que hg frw adc mon saf nvm jtag free).awake = s.awake := rfl

@[simp] theorem regsKept_with {as : List Nat} {t : State} : RegsKept t (State.mk pending s.regs clk pwr hsp time int mic flt lsn drl swa que hg frw adc mon saf nvm jtag free) as ↔ RegsKept t s as := Iff.rfl

end

/-! ## A field that is put -/

section

variable (s : State) {f g : Fld}

@[simp] theorem get_put_val {v : Nat} (h : f.lo + f.width ≤ 32) (small : v < 2 ^ f.width) : (s.put f v).get f = v := by
  rw [get_put_same _ _ _ h, Nat.mod_eq_of_lt small]

@[simp] theorem rd_put_apart {v a : Nat} (d : f.addr ≠ a) : (s.put f v).rd a = s.rd a := rd_put_other _ _ _ _ d

@[simp] theorem rd_mark_apart {b : Bool} {a : Nat} (d : f.addr ≠ a) : (s.mark f b).rd a = s.rd a := rd_mark_other _ _ _ _ d

@[simp] theorem bitOf_put_apart {v i : Nat} (h : f.lo + f.width ≤ 32) (d : f.addr ≠ g.addr ∨ g.lo + g.width ≤ f.lo ∨ f.lo + f.width ≤ g.lo) :
    (s.put f v).bitOf g i = s.bitOf g i := by unfold State.bitOf; rw [get_put_apart _ _ _ _ h d]

@[simp] theorem bitOf_mark_apart {b : Bool} {i : Nat} (h : f.lo + f.width ≤ 32) (d : f.addr ≠ g.addr ∨ g.lo + g.width ≤ f.lo ∨ f.lo + f.width ≤ g.lo) :
    (s.mark f b).bitOf g i = s.bitOf g i := bitOf_put_apart s h d

@[simp] theorem getI_put_apart {v : Nat} (h : f.lo + f.width ≤ 32) (d : f.addr ≠ g.addr ∨ g.lo + g.width ≤ f.lo ∨ f.lo + f.width ≤ g.lo) :
    (s.put f v).getI g = s.getI g := by unfold State.getI; rw [get_put_apart _ _ _ _ h d]

@[simp] theorem getI_mark_apart {b : Bool} (h : f.lo + f.width ≤ 32) (d : f.addr ≠ g.addr ∨ g.lo + g.width ≤ f.lo ∨ f.lo + f.width ≤ g.lo) :
    (s.mark f b).getI g = s.getI g := getI_put_apart s h d

@[simp] theorem pair_put_apart {v a : Nat} (d : f.addr ≠ a ∧ f.addr ≠ a + 4) : (s.put f v).pair a = s.pair a :=
  pair_of_rd (rd_put_apart s d.1) (rd_put_apart s d.2)

@[simp] theorem pair_mark_apart {b : Bool} {a : Nat} (d : f.addr ≠ a ∧ f.addr ≠ a + 4) : (s.mark f b).pair a = s.pair a := pair_put_apart s d

theorem bit_setBit {x i j w : Nat} {b : Bool} (within : j < w) : bit (setBit x i b % 2 ^ w) j = if j = i then b else bit x j := by
  unfold setBit
  rw [bit_eq_testBit, Nat.testBit_mod_two_pow, testBit_setBits, bit_eq_testBit]
  by_cases e : j = i
  · subst e
    cases b <;> simp [within]
  · rw [if_neg e, if_neg (by omega)]
    simp [within]

@[simp] theorem bitOf_putBit_same {i : Nat} {b : Bool} (h : f.lo + f.width ≤ 32) (within : i < f.width) : (s.putBit f i b).bitOf f i = b := by
  unfold State.bitOf State.putBit
  rw [get_put_same _ _ _ h]
  rw [bit_setBit within, if_pos rfl]

@[simp] theorem bitOf_putBit_other {i j : Nat} {b : Bool} (h : f.lo + f.width ≤ 32) (within : j < f.width) (ne : j ≠ i) :
    (s.putBit f i b).bitOf f j = s.bitOf f j := by
  unfold State.bitOf State.putBit
  rw [get_put_same _ _ _ h]
  rw [bit_setBit within, if_neg ne]

end

/-! ## A pair that is set or counted -/

section

variable (s : State) {f : Fld} {lo n a : Nat}

@[simp] theorem rd_bump64_apart (d : a ∉ pairRegs lo) : (s.bump64 lo n).rd a = s.rd a := bump64_kept s lo n a d

@[simp] theorem get_bump64_apart (d : f.addr ∉ pairRegs lo) : (s.bump64 lo n).get f = s.get f := (bump64_kept s lo n).get d

@[simp] theorem flag_bump64_apart (d : f.addr ∉ pairRegs lo) : (s.bump64 lo n).flag f = s.flag f := (bump64_kept s lo n).flag d

@[simp] theorem bitOf_bump64_apart {i : Nat} (d : f.addr ∉ pairRegs lo) : (s.bump64 lo n).bitOf f i = s.bitOf f i := (bump64_kept s lo n).bitOf d

@[simp] theorem getI_bump64_apart (d : f.addr ∉ pairRegs lo) : (s.bump64 lo n).getI f = s.getI f := (bump64_kept s lo n).getI d

@[simp] theorem pair_bump64_apart (d : a ∉ pairRegs lo ∧ a + 4 ∉ pairRegs lo) : (s.bump64 lo n).pair a = s.pair a := (bump64_kept s lo n).pair d.1 d.2

@[simp] theorem rd_setPair_apart (d : a ∉ pairRegs lo) : (s.setPair lo n).rd a = s.rd a := setPair_kept s lo n a d

@[simp] theorem get_setPair_apart (d : f.addr ∉ pairRegs lo) : (s.setPair lo n).get f = s.get f := (setPair_kept s lo n).get d

@[simp] theorem flag_setPair_apart (d : f.addr ∉ pairRegs lo) : (s.setPair lo n).flag f = s.flag f := (setPair_kept s lo n).flag d

@[simp] theorem pair_setPair_apart (d : a ∉ pairRegs lo ∧ a + 4 ∉ pairRegs lo) : (s.setPair lo n).pair a = s.pair a := (setPair_kept s lo n).pair d.1 d.2

end

/-! ## An event of an interrupt source -/

section

variable (s : State) {f : Fld} {n a : Nat}

@[simp] theorem flag_event_pending : (s.event n).flag (F.INT_SRCs_PEND n) = true := (event_taken s n).1

@[simp] theorem flag_edge_pending : (s.edge n).flag (F.INT_SRCs_PEND n) = true := (edge_taken s n).1

@[simp] theorem pair_event_edges : (s.event n).pair (A.INT_Gg_EDGE_LO (n / 8)) = (s.pair (A.INT_Gg_EDGE_LO (n / 8)) + 1) % 2 ^ 64 :=
  (event_taken s n).2

@[simp] theorem rd_event_apart (d : a ∉ sourceRegs n) : (s.event n).rd a = s.rd a := event_kept s n a d

@[simp] theorem get_event_apart (d : f.addr ∉ sourceRegs n) : (s.event n).get f = s.get f := (event_kept s n).get d

@[simp] theorem flag_event_apart (d : f.addr ∉ sourceRegs n) : (s.event n).flag f = s.flag f := (event_kept s n).flag d

@[simp] theorem bitOf_event_apart {i : Nat} (d : f.addr ∉ sourceRegs n) : (s.event n).bitOf f i = s.bitOf f i := (event_kept s n).bitOf d

@[simp] theorem getI_event_apart (d : f.addr ∉ sourceRegs n) : (s.event n).getI f = s.getI f := (event_kept s n).getI d

@[simp] theorem pair_event_apart (d : a ∉ sourceRegs n ∧ a + 4 ∉ sourceRegs n) : (s.event n).pair a = s.pair a := (event_kept s n).pair d.1 d.2

@[simp] theorem rd_edge_apart (d : a ∉ sourceRegs n) : (s.edge n).rd a = s.rd a := edge_kept s n a d

@[simp] theorem get_edge_apart (d : f.addr ∉ sourceRegs n) : (s.edge n).get f = s.get f := (edge_kept s n).get d

@[simp] theorem flag_edge_apart (d : f.addr ∉ sourceRegs n) : (s.edge n).flag f = s.flag f := (edge_kept s n).flag d

@[simp] theorem pair_edge_apart (d : a ∉ sourceRegs n ∧ a + 4 ∉ sourceRegs n) : (s.edge n).pair a = s.pair a := (edge_kept s n).pair d.1 d.2

@[simp] theorem flag_event_live : (s.event n).flag (F.INT_SRCs_LIVE n) = true := by
  have apart : (F.INT_SRCs_LIVE n).addr ∉ pairRegs (A.INT_Gg_EDGE_LO (n / 8)) ∧ (F.INT_SRCs_LIVE n).addr ∉ pairRegs (A.INT_Gg_COAL_LO (n / 8)) := by
    simp [A.INT_SRCs, A.INT_Gg_EDGE_LO, A.INT_Gg_COAL_LO]; omega
  unfold State.event State.edge
  dsimp only
  split
  · rw [flag_bump64_apart _ apart.2, flag_bump64_apart _ apart.1, flag_mark_same _ _ _ (by simp) rfl]
  · rw [flag_mark_apart _ _ _ _ (by simp) (by simp), flag_bump64_apart _ apart.1, flag_mark_same _ _ _ (by simp) rfl]

end

/-! ## An edge that has been taken -/

section

variable {s t : State} {n : Nat} {f : Fld}

theorem pair_lt (a : Nat) : s.pair a < 2 ^ 64 := by
  have := (s.rd a).isLt
  have := (s.rd (a + 4)).isLt
  unfold State.pair
  omega

@[simp] theorem edgeTaken_event : EdgeTaken s (t.event n) n ↔ t.pair (A.INT_Gg_EDGE_LO (n / 8)) = s.pair (A.INT_Gg_EDGE_LO (n / 8)) := by
  have hs := pair_lt (s := s) (A.INT_Gg_EDGE_LO (n / 8))
  have ht := pair_lt (s := t) (A.INT_Gg_EDGE_LO (n / 8))
  rw [EdgeTaken, pair_event_edges]
  simp only [flag_event_pending, true_and]
  omega

/-- An update that leaves a source's word and its group's count of edges leaves its edge. -/
theorem EdgeTaken.kept {u : State} {as : List Nat} (h : RegsKept t u as) (word : A.INT_SRCs n ∉ as) (low : A.INT_Gg_EDGE_LO (n / 8) ∉ as)
    (high : A.INT_Gg_EDGE_LO (n / 8) + 4 ∉ as) : EdgeTaken s u n ↔ EdgeTaken s t n := by
  unfold EdgeTaken
  rw [h.flag (f := F.INT_SRCs_PEND n) word, h.pair low high]

@[simp] theorem edgeTaken_put {v : Nat} (d : A.INT_SRCs n ∉ [f.addr] ∧ A.INT_Gg_EDGE_LO (n / 8) ∉ [f.addr] ∧ A.INT_Gg_EDGE_LO (n / 8) + 4 ∉ [f.addr]) :
    EdgeTaken s (t.put f v) n ↔ EdgeTaken s t n := EdgeTaken.kept (put_kept t f v) d.1 d.2.1 d.2.2

@[simp] theorem edgeTaken_mark {b : Bool} (d : A.INT_SRCs n ∉ [f.addr] ∧ A.INT_Gg_EDGE_LO (n / 8) ∉ [f.addr] ∧ A.INT_Gg_EDGE_LO (n / 8) + 4 ∉ [f.addr]) :
    EdgeTaken s (t.mark f b) n ↔ EdgeTaken s t n := edgeTaken_put d

@[simp] theorem edgeTaken_event_other {m : Nat} (d : A.INT_SRCs n ∉ sourceRegs m ∧ A.INT_Gg_EDGE_LO (n / 8) ∉ sourceRegs m ∧
    A.INT_Gg_EDGE_LO (n / 8) + 4 ∉ sourceRegs m) : EdgeTaken s (t.event m) n ↔ EdgeTaken s t n := EdgeTaken.kept (event_kept t m) d.1 d.2.1 d.2.2

@[simp] theorem edgeTaken_bump64 {m lo : Nat} (d : A.INT_SRCs n ∉ pairRegs lo ∧ A.INT_Gg_EDGE_LO (n / 8) ∉ pairRegs lo ∧
    A.INT_Gg_EDGE_LO (n / 8) + 4 ∉ pairRegs lo) : EdgeTaken s (t.bump64 lo m) n ↔ EdgeTaken s t n := EdgeTaken.kept (bump64_kept t lo m) d.1 d.2.1 d.2.2

end

/-! ## The state in force after an update of another register -/

section

variable {s t : State} {as : List Nat}

theorem RegsKept.pstate (h : RegsKept s t as) (m : A.PWR_STATE ∉ as) : t.pstate = s.pstate := h.get (f := F.PWR_STATE_STATE) m

theorem RegsKept.awake (h : RegsKept s t as) (m : A.PWR_STATE ∉ as) : t.awake = s.awake := by
  unfold State.awake; rw [h.pstate m]

end

section

variable (s : State) {f : Fld} {n lo : Nat}

theorem pstate_wr_apart {a : Nat} {v : Word} (m : A.PWR_STATE ∉ [a]) : (s.wr a v).pstate = s.pstate := (wr_kept s a v).pstate m

@[simp] theorem pstate_put_apart {v : Nat} (m : A.PWR_STATE ∉ [f.addr]) : (s.put f v).pstate = s.pstate := (put_kept s f v).pstate m

@[simp] theorem pstate_mark_apart {b : Bool} (m : A.PWR_STATE ∉ [f.addr]) : (s.mark f b).pstate = s.pstate := (mark_kept s f b).pstate m

@[simp] theorem pstate_event_apart (m : A.PWR_STATE ∉ sourceRegs n) : (s.event n).pstate = s.pstate := (event_kept s n).pstate m

@[simp] theorem pstate_bump64_apart (m : A.PWR_STATE ∉ pairRegs lo) : (s.bump64 lo n).pstate = s.pstate := (bump64_kept s lo n).pstate m

@[simp] theorem awake_put_apart {v : Nat} (m : A.PWR_STATE ∉ [f.addr]) : (s.put f v).awake = s.awake := (put_kept s f v).awake m

@[simp] theorem awake_mark_apart {b : Bool} (m : A.PWR_STATE ∉ [f.addr]) : (s.mark f b).awake = s.awake := (mark_kept s f b).awake m

@[simp] theorem awake_event_apart (m : A.PWR_STATE ∉ sourceRegs n) : (s.event n).awake = s.awake := (event_kept s n).awake m

@[simp] theorem awake_bump64_apart (m : A.PWR_STATE ∉ pairRegs lo) : (s.bump64 lo n).awake = s.awake := (bump64_kept s lo n).awake m

end

theorem not_sentry_of_awake {s : State} (h : s.awake = true) : s.pstate ≠ SENTRY := by
  intro e
  simp [State.awake, e] at h

theorem not_off_of_awake {s : State} (h : s.awake = true) : s.pstate ≠ OFF := by
  intro e
  simp [State.awake, e] at h

/-! ## Frames of a chain of updates -/

section

variable {s t : State} {as : List Nat} {f : Fld} {n lo : Nat}

@[simp] theorem regsKept_self : RegsKept s s as := RegsKept.refl s as

@[simp] theorem regsKept_put {v : Nat} (m : f.addr ∈ as) : RegsKept s (t.put f v) as ↔ RegsKept s t as :=
  regsKept_congr ((put_kept t f v).mono fun a h => by rwa [List.mem_singleton.mp h])

@[simp] theorem regsKept_mark {b : Bool} (m : f.addr ∈ as) : RegsKept s (t.mark f b) as ↔ RegsKept s t as := regsKept_put m

@[simp] theorem regsKept_wr {a : Nat} {v : Word} (m : a ∈ as) : RegsKept s (t.wr a v) as ↔ RegsKept s t as :=
  regsKept_congr ((wr_kept t a v).mono fun b h => by rwa [List.mem_singleton.mp h])

@[simp] theorem regsKept_bump64 (m : ∀ a ∈ pairRegs lo, a ∈ as) : RegsKept s (t.bump64 lo n) as ↔ RegsKept s t as :=
  regsKept_congr ((bump64_kept t lo n).mono m)

@[simp] theorem regsKept_setPair (m : ∀ a ∈ pairRegs lo, a ∈ as) : RegsKept s (t.setPair lo n) as ↔ RegsKept s t as :=
  regsKept_congr ((setPair_kept t lo n).mono m)

@[simp] theorem regsKept_event (m : ∀ a ∈ sourceRegs n, a ∈ as) : RegsKept s (t.event n) as ↔ RegsKept s t as :=
  regsKept_congr ((event_kept t n).mono m)

@[simp] theorem regsKept_edge (m : ∀ a ∈ sourceRegs n, a ∈ as) : RegsKept s (t.edge n) as ↔ RegsKept s t as :=
  regsKept_congr ((edge_kept t n).mono m)

/-! ## What stands beside the register file -/

/-- A state is another one with its registers when their parts agree. -/
theorem eq_with_regs (t : State) {pending : List Instr} {clk : ClkSt} {pwr : PwrSt} {hsp : HspSt} {time : TimeSt} {int : IntSt} {mic : MicSt}
    {flt : FltSt} {lsn : LsnSt} {drl : DrlSt} {swa : SwaSt} {que : QueSt} {hg : HgSt} {frw : FrwSt} {adc : AdcSt} {mon : MonSt}
    {saf : SafSt} {nvm : NvmSt} {jtag free : Nat} :
    t = State.mk pending t.regs clk pwr hsp time int mic flt lsn drl swa que hg frw adc mon saf nvm jtag free ↔
      t.pending = pending ∧ t.clk = clk ∧ t.pwr = pwr ∧ t.hsp = hsp ∧ t.time = time ∧ t.int = int ∧ t.mic = mic ∧ t.flt = flt ∧
        t.lsn = lsn ∧ t.drl = drl ∧ t.swa = swa ∧ t.que = que ∧ t.hg = hg ∧ t.frw = frw ∧ t.adc = adc ∧ t.mon = mon ∧ t.saf = saf ∧
        t.nvm = nvm ∧ t.jtag = jtag ∧ t.free = free := by
  cases t
  simp


@[simp] theorem onlyRegs_self : OnlyRegs s s := rfl

theorem OnlyRegs.congr {u : State} (h : OnlyRegs t u) : OnlyRegs s u ↔ OnlyRegs s t := by
  unfold OnlyRegs at *
  constructor
  · intro k
    rw [h] at k
    cases s; cases t; cases u
    simp_all
  · intro k
    rw [k] at h
    exact h

@[simp] theorem onlyRegs_put {v : Nat} : OnlyRegs s (t.put f v) ↔ OnlyRegs s t := OnlyRegs.congr rfl

@[simp] theorem onlyRegs_mark {b : Bool} : OnlyRegs s (t.mark f b) ↔ OnlyRegs s t := OnlyRegs.congr rfl

@[simp] theorem onlyRegs_wr {a : Nat} {v : Word} : OnlyRegs s (t.wr a v) ↔ OnlyRegs s t := OnlyRegs.congr rfl

@[simp] theorem onlyRegs_bump64 : OnlyRegs s (t.bump64 lo n) ↔ OnlyRegs s t := OnlyRegs.congr rfl

@[simp] theorem onlyRegs_setPair : OnlyRegs s (t.setPair lo n) ↔ OnlyRegs s t := OnlyRegs.congr rfl

@[simp] theorem onlyRegs_edge : OnlyRegs s (t.edge n) ↔ OnlyRegs s t := OnlyRegs.congr (by
  unfold State.edge
  dsimp only
  split <;> rfl)

@[simp] theorem onlyRegs_event : OnlyRegs s (t.event n) ↔ OnlyRegs s t := (onlyRegs_edge (t := t.mark _ _)).trans onlyRegs_mark

@[simp] theorem onlyRegs_incSat : OnlyRegs s (t.incSat f) ↔ OnlyRegs s t := OnlyRegs.congr (by unfold State.incSat; split <;> rfl)

end

end Sys2Proof.Machine
end

section
/-! PROOFS. Enrolment (O22). -/

namespace Sys2Proof.Machine

section

variable {s : State} {k i c : Nat}

/-! ## The outcomes of the rows -/

/-- The registers of START name the enrolment, whatever becomes of it. -/
def enrNamed (s : State) (k i c : Nat) : State := ((s.put F.DRL_ENR_CTL_SLOT k).put F.DRL_ENR_CTL_IN i).put F.DRL_ENR_CTL_COUNT c

@[simp] theorem enrNamed_drl : (enrNamed s k i c).drl = s.drl := rfl

@[simp] theorem enrNamed_pstate : (enrNamed s k i c).pstate = s.pstate := by
  simp (disch := decide) [enrNamed]

theorem slotBusy_enrNamed {n : Nat} (small : n < 64) : slotBusy (enrNamed s k i c) n = slotBusy s n := by
  have apart : (F.DRL_SLOTs_ST_STATE n).addr ≠ A.DRL_ENR_CTL := by
    simp [A.DRL_SLOTs_ST, A.DRL_ENR_CTL]; omega
  have same : slotState (enrNamed s k i c) n = slotState s n := by
    simp only [slotState, enrNamed]
    rw [get_put_apart _ _ _ _ (by decide) (.inl apart.symm), get_put_apart _ _ _ _ (by decide) (.inl apart.symm), get_put_apart _ _ _ _ (by decide) (.inl apart.symm)]
  simp only [slotBusy, same]

theorem enrStart_eq : enrStart s k i c =
    if s.drl.enr.isSome ∧ s.pstate ≠ SENTRY then ((enrNamed s k i c).put F.DRL_ENR_ST_ERR 5).event 45
    else if (s.pstate ≠ WATCH ∧ s.pstate ≠ SERVICE) ∨ slotBusy (enrNamed s k i c) k ∨ c < 5 ∨ 20 < c then enrRefuse (enrNamed s k i c)
    else ((({ enrNamed s k i c with drl := { s.drl with enr := some ⟨i, k, c, [], .none, 0, false⟩ } } : State).put F.DRL_ENR_ST_STATE 1).put
      F.DRL_ENR_ST_CAPT 0).put F.DRL_ENR_ST_ERR 0 := by
  have state : (((s.put F.DRL_ENR_CTL_SLOT k).put F.DRL_ENR_CTL_IN i).put F.DRL_ENR_CTL_COUNT c).pstate = s.pstate := enrNamed_pstate
  unfold enrStart
  dsimp only
  rw [state]
  rfl

theorem enrStart_begins (state : s.pstate = WATCH ∨ s.pstate = SERVICE) (none : s.drl.enr = none) (small : k < 64)
    (idle : slotBusy s k = false) (low : 5 ≤ c) (high : c ≤ 20) : enrStart s k i c =
      ((({ enrNamed s k i c with drl := { s.drl with enr := some ⟨i, k, c, [], .none, 0, false⟩ } } : State).put F.DRL_ENR_ST_STATE 1).put F.DRL_ENR_ST_CAPT 0).put
        F.DRL_ENR_ST_ERR 0 := by
  rw [enrStart_eq, if_neg (by simp [none]), slotBusy_enrNamed small, idle, if_neg]
  rintro (⟨watch, service⟩ | busy | few | many)
  · exact state.elim watch service
  · exact absurd busy (by decide)
  · omega
  · omega

theorem enrStart_refused (none : s.drl.enr = none) (small : k < 64)
    (why : c < 5 ∨ 20 < c ∨ slotBusy s k = true ∨ (s.pstate ≠ WATCH ∧ s.pstate ≠ SERVICE)) :
    enrStart s k i c = enrRefuse (enrNamed s k i c) := by
  rw [enrStart_eq, if_neg (by simp [none]), slotBusy_enrNamed small, if_pos (by tauto)]

theorem enrEnd_ended {e : Nat} (some : s.drl.enr.isSome = true) :
    enrEnd s e = ((({ s with drl := { s.drl with enr := none } } : State).put F.DRL_ENR_ST_STATE 5).put F.DRL_ENR_ST_ERR e).event 45 := if_pos some

/-- What ABORT and the timeout leave. -/
theorem enrEnd_spec {e : Nat} (small : e < 16) (some : s.drl.enr.isSome = true) :
    enrEnd s e = { s with regs := (enrEnd s e).regs, drl := { s.drl with enr := none } } ∧ (enrEnd s e).get F.DRL_ENR_ST_STATE = 5 ∧
      (enrEnd s e).get F.DRL_ENR_ST_ERR = e ∧ EdgeTaken s (enrEnd s e) 45 ∧ RegsKept s (enrEnd s e) (A.DRL_ENR_ST :: sourceRegs 45) := by
  have width : e < 2 ^ F.DRL_ENR_ST_ERR.width := small
  rw [enrEnd_ended some, eq_with_regs]
  simp (disch := first | assumption | decide)

/-- The build writes the template's registers over a state whose enrolment has ended. -/
theorem enrolmentBuild_built {e : EnrolSt} (some : s.drl.enr = some e) (full : e.segs.length = e.count) (building : s.get F.DRL_ENR_ST_STATE = 3) :
    ∃ (u : State) (m : Nat), exec .enrolmentBuild s = .next ((((({ u with drl := { u.drl with enr := none } } : State).put F.DRL_ENR_RES_MINSCORE m).put
      F.DRL_ENR_RES_LEN (enrolTemplate e.segs).length).put F.DRL_ENR_ST_STATE 4).event 45) := by
  simp only [exec, execEnrolmentBuild, some]
  exact ⟨_, _, if_pos ⟨full, building⟩⟩

end

end Sys2Proof.Machine

open Sys2Proof Sys2Proof.Machine

/-- Settles O22: the outcome of each row is a chain of updates over START's registers, or none at all. -/
theorem enrolmentRows : Obligations.EnrolmentRows := by
  intro s
  refine ⟨?_, ?_, ?_, ?_, ?_, ?_, ?_, ?_, ?_, ?_, ?_, ?_⟩
  · intro k i c state none free low high
    refine Gives.of_eq rfl (if_pos (by rcases state with h | h <;> simp [State.awake, h] <;> decide)) ?_
    rw [enrStart_begins state none k.isLt free low high, enrNamed]
    dsimp only
    rw [eq_with_regs]
    simp (disch := (clear * -; decide))
  · intro k i c awake none why
    refine Gives.of_eq rfl (if_pos awake) ?_
    rw [enrStart_refused none k.isLt why, enrNamed, enrRefuse]
    simp (disch := (clear * -; decide))
  · intro k i c awake some
    refine Gives.of_eq rfl (if_pos awake) ?_
    rw [enrStart_eq, if_pos ⟨some, not_sentry_of_awake awake⟩, enrNamed]
    simp (disch := (clear * -; decide))
  · intro k i c sentry
    refine Gives.of_eq rfl ((if_neg (by simp [State.awake, sentry])).trans (if_pos sentry)) ?_
    rw [enrRefuse]
    simp (disch := (clear * -; decide))
  · intro k i c off
    exact Gives.of_eq rfl ((if_neg (by simp [State.awake, off])).trans (if_neg (by rw [off]; decide))) rfl
  · exact fun some => Gives.of_next rfl (enrEnd_spec (by decide) some)
  · exact fun none => Gives.of_eq rfl (if_neg (by simp [none])) rfl
  · exact fun clock some listening => Gives.of_eq rfl (if_pos ⟨listening, clock⟩) (enrEnd_spec (by decide) some)
  · rintro (clock | none | other)
    · exact Gives.of_eq rfl (if_neg (by simp [clock])) rfl
    · refine Gives.of_next rfl ?_
      simp [enrEnd, none]
    · exact Gives.of_eq rfl (if_neg (fun h => other h.1)) rfl
  · intro e some full building
    obtain ⟨u, m, built⟩ := enrolmentBuild_built some full building
    refine Gives.of_next built ?_
    simp (disch := (clear * -; decide)) [get_put_same]
  · intro e some why
    refine ⟨s, ?_, rfl⟩
    simp only [exec, execEnrolmentBuild, some]
    rw [if_neg (by tauto)]
  · intro none
    refine ⟨s, ?_, rfl⟩
    simp only [exec, execEnrolmentBuild, none]
end

section
/-! PROOFS. Registers that stand through an operation of the swath: what the mitten leaves alone; then the wake rows (O20). -/

namespace Sys2Proof.Machine

/-! ## The registers of a set stand -/

/-- Every register of the set reads as before. -/
def Stands (p : Nat → Prop) (s t : State) : Prop := ∀ a, p a → t.rd a = s.rd a

namespace Stands

variable {p : Nat → Prop} {s t u : State}

protected theorem rfl : Stands p s s := fun _ _ => Eq.refl _

theorem trans (h : Stands p s t) (k : Stands p t u) : Stands p s u := fun a m => (k a m).trans (h a m)

/-- An update of another part. -/
theorem parts (h : Stands p s t) (e : u.regs = t.regs) : Stands p s u := fun a m => by
  rw [← h a m, State.rd, State.rd, e]

theorem put {f : Fld} {v : Nat} (m : ¬ p f.addr) : Stands p s (s.put f v) := fun _ h => rd_put_other _ _ _ _ fun e => m (e ▸ h)

theorem mark {f : Fld} {b : Bool} (m : ¬ p f.addr) : Stands p s (s.mark f b) := put m

theorem of_kept {as : List Nat} (h : RegsKept s t as) (m : ∀ a, p a → a ∉ as) : Stands p s t := fun a k => h a (m a k)

theorem ite {c : Prop} [Decidable c] (h : Stands p s t) (k : Stands p s u) : Stands p s (if c then t else u) := by
  split
  · exact h
  · exact k

theorem forEach {α : Type} {l : List α} {f : State → α → State} (h : ∀ s, ∀ a ∈ l, Stands p s (f s a)) : Stands p s (forEach l f s) := by
  unfold Machine.forEach
  induction l generalizing s with
  | nil => exact Stands.rfl
  | cons a l ih =>
    exact (h s a (List.mem_cons_self ..)).trans (ih fun s b m => h s b (List.mem_cons_of_mem _ m))

theorem get {f : Fld} (h : Stands p s t) (m : p f.addr) : t.get f = s.get f := get_of_rd (h _ m)

theorem flag {f : Fld} (h : Stands p s t) (m : p f.addr) : t.flag f = s.flag f := flag_of_rd (h _ m)

theorem pair {a : Nat} (h : Stands p s t) (m : p a) (n : p (a + 4)) : t.pair a = s.pair a := pair_of_rd (h _ m) (h _ n)

end Stands

/-! ## What the mitten leaves alone -/

/-- The registers outside the swath's block that its events of a wake do not change. -/
abbrev OutsideSwath (a : Nat) : Prop := (a < 0x070000 ∨ 0x080000 ≤ a) ∧ a ∉ sourceRegs 48 ∧ a ∉ sourceRegs 51

section

variable {s : State} {k m : Nat}

theorem swath_inside {a : Nat} (low : 0x070000 ≤ a) (high : a < 0x080000) : ¬ OutsideSwath a := fun h => by
  obtain ⟨out, -⟩ := h
  omega

theorem event48_stands : Stands OutsideSwath s (s.event 48) := .of_kept (event_kept s 48) fun _ h => h.2.1

theorem event51_stands : Stands OutsideSwath s (s.event 51) := .of_kept (event_kept s 51) fun _ h => h.2.2

theorem markWakeBlock_stands {p : Nat → Prop} {short : Bool} : Stands p s (markWakeBlock s m short) := by
  unfold markWakeBlock
  dsimp only
  split
  · split
    · split <;> exact Stands.rfl
    · exact Stands.rfl
  · refine Stands.trans (t := { s with swa := { s.swa with marks := s.swa.marks ++ [m] } }) Stands.rfl (Stands.forEach fun s k _ => ?_)
    split
    · split <;> exact Stands.rfl
    · exact Stands.rfl

theorem markWakeDone_stands {p : Nat → Prop} {short : Bool} : Stands p s (markWakeDone s m short) := by
  unfold markWakeDone
  dsimp only
  split
  · split
    · exact Stands.rfl
    · exact Stands.ite (Stands.rfl.parts rfl) Stands.rfl
  · refine Stands.forEach fun s k _ => ?_
    split
    · exact Stands.rfl
    · exact Stands.ite (Stands.rfl.parts rfl) Stands.rfl

theorem mittenTouch_stands : Stands OutsideSwath s (mittenTouch s) :=
  (Stands.put (f := F.SWA_MITTEN_IDLE) (swath_inside (by decide) (by decide))).parts rfl

theorem stripCounts_stands (strip : k < 8) : Stands OutsideSwath s (stripCounts s k) := by
  have pend : Stands OutsideSwath s (s.put (F.SWA_STs_PEND_FRAMES k) (stripPend s k)) :=
    Stands.put (swath_inside (by simp only [A.SWA_STs_PEND]; omega) (by simp only [A.SWA_STs_PEND]; omega))
  have lag : ∀ (t : State) v, Stands OutsideSwath t (t.put (F.SWA_STs_LAG_FRAMES k) v) := fun t v =>
    Stands.put (swath_inside (by simp only [A.SWA_STs_LAG]; omega) (by simp only [A.SWA_STs_LAG]; omega))
  unfold stripCounts
  extract_lets s1 l ring s2
  have h2 : Stands OutsideSwath s s2 := pend.trans (lag _ _)
  have h1 : Stands OutsideSwath s s1 := pend
  clear_value s1 s2
  refine Stands.ite (Stands.ite (Stands.ite h2 ?_) (Stands.ite (h2.parts rfl) h2)) h1
  exact (h2.parts (u := State.setStrip _ _ _) rfl).trans event51_stands

theorem unloadStart_stands (strip : k < 8) : Stands OutsideSwath s (unloadStart s k) := by
  have inside : ∀ a ∈ [A.SWA_STs_UPTR_LO k, A.SWA_STs_UPTR_LO k + 4, A.SWA_STs_UNL k], ¬ OutsideSwath a := by
    simp only [List.mem_cons, List.not_mem_nil, or_false, A.SWA_STs_UPTR_LO, A.SWA_STs_UNL]
    rintro a (rfl | rfl | rfl) <;> exact swath_inside (by omega) (by omega)
  unfold unloadStart
  extract_lets w u s1 s2 old s3
  have h1 : Stands OutsideSwath s s1 := .of_kept (setPair_kept s _ _) fun a h m => inside a (by
    simp only [List.mem_cons, List.not_mem_nil, or_false] at m ⊢
    tauto) h
  have h2 : Stands OutsideSwath s s2 := h1.trans (Stands.mark (inside _ (by simp)))
  have h3 : Stands OutsideSwath s s3 := h2.parts rfl
  exact h3.trans (stripCounts_stands strip)

theorem mem_upto {i n : Nat} (h : i ∈ upto n) : i < n := by simpa [upto] using h

theorem mittenWindow_stands : Stands OutsideSwath s (mittenWindow s m) := by
  have pairs : ∀ (t : State) lo v, 0x070000 ≤ lo → lo + 4 < 0x080000 → Stands OutsideSwath t (t.setPair lo v) := by
    refine fun t lo v low high => .of_kept (setPair_kept t lo v) fun a h mem => ?_
    simp only [List.mem_cons, List.not_mem_nil, or_false] at mem
    exact swath_inside (by omega) (by omega) h
  unfold mittenWindow
  refine Stands.ite ((pairs _ _ _ (by decide) (by decide)).trans (Stands.put (swath_inside (by decide) (by decide)))) ?_
  refine (pairs _ _ _ (by decide) (by decide)).trans (Stands.forEach fun t k h => ?_)
  have strip := mem_upto (List.mem_of_mem_filter h)
  exact Stands.put (swath_inside (by simp only [A.SWA_STs_AVAIL]; omega) (by simp only [A.SWA_STs_AVAIL]; omega))

theorem mittenOpening_stands : Stands OutsideSwath s (mittenOpening s m) := by
  unfold mittenOpening
  extract_lets s1 old s2 s3
  have h1 : Stands OutsideSwath s s1 := (mittenWindow_stands).trans (Stands.mark (swath_inside (by decide) (by decide)))
  have h2 : Stands OutsideSwath s s2 := h1.parts rfl
  have h3 : Stands OutsideSwath s s3 := h2.trans ((mittenTouch_stands).trans event48_stands)
  refine Stands.ite (h2.trans (((Stands.mark (swath_inside (by decide) (by decide))).trans mittenTouch_stands).trans event48_stands)) ?_
  exact h3.trans (Stands.forEach fun t k h => unloadStart_stands (mem_upto (List.mem_of_mem_filter h)))

theorem mittenWake_stands : Stands OutsideSwath s (mittenWake s m) := by
  unfold mittenWake
  extract_lets short old s1 s2
  have h1 : Stands OutsideSwath s s1 := Stands.rfl.parts rfl
  have h2 : Stands OutsideSwath s s2 := (h1.trans markWakeBlock_stands).trans markWakeDone_stands
  clear_value s1 s2
  refine Stands.ite ?_ (h2.trans mittenOpening_stands)
  split
  · exact h2.trans ((Stands.ite mittenWindow_stands Stands.rfl).trans mittenTouch_stands)
  · exact h2.trans mittenTouch_stands

/-- A broadcast changes no register. -/
theorem hgBroadcast_stands {p : Nat → Prop} {vc typ param : Nat} {body : List Nat} : Stands p s (hgBroadcast s vc typ param body) := by
  unfold hgBroadcast
  exact Stands.forEach fun t x _ => Stands.ite Stands.rfl Stands.rfl

/-- A broadcast joins the hand-offs, and that is all. -/
theorem hgBroadcast_only {vc typ param : Nat} {body : List Nat} : hgBroadcast s vc typ param body = { s with hg := (hgBroadcast s vc typ param body).hg } := by
  have one : ∀ (t : State) (x : Nat), (if hgHopmax t x = 0 then t else hgQueue t x vc ⟨typ, 7, t.devid, hgAuth t x vc, 0, hgHopmax t x, param, body, []⟩) =
      { t with hg := (if hgHopmax t x = 0 then t else hgQueue t x vc ⟨typ, 7, t.devid, hgAuth t x vc, 0, hgHopmax t x, param, body, []⟩).hg } := by
    intro t x
    split <;> rfl
  unfold hgBroadcast forEach
  generalize (upto 2).filter (hgUp s) = l
  induction l generalizing s with
  | nil => rfl
  | cons x l ih =>
    rw [List.foldl_cons, ih, one]

end

end Sys2Proof.Machine
end

section
/-! PROOFS. The wake rows (O20): the pin, the flags, and pre-wakes. -/

namespace Sys2Proof.Machine

section

variable {s : State} {src seed devp mark : Nat}

/-! ## The steps of a qualified wake -/

theorem standUndo_kept : RegsKept s (standUndo s) [A.LSN_CNT_x_LO 5, A.LSN_CNT_x_LO 5 + 4, A.LSN_CNT_x_LO 6, A.LSN_CNT_x_LO 6 + 4, A.INT_SRCs 37] := by
  have handoffs : ∀ (t : State) (f : State → Nat → HgPort), RegsKept t (forEach (upto 2) (fun s x => s.setHgp x (f s x)) t) [] := fun t f a _ =>
    Stands.forEach (p := fun _ => True) (s := t) (l := upto 2) (f := fun s x => s.setHgp x (f s x)) (fun _ _ _ => Stands.rfl.parts rfl) a trivial
  unfold standUndo
  split
  · split
    · rw [regsKept_with, regsKept_congr ((handoffs _ _).mono (by simp))]
      split <;> simp (disch := decide)
    · exact regsKept_self
  · exact regsKept_self

theorem preConfirm_kept : RegsKept s (preConfirm s) [A.LSN_WAKE, A.LSN_CNT_x_LO 6, A.LSN_CNT_x_LO 6 + 4] := by
  unfold preConfirm
  split <;> simp (disch := decide)

@[simp] theorem preConfirm_qual : (preConfirm s).flag F.LSN_WAKE_QUAL = s.flag F.LSN_WAKE_QUAL := by
  unfold preConfirm
  split <;> simp (disch := decide)

@[simp] theorem preConfirm_more : (preConfirm s).flag F.LSN_WAKE_MORE = s.flag F.LSN_WAKE_MORE := by
  unfold preConfirm
  split <;> simp (disch := decide)

@[simp] theorem preConfirm_src : (preConfirm s).get F.LSN_WAKE_SRC = s.get F.LSN_WAKE_SRC := by
  unfold preConfirm
  split <;> simp (disch := decide)

theorem wakeSend_stands {p : Nat → Prop} {body : List Nat} : Stands p s (wakeSend s src body) := by
  unfold wakeSend
  exact (Stands.ite hgBroadcast_stands Stands.rfl).parts rfl

theorem wakeSend_pinReady {body : List Nat} : (wakeSend s src body).lsn.pinReady = s.lsn.pinReady := by
  unfold wakeSend
  dsimp only
  split
  · exact congrArg LsnSt.pinReady ((hgBroadcast_keeps).lsn rfl)
  · rfl

/-- Without WAKE_GO a wake leaves SENTRY to the host. -/
theorem wakeGo_off (off : s.flag F.PWR_CFG_WAKE_GO = false) : wakeGo s = s := if_neg (by simp [off])

/-- A pre-wake that is stood down. -/
theorem standDown_eq (pre : s.flag F.LSN_WAKE_PRE = true) : ∃ h, standDown s =
    { ((s.mark F.LSN_WAKE_PRE false).bump64 (A.LSN_CNT_x_LO 5) 1).event 37 with lsn := { s.lsn with gap := true }, hg := h } ∧
      (s.flag F.LSN_CFG_WAKE_TX = false → h = s.hg) := by
  have gate : (((s.mark F.LSN_WAKE_PRE false).bump64 (A.LSN_CNT_x_LO 5) 1).event 37).flag F.LSN_CFG_WAKE_TX = s.flag F.LSN_CFG_WAKE_TX := by
    simp (disch := decide)
  have lsn : (((s.mark F.LSN_WAKE_PRE false).bump64 (A.LSN_CNT_x_LO 5) 1).event 37).lsn = s.lsn := by simp
  unfold standDown
  rw [if_pos pre]
  dsimp only
  rw [flag_with, gate, lsn]
  split
  · next tx =>
    rw [hgBroadcast_only]
    exact ⟨_, rfl, fun off => absurd tx (by simp [off])⟩
  · exact ⟨_, rfl, fun _ => by simp⟩

/-- The flags of a wake that qualifies. -/
def wakeFlagged (s : State) : State := preConfirm (standUndo (s.mark F.LSN_WAKE_QUAL true))

theorem wakeFlagged_kept : RegsKept s (wakeFlagged s)
    ([A.LSN_WAKE] ++ [A.LSN_CNT_x_LO 5, A.LSN_CNT_x_LO 5 + 4, A.LSN_CNT_x_LO 6, A.LSN_CNT_x_LO 6 + 4, A.INT_SRCs 37] ++
      [A.LSN_WAKE, A.LSN_CNT_x_LO 6, A.LSN_CNT_x_LO 6 + 4]) := ((mark_kept _ _ _).trans standUndo_kept).trans preConfirm_kept

theorem wakeFlagged_qual : (wakeFlagged s).flag F.LSN_WAKE_QUAL = true := by
  rw [wakeFlagged, preConfirm_qual, (standUndo_kept).flag (by decide), flag_mark_same _ _ _ (by decide) rfl]

theorem wakeFlagged_more : (wakeFlagged s).flag F.LSN_WAKE_MORE = s.flag F.LSN_WAKE_MORE := by
  rw [wakeFlagged, preConfirm_more, (standUndo_kept).flag (by decide), flag_mark_apart _ _ _ _ (by decide) (by decide)]

theorem wakeFlagged_src : (wakeFlagged s).get F.LSN_WAKE_SRC = s.get F.LSN_WAKE_SRC := by
  rw [wakeFlagged, preConfirm_src, (standUndo_kept).get (by decide), get_mark_apart _ _ _ _ (by decide) (by decide)]

theorem wakeFlagged_pinReady : (wakeFlagged s).lsn.pinReady = s.lsn.pinReady := by
  have undo : ∀ t : State, (standUndo t).lsn.pinReady = t.lsn.pinReady := by
    intro t
    have handoffs : ∀ (t : State) (f : State → Nat → HgPort), (forEach (upto 2) (fun s x => s.setHgp x (f s x)) t).lsn = t.lsn := fun t f =>
      forEach_keeps State.lsn _ _ _ fun _ _ => rfl
    unfold standUndo
    split
    · split
      · dsimp only
        rw [handoffs]
        split <;> rfl
      · rfl
    · rfl
  unfold wakeFlagged
  rw [(preConfirm_keeps).lsn rfl, undo]
  rfl

/-- What the rest of a wake's steps leaves of the registers outside the swath. -/
def wakeEnds (s : State) (src mark : Nat) : State := wakeGo (mittenWake ((s.bump64 (A.LSN_CNT_x_LO src) 1).event 35) mark)

theorem wakeEnds_eq (off : s.flag F.PWR_CFG_WAKE_GO = false) :
    wakeEnds s 2 mark = mittenWake ((s.bump64 (A.LSN_CNT_x_LO 2) 1).event 35) mark := by
  refine wakeGo_off ?_
  rw [(mittenWake_stands).flag (by decide)]
  simpa (disch := decide) using off

/-- After the events of a wake only registers of the swath change. -/
theorem wakeEnds_stands (off : s.flag F.PWR_CFG_WAKE_GO = false) :
    Stands OutsideSwath ((s.bump64 (A.LSN_CNT_x_LO 2) 1).event 35) (wakeEnds s 2 mark) := by
  rw [wakeEnds_eq off]
  exact mittenWake_stands

theorem wakeEnds_pinReady (off : s.flag F.PWR_CFG_WAKE_GO = false) : (wakeEnds s 2 mark).lsn.pinReady = s.lsn.pinReady := by
  rw [wakeEnds_eq off, (mittenWake_keeps).lsn rfl]
  simp

theorem qualifiedWake_first (now : wakeHolds s = false) (first : s.flag F.LSN_WAKE_QUAL = false) :
    qualifiedWake s src seed devp mark =
      wakeSend (wakeEnds ((wakeRecord (wakeFlagged s) src seed devp).setPair A.LSN_MARK_LO mark) src mark) src
        (wakeBody (wakeEnds ((wakeRecord (wakeFlagged s) src seed devp).setPair A.LSN_MARK_LO mark) src mark) mark) := by
  unfold qualifiedWake
  rw [if_neg (by simp [now])]
  simp only [first]
  rfl

theorem qualifiedWake_more (now : wakeHolds s = false) (again : s.flag F.LSN_WAKE_QUAL = true) (apart : wakeSame s = none) :
    ∃ body, qualifiedWake s src seed devp mark =
      (if src ≠ 3 ∧ (wakeEnds ((wakeFlagged s).mark F.LSN_WAKE_MORE true) src mark).flag F.LSN_CFG_WAKE_TX then
        hgBroadcast (wakeEnds ((wakeFlagged s).mark F.LSN_WAKE_MORE true) src mark) VC_CTRL T_WAKE src body
      else wakeEnds ((wakeFlagged s).mark F.LSN_WAKE_MORE true) src mark) := by
  unfold qualifiedWake
  rw [if_neg (by simp [now])]
  simp only [again, apart]
  exact ⟨_, rfl⟩

theorem wakeFlagged_off (off : s.flag F.PWR_CFG_WAKE_GO = false) : (wakeFlagged s).flag F.PWR_CFG_WAKE_GO = false :=
  ((wakeFlagged_kept).flag (by decide)).trans off

/-- A wake by the pin with none flagged is the flagged one. -/
theorem qualifiedWake_first_spec (now : wakeHolds s = false) (off : s.flag F.PWR_CFG_WAKE_GO = false) (first : s.flag F.LSN_WAKE_QUAL = false) :
    (qualifiedWake s 2 seed devp mark).flag F.LSN_WAKE_QUAL = true ∧ (qualifiedWake s 2 seed devp mark).get F.LSN_WAKE_SRC = 2 ∧
      (qualifiedWake s 2 seed devp mark).pair A.LSN_MARK_LO = mark % 2 ^ 64 ∧
      (qualifiedWake s 2 seed devp mark).lsn.pinReady = s.lsn.pinReady ∧
      (qualifiedWake s 2 seed devp mark).flag (F.INT_SRCs_PEND 35) = true ∧
      (qualifiedWake s 2 seed devp mark).flag F.LSN_WAKE_MORE = s.flag F.LSN_WAKE_MORE := by
  have go : (((wakeFlagged s).put F.LSN_WAKE_SRC 2).setPair A.LSN_MARK_LO mark).flag F.PWR_CFG_WAKE_GO = false := by
    simpa (disch := decide) using wakeFlagged_off off
  have stands := fun body => (wakeEnds_stands (mark := mark) go).trans (wakeSend_stands (src := 2) (body := body))
  rw [qualifiedWake_first now first, show wakeRecord (wakeFlagged s) 2 seed devp = (wakeFlagged s).put F.LSN_WAKE_SRC 2 from rfl]
  refine ⟨?_, ?_, ?_, ?_, ?_, ?_⟩
  · rw [(stands _).flag (by decide)]
    simp (disch := decide) [wakeFlagged_qual]
  · rw [(stands _).get (by decide)]
    simp (disch := decide)
  · rw [(stands _).pair (by decide) (by decide)]
    simp (disch := decide) [pair_setPair_same]
  · rw [wakeSend_pinReady, wakeEnds_pinReady go]
    exact wakeFlagged_pinReady
  · rw [(stands _).flag (by decide), flag_event_pending]
  · rw [(stands _).flag (by decide)]
    simp (disch := decide) [wakeFlagged_more]

/-- A wake by the pin with one flagged at another edge leaves the first one's record. -/
theorem qualifiedWake_more_spec (now : wakeHolds s = false) (off : s.flag F.PWR_CFG_WAKE_GO = false) (again : s.flag F.LSN_WAKE_QUAL = true)
    (apart : wakeSame s = none) :
    (qualifiedWake s 2 seed devp mark).flag F.LSN_WAKE_QUAL = true ∧ (qualifiedWake s 2 seed devp mark).flag F.LSN_WAKE_MORE = true ∧
      (qualifiedWake s 2 seed devp mark).get F.LSN_WAKE_SRC = s.get F.LSN_WAKE_SRC ∧
      (qualifiedWake s 2 seed devp mark).pair A.LSN_MARK_LO = s.pair A.LSN_MARK_LO ∧
      (qualifiedWake s 2 seed devp mark).lsn.pinReady = s.lsn.pinReady := by
  have go : ((wakeFlagged s).mark F.LSN_WAKE_MORE true).flag F.PWR_CFG_WAKE_GO = false := by
    simpa (disch := decide) using wakeFlagged_off off
  obtain ⟨body, sent⟩ := qualifiedWake_more (src := 2) (seed := seed) (devp := devp) (mark := mark) now again apart
  have stands : Stands OutsideSwath _ (qualifiedWake s 2 seed devp mark) :=
    (wakeEnds_stands (mark := mark) go).trans (sent ▸ Stands.ite hgBroadcast_stands Stands.rfl)
  refine ⟨?_, ?_, ?_, ?_, ?_⟩
  · rw [stands.flag (by decide)]
    simp (disch := decide) [wakeFlagged_qual]
  · rw [stands.flag (by decide)]
    simp (disch := decide) [flag_mark_same]
  · rw [stands.get (by decide)]
    simp (disch := decide) [wakeFlagged_src]
  · rw [stands.pair (by decide) (by decide)]
    simp (disch := decide) only [pair_event_apart, pair_bump64_apart, pair_mark_apart, (wakeFlagged_kept).pair, not_false_eq_true]
  · rw [sent, apply_ite State.lsn, (hgBroadcast_keeps).lsn rfl, ite_self, wakeEnds_pinReady go]
    exact wakeFlagged_pinReady

end

end Sys2Proof.Machine

open Sys2Proof Sys2Proof.Machine

/-- Settles O20: each row's outcome as a chain of updates; what the mitten's opening leaves of it is `mittenWake_stands`. -/
theorem wakeRows : Obligations.WakeRows := by
  intro s
  refine ⟨?_, ?_, ?_, ?_, ?_, ?_, ?_, ?_, ?_, ?_, ?_, ?_⟩
  · intro m clock early enabled ready
    refine Gives.of_eq (if_pos ⟨clock, .inr early, enabled, ready⟩) (if_pos ?_) rfl
    rcases early with start | held <;> simp [wakeHolds, *]
  · intro m clock state now off enabled ready
    have runs : exec (.wakeinDebounce m) s = .next (qualifiedWake { s with lsn := { s.lsn with pinReady := false } } 2 0 0 m.toNat) :=
      if_pos ⟨clock, .inl state, enabled, ready⟩
    constructor
    · intro first
      have spec := qualifiedWake_first_spec (s := { s with lsn := { s.lsn with pinReady := false } }) (seed := 0) (devp := 0) (mark := m.toNat) now off first
      rw [Nat.mod_eq_of_lt m.isLt] at spec
      exact Gives.of_next runs spec
    · intro again apart
      exact Gives.of_next runs (qualifiedWake_more_spec (s := { s with lsn := { s.lsn with pinReady := false } }) now off again apart)
  · rintro m (clock | ready | enabled | ⟨off, start, held⟩)
    · exact ⟨s, if_neg (by simp [clock]), rfl⟩
    · exact ⟨s, if_neg (by simp [ready]), rfl⟩
    · exact ⟨s, if_neg (by simp [enabled]), rfl⟩
    · exact ⟨s, if_neg (by simp [off, start, held]), rfl⟩
  · exact fun clock state => Gives.of_next (if_pos ⟨clock, state⟩) rfl
  · rintro (clock | ⟨off, start, held⟩)
    · exact ⟨s, if_neg (by simp [clock]), rfl⟩
    · exact ⟨s, if_neg (by simp [off, start, held]), rfl⟩
  · intro att qual more
    refine Gives.of_next rfl ?_
    cases att <;> cases qual <;> cases more <;> simp (disch := decide) [flag_mark_same]
  · intro clock pre
    obtain ⟨h, stood, quiet⟩ := standDown_eq pre
    refine Gives.of_eq rfl (if_pos (by simp [clock, pre])) ?_
    rw [stood]
    refine ⟨?_, quiet, ?_⟩
    · simp
    · simp (disch := decide) [flag_mark_same, pair_bump64_same]
  · rintro (clock | pre)
    · exact Gives.of_eq rfl (if_neg (by simp [clock])) rfl
    · exact Gives.of_eq rfl (if_neg (by simp [pre])) rfl
  · exact fun clock => Gives.of_eq rfl (if_pos clock) rfl
  · exact fun clock => Gives.of_eq rfl (if_neg (by simp [clock])) rfl
  · intro p clock
    refine Gives.of_eq rfl (if_pos clock) ⟨(onlyRegs_put).mpr onlyRegs_self, bitOf_putBit_same s (by decide) p.isLt, fun q small ne =>
      bitOf_putBit_other s (by decide) small ne, flag_put_apart _ _ _ _ (by decide) (by decide), put_kept _ _ _⟩
  · exact fun p clock => Gives.of_eq rfl (if_neg (by simp [clock])) rfl
end

section
/-! PROOFS. Frames, seeding, sustained activity and rails of a sound-activity detector (O19). -/

namespace Sys2Proof.Machine

/-! ## Signed fields -/

theorem toSigned_ofSigned {w : Nat} {v : Int} (pos : 0 < w) (low : -(2 ^ (w - 1) : Nat) ≤ v) (high : v < (2 ^ (w - 1) : Nat)) :
    toSigned w (ofSigned w v) = v := by
  have double : (2 ^ w : Nat) = 2 * 2 ^ (w - 1) := by
    rw [← Nat.pow_succ']
    congr 1
    omega
  unfold toSigned ofSigned
  rw [double]
  generalize 2 ^ (w - 1) = n at *
  by_cases neg : v < 0
  · have e : v % ((2 * n : Nat) : Int) = v + (2 * n : Nat) := by
      rw [← Int.add_emod_right, Int.emod_eq_of_lt] <;> omega
    rw [e]
    dsimp only
    rw [Nat.mod_eq_of_lt (by omega)]
    split <;> omega
  · have e : v % ((2 * n : Nat) : Int) = v := Int.emod_eq_of_lt (by omega) (by omega)
    rw [e]
    dsimp only
    rw [Nat.mod_eq_of_lt (by omega)]
    split <;> omega

theorem getI_putI_same {s : State} {f : Fld} {v : Int} (h : f.lo + f.width ≤ 32) (pos : 0 < f.width) (low : -(2 ^ (f.width - 1) : Nat) ≤ v)
    (high : v < (2 ^ (f.width - 1) : Nat)) : (s.putI f v).getI f = v := by
  unfold State.getI State.putI
  rw [get_put_same _ _ _ h, ofSigned_mod, toSigned_ofSigned pos low high]

theorem clampI_bounds {lo hi v : Int} (h : lo ≤ hi) : lo ≤ clampI lo hi v ∧ clampI lo hi v ≤ hi := by
  unfold clampI
  split
  · exact ⟨le_refl _, h⟩
  · split <;> omega

theorem frameLevel_bounds {sum n : Nat} : -15000 ≤ frameLevel sum n ∧ frameLevel sum n ≤ 0 := by
  unfold frameLevel
  split
  · decide
  · have : levelSearch sum n ≤ 15000 := Nat.min_le_right _ _
    omega

/-! ## A detector's state -/

section

variable {s : State} {u : Fin 2} {q : SadSt}

theorem sad_setSad (two : s.lsn.sad.length = 2) : (s.setSad u q).sad u = q := by
  have small : u.val < s.lsn.sad.length := by omega
  simp [State.sad, State.setSad, nth, setNth, small]

theorem sad_of_lsn {t : State} {k : Nat} (h : t.lsn = s.lsn) : t.sad k = s.sad k := by rw [State.sad, h, State.sad]

@[simp] theorem sad_put {f : Fld} {v k : Nat} : (s.put f v).sad k = s.sad k := rfl

@[simp] theorem sad_putI {f : Fld} {v : Int} {k : Nat} : (s.putI f v).sad k = s.sad k := rfl

@[simp] theorem sad_mark {f : Fld} {b : Bool} {k : Nat} : (s.mark f b).sad k = s.sad k := rfl

@[simp] theorem sad_event {n k : Nat} : (s.event n).sad k = s.sad k := sad_of_lsn (by simp)

@[simp] theorem setSad_getI {k : Nat} {f : Fld} : (s.setSad k q).getI f = s.getI f := rfl

@[simp] theorem regsKept_setSad {t : State} {as : List Nat} {k : Nat} : RegsKept t (s.setSad k q) as ↔ RegsKept t s as := Iff.rfl

@[simp] theorem edgeTaken_setSad {t : State} {n k : Nat} : EdgeTaken t (s.setSad k q) n ↔ EdgeTaken t s n := Iff.rfl

/-! ## An enrolment that hears the detector -/

theorem enrolHear_none {k : Nat} {onset above ended : Bool} (none : s.drl.enr = none) : enrolHear s k onset above ended = s := by
  simp [enrolHear, none]

theorem segmentTake_kept {e : EnrolSt} {a b : Nat} : RegsKept s (segmentTake s e a b) [A.DRL_ENR_ST] := by
  unfold segmentTake
  dsimp only
  split
  · simp (disch := decide)
  · split <;> simp (disch := decide)

theorem segmentCut_kept : RegsKept s (segmentCut s) [A.DRL_ENR_ST] := by
  unfold segmentCut
  split
  · split
    · split
      · exact segmentTake_kept
      · exact regsKept_self
    · exact regsKept_self
  · exact regsKept_self

/-- Beside its own state an enrolment changes its status register alone. -/
theorem enrolHear_kept {k : Nat} {onset above ended : Bool} : RegsKept s (enrolHear s k onset above ended) [A.DRL_ENR_ST] := by
  unfold enrolHear
  split
  · exact regsKept_self
  · split
    · exact regsKept_self
    · dsimp only
      rw [regsKept_congr segmentCut_kept]
      split <;> simp (disch := decide)

theorem enrolHear_sad {k j : Nat} {onset above ended : Bool} : (enrolHear s k onset above ended).sad j = s.sad j :=
  sad_of_lsn ((enrolHear_keeps).lsn rfl)

/-! ## The frames -/

/-- What every frame shows of itself before it is judged. -/
def sadShown (s : State) (u : Nat) : State :=
  ((s.setSad u { s.sad u with buf := (s.sad u).buf.drop (sadLen s u), act := if s.flag (F.LSN_SADu_ST_ACTIVE u) then (s.sad u).act + 1 else 0 }).putI
    (F.LSN_SADu_FLOOR_LEVEL u) (frameLevel (sumSquares ((s.sad u).buf.take (sadLen s u))) (sadLen s u))).mark (F.LSN_SADu_ST_FROZEN u)
      (frameMarked ((s.sad u).buf.take (sadLen s u)) || s.flag (F.LSN_SADu_TL_FREEZE u))

theorem sadFrame_eq {k : Nat} : sadFrame s k =
    if (frameMarked ((s.sad k).buf.take (sadLen s k)) || s.flag (F.LSN_SADu_TL_FREEZE k)) = true then ⟨sadShown s k, false, false⟩
    else
      let d := sadDecide (if (s.sad k).pend then sadSeed (sadShown s k) k true else sadShown s k) k
        (frameLevel (sumSquares ((s.sad k).buf.take (sadLen s k))) (sadLen s k))
      { d with st := tilth d.st k (frameLevel (sumSquares ((s.sad k).buf.take (sadLen s k))) (sadLen s k)) } := rfl

theorem sadFrame_excluded {k : Nat} (out : (frameMarked ((s.sad k).buf.take (sadLen s k)) || s.flag (F.LSN_SADu_TL_FREEZE k)) = true) :
    sadFrame s k = ⟨sadShown s k, false, false⟩ := by
  rw [sadFrame_eq, if_pos out]

theorem sentryClocked_of_listens (h : listens s = true) : s.sentryClocked = true := by
  unfold listens at h
  unfold State.sentryClocked
  simp only [Bool.and_eq_true, decide_eq_true_eq] at h
  simp [h]

/-- The outcome of a frame at a detector that listens. -/
theorem sadFrame_runs (listening : listens s = true) (run : (s.sad u).run = true) (pos : 0 < sadLen s u) (enough : sadLen s u ≤ (s.sad u).buf.length) :
    exec (.sadFrame u) s = .next (enrolHear (if (sadFrame s u).onset then attention (sadFrame s u).st u else (sadFrame s u).st) u (sadFrame s u).onset
      (!(sadFrame s u).st.flag (F.LSN_SADu_ST_FROZEN u) &&
        decide (sadFloor s u + 25 * ((s.get (F.LSN_SADu_CFG_MARGIN u) : Nat) : Int) ≤ (sadFrame s u).st.getI (F.LSN_SADu_FLOOR_LEVEL u))) (sadFrame s u).ended) := by
  refine if_pos ⟨?_, run, enough, pos⟩
  split
  · exact sentryClocked_of_listens listening
  · exact listening

/-- A frame that is excluded, as the enrolment hears it. -/
theorem sadFrame_excluded_runs (listening : listens s = true) (run : (s.sad u).run = true) (pos : 0 < sadLen s u) (enough : sadLen s u ≤ (s.sad u).buf.length)
    (out : (frameMarked ((s.sad u).buf.take (sadLen s u)) || s.flag (F.LSN_SADu_TL_FREEZE u)) = true) :
    ∃ above, exec (.sadFrame u) s = .next (enrolHear (sadShown s u) u false above false) := by
  rw [sadFrame_runs listening run pos enough, sadFrame_excluded out]
  exact ⟨_, rfl⟩

theorem sadShown_level : (sadShown s u).getI (F.LSN_SADu_FLOOR_LEVEL u) =
    frameLevel (sumSquares ((s.sad u).buf.take (sadLen s u))) (sadLen s u) := by
  obtain ⟨low, high⟩ := @frameLevel_bounds (sumSquares ((s.sad u).buf.take (sadLen s u))) (sadLen s u)
  rw [sadShown, getI_mark_apart _ (by simp) (by clear * -; revert u; decide)]
  exact getI_putI_same (by simp) (by simp) (by simp; omega) (by simp; omega)

theorem sadShown_frozen : (sadShown s u).flag (F.LSN_SADu_ST_FROZEN u) =
    (frameMarked ((s.sad u).buf.take (sadLen s u)) || s.flag (F.LSN_SADu_TL_FREEZE u)) := flag_mark_same _ _ _ (by simp) rfl

theorem sadShown_kept : RegsKept s (sadShown s u) [A.LSN_SADu_FLOOR u, A.LSN_SADu_ST u] := by
  unfold sadShown State.putI
  simp (disch := (clear * -; revert u; decide))

theorem sadShown_floor : sadFloor (sadShown s u) u = sadFloor s u := by
  unfold sadFloor sadShown State.putI
  simp (disch := (clear * -; revert u; decide))

theorem sadShown_sad (two : s.lsn.sad.length = 2) : (sadShown s u).sad u =
    { s.sad u with buf := (s.sad u).buf.drop (sadLen s u), act := if s.flag (F.LSN_SADu_ST_ACTIVE u) then (s.sad u).act + 1 else 0 } := by
  rw [sadShown, sad_mark, sad_putI, sad_setSad two]

theorem sadShown_only {k : Nat} : sadShown s k = { s with regs := (sadShown s k).regs, lsn := (sadShown s k).lsn } := by
  rw [eq_with_regs]
  simp [sadShown, State.putI]

theorem sadShown_drl {k : Nat} : (sadShown s k).drl = s.drl := rfl

/-- A frame that seeds. -/
theorem sadFrame_seeds_runs (listening : listens s = true) (run : (s.sad u).run = true) (pos : 0 < sadLen s u) (enough : sadLen s u ≤ (s.sad u).buf.length)
    (two : s.lsn.sad.length = 2)
    (clean : (frameMarked ((s.sad u).buf.take (sadLen s u)) || s.flag (F.LSN_SADu_TL_FREEZE u)) = false) (told : (s.sad u).pend = false)
    (seeding : s.flag (F.LSN_SADu_ST_SEEDING u) = true) :
    ∃ above, exec (.sadFrame u) s = .next (enrolHear
      (tilth (sadShown s u) u (frameLevel (sumSquares ((s.sad u).buf.take (sadLen s u))) (sadLen s u))) u false above false) := by
  have still : (sadShown s u).flag (F.LSN_SADu_ST_SEEDING u) = true := by
    rw [← seeding]
    unfold sadShown State.putI
    simp (disch := (clear * -; revert u; decide))
  have frame : sadFrame s u = ⟨tilth (sadShown s u) u (frameLevel (sumSquares ((s.sad u).buf.take (sadLen s u))) (sadLen s u)), false, false⟩ := by
    have decided : ∀ l, sadDecide (sadShown s u) u l = ⟨sadShown s u, false, false⟩ := fun l => if_pos still
    rw [sadFrame_eq, if_neg (by simp [clean]), if_neg (by simp [told]), decided]
  rw [sadFrame_runs listening run pos enough, frame]
  exact ⟨_, rfl⟩

/-- The floor of a detector after a frame that is not excluded, while it seeds. -/
theorem tilth_seeds {k : Nat} {l : Int} (seeding : s.flag (F.LSN_SADu_ST_SEEDING k) = true) : ∃ q, q.win = (l :: (s.sad k).win).take 150 ∧
    tilth s k l = (s.putI (F.LSN_SADu_FLOOR_FLOOR k) (clampI (-12000) (-1000) (minI ((l :: (s.sad k).win).take 150) l))).setSad k q := by
  unfold tilth
  simp only [seeding, if_true]
  exact ⟨_, rfl, rfl⟩

theorem tilth_kept {k : Nat} {l : Int} : RegsKept s (tilth s k l) [A.LSN_SADu_FLOOR k] := by
  unfold tilth
  exact put_kept s (F.LSN_SADu_FLOOR_FLOOR k) _

theorem tilth_drl {k : Nat} {l : Int} : (tilth s k l).drl = s.drl := (tilth_keeps).drl rfl

/-- A seeding detector's floor is the least level of its window. -/
theorem tilth_floor {k : Nat} {l : Int} (seeding : s.flag (F.LSN_SADu_ST_SEEDING k) = true) :
    sadFloor (tilth s k l) k = clampI (-12000) (-1000) (minI ((l :: (s.sad k).win).take 150) l) := by
  obtain ⟨q, -, shape⟩ := tilth_seeds (l := l) seeding
  obtain ⟨low, high⟩ := clampI_bounds (lo := -12000) (hi := -1000) (v := minI ((l :: (s.sad k).win).take 150) l) (by decide)
  generalize clampI (-12000) (-1000) (minI ((l :: (s.sad k).win).take 150) l) = v at *
  rw [sadFloor, shape, setSad_getI]
  exact getI_putI_same (by simp) (by simp) (by simp; omega) (by simp; omega)

theorem tilth_level {l : Int} (seeding : s.flag (F.LSN_SADu_ST_SEEDING u) = true) :
    (tilth s u l).getI (F.LSN_SADu_FLOOR_LEVEL u) = s.getI (F.LSN_SADu_FLOOR_LEVEL u) := by
  obtain ⟨q, -, shape⟩ := tilth_seeds (l := l) seeding
  rw [shape, setSad_getI]
  exact getI_put_apart _ (by simp) (by simp)

theorem tilth_win {l : Int} (two : s.lsn.sad.length = 2) (seeding : s.flag (F.LSN_SADu_ST_SEEDING u) = true) :
    ((tilth s u l).sad u).win = (l :: (s.sad u).win).take 150 := by
  obtain ⟨q, win, shape⟩ := tilth_seeds (l := l) seeding
  rw [shape, sad_setSad (by exact two), win]

theorem sadShown_seeding (seeding : s.flag (F.LSN_SADu_ST_SEEDING u) = true) : (sadShown s u).flag (F.LSN_SADu_ST_SEEDING u) = true := by
  rw [← seeding]
  unfold sadShown State.putI
  simp (disch := (clear * -; revert u; decide))

theorem sustain_sad (two : s.lsn.sad.length = 2) : (sustain s u).sad u = { s.sad u with lockout := true, hangRun := 0 } := by
  rw [sustain, sad_event, sad_mark, sad_event, sad_mark, sad_setSad two]

theorem sustain_drl {k : Nat} : (sustain s k).drl = s.drl := (sustain_keeps).drl rfl

theorem sadShown_two (two : s.lsn.sad.length = 2) : (sadShown s u).lsn.sad.length = 2 := by
  simp [sadShown, State.putI, State.setSad, setNth, two]

end

end Sys2Proof.Machine

open Sys2Proof Sys2Proof.Machine

/-- Settles O19: what a frame shows (`sadShown`), what it seeds (`tilth_seeds`), and that an enrolment changes its status alone. -/
theorem listeningFrames : Obligations.ListeningFrames := by
  intro s u two
  refine ⟨?_, ?_, ?_, ?_, ?_, ?_, ?_, ?_, ?_, ?_, ?_, ?_, ?_⟩
  · intro listening run pos enough out
    obtain ⟨above, runs⟩ := sadFrame_excluded_runs listening run pos enough out
    refine Gives.of_next runs ⟨?_, ?_, ?_, ?_, ?_, ?_⟩
    · rw [(enrolHear_kept).getI (by clear * -; revert u; decide), sadShown_level]
    · rw [(enrolHear_kept).flag (by clear * -; revert u; decide), sadShown_frozen, out]
    · rw [sadFloor, (enrolHear_kept).getI (by clear * -; revert u; decide)]
      exact sadShown_floor
    · rw [enrolHear_sad, sadShown_sad two]
    · rw [enrolHear_sad, sadShown_sad two]
    · intro none
      rw [enrolHear_none (by rw [sadShown_drl, none])]
      exact ⟨sadShown_only, sadShown_kept⟩
  · intro l listening run pos enough clean free told seeding level
    obtain ⟨above, runs⟩ := sadFrame_seeds_runs listening run pos enough two (by simp [clean, free]) told seeding
    have still := sadShown_seeding seeding
    rw [← level] at runs
    refine Gives.of_next runs ⟨?_, ?_, ?_, ?_, ?_⟩
    · rw [(enrolHear_kept).getI (by clear * -; revert u; decide), tilth_level still, sadShown_level, level]
    · rw [(enrolHear_kept).flag (by clear * -; revert u; decide), (tilth_kept).flag (by clear * -; revert u; decide), sadShown_frozen]
      simp [clean, free]
    · rw [enrolHear_sad, tilth_win (sadShown_two two) still, sadShown_sad two]
    · rw [sadFloor, (enrolHear_kept).getI (by clear * -; revert u; decide)]
      refine (tilth_floor still).trans ?_
      rw [sadShown_sad two]
    · intro none
      rw [enrolHear_none (by rw [tilth_drl, sadShown_drl, none]), regsKept_congr ((tilth_kept).mono _)]
      · exact sadShown_kept
      · simp
  · rintro (clock | stop | few)
    · refine ⟨s, if_neg ?_, rfl⟩
      split <;> simp [listens, State.sentryClocked, clock]
    · exact ⟨s, if_neg (by simp [stop]), rfl⟩
    · exact ⟨s, if_neg fun h => by omega, rfl⟩
  · intro run seeding full
    have runs : exec (.seedingEnd u) s = .next (seedingEnd s u) := congrArg ok (if_pos ⟨run, seeding, full⟩)
    have ceil : (s.mark (F.LSN_SADu_ST_SEEDING u) false).getI (F.LSN_SADu_TL_CEIL u) = s.getI (F.LSN_SADu_TL_CEIL u) := by
      simp (disch := (clear * -; revert u; decide))
    have floor : sadFloor (s.mark (F.LSN_SADu_ST_SEEDING u) false) u = sadFloor s u := by
      unfold sadFloor
      simp (disch := (clear * -; revert u; decide))
    constructor
    · intro quiet
      refine Gives.of_eq runs (if_neg (by rw [ceil, floor]; omega)) ?_
      simp (disch := (clear * -; revert u; decide)) [flag_mark_same]
    · intro loud
      refine Gives.of_eq runs (if_pos (by rwa [ceil, floor])) ?_
      simp (disch := (clear * -; revert u; decide)) [flag_mark_same]
  · rintro (stop | done | few)
    · exact Gives.of_eq rfl (if_neg (by simp [stop])) rfl
    · exact Gives.of_eq rfl (if_neg (by simp [done])) rfl
    · exact Gives.of_eq rfl (if_neg fun h => by omega) rfl
  · intro active long
    refine Gives.of_eq rfl (if_pos ⟨active, long⟩) ⟨?_, ?_, ?_, ?_, ?_, ?_, ?_⟩
    · rw [(enrolHear_kept).flag (by clear * -; revert u; decide), sustain]
      simp (disch := (clear * -; revert u; decide)) [flag_mark_same]
    · rw [(enrolHear_kept).flag (by clear * -; revert u; decide), sustain]
      simp (disch := (clear * -; revert u; decide)) [flag_mark_same]
    · rw [enrolHear_sad, sustain_sad two]
    · rw [enrolHear_sad, sustain_sad two]
    · rw [(enrolHear_kept).flag (by decide), sustain]
      simp (disch := (clear * -; (try revert u); decide))
    · rw [(enrolHear_kept).flag (by decide), sustain, flag_event_pending]
    · intro none
      rw [enrolHear_none (by rw [sustain_drl, none]), eq_with_regs, sustain]
      simp (disch := (clear * -; revert u; decide))
  · rintro (idle | short)
    · exact Gives.of_eq rfl (if_neg (by simp [idle])) rfl
    · exact Gives.of_eq rfl (if_neg fun h => by omega) rfl
  · intro high quiet
    refine Gives.of_next (if_pos ⟨high, by simp [quiet]⟩) ⟨?_, ?_⟩
    · rw [eq_with_regs]
      simp
    · simp (disch := (clear * -; revert u; decide)) [flag_mark_same]
  · intro mid low quiet
    refine Gives.of_next ((if_neg (by omega)).trans (if_pos ⟨low, by simp [quiet]⟩)) ⟨?_, ?_⟩
    · rw [eq_with_regs]
      simp
    · simp (disch := (clear * -; revert u; decide)) [flag_mark_same]
  · rintro (railed | ⟨high, low⟩)
    · exact ⟨s, (if_neg (by simp [railed])).trans (if_neg (by simp [railed])), rfl⟩
    · exact ⟨s, (if_neg (by omega)).trans (if_neg (by omega)), rfl⟩
  · intro run freeze
    exact Gives.of_eq rfl ((if_neg (by simp [run])).trans (if_pos freeze)) rfl
  · intro run free
    refine Gives.of_eq rfl ((if_neg (by simp [run])).trans (if_neg (by simp [free]))) ?_
    unfold sadSeed
    cases active : s.flag (F.LSN_SADu_ST_ACTIVE u) <;>
      simp (disch := (clear * -; revert u; decide)) [flag_mark_same, sad_setSad two, active, run]
  · exact fun stop => Gives.of_eq rfl (if_pos (by simp [stop])) rfl
end

section
/-! PROOFS. Saturating counts; liveness of the microphone inputs (O14). -/

namespace Sys2Proof.Machine

/-! ## A saturating count -/

section

variable {s t : State} {f g : Fld} {as : List Nat}

theorem get_incSat_same (h : f.lo + f.width ≤ 32) : (s.incSat f).get f = Nat.min (2 ^ f.width - 1) (s.get f + 1) := by
  have := get_lt s f
  unfold State.incSat
  split
  · next room =>
    rw [get_put_val _ h room]
    exact (Nat.min_eq_right (by omega)).symm
  · rw [show Nat.min (2 ^ f.width - 1) (s.get f + 1) = 2 ^ f.width - 1 from Nat.min_eq_left (by omega)]
    omega

theorem incSat_kept : RegsKept s (s.incSat f) [f.addr] := by
  unfold State.incSat
  split
  · exact put_kept _ _ _
  · exact regsKept_self

@[simp] theorem regsKept_incSat (m : f.addr ∈ as) : RegsKept s (t.incSat f) as ↔ RegsKept s t as :=
  regsKept_congr ((incSat_kept).mono fun a h => by rwa [List.mem_singleton.mp h])

@[simp] theorem get_incSat_apart (h : f.lo + f.width ≤ 32) (d : f.addr ≠ g.addr ∨ g.lo + g.width ≤ f.lo ∨ f.lo + f.width ≤ g.lo) :
    (s.incSat f).get g = s.get g := by
  unfold State.incSat
  split
  · exact get_put_apart _ _ _ _ h d
  · rfl

@[simp] theorem flag_incSat_apart (h : f.lo + f.width ≤ 32) (d : f.addr ≠ g.addr ∨ g.lo + g.width ≤ f.lo ∨ f.lo + f.width ≤ g.lo) :
    (s.incSat f).flag g = s.flag g := by rw [State.flag, get_incSat_apart h d, State.flag]

@[simp] theorem bitOf_incSat_apart {i : Nat} (h : f.lo + f.width ≤ 32) (d : f.addr ≠ g.addr ∨ g.lo + g.width ≤ f.lo ∨ f.lo + f.width ≤ g.lo) :
    (s.incSat f).bitOf g i = s.bitOf g i := by rw [State.bitOf, get_incSat_apart h d, State.bitOf]

@[simp] theorem pair_incSat_apart {a : Nat} (d : f.addr ≠ a ∧ f.addr ≠ a + 4) : (s.incSat f).pair a = s.pair a :=
  (incSat_kept).pair (by simpa using Ne.symm d.1) (by simpa using Ne.symm d.2)

@[simp] theorem edgeTaken_incSat {n : Nat} (d : A.INT_SRCs n ∉ [f.addr] ∧ A.INT_Gg_EDGE_LO (n / 8) ∉ [f.addr] ∧ A.INT_Gg_EDGE_LO (n / 8) + 4 ∉ [f.addr]) :
    EdgeTaken s (t.incSat f) n ↔ EdgeTaken s t n := EdgeTaken.kept incSat_kept d.1 d.2.1 d.2.2

end

/-! ## One bit of a field -/

section

variable {s t : State} {f g : Fld} {as : List Nat} {i : Nat} {b : Bool}

@[simp] theorem get_putBit_apart (h : f.lo + f.width ≤ 32) (d : f.addr ≠ g.addr ∨ g.lo + g.width ≤ f.lo ∨ f.lo + f.width ≤ g.lo) :
    (s.putBit f i b).get g = s.get g := get_put_apart _ _ _ _ h d

@[simp] theorem flag_putBit_apart (h : f.lo + f.width ≤ 32) (d : f.addr ≠ g.addr ∨ g.lo + g.width ≤ f.lo ∨ f.lo + f.width ≤ g.lo) :
    (s.putBit f i b).flag g = s.flag g := flag_put_apart _ _ _ _ h d

@[simp] theorem bitOf_putBit_apart {j : Nat} (h : f.lo + f.width ≤ 32) (d : f.addr ≠ g.addr ∨ g.lo + g.width ≤ f.lo ∨ f.lo + f.width ≤ g.lo) :
    (s.putBit f i b).bitOf g j = s.bitOf g j := bitOf_put_apart s h d

@[simp] theorem pair_putBit_apart {a : Nat} (d : f.addr ≠ a ∧ f.addr ≠ a + 4) : (s.putBit f i b).pair a = s.pair a := pair_put_apart s d

@[simp] theorem regsKept_putBit (m : f.addr ∈ as) : RegsKept s (t.putBit f i b) as ↔ RegsKept s t as := regsKept_put m

@[simp] theorem onlyRegs_putBit : OnlyRegs s (t.putBit f i b) ↔ OnlyRegs s t := onlyRegs_put

@[simp] theorem edgeTaken_putBit {n : Nat} (d : A.INT_SRCs n ∉ [f.addr] ∧ A.INT_Gg_EDGE_LO (n / 8) ∉ [f.addr] ∧ A.INT_Gg_EDGE_LO (n / 8) + 4 ∉ [f.addr]) :
    EdgeTaken s (t.putBit f i b) n ↔ EdgeTaken s t n := edgeTaken_put d

end

/-! ## What an input's liveness rows do -/

section

variable {s t : State} {p : Fin 32}

theorem livenessDiag_quiet {k i : Nat} (quiet : stopsFedBy s k = []) : livenessDiag s t k i = t := by
  simp [livenessDiag, quiet]

/-- A fault entered by an input that has no part to hand over. -/
theorem inputFault_alone (cal : s.mic.cal = none) (spare : s.flag F.MIC_CFG_AUTO_SPARE = false) (sentry : sentryIn s ≠ p) :
    inputFault s p = ((micSet s p MS_FAULT).incSat (F.MIC_STATn_EPIS p)).event 16 := by
  have kept : RegsKept s (((micSet s p MS_FAULT).incSat (F.MIC_STATn_EPIS p)).event 16) ([A.MIC_STATn p, A.MIC_FAULT] ++ sourceRegs 16) := by
    simp (disch := (clear * -; (try revert p); decide)) [micSet]
  have config : A.MIC_CFG ∉ [A.MIC_STATn p, A.MIC_FAULT] ++ sourceRegs 16 := by
    clear * -
    revert p
    decide
  have none : (((micSet s p MS_FAULT).incSat (F.MIC_STATn_EPIS p)).event 16).mic.cal = none := by
    simpa [micSet] using cal
  have other : ∀ u : State, RegsKept s u ([A.MIC_STATn p, A.MIC_FAULT] ++ sourceRegs 16) → sentryIn u ≠ p := fun u k => by
    rwa [sentryIn, k.get (f := F.MIC_CFG_SENTRY_IN) config]
  unfold inputFault
  generalize ((micSet s p MS_FAULT).incSat (F.MIC_STATn_EPIS p)).event 16 = u at *
  have lost : calTargetLost u p = u := by simp [calTargetLost, none]
  have still : autoSpare u p = u := if_neg (by rw [kept.flag (f := F.MIC_CFG_AUTO_SPARE) config, spare]; simp)
  dsimp only
  rw [lost, still, if_neg (other u kept)]

/-- An input's state and fault bit, once set. -/
theorem micSet_spec {st : Nat} (small : st < 8) : (micSet s p st).get (F.MIC_STATn_STATE p) = st ∧
    (micSet s p st).bitOf F.MIC_FAULT_FAULT p = decide (st = MS_FAULT) ∧ OnlyRegs s (micSet s p st) ∧
      RegsKept s (micSet s p st) [A.MIC_STATn p, A.MIC_FAULT] := by
  refine ⟨?_, bitOf_putBit_same _ (by decide) p.isLt, by simp [micSet], ?_⟩
  · rw [micSet, get_putBit_apart (by decide) (.inl (by clear * -; revert p; decide)), get_put_val _ (by simp) small]
  · simp (disch := (clear * -; (try revert p); decide)) [micSet]

/-- Dropping a latched fault also frees the channel that the input feeds. -/
theorem latchDrop_kept (latched : MS_DEVIANT ≤ s.get (F.MIC_STATn_STATE p)) :
    ∃ n < 32, RegsKept (micSet s p MS_OK) (latchDrop s p) [A.MIC_MAPn n] := by
  unfold latchDrop
  rw [if_pos latched]
  dsimp only
  split
  · next n found =>
    refine ⟨n, mem_upto (List.mem_of_find?_eq_some found), fun a m => ?_⟩
    rw [State.setChain_rd, mark_kept _ _ _ a m]
  · exact ⟨0, by decide, regsKept_self⟩

theorem latchDrop_ok (latched : MS_DEVIANT ≤ s.get (F.MIC_STATn_STATE p)) :
    (latchDrop s p).get (F.MIC_STATn_STATE p) = MS_OK ∧ (latchDrop s p).get F.MIC_FAULT_FAULT = (micSet s p MS_OK).get F.MIC_FAULT_FAULT := by
  obtain ⟨n, small, kept⟩ := latchDrop_kept latched
  obtain ⟨state, -⟩ := micSet_spec (s := s) (p := p) (st := MS_OK) (by decide)
  rw [kept.get, kept.get]
  · exact ⟨state, rfl⟩
  all_goals
    simp only [List.mem_singleton, A.MIC_FAULT, A.MIC_STATn, A.MIC_MAPn]
    omega

theorem inputUnsettled_get {k : Nat} {f : Fld} (out : f.addr < 0x040000) : (inputUnsettled s k).get f = s.get f := by
  refine Stands.get (p := fun a => a < 0x040000) (Stands.forEach fun t n _ => Stands.mark ?_) out
  simp only [A.FLT_CHn_ST]
  omega

/-- The interval that follows a dropped fault leaves the state and the fault bits. -/
theorem settleStart_ok {k : Settle} (ok : s.get (F.MIC_STATn_STATE p) = MS_OK) :
    (settleStart s p k).get (F.MIC_STATn_STATE p) = MS_OK ∧ (settleStart s p k).get F.MIC_FAULT_FAULT = s.get F.MIC_FAULT_FAULT := by
  have same : ∀ f : Fld, f.addr < 0x040000 → (inputUnsettled (setSettle s p k) p).get f = s.get f := fun f out => by
    rw [inputUnsettled_get out, setSettle, get_with]
  have state := same (F.MIC_STATn_STATE p) (by clear * -; revert p; decide)
  unfold settleStart
  rw [if_neg (by rw [state, ok]; decide), state, same _ (by decide)]
  exact ⟨ok, rfl⟩

/-- Clearing a latched state leaves the input OK. -/
theorem latchClr_ok (latched : MS_DEVIANT ≤ s.get (F.MIC_STATn_STATE p)) :
    (latchClr s p).get (F.MIC_STATn_STATE p) = MS_OK ∧ (latchClr s p).bitOf F.MIC_FAULT_FAULT p = false := by
  obtain ⟨state, fault⟩ := latchDrop_ok latched
  obtain ⟨-, bit, -⟩ := micSet_spec (s := s) (p := p) (st := MS_OK) (by decide)
  have clear : ∀ t : State, t.get F.MIC_FAULT_FAULT = (latchDrop s p).get F.MIC_FAULT_FAULT → t.bitOf F.MIC_FAULT_FAULT p = false := fun t e => by
    rw [State.bitOf, e, fault]
    exact bit
  unfold latchClr
  rw [if_pos latched]
  dsimp only
  split
  · obtain ⟨after, faults⟩ := settleStart_ok (k := .tmc) state
    exact ⟨after, clear _ faults⟩
  · exact ⟨state, clear _ rfl⟩

/-- A failover that is not configured. -/
theorem sentryFailover_off (off : s.flag F.MIC_CFG_FAILOVER = false) : sentryFailover s = s := if_neg (by simp [off])

end

end Sys2Proof.Machine

open Sys2Proof Sys2Proof.Machine

/-- Settles O14: the liveness rows as chains of updates; clearing a latch is `latchClr_ok`. -/
theorem micLiveness : Obligations.MicLiveness := by
  intro s p
  refine ⟨?_, ?_, ?_, ?_, ?_, ?_, ?_, ?_, ?_, ?_, ?_, ?_⟩
  · intro v on fault quiet
    refine Gives.of_eq (if_pos on) ((livenessDiag_quiet quiet).trans (if_pos fault)) ?_
    rw [liveEvent]
    cases v <;> simp (disch := (clear * -; (try revert p); decide)) [flag_mark_same, pair_bump64_same]
  · intro v on ok quiet cal spare sentry
    refine Gives.of_eq (if_pos on) ((livenessDiag_quiet quiet).trans ((if_neg ok).trans (inputFault_alone ?_ ?_ ?_))) ?_
    · simpa [liveEvent] using cal
    · rw [← spare, liveEvent]
      cases v <;> simp (disch := (clear * -; (try revert p); decide))
    · rw [sentryIn, liveEvent]
      cases v <;> simpa (disch := (clear * -; (try revert p); decide)) [sentryIn] using sentry
    · rw [micSet, liveEvent]
      cases v <;> simp (disch := (clear * -; (try revert p); decide)) [flag_mark_same, pair_bump64_same, get_incSat_same, bitOf_putBit_same]
  · intro n w l width recent on out fine few quiet
    have outside : (decide (256 * n.toNat < s.get F.MIC_DENS_DLO * w) || decide (s.get F.MIC_DENS_DHI * w < 256 * n.toNat)) = true := by
      simpa using out
    subst width recent
    refine Gives.of_eq (if_pos (by simp [on, outside])) ((livenessDiag_quiet quiet).trans ((if_neg ?_).trans (if_pos fine))) ?_
    · simp only [List.length_cons]
      omega
    · rw [eq_with_regs, liveEvent, micSet]
      simp (disch := (clear * -; (try revert p); decide)) [State.putBit, flag_mark_same, pair_bump64_same]
  · intro n w width low high
    subst width
    exact ⟨s, if_neg (by simp [Nat.not_lt.mpr low, Nat.not_lt.mpr high]), rfl⟩
  · intro on awake departs state
    refine Gives.of_eq (if_pos (by simp [on, awake, departs])) (if_pos state) ?_
    rw [liveEvent, micSet]
    simp (disch := (clear * -; (try revert p); decide)) [flag_mark_same, pair_bump64_same]
  · intro unchecked
    exact ⟨fun v => ⟨s, if_neg (by simp [unchecked]), rfl⟩, fun n => ⟨s, if_neg (by simp [unchecked]), rfl⟩, ⟨s, if_neg (by simp [unchecked]), rfl⟩⟩
  · intro suspect
    obtain ⟨state, -, only, kept⟩ := micSet_spec (s := s) (p := p) (st := MS_OK) (by decide)
    refine Gives.of_next (if_pos suspect) ⟨?_, ?_, ?_⟩
    · rw [eq_with_regs]
      simp [micSet, State.putBit]
    · rwa [get_with]
    · rwa [regsKept_with]
  · exact fun other => ⟨s, if_neg other, rfl⟩
  · exact fun latched => Gives.of_next rfl (latchClr_ok latched)
  · exact fun low => Gives.of_eq rfl (if_neg (by omega)) rfl
  · intro awake listening enabled l f a hl hf ha
    subst hl hf ha
    have on : s.awake ∧ listens s ∧ s.flag F.MIC_CFG_PARTNER_EN := ⟨awake, listening, enabled⟩
    refine ⟨?_, ?_, ?_, ?_⟩
    · exact fun quiet => ⟨s, (if_pos on).trans (if_pos quiet), rfl⟩
    · intro loud heard deaf run
      have ne : Nat.min 255 (s.get F.MIC_PART_RUN + 1) ≠ 50 := by
        intro e
        have : Nat.min 255 (s.get F.MIC_PART_RUN + 1) = min 255 (s.get F.MIC_PART_RUN + 1) := rfl
        omega
      have small : Nat.min 255 (s.get F.MIC_PART_RUN + 1) < 2 ^ F.MIC_PART_RUN.width := Nat.lt_of_le_of_lt (Nat.min_le_left _ _) (by decide)
      refine Gives.of_next ((if_pos on).trans ((if_neg (by omega)).trans ((if_pos deaf).trans (if_neg ne)))) ⟨by simp, get_put_val _ (by decide) small, put_kept _ _ _⟩
    · intro loud heard deaf run off
      have fifty : Nat.min 255 (s.get F.MIC_PART_RUN + 1) = 50 := by rw [run]; decide
      refine Gives.of_eq ((if_pos on).trans ((if_neg (by omega)).trans ((if_pos deaf).trans (if_pos fifty)))) (sentryFailover_off ?_) ?_
      · rw [liveEvent]
        simpa (disch := decide) using off
      · rw [liveEvent, fifty]
        simp (disch := decide) [flag_mark_same, pair_bump64_same]
    · exact fun loud heard near => Gives.of_next ((if_pos on).trans ((if_neg (by omega)).trans (if_neg (by omega))))
        ⟨by simp, get_put_val _ (by decide) (by decide), put_kept _ _ _⟩
  · rintro (off | asleep | deaf)
    · exact ⟨s, if_neg (by simp [off]), rfl⟩
    · exact ⟨s, if_neg (by simp [asleep]), rfl⟩
    · exact ⟨s, if_neg (by simp [deaf]), rfl⟩
end

section
/-! PROOFS. Group power, settling intervals, the sentry input and the channel map (O15). -/

namespace Sys2Proof.Machine

/-! ## Lists by index -/

theorem nth_setNth_same {α : Type} {l : List α} {i : Nat} {v d : α} (h : i < l.length) : nth (setNth l i v) i d = v := by
  simp [nth, setNth, h]

theorem nth_setNth_other {α : Type} {l : List α} {i j : Nat} {v d : α} (h : i ≠ j) : nth (setNth l i v) j d = nth l j d := by
  simp [nth, setNth, h]

/-! ## Registers that no group's power changes -/

/-- The registers below the filters' block beside what an interval shows of its input. -/
abbrev BesideInputs (a : Nat) : Prop := a < 0x040000 ∧ a ≠ A.MIC_FAULT ∧ ∀ n < 32, a ≠ A.MIC_STATn n

section

variable {s : State} {p g : Nat}

theorem micSet_stands {st : Nat} (small : p < 32) : Stands BesideInputs s (micSet s p st) :=
  (Stands.put fun h => h.2.2 p small rfl).trans (Stands.put fun h => h.2.1 rfl)

theorem inputUnsettled_stands : Stands (fun a => a < 0x040000) s (inputUnsettled s p) :=
  Stands.forEach fun t n _ => Stands.mark (by simp only [A.FLT_CHn_ST]; omega)

theorem Stands.weaken {q r : Nat → Prop} {s t : State} (h : Stands q s t) (k : ∀ a, r a → q a) : Stands r s t := fun a m => h a (k a m)

theorem settleStart_stands {k : Settle} (small : p < 32) : Stands BesideInputs s (settleStart s p k) := by
  have unsettled : Stands BesideInputs s (inputUnsettled (setSettle s p k) p) :=
    (Stands.parts (t := s) Stands.rfl rfl).trans ((inputUnsettled_stands).weaken fun a h => h.1)
  exact Stands.ite (unsettled.trans (micSet_stands small)) unsettled

theorem groupAnchor_stands {q : Nat → Prop} : Stands q s (groupAnchor s g) := Stands.forEach fun _ _ _ => Stands.rfl.parts rfl

theorem groupAnchor_mic : (groupAnchor s g).mic = s.mic := (groupAnchor_keeps).mic rfl

theorem settleStart_settle {k : Settle} : (settleStart s p k).mic.settle = setNth s.mic.settle p k := by
  have one : ∀ t : State, (inputUnsettled t p).mic = t.mic := fun t => (inputUnsettled_keeps).mic rfl
  unfold settleStart
  dsimp only
  split
  · rw [(micSet_keeps).mic rfl, one]
    rfl
  · rw [one]
    rfl

theorem settleStart_div {k : Settle} : (settleStart s p k).mic.div = s.mic.div ∧ (settleStart s p k).mic.oldGroup = s.mic.oldGroup := by
  have one : ∀ t : State, (inputUnsettled t p).mic = t.mic := fun t => (inputUnsettled_keeps).mic rfl
  unfold settleStart
  dsimp only
  split
  · rw [(micSet_keeps).mic rfl, one]
    exact ⟨rfl, rfl⟩
  · rw [one]
    exact ⟨rfl, rfl⟩

theorem mem_groupInputs {k : Nat} (small : g < 4) (h : k ∈ groupInputs g) : k < 32 ∧ k / 8 = g := by
  simp only [groupInputs, List.mem_map] at h
  obtain ⟨i, hi, rfl⟩ := h
  have := mem_upto hi
  omega

/-- Inputs whose interval begins. -/
def settlesStart (s : State) (l : List Nat) : State := forEach l (fun s p => cicClear (settleStart s p .tsu) p) s

theorem settlesStart_settle {l : List Nat} (long : s.mic.settle.length = 32) (inside : ∀ k ∈ l, k < 32) :
    (∀ k ∈ l, nth (settlesStart s l).mic.settle k .none = .tsu) ∧ (∀ k, k ∉ l → nth (settlesStart s l).mic.settle k .none = nth s.mic.settle k .none) ∧
      (settlesStart s l).mic.settle.length = 32 ∧ (settlesStart s l).mic.div = s.mic.div ∧ (settlesStart s l).mic.oldGroup = s.mic.oldGroup := by
  induction l generalizing s with
  | nil => exact ⟨by simp, fun _ _ => rfl, long, rfl, rfl⟩
  | cons p l ih =>
    have settle : (cicClear (settleStart s p .tsu) p).mic.settle = setNth s.mic.settle p .tsu := by
      rw [(cicClear_keeps).mic rfl, settleStart_settle]
    have div : (cicClear (settleStart s p .tsu) p).mic.div = s.mic.div ∧ (cicClear (settleStart s p .tsu) p).mic.oldGroup = s.mic.oldGroup := by
      rw [(cicClear_keeps).mic rfl]
      exact settleStart_div
    obtain ⟨inL, outL, len, divs, old⟩ := ih (s := cicClear (settleStart s p .tsu) p) (by rw [settle]; simpa [setNth] using long)
      (fun k m => inside k (List.mem_cons_of_mem _ m))
    have step : settlesStart s (p :: l) = settlesStart (cicClear (settleStart s p .tsu) p) l := rfl
    rw [step]
    refine ⟨fun k m => ?_, fun k m => ?_, len, divs.trans div.1, old.trans div.2⟩
    · by_cases later : k ∈ l
      · exact inL k later
      · have e : k = p := by simpa [later] using m
        subst e
        rw [outL k later, settle, nth_setNth_same (by have := inside k (by simp); omega)]
    · rw [List.mem_cons, not_or] at m
      rw [outL k m.2, settle, nth_setNth_other (Ne.symm m.1)]

theorem settlesStart_stands {l : List Nat} (inside : ∀ k ∈ l, k < 32) : Stands BesideInputs s (settlesStart s l) :=
  Stands.forEach fun _ k m => (settleStart_stands (inside k m)).parts rfl

/-- A group that powers up, before its inputs' intervals begin. -/
def groupOn (s : State) (g : Nat) : State := groupAnchor (setDiv (s.putBit F.PWR_MICPWR_GRP g true) g (divWanted s g)) g

theorem groupUp_eq : groupUp s g = settlesStart (groupOn s g) ((groupInputs g).filter (fun p => (groupOn s g).bitOf F.MIC_INEN_EN p)) := rfl

theorem groupOn_stands : Stands (fun a => a ≠ A.PWR_MICPWR) s (groupOn s g) := by
  have began : Stands (fun a => a ≠ A.PWR_MICPWR) s (s.putBit F.PWR_MICPWR_GRP g true) := Stands.put fun h => h rfl
  exact (began.parts (setDiv_regs _ _ _)).trans groupAnchor_stands

theorem groupOn_power : (groupOn s g).get F.PWR_MICPWR_GRP = (s.putBit F.PWR_MICPWR_GRP g true).get F.PWR_MICPWR_GRP := by
  rw [groupOn, (groupAnchor_stands (q := fun _ => True)).get trivial]
  rfl

theorem groupOn_mic : (groupOn s g).mic = (setDiv s g (divWanted s g)).mic := by
  rw [groupOn, groupAnchor_mic]
  rfl

theorem filtered_inside (small : g < 4) {f : Nat → Bool} : ∀ k ∈ (groupInputs g).filter f, k < 32 := fun _ m =>
  (mem_groupInputs small (List.mem_of_mem_filter m)).1

theorem groupUp_stands (small : g < 4) : Stands (fun a => BesideInputs a ∧ a ≠ A.PWR_MICPWR) s (groupUp s g) := by
  rw [groupUp_eq]
  exact ((groupOn_stands).weaken fun a h => h.2).trans ((settlesStart_stands (filtered_inside small)).weaken fun a h => h.1)

theorem groupUp_power {k : Nat} (small : g < 4) (within : k < 4) : (groupUp s g).bitOf F.PWR_MICPWR_GRP k = if k = g then true else s.bitOf F.PWR_MICPWR_GRP k := by
  have same : (groupUp s g).bitOf F.PWR_MICPWR_GRP k = (s.putBit F.PWR_MICPWR_GRP g true).bitOf F.PWR_MICPWR_GRP k := by
    rw [State.bitOf, State.bitOf, groupUp_eq, (settlesStart_stands (filtered_inside small)).get (by decide), groupOn_power]
  rw [same]
  split
  · next e =>
    rw [e, bitOf_putBit_same _ (by decide) (by simpa using small)]
  · next ne =>
    rw [bitOf_putBit_other _ (by decide) (by simpa using within) ne]

/-- What powering a group up does to the groups' dividers and intervals. -/
theorem groupUp_mic (small : g < 4) (long : s.mic.settle.length = 32) (four : s.mic.div.length = 4) :
    (∀ p ∈ groupInputs g, s.bitOf F.MIC_INEN_EN p = true → nth (groupUp s g).mic.settle p .none = .tsu) ∧
      (∀ p, p ∉ groupInputs g → nth (groupUp s g).mic.settle p .none = nth s.mic.settle p .none) ∧
      (groupUp s g).mic.settle.length = 32 ∧ groupDiv (groupUp s g) g = divWanted s g ∧
      (∀ k, k ≠ g → groupDiv (groupUp s g) k = groupDiv s k) ∧ (groupUp s g).mic.div.length = 4 ∧
      (groupUp s g).mic.oldGroup = s.mic.oldGroup := by
  have settle : (groupOn s g).mic.settle = s.mic.settle := by rw [groupOn_mic]; rfl
  have div : (groupOn s g).mic.div = setNth s.mic.div g (divWanted s g) := by rw [groupOn_mic]; rfl
  have old : (groupOn s g).mic.oldGroup = s.mic.oldGroup := by rw [groupOn_mic]; rfl
  have enabled : ∀ p, (groupOn s g).bitOf F.MIC_INEN_EN p = s.bitOf F.MIC_INEN_EN p := fun p => by
    rw [State.bitOf, State.bitOf, (groupOn_stands).get (by decide)]
  obtain ⟨inside, outside, len, divs, olds⟩ := settlesStart_settle (s := groupOn s g) (settle ▸ long)
    (filtered_inside small (f := fun p => (groupOn s g).bitOf F.MIC_INEN_EN p))
  rw [groupUp_eq]
  refine ⟨fun p m on => inside p ?_, fun p m => ?_, len, ?_, fun k ne => ?_, ?_, olds.trans old⟩
  · rw [List.mem_filter]
    exact ⟨m, by rw [enabled, on]⟩
  · rw [outside p fun h => m (List.mem_of_mem_filter h), settle]
  · rw [groupDiv, divs, div, nth_setNth_same (by omega)]
  · rw [groupDiv, divs, div, nth_setNth_other (Ne.symm ne), groupDiv]
  · rw [divs, div]
    simpa [setNth] using four

/-- What a group's divider is to be does not follow from another group's power. -/
theorem divWanted_kept {t : State} {k : Nat} (stands : Stands (fun a => BesideInputs a ∧ a ≠ A.PWR_MICPWR) s t) (old : t.mic.oldGroup = s.mic.oldGroup)
    (clk : t.clk = s.clk) : divWanted t k = divWanted s k := by
  have state : t.pstate = s.pstate := stands.get (f := F.PWR_STATE_STATE) (by decide)
  have sentry : sentryIn t = sentryIn s := stands.get (f := F.MIC_CFG_SENTRY_IN) (by decide)
  have mode : t.get (dpField k) = s.get (dpField k) := stands.get (f := dpField k) (show BesideInputs A.CLK_PDM ∧ A.CLK_PDM ≠ A.PWR_MICPWR by decide)
  rw [divWanted, divWanted, state, sentry, mode, old, dS, dS, State.fH, State.fH, clk]

/-- Groups that power up one after another. -/
theorem groupsUp_spec {l : List Nat} (inside : ∀ k ∈ l, k < 4) (long : s.mic.settle.length = 32) (four : s.mic.div.length = 4) :
    (∀ k ∈ l, (forEach l groupUp s).bitOf F.PWR_MICPWR_GRP k = true ∧ groupDiv (forEach l groupUp s) k = divWanted s k ∧
      ∀ p ∈ groupInputs k, s.bitOf F.MIC_INEN_EN p = true → nth (forEach l groupUp s).mic.settle p .none = .tsu) ∧
    (∀ k < 4, k ∉ l → (forEach l groupUp s).bitOf F.PWR_MICPWR_GRP k = s.bitOf F.PWR_MICPWR_GRP k ∧
      groupDiv (forEach l groupUp s) k = groupDiv s k ∧
      ∀ p ∈ groupInputs k, nth (forEach l groupUp s).mic.settle p .none = nth s.mic.settle p .none) := by
  induction l generalizing s with
  | nil => exact ⟨by simp, fun k _ _ => ⟨rfl, rfl, fun _ _ => rfl⟩⟩
  | cons g l ih =>
    have small := inside g (by simp)
    obtain ⟨begun, others, long', div, divs, four', old⟩ := groupUp_mic small long four
    have stands := groupUp_stands (s := s) small
    have wanted : ∀ k, divWanted (groupUp s g) k = divWanted s k := fun k => divWanted_kept stands old ((groupUp_keeps).clk rfl)
    have enabled : ∀ p, (groupUp s g).bitOf F.MIC_INEN_EN p = s.bitOf F.MIC_INEN_EN p := fun p => by
      rw [State.bitOf, State.bitOf, stands.get (by decide)]
    obtain ⟨inL, outL⟩ := ih (s := groupUp s g) (fun k m => inside k (List.mem_cons_of_mem _ m)) long' four'
    have step : forEach (g :: l) groupUp s = forEach l groupUp (groupUp s g) := rfl
    rw [step]
    constructor
    · intro k m
      by_cases later : k ∈ l
      · obtain ⟨power, divK, settle⟩ := inL k later
        exact ⟨power, divK.trans (wanted k), fun p mp on => settle p mp (by rw [enabled, on])⟩
      · have e : k = g := by simpa [later] using m
        subst e
        obtain ⟨power, divK, settle⟩ := outL k small later
        exact ⟨by rw [power, groupUp_power small small, if_pos rfl], divK.trans div, fun p mp on => by rw [settle p mp, begun p mp on]⟩
    · intro k within m
      rw [List.mem_cons, not_or] at m
      obtain ⟨power, divK, settle⟩ := outL k within m.2
      refine ⟨by rw [power, groupUp_power small within, if_neg m.1], divK.trans (divs k m.1), fun p mp => ?_⟩
      rw [settle p mp, others p fun h => m.1 ?_]
      rw [← (mem_groupInputs within mp).2, ← (mem_groupInputs small h).2]

/-- Without a start-up no step of it ends or begins. -/
theorem stepsGo_idle (start : s.pwr.start = none) : stepsGo (step10 s) = s := by
  have rests : ∀ n, stepRuns s n = false := fun n => by simp [stepRuns, start]
  rw [step10, rests, Bool.false_and, Bool.false_and, if_neg (by simp), stepsGo, rests]
  simp [startCheck, start]

/-! ## Intervals that end -/

theorem settleEnd_mic {k : Settle} (due : nth s.mic.settle p .none = k) (real : k ≠ .none) :
    (settleEnd s p k).mic = { (setSettle s p .none).mic with levels := setNth s.mic.levels p [] } := by
  have restart : ∀ t : State, (inputRestart t p true).mic = t.mic := fun t => (inputRestart_keeps).mic rfl
  have counted : ∀ t : State, (sentryCount t).mic = t.mic := fun t => (sentryCount_keeps).mic rfl
  unfold settleEnd
  rw [if_pos ⟨due, real⟩]
  dsimp only
  split <;> simp only [counted, restart] <;> rfl

theorem settleEnd_other {k : Settle} (other : nth s.mic.settle p .none ≠ k) : settleEnd s p k = s := if_neg fun h => other h.1

/-- The intervals of a list of inputs end. -/
theorem settlesEnd_settle {l : List Nat} (long : s.mic.settle.length = 32) (inside : ∀ k ∈ l, k < 32) (old : s.mic.oldGroup = none) :
    (∀ k, nth (forEach l (fun s p => settleEnd s p .tsu) s).mic.settle k .none =
      if k ∈ l ∧ nth s.mic.settle k .none = .tsu then .none else nth s.mic.settle k .none) ∧
    (forEach l (fun s p => settleEnd s p .tsu) s).mic.oldGroup = none := by
  induction l generalizing s with
  | nil => exact ⟨by simp [forEach], old⟩
  | cons p l ih =>
    have step : forEach (p :: l) (fun s p => settleEnd s p .tsu) s = forEach l (fun s p => settleEnd s p .tsu) (settleEnd s p .tsu) := rfl
    have small := inside p (by simp)
    rw [step]
    by_cases due : nth s.mic.settle p .none = .tsu
    · have mic := settleEnd_mic due (by simp)
      have settle : (settleEnd s p .tsu).mic.settle = setNth s.mic.settle p .none := by rw [mic]; rfl
      obtain ⟨after, none⟩ := ih (s := settleEnd s p .tsu) (by rw [settle]; simpa [setNth] using long)
        (fun k m => inside k (List.mem_cons_of_mem _ m)) (by rw [mic]; exact old)
      refine ⟨fun k => ?_, none⟩
      rw [after k, settle]
      by_cases e : k = p
      · subst e
        rw [nth_setNth_same (by omega)]
        simp [due]
      · rw [nth_setNth_other (Ne.symm e)]
        simp [e]
    · rw [settleEnd_other due]
      obtain ⟨after, none⟩ := ih long (fun k m => inside k (List.mem_cons_of_mem _ m)) old
      refine ⟨fun k => ?_, none⟩
      rw [after k]
      by_cases e : k = p
      · subst e
        simp [due]
      · simp [e]

/-! ## Groups that power down -/

theorem calTargetsLost_none {l : List Nat} (none : s.mic.cal = none) : forEach l calTargetLost s = s := by
  have one : ∀ p, calTargetLost s p = s := fun p => by simp [calTargetLost, none]
  unfold forEach
  induction l with
  | nil => rfl
  | cons p l ih => rw [List.foldl_cons, one, ih]

/-- A group's stop names its inputs' intervals and its divider, and that is all. -/
theorem groupStop_only : groupStop s g = { s with mic := (groupStop s g).mic } := by
  have each : ∀ (l : List Nat) (t : State), forEach l (fun s p => setSettle s p .none) t =
      { t with mic := (forEach l (fun s p => setSettle s p .none) t).mic } := by
    intro l
    unfold forEach
    induction l with
    | nil => exact fun _ => rfl
    | cons p l ih =>
      intro t
      rw [List.foldl_cons, ih]
      rfl
  unfold groupStop
  rw [each]
  rfl

theorem groupStop_div (four : s.mic.div.length = 4) (small : g < 4) : groupDiv (groupStop s g) g = 0 := by
  have each : ∀ (l : List Nat) (t : State), (forEach l (fun s p => setSettle s p .none) t).mic.div = t.mic.div := fun l t =>
    forEach_keeps (fun u => u.mic.div) _ _ _ fun _ _ => rfl
  rw [groupDiv, groupStop, each]
  exact nth_setNth_same (by omega)

theorem groupStop_mic (four : s.mic.div.length = 4) (small : g < 4) : ∃ m, groupStop s g = { s with mic := m } ∧ nth m.div g 0 = 0 :=
  ⟨_, groupStop_only, groupStop_div four small⟩

/-! ## Latched faults that are dropped -/

theorem latchDrop_stands (small : p < 32) : Stands (fun a => BesideInputs a ∧ ∀ n < 32, a ≠ A.MIC_MAPn n) s (latchDrop s p) := by
  have set := (micSet_stands (s := s) (st := MS_OK) small).weaken (r := fun a => BesideInputs a ∧ ∀ n < 32, a ≠ A.MIC_MAPn n) fun a h => h.1
  refine Stands.ite ?_ Stands.rfl
  dsimp only
  split
  · next n found =>
    refine set.trans (Stands.parts (Stands.mark fun h => ?_) (State.setChain_regs ..))
    exact h.2 n (mem_upto (List.mem_of_find?_eq_some found)) rfl
  · exact set

theorem latchesDrop_stands {l : List Nat} (inside : ∀ k ∈ l, k < 32) :
    Stands (fun a => BesideInputs a ∧ ∀ n < 32, a ≠ A.MIC_MAPn n) s (forEach l latchDrop s) :=
  Stands.forEach fun _ k m => latchDrop_stands (inside k m)

theorem Stands.bitOf {q : Nat → Prop} {s t : State} {f : Fld} {i : Nat} (h : Stands q s t) (m : q f.addr) : t.bitOf f i = s.bitOf f i := by
  rw [State.bitOf, h.get m, State.bitOf]

/-! ## A change of the sentry input -/

theorem groupDown_stands : Stands (fun a => a ≠ A.PWR_MICPWR) s (groupDown s g) := by
  have began : Stands (fun a => a ≠ A.PWR_MICPWR) s (s.putBit F.PWR_MICPWR_GRP g false) := Stands.put fun h => h rfl
  rw [groupDown, groupStop_only]
  exact began.parts rfl

theorem sadSeed_stands {u : Nat} {notice : Bool} : Stands (fun a => a < 0x050000) s (sadSeed s u notice) := by
  have out : ¬ A.LSN_SADu_ST u < 0x050000 := by
    simp only [A.LSN_SADu_ST]
    omega
  have marked : Stands (fun a => a < 0x050000) s (((s.setSad u { SadSt.reset with run := (s.sad u).run }).mark (F.LSN_SADu_ST_ACTIVE u) false).mark (F.LSN_SADu_ST_SEEDING u) true) :=
    ((Stands.rfl.parts (State.setSad_regs ..)).trans (Stands.mark out)).trans (Stands.mark out)
  refine Stands.ite (marked.trans (.of_kept (event_kept _ 39) fun a h m => ?_)) marked
  revert m
  simp only [sourceRegs, List.mem_cons, List.not_mem_nil, or_false, A.INT_SRCs, A.INT_Gg_EDGE_LO, A.INT_Gg_COAL_LO]
  omega

/-- The sentry input's register names the input that a change asks for. -/
theorem sentryChange_names {old : Nat} (small : p < 32) (before : sentryIn s = old) : (sentryChange s old p).get F.MIC_CFG_SENTRY_IN = p := by
  have seeds : ∀ t : State, (sadSentryChange (sentryClear t)).get F.MIC_CFG_SENTRY_IN = t.get F.MIC_CFG_SENTRY_IN := fun t =>
    Stands.get (p := fun a => a < 0x050000) (Stands.trans (t := sentryClear t) (Stands.rfl.parts rfl) (Stands.forEach fun _ _ _ => Stands.ite sadSeed_stands Stands.rfl)) (by decide)
  have up : ∀ t : State, (groupUp t (p / 8)).get F.MIC_CFG_SENTRY_IN = t.get F.MIC_CFG_SENTRY_IN := fun t =>
    (groupUp_stands (by omega)).get (by decide)
  have down : ∀ (t : State) o, (groupDown t o).get F.MIC_CFG_SENTRY_IN = t.get F.MIC_CFG_SENTRY_IN := fun t o => (groupDown_stands).get (by decide)
  have put : (s.put F.MIC_CFG_SENTRY_IN p).get F.MIC_CFG_SENTRY_IN = p := get_put_val _ (by decide) (by simpa using small)
  have powered : ∀ c : Prop, ∀ _ : Decidable c, (if c then s.put F.MIC_CFG_SENTRY_IN p else groupUp (s.put F.MIC_CFG_SENTRY_IN p) (p / 8)).get F.MIC_CFG_SENTRY_IN = p := by
    intro c _
    split
    · exact put
    · rw [up, put]
  unfold sentryChange
  split
  · next same => rw [← same, ← before]; rfl
  · dsimp only
    rw [seeds]
    split
    · split
      · split
        · rw [down, get_with, powered]
        · rw [get_with, powered]
      · rw [get_with, powered]
    · exact put

/-! ## A channel's chain -/

section

variable {n : Nat} {v : ChainSt} {new : Inst}

theorem chain_of_flt {t : State} (h : t.flt = s.flt) : t.chain n = s.chain n := by rw [State.chain, h, State.chain]

@[simp] theorem chain_mark {f : Fld} {b : Bool} : (s.mark f b).chain n = s.chain n := chain_of_flt (State.mark_flt ..)

@[simp] theorem chain_put {f : Fld} {x : Nat} : (s.put f x).chain n = s.chain n := chain_of_flt (State.put_flt ..)

theorem chain_setChain (h : n < s.flt.chain.length) : (s.setChain n v).chain n = v := nth_setNth_same h

@[simp] theorem chains_setChain {k : Nat} : (s.setChain k v).flt.chain.length = s.flt.chain.length := by simp [State.setChain, setNth]

@[simp] theorem chains_mark {f : Fld} {b : Bool} : (s.mark f b).flt.chain.length = s.flt.chain.length := by simp

theorem fadeDrop_chain (h : n < s.flt.chain.length) : (fadeDrop s n).chain n = { s.chain n with fade := none } := by
  rw [fadeDrop, chain_mark, chain_setChain h]

theorem fadeDrop_chains : (fadeDrop s n).flt.chain.length = s.flt.chain.length := by rw [fadeDrop, chains_mark, chains_setChain]

/-- A chain that takes an input keeps its settings, its fade and its marks. -/
theorem chainInput_chain (h : n < s.flt.chain.length) :
    ∃ a b c d, (chainInput s n).chain n = { s.chain n with at_ := a, gAt := b, uns := c, gUns := d } := by
  unfold chainInput chainAlign
  dsimp only
  rw [chain_mark, chain_setChain (by simpa using h), chain_setChain h]
  exact ⟨_, _, _, _, rfl⟩

theorem chainInput_chains : (chainInput s n).flt.chain.length = s.flt.chain.length := by
  unfold chainInput chainAlign
  dsimp only
  rw [chains_mark, chains_setChain, chains_setChain]

theorem detReset_chain (h : n < s.flt.chain.length) : (detReset s n).chain n = { s.chain n with hold := 0, ms := 0 } := by
  unfold detReset
  dsimp only
  rw [chain_setChain (by simpa using h), chain_put, chain_put, chain_put]

/-- A cut: the chain's settings are the new ones at once, with no fade and a discontinuity due. -/
theorem chainCut_chain (h : n < s.flt.chain.length) : ((chainCut s n new).chain n).inst = new ∧ ((chainCut s n new).chain n).fade = none ∧
    ((chainCut s n new).chain n).disc = true ∧ ((chainCut s n new).chain n).mute = (s.chain n).mute := by
  have cut : n < (fadeDrop s n).flt.chain.length := by rwa [fadeDrop_chains]
  have set : n < ((fadeDrop s n).setChain n { (fadeDrop s n).chain n with inst := new, disc := true, gDisc := true }).flt.chain.length := by
    rwa [chains_setChain]
  obtain ⟨a, b, c, d, shape⟩ := chainInput_chain set
  rw [chain_setChain cut, fadeDrop_chain h] at shape
  unfold chainCut
  dsimp only
  rw [fadeDrop_chain h] at *
  split
  · rw [shape]
    exact ⟨rfl, rfl, rfl, rfl⟩
  · rw [detReset_chain (by rwa [chainInput_chains]), shape]
    exact ⟨rfl, rfl, rfl, rfl⟩

theorem chainMark_stands {f : Fld} {b : Bool} (out : 0x040000 ≤ f.addr) : Stands (fun a => a < 0x040000) s (s.mark f b) :=
  Stands.mark (Nat.not_lt.mpr out)

theorem chainPut_stands {f : Fld} {x : Nat} (out : 0x040000 ≤ f.addr) : Stands (fun a => a < 0x040000) s (s.put f x) :=
  Stands.put (Nat.not_lt.mpr out)

theorem fltChn_out : 0x040000 ≤ A.FLT_CHn_ST n ∧ 0x040000 ≤ A.FLT_CHn_PEAK n ∧ 0x040000 ≤ A.FLT_CHn_RMS n ∧ 0x040000 ≤ A.FLT_ENVn n := by
  simp only [A.FLT_CHn_ST, A.FLT_CHn_PEAK, A.FLT_CHn_RMS, A.FLT_ENVn]
  omega

theorem fadeDrop_stands : Stands (fun a => a < 0x040000) s (fadeDrop s n) :=
  (Stands.rfl.parts (State.setChain_regs ..)).trans (chainMark_stands fltChn_out.1)

theorem chainInput_stands : Stands (fun a => a < 0x040000) s (chainInput s n) := by
  unfold chainInput chainAlign
  exact ((Stands.rfl.parts (State.setChain_regs ..)).parts (State.setChain_regs ..)).trans (chainMark_stands fltChn_out.1)

theorem detReset_stands : Stands (fun a => a < 0x040000) s (detReset s n) := by
  obtain ⟨-, peak, rms, env⟩ := @fltChn_out n
  unfold detReset
  exact (((chainPut_stands peak).trans (chainPut_stands rms)).trans (chainPut_stands (f := F.FLT_ENVn_ENV n) env)).parts (State.setChain_regs ..)

theorem chainCut_stands : Stands (fun a => a < 0x040000) s (chainCut s n new) := by
  have cut : Stands (fun a => a < 0x040000) s
      (chainInput ((fadeDrop s n).setChain n { (fadeDrop s n).chain n with inst := new, disc := true, gDisc := true }) n) :=
    ((fadeDrop_stands).parts (State.setChain_regs ..)).trans chainInput_stands
  exact Stands.ite cut (cut.trans detReset_stands)

/-- A chain that fades shows it. -/
theorem chainRemap_spec (h : n < s.flt.chain.length) : ((chainRemap s n new).chain n).inst = new ∧
    ((chainRemap s n new).chain n).fade = some ⟨(s.chain n).inst, 0, s.get (F.FLT_CHn_XF_LOG2L n), (s.chain n).uns⟩ ∧
    ((chainRemap s n new).chain n).mute = (s.chain n).mute ∧ (chainRemap s n new).flag (F.FLT_CHn_ST_FADE n) = true := by
  have fade : (chainFade s n new).chain n = { s.chain n with inst := new, fade := some ⟨(s.chain n).inst, 0, s.get (F.FLT_CHn_XF_LOG2L n), (s.chain n).uns⟩ } := by
    rw [chainFade, chain_mark, chain_setChain h]
  obtain ⟨a, b, c, d, shape⟩ := chainInput_chain (s := chainFade s n new) (n := n) (by rw [chainFade, chains_mark, chains_setChain]; exact h)
  rw [chainRemap, shape, fade]
  refine ⟨rfl, rfl, rfl, ?_⟩
  unfold chainInput chainAlign
  dsimp only
  rw [flag_mark_apart _ _ _ _ (by simp) (by simp), State.setChain_flag, State.setChain_flag, chainFade, flag_mark_same _ _ _ (by simp) rfl]

theorem chainRemap_stands : Stands (fun a => a < 0x040000) s (chainRemap s n new) :=
  Stands.trans (Stands.trans (t := State.setChain ..) (Stands.rfl.parts (State.setChain_regs ..)) (chainMark_stands fltChn_out.1)) chainInput_stands

/-! ## A change of the channel map -/

/-- The map's marks of a change. -/
def mapMarked (s : State) (n : Nat) : State :=
  ((s.mark (F.MIC_MAPn_LCFAULT n) (decide (micState s (mapPhys s n) = MS_FAULT))).mark (F.MIC_MAPn_AUTO n) false).setChain n { s.chain n with mute := false }

theorem mapMarked_chain (h : n < s.flt.chain.length) : (mapMarked s n).chain n = { s.chain n with mute := false } := chain_setChain h

theorem mapMarked_kept : RegsKept s (mapMarked s n) [A.MIC_MAPn n] := by
  refine fun a m => ?_
  rw [mapMarked, State.setChain_rd]
  exact ((mark_kept _ (F.MIC_MAPn_LCFAULT n) _).trans (mark_kept _ (F.MIC_MAPn_AUTO n) _)) a (by simpa using m)

theorem mapMarked_flags : (mapMarked s n).flag (F.MIC_MAPn_AUTO n) = false ∧
    (mapMarked s n).flag (F.MIC_MAPn_LCFAULT n) = decide (micState s (mapPhys s n) = MS_FAULT) ∧
    (mapMarked s n).flag (F.MIC_MAPn_CUT n) = s.flag (F.MIC_MAPn_CUT n) ∧ (mapMarked s n).get (F.MIC_MAPn_PHYS n) = s.get (F.MIC_MAPn_PHYS n) := by
  rw [mapMarked, State.setChain_flag, State.setChain_flag, State.setChain_flag, State.setChain_get]
  refine ⟨flag_mark_same _ _ _ (by simp) rfl, ?_, ?_, ?_⟩
  · rw [flag_mark_apart _ _ _ _ (by simp) (by simp), flag_mark_same _ _ _ (by simp) rfl]
  · rw [flag_mark_apart _ _ _ _ (by simp) (by simp), flag_mark_apart _ _ _ _ (by simp) (by simp)]
  · rw [get_mark_apart _ _ _ _ (by simp) (by simp), get_mark_apart _ _ _ _ (by simp) (by simp)]

/-- What a channel is to become stands through the marks of its change. -/
theorem mapMarked_target (small : n < 32) : instTarget (mapMarked s n) n = instTarget s n := by
  have apart : ∀ f : Fld, A.MIC_MAPn n ≠ f.addr → (mapMarked s n).get f = s.get f := fun f ne => (mapMarked_kept).get (by simpa using Ne.symm ne)
  have apartI : ∀ f : Fld, A.MIC_MAPn n ≠ f.addr → (mapMarked s n).getI f = s.getI f := fun f ne => (mapMarked_kept).getI (by simpa using Ne.symm ne)
  unfold instTarget
  dsimp only
  rw [mapMarked_flags.2.2.2, apart, apart, apart, apartI, apart]
  · congr 1
    refine List.map_congr_left fun t _ => apartI _ ?_
    simp only [A.MIC_MAPn, A.MIC_CALn_TAPt]
    omega
  all_goals
    simp only [A.MIC_MAPn, A.MIC_CALn_GAIN, A.MIC_CALn_DELAY, A.FLT_CHn_FIR]
    omega

/-- The outcome of a change of the map. -/
theorem mapChange_runs (k : Fin 32) (on : mapOn s k = true) (other : (s.chain k).inst.input ≠ mapPhys s k) : exec (.mapChange k) s =
    .next (if s.flag (F.MIC_MAPn_CUT k) then chainCutTo (mapMarked s k) k (instTarget s k) else chainRemap (mapMarked s k) k (instTarget s k)) := by
  have cut := (mapMarked_flags (s := s) (n := k)).2.2.1
  have target := mapMarked_target (s := s) k.isLt
  rw [← cut, ← target]
  refine (if_neg (by simp [on, other])).trans ?_
  rw [chain_mark]
  rfl

/-- An input's settings with the filter of another instance. -/
def Inst.withFilter (new i : Inst) : Inst := { new with bank := i.bank, taps := i.taps, oshift := i.oshift }

theorem chainCutTo_idle (idle : (s.chain n).fade = none) : chainCutTo s n new = chainCut s n (new.withFilter (s.chain n).inst) := by
  simp only [chainCutTo, idle, Inst.withFilter]

end

end

end Sys2Proof.Machine

open Sys2Proof Sys2Proof.Machine

/-- Settles O15: powering groups up is `groupsUp_spec`, ending intervals `settlesEnd_settle`, a channel's change `chainCut_chain`. -/
theorem micPowerAndRoles : Obligations.MicPowerAndRoles := by
  intro s
  refine ⟨?_, ?_, ?_, ?_, ?_, ?_, ?_, ?_, ?_, ?_, ?_, ?_, ?_⟩
  · intro g l awake start long four due
    have inside : ∀ k ∈ (if s.flag F.PWR_CFG_STAGGER then [g] else g :: l), k < 4 := by
      have all : ∀ k ∈ g :: l, k < 4 := fun k m => mem_upto (List.mem_of_mem_filter (due ▸ m))
      split
      · exact fun k m => all k (by simp_all)
      · exact all
    have list : (if s.flag F.PWR_CFG_STAGGER then (groupsDue s).take 1 else groupsDue s) = if s.flag F.PWR_CFG_STAGGER then [g] else g :: l := by
      rw [due]
      rfl
    obtain ⟨begun, others⟩ := groupsUp_spec inside long four
    have idle : (forEach (if s.flag F.PWR_CFG_STAGGER then [g] else g :: l) groupUp s).pwr.start = none := by
      rw [(Keeps.forEach fun _ _ => groupUp_keeps).pwr rfl, start]
    refine Gives.of_eq (if_pos (by simp [groupsMay, awake])) ?_ ⟨begun, fun k small m => (others k small m).1⟩
    rw [list, stepsGo_idle idle]
  · intro g clock start old long
    obtain ⟨settle, none⟩ := settlesEnd_settle long (l := groupInputs g) (fun k m => (mem_groupInputs g.isLt m).1) old
    have idle : (forEach (groupInputs g) (fun s p => settleEnd s p .tsu) s).pwr.start = Option.none := by
      rw [(Keeps.forEach fun _ _ => settleEnd_keeps).pwr rfl, start]
    refine Gives.of_eq (if_neg (by simp [clock])) ?_ (P := fun t => _) (u := forEach (groupInputs g) (fun s p => settleEnd s p .tsu) s) ⟨?_, ?_⟩
    · simp only [none]
      exact stepsGo_idle idle
    · intro p small group due
      have mem : p ∈ groupInputs g := by
        simp only [groupInputs, List.mem_map]
        exact ⟨p % 8, by simp [upto]; omega, by omega⟩
      rw [settle, if_pos ⟨mem, due⟩]
    · intro p small group
      rw [settle, if_neg fun h => group (mem_groupInputs g.isLt h.1).2]
  · intro p clock due
    refine Gives.of_eq rfl (if_pos clock) ?_
    rw [settleEnd_mic due (by simp)]
    exact ⟨rfl, rfl⟩
  · rintro p (clock | other)
    · exact Gives.of_eq rfl (if_neg (by simp [clock])) rfl
    · refine Gives.of_next rfl ?_
      rw [settleEnd_other other, ite_self]
  · intro g free powered idle awake cal four
    refine Gives.of_eq rfl (if_neg (by simp [free, powered, idle, awake])) ?_
    dsimp only
    obtain ⟨m, stopped, div⟩ := groupStop_mic (s := s.putBit F.PWR_MICPWR_GRP g false) (g := g) (by simpa using four) g.isLt
    rw [calTargetsLost_none cal, groupDown, stopped]
    refine ⟨bitOf_putBit_same _ (by decide) (by simp), ?_, ?_, ?_, ?_⟩
    · rw [bitOf_putBit_apart (by decide) (by decide), bitOf_with, bitOf_putBit_same _ (by decide) (by simp)]
    · simpa only [groupDiv, State.putBit_mic] using div
    · rw [eq_with_regs]
      simp
    · simp (disch := decide)
  · intro g why
    refine Gives.of_eq rfl (if_pos ?_) rfl
    simp only [Bool.or_eq_true, Bool.not_eq_true', Bool.and_eq_true, decide_eq_true_eq]
    tauto
  · intro g clock busy
    have mode : (s.putBit F.MIC_PWRCTL_BUSY g false).get (dpField g) = s.get (dpField g) := by
      simp (disch := (clear * -; (try revert g); decide))
    have wanted : (groupWanted (s.putBit F.MIC_PWRCTL_BUSY g false) g && (s.putBit F.MIC_PWRCTL_BUSY g false).awake) =
        (s.bitOf F.MIC_PWRCTL_EN g && decide (dpOf (s.get (dpField g)) ≠ 0) && s.awake) := by
      rw [groupWanted, mode, bitOf_putBit_same _ (by decide) (by simp)]
      simp (disch := decide) [State.putBit]
    have runs : exec (.powerCycleOffEnd g) s = .next (if groupWanted (s.putBit F.MIC_PWRCTL_BUSY g false) g && (s.putBit F.MIC_PWRCTL_BUSY g false).awake
        then (groupUp (forEach (groupInputs g) latchDrop (s.putBit F.MIC_PWRCTL_BUSY g false)) g).event 21
        else (s.putBit F.MIC_PWRCTL_BUSY g false).event 21) := by
      refine (if_pos (by simp [busy, clock])).trans ?_
      split <;> rfl
    rw [wanted] at runs
    by_cases up : (s.bitOf F.MIC_PWRCTL_EN g && decide (dpOf (s.get (dpField g)) ≠ 0) && s.awake) = true
    · refine Gives.of_eq runs (if_pos up) ⟨?_, flag_event_pending _, fun _ _ _ => ?_, fun why => ?_⟩
      · have stands := (latchesDrop_stands (s := s.putBit F.MIC_PWRCTL_BUSY g false) (l := groupInputs g) fun k m => (mem_groupInputs g.isLt m).1).bitOf
          (f := F.MIC_PWRCTL_BUSY) (i := g) (by decide)
        rw [bitOf_event_apart _ (by decide), (groupUp_stands g.isLt).bitOf (by decide), stands, bitOf_putBit_same _ (by decide) (by simp)]
      · rw [bitOf_event_apart _ (by decide), groupUp_power g.isLt g.isLt, if_pos rfl]
      · simp only [Bool.and_eq_true, decide_eq_true_eq] at up
        obtain ⟨⟨on, divider⟩, awake⟩ := up
        rcases why with off | none | asleep
        · exact absurd on (by simp [off])
        · exact absurd none divider
        · exact absurd awake (by simp [asleep])
    · refine Gives.of_eq runs (if_neg up) ⟨?_, flag_event_pending _, fun on divider awake => ?_, fun _ => ?_⟩
      · rw [bitOf_event_apart _ (by decide), bitOf_putBit_same _ (by decide) (by simp)]
      · exact absurd (by simp [on, divider, awake]) up
      · simp (disch := decide)
  · exact fun g idle => ⟨s, if_neg (by simp [idle]), rfl⟩
  · intro p on
    exact Gives.of_eq rfl (if_pos on) (sentryChange_names p.isLt rfl)
  · rintro p (off | same)
    · exact Gives.of_eq rfl (if_neg (by simp [off])) rfl
    · refine Gives.of_next rfl ?_
      rw [sentryChange, if_pos same, ite_self]
  · intro n within on other cut idle
    have marked : n < (mapMarked s n).flt.chain.length := by simpa [mapMarked] using within
    refine Gives.of_eq (mapChange_runs n on other) ((if_pos cut).trans (chainCutTo_idle ?_)) ?_
    · rw [mapMarked_chain within, ← idle]
    · obtain ⟨auto, lc, -⟩ := mapMarked_flags (s := s) (n := n)
      obtain ⟨inst, fade, disc, mute⟩ := chainCut_chain (new := (instTarget s n).withFilter ((mapMarked s n).chain n).inst) marked
      have low : A.MIC_MAPn n < 0x040000 := by
        simp only [A.MIC_MAPn]
        omega
      refine ⟨?_, fade, disc, ?_, ?_, ?_⟩
      · rw [inst, mapMarked_chain within, Inst.withFilter]
      · rw [mute, mapMarked_chain within]
      · rw [(chainCut_stands).flag (f := F.MIC_MAPn_AUTO n) low, auto]
      · rw [(chainCut_stands).flag (f := F.MIC_MAPn_LCFAULT n) low, lc]
  · intro n within on other soft
    have marked : n < (mapMarked s n).flt.chain.length := by simpa [mapMarked] using within
    refine Gives.of_eq (mapChange_runs n on other) (if_neg (by simp [soft])) ?_
    obtain ⟨auto, lc, -⟩ := mapMarked_flags (s := s) (n := n)
    obtain ⟨inst, fade, mute, shown⟩ := chainRemap_spec (new := instTarget s n) marked
    have low : A.MIC_MAPn n < 0x040000 := by
      simp only [A.MIC_MAPn]
      omega
    refine ⟨inst, ?_, ?_, shown, ?_, ?_⟩
    · rw [mute, mapMarked_chain within]
    · rw [fade, mapMarked_chain within, (mapMarked_kept).get (by simp only [List.mem_singleton, A.MIC_MAPn, A.FLT_CHn_XF]; omega)]
      rfl
    · rw [(chainRemap_stands).flag (f := F.MIC_MAPn_AUTO n) low, auto]
    · rw [(chainRemap_stands).flag (f := F.MIC_MAPn_LCFAULT n) low, lc]
  · intro n why
    exact ⟨s, if_pos (by simpa using why), rfl⟩
end

section
/-! PROOFS. Calibration measurements and their NVM actions (O16). -/

namespace Sys2Proof.Machine

section

variable {s : State}

theorem calRefusal_lt : calRefusal s < 16 := by
  unfold calRefusal
  dsimp only
  split
  · decide
  · split
    · decide
    · split
      · decide
      · split <;> decide

/-- What every measurement and action leaves when it is done. -/
theorem calDone_spec {e : Nat} (small : e < 16) : OnlyRegs s (calDone s e) ∧ (calDone s e).flag F.MIC_CALCTL_BUSY = false ∧
    (calDone s e).flag F.MIC_CALCTL_DONE = true ∧ (calDone s e).get F.MIC_CALCTL_ERR = e ∧ EdgeTaken s (calDone s e) 19 ∧
    RegsKept s (calDone s e) (A.MIC_CALCTL :: sourceRegs 19) := by
  have width : e < 2 ^ F.MIC_CALCTL_ERR.width := small
  unfold calDone
  simp (disch := first | assumption | decide) [flag_mark_same]

/-- The start of a measurement or of an action. -/
def calBegun (s : State) : State := (s.mark F.MIC_CALCTL_BUSY true).put F.MIC_CALCTL_ERR 0

theorem calBegun_spec : OnlyRegs s (calBegun s) ∧ (calBegun s).flag F.MIC_CALCTL_BUSY = true ∧ (calBegun s).get F.MIC_CALCTL_ERR = 0 ∧
    RegsKept s (calBegun s) [A.MIC_CALCTL] := by
  unfold calBegun
  simp (disch := decide) [flag_mark_same]

theorem calOpen_only {r p : Nat} : calOpen s r p = { s with flt := (calOpen s r p).flt } := rfl

theorem calShut_only : calShut s = { s with flt := (calShut s).flt } := rfl

/-! ## The results of a target -/

theorem orFree_only {v : Option Nat} {n : Nat} : ∃ k, (orFree s v n).2 = { s with free := k } := by
  cases v
  · exact ⟨_, rfl⟩
  · exact ⟨_, rfl⟩

/-- The results of a target are four fields of its registers: RATIO is the given root where it is a number of the format. -/
theorem calResult1_shape {p : Nat} {a b : List Int} : ∃ k v lag q st, calResult1 s p a b =
    ((((({ s with free := k } : State).put (F.MIC_CALRESn_RATIO_RATIO p) v).putI (F.MIC_CALRESn_LAG_LAG p) lag).put (F.MIC_CALRESn_QUAL_QUAL p) q).put
      (F.MIC_CALRESn_ST_ST p) st) ∧ st < 16 ∧ st % 2 = 1 ∧
    ∀ x, x = sqrtQuot (2 ^ 44 * (sumI (a.map (fun y => y * y))).toNat) (sumI (b.map (fun y => y * y))).toNat →
      (sumI (b.map (fun y => y * y))).toNat ≠ 0 → x < 2 ^ 23 → v = x := by
  have bits : ∀ c : Bool, b2n c ≤ 1 := fun c => by cases c <;> decide
  unfold calResult1
  extract_lets sr st pk ratio r1 qual signed r2 lag clip lowq s1 s2
  obtain ⟨k1, e1⟩ := @orFree_only s (ratio.bind fun x => if x < 2 ^ 23 then some x else none) (2 ^ 24)
  obtain ⟨k2, e2⟩ := @orFree_only r1.2 signed (2 ^ 16)
  have free : r2.2 = { s with free := k2 } := by
    refine e2.trans ?_
    rw [show r1.2 = { s with free := k1 } from e1]
  refine ⟨k2, r1.1, lag, r2.1, 1 + 2 * b2n lowq + 4 * b2n (decide (pk.1.natAbs = 32)) + 8 * b2n clip, ?_, ?_, ?_, ?_⟩
  · rw [← free]
  · have := bits lowq
    have := bits (decide (pk.1.natAbs = 32))
    have := bits clip
    omega
  · omega
  · intro x hx some small
    have root : ratio = Option.some x := by rw [hx]; exact if_neg some
    have value : r1 = (x, s) := by
      simp only [r1, root, Option.bind_some, if_pos small]
      rfl
    rw [value]

/-- What the results of a target show, and that they leave the control word and the inputs. -/
theorem calResult1_spec (p : Fin 32) {a b : List Int} : (calResult1 s p a b).mic = s.mic ∧ (calResult1 s p a b).rd A.MIC_CALCTL = s.rd A.MIC_CALCTL ∧
    (calResult1 s p a b).get (F.MIC_CALRESn_ST_ST p) % 2 = 1 ∧
    ∀ x, x = sqrtQuot (2 ^ 44 * (sumI (a.map (fun y => y * y))).toNat) (sumI (b.map (fun y => y * y))).toNat →
      (sumI (b.map (fun y => y * y))).toNat ≠ 0 → x < 2 ^ 23 → (calResult1 s p a b).get (F.MIC_CALRESn_RATIO_RATIO p) = x := by
  obtain ⟨k, v, lag, q, st, shape, width, odd, root⟩ := @calResult1_shape s p a b
  have fits : st < 2 ^ (F.MIC_CALRESn_ST_ST p).width := width
  rw [shape]
  unfold State.putI
  refine ⟨by simp, ?_, ?_, ?_⟩
  · simp (disch := (clear * -; (try revert p); decide))
  · rw [get_put_val _ (by simp) fits, odd]
  · intro x hx some small
    have value := root x hx some small
    have fits : v < 2 ^ (F.MIC_CALRESn_RATIO_RATIO p).width := by rw [value]; exact lt_trans small (by simp)
    have kept : RegsKept ({ s with free := k }.put (F.MIC_CALRESn_RATIO_RATIO p) v) ((((({ s with free := k } : State).put
        (F.MIC_CALRESn_RATIO_RATIO p) v).put (F.MIC_CALRESn_LAG_LAG p) (ofSigned (F.MIC_CALRESn_LAG_LAG p).width lag)).put (F.MIC_CALRESn_QUAL_QUAL p) q).put
      (F.MIC_CALRESn_ST_ST p) st) [(F.MIC_CALRESn_LAG_LAG p).addr, (F.MIC_CALRESn_QUAL_QUAL p).addr, (F.MIC_CALRESn_ST_ST p).addr] := by
      simp
    rw [kept.get (by clear * -; revert p; decide), get_put_val _ (by simp) fits]
    exact value

section

variable {p n : Nat} {a b : List Int} (window : n = 2 ^ (12 + s.get F.MIC_CALCTL_LEN))
  (ha : a = cicOutput s (s.get F.MIC_CALCTL_REF) ((((s.cic (s.get F.MIC_CALCTL_REF)).meas).getD []).reverse.take n))
  (hb : b = cicOutput s p ((((s.cic p).meas).getD []).reverse.take n)) (la : a.length = n) (lb : b.length = n)
include window ha hb la lb

/-- The end of the last target's window ends the measurement. -/
theorem calTargetEnd_last (cal : s.mic.cal = some ⟨[p]⟩) : ∃ t, exec .calTargetEnd s = .next t ∧ t.mic.cal = none ∧
    t.flag F.MIC_CALCTL_BUSY = false ∧ t.flag F.MIC_CALCTL_DONE = true ∧ t.get F.MIC_CALCTL_ERR = 0 ∧
    t.flag (F.INT_SRCs_PEND 19) = true ∧ RegsKept (calResult1 s p a b) t (A.MIC_CALCTL :: sourceRegs 19) := by
  refine ⟨calDone { calShut (calResult1 s p a b) with mic := { (calShut (calResult1 s p a b)).mic with cal := none } } 0, ?_, ?_⟩
  · simp only [exec, execCalTargetEnd, cal]
    rw [← window, ← ha, ← hb]
    exact if_pos ⟨la, lb⟩
  · generalize calResult1 s p a b = r
    obtain ⟨f, shut⟩ : ∃ f, calShut r = { r with flt := f } := ⟨_, rfl⟩
    rw [shut]
    obtain ⟨only, busy, done, err, edge, kept⟩ := @calDone_spec { r with flt := f, mic := { r.mic with cal := none } } 0 (by decide)
    refine ⟨?_, busy, done, err, edge.1, ?_⟩
    · rw [only]
    · exact fun x away => (kept x away).trans (rd_with ..)

/-- The end of a window with targets left opens the next one's. -/
theorem calTargetEnd_next {q : Nat} {rest : List Nat} (cal : s.mic.cal = some ⟨p :: q :: rest⟩) : ∃ t, exec .calTargetEnd s = .next t ∧
    t.mic = { (calResult1 s p a b).mic with cal := some ⟨q :: rest⟩ } ∧ t.regs = (calResult1 s p a b).regs := by
  refine ⟨calOpen { calShut (calResult1 s p a b) with mic := { (calShut (calResult1 s p a b)).mic with cal := some ⟨q :: rest⟩ } }
    (s.get F.MIC_CALCTL_REF) q, ?_, ?_⟩
  · simp only [exec, execCalTargetEnd, cal]
    rw [← window, ← ha, ← hb]
    exact if_pos ⟨la, lb⟩
  · generalize calResult1 s p a b = r
    obtain ⟨f, shut⟩ : ∃ f, calShut r = { r with flt := f } := ⟨_, rfl⟩
    rw [shut, calOpen_only]
    exact ⟨rfl, rfl⟩

end

end

end Sys2Proof.Machine

open Sys2Proof Sys2Proof.Machine

/-- Settles O16: an action's end is one operation, and a target's results are four fields of its own registers. -/
theorem micCalibration : Obligations.MicCalibration := by
  intro s
  refine ⟨?_, ?_, ?_, ?_, ?_, ?_, ?_, ?_, ?_, ?_, ?_⟩
  · intro awake refused
    have width : calRefusal s < 2 ^ F.MIC_CALCTL_ERR.width := calRefusal_lt
    exact Gives.of_eq rfl ((if_pos awake).trans (if_pos refused)) ⟨by simp, get_put_val _ (by decide) width, put_kept _ _ _⟩
  · intro p l awake free targets
    obtain ⟨only, busy, err, kept⟩ := @calBegun_spec s
    refine Gives.of_eq rfl ((if_pos awake).trans ((if_neg (by simp [free])).trans ?_))
      (u := calOpen { calBegun s with mic := { s.mic with cal := some ⟨p :: l⟩ } } ((calBegun s).get F.MIC_CALCTL_REF) p) ?_
    · rw [targets]
      rfl
    · rw [calOpen_only]
      refine ⟨?_, busy, err, kept⟩
      rw [only]
  · intro awake free targets
    refine Gives.of_eq rfl ((if_pos awake).trans ((if_neg (by simp [free])).trans ?_)) (u := calDone (calBegun s) 0) ?_
    · rw [targets]
      rfl
    · unfold calDone calBegun
      simp (disch := decide) [flag_mark_same]
  · intro p n x l a b cal window within ha hb la lb hx
    obtain ⟨mic, ctl, st, ratio⟩ := @calResult1_spec s ⟨p, within⟩ a b
    cases l with
    | nil =>
      obtain ⟨t, ends, none, busy, done, err, pend, kept⟩ := calTargetEnd_last window ha hb la lb cal
      exact ⟨t, ends, by rw [kept.get (by clear * - within; interval_cases p <;> decide)]; exact st, fun some small => by rw [kept.get (by clear * - within; interval_cases p <;> decide)]; exact ratio x hx some small,
        fun _ => ⟨none, busy, done, err, pend⟩, fun more => absurd rfl more⟩
    | cons q rest =>
      obtain ⟨t, ends, measuring, regs⟩ := calTargetEnd_next window ha hb la lb cal
      exact ⟨t, ends, by rw [State.get, State.rd, regs]; exact st, fun some small => by rw [State.get, State.rd, regs]; exact ratio x hx some small,
        fun last => by simp at last, fun _ => ⟨by rw [measuring, mic], by rw [State.rd, regs]; exact ctl⟩⟩
  · intro p l cal few
    have short : ¬ ((cicOutput s (s.get F.MIC_CALCTL_REF) ((((s.cic (s.get F.MIC_CALCTL_REF)).meas).getD []).reverse.take
        (2 ^ (12 + s.get F.MIC_CALCTL_LEN)))).length = 2 ^ (12 + s.get F.MIC_CALCTL_LEN) ∧
        (cicOutput s p ((((s.cic p).meas).getD []).reverse.take (2 ^ (12 + s.get F.MIC_CALCTL_LEN)))).length =
          2 ^ (12 + s.get F.MIC_CALCTL_LEN)) := by
      rintro ⟨-, whole⟩
      unfold cicOutput at whole
      rw [List.length_map, List.length_take, List.length_reverse] at whole
      omega
    refine ⟨s, ?_, rfl⟩
    simp only [exec, execCalTargetEnd, cal]
    exact if_neg short
  · intro none
    refine ⟨s, ?_, rfl⟩
    simp only [exec, execCalTargetEnd, none]
  · intro awake idle
    have begins : ∀ save, calNvm s save = calBegun { s with mic := { s.mic with nvm := some save } } := fun save =>
      if_neg (by simp [idle])
    have shown : ∀ save, calNvm s save = { s with regs := (calNvm s save).regs, mic := { s.mic with nvm := some save } } ∧
        (calNvm s save).flag F.MIC_CALCTL_BUSY = true ∧ (calNvm s save).get F.MIC_CALCTL_ERR = 0 ∧ RegsKept s (calNvm s save) [A.MIC_CALCTL] := by
      intro save
      rw [begins]
      obtain ⟨only, busy, err, kept⟩ := @calBegun_spec { s with mic := { s.mic with nvm := some save } }
      exact ⟨only, busy, err, kept⟩
    exact ⟨Gives.of_eq rfl (if_pos awake) (shown true), Gives.of_eq rfl (if_pos awake) (shown false)⟩
  · intro awake busy
    exact ⟨Gives.of_eq rfl ((if_pos awake).trans (if_pos busy)) ⟨by simp, get_put_val _ (by decide) (by decide), put_kept _ _ _⟩,
      Gives.of_eq rfl ((if_pos awake).trans (if_pos busy)) ⟨by simp, get_put_val _ (by decide) (by decide), put_kept _ _ _⟩⟩
  · intro asleep
    exact ⟨Gives.of_eq rfl (if_neg (by simp [asleep])) rfl, Gives.of_eq rfl (if_neg (by simp [asleep])) rfl, Gives.of_eq rfl (if_neg (by simp [asleep])) rfl⟩
  · intro save act
    generalize hr : (if save then calSaveAll s else calLoadAll s) = r
    have ends : exec .calNvmActionEnd s = .next (calDone { r.1 with mic := { r.1.mic with nvm := none } } (if r.2 then 0 else 5)) := by
      simp only [exec, execCalNvmActionEnd, act, hr]
    obtain ⟨only, busy, done, err, edge, -⟩ := @calDone_spec { r.1 with mic := { r.1.mic with nvm := none } } (if r.2 then 0 else 5)
      (by split <;> decide)
    refine ⟨_, ends, ?_, busy, done, err, edge.1⟩
    rw [only]
  · intro none
    refine ⟨s, ?_, rfl⟩
    simp only [exec, execCalNvmActionEnd, none]
end

section
/-! PROOFS. Frames by blocks of the register map: which blocks an operation can write; then the operations of the clock, the
monitors and the converters. -/

namespace Sys2Proof.Machine

/-- Every register outside the listed blocks of 64 KiB reads as before: block 1 is the clock's, 10 the interrupt controller's,
11 the converters', 12 the monitors' and so on. -/
def BlocksKept (bs : List Nat) (s t : State) : Prop := Stands (fun a => a / 65536 ∉ bs) s t

section

variable {bs : List Nat} {s t u : State}

namespace BlocksKept

theorem trans (h : BlocksKept bs s t) (k : BlocksKept bs t u) : BlocksKept bs s u := Stands.trans h k

theorem mono {cs : List Nat} (h : BlocksKept cs s t) (sub : cs ⊆ bs) : BlocksKept bs s t := Stands.weaken h fun _ m k => m (sub k)

theorem parts (h : BlocksKept bs s t) (e : u.regs = t.regs) : BlocksKept bs s u := Stands.parts h e

theorem ite {c : Prop} [Decidable c] (h : BlocksKept bs s t) (k : BlocksKept bs s u) : BlocksKept bs s (if c then t else u) := Stands.ite h k

theorem forEach {α : Type} {l : List α} {f : State → α → State} (h : ∀ s, ∀ a ∈ l, BlocksKept bs s (f s a)) :
    BlocksKept bs s (forEach l f s) := Stands.forEach h

theorem rd {a : Nat} (h : BlocksKept bs s t) (m : a / 65536 ∉ bs) : t.rd a = s.rd a := h a m

theorem get {f : Fld} (h : BlocksKept bs s t) (m : f.addr / 65536 ∉ bs) : t.get f = s.get f := Stands.get h m

theorem flag {f : Fld} (h : BlocksKept bs s t) (m : f.addr / 65536 ∉ bs) : t.flag f = s.flag f := Stands.flag h m

theorem bitOf {f : Fld} {i : Nat} (h : BlocksKept bs s t) (m : f.addr / 65536 ∉ bs) : t.bitOf f i = s.bitOf f i := Stands.bitOf h m

theorem pair {a : Nat} (h : BlocksKept bs s t) (m : a / 65536 ∉ bs) (n : (a + 4) / 65536 ∉ bs) : t.pair a = s.pair a := Stands.pair h m n

theorem of_kept {as : List Nat} (h : RegsKept s t as) (m : ∀ a ∈ as, a / 65536 ∈ bs) : BlocksKept bs s t :=
  Stands.of_kept h fun a k q => k (m a q)

end BlocksKept

/-! ## Updates inside the listed blocks -/

@[simp] theorem blocksKept_refl : BlocksKept bs s s := Stands.rfl

theorem blocksKept_congr (h : BlocksKept bs t u) : BlocksKept bs s u ↔ BlocksKept bs s t :=
  ⟨fun k a m => (h a m).symm.trans (k a m), fun k => k.trans h⟩

section

variable {f : Fld} {v n lo : Nat}

@[simp] theorem blocksKept_put (m : f.addr / 65536 ∈ bs) : BlocksKept bs s (t.put f v) ↔ BlocksKept bs s t :=
  blocksKept_congr (.of_kept (put_kept t f v) fun a h => by rwa [List.mem_singleton.mp h])

@[simp] theorem blocksKept_mark {b : Bool} (m : f.addr / 65536 ∈ bs) : BlocksKept bs s (t.mark f b) ↔ BlocksKept bs s t := blocksKept_put m

@[simp] theorem blocksKept_putI {x : Int} (m : f.addr / 65536 ∈ bs) : BlocksKept bs s (t.putI f x) ↔ BlocksKept bs s t := blocksKept_put m

@[simp] theorem blocksKept_putBit {i : Nat} {b : Bool} (m : f.addr / 65536 ∈ bs) : BlocksKept bs s (t.putBit f i b) ↔ BlocksKept bs s t :=
  blocksKept_put m

@[simp] theorem blocksKept_incSat (m : f.addr / 65536 ∈ bs) : BlocksKept bs s (t.incSat f) ↔ BlocksKept bs s t :=
  blocksKept_congr (.of_kept incSat_kept fun a h => by rwa [List.mem_singleton.mp h])

@[simp] theorem blocksKept_setPair (m : lo / 65536 ∈ bs) (k : (lo + 4) / 65536 ∈ bs) : BlocksKept bs s (t.setPair lo n) ↔ BlocksKept bs s t :=
  blocksKept_congr (.of_kept (setPair_kept t lo n) (List.forall_mem_cons.mpr ⟨m, List.forall_mem_singleton.mpr k⟩))

@[simp] theorem blocksKept_bump64 (m : lo / 65536 ∈ bs) (k : (lo + 4) / 65536 ∈ bs) : BlocksKept bs s (t.bump64 lo n) ↔ BlocksKept bs s t :=
  blocksKept_setPair m k

@[simp] theorem blocksKept_wr {a : Nat} {w : Word} (m : a / 65536 ∈ bs) : BlocksKept bs s (t.wr a w) ↔ BlocksKept bs s t :=
  blocksKept_congr (.of_kept (wr_kept t a w) fun b h => by rwa [List.mem_singleton.mp h])

/-- The registers of a source are in the interrupt controller's block. -/
theorem sourceRegs_block (small : n < 128) : ∀ a ∈ sourceRegs n, a / 65536 = 10 := by
  intro a m
  simp only [sourceRegs, A.INT_SRCs, A.INT_Gg_EDGE_LO, A.INT_Gg_COAL_LO, List.mem_cons, List.not_mem_nil, or_false] at m
  omega

@[simp] theorem blocksKept_event (m : 10 ∈ bs) (small : n < 128) : BlocksKept bs s (t.event n) ↔ BlocksKept bs s t :=
  blocksKept_congr (.of_kept (event_kept t n) fun a h => by rwa [sourceRegs_block small a h])

@[simp] theorem blocksKept_edge (m : 10 ∈ bs) (small : n < 128) : BlocksKept bs s (t.edge n) ↔ BlocksKept bs s t :=
  blocksKept_congr (.of_kept (edge_kept t n) fun a h => by rwa [sourceRegs_block small a h])

@[simp] theorem blocksKept_level {b : Bool} (m : 10 ∈ bs) (small : n < 128) : BlocksKept bs s (t.level n b) ↔ BlocksKept bs s t :=
  blocksKept_congr (.of_kept (level_kept t n b) fun a h => by rwa [sourceRegs_block small a h])

end

@[simp] theorem blocksKept_with {pending : List Instr} {clk : ClkSt} {pwr : PwrSt} {hsp : HspSt} {time : TimeSt} {int : IntSt} {mic : MicSt}
    {flt : FltSt} {lsn : LsnSt} {drl : DrlSt} {swa : SwaSt} {que : QueSt} {hg : HgSt} {frw : FrwSt} {adc : AdcSt} {mon : MonSt}
    {saf : SafSt} {nvm : NvmSt} {jtag free : Nat} : BlocksKept bs t (State.mk pending s.regs clk pwr hsp time int mic flt lsn drl swa que
      hg frw adc mon saf nvm jtag free) ↔ BlocksKept bs t s := Iff.rfl

theorem RegsKept.from_with {pending : List Instr} {clk : ClkSt} {pwr : PwrSt} {hsp : HspSt} {time : TimeSt} {int : IntSt} {mic : MicSt}
    {flt : FltSt} {lsn : LsnSt} {drl : DrlSt} {swa : SwaSt} {que : QueSt} {hg : HgSt} {frw : FrwSt} {adc : AdcSt} {mon : MonSt}
    {saf : SafSt} {nvm : NvmSt} {jtag free : Nat} {as : List Nat} : RegsKept (State.mk pending s.regs clk pwr hsp time int mic flt lsn drl
      swa que hg frw adc mon saf nvm jtag free) t as ↔ RegsKept s t as := Iff.rfl

theorem BlocksKept.from_with {pending : List Instr} {clk : ClkSt} {pwr : PwrSt} {hsp : HspSt} {time : TimeSt} {int : IntSt} {mic : MicSt}
    {flt : FltSt} {lsn : LsnSt} {drl : DrlSt} {swa : SwaSt} {que : QueSt} {hg : HgSt} {frw : FrwSt} {adc : AdcSt} {mon : MonSt}
    {saf : SafSt} {nvm : NvmSt} {jtag free : Nat} : BlocksKept bs (State.mk pending s.regs clk pwr hsp time int mic flt lsn drl
      swa que hg frw adc mon saf nvm jtag free) t ↔ BlocksKept bs s t := Iff.rfl

@[simp] theorem blocksKept_setAdc {x : Nat} {c : AdcConv} : BlocksKept bs s (t.setAdc x c) ↔ BlocksKept bs s t := Iff.rfl

end

/-! ## The clock, the monitors and the converters -/

section

variable {s : State} {x : Nat}

theorem supLevel_kept : RegsKept s s.supLevel (sourceRegs 1) := level_kept s 1 _

theorem supLatch_kept (f : Fld) : RegsKept s (supLatch s f) (f.addr :: sourceRegs 1) := by
  unfold supLatch
  exact (mark_kept s f true).trans supLevel_kept

@[simp] theorem supLatch_blocks {f : Fld} (clk : f.addr / 65536 = 1) : BlocksKept [1, 10] s (supLatch s f) :=
  .of_kept (supLatch_kept f) (List.forall_mem_cons.mpr ⟨by simp [clk], fun a m => by simp [sourceRegs_block (by decide) a m]⟩)

@[simp] theorem supLatch_clk (f : Fld) : (supLatch s f).clk = s.clk := by
  unfold supLatch State.supLevel
  simp

theorem wdoFollow_blocks : BlocksKept [1] s (wdoFollow s) := by
  unfold wdoFollow
  simp

theorem freezeShow_blocks {l : Nat} {f : Fld} (mon : f.addr / 65536 = 12) : BlocksKept [10, 12] s (freezeShow s l f) := by
  unfold freezeShow
  extract_lets now at_
  split
  · simp
  · simp [mon]

theorem monFollow_blocks : BlocksKept [10, 12] s (monFollow s) := by
  unfold monFollow
  rw [blocksKept_level (by decide) (by decide)]
  exact (freezeShow_blocks rfl).trans (freezeShow_blocks rfl)

theorem pairLose_blocks : BlocksKept [10, 11] s (pairLose s) := by
  unfold pairLose
  split <;> simp (disch := decide)

theorem adcAbort_blocks (two : x < 2) : BlocksKept [10, 11] s (adcAbort s x) := by
  unfold adcAbort
  split
  · simp
  · next k _ _ =>
    have here : (F.ADC_x_STAT_RUN x).addr / 65536 = 11 ∧ (F.ADC_x_STAT_URGB x).addr / 65536 = 11 ∧ A.ADC_x_DISC_LO x / 65536 = 11 ∧
        (A.ADC_x_DISC_LO x + 4) / 65536 = 11 := by
      simp only [A.ADC_x_STAT, A.ADC_x_DISC_LO]
      omega
    obtain ⟨run, urgb, lo, hi⟩ := here
    dsimp only
    split
    · exact (by simp [run, urgb, lo, hi] : BlocksKept [10, 11] s _).trans pairLose_blocks
    · simp [run, urgb, lo, hi]

theorem adcHold_blocks : BlocksKept [10, 11] s (adcHold s) := (adcAbort_blocks (by decide)).trans (adcAbort_blocks (by decide))

theorem clkStop_blocks {phase : ClkPhase} {why : ClkWhy} : BlocksKept [1, 10, 11, 12] s (clkStop s phase why) := by
  unfold clkStop
  extract_lets old s1
  have h1 : BlocksKept [1] s s1 := by simp [s1]
  exact (((h1.trans wdoFollow_blocks).mono (by simp)).trans ((adcHold_blocks).mono (by simp))).trans ((monFollow_blocks).mono (by simp))

theorem clkStop_clk {phase : ClkPhase} {why : ClkWhy} : (clkStop s phase why).clk =
    { s.clk with phase := phase, why := why, run := [], runCls := 0, failed := false } := by
  unfold clkStop
  exact ((monFollow_keeps).clk rfl).trans (((adcHold_keeps).clk rfl).trans ((by unfold wdoFollow; simp)))

/-! ## Losses and returns of HSCK -/

/-- The first effect of a loss: HSCK is gone, HCK_OK and LOCK read 0. -/
def hsckGone (s : State) : State :=
  (({ s with clk := { s.clk with present := false, longLoss := false } } : State).mark F.CLK_STAT_HCK_OK false).mark F.CLK_STAT_LOCK false

theorem hsckGone_spec : hsckGone s = { s with regs := (hsckGone s).regs, clk := { s.clk with present := false, longLoss := false } } ∧
    (hsckGone s).flag F.CLK_STAT_HCK_OK = false ∧ (hsckGone s).flag F.CLK_STAT_LOCK = false ∧ RegsKept s (hsckGone s) [A.CLK_STAT] := by
  unfold hsckGone
  refine ⟨?_, ?_, ?_, ?_⟩
  · rw [eq_with_regs]
    simp
  · simp (disch := decide) [flag_mark_same]
  · simp (disch := decide) [flag_mark_same]
  · simp

/-- With the oscillator running a loss is also latched and counted, and the conversions and the loops hold. -/
def hsckCounted (s : State) : State := monFollow (adcHold ((supLatch (hsckGone s) F.CLK_SUP_HCK_LOSS).bump64 A.CLK_GAP_LO 1))

theorem hsckLoss_stopped (here : s.clk.present = true) (wdo : wdoRuns s = false) : exec .hsckLoss s = .next (hsckGone s) := by
  simp only [exec, execHsckLoss, here, wdo]
  rfl

/-- A procedure past its first step returns to HOLD. -/
def procHold (s u : State) : State :=
  if s.clk.phase = .run ∨ s.clk.phase = .wait then u
  else ({ u with clk := { u.clk with phase := .hold, run := [], runCls := 0 } } : State).put F.CLK_STAT_STATE CK_HOLD

theorem procHold_clk {u : State} : (procHold s u).clk = if s.clk.phase = .run ∨ s.clk.phase = .wait then u.clk
    else { u.clk with phase := .hold, run := [], runCls := 0 } := by
  unfold procHold
  split <;> simp

theorem procHold_state {u : State} : (procHold s u).pstate = u.pstate ∧ (procHold s u).awake = u.awake := by
  unfold procHold
  split <;> simp

theorem procHold_flag {u : State} {f : Fld} (h : f = F.CLK_STAT_HCK_OK ∨ f = F.CLK_STAT_LOCK ∨ f = F.CLK_SUP_HCK_LOSS) :
    (procHold s u).flag f = u.flag f := by
  unfold procHold
  split
  · rfl
  · rcases h with h | h | h <;> subst h <;> simp (disch := decide)

theorem procHold_gap {u : State} : (procHold s u).pair A.CLK_GAP_LO = u.pair A.CLK_GAP_LO := by
  unfold procHold
  split
  · rfl
  · simp (disch := decide)

theorem hsckLoss_running (here : s.clk.present = true) (wdo : wdoRuns s = true) : exec .hsckLoss s = .next
    (if (procHold s (hsckCounted s)).awake then diagEvent (procHold s (hsckCounted s)) 0 else procHold s (hsckCounted s)) := by
  unfold exec execHsckLoss
  rw [if_neg (by simp [here])]
  extract_lets wdoNow was old s1 s2 s3 s4 now s5
  have counted : s4 = hsckCounted s := rfl
  have held : s5 = procHold s s4 := rfl
  clear_value s5
  rw [if_pos (show wdoNow = true from wdo), held, counted]

theorem hsckCounted_clk : (hsckCounted s).clk = { s.clk with present := false, longLoss := false } := by
  unfold hsckCounted
  refine ((monFollow_keeps).clk rfl).trans (((adcHold_keeps).clk rfl).trans ?_)
  unfold supLatch State.supLevel hsckGone
  simp

theorem hsckCounted_blocks : BlocksKept [1, 10, 11, 12] s (hsckCounted s) := by
  have gone : BlocksKept [1] s (hsckGone s) := .of_kept (hsckGone_spec.2.2.2) (by decide)
  have counted : BlocksKept [1, 10] s ((supLatch (hsckGone s) F.CLK_SUP_HCK_LOSS).bump64 A.CLK_GAP_LO 1) := by
    rw [blocksKept_bump64 (by decide) (by decide)]
    exact (gone.mono (by simp)).trans (supLatch_blocks rfl)
  exact ((counted.mono (by simp)).trans ((adcHold_blocks).mono (by simp))).trans ((monFollow_blocks).mono (by simp))

theorem hsckCounted_flags : (hsckCounted s).flag F.CLK_STAT_HCK_OK = false ∧ (hsckCounted s).flag F.CLK_STAT_LOCK = false ∧
    (hsckCounted s).flag F.CLK_SUP_HCK_LOSS = true ∧ (hsckCounted s).pair A.CLK_GAP_LO = (s.pair A.CLK_GAP_LO + 1) % 2 ^ 64 := by
  obtain ⟨-, ok, lock, kept⟩ := @hsckGone_spec s
  have ends : BlocksKept [10, 11, 12] ((supLatch (hsckGone s) F.CLK_SUP_HCK_LOSS).bump64 A.CLK_GAP_LO 1) (hsckCounted s) :=
    ((adcHold_blocks).mono (by simp)).trans ((monFollow_blocks).mono (by simp))
  have latch : RegsKept (hsckGone s) (supLatch (hsckGone s) F.CLK_SUP_HCK_LOSS) (A.CLK_SUP :: sourceRegs 1) := supLatch_kept _
  have latched : (supLatch (hsckGone s) F.CLK_SUP_HCK_LOSS).flag F.CLK_SUP_HCK_LOSS = true := by
    unfold supLatch
    rw [(supLevel_kept).flag (by decide), flag_mark_same _ _ _ (by decide) rfl]
  refine ⟨?_, ?_, ?_, ?_⟩
  · rw [ends.flag (by decide), flag_bump64_apart _ (by decide), latch.flag (by decide), ok]
  · rw [ends.flag (by decide), flag_bump64_apart _ (by decide), latch.flag (by decide), lock]
  · rw [ends.flag (by decide), flag_bump64_apart _ (by decide), latched]
  · rw [ends.pair (by decide) (by decide), pair_bump64_same, latch.pair (by decide) (by decide), kept.pair (by decide) (by decide)]

theorem hsckReturn_sentry (gone : s.clk.present = false) (short : s.clk.longLoss = false) (sentry : s.pstate = SENTRY)
    (run : s.clk.phase = .run) (none : s.pwr.trans = none) : exec .hsckReturn s =
      .next ((shortGap { s with clk := { s.clk with present := true, longLoss := false } }).bump64 A.CLK_GAP_LO 1) := by
  have still : ∀ u, (shortGap u).clk = u.clk ∧ (shortGap u).pwr = u.pwr := fun u => by unfold shortGap; split <;> exact ⟨rfl, rfl⟩
  have out : s.pstate ≠ OFF := by rw [sentry]; decide
  simp only [exec, execHsckReturn, gone, short, pstate_with, sentry, Bool.false_eq_true, ↓reduceIte, (still _).1, (still _).2, State.bump64_pwr, run, none]
  rfl

theorem hsckReturn_awake (gone : s.clk.present = false) (short : s.clk.longLoss = false) (awake : s.awake = true)
    (run : s.clk.phase = .run) : exec .hsckReturn s =
      .next ((clkStop { s with
        clk := { s.clk with present := true, longLoss := false, planCls := s.clk.cls, planM := s.clk.mult } } .hold .ret).put F.CLK_STAT_STATE CK_HOLD) := by
  have same : ({ s with clk := { s.clk with present := true, longLoss := false } } : State).pstate = s.pstate := rfl
  unfold exec execHsckReturn
  rw [if_neg (by simp [gone])]
  dsimp only
  rw [if_neg (by rw [same]; exact not_off_of_awake awake), if_neg (by rw [same]; exact not_sentry_of_awake awake), short, if_neg (by decide)]
  exact congrArg _ (if_pos run)

/-- A relock with the multiplier in force (R50). -/
def relock (s : State) : State := lockBegin (clkStop { s with clk := { s.clk with planCls := s.clk.cls, planM := s.clk.mult } } .lock .relock)

theorem relock_clk : (relock s).clk.phase = .lock ∧ (relock s).clk.why = .relock ∧ (relock s).clk.cls = s.clk.cls ∧
    (relock s).clk.mult = s.clk.mult := by
  unfold relock lockBegin
  dsimp only
  rw [State.mark_clk, State.put_clk, clkStop_clk]
  exact ⟨rfl, rfl, rfl, rfl⟩

theorem lockLoss_run (here : s.clk.present = true) (run : s.clk.phase = .run) (why : s.clk.why = .none) (lock : s.flag F.CLK_STAT_LOCK = true) :
    exec .lockLoss s = .next (if (relock (supLatch s F.CLK_SUP_LOCK_LOSS)).armed then diagEvent (relock (supLatch s F.CLK_SUP_LOCK_LOSS)) 1
      else diagEventT (relock (supLatch s F.CLK_SUP_LOCK_LOSS)) 1 256) := by
  have still : (supLatch s F.CLK_SUP_LOCK_LOSS).clk.phase = .run := by rw [supLatch_clk, run]
  unfold exec execLockLoss
  rw [if_pos (by simp [here, why, lock])]
  extract_lets s1 now s2
  rw [show s2 = relock s1 from if_pos still]

end

end Sys2Proof.Machine

open Sys2Proof Sys2Proof.Machine

/-- Settles O5: each loss and return is one of a few updates of the clock's own part, whose followers stay in their blocks. -/
theorem clockLossAndReturn : Obligations.ClockLossAndReturn := by
  intro s
  refine ⟨?_, ?_, ?_, ?_, ?_, ?_, ?_, ?_, ?_, ?_⟩
  · intro here
    rcases Bool.eq_false_or_eq_true (wdoRuns s) with wdo | wdo
    · refine Gives.of_next (hsckLoss_running here wdo) ?_
      have clk : (if (procHold s (hsckCounted s)).awake then diagEvent (procHold s (hsckCounted s)) 0 else procHold s (hsckCounted s)).clk =
          (procHold s (hsckCounted s)).clk := by
        split
        · exact (diagEvent_keeps).clk rfl
        · rfl
      rw [clk, procHold_clk, hsckCounted_clk]
      split <;> exact ⟨rfl, rfl⟩
    · refine Gives.of_next (hsckLoss_stopped here wdo) ?_
      rw [hsckGone_spec.1]
      exact ⟨rfl, rfl⟩
  · intro here wdo
    exact Gives.of_next (hsckLoss_stopped here wdo) hsckGone_spec
  · intro here wdo asleep
    have still : (procHold s (hsckCounted s)).awake = false := by
      rw [(procHold_state).2, State.awake, State.pstate, (hsckCounted_blocks).get (by decide)]
      exact asleep
    obtain ⟨ok, lock, loss, gap⟩ := @hsckCounted_flags s
    refine Gives.of_eq (hsckLoss_running here wdo) (if_neg (by simp [still])) ⟨?_, ?_, ?_, ?_, ?_⟩
    · rw [procHold_flag (by simp), ok]
    · rw [procHold_flag (by simp), lock]
    · rw [procHold_flag (by simp), loss]
    · rw [procHold_gap, gap]
    · rw [procHold_clk, hsckCounted_clk]
      split <;> rfl
  · intro gone
    exact Gives.of_next (if_pos (by simp [gone])) rfl
  · intro gone wdo
    refine Gives.of_eq rfl (if_pos (by simp [gone, wdo])) (u := supLatch { s with clk := { s.clk with longLoss := true } } F.CLK_SUP_GAP_LONG) ?_
    refine ⟨?_, ?_, ?_⟩
    · rw [eq_with_regs]
      unfold supLatch State.supLevel
      simp
    · unfold supLatch
      rw [(supLevel_kept).flag (by decide), flag_mark_same _ _ _ (by decide) rfl]
    · exact (RegsKept.from_with).mp (supLatch_kept _)
  · intro none
    exact Gives.of_eq rfl (if_neg (by rcases none with h | h <;> simp [h])) rfl
  · intro gone short sentry run none
    obtain ⟨w, gap⟩ : ∃ w, shortGap { s with clk := { s.clk with present := true, longLoss := false } } =
        { s with clk := { s.clk with present := true, longLoss := false }, swa := w } ∧ shortGap s = { s with swa := w } := by
      unfold shortGap
      dsimp only
      split <;> exact ⟨_, rfl, rfl⟩
    refine Gives.of_next (hsckReturn_sentry gone short sentry run none) ?_
    rw [gap.1, gap.2]
    refine ⟨?_, ?_, ?_⟩
    · rw [eq_with_regs]
      simp
    · rw [pair_bump64_same]
      rfl
    · exact (RegsKept.from_with).mp (bump64_kept _ _ _)
  · intro gone short awake run
    refine Gives.of_next (hsckReturn_awake gone short awake run) ?_
    refine ⟨?_, ?_, ?_, ?_, ?_, ?_, get_put_val _ (by decide) (by decide)⟩ <;>
    · rw [State.put_clk, clkStop_clk]
  · intro here
    exact Gives.of_next (if_pos here) rfl
  · intro here run why lock
    refine Gives.of_next (lockLoss_run here run why lock) ?_
    generalize hu : supLatch s F.CLK_SUP_LOCK_LOSS = u
    have clk : (if (relock u).armed then diagEvent (relock u) 1 else diagEventT (relock u) 1 256).clk = (relock u).clk := by
      split
      · exact (diagEvent_keeps).clk rfl
      · exact (diagEventT_keeps).clk rfl
    have same : u.clk = s.clk := by rw [← hu, supLatch_clk]
    rw [clk, ← same]
    exact relock_clk
end

section
/-! PROOFS. Windows, references and plans (O6): the end of a plan in a state whose converters owe a take. -/

namespace Sys2Proof.Machine

/-- Reset, then WATCH, locked on class 3. -/
def watching : State :=
  { (State.reset.put F.PWR_STATE_STATE WATCH).put F.CLK_STAT_LOCK 1 with
    clk := { State.reset.clk with cls := 3, mult := 4 }, pwr := { State.reset.pwr with rst := false } }

/-- A lead whose partner 2 is reachable ends a plan in WATCH while converter 0 owes the take of "entry 2032", which it has not:
the entry's ledger lies on the route's word, so that the take, which the resumption lets pass, clears the route. -/
def strayTake : State :=
  { watching.put (F.HG0_ROUTEp_VALID 2) 1 with
    clk := { watching.clk with phase := .retrain, why := .plan }
    adc := { watching.adc with x := setNth watching.adc.x 0 { nth watching.adc.x 0 AdcConv.reset with take := [2032] } } }

theorem strayTake_resumes : strayTake.clk.phase = .retrain ∧ strayTake.clk.present = true ∧ hgTraining strayTake 0 = false ∧
    hgTraining strayTake 1 = false ∧ strayTake.clk.why = .plan ∧ strayTake.pwr.held = none ∧ strayTake.pwr.offResp = false := by
  decide +kernel

theorem strayTake_partners : partners strayTake = [2] := by decide +kernel

/-- The partners awaited after a command. -/
def awaitedAfter (c : Instr) (s : State) : List Nat := match exec c s with | .next t => t.clk.await | _ => []

theorem strayTake_awaits : awaitedAfter .planResume strayTake = [] := by decide +kernel

end Sys2Proof.Machine

open Sys2Proof Sys2Proof.Machine

/-- Refutes O6, in its clause of the plan's end: for a state that no run reaches, with a take owed of a ledger entry the
converters have not. The take writes the route's word before the partners are listed. -/
theorem not_clockWindowsAndLocks : ¬ Obligations.ClockWindowsAndLocks := by
  intro holds
  obtain ⟨-, -, -, -, -, -, resume, -⟩ := holds strayTake
  obtain ⟨phase, present, left, right, why, held, off⟩ := strayTake_resumes
  obtain ⟨t, runs, clk, -⟩ := resume phase present left right why held off
  have awaits : t.clk.await = [] := by
    have := strayTake_awaits
    rwa [awaitedAfter, runs] at this
  rw [clk] at awaits
  exact absurd (strayTake_partners.symm.trans awaits) (by decide)
end

section
/-! PROOFS. The messages that wait on a port, and the plans of the clock that they carry (O7). -/

namespace Sys2Proof.Machine

section

variable {s t u : State} {x typ : Nat} {r : RxMsg}

/-! ## A message that waits for this device -/

theorem slotFree_ports {vc : Nat} : ∃ p, slotFree s x vc = { s with hg := { s.hg with port := p } } := ⟨_, rfl⟩

/-- Taking a message changes the ports alone. -/
theorem msgOwn_ports (taken : msgOwn s x typ = some (r, u)) : ∃ p, u = { s with hg := { s.hg with port := p } } := by
  unfold msgOwn at taken
  dsimp only at taken
  split at taken
  · cases taken
  · split at taken
    · cases taken
    · split at taken
      · cases taken
        exact ⟨_, rfl⟩
      · cases taken
        exact ⟨_, rfl⟩

theorem onMsg_taken {f : RxMsg → State → State} (taken : msgOwn s x typ = some (r, u)) :
    onMsg s x typ f = .next (f r (partnerHeard u r.msg.src)) := by
  unfold onMsg
  rw [taken]

theorem onMsg_none {f : RxMsg → State → State} (none : msgOwn s x typ = none) : onMsg s x typ f = .next s := by
  unfold onMsg
  rw [none]

/-- With a message taken and its sender heard, the device is as before but for its ports and the partners awaited. -/
theorem partnerHeard_taken (taken : msgOwn s x typ = some (r, u)) : ∃ p a, partnerHeard u r.msg.src =
    { s with hg := { s.hg with port := p }, clk := { s.clk with await := a } } := by
  obtain ⟨p, rfl⟩ := msgOwn_ports taken
  exact ⟨p, _, rfl⟩

theorem hgSend_ports {vc dst param : Nat} {body : List Nat} : ∃ p, hgSend s vc typ dst param body = { s with hg := { s.hg with port := p } } := by
  unfold hgSend
  split
  · exact ⟨_, rfl⟩
  · exact ⟨s.hg.port, rfl⟩

/-! ## A plan begins -/

/-- The registers that the stop of the clock's round for a procedure leaves: all but CLK_STAT and what belongs to the
interrupt controller, the converters and the monitors. -/
abbrev BesideClkStat (a : Nat) : Prop := a / 65536 ∉ [10, 11, 12] ∧ a ≠ A.CLK_STAT

theorem clkStop_stands {phase : ClkPhase} {why : ClkWhy} : Stands BesideClkStat s (clkStop s phase why) := by
  unfold clkStop
  extract_lets old s1
  have follow : Stands BesideClkStat s (wdoFollow s1) := Stands.mark (s := s1) fun h => h.2 rfl
  exact follow.trans (Stands.weaken (((adcHold_blocks).mono (by simp)).trans ((monFollow_blocks).mono (by simp)))
    fun a (h : BesideClkStat a) => h.1)

/-- Of CLK_STAT the stop of the clock's round writes WDO_ON alone. -/
theorem clkStop_flag {phase : ClkPhase} {why : ClkWhy} {f : Fld} (block : f.addr / 65536 ∉ [10, 11, 12])
    (apart : F.CLK_STAT_WDO_ON.addr ≠ f.addr ∨ f.lo + f.width ≤ F.CLK_STAT_WDO_ON.lo ∨ F.CLK_STAT_WDO_ON.lo + F.CLK_STAT_WDO_ON.width ≤ f.lo) :
    (clkStop s phase why).flag f = s.flag f := by
  unfold clkStop
  extract_lets old s1
  have holds : BlocksKept [10, 11, 12] (wdoFollow s1) (monFollow (adcHold (wdoFollow s1))) :=
    ((adcHold_blocks).mono (by simp)).trans ((monFollow_blocks).mono (by simp))
  rw [holds.flag block]
  exact flag_mark_apart _ _ _ _ (by decide) apart

theorem voltSet_kept {l mv : Nat} : RegsKept s (voltSet s l mv) [(vsetField l).addr] := by
  unfold voltSet
  extract_lets prev old s1
  have put : RegsKept s (s1.put (vsetField l) mv) [(vsetField l).addr] := put_kept s1 _ _
  unfold pmbQueue
  split
  · exact put
  · exact put

theorem voltSet_core {mv : Nat} : BlocksKept [12] s (voltSet s L_CORE mv) := .of_kept (voltSet_kept) (by decide)

theorem planTell_partner (partner : s.devid ≠ 0) : planTell s = s := if_neg partner

/-- The hold of a plan: STATE reads HOLD, and CLK_STAT but for STATE and every register outside the monitors stands. -/
theorem planHold_spec : (planHold s).clk = { s.clk with phase := .hold, run := [], runCls := 0, failed := false } ∧
    (planHold s).hg = s.hg ∧ (planHold s).get F.CLK_STAT_STATE = CK_HOLD ∧ (planHold s).flag F.CLK_STAT_LOCK = s.flag F.CLK_STAT_LOCK ∧
    (planHold s).flag F.CLK_STAT_SYS_RUN = s.flag F.CLK_STAT_SYS_RUN ∧ Stands BesideClkStat s (planHold s) := by
  unfold planHold
  extract_lets up old s1
  have state : s1.get F.CLK_STAT_STATE = CK_HOLD := get_put_val _ (by decide) (by decide)
  have lock : s1.flag F.CLK_STAT_LOCK = s.flag F.CLK_STAT_LOCK := by simp (disch := decide) [s1]
  have run : s1.flag F.CLK_STAT_SYS_RUN = s.flag F.CLK_STAT_SYS_RUN := by simp (disch := decide) [s1]
  have stands : Stands BesideClkStat s s1 := Stands.put (s := { s with clk := _ }) fun h => h.2 rfl
  have clk : s1.clk = { s.clk with phase := .hold, run := [], runCls := 0, failed := false } := State.put_clk ..
  have hg : s1.hg = s.hg := State.put_hg ..
  clear_value s1
  split
  · have volt : BlocksKept [12] s1 (voltSet s1 L_CORE (s1.get F.MON_CAVS_CFG_VMAX)) := voltSet_core
    refine ⟨((voltSet_keeps).clk rfl).trans clk, ((voltSet_keeps).hg rfl).trans hg, ?_, ?_, ?_, ?_⟩
    · rw [volt.get (by decide), state]
    · rw [volt.flag (by decide), lock]
    · rw [volt.flag (by decide), run]
    · exact stands.trans (Stands.weaken volt fun a h m => h.1 (by simp [List.mem_singleton.mp m]))
  · exact ⟨clk, hg, state, lock, run, stands⟩

/-- The state in which a procedure begins: its plan is named, LOCK and SYS_RUN read 0. -/
def planNamed (s : State) (c m : Nat) : State :=
  (({ s with clk := { s.clk with planCls := c, planM := if c = 1 then 0 else m, remote := true } } : State).mark F.CLK_STAT_LOCK false).mark
    F.CLK_STAT_SYS_RUN false

theorem planNamed_spec {c m : Nat} : planNamed s c m =
      { s with regs := (planNamed s c m).regs, clk := { s.clk with planCls := c, planM := if c = 1 then 0 else m, remote := true } } ∧
    (planNamed s c m).flag F.CLK_STAT_LOCK = false ∧ (planNamed s c m).flag F.CLK_STAT_SYS_RUN = false ∧
    Stands BesideClkStat s (planNamed s c m) := by
  unfold planNamed
  refine ⟨?_, ?_, ?_, ?_⟩
  · rw [eq_with_regs]
    simp
  · simp (disch := decide) [flag_mark_same]
  · simp (disch := decide) [flag_mark_same]
  · exact Stands.trans (t := State.mark { s with clk := _ } F.CLK_STAT_LOCK false) (Stands.mark (s := { s with clk := _ }) fun h => h.2 rfl)
      (Stands.mark fun h => h.2 rfl)

/-- The hold of the multiplier's lock with the highest core voltage where the plan is the faster one. -/
def voltRaised (s : State) (up : Bool) : State := if up && s.awake then voltSet s L_CORE (s.get F.MON_CAVS_CFG_VMAX) else s

theorem voltRaised_blocks {up : Bool} : BlocksKept [12] s (voltRaised s up) := .ite voltSet_core (by simp)

theorem voltRaised_keeps {up : Bool} : Keeps [.mon] s (voltRaised s up) := (voltSet_keeps).ite Keeps.rfl

theorem planStart_same_eq {m : Nat} (run : s.clk.phase = .run) (big : s.clk.cls ≠ 1) : ∃ up, planStart s s.clk.cls m true =
    planTell (lockBegin (voltRaised (clkStop (planNamed s s.clk.cls m) .lock .mOnly) up)) := by
  unfold planStart
  extract_lets fresh only old s1 s2 up s3 s4
  have same : only = true := by simp [only, run]
  rw [if_neg (by simp [same, big]), if_pos same]
  exact ⟨up, rfl⟩

/-- A plan of the partner's own class goes to the multiplier's lock (R53). -/
theorem planStart_same {m : Nat} (run : s.clk.phase = .run) (big : s.clk.cls ≠ 1) (partner : s.devid ≠ 0) (v : State)
    (hv : planStart s s.clk.cls m true = v) : v.clk.phase = .lock ∧ v.clk.why = .mOnly ∧ v.clk.cls = s.clk.cls ∧
      v.clk.mult = m ∧ v.clk.remote = true ∧ v.hg = s.hg ∧ v.get F.CLK_STAT_STATE = CK_LOCK ∧ v.flag F.CLK_STAT_LOCK = false ∧
      v.flag F.CLK_STAT_SYS_RUN = false ∧ Stands BesideClkStat s v := by
  obtain ⟨up, shape⟩ := planStart_same_eq (m := m) run big
  obtain ⟨named, -, off, stands⟩ := @planNamed_spec s s.clk.cls m
  generalize planNamed s s.clk.cls m = n at shape named off stands
  have stop : Stands BesideClkStat n (voltRaised (clkStop n .lock .mOnly) up) :=
    (clkStop_stands).trans (Stands.weaken voltRaised_blocks fun a h m => h.1 (by simp [List.mem_singleton.mp m]))
  have still : (voltRaised (clkStop n .lock .mOnly) up).flag F.CLK_STAT_SYS_RUN = false := by
    rw [(voltRaised_blocks).flag (by decide), clkStop_flag (by decide) (by decide), off]
  have clk : (voltRaised (clkStop n .lock .mOnly) up).clk = { n.clk with phase := .lock, why := .mOnly, run := [], runCls := 0, failed := false } :=
    ((voltRaised_keeps).clk rfl).trans clkStop_clk
  have hg : (voltRaised (clkStop n .lock .mOnly) up).hg = n.hg := ((voltRaised_keeps).hg rfl).trans ((clkStop_keeps).hg rfl)
  generalize voltRaised (clkStop n .lock .mOnly) up = w at shape stop still clk hg
  have locks : Stands BesideClkStat w (lockBegin w) :=
    Stands.trans (t := State.put { w with clk := _ } F.CLK_STAT_STATE CK_LOCK) (Stands.put (s := { w with clk := _ }) fun h => h.2 rfl)
      (Stands.mark fun h => h.2 rfl)
  have all : Stands BesideClkStat s (lockBegin w) := (stands.trans stop).trans locks
  have ends : planStart s s.clk.cls m true = lockBegin w := by
    rw [shape, planTell_partner]
    rw [State.devid, all.get (by decide)]
    exact partner
  subst hv
  rw [ends]
  have lockClk : (lockBegin w).clk = { w.clk with phase := .lock, cls := w.clk.planCls, mult := w.clk.planM, run := [], runCls := 0 } := by
    unfold lockBegin
    simp
  rw [lockClk, clk, named]
  refine ⟨rfl, rfl, rfl, if_neg big, rfl, ?_, ?_, ?_, ?_, all⟩
  · refine ((lockBegin_keeps).hg rfl).trans ((hg).trans ?_)
    rw [named]
  · unfold lockBegin
    simp (disch := decide)
  · exact flag_mark_same _ _ _ (by decide) rfl
  · unfold lockBegin
    simp (disch := decide)
    exact still

theorem planStart_other_eq {c m : Nat} (run : s.clk.phase = .run) (other : c ≠ s.clk.cls) : planStart s c m true =
    planHoldTry { clkStop (planNamed s c m) .wait .plan with
      clk := { (clkStop (planNamed s c m) .wait .plan).clk with acks := [], bus := !(planNamed s c m).mon.bus.isEmpty } } := by
  unfold planStart
  extract_lets fresh only old s1 s2 up s3 s4 acks bus s5 old1 s6
  have differs : only = false := by simp [only, other]
  have begins : fresh = true := by simp [fresh, run]
  rw [if_neg (by simp [differs]), if_neg (by simp [differs]), if_pos begins]
  rfl

/-- A plan of another class goes to HOLD at a partner with no PMBus transaction in flight (R53, R602). -/
theorem planStart_other {c m : Nat} (run : s.clk.phase = .run) (other : c ≠ s.clk.cls) (bus : s.mon.bus = []) (v : State)
    (hv : planStart s c m true = v) : v.clk.phase = .hold ∧ v.clk.why = .plan ∧ v.clk.cls = s.clk.cls ∧
      v.clk.planCls = c ∧ v.clk.planM = (if c = 1 then 0 else m) ∧ v.clk.remote = true ∧ v.hg = s.hg ∧ v.get F.CLK_STAT_STATE = CK_HOLD ∧
      v.flag F.CLK_STAT_LOCK = false ∧ v.flag F.CLK_STAT_SYS_RUN = false ∧ Stands BesideClkStat s v := by
  have shape := planStart_other_eq (m := m) run other
  obtain ⟨named, unlocked, off, stands⟩ := @planNamed_spec s c m
  generalize planNamed s c m = n at shape named unlocked off stands
  have idle : n.mon.bus = [] := by rw [named, bus]
  rw [idle] at shape
  have stop : Stands BesideClkStat n (clkStop n .wait .plan) := clkStop_stands
  have clk : (clkStop n .wait .plan).clk = { n.clk with phase := .wait, why := .plan, run := [], runCls := 0, failed := false } := clkStop_clk
  have lock : (clkStop n .wait .plan).flag F.CLK_STAT_LOCK = false := by rw [clkStop_flag (by decide) (by decide), unlocked]
  have still : (clkStop n .wait .plan).flag F.CLK_STAT_SYS_RUN = false := by rw [clkStop_flag (by decide) (by decide), off]
  have hg : (clkStop n .wait .plan).hg = n.hg := (clkStop_keeps).hg rfl
  generalize clkStop n .wait .plan = w at shape stop clk lock still hg
  have holds : planStart s c m true = planHold { w with clk := { w.clk with acks := [], bus := !([] : List PmbTr).isEmpty } } := by
    rw [shape]
    exact if_pos ⟨by rw [clk], rfl, rfl⟩
  obtain ⟨clk2, hg2, state, lock2, still2, stands2⟩ := @planHold_spec { w with clk := { w.clk with acks := [], bus := !([] : List PmbTr).isEmpty } }
  subst hv
  rw [holds]
  refine ⟨?_, ?_, ?_, ?_, ?_, ?_, ?_, state, lock2.trans lock, still2.trans still, (stands.trans stop).trans stands2⟩
  · rw [clk2]
  · rw [clk2, clk]
  · rw [clk2, clk, named]
  · rw [clk2, clk, named]
  · rw [clk2, clk, named]
  · rw [clk2, clk, named]
  · rw [hg2, hg, named]

/-! ## The two rows -/

/-- The state in which a partner begins the plan of a message: the plan stands in CLK_PLAN and is acknowledged. -/
def planMessage (r : RxMsg) (s : State) : State :=
  let s := (s.put F.CLK_PLAN_FH_NEXT (nth r.msg.body 0 0)).put F.CLK_PLAN_M (if nth r.msg.body 0 0 = 1 then 0 else nth r.msg.body 1 0)
  hgSend { s with hg := { s.hg with planTag := r.msg.param } } VC_CTRL T_PLAN_ACK 0 r.msg.param []

theorem clockPlan_none {x : Fin 2} (none : msgOwn s x T_CLOCK_PLAN = none) : exec (.clockPlan x) s = .next s := by
  show execClockPlan x s = _
  unfold execClockPlan
  exact onMsg_none none

theorem planAck_none {x : Fin 2} (none : msgOwn s x T_PLAN_ACK = none) : exec (.planAck x) s = .next s := by
  show execPlanAck x s = _
  unfold execPlanAck
  exact onMsg_none none

theorem clockPlan_void {x : Fin 2} (taken : msgOwn s x T_CLOCK_PLAN = some (r, u))
    (void : s.devid = 0 ∨ nth r.msg.body 0 0 = 0 ∨ 4 < nth r.msg.body 0 0) : exec (.clockPlan x) s = .next (partnerHeard u r.msg.src) := by
  obtain ⟨p, a, heard⟩ := partnerHeard_taken taken
  show execClockPlan x s = _
  unfold execClockPlan
  rw [onMsg_taken taken]
  refine congrArg _ (if_pos ?_)
  rw [heard]
  exact void

theorem clockPlan_taken {x : Fin 2} (taken : msgOwn s x T_CLOCK_PLAN = some (r, u)) (partner : s.devid ≠ 0) (low : 1 ≤ nth r.msg.body 0 0)
    (high : nth r.msg.body 0 0 ≤ 4) : exec (.clockPlan x) s =
      .next (planStart (planMessage r (partnerHeard u r.msg.src)) (nth r.msg.body 0 0) (nth r.msg.body 1 0) true) := by
  obtain ⟨p, a, heard⟩ := partnerHeard_taken taken
  show execClockPlan x s = _
  unfold execClockPlan
  rw [onMsg_taken taken]
  refine congrArg _ (if_neg ?_)
  rw [heard]
  rintro (lead | none | above)
  · exact partner lead
  · omega
  · omega

/-- Before its plan begins the partner differs from the state before in the ports, the plan's tag, the partners awaited and
CLK_PLAN, which names the plan. -/
theorem planMessage_spec {x : Nat} (taken : msgOwn s x T_CLOCK_PLAN = some (r, u)) (high : nth r.msg.body 0 0 ≤ 4) (v : State)
    (hv : planMessage r (partnerHeard u r.msg.src) = v) : v.clk = (partnerHeard u r.msg.src).clk ∧ (∃ a, v.clk = { s.clk with await := a }) ∧
      v.mon = s.mon ∧ v.hg.planTag = r.msg.param ∧ v.get F.CLK_PLAN_FH_NEXT = nth r.msg.body 0 0 ∧
      (nth r.msg.body 0 0 = 1 → v.get F.CLK_PLAN_M = 0) ∧ RegsKept s v [A.CLK_PLAN] := by
  obtain ⟨p, a, heard⟩ := partnerHeard_taken taken
  have width : nth r.msg.body 0 0 < 2 ^ F.CLK_PLAN_FH_NEXT.width := Nat.lt_of_le_of_lt high (by decide)
  subst hv
  unfold planMessage
  extract_lets s1
  have clk : s1.clk = (partnerHeard u r.msg.src).clk := by simp [s1]
  have hg : s1.mon = s.mon := by
    simp only [s1, State.put_mon, heard]
  have next : s1.get F.CLK_PLAN_FH_NEXT = nth r.msg.body 0 0 := by
    rw [get_put_apart _ _ _ _ (by decide) (by decide)]
    exact get_put_val _ (by decide) width
  have mult : nth r.msg.body 0 0 = 1 → s1.get F.CLK_PLAN_M = 0 := by
    intro one
    simp only [s1, if_pos one]
    exact get_put_val _ (by decide) (by decide)
  have kept : RegsKept s s1 [A.CLK_PLAN] := by
    simp only [s1, heard]
    rw [regsKept_put (by simp), regsKept_put (by simp), regsKept_with]
    exact RegsKept.refl s _
  clear_value s1
  obtain ⟨q, sent⟩ := @hgSend_ports { s1 with hg := { s1.hg with planTag := r.msg.param } } T_PLAN_ACK VC_CTRL 0 r.msg.param []
  rw [sent]
  exact ⟨clk, ⟨a, by rw [clk, heard]⟩, hg, rfl, next, mult, kept⟩

theorem planAck_other {x : Fin 2} (taken : msgOwn s x T_PLAN_ACK = some (r, u))
    (other : s.devid ≠ 0 ∨ s.clk.phase ≠ .wait ∨ r.msg.param ≠ s.hg.planTag) : exec (.planAck x) s = .next (partnerHeard u r.msg.src) := by
  obtain ⟨p, a, heard⟩ := partnerHeard_taken taken
  show execPlanAck x s = _
  unfold execPlanAck
  rw [onMsg_taken taken]
  refine congrArg _ (if_neg ?_)
  rw [heard]
  rintro ⟨lead, wait, tag⟩
  exact other.elim (· lead) (·.elim (· wait) (· tag))

theorem planAck_taken {x : Fin 2} (taken : msgOwn s x T_PLAN_ACK = some (r, u)) (lead : s.devid = 0) (wait : s.clk.phase = .wait)
    (tag : r.msg.param = s.hg.planTag) : exec (.planAck x) s = .next (planHoldTry { partnerHeard u r.msg.src with
      clk := { (partnerHeard u r.msg.src).clk with acks := s.clk.acks.filter (fun p => decide (p ≠ r.msg.src)) } }) := by
  obtain ⟨p, a, heard⟩ := partnerHeard_taken taken
  show execPlanAck x s = _
  unfold execPlanAck
  rw [onMsg_taken taken]
  refine (congrArg Host.Outcome.next (if_pos ?_)).trans ?_
  · rw [heard]
    exact ⟨lead, wait, tag⟩
  · rw [heard]

end

end Sys2Proof.Machine

open Sys2Proof Sys2Proof.Machine

/-- Settles O7: a taken message changes ports and the partners awaited alone, and a partner's plan has one of two ends. -/
theorem clockPlanMessages : Obligations.ClockPlanMessages := by
  intro s u x r
  refine ⟨?_, ?_, ?_, ?_, ?_, ?_, ?_, ?_, ?_⟩
  · intro taken partner low high run same
    refine Gives.of_next (clockPlan_taken taken partner (by omega) high) ?_
    obtain ⟨-, ⟨a, clk⟩, -, tag, next, -, kept⟩ := planMessage_spec taken high _ rfl
    generalize planMessage r (partnerHeard u r.msg.src) = w at clk tag next kept
    have cls : nth r.msg.body 0 0 = w.clk.cls := by rw [clk, same]
    have dev : w.devid ≠ 0 := by rw [State.devid, kept.get (by decide)]; exact partner
    obtain ⟨phase, why, class', mult, remote, hg, state, lock, off, stands⟩ := planStart_same (m := nth r.msg.body 1 0) (s := w) (by rw [clk, run])
      (by rw [← cls]; omega) dev _ rfl
    rw [cls]
    refine ⟨phase, why, ?_, mult, remote, ?_, ?_, state, lock, off⟩
    · rw [class', clk]
    · rw [hg, tag]
    · rw [stands.get (by decide), next, same]
  · intro taken partner low high run other bus
    refine Gives.of_next (clockPlan_taken taken partner low high) ?_
    obtain ⟨-, ⟨a, clk⟩, mon, tag, next, -, kept⟩ := planMessage_spec taken high _ rfl
    generalize planMessage r (partnerHeard u r.msg.src) = w at clk tag next kept mon
    obtain ⟨phase, why, cls, planCls, planM, remote, hg, state, lock, off, stands⟩ := planStart_other (m := nth r.msg.body 1 0) (s := w)
      (c := nth r.msg.body 0 0) (by rw [clk, run]) (by rw [clk]; exact other) (by rw [mon, bus]) _ rfl
    refine ⟨phase, why, ?_, planCls, planM, remote, ?_, ?_, state, lock, off⟩
    · rw [cls, clk]
    · rw [hg, tag]
    · rw [stands.get (by decide), next]
  · intro taken partner one run cls
    refine Gives.of_next (clockPlan_taken taken partner (by omega) (by omega)) ?_
    obtain ⟨same, ⟨a, clk⟩, -, tag, next, mult, kept⟩ := planMessage_spec taken (by omega) _ rfl
    generalize planMessage r (partnerHeard u r.msg.src) = w at same clk tag next mult kept
    have stays : planStart w (nth r.msg.body 0 0) (nth r.msg.body 1 0) true = w := if_pos (by simp [clk, run, cls, one])
    rw [stays]
    exact ⟨same, next.trans one, mult one, kept _ (by decide)⟩
  · exact fun taken void => Gives.of_next (clockPlan_void taken void) rfl
  · intro taken lead wait tag ⟨p, awaited, other, valid⟩
    obtain ⟨q, a, heard⟩ := partnerHeard_taken taken
    refine Gives.of_eq (planAck_taken taken lead wait tag) (if_neg ?_) rfl
    rw [heard]
    rintro ⟨-, all, -⟩
    have gone := List.all_eq_true.mp all p (List.mem_filter.mpr ⟨awaited, by simp [other]⟩)
    simp only [flag_with, valid] at gone
    exact absurd gone (by decide)
  · intro taken lead wait tag bus all
    obtain ⟨q, a, heard⟩ := partnerHeard_taken taken
    refine Gives.of_eq (planAck_taken taken lead wait tag) (if_pos ?_) ?_
    · rw [heard]
      refine ⟨wait, List.all_eq_true.mpr fun p m => ?_, by simp [bus]⟩
      obtain ⟨awaited, other⟩ := List.mem_filter.mp m
      simp only [flag_with]
      rw [(all p awaited).resolve_left (by simpa using other)]
      rfl
    · obtain ⟨clk, -, state, -⟩ := @planHold_spec { partnerHeard u r.msg.src with
        clk := { (partnerHeard u r.msg.src).clk with acks := s.clk.acks.filter (fun p => decide (p ≠ r.msg.src)) } }
      refine ⟨?_, ?_, ?_, ?_, state⟩
      · rw [clk]
      · rw [clk]
      · rw [clk, heard]
      · rw [clk, heard]
  · exact fun taken other => Gives.of_next (planAck_other taken other) rfl
  · exact fun none => Gives.of_next (clockPlan_none none) rfl
  · exact fun none => Gives.of_next (planAck_none none) rfl
end

section
/-! PROOFS. Transactions of the host port: the snapshot, the status byte, the record of an error; then the queries (O8). -/

namespace Sys2Proof.Machine

section

variable {s t : State} {f : Fld} {n : Nat}

/-! ## The snapshot -/

theorem incWrap_kept : RegsKept s (s.incWrap f) [f.addr] := put_kept s f _

theorem get_incWrap_same (h : f.lo + f.width ≤ 32) : (s.incWrap f).get f = (s.get f + 1) % 2 ^ f.width := get_put_same _ _ _ h

theorem hspSnap_kept : RegsKept s (hspSnap s) [A.SYS_EPOCH] := incWrap_kept

theorem hspSnap_only : OnlyRegs s (hspSnap s) := rfl

@[simp] theorem hspSnap_flag (out : f.addr ∉ [A.SYS_EPOCH]) : (hspSnap s).flag f = s.flag f := (hspSnap_kept).flag out

@[simp] theorem hspSnap_get (out : f.addr ∉ [A.SYS_EPOCH]) : (hspSnap s).get f = s.get f := (hspSnap_kept).get out

@[simp] theorem hspSnap_checking : hostChecking (hspSnap s) = hostChecking s := rfl

@[simp] theorem hspSnap_winWord : winWord (hspSnap s) n = winWord s n := rfl

@[simp] theorem hspSnap_blockResponds : blockResponds (hspSnap s) n = blockResponds s n := by
  unfold blockResponds State.pstate
  rw [hspSnap_get (by decide)]
  rfl

@[simp] theorem hspSnap_rangeResponds {m : Nat} : rangeResponds (hspSnap s) n m = rangeResponds s n m := by
  unfold rangeResponds
  rw [hspSnap_blockResponds, hspSnap_blockResponds]

/-! ## The status byte -/

theorem hspFlags_lt : hspFlags s < 256 := by
  have := @b2n_le (hostChecking s)
  have := @b2n_le (s.flag F.SYS_CMT_STICKY)
  have := @b2n_le (intReq s 4)
  have := @b2n_le (mittenOpen s || s.flag F.SWA_MITTEN_SS_OPEN)
  unfold hspFlags
  omega

/-- The flags stand above the code. -/
theorem hspFlags_code {c : Nat} : (c + hspFlags s) % 16 = c % 16 := by
  unfold hspFlags
  omega

/-! ## The record of a transaction -/

theorem hspRecord_ok : hspRecord s (HS_OK + hspFlags t) = s.put F.SYS_HSPST_LAST (hspFlags t) := by
  unfold hspRecord hspError
  rw [hspFlags_code, if_pos (by decide), Nat.zero_add]

/-- A frame of a wrong length or of an undefined opcode is counted and raises source 7. -/
theorem hspRecord_length {c : Nat} (code : c = HS_LENGTH ∨ c = HS_OPCODE) : hspRecord s (c + hspFlags t) =
    ((s.put F.SYS_HSPST_LAST (c + hspFlags t)).incSat F.SYS_HSPERR_LEN).event 7 := by
  unfold hspRecord hspError
  rw [hspFlags_code]
  rcases code with rfl | rfl <;> rfl

/-- What the record of such a frame leaves after the snapshot. -/
theorem hspRecord_length_spec {c : Nat} (code : c = HS_LENGTH ∨ c = HS_OPCODE) (v : State)
    (hv : hspRecord (hspSnap s) (c + hspFlags (hspSnap s)) = v) : OnlyRegs s v ∧
      v.get F.SYS_EPOCH_EPOCH = (s.get F.SYS_EPOCH_EPOCH + 1) % 2 ^ 32 ∧ v.get F.SYS_HSPST_LAST = (c + hspFlags (hspSnap s)) % 256 ∧
      v.get F.SYS_HSPERR_LEN = Nat.min 255 (s.get F.SYS_HSPERR_LEN + 1) ∧ EdgeTaken s v 7 ∧
      RegsKept s v ([A.SYS_EPOCH, A.SYS_HSPST, A.SYS_HSPERR] ++ sourceRegs 7) := by
  rw [hspRecord_length code] at hv
  generalize c + hspFlags (hspSnap s) = st at hv ⊢
  have last : ((hspSnap s).put F.SYS_HSPST_LAST st).get F.SYS_HSPST_LAST = st % 256 := get_put_same _ _ _ (by decide)
  have epoch : ((hspSnap s).put F.SYS_HSPST_LAST st).get F.SYS_EPOCH_EPOCH = (s.get F.SYS_EPOCH_EPOCH + 1) % 2 ^ 32 := by
    rw [get_put_apart _ _ _ _ (by decide) (by decide)]
    exact get_incWrap_same (by decide)
  have kept : RegsKept s ((hspSnap s).put F.SYS_HSPST_LAST st) [A.SYS_EPOCH, A.SYS_HSPST] := (hspSnap_kept).trans (put_kept _ _ _)
  have only : OnlyRegs s ((hspSnap s).put F.SYS_HSPST_LAST st) := rfl
  generalize (hspSnap s).put F.SYS_HSPST_LAST st = w at last epoch kept only hv
  have inc : RegsKept w (w.incSat F.SYS_HSPERR_LEN) [A.SYS_HSPERR] := incSat_kept
  have still : OnlyRegs w (w.incSat F.SYS_HSPERR_LEN) := by rw [OnlyRegs, eq_with_regs]; simp
  have count : (w.incSat F.SYS_HSPERR_LEN).get F.SYS_HSPERR_LEN = Nat.min 255 (w.get F.SYS_HSPERR_LEN + 1) := get_incSat_same (by decide)
  generalize w.incSat F.SYS_HSPERR_LEN = i at inc still count hv
  subst hv
  have all : RegsKept s i [A.SYS_EPOCH, A.SYS_HSPST, A.SYS_HSPERR] := (kept).trans inc
  have base : OnlyRegs s i := by
    rw [OnlyRegs] at still only ⊢
    rw [still, only]
  refine ⟨?_, ?_, ?_, ?_, ?_, ?_⟩
  · rw [onlyRegs_event]
    exact base
  · rw [get_event_apart _ (by decide), inc.get (by decide), epoch]
  · rw [get_event_apart _ (by decide), inc.get (by decide), last]
  · rw [get_event_apart _ (by decide), count, kept.get (by decide)]
  · obtain ⟨pend, edges⟩ := event_taken i 7
    exact ⟨pend, edges.trans (by rw [all.pair (by decide) (by decide)])⟩
  · exact (all).trans (event_kept _ _)

/-! ## A transaction of the host's own device -/

/-- A transaction on the port itself is served locally. -/
theorem hspRun_local {op addr cnt crc : Nat} {data : List Word} (answers : hspAnswers s = true) (good : crc = hostCrc op addr cnt data)
    (own : cntDev cnt = 0 ∨ op = OP_TICK ∨ opDefined op = false) : ∃ r, r = hspLocal .host (hspSnap s) op addr cnt data
      (localCode (hspSnap s) op addr cnt data) ∧ hspRun op addr cnt data crc s = hspDrive r.1 r.2.1 r.2.2 := by
  refine ⟨_, rfl, ?_⟩
  unfold hspRun
  rw [if_neg (by simp [answers])]
  dsimp only
  rw [if_neg (by simp [good]), if_pos (by simpa using own)]

/-- The transaction is in order: its effect, the record and its words. -/
theorem hspRun_ok {op addr cnt crc : Nat} {data : List Word} (answers : hspAnswers s = true) (good : crc = hostCrc op addr cnt data)
    (own : cntDev cnt = 0 ∨ op = OP_TICK) (inOrder : localCode (hspSnap s) op addr cnt data = HS_OK) :
    hspRun op addr cnt data crc s = hspDrive ((hspEffect .host (hspSnap s) op addr (cntN cnt) data).put F.SYS_HSPST_LAST (hspFlags (hspSnap s)))
      (hspFlags (hspSnap s)) (hspWords (hspSnap s) op addr (cntN cnt)) := by
  obtain ⟨r, local', run⟩ := hspRun_local answers good (own.imp_right Or.inl)
  rw [run, local', inOrder]
  unfold hspLocal
  rw [if_pos rfl, hspRecord_ok, Nat.zero_add]

/-- A transaction without an effect answers its words. -/
theorem hspRun_query {op addr cnt crc : Nat} {data : List Word} (answers : hspAnswers s = true) (good : crc = hostCrc op addr cnt data)
    (own : cntDev cnt = 0 ∨ op = OP_TICK) (inOrder : localCode (hspSnap s) op addr cnt data = HS_OK)
    (still : hspEffect .host (hspSnap s) op addr (cntN cnt) data = hspSnap s) (v : State) (hv : hspRun op addr cnt data crc s = v) :
    Answered s v (hspFlags (hspSnap s)) (hspWords (hspSnap s) op addr (cntN cnt)) ∧
      v = { s with regs := v.regs, hsp := { s.hsp with resp := v.hsp.resp } } ∧ RegsKept s v [A.SYS_EPOCH, A.SYS_HSPST] := by
  subst hv
  rw [hspRun_ok answers good own inOrder, still]
  generalize hws : hspWords (hspSnap s) op addr (cntN cnt) = ws
  generalize hst : hspFlags (hspSnap s) = st
  have width : st < 256 := hst ▸ hspFlags_lt
  unfold hspDrive
  have last : ((hspSnap s).put F.SYS_HSPST_LAST st).get F.SYS_HSPST_LAST = st % 256 := get_put_same _ _ _ (by decide)
  have epoch : ((hspSnap s).put F.SYS_HSPST_LAST st).get F.SYS_EPOCH_EPOCH = (s.get F.SYS_EPOCH_EPOCH + 1) % 2 ^ 32 := by
    rw [get_put_apart _ _ _ _ (by decide) (by decide)]
    exact get_incWrap_same (by decide)
  have kept : RegsKept s ((hspSnap s).put F.SYS_HSPST_LAST st) [A.SYS_EPOCH, A.SYS_HSPST] := (hspSnap_kept).trans (put_kept _ _ _)
  have only : OnlyRegs s ((hspSnap s).put F.SYS_HSPST_LAST st) := rfl
  generalize (hspSnap s).put F.SYS_HSPST_LAST st = w at last epoch kept only
  obtain ⟨r, rfl⟩ : ∃ r, w = { s with regs := r } := ⟨_, only⟩
  exact ⟨⟨epoch, last, rfl⟩, rfl, kept⟩

/-- A transaction that names neither a refusal nor a commit is in order when its frame is. -/
theorem localCode_query {op addr cnt : Nat} (known : opDefined op = true) (frame : frameBad op addr cnt = false)
    (query : op = OP_TICK ∨ op = OP_STATUS ∨ op = OP_READ ∧ rangeResponds s addr (cntN cnt) = true ∨
      op = OP_WINDOW ∧ windowDenied s addr (cntN cnt) = false) : localCode s op addr cnt [] = HS_OK := by
  unfold localCode
  rcases query with rfl | rfl | ⟨rfl, within⟩ | ⟨rfl, within⟩
  · simp [frame, known]
  · simp [frame, known]
  · simp [frame, known, within]
  · simp [frame, known, within]

end

end Sys2Proof.Machine

open Sys2Proof Sys2Proof.Machine

/-- Settles O8: a query in order is its snapshot, the record and the words driven. -/
theorem hspQueries : Obligations.HspQueries := by
  intro s addr cnt crc answers
  refine ⟨?_, ?_, ?_, ?_, ?_, ?_, ?_⟩
  · intro good frame
    exact Gives.of_next rfl (hspRun_query answers good (Or.inr rfl) (localCode_query (by decide) frame (by simp)) rfl _ rfl)
  · intro good frame own
    have answer := hspRun_query answers good (Or.inl own) (localCode_query (by decide) frame (by simp)) rfl _ rfl
    have words : hspWords (hspSnap s) OP_STATUS addr.toNat (cntN cnt.toNat) =
        [(hspSnap s).rd A.SYS_EPOCH, s.rd A.SYS_CMT, s.rd A.SYS_CMT_REASON, s.rd A.SYS_CMT_OBJ] := by
      simp only [hspWords, (hspSnap_kept : RegsKept s _ _) A.SYS_CMT (by decide), (hspSnap_kept : RegsKept s _ _) A.SYS_CMT_REASON (by decide),
        (hspSnap_kept : RegsKept s _ _) A.SYS_CMT_OBJ (by decide)]
      rfl
    rw [words] at answer
    exact Gives.of_next rfl answer
  · intro good frame own within windows
    have still : readEffects (hspSnap s) addr.toNat (cntN cnt.toNat) = hspSnap s := by
      unfold readEffects
      rw [windows]
      rfl
    exact Gives.of_next rfl (hspRun_query answers good (Or.inl own) (localCode_query (by decide) frame (by simp [within])) still _ rfl)
  · intro good frame own low within
    have loads : regionOf addr.toNat (cntN cnt.toNat) ≠ 3 := by
      unfold regionOf
      dsimp only
      split_ifs <;> omega
    have open' : windowDenied (hspSnap s) addr.toNat (cntN cnt.toNat) = false := by simp [windowDenied, within, loads]
    have still : hspEffect .host (hspSnap s) OP_WINDOW addr.toNat (cntN cnt.toNat) [] = hspSnap s := by
      unfold hspEffect
      rw [if_neg (by decide), if_neg (by decide), if_neg (by decide), if_neg (by decide), if_neg (by omega)]
    have answer := hspRun_query answers good (Or.inl own) (localCode_query (by decide) frame (by simp [open'])) still _ rfl
    have words : hspWords (hspSnap s) OP_WINDOW addr.toNat (cntN cnt.toNat) =
        (upto (cntN cnt.toNat)).map (fun i => winWord s (addr.toNat + 4 * i)) := if_pos low
    rw [words] at answer
    exact Gives.of_next rfl answer
  · intro op undefined good
    obtain ⟨r, local', run⟩ := hspRun_local answers good (Or.inr (Or.inr undefined))
    have code : localCode (hspSnap s) op.toNat addr.toNat cnt.toNat [] = HS_OPCODE := by
      unfold localCode
      simp [undefined]
    have ends : r = (hspRecord (hspSnap s) (HS_OPCODE + hspFlags (hspSnap s)), HS_OPCODE + hspFlags (hspSnap s), []) := by
      rw [local', code]
      rfl
    obtain ⟨only, epoch, last, -, edge, kept⟩ := hspRecord_length_spec (s := s) (Or.inr rfl : HS_OPCODE = HS_LENGTH ∨ HS_OPCODE = HS_OPCODE) _ rfl
    refine Gives.of_eq rfl ((if_neg (by simp [undefined])).trans run) ?_
    rw [ends]
    dsimp only
    generalize hspRecord (hspSnap s) (HS_OPCODE + hspFlags (hspSnap s)) = w at only epoch last edge kept
    obtain ⟨g, rfl⟩ : ∃ g, w = { s with regs := g } := ⟨_, only⟩
    exact ⟨⟨epoch, last, rfl⟩, edge, rfl, kept⟩
  · obtain ⟨only, -, last, count, edge, kept⟩ := hspRecord_length_spec (s := s) (Or.inl rfl : HS_LENGTH = HS_LENGTH ∨ HS_LENGTH = HS_OPCODE) _ rfl
    have run : exec .truncatedTransaction s = .next { hspRecord (hspSnap s) (HS_LENGTH + hspFlags (hspSnap s)) with
        hsp := { (hspRecord (hspSnap s) (HS_LENGTH + hspFlags (hspSnap s))).hsp with resp := none } } := if_neg (by simp [answers])
    refine Gives.of_next run ?_
    generalize hspRecord (hspSnap s) (HS_LENGTH + hspFlags (hspSnap s)) = w at only last count edge kept
    obtain ⟨g, rfl⟩ : ∃ g, w = { s with regs := g } := ⟨_, only⟩
    exact ⟨last, count, edge, rfl, kept⟩
  · have run : exec .resetMode s = .next { ((hspSnap s).put F.SYS_HSPST_LAST (hspFlags (hspSnap s))).put F.SYS_HSPCFG_QUAD 0 with
        hsp := { (((hspSnap s).put F.SYS_HSPST_LAST (hspFlags (hspSnap s))).put F.SYS_HSPCFG_QUAD 0).hsp with resp := none } } :=
      if_neg (by simp [answers])
    refine Gives.of_next run ?_
    have last : (((hspSnap s).put F.SYS_HSPST_LAST (hspFlags (hspSnap s))).put F.SYS_HSPCFG_QUAD 0).get F.SYS_HSPST_LAST =
        hspFlags (hspSnap s) % 256 := by
      rw [get_put_apart _ _ _ _ (by decide) (by decide), get_put_same _ _ _ (by decide)]
      rfl
    have quad : (((hspSnap s).put F.SYS_HSPST_LAST (hspFlags (hspSnap s))).put F.SYS_HSPCFG_QUAD 0).get F.SYS_HSPCFG_QUAD = 0 :=
      get_put_val _ (by decide) (by decide)
    have kept : RegsKept s (((hspSnap s).put F.SYS_HSPST_LAST (hspFlags (hspSnap s))).put F.SYS_HSPCFG_QUAD 0)
        [A.SYS_EPOCH, A.SYS_HSPST, A.SYS_HSPCFG] := ((hspSnap_kept).trans (put_kept _ _ _)).trans (put_kept _ _ _)
    have only : OnlyRegs s (((hspSnap s).put F.SYS_HSPST_LAST (hspFlags (hspSnap s))).put F.SYS_HSPCFG_QUAD 0) := rfl
    generalize ((hspSnap s).put F.SYS_HSPST_LAST (hspFlags (hspSnap s))).put F.SYS_HSPCFG_QUAD 0 = w at last quad kept only
    obtain ⟨g, rfl⟩ : ∃ g, w = { s with regs := g } := ⟨_, only⟩
    exact ⟨last, quad, rfl, kept⟩
end

section
/-! PROOFS. Writes and commits of the host port, and the admission decision (O9). -/

namespace Sys2Proof.Machine

section

variable {s t : State} {f : Fld} {n : Nat}

/-! ## A transaction with an effect -/

/-- What is left of a transaction in order beside its effect. -/
theorem hspRun_served {op addr cnt crc : Nat} {data : List Word} (answers : hspAnswers s = true) (good : crc = hostCrc op addr cnt data)
    (own : cntDev cnt = 0 ∨ op = OP_TICK) (inOrder : localCode (hspSnap s) op addr cnt data = HS_OK) (silent : hspWords (hspSnap s) op addr (cntN cnt) = [])
    (e : State) (he : hspEffect .host (hspSnap s) op addr (cntN cnt) data = e) (v : State) (hv : hspRun op addr cnt data crc s = v) :
    v = { e with regs := v.regs, hsp := { e.hsp with resp := v.hsp.resp } } ∧ v.get F.SYS_HSPST_LAST = hspFlags (hspSnap s) % 256 ∧
      v.hsp.resp = some ⟨hspFlags (hspSnap s), [], crc16 [hspFlags (hspSnap s)]⟩ ∧ RegsKept e v [A.SYS_HSPST] := by
  subst hv
  rw [hspRun_ok answers good own inOrder, he, silent]
  generalize hspFlags (hspSnap s) = st
  have last : (e.put F.SYS_HSPST_LAST st).get F.SYS_HSPST_LAST = st % 256 := get_put_same _ _ _ (by decide)
  have kept : RegsKept e (e.put F.SYS_HSPST_LAST st) [A.SYS_HSPST] := put_kept _ _ _
  have only : OnlyRegs e (e.put F.SYS_HSPST_LAST st) := rfl
  generalize e.put F.SYS_HSPST_LAST st = w at last kept only
  obtain ⟨r, rfl⟩ : ∃ r, w = { e with regs := r } := ⟨_, only⟩
  exact ⟨rfl, last, rfl, kept⟩

@[simp] theorem hspSnap_hsp : (hspSnap s).hsp = s.hsp := rfl

/-- An effect on the registers and the port alone leaves the rest after the transaction too. -/
theorem served_only {e v : State} (only : e = { s with regs := e.regs, hsp := e.hsp })
    (served : v = { e with regs := v.regs, hsp := { e.hsp with resp := v.hsp.resp } }) : v = { s with regs := v.regs, hsp := v.hsp } := by
  generalize hr : v.regs = r at *
  generalize hh : v.hsp = h at *
  rw [only] at served
  rw [served]
  have same : ({ e.hsp with resp := h.resp } : HspSt) = h := by
    rw [← hh, served]
  rw [← same]

/-- The answer of a transaction whose effect leaves the epoch. -/
theorem answered_of_served {e v : State} (epoch : e.get F.SYS_EPOCH_EPOCH = (hspSnap s).get F.SYS_EPOCH_EPOCH)
    (last : v.get F.SYS_HSPST_LAST = hspFlags (hspSnap s) % 256)
    (resp : v.hsp.resp = some ⟨hspFlags (hspSnap s), [], crc16 [hspFlags (hspSnap s)]⟩) (kept : RegsKept e v [A.SYS_HSPST]) :
    Answered s v (hspFlags (hspSnap s)) [] :=
  ⟨by rw [kept.get (by decide), epoch]; exact get_incWrap_same (by decide), last, resp⟩

@[simp] theorem hspSnap_coreState : coreState (hspSnap s) n = coreState s n := by
  unfold coreState
  split
  · exact hspSnap_get (by simp [A.FRW_COREc_ST, A.SYS_EPOCH]; omega)
  · rw [hspSnap_get (by decide)]
    rfl

theorem hspSnap_pstate : (hspSnap s).pstate = s.pstate := hspSnap_get (by decide)

@[simp] theorem hspSnap_windowsGated : windowsGated (hspSnap s) = windowsGated s := by
  unfold windowsGated
  rw [hspSnap_pstate]
  rfl

@[simp] theorem hspSnap_winOpen : winOpen (hspSnap s) n = winOpen s n := by
  unfold winOpen coreIdle inCwin
  simp (disch := decide) only [hspSnap_coreState, hspSnap_windowsGated, hspSnap_flag, hspSnap_get, hspSnap_pstate]

@[simp] theorem hspSnap_writeDenied {m : Nat} : writeDenied (hspSnap s) n m = writeDenied s n m := by
  unfold writeDenied
  simp only [hspSnap_rangeResponds, hspSnap_winOpen]

/-- A write or a commit is in order with no refusal to acknowledge and no commit under check. -/
theorem localCode_commit {op addr cnt : Nat} {data : List Word} (op' : op = OP_WRITE ∨ op = OP_COMMIT) (frame : frameBad op addr cnt = false)
    (sticky : s.flag F.SYS_CMT_STICKY = false) (idle : hostChecking s = false)
    (fits : op = OP_WRITE → data.length = cntN cnt ∧ stageOver s addr data = false ∧ writeDenied s addr (cntN cnt) = false) :
    localCode s op addr cnt data = HS_OK := by
  unfold localCode
  rcases op' with rfl | rfl
  · obtain ⟨len, stage, allowed⟩ := fits rfl
    simp [frame, sticky, idle, len, stage, allowed, opDefined]
  · simp [frame, sticky, idle, opDefined]

/-! ## The staging set -/

theorem stageSet_spec {v : Option (List (Nat × Word))} (small : (v.getD []).length < 2 ^ 13) (w : State) (hw : stageSet s v = w) :
    w = { s with regs := w.regs, hsp := { s.hsp with stage := v } } ∧ w.flag F.SYS_STAGE_OPEN = v.isSome ∧
      w.get F.SYS_STAGE_WORDS = (v.getD []).length ∧ RegsKept s w [A.SYS_STAGE] := by
  have width : (v.getD []).length < 2 ^ F.SYS_STAGE_WORDS.width := small
  subst hw
  unfold stageSet
  generalize (v.getD []).length = m at width
  refine ⟨?_, ?_, ?_, ?_⟩
  · rw [eq_with_regs]
    simp
  · simp (disch := decide) [flag_mark_same]
  · exact get_put_val _ (by decide) width
  · simp

/-- A commit with a checked word in it joins the admission controller's. -/
theorem hostCommit_checked {ws : List (Nat × Word)} (checked : needsCheck ws = true) (w : State) (hw : hostCommit .host ws s = w) :
    w = { s with regs := w.regs, hsp := { s.hsp with checks := s.hsp.checks ++ [⟨.host, ws⟩] } } ∧ w.get F.SYS_CMT_RESULT = 1 ∧
      w.get F.SYS_CMT_SEQ = (s.get F.SYS_CMT_SEQ + 1) % 2 ^ F.SYS_CMT_SEQ.width ∧ RegsKept s w [A.SYS_CMT] := by
  subst hw
  unfold hostCommit
  dsimp only
  rw [if_pos checked]
  refine ⟨?_, ?_, ?_, ?_⟩
  · rw [eq_with_regs]
    simp
  · rw [get_with]
    exact get_put_val _ (by decide) (by decide)
  · rw [get_with, get_put_apart _ _ _ _ (by decide) (by decide), get_incWrap_same (by decide)]
  · rw [regsKept_with, regsKept_put (by simp)]
    exact incWrap_kept

theorem hostCommit_now {ws : List (Nat × Word)} (free : needsCheck ws = false) :
    hostCommit .host ws s = applyNow .host ws ((s.incWrap F.SYS_CMT_SEQ).put F.SYS_CMT_RESULT 2) := by
  unfold hostCommit
  dsimp only
  rw [if_neg (by simp [free])]

/-! ## The three commits -/

theorem commitOpen_effect {n : Nat} : hspEffect .host s OP_COMMIT 0 n [] = stageSet s (some []) := rfl

theorem commitDiscard_effect {n : Nat} : hspEffect .host s OP_COMMIT 2 n [] = stageSet s none := rfl

theorem commitApply_effect {n : Nat} {l : List (Nat × Word)} (stage : s.hsp.stage = some l) :
    hspEffect .host s OP_COMMIT 1 n [] = hostCommit .host l (stageSet s none) := by
  have plain : hspEffect .host s OP_COMMIT 1 n [] = hspCommit .host s 1 := rfl
  rw [plain]
  unfold hspCommit
  rw [if_neg (by decide)]
  dsimp only
  rw [if_pos rfl, stage]

theorem commitApply_closed {n : Nat} (stage : s.hsp.stage = none) : hspEffect .host s OP_COMMIT 1 n [] = stageSet s none := by
  have plain : hspEffect .host s OP_COMMIT 1 n [] = hspCommit .host s 1 := rfl
  rw [plain]
  unfold hspCommit
  rw [if_neg (by decide)]
  dsimp only
  rw [if_pos rfl, stage]

/-! ## Zeroize -/

/-- Of the swath's part the strips alone change. -/
def StripsOnly (s t : State) : Prop := ∃ l, t.swa = { s.swa with strip := l }

theorem StripsOnly.trans {u : State} (h : StripsOnly s t) (k : StripsOnly t u) : StripsOnly s u := by
  obtain ⟨l, hl⟩ := h
  obtain ⟨m, hm⟩ := k
  exact ⟨m, by rw [hm, hl]⟩

theorem StripsOnly.forEach {α : Type} {l : List α} {g : State → α → State} (h : ∀ s a, StripsOnly s (g s a)) : StripsOnly s (forEach l g s) := by
  unfold Machine.forEach
  induction l generalizing s with
  | nil => exact ⟨s.swa.strip, rfl⟩
  | cons a l ih => exact (h s a).trans ih

theorem stripZero_only {k : Nat} : StripsOnly s (stripZero s k) := ⟨_, rfl⟩

theorem zeroWake_swa {b : Bool} : (zeroWake s b).swa = s.swa := (zeroWake_keeps).swa rfl

theorem zeroSwath_swa : ∃ l z, (zeroSwath s).swa = { s.swa with strip := l, zeroAt := z, mem := [], bad := [], soft := [] } := by
  unfold zeroSwath
  extract_lets sc old s1 s2 s3 s4 old4
  have zeroed : StripsOnly s1 s2 := .forEach fun _ _ => stripZero_only
  have moved : StripsOnly s2 s3 := .forEach fun _ _ => ⟨_, rfl⟩
  obtain ⟨l, strips⟩ := zeroed.trans moved
  have ends : s4.swa = s3.swa := (zeroWake_swa).trans (State.setPair_swa ..)
  refine ⟨l, s1.swa.zeroAt, ?_⟩
  have shape : old4 = { s1.swa with strip := l } := ends.trans strips
  clear_value old4
  rw [shape]

/-- The registers that a zeroize leaves: all outside the swath's block, and SWA_ST. -/
abbrev BesideZeroize (a : Nat) : Prop := a / 65536 ∉ [7] ∨ a = A.SWA_ST

theorem zeroize_inside {a : Nat} (block : a / 65536 = 7) (other : a ≠ A.SWA_ST) : ¬ BesideZeroize a := by
  rintro (out | here)
  · exact out (by simp [block])
  · exact other here

theorem zeroizePair_stands {lo v : Nat} (low : lo / 65536 = 7) (high : (lo + 4) / 65536 = 7) (a : lo ≠ A.SWA_ST) (b : lo + 4 ≠ A.SWA_ST) :
    Stands BesideZeroize s (s.setPair lo v) := .of_kept (setPair_kept s lo v) fun x out m => by
  rcases List.mem_cons.mp m with rfl | m
  · exact zeroize_inside low a out
  · rw [List.mem_singleton.mp m] at out
    exact zeroize_inside high b out

theorem mittenWindow_zeroize {m : Nat} : Stands BesideZeroize s (mittenWindow s m) := by
  unfold mittenWindow
  extract_lets w1 s1 w2 s2
  refine Stands.ite ?_ ?_
  · exact (zeroizePair_stands (by decide) (by decide) (by decide) (by decide)).trans (Stands.put (zeroize_inside (by decide) (by decide)))
  · refine (zeroizePair_stands (by decide) (by decide) (by decide) (by decide)).trans (Stands.forEach fun t k h => ?_)
    have strip : k < 8 := mem_upto (List.mem_of_mem_filter h)
    exact Stands.put (zeroize_inside (by simp only [A.SWA_STs_AVAIL]; omega) (by simp only [A.SWA_STs_AVAIL, A.SWA_ST]; omega))

theorem zeroWake_stands {b : Bool} : Stands BesideZeroize s (zeroWake s b) := by
  unfold zeroWake
  split
  · exact Stands.ite mittenWindow_zeroize Stands.rfl
  · exact Stands.rfl

theorem stripZero_stands {k : Nat} (strip : k < 8) : Stands BesideZeroize s (stripZero s k) := by
  unfold stripZero stripDiscard
  extract_lets st s1 s2 st2
  have h1 : Stands BesideZeroize s s1 := Stands.rfl.parts rfl
  have h2 : Stands BesideZeroize s1 s2 := zeroizePair_stands (by simp only [A.SWA_STs_DISC_LO]; omega) (by simp only [A.SWA_STs_DISC_LO]; omega)
    (by simp only [A.SWA_STs_DISC_LO, A.SWA_ST]; omega) (by simp only [A.SWA_STs_DISC_LO, A.SWA_ST]; omega)
  have h3 : Stands BesideZeroize s2 (s2.setStrip k { st2 with owed := [] }) := Stands.rfl.parts rfl
  exact ((h1.trans h2).trans h3).trans (Stands.put (zeroize_inside (by simp only [A.SWA_STs_PEND]; omega) (by simp only [A.SWA_STs_PEND, A.SWA_ST]; omega)))

theorem zeroSwath_stands : Stands BesideZeroize s (zeroSwath s) := by
  unfold zeroSwath
  extract_lets sc old s1 s2 s3 s4 old4
  have h1 : Stands BesideZeroize s s1 := Stands.rfl.parts rfl
  have h2 : Stands BesideZeroize s1 s2 := Stands.forEach fun _ k h => stripZero_stands (mem_upto (List.mem_of_mem_filter h))
  have h3 : Stands BesideZeroize s2 s3 := Stands.forEach fun t k h => by
    have strip : k < 8 := mem_upto (List.mem_of_mem_filter h)
    exact (zeroizePair_stands (by simp only [A.SWA_STs_UPTR_LO]; omega) (by simp only [A.SWA_STs_UPTR_LO]; omega)
      (by simp only [A.SWA_STs_UPTR_LO, A.SWA_ST]; omega) (by simp only [A.SWA_STs_UPTR_LO, A.SWA_ST]; omega)).parts rfl
  have h4 : Stands BesideZeroize s3 s4 := (zeroizePair_stands (by decide) (by decide) (by decide) (by decide)).trans zeroWake_stands
  exact (((h1.trans h2).trans h3).trans h4).parts rfl

theorem zeroSwath_blocks : BlocksKept [7] s (zeroSwath s) := (zeroSwath_stands).weaken fun _ out => Or.inl out

theorem zeroShort_swa : ∃ c g z, (zeroShort s).swa =
    { s.swa with szeroAt := z, short := [], badShort := [], softShort := [], scur := c, stags := g } := by
  unfold zeroShort
  extract_lets s1 s2 old s3 cur tags old3 s4
  have same : old3 = { s.swa with szeroAt := s3.swa.szeroAt } := by simp [old3, s3, old, s2, s1]
  refine ⟨cur, tags, s3.swa.szeroAt, ?_⟩
  clear_value old3
  subst same
  exact zeroWake_swa

theorem zeroShort_stands : Stands BesideZeroize s (zeroShort s) := by
  unfold zeroShort
  extract_lets s1 s2 old s3 cur tags old3 s4
  have h1 : Stands BesideZeroize s s1 := zeroizePair_stands (by decide) (by decide) (by decide) (by decide)
  have h2 : Stands BesideZeroize s1 s2 := zeroizePair_stands (by decide) (by decide) (by decide) (by decide)
  have h4 : Stands BesideZeroize s2 s4 := (Stands.rfl.parts (t := s2) (u := s3) rfl).trans (Stands.rfl.parts rfl)
  exact ((h1.trans h2).trans h4).trans zeroWake_stands

/-- The swath's zeroize outside SENTRY. -/
theorem zeroSwathStart_awake (out : s.pstate ≠ SENTRY) : (zeroSwathStart s).swa.mem = [] ∧ (zeroSwathStart s).swa.zsw = true ∧
    (zeroSwathStart s).swa.short = s.swa.short ∧ (zeroSwathStart s).swa.zss = s.swa.zss ∧ BlocksKept [7] s (zeroSwathStart s) := by
  obtain ⟨l, z, zeroed⟩ := @zeroSwath_swa s
  have here : zeroSwathStart s = State.put { zeroSwath s with swa := { (zeroSwath s).swa with zsw := true } } F.SWA_ST_ZBUSY
    (1 + 2 * b2n (zeroSwath s).swa.zss) := if_neg out
  rw [here]
  refine ⟨?_, ?_, ?_, ?_, ?_⟩
  · rw [State.put_swa, zeroed]
  · rw [State.put_swa]
  · rw [State.put_swa, zeroed]
  · rw [State.put_swa, zeroed]
  · rw [blocksKept_put (by decide), blocksKept_with]
    exact zeroSwath_blocks

/-- The short swath's zeroize. -/
theorem zeroShortStart_spec : (zeroShortStart s).swa.short = [] ∧ (zeroShortStart s).swa.zss = true ∧
    (zeroShortStart s).swa.mem = s.swa.mem ∧ (zeroShortStart s).swa.zsw = s.swa.zsw ∧
    (zeroShortStart s).flag F.SWA_ST_ZDONE = s.flag F.SWA_ST_ZDONE ∧ BlocksKept [7] s (zeroShortStart s) := by
  obtain ⟨c, g, z, zeroed⟩ := @zeroShort_swa s
  have stands : Stands BesideZeroize s (zeroShort s) := zeroShort_stands
  unfold zeroShortStart
  generalize zeroShort s = w at zeroed stands
  refine ⟨?_, ?_, ?_, ?_, ?_, ?_⟩
  · rw [State.put_swa, zeroed]
  · rw [State.put_swa]
  · rw [State.put_swa, zeroed]
  · rw [State.put_swa, zeroed]
  · rw [flag_put_apart _ _ _ _ (by decide) (by decide), flag_with, stands.flag (Or.inr rfl)]
  · rw [blocksKept_put (by decide), blocksKept_with]
    exact Stands.weaken stands fun _ out => Or.inl out

theorem zeroSwathStart_sentry (here : s.pstate = SENTRY) : zeroSwathStart s = (s.mark F.SWA_ST_ZDONE true).event 54 := if_pos here

/-- What a ZEROIZE does to the memory it names, and that it leaves the other. -/
theorem hspZeroize_spec {a : Nat} :
    (bit a 0 = true → s.pstate ≠ SENTRY → (hspZeroize s a).swa.zsw = true ∧ (hspZeroize s a).swa.mem = []) ∧
    (bit a 0 = true → s.pstate = SENTRY → (hspZeroize s a).swa.mem = s.swa.mem ∧ (hspZeroize s a).flag F.SWA_ST_ZDONE = true ∧
      (hspZeroize s a).flag (F.INT_SRCs_PEND 54) = true) ∧
    (bit a 0 = false → (hspZeroize s a).swa.mem = s.swa.mem ∧ (hspZeroize s a).swa.zsw = s.swa.zsw) ∧
    (bit a 1 = true → (hspZeroize s a).swa.zss = true ∧ (hspZeroize s a).swa.short = []) ∧
    (bit a 1 = false → (hspZeroize s a).swa.short = s.swa.short ∧ (hspZeroize s a).swa.zss = s.swa.zss) := by
  have second : ∀ w : State, (if bit a 1 then zeroShortStart w else w).swa.mem = w.swa.mem ∧
      (if bit a 1 then zeroShortStart w else w).swa.zsw = w.swa.zsw ∧
      (if bit a 1 then zeroShortStart w else w).flag F.SWA_ST_ZDONE = w.flag F.SWA_ST_ZDONE ∧
      (if bit a 1 then zeroShortStart w else w).flag (F.INT_SRCs_PEND 54) = w.flag (F.INT_SRCs_PEND 54) := fun w => by
    split
    · obtain ⟨-, -, mem, zsw, done, blocks⟩ := @zeroShortStart_spec w
      exact ⟨mem, zsw, done, blocks.flag (by decide)⟩
    · exact ⟨rfl, rfl, rfl, rfl⟩
  have first : (if bit a 0 then zeroSwathStart s else s).swa.short = s.swa.short ∧ (if bit a 0 then zeroSwathStart s else s).swa.zss = s.swa.zss := by
    split
    · by_cases here : s.pstate = SENTRY
      · rw [zeroSwathStart_sentry here, State.event_swa, State.mark_swa]
        exact ⟨rfl, rfl⟩
      · obtain ⟨-, -, short, zss, -⟩ := zeroSwathStart_awake here
        exact ⟨short, zss⟩
    · exact ⟨rfl, rfl⟩
  unfold hspZeroize
  dsimp only
  refine ⟨?_, ?_, ?_, ?_, ?_⟩
  · intro named out
    rw [if_pos named, (second _).1, (second _).2.1]
    obtain ⟨mem, zsw, -⟩ := zeroSwathStart_awake out
    exact ⟨zsw, mem⟩
  · intro named here
    rw [if_pos named, (second _).1, (second _).2.2.1, (second _).2.2.2, zeroSwathStart_sentry here, State.event_swa, State.mark_swa]
    refine ⟨rfl, ?_, flag_event_pending ..⟩
    simp (disch := decide) [flag_mark_same]
  · intro other
    rw [(second _).1, (second _).2.1, if_neg (by simp [other])]
    exact ⟨rfl, rfl⟩
  · intro named
    rw [if_pos named]
    obtain ⟨short, zss, -⟩ := @zeroShortStart_spec (if bit a 0 then zeroSwathStart s else s)
    exact ⟨zss, short⟩
  · intro other
    rw [if_neg (by simp [other])]
    exact first

/-- Both zeroizes together, as a ZEROIZE names them. -/
theorem hspZeroize_blocks {a : Nat} : BlocksKept [7, 10] s (hspZeroize s a) := by
  have first : BlocksKept [7, 10] s (if bit a 0 then zeroSwathStart s else s) := by
    refine .ite ?_ (by simp)
    by_cases sentry : s.pstate = SENTRY
    · rw [show zeroSwathStart s = (s.mark F.SWA_ST_ZDONE true).event 54 from if_pos sentry]
      simp (disch := decide)
    · exact ((zeroSwathStart_awake sentry).2.2.2.2).mono (by simp)
  exact BlocksKept.ite (first.trans ((zeroShortStart_spec.2.2.2.2.2).mono (by simp))) first

/-! ## The admission decision -/

theorem remapsWaiting_none (none : s.mic.waitRemap = []) : remapsWaiting s = s := by
  unfold remapsWaiting
  split
  · rfl
  · have drop : ({ s with mic := { s.mic with waitRemap := [] } } : State) = s := by rw [← none]
    have nobody : (upto 32).filter (fun n => mapOn s n && s.mic.waitRemap.contains (mapPhys s n)) = [] :=
      List.filter_eq_nil_iff.mpr fun k _ => by simp [none]
    simp only [nobody, drop]
    rfl

section

variable {o : Origin} {k : Nat} {e : Nat × Nat} {lo : Nat}

/-- The host's refusal: RESULT 3, REASON and OBJ, the sticky bit, source 66. -/
theorem refused_host (host : byHost o = true) (v : State) (hv : decisionShow o (some e) (s.bump64 A.FRW_ADM_REF_LO 1) = v) : OnlyRegs s v ∧
    v.get F.SYS_CMT_RESULT = 3 ∧ v.flag F.SYS_CMT_STICKY = true ∧ v.get F.SYS_CMT_REASON_REASON = e.1 % 2 ^ F.SYS_CMT_REASON_REASON.width ∧
    v.get F.SYS_CMT_OBJ_OBJ = e.2 % 2 ^ F.SYS_CMT_OBJ_OBJ.width ∧ EdgeTaken s v 66 ∧
    v.pair A.FRW_ADM_REF_LO = (s.pair A.FRW_ADM_REF_LO + 1) % 2 ^ 64 ∧
    RegsKept s v ([A.SYS_CMT, A.SYS_CMT_REASON, A.SYS_CMT_OBJ] ++ pairRegs A.FRW_ADM_REF_LO ++ sourceRegs 66) := by
  have shown : v = (((((s.bump64 A.FRW_ADM_REF_LO 1).put F.SYS_CMT_RESULT 3).mark F.SYS_CMT_STICKY true).put F.SYS_CMT_REASON_REASON e.1).put
      F.SYS_CMT_OBJ_OBJ e.2).event 66 := hv.symm.trans (if_pos host)
  subst shown
  refine ⟨?_, ?_, ?_, ?_, ?_, ?_, ?_, ?_⟩
  · simp
  · simp (disch := decide)
  · simp (disch := decide) [flag_mark_same]
  · rw [get_event_apart _ (by decide), get_put_apart _ _ _ _ (by decide) (by decide), get_put_same _ _ _ (by decide)]
  · rw [get_event_apart _ (by decide), get_put_same _ _ _ (by decide)]
  · simp (disch := decide)
  · simp (disch := decide) [pair_bump64_same]
  · simp (disch := decide)

/-- The host's acceptance: RESULT 2 and source 66. -/
theorem accepted_host (host : byHost o = true) (v : State) (hv : decisionShow o none (s.bump64 A.FRW_ADM_ACC_LO 1) = v) : OnlyRegs s v ∧
    v.get F.SYS_CMT_RESULT = 2 ∧ EdgeTaken s v 66 ∧ v.pair A.FRW_ADM_ACC_LO = (s.pair A.FRW_ADM_ACC_LO + 1) % 2 ^ 64 ∧
    RegsKept s v ([A.SYS_CMT] ++ pairRegs A.FRW_ADM_ACC_LO ++ sourceRegs 66) := by
  have shown : v = ((s.bump64 A.FRW_ADM_ACC_LO 1).put F.SYS_CMT_RESULT 2).event 66 := hv.symm.trans (if_pos host)
  subst shown
  refine ⟨?_, ?_, ?_, ?_, ?_⟩
  · simp
  · simp (disch := decide)
  · simp (disch := decide)
  · simp (disch := decide) [pair_bump64_same]
  · simp (disch := decide)

theorem notHost_of_fcmt (core : fcmtOf o = some k) : byHost o = false ∧ o ≠ .retire := by
  cases o <;> simp_all [fcmtOf, byHost]

/-- A core's refusal. -/
theorem refused_core (core : fcmtOf o = some k) (small : k < 5) (v : State) (hv : decisionShow o (some e) (s.bump64 A.FRW_ADM_REF_LO 1) = v) :
    OnlyRegs s v ∧ v.get (F.FRW_FCMTk_RESULT k) = 3 ∧
    v.get (F.FRW_FCMTk_REASON_REASON k) = e.1 % 2 ^ (F.FRW_FCMTk_REASON_REASON k).width ∧
    v.get (F.FRW_FCMTk_OBJ_OBJ k) = e.2 % 2 ^ (F.FRW_FCMTk_OBJ_OBJ k).width ∧ EdgeTaken s v (61 + k) ∧
    v.pair A.FRW_ADM_REF_LO = (s.pair A.FRW_ADM_REF_LO + 1) % 2 ^ 64 ∧
    RegsKept s v ([A.FRW_FCMTk k, A.FRW_FCMTk_REASON k, A.FRW_FCMTk_OBJ k] ++ pairRegs A.FRW_ADM_REF_LO ++ sourceRegs (61 + k)) := by
  have shown : v = ((((s.bump64 A.FRW_ADM_REF_LO 1).put (F.FRW_FCMTk_RESULT k) 3).put (F.FRW_FCMTk_REASON_REASON k) e.1).put
      (F.FRW_FCMTk_OBJ_OBJ k) e.2).event (61 + k) := by
    rw [← hv]
    unfold decisionShow
    rw [if_neg (by simp [(notHost_of_fcmt core).1]), core]
  subst shown
  obtain ⟨j, rfl⟩ : ∃ j : Fin 5, k = j := ⟨⟨k, small⟩, rfl⟩
  refine ⟨?_, ?_, ?_, ?_, ?_, ?_, ?_⟩
  · simp
  · simp (disch := (clear * -; (try revert j); decide))
  · rw [get_event_apart _ (by clear * -; revert j; decide), get_put_apart _ _ _ _ (by simp) (by clear * -; revert j; decide), get_put_same _ _ _ (by simp)]
  · rw [get_event_apart _ (by clear * -; revert j; decide), get_put_same _ _ _ (by simp)]
  · simp (disch := (clear * -; (try revert j); decide))
  · simp (disch := (clear * -; (try revert j); decide)) [pair_bump64_same]
  · simp (disch := (clear * -; (try revert j); decide))

/-- A core's acceptance. -/
theorem accepted_core (core : fcmtOf o = some k) (small : k < 5) (v : State) (hv : decisionShow o none (s.bump64 A.FRW_ADM_ACC_LO 1) = v) :
    OnlyRegs s v ∧ v.get (F.FRW_FCMTk_RESULT k) = 2 ∧ EdgeTaken s v (61 + k) ∧
    v.pair A.FRW_ADM_ACC_LO = (s.pair A.FRW_ADM_ACC_LO + 1) % 2 ^ 64 ∧
    RegsKept s v ([A.FRW_FCMTk k] ++ pairRegs A.FRW_ADM_ACC_LO ++ sourceRegs (61 + k)) := by
  have shown : v = ((s.bump64 A.FRW_ADM_ACC_LO 1).put (F.FRW_FCMTk_RESULT k) 2).event (61 + k) := by
    rw [← hv]
    unfold decisionShow
    rw [if_neg (by simp [(notHost_of_fcmt core).1]), core]
  subst shown
  obtain ⟨j, rfl⟩ : ∃ j : Fin 5, k = j := ⟨⟨k, small⟩, rfl⟩
  refine ⟨?_, ?_, ?_, ?_, ?_⟩
  · simp
  · simp (disch := (clear * -; (try revert j); decide))
  · simp (disch := (clear * -; (try revert j); decide))
  · simp (disch := (clear * -; (try revert j); decide)) [pair_bump64_same]
  · simp (disch := (clear * -; (try revert j); decide))

theorem mic_of_only {v : State} (only : OnlyRegs s v) : v.mic = s.mic := by rw [only]

/-- A refusal with no change of the map in wait. -/
theorem admission_refused {c : Commit} {rest : List Commit} (front : s.hsp.checks = c :: rest) (other : c.origin ≠ .retire)
    (decided : admitWords s c.words false = some e) (v : State)
    (hv : decisionShow c.origin (some e) (State.bump64 { s with hsp := { s.hsp with checks := rest } } A.FRW_ADM_REF_LO 1) = v)
    (still : v.mic.waitRemap = []) : exec .admissionDecision s = .next v := by
  have plain : decide (c.origin = Origin.retire) = false := decide_eq_false other
  have run : execAdmissionDecision s = .next (remapsWaiting v) := by
    unfold execAdmissionDecision
    rw [front]
    dsimp only
    rw [plain, decided]
    dsimp only
    rw [hv]
  exact run.trans (congrArg _ (remapsWaiting_none still))

/-- An acceptance with no change of the map in wait. -/
theorem admission_accepted {c : Commit} {rest : List Commit} (front : s.hsp.checks = c :: rest) (other : c.origin ≠ .retire)
    (decided : admitWords s c.words false = none) (v : State)
    (hv : decisionShow c.origin none ((acceptCommit c { s with hsp := { s.hsp with checks := rest } }).bump64 A.FRW_ADM_ACC_LO 1) = v)
    (still : v.mic.waitRemap = []) : exec .admissionDecision s = .next v := by
  have plain : decide (c.origin = Origin.retire) = false := decide_eq_false other
  have run : execAdmissionDecision s = .next (remapsWaiting v) := by
    unfold execAdmissionDecision
    rw [front]
    dsimp only
    rw [plain, decided]
    dsimp only
    rw [hv]
  exact run.trans (congrArg _ (remapsWaiting_none still))

theorem notRetire_of_host (host : byHost o = true) : o ≠ .retire := by
  rintro rfl
  cases host

end

/-! ## A committed write by itself -/

theorem applyWords_one {o : Origin} {a : Nat} {w : Word} (may : mayWrite o a = true) : applyWords o [(a, w)] s =
    actWord o s [(a, w)] a w (storeWord s (a, w)) := by
  have order : actOrder [(a, w)] = [(a, w)] := by
    by_cases clear : a / 16 = A.INT_PENDw 0 / 16
    · have late : a ≠ A.CLK_PLAN ∧ a ≠ A.PWR_REQ := by
        simp only [A.INT_PENDw] at clear
        simp only [A.CLK_PLAN, A.PWR_REQ]
        omega
      simp [actOrder, sortWords, insertWord, clear, late.1, late.2]
    · by_cases late : a = A.CLK_PLAN ∨ a = A.PWR_REQ
      · rcases late with rfl | rfl <;> simp [actOrder, sortWords, insertWord, A.CLK_PLAN, A.PWR_REQ, A.INT_PENDw]
      · obtain ⟨plan, req⟩ := not_or.mp late
        simp [actOrder, sortWords, insertWord, clear, plan, req]
  unfold applyWords
  simp only [List.filter_cons, may, List.filter_nil, if_true, order]
  rfl

/-- What a write leaves of a register: its read-write bits from the word, its write-1-to-clear bits cleared where the word has 1. -/
def wordStored (old rw clear w : Word) : Word := ((old &&& ~~~rw) &&& ~~~(clear &&& w)) ||| (w &&& rw)

theorem storeWord_plain {a rw clear : Nat} {w : Word} {r : RegRow} (low : ¬ 0x400000 ≤ a) (row : regRow a = some r)
    (other : a ≠ A.SYS_HSPERR ∧ a ≠ A.ADC_REF ∧ a ≠ A.CLK_PLAN ∧ a ≠ A.MON_SAVS_CFG ∧ a ≠ A.MON_CAVS_CFG ∧ a ≠ A.MON_CAVS_MAN ∧ a / 0x10000 ≠ 6)
    (free : fieldRanges a = []) (hrw : r.rw = rw) (hclear : r.w1c = clear) :
    storeWord s (a, w) = s.wr a (wordStored (s.rd a) (BitVec.ofNat 32 rw) (BitVec.ofNat 32 clear) w) := by
  obtain ⟨err, ref, plan, savs, cavs, man, slot⟩ := other
  have mask : rwMask s a r.rw = rw := (if_neg fun h => slot h.1).trans hrw
  have fix : monFix s a (s.rd a) w = (s, w) := by simp [monFix, savs, cavs, man]
  have word : (if isChecked a then (s, w) else (fieldRanges a).foldl (fun p q => rangeFix p.1 (s.rd a) p.2 q) (s, w)) = (s, w) := by
    rw [free]
    exact ite_self _
  unfold storeWord
  simp only [low, err, ref, plan, row, word, fix, mask, hclear, if_false, false_and]
  rfl

theorem applyNow_one {o : Origin} {a : Nat} {w : Word} (now : s.pwr.deferring = false) (may : mayWrite o a = true) :
    applyNow o [(a, w)] s = actWord o s [(a, w)] a w (storeWord s (a, w)) := by
  unfold applyNow
  rw [if_neg (by simp [now]), applyWords_one may]

/-- A committed write of an unchecked register that responds. -/
theorem registerWrite_one {o : Origin} {a : BitVec 24} {w : Word} {b : Nat} (addr : a.toNat / 4 * 4 = b) (on : s.pstate ≠ OFF)
    (now : s.pwr.deferring = false) (free : isChecked b = false) (may : mayWrite o b = true) :
    exec (.registerWrite o a w) s = .next (actWord o s [(b, w)] b w (storeWord s (b, w))) := by
  have open' : blockResponds s a.toNat = true := by simp [blockResponds, on]
  have unchecked : needsCheck [(b, w)] = false := by simp [needsCheck, free]
  show execRegisterWrite o a w s = _
  unfold execRegisterWrite
  rw [addr]
  dsimp only
  rw [if_neg (by simp [open']), if_neg (by simp [unchecked]), if_neg (by simp [unchecked]), applyNow_one now may]

theorem hspcfg_stored {w : Word} : storeWord s (A.SYS_HSPCFG, w) = s.wr A.SYS_HSPCFG (wordStored (s.rd A.SYS_HSPCFG) 1 0 w) :=
  storeWord_plain (r := ⟨0x100, [], 0x0, 0x1, 0x0⟩) (by decide) (by decide) (by decide) (by decide) rfl rfl

theorem cmt_stored {w : Word} : storeWord s (A.SYS_CMT, w) = s.wr A.SYS_CMT (wordStored (s.rd A.SYS_CMT) 0 0x100000#32 w) :=
  storeWord_plain (r := ⟨0x110, [], 0x0, 0x0, 0x100000⟩) (by decide) (by decide) (by decide) (by decide) rfl rfl

theorem wordStored_bit0 {old w : Word} : (wordStored old 1 0 w).toNat % 2 = w.toNat % 2 := by
  have bit : (wordStored old 1 0 w).getLsbD 0 = w.getLsbD 0 := by simp [wordStored]
  simp only [BitVec.getLsbD, Nat.testBit_zero, decide_eq_decide] at bit
  omega

theorem wordStored_clear {old c w : Word} : wordStored old 0 c w = old &&& ~~~(w &&& c) := by
  simp [wordStored, BitVec.and_comm c w]
  rw [show (4294967295#32 : Word) = BitVec.allOnes 32 from rfl, BitVec.and_allOnes]

section

variable {b : Nat} (above : 0x120000 ≤ b)
include above

theorem isChecked_above : isChecked b = false := by
  unfold isChecked
  split <;> first | rfl | omega

theorem mayWrite_above {o : Origin} : mayWrite o b = true := by
  unfold mayWrite
  rw [if_neg (by simp only [A.SAF_RUNTOK]; omega), if_neg (by simp only [A.SAF_ACK, A.SAF_ACK_RESP]; omega), if_neg (by omega),
    if_neg (by simp only [A.HGx_QCTL]; omega)]

theorem regRow_above : regRow b = none := by
  unfold regRow blockRows
  split <;> first | rfl | omega

theorem storeWord_above {w : Word} (low : b < 0x400000) : storeWord s (b, w) = s := by
  unfold storeWord
  rw [if_neg (by simpa using low), if_neg (by simp only [A.SYS_HSPERR]; omega), if_neg (by simp only [A.ADC_REF]; omega),
    if_neg (by simp only [A.CLK_PLAN]; omega), regRow_above above]

theorem actWord_above {o : Origin} {old : State} {ws : List (Nat × Word)} {w : Word} : actWord o old ws b w s = s := by
  unfold actWord
  split <;> first | rfl | omega

end

end

end Sys2Proof.Machine

open Sys2Proof Sys2Proof.Machine

/-- Settles O9: a transaction in order is its effect and its record; a decision is shown in words of its own. -/
theorem hspCommitsAndStaging : Obligations.HspCommitsAndStaging := by
  intro s
  refine ⟨?_, ?_, ?_, ?_, ?_, ?_, ?_, ?_, ?_⟩
  · intro answers sticky idle addr cnt crc
    have sticky' : (hspSnap s).flag F.SYS_CMT_STICKY = false := by rw [hspSnap_flag (by decide), sticky]
    have order : ∀ {ws : List Word}, frameBad OP_WRITE addr.toNat cnt.toNat = false → ws.length = cntN cnt.toNat →
        stageOver (hspSnap s) addr.toNat ws = false → writeDenied s addr.toNat ws.length = false →
        localCode (hspSnap s) OP_WRITE addr.toNat cnt.toNat ws = HS_OK := fun frame len fits allowed =>
      localCode_commit (Or.inl rfl) frame sticky' idle fun _ => ⟨len, fits, by rw [hspSnap_writeDenied, ← len]; exact allowed⟩
    have closed : ∀ {ws : List Word}, s.hsp.stage = none → stageOver (hspSnap s) addr.toNat ws = false := fun stage => by
      unfold stageOver
      rw [show (hspSnap s).hsp.stage = none from stage]
    have commit : ∀ {a : Nat}, crc.toNat = hostCrc OP_COMMIT a cnt.toNat [] → cnt.toNat = 0 → frameBad OP_COMMIT a 0 = false → ∀ e : State,
        hspEffect .host (hspSnap s) OP_COMMIT a (cntN cnt.toNat) [] = e → ∀ v : State, hspRun OP_COMMIT a cnt.toNat [] crc.toNat s = v →
        v = { e with regs := v.regs, hsp := { e.hsp with resp := v.hsp.resp } } ∧ v.get F.SYS_HSPST_LAST = hspFlags (hspSnap s) % 256 ∧
        v.hsp.resp = some ⟨hspFlags (hspSnap s), [], crc16 [hspFlags (hspSnap s)]⟩ ∧ RegsKept e v [A.SYS_HSPST] := fun good zero frame e effect v run =>
      hspRun_served answers good (Or.inl (by rw [zero]; rfl)) (localCode_commit (Or.inr rfl) (by rw [zero]; exact frame) sticky' idle
        fun write => absurd write (by decide)) rfl e effect v run
    refine ⟨?_, ?_, ?_, ?_, ?_, ?_, ?_, ?_⟩
    · intro ws l stage good frame own len fits allowed
      have small : ((some ((writeWords addr.toNat ws).foldl (fun l e => stageAdd l e.1 e.2) l)).getD []).length < 2 ^ 13 := by
        simp only [stageOver, stage, decide_eq_false_iff_not] at fits
        exact Nat.lt_of_le_of_lt (Nat.le_of_not_lt fits) (by decide)
      have effect : hspEffect .host (hspSnap s) OP_WRITE addr.toNat (cntN cnt.toNat) ws =
          stageSet (hspSnap s) (some ((writeWords addr.toNat ws).foldl (fun l e => stageAdd l e.1 e.2) l)) := by
        refine (if_pos rfl).trans ?_
        unfold hspWrite
        rw [show (hspSnap s).hsp.stage = some l from stage]
      obtain ⟨only, opened, words, kept⟩ := stageSet_spec small _ effect.symm
      obtain ⟨served, last, resp, rest⟩ := hspRun_served answers good (Or.inl own) (order frame len (by rw [stageOver, hspSnap_hsp]; exact fits) allowed)
        rfl _ rfl _ rfl
      generalize hspEffect .host (hspSnap s) OP_WRITE addr.toNat (cntN cnt.toNat) ws = e at only opened words kept served rest
      refine Gives.of_next rfl ⟨answered_of_served (kept.get (by decide)) last resp rest, ?_, ?_, ?_, ?_, ?_, ?_⟩
      · rw [served, only]
      · rw [served, only]
        rfl
      · rw [rest.flag (by decide), opened]
        rfl
      · rw [rest.get (by decide), words]
        rfl
      · exact served_only (by rw [only]; rfl) served
      · exact ((hspSnap_kept).trans (kept.trans rest)).mono (by simp)
    · intro ws stage good frame own len allowed checked
      have effect : hspEffect .host (hspSnap s) OP_WRITE addr.toNat (cntN cnt.toNat) ws = hostCommit .host (writeWords addr.toNat ws) (hspSnap s) := by
        refine (if_pos rfl).trans ?_
        unfold hspWrite
        rw [show (hspSnap s).hsp.stage = none from stage]
      obtain ⟨only, result, seq, kept⟩ := hostCommit_checked checked _ effect.symm
      obtain ⟨served, last, resp, rest⟩ := hspRun_served answers good (Or.inl own) (order frame len (closed stage) allowed) rfl _ rfl _ rfl
      generalize hspEffect .host (hspSnap s) OP_WRITE addr.toNat (cntN cnt.toNat) ws = e at only result seq kept served rest
      refine Gives.of_next rfl ⟨answered_of_served (kept.get (by decide)) last resp rest, ?_, ?_, ?_, ?_, ?_⟩
      · rw [served, only]
        rfl
      · rw [rest.get (by decide), result]
      · rw [rest.get (by decide), seq, hspSnap_get (by decide)]
      · exact served_only (by rw [only]; rfl) served
      · exact ((hspSnap_kept).trans (kept.trans rest)).mono (by simp)
    · intro ws u stage good frame own len allowed free hu
      have effect : hspEffect .host (hspSnap s) OP_WRITE addr.toNat (cntN cnt.toNat) ws = u := by
        refine (if_pos rfl).trans ?_
        unfold hspWrite
        rw [show (hspSnap s).hsp.stage = none from stage]
        exact (hostCommit_now free).trans hu.symm
      exact Gives.of_next rfl (hspRun_served answers good (Or.inl own) (order frame len (closed stage) allowed) rfl _ effect _ rfl)
    · intro good zero
      obtain ⟨only, opened, words, kept⟩ := stageSet_spec (s := hspSnap s) (v := some []) (by decide) _ rfl
      obtain ⟨served, last, resp, rest⟩ := commit (a := 0) good zero (by decide) _ (commitOpen_effect (s := hspSnap s)) _ rfl
      generalize stageSet (hspSnap s) (some []) = e at only opened words kept served rest
      refine Gives.of_next rfl ⟨answered_of_served (kept.get (by decide)) last resp rest, ?_, ?_, ?_, ?_, ?_⟩
      · rw [served, only]
        rfl
      · rw [rest.flag (by decide), opened]
        rfl
      · rw [rest.get (by decide), words]
        rfl
      · exact served_only (by rw [only]; rfl) served
      · exact ((hspSnap_kept).trans (kept.trans rest)).mono (by simp)
    · intro l stage checked good zero
      obtain ⟨only, opened, words, kept⟩ := stageSet_spec (s := hspSnap s) (v := none) (by decide) _ rfl
      obtain ⟨only2, result, seq, kept2⟩ := hostCommit_checked (s := stageSet (hspSnap s) none) checked _ rfl
      obtain ⟨served, last, resp, rest⟩ := commit (a := 1) good zero (by decide) _ (commitApply_effect (s := hspSnap s) stage) _ rfl
      generalize hostCommit .host l (stageSet (hspSnap s) none) = e at only2 result seq kept2 served rest
      generalize stageSet (hspSnap s) none = d at only opened words kept only2 seq kept2
      refine Gives.of_next rfl ⟨answered_of_served ((kept2.get (by decide)).trans (kept.get (by decide))) last resp rest, ?_, ?_, ?_, ?_, ?_, ?_, ?_⟩
      · rw [served, only2, only]
        rfl
      · rw [rest.get (by decide), result]
      · rw [rest.get (by decide), seq, kept.get (by decide), hspSnap_get (by decide)]
      · rw [rest.flag (by decide), kept2.flag (by decide), opened]
        rfl
      · rw [rest.get (by decide), kept2.get (by decide), words]
        rfl
      · exact served_only (by rw [only2, only]; rfl) served
      · exact ((hspSnap_kept).trans (kept.trans (kept2.trans rest))).mono (by simp)
    · intro l u stage free good zero hu
      have effect : hspEffect .host (hspSnap s) OP_COMMIT 1 (cntN cnt.toNat) [] = u :=
        (commitApply_effect (s := hspSnap s) stage).trans ((hostCommit_now free).trans hu.symm)
      exact Gives.of_next rfl (commit (a := 1) good zero (by decide) _ effect _ rfl)
    · intro stage good zero
      obtain ⟨only, opened, words, kept⟩ := stageSet_spec (s := hspSnap s) (v := none) (by decide) _ rfl
      obtain ⟨served, last, resp, rest⟩ := commit (a := 1) good zero (by decide) _ (commitApply_closed (s := hspSnap s) stage) _ rfl
      generalize stageSet (hspSnap s) none = e at only opened words kept served rest
      refine Gives.of_next rfl ⟨answered_of_served (kept.get (by decide)) last resp rest, ?_, ?_, ?_⟩
      · rw [served, only, ← stage]
        rfl
      · exact served_only (by rw [only]; rfl) served
      · exact ((hspSnap_kept).trans (kept.trans rest)).mono (by simp)
    · intro good zero
      obtain ⟨only, opened, words, kept⟩ := stageSet_spec (s := hspSnap s) (v := none) (by decide) _ rfl
      obtain ⟨served, last, resp, rest⟩ := commit (a := 2) good zero (by decide) _ (commitDiscard_effect (s := hspSnap s)) _ rfl
      generalize stageSet (hspSnap s) none = e at only opened words kept served rest
      refine Gives.of_next rfl ⟨answered_of_served (kept.get (by decide)) last resp rest, ?_, ?_, ?_, ?_, ?_⟩
      · rw [served, only]
        rfl
      · rw [rest.flag (by decide), opened]
        rfl
      · rw [rest.get (by decide), words]
        rfl
      · exact served_only (by rw [only]; rfl) served
      · exact ((hspSnap_kept).trans (kept.trans rest)).mono (by simp)
  · intro a cnt crc answers low high good zero
    have frame : frameBad OP_ZEROIZE a.toNat cnt.toNat = false := by
      rw [zero]
      generalize a.toNat = n at low high
      interval_cases n <;> rfl
    have inOrder : localCode (hspSnap s) OP_ZEROIZE a.toNat cnt.toNat [] = HS_OK := by
      unfold localCode
      simp [frame, opDefined]
    obtain ⟨served, last, resp, rest⟩ := hspRun_served answers good (Or.inl (by rw [zero]; rfl)) inOrder rfl _ rfl _ rfl
    have effect : hspEffect .host (hspSnap s) OP_ZEROIZE a.toNat (cntN cnt.toNat) [] = hspZeroize (hspSnap s) a.toNat := rfl
    rw [effect] at served rest
    obtain ⟨swath, sentry, noSwath, short, noShort⟩ := @hspZeroize_spec (hspSnap s) a.toNat
    have blocks : BlocksKept [7, 10] (hspSnap s) (hspZeroize (hspSnap s) a.toNat) := hspZeroize_blocks
    rw [hspSnap_pstate] at swath sentry
    generalize hspZeroize (hspSnap s) a.toNat = e at served rest swath sentry noSwath short noShort blocks
    have swa : (hspRun OP_ZEROIZE a.toNat cnt.toNat [] crc.toNat s).swa = e.swa := by rw [served]
    refine Gives.of_next rfl ⟨answered_of_served (blocks.get (by decide)) last resp rest, ?_, ?_, ?_, ?_, ?_⟩
    · exact fun b out => by rw [swa]; exact swath b out
    · exact fun b here => by rw [swa, rest.flag (by decide), rest.flag (by decide)]; exact sentry b here
    · exact fun b => by rw [swa]; exact noSwath b
    · exact fun b => by rw [swa]; exact short b
    · exact fun b => by rw [swa]; exact noShort b
  · intro c rest e front host refused none
    obtain ⟨only, result, sticky, reason, obj, edge, count, kept⟩ :=
      refused_host (s := { s with hsp := { s.hsp with checks := rest } }) (e := e) host _ rfl
    refine Gives.of_next (admission_refused front (notRetire_of_host host) refused _ rfl (by rw [mic_of_only only]; exact none)) ?_
    exact ⟨only, result, sticky, reason, obj, edge, count, (RegsKept.from_with).mp kept⟩
  · intro c rest u front host accepted hu none
    subst hu
    obtain ⟨only, result, edge, count, kept⟩ :=
      accepted_host (s := acceptCommit c { s with hsp := { s.hsp with checks := rest } }) host _ rfl
    refine Gives.of_next (admission_accepted front (notRetire_of_host host) accepted _ rfl (by rw [mic_of_only only]; exact none)) ?_
    exact ⟨only, result, edge, count, kept⟩
  · intro c rest e k front core small refused none
    obtain ⟨only, result, reason, obj, edge, count, kept⟩ :=
      refused_core (s := { s with hsp := { s.hsp with checks := rest } }) (e := e) core small _ rfl
    refine Gives.of_next (admission_refused front (notHost_of_fcmt core).2 refused _ rfl (by rw [mic_of_only only]; exact none)) ?_
    exact ⟨only, result, reason, obj, edge, count, (RegsKept.from_with).mp kept⟩
  · intro c rest u k front core small accepted hu none
    subst hu
    obtain ⟨only, result, edge, count, kept⟩ :=
      accepted_core (s := acceptCommit c { s with hsp := { s.hsp with checks := rest } }) core small _ rfl
    refine Gives.of_next (admission_accepted front (notHost_of_fcmt core).2 accepted _ rfl (by rw [mic_of_only only]; exact none)) ?_
    exact ⟨only, result, edge, count, kept⟩
  · intro none
    refine ⟨s, ?_, rfl⟩
    simp only [exec, execAdmissionDecision, none]
  · intro o a w
    refine ⟨?_, ?_, ?_, ?_⟩
    · exact fun shut => Gives.of_next (if_pos (by simp [shut])) rfl
    · intro checked refused
      by_cases open' : blockResponds s a.toNat = true
      · exact Gives.of_next ((if_neg (by simp [open'])).trans (if_pos (by simp [checked, refused]))) rfl
      · exact Gives.of_next (if_pos (by simp [open'])) rfl
    · intro open' free
      refine Gives.of_next ((if_neg (by simp [open'])).trans ((if_neg (by simp [free])).trans ?_)) rfl
      exact congrArg _ (if_neg (by simp [free]))
    · intro open' checked admits
      refine Gives.of_next ((if_neg (by simp [open'])).trans ((if_neg (by simp [admits])).trans ?_)) rfl
      exact congrArg _ (if_pos checked)
  · intro now on o w
    refine ⟨?_, ?_, ?_⟩
    · refine Gives.of_eq (registerWrite_one (b := A.SYS_HSPCFG) (by decide) on now (by decide) rfl) hspcfg_stored ?_
      refine ⟨rfl, ?_, wr_kept _ _ _⟩
      unfold State.get bits
      rw [rd_wr_same, show F.SYS_HSPCFG_QUAD.lo = 0 from rfl, pow_zero, Nat.div_one]
      exact wordStored_bit0
    · refine Gives.of_eq (registerWrite_one (b := A.SYS_CMT) (by decide) on now (by decide) rfl) cmt_stored ?_
      exact ⟨rfl, by rw [rd_wr_same, wordStored_clear], wr_kept _ _ _⟩
    · intro a low high
      have above : 0x120000 ≤ a.toNat / 4 * 4 := by omega
      refine Gives.of_next ((registerWrite_one rfl on now (isChecked_above above) (mayWrite_above above)).trans (congrArg _ ?_)) rfl
      rw [actWord_above above, storeWord_above above (by omega)]
end

section
/-! PROOFS. The tunnel between the host and a partner (O10). -/

namespace Sys2Proof.Machine

section

variable {s u : State} {x : Nat} {r : RxMsg}

/-- The end of a tunnelled transaction: STATE and DONE, source 6, the tag free again. -/
theorem tunEnd_spec {state : Nat} (small : state < 8) (v : State) (hv : tunEnd s state = v) :
    v = { s with regs := v.regs, hsp := { s.hsp with tun := none, tunBuf := [] } } ∧ v.get F.SYS_TUNST_STATE = state ∧
      v.flag F.SYS_TUNST_DONE = true ∧ v.flag (F.INT_SRCs_LIVE 6) = true ∧ v.get F.SYS_TUNST_RSTAT = s.get F.SYS_TUNST_RSTAT ∧
      RegsKept s v (A.SYS_TUNST :: sourceRegs 6) := by
  have width : state < 2 ^ F.SYS_TUNST_STATE.width := small
  subst hv
  unfold tunEnd
  extract_lets old s1
  have base : (s1.put F.SYS_TUNST_STATE state).mark F.SYS_TUNST_DONE true =
      { s with regs := ((s1.put F.SYS_TUNST_STATE state).mark F.SYS_TUNST_DONE true).regs, hsp := { s.hsp with tun := none, tunBuf := [] } } := by
    rw [eq_with_regs]
    simp [s1, old]
  have value : ((s1.put F.SYS_TUNST_STATE state).mark F.SYS_TUNST_DONE true).get F.SYS_TUNST_STATE = state := by
    rw [get_mark_apart _ _ _ _ (by decide) (by decide)]
    exact get_put_val _ (by decide) width
  have done : ((s1.put F.SYS_TUNST_STATE state).mark F.SYS_TUNST_DONE true).flag F.SYS_TUNST_DONE = true := flag_mark_same _ _ _ (by decide) rfl
  have stat : ((s1.put F.SYS_TUNST_STATE state).mark F.SYS_TUNST_DONE true).get F.SYS_TUNST_RSTAT = s.get F.SYS_TUNST_RSTAT := by
    rw [get_mark_apart _ _ _ _ (by decide) (by decide), get_put_apart _ _ _ _ (by decide) (by decide)]
    rfl
  have kept : RegsKept s ((s1.put F.SYS_TUNST_STATE state).mark F.SYS_TUNST_DONE true) [A.SYS_TUNST] := by
    rw [regsKept_mark (by simp), regsKept_put (by simp)]
    exact RegsKept.refl s _
  generalize (s1.put F.SYS_TUNST_STATE state).mark F.SYS_TUNST_DONE true = w at base value done stat kept
  have lev : RegsKept w (w.level 6 true) (sourceRegs 6) := level_kept w 6 true
  have live : (w.level 6 true).flag (F.INT_SRCs_LIVE 6) = true := by
    unfold State.level
    rw [if_pos rfl]
    split
    · next h => exact h
    · exact flag_event_live ..
  have only : OnlyRegs w (w.level 6 true) := by
    rw [OnlyRegs, eq_with_regs]
    simp
  refine ⟨?_, ?_, ?_, live, ?_, (kept).trans lev⟩
  · rw [only, base]
  · rw [lev.get (by decide), value]
  · rw [lev.flag (by decide), done]
  · rw [lev.get (by decide), stat]

/-- Taking a message leaves the registers and the host port. -/
theorem heard_hsp {typ : Nat} (taken : msgOwn s x typ = some (r, u)) : (partnerHeard u r.msg.src).hsp = s.hsp ∧
    (partnerHeard u r.msg.src).clk.present = s.clk.present ∧ (partnerHeard u r.msg.src).hg.tun = s.hg.tun ∧
    ∀ a, (partnerHeard u r.msg.src).rd a = s.rd a := by
  obtain ⟨p, a, heard⟩ := partnerHeard_taken taken
  rw [heard]
  exact ⟨rfl, rfl, rfl, fun _ => rfl⟩

/-! ## Replies -/

/-- What the row of a reply does once its message is taken. -/
def replyTaken (r : RxMsg) (s : State) : State :=
  match s.hsp.tun with
  | some (tag, dev) =>
    if r.msg.param % 65536 ≠ tag ∨ r.msg.src ≠ dev ∨ s.hsp.tunBuf.length ≠ 192 * (r.msg.param / 65536 % 256) then s
    else if bit r.msg.param 24 then
      tunEnd (((responsePut s (bodyWords (List.replicate 8 0 ++ (s.hsp.tunBuf ++ r.msg.body.drop 8)))).put F.SYS_TUNST_RSTAT
        (nth r.msg.body 0 0)).put F.SYS_TUNEPOCH_EPOCH (leOfBytes ((r.msg.body.drop 4).take 4))) 2
    else { s with hsp := { s.hsp with tunBuf := s.hsp.tunBuf ++ r.msg.body.drop 8 } }
  | none => s

theorem regRsp_taken {x : Fin 2} (taken : msgOwn s x T_REG_RSP = some (r, u)) :
    exec (.regRsp x) s = .next (replyTaken r (partnerHeard u r.msg.src)) := by
  show execRegRsp x s = _
  unfold execRegRsp
  rw [onMsg_taken taken]
  rfl

theorem regRsp_none {x : Fin 2} (none : msgOwn s x T_REG_RSP = none) : exec (.regRsp x) s = .next s := by
  show execRegRsp x s = _
  unfold execRegRsp
  exact onMsg_none none

theorem replyTaken_other (other : s.hsp.tun ≠ some (r.msg.param % 65536, r.msg.src) ∨ s.hsp.tunBuf.length ≠ 192 * (r.msg.param / 65536 % 256)) :
    replyTaken r s = s := by
  unfold replyTaken
  split
  · next tag dev tun =>
    refine if_pos ?_
    by_contra match'
    simp only [not_or, not_not] at match'
    obtain ⟨rfl, rfl, len⟩ := match'
    exact other.elim (· tun) (· len)
  · rfl

theorem replyTaken_next (tun : s.hsp.tun = some (r.msg.param % 65536, r.msg.src)) (len : s.hsp.tunBuf.length = 192 * (r.msg.param / 65536 % 256)) :
    replyTaken r s = if bit r.msg.param 24 then
      tunEnd (((responsePut s (bodyWords (List.replicate 8 0 ++ (s.hsp.tunBuf ++ r.msg.body.drop 8)))).put F.SYS_TUNST_RSTAT
        (nth r.msg.body 0 0)).put F.SYS_TUNEPOCH_EPOCH (leOfBytes ((r.msg.body.drop 4).take 4))) 2
    else { s with hsp := { s.hsp with tunBuf := s.hsp.tunBuf ++ r.msg.body.drop 8 } } := by
  unfold replyTaken
  rw [tun]
  exact if_neg (by simp [len])

/-- Words stored one after another read as stored, and no other word changes. -/
theorem forEach_wr {l : List Nat} {base : Nat} {val : Nat → Word} : OnlyRegs s (forEach l (fun s i => s.wr (base + 4 * i) (val i)) s) ∧
    (∀ j, (forEach l (fun s i => s.wr (base + 4 * i) (val i)) s).rd (base + 4 * j) = if j ∈ l then val j else s.rd (base + 4 * j)) ∧
    ∀ a, (∀ i ∈ l, a ≠ base + 4 * i) → (forEach l (fun s i => s.wr (base + 4 * i) (val i)) s).rd a = s.rd a := by
  unfold forEach
  induction l generalizing s with
  | nil => exact ⟨rfl, fun _ => by simp, fun _ _ => rfl⟩
  | cons i l ih =>
    obtain ⟨only, stored, rest⟩ := @ih (s.wr (base + 4 * i) (val i))
    simp only [List.foldl_cons]
    refine ⟨?_, fun j => ?_, fun a out => ?_⟩
    · rw [OnlyRegs] at only ⊢
      rw [only]
      rfl
    · rw [stored]
      by_cases same : j = i
      · subst same
        simp
      · rw [rd_wr_other _ _ _ _ (by omega)]
        simp [same]
    · rw [rest a fun k m => out k (List.mem_cons_of_mem _ m), rd_wr_other _ _ _ _ fun h => out i (List.mem_cons_self ..) h.symm]

/-- The response window reads the reply's words. -/
theorem responsePut_spec {ws : List Word} : OnlyRegs s (responsePut s ws) ∧ (∀ i < 1024, (responsePut s ws).rd (0x002000 + 4 * i) = nth ws i 0) ∧
    ∀ a < 0x002000, (responsePut s ws).rd a = s.rd a := by
  obtain ⟨only, stored, rest⟩ := @forEach_wr s (upto 1024) 0x002000 (fun i => nth ws i 0)
  exact ⟨only, fun i small => (stored i).trans (if_pos (List.mem_range.mpr small)), fun a low => rest a fun i _ => by omega⟩

/-- The last segment of a reply: status, epoch and words. -/
theorem replyTaken_last {ws : List Word} (tun : s.hsp.tun = some (r.msg.param % 65536, r.msg.src))
    (len : s.hsp.tunBuf.length = 192 * (r.msg.param / 65536 % 256)) (last : bit r.msg.param 24 = true)
    (hws : ws = bodyWords (List.replicate 8 0 ++ (s.hsp.tunBuf ++ r.msg.body.drop 8))) (v : State) (hv : replyTaken r s = v) :
    v = { s with regs := v.regs, hsp := { s.hsp with tun := none, tunBuf := [] } } ∧ v.get F.SYS_TUNST_STATE = 2 ∧
      v.flag F.SYS_TUNST_DONE = true ∧ v.flag (F.INT_SRCs_LIVE 6) = true ∧ v.get F.SYS_TUNST_RSTAT = nth r.msg.body 0 0 % 256 ∧
      v.get F.SYS_TUNEPOCH_EPOCH = leOfBytes ((r.msg.body.drop 4).take 4) % 2 ^ 32 ∧ ∀ i < 1024, v.rd (0x002000 + 4 * i) = nth ws i 0 := by
  rw [replyTaken_next tun len, if_pos last, ← hws] at hv
  obtain ⟨window, stored, -⟩ := @responsePut_spec s ws
  generalize responsePut s ws = w at hv window stored
  have base : OnlyRegs w ((w.put F.SYS_TUNST_RSTAT (nth r.msg.body 0 0)).put F.SYS_TUNEPOCH_EPOCH (leOfBytes ((r.msg.body.drop 4).take 4))) := by simp
  have stat : ((w.put F.SYS_TUNST_RSTAT (nth r.msg.body 0 0)).put F.SYS_TUNEPOCH_EPOCH (leOfBytes ((r.msg.body.drop 4).take 4))).get
      F.SYS_TUNST_RSTAT = nth r.msg.body 0 0 % 256 := by
    rw [get_put_apart _ _ _ _ (by decide) (by decide), get_put_same _ _ _ (by decide)]
    rfl
  have epoch : ((w.put F.SYS_TUNST_RSTAT (nth r.msg.body 0 0)).put F.SYS_TUNEPOCH_EPOCH (leOfBytes ((r.msg.body.drop 4).take 4))).get
      F.SYS_TUNEPOCH_EPOCH = leOfBytes ((r.msg.body.drop 4).take 4) % 2 ^ 32 := get_put_same _ _ _ (by decide)
  have kept : RegsKept w ((w.put F.SYS_TUNST_RSTAT (nth r.msg.body 0 0)).put F.SYS_TUNEPOCH_EPOCH (leOfBytes ((r.msg.body.drop 4).take 4)))
      [A.SYS_TUNST, A.SYS_TUNEPOCH] := by simp
  generalize (w.put F.SYS_TUNST_RSTAT (nth r.msg.body 0 0)).put F.SYS_TUNEPOCH_EPOCH (leOfBytes ((r.msg.body.drop 4).take 4)) = y at base stat epoch kept hv
  obtain ⟨g, hw⟩ : ∃ g, w = { s with regs := g } := ⟨_, window⟩
  obtain ⟨h, hy⟩ : ∃ h, y = { s with regs := h } := ⟨y.regs, base.trans (by rw [hw])⟩
  obtain ⟨only, state, done, live, rstat, ends⟩ := tunEnd_spec (state := 2) (by decide) _ hv
  refine ⟨?_, state, done, live, rstat.trans stat, (ends.get (by decide)).trans epoch, fun i small => ?_⟩
  · rw [only, hy]
  · rw [ends _ (by simp [A.SYS_TUNST, A.INT_SRCs, A.INT_Gg_EDGE_LO, A.INT_Gg_COAL_LO]; omega), kept _ (by simp [A.SYS_TUNST, A.SYS_TUNEPOCH]; omega),
      stored i small]

/-! ## Requests -/

/-- What the row of a request does once its message is taken. -/
def requestTaken (x : Nat) (r : RxMsg) (s : State) : State :=
  let fresh : TunIn := ⟨r.msg.param % 65536, 1, nth r.msg.body 0 0, beOfBytes ((r.msg.body.drop 1).take 3),
    beOfBytes ((r.msg.body.drop 4).take 2), bodyWords r.msg.body, x⟩
  if s.devid = 0 ∨ r.msg.param % 65536 = s.get F.SYS_TUNLAST_TAG then s
  else match s.hg.tun with
    | none => if r.msg.param / 65536 % 256 = 0 then tunTake s fresh (bit r.msg.param 24) else tunBroken s (r.msg.param % 65536)
    | some t =>
      if t.tag = r.msg.param % 65536 then
        (if r.msg.param / 65536 % 256 = t.seg then tunTake s { t with seg := t.seg + 1, words := t.words ++ bodyWords r.msg.body } (bit r.msg.param 24)
        else tunBroken s (r.msg.param % 65536))
      else if r.msg.param / 65536 % 256 = 0 then tunTake (tunBroken s t.tag) fresh (bit r.msg.param 24)
      else tunBroken (tunBroken s t.tag) (r.msg.param % 65536)

theorem regReq_taken {x : Fin 2} (taken : msgOwn s x T_REG_REQ = some (r, u)) :
    exec (.regReq x) s = .next (requestTaken x r (partnerHeard u r.msg.src)) := by
  show execRegReq x s = _
  unfold execRegReq
  rw [onMsg_taken taken]
  rfl

theorem regReq_none {x : Fin 2} (none : msgOwn s x T_REG_REQ = none) : exec (.regReq x) s = .next s := by
  show execRegReq x s = _
  unfold execRegReq
  exact onMsg_none none

/-- A reply's segments join hand-offs, and that is all. -/
theorem tunReply_only {tag st : Nat} {ws : List Word} : ∃ p, tunReply s tag st ws = { s with hg := { s.hg with port := p } } := by
  unfold tunReply forEach
  extract_lets n
  generalize upto n = l
  induction l generalizing s with
  | nil => exact ⟨s.hg.port, rfl⟩
  | cons k l ih =>
    rw [List.foldl_cons]
    obtain ⟨p, sent⟩ := @hgSend_ports s T_REG_RSP VC_CTRL 0 (segParam tag k n)
      ([st, 0, 0, 0] ++ bytesOfLe 4 (s.get F.SYS_EPOCH_EPOCH) ++ wordBytes (segWords ws k))
    obtain ⟨q, rest⟩ := @ih (hgSend s VC_CTRL T_REG_RSP 0 (segParam tag k n)
      ([st, 0, 0, 0] ++ bytesOfLe 4 (s.get F.SYS_EPOCH_EPOCH) ++ wordBytes (segWords ws k)))
    exact ⟨q, by rw [rest, sent]⟩

theorem tunRun_last {n : TunIn} : (tunRun s n).get F.SYS_TUNLAST_TAG = n.tag % 65536 := by
  unfold tunRun
  extract_lets old s1 code r
  obtain ⟨p, sent⟩ := @tunReply_only (r.1.put F.SYS_TUNLAST_TAG n.tag) n.tag r.2.1 r.2.2
  rw [sent, get_with]
  exact get_put_same _ _ _ (by decide)

/-- A request out of order ends its transaction as a truncated one. -/
theorem tunBroken_spec {tag : Nat} (v : State) (hv : tunBroken s tag = v) : v.hg.tun = none ∧ v.hsp = s.hsp ∧
    v.get F.SYS_HSPST_LAST = (HS_LENGTH + hspFlags (hspSnap { s with hg := { s.hg with tun := none } })) % 256 ∧
    v.get F.SYS_EPOCH_EPOCH = (s.get F.SYS_EPOCH_EPOCH + 1) % 2 ^ 32 ∧ v.get F.SYS_HSPERR_LEN = Nat.min 255 (s.get F.SYS_HSPERR_LEN + 1) := by
  subst hv
  unfold tunBroken
  extract_lets old s1 st
  obtain ⟨only, epoch, last, count, -⟩ := hspRecord_length_spec (s := { s with hg := { s.hg with tun := none } })
    (Or.inl rfl : HS_LENGTH = HS_LENGTH ∨ HS_LENGTH = HS_OPCODE) _ rfl
  obtain ⟨p, sent⟩ := @tunReply_only (hspRecord s1 st) tag st []
  have same : hspRecord s1 st = hspRecord (hspSnap { s with hg := { s.hg with tun := none } }) (HS_LENGTH + hspFlags (hspSnap { s with hg := { s.hg with tun := none } })) := rfl
  rw [sent, same]
  generalize hspRecord (hspSnap { s with hg := { s.hg with tun := none } }) (HS_LENGTH + hspFlags (hspSnap { s with hg := { s.hg with tun := none } })) = w at *
  refine ⟨?_, ?_, last, epoch, count⟩
  · rw [only]
  · rw [only]

theorem requestTaken_first {x : Nat} (partner : s.devid ≠ 0) (fresh : r.msg.param % 65536 ≠ s.get F.SYS_TUNLAST_TAG) (none : s.hg.tun = none) :
    requestTaken x r s = if r.msg.param / 65536 % 256 = 0 then tunTake s ⟨r.msg.param % 65536, 1, nth r.msg.body 0 0,
      beOfBytes ((r.msg.body.drop 1).take 3), beOfBytes ((r.msg.body.drop 4).take 2), bodyWords r.msg.body, x⟩ (bit r.msg.param 24)
    else tunBroken s (r.msg.param % 65536) := by
  unfold requestTaken
  dsimp only
  rw [if_neg (by simp [partner, fresh]), none]

theorem requestTaken_next {x : Nat} {n : TunIn} (partner : s.devid ≠ 0) (fresh : r.msg.param % 65536 ≠ s.get F.SYS_TUNLAST_TAG)
    (tun : s.hg.tun = some n) (tag : n.tag = r.msg.param % 65536) (seg : n.seg = r.msg.param / 65536 % 256) :
    requestTaken x r s = tunTake s { n with seg := n.seg + 1, words := n.words ++ bodyWords r.msg.body } (bit r.msg.param 24) := by
  unfold requestTaken
  dsimp only
  rw [if_neg (by simp [partner, fresh]), tun]
  exact (if_pos tag).trans (if_pos seg.symm)

end

end Sys2Proof.Machine

open Sys2Proof Sys2Proof.Machine

/-- Settles O10: replies and requests are one function each of the message taken. -/
theorem tunnel : Obligations.Tunnel := by
  intro s u v x r hv
  subst hv
  refine ⟨?_, ?_, ?_, ?_, ?_, ?_, ?_, ?_, ?_, ?_, ?_, ?_, ?_, ?_, ?_⟩
  · intro waits here
    obtain ⟨only, state, done, live, -, kept⟩ := tunEnd_spec (s := s) (state := 3) (by decide) _ rfl
    exact Gives.of_eq rfl (if_pos (by simp [waits, here])) ⟨only, state, done, live, kept⟩
  · intro none
    exact Gives.of_eq rfl (if_neg (by rcases none with h | h <;> simp [h])) rfl
  · intro taken other
    obtain ⟨hsp, -⟩ := heard_hsp taken
    exact Gives.of_next (regRsp_taken taken) (replyTaken_other (by rw [hsp]; exact other))
  · intro taken tun len more
    obtain ⟨hsp, -⟩ := heard_hsp taken
    refine Gives.of_next (regRsp_taken taken) ?_
    rw [replyTaken_next (by rw [hsp]; exact tun) (by rw [hsp]; exact len), if_neg (by simp [more]), hsp]
  · intro ws taken tun len last hws
    obtain ⟨hsp, -⟩ := heard_hsp taken
    refine Gives.of_next (regRsp_taken taken) ?_
    obtain ⟨only, rest⟩ := replyTaken_last (ws := ws) (s := partnerHeard u r.msg.src) (by rw [hsp]; exact tun) (by rw [hsp]; exact len) last
      (by rw [hsp]; exact hws) _ rfl
    rw [hsp] at only
    exact ⟨only, rest⟩
  · intro taken partner tag none first more
    obtain ⟨-, -, tun, rd⟩ := heard_hsp taken
    have shape := requestTaken_first (r := r) (x := x) (s := partnerHeard u r.msg.src) (by rw [State.devid, State.get, rd]; exact partner)
      (by rw [State.get, rd]; exact tag) (tun.trans none)
    rw [if_pos first, more] at shape
    refine Gives.of_eq (regReq_taken taken) shape ?_
    exact ⟨rfl, rfl⟩
  · intro n taken partner tag none first last hn
    obtain ⟨-, -, tun, rd⟩ := heard_hsp taken
    have shape := requestTaken_first (r := r) (x := x) (s := partnerHeard u r.msg.src) (by rw [State.devid, State.get, rd]; exact partner)
      (by rw [State.get, rd]; exact tag) (tun.trans none)
    rw [if_pos first, last, ← hn] at shape
    exact Gives.of_next (regReq_taken taken) shape
  · intro n taken partner tag tun same seg
    obtain ⟨-, -, held, rd⟩ := heard_hsp taken
    have shape := requestTaken_next (r := r) (x := x) (s := partnerHeard u r.msg.src) (by rw [State.devid, State.get, rd]; exact partner)
      (by rw [State.get, rd]; exact tag) (held.trans tun) same seg
    exact Gives.of_next (regReq_taken taken) shape
  · exact fun n => tunRun_last
  · intro taken partner tag ⟨free, late⟩
    obtain ⟨hsp, -, tun, rd⟩ := heard_hsp taken
    have shape := requestTaken_first (r := r) (x := x) (s := partnerHeard u r.msg.src) (by rw [State.devid, State.get, rd]; exact partner)
      (by rw [State.get, rd]; exact tag) (tun.trans free)
    rw [if_neg late] at shape
    obtain ⟨gone, port, last, epoch, count⟩ := tunBroken_spec (s := partnerHeard u r.msg.src) (tag := r.msg.param % 65536) _ rfl
    refine Gives.of_eq (regReq_taken taken) shape ⟨gone, port.trans hsp, last, ?_, ?_⟩
    · rw [epoch, State.get, rd, State.get]
    · rw [count, State.get, rd, State.get]
  · intro taken own
    obtain ⟨-, -, -, rd⟩ := heard_hsp taken
    refine Gives.of_next (regReq_taken taken) (if_pos ?_)
    rw [State.devid, State.get, rd, State.get, rd]
    exact own
  · exact fun here => Gives.of_eq rfl (if_pos here) rfl
  · exact fun gone => Gives.of_eq rfl (if_neg (by simp [gone])) rfl
  · exact fun none => Gives.of_next (regRsp_none none) rfl
  · exact fun none => Gives.of_next (regReq_none none) rfl
end

section
/-! PROOFS. RST# and the supplies (O11): the straps, the entry to OFF, and the beginning of start-up. -/

namespace Sys2Proof.Machine

section

variable {s t : State} {x : Nat}

/-! ## Registers below the sound path's stand through a port's end -/

/-- Every register of the system, clock, power and microphone blocks reads as before. -/
abbrev LowKept (s t : State) : Prop := Stands (fun a => a < 0x040000) s t

theorem lowKept_put {f : Fld} {v : Nat} (high : 0x040000 ≤ f.addr) : LowKept s (s.put f v) := Stands.put (by omega)

theorem lowKept_mark {f : Fld} {b : Bool} (high : 0x040000 ≤ f.addr) : LowKept s (s.mark f b) := Stands.put (by omega)

theorem lowKept_wr {a : Nat} {w : Word} (high : 0x040000 ≤ a) : LowKept s (s.wr a w) := .of_kept (wr_kept s a w) fun b low m => by
  rw [List.mem_singleton.mp m] at low
  omega

theorem lowKept_bump {lo n : Nat} (high : 0x040000 ≤ lo) : LowKept s (s.bump64 lo n) := .of_kept (bump64_kept s lo n) fun b low m => by
  simp only [List.mem_cons, List.not_mem_nil, or_false] at m
  omega

theorem lowKept_level {n : Nat} {b : Bool} : LowKept s (s.level n b) := .of_kept (level_kept s n b) fun a low m => by
  simp only [sourceRegs, A.INT_SRCs, A.INT_Gg_EDGE_LO, A.INT_Gg_COAL_LO, List.mem_cons, List.not_mem_nil, or_false] at m
  omega

theorem hgKeysDrop_low : LowKept s (hgKeysDrop s x) := by
  unfold hgKeysDrop
  extract_lets s1
  have h1 : LowKept s s1 := Stands.rfl.parts rfl
  exact (((h1.trans (lowKept_put (by simp only [A.HGx_SEC]; omega))).trans (lowKept_put (by simp only [A.HGx_SEC]; omega))).trans
    (lowKept_wr (by simp only [A.HGx_TXCTR]; omega))).trans (lowKept_wr (by simp only [A.HGx_RXCTR]; omega))

theorem linkReset_low : LowKept s (linkReset s x) := by
  unfold linkReset
  extract_lets p s1 s2 p1 p2
  refine Stands.ite Stands.rfl ?_
  have h2 : LowKept s s2 := Stands.trans (t := s1) (lowKept_bump (by simp only [A.HGx_DISC_LO]; omega)) (lowKept_bump (by simp only [A.HGx_LRESET_LO]; omega))
  exact (h2.parts (u := s2.setHgp x p2) rfl).trans hgKeysDrop_low

theorem hgRoutes_low : LowKept s (hgRoutes s) := by
  unfold hgRoutes
  extract_lets r plat ring reached s1 s2 s3 s4
  have h1 : LowKept s s1 := Stands.forEach fun t p _ => by
    have route : ∀ (u : State) (f : Fld) v, f.addr = A.HG0_ROUTEp p → LowKept u (u.put f v) := fun u f v h =>
      lowKept_put (by rw [h, A.HG0_ROUTEp]; omega)
    split
    · exact (((route t _ _ rfl).trans (route _ _ _ rfl)).trans (route _ _ _ rfl)).trans (route _ _ _ rfl)
    · exact lowKept_wr (by simp only [A.HG0_ROUTEp]; omega)
  have h2 : LowKept s1 s2 := lowKept_put (by decide)
  have h3 : LowKept s2 s3 := (lowKept_mark (by decide)).trans (lowKept_mark (by decide))
  have h4 : LowKept s3 s4 := lowKept_put (by decide)
  exact ((((h1.trans h2).trans h3).trans h4)).trans (lowKept_put (by decide))

theorem hgResend_low : LowKept s (hgResend s x) := by
  unfold hgResend
  refine Stands.ite (Stands.forEach fun t k _ => ?_) Stands.rfl
  dsimp only
  split
  · exact Stands.rfl.parts rfl
  · exact Stands.rfl

theorem hgStop_low {st : Nat} : LowKept s (hgStop s x st) := by
  unfold hgStop
  extract_lets s1 s2 s3 s4
  have field : ∀ (u : State) (f : Fld) v, f.addr = A.HGx_ST x → LowKept u (u.put f v) := fun u f v h =>
    lowKept_put (by rw [h, A.HGx_ST]; omega)
  have h1 : LowKept s s1 := hgResend_low
  have h2 : LowKept s1 s2 := (field _ _ _ rfl).trans (field _ _ _ rfl)
  have h3 : LowKept s2 s3 := ((field _ _ _ rfl).trans (field _ _ _ rfl)).trans (field _ _ _ rfl)
  have h4 : LowKept s3 s4 := (lowKept_level).trans (field _ _ _ rfl)
  have h5 : LowKept s4 (hgDownLevel s4 x) := lowKept_level
  exact ((((h1.trans h2).trans h3).trans h4).trans h5).trans hgRoutes_low

theorem hgDisable_low : LowKept s (hgDisable s x) := (linkReset_low).trans hgStop_low

/-! ## The straps -/

theorem forwardFollow_kept : RegsKept s (forwardFollow s) [A.CLK_STAT] := mark_kept _ _ _

theorem strapsPut_spec {d : Nat} {k t0 io : Bool} (small : d < 4) (v : State) (hv : strapsPut s d k t0 io = v) : OnlyRegs s v ∧ v.devid = d ∧
    v.flag F.SYS_STRAP_CLKSRC = k ∧ v.flag F.SYS_STRAP_TEST0 = t0 ∧ v.flag F.CLK_STAT_SRC = k ∧ v.flag F.MON_VIO_IO33 = io ∧
    RegsKept s v [A.SYS_STRAP, A.MON_VIO, A.CLK_STAT] := by
  have width : d < 2 ^ F.SYS_STRAP_DEVID.width := small
  subst hv
  unfold strapsPut State.devid
  dsimp only
  refine ⟨?_, ?_, ?_, ?_, ?_, ?_, ?_⟩
  · simp
  · simp (disch := decide)
    exact get_put_val _ (by decide) width
  · simp (disch := decide) [flag_mark_same]
  · simp (disch := decide) [flag_mark_same]
  · simp (disch := decide) [flag_mark_same]
  · simp (disch := decide) [flag_mark_same]
  · simp

theorem forwardFollow_spec (v : State) (hv : forwardFollow s = v) : OnlyRegs s v ∧ v.flag F.CLK_STAT_SRC = s.flag F.CLK_STAT_SRC ∧
    v.get F.CLK_STAT_STATE = s.get F.CLK_STAT_STATE ∧ v.flag F.CLK_STAT_LOCK = s.flag F.CLK_STAT_LOCK ∧ RegsKept s v [A.CLK_STAT] := by
  subst hv
  unfold forwardFollow
  refine ⟨?_, ?_, ?_, ?_, mark_kept _ _ _⟩
  · simp
  · simp (disch := decide)
  · simp (disch := decide)
  · simp (disch := decide)

/-- A release with every supply good samples the straps and sets time to 0. -/
theorem release124_spec {d : Nat} {k t0 io : Bool} (small : d < 4) (v : State) (hv : release124 s d k t0 io = v) :
    v.pwr = { s.pwr with rst := false, test := t0, armed := !t0 } ∧ v.devid = d ∧ v.flag F.SYS_STRAP_CLKSRC = k ∧
      v.flag F.SYS_STRAP_TEST0 = t0 ∧ v.flag F.CLK_STAT_SRC = k ∧ v.flag F.MON_VIO_IO33 = io ∧ v.time = State.reset.time ∧
      v = { s with regs := v.regs, pwr := v.pwr, time := v.time, hg := v.hg } ∧ RegsKept s v [A.SYS_STRAP, A.MON_VIO, A.CLK_STAT] := by
  subst hv
  obtain ⟨only, dev, clk, test, src, vio, kept⟩ := strapsPut_spec (s := s) (k := k) (t0 := t0) (io := io) small _ rfl
  unfold release124
  extract_lets s1 old s2
  have h1 : s1 = strapsPut s d k t0 io := rfl
  rw [← h1] at only dev clk test src vio kept
  clear_value s1
  obtain ⟨g, rfl⟩ : ∃ g, s1 = { s with regs := g } := ⟨_, only⟩
  obtain ⟨only2, src2, -, -, kept2⟩ := forwardFollow_spec (s := { s2 with pwr := { s2.pwr with rst := false, test := t0, armed := !t0 } }) _ rfl
  generalize forwardFollow { s2 with pwr := { s2.pwr with rst := false, test := t0, armed := !t0 } } = w at only2 src2 kept2
  refine ⟨?_, ?_, ?_, ?_, ?_, ?_, ?_, ?_, ?_⟩
  · rw [only2]
  · rw [State.devid, kept2.get (by decide)]
    exact dev
  · rw [kept2.flag (by decide)]
    exact clk
  · rw [kept2.flag (by decide)]
    exact test
  · rw [src2]
    exact src
  · rw [kept2.flag (by decide)]
    exact vio
  · rw [only2]
  · rw [only2]
  · intro a out
    rw [kept2 a fun m => out (by rw [List.mem_singleton.mp m]; simp)]
    exact kept a out

/-! ## OFF -/

theorem offState_rd (a : Nat) : (offState s).rd a = resetWord a := rfl

theorem offState_pstate : (offState s).pstate = OFF := reset_pstate

theorem offCause_spec {por pin : Bool} {rail : Nat} (small : rail < 128) (v : State) (hv : offCause s por pin rail = v) : OnlyRegs s v ∧
    v.flag F.SYS_RSTCAUSE_POR = por ∧ v.flag F.SYS_RSTCAUSE_PIN = pin ∧ v.get F.SYS_RSTCAUSE_RAIL = rail ∧ RegsKept s v [A.SYS_RSTCAUSE] := by
  have width : rail < 2 ^ F.SYS_RSTCAUSE_RAIL.width := small
  subst hv
  unfold offCause
  refine ⟨?_, ?_, ?_, ?_, ?_⟩
  · simp
  · simp (disch := decide) [flag_mark_same]
  · simp (disch := decide) [flag_mark_same]
  · exact get_put_val _ (by decide) width
  · simp

/-- The entry to OFF: every register but the cause of the reset reads its reset word. -/
theorem off_spec {por pin : Bool} {rail : Nat} (small : rail < 128) (v : State) (hv : offCause (offState s) por pin rail = v) :
    v = { offState s with regs := v.regs } ∧ v.pstate = OFF ∧ v.flag F.SYS_RSTCAUSE_POR = por ∧ v.flag F.SYS_RSTCAUSE_PIN = pin ∧
      v.get F.SYS_RSTCAUSE_RAIL = rail ∧ ∀ a, a ≠ A.SYS_RSTCAUSE → v.rd a = resetWord a := by
  obtain ⟨only, hpor, hpin, hrail, kept⟩ := offCause_spec (s := offState s) small v hv
  exact ⟨only, (kept.pstate (by decide)).trans offState_pstate, hpor, hpin, hrail, fun a out =>
    (kept a fun m => out (List.mem_singleton.mp m)).trans (offState_rd a)⟩

/-! ## Start-up begins -/

/-- The clock's registers as start-up begins. -/
def startClock (s : State) : State :=
  (((s.put F.CLK_STAT_STATE CK_MEASURE).put F.CLK_STAT_FH_CLASS 0).mark F.CLK_STAT_LOCK false).mark F.CLK_STAT_HCK_OK false

/-- The registers as start-up begins, before the ports' end. -/
def startRegs (s : State) : State :=
  (((((wdoFollow (startClock s)).put F.CLK_WDO_REF 0).mark F.PWR_STATE_PHB_DUE false).wr A.PWR_BOOTST 0).level 4 false).wr A.PWR_MICPWR 0

theorem startBegin_eq : startBegin s = forwardFollow (hgDisable (hgDisable { startRegs (startClear s) with
    mic := { (startRegs (startClear s)).mic with settle := List.replicate 32 .none, div := [0, 0, 0, 0], pck := List.replicate 4 PckSt.reset } } 0) 1) := rfl

theorem startClock_spec (v : State) (hv : startClock s = v) : OnlyRegs s v ∧ v.get F.CLK_STAT_STATE = 2 ∧ v.flag F.CLK_STAT_LOCK = false ∧
    v.flag F.CLK_STAT_SRC = s.flag F.CLK_STAT_SRC ∧ v.devid = s.devid := by
  subst hv
  unfold startClock State.devid
  refine ⟨?_, ?_, ?_, ?_, ?_⟩ <;> simp (disch := decide) [flag_mark_same]

theorem wdoFollow_spec (v : State) (hv : wdoFollow s = v) : OnlyRegs s v ∧ v.get F.CLK_STAT_STATE = s.get F.CLK_STAT_STATE ∧
    v.flag F.CLK_STAT_LOCK = s.flag F.CLK_STAT_LOCK ∧ v.flag F.CLK_STAT_SRC = s.flag F.CLK_STAT_SRC ∧ v.devid = s.devid := by
  subst hv
  unfold wdoFollow State.devid
  refine ⟨?_, ?_, ?_, ?_, ?_⟩ <;> simp (disch := decide)

theorem onlyRegs_level {n : Nat} {b : Bool} : OnlyRegs s (t.level n b) ↔ OnlyRegs s t := by
  unfold State.level
  split
  · split
    · rfl
    · rw [onlyRegs_edge, onlyRegs_mark]
  · split
    · rw [onlyRegs_mark]
    · rfl

theorem startTail_only : OnlyRegs s (((((s.put F.CLK_WDO_REF 0).mark F.PWR_STATE_PHB_DUE false).wr A.PWR_BOOTST 0).level 4 false).wr A.PWR_MICPWR 0) := by
  rw [onlyRegs_wr, onlyRegs_level, onlyRegs_wr, onlyRegs_mark, onlyRegs_put]
  rfl

theorem startTail_kept : RegsKept s (((((s.put F.CLK_WDO_REF 0).mark F.PWR_STATE_PHB_DUE false).wr A.PWR_BOOTST 0).level 4 false).wr A.PWR_MICPWR 0)
    ([A.CLK_WDO] ++ [A.PWR_STATE] ++ [A.PWR_BOOTST] ++ sourceRegs 4 ++ [A.PWR_MICPWR]) :=
  ((((put_kept _ _ _).trans (mark_kept _ _ _)).trans (wr_kept _ _ _)).trans (level_kept _ _ _)).trans (wr_kept _ _ _)

theorem startRegs_spec (v : State) (hv : startRegs s = v) : OnlyRegs s v ∧ v.get F.CLK_STAT_STATE = 2 ∧
    v.flag F.CLK_STAT_LOCK = false ∧ v.flag F.CLK_STAT_SRC = s.flag F.CLK_STAT_SRC ∧ v.devid = s.devid := by
  unfold startRegs at hv
  obtain ⟨only, state, lock, src, dev⟩ := startClock_spec (s := s) _ rfl
  generalize startClock s = c at hv only state lock src dev
  obtain ⟨only2, state2, lock2, src2, dev2⟩ := wdoFollow_spec (s := c) _ rfl
  generalize wdoFollow c = d at hv only2 state2 lock2 src2 dev2
  have rest : RegsKept d v ([A.CLK_WDO] ++ [A.PWR_STATE] ++ [A.PWR_BOOTST] ++ sourceRegs 4 ++ [A.PWR_MICPWR]) := by
    rw [← hv]
    exact startTail_kept
  have still : OnlyRegs d v := by
    rw [← hv]
    exact startTail_only
  refine ⟨?_, ?_, ?_, ?_, ?_⟩
  · rw [OnlyRegs] at only only2 still ⊢
    rw [still, only2, only]
  · rw [rest.get (by decide), state2, state]
  · rw [rest.flag (by decide), lock2, lock]
  · rw [rest.flag (by decide), src2, src]
  · rw [State.devid, rest.get (by decide)]
    exact dev2.trans dev

theorem startBegin_spec (v : State) (hv : startBegin s = v) : v.pwr = (startClear s).pwr ∧ v.clk = (startClear s).clk ∧
    v.get F.CLK_STAT_STATE = 2 ∧ v.flag F.CLK_STAT_LOCK = false ∧ v.flag F.CLK_STAT_SRC = s.flag F.CLK_STAT_SRC ∧ v.devid = s.devid := by
  rw [startBegin_eq] at hv
  obtain ⟨only, state, lock, src, dev⟩ := startRegs_spec (s := startClear s) _ rfl
  have pwr : (startRegs (startClear s)).pwr = (startClear s).pwr := by rw [only]
  have clk : (startRegs (startClear s)).clk = (startClear s).clk := by rw [only]
  generalize hw : ({ startRegs (startClear s) with mic := { (startRegs (startClear s)).mic with settle := List.replicate 32 .none, div := [0, 0, 0, 0], pck := List.replicate 4 PckSt.reset } } : State) = w at hv
  have parts : w.pwr = (startClear s).pwr ∧ w.clk = (startClear s).clk := by
    rw [← hw]
    exact ⟨pwr, clk⟩
  have reads : w.get F.CLK_STAT_STATE = 2 ∧ w.flag F.CLK_STAT_LOCK = false ∧ w.flag F.CLK_STAT_SRC = s.flag F.CLK_STAT_SRC ∧ w.devid = s.devid := by
    rw [← hw, State.devid, get_with, get_with, flag_with, flag_with]
    exact ⟨state, lock, src, dev⟩
  have low : LowKept w (hgDisable (hgDisable w 0) 1) := (hgDisable_low).trans hgDisable_low
  have hpwr : (hgDisable (hgDisable w 0) 1).pwr = w.pwr := ((hgDisable_keeps).pwr rfl).trans ((hgDisable_keeps).pwr rfl)
  have hclk : (hgDisable (hgDisable w 0) 1).clk = w.clk := ((hgDisable_keeps).clk rfl).trans ((hgDisable_keeps).clk rfl)
  generalize hgDisable (hgDisable w 0) 1 = y at hv low hpwr hclk
  obtain ⟨only, src2, state2, lock2, kept⟩ := forwardFollow_spec v hv
  refine ⟨?_, ?_, ?_, ?_, ?_, ?_⟩
  · rw [only, ← parts.1, ← hpwr]
  · rw [only, ← parts.2, ← hclk]
  · rw [state2, low.get (by decide), reads.1]
  · rw [lock2, low.flag (by decide), reads.2.1]
  · rw [src2, low.flag (by decide), reads.2.2.1]
  · rw [State.devid, kept.get (by decide), low.get (by decide)]
    exact reads.2.2.2

theorem startTry_begins (armed : s.pwr.armed = true) (rst : s.pwr.rst = false) (rails : railsGood s = true) (here : s.clk.present = true)
    (off : s.pstate = OFF) (start : s.pwr.start = none) (resp : s.pwr.offResp = false) : startTry s = startBegin s :=
  if_pos (by simp [armed, rst, rails, here, off, start, resp])

theorem startTry_waits (wait : s.pwr.armed = false ∨ s.pwr.rst = true ∨ railsGood s = false ∨ s.clk.present = false ∨ s.pstate ≠ OFF ∨
    s.pwr.start ≠ none ∨ s.pwr.offResp = true) : startTry s = s := by
  refine if_neg ?_
  simp only [Bool.and_eq_true, Bool.not_eq_true', decide_eq_true_eq, Option.isNone_iff_eq_none]
  rintro ⟨⟨⟨⟨⟨⟨armed, rst⟩, rails⟩, here⟩, off⟩, start⟩, resp⟩
  rcases wait with h | h | h | h | h | h | h <;> simp_all

end

end Sys2Proof.Machine

open Sys2Proof Sys2Proof.Machine

/-- Settles O11: OFF is the reset state with what stands; a release is one update, and start-up begins with one function. -/
theorem resetAndSupplies : Obligations.ResetAndSupplies := by
  intro s
  refine ⟨?_, ?_, ?_, ?_, ?_, ?_, ?_, ?_, ?_, ?_, ?_, ?_, ?_, ?_, ?_, ?_⟩
  · intro high
    obtain ⟨only, off, por, pin, rail, words⟩ := off_spec (s := s) (por := false) (pin := true) (rail := 0) (by decide) _ rfl
    have run : exec (.rstAssert false) s = .next { offCause (offState s) false true 0 with
        pwr := { (offCause (offState s) false true 0).pwr with rst := true } } := if_neg (by simp [high])
    refine Gives.of_next run ?_
    generalize offCause (offState s) false true 0 = w at only off por pin rail words
    obtain ⟨g, rfl⟩ : ∃ g, w = { offState s with regs := g } := ⟨_, only⟩
    exact ⟨off, rfl, rfl, pin, por, rail, words, rfl, rfl, rfl, rfl, rfl, rfl, rfl, rfl⟩
  · intro high
    by_cases ignored : (s.fresh 2).1 = 0
    · have run : exec (.rstAssert true) s = .next (s.fresh 2).2 :=
        (if_neg (by simp [high])).trans ((if_pos rfl).trans (if_pos ignored))
      exact Gives.of_next run (Or.inl rfl)
    · obtain ⟨only, off, -, pin, -, words⟩ := off_spec (s := (s.fresh 2).2) (por := false) (pin := true) (rail := 0) (by decide) _ rfl
      have run : exec (.rstAssert true) s = .next (forwardFollow (strapsPut { offCause (offState (s.fresh 2).2) false true 0 with
          pwr := { (offCause (offState (s.fresh 2).2) false true 0).pwr with armed := !s.pwr.test } } s.devid (s.flag F.SYS_STRAP_CLKSRC)
          (s.flag F.SYS_STRAP_TEST0) (s.flag F.MON_VIO_IO33))) :=
        (if_neg (by simp [high])).trans ((if_pos rfl).trans (if_neg ignored))
      refine Gives.of_next run (Or.inr ?_)
      generalize offCause (offState (s.fresh 2).2) false true 0 = w at only off pin words
      obtain ⟨g, rfl⟩ : ∃ g, w = { offState (s.fresh 2).2 with regs := g } := ⟨_, only⟩
      have small : s.devid < 4 := get_lt s F.SYS_STRAP_DEVID
      generalize hp : ({ { offState (s.fresh 2).2 with regs := g } with
        pwr := { ({ offState (s.fresh 2).2 with regs := g } : State).pwr with armed := !s.pwr.test } } : State) = y
      obtain ⟨only2, dev, -, -, -, -, kept⟩ := strapsPut_spec (s := y) (k := s.flag F.SYS_STRAP_CLKSRC) (t0 := s.flag F.SYS_STRAP_TEST0)
        (io := s.flag F.MON_VIO_IO33) small _ rfl
      generalize strapsPut y s.devid (s.flag F.SYS_STRAP_CLKSRC) (s.flag F.SYS_STRAP_TEST0) (s.flag F.MON_VIO_IO33) = z at only2 dev kept
      obtain ⟨only3, -, -, -, kept3⟩ := forwardFollow_spec (s := z) _ rfl
      generalize forwardFollow z = t at only3 kept3
      have all : RegsKept y t ([A.SYS_STRAP, A.MON_VIO, A.CLK_STAT] ++ [A.CLK_STAT]) := kept.trans kept3
      have reads : ∀ a, a ∉ [A.SYS_RSTCAUSE] → y.rd a = resetWord a := fun a out => by
        rw [← hp]
        exact words a fun h => out (List.mem_singleton.mpr h)
      have pinY : y.flag F.SYS_RSTCAUSE_PIN = true := by
        rw [← hp]
        exact pin
      have offY : y.pstate = OFF := by
        rw [← hp]
        exact off
      refine ⟨(all.pstate (by decide)).trans offY, ?_, (all.flag (by decide)).trans pinY, ?_, ?_, ?_, ?_, ?_, ?_, ?_, ?_⟩
      · rw [only3, only2, ← hp]
        exact high
      · exact (kept3.get (by decide)).trans dev
      all_goals try (rw [only3, only2, ← hp]; rfl)
      intro a out
      simp only [List.mem_cons, List.not_mem_nil, or_false, not_or] at out
      rw [all a (by simp [out.2.1, out.2.2.1, out.2.2.2])]
      exact reads a (by simp [out.1])
  · exact fun b low => Gives.of_next (if_pos low) rfl
  · intro v lost good fine
    have small : (if lost then 0 else 2 ^ v.val) < 128 := by clear * -; revert v lost; decide
    obtain ⟨only, off, por, pin, rail, words⟩ := off_spec (s := s) (por := lost) (pin := false) small _ rfl
    have run : exec (.supplyLoss v lost) s = .next { offCause (offState s) lost false (if lost then 0 else 2 ^ v.val) with
        pwr := { (offCause (offState s) lost false (if lost then 0 else 2 ^ v.val)).pwr with rails := setNth s.pwr.rails v.val false } } :=
      (if_neg (by simp [fine])).trans (if_pos good)
    refine Gives.of_next run ?_
    generalize offCause (offState s) lost false (if lost then 0 else 2 ^ v.val) = w at only off por pin rail words
    obtain ⟨g, rfl⟩ : ∃ g, w = { offState s with regs := g } := ⟨_, only⟩
    exact ⟨off, rfl, por, pin, rail, words, rfl, rfl, rfl, rfl, rfl, rfl, rfl⟩
  · intro v lost bad fine
    have run : exec (.supplyLoss v lost) s = .next (if s.flag F.SYS_RSTCAUSE_POR then
        { s with pwr := { s.pwr with rails := setNth s.pwr.rails v.val false } }
      else State.putBit { s with pwr := { s.pwr with rails := setNth s.pwr.rails v.val false } } F.SYS_RSTCAUSE_RAIL v.val true) :=
      (if_neg (by simp [fine])).trans (if_neg (by simp [bad]))
    by_cases por : s.flag F.SYS_RSTCAUSE_POR = true
    · exact Gives.of_eq run (if_pos por) ⟨rfl, fun _ => rfl, fun h => absurd por (by simp [h])⟩
    · refine Gives.of_eq run (if_neg por) ⟨?_, fun h => absurd h por, fun _ => ⟨?_, ?_⟩⟩
      · unfold State.putBit
        rw [eq_with_regs]
        simp
      · exact bitOf_putBit_same _ (by decide) (by simpa using v.isLt)
      · unfold State.putBit
        exact (RegsKept.from_with).mp (put_kept _ _ _)
  · exact fun v lost out => Gives.of_next (if_pos (by simp [out])) rfl
  · intro v d k t0 io out waits
    refine Gives.of_next ((if_neg (by simp [out])).trans (congrArg _ (if_neg ?_))) rfl
    rcases waits with h | h
    · simp [h]
    · simp [h]
  · intro v d k t0 io out high good
    have run : exec (.supplyGood v d k t0 io) s =
        .next (release124 { s with pwr := { s.pwr with rails := setNth s.pwr.rails v.val true } } d.val k t0 io) :=
      (if_neg (by simp [out])).trans (congrArg _ (if_pos (by rw [good, high]; rfl)))
    obtain ⟨pwr, dev, clk, test, src, vio, time, -, kept⟩ := release124_spec (k := k) (t0 := t0) (io := io)
      (s := { s with pwr := { s.pwr with rails := setNth s.pwr.rails v.val true } }) d.isLt _ rfl
    refine Gives.of_next run ⟨dev, clk, test, src, vio, ?_, ?_, time, (RegsKept.from_with).mp kept⟩
    · rw [pwr]
    · rw [pwr]
  · exact fun v d k t0 io good => Gives.of_next (if_pos good) rfl
  · intro d k t0 io low good
    obtain ⟨pwr, dev, clk, test, src, vio, time, only, kept⟩ := release124_spec (s := s) (k := k) (t0 := t0) (io := io) d.isLt _ rfl
    have run : exec (.rstRelease d k t0 io false) s = .next (release124 s d.val k t0 io) :=
      (if_neg (by simp [low])).trans (if_neg (by simp [good]))
    exact Gives.of_next run ⟨pwr, dev, clk, test, src, vio, time, only, kept⟩
  · intro d k io low good here off start resp
    obtain ⟨pwr, dev, clk, test, src, vio, time, only, kept⟩ := release124_spec (s := s) (k := k) (t0 := false) (io := io) d.isLt _ rfl
    have run : exec (.rstRelease d k false io true) s = .next (startTry (release124 s d.val k false io)) :=
      (if_neg (by simp [low])).trans (if_neg (by simp [good]))
    generalize release124 s d.val k false io = w at run pwr dev clk test src vio time only kept
    have begins : startTry w = startBegin w := startTry_begins (by rw [pwr]; rfl) (by rw [pwr]) (by rw [railsGood, pwr]; exact good)
      (by rw [only]; exact here) ((kept.pstate (by decide)).trans off) (by rw [pwr]; exact start) (by rw [pwr]; exact resp)
    obtain ⟨pwr2, clk2, -, -, src2, dev2⟩ := startBegin_spec (s := w) _ rfl
    refine Gives.of_eq run begins ⟨?_, dev2.trans dev, src2.trans src, ?_, ?_, ?_⟩
    · rw [pwr2]
      exact congrArg PwrSt.rst pwr
    · rw [pwr2]
      rfl
    · rw [pwr2]
      rfl
    · rw [clk2]
      rfl
  · intro d k t0 io low good waits
    obtain ⟨pwr, dev, clk, test, src, vio, time, only, kept⟩ := release124_spec (s := s) (k := k) (t0 := t0) (io := io) d.isLt _ rfl
    have run : exec (.rstRelease d k t0 io true) s = .next (startTry (release124 s d.val k t0 io)) :=
      (if_neg (by simp [low])).trans (if_neg (by simp [good]))
    refine Gives.of_eq run (startTry_waits ?_) ⟨pwr, dev⟩
    rcases waits with rfl | gone
    · exact Or.inl (by rw [pwr]; rfl)
    · exact Or.inr (Or.inr (Or.inr (Or.inl (by rw [only]; exact gone))))
  · exact fun d k t0 io m low bad => Gives.of_next ((if_neg (by simp [low])).trans (if_pos (by simp [bad]))) rfl
  · exact fun d k t0 io m high => Gives.of_next (if_pos (by simp [high])) rfl
  · intro armed rst good here off start resp
    obtain ⟨pwr, clk, state, lock, -, -⟩ := startBegin_spec (s := s) _ rfl
    refine Gives.of_eq rfl (startTry_begins armed rst good here off start resp) ⟨?_, ?_, ?_, ?_, state, lock⟩
    · rw [pwr]
      rfl
    · rw [pwr]
      rfl
    · rw [clk]
      rfl
    · rw [clk]
      rfl
  · intro wait
    exact Gives.of_next rfl (startTry_waits wait)
end

section
/-! PROOFS. The steps of start-up (O12): a start-up whose record is out of order. -/

namespace Sys2Proof.Machine

/-- OFF with a start-up whose record has step 5 done before steps 3 and 4, which no run reaches: step 6 has then "begun",
as all before it is over, and a failure of phase A does not drop it. -/
def strayStart : State := { State.reset with pwr := { State.reset.pwr with start := some ⟨[2, 5], false, 0, []⟩ } }

theorem strayStart_runs : strayStart.clk.present = true ∧ strayStart.pstate = OFF ∧ stepRuns strayStart 3 = true ∧
    stepOver ⟨[2, 5], false, 0, []⟩ 7 = false ∧ strayStart.swa.zsw = false ∧ strayStart.swa.zss = false := by decide +kernel

/-- Whether a step of start-up is over after a command. -/
def stepOverAfter (c : Instr) (s : State) (n : Nat) : Option Bool :=
  match exec c s with
  | .next t => t.pwr.start.map (fun q => stepOver q n)
  | _ => none

theorem strayStart_keeps_step6 : stepOverAfter (.selfTestPhaseAEnd false) strayStart 6 = some false := by decide +kernel

end Sys2Proof.Machine

open Sys2Proof Sys2Proof.Machine

/-- Refutes O12, in its clause of a failed phase A: in a start-up with step 5 done before step 3, a record that no run makes,
step 6 is not dropped. -/
theorem not_startupSteps : ¬ Obligations.StartupSteps := by
  intro holds
  obtain ⟨-, fails, -⟩ := holds strayStart
  obtain ⟨present, off, runs, before, zsw, zss⟩ := strayStart_runs
  obtain ⟨t, ends, -, dropped, -⟩ := fails _ present off rfl rfl runs before zsw zss
  have step6 := strayStart_keeps_step6
  rw [stepOverAfter, ends] at step6
  have dropped6 := dropped 6 (by decide)
  exact absurd (step6.symm.trans dropped6) (by decide)
end

section
/-! PROOFS. State requests and the transitions' ends (O13). -/

namespace Sys2Proof.Machine

section

variable {s t u : State} {f : Fld} {v n lo : Nat}

/-! ## Registers below the sound path's stand: updates above them -/

theorem lowKept_congr (h : LowKept t u) : LowKept s u ↔ LowKept s t :=
  ⟨fun k a m => (h a m).symm.trans (k a m), fun k => k.trans h⟩

@[simp] theorem lowKept_refl : LowKept s s := Stands.rfl

@[simp] theorem lowKept_put_iff (high : 0x040000 ≤ f.addr) : LowKept s (t.put f v) ↔ LowKept s t := lowKept_congr (lowKept_put high)

@[simp] theorem lowKept_mark_iff {b : Bool} (high : 0x040000 ≤ f.addr) : LowKept s (t.mark f b) ↔ LowKept s t := lowKept_congr (lowKept_mark high)

@[simp] theorem lowKept_bump_iff (high : 0x040000 ≤ lo) : LowKept s (t.bump64 lo n) ↔ LowKept s t := lowKept_congr (lowKept_bump high)

@[simp] theorem lowKept_setPair_iff (high : 0x040000 ≤ lo) : LowKept s (t.setPair lo v) ↔ LowKept s t :=
  lowKept_congr (.of_kept (setPair_kept t lo v) fun b low m => by
    simp only [List.mem_cons, List.not_mem_nil, or_false] at m
    omega)

@[simp] theorem lowKept_wr_iff {w : Word} (high : 0x040000 ≤ lo) : LowKept s (t.wr lo w) ↔ LowKept s t := lowKept_congr (lowKept_wr high)

@[simp] theorem lowKept_incSat_iff (high : 0x040000 ≤ f.addr) : LowKept s (t.incSat f) ↔ LowKept s t :=
  lowKept_congr (.of_kept incSat_kept fun b low m => by
    rw [List.mem_singleton.mp m] at low
    omega)

theorem sourceRegs_high : ∀ a < 0x040000, a ∉ sourceRegs n := fun a low m => by
  simp only [sourceRegs, A.INT_SRCs, A.INT_Gg_EDGE_LO, A.INT_Gg_COAL_LO, List.mem_cons, List.not_mem_nil, or_false] at m
  omega

@[simp] theorem lowKept_level_iff {b : Bool} : LowKept s (t.level n b) ↔ LowKept s t := lowKept_congr lowKept_level

@[simp] theorem lowKept_event_iff : LowKept s (t.event n) ↔ LowKept s t := lowKept_congr (.of_kept (event_kept t n) sourceRegs_high)

@[simp] theorem lowKept_edge_iff : LowKept s (t.edge n) ↔ LowKept s t := lowKept_congr (.of_kept (edge_kept t n) sourceRegs_high)

@[simp] theorem lowKept_with {pending : List Instr} {clk : ClkSt} {pwr : PwrSt} {hsp : HspSt} {time : TimeSt} {int : IntSt} {mic : MicSt}
    {flt : FltSt} {lsn : LsnSt} {drl : DrlSt} {swa : SwaSt} {que : QueSt} {hg : HgSt} {frw : FrwSt} {adc : AdcSt} {mon : MonSt}
    {saf : SafSt} {nvm : NvmSt} {jtag free : Nat} : LowKept t (State.mk pending s.regs clk pwr hsp time int mic flt lsn drl swa que
      hg frw adc mon saf nvm jtag free) ↔ LowKept t s := Iff.rfl

@[simp] theorem lowKept_setAdc {x : Nat} {c : AdcConv} : LowKept s (t.setAdc x c) ↔ LowKept s t := Iff.rfl

@[simp] theorem lowKept_setHgp {x : Nat} {p : HgPort} : LowKept s (t.setHgp x p) ↔ LowKept s t := Iff.rfl

@[simp] theorem lowKept_setKey {x : Nat} {p : KeySt} : LowKept s (t.setKey x p) ↔ LowKept s t := Iff.rfl

theorem adcBegin_low {x e : Nat} {k : ConvKind} : LowKept s (adcBegin s x k e) := by
  unfold adcBegin
  simp (disch := grind)

theorem ledgerTake_low {x e : Nat} : LowKept s (ledgerTake s x e) := by
  unfold ledgerTake
  simp (disch := grind)

theorem ledgersTake_low {x : Nat} : LowKept s (ledgersTake s x) :=
  Stands.trans (t := s.setAdc x { s.adcx x with take := [] }) (by simp) (Stands.forEach fun _ _ _ => ledgerTake_low)

theorem pairBegin_low : LowKept s (pairBegin s) := by
  unfold pairBegin
  exact ((by simp (disch := grind) : LowKept s _).trans adcBegin_low).trans adcBegin_low

theorem scanNext_low {x : Nat} : LowKept s (scanNext s x) := by
  unfold scanNext
  split
  · exact .ite (.ite pairBegin_low (by simp (disch := grind))) adcBegin_low
  · simp

theorem scanEnd_low {x : Nat} : LowKept s (scanEnd s x) := by
  unfold scanEnd
  simp (disch := grind)

theorem scanBegin_low {x : Nat} : LowKept s (scanBegin s x) := by
  unfold scanBegin
  extract_lets m k s1
  have h1 : LowKept s s1 := by simp [s1]
  exact .ite (h1.trans scanEnd_low) (h1.trans scanNext_low)

theorem adcChoose_low {x : Nat} : LowKept s (adcChoose s x) := by
  unfold adcChoose
  extract_lets s1 k s2 k2 ref s3
  have h1 : LowKept s s1 := ledgersTake_low
  have h2 : LowKept s s2 := .ite (h1.trans (by simp)) h1
  have h3 : LowKept s s3 := .ite (h2.trans scanBegin_low) h2
  have begins : ∀ {t : State} {k : ConvKind} {e : Nat}, LowKept s t → LowKept s (adcBegin t x k e) := fun h => h.trans adcBegin_low
  split
  · exact begins h2
  · refine .ite (.ite (begins h2) h2) ?_
    split
    · exact .ite (begins h2) h2
    · exact .ite h2 (.ite (h2.trans pairBegin_low) (.ite (h2.trans scanNext_low) (.ite (begins h3) h3)))

theorem adcKick_low {x : Nat} : LowKept s (adcKick s x) := .ite adcChoose_low (by simp)

theorem adcKicks_low : LowKept s (adcKicks s) := (adcKick_low).trans adcKick_low

theorem selfStart_low : LowKept s (selfStart s) := by
  unfold selfStart
  exact (by simp (disch := grind) : LowKept s _).trans adcKicks_low

theorem sysAbort_low {x : Nat} : LowKept s (sysAbort s x) := by
  unfold sysAbort sysEnd
  exact .ite (by simp (disch := grind)) (by simp)

theorem adcQueueShow_low {x : Nat} : LowKept s (adcQueueShow s x) := by
  unfold adcQueueShow
  simp (disch := grind)

/-- An operation on blocks above the sound path's leaves the registers below it. -/
theorem low_of_blocks {bs : List Nat} (h : BlocksKept bs s t) (high : ∀ b ∈ bs, 4 ≤ b) : LowKept s t := h.weaken fun a low m => by
  have := high _ m
  omega

theorem adcSentry_low : LowKept s (adcSentry s) := by
  unfold adcSentry
  extract_lets s1 s2 old s3 s4 s5
  have h1 : LowKept s s1 := low_of_blocks (bs := [10, 11]) adcHold_blocks (by decide)
  have h2 : LowKept s1 s2 := (sysAbort_low).trans sysAbort_low
  have h4 : LowKept s2 s4 := .ite (by simp (disch := grind) [s3]) (by simp)
  have h5 : LowKept s4 s5 := by simp (disch := grind) [s5]
  refine (((h1.trans h2).trans h4).trans h5).trans (Stands.forEach fun t x _ => ?_)
  dsimp only
  exact Stands.trans (by simp (disch := grind)) adcQueueShow_low

/-! ## The link, the queues, the drill and the swath -/

theorem hgTrain_low {x : Nat} {keep : Bool} : LowKept s (hgTrain s x keep) := by
  unfold hgTrain hgOverres hgDownLevel
  have resent : LowKept s (hgResend s x) := hgResend_low
  simpa (disch := grind) using resent

theorem hgDown_low {x : Nat} : LowKept s (hgDown s x) := by
  unfold hgDown
  have stopped : LowKept s (hgStop (linkReset s x) x HG_OFF) := (linkReset_low).trans hgStop_low
  exact .ite (stopped.trans hgTrain_low) stopped

theorem hgDegrade_low {x tx rx cause : Nat} : LowKept s (hgDegrade s x tx rx cause) := by
  unfold hgDegrade hgOverres
  refine .ite hgDown_low ?_
  split <;> simp (disch := grind)

theorem hgSentry_low : LowKept s (hgSentry s) := by
  unfold hgSentry hgKeepLane
  refine .ite (Stands.trans (.ite ?_ (by simp)) hgDisable_low) ((hgDisable_low).trans hgDisable_low)
  exact Stands.trans (t := s.setHgp 0 _) (by simp) hgDegrade_low

theorem authSend_low {x : Nat} {m : Msg} : LowKept s (authSend s x m).1 := by
  unfold authSend keyedFollow
  extract_lets k t s1 ctr
  split
  · simp
  · split
    · have h1 : LowKept s s1 := by simp (disch := grind) [s1]
      split
      · exact h1.trans (by simp (disch := grind))
      · exact h1
    · simp (disch := grind)

theorem msgOnLine_low {m : Msg} : LowKept s (msgOnLine s m).1 := by
  unfold msgOnLine State.fresh
  split
  · split
    · exact Stands.rfl
    · exact Stands.rfl.parts rfl
  · split <;> exact Stands.rfl

theorem hgSendFrame_low {x : Nat} {e : Nat × Msg} {pay : Bool} : LowKept s (hgSendFrame s x e pay) := by
  obtain ⟨vc, m⟩ := e
  unfold hgSendFrame
  dsimp -zeta only
  extract_lets p cost s1 p2 s2
  have h1 : LowKept s s1 := by simp [s1]
  have h2 : LowKept s (authSend (msgOnLine s1 m).1 x (msgOnLine s1 m).2).1 := (h1.trans msgOnLine_low).trans authSend_low
  exact h2.trans (by simp (disch := grind) [hgLine, s2])

theorem standDownSend_low {x : Nat} : LowKept s (standDownSend s x) :=
  Stands.forEach fun _ _ _ => .ite ((hgSendFrame_low).parts rfl) (by simp)

theorem standDownsSend_low : LowKept s (standDownsSend s) := by
  unfold standDownsSend
  extract_lets old s1
  have h0 : LowKept s { s with hg := { s.hg with line := [] } } := by simp
  have h1 : LowKept s s1 := (h0.trans standDownSend_low).trans standDownSend_low
  have port : ∀ (t : State) x p, LowKept t (t.setHgp x p) := fun _ _ _ => (lowKept_setHgp).mpr lowKept_refl
  refine .ite (h1.trans (Stands.forEach fun t x _ => ?_)) lowKept_refl
  exact port _ _ _

theorem hqLevel_low {rose : Bool} : LowKept s (hqLevel s rose) := by
  unfold hqLevel
  exact .ite (.ite (by simp) (by simp)) (by simp)

theorem queuesDiscard_low : LowKept s (queuesDiscard s) := by
  unfold queuesDiscard
  refine Stands.forEach fun t n _ => ?_
  extract_lets q k t1 t2
  have h1 : LowKept t t1 := .ite (by simp) (by
    unfold queueCountDrop
    simp (disch := grind))
  have h2 : LowKept t t2 := h1.parts rfl
  exact .ite (h2.trans hqLevel_low) h2

theorem intWithdraw_low : LowKept s (intWithdraw s) := by
  unfold intWithdraw
  extract_lets lost s1 rest
  exact Stands.parts (Stands.forEach fun _ _ _ => by simp (disch := grind)) rfl

theorem enrEnd_low {err : Nat} : LowKept s (enrEnd s err) := by
  unfold enrEnd
  exact .ite (by simp (disch := grind)) (by simp)

theorem drlSentry_low : LowKept s (drlSentry s) := (enrEnd_low).parts rfl

theorem swapAbort_low {err : Nat} : LowKept s (swapAbort s err) := by
  unfold swapAbort
  exact .ite (by simp (disch := grind)) (by simp)

theorem svcEnd_low {err : Nat} : LowKept s (svcEnd s err) := by
  unfold svcEnd
  simp (disch := grind)

theorem unloadEnd_low : LowKept s (unloadEnd s) :=
  Stands.forEach fun t k _ => Stands.trans (t := t.setStrip k { t.strip k with unl := false }) (Stands.rfl.parts rfl)
    (by simp (disch := grind))

/-- The swath's registers and its sources' are above the state's. -/
theorem low_of_outside (h : Stands OutsideSwath s t) : LowKept s t := h.weaken fun a low =>
  ⟨Or.inl (by omega), sourceRegs_high a low, sourceRegs_high a low⟩

theorem mittenClose_low {cause : Nat} : LowKept s (mittenClose s cause) := by
  unfold mittenClose
  extract_lets s1 s2 s3
  have h3 : LowKept s s3 := by simp (disch := grind) [s3, s2, s1]
  refine .ite ?_ (by simp)
  split
  · exact .ite (h3.trans (low_of_outside mittenOpening_stands)) h3
  · exact h3

theorem standDown_low : LowKept s (standDown s) := by
  unfold standDown
  extract_lets s1 old s2
  have h2 : LowKept s s2 := by simp (disch := grind) [s2, s1]
  exact .ite (.ite (h2.trans hgBroadcast_stands) h2) (by simp)

theorem monSentry_low : LowKept s (monSentry s) := by
  unfold monSentry pmbQueue
  extract_lets old1 s1 old2 s2
  have h1 : LowKept s s1 := by simp [s1]
  have h2 : LowKept s s2 := .ite (.ite (h1.parts rfl) h1) h1
  exact h2.trans (low_of_blocks (bs := [10, 12]) monFollow_blocks (by decide))

/-! ## The state's own register -/

/-- The register of the device's state reads as before. -/
abbrev StateKept (s t : State) : Prop := Stands (fun a => a = A.PWR_STATE) s t

theorem stateKept_congr (h : StateKept t u) : StateKept s u ↔ StateKept s t :=
  ⟨fun k a m => (h a m).symm.trans (k a m), fun k => k.trans h⟩

@[simp] theorem stateKept_refl : StateKept s s := Stands.rfl

@[simp] theorem stateKept_put_iff (m : f.addr ≠ A.PWR_STATE) : StateKept s (t.put f v) ↔ StateKept s t := stateKept_congr (Stands.put m)

@[simp] theorem stateKept_mark_iff {b : Bool} (m : f.addr ≠ A.PWR_STATE) : StateKept s (t.mark f b) ↔ StateKept s t :=
  stateKept_congr (Stands.mark m)

theorem LowKept.state (h : LowKept s t) : StateKept s t := Stands.weaken h fun _ e => e ▸ by decide

@[simp] theorem stateKept_event_iff : StateKept s (t.event n) ↔ StateKept s t := stateKept_congr (LowKept.state (by simp))

@[simp] theorem stateKept_with {pending : List Instr} {clk : ClkSt} {pwr : PwrSt} {hsp : HspSt} {time : TimeSt} {int : IntSt} {mic : MicSt}
    {flt : FltSt} {lsn : LsnSt} {drl : DrlSt} {swa : SwaSt} {que : QueSt} {hg : HgSt} {frw : FrwSt} {adc : AdcSt} {mon : MonSt}
    {saf : SafSt} {nvm : NvmSt} {jtag free : Nat} : StateKept t (State.mk pending s.regs clk pwr hsp time int mic flt lsn drl swa que
      hg frw adc mon saf nvm jtag free) ↔ StateKept t s := Iff.rfl

theorem stateKept_of_blocks {bs : List Nat} (h : BlocksKept bs s t) (m : 2 ∉ bs) : StateKept s t := h.weaken fun _ e => e ▸ m

theorem stateKept_of_mic (h : Stands BesideInputs s t) : StateKept s t := h.weaken fun _ e => e ▸ by decide

theorem groupTmc_state {g : Nat} (small : g < 4) : StateKept s (groupTmc s g) := Stands.forEach fun _ _ m =>
  stateKept_of_mic (settleStart_stands (filtered_inside small _ m))

theorem groupMode_state {g d : Nat} (small : g < 4) : StateKept s (groupMode s g d) := by
  unfold groupMode
  exact .ite ((Stands.parts (Stands.trans (Stands.parts Stands.rfl (setDiv_regs _ _ _)) groupAnchor_stands) rfl).trans (groupTmc_state small))
    Stands.rfl

theorem groupStop_state {g : Nat} : StateKept s (groupStop s g) := by
  rw [groupStop_only]
  exact Stands.rfl.parts rfl

theorem sentryGroup_lt : sentryIn s / 8 < 4 := by
  have : sentryIn s < 32 := get_lt s F.MIC_CFG_SENTRY_IN
  omega

theorem groupDown_state {g : Nat} : StateKept s (groupDown s g) := (groupDown_stands).weaken fun _ e => e ▸ by decide

theorem calAbort_state : StateKept s (calAbort s) := by
  unfold calAbort
  split
  · exact Stands.rfl
  · simp (disch := decide)

theorem micStop_state : StateKept s (micStop s) := by
  unfold micStop
  exact Stands.trans (Stands.forEach fun _ _ _ => groupStop_state) (groupMode_state sentryGroup_lt)

theorem micSentry_state : StateKept s (micSentry s) := by
  unfold micSentry
  extract_lets g s1 s2 s3 old s4
  have h1 : StateKept s s1 := Stands.forEach fun _ _ _ => groupDown_state
  have h2 : StateKept s s2 := h1.trans (Stands.put (by decide))
  have small : g < 4 := sentryGroup_lt
  have h3 : StateKept s s3 := .ite (h2.trans (groupMode_state small))
    (h2.trans ((groupUp_stands small).weaken fun _ e => e ▸ by decide))
  exact (h3.parts (u := s4) rfl).parts rfl

theorem coreMemLost_regs : (coreMemLost s).regs = s.regs := by
  have progs : ∀ (l : List Nat) (t : State), (forEach l (fun s c => (s.setProg c []).setData c []) t).regs = t.regs := by
    intro l
    induction l with
    | nil => exact fun _ => rfl
    | cons c l ih => exact fun t => ih _
  exact progs _ _

theorem setCoreState_low {c v : Nat} : LowKept s (setCoreState s c v) := by
  unfold setCoreState
  exact .ite (by simp (disch := grind)) (.ite (by simp (disch := grind)) (by simp))

theorem stagingDrop_low {c : Nat} : LowKept s (stagingDrop s c) := by
  unfold stagingDrop
  exact .ite (by simp (disch := grind)) (by simp)

theorem coreStop_low {c st : Nat} : LowKept s (coreStop s c st) := by
  unfold coreStop
  extract_lets s1 k s2
  have h2 : LowKept s s2 := ((setCoreState_low).trans stagingDrop_low).parts rfl
  exact .ite (h2.trans (by simp (disch := grind))) h2

theorem coreGate_low {c : Nat} : LowKept s (coreGate s c) := .ite (by simp) (Stands.trans (t := s.setCore c coreFresh) (Stands.rfl.parts rfl) coreStop_low)

theorem coreInit_low {c : Nat} : LowKept s (coreInit s c) := by
  unfold coreInit
  extract_lets s1
  have h1 : LowKept s s1 := Stands.trans (t := s.setCore c coreFresh) (Stands.rfl.parts rfl) setCoreState_low
  exact .ite (h1.trans (by simp (disch := grind))) h1

theorem sadSeed_low {u : Nat} {notice : Bool} : LowKept s (sadSeed s u notice) := (sadSeed_stands).weaken fun _ low => by omega

theorem sadFollow_low : LowKept s (sadFollow s) := Stands.forEach fun t u _ => by
  unfold sadStart sadStop
  have sad : ∀ q, LowKept t (t.setSad u q) := fun _ => Stands.rfl.parts (State.setSad_regs ..)
  refine .ite ((sad _).trans sadSeed_low) (.ite ?_ (by simp))
  have stopped := sad SadSt.reset
  simpa (disch := grind) using stopped

theorem unloadBegin_low : LowKept s (unloadBegin s) := Stands.forEach fun _ _ m =>
  low_of_outside (unloadStart_stands (mem_upto (List.mem_of_mem_filter m)))

theorem sentryFailover_state : StateKept s (sentryFailover s) := by
  unfold sentryFailover sadSentryChange
  extract_lets p s0 s1 d old s2
  have h2 : StateKept s s2 := by simp (disch := decide) [s2, s1, s0]
  exact .ite (h2.trans (Stands.forEach fun _ _ _ => .ite (LowKept.state sadSeed_low) Stands.rfl)) Stands.rfl

theorem sentryFollow_state : StateKept s (sentryFollow s) := .ite sentryFailover_state Stands.rfl

theorem enterState_spec {st cause : Nat} (small : st < 8) (v : State) (hv : enterState s st cause = v) : v.pstate = st ∧
    v.flag F.PWR_STATE_TRANS = false ∧ v.flag F.PWR_STATE_REC = s.flag F.PWR_STATE_REC ∧ v.pwr = { s.pwr with trans := none } := by
  unfold enterState at hv
  extract_lets last old s1 s2 s3 s4 s5 at hv
  have regs : s5.pstate = st ∧ s5.flag F.PWR_STATE_TRANS = false ∧ s5.flag F.PWR_STATE_REC = s.flag F.PWR_STATE_REC := by
    have put : s3.pstate = st ∧ s3.flag F.PWR_STATE_TRANS = false ∧ s3.flag F.PWR_STATE_REC = s.flag F.PWR_STATE_REC := by
      refine ⟨?_, ?_, ?_⟩
      · simp (disch := decide) only [s3, s2, State.pstate, get_put_apart, get_mark_apart]
        exact get_put_val _ (by decide) small
      · simp (disch := decide) only [s3, s2, flag_put_apart]
        exact flag_mark_same _ _ _ (by decide) (by decide)
      · simp (disch := decide) only [s3, s2, flag_put_apart, flag_mark_apart]
        rfl
    have stands : StateKept s3 s5 := by
      have h4 : StateKept s3 s4 := (stateKept_event_iff).mpr (Stands.of_kept (bump64_kept _ _ _) fun _ e => e ▸ by decide)
      exact .ite h4 (h4.trans (LowKept.state (by simp (disch := grind))))
    obtain ⟨a, b, c⟩ := put
    exact ⟨(stands.get rfl).trans a, (stands.flag rfl).trans b, (stands.flag rfl).trans c⟩
  have stands : StateKept s5 v := hv ▸ (LowKept.state sadFollow_low).trans (stateKept_of_blocks (bs := [1]) wdoFollow_blocks (by decide))
  have pwr : v.pwr = s5.pwr := by rw [← hv, (wdoFollow_keeps).pwr rfl, (sadFollow_keeps).pwr rfl]
  obtain ⟨a, b, c⟩ := regs
  refine ⟨(stands.get rfl).trans a, (stands.flag rfl).trans b, (stands.flag rfl).trans c, Eq.trans pwr ?_⟩
  have apart : ∀ c : Prop, ∀ _ : Decidable c, (if c then s4 else s4.mark F.SAF_ST_TRIPPED false).pwr = s4.pwr := fun c _ => by split <;> rfl
  exact (apart _ _).trans ((State.event_keeps).pwr rfl)

/-! ## A transition's beginning -/

theorem transBegin_spec {g cause : Nat} {waits : List TransWait} (small : g < 8) (v : State) (hv : transBegin s g cause waits = v) :
    v = { s with regs := v.regs, time := { s.time with transAt := s.time.hsck }, pwr := { s.pwr with trans := some ⟨g, cause, waits, false, false⟩, held := none } } ∧
    v.flag F.PWR_STATE_TRANS = true ∧ v.get F.PWR_STATE_TARGET = g ∧ v.pstate = s.pstate ∧ RegsKept s v [A.PWR_STATE] := by
  subst hv
  unfold transBegin
  extract_lets old old2 s1
  refine ⟨rfl, ?_, ?_, ?_, ?_⟩
  · rw [flag_mark_apart _ _ _ _ (by decide) (by decide), flag_put_apart _ _ _ _ (by decide) (by decide)]
    exact flag_mark_same _ _ _ (by decide) (by decide)
  · rw [get_mark_apart _ _ _ _ (by decide) (by decide)]
    exact get_put_val _ (by decide) small
  · simp (disch := decide) only [State.pstate, get_mark_apart, get_put_apart]
    rfl
  · simp (disch := decide) [s1]

theorem sentryStep1_low : LowKept s (sentryStep1 s) := by
  unfold sentryStep1
  extract_lets s1 s2
  have h1 : LowKept s s1 := mittenClose_low
  have h2 : LowKept s s2 := h1.trans (by simp (disch := grind) [s2])
  exact (h2.trans standDown_low).trans (by simp (disch := grind))

theorem calAbortDrl_state : StateKept s (calAbort (drlSentry s)) := (LowKept.state drlSentry_low).trans calAbort_state

theorem sentryStep2_spec (v : State) (hv : sentryStep2 s = v) : v.pstate = s.pstate ∧ v.pwr.deferring = true := by
  unfold sentryStep2 at hv
  extract_lets old s1 s2 s3 s4 s5 s6 old2 s7 at hv
  have h1 : StateKept s s1 ∧ s1.pwr.deferring = true := ⟨Stands.rfl, rfl⟩
  clear_value s1
  have h2 : StateKept s1 s2 ∧ s2.pwr = s1.pwr :=
    ⟨(stateKept_put_iff (by decide)).mpr calAbortDrl_state, ((calAbort_keeps).pwr rfl).trans ((drlSentry_keeps).pwr rfl)⟩
  clear_value s2
  have h3 : StateKept s2 s3 ∧ s3.pwr = s2.pwr := ⟨LowKept.state swapAbort_low, (swapAbort_keeps).pwr rfl⟩
  clear_value s3
  have h4 : StateKept s3 s4 ∧ s4.pwr = s3.pwr := by
    have each : ∀ c : Bool, StateKept s3 (if c then svcEnd s3 2 else s3) ∧ (if c then svcEnd s3 2 else s3).pwr = s3.pwr := fun c => by
      split
      · exact ⟨LowKept.state svcEnd_low, (svcEnd_keeps).pwr rfl⟩
      · exact ⟨Stands.rfl, rfl⟩
    exact each _
  clear_value s4
  have h5 : StateKept s4 s5 ∧ s5.pwr = s4.pwr := ⟨LowKept.state adcSentry_low, (adcSentry_keeps).pwr rfl⟩
  clear_value s5
  have link : LowKept s5 (unloadEnd (hgSentry (standDownsSend (queuesDiscard s5)))) :=
    (((queuesDiscard_low).trans standDownsSend_low).trans hgSentry_low).trans unloadEnd_low
  have h6 : StateKept s5 s6 ∧ s6.pwr = s5.pwr := ⟨(LowKept.state link).trans micStop_state,
    ((micStop_keeps).pwr rfl).trans (((unloadEnd_keeps).pwr rfl).trans (((hgSentry_keeps).pwr rfl).trans
      (((standDownsSend_keeps).pwr rfl).trans ((queuesDiscard_keeps).pwr rfl))))⟩
  clear_value s6
  have h7 : StateKept s6 s7 ∧ s7.pwr = s6.pwr := ⟨by simp [s7], rfl⟩
  clear_value s7
  have h8 : StateKept s7 v ∧ v.pwr = s7.pwr := by
    rw [← hv]
    have marked : StateKept s7 ((s7.mark F.SWA_ST_RUN false).mark F.CLK_STAT_LOCK false) := by simp (disch := decide)
    exact ⟨marked.trans (LowKept.state intWithdraw_low), (intWithdraw_keeps).pwr rfl⟩
  have stands := (((h1.1.trans h2.1).trans h3.1).trans h4.1).trans (((h5.1.trans h6.1).trans h7.1).trans h8.1)
  refine ⟨stands.get rfl, ?_⟩
  rw [h8.2, h7.2, h6.2, h5.2, h4.2, h3.2, h2.2, h1.2]

theorem sentryEntry_spec {cause : Nat} (out : s.pstate ≠ SENTRY) (v : State) (hv : sentryEntry s cause = v) :
    v.pwr.trans = some ⟨SENTRY, cause, [.zeroSwath, .zeroShort], false, false⟩ ∧ v.pwr.deferring = true ∧ v.pstate = s.pstate ∧
    v.swa.mem = [] ∧ v.swa.zsw = true ∧ v.flag F.PWR_STATE_TRANS = true ∧ v.get F.PWR_STATE_TARGET = SENTRY := by
  unfold sentryEntry at hv
  extract_lets w at hv
  obtain ⟨state2, deferring⟩ := sentryStep2_spec w rfl
  have state : w.pstate = s.pstate := state2.trans (Stands.get (sentryStep1_low) (by decide))
  obtain ⟨mem, zsw, -⟩ := zeroSwathStart_awake (s := w) (state ▸ out)
  obtain ⟨whole, trans, target, same, -⟩ := transBegin_spec (g := SENTRY) (by decide) v hv
  have zeroed : StateKept w (zeroSwathStart w) := by
    unfold zeroSwathStart
    rw [if_neg (state ▸ out)]
    exact (stateKept_put_iff (by decide)).mpr (stateKept_of_blocks (bs := [7]) zeroSwath_blocks (by decide))
  have kept : (zeroSwathStart w).pwr = w.pwr := (zeroSwathStart_keeps).pwr rfl
  have before : ((zeroSwathStart w).mark F.PWR_STATE_REC false).pstate = w.pstate :=
    (get_mark_apart _ _ _ _ (by decide) (by decide)).trans (zeroed.get rfl)
  refine ⟨by rw [whole], ?_, (same.trans before).trans state, ?_, ?_, trans, target⟩
  · rw [whole]
    exact (congrArg PwrSt.deferring kept).trans deferring
  · rw [whole]
    exact mem
  · rw [whole]
    exact zsw

theorem monWake_state : StateKept s (monWake s s.fC) := by
  unfold monWake pmbQueue
  extract_lets old s1
  have h1 : StateKept s s1 := .ite (by simp) (by simp)
  split
  · next v f _ =>
    exact h1.trans (Stands.trans (t := { s1 with mon := { s1.mon with stored := none } }) (by simp)
      (stateKept_of_blocks (bs := [12]) voltSet_core (by decide)))
  · exact h1

theorem exitStart_spec {g cause : Nat} (small : g < 8) (v : State) (hv : exitStart s g cause = v) :
    v.pwr.trans.map (fun q => (q.target, q.cause)) = some (g, cause) ∧ v.swa.zsw = true ∧ v.swa.mem = [] ∧ v.pstate = s.pstate ∧
    v.flag F.PWR_STATE_TRANS = true ∧ v.get F.PWR_STATE_TARGET = g := by
  unfold exitStart at hv
  extract_lets s1 old s2 s3 due s4 old2 s5 at hv
  have h1 : StateKept s s1 := Stands.trans monWake_state (stateKept_of_blocks (bs := [7]) zeroSwath_blocks (by decide))
  have h2 : StateKept s1 s2 := by simp [s2]
  have h3 : StateKept s s3 := (stateKept_put_iff (by decide)).mpr (h1.trans h2)
  obtain ⟨whole, trans, target, same, -⟩ := transBegin_spec (s := s3) small s4 rfl
  have h5 : StateKept s4 s5 := by simp [s5]
  have h6 : StateKept s4 v := hv ▸ .ite h5 (h5.trans (LowKept.state selfStart_low))
  have began : v.pwr = s5.pwr ∧ v.swa = s5.swa := by
    rw [← hv]
    split
    · exact ⟨rfl, rfl⟩
    · exact ⟨(selfStart_keeps).pwr rfl, (selfStart_keeps).swa rfl⟩
  obtain ⟨pwr, swa⟩ := began
  have swa4 : s5.swa = s3.swa := by
    show s4.swa = s3.swa
    rw [whole]
  obtain ⟨l, z, mem⟩ := zeroSwath_swa (s := monWake s s.fC)
  refine ⟨?_, ?_, ?_, (h6.get rfl).trans (same.trans (h3.get rfl)), (h6.flag rfl).trans trans, (h6.get rfl).trans target⟩
  · rw [pwr]
    have began := congrArg (fun t => t.pwr.trans) whole
    simp only [s5, began, Option.map_some]
  · rw [swa, swa4]
    rfl
  · rw [swa, swa4]
    show s1.swa.mem = []
    exact congrArg SwaSt.mem mem

/-! ## A transition's end -/

theorem sentryArrive_spec {c : Nat} : (sentryArrive s c).pstate = SENTRY ∧ (sentryArrive s c).pwr.trans = none ∧
    (sentryArrive s c).pwr.deferring = true ∧ (sentryArrive s c).swa.stags = [] := by
  generalize hv : sentryArrive s c = v
  unfold sentryArrive at hv
  extract_lets s1 s2 s3 old old2 s4 at hv
  obtain ⟨state, -, -, pwr⟩ := enterState_spec (st := SENTRY) (by decide) s1 rfl
  have h2 : StateKept s1 s2 := Stands.trans (Stands.trans (Stands.rfl.parts coreMemLost_regs) (LowKept.state monSentry_low)) micSentry_state
  have h3 : StateKept s2 s3 := LowKept.state ((lowKept_setPair_iff (by decide)).mpr lowKept_refl)
  have h4 : StateKept s3 s4 := Stands.rfl
  have each : ∀ p : Prop, ∀ _ : Decidable p, StateKept s4 (if p then coreInit s4 SENT else s4) ∧ (if p then coreInit s4 SENT else s4).pwr = s4.pwr ∧
      (if p then coreInit s4 SENT else s4).swa = s4.swa := fun p _ => by
    split
    · exact ⟨LowKept.state coreInit_low, (coreInit_keeps).pwr rfl, (coreInit_keeps).swa rfl⟩
    · exact ⟨Stands.rfl, rfl, rfl⟩
  obtain ⟨h5, pwr5, swa5⟩ := each (coreState s4 SENT = C_HALT) _
  have h6 : StateKept s4 v := hv ▸ h5.trans ((stateKept_mark_iff (by decide)).mpr Stands.rfl)
  have pwrV : v.pwr = s4.pwr := hv ▸ pwr5
  have swaV : v.swa = s4.swa := hv ▸ swa5
  have pwr3 : s3.pwr = s1.pwr := ((micSentry_keeps).pwr rfl).trans ((monSentry_keeps).pwr rfl)
  refine ⟨((h2.trans h3).trans (h4.trans h6)).get rfl |>.trans state, ?_, ?_, ?_⟩
  · rw [pwrV]
    show s3.pwr.trans = none
    rw [pwr3, pwr]
  · rw [pwrV]
  · rw [swaV]

theorem exitRefused_spec (here : s.pstate = SENTRY) (v : State) (hv : exitRefused s = v) : v.pstate = SENTRY ∧ v.pwr.trans = none ∧
    v.pwr.deferred = s.pwr.deferred ∧ v.flag F.PWR_STATE_TRANS = false := by
  unfold exitRefused at hv
  extract_lets old1 old2 old3 s1 s2 s3 s4 s5 at hv
  have h2 : s2.pstate = SENTRY ∧ s2.flag F.PWR_STATE_TRANS = false ∧ s2.pwr = { s.pwr with trans := none } := by
    refine ⟨?_, ?_, rfl⟩
    · simp (disch := decide) only [s2, State.pstate, get_put_apart, get_mark_apart]
      exact here
    · simp (disch := decide) only [s2, flag_put_apart]
      exact flag_mark_same _ _ _ (by decide) (by decide)
  clear_value s2
  have h3 : StateKept s2 s3 ∧ s3.pwr = s2.pwr := ⟨LowKept.state adcSentry_low, (adcSentry_keeps).pwr rfl⟩
  clear_value s3
  have locked : StateKept s3 (wdoFollow (s3.mark F.CLK_STAT_LOCK false)) :=
    Stands.trans (t := s3.mark F.CLK_STAT_LOCK false) (by simp (disch := decide)) (stateKept_of_blocks (bs := [1]) wdoFollow_blocks (by decide))
  have h4 : StateKept s3 s4 ∧ s4.pwr = s3.pwr := by
    have gates : ∀ (l : List Nat) (t : State), LowKept t (forEach l coreGate t) ∧ (forEach l coreGate t).pwr = t.pwr := fun l t =>
      ⟨Stands.forEach fun _ _ _ => coreGate_low, (Keeps.forEach fun _ _ => coreGate_keeps).pwr rfl⟩
    obtain ⟨low, pwr⟩ := gates [0, 1, 2, 3, 5] (wdoFollow (s3.mark F.CLK_STAT_LOCK false))
    exact ⟨locked.trans low.state, pwr⟩
  clear_value s4
  have h5 : StateKept s4 s5 ∧ s5.pwr = s4.pwr :=
    ⟨Stands.forEach fun _ _ _ => groupDown_state, (Keeps.forEach fun _ _ => groupDown_keeps).pwr rfl⟩
  clear_value s5
  have h6 : StateKept s5 v ∧ v.pwr = s5.pwr := by
    rw [← hv]
    exact ⟨Stands.trans (Stands.parts Stands.rfl coreMemLost_regs) (LowKept.state monSentry_low),
      ((monSentry_keeps).pwr rfl).trans ((coreMemLost_keeps).pwr rfl)⟩
  obtain ⟨state, trans, pwr⟩ := h2
  have stands := ((h3.1.trans h4.1).trans h5.1).trans h6.1
  have whole : v.pwr = { s.pwr with trans := none } := by rw [h6.2, h5.2, h4.2, h3.2, pwr]
  exact ⟨(stands.get rfl).trans state, by rw [whole], by rw [whole], (stands.flag rfl).trans trans⟩

theorem plainArrive_spec {x : TransSt} (small : x.target < 8) (v : State) (hv : plainArrive s x = v) : v.pstate = x.target ∧
    v.flag F.PWR_STATE_REC = decide (x.target = RECORD) ∧ v.flag F.PWR_STATE_TRANS = false ∧ v.pwr.trans = none := by
  unfold plainArrive at hv
  extract_lets from_ s1 s2 s3 s4 s5 at hv
  obtain ⟨state, trans, record, pwr⟩ := enterState_spec (s := s3.mark F.PWR_STATE_REC (decide (x.target = RECORD))) small s4 rfl
  have h5 : StateKept s4 s5 := .ite (LowKept.state unloadBegin_low) (LowKept.state unloadEnd_low)
  have h6 : StateKept s5 v := hv ▸ .ite sentryFollow_state Stands.rfl
  have stands := h5.trans h6
  have pwr5 : s5.pwr = s4.pwr := by
    by_cases r : x.target = RECORD
    · simp only [s5, if_pos r, (unloadBegin_keeps).pwr rfl]
    · simp only [s5, if_neg r, (unloadEnd_keeps).pwr rfl]
  have pwr6 : v.pwr = s5.pwr := by
    rw [← hv]
    split
    · exact (sentryFollow_keeps).pwr rfl
    · rfl
  refine ⟨(stands.get rfl).trans state, (stands.flag rfl).trans (record.trans (flag_mark_same _ _ _ (by decide) (by decide))),
    (stands.flag rfl).trans trans, ?_⟩
  rw [pwr6, pwr5, pwr]

end

theorem stateRequest_taken {s : State} {o : Origin} {g : Fin 6} (here : s.pstate ≠ OFF) (start : s.pwr.start = none)
    (may : (checkRequest s g.val).isNone = true) (free : s.pstate ≠ SENTRY ∨ s.clk.cls = 1 ∨ (checkDeferred s).isNone = true) :
    exec (.stateRequest o g) s = .next (requestState s g.val (if byHost o then 1 else 2)) := by
  show execStateRequest o g s = _
  unfold execStateRequest blockResponds
  rw [if_pos (by simp_all [or_assoc])]

theorem requestState_idle {s : State} {g cause : Nat} (idle : s.pwr.trans.isSome = true ∨ (g = s.pstate ∧ s.pstate ≠ SENTRY) ∨ g = 0) :
    requestState s g cause = s := by
  unfold requestState
  by_cases busy : g = 0 ∨ s.pwr.trans.isSome
  · rw [if_pos busy]
  · rw [if_neg busy]
    obtain ⟨rfl, out⟩ : g = s.pstate ∧ s.pstate ≠ SENTRY := by tauto
    split
    · next tripped =>
      rw [tripped]
      rfl
    · rw [if_pos rfl]

theorem stateRequest_idle {s : State} {o : Origin} {g : Fin 6} (idle : (checkRequest s g.val).isNone = false ∨ s.pwr.trans.isSome = true ∨
    s.pwr.start.isSome = true ∨ (g.val = s.pstate ∧ s.pstate ≠ SENTRY) ∨ g = 0) : exec (.stateRequest o g) s = .next s := by
  show execStateRequest o g s = _
  unfold execStateRequest
  split
  · next taken =>
    simp only [Bool.and_eq_true, Option.isNone_iff_eq_none] at taken
    obtain ⟨⟨⟨-, start⟩, may⟩, -⟩ := taken
    refine congrArg _ (requestState_idle ?_)
    simp only [may, start, Option.isNone_none, Option.isSome_none, Bool.false_eq_true, Bool.true_eq_false, false_or] at idle
    obtain busy | same | rfl := idle
    · exact .inl busy
    · exact .inr (.inl same)
    · exact .inr (.inr rfl)
  · rfl

/-- A request in SENTRY: held in class 1, an exit in a faster class, and nothing where the deferred words are refused. -/
theorem sentry_asked {s : State} {o : Origin} {g : Fin 6} (here : s.pstate = SENTRY) (target : g.val = WATCH ∨ g.val = SERVICE)
    (start : s.pwr.start = none) (trans : s.pwr.trans = none) (may : (checkRequest s g.val).isNone = true) :
    (s.clk.cls = 1 → Gives (.stateRequest o g) s (fun t =>
      t = { s with regs := t.regs, pwr := { s.pwr with held := some (g.val, if byHost o then 1 else 2) } } ∧
      t.flag F.PWR_STATE_HELD = true ∧ t.get F.PWR_STATE_TARGET = g.val ∧ RegsKept s t [A.PWR_STATE])) ∧
    (s.clk.cls ≠ 1 → (checkDeferred s).isNone = true → Gives (.stateRequest o g) s (fun t =>
      t.pwr.trans.map (fun q => (q.target, q.cause)) = some (g.val, if byHost o then 1 else 2) ∧ t.swa.zsw = true ∧ t.swa.mem = [] ∧
      t.pstate = SENTRY ∧ t.flag F.PWR_STATE_TRANS = true ∧ t.get F.PWR_STATE_TARGET = g.val)) ∧
    (s.clk.cls ≠ 1 → (checkDeferred s).isNone = false → Gives (.stateRequest o g) s (fun t => t = s)) := by
  have goal : g.val ≠ 0 ∧ g.val ≠ SENTRY := by
    obtain e | e := target <;> simp [e]
  have out : s.pstate ≠ OFF ∧ s.pstate ≠ TRIPPED := by simp [here]
  have begins : requestState s g.val (if byHost o then 1 else 2) = if s.clk.cls = 1 then
      ({ s with pwr := { s.pwr with held := some (g.val, if byHost o then 1 else 2) } }.mark F.PWR_STATE_HELD true).put F.PWR_STATE_TARGET g.val
    else exitStart s g.val (if byHost o then 1 else 2) := by
    unfold requestState
    rw [if_neg (by simp [goal.1, trans]), if_neg out.2, if_neg (here ▸ goal.2), if_pos here]
  refine ⟨fun one => ?_, fun more may2 => ?_, fun more refused => ?_⟩
  · refine .of_eq (stateRequest_taken out.1 start may (.inr (.inl one))) (begins.trans (if_pos one)) ⟨rfl, ?_, ?_, ?_⟩
    · rw [flag_put_apart _ _ _ _ (by decide) (by decide)]
      exact flag_mark_same _ _ _ (by decide) (by decide)
    · exact get_put_val _ (by decide) (by have := g.isLt; show g.val < 8; omega)
    · simp (disch := decide)
  · refine .of_eq (stateRequest_taken out.1 start may (.inr (.inr may2))) (begins.trans (if_neg more)) ?_
    obtain ⟨trans, zsw, mem, state, flag, goal⟩ := exitStart_spec (s := s) (g := g.val) (cause := if byHost o then 1 else 2) (by omega) _ rfl
    exact ⟨trans, zsw, mem, state.trans here, flag, goal⟩
  · refine .of_eq (t := s) ?_ rfl rfl
    show execStateRequest o g s = _
    unfold execStateRequest
    rw [if_neg (by simp [here, more, refused])]

/-- A request in TRIPPED for RECORD or WATCH sets or clears REC. -/
theorem tripped_asked {s : State} {o : Origin} (here : s.pstate = TRIPPED) (start : s.pwr.start = none) (trans : s.pwr.trans = none) :
    Gives (.stateRequest o 3) s (fun t => t.flag F.PWR_STATE_REC = true ∧ t.pstate = TRIPPED ∧ t.pwr = s.pwr) ∧
    Gives (.stateRequest o 2) s (fun t => t.flag F.PWR_STATE_REC = false ∧ t.pstate = TRIPPED ∧ t.pwr = s.pwr) := by
  have may : ∀ g : Fin 6, g.val = RECORD ∨ g.val = WATCH → (checkRequest s g.val).isNone = true := fun g target => by
    unfold checkRequest
    rw [trans]
    dsimp only
    obtain e | e := target <;> simp [e, here, denyIf]
  have taken : ∀ g : Fin 6, g.val = RECORD ∨ g.val = WATCH → _ := fun g target =>
    stateRequest_taken (o := o) (by simp [here]) start (may g target) (.inl (by simp [here]))
  have begins : ∀ g : Fin 6, g.val = RECORD ∨ g.val = WATCH → requestState s g.val (if byHost o then 1 else 2) =
      if g.val = RECORD then unloadBegin (s.mark F.PWR_STATE_REC true) else unloadEnd (s.mark F.PWR_STATE_REC false) := fun g target => by
    unfold requestState
    rw [if_neg (by obtain e | e := target <;> simp [e, trans]), if_pos here]
    obtain e | e := target <;> simp [e]
  have marked : ∀ b, (s.mark F.PWR_STATE_REC b).pstate = TRIPPED := fun b =>
    (get_mark_apart _ _ _ _ (by decide) (by decide)).trans here
  refine ⟨.of_eq (taken 3 (.inl rfl)) (begins 3 (.inl rfl)) ?_, .of_eq (taken 2 (.inr rfl)) (begins 2 (.inr rfl)) ?_⟩
  · have stands : StateKept (s.mark F.PWR_STATE_REC true) (unloadBegin (s.mark F.PWR_STATE_REC true)) := LowKept.state unloadBegin_low
    exact ⟨(stands.flag rfl).trans (flag_mark_same _ _ _ (by decide) (by decide)), (stands.get rfl).trans (marked _),
      (unloadBegin_keeps).pwr rfl⟩
  · have stands : StateKept (s.mark F.PWR_STATE_REC false) (unloadEnd (s.mark F.PWR_STATE_REC false)) := LowKept.state unloadEnd_low
    exact ⟨(stands.flag rfl).trans (flag_mark_same _ _ _ (by decide) (by decide)), (stands.get rfl).trans (marked _),
      (unloadEnd_keeps).pwr rfl⟩

/-- What a transition's end does, by what it waits for and where it leads. -/
theorem transitionComplete_plain {s : State} {x : TransSt} (goes : s.pwr.trans = some x) (waits : x.waits = []) (here : s.clk.present = true)
    (run : s.clk.phase = .run) : exec .transitionComplete s = .next (if x.target = SENTRY then
      wakesDeliver (sentryArrive (if s.pstate = SERVICE then manClear s else s) x.cause)
    else if s.pstate = SENTRY then (if s.clk.cls = 1 then s else exitArrive s x) else plainArrive s x) := by
  show execTransitionComplete s = _
  unfold execTransitionComplete
  rw [goes]
  dsimp only
  rw [if_neg (by simp [waits, here, run])]
  split
  · rfl
  · split <;> rfl

theorem transitionComplete_waits {s : State} (idle : s.pwr.trans = none ∨ s.clk.present = false ∨ s.clk.phase ≠ .run ∨
    ∃ x, s.pwr.trans = some x ∧ x.waits ≠ []) : exec .transitionComplete s = .next s := by
  show execTransitionComplete s = _
  unfold execTransitionComplete
  cases goes : s.pwr.trans with
  | none => rfl
  | some x =>
    refine if_pos ?_
    rw [goes] at idle
    obtain none | gone | stopped | ⟨y, same, wait⟩ := idle
    · cases none
    · exact .inr (.inl (by simp [gone]))
    · exact .inr (.inr stopped)
    · cases same
      exact .inl wait

end Sys2Proof.Machine

open Sys2Proof Sys2Proof.Machine

/-- Settles O13: what a request begins is the last step of its chain (`transBegin_spec`), and no later step of an arrival
touches the state's register (`StateKept`). -/
theorem stateRequests : Obligations.StateRequests := by
  intro s
  refine ⟨?_, ?_, ?_, ?_, ?_, ?_, ?_, fun _ => sentryArrive_spec, ?_, ?_, ?_⟩
  · intro o g here target other start trans may
    have out : s.pstate ≠ OFF ∧ s.pstate ≠ SENTRY ∧ s.pstate ≠ TRIPPED := by
      obtain e | e | e := here <;> simp [e]
    have began : requestState s g.val (if byHost o then 1 else 2) = transBegin s g.val (if byHost o then 1 else 2) [] := by
      have goal : g.val ≠ 0 ∧ g.val ≠ SENTRY := by
        obtain e | e | e := target <;> simp [e]
      unfold requestState
      rw [if_neg (by simp [goal.1, trans]), if_neg out.2.2, if_neg other, if_neg out.2.1, if_neg goal.2]
    exact .of_eq (stateRequest_taken out.1 start may (.inl out.2.1)) began (transBegin_spec (by omega) _ rfl)
  · intro o here start trans may
    have out : s.pstate ≠ OFF ∧ s.pstate ≠ SENTRY ∧ s.pstate ≠ TRIPPED := by
      obtain e | e := here <;> simp [e]
    have began : requestState s SENTRY (if byHost o then 1 else 2) = sentryEntry s (if byHost o then 1 else 2) := by
      unfold requestState
      rw [if_neg (by simp [trans]), if_neg out.2.2, if_neg out.2.1.symm, if_neg out.2.1, if_pos rfl]
    exact .of_eq (stateRequest_taken out.1 start may (.inl out.2.1)) began (sentryEntry_spec out.2.1 _ rfl)
  · exact fun o g here target start trans may => sentry_asked here target start trans may
  · exact fun o here start trans => tripped_asked here start trans
  · exact fun o g idle => .of_eq (stateRequest_idle idle) rfl rfl
  · intro x goes waits here run state target
    have out : x.target ≠ SENTRY ∧ s.pstate ≠ SENTRY ∧ x.target < 8 := by
      refine ⟨?_, ?_, ?_⟩
      · obtain e | e | e := target <;> simp [e]
      · obtain e | e | e := state <;> simp [e]
      · obtain e | e | e := target <;> rw [e] <;> decide
    exact .of_eq (transitionComplete_plain goes waits here run) ((if_neg out.1).trans (if_neg out.2.1)) (plainArrive_spec out.2.2 _ rfl)
  · exact fun x goes waits here run target => .of_eq (transitionComplete_plain goes waits here run) (if_pos target) rfl
  · intro x goes waits here run state target
    have ends := (transitionComplete_plain goes waits here run)
    rw [if_neg target, if_pos state] at ends
    refine ⟨fun one => .of_eq ends (if_pos one) rfl, fun more deny => ?_, fun more free => .of_eq ends (if_neg more) rfl⟩
    obtain ⟨d, denied⟩ := Option.ne_none_iff_exists'.mp deny
    have arrive : exitArrive s x = (exitRefused s).bump64 A.FRW_ADM_REF_LO 1 := by
      unfold exitArrive
      rw [denied]
    obtain ⟨state, trans, deferred, flag⟩ := exitRefused_spec state _ rfl
    have counted : StateKept (exitRefused s) ((exitRefused s).bump64 A.FRW_ADM_REF_LO 1) := LowKept.state (lowKept_bump (by decide))
    exact .of_eq ends ((if_neg more).trans arrive) ⟨(counted.get rfl).trans state, trans, deferred, (counted.flag rfl).trans flag⟩
  · exact fun x goes waits => .of_eq (transitionComplete_waits (.inr (.inr (.inr ⟨x, goes, waits⟩)))) rfl rfl
  · intro idle
    refine .of_eq (transitionComplete_waits ?_) rfl rfl
    obtain none | gone | stopped := idle
    · exact .inl none
    · exact .inr (.inl gone)
    · exact .inr (.inr (.inl stopped))
end

section
/-! PROOFS. What the chains, the glances, the sentry decimator and the beams deliver (O17). -/

namespace Sys2Proof.Machine

section

variable {s t u : State} {n c d w : Nat}

/-! ## The latest sample of a source -/

/-- The latest samples of the sources stand. -/
def LastKept (s t : State) : Prop := t.flt.srcLast = s.flt.srcLast

theorem LastKept.trans (h : LastKept s t) (k : LastKept t u) : LastKept s u := Eq.trans k h

theorem LastKept.forEach {α : Type} {l : List α} {f : State → α → State} (h : ∀ s, ∀ a ∈ l, LastKept s (f s a)) : LastKept s (forEach l f s) := by
  unfold Sys2Proof.Machine.forEach
  induction l generalizing s with
  | nil => rfl
  | cons a l ih => exact (h s a (by simp)).trans (ih fun s b m => h s b (by simp [m]))

theorem lastKept_of_flt (h : t.flt = s.flt) : LastKept s t := congrArg FltSt.srcLast h

theorem LastKept.last (h : LastKept s t) : lastOf t c = lastOf s c := by
  unfold lastOf
  rw [h]

theorem lastOf_setLastOf : lastOf (setLastOf s c w) c = w := by simp [lastOf, setLastOf]

theorem sink_last : LastKept s (sink s d w) := by
  unfold sink
  extract_lets r s1
  have h1 : LastKept s s1 := rfl
  have unit : ∀ {v : State}, v.flt = s1.flt → LastKept s v := fun h => h1.trans (lastKept_of_flt h)
  split
  · exact h1
  · split
    · exact unit ((ciPush_keeps).flt rfl)
    · split
      · exact unit ((ustrPush_keeps).flt rfl)
      · exact unit ((drillPush_keeps).flt rfl)

theorem routeMarks_last : LastKept s (routeMarks s d w).1 := rfl

theorem routeTake_last : LastKept s (routeTake s c d) := by
  have marked : ∀ (v : State) x, LastKept s v → LastKept s (sink (routeMarks v d x).1 d (routeMarks v d x).2) := fun v x h =>
    (h.trans routeMarks_last).trans sink_last
  unfold routeTake
  extract_lets r
  split
  · split
    · exact marked _ _ rfl
    · rfl
  · extract_lets driver
    split
    · split
      · exact marked _ _ rfl
      · exact marked _ _ rfl
    · rfl

/-- A delivered sample is its source's latest. -/
theorem lastOf_deliver : lastOf (deliver s c w) c = w := by
  have routes : LastKept (setLastOf s c w) (deliver s c w) :=
    LastKept.trans (LastKept.forEach fun _ _ _ => routeTake_last) (LastKept.forEach fun _ _ _ => by
      dsimp only
      split <;> rfl)
  exact (routes.last).trans lastOf_setLastOf

theorem inputUnsettled_last {p : Nat} : LastKept s (inputUnsettled s p) := LastKept.forEach fun _ _ _ => rfl

theorem settleStart_last {p : Nat} {k : Settle} : LastKept s (settleStart s p k) := by
  have unsettled : LastKept s (inputUnsettled (setSettle s p k) p) := inputUnsettled_last
  unfold settleStart
  dsimp only
  split
  · exact unsettled
  · exact unsettled

theorem groupTmc_last {g : Nat} : LastKept s (groupTmc s g) := LastKept.forEach fun _ _ _ => settleStart_last

theorem groupAnchor_last {g : Nat} : LastKept s (groupAnchor s g) := LastKept.forEach fun _ _ _ => rfl

theorem groupMode_last {g x : Nat} : LastKept s (groupMode s g x) := by
  unfold groupMode
  split
  · exact LastKept.trans (LastKept.trans (t := setDiv s g x) rfl groupAnchor_last) groupTmc_last
  · rfl

theorem divFollow_last {g : Nat} : LastKept s (divFollow s g) := by
  unfold divFollow
  extract_lets x
  split
  · exact groupMode_last
  · rfl

/-! ## The counts of underflows stand in a delivery -/

/-- The device's count of underflows stands. -/
abbrev UnderKept (s t : State) : Prop := Stands (fun a => a = A.QUE_UNDER_LO ∨ a = A.QUE_UNDER_LO + 4) s t

theorem underKept_event {k : Nat} : UnderKept s (s.event k) := .of_kept (event_kept s k) fun a h m => by
  simp only [sourceRegs, A.INT_SRCs, A.INT_Gg_EDGE_LO, A.INT_Gg_COAL_LO, A.QUE_UNDER_LO, List.mem_cons, List.not_mem_nil, or_false] at m h
  omega

theorem underKept_bump {lo k : Nat} (apart : lo + 4 < A.QUE_UNDER_LO ∨ A.QUE_UNDER_LO + 4 < lo) : UnderKept s (s.bump64 lo k) :=
  .of_kept (bump64_kept s lo k) fun a h m => by
    simp only [A.QUE_UNDER_LO, List.mem_cons, List.not_mem_nil, or_false] at m h apart
    omega

theorem ciPush_under {k : Nat} : UnderKept s (ciPush s k w) := by
  unfold ciPush queueCountDrop queuePush
  extract_lets q
  refine .ite (.ite ?_ (Stands.rfl.parts rfl)) Stands.rfl
  have counted : UnderKept s (s.put (F.QUE_Qn_CNT_DROP k) (Nat.min 65535 (s.get (F.QUE_Qn_CNT_DROP k) + 1))) := Stands.put (by grind)
  have dropped := counted.trans (underKept_bump (lo := A.QUE_DROP_LO) (k := 1) (by decide))
  exact (dropped.parts (u := State.setQueue _ k { q with disc := true }) rfl).trans underKept_event

theorem ustrPush_under {k : Nat} : UnderKept s (ustrPush s k w) := by
  unfold ustrPush
  split
  · exact Stands.rfl
  · next x _ =>
    extract_lets u old
    refine .ite (Stands.rfl.parts rfl) ?_
    exact Stands.trans (Stands.trans (t := { s with hg := { s.hg with ustr := setNth s.hg.ustr k { u with drops := u.drops + 1 } } })
      (Stands.rfl.parts rfl) (underKept_bump (.inr (by grind)))) underKept_event

theorem drillPush_under {k : Nat} : UnderKept s (drillPush s k w) := by
  unfold drillPush handoffDrop
  extract_lets i i1 old
  refine .ite Stands.rfl (.ite (Stands.rfl.parts rfl) ?_)
  exact Stands.trans (Stands.trans (t := { s with drl := { s.drl with inp := setNth s.drl.inp k { i with lost := true } } })
    (Stands.rfl.parts rfl) (underKept_bump (by decide))) underKept_event

theorem sink_under : UnderKept s (sink s d w) := by
  unfold sink
  extract_lets r s1
  have h1 : UnderKept s s1 := Stands.rfl.parts rfl
  exact .ite h1 (.ite (h1.trans ciPush_under) (.ite (h1.trans ustrPush_under) (h1.trans drillPush_under)))

theorem routeTake_under : UnderKept s (routeTake s c d) := by
  have marked : ∀ (v : State) x, UnderKept s v → UnderKept s (sink (routeMarks v d x).1 d (routeMarks v d x).2) := fun v x h =>
    (h.parts (u := (routeMarks v d x).1) rfl).trans sink_under
  unfold routeTake
  extract_lets r
  split
  · exact .ite (marked _ _ Stands.rfl) Stands.rfl
  · exact .ite (.ite (marked _ _ (Stands.rfl.parts rfl)) (marked _ _ Stands.rfl)) Stands.rfl

theorem deliver_under : UnderKept s (deliver s c w) := by
  have routes : UnderKept s (forEach (upto 148) (fun s d => routeTake s c d) (setLastOf s c w)) :=
    Stands.trans (t := setLastOf s c w) (Stands.rfl.parts rfl) (Stands.forEach fun _ _ _ => routeTake_under)
  exact routes.trans (Stands.forEach fun _ _ _ => .ite (Stands.rfl.parts (State.setSad_regs ..)) Stands.rfl)

/-! ## The forms of an output -/

/-- Without a fade a fine chain delivers its instance's output. -/
theorem fineForm_plain {off : Nat} (plain : fadeOld (s.chain n) = none) : lastOf (fineForm s n off) (1 + n) =
    sampleWord (if (s.chain n).mute then 0 else (instOut s n (s.chain n).inst off).1) (fineUnsettled s n && !(s.chain n).mute)
      (s.chain n).disc ((instOut s n (s.chain n).inst off).2 && !(s.chain n).mute) := by
  unfold fineForm
  extract_lets old c uns o r s1 sat s2 x s3 s4
  have form : r = (o.1, o.2, c) := by
    have same : fadeOld c = none := plain
    simp only [r, same]
  refine (lastOf_deliver).trans ?_
  simp only [x, sat, form]
  rfl

/-- During a fade it delivers the mix of its two instances. -/
theorem fineForm_fades {off : Nat} {f : ChainFade} (fades : fadeOld (s.chain n) = some f) : lastOf (fineForm s n off) (1 + n) =
    sampleWord (if (s.chain n).mute then 0 else fadeMix f.log2L (f.i + 1) (instOut s n f.old off).1 (instOut s n (s.chain n).inst off).1)
      (fineUnsettled s n && !(s.chain n).mute) (s.chain n).disc
      (((instOut s n f.old off).2 || (instOut s n (s.chain n).inst off).2) && !(s.chain n).mute) := by
  unfold fineForm
  extract_lets old c uns o r s1 sat s2 x s3 s4
  have form : r = (fadeMix f.log2L (f.i + 1) (instOut s n f.old off).1 o.1, (instOut s n f.old off).2 || o.2,
      { c with fade := some { f with i := f.i + 1 } }) := by
    have same : fadeOld c = some f := fades
    simp only [r, same]
  refine (lastOf_deliver).trans ?_
  simp only [x, sat, form]
  rfl

theorem fineKeep_last : LastKept s (fineKeep s n) := lastKept_of_flt ((fineKeep_keeps).flt rfl)

/-- What a fine chain's output boundary leaves as its latest sample. -/
theorem fineChainOutput_last {n : Fin 32} {bs : Captured} {off : Nat} (run : filtersRun s = true) (on : mapOn s n = true)
    (due : fineDue (feedCaptured s bs) n = some off) : ∃ t, exec (.fineChainOutput n bs false) s = .next t ∧
      lastOf t (1 + n.val) = lastOf (fineForm (feedCaptured s bs) n off) (1 + n.val) := by
  refine ⟨divFollow (fineKeep (fineForm (feedCaptured s bs) n off) n) (((feedCaptured s bs).chain n).inst.input / 8), ?_,
    (divFollow_last).last.trans (fineKeep_last).last⟩
  show execFineChainOutput n bs false s = _
  simp [execFineChainOutput, run, on, due, fineOutput, shadowCompare]

/-- A glance delivers its sixteen taps' sum. -/
theorem glanceForm_last {off : Nat} {acc : Int} (sum : acc = sumI ((upto 16).map (fun k => toSigned 24 (s.get (F.FLT_GLCk_TAP k)) *
      q22 (q22 (ringAt (s.cic (s.chain n).inst.input).ring (off + k) *
        cicGain (cicK1 s (s.chain n).inst.input) (cicOrder s (s.chain n).inst.input)) * (s.chain n).inst.gain)))) :
    lastOf (glanceForm s n off) (65 + n) = sampleWord (if (s.chain n).mute then 0 else satS 24 (roundShift acc 23))
        ((decide (0 < (s.chain n).gUns) || inputSettling s (s.chain n).inst.input) && !(s.chain n).mute) (s.chain n).gDisc
        (!fitsS 24 (roundShift acc 23) && !(s.chain n).mute) := by
  unfold glanceForm
  extract_lets old c p g u sum2 r uns w s1
  have same : sum2 = acc := by
    rw [sum]
    refine congrArg sumI (List.map_congr_left fun k m => ?_)
    have small := mem_upto m
    have tap : nth u k 0 = q22 (q22 (ringAt (s.cic p).ring (off + k) * g) * c.inst.gain) := by simp [u, nth, upto, small]
    exact congrArg (toSigned 24 (s.get (F.FLT_GLCk_TAP k)) * ·) tap
  refine (lastOf_deliver).trans ?_
  simp only [w, r, same]
  rfl

/-- The sentry decimator delivers its half-band's sample. -/
theorem sentryOutput_last : lastOf (sentryOutput s) 49 = sampleWord (sentrySample (s.flt.sent.hist.drop (s.flt.sent.n32 - 2)))
    (decide (0 < s.flt.sent.uns) || inputSettling s (sentryIn s)) s.flt.sent.disc false := by
  unfold sentryOutput
  extract_lets d uns w old s1 s2
  have word : lastOf s2 49 = w := lastOf_deliver
  split
  · exact (lastKept_of_flt ((shortFrame_keeps).flt rfl)).last.trans word
  · exact word

theorem beamPop_primed {b : Nat} {l : List Nat} (occ : (s.queue (32 + b)).occ = w :: l) (primed : (s.queue (32 + b)).primed = true ∨
    s.get (F.QUE_Qn_PROD_PUSHN (32 + b)) ≤ l.length + 1) : lastOf (beamPop s b) (33 + b) = w := by
  unfold beamPop
  extract_lets k q p s1
  have ready : p = true := by simp [p, q, k, occ, primed]
  rw [if_neg (by simp [ready])]
  have front : q.occ = w :: l := occ
  rw [front]
  exact lastOf_deliver

theorem beamPop_unprimed {b : Nat} (unprimed : (s.queue (32 + b)).primed = false)
    (few : (s.queue (32 + b)).occ.length < s.get (F.QUE_Qn_PROD_PUSHN (32 + b))) : lastOf (beamPop s b) (33 + b) = 0 := by
  unfold beamPop
  extract_lets k q p s1
  have wait : p = false := by simp [p, q, k, unprimed, few]
  rw [if_pos (by simp [wait])]
  exact lastOf_deliver

theorem beamPop_empty {b : Nat} (small : b < 16) (primed : (s.queue (32 + b)).primed = true) (empty : (s.queue (32 + b)).occ = []) :
    lastOf (beamPop s b) (33 + b) = 2 ^ 25 ∧ (beamPop s b).pair A.QUE_UNDER_LO = (s.pair A.QUE_UNDER_LO + 1) % 2 ^ 64 := by
  unfold beamPop
  extract_lets k q p s1 s2
  have ready : p = true := by simp [p, q, k, primed]
  rw [if_neg (by simp [ready])]
  have none : q.occ = [] := empty
  rw [none]
  refine ⟨lastOf_deliver, ?_⟩
  have counted : UnderKept s s2 := Stands.trans (t := s1) (Stands.rfl.parts rfl) (Stands.put (by grind))
  rw [(deliver_under).pair (.inl rfl) (.inr rfl), (underKept_event).pair (.inl rfl) (.inr rfl), pair_bump64_same,
    counted.pair (.inl rfl) (.inr rfl)]

theorem bqPop_runs {b : Fin 16} (run : filtersRun s = true) (on : queueOn s (32 + b.val) = true) : exec (.bqPop b) s = .next (beamPop s b.val) := by
  show execBqPop b s = _
  simp [execBqPop, run, on]

end

end Sys2Proof.Machine

open Sys2Proof Sys2Proof.Machine

/-- Settles O17: a delivered sample is its source's latest (`lastOf_deliver`). -/
theorem soundOutputs : Obligations.SoundOutputs := by
  intro s
  refine ⟨?_, ?_, ?_, ?_, ?_, ?_, ?_, ?_, ?_, ?_, ?_, ?_, ?_⟩
  · rintro n bs u off rfl run on due
    obtain ⟨t, done, last⟩ := fineChainOutput_last run on due
    exact .of_next done ⟨fun plain => last.trans (fineForm_plain plain), fun f fades => last.trans (fineForm_fades fades)⟩
  · rintro n bs d u rfl run on none
    refine .of_eq (t := feedCaptured s bs) ?_ rfl rfl
    show execFineChainOutput n bs d s = _
    simp [execFineChainOutput, run, on, none]
  · intro n bs d off
    refine ⟨.of_eq (t := s) ?_ rfl rfl, .of_eq (t := s) ?_ rfl rfl⟩
    · show execFineChainOutput n bs d s = _
      obtain e | e := off <;> simp [execFineChainOutput, e]
    · show execGlanceOutput n bs d s = _
      obtain e | e := off <;> simp [execGlanceOutput, e]
  · intro n bs d none
    refine .of_eq (t := s) ?_ rfl rfl
    show execGlanceOutput n bs d s = _
    simp [execGlanceOutput, none]
  · intro n bs u acc off fed run on avail due sum
    refine .of_eq (t := glanceForm u n off) ?_ rfl (glanceForm_last sum)
    show execGlanceOutput n bs false s = _
    simp [execGlanceOutput, run, on, avail, ← fed, due, glanceOutput, shadowCompare]
  · rintro n bs d u rfl run on avail none
    refine .of_eq (t := feedCaptured s bs) ?_ rfl rfl
    show execGlanceOutput n bs d s = _
    simp [execGlanceOutput, run, on, avail, none]
  · intro bs u fed run due
    refine .of_eq (t := sentryHear (sentryOutput u) (wakeCounter s)) ?_ rfl
      ((lastKept_of_flt ((sentryHear_keeps).flt rfl)).last.trans sentryOutput_last)
    show execSentryDecimatorOutput bs false s = _
    simp [execSentryDecimatorOutput, run, ← fed, due, shadowCompare]
  · rintro bs d u rfl run wait
    refine .of_eq (t := sentryFeed (cicFeed s (sentryIn s) bs) bs) ?_ rfl rfl
    show execSentryDecimatorOutput bs d s = _
    simp [execSentryDecimatorOutput, run, wait]
  · intro bs d off
    refine .of_eq (t := s) ?_ rfl rfl
    show execSentryDecimatorOutput bs d s = _
    simp [execSentryDecimatorOutput, off]
  · exact fun b w l run on occ primed => .of_next (bqPop_runs run on) (beamPop_primed occ primed)
  · exact fun b run on unprimed few => .of_next (bqPop_runs run on) (beamPop_unprimed unprimed few)
  · exact fun b run on primed empty => .of_next (bqPop_runs run on) (beamPop_empty b.isLt primed empty)
  · intro b off
    refine .of_eq (t := s) ?_ rfl rfl
    show execBqPop b s = _
    obtain e | e := off <;> simp [execBqPop, e]
end

section
/-! PROOFS. Bank swaps, calibration and route changes, fades' ends and sync edges (O18). -/

namespace Sys2Proof.Machine

section

variable {s t u : State} {n d k : Nat}

/-! ## One chain's change -/

theorem chain_setChain_other {v : ChainSt} (ne : k ≠ n) : (s.setChain k v).chain n = s.chain n := nth_setNth_other ne

theorem route_setRoute {v : RouteSt} (h : d < s.flt.route.length) : (s.setRoute d v).route d = v := nth_setNth_same h

theorem route_setRoute_other {v : RouteSt} (ne : k ≠ d) : (s.setRoute k v).route d = s.route d := nth_setNth_other ne

/-- A chain that is given its own value is as before. -/
theorem setChain_self (h : n < s.flt.chain.length) : s.setChain n (s.chain n) = s := by
  have same : setNth s.flt.chain n (s.chain n) = s.flt.chain := by
    unfold setNth State.chain nth
    rw [List.getElem?_eq_getElem h]
    exact List.set_getElem_self h
  unfold State.setChain
  rw [same]

theorem fadeTo_same {new : Inst} (same : (s.chain n).inst = new) : fadeTo s n new = s := if_pos same

theorem fadeTo_starts {new : Inst} (ne : (s.chain n).inst ≠ new) (plain : (s.chain n).fade = none) : fadeTo s n new = chainFade s n new := by
  unfold fadeTo
  dsimp only
  rw [if_neg ne, plain]

theorem fadeTo_fades {new : Inst} {f : ChainFade} (fades : (s.chain n).fade = some f) (ne : (s.chain n).inst ≠ new) :
    fadeTo s n new = if f.i = 0 then s.setChain n { s.chain n with inst := new } else s := by
  unfold fadeTo
  dsimp only
  rw [if_neg ne, fades]

theorem chainFade_chain {new : Inst} (h : n < s.flt.chain.length) : (chainFade s n new).chain n =
    { s.chain n with inst := new, fade := some ⟨(s.chain n).inst, 0, s.get (F.FLT_CHn_XF_LOG2L n), (s.chain n).uns⟩ } := by
  rw [chainFade, chain_mark, chain_setChain h]

theorem chainFade_flag {new : Inst} : (chainFade s n new).flag (F.FLT_CHn_ST_FADE n) = true := flag_mark_same _ _ _ (by simp) rfl

theorem chainFade_kept {new : Inst} : RegsKept s (chainFade s n new) [A.FLT_CHn_ST n] := mark_kept _ (F.FLT_CHn_ST_FADE n) true

theorem bankSwap_runs {n : Fin 32} {i : Inst} (run : filtersRun s = true) (on : mapOn s n = true)
    (new : i = { (s.chain n).inst with bank := (instTarget s n).bank, taps := (instTarget s n).taps, oshift := (instTarget s n).oshift }) :
    exec (.bankSwap n) s = .next (fadeTo s n i) := by
  show execBankSwap n s = _
  simp [execBankSwap, run, on, new]

/-! ## A change of an input's calibration -/

/-- What a calibration change does to one chain. -/
def calStep (p : Nat) (taps : List Int) (s : State) (n : Nat) : State :=
  fadeTo s n { (s.chain n).inst with gain := s.getI (F.MIC_CALn_GAIN_GAIN p), delay := s.get (F.MIC_CALn_DELAY_DELAY p), tap := taps }

theorem calibrationChange_runs {p : Fin 32} (run : filtersRun s = true) : exec (.calibrationChange p) s =
    .next (forEach (chainsOf s p) (calStep p ((upto 4).map (fun t => s.getI (F.MIC_CALn_TAPt_TAP p t)))) s) := by
  show execCalibrationChange p s = _
  simp [execCalibrationChange, run]
  rfl

/-- A change of one chain: its own chain and its own word at most. -/
structure ChainOnly (n : Nat) (s t : State) : Prop where
  chains : t.flt.chain.length = s.flt.chain.length
  other : ∀ m, m ≠ n → t.chain m = s.chain m
  kept : RegsKept s t [A.FLT_CHn_ST n]

theorem calStep_only {p : Nat} {taps : List Int} : ChainOnly n s (calStep p taps s n) := by
  unfold calStep fadeTo
  dsimp only
  split
  · exact ⟨rfl, fun _ _ => rfl, RegsKept.refl s _⟩
  · split
    · exact ⟨by rw [chainFade, chains_mark, chains_setChain], fun m ne => by rw [chainFade, chain_mark, chain_setChain_other ne.symm], chainFade_kept⟩
    · split
      · exact ⟨chains_setChain, fun m ne => chain_setChain_other ne.symm, fun _ _ => rfl⟩
      · exact ⟨rfl, fun _ _ => rfl, RegsKept.refl s _⟩

/-- The calibration's settings that a chain takes over. -/
def calInst (s : State) (p : Nat) (taps : List Int) (i : Inst) : Inst :=
  { i with gain := s.getI (F.MIC_CALn_GAIN_GAIN p), delay := s.get (F.MIC_CALn_DELAY_DELAY p), tap := taps }

theorem calStep_starts {p : Nat} {taps : List Int} (h : n < s.flt.chain.length) (plain : (s.chain n).fade = none)
    (new : s.getI (F.MIC_CALn_GAIN_GAIN p) ≠ (s.chain n).inst.gain) :
    ((calStep p taps s n).chain n).inst = calInst s p taps (s.chain n).inst ∧
    ((calStep p taps s n).chain n).fade = some ⟨(s.chain n).inst, 0, s.get (F.FLT_CHn_XF_LOG2L n), (s.chain n).uns⟩ ∧
    (calStep p taps s n).flag (F.FLT_CHn_ST_FADE n) = true := by
  have ne : (s.chain n).inst ≠ calInst s p taps (s.chain n).inst := fun e => new (congrArg Inst.gain e).symm
  have starts : calStep p taps s n = chainFade s n (calInst s p taps (s.chain n).inst) := fadeTo_starts ne plain
  rw [starts, chainFade_chain h]
  exact ⟨rfl, rfl, chainFade_flag⟩

/-- The words of the chains' states are neither calibration words nor fade lengths. -/
theorem chainWords_apart {l : List Nat} : ∀ a, a < 0x040000 ∨ (∃ m, a = A.FLT_CHn_XF m) → a ∉ l.map A.FLT_CHn_ST := fun a low m => by
  obtain ⟨k, -, rfl⟩ := List.mem_map.mp m
  simp only [A.FLT_CHn_ST, A.FLT_CHn_XF] at low
  obtain low | ⟨m, e⟩ := low <;> omega

/-- The change of a calibration, over the chains that read the input. -/
theorem calSteps_spec {p : Nat} {taps : List Int} (small : p < 32) : ∀ (l : List Nat) (s : State), l.Nodup → (∀ n ∈ l, n < s.flt.chain.length) →
    (∀ n, n ∉ l → (forEach l (calStep p taps) s).chain n = s.chain n) ∧
    RegsKept s (forEach l (calStep p taps) s) (l.map A.FLT_CHn_ST) ∧
    (∀ n ∈ l, (s.chain n).fade = none → s.getI (F.MIC_CALn_GAIN_GAIN p) ≠ (s.chain n).inst.gain →
      ((forEach l (calStep p taps) s).chain n).inst = calInst s p taps (s.chain n).inst ∧
      ((forEach l (calStep p taps) s).chain n).fade = some ⟨(s.chain n).inst, 0, s.get (F.FLT_CHn_XF_LOG2L n), (s.chain n).uns⟩ ∧
      (forEach l (calStep p taps) s).flag (F.FLT_CHn_ST_FADE n) = true)
  | [], s, _, _ => ⟨fun _ _ => rfl, RegsKept.refl s _, fun _ m => absurd m (by simp)⟩
  | a :: l, s, distinct, inside => by
    obtain ⟨apart, rest⟩ := List.nodup_cons.mp distinct
    have one : ChainOnly a s (calStep p taps s a) := calStep_only
    obtain ⟨other, kept, fades⟩ := calSteps_spec small l (calStep p taps s a) rest fun n m => by
      rw [one.chains]
      exact inside n (by simp [m])
    change (∀ n, n ∉ l → (forEach (a :: l) (calStep p taps) s).chain n = _) at other
    change RegsKept _ (forEach (a :: l) (calStep p taps) s) _ at kept
    refine ⟨fun n out => ?_, (one.kept.trans kept).mono (by simp), fun n m plain new => ?_⟩
    · rw [List.mem_cons, not_or] at out
      rw [other n out.2, one.other n out.1]
    · obtain rfl | later := List.mem_cons.mp m
      · obtain ⟨inst, fade, flag⟩ := calStep_starts (taps := taps) (inside n (by simp)) plain new
        have flagged : (forEach (n :: l) (calStep p taps) s).flag (F.FLT_CHn_ST_FADE n) = (calStep p taps s n).flag (F.FLT_CHn_ST_FADE n) :=
          kept.flag fun q => by
            obtain ⟨k, mem, e⟩ := List.mem_map.mp q
            have : k = n := by
              simp only [A.FLT_CHn_ST] at e
              omega
            exact apart (this ▸ mem)
        rw [other n apart, flagged]
        exact ⟨inst, fade, flag⟩
      · have ne : n ≠ a := fun e => apart (e ▸ later)
        have same := one.other n ne
        have low : ∀ f : Fld, f.addr < 0x040000 ∨ (∃ m, f.addr = A.FLT_CHn_XF m) → f.addr ∉ [A.FLT_CHn_ST a] := fun f low =>
          chainWords_apart (l := [a]) f.addr low
        have gain : (calStep p taps s a).getI (F.MIC_CALn_GAIN_GAIN p) = s.getI (F.MIC_CALn_GAIN_GAIN p) :=
          (one.kept).getI (low _ (.inl (by simp only [A.MIC_CALn_GAIN]; omega)))
        have delay : (calStep p taps s a).get (F.MIC_CALn_DELAY_DELAY p) = s.get (F.MIC_CALn_DELAY_DELAY p) :=
          (one.kept).get (low _ (.inl (by simp only [A.MIC_CALn_DELAY]; omega)))
        have length : (calStep p taps s a).get (F.FLT_CHn_XF_LOG2L n) = s.get (F.FLT_CHn_XF_LOG2L n) := (one.kept).get (low _ (.inr ⟨n, rfl⟩))
        obtain ⟨inst, fade, flag⟩ := fades n later (same ▸ plain) (by rw [same, gain]; exact new)
        refine ⟨?_, ?_, flag⟩
        · show ((forEach l (calStep p taps) (calStep p taps s a)).chain n).inst = _
          rw [inst, same, calInst, gain, delay, calInst]
        · show ((forEach l (calStep p taps) (calStep p taps s a)).chain n).fade = _
          rw [fade, same, length]

theorem chainsOf_inside {p : Nat} : (chainsOf s p).Nodup ∧ ∀ n ∈ chainsOf s p, n < 32 :=
  ⟨List.Nodup.filter _ List.nodup_range, fun _ m => mem_upto (List.mem_of_mem_filter m)⟩

/-! ## A route's change -/

theorem routeChange_cut (ne : (s.route d).src ≠ s.get (F.FLT_RTd_SRC d)) (cut : s.flag (F.FLT_RTd_CUT d) = true) :
    routeChange s d = s.setRoute d { s.route d with src := s.get (F.FLT_RTd_SRC d), fade := none, disc := true } := by
  unfold routeChange
  dsimp only
  rw [if_neg ne, if_pos cut]

theorem routeChange_fade (ne : (s.route d).src ≠ s.get (F.FLT_RTd_SRC d)) (smooth : s.flag (F.FLT_RTd_CUT d) = false) : routeChange s d =
    (s.setRoute d { s.route d with src := s.get (F.FLT_RTd_SRC d), fade := some ((s.route d).src, 0, s.get (F.FLT_RTd_LOG2L d)) }).mark (F.FLT_RTd_FADE d) true := by
  unfold routeChange
  dsimp only
  rw [if_neg ne, if_neg (by simp [smooth])]

theorem route_of_flt (h : t.flt = s.flt) : t.route d = s.route d := by rw [State.route, h, State.route]

theorem routeChange_runs {d : Fin 148} (low : d.val < 144) (run : filtersRun s = true) (ne : (s.route d).src ≠ s.get (F.FLT_RTd_SRC d)) :
    exec (.routeChange d) s = .next (routeChange s d) := by
  show execRouteChange d s = _
  simp [execRouteChange, run, ne, low]

theorem routeChange_drill {d : Fin 148} (high : 144 ≤ d.val) (run : filtersRun s = true) (plain : s.drl.enr = none)
    (ne : (s.route d).src ≠ s.get (F.FLT_RTd_SRC d)) : exec (.routeChange d) s = .next (drlRestart (routeChange s d) (d.val - 144)) := by
  show execRouteChange d s = _
  have none : (drlRestart (routeChange s d) (d.val - 144)).drl.enr = none := by
    have same : (routeChange s d).drl = s.drl := (routeChange_keeps).drl rfl
    show (routeChange s d).drl.enr = none
    rw [same, plain]
  unfold execRouteChange
  rw [if_pos (by simp [run, ne])]
  dsimp only
  rw [if_neg (by omega), none]
  rfl

theorem routeChange_idle {d : Fin 148} (idle : filtersRun s = false ∨ (s.route d).src = s.get (F.FLT_RTd_SRC d)) :
    exec (.routeChange d) s = .next s := by
  show execRouteChange d s = _
  obtain e | e := idle <;> simp [execRouteChange, e]

/-! ## Sync edges -/

theorem syncEdge_alone (free : s.flt.sync = none) (run : s.clk.phase = .run) (here : s.clk.present = true) (on : s.pstate ≠ OFF)
    (alone : s.flag F.FLT_SYNC_BCAST = false ∨ s.devid ≠ 0) : syncEdge s = { s with flt := { s.flt with sync := some 64 } } := by
  unfold syncEdge
  rw [if_neg (by simp [free, run, here, on]), if_neg (by obtain e | e := alone <;> simp [e])]

theorem hgBroadcast_syncNo {vc typ param : Nat} {body : List Nat} : (hgBroadcast s vc typ param body).hg.syncNo = s.hg.syncNo := by
  have each : ∀ (l : List Nat) (t : State), (forEach l (fun s x => if hgHopmax s x = 0 then s
      else hgQueue s x vc ⟨typ, 7, s.devid, hgAuth s x vc, 0, hgHopmax s x, param, body, []⟩) t).hg.syncNo = t.hg.syncNo := by
    intro l
    unfold forEach
    induction l with
    | nil => exact fun _ => rfl
    | cons x l ih =>
      intro t
      refine (ih _).trans ?_
      dsimp only
      split <;> rfl
  exact each _ s

theorem syncEdge_lead (free : s.flt.sync = none) (run : s.clk.phase = .run) (here : s.clk.present = true) (on : s.pstate ≠ OFF)
    (bcast : s.flag F.FLT_SYNC_BCAST = true) (lead : s.devid = 0) : (syncEdge s).flt = { s.flt with sync := some (64 + s.get F.FLT_SYNC_EXT) } ∧
    (syncEdge s).hg.syncNo = (s.hg.syncNo + 1) % 65536 := by
  unfold syncEdge
  rw [if_neg (by simp [free, run, here, on]), if_pos (by simp [bcast, lead])]
  dsimp only
  exact ⟨(hgBroadcast_keeps).flt rfl, hgBroadcast_syncNo⟩

theorem syncEdge_idle (idle : s.flt.sync.isSome = true ∨ s.clk.phase ≠ .run ∨ s.clk.present = false ∨ s.pstate = OFF) : syncEdge s = s := by
  unfold syncEdge
  refine if_pos ?_
  obtain e | e | e | e := idle <;> simp [e]

/-! ## The sync edge itself -/

/-- No chain fades. -/
structure NoFades (s : State) : Prop where
  chains : s.flt.chain.length = 32
  plain : ∀ n < 32, (s.chain n).fade = none

theorem NoFades.setChain {v : ChainSt} (h : NoFades s) (ends : v.fade = none) : NoFades (s.setChain k v) where
  chains := (chains_setChain).trans h.chains
  plain n small := by
    by_cases e : k = n
    · rw [e, chain_setChain (by rw [h.chains]; exact small), ends]
    · rw [chain_setChain_other e, h.plain n small]

theorem NoFades.of_chain (h : NoFades s) (e : t.flt.chain = s.flt.chain) : NoFades t where
  chains := by rw [e, h.chains]
  plain n small := by
    rw [State.chain, e]
    exact h.plain n small

theorem NoFades.forEach {α : Type} {l : List α} {f : State → α → State} (h : NoFades s) (step : ∀ t, ∀ a ∈ l, NoFades t → NoFades (f t a)) :
    NoFades (forEach l f s) := by
  unfold Sys2Proof.Machine.forEach
  induction l generalizing s with
  | nil => exact h
  | cons a l ih => exact ih (step s a (by simp) h) fun t b m => step t b (by simp [m])

/-- The first chains of a list lose their fades, one after another. -/
theorem fadesDrop_plain : ∀ (l : List Nat) (s : State), s.flt.chain.length = 32 →
    (forEach l (fun s n => if (s.chain n).fade.isSome then fadeDrop s n else s) s).flt.chain.length = 32 ∧
    ∀ n < 32, n ∈ l ∨ (s.chain n).fade = none → ((forEach l (fun s n => if (s.chain n).fade.isSome then fadeDrop s n else s) s).chain n).fade = none
  | [], s, chains => ⟨chains, fun n _ m => m.resolve_left (by simp)⟩
  | a :: l, s, chains => by
    obtain ⟨length, plain⟩ := fadesDrop_plain l (if (s.chain a).fade.isSome then fadeDrop s a else s) (by
      split
      · rw [fadeDrop_chains, chains]
      · exact chains)
    refine ⟨length, fun n small m => plain n small ?_⟩
    by_cases e : n = a
    · subst e
      refine .inr ?_
      split
      · rw [fadeDrop_chain (by rw [chains]; exact small)]
      · next none => simpa using none
    · obtain m | none := m
      · exact .inl (by simpa [e] using m)
      · refine .inr ?_
        split
        · rw [fadeDrop, chain_mark, chain_setChain_other (Ne.symm e), none]
        · exact none

theorem fadesEnd_plain (chains : s.flt.chain.length = 32) : NoFades (fadesEnd s) := by
  obtain ⟨length, plain⟩ := fadesDrop_plain (upto 32) s chains
  refine NoFades.forEach ⟨length, fun n small => plain n small (.inl (by simpa [upto] using small))⟩ fun t d _ h => ?_
  dsimp only
  split
  · exact h.of_chain (by rw [State.mark_flt]; rfl)
  · exact h

theorem NoFades.put {f : Fld} {v : Nat} (h : NoFades s) : NoFades (s.put f v) := h.of_chain (by simp)

theorem NoFades.mark {f : Fld} {b : Bool} (h : NoFades s) : NoFades (s.mark f b) := h.put

theorem NoFades.detReset (h : NoFades s) (small : n < 32) : NoFades (detReset s n) := by
  have reset : NoFades (((s.put (F.FLT_CHn_PEAK_PEAK n) 0).put (F.FLT_CHn_RMS_RMS n) 0).put (F.FLT_ENVn_ENV n) 0) := h.put.put.put
  exact reset.setChain (reset.plain n small)

theorem NoFades.countStart (h : NoFades s) (small : n < 32) : NoFades (countStart s n) := by
  unfold Sys2Proof.Machine.countStart
  extract_lets t u old t2
  have aligned : NoFades (chainAlign s n) := h.setChain (h.plain n small)
  have detected : NoFades t := aligned.detReset small
  have counted : NoFades t2 := detected.setChain (detected.plain n small)
  exact counted.mark

theorem NoFades.countsStart (h : NoFades s) : NoFades (countsStart s) := by
  have filled : NoFades (Sys2Proof.Machine.forEach ((upto 32).filter (inputOn s)) (fun s p => s.setCic p { s.cic p with fill := 0 }) s) :=
    h.forEach fun t p _ q => q.of_chain rfl
  exact (filled.forEach fun t n m q => q.countStart (mem_upto (List.mem_of_mem_filter m))).of_chain rfl

/-- The pending sync edge and the count of edges stand. -/
structure SyncKept (s t : State) : Prop where
  sync : t.flt.sync = s.flt.sync
  count : Stands (fun a => a = A.FLT_SYNC_CNT) s t

namespace SyncKept

protected theorem rfl : SyncKept s s := ⟨Eq.refl _, Stands.rfl⟩

theorem trans (h : SyncKept s t) (k : SyncKept t u) : SyncKept s u := ⟨k.sync.trans h.sync, h.count.trans k.count⟩

theorem forEach {α : Type} {l : List α} {f : State → α → State} (h : ∀ s, ∀ a ∈ l, SyncKept s (f s a)) : SyncKept s (forEach l f s) := by
  unfold Sys2Proof.Machine.forEach
  induction l generalizing s with
  | nil => exact SyncKept.rfl
  | cons a l ih => exact (h s a (by simp)).trans (ih fun s b m => h s b (by simp [m]))

theorem mark {f : Fld} {b : Bool} (apart : f.addr ≠ A.FLT_SYNC_CNT) : SyncKept s (s.mark f b) := ⟨by simp, Stands.mark apart⟩

theorem put {f : Fld} {v : Nat} (apart : f.addr ≠ A.FLT_SYNC_CNT) : SyncKept s (s.put f v) := ⟨by simp, Stands.put apart⟩

theorem setChain {v : ChainSt} : SyncKept s (s.setChain n v) := ⟨rfl, Stands.rfl.parts (State.setChain_regs ..)⟩

theorem setRoute {v : RouteSt} : SyncKept s (s.setRoute n v) := ⟨rfl, Stands.rfl.parts rfl⟩

theorem setCic {v : CicSt} : SyncKept s (s.setCic n v) := ⟨rfl, Stands.rfl.parts rfl⟩

end SyncKept

theorem detReset_sync : SyncKept s (detReset s n) := by
  unfold detReset
  exact (((SyncKept.put (by grind)).trans (SyncKept.put (by grind))).trans (SyncKept.put (by grind))).trans SyncKept.setChain

theorem countStart_sync : SyncKept s (countStart s n) := by
  unfold countStart chainAlign
  exact ((SyncKept.setChain.trans detReset_sync).trans SyncKept.setChain).trans (SyncKept.mark (by grind))

theorem countsStart_sync : SyncKept s (countsStart s) :=
  ((SyncKept.forEach fun _ _ _ => SyncKept.setCic).trans (SyncKept.forEach fun _ _ _ => countStart_sync)).trans ⟨rfl, Stands.rfl.parts rfl⟩

theorem fadesEnd_sync : SyncKept s (fadesEnd s) := by
  refine SyncKept.trans (SyncKept.forEach fun t n _ => ?_) (SyncKept.forEach fun t d _ => ?_)
  · split
    · exact SyncKept.setChain.trans (SyncKept.mark (by grind))
    · exact SyncKept.rfl
  · split
    · exact SyncKept.setRoute.trans (SyncKept.mark (by grind))
    · exact SyncKept.rfl

theorem chainAlign_sync : SyncKept s (chainAlign s n) := SyncKept.setChain

theorem chainAlign_chains : (chainAlign s n).flt.chain.length = s.flt.chain.length := chains_setChain

theorem phaseRestart_sync : SyncKept s (phaseRestart s) := by
  unfold phaseRestart
  extract_lets s1 s2 old1 old2 old3
  have h1 : SyncKept s s1 := SyncKept.forEach fun _ _ _ => SyncKept.setCic
  clear_value s1
  have h2 : SyncKept s1 s2 := SyncKept.forEach fun _ _ _ => chainAlign_sync
  clear_value s2
  exact (h1.trans h2).trans ⟨rfl, Stands.rfl.parts rfl⟩

theorem forEach_chains {α : Type} {l : List α} {f : State → α → State} (h : ∀ s a, (f s a).flt.chain.length = s.flt.chain.length) :
    (forEach l f s).flt.chain.length = s.flt.chain.length := by
  unfold forEach
  induction l generalizing s with
  | nil => rfl
  | cons a l ih => exact ih.trans (h s a)

theorem forEach_regs {α : Type} {l : List α} {f : State → α → State} (h : ∀ s a, (f s a).regs = s.regs) : (forEach l f s).regs = s.regs := by
  unfold forEach
  induction l generalizing s with
  | nil => rfl
  | cons a l ih => exact ih.trans (h s a)

theorem phaseRestart_regs : (phaseRestart s).regs = s.regs := by
  unfold phaseRestart
  extract_lets s1 s2 old1 old2 old3
  have h1 : s1.regs = s.regs := forEach_regs fun _ _ => rfl
  clear_value s1
  have h2 : s2.regs = s1.regs := forEach_regs fun _ _ => State.setChain_regs ..
  clear_value s2
  exact h2.trans h1

theorem phaseRestart_chains : (phaseRestart s).flt.chain.length = s.flt.chain.length := by
  unfold phaseRestart
  extract_lets s1 s2 old1 old2 old3
  have h1 : s1.flt.chain.length = s.flt.chain.length := forEach_chains fun _ _ => rfl
  clear_value s1
  have h2 : s2.flt.chain.length = s1.flt.chain.length := forEach_chains fun _ _ => chainAlign_chains
  clear_value s2
  exact h2.trans h1

/-- The sync edge: none awaits, the count is one more, and outside SENTRY no chain fades. -/
theorem syncAct_spec (chains : s.flt.chain.length = 32) (v : State) (hv : syncAct s false = v) : v.flt.sync = none ∧
    v.get F.FLT_SYNC_CNT_COUNT = (s.get F.FLT_SYNC_CNT_COUNT + 1) % 2 ^ F.FLT_SYNC_CNT_COUNT.width ∧
    v.flag (F.INT_SRCs_PEND 24) = true ∧ (s.pstate ≠ SENTRY → NoFades v) := by
  unfold syncAct at hv
  extract_lets old s1 s2 old2 s3 s4 s5 at hv
  have state1 : s1.flt.sync = none ∧ s1.get F.FLT_SYNC_CNT_COUNT = s.get F.FLT_SYNC_CNT_COUNT ∧ s1.pstate = s.pstate := ⟨rfl, rfl, rfl⟩
  have length1 : s1.flt.chain.length = 32 := chains
  clear_value s1
  have h2 : SyncKept s1 s2 ∧ s2.regs = s1.regs := ⟨phaseRestart_sync, phaseRestart_regs⟩
  have length2 : s2.flt.chain.length = 32 := (phaseRestart_chains).trans length1
  clear_value s2
  have h3 : SyncKept s2 s3 ∧ s3.flt = s2.flt ∧ s3.regs = s2.regs := by
    have each : ∀ c : Bool, ∀ q, SyncKept s2 (if c then { s2 with swa := q } else s2) ∧ (if c then { s2 with swa := q } else s2).flt = s2.flt ∧
        (if c then { s2 with swa := q } else s2).regs = s2.regs := fun c q => by
      split
      · exact ⟨⟨rfl, Stands.rfl.parts rfl⟩, rfl, rfl⟩
      · exact ⟨SyncKept.rfl, rfl, rfl⟩
    exact each _ _
  obtain ⟨sync3, flt3, regs3⟩ := h3
  have length3 : s3.flt.chain.length = 32 := by rw [flt3, length2]
  have state3 : s3.pstate = s1.pstate := by
    rw [State.pstate, (Stands.parts (p := fun _ => True) Stands.rfl (regs3.trans h2.2)).get trivial, State.pstate]
  clear_value s3
  have h4 : SyncKept s3 s4 ∧ (s3.pstate ≠ SENTRY → NoFades s4) := by
    refine ⟨?_, fun out => ?_⟩
    · by_cases sentry : s3.pstate = SENTRY
      · simp only [s4, if_pos sentry]
        exact ⟨rfl, Stands.rfl.parts rfl⟩
      · simp only [s4, if_neg sentry]
        exact (fadesEnd_sync).trans countsStart_sync
    · simp only [s4, if_neg out]
      exact (fadesEnd_plain length3).countsStart
  clear_value s4
  have kept : SyncKept s1 s4 := (h2.1.trans sync3).trans h4.1
  obtain ⟨sync1, count1, pstate1⟩ := state1
  have whole : v = (s4.incWrap F.FLT_SYNC_CNT_COUNT).event 24 := hv.symm
  refine ⟨?_, ?_, ?_, fun out => ?_⟩
  · rw [whole, (State.event_keeps).flt rfl, State.incWrap, State.put_flt, kept.sync, sync1]
  · rw [whole, get_event_apart _ (by decide), get_incWrap_same (by decide), (kept.count).get rfl, count1]
  · rw [whole]
    exact flag_event_pending _
  · rw [whole]
    exact (h4.2 (by rw [state3, pstate1]; exact out)).of_chain (by rw [(State.event_keeps).flt rfl, State.incWrap, State.put_flt])

/-- A fade's end shows it and raises source 23. -/
theorem fadeEnd_spec {f : Fld} (low : f.addr < 0x0A0000) (one : f.width = 1) (fits : f.lo + f.width ≤ 32) (regs : t.regs = s.regs) :
    ((t.mark f false).event 23).flag f = false ∧ EdgeTaken s ((t.mark f false).event 23) 23 ∧
    RegsKept s ((t.mark f false).event 23) (f.addr :: sourceRegs 23) := by
  have apart : ∀ a < 0x0A0000, a ∉ sourceRegs 23 := fun a low m => by
    simp only [sourceRegs, A.INT_SRCs, A.INT_Gg_EDGE_LO, A.INT_Gg_COAL_LO, List.mem_cons, List.not_mem_nil, or_false] at m
    omega
  have start : RegsKept s t [] := fun a _ => Stands.parts (p := fun _ => True) Stands.rfl regs a trivial
  have marked : RegsKept s (t.mark f false) [f.addr] := start.trans (mark_kept t f false)
  refine ⟨?_, ?_, marked.trans (event_kept _ 23)⟩
  · rw [flag_event_apart _ (apart _ low)]
    exact flag_mark_same _ _ _ fits one
  · refine (edgeTaken_event).mpr (marked.pair ?_ ?_) <;> simp <;> grind

end

end Sys2Proof.Machine

open Sys2Proof Sys2Proof.Machine

/-- Settles O18: each change of a chain or a route in closed form, the calibration over its chains by induction, and the
sync edge step by step. -/
theorem soundChanges : Obligations.SoundChanges := by
  intro s chains routes
  refine ⟨?_, ?_, ?_, ?_, ?_, ?_, ?_, ?_, ?_, ?_, ?_, ?_, ?_, ?_, ?_, ?_, ?_⟩
  · intro n i run on new
    have within : n.val < s.flt.chain.length := by rw [chains]; exact n.isLt
    refine ⟨fun ne plain => ?_, fun f fades zero => ?_, fun f fades later => ?_, fun same => ?_⟩
    · refine .of_eq (bankSwap_runs run on new) (fadeTo_starts (Ne.symm ne) plain) ⟨chainFade_chain within, chainFade_flag, ?_, chainFade_kept⟩
      rfl
    · refine .of_next (bankSwap_runs run on new) ?_
      by_cases same : (s.chain n).inst = i
      · rw [fadeTo_same same, ← same]
        exact (setChain_self within).symm
      · rw [fadeTo_fades fades same, if_pos zero]
    · refine .of_next (bankSwap_runs run on new) ?_
      by_cases same : (s.chain n).inst = i
      · rw [fadeTo_same same]
      · rw [fadeTo_fades fades same, if_neg later]
    · exact .of_eq (bankSwap_runs run on new) (fadeTo_same same.symm) rfl
  · intro n off
    refine .of_eq (t := s) ?_ rfl rfl
    show execBankSwap n s = _
    obtain e | e := off <;> simp [execBankSwap, e]
  · intro p run
    obtain ⟨distinct, inside⟩ := chainsOf_inside (s := s) (p := p.val)
    obtain ⟨other, kept, fades⟩ := calSteps_spec (taps := (upto 4).map (fun k => s.getI (F.MIC_CALn_TAPt_TAP p k))) p.isLt (chainsOf s p) s distinct
      fun n m => by rw [chains]; exact inside n m
    refine .of_next (calibrationChange_runs run) ⟨fun n m plain new => fades n m plain new, fun n _ out => other n out, kept.mono fun a m => ?_⟩
    obtain ⟨n, mem, rfl⟩ := List.mem_map.mp m
    exact List.mem_map_of_mem (by simpa [upto] using inside n mem)
  · intro p off
    refine .of_eq (t := s) ?_ rfl rfl
    show execCalibrationChange p s = _
    simp [execCalibrationChange, off]
  · intro d low run ne
    have within : d.val < s.flt.route.length := by rw [routes]; exact d.isLt
    refine ⟨fun cut => .of_eq (routeChange_runs low run ne) (routeChange_cut ne cut) rfl, fun smooth =>
      .of_eq (routeChange_runs low run ne) (routeChange_fade ne smooth) ⟨?_, flag_mark_same _ _ _ (by simp) rfl, mark_kept _ (F.FLT_RTd_FADE d) true⟩⟩
    rw [route_of_flt (State.mark_flt ..), route_setRoute within]
  · intro d high run plain ne
    have within : d.val < s.flt.route.length := by rw [routes]; exact d.isLt
    refine .of_next (routeChange_drill high run plain ne) ?_
    have same : (drlRestart (routeChange s d) (d.val - 144)).route d = (routeChange s d).route d := rfl
    rw [same]
    cases cut : s.flag (F.FLT_RTd_CUT d) with
    | true =>
      rw [routeChange_cut ne cut, route_setRoute within]
      exact ⟨rfl, rfl⟩
    | false =>
      rw [routeChange_fade ne cut, route_of_flt (State.mark_flt ..), route_setRoute within]
      exact ⟨rfl, rfl⟩
  · exact fun d idle => .of_eq (routeChange_idle idle) rfl rfl
  · intro k o l fades
    have within : k.val < s.flt.route.length := by rw [routes]; exact k.isLt
    refine .of_eq (t := ((s.setRoute k { s.route k with fade := none }).mark (F.FLT_RTd_FADE k) false).event 23) ?_ rfl ⟨?_, ?_, ?_, ?_⟩
    · show execFadeComplete true k s = _
      simp [execFadeComplete, fades]
    · rw [route_of_flt ((State.event_keeps).flt rfl), route_of_flt (State.mark_flt ..), route_setRoute within]
    all_goals
      obtain ⟨flag, edge, kept⟩ := fadeEnd_spec (s := s) (t := s.setRoute k { s.route k with fade := none }) (f := F.FLT_RTd_FADE k)
        (by have := k.isLt; simp only [A.FLT_RTd]; omega) rfl (by simp) rfl
    · exact flag
    · exact edge
    · exact kept
  · intro k f small fades full
    have within : k.val < s.flt.chain.length := by rw [chains]; exact small
    refine .of_eq (t := (fadeDrop s k).event 23) ?_ rfl ⟨?_, ?_, ?_, ?_⟩
    · show execFadeComplete false k s = _
      simp [execFadeComplete, small, fades, full]
    · rw [chain_of_flt ((State.event_keeps).flt rfl), fadeDrop_chain within]
    all_goals
      obtain ⟨flag, edge, kept⟩ := fadeEnd_spec (s := s) (t := s.setChain k { s.chain k with fade := none }) (f := F.FLT_CHn_ST_FADE k)
        (by simp only [A.FLT_CHn_ST]; omega) rfl (by simp) (State.setChain_regs ..)
    · exact flag
    · exact edge
    · exact kept
  · refine fun k => ⟨fun idle => .of_eq (t := s) ?_ rfl rfl, fun idle => .of_eq (t := s) ?_ rfl rfl⟩
    · show execFadeComplete true k s = _
      unfold execFadeComplete
      dsimp only
      rw [if_pos rfl]
      cases fades : (s.route k).fade with
      | none => rfl
      | some f =>
        rw [fades] at idle
        exact congrArg _ (if_neg (by simpa using idle))
    · show execFadeComplete false k s = _
      unfold execFadeComplete
      dsimp only
      rw [if_neg (by simp)]
      split
      · next small =>
        cases fades : (s.chain k).fade with
        | none => rfl
        | some f =>
          rw [fades] at idle
          exact congrArg _ (if_neg (by simpa using idle.resolve_left (by omega)))
      · rfl
  · intro free run here on alone
    refine ⟨fun pin => .of_eq (t := syncEdge s) ?_ (syncEdge_alone free run here on alone) rfl,
      fun awake => .of_eq (t := syncEdge s) ?_ (syncEdge_alone free run here on alone) rfl⟩
    · show execSyncPinEdge s = _
      simp [execSyncPinEdge, pin]
    · show execSyncNow s = _
      simp [execSyncNow, awake]
  · intro free run here on bcast lead
    have edge := syncEdge_lead free run here on bcast lead
    refine ⟨fun pin => .of_next (t := syncEdge s) ?_ edge, fun awake => .of_next (t := syncEdge s) ?_ edge⟩
    · show execSyncPinEdge s = _
      simp [execSyncPinEdge, pin]
    · show execSyncNow s = _
      simp [execSyncNow, awake]
  · intro idle
    refine ⟨.of_eq (t := s) ?_ rfl rfl, .of_eq (t := s) ?_ rfl rfl⟩
    · show execSyncPinEdge s = _
      simp [execSyncPinEdge, syncEdge_idle idle]
    · show execSyncNow s = _
      simp [execSyncNow, syncEdge_idle idle]
  · intro off
    refine .of_eq (t := s) ?_ rfl rfl
    show execSyncPinEdge s = _
    simp [execSyncPinEdge, off]
  · intro asleep
    refine .of_eq (t := s) ?_ rfl rfl
    show execSyncNow s = _
    simp [execSyncNow, asleep]
  · intro due
    refine .of_eq (t := syncNow s) ?_ rfl ?_
    · show execSyncAct s = _
      simp [execSyncAct, due]
    · obtain ⟨sync, count, pending, plain⟩ := syncAct_spec chains _ rfl
      have restarted : (syncNow s).flt = (syncAct s false).flt ∧ (syncNow s).regs = (syncAct s false).regs :=
        ⟨(Keeps.forEach fun _ _ => drlRestart_keeps).flt rfl, forEach_regs fun _ _ => rfl⟩
      obtain ⟨flt, regs⟩ := restarted
      have reads : Stands (fun _ => True) (syncAct s false) (syncNow s) := Stands.rfl.parts regs
      exact ⟨by rw [flt, sync], by rw [reads.get trivial, count], by rw [reads.flag trivial, pending],
        fun out n small => by rw [chain_of_flt flt, (plain out).plain n small]⟩
  · intro wait
    refine .of_eq (t := s) ?_ rfl rfl
    show execSyncAct s = _
    simp [execSyncAct, wait]
end

section
/-! PROOFS. Feature frames, the event queue, slots and record actions of the Drill (O21). -/

namespace Sys2Proof.Machine

section

variable {s t : State} {n k : Nat}

/-! ## A frame of one input -/

theorem drlIn_setDrlIn {v : DrlIn} (h : n < s.drl.inp.length) : (s.setDrlIn n v).drlIn n = v := nth_setNth_same h

/-- No pair of a slot and an input holds a candidate. -/
def NoCand (s : State) : Prop := ∀ p ∈ s.drl.pairs, p.cand = none

theorem NoCand.pairSt (h : NoCand s) : (s.pairSt k n).cand = none := by
  unfold State.pairSt
  cases found : s.drl.pairs.find? (fun p => p.key == pairKey k n) with
  | none => rfl
  | some p => exact h p (List.mem_of_find?_eq_some found)

theorem NoCand.setPairSt {p : PairSt} (h : NoCand s) (plain : p.cand = none) : NoCand (s.setPairSt p) := by
  intro q m
  simp only [State.setPairSt] at m
  split at m
  · exact h q (List.mem_of_mem_filter m)
  · obtain old | new := List.mem_append.mp m
    · exact h q (List.mem_of_mem_filter old)
    · rw [List.mem_singleton.mp new, plain]

/-- What a marked frame does to the pair of slot `k` and the input. -/
def pairMarked (n t : Nat) (a : State × List DrlOut) (k : Nat) : State × List DrlOut :=
  let p := a.1.pairSt k n
  let net := slotType a.1 k == 2
  let s := a.1.setPairSt { p with cells := [], refr := if net then p.refr else p.refr - 1, cand := none }
  let cls := s.get (F.DRL_SLOTs_CFG_CLASS k)
  (s, if p.cand.isSome then a.2 ++ [⟨2, k, n, cls, 0, thetaWake s (holdSlot s k) (loopOf s n), if net then s.get F.DRL_NET_C else 0, t, t⟩] else a.2)

/-- Without a candidate a marked frame changes pairs alone and puts out nothing. -/
theorem pairsMarked_plain {x : Nat} : ∀ (l : List Nat) (s : State), NoCand s →
    ∃ ps, l.foldl (pairMarked n x) (s, []) = ({ s with drl := { s.drl with pairs := ps } }, [])
  | [], s, _ => ⟨s.drl.pairs, rfl⟩
  | k :: l, s, h => by
    have step : pairMarked n x (s, []) k = (s.setPairSt { s.pairSt k n with
        cells := [], refr := if slotType s k == 2 then (s.pairSt k n).refr else (s.pairSt k n).refr - 1, cand := none }, []) := by
      simp [pairMarked, h.pairSt]
    obtain ⟨ps, rest⟩ := pairsMarked_plain l (s.setPairSt { s.pairSt k n with
      cells := [], refr := if slotType s k == 2 then (s.pairSt k n).refr else (s.pairSt k n).refr - 1, cand := none }) (h.setPairSt rfl)
    refine ⟨ps, ?_⟩
    rw [List.foldl_cons, step, rest]
    rfl

/-- What a marked frame shows of its input, before the pairs. -/
def markShown (s : State) (n : Nat) : State :=
  ((s.mark (F.DRL_INn_ST_MARKED n) true).incSat (F.DRL_INn_ST_RST n)).setDrlIn n { s.drlIn n with clean := 0 }

theorem markedFrame_plain {x : Nat} (low : n < 4) (h : NoCand s) : ∃ ps, markedFrame s n x =
    ({ markShown s n with drl := { (markShown s n).drl with pairs := ps } }, []) := by
  have drl : ((s.mark (F.DRL_INn_ST_MARKED n) true).incSat (F.DRL_INn_ST_RST n)).drl = s.drl := ((State.incSat_keeps).andThen Keeps.rfl).drl rfl
  have input : ((s.mark (F.DRL_INn_ST_MARKED n) true).incSat (F.DRL_INn_ST_RST n)).drlIn n = s.drlIn n := by rw [State.drlIn, drl, State.drlIn]
  have plain : NoCand (markShown s n) := fun p m => h p (by
    have same : (markShown s n).drl.pairs = s.drl.pairs := (congrArg DrlSt.pairs drl :)
    rwa [same] at m)
  obtain ⟨ps, run⟩ := pairsMarked_plain (n := n) (x := x) (upto 64) (markShown s n) plain
  refine ⟨ps, ?_⟩
  unfold markedFrame
  rw [if_neg (by unfold D_SENT; omega)]
  dsimp only
  rw [input]
  exact run

/-- An input's part after a frame is cut from its samples. -/
def frameCut (s : State) (n : Nat) (f : FrameInfo) : DrlIn :=
  { s.drlIn n with buf := (s.drlIn n).buf.drop 160, t := (s.drlIn n).t + 1, frames := (f :: (s.drlIn n).frames).take 512 }

theorem inputFrame_marked (marked : (frameInfo (s.drlIn n)).2 = true) : inputFrame s n =
    markedFrame (s.setDrlIn n (frameCut s n (frameInfo (s.drlIn n)).1)) n (frameInfo (s.drlIn n)).1.t := by
  unfold inputFrame
  dsimp only
  rw [if_pos marked]
  rfl

theorem markShown_spec (h : n < s.drl.inp.length) : (markShown s n).drlIn n = { s.drlIn n with clean := 0 } ∧
    (markShown s n).flag (F.DRL_INn_ST_MARKED n) = true ∧ (markShown s n).drl.evq = s.drl.evq ∧ (markShown s n).drl.enr = s.drl.enr := by
  have drl : ((s.mark (F.DRL_INn_ST_MARKED n) true).incSat (F.DRL_INn_ST_RST n)).drl = s.drl := ((State.incSat_keeps).andThen Keeps.rfl).drl rfl
  refine ⟨drlIn_setDrlIn (by rwa [drl]), ?_, (congrArg DrlSt.evq drl :), (congrArg DrlSt.enr drl :)⟩
  have counted : ((s.mark (F.DRL_INn_ST_MARKED n) true).incSat (F.DRL_INn_ST_RST n)).flag (F.DRL_INn_ST_MARKED n) = true := by
    rw [State.incSat]
    split
    · rw [flag_put_apart _ _ _ _ (by simp) (by simp)]
      exact flag_mark_same _ _ _ (by simp) rfl
    · exact flag_mark_same _ _ _ (by simp) rfl
  exact counted

/-- A clean frame's features are kept with it, and no slot that is not armed hears it. -/
theorem slotsStep_unarmed {x : Nat} {v : List Nat} (low : n < 4) (unarmed : ∀ k < 64, s.get (F.DRL_SLOTs_ST_STATE k) ≠ 3) :
    slotsStep s n x v = (s, []) := by
  have each : ∀ (f : State × List DrlOut → Nat → State × List DrlOut) (l : List Nat), (∀ k ∈ l, f (s, []) k = (s, [])) →
      l.foldl f (s, []) = (s, []) := by
    intro f l
    induction l with
    | nil => exact fun _ => rfl
    | cons k l ih =>
      intro h
      rw [List.foldl_cons, h k (by simp)]
      exact ih fun j m => h j (by simp [m])
  unfold slotsStep
  dsimp only
  rw [if_neg (by unfold D_SENT; omega)]
  refine each _ _ fun k m => ?_
  dsimp only
  rw [if_pos (unarmed k (mem_upto m))]

theorem features_regs {xs : List Int} : (features s xs).2.regs = s.regs := by
  unfold features
  generalize featureRanges xs = l
  change _ = (([], s) : List Nat × State).2.regs
  generalize (([], s) : List Nat × State) = a
  induction l generalizing a with
  | nil => rfl
  | cons r l ih =>
    rw [List.foldl_cons, ih]
    split <;> rfl

/-- What a clean frame leaves before the slots hear it. -/
def cleanShown (s : State) (n : Nat) : State :=
  ((features s (((s.drlIn n).buf.take 400).map (fun e => wordData e.1))).2.setDrlIn n
    { frameCut s n { (frameInfo (s.drlIn n)).1 with v := some (features s (((s.drlIn n).buf.take 400).map (fun e => wordData e.1))).1 } with
      clean := (s.drlIn n).clean + 1 }).mark (F.DRL_INn_ST_MARKED n) false

theorem inputFrame_clean (low : n < 4) (clean : (frameInfo (s.drlIn n)).2 = false) : inputFrame s n =
    slotsStep (cleanShown s n) n (frameInfo (s.drlIn n)).1.t (features s (((s.drlIn n).buf.take 400).map (fun e => wordData e.1))).1 := by
  unfold inputFrame
  dsimp only
  rw [if_neg (by simp [clean]), if_neg (by unfold D_SENT; omega)]
  rfl

theorem cleanShown_spec (h : n < s.drl.inp.length) : (cleanShown s n).drlIn n =
    { frameCut s n { (frameInfo (s.drlIn n)).1 with v := some (features s (((s.drlIn n).buf.take 400).map (fun e => wordData e.1))).1 } with
      clean := (s.drlIn n).clean + 1 } ∧ (cleanShown s n).flag (F.DRL_INn_ST_MARKED n) = false ∧ (cleanShown s n).drl.evq = s.drl.evq ∧
    (cleanShown s n).drl.enr = s.drl.enr := by
  unfold cleanShown
  have drl : (features s (((s.drlIn n).buf.take 400).map (fun e => wordData e.1))).2.drl = s.drl := (features_keeps).drl rfl
  generalize features s (((s.drlIn n).buf.take 400).map (fun e => wordData e.1)) = v at drl
  have whole : ∀ (u : State) f b, (u.mark f b).drlIn n = u.drlIn n := fun u f b => by rw [State.drlIn, State.mark_drl, State.drlIn]
  refine ⟨?_, flag_mark_same _ _ _ (by simp) rfl, ?_, ?_⟩
  · rw [whole]
    exact drlIn_setDrlIn (by rwa [drl])
  · rw [State.mark_drl]
    exact (congrArg DrlSt.evq drl :)
  · rw [State.mark_drl]
    exact (congrArg DrlSt.enr drl :)

theorem cleanShown_slots (low : n < 4) (k : Nat) : (cleanShown s n).get (F.DRL_SLOTs_ST_STATE k) = s.get (F.DRL_SLOTs_ST_STATE k) := by
  have regs := features_regs (s := s) (xs := ((s.drlIn n).buf.take 400).map (fun e => wordData e.1))
  unfold cleanShown
  generalize features s (((s.drlIn n).buf.take 400).map (fun e => wordData e.1)) = v at regs
  have apart : A.DRL_INn_ST n ≠ A.DRL_SLOTs_ST k := by
    simp only [A.DRL_SLOTs_ST, A.DRL_INn_ST]
    omega
  rw [get_mark_apart _ _ _ _ (by simp) (.inl apart)]
  exact (Stands.parts (p := fun _ => True) Stands.rfl regs).get trivial

theorem ones_one (low : n < 4) : ones 5 (BitVec.ofNat 5 (2 ^ n)).toNat = [n] := by
  interval_cases n <;> decide

/-- The frames of one input that is due. -/
theorem featureFrame_one (low : n < 4) (run : drlRuns s n = true) (full : 400 ≤ (s.drlIn n).buf.length) (plain : s.drl.enr = none)
    (out : (inputFrame s n).2 = []) (same : (inputFrame s n).1.drl.enr = s.drl.enr) :
    exec (.featureFrame (BitVec.ofNat 5 (2 ^ n)) false false none) s = .next (inputFrame s n).1 := by
  show execFeatureFrame _ _ _ _ s = _
  unfold execFeatureFrame
  rw [ones_one low]
  have due : [n].filter (fun n => drlRuns s n && decide (400 ≤ (s.drlIn n).buf.length)) = [n] := by simp [run, full]
  rw [due]
  have cut : segmentCut (inputFrame s n).1 = (inputFrame s n).1 := by
    unfold segmentCut
    rw [same, plain]
  simp [out, outsAct, forEach, cut]

/-! ## Record actions -/

theorem recRow_free {a : Nat} (awake : s.awake = true) (free : s.flag F.DRL_RECCTL_BUSY = false) : recRow s a k =
    .next ({ s.put F.DRL_RECCTL_SLOT k with drl := { (s.put F.DRL_RECCTL_SLOT k).drl with act := some ⟨a, k, 0⟩ } }.mark F.DRL_RECCTL_BUSY true) := by
  unfold recRow recStart
  rw [if_pos awake, if_neg (by simp [free])]

theorem recRow_busy {a : Nat} (awake : s.awake = true) (busy : s.flag F.DRL_RECCTL_BUSY = true) : recRow s a k = .next s := by
  unfold recRow recStart
  rw [if_pos awake, if_pos busy]

theorem recRow_asleep {a : Nat} (asleep : s.awake = false) : recRow s a k = .next s := by
  unfold recRow
  rw [if_neg (by simp [asleep])]

/-- The seven record actions, by their numbers. -/
def recRows (k : Fin 64) : List (Instr × Nat) :=
  [(.install k, 1), (.save k, 2), (.recExport k, 3), (.erase k, 4), (.recOpen k, 5), (.put k, 6), (.close k, 7)]

theorem recRows_exec {k : Fin 64} : ∀ c ∈ recRows k, exec c.1 s = recRow s c.2 k.val := by
  intro c m
  simp only [recRows, List.mem_cons, List.not_mem_nil, or_false] at m
  obtain rfl | rfl | rfl | rfl | rfl | rfl | rfl := m <;> rfl

/-- The outcome of the action that runs. -/
def recOutcome (s : State) (a : RecAct) : State × Nat :=
  if a.action = 1 then doInstall s else if a.action = 2 then doSave s else if a.action = 3 then doExport s a.slot
  else if a.action = 4 then doErase s a.slot else if a.action = 5 then doOpen s else if a.action = 6 then doPut s else doClose s

/-- The end of a record action. -/
def recEnd (r : State × Nat) : State :=
  (((r.1.mark F.DRL_RECCTL_BUSY false).mark F.DRL_RECCTL_DONE true).put F.DRL_RECCTL_ERR r.2).event 46

theorem recordActionDone_runs {a : RecAct} (awake : s.awake = true) (runs : s.drl.act = some a) :
    exec .recordActionDone s = .next (recEnd (recOutcome { s with drl := { s.drl with act := none } } a)) := by
  show execRecordActionDone s = _
  unfold execRecordActionDone
  rw [runs]
  dsimp only
  rw [if_pos awake]
  rfl

theorem recEnd_spec {r : State × Nat} : (recEnd r).drl = r.1.drl ∧ (recEnd r).flag F.DRL_RECCTL_BUSY = false ∧
    (recEnd r).flag F.DRL_RECCTL_DONE = true ∧ (recEnd r).flag (F.INT_SRCs_PEND 46) = true ∧
    (r.2 < 16 → (recEnd r).get F.DRL_RECCTL_ERR = r.2) ∧ RegsKept r.1 (recEnd r) (A.DRL_RECCTL :: sourceRegs 46) ∧
    (recEnd r) = { r.1 with regs := (recEnd r).regs } := by
  refine ⟨?_, ?_, ?_, flag_event_pending _, fun small => ?_, ?_, ?_⟩
  · rw [recEnd, (State.event_keeps).drl rfl, State.put_drl, State.mark_drl, State.mark_drl]
  · rw [recEnd, flag_event_apart _ (by decide), flag_put_apart _ _ _ _ (by decide) (by decide), flag_mark_apart _ _ _ _ (by decide) (by decide)]
    exact flag_mark_same _ _ _ (by decide) rfl
  · rw [recEnd, flag_event_apart _ (by decide), flag_put_apart _ _ _ _ (by decide) (by decide)]
    exact flag_mark_same _ _ _ (by decide) rfl
  · rw [recEnd, get_event_apart _ (by decide)]
    exact get_put_val _ (by decide) small
  · simp [recEnd]
  · have only : OnlyRegs r.1 (recEnd r) := by simp [recEnd]
    exact only

theorem recEnd_taken {r : State × Nat} (edges : r.1.pair (A.INT_Gg_EDGE_LO 5) = s.pair (A.INT_Gg_EDGE_LO 5)) : EdgeTaken s (recEnd r) 46 :=
  (edgeTaken_event).mpr (by simpa (disch := decide) using edges)

/-- No action runs. -/
abbrev ActIdle (s : State) : Prop := s.drl.act = none

theorem idle_of_drl (idle : ActIdle s) (h : t.drl = s.drl) : ActIdle t := (congrArg DrlSt.act h).trans idle

theorem slotChange_idle (idle : ActIdle s) : ActIdle (slotChange s k) := idle

theorem slotErase_idle (idle : ActIdle s) : ActIdle (slotErase s k) := by
  unfold slotErase
  extract_lets s1 s2 s3 s4 s5 old s6
  have h5 : ActIdle s5 := idle_of_drl (slotChange_idle (k := k) idle) (by simp [s5, s4, s3, s2, s1])
  have h6 : ActIdle s6 := h5
  exact idle_of_drl h6 ((netFollow_keeps).drl rfl)

theorem slotPlace_idle {r : List Nat} {a b c d e f g h i j l : Nat} (idle : ActIdle s) : ActIdle (slotPlace s k r a b c d e f g h i j l) := by
  unfold slotPlace
  extract_lets s1 old s2 s3 s4 s5 s6 s7 s8
  have h1 : ActIdle s1 := slotErase_idle idle
  have h2 : ActIdle s2 := h1
  exact idle_of_drl h2 (by simp [s8, s7, s6, s5, s4, s3])

theorem forEach_idle {α : Type} {l : List α} {f : State → α → State} (idle : ActIdle s) (step : ∀ s a, ActIdle s → ActIdle (f s a)) :
    ActIdle (forEach l f s) := by
  unfold forEach
  induction l generalizing s with
  | nil => exact idle
  | cons a l ih => exact ih (step s a idle)

theorem doInstall_idle (idle : ActIdle s) : ActIdle (doInstall s).1 := by
  unfold doInstall
  split
  · exact idle
  · next r _ =>
    dsimp only
    split
    · exact idle
    · unfold recInstall
      split
      · extract_lets s1 s2 s3
        have h1 : ActIdle s1 := forEach_idle idle fun _ _ h => slotErase_idle h
        have h2 : ActIdle s2 := forEach_idle h1 fun _ _ h => slotPlace_idle h
        exact idle_of_drl h2 ((netFollow_keeps).drl rfl)
      · exact slotPlace_idle idle

theorem doOpen_idle (idle : ActIdle s) : ActIdle (doOpen s).1 := by
  unfold doOpen
  dsimp only
  split
  · exact idle
  · exact idle

theorem doPut_idle (idle : ActIdle s) : ActIdle (doPut s).1 := by
  unfold doPut
  split
  · exact idle
  · dsimp only
    split
    · exact idle
    · split
      · next t put =>
        have kept : ActIdle t := idle_of_drl idle ((fragsPut_keeps put).drl rfl)
        refine (congrArg DrlSt.act ((nvmShow_keeps).drl rfl)).trans ?_
        rw [State.put_drl]
        exact kept
      · exact idle

theorem doClose_idle (idle : ActIdle s) : ActIdle (doClose s).1 := by
  unfold doClose
  split
  · exact idle
  · extract_lets r drop old e k
    split
    · exact idle
    · split
      · exact idle
      · split
        · next t put =>
          have kept : ActIdle t := idle_of_drl idle ((fragPut_keeps put).drl rfl)
          exact idle_of_drl (s := { t with drl := { t.drl with stream := none } }) kept ((nvmShow_keeps).drl rfl)
        · exact idle

/-- No record action starts another. -/
theorem recOutcome_idle {a : RecAct} (idle : ActIdle s) : ActIdle (recOutcome s a).1 := by
  unfold recOutcome
  split
  · exact doInstall_idle idle
  · split
    · exact idle_of_drl idle ((doSave_keeps).drl rfl)
    · split
      · exact idle_of_drl idle ((doExport_keeps).drl rfl)
      · split
        · unfold doErase
          split
          · exact idle
          · exact slotErase_idle idle
        · split
          · exact doOpen_idle idle
          · split
            · exact doPut_idle idle
            · exact doClose_idle idle

/-! ## Arming a slot -/

theorem netFollow_kept : RegsKept s (netFollow s) [A.DRL_NET] := by
  unfold netFollow
  exact put_kept _ _ _

theorem slot_netFollow {f : Fld} (slot : f.addr ≠ A.DRL_NET) : (netFollow s).get f = s.get f ∧ (netFollow s).flag f = s.flag f :=
  ⟨(netFollow_kept).get (by simpa using slot), (netFollow_kept).flag (by simpa using slot)⟩

theorem slotWords_apart : A.DRL_SLOTs_ST k ≠ A.DRL_NET ∧ A.DRL_SLOTs_CFG k ≠ A.DRL_NET ∧ A.DRL_SLOTs_ST k ≠ A.DRL_SLOTs_CFG k ∧
    A.DRL_SLOTs_ST k ≠ A.DRL_SLOTs_ID k := by
  simp only [A.DRL_SLOTs_ST, A.DRL_SLOTs_CFG, A.DRL_SLOTs_ID, A.DRL_NET]
  omega

/-- A slot's words at reset, and its state EMPTY. -/
def slotCleared (s : State) (k : Nat) : State :=
  let s := slotChange s k
  let s := s.wr (A.DRL_SLOTs_CFG k) (resetWord (A.DRL_SLOTs_CFG k))
  let s := s.wr (A.DRL_SLOTs_THR k) (resetWord (A.DRL_SLOTs_THR k))
  let s := s.wr (A.DRL_SLOTs_ADJ k) (resetWord (A.DRL_SLOTs_ADJ k))
  (s.put (F.DRL_SLOTs_ST_STATE k) SL_EMPTY).put (F.DRL_SLOTs_ID_ID k) 0

theorem slotErase_eq : slotErase s k = netFollow (tableDrop { slotCleared s k with drl :=
  { (slotCleared s k).drl with recs := (slotCleared s k).drl.recs.filter (fun e => decide (e.1 ≠ k)) } } k) := rfl

theorem slotCleared_state : (slotCleared s k).get (F.DRL_SLOTs_ST_STATE k) = SL_EMPTY := by
  obtain ⟨-, -, -, id⟩ := @slotWords_apart k
  unfold slotCleared
  dsimp only
  rw [get_put_apart _ _ _ _ (by simp) (.inl id.symm)]
  exact get_put_val _ (by simp) (by simp)

/-- The words of a slot that an erasure writes. -/
abbrev slotWords (k : Nat) : List Nat :=
  [A.DRL_SLOTs_CFG k, A.DRL_SLOTs_THR k, A.DRL_SLOTs_ADJ k, A.DRL_SLOTs_ST k, A.DRL_SLOTs_ID k]

theorem slotCleared_kept : RegsKept s (slotCleared s k) (slotWords k) := by
  have start : RegsKept s (slotChange s k) [] := fun _ _ => rfl
  have words : ∀ t : State, RegsKept t (((((t.wr (A.DRL_SLOTs_CFG k) (resetWord (A.DRL_SLOTs_CFG k))).wr (A.DRL_SLOTs_THR k)
      (resetWord (A.DRL_SLOTs_THR k))).wr (A.DRL_SLOTs_ADJ k) (resetWord (A.DRL_SLOTs_ADJ k))).put (F.DRL_SLOTs_ST_STATE k) SL_EMPTY).put
      (F.DRL_SLOTs_ID_ID k) 0) (slotWords k) := fun t => by simp
  exact start.trans (words _)

theorem recordsDropped_kept {u : State} {l : List (Nat × List Nat)} :
    RegsKept u (netFollow (tableDrop { u with drl := { u.drl with recs := l } } k)) [A.DRL_NET] := by
  have dropped : RegsKept u (tableDrop { u with drl := { u.drl with recs := l } } k) [] := fun _ _ => rfl
  exact dropped.trans netFollow_kept

theorem slotErase_spec : slotState (slotErase s k) k = SL_EMPTY ∧ (∀ r ∈ (slotErase s k).drl.recs, r.1 ≠ k) ∧
    RegsKept s (slotErase s k) (slotWords k ++ [A.DRL_NET]) := by
  obtain ⟨st, -, -, -⟩ := @slotWords_apart k
  rw [slotErase_eq]
  refine ⟨((recordsDropped_kept).get (by simpa using st)).trans slotCleared_state, fun r m => ?_, (slotCleared_kept).trans recordsDropped_kept⟩
  rw [(netFollow_keeps).drl rfl] at m
  simpa using (List.mem_filter.mp m).2

theorem slotArm_loaded {k : Nat} (loaded : slotState s k = SL_LOADED) : (slotArm s k true).flag (F.DRL_SLOTs_CFG_ARM k) = true ∧
    slotState (slotArm s k true) k = if recStop (slotRec s k) then SL_VERIFYING else SL_ARMED := by
  obtain ⟨st, cfg, apart, -⟩ := @slotWords_apart k
  have same : slotState (slotChange s k) k = SL_LOADED := loaded
  unfold slotArm
  dsimp only
  rw [if_pos rfl, if_pos same]
  refine ⟨?_, ?_⟩
  · rw [(slot_netFollow cfg).2, flag_put_apart _ _ _ _ (by simp) (.inl apart)]
    exact flag_mark_same _ _ _ (by simp) rfl
  · refine (slot_netFollow st).1.trans ?_
    have record : slotRec ((slotChange s k).mark (F.DRL_SLOTs_CFG_ARM k) true) k = slotRec s k := by
      unfold slotRec
      rw [State.mark_drl]
      rfl
    rw [record]
    exact get_put_val _ (by simp) (show _ < 8 by split <;> decide)

theorem slotArm_disarms {k : Nat} (armed : slotState s k = SL_ARMED) : (slotArm s k false).flag (F.DRL_SLOTs_CFG_ARM k) = false ∧
    slotState (slotArm s k false) k = SL_LOADED ∧ k ∉ (slotArm s k false).saf.table := by
  obtain ⟨st, cfg, apart, -⟩ := @slotWords_apart k
  have same : slotState (slotChange s k) k = SL_ARMED := armed
  unfold slotArm
  dsimp only
  rw [if_neg (by simp), if_pos (.inl same)]
  refine ⟨?_, ?_, ?_⟩
  · rw [(slot_netFollow cfg).2, flag_put_apart _ _ _ _ (by simp) (.inl apart)]
    exact flag_mark_same (slotChange s k) _ _ (by simp) rfl
  · exact (slot_netFollow st).1.trans (get_put_val _ (by simp) (by simp))
  · rw [(netFollow_keeps).saf rfl, State.put_saf]
    simp [tableDrop]

theorem slotArm_other {k : Nat} (other : slotState s k ≠ SL_LOADED) : slotState (slotArm s k true) k = slotState s k ∧
    (slotArm s k true).flag (F.DRL_SLOTs_CFG_ARM k) = slotBusy s k := by
  obtain ⟨-, -, apart, -⟩ := @slotWords_apart k
  have same : slotState (slotChange s k) k ≠ SL_LOADED := other
  unfold slotArm
  dsimp only
  rw [if_pos rfl, if_neg same]
  exact ⟨get_mark_apart (slotChange s k) _ _ _ (by simp) (.inl apart.symm), flag_mark_same (slotChange s k) _ _ (by simp) rfl⟩

theorem heldArm_spec {k : Nat} {b : Bool} : (heldArm s k b).flag (F.DRL_SLOTs_CFG_ARM k) = b ∧
    slotState (heldArm s k b) k = (if b then SL_ARMED else SL_LOADED) ∧ (∀ h ∈ (heldArm s k b).drl.held, h.slot = k → h.arm = b) ∧
    RegsKept s (heldArm s k b) [A.DRL_SLOTs_CFG k, A.DRL_SLOTs_ST k] := by
  obtain ⟨-, -, apart, -⟩ := @slotWords_apart k
  unfold heldArm
  extract_lets s1 s2
  have shown1 : s1.flag (F.DRL_SLOTs_CFG_ARM k) = b := flag_mark_same (slotChangeOn s k (fun n => n == D_SENT)) _ _ (by simp) rfl
  have kept1 : RegsKept s s1 [A.DRL_SLOTs_CFG k] := mark_kept (slotChangeOn s k (fun n => n == D_SENT)) (F.DRL_SLOTs_CFG_ARM k) b
  refine ⟨?_, ?_, fun h m here => ?_, kept1.trans (put_kept s1 (F.DRL_SLOTs_ST_STATE k) _)⟩
  · exact (flag_put_apart s1 _ _ _ (by simp) (.inl apart)).trans shown1
  · exact get_put_val s1 (by simp) (show _ < 8 by cases b <;> decide)
  · obtain ⟨g, -, rfl⟩ := List.mem_map.mp m
    by_cases e : g.slot = k
    · simp [e]
    · rw [if_neg e] at here
      exact absurd here e

theorem seedVerifyDone_runs {k : Fin 64} (verifying : slotState s k = SL_VERIFYING) (awake : s.awake = true) (runs : coreState s SCARE = C_RUN) :
    exec (.seedVerifyDone k) s = .next (if recordSigned s (slotRec s k) then
      netFollow (if slotClass (s.put (F.DRL_SLOTs_ST_STATE k) SL_ARMED) k CL_STOP then
        { s.put (F.DRL_SLOTs_ST_STATE k) SL_ARMED with
          saf := { s.saf with table := (tableDrop s k).saf.table ++ [k.val] } } else s.put (F.DRL_SLOTs_ST_STATE k) SL_ARMED)
    else netFollow ((s.put (F.DRL_SLOTs_ST_STATE k) SL_FAILED).mark (F.DRL_SLOTs_CFG_ARM k) false)) := by
  show execSeedVerifyDone k s = _
  unfold execSeedVerifyDone
  rw [if_pos ⟨verifying, awake, runs⟩]
  split <;> rfl

end

end Sys2Proof.Machine

open Sys2Proof Sys2Proof.Machine

/-- Settles O21: a frame that finds no candidate and no armed slot puts nothing out (`pairsMarked_plain`, `slotsStep_unarmed`),
and each row of slots and records is its chain of updates. -/
theorem drillFramesAndRecords : Obligations.DrillFramesAndRecords := by
  intro s
  refine ⟨?_, ?_, ?_, ?_, ?_, ?_, ?_, ?_, ?_, ?_, ?_, ?_, ?_, ?_, ?_⟩
  · intro n five run full pairs plain marked
    have within : n.val < s.drl.inp.length := by rw [five]; omega
    obtain ⟨ps, frame⟩ := markedFrame_plain (s := s.setDrlIn n (frameCut s n (frameInfo (s.drlIn n)).1)) (x := (frameInfo (s.drlIn n)).1.t) n.isLt
      fun p m => by
        have none : (s.setDrlIn n (frameCut s n (frameInfo (s.drlIn n)).1)).drl.pairs = [] := pairs
        simp [none] at m
    have whole := (inputFrame_marked marked).trans frame
    have cutWithin : n.val < (s.setDrlIn n (frameCut s n (frameInfo (s.drlIn n)).1)).drl.inp.length := by simpa [State.setDrlIn, setNth] using within
    obtain ⟨input, shown, evq, enr⟩ := markShown_spec cutWithin
    rw [drlIn_setDrlIn within] at input
    refine .of_next (featureFrame_one n.isLt run full plain (by rw [whole]) (by rw [whole]; exact enr)) ?_
    rw [whole]
    have same : ∀ (u : State) ps, ({ u with drl := { u.drl with pairs := ps } } : State).drlIn n = u.drlIn n := fun _ _ => rfl
    rw [same, input]
    exact ⟨rfl, rfl, rfl, shown, evq⟩
  · intro n five run full plain unarmed clean
    have within : n.val < s.drl.inp.length := by rw [five]; omega
    have whole := (inputFrame_clean n.isLt clean).trans (slotsStep_unarmed n.isLt fun k small => by
      rw [cleanShown_slots n.isLt]
      exact unarmed k small)
    obtain ⟨input, shown, evq, enr⟩ := cleanShown_spec within
    refine .of_next (featureFrame_one n.isLt run full plain (by rw [whole]) (by rw [whole]; exact enr)) ?_
    rw [whole, input]
    exact ⟨rfl, rfl, rfl, shown, evq⟩
  · intro ins late stopLate lanes none
    refine .of_eq (t := s) ?_ rfl rfl
    show execFeatureFrame ins late stopLate lanes s = _
    unfold execFeatureFrame
    have empty : (ones 5 ins.toNat).filter (fun n => drlRuns s n && decide (400 ≤ (s.drlIn n).buf.length)) = [] := by
      refine List.filter_eq_nil_iff.mpr fun n m => ?_
      obtain e | e := none n m
      · simp [e]
      · simp [e]
    simp [empty]
  · intro n few
    refine .of_eq (t := { s with drl := { s.drl with evq := s.drl.evq.drop (Nat.min n.toNat 64 / 4) } }.put F.DRL_EVQ_ST_OCC
      (s.drl.evq.length - Nat.min n.toNat 64 / 4)) ?_ rfl ⟨rfl, ?_, ?_⟩
    · show execEvqPop n s = _
      simp [execEvqPop]
    · exact get_put_val _ (by decide) (by show _ < 2 ^ F.DRL_EVQ_ST_OCC.width; simp; omega)
    · simp
  · intro k awake c m
    have row := recRows_exec (s := s) c m
    refine ⟨fun free => ?_, fun busy => .of_eq (row.trans (recRow_busy awake busy)) rfl rfl⟩
    refine .of_eq (row.trans (recRow_free awake free)) rfl ⟨rfl, flag_mark_same _ _ _ (by decide) rfl, ?_, ?_⟩
    · rw [get_mark_apart _ _ _ _ (by decide) (by decide)]
      exact get_put_val _ (by decide) k.isLt
    · simp
  · intro k asleep c m
    simp only [List.mem_cons, List.not_mem_nil, or_false] at m
    obtain rfl | rfl | rfl | rfl | rfl | rfl | rfl := m <;> exact .of_eq (recRow_asleep asleep) rfl rfl
  · intro a awake runs
    obtain ⟨drl, busy, done, pending, -⟩ := recEnd_spec (r := recOutcome { s with drl := { s.drl with act := none } } a)
    exact .of_next (recordActionDone_runs awake runs) ⟨idle_of_drl (recOutcome_idle rfl) drl, busy, done, pending⟩
  · intro idle
    refine .of_eq (t := s) ?_ rfl rfl
    show execRecordActionDone s = _
    unfold execRecordActionDone
    obtain asleep | none := idle
    · split
      · rfl
      · exact if_neg (by simp [asleep])
    · rw [none]
  · intro k e small awake runs free
    have outcome : recOutcome { s with drl := { s.drl with act := none } } ⟨4, k, e⟩ = (slotErase { s with drl := { s.drl with act := none } } k, 0) := by
      show doErase _ k = _
      unfold doErase
      exact if_neg (by rw [Bool.not_eq_true]; exact free)
    obtain ⟨state, recs, kept⟩ := slotErase_spec (s := { s with drl := { s.drl with act := none } }) (k := k)
    obtain ⟨drl, busy, done, pending, err, shown, -⟩ := recEnd_spec (r := (slotErase { s with drl := { s.drl with act := none } } k, 0))
    refine .of_eq (recordActionDone_runs awake runs) (congrArg recEnd outcome) ⟨?_, ?_, ?_, busy, done, err (by simp), ?_⟩
    · refine (shown.get ?_).trans state
      simp only [sourceRegs, A.INT_SRCs, A.INT_Gg_EDGE_LO, A.INT_Gg_COAL_LO, A.DRL_SLOTs_ST, A.DRL_RECCTL, List.mem_cons, List.not_mem_nil, or_false]
      omega
    · rwa [drl]
    · exact idle_of_drl (slotErase_idle rfl) drl
    · refine recEnd_taken (kept.pair ?_ ?_) <;> simp <;> grind
  · intro k e awake runs empty
    have outcome : recOutcome { s with drl := { s.drl with act := none } } ⟨3, k, e⟩ = ({ s with drl := { s.drl with act := none } }, 2) := by
      show doExport _ k = _
      unfold doExport
      exact if_pos (congrArg List.length empty)
    obtain ⟨drl, busy, done, pending, err, shown, only⟩ := recEnd_spec (r := ({ s with drl := { s.drl with act := none } }, 2))
    refine .of_eq (recordActionDone_runs awake runs) (congrArg recEnd outcome) ⟨only, busy, done, err (by simp), recEnd_taken rfl, shown⟩
  · intro k awake may
    have runs : ∀ b, exec (.slotArm k b) s = .next (slotArm s k b) := fun b => by
      show execSlotArm k b s = _
      unfold execSlotArm
      dsimp only
      rw [if_neg (by simp [may]), if_pos awake]
    exact ⟨fun loaded => .of_next (runs true) (slotArm_loaded loaded), fun armed => .of_next (runs false) (slotArm_disarms armed),
      fun other => .of_next (runs true) (slotArm_other other)⟩
  · intro k b may sentry
    have asleep : s.awake = false := by
      cases e : s.awake with
      | false => rfl
      | true => exact absurd sentry (not_sentry_of_awake e)
    refine ⟨fun held => .of_next (t := heldArm s k b) ?_ heldArm_spec, fun none => .of_eq (t := s) ?_ rfl rfl⟩
    · show execSlotArm k b s = _
      unfold execSlotArm
      dsimp only
      rw [if_neg (by simp [may]), if_neg (by simp [asleep]), if_pos ⟨sentry, held⟩]
    · show execSlotArm k b s = _
      unfold execSlotArm
      dsimp only
      rw [if_neg (by simp [may]), if_neg (by simp [asleep]), if_neg (by simp [none])]
  · intro k b held stop
    refine .of_eq (t := s) ?_ rfl rfl
    show execSlotArm k b s = _
    simp [execSlotArm, held, stop]
  · intro k verifying awake runs
    have row := seedVerifyDone_runs verifying awake runs
    obtain ⟨st, cfg, apart, -⟩ := @slotWords_apart k.val
    refine ⟨fun signed => .of_eq row (if_pos signed) ?_, fun bad => .of_eq row (if_neg (by simp [bad])) ⟨?_, ?_, ?_⟩⟩
    · have class_ : slotClass (s.put (F.DRL_SLOTs_ST_STATE k) SL_ARMED) k CL_STOP = slotClass s k CL_STOP := bitOf_put_apart s (by simp) (.inl apart)
      rw [class_]
      have state : (s.put (F.DRL_SLOTs_ST_STATE k) SL_ARMED).get (F.DRL_SLOTs_ST_STATE k) = SL_ARMED := get_put_val s (by simp) (show SL_ARMED < 8 by decide)
      refine ⟨(slot_netFollow st).1.trans ?_, fun stop => ?_⟩
      · split <;> exact state
      · rw [if_pos stop, (netFollow_keeps).saf rfl]
        simp
    · refine (slot_netFollow st).1.trans ?_
      rw [get_mark_apart _ _ _ _ (by simp) (.inl apart.symm)]
      exact get_put_val _ (by simp) (show SL_FAILED < 8 by decide)
    · exact (slot_netFollow cfg).2.trans (flag_mark_same _ _ _ (by simp) rfl)
    · rw [(netFollow_keeps).saf rfl, State.mark_saf, State.put_saf]
  · intro k idle
    refine .of_eq (t := s) ?_ rfl rfl
    show execSeedVerifyDone k s = _
    unfold execSeedVerifyDone
    exact if_neg fun ⟨a, b, c⟩ => by obtain e | e | e := idle <;> simp_all
end

section
/-! PROOFS. Frames and blocks of the swath and of the short swath (O23). -/

namespace Sys2Proof.Machine

section

variable {s t u : State} {j k n : Nat}

/-! ## What a frame may change -/

/-- Beside its registers a frame writes the strips, the swath's bytes, its wake marks, the routes and the free values. -/
def FrameOnly (s t : State) : Prop := ∃ regs strip mem marks route free,
  t = { s with regs := regs, swa := { s.swa with strip := strip, mem := mem, marks := marks }, flt := { s.flt with route := route }, free := free }

theorem FrameOnly.rfl : FrameOnly s s := ⟨_, _, _, _, _, _, Eq.refl s⟩

theorem FrameOnly.trans (h : FrameOnly s t) (k : FrameOnly t u) : FrameOnly s u := by
  obtain ⟨_, _, _, _, _, _, rfl⟩ := h
  obtain ⟨_, _, _, _, _, _, rfl⟩ := k
  exact ⟨_, _, _, _, _, _, Eq.refl _⟩

theorem FrameOnly.forEach {α : Type} {l : List α} {f : State → α → State} (h : ∀ s a, FrameOnly s (f s a)) : FrameOnly s (forEach l f s) := by
  unfold Machine.forEach
  induction l generalizing s with
  | nil => exact FrameOnly.rfl
  | cons a l ih => exact (h s a).trans ih

theorem FrameOnly.of_regs (h : OnlyRegs s t) : FrameOnly s t := ⟨t.regs, _, _, _, _, _, h⟩

theorem FrameOnly.regs (h : FrameOnly s t) (k : OnlyRegs t u) : FrameOnly s u := h.trans (.of_regs k)

theorem FrameOnly.setStrip {v : StripSt} : FrameOnly s (s.setStrip k v) := ⟨_, _, _, _, _, _, Eq.refl _⟩

theorem FrameOnly.setRoute {v : RouteSt} : FrameOnly s (s.setRoute k v) := ⟨_, _, _, _, _, _, Eq.refl _⟩

theorem FrameOnly.mem {m : List Host.Cell} : FrameOnly s { s with swa := { s.swa with mem := m } } := ⟨_, _, _, _, _, _, Eq.refl _⟩

theorem FrameOnly.ite {c : Prop} [Decidable c] (h : FrameOnly s t) (k : FrameOnly s u) : FrameOnly s (if c then t else u) := by
  split
  · exact h
  · exact k

theorem stripRetire_frame {x : Nat} : FrameOnly s (stripRetire s k x) := by
  unfold stripRetire
  extract_lets st n s1 s2
  have h1 : FrameOnly s s1 := .setStrip
  have h2 : FrameOnly s s2 := h1.trans (.of_regs (by simp [s2]))
  exact .ite (.ite h2 (h2.trans (.of_regs (by simp)))) (.ite h1 (h1.trans (.of_regs (by simp))))

/-- A block that starts, before its registers and its header's bytes. -/
theorem blockStart_frame : FrameOnly s (blockStart s k) := by
  unfold blockStart
  extract_lets st sc nblk idx wraps s1 st1 tags wake old s2 next s3 s4 s5 old5
  have h1 : FrameOnly s s1 := by
    simp only [s1]
    split
    · exact stripRetire_frame
    · exact FrameOnly.rfl
  have h2 : FrameOnly s1 s2 := ⟨_, _, _, _, _, _, Eq.refl _⟩
  have h3 : FrameOnly s2 s3 := .setStrip
  have h4 : FrameOnly s3 s4 := .of_regs (by simp [s4])
  have h5 : FrameOnly s4 s5 := .ite (.of_regs (by simp)) .rfl
  exact ((((h1.trans h2).trans h3).trans h4).trans h5).trans .mem

theorem blockFinish_frame {b : BlockSt} : FrameOnly s (blockFinish s k b) := by
  unfold blockFinish
  extract_lets a x s1 h crc old s2
  have h1 : FrameOnly s s1 := by
    simp only [s1, x]
    split
    · exact FrameOnly.rfl
    · exact ⟨_, _, _, _, _, _, Eq.refl _⟩
  exact (h1.trans .mem).trans .setStrip

theorem stripFrame_frame : FrameOnly s (stripFrame s k) := by
  unfold stripFrame
  split
  · exact FrameOnly.rfl
  · next b _ =>
    extract_lets w n first a words mem mask b' old s1 old2 s2 s3
    have h2 : FrameOnly s s2 := (FrameOnly.mem (m := mem)).trans .setStrip
    have h3 : FrameOnly s s3 := h2.regs (by simp [s3])
    exact .ite (h3.trans blockFinish_frame) h3

theorem slotDone_frame : FrameOnly s (slotDone s k) := .ite .setRoute .rfl

theorem lagging_frame {v : StripSt} : FrameOnly s ((s.setStrip k v).event 51) := (FrameOnly.setStrip).regs ((onlyRegs_event).mpr rfl)

theorem stripCounts_frame : FrameOnly s (stripCounts s k) := by
  unfold stripCounts
  extract_lets s1 lag ring s2
  have h1 : FrameOnly s s1 := .of_regs (by simp [s1])
  have h2 : FrameOnly s s2 := h1.trans (.of_regs (by simp [s2]))
  clear_value s2 s1
  exact .ite (.ite (.ite h2 (h2.trans lagging_frame)) (.ite (h2.trans .setStrip) h2)) h1

theorem prerollReady_frame : FrameOnly s (prerollReady s) := by
  unfold prerollReady
  exact .ite .rfl (.ite (.of_regs (by simp)) .rfl)

/-! ## The counters of frames, and the strips -/

/-- A register of the swath's frame counter, or of a strip's settings, place or count of produced frames. -/
def FrameCount (a : Nat) : Prop := a = A.SWA_SC_LO ∨ a = A.SWA_SC_LO + 4 ∨
  ∃ i < 8, a = A.SWA_STs_PROD_LO i ∨ a = A.SWA_STs_PROD_LO i + 4 ∨ a = A.SWA_STs_CFG i ∨ a = A.SWA_STs_BASE i

theorem count_outside : ∀ a, FrameCount a → a ∉ sourceRegs n := fun a h m => by
  simp only [sourceRegs, A.INT_SRCs, A.INT_Gg_EDGE_LO, A.INT_Gg_COAL_LO, List.mem_cons, List.not_mem_nil, or_false] at m
  obtain h | h | ⟨i, small, h | h | h | h⟩ := h <;> simp only [A.SWA_SC_LO, A.SWA_STs_PROD_LO, A.SWA_STs_CFG, A.SWA_STs_BASE] at h <;> omega

theorem count_event : Stands FrameCount s (s.event n) := .of_kept (event_kept s n) count_outside

/-- The words of a strip beside its count of produced frames. -/
theorem count_apart {a c : Nat} (strip : a = 0x070100 + 0x80 * k + c) (here : c < 0x80) (other : c ≠ 0x30 ∧ c ≠ 0x34 ∧ c ≠ 0 ∧ c ≠ 4) : ¬ FrameCount a := by
  rintro (h | h | ⟨i, -, h | h | h | h⟩) <;> simp only [A.SWA_SC_LO, A.SWA_STs_PROD_LO, A.SWA_STs_CFG, A.SWA_STs_BASE] at h <;> omega

theorem count_pair {lo c v : Nat} (strip : lo = 0x070100 + 0x80 * k + c) (here : c + 4 < 0x80) (other : c ≠ 0x2C ∧ c ≠ 0x30 ∧ c ≠ 0x34 ∧ c ≠ 0 ∧ c ≠ 4) :
    Stands FrameCount s (s.setPair lo v) := .of_kept (setPair_kept s lo v) fun a h m => by
  obtain rfl | m := List.mem_cons.mp m
  · exact count_apart (k := k) strip (by omega) other.2 h
  · rw [List.mem_singleton.mp m] at h
    exact count_apart (k := k) (c := c + 4) (by omega) here (by omega) h

theorem stripRetire_count {x : Nat} : Stands FrameCount s (stripRetire s k x) := by
  unfold stripRetire
  extract_lets st n s1 s2
  have h1 : Stands FrameCount s s1 := Stands.rfl.parts rfl
  have h2 : Stands FrameCount s s2 := h1.trans (count_pair (k := k) (c := 0x20) (by grind) (by decide) (by decide))
  exact .ite (.ite h2 ((h2.trans (count_pair (k := k) (c := 0x50) (by grind) (by decide) (by decide))).trans count_event))
    (.ite h1 (h1.trans (count_pair (k := k) (c := 0x40) (by grind) (by decide) (by decide))))

theorem blockStart_count : Stands FrameCount s (blockStart s k) := by
  unfold blockStart
  extract_lets st sc nblk idx wraps s1 st1 tags wake old s2 next s3 s4 s5 old5
  have h1 : Stands FrameCount s s1 := by
    simp only [s1]
    split
    · exact stripRetire_count
    · exact Stands.rfl
  have h3 : Stands FrameCount s1 s3 := Stands.rfl.parts rfl
  have h4 : Stands FrameCount s3 s4 := Stands.put (count_apart (k := k) (c := 0xC) (by grind) (by decide) (by decide))
  have h5 : Stands FrameCount s4 s5 := .ite (Stands.mark (count_apart (k := k) (c := 0xC) (by grind) (by decide) (by decide))) Stands.rfl
  exact (((h1.trans h3).trans h4).trans h5).parts rfl

/-- The counts of a strip write PEND and LAG, and an event the words of source 51. -/
theorem stripCounts_stands_of {p : Nat → Prop} (pend : ¬ p (A.SWA_STs_PEND k)) (lag : ¬ p (A.SWA_STs_LAG k)) (event : ∀ a, p a → a ∉ sourceRegs 51) :
    Stands p s (stripCounts s k) := by
  unfold stripCounts
  extract_lets s1 lag' ring s2
  have h1 : Stands p s s1 := Stands.put pend
  have h2 : Stands p s s2 := h1.trans (Stands.put lag)
  clear_value s2 s1
  have set : ∀ v, Stands p s (s2.setStrip k v) := fun v => h2.parts rfl
  exact .ite (.ite (.ite h2 ((set _).trans (.of_kept (event_kept _ 51) event))) (.ite (set _) h2)) h1

theorem stripCounts_count : Stands FrameCount s (stripCounts s k) :=
  stripCounts_stands_of (count_apart (k := k) (c := 0x18) (by grind) (by decide) (by decide))
    (count_apart (k := k) (c := 0x1C) (by grind) (by decide) (by decide)) count_outside

theorem stripCounts_head (small : k < 8) : Stands (· = A.SWA_STs_HEAD k) s (stripCounts s k) :=
  stripCounts_stands_of (by simp only [A.SWA_STs_PEND, A.SWA_STs_HEAD]; omega) (by simp only [A.SWA_STs_LAG, A.SWA_STs_HEAD]; omega) fun a h m => by
    obtain rfl : a = A.SWA_STs_HEAD k := h
    simp only [sourceRegs, A.INT_SRCs, A.INT_Gg_EDGE_LO, A.INT_Gg_COAL_LO, List.mem_cons, List.not_mem_nil, or_false, A.SWA_STs_HEAD] at m
    omega

theorem prerollReady_count : Stands FrameCount s (prerollReady s) := by
  unfold prerollReady
  refine .ite Stands.rfl (.ite (Stands.trans (Stands.mark ?_) count_event) Stands.rfl)
  rintro (h | h | ⟨i, -, h | h | h | h⟩) <;> simp only [A.SWA_SC_LO, A.SWA_STs_PROD_LO, A.SWA_STs_CFG, A.SWA_STs_BASE, A.SWA_ST] at h <;> omega

theorem blockFinish_regs {b : BlockSt} : (blockFinish s k b).regs = s.regs := by
  unfold blockFinish
  extract_lets a x s1 h crc old s2
  have h1 : s1.regs = s.regs := by
    simp only [s1, x]
    split <;> rfl
  exact h1

theorem slotDone_regs : (slotDone s k).regs = s.regs := by
  unfold slotDone
  dsimp only
  split <;> rfl

/-- A strip's frame leaves SC, and the other strips' counts. -/
theorem stripFrame_count : Stands (fun a => FrameCount a ∧ a ≠ A.SWA_STs_PROD_LO k ∧ a ≠ A.SWA_STs_PROD_LO k + 4) s (stripFrame s k) := by
  unfold stripFrame
  split
  · exact Stands.rfl
  · next b _ =>
    extract_lets w n first a words mem mask b' old s1 old2 s2 s3
    have h2 : Stands (fun a => FrameCount a ∧ a ≠ A.SWA_STs_PROD_LO k ∧ a ≠ A.SWA_STs_PROD_LO k + 4) s s2 := Stands.rfl.parts rfl
    have h3 := h2.trans (Stands.of_kept (bump64_kept s2 (A.SWA_STs_PROD_LO k) 1) fun a h m => by
      simp only [List.mem_cons, List.not_mem_nil, or_false] at m
      obtain ⟨-, lo, hi⟩ := h
      exact m.elim lo hi)
    exact .ite (h3.parts blockFinish_regs) h3

/-! ## One strip's block -/

/-- Every strip but `k` stands, and their number. -/
def OthersStand (k : Nat) (s t : State) : Prop := t.swa.strip.length = s.swa.strip.length ∧ ∀ j, j ≠ k → t.strip j = s.strip j

theorem swa_of_regs (h : OnlyRegs s t) : t.swa = s.swa := by
  rw [show t = { s with regs := t.regs } from h]

theorem OthersStand.of_regs (h : OnlyRegs s t) : OthersStand k s t := by
  have e := swa_of_regs h
  exact ⟨by rw [e], fun j _ => by rw [State.strip, e, State.strip]⟩

theorem OthersStand.rfl : OthersStand k s s := ⟨Eq.refl _, fun _ _ => Eq.refl _⟩

theorem OthersStand.trans (h : OthersStand k s t) (l : OthersStand k t u) : OthersStand k s u :=
  ⟨(l.1).trans h.1, fun j other => (l.2 j other).trans (h.2 j other)⟩

theorem OthersStand.of_strips (e : t.swa.strip = s.swa.strip) : OthersStand k s t :=
  ⟨by rw [e], fun j _ => by rw [State.strip, e, State.strip]⟩

theorem OthersStand.setStrip {v : StripSt} : OthersStand k s (s.setStrip k v) :=
  ⟨by simp [State.setStrip, setNth], fun _ other => nth_setNth_other fun e => other e.symm⟩

theorem OthersStand.ite {c : Prop} [Decidable c] (h : OthersStand k s t) (l : OthersStand k s u) : OthersStand k s (if c then t else u) := by
  split
  · exact h
  · exact l

theorem strip_setStrip {v : StripSt} (h : k < s.swa.strip.length) : (s.setStrip k v).strip k = v := nth_setNth_same h

theorem strip_of_regs (h : OnlyRegs s t) : t.strip j = s.strip j := by
  have e := swa_of_regs h
  rw [State.strip, e, State.strip]

theorem lagging_others {v : StripSt} : OthersStand k s ((s.setStrip k v).event 51) :=
  (OthersStand.setStrip).trans (.of_regs ((onlyRegs_event).mpr rfl))

theorem stripRetire_others {x : Nat} : OthersStand k s (stripRetire s k x) := by
  unfold stripRetire
  extract_lets st n s1 s2
  have h1 : OthersStand k s s1 := .setStrip
  have h2 : OthersStand k s s2 := h1.trans (.of_regs (by simp [s2]))
  exact .ite (.ite h2 (h2.trans (.of_regs (by simp)))) (.ite h1 (h1.trans (.of_regs (by simp))))

theorem blockStart_others : OthersStand k s (blockStart s k) := by
  unfold blockStart
  extract_lets st sc nblk idx wraps s1 st1 tags wake old s2 next s3 s4 s5 old5
  have h1 : OthersStand k s s1 := by
    simp only [s1]
    split
    · exact stripRetire_others
    · exact OthersStand.rfl
  have h2 : OthersStand k s1 s2 := .of_strips rfl
  have h3 : OthersStand k s2 s3 := .setStrip
  have h4 : OthersStand k s3 s4 := .of_regs (by simp [s4])
  have h5 : OthersStand k s4 s5 := .ite (.of_regs (by simp)) .rfl
  have h6 : OthersStand k s5 { s5 with swa := { s5.swa with mem := sparseClear s5.swa.mem (stripBase s5 k + idx * stripB s5 k) (stripBase s5 k + idx * stripB s5 k + 64) } } := .of_strips rfl
  exact ((((h1.trans h2).trans h3).trans h4).trans h5).trans h6

theorem blockFinish_others {b : BlockSt} : OthersStand k s (blockFinish s k b) := by
  unfold blockFinish
  extract_lets a x s1 h crc old s2
  have h1 : s1.swa.strip = s.swa.strip := by
    simp only [s1, x]
    split <;> rfl
  exact (OthersStand.of_strips (t := s2) h1).trans .setStrip

theorem strip_cleared {m : List Host.Cell} (h : t.swa.strip = s.swa.strip) (len : k < s.swa.strip.length) :
    (State.setStrip { t with swa := { t.swa with mem := m } } k { t.strip k with cur := none }).strip k = { s.strip k with cur := none } := by
  have e : t.strip k = s.strip k := by rw [State.strip, h, State.strip]
  have l : k < t.swa.strip.length := by rw [h]; exact len
  generalize t.strip k = v at e
  subst e
  exact nth_setNth_same l

theorem blockFinish_strip {b : BlockSt} (len : k < s.swa.strip.length) : (blockFinish s k b).strip k = { s.strip k with cur := none } := by
  unfold blockFinish
  extract_lets a x s1 h crc
  have h1 : s1.swa.strip = s.swa.strip := by
    simp only [s1, x]
    split <;> rfl
  clear_value crc h s1
  exact strip_cleared h1 len

theorem stripFrame_others : OthersStand k s (stripFrame s k) := by
  unfold stripFrame
  split
  · exact OthersStand.rfl
  · next b _ =>
    extract_lets w n first a words mem mask b' old s1 old2 s2 s3
    have h1 : OthersStand k s s1 := .of_strips rfl
    have h2 : OthersStand k s s2 := h1.trans .setStrip
    have h3 : OthersStand k s s3 := h2.trans (.of_regs (by simp [s3]))
    exact .ite (h3.trans blockFinish_others) h3

theorem stripCounts_others : OthersStand k s (stripCounts s k) := by
  unfold stripCounts
  extract_lets s1 lag ring s2
  have h1 : OthersStand k s s1 := .of_regs (by simp [s1])
  have h2 : OthersStand k s s2 := h1.trans (.of_regs (by simp [s2]))
  clear_value s2 s1
  exact .ite (.ite (.ite h2 (h2.trans lagging_others)) (.ite (h2.trans .setStrip) h2)) h1

/-- The block in progress, the tags and the marks due of a strip. -/
def BlockKept (k : Nat) (s t : State) : Prop := (t.strip k).cur = (s.strip k).cur ∧ (t.strip k).tags = (s.strip k).tags ∧
  (t.strip k).gap = (s.strip k).gap ∧ (t.strip k).sync = (s.strip k).sync

theorem BlockKept.of_strip (h : t.strip k = s.strip k) : BlockKept k s t := by
  rw [BlockKept, h]
  exact ⟨rfl, rfl, rfl, rfl⟩

theorem BlockKept.rfl : BlockKept k s s := .of_strip (Eq.refl _)

theorem BlockKept.of_regs (h : OnlyRegs s t) : BlockKept k s t := .of_strip (strip_of_regs h)

theorem BlockKept.trans (h : BlockKept k s t) (l : BlockKept k t u) : BlockKept k s u := by
  obtain ⟨h1, h2, h3, h4⟩ := h
  obtain ⟨l1, l2, l3, l4⟩ := l
  exact ⟨l1.trans h1, l2.trans h2, l3.trans h3, l4.trans h4⟩

theorem BlockKept.ite {c : Prop} [Decidable c] (h : BlockKept k s t) (l : BlockKept k s u) : BlockKept k s (if c then t else u) := by
  split
  · exact h
  · exact l

theorem BlockKept.setStrip {v : StripSt} (len : k < s.swa.strip.length)
    (h : v.cur = (s.strip k).cur ∧ v.tags = (s.strip k).tags ∧ v.gap = (s.strip k).gap ∧ v.sync = (s.strip k).sync) : BlockKept k s (s.setStrip k v) := by
  rw [BlockKept, strip_setStrip len]
  exact h

theorem stripRetire_block {x : Nat} (len : k < s.swa.strip.length) : BlockKept k s (stripRetire s k x) := by
  unfold stripRetire
  extract_lets st n s1 s2
  have h1 : BlockKept k s s1 := .setStrip len ⟨rfl, rfl, rfl, rfl⟩
  have h2 : BlockKept k s s2 := h1.trans (.of_regs (by simp [s2]))
  exact .ite (.ite h2 (h2.trans (.of_regs (by simp)))) (.ite h1 (h1.trans (.of_regs (by simp))))

theorem lagged_block {b : Bool} (len : k < s.swa.strip.length) : BlockKept k s (s.setStrip k { s.strip k with lagged := b }) :=
  .setStrip len ⟨rfl, rfl, rfl, rfl⟩

theorem lagging_block (len : k < s.swa.strip.length) : BlockKept k s ((s.setStrip k { s.strip k with lagged := true }).event 51) :=
  (lagged_block len).trans (.of_regs ((onlyRegs_event).mpr rfl))

theorem stripCounts_block (len : k < s.swa.strip.length) : BlockKept k s (stripCounts s k) := by
  unfold stripCounts
  extract_lets s1 lag ring s2
  have h1 : OnlyRegs s s1 := by simp [s1]
  have h2 : OnlyRegs s1 s2 := by simp [s2]
  have e1 := swa_of_regs h1
  have e2 := swa_of_regs h2
  clear_value s2 s1
  have b2 : BlockKept k s s2 := (BlockKept.of_regs h1).trans (.of_regs h2)
  have len2 : k < s2.swa.strip.length := by rw [e2, e1]; exact len
  exact .ite (.ite (.ite b2 (b2.trans (lagging_block len2))) (.ite (b2.trans (lagged_block len2)) b2)) (.of_regs h1)

theorem stripRetire_swa {x : Nat} : (stripRetire s k x).swa = { s.swa with strip := (stripRetire s k x).swa.strip } := by
  unfold stripRetire
  extract_lets st n s1 s2
  have h1 : s1.swa = { s.swa with strip := s1.swa.strip } := rfl
  have h2 : s2.swa = s1.swa := rfl
  clear_value s2 s1
  split <;> split
  · rw [h2, h1]
  · rw [State.event_swa, State.bump64_swa, h2, h1]
  · exact h1
  · rw [State.bump64_swa, h1]

/-- Where a strip's blocks stand depends on its settings alone. -/
theorem stripPlace_of (small : k < 8) (h : Stands FrameCount s t) : stripBase t k = stripBase s k ∧ stripB t k = stripB s k := by
  have cfg : FrameCount (A.SWA_STs_CFG k) := .inr (.inr ⟨k, small, .inr (.inr (.inl rfl))⟩)
  have base : FrameCount (A.SWA_STs_BASE k) := .inr (.inr ⟨k, small, .inr (.inr (.inr rfl))⟩)
  rw [stripBase, stripBase, stripB, stripB, stripWidth, stripWidth, stripSlots, stripSlots, h.get base, h.get cfg, h.get cfg]
  exact ⟨rfl, rfl⟩

/-- A block that starts on a strip: its tag, its marks and the strip's. -/
theorem blockStart_spec (small : k < 8) (len : k < s.swa.strip.length) :
    ((blockStart s k).strip k).tags = ((s.strip k).next.getD 0, swathSC s) :: (s.strip k).tags.filter (fun e => decide (e.1 ≠ (s.strip k).next.getD 0)) ∧
    ((blockStart s k).strip k).cur = some ⟨(s.strip k).next.getD 0, swathSC s, 0, (s.strip k).gap, (s.strip k).sync,
      s.swa.marks.any (fun m => decide (swathSC s ≤ m) && decide (m < swathSC s + 256)), false, 0, 0, 0, 0, 0⟩ ∧
    ((blockStart s k).strip k).gap = false ∧ ((blockStart s k).strip k).sync = false ∧
    (blockStart s k).get (F.SWA_STs_HEAD_HEAD k) = (s.strip k).next.getD 0 % 2 ^ 16 ∧
    ∀ a, memGet (blockStart s k).swa.mem a = if stripBase s k + (s.strip k).next.getD 0 * stripB s k ≤ a ∧
      a < stripBase s k + (s.strip k).next.getD 0 * stripB s k + 64 then 0 else memGet s.swa.mem a := by
  unfold blockStart
  extract_lets st sc nblk idx wraps s1 st1 tags wake old s2 next s3 s4 s5 old5
  have hb : BlockKept k s s1 := by
    simp only [s1]
    split
    · exact stripRetire_block len
    · exact BlockKept.rfl
  have hf : FrameOnly s s1 := by
    simp only [s1]
    split
    · exact stripRetire_frame
    · exact FrameOnly.rfl
  have hr : Stands FrameCount s s1 := by
    simp only [s1]
    split
    · exact stripRetire_count
    · exact Stands.rfl
  have len1 : k < s1.swa.strip.length := by
    have ho : OthersStand k s s1 := by
      simp only [s1]
      split
      · exact stripRetire_others
      · exact OthersStand.rfl
    rw [ho.1]
    exact len
  have marks : s1.swa.marks = s.swa.marks := by
    simp only [s1]
    split
    · rw [stripRetire_swa]
    · rfl
  have mem : s1.swa.mem = s.swa.mem := by
    simp only [s1]
    split
    · rw [stripRetire_swa]
    · rfl
  obtain ⟨-, htags, hgap, hsync⟩ := hb
  have base : stripBase s1 k = stripBase s k ∧ stripB s1 k = stripB s k := stripPlace_of (k := k) small hr
  clear_value s1
  have r3 : OnlyRegs s3 s4 := by simp [s4]
  have r4 : OnlyRegs s4 s5 := by
    simp only [s5]
    split <;> simp
  have c4 : Stands FrameCount s1 s5 := by
    have c3 : Stands FrameCount s1 s3 := Stands.rfl.parts rfl
    have c4 : Stands FrameCount s3 s4 := Stands.put (count_apart (k := k) (c := 0xC) (by grind) (by decide) (by decide))
    exact (c3.trans c4).trans (.ite (Stands.mark (count_apart (k := k) (c := 0xC) (by grind) (by decide) (by decide))) Stands.rfl)
  have e5 : s5.swa = s3.swa := (swa_of_regs r4).trans (swa_of_regs r3)
  have place := stripPlace_of (k := k) small c4
  have head : s5.get (F.SWA_STs_HEAD_HEAD k) = idx % 2 ^ 16 := by
    have h4 : s4.get (F.SWA_STs_HEAD_HEAD k) = idx % 2 ^ 16 := get_put_same _ _ _ (show 0 + 16 ≤ 32 by decide)
    simp only [s5]
    split
    · rw [get_mark_apart _ _ _ _ (show 16 + 1 ≤ 32 by decide) (Or.inr (Or.inl (show 0 + 16 ≤ 16 by decide))), h4]
    · exact h4
  have strip : s3.strip k = { st1 with cur := some ⟨idx, sc, 0, st1.gap, st1.sync, wake, false, 0, 0, 0, 0, 0⟩, tags := tags, next := next, gap := false, sync := false } :=
    strip_setStrip (s := s2) len1
  have mem3 : s3.swa.mem = s.swa.mem := mem
  clear_value s5 s4 s3
  have strip5 : s5.strip k = s3.strip k := by rw [State.strip, e5, State.strip]
  have final : ∀ m, State.strip { s5 with swa := { s5.swa with mem := m } } k = s3.strip k := fun _ => strip5
  rw [final, strip]
  refine ⟨?_, ?_, rfl, rfl, head, fun a => ?_⟩
  · show tags = _
    simp only [tags, idx, sc, st]
    rw [htags]
  · show some _ = some _
    simp only [idx, sc, st, wake]
    rw [hgap, hsync, marks]
  · rw [place.1, place.2, base.1, base.2, e5, mem3, memGet, sparseGet_clear]
    split <;> rfl

/-- A frame of a block that it does not complete. -/
theorem stripFrame_goes {b : BlockSt} (len : k < s.swa.strip.length) (cur : (s.strip k).cur = some b) (short : b.frames + 1 ≠ 256) :
    (∃ b', ((stripFrame s k).strip k).cur = some b' ∧ b'.frames = b.frames + 1 ∧ b'.stamp = b.stamp ∧ b'.idx = b.idx) ∧
    ((stripFrame s k).strip k).tags = (s.strip k).tags ∧
    (stripFrame s k).pair (A.SWA_STs_PROD_LO k) = (s.pair (A.SWA_STs_PROD_LO k) + 1) % 2 ^ 64 := by
  unfold stripFrame
  split
  · next off => rw [cur] at off; cases off
  next c on =>
  obtain rfl : b = c := by rw [cur] at on; exact Option.some.inj on
  extract_lets w n first a words mem mask b' old s1 old2 s2 s3 s4
  have e4 : s4 = s3 := if_neg short
  clear_value s4
  subst e4
  have e : s3.strip k = { s1.strip k with cur := some b', owed := owedAdd (s1.strip k).owed b.stamp } := by
    rw [strip_of_regs (s := s2) (by simp [s3])]
    exact strip_setStrip len
  exact ⟨⟨b', by rw [e], rfl, rfl, rfl⟩, by rw [e]; rfl, pair_bump64_same s2 _ 1⟩

/-- The last frame of a block completes it. -/
theorem stripFrame_ends {b : BlockSt} (len : k < s.swa.strip.length) (cur : (s.strip k).cur = some b) (last : b.frames + 1 = 256) :
    ((stripFrame s k).strip k).cur = none ∧ ((stripFrame s k).strip k).tags = (s.strip k).tags ∧
    (stripFrame s k).pair (A.SWA_STs_PROD_LO k) = (s.pair (A.SWA_STs_PROD_LO k) + 1) % 2 ^ 64 := by
  unfold stripFrame
  split
  · next off => rw [cur] at off; cases off
  next c on =>
  obtain rfl : b = c := by rw [cur] at on; exact Option.some.inj on
  extract_lets w n first a words mem mask b' old s1 old2 s2 s3 s4
  have e4 : s4 = blockFinish s3 k b' := if_pos last
  clear_value s4
  subst e4
  have l3 : k < s3.swa.strip.length := by
    have h2 : OthersStand k s2 s3 := .of_regs (by simp [s3])
    have h1 : OthersStand k s1 s2 := .setStrip
    rw [h2.1, h1.1]
    exact len
  have e : s3.strip k = { s1.strip k with cur := some b', owed := owedAdd (s1.strip k).owed b.stamp } := by
    rw [strip_of_regs (s := s2) (by simp [s3])]
    exact strip_setStrip len
  have f : (blockFinish s3 k b').strip k = { s3.strip k with cur := none } := blockFinish_strip l3
  rw [f, e]
  refine ⟨rfl, rfl, ?_⟩
  rw [pair_of_rd (s := s3) (by rw [State.rd, blockFinish_regs, State.rd]) (by rw [State.rd, blockFinish_regs, State.rd])]
  exact pair_bump64_same s2 _ 1

/-! ## The bytes of a frame -/

/-- A field of bits written changes bytes of its own place alone. -/
theorem memGet_memBits_other {m : List Host.Cell} {base off w v a : Nat} (h : a < base + off / 8 ∨ base + (off + w + 7) / 8 ≤ a) :
    memGet (memBits m base off w v) a = memGet m a := by
  unfold memBits
  exact memGet_memWrite_other _ _ _ _ (by rw [bytesOfLe_length]; omega)

theorem memGet_memBits_all {m : List Host.Cell} {base w a : Nat} {l : List Nat} {off v : Nat → Nat}
    (h : ∀ i ∈ l, a < base + off i / 8 ∨ base + (off i + w + 7) / 8 ≤ a) :
    memGet (forEach l (fun m i => memBits m base (off i) w (v i)) m) a = memGet m a := by
  unfold forEach
  induction l generalizing m with
  | nil => rfl
  | cons i l ih =>
    rw [List.foldl_cons, ih fun j hj => h j (List.mem_cons_of_mem _ hj), memGet_memBits_other (h i List.mem_cons_self)]

theorem memGet_lt {m : List Host.Cell} {a : Nat} : memGet m a < 256 := BitVec.isLt _

/-- A 16-bit sample written at a whole byte reads back. -/
theorem memRead_memBits_half {m : List Host.Cell} {base f v : Nat} (small : v < 2 ^ 16) :
    memRead (memBits m base (f * 16) 16 v) (base + 2 * f) 2 = bytesOfLe 2 v := by
  have read := memRead_memWrite_same (l := m) (a := base + 2 * f) (bytesOfLe_lt 2 v)
  rw [bytesOfLe_length] at read
  have place : base + f * 16 / 8 = base + 2 * f := by omega
  have offset : f * 16 % 8 = 0 := by omega
  have set : ∀ x < 2 ^ 16, setBits x 0 16 v = v := fun x hx => by
    simp only [setBits]
    omega
  have whole : leOfBytes (memRead m (base + 2 * f) 2) < 2 ^ 16 := by
    have h0 := memGet_lt (m := m) (a := base + 2 * f + 0)
    have h1 := memGet_lt (m := m) (a := base + 2 * f + 1)
    simp only [memRead, upto, show List.range 2 = [0, 1] by rfl, List.map_cons, List.map_nil, leOfBytes]
    omega
  rw [memBits, place, offset, set _ whole]
  exact read

/-- The bits of a strip's frame, as its block holds them. -/
def frameBits (s : State) (k : Nat) (b : BlockSt) : List Host.Cell :=
  forEach (upto (stripSlots s k)) (fun m i => memBits m (stripBase s k + b.idx * stripB s k + 64) ((b.frames * stripSlots s k + i) * stripWidth s k) (stripWidth s k)
    (storedSample (stripWidth s k) (nth ((upto (stripSlots s k)).map (fun i => slotWord s (s.get (F.SWA_STs_CFG_FIRST k) + i))) i 0))) s.swa.mem

theorem stripFrame_mem {b : BlockSt} (cur : (s.strip k).cur = some b) (short : b.frames + 1 ≠ 256) : (stripFrame s k).swa.mem = frameBits s k b := by
  unfold stripFrame
  split
  · next off => rw [cur] at off; cases off
  next c on =>
  obtain rfl : b = c := by rw [cur] at on; exact Option.some.inj on
  extract_lets w n first a words mem mask b' old s1 old2 s2 s3 s4
  have e4 : s4 = s3 := if_neg short
  clear_value s4
  subst e4
  rfl

/-- A frame's bits stand inside its block. -/
theorem frame_inside {f n i w : Nat} (short : f < 255) (slot : i < n) : ((f * n + i) * w + w + 7) / 8 ≤ 32 * w * n := by
  have rows : f * n + i + 1 ≤ 256 * n := by nlinarith
  have bits := Nat.mul_le_mul_right w rows
  have e : 256 * n * w = 8 * (32 * w * n) := by ring
  have l : (f * n + i) * w + w = (f * n + i + 1) * w := by ring
  omega

theorem frameBits_outside {b : BlockSt} {a : Nat} (short : b.frames < 255)
    (out : a < stripBase s k + b.idx * stripB s k + 64 ∨ stripBase s k + (b.idx + 1) * stripB s k ≤ a) :
    memGet (frameBits s k b) a = memGet s.swa.mem a := memGet_memBits_all (off := fun i => (b.frames * stripSlots s k + i) * stripWidth s k) fun i slot => by
  have inside := frame_inside (w := stripWidth s k) short (mem_upto slot)
  have size : stripB s k = 64 + 32 * stripWidth s k * stripSlots s k := rfl
  rw [Nat.add_mul, Nat.one_mul] at out
  exact out.imp (fun h => by omega) fun h => by omega

theorem storedSample_lt {w x : Nat} : storedSample w x < 2 ^ w := ofSigned_lt

theorem frameBits_sample {b : BlockSt} (fmt : s.get (F.SWA_STs_CFG_FMT k) = 0) (slots : stripSlots s k = 1) :
    memRead (frameBits s k b) (stripBase s k + b.idx * stripB s k + 64 + 2 * b.frames) 2 =
      bytesOfLe 2 (storedSample 16 (slotWord s (s.get (F.SWA_STs_CFG_FIRST k)))) := by
  have width : stripWidth s k = 16 := by rw [stripWidth, fmt]; rfl
  unfold frameBits
  rw [slots, width]
  have row : b.frames * 1 + 0 = b.frames := by omega
  simp only [upto, show List.range 1 = [0] by rfl, Machine.forEach, List.foldl_cons, List.foldl_nil, row]
  exact memRead_memBits_half storedSample_lt

/-! ## The swath's frame in steps -/

/-- A strip whose block is due starts it. -/
def startDue (s : State) (k : Nat) : State := if (s.strip k).cur.isNone && decide (swathSC s % 256 = 0) then blockStart s k else s

/-- SC advances, and the strips' counts and PRE_READY follow. -/
def frameTail (on : List Nat) (s : State) : State :=
  let s := s.setPair A.SWA_SC_LO (swathSC s + 1)
  let s := { s with swa := { s.swa with lastAt := s.time.hsck } }
  prerollReady (forEach on stripCounts s)

theorem swathFrame_eq : swathFrame s = frameTail ((upto 8).filter (stripOn s))
    (forEach (upto 96) slotDone (forEach ((upto 8).filter (stripOn s)) stripFrame (forEach ((upto 8).filter (stripOn s)) startDue s))) := by
  unfold swathFrame
  generalize (upto 8).filter (stripOn s) = on
  generalize upto 96 = slots
  rfl

theorem startDue_frame : FrameOnly s (startDue s k) := .ite blockStart_frame .rfl

theorem startDue_count : Stands FrameCount s (startDue s k) := .ite blockStart_count .rfl

theorem startDue_others : OthersStand k s (startDue s k) := .ite blockStart_others .rfl

theorem startDue_progress {b : BlockSt} (cur : (s.strip k).cur = some b) : startDue s k = s := by
  rw [startDue, cur]
  rfl

theorem slotDone_strip : (slotDone s j).swa = s.swa := by
  unfold slotDone
  dsimp only
  split <;> rfl

theorem slots_swa {l : List Nat} : (forEach l slotDone s).swa = s.swa := forEach_keeps State.swa l slotDone s fun _ _ => slotDone_strip

theorem stripCounts_mem : (stripCounts s k).swa.mem = s.swa.mem := by
  unfold stripCounts
  extract_lets s1 lag ring s2
  have h1 : s1.swa = s.swa := rfl
  have h2 : s2.swa = s1.swa := rfl
  clear_value s2 s1
  have set : ∀ v, (s2.setStrip k v).swa.mem = s.swa.mem := fun v => by rw [← h1, ← h2]; rfl
  have base : s2.swa.mem = s.swa.mem := by rw [h2, h1]
  split
  · split
    · split
      · exact base
      · rw [State.event_swa, set]
    · split
      · exact set _
      · exact base
  · rw [h1]

theorem prerollReady_regs : OnlyRegs s (prerollReady s) := by
  unfold prerollReady
  dsimp only
  split
  · exact Eq.refl s
  · split <;> simp [show OnlyRegs s s from Eq.refl s]

/-- The strips' number and one strip's block stand. -/
def StripKept (k : Nat) (s t : State) : Prop := t.swa.strip.length = s.swa.strip.length ∧ BlockKept k s t

theorem StripKept.rfl : StripKept k s s := ⟨Eq.refl _, .rfl⟩

theorem StripKept.trans (h : StripKept k s t) (l : StripKept k t u) : StripKept k s u := ⟨(l.1).trans h.1, (h.2).trans l.2⟩

theorem OthersStand.kept (h : OthersStand j s t) (other : k ≠ j) : StripKept k s t := ⟨h.1, .of_strip (h.2 k other)⟩

theorem stripCounts_kept (len : k < s.swa.strip.length) : StripKept k s (stripCounts s j) := by
  by_cases e : k = j
  · subst e
    exact ⟨stripCounts_others.1, stripCounts_block len⟩
  · exact (stripCounts_others).kept e

theorem counts_kept {l : List Nat} (len : k < s.swa.strip.length) : StripKept k s (forEach l stripCounts s) := by
  unfold forEach
  induction l generalizing s with
  | nil => exact .rfl
  | cons j l ih =>
    have one := stripCounts_kept (j := j) len
    exact one.trans (ih (by rw [one.1]; exact len))

/-- A loop over distinct strips serves one of them once. -/
theorem forEach_once {P Q : State → Prop} {f : State → Nat → State} {l : List Nat} (distinct : l.Nodup) (mem : k ∈ l) (start : P s)
    (before : ∀ s j, j ≠ k → P s → P (f s j)) (serve : ∀ s, P s → Q (f s k)) (after : ∀ s j, j ≠ k → Q s → Q (f s j)) : Q (forEach l f s) := by
  unfold forEach
  induction l generalizing s with
  | nil => cases mem
  | cons j l ih =>
    obtain ⟨fresh, distinct⟩ := List.nodup_cons.mp distinct
    by_cases e : j = k
    · subst e
      have rest : ∀ l : List Nat, j ∉ l → ∀ u, Q u → Q (l.foldl f u) := by
        intro l
        induction l with
        | nil => exact fun _ _ h => h
        | cons i l ih => exact fun out u h => ih (fun m => out (List.mem_cons_of_mem _ m)) _ (after u i (fun e => out (e ▸ List.mem_cons_self)) h)
      exact rest l fresh _ (serve s start)
    · exact ih distinct ((List.mem_cons.mp mem).resolve_left fun h => e h.symm) (before s j e start)

/-- The state that a frame's samples leave, before SC advances. -/
def frameTaken (s : State) : State :=
  forEach (upto 96) slotDone (forEach ((upto 8).filter (stripOn s)) stripFrame (forEach ((upto 8).filter (stripOn s)) startDue s))

theorem swathFrame_taken : swathFrame s = frameTail ((upto 8).filter (stripOn s)) (frameTaken s) := swathFrame_eq

theorem frameTaken_frame : FrameOnly s (frameTaken s) :=
  ((FrameOnly.forEach fun _ _ => startDue_frame).trans (FrameOnly.forEach fun _ _ => stripFrame_frame)).trans (FrameOnly.forEach fun _ _ => slotDone_frame)

theorem frameTail_frame {l : List Nat} : ∃ u, u = { s with regs := u.regs, swa := { s.swa with lastAt := s.time.hsck } } ∧ FrameOnly u (frameTail l s) := by
  unfold frameTail
  extract_lets src a old b
  have e : b = { s with regs := b.regs, swa := { s.swa with lastAt := s.time.hsck } } := rfl
  clear_value b
  exact ⟨b, e, (FrameOnly.forEach fun _ _ => stripCounts_frame).trans prerollReady_frame⟩

theorem frameTail_sc {l : List Nat} : (frameTail l s).pair A.SWA_SC_LO = (swathSC s + 1) % 2 ^ 64 := by
  unfold frameTail
  extract_lets a old b
  have h : a.pair A.SWA_SC_LO = (swathSC s + 1) % 2 ^ 64 := pair_setPair_same s _ _
  clear_value a
  have same : b.pair A.SWA_SC_LO = a.pair A.SWA_SC_LO := rfl
  clear_value b
  have counts : Stands FrameCount b (forEach l stripCounts b) := Stands.forEach fun _ _ _ => stripCounts_count
  rw [(counts.trans prerollReady_count).pair (.inl rfl) (.inr (.inl rfl)), same, h]

/-- The frame's own changes, around those of its samples and of its counts. -/
theorem frame_only {v : State} (taken : FrameOnly s t) (hu : u = { t with regs := u.regs, swa := { t.swa with lastAt := t.time.hsck } }) (tail : FrameOnly u v) :
    v.swa.lastAt = s.time.hsck ∧ v = { s with regs := v.regs, swa := { s.swa with strip := v.swa.strip, mem := v.swa.mem, marks := v.swa.marks, lastAt := v.swa.lastAt }, flt := { s.flt with route := v.flt.route }, free := v.free } := by
  obtain ⟨_, _, _, _, _, _, rfl⟩ := taken
  generalize u.regs = r at hu
  subst hu
  obtain ⟨_, _, _, _, _, _, rfl⟩ := tail
  exact ⟨rfl, rfl⟩

theorem frameTaken_sc : swathSC (frameTaken s) = s.pair A.SWA_SC_LO := by
  have slots : (frameTaken s).regs = (forEach ((upto 8).filter (stripOn s)) stripFrame (forEach ((upto 8).filter (stripOn s)) startDue s)).regs :=
    forEach_regs fun _ _ => slotDone_regs
  have due : Stands (fun a => a = A.SWA_SC_LO ∨ a = A.SWA_SC_LO + 4) s (forEach ((upto 8).filter (stripOn s)) startDue s) :=
    Stands.forEach fun _ _ _ => (startDue_count).weaken fun a h => h.elim .inl fun h => .inr (.inl h)
  have framed : ∀ v, Stands (fun a => a = A.SWA_SC_LO ∨ a = A.SWA_SC_LO + 4) v (forEach ((upto 8).filter (stripOn s)) stripFrame v) := fun v =>
    Stands.forEach fun u j _ => (stripFrame_count (s := u) (k := j)).weaken fun a h => by
      refine ⟨h.elim .inl fun h => .inr (.inl h), ?_, ?_⟩ <;> simp only [A.SWA_STs_PROD_LO, A.SWA_SC_LO] at h ⊢ <;> omega
  exact ((due.trans (framed _)).parts slots).pair (.inl rfl) (.inr rfl)

theorem prod_pair (small : k < 8) : FrameCount (A.SWA_STs_PROD_LO k) ∧ FrameCount (A.SWA_STs_PROD_LO k + 4) :=
  ⟨.inr (.inr ⟨k, small, .inl rfl⟩), .inr (.inr ⟨k, small, .inr (.inl rfl)⟩)⟩

/-- What follows a frame's samples leaves the strips' blocks, the swath's bytes and the counts of produced frames. -/
theorem frameTail_kept {l : List Nat} (small : k < 8) (len : k < s.swa.strip.length) : BlockKept k s (frameTail l s) ∧
    (frameTail l s).swa.mem = s.swa.mem ∧ (frameTail l s).pair (A.SWA_STs_PROD_LO k) = s.pair (A.SWA_STs_PROD_LO k) := by
  unfold frameTail
  extract_lets a old b
  have swa : a.swa = s.swa := rfl
  have prod' : a.pair (A.SWA_STs_PROD_LO k) = s.pair (A.SWA_STs_PROD_LO k) :=
    pair_setPair_apart (s := s) (lo := A.SWA_SC_LO) (by simp only [pairRegs, List.mem_cons, List.not_mem_nil, or_false, A.SWA_STs_PROD_LO, A.SWA_SC_LO]; omega)
  clear_value a
  have strips : b.swa.strip = s.swa.strip := by rw [← swa]
  have mem : b.swa.mem = s.swa.mem := by rw [← swa]
  have prod : b.pair (A.SWA_STs_PROD_LO k) = s.pair (A.SWA_STs_PROD_LO k) := by rw [← prod']; rfl
  clear_value b
  have kept : StripKept k s b := OthersStand.kept (j := k + 1) (.of_strips strips) (by omega)
  have counts : Stands FrameCount b (forEach l stripCounts b) := Stands.forEach fun _ _ _ => stripCounts_count
  have memory : (forEach l stripCounts b).swa.mem = b.swa.mem := forEach_keeps (fun s => s.swa.mem) l stripCounts b fun _ _ => stripCounts_mem
  refine ⟨((kept.2).trans (counts_kept (strips ▸ len)).2).trans (.of_regs prerollReady_regs), ?_, ?_⟩
  · rw [swa_of_regs prerollReady_regs, memory, mem]
  · rw [(counts.trans prerollReady_count).pair (prod_pair small).1 (prod_pair small).2, prod]

theorem on_distinct : ((upto 8).filter (stripOn s)).Nodup := (List.nodup_range (n := 8)).filter _

theorem on_mem (small : k < 8) (on : stripOn s k = true) : k ∈ (upto 8).filter (stripOn s) :=
  List.mem_filter.mpr ⟨by simpa [upto] using small, on⟩

theorem stripFrame_prod (small : k < 8) (other : j ≠ k) : (stripFrame s j).pair (A.SWA_STs_PROD_LO k) = s.pair (A.SWA_STs_PROD_LO k) :=
  (stripFrame_count (k := j)).pair ⟨(prod_pair small).1, by simp only [A.SWA_STs_PROD_LO]; omega, by simp only [A.SWA_STs_PROD_LO]; omega⟩
    ⟨(prod_pair small).2, by simp only [A.SWA_STs_PROD_LO]; omega, by simp only [A.SWA_STs_PROD_LO]; omega⟩

/-- A strip's block and count of produced frames, as a frame leaves them. -/
def StripFramed (R : Option BlockSt → List (Nat × Nat) → Nat → Prop) (k : Nat) (s : State) : Prop :=
  R (s.strip k).cur (s.strip k).tags (s.pair (A.SWA_STs_PROD_LO k))

/-- A frame serves each strip that is on once. -/
theorem swathFrame_strip {R : Option BlockSt → List (Nat × Nat) → Nat → Prop} {b : BlockSt} (small : k < 8) (len : k < s.swa.strip.length)
    (on : stripOn s k = true) (cur : (s.strip k).cur = some b)
    (serve : ∀ u : State, k < u.swa.strip.length → (u.strip k).cur = some b → (u.strip k).tags = (s.strip k).tags →
      u.pair (A.SWA_STs_PROD_LO k) = s.pair (A.SWA_STs_PROD_LO k) → StripFramed R k (stripFrame u k)) :
    StripFramed R k (swathFrame s) := by
  have start : ∀ l : List Nat, StripKept k s (forEach l startDue s) := by
    intro l
    unfold Machine.forEach
    suffices h : ∀ u, StripKept k s u → StripKept k s (l.foldl startDue u) from h s .rfl
    induction l with
    | nil => exact fun _ h => h
    | cons j l ih =>
      refine fun u h => ih _ ?_
      by_cases e : k = j
      · subst e
        rw [startDue_progress (((h.2).1).trans cur)]
        exact h
      · exact h.trans ((startDue_others).kept e)
  have counted : ∀ l : List Nat, (forEach l startDue s).pair (A.SWA_STs_PROD_LO k) = s.pair (A.SWA_STs_PROD_LO k) := fun l =>
    (Stands.forEach fun _ _ _ => startDue_count).pair (prod_pair small).1 (prod_pair small).2
  have framed : StripFramed R k (forEach ((upto 8).filter (stripOn s)) stripFrame (forEach ((upto 8).filter (stripOn s)) startDue s)) ∧
      k < (forEach ((upto 8).filter (stripOn s)) stripFrame (forEach ((upto 8).filter (stripOn s)) startDue s)).swa.strip.length := by
    refine forEach_once (k := k) (P := fun u => StripKept k s u ∧ u.pair (A.SWA_STs_PROD_LO k) = s.pair (A.SWA_STs_PROD_LO k))
      (Q := fun u => StripFramed R k u ∧ k < u.swa.strip.length) on_distinct (on_mem small on) ⟨start _, counted _⟩ ?_ ?_ ?_
    · rintro u j other ⟨kept, prod⟩
      exact ⟨kept.trans ((stripFrame_others).kept other.symm), (stripFrame_prod small other).trans prod⟩
    · rintro u ⟨⟨length, hcur, htags, -⟩, prod⟩
      exact ⟨serve u (by rw [length]; exact len) (hcur.trans cur) htags prod, by rw [stripFrame_others.1, length]; exact len⟩
    · rintro u j other ⟨h, length⟩
      obtain ⟨l, hcur, htags, -⟩ := (stripFrame_others (s := u)).kept other.symm
      exact ⟨by rw [StripFramed, hcur, htags, stripFrame_prod small other]; exact h, by rw [l]; exact length⟩
  obtain ⟨framed, length⟩ := framed
  rw [swathFrame_taken, frameTaken]
  generalize forEach ((upto 8).filter (stripOn s)) stripFrame (forEach ((upto 8).filter (stripOn s)) startDue s) = u at framed length ⊢
  have swa : (forEach (upto 96) slotDone u).swa = u.swa := slots_swa
  have regs : (forEach (upto 96) slotDone u).regs = u.regs := forEach_regs fun _ _ => slotDone_regs
  generalize forEach (upto 96) slotDone u = v at swa regs ⊢
  have strip : v.strip k = u.strip k := by rw [State.strip, swa, State.strip]
  have prod : v.pair (A.SWA_STs_PROD_LO k) = u.pair (A.SWA_STs_PROD_LO k) := pair_of_rd (by rw [State.rd, regs, State.rd]) (by rw [State.rd, regs, State.rd])
  obtain ⟨⟨hcur, htags, -⟩, -, counted⟩ := frameTail_kept (l := (upto 8).filter (stripOn s)) small (show k < v.swa.strip.length by rw [swa]; exact length)
  rw [StripFramed, hcur, htags, counted, strip, prod]
  exact framed

/-- Where one strip alone is on, and has a block in progress, a frame writes that block's bytes alone. -/
theorem swathFrame_mem {b : BlockSt} (small : k < 8) (len : k < s.swa.strip.length) (alone : (upto 8).filter (stripOn s) = [k])
    (cur : (s.strip k).cur = some b) (short : b.frames < 255) : (swathFrame s).swa.mem = frameBits s k b := by
  have taken : (frameTaken s).swa = (stripFrame s k).swa := by
    rw [frameTaken, slots_swa, alone, Machine.forEach, List.foldl_cons, List.foldl_nil, Machine.forEach, List.foldl_cons, List.foldl_nil, startDue_progress cur]
  rw [swathFrame_taken, (frameTail_kept small (by rw [taken, stripFrame_others.1]; exact len)).2.1, taken, stripFrame_mem cur (by omega)]

/-! ## The short swath -/

theorem shortStart_swa : (shortStart s).swa = { s.swa with scur := some ⟨s.swa.snext.getD 0, shortSSC s, 0, s.swa.sgap, false, s.swa.smarks.any (fun m => decide (shortSSC s ≤ m) && decide (m < shortSSC s + 256)), false, 0, 0, 0, 0, 0⟩, stags := (s.swa.snext.getD 0, shortSSC s) :: s.swa.stags.filter (fun e => decide (e.1 ≠ s.swa.snext.getD 0)), snext := some ((s.swa.snext.getD 0 + 1) % 504), sgap := false, short := sparseClear s.swa.short (520 * s.swa.snext.getD 0) (520 * s.swa.snext.getD 0 + 8), smarks := s.swa.smarks.filter (fun m => decide (shortSSC s ≤ m)) } := by
  unfold shortStart
  extract_lets ssc idx wraps head s1 tags wake b mem old s2 s3
  have e : s1.swa = s.swa := by
    simp only [s1]
    split <;> rfl
  have h3 : s3.swa = s2.swa := rfl
  have h2 : s2.swa = { s1.swa with scur := some b, stags := tags, snext := some ((idx + 1) % 504), sgap := false, short := mem, smarks := s1.swa.smarks.filter (fun m => decide (ssc ≤ m)) } := rfl
  have last : (if wraps = true then s3.mark F.SWA_SSHEAD_FULL true else s3).swa = s3.swa := by split <;> rfl
  rw [last, h3, h2]
  simp only [tags, b, mem, wake, idx, ssc, e]
  rfl

theorem shortStart_only : shortStart s = { s with regs := (shortStart s).regs, swa := (shortStart s).swa } := by
  unfold shortStart
  extract_lets ssc idx wraps head s1 tags wake b mem old s2 s3
  have h1 : s1 = { s with regs := s1.regs } := by
    simp only [s1]
    split <;> rfl
  have h2 : s2 = { s1 with swa := s2.swa } := rfl
  have h3 : OnlyRegs s2 s3 := by simp [s3]
  clear_value s3 s2 s1
  split
  · rw [show s3 = { s2 with regs := s3.regs } from h3, h2, h1]
    rfl
  · rw [show s3 = { s2 with regs := s3.regs } from h3, h2, h1]

theorem shortStart_state : shortStart s = { s with regs := (shortStart s).regs, swa := { s.swa with scur := (shortStart s).swa.scur, stags := (s.swa.snext.getD 0, shortSSC s) :: s.swa.stags.filter (fun e => decide (e.1 ≠ s.swa.snext.getD 0)), snext := some ((s.swa.snext.getD 0 + 1) % 504), sgap := false, short := (shortStart s).swa.short, smarks := (shortStart s).swa.smarks } } := by
  have h := shortStart_only (s := s)
  rw [shortStart_swa] at h ⊢
  exact h

theorem shortStart_kept : RegsKept s (shortStart s) (A.SWA_SSHEAD :: pairRegs A.SWA_SSEXP_LO) := by
  unfold shortStart
  extract_lets ssc idx wraps head s1 tags wake b mem old s2 s3
  have h1 : RegsKept s s1 (pairRegs A.SWA_SSEXP_LO) := by
    simp only [s1]
    split
    · exact bump64_kept _ _ _
    · exact .refl s _
  have h2 : RegsKept s s2 (pairRegs A.SWA_SSEXP_LO) := h1
  have h3 : RegsKept s2 s3 [A.SWA_SSHEAD] := put_kept _ _ _
  have h4 : RegsKept s3 (if wraps = true then s3.mark F.SWA_SSHEAD_FULL true else s3) [A.SWA_SSHEAD] := by
    split
    · exact mark_kept _ _ _
    · exact .refl _ _
  exact ((h2.trans h3).trans h4).mono (by simp)

theorem shortStart_head : (shortStart s).get F.SWA_SSHEAD_HEAD = s.swa.snext.getD 0 % 2 ^ F.SWA_SSHEAD_HEAD.width := by
  unfold shortStart
  extract_lets ssc idx wraps head s1 tags wake b mem old s2 s3
  have h3 : s3.get F.SWA_SSHEAD_HEAD = idx % 2 ^ F.SWA_SSHEAD_HEAD.width := get_put_same _ _ _ (by decide)
  split
  · rw [get_mark_apart _ _ _ _ (by decide) (by decide), h3]
  · exact h3

end

end Sys2Proof.Machine

open Sys2Proof Sys2Proof.Machine

/-- Settles O23: a frame serves each enabled strip once, a block starts with its marks and a cleared header, and where the
swath does not write, or no block is due, the row changes nothing. -/
theorem swathWriting : Obligations.SwathWriting := by
  unfold Obligations.SwathWriting
  intro s length
  have frame : ∀ {P : State → Prop}, swathRuns s = true → P (swathFrame s) → Gives .swathFrame s P := fun runs h =>
    ⟨_, congrArg Host.Outcome.next (if_pos runs), h⟩
  have len : ∀ k : Fin 8, k.val < s.swa.strip.length := fun k => by rw [length]; exact k.isLt
  refine ⟨fun runs => frame runs ?_, fun k b runs on cur short => frame runs ?_, fun k b runs on cur last => frame runs ?_,
    fun k b runs alone cur short => frame runs ⟨fun a out => ?_, fun fmt slots => ?_⟩, fun off => ⟨_, congrArg Host.Outcome.next (if_neg (by simp [off])), rfl⟩,
    fun k i runs on none due fresh index => ?_, fun k held => ?_, fun i sentry hsck none due index => ?_, fun held => ?_⟩
  · have taken := frameTaken_frame (s := s)
    obtain ⟨u, hu, tail⟩ := frameTail_frame (l := (upto 8).filter (stripOn s)) (s := frameTaken s)
    have sc : swathSC (frameTaken s) = s.pair A.SWA_SC_LO := frameTaken_sc
    refine ⟨by rw [swathFrame_taken, frameTail_sc, sc], ?_⟩
    rw [swathFrame_taken]
    exact frame_only taken hu tail
  · have h := swathFrame_strip (R := fun cur tags prod => (∃ b', cur = some b' ∧ b'.frames = b.frames + 1 ∧ b'.stamp = b.stamp ∧ b'.idx = b.idx) ∧
      tags = (s.strip k).tags ∧ prod = (s.pair (A.SWA_STs_PROD_LO k) + 1) % 2 ^ 64) k.isLt (len k) on cur fun u l hcur htags hprod => by
        obtain ⟨h1, h2, h3⟩ := stripFrame_goes l hcur (by omega)
        exact ⟨h1, h2.trans htags, by rw [h3, hprod]⟩
    exact h
  · have h := swathFrame_strip (R := fun cur tags prod => cur = none ∧ tags = (s.strip k).tags ∧ prod = (s.pair (A.SWA_STs_PROD_LO k) + 1) % 2 ^ 64)
      k.isLt (len k) on cur fun u l hcur htags hprod => by
        obtain ⟨h1, h2, h3⟩ := stripFrame_ends l hcur (by omega)
        exact ⟨h1, h2.trans htags, by rw [h3, hprod]⟩
    exact h
  · rw [swathFrame_mem k.isLt (len k) alone cur short, frameBits_outside short out]
  · rw [swathFrame_mem k.isLt (len k) alone cur short, frameBits_sample fmt slots]
  · subst index
    obtain ⟨htags, hcur, hgap, hsync, hhead, hmem⟩ := blockStart_spec (s := s) k.isLt (len k)
    have l : k.val < (blockStart s k).swa.strip.length := by rw [blockStart_others.1]; exact len k
    obtain ⟨cur, tags, gap, sync⟩ := stripCounts_block l
    have others := (blockStart_others (s := s) (k := k)).trans (stripCounts_others (s := blockStart s k))
    refine ⟨stripCounts (blockStart s k) k, congrArg Host.Outcome.next (if_pos ?_), by rw [tags, htags], by rw [cur, hcur], by rw [gap, hgap],
      by rw [sync, hsync], ?_, fun j other => others.2 j fun e => other (Fin.ext e), fun a => by rw [stripCounts_mem, hmem]⟩
    · rw [runs, on, none, due]
      cases tagged : (s.strip k).tags.head? with
      | none => rfl
      | some t => simpa [tagged] using fresh
    · exact ((stripCounts_head k.isLt).get rfl).trans hhead
  · refine ⟨s, congrArg Host.Outcome.next (if_neg ?_), rfl⟩
    obtain off | off | busy | odd | begun := held
    · simp [off]
    · simp [off]
    · simp [Option.isSome_iff_ne_none.mp busy]
    · simp [odd]
    · cases tagged : (s.strip k).tags.head? with
      | none => simp [tagged] at begun
      | some t => simp [tagged] at begun; simp [begun]
  · subst index
    refine ⟨shortStart s, congrArg Host.Outcome.next (if_pos (by simp [sentry, hsck, none, due])), ?_, ?_, shortStart_head, fun a => ?_, shortStart_kept⟩
    · exact shortStart_state
    · rw [shortStart_swa]
    · rw [shortStart_swa]
      show memGet (sparseClear _ _ _) a = _
      rw [memGet, sparseGet_clear]
      split <;> rfl
  · refine ⟨s, congrArg Host.Outcome.next (if_neg ?_), rfl⟩
    obtain awake | gone | busy | odd := held
    · simp [awake]
    · simp [gone]
    · simp [Option.isSome_iff_ne_none.mp busy]
    · simp [odd]

end

section
/-! PROOFS. Closing the mitten, sending blocks and the host's acknowledgement (O24). -/

namespace Sys2Proof.Machine

section

variable {s t u : State} {c k m n x : Nat}

/-! ## The mitten shut -/

/-- The mitten shut with a cause, before a wake at the same edge. -/
def mittenShut (s : State) (c : Nat) : State :=
  (((((s.mark F.SWA_MITTEN_OPEN false).mark F.SWA_MITTEN_SS_OPEN false).put F.SWA_MITTEN_CAUSE c).put F.SWA_MITTEN_IDLE 0).event 49)

theorem mittenClose_shut (standing : (mittenOpen s || s.flag F.SWA_MITTEN_SS_OPEN) = false) : mittenClose s c = s := if_neg (by simp [standing])

theorem mittenRelease_closes {o : Origin} : exec (.mittenRelease o) s = .next (mittenClose s (if byHost o then 1 else 2)) := by
  cases o <;> rfl

theorem mittenShut_parts : OnlyRegs s (mittenShut s c) := by simp [mittenShut]

theorem sameEdge_shut : sameEdge (mittenShut s c) (mittenShut s c).swa.wakeAt = sameEdge s s.swa.wakeAt := by
  have time : (mittenShut s c).time = s.time := by rw [show mittenShut s c = { s with regs := (mittenShut s c).regs } from mittenShut_parts]
  unfold sameEdge
  rw [swa_of_regs mittenShut_parts, time]

theorem mittenClose_quiet (o : (mittenOpen s || s.flag F.SWA_MITTEN_SS_OPEN) = true) (quiet : sameEdge s s.swa.wakeAt = none) :
    mittenClose s c = mittenShut s c := by
  rw [← sameEdge_shut (c := c)] at quiet
  rw [mittenClose, if_pos o]
  dsimp only
  rw [show (((((s.mark F.SWA_MITTEN_OPEN false).mark F.SWA_MITTEN_SS_OPEN false).put F.SWA_MITTEN_CAUSE c).put F.SWA_MITTEN_IDLE 0).event 49) = mittenShut s c from rfl,
    quiet]

theorem mittenClose_timeout (o : (mittenOpen s || s.flag F.SWA_MITTEN_SS_OPEN) = true) : mittenClose s 3 = mittenShut s 3 := by
  rw [mittenClose, if_pos o]
  dsimp only
  rw [show (((((s.mark F.SWA_MITTEN_OPEN false).mark F.SWA_MITTEN_SS_OPEN false).put F.SWA_MITTEN_CAUSE 3).put F.SWA_MITTEN_IDLE 0).event 49) = mittenShut s 3 from rfl]
  split <;> rfl

theorem mittenClose_wake (o : (mittenOpen s || s.flag F.SWA_MITTEN_SS_OPEN) = true) (wake : sameEdge s s.swa.wakeAt = some m) (released : c < 3) :
    mittenClose s c = mittenOpening (mittenShut s c) m := by
  rw [← sameEdge_shut (c := c)] at wake
  rw [mittenClose, if_pos o]
  dsimp only
  rw [show (((((s.mark F.SWA_MITTEN_OPEN false).mark F.SWA_MITTEN_SS_OPEN false).put F.SWA_MITTEN_CAUSE c).put F.SWA_MITTEN_IDLE 0).event 49) = mittenShut s c from rfl,
    wake]
  exact if_pos released

theorem mittenShut_words (small : c < 16) : (mittenShut s c).flag F.SWA_MITTEN_OPEN = false ∧ (mittenShut s c).flag F.SWA_MITTEN_SS_OPEN = false ∧
    (mittenShut s c).get F.SWA_MITTEN_IDLE = 0 ∧ (mittenShut s c).get F.SWA_MITTEN_CAUSE = c ∧
    (mittenShut s c).get F.SWA_MITTEN_TMO = s.get F.SWA_MITTEN_TMO := by
  have fits : c < 2 ^ F.SWA_MITTEN_CAUSE.width := small
  unfold mittenShut
  refine ⟨?_, ?_, ?_, ?_, ?_⟩ <;> simp (disch := first | decide | exact fits) [flag_mark_same]

theorem mittenShut_edge : EdgeTaken s (mittenShut s c) 49 := by
  unfold mittenShut
  simp (disch := decide)

theorem mittenShut_kept : RegsKept s (mittenShut s c) (A.SWA_MITTEN :: sourceRegs 49) := by
  unfold mittenShut
  exact (((((mark_kept _ _ _).trans (mark_kept _ _ _)).trans (put_kept _ _ _)).trans (put_kept _ _ _)).trans (event_kept _ _)).mono (by simp)

/-! ## The mitten open afresh -/

/-- The mitten's word and the words of its two sources. -/
def MittenWord (a : Nat) : Prop := a = A.SWA_MITTEN ∨ a = A.INT_SRCs 48 ∨ a = A.INT_SRCs 49

theorem mittenWord_outside {a : Nat} (low : 0x070000 ≤ a) (high : a < 0x080000) (other : a ≠ A.SWA_MITTEN) : ¬ MittenWord a := by
  rintro (h | h | h) <;> simp only [A.SWA_MITTEN, A.INT_SRCs] at h other <;> omega

theorem mittenWord_pair {lo v : Nat} (low : 0x070024 ≤ lo) (high : lo + 4 < 0x080000) : Stands MittenWord s (s.setPair lo v) :=
  .of_kept (setPair_kept s lo v) fun a h m => by
    obtain rfl | m := List.mem_cons.mp m
    · exact mittenWord_outside (by omega) (by omega) (by simp only [A.SWA_MITTEN]; omega) h
    · rw [List.mem_singleton.mp m] at h
      exact mittenWord_outside (by omega) (by omega) (by simp only [A.SWA_MITTEN]; omega) h

theorem mittenWord_put {f : Fld} {v : Nat} (low : 0x070024 ≤ f.addr) (high : f.addr < 0x080000) : Stands MittenWord s (s.put f v) :=
  Stands.put (mittenWord_outside (by omega) high (by simp only [A.SWA_MITTEN]; omega))

theorem mittenWindow_word : Stands MittenWord s (mittenWindow s m) := by
  unfold mittenWindow
  dsimp only
  refine .ite (Stands.trans (mittenWord_pair (by decide) (by decide)) (mittenWord_put (by decide) (by decide)))
    (Stands.trans (mittenWord_pair (by decide) (by decide)) (Stands.forEach fun u j h => mittenWord_put ?_ ?_))
  all_goals
    have small := mem_upto (List.mem_filter.mp h).1
    simp only [A.SWA_STs_AVAIL]
    omega

theorem unloadStart_word (small : k < 8) : Stands MittenWord s (unloadStart s k) := by
  unfold unloadStart
  extract_lets w u s1 s2 old s3
  have h1 : Stands MittenWord s s1 := mittenWord_pair (by simp only [A.SWA_STs_UPTR_LO]; omega) (by simp only [A.SWA_STs_UPTR_LO]; omega)
  have h2 : Stands MittenWord s1 s2 := mittenWord_put (by simp only [A.SWA_STs_UNL]; omega) (by simp only [A.SWA_STs_UNL]; omega)
  have h3 : Stands MittenWord s2 s3 := Stands.rfl.parts rfl
  refine ((h1.trans h2).trans h3).trans (stripCounts_stands_of ?_ ?_ ?_)
  · exact mittenWord_outside (by simp only [A.SWA_STs_PEND]; omega) (by simp only [A.SWA_STs_PEND]; omega) (by simp only [A.SWA_STs_PEND, A.SWA_MITTEN]; omega)
  · exact mittenWord_outside (by simp only [A.SWA_STs_LAG]; omega) (by simp only [A.SWA_STs_LAG]; omega) (by simp only [A.SWA_STs_LAG, A.SWA_MITTEN]; omega)
  · rintro a (rfl | rfl | rfl) <;> decide

theorem mittenTouch_words : (mittenTouch s).get F.SWA_MITTEN_IDLE = s.get F.SWA_MITTEN_TMO ∧ (mittenTouch s).flag F.SWA_MITTEN_OPEN = s.flag F.SWA_MITTEN_OPEN ∧
    (mittenTouch s).get F.SWA_MITTEN_CAUSE = s.get F.SWA_MITTEN_CAUSE ∧ RegsKept s (mittenTouch s) [A.SWA_MITTEN] := by
  have tmo : s.get F.SWA_MITTEN_TMO < 2 ^ F.SWA_MITTEN_IDLE.width := get_lt s F.SWA_MITTEN_TMO
  have kept : RegsKept s (s.put F.SWA_MITTEN_IDLE (s.get F.SWA_MITTEN_TMO)) [A.SWA_MITTEN] := put_kept _ _ _
  unfold mittenTouch
  refine ⟨?_, ?_, ?_, kept⟩ <;> simp (disch := first | decide | exact tmo)

/-- What an opening shows: OPEN with the idle time, the cause of the last closing, and source 48. -/
def OpenShown (s t : State) : Prop := t.flag F.SWA_MITTEN_OPEN = true ∧ t.get F.SWA_MITTEN_IDLE = s.get F.SWA_MITTEN_TMO ∧
  t.get F.SWA_MITTEN_CAUSE = s.get F.SWA_MITTEN_CAUSE ∧ t.flag (F.INT_SRCs_PEND 48) = true ∧
  t.flag (F.INT_SRCs_PEND 49) = s.flag (F.INT_SRCs_PEND 49)

theorem touched_shown (o : s.flag F.SWA_MITTEN_OPEN = true) : OpenShown s ((mittenTouch s).event 48) := by
  obtain ⟨idle, shown, cause, kept⟩ := mittenTouch_words (s := s)
  refine ⟨?_, ?_, ?_, flag_event_pending _, ?_⟩
  · rw [flag_event_apart _ (by decide), shown, o]
  · rw [get_event_apart _ (by decide), idle]
  · rw [get_event_apart _ (by decide), cause]
  · rw [flag_event_apart _ (by decide), kept.flag (by decide)]

theorem OpenShown.from {s' : State} (h : OpenShown s t) (tmo : s.get F.SWA_MITTEN_TMO = s'.get F.SWA_MITTEN_TMO)
    (cause : s.get F.SWA_MITTEN_CAUSE = s'.get F.SWA_MITTEN_CAUSE) (other : s.flag (F.INT_SRCs_PEND 49) = s'.flag (F.INT_SRCs_PEND 49)) : OpenShown s' t := by
  obtain ⟨o, idle, shown, pend, last⟩ := h
  exact ⟨o, idle.trans tmo, shown.trans cause, pend, last.trans other⟩

theorem OpenShown.stands (h : OpenShown s t) (l : Stands MittenWord t u) : OpenShown s u := by
  obtain ⟨o, idle, shown, pend, last⟩ := h
  exact ⟨(l.flag (.inl rfl)).trans o, (l.get (.inl rfl)).trans idle, (l.get (.inl rfl)).trans shown, (l.flag (.inr (.inl rfl))).trans pend,
    (l.flag (.inr (.inr rfl))).trans last⟩

theorem mittenOpening_shown : OpenShown s (mittenOpening s m) := by
  unfold mittenOpening
  extract_lets s1 old s2 s3
  have window := mittenWindow_word (s := s) (m := m)
  have o1 : s1.flag F.SWA_MITTEN_OPEN = true := flag_mark_same _ _ _ (by decide) rfl
  have tmo : s1.get F.SWA_MITTEN_TMO = s.get F.SWA_MITTEN_TMO := by
    simp only [s1]
    rw [get_mark_apart _ _ _ _ (by decide) (by decide), window.get (.inl rfl)]
  have cause : s1.get F.SWA_MITTEN_CAUSE = s.get F.SWA_MITTEN_CAUSE := by
    simp only [s1]
    rw [get_mark_apart _ _ _ _ (by decide) (by decide), window.get (.inl rfl)]
  have last : s1.flag (F.INT_SRCs_PEND 49) = s.flag (F.INT_SRCs_PEND 49) := by
    simp only [s1]
    rw [flag_mark_apart _ _ _ _ (by decide) (by decide), window.flag (.inr (.inr rfl))]
  have o2 : s2.flag F.SWA_MITTEN_OPEN = true := o1
  have tmo2 : s2.get F.SWA_MITTEN_TMO = s.get F.SWA_MITTEN_TMO := tmo
  have cause2 : s2.get F.SWA_MITTEN_CAUSE = s.get F.SWA_MITTEN_CAUSE := cause
  have last2 : s2.flag (F.INT_SRCs_PEND 49) = s.flag (F.INT_SRCs_PEND 49) := last
  split
  · have h := touched_shown (s := s2.mark F.SWA_MITTEN_SS_OPEN true) (by rw [flag_mark_apart _ _ _ _ (by decide) (by decide), o2])
    exact h.from (by rw [get_mark_apart _ _ _ _ (by decide) (by decide), tmo2]) (by rw [get_mark_apart _ _ _ _ (by decide) (by decide), cause2])
      (by rw [flag_mark_apart _ _ _ _ (by decide) (by decide), last2])
  · exact ((touched_shown o2).from tmo2 cause2 last2).stands
      (Stands.forEach fun u j h => unloadStart_word (mem_upto (List.mem_filter.mp h).1))

/-! ## The unload engine -/

theorem unloadWait_counts (fresh : s.flag (F.SWA_STs_UNL_WAIT k) = false) : OnlyRegs s (unloadWait s k) ∧
    (unloadWait s k).flag (F.SWA_STs_UNL_WAIT k) = true ∧ (unloadWait s k).get F.SWA_DENY_COUNT = Nat.min (s.get F.SWA_DENY_COUNT + 1) (2 ^ 32 - 1) ∧
    RegsKept s (unloadWait s k) [A.SWA_STs_UNL k, A.SWA_DENY] := by
  have apart : A.SWA_STs_UNL k ≠ A.SWA_DENY := by simp only [A.SWA_STs_UNL, A.SWA_DENY]; omega
  rw [unloadWait, if_neg (by simp [fresh]), mittenDeny]
  refine ⟨by simp, ?_, ?_, (((mark_kept _ _ _).trans incSat_kept)).mono (by simp)⟩
  · rw [flag_incSat_apart (by decide) (.inl apart.symm), flag_mark_same _ _ _ (show 8 + 1 ≤ 32 by decide) rfl]
  · rw [get_incSat_same (by decide), get_mark_apart _ _ _ _ (show 8 + 1 ≤ 32 by decide) (.inl apart)]
    exact Nat.min_comm _ _

theorem unloadWait_waits (held : s.flag (F.SWA_STs_UNL_WAIT k) = true) : unloadWait s k = s := if_pos held

/-- A block whose strip's unload engine may run, by what the mitten and the window say. -/
theorem unloadNext_idle (idle : (s.strip k).unl = false ∨ s.coreRuns = false ∨ (s.pstate = RECORD ∧ s.pwr.trans.isSome = true)) : unloadNext s k = s := by
  refine if_neg fun h => ?_
  obtain off | off | ⟨record, leaving⟩ := idle
  · simp [off] at h
  · simp [off] at h
  · simp [record, Option.isSome_iff_ne_none.mp leaving] at h

theorem unloadNext_runs (unl : (s.strip k).unl = true) (runs : s.coreRuns = true) (state : s.pstate ≠ RECORD ∨ s.pwr.trans = none) :
    unloadNext s k = if (!mittenOpen s) = true then unloadWait s k else
      match (completeBlocks s k).find? (fun t => decide (Nat.max (s.strip k).sent (stripUptr s k) ≤ t.2)) with
      | some t =>
        if t.2 + 255 < s.pair A.SWA_WSTART_LO then unloadWait s k
        else if 2 ≤ s.get (F.SWA_STs_UNL_DEST k) then bulkSend s k t.1 t.2
        else mittenTouch ((s.setStrip k { s.strip k with sent := t.2 + 256 }).mark (F.SWA_STs_UNL_WAIT k) false)
      | none => s := by
  refine if_pos ?_
  obtain h | h := state <;> simp [unl, runs, h]

/-- One segment of a block joins a port's hand-off. -/
def segQueue (x : Nat) (s : State) (body : List Nat) : State := hgQueue s x VC_BULK ⟨T_BULK_SEG, 4, s.devid, hgAuth s x VC_BULK, 0, 3, 0, body, []⟩

/-- A bulk segment of this device for the bridge. -/
def IsSegment (s : State) (e : Nat × Msg) : Prop := e.1 = VC_BULK ∧ e.2.typ = T_BULK_SEG ∧ e.2.dst = 4 ∧ e.2.src = s.devid

theorem hgp_setHgp {p : HgPort} (h : x < s.hg.port.length) : (s.setHgp x p).hgp x = p := nth_setNth_same h

/-- The segments of a block join the hand-off in order, and nothing else changes. -/
theorem segments_queued {l : List (List Nat)} (h : x < s.hg.port.length) : forEach l (segQueue x) s = { s with hg := (forEach l (segQueue x) s).hg } ∧
    ∃ q, ((forEach l (segQueue x) s).hgp x).tx = (s.hgp x).tx ++ q ∧ q.length = l.length ∧ ∀ e ∈ q, IsSegment s e := by
  unfold Machine.forEach
  induction l generalizing s with
  | nil => exact ⟨rfl, [], by simp, rfl, by simp⟩
  | cons body l ih =>
    rw [List.foldl_cons]
    have one : segQueue x s body = { s with hg := (segQueue x s body).hg } := rfl
    have length : x < (segQueue x s body).hg.port.length := by
      simpa [segQueue, hgQueue, State.setHgp, setNth] using h
    have joined : ((segQueue x s body).hgp x).tx = (s.hgp x).tx ++ [(VC_BULK, ⟨T_BULK_SEG, 4, s.devid, hgAuth s x VC_BULK, 0, 3, 0, body, []⟩)] :=
      congrArg HgPort.tx (hgp_setHgp h)
    obtain ⟨rest, q, tx, count, all⟩ := ih length
    refine ⟨by rw [rest, one], _ :: q, by rw [tx, joined, List.append_assoc]; rfl, by simp [count], fun e he => ?_⟩
    obtain rfl | he := List.mem_cons.mp he
    · exact ⟨rfl, rfl, rfl, rfl⟩
    · exact all e he

theorem bulkSegs_ne {strip stamp seg n : Nat} {data : List Nat} (h : 0 < data.length) : bulkSegs strip stamp seg data (n + 1) 0 ≠ [] := by
  rw [bulkSegs, if_neg (by omega)]
  simp

theorem safLine_regs {i : Nat} : (s.safLine i n).regs = s.regs := by
  unfold State.safLine
  split <;> rfl

theorem wordBad_word {short : Bool} : Stands (· = A.SWA_MITTEN) s (wordBad short s n) := by
  unfold wordBad
  extract_lets s1 s2
  have h1 : Stands (· = A.SWA_MITTEN) s s1 := .ite (Stands.mark (by decide)) (Stands.mark (by decide))
  have h2 : Stands (· = A.SWA_MITTEN) s1 s2 := .ite ((Stands.mark (by decide)).parts safLine_regs) Stands.rfl
  exact (h1.trans h2).trans (((Stands.put (by decide)).trans (Stands.mark (by decide))).trans (.of_kept (event_kept _ _) (by rintro a rfl; decide)))

theorem wordBad_swa {short : Bool} : (wordBad short s n).swa = s.swa := (wordBad_keeps).swa rfl

/-- A check of a range of the swath corrects and reports words, and leaves the strips, the bytes and the mitten's word. -/
theorem eccCheck_leaves {short : Bool} : (eccCheck s short k n).swa.strip = s.swa.strip ∧ (eccCheck s short k n).swa.mem = s.swa.mem ∧
    (eccCheck s short k n).hg = s.hg ∧ Stands (· = A.SWA_MITTEN) s (eccCheck s short k n) := by
  refine ⟨?_, ?_, (eccCheck_keeps).hg rfl, ?_⟩
  all_goals
    unfold eccCheck
    extract_lets hit s1 old s2
  · rw [forEach_keeps State.swa _ _ _ fun _ _ => wordBad_swa]
    simp only [s2, old]
    split <;> rfl
  · rw [forEach_keeps State.swa _ _ _ fun _ _ => wordBad_swa]
    simp only [s2, old]
    split <;> rfl
  · have h1 : Stands (· = A.SWA_MITTEN) s s1 := .of_kept (bump64_kept _ _ _) (by rintro a rfl; decide)
    have h2 : Stands (· = A.SWA_MITTEN) s1 s2 := .ite (Stands.rfl.parts rfl) (Stands.rfl.parts rfl)
    exact (h1.trans h2).trans (Stands.forEach fun _ _ _ => wordBad_word)

/-- A block goes to the bridge where it is reachable and its hand-off has room. -/
theorem bulkSend_blocked {stamp idx : Nat} (dest : s.get (F.SWA_STs_UNL_DEST k) = 2 + x)
    (h : hgUp s x = false ∨ s.flag (F.HG0_ROUTEp_VALID 4) = false ∨ s.get (F.HG0_ROUTEp_PORT 4) ≠ x ∨ 16 ≤ ((s.hgp x).tx.filter (fun e => e.1 == VC_BULK)).length) :
    bulkSend s k idx stamp = s := by
  have port : s.get (F.SWA_STs_UNL_DEST k) - 2 = x := by omega
  unfold bulkSend
  dsimp only
  rw [port]
  refine if_neg ?_
  rintro ⟨up, valid, route, room⟩
  obtain h | h | h | h := h
  · simp [h] at up
  · simp [h] at valid
  · exact h route
  · exact absurd (of_decide_eq_true room) (by omega)

/-- The strip and the port after a block's segments have joined the hand-off. -/
theorem bulkSend_sent {stamp idx : Nat} (small : k < s.swa.strip.length) (ports : x < s.hg.port.length) (dest : s.get (F.SWA_STs_UNL_DEST k) = 2 + x)
    (up : hgUp s x = true) (valid : s.flag (F.HG0_ROUTEp_VALID 4) = true) (route : s.get (F.HG0_ROUTEp_PORT 4) = x)
    (room : ((s.hgp x).tx.filter (fun e => e.1 == VC_BULK)).length < 16) :
    ((bulkSend s k idx stamp).strip k).sent = stamp + 256 ∧ ((bulkSend s k idx stamp).strip k).flight = (s.strip k).flight ++ [stamp] ∧
    (bulkSend s k idx stamp).get F.SWA_MITTEN_IDLE = s.get F.SWA_MITTEN_TMO ∧ (bulkSend s k idx stamp).swa.mem = s.swa.mem ∧
    ∃ l, ((bulkSend s k idx stamp).hgp x).tx = (s.hgp x).tx ++ l ∧ l ≠ [] ∧ ∀ e ∈ l, IsSegment s e := by
  have port : s.get (F.SWA_STs_UNL_DEST k) - 2 = x := by omega
  unfold bulkSend
  extract_lets y room' a data seg s1 old s2
  have ey : y = x := port
  clear_value y
  subst ey
  rw [if_pos ⟨up, valid, route, decide_eq_true room⟩]
  have loop : s1 = forEach (bulkSegs k stamp seg data (data.length + 1) 0) (segQueue y) s := rfl
  have filled : bulkSegs k stamp seg data (data.length + 1) 0 ≠ [] := bulkSegs_ne (by simp [data, memRead, upto, stripB, blockBytes])
  obtain ⟨only, q, tx, count, all⟩ := segments_queued (l := bulkSegs k stamp seg data (data.length + 1) 0) ports
  rw [← loop] at only tx
  have swa1 : s1.swa = s.swa := by rw [only]
  have tmo1 : s1.get F.SWA_MITTEN_TMO = s.get F.SWA_MITTEN_TMO := by rw [only]; rfl
  clear_value s1
  have st2 : s2.strip k = { s1.strip k with sent := stamp + 256, flight := (s1.strip k).flight ++ [stamp] } :=
    nth_setNth_same (by rw [swa1]; exact small)
  have mem2 : s2.swa.mem = s1.swa.mem := rfl
  have hg2 : s2.hg = s1.hg := rfl
  have tmo2 : s2.get F.SWA_MITTEN_TMO = s1.get F.SWA_MITTEN_TMO :=
    get_mark_apart _ _ _ _ (show 8 + 1 ≤ 32 by decide) (.inl (by simp only [A.SWA_STs_UNL, A.SWA_MITTEN]; omega))
  clear_value s2
  obtain ⟨strip3, mem3, hg3, word3⟩ := eccCheck_leaves (s := s2) (short := false) (k := a) (n := stripB s2 k)
  generalize eccCheck s2 false a (stripB s2 k) = s3 at strip3 mem3 hg3 word3
  have st3 : s3.strip k = { s.strip k with sent := stamp + 256, flight := (s.strip k).flight ++ [stamp] } := by
    rw [State.strip, strip3]
    refine Eq.trans st2 ?_
    rw [show s1.strip k = s.strip k by rw [State.strip, swa1, State.strip]]
  have touched : (mittenTouch s3).strip k = s3.strip k := rfl
  refine ⟨by rw [touched, st3], by rw [touched, st3], ?_, ?_, q, ?_, ?_, all⟩
  · rw [mittenTouch_words.1, word3.get rfl, tmo2, tmo1]
  · rw [show (mittenTouch s3).swa.mem = s3.swa.mem from rfl, mem3, mem2, swa1]
  · rw [← tx, State.hgp, State.hgp, show (mittenTouch s3).hg = s3.hg from rfl, hg3, hg2]
  · exact fun e => filled (List.eq_nil_of_length_eq_zero (by rw [← count, e]; rfl))

theorem stripCounts_owed (len : k < s.swa.strip.length) : ((stripCounts s k).strip k).owed = (s.strip k).owed := by
  unfold stripCounts
  extract_lets s1 lag ring s2
  have e1 : s1.swa = s.swa := rfl
  have e2 : s2.swa = s1.swa := rfl
  clear_value s2 s1
  have at2 : s2.strip k = s.strip k := by rw [State.strip, e2, e1, State.strip]
  have set : ∀ b, ((s2.setStrip k { s2.strip k with lagged := b }).strip k).owed = (s.strip k).owed := fun b => by
    rw [strip_setStrip (by rw [e2, e1]; exact len), at2]
  have event : ∀ v : State, (v.event 51).strip k = v.strip k := fun v => by rw [State.strip, State.event_swa, State.strip]
  split
  · split
    · split
      · rw [at2]
      · rw [event, set]
    · split
      · rw [set]
      · rw [at2]
  · rw [State.strip, e1, State.strip]

/-- The words of a strip's unload pointer and unloaded frames. -/
def UnloadWord (k a : Nat) : Prop := a = A.SWA_STs_UPTR_LO k ∨ a = A.SWA_STs_UPTR_LO k + 4 ∨ a = A.SWA_STs_UNLD_LO k ∨ a = A.SWA_STs_UNLD_LO k + 4

theorem stripCounts_unload (small : k < 8) : Stands (UnloadWord k) s (stripCounts s k) := by
  refine stripCounts_stands_of ?_ ?_ ?_
  · simp only [UnloadWord, A.SWA_STs_PEND, A.SWA_STs_UPTR_LO, A.SWA_STs_UNLD_LO]
    omega
  · simp only [UnloadWord, A.SWA_STs_LAG, A.SWA_STs_UPTR_LO, A.SWA_STs_UNLD_LO]
    omega
  · intro a h m
    simp only [UnloadWord, A.SWA_STs_UPTR_LO, A.SWA_STs_UNLD_LO] at h
    simp only [sourceRegs, A.INT_SRCs, A.INT_Gg_EDGE_LO, A.INT_Gg_COAL_LO, List.mem_cons, List.not_mem_nil, or_false] at m
    omega

theorem unloadAck_spec {due : Nat → Bool} (h : due = fun t => decide (stripUptr s k ≤ t) && decide (t < n)) (small : k < 8) (len : k < s.swa.strip.length) (above : stripUptr s k < n) (fits : n < 2 ^ 64) :
    stripUptr (unloadAck s k n) k = n ∧
    (unloadAck s k n).pair (A.SWA_STs_UNLD_LO k) = (s.pair (A.SWA_STs_UNLD_LO k) + owedIn (s.strip k).owed due) % 2 ^ 64 ∧
    (∀ e ∈ ((unloadAck s k n).strip k).owed, e.1 < stripUptr s k ∨ n ≤ e.1) ∧ (unloadAck s k n).swa.mem = s.swa.mem ∧ (unloadAck s k n).que = s.que := by
  subst h
  rw [unloadAck, if_pos above]
  extract_lets st due s1 s2 s3
  have lo2 : s2.pair (A.SWA_STs_UPTR_LO k) = n := by
    rw [pair_setPair_same, Nat.mod_eq_of_lt fits]
  have unld : s2.pair (A.SWA_STs_UNLD_LO k) = (s.pair (A.SWA_STs_UNLD_LO k) + owedIn (s.strip k).owed due) % 2 ^ 64 := by
    simp only [s2, s1]
    rw [pair_setPair_apart _ (by simp only [pairRegs, List.mem_cons, List.not_mem_nil, or_false, A.SWA_STs_UNLD_LO, A.SWA_STs_UPTR_LO]; omega), pair_bump64_same]
  have swa2 : s2.swa = s.swa := rfl
  have que2 : s2.que = s.que := rfl
  clear_value s2
  have len3 : k < s3.swa.strip.length := by
    rw [show s3 = s2.setStrip k _ from rfl, (OthersStand.setStrip (s := s2)).1, swa2]
    exact len
  have owed3 : (s3.strip k).owed = st.owed.filter (fun e => !due e.1) := congrArg StripSt.owed (strip_setStrip (s := s2) (by rw [swa2]; exact len))
  have pairs : ∀ a, s3.pair a = s2.pair a := fun _ => rfl
  have mem3 : s3.swa.mem = s.swa.mem := by rw [← swa2]; rfl
  have que3 : s3.que = s.que := by rw [← que2]; rfl
  clear_value s3
  have counts := stripCounts_unload (s := s3) small
  refine ⟨?_, ?_, fun e he => ?_, by rw [stripCounts_mem, mem3], ((stripCounts_keeps).que rfl).trans que3⟩
  · rw [stripUptr, counts.pair (.inl rfl) (.inr (.inl rfl)), pairs, lo2]
  · rw [counts.pair (.inr (.inr (.inl rfl))) (.inr (.inr (.inr rfl))), pairs, unld]
  · rw [stripCounts_owed len3, owed3] at he
    have out := (List.mem_filter.mp he).2
    simp only [due, Bool.not_and, Bool.or_eq_true, Bool.not_eq_true', decide_eq_false_iff_not] at out
    omega

end

end Sys2Proof.Machine

open Sys2Proof Sys2Proof.Machine

/-- Settles O24: the mitten shuts, or at a wake's edge opens afresh; the unload engine waits on it, or offers the next complete
block; the host's acknowledgement moves the unload pointer. -/
theorem mittenAndUnload : Obligations.MittenAndUnload := by
  unfold Obligations.MittenAndUnload
  intro s
  have closed : ∀ {c : Instr} {n : Nat}, n < 16 → (exec c s = .next (mittenShut s n)) → 
      Gives c s (fun t => OnlyRegs s t ∧ t.flag F.SWA_MITTEN_OPEN = false ∧ t.flag F.SWA_MITTEN_SS_OPEN = false ∧ t.get F.SWA_MITTEN_IDLE = 0 ∧
    t.get F.SWA_MITTEN_CAUSE = n ∧ t.get F.SWA_MITTEN_TMO = s.get F.SWA_MITTEN_TMO ∧ EdgeTaken s t 49 ∧
    RegsKept s t (A.SWA_MITTEN :: sourceRegs 49)) := fun small h => by
    obtain ⟨w1, w2, w3, w4, w5⟩ := mittenShut_words (s := s) small
    exact ⟨_, h, mittenShut_parts, w1, w2, w3, w4, w5, mittenShut_edge, mittenShut_kept⟩
  refine ⟨fun o standing quiet => ?_, fun o m standing wake => ?_, fun o shut short => ?_, fun standing hsck run => ?_, fun idle => ?_,
    fun k unl runs state waits => ⟨fun fresh => ?_, fun held => ?_⟩, fun k b length unl runs state o found inside => ⟨fun dest => ?_, fun x ports dest => ⟨fun up valid route room => ?_, fun blocked => ?_⟩⟩,
    fun k idle => ?_, fun k n length on unl dest whole above below => ?_, fun k n refused => ?_⟩
  · rw [Bool.or_eq_true] at standing
    exact closed (n := if byHost o then 1 else 2) (by split <;> decide) (by
      rw [mittenRelease_closes, mittenClose_quiet (by simpa using standing) quiet])
  · refine ⟨mittenOpening (mittenShut s (if byHost o then 1 else 2)) m, ?_, ?_⟩
    · rw [mittenRelease_closes, mittenClose_wake standing wake (by split <;> decide)]
    · obtain ⟨-, -, -, cause, tmo⟩ := mittenShut_words (s := s) (c := if byHost o then 1 else 2) (by split <;> decide)
      obtain ⟨shown, idle, last, first, second⟩ := mittenOpening_shown (s := mittenShut s (if byHost o then 1 else 2)) (m := m)
      exact ⟨shown, idle.trans tmo, last.trans cause, first, second.trans (flag_event_pending _)⟩
  · exact ⟨s, congrArg Host.Outcome.next (mittenClose_shut (by simp [shut, short])), rfl⟩
  · obtain ⟨t, e, h1, h2, h3, h4, h5, -, h6, h7⟩ := closed (c := .mittenIdleTimeout) (n := 3) (by decide) (congrArg Host.Outcome.next (by
      rw [if_pos (by simp [standing, hsck, run]), mittenClose_timeout (by simp [standing])]))
    exact ⟨t, e, h1, h2, h3, h4, h5, h6, h7⟩
  · refine ⟨s, congrArg Host.Outcome.next (if_neg ?_), rfl⟩
    obtain h | h | h := idle <;> simp [h]
  · have next : unloadNext s k = unloadWait s k := by
      rw [unloadNext_runs unl runs state]
      obtain h | ⟨b, found, before⟩ := waits
      · simp [h]
      · split
        · rfl
        · rw [found]
          exact if_pos before
    obtain ⟨h1, h2, h3, h4⟩ := unloadWait_counts fresh
    exact ⟨unloadWait s k, congrArg Host.Outcome.next ((if_pos k.isLt).trans next), h1, h2, h3, h4⟩
  · have next : unloadNext s k = s := by
      rw [unloadNext_runs unl runs state]
      obtain h | ⟨b, found, before⟩ := waits
      · simp [h, unloadWait_waits held]
      · split
        · exact unloadWait_waits held
        · rw [found]
          exact (if_pos before).trans (unloadWait_waits held)
    exact ⟨s, congrArg Host.Outcome.next ((if_pos k.isLt).trans next), rfl⟩
  · have next : unloadNext s k = mittenTouch ((s.setStrip k { s.strip k with sent := b.2 + 256 }).mark (F.SWA_STs_UNL_WAIT k) false) := by
      rw [unloadNext_runs unl runs state, if_neg (by simp [o]), found]
      exact (if_neg (by omega)).trans (if_neg (by omega))
    have apart : A.SWA_STs_UNL k ≠ A.SWA_MITTEN := by simp only [A.SWA_STs_UNL, A.SWA_MITTEN]; omega
    refine ⟨_, congrArg Host.Outcome.next ((if_pos k.isLt).trans next), nth_setNth_same (by rw [length]; exact k.isLt), ?_, rfl, ?_, rfl, rfl, ?_⟩
    · rw [mittenTouch_words.1]
      exact get_mark_apart _ _ _ _ (show 8 + 1 ≤ 32 by decide) (.inl apart)
    · rw [(mittenTouch_words (s := (s.setStrip k { s.strip k with sent := b.2 + 256 }).mark (F.SWA_STs_UNL_WAIT k) false)).2.2.2.flag (by simpa using apart)]
      exact flag_mark_same _ _ _ (show 8 + 1 ≤ 32 by decide) rfl
    · have waits : RegsKept s ((s.setStrip k { s.strip k with sent := b.2 + 256 }).mark (F.SWA_STs_UNL_WAIT k) false) [A.SWA_STs_UNL k] := fun a h =>
        mark_kept (s.setStrip k _) (F.SWA_STs_UNL_WAIT k) false a h
      exact (waits.trans mittenTouch_words.2.2.2).mono (by simp)
  · obtain ⟨h1, h2, h3, h4, h5⟩ := bulkSend_sent (stamp := b.2) (idx := b.1) (by rw [length]; exact k.isLt) (by rw [ports]; exact x.isLt) dest up valid route room
    have next : unloadNext s k = bulkSend s k b.1 b.2 := by
      rw [unloadNext_runs unl runs state, if_neg (by simp [o]), found]
      exact (if_neg (by omega)).trans (if_pos (by omega))
    exact ⟨_, congrArg Host.Outcome.next ((if_pos k.isLt).trans next), h1, h2, h3, h4, h5⟩
  · have next : unloadNext s k = bulkSend s k b.1 b.2 := by
      rw [unloadNext_runs unl runs state, if_neg (by simp [o]), found]
      exact (if_neg (by omega)).trans (if_pos (by omega))
    exact ⟨s, congrArg Host.Outcome.next ((if_pos k.isLt).trans (next.trans (bulkSend_blocked dest blocked))), rfl⟩
  · have next : unloadNext s k = s := by
      obtain h | h | h | ⟨o, absent⟩ := idle
      · exact unloadNext_idle (.inl h)
      · exact unloadNext_idle (.inr (.inl h))
      · exact unloadNext_idle (.inr (.inr h))
      · by_cases runs : (s.strip k).unl = true ∧ s.coreRuns = true ∧ (s.pstate ≠ RECORD ∨ s.pwr.trans = none)
        · rw [unloadNext_runs runs.1 runs.2.1 runs.2.2, if_neg (by simp [o]), absent]
        · refine if_neg fun h => runs ?_
          simp only [Bool.and_eq_true, Bool.or_eq_true, decide_eq_true_eq, Option.isNone_iff_eq_none] at h
          exact ⟨h.1.1, h.1.2, h.2⟩
    exact ⟨s, congrArg Host.Outcome.next ((if_pos k.isLt).trans next), rfl⟩
  · have acked := unloadAck_spec (s := s) (k := k) (n := n) rfl k.isLt (by rw [length]; exact k.isLt) above
      (by have := pair_lt (s := s) A.SWA_SC_LO; simp only [swathSC] at below; omega)
    exact ⟨_, congrArg Host.Outcome.next (if_pos (by simp [on, unl, dest, whole, above, below])), acked⟩
  · refine ⟨s, congrArg Host.Outcome.next (if_neg ?_), rfl⟩
    obtain h | h | h | h | h | h := refused
    · simp [h]
    · simp [h]
    · simp [h]
    · simp [h]
    · simp [Nat.not_lt.mpr h]
    · have : ¬ n ≤ swathSC s / 256 * 256 := by omega
      simp [this]

end

section
/-! PROOFS. Zeroize, its sweeps, the patrol scrub and row repair (O25). -/

namespace Sys2Proof.Machine

section

variable {s t u : State} {c j k m n r x : Nat}

/-! ## A strip at a zeroize -/

/-- The words of a strip's pending frames and of the counts that they come from. -/
def PendWord (k a : Nat) : Prop := a = A.SWA_STs_PEND k ∨ a = A.SWA_STs_PROD_LO k ∨ a = A.SWA_STs_PROD_LO k + 4 ∨ a = A.SWA_STs_UNLD_LO k ∨
  a = A.SWA_STs_UNLD_LO k + 4 ∨ a = A.SWA_STs_EXP_LO k ∨ a = A.SWA_STs_EXP_LO k + 4 ∨ a = A.SWA_STs_DISC_LO k ∨ a = A.SWA_STs_DISC_LO k + 4 ∨
  a = A.SWA_STs_LOST_LO k ∨ a = A.SWA_STs_LOST_LO k + 4

theorem pendWord_range {a : Nat} (h : PendWord k a) : a = 0x070118 + 0x80 * k ∨ (0x070130 + 0x80 * k ≤ a ∧ a < 0x070158 + 0x80 * k) := by
  simp only [PendWord, A.SWA_STs_PEND, A.SWA_STs_PROD_LO, A.SWA_STs_UNLD_LO, A.SWA_STs_EXP_LO, A.SWA_STs_DISC_LO, A.SWA_STs_LOST_LO] at h
  omega

theorem pendWord_pair {lo v : Nat} (apart : ∀ a, PendWord k a → a ≠ lo ∧ a ≠ lo + 4) : Stands (PendWord k) s (s.setPair lo v) :=
  .of_kept (setPair_kept s lo v) fun a h m => by
    simp only [List.mem_cons, List.not_mem_nil, or_false] at m
    exact m.elim (apart a h).1 (apart a h).2

/-- The words of another strip, and those before the strips'. -/
theorem pendWord_apart {a lo d : Nat} (h : PendWord k a) (e : (lo = 0x070100 + 0x80 * j + d ∧ d < 0x80 ∧ j ≠ k) ∨ lo < 0x070118 ∨
    (lo = 0x070100 + 0x80 * k + d ∧ d < 0x80 ∧ (d < 0x18 ∨ (0x18 < d ∧ d < 0x30) ∨ 0x58 ≤ d))) : a ≠ lo := by
  have := pendWord_range h
  omega

theorem stripPend_of (h : Stands (PendWord k) s t) : stripPend t k = stripPend s k := by
  unfold stripPend
  rw [h.pair (by simp [PendWord]) (by simp [PendWord]), h.pair (by simp [PendWord]) (by simp [PendWord]), h.pair (by simp [PendWord]) (by simp [PendWord]),
    h.pair (by simp [PendWord]) (by simp [PendWord]), h.pair (by simp [PendWord]) (by simp [PendWord])]

theorem OthersStand.put {f : Fld} {v : Nat} : OthersStand k s (s.put f v) := .of_strips (Eq.refl _)

theorem strip_put {f : Fld} {v : Nat} : (s.put f v).strip k = s.strip k := rfl

theorem stripZero_others : OthersStand k s (stripZero s k) := by
  unfold stripZero stripDiscard
  extract_lets st s1 s2 st2
  have h1 : OthersStand k s s1 := .setStrip
  have h2 : OthersStand k s1 s2 := .of_regs (by simp [s2])
  exact ((h1.trans h2).trans .setStrip).trans .put

theorem stripZero_pend (other : j ≠ k) : Stands (PendWord k) s (stripZero s j) := by
  unfold stripZero stripDiscard
  extract_lets st s1 s2 st2
  have h1 : Stands (PendWord k) s s1 := Stands.rfl.parts rfl
  have h2 : Stands (PendWord k) s1 s2 := pendWord_pair fun a h =>
    ⟨pendWord_apart (j := j) (d := 0x48) h (.inl ⟨by simp only [A.SWA_STs_DISC_LO]; omega, by decide, other⟩),
     pendWord_apart (j := j) (d := 0x4C) h (.inl ⟨by simp only [A.SWA_STs_DISC_LO]; omega, by decide, other⟩)⟩
  have h3 : Stands (PendWord k) s2 (s2.setStrip j { st2 with owed := [] }) := Stands.rfl.parts rfl
  exact ((h1.trans h2).trans h3).trans (Stands.put fun h =>
    pendWord_apart (j := j) (d := 0x18) h (.inl ⟨by simp only [A.SWA_STs_PEND]; omega, by decide, other⟩) rfl)

/-- The tags that a zeroize leaves a ring: the block in progress alone. -/
def zeroTags (c : Option BlockSt) : List (Nat × Nat) := match c with
  | some b => [(b.idx, b.stamp)]
  | none => []

/-- The block in progress at a zeroize: its frames so far count as zeroized. -/
def zeroBlock (c : Option BlockSt) : Option BlockSt := c.map (fun b => if b.frames = 0 then b else { b with zero := true, validFrom := b.frames, uns := 0, disc := 0, sat := 0, unsEnd := 0 })

/-- A strip of the swath after its zeroize. -/
def StripZeroed (k : Nat) (s t : State) : Prop := t.get (F.SWA_STs_PEND_FRAMES k) = 0 ∧
  t.pair (A.SWA_STs_DISC_LO k) = (s.pair (A.SWA_STs_DISC_LO k) + stripPend s k) % 2 ^ 64 ∧ (t.strip k).owed = [] ∧
  (t.strip k).tags = zeroTags (s.strip k).cur ∧ (t.strip k).cur = zeroBlock (s.strip k).cur

theorem stripZero_zeroed (len : k < s.swa.strip.length) : StripZeroed k s (stripZero s k) := by
  unfold stripZero stripDiscard
  extract_lets st s1 s2 st2 
  have st1 : s1.strip k = { st with tags := zeroTags st.cur, cur := zeroBlock st.cur, flight := [] } := strip_setStrip len
  have len1 : k < s1.swa.strip.length := by rw [(OthersStand.setStrip (s := s)).1]; exact len
  have disc : s2.pair (A.SWA_STs_DISC_LO k) = (s.pair (A.SWA_STs_DISC_LO k) + stripPend s k) % 2 ^ 64 := pair_bump64_same s1 _ _
  have swa2 : s2.swa = s1.swa := rfl
  have e2 : st2 = s1.strip k := by simp only [st2]; rw [State.strip, swa2, State.strip]
  clear_value st2 s2 s1
  have st3 : (s2.setStrip k { st2 with owed := [] }).strip k = { st2 with owed := [] } := strip_setStrip (by rw [swa2]; exact len1)
  refine ⟨?_, ?_, ?_, ?_, ?_⟩
  · rw [get_put_same _ _ _ (show 0 + 32 ≤ 32 by decide), Nat.zero_mod]
  · rw [pair_put_apart _ (by simp only [A.SWA_STs_PEND, A.SWA_STs_DISC_LO]; omega)]
    exact disc
  · rw [strip_put, st3]
  · rw [strip_put, st3, e2, st1]
  · rw [strip_put, st3, e2, st1]

/-- A ring's pending frames, its tags and its block in progress stand, and the strips' number. -/
def RingKept (k : Nat) (s t : State) : Prop := t.swa.strip.length = s.swa.strip.length ∧ (t.strip k).owed = (s.strip k).owed ∧
  (t.strip k).tags = (s.strip k).tags ∧ (t.strip k).cur = (s.strip k).cur

theorem RingKept.rfl : RingKept k s s := ⟨Eq.refl _, Eq.refl _, Eq.refl _, Eq.refl _⟩

theorem RingKept.trans (h : RingKept k s t) (l : RingKept k t u) : RingKept k s u := by
  obtain ⟨h1, h2, h3, h4⟩ := h
  obtain ⟨l1, l2, l3, l4⟩ := l
  exact ⟨l1.trans h1, l2.trans h2, l3.trans h3, l4.trans h4⟩

theorem RingKept.of_strip (e : t.swa.strip = s.swa.strip) : RingKept k s t := by
  have h : t.strip k = s.strip k := by rw [State.strip, e, State.strip]
  rw [RingKept, e, h]
  exact ⟨Eq.refl _, Eq.refl _, Eq.refl _, Eq.refl _⟩

theorem OthersStand.ring (h : OthersStand j s t) (other : k ≠ j) : RingKept k s t := by
  have e := h.2 k other
  rw [RingKept, h.1, e]
  exact ⟨Eq.refl _, Eq.refl _, Eq.refl _, Eq.refl _⟩

theorem StripZeroed.kept (h : StripZeroed k s t) (ring : RingKept k t u) (words : Stands (PendWord k) t u) : StripZeroed k s u := by
  obtain ⟨pend, disc, owed, tags, cur⟩ := h
  obtain ⟨-, o, g, c⟩ := ring
  exact ⟨(words.get (by simp [PendWord])).trans pend, (words.pair (by simp [PendWord]) (by simp [PendWord])).trans disc, o.trans owed, g.trans tags, c.trans cur⟩

theorem StripZeroed.from {s' : State} (h : StripZeroed k s t) (ring : RingKept k s' s) (words : Stands (PendWord k) s' s) : StripZeroed k s' t := by
  obtain ⟨pend, disc, owed, tags, cur⟩ := h
  obtain ⟨-, -, -, c⟩ := ring
  rw [c] at tags cur
  exact ⟨pend, by rw [disc, stripPend_of words, words.pair (by simp [PendWord]) (by simp [PendWord])], owed, tags, cur⟩

/-- Each enabled strip is zeroized once. -/
theorem stripZeros_zeroed {l : List Nat} (distinct : l.Nodup) (mem : k ∈ l) (len : k < s.swa.strip.length) : StripZeroed k s (forEach l stripZero s) := by
  refine forEach_once (k := k) (P := fun u => RingKept k s u ∧ Stands (PendWord k) s u) (Q := StripZeroed k s) distinct mem ⟨.rfl, Stands.rfl⟩ ?_ ?_ ?_
  · rintro u j other ⟨ring, words⟩
    exact ⟨ring.trans ((stripZero_others).ring other.symm), words.trans (stripZero_pend other)⟩
  · rintro u ⟨ring, words⟩
    exact (stripZero_zeroed (by rw [ring.1]; exact len)).from ring words
  · rintro u j other h
    exact h.kept ((stripZero_others).ring other.symm) (stripZero_pend other)

/-- A strip that unloads goes on from the block at SC. -/
def unloadRebase (sc : Nat) (s : State) (k : Nat) : State :=
  let s := s.setPair (A.SWA_STs_UPTR_LO k) (sc / 256 * 256)
  s.setStrip k { s.strip k with sent := sc / 256 * 256 }

theorem unloadRebase_ring (len : j < s.swa.strip.length) : RingKept k s (unloadRebase n s j) := by
  by_cases e : k = j
  · subst e
    unfold unloadRebase
    extract_lets s1
    have e1 : s1.swa = s.swa := rfl
    have at1 : s1.strip k = s.strip k := by rw [State.strip, e1, State.strip]
    clear_value s1
    have len1 : k < s1.swa.strip.length := by rw [e1]; exact len
    refine ⟨by rw [(OthersStand.setStrip (s := s1)).1, e1], ?_, ?_, ?_⟩ <;> rw [strip_setStrip len1, ← at1]
  · exact ((OthersStand.of_regs (t := s.setPair (A.SWA_STs_UPTR_LO j) (n / 256 * 256)) (by simp)).trans .setStrip).ring e

theorem unloadRebase_pend (small : j < 8) : Stands (PendWord k) s (unloadRebase n s j) := by
  have pair : Stands (PendWord k) s (s.setPair (A.SWA_STs_UPTR_LO j) (n / 256 * 256)) := pendWord_pair fun a h => by
    have := pendWord_range h
    simp only [A.SWA_STs_UPTR_LO]
    omega
  exact (pair).parts rfl

theorem mittenWindow_pend (small : k < 8) : Stands (PendWord k) s (mittenWindow s m) := by
  have early : ∀ {u : State} {lo v : Nat}, lo + 4 < 0x070118 → Stands (PendWord k) u (u.setPair lo v) := fun low => pendWord_pair fun a h => by
    have := pendWord_range h
    omega
  unfold mittenWindow
  dsimp only
  refine .ite ((early (by decide)).trans (Stands.put fun h => ?_)) ((early (by decide)).trans (Stands.forEach fun u j h => Stands.put fun h => ?_))
  · have := pendWord_range h
    simp only [A.SWA_SSAVAIL] at this
    omega
  · have := pendWord_range h
    simp only [A.SWA_STs_AVAIL] at this
    omega

theorem zeroWake_pend {b : Bool} (small : k < 8) : Stands (PendWord k) s (zeroWake s b) := by
  unfold zeroWake
  split
  · exact .ite (mittenWindow_pend small) Stands.rfl
  · exact Stands.rfl

/-! ## The swath's zeroize -/

/-- The words before the windows', and all outside the swath's block. -/
def EarlyWord (a : Nat) : Prop := a < 0x070028 ∨ 0x080000 ≤ a

theorem early_pair {lo v : Nat} (low : 0x070028 ≤ lo) (high : lo + 4 < 0x080000) : Stands EarlyWord s (s.setPair lo v) :=
  .of_kept (setPair_kept s lo v) fun a h m => by
    simp only [List.mem_cons, List.not_mem_nil, or_false] at m
    simp only [EarlyWord] at h
    omega

theorem early_put {f : Fld} {v : Nat} (low : 0x070028 ≤ f.addr) (high : f.addr < 0x080000) : Stands EarlyWord s (s.put f v) :=
  Stands.put fun h => by
    simp only [EarlyWord] at h
    omega

theorem stripZero_early (small : j < 8) : Stands EarlyWord s (stripZero s j) := by
  unfold stripZero stripDiscard
  extract_lets st s1 s2 st2
  have h1 : Stands EarlyWord s s1 := Stands.rfl.parts rfl
  have h2 : Stands EarlyWord s1 s2 := early_pair (by simp only [A.SWA_STs_DISC_LO]; omega) (by simp only [A.SWA_STs_DISC_LO]; omega)
  have h3 : Stands EarlyWord s2 (s2.setStrip j { st2 with owed := [] }) := Stands.rfl.parts rfl
  exact ((h1.trans h2).trans h3).trans (early_put (by simp only [A.SWA_STs_PEND]; omega) (by simp only [A.SWA_STs_PEND]; omega))

theorem unloadRebase_early (small : j < 8) : Stands EarlyWord s (unloadRebase n s j) := by
  have pair : Stands EarlyWord s (s.setPair (A.SWA_STs_UPTR_LO j) (n / 256 * 256)) :=
    early_pair (by simp only [A.SWA_STs_UPTR_LO]; omega) (by simp only [A.SWA_STs_UPTR_LO]; omega)
  exact (pair).parts rfl

theorem mittenWindow_early : Stands EarlyWord s (mittenWindow s m) := by
  unfold mittenWindow
  dsimp only
  refine .ite ((early_pair (by decide) (by decide)).trans (early_put (by decide) (by decide)))
    ((early_pair (by decide) (by decide)).trans (Stands.forEach fun u j h => early_put ?_ ?_))
  all_goals
    have small := mem_upto (List.mem_filter.mp h).1
    simp only [A.SWA_STs_AVAIL]
    omega

theorem zeroWake_early {b : Bool} : Stands EarlyWord s (zeroWake s b) := by
  unfold zeroWake
  split
  · exact .ite mittenWindow_early Stands.rfl
  · exact Stands.rfl

theorem avail_window {l : List Nat} {f : State → Nat → Nat} :
    (forEach l (fun s k => s.put (F.SWA_STs_AVAIL_FRAMES k) (f s k)) s).pair A.SWA_WSTART_LO = s.pair A.SWA_WSTART_LO := by
  have apart : Stands (fun a => a < 0x070100) s (forEach l (fun s k => s.put (F.SWA_STs_AVAIL_FRAMES k) (f s k)) s) :=
    Stands.forEach fun _ _ _ => Stands.put fun h => by
      simp only [A.SWA_STs_AVAIL] at h
      omega
  exact apart.pair (by decide) (by decide)

/-- The window of a mark outside SENTRY. -/
theorem mittenWindow_start (awake : s.pstate ≠ SENTRY) : (mittenWindow s m).pair A.SWA_WSTART_LO =
    Nat.max (m - prerollFrames s) ((sameEdge s s.swa.zeroAt).getD 0) % 2 ^ 64 := by
  rw [mittenWindow, if_neg awake]
  dsimp only
  rw [avail_window, pair_setPair_same]

/-- A zeroize in steps: the mark of its edge, the strips, the strips that unload, the window, the bytes. -/
theorem zeroSwath_steps : ∃ s1 s2 s3 s4 : State, s1 = { s with swa := { s.swa with zeroAt := some (s.time.hsck, swathSC s) } } ∧
    s2 = forEach ((upto 8).filter (stripOn s)) stripZero s1 ∧ s3 = forEach ((upto 8).filter (fun k => (s2.strip k).unl)) (unloadRebase (swathSC s)) s2 ∧
    s4 = zeroWake (s3.setPair A.SWA_WSTART_LO (swathSC s)) false ∧ zeroSwath s = { s4 with swa := { s4.swa with mem := [], bad := [], soft := [] } } :=
  ⟨_, _, _, _, rfl, rfl, rfl, rfl, rfl⟩

theorem zeroSwath_early : Stands EarlyWord s (zeroSwath s) := by
  obtain ⟨s1, s2, s3, s4, h1, h2, h3, h4, e⟩ := zeroSwath_steps (s := s)
  have k1 : Stands EarlyWord s s1 := h1 ▸ Stands.rfl.parts rfl
  have k2 : Stands EarlyWord s1 s2 := h2 ▸ Stands.forEach fun _ _ h => stripZero_early (mem_upto (List.mem_filter.mp h).1)
  have k3 : Stands EarlyWord s2 s3 := h3 ▸ Stands.forEach fun _ _ h => unloadRebase_early (mem_upto (List.mem_filter.mp h).1)
  have k4 : Stands EarlyWord s3 s4 := h4 ▸ (early_pair (by decide) (by decide)).trans zeroWake_early
  exact (((k1.trans k2).trans k3).trans k4).parts (by rw [e])

theorem stripZeros_length {l : List Nat} : (forEach l stripZero s).swa.strip.length = s.swa.strip.length :=
  forEach_keeps (fun s => s.swa.strip.length) l stripZero s fun _ _ => stripZero_others.1

theorem unloadRebases_ring {l : List Nat} (small : ∀ j ∈ l, j < 8) (length : s.swa.strip.length = 8) : RingKept k s (forEach l (unloadRebase n) s) := by
  unfold Machine.forEach
  induction l generalizing s with
  | nil => exact .rfl
  | cons j l ih =>
    have one : RingKept k s (unloadRebase n s j) := unloadRebase_ring (by rw [length]; exact small j List.mem_cons_self)
    exact one.trans (ih (fun i hi => small i (List.mem_cons_of_mem _ hi)) (one.1.trans length))

/-- Every enabled strip is zeroized, whatever unloads and whatever window a wake at the same edge has. -/
theorem zeroSwath_zeroed (length : s.swa.strip.length = 8) (small : k < 8) (on : stripOn s k = true) : StripZeroed k s (zeroSwath s) := by
  obtain ⟨s1, s2, s3, s4, h1, h2, h3, h4, e⟩ := zeroSwath_steps (s := s)
  have r1 : RingKept k s s1 := h1 ▸ .of_strip rfl
  have k1 : Stands (PendWord k) s s1 := h1 ▸ Stands.rfl.parts rfl
  have l1 : s1.swa.strip.length = 8 := r1.1.trans length
  have l2 : s2.swa.strip.length = 8 := h2 ▸ (stripZeros_length).trans l1
  have z2 : StripZeroed k s1 s2 := h2 ▸ stripZeros_zeroed on_distinct (on_mem small on) (by rw [l1]; exact small)
  have r3 : RingKept k s2 s3 := h3 ▸ unloadRebases_ring (fun _ h => mem_upto (List.mem_filter.mp h).1) l2
  have k3 : Stands (PendWord k) s2 s3 := h3 ▸ Stands.forEach fun _ _ h => unloadRebase_pend (mem_upto (List.mem_filter.mp h).1)
  have r4 : RingKept k s3 s4 := h4 ▸ .of_strip (congrArg SwaSt.strip ((zeroWake_swa).trans (State.setPair_swa ..)))
  have k4 : Stands (PendWord k) s3 s4 := h4 ▸ (pendWord_pair fun a h => by
    have := pendWord_range h
    simp only [A.SWA_WSTART_LO]
    omega).trans (zeroWake_pend small)
  have r5 : RingKept k s4 (zeroSwath s) := e ▸ .of_strip rfl
  exact (((z2.from r1 k1).kept r3 k3).kept r4 k4).kept r5 (Stands.rfl.parts (by rw [e]))

/-- The part of a state that a wake at the same edge is found by. -/
def EdgeKept (s t : State) : Prop := t.time = s.time ∧ t.clk = s.clk ∧ t.swa.openAt = s.swa.openAt ∧ t.swa.zeroAt = s.swa.zeroAt

theorem EdgeKept.trans (h : EdgeKept s t) (l : EdgeKept t u) : EdgeKept s u := by
  obtain ⟨h1, h2, h3, h4⟩ := h
  obtain ⟨l1, l2, l3, l4⟩ := l
  exact ⟨l1.trans h1, l2.trans h2, l3.trans h3, l4.trans h4⟩

theorem EdgeKept.forEach {α : Type} {l : List α} {g : State → α → State} (h : ∀ s a, EdgeKept s (g s a)) : EdgeKept s (forEach l g s) := by
  unfold Machine.forEach
  induction l generalizing s with
  | nil => exact ⟨rfl, rfl, rfl, rfl⟩
  | cons a l ih => exact (h s a).trans ih

/-- W after a zeroize: SC, or the window of a wake at the same edge from SC on. -/
theorem zeroSwath_window (awake : s.pstate ≠ SENTRY) :
    (sameEdge s s.swa.openAt = none ∨ mittenOpen s = false → (zeroSwath s).pair A.SWA_WSTART_LO = swathSC s) ∧
    ∀ m, sameEdge s s.swa.openAt = some m → mittenOpen s = true →
      (zeroSwath s).pair A.SWA_WSTART_LO = Nat.max (m - prerollFrames s) (swathSC s) % 2 ^ 64 := by
  obtain ⟨s1, s2, s3, s4, h1, h2, h3, h4, e⟩ := zeroSwath_steps (s := s)
  have early : Stands EarlyWord s s3 := by
    have k1 : Stands EarlyWord s s1 := h1 ▸ Stands.rfl.parts rfl
    have k2 : Stands EarlyWord s1 s2 := h2 ▸ Stands.forEach fun _ _ h => stripZero_early (mem_upto (List.mem_filter.mp h).1)
    have k3 : Stands EarlyWord s2 s3 := h3 ▸ Stands.forEach fun _ _ h => unloadRebase_early (mem_upto (List.mem_filter.mp h).1)
    exact (k1.trans k2).trans k3
  have edge : EdgeKept s1 s3 := by
    have k2 : EdgeKept s1 s2 := h2 ▸ .forEach fun _ _ => ⟨rfl, rfl, rfl, rfl⟩
    have k3 : EdgeKept s2 s3 := h3 ▸ .forEach fun _ _ => ⟨rfl, rfl, rfl, rfl⟩
    exact k2.trans k3
  have at1 : EdgeKept s1 (s3.setPair A.SWA_WSTART_LO (swathSC s)) := edge.trans ⟨rfl, rfl, rfl, rfl⟩
  obtain ⟨time, clk, openAt, zeroAt⟩ := at1
  have kept : Stands (fun a => a < 0x070028) s (s3.setPair A.SWA_WSTART_LO (swathSC s)) :=
    Stands.weaken (early.trans (early_pair (by decide) (by decide))) fun a h => .inl h
  have start : (s3.setPair A.SWA_WSTART_LO (swathSC s)).pair A.SWA_WSTART_LO = swathSC s := by
    rw [pair_setPair_same]
    exact Nat.mod_eq_of_lt (pair_lt A.SWA_SC_LO)
  have final : (zeroSwath s).pair A.SWA_WSTART_LO = s4.pair A.SWA_WSTART_LO := by
    rw [e]
    rfl
  generalize s3.setPair A.SWA_WSTART_LO (swathSC s) = u at h4 time clk openAt zeroAt kept start
  subst h1 h4
  have same : sameEdge u u.swa.openAt = sameEdge s s.swa.openAt := by
    rw [openAt]
    unfold sameEdge
    rw [time]
  have shown : mittenOpen u = mittenOpen s := kept.flag (by decide)
  rw [final]
  unfold zeroWake
  rw [same]
  refine ⟨fun none => ?_, fun m wake shut => ?_⟩
  · split
    · next m wake =>
      obtain h | h := none
      · rw [h] at wake
        cases wake
      · rw [if_neg (by simp [shown, h])]
        exact start
    · exact start
  · have state : u.pstate = s.pstate := kept.get (by decide)
    rw [wake]
    dsimp only
    rw [if_pos (by simp [shown, shut, state, awake]), mittenWindow_start (by rw [state]; exact awake)]
    have roll : prerollFrames u = prerollFrames s := by
      unfold prerollFrames State.fH
      rw [kept.get (by decide), kept.get (by decide), clk]
    have zero : sameEdge u u.swa.zeroAt = some (swathSC s) := by
      rw [zeroAt]
      exact if_pos (congrArg TimeSt.hsck time).symm
    rw [roll, zero]
    rfl

theorem memGet_nil {a : Nat} : memGet [] a = 0 := rfl

/-- The swath's zeroize outside SENTRY, with its sweep begun. -/
theorem zeroSwathStart_runs (awake : s.pstate ≠ SENTRY) : zeroSwathStart s = State.put { zeroSwath s with swa := { (zeroSwath s).swa with zsw := true } } F.SWA_ST_ZBUSY
    (1 + 2 * b2n (zeroSwath s).swa.zss) := if_neg awake

/-! ## The short swath's zeroize -/

/-- A zeroize of the short swath before the window of a wake at the same edge. -/
theorem zeroShort_steps : ∃ s4 : State, zeroShort s = zeroWake s4 true ∧ s4 = { s with regs := s4.regs, swa := s4.swa } ∧
    s4.swa.openAt = s.swa.openAt ∧ s4.swa.szeroAt = some (s.time.hsck, shortSSC s) ∧ s4.pair A.SWA_SSWSTART_LO = shortSSC s ∧
    s4.pair A.SWA_SSDISC_LO = (s.pair A.SWA_SSDISC_LO + shortHeld s) % 2 ^ 64 ∧
    RegsKept s s4 (pairRegs A.SWA_SSDISC_LO ++ pairRegs A.SWA_SSWSTART_LO) := by
  unfold zeroShort
  extract_lets s1 s2 old s3 cur tags old3 s4
  have ssc : shortSSC s1 = shortSSC s := pair_bump64_apart s (by decide)
  have start : s2.pair A.SWA_SSWSTART_LO = shortSSC s := by
    rw [pair_setPair_same, ssc]
    exact Nat.mod_eq_of_lt (pair_lt A.SWA_SSCTR_LO)
  have disc : s2.pair A.SWA_SSDISC_LO = (s.pair A.SWA_SSDISC_LO + shortHeld s) % 2 ^ 64 := by
    rw [pair_setPair_apart _ (by decide), pair_bump64_same]
  have kept : RegsKept s s2 (pairRegs A.SWA_SSDISC_LO ++ pairRegs A.SWA_SSWSTART_LO) := (bump64_kept _ _ _).trans (setPair_kept _ _ _)
  have ssc2 : shortSSC s2 = shortSSC s := (pair_setPair_apart s1 (by decide)).trans ssc
  have whole : s2 = { s with regs := s2.regs } := rfl
  clear_value s2
  refine ⟨s4, rfl, ?_, ?_, ?_, start, disc, kept⟩
  · simp only [s4, s3]
    rw [whole]
  · simp only [s4, old3, s3, old]
    rw [whole]
  · simp only [s4, old3, s3, old]
    rw [ssc2, whole]

theorem zeroWake_plain (plain : s.pstate ≠ SENTRY ∨ s.flag F.SWA_MITTEN_SS_OPEN = false ∨ sameEdge s s.swa.openAt = none) : zeroWake s true = s := by
  unfold zeroWake
  split
  · next m wake =>
    obtain h | h | h := plain
    · exact if_neg (by simp [h])
    · exact if_neg (by simp [h])
    · rw [h] at wake
      cases wake
  · rfl

/-- The window of a mark in SENTRY. -/
theorem mittenWindow_short (sentry : s.pstate = SENTRY) : (mittenWindow s m).pair A.SWA_SSWSTART_LO =
    Nat.max (m - 16 * s.get F.SWA_PRE_PRE) ((sameEdge s s.swa.szeroAt).getD 0) % 2 ^ 64 := by
  rw [mittenWindow, if_pos sentry]
  dsimp only
  rw [pair_put_apart _ (by decide), pair_setPair_same]

/-- A zeroize of the short swath with no window of a wake to compute afresh. -/
theorem zeroShort_plain (plain : s.pstate ≠ SENTRY ∨ s.flag F.SWA_MITTEN_SS_OPEN = false ∨ sameEdge s s.swa.openAt = none) :
    (zeroShort s).pair A.SWA_SSWSTART_LO = shortSSC s ∧ (zeroShort s).pair A.SWA_SSDISC_LO = (s.pair A.SWA_SSDISC_LO + shortHeld s) % 2 ^ 64 ∧
    RegsKept s (zeroShort s) (pairRegs A.SWA_SSDISC_LO ++ pairRegs A.SWA_SSWSTART_LO) := by
  obtain ⟨s4, e, whole, openAt, -, start, disc, kept⟩ := zeroShort_steps (s := s)
  have edge : sameEdge s4 s4.swa.openAt = sameEdge s s.swa.openAt := by
    rw [openAt, whole]
    rfl
  rw [e, zeroWake_plain]
  · exact ⟨start, disc, kept⟩
  · rw [edge, show s4.pstate = s.pstate from kept.get (by decide), kept.flag (by decide)]
    exact plain

theorem zeroShort_wake (sentry : s.pstate = SENTRY) (o : s.flag F.SWA_MITTEN_SS_OPEN = true) (wake : sameEdge s s.swa.openAt = some m) :
    (zeroShort s).pair A.SWA_SSWSTART_LO = Nat.max (m - 16 * s.get F.SWA_PRE_PRE) (shortSSC s) % 2 ^ 64 := by
  obtain ⟨s4, e, whole, openAt, zeroAt, -, -, kept⟩ := zeroShort_steps (s := s)
  have time : s4.time = s.time := by rw [whole]
  have edge : sameEdge s4 s4.swa.openAt = some m := by
    rw [openAt, ← wake]
    unfold sameEdge
    rw [time]
  have state : s4.pstate = SENTRY := (show s4.pstate = s.pstate from kept.get (by decide)).trans sentry
  have zero : sameEdge s4 s4.swa.szeroAt = some (shortSSC s) := by
    rw [zeroAt]
    exact if_pos (congrArg TimeSt.hsck time).symm
  have shut : s4.flag F.SWA_MITTEN_SS_OPEN = true := (kept.flag (by decide)).trans o
  have window : zeroWake s4 true = mittenWindow s4 m := by
    unfold zeroWake
    rw [edge]
    exact if_pos (by simp [shut, state])
  rw [e, window, mittenWindow_short state, zero, kept.get (by decide)]
  rfl

/-! ## The sweeps -/

/-- Outside start-up and transitions a sweep's end has no other effect. -/
theorem sweepDone_runs {b : Bool} (hsck : s.clk.present = true) (start : s.pwr.start = none) (trans : s.pwr.trans = none)
    (sweep : (if b then s.swa.zss else s.swa.zsw) = true) : exec (.zeroizeSweepDone b) s = .next (zeroDone s b) := by
  have at7 : stepRuns s 7 = false := by rw [stepRuns, start]
  have pwr : (zeroDone s b).pwr = s.pwr := (zeroDone_keeps).pwr rfl
  have done : ∀ w, transDone (zeroDone s b) w = zeroDone s b := fun w => by rw [transDone, pwr, trans]
  have waits : ∀ w, transWaits (zeroDone s b) w = false := fun w => by rw [transWaits, pwr, trans]
  have go : stepsGo (zeroDone s b) = zeroDone s b := by
    rw [stepsGo, show stepRuns (zeroDone s b) 7 = false by rw [stepRuns, pwr, start], if_neg (by simp), startCheck, pwr, start]
  show execZeroizeSweepDone b s = _
  rw [execZeroizeSweepDone, if_pos (by simp [hsck, sweep])]
  dsimp only
  rw [done, waits, at7, if_neg (by simp), if_neg (by simp), go]

/-- The sweeps that still run, as a state shows them. -/
def sweepsLeft (s : State) (sw ss : Bool) : State := State.put { s with swa := { s.swa with zsw := sw, zss := ss } } F.SWA_ST_ZBUSY (b2n sw + 2 * b2n ss)

theorem zeroDone_eq {b : Bool} : zeroDone s b = if ((s.swa.zsw && b) || (s.swa.zss && !b)) = true then sweepsLeft s (s.swa.zsw && b) (s.swa.zss && !b)
    else ((sweepsLeft s (s.swa.zsw && b) (s.swa.zss && !b)).mark F.SWA_ST_ZDONE true).event 54 := rfl

theorem sweepsLeft_busy {sw ss : Bool} : (sweepsLeft s sw ss).get F.SWA_ST_ZBUSY = b2n sw + 2 * b2n ss :=
  get_put_val _ (by decide) (show b2n sw + 2 * b2n ss < 4 by cases sw <;> cases ss <;> decide)

theorem sweepsLeft_kept {sw ss : Bool} : RegsKept s (sweepsLeft s sw ss) [A.SWA_ST] := fun a h =>
  put_kept { s with swa := { s.swa with zsw := sw, zss := ss } } F.SWA_ST_ZBUSY (b2n sw + 2 * b2n ss) a h

/-! ## The patrol scrub -/

theorem wordsStruck_nil : wordsStruck s [] = s := rfl

theorem mem_wordAdd {l : List Nat} : x ∈ wordAdd l x := by
  unfold wordAdd
  split
  · next h => simpa using h
  · simp

theorem wordStruck_mem {w : SwaSt} {bad : Bool} : (x ∈ if bad then (wordStruck w false bad x).bad else (wordStruck w false bad x).soft) ∧
    (x ∈ if bad then (wordStruck w true bad x).badShort else (wordStruck w true bad x).softShort) := by
  cases bad <;> exact ⟨mem_wordAdd, mem_wordAdd⟩

theorem wordsStruck_one {b bad : Bool} (inside : 8 * x < if b then shortBytes else swathBytes) :
    (wordsStruck s [(b, bad, x)]).swa = wordStruck s.swa b bad (8 * x) := by
  have one : wordsStruck s [(b, bad, x)] = if Nat.blt (8 * x) (if b then shortBytes else swathBytes) then { s with swa := wordStruck s.swa b bad (8 * x) } else s := rfl
  rw [one, if_pos (Nat.blt_eq.mpr inside)]

theorem patrol_off {f : Fin 32768} {b : BitVec 8} {l : List (Fin 128)} {w : List (Bool × Bool × Fin 4194304)} (off : s.coreRuns = false ∨ s.awake = false) :
    exec (.patrolScrub f b (l, w)) s = .next s := by
  refine congrArg Host.Outcome.next (if_neg ?_)
  obtain h | h := off <;> simp [h]

theorem patrol_runs {f : Fin 32768} {b : BitVec 8} {l : List (Fin 128)} {w : List (Bool × Bool × Fin 4194304)} (runs : s.coreRuns = true) (awake : s.awake = true) :
    exec (.patrolScrub f b (l, w)) s = .next (wordsStruck (scrubRow s f.val b.toNat (l.map (fun i => 1024 * f.val + 8 * i.val))) (w.map (fun e => (e.1, e.2.1, e.2.2.val)))) :=
  congrArg Host.Outcome.next (if_pos (by simp [runs, awake]))

/-- A row's words after its scrub, before the uncorrectable ones are reported. -/
def rowScrubbed (s : State) (r n : Nat) (bad : List Nat) : State :=
  { s.bump64 A.SWA_SBE_LO n with swa := { s.swa with bad := bad ++ s.swa.bad.filter (fun w => decide (w / 1024 ≠ r)), soft := s.swa.soft.filter (fun w => decide (w / 1024 ≠ r)) } }

theorem scrubRow_eq {bad : List Nat} : scrubRow s r n bad =
    if ((!bad.isEmpty || decide (4 ≤ n)) && !(forEach bad (wordBad false) (rowScrubbed s r n bad)).swa.flagged.contains r) = true then
      State.put { forEach bad (wordBad false) (rowScrubbed s r n bad) with swa := { (forEach bad (wordBad false) (rowScrubbed s r n bad)).swa with
        flagged := (forEach bad (wordBad false) (rowScrubbed s r n bad)).swa.flagged ++ [r] } } F.SWA_REP_PEND ((forEach bad (wordBad false) (rowScrubbed s r n bad)).swa.flagged ++ [r]).length
    else forEach bad (wordBad false) (rowScrubbed s r n bad) := rfl

theorem rowScrubbed_kept {bad : List Nat} : RegsKept s (rowScrubbed s r n bad) (pairRegs A.SWA_SBE_LO) := bump64_kept _ _ _

theorem rowScrubbed_sbe {bad : List Nat} : (rowScrubbed s r n bad).pair A.SWA_SBE_LO = (s.pair A.SWA_SBE_LO + n) % 2 ^ 64 := pair_bump64_same _ _ _

/-- A row joins the flagged rows. -/
def rowFlagged (s : State) (r : Nat) : State := State.put { s with swa := { s.swa with flagged := s.swa.flagged ++ [r] } } F.SWA_REP_PEND (s.swa.flagged ++ [r]).length

theorem scrubRow_flags {bad : List Nat} (found : bad ≠ [] ∨ 4 ≤ n) (fresh : r ∉ s.swa.flagged) :
    scrubRow s r n bad = rowFlagged (forEach bad (wordBad false) (rowScrubbed s r n bad)) r := by
  rw [scrubRow_eq]
  refine if_pos ?_
  rw [forEach_keeps State.swa _ _ _ fun _ _ => wordBad_swa]
  have unflagged : (rowScrubbed s r n bad).swa.flagged = s.swa.flagged := rfl
  rw [unflagged]
  obtain h | h := found <;> simp [h, fresh]

theorem rowFlagged_kept : RegsKept s (rowFlagged s r) [A.SWA_REP] := fun a h =>
  put_kept { s with swa := { s.swa with flagged := s.swa.flagged ++ [r] } } F.SWA_REP_PEND (s.swa.flagged ++ [r]).length a h

theorem rowFlagged_pend (room : s.swa.flagged.length < 511) : (rowFlagged s r).get F.SWA_REP_PEND = s.swa.flagged.length + 1 := by
  have size : (s.swa.flagged ++ [r]).length = s.swa.flagged.length + 1 := List.length_append
  rw [rowFlagged, size]
  exact get_put_val _ (by decide) (show s.swa.flagged.length + 1 < 512 by omega)

/-- The words that say where the safety strip stands. -/
def StripWord (a : Nat) : Prop := a = A.SWA_CFG ∨ 0x070100 ≤ a

/-- Whether a word stands in the safety strip depends on the swath's settings alone. -/
theorem safeWord_of (h : Stands StripWord s t) : safeWord t x = safeWord s x := by
  have strip : ∀ {f : Fld} (k d : Nat), f.addr = 0x070100 + 0x80 * k + d → t.get f = s.get f := fun k d e => h.get (.inr (by omega))
  unfold safeWord stripOn stripBase stripNblk stripB stripWidth stripSlots State.flag
  rw [h.get (.inl rfl), h.get (.inl rfl)]
  generalize s.get F.SWA_CFG_SAFE_STRIP = k
  dsimp only
  rw [strip k 0 (by simp only [A.SWA_STs_CFG]; omega), strip k 4 (by simp only [A.SWA_STs_BASE]; omega), strip k 8 (by simp only [A.SWA_STs_NBLK]; omega),
    strip k 0 (by simp only [A.SWA_STs_CFG]; omega), strip k 0 (by simp only [A.SWA_STs_CFG]; omega)]

/-- An uncorrectable word of the swath is reported. -/
theorem wordBad_words (small : x < 2 ^ 25) : (wordBad false s x).flag F.SWA_ECC_DBE = true ∧
    (wordBad false s x).flag F.SWA_ECC_SAFE_DBE = (s.flag F.SWA_ECC_SAFE_DBE || safeWord s x) ∧
    (wordBad false s x).get F.SWA_DBEADDR_ADDR = x ∧ (wordBad false s x).flag F.SWA_DBEADDR_MEM = false ∧ EdgeTaken s (wordBad false s x) 52 := by
  unfold wordBad
  extract_lets s1 s2
  have h1 : s1 = s.mark F.SWA_ECC_DBE true := rfl
  have dbe1 : s1.flag F.SWA_ECC_DBE = true := flag_mark_same _ _ _ (by decide) rfl
  have safe1 : safeWord s1 x = safeWord s x := safeWord_of (Stands.mark fun h => by simp only [StripWord, A.SWA_ECC, A.SWA_CFG] at h; omega)
  have line : ∀ {v : State} {i n : Nat} {f : Fld}, (v.safLine i n).flag f = v.flag f := fun {v i n f} => by
    rw [State.flag, State.get, State.rd, safLine_regs]
    rfl
  have edges : ∀ {v : State} {i n a : Nat}, (v.safLine i n).pair a = v.pair a := fun {v i n a} => by
    rw [State.pair, State.rd, State.rd, safLine_regs]
    rfl
  have two : s2.flag F.SWA_ECC_DBE = true ∧ s2.flag F.SWA_ECC_SAFE_DBE = (s.flag F.SWA_ECC_SAFE_DBE || safeWord s x) ∧
      s2.pair (A.INT_Gg_EDGE_LO (52 / 8)) = s.pair (A.INT_Gg_EDGE_LO (52 / 8)) := by
    simp only [s2, Bool.not_false, Bool.true_and, safe1]
    split
    · next safe =>
      refine ⟨?_, ?_, ?_⟩
      · rw [line, flag_mark_apart _ _ _ _ (by decide) (by decide), dbe1]
      · rw [line, safe, Bool.or_true]
        exact flag_mark_same _ _ _ (by decide) rfl
      · rw [edges, pair_mark_apart _ (by decide), h1, pair_mark_apart _ (by decide)]
    · next safe =>
      refine ⟨dbe1, ?_, ?_⟩
      · rw [Bool.not_eq_true] at safe
        rw [safe, Bool.or_false, h1, flag_mark_apart _ _ _ _ (by decide) (by decide)]
      · rw [h1, pair_mark_apart _ (by decide)]
  clear_value s2
  obtain ⟨dbe, safe, edge⟩ := two
  have fits : x < 2 ^ F.SWA_DBEADDR_ADDR.width := small
  refine ⟨?_, ?_, ?_, ?_, ?_⟩
  · simp (disch := decide) [dbe]
  · simp (disch := decide) [safe]
  · simp (disch := first | decide | exact fits)
  · simp (disch := decide) [flag_mark_same]
  · simp (disch := decide) [edge]
/-! ## Row repair -/

/-- A row that is given its spare, before the repair map records it. -/
theorem repairRow_spares (spare : s.get F.SWA_REP_USED < 256) : (repairRow s r).swa = (rowSpared s r).swa ∧
    (repairRow s r).get F.SWA_REP_USED = s.get F.SWA_REP_USED + 1 ∧
    (repairRow s r).flag F.SWA_REP_EXHAUST = (s.flag F.SWA_REP_EXHAUST || decide (s.get F.SWA_REP_USED = 255)) ∧
    (repairRow s r).flag (F.INT_SRCs_PEND 53) = true := by
  rw [repairRow, if_pos spare]
  extract_lets used s1 s2
  have used2 : (s2.event 53).get F.SWA_REP_USED = used := by
    rw [get_event_apart _ (by decide)]
    simp only [s2]
    rw [get_put_apart _ _ _ _ (by decide) (by decide)]
    exact get_put_val _ (by decide) (show s.get F.SWA_REP_USED + 1 < 512 by omega)
  have left : (s2.event 53).flag F.SWA_REP_EXHAUST = s.flag F.SWA_REP_EXHAUST := by
    rw [flag_event_apart _ (by decide)]
    simp only [s2]
    rw [flag_put_apart _ _ _ _ (by decide) (by decide), flag_put_apart _ _ _ _ (by decide) (by decide)]
    rfl
  have swa2 : (s2.event 53).swa = (rowSpared s r).swa := State.event_swa ..
  have pend : (s2.event 53).flag (F.INT_SRCs_PEND 53) = true := flag_event_pending _
  generalize s2.event 53 = v at used2 left swa2 pend
  unfold sparesGone
  rw [used2]
  split
  · next more => exact ⟨swa2, used2, by rw [left, decide_eq_false (by omega), Bool.or_false], pend⟩
  · next last =>
    refine ⟨by rw [State.event_swa, State.mark_swa, swa2], ?_, ?_, flag_event_pending _⟩
    · rw [get_event_apart _ (by decide), get_mark_apart _ _ _ _ (by decide) (by decide), used2]
    · rw [flag_event_apart _ (by decide), decide_eq_true (by omega), Bool.or_true]
      exact flag_mark_same _ _ _ (by decide) rfl

/-- The words of row repair. -/
def RepairWord (a : Nat) : Prop := a = A.SWA_REP ∨ a = A.INT_SRCs 53

theorem repair_put {f : Fld} {v : Nat} (d : f.addr ≠ A.SWA_REP ∧ f.addr ≠ A.INT_SRCs 53) : Stands RepairWord s (s.put f v) :=
  Stands.put fun h => h.elim d.1 d.2

theorem nvmShow_repair : Stands RepairWord s (nvmShow s) := by
  unfold nvmShow
  extract_lets u counts low rose s1 s2 s3 s4 s5 s6 s7
  have h1 : Stands RepairWord s s1 := (repair_put (by decide)).trans (repair_put (by decide))
  have h2 : Stands RepairWord s1 s2 := (repair_put (by decide)).trans (repair_put (by decide))
  have h3 : Stands RepairWord s2 s3 := repair_put (by decide)
  have h4 : Stands RepairWord s3 s4 := repair_put (by decide)
  have h5 : Stands RepairWord s4 s5 := (repair_put (by decide)).trans (.of_kept (setPair_kept _ _ _) (by rintro a (rfl | rfl) <;> decide))
  have h6 : Stands RepairWord s5 s6 := repair_put (by decide)
  have h7 : Stands RepairWord s6 s7 := repair_put (by decide)
  have h := ((((((h1.trans h2).trans h3).trans h4).trans h5).trans h6).trans h7)
  exact .ite (h.trans (.of_kept (event_kept _ 14) (by rintro a (rfl | rfl) <;> decide))) h

theorem anchorWrite_repair : Stands RepairWord s (anchorWrite s) := by
  unfold anchorWrite programmed
  extract_lets g old s1
  have h1 : Stands RepairWord s s1 := Stands.rfl.parts rfl
  exact (h1.trans (repair_put (f := F.NVM_ST_ANCH) (v := 2) (by decide))).parts rfl

/-- A row that is remapped joins the repair map. -/
theorem mapRow_records (spare : s.get F.SWA_REP_USED < 256) : (mapRow s r).swa = (rowSpared s r).swa ∧ (mapRow s r).nvm.rows = s.nvm.rows ++ [r] ∧
    Stands RepairWord (repairRow s r) (mapRow s r) := by
  obtain ⟨swa, -⟩ := repairRow_spares (r := r) spare
  have nvm : (repairRow s r).nvm = s.nvm := (repairRow_keeps).nvm rfl
  have longer : (repairRow s r).swa.repaired.length ≠ s.swa.repaired.length := by
    rw [swa]
    simp [rowSpared]
  unfold mapRow
  extract_lets t old
  rw [if_neg longer]
  have rows : ∀ v : State, (anchorWrite v).nvm.rows = v.nvm.rows := fun _ => rfl
  have shown : ∀ v : State, (nvmShow v).nvm = v.nvm ∧ (nvmShow v).swa = v.swa := fun _ => ⟨(nvmShow_keeps).nvm rfl, (nvmShow_keeps).swa rfl⟩
  refine ⟨?_, ?_, ?_⟩
  · rw [(shown _).2, (anchorWrite_keeps).swa rfl]
    exact swa
  · rw [(shown _).1, rows]
    exact congrArg (· ++ [r]) (congrArg NvmSt.rows nvm)
  · exact ((Stands.rfl.parts (t := t) (u := { t with nvm := { t.nvm with rows := t.nvm.rows ++ [r] } }) rfl).trans anchorWrite_repair).trans nvmShow_repair

end

end Sys2Proof.Machine

open Sys2Proof Sys2Proof.Machine

/-- Settles O25: a zeroize clears its memory and rebases its windows, a sweep's end shows it, the scrub counts, flags and
reports, and a flagged row takes a spare. -/
theorem zeroizeAndRepair : Obligations.ZeroizeAndRepair := by
  unfold Obligations.ZeroizeAndRepair
  intro s
  refine ⟨fun sentry => ?_, fun awake length => ?_, fun plain => ?_, fun m sentry o wake => ?_, fun short hsck start trans one other => ?_,
    fun short hsck start trans sw ss => ?_, fun short idle => ?_, fun r n runs awake clean few => ?_, fun r n runs awake many fresh room => ?_,
    fun r n i runs awake fresh room => ?_, fun r bad a runs awake => ?_, fun r bad a runs awake inside => ?_, fun r n l w off => ?_,
    fun r awake auto flagged => ⟨fun spare => ?_, fun gone => ?_⟩, fun r held => ?_⟩
  · have e : exec .zswath s = .next ((s.mark F.SWA_ST_ZDONE true).event 54) := congrArg Host.Outcome.next (zeroSwathStart_sentry sentry)
    refine ⟨_, e, by simp, ?_, ?_, ((mark_kept _ _ _).trans (event_kept _ _)).mono (by simp)⟩
    · rw [flag_event_apart _ (by decide)]
      exact flag_mark_same _ _ _ (by decide) rfl
    · simp (disch := decide)
  · obtain ⟨l, z, swa⟩ := zeroSwath_swa (s := s)
    have early := zeroSwath_early (s := s)
    have window := zeroSwath_window awake
    have zeroed : ∀ k : Fin 8, stripOn s k = true → StripZeroed k s (zeroSwath s) := fun k on => zeroSwath_zeroed length k.isLt on
    refine ⟨_, congrArg Host.Outcome.next (zeroSwathStart_runs awake), ?_⟩
    generalize zeroSwath s = v at swa early window zeroed
    have st : ∀ {a : Nat} {n : Nat}, F.SWA_ST_ZBUSY.addr ≠ a ∧ F.SWA_ST_ZBUSY.addr ≠ a + 4 → (State.put { v with swa := { v.swa with zsw := true } } F.SWA_ST_ZBUSY n).pair a = v.pair a :=
      fun d => pair_put_apart _ d
    refine ⟨fun a => ?_, ?_, ?_, rfl, ?_, ?_, ?_, ?_, ?_, fun k on => ?_⟩
    · rw [State.put_swa, swa]
      rfl
    · rw [State.put_swa, swa]
    · rw [State.put_swa, swa]
    · rw [State.put_swa, swa]
    · rw [get_put_same _ _ _ (by decide), swa]
      have := b2n_le (b := s.swa.zss)
      exact Nat.mod_eq_of_lt (show 1 + 2 * b2n s.swa.zss < 4 by omega)
    · rw [st (by decide)]
      exact window.1
    · rw [st (by decide)]
      exact window.2
    · rw [swathSC, st (by decide)]
      exact early.pair (.inl (by decide)) (.inl (by decide))
    · obtain ⟨pend, disc, owed, tags, cur⟩ := zeroed k on
      have strip : ∀ n, (State.put { v with swa := { v.swa with zsw := true } } F.SWA_ST_ZBUSY n).strip k = v.strip k := fun _ => rfl
      rw [strip]
      refine ⟨?_, ?_, owed, fun e he => ?_, fun b hb frames => ?_⟩
      · rw [get_put_apart _ _ _ _ (by decide) (.inl (by simp only [A.SWA_ST, A.SWA_STs_PEND]; omega))]
        exact pend
      · rw [st (by simp only [A.SWA_ST, A.SWA_STs_DISC_LO]; omega)]
        exact disc
      · rw [tags] at he
        cases hc : (s.strip k).cur with
        | none => simp [zeroTags, hc] at he
        | some b => exact ⟨b, rfl, by simpa [zeroTags, hc] using he⟩
      · rw [cur, hb]
        exact congrArg some (if_neg frames)
  · obtain ⟨start, disc, kept⟩ := zeroShort_plain plain
    obtain ⟨c, g, z, swa⟩ := zeroShort_swa (s := s)
    refine ⟨zeroShortStart s, rfl, ?_⟩
    unfold zeroShortStart
    generalize zeroShort s = v at swa start disc kept
    refine ⟨fun a => ?_, ?_, ?_, rfl, ?_, ?_, ?_, ?_, ?_⟩
    · rw [State.put_swa, swa]
      rfl
    · rw [State.put_swa, swa]
    · rw [State.put_swa, swa]
    · rw [State.put_swa, swa]
    · rw [pair_put_apart _ (by decide)]
      exact start
    · rw [get_put_same _ _ _ (by decide), swa]
      have := b2n_le (b := s.swa.zsw)
      exact Nat.mod_eq_of_lt (show b2n s.swa.zsw + 2 < 4 by omega)
    · rw [pair_put_apart _ (by decide)]
      exact disc
    · have put : RegsKept v (State.put { v with swa := { v.swa with zss := true } } F.SWA_ST_ZBUSY (b2n v.swa.zsw + 2)) [A.SWA_ST] := fun a h =>
        put_kept { v with swa := { v.swa with zss := true } } F.SWA_ST_ZBUSY (b2n v.swa.zsw + 2) a h
      exact (kept.trans put).mono (by simp)
  · obtain ⟨c, g, z, swa⟩ := zeroShort_swa (s := s)
    have start := zeroShort_wake sentry o wake
    refine ⟨zeroShortStart s, rfl, ?_⟩
    unfold zeroShortStart
    generalize zeroShort s = v at swa start
    refine ⟨fun a => ?_, ?_, rfl, ?_⟩
    · rw [State.put_swa, swa]
      rfl
    · rw [State.put_swa, swa]
    · rw [pair_put_apart _ (by decide)]
      exact start
  · refine ⟨_, sweepDone_runs hsck start trans one, ?_⟩
    have quiet : (s.swa.zsw && short) = false ∧ (s.swa.zss && !short) = false := by cases short <;> simp_all
    rw [zeroDone_eq, quiet.1, quiet.2, if_neg (by decide)]
    refine ⟨?_, ?_, ?_, ?_, ?_⟩
    · have only : OnlyRegs (sweepsLeft s false false) (((sweepsLeft s false false).mark F.SWA_ST_ZDONE true).event 54) := by simp
      exact only
    · rw [get_event_apart _ (by decide), get_mark_apart _ _ _ _ (by decide) (by decide), sweepsLeft_busy]
      rfl
    · rw [flag_event_apart _ (by decide)]
      exact flag_mark_same _ _ _ (by decide) rfl
    · rw [edgeTaken_event, pair_mark_apart _ (by decide)]
      exact (sweepsLeft_kept).pair (by decide) (by decide)
    · exact (((sweepsLeft_kept).trans (mark_kept _ _ _)).trans (event_kept _ _)).mono (by simp)
  · refine ⟨_, sweepDone_runs hsck start trans (by cases short <;> simp [sw, ss]), ?_⟩
    have left : (short || !short) = true := by cases short <;> rfl
    rw [zeroDone_eq, sw, ss, Bool.true_and, Bool.true_and, if_pos left]
    refine ⟨rfl, ?_, ?_, sweepsLeft_kept⟩
    · rw [sweepsLeft_busy]
      cases short <;> rfl
    · exact flag_put_apart _ _ _ _ (by decide) (by decide)
  · refine ⟨s, ?_, rfl⟩
    show execZeroizeSweepDone short s = _
    exact if_neg (by obtain h | h := idle <;> simp [h])
  · refine ⟨_, patrol_runs runs awake, ?_⟩
    have clear : s.swa.bad.filter (fun w => decide (w / 1024 ≠ r.val)) = s.swa.bad := List.filter_eq_self.mpr fun w h => by simpa using clean w h
    have quiet : scrubRow s r.val n.toNat [] = rowScrubbed s r.val n.toNat [] := by
      rw [scrubRow_eq]
      refine if_neg fun h => ?_
      simp only [List.isEmpty_nil, Bool.not_true, Bool.false_or, Bool.and_eq_true, decide_eq_true_eq, Bool.not_eq_true', List.contains_eq_mem, decide_eq_false_iff_not] at h
      exact few.elim (fun f => absurd h.1 (by omega)) fun f => h.2 f
    rw [List.map_nil, List.map_nil, quiet]
    refine ⟨?_, rowScrubbed_sbe, rowScrubbed_kept⟩
    show rowScrubbed s r.val n.toNat [] = _
    rw [rowScrubbed, List.nil_append, clear]
    rfl
  · refine ⟨_, patrol_runs runs awake, ?_⟩
    rw [List.map_nil, List.map_nil]
    have flags := scrubRow_flags (s := s) (n := n.toNat) (bad := []) (.inr many) fresh
    have none : forEach [] (wordBad false) (rowScrubbed s r.val n.toNat []) = rowScrubbed s r.val n.toNat [] := rfl
    rw [none] at flags
    refine ⟨by rw [wordsStruck_nil, flags]; rfl, ?_, ?_, ?_⟩ <;>
      rw [wordsStruck_nil, flags]
    · exact rowFlagged_pend room
    · rw [(rowFlagged_kept).pair (by decide) (by decide), rowScrubbed_sbe]
    · exact ((rowScrubbed_kept).trans rowFlagged_kept).mono (by simp)
  · refine ⟨_, patrol_runs runs awake, ?_⟩
    have flags := scrubRow_flags (s := s) (n := n.toNat) (bad := [1024 * r.val + 8 * i.val]) (.inl (by simp)) fresh
    have one : forEach [1024 * r.val + 8 * i.val] (wordBad false) (rowScrubbed s r.val n.toNat [1024 * r.val + 8 * i.val]) =
      wordBad false (rowScrubbed s r.val n.toNat [1024 * r.val + 8 * i.val]) (1024 * r.val + 8 * i.val) := rfl
    rw [one] at flags
    have swa := wordBad_swa (s := rowScrubbed s r.val n.toNat [1024 * r.val + 8 * i.val]) (short := false) (n := 1024 * r.val + 8 * i.val)
    have words := wordBad_words (s := rowScrubbed s r.val n.toNat [1024 * r.val + 8 * i.val]) (x := 1024 * r.val + 8 * i.val)
      (by have := r.isLt; have := i.isLt; omega)
    rw [safeWord_of (s := s) (Stands.of_kept rowScrubbed_kept fun a h m => by
      simp only [StripWord, A.SWA_CFG] at h
      simp only [pairRegs, A.SWA_SBE_LO, List.mem_cons, List.not_mem_nil, or_false] at m
      omega), (rowScrubbed_kept).flag (by decide)] at words
    obtain ⟨dbe, safe, addr, mem, edge⟩ := words
    have bad : 1024 * r.val + 8 * i.val ∈ (rowScrubbed s r.val n.toNat [1024 * r.val + 8 * i.val]).swa.bad := List.mem_cons_self
    have edges := rowScrubbed_kept (s := s) (r := r.val) (n := n.toNat) (bad := [1024 * r.val + 8 * i.val])
    have unflagged : (rowScrubbed s r.val n.toNat [1024 * r.val + 8 * i.val]).swa.flagged = s.swa.flagged := rfl
    show _ ∧ _
    rw [List.map_cons, List.map_nil, List.map_nil, wordsStruck_nil, flags]
    rw [← swa] at bad unflagged
    generalize rowScrubbed s r.val n.toNat [1024 * r.val + 8 * i.val] = v at edges dbe safe addr mem edge bad unflagged
    have kept := rowFlagged_kept (s := wordBad false v (1024 * r.val + 8 * i.val)) (r := r.val)
    refine ⟨?_, ?_, bad, ?_, ?_, ?_, ?_, ?_⟩
    · rw [← unflagged]
      rfl
    · rw [rowFlagged_pend (by rw [unflagged]; exact room), unflagged]
    · rw [kept.flag (by decide), dbe]
    · rw [kept.flag (by decide), safe]
    · rw [kept.get (by decide), addr]
    · rw [kept.flag (by decide), mem]
    · refine (EdgeTaken.kept kept (by decide) (by decide) (by decide)).mpr ⟨edge.1, ?_⟩
      rw [edge.2, edges.pair (by decide) (by decide)]
  · refine ⟨_, patrol_runs runs awake, ?_⟩
    have inside : 8 * a.val < 33554432 := by have := a.isLt; omega
    show 8 * a.val ∈ if bad then (wordsStruck (scrubRow s r.val (0 : BitVec 8).toNat []) [(false, bad, a.val)]).swa.bad else
      (wordsStruck (scrubRow s r.val (0 : BitVec 8).toNat []) [(false, bad, a.val)]).swa.soft
    rw [wordsStruck_one (by simpa using inside)]
    exact wordStruck_mem.1
  · refine ⟨_, patrol_runs runs awake, ?_⟩
    show 8 * a.val ∈ if bad then (wordsStruck (scrubRow s r.val (0 : BitVec 8).toNat []) [(true, bad, a.val)]).swa.badShort else
      (wordsStruck (scrubRow s r.val (0 : BitVec 8).toNat []) [(true, bad, a.val)]).swa.softShort
    rw [wordsStruck_one (by simpa using inside)]
    exact wordStruck_mem.2
  · exact ⟨s, patrol_off off, rfl⟩
  · obtain ⟨-, used, exhaust, pend⟩ := repairRow_spares (r := r) spare
    obtain ⟨swa, rows, words⟩ := mapRow_records (r := r) spare
    refine ⟨mapRow s r, congrArg Host.Outcome.next (if_pos (by simp [flagged, auto, awake])), ?_, ?_, ?_, rows, ?_, ?_, ?_⟩
    · rw [swa]
      simp [rowSpared]
    · rw [swa]
      rfl
    · rw [words.get (.inl rfl), used]
    · rw [swa]
      rfl
    · rw [words.flag (.inl rfl), exhaust]
    · rw [words.flag (.inr rfl), pend]
  · have none : repairRow s r = s := if_neg (by omega)
    have idle : mapRow s r = s := by
      unfold mapRow
      rw [none]
      exact if_pos rfl
    refine ⟨s, ?_, rfl⟩
    show Host.Outcome.next _ = _
    rw [idle, ite_self]
  · refine ⟨s, congrArg Host.Outcome.next (if_neg ?_), rfl⟩
    obtain h | h | h := held <;> simp [h]

end

section
/-! PROOFS. Releases of tasks, budget faults and INIT overruns (O26). -/

namespace Sys2Proof.Machine

section

variable {s t u : State} {c d i n x : Nat}

/-! ## The next job of a core -/

/-- The tasks and deadlines of a core's jobs. -/
def jobList (k : CoreSt) : List (Nat × Nat) := k.jobs.map (fun j => (j.task, j.deadline))

/-- A core whose next job may have begun: its jobs, held releases, stores and marks stand, and the word of its state alone changed. -/
structure Dispatched (c : Nat) (s t : State) : Prop where
  whole : t = { s with regs := t.regs, frw := { s.frw with core := t.frw.core } }
  regs : RegsKept s t [A.FRW_COREc_ST c]
  others : ∀ d, d ≠ c → t.core d = s.core d
  jobs : jobList (t.core c) = jobList (s.core c)
  lastRel : (t.core c).lastRel = (s.core c).lastRel
  buf : (t.core c).buf = (s.core c).buf
  drop : (t.core c).drop = (s.core c).drop

theorem Dispatched.refl : Dispatched c s s := ⟨rfl, .refl _ _, fun _ _ => rfl, rfl, rfl, rfl, rfl⟩

theorem earliest_one {j : Job} : earliest [j] = some j := rfl

/-- The jobs with the contexts of a switch between tasks. -/
theorem switched_list {l : List Job} {p q : Job → Prop} [DecidablePred p] [DecidablePred q] {x : Option (CoreRegs × Nat)} :
    ((l.map (fun i => if p i then { i with ctx := x } else i)).map (fun i => if q i then { i with ctx := none } else i)).map (fun j => (j.task, j.deadline)) =
      l.map (fun j => (j.task, j.deadline)) := by
  simp only [List.map_map]
  refine List.map_congr_left fun j _ => ?_
  simp only [Function.comp]
  split <;> split <;> rfl

theorem put_state (small : c < 4) : setCoreState s c n = s.put (F.FRW_COREc_ST_STATE c) n := if_pos small

theorem Dispatched.of_core {k : CoreSt} (len : c < s.frw.core.length) (only : OnlyRegs (s.setCore c k) t) (regs : RegsKept s t [A.FRW_COREc_ST c])
    (jobs : jobList k = jobList (s.core c)) (lastRel : k.lastRel = (s.core c).lastRel) (buf : k.buf = (s.core c).buf) (drop : k.drop = (s.core c).drop) :
    Dispatched c s t := by
  have frw : t.frw = (s.setCore c k).frw := by rw [show t = { s.setCore c k with regs := t.regs } from only]
  have core : ∀ d, t.core d = (s.setCore c k).core d := fun d => by rw [State.core, frw, State.core]
  refine ⟨?_, regs, fun d other => by rw [core, core_setCore_other other.symm], ?_, ?_, ?_, ?_⟩
  · rw [frw]
    exact only
  all_goals rwa [core, core_setCore_same len]

theorem dispatch_dispatched (len : c < s.frw.core.length) : Dispatched c s (dispatch s c) := by
  unfold dispatch
  extract_lets k k' jobs
  split
  · next ready =>
    obtain ⟨small, -⟩ := ready
    split
    · rw [put_state small]
      have regs : RegsKept s (State.put (s.setCore c { k with run := none }) (F.FRW_COREc_ST_STATE c) C_IDLE) [A.FRW_COREc_ST c] := fun a h =>
        put_kept (s.setCore c { k with run := none }) (F.FRW_COREc_ST_STATE c) C_IDLE a h
      exact .of_core (k := { k with run := none }) len (by simp) regs rfl rfl rfl rfl
    · next j found =>
      split
      · exact .refl
      · extract_lets r jobs' s1
        rw [put_state small]
        have regs : RegsKept s ((s1.put (F.FRW_COREc_ST_STATE c) C_RUN).put (F.FRW_COREc_ST_TASK c) j.task) [A.FRW_COREc_ST c] := by
          have h1 : RegsKept s (s1.put (F.FRW_COREc_ST_STATE c) C_RUN) [A.FRW_COREc_ST c] := fun a h => put_kept s1 (F.FRW_COREc_ST_STATE c) C_RUN a h
          exact (h1.trans (put_kept _ _ _)).mono (by simp)
        exact .of_core (k := { k' with jobs := jobs', run := some j.task, regs := r.1, pc := r.2 }) len (by simp [s1]) regs switched_list rfl rfl rfl
  · exact .refl

/-! ## Releases -/

theorem release_job (fresh : ∀ j ∈ (s.core c).jobs, j.task ≠ n) :
    release s c n = dispatch (s.setCore c { s.core c with jobs := (s.core c).jobs ++ [⟨n, s.time.hsck + taskCycles s c n, none⟩] }) c :=
  if_neg (by simpa using fresh)

theorem release_again (released : ∃ j ∈ (s.core c).jobs, j.task = n) :
    release s c n = if (s.core c).heldRel.contains n then (s.incSat (F.FRW_Tc_t_ST_LATE c n)).event 10
      else s.setCore c { s.core c with heldRel := (s.core c).heldRel ++ [n] } :=
  if_pos (by simpa using released)

theorem releaseNote_core (len : c < s.frw.core.length) : (releaseNote s c n).core c = { s.core c with lastRel := setNth (s.core c).lastRel n (some s.time.hsck) } :=
  core_setCore_same len

theorem taskRelease_stands {c : Fin 4} {n : Fin 16} (clocked : coreClocked s c = true) (live : coreLive s c = true) (init : s.flag (F.FRW_COREc_ST_INIT c) = false)
    (trigger : triggered s c n = true) : exec (.taskRelease c n) s = .next (release (releaseNote s c n) c n) :=
  congrArg Host.Outcome.next (if_pos (by simp [clocked, live, init, trigger]))

/-- The core of a job that joins the released ones. -/
def withJob (s : State) (c n : Nat) : CoreSt :=
  { s.core c with lastRel := setNth (s.core c).lastRel n (some s.time.hsck), jobs := (s.core c).jobs ++ [⟨n, s.time.hsck + taskCycles s c n, none⟩] }

theorem queueRate_setCore {k : CoreSt} {fuel q : Nat} : queueRate (s.setCore c k) fuel q = queueRate s fuel q := by
  induction fuel generalizing q with
  | zero => rfl
  | succ fuel ih =>
    simp only [queueRate, ih]
    rfl

theorem taskCycles_setCore {k : CoreSt} : taskCycles (s.setCore c k) d n = taskCycles s d n := by
  have rate : queueRate (s.setCore c k) rateFuel (taskSrc s d n) = queueRate s rateFuel (taskSrc s d n) := queueRate_setCore
  have src : taskSrc (s.setCore c k) d n = taskSrc s d n := rfl
  unfold taskCycles taskRate
  rw [src, rate]
  rfl

theorem release_noted (len : c < s.frw.core.length) (fresh : ∀ j ∈ (s.core c).jobs, j.task ≠ n) :
    release (releaseNote s c n) c n = dispatch (s.setCore c (withJob s c n)) c := by
  have core := releaseNote_core (n := n) len
  have cycles : taskCycles (releaseNote s c n) c n = taskCycles s c n := taskCycles_setCore
  rw [release_job (by rw [core]; exact fresh), core, cycles]
  have twice : ∀ k l : CoreSt, (s.setCore c k).setCore c l = s.setCore c l := fun _ _ => setCore_setCore
  exact congrArg (dispatch · c) (twice _ _)

/-- A core that begins a job afresh: the contexts of its jobs, and the job's entry. -/
def begunCore (s : State) (c : Nat) (j : Job) : CoreSt :=
  let k := loadsReturn (s.core c)
  let jobs := k.jobs.map (fun i => if k.run = some i.task then { i with ctx := some (k.regs, k.pc) } else i)
  let jobs := jobs.map (fun i => if i.task = j.task then { i with ctx := none } else i)
  { k with jobs := jobs, run := some j.task, regs := k.regs, pc := taskEntry s c j.task }

/-- An idle core begins its one job at its entry. -/
theorem dispatch_begins {k : CoreSt} {j : Job} (small : c < 4) (len : c < s.frw.core.length) (core : s.core c = k) (live : coreLive s c = true)
    (init : s.flag (F.FRW_COREc_ST_INIT c) = false) (ready : eligible s c = true) (jobs : k.jobs = [j]) (idle : k.run = none) (new : j.ctx = none) :
    coreState (dispatch s c) c = C_RUN ∧ (dispatch s c).get (F.FRW_COREc_ST_TASK c) = j.task % 16 ∧ ((dispatch s c).core c).run = some j.task ∧
    ((dispatch s c).core c).pc = taskEntry s c j.task ∧ ((dispatch s c).core c).regs = (loadsReturn k).regs := by
  subst core
  have begun : dispatch s c = ((s.setCore c (begunCore s c j)).put (F.FRW_COREc_ST_STATE c) C_RUN).put (F.FRW_COREc_ST_TASK c) j.task := by
    rw [dispatch, if_pos ⟨small, live, by simp [init], ready⟩, jobs, earliest_one]
    dsimp only
    rw [if_neg (by rw [idle]; exact nofun), put_state small, new]
    rfl
  rw [begun, coreState, if_pos small]
  have core : ∀ (w : State) (f g : Fld) (a b : Nat), ((w.put f a).put g b).core c = w.core c := fun _ _ _ _ _ => rfl
  rw [core, core_setCore_same len]
  refine ⟨?_, get_put_same _ _ _ (show 8 + 4 ≤ 32 by decide), rfl, rfl, rfl⟩
  rw [get_put_apart _ _ _ _ (show 8 + 4 ≤ 32 by decide) (.inr (.inl (show 0 + 3 ≤ 8 by decide)))]
  exact get_put_val _ (show 0 + 3 ≤ 32 by decide) (show C_RUN < 8 by decide)

/-! ## Budget faults -/

/-- A budget fault as it is counted and told, before the safety function hears of it. -/
def budgetCounted (s : State) (c n : Nat) : State :=
  (((s.incSat (F.FRW_Tc_t_ST_OVR c n)).incSat (F.FRW_COREc_BUD_COUNT c)).put (F.FRW_COREc_BUD_LAST c) n).event 10

theorem budgetCounted_kept : RegsKept s (budgetCounted s c n) ([A.FRW_COREc_BUD c, A.FRW_Tc_t_ST c n] ++ sourceRegs 10) :=
  ((((incSat_kept).trans incSat_kept).trans (put_kept _ _ _)).trans (event_kept _ _)).mono (by simp)

theorem budgetCounted_only : OnlyRegs s (budgetCounted s c n) := by simp [budgetCounted]

theorem tasks_apart (small : c < 4) (task : n < 16) : A.FRW_COREc_BUD c ≠ A.FRW_Tc_t_ST c n ∧ A.FRW_COREc_BUD c ∉ sourceRegs 10 ∧ A.FRW_Tc_t_ST c n ∉ sourceRegs 10 := by
  simp only [A.FRW_COREc_BUD, A.FRW_Tc_t_ST, sourceRegs, A.INT_SRCs, A.INT_Gg_EDGE_LO, A.INT_Gg_COAL_LO, List.mem_cons, List.not_mem_nil, or_false]
  omega

theorem budgetCounted_words (small : c < 4) (task : n < 16) : (budgetCounted s c n).get (F.FRW_COREc_BUD_LAST c) = n ∧
    (budgetCounted s c n).get (F.FRW_COREc_BUD_COUNT c) = Nat.min (s.get (F.FRW_COREc_BUD_COUNT c) + 1) 65535 ∧
    (budgetCounted s c n).get (F.FRW_Tc_t_ST_OVR c n) = Nat.min (s.get (F.FRW_Tc_t_ST_OVR c n) + 1) 65535 ∧ EdgeTaken s (budgetCounted s c n) 10 := by
  obtain ⟨apart, bud, ovr⟩ := tasks_apart small task
  have edge : A.INT_SRCs 10 ≠ A.FRW_COREc_BUD c ∧ A.INT_SRCs 10 ≠ A.FRW_Tc_t_ST c n := ⟨fun e => bud (by simp [← e]), fun e => ovr (by simp [← e])⟩
  unfold budgetCounted
  refine ⟨?_, ?_, ?_, ?_⟩
  · rw [get_event_apart _ bud, get_put_val _ (show 16 + 4 ≤ 32 by decide) (show n < 16 from task)]
  · rw [get_event_apart _ bud, get_put_apart _ _ _ _ (show 16 + 4 ≤ 32 by decide) (.inr (.inl (show 0 + 16 ≤ 16 by decide))),
      get_incSat_same (show 0 + 16 ≤ 32 by decide), get_incSat_apart (show 16 + 16 ≤ 32 by decide) (.inl apart.symm)]
    exact Nat.min_comm _ _
  · rw [get_event_apart _ ovr, get_put_apart _ _ _ _ (show 16 + 4 ≤ 32 by decide) (.inl apart),
      get_incSat_apart (show 0 + 16 ≤ 32 by decide) (.inl apart), get_incSat_same (show 16 + 16 ≤ 32 by decide)]
    exact Nat.min_comm _ _
  · have far : F.FRW_COREc_BUD_LAST c = ⟨A.FRW_COREc_BUD c, 16, 4⟩ := rfl
    rw [edgeTaken_event, pair_put_apart, pair_incSat_apart, pair_incSat_apart]
    all_goals
      simp only [A.FRW_COREc_BUD, A.FRW_Tc_t_ST, A.INT_Gg_EDGE_LO]
      omega

theorem depends_of (h : RegsKept s t ([A.FRW_COREc_BUD c, A.FRW_Tc_t_ST c n] ++ sourceRegs 10)) (small : c < 4) (task : n < 16) : depends t d x = depends s d x := by
  unfold depends
  rw [h.pair]
  all_goals
    simp only [A.SAF_DEP_LO, A.FRW_COREc_BUD, A.FRW_Tc_t_ST, sourceRegs, A.INT_SRCs, A.INT_Gg_EDGE_LO, A.INT_Gg_COAL_LO, List.cons_append, List.nil_append,
      List.mem_cons, List.not_mem_nil, or_false]
    omega

theorem budgetFault_eq (small : c < 4) (task : n < 16) : budgetFault s c n =
    if depends s c n = true then diagEvent (budgetCounted s c n) 13 else budgetCounted s c n := by
  have same := depends_of (d := c) (x := n) (budgetCounted_kept (s := s)) small task
  rw [← same]
  rfl

/-- The greatest count observed of a task is at least one more than its bound. -/
theorem budgetMax_max : Nat.min (2 ^ 24 - 1) (s.get (F.FRW_Tc_t_BOUND_CYC c n) + 1) ≤ (budgetMax s c n).get (F.FRW_Tc_t_MAX_CYC c n) := by
  unfold budgetMax
  dsimp only
  split
  · rw [get_put_val _ (show 0 + 24 ≤ 32 by decide) (show _ < 2 ^ 24 from Nat.lt_of_le_of_lt (Nat.min_le_left _ _) (by decide))]
  · next h => exact Nat.le_of_not_lt h

theorem budgetMax_only : OnlyRegs s (budgetMax s c n) := by
  unfold budgetMax
  dsimp only
  split <;> simp [show OnlyRegs s s from rfl]

theorem budgetMax_kept : RegsKept s (budgetMax s c n) [A.FRW_Tc_t_MAX c n] := by
  unfold budgetMax
  dsimp only
  split
  · exact put_kept _ _ _
  · exact .refl _ _

theorem depends_max (small : c < 4) (task : n < 16) : depends (budgetMax s c n) d x = depends s d x := by
  unfold depends
  rw [(budgetMax_kept).pair]
  all_goals
    simp only [A.SAF_DEP_LO, A.FRW_Tc_t_MAX, List.mem_cons, List.not_mem_nil, or_false]
    omega

/-- The words that a budget fault of a running task may write. -/
theorem budgetCounted_max_kept : RegsKept s (budgetCounted (budgetMax s c n) c n) ([A.FRW_COREc_BUD c, A.FRW_Tc_t_ST c n, A.FRW_Tc_t_MAX c n] ++ sourceRegs 10) :=
  ((budgetMax_kept).trans budgetCounted_kept).mono (by simp)

theorem budgetCounted_max_only : OnlyRegs s (budgetCounted (budgetMax s c n) c n) := by
  have h := budgetMax_only (s := s) (c := c) (n := n)
  have k := budgetCounted_only (s := budgetMax s c n) (c := c) (n := n)
  exact (OnlyRegs.congr k).mpr h

/-! ## An abandoned job -/

/-- Drawing values that the spec leaves free moves their counter alone. -/
theorem draws_free {α : Type} {h : Nat → α} {l : List Nat} {a : List α × State} :
    ∃ f, (l.foldl (fun (a : List α × State) _ => (a.1 ++ [h (a.2.fresh n).1], (a.2.fresh n).2)) a).2 = { a.2 with free := f } := by
  induction l generalizing a with
  | nil => exact ⟨_, rfl⟩
  | cons x l ih =>
    obtain ⟨f, e⟩ := ih (a := (a.1 ++ [h (a.2.fresh n).1], (a.2.fresh n).2))
    exact ⟨f, e⟩

/-- The registers of an abandoned job are left free, and nothing else. -/
theorem regsFree_spec : ∃ r f, regsFree s c = State.setCore { s with free := f } c { s.core c with regs := r } := by
  unfold regsFree
  split
  next vs s1 h1 =>
  split
  next vq s2 h2 =>
  split
  next va s3 h3 =>
  split
  next vp s4 h4 =>
  obtain ⟨f1, e1⟩ := draws_free (n := 2 ^ 32) (h := fun v => BitVec.ofNat 32 v) (l := upto 31) (a := (([] : List Word), s))
  obtain ⟨f2, e2⟩ := draws_free (n := 2 ^ 128) (h := fun v => BitVec.ofNat 128 v) (l := upto 16) (a := (([] : List (BitVec 128)), s1))
  obtain ⟨f3, e3⟩ := draws_free (n := 2 ^ 56) (h := fun v => toSigned 56 v) (l := upto 16) (a := (([] : List Int), s2))
  have one : s1 = { s with free := f1 } := (congrArg Prod.snd h1).symm.trans e1
  have two : s2 = { s1 with free := f2 } := (congrArg Prod.snd h2).symm.trans e2
  have three : s3 = { s2 with free := f3 } := (congrArg Prod.snd h3).symm.trans e3
  have four : s4 = { s3 with free := s3.free + 1 } := (congrArg Prod.snd h4).symm
  subst four three two one
  exact ⟨_, _, rfl⟩

/-- The buffer of a core drains: its memories and its ECC word change, and its buffer is empty. -/
theorem drainAll_spec (len : c < s.frw.core.length) : (drainAll s c).frw.core = (s.setCore c { s.core c with buf := [] }).frw.core ∧
    RegsKept s (drainAll s c) [A.FRW_COREc_ECC c] := by
  have h : Beside c (s.setCore c { s.core c with buf := (s.core c).buf.drop (s.core c).buf.length }) (drainAll s c) :=
    Beside.forEach fun _ _ => drainEntry_beside
  rw [List.drop_length] at h
  exact ⟨h.core, fun a m => h.regs a m⟩

/-- The core of a job that has ended. -/
def goneCore (k : CoreSt) (n : Nat) : CoreSt :=
  { k with jobs := k.jobs.filter (fun j => decide (j.task ≠ n)), run := none, heldRel := k.heldRel.filter (fun u => decide (u ≠ n)) }

/-- A job that ends with no release held gives way to the core's next. -/
theorem jobEnd_gone (run : (s.core c).run = some n) (quiet : n ∉ (s.core c).heldRel) :
    jobEnd s c = dispatch (s.setCore c (goneCore (s.core c) n)) c := by
  unfold jobEnd
  dsimp only
  rw [run]
  exact if_neg (by simpa using quiet)

/-- A core whose running job `n` is to be given up, with its stores drained: beside the core the state stands but for its ECC word. -/
structure GivenUp (c n : Nat) (s t : State) : Prop where
  length : c < t.frw.core.length
  run : (t.core c).run = some n
  quiet : n ∉ (t.core c).heldRel
  buf : (t.core c).buf = []
  drop : (t.core c).drop = false
  others : ∀ d, d ≠ c → t.core d = s.core d
  regs : RegsKept s t [A.FRW_COREc_ECC c]

/-- The core's registers are replaced. -/
theorem GivenUp.setRegs {r : CoreRegs} (h : GivenUp c n s t) (w : State) (frw : w.frw = t.frw) (regs : w.regs = t.regs) :
    GivenUp c n s (w.setCore c { t.core c with regs := r }) := by
  have core : ∀ d, w.core d = t.core d := fun d => by rw [State.core, frw, State.core]
  have len : c < w.frw.core.length := by rw [frw]; exact h.length
  have same := core_setCore_same (k := { t.core c with regs := r }) len
  refine ⟨by rw [setCore_length]; exact len, by rw [same]; exact h.run, by rw [same]; exact h.quiet, by rw [same]; exact h.buf, by rw [same]; exact h.drop,
    fun d other => by rw [core_setCore_other other.symm, core, h.others d other], fun a m => ?_⟩
  rw [← h.regs a m]
  show w.rd a = t.rd a
  rw [State.rd, regs, State.rd]

/-- The drain of a core that gives its job up. -/
theorem givenUp_drained {k : CoreSt} (len : c < s.frw.core.length) (run : k.run = some n) (quiet : n ∉ k.heldRel) (drop : k.drop = false) :
    GivenUp c n s (drainAll (s.setCore c k) c) := by
  have len0 : c < (s.setCore c k).frw.core.length := by rw [setCore_length]; exact len
  obtain ⟨cores, regs⟩ := drainAll_spec len0
  have core : ∀ d, (drainAll (s.setCore c k) c).core d = (s.setCore c { k with buf := [] }).core d := fun d => by
    rw [State.core, cores, ← State.core, core_setCore_same len, setCore_setCore]
  have own : (drainAll (s.setCore c k) c).core c = { k with buf := [] } := by rw [core, core_setCore_same len]
  refine ⟨by rw [cores, setCore_length]; exact len0, by rw [own]; exact run, by rw [own]; exact quiet, by rw [own], by rw [own]; exact drop,
    fun d other => by rw [core, core_setCore_other other.symm], fun a m => (regs a m).trans rfl⟩

theorem givenUp_freed (h : GivenUp c n s t) : GivenUp c n s (regsFree t c) := by
  obtain ⟨r, f, e⟩ := regsFree_spec (s := t) (c := c)
  rw [e]
  exact h.setRegs _ rfl rfl

/-- The job that is given up ends, and the core's next begins. -/
theorem givenUp_ends (h : GivenUp c n s t) : (∀ j ∈ ((jobEnd t c).core c).jobs, j.task ≠ n) ∧ ((jobEnd t c).core c).buf = [] ∧
    ((jobEnd t c).core c).drop = false ∧ (∀ d, d ≠ c → (jobEnd t c).core d = s.core d) ∧ RegsKept s (jobEnd t c) [A.FRW_COREc_ST c, A.FRW_COREc_ECC c] := by
  have len : c < (t.setCore c (goneCore (t.core c) n)).frw.core.length := by rw [setCore_length]; exact h.length
  have gone := dispatch_dispatched len
  have own := core_setCore_same (k := goneCore (t.core c) n) h.length
  rw [jobEnd_gone h.run h.quiet]
  refine ⟨fun j mem task => ?_, ?_, ?_, fun d other => ?_, ?_⟩
  · have listed : (j.task, j.deadline) ∈ jobList (goneCore (t.core c) n) := by
      rw [← own, ← gone.jobs]
      exact List.mem_map_of_mem mem
    obtain ⟨i, hi, e⟩ := List.mem_map.mp listed
    have := (List.mem_filter.mp hi).2
    simp only [Prod.mk.injEq] at e
    simp [e.1, task] at this
  · rw [gone.buf, own]
    exact h.buf
  · rw [gone.drop, own]
    exact h.drop
  · rw [gone.others d other, core_setCore_other other.symm, h.others d other]
  · have set : RegsKept t (t.setCore c (goneCore (t.core c) n)) [] := fun _ _ => rfl
    exact (((h.regs).trans set).trans gone.regs).mono (by simp)

/-- What an abandonment leaves: the job is gone with its stores drained and its mark, and only this core changes. -/
theorem abandon_spec (len : c < s.frw.core.length) (run : (s.core c).run = some n) (quiet : n ∉ (s.core c).heldRel) :
    (∀ j ∈ ((abandon s c).core c).jobs, j.task ≠ n) ∧ ((abandon s c).core c).buf = [] ∧ ((abandon s c).core c).drop = false ∧
    (∀ d, d ≠ c → (abandon s c).core d = s.core d) ∧ RegsKept s (abandon s c) [A.FRW_COREc_ST c, A.FRW_COREc_ECC c] := by
  unfold abandon
  extract_lets k s1 s2 k2 r2 s3
  have h1 : GivenUp c n s s1 := givenUp_drained len run quiet rfl
  have h2 : GivenUp c n s s2 := givenUp_freed h1
  have h3 : GivenUp c n s s3 := h2.setRegs s2 rfl rfl
  exact givenUp_ends h3

/-! ## The rows -/

theorem frw_of_regs (h : OnlyRegs s t) : t.frw = s.frw := by
  rw [show t = { s with regs := t.regs } from h]

theorem core_of_regs (h : OnlyRegs s t) : t.core d = s.core d := by
  rw [State.core, frw_of_regs h, State.core]

theorem budgetFault_runs {c : Fin 4} (clocked : coreClocked s c = true) (live : coreLive s c = true) (run : (s.core c).run = some n) :
    exec (.budgetFault c) s = .next (if (budgetFault (budgetMax s c n) c n).flag (F.FRW_Tc_t_ENTRY_OVRSTOP c n) = true then
      let k := (budgetFault (budgetMax s c n) c n).core c
      let v := (budgetFault (budgetMax s c n) c n).setCore c { k with drop := true }
      if (k.bun.isNone && (atBoundary { k with drop := true } || k.regs.estat.getLsbD 12)) = true then abandon v c else v
    else budgetFault (budgetMax s c n) c n) := by
  show execBudgetFault c s = _
  unfold execBudgetFault
  rw [run]
  dsimp only
  rw [if_pos (by simp [clocked, live])]
  split <;> rfl

theorem safLine_flag {f : Fld} : (s.safLine i n).flag f = s.flag f := by
  rw [State.flag, State.get, State.rd, safLine_regs]
  rfl

theorem diagEvent_line : diagEvent s 13 = s.safLine 13 3 := rfl

theorem stop_kept (small : c < 4) (task : n < 16) : (budgetCounted (budgetMax s c n) c n).flag (F.FRW_Tc_t_ENTRY_OVRSTOP c n) = s.flag (F.FRW_Tc_t_ENTRY_OVRSTOP c n) := by
  refine (budgetCounted_max_kept).flag ?_
  simp only [A.FRW_Tc_t_ENTRY, A.FRW_COREc_BUD, A.FRW_Tc_t_ST, A.FRW_Tc_t_MAX, sourceRegs, A.INT_SRCs, A.INT_Gg_EDGE_LO, A.INT_Gg_COAL_LO, List.cons_append,
    List.nil_append, List.mem_cons, List.not_mem_nil, or_false]
  omega

/-- The words of a budget fault of a running task. -/
theorem budgetCounted_max_words (small : c < 4) (task : n < 16) : (budgetCounted (budgetMax s c n) c n).get (F.FRW_COREc_BUD_LAST c) = n ∧
    (budgetCounted (budgetMax s c n) c n).get (F.FRW_COREc_BUD_COUNT c) = Nat.min (s.get (F.FRW_COREc_BUD_COUNT c) + 1) 65535 ∧
    (budgetCounted (budgetMax s c n) c n).get (F.FRW_Tc_t_ST_OVR c n) = Nat.min (s.get (F.FRW_Tc_t_ST_OVR c n) + 1) 65535 ∧
    Nat.min (2 ^ 24 - 1) (s.get (F.FRW_Tc_t_BOUND_CYC c n) + 1) ≤ (budgetCounted (budgetMax s c n) c n).get (F.FRW_Tc_t_MAX_CYC c n) ∧
    EdgeTaken s (budgetCounted (budgetMax s c n) c n) 10 := by
  obtain ⟨last, count, ovr, edge⟩ := budgetCounted_words (s := budgetMax s c n) small task
  have kept := budgetMax_kept (s := s) (c := c) (n := n)
  refine ⟨last, ?_, ?_, ?_, edge.1, ?_⟩
  · rw [count, kept.get (by simp only [A.FRW_COREc_BUD, A.FRW_Tc_t_MAX, List.mem_singleton]; omega)]
  · rw [ovr, kept.get (by simp only [A.FRW_Tc_t_ST, A.FRW_Tc_t_MAX, List.mem_singleton]; omega)]
  · rw [(budgetCounted_kept).get]
    · exact budgetMax_max
    · simp only [A.FRW_COREc_BUD, A.FRW_Tc_t_ST, A.FRW_Tc_t_MAX, sourceRegs, A.INT_SRCs, A.INT_Gg_EDGE_LO, A.INT_Gg_COAL_LO, List.cons_append, List.nil_append,
        List.mem_cons, List.not_mem_nil, or_false]
      omega
  · rw [edge.2, kept.pair]
    all_goals
      simp only [A.INT_Gg_EDGE_LO, A.FRW_Tc_t_MAX, List.mem_singleton]
      omega

end

end Sys2Proof.Machine

open Sys2Proof Sys2Proof.Machine

/-- Settles O26: a trigger that stands releases a job or is held or counted late; a budget fault is counted and told, and with
OVRSTOP its job is abandoned at a boundary; an overrun of INIT is a budget fault of task 15. -/
theorem tasksAndBudgets : Obligations.TasksAndBudgets := by
  unfold Obligations.TasksAndBudgets
  intro s length
  have len : ∀ c : Fin 4, c.val < s.frw.core.length := fun c => by have := c.isLt; omega
  refine ⟨fun c t clocked live init trigger fresh => ?_, fun c t clocked idle init trigger jobs run ready => ?_,
    fun c t clocked live init trigger released => ⟨fun free => ?_, fun held => ?_⟩, fun c t idle => ?_,
    fun c t clocked live run task goes => ⟨fun free => ?_, fun hears => ?_⟩,
    fun c t clocked live run task free stops => ⟨fun between quiet => ?_, fun within => ?_⟩, fun c idle => ?_,
    fun c clocked runs init => ⟨fun free => ?_, fun hears => ?_⟩, fun c idle => ?_⟩
  · have d := dispatch_dispatched (s := s.setCore c (withJob s c t)) (c := c) (by rw [setCore_length]; exact len c)
    have own := core_setCore_same (k := withJob s c t) (len c)
    refine ⟨_, (taskRelease_stands clocked live init trigger).trans (congrArg Host.Outcome.next (release_noted (len c) fresh)), ?_, ?_, ?_, ?_, ?_⟩
    · refine (d.jobs).trans ?_
      rw [own]
      exact List.map_append
    · rw [d.lastRel, own]
      rfl
    · rw [d.buf, own]
      rfl
    · exact d.whole
    · have set : RegsKept s (s.setCore c (withJob s c t)) [] := fun _ _ => rfl
      exact (set.trans d.regs).mono (by simp)
  · have own := core_setCore_same (k := withJob s c t) (len c)
    have live : coreLive (s.setCore c (withJob s c t)) c = true := by
      have same : coreState (s.setCore c (withJob s c t)) c = C_IDLE := idle
      rw [coreLive, same]
      rfl
    have ready' : eligible (s.setCore c (withJob s c t)) c = true := by
      rw [eligible, own]
      exact ready
    have live0 : coreLive s c = true := by rw [coreLive, idle]; rfl
    obtain ⟨h1, h2, h3, h4, h5⟩ := dispatch_begins (s := s.setCore c (withJob s c t)) (j := ⟨t, s.time.hsck + taskCycles s c t, none⟩) c.isLt
      (by rw [setCore_length]; exact len c) own live init ready' (by rw [withJob, jobs]; rfl) run rfl
    exact ⟨_, (taskRelease_stands clocked live0 init trigger).trans (congrArg Host.Outcome.next (release_noted (len c) (by simp [jobs]))), h1,
      h2.trans (Nat.mod_eq_of_lt t.isLt), h3, h4, h5⟩
  · have own := releaseNote_core (n := t.val) (len c)
    refine ⟨_, taskRelease_stands clocked live init trigger, ?_⟩
    rw [release_again (by rw [own]; exact released), own, if_neg (by simpa using free)]
    exact setCore_setCore
  · have own := releaseNote_core (n := t.val) (len c)
    refine ⟨_, taskRelease_stands clocked live init trigger, ?_⟩
    rw [release_again (by rw [own]; exact released), own, if_pos (by simpa using held)]
    have outside : (F.FRW_Tc_t_ST_LATE c t).addr ∉ sourceRegs 10 := (tasks_apart c.isLt t.isLt).2.2
    have only : OnlyRegs (releaseNote s c t) (((releaseNote s c t).incSat (F.FRW_Tc_t_ST_LATE c t)).event 10) := by simp
    have note : RegsKept s (releaseNote s c t) [] := fun _ _ => rfl
    refine ⟨only, ?_, ?_, ((note.trans incSat_kept).trans (event_kept _ _)).mono (by simp)⟩
    · rw [get_event_apart _ outside, get_incSat_same (show 0 + 16 ≤ 32 by decide)]
      exact Nat.min_comm _ _
    · rw [edgeTaken_event, pair_incSat_apart]
      · rfl
      · simp only [A.FRW_Tc_t_ST, A.INT_Gg_EDGE_LO]
        omega
  · refine ⟨s, congrArg Host.Outcome.next (if_neg ?_), rfl⟩
    obtain h | h | h | h := idle <;> simp [h]
  · have dep := depends_max (s := s) (d := c) (x := t) c.isLt task
    obtain ⟨last, count, ovr, most, edge⟩ := budgetCounted_max_words (s := s) c.isLt task
    have fault : budgetFault (budgetMax s c t) c t = budgetCounted (budgetMax s c t) c t := by
      rw [budgetFault_eq c.isLt task, dep, if_neg (by simp [free])]
    refine ⟨budgetCounted (budgetMax s c t) c t, ?_, budgetCounted_max_only, count, last, ovr, most, edge, budgetCounted_max_kept⟩
    rw [budgetFault_runs clocked live run, fault, stop_kept c.isLt task, if_neg (by simp [goes])]
  · have dep := depends_max (s := s) (d := c) (x := t) c.isLt task
    obtain ⟨last, count, ovr, most, edge⟩ := budgetCounted_max_words (s := s) c.isLt task
    have fault : budgetFault (budgetMax s c t) c t = diagEvent (budgetCounted (budgetMax s c t) c t) 13 := by
      rw [budgetFault_eq c.isLt task, dep, if_pos hears]
    refine ⟨_, ?_, budgetCounted (budgetMax s c t) c t, budgetCounted_max_only, last, count, edge, rfl⟩
    rw [budgetFault_runs clocked live run, fault, diagEvent_line, safLine_flag, stop_kept c.isLt task, if_neg (by simp [goes])]
  · have dep := depends_max (s := s) (d := c) (x := t) c.isLt task
    obtain ⟨last, -⟩ := budgetCounted_max_words (s := s) c.isLt task
    have fault : budgetFault (budgetMax s c t) c t = budgetCounted (budgetMax s c t) c t := by
      rw [budgetFault_eq c.isLt task, dep, if_neg (by simp [free])]
    have core : ∀ d, (budgetCounted (budgetMax s c t) c t).core d = s.core d := fun d => core_of_regs budgetCounted_max_only
    have len' : c.val < (budgetCounted (budgetMax s c t) c t).frw.core.length := by rw [frw_of_regs budgetCounted_max_only]; exact len c
    have bun : (s.core c).bun.isNone = true := by
      simp only [atBoundary, Bool.and_eq_true] at between
      exact between.1.1
    have own := core_setCore_same (k := { s.core c with drop := true }) len'
    obtain ⟨h1, h2, h3, h4, h5⟩ := abandon_spec (s := (budgetCounted (budgetMax s c t) c t).setCore c { s.core c with drop := true }) (c := c) (n := t)
      (by rw [setCore_length]; exact len') (by rw [own]; exact run) (by rw [own]; exact quiet)
    refine ⟨abandon ((budgetCounted (budgetMax s c t) c t).setCore c { s.core c with drop := true }) c, ?_, h1, h2, h3, ?_, fun d other => ?_⟩
    · rw [budgetFault_runs clocked live run, fault, stop_kept c.isLt task, if_pos stops]
      dsimp only
      rw [core, if_pos (by rw [bun]; exact congrArg (· || _) between)]
    · rw [h5.get]
      · exact last
      · simp only [A.FRW_COREc_BUD, A.FRW_COREc_ST, A.FRW_COREc_ECC, List.mem_cons, List.not_mem_nil, or_false]
        omega
    · rw [h4 d other, core_setCore_other other.symm, core]
  · have dep := depends_max (s := s) (d := c) (x := t) c.isLt task
    obtain ⟨last, -, -, -, edge⟩ := budgetCounted_max_words (s := s) c.isLt task
    have fault : budgetFault (budgetMax s c t) c t = budgetCounted (budgetMax s c t) c t := by
      rw [budgetFault_eq c.isLt task, dep, if_neg (by simp [free])]
    have core : ∀ d, (budgetCounted (budgetMax s c t) c t).core d = s.core d := fun d => core_of_regs budgetCounted_max_only
    have len' : c.val < (budgetCounted (budgetMax s c t) c t).frw.core.length := by rw [frw_of_regs budgetCounted_max_only]; exact len c
    refine ⟨(budgetCounted (budgetMax s c t) c t).setCore c { s.core c with drop := true }, ?_, core_setCore_same len', last, edge⟩
    rw [budgetFault_runs clocked live run, fault, stop_kept c.isLt task, if_pos stops]
    dsimp only
    rw [core, if_neg (by simp [Option.isSome_iff_ne_none.mp within])]
  · refine ⟨s, ?_, rfl⟩
    show execBudgetFault c s = _
    unfold execBudgetFault
    split
    · next t run =>
      refine if_neg ?_
      obtain h | h | h := idle
      · rw [h] at run
        cases run
      · simp [h]
      · simp [h]
    · rfl
  · obtain ⟨last, count, -, edge⟩ := budgetCounted_words (s := s) (n := 15) c.isLt (by decide)
    refine ⟨budgetCounted s c 15, ?_, budgetCounted_only, last, count, edge, budgetCounted_kept⟩
    show Host.Outcome.next _ = _
    rw [if_pos (by simp [clocked, runs, init]), budgetFault_eq c.isLt (by decide), if_neg (by simp [free])]
  · obtain ⟨last, -, -, edge⟩ := budgetCounted_words (s := s) (n := 15) c.isLt (by decide)
    refine ⟨_, ?_, budgetCounted s c 15, budgetCounted_only, last, edge, rfl⟩
    show Host.Outcome.next _ = _
    rw [if_pos (by simp [clocked, runs, init]), budgetFault_eq c.isLt (by decide), if_pos hears]
  · refine ⟨s, congrArg Host.Outcome.next (if_neg ?_), rfl⟩
    obtain h | h | h := idle <;> simp [h]

end

section
/-! PROOFS. Starting, halting, stepping, retiring and restarting a core (O27). -/

namespace Sys2Proof.Machine

section

variable {s t u : State} {c d n x : Nat} {k : CoreSt}

/-! ## A core's state -/

/-- The register that shows a core's state. -/
def stateReg (c : Nat) : Nat := if c < 4 then A.FRW_COREc_ST c else A.FRW_SENT_CTL

theorem setCoreState_put (small : c < 5) : ∃ f : Fld, f.addr = stateReg c ∧ f.lo + f.width ≤ 32 ∧ f.width = 3 ∧ (∀ s n, setCoreState s c n = s.put f n) ∧ ∀ s, coreState s c = s.get f := by
  by_cases main : c < 4
  · exact ⟨F.FRW_COREc_ST_STATE c, (if_pos main).symm, (show 0 + 3 ≤ 32 by decide), rfl, fun _ _ => if_pos main, fun _ => if_pos main⟩
  · have four : c = 4 := by omega
    subst four
    exact ⟨F.FRW_SENT_CTL_STATE, rfl, by decide, rfl, fun _ _ => rfl, fun _ => rfl⟩

theorem setCoreState_shown (small : c < 5) (fits : n < 8) : coreState (setCoreState s c n) c = n := by
  obtain ⟨f, -, word, width, put, get⟩ := setCoreState_put small
  rw [get, put, get_put_val _ word (by rw [width]; exact fits)]

theorem coreState_of (small : c < 5) (h : t.rd (stateReg c) = s.rd (stateReg c)) : coreState t c = coreState s c := by
  obtain ⟨f, addr, -, -, -, get⟩ := setCoreState_put small
  rw [← addr] at h
  rw [get, get, get_of_rd h]

theorem setCoreState_only (small : c < 5) : OnlyRegs s (setCoreState s c n) := by
  obtain ⟨f, -, -, -, put, -⟩ := setCoreState_put small
  rw [put]
  simp

theorem setCoreState_kept (small : c < 5) : RegsKept s (setCoreState s c n) [stateReg c] := by
  obtain ⟨f, addr, -, -, put, -⟩ := setCoreState_put small
  rw [put, ← addr]
  exact put_kept _ _ _

/-- The words that a core's stop writes. -/
theorem stateReg_apart (small : c < 5) : stateReg c ≠ A.FRW_FCMTk c ∧ stateReg c ≠ A.FRW_COREc_CTL c ∧ stateReg c ≠ A.FRW_COREc_ECC c := by
  unfold stateReg
  simp only [A.FRW_FCMTk, A.FRW_COREc_CTL, A.FRW_COREc_ECC, A.FRW_COREc_ST, A.FRW_SENT_CTL]
  split <;> omega

/-- A core's own part after it stops. -/
def CoreSt.stopped (k : CoreSt) : CoreSt := { k with jobs := [], run := none, heldRel := [], bun := none, slot := none, replay := none }

/-- A core that stops shows its new state, and beside it its staged words alone change. -/
theorem coreStop_spec (small : c < 5) (len : c < s.frw.core.length) (fits : n < 8) : coreState (coreStop s c n) c = n ∧
    (coreStop s c n).core c = (s.core c).stopped ∧ (∀ d, d ≠ c → (coreStop s c n).core d = s.core d) ∧
    RegsKept s (coreStop s c n) [stateReg c, A.FRW_FCMTk c] := by
  obtain ⟨apart, -, -⟩ := stateReg_apart small
  have only := setCoreState_only (s := s) (n := n) small
  have shown := setCoreState_shown (s := s) small fits
  have kept := setCoreState_kept (s := s) (n := n) small
  unfold coreStop
  generalize setCoreState s c n = v at only shown kept
  have cores : ∀ d, v.core d = s.core d := fun d => core_of_regs only
  have lenv : c < v.frw.core.length := by rw [frw_of_regs only]; exact len
  extract_lets s1 k s2
  have e1 : s1 = State.put { v with hsp := { v.hsp with fw := setNth v.hsp.fw c [] } } (F.FRW_FCMTk_STAGED c) 0 := if_pos small
  have frw1 : s1.frw = v.frw := by rw [e1]; rfl
  have cores1 : ∀ d, s1.core d = s.core d := fun d => by rw [State.core, frw1, ← State.core, cores]
  have kept1 : RegsKept v s1 [A.FRW_FCMTk c] := by
    rw [e1]
    exact fun a h => put_kept { v with hsp := { v.hsp with fw := setNth v.hsp.fw c [] } } (F.FRW_FCMTk_STAGED c) 0 a h
  clear_value s1
  have kept2 : RegsKept s1 s2 [] := fun _ _ => rfl
  have own : s2.core c = (s.core c).stopped := by
    rw [← cores1]
    exact core_setCore_same (by rw [frw1]; exact lenv)
  have others : ∀ d, d ≠ c → s2.core d = s.core d := fun d other => by
    rw [← cores1]
    exact core_setCore_other other.symm
  have shown2 : coreState s2 c = n := by
    rw [← shown]
    exact coreState_of small (((kept1.trans kept2).mono (by simp) : RegsKept v s2 [A.FRW_FCMTk c]) _ (by simpa using apart))
  clear_value s2
  have kept3 : RegsKept s s2 [stateReg c, A.FRW_FCMTk c] := ((kept.trans kept1).trans kept2).mono (by simp)
  split
  · next main =>
    have st : stateReg c = A.FRW_COREc_ST c := if_pos main
    have core : ∀ d, (s2.mark (F.FRW_COREc_ST_INIT c) false).core d = s2.core d := fun _ => rfl
    refine ⟨?_, by rw [core, own], fun d other => by rw [core, others d other], ((kept3.trans (mark_kept _ _ _))).mono (by simp [st])⟩
    rw [coreState, if_pos main, get_mark_apart _ _ _ _ (show 12 + 1 ≤ 32 by decide) (.inr (.inl (show 0 + 3 ≤ 12 by decide)))]
    rwa [coreState, if_pos main] at shown2
  · exact ⟨shown2, own, others, kept3⟩

theorem loadsReturn_buf : (loadsReturn k).buf = k.buf := rfl

/-- A core that halts has its loads returned and its stores drained. -/
theorem coreHalt_spec (small : c < 5) (len : c < s.frw.core.length) : coreState (coreHalt s c) c = C_HALT ∧ ((coreHalt s c).core c).buf = [] ∧
    ((coreHalt s c).core c).jobs = [] ∧ ((coreHalt s c).core c).run = none ∧ (∀ d, d ≠ c → (coreHalt s c).core d = s.core d) ∧
    RegsKept s (coreHalt s c) [A.FRW_COREc_ECC c, stateReg c, A.FRW_FCMTk c] := by
  have len0 : c < (s.setCore c (loadsReturn (s.core c))).frw.core.length := by rw [setCore_length]; exact len
  have own0 := core_setCore_same (k := loadsReturn (s.core c)) len
  obtain ⟨cores, regs⟩ := drainAll_spec len0
  unfold coreHalt
  extract_lets s1
  have core : ∀ d, s1.core d = (s.setCore c { loadsReturn (s.core c) with buf := [] }).core d := fun d => by
    rw [State.core, cores, ← State.core, own0, setCore_setCore]
  have len1 : c < s1.frw.core.length := by rw [cores, setCore_length]; exact len0
  obtain ⟨shown, own, others, kept⟩ := coreStop_spec (s := s1) (n := C_HALT) small len1 (by decide)
  have own1 : s1.core c = { loadsReturn (s.core c) with buf := [] } := by rw [core, core_setCore_same len]
  have kept0 : RegsKept s s1 [A.FRW_COREc_ECC c] := fun a m => (regs a m).trans rfl
  refine ⟨shown, by rw [own, own1]; rfl, by rw [own]; rfl, by rw [own]; rfl, fun d other => by rw [others d other, core, core_setCore_other other.symm],
    (kept0.trans kept).mono (by simp)⟩

/-! ## A core that starts -/

/-- A core that starts through INIT, with its registers at reset. -/
theorem coreInit_spec (small : c < 5) : coreInit s c = { s with regs := (coreInit s c).regs, frw := { s.frw with core := setNth s.frw.core c CoreSt.reset } } ∧
    coreState (coreInit s c) c = C_RUN ∧ RegsKept s (coreInit s c) [stateReg c, A.FRW_COREc_CTL c] ∧
    (c < 4 → (coreInit s c).flag (F.FRW_COREc_ST_INIT c) = true ∧ (coreInit s c).flag (F.FRW_COREc_CTL_RUN c) = true) ∧
    (4 ≤ c → RegsKept s (coreInit s c) [stateReg c]) := by
  obtain ⟨-, apart, -⟩ := stateReg_apart small
  have only := setCoreState_only (s := s.setCore c coreFresh) (n := C_RUN) small
  have shown := setCoreState_shown (s := s.setCore c coreFresh) (n := C_RUN) small (by decide)
  have kept : RegsKept s (setCoreState (s.setCore c coreFresh) c C_RUN) [stateReg c] := fun a m =>
    (setCoreState_kept (s := s.setCore c coreFresh) (n := C_RUN) small a m).trans rfl
  unfold coreInit
  generalize setCoreState (s.setCore c coreFresh) c C_RUN = v at only shown kept
  have whole : v = { s with regs := v.regs, frw := { s.frw with core := setNth s.frw.core c CoreSt.reset } } := only
  dsimp only
  split
  · next main =>
    have st : stateReg c = A.FRW_COREc_ST c := if_pos main
    rw [st] at apart
    have only2 : OnlyRegs v ((v.mark (F.FRW_COREc_ST_INIT c) true).mark (F.FRW_COREc_CTL_RUN c) true) := by simp
    refine ⟨?_, ?_, ((kept.trans (mark_kept _ _ _)).trans (mark_kept _ _ _)).mono (by simp [st]), fun _ => ⟨?_, ?_⟩, fun other => by omega⟩
    · generalize (v.mark (F.FRW_COREc_ST_INIT c) true).mark (F.FRW_COREc_CTL_RUN c) true = w at only2
      rw [show w = { v with regs := w.regs } from only2, whole]
    · rw [coreState, if_pos main, get_mark_apart _ _ _ _ (show 0 + 1 ≤ 32 by decide) (.inl apart.symm),
        get_mark_apart _ _ _ _ (show 12 + 1 ≤ 32 by decide) (.inr (.inl (show 0 + 3 ≤ 12 by decide)))]
      rwa [coreState, if_pos main] at shown
    · rw [flag_mark_apart _ _ _ _ (show 0 + 1 ≤ 32 by decide) (.inl apart.symm)]
      exact flag_mark_same _ _ _ (show 12 + 1 ≤ 32 by decide) rfl
    · exact flag_mark_same _ _ _ (show 0 + 1 ≤ 32 by decide) rfl
  · next other =>
    exact ⟨whole, shown, kept.mono (by simp), fun main => absurd main other, fun _ => kept⟩

/-! ## The rows -/

/-- The mark of a core's RUN bit changes no state. -/
theorem run_marked {b : Bool} (small : c < 4) : coreState (s.mark (F.FRW_COREc_CTL_RUN c) b) c = coreState s c ∧
    (s.mark (F.FRW_COREc_CTL_RUN c) b).awake = s.awake ∧ eligible (s.mark (F.FRW_COREc_CTL_RUN c) b) c = eligible s c ∧
    coreLive (s.mark (F.FRW_COREc_CTL_RUN c) b) c = coreLive s c := by
  have st : stateReg c = A.FRW_COREc_ST c := if_pos small
  have state : coreState (s.mark (F.FRW_COREc_CTL_RUN c) b) c = coreState s c :=
    coreState_of (by omega) (rd_mark_apart s (by simp only [A.FRW_COREc_CTL, st, A.FRW_COREc_ST]; omega))
  refine ⟨state, ?_, rfl, by rw [coreLive, coreLive, state]⟩
  have power : (s.mark (F.FRW_COREc_CTL_RUN c) b).pstate = s.pstate :=
    get_mark_apart _ _ _ _ (show 0 + 1 ≤ 32 by decide) (.inl (by simp only [A.FRW_COREc_CTL, A.PWR_STATE]; omega))
  unfold State.awake
  rw [power]

theorem some_task {c : Fin 4} (h : ∃ t < 16, taskKind s c t ≠ 0) : ((upto 16).any fun t => taskKind s c t != 0) = true := by
  obtain ⟨t, small, kind⟩ := h
  exact List.any_eq_true.mpr ⟨t, by simpa [upto] using small, by simpa using kind⟩

theorem no_task {c : Fin 4} (h : ∀ t < 16, taskKind s c t = 0) : ((upto 16).any fun t => taskKind s c t != 0) = false := by
  refine List.any_eq_false.mpr fun t mem => ?_
  simpa using h t (mem_upto mem)

/-- A core's RUN bit may be cleared where it has no enabled task, or in SERVICE. -/
theorem coreRun_clears {c : Fin 4} (free : s.pstate = SERVICE ∨ ∀ t < 16, taskKind s c t = 0) :
    exec (.coreRun c false) s = .next (if coreLive s c = true ∧ eligible s c = true then coreHalt (s.mark (F.FRW_COREc_CTL_RUN c) false) c
      else s.mark (F.FRW_COREc_CTL_RUN c) false) := by
  obtain ⟨-, -, ready, live⟩ := run_marked (s := s) (b := false) c.isLt
  show Host.Outcome.next _ = _
  rw [if_neg, coreRunWrite]
  · rw [live, ready]
    rfl
  · obtain h | h := free
    · simp [h]
    · simp [no_task h]

/-- The mark of the sentry core's RUN bit changes no state. -/
theorem sentry_marked {b : Bool} : coreState (s.mark F.FRW_SENT_CTL_RUN b) SENT = coreState s SENT ∧ (s.mark F.FRW_SENT_CTL_RUN b).pstate = s.pstate :=
  ⟨get_mark_apart _ _ _ _ (by decide) (by decide), get_mark_apart _ _ _ _ (by decide) (by decide)⟩

theorem drainAll_kept : RegsKept s (drainAll s c) [A.FRW_COREc_ECC c] := by
  have h : Beside c (s.setCore c { s.core c with buf := (s.core c).buf.drop (s.core c).buf.length }) (drainAll s c) :=
    Beside.forEach fun _ _ => drainEntry_beside
  exact fun a m => h.regs a m

theorem sentryStop_run : (coreStop s SENT n).flag F.FRW_SENT_CTL_RUN = s.flag F.FRW_SENT_CTL_RUN := by
  have shown : (s.put F.FRW_SENT_CTL_STATE n).flag F.FRW_SENT_CTL_RUN = s.flag F.FRW_SENT_CTL_RUN := flag_put_apart _ _ _ _ (by decide) (by decide)
  rw [← shown]
  have staged : ∀ w : State, (w.put (F.FRW_FCMTk_STAGED SENT) 0).flag F.FRW_SENT_CTL_RUN = w.flag F.FRW_SENT_CTL_RUN := fun _ =>
    flag_put_apart _ _ _ _ (by decide) (by decide)
  exact staged { s.put F.FRW_SENT_CTL_STATE n with hsp := { (s.put F.FRW_SENT_CTL_STATE n).hsp with fw := setNth (s.put F.FRW_SENT_CTL_STATE n).hsp.fw SENT [] } }

/-- The sentry core's halt leaves its RUN bit: its state stands in other bits of the same word. -/
theorem sentryHalt_run : (coreHalt s SENT).flag F.FRW_SENT_CTL_RUN = s.flag F.FRW_SENT_CTL_RUN := by
  unfold coreHalt
  rw [sentryStop_run]
  exact (drainAll_kept (c := SENT)).flag (f := F.FRW_SENT_CTL_RUN) (by decide)

/-- A core that retires shows it, in its bit and in the repair map. -/
theorem coreRetired_spec (small : c < 4) (len : c < s.frw.core.length) : coreState (coreRetired s c) c = C_RETIRED ∧
    (coreRetired s c).flag (F.FRW_COREc_CTL_RETIRE c) = true ∧ ((coreRetired s c).core c).run = none ∧ ((coreRetired s c).core c).buf = [] := by
  have st : stateReg c = A.FRW_COREc_ST c := if_pos small
  obtain ⟨cores, -⟩ := drainAll_spec len
  have own0 : (drainAll s c).core c = { s.core c with buf := [] } := by
    rw [State.core, cores]
    exact core_setCore_same len
  obtain ⟨shown, own, -, -⟩ := coreStop_spec (s := drainAll s c) (n := C_RETIRED) (c := c) (by omega) (by rw [cores, setCore_length]; exact len) (by decide)
  have core : ∀ v : State, (v.mark (F.FRW_COREc_CTL_RETIRE c) true).core c = v.core c := fun _ => rfl
  refine ⟨?_, flag_mark_same _ _ _ (show 2 + 1 ≤ 32 by decide) rfl, ?_, ?_⟩
  · rw [coreRetired, coreState_of (by omega) (rd_mark_apart _ (by simp only [A.FRW_COREc_CTL, st, A.FRW_COREc_ST]; omega)), shown]
  · rw [coreRetired, core, own]
    rfl
  · rw [coreRetired, core, own, own0]
    rfl

/-- A core's words. -/
def CoreWord (a : Nat) : Prop := 0x080000 ≤ a ∧ a < 0x090000

theorem far_put {f : Fld} (high : 0x090000 ≤ f.addr) : Stands CoreWord s (s.put f n) := Stands.put fun m => absurd m.2 (by omega)

theorem far_kept {as : List Nat} (h : RegsKept s t as) (high : ∀ a ∈ as, 0x090000 ≤ a) : Stands CoreWord s t :=
  .of_kept h fun a m i => absurd m.2 (by have := high a i; omega)

/-- What the anchor shows of the store and the repair map touches no core's word. -/
theorem nvmShow_cores : Stands CoreWord s (nvmShow s) := by
  unfold nvmShow
  extract_lets u counts low rose s1 s2 s3 s4 s5 s6 s7
  have h1 : Stands CoreWord s s1 := (far_put (by decide)).trans (far_put (by decide))
  have h2 : Stands CoreWord s1 s2 := (far_put (by decide)).trans (far_put (by decide))
  have h3 : Stands CoreWord s2 s3 := far_put (by decide)
  have h4 : Stands CoreWord s3 s4 := far_put (by decide)
  have h5 : Stands CoreWord s4 s5 := (far_put (by decide)).trans (far_kept (setPair_kept _ _ _) (by decide))
  have h6 : Stands CoreWord s5 s6 := far_put (by decide)
  have h7 : Stands CoreWord s6 s7 := far_put (by decide)
  have h := ((((((h1.trans h2).trans h3).trans h4).trans h5).trans h6).trans h7)
  exact .ite (h.trans (far_kept (event_kept _ 14) (by decide))) h

theorem retireMap_spec : Stands CoreWord s (retireMap s c) ∧ (retireMap s c).frw = s.frw ∧ c ∈ (retireMap s c).nvm.cores := by
  unfold retireMap
  extract_lets old s1
  have recorded : c ∈ s1.nvm.cores := by
    simp only [s1]
    split
    · next h => simpa using h
    · simp
  have h1 : Stands CoreWord s s1 := Stands.rfl.parts rfl
  have frw1 : s1.frw = s.frw := rfl
  clear_value s1
  have h2 : Stands CoreWord s1 (anchorWrite s1) := by
    unfold anchorWrite programmed
    extract_lets g old s2
    have k : Stands CoreWord s1 s2 := Stands.rfl.parts rfl
    exact (k.trans (far_put (f := F.NVM_ST_ANCH) (n := 2) (by decide))).parts rfl
  have cores : (anchorWrite s1).nvm.cores = s1.nvm.cores := rfl
  refine ⟨(h1.trans h2).trans nvmShow_cores, ?_, ?_⟩
  · rw [(nvmShow_keeps).frw rfl, (anchorWrite_keeps).frw rfl, frw1]
  · rw [(nvmShow_keeps).nvm rfl, cores]
    exact recorded

end

end Sys2Proof.Machine

open Sys2Proof Sys2Proof.Machine

/-- Settles O27: a core starts from HALT or FAULT through INIT, halts at a boundary with its stores drained, steps from HALT,
and retires into the repair map; the sentry core's RUN bit acts outside SENTRY and OFF alone. -/
theorem coreControl : Obligations.CoreControl := by
  unfold Obligations.CoreControl
  intro s length
  have len : ∀ c : Fin 4, c.val < s.frw.core.length := fun c => by have := c.isLt; omega
  refine ⟨fun c awake state => ?_, fun c idle => ?_, fun c state tasks => ?_, fun c free live ready => ?_, fun c free away => ?_,
    fun c => ⟨fun halted => ?_, fun other => ?_⟩, fun c none state => ?_, fun c held => ?_, fun fault clocked => ?_, fun idle => ?_,
    fun off sentry state => ?_, fun off sentry halted gone => ?_, fun b agrees => ?_⟩
  · obtain ⟨same, woken, -, -⟩ := run_marked (s := s) (b := true) c.isLt
    obtain ⟨whole, shown, kept, marks, -⟩ := coreInit_spec (s := s.mark (F.FRW_COREc_CTL_RUN c) true) (c := c) (by have := c.isLt; omega)
    have st : stateReg c = A.FRW_COREc_ST c := if_pos c.isLt
    obtain ⟨init, run⟩ := marks c.isLt
    refine ⟨coreInit (s.mark (F.FRW_COREc_CTL_RUN c) true) c, ?_, whole, shown, init, run, ((mark_kept _ _ _).trans kept).mono (by simp [st])⟩
    show Host.Outcome.next _ = _
    rw [if_neg (by simp), coreRunWrite]
    rw [if_pos rfl, if_pos ⟨woken.trans awake, by rw [same]; exact state⟩]
  · obtain ⟨same, woken, -, -⟩ := run_marked (s := s) (b := true) c.isLt
    refine ⟨s.mark (F.FRW_COREc_CTL_RUN c) true, ?_, rfl⟩
    show Host.Outcome.next _ = _
    rw [if_neg (by simp), coreRunWrite]
    rw [if_pos rfl, if_neg]
    rintro ⟨a, b⟩
    rw [same] at b
    obtain h | ⟨h1, h2⟩ := idle
    · rw [woken, h] at a
      cases a
    · exact b.elim h1 h2
  · refine ⟨s, congrArg Host.Outcome.next (if_pos ?_), rfl⟩
    simp [state, some_task tasks]
  · obtain ⟨shown, buf, jobs, -, others, kept⟩ := coreHalt_spec (s := s.mark (F.FRW_COREc_CTL_RUN c) false) (c := c) (by have := c.isLt; omega) (len c)
    refine ⟨_, (coreRun_clears free).trans (congrArg Host.Outcome.next (if_pos ⟨live, ready⟩)), shown, buf, jobs, ?_, fun d other => others d other⟩
    have st : stateReg c = A.FRW_COREc_ST c := if_pos c.isLt
    rw [kept.flag]
    · exact flag_mark_same _ _ _ (show 0 + 1 ≤ 32 by decide) rfl
    · simp only [st, A.FRW_COREc_CTL, A.FRW_COREc_ECC, A.FRW_COREc_ST, A.FRW_FCMTk, List.mem_cons, List.not_mem_nil, or_false]
      omega
  · refine ⟨_, (coreRun_clears free).trans (congrArg Host.Outcome.next (if_neg fun h => ?_)), rfl⟩
    obtain a | a := away
    · rw [a] at h
      cases h.1
    · rw [a] at h
      cases h.2
  · exact ⟨_, congrArg Host.Outcome.next (if_pos halted), rfl⟩
  · exact ⟨s, congrArg Host.Outcome.next (if_neg other), rfl⟩
  · obtain ⟨shown, mark, run, buf⟩ := coreRetired_spec (s := s) c.isLt (len c)
    obtain ⟨words, frw, recorded⟩ := retireMap_spec (s := coreRetired s c) (c := c)
    have core : (retireMap (coreRetired s c) c).core c = (coreRetired s c).core c := by rw [State.core, frw, State.core]
    have st : stateReg c = A.FRW_COREc_ST c := if_pos c.isLt
    refine ⟨_, congrArg Host.Outcome.next (if_neg (by simp [no_task none, state])), ?_, ?_, recorded, by rw [core, run], by rw [core, buf]⟩
    · rw [coreState_of (by have := c.isLt; omega) (words _ (by rw [st]; simp only [CoreWord, A.FRW_COREc_ST]; omega)), shown]
    · rw [words.flag (by simp only [CoreWord, A.FRW_COREc_CTL]; omega), mark]
  · refine ⟨s, congrArg Host.Outcome.next (if_pos ?_), rfl⟩
    obtain h | h := held
    · rw [some_task h, Bool.true_or]
    · simp [h]
  · obtain ⟨whole, shown, -, -, kept⟩ := coreInit_spec (s := s) (c := SENT) (by decide)
    exact ⟨coreInit s SENT, congrArg Host.Outcome.next (if_pos (by simp [clocked, fault])), whole, shown, kept (by decide)⟩
  · refine ⟨s, congrArg Host.Outcome.next (if_neg ?_), rfl⟩
    obtain h | h := idle <;> simp [h]
  · obtain ⟨same, power⟩ := sentry_marked (s := s) (b := true)
    obtain ⟨whole, shown, -, -, kept⟩ := coreInit_spec (s := s.mark F.FRW_SENT_CTL_RUN true) (c := SENT) (by decide)
    refine ⟨coreInit (s.mark F.FRW_SENT_CTL_RUN true) SENT, ?_, whole, shown, ?_, ((mark_kept _ _ _).trans (kept (by decide))).mono (by simp [stateReg])⟩
    · show Host.Outcome.next _ = _
      rw [sentRunWrite, power, same, if_neg (by simp [off, sentry]), if_pos rfl, if_pos state]
    · have run : (coreInit (s.mark F.FRW_SENT_CTL_RUN true) SENT).flag F.FRW_SENT_CTL_RUN = (s.mark F.FRW_SENT_CTL_RUN true).flag F.FRW_SENT_CTL_RUN :=
        flag_put_apart _ _ _ _ (by decide) (by decide)
      rw [run]
      exact flag_mark_same _ _ _ (by decide) rfl
  · obtain ⟨same, power⟩ := sentry_marked (s := s) (b := false)
    obtain ⟨shown, buf, jobs, run, others, kept⟩ := coreHalt_spec (s := s.mark F.FRW_SENT_CTL_RUN false) (c := SENT) (by decide) (show 4 < s.frw.core.length by omega)
    refine ⟨coreHalt (s.mark F.FRW_SENT_CTL_RUN false) SENT, ?_, shown, ?_, buf, run, fun d other => others d other⟩
    · show Host.Outcome.next _ = _
      rw [sentRunWrite, power, same, if_neg (by simp [off, sentry]), if_neg (by simp), if_neg (by simp [halted, gone])]
    · rw [sentryHalt_run]
      exact flag_mark_same _ _ _ (by decide) rfl
  · obtain ⟨same, power⟩ := sentry_marked (s := s) (b := b)
    refine ⟨s.mark F.FRW_SENT_CTL_RUN b, ?_, by simp, flag_mark_same _ _ _ (by decide) rfl, same, mark_kept _ _ _⟩
    show Host.Outcome.next _ = _
    rw [sentRunWrite, power, same]
    obtain h | h | h := agrees
    · rw [if_pos (.inr h)]
    · rw [if_pos (.inl h)]
    · split
      · rfl
      · cases b with
        | true => rw [if_pos rfl, if_neg (by simpa using h)]
        | false => rw [if_neg (by decide), if_pos (by simpa using h)]

end

section
/-! PROOFS. Stores drain, loads return, the ECC patrol corrects or flags (O28). -/

namespace Sys2Proof.Machine

section

variable {s t u : State} {c d m n a w : Nat} {bs : List Nat} {k : CoreSt}

/-! ## A store reaches its memory -/

/-- The oldest store of a core's buffer drains. -/
theorem drainN_oldest {e : Nat × List Nat} {l : List (Nat × List Nat)} (len : c < s.frw.core.length) (buf : (s.core c).buf = e :: l) :
    drainN s c 1 = (drainEntry s c e).setCore c { s.core c with buf := l } := by
  have first := drainN_first len buf
  rwa [setCore_core len] at first

theorem drainN_empty (len : c < s.frw.core.length) (buf : (s.core c).buf = []) : drainN s c n = s := by
  unfold drainN
  simp only [buf, List.take_nil, List.drop_nil]
  have same : ({ s.core c with buf := [] } : CoreSt) = s.core c := by rw [← buf]
  rw [same]
  exact setCore_core len

theorem met_memories {p : Prop} [Decidable p] : (if p then softMeet s c m a n else s).frw.data = s.frw.data ∧
    (if p then softMeet s c m a n else s).frw.common = s.frw.common ∧ (if p then softMeet s c m a n else s).frw.prog = s.frw.prog := by
  split
  · rw [softMeet_soft]
    exact ⟨rfl, rfl, rfl⟩
  · exact ⟨rfl, rfl, rfl⟩

theorem marked_frw {p : Prop} [Decidable p] {f : Fld} {b : Bool} : (if p then t.mark f b else t).frw = t.frw := by split <;> rfl

theorem dataWrite_memories : (dataWrite s c a bs).frw.data = setNth s.frw.data c (memWrite (nth s.frw.data c []) a bs) ∧
    (dataWrite s c a bs).frw.common = s.frw.common ∧ (dataWrite s c a bs).frw.prog = s.frw.prog := ⟨rfl, rfl, rfl⟩

theorem commonWrite_memories : (commonWrite s a bs).frw.common = memWrite s.frw.common a bs ∧
    (commonWrite s a bs).frw.data = s.frw.data ∧ (commonWrite s a bs).frw.prog = s.frw.prog := ⟨rfl, rfl, rfl⟩

/-- A drained store of the data memory. -/
theorem drainEntry_data (low : a < COMMON_BASE) : (drainEntry s c (a, bs)).frw.data = setNth s.frw.data c (memWrite (s.data c) (a - DATA_BASE) bs) ∧
    (drainEntry s c (a, bs)).frw.common = s.frw.common ∧ (drainEntry s c (a, bs)).frw.prog = s.frw.prog := by
  unfold drainEntry
  simp only [decide_eq_false (Nat.not_le_of_lt low), Bool.false_eq_true, if_false, marked_frw, dataWrite_memories, met_memories, State.data, and_self]

/-- A drained store of the Common. -/
theorem drainEntry_common (high : COMMON_BASE ≤ a) : (drainEntry s c (a, bs)).frw.common = memWrite s.frw.common (a - COMMON_BASE) bs ∧
    (drainEntry s c (a, bs)).frw.data = s.frw.data ∧ (drainEntry s c (a, bs)).frw.prog = s.frw.prog := by
  unfold drainEntry
  simp only [decide_eq_true high, if_true, marked_frw, commonWrite_memories, met_memories, and_self]

/-- The bytes of a write, read one by one. -/
theorem memGet_written (l : List Host.Cell) : ∀ i < bs.length, memGet (memWrite l a bs) (a + i) = nth bs i 0 % 256 := by
  intro i inside
  rw [memGet_memWrite_at _ _ _ _ inside]
  simp [nth, inside]

theorem data_setNth {l : List Host.Cell} (inside : c < s.frw.data.length) (h : t.frw.data = setNth s.frw.data c l) :
    t.data c = l ∧ ∀ d, d ≠ c → t.data d = s.data d := by
  unfold State.data
  rw [h]
  exact ⟨nth_setNth_same inside, fun d ne => nth_setNth_other (Ne.symm ne)⟩

/-! ## A load returns -/

/-- The value of a load in its register. -/
def CoreSt.loads (k : CoreSt) (e : Nat × BitVec 128) (l : List (Nat × BitVec 128)) : CoreSt :=
  { k with regs := k.regs.give e, ret := l, bun := k.bun.map (fun b => { b with before := b.before.give e }) }

theorem returnFor_oldest {e : Nat × BitVec 128} {l : List (Nat × BitVec 128)} (ret : k.ret = e :: l) (once : ∀ o ∈ l, o.1 ≠ e.1) :
    returnFor k ((k.ret.take 1).map (·.1)) = k.loads e l := by
  have others : l.filter (fun o => [e.1].contains o.1) = [] := List.filter_eq_nil_iff.mpr fun o m => by simpa using once o m
  have rest : l.filter (fun o => !([e.1] : List Nat).contains o.1) = l := List.filter_eq_self.mpr fun o m => by simpa using once o m
  simp only [returnFor, ret, List.take_succ_cons, List.take_zero, List.map_cons, List.map_nil]
  rw [List.filter_cons_of_pos (by simp), List.filter_cons_of_neg (by simp), others, rest]
  rfl

theorem give_scalar {r : CoreRegs} {x : BitVec 5} {v : BitVec 128} : r.give (regS x.toNat, v) = r.setS x (v.setWidth 32) := by
  have small := x.isLt
  simp [CoreRegs.give, small]

theorem give_vector {r : CoreRegs} {x : Fin 16} {v : BitVec 128} : r.give (regQ x.val, v) = r.setQ (BitVec.ofNat 5 x.val) v := by
  have small := x.isLt
  have number : (BitVec.ofNat 5 x.val).toNat = x.val := by
    rw [BitVec.toNat_ofNat]
    omega
  rw [CoreRegs.give, CoreRegs.setQ, number, if_neg (by simp [regQ]), Nat.add_sub_cancel_left]

/-! ## The ECC patrol -/

/-- A list of flagged words with one more in it. -/
def withWord (l : List Nat) (w : Nat) : List Nat := if l.contains w then l else l ++ [w]

theorem mem_withWord (l : List Nat) : w ∈ withWord l w := by
  unfold withWord
  split
  · next h => simpa using h
  · simp

theorem nth_withWord {l : List (List Nat)} (inside : c < l.length) : w ∈ nth (setNth l c (withWord (nth l c []) w)) c [] := by
  rw [nth_setNth_same inside]
  exact mem_withWord _

/-- The word that the patrol visits, in its memory. -/
def flagged (s : State) (c m w : Nat) : State :=
  if m = 0 then { s with frw := { s.frw with badProg := setNth s.frw.badProg c (withWord (nth s.frw.badProg c []) w) } }
  else if m = 1 then { s with frw := { s.frw with badData := setNth s.frw.badData c (withWord (nth s.frw.badData c []) w) } }
  else { s with frw := { s.frw with badCommon := withWord s.frw.badCommon w } }

theorem patrolBad_flagged : patrolBad s c m w =
    if c < 4 then (flagged s c m w).mark (if m = 0 then F.FRW_COREc_ECC_PDBE c else F.FRW_COREc_ECC_DBE c) true
    else if c = SCARE then scareEcc (flagged s c m w) else flagged s c m w := rfl

/-- What a patrol of a word inside its memory does. -/
theorem patrol_visits {c : Fin 6} {m : Fin 3} {b : Bool} {l : List (Fin 6 × Fin 3 × Bool × Nat)} (clock : coreClocked s c = true)
    (inside : a < memoryBytes c m) : exec (.coreEccPatrol c m a (b, l)) s = .next (forEach l coreStruck (corePatrol s c m (a / 8 * 8) b)) := by
  refine congrArg Host.Outcome.next (if_pos ?_)
  simp [clock, inside]

/-- What is struck with it. -/
theorem coreStruck_soft {d : Fin 6} {k : Fin 3} (inside : a < memoryBytes d k) :
    (k.val, if k = 2 then 0 else d.val, a / 8 * 8) ∈ (coreStruck s (d, k, false, a)).frw.soft := by
  have word : ¬ memoryBytes d k ≤ a / 8 * 8 := by omega
  have common : (if k.val = 2 then 0 else d.val) = if k = 2 then 0 else d.val := by simp [Fin.ext_iff]
  unfold coreStruck
  simp only [if_neg word, Bool.false_eq_true, if_false, common]
  generalize (k.val, if k = 2 then 0 else d.val, a / 8 * 8) = e
  split
  · next h => simpa using h
  · simp

theorem coreStruck_bad {d : Fin 6} {k : Fin 3} (inside : a < memoryBytes d k) : coreStruck s (d, k, true, a) = flagged s d k (a / 8 * 8) := by
  unfold coreStruck
  exact if_neg (show ¬ memoryBytes d k ≤ a / 8 * 8 by omega)

theorem flagged_prog (inside : c < s.frw.badProg.length) : w ∈ nth (flagged s c 0 w).frw.badProg c [] := nth_withWord inside

theorem flagged_data (inside : c < s.frw.badData.length) : w ∈ nth (flagged s c 1 w).frw.badData c [] := nth_withWord inside

theorem flagged_common : w ∈ (flagged s c 2 w).frw.badCommon := mem_withWord _

/-- A word that could be corrected. -/
theorem corePatrol_corrected (main : c < 4) : corePatrol s c m w false = (softDrop s c m w 8).incSat (F.FRW_COREc_ECC_SBE c) := if_pos main

theorem corePatrol_beside : (corePatrol s c m w false).frw.badProg = s.frw.badProg ∧ (corePatrol s c m w false).frw.badData = s.frw.badData := by
  unfold corePatrol
  simp only [Bool.false_eq_true, if_false]
  split
  · rw [incSat_regs]
    exact ⟨rfl, rfl⟩
  · exact ⟨rfl, rfl⟩

end

end Sys2Proof.Machine

open Sys2Proof Sys2Proof.Machine

/-- Settles O28: the oldest store, the oldest load and the patrol's word each have their own equation. -/
theorem coreTraffic : Obligations.CoreTraffic := by
  intro s cores datas
  have core : ∀ c : Fin 6, c.val < s.frw.core.length := fun c => by rw [cores]; exact c.isLt
  refine ⟨?_, ?_, ?_, ?_, ?_, ?_, ?_, ?_, ?_, ?_, ?_, ?_, ?_, ?_, ?_⟩
  · intro c a bs l clock buf low high
    have drained := drainN_oldest (core c) buf
    have facts := drainEntry_data (s := s) (c := c) (bs := bs) high
    have beside : Beside c s (drainEntry s c (a, bs)) := drainEntry_beside
    generalize drainEntry s c (a, bs) = t at drained facts beside
    obtain ⟨data, common, prog⟩ := facts
    have len : c.val < t.frw.core.length := by rw [beside.core]; exact core c
    obtain ⟨own, others⟩ := data_setNth (by rw [datas]; exact c.isLt) data
    refine Gives.of_eq rfl ((if_pos clock).trans drained) ?_
    refine ⟨congrArg CoreSt.buf (core_setCore_same len), ?_, ?_, fun d ne => others d fun same => ne (Fin.ext same), common, prog,
      (congrArg CoreSt.regs (core_setCore_same len)).trans rfl, fun x m => beside.regs x m⟩
    · intro i inside
      exact (congrArg (memGet · (a - DATA_BASE + i)) own).trans (memGet_written _ i inside)
    · intro o apart
      exact (congrArg (memGet · o) own).trans (memGet_memWrite_other _ _ _ _ apart)
  · intro c a bs l clock buf high
    have drained := drainN_oldest (core c) buf
    have facts := drainEntry_common (s := s) (c := c) (bs := bs) high
    have beside : Beside c s (drainEntry s c (a, bs)) := drainEntry_beside
    generalize drainEntry s c (a, bs) = t at drained facts beside
    obtain ⟨common, data, prog⟩ := facts
    have len : c.val < t.frw.core.length := by rw [beside.core]; exact core c
    refine Gives.of_eq rfl ((if_pos clock).trans drained) ?_
    refine ⟨congrArg CoreSt.buf (core_setCore_same len), ?_, ?_, data, prog⟩
    · intro i inside
      exact (congrArg (memGet · (a - COMMON_BASE + i)) common).trans (memGet_written _ i inside)
    · intro o apart
      exact (congrArg (memGet · o) common).trans (memGet_memWrite_other _ _ _ _ apart)
  · rintro c (empty | still)
    · refine Gives.of_eq rfl ?_ rfl
      split
      · exact drainN_empty (core c) empty
      · rfl
    · exact Gives.of_eq rfl (if_neg (by simp [still])) rfl
  · intro c n v l clock ret once
    refine Gives.of_eq rfl ((if_pos clock).trans (congrArg (s.setCore c) (returnFor_oldest ret once))) ?_
    simp only [CoreSt.loads, give_scalar]
  · intro c n v l clock ret once
    refine Gives.of_eq rfl ((if_pos clock).trans (congrArg (s.setCore c) (returnFor_oldest ret once))) ?_
    simp only [CoreSt.loads, give_vector]
  · rintro c (none | still)
    · refine Gives.of_eq rfl ?_ rfl
      rw [returnFor_none none, setCore_core (core c), ite_self]
    · exact Gives.of_eq rfl (if_neg (by simp [still])) rfl
  · intro c m a clock main inside
    refine Gives.of_eq (patrol_visits clock inside) (corePatrol_corrected main) ⟨?_, ?_, fun x o => incSat_kept (s := softDrop s c m.val (a / 8 * 8) 8) x o⟩
    · conv_lhs => rw [incSat_regs]
      rfl
    · rw [get_incSat_same (show 0 + 16 ≤ 32 by decide)]
      exact Nat.min_comm _ _
  · intro c m a clock other inside
    exact Gives.of_eq (patrol_visits clock inside) (if_neg (Nat.not_lt.mpr other)) rfl
  · intro c a clock main inside six
    refine Gives.of_eq (patrol_visits (m := 0) clock inside) ((patrolBad_flagged).trans (if_pos main)) ⟨?_, ?_, ?_, rfl, fun x o => put_kept (flagged s c 0 (a / 8 * 8)) _ _ x o⟩
    · exact flag_mark_same _ _ _ (show 17 + 1 ≤ 32 by decide) rfl
    · exact flag_mark_apart _ _ _ _ (show 17 + 1 ≤ 32 by decide) (.inr (.inl (show 16 + 1 ≤ 17 by decide)))
    · exact flagged_prog (by rw [six]; exact c.isLt)
  · intro c a clock main inside six
    refine Gives.of_eq (patrol_visits (m := 1) clock inside) ((patrolBad_flagged).trans (if_pos main)) ⟨?_, ?_, ?_, rfl, fun x o => put_kept (flagged s c 1 (a / 8 * 8)) _ _ x o⟩
    · exact flag_mark_same _ _ _ (show 16 + 1 ≤ 32 by decide) rfl
    · exact flag_mark_apart _ _ _ _ (show 16 + 1 ≤ 32 by decide) (.inr (.inr (show 16 + 1 ≤ 17 by decide)))
    · exact flagged_data (by rw [six]; exact c.isLt)
  · intro c a clock main inside
    refine Gives.of_eq (patrol_visits (m := 2) clock ?_) ((patrolBad_flagged).trans (if_pos main)) ⟨?_, ?_, rfl, fun x o => put_kept (flagged s c 2 (a / 8 * 8)) _ _ x o⟩
    · simpa [memoryBytes, main] using inside
    · exact flag_mark_same _ _ _ (show 16 + 1 ≤ 32 by decide) rfl
    · exact flagged_common (c := c)
  · intro c m a clock other inside progs words
    refine Gives.of_eq (patrol_visits (m := m.castLE (by decide)) clock inside) ((patrolBad_flagged).trans (if_neg (Nat.not_lt.mpr other)))
      ⟨flagged s c m (a / 8 * 8), rfl, ?_⟩
    match m with
    | 0 => exact ⟨rfl, flagged_prog (by rw [progs]; exact c.isLt)⟩
    | 1 => exact ⟨rfl, flagged_data (by rw [words]; exact c.isLt)⟩
  · rintro c m a b l (outside | still)
    · exact Gives.of_eq rfl (if_neg (by simp [outside])) rfl
    · exact Gives.of_eq rfl (if_neg (by simp [still])) rfl
  · intro c d m k a b clock inside struck
    exact Gives.of_eq (patrol_visits clock inside) rfl (coreStruck_soft struck)
  · intro c d m k a b clock inside struck progs words
    obtain ⟨prog, data⟩ := corePatrol_beside (s := s) (c := c) (m := m) (w := a / 8 * 8)
    refine Gives.of_eq (patrol_visits clock inside) (coreStruck_bad struck) ?_
    match k with
    | 0 => exact flagged_prog (by rw [prog, progs]; exact d.isLt)
    | 1 => exact flagged_data (by rw [data, words]; exact d.isLt)
    | 2 => exact flagged_common
end

section
/-! PROOFS. Entries arrive, credits return, the host pops, and an audit fault is shown (O45). -/

namespace Sys2Proof.Machine

section

variable {s t : State} {m n : Nat} {q : QueueSt} {b : Bool}

/-! ## The queues read and written -/

theorem queue_setQueue (inside : n < s.que.q.length) : (s.setQueue n q).queue n = q ∧ ∀ m, m ≠ n → (s.setQueue n q).queue m = s.queue m :=
  ⟨nth_setNth_same inside, fun _ ne => nth_setNth_other (Ne.symm ne)⟩

theorem queue_of_regs (h : OnlyRegs s t) : t.queue n = s.queue n := by rw [h]; rfl

theorem que_of_regs (h : OnlyRegs s t) : t.que = s.que := by rw [h]

theorem inside_of_on (lengths : s.que.q.length = 64) (on : queueOn s n = true) : n < s.que.q.length := by
  simp only [queueOn, Bool.and_eq_true, decide_eq_true_eq] at on
  omega

/-! ## The level of the host queues -/

theorem level_live : (s.level n b).flag (F.INT_SRCs_LIVE n) = b := by
  have word : (F.INT_SRCs_LIVE n).lo + (F.INT_SRCs_LIVE n).width ≤ 32 := show 1 + 1 ≤ 32 by decide
  unfold State.level
  split
  · next up =>
    subst up
    split
    · next live => exact live
    · exact flag_event_live s
  · next down =>
    rw [Bool.not_eq_true] at down
    subst down
    split
    · exact flag_mark_same _ _ _ word rfl
    · next live => simpa using live

theorem hqLevel_only : OnlyRegs s (hqLevel s b) := by
  unfold hqLevel
  split
  · split
    · exact (onlyRegs_edge).mpr onlyRegs_self
    · exact (onlyRegs_level).mpr onlyRegs_self
  · exact (onlyRegs_level).mpr onlyRegs_self

theorem hqLevel_kept : RegsKept s (hqLevel s b) (sourceRegs 58) := by
  unfold hqLevel
  split
  · split
    · exact edge_kept _ _
    · exact level_kept _ _ _
  · exact level_kept _ _ _

/-- An entry in a queue that was empty is an edge of source 58, which stands. -/
theorem hqLevel_rises : (hqLevel s true).flag (F.INT_SRCs_PEND 58) = true ∧ (hqLevel s true).flag (F.INT_SRCs_LIVE 58) = true := by
  unfold hqLevel
  rw [if_pos rfl]
  split
  · next live =>
    refine ⟨flag_edge_pending s, ?_⟩
    unfold State.edge
    dsimp only
    split
    · exact (flag_bump64_apart _ (by decide)).trans ((flag_bump64_apart _ (by decide)).trans live)
    · exact (flag_mark_apart _ _ _ _ (by decide) (by decide)).trans ((flag_bump64_apart _ (by decide)).trans live)
  · next low =>
    have event : s.level 58 true = s.event 58 := by
      unfold State.level
      rw [if_pos rfl, if_neg low]
      rfl
    rw [event]
    exact ⟨flag_event_pending s, flag_event_live s⟩

theorem hqLevel_shows : (hqLevel s false).flag (F.INT_SRCs_LIVE 58) = hqAny (hqLevel s false) := by
  have any : hqAny (hqLevel s false) = hqAny s := by rw [hqLevel_only]; rfl
  rw [any]
  exact level_live

/-! ## An arrival -/

/-- The queue with its oldest entry in flight arrived. -/
def QueueSt.arrived (q : QueueSt) (e : Nat) (l : List Nat) : QueueSt := { q with occ := q.occ ++ [e], infl := l }

/-- The high-water mark follows. -/
def waterMark (s : State) (n k : Nat) : State := if s.get (F.QUE_Qn_HWM_HWM n) < k then s.put (F.QUE_Qn_HWM_HWM n) k else s

theorem waterMark_only {k : Nat} : OnlyRegs s (waterMark s n k) := by
  unfold waterMark
  split <;> simp

theorem waterMark_kept {k : Nat} : RegsKept s (waterMark s n k) [A.QUE_Qn_HWM n] := by
  unfold waterMark
  split
  · exact put_kept _ _ _
  · exact regsKept_self

theorem queueArrive_eq {e : Nat} {l : List Nat} (infl : (s.queue n).infl = e :: l) : queueArrive s n =
    if queueClass n = 3 then
      hqLevel (waterMark (s.setQueue n ((s.queue n).arrived e l)) n ((s.queue n).occ.length + 1)) (s.queue n).occ.isEmpty
    else waterMark (s.setQueue n ((s.queue n).arrived e l)) n ((s.queue n).occ.length + 1) := by
  unfold queueArrive
  dsimp only
  rw [infl]
  rfl

theorem queueClass_host (high : 56 ≤ n) : queueClass n = 3 := by
  unfold queueClass
  rw [if_neg (by omega), if_neg (by omega), if_neg (by omega)]

/-- The registers that an arrival may change, and nothing else beside the queues. -/
theorem queueArrive_regs {e : Nat} {l : List Nat} (infl : (s.queue n).infl = e :: l) :
    OnlyRegs (s.setQueue n ((s.queue n).arrived e l)) (queueArrive s n) ∧
    RegsKept s (queueArrive s n) (A.QUE_Qn_HWM n :: sourceRegs 58) := by
  rw [queueArrive_eq infl]
  generalize (s.queue n).occ.length + 1 = k
  have kept : RegsKept s (waterMark (s.setQueue n ((s.queue n).arrived e l)) n k) [A.QUE_Qn_HWM n] :=
    fun a h => waterMark_kept (s := s.setQueue n ((s.queue n).arrived e l)) a h
  have only : OnlyRegs (s.setQueue n ((s.queue n).arrived e l)) (waterMark (s.setQueue n ((s.queue n).arrived e l)) n k) := waterMark_only
  generalize waterMark (s.setQueue n ((s.queue n).arrived e l)) n k = t at kept only ⊢
  split
  · exact ⟨(OnlyRegs.congr hqLevel_only).mpr only, kept.trans hqLevel_kept⟩
  · exact ⟨only, kept.mono (by simp)⟩

theorem queueArrive_water {e : Nat} {l : List Nat} (infl : (s.queue n).infl = e :: l) (small : n < 64)
    (higher : s.get (F.QUE_Qn_HWM_HWM n) < (s.queue n).occ.length + 1) (fits : (s.queue n).occ.length < 2047) :
    (queueArrive s n).get (F.QUE_Qn_HWM_HWM n) = (s.queue n).occ.length + 1 := by
  rw [queueArrive_eq infl]
  have shown : (waterMark (s.setQueue n ((s.queue n).arrived e l)) n ((s.queue n).occ.length + 1)).get (F.QUE_Qn_HWM_HWM n) =
      (s.queue n).occ.length + 1 := by
    unfold waterMark
    rw [if_pos (show (s.setQueue n _).get (F.QUE_Qn_HWM_HWM n) < _ from higher)]
    exact get_put_val _ (show 0 + 11 ≤ 32 by decide) (show (s.queue n).occ.length + 1 < 2 ^ 11 by omega)
  generalize waterMark (s.setQueue n ((s.queue n).arrived e l)) n ((s.queue n).occ.length + 1) = t at shown ⊢
  split
  · refine ((hqLevel_kept).get ?_).trans shown
    simp only [A.QUE_Qn_HWM, sourceRegs, A.INT_SRCs, A.INT_Gg_EDGE_LO, A.INT_Gg_COAL_LO, List.mem_cons, List.not_mem_nil, or_false]
    omega
  · exact shown

/-! ## A pop by the host -/

theorem hqPop_eq {h k : Nat} (on : queueOn s (56 + h) = true) : hqPop s h k = hqLevel (s.setQueue (56 + h)
    { s.queue (56 + h) with occ := (s.queue (56 + h)).occ.drop k, ret := (s.queue (56 + h)).ret + Nat.min k (s.queue (56 + h)).occ.length }) false :=
  (if_pos on).trans (if_pos (queueClass_host (Nat.le_add_right 56 h)))

/-! ## The audit -/

theorem diagEvent_credit (live : s.pstate ≠ OFF) : diagEvent s 9 = { s with saf := { s.saf with lines := s.saf.lines ++ [(9, 1, s.time.ms)] } } :=
  if_neg live

end

end Sys2Proof.Machine

open Sys2Proof Sys2Proof.Machine

/-- Settles O45: an arrival, a return, a pop and an audit fault each by its own equation, with the level of the host queues said once. -/
theorem queueFabric : Obligations.QueueFabric := by
  intro s lengths
  refine ⟨?_, ?_, ?_, ?_, ?_, ?_, ?_, ?_⟩
  · intro n e l on runs infl
    have inside := inside_of_on lengths on
    obtain ⟨only, kept⟩ := queueArrive_regs infl
    obtain ⟨own, others⟩ := queue_setQueue (q := (s.queue n).arrived e l) inside
    have arrived : (queueArrive s n).queue n = (s.queue n).arrived e l := (queue_of_regs only).trans own
    refine Gives.of_eq rfl (if_pos (by simp [on, runs])) ⟨arrived, fun m ne => (queue_of_regs only).trans (others m ne), ?_, ?_, kept, ?_, ?_⟩
    · rw [arrived, infl]
      simp only [QueueSt.arrived, List.length_append, List.length_cons, List.length_nil]
      omega
    · rw [only]
      rfl
    · intro host empty
      rw [queueArrive_eq infl, if_pos (queueClass_host host), empty]
      exact hqLevel_rises
    · exact queueArrive_water infl (by omega)
  · rintro n (off | still | none)
    · exact Gives.of_eq rfl (if_neg (by simp [off])) rfl
    · exact Gives.of_eq rfl (if_neg (by simp [still])) rfl
    · refine Gives.of_eq rfl ?_ rfl
      unfold queueArrive
      dsimp only
      rw [none]
      dsimp only
      rw [ite_self]
  · intro n on runs back
    refine Gives.of_eq rfl (if_pos (by simp [on, runs, back])) ⟨rfl, ?_⟩
    rw [(queue_setQueue (inside_of_on lengths on)).1]
    dsimp only
    omega
  · rintro n (off | still | none)
    · exact Gives.of_eq rfl (if_neg (by simp [off])) rfl
    · exact Gives.of_eq rfl (if_neg (by simp [still])) rfl
    · exact Gives.of_eq rfl (if_neg (by simp [none])) rfl
  · intro h k small on
    obtain ⟨own, others⟩ := queue_setQueue (q := { s.queue (56 + h) with occ := (s.queue (56 + h)).occ.drop k, ret := (s.queue (56 + h)).ret + Nat.min k (s.queue (56 + h)).occ.length }) (inside_of_on lengths on)
    refine Gives.of_eq rfl ((if_pos small).trans (hqPop_eq on))
      ⟨(queue_of_regs hqLevel_only).trans own, fun m ne => (queue_of_regs hqLevel_only).trans (others m ne), hqLevel_shows, ?_, fun a m => hqLevel_kept a m⟩
    rw [hqLevel_only]
    rfl
  · rintro h k (large | off)
    · exact Gives.of_eq rfl (if_neg (Nat.not_lt.mpr large)) rfl
    · refine Gives.of_eq rfl ?_ rfl
      split
      · exact if_neg (by simp [off])
      · rfl
  · intro n runs awake
    have live : (((s.mark F.QUE_ST_AUDERR true).put F.QUE_ST_AUDQ n).event 59).pstate ≠ OFF := by
      simp (disch := decide) only [pstate_event_apart, pstate_put_apart, pstate_mark_apart]
      exact not_off_of_awake awake
    have only : OnlyRegs s (((s.mark F.QUE_ST_AUDERR true).put F.QUE_ST_AUDQ n).event 59) := by simp
    refine Gives.of_eq rfl ((if_pos (by simp [runs, awake])).trans (diagEvent_credit live)) ⟨?_, ?_, ?_, ?_, ?_, ?_⟩
    · exact (flag_event_apart _ (by decide)).trans ((flag_put_apart _ _ _ _ (by decide) (by decide)).trans (flag_mark_same _ _ _ (by decide) rfl))
    · exact (get_event_apart _ (by decide)).trans (get_put_val _ (by decide) (Nat.lt_trans n.isLt (by decide)))
    · exact (edgeTaken_event).mpr ((pair_put_apart _ (by decide)).trans (pair_mark_apart _ (by decide)))
    · rw [only]
    · rw [only]
    · exact (((mark_kept s _ _).trans (put_kept _ _ _)).trans (event_kept _ _)).mono (by simp [A.QUE_ST])
  · rintro n (still | low)
    · exact Gives.of_eq rfl (if_neg (by simp [still])) rfl
    · exact Gives.of_eq rfl (if_neg (by simp [low])) rfl
end

section
/-! PROOFS. Edges, delivery in rotation, Fallow timers, claims, clears and doorbells (O46). -/

namespace Sys2Proof.Machine

section

variable {s t u : State} {g k m n x : Nat} {l : List Nat}

/-! ## The sources of a group -/

theorem mem_groupSources : n ∈ groupSources g ↔ n / 8 = g ∧ 0 < n := by
  simp only [groupSources, upto, List.mem_filter, List.mem_map, List.mem_range, decide_eq_true_eq]
  constructor
  · rintro ⟨⟨k, small, rfl⟩, pos⟩
    omega
  · rintro ⟨group, pos⟩
    exact ⟨⟨7 - n % 8, by omega, by omega⟩, pos⟩

/-- The sources stand highest first. -/
theorem groupSources_falls : (groupSources g).Pairwise (· > ·) := by
  refine List.Pairwise.filter _ ?_
  rw [List.pairwise_map]
  exact (List.pairwise_lt_range (n := 8)).imp_of_mem fun {a b} ha hb less => by
    simp only [upto, List.mem_range] at ha hb
    omega

theorem groupSources_nodup : (groupSources g).Nodup := (groupSources_falls).imp fun less => Nat.ne_of_gt less

theorem source_small (group : g < 16) (h : n ∈ groupSources g) : n / 8 = g ∧ n < 128 := by
  obtain ⟨rfl, -⟩ := (mem_groupSources).mp h
  exact ⟨rfl, by omega⟩

/-! ## The target of a source -/

theorem intTarget_some {v : Nat} (h : intTarget s n = some v) : v < 5 ∧ intEnabled s v n = true ∧ intAvailable s v = true := by
  have good := List.find?_some h
  have mem := List.mem_of_find?_eq_some h
  simp only [List.mem_map] at mem
  obtain ⟨k, -, rfl⟩ := mem
  exact ⟨Nat.mod_lt _ (by decide), by simpa using good⟩

theorem intTarget_isSome : (intTarget s n).isSome = true ↔ ∃ v < 5, intEnabled s v n = true ∧ intAvailable s v = true := by
  constructor
  · intro h
    obtain ⟨v, found⟩ := Option.isSome_iff_exists.mp h
    exact ⟨v, intTarget_some found⟩
  · rintro ⟨v, small, good⟩
    rw [intTarget, List.find?_isSome]
    refine ⟨v, List.mem_map.mpr ⟨(v + 4 + 4 * s.get (F.INT_Gg_ST_PTR (n / 8))) % 5, ?_, by omega⟩, by simpa using good⟩
    simp only [upto, List.mem_range]
    omega

/-- The target is the first of the rotation that may take the source. -/
theorem intTarget_first {v : Nat} (h : intTarget s n = some v) (small : k < 5) (turn : v = (s.get (F.INT_Gg_ST_PTR (n / 8)) + 1 + k) % 5) :
    ∀ j < k, intEnabled s ((s.get (F.INT_Gg_ST_PTR (n / 8)) + 1 + j) % 5) n = false ∨
      intAvailable s ((s.get (F.INT_Gg_ST_PTR (n / 8)) + 1 + j) % 5) = false := by
  intro j before
  rw [intTarget, List.find?_eq_some_iff_getElem] at h
  obtain ⟨-, i, inside, at_i, earlier⟩ := h
  simp only [upto, List.length_map, List.length_range, List.getElem_map, List.getElem_range] at inside at_i earlier
  have same : i = k := by omega
  subst same
  simpa only [Bool.not_eq_true', Bool.and_eq_false_iff] using earlier j before

/-! ## What routing touches -/

/-- Only the words of the sources in `l` and of group `g` may differ, and no pending bit does. -/
structure Rerouted (l : List Nat) (g : Nat) (s t : State) : Prop where
  only : OnlyRegs s t
  kept : ∀ a, a ≠ A.INT_Gg_ST g → (∀ n ∈ l, a ≠ A.INT_SRCs n) → t.rd a = s.rd a
  pend : ∀ n < 128, intPend t n = intPend s n

namespace Rerouted

theorem refl : Rerouted l g s s := ⟨onlyRegs_self, fun _ _ _ => Eq.refl _, fun _ _ => Eq.refl _⟩

theorem trans {r : List Nat} (h : Rerouted l g s t) (k : Rerouted r g t u) : Rerouted (l ++ r) g s u :=
  ⟨(OnlyRegs.congr k.only).mpr h.only,
   fun a apart far => (k.kept a apart fun n m => far n (List.mem_append_right _ m)).trans (h.kept a apart fun n m => far n (List.mem_append_left _ m)),
   fun n small => (k.pend n small).trans (h.pend n small)⟩

theorem deliver {v : Nat} (small : n < 128) : Rerouted [n] (n / 8) s (intDeliver s n v) := by
  refine ⟨by simp [intDeliver], fun a apart far => ?_, fun m less => ?_⟩
  · have source := far n (List.mem_singleton_self n)
    simp only [intDeliver]
    rw [rd_put_other _ _ _ _ apart.symm, rd_put_other _ _ _ _ apart.symm, rd_put_other _ _ _ _ (source).symm]
  · have word : ∀ b, A.INT_Gg_ST (n / 8) = A.INT_SRCs m → b := by
      intro b
      simp only [A.INT_Gg_ST, A.INT_SRCs]
      omega
    have apart : A.INT_Gg_ST (n / 8) ≠ A.INT_SRCs m := word False
    unfold intPend intDeliver
    rw [flag_put_apart _ _ _ _ (show 16 + 16 ≤ 32 by decide) (.inl apart), flag_put_apart _ _ _ _ (show 0 + 3 ≤ 32 by decide) (.inl apart),
      flag_put_apart _ _ _ _ (show 4 + 3 ≤ 32 by decide) (.inr (.inl (show 0 + 1 ≤ 4 by decide)))]

theorem route {v : Nat} (small : n < 128) : Rerouted [n] g s (s.put (F.INT_SRCs_DTGT n) v) := by
  refine ⟨by simp, fun a _ far => rd_put_other _ _ _ _ (far n (List.mem_singleton_self n)).symm, fun m _ => ?_⟩
  exact flag_put_apart _ _ _ _ (show 4 + 3 ≤ 32 by decide) (.inr (.inl (show 0 + 1 ≤ 4 by decide)))

/-- A loop over sources, each step of which touches its source alone. -/
theorem loop {f : State → Nat → State} (h : ∀ s, ∀ n ∈ l, Rerouted [n] g s (f s n)) : Rerouted l g s (forEach l f s) := by
  unfold Machine.forEach
  induction l generalizing s with
  | nil => exact refl
  | cons n l ih => exact (h s n (List.mem_cons_self ..)).trans (ih fun s m inside => h s m (List.mem_cons_of_mem _ inside))

theorem enabled {v : Nat} (h : Rerouted l g s t) (few : ∀ n ∈ l, n < 128) (target : v < 5) (small : m < 128) :
    intEnabled t v m = intEnabled s v m := by
  have word : t.rd (A.INT_ENt_w v (m / 32)) = s.rd (A.INT_ENt_w v (m / 32)) := by
    refine h.kept _ ?_ fun n inside => ?_
    · simp only [A.INT_ENt_w, A.INT_Gg_ST]; omega
    · simp only [A.INT_ENt_w, A.INT_SRCs]; omega
  unfold intEnabled
  rw [word]

theorem available {v : Nat} (h : Rerouted l g s t) (few : ∀ n ∈ l, n < 128) (target : v < 5) : intAvailable t v = intAvailable s v := by
  have state : t.pstate = s.pstate := by
    refine get_of_rd (h.kept A.PWR_STATE ?_ fun n inside => ?_)
    · simp only [A.PWR_STATE, A.INT_Gg_ST]; omega
    · simp only [A.PWR_STATE, A.INT_SRCs]; omega
  have core : v < 4 → t.get (F.FRW_COREc_ST_STATE v) = s.get (F.FRW_COREc_ST_STATE v) := by
    intro main
    refine get_of_rd (h.kept _ ?_ fun n inside => ?_)
    · simp only [A.INT_Gg_ST, A.FRW_COREc_ST]; omega
    · simp only [A.INT_SRCs, A.FRW_COREc_ST]; omega
  have pwr : t.pwr = s.pwr := by rw [h.only]
  unfold intAvailable
  split
  · next main =>
    rw [core main]
    unfold State.awake
    rw [state]
  · rw [state, pwr]

theorem isSome (h : Rerouted l g s t) (few : ∀ n ∈ l, n < 128) (small : m < 128) : (intTarget t m).isSome = (intTarget s m).isSome := by
  rw [Bool.eq_iff_iff, intTarget_isSome, intTarget_isSome]
  constructor
  · rintro ⟨v, target, good⟩
    exact ⟨v, target, by rwa [h.enabled few target small, h.available few target] at good⟩
  · rintro ⟨v, target, good⟩
    exact ⟨v, target, by rwa [h.enabled few target small, h.available few target]⟩

/-- With the pointer where it was, the target is the same. -/
theorem target (h : Rerouted l g s t) (few : ∀ n ∈ l, n < 128) (small : m < 128) (group : t.rd (A.INT_Gg_ST (m / 8)) = s.rd (A.INT_Gg_ST (m / 8))) :
    intTarget t m = intTarget s m := by
  unfold intTarget
  rw [get_of_rd (f := F.INT_Gg_ST_PTR (m / 8)) group]
  have same : ∀ v ∈ (upto 5).map (fun k => (s.get (F.INT_Gg_ST_PTR (m / 8)) + 1 + k) % 5),
      (intEnabled t v m && intAvailable t v) = (intEnabled s v m && intAvailable s v) := by
    intro v mem
    obtain ⟨k, -, rfl⟩ := List.mem_map.mp mem
    have less := Nat.mod_lt (s.get (F.INT_Gg_ST_PTR (m / 8)) + 1 + k) (show 0 < 5 by decide)
    rw [h.enabled few less small, h.available few less]
  exact List.find?_congr same

theorem source (h : Rerouted l g s t) (group : g < 16) (small : m < 128) (out : m ∉ l) (few : ∀ n ∈ l, n < 128) : t.rd (A.INT_SRCs m) = s.rd (A.INT_SRCs m) := by
  refine h.kept _ ?_ fun n inside => ?_
  · simp only [A.INT_Gg_ST, A.INT_SRCs]; omega
  · have ne : m ≠ n := fun same => out (same ▸ inside)
    simp only [A.INT_SRCs]
    omega

end Rerouted

theorem intWaiting_of (h : t.rd (A.INT_SRCs n) = s.rd (A.INT_SRCs n)) : intWaiting t n = intWaiting s n := by
  unfold intWaiting intPend State.flag
  rw [get_of_rd (f := F.INT_SRCs_DTGT n) h, get_of_rd (f := F.INT_SRCs_PEND n) h]

/-! ## Deliveries -/

/-- A source that waits is delivered. -/
def deliverOne (s : State) (n : Nat) : State :=
  if intWaiting s n then match intTarget s n with | some t => intDeliver s n t | none => s else s

/-- A source whose delivery was withdrawn is routed again. -/
def redeliverOne (s : State) (n : Nat) : State :=
  if intWaiting s n then match intTarget s n with | some t => s.put (F.INT_SRCs_DTGT n) t | none => s else s

theorem deliverOne_goes {v : Nat} (waits : intWaiting s n = true) (target : intTarget s n = some v) : deliverOne s n = intDeliver s n v := by
  simp [deliverOne, waits, target]

theorem redeliverOne_goes {v : Nat} (waits : intWaiting s n = true) (target : intTarget s n = some v) :
    redeliverOne s n = s.put (F.INT_SRCs_DTGT n) v := by
  simp [redeliverOne, waits, target]

theorem deliverOne_still (h : intWaiting s n = false ∨ intTarget s n = none) : deliverOne s n = s := by
  rcases h with h | h <;> simp [deliverOne, h]

theorem deliverOne_rerouted (small : n < 128) : Rerouted [n] (n / 8) s (deliverOne s n) := by
  unfold deliverOne
  split
  · split
    · exact .deliver small
    · exact .refl
  · exact .refl

theorem redeliverOne_rerouted (small : n < 128) : Rerouted [n] g s (redeliverOne s n) := by
  unfold redeliverOne
  split
  · split
    · exact .route small
    · exact .refl
  · exact .refl

theorem redeliverOne_group (small : n < 128) (group : g < 16) : (redeliverOne s n).rd (A.INT_Gg_ST g) = s.rd (A.INT_Gg_ST g) := by
  have apart : A.INT_SRCs n ≠ A.INT_Gg_ST g := by
    simp only [A.INT_Gg_ST, A.INT_SRCs]; omega
  unfold redeliverOne
  split
  · split
    · exact rd_put_other _ _ _ _ apart
    · exact Eq.refl _
  · exact Eq.refl _

theorem forEach_still {α : Type} {l : List α} {f : State → α → State} (h : ∀ a ∈ l, f s a = s) : forEach l f s = s := by
  unfold forEach
  induction l with
  | nil => rfl
  | cons a l ih =>
    rw [List.foldl_cons, h a (List.mem_cons_self ..)]
    exact ih fun b m => h b (List.mem_cons_of_mem _ m)

theorem forEach_append {α : Type} {l r : List α} {f : State → α → State} : forEach (l ++ r) f s = forEach r f (forEach l f s) := List.foldl_append

/-- With no delivery withdrawn there is none to give again. -/
theorem intRedeliver_none (none : s.int.redeliver = []) : intRedeliver s g = s := by
  unfold intRedeliver
  rw [none, List.filter_eq_nil_iff.mpr (by simp)]
  simp only [forEach, List.foldl_nil, none, List.filter_nil]
  rw [← none]

/-- What the group decides once the withdrawn deliveries are given. -/
def decideFresh (s : State) (g : Nat) : State :=
  if s.get (F.INT_Gg_ST_HOLD g) ≠ 0 then s
  else if s.get (F.INT_Gg_CFG_FALLOW g) = 0 then forEach (groupSources g) deliverOne s
  else match (groupSources g).find? (fun n => intWaiting s n && (intTarget s n).isSome) with
    | none => s
    | some n => match intTarget s n with | some t => intDeliver s n t | none => s

theorem intDecide_eq : intDecide s g = decideFresh (intRedeliver s g) g := rfl

theorem intDecide_fresh (none : s.int.redeliver = []) : intDecide s g = decideFresh s g := by rw [intDecide_eq, intRedeliver_none none]

theorem decideFresh_held (held : s.get (F.INT_Gg_ST_HOLD g) ≠ 0) : decideFresh s g = s := if_pos held

theorem decideFresh_each (idle : s.get (F.INT_Gg_ST_HOLD g) = 0) (every : s.get (F.INT_Gg_CFG_FALLOW g) = 0) :
    decideFresh s g = forEach (groupSources g) deliverOne s := by
  rw [decideFresh, if_neg (by simp [idle]), if_pos every]

theorem decideFresh_first {v : Nat} (idle : s.get (F.INT_Gg_ST_HOLD g) = 0) (one : s.get (F.INT_Gg_CFG_FALLOW g) ≠ 0)
    (found : (groupSources g).find? (fun n => intWaiting s n && (intTarget s n).isSome) = some n) (target : intTarget s n = some v) :
    decideFresh s g = intDeliver s n v := by
  rw [decideFresh, if_neg (by simp [idle]), if_neg one, found]
  simp only [target]

/-- A group none of whose sources can be delivered decides nothing. -/
theorem decideFresh_none (none : ∀ n ∈ groupSources g, intWaiting s n = false ∨ intTarget s n = none) : decideFresh s g = s := by
  have nothing : (groupSources g).find? (fun n => intWaiting s n && (intTarget s n).isSome) = Option.none := by
    rw [List.find?_eq_none]
    intro n m
    rcases none n m with h | h <;> simp [h]
  unfold decideFresh
  rw [forEach_still fun n m => deliverOne_still (none n m), nothing]
  simp

/-- The highest source that waits and has a target. -/
theorem find_highest (mem : n ∈ groupSources g) (waits : intWaiting s n = true) (target : (intTarget s n).isSome = true)
    (higher : ∀ m ∈ groupSources g, n < m → intWaiting s m = true → intTarget s m = none) :
    (groupSources g).find? (fun n => intWaiting s n && (intTarget s n).isSome) = some n := by
  obtain ⟨pre, post, split⟩ := List.append_of_mem mem
  rw [List.find?_eq_some_iff_append]
  refine ⟨by simp [waits, target], pre, post, split, fun m inside => ?_⟩
  have falls := groupSources_falls (g := g)
  rw [split, List.pairwise_append] at falls
  have above : n < m := falls.2.2 m inside n (List.mem_cons_self ..)
  have member : m ∈ groupSources g := by rw [split]; exact List.mem_append_left _ inside
  cases waiting : intWaiting s m with
  | false => simp
  | true => simp [higher m member above waiting]

/-- What one delivery shows. -/
theorem intDeliver_shows {v : Nat} (small : n < 128) (target : v < 5) : OnlyRegs s (intDeliver s n v) ∧
    (intDeliver s n v).get (F.INT_SRCs_DTGT n) = v ∧ (intDeliver s n v).get (F.INT_Gg_ST_PTR (n / 8)) = v ∧
    (intDeliver s n v).get (F.INT_Gg_ST_HOLD (n / 8)) = s.get (F.INT_Gg_CFG_FALLOW (n / 8)) ∧
    RegsKept s (intDeliver s n v) [A.INT_SRCs n, A.INT_Gg_ST (n / 8)] := by
  have apart : A.INT_Gg_ST (n / 8) ≠ A.INT_SRCs n := by
    simp only [A.INT_Gg_ST, A.INT_SRCs]; omega
  have fits : v < 2 ^ 3 := by omega
  refine ⟨(Rerouted.deliver small).only, ?_, ?_, ?_, ?_⟩
  · unfold intDeliver
    exact (get_put_apart _ _ _ _ (show 16 + 16 ≤ 32 by decide) (.inl apart)).trans
      ((get_put_apart _ _ _ _ (show 0 + 3 ≤ 32 by decide) (.inl apart)).trans (get_put_val _ (show 4 + 3 ≤ 32 by decide) fits))
  · unfold intDeliver
    exact (get_put_apart _ _ _ _ (show 16 + 16 ≤ 32 by decide) (.inr (.inl (show 0 + 3 ≤ 16 by decide)))).trans
      (get_put_val _ (show 0 + 3 ≤ 32 by decide) fits)
  · unfold intDeliver
    exact get_put_val _ (show 16 + 16 ≤ 32 by decide) (get_lt _ _)
  · unfold intDeliver
    exact (((put_kept _ _ _).trans (put_kept _ _ _)).trans (put_kept _ _ _)).mono (by simp)

/-- One source of a list is served once, between others. -/
theorem deliver_each (group : g < 16) (distinct : l.Nodup) (inside : ∀ n ∈ l, n / 8 = g) (mem : n ∈ l) :
    (intWaiting s n = true → (intTarget s n).isSome = true → ∃ v < 5, (forEach l deliverOne s).get (F.INT_SRCs_DTGT n) = v ∧
      intEnabled s v n = true ∧ intAvailable s v = true) ∧
    (intWaiting s n = false ∨ intTarget s n = none → (forEach l deliverOne s).get (F.INT_SRCs_DTGT n) = s.get (F.INT_SRCs_DTGT n)) := by
  obtain ⟨pre, post, split⟩ := List.append_of_mem mem
  subst split
  have few : ∀ m ∈ pre ++ n :: post, m < 128 := fun m h => by have := inside m h; omega
  have small : n < 128 := few n mem
  obtain ⟨-, after, apart⟩ := List.nodup_append.mp distinct
  have before : n ∉ pre := fun h => apart n h n (List.mem_cons_self ..) (Eq.refl n)
  have behind : n ∉ post := (List.nodup_cons.mp after).1
  have h1 : Rerouted pre g s (forEach pre deliverOne s) := .loop fun t m h => by
    have same := inside m (List.mem_append_left _ h)
    exact same ▸ deliverOne_rerouted (few m (List.mem_append_left _ h))
  have few1 : ∀ m ∈ pre, m < 128 := fun m h => few m (List.mem_append_left _ h)
  rw [forEach_append]
  generalize forEach pre deliverOne s = t at h1 ⊢
  have waiting : intWaiting t n = intWaiting s n := intWaiting_of (h1.source group small before few1)
  have some : (intTarget t n).isSome = (intTarget s n).isSome := h1.isSome few1 small
  have h2 : Rerouted post g (deliverOne t n) (forEach post deliverOne (deliverOne t n)) := .loop fun t m h => by
    have same := inside m (List.mem_append_right _ (List.mem_cons_of_mem _ h))
    exact same ▸ deliverOne_rerouted (few m (List.mem_append_right _ (List.mem_cons_of_mem _ h)))
  have last : (forEach (n :: post) deliverOne t).get (F.INT_SRCs_DTGT n) = (deliverOne t n).get (F.INT_SRCs_DTGT n) :=
    get_of_rd (h2.source group small behind fun m h => few m (List.mem_append_right _ (List.mem_cons_of_mem _ h)))
  rw [last]
  refine ⟨fun waits target => ?_, fun still => ?_⟩
  · rw [← some] at target
    obtain ⟨v, found⟩ := Option.isSome_iff_exists.mp target
    obtain ⟨less, on, ready⟩ := intTarget_some found
    rw [deliverOne_goes (waiting.trans waits) found]
    exact ⟨v, less, (intDeliver_shows small less).2.1, (h1.enabled few1 less small).symm.trans on, (h1.available few1 less).symm.trans ready⟩
  · have none : intWaiting t n = false ∨ intTarget t n = none := by
      rcases still with off | none
      · exact .inl (waiting.trans off)
      · right
        rw [none] at some
        simpa using some
    rw [deliverOne_still none]
    exact get_of_rd (h1.source group small before few1)

/-- A group with one source that waits delivers it, whatever FALLOW. -/
theorem decideFresh_single {v : Nat} (group : g < 16) (idle : s.get (F.INT_Gg_ST_HOLD g) = 0)
    (single : (groupSources g).filter (intWaiting s) = [n]) (target : intTarget s n = some v) : decideFresh s g = intDeliver s n v := by
  obtain ⟨pre, post, parts, before, waits, after⟩ := List.filter_eq_cons_iff.mp single
  have mem : n ∈ groupSources g := by rw [parts]; simp
  obtain ⟨rfl, small⟩ := source_small group mem
  have behind := List.filter_eq_nil_iff.mp after
  by_cases every : s.get (F.INT_Gg_CFG_FALLOW (n / 8)) = 0
  · rw [decideFresh_each idle every, parts, forEach_append,
      forEach_still (l := pre) fun m h => deliverOne_still (.inl (by simpa using before m h))]
    have first : deliverOne s n = intDeliver s n v := deliverOne_goes waits target
    have distinct := groupSources_nodup (g := n / 8)
    rw [parts] at distinct
    obtain ⟨-, rest, -⟩ := List.nodup_append.mp distinct
    rw [forEach, List.foldl_cons, first]
    refine forEach_still fun m h => deliverOne_still (.inl ?_)
    have inside : m ∈ groupSources (n / 8) := by rw [parts]; simp [h]
    have ne : m ∉ [n] := fun same => (List.nodup_cons.mp rest).1 (List.mem_singleton.mp same ▸ h)
    have word := (Rerouted.deliver (s := s) (v := v) small).source group (source_small group inside).2 ne (by simpa using small)
    rw [intWaiting_of word]
    simpa using behind m h
  · refine decideFresh_first idle every (find_highest mem waits (by simp [target]) fun m inside above waiting => ?_) target
    have listed : m ∈ (groupSources (n / 8)).filter (intWaiting s) := List.mem_filter.mpr ⟨inside, waiting⟩
    rw [single] at listed
    have same := List.mem_singleton.mp listed
    omega

/-! ## Withdrawn deliveries -/

/-- The loop over the withdrawn deliveries of a group. -/
def redeliverEach (s : State) (g : Nat) : State := forEach ((groupSources g).filter (fun n => s.int.redeliver.contains n)) redeliverOne s

theorem intRedeliver_eq : intRedeliver s g = { redeliverEach s g with int := { (redeliverEach s g).int with
    redeliver := (redeliverEach s g).int.redeliver.filter (fun n => !(decide (n / 8 = g)) || intWaiting (redeliverEach s g) n) } } := rfl

theorem redeliverLoop_group (group : g < 16) (few : ∀ n ∈ l, n < 128) : (forEach l redeliverOne s).rd (A.INT_Gg_ST g) = s.rd (A.INT_Gg_ST g) := by
  unfold forEach
  induction l generalizing s with
  | nil => rfl
  | cons n l ih =>
    rw [List.foldl_cons, ih fun m h => few m (List.mem_cons_of_mem _ h)]
    exact redeliverOne_group (few n (List.mem_cons_self ..)) group

theorem redeliverLoop_rerouted (few : ∀ n ∈ l, n < 128) : Rerouted l g s (forEach l redeliverOne s) :=
  .loop fun _ m h => redeliverOne_rerouted (few m h)

/-- A withdrawn source of a list is given its target. -/
theorem redeliverLoop_gives {v : Nat} (group : g < 16) (distinct : l.Nodup) (few : ∀ n ∈ l, n < 128) (mem : n ∈ l) (own : n / 8 = g)
    (waits : intWaiting s n = true) (target : intTarget s n = some v) : (forEach l redeliverOne s).get (F.INT_SRCs_DTGT n) = v := by
  obtain ⟨pre, post, split⟩ := List.append_of_mem mem
  subst split
  have small := few n mem
  obtain ⟨-, after, apart⟩ := List.nodup_append.mp distinct
  have before : n ∉ pre := fun h => apart n h n (List.mem_cons_self ..) (Eq.refl n)
  have behind : n ∉ post := (List.nodup_cons.mp after).1
  have few1 : ∀ m ∈ pre, m < 128 := fun m h => few m (List.mem_append_left _ h)
  have few2 : ∀ m ∈ post, m < 128 := fun m h => few m (List.mem_append_right _ (List.mem_cons_of_mem _ h))
  have h1 : Rerouted pre g s (forEach pre redeliverOne s) := redeliverLoop_rerouted few1
  have group1 := redeliverLoop_group (s := s) group few1
  rw [forEach_append]
  generalize forEach pre redeliverOne s = t at h1 group1 ⊢
  have waiting : intWaiting t n = true := (intWaiting_of (h1.source group small before few1)).trans waits
  have found : intTarget t n = some v := (h1.target few1 small (by rw [own]; exact group1)).trans target
  have step : forEach (n :: post) redeliverOne t = forEach post redeliverOne (t.put (F.INT_SRCs_DTGT n) v) := by
    rw [forEach, List.foldl_cons, redeliverOne_goes waiting found, forEach]
  rw [step]
  have h2 : Rerouted post g (t.put (F.INT_SRCs_DTGT n) v) (forEach post redeliverOne (t.put (F.INT_SRCs_DTGT n) v)) := redeliverLoop_rerouted few2
  have less := (intTarget_some target).1
  rw [get_of_rd (f := F.INT_SRCs_DTGT n) (h2.source group small behind few2)]
  exact get_put_val _ (show 4 + 3 ≤ 32 by decide) (show v < 2 ^ 3 by omega)

/-- A withdrawn delivery is given again while the timer runs. -/
theorem intDecide_redelivers {v : Nat} (group : g < 16) (drawn : n ∈ s.int.redeliver) (mem : n ∈ groupSources g) (waits : intWaiting s n = true)
    (target : intTarget s n = some v) (held : s.get (F.INT_Gg_ST_HOLD g) ≠ 0) : (intDecide s g).get (F.INT_SRCs_DTGT n) = v ∧
    n ∉ (intDecide s g).int.redeliver ∧ (intDecide s g).get (F.INT_Gg_ST_PTR g) = s.get (F.INT_Gg_ST_PTR g) ∧
    (intDecide s g).get (F.INT_Gg_ST_HOLD g) = s.get (F.INT_Gg_ST_HOLD g) := by
  obtain ⟨own, small⟩ := source_small group mem
  have few : ∀ m ∈ (groupSources g).filter (fun n => s.int.redeliver.contains n), m < 128 := fun m h =>
    (source_small group (List.mem_filter.mp h).1).2
  have given : (redeliverEach s g).get (F.INT_SRCs_DTGT n) = v :=
    redeliverLoop_gives group ((groupSources_nodup).filter _) few (List.mem_filter.mpr ⟨mem, by simpa using drawn⟩) own waits target
  have word : (redeliverEach s g).rd (A.INT_Gg_ST g) = s.rd (A.INT_Gg_ST g) := redeliverLoop_group group few
  have still : (intRedeliver s g).get (F.INT_Gg_ST_HOLD g) ≠ 0 := by
    rw [intRedeliver_eq]
    exact fun zero => held ((get_of_rd (f := F.INT_Gg_ST_HOLD g) word).symm.trans zero)
  rw [intDecide_eq, decideFresh_held still, intRedeliver_eq]
  refine ⟨given, ?_, get_of_rd (f := F.INT_Gg_ST_PTR g) word, get_of_rd (f := F.INT_Gg_ST_HOLD g) word⟩
  have less := (intTarget_some target).1
  have done : intWaiting (redeliverEach s g) n = false := by
    unfold intWaiting
    rw [given]
    simp
    omega
  simp [own, done]

/-! ## Claims -/

theorem intTake_taken (small : n < 128) : (∀ m < 128, intPend (intTake s n) m = (intPend s m && decide (m ≠ n))) ∧
    (intTake s n).get (F.INT_SRCs_DTGT n) = 7 ∧ RegsKept s (intTake s n) [A.INT_SRCs n] := by
  refine ⟨fun m less => ?_, ?_, ?_⟩
  · show ((s.mark (F.INT_SRCs_PEND n) false).put (F.INT_SRCs_DTGT n) 7).flag (F.INT_SRCs_PEND m) = _
    by_cases same : m = n
    · subst same
      rw [flag_put_apart _ _ _ _ (show 4 + 3 ≤ 32 by decide) (.inr (.inl (show 0 + 1 ≤ 4 by decide))), flag_mark_same _ _ _ (show 0 + 1 ≤ 32 by decide) rfl]
      simp
    · have apart : A.INT_SRCs n ≠ A.INT_SRCs m := by
        simp only [A.INT_SRCs]; omega
      rw [flag_put_apart _ _ _ _ (show 4 + 3 ≤ 32 by decide) (.inl apart), flag_mark_apart _ _ _ _ (show 0 + 1 ≤ 32 by decide) (.inl apart)]
      simp [intPend, same]
  · exact get_put_val (s.mark (F.INT_SRCs_PEND n) false) (show 4 + 3 ≤ 32 by decide) (show 7 < 2 ^ 3 by decide)
  · exact fun a h => (((mark_kept s (F.INT_SRCs_PEND n) false).trans (put_kept _ (F.INT_SRCs_DTGT n) 7)) a (by simpa using h))

/-- The sources that a target may claim, highest first. -/
theorem intClaimable_cons (h : intClaimable s x = n :: l) : n < 128 ∧ intPend s n = true ∧ intEnabled s x n = true ∧
    ∀ m, n < m → m < 128 → intPend s m = false ∨ intEnabled s x m = false := by
  obtain ⟨pre, post, parts, before, good, -⟩ := List.filter_eq_cons_iff.mp h
  have falls : ((upto 127).map (fun k => 127 - k)).Pairwise (· > ·) := by
    rw [List.pairwise_map]
    exact (List.pairwise_lt_range (n := 127)).imp_of_mem fun {a b} ha hb less => by
      have := mem_upto ha
      have := mem_upto hb
      omega
  have mem : n ∈ (upto 127).map (fun k => 127 - k) := by rw [parts]; simp
  rw [parts, List.pairwise_append] at falls
  obtain ⟨i, less, rfl⟩ := List.mem_map.mp mem
  rw [Bool.and_eq_true] at good
  refine ⟨by omega, good.1, good.2, fun m above small => ?_⟩
  have listed : m ∈ (upto 127).map (fun k => 127 - k) := List.mem_map.mpr ⟨127 - m, by simp [upto]; omega, by omega⟩
  rw [parts, List.mem_append, List.mem_cons] at listed
  rcases listed with first | same | later
  · simpa only [Bool.and_eq_true, not_and_or, Bool.not_eq_true] using before m first
  · omega
  · have below := (List.pairwise_cons.mp falls.2.1).1 m later
    omega

/-! ## Clears -/

/-- A pending source whose bit is written is taken and counted. -/
def clearOne (w : Nat) (s : State) (i : Nat) : State :=
  if intPend s (32 * w + i) then (intTake s (32 * w + i)).bump64 (A.INT_Gg_CLR_LO ((32 * w + i) / 8)) 1 else s

theorem intClear_eq {w v : Nat} : intClear s w v = forEach (ones 32 v) (clearOne w) s := rfl

theorem clear_source {w i : Nat} (word : w < 4) (small : i < 32) (less : m < 128) :
    A.INT_SRCs m ∉ pairRegs (A.INT_Gg_CLR_LO ((32 * w + i) / 8)) := by
  simp only [A.INT_SRCs, A.INT_Gg_CLR_LO, List.mem_cons, List.not_mem_nil, or_false]
  omega

theorem clearOne_pend {w i : Nat} (word : w < 4) (small : i < 32) (less : m < 128) :
    intPend (clearOne w s i) m = (intPend s m && decide (m ≠ 32 * w + i)) := by
  unfold clearOne
  split
  · rw [← (intTake_taken (s := s) (n := 32 * w + i) (by omega)).1 m less]
    exact flag_bump64_apart _ (clear_source word small less)
  · next idle =>
    by_cases same : m = 32 * w + i
    · subst same
      simpa using idle
    · simp [same]

theorem clearOne_word {w i : Nat} (word : w < 4) (small : i < 32) (less : m < 128) (ne : m ≠ 32 * w + i) :
    (clearOne w s i).rd (A.INT_SRCs m) = s.rd (A.INT_SRCs m) := by
  unfold clearOne
  split
  · rw [rd_bump64_apart _ (clear_source word small less)]
    refine (intTake_taken (s := s) (n := 32 * w + i) (by omega)).2.2 _ ?_
    simp only [A.INT_SRCs, List.mem_singleton]
    omega
  · rfl

theorem clearOne_target {w i : Nat} (word : w < 4) (small : i < 32) (pending : intPend s (32 * w + i) = true) :
    (clearOne w s i).get (F.INT_SRCs_DTGT (32 * w + i)) = 7 := by
  rw [clearOne, if_pos pending, get_bump64_apart _ (clear_source word small (show 32 * w + i < 128 by omega))]
  exact (intTake_taken (by omega)).2.1

theorem clearOne_count {w i : Nat} (word : w < 4) (small : i < 32) (group : g < 4) : (clearOne w s i).pair (A.INT_Gg_CLR_LO (4 * w + g)) =
    (s.pair (A.INT_Gg_CLR_LO (4 * w + g)) + if i / 8 = g then b2n (intPend s (32 * w + i)) else 0) % 2 ^ 64 := by
  have room := pair_lt (s := s) (A.INT_Gg_CLR_LO (4 * w + g))
  have taken : (intTake s (32 * w + i)).pair (A.INT_Gg_CLR_LO (4 * w + g)) = s.pair (A.INT_Gg_CLR_LO (4 * w + g)) := by
    refine (intTake_taken (s := s) (n := 32 * w + i) (by omega)).2.2.pair ?_ ?_ <;>
      simp only [A.INT_SRCs, A.INT_Gg_CLR_LO, List.mem_singleton] <;> omega
  unfold clearOne
  split
  · next pending =>
    by_cases own : i / 8 = g
    · have same : (32 * w + i) / 8 = 4 * w + g := by omega
      rw [same, pair_bump64_same, taken, if_pos own, pending, b2n, if_pos rfl]
    · rw [pair_bump64_apart, taken, if_neg own, Nat.add_zero, Nat.mod_eq_of_lt room]
      constructor <;> simp only [A.INT_Gg_CLR_LO, List.mem_cons, List.not_mem_nil, or_false] <;> omega
  · next idle =>
    rw [Bool.not_eq_true] at idle
    rw [idle, b2n, if_neg Bool.false_ne_true, ite_self, Nat.add_zero, Nat.mod_eq_of_lt room]

theorem clear_pend {w : Nat} (word : w < 4) (few : ∀ i ∈ l, i < 32) (less : m < 128) :
    intPend (forEach l (clearOne w) s) m = (intPend s m && decide (∀ i ∈ l, m ≠ 32 * w + i)) := by
  unfold forEach
  induction l generalizing s with
  | nil => simp
  | cons i l ih =>
    rw [List.foldl_cons, ih fun j h => few j (List.mem_cons_of_mem _ h), clearOne_pend word (few i (List.mem_cons_self ..)) less, Bool.and_assoc,
      ← Bool.decide_and]
    simp only [List.forall_mem_cons]

theorem clear_word {w : Nat} (word : w < 4) (few : ∀ i ∈ l, i < 32) (less : m < 128) (far : ∀ i ∈ l, m ≠ 32 * w + i) :
    (forEach l (clearOne w) s).rd (A.INT_SRCs m) = s.rd (A.INT_SRCs m) := by
  unfold forEach
  induction l generalizing s with
  | nil => rfl
  | cons i l ih =>
    rw [List.foldl_cons, ih (fun j h => few j (List.mem_cons_of_mem _ h)) fun j h => far j (List.mem_cons_of_mem _ h)]
    exact clearOne_word word (few i (List.mem_cons_self ..)) less (far i (List.mem_cons_self ..))

theorem clear_target {w i : Nat} (word : w < 4) (few : ∀ i ∈ l, i < 32) (distinct : l.Nodup) (mem : i ∈ l) (pending : intPend s (32 * w + i) = true) :
    (forEach l (clearOne w) s).get (F.INT_SRCs_DTGT (32 * w + i)) = 7 := by
  unfold forEach
  induction l generalizing s with
  | nil => simp at mem
  | cons j l ih =>
    have small := few i mem
    have few' : ∀ i ∈ l, i < 32 := fun j h => few j (List.mem_cons_of_mem _ h)
    obtain ⟨fresh, distinct⟩ := List.nodup_cons.mp distinct
    rw [List.foldl_cons]
    by_cases same : i = j
    · subst same
      have after := clear_word (s := clearOne w s i) word few' (show 32 * w + i < 128 by omega) fun j h e =>
        fresh ((show i = j by omega) ▸ h)
      exact (get_of_rd (f := F.INT_SRCs_DTGT (32 * w + i)) after).trans (clearOne_target word small pending)
    · refine ih few' distinct ((List.mem_cons.mp mem).resolve_left same) ?_
      rw [clearOne_pend word (few j (List.mem_cons_self ..)) (by omega), pending]
      simp
      omega

/-- The sum of a list's counts. -/
theorem sumN_cons {a : Nat} : sumN (a :: l) = a + sumN l := by
  have shift : ∀ (l : List Nat) (x : Nat), l.foldl (· + ·) x = x + l.foldl (· + ·) 0 := by
    intro l
    induction l with
    | nil => simp
    | cons b l ih =>
      intro x
      rw [List.foldl_cons, List.foldl_cons, ih, ih (0 + b)]
      omega
  rw [sumN, List.foldl_cons, shift, Nat.zero_add, sumN]

theorem clear_count {w : Nat} (word : w < 4) (few : ∀ i ∈ l, i < 32) (distinct : l.Nodup) (group : g < 4) :
    (forEach l (clearOne w) s).pair (A.INT_Gg_CLR_LO (4 * w + g)) = (s.pair (A.INT_Gg_CLR_LO (4 * w + g)) +
      sumN (l.map (fun i => if i / 8 = g then b2n (intPend s (32 * w + i)) else 0))) % 2 ^ 64 := by
  unfold forEach
  induction l generalizing s with
  | nil => exact (Nat.mod_eq_of_lt (pair_lt _)).symm
  | cons i l ih =>
    obtain ⟨fresh, distinct⟩ := List.nodup_cons.mp distinct
    have few' : ∀ i ∈ l, i < 32 := fun j h => few j (List.mem_cons_of_mem _ h)
    have small := few i (List.mem_cons_self ..)
    have others : l.map (fun j => if j / 8 = g then b2n (intPend (clearOne w s i) (32 * w + j)) else 0) =
        l.map (fun j => if j / 8 = g then b2n (intPend s (32 * w + j)) else 0) := by
      refine List.map_congr_left fun j h => ?_
      have inside := few' j h
      have ne : 32 * w + j ≠ 32 * w + i := fun e => fresh ((show j = i by omega) ▸ h)
      rw [clearOne_pend word small (by omega), decide_eq_true ne, Bool.and_true]
    rw [List.foldl_cons, ih few' distinct, others, clearOne_count word small group, List.map_cons, sumN_cons]
    omega

/-- The bits of a word that fall into one byte, counted there. -/
theorem sumN_byte {x : Nat} {f : Nat → Nat} (group : g < 4) : sumN ((ones 32 x).map (fun i => if i / 8 = g then f i else 0)) =
    sumN ((upto 8).map (fun i => if bit x (8 * g + i) then f (8 * g + i) else 0)) := by
  have filtered : ∀ l : List Nat, sumN ((l.filter (bit x)).map (fun i => if i / 8 = g then f i else 0)) =
      sumN (l.map (fun i => if i / 8 = g then (if bit x i then f i else 0) else 0)) := by
    intro l
    induction l with
    | nil => rfl
    | cons i l ih =>
      rw [List.map_cons, sumN_cons, ← ih]
      cases on : bit x i with
      | true => rw [List.filter_cons_of_pos on, List.map_cons, sumN_cons, if_pos rfl]
      | false => rw [List.filter_cons_of_neg (by simp [on]), if_neg Bool.false_ne_true, ite_self, Nat.zero_add]
  rw [ones, filtered (upto 32)]
  have cases : g = 0 ∨ g = 1 ∨ g = 2 ∨ g = 3 := by omega
  rcases cases with rfl | rfl | rfl | rfl <;> simp [upto, List.range_succ, sumN]

/-! ## Edges and doorbells -/

theorem event_parts (s : State) (n : Nat) : (s.event n).get (F.INT_SRCs_DTGT n) = s.get (F.INT_SRCs_DTGT n) ∧
    (s.event n).pair (A.INT_Gg_COAL_LO (n / 8)) = (s.pair (A.INT_Gg_COAL_LO (n / 8)) + b2n (intPend s n)) % 2 ^ 64 := by
  have apart : A.INT_SRCs n ≠ A.INT_Gg_COAL_LO (n / 8) ∧ A.INT_SRCs n ≠ A.INT_Gg_COAL_LO (n / 8) + 4 ∧ A.INT_SRCs n ∉ pairRegs (A.INT_Gg_EDGE_LO (n / 8)) ∧
      A.INT_SRCs n ∉ pairRegs (A.INT_Gg_COAL_LO (n / 8)) := by
    simp only [A.INT_SRCs, A.INT_Gg_EDGE_LO, A.INT_Gg_COAL_LO, List.mem_cons, List.not_mem_nil, or_false]
    omega
  obtain ⟨low, high, edges, coals⟩ := apart
  have other : A.INT_Gg_COAL_LO (n / 8) ∉ pairRegs (A.INT_Gg_EDGE_LO (n / 8)) ∧ A.INT_Gg_COAL_LO (n / 8) + 4 ∉ pairRegs (A.INT_Gg_EDGE_LO (n / 8)) := by
    simp only [A.INT_Gg_EDGE_LO, A.INT_Gg_COAL_LO, List.mem_cons, List.not_mem_nil, or_false]
    omega
  have pending : ((s.mark (F.INT_SRCs_LIVE n) true).bump64 (A.INT_Gg_EDGE_LO (n / 8)) 1).flag (F.INT_SRCs_PEND n) = intPend s n :=
    (flag_bump64_apart _ edges).trans (flag_mark_apart _ _ _ _ (show 1 + 1 ≤ 32 by decide) (.inr (.inl (show 0 + 1 ≤ 1 by decide))))
  have target : ((s.mark (F.INT_SRCs_LIVE n) true).bump64 (A.INT_Gg_EDGE_LO (n / 8)) 1).get (F.INT_SRCs_DTGT n) = s.get (F.INT_SRCs_DTGT n) :=
    (get_bump64_apart _ edges).trans (get_mark_apart _ _ _ _ (show 1 + 1 ≤ 32 by decide) (.inr (.inr (show 1 + 1 ≤ 4 by decide))))
  have count : ((s.mark (F.INT_SRCs_LIVE n) true).bump64 (A.INT_Gg_EDGE_LO (n / 8)) 1).pair (A.INT_Gg_COAL_LO (n / 8)) = s.pair (A.INT_Gg_COAL_LO (n / 8)) :=
    (pair_bump64_apart _ other).trans (pair_mark_apart _ ⟨low, high⟩)
  unfold State.event State.edge
  dsimp only
  generalize (s.mark (F.INT_SRCs_LIVE n) true).bump64 (A.INT_Gg_EDGE_LO (n / 8)) 1 = t at pending target count ⊢
  split
  · next on =>
    rw [on] at pending
    rw [← pending]
    exact ⟨(get_bump64_apart _ coals).trans target, (pair_bump64_same _ _ _).trans (by rw [count]; rfl)⟩
  · next off =>
    rw [Bool.not_eq_true] at off
    rw [off] at pending
    rw [← pending]
    refine ⟨(get_mark_apart _ _ _ _ (show 0 + 1 ≤ 32 by decide) (.inr (.inr (show 0 + 1 ≤ 4 by decide)))).trans target, ?_⟩
    exact (pair_mark_apart _ ⟨low, high⟩).trans (count.trans (Nat.mod_eq_of_lt (pair_lt _)).symm)

theorem bell_source {i : Nat} (small : i < 8) : A.INT_SRCs (120 + i) ∉ pairRegs (A.INT_Gg_EDGE_LO 15) ∧ (120 + i) / 8 = 15 := by
  simp only [A.INT_SRCs, A.INT_Gg_EDGE_LO, List.mem_cons, List.not_mem_nil, or_false]
  omega

theorem bell_pend {i : Nat} (small : i < 8) (less : m < 8) : intPend (s.event (120 + i)) (120 + m) = (intPend s (120 + m) || decide (m = i)) := by
  by_cases same : m = i
  · subst same
    rw [intPend, flag_event_pending]
    simp
  · rw [intPend, flag_event_apart, intPend, decide_eq_false same, Bool.or_false]
    simp only [sourceRegs, A.INT_SRCs, A.INT_Gg_EDGE_LO, A.INT_Gg_COAL_LO, List.mem_cons, List.not_mem_nil, or_false]
    omega

theorem bell_edges {i : Nat} (small : i < 8) : (s.event (120 + i)).pair (A.INT_Gg_EDGE_LO 15) = (s.pair (A.INT_Gg_EDGE_LO 15) + 1) % 2 ^ 64 := by
  have taken := pair_event_edges s (n := 120 + i)
  rwa [(bell_source small).2] at taken

theorem ring_spec (few : ∀ i ∈ l, i < 8) : OnlyRegs s (forEach l (fun s i => s.event (120 + i)) s) ∧
    (∀ m < 8, intPend (forEach l (fun s i => s.event (120 + i)) s) (120 + m) = (intPend s (120 + m) || decide (m ∈ l))) ∧
    (forEach l (fun s i => s.event (120 + i)) s).pair (A.INT_Gg_EDGE_LO 15) = (s.pair (A.INT_Gg_EDGE_LO 15) + l.length) % 2 ^ 64 := by
  unfold forEach
  induction l generalizing s with
  | nil => exact ⟨onlyRegs_self, by simp, (Nat.mod_eq_of_lt (pair_lt _)).symm⟩
  | cons i l ih =>
    have small := few i (List.mem_cons_self ..)
    obtain ⟨only, pend, edges⟩ := ih (s := s.event (120 + i)) fun j h => few j (List.mem_cons_of_mem _ h)
    refine ⟨(OnlyRegs.congr only).mpr (by simp), fun m less => ?_, ?_⟩
    · rw [List.foldl_cons, pend m less, bell_pend small less, Bool.or_assoc, ← Bool.decide_or]
      simp only [List.mem_cons]
    · rw [List.foldl_cons, edges, bell_edges small, List.length_cons]
      omega

end

end Sys2Proof.Machine

open Sys2Proof Sys2Proof.Machine

/-- Settles O46: the rotation by the first target after the pointer, the loops over a group by what each step touches, and the
counts by sums over the bits written. -/
theorem interruptDelivery : Obligations.InterruptDelivery := by
  intro s
  have decides : ∀ {g : Nat}, g < 16 → s.clk.present = true → s.clk.phase = .run → exec (.delivery g) s = .next (intDecide s g) :=
    fun small clock runs => congrArg Host.Outcome.next (if_pos (by simp [small, clock, runs]))
  have expires : ∀ {g : Nat}, g < 16 → s.clk.present = true → s.get (F.INT_Gg_ST_HOLD g) ≠ 0 → exec (.fallowExpire g) s =
      .next (if s.clk.phase = .run then intDecide (s.put (F.INT_Gg_ST_HOLD g) 0) g else s.put (F.INT_Gg_ST_HOLD g) 0) :=
    fun small clock held => congrArg Host.Outcome.next (if_pos (by simp [small, clock, held]))
  refine ⟨?_, ?_, ?_, ?_, ?_, ?_, ?_, ?_, ?_, ?_, ?_, ?_, ?_, ?_, ?_, ?_, ?_⟩
  · intro n real on
    refine Gives.of_eq rfl (if_pos (by simpa [real] using on)) ⟨by simp, event_taken s n, flag_event_live s, (event_parts s n).1, (event_parts s n).2, event_kept s n⟩
  · rintro n (unreal | ⟨off, dark⟩)
    · exact Gives.of_eq rfl (if_neg (by simp [unreal])) rfl
    · exact Gives.of_eq rfl (if_neg (by simp [off, dark])) rfl
  · intro g n v group clock runs none idle single target
    have mem : n ∈ groupSources g := (List.mem_filter.mp (single ▸ List.mem_singleton_self n)).1
    have waits : intWaiting s n = true := (List.mem_filter.mp (single ▸ List.mem_singleton_self n)).2
    refine Gives.of_eq (decides group clock runs) ((intDecide_fresh none).trans (decideFresh_single group idle single target)) ?_
    obtain ⟨rfl, small⟩ := source_small group mem
    obtain ⟨only, shown, ptr, hold, kept⟩ := intDeliver_shows (s := s) small (intTarget_some target).1
    exact ⟨only, shown, ptr, hold, ((Rerouted.deliver small).pend n small).trans (Bool.and_eq_true _ _ ▸ waits).1, kept⟩
  · intro g n v group clock runs none idle one mem waits target higher
    have found := find_highest mem waits (by simp [target]) higher
    refine Gives.of_eq (decides group clock runs) ((intDecide_fresh none).trans (decideFresh_first idle one found target)) ?_
    obtain ⟨rfl, small⟩ := source_small group mem
    obtain ⟨only, shown, ptr, hold, kept⟩ := intDeliver_shows (s := s) small (intTarget_some target).1
    exact ⟨only, shown, ptr, hold, ((Rerouted.deliver small).pend n small).trans (Bool.and_eq_true _ _ ▸ waits).1, kept⟩
  · intro g group clock runs none idle every
    have loop : Rerouted (groupSources g) g s (forEach (groupSources g) deliverOne s) := .loop fun t m h => by
      obtain ⟨rfl, small⟩ := source_small group h
      exact deliverOne_rerouted small
    refine Gives.of_eq (decides group clock runs) ((intDecide_fresh none).trans (decideFresh_each idle every)) ⟨(loop).only, fun n mem => ?_⟩
    obtain ⟨goes, stays⟩ := deliver_each (s := s) group groupSources_nodup (fun m h => (source_small group h).1) mem
    refine ⟨(loop).pend n (source_small group mem).2, fun waits target => ?_, stays⟩
    obtain ⟨v, less, shown, on, ready⟩ := goes waits target
    rw [shown]
    exact ⟨less, on, ready⟩
  · intro g n v group clock runs drawn mem waits target held
    exact Gives.of_eq (decides group clock runs) rfl (intDecide_redelivers group drawn mem waits target held)
  · rintro g (large | still | halt | ⟨none, held⟩ | ⟨none, nothing⟩)
    · exact Gives.of_eq rfl (if_neg (by simp [Nat.not_lt.mpr large])) rfl
    · exact Gives.of_eq rfl (if_neg (by simp [still])) rfl
    · exact Gives.of_eq rfl (if_neg (by simp [halt])) rfl
    · refine Gives.of_eq rfl ?_ rfl
      rw [intDecide_fresh none, decideFresh_held held, ite_self]
    · refine Gives.of_eq rfl ?_ rfl
      rw [intDecide_fresh none, decideFresh_none nothing, ite_self]
  · intro n v k target small turn
    obtain ⟨-, on, ready⟩ := intTarget_some target
    exact ⟨on, ready, intTarget_first target small turn⟩
  · intro g group clock held none nothing
    have apart : ∀ n ∈ groupSources g, intWaiting (s.put (F.INT_Gg_ST_HOLD g) 0) n = false ∨ intTarget (s.put (F.INT_Gg_ST_HOLD g) 0) n = Option.none := by
      intro n mem
      have small := (source_small group mem).2
      have word : A.INT_Gg_ST g ≠ A.INT_SRCs n := by
        simp only [A.INT_Gg_ST, A.INT_SRCs]; omega
      exact .inl ((intWaiting_of (rd_put_other _ _ _ _ word)).trans (nothing n mem))
    have idle : intDecide (s.put (F.INT_Gg_ST_HOLD g) 0) g = s.put (F.INT_Gg_ST_HOLD g) 0 :=
      (intDecide_fresh (s := s.put (F.INT_Gg_ST_HOLD g) 0) none).trans (decideFresh_none apart)
    refine Gives.of_eq (t := _) (u := s.put (F.INT_Gg_ST_HOLD g) 0) (expires group clock held) (by rw [idle, ite_self]) ⟨by simp, ?_, ?_, put_kept _ _ _⟩
    · exact get_put_val _ (show 16 + 16 ≤ 32 by decide) (show 0 < 2 ^ 16 by decide)
    · exact get_put_apart _ _ _ _ (show 16 + 16 ≤ 32 by decide) (.inr (.inl (show 0 + 3 ≤ 16 by decide)))
  · intro g group clock held
    exact Gives.of_eq (expires group clock held) rfl rfl
  · rintro g (large | still | idle)
    · exact Gives.of_eq rfl (if_neg (by simp [Nat.not_lt.mpr large])) rfl
    · exact Gives.of_eq rfl (if_neg (by simp [still])) rfl
    · exact Gives.of_eq rfl (if_neg (by simp [idle])) rfl
  · intro v n l less claimable
    obtain ⟨small, pending, on, higher⟩ := intClaimable_cons claimable
    obtain ⟨pend, target, kept⟩ := intTake_taken (s := s) small
    have source : A.INT_SRCs n ∉ pairRegs (A.INT_Gg_CLAIM_LO (n / 8)) := by
      simp only [A.INT_SRCs, A.INT_Gg_CLAIM_LO, List.mem_cons, List.not_mem_nil, or_false]
      omega
    have claimed : intClaim s v = (intTake s n).bump64 (A.INT_Gg_CLAIM_LO (n / 8)) 1 := by
      unfold intClaim
      rw [claimable]
    refine Gives.of_eq rfl ((if_pos less).trans claimed) ⟨rfl, ?_, ?_, pending, on, higher, ?_, ?_⟩
    · exact (flag_bump64_apart _ source).trans ((pend n small).trans (by simp))
    · exact (get_bump64_apart _ source).trans target
    · rw [pair_bump64_same, kept.pair] <;> simp only [A.INT_SRCs, A.INT_Gg_CLAIM_LO, List.mem_singleton] <;> omega
    · exact kept.trans (bump64_kept _ _ _)
  · rintro v (none | large)
    · refine Gives.of_eq rfl ?_ rfl
      unfold intClaim
      rw [none]
      exact ite_self _
    · exact Gives.of_eq rfl (if_neg (Nat.not_lt.mpr large)) rfl
  · intro w v word
    have few : ∀ i ∈ ones 32 v.toNat, i < 32 := fun i h => mem_upto (List.mem_of_mem_filter h)
    have distinct : (ones 32 v.toNat).Nodup := List.nodup_range.filter _
    have listed : ∀ i < 32, (i ∈ ones 32 v.toNat ↔ bit v.toNat i = true) := fun i small => by simp [ones, upto, small]
    refine Gives.of_eq rfl ((if_pos word).trans intClear_eq) ⟨fun i small => ?_, fun n small other => ?_, fun i small on pending => ?_, fun g group => ?_⟩
    · rw [clear_pend word few (by omega)]
      congr 1
      rw [Bool.eq_iff_iff, decide_eq_true_eq, Bool.not_eq_true', ← Bool.not_eq_true, ← listed i small]
      exact ⟨fun far mem => far i mem rfl, fun out j mem same => out ((show i = j by omega) ▸ mem)⟩
    · have far : ∀ i ∈ ones 32 v.toNat, n ≠ 32 * w + i := fun i h e => by
        have := few i h
        omega
      refine ⟨?_, get_of_rd (clear_word word few small far)⟩
      rw [clear_pend word few small, decide_eq_true far, Bool.and_true]
    · exact clear_target word few distinct ((listed i small).mpr on) pending
    · rw [clear_count word few distinct group, sumN_byte (f := fun i => b2n (intPend s (32 * w + i))) group]
      refine congrArg (fun l => (s.pair (A.INT_Gg_CLR_LO (4 * w + g)) + sumN l) % 2 ^ 64) (List.map_congr_left fun i _ => ?_)
      cases bit v.toNat (8 * g + i) <;> simp [b2n]
  · intro w v large
    exact Gives.of_eq rfl (if_neg (Nat.not_lt.mpr large)) rfl
  · intro v live
    obtain ⟨only, pend, edges⟩ := ring_spec (s := s) (l := ones 8 v.toNat) fun i h => mem_upto (List.mem_of_mem_filter h)
    refine Gives.of_eq rfl (if_neg live) ⟨only, fun n small => (pend n small).trans ?_, edges⟩
    congr 1
    simp [ones, upto, small]
  · intro v off
    exact Gives.of_eq rfl (if_pos off) rfl
end

section
/-! PROOFS. A self-calibration whose factors do not last (refutes O47). -/

namespace Sys2Proof.Machine

/-- Self-calibration stands one conversion before its end on ADC-B, with valid sums on both converters, while ADC-A owes the take of
"entry 29", which it has not: that entry's ledger lies on ADC-B's calibration words, and the take, which ADC-A's slot boundary at
the calibration's end lets pass, clears the gain that the calibration has just stored. -/
def strayLedger : State :=
  { watching with adc := { watching.adc with
      self := true
      x := [{ AdcConv.reset with calN := 2048, cal1 := 3145728, take := [29] },
        { AdcConv.reset with conv := some (.cal, 0, true, 0), calN := 2047, cal1 := 3145728 }] } }

theorem strayLedger_ready : strayLedger.adc.x.length = 2 ∧ adcRuns strayLedger = true ∧ (strayLedger.adcx 1).conv = some (.cal, 0, true, 0) ∧
    strayLedger.adc.self = true ∧ (strayLedger.adcx 1).calN = 2047 ∧ (strayLedger.adcx 0).calN = 2048 ∧ strayLedger.pwr.start.isNone = true ∧
    strayLedger.pwr.trans.isNone = true ∧ adcRef strayLedger = 0 := by
  decide +kernel

theorem strayLedger_factors : selfFactors (strayLedger.adcx 1).cal0 ((strayLedger.adcx 1).cal1 + (0#12).toNat) = some (0, 16384) ∧
    (selfFactors (strayLedger.adcx 0).cal0 (strayLedger.adcx 0).cal1).isSome = true := by
  decide +kernel

/-- The gain of converter 1 for reference 0 after a command. -/
def gainAfter (c : Instr) (s : State) : Option Nat :=
  match exec c s with
  | .next t => some (t.get (F.ADC_x_SCALr_SGAIN 1 0))
  | _ => none

theorem strayLedger_loses : gainAfter (.conversionEnd 1 0) strayLedger = some 0 := by decide +kernel

end Sys2Proof.Machine

open Sys2Proof Sys2Proof.Machine

/-- Refutes O47: the statement lets a converter owe the take of any entry. At `strayLedger`, which no run reaches, ADC-A owes that of
entry 29, whose ledger lies on ADC-B's calibration words, and the calibration's end clears the gain it has stored. -/
theorem not_adcConversions : ¬ Obligations.AdcConversions := by
  intro holds
  obtain ⟨two, runs, conv, self, last, full, start, trans, ref⟩ := strayLedger_ready
  obtain ⟨valid, other⟩ := strayLedger_factors
  obtain ⟨-, -, -, -, ends, -⟩ := holds strayLedger 1 two
  obtain ⟨t, ran, -, -, -, -, -, kept⟩ := ends 0 0 true 0 (by decide) runs conv self last full (Option.isNone_iff_eq_none.mp start)
    (Option.isNone_iff_eq_none.mp trans)
  obtain ⟨-, -, gain⟩ := kept 0 16384 valid other (by rw [ref]; decide)
  have lost := strayLedger_loses
  rw [gainAfter, ran] at lost
  rw [ref] at gain
  exact absurd ((Option.some.inj lost).symm.trans gain) (by decide)
end

section
/-! PROOFS. Self-calibration and the steps of a system calibration (O48). -/

namespace Sys2Proof.Machine

section

variable {s t u w : State} {x y e n r : Nat} {c : AdcConv}

/-! ## The converters read and written -/

theorem adcx_setAdc (inside : x < s.adc.x.length) : (s.setAdc x c).adcx x = c := nth_setNth_same inside

theorem setAdc_adcx (inside : x < s.adc.x.length) : s.setAdc x (s.adcx x) = s := by
  have same : setNth s.adc.x x (s.adcx x) = s.adc.x := by simp [State.adcx, nth, setNth, inside]
  rw [State.setAdc, same]

/-- The calibrations of the converters: whether the self-calibration runs, and each converter's sums and step. -/
structure CalsKept (s t : State) : Prop where
  self : t.adc.self = s.adc.self
  each : ∀ y, (t.adcx y).calN = (s.adcx y).calN ∧ (t.adcx y).cal0 = (s.adcx y).cal0 ∧ (t.adcx y).cal1 = (s.adcx y).cal1 ∧ (t.adcx y).sys = (s.adcx y).sys

namespace CalsKept

theorem of_adc (h : t.adc = s.adc) : CalsKept s t := ⟨by rw [h], fun y => by rw [State.adcx, h, State.adcx]; exact ⟨rfl, rfl, rfl, rfl⟩⟩

theorem trans (h : CalsKept s t) (k : CalsKept t u) : CalsKept s u := by
  refine ⟨k.self.trans h.self, fun y => ?_⟩
  obtain ⟨n1, a1, b1, s1⟩ := h.each y
  obtain ⟨n2, a2, b2, s2⟩ := k.each y
  exact ⟨n2.trans n1, a2.trans a1, b2.trans b1, s2.trans s1⟩

theorem setAdc (num : c.calN = (s.adcx x).calN) (zero : c.cal0 = (s.adcx x).cal0) (full : c.cal1 = (s.adcx x).cal1) (sys : c.sys = (s.adcx x).sys) :
    CalsKept s (s.setAdc x c) := by
  refine ⟨rfl, fun y => ?_⟩
  by_cases same : x = y
  · subst same
    by_cases inside : x < s.adc.x.length
    · rw [adcx_setAdc inside]
      exact ⟨num, zero, full, sys⟩
    · have out : setNth s.adc.x x c = s.adc.x := List.set_eq_of_length_le (Nat.not_lt.mp inside)
      rw [State.adcx, State.setAdc, out, State.adcx]
      exact ⟨rfl, rfl, rfl, rfl⟩
  · have other : (s.setAdc x c).adcx y = s.adcx y := nth_setNth_other same
    rw [other]
    exact ⟨rfl, rfl, rfl, rfl⟩

end CalsKept

/-! ## A slot boundary leaves the calibrations -/

/-- The words of the calibrations that a boundary of converter `x` leaves. -/
def CalWord (x a : Nat) : Prop := a = A.ADC_CAL ∨ a = A.ADC_x_SYSCTL x

theorem calWord_stat (h : CalWord x (A.ADC_x_STAT x)) : False := by
  simp only [CalWord, A.ADC_CAL, A.ADC_x_SYSCTL, A.ADC_x_STAT] at h
  omega

/-- The registers of an entry lie above the converter's calibration words. -/
theorem calWord_entry {a : Nat} (high : A.ADC_x_ENTe_CFG x 0 ≤ a) : ¬ CalWord x a := by
  simp only [CalWord, A.ADC_CAL, A.ADC_x_SYSCTL, A.ADC_x_ENTe_CFG] at high ⊢
  omega

theorem ledgerTake_word : Stands (CalWord x) s (ledgerTake s x e) := by
  have above : ∀ f : Fld, A.ADC_x_ENTe_CFG x 0 ≤ f.addr → ∀ (t : State) (v : Nat), Stands (CalWord x) t (t.put f v) := fun f high t v =>
    Stands.put (calWord_entry high)
  unfold ledgerTake
  refine ((((((((((above _ ?_ _ _).trans (above _ ?_ _ _)).trans (above _ ?_ _ _)).trans (above _ ?_ _ _)).trans (above _ ?_ _ _)).trans
    (above _ ?_ _ _)).trans (above _ ?_ _ _)).trans (above _ ?_ _ _)).trans (above _ ?_ _ _)).trans (above _ ?_ _ _)) <;>
  simp only [A.ADC_x_ENTe_TSUM, A.ADC_x_ENTe_TCNT, A.ADC_x_ENTe_TMM, A.ADC_x_ENTe_TSKIP, A.ADC_x_ENTe_LSUM, A.ADC_x_ENTe_LCNT, A.ADC_x_ENTe_LMM,
    A.ADC_x_ENTe_CFG] <;> omega

theorem ledgersTake_word : Stands (CalWord x) s (ledgersTake s x) :=
  Stands.trans (t := s.setAdc x { s.adcx x with take := [] }) (Stands.rfl.parts rfl) (Stands.forEach fun _ _ _ => ledgerTake_word)

theorem ledgersTake_cals : CalsKept s (ledgersTake s x) := by
  have loop : (forEach (s.adcx x).take (fun s e => ledgerTake s x e) (s.setAdc x { s.adcx x with take := [] })).adc =
      (s.setAdc x { s.adcx x with take := [] }).adc := forEach_keeps State.adc _ _ _ fun _ _ => (ledgerTake_keeps).adc rfl
  have emptied : CalsKept s (s.setAdc x { s.adcx x with take := [] }) := CalsKept.setAdc rfl rfl rfl rfl
  exact emptied.trans (.of_adc loop)

theorem adcBegin_word {k : ConvKind} : Stands (CalWord x) s (adcBegin s x k e) := by
  unfold adcBegin
  extract_lets old s1 s2
  have h1 : Stands (CalWord x) s s1 := Stands.rfl.parts rfl
  exact h1.trans (((Stands.mark fun h => calWord_stat h).trans (Stands.put fun h => calWord_stat h)).trans (Stands.mark fun h => calWord_stat h))

theorem adcBegin_cals {k : ConvKind} : CalsKept s (adcBegin s x k e) :=
  (CalsKept.setAdc (x := x) (c := { s.adcx x with conv := some (k, e, s.flag F.ADC_REF_REFOK, s.time.us % 2 ^ 24) }) rfl rfl rfl rfl).trans (.of_adc rfl)

/-- What a boundary leaves of the calibrations. -/
def CalsStand (x : Nat) (s t : State) : Prop := Stands (CalWord x) s t ∧ CalsKept s t

namespace CalsStand

theorem refl : CalsStand x s s := ⟨Stands.rfl, .of_adc rfl⟩

theorem trans (h : CalsStand x s t) (k : CalsStand x t u) : CalsStand x s u := ⟨h.1.trans k.1, h.2.trans k.2⟩

theorem begins {k : ConvKind} (h : CalsStand x s t) : CalsStand x s (adcBegin t x k e) := h.trans ⟨adcBegin_word, adcBegin_cals⟩

end CalsStand

/-- While a self-calibration or a step runs, a boundary of the converter leaves the calibrations as they are. -/
theorem adcChoose_stands (runs : s.adc.self = true ∨ (s.adcx x).sys.isSome = true) : CalsStand x s (adcChoose s x) := by
  unfold adcChoose
  extract_lets s1 k1 s2 k2 ref mode
  have h1 : CalsStand x s s1 := ⟨ledgersTake_word, ledgersTake_cals⟩
  have h2 : CalsStand x s1 s2 := by
    simp only [s2]
    split
    · exact ⟨Stands.rfl.parts rfl, CalsKept.setAdc rfl rfl rfl rfl⟩
    · exact .refl
  have h := h1.trans h2
  have self : s2.adc.self = s.adc.self := h.2.self
  have sys : k2.sys = (s.adcx x).sys := (h.2.each x).2.2.2
  clear_value s2 k2
  split
  · exact h.begins
  · split
    · split
      · exact h.begins
      · exact h
    · next idle =>
      split
      · split
        · exact h.begins
        · exact h
      · next none =>
        rw [self] at idle
        rw [sys] at none
        simp [idle, none] at runs

theorem adcKick_stands (runs : s.adc.self = true ∨ (s.adcx x).sys.isSome = true) : CalsStand x s (adcKick s x) := by
  unfold adcKick
  split
  · exact adcChoose_stands runs
  · exact .refl

/-! ## The start of a self-calibration -/

/-- The converters with their self-calibrations at the start. -/
def AdcSt.started (a : AdcSt) : AdcSt := { a with self := true, x := a.x.map (fun c => { c with calN := 0, cal0 := 0, cal1 := 0 }) }

/-- The sums of a self-calibration begin at 0. -/
def sumsZero (s : State) : State := (({ s with adc := s.adc.started } : State).mark F.ADC_CAL_BUSY true).put F.ADC_CAL_ERR 0

theorem selfStart_eq : selfStart s = adcKicks (sumsZero s) := rfl

theorem sumsZero_each : (sumsZero s).adc.self = true ∧ ((sumsZero s).adcx y).calN = 0 ∧ ((sumsZero s).adcx y).cal0 = 0 ∧ ((sumsZero s).adcx y).cal1 = 0 := by
  refine ⟨rfl, ?_⟩
  have at_y : (sumsZero s).adcx y = nth (s.adc.x.map (fun c => { c with calN := 0, cal0 := 0, cal1 := 0 })) y AdcConv.reset := rfl
  rw [at_y]
  cases found : s.adc.x[y]? with
  | none => simp [nth, found, AdcConv.reset]
  | some c => simp [nth, found]

theorem selfStart_stands : Stands (· = A.ADC_CAL) (sumsZero s) (selfStart s) ∧ CalsKept (sumsZero s) (selfStart s) := by
  have first : CalsStand 0 (sumsZero s) (adcKick (sumsZero s) 0) := adcKick_stands (.inl rfl)
  have second : CalsStand 1 (adcKick (sumsZero s) 0) (adcKick (adcKick (sumsZero s) 0) 1) := adcKick_stands (.inl first.2.self)
  exact ⟨fun a m => (second.1 a (.inl m)).trans (first.1 a (.inl m)), first.2.trans second.2⟩

/-! ## A step of a system calibration -/

/-- The write names the entry. -/
def sysNamed (s : State) (x e : Nat) : State := s.put (F.ADC_x_SYSCTL_ENT x) e

theorem sysNamed_entry (small : e < 16) : (sysNamed s x e).get (F.ADC_x_SYSCTL_ENT x) = e :=
  get_put_val _ (show 4 + 4 ≤ 32 by decide) (show e < 2 ^ 4 by omega)

theorem sysctl_apart {f : Fld} (low : f.addr < 0x0B0800 ∨ A.ADC_x_SCALr x 0 ≤ f.addr) : (sysNamed s x e).get f = s.get f := by
  refine get_put_apart _ _ _ _ (show 4 + 4 ≤ 32 by decide) (.inl ?_)
  simp only [A.ADC_x_SYSCTL, A.ADC_x_SCALr] at low ⊢
  omega

theorem armedRules_named : armedRules (sysNamed s x e) = armedRules s := by
  have saf : ∀ f : Fld, f.addr = A.SAF_ARM ∨ f.addr = A.SAF_ST → (sysNamed s x e).flag f = s.flag f := fun f at_f => by
    refine flag_put_apart _ _ _ _ (show 4 + 4 ≤ 32 by decide) (.inl ?_)
    simp only [A.ADC_x_SYSCTL, A.SAF_ARM, A.SAF_ST] at at_f ⊢
    omega
  unfold armedRules State.armed
  rw [saf _ (.inl rfl), saf _ (.inr rfl)]

theorem sysRefusal_named : sysRefusal (sysNamed s x e) x = if armedRules s then 2 else if (s.adcx x).sys.isSome || s.adc.self then 3 else 0 := by
  rw [sysRefusal, armedRules_named]
  rfl

theorem sysWrite_eq (awake : s.awake = true) : sysWrite s x e n = sysStep (sysNamed s x e) x n := if_pos awake

/-- A refused step. -/
theorem sysStep_refused (refused : sysRefusal (sysNamed s x e) x = r) (some : r ≠ 0) (small : r < 16) (entry : e < 16) :
    sysStep (sysNamed s x e) x n = (sysNamed s x e).put (F.ADC_x_SYSCTL_ERR x) r ∧
    (OnlyRegs s ((sysNamed s x e).put (F.ADC_x_SYSCTL_ERR x) r) ∧ ((sysNamed s x e).put (F.ADC_x_SYSCTL_ERR x) r).get (F.ADC_x_SYSCTL_ERR x) = r ∧
      ((sysNamed s x e).put (F.ADC_x_SYSCTL_ERR x) r).get (F.ADC_x_SYSCTL_ENT x) = e ∧
      RegsKept s ((sysNamed s x e).put (F.ADC_x_SYSCTL_ERR x) r) [A.ADC_x_SYSCTL x]) := by
  refine ⟨?_, by simp [sysNamed], ?_, ?_, ?_⟩
  · unfold sysStep
    dsimp only
    rw [refused, if_pos some]
  · exact get_put_val _ (show 12 + 4 ≤ 32 by decide) (show r < 2 ^ 4 by omega)
  · exact (get_put_apart _ _ _ _ (show 12 + 4 ≤ 32 by decide) (.inr (.inl (show 4 + 4 ≤ 12 by decide)))).trans (sysNamed_entry entry)
  · exact ((put_kept _ _ _).trans (put_kept _ _ _)).mono (by simp)

/-- The measurement of a step as it begins, before the boundary. -/
def sysBegun (s : State) (x e n : Nat) : State :=
  (((sysNamed s x e).setAdc x { s.adcx x with sys := some (n, e, 0, 0) }).mark (F.ADC_x_SYSCTL_BUSY x) true).put (F.ADC_x_SYSCTL_ERR x) 0

theorem sysStep_measures (free : sysRefusal (sysNamed s x e) x = 0) (entry : e < 16) (measures : n ≠ 3) :
    sysStep (sysNamed s x e) x n = adcKick (sysBegun s x e n) x := by
  unfold sysStep
  dsimp only
  rw [free, if_neg (by simp), if_neg measures, sysNamed_entry entry]
  rfl

/-- ZERO and FULL begin their measurement. -/
theorem sysBegun_shows (inside : x < s.adc.x.length) (entry : e < 16) : ((adcKick (sysBegun s x e n) x).adcx x).sys = some (n, e, 0, 0) ∧
    (adcKick (sysBegun s x e n) x).flag (F.ADC_x_SYSCTL_BUSY x) = true ∧ (adcKick (sysBegun s x e n) x).get (F.ADC_x_SYSCTL_ERR x) = 0 ∧
    (adcKick (sysBegun s x e n) x).get (F.ADC_x_SYSCTL_ENT x) = e := by
  have step : ((sysBegun s x e n).adcx x).sys = some (n, e, 0, 0) := congrArg AdcConv.sys (adcx_setAdc (s := sysNamed s x e) inside)
  obtain ⟨words, cals⟩ := adcKick_stands (s := sysBegun s x e n) (x := x) (.inr (by rw [step]; rfl))
  refine ⟨((cals.each x).2.2.2).trans step, (words.flag (.inr rfl)).trans ?_, (words.get (.inr rfl)).trans ?_, (words.get (.inr rfl)).trans ?_⟩
  · exact (flag_put_apart _ _ _ _ (show 12 + 4 ≤ 32 by decide) (.inr (.inl (show 8 + 1 ≤ 12 by decide)))).trans
      (flag_mark_same _ _ _ (show 8 + 1 ≤ 32 by decide) rfl)
  · exact get_put_val _ (show 12 + 4 ≤ 32 by decide) (show 0 < 2 ^ 4 by decide)
  · exact (get_put_apart _ _ _ _ (show 12 + 4 ≤ 32 by decide) (.inr (.inl (show 4 + 4 ≤ 12 by decide)))).trans
      ((get_mark_apart _ _ _ _ (show 8 + 1 ≤ 32 by decide) (.inr (.inl (show 4 + 4 ≤ 8 by decide)))).trans (sysNamed_entry entry))

/-! ## The end of a step -/

/-- The end of a step in its register and its source. -/
def sysEnded (s : State) (x r : Nat) : State :=
  (((s.mark (F.ADC_x_SYSCTL_BUSY x) false).mark (F.ADC_x_SYSCTL_DONE x) true).put (F.ADC_x_SYSCTL_ERR x) r).event 83

/-- On a converter with no step in progress the end of one shows in its register alone. -/
theorem sysEnd_idle (inside : x < s.adc.x.length) (idle : (s.adcx x).sys = none) : sysEnd s x r = sysEnded s x r := by
  have same : ({ s.adcx x with sys := none } : AdcConv) = s.adcx x := by rw [← idle]
  unfold sysEnd
  rw [same, setAdc_adcx inside]
  rfl

theorem sysctl_source : A.ADC_x_SYSCTL x ∉ sourceRegs 83 := by
  simp only [sourceRegs, A.INT_SRCs, A.INT_Gg_EDGE_LO, A.INT_Gg_COAL_LO, A.ADC_x_SYSCTL, List.mem_cons, List.not_mem_nil, or_false]
  omega

theorem sysEnded_shows (small : r < 16) : OnlyRegs s (sysEnded s x r) ∧ (sysEnded s x r).get (F.ADC_x_SYSCTL_ERR x) = r ∧
    (sysEnded s x r).flag (F.ADC_x_SYSCTL_DONE x) = true ∧ EdgeTaken s (sysEnded s x r) 83 ∧
    RegsKept s (sysEnded s x r) (A.ADC_x_SYSCTL x :: sourceRegs 83) := by
  have pair : A.ADC_x_SYSCTL x ≠ A.INT_Gg_EDGE_LO (83 / 8) ∧ A.ADC_x_SYSCTL x ≠ A.INT_Gg_EDGE_LO (83 / 8) + 4 := by
    simp only [A.ADC_x_SYSCTL, A.INT_Gg_EDGE_LO]
    omega
  refine ⟨by simp [sysEnded], ?_, ?_, ?_, ?_⟩
  · exact (get_event_apart _ sysctl_source).trans (get_put_val _ (show 12 + 4 ≤ 32 by decide) (show r < 2 ^ 4 by omega))
  · exact (flag_event_apart _ sysctl_source).trans ((flag_put_apart _ _ _ _ (show 12 + 4 ≤ 32 by decide) (.inr (.inl (show 9 + 1 ≤ 12 by decide)))).trans
      (flag_mark_same _ _ _ (show 9 + 1 ≤ 32 by decide) rfl))
  · exact (edgeTaken_event).mpr ((pair_put_apart _ pair).trans ((pair_mark_apart _ pair).trans (pair_mark_apart _ pair)))
  · exact ((((mark_kept _ _ _).trans (mark_kept _ _ _)).trans (put_kept _ _ _)).trans (event_kept _ _)).mono (by simp)

/-! ## COMPUTE -/

/-- The gain of the spec's formula. -/
def sysGain (z f u0 u1 : Int) : Int := (2 * (2 ^ 18 * (f - z)) + (u1 - u0)) / (2 * (u1 - u0))

theorem roundQuot_gain {z f u0 u1 : Int} (wide : 1024 ≤ u1 - u0) : roundQuot (2 ^ 18 * (f - z)) (u1 - u0) = sysGain z f u0 u1 :=
  Int.fdiv_eq_ediv_of_nonneg _ (by omega)

theorem roundQuot_offset {z g : Int} (pos : 0x2000 ≤ g) : roundQuot (z * 2 ^ 18) g = (2 * (z * 2 ^ 18) + g) / (2 * g) :=
  Int.fdiv_eq_ediv_of_nonneg _ (by omega)

theorem fitsS_18 {v : Int} : fitsS 18 v = true ↔ -131072 ≤ v ∧ v ≤ 131071 := by
  unfold fitsS satS
  split
  · next h => simp at h ⊢; omega
  · split
    · next h k => simp at h k ⊢; omega
    · next h k => simp at h k ⊢; omega

theorem sysCompute_order {z f u0 u1 : Int} (hz : z = s.get (F.ADC_x_SYSCODE_Z x)) (hf : f = s.get (F.ADC_x_SYSCODE_F x)) (h0 : u0 = s.getI (F.ADC_x_SYSU0_U0 x))
    (h1 : u1 = s.getI (F.ADC_x_SYSU1_U1 x)) (bad : f ≤ z ∨ u1 - u0 < 1024) : sysCompute s x e = sysEnd s x 1 := by
  unfold sysCompute
  dsimp only
  rw [← hz, ← hf, ← h0, ← h1, if_pos bad]

theorem sysCompute_range {z f u0 u1 : Int} (hz : z = s.get (F.ADC_x_SYSCODE_Z x)) (hf : f = s.get (F.ADC_x_SYSCODE_F x)) (h0 : u0 = s.getI (F.ADC_x_SYSU0_U0 x))
    (h1 : u1 = s.getI (F.ADC_x_SYSU1_U1 x)) (rises : z < f) (wide : 1024 ≤ u1 - u0) (bad : sysGain z f u0 u1 < 0x2000 ∨ 0x10000 < sysGain z f u0 u1) :
    sysCompute s x e = sysEnd s x 1 := by
  unfold sysCompute
  dsimp only
  rw [← hz, ← hf, ← h0, ← h1, if_neg (by omega), roundQuot_gain wide, if_pos bad]

/-- A valid result in the entry's words; an offset that does not fit is free. -/
def sysValues (s : State) (x e : Nat) (g y : Int) : State :=
  if fitsS 18 y then (s.put (F.ADC_x_ENTe_YGAIN_YGAIN x e) g.toNat).putI (F.ADC_x_ENTe_YOFF_YOFF x e) y
  else ((s.put (F.ADC_x_ENTe_YGAIN_YGAIN x e) g.toNat).fresh (2 ^ 18)).2.put (F.ADC_x_ENTe_YOFF_YOFF x e)
    ((s.put (F.ADC_x_ENTe_YGAIN_YGAIN x e) g.toNat).fresh (2 ^ 18)).1

theorem sysCompute_valid {z f u0 u1 : Int} (hz : z = s.get (F.ADC_x_SYSCODE_Z x)) (hf : f = s.get (F.ADC_x_SYSCODE_F x)) (h0 : u0 = s.getI (F.ADC_x_SYSU0_U0 x))
    (h1 : u1 = s.getI (F.ADC_x_SYSU1_U1 x)) (rises : z < f) (wide : 1024 ≤ u1 - u0) (low : 0x2000 ≤ sysGain z f u0 u1)
    (high : sysGain z f u0 u1 ≤ 0x10000) : sysCompute s x e =
      sysEnd (sysValues s x e (sysGain z f u0 u1) (u0 - (2 * (z * 2 ^ 18) + sysGain z f u0 u1) / (2 * sysGain z f u0 u1))) x 0 := by
  unfold sysCompute
  dsimp only
  rw [← hz, ← hf, ← h0, ← h1, if_neg (by omega), roundQuot_gain wide, if_neg (by omega), roundQuot_offset low, sysValues]
  split <;> rfl

theorem sysValues_shows {g v : Int} (low : 0x2000 ≤ g) (high : g ≤ 0x10000) : ((sysValues s x e g v).get (F.ADC_x_ENTe_YGAIN_YGAIN x e) : Int) = g ∧
    (-131072 ≤ v → v ≤ 131071 → (sysValues s x e g v).getI (F.ADC_x_ENTe_YOFF_YOFF x e) = v ∧ (sysValues s x e g v).free = s.free) ∧
    sysValues s x e g v = { s with regs := (sysValues s x e g v).regs, free := (sysValues s x e g v).free } ∧
    RegsKept s (sysValues s x e g v) [A.ADC_x_ENTe_YGAIN x e, A.ADC_x_ENTe_YOFF x e] := by
  have apart : A.ADC_x_ENTe_YOFF x e ≠ A.ADC_x_ENTe_YGAIN x e := by
    simp only [A.ADC_x_ENTe_YOFF, A.ADC_x_ENTe_YGAIN]
    omega
  have gain : ∀ t : State, t.regs = (s.put (F.ADC_x_ENTe_YGAIN_YGAIN x e) g.toNat).regs → ∀ n : Nat,
      ((t.put (F.ADC_x_ENTe_YOFF_YOFF x e) n).get (F.ADC_x_ENTe_YGAIN_YGAIN x e) : Int) = g := by
    intro t same n
    rw [get_put_apart _ _ _ _ (show 0 + 18 ≤ 32 by decide) (.inl apart)]
    have read : t.get (F.ADC_x_ENTe_YGAIN_YGAIN x e) = g.toNat := by
      rw [State.get, State.rd, same]
      exact get_put_val s (f := F.ADC_x_ENTe_YGAIN_YGAIN x e) (show 0 + 17 ≤ 32 by decide) (show g.toNat < 2 ^ 17 by omega)
    rw [read]
    omega
  have kept : ∀ t : State, t.regs = (s.put (F.ADC_x_ENTe_YGAIN_YGAIN x e) g.toNat).regs → ∀ n : Nat,
      RegsKept s (t.put (F.ADC_x_ENTe_YOFF_YOFF x e) n) [A.ADC_x_ENTe_YGAIN x e, A.ADC_x_ENTe_YOFF x e] := by
    intro t same n a out
    rw [put_kept t _ n a (by simp at out ⊢; exact out.2), State.rd, same]
    exact put_kept s (F.ADC_x_ENTe_YGAIN_YGAIN x e) g.toNat a (by simp at out ⊢; exact out.1)
  unfold sysValues
  split
  · next fits =>
    refine ⟨gain _ rfl _, fun below above => ⟨?_, rfl⟩, rfl, kept _ rfl _⟩
    exact getI_putI_same (show 0 + 18 ≤ 32 by decide) (show 0 < 18 by decide) (by simpa using below) (by simp; omega)
  · next wide =>
    exact ⟨gain _ rfl _, fun below above => absurd ((fitsS_18).mpr ⟨below, above⟩) wide, rfl, kept _ rfl _⟩

/-! ## The outcomes of the writes -/

/-- A write of COMPUTE whose values are not valid. -/
def ComputeRefused (x : Nat) (s t : State) : Prop := OnlyRegs s t ∧ t.get (F.ADC_x_SYSCTL_ERR x) = 1 ∧ t.flag (F.ADC_x_SYSCTL_DONE x) = true ∧
  EdgeTaken s t 83 ∧ RegsKept s t (A.ADC_x_SYSCTL x :: sourceRegs 83)

theorem named_edges : (sysNamed s x e).pair (A.INT_Gg_EDGE_LO (83 / 8)) = s.pair (A.INT_Gg_EDGE_LO (83 / 8)) := by
  refine pair_put_apart _ ?_
  simp only [A.ADC_x_SYSCTL, A.INT_Gg_EDGE_LO]
  omega

theorem EdgeTaken.from {k : Nat} (h : EdgeTaken t u k) (same : t.pair (A.INT_Gg_EDGE_LO (k / 8)) = s.pair (A.INT_Gg_EDGE_LO (k / 8))) : EdgeTaken s u k := by
  obtain ⟨pend, edges⟩ := h
  exact ⟨pend, by rw [edges, same]⟩

theorem computeRefused (h : sysCompute (sysNamed s x e) x e = sysEnd (sysNamed s x e) x 1) (inside : x < s.adc.x.length) (idle : (s.adcx x).sys = none) :
    ComputeRefused x s (sysCompute (sysNamed s x e) x e) := by
  rw [h, sysEnd_idle (s := sysNamed s x e) inside idle]
  obtain ⟨only, shown, done, edge, kept⟩ := sysEnded_shows (s := sysNamed s x e) (x := x) (r := 1) (by decide)
  refine ⟨(OnlyRegs.congr only).mpr (by simp [sysNamed]), shown, done, edge.from named_edges, ?_⟩
  exact ((put_kept s (F.ADC_x_SYSCTL_ENT x) e).trans kept).mono (by simp)

theorem sysStep_computes (free : sysRefusal (sysNamed s x e) x = 0) (entry : e < 16) :
    sysStep (sysNamed s x e) x 3 = sysCompute (sysNamed s x e) x e := by
  unfold sysStep
  dsimp only
  rw [free, if_neg (by simp), if_pos rfl, sysNamed_entry entry]

theorem only_free {a b c d : State} (h1 : b = { a with regs := b.regs }) (h2 : c = { b with regs := c.regs, free := c.free }) (h3 : OnlyRegs c d) :
    d = { a with regs := d.regs, free := d.free } := by
  unfold OnlyRegs at h3
  cases a; cases b; cases c; cases d
  simp_all

theorem computeStored {g v : Int} (inside : x < s.adc.x.length) (idle : (s.adcx x).sys = none) (low : 0x2000 ≤ g) (high : g ≤ 0x10000)
    (h : t = sysEnd (sysValues (sysNamed s x e) x e g v) x 0) : (t.get (F.ADC_x_ENTe_YGAIN_YGAIN x e) : Int) = g ∧
      (-131072 ≤ v → v ≤ 131071 → t.getI (F.ADC_x_ENTe_YOFF_YOFF x e) = v ∧ t.free = s.free) ∧
      t.get (F.ADC_x_SYSCTL_ERR x) = 0 ∧ t.flag (F.ADC_x_SYSCTL_DONE x) = true ∧ EdgeTaken s t 83 ∧
      t = { s with regs := t.regs, free := t.free } ∧
      RegsKept s t ([A.ADC_x_SYSCTL x, A.ADC_x_ENTe_YGAIN x e, A.ADC_x_ENTe_YOFF x e] ++ sourceRegs 83) := by
  obtain ⟨gain, offset, parts, values⟩ := sysValues_shows (s := sysNamed s x e) (x := x) (e := e) (v := v) low high
  have named : sysNamed s x e = { s with regs := (sysNamed s x e).regs } := rfl
  have start : RegsKept s (sysNamed s x e) [A.ADC_x_SYSCTL x] := put_kept _ _ _
  have edges := named_edges (s := s) (x := x) (e := e)
  have adc : (sysValues (sysNamed s x e) x e g v).adc = s.adc := by rw [parts]; rfl
  have free : (sysNamed s x e).free = s.free := rfl
  generalize sysNamed s x e = m at *
  generalize sysValues m x e g v = w at *
  have cals : w.adcx x = s.adcx x := by rw [State.adcx, adc, State.adcx]
  rw [sysEnd_idle (s := w) (by rw [adc]; exact inside) (by rw [cals]; exact idle)] at h
  obtain ⟨only, shown, done, edge, kept⟩ := sysEnded_shows (s := w) (x := x) (r := 0) (by decide)
  rw [← h] at only shown done edge kept
  have entry : ∀ a, A.ADC_x_ENTe_CFG x 0 ≤ a → t.rd a = w.rd a := fun a above => kept a (by
    simp only [sourceRegs, A.INT_SRCs, A.INT_Gg_EDGE_LO, A.INT_Gg_COAL_LO, A.ADC_x_SYSCTL, A.ADC_x_ENTe_CFG, List.mem_cons, List.not_mem_nil, or_false] at above ⊢
    omega)
  have chain := (start.trans values).trans kept
  have far : w.pair (A.INT_Gg_EDGE_LO (83 / 8)) = m.pair (A.INT_Gg_EDGE_LO (83 / 8)) := by
    refine values.pair ?_ ?_ <;> simp only [A.INT_Gg_EDGE_LO, A.ADC_x_ENTe_YGAIN, A.ADC_x_ENTe_YOFF, List.mem_cons, List.not_mem_nil, or_false] <;> omega
  have yoff : t.getI (F.ADC_x_ENTe_YOFF_YOFF x e) = w.getI (F.ADC_x_ENTe_YOFF_YOFF x e) :=
    congrArg (toSigned 18) (get_of_rd (f := F.ADC_x_ENTe_YOFF_YOFF x e) (entry _ (by simp only [A.ADC_x_ENTe_YOFF, A.ADC_x_ENTe_CFG]; omega)))
  have still : t.free = w.free := by rw [only]
  refine ⟨?_, fun below above => ?_, shown, done, edge.from (far.trans edges), only_free named parts only, chain.mono (by simp)⟩
  · rw [get_of_rd (f := F.ADC_x_ENTe_YGAIN_YGAIN x e) (entry _ (by simp only [A.ADC_x_ENTe_YGAIN, A.ADC_x_ENTe_CFG]; omega))]
    exact gain
  · obtain ⟨stored, same⟩ := offset below above
    exact ⟨yoff.trans stored, still.trans (same.trans free)⟩

/-! ## A write of SELF -/

theorem execSelf_awake (awake : s.awake = true) (idle : s.adc.self = false) : exec .self s = .next
    (if armedRules s then s.put F.ADC_CAL_ERR 3 else if !s.flag F.ADC_REF_REFOK then s.put F.ADC_CAL_ERR 1 else selfStart s) := by
  refine congrArg Host.Outcome.next ((if_pos awake).trans ?_)
  rw [adcSelf, idle, if_neg Bool.false_ne_true]

theorem selfRefused (small : r < 16) : OnlyRegs s (s.put F.ADC_CAL_ERR r) ∧ (s.put F.ADC_CAL_ERR r).get F.ADC_CAL_ERR = r ∧
    RegsKept s (s.put F.ADC_CAL_ERR r) [A.ADC_CAL] :=
  ⟨by simp, get_put_val _ (by decide) (show r < 2 ^ 4 by omega), put_kept _ _ _⟩

theorem selfStarted : (selfStart s).adc.self = true ∧ (selfStart s).flag F.ADC_CAL_BUSY = true ∧ (selfStart s).get F.ADC_CAL_ERR = 0 ∧
    ∀ y : Fin 2, ((selfStart s).adcx y).calN = 0 ∧ ((selfStart s).adcx y).cal0 = 0 ∧ ((selfStart s).adcx y).cal1 = 0 := by
  obtain ⟨words, cals⟩ := selfStart_stands (s := s)
  refine ⟨cals.self, (words.flag rfl).trans ?_, (words.get rfl).trans ?_, fun y => ?_⟩
  · exact (flag_put_apart _ _ _ _ (by decide) (.inr (.inl (by decide)))).trans (flag_mark_same _ _ _ (by decide) rfl)
  · exact get_put_val _ (by decide) (by decide)
  · obtain ⟨-, num, zero, full⟩ := sumsZero_each (s := s) (y := y)
    obtain ⟨num', zero', full', -⟩ := cals.each y
    exact ⟨num'.trans num, zero'.trans zero, full'.trans full⟩

end

end Sys2Proof.Machine

open Sys2Proof Sys2Proof.Machine

/-- Settles O48: a slot boundary leaves the calibrations as they are while one runs, and COMPUTE ends by its three cases. -/
theorem adcCalibration : Obligations.AdcCalibration := by
  intro s x e two
  have inside : x.val < s.adc.x.length := by rw [two]; exact x.isLt
  refine ⟨fun low => ?_, fun awake => ?_⟩
  · have off : ¬ s.awake = true := by simp [low]
    exact ⟨Gives.of_eq rfl (if_neg off) rfl, Gives.of_eq rfl (if_neg off) rfl, Gives.of_eq rfl (if_neg off) rfl, Gives.of_eq rfl (if_neg off) rfl⟩
  have armed : ∀ {n}, armedRules s = true → sysWrite s x e n = (sysNamed s x e).put (F.ADC_x_SYSCTL_ERR x) 2 ∧ _ := fun on =>
    (sysStep_refused (s := s) (x := x) (r := 2) (by rw [sysRefusal_named, if_pos on]) (by decide) (by decide) e.isLt).imp_left (sysWrite_eq awake).trans
  have busy : ∀ {n}, armedRules s = false → (s.adcx x).sys.isSome = true ∨ s.adc.self = true →
      sysWrite s x e n = (sysNamed s x e).put (F.ADC_x_SYSCTL_ERR x) 3 ∧ _ := fun off runs =>
    (sysStep_refused (s := s) (x := x) (r := 3) (by rw [sysRefusal_named, off, if_neg Bool.false_ne_true, if_pos (by simpa only [Bool.or_eq_true] using runs)])
      (by decide) (by decide) e.isLt).imp_left
      (sysWrite_eq awake).trans
  have free : armedRules s = false → (s.adcx x).sys = none → s.adc.self = false → sysRefusal (sysNamed s x e) x = 0 := fun off idle rest => by
    rw [sysRefusal_named, off, idle, rest]
    rfl
  have measures : ∀ {n}, n ≠ 3 → armedRules s = false → (s.adcx x).sys = none → s.adc.self = false →
      sysWrite s x e n = adcKick (sysBegun s x e n) x := fun other off idle rest =>
    (sysWrite_eq awake).trans (sysStep_measures (free off idle rest) e.isLt other)
  refine ⟨fun runs => ?_, fun idle on => ?_, fun idle off bad => ?_, fun idle off good => ?_, fun on => ?_, fun off runs => ?_, fun off idle rest => ?_,
    fun on => ?_, fun off runs => ?_, fun off idle rest => ?_, fun on => ?_, fun off runs => ?_, fun off idle rest => ?_⟩
  · exact Gives.of_eq rfl ((if_pos awake).trans (if_pos runs)) rfl
  · exact Gives.of_eq (execSelf_awake awake idle) (if_pos on) (selfRefused (by decide))
  · exact Gives.of_eq (execSelf_awake awake idle) ((if_neg (by simp [off])).trans (if_pos (by simp [bad]))) (selfRefused (by decide))
  · exact Gives.of_eq (execSelf_awake awake idle) ((if_neg (by simp [off])).trans (if_neg (by simp [good]))) selfStarted
  · exact Gives.of_eq rfl (armed on).1 (armed (n := 1) on).2
  · exact Gives.of_eq rfl (busy off runs).1 (busy (n := 1) off runs).2
  · exact Gives.of_eq rfl (measures (by decide) off idle rest) (sysBegun_shows inside e.isLt)
  · exact Gives.of_eq rfl (armed on).1 (armed (n := 2) on).2
  · exact Gives.of_eq rfl (busy off runs).1 (busy (n := 2) off runs).2
  · exact Gives.of_eq rfl (measures (by decide) off idle rest) (sysBegun_shows inside e.isLt)
  · exact Gives.of_eq rfl (armed on).1 (armed (n := 3) on).2
  · exact Gives.of_eq rfl (busy off runs).1 (busy (n := 3) off runs).2
  · have computes : sysWrite s x e 3 = sysCompute (sysNamed s x e) x e :=
      (sysWrite_eq awake).trans (sysStep_computes (free off idle rest) e.isLt)
    have code : ∀ f : Fld, A.ADC_x_SCALr x 0 ≤ f.addr → (sysNamed s x e).get f = s.get f := fun f high => sysctl_apart (.inr high)
    have zero : (sysNamed s x e).get (F.ADC_x_SYSCODE_Z x) = s.get (F.ADC_x_SYSCODE_Z x) := code _ (by simp only [A.ADC_x_SCALr, A.ADC_x_SYSCODE]; omega)
    have full : (sysNamed s x e).get (F.ADC_x_SYSCODE_F x) = s.get (F.ADC_x_SYSCODE_F x) := code _ (by simp only [A.ADC_x_SCALr, A.ADC_x_SYSCODE]; omega)
    have mean0 : (sysNamed s x e).getI (F.ADC_x_SYSU0_U0 x) = s.getI (F.ADC_x_SYSU0_U0 x) :=
      congrArg (toSigned 18) (code _ (by simp only [A.ADC_x_SCALr, A.ADC_x_SYSU0]; omega))
    have mean1 : (sysNamed s x e).getI (F.ADC_x_SYSU1_U1 x) = s.getI (F.ADC_x_SYSU1_U1 x) :=
      congrArg (toSigned 18) (code _ (by simp only [A.ADC_x_SCALr, A.ADC_x_SYSU1]; omega))
    refine ⟨fun bad => ?_, ?_, ?_⟩
    · exact Gives.of_eq rfl computes (computeRefused (sysCompute_order (by rw [zero]) (by rw [full]) mean0.symm mean1.symm (by omega)) inside idle)
    · rintro g z f u0 u1 hz hf h0 h1 rises wide rfl bad
      refine Gives.of_eq rfl computes (computeRefused (sysCompute_range ?_ ?_ ?_ ?_ rises wide bad) inside idle)
      · rw [hz, zero]
      · rw [hf, full]
      · rw [h0, mean0]
      · rw [h1, mean1]
    · rintro g y z f u0 u1 hz hf h0 h1 rises wide rfl low high rfl
      refine Gives.of_eq rfl computes (computeStored inside idle low high (sysCompute_valid ?_ ?_ ?_ ?_ rises wide low high))
      · rw [hz, zero]
      · rw [hf, full]
      · rw [h0, mean0]
      · rw [h1, mean1]
end

section
/-! PROOFS. A PMBus transaction whose end lets a clock plan go on (refutes O49). -/

namespace Sys2Proof.Machine

/-- In WATCH, a plan that raises the core clock waits for the read of STATUS_WORD that is on the bus. -/
def planAwaitsBus : State :=
  { watching with
    clk := { watching.clk with phase := .wait, planCls := 4, planM := 20, acks := [], bus := true }
    mon := { watching.mon with bus := [⟨true, PMB_STATUS, 0, 0⟩] } }

/-- The number of transactions that wait after a command. -/
def waitingAfter (c : Instr) (s : State) : Nat := match exec c s with | .next t => t.mon.bus.length | _ => 0

/-- The end of the read begins the plan's step 2, whose VOUT_COMMAND joins the bus. -/
theorem planAwaitsBus_commands : waitingAfter (.pmbusTransactionEnd 0 0) planAwaitsBus = 1 := by decide +kernel

end Sys2Proof.Machine

open Sys2Proof Sys2Proof.Machine

/-- Refutes O49, in its clause of a read of STATUS_WORD that ends: no transaction but those behind it is to wait then, and at
`planAwaitsBus` a clock plan waits for the bus (R52 step 1), whose next step commands the core rail's VMAX (R597). -/
theorem not_monitorRows : ¬ Obligations.MonitorRows := by
  intro holds
  obtain ⟨-, -, -, -, -, -, -, -, -, reads, -⟩ := holds planAwaitsBus (by decide +kernel) (by decide +kernel) (by decide +kernel)
  obtain ⟨t, ran, -, bus, -⟩ := reads 0 ⟨true, PMB_STATUS, 0, 0⟩ [] rfl rfl
  have commands := planAwaitsBus_commands
  rw [waitingAfter, ran] at commands
  exact absurd ((congrArg List.length bus).symm.trans commands) (by decide)
end
